-- ==== Sys2Proof/Word.lean ====
section
/-!
DEFINITION. The words of the block and their plainest arithmetic: register words, bytes, and the sparse
tables that memories, register files and per-instance records are kept in.
-/

namespace Sys2Proof

/-- A register word (R16: registers are 32 bits wide). -/
abbrev Word := BitVec 32

/-- One byte of a memory or of a payload. -/
abbrev Byte := BitVec 8

/-- A sparse table: pairs of a key and a value in rising key order.
An unlisted key reads as the table's default, and no pair holds that default (`Tbl.wf`). -/
abbrev Tbl (α : Type) := List (Nat × α)

end Sys2Proof
end

