-- ==== Sys2Proof/Syntax.lean ====
section
/-!
DEFINITION. The commands of the block: one constructor for each row of the opcode table, with the row's operands. A unit
instance is a `Fin`, a field of a block or register word a bit vector of its width, a payload a list of bytes; `dt` is
the number of fine counts that pass before the command acts.
-/

namespace Sys2Proof

/-- Who makes a register access (R411, R502): the helm program, the session on the PCIe mailbox (or the host with none
open), a datagram session by slot, or a unit-space DMA write (R432). -/
inductive Requester where
  | helm | mailbox | dgram (slot : Fin 4) | unit
  deriving DecidableEq, Repr

/-- What the read of one 64-byte burst meets (R166): the devices whose symbols come wrong, whether the data come from a wrong
address, and the device to which the code wrongly lays an error of two devices or more (with a probability below 2^-28). -/
structure BurstErr where
  devices : List (Fin 18)
  wrongAddr : Bool
  laidTo : Option (Fin 18)
  deriving DecidableEq, Repr

/-- What meets a frame start on its ring in the same fabric clock (R154): a write of FST_MARK_CMD, a rewind mark by an event,
a write of FST_SPAN_CMD with release span or with release all. -/
inductive RingOp where
  | mark (who : Requester) (v : BitVec 32)
  | markEvent (r : Fin 16)
  | release (who : Requester) (v : BitVec 32)
  | releaseAll (who : Requester) (v : BitVec 32)
  deriving DecidableEq, Repr

/-- What meets a mode request in its fabric clock (R517): GO of BOOT_COMMIT, which acts first, or a VDD_CORE warning at a
voltage in mV, which acts after it. -/
inductive ModeMet where
  | commit (who : Requester)
  | warning (mv : BitVec 16)
  deriving DecidableEq, Repr

/-- The status of a completion (R420, R423): Successful, Unsupported Request, Completer Abort. -/
inductive CplStatus where
  | successful | unsupported | abort
  deriving DecidableEq, Repr

/-- A received TLP that the endpoint discards (R420): a data link or flow control protocol error, a receiver overflow, a malformed
TLP, an ECRC error, an uncorrectable error of an endpoint buffer. -/
inductive TlpLoss where
  | dataLink | flowControl | overflow | malformed | ecrc | internal
  deriving DecidableEq, Repr

/-- A correctable error that a received TLP meets and survives (R420): at the receiver or in the TLP or DLLP, a replay that rolls
over or times out, a corrected error of an endpoint buffer. -/
inductive TlpNote where
  | receiver | badTlp | badDllp | rollover | replayTimer | corrected
  deriving DecidableEq, Repr

/-- How a TLP arrives: with its EP bit set, after a correctable error, or not at all. -/
inductive TlpCond where
  | clean | poisoned
  | noted (e : TlpNote)
  | lost (e : TlpLoss)
  deriving DecidableEq, Repr

/-- A received TLP: how it arrives, and the words of its header, which an error logs (R421). -/
structure Tlp where
  cond : TlpCond := .clean
  header : List (BitVec 32) := []
  deriving DecidableEq, Repr

/-- A fault of a spar (R215); a correctable error in its local memory does not stop it. -/
inductive SparCause where
  | dmUe | pmUe | lineParity | lockstep | correctable
  deriving DecidableEq, Repr

/-- A block received on a lane (R44, R45): header, 256 payload bits as they were on the line, where idle blocks came since the
last block given the last 58 line payload bits before this one, and whether the lane's elastic buffer overflows and loses the
block (R95). -/
structure LineBlock where
  hdr : BitVec 2
  pay : BitVec 256
  pre : Option (BitVec 58)
  lost : Bool := false
  deriving DecidableEq, Repr

/-- A packet of a port's byte stream whose header has a good HCRC (R97): INFO, PFLAGS bit 0, payload, PCRC, the ranges of
payload bytes that are erased as offset and length, and whether any byte came from a rebuilt block. -/
structure Packet where
  info : BitVec 16
  last : Bool
  payload : List (BitVec 8)
  pcrc : BitVec 32
  erased : List (Nat × Nat)
  rebuilt : Bool
  deriving DecidableEq, Repr

/-- The grandmaster data set that an Announce carries (R466). -/
structure PtpClock where
  priority1 : BitVec 8
  clockClass : BitVec 8
  accuracy : BitVec 8
  variance : BitVec 16
  priority2 : BitVec 8
  identity : BitVec 64
  deriving DecidableEq, Repr

/-- A PTP message on a 10GBASE-R port (R466): transport as TRANSPORT codes it, whether it is tagged or unicast, domainNumber,
the two-step flag, correctionField in 2^-16 ns, source and (in a response) requesting port identity, sequenceId,
logMessageInterval, the timestamp of its body, and for an Announce the grandmaster and stepsRemoved. -/
structure PtpMsg where
  transport : BitVec 2
  tagged : Bool
  unicast : Bool
  dom : BitVec 8
  twoStep : Bool
  corr : Int
  clock : BitVec 64
  port : BitVec 16
  seqId : BitVec 16
  logInt : Int
  sec : BitVec 48
  ns : BitVec 32
  reqClock : BitVec 64
  reqPort : BitVec 16
  gm : PtpClock
  steps : BitVec 16
  deriving DecidableEq, Repr

/-- What a flash port shows at reset release (R486): log2 of the density in bytes (0: no device or no answer of SFDP), whether
it reads in octal DTR or else in quad mode, whether reads fail DQS timing twice, and what a programmer has written since
the last reset, as offsets and bytes. -/
structure FlashPort where
  density : Fin 64
  octal : Bool
  quad : Bool
  readErr : Bool
  programmed : List (Nat × List (BitVec 8))
  deriving DecidableEq, Repr

/-- The kind of a DDR4 module (R136). -/
inductive DimmKind where
  | rdimm | lrdimm | other
  deriving DecidableEq, Repr

/-- What the slot of a DDR4 channel holds in LOAD (R136 to R138): the size of its module in GiB (0: no module), its grade as
GRADE codes it, ranks minus one, its kind, whether it is 72 bits wide with ECC, the width and the density in Gb of its
devices, whether it is 3DS, the SPD address pins' strap, whether the SPD answers and its base section keeps its CRC, whether
it trains. -/
structure Dimm where
  gib : Nat
  grade : BitVec 2
  ranks : BitVec 2
  kind : DimmKind
  ecc72 : Bool
  devWidth : Nat
  density : Nat
  stacked : Bool
  strap : BitVec 3
  answers : Bool
  crcOk : Bool
  trains : Bool
  deriving DecidableEq, Repr

/-- The commands and events of the opcode table. -/
inductive Instr where
  /-- REGISTER_WRITE (R17): A host, session or helm write to a register with no row of its own sets its RW fields,
  clears W1C bits or sets W1S bits as its access types state. -/
  | registerWrite (who : Requester) (addr : Nat) (v : BitVec 32) (tlp : Tlp)
  /-- READ_CLEAR (R17): A read of an RC field returns its value and clears it in the same access, carrying over a
  same-clock increment. -/
  | readClear (who : Requester) (addr : Nat) (tlp : Tlp)
  /-- SIGNAL_DETECT_QUALIFIED (R54): Signal detect held for 1.0 µs moves a lane from SIGNAL_WAIT to CDR_LOCK. -/
  | signalDetectQualified (n : Fin 64)
  /-- SIGNAL_LOST (R54): Signal detect deasserted for 1.0 µs sends a lane in bring-up back to SIGNAL_WAIT, or
  loses an UP lane. -/
  | signalLost (n : Fin 64)
  /-- CDR_LOCKED (R54): CDR lock completes and the lane goes to HUNT. -/
  | cdrLocked (n : Fin 64)
  /-- CDR_LOCK_TIMEOUT (R54): No CDR lock within 100 µs returns the lane to SIGNAL_WAIT and counts a lock loss. -/
  | cdrLockTimeout (n : Fin 64) (dt : Nat)
  /-- BLOCK_LOCK (R55): 64 consecutive valid headers at one offset give block lock and the lane goes to ALIGN. -/
  | blockLock (n : Fin 64)
  /-- HUNT_TIMEOUT (R54): No block lock within 2.0 µs returns the lane to CDR_LOCK. -/
  | huntTimeout (n : Fin 64) (dt : Nat)
  /-- LOCK_LOSS (R56): 16 invalid headers in 64 lose block lock and the lane. -/
  | lockLoss (n : Fin 64)
  /-- DATA_ROW (R73): A row of data blocks is settled by header majority, descrambled and appended to the port
  byte stream, with parity rebuild where set. -/
  | dataRow (p : Fin 64) (blocks : List LineBlock)
  /-- SKIP_BLOCK (R50): A received skip block is checked and used for polarity, lane order, deskew and striping
  mask, then deleted. -/
  | skipBlock (n : Fin 64) (slot : Nat) (blk : LineBlock)
  /-- STUFFED_BLOCK (R51): A stuffed block resets the scrambler state to its SEED and is counted. -/
  | stuffedBlock (n : Fin 64) (blk : LineBlock)
  /-- RESERVED_TYPE_BLOCK (R47): A control block of reserved or downstream-only type, or with failed CRC, is
  discarded and counted. -/
  | reservedTypeBlock (n : Fin 64) (blk : LineBlock)
  /-- TRAINING_REQUEST (R61): A REQUEST training block adjusts the Swista transmitter taps and is answered with
  STATUS. -/
  | trainingRequest (n : Fin 64) (blk : LineBlock)
  /-- TRAINING_STATUS (R61): A STATUS answers the outstanding request and records the far taps. -/
  | trainingStatus (n : Fin 64) (blk : LineBlock)
  /-- TRAINING_READY (R62): A READY from the far side, with the Swista's own READY sent, ends TRAIN. -/
  | trainingReady (n : Fin 64) (blk : LineBlock)
  /-- TRAINING_ABORT (R61): An ABORT sends the lane to FAILED. -/
  | trainingAbort (n : Fin 64) (blk : LineBlock)
  /-- TRAINING_REQUEST_REPEAT (R61): A request without STATUS after 4.0 µs is repeated, and after 4 repeats the
  lane fails. -/
  | trainingRequestRepeat (n : Fin 64) (dt : Nat)
  /-- EYE_MEASUREMENT (R62): An adaptive-script eye margin measurement completes and the script takes its next
  setting. -/
  | eyeMeasurement (n : Fin 64) (margin : Nat)
  /-- TRAIN_TIMEOUT (R62): Training longer than LNK_TRAIN.TIMEOUT sends the lane to FAILED. -/
  | trainTimeout (n : Fin 64) (dt : Nat)
  /-- SKIP_SEND (R49): After 1,024 slots the transmitter sends a skip block on every lane of the port. -/
  | skipSend (p : Fin 64) (dt : Nat)
  /-- PORT_DECIDE (R64): The port wait ends and the port comes up full, rebuilding, narrowed or stays down. -/
  | portDecide (p : Fin 64) (dt : Nat)
  /-- FAILED_TIMEOUT (R54): 10 ms after FAILED the lane returns to SIGNAL_WAIT. -/
  | failedTimeout (n : Fin 64) (dt : Nat)
  /-- ENTER_DOZE (R67): A camera ENTER_DOZE row is answered ACK or NAK, and after ACK the port dozes. -/
  | enterDoze (p : Fin 64) (blocks : List LineBlock)
  /-- WAKE_ROW (R68): The WAKE row of a doze exit realigns the port with held offsets and the lanes go UP. -/
  | wakeRow (p : Fin 64) (blocks : List LineBlock)
  /-- DOZE_EXIT_TIMEOUT (R68): Block lock or WAKE missing by 2.0 µs counts DOZE_SLOW and restarts bring-up. -/
  | dozeExitTimeout (p : Fin 64)
  /-- DEEP_ACK (R69): The camera ACK to ENTER_DEEP turns off the Swista transmitter and the lanes go DEEP. -/
  | deepAck (p : Fin 64) (blocks : List LineBlock)
  /-- DEEP_RETRY (R69): A NAK or silence is followed by a new ENTER_DEEP every 100 µs. -/
  | deepRetry (p : Fin 64) (dt : Nat)
  /-- DEEP_FORCE (R69): In IDLE the lanes are turned off without an answer after 1 ms. -/
  | deepForce (p : Fin 64) (dt : Nat)
  /-- DEEP_WAKE_ON_SIGNAL (R70): Outside IDLE with WAKE_ON_SIGNAL = 1, a camera starting to transmit starts a deep
  exit. -/
  | deepWakeOnSignal (n : Fin 64)
  /-- QUAD_PLL_LOCKED (R70): The quad PLL locks during deep exit and transmitters turn on idle. -/
  | quadPllLocked (q : Fin 16)
  /-- STRIPE_HOLD_END (R77): A held stripe with a parity mismatch is released as received or rebuilt after its
  8-row hold. -/
  | stripeHoldEnd (p : Fin 64)
  /-- SUSPECT_CLEAR (R76): 64 consecutive valid headers with checking parity end SUSPECT. -/
  | suspectClear (n : Fin 64)
  /-- RATE_REDUCE_TIMEOUT (R82): No restriping skip within 4 intervals repeats the rate-reduce message, and after
  8 the port goes down. -/
  | rateReduceTimeout (p : Fin 64) (dt : Nat)
  /-- LANE_ENABLE (R87): A write of LNK_CTRL.ENABLE lets a lane leave DISABLED or sends it to DISABLED at once
  with a port response. -/
  | laneEnable (who : Requester) (n : Fin 64) (on : Bool)
  /-- DEEP_REQ (R87): Setting DEEP_REQ requests deep outside IDLE, clearing it starts a deep exit. -/
  | deepReq (who : Requester) (n : Fin 64) (on : Bool)
  /-- RETRAIN (R87): The lane restarts bring-up from SIGNAL_WAIT, rebuilt in a parity port or lost otherwise. -/
  | retrain (who : Requester) (n : Fin 64)
  /-- PATTERN_CLEAR (R93): CLEAR zeroes LNK_BER_BITS and LNK_BER_ERRS. -/
  | patternClear (who : Requester) (n : Fin 64)
  /-- INJECT_SHOT (R94): SHOT injects one error burst when MODE = 0b01 in SERVICE. -/
  | injectShot (who : Requester) (n : Fin 64)
  /-- INJECT_BURST (R94): Every 2^RATE_EXP bits the injector inverts a burst in periodic mode. -/
  | injectBurst (n : Fin 64) (dt : Nat)
  /-- BER_BITS_LO_READ (R95): A read of LNK_BER_BITS_LO latches bits 47:32 into LNK_BER_BITS_HI. -/
  | berBitsLoRead (who : Requester) (n : Fin 64)
  /-- FRAME_START (R104): A FRAME_START packet closes any open frame, opens a new frame with a number, stamps it
  and gives it its legs. -/
  | frameStart (p : Fin 64) (dt : Nat) (aligned : Bool) (pkt : Packet) (slow : Bool) (meet : List RingOp)
  /-- LINE_DATA (R107): A LINE_DATA packet places frame bytes at OFFSET and forwards them to the legs. -/
  | lineData (p : Fin 64) (dt : Nat) (pkt : Packet) (full : Bool)
  /-- FRAME_END (R105): A FRAME_END with the open FRAME_SEQ closes the frame, else it is an orphan. -/
  | frameEnd (p : Fin 64) (dt : Nat) (pkt : Packet)
  /-- CLOSE_TIMEOUT (R105): No byte of an open frame for CLOSE_TIMEOUT closes it. -/
  | closeTimeout (p : Fin 64) (dt : Nat)
  /-- HCRC_FAIL (R99): A header failing HCRC is counted and the Swista hunts byte by byte for the next good
  header. -/
  | hcrcFail (p : Fin 64)
  /-- RESERVED_PACKET (R98): A packet of reserved type with good HCRC is skipped by LENGTH and counted. -/
  | reservedPacket (p : Fin 64) (length : BitVec 16)
  /-- CAMERA_STATUS (R109): A valid CAMERA_STATUS is stored in CAP_CAM_STAT0–3 and restarts the silence count. -/
  | cameraStatus (p : Fin 64) (dt : Nat) (pkt : Packet)
  /-- CAM_SILENT (R109): 100 ms without a valid status sets CAM_SILENT. -/
  | camSilent (p : Fin 64) (dt : Nat)
  /-- CONTROL_RESPONSE (R112): A CONTROL_RESPONSE completes its outstanding request into the mailbox, or is an
  orphan. -/
  | controlResponse (p : Fin 64) (pkt : Packet)
  /-- TRIGGER_ACK (R121): A TRIGGER_ACK answers a trigger block and counts refusals. -/
  | triggerAck (p : Fin 64) (seq code : BitVec 8)
  /-- TRIGGER_ACK_TIMEOUT (R121): No ACK within 10 µs counts CAP_CNT_TRIG_NOACK. -/
  | triggerAckTimeout (p : Fin 64) (dt : Nat) (seq : BitVec 8)
  /-- CTRL_GO (R113): GO in CAP_CTRL_CMD queues a control request to the port or sets PORT_DOWN. -/
  | ctrlGo (who : Requester) (box : Fin 2)
  /-- CONTROL_REQUEST_RETRY (R112): No response within 1.0 ms repeats the request, and after three repeats sets
  TIMEOUT. -/
  | controlRequestRetry (p : Fin 64) (dt : Nat)
  /-- SOFT (R134): A write of SOFT gives one software trigger cause to the port selector. -/
  | soft (who : Requester) (p : Fin 64)
  /-- SCAN_PATH_CAUSE (R116): The beam path position passing a multiple of CAP_PATH_PITCH gives a trigger cause. -/
  | scanPathCause (p : Fin 64) (dt : Nat)
  /-- TRIGGER_BLOCK_SEND (R119): A queued trigger block is sent at the next slot with the next TRIG_SEQ. -/
  | triggerBlockSend (p : Fin 64) (dt : Nat)
  /-- TRIGO_PULSE_END (R134): PIN_WIDTH after its edge a TRIGO pulse returns inactive. -/
  | trigoPulseEnd (pin : Fin 8) (dt : Nat)
  /-- COMPARE_ARM (R134): ARM, or the compare arm task, restarts an encoder compare unit at BASE. -/
  | compareArm (who : Requester) (n : Fin 16)
  /-- FRAME_NUM_LO_READ (R130): A read of CAP_FRAME_NUM_LO latches bits 47:32 into CAP_FRAME_NUM_HI. -/
  | frameNumLoRead (who : Requester) (p : Fin 64)
  /-- FST_MARK_GO (R180): GO in FST_MARK_CMD sets a rewind mark on the ring. -/
  | fstMarkGo (who : Requester) (v : BitVec 32)
  /-- MARK_SEARCH_DONE (R156): The index search for the first record ends and the span opens or extends with its
  notice. -/
  | markSearchDone (r : Fin 16) (dt : Nat)
  /-- SPAN_RELEASE (R160): FST_SPAN_CMD release span frees one span and sends RELEASED. -/
  | spanRelease (who : Requester) (v : BitVec 32)
  /-- SPAN_RELEASE_ALL (R160): FST_SPAN_CMD release all frees every span of the ring. -/
  | spanReleaseAll (who : Requester) (v : BitVec 32)
  /-- SPAN_HOLD_EXPIRY (R160): HOLD seconds after a span closes it is released and EXPIRED is sent. -/
  | spanHoldExpiry (r : Fin 16) (span : BitVec 12) (dt : Nat)
  /-- BAR2_READ (R142): A host read through BAR2 returns store data, copy data, or zero. -/
  | bar2Read (addr : Nat) (len : Nat) (errs : List (Nat × BurstErr)) (tlp : Tlp)
  /-- BAR2_WRITE (R142): A host write through BAR2 is stored where the region accepts host writes, otherwise
  ignored and counted. -/
  | bar2Write (addr : Nat) (data : List (BitVec 8)) (tlp : Tlp)
  /-- MP_UNIT_WRITE (R164): A melt-pool unit is appended to the log or test-capture part of the chosen channel. -/
  | mpUnitWrite (n : Fin 12) (dt : Nat) (wait : Nat)
  /-- REFRESH (R165): A channel refresh falls due and is issued, staggered across channels. -/
  | refresh (c : Fin 12) (dt : Nat) (len : Nat) (hot : Bool)
  /-- PATROL_SCRUB (R168): The scrubber reads the next burst, corrects and records any error. -/
  | patrolScrub (c : Fin 12) (dt : Nat) (err : Option BurstErr)
  /-- CE_LEAK (R169): Every LEAK interval the corrected-error bucket loses 1. -/
  | ceLeak (c : Fin 12) (dt : Nat)
  /-- MIGRATION_COPY (R172): The migration copies the next stripe into the reserve, paced by MIG_RATE. -/
  | migrationCopy (dt : Nat) (errs : List (Nat × BurstErr))
  /-- FORCE_WRAP (R174): A ring not wrapped FORCE_WRAP seconds after retiring began is wrapped at once. -/
  | forceWrap (r : Fin 16) (dt : Nat)
  /-- CHANNEL_RETIRED (R175): With all rings wrapped and migration complete, the channel is retired, powered off
  and served from the reserve. -/
  | channelRetired
  /-- TILE_DISPATCH (R193): A free slot is given the next tile by class priority and the spar state is set. -/
  | tileDispatch (m : Fin 16) (dt : Nat)
  /-- ADD (R202): Scalar add. -/
  | add (m : Fin 16) (e : Fin 66) (d a b : Fin 32)
  /-- SUB (R202): Scalar subtract. -/
  | sub (m : Fin 16) (e : Fin 66) (d a b : Fin 32)
  /-- AND (R202): Scalar bitwise and. -/
  | and (m : Fin 16) (e : Fin 66) (d a b : Fin 32)
  /-- OR (R202): Scalar bitwise or. -/
  | or (m : Fin 16) (e : Fin 66) (d a b : Fin 32)
  /-- XOR (R202): Scalar bitwise xor. -/
  | xor (m : Fin 16) (e : Fin 66) (d a b : Fin 32)
  /-- SHL (R202): Scalar shift left. -/
  | shl (m : Fin 16) (e : Fin 66) (d a b : Fin 32)
  /-- SHR (R202): Scalar logical shift right. -/
  | shr (m : Fin 16) (e : Fin 66) (d a b : Fin 32)
  /-- SAR (R202): Scalar arithmetic shift right. -/
  | sar (m : Fin 16) (e : Fin 66) (d a b : Fin 32)
  /-- MUL (R202): Low 32 bits of a product. -/
  | mul (m : Fin 16) (e : Fin 66) (d a b : Fin 32)
  /-- MULH (R202): High 32 bits of a signed product. -/
  | mulh (m : Fin 16) (e : Fin 66) (d a b : Fin 32)
  /-- MIN (R202): Signed minimum. -/
  | min (m : Fin 16) (e : Fin 66) (d a b : Fin 32)
  /-- MAX (R202): Signed maximum. -/
  | max (m : Fin 16) (e : Fin 66) (d a b : Fin 32)
  /-- SLT (R202): Signed set-less-than. -/
  | slt (m : Fin 16) (e : Fin 66) (d a b : Fin 32)
  /-- SLTU (R202): Unsigned set-less-than. -/
  | sltu (m : Fin 16) (e : Fin 66) (d a b : Fin 32)
  /-- DIV (R202): Signed divide, zero result and V on divide by zero. -/
  | div (m : Fin 16) (e : Fin 66) (d a b : Fin 32)
  /-- DIVU (R202): Unsigned divide. -/
  | divu (m : Fin 16) (e : Fin 66) (d a b : Fin 32)
  /-- ISQRT (R202): Integer square root. -/
  | isqrt (m : Fin 16) (e : Fin 66) (d a : Fin 32)
  /-- CMP (R202): Sets flags of a − b. -/
  | cmp (m : Fin 16) (e : Fin 66) (a b : Fin 32)
  /-- MFS (R202): Reads a special value, clearing SAT when it reads SAT. -/
  | mfs (m : Fin 16) (e : Fin 66) (d : Fin 32) (sp : BitVec 5)
  /-- ADDI (R202): Scalar add immediate. -/
  | addi (m : Fin 16) (e : Fin 66) (d a : Fin 32) (imm : BitVec 16)
  /-- ANDI (R202): And with zero-extended immediate. -/
  | andi (m : Fin 16) (e : Fin 66) (d a : Fin 32) (imm : BitVec 16)
  /-- ORI (R202): Or with zero-extended immediate. -/
  | ori (m : Fin 16) (e : Fin 66) (d a : Fin 32) (imm : BitVec 16)
  /-- XORI (R202): Xor with zero-extended immediate. -/
  | xori (m : Fin 16) (e : Fin 66) (d a : Fin 32) (imm : BitVec 16)
  /-- LUI (R202): Load upper immediate. -/
  | lui (m : Fin 16) (e : Fin 66) (d : Fin 32) (imm : BitVec 16)
  /-- SHLI (R202): Shift left by immediate. -/
  | shli (m : Fin 16) (e : Fin 66) (d a : Fin 32) (imm : BitVec 16)
  /-- SHRI (R202): Logical shift right by immediate. -/
  | shri (m : Fin 16) (e : Fin 66) (d a : Fin 32) (imm : BitVec 16)
  /-- SARI (R202): Arithmetic shift right by immediate. -/
  | sari (m : Fin 16) (e : Fin 66) (d a : Fin 32) (imm : BitVec 16)
  /-- CMPI (R202): Sets flags of a − immediate. -/
  | cmpi (m : Fin 16) (e : Fin 66) (a : Fin 32) (imm : BitVec 16)
  /-- LDW (R203): Load word from local memory. -/
  | ldw (m : Fin 16) (e : Fin 66) (d a : Fin 32) (imm : BitVec 16)
  /-- LDH (R203): Load sign-extended halfword. -/
  | ldh (m : Fin 16) (e : Fin 66) (d a : Fin 32) (imm : BitVec 16)
  /-- LDHU (R203): Load zero-extended halfword. -/
  | ldhu (m : Fin 16) (e : Fin 66) (d a : Fin 32) (imm : BitVec 16)
  /-- STW (R203): Store word to scratch. -/
  | stw (m : Fin 16) (e : Fin 66) (d a : Fin 32) (imm : BitVec 16)
  /-- STH (R203): Store halfword to scratch. -/
  | sth (m : Fin 16) (e : Fin 66) (d a : Fin 32) (imm : BitVec 16)
  /-- VLD (R203): Load 64 bytes into a vector register. -/
  | vld (m : Fin 16) (e : Fin 66) (d a : Fin 32) (imm : BitVec 16)
  /-- VST (R203): Store a vector register to 64 bytes. -/
  | vst (m : Fin 16) (e : Fin 66) (d a : Fin 32) (imm : BitVec 16)
  /-- VLUT (R203): Per-lane table lookup of halfwords. -/
  | vlut (m : Fin 16) (e : Fin 66) (d a b : Fin 32) (mk : Fin 8)
  /-- B (R203): Conditional branch. -/
  | b (m : Fin 16) (e : Fin 66) (cond : BitVec 4) (ofs : BitVec 22)
  /-- CALL (R203): Call with return address in s31. -/
  | call (m : Fin 16) (e : Fin 66) (cond : BitVec 4) (ofs : BitVec 22)
  /-- RET (R203): Return to s31. -/
  | ret (m : Fin 16) (e : Fin 66)
  /-- LOOP (R203): Zero-overhead loop over the next instructions. -/
  | loop (m : Fin 16) (e : Fin 66) (a : Fin 32) (imm : BitVec 16)
  /-- COMMIT (R212): Ends the tile COMMITTED and sends staged bytes to the selected destinations. -/
  | commit (m : Fin 16) (e : Fin 66) (a : Fin 32) (imm : BitVec 16) (fault : Option SparCause)
  /-- ABORT (R203): Ends the tile ABANDONED without output. -/
  | abort (m : Fin 16) (e : Fin 66)
  /-- VADD (R204): Vector add modulo 2^16. -/
  | vadd (m : Fin 16) (e : Fin 66) (d a b : Fin 32) (mk : Fin 8)
  /-- VSUB (R204): Vector subtract modulo 2^16. -/
  | vsub (m : Fin 16) (e : Fin 66) (d a b : Fin 32) (mk : Fin 8)
  /-- VADDS (R204): Signed saturating vector add. -/
  | vadds (m : Fin 16) (e : Fin 66) (d a b : Fin 32) (mk : Fin 8)
  /-- VSUBS (R204): Signed saturating vector subtract. -/
  | vsubs (m : Fin 16) (e : Fin 66) (d a b : Fin 32) (mk : Fin 8)
  /-- VADDUS (R204): Unsigned saturating vector add. -/
  | vaddus (m : Fin 16) (e : Fin 66) (d a b : Fin 32) (mk : Fin 8)
  /-- VSUBUS (R204): Unsigned saturating vector subtract. -/
  | vsubus (m : Fin 16) (e : Fin 66) (d a b : Fin 32) (mk : Fin 8)
  /-- VMUL (R204): Low 16 bits of lane products. -/
  | vmul (m : Fin 16) (e : Fin 66) (d a b : Fin 32) (mk : Fin 8)
  /-- VMULQ (R204): Rounded saturating Q1.15 multiply. -/
  | vmulq (m : Fin 16) (e : Fin 66) (d a b : Fin 32) (mk : Fin 8)
  /-- VMIN (R204): Signed lane minimum. -/
  | vmin (m : Fin 16) (e : Fin 66) (d a b : Fin 32) (mk : Fin 8)
  /-- VMAX (R204): Signed lane maximum. -/
  | vmax (m : Fin 16) (e : Fin 66) (d a b : Fin 32) (mk : Fin 8)
  /-- VMINU (R204): Unsigned lane minimum. -/
  | vminu (m : Fin 16) (e : Fin 66) (d a b : Fin 32) (mk : Fin 8)
  /-- VMAXU (R204): Unsigned lane maximum. -/
  | vmaxu (m : Fin 16) (e : Fin 66) (d a b : Fin 32) (mk : Fin 8)
  /-- VAND (R204): Vector bitwise and. -/
  | vand (m : Fin 16) (e : Fin 66) (d a b : Fin 32) (mk : Fin 8)
  /-- VOR (R204): Vector bitwise or. -/
  | vor (m : Fin 16) (e : Fin 66) (d a b : Fin 32) (mk : Fin 8)
  /-- VXOR (R204): Vector bitwise xor. -/
  | vxor (m : Fin 16) (e : Fin 66) (d a b : Fin 32) (mk : Fin 8)
  /-- VABSDU (R204): Unsigned absolute difference. -/
  | vabsdu (m : Fin 16) (e : Fin 66) (d a b : Fin 32) (mk : Fin 8)
  /-- VSHL (R204): Vector shift left. -/
  | vshl (m : Fin 16) (e : Fin 66) (d a b : Fin 32) (mk : Fin 8)
  /-- VSHR (R204): Vector logical shift right. -/
  | vshr (m : Fin 16) (e : Fin 66) (d a b : Fin 32) (mk : Fin 8)
  /-- VSAR (R204): Vector arithmetic shift right. -/
  | vsar (m : Fin 16) (e : Fin 66) (d a b : Fin 32) (mk : Fin 8)
  /-- VSEL (R204): Lane select by mask. -/
  | vsel (m : Fin 16) (e : Fin 66) (d a b : Fin 32) (mk : Fin 8)
  /-- VSPLAT (R204): Broadcast a scalar to lanes. -/
  | vsplat (m : Fin 16) (e : Fin 66) (d a : Fin 32) (mk : Fin 8)
  /-- VMULW (R204): Signed widening multiply into a pair. -/
  | vmulw (m : Fin 16) (e : Fin 66) (d a b : Fin 32) (mk : Fin 8)
  /-- VMULWU (R204): Unsigned widening multiply into a pair. -/
  | vmulwu (m : Fin 16) (e : Fin 66) (d a b : Fin 32) (mk : Fin 8)
  /-- VACCWU (R204): Add zero-extended lanes to a pair. -/
  | vaccwu (m : Fin 16) (e : Fin 66) (d a : Fin 32) (mk : Fin 8)
  /-- VNARROW (R204): Signed rounding narrow of a pair. -/
  | vnarrow (m : Fin 16) (e : Fin 66) (d a b : Fin 32) (mk : Fin 8)
  /-- VNARROWU (R204): Unsigned rounding narrow of a pair. -/
  | vnarrowu (m : Fin 16) (e : Fin 66) (d a b : Fin 32) (mk : Fin 8)
  /-- VMAC (R204): Signed multiply-accumulate into an accumulator. -/
  | vmac (m : Fin 16) (e : Fin 66) (d a b : Fin 32) (mk : Fin 8)
  /-- VMACU (R204): Unsigned multiply-accumulate into an accumulator. -/
  | vmacu (m : Fin 16) (e : Fin 66) (d a b : Fin 32) (mk : Fin 8)
  /-- VACCR (R204): Rounded saturating read of an accumulator. -/
  | vaccr (m : Fin 16) (e : Fin 66) (d a b : Fin 32) (mk : Fin 8)
  /-- VACCZ (R204): Clears an accumulator. -/
  | vaccz (m : Fin 16) (e : Fin 66) (d : Fin 32) (mk : Fin 8)
  /-- VCMPEQ (R204): Lane equality into a mask. -/
  | vcmpeq (m : Fin 16) (e : Fin 66) (d : Fin 8) (a b : Fin 32) (mk : Fin 8)
  /-- VCMPGT (R204): Signed greater-than into a mask. -/
  | vcmpgt (m : Fin 16) (e : Fin 66) (d : Fin 8) (a b : Fin 32) (mk : Fin 8)
  /-- VCMPGTU (R204): Unsigned greater-than into a mask. -/
  | vcmpgtu (m : Fin 16) (e : Fin 66) (d : Fin 8) (a b : Fin 32) (mk : Fin 8)
  /-- VCMPGEU (R204): Unsigned greater-or-equal into a mask. -/
  | vcmpgeu (m : Fin 16) (e : Fin 66) (d : Fin 8) (a b : Fin 32) (mk : Fin 8)
  /-- VRSUM (R204): Signed sum of lanes. -/
  | vrsum (m : Fin 16) (e : Fin 66) (d a : Fin 32) (mk : Fin 8)
  /-- VRSUMU (R204): Unsigned sum of lanes. -/
  | vrsumu (m : Fin 16) (e : Fin 66) (d a : Fin 32) (mk : Fin 8)
  /-- VRMAXU (R204): Unsigned maximum of lanes. -/
  | vrmaxu (m : Fin 16) (e : Fin 66) (d a : Fin 32) (mk : Fin 8)
  /-- VRMAXI (R204): Lowest lane holding the maximum. -/
  | vrmaxi (m : Fin 16) (e : Fin 66) (d a : Fin 32) (mk : Fin 8)
  /-- VEXT (R204): Extract 32 lanes from a 64-lane concatenation. -/
  | vext (m : Fin 16) (e : Fin 66) (k d a b : Fin 32) (mk : Fin 8)
  /-- MAND (R205): Mask and. -/
  | mand (m : Fin 16) (e : Fin 66) (d a b : Fin 8)
  /-- MOR (R205): Mask or. -/
  | mor (m : Fin 16) (e : Fin 66) (d a b : Fin 8)
  /-- MXOR (R205): Mask xor. -/
  | mxor (m : Fin 16) (e : Fin 66) (d a b : Fin 8)
  /-- MNOT (R205): Mask complement. -/
  | mnot (m : Fin 16) (e : Fin 66) (d a : Fin 8)
  /-- MTOS (R205): Mask to scalar. -/
  | mtos (m : Fin 16) (e : Fin 66) (d : Fin 32) (a : Fin 8)
  /-- STOM (R205): Scalar to mask. -/
  | stom (m : Fin 16) (e : Fin 66) (d : Fin 8) (a : Fin 32)
  /-- MPOP (R205): Population count of a mask. -/
  | mpop (m : Fin 16) (e : Fin 66) (d : Fin 32) (a : Fin 8)
  /-- SRD (R205): Reads the next 32 unpacked pixels, waiting for pixels not yet arrived. -/
  | srd (m : Fin 16) (e : Fin 66) (d : Fin 32) (ue : List Nat)
  /-- SRDR (R205): Reads the next 64 raw input bytes. -/
  | srdr (m : Fin 16) (e : Fin 66) (d : Fin 32) (ue : List Nat)
  /-- SSEEK (R205): Sets the stream position. -/
  | sseek (m : Fin 16) (e : Fin 66) (a b : Fin 32)
  /-- SWR (R205): Writes a vector into output staging. -/
  | swr (m : Fin 16) (e : Fin 66) (a b : Fin 32)
  /-- SWRS (R205): Writes a scalar word into output staging. -/
  | swrs (m : Fin 16) (e : Fin 66) (a b : Fin 32)
  /-- STD (R210): Reads a tile descriptor word, stalling on word 8 until frame close. -/
  | std (m : Fin 16) (e : Fin 66) (d a : Fin 32)
  /-- HIST (R207): Adds lanes into histogram bins. -/
  | hist (m : Fin 16) (e : Fin 66) (a b : Fin 32) (mk : Fin 8)
  /-- HRD (R207): Reads 32 histogram bins. -/
  | hrd (m : Fin 16) (e : Fin 66) (d a : Fin 32)
  /-- LCFG (R208): Configures the run labeller. -/
  | lcfg (m : Fin 16) (e : Fin 66) (a : Fin 32)
  /-- LAB (R208): Feeds a line segment to the labeller. -/
  | lab (m : Fin 16) (e : Fin 66) (a b : Fin 32) (mk : Fin 8)
  /-- LEOL (R208): Closes a labeller line. -/
  | leol (m : Fin 16) (e : Fin 66)
  /-- LRD (R208): Reads a label statistic. -/
  | lrd (m : Fin 16) (e : Fin 66) (d a b : Fin 32)
  /-- MCFG (R209): Sets the moment unit offset. -/
  | mcfg (m : Fin 16) (e : Fin 66) (a : Fin 32)
  /-- MOM (R209): Accumulates weighted moments of lanes. -/
  | mom (m : Fin 16) (e : Fin 66) (a b : Fin 32) (mk : Fin 8)
  /-- MRD (R209): Reads a moment sum word. -/
  | mrd (m : Fin 16) (e : Fin 66) (d b : Fin 32)
  /-- SPAR_FAULT (R216): A spar fault stops the spar, retires it and re-runs the tile on a spare. -/
  | sparFault (m : Fin 16) (e : Fin 66) (cause : SparCause) (also : Option (Fin 66 × SparCause))
  /-- WATCHDOG_EXPIRY (R217): A tile exceeding its class watchdog suspends the spar and is re-run, or abandoned on
  a second expiry. -/
  | watchdogExpiry (m : Fin 16) (e : Fin 66) (dt : Nat) (commit : Bool)
  /-- SPARE_SELFTEST (R220): Once a second a spare starts its 60 µs self-test. -/
  | spareSelftest (m : Fin 16) (e : Fin 66) (dt : Nat)
  /-- SELFTEST_END (R220): A spare self-test ends, retiring the spare on failure. -/
  | selftestEnd (m : Fin 16) (e : Fin 66) (pass : Bool) (dt : Nat)
  /-- SHM_SCRUB (R185): The shared-memory scrubber reads the next line and corrects single-bit errors. -/
  | shmScrub (m : Fin 16) (line : Fin 32768) (corrected : Nat)
  /-- MAST_RELOAD (R222): Once earlier tiles are final, all 66 engines load the committed program and constants. -/
  | mastReload (m : Fin 16) (dt : Nat)
  /-- FAULT0_READ (R221): A read of MST_FAULT0 removes the oldest fault entry and latches its frame number. -/
  | fault0Read (who : Requester) (m : Fin 16)
  /-- SHEET_RECORD (R235): A record on the sheet-unit link is checked and queued, or discarded or refused. -/
  | sheetRecord (n : Fin 12) (mast : Fin 16) (stream : Fin 8) (record : List (BitVec 8)) (log : Bool)
  /-- EVALUATION (R252): A record leaves the input queue and is evaluated through stages 1–8 in 100 fabric clocks. -/
  | evaluation (n : Fin 12) (dt : Nat)
  /-- MISS_TIMER (R254): The miss timer expires, counting a missed sample and moving CLOSED to HOLD or HOLD to
  FALLBACK. -/
  | missTimer (n : Fin 12) (dt : Nat)
  /-- SHT_START (R262): START begins a tuning run or sets TUNE_REFUSED. -/
  | shtStart (who : Requester) (n : Fin 12)
  /-- SHT_STOP (R260): STOP ends the tuning run. -/
  | shtStop (who : Requester) (n : Fin 12)
  /-- RESET_STATE (R264): In OPEN, zeroes the integrator and filter states. -/
  | resetState (who : Requester) (n : Fin 12)
  /-- DAC_UPDATE (R268): Every 120 ns the DAC latches the ready code and the application is reported to the sheet
  unit. -/
  | dacUpdate (n : Fin 12) (dt : Nat)
  /-- MODULATION_PERIOD (R275): A modulation period starts and its pulse on-time is worked out. -/
  | modulationPeriod (n : Fin 12) (dt : Nat)
  /-- DIGITAL_WORD (R278): A new or repeated power word is sent on DPWR when the line is free. -/
  | digitalWord (n : Fin 12) (dt : Nat)
  /-- TRACKING_UPDATE (R281): Every 1 µs the tracking loop updates p_hat and v_hat. -/
  | trackingUpdate (n : Fin 12) (dt : Nat)
  /-- PACED_PULSE (R282): p(t) crossing a pulse position fires a MODn pulse or skips it. -/
  | pacedPulse (n : Fin 12) (dt : Nat)
  /-- PULSE_END (R282): A paced pulse ends after PULSE_W fine counts. -/
  | pulseEnd (n : Fin 12) (dt : Nat)
  /-- EMIT_ON (R285): EMITn rises at the mark start plus ON_DLY. -/
  | emitOn (n : Fin 12) (dt : Nat)
  /-- EMIT_OFF (R285): EMITn falls at the mark end plus OFF_DLY. -/
  | emitOff (n : Fin 12) (dt : Nat)
  /-- ROTATION_DECIDE (R286): The group arbiter grants pending turn-on requests in order. -/
  | rotationDecide (g : Fin 4) (dt : Nat)
  /-- BEAM_PERMIT_CHANGE (R289): A BEAM_PERMIT channel change updates PERMIT, closes gates and may move BUILD to
  ACQUIRE. -/
  | beamPermitChange (a : Bool) (b : Bool)
  /-- PERMIT_DISAGREE (R289): A and B disagreeing longer than DISC_TIME latches PERMIT_FAULT. -/
  | permitDisagree (dt : Nat)
  /-- PERMIT_FAULT_CLEAR (R289): A W1C write clears PERMIT_FAULT only while both channels read deasserted. -/
  | permitFaultClear (who : Requester)
  /-- BREFL (R290): Back-reflection asserted closes the gate and latches BREFL_CUT. -/
  | brefl (n : Fin 12) (pin : Bool)
  /-- ALARM (R290): Laser alarm asserted closes the gate and latches ALARM_CUT. -/
  | alarm (n : Fin 12) (pin : Bool)
  /-- READY_LOST (R290): READYn deasserted while emitting closes the gate and latches READY_LOST. -/
  | readyLost (n : Fin 12) (pin : Bool)
  /-- WD_ON_TIME (R292): EMITn asserted longer than MAX_ON cuts the beam. -/
  | wdOnTime (n : Fin 12) (dt : Nat)
  /-- WD_DWELL (R292): Slow speed with high power longer than T_DWELL cuts the beam. -/
  | wdDwell (n : Fin 12) (dt : Nat)
  /-- WD_METER (R292): Emission longer than METER_MAX_ON in a meter record cuts the beam. -/
  | wdMeter (n : Fin 12) (dt : Nat)
  /-- WD_NO_COPY (R292): A missing copy for 10 µs with substitutes meeting a condition cuts the beam. -/
  | wdNoCopy (n : Fin 12) (dt : Nat)
  /-- CUT_CLEAR (R293): A W1C write to a cut bit clears it unless the cause persists or EMITn is requested. -/
  | cutClear (who : Requester) (n : Fin 12) (bits : BitVec 7)
  /-- METER_READING (R294): At the end of a METER record the meter average stages a new gain or sets METER_FAULT. -/
  | meterReading (n : Fin 12) (adc : BitVec 16)
  /-- JUMP_RECORD (R306): A JUMP record plans a dark trapezoidal move. -/
  | jumpRecord (n : Fin 12) (x : BitVec 32) (y : BitVec 32) (z : BitVec 16)
  /-- MARK_RECORD (R306): A MARK record plans an emitting straight move at the mark speed. -/
  | markRecord (n : Fin 12) (x : BitVec 32) (y : BitVec 32) (z : BitVec 16)
  /-- ARC_RECORD (R306): An ARC record plans a move about a centre through SWEEP. -/
  | arcRecord (n : Fin 12) (dark : Bool) (z : BitVec 16) (cx : BitVec 32) (cy : BitVec 32) (sweep : BitVec 32)
  /-- SPEED_RECORD (R306): A SPEED record sets V_MARK and V_JUMP. -/
  | speedRecord (n : Fin 12) (vMark : BitVec 32) (vJump : BitVec 32)
  /-- POWER_RECORD (R306): A POWER record sets P_prog and the open-loop selection. -/
  | powerRecord (n : Fin 12) (openLoop : Bool) (p : BitVec 16)
  /-- PROFILE_RECORD (R306): A PROFILE record selects the profile table. -/
  | profileRecord (n : Fin 12) (profile : BitVec 3)
  /-- WAIT_RECORD (R317): A WAIT record waits at rest for its wait task or consumes a pending event. -/
  | waitRecord (n : Fin 12) (w : Fin 4) (timeout : BitVec 32)
  /-- DWELL_RECORD (R317): A DWELL record waits dark at rest. -/
  | dwellRecord (n : Fin 12) (us : BitVec 32)
  /-- METER_RECORD (R317): A METER record emits c_m at rest with METER = 1 for DURATION. -/
  | meterRecord (n : Fin 12) (input : Fin 4) (profile : BitVec 3) (cm : BitVec 16) (us : BitVec 32)
  /-- EVENT_RECORD (R306): An EVENT record publishes CODE on the interpreter producer. -/
  | eventRecord (n : Fin 12) (code : BitVec 8)
  /-- LINK_RECORD (R306): A LINK record continues execution at TARGET. -/
  | linkRecord (n : Fin 12) (target : BitVec 32)
  /-- LAYER_END (R341): An interpreter completes its motion and waits at the layer barrier. -/
  | layerEnd (n : Fin 12)
  /-- END_RECORD (R306): An END record sends the interpreter to DONE. -/
  | endRecord (n : Fin 12)
  /-- BAD_RECORD (R307): An invalid record halts the interpreter cleanly with BAD_RECORD. -/
  | badRecord (n : Fin 12) (type : BitVec 8)
  /-- BLOCK_FETCH (R309): A 4 KiB build-store block read ahead completes, halting with DATA_ERR if poisoned. -/
  | blockFetch (n : Fin 12) (block : Nat) (errs : List (Nat × BurstErr))
  /-- STREAM_WINDOW_WRITE (R310): A write to a stream window appends a record at its fourth word or overflows. -/
  | streamWindowWrite (who : Requester) (n : Fin 12) (v : BitVec 32)
  /-- LATE_DATA (R313): The planner horizon falling below 50 µs pauses in a chain or holds outside one. -/
  | lateData (n : Fin 12) (dt : Nat)
  /-- SHROUD_FRAME_SEND (R318): Every 125 Shroud clocks a downstream frame carries the head command. -/
  | shroudFrameSend (n : Fin 12) (dt : Nat)
  /-- SHROUD_FRAME_RECEIVED (R325): An upstream frame gives p_m, position, temperature and status, or is
  discarded. -/
  | shroudFrameReceived (n : Fin 12) (dt : Nat) (groups : List (BitVec 5))
  /-- SHROUD_LOST (R322): No good upstream frame for LOST_TIME clears LINK_UP and hard-halts the interpreter. -/
  | shroudLost (n : Fin 12) (dt : Nat)
  /-- CLEARANCE_CHECK (R330): Every microsecond the checker compares beam pairs and pauses or releases beams. -/
  | clearanceCheck (dt : Nat)
  /-- RAMP_OFF_END (R335): The ramp-off reaches S + L_RAMP and deceleration begins. -/
  | rampOffEnd (n : Fin 12) (dt : Nat)
  /-- DECEL_END (R335): The head reaches rest and the pause is PARKED. -/
  | decelEnd (n : Fin 12) (dt : Nat)
  /-- BACKUP_END (R336): Back-up and settle end and the re-fire turn-on request is sent. -/
  | backupEnd (n : Fin 12) (dt : Nat)
  /-- REFIRE_HOLD_END (R336): The hold for the rotation grant ends and re-entry accelerates. -/
  | refireHoldEnd (n : Fin 12) (dt : Nat)
  /-- REENTRY_END (R335): Re-entry reaches S and the ramp-on starts with EMITn rising. -/
  | reentryEnd (n : Fin 12) (dt : Nat)
  /-- RAMP_ON_END (R335): At S + L_RAMP power returns to the sheet unit and the pause ends. -/
  | rampOnEnd (n : Fin 12) (dt : Nat)
  /-- ROTATION_HOLD_END (R316): The hold at a chain start for grant − t_p ends and the chain starts. -/
  | rotationHoldEnd (n : Fin 12) (dt : Nat)
  /-- DWELL_END (R317): The DWELL time elapses and execution continues. -/
  | dwellEnd (n : Fin 12)
  /-- WAIT_TIMEOUT (R317): A WAIT TIMEOUT expiring first halts with WAIT_TIMEOUT. -/
  | waitTimeout (n : Fin 12)
  /-- SCN_START (R340): START loads PROG_BASE or empties the FIFO and runs, or is refused. -/
  | scnStart (who : Requester) (n : Fin 12)
  /-- SCN_STOP (R345): STOP produces a clean halt at t_next. -/
  | scnStop (who : Requester) (n : Fin 12)
  /-- RESTART_AT_STOP (R340): RESTART re-enters and re-fires at the halt point. -/
  | restartAtStop (who : Requester) (n : Fin 12)
  /-- RESTART_NEXT_RECORD (R340): RESTART jumps to the start of the next record. -/
  | restartNextRecord (who : Requester) (n : Fin 12)
  /-- RESTART_NEXT_LAYER (R340): RESTART skips records up to the next LAYER_END. -/
  | restartNextLayer (who : Requester) (n : Fin 12)
  /-- LAYER_BARRIER (R341): When every enabled interpreter is in LAYER_WAIT or DONE the layer boundary commits and
  they resume. -/
  | layerBarrier (late : Nat)
  /-- CALIB_RECORD (R327): A fiducial record with CALIB is accepted into the grid accumulators or discarded. -/
  | calibRecord (record : List (BitVec 8))
  /-- STROBE_START (R351): STROBE_DLY after the cause the string is lit at LEVEL. -/
  | strobeStart (n : Fin 8) (dt : Nat)
  /-- STROBE_END (R351): STROBE_W after its start the strobe ends. -/
  | strobeEnd (n : Fin 8) (dt : Nat)
  /-- DIM_PULSE (R354): A dimming period starts below the knee with its worked-out on-time. -/
  | dimPulse (n : Fin 8) (dt : Nat)
  /-- DIAG_WINDOW (R355): A diagnostic window ends and the channel judges OPEN, SHORT or good. -/
  | diagWindow (n : Fin 8) (dt : Nat) (im : BitVec 17) (uv : BitVec 22) (atLimit : Bool)
  /-- LIGHT_FAULT (R356): An overcurrent or FET fault condition latches, turns the gate off and publishes. -/
  | lightFault (n : Fin 8) (dt : Nat) (current : BitVec 18)
  /-- LIGHT_FAULT_CLEAR (R356): A W1C write clears a lighting fault bit unless the cause persists. -/
  | lightFaultClear (who : Requester) (n : Fin 8) (bits : BitVec 4) (persist : BitVec 4)
  /-- VERDICT_DUE (R357): DIAG_PERIOD without a window makes a verdict due. -/
  | verdictDue (n : Fin 8) (dt : Nat)
  /-- DIAG_PULSE (R357): In a gap a 2 µs diagnostic pulse at knee current is driven. -/
  | diagPulse (n : Fin 8) (dt : Nat)
  /-- UNDIAGNOSED (R358): A verdict due for 1 s sets UNDIAGNOSED and counts once. -/
  | undiagnosed (n : Fin 8) (dt : Nat)
  /-- VF_TEST (R359): A VF_TEST command starts the forward-voltage test or sets CMD_REFUSED. -/
  | vfTest (who : Requester) (n : Fin 8)
  /-- VF_PERIOD (R359): Every VF_PERIOD in IDLE a forward-voltage test starts. -/
  | vfPeriod (dt : Nat)
  /-- VF_TEST_END (R359): After 1.0 ms the test stores VF_LAST and may set VF_WARN. -/
  | vfTestEnd (n : Fin 8) (dt : Nat) (uv : BitVec 22)
  /-- PROJ_SWAP (R363): A SWAP command requests a buffer swap at the next refresh frame. -/
  | projSwap (who : Requester)
  /-- REFRESH_FRAME_START (R364): A refresh frame starts, applying a pending swap. -/
  | refreshFrameStart (dt : Nat)
  /-- SCAN_LINE (R362): A scan line is shown in 8 binary-weighted planes with blanking after it. -/
  | scanLine (dt : Nat)
  /-- PROJ_SYNC (R364): A PROJ_SYNC edge starts or latches the next refresh frame. -/
  | projSync (dt : Nat) (rising : Bool)
  /-- FRAME_BUFFER_WRITE (R363): A write to a frame buffer acts on the back buffer or is ignored on the front. -/
  | frameBufferWrite (who : Requester) (fb : Bool) (word : Fin 3072) (v : BitVec 32)
  /-- DEFECT_MAP_WRITE (R366): Software sets or clears a defect map bit. -/
  | defectMapWrite (who : Requester) (word : Fin 384) (v : BitVec 32)
  /-- PIX_TEST (R365): A PIX_TEST command starts the pixel test. -/
  | pixTest (who : Requester)
  /-- PIXEL_JUDGE (R365): After 20 µs a pixel is judged and the next pixel driven. -/
  | pixelJudge (dt : Nat) (current : Nat) (volt : Nat)
  /-- LUM_SEQ_END (R368): Sequencer END stops. -/
  | lumSeqEnd
  /-- LUM_SEQ_LEVEL (R368): Sets a channel LEVEL. `host` says that a staged host write reaches the channel in the same clock. -/
  | lumSeqLevel (n : Fin 8) (level : BitVec 16) (host : Bool)
  /-- LUM_SEQ_STROBE (R368): Gives a strobe cause to masked channels. -/
  | lumSeqStrobe (mask : BitVec 8)
  /-- LOADPAT (R368): Starts copying a pattern slot into the back buffer. -/
  | loadpat (slot : Fin 16)
  /-- LOADPAT_DONE (R368): The pattern copy completes and the sequencer goes on. -/
  | loadpatDone (dt : Nat)
  /-- LUM_SEQ_SWAP (R368): Requests a swap, optionally waiting for it. -/
  | lumSeqSwap (wait : Bool)
  /-- WAITHAL (R368): Waits for a sequencer wait task event. -/
  | waithal (task : Fin 4)
  /-- WAITUS (R368): Starts a timed wait. -/
  | waitus (us : BitVec 24)
  /-- WAITUS_END (R368): The timed wait ends. -/
  | waitusEnd (dt : Nat)
  /-- LUM_SEQ_EVENT (R368): Publishes a code on the sequencer producer. -/
  | lumSeqEvent (code : BitVec 8)
  /-- LUM_SEQ_LOOP (R368): Runs a loop body count times. -/
  | lumSeqLoop (body : BitVec 10) (count : BitVec 16)
  /-- LUM_SEQ_JUMP (R368): Continues at a word. -/
  | lumSeqJump (word : Fin 1024)
  /-- LUM_SEQ_RESERVED (R368): A reserved op halts with SEQ_ERR. -/
  | lumSeqReserved
  /-- EVENT_DELIVERY (R384): A queued event is gated, hop-checked, routed and delivered to its task or dropped. `h2` is a second halyard
  that delivers in the same clock (R386), `met` the groups that another command of that clock disables (R382). -/
  | eventDelivery (h : Fin 256) (h2 : Option (Fin 256)) (met : BitVec 16)
  /-- HAL_PUBLISH (R387): GO in HAL_PUBLISH publishes one event or is refused under ownership. -/
  | halPublish (who : Requester) (v : BitVec 32)
  /-- HAL_GROUP_CMD (R382): Enables or disables halyard groups; `met` are those that another command of the same clock disables. -/
  | halGroupCmd (who : Requester) (v : BitVec 32) (met : BitVec 16)
  /-- HAL_SUB_WRITE (R390): A subscription write is staged or refused whole by ownership. -/
  | halSubWrite (who : Requester) (t : Fin 512) (v : BitVec 32)
  /-- HAL_PROD_BIND_WRITE (R390): A producer binding write is staged or refused by ownership. -/
  | halProdBindWrite (who : Requester) (p : Fin 1024) (v : BitVec 32)
  /-- HAL_SEQ_CMD (R394): GO starts a halyard sequence at its entry. -/
  | halSeqCmd (who : Requester) (v : BitVec 32)
  /-- HAL_SEQ_END (R396): Ends the sequence. -/
  | halSeqEnd (q : Fin 32)
  /-- PUB (R396): Publishes on a halyard with incremented hops. -/
  | pub (q : Fin 32) (halyard : BitVec 8) (code : BitVec 8)
  /-- DELAY (R396): Starts a timed delay. -/
  | delay (q : Fin 32) (us : BitVec 24)
  /-- DELAY_END (R396): The delay elapses and the sequence issues again. -/
  | delayEnd (q : Fin 32)
  /-- HAL_SEQ_WAIT (R396): Waits for an event on the sequence wait task. -/
  | halSeqWait (q : Fin 32) (us : BitVec 24)
  /-- HAL_SEQ_WAIT_TIMEOUT (R396): A WAIT timeout ends the sequence and sets HAL_SEQ_TIMEOUT. -/
  | halSeqWaitTimeout (q : Fin 32)
  /-- GEN (R396): Enables masked groups; `met` are those that another command of the same clock disables (R382). -/
  | gen (q : Fin 32) (mask : BitVec 16) (met : BitVec 16)
  /-- GDIS (R396): Disables masked groups. -/
  | gdis (q : Fin 32) (mask : BitVec 16)
  /-- HAL_SEQ_LOOP (R396): Runs a loop body count times. -/
  | halSeqLoop (q : Fin 32) (body : BitVec 10) (count : BitVec 16)
  /-- HAL_SEQ_JUMP (R396): Continues at a word. -/
  | halSeqJump (q : Fin 32) (word : BitVec 11)
  /-- HAL_SEQ_RESERVED (R396): A reserved op ends the sequence and sets HAL_SEQ_ERR. -/
  | halSeqReserved (q : Fin 32)
  /-- PERST_N (R405): Assertion of PERST_N resets the endpoint and host DMA and closes the mailbox session. -/
  | perstN
  /-- HOT_RESET (R405): A received hot reset resets the endpoint. -/
  | hotReset
  /-- DL_DOWN (R405): Loss of the data link resets the endpoint and counts. -/
  | dlDown
  /-- CONFIG_REQUEST (R402): A configuration request is completed, or retried before step 3 or during FLR. -/
  | configRequest (write : Bool) (off : BitVec 12) (be : BitVec 4) (v : BitVec 32) (tlp : Tlp)
  /-- BAR4_ACCESS (R410): A whole aligned access to the MSI-X table or PBA acts, any other reads zero. -/
  | bar4Access (write : Bool) (off len : Nat) (data : List (BitVec 8)) (tlp : Tlp)
  /-- MSIX_UNMASK (R416): Unmasking a vector with its pending bit set sends one message. -/
  | msixUnmask (v : Fin 2048)
  /-- COMPLETION (R423): A completion is accepted for its request or discarded as unexpected. -/
  | completion (tag : Fin 1024) (status : CplStatus) (data : List (BitVec 8)) (tlp : Tlp) (met : Bool)
  /-- COMPLETION_TIMEOUT (R422): A request times out, is logged and retried once, then fails. -/
  | completionTimeout (tag : Fin 1024) (dt : Nat) (met : Bool)
  /-- TAG_RELEASE (R422): A reserved tag is freed twice the timeout later. -/
  | tagRelease (tag : Fin 1024) (dt : Nat)
  /-- BUS_MASTER_DISABLE (R424): Clearing Bus Master Enable or entering D3hot stops new requests. -/
  | busMasterDisable (d3hot met : Bool)
  /-- BUS_MASTER_ENABLE (R424): Setting it again or returning to D0 resumes channels from the last retired
  descriptor. -/
  | busMasterEnable (d0 met : Bool)
  /-- FLR (R425): Initiate Function Level Reset stops requests and aborts host transfers. -/
  | flr
  /-- FLR_DRAIN_END (R425): At 7 ms configuration, MSI-X and the mailbox session are reset. -/
  | flrDrainEnd (dt : Nat)
  /-- FLR_DONE (R425): FLR_ACTIVE clears and FLR_SEEN sets. -/
  | flrDone (dt : Nat)
  /-- L0S_ENTRY (R427): L0S_IDLE with nothing to send enters L0s. -/
  | l0sEntry (dt : Nat)
  /-- L1_ENTRY (R427): L1_IDLE with nothing pending requests L1. -/
  | l1Entry (dt : Nat)
  /-- DESCRIPTOR_LOAD (R433): A descriptor read completes and runs, parks on OWN = 0 or gives BAD_DESC. -/
  | descriptorLoad (n : Fin 32) (errs : List (Nat × BurstErr))
  /-- BURST (R436): A burst of up to 512 bytes is moved under pacing credit. -/
  | burst (n : Fin 32) (dt : Nat) (errs : List (Nat × BurstErr))
  /-- READ_BACK_DONE (R437): The read-back completes and the descriptor retires with status and OWN written. -/
  | readBackDone (n : Fin 32) (errs : List (Nat × BurstErr))
  /-- LINK_REREAD (R441): A re-read of an end link completes and loads the next descriptor or parks. -/
  | linkReread (n : Fin 32) (errs : List (Nat × BurstErr))
  /-- DMA_DOORBELL (R441): A doorbell increments DMA_DB_COUNT and wakes a parked channel. -/
  | dmaDoorbell (who : Requester) (n : Fin 32)
  /-- DMA_START (R460): START loads the descriptor at DMA_DESC and runs. -/
  | dmaStart (who : Requester) (n : Fin 32)
  /-- DMA_STOP (R460): STOP retires the working descriptor and goes to IDLE. -/
  | dmaStop (who : Requester) (n : Fin 32)
  /-- DMA_ABORT (R460): ABORT stops at the current burst without write-back. -/
  | dmaAbort (who : Requester) (n : Fin 32)
  /-- QUEUE_ITEM (R453): A producer item is written into its queue level, discarding old items if needed. -/
  | queueItem (q : Fin 64) (source : BitVec 8) (pri : BitVec 3) (words : Fin 8) (data : List (BitVec 8)) (meet upset : Bool)
  /-- QUE_RD_HEAD (R456): A read starts the next item and returns its header, or sets UNDERRUN. -/
  | queRdHead (who : Requester) (q : Fin 64) (bad : List Nat) (upset : Bool)
  /-- QUE_RD_DATA (R456): A read returns the next 4 bytes of the item and frees it at its end. -/
  | queRdData (who : Requester) (q : Fin 64)
  /-- DROP_REST (R456): Ends the item in progress and frees its words. -/
  | dropRest (who : Requester) (q : Fin 64)
  /-- QUEUE_FLUSH (R457): FLUSH empties every level and poisons a partial producer item. -/
  | queueFlush (who : Requester) (q : Fin 64)
  /-- QUE_WR_HEAD (R458): Begins a host item, poisoning any unfinished one. -/
  | queWrHead (who : Requester) (q : Fin 64) (v : BitVec 32)
  /-- QUE_WR_DATA (R453): Adds 4 bytes to the host item and commits it at its last byte. -/
  | queWrData (who : Requester) (q : Fin 64) (v : BitVec 32)
  /-- DRAIN_ITEM (R456): A DRAIN writes queued items to its destination and completes when empty or full. -/
  | drainItem (n : Fin 32) (dt : Nat) (bad : List Nat)
  /-- TIME_STEP (R465): STEP sets the time base to TIM_SET or is refused. -/
  | timeStep (who : Requester)
  /-- TIM_SWITCH (R473): SWITCH changes the active domain when the standby is ALIGNED. -/
  | timSwitch (who : Requester) (met : Bool)
  /-- SYNC (R472): A Sync measures o_d and updates the domain servo, state and FREQ. -/
  | sync (p : Fin 2) (dt : Nat) (m : PtpMsg) (met : Bool)
  /-- FOLLOW_UP (R466): A Follow_Up completes a two-step Sync measurement. -/
  | followUp (p : Fin 2) (m : PtpMsg) (met : Bool)
  /-- ANNOUNCE (R466): An Announce feeds the BMCA of its domain. -/
  | announce (p : Fin 2) (dt : Nat) (m : PtpMsg)
  /-- DELAY_REQ (R466): A received Delay_Req is answered with Delay_Resp as master. -/
  | delayReq (p : Fin 2) (dt : Nat) (m : PtpMsg)
  /-- DELAY_RESP (R466): A Delay_Resp completes the path delay measurement. -/
  | delayResp (p : Fin 2) (m : PtpMsg)
  /-- PDELAY_REQ (R466): A received Pdelay_Req is answered with Pdelay_Resp and follow-up. -/
  | pdelayReq (p : Fin 2) (dt : Nat) (m : PtpMsg)
  /-- PDELAY_RESP (R466): A Pdelay_Resp gives peer delay time stamps. -/
  | pdelayResp (p : Fin 2) (dt : Nat) (m : PtpMsg)
  /-- PDELAY_RESP_FOLLOW_UP (R466): Completes the peer delay measurement. -/
  | pdelayRespFollowUp (p : Fin 2) (m : PtpMsg)
  /-- SYNC_SEND (R467): As master a Sync and Follow_Up are sent each sync interval. -/
  | syncSend (d p : Fin 2) (dt : Nat)
  /-- ANNOUNCE_SEND (R467): As master an Announce is sent each announce interval. -/
  | announceSend (d p : Fin 2) (dt : Nat)
  /-- DELAY_REQ_SEND (R467): As slave a Delay_Req or Pdelay_Req is sent at the paced interval. -/
  | delayReqSend (d p : Fin 2) (dt : Nat)
  /-- SYNC_LOSS_TIMEOUT (R471): No Sync for 3 intervals makes the domain LOST, with switch or holdover. -/
  | syncLossTimeout (d : Fin 2) (dt : Nat)
  /-- ANNOUNCE_RECEIPT_TIMEOUT (R471): Announce receipt timeout makes the domain LOST. -/
  | announceReceiptTimeout (d p : Fin 2) (dt : Nat)
  /-- PORT_LINK_CHANGE (R468): A 10GBASE-R link going down makes its instances FAULTY, returning INITIALIZING. -/
  | portLinkChange (p : Fin 2) (up modAbs los txFault : Bool)
  /-- MODULE_INSERT (R470): An SFP+ insertion reads A0h bytes 0–255 into the window. -/
  | moduleInsert (p : Fin 2) (data : List (BitVec 8))
  /-- MODULE_POLL (R470): Once a second A2h bytes 96–111 are read. -/
  | modulePoll (p : Fin 2) (dt : Nat) (data : List (BitVec 8))
  /-- SCHEDULE_ARM (R475): ARM copies the schedule registers and arms, or sets CFG_ERR. -/
  | scheduleArm (who : Requester) (k : Fin 8) (v : BitVec 32)
  /-- SCHEDULE_DISARM (R474): DISARM ends the schedule and drives the pin inactive. -/
  | scheduleDisarm (who : Requester) (k : Fin 8) (v : BitVec 32)
  /-- SCHEDULE_FIRE (R474): A schedule instant fires, publishes and pulses TOUT. -/
  | scheduleFire (k : Fin 8) (dt : Nat)
  /-- TOUT_PULSE_END (R474): WIDTH fine counts after firing the TOUT pulse ends. -/
  | toutPulseEnd (k : Fin 8) (dt : Nat)
  /-- CAP_SEC_LO_READ (R477): A read of TIM_CAP_SEC_LO latches the capture and clears VALID. -/
  | capSecLoRead (who : Requester) (k : Fin 8)
  /-- NOW_SEC_LO_READ (R484): A read of TIM_NOW_SEC_LO latches HI and SUB. -/
  | nowSecLoRead (who : Requester)
  /-- RING_MESSAGE (R479): A stay ring message is removed, dropped or forwarded and published. -/
  | ringMessage (r : Fin 2) (dt : Nat) (nibs : List (BitVec 4))
  /-- RING_SEND (R480): GO in TIM_RING_SEND or the send task sends a ring message. -/
  | ringSend (who : Requester) (r : Fin 2) (v : BitVec 32)
  /-- RING_SEND_TIMEOUT (R480): 10 µs without the message returning frees the send task. -/
  | ringSendTimeout (r : Fin 2) (dt : Nat)
  /-- BYPASS_OPEN (R481): 10 µs after RING_OUT sends IDLE the bypass opens. -/
  | bypassOpen (r : Fin 2) (dt : Nat)
  /-- LOAD_START (R489): Rails good and RESET_N released start LOAD, which reads, checks and applies an image. -/
  | loadStart (dt : Nat) (d0 d1 : FlashPort) (dimms : List Dimm)
  /-- LOAD_END (R489): LOAD completes, units are enabled, READY := 1 and the mode is IDLE. -/
  | loadEnd (dt : Nat) (failed : List (Fin 16 × Fin 66))
  /-- ERASE (R505): Erases flash sectors on DEV. -/
  | erase (who : Requester) (dev : Bool)
  /-- PROGRAM_BUF (R505): Programs BOOT_FLASH_BUF into DEV. -/
  | programBuf (who : Requester) (dev : Bool)
  /-- COPY_STORE (R505): Programs bytes from the store into DEV. -/
  | copyStore (who : Requester) (dev : Bool)
  /-- VERIFY (R506): Checks the image on DEV and marks it VERIFIED. -/
  | verify (who : Requester) (dev : Bool)
  /-- BOOT_SWITCH (R507): Accepts a live switch and starts staging LIVE sections. -/
  | bootSwitch (who : Requester) (dev : Bool)
  /-- CANCEL_SWITCH (R507): Discards staged copies of a pending switch. -/
  | cancelSwitch (who : Requester) (dev : Bool)
  /-- BURN_SVN (R506): Raises the fused minimum SVN. -/
  | burnSvn (who : Requester) (dev : Bool)
  /-- RETIRE (R506): Programs STAGE_MARK to RETIRED. -/
  | retire (who : Requester) (dev : Bool)
  /-- BOOT_RESERVED_OP (R510): A reserved BOOT_CMD OP sets OP_RESULT := REFUSED. -/
  | bootReservedOp (who : Requester) (op : BitVec 4)
  /-- FLASH_OP_DONE (R505): A flash operation ends and sets OP_DONE with its result. -/
  | flashOpDone (dt : Nat) (errs : List (Nat × BurstErr))
  /-- STAGING_DONE (R507): All LIVE sections are staged and STAGED sets. -/
  | stagingDone (dt : Nat)
  /-- MBX_OPEN (R498): A mailbox OPEN is answered with a CHALLENGE or refusal. -/
  | mbxOpen (v : BitVec 32)
  /-- MBX_PROOF (R498): A mailbox PROOF opens the session with ACCEPT or is refused. -/
  | mbxProof (v : BitVec 32)
  /-- MBX_CLOSE (R498): CLOSE ends the mailbox session. -/
  | mbxClose (v : BitVec 32)
  /-- CHALLENGE_LAPSE (R497): A challenge with no PROOF in 1 s lapses. -/
  | challengeLapse (slot : Option (Fin 4)) (dt : Nat)
  /-- LOCKOUT_END (R501): A transport lockout period ends. -/
  | lockoutEnd (mailbox : Bool) (dt : Nat)
  /-- DGRAM_OPEN (R499): A datagram OPEN is answered with CHALLENGE or REFUSE. -/
  | dgramOpen (p : Fin 2) (dt : Nat) (data : List (BitVec 8))
  /-- DGRAM_PROOF (R499): A datagram PROOF opens a session with ACCEPT or is refused. -/
  | dgramProof (p : Fin 2) (dt : Nat) (data : List (BitVec 8))
  /-- DGRAM_ACCESS (R500): A tagged ACCESS executes its entries in order and returns ACCESS_RESP. -/
  | dgramAccess (p : Fin 2) (dt : Nat) (data : List (BitVec 8))
  /-- DGRAM_CLOSE (R500): A tagged CLOSE ends the datagram session. -/
  | dgramClose (p : Fin 2) (dt : Nat) (data : List (BitVec 8))
  /-- KEEPALIVE (R500): A tagged KEEPALIVE restarts the idle timeout. -/
  | keepalive (p : Fin 2) (dt : Nat) (data : List (BitVec 8))
  /-- ARP_REQUEST (R499): An ARP request for SES_ETH_IP4 is answered. -/
  | arpRequest (p : Fin 2) (addr : BitVec 32)
  /-- NEIGHBOUR_SOLICITATION (R499): A neighbour solicitation for the link-local address is answered. -/
  | neighbourSolicitation (p : Fin 2) (addr : BitVec 128)
  /-- SESSION_IDLE_TIMEOUT (R500): IDLE_TIMEOUT without a valid datagram closes the session. -/
  | sessionIdleTimeout (slot : Fin 4) (dt : Nat)
  /-- RECORDING_BOUNDARY (R503): GO in BOOT_COMMIT or a helm request takes a commit point or sets COMMIT_REFUSED. -/
  | recordingBoundary (who : Requester) (late : Nat)
  /-- REQUEST_IDLE (R515): A request for IDLE starts the transition or is refused. -/
  | requestIdle (who : Requester) (met : Option ModeMet)
  /-- REQUEST_ACQUIRE (R515): A request for ACQUIRE starts the transition or is refused. -/
  | requestAcquire (who : Requester) (met : Option ModeMet)
  /-- REQUEST_BUILD (R515): A request for BUILD opens gates or is refused. -/
  | requestBuild (who : Requester) (met : Option ModeMet)
  /-- REQUEST_SERVICE (R515): A request for SERVICE starts the transition or is refused. -/
  | requestService (who : Requester) (met : Option ModeMet)
  /-- REQUEST_INVALID_MODE (R514): A request for a code other than 2–5 is refused with NOT_FROM. -/
  | requestInvalidMode (who : Requester) (mode : BitVec 3)
  /-- MODE_TRANSITION_DONE (R515): A transition in progress completes, MODE changes and producer 0x230 publishes. -/
  | modeTransitionDone (dt : Nat) (still : Bool)
  /-- DOMAIN_ON (R521): PWR_DOM_CMD ON queues a wake of a mast or lane quad domain or is refused. -/
  | domainOn (who : Requester) (d : BitVec 7)
  /-- DOMAIN_OFF (R521): PWR_DOM_CMD OFF turns a domain off or is refused. -/
  | domainOff (who : Requester) (d : BitVec 7)
  /-- WAKE_START (R522): The head wake request starts when the inrush budget covers it. -/
  | wakeStart (dt : Nat)
  /-- POWER_GOOD (R522): A started domain reports power-good and is released from reset. -/
  | powerGood (d : Fin 80) (dt : Nat)
  /-- SUPPLY_WARNING (R524): A VDD_CORE warning enters the reef state or sets SUPPLY_WARN. -/
  | supplyWarning (dt : Nat) (mv : BitVec 16)
  /-- SUPPLY_RESET (R523): A rail below its reset threshold resets with cause SUPPLY. -/
  | supplyReset (rail : Fin 5)
  /-- RESET_N_ASSERT (R538): RESET_N asserted or a rail lost takes the Swista to OFF. -/
  | resetNAssert (rail : Option (Fin 5))
  /-- REEF_RECOVERY (R527): VDD_CORE held 50 µs ends shedding and units resume. -/
  | reefRecovery (dt : Nat) (mv : BitVec 16)
  /-- REEF_BUFFER_EMPTY (R527): The reef buffer drains and REEF clears. -/
  | reefBufferEmpty (dt : Nat)
  /-- REEF_TIMEOUT (R528): 20.0 ms in the reef state resets with REEF_TIMEOUT. -/
  | reefTimeout (dt : Nat)
  /-- HELM_MISCOMPARE (R530): One helm core outvoted is frozen and resynchronisation starts. -/
  | helmMiscompare (core : Fin 3) (dt : Nat)
  /-- RESYNC_DONE (R530): The resynchronised core returns to triple lockstep. -/
  | resyncDone (core : Fin 3) (dt : Nat)
  /-- DUAL_MISCOMPARE (R531): A miscompare running DUAL resets with HELM_FATAL. -/
  | dualMiscompare
  /-- HELM_WATCHDOG (R531): No HLM_WDT write within WDT_MS resets with HELM_WATCHDOG. -/
  | helmWatchdog (dt : Nat)
  /-- HLM_WDT (R543): A helm write restarts the helm watchdog. -/
  | hlmWdt (who : Requester) (v : BitVec 32)
  /-- HELM_MEMORY_UE (R536): An uncorrectable helm-memory error rolls back to the checkpoint and replays. -/
  | helmMemoryUe (checkpoint : Bool)
  /-- REPLAY_END (R536): Replay reaches the last journal entry and the helm runs live. -/
  | replayEnd (dt : Nat)
  /-- SOFT_RESET (R538): PWR_CMD.RESET resets with cause SOFT. -/
  | softReset (who : Requester)
  /-- ENCODER_EDGE (R553): A filtered quadrature edge changes the count and may fire the compare unit. -/
  | encoderEdge (n : Fin 16) (dt : Nat) (a b : Bool) (held : Nat)
  /-- Z_EDGE (R554): A rising Z edge resets or latches the count under Z_MODE. -/
  | zEdge (n : Fin 16) (dt : Nat) (edge : Option (Bool × Bool)) (held : Nat)
  /-- ENCODER_COUNT_WRITE (R555): A write sets the count without firing compares. -/
  | encoderCountWrite (who : Requester) (n : Fin 16) (v : BitVec 32) (z : Bool) (edge : Option (Bool × Bool))
  /-- SSI_READ_START (R556): Every PERIOD an SSI read starts and latches the position instant. -/
  | ssiReadStart (a : Fin 4) (dt : Nat) (idle : Bool)
  /-- SSI_READ_END (R556): The read ends and stores the position or counts an error. -/
  | ssiReadEnd (a : Fin 4) (dt : Nat) (data : BitVec 32) (low : Bool)
  /-- PATH_LO_READ (R346): A read of SCN_PATH_LO latches bits 47:32 into SCN_PATH_HI. -/
  | pathLoRead (who : Requester) (n : Fin 12)
  /-- CDR_LOCK_LOST (R80): The CDR of an UP or SHADOW lane loses lock, so the lane is lost and its port responds. -/
  | cdrLockLost (n : Fin 64)
  /-- SHROUD_SYNC_LOST (R322): The J, K delimiter is missing where expected on an upstream Shroud frame, so the
  port counts SCN_CNT_SH_SYNC and hunts bit by bit. -/
  | shroudSyncLost (n : Fin 12)
  /-- PCIE_LINK_UP (R405): Link training completes and the data link comes up, setting LINK_SPEED, LINK_WIDTH and
  DL_UP and raising the endpoint event. -/
  | pcieLinkUp (speed : BitVec 4) (width : BitVec 5)
  /-- UNSUPPORTED_REQUEST (R420): An inbound TLP outside any BAR, an atomic operation, or a memory request during
  FLR is completed with Unsupported Request and logged. -/
  | unsupportedRequest (posted : Bool) (header : List (BitVec 32))
  /-- CHECKER_LOCK (R84): The pattern checker of a lane in TEST locks after 31 error-free bits, or loses lock when
  64 of 1,024 bits are wrong, and then locks again. -/
  | checkerLock (n : Fin 64) (bits : List Bool)
  deriving DecidableEq, Repr

end Sys2Proof
end

