-- ==== Sys2Proof/Decode.lean ====
section
/-!
DEFINITION. The words of commands. The opcode table gives its rows no bits: a command comes from outside with its operands,
and no word spells one. The words of a spar's program memory spell spar instructions (R200 to R206), the records of a scan program its commands (R306), and the words of a lighting pattern program and of a halyard
sequence theirs (R368, R396).
-/

namespace Sys2Proof

/-- The command that a word spells: none, since no row of the opcode table gives bits. -/
def decodeTableWord (_nbits _w : Nat) : Option Instr := none

/-! ### The words of a spar program (R200) -/

/-- The fields of the formats R, I and J. -/
structure SparWord where
  op : Nat
  d : Fin 32
  a : Fin 32
  b : Fin 32
  msk : Fin 8
  fn : Nat
  imm : BitVec 16
  cond : BitVec 4
  ofs : BitVec 22
  deriving DecidableEq, Repr

/-- The fields of a word (R200). -/
def sparWord (w : BitVec 32) : SparWord :=
  { op := (w.extractLsb' 26 6).toNat, d := (w.extractLsb' 21 5).toFin, a := (w.extractLsb' 16 5).toFin,
    b := (w.extractLsb' 11 5).toFin, msk := (w.extractLsb' 8 3).toFin, fn := (w.extractLsb' 0 8).toNat,
    imm := w.extractLsb' 0 16, cond := w.extractLsb' 22 4, ofs := w.extractLsb' 0 22 }

/-- The mask register a field names: its low three bits (DESIGN CHOICE, log entry 83). -/
def maskReg (k : Fin 32) : Fin 8 := Fin.ofNat 8 k.val

/-- A scalar operation of format R, OP 0x00 (R202). -/
def sparScalar (m : Fin 16) (e : Fin 66) (x : SparWord) : Option Instr :=
  match x.fn with
  | 0x00 => some (.add m e x.d x.a x.b)
  | 0x01 => some (.sub m e x.d x.a x.b)
  | 0x02 => some (.and m e x.d x.a x.b)
  | 0x03 => some (.or m e x.d x.a x.b)
  | 0x04 => some (.xor m e x.d x.a x.b)
  | 0x05 => some (.shl m e x.d x.a x.b)
  | 0x06 => some (.shr m e x.d x.a x.b)
  | 0x07 => some (.sar m e x.d x.a x.b)
  | 0x08 => some (.mul m e x.d x.a x.b)
  | 0x09 => some (.mulh m e x.d x.a x.b)
  | 0x0A => some (.min m e x.d x.a x.b)
  | 0x0B => some (.max m e x.d x.a x.b)
  | 0x0C => some (.slt m e x.d x.a x.b)
  | 0x0D => some (.sltu m e x.d x.a x.b)
  | 0x0E => some (.div m e x.d x.a x.b)
  | 0x0F => some (.divu m e x.d x.a x.b)
  | 0x10 => some (.isqrt m e x.d x.a)
  | 0x11 => some (.cmp m e x.a x.b)
  | 0x12 => some (.mfs m e x.d (BitVec.ofFin x.a))
  | _ => none

/-- A vector operation of OP 0x30 on lanes, with its result in v[D] (R204). -/
def sparLanes (m : Fin 16) (e : Fin 66) (x : SparWord) : Option Instr :=
  match x.fn with
  | 0x00 => some (.vadd m e x.d x.a x.b x.msk)
  | 0x01 => some (.vsub m e x.d x.a x.b x.msk)
  | 0x02 => some (.vadds m e x.d x.a x.b x.msk)
  | 0x03 => some (.vsubs m e x.d x.a x.b x.msk)
  | 0x04 => some (.vaddus m e x.d x.a x.b x.msk)
  | 0x05 => some (.vsubus m e x.d x.a x.b x.msk)
  | 0x06 => some (.vmul m e x.d x.a x.b x.msk)
  | 0x07 => some (.vmulq m e x.d x.a x.b x.msk)
  | 0x08 => some (.vmin m e x.d x.a x.b x.msk)
  | 0x09 => some (.vmax m e x.d x.a x.b x.msk)
  | 0x0A => some (.vminu m e x.d x.a x.b x.msk)
  | 0x0B => some (.vmaxu m e x.d x.a x.b x.msk)
  | 0x0C => some (.vand m e x.d x.a x.b x.msk)
  | 0x0D => some (.vor m e x.d x.a x.b x.msk)
  | 0x0E => some (.vxor m e x.d x.a x.b x.msk)
  | 0x0F => some (.vabsdu m e x.d x.a x.b x.msk)
  | 0x10 => some (.vshl m e x.d x.a x.b x.msk)
  | 0x11 => some (.vshr m e x.d x.a x.b x.msk)
  | 0x12 => some (.vsar m e x.d x.a x.b x.msk)
  | 0x13 => some (.vsel m e x.d x.a x.b x.msk)
  | 0x14 => some (.vsplat m e x.d x.a x.msk)
  | _ => none

/-- The other vector operations of OP 0x30: pairs, accumulators, comparisons, reductions and VEXT (R204). -/
def sparWide (m : Fin 16) (e : Fin 66) (x : SparWord) : Option Instr :=
  match x.fn with
  | 0x20 => some (.vmulw m e x.d x.a x.b x.msk)
  | 0x21 => some (.vmulwu m e x.d x.a x.b x.msk)
  | 0x22 => some (.vaccwu m e x.d x.a x.msk)
  | 0x23 => some (.vnarrow m e x.d x.a x.b x.msk)
  | 0x24 => some (.vnarrowu m e x.d x.a x.b x.msk)
  | 0x28 => some (.vmac m e x.d x.a x.b x.msk)
  | 0x29 => some (.vmacu m e x.d x.a x.b x.msk)
  | 0x2A => some (.vaccr m e x.d x.a x.b x.msk)
  | 0x2B => some (.vaccz m e x.d x.msk)
  | 0x30 => some (.vcmpeq m e (maskReg x.d) x.a x.b x.msk)
  | 0x31 => some (.vcmpgt m e (maskReg x.d) x.a x.b x.msk)
  | 0x32 => some (.vcmpgtu m e (maskReg x.d) x.a x.b x.msk)
  | 0x33 => some (.vcmpgeu m e (maskReg x.d) x.a x.b x.msk)
  | 0x38 => some (.vrsum m e x.d x.a x.msk)
  | 0x39 => some (.vrsumu m e x.d x.a x.msk)
  | 0x3A => some (.vrmaxu m e x.d x.a x.msk)
  | 0x3B => some (.vrmaxi m e x.d x.a x.msk)
  | _ => if 0x40 ≤ x.fn && x.fn < 0x60 then some (.vext m e (Fin.ofNat 32 (x.fn - 0x40)) x.d x.a x.b x.msk) else none

/-- The mask operations of OP 0x32 (R205). -/
def sparMasks (m : Fin 16) (e : Fin 66) (x : SparWord) : Option Instr :=
  match x.fn with
  | 0x00 => some (.mand m e (maskReg x.d) (maskReg x.a) (maskReg x.b))
  | 0x01 => some (.mor m e (maskReg x.d) (maskReg x.a) (maskReg x.b))
  | 0x02 => some (.mxor m e (maskReg x.d) (maskReg x.a) (maskReg x.b))
  | 0x03 => some (.mnot m e (maskReg x.d) (maskReg x.a))
  | 0x04 => some (.mtos m e x.d (maskReg x.a))
  | 0x05 => some (.stom m e (maskReg x.d) x.a)
  | 0x06 => some (.mpop m e x.d (maskReg x.a))
  | _ => none

/-- The stream operations of OP 0x38 (R205). -/
def sparStream (m : Fin 16) (e : Fin 66) (x : SparWord) : Option Instr :=
  match x.fn with
  | 0x00 => some (.srd m e x.d [])
  | 0x01 => some (.srdr m e x.d [])
  | 0x02 => some (.sseek m e x.a x.b)
  | 0x03 => some (.swr m e x.a x.b)
  | 0x04 => some (.swrs m e x.a x.b)
  | 0x05 => some (.std m e x.d x.a)
  | _ => none

/-- The operations of the analysis units, OP 0x3A (R205). -/
def sparUnits (m : Fin 16) (e : Fin 66) (x : SparWord) : Option Instr :=
  match x.fn with
  | 0x00 => some (.hist m e x.a x.b x.msk)
  | 0x01 => some (.hrd m e x.d x.a)
  | 0x02 => some (.lcfg m e x.a)
  | 0x03 => some (.lab m e x.a x.b x.msk)
  | 0x04 => some (.leol m e)
  | 0x05 => some (.lrd m e x.d x.a x.b)
  | 0x06 => some (.mcfg m e x.a)
  | 0x07 => some (.mom m e x.a x.b x.msk)
  | 0x08 => some (.mrd m e x.d x.b)
  | _ => none

/-- The instruction that a word of program memory spells on engine `e` of mast `m` (R200 to R205): none is ILLEGAL (R206).
Operands that no word holds, what an SRD or SRDR meets in shared memory and what meets a COMMIT in its clock, are empty. -/
def sparDecode (m : Fin 16) (e : Fin 66) (w : BitVec 32) : Option Instr :=
  let x := sparWord w
  match x.op with
  | 0x00 => sparScalar m e x
  | 0x01 => some (.addi m e x.d x.a x.imm)
  | 0x02 => some (.andi m e x.d x.a x.imm)
  | 0x03 => some (.ori m e x.d x.a x.imm)
  | 0x04 => some (.xori m e x.d x.a x.imm)
  | 0x05 => some (.lui m e x.d x.imm)
  | 0x06 => some (.shli m e x.d x.a x.imm)
  | 0x07 => some (.shri m e x.d x.a x.imm)
  | 0x08 => some (.sari m e x.d x.a x.imm)
  | 0x09 => some (.cmpi m e x.a x.imm)
  | 0x10 => some (.ldw m e x.d x.a x.imm)
  | 0x11 => some (.ldh m e x.d x.a x.imm)
  | 0x12 => some (.ldhu m e x.d x.a x.imm)
  | 0x13 => some (.stw m e x.d x.a x.imm)
  | 0x14 => some (.sth m e x.d x.a x.imm)
  | 0x15 => some (.vld m e x.d x.a x.imm)
  | 0x16 => some (.vst m e x.d x.a x.imm)
  | 0x17 => some (.vlut m e x.d x.a x.b x.msk)
  | 0x20 => some (.b m e x.cond x.ofs)
  | 0x21 => some (.call m e x.cond x.ofs)
  | 0x22 => some (.ret m e)
  | 0x23 => some (.loop m e x.a x.imm)
  | 0x30 => if x.fn < 0x20 then sparLanes m e x else sparWide m e x
  | 0x32 => sparMasks m e x
  | 0x38 => sparStream m e x
  | 0x3A => sparUnits m e x
  | 0x3E => some (.commit m e x.a x.imm none)
  | 0x3F => if x.fn = 0 then some (.abort m e) else none
  | _ => none

/-! ### The records of a scan program (R306) -/

/-- A byte of a record; bytes are numbered from 0. -/
def recByte (r : List (BitVec 8)) (i : Nat) : BitVec 8 := r.getD i 0

/-- Two bytes of a record, little-endian (R13). -/
def recHalf (r : List (BitVec 8)) (i : Nat) : BitVec 16 := recByte r (i + 1) ++ recByte r i

/-- Four bytes of a record, little-endian (R13). -/
def recWord (r : List (BitVec 8)) (i : Nat) : BitVec 32 := recHalf r (i + 2) ++ recHalf r i

/-- The command that executes a record of 16 bytes on interpreter `n` (R306, R307). -/
def scanDecode (n : Fin 12) (r : List (BitVec 8)) : Instr :=
  let type := recByte r 0
  match type.toNat with
  | 0x01 => .jumpRecord n (recWord r 4) (recWord r 8) (recHalf r 2)
  | 0x02 => .markRecord n (recWord r 4) (recWord r 8) (recHalf r 2)
  | 0x03 => .arcRecord n ((recByte r 1).getLsbD 0) (recHalf r 2) (recWord r 4) (recWord r 8) (recWord r 12)
  | 0x04 => .speedRecord n (recWord r 4) (recWord r 8)
  | 0x05 => .powerRecord n ((recByte r 1).getLsbD 0) (recHalf r 2)
  | 0x06 => .profileRecord n ((recByte r 2).extractLsb' 0 3)
  | 0x07 => .waitRecord n ((recByte r 2).extractLsb' 0 2).toFin (recWord r 4)
  | 0x08 => .dwellRecord n (recWord r 4)
  | 0x09 => .meterRecord n ((recByte r 2).extractLsb' 0 2).toFin ((recByte r 3).extractLsb' 0 3) (recHalf r 4) (recWord r 8)
  | 0x0A => .eventRecord n (recByte r 2)
  | 0x0B => .linkRecord n (recWord r 4)
  | 0x0C => .layerEnd n
  | 0x0D => .endRecord n
  | _ => .badRecord n type

/-! ### The words of a lighting pattern program (R368) -/

/-- An instruction of the lighting pattern program; each is executed by the command of its row. -/
inductive LumOp where
  | done
  | level (n : Fin 8) (level : BitVec 16)
  | strobe (mask : BitVec 8)
  | loadpat (slot : Fin 16)
  | swap (wait : Bool)
  | waithal (task : Fin 4)
  | waitus (us : BitVec 24)
  | event (code : BitVec 8)
  | loop (body : BitVec 10) (count : BitVec 16)
  | jump (word : Fin 1024)
  | reserved
  deriving DecidableEq, Repr

/-- The instruction that a word of the pattern program spells. -/
def lumDecode (w : BitVec 32) : LumOp :=
  match (w.extractLsb' 28 4).toNat with
  | 0x0 => .done
  | 0x1 => .level (w.extractLsb' 24 3).toFin (w.extractLsb' 0 16)
  | 0x2 => .strobe (w.extractLsb' 0 8)
  | 0x3 => .loadpat (w.extractLsb' 0 4).toFin
  | 0x4 => .swap (w.getLsbD 0)
  | 0x5 => .waithal (w.extractLsb' 0 2).toFin
  | 0x6 => .waitus (w.extractLsb' 0 24)
  | 0x7 => .event (w.extractLsb' 0 8)
  | 0x8 => .loop (w.extractLsb' 16 10) (w.extractLsb' 0 16)
  | 0x9 => .jump (w.extractLsb' 0 10).toFin
  | _ => .reserved

/-! ### The words of a halyard sequence (R396) -/

/-- An instruction of a halyard sequence; each is executed by the command of its row. -/
inductive SeqOp where
  | done
  | pub (halyard code : BitVec 8)
  | delay (us : BitVec 24)
  | wait (us : BitVec 24)
  | gen (mask : BitVec 16)
  | gdis (mask : BitVec 16)
  | loop (body : BitVec 10) (count : BitVec 16)
  | jump (word : BitVec 11)
  | reserved
  deriving DecidableEq, Repr

/-- The instruction that a word of the sequence memory spells. -/
def seqDecode (w : BitVec 32) : SeqOp :=
  match (w.extractLsb' 28 4).toNat with
  | 0x0 => .done
  | 0x1 => .pub (w.extractLsb' 0 8) (w.extractLsb' 8 8)
  | 0x2 => .delay (w.extractLsb' 0 24)
  | 0x3 => .wait (w.extractLsb' 0 24)
  | 0x4 => .gen (w.extractLsb' 0 16)
  | 0x5 => .gdis (w.extractLsb' 0 16)
  | 0x6 => .loop (w.extractLsb' 16 10) (w.extractLsb' 0 16)
  | 0x7 => .jump (w.extractLsb' 0 11)
  | _ => .reserved

end Sys2Proof
end

