-- ==== Sys2Proof/Config.lean ====
section
/-!
DEFINITION. What no rule of the spec fixes: the free values. Each is a constant without a body, applied to a counter
of the state, so that nothing in Lean can prove which value it gives.
-/

namespace Sys2Proof.Config

/-- A value the spec leaves open, `w` bits wide: the `k`-th drawn in a run (log entry 2). -/
opaque freeBits (w : Nat) (k : Nat) : BitVec w

/-- The quotient of DIV that 32 bits cannot hold (R202 states none), as a function of the operands (R199; log entry 83). -/
opaque divOver (a b : BitVec 32) : BitVec 32

/-- What VNARROW and VNARROWU saturate where the shift count lies beyond 31 (R204 states no result), as a function of the 32-bit
value and the count (R199; log entry 83). -/
opaque narrowOver (v : Int) (n : BitVec 32) : Int

/-- A focus command of 24 bits where round(Z ÷ Z_SCALE) is none, for Z in 2^-16 nm times the cell's area (R324; log entry 85). -/
opaque zOver (z : Int) (scale : Nat) : BitVec 24

/-- u_c · J_c⁻¹ (q_ret − q_c) where J_c has no inverse, for the two deviations (R325; log entry 85). -/
opaque pathOver (ex ey : Int) : Int

/-- A completion timeout inside the range of a code of Device Control 2 that the spec leaves to the standard, in fine counts above
the range's least (R422; log entry 87). -/
opaque cplTimeout (code : Nat) : Nat

end Sys2Proof.Config
end

