-- ==== Sys2Proof/Machine/Reg.lean ====
section
/-!
DEFINITION. The names of the registers (R572): one constructor for each register of the register index.
-/

namespace Sys2Proof.Machine

/-- A register name of the register index (R572). A register that exists once per instance is one name. -/
inductive Reg where
  | LNK_CTRL | LNK_STATUS | LNK_PORT_CFG | LNK_PORT_STATUS | LNK_TRAIN | LNK_TAPS | LNK_PATTERN | LNK_USER_WORD
  | LNK_INJECT | LNK_CNT_BAD_HDR | LNK_CNT_LOCK_LOSS | LNK_CNT_BAD_TYPE | LNK_CNT_STUFF | LNK_CNT_STUFF_EXCESS
  | LNK_CNT_SKIP_ERR | LNK_CNT_EB_OVF | LNK_CNT_REBUILT | LNK_CNT_PARITY_MISMATCH | LNK_CNT_ERASED_ROWS
  | LNK_CNT_DOZE_SLOW | LNK_BER_BITS_LO | LNK_BER_BITS_HI | LNK_BER_ERRS | CAP_AXIS_SEL | CAP_CTRL_CMD
  | CAP_CTRL_ADDR | CAP_CTRL_STATUS | CAP_PORT_CLASS | CAP_PORT_ROUTE | CAP_CROP_ORIGIN | CAP_CROP_SIZE
  | CAP_TRIG_CFG | CAP_TRIG_TIMING | CAP_PATH_PITCH | CAP_STAMP_CAL | CAP_CAM_STAT | CAP_PORT_FLAGS
  | CAP_FRAME_NUM_LO | CAP_FRAME_NUM_HI | CAP_CNT_FRAMES | CAP_CNT_INCOMPLETE | CAP_CNT_BAD_HCRC
  | CAP_CNT_BAD_PCRC | CAP_CNT_BAD_TYPE | CAP_CNT_ORPHAN | CAP_CNT_OVERSIZE | CAP_CNT_RATE_EXCESS
  | CAP_CNT_OPAQUE | CAP_CNT_TRIG_SENT | CAP_CNT_TRIG_MERGED | CAP_CNT_TRIG_HOLDOFF | CAP_CNT_TRIG_DROP
  | CAP_CNT_TRIG_NOACK | CAP_CNT_TRIG_REFUSED | CAP_CNT_CTRL_RETRY | CAP_ENC_CMP_CFG | CAP_ENC_CMP_PITCH
  | CAP_ENC_CMP_NEXT | CAP_ENC_IN | CAP_ENC_COUNT | CAP_ENC_ZLATCH | CAP_ENC_CNT_ERR | CAP_SSI_CFG
  | CAP_SSI_POS | CAP_SSI_CNT_ERR | FST_CFG | FST_STATUS | FST_BANDS | FST_LOAD_CFG | FST_BUILD_BASE
  | FST_BUILD_BANDS | FST_MP_LOG_BANDS | FST_MP_TEST_BANDS | FST_RES_BASE | FST_RES_BANDS | FST_RES_USED
  | FST_RETIRE_CFG | FST_MARK_CMD | FST_SPAN_CMD | FST_CNT_BAD_ACCESS | FST_CNT_NO_RING | FST_CH_STATUS
  | FST_CH_CE_BUCKET | FST_CH_CNT_CE | FST_CH_CNT_UE | FST_CH_ECC_BAND | FST_CH_ECC_INFO | FST_CH_MPL_WP
  | FST_CH_MPT_WP | FST_RING_BASE | FST_RING_IDX_BANDS | FST_RING_DATA_BANDS | FST_RING_CFG | FST_RING_PRE
  | FST_RING_POST | FST_RING_STATUS | FST_RING_LAP | FST_RING_WP_BAND | FST_RING_HEAD | FST_RING_TAIL
  | FST_CNT_DROP | FST_CNT_SPILL | FST_CNT_VOID | FST_CNT_SPAN_REFUSED | MST_CFG | MST_CLASS_WD | MST_STATUS
  | MST_FAULT0 | MST_FAULT1 | MST_SPARE_USE | MST_SPAR_STATE | MST_STREAM_CFG | MST_STREAM_TILE
  | MST_STREAM_BUF | MST_STREAM_RED | MST_CNT_TILES | MST_CNT_RERUN | MST_CNT_ABANDON | MST_CNT_PROG_FAULT
  | MST_CNT_CANCEL | MST_CNT_CE | MST_CNT_SHM_UE | MST_CNT_MP_LATE | MST_CNT_NO_STREAM | MST_CNT_NO_BEAM
  | MST_CNT_INGEST_DROP | SHT_CFG | SHT_STATUS | SHT_TIMING | SHT_MISS | SHT_F_OFFSET | SHT_F_SCALE
  | SHT_SP_FIXED | SHT_SP_SLOPE | SHT_P_REF | SHT_KP | SHT_KI | SHT_KD | SHT_I_MIN | SHT_I_MAX | SHT_FF_P
  | SHT_K_V | SHT_V_REF | SHT_RATE_MAX | SHT_P_MIN | SHT_P_MAX | SHT_AUTH | SHT_FS_LAG | SHT_BQ_B0 | SHT_BQ_B1
  | SHT_BQ_B2 | SHT_BQ_A1 | SHT_BQ_A2 | SHT_TUNE | SHT_INJ_AMP | SHT_SWEEP_F0 | SHT_SWEEP_F1 | SHT_RUN_LEN
  | SHT_CMD | SHT_I_STATE | SHT_LAST_OUT | SHT_LAST_FRAME | SHT_LAST_DELAY | SHT_DELAY_MAX | SHT_CNT_EVAL
  | SHT_CNT_MISS | SHT_CNT_STALE | SHT_CNT_REJECT | SHT_CNT_BAD_CHECK | SHT_CNT_FOREIGN | SHT_CNT_OVERRUN
  | SHT_CNT_NOT_ENGAGED | SHT_CNT_FALLBACK | SHT_CNT_SUPERSEDED | SHT_CNT_LOG_DROP | BCH_CFG | BCH_STATUS
  | BCH_FAULT | BCH_HYBRID | BCH_OUT_CFG | BCH_PITCH | BCH_PULSE | BCH_ENC_SCALE | BCH_TRACK | BCH_REVERSAL
  | BCH_TIME_OFS | BCH_PATH_OFS | BCH_EMIT_DLY | BCH_HATCH_AXIS | BCH_CAL_POWER | BCH_GAIN | BCH_METER_CFG
  | BCH_GAIN_LIMIT | BCH_METER_SCALE | BCH_METER_LAST | BCH_WD_ON | BCH_WD_DWELL | BCH_WD_PWR | BCH_WD_SCALE
  | BCH_CNT_PULSES | BCH_CNT_PULSE_SKIP | BCH_CNT_HELD | BCH_CNT_REVERSAL | BCH_CNT_ROT_WAIT | BCH_CNT_CUT
  | BCH_CNT_METER | BCH_PERMIT | BCH_PERMIT_CFG | BCH_ROT_CFG | SCN_CFG | SCN_STATUS | SCN_CMD | SCN_PROG_BASE
  | SCN_MOTION | SCN_RAMP | SCN_SPEED0 | SCN_JUMP | SCN_GRID_X0 | SCN_GRID_Y0 | SCN_GRID_STEP | SCN_Z_SCALE
  | SCN_HEAD | SCN_TEMP | SCN_GRACE | SCN_STREAM_CFG | SCN_STREAM_LEVEL | SCN_HALT_RECORD | SCN_HALT_OFFSET
  | SCN_RECORD | SCN_PATH_LO | SCN_PATH_HI | SCN_HEAD_TEMP | SCN_POS_X | SCN_POS_Y | SCN_CNT_RECORDS
  | SCN_CNT_PAUSE | SCN_CNT_CLEAR | SCN_CNT_LATE | SCN_CNT_TEMP_SPLIT | SCN_CNT_RAMP_SHORT
  | SCN_CNT_FIELD_CLAMP | SCN_CNT_SH_CRC | SCN_CNT_SH_SYNC | SCN_CNT_SH_REMOTE | SCN_CNT_STREAM_BAD
  | SCN_CNT_HALT | SCN_CLR_CFG | SCN_CLR_RADIUS | SCN_FLOW | SCN_PLUME | SCN_LAYER | SCN_LAYER_SET
  | SCN_CAL_CFG | SCN_CAL_LIMIT | SCN_CAL_STATUS | SCN_CNT_CAL_USED | SCN_CNT_CAL_DISCARD | LUM_CH_CFG
  | LUM_CH_STATUS | LUM_CH_FAULT | LUM_CH_LEVEL | LUM_CH_STROBE | LUM_CH_EXP | LUM_CH_DIAG | LUM_CH_VF
  | LUM_CH_VF_LIM | LUM_CH_SCALE | LUM_CH_CMD | LUM_CNT_OVERLAP | LUM_CNT_DIAG_ABORT | LUM_CNT_UNDIAG
  | LUM_PROJ_CFG | LUM_PROJ_TIMING | LUM_PROJ_TEST | LUM_PROJ_CMD | LUM_PROJ_STATUS | LUM_VF_PERIOD
  | LUM_CNT_FRONT_WRITE | LUM_CNT_SYNC_OVR | LUM_CNT_PIX_OPEN | LUM_CNT_PIX_SHORT | HAL_CFG | HAL_ORPHAN
  | HAL_LOOP | HAL_DUP | HAL_REFUSE | HAL_PUBLISH | HAL_GROUP_STATE | HAL_GROUP_CMD | HAL_GROUP_INIT
  | HAL_CNT_DELIVERED | HAL_CNT_UNROUTED | HAL_CNT_GATED | HAL_CNT_QUEUE_DROP | HAL_CNT_LOOP | HAL_CNT_ORPHAN
  | HAL_CNT_REFUSED | HAL_ATTR | HAL_SUB | HAL_TASK_STATUS | HAL_PROD_BIND | HAL_CTR_CFG | HAL_CTR_VALUE
  | HAL_NOTIFY | HAL_SEQ_CFG | HAL_SEQ_RUN | HAL_SEQ_ERR | HAL_SEQ_TIMEOUT | HAL_SEQ_CMD | PCE_STATUS
  | PCE_CTRL | PCE_ASPM | PCE_CNT_BAD_ACCESS | PCE_CNT_PRIV_REFUSED | PCE_CNT_POISON_TX | PCE_CNT_MSIX_DROP
  | PCE_CNT_CPL_TIMEOUT | PCE_CNT_UNEXP_CPL | PCE_CNT_BME_DROP | PCE_CNT_FLR_DROP | PCE_CNT_LINK_DOWN | DMA_CFG
  | DMA_STATUS | DMA_CMD | DMA_DOORBELL | DMA_DB_COUNT | DMA_DESC_LO | DMA_DESC_HI | DMA_CUR_LO | DMA_CUR_HI
  | DMA_CNT_DESC | DMA_CNT_CT_DROP | DMA_CNT_CT_SIZE | DMA_CNT_CT_TRUNC | DMA_CNT_POISON | DMA_CNT_BAD_ADDR
  | DMA_CNT_OWN_WAIT | QUE_CFG | QUE_STATUS | QUE_CMD | QUE_RD_HEAD | QUE_RD_DATA | QUE_WR_HEAD | QUE_WR_DATA
  | QUE_IRQ | QUE_CNT_LOST | QUE_CNT_POISONED | QUE_CNT_PTR_ERR | QUE_CNT_NO_QUEUE | TIM_CFG | TIM_STATUS
  | TIM_NOW_SEC_LO | TIM_NOW_SEC_HI | TIM_NOW_SUB | TIM_SET_SEC_LO | TIM_SET_SEC_HI | TIM_SET_SUB | TIM_CMD
  | TIM_FREQ | TIM_LAST_STEP | TIM_SERVO_LIM | TIM_STEP_NS | TIM_DOM_CFG | TIM_DOM_CLASS | TIM_DOM_INTV
  | TIM_DOM_SERVO | TIM_DOM_STATUS | TIM_DOM_OFFSET | TIM_DOM_FREQ | TIM_DOM_PATH | TIM_DOM_GM_LO
  | TIM_DOM_GM_HI | TIM_PORT_CFG | TIM_PORT_STATUS | TIM_PORT_ASYM | TIM_PORT_LAT | TIM_PORT_CNT_PTP
  | TIM_PORT_CNT_DISCARD | TIM_SCH_CFG | TIM_SCH_START_LO | TIM_SCH_START_HI | TIM_SCH_START_SUB
  | TIM_SCH_PERIOD | TIM_SCH_WIDTH | TIM_SCH_COUNT | TIM_SCH_STATUS | TIM_CAP_SEC_LO | TIM_CAP_SEC_HI
  | TIM_CAP_SUB | TIM_CAP_STATUS | TIM_RING_CFG | TIM_RING_STATUS | TIM_RING_SEND | TIM_RING_LAST
  | TIM_RING_LOOP | TIM_RING_CNT_RX | TIM_RING_CNT_CRC | TIM_RING_CNT_DROP | HLM_STATUS | HLM_WDT
  | HLM_JOURNAL_USED | HLM_LAST_RESYNC | HLM_CKPT_SEQ | HLM_CNT_MISCOMPARE | HLM_CNT_REPLAY
  | HLM_CNT_NOTICE_DROP | PWR_MODE_REQ | PWR_MODE_STATUS | PWR_DOM_STATUS | PWR_DOM_PENDING | PWR_DOM_CMD
  | PWR_INRUSH_CFG | PWR_INRUSH_LEVEL | PWR_SUPPLY | PWR_CMD | PWR_RESET_CAUSE | PWR_FAULT_SUMMARY
  | PWR_FAULT_CFG | PWR_REEF_LAST | PWR_CNT_WARN | PWR_CNT_REEF | PWR_CNT_REEF_DROP | PWR_DOM_POLICY
  | BOOT_STATUS | BOOT_CMD | BOOT_ADDR | BOOT_LEN | BOOT_SRC_LO | BOOT_SRC_HI | BOOT_PROGRESS | BOOT_SEQ_ACTIVE
  | BOOT_SVN | BOOT_COMMIT | BOOT_COMMIT_SEQ | BOOT_CNT_STAGED_DISCARD | BOOT_FLASH_INFO | BOOT_MBX_CMD
  | BOOT_MBX_STATUS | BOOT_MBX_CFG | SES_ETH_CFG | SES_ETH_IP4 | SES_ETH_TIMEOUT | SES_STATUS
  | SES_CNT_AUTH_FAIL | SES_CNT_REPLAY | SES_CNT_BAD_TAG
  deriving DecidableEq, Repr

end Sys2Proof.Machine
end

