-- ==== Sys2Proof/Machine/Fields.lean ====
section
/-!
DEFINITION. The named fields of the registers, as the field tables of the chapters give them: the register, the
lowest bit and the width.
-/

namespace Sys2Proof.Machine

/-- A field of a register: bits `lo` to `lo + width - 1`. -/
structure Fld where
  reg : Reg
  lo : Nat
  width : Nat
  deriving DecidableEq, Repr

namespace F

abbrev LNK_CTRL_ENABLE : Fld := ⟨.LNK_CTRL, 0, 1⟩
abbrev LNK_CTRL_TX_INVERT : Fld := ⟨.LNK_CTRL, 1, 1⟩
abbrev LNK_CTRL_RX_POL_AUTO : Fld := ⟨.LNK_CTRL, 2, 1⟩
abbrev LNK_CTRL_RX_INVERT : Fld := ⟨.LNK_CTRL, 3, 1⟩
abbrev LNK_CTRL_DOZE_EN : Fld := ⟨.LNK_CTRL, 4, 1⟩
abbrev LNK_CTRL_WAKE_ON_SIGNAL : Fld := ⟨.LNK_CTRL, 5, 1⟩
abbrev LNK_CTRL_DEEP_REQ : Fld := ⟨.LNK_CTRL, 6, 1⟩
abbrev LNK_CTRL_RETRAIN : Fld := ⟨.LNK_CTRL, 7, 1⟩
abbrev LNK_CTRL_LOOPBACK : Fld := ⟨.LNK_CTRL, 8, 2⟩
abbrev LNK_STATUS_STATE : Fld := ⟨.LNK_STATUS, 0, 4⟩
abbrev LNK_STATUS_SIG_DET : Fld := ⟨.LNK_STATUS, 4, 1⟩
abbrev LNK_STATUS_CDR_LOCK : Fld := ⟨.LNK_STATUS, 5, 1⟩
abbrev LNK_STATUS_BLOCK_LOCK : Fld := ⟨.LNK_STATUS, 6, 1⟩
abbrev LNK_STATUS_RX_INVERTED : Fld := ⟨.LNK_STATUS, 7, 1⟩
abbrev LNK_STATUS_SUSPECT : Fld := ⟨.LNK_STATUS, 8, 1⟩
abbrev LNK_STATUS_REBUILT : Fld := ⟨.LNK_STATUS, 9, 1⟩
abbrev LNK_STATUS_LOST : Fld := ⟨.LNK_STATUS, 10, 1⟩
abbrev LNK_STATUS_TRAIN_FAIL : Fld := ⟨.LNK_STATUS, 11, 1⟩
abbrev LNK_STATUS_LANE_ID : Fld := ⟨.LNK_STATUS, 16, 4⟩
abbrev LNK_PORT_CFG_WIDTH : Fld := ⟨.LNK_PORT_CFG, 0, 3⟩
abbrev LNK_PORT_CFG_PARITY : Fld := ⟨.LNK_PORT_CFG, 3, 1⟩
abbrev LNK_PORT_CFG_REVERSAL_ALLOW : Fld := ⟨.LNK_PORT_CFG, 4, 1⟩
abbrev LNK_PORT_CFG_NARROW_EN : Fld := ⟨.LNK_PORT_CFG, 5, 1⟩
abbrev LNK_PORT_CFG_RESTORE_AUTO : Fld := ⟨.LNK_PORT_CFG, 6, 1⟩
abbrev LNK_PORT_CFG_READMIT_TRIES : Fld := ⟨.LNK_PORT_CFG, 8, 4⟩
abbrev LNK_PORT_STATUS_ACTIVE_MASK : Fld := ⟨.LNK_PORT_STATUS, 0, 16⟩
abbrev LNK_PORT_STATUS_UP : Fld := ⟨.LNK_PORT_STATUS, 16, 1⟩
abbrev LNK_PORT_STATUS_DEGRADED : Fld := ⟨.LNK_PORT_STATUS, 17, 1⟩
abbrev LNK_PORT_STATUS_PARITY_ACTIVE : Fld := ⟨.LNK_PORT_STATUS, 18, 1⟩
abbrev LNK_PORT_STATUS_REBUILDING : Fld := ⟨.LNK_PORT_STATUS, 19, 1⟩
abbrev LNK_PORT_STATUS_WIDTH_ERR : Fld := ⟨.LNK_PORT_STATUS, 20, 1⟩
abbrev LNK_PORT_STATUS_ORDER_ERR : Fld := ⟨.LNK_PORT_STATUS, 21, 1⟩
abbrev LNK_PORT_STATUS_REVERSED : Fld := ⟨.LNK_PORT_STATUS, 22, 1⟩
abbrev LNK_PORT_STATUS_SKEW_ERR : Fld := ⟨.LNK_PORT_STATUS, 23, 1⟩
abbrev LNK_PORT_STATUS_OUT_LANE : Fld := ⟨.LNK_PORT_STATUS, 24, 4⟩
abbrev LNK_TRAIN_MODE : Fld := ⟨.LNK_TRAIN, 0, 2⟩
abbrev LNK_TRAIN_PRESET : Fld := ⟨.LNK_TRAIN, 2, 3⟩
abbrev LNK_TRAIN_TIMEOUT : Fld := ⟨.LNK_TRAIN, 8, 8⟩
abbrev LNK_TAPS_FAR_PRE : Fld := ⟨.LNK_TAPS, 0, 4⟩
abbrev LNK_TAPS_FAR_POST : Fld := ⟨.LNK_TAPS, 4, 5⟩
abbrev LNK_TAPS_FAR_MAIN : Fld := ⟨.LNK_TAPS, 9, 6⟩
abbrev LNK_TAPS_OWN_PRE : Fld := ⟨.LNK_TAPS, 15, 4⟩
abbrev LNK_TAPS_OWN_POST : Fld := ⟨.LNK_TAPS, 19, 5⟩
abbrev LNK_TAPS_OWN_MAIN : Fld := ⟨.LNK_TAPS, 24, 6⟩
abbrev LNK_PATTERN_GEN : Fld := ⟨.LNK_PATTERN, 0, 3⟩
abbrev LNK_PATTERN_CHK : Fld := ⟨.LNK_PATTERN, 4, 3⟩
abbrev LNK_PATTERN_CHK_LOCK : Fld := ⟨.LNK_PATTERN, 7, 1⟩
abbrev LNK_PATTERN_CLEAR : Fld := ⟨.LNK_PATTERN, 8, 1⟩
abbrev LNK_INJECT_TARGET : Fld := ⟨.LNK_INJECT, 0, 2⟩
abbrev LNK_INJECT_MODE : Fld := ⟨.LNK_INJECT, 2, 2⟩
abbrev LNK_INJECT_RATE_EXP : Fld := ⟨.LNK_INJECT, 4, 6⟩
abbrev LNK_INJECT_BURST : Fld := ⟨.LNK_INJECT, 10, 6⟩
abbrev LNK_INJECT_SHOT : Fld := ⟨.LNK_INJECT, 16, 1⟩
abbrev CAP_AXIS_SEL_SOURCE : Fld := ⟨.CAP_AXIS_SEL, 0, 8⟩
abbrev CAP_CTRL_CMD_PORT : Fld := ⟨.CAP_CTRL_CMD, 0, 6⟩
abbrev CAP_CTRL_CMD_OP : Fld := ⟨.CAP_CTRL_CMD, 8, 8⟩
abbrev CAP_CTRL_CMD_COUNT : Fld := ⟨.CAP_CTRL_CMD, 16, 9⟩
abbrev CAP_CTRL_CMD_GO : Fld := ⟨.CAP_CTRL_CMD, 31, 1⟩
abbrev CAP_CTRL_STATUS_BUSY : Fld := ⟨.CAP_CTRL_STATUS, 0, 1⟩
abbrev CAP_CTRL_STATUS_DONE : Fld := ⟨.CAP_CTRL_STATUS, 1, 1⟩
abbrev CAP_CTRL_STATUS_TIMEOUT : Fld := ⟨.CAP_CTRL_STATUS, 2, 1⟩
abbrev CAP_CTRL_STATUS_PORT_DOWN : Fld := ⟨.CAP_CTRL_STATUS, 3, 1⟩
abbrev CAP_CTRL_STATUS_RESP_STATUS : Fld := ⟨.CAP_CTRL_STATUS, 8, 8⟩
abbrev CAP_CTRL_STATUS_RESP_COUNT : Fld := ⟨.CAP_CTRL_STATUS, 16, 9⟩
abbrev CAP_PORT_CLASS_CLASS : Fld := ⟨.CAP_PORT_CLASS, 0, 2⟩
abbrev CAP_PORT_CLASS_STORE : Fld := ⟨.CAP_PORT_CLASS, 2, 1⟩
abbrev CAP_PORT_CLASS_CUT_THROUGH : Fld := ⟨.CAP_PORT_CLASS, 3, 1⟩
abbrev CAP_PORT_CLASS_ANALYSE : Fld := ⟨.CAP_PORT_CLASS, 4, 1⟩
abbrev CAP_PORT_CLASS_MAST : Fld := ⟨.CAP_PORT_CLASS, 8, 4⟩
abbrev CAP_PORT_ROUTE_RING : Fld := ⟨.CAP_PORT_ROUTE, 0, 4⟩
abbrev CAP_PORT_ROUTE_DMA_CH : Fld := ⟨.CAP_PORT_ROUTE, 4, 5⟩
abbrev CAP_PORT_ROUTE_ASSOC_BEAM : Fld := ⟨.CAP_PORT_ROUTE, 9, 4⟩
abbrev CAP_PORT_ROUTE_CLOSE_TIMEOUT : Fld := ⟨.CAP_PORT_ROUTE, 13, 4⟩
abbrev CAP_CROP_ORIGIN_X : Fld := ⟨.CAP_CROP_ORIGIN, 0, 16⟩
abbrev CAP_CROP_ORIGIN_Y : Fld := ⟨.CAP_CROP_ORIGIN, 16, 16⟩
abbrev CAP_CROP_SIZE_W : Fld := ⟨.CAP_CROP_SIZE, 0, 16⟩
abbrev CAP_CROP_SIZE_H : Fld := ⟨.CAP_CROP_SIZE, 16, 16⟩
abbrev CAP_TRIG_CFG_SOURCE : Fld := ⟨.CAP_TRIG_CFG, 0, 3⟩
abbrev CAP_TRIG_CFG_SRC_INDEX : Fld := ⟨.CAP_TRIG_CFG, 3, 8⟩
abbrev CAP_TRIG_CFG_OUTPUT : Fld := ⟨.CAP_TRIG_CFG, 11, 2⟩
abbrev CAP_TRIG_CFG_PIN : Fld := ⟨.CAP_TRIG_CFG, 13, 3⟩
abbrev CAP_TRIG_CFG_PIN_POL : Fld := ⟨.CAP_TRIG_CFG, 16, 1⟩
abbrev CAP_TRIG_CFG_MARKS_ONLY : Fld := ⟨.CAP_TRIG_CFG, 17, 1⟩
abbrev CAP_TRIG_CFG_SOFT : Fld := ⟨.CAP_TRIG_CFG, 18, 1⟩
abbrev CAP_TRIG_TIMING_HOLDOFF : Fld := ⟨.CAP_TRIG_TIMING, 0, 10⟩
abbrev CAP_TRIG_TIMING_LATE_LIMIT : Fld := ⟨.CAP_TRIG_TIMING, 10, 10⟩
abbrev CAP_TRIG_TIMING_PIN_WIDTH : Fld := ⟨.CAP_TRIG_TIMING, 20, 12⟩
abbrev CAP_STAMP_CAL_BOARD_ADJ : Fld := ⟨.CAP_STAMP_CAL, 0, 16⟩
abbrev CAP_STAMP_CAL_PHY_LAT : Fld := ⟨.CAP_STAMP_CAL, 16, 12⟩
abbrev CAP_PORT_FLAGS_CAM_SILENT : Fld := ⟨.CAP_PORT_FLAGS, 0, 1⟩
abbrev CAP_PORT_FLAGS_PIN_CONFLICT : Fld := ⟨.CAP_PORT_FLAGS, 1, 1⟩
abbrev CAP_ENC_CMP_CFG_MODE : Fld := ⟨.CAP_ENC_CMP_CFG, 0, 2⟩
abbrev CAP_ENC_CMP_CFG_BASE : Fld := ⟨.CAP_ENC_CMP_CFG, 2, 14⟩
abbrev CAP_ENC_CMP_CFG_LENGTH : Fld := ⟨.CAP_ENC_CMP_CFG, 16, 15⟩
abbrev CAP_ENC_CMP_CFG_ARM : Fld := ⟨.CAP_ENC_CMP_CFG, 31, 1⟩
abbrev CAP_ENC_IN_ENABLE : Fld := ⟨.CAP_ENC_IN, 0, 1⟩
abbrev CAP_ENC_IN_DIR : Fld := ⟨.CAP_ENC_IN, 1, 1⟩
abbrev CAP_ENC_IN_Z_MODE : Fld := ⟨.CAP_ENC_IN, 2, 2⟩
abbrev CAP_ENC_IN_FILT : Fld := ⟨.CAP_ENC_IN, 4, 4⟩
abbrev CAP_SSI_CFG_BITS : Fld := ⟨.CAP_SSI_CFG, 0, 5⟩
abbrev CAP_SSI_CFG_GRAY : Fld := ⟨.CAP_SSI_CFG, 5, 1⟩
abbrev CAP_SSI_CFG_ENABLE : Fld := ⟨.CAP_SSI_CFG, 6, 1⟩
abbrev CAP_SSI_CFG_RATE : Fld := ⟨.CAP_SSI_CFG, 7, 4⟩
abbrev CAP_SSI_CFG_PERIOD : Fld := ⟨.CAP_SSI_CFG, 11, 16⟩
abbrev CAP_SSI_CFG_DLY : Fld := ⟨.CAP_SSI_CFG, 27, 5⟩
abbrev FST_CFG_SPAN_QUEUE : Fld := ⟨.FST_CFG, 0, 6⟩
abbrev FST_CFG_MIG_DMA : Fld := ⟨.FST_CFG, 6, 5⟩
abbrev FST_CFG_SCRUB_HOURS : Fld := ⟨.FST_CFG, 11, 8⟩
abbrev FST_STATUS_GRADE : Fld := ⟨.FST_STATUS, 0, 2⟩
abbrev FST_STATUS_INUSE_MASK : Fld := ⟨.FST_STATUS, 2, 12⟩
abbrev FST_STATUS_RETIRE_DENIED : Fld := ⟨.FST_STATUS, 14, 1⟩
abbrev FST_STATUS_RETIRE_BLOCKED : Fld := ⟨.FST_STATUS, 15, 1⟩
abbrev FST_STATUS_HOST_LIMIT : Fld := ⟨.FST_STATUS, 16, 6⟩
abbrev FST_LOAD_CFG_GRADE_CAP : Fld := ⟨.FST_LOAD_CFG, 0, 2⟩
abbrev FST_LOAD_CFG_EXCLUDE_MASK : Fld := ⟨.FST_LOAD_CFG, 2, 12⟩
abbrev FST_RETIRE_CFG_RETIRE_EN : Fld := ⟨.FST_RETIRE_CFG, 0, 1⟩
abbrev FST_RETIRE_CFG_CE_LIMIT : Fld := ⟨.FST_RETIRE_CFG, 1, 12⟩
abbrev FST_RETIRE_CFG_LEAK : Fld := ⟨.FST_RETIRE_CFG, 13, 8⟩
abbrev FST_RETIRE_CFG_MIG_RATE : Fld := ⟨.FST_RETIRE_CFG, 21, 5⟩
abbrev FST_RETIRE_CFG_FORCE_WRAP : Fld := ⟨.FST_RETIRE_CFG, 26, 6⟩
abbrev FST_MARK_CMD_RING : Fld := ⟨.FST_MARK_CMD, 0, 4⟩
abbrev FST_MARK_CMD_GO : Fld := ⟨.FST_MARK_CMD, 31, 1⟩
abbrev FST_SPAN_CMD_SPAN_ID : Fld := ⟨.FST_SPAN_CMD, 0, 12⟩
abbrev FST_SPAN_CMD_RING : Fld := ⟨.FST_SPAN_CMD, 12, 4⟩
abbrev FST_SPAN_CMD_OP : Fld := ⟨.FST_SPAN_CMD, 16, 2⟩
abbrev FST_CH_STATUS_STATE : Fld := ⟨.FST_CH_STATUS, 0, 3⟩
abbrev FST_CH_STATUS_RANKS : Fld := ⟨.FST_CH_STATUS, 3, 2⟩
abbrev FST_CH_STATUS_LRDIMM : Fld := ⟨.FST_CH_STATUS, 5, 1⟩
abbrev FST_CH_STATUS_SIZE : Fld := ⟨.FST_CH_STATUS, 6, 2⟩
abbrev FST_CH_ECC_INFO_UE : Fld := ⟨.FST_CH_ECC_INFO, 0, 1⟩
abbrev FST_CH_ECC_INFO_DEVICE : Fld := ⟨.FST_CH_ECC_INFO, 1, 5⟩
abbrev FST_CH_ECC_INFO_UNIT : Fld := ⟨.FST_CH_ECC_INFO, 6, 6⟩
abbrev FST_CH_ECC_INFO_SCRUB : Fld := ⟨.FST_CH_ECC_INFO, 12, 1⟩
abbrev FST_RING_CFG_PRE_UNIT : Fld := ⟨.FST_RING_CFG, 0, 1⟩
abbrev FST_RING_CFG_HOST_WRITE : Fld := ⟨.FST_RING_CFG, 1, 1⟩
abbrev FST_RING_CFG_SPILL_EN : Fld := ⟨.FST_RING_CFG, 2, 1⟩
abbrev FST_RING_CFG_SPILL_DMA : Fld := ⟨.FST_RING_CFG, 3, 5⟩
abbrev FST_RING_CFG_HOLD : Fld := ⟨.FST_RING_CFG, 8, 8⟩
abbrev FST_RING_CFG_OPAQUE_MAX : Fld := ⟨.FST_RING_CFG, 16, 16⟩
abbrev FST_RING_STATUS_RING_FULL : Fld := ⟨.FST_RING_STATUS, 0, 1⟩
abbrev FST_RING_STATUS_FULL_SEEN : Fld := ⟨.FST_RING_STATUS, 1, 1⟩
abbrev FST_RING_STATUS_SET_CUR : Fld := ⟨.FST_RING_STATUS, 2, 12⟩
abbrev FST_RING_STATUS_SET_PREV : Fld := ⟨.FST_RING_STATUS, 14, 12⟩
abbrev MST_CFG_MP_SPARS : Fld := ⟨.MST_CFG, 0, 4⟩
abbrev MST_CFG_CAL_MIN : Fld := ⟨.MST_CFG, 4, 6⟩
abbrev MST_CFG_SELFTEST_EN : Fld := ⟨.MST_CFG, 10, 1⟩
abbrev MST_CLASS_WD_WD_MP : Fld := ⟨.MST_CLASS_WD, 0, 6⟩
abbrev MST_CLASS_WD_WD_FRAME : Fld := ⟨.MST_CLASS_WD, 8, 6⟩
abbrev MST_CLASS_WD_WD_CAL : Fld := ⟨.MST_CLASS_WD, 16, 5⟩
abbrev MST_STATUS_VISIBLE : Fld := ⟨.MST_STATUS, 0, 7⟩
abbrev MST_STATUS_SPARES_LEFT : Fld := ⟨.MST_STATUS, 7, 2⟩
abbrev MST_STATUS_MP_EXCESS : Fld := ⟨.MST_STATUS, 9, 1⟩
abbrev MST_STATUS_CFG_ERR : Fld := ⟨.MST_STATUS, 10, 1⟩
abbrev MST_STATUS_FAULT_PENDING : Fld := ⟨.MST_STATUS, 11, 1⟩
abbrev MST_STATUS_FAULT_OVF : Fld := ⟨.MST_STATUS, 12, 1⟩
abbrev MST_STATUS_RELOAD : Fld := ⟨.MST_STATUS, 13, 1⟩
abbrev MST_FAULT0_SPAR : Fld := ⟨.MST_FAULT0, 0, 7⟩
abbrev MST_FAULT0_REPLACEMENT : Fld := ⟨.MST_FAULT0, 8, 7⟩
abbrev MST_FAULT0_CAUSE : Fld := ⟨.MST_FAULT0, 15, 4⟩
abbrev MST_FAULT0_STREAM : Fld := ⟨.MST_FAULT0, 19, 3⟩
abbrev MST_FAULT0_VALID : Fld := ⟨.MST_FAULT0, 22, 1⟩
abbrev MST_SPARE_USE_SLOT64 : Fld := ⟨.MST_SPARE_USE, 0, 6⟩
abbrev MST_SPARE_USE_USED64 : Fld := ⟨.MST_SPARE_USE, 6, 1⟩
abbrev MST_SPARE_USE_SLOT65 : Fld := ⟨.MST_SPARE_USE, 8, 6⟩
abbrev MST_SPARE_USE_USED65 : Fld := ⟨.MST_SPARE_USE, 14, 1⟩
abbrev MST_STREAM_CFG_PORT : Fld := ⟨.MST_STREAM_CFG, 0, 6⟩
abbrev MST_STREAM_CFG_ENABLE : Fld := ⟨.MST_STREAM_CFG, 6, 1⟩
abbrev MST_STREAM_CFG_EARLY : Fld := ⟨.MST_STREAM_CFG, 7, 1⟩
abbrev MST_STREAM_CFG_ENTRY : Fld := ⟨.MST_STREAM_CFG, 8, 13⟩
abbrev MST_STREAM_CFG_QUEUE : Fld := ⟨.MST_STREAM_CFG, 21, 6⟩
abbrev MST_STREAM_CFG_QPRI : Fld := ⟨.MST_STREAM_CFG, 27, 3⟩
abbrev MST_STREAM_TILE_TILE_W : Fld := ⟨.MST_STREAM_TILE, 0, 11⟩
abbrev MST_STREAM_TILE_TILE_H : Fld := ⟨.MST_STREAM_TILE, 11, 11⟩
abbrev MST_STREAM_TILE_HALO : Fld := ⟨.MST_STREAM_TILE, 22, 4⟩
abbrev MST_STREAM_BUF_BUF_BASE : Fld := ⟨.MST_STREAM_BUF, 0, 15⟩
abbrev MST_STREAM_BUF_BUF_LINES : Fld := ⟨.MST_STREAM_BUF, 15, 15⟩
abbrev MST_STREAM_RED_RED_ENTRY : Fld := ⟨.MST_STREAM_RED, 0, 13⟩
abbrev MST_STREAM_RED_RED_EN : Fld := ⟨.MST_STREAM_RED, 13, 1⟩
abbrev MST_STREAM_RED_SLOT_BASE : Fld := ⟨.MST_STREAM_RED, 14, 13⟩
abbrev MST_STREAM_RED_SLOT_FRAMES : Fld := ⟨.MST_STREAM_RED, 27, 4⟩
abbrev SHT_CFG_ENABLE : Fld := ⟨.SHT_CFG, 0, 1⟩
abbrev SHT_CFG_LOOP_EN : Fld := ⟨.SHT_CFG, 1, 1⟩
abbrev SHT_CFG_INVERT : Fld := ⟨.SHT_CFG, 2, 1⟩
abbrev SHT_CFG_D_ON_MEAS : Fld := ⟨.SHT_CFG, 3, 1⟩
abbrev SHT_CFG_INT_MODE : Fld := ⟨.SHT_CFG, 4, 1⟩
abbrev SHT_CFG_SRC_MAST : Fld := ⟨.SHT_CFG, 5, 4⟩
abbrev SHT_CFG_SRC_STREAM : Fld := ⟨.SHT_CFG, 9, 3⟩
abbrev SHT_CFG_BQ_EN : Fld := ⟨.SHT_CFG, 12, 4⟩
abbrev SHT_CFG_FEAT_SEL : Fld := ⟨.SHT_CFG, 16, 4⟩
abbrev SHT_CFG_F_SHIFT : Fld := ⟨.SHT_CFG, 20, 5⟩
abbrev SHT_STATUS_STATE : Fld := ⟨.SHT_STATUS, 0, 3⟩
abbrev SHT_STATUS_LIM_PREV : Fld := ⟨.SHT_STATUS, 3, 2⟩
abbrev SHT_STATUS_ACTIVE : Fld := ⟨.SHT_STATUS, 5, 1⟩
abbrev SHT_STATUS_TUNE_REFUSED : Fld := ⟨.SHT_STATUS, 6, 1⟩
abbrev SHT_STATUS_CAPT_WRAP : Fld := ⟨.SHT_STATUS, 7, 1⟩
abbrev SHT_STATUS_FALLBACK_SEEN : Fld := ⟨.SHT_STATUS, 8, 1⟩
abbrev SHT_STATUS_MISS_RUN : Fld := ⟨.SHT_STATUS, 16, 8⟩
abbrev SHT_TIMING_SAMPLE_PERIOD : Fld := ⟨.SHT_TIMING, 0, 16⟩
abbrev SHT_TIMING_MISS_MARGIN : Fld := ⟨.SHT_TIMING, 16, 16⟩
abbrev SHT_MISS_HOLD_SAMPLES : Fld := ⟨.SHT_MISS, 0, 8⟩
abbrev SHT_MISS_REENGAGE : Fld := ⟨.SHT_MISS, 8, 4⟩
abbrev SHT_MISS_REJECT : Fld := ⟨.SHT_MISS, 16, 8⟩
abbrev SHT_MISS_ENGAGE_DELAY : Fld := ⟨.SHT_MISS, 24, 8⟩
abbrev SHT_FS_LAG_FS_LAG : Fld := ⟨.SHT_FS_LAG, 0, 16⟩
abbrev SHT_TUNE_INJ_MODE : Fld := ⟨.SHT_TUNE, 0, 2⟩
abbrev SHT_TUNE_INJ_POINT : Fld := ⟨.SHT_TUNE, 2, 1⟩
abbrev SHT_TUNE_PRBS_LEN : Fld := ⟨.SHT_TUNE, 3, 4⟩
abbrev SHT_TUNE_PRBS_HOLD : Fld := ⟨.SHT_TUNE, 7, 4⟩
abbrev SHT_TUNE_CAPTURE : Fld := ⟨.SHT_TUNE, 11, 1⟩
abbrev SHT_TUNE_BUILD_OK : Fld := ⟨.SHT_TUNE, 12, 1⟩
abbrev SHT_CMD_START : Fld := ⟨.SHT_CMD, 0, 1⟩
abbrev SHT_CMD_STOP : Fld := ⟨.SHT_CMD, 1, 1⟩
abbrev SHT_CMD_RESET_STATE : Fld := ⟨.SHT_CMD, 2, 1⟩
abbrev SHT_LAST_OUT_C : Fld := ⟨.SHT_LAST_OUT, 0, 16⟩
abbrev BCH_CFG_OUT_SEL : Fld := ⟨.BCH_CFG, 0, 2⟩
abbrev BCH_CFG_HYBRID_EN : Fld := ⟨.BCH_CFG, 2, 1⟩
abbrev BCH_CFG_FIRE_MODE : Fld := ⟨.BCH_CFG, 3, 1⟩
abbrev BCH_CFG_PACE_SRC : Fld := ⟨.BCH_CFG, 4, 1⟩
abbrev BCH_CFG_ENC_SEL : Fld := ⟨.BCH_CFG, 5, 4⟩
abbrev BCH_CFG_ENC_SIGN : Fld := ⟨.BCH_CFG, 9, 1⟩
abbrev BCH_CFG_DIG_RATE : Fld := ⟨.BCH_CFG, 10, 2⟩
abbrev BCH_CFG_ROT_GROUP : Fld := ⟨.BCH_CFG, 12, 3⟩
abbrev BCH_CFG_READY_POL : Fld := ⟨.BCH_CFG, 15, 1⟩
abbrev BCH_CFG_ALARM_POL : Fld := ⟨.BCH_CFG, 16, 1⟩
abbrev BCH_CFG_BREFL_POL : Fld := ⟨.BCH_CFG, 17, 1⟩
abbrev BCH_CFG_READY_REQ : Fld := ⟨.BCH_CFG, 18, 1⟩
abbrev BCH_CFG_DEFAULT_PROFILE : Fld := ⟨.BCH_CFG, 19, 3⟩
abbrev BCH_STATUS_OUT_STATE : Fld := ⟨.BCH_STATUS, 0, 3⟩
abbrev BCH_STATUS_EMIT : Fld := ⟨.BCH_STATUS, 3, 1⟩
abbrev BCH_STATUS_GATE_OPEN : Fld := ⟨.BCH_STATUS, 4, 1⟩
abbrev BCH_STATUS_READY : Fld := ⟨.BCH_STATUS, 5, 1⟩
abbrev BCH_STATUS_ALARM : Fld := ⟨.BCH_STATUS, 6, 1⟩
abbrev BCH_STATUS_BREFL : Fld := ⟨.BCH_STATUS, 7, 1⟩
abbrev BCH_STATUS_DIR : Fld := ⟨.BCH_STATUS, 8, 1⟩
abbrev BCH_STATUS_HELD : Fld := ⟨.BCH_STATUS, 9, 1⟩
abbrev BCH_STATUS_PROFILE : Fld := ⟨.BCH_STATUS, 10, 3⟩
abbrev BCH_STATUS_BELOW_KNEE : Fld := ⟨.BCH_STATUS, 13, 1⟩
abbrev BCH_STATUS_METER : Fld := ⟨.BCH_STATUS, 14, 1⟩
abbrev BCH_FAULT_WD_ON_TIME : Fld := ⟨.BCH_FAULT, 0, 1⟩
abbrev BCH_FAULT_WD_DWELL : Fld := ⟨.BCH_FAULT, 1, 1⟩
abbrev BCH_FAULT_WD_METER : Fld := ⟨.BCH_FAULT, 2, 1⟩
abbrev BCH_FAULT_WD_NO_COPY : Fld := ⟨.BCH_FAULT, 3, 1⟩
abbrev BCH_FAULT_ALARM_CUT : Fld := ⟨.BCH_FAULT, 4, 1⟩
abbrev BCH_FAULT_BREFL_CUT : Fld := ⟨.BCH_FAULT, 5, 1⟩
abbrev BCH_FAULT_READY_LOST : Fld := ⟨.BCH_FAULT, 6, 1⟩
abbrev BCH_FAULT_PROF_ERR : Fld := ⟨.BCH_FAULT, 7, 1⟩
abbrev BCH_FAULT_METER_FAULT : Fld := ⟨.BCH_FAULT, 8, 1⟩
abbrev BCH_HYBRID_KNEE : Fld := ⟨.BCH_HYBRID, 0, 16⟩
abbrev BCH_HYBRID_MOD_FREQ : Fld := ⟨.BCH_HYBRID, 16, 11⟩
abbrev BCH_OUT_CFG_MIN_ON : Fld := ⟨.BCH_OUT_CFG, 0, 10⟩
abbrev BCH_OUT_CFG_IDLE_CODE : Fld := ⟨.BCH_OUT_CFG, 16, 16⟩
abbrev BCH_PITCH_PITCH : Fld := ⟨.BCH_PITCH, 0, 24⟩
abbrev BCH_PULSE_PULSE_W : Fld := ⟨.BCH_PULSE, 0, 16⟩
abbrev BCH_TRACK_K1 : Fld := ⟨.BCH_TRACK, 0, 16⟩
abbrev BCH_TRACK_K2 : Fld := ⟨.BCH_TRACK, 16, 16⟩
abbrev BCH_REVERSAL_WINDOW : Fld := ⟨.BCH_REVERSAL, 0, 4⟩
abbrev BCH_TIME_OFS_OFS : Fld := ⟨.BCH_TIME_OFS, 0, 16⟩
abbrev BCH_EMIT_DLY_ON_DLY : Fld := ⟨.BCH_EMIT_DLY, 0, 16⟩
abbrev BCH_EMIT_DLY_OFF_DLY : Fld := ⟨.BCH_EMIT_DLY, 16, 16⟩
abbrev BCH_HATCH_AXIS_COS : Fld := ⟨.BCH_HATCH_AXIS, 0, 16⟩
abbrev BCH_HATCH_AXIS_SIN : Fld := ⟨.BCH_HATCH_AXIS, 16, 16⟩
abbrev BCH_CAL_POWER_CAL_POWER : Fld := ⟨.BCH_CAL_POWER, 0, 16⟩
abbrev BCH_GAIN_GAIN : Fld := ⟨.BCH_GAIN, 0, 16⟩
abbrev BCH_METER_CFG_ALPHA : Fld := ⟨.BCH_METER_CFG, 0, 8⟩
abbrev BCH_METER_CFG_GAIN_STEP : Fld := ⟨.BCH_METER_CFG, 8, 8⟩
abbrev BCH_GAIN_LIMIT_MIN : Fld := ⟨.BCH_GAIN_LIMIT, 0, 16⟩
abbrev BCH_GAIN_LIMIT_MAX : Fld := ⟨.BCH_GAIN_LIMIT, 16, 16⟩
abbrev BCH_METER_LAST_P_MEAS : Fld := ⟨.BCH_METER_LAST, 0, 16⟩
abbrev BCH_METER_LAST_PROFILE : Fld := ⟨.BCH_METER_LAST, 16, 3⟩
abbrev BCH_METER_LAST_INPUT : Fld := ⟨.BCH_METER_LAST, 19, 2⟩
abbrev BCH_WD_ON_MAX_ON : Fld := ⟨.BCH_WD_ON, 0, 16⟩
abbrev BCH_WD_ON_METER_MAX_ON : Fld := ⟨.BCH_WD_ON, 16, 16⟩
abbrev BCH_WD_DWELL_V_MIN : Fld := ⟨.BCH_WD_DWELL, 0, 16⟩
abbrev BCH_WD_DWELL_T_DWELL : Fld := ⟨.BCH_WD_DWELL, 16, 16⟩
abbrev BCH_WD_PWR_P_DWELL : Fld := ⟨.BCH_WD_PWR, 0, 16⟩
abbrev BCH_WD_PWR_SVC_EXEMPT : Fld := ⟨.BCH_WD_PWR, 16, 1⟩
abbrev BCH_PERMIT_A : Fld := ⟨.BCH_PERMIT, 0, 1⟩
abbrev BCH_PERMIT_B : Fld := ⟨.BCH_PERMIT, 1, 1⟩
abbrev BCH_PERMIT_PERMIT : Fld := ⟨.BCH_PERMIT, 2, 1⟩
abbrev BCH_PERMIT_PERMIT_FAULT : Fld := ⟨.BCH_PERMIT, 3, 1⟩
abbrev BCH_PERMIT_CFG_DISC_TIME : Fld := ⟨.BCH_PERMIT_CFG, 0, 8⟩
abbrev BCH_ROT_CFG_T_ROT : Fld := ⟨.BCH_ROT_CFG, 0, 16⟩
abbrev BCH_ROT_CFG_FIRST : Fld := ⟨.BCH_ROT_CFG, 16, 4⟩
abbrev SCN_CFG_ENABLE : Fld := ⟨.SCN_CFG, 0, 1⟩
abbrev SCN_CFG_SRC : Fld := ⟨.SCN_CFG, 1, 1⟩
abbrev SCN_CFG_CLR_PART : Fld := ⟨.SCN_CFG, 2, 1⟩
abbrev SCN_CFG_TEMP_EN : Fld := ⟨.SCN_CFG, 3, 1⟩
abbrev SCN_CFG_CAL_EN : Fld := ⟨.SCN_CFG, 4, 1⟩
abbrev SCN_STATUS_STATE : Fld := ⟨.SCN_STATUS, 0, 3⟩
abbrev SCN_STATUS_PSTATE : Fld := ⟨.SCN_STATUS, 3, 3⟩
abbrev SCN_STATUS_CAUSE_CLEAR : Fld := ⟨.SCN_STATUS, 6, 1⟩
abbrev SCN_STATUS_CAUSE_LATE : Fld := ⟨.SCN_STATUS, 7, 1⟩
abbrev SCN_STATUS_CAUSE_REEF : Fld := ⟨.SCN_STATUS, 8, 1⟩
abbrev SCN_STATUS_CAUSE_TEMP : Fld := ⟨.SCN_STATUS, 9, 1⟩
abbrev SCN_STATUS_DERATED : Fld := ⟨.SCN_STATUS, 10, 1⟩
abbrev SCN_STATUS_HALT_CAUSE : Fld := ⟨.SCN_STATUS, 11, 4⟩
abbrev SCN_STATUS_LINK_UP : Fld := ⟨.SCN_STATUS, 15, 1⟩
abbrev SCN_STATUS_HEAD_READY : Fld := ⟨.SCN_STATUS, 16, 1⟩
abbrev SCN_STATUS_CMD_REFUSED : Fld := ⟨.SCN_STATUS, 17, 1⟩
abbrev SCN_STATUS_STREAM_LOW : Fld := ⟨.SCN_STATUS, 18, 1⟩
abbrev SCN_CMD_START : Fld := ⟨.SCN_CMD, 0, 1⟩
abbrev SCN_CMD_STOP : Fld := ⟨.SCN_CMD, 1, 1⟩
abbrev SCN_CMD_RESTART : Fld := ⟨.SCN_CMD, 2, 1⟩
abbrev SCN_CMD_RESTART_MODE : Fld := ⟨.SCN_CMD, 3, 2⟩
abbrev SCN_MOTION_A_PAUSE : Fld := ⟨.SCN_MOTION, 0, 16⟩
abbrev SCN_MOTION_A_JUMP : Fld := ⟨.SCN_MOTION, 16, 16⟩
abbrev SCN_RAMP_L_RAMP : Fld := ⟨.SCN_RAMP, 0, 16⟩
abbrev SCN_RAMP_L_SETTLE : Fld := ⟨.SCN_RAMP, 16, 16⟩
abbrev SCN_SPEED0_V_MARK0 : Fld := ⟨.SCN_SPEED0, 0, 16⟩
abbrev SCN_SPEED0_V_JUMP0 : Fld := ⟨.SCN_SPEED0, 16, 16⟩
abbrev SCN_JUMP_JUMP_SETTLE : Fld := ⟨.SCN_JUMP, 0, 16⟩
abbrev SCN_HEAD_HEAD_LAT : Fld := ⟨.SCN_HEAD, 0, 16⟩
abbrev SCN_HEAD_LOST_TIME : Fld := ⟨.SCN_HEAD, 16, 8⟩
abbrev SCN_TEMP_TEMP_LIMIT : Fld := ⟨.SCN_TEMP, 0, 8⟩
abbrev SCN_TEMP_TEMP_HYST : Fld := ⟨.SCN_TEMP, 8, 8⟩
abbrev SCN_TEMP_DERATE : Fld := ⟨.SCN_TEMP, 16, 16⟩
abbrev SCN_GRACE_GRACE : Fld := ⟨.SCN_GRACE, 0, 16⟩
abbrev SCN_STREAM_CFG_LOW_WATER : Fld := ⟨.SCN_STREAM_CFG, 0, 13⟩
abbrev SCN_STREAM_CFG_RESUME_LEVEL : Fld := ⟨.SCN_STREAM_CFG, 16, 13⟩
abbrev SCN_STREAM_LEVEL_LEVEL : Fld := ⟨.SCN_STREAM_LEVEL, 0, 13⟩
abbrev SCN_HEAD_TEMP_TEMP : Fld := ⟨.SCN_HEAD_TEMP, 0, 8⟩
abbrev SCN_HEAD_TEMP_STATUS : Fld := ⟨.SCN_HEAD_TEMP, 8, 4⟩
abbrev SCN_CLR_CFG_CLR_EN : Fld := ⟨.SCN_CLR_CFG, 0, 1⟩
abbrev SCN_CLR_CFG_PLUME_EN : Fld := ⟨.SCN_CLR_CFG, 1, 1⟩
abbrev SCN_CLR_CFG_CLEAR_HOLD : Fld := ⟨.SCN_CLR_CFG, 8, 8⟩
abbrev SCN_FLOW_COS : Fld := ⟨.SCN_FLOW, 0, 16⟩
abbrev SCN_FLOW_SIN : Fld := ⟨.SCN_FLOW, 16, 16⟩
abbrev SCN_PLUME_PLUME_LEN : Fld := ⟨.SCN_PLUME, 0, 16⟩
abbrev SCN_PLUME_TAN_HALF : Fld := ⟨.SCN_PLUME, 16, 16⟩
abbrev SCN_CAL_CFG_GAIN_CAL : Fld := ⟨.SCN_CAL_CFG, 0, 8⟩
abbrev SCN_CAL_CFG_W_MIN : Fld := ⟨.SCN_CAL_CFG, 8, 8⟩
abbrev SCN_CAL_LIMIT_STEP_MAX : Fld := ⟨.SCN_CAL_LIMIT, 0, 16⟩
abbrev SCN_CAL_LIMIT_Q_MIN : Fld := ⟨.SCN_CAL_LIMIT, 16, 16⟩
abbrev LUM_CH_CFG_MODE : Fld := ⟨.LUM_CH_CFG, 0, 2⟩
abbrev LUM_CH_CFG_SYNC_SRC : Fld := ⟨.LUM_CH_CFG, 2, 2⟩
abbrev LUM_CH_CFG_SYNC_IDX : Fld := ⟨.LUM_CH_CFG, 4, 8⟩
abbrev LUM_CH_CFG_VF_EN : Fld := ⟨.LUM_CH_CFG, 12, 1⟩
abbrev LUM_CH_CFG_DIM_FREQ : Fld := ⟨.LUM_CH_CFG, 16, 13⟩
abbrev LUM_CH_STATUS_LIT : Fld := ⟨.LUM_CH_STATUS, 0, 1⟩
abbrev LUM_CH_STATUS_DIAG : Fld := ⟨.LUM_CH_STATUS, 1, 2⟩
abbrev LUM_CH_STATUS_VF_WARN : Fld := ⟨.LUM_CH_STATUS, 3, 1⟩
abbrev LUM_CH_STATUS_CMD_REFUSED : Fld := ⟨.LUM_CH_STATUS, 4, 1⟩
abbrev LUM_CH_FAULT_OPEN : Fld := ⟨.LUM_CH_FAULT, 0, 1⟩
abbrev LUM_CH_FAULT_SHORT : Fld := ⟨.LUM_CH_FAULT, 1, 1⟩
abbrev LUM_CH_FAULT_OVERCURRENT : Fld := ⟨.LUM_CH_FAULT, 2, 1⟩
abbrev LUM_CH_FAULT_FET_FAULT : Fld := ⟨.LUM_CH_FAULT, 3, 1⟩
abbrev LUM_CH_LEVEL_LEVEL : Fld := ⟨.LUM_CH_LEVEL, 0, 16⟩
abbrev LUM_CH_LEVEL_VF_LEVEL : Fld := ⟨.LUM_CH_LEVEL, 16, 16⟩
abbrev LUM_CH_STROBE_STROBE_DLY : Fld := ⟨.LUM_CH_STROBE, 0, 16⟩
abbrev LUM_CH_STROBE_STROBE_W : Fld := ⟨.LUM_CH_STROBE, 16, 16⟩
abbrev LUM_CH_EXP_EXP_DLY : Fld := ⟨.LUM_CH_EXP, 0, 16⟩
abbrev LUM_CH_EXP_EXP_LEN : Fld := ⟨.LUM_CH_EXP, 16, 16⟩
abbrev LUM_CH_DIAG_VF_SHORT : Fld := ⟨.LUM_CH_DIAG, 0, 16⟩
abbrev LUM_CH_DIAG_DIAG_PERIOD : Fld := ⟨.LUM_CH_DIAG, 16, 16⟩
abbrev LUM_CH_VF_VF_LAST : Fld := ⟨.LUM_CH_VF, 0, 16⟩
abbrev LUM_CH_VF_LIM_VF_MIN : Fld := ⟨.LUM_CH_VF_LIM, 0, 16⟩
abbrev LUM_CH_VF_LIM_VF_MAX : Fld := ⟨.LUM_CH_VF_LIM, 16, 16⟩
abbrev LUM_PROJ_CFG_ENABLE : Fld := ⟨.LUM_PROJ_CFG, 0, 1⟩
abbrev LUM_PROJ_CFG_SYNC_EN : Fld := ⟨.LUM_PROJ_CFG, 1, 1⟩
abbrev LUM_PROJ_CFG_SYNC_POL : Fld := ⟨.LUM_PROJ_CFG, 2, 1⟩
abbrev LUM_PROJ_CFG_PIX_AUTO : Fld := ⟨.LUM_PROJ_CFG, 3, 1⟩
abbrev LUM_PROJ_CFG_MUX : Fld := ⟨.LUM_PROJ_CFG, 4, 3⟩
abbrev LUM_PROJ_CFG_ROWS : Fld := ⟨.LUM_PROJ_CFG, 7, 7⟩
abbrev LUM_PROJ_CFG_COLS : Fld := ⟨.LUM_PROJ_CFG, 14, 7⟩
abbrev LUM_PROJ_CFG_CLK : Fld := ⟨.LUM_PROJ_CFG, 21, 3⟩
abbrev LUM_PROJ_CFG_SEQ_EN : Fld := ⟨.LUM_PROJ_CFG, 24, 1⟩
abbrev LUM_PROJ_TIMING_T_LSB : Fld := ⟨.LUM_PROJ_TIMING, 0, 16⟩
abbrev LUM_PROJ_TIMING_T_PRE : Fld := ⟨.LUM_PROJ_TIMING, 16, 16⟩
abbrev LUM_PROJ_TEST_PIX_I_MIN : Fld := ⟨.LUM_PROJ_TEST, 0, 16⟩
abbrev LUM_PROJ_TEST_PIX_VF_MIN : Fld := ⟨.LUM_PROJ_TEST, 16, 16⟩
abbrev LUM_PROJ_STATUS_FRONT : Fld := ⟨.LUM_PROJ_STATUS, 0, 1⟩
abbrev LUM_PROJ_STATUS_SWAP_PENDING : Fld := ⟨.LUM_PROJ_STATUS, 1, 1⟩
abbrev LUM_PROJ_STATUS_CFG_ERR : Fld := ⟨.LUM_PROJ_STATUS, 2, 1⟩
abbrev LUM_PROJ_STATUS_TEST_RUN : Fld := ⟨.LUM_PROJ_STATUS, 3, 1⟩
abbrev LUM_PROJ_STATUS_TEST_ABORT : Fld := ⟨.LUM_PROJ_STATUS, 4, 1⟩
abbrev LUM_PROJ_STATUS_SEQ_RUN : Fld := ⟨.LUM_PROJ_STATUS, 5, 1⟩
abbrev LUM_PROJ_STATUS_SEQ_ERR : Fld := ⟨.LUM_PROJ_STATUS, 6, 1⟩
abbrev LUM_PROJ_STATUS_WORD : Fld := ⟨.LUM_PROJ_STATUS, 8, 10⟩
abbrev HAL_CFG_HOP_LIMIT : Fld := ⟨.HAL_CFG, 0, 4⟩
abbrev HAL_CFG_NOTIFY_VEC : Fld := ⟨.HAL_CFG, 4, 11⟩
abbrev HAL_ORPHAN_HALYARD : Fld := ⟨.HAL_ORPHAN, 0, 8⟩
abbrev HAL_ORPHAN_SET : Fld := ⟨.HAL_ORPHAN, 8, 1⟩
abbrev HAL_ORPHAN_MORE : Fld := ⟨.HAL_ORPHAN, 9, 1⟩
abbrev HAL_LOOP_HALYARD : Fld := ⟨.HAL_LOOP, 0, 8⟩
abbrev HAL_LOOP_SET : Fld := ⟨.HAL_LOOP, 8, 1⟩
abbrev HAL_LOOP_MORE : Fld := ⟨.HAL_LOOP, 9, 1⟩
abbrev HAL_DUP_HALYARD : Fld := ⟨.HAL_DUP, 0, 8⟩
abbrev HAL_DUP_SET : Fld := ⟨.HAL_DUP, 8, 1⟩
abbrev HAL_DUP_MORE : Fld := ⟨.HAL_DUP, 9, 1⟩
abbrev HAL_REFUSE_HALYARD : Fld := ⟨.HAL_REFUSE, 0, 8⟩
abbrev HAL_REFUSE_SET : Fld := ⟨.HAL_REFUSE, 8, 1⟩
abbrev HAL_REFUSE_MORE : Fld := ⟨.HAL_REFUSE, 9, 1⟩
abbrev HAL_REFUSE_REQUESTER : Fld := ⟨.HAL_REFUSE, 10, 3⟩
abbrev HAL_REFUSE_WHAT : Fld := ⟨.HAL_REFUSE, 13, 2⟩
abbrev HAL_PUBLISH_HALYARD : Fld := ⟨.HAL_PUBLISH, 0, 8⟩
abbrev HAL_PUBLISH_CODE : Fld := ⟨.HAL_PUBLISH, 8, 8⟩
abbrev HAL_PUBLISH_HOPS : Fld := ⟨.HAL_PUBLISH, 16, 4⟩
abbrev HAL_PUBLISH_GO : Fld := ⟨.HAL_PUBLISH, 31, 1⟩
abbrev HAL_ATTR_OWNER : Fld := ⟨.HAL_ATTR, 0, 2⟩
abbrev HAL_ATTR_MAST : Fld := ⟨.HAL_ATTR, 2, 4⟩
abbrev HAL_ATTR_SECURE : Fld := ⟨.HAL_ATTR, 6, 1⟩
abbrev HAL_SUB_PRIMARY : Fld := ⟨.HAL_SUB, 0, 8⟩
abbrev HAL_SUB_PRI_EN : Fld := ⟨.HAL_SUB, 8, 1⟩
abbrev HAL_SUB_SECONDARY : Fld := ⟨.HAL_SUB, 16, 8⟩
abbrev HAL_SUB_SEC_EN : Fld := ⟨.HAL_SUB, 24, 1⟩
abbrev HAL_TASK_STATUS_OVERRUN : Fld := ⟨.HAL_TASK_STATUS, 0, 1⟩
abbrev HAL_TASK_STATUS_COINCIDENT : Fld := ⟨.HAL_TASK_STATUS, 1, 1⟩
abbrev HAL_TASK_STATUS_PENDING : Fld := ⟨.HAL_TASK_STATUS, 2, 1⟩
abbrev HAL_TASK_STATUS_COINC_CNT : Fld := ⟨.HAL_TASK_STATUS, 8, 8⟩
abbrev HAL_TASK_STATUS_OVR_CNT : Fld := ⟨.HAL_TASK_STATUS, 16, 8⟩
abbrev HAL_PROD_BIND_HALYARD : Fld := ⟨.HAL_PROD_BIND, 0, 8⟩
abbrev HAL_PROD_BIND_EN : Fld := ⟨.HAL_PROD_BIND, 8, 1⟩
abbrev HAL_NOTIFY_VEC : Fld := ⟨.HAL_NOTIFY, 0, 11⟩
abbrev HAL_SEQ_CFG_ENTRY : Fld := ⟨.HAL_SEQ_CFG, 0, 11⟩
abbrev HAL_SEQ_CFG_OWNER : Fld := ⟨.HAL_SEQ_CFG, 12, 2⟩
abbrev PCE_STATUS_LINK_SPEED : Fld := ⟨.PCE_STATUS, 0, 4⟩
abbrev PCE_STATUS_LINK_WIDTH : Fld := ⟨.PCE_STATUS, 4, 5⟩
abbrev PCE_STATUS_DL_UP : Fld := ⟨.PCE_STATUS, 9, 1⟩
abbrev PCE_STATUS_READY : Fld := ⟨.PCE_STATUS, 10, 1⟩
abbrev PCE_STATUS_BME : Fld := ⟨.PCE_STATUS, 11, 1⟩
abbrev PCE_STATUS_FLR_ACTIVE : Fld := ⟨.PCE_STATUS, 12, 1⟩
abbrev PCE_STATUS_D3HOT : Fld := ⟨.PCE_STATUS, 13, 1⟩
abbrev PCE_STATUS_LINK_PM : Fld := ⟨.PCE_STATUS, 14, 3⟩
abbrev PCE_STATUS_LINK_DOWN_SEEN : Fld := ⟨.PCE_STATUS, 17, 1⟩
abbrev PCE_STATUS_HOT_RESET_SEEN : Fld := ⟨.PCE_STATUS, 18, 1⟩
abbrev PCE_STATUS_FLR_SEEN : Fld := ⟨.PCE_STATUS, 19, 1⟩
abbrev PCE_CTRL_EVENT_VEC : Fld := ⟨.PCE_CTRL, 0, 11⟩
abbrev PCE_CTRL_EVENT_EN : Fld := ⟨.PCE_CTRL, 11, 1⟩
abbrev PCE_ASPM_L0S_IDLE : Fld := ⟨.PCE_ASPM, 0, 8⟩
abbrev PCE_ASPM_L1_IDLE : Fld := ⟨.PCE_ASPM, 8, 10⟩
abbrev DMA_CFG_MODE : Fld := ⟨.DMA_CFG, 0, 1⟩
abbrev DMA_CFG_RO_EN : Fld := ⟨.DMA_CFG, 1, 1⟩
abbrev DMA_CFG_SHARE : Fld := ⟨.DMA_CFG, 2, 8⟩
abbrev DMA_CFG_DONE_VEC : Fld := ⟨.DMA_CFG, 10, 11⟩
abbrev DMA_CFG_ERR_VEC : Fld := ⟨.DMA_CFG, 21, 11⟩
abbrev DMA_STATUS_STATE : Fld := ⟨.DMA_STATUS, 0, 4⟩
abbrev DMA_STATUS_LAST_ERR : Fld := ⟨.DMA_STATUS, 4, 4⟩
abbrev DMA_STATUS_IN_FLIGHT : Fld := ⟨.DMA_STATUS, 8, 4⟩
abbrev DMA_STATUS_FLR_ABORT : Fld := ⟨.DMA_STATUS, 12, 1⟩
abbrev DMA_STATUS_CMD_REFUSED : Fld := ⟨.DMA_STATUS, 13, 1⟩
abbrev DMA_CMD_START : Fld := ⟨.DMA_CMD, 0, 1⟩
abbrev DMA_CMD_STOP : Fld := ⟨.DMA_CMD, 1, 1⟩
abbrev DMA_CMD_ABORT : Fld := ⟨.DMA_CMD, 2, 1⟩
abbrev QUE_CFG_BASE : Fld := ⟨.QUE_CFG, 0, 16⟩
abbrev QUE_CFG_K : Fld := ⟨.QUE_CFG, 16, 4⟩
abbrev QUE_STATUS_ITEMS : Fld := ⟨.QUE_STATUS, 0, 16⟩
abbrev QUE_STATUS_EMPTY : Fld := ⟨.QUE_STATUS, 16, 1⟩
abbrev QUE_STATUS_UNDERRUN : Fld := ⟨.QUE_STATUS, 17, 1⟩
abbrev QUE_STATUS_PTR_ERR : Fld := ⟨.QUE_STATUS, 18, 1⟩
abbrev QUE_STATUS_CURRENT : Fld := ⟨.QUE_STATUS, 19, 1⟩
abbrev QUE_STATUS_CUR_PRI : Fld := ⟨.QUE_STATUS, 20, 3⟩
abbrev QUE_STATUS_DRAINING : Fld := ⟨.QUE_STATUS, 23, 1⟩
abbrev QUE_RD_HEAD_WORDS : Fld := ⟨.QUE_RD_HEAD, 0, 8⟩
abbrev QUE_RD_HEAD_PRI : Fld := ⟨.QUE_RD_HEAD, 8, 3⟩
abbrev QUE_RD_HEAD_SOURCE : Fld := ⟨.QUE_RD_HEAD, 16, 8⟩
abbrev QUE_RD_HEAD_LOST_BEFORE : Fld := ⟨.QUE_RD_HEAD, 24, 1⟩
abbrev QUE_RD_HEAD_DATA_ERR : Fld := ⟨.QUE_RD_HEAD, 25, 1⟩
abbrev QUE_IRQ_VEC : Fld := ⟨.QUE_IRQ, 0, 11⟩
abbrev QUE_IRQ_EN : Fld := ⟨.QUE_IRQ, 11, 1⟩
abbrev QUE_IRQ_THRESH : Fld := ⟨.QUE_IRQ, 12, 14⟩
abbrev TIM_CFG_TIME_SRC : Fld := ⟨.TIM_CFG, 0, 1⟩
abbrev TIM_CFG_ROLE : Fld := ⟨.TIM_CFG, 1, 2⟩
abbrev TIM_STATUS_ACTIVE : Fld := ⟨.TIM_STATUS, 0, 1⟩
abbrev TIM_STATUS_SYNCED : Fld := ⟨.TIM_STATUS, 1, 1⟩
abbrev TIM_STATUS_HOLDOVER : Fld := ⟨.TIM_STATUS, 2, 1⟩
abbrev TIM_STATUS_SWITCHED : Fld := ⟨.TIM_STATUS, 3, 1⟩
abbrev TIM_STATUS_STEPPED : Fld := ⟨.TIM_STATUS, 4, 1⟩
abbrev TIM_STATUS_CMD_REFUSED : Fld := ⟨.TIM_STATUS, 5, 1⟩
abbrev TIM_SERVO_LIM_LOCK_NS : Fld := ⟨.TIM_SERVO_LIM, 0, 8⟩
abbrev TIM_SERVO_LIM_ALIGN_NS : Fld := ⟨.TIM_SERVO_LIM, 8, 8⟩
abbrev TIM_SERVO_LIM_SWITCH_SLEW : Fld := ⟨.TIM_SERVO_LIM, 16, 8⟩
abbrev TIM_DOM_CFG_EN : Fld := ⟨.TIM_DOM_CFG, 0, 1⟩
abbrev TIM_DOM_CFG_DELAY_MECH : Fld := ⟨.TIM_DOM_CFG, 1, 1⟩
abbrev TIM_DOM_CFG_TRANSPORT : Fld := ⟨.TIM_DOM_CFG, 2, 2⟩
abbrev TIM_DOM_CFG_SLAVE_ONLY : Fld := ⟨.TIM_DOM_CFG, 4, 1⟩
abbrev TIM_DOM_CFG_DOMAIN_NUMBER : Fld := ⟨.TIM_DOM_CFG, 8, 8⟩
abbrev TIM_DOM_CFG_PRIORITY1 : Fld := ⟨.TIM_DOM_CFG, 16, 8⟩
abbrev TIM_DOM_CFG_PRIORITY2 : Fld := ⟨.TIM_DOM_CFG, 24, 8⟩
abbrev TIM_DOM_CLASS_CLASS : Fld := ⟨.TIM_DOM_CLASS, 0, 8⟩
abbrev TIM_DOM_CLASS_ACCURACY : Fld := ⟨.TIM_DOM_CLASS, 8, 8⟩
abbrev TIM_DOM_CLASS_VARIANCE : Fld := ⟨.TIM_DOM_CLASS, 16, 16⟩
abbrev TIM_DOM_INTV_SYNC : Fld := ⟨.TIM_DOM_INTV, 0, 8⟩
abbrev TIM_DOM_INTV_ANNOUNCE : Fld := ⟨.TIM_DOM_INTV, 8, 8⟩
abbrev TIM_DOM_INTV_DELAY_REQ : Fld := ⟨.TIM_DOM_INTV, 16, 8⟩
abbrev TIM_DOM_INTV_RECEIPT : Fld := ⟨.TIM_DOM_INTV, 24, 8⟩
abbrev TIM_DOM_SERVO_KP : Fld := ⟨.TIM_DOM_SERVO, 0, 16⟩
abbrev TIM_DOM_SERVO_KI : Fld := ⟨.TIM_DOM_SERVO, 16, 16⟩
abbrev TIM_DOM_STATUS_STATE : Fld := ⟨.TIM_DOM_STATUS, 0, 3⟩
abbrev TIM_DOM_STATUS_ALIGNED : Fld := ⟨.TIM_DOM_STATUS, 3, 1⟩
abbrev TIM_DOM_STATUS_PORT0 : Fld := ⟨.TIM_DOM_STATUS, 4, 4⟩
abbrev TIM_DOM_STATUS_PORT1 : Fld := ⟨.TIM_DOM_STATUS, 8, 4⟩
abbrev TIM_DOM_STATUS_GM_CHANGED : Fld := ⟨.TIM_DOM_STATUS, 12, 1⟩
abbrev TIM_PORT_CFG_PORT_EN : Fld := ⟨.TIM_PORT_CFG, 0, 1⟩
abbrev TIM_PORT_STATUS_LINK : Fld := ⟨.TIM_PORT_STATUS, 0, 1⟩
abbrev TIM_PORT_STATUS_MOD_ABS : Fld := ⟨.TIM_PORT_STATUS, 1, 1⟩
abbrev TIM_PORT_STATUS_LOS : Fld := ⟨.TIM_PORT_STATUS, 2, 1⟩
abbrev TIM_PORT_STATUS_TX_FAULT : Fld := ⟨.TIM_PORT_STATUS, 3, 1⟩
abbrev TIM_PORT_STATUS_MOD_READ : Fld := ⟨.TIM_PORT_STATUS, 4, 1⟩
abbrev TIM_PORT_ASYM_TX_ASYM : Fld := ⟨.TIM_PORT_ASYM, 0, 16⟩
abbrev TIM_PORT_ASYM_RX_ASYM : Fld := ⟨.TIM_PORT_ASYM, 16, 16⟩
abbrev TIM_PORT_LAT_TX_LAT : Fld := ⟨.TIM_PORT_LAT, 0, 16⟩
abbrev TIM_PORT_LAT_RX_LAT : Fld := ⟨.TIM_PORT_LAT, 16, 16⟩
abbrev TIM_SCH_CFG_MODE : Fld := ⟨.TIM_SCH_CFG, 0, 2⟩
abbrev TIM_SCH_CFG_PIN_EN : Fld := ⟨.TIM_SCH_CFG, 2, 1⟩
abbrev TIM_SCH_CFG_POL : Fld := ⟨.TIM_SCH_CFG, 3, 1⟩
abbrev TIM_SCH_CFG_ARM : Fld := ⟨.TIM_SCH_CFG, 30, 1⟩
abbrev TIM_SCH_CFG_DISARM : Fld := ⟨.TIM_SCH_CFG, 31, 1⟩
abbrev TIM_SCH_STATUS_ARMED : Fld := ⟨.TIM_SCH_STATUS, 0, 1⟩
abbrev TIM_SCH_STATUS_LATE : Fld := ⟨.TIM_SCH_STATUS, 1, 1⟩
abbrev TIM_SCH_STATUS_CFG_ERR : Fld := ⟨.TIM_SCH_STATUS, 2, 1⟩
abbrev TIM_SCH_STATUS_MISSED : Fld := ⟨.TIM_SCH_STATUS, 16, 16⟩
abbrev TIM_CAP_STATUS_VALID : Fld := ⟨.TIM_CAP_STATUS, 0, 1⟩
abbrev TIM_CAP_STATUS_OVW : Fld := ⟨.TIM_CAP_STATUS, 1, 1⟩
abbrev TIM_RING_CFG_EN : Fld := ⟨.TIM_RING_CFG, 0, 1⟩
abbrev TIM_RING_CFG_RING_ID : Fld := ⟨.TIM_RING_CFG, 1, 5⟩
abbrev TIM_RING_STATUS_BYPASS_CLOSED : Fld := ⟨.TIM_RING_STATUS, 0, 1⟩
abbrev TIM_RING_STATUS_DUP_ID : Fld := ⟨.TIM_RING_STATUS, 1, 1⟩
abbrev TIM_RING_LAST_ORIGIN : Fld := ⟨.TIM_RING_LAST, 0, 5⟩
abbrev TIM_RING_LAST_HOPS : Fld := ⟨.TIM_RING_LAST, 8, 5⟩
abbrev TIM_RING_LAST_CODE : Fld := ⟨.TIM_RING_LAST, 16, 8⟩
abbrev TIM_RING_LAST_DELAYED : Fld := ⟨.TIM_RING_LAST, 24, 1⟩
abbrev HLM_STATUS_CORE0 : Fld := ⟨.HLM_STATUS, 0, 2⟩
abbrev HLM_STATUS_CORE1 : Fld := ⟨.HLM_STATUS, 2, 2⟩
abbrev HLM_STATUS_CORE2 : Fld := ⟨.HLM_STATUS, 4, 2⟩
abbrev HLM_STATUS_DUAL : Fld := ⟨.HLM_STATUS, 6, 1⟩
abbrev HLM_STATUS_REPLAY : Fld := ⟨.HLM_STATUS, 7, 1⟩
abbrev HLM_STATUS_JOURNAL_OVF : Fld := ⟨.HLM_STATUS, 8, 1⟩
abbrev HLM_WDT_WDT_MS : Fld := ⟨.HLM_WDT, 0, 16⟩
abbrev PWR_MODE_REQ_MODE : Fld := ⟨.PWR_MODE_REQ, 0, 3⟩
abbrev PWR_MODE_REQ_GO : Fld := ⟨.PWR_MODE_REQ, 31, 1⟩
abbrev PWR_MODE_STATUS_MODE : Fld := ⟨.PWR_MODE_STATUS, 0, 3⟩
abbrev PWR_MODE_STATUS_TARGET : Fld := ⟨.PWR_MODE_STATUS, 3, 3⟩
abbrev PWR_MODE_STATUS_IN_TRANSITION : Fld := ⟨.PWR_MODE_STATUS, 6, 1⟩
abbrev PWR_MODE_STATUS_REEF : Fld := ⟨.PWR_MODE_STATUS, 7, 1⟩
abbrev PWR_MODE_STATUS_REFUSE_CAUSE : Fld := ⟨.PWR_MODE_STATUS, 8, 4⟩
abbrev PWR_MODE_STATUS_REFUSED : Fld := ⟨.PWR_MODE_STATUS, 12, 1⟩
abbrev PWR_MODE_STATUS_SUPPLY_WARN : Fld := ⟨.PWR_MODE_STATUS, 13, 1⟩
abbrev PWR_MODE_STATUS_CMD_REFUSED : Fld := ⟨.PWR_MODE_STATUS, 14, 1⟩
abbrev PWR_DOM_CMD_DOMAIN : Fld := ⟨.PWR_DOM_CMD, 0, 7⟩
abbrev PWR_DOM_CMD_ON : Fld := ⟨.PWR_DOM_CMD, 8, 1⟩
abbrev PWR_DOM_CMD_OFF : Fld := ⟨.PWR_DOM_CMD, 9, 1⟩
abbrev PWR_DOM_CMD_GO : Fld := ⟨.PWR_DOM_CMD, 31, 1⟩
abbrev PWR_INRUSH_CFG_Q_MAX : Fld := ⟨.PWR_INRUSH_CFG, 0, 8⟩
abbrev PWR_INRUSH_CFG_REFILL : Fld := ⟨.PWR_INRUSH_CFG, 8, 8⟩
abbrev PWR_INRUSH_LEVEL_Q : Fld := ⟨.PWR_INRUSH_LEVEL, 0, 8⟩
abbrev PWR_SUPPLY_RAILS : Fld := ⟨.PWR_SUPPLY, 0, 5⟩
abbrev PWR_SUPPLY_CORE_MV : Fld := ⟨.PWR_SUPPLY, 16, 16⟩
abbrev PWR_RESET_CAUSE_CAUSE : Fld := ⟨.PWR_RESET_CAUSE, 0, 3⟩
abbrev PWR_FAULT_CFG_FAULT_VEC : Fld := ⟨.PWR_FAULT_CFG, 0, 11⟩
abbrev PWR_FAULT_CFG_FAULT_EN : Fld := ⟨.PWR_FAULT_CFG, 11, 1⟩
abbrev PWR_DOM_POLICY_PRIO : Fld := ⟨.PWR_DOM_POLICY, 0, 3⟩
abbrev PWR_DOM_POLICY_POLICY : Fld := ⟨.PWR_DOM_POLICY, 3, 2⟩
abbrev BOOT_STATUS_ACTIVE_DEV : Fld := ⟨.BOOT_STATUS, 0, 2⟩
abbrev BOOT_STATUS_RESCUE : Fld := ⟨.BOOT_STATUS, 2, 1⟩
abbrev BOOT_STATUS_FELL_BACK : Fld := ⟨.BOOT_STATUS, 3, 1⟩
abbrev BOOT_STATUS_KEY_UNSET : Fld := ⟨.BOOT_STATUS, 4, 1⟩
abbrev BOOT_STATUS_SWITCH_PENDING : Fld := ⟨.BOOT_STATUS, 5, 1⟩
abbrev BOOT_STATUS_STAGED : Fld := ⟨.BOOT_STATUS, 6, 1⟩
abbrev BOOT_STATUS_OP_BUSY : Fld := ⟨.BOOT_STATUS, 7, 1⟩
abbrev BOOT_STATUS_OP_DONE : Fld := ⟨.BOOT_STATUS, 8, 1⟩
abbrev BOOT_STATUS_COMMIT_REFUSED : Fld := ⟨.BOOT_STATUS, 9, 1⟩
abbrev BOOT_STATUS_LOAD_RESULT : Fld := ⟨.BOOT_STATUS, 12, 4⟩
abbrev BOOT_STATUS_OP_RESULT : Fld := ⟨.BOOT_STATUS, 16, 4⟩
abbrev BOOT_CMD_OP : Fld := ⟨.BOOT_CMD, 0, 4⟩
abbrev BOOT_CMD_DEV : Fld := ⟨.BOOT_CMD, 4, 1⟩
abbrev BOOT_CMD_GO : Fld := ⟨.BOOT_CMD, 31, 1⟩
abbrev BOOT_FLASH_INFO_LOG2 : Fld := ⟨.BOOT_FLASH_INFO, 0, 8⟩
abbrev BOOT_FLASH_INFO_USED : Fld := ⟨.BOOT_FLASH_INFO, 8, 1⟩
abbrev BOOT_FLASH_INFO_OCTAL : Fld := ⟨.BOOT_FLASH_INFO, 9, 1⟩
abbrev BOOT_MBX_STATUS_STATE : Fld := ⟨.BOOT_MBX_STATUS, 0, 2⟩
abbrev BOOT_MBX_STATUS_LEVEL : Fld := ⟨.BOOT_MBX_STATUS, 2, 2⟩
abbrev BOOT_MBX_STATUS_DONE : Fld := ⟨.BOOT_MBX_STATUS, 4, 1⟩
abbrev BOOT_MBX_STATUS_REASON : Fld := ⟨.BOOT_MBX_STATUS, 8, 3⟩
abbrev BOOT_MBX_CFG_VEC : Fld := ⟨.BOOT_MBX_CFG, 0, 11⟩
abbrev BOOT_MBX_CFG_EN : Fld := ⟨.BOOT_MBX_CFG, 11, 1⟩
abbrev SES_ETH_CFG_EN_N0 : Fld := ⟨.SES_ETH_CFG, 0, 1⟩
abbrev SES_ETH_CFG_EN_N1 : Fld := ⟨.SES_ETH_CFG, 1, 1⟩
abbrev SES_ETH_CFG_SVC_PORT : Fld := ⟨.SES_ETH_CFG, 16, 16⟩

end F

end Sys2Proof.Machine
end

