-- ==== Sys2Proof/Machine/RegTable.lean ====
section
/-!
DEFINITION. The register tables of the chapters: where each register lies (R16, R565, R572), what it holds after
reset, which of its bits each access type of R17 covers, whether a write is staged (R37) and the level a write
needs (R502). Registers whose reset value the spec takes from the image, the fuses or training hold 0 here
(DESIGN CHOICE, log entry 3).
-/

namespace Sys2Proof.Machine

/-- One row of the register tables. `addr i j = base + i × s1 + j × s2` for `i < n1`, `j < n2`.
`level` is the session level a write needs: 0 none, 2 Operator, 3 Service, 4 the helm program only. -/
structure RegInfo where
  unit : Nat
  base : Nat
  n1 : Nat
  s1 : Nat
  n2 : Nat
  s2 : Nat
  reset : Word
  rw : Word
  w1c : Word
  w1s : Word
  rc : Word
  wo : Word
  staged : Bool
  level : Nat
  deriving DecidableEq, Repr

/-- The register tables of each chapter, one row for each name. -/
def Reg.info : Reg → RegInfo
  | .LNK_CTRL => ⟨0, 0xb0000, 64, 0x100, 1, 0, 0x34, 0x37f, 0, 0, 0, 0x80, false, 2⟩
  | .LNK_STATUS => ⟨0, 0xb0004, 64, 0x100, 1, 0, 0, 0, 0xc00, 0, 0, 0, false, 2⟩
  | .LNK_PORT_CFG => ⟨0, 0xb0008, 64, 0x100, 1, 0, 0x870, 0xf7f, 0, 0, 0, 0, true, 2⟩
  | .LNK_PORT_STATUS => ⟨0, 0xb000c, 64, 0x100, 1, 0, 0, 0, 0x800000, 0, 0, 0, false, 2⟩
  | .LNK_TRAIN => ⟨0, 0xb0010, 64, 0x100, 1, 0, 0x1410, 0xff1f, 0, 0, 0, 0, false, 2⟩
  | .LNK_TAPS => ⟨0, 0xb0014, 64, 0x100, 1, 0, 0x30000000, 0, 0, 0, 0, 0, false, 2⟩
  | .LNK_PATTERN => ⟨0, 0xb0018, 64, 0x100, 1, 0, 0, 0x77, 0, 0, 0, 0x100, false, 3⟩
  | .LNK_USER_WORD => ⟨0, 0xb001c, 64, 0x100, 1, 0, 0, 0xffffffff, 0, 0, 0, 0, false, 3⟩
  | .LNK_INJECT => ⟨0, 0xb0020, 64, 0x100, 1, 0, 0x140, 0xffff, 0, 0, 0, 0x10000, false, 3⟩
  | .LNK_CNT_BAD_HDR => ⟨0, 0xb0030, 64, 0x100, 1, 0, 0, 0, 0, 0, 0xffffffff, 0, false, 2⟩
  | .LNK_CNT_LOCK_LOSS => ⟨0, 0xb0034, 64, 0x100, 1, 0, 0, 0, 0, 0, 0xffffffff, 0, false, 2⟩
  | .LNK_CNT_BAD_TYPE => ⟨0, 0xb0038, 64, 0x100, 1, 0, 0, 0, 0, 0, 0xffffffff, 0, false, 2⟩
  | .LNK_CNT_STUFF => ⟨0, 0xb003c, 64, 0x100, 1, 0, 0, 0, 0, 0, 0xffffffff, 0, false, 2⟩
  | .LNK_CNT_STUFF_EXCESS => ⟨0, 0xb0040, 64, 0x100, 1, 0, 0, 0, 0, 0, 0xffffffff, 0, false, 2⟩
  | .LNK_CNT_SKIP_ERR => ⟨0, 0xb0044, 64, 0x100, 1, 0, 0, 0, 0, 0, 0xffffffff, 0, false, 2⟩
  | .LNK_CNT_EB_OVF => ⟨0, 0xb0048, 64, 0x100, 1, 0, 0, 0, 0, 0, 0xffffffff, 0, false, 2⟩
  | .LNK_CNT_REBUILT => ⟨0, 0xb004c, 64, 0x100, 1, 0, 0, 0, 0, 0, 0xffffffff, 0, false, 2⟩
  | .LNK_CNT_PARITY_MISMATCH => ⟨0, 0xb0050, 64, 0x100, 1, 0, 0, 0, 0, 0, 0xffffffff, 0, false, 2⟩
  | .LNK_CNT_ERASED_ROWS => ⟨0, 0xb0054, 64, 0x100, 1, 0, 0, 0, 0, 0, 0xffffffff, 0, false, 2⟩
  | .LNK_CNT_DOZE_SLOW => ⟨0, 0xb0058, 64, 0x100, 1, 0, 0, 0, 0, 0, 0xffffffff, 0, false, 2⟩
  | .LNK_BER_BITS_LO => ⟨0, 0xb005c, 64, 0x100, 1, 0, 0, 0, 0, 0, 0, 0, false, 2⟩
  | .LNK_BER_BITS_HI => ⟨0, 0xb0060, 64, 0x100, 1, 0, 0, 0, 0, 0, 0, 0, false, 2⟩
  | .LNK_BER_ERRS => ⟨0, 0xb0064, 64, 0x100, 1, 0, 0, 0, 0, 0, 0, 0, false, 2⟩
  | .CAP_AXIS_SEL => ⟨1, 0x180040, 8, 4, 1, 0, 0, 0xff, 0, 0, 0, 0, true, 2⟩
  | .CAP_CTRL_CMD => ⟨1, 0x180080, 2, 0x10, 1, 0, 0, 0x1ffff3f, 0, 0x80000000, 0, 0, false, 2⟩
  | .CAP_CTRL_ADDR => ⟨1, 0x180084, 2, 0x10, 1, 0, 0, 0xffffffff, 0, 0, 0, 0, false, 2⟩
  | .CAP_CTRL_STATUS => ⟨1, 0x180088, 2, 0x10, 1, 0, 0, 0, 0xe, 0, 0, 0, false, 2⟩
  | .CAP_PORT_CLASS => ⟨1, 0x180400, 64, 0x40, 1, 0, 5, 0xf1f, 0, 0, 0, 0, true, 2⟩
  | .CAP_PORT_ROUTE => ⟨1, 0x180404, 64, 0x40, 1, 0, 0xde00, 0x1ffff, 0, 0, 0, 0, true, 2⟩
  | .CAP_CROP_ORIGIN => ⟨1, 0x180408, 64, 0x40, 1, 0, 0, 0xffffffff, 0, 0, 0, 0, true, 2⟩
  | .CAP_CROP_SIZE => ⟨1, 0x18040c, 64, 0x40, 1, 0, 0, 0xffffffff, 0, 0, 0, 0, true, 2⟩
  | .CAP_TRIG_CFG => ⟨1, 0x180410, 64, 0x40, 1, 0, 0x800, 0x3ffff, 0, 0, 0, 0x40000, true, 2⟩
  | .CAP_TRIG_TIMING => ⟨1, 0x180414, 64, 0x40, 1, 0, 0xa01400, 0xffffffff, 0, 0, 0, 0, true, 2⟩
  | .CAP_PATH_PITCH => ⟨1, 0x180418, 64, 0x40, 1, 0, 0x2710, 0xffffffff, 0, 0, 0, 0, true, 2⟩
  | .CAP_STAMP_CAL => ⟨1, 0x18041c, 64, 0x40, 1, 0, 0, 0xffff, 0, 0, 0, 0, true, 2⟩
  | .CAP_CAM_STAT => ⟨1, 0x180420, 64, 0x40, 4, 4, 0, 0, 0, 0, 0, 0, false, 2⟩
  | .CAP_PORT_FLAGS => ⟨1, 0x180430, 64, 0x40, 1, 0, 0, 0, 3, 0, 0, 0, false, 2⟩
  | .CAP_FRAME_NUM_LO => ⟨1, 0x180434, 64, 0x40, 1, 0, 0, 0, 0, 0, 0, 0, false, 2⟩
  | .CAP_FRAME_NUM_HI => ⟨1, 0x180438, 64, 0x40, 1, 0, 0, 0, 0, 0, 0, 0, false, 2⟩
  | .CAP_CNT_FRAMES => ⟨1, 0x181400, 64, 0x40, 1, 0, 0, 0, 0, 0, 0xffffffff, 0, false, 2⟩
  | .CAP_CNT_INCOMPLETE => ⟨1, 0x181404, 64, 0x40, 1, 0, 0, 0, 0, 0, 0xffffffff, 0, false, 2⟩
  | .CAP_CNT_BAD_HCRC => ⟨1, 0x181408, 64, 0x40, 1, 0, 0, 0, 0, 0, 0xffffffff, 0, false, 2⟩
  | .CAP_CNT_BAD_PCRC => ⟨1, 0x18140c, 64, 0x40, 1, 0, 0, 0, 0, 0, 0xffffffff, 0, false, 2⟩
  | .CAP_CNT_BAD_TYPE => ⟨1, 0x181410, 64, 0x40, 1, 0, 0, 0, 0, 0, 0xffffffff, 0, false, 2⟩
  | .CAP_CNT_ORPHAN => ⟨1, 0x181414, 64, 0x40, 1, 0, 0, 0, 0, 0, 0xffffffff, 0, false, 2⟩
  | .CAP_CNT_OVERSIZE => ⟨1, 0x181418, 64, 0x40, 1, 0, 0, 0, 0, 0, 0xffffffff, 0, false, 2⟩
  | .CAP_CNT_RATE_EXCESS => ⟨1, 0x18141c, 64, 0x40, 1, 0, 0, 0, 0, 0, 0xffffffff, 0, false, 2⟩
  | .CAP_CNT_OPAQUE => ⟨1, 0x181420, 64, 0x40, 1, 0, 0, 0, 0, 0, 0xffffffff, 0, false, 2⟩
  | .CAP_CNT_TRIG_SENT => ⟨1, 0x181424, 64, 0x40, 1, 0, 0, 0, 0, 0, 0xffffffff, 0, false, 2⟩
  | .CAP_CNT_TRIG_MERGED => ⟨1, 0x181428, 64, 0x40, 1, 0, 0, 0, 0, 0, 0xffffffff, 0, false, 2⟩
  | .CAP_CNT_TRIG_HOLDOFF => ⟨1, 0x18142c, 64, 0x40, 1, 0, 0, 0, 0, 0, 0xffffffff, 0, false, 2⟩
  | .CAP_CNT_TRIG_DROP => ⟨1, 0x181430, 64, 0x40, 1, 0, 0, 0, 0, 0, 0xffffffff, 0, false, 2⟩
  | .CAP_CNT_TRIG_NOACK => ⟨1, 0x181434, 64, 0x40, 1, 0, 0, 0, 0, 0, 0xffffffff, 0, false, 2⟩
  | .CAP_CNT_TRIG_REFUSED => ⟨1, 0x181438, 64, 0x40, 1, 0, 0, 0, 0, 0, 0xffffffff, 0, false, 2⟩
  | .CAP_CNT_CTRL_RETRY => ⟨1, 0x18143c, 64, 0x40, 1, 0, 0, 0, 0, 0, 0xffffffff, 0, false, 2⟩
  | .CAP_ENC_CMP_CFG => ⟨1, 0x182800, 16, 0x10, 1, 0, 0, 0x7fffffff, 0, 0, 0, 0x80000000, true, 2⟩
  | .CAP_ENC_CMP_PITCH => ⟨1, 0x182804, 16, 0x10, 1, 0, 0, 0xffffffff, 0, 0, 0, 0, true, 2⟩
  | .CAP_ENC_CMP_NEXT => ⟨1, 0x182808, 16, 0x10, 1, 0, 0x80000000, 0, 0, 0, 0, 0, false, 2⟩
  | .CAP_ENC_IN => ⟨1, 0x18280c, 16, 0x10, 1, 0, 0x30, 0xff, 0, 0, 0, 0, true, 2⟩
  | .CAP_ENC_COUNT => ⟨1, 0x182c00, 16, 4, 1, 0, 0, 0xffffffff, 0, 0, 0, 0, false, 2⟩
  | .CAP_ENC_ZLATCH => ⟨1, 0x182c40, 16, 4, 1, 0, 0, 0, 0, 0, 0, 0, false, 2⟩
  | .CAP_ENC_CNT_ERR => ⟨1, 0x182c80, 16, 4, 1, 0, 0, 0, 0, 0, 0xffffffff, 0, false, 2⟩
  | .CAP_SSI_CFG => ⟨1, 0x182d00, 4, 8, 1, 0, 0x191b8, 0xffffffff, 0, 0, 0, 0, true, 2⟩
  | .CAP_SSI_POS => ⟨1, 0x182d04, 4, 8, 1, 0, 0, 0, 0, 0, 0, 0, false, 2⟩
  | .CAP_SSI_CNT_ERR => ⟨1, 0x182d40, 4, 4, 1, 0, 0, 0, 0, 0, 0xffffffff, 0, false, 2⟩
  | .FST_CFG => ⟨2, 0xa0000, 1, 0, 1, 0, 0x67c0, 0x7ffff, 0, 0, 0, 0, true, 2⟩
  | .FST_STATUS => ⟨2, 0xa0004, 1, 0, 1, 0, 0, 0, 0x4000, 0, 0, 0, false, 2⟩
  | .FST_BANDS => ⟨2, 0xa0008, 1, 0, 1, 0, 0, 0, 0, 0, 0, 0, false, 2⟩
  | .FST_LOAD_CFG => ⟨2, 0xa000c, 1, 0, 1, 0, 0, 0, 0, 0, 0, 0, false, 2⟩
  | .FST_BUILD_BASE => ⟨2, 0xa0010, 1, 0, 1, 0, 0, 0, 0, 0, 0, 0, false, 2⟩
  | .FST_BUILD_BANDS => ⟨2, 0xa0014, 1, 0, 1, 0, 0, 0, 0, 0, 0, 0, false, 2⟩
  | .FST_MP_LOG_BANDS => ⟨2, 0xa0018, 1, 0, 1, 0, 0, 0, 0, 0, 0, 0, false, 2⟩
  | .FST_MP_TEST_BANDS => ⟨2, 0xa001c, 1, 0, 1, 0, 0, 0, 0, 0, 0, 0, false, 2⟩
  | .FST_RES_BASE => ⟨2, 0xa0020, 1, 0, 1, 0, 0, 0, 0, 0, 0, 0, false, 2⟩
  | .FST_RES_BANDS => ⟨2, 0xa0024, 1, 0, 1, 0, 0, 0, 0, 0, 0, 0, false, 2⟩
  | .FST_RES_USED => ⟨2, 0xa0028, 1, 0, 1, 0, 0, 0, 0, 0, 0, 0, false, 2⟩
  | .FST_RETIRE_CFG => ⟨2, 0xa0030, 1, 0, 1, 0, 0x79078201, 0xffffffff, 0, 0, 0, 0, true, 2⟩
  | .FST_MARK_CMD => ⟨2, 0xa0034, 1, 0, 1, 0, 0, 0, 0, 0, 0, 0x8000000f, false, 2⟩
  | .FST_SPAN_CMD => ⟨2, 0xa0038, 1, 0, 1, 0, 0, 0, 0, 0, 0, 0x3ffff, false, 2⟩
  | .FST_CNT_BAD_ACCESS => ⟨2, 0xa003c, 1, 0, 1, 0, 0, 0, 0, 0, 0xffffffff, 0, false, 2⟩
  | .FST_CNT_NO_RING => ⟨2, 0xa0040, 1, 0, 1, 0, 0, 0, 0, 0, 0xffffffff, 0, false, 2⟩
  | .FST_CH_STATUS => ⟨2, 0xa0100, 12, 0x20, 1, 0, 0, 0, 0, 0, 0, 0, false, 2⟩
  | .FST_CH_CE_BUCKET => ⟨2, 0xa0104, 12, 0x20, 1, 0, 0, 0, 0, 0, 0, 0, false, 2⟩
  | .FST_CH_CNT_CE => ⟨2, 0xa0108, 12, 0x20, 1, 0, 0, 0, 0, 0, 0xffffffff, 0, false, 2⟩
  | .FST_CH_CNT_UE => ⟨2, 0xa010c, 12, 0x20, 1, 0, 0, 0, 0, 0, 0xffffffff, 0, false, 2⟩
  | .FST_CH_ECC_BAND => ⟨2, 0xa0110, 12, 0x20, 1, 0, 0, 0, 0, 0, 0, 0, false, 2⟩
  | .FST_CH_ECC_INFO => ⟨2, 0xa0114, 12, 0x20, 1, 0, 0, 0, 0, 0, 0, 0, false, 2⟩
  | .FST_CH_MPL_WP => ⟨2, 0xa0118, 12, 0x20, 1, 0, 0, 0, 0, 0, 0, 0, false, 2⟩
  | .FST_CH_MPT_WP => ⟨2, 0xa011c, 12, 0x20, 1, 0, 0, 0, 0, 0, 0, 0, false, 2⟩
  | .FST_RING_BASE => ⟨2, 0xa0400, 16, 0x40, 1, 0, 0, 0, 0, 0, 0, 0, false, 2⟩
  | .FST_RING_IDX_BANDS => ⟨2, 0xa0404, 16, 0x40, 1, 0, 0, 0, 0, 0, 0, 0, false, 2⟩
  | .FST_RING_DATA_BANDS => ⟨2, 0xa0408, 16, 0x40, 1, 0, 0, 0, 0, 0, 0, 0, false, 2⟩
  | .FST_RING_CFG => ⟨2, 0xa040c, 16, 0x40, 1, 0, 0x8000000, 0xffffffff, 0, 0, 0, 0, true, 2⟩
  | .FST_RING_PRE => ⟨2, 0xa0410, 16, 0x40, 1, 0, 0, 0xffffffff, 0, 0, 0, 0, true, 2⟩
  | .FST_RING_POST => ⟨2, 0xa0414, 16, 0x40, 1, 0, 0, 0xffffffff, 0, 0, 0, 0, true, 2⟩
  | .FST_RING_STATUS => ⟨2, 0xa0418, 16, 0x40, 1, 0, 0, 0, 2, 0, 0, 0, false, 2⟩
  | .FST_RING_LAP => ⟨2, 0xa041c, 16, 0x40, 1, 0, 0, 0, 0, 0, 0, 0, false, 2⟩
  | .FST_RING_WP_BAND => ⟨2, 0xa0420, 16, 0x40, 1, 0, 0, 0, 0, 0, 0, 0, false, 2⟩
  | .FST_RING_HEAD => ⟨2, 0xa0424, 16, 0x40, 1, 0, 0, 0, 0, 0, 0, 0, false, 2⟩
  | .FST_RING_TAIL => ⟨2, 0xa0428, 16, 0x40, 1, 0, 0, 0, 0, 0, 0, 0, false, 2⟩
  | .FST_CNT_DROP => ⟨2, 0xa0430, 16, 0x40, 1, 0, 0, 0, 0, 0, 0xffffffff, 0, false, 2⟩
  | .FST_CNT_SPILL => ⟨2, 0xa0434, 16, 0x40, 1, 0, 0, 0, 0, 0, 0xffffffff, 0, false, 2⟩
  | .FST_CNT_VOID => ⟨2, 0xa0438, 16, 0x40, 1, 0, 0, 0, 0, 0, 0xffffffff, 0, false, 2⟩
  | .FST_CNT_SPAN_REFUSED => ⟨2, 0xa043c, 16, 0x40, 1, 0, 0, 0, 0, 0, 0xffffffff, 0, false, 2⟩
  | .MST_CFG => ⟨3, 0xd0000, 16, 0x400, 1, 0, 0x440, 0x7ff, 0, 0, 0, 0, true, 2⟩
  | .MST_CLASS_WD => ⟨3, 0xd0004, 16, 0x400, 1, 0, 0x142708, 0x1f3f3f, 0, 0, 0, 0, true, 2⟩
  | .MST_STATUS => ⟨3, 0xd0008, 16, 0x400, 1, 0, 0x140, 0, 0x1600, 0, 0, 0, false, 2⟩
  | .MST_FAULT0 => ⟨3, 0xd0010, 16, 0x400, 1, 0, 0, 0, 0, 0, 0x7fff7f, 0, false, 2⟩
  | .MST_FAULT1 => ⟨3, 0xd0014, 16, 0x400, 1, 0, 0, 0, 0, 0, 0, 0, false, 2⟩
  | .MST_SPARE_USE => ⟨3, 0xd0018, 16, 0x400, 1, 0, 0, 0, 0, 0, 0, 0, false, 2⟩
  | .MST_SPAR_STATE => ⟨3, 0xd0020, 16, 0x400, 5, 4, 0, 0, 0, 0, 0, 0, false, 2⟩
  | .MST_STREAM_CFG => ⟨3, 0xd0100, 16, 0x400, 8, 0x10, 0, 0x3fffffff, 0, 0, 0, 0, true, 2⟩
  | .MST_STREAM_TILE => ⟨3, 0xd0104, 16, 0x400, 8, 0x10, 0x1f83f, 0x3ffffff, 0, 0, 0, 0, true, 2⟩
  | .MST_STREAM_BUF => ⟨3, 0xd0108, 16, 0x400, 8, 0x10, 0, 0x3fffffff, 0, 0, 0, 0, true, 2⟩
  | .MST_STREAM_RED => ⟨3, 0xd010c, 16, 0x400, 8, 0x10, 0x10000000, 0x7fffffff, 0, 0, 0, 0, true, 2⟩
  | .MST_CNT_TILES => ⟨3, 0xd0200, 16, 0x400, 1, 0, 0, 0, 0, 0, 0xffffffff, 0, false, 2⟩
  | .MST_CNT_RERUN => ⟨3, 0xd0204, 16, 0x400, 1, 0, 0, 0, 0, 0, 0xffffffff, 0, false, 2⟩
  | .MST_CNT_ABANDON => ⟨3, 0xd0208, 16, 0x400, 1, 0, 0, 0, 0, 0, 0xffffffff, 0, false, 2⟩
  | .MST_CNT_PROG_FAULT => ⟨3, 0xd020c, 16, 0x400, 1, 0, 0, 0, 0, 0, 0xffffffff, 0, false, 2⟩
  | .MST_CNT_CANCEL => ⟨3, 0xd0210, 16, 0x400, 1, 0, 0, 0, 0, 0, 0xffffffff, 0, false, 2⟩
  | .MST_CNT_CE => ⟨3, 0xd0214, 16, 0x400, 1, 0, 0, 0, 0, 0, 0xffffffff, 0, false, 2⟩
  | .MST_CNT_SHM_UE => ⟨3, 0xd0218, 16, 0x400, 1, 0, 0, 0, 0, 0, 0xffffffff, 0, false, 2⟩
  | .MST_CNT_MP_LATE => ⟨3, 0xd021c, 16, 0x400, 1, 0, 0, 0, 0, 0, 0xffffffff, 0, false, 2⟩
  | .MST_CNT_NO_STREAM => ⟨3, 0xd0220, 16, 0x400, 1, 0, 0, 0, 0, 0, 0xffffffff, 0, false, 2⟩
  | .MST_CNT_NO_BEAM => ⟨3, 0xd0224, 16, 0x400, 1, 0, 0, 0, 0, 0, 0xffffffff, 0, false, 2⟩
  | .MST_CNT_INGEST_DROP => ⟨3, 0xd0240, 16, 0x400, 8, 4, 0, 0, 0, 0, 0xffffffff, 0, false, 2⟩
  | .SHT_CFG => ⟨4, 0xe0000, 12, 0x200, 1, 0, 8, 0x1ffffff, 0, 0, 0, 0, true, 2⟩
  | .SHT_STATUS => ⟨4, 0xe0004, 12, 0x200, 1, 0, 0, 0, 0x1c0, 0, 0, 0, false, 2⟩
  | .SHT_TIMING => ⟨4, 0xe0008, 12, 0x200, 1, 0, 0x1f403e8, 0xffffffff, 0, 0, 0, 0, true, 2⟩
  | .SHT_MISS => ⟨4, 0xe000c, 12, 0x200, 1, 0, 0xab10204, 0xffff0fff, 0, 0, 0, 0, true, 2⟩
  | .SHT_F_OFFSET => ⟨4, 0xe0010, 12, 0x200, 1, 0, 0, 0xffffffff, 0, 0, 0, 0, true, 2⟩
  | .SHT_F_SCALE => ⟨4, 0xe0014, 12, 0x200, 1, 0, 0x1000000, 0xffffffff, 0, 0, 0, 0, true, 2⟩
  | .SHT_SP_FIXED => ⟨4, 0xe0018, 12, 0x200, 1, 0, 0, 0xffffffff, 0, 0, 0, 0, true, 2⟩
  | .SHT_SP_SLOPE => ⟨4, 0xe001c, 12, 0x200, 1, 0, 0, 0xffffffff, 0, 0, 0, 0, true, 2⟩
  | .SHT_P_REF => ⟨4, 0xe0020, 12, 0x200, 1, 0, 0, 0xffffffff, 0, 0, 0, 0, true, 2⟩
  | .SHT_KP => ⟨4, 0xe0024, 12, 0x200, 1, 0, 0, 0xffffffff, 0, 0, 0, 0, true, 2⟩
  | .SHT_KI => ⟨4, 0xe0028, 12, 0x200, 1, 0, 0, 0xffffffff, 0, 0, 0, 0, true, 2⟩
  | .SHT_KD => ⟨4, 0xe002c, 12, 0x200, 1, 0, 0, 0xffffffff, 0, 0, 0, 0, true, 2⟩
  | .SHT_I_MIN => ⟨4, 0xe0030, 12, 0x200, 1, 0, 0xff800000, 0xffffffff, 0, 0, 0, 0, true, 2⟩
  | .SHT_I_MAX => ⟨4, 0xe0034, 12, 0x200, 1, 0, 0x800000, 0xffffffff, 0, 0, 0, 0, true, 2⟩
  | .SHT_FF_P => ⟨4, 0xe0038, 12, 0x200, 1, 0, 0x1000000, 0xffffffff, 0, 0, 0, 0, true, 2⟩
  | .SHT_K_V => ⟨4, 0xe003c, 12, 0x200, 1, 0, 0, 0xffffffff, 0, 0, 0, 0, true, 2⟩
  | .SHT_V_REF => ⟨4, 0xe0040, 12, 0x200, 1, 0, 0, 0xffffffff, 0, 0, 0, 0, true, 2⟩
  | .SHT_RATE_MAX => ⟨4, 0xe0044, 12, 0x200, 1, 0, 0x7fffffff, 0xffffffff, 0, 0, 0, 0, true, 2⟩
  | .SHT_P_MIN => ⟨4, 0xe0048, 12, 0x200, 1, 0, 0, 0xffffffff, 0, 0, 0, 0, true, 2⟩
  | .SHT_P_MAX => ⟨4, 0xe004c, 12, 0x200, 1, 0, 0x1000000, 0xffffffff, 0, 0, 0, 0, true, 2⟩
  | .SHT_AUTH => ⟨4, 0xe0050, 12, 0x200, 1, 0, 0x333333, 0xffffffff, 0, 0, 0, 0, true, 2⟩
  | .SHT_FS_LAG => ⟨4, 0xe0054, 12, 0x200, 1, 0, 0, 0xffff, 0, 0, 0, 0, true, 2⟩
  | .SHT_BQ_B0 => ⟨4, 0xe0060, 12, 0x200, 4, 0x20, 0x1000000, 0xffffffff, 0, 0, 0, 0, true, 2⟩
  | .SHT_BQ_B1 => ⟨4, 0xe0064, 12, 0x200, 4, 0x20, 0, 0xffffffff, 0, 0, 0, 0, true, 2⟩
  | .SHT_BQ_B2 => ⟨4, 0xe0068, 12, 0x200, 4, 0x20, 0, 0xffffffff, 0, 0, 0, 0, true, 2⟩
  | .SHT_BQ_A1 => ⟨4, 0xe006c, 12, 0x200, 4, 0x20, 0, 0xffffffff, 0, 0, 0, 0, true, 2⟩
  | .SHT_BQ_A2 => ⟨4, 0xe0070, 12, 0x200, 4, 0x20, 0, 0xffffffff, 0, 0, 0, 0, true, 2⟩
  | .SHT_TUNE => ⟨4, 0xe00e0, 12, 0x200, 1, 0, 0, 0x1fff, 0, 0, 0, 0, true, 3⟩
  | .SHT_INJ_AMP => ⟨4, 0xe00e4, 12, 0x200, 1, 0, 0, 0xffffffff, 0, 0, 0, 0, true, 3⟩
  | .SHT_SWEEP_F0 => ⟨4, 0xe00e8, 12, 0x200, 1, 0, 0, 0xffffffff, 0, 0, 0, 0, true, 3⟩
  | .SHT_SWEEP_F1 => ⟨4, 0xe00ec, 12, 0x200, 1, 0, 0, 0xffffffff, 0, 0, 0, 0, true, 3⟩
  | .SHT_RUN_LEN => ⟨4, 0xe00f0, 12, 0x200, 1, 0, 0, 0xffffffff, 0, 0, 0, 0, true, 3⟩
  | .SHT_CMD => ⟨4, 0xe00f8, 12, 0x200, 1, 0, 0, 0, 0, 0, 0, 7, false, 2⟩
  | .SHT_I_STATE => ⟨4, 0xe0100, 12, 0x200, 1, 0, 0, 0, 0, 0, 0, 0, false, 2⟩
  | .SHT_LAST_OUT => ⟨4, 0xe0104, 12, 0x200, 1, 0, 0, 0, 0, 0, 0, 0, false, 2⟩
  | .SHT_LAST_FRAME => ⟨4, 0xe0108, 12, 0x200, 1, 0, 0, 0, 0, 0, 0, 0, false, 2⟩
  | .SHT_LAST_DELAY => ⟨4, 0xe010c, 12, 0x200, 1, 0, 0, 0, 0, 0, 0, 0, false, 2⟩
  | .SHT_DELAY_MAX => ⟨4, 0xe0110, 12, 0x200, 1, 0, 0, 0, 0, 0, 0xffffffff, 0, false, 2⟩
  | .SHT_CNT_EVAL => ⟨4, 0xe0140, 12, 0x200, 1, 0, 0, 0, 0, 0, 0xffffffff, 0, false, 2⟩
  | .SHT_CNT_MISS => ⟨4, 0xe0144, 12, 0x200, 1, 0, 0, 0, 0, 0, 0xffffffff, 0, false, 2⟩
  | .SHT_CNT_STALE => ⟨4, 0xe0148, 12, 0x200, 1, 0, 0, 0, 0, 0, 0xffffffff, 0, false, 2⟩
  | .SHT_CNT_REJECT => ⟨4, 0xe014c, 12, 0x200, 1, 0, 0, 0, 0, 0, 0xffffffff, 0, false, 2⟩
  | .SHT_CNT_BAD_CHECK => ⟨4, 0xe0150, 12, 0x200, 1, 0, 0, 0, 0, 0, 0xffffffff, 0, false, 2⟩
  | .SHT_CNT_FOREIGN => ⟨4, 0xe0154, 12, 0x200, 1, 0, 0, 0, 0, 0, 0xffffffff, 0, false, 2⟩
  | .SHT_CNT_OVERRUN => ⟨4, 0xe0158, 12, 0x200, 1, 0, 0, 0, 0, 0, 0xffffffff, 0, false, 2⟩
  | .SHT_CNT_NOT_ENGAGED => ⟨4, 0xe015c, 12, 0x200, 1, 0, 0, 0, 0, 0, 0xffffffff, 0, false, 2⟩
  | .SHT_CNT_FALLBACK => ⟨4, 0xe0160, 12, 0x200, 1, 0, 0, 0, 0, 0, 0xffffffff, 0, false, 2⟩
  | .SHT_CNT_SUPERSEDED => ⟨4, 0xe0164, 12, 0x200, 1, 0, 0, 0, 0, 0, 0xffffffff, 0, false, 2⟩
  | .SHT_CNT_LOG_DROP => ⟨4, 0xe0168, 12, 0x200, 1, 0, 0, 0, 0, 0, 0xffffffff, 0, false, 2⟩
  | .BCH_CFG => ⟨5, 0x200000, 12, 0x400, 1, 0, 0x44804, 0x3fffff, 0, 0, 0, 0, true, 2⟩
  | .BCH_STATUS => ⟨5, 0x200004, 12, 0x400, 1, 0, 0, 0, 0, 0, 0, 0, false, 2⟩
  | .BCH_FAULT => ⟨5, 0x200008, 12, 0x400, 1, 0, 0, 0, 0x1ff, 0, 0, 0, false, 2⟩
  | .BCH_HYBRID => ⟨5, 0x20000c, 12, 0x400, 1, 0, 0x641eb8, 0x7ffffff, 0, 0, 0, 0, true, 2⟩
  | .BCH_OUT_CFG => ⟨5, 0x200010, 12, 0x400, 1, 0, 0x32, 0xffff03ff, 0, 0, 0, 0, true, 2⟩
  | .BCH_PITCH => ⟨5, 0x200014, 12, 0x400, 1, 0, 0x2710, 0xffffff, 0, 0, 0, 0, true, 2⟩
  | .BCH_PULSE => ⟨5, 0x200018, 12, 0x400, 1, 0, 0x64, 0xffff, 0, 0, 0, 0, true, 2⟩
  | .BCH_ENC_SCALE => ⟨5, 0x20001c, 12, 0x400, 1, 0, 0x3e80000, 0xffffffff, 0, 0, 0, 0, true, 2⟩
  | .BCH_TRACK => ⟨5, 0x200020, 12, 0x400, 1, 0, 0x8004000, 0xffffffff, 0, 0, 0, 0, true, 2⟩
  | .BCH_REVERSAL => ⟨5, 0x200024, 12, 0x400, 1, 0, 3, 0xf, 0, 0, 0, 0, true, 2⟩
  | .BCH_TIME_OFS => ⟨5, 0x200030, 12, 0x400, 2, 0x10, 0, 0xffff, 0, 0, 0, 0, true, 2⟩
  | .BCH_PATH_OFS => ⟨5, 0x200034, 12, 0x400, 2, 0x10, 0, 0xffffffff, 0, 0, 0, 0, true, 2⟩
  | .BCH_EMIT_DLY => ⟨5, 0x200038, 12, 0x400, 2, 0x10, 0, 0xffffffff, 0, 0, 0, 0, true, 2⟩
  | .BCH_HATCH_AXIS => ⟨5, 0x200050, 12, 0x400, 1, 0, 0x7fff, 0xffffffff, 0, 0, 0, 0, true, 2⟩
  | .BCH_CAL_POWER => ⟨5, 0x200054, 12, 0x400, 1, 0, 0xccd, 0xffff, 0, 0, 0, 0, true, 3⟩
  | .BCH_GAIN => ⟨5, 0x200060, 12, 0x400, 8, 4, 0x4000, 0xffff, 0, 0, 0, 0, true, 2⟩
  | .BCH_METER_CFG => ⟨5, 0x200080, 12, 0x400, 1, 0, 0x1480, 0xffff, 0, 0, 0, 0, true, 2⟩
  | .BCH_GAIN_LIMIT => ⟨5, 0x200084, 12, 0x400, 1, 0, 0x50003333, 0xffffffff, 0, 0, 0, 0, true, 2⟩
  | .BCH_METER_SCALE => ⟨5, 0x200088, 12, 0x400, 1, 0, 0x666666, 0xffffffff, 0, 0, 0, 0, true, 2⟩
  | .BCH_METER_LAST => ⟨5, 0x20008c, 12, 0x400, 1, 0, 0, 0, 0, 0, 0, 0, false, 2⟩
  | .BCH_WD_ON => ⟨5, 0x200090, 12, 0x400, 1, 0, 0xc807d0, 0xffffffff, 0, 0, 0, 0, true, 3⟩
  | .BCH_WD_DWELL => ⟨5, 0x200094, 12, 0x400, 1, 0, 0x7d0000a, 0xffffffff, 0, 0, 0, 0, true, 3⟩
  | .BCH_WD_PWR => ⟨5, 0x200098, 12, 0x400, 1, 0, 0xccd, 0x1ffff, 0, 0, 0, 0, true, 3⟩
  | .BCH_WD_SCALE => ⟨5, 0x20009c, 12, 0x400, 1, 0, 0x10000, 0xffffffff, 0, 0, 0, 0, true, 3⟩
  | .BCH_CNT_PULSES => ⟨5, 0x200100, 12, 0x400, 1, 0, 0, 0, 0, 0, 0xffffffff, 0, false, 2⟩
  | .BCH_CNT_PULSE_SKIP => ⟨5, 0x200104, 12, 0x400, 1, 0, 0, 0, 0, 0, 0xffffffff, 0, false, 2⟩
  | .BCH_CNT_HELD => ⟨5, 0x200108, 12, 0x400, 1, 0, 0, 0, 0, 0, 0xffffffff, 0, false, 2⟩
  | .BCH_CNT_REVERSAL => ⟨5, 0x20010c, 12, 0x400, 1, 0, 0, 0, 0, 0, 0xffffffff, 0, false, 2⟩
  | .BCH_CNT_ROT_WAIT => ⟨5, 0x200110, 12, 0x400, 1, 0, 0, 0, 0, 0, 0xffffffff, 0, false, 2⟩
  | .BCH_CNT_CUT => ⟨5, 0x200114, 12, 0x400, 1, 0, 0, 0, 0, 0, 0xffffffff, 0, false, 2⟩
  | .BCH_CNT_METER => ⟨5, 0x200118, 12, 0x400, 1, 0, 0, 0, 0, 0, 0xffffffff, 0, false, 2⟩
  | .BCH_PERMIT => ⟨5, 0x20c000, 1, 0, 1, 0, 0, 0, 8, 0, 0, 0, false, 2⟩
  | .BCH_PERMIT_CFG => ⟨5, 0x20c004, 1, 0, 1, 0, 0xa, 0xff, 0, 0, 0, 0, true, 3⟩
  | .BCH_ROT_CFG => ⟨5, 0x20c010, 4, 4, 1, 0, 0xc8, 0xffff, 0, 0, 0, 0, true, 2⟩
  | .SCN_CFG => ⟨6, 0x400000, 12, 0x100, 1, 0, 0xc, 0x1f, 0, 0, 0, 0, true, 2⟩
  | .SCN_STATUS => ⟨6, 0x400004, 12, 0x100, 1, 0, 0, 0, 0x20000, 0, 0, 0, false, 2⟩
  | .SCN_CMD => ⟨6, 0x400008, 12, 0x100, 1, 0, 0, 0, 0, 0, 0, 0x1f, false, 2⟩
  | .SCN_PROG_BASE => ⟨6, 0x40000c, 12, 0x100, 1, 0, 0, 0xffffffff, 0, 0, 0, 0, true, 2⟩
  | .SCN_MOTION => ⟨6, 0x400010, 12, 0x100, 1, 0, 0xc80032, 0xffffffff, 0, 0, 0, 0, true, 2⟩
  | .SCN_RAMP => ⟨6, 0x400014, 12, 0x100, 1, 0, 0x640014, 0xffffffff, 0, 0, 0, 0, true, 2⟩
  | .SCN_SPEED0 => ⟨6, 0x400018, 12, 0x100, 1, 0, 0x138803e8, 0xffffffff, 0, 0, 0, 0, true, 2⟩
  | .SCN_JUMP => ⟨6, 0x40001c, 12, 0x100, 1, 0, 0x14, 0xffff, 0, 0, 0, 0, true, 2⟩
  | .SCN_GRID_X0 => ⟨6, 0x400020, 12, 0x100, 1, 0, 0xf4143e00, 0xffffffff, 0, 0, 0, 0, true, 2⟩
  | .SCN_GRID_Y0 => ⟨6, 0x400024, 12, 0x100, 1, 0, 0xf4143e00, 0xffffffff, 0, 0, 0, 0, true, 2⟩
  | .SCN_GRID_STEP => ⟨6, 0x400028, 12, 0x100, 1, 0, 0x5f5e10, 0xffffffff, 0, 0, 0, 0, true, 2⟩
  | .SCN_Z_SCALE => ⟨6, 0x40002c, 12, 0x100, 1, 0, 0x3e80000, 0xffffffff, 0, 0, 0, 0, true, 2⟩
  | .SCN_HEAD => ⟨6, 0x400030, 12, 0x100, 1, 0, 0xa01f4, 0xffffff, 0, 0, 0, 0, true, 2⟩
  | .SCN_TEMP => ⟨6, 0x400034, 12, 0x100, 1, 0, 0xc0000a78, 0xffffffff, 0, 0, 0, 0, true, 3⟩
  | .SCN_GRACE => ⟨6, 0x400038, 12, 0x100, 1, 0, 0x3e8, 0xffff, 0, 0, 0, 0, true, 3⟩
  | .SCN_STREAM_CFG => ⟨6, 0x40003c, 12, 0x100, 1, 0, 0x8000400, 0x1fff1fff, 0, 0, 0, 0, true, 2⟩
  | .SCN_STREAM_LEVEL => ⟨6, 0x400040, 12, 0x100, 1, 0, 0, 0, 0, 0, 0, 0, false, 2⟩
  | .SCN_HALT_RECORD => ⟨6, 0x400044, 12, 0x100, 1, 0, 0, 0, 0, 0, 0, 0, false, 2⟩
  | .SCN_HALT_OFFSET => ⟨6, 0x400048, 12, 0x100, 1, 0, 0, 0, 0, 0, 0, 0, false, 2⟩
  | .SCN_RECORD => ⟨6, 0x40004c, 12, 0x100, 1, 0, 0, 0, 0, 0, 0, 0, false, 2⟩
  | .SCN_PATH_LO => ⟨6, 0x400050, 12, 0x100, 1, 0, 0, 0, 0, 0, 0, 0, false, 2⟩
  | .SCN_PATH_HI => ⟨6, 0x400054, 12, 0x100, 1, 0, 0, 0, 0, 0, 0, 0, false, 2⟩
  | .SCN_HEAD_TEMP => ⟨6, 0x400058, 12, 0x100, 1, 0, 0, 0, 0, 0, 0, 0, false, 2⟩
  | .SCN_POS_X => ⟨6, 0x40005c, 12, 0x100, 1, 0, 0, 0, 0, 0, 0, 0, false, 2⟩
  | .SCN_POS_Y => ⟨6, 0x400060, 12, 0x100, 1, 0, 0, 0, 0, 0, 0, 0, false, 2⟩
  | .SCN_CNT_RECORDS => ⟨6, 0x400080, 12, 0x100, 1, 0, 0, 0, 0, 0, 0xffffffff, 0, false, 2⟩
  | .SCN_CNT_PAUSE => ⟨6, 0x400084, 12, 0x100, 1, 0, 0, 0, 0, 0, 0xffffffff, 0, false, 2⟩
  | .SCN_CNT_CLEAR => ⟨6, 0x400088, 12, 0x100, 1, 0, 0, 0, 0, 0, 0xffffffff, 0, false, 2⟩
  | .SCN_CNT_LATE => ⟨6, 0x40008c, 12, 0x100, 1, 0, 0, 0, 0, 0, 0xffffffff, 0, false, 2⟩
  | .SCN_CNT_TEMP_SPLIT => ⟨6, 0x400090, 12, 0x100, 1, 0, 0, 0, 0, 0, 0xffffffff, 0, false, 2⟩
  | .SCN_CNT_RAMP_SHORT => ⟨6, 0x400094, 12, 0x100, 1, 0, 0, 0, 0, 0, 0xffffffff, 0, false, 2⟩
  | .SCN_CNT_FIELD_CLAMP => ⟨6, 0x400098, 12, 0x100, 1, 0, 0, 0, 0, 0, 0xffffffff, 0, false, 2⟩
  | .SCN_CNT_SH_CRC => ⟨6, 0x40009c, 12, 0x100, 1, 0, 0, 0, 0, 0, 0xffffffff, 0, false, 2⟩
  | .SCN_CNT_SH_SYNC => ⟨6, 0x4000a0, 12, 0x100, 1, 0, 0, 0, 0, 0, 0xffffffff, 0, false, 2⟩
  | .SCN_CNT_SH_REMOTE => ⟨6, 0x4000a4, 12, 0x100, 1, 0, 0, 0, 0, 0, 0xffffffff, 0, false, 2⟩
  | .SCN_CNT_STREAM_BAD => ⟨6, 0x4000a8, 12, 0x100, 1, 0, 0, 0, 0, 0, 0xffffffff, 0, false, 2⟩
  | .SCN_CNT_HALT => ⟨6, 0x4000ac, 12, 0x100, 1, 0, 0, 0, 0, 0, 0xffffffff, 0, false, 2⟩
  | .SCN_CLR_CFG => ⟨6, 0x40c000, 1, 0, 1, 0, 0x3203, 0xff03, 0, 0, 0, 0, true, 2⟩
  | .SCN_CLR_RADIUS => ⟨6, 0x40c004, 1, 0, 1, 0, 0x1e8480, 0xffffffff, 0, 0, 0, 0, true, 2⟩
  | .SCN_FLOW => ⟨6, 0x40c008, 1, 0, 1, 0, 0x7fff, 0xffffffff, 0, 0, 0, 0, true, 2⟩
  | .SCN_PLUME => ⟨6, 0x40c00c, 1, 0, 1, 0, 0x44980fa0, 0xffffffff, 0, 0, 0, 0, true, 2⟩
  | .SCN_LAYER => ⟨6, 0x40c010, 1, 0, 1, 0, 0, 0, 0, 0, 0, 0, false, 2⟩
  | .SCN_LAYER_SET => ⟨6, 0x40c014, 1, 0, 1, 0, 0xffffffff, 0xffffffff, 0, 0, 0, 0, true, 2⟩
  | .SCN_CAL_CFG => ⟨6, 0x40c020, 1, 0, 1, 0, 0x1080, 0xffff, 0, 0, 0, 0, true, 3⟩
  | .SCN_CAL_LIMIT => ⟨6, 0x40c024, 1, 0, 1, 0, 0xcccd0040, 0xffffffff, 0, 0, 0, 0, true, 3⟩
  | .SCN_CAL_STATUS => ⟨6, 0x40c028, 1, 0, 1, 0, 0, 0, 0, 0, 0, 0, false, 2⟩
  | .SCN_CNT_CAL_USED => ⟨6, 0x40c030, 1, 0, 1, 0, 0, 0, 0, 0, 0xffffffff, 0, false, 2⟩
  | .SCN_CNT_CAL_DISCARD => ⟨6, 0x40c034, 1, 0, 1, 0, 0, 0, 0, 0, 0xffffffff, 0, false, 2⟩
  | .LUM_CH_CFG => ⟨7, 0x100000, 8, 0x40, 1, 0, 0x3e81000, 0x1fff1fff, 0, 0, 0, 0, true, 2⟩
  | .LUM_CH_STATUS => ⟨7, 0x100004, 8, 0x40, 1, 0, 0, 0, 0x18, 0, 0, 0, false, 2⟩
  | .LUM_CH_FAULT => ⟨7, 0x100008, 8, 0x40, 1, 0, 0, 0, 0xf, 0, 0, 0, false, 2⟩
  | .LUM_CH_LEVEL => ⟨7, 0x10000c, 8, 0x40, 1, 0, 0x199a0000, 0xffffffff, 0, 0, 0, 0, true, 2⟩
  | .LUM_CH_STROBE => ⟨7, 0x100010, 8, 0x40, 1, 0, 0, 0xffffffff, 0, 0, 0, 0, true, 2⟩
  | .LUM_CH_EXP => ⟨7, 0x100014, 8, 0x40, 1, 0, 0, 0xffffffff, 0, 0, 0, 0, true, 2⟩
  | .LUM_CH_DIAG => ⟨7, 0x100018, 8, 0x40, 1, 0, 0x640000, 0xffffffff, 0, 0, 0, 0, true, 2⟩
  | .LUM_CH_VF => ⟨7, 0x10001c, 8, 0x40, 1, 0, 0, 0, 0, 0, 0, 0, false, 2⟩
  | .LUM_CH_VF_LIM => ⟨7, 0x100020, 8, 0x40, 1, 0, 0xffff0000, 0xffffffff, 0, 0, 0, 0, true, 2⟩
  | .LUM_CH_SCALE => ⟨7, 0x100024, 8, 0x40, 1, 0, 0x140000, 0xffffffff, 0, 0, 0, 0, true, 2⟩
  | .LUM_CH_CMD => ⟨7, 0x100028, 8, 0x40, 1, 0, 0, 0, 0, 0, 0, 1, false, 2⟩
  | .LUM_CNT_OVERLAP => ⟨7, 0x100030, 8, 0x40, 1, 0, 0, 0, 0, 0, 0xffffffff, 0, false, 2⟩
  | .LUM_CNT_DIAG_ABORT => ⟨7, 0x100034, 8, 0x40, 1, 0, 0, 0, 0, 0, 0xffffffff, 0, false, 2⟩
  | .LUM_CNT_UNDIAG => ⟨7, 0x100038, 8, 0x40, 1, 0, 0, 0, 0, 0, 0xffffffff, 0, false, 2⟩
  | .LUM_PROJ_CFG => ⟨7, 0x104000, 1, 0, 1, 0, 0x57ffc8, 0x1ffffff, 0, 0, 0, 0, true, 2⟩
  | .LUM_PROJ_TIMING => ⟨7, 0x104004, 1, 0, 1, 0, 0x320032, 0xffffffff, 0, 0, 0, 0, true, 2⟩
  | .LUM_PROJ_TEST => ⟨7, 0x104008, 1, 0, 1, 0, 0xc80064, 0xffffffff, 0, 0, 0, 0, true, 2⟩
  | .LUM_PROJ_CMD => ⟨7, 0x10400c, 1, 0, 1, 0, 0, 0, 0, 0, 0, 3, false, 2⟩
  | .LUM_PROJ_STATUS => ⟨7, 0x104010, 1, 0, 1, 0, 0, 0, 0x54, 0, 0, 0, false, 2⟩
  | .LUM_VF_PERIOD => ⟨7, 0x104014, 1, 0, 1, 0, 0x3c, 0xffffffff, 0, 0, 0, 0, true, 2⟩
  | .LUM_CNT_FRONT_WRITE => ⟨7, 0x104020, 1, 0, 1, 0, 0, 0, 0, 0, 0xffffffff, 0, false, 2⟩
  | .LUM_CNT_SYNC_OVR => ⟨7, 0x104024, 1, 0, 1, 0, 0, 0, 0, 0, 0xffffffff, 0, false, 2⟩
  | .LUM_CNT_PIX_OPEN => ⟨7, 0x104028, 1, 0, 1, 0, 0, 0, 0, 0, 0xffffffff, 0, false, 2⟩
  | .LUM_CNT_PIX_SHORT => ⟨7, 0x10402c, 1, 0, 1, 0, 0, 0, 0, 0, 0xffffffff, 0, false, 2⟩
  | .HAL_CFG => ⟨8, 0x70000, 1, 0, 1, 0, 8, 0x7fff, 0, 0, 0, 0, false, 2⟩
  | .HAL_ORPHAN => ⟨8, 0x70004, 1, 0, 1, 0, 0, 0, 0x300, 0, 0, 0, false, 2⟩
  | .HAL_LOOP => ⟨8, 0x70008, 1, 0, 1, 0, 0, 0, 0x300, 0, 0, 0, false, 2⟩
  | .HAL_DUP => ⟨8, 0x7000c, 1, 0, 1, 0, 0, 0, 0x300, 0, 0, 0, false, 2⟩
  | .HAL_REFUSE => ⟨8, 0x70010, 1, 0, 1, 0, 0, 0, 0x300, 0, 0, 0, false, 2⟩
  | .HAL_PUBLISH => ⟨8, 0x70014, 1, 0, 1, 0, 0, 0, 0, 0, 0, 0x800fffff, false, 2⟩
  | .HAL_GROUP_STATE => ⟨8, 0x70018, 1, 0, 1, 0, 0, 0, 0, 0, 0, 0, false, 2⟩
  | .HAL_GROUP_CMD => ⟨8, 0x7001c, 1, 0, 1, 0, 0, 0, 0, 0, 0, 0xffffffff, false, 2⟩
  | .HAL_GROUP_INIT => ⟨8, 0x70020, 1, 0, 1, 0, 0, 0, 0, 0, 0, 0, false, 2⟩
  | .HAL_CNT_DELIVERED => ⟨8, 0x70040, 1, 0, 1, 0, 0, 0, 0, 0, 0xffffffff, 0, false, 2⟩
  | .HAL_CNT_UNROUTED => ⟨8, 0x70044, 1, 0, 1, 0, 0, 0, 0, 0, 0xffffffff, 0, false, 2⟩
  | .HAL_CNT_GATED => ⟨8, 0x70048, 1, 0, 1, 0, 0, 0, 0, 0, 0xffffffff, 0, false, 2⟩
  | .HAL_CNT_QUEUE_DROP => ⟨8, 0x7004c, 1, 0, 1, 0, 0, 0, 0, 0, 0xffffffff, 0, false, 2⟩
  | .HAL_CNT_LOOP => ⟨8, 0x70050, 1, 0, 1, 0, 0, 0, 0, 0, 0xffffffff, 0, false, 2⟩
  | .HAL_CNT_ORPHAN => ⟨8, 0x70054, 1, 0, 1, 0, 0, 0, 0, 0, 0xffffffff, 0, false, 2⟩
  | .HAL_CNT_REFUSED => ⟨8, 0x70058, 1, 0, 1, 0, 0, 0, 0, 0, 0xffffffff, 0, false, 2⟩
  | .HAL_ATTR => ⟨8, 0x70400, 256, 4, 1, 0, 0, 0, 0, 0, 0, 0, false, 2⟩
  | .HAL_SUB => ⟨8, 0x70800, 352, 4, 1, 0, 0, 0x1ff01ff, 0, 0, 0, 0, true, 2⟩
  | .HAL_TASK_STATUS => ⟨8, 0x71000, 352, 4, 1, 0, 0, 0, 3, 0, 0xffff00, 0, false, 2⟩
  | .HAL_PROD_BIND => ⟨8, 0x71800, 562, 4, 1, 0, 0, 0x1ff, 0, 0, 0, 0, true, 2⟩
  | .HAL_CTR_CFG => ⟨8, 0x72800, 16, 8, 1, 0, 1, 0xffffffff, 0, 0, 0, 0, true, 2⟩
  | .HAL_CTR_VALUE => ⟨8, 0x72804, 16, 8, 1, 0, 0, 0, 0, 0, 0, 0, false, 2⟩
  | .HAL_NOTIFY => ⟨8, 0x72900, 16, 4, 1, 0, 0, 0x7ff, 0, 0, 0, 0, true, 2⟩
  | .HAL_SEQ_CFG => ⟨8, 0x72a00, 32, 4, 1, 0, 0, 0, 0, 0, 0, 0, false, 2⟩
  | .HAL_SEQ_RUN => ⟨8, 0x72a80, 1, 0, 1, 0, 0, 0, 0, 0, 0, 0, false, 2⟩
  | .HAL_SEQ_ERR => ⟨8, 0x72a84, 1, 0, 1, 0, 0, 0, 0xffffffff, 0, 0, 0, false, 2⟩
  | .HAL_SEQ_TIMEOUT => ⟨8, 0x72a88, 1, 0, 1, 0, 0, 0, 0xffffffff, 0, 0, 0, false, 2⟩
  | .HAL_SEQ_CMD => ⟨8, 0x72a8c, 1, 0, 1, 0, 0, 0, 0, 0, 0, 0x8000001f, false, 2⟩
  | .PCE_STATUS => ⟨9, 0x10000, 1, 0, 1, 0, 0, 0, 0xe0000, 0, 0, 0, false, 2⟩
  | .PCE_CTRL => ⟨9, 0x10004, 1, 0, 1, 0, 0, 0xfff, 0, 0, 0, 0, false, 2⟩
  | .PCE_ASPM => ⟨9, 0x10008, 1, 0, 1, 0, 0x400a, 0x3ffff, 0, 0, 0, 0, false, 2⟩
  | .PCE_CNT_BAD_ACCESS => ⟨9, 0x10040, 1, 0, 1, 0, 0, 0, 0, 0, 0xffffffff, 0, false, 2⟩
  | .PCE_CNT_PRIV_REFUSED => ⟨9, 0x10044, 1, 0, 1, 0, 0, 0, 0, 0, 0xffffffff, 0, false, 2⟩
  | .PCE_CNT_POISON_TX => ⟨9, 0x10048, 1, 0, 1, 0, 0, 0, 0, 0, 0xffffffff, 0, false, 2⟩
  | .PCE_CNT_MSIX_DROP => ⟨9, 0x1004c, 1, 0, 1, 0, 0, 0, 0, 0, 0xffffffff, 0, false, 2⟩
  | .PCE_CNT_CPL_TIMEOUT => ⟨9, 0x10050, 1, 0, 1, 0, 0, 0, 0, 0, 0xffffffff, 0, false, 2⟩
  | .PCE_CNT_UNEXP_CPL => ⟨9, 0x10054, 1, 0, 1, 0, 0, 0, 0, 0, 0xffffffff, 0, false, 2⟩
  | .PCE_CNT_BME_DROP => ⟨9, 0x10058, 1, 0, 1, 0, 0, 0, 0, 0, 0xffffffff, 0, false, 2⟩
  | .PCE_CNT_FLR_DROP => ⟨9, 0x1005c, 1, 0, 1, 0, 0, 0, 0, 0, 0xffffffff, 0, false, 2⟩
  | .PCE_CNT_LINK_DOWN => ⟨9, 0x10060, 1, 0, 1, 0, 0, 0, 0, 0, 0xffffffff, 0, false, 2⟩
  | .DMA_CFG => ⟨10, 0x80000, 32, 0x80, 1, 0, 0x3fc, 0xffffffff, 0, 0, 0, 0, false, 2⟩
  | .DMA_STATUS => ⟨10, 0x80004, 32, 0x80, 1, 0, 0, 0, 0x3000, 0, 0, 0, false, 2⟩
  | .DMA_CMD => ⟨10, 0x80008, 32, 0x80, 1, 0, 0, 0, 0, 0, 0, 7, false, 2⟩
  | .DMA_DOORBELL => ⟨10, 0x8000c, 32, 0x80, 1, 0, 0, 0, 0, 0, 0, 0xffffffff, false, 2⟩
  | .DMA_DB_COUNT => ⟨10, 0x80010, 32, 0x80, 1, 0, 0, 0, 0, 0, 0, 0, false, 2⟩
  | .DMA_DESC_LO => ⟨10, 0x80014, 32, 0x80, 1, 0, 0, 0xffffffff, 0, 0, 0, 0, false, 2⟩
  | .DMA_DESC_HI => ⟨10, 0x80018, 32, 0x80, 1, 0, 0, 0xffffffff, 0, 0, 0, 0, false, 2⟩
  | .DMA_CUR_LO => ⟨10, 0x8001c, 32, 0x80, 1, 0, 0, 0, 0, 0, 0, 0, false, 2⟩
  | .DMA_CUR_HI => ⟨10, 0x80020, 32, 0x80, 1, 0, 0, 0, 0, 0, 0, 0, false, 2⟩
  | .DMA_CNT_DESC => ⟨10, 0x80040, 32, 0x80, 1, 0, 0, 0, 0, 0, 0xffffffff, 0, false, 2⟩
  | .DMA_CNT_CT_DROP => ⟨10, 0x80044, 32, 0x80, 1, 0, 0, 0, 0, 0, 0xffffffff, 0, false, 2⟩
  | .DMA_CNT_CT_SIZE => ⟨10, 0x80048, 32, 0x80, 1, 0, 0, 0, 0, 0, 0xffffffff, 0, false, 2⟩
  | .DMA_CNT_CT_TRUNC => ⟨10, 0x8004c, 32, 0x80, 1, 0, 0, 0, 0, 0, 0xffffffff, 0, false, 2⟩
  | .DMA_CNT_POISON => ⟨10, 0x80050, 32, 0x80, 1, 0, 0, 0, 0, 0, 0xffffffff, 0, false, 2⟩
  | .DMA_CNT_BAD_ADDR => ⟨10, 0x80054, 32, 0x80, 1, 0, 0, 0, 0, 0, 0xffffffff, 0, false, 2⟩
  | .DMA_CNT_OWN_WAIT => ⟨10, 0x80058, 32, 0x80, 1, 0, 0, 0, 0, 0, 0xffffffff, 0, false, 2⟩
  | .QUE_CFG => ⟨11, 0x90000, 64, 0x80, 1, 0, 0, 0, 0, 0, 0, 0, false, 2⟩
  | .QUE_STATUS => ⟨11, 0x90004, 64, 0x80, 1, 0, 0x10000, 0, 0x60000, 0, 0, 0, false, 2⟩
  | .QUE_CMD => ⟨11, 0x90008, 64, 0x80, 1, 0, 0, 0, 0, 0, 0, 3, false, 2⟩
  | .QUE_RD_HEAD => ⟨11, 0x9000c, 64, 0x80, 1, 0, 0, 0, 0, 0, 0xffffffff, 0, false, 2⟩
  | .QUE_RD_DATA => ⟨11, 0x90010, 64, 0x80, 1, 0, 0, 0, 0, 0, 0xffffffff, 0, false, 2⟩
  | .QUE_WR_HEAD => ⟨11, 0x90014, 64, 0x80, 1, 0, 0, 0, 0, 0, 0, 0x707, false, 2⟩
  | .QUE_WR_DATA => ⟨11, 0x90018, 64, 0x80, 1, 0, 0, 0, 0, 0, 0, 0xffffffff, false, 2⟩
  | .QUE_IRQ => ⟨11, 0x9001c, 64, 0x80, 1, 0, 0, 0x3ffffff, 0, 0, 0, 0, false, 2⟩
  | .QUE_CNT_LOST => ⟨11, 0x90040, 64, 0x80, 1, 0, 0, 0, 0, 0, 0xffffffff, 0, false, 2⟩
  | .QUE_CNT_POISONED => ⟨11, 0x90044, 64, 0x80, 1, 0, 0, 0, 0, 0, 0xffffffff, 0, false, 2⟩
  | .QUE_CNT_PTR_ERR => ⟨11, 0x90048, 64, 0x80, 1, 0, 0, 0, 0, 0, 0xffffffff, 0, false, 2⟩
  | .QUE_CNT_NO_QUEUE => ⟨11, 0x9004c, 64, 0x80, 1, 0, 0, 0, 0, 0, 0xffffffff, 0, false, 2⟩
  | .TIM_CFG => ⟨12, 0x60000, 1, 0, 1, 0, 1, 7, 0, 0, 0, 0, true, 3⟩
  | .TIM_STATUS => ⟨12, 0x60004, 1, 0, 1, 0, 0, 0, 0x38, 0, 0, 0, false, 2⟩
  | .TIM_NOW_SEC_LO => ⟨12, 0x60008, 1, 0, 1, 0, 0, 0, 0, 0, 0, 0, false, 2⟩
  | .TIM_NOW_SEC_HI => ⟨12, 0x6000c, 1, 0, 1, 0, 0, 0, 0, 0, 0, 0, false, 2⟩
  | .TIM_NOW_SUB => ⟨12, 0x60010, 1, 0, 1, 0, 0, 0, 0, 0, 0, 0, false, 2⟩
  | .TIM_SET_SEC_LO => ⟨12, 0x60014, 1, 0, 1, 0, 0, 0xffffffff, 0, 0, 0, 0, false, 3⟩
  | .TIM_SET_SEC_HI => ⟨12, 0x60018, 1, 0, 1, 0, 0, 0xffffffff, 0, 0, 0, 0, false, 3⟩
  | .TIM_SET_SUB => ⟨12, 0x6001c, 1, 0, 1, 0, 0, 0x7fffffff, 0, 0, 0, 0, false, 3⟩
  | .TIM_CMD => ⟨12, 0x60020, 1, 0, 1, 0, 0, 0, 0, 0, 0, 3, false, 3⟩
  | .TIM_FREQ => ⟨12, 0x60024, 1, 0, 1, 0, 0, 0, 0, 0, 0, 0, false, 2⟩
  | .TIM_LAST_STEP => ⟨12, 0x60028, 1, 0, 1, 0, 0, 0, 0, 0, 0, 0, false, 2⟩
  | .TIM_SERVO_LIM => ⟨12, 0x6002c, 1, 0, 1, 0, 0x10a64, 0xffffff, 0, 0, 0, 0, true, 3⟩
  | .TIM_STEP_NS => ⟨12, 0x60030, 1, 0, 1, 0, 0x3e8, 0xffffffff, 0, 0, 0, 0, true, 3⟩
  | .TIM_DOM_CFG => ⟨12, 0x60100, 2, 0x40, 1, 0, 0x80800010, 0xffffff1f, 0, 0, 0, 0, true, 3⟩
  | .TIM_DOM_CLASS => ⟨12, 0x60104, 2, 0x40, 1, 0, 0xfffffef8, 0xffffffff, 0, 0, 0, 0, true, 3⟩
  | .TIM_DOM_INTV => ⟨12, 0x60108, 2, 0x40, 1, 0, 0x3000100, 0xffffffff, 0, 0, 0, 0, true, 3⟩
  | .TIM_DOM_SERVO => ⟨12, 0x6010c, 2, 0x40, 1, 0, 0x10008000, 0xffffffff, 0, 0, 0, 0, true, 3⟩
  | .TIM_DOM_STATUS => ⟨12, 0x60110, 2, 0x40, 1, 0, 0, 0, 0x1000, 0, 0, 0, false, 2⟩
  | .TIM_DOM_OFFSET => ⟨12, 0x60114, 2, 0x40, 1, 0, 0, 0, 0, 0, 0, 0, false, 2⟩
  | .TIM_DOM_FREQ => ⟨12, 0x60118, 2, 0x40, 1, 0, 0, 0, 0, 0, 0, 0, false, 2⟩
  | .TIM_DOM_PATH => ⟨12, 0x6011c, 2, 0x40, 1, 0, 0, 0, 0, 0, 0, 0, false, 2⟩
  | .TIM_DOM_GM_LO => ⟨12, 0x60120, 2, 0x40, 1, 0, 0, 0, 0, 0, 0, 0, false, 2⟩
  | .TIM_DOM_GM_HI => ⟨12, 0x60124, 2, 0x40, 1, 0, 0, 0, 0, 0, 0, 0, false, 2⟩
  | .TIM_PORT_CFG => ⟨12, 0x60200, 2, 0x40, 1, 0, 1, 1, 0, 0, 0, 0, true, 3⟩
  | .TIM_PORT_STATUS => ⟨12, 0x60204, 2, 0x40, 1, 0, 0, 0, 0, 0, 0, 0, false, 2⟩
  | .TIM_PORT_ASYM => ⟨12, 0x60208, 2, 0x40, 1, 0, 0, 0xffffffff, 0, 0, 0, 0, true, 3⟩
  | .TIM_PORT_LAT => ⟨12, 0x6020c, 2, 0x40, 1, 0, 0, 0, 0, 0, 0, 0, false, 2⟩
  | .TIM_PORT_CNT_PTP => ⟨12, 0x60210, 2, 0x40, 1, 0, 0, 0, 0, 0, 0xffffffff, 0, false, 2⟩
  | .TIM_PORT_CNT_DISCARD => ⟨12, 0x60214, 2, 0x40, 1, 0, 0, 0, 0, 0, 0xffffffff, 0, false, 2⟩
  | .TIM_SCH_CFG => ⟨12, 0x60400, 8, 0x20, 1, 0, 0, 0xf, 0, 0, 0, 0xc0000000, false, 2⟩
  | .TIM_SCH_START_LO => ⟨12, 0x60404, 8, 0x20, 1, 0, 0, 0xffffffff, 0, 0, 0, 0, false, 2⟩
  | .TIM_SCH_START_HI => ⟨12, 0x60408, 8, 0x20, 1, 0, 0, 0xffffffff, 0, 0, 0, 0, false, 2⟩
  | .TIM_SCH_START_SUB => ⟨12, 0x6040c, 8, 0x20, 1, 0, 0, 0x7fffffff, 0, 0, 0, 0, false, 2⟩
  | .TIM_SCH_PERIOD => ⟨12, 0x60410, 8, 0x20, 1, 0, 0x4a817c80, 0xffffffff, 0, 0, 0, 0, false, 2⟩
  | .TIM_SCH_WIDTH => ⟨12, 0x60414, 8, 0x20, 1, 0, 0x7735940, 0xffffffff, 0, 0, 0, 0, false, 2⟩
  | .TIM_SCH_COUNT => ⟨12, 0x60418, 8, 0x20, 1, 0, 0, 0xffffffff, 0, 0, 0, 0, false, 2⟩
  | .TIM_SCH_STATUS => ⟨12, 0x6041c, 8, 0x20, 1, 0, 0, 0, 6, 0, 0, 0, false, 2⟩
  | .TIM_CAP_SEC_LO => ⟨12, 0x60600, 8, 0x10, 1, 0, 0, 0, 0, 0, 0, 0, false, 2⟩
  | .TIM_CAP_SEC_HI => ⟨12, 0x60604, 8, 0x10, 1, 0, 0, 0, 0, 0, 0, 0, false, 2⟩
  | .TIM_CAP_SUB => ⟨12, 0x60608, 8, 0x10, 1, 0, 0, 0, 0, 0, 0, 0, false, 2⟩
  | .TIM_CAP_STATUS => ⟨12, 0x6060c, 8, 0x10, 1, 0, 0, 0, 2, 0, 0, 0, false, 2⟩
  | .TIM_RING_CFG => ⟨12, 0x60700, 2, 0x20, 1, 0, 0, 0x3f, 0, 0, 0, 0, true, 3⟩
  | .TIM_RING_STATUS => ⟨12, 0x60704, 2, 0x20, 1, 0, 1, 0, 2, 0, 0, 0, false, 2⟩
  | .TIM_RING_SEND => ⟨12, 0x60708, 2, 0x20, 1, 0, 0, 0, 0, 0, 0, 0x800000ff, false, 2⟩
  | .TIM_RING_LAST => ⟨12, 0x6070c, 2, 0x20, 1, 0, 0, 0, 0, 0, 0, 0, false, 2⟩
  | .TIM_RING_LOOP => ⟨12, 0x60710, 2, 0x20, 1, 0, 0, 0, 0, 0, 0, 0, false, 2⟩
  | .TIM_RING_CNT_RX => ⟨12, 0x60714, 2, 0x20, 1, 0, 0, 0, 0, 0, 0xffffffff, 0, false, 2⟩
  | .TIM_RING_CNT_CRC => ⟨12, 0x60718, 2, 0x20, 1, 0, 0, 0, 0, 0, 0xffffffff, 0, false, 2⟩
  | .TIM_RING_CNT_DROP => ⟨12, 0x6071c, 2, 0x20, 1, 0, 0, 0, 0, 0, 0xffffffff, 0, false, 2⟩
  | .HLM_STATUS => ⟨13, 0x50000, 1, 0, 1, 0, 0, 0, 0x100, 0, 0, 0, false, 2⟩
  | .HLM_WDT => ⟨13, 0x50004, 1, 0, 1, 0, 0x64, 0xffff, 0, 0, 0, 0, false, 4⟩
  | .HLM_JOURNAL_USED => ⟨13, 0x50010, 1, 0, 1, 0, 0, 0, 0, 0, 0, 0, false, 2⟩
  | .HLM_LAST_RESYNC => ⟨13, 0x50014, 1, 0, 1, 0, 0, 0, 0, 0, 0, 0, false, 2⟩
  | .HLM_CKPT_SEQ => ⟨13, 0x50018, 1, 0, 1, 0, 0, 0, 0, 0, 0, 0, false, 2⟩
  | .HLM_CNT_MISCOMPARE => ⟨13, 0x50040, 1, 0, 1, 0, 0, 0, 0, 0, 0xffffffff, 0, false, 2⟩
  | .HLM_CNT_REPLAY => ⟨13, 0x50044, 1, 0, 1, 0, 0, 0, 0, 0, 0xffffffff, 0, false, 2⟩
  | .HLM_CNT_NOTICE_DROP => ⟨13, 0x50048, 1, 0, 1, 0, 0, 0, 0, 0, 0xffffffff, 0, false, 2⟩
  | .PWR_MODE_REQ => ⟨14, 0x40000, 1, 0, 1, 0, 0, 0, 0, 0, 0, 0x80000007, false, 2⟩
  | .PWR_MODE_STATUS => ⟨14, 0x40004, 1, 0, 1, 0, 9, 0, 0x7000, 0, 0, 0, false, 2⟩
  | .PWR_DOM_STATUS => ⟨14, 0x40010, 1, 0, 3, 4, 0, 0, 0, 0, 0, 0, false, 2⟩
  | .PWR_DOM_PENDING => ⟨14, 0x40020, 1, 0, 3, 4, 0, 0, 0, 0, 0, 0, false, 2⟩
  | .PWR_DOM_CMD => ⟨14, 0x40030, 1, 0, 1, 0, 0, 0, 0, 0, 0, 0x8000037f, false, 3⟩
  | .PWR_INRUSH_CFG => ⟨14, 0x40034, 1, 0, 1, 0, 0x1040, 0xffff, 0, 0, 0, 0, true, 3⟩
  | .PWR_INRUSH_LEVEL => ⟨14, 0x40038, 1, 0, 1, 0, 0x40, 0, 0, 0, 0, 0, false, 2⟩
  | .PWR_SUPPLY => ⟨14, 0x40040, 1, 0, 1, 0, 0, 0, 0, 0, 0, 0, false, 2⟩
  | .PWR_CMD => ⟨14, 0x40044, 1, 0, 1, 0, 0, 0, 0, 0, 0, 1, false, 3⟩
  | .PWR_RESET_CAUSE => ⟨14, 0x40048, 1, 0, 1, 0, 0, 0, 0, 0, 0, 0, false, 2⟩
  | .PWR_FAULT_SUMMARY => ⟨14, 0x4004c, 1, 0, 1, 0, 0, 0, 0x7fff, 0, 0, 0, false, 2⟩
  | .PWR_FAULT_CFG => ⟨14, 0x40050, 1, 0, 1, 0, 0, 0xfff, 0, 0, 0, 0, false, 2⟩
  | .PWR_REEF_LAST => ⟨14, 0x4005c, 1, 0, 1, 0, 0, 0, 0, 0, 0, 0, false, 2⟩
  | .PWR_CNT_WARN => ⟨14, 0x40080, 1, 0, 1, 0, 0, 0, 0, 0, 0xffffffff, 0, false, 2⟩
  | .PWR_CNT_REEF => ⟨14, 0x40084, 1, 0, 1, 0, 0, 0, 0, 0, 0xffffffff, 0, false, 2⟩
  | .PWR_CNT_REEF_DROP => ⟨14, 0x40088, 1, 0, 1, 0, 0, 0, 0, 0, 0xffffffff, 0, false, 2⟩
  | .PWR_DOM_POLICY => ⟨14, 0x40100, 80, 4, 1, 0, 0, 0, 0, 0, 0, 0, false, 2⟩
  | .BOOT_STATUS => ⟨16, 0x20000, 1, 0, 1, 0, 2, 0, 0x300, 0, 0, 0, false, 0⟩
  | .BOOT_CMD => ⟨16, 0x20004, 1, 0, 1, 0, 0, 0, 0, 0, 0, 0x8000001f, false, 3⟩
  | .BOOT_ADDR => ⟨16, 0x20008, 1, 0, 1, 0, 0, 0xffffffff, 0, 0, 0, 0, false, 2⟩
  | .BOOT_LEN => ⟨16, 0x2000c, 1, 0, 1, 0, 0, 0xffffffff, 0, 0, 0, 0, false, 2⟩
  | .BOOT_SRC_LO => ⟨16, 0x20010, 1, 0, 1, 0, 0, 0xffffffff, 0, 0, 0, 0, false, 2⟩
  | .BOOT_SRC_HI => ⟨16, 0x20014, 1, 0, 1, 0, 0, 0xffffffff, 0, 0, 0, 0, false, 2⟩
  | .BOOT_PROGRESS => ⟨16, 0x20018, 1, 0, 1, 0, 0, 0, 0, 0, 0, 0, false, 2⟩
  | .BOOT_SEQ_ACTIVE => ⟨16, 0x2001c, 1, 0, 1, 0, 0, 0, 0, 0, 0, 0, false, 2⟩
  | .BOOT_SVN => ⟨16, 0x20020, 1, 0, 1, 0, 0, 0, 0, 0, 0, 0, false, 2⟩
  | .BOOT_COMMIT => ⟨16, 0x20024, 1, 0, 1, 0, 0, 0, 0, 0, 0, 0x80000000, false, 2⟩
  | .BOOT_COMMIT_SEQ => ⟨16, 0x20028, 1, 0, 1, 0, 0, 0, 0, 0, 0, 0, false, 2⟩
  | .BOOT_CNT_STAGED_DISCARD => ⟨16, 0x2002c, 1, 0, 1, 0, 0, 0, 0, 0, 0xffffffff, 0, false, 2⟩
  | .BOOT_FLASH_INFO => ⟨16, 0x20030, 2, 4, 1, 0, 0, 0, 0, 0, 0, 0, false, 2⟩
  | .BOOT_MBX_CMD => ⟨16, 0x20100, 1, 0, 1, 0, 0, 0, 0, 0, 0, 0x80000033, false, 0⟩
  | .BOOT_MBX_STATUS => ⟨16, 0x20104, 1, 0, 1, 0, 0, 0, 0x10, 0, 0, 0, false, 0⟩
  | .BOOT_MBX_CFG => ⟨16, 0x20108, 1, 0, 1, 0, 0, 0xfff, 0, 0, 0, 0, false, 0⟩
  | .SES_ETH_CFG => ⟨17, 0x30000, 1, 0, 1, 0, 0xbab80000, 0xffff0003, 0, 0, 0, 0, true, 3⟩
  | .SES_ETH_IP4 => ⟨17, 0x30004, 1, 0, 1, 0, 0, 0xffffffff, 0, 0, 0, 0, true, 3⟩
  | .SES_ETH_TIMEOUT => ⟨17, 0x30008, 1, 0, 1, 0, 0xa, 0xffffffff, 0, 0, 0, 0, true, 3⟩
  | .SES_STATUS => ⟨17, 0x30010, 1, 0, 1, 0, 0, 0, 0, 0, 0, 0, false, 3⟩
  | .SES_CNT_AUTH_FAIL => ⟨17, 0x30040, 1, 0, 1, 0, 0, 0, 0, 0, 0xffffffff, 0, false, 3⟩
  | .SES_CNT_REPLAY => ⟨17, 0x30044, 1, 0, 1, 0, 0, 0, 0, 0, 0xffffffff, 0, false, 3⟩
  | .SES_CNT_BAD_TAG => ⟨17, 0x30048, 1, 0, 1, 0, 0, 0, 0, 0, 0xffffffff, 0, false, 3⟩

/-- The value a register holds after reset. -/
def Reg.reset (r : Reg) : Word := r.info.reset

/-- Register names, part 0 of the register index. -/
def Reg.part0 : List Reg :=
  [.LNK_CTRL, .LNK_STATUS, .LNK_PORT_CFG, .LNK_PORT_STATUS, .LNK_TRAIN, .LNK_TAPS, .LNK_PATTERN,
   .LNK_USER_WORD, .LNK_INJECT, .LNK_CNT_BAD_HDR, .LNK_CNT_LOCK_LOSS, .LNK_CNT_BAD_TYPE, .LNK_CNT_STUFF,
   .LNK_CNT_STUFF_EXCESS, .LNK_CNT_SKIP_ERR, .LNK_CNT_EB_OVF, .LNK_CNT_REBUILT, .LNK_CNT_PARITY_MISMATCH,
   .LNK_CNT_ERASED_ROWS, .LNK_CNT_DOZE_SLOW, .LNK_BER_BITS_LO, .LNK_BER_BITS_HI, .LNK_BER_ERRS, .CAP_AXIS_SEL,
   .CAP_CTRL_CMD, .CAP_CTRL_ADDR, .CAP_CTRL_STATUS, .CAP_PORT_CLASS, .CAP_PORT_ROUTE, .CAP_CROP_ORIGIN,
   .CAP_CROP_SIZE, .CAP_TRIG_CFG, .CAP_TRIG_TIMING, .CAP_PATH_PITCH, .CAP_STAMP_CAL, .CAP_CAM_STAT,
   .CAP_PORT_FLAGS, .CAP_FRAME_NUM_LO, .CAP_FRAME_NUM_HI, .CAP_CNT_FRAMES]

/-- Register names, part 1 of the register index. -/
def Reg.part1 : List Reg :=
  [.CAP_CNT_INCOMPLETE, .CAP_CNT_BAD_HCRC, .CAP_CNT_BAD_PCRC, .CAP_CNT_BAD_TYPE, .CAP_CNT_ORPHAN,
   .CAP_CNT_OVERSIZE, .CAP_CNT_RATE_EXCESS, .CAP_CNT_OPAQUE, .CAP_CNT_TRIG_SENT, .CAP_CNT_TRIG_MERGED,
   .CAP_CNT_TRIG_HOLDOFF, .CAP_CNT_TRIG_DROP, .CAP_CNT_TRIG_NOACK, .CAP_CNT_TRIG_REFUSED, .CAP_CNT_CTRL_RETRY,
   .CAP_ENC_CMP_CFG, .CAP_ENC_CMP_PITCH, .CAP_ENC_CMP_NEXT, .CAP_ENC_IN, .CAP_ENC_COUNT, .CAP_ENC_ZLATCH,
   .CAP_ENC_CNT_ERR, .CAP_SSI_CFG, .CAP_SSI_POS, .CAP_SSI_CNT_ERR, .FST_CFG, .FST_STATUS, .FST_BANDS,
   .FST_LOAD_CFG, .FST_BUILD_BASE, .FST_BUILD_BANDS, .FST_MP_LOG_BANDS, .FST_MP_TEST_BANDS, .FST_RES_BASE,
   .FST_RES_BANDS, .FST_RES_USED, .FST_RETIRE_CFG, .FST_MARK_CMD, .FST_SPAN_CMD, .FST_CNT_BAD_ACCESS]

/-- Register names, part 2 of the register index. -/
def Reg.part2 : List Reg :=
  [.FST_CNT_NO_RING, .FST_CH_STATUS, .FST_CH_CE_BUCKET, .FST_CH_CNT_CE, .FST_CH_CNT_UE, .FST_CH_ECC_BAND,
   .FST_CH_ECC_INFO, .FST_CH_MPL_WP, .FST_CH_MPT_WP, .FST_RING_BASE, .FST_RING_IDX_BANDS, .FST_RING_DATA_BANDS,
   .FST_RING_CFG, .FST_RING_PRE, .FST_RING_POST, .FST_RING_STATUS, .FST_RING_LAP, .FST_RING_WP_BAND,
   .FST_RING_HEAD, .FST_RING_TAIL, .FST_CNT_DROP, .FST_CNT_SPILL, .FST_CNT_VOID, .FST_CNT_SPAN_REFUSED,
   .MST_CFG, .MST_CLASS_WD, .MST_STATUS, .MST_FAULT0, .MST_FAULT1, .MST_SPARE_USE, .MST_SPAR_STATE,
   .MST_STREAM_CFG, .MST_STREAM_TILE, .MST_STREAM_BUF, .MST_STREAM_RED, .MST_CNT_TILES, .MST_CNT_RERUN,
   .MST_CNT_ABANDON, .MST_CNT_PROG_FAULT, .MST_CNT_CANCEL]

/-- Register names, part 3 of the register index. -/
def Reg.part3 : List Reg :=
  [.MST_CNT_CE, .MST_CNT_SHM_UE, .MST_CNT_MP_LATE, .MST_CNT_NO_STREAM, .MST_CNT_NO_BEAM, .MST_CNT_INGEST_DROP,
   .SHT_CFG, .SHT_STATUS, .SHT_TIMING, .SHT_MISS, .SHT_F_OFFSET, .SHT_F_SCALE, .SHT_SP_FIXED, .SHT_SP_SLOPE,
   .SHT_P_REF, .SHT_KP, .SHT_KI, .SHT_KD, .SHT_I_MIN, .SHT_I_MAX, .SHT_FF_P, .SHT_K_V, .SHT_V_REF,
   .SHT_RATE_MAX, .SHT_P_MIN, .SHT_P_MAX, .SHT_AUTH, .SHT_FS_LAG, .SHT_BQ_B0, .SHT_BQ_B1, .SHT_BQ_B2,
   .SHT_BQ_A1, .SHT_BQ_A2, .SHT_TUNE, .SHT_INJ_AMP, .SHT_SWEEP_F0, .SHT_SWEEP_F1, .SHT_RUN_LEN, .SHT_CMD,
   .SHT_I_STATE]

/-- Register names, part 4 of the register index. -/
def Reg.part4 : List Reg :=
  [.SHT_LAST_OUT, .SHT_LAST_FRAME, .SHT_LAST_DELAY, .SHT_DELAY_MAX, .SHT_CNT_EVAL, .SHT_CNT_MISS,
   .SHT_CNT_STALE, .SHT_CNT_REJECT, .SHT_CNT_BAD_CHECK, .SHT_CNT_FOREIGN, .SHT_CNT_OVERRUN,
   .SHT_CNT_NOT_ENGAGED, .SHT_CNT_FALLBACK, .SHT_CNT_SUPERSEDED, .SHT_CNT_LOG_DROP, .BCH_CFG, .BCH_STATUS,
   .BCH_FAULT, .BCH_HYBRID, .BCH_OUT_CFG, .BCH_PITCH, .BCH_PULSE, .BCH_ENC_SCALE, .BCH_TRACK, .BCH_REVERSAL,
   .BCH_TIME_OFS, .BCH_PATH_OFS, .BCH_EMIT_DLY, .BCH_HATCH_AXIS, .BCH_CAL_POWER, .BCH_GAIN, .BCH_METER_CFG,
   .BCH_GAIN_LIMIT, .BCH_METER_SCALE, .BCH_METER_LAST, .BCH_WD_ON, .BCH_WD_DWELL, .BCH_WD_PWR, .BCH_WD_SCALE,
   .BCH_CNT_PULSES]

/-- Register names, part 5 of the register index. -/
def Reg.part5 : List Reg :=
  [.BCH_CNT_PULSE_SKIP, .BCH_CNT_HELD, .BCH_CNT_REVERSAL, .BCH_CNT_ROT_WAIT, .BCH_CNT_CUT, .BCH_CNT_METER,
   .BCH_PERMIT, .BCH_PERMIT_CFG, .BCH_ROT_CFG, .SCN_CFG, .SCN_STATUS, .SCN_CMD, .SCN_PROG_BASE, .SCN_MOTION,
   .SCN_RAMP, .SCN_SPEED0, .SCN_JUMP, .SCN_GRID_X0, .SCN_GRID_Y0, .SCN_GRID_STEP, .SCN_Z_SCALE, .SCN_HEAD,
   .SCN_TEMP, .SCN_GRACE, .SCN_STREAM_CFG, .SCN_STREAM_LEVEL, .SCN_HALT_RECORD, .SCN_HALT_OFFSET, .SCN_RECORD,
   .SCN_PATH_LO, .SCN_PATH_HI, .SCN_HEAD_TEMP, .SCN_POS_X, .SCN_POS_Y, .SCN_CNT_RECORDS, .SCN_CNT_PAUSE,
   .SCN_CNT_CLEAR, .SCN_CNT_LATE, .SCN_CNT_TEMP_SPLIT, .SCN_CNT_RAMP_SHORT]

/-- Register names, part 6 of the register index. -/
def Reg.part6 : List Reg :=
  [.SCN_CNT_FIELD_CLAMP, .SCN_CNT_SH_CRC, .SCN_CNT_SH_SYNC, .SCN_CNT_SH_REMOTE, .SCN_CNT_STREAM_BAD,
   .SCN_CNT_HALT, .SCN_CLR_CFG, .SCN_CLR_RADIUS, .SCN_FLOW, .SCN_PLUME, .SCN_LAYER, .SCN_LAYER_SET,
   .SCN_CAL_CFG, .SCN_CAL_LIMIT, .SCN_CAL_STATUS, .SCN_CNT_CAL_USED, .SCN_CNT_CAL_DISCARD, .LUM_CH_CFG,
   .LUM_CH_STATUS, .LUM_CH_FAULT, .LUM_CH_LEVEL, .LUM_CH_STROBE, .LUM_CH_EXP, .LUM_CH_DIAG, .LUM_CH_VF,
   .LUM_CH_VF_LIM, .LUM_CH_SCALE, .LUM_CH_CMD, .LUM_CNT_OVERLAP, .LUM_CNT_DIAG_ABORT, .LUM_CNT_UNDIAG,
   .LUM_PROJ_CFG, .LUM_PROJ_TIMING, .LUM_PROJ_TEST, .LUM_PROJ_CMD, .LUM_PROJ_STATUS, .LUM_VF_PERIOD,
   .LUM_CNT_FRONT_WRITE, .LUM_CNT_SYNC_OVR, .LUM_CNT_PIX_OPEN]

/-- Register names, part 7 of the register index. -/
def Reg.part7 : List Reg :=
  [.LUM_CNT_PIX_SHORT, .HAL_CFG, .HAL_ORPHAN, .HAL_LOOP, .HAL_DUP, .HAL_REFUSE, .HAL_PUBLISH, .HAL_GROUP_STATE,
   .HAL_GROUP_CMD, .HAL_GROUP_INIT, .HAL_CNT_DELIVERED, .HAL_CNT_UNROUTED, .HAL_CNT_GATED, .HAL_CNT_QUEUE_DROP,
   .HAL_CNT_LOOP, .HAL_CNT_ORPHAN, .HAL_CNT_REFUSED, .HAL_ATTR, .HAL_SUB, .HAL_TASK_STATUS, .HAL_PROD_BIND,
   .HAL_CTR_CFG, .HAL_CTR_VALUE, .HAL_NOTIFY, .HAL_SEQ_CFG, .HAL_SEQ_RUN, .HAL_SEQ_ERR, .HAL_SEQ_TIMEOUT,
   .HAL_SEQ_CMD, .PCE_STATUS, .PCE_CTRL, .PCE_ASPM, .PCE_CNT_BAD_ACCESS, .PCE_CNT_PRIV_REFUSED,
   .PCE_CNT_POISON_TX, .PCE_CNT_MSIX_DROP, .PCE_CNT_CPL_TIMEOUT, .PCE_CNT_UNEXP_CPL, .PCE_CNT_BME_DROP,
   .PCE_CNT_FLR_DROP]

/-- Register names, part 8 of the register index. -/
def Reg.part8 : List Reg :=
  [.PCE_CNT_LINK_DOWN, .DMA_CFG, .DMA_STATUS, .DMA_CMD, .DMA_DOORBELL, .DMA_DB_COUNT, .DMA_DESC_LO,
   .DMA_DESC_HI, .DMA_CUR_LO, .DMA_CUR_HI, .DMA_CNT_DESC, .DMA_CNT_CT_DROP, .DMA_CNT_CT_SIZE,
   .DMA_CNT_CT_TRUNC, .DMA_CNT_POISON, .DMA_CNT_BAD_ADDR, .DMA_CNT_OWN_WAIT, .QUE_CFG, .QUE_STATUS, .QUE_CMD,
   .QUE_RD_HEAD, .QUE_RD_DATA, .QUE_WR_HEAD, .QUE_WR_DATA, .QUE_IRQ, .QUE_CNT_LOST, .QUE_CNT_POISONED,
   .QUE_CNT_PTR_ERR, .QUE_CNT_NO_QUEUE, .TIM_CFG, .TIM_STATUS, .TIM_NOW_SEC_LO, .TIM_NOW_SEC_HI, .TIM_NOW_SUB,
   .TIM_SET_SEC_LO, .TIM_SET_SEC_HI, .TIM_SET_SUB, .TIM_CMD, .TIM_FREQ, .TIM_LAST_STEP]

/-- Register names, part 9 of the register index. -/
def Reg.part9 : List Reg :=
  [.TIM_SERVO_LIM, .TIM_STEP_NS, .TIM_DOM_CFG, .TIM_DOM_CLASS, .TIM_DOM_INTV, .TIM_DOM_SERVO, .TIM_DOM_STATUS,
   .TIM_DOM_OFFSET, .TIM_DOM_FREQ, .TIM_DOM_PATH, .TIM_DOM_GM_LO, .TIM_DOM_GM_HI, .TIM_PORT_CFG,
   .TIM_PORT_STATUS, .TIM_PORT_ASYM, .TIM_PORT_LAT, .TIM_PORT_CNT_PTP, .TIM_PORT_CNT_DISCARD, .TIM_SCH_CFG,
   .TIM_SCH_START_LO, .TIM_SCH_START_HI, .TIM_SCH_START_SUB, .TIM_SCH_PERIOD, .TIM_SCH_WIDTH, .TIM_SCH_COUNT,
   .TIM_SCH_STATUS, .TIM_CAP_SEC_LO, .TIM_CAP_SEC_HI, .TIM_CAP_SUB, .TIM_CAP_STATUS, .TIM_RING_CFG,
   .TIM_RING_STATUS, .TIM_RING_SEND, .TIM_RING_LAST, .TIM_RING_LOOP, .TIM_RING_CNT_RX, .TIM_RING_CNT_CRC,
   .TIM_RING_CNT_DROP, .HLM_STATUS, .HLM_WDT]

/-- Register names, part 10 of the register index. -/
def Reg.part10 : List Reg :=
  [.HLM_JOURNAL_USED, .HLM_LAST_RESYNC, .HLM_CKPT_SEQ, .HLM_CNT_MISCOMPARE, .HLM_CNT_REPLAY,
   .HLM_CNT_NOTICE_DROP, .PWR_MODE_REQ, .PWR_MODE_STATUS, .PWR_DOM_STATUS, .PWR_DOM_PENDING, .PWR_DOM_CMD,
   .PWR_INRUSH_CFG, .PWR_INRUSH_LEVEL, .PWR_SUPPLY, .PWR_CMD, .PWR_RESET_CAUSE, .PWR_FAULT_SUMMARY,
   .PWR_FAULT_CFG, .PWR_REEF_LAST, .PWR_CNT_WARN, .PWR_CNT_REEF, .PWR_CNT_REEF_DROP, .PWR_DOM_POLICY,
   .BOOT_STATUS, .BOOT_CMD, .BOOT_ADDR, .BOOT_LEN, .BOOT_SRC_LO, .BOOT_SRC_HI, .BOOT_PROGRESS,
   .BOOT_SEQ_ACTIVE, .BOOT_SVN, .BOOT_COMMIT, .BOOT_COMMIT_SEQ, .BOOT_CNT_STAGED_DISCARD, .BOOT_FLASH_INFO,
   .BOOT_MBX_CMD, .BOOT_MBX_STATUS, .BOOT_MBX_CFG, .SES_ETH_CFG]

/-- Register names, part 11 of the register index. -/
def Reg.part11 : List Reg :=
  [.SES_ETH_IP4, .SES_ETH_TIMEOUT, .SES_STATUS, .SES_CNT_AUTH_FAIL, .SES_CNT_REPLAY, .SES_CNT_BAD_TAG]

/-- Every register name, in address order within each unit. -/
def Reg.all : List Reg :=
  Reg.part0 ++ Reg.part1 ++ Reg.part2 ++ Reg.part3 ++ Reg.part4 ++ Reg.part5 ++ Reg.part6 ++ Reg.part7 ++ Reg.part8 ++ Reg.part9 ++ Reg.part10 ++ Reg.part11

end Sys2Proof.Machine
end

