-- ==== Sys2Proof/Machine/State.lean ====
section
/-!
DEFINITION. The state of the block as plain data: every register (in one register file, R16), every memory, FIFO,
counter, mode and pin the spec gives it, the state after reset, and the reasons a step can stop. The queue of waiting
commands is `pending`.
-/

namespace Sys2Proof.Machine

/-! ## Common parts -/

/-- The four variants of R1. -/
inductive Variant where
  | sx1664 | sx1664v | sx1632 | sx1632v
  deriving DecidableEq, Repr

/-- Where a staged write goes: a register, or a word of a BAR0 memory at its byte address. -/
inductive Loc where
  | reg (r : Reg) (i j : Nat)
  | mem (addr : Nat)
  deriving DecidableEq, Repr

/-- A write held until the next commit point (R37, R504). -/
structure Staged where
  loc : Loc
  val : Word
  deriving DecidableEq, Repr

/-- A 16-byte fault notice of R539. -/
structure Notice where
  unit : Nat
  inst : Nat
  cause : Nat
  detail : Word
  time : Nat
  deriving DecidableEq, Repr

/-- An event on a halyard (R376). `gated` says that its group was disabled as it reached the fabric (R382), `prod` is its producer
(0x400 for HAL_PUBLISH), `far` says that the producer lies in another clock domain than the fabric (R391), and `sentAt` is the
instant of the publication. -/
structure HEv where
  code : BitVec 8
  hops : Nat
  cause : BitVec 48
  gated : Bool := false
  prod : Nat := 0
  far : Bool := false
  sentAt : Nat := 0
  deriving DecidableEq, Repr

/-- What manufacture and the board fix: fuses, PHY_LAT by lane (R125) and TIM_PORT_LAT by port (R469, R484). `keyHash`
and `deviceKey` are none while their fuses are unprogrammed (R493, R496). -/
structure Fuses where
  phyLat : Tbl Nat
  portLat : Tbl Word
  serial : BitVec 64
  minSvn : Nat
  keyHash : Option (List Byte)
  deviceKey : Option (List Byte)
  eui : BitVec 64
  mac : BitVec 48
  subsystem : Word
  deriving DecidableEq, Repr

/-- How a group of pins is driven where its unit does not act: `low`, `high`, `inactive`, `zero` (0 V differential) and `idle`
(electrical idle) are driven, `used` is as the unit requires. -/
inductive PinLevel where
  | highZ
  | low
  | high
  | inactive
  | zero
  | idle
  | used
  deriving DecidableEq, Repr

/-- The groups of pins whose states the tables of R295, R323, R369, R404, R482, R487 and R552 give. -/
inductive PinGroup where
  /-- EMITn and MODn. -/
  | emission
  /-- PWR_Pn and PWR_Nn. -/
  | power
  | dpwr
  /-- The downstream pair of Shroud port `n`. -/
  | shroud
  | gate
  /-- The projector outputs; `inactive` is COL_OE inactive, ROW_EN, PRECHG and the other outputs low. -/
  | projector
  /-- The PCI Express transmitters; `highZ` is unpowered. -/
  | pcie
  | tout
  | txDisable
  /-- CS_N of flash port `n`, its SCK and DQ0 to DQ7, and its device reset, asserted at `low`. -/
  | flashCs
  | flashData
  | flashReset
  | ssiClk
  /-- DRAM_RESET_N and CKE of DDR4 channel `n`. -/
  | dram
  deriving DecidableEq, Repr

/-- What the block sends out: replies, messages, bus requests, and levels of its output pins. -/
inductive Out where
  /-- The data of a register read. -/
  | reply (v : Word)
  /-- The data of a BAR2 or BAR4 read; `poison` is the EP bit. -/
  | replyBytes (data : List Byte) (poison : Bool)
  /-- A configuration completion; `retry` is Configuration Request Retry Status. -/
  | cfgReply (retry : Bool) (v : Word)
  /-- A completion with Unsupported Request. -/
  | unsupported
  /-- An error message: 0 ERR_COR, 1 ERR_NONFATAL, 2 ERR_FATAL. -/
  | errMsg (kind : Nat)
  /-- The MSI-X message of a vector. -/
  | msix (vector : Nat) (addrHi addrLo data : Word)
  /-- A memory read request to the host. -/
  | hostRead (tag addr len : Nat)
  /-- A memory write to the host; `relaxed` is its Relaxed Ordering attribute. -/
  | hostWrite (addr : Nat) (data : List Byte) (relaxed : Bool)
  /-- The link enters L0s or asks for L1. -/
  | linkPm (l1 : Bool)
  /-- A downstream Shroud frame of head `n` (R319), with its CRC12. -/
  | shroud (n seq ctrl : Nat) (x y z : Int) (crc : Nat)
  /-- The levels of the downstream pair of Shroud port `n` over a frame's 125 bits, first bit first (R318). -/
  | shroudLine (n : Nat) (levels : List Bool)
  /-- A power word on DPWR of beam `n`: its 22 bits, first bit first (R278). -/
  | dpwr (n : Nat) (bits : List Bool)
  /-- The DAC of beam `n` latches a code (R268). -/
  | dac (n code : Nat)
  /-- A pulse on MODn of beam `n`: its start and length in fine counts (R275, R282). -/
  | modPulse (n start len : Nat)
  /-- MODn of beam `n` is held at its active level, or goes to its inactive one (R274, R276). -/
  | modLevel (n : Nat) (on : Bool) (at0 : Nat)
  /-- The level of EMITn changes. -/
  | emitPin (n : Nat) (on : Bool)
  /-- The level of GATE_Ln changes, or a pulse of known length starts on it (R351, R354, R357). -/
  | gate (n : Nat) (on : Bool)
  | gatePulse (n start len : Nat)
  /-- A scan line of the projector (R361, R362): for planes 7 to 0, what each of the 8 data lanes shifts. -/
  | scanLine (line : Nat) (planes : List (List (List Bool)))
  /-- Of a scan line: its start, the fine counts for which COL_OE is active in each plane and those each plane lasts, and how long
  PRECHG is high after it (R362). -/
  | scanTiming (start : Nat) (oe dur : List Nat) (pre : Nat)
  /-- The pixel test drives the pixel of a row and column alone (R365). -/
  | pixel (r c : Nat)
  /-- A block sent on lane `n` (R44 to R51): header and 256 payload bits on the line. -/
  | block (n : Nat) (hdr : BitVec 2) (pay : BitVec 256)
  /-- The transmitter of lane `n` is turned on or off. -/
  | laneTx (n : Nat) (on : Bool)
  /-- The transmitter of lane `n` goes to high impedance (R43). -/
  | laneHighZ (n : Nat)
  /-- Lane `n` sends a raw pattern from now on (R84, R93): GEN, and the 31 bits before its first bit, or LNK_USER_WORD. Bit `k`
  of it is `patternBit code seed k`. -/
  | pattern (n code : Nat) (seed : BitVec 32)
  /-- A burst of `bits` bits that lane `n` is to invert, in the payload or in headers (R94). -/
  | inject (n bits : Nat) (header : Bool)
  /-- The level of TRIGO pin `n`: active or not, at its polarity, from instant `at0` (R118). -/
  | trigo (n : Nat) (active : Bool) (high : Bool) (at0 : Nat)
  /-- TRIGO pin `n` goes to high impedance (R123). -/
  | trigoHighZ (n : Nat)
  /-- A PTP message sent on port `p` (R466): messageType and its content. -/
  | ptp (p : Nat) (type : Nat) (m : PtpMsg)
  /-- A stay-ring message on RING_OUT `r` whose J falls at `at0`, as its 12 code groups (R478 to R480). -/
  | ring (r at0 : Nat) (groups : List (BitVec 5))
  /-- The bypass switch of ring `r` closes or opens (R481). -/
  | bypass (r : Nat) (closed : Bool)
  /-- TOUT `k` goes to its active or inactive state at an instant, and the level that is (R474). -/
  | tout (k : Nat) (active high : Bool) (at0 : Nat)
  /-- TX_DISABLE of SFP+ port `p` (R470). -/
  | txDisable (p : Nat) (on : Bool)
  /-- A service datagram on port `p` (R499), an ARP answer, a neighbour advertisement. -/
  | datagram (p : Nat) (data : List Byte)
  | arp (p : Nat) (ip : BitVec 32) (mac : BitVec 48)
  | neighbour (p : Nat) (ip : BitVec 128) (mac : BitVec 48)
  /-- SPD bytes `first` to `first + count - 1` read at address `addr` of two-wire bus `bus`, on page `page` (R137). -/
  | spdRead (bus addr page first count : Nat)
  /-- A read of SSI input `n` starts: bits, clock rate code, sample delay (R556). -/
  | ssiRead (n bits rate dly : Nat)
  /-- A group of pins takes the state of a table of R552. -/
  | pins (g : PinGroup) (n : Nat) (level : PinLevel)
  deriving DecidableEq, Repr

/-! ## Plovlink lanes -/

/-- A REQUEST outstanding in training (R60, R61): its SEQ, bytes 3 and 4, repeats, the instant of the last sending. -/
structure TrainReq where
  seq : Nat
  req : Nat
  preset : Nat
  repeats : Nat
  at0 : Nat
  deriving DecidableEq, Repr

/-- A pattern checker (R84): the last bits of the pattern as received or, once locked, as predicted, the newest highest; the
right bits in a row while it is not locked; the bits checked since it locked and the places of the last wrong ones; for a user
word the bit of the word that comes next. -/
structure Checker where
  reg : BitVec 31 := 0
  good : Nat := 0
  pos : Nat := 0
  wrong : List Nat := []
  phase : Nat := 0
  deriving DecidableEq, Repr

/-- A lane (R46 to R94). `rx` and `tx` are the last 58 line payload bits received and sent, the oldest lowest, `tx` before
TX_INVERT and the injector and `line` after them; `rx` is 0 after reset (DESIGN CHOICE, log entry 61). `since` is the instant at which the lane entered its state. `first` is the first skip of a
polarity pair as its sense and slot (R57); `polOk` says that polarity is fixed, `stored` that polarity, order and taps are held
from a bring-up. `skip` is SKIP_SEQ and slot of the last valid skip, `breaks` the sequence breaks in a row; `ident` is LANE_ID
and WIDTH_CODE of that skip, `deskewed` says that it came in DESKEW. Training: the request outstanding, the next SEQ, what READY
has been sent and received, the settings measured, the best preset with its margin, the last step, and the instant up to which
invalid headers are ignored (R61). `stuffed` counts stuffed slots of the interval; `good` valid headers in a row while SUSPECT;
`clean` and `tries` belong to re-admission (R79); `exit` is the step of a deep exit (R70), `dozeFail` a failed doze exit (R68).
`alt` alternates the injector's target, `inj` is the rest of a burst, in headers or not, and `burstAt` the instant of the last
(R94); `chk` is the pattern checker, `berHi` bits 47:32 of the bits checked; `gen` holds the last bits of a framed pattern sent;
`loop` the blocks that near-end loopback holds for the receiver (R87). -/
structure Lane where
  rx : BitVec 58 := 0
  tx : BitVec 58 := 0x3FFFFFFFFFFFFFF
  line : BitVec 58 := 0x3FFFFFFFFFFFFFF
  since : Nat := 0
  first : Option (Bool × Nat) := none
  polOk : Bool := false
  stored : Bool := false
  skip : Option (Nat × Nat) := none
  breaks : Nat := 0
  ident : Option (Nat × Nat) := none
  deskewed : Bool := false
  req : Option TrainReq := none
  seq : Nat := 0
  rdyTx : Bool := false
  rdyRx : Bool := false
  measured : Nat := 0
  best : Nat := 0
  margin : Nat := 0
  undo : Option Nat := none
  quietTill : Nat := 0
  stuffed : Nat := 0
  good : Nat := 0
  clean : Option Bool := none
  tries : Nat := 0
  exit : Nat := 0
  dozeFail : Bool := false
  alt : Bool := false
  inj : Option (Nat × Bool) := none
  burstAt : Nat := 0
  chk : Checker := {}
  berHi : Nat := 0
  gen : BitVec 31 := 0
  loop : List LineBlock := []
  deriving DecidableEq, Repr

/-- A stripe held by a parity port (R75 to R77): its number, by port lane the payload and whether it is erased, and the lane
that has become SUSPECT since it came. -/
structure Stripe where
  num : Nat
  blocks : List (BitVec 256 × Bool)
  late : Option Nat := none
  deriving DecidableEq, Repr

/-- A rate message outstanding (R82, R83, R112): whether it restores, MSG_ID, the mask, messages sent, the instant of the last,
whether the camera has answered. -/
structure RateMsg where
  restore : Bool
  id : Nat
  mask : Nat
  sent : Nat
  at0 : Nat
  answered : Bool := false
  deriving DecidableEq, Repr

/-- A port, by its lowest lane: the start of the wait of R64, the decision as the lanes that come up; REVERSAL_ALLOW as its
bring-up uses it (R89); the next stripe number and the stripes held; the rate message and the next MSG_ID for one; the deep
request outstanding (R69), as the instants of the first and the last ENTER_DEEP; the transmitter's SKIP_SEQ, its stuffed slots
of the interval, the slots since its last skip and the instant of that skip (R49); control segments that wait for a queued trigger block (R119); whether
the camera stripes with parity; the byte stream, each byte with 0 received, 1 rebuilt, 2 erased, 3 received but missing (R77). -/
structure Port where
  wait : Option Nat := none
  decided : Option Nat := none
  rev : Bool := true
  stripe : Nat := 0
  held : List Stripe := []
  rate : Option RateMsg := none
  rateId : Nat := 0
  deep : Option (Nat × Nat) := none
  txSeq : Nat := 0
  txStuff : Nat := 0
  slots : Nat := 0
  skipAt : Nat := 0
  segs : List (List Byte) := []
  parity : Bool := false
  bytes : List (Nat × Byte) := []
  deriving DecidableEq, Repr

/-! ## Capture and triggers -/

/-- An open frame of a port (R103 to R107, R124 to R132). `w0` and `h0` are the size sent, `width` and `height` that of the
crop whose origin is `x0`, `y0`. `got` holds the ranges of frame bytes that have arrived, as first and end, and `bad` those
of them that are missing. -/
structure CapFrame where
  num : Nat
  camSeq : Nat
  fmt : Nat
  trigSeq : Nat
  exposure : Nat
  opaq : Bool
  w0 : Nat
  h0 : Nat
  x0 : Nat
  y0 : Nat
  width : Nat
  height : Nat
  stampAt : Nat
  axes : List Word
  powers : List Nat
  layer : Word
  scanRec : Word
  scanOff : Word
  beam : Nat
  dir : Word
  trigSource : Nat
  trigDelay : Word
  late : Bool
  test : Bool
  trimmed : Bool
  rebuilt : Bool := false
  capFlags : Nat
  got : List (Nat × Nat) := []
  bad : List (Nat × Nat) := []
  lastAt : Nat
  store : Option Nat := none
  opaqMax : Nat := 0
  mast : Option Nat := none
  ct : Option Nat := none
  deriving DecidableEq, Repr

/-- A trigger sent or queued (R119 to R122): TRIG_SEQ, KIND, the instant of the cause, whether R117 marks it late, whether
an ACK is awaited, and the instant it was sent at. -/
structure Trig where
  seq : Nat
  kind : Nat
  cause : Nat
  late : Bool
  wait : Bool
  at0 : Nat := 0
  deriving DecidableEq, Repr

/-- An ordinary control request (R111, R112): the mailbox, OP, payload, MSG_ID, how often it has been sent, and when last. -/
structure CtlReq where
  box : Nat
  op : Nat
  payload : List Byte
  id : Nat
  sent : Nat
  at0 : Nat := 0
  deriving DecidableEq, Repr

/-- A camera port, by its lowest lane: the open frame, frames counted, the last stamp; the queued trigger, the triggers sent,
newest first: the last 16 and those whose ACK is awaited, the next TRIG_SEQ, the last trigger's instant, the last cause's instant; control requests, the first of
them outstanding once it has been sent, the next MSG_ID and the start of the last request; the count of the silence of
R109; the number of path pitches passed (R116). -/
structure CapPort where
  frame : Option CapFrame := none
  count : Nat := 0
  lastStamp : Option Nat := none
  queued : Option Trig := none
  sent : List Trig := []
  trigSeq : Nat := 0
  trigAt : Option Nat := none
  causeAt : Option Nat := none
  ctl : List CtlReq := []
  msgId : Nat := 0
  ctlAt : Option Nat := none
  quietAt : Nat := 0
  passes : Nat := 0
  deriving DecidableEq, Repr

/-- An encoder compare unit (R115): whether it runs, its next entry's index from BASE. -/
structure Cmp where
  on : Bool := false
  idx : Nat := 0
  last : Option Int := none
  deriving DecidableEq, Repr

/-- A TRIGO pin pulse: the end of it. -/
structure Capt where
  cmps : Tbl Cmp := []
  pins : Tbl (Option Nat) := []
  deriving DecidableEq, Repr

/-! ## The frame store -/

/-- A frame record of a ring and its index entry (R147, R149, R150). `off` counts bytes from the start of the lap, `set` is the
interleave set the lap was written with, `at0` is the instant its frame started. -/
structure Rec where
  slot : Nat := 0
  seq : Nat := 0
  frame : Nat := 0
  port : Nat := 0
  stamp : Nat := 0
  at0 : Nat := 0
  lap : Nat := 0
  off : Nat := 0
  len : Nat := 0
  set : Nat := 0
  valid : Bool := false
  pinned : Bool := false
  final : Bool := false
  hasMap : Bool := false
  span : Option Nat := none
  deriving DecidableEq, Repr

/-- A span of records a rewind mark protects (R156): the records by the order they started in, how many are still to
come, whether it is released with records left to void (R161), and when it closed (R160). -/
structure Span where
  id : Nat
  ring : Nat
  seqs : List Nat
  toCome : Nat
  isOpen : Bool
  shortPre : Bool
  released : Bool
  migrated : Bool
  closedAt : Nat := 0
  deriving DecidableEq, Repr

/-- A frame ring: its records in the order they started, how many have started, its write pointer inside the lap, the
mark whose search runs, as its instant and the number of records that had started at it (R156), and the latest stamp of the
records voided so far. -/
structure Ring where
  recs : List Rec := []
  started : Nat := 0
  wpOff : Nat := 0
  search : Option (Nat × Nat) := none
  voidStamp : Option Nat := none
  deriving DecidableEq, Repr

/-- A record held in the reef buffer (R526, R527): its frame and when it started, NEED, whether it is opaque, whether a
cut-through leg is configured and whether it has taken the frame (R153), the bytes to be written at offsets of the record, its
place once the writer has given it one, and its length and byte map once its frame has ended. -/
structure Held where
  ring : Nat
  port : Nat
  frame : Nat
  stamp : Nat
  at0 : Nat
  need : Nat
  opaq : Bool
  ownCt : Bool
  ct : Bool
  place : Option Nat := none
  writes : List (Nat × List Byte) := []
  fin : Option (Nat × Bool) := none
  deriving DecidableEq, Repr

/-- The frame store: DDR4 bytes by store address, the marks of bad bursts by store address, rings, spans; when training ended;
the retirement (R169 to R174): the retiring channel and since when, channels that have had an uncorrectable error and those
whose bucket has reached CE_LIMIT, the last leak of each; the migration: stripes of the retiring channel already copied, and
where, its DMA channel and the state that was in, when the last copy was made; the scrubber's next burst of each channel and
when its pass began (R168); when the refresh of each channel ends and when the next is due (R165); the instants at which
melt-pool units pending on each channel are written (R164); records and rewind marks held in the reef state (R526), a mark
with its ring, its instant and the records that had started at it. -/
structure Fst where
  ddr : Tbl Byte := []
  bad : Tbl Bool := []
  rings : Tbl Ring := []
  spans : List Span := []
  loadSet : Nat := 0
  retiring : Option Nat := none
  retiredOnce : Bool := false
  copies : Tbl (Option Nat) := []
  wrapped : Tbl Bool := []
  migPos : Nat := 0
  migActive : Bool := false
  migDma : Nat := 0
  migFrom : Nat := 0
  migAt : Nat := 0
  trainedAt : Nat := 0
  retireAt : Nat := 0
  ueSeen : Tbl Bool := []
  ceMet : Tbl Bool := []
  leakAt : Tbl (Option Nat) := []
  scrubAt : Tbl Nat := []
  scrubFrom : Tbl (Option Nat) := []
  refEnd : Tbl Nat := []
  refDue : Tbl (Option Nat) := []
  mpPend : Tbl (List Nat) := []
  selfRefresh : Bool := true
  reefHeld : List Held := []
  heldMarks : List (Nat × Nat × Nat) := []
  deriving DecidableEq, Repr

/-! ## Masts and spars -/

/-- A loop of a spar program: first address of the body, address after it, passes left (R203). -/
structure SparLoop where
  first : Int
  last : Int
  left : Nat
  deriving DecidableEq, Repr

/-- The statistics of a label (R208). -/
structure LabStat where
  area : Nat := 0
  sumP : Nat := 0
  sumW : Nat := 0
  wx : Nat := 0
  wy : Nat := 0
  wxx : Nat := 0
  wyy : Nat := 0
  wxy : Nat := 0
  xMin : Nat := 65535
  xMax : Nat := 0
  yMin : Nat := 65535
  yMax : Nat := 0
  deriving DecidableEq, Repr

/-- The run labeller (R208): its configuration, the pixels of the open line as column and value, the column its last
segment started at, the runs of the line before as first column, last column and label, LEOLs since the tile start,
labels assigned, LABEL_OVF. -/
structure Labeller where
  woff : Nat := 0
  conn8 : Bool := false
  line : List (Nat × Nat) := []
  seg : Option Nat := none
  prev : List (Nat × Nat × Option Nat) := []
  y : Nat := 0
  count : Nat := 0
  ovf : Bool := false
  stats : Tbl LabStat := []
  deriving DecidableEq, Repr

/-- The moment unit (R209): its offset, the six sums in their order, the count. -/
structure Moments where
  offset : Nat := 0
  sums : List Nat := [0, 0, 0, 0, 0, 0]
  count : Nat := 0
  deriving DecidableEq, Repr

/-- The architected state of a spar at tile start (R196). Masks are indexed from 1 and scalars from 1: m0 and s0 hold
nothing. Vector registers hold lane 0 in their low bits. `shmUe` is SHM_UE of word 8 (R211). -/
structure Spar where
  sreg : Tbl (BitVec 32) := []
  vreg : Tbl (BitVec 512) := []
  acc : Tbl (BitVec 1536) := []
  mask : Tbl (BitVec 32) := []
  z : Bool := false
  n : Bool := false
  c : Bool := false
  v : Bool := false
  sat : Bool := false
  pc : Int := 0
  loops : List SparLoop := []
  hist : Tbl (BitVec 32) := []
  lab : Labeller := {}
  mom : Moments := {}
  col : Nat := 0
  line : Nat := 0
  lend : Bool := false
  staging : Tbl Byte := []
  scratch : Tbl Byte := []
  shmUe : Bool := false
  deriving DecidableEq, Repr

/-- A tile waiting or running (R192): its stream, frame number, index and class; whether it is a reduce tile, whether a
calibration tile has passed it (R193), the engine a watchdog suspended with its slot (R217), the slot whose replacement engine
re-runs it (R216), whether it became READY with no reserved slot for it (R194). -/
structure Tile where
  stream : Nat
  frame : Nat
  idx : Nat
  cls : Nat
  reduce : Bool := false
  passed : Bool := false
  susp : Option (Nat × Nat) := none
  onSlot : Option Nat := none
  late : Bool := false
  deriving DecidableEq, Repr

/-- A tile that runs: its engine and slot, the spar, when the run began, the clocks it has stood still on descriptor word 8, and
since when it stands still on it (R195, R210). -/
structure Run where
  engine : Nat
  slot : Nat
  tile : Tile
  spar : Spar
  start : Nat
  waited : Nat := 0
  waitFrom : Option Nat := none
  deriving DecidableEq, Repr

/-- The clocks up to instant `t` that a run has stood still on descriptor word 8. -/
def Run.waitedAt (r : Run) (t : Nat) : Nat := r.waited + (t - r.waitFrom.getD t)

/-- The words of the tile descriptor that come from the frame (R210). -/
structure FrameInfo where
  num : Nat
  port : Nat
  cls : Nat
  fmt : Nat
  width : Nat
  height : Nat
  beam : Nat
  stampAt : Nat
  dir : Word
  layer : Word
  scanRec : Word
  scanOff : Word
  exposure : Word
  deriving DecidableEq, Repr

/-- A frame of a stream (R186 to R191): its start in the stream's bytes, bytes that have arrived up to, size, tile grid
(tile width, height, halo, tiles across and down), rows of tiles made READY, final tiles (1 committed, 2 abandoned),
final flags once closed, slot set, whether it is dropped, whether its reduce tile has been made READY. -/
structure MFrame where
  stream : Nat
  info : FrameInfo
  base : Nat
  high : Nat := 0
  size : Nat
  tw : Nat
  th : Nat
  halo : Nat
  across : Nat
  down : Nat
  early : Bool
  rows : Nat := 0
  fin : Tbl Nat := []
  closed : Bool := false
  flags : Nat := 0
  set : Option Nat := none
  red : Bool := false
  dropped : Bool := false
  reduced : Bool := false
  deriving DecidableEq, Repr

/-- A mast (R184): shared memory by byte, bytes each stream has written, frames, READY tiles in order, tiles to re-run,
running tiles; which spare holds a slot, slots removed, the reserved slot in whose place a slot is reserved, spares in self-test since when, the start
of the last self-test of each, tiles of the newest frame of each stream; the fault
log as entry and frame, the program and constants in force, and those of a commit point waiting to be loaded with its
instant, when their load ends (R222), and whether that load is of a domain that has woken (R520); when the ingest window, at 16 GB/s, is through with what it has received, in 64ths of a fine count (R26). -/
structure Mast where
  shm : Tbl Byte := []
  wp : Tbl Nat := []
  frames : List MFrame := []
  ready : List Tile := []
  rerun : List Tile := []
  runs : List Run := []
  moved : Tbl Nat := []
  removed : Tbl Bool := []
  promoted : Tbl (Option Nat) := []
  testing : Tbl (Option Nat) := []
  tested : Tbl (Option Nat) := []
  slotTiles : Tbl Nat := []
  log : List (Word × Word) := []
  prog : List Byte := []
  consts : List Byte := []
  reload : Option (Nat × Option (List Byte) × Option (List Byte)) := none
  loadTill : Option Nat := none
  woke : Bool := false
  inTill : Nat := 0
  deriving DecidableEq, Repr

/-! ## Sheet units -/

/-- A record in the input queue of a sheet unit (R235, R237): its 32 bytes, where it came from and when it arrived. -/
structure ShtRec where
  mast : Nat
  stream : Nat
  data : List Byte
  arrived : Nat
  deriving DecidableEq, Repr

/-- A sample whose command is on its way to the beam channel (R253), with what its log entries need (R259, R263).
`ref` is the reference instant in ns. -/
structure Sample where
  frame : Nat := 0
  stampNs : Nat := 0
  stampSec : Nat := 0
  ref : Int := 0
  y : Int := 0
  w : Int := 0
  e : Int := 0
  integ : Int := 0
  out : Int := 0
  pNow : Int := 0
  vNow : Int := 0
  inj : Int := 0
  pCmd : Int := 0
  state : Nat := 0
  lflags : Nat := 0
  missed : Nat := 0
  rflags : Nat := 0
  capture : Bool := false
  deriving DecidableEq, Repr

/-- A unit of 64 bytes for the melt-pool area, before it is written (R163, R257). -/
structure LogUnit where
  source : Nat
  seq : Nat
  body : List Byte
  deriving DecidableEq, Repr

/-- A tuning run (R260, R261): the frame of its first valid record, the sample index, the shift register with the
shifts made, the phase of the sweep in 2^-64 of a turn, and the capture units written. Whether it runs is ACTIVE. -/
structure Tune where
  base : Option Nat := none
  k : Nat := 0
  shifts : Nat := 0
  lfsr : Nat := 0
  phase : Nat := 0
  captured : Nat := 0
  deriving DecidableEq, Repr

/-- The past inputs and outputs of a biquad section (R250). -/
structure Biquad where
  x1 : Int := 0
  x2 : Int := 0
  z1 : Int := 0
  z2 : Int := 0
  deriving DecidableEq, Repr

/-- A sheet unit. `hist` holds the changes of R238, newest first, as instant, P_prog and v; `fresh` says that the next
record is newer whatever its frame (R236); `initZero` is set while an initialisation of R243 waits, with whether it
zeroes the integrator; `out` is the output in force; `missed` counts misses since the last valid record; `good` counts
towards REENGAGE; `emStart` is the start of emission (R241); `sent` is the newest command not yet applied; `missAt` is when the miss
timer expires (R254); `left` says that the unit has left OFF since LOAD (R257). -/
structure Sht where
  queue : List ShtRec := []
  hist : List (Nat × Int × Int) := []
  fresh : Bool := true
  initZero : Option Bool := none
  ePrev : Int := 0
  yPrev : Int := 0
  bq : Tbl Biquad := []
  out : Int := 0
  missed : Nat := 0
  good : Nat := 0
  emStart : Nat := 0
  sent : Option Sample := none
  missAt : Option Nat := none
  left : Bool := false
  log : List LogUnit := []
  seqs : Tbl Nat := []
  tune : Tune := {}
  deriving DecidableEq, Repr

/-! ## Beam channels -/

/-- A turn-on request to a rotation group (R286): planned instant, arrival, and whether it is the re-fire of a pause. -/
structure RotReq where
  beam : Nat
  tp : Nat
  arrival : Nat
  refire : Bool
  deriving DecidableEq, Repr

/-- A beam channel (R269 to R294). Positions are in 2^-16 nm and speeds in 2^-32 nm per fine count (log entry 12). -/
structure Bch where
  /-- The channel requests EMITn (before the gate). -/
  want : Bool := false
  /-- EMITn has been asserted since (R275), and the start of the span MAX_ON counts from (R292). -/
  emitAt : Nat := 0
  onSince : Nat := 0
  offAt : Nat := 0
  /-- METER emission since. -/
  meterAt : Nat := 0
  /-- The DAC code latched, the command applied, and the digital word in force. -/
  code : Nat := 0
  cApplied : Nat := 0
  word : Nat := 0
  wordAt : Nat := 0
  /-- The modulation: start and length of the current period, on-time of its pulse, duty, and carry in 2^-16 fine counts. -/
  modAt : Nat := 0
  modLen : Nat := 0
  modOn : Nat := 0
  duty : Nat := 0
  carry : Int := 0
  modNew : Bool := false
  /-- MODn is held at its active level. -/
  modHeld : Bool := false
  /-- The tracking loop of R281, with the measurement it has not taken yet and its instant, and the newest p_m. -/
  meas : Option (Int × Nat) := none
  newest : Option Int := none
  pHat : Int := 0
  vHat : Int := 0
  tHat : Nat := 0
  reload : Bool := true
  /-- The high-water mark of R283, the last position seen, and whether motion past H is awaited. -/
  hwm : Int := 0
  lastPos : Int := 0
  /-- The path without emission since the layer start, and the position at which EMITn was last deasserted (R116). -/
  dark : Int := 0
  offPos : Int := 0
  past : Bool := false
  /-- A paced pulse is high; the end of the last one. -/
  pulse : Bool := false
  pulseEnd : Nat := 0
  /-- Levels of READYn, ALARMn and BREFLn at the pins are in BCH_STATUS after polarity. Watchdog copies (R291): the
  position words of 32 µs, newest first; the instants of the last power and position copies; since when the speed has
  been below V_MIN and the power above P_DWELL. -/
  words : List (Nat × Int × Int) := []
  powAt : Nat := 0
  posAt : Nat := 0
  slowAt : Option Nat := none
  highAt : Option Nat := none
  deriving DecidableEq, Repr

/-- The parts all beam channels share: since when A and B have disagreed, NEXT of each rotation group, its pending
requests, and the instant of the next clearance check (R330). -/
structure BchShared where
  disagree : Option Nat := none
  next : Tbl Nat := []
  reqs : Tbl (List RotReq) := []
  checkAt : Nat := 0
  deriving DecidableEq, Repr

/-! ## Scan interpreters -/

/-- What a piece of the plan is (R306). -/
inductive SegKind where
  | dark | emit | power | profile | event | plain
  deriving DecidableEq, Repr

/-- The circle of an ARC (R306): its centre and SWEEP in 10^-6 degree; the radius is the distance to its start. -/
structure ArcGeo where
  cx : Int
  cy : Int
  sweep : Int
  deriving DecidableEq, Repr

/-- A planned record (R313, R314): a move with its instants in fine counts, or a record that takes no time. `len`, `off0`
and `s0` are in nm: its length, the commanded distance already drawn of its record, and the layer path at its start.
`v` is its speed in µm/s before derating and `acc` its acceleration in 100 m/s² (0 for constant speed); `dur` counts its
motion and `settle` the rest after it. -/
structure Seg where
  kind : SegKind := .plain
  idx : Nat := 0
  chain : Nat := 0
  t0 : Nat := 0
  dur : Nat := 0
  settle : Nat := 0
  x0 : Int := 0
  y0 : Int := 0
  z0 : Int := 0
  x1 : Int := 0
  y1 : Int := 0
  z1 : Int := 0
  arc : Option ArcGeo := none
  len : Nat := 0
  off0 : Nat := 0
  s0 : Nat := 0
  v : Nat := 0
  acc : Nat := 0
  derate : Bool := true
  arg : Nat := 0
  flag : Bool := false
  deriving DecidableEq, Repr

/-- Pause and resume, and the stop of a halt (R334 to R340). The stop point S is reached at `tS`, and `begun` says that
it has been; `chainStart` is a hold at a chain's start point. `phase` is the sub-state of R335 and `since` its start.
`geo` is the path of the chain, oldest first, and positions on it are distances in nm from its start: `qS` of S, `dq` of
the start of the deceleration, `park` of the rest point. `v` is the speed at S and `vn` the same before derating, `vr`
the resume speed, `dv` the speed at the start of the deceleration, in µm/s; `cS` the last command before S; `ramp` the
ramp-off length. `tp`, `grant` and `go` belong to the re-fire: planned instant, grant, re-entry under way; `rev` says that the deceleration is that
of a back-up. `haltCause`
is the cause of a clean halt in progress, `further` a cause that came during the ramp-on, `hard` a hard halt. `sPath`,
`idx` and `off` are the layer path, record index and offset at S. -/
structure Pause where
  tS : Nat := 0
  begun : Bool := false
  chainStart : Bool := false
  phase : Nat := 0
  since : Nat := 0
  geo : List Seg := []
  qS : Int := 0
  dq : Int := 0
  park : Int := 0
  v : Nat := 0
  vn : Nat := 0
  vr : Nat := 0
  dv : Nat := 0
  cS : Nat := 0
  ramp : Nat := 0
  tp : Nat := 0
  grant : Option Nat := none
  go : Bool := false
  rev : Bool := false
  haltCause : Nat := 0
  further : Bool := false
  hard : Bool := false
  sPath : Nat := 0
  idx : Nat := 0
  off : Nat := 0
  deriving DecidableEq, Repr

/-- What a WAITING interpreter waits for (R312, R313, R317). -/
inductive ScnWait where
  | none
  | task (w : Nat)
  | dwell
  | meter (c profile prev input : Nat)
  | late
  deriving DecidableEq, Repr

/-- A downstream frame as sent (R319, R325): SEQ, instant, command, layer path, bed point, unit tangent in 2^-30. -/
structure Sent where
  seq : Nat
  inst : Nat
  qx : Int
  qy : Int
  s : Nat
  x : Int
  y : Int
  ux : Int
  uy : Int
  deriving DecidableEq, Repr

/-- A scan interpreter with its Shroud port. -/
structure Scn where
  /-- The plan, oldest first, and the moves already drawn, newest first. -/
  plan : List Seg := []
  done : List Seg := []
  /-- The planner: planned end point, chain being planned (0: none), chains so far, speeds, next record index. -/
  px : Int := 0
  py : Int := 0
  pz : Int := 0
  chain : Nat := 0
  chains : Nat := 0
  vMark : Nat := 0
  vJump : Nat := 0
  nextIdx : Nat := 0
  sEnd : Nat := 0
  /-- The interpreter: rest point, power of the last POWER record in UQ0.16, open-loop selection, profile, a change of
  DERATED waiting for a record boundary, layer path drawn. -/
  x : Int := 0
  y : Int := 0
  z : Int := 0
  p : Nat := 0
  openLoop : Bool := false
  profile : Nat := 0
  derateNext : Option Bool := none
  sDone : Nat := 0
  /-- Fetching: the build-store unit taken next, the blocks of the build store read ahead by number with their bytes, those of them
  that read poisoned, the instant from which the planner can take a record, skipping to LAYER_END, and the stream FIFO with the words
  of the record being written, and the overflow. -/
  pc : Nat := 0
  blocks : Tbl (List Byte) := []
  badBlocks : List Nat := []
  free : Nat := 0
  skip : Bool := false
  fifo : List (List Byte) := []
  words : List Word := []
  overflow : Bool := false
  /-- Pause, hold at a chain start, waits. -/
  pause : Option Pause := none
  holdUntil : Option Nat := none
  wait : ScnWait := .none
  waitAt : Nat := 0
  pend : Tbl (Option HEv) := []
  clears : Nat := 0
  /-- Z_POS of the last good upstream frame (R320), bits 23:8. -/
  zPos : Nat := 0
  /-- The Shroud port: SEQ and command sent last, the last 16 frames sent, the NRZI level of the downstream pair, whether the port
  is synchronised, the J of the last good frame while it hunts, and the instant of the last good upstream frame. -/
  seq : Nat := 0
  cmdX : Int := 0
  cmdY : Int := 0
  cmdZ : Int := 0
  sent : List Sent := []
  line : Bool := false
  synced : Bool := false
  cand : Option Nat := none
  goodAt : Nat := 0
  deriving DecidableEq, Repr

/-- The accumulators of a grid node (R328), in 2^-32 nm and 2^-32. -/
structure NodeAcc where
  ex : Int := 0
  ey : Int := 0
  w : Nat := 0
  deriving DecidableEq, Repr

/-- The grid updater: accumulators by head and node, and the heads whose staged grid software has written since the last
commit point (R329). -/
structure Cal where
  acc : Tbl NodeAcc := []
  soft : Tbl Bool := []
  deriving DecidableEq, Repr

/-! ## Halyards -/

/-- What a running sequence is doing (R395, R396). -/
inductive SeqPhase where
  | issue | delay | wait
  deriving DecidableEq, Repr

/-- A loop being run by a sequencer: first word of the body, word after it, passes left. -/
structure SeqLoop where
  first : Nat
  last : Nat
  left : Nat
  deriving DecidableEq, Repr

/-- A halyard sequence (R394 to R396). Whether it runs is its bit of HAL_SEQ_RUN. -/
structure HSeq where
  pc : Nat := 0
  base : Nat := 0
  phase : SeqPhase := .issue
  loop : Option SeqLoop := none
  pend : Option HEv := none
  due : Nat := 0
  deriving DecidableEq, Repr

/-- The halyard fabric: the queue of each halyard, the sequences, the event that waits in each helm input (R383, R385), the last
delivery of each halyard, the sequence that issued last and the instant from which the sequencer can issue (R395), both instants
in 0.2 ns. -/
structure Hal where
  queues : Tbl (List HEv) := []
  seqs : Tbl HSeq := []
  helmIn : Tbl (Option HEv) := []
  last : Tbl Nat := []
  turn : Nat := 31
  issueAt : Nat := 0
  deriving DecidableEq, Repr

/-! ## Lighting -/

/-- An illumination channel (R351 to R359). Instants are fine counts. `strobes` holds the starts of strobes to come,
`endAt` the end of the strobe in progress, `windows` the exposure windows known; `level` is the LEVEL the strobe in
progress carries, `carry` that of R354 in units of 1/0x199A fine count. `gateAt` is the last gate rise, `gateEnd` the
known end of the on-time, `judged` whether its diagnostic window has been judged. -/
structure Lum where
  /-- The instant of the last fall of the gate. -/
  lowAt : Nat := 0
  strobes : List Nat := []
  endAt : Option Nat := none
  windows : List (Nat × Nat) := []
  level : Nat := 0
  carry : Int := 0
  dimAt : Nat := 0
  gateAt : Nat := 0
  gateEnd : Option Nat := none
  judged : Bool := false
  diagAt : Option Nat := none
  diagLast : Nat := 0
  due : Option Nat := none
  undiag : Bool := false
  vfAt : Option Nat := none
  deriving DecidableEq, Repr

/-- What a waiting pattern sequencer waits for (R368). -/
inductive LumWait where
  | none
  | copy (slot : Nat) (start : Nat)
  | swap
  | hal (task : Nat)
  | until (due : Nat)
  deriving DecidableEq, Repr

/-- The projector and the pattern sequencer: the scan line shown next (none between frames), the instant it starts, a
latched PROJ_SYNC edge, the pixel under test and its start; the sequencer's word, loop, wait, whether its run condition
held, the events waiting in its tasks; and the last start of the periodic forward-voltage tests. -/
structure Proj where
  line : Option Nat := none
  lineAt : Nat := 0
  sync : Bool := false
  pix : Nat := 0
  pixAt : Nat := 0
  pc : Nat := 0
  loop : Option SeqLoop := none
  wait : LumWait := .none
  armed : Bool := false
  pend : Tbl (Option HEv) := []
  vfLast : Nat := 0
  deriving DecidableEq, Repr

/-! ## The PCI Express endpoint -/

/-- An entry of the MSI-X table (R414); after reset it is masked. -/
structure MsixEntry where
  addrLo : Word := 0
  addrHi : Word := 0
  data : Word := 0
  ctrl : Word := 1
  deriving DecidableEq, Repr

/-- What a host read is for: a descriptor, the next descriptor of a chain read ahead (R431), a link, source data, or a read-back
(R433, R436, R437, R441); or its data is discarded when it comes, counted (R424, R425) or not (R440, R460). -/
inductive ReqKind where
  | desc | shadow | link | data | readBack | dropped | gone
  deriving DecidableEq, Repr

/-- An outstanding read request (R417, R422): what has come of its data, the poisoned ranges of it as offset and length, and the
instant at which it was issued. -/
structure Req where
  tag : Nat
  ch : Nat
  kind : ReqKind
  addr : Nat
  len : Nat
  data : List Byte := []
  bad : List (Nat × Nat) := []
  retried : Bool := false
  sent : Nat := 0
  deriving DecidableEq, Repr

/-- The endpoint: configuration space, MSI-X table and pending bits, outstanding requests and those that wait for a tag, the tags
reserved with the instants until which they are (R422), the instant of the last traffic on the link (R427), and of each kind of
channel the one whose turn at the request port is next (R447). -/
structure Pce where
  cfg : Tbl Word := []
  msix : Tbl MsixEntry := []
  pba : Tbl Bool := []
  reqs : List Req := []
  waitReqs : List Req := []
  reserved : List (Nat × Nat) := []
  activeAt : Nat := 0
  frameTurn : Nat := 0
  chainTurn : Nat := 0
  spdRead : Bool := false
  perst : Bool := true
  flrDrain : Bool := false
  flrAt : Nat := 0
  bar2Log2 : Nat := 0
  deriving DecidableEq, Repr

/-! ## DMA channels and queues -/

/-- A descriptor as read (R433): the words the channel uses. -/
structure Desc where
  ctrl : Word := 0
  length : Nat := 0
  src : Nat := 0
  dst : Nat := 0
  link : Nat := 0
  deriving DecidableEq, Repr

/-- What a channel waits for next inside its STATE of DMA_STATUS. -/
inductive DmaPhase where
  | none | loading | moving | readBack | reread
  deriving DecidableEq, Repr

/-- A descriptor that a frame-mode channel holds (R444 to R446): the port and number of the frame that took it, the
bytes that wait in the cut-through buffer with their offsets in the host buffer, the end of what has been written, the
first byte lost, the final tag once the frame has ended, and whether its read-back is under way. -/
structure CtSlot where
  addr : Nat
  desc : Desc
  taken : Option (Nat × Nat) := none
  pend : List (Nat × List Byte) := []
  high : Nat := 0
  lostAt : Option Nat := none
  fin : Option (List Byte) := none
  rb : Bool := false
  deriving DecidableEq, Repr

/-- The shadow copy of a channel in chain mode (R431): the address of the next descriptor, the doorbell count taken as its read
was issued (R441), the descriptor once it has come, and the result of a read that failed. -/
structure Shadow where
  addr : Nat
  snap : Nat
  rx : Option (List Byte) := none
  desc : Option Desc := none
  fail : Option Nat := none
  deriving DecidableEq, Repr

/-- A DMA channel (R431). Addresses of descriptors carry their space in bit 1, as LINK does (R435). `snap` is the
doorbell count of R441, `asked` says that a read of source data is outstanding, `rx` holds what a read brought (`got`) with the
ranges of it that were poisoned, `backOk` that the read-back has come; `credit` is the pacing credit of R448 in bytes times
256,000 at the instant `creditAt`; `stop`, `migWait` and `paused` say that the channel goes to IDLE, RESERVED, or starts its
descriptor again later; `sh` is the shadow copy, `ahead` what a channel in frame mode holds. -/
structure Dma where
  phase : DmaPhase := .none
  addr : Nat := 0
  desc : Desc := {}
  snap : Nat := 0
  moved : Nat := 0
  items : Nat := 0
  firstBad : Option Nat := none
  asked : Bool := false
  got : Bool := false
  backOk : Bool := false
  rx : List Byte := []
  rxBad : List (Nat × Nat) := []
  stop : Bool := false
  startBusy : Bool := false
  migWait : Bool := false
  paused : Bool := false
  credit : Nat := 131072000
  creditAt : Nat := 0
  sh : Option Shadow := none
  ahead : List CtSlot := []
  deriving DecidableEq, Repr

/-- An item of a queue level (R453). -/
structure QItem where
  pri : Nat
  source : Nat
  data : List Byte
  lostBefore : Bool
  dataErr : Bool
  deriving DecidableEq, Repr

/-- An item being written by a producer (R453, R457). -/
structure QPartial where
  pri : Nat
  source : Nat
  words : Nat
  data : List Byte
  poisoned : Bool
  deriving DecidableEq, Repr

/-- The two copies of the two pointers of a level (R452, R454). -/
structure QPtr where
  wr : Nat := 0
  wr2 : Nat := 0
  rd : Nat := 0
  rd2 : Nat := 0
  deriving DecidableEq, Repr

/-- A queue (R452 to R458): the committed items of each level, oldest first, the item in progress at the
register port with the bytes already read, the host's staging buffer, and for each level the item a producer is writing and
behind it those whose producers wait. -/
structure Que where
  levels : Tbl (List QItem) := []
  ptrs : Tbl QPtr := []
  cur : Option QItem := none
  curPos : Nat := 0
  lastHead : Word := 0
  lastData : Word := 0
  host : Option QPartial := none
  parts : Tbl (List QPartial) := []
  drain : Option Nat := none
  lostNext : Bool := false
  deriving DecidableEq, Repr

/-! ## Time -/

/-- A foreign master (R466): the identity of its port, its last Announce, and the instants of the Announces counted. -/
structure Foreign where
  clock : BitVec 64
  port : BitVec 16
  gm : PtpClock
  steps : Nat
  seen : List Nat
  deriving DecidableEq, Repr

/-- A port instance of a domain (R468): its foreign masters, the instant PRE_MASTER ends, the next sequence numbers, a
two-step Sync whose Follow_Up is awaited (sequence, receipt, correction), the last Delay_Req or Pdelay_Req sent (sequence,
instant), the response to a Pdelay_Req (its sequence, receipt and turnaround), the logarithm of the interval of
delay requests, and the instants of the last Announce heard (or the entry to LISTENING) and of the last Sync, Announce and request
sent. Instants at the cage are in units of 1/655,360 ns. -/
structure PtpInst where
  foreign : List Foreign := []
  preEnd : Nat := 0
  syncSeq : Nat := 0
  annSeq : Nat := 0
  delSeq : Nat := 0
  sync : Option (Nat × Int × Int) := none
  req : Option (Nat × Int) := none
  resp : Option (Nat × Int × Int) := none
  logReq : Int := 0
  heardAt : Nat := 0
  syncSent : Nat := 0
  annSent : Nat := 0
  reqSent : Nat := 0
  deriving DecidableEq, Repr

/-- A domain (R471 to R473): the master it follows, the mean path delay once measured, the times of the last Sync for a
request-response measurement (origin and receipt), the integrator in 2^-28 ppb, the interval of the last Sync, runs of good
and bad offsets, whether an offset has been measured, the last offset in 1/655,360 ns. -/
structure PtpDom where
  master : Option (BitVec 64 × BitVec 16) := none
  gm : Option PtpClock := none
  steps : Nat := 0
  path : Option Int := none
  last : Option (Int × Int) := none
  integ : Int := 0
  logSync : Int := 0
  good : Nat := 0
  bad : Nat := 0
  measured : Bool := false
  offset : Int := 0
  syncAt : Nat := 0
  deriving DecidableEq, Repr

/-- A schedule (R474 to R476): what ARM copied and when, the index of the next instant, the last instant fired, the end of its
pulse. -/
structure Sched where
  armed : Bool := false
  armAt : Nat := 0
  cfg : Word := 0
  start : Nat := 0
  period : Nat := 0
  width : Nat := 0
  count : Nat := 0
  next : Nat := 0
  last : Option Nat := none
  pulse : Option Nat := none
  deriving DecidableEq, Repr

/-- A message that waits to be forwarded behind another (R480): the earliest instant of its J, its nibbles 0 to 6 as fields, and
whether its CRC12 failed. -/
structure RingMsg where
  out : Nat
  origin : Nat
  hops : Nat
  code : Nat
  flags : Nat
  bad : Bool
  deriving DecidableEq, Repr

/-- A stay ring (R479 to R481): the instant of the J of the message outstanding, the instant the line out is free, the
starts of forwarded messages, a second message that waits to be forwarded, the end of the last message of its own, the instant
IDLE began. -/
structure RingPort where
  own : Option Nat := none
  lineFree : Nat := 0
  starts : List Nat := []
  second : Option RingMsg := none
  ownEnd : Nat := 0
  idleAt : Option Nat := none
  deriving DecidableEq, Repr

/-- The time unit: domains, port instances, schedules, captures, rings, module windows and when they were last read; the FREQ set at the last switch while
the limit of R473 holds, and FREQ as it has stood, newest first, with the instants of its changes. -/
structure Tim where
  doms : Tbl PtpDom := []
  insts : Tbl PtpInst := []
  sch : Tbl Sched := []
  cap : Tbl Nat := []
  rings : Tbl RingPort := []
  a0 : Tbl Byte := []
  a2 : Tbl Byte := []
  polled : Tbl Nat := []
  slew : Option Int := none
  freqs : List (Nat × Int) := []
  deriving DecidableEq, Repr

/-! ## Encoders and SSI inputs -/

/-- The filtered levels of an encoder's A and B. -/
structure Enc where
  a : Bool := false
  b : Bool := false
  deriving DecidableEq, Repr

/-- A read of an SSI input (R556): its latch instant, whether SSI_DAT was high at its start, and the configuration it runs with;
the end of the last one. -/
structure Ssi where
  run : Option (Nat × Bool) := none
  cfg : Word := 0
  startAt : Option Nat := none
  endAt : Option Nat := none
  deriving DecidableEq, Repr

/-! ## Boot image and sessions -/

/-- A challenge outstanding on a transport (R497): LEVEL, Nc, Ns, CLIENT_ID as its bytes, SID, the instant it was sent. -/
structure Chal where
  level : Nat
  nc : List Byte
  ns : List Byte
  client : List Byte
  sid : Nat
  since : Nat
  deriving DecidableEq, Repr

/-- The lockout of a transport (R501): BAD_PROOF refusals in a row, the length in s of the last lockout, its end. -/
structure Lockout where
  fails : Nat := 0
  secs : Nat := 0
  due : Option Nat := none
  deriving DecidableEq, Repr

/-- A datagram slot (R499 to R501). `level` is 0 until the session opens; `req` and `resp` are the last body executed
and its cached answer, `seen` the instant of the last valid datagram, `net` the port it uses. -/
structure Slot where
  chal : Option Chal := none
  level : Nat := 0
  sid : Nat := 0
  key : List Byte := []
  seq : Nat := 0
  req : List Byte := []
  resp : List Byte := []
  seen : Nat := 0
  net : Nat := 0
  deriving DecidableEq, Repr

/-- The sessions of both transports. The mailbox session itself is in BOOT_MBX_STATUS and SES_STATUS. -/
structure Ses where
  mbxChal : Option Chal := none
  mbxLock : Lockout := {}
  dgLock : Lockout := {}
  slots : Tbl Slot := []
  deriving DecidableEq, Repr

/-- A section of an image (R494, R495). -/
structure Section where
  kind : Nat
  inst : Nat
  dest : Nat
  bytes : List Byte
  deriving DecidableEq, Repr

/-- A flash operation that runs (R505, R506): OP, DEV, the device address, the byte count, the store address, the bytes of
BOOT_FLASH_BUF at GO. -/
structure FlashOp where
  op : Nat
  dev : Nat
  addr : Nat
  len : Nat
  src : Nat
  data : List Byte
  deriving DecidableEq, Repr

/-- An accepted live switch (R507): its device and SEQ, the LAYOUT section and the LIVE sections. -/
structure Switch where
  dev : Nat
  seq : Nat
  layout : List Byte
  secs : List Section
  deriving DecidableEq, Repr

/-- Boot: the contents of the two flash devices (a byte never programmed reads 0xFF), the operation that runs, the
LAYOUT section in force, the pending switch, the image LOAD has accepted, whether LOAD has begun and when, the modules it found,
whether reads of a device fail, and the programs that lie in no BAR0 memory. -/
structure Boot where
  flash : Tbl Byte := []
  op : Option FlashOp := none
  layout : List Byte := []
  switch : Option Switch := none
  cand : Option Switch := none
  loading : Bool := false
  loadAt : Nat := 0
  dimms : List Dimm := []
  readErr : Tbl Bool := []
  helmProg : List Byte := []
  laneScript : List Byte := []
  deriving DecidableEq, Repr

/-! ## The helm and power -/

/-- The helm's fault input, journal and cores (R530, R535 to R539): the notices waiting, the journal bytes in use, the fine
counts at which each core was outvoted, when the resynchronisation began, the last write of HLM_WDT, and whether R532 does
not cover helm memory until the next commit point (R537). -/
structure Helm where
  notices : List Notice := []
  journal : Nat := 0
  outvoted : Tbl (List Nat) := []
  resyncAt : Nat := 0
  wdtAt : Nat := 0
  uncovered : Bool := false
  deriving DecidableEq, Repr

/-- Power (R515, R521 to R528): the inrush budget in 1/20,000 CU and the instant it was brought up to, domains started and not
yet power-good with the instants of their starts, domains requested with the priority they queue at, the instant REEF was entered, that of the last warning,
whether the recovery has been qualified, a warning kept until a transition ends. -/
structure Pwr where
  budget : Nat := 1280000
  budgetAt : Nat := 0
  started : Tbl (Option Nat) := []
  wakes : List (Nat × Nat) := []
  reefAt : Nat := 0
  warnAt : Nat := 0
  recovered : Bool := false
  warned : Bool := false
  deriving DecidableEq, Repr

/-- The state of the Swista. -/
structure State where
  /-- The variant (R1). Reset takes the SX1664 (DESIGN CHOICE, log entry 1). -/
  variant : Variant
  /-- What manufacture and the board fix (DESIGN CHOICE, log entry 3). -/
  fuse : Fuses
  /-- The time base in fine counts of 0.8 ns (R30, R463). -/
  fine : Nat
  /-- The register file: what each register holds, by `Reg.key`. -/
  regs : Tbl Word
  /-- The words in force of the BAR0 memories, by BAR0 byte address (R572). -/
  bar0 : Tbl Word
  /-- Writes held until the next commit point, oldest first (R37, R504). -/
  staged : List Staged
  /-- What the block has sent out, oldest first. -/
  outbox : List Out
  /-- How many free values have been drawn: the model's own field, not the spec's (log entry 2). -/
  freeCtr : Nat
  /-- The lanes. -/
  lnk : Tbl Lane
  /-- The ports, by lowest lane. -/
  port : Tbl Port
  /-- Capture, by lowest lane. -/
  cap : Tbl CapPort
  /-- Compare units and trigger outputs. -/
  capt : Capt
  /-- The masts. -/
  mst : Tbl Mast
  /-- The sheet units, by beam. -/
  sht : Tbl Sht
  /-- The beam channels, by beam. -/
  bch : Tbl Bch
  /-- What the beam channels share: BEAM_PERMIT and the rotation groups. -/
  beams : BchShared
  /-- The scan interpreters, by beam. -/
  scn : Tbl Scn
  /-- The grid updater. -/
  cal : Cal
  /-- The illumination channels. -/
  lum : Tbl Lum
  /-- The matrix projector and the pattern sequencer. -/
  proj : Proj
  /-- Halyards. -/
  hal : Hal
  /-- The PCI Express endpoint. -/
  pce : Pce
  /-- The DMA channels. -/
  dma : Tbl Dma
  /-- The queues. -/
  que : Tbl Que
  /-- The frame store. -/
  fst : Fst
  /-- The sessions. -/
  ses : Ses
  /-- Flash devices and image. -/
  boot : Boot
  /-- The time unit. -/
  tim : Tim
  /-- Encoders. -/
  enc : Tbl Enc
  /-- SSI inputs. -/
  ssi : Tbl Ssi
  /-- The helm: notices, journal, cores. -/
  helm : Helm
  /-- Power: budget, wakes, the reef state. -/
  pwr : Pwr
  /-- Commands waiting, first in first out. -/
  pending : List Instr
  deriving DecidableEq, Repr

/-- The machine right after reset: LOAD has not begun, every register at its reset value, every memory empty, nothing
waiting (log entries 1, 3 and 4 name the values the spec does not give). -/
def State.reset : State where
  variant := .sx1664
  fuse := { phyLat := [], portLat := [], serial := 0, minSvn := 0, keyHash := none, deviceKey := none, eui := 0, mac := 0, subsystem := 0 }
  fine := 0
  regs := []
  bar0 := []
  staged := []
  outbox := []
  freeCtr := 0
  lnk := []
  port := []
  cap := []
  capt := {}
  mst := []
  sht := []
  bch := []
  beams := {}
  scn := []
  cal := {}
  lum := []
  proj := {}
  hal := {}
  pce := {}
  dma := []
  que := []
  fst := {}
  ses := {}
  boot := {}
  tim := {}
  enc := []
  ssi := []
  helm := {}
  pwr := {}
  pending := []

/-- Reasons the block stops. No rule of the spec stops it: the list holds the one reason a state that no reset and no
command reaches could give. -/
inductive Fault where
  /-- Raised by no meaning: the spec gives every command an effect. Safe. -/
  | none
  deriving DecidableEq, Repr

/-- Reasons a command has no meaning here. -/
inductive Refusal where
  /-- Raised by `exec` for a command of the opcode table whose meaning is not written. Safe. -/
  | notModelled (mnemonic : String)
  deriving DecidableEq, Repr

end Sys2Proof.Machine
end

