-- ==== Sys2Proof/Machine/Tbl.lean ====
section
/-!
DEFINITION. Reading and writing a sparse table in its one canonical form. Memories and register files are such
tables (`Tbl Byte` is the host's list of cells).
-/

namespace Sys2Proof.Machine

variable {α : Type}

/-- What key `k` holds in `t`; `d` where `t` does not list it. -/
def tblGet (d : α) (t : Tbl α) (k : Nat) : α :=
  match t with
  | [] => d
  | e :: rest => if e.1 = k then e.2 else tblGet d rest k

/-- `t` with the pair `(k, v)` put at its place in rising order. -/
def tblInsert (t : Tbl α) (k : Nat) (v : α) : Tbl α :=
  match t with
  | [] => [(k, v)]
  | e :: rest => if k < e.1 then (k, v) :: e :: rest else e :: tblInsert rest k v

/-- `t` without key `k`. -/
def tblErase (t : Tbl α) (k : Nat) : Tbl α :=
  t.filter (fun e => e.1 != k)

/-- `t` with `v` written at `k`. Writing the default removes the entry, so that equal tables are equal lists. -/
def tblSet [DecidableEq α] (d : α) (t : Tbl α) (k : Nat) (v : α) : Tbl α :=
  if v = d then tblErase t k else tblInsert (tblErase t k) k v

/-- The canonical form: keys strictly rising and no entry equal to the default. -/
def tblWf [DecidableEq α] (d : α) (t : Tbl α) : Bool :=
  match t with
  | [] => true
  | [e] => e.2 != d
  | e :: f :: rest => e.2 != d && decide (e.1 < f.1) && tblWf d (f :: rest)

/-- `vs` written at `k`, `k + 1`, … -/
def tblSetList [DecidableEq α] (d : α) (t : Tbl α) (k : Nat) (vs : List α) : Tbl α :=
  match vs with
  | [] => t
  | v :: rest => tblSetList d (tblSet d t k v) (k + 1) rest

/-- The `n` values at `k`, `k + 1`, … -/
def tblGetList (d : α) (t : Tbl α) (k n : Nat) : List α :=
  (List.range n).map (fun i => tblGet d t (k + i))

end Sys2Proof.Machine
end

