-- ==== Sys2Proof/Machine/Ops.lean ====
section
/-!
DEFINITION. The shared operations: reading and writing registers and their fields, counters, what leaves the block,
time, presence of units, the BAR0 memories.
-/

namespace Sys2Proof.Machine

/-- The outcome type of every meaning. -/
abbrev Res := Host.Outcome State Fault Refusal

/-- The state in an outcome that has one. -/
def resState (s : State) (r : Res) : State :=
  match r with
  | .next t => t
  | _ => s

/-! ### Bits of words -/

/-- `width` bits of `w` from bit `lo` up, as a number. -/
def getBits (w : Word) (lo width : Nat) : Nat := (w.toNat >>> lo) % 2 ^ width

/-- A word with ones in the `width` bits from `lo` up. -/
def maskBits (lo width : Nat) : Word := BitVec.ofNat 32 ((2 ^ width - 1) <<< lo)

/-- `w` with `v` put into the `width` bits from `lo` up. -/
def putBits (w : Word) (lo width v : Nat) : Word :=
  (w &&& ~~~(maskBits lo width)) ||| BitVec.ofNat 32 ((v % 2 ^ width) <<< lo)

/-- Bit `k` of a number. -/
def natBit (v k : Nat) : Bool := (v >>> k) % 2 == 1

/-- A Bool as 0 or 1. -/
def b2n (b : Bool) : Nat := if b then 1 else 0

/-- The two's complement value of the low `width` bits of `v`. -/
def sext (width v : Nat) : Int :=
  let u := v % 2 ^ width
  if u < 2 ^ (width - 1) then (u : Int) else (u : Int) - 2 ^ width

/-- `v` as `width` bits of two's complement. -/
def unsext (width : Nat) (v : Int) : Nat := (v % (2 ^ width : Int)).toNat

/-- `v` held between `lo` and `hi`. -/
def clampInt (lo hi v : Int) : Int := if v < lo then lo else if hi < v then hi else v

/-- A value that the spec treats as 1 where it is 0. -/
def atLeast1 (v : Nat) : Nat := if v = 0 then 1 else v

/-- The `n` bytes of `v`, lowest first (R13). -/
def bytesLE (n v : Nat) : List Byte := (List.range n).map (fun i => BitVec.ofNat 8 (v >>> (8 * i)))

/-- The number whose bytes, lowest first, are `bs` (R13). -/
def natLE (bs : List Byte) : Nat := bs.foldr (fun b acc => b.toNat + 256 * acc) 0

/-- The number whose bytes, highest first, are `bs`. -/
def natBE (bs : List Byte) : Nat := bs.foldl (fun acc b => 256 * acc + b.toNat) 0

/-- The `n` bytes of `v`, highest first. -/
def bytesBE (n v : Nat) : List Byte := (bytesLE n v).reverse

/-- The `n` bytes of `bs` at `off`, zero past its end. -/
def takeAt (bs : List Byte) (off n : Nat) : List Byte :=
  (List.range n).map (fun i => bs.getD (off + i) 0)

/-- The little-endian number in the `n` bytes of `bs` at `off`. -/
def fieldLE (bs : List Byte) (off n : Nat) : Nat := natLE (takeAt bs off n)

/-- `bs` with the bytes `vs` put at `off` (inside its length). -/
def putAt (bs : List Byte) (off : Nat) (vs : List Byte) : List Byte :=
  bs.take off ++ vs.take (bs.length - off) ++ bs.drop (off + vs.length)

/-- `x` rounded up to a multiple of `m`. -/
def roundUp (x m : Nat) : Nat := (x + m - 1) / m * m

/-! ### Registers -/

/-- The key of a register instance in the register file. -/
def Reg.key (r : Reg) (i j : Nat) : Nat := Nat.pair r.ctorIdx (Nat.pair i j)

/-- What register `r[i][j]` holds after reset: the entries of engines 64 and 65 in MST_SPAR_STATE read SPARE (R232). -/
def Reg.resetAt (r : Reg) (j : Nat) : Word :=
  match r, j with
  | .MST_SPAR_STATE, 4 => 5
  | _, _ => r.reset

/-- What register `r[i][j]` holds. -/
def State.rd (s : State) (r : Reg) (i : Nat := 0) (j : Nat := 0) : Word :=
  tblGet (r.resetAt j) s.regs (r.key i j)

/-- Register `r[i][j]` set to `v`, by the block itself: no access type applies. -/
def State.wr (s : State) (r : Reg) (v : Word) (i : Nat := 0) (j : Nat := 0) : State :=
  { s with regs := tblSet (r.resetAt j) s.regs (r.key i j) v }

/-- A field of a register, as a number. -/
def State.fld (s : State) (f : Fld) (i : Nat := 0) (j : Nat := 0) : Nat :=
  getBits (s.rd f.reg i j) f.lo f.width

/-- A field of a register set by the block itself. -/
def State.setFld (s : State) (f : Fld) (v : Nat) (i : Nat := 0) (j : Nat := 0) : State :=
  s.wr f.reg (putBits (s.rd f.reg i j) f.lo f.width v) i j

/-- Whether a one-bit field is set. -/
def State.flag (s : State) (f : Fld) (i : Nat := 0) (j : Nat := 0) : Bool := s.fld f i j != 0

/-- `n` added to a counter that saturates at 0xFFFF_FFFF (R95 and the counter rule of every chapter). -/
def State.bumpBy (s : State) (r : Reg) (n : Nat) (i : Nat := 0) (j : Nat := 0) : State :=
  s.wr r (BitVec.ofNat 32 (min ((s.rd r i j).toNat + n) 0xFFFFFFFF)) i j

/-- One added to a saturating counter. -/
def State.bump (s : State) (r : Reg) (i : Nat := 0) (j : Nat := 0) : State := s.bumpBy r 1 i j

/-- One added to a field that saturates at its own width. -/
def State.bumpFld (s : State) (f : Fld) (n : Nat) (i : Nat := 0) (j : Nat := 0) : State :=
  s.setFld f (min (s.fld f i j + n) (2 ^ f.width - 1)) i j

/-! ### Output, time, free values -/

/-- `o` leaves the block. -/
def State.emit (s : State) (o : Out) : State := { s with outbox := s.outbox ++ [o] }

/-- `dt` fine counts pass. -/
def State.advance (s : State) (dt : Nat) : State := { s with fine := s.fine + dt }

/-- `dt` fine counts pass, and at least up to the instant `due` of a timed event. -/
def State.passTo (s : State) (dt due : Nat) : State := { s with fine := max (s.fine + dt) due }

/-- `dt` fine counts pass, but none beyond the instant `due` by which the spec has the event act. -/
def State.passBy (s : State) (dt due : Nat) : State := { s with fine := max s.fine (min (s.fine + dt) due) }

/-- Bits 47:0 of the fine count now (R376). -/
def State.now48 (s : State) : BitVec 48 := BitVec.ofNat 48 s.fine

/-- The fine counts in a number of nanoseconds (R30: 1.25 GHz). -/
def fineOfNs (ns : Nat) : Nat := ns * 5 / 4

/-- The next free value, and the state with its counter moved on (log entry 2). -/
def State.freeBits (s : State) (w : Nat) : BitVec w × State :=
  (Config.freeBits w s.freeCtr, { s with freeCtr := s.freeCtr + 1 })

/-! ### Presence (R1, R4 to R7) -/

def Variant.half (v : Variant) : Bool := v == .sx1632 || v == .sx1632v
def Variant.noBeams (v : Variant) : Bool := v == .sx1664v || v == .sx1632v
def Variant.lanes (v : Variant) : Nat := if v.half then 32 else 64
def Variant.masts (v : Variant) : Nat := if v.half then 8 else 16
def Variant.channels (v : Variant) : Nat := if v.half then 6 else 12
def Variant.beams (v : Variant) : Nat := if v.noBeams then 0 else if v.half then 6 else 12

/-- Whether instance `i` of the unit with this UNIT_CODE is present (R570). -/
def unitPresent (v : Variant) (code i : Nat) : Bool :=
  match code with
  | 0 | 1 => decide (i < v.lanes)
  | 2 => decide (i < v.channels)
  | 3 => decide (i < v.masts)
  | 4 | 5 | 6 => decide (i < v.beams)
  | _ => true

def State.hasLane (s : State) (n : Nat) : Bool := decide (n < s.variant.lanes)
def State.hasMast (s : State) (m : Nat) : Bool := decide (m < s.variant.masts)
def State.hasBeam (s : State) (n : Nat) : Bool := decide (n < s.variant.beams)
def State.hasChannel (s : State) (c : Nat) : Bool := decide (c < s.variant.channels)

/-! ### Modes and power -/

/-- The mode codes of R513. -/
def modeOff : Nat := 0
def modeLoad : Nat := 1
def modeIdle : Nat := 2
def modeAcquire : Nat := 3
def modeBuild : Nat := 4
def modeService : Nat := 5

def State.mode (s : State) : Nat := s.fld F.PWR_MODE_STATUS_MODE
def State.ready (s : State) : Bool := s.flag F.PCE_STATUS_READY
def State.reef (s : State) : Bool := s.flag F.PWR_MODE_STATUS_REEF

/-- Whether power domain `d` is on (R541). -/
def State.domOn (s : State) (d : Nat) : Bool := natBit (s.rd .PWR_DOM_STATUS 0 (d / 32)).toNat (d % 32)

def State.setDom (s : State) (d : Nat) (on : Bool) : State :=
  s.wr .PWR_DOM_STATUS (putBits (s.rd .PWR_DOM_STATUS 0 (d / 32)) (d % 32) 1 (b2n on)) 0 (d / 32)

def State.setDomPending (s : State) (d : Nat) (on : Bool) : State :=
  s.wr .PWR_DOM_PENDING (putBits (s.rd .PWR_DOM_PENDING 0 (d / 32)) (d % 32) 1 (b2n on)) 0 (d / 32)

/-! ### BAR0 memories -/

/-- Where grid memory lies in BAR0: head `n` at this address and 0x1_0000 × n (R567). -/
def gridBase : Nat := 0x00500000

/-- What a word of a unit memory holds after reset: a grid node as R324 gives it, else zero (log entry 8). -/
def memReset (a : Nat) : Word :=
  let o := (a - gridBase) % 0x10000
  let node := o / 12
  if a < gridBase || gridBase + 0xC0000 ≤ a || 4225 ≤ node then 0
  else match o % 12 with
    | 0 => BitVec.ofNat 32 (unsext 24 (((node % 65 : Nat) : Int) * 131072 - 32 * 131072))
    | 4 => BitVec.ofNat 32 (unsext 24 (((node / 65 : Nat) : Int) * 131072 - 32 * 131072))
    | _ => 0

/-- The word in force at BAR0 byte address `a` of a unit memory. -/
def State.memRd (s : State) (a : Nat) : Word := tblGet (memReset a) s.bar0 a

def State.memWr (s : State) (a : Nat) (v : Word) : State := { s with bar0 := tblSet (memReset a) s.bar0 a v }

/-- A write held until the next commit point (R37). -/
def State.stage (s : State) (l : Loc) (v : Word) : State := { s with staged := s.staged ++ [⟨l, v⟩] }

/-- The last staged write to a place, if one is held. -/
def stagedOf (l : Loc) : List Staged → Option Word
  | [] => none
  | x :: rest => match stagedOf l rest with
    | some v => some v
    | none => if x.loc = l then some x.val else none

/-- What a read of a register returns before access types: the staged value where one is held (R37). -/
def State.rdStaged (s : State) (r : Reg) (i j : Nat) : Word := (stagedOf (.reg r i j) s.staged).getD (s.rd r i j)

def State.memRdStaged (s : State) (a : Nat) : Word := (stagedOf (.mem a) s.staged).getD (s.memRd a)

end Sys2Proof.Machine
end

