-- ==== Sys2Proof/Machine/Events.lean ====
section
/-!
DEFINITION. What every unit can send: an MSI-X request (R416), a fault notice to the helm (R539) and an event on a
halyard (R376, R377, R383).
-/

namespace Sys2Proof.Machine

/-! ### Configuration space fields the units look at (R407; their places are the standard's, log entry 5) -/

/-- The identity words of R406 and R407, and the writable words at their reset values. -/
def cfgReset (v : Variant) (f : Fuses) (off : Nat) : Word :=
  match off with
  | 0x00 => match v with
    | .sx1664 => 0x06641F5B
    | .sx1664v => 0x06651F5B
    | .sx1632 => 0x06321F5B
    | .sx1632v => 0x06331F5B
  | 0x04 => 0x00100000
  | 0x08 => 0x11800000
  | 0x10 => 0x00000004
  | 0x18 => 0x0000000C
  | 0x20 => 0x00000004
  | 0x2C => f.subsystem
  | 0x34 => 0x00000040
  | 0x40 => 0x00035001
  | 0x44 => 0x00000008
  | 0x50 => 0x0002B010
  | 0x54 => 0x10008022
  | 0x58 => 0x00002810
  | 0xB0 => 0x07FF0011
  | 0xB4 => 0x00000004
  | 0xB8 => 0x00008004
  | 0x100 => 0x14820001
  | 0x10C => 0x00462030
  | 0x114 => 0x0000E000
  | 0x148 => 0x15810003
  | 0x14C => f.serial.setWidth 32
  | 0x150 => (f.serial >>> 32).setWidth 32
  | 0x158 => 0x18810019
  | 0x188 => 0x19810025
  | 0x198 => 0x1D010026
  | 0x1D0 => 0x22010027
  | 0x220 => 0x0001002A
  | _ => 0

def State.cfgRd (s : State) (off : Nat) : Word :=
  tblGet (cfgReset s.variant s.fuse off) s.pce.cfg off

def State.cfgWr (s : State) (off : Nat) (v : Word) : State :=
  { s with pce := { s.pce with cfg := tblSet (cfgReset s.variant s.fuse off) s.pce.cfg off v } }

def State.busMaster (s : State) : Bool := natBit (s.cfgRd 0x04).toNat 2
def State.d3hot (s : State) : Bool := getBits (s.cfgRd 0x44) 0 2 == 3
def State.msixEnable (s : State) : Bool := natBit (s.cfgRd 0xB0).toNat 31
def State.functionMask (s : State) : Bool := natBit (s.cfgRd 0xB0).toNat 30
def State.flrActive (s : State) : Bool := s.flag F.PCE_STATUS_FLR_ACTIVE

/-- Whether the endpoint may issue a request of its own (R424, R425). -/
def State.mayRequest (s : State) : Bool := s.busMaster && !s.d3hot && !s.flrActive

/-- Entry `v` of the MSI-X table (R414). -/
def State.msixEntry (s : State) (v : Nat) : MsixEntry := tblGet {} s.pce.msix v

def State.setMsix (s : State) (v : Nat) (e : MsixEntry) : State :=
  { s with pce := { s.pce with msix := tblSet {} s.pce.msix v e } }

def State.setPending (s : State) (v : Nat) (b : Bool) : State :=
  { s with pce := { s.pce with pba := tblSet false s.pce.pba v b } }

def State.msixMasked (s : State) (v : Nat) : Bool := natBit (s.msixEntry v).ctrl.toNat 0

/-- Traffic on the link: from L0s or L1 it returns to L0, and the idle times of R427 start anew. -/
def State.linkWake (s : State) : State :=
  let s1 := { s with pce := { s.pce with activeAt := s.fine } }
  if s.fld F.PCE_STATUS_LINK_PM = 1 || s.fld F.PCE_STATUS_LINK_PM = 2 then s1.setFld F.PCE_STATUS_LINK_PM 0 else s1

/-- The message of vector `v` is sent. -/
def State.msixSend (s : State) (v : Nat) : State :=
  s.linkWake.emit (.msix v (s.msixEntry v).addrHi (s.msixEntry v).addrLo (s.msixEntry v).data)

/-- A request for vector `v` (R416, and R426 during a function-level reset). -/
def State.msixReq (s : State) (v : Nat) : State :=
  if s.flrActive then s
  else if !s.msixEnable then s.bump .PCE_CNT_MSIX_DROP
  else if s.msixMasked v || s.functionMask || !s.busMaster || s.d3hot then s.setPending v true
  else s.msixSend v

/-! ### Errors and inbound requests (R420, R421, R425) -/

/-- An endpoint event of R415. -/
def State.pceEvent (s : State) : State :=
  if s.flag F.PCE_CTRL_EVENT_EN then s.msixReq (s.fld F.PCE_CTRL_EVENT_VEC) else s

/-- A correctable error is recorded, and ERR_COR sent where it is unmasked and enabled (R420). -/
def State.aerNote (s : State) (bit : Nat) : State :=
  let s1 := s.cfgWr 0x110 (putBits (s.cfgRd 0x110) bit 1 1)
  if !natBit (s1.cfgRd 0x114).toNat bit && natBit (s1.cfgRd 0x58).toNat 0 then s1.emit (.errMsg 0) else s1

/-- An uncorrectable error is recorded with the header `hdr` (R420, R421), an advisory one as Advisory Non-Fatal too. -/
def State.aerLog (s : State) (bit : Nat) (advisory : Bool) (hdr : List Word) : State :=
  let st := s.cfgRd 0x104
  let fep := getBits (s.cfgRd 0x118) 0 5
  let firstSet := natBit st.toNat fep
  let masked := natBit (s.cfgRd 0x108).toNat bit
  let s1 := s.cfgWr 0x104 (putBits st bit 1 1)
  let s2 :=
    if masked then s1
    else if firstSet then s1.aerNote 15
    else
      let s2 := s1.cfgWr 0x118 (putBits (s1.cfgRd 0x118) 0 5 bit)
      (((s2.cfgWr 0x11C (hdr.getD 0 0)).cfgWr 0x120 (hdr.getD 1 0)).cfgWr 0x124 (hdr.getD 2 0)).cfgWr 0x128 (hdr.getD 3 0)
  let s3 :=
    if advisory then s2.aerNote 13
    else if masked then s2
    else if natBit (s2.cfgRd 0x10C).toNat bit then
      if natBit (s2.cfgRd 0x58).toNat 2 then s2.emit (.errMsg 2) else s2
    else if natBit (s2.cfgRd 0x58).toNat 1 then s2.emit (.errMsg 1) else s2
  s3.pceEvent

/-- The places of the errors of R420 in the status registers. -/
def noteBit : TlpNote → Nat
  | .receiver => 0
  | .badTlp => 6
  | .badDllp => 7
  | .rollover => 8
  | .replayTimer => 12
  | .corrected => 14

def lossBit : TlpLoss → Nat
  | .dataLink => 4
  | .flowControl => 13
  | .overflow => 17
  | .malformed => 18
  | .ecrc => 19
  | .internal => 22

/-- A TLP arrives on the link: one that is lost has no effect but its error, any other does `k` (R420, R427). -/
def State.inbound (s : State) (t : Tlp) (k : State → State) : State :=
  match t.cond with
  | .clean => k s.linkWake
  | .poisoned => k s.linkWake
  | .noted e => k (s.linkWake.aerNote (noteBit e)).pceEvent
  | .lost e => s.linkWake.aerLog (lossBit e) false t.header

/-- A request that the function does not support: completed with Unsupported Request, or discarded where it is posted, and
logged (R420). -/
def State.unsupportedReq (s : State) (posted : Bool) (header : List Word) : State :=
  (if posted then s else s.emit .unsupported).aerLog 20 false header

/-- A memory request during an FLR is not supported; any other does `k` (R425). -/
def State.memReq (s : State) (posted : Bool) (header : List Word) (k : State) : State :=
  if s.flrActive then s.unsupportedReq posted header else k

/-- Whether an FLR keeps out an access of this requester (R425). -/
def State.flrBars (s : State) (who : Requester) : Bool := who == .mailbox && s.flrActive

/-- `k`, but where an FLR keeps out the access: that is an unsupported request, whose header is a free value (log entry 2). -/
def State.flrGate (s : State) (who : Requester) (posted : Bool) (k : State) : State :=
  if s.flrBars who then
    let v := s.freeBits 128
    v.2.unsupportedReq posted ((List.range 4).map (fun i => (v.1 >>> (32 * i)).setWidth 32))
  else k

/-! ### Fault notices (R539) -/

/-- A fault notice: unit code, instance (0xFF for a unit without instances), cause, detail. -/
def State.notice (s : State) (unit inst cause : Nat) (detail : Word) : State :=
  let first := (s.rd .PWR_FAULT_SUMMARY) == 0
  let s1 := if s.helm.notices.length < 256 then
      { s with helm := { s.helm with notices := s.helm.notices ++ [⟨unit, inst, cause, detail, s.fine % 2 ^ 64⟩] } }
    else s.bump .HLM_CNT_NOTICE_DROP
  let s2 := s1.wr .PWR_FAULT_SUMMARY (putBits (s1.rd .PWR_FAULT_SUMMARY) unit 1 1)
  if first && s2.flag F.PWR_FAULT_CFG_FAULT_EN then s2.msixReq (s2.fld F.PWR_FAULT_CFG_FAULT_VEC) else s2

/-! ### The journal (R535, R537) -/

/-- The size of the journal (R535). -/
def journalSize : Nat := 2 ^ 20

/-- An input of the helm enters the journal; how many bytes an entry takes is a free value (log entry 27). -/
def State.journalAdd (s : State) : State :=
  let (b, s1) := s.freeBits 16
  let used := s1.helm.journal + b.toNat + 1
  if used ≤ journalSize then
    ({ s1 with helm := { s1.helm with journal := used } }).wr .HLM_JOURNAL_USED (BitVec.ofNat 32 used)
  else ({ s1 with helm := { s1.helm with uncovered := true } }).wr .HLM_STATUS (putBits (s1.rd .HLM_STATUS) 8 1 1)

/-- What a register read by this requester leaves in the journal. -/
def State.journalRead (s : State) (who : Requester) : State := if who = .helm then s.journalAdd else s

/-! ### Halyard events -/

/-- Whether the unit of producer `p` is present (R6, R377). -/
def producerPresent (v : Variant) (p : Nat) : Bool :=
  if p < 0x40 then decide (p < v.lanes)
  else if p < 0x80 then decide (p - 0x40 < v.lanes)
  else if p < 0xC0 then true
  else if p < 0x100 then decide (p - 0xC0 < v.masts)
  else if p < 0x180 then decide ((p - 0x100) / 8 < v.masts)
  else if p < 0x1BC then decide ((p - 0x180) % 12 < v.beams)
  else true

/-- The place of an event in the queue of its halyard: behind those published before, and of one instant those of lower producers
(R383). -/
def queueInsert (e : HEv) (q : List HEv) : List HEv :=
  let before (x : HEv) : Bool := decide (x.sentAt < e.sentAt) || decide (x.prod ≤ e.prod)
  q.takeWhile before ++ e :: q.dropWhile before

/-- An event enters the queue of halyard `h`, whose last event is dropped where that makes more than 4 (R383). The state of the
group (halyards 16k to 16k + 15 are group k) as the event reaches the fabric decides whether it is gated (R382). -/
def State.enqueue (s : State) (h : Nat) (e : HEv) : State :=
  let gated := !s.flag F.HAL_ATTR_SECURE h && !natBit (s.rd .HAL_GROUP_STATE).toNat (h / 16)
  let q := queueInsert { e with gated := gated, sentAt := s.fine } (tblGet [] s.hal.queues h)
  let s1 := { s with hal := { s.hal with queues := tblSet [] s.hal.queues h (q.take 4) } }
  if q.length ≤ 4 then s1 else s1.bump .HAL_CNT_QUEUE_DROP

/-- Whether a producer lies in another clock domain than the fabric (R377). -/
def producerFar (p : Nat) : Bool :=
  (0x0C0 ≤ p && p < 0x180) || (0x18C ≤ p && p < 0x198) || p == 0x1BD || (0x1D0 ≤ p && p < 0x1DB)

/-- Producer `p` publishes CODE on the halyard it is bound to (R377). -/
def State.publishHops (s : State) (p : Nat) (code : Nat) (cause : BitVec 48) (hops : Nat) : State :=
  if producerPresent s.variant p && s.flag F.HAL_PROD_BIND_EN p then
    s.enqueue (s.fld F.HAL_PROD_BIND_HALYARD p)
      { code := BitVec.ofNat 8 code, hops := hops, cause := cause, prod := p, far := producerFar p }
  else s

/-- Producer `p` publishes with HOPS 0 (R376). -/
def State.publish (s : State) (p : Nat) (code : Nat) (cause : BitVec 48) : State := s.publishHops p code cause 0

/-- A case is recorded in HAL_ORPHAN, HAL_LOOP, HAL_DUP or HAL_REFUSE (R397): the first since SET was cleared gives
the halyard, a further one sets MORE. -/
def State.recordHal (s : State) (r : Reg) (h : Nat) : State :=
  if getBits (s.rd r) 8 1 = 0 then s.wr r (putBits (putBits (s.rd r) 0 8 h) 8 1 1)
  else s.wr r (putBits (s.rd r) 9 1 1)

/-! ### Who may access what (R403, R411, R502) -/

/-- The level a requester acts with: 4 the helm program, else 0 none, 1 Observer, 2 Operator, 3 Service. -/
def State.levelOf (s : State) (who : Requester) : Nat :=
  match who with
  | .helm => 4
  | .mailbox => getBits (s.rd .SES_STATUS) 8 2
  | .dgram k => getBits (s.rd .SES_STATUS) (2 * k.val) 2
  | .unit => 2

/-- Whether the registers of a unit answer now (R403). -/
def State.unitOpen (s : State) (unit : Nat) : Bool := s.ready || unit == 9 || unit == 16 || unit == 18

/-- `k` where the requester's level reaches `lvl`; else the access has no effect, and one by the host counts (R411). -/
def State.gated (s : State) (who : Requester) (lvl : Nat) (k : State) : State :=
  s.flrGate who true (
    if lvl ≤ s.levelOf who then k
    else if who = .mailbox then s.bump .PCE_CNT_PRIV_REFUSED else s)

/-- Whether instance `i` of a register is present: rings exist in every variant, whatever the channels (R4, R144). -/
def regPresent (v : Variant) (r : Reg) (i : Nat) : Bool :=
  if r.info.unit = 2 && r.info.n1 ≠ 12 then true else unitPresent v r.info.unit i

/-- `k` where a write of register `r[i]` by this requester acts: the unit answers (R403), the instance is present (R5)
and the level suffices (R411, R502). -/
def State.writeGate (s : State) (who : Requester) (r : Reg) (i : Nat) (k : State) : State :=
  if !s.flrBars who && (!s.unitOpen r.info.unit || !regPresent s.variant r i) then s
  else s.gated who r.info.level k

/-! ### Ownership of halyards (R389, R390) -/

/-- Whether the requester owns halyard `h`. -/
def State.ownsHalyard (s : State) (who : Requester) (h : Nat) : Bool :=
  match s.fld F.HAL_ATTR_OWNER h with
  | 0 => who == .helm
  | 1 => who != .helm && decide (2 ≤ s.levelOf who)
  | 2 => who != .helm && decide (3 ≤ s.levelOf who)
  | _ => false

/-- The REQUESTER code of HAL_REFUSE. -/
def State.requesterCode (s : State) (who : Requester) : Nat :=
  if who = .helm then 0 else if s.levelOf who = 3 then 2 else 1

/-- A write refused under R390: HAL_REFUSE, the counter and the notice of R539. `what`: 0 publish, 1 subscription,
2 binding. -/
def State.refuseHal (s : State) (who : Requester) (h what : Nat) : State :=
  let s1 := if s.flag F.HAL_REFUSE_SET then s
    else (s.setFld F.HAL_REFUSE_REQUESTER (s.requesterCode who)).setFld F.HAL_REFUSE_WHAT what
  ((s1.recordHal .HAL_REFUSE h).bump .HAL_CNT_REFUSED).notice 8 0xFF 8 (BitVec.ofNat 32 h)

/-- Whether a write that names halyard `h` is refused (R390). -/
def State.halNameRefused (s : State) (who : Requester) (h : Nat) : Bool :=
  !s.ownsHalyard who h || s.flag F.HAL_ATTR_SECURE h

end Sys2Proof.Machine
end

