-- ==== Sys2Proof/Machine/Halyard.lean ====
section
/-!
DEFINITION. The halyard registers with rows of their own, and the halyard sequences (R382, R387 to R390, R394 to R398).
The delivery of events is in Delivery.lean.
-/

namespace Sys2Proof.Machine

/-- HOP_LIMIT in force (R397): 0 is treated as 1 and 15 as 14. -/
def State.hopLimit (s : State) : Nat :=
  let v := s.fld F.HAL_CFG_HOP_LIMIT
  if v = 0 then 1 else if v = 15 then 14 else v

/-- Groups enabled, then groups disabled: where both name a group, the disable wins (R382). `met` are the groups that another
command of the same clock disables. -/
def State.groups (s : State) (en dis : Nat) (met : BitVec 16) : State :=
  s.wr .HAL_GROUP_STATE
    (((s.rd .HAL_GROUP_STATE) ||| (BitVec.ofNat 16 en &&& ~~~met).setWidth 32) &&& ~~~(BitVec.ofNat 32 (dis % 65536)))

/-- A write of HAL_PUBLISH (R387, R390, R397): with GO, one event with HOPS one above the field. -/
def execHalPublish (who : Requester) (v : Word) (s : State) : Res :=
  .next (s.writeGate who .HAL_PUBLISH 0 (
    let h := getBits v 0 8
    if getBits v 31 1 = 0 then s
    else if !(who == .helm || s.ownsHalyard who h) then s.refuseHal who h 0
    else s.enqueue h { code := BitVec.ofNat 8 (getBits v 8 8), hops := getBits v 16 4 + 1, cause := s.now48, prod := 0x400,
                       far := who == .helm }))

/-- A write of HAL_GROUP_CMD (R382). -/
def execHalGroupCmd (who : Requester) (v : Word) (met : BitVec 16) (s : State) : Res :=
  .next (s.writeGate who .HAL_GROUP_CMD 0 (s.groups (getBits v 0 16) (getBits v 16 16) met))

/-- Whether `t` names a task (R378). -/
def taskListed (t : Nat) : Bool := decide (t < 0x160) && !(0x089 ≤ t && t ≤ 0x08B) && !(0x0CA ≤ t && t ≤ 0x0CF)

/-- Tasks whose primary input is formed by their unit's own field (R380): trigger selectors and strobe causes. -/
def taskUnitPrimary (t : Nat) : Bool := t < 0x40 || (0x080 ≤ t && t ≤ 0x087)

/-- A write of HAL_SUB[t] (R380, R390, R397): refused whole where it names a halyard that the writer does not own or
that is secure; else staged. -/
def execHalSubWrite (who : Requester) (t : Fin 512) (v : Word) (s : State) : Res :=
  .next (s.writeGate who .HAL_SUB 0 (
    if !taskListed t.val then s
    else
      let keep := s.rdStaged .HAL_SUB t.val 0
      let v' := (if taskUnitPrimary t.val then putBits v 0 9 (getBits keep 0 9) else v) &&& Reg.HAL_SUB.info.rw
      let p := getBits v 0 8
      let q := getBits v 16 8
      if !taskUnitPrimary t.val && getBits v 8 1 = 1 && s.halNameRefused who p then s.refuseHal who p 1
      else if getBits v 24 1 = 1 && s.halNameRefused who q then s.refuseHal who q 1
      else s.stage (.reg .HAL_SUB t.val 0) v'))

/-- A write of HAL_PROD_BIND[p] (R390, R397). -/
def execHalProdBindWrite (who : Requester) (p : Fin 1024) (v : Word) (s : State) : Res :=
  .next (s.writeGate who .HAL_PROD_BIND 0 (
    let h := getBits v 0 8
    if 0x232 ≤ p.val then s
    else if getBits v 8 1 = 1 && s.halNameRefused who h then s.refuseHal who h 2
    else s.stage (.reg .HAL_PROD_BIND p.val 0) (v &&& Reg.HAL_PROD_BIND.info.rw)))

/-! ### Sequences -/

def State.hseq (s : State) (q : Nat) : HSeq := tblGet {} s.hal.seqs q

def State.setHseq (s : State) (q : Nat) (x : HSeq) : State :=
  { s with hal := { s.hal with seqs := tblSet {} s.hal.seqs q x } }

def State.seqRuns (s : State) (q : Nat) : Bool := natBit (s.rd .HAL_SEQ_RUN).toNat q

/-- Sequence `q` starts at its entry word with this base of hops (R394). An event already waiting in its wait task
stays there. -/
def State.startSeq (s : State) (q base : Nat) : State :=
  (s.setHseq q { pc := s.fld F.HAL_SEQ_CFG_ENTRY q, base := base, pend := (s.hseq q).pend }).wr .HAL_SEQ_RUN
    (putBits (s.rd .HAL_SEQ_RUN) q 1 1)

/-- Sequence `q` ends (R395). -/
def State.endSeq (s : State) (q : Nat) : State :=
  (s.setHseq q { pend := (s.hseq q).pend }).wr .HAL_SEQ_RUN (putBits (s.rd .HAL_SEQ_RUN) q 1 0)

/-- Sequence `q` ends with its bit of HAL_SEQ_ERR set (R396). -/
def State.seqErr (s : State) (q : Nat) : State :=
  (s.endSeq q).wr .HAL_SEQ_ERR (putBits (s.rd .HAL_SEQ_ERR) q 1 1)

/-- A write of HAL_SEQ_CMD (R394, R398): starts a sequence that does not run, for its owner. -/
def execHalSeqCmd (who : Requester) (v : Word) (s : State) : Res :=
  .next (s.writeGate who .HAL_SEQ_CMD 0 (
    let q := getBits v 0 5
    let owner := s.fld F.HAL_SEQ_CFG_OWNER q
    let owns := match owner with
      | 0 => who == .helm
      | 1 => who != .helm
      | 2 => who != .helm && decide (3 ≤ s.levelOf who)
      | _ => false
    if getBits v 31 1 = 1 && owns && !s.seqRuns q then s.startSeq q 0 else s))

/-- The word a sequencer goes to after the word before `next`, and its loop afterwards. -/
def loopNext (l : Option SeqLoop) (next : Nat) : Nat × Option SeqLoop :=
  match l with
  | none => (next, none)
  | some l =>
    if next = l.last then
      if 1 < l.left then (l.first, some { l with left := l.left - 1 }) else (next, none)
    else (next, some l)

/-- `x` moved on past the word it issued. -/
def HSeq.step (x : HSeq) : HSeq :=
  let n := loopNext x.loop (x.pc + 1)
  { x with pc := n.1, loop := n.2 }

/-- Whether sequence `q` can issue: it runs, and neither delays nor waits. -/
def State.seqReady (s : State) (q : Nat) : Bool := s.seqRuns q && (s.hseq q).phase == .issue

/-- Whether the turn of the round-robin is that of sequence `q`: no sequence between the last issuer and it can issue (R395). -/
def State.seqTurn (s : State) (q : Nat) : Bool :=
  (List.range ((q + 31 - s.hal.turn) % 32)).all (fun i => !s.seqReady ((s.hal.turn + 1 + i) % 32))

/-- Time passes up to the next issue slot of the sequencer, which `q` takes: one instruction per fabric clock (R395). -/
def State.seqSlot (s : State) (q : Nat) : State :=
  let t := max (4 * s.fine) s.hal.issueAt
  { s with fine := (t + 3) / 4, hal := { s.hal with turn := q, issueAt := t + 5 } }

/-- The instruction at the word of sequence `q`. -/
def State.seqWord (s : State) (q : Nat) : SeqOp := seqDecode (s.memRd (0x74000 + 4 * (s.hseq q).pc))

/-- The issue of the instruction `i` by sequence `q`: nothing where it does not run or waits, where it is another's turn, or where
its word spells another instruction; an error end where it fetches beyond word 2,047 (R395, R396). -/
def State.seqIssue (s : State) (q : Nat) (i : SeqOp) (k : State → State) : State :=
  if !s.seqReady q || !s.seqTurn q then s
  else if 2048 ≤ (s.hseq q).pc then (s.seqSlot q).seqErr q
  else if s.seqWord q = i then k (s.seqSlot q) else s

/-- END (R396). -/
def execHalSeqEnd (q : Fin 32) (s : State) : Res := .next (s.seqIssue q .done (fun s => s.endSeq q))

/-- PUB (R387, R396). -/
def execPub (q : Fin 32) (halyard code : BitVec 8) (s : State) : Res :=
  .next (s.seqIssue q (.pub halyard code) (fun s => (s.setHseq q (s.hseq q).step).enqueue halyard.toNat
    { code := code, hops := (s.hseq q).base + 1, cause := s.now48, prod := 0x200 + q.val }))

/-- DELAY (R396): 0 waits one fabric clock. -/
def execDelay (q : Fin 32) (us : BitVec 24) (s : State) : Res :=
  .next (s.seqIssue q (.delay us) (fun s =>
    s.setHseq q { (s.hseq q).step with phase := .delay, due := s.fine + atLeast1 (us.toNat * 1250) }))

/-- The end of a DELAY (R396). -/
def execDelayEnd (q : Fin 32) (s : State) : Res :=
  .next (if s.seqRuns q && (s.hseq q).phase == .delay then
      { s with fine := max s.fine (s.hseq q).due }.setHseq q { s.hseq q with phase := .issue }
    else s)

/-- WAIT (R396): a pending event is consumed at once; a timeout of 0 is none. -/
def execHalSeqWait (q : Fin 32) (us : BitVec 24) (s : State) : Res :=
  .next (s.seqIssue q (.wait us) (fun s =>
    match (s.hseq q).pend with
    | some e => s.setHseq q { (s.hseq q).step with base := e.hops, pend := none }
    | none => s.setHseq q { (s.hseq q).step with phase := .wait,
                                                       due := if us = 0 then 0 else s.fine + us.toNat * 1250 }))

/-- The timeout of a WAIT (R396): the sequence ends with its bit of HAL_SEQ_TIMEOUT set. -/
def execHalSeqWaitTimeout (q : Fin 32) (s : State) : Res :=
  .next (if s.seqRuns q && (s.hseq q).phase == .wait && (s.hseq q).due ≠ 0 then
      ({ s with fine := max s.fine (s.hseq q).due }.endSeq q).wr .HAL_SEQ_TIMEOUT (putBits (s.rd .HAL_SEQ_TIMEOUT) q 1 1)
    else s)

/-- GEN (R382, R396). -/
def execGen (q : Fin 32) (mask met : BitVec 16) (s : State) : Res :=
  .next (s.seqIssue q (.gen mask) (fun s => (s.setHseq q (s.hseq q).step).groups mask.toNat 0 met))

/-- GDIS (R382, R396). -/
def execGdis (q : Fin 32) (mask : BitVec 16) (s : State) : Res :=
  .next (s.seqIssue q (.gdis mask) (fun s => (s.setHseq q (s.hseq q).step).groups 0 mask.toNat 0))

/-- LOOP (R396): count 0 skips the body, and a LOOP inside a loop body ends the sequence with an error. -/
def execHalSeqLoop (q : Fin 32) (body : BitVec 10) (count : BitVec 16) (s : State) : Res :=
  .next (s.seqIssue q (.loop body count) (fun s =>
    let x := s.hseq q
    if x.loop.isSome then s.seqErr q
    else if count = 0 || body = 0 then s.setHseq q { x with pc := x.pc + 1 + body.toNat }
    else s.setHseq q { x with pc := x.pc + 1, loop := some ⟨x.pc + 1, x.pc + 1 + body.toNat, count.toNat⟩ }))

/-- JUMP (R396). -/
def execHalSeqJump (q : Fin 32) (word : BitVec 11) (s : State) : Res :=
  .next (s.seqIssue q (.jump word) (fun s => s.setHseq q { s.hseq q with pc := word.toNat }))

/-- A reserved op (R396). -/
def execHalSeqReserved (q : Fin 32) (s : State) : Res := .next (s.seqIssue q .reserved (fun s => s.seqErr q))

end Sys2Proof.Machine
end

