-- ==== Sys2Proof/Machine/Operands.lean ====
section
/-!
DEFINITION. Operand forms: the cyclic redundancy checks of the spec's blocks and packets, and instants as seconds,
nanoseconds and a fraction.
-/

namespace Sys2Proof.Machine

/-- The bits of `v`, highest of `n` first. -/
def bitsMsb (n v : Nat) : List Bool := (List.range n).map (fun i => natBit v (n - 1 - i))

/-- The bits of `v`, lowest first. -/
def bitsLsb (n v : Nat) : List Bool := (List.range n).map (natBit v)

/-- One bit entering a shift register of `w` bits at its top. -/
def crcBit (w poly : Nat) (reg : Nat) (b : Bool) : Nat :=
  let r := reg * 2 % 2 ^ w
  if natBit reg (w - 1) != b then r ^^^ poly else r

/-- A CRC over bits in the order given. -/
def crcBits (w poly init : Nat) (bs : List Bool) : Nat := bs.foldl (crcBit w poly) init

/-- The CRC-16 of R48. -/
def crc16 (bs : List Byte) : Nat := crcBits 16 0x1021 0xFFFF (bs.flatMap (fun b => bitsMsb 8 b.toNat))

/-- The CRC-32 of R99, reflected form. -/
def crc32 (bs : List Byte) : Nat :=
  let r := crcBits 32 0x04C11DB7 0xFFFFFFFF (bs.flatMap (fun b => bitsLsb 8 b.toNat))
  ((List.range 32).map (fun i => if natBit r (31 - i) then 2 ^ i else 0)).sum ^^^ 0xFFFFFFFF

/-- The CRC-4 of R278 over the 16 code bits, bit 0 first. -/
def crc4 (code : Nat) : Nat := crcBits 4 0x3 0xF (bitsLsb 16 code)

/-- The CRC12 of R318 over nibbles, each bit 0 first. -/
def crc12 (nibbles : List Nat) : Nat := crcBits 12 0x80F 0xFFF (nibbles.flatMap (bitsLsb 4))

/-- The code groups of the data nibbles 0 to 15 and of the delimiters J, K, in the 4B5B code that R318 names (PRESUMED, log entry
85). -/
def codeGroups : List (BitVec 5) := [0x1E, 0x09, 0x14, 0x15, 0x0A, 0x0B, 0x0E, 0x0F, 0x12, 0x13, 0x16, 0x17, 0x1A, 0x1B, 0x1C, 0x1D]
def delimiter : List (BitVec 5) := [0x18, 0x11]

/-! ### Instants (R463) -/

/-- The fine counts of a second (R463). -/
def finePerSec : Nat := 1250000000

/-- The seconds of an instant. -/
def secOf (f : Nat) : Nat := f / finePerSec

/-- The nanoseconds of an instant. -/
def nsOf (f : Nat) : Nat := f % finePerSec * 4 / 5

/-- The 16-bit fraction of an instant, rounded to nearest. -/
def fracOf (f : Nat) : Nat := (f % finePerSec * 4 % 5 * 65536 * 2 + 5) / 10

/-- Fine counts in `n` units of 10 ns, rounded down. -/
def fineOf10ns (n : Nat) : Nat := n * 25 / 2

/-- Fine counts in `n` µs. -/
def fineOfUs (n : Nat) : Nat := n * 1250

/-- The value a register holds as two's complement of 32 bits. -/
def State.sgn (s : State) (r : Reg) (i : Nat := 0) (j : Nat := 0) : Int := (s.rd r i j).toInt

end Sys2Proof.Machine
end

