-- ==== Sys2Proof/Machine/LightOps.lean ====
section
/-!
DEFINITION. Shared operations of the lighting unit: when a channel acts and what drives its gate (R351, R354, R357),
strobe causes (R352, R353), faults (R356), the start and end of tests (R359, R365), the run condition of the projector
and of the pattern sequencer (R361, R367).
-/

namespace Sys2Proof.Machine



def State.lm (s : State) (n : Nat) : Lum := tblGet {} s.lum n
def State.setLm (s : State) (n : Nat) (x : Lum) : State := { s with lum := tblSet {} s.lum n x }

/-- The knee of R354. -/
def lumKnee : Nat := 0x199A

/-- The modes in which lighting acts (R351, R367). -/
def State.lumMode (s : State) : Bool := s.mode == modeAcquire || s.mode == modeBuild || s.mode == modeService

/-- Whether channel `n` is powered (R349). -/
def State.lumOn (s : State) (n : Nat) : Bool := s.domOn (60 + n / 4) && s.domOn 63

def State.lumFaulted (s : State) (n : Nat) : Bool := getBits (s.rd .LUM_CH_FAULT n) 0 4 != 0

/-- MODE in force: 0b11 is treated as off (R371). -/
def State.lumChMode (s : State) (n : Nat) : Nat :=
  let m := s.fld F.LUM_CH_CFG_MODE n
  if m = 3 then 0 else m

/-- Whether a channel acts on its mode (R351). -/
def State.lumActs (s : State) (n : Nat) : Bool := s.lumMode && s.lumOn n && s.lumChMode n != 0

/-- Whether the string is to be lit: continuously, or by a strobe. -/
def State.lumLitTime (s : State) (n : Nat) : Bool :=
  s.lumActs n && (s.lumChMode n == 1 || (s.lm n).endAt.isSome)

/-- The LEVEL the channel carries: of the strobe in progress, or at once in continuous mode (R353). -/
def State.lumLevel (s : State) (n : Nat) : Nat :=
  if s.lumChMode n = 2 then (s.lm n).level else s.fld F.LUM_CH_LEVEL_LEVEL n

/-- The set current in UQ0.16 of I_FS (R354, R357, R359). -/
def State.lumSet (s : State) (n : Nat) : Nat :=
  if (s.lm n).vfAt.isSome then s.fld F.LUM_CH_LEVEL_VF_LEVEL n
  else if (s.lm n).diagAt.isSome then lumKnee
  else max lumKnee (s.lumLevel n)

/-- The gate rises now; `till` is the end of the on-time where it is known. -/
def State.gateRise (s : State) (n : Nat) (till : Option Nat) : State :=
  ((s.setLm n { s.lm n with gateAt := s.fine, gateEnd := till, judged := false }).setFld F.LUM_CH_STATUS_LIT 1 n).emit
    (match till with
      | some e => .gatePulse n s.fine (e - s.fine)
      | none => .gate n true)

/-- The gate falls now. -/
def State.gateFall (s : State) (n : Nat) : State :=
  ((s.setLm n { s.lm n with gateEnd := none, lowAt := s.fine }).setFld F.LUM_CH_STATUS_LIT 0 n).emit (.gate n false)

/-- The gate of channel `n` brought up to date: a fault holds it low (R356), a pulse under way runs to its end, and a
string lit at or above the knee, or a forward-voltage test, holds it on (R354, R359). -/
def State.lumGate (s : State) (n : Nat) : State :=
  let x := s.lm n
  let lit := s.flag F.LUM_CH_STATUS_LIT n
  let steady := s.lumOn n && !s.lumFaulted n && (x.vfAt.isSome || (s.lumLitTime n && decide (lumKnee ≤ s.lumLevel n)))
  let pulse := lit && (match x.gateEnd with
    | some e => decide (s.fine < e)
    | none => false)
  if s.lumFaulted n || !s.lumOn n then (if lit then s.gateFall n else s)
  else if pulse && (x.diagAt.isSome || s.lumLitTime n) then s
  else
    let expired := lit && x.gateEnd.isSome
    let s1 := if expired then
        (s.setLm n { s.lm n with gateEnd := none, lowAt := x.gateEnd.getD s.fine }).setFld F.LUM_CH_STATUS_LIT 0 n
      else s
    let lit1 := lit && !expired
    if steady && !lit1 then s1.gateRise n none
    else if !steady && lit1 then s1.gateFall n
    else s1

def State.gatesOf (s : State) : List Nat → State
  | [] => s
  | n :: rest => (s.lumGate n).gatesOf rest

/-- A fault or warning of channel `n` is published (R356, R359, R377). -/
def State.lumPublish (s : State) (n code : Nat) : State := s.publish (0x1C0 + n) code s.now48

/-- A fault of R356 latches, turns the gate low, is published and noticed (R539). -/
def State.lumFault (s : State) (n bit : Nat) : State :=
  if getBits (s.rd .LUM_CH_FAULT n) bit 1 = 1 then s
  else
    let s1 := s.wr .LUM_CH_FAULT (putBits (s.rd .LUM_CH_FAULT n) bit 1 1) n
    ((s1.lumGate n).lumPublish n bit).notice 7 n bit 0

/-- Whether two instants are less than `d` apart in the order given. -/
def within (a b d : Nat) : Bool := decide (a ≤ b) && decide (b < a + d)

/-- Whether a strobe of channel `n` is on at instant `t` (R353). -/
def State.strobeOn (s : State) (n t : Nat) : Bool :=
  let w := fineOf10ns (s.fld F.LUM_CH_STROBE_STROBE_W n)
  ((s.lm n).endAt.map (fun e => decide (t < e))).getD false || (s.lm n).strobes.any (fun u => decide (u ≤ t) && decide (t < u + w))

/-- A strobe cause of channel `n` at instant `t` (R352, R353): its exposure window; a strobe, or an overlap; and the end
of a diagnostic pulse that would reach within 0.5 µs of the window (R357). -/
def State.strobeCause (s : State) (n t : Nat) : State :=
  if !s.lumActs n || s.lumChMode n ≠ 2 then s
  else
    let x := s.lm n
    let w0 := t + fineOf10ns (s.fld F.LUM_CH_EXP_EXP_DLY n)
    let len := s.fld F.LUM_CH_EXP_EXP_LEN n
    let ws := (x.windows.filter (fun w => decide (s.fine < w.2 + 1250))) ++
      (if len = 0 then [] else [(w0, w0 + fineOf10ns len)])
    let abort := len != 0 && (match x.diagAt with
      | some d => decide (w0 < d + 2500 + 625)
      | none => false)
    let s1 := s.setLm n { x with windows := ws, diagAt := if abort then none else x.diagAt,
                                 gateEnd := if abort then none else x.gateEnd }
    let s2 := if abort then (s1.bump .LUM_CNT_DIAG_ABORT n).lumGate n else s1
    if s.strobeOn n t then s2.bump .LUM_CNT_OVERLAP n
    else if s.fld F.LUM_CH_STROBE_STROBE_W n = 0 then s2
    else s2.setLm n { s2.lm n with strobes := (s2.lm n).strobes ++ [t + fineOf10ns (s.fld F.LUM_CH_STROBE_STROBE_DLY n)] }

/-- A cause of one source: 0 port trigger, 1 halyard, 2 schedule (R352). -/
def State.strobeFrom (src idx t : Nat) : List Nat → State → State
  | [], s => s
  | n :: rest, s => State.strobeFrom src idx t rest
      (if s.fld F.LUM_CH_CFG_SYNC_SRC n = src && s.fld F.LUM_CH_CFG_SYNC_IDX n = idx then s.strobeCause n t else s)

/-- The trigger cause of port `p` (R352) and the firing of schedule `i` as strobe causes. -/
def State.strobePort (s : State) (p t : Nat) : State :=
  if p < 64 then State.strobeFrom 0 p t (List.range 8) s else s
def State.strobeSchedule (s : State) (i t : Nat) : State := State.strobeFrom 2 i t (List.range 8) s

/-- An event that strobe task `n` takes, on either input (R352, R378). -/
def State.strobeHalyard (s : State) (n t : Nat) : State :=
  if s.fld F.LUM_CH_CFG_SYNC_SRC n = 1 then s.strobeCause n t else s

/-! ### Forward-voltage test (R359) -/

def State.vfStart (s : State) (n : Nat) : State :=
  if (s.lm n).vfAt.isSome || !s.lumOn n then s
  else (s.setLm n { s.lm n with vfAt := some s.fine }).lumGate n

/-- The test of channel `n` ends without a result. -/
def State.vfDrop (s : State) (n : Nat) : State :=
  if (s.lm n).vfAt.isSome then (s.setLm n { s.lm n with vfAt := none }).lumGate n else s

/-- Each channel with VF_EN = 1 starts a test. -/
def State.vfAll : List Nat → State → State
  | [], s => s
  | n :: rest, s => State.vfAll rest (if s.flag F.LUM_CH_CFG_VF_EN n then s.vfStart n else s)

def State.vfDropAll : List Nat → State → State
  | [], s => s
  | n :: rest, s => State.vfDropAll rest (s.vfDrop n)

/-! ### The projector (R361 to R365) -/

/-- The LUM base of BAR0. -/
def lumBase : Nat := 0x00100000

def State.pRows (s : State) : Nat := s.fld F.LUM_PROJ_CFG_ROWS + 1
def State.pCols (s : State) : Nat := s.fld F.LUM_PROJ_CFG_COLS + 1
def State.pMux (s : State) : Nat := 16 + 4 * s.fld F.LUM_PROJ_CFG_MUX
def State.pBanks (s : State) : Nat := s.pRows / s.pMux
def State.pLane (s : State) : Nat := s.pBanks * s.pCols / 8

/-- Whether the configuration meets R361. -/
def State.projOk (s : State) : Bool :=
  decide (s.fld F.LUM_PROJ_CFG_MUX ≤ 4) && s.pRows % s.pMux == 0 && s.pCols % 8 == 0 && decide (s.pCols ≤ 96)
    && decide (s.pLane ≤ 128)

/-- Whether the port scans (R361, R369, R374). -/
def State.scanning (s : State) : Bool :=
  s.flag F.LUM_PROJ_CFG_ENABLE && s.projOk && s.lumMode && s.domOn 62 && s.domOn 63

/-- A buffer swap is requested (R363). -/
def State.swapReq (s : State) : State := s.setFld F.LUM_PROJ_STATUS_SWAP_PENDING 1

/-- The pixel test starts. -/
def State.pixStart (s : State) : State :=
  if s.flag F.LUM_PROJ_STATUS_TEST_RUN || s.flag F.LUM_PROJ_CFG_ENABLE || !s.domOn 62 then s
  else ({ s with proj := { s.proj with pix := 0, pixAt := s.fine } }.setFld F.LUM_PROJ_STATUS_TEST_RUN 1).emit (.pixel 0 0)

/-- The pixel test ends at once (R365). -/
def State.pixAbort (s : State) : State :=
  if s.flag F.LUM_PROJ_STATUS_TEST_RUN then
    (s.setFld F.LUM_PROJ_STATUS_TEST_RUN 0).setFld F.LUM_PROJ_STATUS_TEST_ABORT 1
  else s

/-! ### The pattern sequencer (R367) -/

/-- The sequencer stops. -/
def State.lseqStop (s : State) : State :=
  { s with proj := { s.proj with wait := .none, loop := none } }.setFld F.LUM_PROJ_STATUS_SEQ_RUN 0

/-- The word the sequencer is at. -/
def State.lseqAt (s : State) (pc : Nat) (loop : Option SeqLoop) (wait : LumWait) : State :=
  { s with proj := { s.proj with pc := pc, loop := loop, wait := wait } }.setFld F.LUM_PROJ_STATUS_WORD pc

/-- The lighting unit brought up to date after its registers, the mode or its domains have changed: gates, CFG_ERR, the
pixel test and the run condition of the sequencer, which starts at word 0 when the condition becomes true. -/
def State.lumUpdate (s : State) : State :=
  let s1 := s.gatesOf (List.range 8)
  let s2 := if s1.projOk then s1 else s1.setFld F.LUM_PROJ_STATUS_CFG_ERR 1
  let s3 := if s2.flag F.LUM_PROJ_CFG_ENABLE then s2.pixAbort else s2
  let s4 := if s3.scanning then s3 else { s3 with proj := { s3.proj with line := none, sync := false } }
  let run := s4.flag F.LUM_PROJ_CFG_SEQ_EN && s4.lumMode && s4.domOn 63
  if run && !s4.proj.armed then
    ({ s4 with proj := { s4.proj with armed := true } }.lseqAt 0 none .none).setFld F.LUM_PROJ_STATUS_SEQ_RUN 1
  else if !run && s4.proj.armed then { s4 with proj := { s4.proj with armed := false } }.lseqStop
  else s4

/-- Strobes in progress and to come end with the modes that allow them, and tests with IDLE (R351, R359, R365). -/
def State.lumDropStrobes : List Nat → State → State
  | [], s => s
  | n :: rest, s => State.lumDropStrobes rest
      (s.setLm n { s.lm n with strobes := [], endAt := none, windows := [], diagAt := none, gateEnd := none })

/-- What a change of mode does to lighting. `old` is the mode left: entering IDLE starts the tests of R359 and R365. -/
def State.lumModeChange (s : State) (old : Nat) : State :=
  let s1 := if old = modeIdle && s.mode ≠ modeIdle then (State.vfDropAll (List.range 8) s).pixAbort else s
  let s2 := if s1.lumMode then s1 else State.lumDropStrobes (List.range 8) s1
  let s3 := s2.lumUpdate
  if s3.mode = modeIdle && old ≠ modeIdle then
    let s4 := { s3 with proj := { s3.proj with vfLast := s3.fine } }
    let s5 := State.vfAll (List.range 8) s4
    if s5.flag F.LUM_PROJ_CFG_PIX_AUTO then s5.pixStart else s5
  else s3

end Sys2Proof.Machine
end

