-- ==== Sys2Proof/Machine/Light.lean ====
section
/-!
DEFINITION. The lighting unit: strobes, dimming, diagnosis and faults (R351 to R359), the matrix projector and its pixel
test (R361 to R366), and the pattern sequencer (R367, R368).
-/

namespace Sys2Proof.Machine

/-- A command on a channel: time passes at least to `due`, and the gate follows. -/
def State.onLum (s : State) (n dt due : Nat) (k : State → State) : State :=
  if !s.ready then s.advance dt else k ((s.passTo dt due).lumGate n)

/-- A strobe starts STROBE_DLY after its cause (R351, R353): LEVEL takes effect, carry starts at zero. -/
def execStrobeStart (n : Fin 8) (dt : Nat) (s : State) : Res :=
  .next (
    match (s.lm n.val).strobes with
    | [] => s.advance dt
    | t :: rest => s.onLum n.val dt t (fun s =>
      let x := s.lm n.val
      if !s.lumActs n.val || s.lumChMode n.val ≠ 2 then s.setLm n.val { x with strobes := rest }
      else
        let e := t + fineOf10ns (s.fld F.LUM_CH_STROBE_STROBE_W n.val)
        (s.setLm n.val { x with strobes := rest, endAt := some (max e (x.endAt.getD 0)), carry := 0,
                                level := s.fld F.LUM_CH_LEVEL_LEVEL n.val, dimAt := t }).lumGate n.val))

/-- A strobe ends STROBE_W after its start, cutting the last dimming period short (R351, R354). -/
def execStrobeEnd (n : Fin 8) (dt : Nat) (s : State) : Res :=
  .next (
    match (s.lm n.val).endAt with
    | none => s.advance dt
    | some e => s.onLum n.val dt e (fun s =>
      let x := s.lm n.val
      (s.setLm n.val { x with endAt := none, carry := 0,
                              gateEnd := if x.diagAt.isSome then x.gateEnd else none }).lumGate n.val))

/-- T_M of R354. -/
def State.dimPeriod (s : State) (n : Nat) : Nat :=
  let f := min 5000 (max 100 (s.fld F.LUM_CH_CFG_DIM_FREQ n))
  (1250000 * 2 + f) / (2 * f)

/-- Whether a channel dims its string: it is lit below the knee (R354). -/
def State.dims (s : State) (n : Nat) : Bool :=
  s.lumLitTime n && !s.lumFaulted n && s.lumLevel n != 0 && decide (s.lumLevel n < lumKnee)

/-- The start of the next dimming period: where the one before ended, or now where none runs (R275, R354). -/
def State.dimDue (s : State) (n : Nat) : Nat :=
  if s.dims n && decide (s.fine ≤ (s.lm n).dimAt + s.dimPeriod n) then (s.lm n).dimAt else s.fine

/-- A dimming period starts below the knee (R275, R354). A pulse that would begin during the diagnostic pulse is not
driven (R357), and the end of the strobe cuts it short. -/
def execDimPulse (n : Fin 8) (dt : Nat) (s : State) : Res :=
  .next (s.onLum n.val dt (s.dimDue n.val) (fun s =>
    let x := s.lm n.val
    let lvl := s.lumLevel n.val
    if !s.dims n.val then s
    else
      let tm := s.dimPeriod n.val
      let want : Int := (lvl * tm : Nat) + x.carry
      let on : Nat := if ((50 * lumKnee : Nat) : Int) ≤ want then min tm ((want * 2 + lumKnee) / (2 * lumKnee)).toNat else 0
      let s1 := s.setLm n.val { x with carry := want - (on * lumKnee : Nat), dimAt := s.fine + tm }
      let e := match x.endAt with
        | some e => min e (s.fine + on)
        | none => s.fine + on
      if x.diagAt.isSome || e ≤ s.fine then s1 else s1.gateRise n.val (some e)))

/-- A string voltage in units of 10 mV: the voltage at VSTR_n in µV times VSTR_SCALE, rounded to nearest. -/
def State.vString (s : State) (n uv : Nat) : Nat :=
  (uv * (s.rd .LUM_CH_SCALE n).toNat + 65536 * 5000) / (65536 * 10000)

/-- A diagnostic window ends 2.0 µs after a gate rise (R355): `im` is the mean current in UQ0.16 of I_FS, `uv` the mean
voltage at VSTR_n in µV, `atLimit` says that the gate is at its 5.0 V limit. A fault latches (R356); any verdict
replaces UNDIAGNOSED (R358). -/
def execDiagWindow (n : Fin 8) (dt : Nat) (im : BitVec 17) (uv : BitVec 22) (atLimit : Bool) (s : State) : Res :=
  .next (
    let x := s.lm n.val
    let e := x.gateAt + 2500
    let long := s.flag F.LUM_CH_STATUS_LIT n.val && !x.judged
      && (match x.gateEnd with
        | some t => decide (e ≤ t)
        | none => true)
      && (x.diagAt.isSome || s.lumChMode n.val != 2 || (match x.endAt with
        | some t => decide (e ≤ t)
        | none => true))
    if !s.ready || !long then s.advance dt
    else
      let s := s.passTo dt e
      let op := decide (2 * im.toNat < s.lumSet n.val) && atLimit
      let sh := decide (s.vString n.val uv.toNat < s.fld F.LUM_CH_DIAG_VF_SHORT n.val)
      let s1 := s.setLm n.val { x with judged := true, due := none, undiag := false, diagLast := s.fine, diagAt := none }
      let s2 := s1.setFld F.LUM_CH_STATUS_DIAG (if op || sh then 3 else 1) n.val
      let s3 := if op then s2.lumFault n.val 0 else s2
      let s4 := if sh then s3.lumFault n.val 1 else s3
      s4.lumGate n.val)

/-- The earliest instant at which a fault of R356 can be judged: 200 ns after a gate rise, 10 µs after a fall. -/
def State.faultDue (s : State) (n : Nat) : Nat :=
  if s.flag F.LUM_CH_STATUS_LIT n then (s.lm n).gateAt + 250 else (s.lm n).lowAt + 12500

/-- A current that has lasted for the time of R356 is judged: while the gate is on above 125 % of the set current or 110 %
of I_FS, while it is low above 2 % of I_FS. `current` is in UQ2.16 of I_FS. -/
def execLightFault (n : Fin 8) (dt : Nat) (current : BitVec 18) (s : State) : Res :=
  .next (s.onLum n.val dt (s.faultDue n.val) (fun s =>
    if s.mode = modeOff || s.mode = modeLoad || !s.lumOn n.val then s
    else if s.flag F.LUM_CH_STATUS_LIT n.val then
      if s.lumSet n.val * 5 < current.toNat * 4 || 65536 * 11 < current.toNat * 10 then s.lumFault n.val 2 else s
    else if 65536 * 2 < current.toNat * 100 then s.lumFault n.val 3
    else s))

/-- A W1C write of LUM_CH_FAULT (R356): a bit whose cause persists stays. -/
def execLightFaultClear (who : Requester) (n : Fin 8) (bits persist : BitVec 4) (s : State) : Res :=
  .next (s.writeGate who .LUM_CH_FAULT n.val (
    (s.wr .LUM_CH_FAULT ((s.rd .LUM_CH_FAULT n.val) &&& ~~~((bits &&& ~~~persist).setWidth 32)) n.val).lumGate n.val))

/-- DIAG_PERIOD has passed without a diagnostic window (R357). -/
def execVerdictDue (n : Fin 8) (dt : Nat) (s : State) : Res :=
  .next (
    let x := s.lm n.val
    let t := x.diagLast + atLeast1 (s.fld F.LUM_CH_DIAG_DIAG_PERIOD n.val) * 1250000
    if !s.ready || !s.lumActs n.val || x.due.isSome then s.advance dt
    else
      let s := s.passTo dt t
      s.setLm n.val { x with due := some s.fine })

/-- The start of a diagnostic pulse in the gap after an exposure window (R357): 0.5 µs after the end of a window that no
known window follows within 3.0 µs. The pulse starts no later than the present. -/
def gapStart (now : Nat) (ws : List (Nat × Nat)) : Option Nat :=
  let good (w : Nat × Nat) : Bool := decide (now ≤ w.2 + 625) &&
    ws.all (fun v => !(decide (v.1 < w.2 + 3750) && decide (w.2 < v.2)))
  match (ws.filter good).map (fun w => w.2 + 625) with
  | [] => none
  | t :: rest => some (rest.foldl min t)

/-- A verdict is due and a gap is found: a pulse of 2.0 µs at the knee current is driven (R357). -/
def execDiagPulse (n : Fin 8) (dt : Nat) (s : State) : Res :=
  .next (
    let x := s.lm n.val
    let free := s.lumChMode n.val == 1 || s.fld F.LUM_CH_EXP_EXP_LEN n.val == 0
    let start := if free then some (s.fine + dt) else gapStart (s.fine + dt) x.windows
    match start with
    | none => s.advance dt
    | some t =>
      if !s.ready || !s.lumActs n.val || s.lumFaulted n.val || x.due.isNone || x.diagAt.isSome then s.advance dt
      else
        let s := s.passTo dt t
        (s.setLm n.val { x with diagAt := some s.fine }).gateRise n.val (some (s.fine + 2500)))

/-- A verdict has been due for 1 s (R358). -/
def execUndiagnosed (n : Fin 8) (dt : Nat) (s : State) : Res :=
  .next (
    let x := s.lm n.val
    match x.due with
    | none => s.advance dt
    | some t =>
      if x.undiag || !s.ready then s.advance dt
      else
        let s := s.passTo dt (t + finePerSec)
        ((s.setLm n.val { x with undiag := true }).setFld F.LUM_CH_STATUS_DIAG 2 n.val).bump .LUM_CNT_UNDIAG n.val)

/-- A VF_TEST command (R359). -/
def execVfTest (who : Requester) (n : Fin 8) (s : State) : Res :=
  .next (s.writeGate who .LUM_CH_CMD n.val (
    if s.mode = modeOff || s.mode = modeLoad then s
    else if s.lumChMode n.val ≠ 0 then s.setFld F.LUM_CH_STATUS_CMD_REFUSED 1 n.val
    else s.vfStart n.val))

/-- VF_PERIOD passes in IDLE (R359). -/
def execVfPeriod (dt : Nat) (s : State) : Res :=
  .next (
    if !s.ready || s.mode ≠ modeIdle then s.advance dt
    else
      let s := s.passTo dt (s.proj.vfLast + atLeast1 (s.rd .LUM_VF_PERIOD).toNat * finePerSec)
      State.vfAll (List.range 8) { s with proj := { s.proj with vfLast := s.fine } })

/-- A forward-voltage test ends after 1.0 ms (R359): `uv` is the average at VSTR_n of its last 500 µs, in µV. What VF_LAST stores of a
value beyond its 16 bits is open (log entry 86). -/
def execVfTestEnd (n : Fin 8) (dt : Nat) (uv : BitVec 22) (s : State) : Res :=
  .next (
    match (s.lm n.val).vfAt with
    | none => s.advance dt
    | some t =>
      let s := s.passTo dt (t + 1250000)
      let v := s.vString n.val uv.toNat
      let f := if v < 0x10000 then (BitVec.ofNat 16 v, s) else s.freeBits 16
      let s1 := ((f.2.setLm n.val { f.2.lm n.val with vfAt := none }).setFld F.LUM_CH_VF_VF_LAST f.1.toNat n.val).lumGate n.val
      if v < s1.fld F.LUM_CH_VF_LIM_VF_MIN n.val || s1.fld F.LUM_CH_VF_LIM_VF_MAX n.val < v then
        (s1.setFld F.LUM_CH_STATUS_VF_WARN 1 n.val).lumPublish n.val 4
      else s1)

/-! ### The projector -/

/-- A SWAP command (R363). -/
def execProjSwap (who : Requester) (s : State) : Res := .next (s.writeGate who .LUM_PROJ_CMD 0 s.swapReq)

/-- A refresh frame starts and a pending swap takes effect (R363, R364). A sequencer that waits for it goes on. -/
def State.frameStart (s : State) : State :=
  let s1 := { s with proj := { s.proj with line := some 0, sync := false, lineAt := s.fine } }
  if s1.flag F.LUM_PROJ_STATUS_SWAP_PENDING then
    let s2 := (s1.setFld F.LUM_PROJ_STATUS_SWAP_PENDING 0).setFld F.LUM_PROJ_STATUS_FRONT
      (1 - s1.fld F.LUM_PROJ_STATUS_FRONT)
    if s2.proj.wait = .swap then { s2 with proj := { s2.proj with wait := .none } } else s2
  else s1

/-- The start of a refresh frame: as the previous one ends, or with SYNC_EN = 1 at a latched edge (R364). -/
def execRefreshFrameStart (dt : Nat) (s : State) : Res :=
  .next (
    if !s.scanning || s.proj.line.isSome || (s.flag F.LUM_PROJ_CFG_SYNC_EN && !s.proj.sync) then s.advance dt
    else (s.passTo dt s.proj.lineAt).frameStart)

/-- Byte `o` of the lighting unit's memories. -/
def State.lumByte (s : State) (o : Nat) : Nat :=
  getBits (s.memRd (lumBase + o / 4 * 4)) (8 * (o % 4)) 8

/-- Bit of pixel (r, c) in the defect map (R370). -/
def State.defect (s : State) (r c : Nat) : Bool := natBit (s.lumByte (0x18000 + (96 * r + c) / 8)) ((96 * r + c) % 8)

/-- Pixel (r, c) of the front buffer. -/
def State.fbPixel (s : State) (r c : Nat) : Nat :=
  s.lumByte ((if s.flag F.LUM_PROJ_STATUS_FRONT then 0x14000 else 0x10000) + 96 * r + c)

/-- The 4-neighbours of a pixel inside the matrix. -/
def State.neighbours (s : State) (r c : Nat) : List (Nat × Nat) :=
  (if 0 < r then [(r - 1, c)] else []) ++ (if r + 1 < s.pRows then [(r + 1, c)] else []) ++
    (if 0 < c then [(r, c - 1)] else []) ++ (if c + 1 < s.pCols then [(r, c + 1)] else [])

/-- The value shown at a pixel (R366). -/
def State.shown (s : State) (r c : Nat) : Nat :=
  if s.defect r c then 0
  else
    let share (q : Nat × Nat) : Nat :=
      if s.defect q.1 q.2 then
        s.fbPixel q.1 q.2 / max 1 ((s.neighbours q.1 q.2).filter (fun p => !s.defect p.1 p.2)).length
      else 0
    min 255 (s.fbPixel r c + ((s.neighbours r c).map share).sum)

/-- The value of bit index `i` of scan line `l` (R361). -/
def State.lineValue (s : State) (l i : Nat) : Nat := s.shown (l + i / s.pCols * s.pMux) (i % s.pCols)

/-- Fine counts a column bit takes (R374): reserved codes are treated as 25 MHz. -/
def State.colClock (s : State) : Nat :=
  match s.fld F.LUM_PROJ_CFG_CLK with
  | 0 => 200
  | 1 => 100
  | 3 => 25
  | _ => 50

/-- How long a scan line and the blanking after it last (R362). -/
def State.lineTime (s : State) : Nat :=
  let lsb := atLeast1 (s.fld F.LUM_PROJ_TIMING_T_LSB)
  let shift := s.pLane * s.colClock
  ((List.range 8).map (fun k => max (2 ^ k * lsb) shift)).sum + 275 + fineOf10ns (s.fld F.LUM_PROJ_TIMING_T_PRE)

/-- A scan line is shown in 8 planes, 7 first, and the port blanks after it (R361, R362, R366). -/
def execScanLine (dt : Nat) (s : State) : Res :=
  .next (
    match s.proj.line with
    | none => s.advance dt
    | some l =>
      if !s.scanning then s.advance dt
      else
        let s := s.passTo dt s.proj.lineAt
        let w := s.pLane
        let vals := (List.range (8 * w)).map (s.lineValue l)
        let lane (k p : Nat) : List Bool := (List.range w).reverse.map (fun j => natBit (vals.getD (k * w + j) 0) p)
        let planes := (List.range 8).reverse.map (fun p => (List.range 8).map (fun k => lane k p))
        let lsb := atLeast1 (s.fld F.LUM_PROJ_TIMING_T_LSB)
        let oe := (List.range 8).reverse.map (fun p => 2 ^ p * lsb)
        let timing := Out.scanTiming s.fine oe (oe.map (fun t => max t (w * s.colClock))) (fineOf10ns (s.fld F.LUM_PROJ_TIMING_T_PRE))
        { s with proj := { s.proj with lineAt := s.fine + s.lineTime,
                                       line := if l + 1 < s.pMux then some (l + 1) else none } }.emit (.scanLine l planes)
          |>.emit timing)

/-- An edge of PROJ_SYNC (R364). -/
def execProjSync (dt : Nat) (rising : Bool) (s : State) : Res :=
  .next (
    let s := s.advance dt
    if !s.scanning || !s.flag F.LUM_PROJ_CFG_SYNC_EN || rising == s.flag F.LUM_PROJ_CFG_SYNC_POL then s
    else if s.proj.line.isNone && decide (s.proj.lineAt ≤ s.fine) && !s.proj.sync then s.frameStart
    else if s.proj.sync then s.bump .LUM_CNT_SYNC_OVR
    else { s with proj := { s.proj with sync := true } })

/-- A word written to a frame buffer (R363, R370). -/
def execFrameBufferWrite (who : Requester) (fb : Bool) (word : Fin 3072) (v : BitVec 32) (s : State) : Res :=
  .next (s.writeGate who .LUM_PROJ_CFG 0 (
    if fb == s.flag F.LUM_PROJ_STATUS_FRONT then s.bump .LUM_CNT_FRONT_WRITE
    else s.memWr (lumBase + (if fb then 0x14000 else 0x10000) + 4 * word.val) v))

/-- A word written to the defect map (R366, R370). -/
def execDefectMapWrite (who : Requester) (word : Fin 384) (v : BitVec 32) (s : State) : Res :=
  .next (s.writeGate who .LUM_PROJ_CFG 0 (s.memWr (lumBase + 0x18000 + 4 * word.val) v))

/-- A PIX_TEST command (R365). -/
def execPixTest (who : Requester) (s : State) : Res :=
  .next (s.writeGate who .LUM_PROJ_CMD 0 (if s.mode = modeOff || s.mode = modeLoad then s else s.pixStart))

/-- A pixel has been driven for 20 µs and is judged (R365): `current` in units of 10 µA, `volt` in units of 10 mV. -/
def execPixelJudge (dt : Nat) (current volt : Nat) (s : State) : Res :=
  .next (
    if !s.flag F.LUM_PROJ_STATUS_TEST_RUN then s.advance dt
    else
      let s := s.passTo dt (s.proj.pixAt + 25000)
      let k := s.proj.pix
      let i := 96 * (k / s.pCols) + k % s.pCols
      let op := decide (current < s.fld F.LUM_PROJ_TEST_PIX_I_MIN)
      let sh := decide (volt < s.fld F.LUM_PROJ_TEST_PIX_VF_MIN)
      let a := lumBase + 0x18000 + i / 32 * 4
      let s1 := if op || sh then s.memWr a (putBits (s.memRd a) (i % 32) 1 1) else s
      let s2 := if op then s1.bump .LUM_CNT_PIX_OPEN else s1
      let s3 := if sh then s2.bump .LUM_CNT_PIX_SHORT else s2
      let s4 := { s3 with proj := { s3.proj with pix := k + 1, pixAt := s3.fine } }
      if s4.pRows * s4.pCols ≤ k + 1 then s4.setFld F.LUM_PROJ_STATUS_TEST_RUN 0
      else s4.emit (.pixel ((k + 1) / s4.pCols) ((k + 1) % s4.pCols)))

/-! ### The pattern sequencer -/

/-- A halt with SEQ_ERR (R368). -/
def State.lseqErr (s : State) : State := s.lseqStop.setFld F.LUM_PROJ_STATUS_SEQ_ERR 1

/-- The instruction at the sequencer's word. -/
def State.lseqWord (s : State) : LumOp := lumDecode (s.memRd (lumBase + 0x60000 + 4 * s.proj.pc))

/-- The issue of the instruction `i`, where the word the sequencer is at spells it; one fetched past word 1,023 halts the sequencer
(R368). -/
def State.lseqIssue (s : State) (i : LumOp) (k : State) : State :=
  if !s.flag F.LUM_PROJ_STATUS_SEQ_RUN || s.proj.wait != .none then s
  else if 1024 ≤ s.proj.pc then s.lseqErr
  else if s.lseqWord = i then k else s

/-- On to the next word, waiting for `w`. -/
def State.lseqNext (s : State) (w : LumWait) : State :=
  let n := loopNext s.proj.loop (s.proj.pc + 1)
  s.lseqAt n.1 n.2 w

/-- END (R368). -/
def execLumSeqEnd (s : State) : Res := .next (s.lseqIssue .done s.lseqStop)

/-- LEVEL (R353, R368): in force at once, not staged. A staged host write that reaches the channel in the same clock wins. -/
def execLumSeqLevel (n : Fin 8) (level : BitVec 16) (host : Bool) (s : State) : Res :=
  .next (s.lseqIssue (.level n level)
    ((if host then s else (s.setFld F.LUM_CH_LEVEL_LEVEL level.toNat n.val).lumGate n.val).lseqNext .none))

/-- A strobe cause to each channel of a list that the mask names. -/
def State.strobeMask (mask : Nat) : List Nat → State → State
  | [], s => s
  | n :: rest, s => State.strobeMask mask rest (if natBit mask n then s.strobeCause n s.fine else s)

/-- STROBE (R352, R368). -/
def execLumSeqStrobe (mask : BitVec 8) (s : State) : Res :=
  .next (s.lseqIssue (.strobe mask) ((State.strobeMask mask.toNat (List.range 8) s).lseqNext .none))

/-- LOADPAT starts its copy (R368). -/
def execLoadpat (slot : Fin 16) (s : State) : Res := .next (s.lseqIssue (.loadpat slot) (s.lseqNext (.copy slot.val s.fine)))

/-- Words of a pattern slot copied into a buffer. -/
def State.copyPat (src dst : Nat) : List Nat → State → State
  | [], s => s
  | i :: rest, s => State.copyPat src dst rest (s.memWr (dst + 4 * i) (s.memRd (src + 4 * i)))

/-- The copy of LOADPAT completes after 12.3 µs, and after a swap that is pending (R368). -/
def execLoadpatDone (dt : Nat) (s : State) : Res :=
  .next (
    match s.proj.wait with
    | .copy slot t =>
      if s.flag F.LUM_PROJ_STATUS_SWAP_PENDING then s.advance dt
      else
        let s := s.passTo dt (t + 15375)
        let dst := lumBase + (if s.flag F.LUM_PROJ_STATUS_FRONT then 0x10000 else 0x14000)
        let s1 := State.copyPat (lumBase + 0x20000 + 0x4000 * slot) dst (List.range 3072) s
        { s1 with proj := { s1.proj with wait := .none } }
    | _ => s.advance dt)

/-- SWAP (R363, R368). -/
def execLumSeqSwap (wait : Bool) (s : State) : Res :=
  .next (s.lseqIssue (.swap wait) (s.swapReq.lseqNext (if wait then .swap else .none)))

/-- An event arrives at sequencer wait task `k` (R368, R378): it ends the wait, or waits itself. -/
def State.lseqEvent (s : State) (k : Nat) (e : HEv) : State :=
  if s.proj.wait = .hal k then { s with proj := { s.proj with wait := .none } }
  else { s with proj := { s.proj with pend := tblSet none s.proj.pend k (some e) } }

/-- WAITHAL (R368): a pending event is consumed at once. -/
def execWaithal (task : Fin 4) (s : State) : Res :=
  .next (s.lseqIssue (.waithal task) (
    match tblGet none s.proj.pend task.val with
    | some _ => { s with proj := { s.proj with pend := tblSet none s.proj.pend task.val none } }.lseqNext .none
    | none => s.lseqNext (.hal task.val)))

/-- WAITUS (R368). -/
def execWaitus (us : BitVec 24) (s : State) : Res :=
  .next (s.lseqIssue (.waitus us) (s.lseqNext (.until (s.fine + fineOfUs us.toNat))))

/-- The end of a WAITUS. -/
def execWaitusEnd (dt : Nat) (s : State) : Res :=
  .next (
    match s.proj.wait with
    | .until t => { s.passTo dt t with proj := { s.proj with wait := .none } }
    | _ => s.advance dt)

/-- EVENT (R368, R377). -/
def execLumSeqEvent (code : BitVec 8) (s : State) : Res :=
  .next (s.lseqIssue (.event code) ((s.publish 0x1C8 code.toNat s.now48).lseqNext .none))

/-- LOOP (R368): count 0 skips the body; a LOOP inside a loop body halts. -/
def execLumSeqLoop (body : BitVec 10) (count : BitVec 16) (s : State) : Res :=
  .next (s.lseqIssue (.loop body count) (
    let pc := s.proj.pc
    if s.proj.loop.isSome then s.lseqErr
    else if count = 0 || body = 0 then s.lseqAt (pc + 1 + body.toNat) none .none
    else s.lseqAt (pc + 1) (some ⟨pc + 1, pc + 1 + body.toNat, count.toNat⟩) .none))

/-- JUMP (R368). -/
def execLumSeqJump (word : Fin 1024) (s : State) : Res :=
  .next (s.lseqIssue (.jump word) (s.lseqAt word.val s.proj.loop .none))

/-- A reserved op (R368). -/
def execLumSeqReserved (s : State) : Res := .next (s.lseqIssue .reserved s.lseqErr)

end Sys2Proof.Machine
end

