-- ==== Sys2Proof/Machine/RealMath.lean ====
section
/-!
DEFINITION. Real functions the spec names without a precision, computed in fixed point with 64 fraction bits: sine and
cosine of turns, logarithm and exponential (log entry 11).
-/

namespace Sys2Proof.Machine

/-- 1.0 in 2^-64. -/
def fxOne : Int := 18446744073709551616

/-- pi in 2^-64. -/
def fxPi : Int := 57952155664616982739

/-- The natural logarithm of 2 in 2^-64. -/
def fxLn2 : Int := 12786308645202655660

/-- `a / b` rounded to nearest, halves up; `b` positive. -/
def divRound (a : Int) (b : Nat) : Int := (2 * a + b) / (2 * b)

/-- A product of two numbers in 2^-64. -/
def fxMul (a b : Int) : Int := a * b / fxOne

/-- The sum of the terms t, -t x²/(k(k+1)), ... of a sine or cosine series. -/
def trigSeries (x2 t : Int) (k : Nat) : Nat → Int
  | 0 => t
  | n + 1 => t + trigSeries x2 (-(fxMul t x2) / (k * (k + 1) : Nat)) (k + 2) n

/-- Sine and cosine, in 2^-64, of an angle of `phase` 2^-64 of a turn. -/
def sinTurn (phase : Int) : Int :=
  let u := phase % fxOne
  let q := u / (fxOne / 4)
  let a := fxMul (2 * fxPi) (u % (fxOne / 4))
  let x2 := fxMul a a
  let sn := trigSeries x2 a 2 14
  let cs := trigSeries x2 fxOne 1 14
  if q = 0 then sn else if q = 1 then cs else if q = 2 then -sn else -cs

def cosTurn (phase : Int) : Int := sinTurn (phase + fxOne / 4)

/-- The number of halvings that bring `m` below 2.0, and the result in 2^-64, for `m` from 1.0 up. -/
def fxNormal (m : Int) : Nat → Nat × Int
  | 0 => (0, m)
  | n + 1 => if m < 2 * fxOne then (0, m) else
    let r := fxNormal (m / 2) n
    (r.1 + 1, r.2)

/-- The terms of 2 atanh(y): t/k + t y²/(k + 2) + ... -/
def atanhSeries (y2 t : Int) (k : Nat) : Nat → Int
  | 0 => t / (k : Int)
  | n + 1 => t / (k : Int) + atanhSeries y2 (fxMul t y2) (k + 2) n

/-- The natural logarithm of `num / den`, in 2^-64, for positive numbers. -/
def lnRatio (num den : Nat) : Int :=
  let pos (a b : Nat) : Int :=
    let r := fxNormal ((a : Int) * fxOne / (b : Int)) 64
    let y := (r.2 - fxOne) * fxOne / (r.2 + fxOne)
    (r.1 : Int) * fxLn2 + 2 * atanhSeries (fxMul y y) y 1 24
  if den ≤ num then pos num den else -(pos den num)

/-- The terms t + t r/k + ... of an exponential. -/
def expSeries (r t : Int) (k : Nat) : Nat → Int
  | 0 => t
  | n + 1 => t + expSeries r (fxMul t r / (k : Int)) (k + 1) n

/-- The exponential, in 2^-64, of a number in 2^-64. -/
def fxExp (x : Int) : Int :=
  let n := x / fxLn2
  let m := expSeries (x % fxLn2) fxOne 1 24
  if 0 ≤ n then m * 2 ^ n.toNat else m / 2 ^ (-n).toNat

end Sys2Proof.Machine
end

