-- ==== Sys2Proof/Machine/Motion.lean ====
section
/-!
DEFINITION. Commanded motion: points, tangents and speeds on planned moves, their durations, and the path of a chain
(R306, R314, R335, R336). Lengths are in nm, speeds in µm/s, accelerations in 100 m/s², instants in fine counts; every
result is rounded to nearest (log entry 11).
-/

namespace Sys2Proof.Machine

/-- The length in nm of a vector in nm, rounded down. -/
def hypot (x y : Int) : Nat := Nat.sqrt (x * x + y * y).natAbs

/-- A vector turned by `turns` 2^-64 of a turn. -/
def rotate (x y : Int) (turns : Int) : Int × Int :=
  let c := cosTurn turns
  let n := sinTurn turns
  (divRound (x * c - y * n) fxOne.natAbs, divRound (x * n + y * c) fxOne.natAbs)

/-- An angle in 10^-6 degree as 2^-64 of a turn. -/
def turnsOf (microDeg : Int) : Int := microDeg * fxOne / 360000000

/-- The radius of an arc that starts at (x, y). -/
def ArcGeo.radius (a : ArcGeo) (x y : Int) : Nat := hypot (x - a.cx) (y - a.cy)

/-- The length of an arc that starts at (x, y): radius times |SWEEP| in radians. -/
def ArcGeo.length (a : ArcGeo) (x y : Int) : Nat :=
  (divRound ((a.radius x y : Int) * a.sweep.natAbs * fxPi) (180000000 * fxOne.natAbs)).toNat

/-- The end of an arc that starts at (x, y). -/
def ArcGeo.endPoint (a : ArcGeo) (x y : Int) : Int × Int :=
  let r := rotate (x - a.cx) (y - a.cy) (turnsOf a.sweep)
  (a.cx + r.1, a.cy + r.2)

/-- The point of a move at `d` nm from its start. -/
def Seg.point (g : Seg) (d : Nat) : Int × Int × Int :=
  if g.len = 0 then (g.x1, g.y1, g.z1)
  else
    let d := min d g.len
    let z := g.z0 + divRound ((g.z1 - g.z0) * d) g.len
    match g.arc with
    | none => (g.x0 + divRound ((g.x1 - g.x0) * d) g.len, g.y0 + divRound ((g.y1 - g.y0) * d) g.len, z)
    | some a =>
      let r := rotate (g.x0 - a.cx) (g.y0 - a.cy) (turnsOf a.sweep * d / g.len)
      (a.cx + r.1, a.cy + r.2, z)

/-- The unit tangent of a move at `d` nm from its start, in 2^-30. -/
def Seg.tangent (g : Seg) (d : Nat) : Int × Int :=
  match g.arc with
  | none =>
    if g.len = 0 then (0, 0)
    else (divRound ((g.x1 - g.x0) * 2 ^ 30) g.len, divRound ((g.y1 - g.y0) * 2 ^ 30) g.len)
  | some a =>
    let rad := a.radius g.x0 g.y0
    if g.len = 0 || rad = 0 then (0, 0)
    else
      let r := rotate (g.x0 - a.cx) (g.y0 - a.cy) (turnsOf a.sweep * (min d g.len : Nat) / g.len)
      let sg : Int := if a.sweep < 0 then -1 else 1
      (sg * divRound (-r.2 * 2 ^ 30) rad, sg * divRound (r.1 * 2 ^ 30) rad)

/-- Fine counts in which a speed covers a length. -/
def timeAt (v len : Nat) : Nat := (len * 1250000 + v / 2) / max v 1

/-- The length a speed covers in fine counts. -/
def lenAt (v e : Nat) : Nat := (v * e + 625000) / 1250000

/-- Fine counts from rest to a speed. -/
def accTime (v acc : Nat) : Nat := v * 25 / (2 * max acc 1)

/-- The length from rest to a speed: v² ÷ (2 × A). -/
def accLen (v acc : Nat) : Nat := v * v / (200000 * max acc 1)

/-- The length covered from rest in fine counts. -/
def lenAcc (acc e : Nat) : Nat := 32 * acc * e * e / 1000000000

/-- The duration of a jump (R314): trapezoidal, or triangular when the top speed is not reached. -/
def jumpTime (v acc len : Nat) : Nat :=
  if 2 * accLen v acc ≤ len then 2 * accTime v acc + timeAt v (len - 2 * accLen v acc)
  else Nat.sqrt (len * 1000000000 / max acc 1) / 4

/-- The length a jump has covered after fine counts. -/
def jumpLen (v acc len e : Nat) : Nat :=
  let t := jumpTime v acc len
  let ta := min (accTime v acc) (t / 2)
  if e ≤ ta then min len (lenAcc acc e)
  else if t ≤ e then len
  else if t - ta ≤ e then len - lenAcc acc (t - e)
  else lenAcc acc ta + lenAt v (e - ta)

/-- The speed of a jump after fine counts. -/
def jumpSpeed (v acc len e : Nat) : Nat :=
  let t := jumpTime v acc len
  let ta := min (accTime v acc) (t / 2)
  if t ≤ e then 0 else min v ((min e (min ta (t - e))) * 2 * acc / 25)

/-- A mark's speed, with DERATE in UQ0.16 where it applies. -/
def derated (v : Nat) (d : Option Nat) : Nat :=
  match d with
  | none => v
  | some k => max 1 (v * k / 65536)

/-- The speed a move runs at: marks are derated, jumps are not (R338). -/
def Seg.speedOf (g : Seg) (d : Option Nat) : Nat := if g.acc = 0 then derated g.v d else g.v

/-- The duration of a move without its settling. -/
def Seg.time (g : Seg) (d : Option Nat) : Nat :=
  if g.len = 0 then 0
  else if g.acc = 0 then timeAt (g.speedOf d) g.len else jumpTime g.v g.acc g.len

/-- The length drawn of a move at an instant. -/
def Seg.drawn (g : Seg) (d : Option Nat) (now : Nat) : Nat :=
  let e := now - g.t0
  if g.len = 0 then 0
  else if g.acc = 0 then min g.len (lenAt (g.speedOf d) e) else jumpLen g.v g.acc g.len e

/-- The speed of a move at an instant, in µm/s. -/
def Seg.speedAt (g : Seg) (d : Option Nat) (now : Nat) : Nat :=
  let e := now - g.t0
  if g.len = 0 || g.dur ≤ e then 0
  else if g.acc = 0 then g.speedOf d else jumpSpeed g.v g.acc g.len e

/-- The end of a piece of the plan. -/
def Seg.stop (g : Seg) : Nat := g.t0 + g.dur + g.settle

/-- A move cut at `d` nm: the part before, and the part after as a move of its own. -/
def Seg.cut (g : Seg) (d : Nat) : Seg × Seg :=
  let p := g.point d
  let k := min d g.len
  let arc1 := g.arc.map (fun a => { a with sweep := if g.len = 0 then 0 else a.sweep * k / g.len })
  let arc2 := g.arc.map (fun a => { a with sweep := if g.len = 0 then 0 else a.sweep - a.sweep * k / g.len })
  ({ g with x1 := p.1, y1 := p.2.1, z1 := p.2.2, len := k, settle := 0, arc := arc1 },
   { g with x0 := p.1, y0 := p.2.1, z0 := p.2.2, len := g.len - k, off0 := g.off0 + k, s0 := g.s0 + k, arc := arc2 })

/-- The plan laid out again from an instant on, piece after piece. -/
def retime (d : Option Nat) (t : Nat) : List Seg → List Seg
  | [] => []
  | g :: rest =>
    let dur := g.time d
    { g with t0 := t, dur := dur } :: retime d (t + dur + g.settle) rest

/-- The plan moved on by fine counts from its first piece with a property on. -/
def delayFrom (p : Seg → Bool) (k : Nat) : List Seg → List Seg
  | [] => []
  | g :: rest =>
    if p g then (g :: rest).map (fun g => { g with t0 := g.t0 + k }) else g :: delayFrom p k rest

/-- The end of the plan. -/
def planEnd : List Seg → Nat
  | [] => 0
  | [g] => g.stop
  | _ :: rest => planEnd rest

/-! ### The path of a chain (R336) -/

/-- The length of a path. -/
def pathLen (geo : List Seg) : Nat := (geo.map Seg.len).sum

/-- A point beyond an end of a path, along a tangent in 2^-30. -/
def beyond (x y z : Int) (u : Int × Int) (q : Int) : Int × Int × Int :=
  (x + divRound (u.1 * q) (2 ^ 30), y + divRound (u.2 * q) (2 ^ 30), z)

/-- The point at `q` nm from the start of a path; past its ends the path goes on straight along its first and last
tangents (R336). -/
def pathPoint : List Seg → Int → Int × Int × Int
  | [], _ => (0, 0, 0)
  | [g], q =>
    if q < 0 then beyond g.x0 g.y0 g.z0 (g.tangent 0) q
    else if q ≤ g.len then g.point q.toNat
    else beyond g.x1 g.y1 g.z1 (g.tangent g.len) (q - g.len)
  | g :: h :: rest, q =>
    if q < 0 then beyond g.x0 g.y0 g.z0 (g.tangent 0) q
    else if q ≤ g.len then g.point q.toNat
    else pathPoint (h :: rest) (q - g.len)

end Sys2Proof.Machine
end

