-- ==== Sys2Proof/Machine/SheetOps.lean ====
section
/-!
DEFINITION. What every part of a sheet unit shares: its Q8.24 arithmetic (R245), path values (R238), clamp (R250), logs
(R257, R259, R263), changes of state (R242) and engagement (R241).
-/

namespace Sys2Proof.Machine

/-! ### Q8.24 (R245) -/

/-- Saturation to the Q8.24 range. -/
def satQ (x : Int) : Int := clampInt (-2147483648) 2147483647 x

/-- A result with 24 more fraction bits rounded: 2^23 added, then shifted arithmetically. -/
def roundQ (x : Int) : Int := (x + 8388608) / 16777216

/-- A product rounded and saturated. -/
def mulQ (a b : Int) : Int := satQ (roundQ (a * b))

/-- 1.0 in Q8.24. -/
def oneQ : Int := 16777216

/-- A Q8.24 value as a register word. -/
def wordQ (x : Int) : Word := BitVec.ofInt 32 x

/-! ### States (R240) -/

def shtOff : Nat := 0
def shtOpen : Nat := 1
def shtClosed : Nat := 2
def shtHold : Nat := 3
def shtFallback : Nat := 4

def State.sh (s : State) (n : Nat) : Sht := tblGet {} s.sht n

def State.setSh (s : State) (n : Nat) (x : Sht) : State := { s with sht := tblSet {} s.sht n x }

def State.shState (s : State) (n : Nat) : Nat := s.fld F.SHT_STATUS_STATE n

def State.sc (s : State) (n : Nat) : Scn := tblGet {} s.scn n

def State.setSc (s : State) (n : Nat) (x : Scn) : State := { s with scn := tblSet {} s.scn n x }

def State.bc (s : State) (n : Nat) : Bch := tblGet {} s.bch n

def State.setBc (s : State) (n : Nat) (x : Bch) : State := { s with bch := tblSet {} s.bch n x }

/-- P_now and v_now: the values supplied last (R238). -/
def State.pNow (s : State) (n : Nat) : Int := ((s.sh n).hist.head?.map (fun h => h.2.1)).getD 0

def State.vNow (s : State) (n : Nat) : Int := ((s.sh n).hist.head?.map (fun h => h.2.2)).getD 0

/-- The path values in force at a reference instant in ns, and HIST_SHORT (R238). -/
def histAt (ref : Int) : List (Nat × Int × Int) → Int × Int × Bool
  | [] => (0, 0, true)
  | [h] => (h.2.1, h.2.2, decide (ref * 5 < (h.1 : Int) * 4))
  | h :: h' :: rest => if (h.1 : Int) * 4 ≤ ref * 5 then (h.2.1, h.2.2, false) else histAt ref (h' :: rest)

/-! ### Logs -/

/-- A unit enters the log buffer of 64 units, or is dropped and counted (R257). -/
def State.shUnit (s : State) (n source : Nat) (body : List Byte) : State :=
  let x := s.sh n
  if x.log.length < 64 then
    let k := tblGet 0 x.seqs source
    s.setSh n { x with log := x.log ++ [⟨source, k, body⟩], seqs := tblSet 0 x.seqs source ((k + 1) % 2 ^ 32) }
  else s.bump .SHT_CNT_LOG_DROP n

/-- DELAY in UQ24.8 ns from the reference instant to an application (R253, R259), rounded down, and 0 where the application lies
before its reference (DESIGN CHOICE, log entry 74). -/
def delayCode (ref : Int) (apply : Nat) : Nat :=
  let d := ((apply : Int) * 1024 - ref * 1280) / 5
  if d < 0 then 0 else if 0xFFFFFFFE < d then 0xFFFFFFFE else d.toNat

/-- The largest delay kept in SHT_DELAY_MAX. -/
def State.shDelaySeen (s : State) (n d : Nat) : State :=
  let s1 := s.wr .SHT_LAST_DELAY (BitVec.ofNat 32 d) n
  if (s1.rd .SHT_DELAY_MAX n).toNat < d then s1.wr .SHT_DELAY_MAX (BitVec.ofNat 32 d) n else s1

/-- The body of a delay log unit (R259). -/
def delayBody (x : Sample) (apply : Option Nat) (delay : Nat) : List Byte :=
  let a := apply.getD 0
  let t (k v : Nat) : List Byte := bytesLE k (if apply.isSome then v else 0)
  bytesLE 4 x.frame ++ bytesLE 4 x.stampNs ++ bytesLE 4 x.stampSec ++ t 4 (secOf a) ++ t 4 (nsOf a) ++ t 2 (fracOf a)
    ++ bytesLE 1 x.state ++ bytesLE 1 x.lflags ++ bytesLE 4 delay
    ++ [x.y, x.w, x.integ, x.out, x.pNow, x.vNow].flatMap (fun v => bytesLE 4 (unsext 32 v))
    ++ bytesLE 2 (min x.missed 65535) ++ bytesLE 2 x.rflags

/-- The body of a tuning-capture unit (R263). -/
def captureBody (x : Sample) (apply : Option Nat) (delay : Nat) : List Byte :=
  let a := apply.getD 0
  let t (k v : Nat) : List Byte := bytesLE k (if apply.isSome then v else 0)
  bytesLE 4 x.frame ++ t 4 (nsOf a) ++ t 4 (secOf a)
    ++ [x.inj, x.pCmd, x.w, x.y, x.out, x.e].flatMap (fun v => bytesLE 4 (unsext 32 v))
    ++ bytesLE 1 x.state
    ++ bytesLE 1 (b2n (natBit x.lflags 1) + 2 * b2n (natBit x.lflags 5) + 4 * b2n (natBit x.lflags 6))
    ++ bytesLE 2 (min x.missed 65535) ++ bytesLE 4 delay ++ List.replicate 12 0

/-- The units the test-capture part holds (R263). -/
def State.captureRoom (s : State) : Nat :=
  getBits (s.rd .FST_MP_TEST_BANDS) 0 26 * ((List.range 12).filter (fun c =>
    s.fld F.FST_CH_STATUS_STATE c == 2 || s.fld F.FST_CH_STATUS_STATE c == 3)).length * 64

/-- The delay log entry of a sample, applied at an instant or never, with the state after it, and its tuning capture, with the state
the sample was evaluated in (R253, R259, R263). A unit that the log buffer drops is not written. -/
def State.shLog (s : State) (n : Nat) (x : Sample) (apply : Option Nat) : State :=
  let d := match apply with
    | some a => delayCode x.ref a
    | none => 0xFFFFFFFF
  let s1 := if apply.isSome then s.shDelaySeen n d else s
  let s2 := s1.shUnit n 2 (delayBody { x with state := s1.shState n } apply d)
  if !x.capture then s2
  else
    let s3 := s2.shUnit n 3 (captureBody x apply d)
    let y := s3.sh n
    if y.log.length = (s2.sh n).log.length then s3
    else
      let s4 := s3.setSh n { y with tune := { y.tune with captured := y.tune.captured + 1 } }
      if s4.captureRoom < y.tune.captured + 1 then s4.setFld F.SHT_STATUS_CAPT_WRAP 1 n else s4

/-- The entry of a state change (R242, R259). -/
def State.shTransition (s : State) (n : Nat) : State :=
  let x := s.sh n
  s.shLog n { state := s.shState n, lflags := 1, integ := s.sgn .SHT_I_STATE n, out := x.out, pNow := s.pNow n,
              vNow := s.vNow n, missed := x.missed } none

/-- A command on its way is never applied: a newer one has reached the channel (R253). -/
def State.shSupersede (s : State) (n : Nat) : State :=
  match (s.sh n).sent with
  | none => s
  | some x =>
    ((s.setSh n { s.sh n with sent := none }).bump .SHT_CNT_SUPERSEDED n).shLog n { x with lflags := x.lflags ||| 2 } none

/-! ### Output -/

/-- The clamp of R250: the output, and 1 where it is held at the upper limit, -1 at the lower. -/
def State.shClamp (s : State) (n : Nat) (q : Int) : Int × Int :=
  let p := s.pNow n
  let auth := s.sgn .SHT_AUTH n
  let lo := max (max (s.sgn .SHT_P_MIN n) (p - auth)) 0
  let hi := min (min (s.sgn .SHT_P_MAX n) (p + auth)) oneQ
  let hi := if s.mode = modeService then min hi (getBits (s.rd .BCH_CAL_POWER n) 0 16 * 256 : Nat) else hi
  if hi < lo || hi < q then (hi, 1) else if q < lo then (lo, -1) else (q, 0)

/-- o as the command c in UQ0.16 (R251). -/
def cmdOf (o : Int) : Nat := min ((o + 128) / 256).toNat 0xFFFF

/-- A new output in force. -/
def State.shOut (s : State) (n : Nat) (o : Int) : State :=
  (s.setSh n { s.sh n with out := o }).wr .SHT_LAST_OUT (BitVec.ofNat 32 (cmdOf o)) n

/-- In OPEN and FALLBACK the output follows P_now under the clamp (R240). -/
def State.shForward (s : State) (n : Nat) : State :=
  if s.shState n = shtOpen || s.shState n = shtFallback then
    let o := (s.shClamp n (s.pNow n)).1
    if o = (s.sh n).out then s else (s.shSupersede n).shOut n o
  else s

/-- The interpreter supplies P_prog and v (R238, R315): a change enters the history of 32 entries. -/
def State.pathValues (s : State) (n : Nat) (p v : Int) : State :=
  if p = s.pNow n && v = s.vNow n && !(s.sh n).hist.isEmpty then s
  else
    let x := s.sh n
    let s1 := s.setSh n { x with hist := ((s.fine, p, v) :: x.hist).take 32 }
    if p = s.pNow n then s1 else s1.shForward n

/-! ### Changes of state -/

/-- Consecutive misses shown (R264). -/
def State.shMissRun (s : State) (n k : Nat) : State := s.setFld F.SHT_STATUS_MISS_RUN (min k 255) n

/-- A tuning run ends: ACTIVE clears and inj returns to 0, in OPEN with the output P_now again (R240, R260). -/
def State.shTuneEnd (s : State) (n : Nat) : State :=
  if s.flag F.SHT_STATUS_ACTIVE n then
    ((s.setFld F.SHT_STATUS_ACTIVE 0 n).setSh n { s.sh n with tune := { captured := (s.sh n).tune.captured } }).shForward n
  else s

/-- A run that has had its RUN_LEN samples ends (R260): the last injected output stays until it has been applied (DEDUCED, log
entry 42). -/
def State.shTuneDone (s : State) (n : Nat) : State :=
  let x := s.sh n
  if s.flag F.SHT_STATUS_ACTIVE n && x.tune.base.isSome && decide (atLeast1 (s.rd .SHT_RUN_LEN n).toNat ≤ x.tune.k + 1) then
    if x.sent.isSome then
      (s.setFld F.SHT_STATUS_ACTIVE 0 n).setSh n { x with tune := { captured := x.tune.captured } }
    else s.shTuneEnd n
  else s

/-- The command that has been on its way is applied at instant `t` (R253): its log entry, and in OPEN the end of a run's last output. -/
def State.shApplied (s : State) (n : Nat) (x : Sample) (t : Nat) : State :=
  let s1 := (s.setSh n { s.sh n with sent := none }).shLog n x (some t)
  if s1.flag F.SHT_STATUS_ACTIVE n then s1 else s1.shForward n

/-- The unit changes to a state, with the effects of R242. -/
def State.shGoto (s : State) (n st : Nat) : State :=
  let old := s.shState n
  if old = st then s
  else
    let s1 := s.setFld F.SHT_STATUS_STATE st n
    let s2 :=
      if st = shtOff then
        let s2 := ((s1.shTuneEnd n).shSupersede n)
        let x := s2.sh n
        let s2 := s2.setSh n { queue := x.queue, hist := x.hist, log := x.log, seqs := x.seqs, tune := x.tune, left := x.left }
        let s2 := ((s2.shOut n 0).wr .SHT_I_STATE 0 n).wr .SHT_LAST_FRAME 0 n
        (s2.setFld F.SHT_STATUS_LIM_PREV 0 n).shMissRun n 0
      else if st = shtOpen then
        let x := s1.sh n
        let seqs := if x.left then x.seqs else tblSet 0 (tblSet 0 x.seqs 1 0) 2 0
        ((s1.setSh n { x with missed := 0, good := 0, left := true, seqs := seqs }).shMissRun n 0).shForward n
      else if st = shtClosed && old = shtOpen then
        s1.setSh n { s1.sh n with initZero := some (s1.flag F.SHT_CFG_INT_MODE n), emStart := s1.fine }
      else if st = shtClosed && old = shtFallback then s1.setSh n { s1.sh n with initZero := some true }
      else if st = shtFallback then
        let s2 := s1.setSh n { s1.sh n with good := 0 }
        let s2 := (s2.bump .SHT_CNT_FALLBACK n).setFld F.SHT_STATUS_FALLBACK_SEEN 1 n
        (s2.publish (0x180 + n) 0 s2.now48).shForward n
      else s1
    s2.shTransition n

/-! ### Engagement (R241) -/

/-- SCN_STATUS.STATE codes (R312). -/
def scnStopped : Nat := 0
def scnRunning : Nat := 1
def scnWaiting : Nat := 2
def scnLayerWait : Nat := 3
def scnPaused : Nat := 4
def scnHalted : Nat := 5
def scnDone : Nat := 6

def State.scnState (s : State) (n : Nat) : Nat := s.fld F.SCN_STATUS_STATE n

/-- Whether a pause has passed its stop point. -/
def Scn.inPause (x : Scn) : Bool := (x.pause.map (·.begun)).getD false

/-- Whether the interpreter is executing a mark. -/
def State.marking (s : State) (n : Nat) : Bool :=
  let x := s.sc n
  s.scnState n == scnRunning && !x.inPause && (match x.plan with
    | g :: _ => g.kind == .emit && decide (0 < g.len) && decide (g.t0 ≤ s.fine)
    | [] => false)

/-- Whether the unit is engaged (R241). -/
def State.engaged (s : State) (n : Nat) : Bool :=
  s.flag F.SHT_CFG_LOOP_EN n && s.flag F.BCH_STATUS_EMIT n && s.marking n && !(s.sc n).openLoop

/-- The changes of state that engagement makes (R242). -/
def State.shEngage (s : State) (n : Nat) : State :=
  let st := s.shState n
  if st = shtOff then s
  else if s.engaged n then (if st = shtOpen then s.shGoto n shtClosed else s)
  else s.shGoto n shtOpen

/-- The changes of state that the mode and ENABLE make (R242). -/
def State.shEnable (s : State) (n : Nat) : State :=
  if !s.hasBeam n then s
  else if (s.mode = modeBuild || s.mode = modeService) && s.flag F.SHT_CFG_ENABLE n then
    let s1 := if s.shState n = shtOff then s.shGoto n shtOpen else s
    (s1.shEngage n).shForward n
  else s.shGoto n shtOff

/-- A missed sample (R242, R254, R256). -/
def State.shMiss (s : State) (n : Nat) : State :=
  let x := s.sh n
  let run := s.fld F.SHT_STATUS_MISS_RUN n + 1
  let s1 := ((s.setSh n { x with missed := x.missed + 1, good := 0 }).bump .SHT_CNT_MISS n).shMissRun n run
  let hold := s1.fld F.SHT_MISS_HOLD_SAMPLES n
  let s2 := if s1.shState n = shtClosed then s1.shGoto n (if hold = 0 then shtFallback else shtHold) else s1
  if s2.shState n = shtHold && hold ≤ run then s2.shGoto n shtFallback else s2

end Sys2Proof.Machine
end

