-- ==== Sys2Proof/Machine/BeamOps.lean ====
section
/-!
DEFINITION. What a beam channel shows and drives: its commanded power (R269, R270), the emit gate (R288), the EMITn pad
and BCH_STATUS (R298).
-/

namespace Sys2Proof.Machine

/-- Whether a cut of beam `n` is latched (R299). -/
def State.cutLatched (s : State) (n : Nat) : Bool := getBits (s.rd .BCH_FAULT n) 0 7 != 0

/-- Whether the emit gate of beam `n` is open (R288). -/
def State.gateOpen (s : State) (n : Nat) : Bool :=
  (s.mode == modeBuild || s.mode == modeService) && s.flag F.BCH_PERMIT_PERMIT && !s.cutLatched n
    && s.domOn (44 + n)

/-- OUT_STATE of R298. -/
def State.outState (s : State) (n : Nat) : Nat :=
  if s.mode != modeBuild && s.mode != modeService then 0
  else if s.cutLatched n then 4
  else if !s.gateOpen n then 1
  else if (s.bc n).want then 3 else 2

/-- p(t) at an instant, in 2^-16 nm (R281). -/
def Bch.pathAt (b : Bch) (now : Nat) : Int := b.pHat + b.vHat * ((now : Int) - b.tHat) / 65536

/-- The path position of R116: p(t), limited below by the high-water mark H (R283, R315). -/
def Bch.pathFrom (b : Bch) (now : Nat) : Int := max (b.pathAt now) b.hwm

/-! ### Commanded power -/

/-- DERATE where the interpreter is derated (R315, R338). -/
def State.derate (s : State) (n : Nat) : Option Nat :=
  if s.flag F.SCN_STATUS_DERATED n then some (atLeast1 (s.fld F.SCN_TEMP_DERATE n)) else none

/-- P_prog in Q8.24 (R315): that of the last POWER record, derated while DERATED = 1, or c_m during a METER record. -/
def State.pProg (s : State) (n : Nat) : Int :=
  match (s.sc n).wait with
  | .meter c _ _ _ => (c * 256 : Nat)
  | _ => match s.derate n with
    | none => ((s.sc n).p * 256 : Nat)
    | some d => (((s.sc n).p * d + 128) / 256 : Nat)

/-- The interpreter's power in UQ0.16 during the ramps of pause and resume (R335). -/
def Pause.power (p : Pause) (now : Nat) : Nat :=
  let e := now - p.since
  if p.ramp = 0 then 0
  else if p.phase = 1 then p.cS * (p.ramp - min p.ramp (lenAt p.v e)) / p.ramp
  else p.cS * p.vr * min p.ramp (lenAt p.vr e) / (max p.v 1 * p.ramp)

/-- The commanded power c of beam `n` (R269), limited in SERVICE (R270). -/
def State.beamC (s : State) (n : Nat) : Nat :=
  let x := s.sc n
  let ramp := match x.pause with
    | some p => if p.begun && (p.phase = 1 || p.phase = 6) then some (p.power s.fine) else none
    | none => none
  let c := match ramp, x.wait with
    | some c, _ => c
    | none, .meter c _ _ _ => c
    | none, _ =>
      if s.shState n != shtOff then (s.rd .SHT_LAST_OUT n).toNat % 65536 else cmdOf (s.pProg n)
  if s.mode = modeService then min c (s.fld F.BCH_CAL_POWER_CAL_POWER n) else c

/-- Whether the sheet unit is the source of the command (R269, source 3). -/
def State.sheetSource (s : State) (n : Nat) : Bool :=
  let x := s.sc n
  let ramp := match x.pause with
    | some p => p.begun && (p.phase = 1 || p.phase = 6)
    | none => false
  let meter := match x.wait with
    | .meter _ _ _ _ => true
    | _ => false
  !ramp && !meter && s.shState n != shtOff

/-! ### Profile table and hybrid split (R271 to R274) -/

/-- Entry `i` of profile table `p` in force (R296). -/
def State.profEntry (s : State) (n p i : Nat) : Int :=
  let w := (s.memRd (0x00220000 + 0x2000 * n + 0x400 * p + 4 * (i / 2))).toNat
  (if i % 2 = 0 then w % 65536 else w / 65536 : Nat)

/-- The lookup L(x) (R272). -/
def State.lookup (s : State) (n p x : Nat) : Nat :=
  let x := min ((x * s.fld F.BCH_GAIN_GAIN n p + 8192) / 16384) 0xFFFF
  let i := x / 256
  let t0 := s.profEntry n p i
  let t1 := s.profEntry n p (i + 1)
  (t0 + ((t1 - t0) * (x % 256 : Nat) + 128) / 256).toNat % 65536

/-- Whether the hybrid split acts (R274). -/
def State.hybrid (s : State) (n : Nat) : Bool := s.flag F.BCH_CFG_HYBRID_EN n && !s.flag F.BCH_CFG_FIRE_MODE n

/-- The analog code of a command (R274). -/
def State.codeFor (s : State) (n c : Nat) : Nat :=
  let k := s.fld F.BCH_HYBRID_KNEE n
  let p := s.fld F.BCH_STATUS_PROFILE n
  if s.hybrid n && c < k then s.lookup n p k else s.lookup n p c

/-- Emission of beam `n` starts: the first modulation period is due, pulses follow from the position then, and MAX_ON counts from
the last deassertion that lasted at least 10 µs (R275, R282, R292). -/
def Bch.emitOn (x : Bch) (now : Nat) (rev : Bool) : Bch :=
  { x with emitAt := now, modAt := now, modLen := 0, modNew := true, dark := x.dark + (x.pathFrom now - x.offPos),
           lastPos := if rev then min (x.pathAt now) x.hwm else x.pathFrom now,
           onSince := if x.offAt + 12500 ≤ now then now else x.onSince }

/-- Emission ends: carry is set to zero and MODn is inactive (R275, R276). -/
def Bch.emitOff (x : Bch) (now : Nat) : Bch :=
  { x with offAt := now, offPos := x.pathFrom now, carry := 0, modOn := 0, modNew := false, modHeld := false, pulse := false }

/-- Whether MODn is at its active level at an instant. -/
def Bch.modActive (x : Bch) (now : Nat) : Bool :=
  x.modHeld || decide (now < x.modAt + x.modOn) || (x.pulse && decide (now < x.pulseEnd))

/-- Whether motion in the current direction lowers p(t): in direction REV with encoder pacing; with head feedback p(t) follows the
layer path, which only grows (R283, R315; DEDUCED, log entry 84). -/
def State.goesDown (s : State) (n : Nat) : Bool := s.flag F.BCH_CFG_PACE_SRC n && s.flag F.BCH_STATUS_DIR n

/-- The first code of an emission, presented at the DAC update that precedes its assertion, where no update has shown it yet
(R276). -/
def State.preCode (s : State) (n : Nat) : State :=
  let code := s.codeFor n (s.beamC n)
  if s.fld F.BCH_CFG_OUT_SEL n = 1 || (s.bc n).code = code then s
  else (s.setBc n { s.bc n with code := code }).emit (.dac n code)

/-- The pads and status of beam `n` brought up to date with the gate and with what the channel requests. -/
def State.beamGate (s : State) (n : Nat) : State :=
  let pad := (s.bc n).want && s.gateOpen n
  let old := s.flag F.BCH_STATUS_EMIT n
  let s1 := (((s.setFld F.BCH_STATUS_GATE_OPEN (b2n (s.gateOpen n)) n).setFld F.BCH_STATUS_EMIT (b2n pad) n).setFld
    F.BCH_STATUS_OUT_STATE (s.outState n) n)
  if pad == old then s1
  else if pad then
    let s2 := s1.preCode n
    ((s2.setBc n ((s2.bc n).emitOn s2.fine (s2.goesDown n))).emit (.emitPin n true)).shEngage n
  else
    let x := s1.bc n
    let s2 := (s1.setBc n (x.emitOff s1.fine)).emit (.emitPin n false)
    (if x.modActive s1.fine then s2.emit (.modLevel n false s1.fine) else s2).shEngage n

/-- Every beam present brought up to date. -/
def State.gatesFrom (s : State) : List Nat → State
  | [] => s
  | n :: rest => (if s.hasBeam n then s.beamGate n else s).gatesFrom rest

def State.allGates (s : State) : State := s.gatesFrom (List.range 12)

/-- The channel asks for EMITn, or no longer does. -/
def State.setWant (s : State) (n : Nat) (b : Bool) : State := (s.setBc n { s.bc n with want := b }).beamGate n

/-! ### When emission is wanted (R285) -/

/-- A delay field of 16 bits in units of 10 ns, held to ±50 µs, in fine counts. -/
def dlyFine (v : Nat) : Int := clampInt (-5000) 5000 (sext 16 v) * 25 / 2

/-- The direction of a mark: 0 FWD, 1 REV (R285). -/
def State.markDir (s : State) (n : Nat) (g : Seg) : Nat :=
  if s.fld F.BCH_CFG_PACE_SRC n = 1 then s.fld F.BCH_STATUS_DIR n
  else
    let u := g.tangent 0
    let c := sext 16 (s.fld F.BCH_HATCH_AXIS_COS n)
    let w := sext 16 (s.fld F.BCH_HATCH_AXIS_SIN n)
    if 0 ≤ u.1 * c + u.2 * w then 0 else 1

/-- The interval in which a mark wants EMITn, or none where it would be asserted for less than 20 ns. The rest of a mark
that a pause has cut starts at its start instant. -/
def State.markSpan (s : State) (n : Nat) (g : Seg) : Option (Int × Int) :=
  let d := s.markDir n g
  let on : Int := g.t0 + (if g.off0 = 0 then dlyFine (s.fld F.BCH_EMIT_DLY_ON_DLY n d) else 0)
  let off : Int := (g.t0 + g.dur : Nat) + dlyFine (s.fld F.BCH_EMIT_DLY_OFF_DLY n d)
  if off < on + 25 then none else some (on, off)

/-- The intervals of the marks planned and lately drawn, joined where one ends at or after the start of the next. -/
def joinSpans : List (Int × Int) → List (Int × Int)
  | [] => []
  | a :: rest =>
    match joinSpans rest with
    | [] => [a]
    | b :: more => if b.1 ≤ a.2 then (a.1, max a.2 b.2) :: more else a :: b :: more

def State.emissions (s : State) (n : Nat) : List (Int × Int) :=
  let x := s.sc n
  joinSpans (((x.done.reverse ++ x.plan).filter (fun g => g.kind == .emit && decide (0 < g.len))).filterMap (s.markSpan n))

/-- Whether a mark wants EMITn at an instant. -/
def State.emitWanted (s : State) (n : Nat) (t : Nat) : Bool :=
  (s.emissions n).any (fun a => decide (a.1 ≤ t) && decide ((t : Int) < a.2))

end Sys2Proof.Machine
end

