-- ==== Sys2Proof/Machine/ScanOps.lean ====
section
/-!
DEFINITION. What the records, pauses and halts of a scan interpreter share: running the plan up to the present, where
the head is commanded to be, pauses (R334 to R338), halts (R339), and the Shroud command of a bed point (R324).
-/

namespace Sys2Proof.Machine

/-- L_RAMP in nm; 0 with paced firing (R335). -/
def State.rampLen (s : State) (n : Nat) : Nat :=
  if s.flag F.BCH_CFG_FIRE_MODE n then 0 else s.fld F.SCN_RAMP_L_RAMP n * 1000

def State.settleLen (s : State) (n : Nat) : Nat := s.fld F.SCN_RAMP_L_SETTLE n * 1000
def State.accPause (s : State) (n : Nat) : Nat := atLeast1 (s.fld F.SCN_MOTION_A_PAUSE n)
def State.accJump (s : State) (n : Nat) : Nat := atLeast1 (s.fld F.SCN_MOTION_A_JUMP n)
def State.jumpSettle (s : State) (n : Nat) : Nat := fineOfUs (s.fld F.SCN_JUMP_JUMP_SETTLE n)

/-- The instant of the next downstream frame (R318). -/
def State.nextFrame (s : State) (n : Nat) : Nat :=
  match (s.sc n).sent with
  | f :: _ => if s.fine < f.inst + 1250 then f.inst + 1250 else s.fine
  | [] => s.fine

/-- L_REENTRY (R335). -/
def State.reentryLen (s : State) (n : Nat) (vr : Nat) : Nat := accLen vr (s.accPause n) + s.settleLen n

/-- ON_DLY of the re-fire of a pause (R285, R336). -/
def State.refireDly (s : State) (n : Nat) : Int :=
  dlyFine (s.fld F.BCH_EMIT_DLY_ON_DLY n (s.markDir n ((s.sc n).plan.headD {})))

/-- Fine counts from the start of REENTRY to S. -/
def State.reentryTime (s : State) (n vr : Nat) : Nat := accTime vr (s.accPause n) + timeAt vr (s.settleLen n)

/-- The instant at which REENTRY has to accelerate for a re-fire granted at `grant` (R336). -/
def State.refireStart (s : State) (n : Nat) (p : Pause) (grant : Nat) : Nat :=
  ((grant : Int) - s.refireDly n - s.reentryTime n p.vr).toNat

/-- Whether any cause of pause is active (R334). -/
def State.anyCause (s : State) (n : Nat) : Bool := getBits (s.rd .SCN_STATUS n) 6 4 != 0

/-! ### Where the head is commanded to be -/

/-- The position on the chain's path during a pause. -/
def State.pausePos (s : State) (n : Nat) (p : Pause) (now : Nat) : Int :=
  let e := now - p.since
  let a := s.accPause n
  match p.phase with
  | 1 => p.qS + lenAt p.v e
  | 2 =>
    let e := min e (accTime p.dv a)
    let d : Int := (lenAt p.dv e : Int) - lenAcc a e
    if p.rev then p.dq - d else p.dq + d
  | 3 => p.park
  | 4 =>
    let dist := (p.park - (p.qS - s.reentryLen n p.vr)).toNat
    p.park - jumpLen (s.sc n).vJump (s.accJump n) dist e
  | 5 =>
    let base := p.qS - s.reentryLen n p.vr
    if !p.go then base
    else if e ≤ accTime p.vr a then base + lenAcc a e
    else base + accLen p.vr a + lenAt p.vr (e - accTime p.vr a)
  | 6 => p.qS + lenAt p.vr e
  | _ => p.qS

/-- The commanded speed during a pause, in µm/s. -/
def State.pauseSpeed (s : State) (n : Nat) (p : Pause) (now : Nat) : Nat :=
  let e := now - p.since
  let a := s.accPause n
  match p.phase with
  | 1 => p.v
  | 2 => p.dv - min p.dv (e * 2 * a / 25)
  | 4 =>
    let dist := (p.park - (p.qS - s.reentryLen n p.vr)).toNat
    jumpSpeed (s.sc n).vJump (s.accJump n) dist e
  | 5 => if p.go then min p.vr (e * 2 * a / 25) else 0
  | 6 => p.vr
  | _ => 0

/-- The move being drawn: the first of the plan, once its instant has come. -/
def State.moveNow (s : State) (n : Nat) : Option Seg :=
  match (s.sc n).plan with
  | g :: _ => if decide (g.t0 ≤ s.fine) && decide (0 < g.len) then some g else none
  | [] => none

/-- The commanded bed point (R315). -/
def State.bedPoint (s : State) (n : Nat) : Int × Int × Int :=
  let x := s.sc n
  match x.pause with
  | some p =>
    if p.begun && !p.geo.isEmpty then pathPoint p.geo (s.pausePos n p s.fine)
    else match s.moveNow n with
      | some g => if p.begun then (x.x, x.y, x.z) else g.point (g.drawn (s.derate n) s.fine)
      | none => (x.x, x.y, x.z)
  | none => match s.moveNow n with
    | some g => g.point (g.drawn (s.derate n) s.fine)
    | none => (x.x, x.y, x.z)

/-- The commanded path speed in µm/s (R315). -/
def State.pathSpeed (s : State) (n : Nat) : Nat :=
  match (s.sc n).pause with
  | some p => if p.begun then s.pauseSpeed n p s.fine else ((s.moveNow n).map (fun g => g.speedAt (s.derate n) s.fine)).getD 0
  | none => ((s.moveNow n).map (fun g => g.speedAt (s.derate n) s.fine)).getD 0

/-- A path speed as Q8.24 m/s (R238). -/
def speedQ (v : Nat) : Int := divRound ((v : Int) * oneQ) 1000000

/-- The commanded layer path s(t) in nm (R315): held at its value at S during a pause, but for the ramp-on. -/
def State.layerPath (s : State) (n : Nat) : Nat :=
  let x := s.sc n
  match x.pause with
  | some p =>
    if p.begun then (if p.phase = 6 then p.sPath + lenAt p.vr (s.fine - p.since) else p.sPath)
    else ((s.moveNow n).map (fun g => g.s0 + g.drawn (s.derate n) s.fine)).getD x.sDone
  | none => ((s.moveNow n).map (fun g => g.s0 + g.drawn (s.derate n) s.fine)).getD x.sDone

/-- The commanded distance from the start of the current move (R308). -/
def State.scanOffset (s : State) (n : Nat) : Nat :=
  match (s.sc n).pause with
  | some p => if p.begun then p.off else ((s.moveNow n).map (fun g => g.off0 + g.drawn (s.derate n) s.fine)).getD 0
  | none => ((s.moveNow n).map (fun g => g.off0 + g.drawn (s.derate n) s.fine)).getD 0

/-- The unit tangent in force, in 2^-30. -/
def State.unitNow (s : State) (n : Nat) : Int × Int :=
  match s.moveNow n with
  | some g => g.tangent (g.drawn (s.derate n) s.fine)
  | none => (0, 0)

/-! ### Halts (R339) -/

/-- The interpreter is HALTED with a cause, at a record and offset; emission is off. After STREAM_OVF the stream takes records again
(R311). -/
def State.haltAt (s : State) (n cause idx off : Nat) : State :=
  let x := s.sc n
  let s1 := s.setSc n { x with wait := .none, holdUntil := none, overflow := x.overflow && cause != 4 }
  let s2 := (((s1.setFld F.SCN_STATUS_STATE scnHalted n).setFld F.SCN_STATUS_PSTATE 0 n).setFld
    F.SCN_STATUS_HALT_CAUSE cause n).setFld F.BCH_STATUS_METER 0 n
  let s3 := ((s2.wr .SCN_HALT_RECORD (BitVec.ofNat 32 idx) n).wr .SCN_HALT_OFFSET (BitVec.ofNat 32 off) n).bump
    .SCN_CNT_HALT n
  ((s3.setWant n false).publish (0x1A4 + n) cause s3.now48).shEngage n

/-! ### Running the plan -/

/-- The moves drawn that later rules can still need: those of the present chain and those of the last 100 µs. -/
def pruneDone (now chain : Nat) (l : List Seg) : List Seg :=
  l.filter (fun g => (g.chain = chain && chain ≠ 0) || decide (now ≤ g.stop + 125000))

/-- A piece of the plan is done: its record has been executed (R306, R347). The jump that a RESTART inserts (a dark piece
with `flag`) is no record. -/
def State.retire (s : State) (n : Nat) (g : Seg) (rest : List Seg) : State :=
  let x := s.sc n
  let x1 := match g.kind with
    | .power => { x with p := g.arg, openLoop := g.flag }
    | .profile => { x with profile := g.arg }
    | .dark | .emit =>
      { x with x := g.x1, y := g.y1, z := g.z1, sDone := g.s0 + g.len, done := pruneDone s.fine g.chain (g :: x.done) }
    | _ => x
  let rest1 := match x.derateNext with
    | some b => retime (if b then some (atLeast1 (s.fld F.SCN_TEMP_DERATE n)) else none) g.stop rest
    | none => rest
  let s0 := s.setSc n { x1 with plan := rest1, derateNext := none }
  let s1 := if g.kind == .dark && g.flag then s0 else s0.bump .SCN_CNT_RECORDS n
  let s2 := match x.derateNext with
    | some b => s1.setFld F.SCN_STATUS_DERATED (b2n b) n
    | none => s1
  let s3 := s2.wr .SCN_RECORD (BitVec.ofNat 32 g.idx) n
  match g.kind with
  | .event => s3.publish (0x198 + n) g.arg (BitVec.ofNat 48 g.t0)
  | _ => s3

/-- The sub-state of a pause from an instant on, and what the status shows of it (R335). -/
def State.setPhaseAt (s : State) (n : Nat) (p : Pause) (phase t : Nat) : State :=
  (s.setSc n { s.sc n with pause := some { p with phase := phase, since := t } }).setFld F.SCN_STATUS_PSTATE phase n

/-- The sub-state of a pause from now on. -/
def State.setPhase (s : State) (n : Nat) (p : Pause) (phase : Nat) : State := s.setPhaseAt n p phase s.fine

/-- Where a deceleration ends. -/
def State.restPos (s : State) (n : Nat) (p : Pause) : Int :=
  if p.rev then p.dq - accLen p.dv (s.accPause n) else p.dq + accLen p.dv (s.accPause n)

/-- The head comes to rest (R335, R339): a halt in progress is complete; else the head is PARKED. The cause TEMP clears
there, and the re-entry is derated (R334, R338). -/
def State.parked (s : State) (n : Nat) (p : Pause) : State :=
  let p1 := { p with park := s.restPos n p }
  if p.haltCause ≠ 0 then (s.setSc n { s.sc n with pause := some { p1 with phase := 3 } }).haltAt n p.haltCause p.idx p.off
  else
    let s1 := if s.flag F.SCN_STATUS_CAUSE_TEMP n then
        (s.setFld F.SCN_STATUS_CAUSE_TEMP 0 n).setFld F.SCN_STATUS_DERATED 1 n
      else s
    s1.setPhase n p1 3

/-- A pause or halt whose stop point is at rest: the head holds there, and a halt is complete (R335, R339). -/
def State.holdPause (s : State) (n : Nat) (p : Pause) : State :=
  let x := s.sc n
  let p1 : Pause := { p with begun := true, phase := 7, since := s.fine, sPath := x.sDone, geo := [] }
  let s1 := s.setSc n { x with pause := some p1 }
  if p.haltCause ≠ 0 then s1.haltAt n p.haltCause p.idx p.off
  else if p.hard then s1
  else ((s1.setFld F.SCN_STATUS_STATE scnPaused n).setFld F.SCN_STATUS_PSTATE 7 n).setWant n false

/-- The plan is cut at the stop point, which is reached now or has been at `tS` (R332, R335, R339). -/
def State.beginPause (s : State) (n : Nat) (p : Pause) : State :=
  let x := s.sc n
  let d := s.derate n
  match x.plan with
  | g :: rest =>
    if g.t0 ≤ p.tS && 0 < g.len && !p.chainStart then
      let k := g.drawn d p.tS
      let c := g.cut k
      let drawn := (x.done.filter (fun h => if g.chain = 0 then false else h.chain == g.chain)).reverse ++ [c.1]
      let ahead := if g.chain = 0 then [c.2] else ((c.2 :: rest).filter (fun h => h.chain == g.chain && decide (0 < h.len)))
      let v := g.speedAt d p.tS
      let emits := g.kind == .emit && s.flag F.BCH_STATUS_EMIT n
      let p1 : Pause := { p with
        begun := true, geo := drawn ++ ahead, qS := pathLen drawn, dq := pathLen drawn, v := v, vn := g.v,
        vr := v, dv := v, cS := (s.bc n).cApplied, ramp := if emits && !p.hard then p.ramp else 0,
        since := p.tS, sPath := g.s0 + k,
        idx := if p.haltCause = 0 || p.haltCause = 8 || p.hard then g.idx else p.idx,
        off := if p.haltCause = 0 || p.haltCause = 8 || p.hard then g.off0 + k else p.off }
      let x1 := { x with plan := c.2 :: rest, done := c.1 :: x.done, x := c.1.x1, y := c.1.y1, z := c.1.z1,
                         sDone := g.s0 + k, pause := some p1 }
      let s1 := s.setSc n x1
      if p.hard then (s1.setSc n { x1 with pause := some { p1 with phase := 2, park := p1.dq + accLen v (s.accPause n) } })
      else
        let s2 := s1.setFld F.SCN_STATUS_STATE scnPaused n
        if v = 0 then (s2.setWant n false).parked n { p1 with dv := 0 }
        else if p1.ramp = 0 then
          ((s2.setSc n { x1 with pause := some { p1 with phase := 2 } }).setFld F.SCN_STATUS_PSTATE 2 n).setWant n false
        else (s2.setSc n { x1 with pause := some { p1 with phase := 1 } }).setFld F.SCN_STATUS_PSTATE 1 n
    else
      s.holdPause n p
  | [] =>
    let tail := x.done.head?
    match tail with
    | some g =>
      if !p.chainStart && g.kind == .emit && s.flag F.BCH_STATUS_EMIT n && g.stop = p.tS && !p.hard then
        let drawn := if g.chain = 0 then [g] else (x.done.filter (fun h => h.chain == g.chain)).reverse
        let v := derated g.v d
        let p1 : Pause := { p with
          begun := true, geo := drawn, qS := pathLen drawn, dq := pathLen drawn, v := v, vn := g.v, vr := v,
          dv := v, cS := (s.bc n).cApplied, since := p.tS, sPath := x.sDone,
          phase := if p.ramp = 0 then 2 else 1 }
        let s1 := ((s.setSc n { x with pause := some p1 }).setFld F.SCN_STATUS_STATE scnPaused n).setFld
          F.SCN_STATUS_PSTATE p1.phase n
        if p.ramp = 0 then s1.setWant n false else s1
      else
        s.holdPause n p
    | none =>
      s.holdPause n p

/-- Whether the head holds before the chain that starts with a piece (R322): READY was 0 in the last good frame, and the turn-on
of the piece is due. -/
def State.notReadyHold (s : State) (n : Nat) (g : Seg) : Bool :=
  let starts := g.kind == .emit && decide (0 < g.len) && !(s.sc n).done.any (fun h => h.kind == .emit && h.chain == g.chain)
  starts && !s.flag F.SCN_STATUS_HEAD_READY n && (s.sc n).pause.isNone
    && decide ((g.t0 : Int) + min 0 (dlyFine (s.fld F.BCH_EMIT_DLY_ON_DLY n (s.markDir n g))) ≤ s.fine)

/-- The turn-ons still ahead asked for anew, after the plan has moved (R286, R316). -/
def State.reRequest (s : State) (n : Nat) : State :=
  let g := s.fld F.BCH_CFG_ROT_GROUP n
  if 4 ≤ g then s
  else
    let kept := (tblGet [] s.beams.reqs g).filter (fun r => r.beam != n)
    let new := ((s.emissions n).filter (fun a => decide ((s.fine : Int) < a.1))).map (fun a =>
      (⟨n, a.1.toNat, s.fine, false⟩ : RotReq))
    { s with beams := { s.beams with reqs := tblSet [] s.beams.reqs g (kept ++ new) } }

/-- The plan from the held chain on, planned anew 50 µs ahead (R316, R322). -/
def State.holdNotReady (s : State) (n : Nat) : State :=
  let x := s.sc n
  match x.plan.find? (s.notReadyHold n) with
  | none => s
  | some g => (s.setSc n { x with plan := delayFrom (fun h => h == g) (s.fine + 62500 - g.t0) x.plan }).reRequest n

/-- The plan executed up to the present, at most `fuel` pieces. -/
def State.runPlan (n : Nat) : Nat → State → State
  | 0, s => s
  | fuel + 1, s =>
    let x := s.sc n
    if x.inPause || s.scnState n == scnStopped || s.scnState n == scnHalted || s.scnState n == scnDone then s
    else
      let due := match x.pause, x.plan with
        | some p, g :: _ => decide (p.tS ≤ s.fine) && (decide (p.tS < g.stop) || decide (p.tS ≤ g.t0))
        | some p, [] => decide (p.tS ≤ s.fine)
        | none, _ => false
      if due then
        match x.pause with
        | some p => s.beginPause n p
        | none => s
      else match x.plan with
        | [] => s
        | g :: rest =>
          if s.fine < g.t0 then s
          else if g.stop ≤ s.fine then (s.retire n g rest).runPlan n fuel
          else
            let s1 := s.wr .SCN_RECORD (BitVec.ofNat 32 g.idx) n
            if g.kind == .emit && decide (0 < g.len) && !s1.flag F.BCH_CFG_PACE_SRC n then
              s1.setFld F.BCH_STATUS_DIR (s1.markDir n g) n
            else s1

/-- Beam `n` brought up to the present. -/
def State.refresh (s : State) (n : Nat) : State :=
  ((s.holdNotReady n).runPlan n ((s.sc n).plan.length + 2)).shEngage n

def State.refreshFrom (s : State) : List Nat → State
  | [] => s
  | n :: rest => (if s.hasBeam n then s.refresh n else s).refreshFrom rest

/-- Every beam brought up to the present. -/
def State.refreshAll (s : State) : State := s.refreshFrom (List.range 12)

/-- Time passes until the planned motion of beam `n` is complete. -/
def State.finishPlan (s : State) (n : Nat) : State :=
  { s with fine := max s.fine (planEnd (s.sc n).plan) }.refresh n

/-! ### Pauses (R334, R337) -/

def causeField : Nat → Fld
  | 0 => F.SCN_STATUS_CAUSE_CLEAR
  | 1 => F.SCN_STATUS_CAUSE_LATE
  | 2 => F.SCN_STATUS_CAUSE_REEF
  | _ => F.SCN_STATUS_CAUSE_TEMP

/-- A cause of pause arises (R337): it starts a pause, joins one, sends a re-entry back to rest, or follows a ramp-on. -/
def State.pauseFor (s : State) (n cause : Nat) (p : Pause) : State :=
  let x := s.sc n
  let s1 := s.setFld (causeField cause) 1 n
  match x.pause with
  | none => ((s1.setSc n { x with pause := some p }).bump .SCN_CNT_PAUSE n).refresh n
  | some q =>
    if q.begun && q.phase = 5 then
      let v := s.pauseSpeed n q s.fine
      let pos := s.pausePos n q s.fine
      s1.setPhase n { q with dq := pos, dv := v, go := false, grant := none } 2
    else if q.begun && q.phase = 6 then s1.setSc n { x with pause := some { q with further := true, tS := p.tS } }
    else s1

/-- The turn-on request of a beam in a rotation group reaches the arbiter (R286, R316). -/
def State.rotRequest (s : State) (n tp : Nat) (refire : Bool) : State :=
  let g := s.fld F.BCH_CFG_ROT_GROUP n
  if 4 ≤ g then s
  else { s with beams := { s.beams with
    reqs := tblSet [] s.beams.reqs g (tblGet [] s.beams.reqs g ++ [⟨n, tp, s.fine, refire⟩]) } }



/-- No cause is left (R334): BACKUP starts from PARKED; a hold at a chain start ends, and the rest of the plan goes on
from now, its turn-on asked for again. -/
def State.resumeCheck (s : State) (n : Nat) : State :=
  let x := s.sc n
  match x.pause with
  | none => s
  | some p =>
    if s.anyCause n || p.haltCause ≠ 0 || p.hard || s.scnState n == scnHalted then s
    else if !p.begun then s.setSc n { x with pause := none }
    else if p.phase = 3 && !p.geo.isEmpty && 0 < p.v then
      let vr := if s.flag F.SCN_STATUS_DERATED n then derated p.vn (s.derate n) else p.v
      s.setPhase n { p with vr := vr } 4
    else if p.phase = 3 || p.phase = 7 then
      let plan := retime (s.derate n) s.fine x.plan
      let s1 := ((s.setSc n { x with pause := none, plan := plan }).setFld F.SCN_STATUS_STATE scnRunning n).setFld
        F.SCN_STATUS_PSTATE 0 n
      s1.reRequest n
    else s

/-- A cause of pause ends. -/
def State.clearCause (s : State) (n cause : Nat) : State :=
  if s.flag (causeField cause) n then (s.setFld (causeField cause) 0 n).resumeCheck n else s

/-- Whether an interpreter can pause: it is RUNNING or already PAUSED. -/
def State.canPause (s : State) (n : Nat) : Bool := s.scnState n == scnRunning || s.scnState n == scnPaused

/-- Cause REEF (R334, R525). -/
def State.reefPause (s : State) (n : Nat) : State :=
  if s.canPause n || s.scnState n == scnWaiting then
    s.pauseFor n 2 { tS := s.nextFrame n, ramp := s.rampLen n }
  else s

/-! ### Clean and hard halts (R339) -/

/-- A clean halt whose halt point is reached at `tS` (R339); in a pause it takes S (R337), and at rest it is complete. -/
def State.cleanHalt (s : State) (n cause tS idx off : Nat) : State :=
  let st := s.scnState n
  let x := s.sc n
  if st = scnRunning || st = scnPaused then
    match x.pause with
    | none => (s.setSc n { x with pause := some { tS := tS, ramp := s.rampLen n, haltCause := cause, idx := idx, off := off } }).refresh n
    | some p =>
      if p.begun then
        if p.phase = 1 || p.phase = 2 || p.phase = 4 then s.setSc n { x with pause := some { p with haltCause := cause } }
        else if p.phase = 6 || (p.phase = 5 && p.go) then
          let q := { p with haltCause := cause, dq := s.pausePos n p s.fine, dv := s.pauseSpeed n p s.fine, go := false }
          (s.setPhase n q 2).setWant n false
        else
          let park := if p.phase = 5 then p.qS - s.reentryLen n p.vr else p.park
          (s.setSc n { x with pause := some { p with park := park } }).haltAt n cause p.idx p.off
      else s.setSc n { x with pause := some { p with haltCause := cause, idx := idx, off := off } }
  else if st = scnWaiting || st = scnLayerWait then s.haltAt n cause idx off
  else s

/-- A hard halt (R339): emission stops at once and the head decelerates. -/
def State.hardHalt (s : State) (n cause : Nat) : State :=
  let x := s.sc n
  match x.pause with
  | some p =>
    if p.begun then
      let pos := s.pausePos n p s.fine
      let v := s.pauseSpeed n p s.fine
      let q := { p with hard := true, haltCause := 0, phase := 2, since := s.fine, dq := pos, dv := v, rev := p.phase == 4 }
      (s.setSc n { x with pause := some { q with park := s.restPos n q } }).haltAt n cause p.idx p.off
    else
      let s1 := s.beginPause n { p with tS := s.fine, hard := true, haltCause := 0 }
      let q := ((s1.sc n).pause).getD {}
      s1.haltAt n cause q.idx q.off
  | none =>
    let s1 := s.beginPause n { tS := s.fine, hard := true, idx := (s.rd .SCN_RECORD n).toNat }
    let q := ((s1.sc n).pause).getD {}
    s1.haltAt n cause q.idx q.off

/-- A hard halt of an interpreter in one of the states 1 to 4 (RUNNING to PAUSED). -/
def State.hardHaltActive (s : State) (n cause : Nat) : State :=
  let st := s.scnState n
  if st = scnRunning || st = scnWaiting || st = scnLayerWait || st = scnPaused then s.hardHalt n cause else s

/-! ### Layer start -/

/-- The path pitches passed count from zero for each port whose selector follows beam `n` (R116). -/
def State.passesZero (n : Nat) : List Nat → State → State
  | [], s => s
  | p :: rest, s => State.passesZero n rest
      (if s.fld F.CAP_TRIG_CFG_SOURCE p = 3 && s.fld F.CAP_TRIG_CFG_SRC_INDEX p = n then
        { s with cap := tblSet {} s.cap p { (tblGet {} s.cap p : CapPort) with passes := 0 } }
      else s)

/-- The planner at a layer start or START: speeds of R314, record index 0 (R308), default profile (R271), and the
tracking loop loaded at the first mark (R281). The path of R116 is counted from here. -/
def State.layerStart (s : State) (n : Nat) : State :=
  let x := s.sc n
  let s1 := s.setSc n { x with vMark := 1000 * atLeast1 (s.fld F.SCN_SPEED0_V_MARK0 n),
                               vJump := 1000 * atLeast1 (s.fld F.SCN_SPEED0_V_JUMP0 n),
                               nextIdx := 0, sEnd := 0, sDone := 0, chain := 0, done := [],
                               profile := s.fld F.BCH_CFG_DEFAULT_PROFILE n }
  let s2 := (s1.wr .SCN_RECORD 0 n).setBc n { s1.bc n with reload := true, dark := 0, offPos := 0 }
  State.passesZero n (List.range 64) s2

/-! ### Correction grids (R324 to R326) -/

/-- The byte address of a word of a grid node: 0 CMD_X, 1 CMD_Y, 2 Z_OFS. -/
def nodeAddr (n i j w : Nat) : Nat := gridBase + 0x10000 * n + 12 * (65 * j + i) + 4 * w

/-- A node in force: CMD_X, CMD_Y, Z_OFS. -/
def State.node (s : State) (n i j : Nat) : Int × Int × Int :=
  (sext 24 (s.memRd (nodeAddr n i j 0)).toNat, sext 24 (s.memRd (nodeAddr n i j 1)).toNat,
   (s.memRd (nodeAddr n i j 2)).toInt)

/-- The cell of a bed point on one axis, the distance from its lower node in nm, and whether the point was clamped. -/
def axisCell (p origin : Int) (step : Nat) : Nat × Nat × Bool :=
  let q := p - origin
  let m := 64 * step
  let c := clampInt 0 m q
  let i := min 63 (c.toNat / step)
  (i, c.toNat - i * step, decide (q < 0) || decide ((m : Int) < q))

/-- The command of a bed point (R324): X, Y, Z in command units, and whether the point was clamped. Where the scale is 0 or Z takes more
than 24 bits the spec states no Z: an open value (log entry 85). -/
def State.gridCommand (s : State) (n : Nat) (pt : Int × Int × Int) : (Int × Int × Int) × Bool :=
  let step := atLeast1 (s.rd .SCN_GRID_STEP n).toNat
  let cx := axisCell pt.1 (s.sgn .SCN_GRID_X0 n) step
  let cy := axisCell pt.2.1 (s.sgn .SCN_GRID_Y0 n) step
  let a : Int := cx.2.1
  let b : Int := cy.2.1
  let m : Int := step
  let n00 := s.node n cx.1 cy.1
  let n10 := s.node n (cx.1 + 1) cy.1
  let n01 := s.node n cx.1 (cy.1 + 1)
  let n11 := s.node n (cx.1 + 1) (cy.1 + 1)
  let lerp (v00 v10 v01 v11 : Int) : Int := (m - a) * (m - b) * v00 + a * (m - b) * v10 + (m - a) * b * v01 + a * b * v11
  let zs := (s.rd .SCN_Z_SCALE n).toNat
  let z := (1000 * pt.2.2 * (m * m) + lerp n00.2.2 n10.2.2 n01.2.2 n11.2.2) * 65536
  let zq := divRound z (step * step * zs)
  let zc := if zs = 0 || zq < -(2 ^ 23) || 2 ^ 23 ≤ zq then (Config.zOver z zs).toInt else zq
  ((divRound (lerp n00.1 n10.1 n01.1 n11.1) (step * step), divRound (lerp n00.2.1 n10.2.1 n01.2.1 n11.2.1) (step * step), zc),
    cx.2.2 || cy.2.2)

end Sys2Proof.Machine
end

