-- ==== Sys2Proof/Machine/Queue.lean ====
section
/-!
DEFINITION. The queues (R452 to R459, R462): writing items, the register port, the host write port.
The DRAIN of a queue by a DMA channel is in Dma.lean.
-/

namespace Sys2Proof.Machine

def State.queue (s : State) (q : Nat) : Que := tblGet {} s.que q

/-- The items of level `p`, oldest first. -/
def Que.level (x : Que) (p : Nat) : List QItem := tblGet [] x.levels p

def Que.setLevel (x : Que) (p : Nat) (l : List QItem) : Que := { x with levels := tblSet [] x.levels p l }

def Que.ptr (x : Que) (p : Nat) : QPtr := tblGet {} x.ptrs p

def Que.setPtr (x : Que) (p : Nat) (t : QPtr) : Que := { x with ptrs := tblSet {} x.ptrs p t }

/-- Words of an item (R453). -/
def QItem.words (i : QItem) : Nat := i.data.length / 32

/-- Items the queue holds, the one in progress among them (R462, DEDUCED, log entry 6). -/
def Que.items (x : Que) : Nat :=
  ((List.range 8).map (fun p => (x.level p).length)).sum + (if x.cur.isSome then 1 else 0)

/-- The header of an item (R462). -/
def QItem.header (i : QItem) : Word :=
  BitVec.ofNat 32 (i.words + i.pri * 2 ^ 8 + i.source * 2 ^ 16 + b2n i.lostBefore * 2 ^ 24 + b2n i.dataErr * 2 ^ 25)

/-- Depth of a level in words: 2^k, and 0 for a queue that does not exist (R452). -/
def State.queDepth (s : State) (q : Nat) : Nat :=
  let k := s.fld F.QUE_CFG_K q
  if k = 0 then 0 else 2 ^ k

/-- The queue put back: QUE_STATUS shows its count and its item in progress, and a count that rises to THRESH requests
the vector (R459, R462). -/
def State.putQue (s : State) (q : Nat) (x : Que) : State :=
  let old := (s.queue q).items
  let new := x.items
  let s1 := { s with que := tblSet {} s.que q x }
  let st := s1.rd .QUE_STATUS q
  let st := putBits (putBits st 0 16 (min new 65535)) 16 1 (b2n (new == 0))
  let st := putBits (putBits st 19 1 (b2n x.cur.isSome)) 20 3 ((x.cur.map (·.pri)).getD 0)
  let s2 := s1.wr .QUE_STATUS (putBits st 23 1 (b2n x.drain.isSome)) q
  let th := atLeast1 (s2.fld F.QUE_IRQ_THRESH q)
  if s2.flag F.QUE_IRQ_EN q && old < th && th ≤ new then s2.msixReq (s2.fld F.QUE_IRQ_VEC q) else s2

/-- A pointer of `k + 1` bits moved on by `n` words (R452), both copies. -/
def Que.moveWr (x : Que) (k p n : Nat) : Que :=
  let t := x.ptr p
  x.setPtr p { t with wr := (t.wr + n) % 2 ^ (k + 1), wr2 := (t.wr2 + n) % 2 ^ (k + 1) }

def Que.moveRd (x : Que) (k p n : Nat) : Que :=
  let t := x.ptr p
  x.setPtr p { t with rd := (t.rd + n) % 2 ^ (k + 1), rd2 := (t.rd2 + n) % 2 ^ (k + 1) }

/-- Whether the two copies of every pointer agree (R454). -/
def Que.ptrsAgree (x : Que) : Bool := x.ptrs.all (fun e => e.2.wr == e.2.wr2 && e.2.rd == e.2.rd2)

/-- The items of level `p` that producers write and wait to write (R453). -/
def Que.partsOf (x : Que) (p : Nat) : List QPartial := tblGet [] x.parts p

/-- The item of a level that a producer is in the middle of is poisoned (R457). -/
def poisonHead : List QPartial → List QPartial
  | [] => []
  | p :: rest => { p with poisoned := true } :: rest

/-- An item that a producer has half written is poisoned (R457). -/
def Que.poisonPartial (x : Que) : Que := { x with parts := x.parts.map (fun e => (e.1, poisonHead e.2)) }

/-- Every level emptied and the item in progress ended. -/
def Que.emptied (x : Que) : Que :=
  { x with levels := [], ptrs := [], cur := none, curPos := 0 }.poisonPartial

/-- The check of R454 that every access makes: where pointer copies differ, the queue resets. -/
def State.quePtrCheck (s : State) (q : Nat) : State :=
  let x := s.queue q
  if x.ptrsAgree then s
  else
    let s1 := (s.bumpBy .QUE_CNT_LOST x.items q).putQue q x.emptied
    let s2 := ((s1.setFld F.QUE_STATUS_PTR_ERR 1 q).bump .QUE_CNT_PTR_ERR q).notice 11 q 18 0
    if s2.flag F.QUE_IRQ_EN q then s2.msixReq (s2.fld F.QUE_IRQ_VEC q) else s2

/-- Words held in level `p`, the item in progress among them. -/
def Que.used (x : Que) (p : Nat) : Nat :=
  ((x.level p).map QItem.words).sum + (match x.cur with
    | some c => if c.pri = p then c.words else 0
    | none => 0)

/-- Oldest items of level `p` dropped until `n` words fit in `depth`; the second part counts them (R455). -/
def Que.makeRoom (x : Que) (depth p n : Nat) : List QItem → Nat × List QItem
  | [] => (0, [])
  | i :: rest =>
    if ((i :: rest).map QItem.words).sum + (x.used p - ((x.level p).map QItem.words).sum) + n ≤ depth then (0, i :: rest)
    else
      let r := x.makeRoom depth p n rest
      (r.1 + 1, r.2)

/-- A whole item enters its level (R453, R455): the oldest items of the level make room; where the item cannot fit
without the one in progress, it is discarded itself. -/
def State.queCommit (s : State) (q : Nat) (i : QItem) : State :=
  let x := s.queue q
  let depth := s.queDepth q
  if depth = 0 then s.bump .QUE_CNT_NO_QUEUE
  else
    let cur := x.used i.pri - ((x.level i.pri).map QItem.words).sum
    if depth < cur + i.words then (s.bump .QUE_CNT_LOST q).putQue q { x with lostNext := true }
    else
      let r := x.makeRoom depth i.pri i.words (x.level i.pri)
      let k := s.fld F.QUE_CFG_K q
      let dropped := (((x.level i.pri).take r.1).map QItem.words).sum
      let x1 := ((x.setLevel i.pri (r.2 ++ [i])).moveRd k i.pri dropped).moveWr k i.pri i.words
      (s.bumpBy .QUE_CNT_LOST r.1 q).putQue q { x1 with lostNext := x.lostNext || decide (0 < r.1) }

/-- An item a unit of the block sends: its header fields and whole words. -/
def State.queSend (s : State) (q source pri : Nat) (data : List Byte) : State :=
  if s.queDepth q = 0 then s.bump .QUE_CNT_NO_QUEUE
  else (s.quePtrCheck q).queCommit q ⟨pri, source, data, false, false⟩

/-- Bytes added to the unfinished item of a producer on a level, or to a new one behind those that are there (R453). -/
def addBytes (pri source words : Nat) (data : List Byte) : List QPartial → List QPartial
  | [] => [⟨pri, source, words, data.take (32 * words), false⟩]
  | p :: rest =>
    if p.source = source && p.data.length < 32 * p.words then
      { p with data := (p.data ++ data).take (32 * p.words) } :: rest
    else p :: addBytes pri source words data rest

/-- The items of a level whose turn has come and whose last byte has been written commit in turn; a poisoned one is discarded whole
and counted (R453, R457). `flush` says that a FLUSH comes in the same clock: it flushes them, uncounted. -/
def State.commitParts (q p : Nat) (flush : Bool) : List QPartial → State → State
  | [], s => s.putQue q { s.queue q with parts := tblSet [] (s.queue q).parts p [] }
  | i :: rest, s =>
    if i.data.length < 32 * i.words then s.putQue q { s.queue q with parts := tblSet [] (s.queue q).parts p (i :: rest) }
    else if i.poisoned then State.commitParts q p flush rest (s.bump .QUE_CNT_POISONED q)
    else if flush then State.commitParts q p flush rest s
    else State.commitParts q p flush rest (s.queCommit q ⟨i.pri, i.source, i.data, false, false⟩)

/-- A copy of a pointer of the queue has changed by itself (R454). -/
def State.queUpset (s : State) (q : Nat) (upset : Bool) : State :=
  if upset then
    let x := s.queue q
    { s with que := tblSet {} s.que q (x.setPtr 0 { x.ptr 0 with rd2 := (x.ptr 0).rd + 1 }) }
  else s

/-- Bytes of an item from a producer (R453, R457): one producer at a time writes a level, and the next waits. `meet` says that a
FLUSH comes in the same clock, and `upset` that a pointer copy has changed before (R454). -/
def execQueueItem (q : Fin 64) (source : BitVec 8) (pri : BitVec 3) (words : Fin 8) (data : List Byte) (meet upset : Bool)
    (s : State) : Res :=
  .next (
    if s.queDepth q.val = 0 then s.bump .QUE_CNT_NO_QUEUE
    else
      let s := (s.queUpset q.val upset).quePtrCheck q.val
      State.commitParts q.val pri.toNat meet
        (addBytes pri.toNat source.toNat (words.val + 1) data ((s.queue q.val).partsOf pri.toNat)) s)

/-- The level read next: the highest non-empty one (R456). -/
def Que.topLevel (x : Que) : Option Nat := ((List.range 8).reverse.find? (fun p => !(x.level p).isEmpty))

/-- An item as it is delivered (R455): the words in `bad`, which have an uncorrectable error, as zeros and with DATA_ERR. -/
def QItem.delivered (i : QItem) (lost : Bool) (bad : List Nat) : QItem :=
  let hit := bad.filter (fun w => decide (w < i.words))
  { i with lostBefore := lost, dataErr := !hit.isEmpty,
           data := hit.foldl (fun d w => putAt d (32 * w) (List.replicate 32 0)) i.data }

/-- The next item taken from its level as the item in progress, with LOST_BEFORE where items were lost, and the errors of its words
(R455). -/
def Que.start (x : Que) (bad : List Nat) : Que :=
  match x.topLevel with
  | none => x
  | some p => match x.level p with
    | [] => x
    | i :: rest => { x.setLevel p rest with cur := some (i.delivered x.lostNext bad), curPos := 0, lostNext := false }

/-- The item in progress ends and its words are freed. -/
def Que.finish (x : Que) (k : Nat) : Que :=
  match x.cur with
  | none => x
  | some i => { x.moveRd k i.pri i.words with cur := none, curPos := 0 }

/-- A read with the level Observer (R462): the reply of `k`, or zero, and no reply during an FLR (R425). A read by the helm enters the
journal (R535). -/
def State.readGate (s : State) (who : Requester) (unit i lvl : Nat) (k : State) : State :=
  s.flrGate who false (
    if !s.unitOpen unit || !unitPresent s.variant unit i then s.emit (.reply 0)
    else if lvl ≤ s.levelOf who then k.journalRead who
    else (if who = .mailbox then s.bump .PCE_CNT_PRIV_REFUSED else s).emit (.reply 0))

/-- A read of QUE_RD_HEAD (R456), with the words of the item it starts that an uncorrectable error spoils (R455), and whether a
pointer copy has changed before (R454). -/
def execQueRdHead (who : Requester) (q : Fin 64) (bad : List Nat) (upset : Bool) (s : State) : Res :=
  .next (s.readGate who 11 q.val 1 (
    let s := (s.queUpset q.val upset).quePtrCheck q.val
    let x := s.queue q.val
    if x.drain.isSome then (s.setFld F.QUE_STATUS_UNDERRUN 1 q.val).emit (.reply 0)
    else match x.cur with
      | some i => s.emit (.reply i.header)
      | none =>
        let x1 := x.start bad
        match x1.cur with
        | some i => (s.putQue q.val { x1 with lastHead := i.header }).emit (.reply i.header)
        | none => (s.setFld F.QUE_STATUS_UNDERRUN 1 q.val).emit (.reply x.lastHead)))

/-- A read of QUE_RD_DATA (R456). -/
def execQueRdData (who : Requester) (q : Fin 64) (s : State) : Res :=
  .next (s.readGate who 11 q.val 1 (
    let s := s.quePtrCheck q.val
    let x := s.queue q.val
    if x.drain.isSome then (s.setFld F.QUE_STATUS_UNDERRUN 1 q.val).emit (.reply 0)
    else match x.cur with
      | none => (s.setFld F.QUE_STATUS_UNDERRUN 1 q.val).emit (.reply x.lastData)
      | some i =>
        let w : Word := BitVec.ofNat 32 (fieldLE i.data x.curPos 4)
        let x1 := { x with curPos := x.curPos + 4, lastData := w }
        let x2 := if i.data.length ≤ x.curPos + 4 then x1.finish (s.fld F.QUE_CFG_K q.val) else x1
        (s.putQue q.val x2).emit (.reply w)))

/-- DROP_REST in QUE_CMD (R456). -/
def execDropRest (who : Requester) (q : Fin 64) (s : State) : Res :=
  .next (s.writeGate who .QUE_CMD q.val (
    let s := s.quePtrCheck q.val
    s.putQue q.val ((s.queue q.val).finish (s.fld F.QUE_CFG_K q.val))))

/-- FLUSH in QUE_CMD (R457). -/
def execQueueFlush (who : Requester) (q : Fin 64) (s : State) : Res :=
  .next (s.writeGate who .QUE_CMD q.val (
    let s := s.quePtrCheck q.val
    s.putQue q.val (s.queue q.val).emptied))

/-- A write of QUE_WR_HEAD (R458). -/
def execQueWrHead (who : Requester) (q : Fin 64) (v : Word) (s : State) : Res :=
  .next (s.writeGate who .QUE_WR_HEAD q.val (
    let s := s.quePtrCheck q.val
    let x := s.queue q.val
    let s1 := if x.host.isSome then s.bump .QUE_CNT_POISONED q.val else s
    s1.putQue q.val { x with host := some ⟨getBits v 8 3, 0x20, getBits v 0 3 + 1, [], false⟩ }))

/-- A write of QUE_WR_DATA (R453, R458, R462): the item commits at its last byte. -/
def execQueWrData (who : Requester) (q : Fin 64) (v : Word) (s : State) : Res :=
  .next (s.writeGate who .QUE_WR_DATA q.val (
    let s := s.quePtrCheck q.val
    let x := s.queue q.val
    match x.host with
    | none => s
    | some h =>
      let data := h.data ++ bytesLE 4 v.toNat
      if data.length < 32 * h.words then s.putQue q.val { x with host := some { h with data := data } }
      else (s.putQue q.val { x with host := none }).queCommit q.val ⟨h.pri, h.source, data, false, false⟩))

end Sys2Proof.Machine
end

