-- ==== Sys2Proof/Machine/StoreMem.lean ====
section
/-!
DEFINITION. The frame store as a memory: stripes, bands and regions (R141 to R146), reads and writes of DDR4 bytes and
of the copies of a retired channel (R142, R172), the marks of uncorrectable bursts (R166, R167), corrected-error
buckets and the start of a channel's retirement (R169 to R171), refresh and the scrubber (R165, R168), the melt-pool area
(R163, R164).
-/

namespace Sys2Proof.Machine

/-- STRIDE of R142. -/
def State.stride (s : State) : Nat := if s.variant.half then 24 * 1024 else 48 * 1024

/-- The channels named in a mask, ascending. -/
def maskChans (mask : Nat) : List Nat := (List.range 12).filter (natBit mask)

/-- The store address of byte `o` of a region that starts at band `base` and uses the channels of `mask` (R142, R143). -/
def State.regionAddr (s : State) (base mask o : Nat) : Nat :=
  let cs := maskChans mask
  let n := max 1 cs.length
  let band := base + o / (4096 * n)
  band * s.stride + (cs.getD (o % (4096 * n) / 4096) 0) * 4096 + o % 4096

/-- A state of FST_CH_STATUS (R181). -/
def chAbsent : Nat := 0
def chActive : Nat := 2
def chRetiring : Nat := 3
def chRetired : Nat := 4
def chFailed : Nat := 5
def chExcluded : Nat := 6

def State.chState (s : State) (c : Nat) : Nat := s.fld F.FST_CH_STATUS_STATE c

/-- Whether a channel is in use: ACTIVE or RETIRING (R178). -/
def State.chInUse (s : State) (c : Nat) : Bool := s.chState c == chActive || s.chState c == chRetiring

/-- The mask of channels with a property. -/
def chanMask (p : Nat → Bool) : Nat := ((List.range 12).map (fun c => if p c then 2 ^ c else 0)).sum

/-- The regions of R144. -/
inductive Region where
  | ringIndex (r : Nat)
  | ringData (r : Nat)
  | build
  | reserve
  | mpLog
  | mpTest
  | outside
  deriving DecidableEq, Repr

/-- A band field: bits 25:0 (R183). -/
def State.bands (s : State) (r : Reg) (i : Nat := 0) : Nat := getBits (s.rd r i) 0 26

def State.ringExists (s : State) (r : Nat) : Bool := s.bands .FST_RING_DATA_BANDS r != 0

/-- The region that holds a band (R144). -/
def State.regionOf (s : State) (band : Nat) : Region :=
  let inR (b n : Nat) : Bool := decide (b ≤ band) && decide (band < b + n)
  let total := s.bands .FST_BANDS
  let log := s.bands .FST_MP_LOG_BANDS
  let test := s.bands .FST_MP_TEST_BANDS
  match (List.range 16).find? (fun r => s.ringExists r && inR (s.bands .FST_RING_BASE r)
      (s.bands .FST_RING_IDX_BANDS r + s.bands .FST_RING_DATA_BANDS r)) with
  | some r =>
    if band < s.bands .FST_RING_BASE r + s.bands .FST_RING_IDX_BANDS r then .ringIndex r else .ringData r
  | none =>
    if inR (s.bands .FST_BUILD_BASE) (s.bands .FST_BUILD_BANDS) then .build
    else if inR (s.bands .FST_RES_BASE) (s.bands .FST_RES_BANDS) then .reserve
    else if inR (total - log - test) log then .mpLog
    else if inR (total - test) test then .mpTest
    else .outside

def State.addrBand (s : State) (a : Nat) : Nat := a / s.stride
def State.addrChan (s : State) (a : Nat) : Nat := a % s.stride / 4096

/-- The store address of byte `o` of stripe `band` of channel `c`. -/
def State.stripeAddr (s : State) (band c o : Nat) : Nat := band * s.stride + c * 4096 + o

/-- Where the bytes of a store address lie: at the address itself, or in the copy of a retired channel's stripe
(R142); none where neither is in use or inside a region. -/
def State.storePlace (s : State) (a : Nat) : Option Nat :=
  if s.regionOf (s.addrBand a) = .outside then none
  else if s.chInUse (s.addrChan a) then some a
  else if s.fst.retiring = some (s.addrChan a) && s.chState (s.addrChan a) == chRetired then
    (tblGet none s.fst.copies (s.addrBand a)).map (fun b => b + a % 4096)
  else none

/-- The byte at a place of the DDR4 memory; a byte never written reads zero (DESIGN CHOICE, log entry 7). -/
def State.ddrRd (s : State) (a : Nat) : Byte := tblGet 0 s.fst.ddr a

/-- Whether the burst that holds a place reads as uncorrectable (R166). -/
def State.ddrBad (s : State) (a : Nat) : Bool := tblGet false s.fst.bad (a / 64)

/-- `data` written at a place, with its bursts marked as uncorrectable or clean. -/
def State.ddrWr (s : State) (a : Nat) (data : List Byte) (bad : Bool) : State :=
  { s with fst := { s.fst with
      ddr := tblSetList 0 s.fst.ddr a data,
      bad := tblSetList false s.fst.bad (a / 64) (List.replicate ((a % 64 + data.length + 63) / 64) bad) } }

/-- One byte written at a store address: to its place, and to the copy of a stripe that is being migrated (R172). -/
def State.storeWr1 (s : State) (a : Nat) (b : Byte) (bad : Bool) : State :=
  match s.storePlace a with
  | none => s
  | some p =>
    let s1 := s.ddrWr p [b] bad
    if s.fst.retiring = some (s.addrChan a) && p == a then
      match tblGet none s.fst.copies (s.addrBand a) with
      | some c => s1.ddrWr (c + a % 4096) [b] bad
      | none => s1
    else s1

/-- Bytes written at consecutive store addresses. -/
def State.storeWr (s : State) (a : Nat) (data : List Byte) (bad : Bool) : State :=
  match data with
  | [] => s
  | b :: rest => (s.storeWr1 a b bad).storeWr (a + 1) rest bad

/-- Bytes read at consecutive store addresses; zero where no place holds them (R142). -/
def State.storeRd (s : State) (a n : Nat) : List Byte :=
  (List.range n).map (fun i => match s.storePlace (a + i) with
    | some p => s.ddrRd p
    | none => 0)

/-- Whether any burst of a range reads as uncorrectable (R167). -/
def State.storeBad (s : State) (a n : Nat) : Bool :=
  (List.range n).any (fun i => match s.storePlace (a + i) with
    | some p => s.ddrBad p
    | none => false)

/-- Whether host writes are carried out at a store address (R146). -/
def State.storeHostWrites (s : State) (a : Nat) : Bool :=
  match s.regionOf (s.addrBand a) with
  | .build => true
  | .ringData r => s.flag F.FST_RING_CFG_HOST_WRITE r
  | _ => false

/-- Whether the store answers: it is loaded and not in self-refresh (R403, R516). -/
def State.storeUp (s : State) : Bool := s.ready && !s.fst.selfRefresh

/-- The store goes into self-refresh (R516, R525) or leaves it: refreshes start anew. -/
def State.selfRef (s : State) (on : Bool) : State :=
  { s with fst := { s.fst with selfRefresh := on, refEnd := [], refDue := [] } }

/-- Migration runs on channel MIG_DMA, which is reserved once it has retired its working descriptor (R171, R451). -/
def State.startMigration (s : State) : State :=
  let d := s.fld F.FST_CFG_MIG_DMA
  let st := s.fld F.DMA_STATUS_STATE d
  let x := tblGet {} s.dma d
  let s1 := { s with fst := { s.fst with migActive := true, migDma := d, migFrom := st, migAt := s.fine } }
  if st = 1 || st = 4 then { s1 with dma := tblSet {} s.dma d { x with migWait := true } }
  else s1.setFld F.DMA_STATUS_STATE 7 d

/-- A channel meets the retirement criterion (R170, R171). -/
def State.criterion (s : State) (c : Nat) : State :=
  if s.chState c != chActive then s
  else if s.flag F.FST_RETIRE_CFG_RETIRE_EN && !s.fst.retiredOnce then
    let s1 := { s with fst := { s.fst with
      retiring := some c, retiredOnce := true, retireAt := s.fine, migPos := 0, copies := [], wrapped := [] } }
    (((s1.setFld F.FST_CH_STATUS_STATE chRetiring c).publish 0x0B0 c s.now48).notice 2 c 3
      (BitVec.ofNat 32 c)).startMigration
  else s.setFld F.FST_STATUS_RETIRE_DENIED 1

/-! ### ECC (R166 to R169) -/

/-- What the code makes of a burst (R166). -/
inductive BurstSeen where
  | clean
  | corrected (device : Nat)
  | uncorrectable
  | laidWrong (device : Nat)
  deriving DecidableEq, Repr

/-- What the code makes of the errors of a burst (R166): it corrects one device, detects a wrong address, and detects two
devices unless it lays the error to one. More than two devices are taken as two (DESIGN CHOICE, log entry 75). -/
def burstSeen (e : BurstErr) : BurstSeen :=
  if e.wrongAddr then .uncorrectable
  else match e.devices.eraseDups with
    | [] => .clean
    | [d] => .corrected d.val
    | _ => match e.laidTo with
      | some d => .laidWrong d.val
      | none => .uncorrectable

/-- Band, channel, device and 64-byte unit of an error in the burst at place `p` (R168). -/
def State.eccRecord (s : State) (p : Nat) (ue : Bool) (dev : Nat) (scrub : Bool) : State :=
  let c := s.addrChan p
  (s.wr .FST_CH_ECC_BAND (BitVec.ofNat 32 (s.addrBand p)) c).wr .FST_CH_ECC_INFO
    (BitVec.ofNat 32 (b2n ue + dev * 2 + p % 4096 / 64 * 2 ^ 6 + b2n scrub * 2 ^ 12)) c

/-- A corrected error: counted, added to the bucket, and the criterion met where the bucket reaches CE_LIMIT (R168, R169). The
bucket has to fall below CE_LIMIT before it can reach it again (DEDUCED, log entry 76). -/
def State.eccCorrected (s : State) (p dev : Nat) (scrub : Bool) : State :=
  let c := s.addrChan p
  let s1 := ((s.eccRecord p false dev scrub).bump .FST_CH_CNT_CE c).bump .FST_CH_CE_BUCKET c
  let full := decide (atLeast1 (s1.fld F.FST_RETIRE_CFG_CE_LIMIT) ≤ (s1.rd .FST_CH_CE_BUCKET c).toNat)
  let met := tblGet false s1.fst.ceMet c
  let s2 := { s1 with fst := { s1.fst with ceMet := tblSet false s1.fst.ceMet c full } }
  if full && !met then s2.criterion c else s2

/-- An uncorrectable error: counted, and the criterion met at the channel's first (R168, R169). DEVICE keeps the last
correctable error's. -/
def State.eccUncorrectable (s : State) (p : Nat) (scrub : Bool) : State :=
  let c := s.addrChan p
  let s1 := (s.eccRecord p true (s.fld F.FST_CH_ECC_INFO_DEVICE c) scrub).bump .FST_CH_CNT_UE c
  if tblGet false s1.fst.ueSeen c then s1
  else { s1 with fst := { s1.fst with ueSeen := tblSet false s1.fst.ueSeen c true } }.criterion c

/-- The read of the burst at place `p`: whether it is delivered poisoned, and the state after (R167, R168). An error laid to
the wrong device delivers wrong data, a free value, and writes them back. -/
def State.eccRead (s : State) (p : Nat) (e : Option BurstErr) (scrub : Bool) : Bool × State :=
  if s.ddrBad p then (true, s.eccUncorrectable p scrub)
  else match (e.map burstSeen).getD .clean with
    | .clean => (false, s)
    | .corrected d => (false, s.eccCorrected p d scrub)
    | .uncorrectable => (true, s.eccUncorrectable p scrub)
    | .laidWrong d =>
      let v := s.freeBits 512
      (false, (v.2.ddrWr p (bytesLE 64 v.1.toNat) false).eccCorrected p d scrub)

/-- What a read brings: its bytes, the poisoned ranges of them as offset and length, and the state after. -/
structure Fetch where
  data : List Byte
  bad : List (Nat × Nat)
  st : State

/-- The burst at the burst address `a`: its bytes, whether it is poisoned, and the state after. The bytes of a poisoned burst are
free values; one that no place holds reads zero (R142). -/
def State.fetchBurst (s : State) (a : Nat) (e : Option BurstErr) : List Byte × Bool × State :=
  match s.storePlace a with
  | none => (List.replicate 64 0, false, s)
  | some p =>
    let r := s.eccRead p e false
    if r.1 then
      let v := r.2.freeBits 512
      (bytesLE 64 v.1.toNat, true, v.2)
    else (r.2.storeRd a 64, false, r.2)

/-- `n` bursts from burst `k` of a read that begins at the burst address `a`. -/
def State.fetchBursts (a : Nat) (errs : List (Nat × BurstErr)) : Nat → Nat → State → Fetch
  | 0, _, s => ⟨[], [], s⟩
  | n + 1, k, s =>
    let r := s.fetchBurst (a + 64 * k) (errs.lookup k)
    let t := State.fetchBursts a errs n (k + 1) r.2.2
    ⟨r.1 ++ t.data, if r.2.1 then (64 * k, 64) :: t.bad else t.bad, t.st⟩

/-- A range of a read moved to what begins `o` bytes later and holds `n` bytes. -/
def shiftRange (o n : Nat) (r : Nat × Nat) : Option (Nat × Nat) :=
  let lo := r.1 - o
  let hi := min n (r.1 + r.2 - o)
  if lo < hi then some (lo, hi - lo) else none

/-- A read of `n` bytes at a store address, with what its bursts meet by number (R167, R168). -/
def State.storeFetch (s : State) (a n : Nat) (errs : List (Nat × BurstErr)) : Fetch :=
  let r := State.fetchBursts (a / 64 * 64) errs ((a % 64 + n + 63) / 64) 0 s
  ⟨takeAt r.data (a % 64) n, r.bad.filterMap (shiftRange (a % 64) n), r.st⟩

/-- The completions of a read of `data` at `addr`, each of at most Max_Payload_Size and split at the Read Completion Boundary of 128
bytes (R417, PRESUMED, log entry 87); the EP bit is set on those with a poisoned byte, which count (R412). -/
def State.completions (s : State) (bad : List (Nat × Nat)) : Nat → Nat → List Byte → Nat → State
  | 0, _, _, _ => s
  | fuel + 1, addr, data, off =>
    match data with
    | [] => s
    | _ =>
      let mps := 128 * 2 ^ min 2 (getBits (s.cfgRd 0x58) 5 3)
      let c := min data.length ((addr + mps) / 128 * 128 - addr)
      let ep := bad.any (fun r => decide (r.1 < off + c) && decide (off < r.1 + r.2))
      let s1 := (if ep then s.bump .PCE_CNT_POISON_TX else s).emit (.replyBytes (data.take c) ep)
      s1.completions bad fuel (addr + c) (data.drop c) (off + c)

/-- A host read through BAR2 (R142, R167, R412, R516). -/
def execBar2Read (addr len : Nat) (errs : List (Nat × BurstErr)) (tlp : Tlp) (s : State) : Res :=
  .next (s.inbound tlp (fun s => s.memReq false tlp.header (
    let n := min len 4096
    let zeros (s : State) : State := s.completions [] (n + 1) addr (List.replicate n 0) 0
    if 1 ≤ s.levelOf .mailbox then
      if !s.storeUp then zeros (s.bump .FST_CNT_BAD_ACCESS)
      else
        let r := s.storeFetch addr n errs
        let s1 := if (List.range n).all (fun i => (s.storePlace (addr + i)).isSome) then r.st else r.st.bump .FST_CNT_BAD_ACCESS
        s1.completions r.bad (n + 1) addr r.data 0
    else zeros (s.bump .PCE_CNT_PRIV_REFUSED))))

/-- A host write through BAR2 (R142, R146, R172, R412, R516). -/
def execBar2Write (addr : Nat) (data : List Byte) (tlp : Tlp) (s : State) : Res :=
  .next (s.inbound tlp (fun s => s.memReq true tlp.header (
    let poisoned := decide (tlp.cond = .poisoned)
    let s1 := if poisoned then s.aerLog 12 false tlp.header else s
    if 2 ≤ s.levelOf .mailbox then
      let ok (i : Nat) : Bool := s.storeUp && s.storeHostWrites (addr + i) && (s.storePlace (addr + i)).isSome
      if (List.range data.length).all ok then s1.storeWr addr data poisoned else s1.bump .FST_CNT_BAD_ACCESS
    else s1.bump .PCE_CNT_PRIV_REFUSED)))

/-! ### Refresh, scrub and leak (R164, R165, R168, R169) -/

/-- Whether channel `c` is in refresh. -/
def State.inRefresh (s : State) (c : Nat) : Bool := decide (s.fine < tblGet 0 s.fst.refEnd c)

/-- Whether the refresh of channel `c` falls due within 150 ns (R164). -/
def State.refreshNear (s : State) (c : Nat) : Bool :=
  match tblGet none s.fst.refDue c with
  | some t => decide (2 * t ≤ 2 * s.fine + 375)
  | none => false

/-- Melt-pool units pending on channel `c`. -/
def State.mpPending (s : State) (c : Nat) : Nat := ((tblGet [] s.fst.mpPend c).filter (fun t => decide (s.fine < t))).length

/-- A channel refresh falls due and is issued, lasting `len` fine counts (R165): with two channels in refresh it waits for the
first to end. The next falls due 7.8 µs later, or 3.9 µs where the module is hot. -/
def execRefresh (c : Fin 12) (dt len : Nat) (hot : Bool) (s : State) : Res :=
  .next (
    let s1 := s.advance dt
    if !s1.chInUse c.val || s1.fst.selfRefresh then s1
    else
      let ends := ((List.range 12).filter (fun k => k != c.val && s1.inRefresh k)).map (fun k => tblGet 0 s1.fst.refEnd k)
      let free := if 2 ≤ ends.length then ends.foldl min (ends.headD 0) else 0
      let s2 := s1.passTo 0 (max free (tblGet 0 s1.fst.refEnd c.val))
      { s2 with fst := { s2.fst with refEnd := tblSet 0 s2.fst.refEnd c.val (s2.fine + len),
                                     refDue := tblSet none s2.fst.refDue c.val (some (s2.fine + if hot then 4875 else 9750)) } })

/-- The next burst of the scrubber on channel `c` (R168): bursts of the whole channel in ascending order. -/
def State.scrubNext (s : State) (c : Nat) : Nat :=
  let n := tblGet 0 s.fst.scrubAt c
  s.stripeAddr (n / 64) c (n % 64 * 64)

/-- Fine counts of one scrub pass (R168, R177). -/
def State.scrubPass (s : State) : Nat := atLeast1 (s.fld F.FST_CFG_SCRUB_HOURS) * 4500000000000

/-- When the pass of channel `c` began. -/
def State.scrubStart (s : State) (c : Nat) : Nat := (tblGet none s.fst.scrubFrom c).getD s.fst.trainedAt

/-- The scrubber reads the next burst, corrects and records any error (R165, R168). The bursts of a pass fall due evenly over
SCRUB_HOURS (DESIGN CHOICE, log entry 77). -/
def execPatrolScrub (c : Fin 12) (dt : Nat) (err : Option BurstErr) (s : State) : Res :=
  .next (
    let c := c.val
    let n := tblGet 0 s.fst.scrubAt c
    let all := s.bands .FST_BANDS * 64
    let s1 := s.passTo dt (s.scrubStart c + s.scrubPass * n / max 1 all)
    let melt := match s1.regionOf (n / 64) with
      | .mpLog | .mpTest => true
      | _ => false
    if !s1.chInUse c || s1.fst.selfRefresh || all = 0 || (melt && s1.mpPending c != 0) then s1
    else
      let last := decide (all ≤ n + 1)
      let s2 := { s1 with fst := { s1.fst with
        scrubAt := tblSet 0 s1.fst.scrubAt c (if last then 0 else n + 1),
        scrubFrom := if last then tblSet none s1.fst.scrubFrom c (some (s1.scrubStart c + s1.scrubPass)) else s1.fst.scrubFrom } }
      (s2.eccRead (s1.scrubNext c) err true).2)

/-- The corrected-error bucket loses 1, down to 0, at every LEAK interval (R169, R179). -/
def execCeLeak (c : Fin 12) (dt : Nat) (s : State) : Res :=
  .next (
    let due := (tblGet none s.fst.leakAt c.val).getD s.fst.trainedAt + atLeast1 (s.fld F.FST_RETIRE_CFG_LEAK) * 1250000000
    let s1 := s.passTo dt due
    if !s1.chInUse c.val then s1
    else
      let s2 := { s1 with fst := { s1.fst with leakAt := tblSet none s1.fst.leakAt c.val (some due) } }
      let v := (s2.rd .FST_CH_CE_BUCKET c.val).toNat - 1
      let s3 := s2.wr .FST_CH_CE_BUCKET (BitVec.ofNat 32 v) c.val
      if v < atLeast1 (s3.fld F.FST_RETIRE_CFG_CE_LIMIT) then
        { s3 with fst := { s3.fst with ceMet := tblSet false s3.fst.ceMet c.val false } }
      else s3)

/-! ### The melt-pool area (R163, R164) -/

/-- The channel a melt-pool unit goes to (R164): of those in use that are neither RETIRING nor in refresh nor due to refresh
within 150 ns, the lowest of those with the fewest pending units. -/
def State.mpChannel (s : State) : Option Nat :=
  ((List.range 12).filter (fun c => s.chState c == chActive && !s.inRefresh c && !s.refreshNear c)).foldl (fun best c => match best with
    | none => some c
    | some b => if s.mpPending c < s.mpPending b then some c else some b) none

/-- A melt-pool unit of 64 bytes appended to the log or test-capture part of channel `c` (R163, R164). -/
def State.mpUnit (s : State) (c beam : Nat) (u : LogUnit) : State :=
  let test := u.source == 3
  let total := s.bands .FST_BANDS
  let bands := if test then s.bands .FST_MP_TEST_BANDS else s.bands .FST_MP_LOG_BANDS
  let base := if test then total - bands else total - s.bands .FST_MP_TEST_BANDS - bands
  let reg := if test then Reg.FST_CH_MPT_WP else Reg.FST_CH_MPL_WP
  let n := (s.rd reg c).toNat
  let bytes := bytesLE 1 u.source ++ bytesLE 1 beam ++ [0, 0] ++ bytesLE 4 u.seq ++ takeAt u.body 0 56
  if bands = 0 then s
  else (s.storeWr (s.stripeAddr (base + n / 64) c (n % 64 * 64)) bytes false).wr reg
    (BitVec.ofNat 32 ((n + 1) % (bands * 64))) c

/-- The oldest unit in the log buffer of sheet unit `n` is sent to its channel, where it is pending for `wait` fine counts, at
most 150 ns (R34, R163, R164, R257); with no channel to take it, it stays in the buffer. -/
def execMpUnitWrite (n : Fin 12) (dt wait : Nat) (s : State) : Res :=
  .next (
    let s1 := s.advance dt
    let x := tblGet {} s1.sht n.val
    match x.log, s1.mpChannel with
    | u :: rest, some c =>
      if s1.fst.selfRefresh then s1
      else
        let pend := (tblGet [] s1.fst.mpPend c).filter (fun t => decide (s1.fine < t))
        { s1 with sht := tblSet {} s1.sht n.val { x with log := rest },
                  fst := { s1.fst with mpPend := tblSet [] s1.fst.mpPend c (pend ++ [s1.fine + min wait 187]) } }.mpUnit c n.val u
    | _, _ => s1)

end Sys2Proof.Machine
end

