-- ==== Sys2Proof/Machine/Scan.lean ====
section
/-!
DEFINITION. The scan program: taking and planning each record (R305 to R317), program sources (R309 to R311), commands
and restart (R340, R345).
-/

namespace Sys2Proof.Machine

/-! ### Sources -/

/-- SCN_STREAM_LEVEL shows the records held; a fall below LOW_WATER publishes the stream-low event (R311). -/
def State.streamLevel (s : State) (n : Nat) : State :=
  let new := (s.sc n).fifo.length
  let old := s.fld F.SCN_STREAM_LEVEL_LEVEL n
  let low := s.fld F.SCN_STREAM_CFG_LOW_WATER n
  let s1 := s.wr .SCN_STREAM_LEVEL (BitVec.ofNat 32 new) n
  if new < low && low ≤ old then (s1.setFld F.SCN_STATUS_STREAM_LOW 1 n).publish (0x1B0 + n) 0 s1.now48
  else if low ≤ new then s1.setFld F.SCN_STATUS_STREAM_LOW 0 n else s1

/-- Whether the planner takes records: the interpreter runs, waits for late data or is paused, and no halt is in
progress. -/
def State.planning (s : State) (n : Nat) : Bool :=
  let x := s.sc n
  let st := s.scnState n
  (st == scnRunning || st == scnPaused || (st == scnWaiting && x.wait == .late))
    && (match x.pause with
      | some p => p.haltCause == 0
      | none => true)

/-- An overflowed stream whose accepted records are used up halts the interpreter at the end of the last one (R311). -/
def State.overflowHalt (s : State) (n : Nat) : State :=
  let x := s.sc n
  if x.overflow && x.fifo.isEmpty && s.planning n then s.cleanHalt n 4 (planEnd x.plan) x.nextIdx 0 else s

/-- Whether the stream holds enough to resume from LATE_DATA (R334): RESUME_LEVEL records, or a LAYER_END or END; for the
build store a plan of 64 µs. -/
def State.lateOver (s : State) (n : Nat) : Bool :=
  let x := s.sc n
  if s.flag F.SCN_CFG_SRC n then
    decide (min 4096 (s.fld F.SCN_STREAM_CFG_RESUME_LEVEL n) ≤ x.fifo.length)
      || x.fifo.any (fun r => r.head? == some 0x0C || r.head? == some 0x0D)
  else decide (80000 ≤ (x.plan.map (fun g => g.dur + g.settle)).sum)

/-- The record that the planner takes next, if it is there: the head of the stream FIFO, or the record of the build store at the
fetch position once its block has been read ahead (R309, R310). -/
def State.recordAt (s : State) (n : Nat) : Option (List Byte) :=
  let x := s.sc n
  if s.flag F.SCN_CFG_SRC n then x.fifo.head?
  else
    let b := tblGet [] x.blocks (x.pc / 256)
    if b.isEmpty then none else some (takeAt b (16 * (x.pc % 256)) 16)

/-- Whether the record that the planner takes next is the one that the command `i` executes. -/
def State.nextIs (s : State) (n : Fin 12) (i : Instr) : Bool := decide ((s.recordAt n.val).map (scanDecode n) = some i)

/-- The planner takes the next record where the command `i` is the one that executes it; a record of a poisoned block of the build
store halts the interpreter (R309). Records before the next LAYER_END are skipped after RESTART NEXT_LAYER (R340). The planner is
then busy for 32 ns (R313). `k` gets the record's index. -/
def State.takeNow (s : State) (n : Fin 12) (i : Instr) (layerEnd : Bool) (k : Nat → State → State) : State :=
  let x := s.sc n.val
  let stream := s.flag F.SCN_CFG_SRC n.val
  if !stream && x.badBlocks.contains (x.pc / 256) then s.cleanHalt n.val 2 (planEnd x.plan) x.nextIdx 0
  else if !s.nextIs n i then s
  else
    let x1 := if stream then { x with fifo := x.fifo.drop 1 } else { x with pc := x.pc + 1 }
    let late := s.scnState n.val == scnWaiting
    let x2 := { x1 with nextIdx := x.nextIdx + 1, free := s.fine + 40, skip := x.skip && !layerEnd,
                        wait := if late then .none else x.wait }
    let s1 := (s.setSc n.val x2).streamLevel n.val
    let s2 := if late then s1.setFld F.SCN_STATUS_STATE scnRunning n.val else s1
    let s3 := (if x.skip && !layerEnd then s2 else k x.nextIdx s2).overflowHalt n.val
    if s3.flag F.SCN_STATUS_CAUSE_LATE n.val && s3.lateOver n.val then s3.clearCause n.val 1 else s3

/-- Whether the plan holds 64 µs (R313), by its durations during a pause, else from now on. -/
def State.planFull (s : State) (n : Nat) : Bool :=
  let x := s.sc n
  if x.pause.isSome then decide (80000 ≤ (x.plan.map (fun g => g.dur + g.settle)).sum)
  else decide (s.fine + 80000 < planEnd x.plan)

/-- Time passes until the planner can take a record: 32 ns after the last one, with a plan of at most 64 µs ahead (R313). -/
def State.awaitPlanner (s : State) (n : Nat) : State :=
  let x := s.sc n
  (s.passTo 0 (max x.free (if x.pause.isSome then 0 else planEnd x.plan - 80000))).refresh n

/-- A record that the planner takes ahead of execution. During a pause it takes none beyond a plan of 64 µs (R313). -/
def State.takeRecord (s : State) (n : Fin 12) (i : Instr) (k : Nat → State → State) : State :=
  if !s.hasBeam n.val || !s.ready then s
  else
    let s1 := s.refresh n.val
    if !s1.planning n.val then s1
    else
      let s2 := s1.awaitPlanner n.val
      if s2.planning n.val && !s2.planFull n.val then s2.takeNow n i false k else s2

/-- A record that runs at rest (R317, R341): the interpreter first completes its motion. A pause or halt on the way keeps
it from the record; a pause for late data ends, since the planner has reached the end of the chain. -/
def State.takeAtRest (s : State) (n : Fin 12) (i : Instr) (layerEnd : Bool) (k : Nat → State → State) : State :=
  if !s.hasBeam n.val || !s.ready then s
  else
    let s1 := s.refresh n.val
    if !s1.planning n.val then s1
    else if s1.flag F.SCN_STATUS_CAUSE_LATE n.val then s1.clearCause n.val 1
    else
      let s2 := (s1.finishPlan n.val).awaitPlanner n.val
      if s2.scnState n.val == scnPaused || s2.scnState n.val == scnHalted || !(s2.sc n.val).plan.isEmpty then s2
      else s2.takeNow n i layerEnd (fun j s =>
        k j ((s.setSc n.val { s.sc n.val with chain := 0 }).wr .SCN_RECORD (BitVec.ofNat 32 j) n.val))

/-! ### Planning -/

/-- The instant a new piece of the plan starts: the end of the plan, or 50 µs ahead where nothing is planned (R313). -/
def State.planFrom (s : State) (n : Nat) : Nat :=
  let pe := planEnd (s.sc n).plan
  if pe ≤ s.fine then s.fine + 62500 else pe

/-- A record that takes no time enters the plan; whether it may stand in a mark chain. -/
def State.planNote (s : State) (n idx : Nat) (kind : SegKind) (arg : Nat) (flag inChain : Bool) : State :=
  let x := s.sc n
  let g : Seg := { kind := kind, idx := idx, t0 := s.planFrom n, arg := arg, flag := flag, chain := if inChain then x.chain else 0 }
  s.setSc n { x with plan := x.plan ++ [g], chain := if inChain then x.chain else 0 }

/-- A move enters the plan (R313, R314). A mark joins the chain being planned or begins one, and its turn-on is asked
for at once (R316). -/
def State.planMove (s : State) (n idx : Nat) (emit : Bool) (g : Seg) : State :=
  let x := s.sc n
  let chain := if emit then (if x.chain = 0 then x.chains + 1 else x.chain) else 0
  let g1 := { g with kind := if emit then .emit else .dark, idx := idx, chain := chain, t0 := s.planFrom n,
                     s0 := x.sEnd, x0 := x.px, y0 := x.py, z0 := x.pz,
                     v := if emit then x.vMark else x.vJump, acc := if emit then 0 else s.accJump n,
                     settle := if emit then 0 else s.jumpSettle n }
  let g2 := { g1 with dur := g1.time (s.derate n) }
  let before := s.emissions n
  let s1 := s.setSc n { x with plan := x.plan ++ [g2], px := g2.x1, py := g2.y1, pz := g2.z1, sEnd := x.sEnd + g2.len,
                               chain := chain, chains := max x.chains chain }
  if !emit || g2.len = 0 || s.scnState n == scnPaused then s1
  else match s1.markSpan n g2 with
    | none => s1
    | some a =>
      let joined := match before.getLast? with
        | some b => decide (a.1 ≤ b.2)
        | none => false
      if joined then s1 else s1.rotRequest n a.1.toNat false

/-- A straight move to a point. -/
def State.planLine (s : State) (n idx : Nat) (emit : Bool) (x y z : Int) : State :=
  let c := s.sc n
  s.planMove n idx emit { x1 := x, y1 := y, z1 := z, len := hypot (x - c.px) (y - c.py) }

/-- JUMP (R306). -/
def execJumpRecord (n : Fin 12) (x y : BitVec 32) (z : BitVec 16) (s : State) : Res :=
  .next (s.takeRecord n (.jumpRecord n x y z) (fun i s => s.planLine n.val i false x.toInt y.toInt z.toInt))

/-- MARK (R306). -/
def execMarkRecord (n : Fin 12) (x y : BitVec 32) (z : BitVec 16) (s : State) : Res :=
  .next (s.takeRecord n (.markRecord n x y z) (fun i s => s.planLine n.val i true x.toInt y.toInt z.toInt))

/-- The halt of a bad record, at the end of the last good one (R307, R339). -/
def State.badRecord (s : State) (n idx : Nat) : State := s.cleanHalt n 3 (planEnd (s.sc n).plan) idx 0

/-- ARC (R306, R307): the interpreter halts on a sweep beyond a turn or a radius of zero. -/
def execArcRecord (n : Fin 12) (dark : Bool) (z : BitVec 16) (cx cy sweep : BitVec 32) (s : State) : Res :=
  .next (s.takeRecord n (.arcRecord n dark z cx cy sweep) (fun i s =>
    let c := s.sc n.val
    let a : ArcGeo := ⟨cx.toInt, cy.toInt, sweep.toInt⟩
    if 360000000 < sweep.toInt.natAbs || a.radius c.px c.py = 0 then s.badRecord n.val i
    else
      let e := a.endPoint c.px c.py
      s.planMove n.val i (!dark) { x1 := e.1, y1 := e.2, z1 := z.toInt, arc := some a, len := a.length c.px c.py }))

/-- SPEED (R306): 0 leaves a speed unchanged. -/
def execSpeedRecord (n : Fin 12) (vMark vJump : BitVec 32) (s : State) : Res :=
  .next (s.takeRecord n (.speedRecord n vMark vJump) (fun i s =>
    let x := s.sc n.val
    let vm := if vMark = 0 then x.vMark else min vMark.toNat 20000000
    let vj := if vJump = 0 then x.vJump else min vJump.toNat 50000000
    (s.setSc n.val { x with vMark := vm, vJump := vj }).planNote n.val i .plain 0 false true))

/-- POWER (R306). -/
def execPowerRecord (n : Fin 12) (openLoop : Bool) (p : BitVec 16) (s : State) : Res :=
  .next (s.takeRecord n (.powerRecord n openLoop p) (fun i s => s.planNote n.val i .power p.toNat openLoop true))

/-- PROFILE (R306). -/
def execProfileRecord (n : Fin 12) (profile : BitVec 3) (s : State) : Res :=
  .next (s.takeRecord n (.profileRecord n profile) (fun i s => s.planNote n.val i .profile profile.toNat false true))

/-- EVENT (R306). -/
def execEventRecord (n : Fin 12) (code : BitVec 8) (s : State) : Res :=
  .next (s.takeRecord n (.eventRecord n code) (fun i s => s.planNote n.val i .event code.toNat false true))

/-- LINK (R306, R307): from the host stream it is a bad record. -/
def execLinkRecord (n : Fin 12) (target : BitVec 32) (s : State) : Res :=
  .next (s.takeRecord n (.linkRecord n target) (fun i s =>
    if s.flag F.SCN_CFG_SRC n.val then s.badRecord n.val i
    else
      let s1 := s.planNote n.val i .plain 0 false false
      s1.setSc n.val { s1.sc n.val with pc := target.toNat }))

/-- A record of a TYPE the table does not hold (R307). -/
def execBadRecord (n : Fin 12) (type : BitVec 8) (s : State) : Res :=
  .next (s.takeRecord n (.badRecord n type) (fun i s => s.badRecord n.val i))

/-! ### Records that run at rest (R317, R341) -/

/-- A wait ends and its record has been executed. -/
def State.waitDone (s : State) (n : Nat) : State :=
  (((s.setSc n { s.sc n with wait := .none }).setFld F.SCN_STATUS_STATE scnRunning n).bump .SCN_CNT_RECORDS n).refresh n

/-- WAIT (R317): a pending event completes it at once. -/
def execWaitRecord (n : Fin 12) (w : Fin 4) (timeout : BitVec 32) (s : State) : Res :=
  .next (s.takeAtRest n (.waitRecord n w timeout) false (fun _ s =>
    let x := s.sc n.val
    match tblGet none x.pend w.val with
    | some _ => (s.setSc n.val { x with pend := tblSet none x.pend w.val none }).waitDone n.val
    | none =>
      (s.setSc n.val { x with wait := .task w.val,
                              waitAt := if timeout = 0 then 0 else s.fine + fineOfUs timeout.toNat }).setFld
        F.SCN_STATUS_STATE scnWaiting n.val))

/-- The TIMEOUT of a WAIT (R317). -/
def execWaitTimeout (n : Fin 12) (s : State) : Res :=
  .next (
    let x := s.sc n.val
    match x.wait with
    | .task _ =>
      if s.scnState n.val == scnWaiting && x.waitAt ≠ 0 then
        { s with fine := max s.fine x.waitAt }.cleanHalt n.val 7 x.waitAt (s.rd .SCN_RECORD n.val).toNat 0
      else s
    | _ => s)

/-- DWELL (R317). -/
def execDwellRecord (n : Fin 12) (us : BitVec 32) (s : State) : Res :=
  .next (s.takeAtRest n (.dwellRecord n us) false (fun _ s =>
    (s.setSc n.val { s.sc n.val with wait := .dwell, waitAt := s.fine + fineOfUs us.toNat }).setFld
      F.SCN_STATUS_STATE scnWaiting n.val))

/-- The end of a DWELL. -/
def execDwellEnd (n : Fin 12) (s : State) : Res :=
  .next (
    let x := s.sc n.val
    if x.wait == .dwell && s.scnState n.val == scnWaiting then { s with fine := max s.fine x.waitAt }.waitDone n.val
    else s)

/-- METER (R294, R317): emission at c_m with METER = 1. A DURATION out of range is a bad record (R307). -/
def execMeterRecord (n : Fin 12) (input : Fin 4) (profile : BitVec 3) (cm : BitVec 16) (us : BitVec 32) (s : State) :
    Res :=
  .next (s.takeAtRest n (.meterRecord n input profile cm us) false (fun i s =>
    if us.toNat < 100 || 1000000 < us.toNat then s.badRecord n.val i
    else
      let x := s.sc n.val
      let s1 := (s.setSc n.val { x with wait := .meter cm.toNat profile.toNat x.profile input.val, profile := profile.toNat,
                                        waitAt := s.fine + fineOfUs us.toNat }).setFld F.SCN_STATUS_STATE scnWaiting n.val
      let s2 := s1.setBc n.val { s1.bc n.val with meterAt := s1.fine }
      (s2.setFld F.BCH_STATUS_METER 1 n.val).setWant n.val true))

/-- LAYER_END (R341). -/
def execLayerEnd (n : Fin 12) (s : State) : Res :=
  .next (s.takeAtRest n (.layerEnd n) true (fun _ s =>
    (s.setFld F.SCN_STATUS_STATE scnLayerWait n.val).bump .SCN_CNT_RECORDS n.val))

/-- END (R306). -/
def execEndRecord (n : Fin 12) (s : State) : Res :=
  .next (s.takeAtRest n (.endRecord n) false (fun _ s =>
    (s.setFld F.SCN_STATUS_STATE scnDone n.val).bump .SCN_CNT_RECORDS n.val))

/-! ### Fetching (R309 to R311) -/

/-- A block of the build store has been read ahead (R309), with what its bursts meet (R167): a block of 4 KiB is one stripe. One that
has been read since START or RESTART is not read again. -/
def execBlockFetch (n : Fin 12) (block : Nat) (errs : List (Nat × BurstErr)) (s : State) : Res :=
  .next (
    if !s.hasBeam n.val || !s.storeUp || s.flag F.SCN_CFG_SRC n.val || !(tblGet [] (s.sc n.val).blocks block).isEmpty then s
    else
      let r := s.storeFetch (s.regionAddr (s.bands .FST_BUILD_BASE) s.fst.loadSet (block * 4096)) 4096 errs
      let x := r.st.sc n.val
      let others := x.badBlocks.filter (· != block)
      r.st.setSc n.val { x with blocks := tblSet [] x.blocks block r.data,
                                badBlocks := if r.bad.isEmpty then others else block :: others })

/-- A write into the stream window (R310, R311): the fourth word appends a record; a record that finds the FIFO full, and
every later one, is discarded. -/
def execStreamWindowWrite (who : Requester) (n : Fin 12) (v : BitVec 32) (s : State) : Res :=
  .next (
    if !s.hasBeam n.val || !s.ready then s
    else if !(who == .unit || (who == .mailbox && decide (2 ≤ s.levelOf .mailbox))) then s.bump .SCN_CNT_STREAM_BAD n.val
    else
      let x := s.sc n.val
      let ws := x.words ++ [v]
      if ws.length < 4 then s.setSc n.val { x with words := ws }
      else if x.overflow || 4096 ≤ x.fifo.length then (s.setSc n.val { x with words := [], overflow := true }).overflowHalt n.val
      else
        let s1 := (s.setSc n.val { x with words := [], fifo := x.fifo ++ [ws.flatMap (fun w => bytesLE 4 w.toNat)] }).streamLevel n.val
        if s1.lateOver n.val then s1.clearCause n.val 1 else s1)

/-! ### Commands (R340, R345) -/

/-- Whether START and RESTART are refused (R340). -/
def State.scnRefused (s : State) (n : Nat) : Bool :=
  s.cutLatched n || !s.flag F.SCN_STATUS_LINK_UP n || !(s.mode == modeBuild || s.mode == modeService)

/-- A write of SCN_CMD by a requester that may make it, to an interpreter with ENABLE = 1 (R342, R343). -/
def State.scnCmd (s : State) (who : Requester) (n : Nat) (k : State → State) : State :=
  s.writeGate who .SCN_CMD n (
    let s1 := s.refresh n
    if s1.flag F.SCN_CFG_ENABLE n then k s1 else s1)

/-- START (R340, R345): PROG_BASE is loaded, or the stream FIFO emptied. -/
def State.scnStart (s : State) (n : Nat) : State :=
  let st := s.scnState n
  if !(st == scnStopped || st == scnDone || st == scnHalted) then s
  else if s.scnRefused n then s.setFld F.SCN_STATUS_CMD_REFUSED 1 n
  else
    let x := s.sc n
    let x1 : Scn := { x with plan := [], done := [], pause := none, holdUntil := none, wait := .none, skip := false, words := [],
                             overflow := false, blocks := [], badBlocks := [], derateNext := none, px := x.x, py := x.y, pz := x.z,
                             pc := (s.rd .SCN_PROG_BASE n).toNat, fifo := if s.flag F.SCN_CFG_SRC n then [] else x.fifo }
    let s1 := ((s.setSc n x1).layerStart n).streamLevel n
    let s2 := s1.wr .SCN_STATUS (putBits (putBits (s1.rd .SCN_STATUS n) 3 7 0) 11 4 0) n
    (s2.setFld F.SCN_STATUS_STATE scnRunning n).shEngage n

def execScnStart (who : Requester) (n : Fin 12) (s : State) : Res :=
  .next (s.scnCmd who n.val (fun s => s.scnStart n.val))

/-- STOP (R339, R345): a clean halt with the halt point at t_next. -/
def execScnStop (who : Requester) (n : Fin 12) (s : State) : Res :=
  .next (s.scnCmd who n.val (fun s =>
    s.cleanHalt n.val 8 (s.nextFrame n.val) (s.rd .SCN_RECORD n.val).toNat 0))

/-- A RESTART of a HALTED interpreter that is not refused (R340). -/
def State.scnRestart (s : State) (who : Requester) (n : Nat) (k : State → State) : State :=
  s.scnCmd who n (fun s =>
    if s.scnState n != scnHalted then s
    else if s.scnRefused n then s.setFld F.SCN_STATUS_CMD_REFUSED 1 n
    else k ((s.setSc n { s.sc n with overflow := false, blocks := [], badBlocks := [] }).setFld F.SCN_STATUS_HALT_CAUSE 0 n))

/-- RESTART AT_STOP: re-entry and re-fire at the halt point, or the rest of the plan from a halt point at rest. -/
def execRestartAtStop (who : Requester) (n : Fin 12) (s : State) : Res :=
  .next (s.scnRestart who n.val (fun s =>
    let x := s.sc n.val
    match x.pause with
    | some p =>
      if !p.geo.isEmpty && 0 < p.v then
        let vr := if s.flag F.SCN_STATUS_DERATED n.val then derated p.vn (s.derate n.val) else p.v
        (s.setFld F.SCN_STATUS_STATE scnPaused n.val).setPhase n.val
          { p with vr := vr, haltCause := 0, go := false, grant := none, ramp := if p.hard then 0 else p.ramp, hard := false } 4
      else
        let s1 := (s.setSc n.val { x with pause := none, plan := retime (s.derate n.val) (s.fine + 62500) x.plan }).setFld
          F.SCN_STATUS_STATE scnRunning n.val
        s1.reRequest n.val
    | none => s.setFld F.SCN_STATUS_STATE scnRunning n.val))

/-- The point where a halted head rests. -/
def State.restPoint (s : State) (n : Nat) : Int × Int × Int :=
  match (s.sc n).pause with
  | some p => if p.geo.isEmpty then ((s.sc n).x, (s.sc n).y, (s.sc n).z) else pathPoint p.geo p.park
  | none => ((s.sc n).x, (s.sc n).y, (s.sc n).z)

/-- RESTART NEXT_RECORD: the rest of the halted record is not drawn, and a jump leads to the start of the next. -/
def execRestartNextRecord (who : Requester) (n : Fin 12) (s : State) : Res :=
  .next (s.scnRestart who n.val (fun s =>
    let x := s.sc n.val
    let idx := (s.rd .SCN_HALT_RECORD n.val).toNat
    let rest := x.plan.dropWhile (fun g => g.idx == idx)
    let at0 := s.restPoint n.val
    let dest : Int × Int × Int := match rest.find? (fun g => g.kind == .emit || g.kind == .dark) with
      | some g => (g.x0, g.y0, g.z0)
      | none => (x.px, x.py, x.pz)
    let jump : Seg := { kind := .dark, flag := true, idx := idx, x0 := at0.1, y0 := at0.2.1, z0 := at0.2.2,
                        x1 := dest.1, y1 := dest.2.1, z1 := dest.2.2, len := hypot (dest.1 - at0.1) (dest.2.1 - at0.2.1), v := x.vJump,
                        acc := s.accJump n.val, settle := s.jumpSettle n.val, s0 := x.sDone }
    let plan := retime (s.derate n.val) (s.fine + 62500) (jump :: rest)
    let s1 := (s.setSc n.val { x with pause := none, plan := plan, x := at0.1, y := at0.2.1, z := at0.2.2 }).setFld
      F.SCN_STATUS_STATE scnRunning n.val
    s1.reRequest n.val))

/-- RESTART NEXT_LAYER: records up to the next LAYER_END are skipped. -/
def execRestartNextLayer (who : Requester) (n : Fin 12) (s : State) : Res :=
  .next (s.scnRestart who n.val (fun s =>
    let p := s.restPoint n.val
    (s.setSc n.val { s.sc n.val with pause := none, plan := [], skip := true, chain := 0, x := p.1, y := p.2.1, z := p.2.2,
                                     px := p.1, py := p.2.1, pz := p.2.2 }).setFld F.SCN_STATUS_STATE scnRunning n.val))

/-- A read of SCN_PATH_LO latches bits 47:32 into SCN_PATH_HI (R346). -/
def execPathLoRead (who : Requester) (n : Fin 12) (s : State) : Res :=
  .next (s.readGate who 6 n.val 1 (
    let s := s.refresh n.val
    let v := s.layerPath n.val
    ((s.wr .SCN_PATH_LO (BitVec.ofNat 32 v) n.val).wr .SCN_PATH_HI (BitVec.ofNat 32 (v / 2 ^ 32 % 65536)) n.val).emit
      (.reply (BitVec.ofNat 32 v))))

end Sys2Proof.Machine
end

