-- ==== Sys2Proof/Machine/StoreRing.lean ====
section
/-!
DEFINITION. Frame rings: records and the index (R147 to R150), the writer (R151 to R153), rewind marks and spans (R155
to R162), the host limit (R139).
-/

namespace Sys2Proof.Machine

def State.rg (s : State) (r : Nat) : Ring := tblGet {} s.fst.rings r
def State.setRg (s : State) (r : Nat) (x : Ring) : State := { s with fst := { s.fst with rings := tblSet {} s.fst.rings r x } }

/-- How many channels a mask names. -/
def chanCount (mask : Nat) : Nat := (maskChans mask).length

/-- The set a new lap takes (R148): channels in use that are not RETIRING. -/
def State.lapSet (s : State) : Nat := chanMask (fun c => s.chState c == chActive)

/-- Slots of a ring's index (R149). -/
def State.ringSlots (s : State) (r : Nat) : Nat := s.bands .FST_RING_IDX_BANDS r * chanCount s.fst.loadSet * 128

/-- Bytes written at byte `o` of a region (R143). -/
def State.regionWr (base mask : Nat) : Nat → List Byte → State → State
  | _, [], s => s
  | o, b :: rest, s => State.regionWr base mask (o + 1) rest (s.storeWr1 (s.regionAddr base mask o) b false)

/-- Bytes of record `x` of ring `r` at offset `o` of the record. -/
def State.recWr (s : State) (r : Nat) (x : Rec) (o : Nat) (data : List Byte) : State :=
  State.regionWr (s.bands .FST_RING_BASE r + s.bands .FST_RING_IDX_BANDS r) x.set (x.off + o) data s

/-- The store address of a record's first byte. -/
def State.recAddr (s : State) (r : Nat) (x : Rec) : Nat :=
  s.regionAddr (s.bands .FST_RING_BASE r + s.bands .FST_RING_IDX_BANDS r) x.set x.off

/-- The index entry of a record (R150). -/
def State.indexEntry (s : State) (r : Nat) (x : Rec) : List Byte :=
  bytesLE 6 x.frame ++ bytesLE 1 x.port
    ++ bytesLE 1 (b2n x.valid + 2 * b2n x.pinned + 4 * b2n x.final + 8 * b2n x.hasMap)
    ++ bytesLE 4 (secOf x.stamp) ++ bytesLE 4 (nsOf x.stamp) ++ bytesLE 8 (s.recAddr r x) ++ bytesLE 4 x.len
    ++ bytesLE 2 x.lap ++ bytesLE 2 (x.span.getD 0xFFFF)

/-- The index entry of a record written into its slot (R149). -/
def State.indexWr (s : State) (r : Nat) (x : Rec) : State :=
  State.regionWr (s.bands .FST_RING_BASE r) s.fst.loadSet (32 * x.slot) (s.indexEntry r x) s

/-- The bands of a record, counted from the start of the data area. -/
def Rec.firstBand (x : Rec) : Nat := x.off / (4096 * max 1 (chanCount x.set))
def Rec.lastBand (x : Rec) : Nat := (x.off + max 1 x.len - 1) / (4096 * max 1 (chanCount x.set))

/-- A record put in place of the one with its number, and its index entry written. -/
def State.setRec (s : State) (r : Nat) (x : Rec) : State :=
  let g := s.rg r
  (s.setRg r { g with recs := g.recs.map (fun y => if y.seq = x.seq then x else y) }).indexWr r x

/-- PINNED in a record's stored tag and index entry, with the span that holds it (R158). The flag is bit 2 of byte 2 of
the tag. -/
def State.pinRec (s : State) (r : Nat) (x : Rec) (pin : Bool) (span : Option Nat) : State :=
  let a := s.regionAddr (s.bands .FST_RING_BASE r + s.bands .FST_RING_IDX_BANDS r) x.set (x.off + 2)
  let old := ((s.storeRd a 1).headD 0).toNat
  let new := if pin then old ||| 4 else old - old / 4 % 2 * 4
  (s.storeWr1 a (BitVec.ofNat 8 new) false).setRec r { x with pinned := pin, span := span }

/-! ### Voiding (R150, R151, R161) -/

/-- The later of two stamps, where the first is known. -/
def laterStamp (a : Option Nat) (b : Nat) : Option Nat := some (max (a.getD 0) b)

/-- Records dropped from a list, their valid index entries cleared and counted. -/
def State.voidList (r : Nat) : List Rec → State → State
  | [], s => s
  | x :: rest, s => State.voidList r rest ((s.indexWr r { x with valid := false }).bump .FST_CNT_VOID r)

/-- TAIL is the oldest valid slot, or HEAD where no record is left. -/
def State.setTail (s : State) (r : Nat) : State :=
  match (s.rg r).recs with
  | [] => s.wr .FST_RING_TAIL (s.rd .FST_RING_HEAD r) r
  | x :: _ => s.wr .FST_RING_TAIL (BitVec.ofNat 32 x.slot) r

/-- The valid unpinned records with a property are voided; storage of released spans none of whose records is left is
freed. -/
def State.voidWhere (s : State) (r : Nat) (p : Rec → Bool) : State :=
  let g := s.rg r
  let gone := g.recs.filter (fun x => !x.pinned && p x)
  if gone.isEmpty then s
  else
    let s1 := State.voidList r gone s
    let s2 := (s1.setRg r { g with recs := g.recs.filter (fun x => x.pinned || !p x),
                                   voidStamp := gone.foldl (fun m x => laterStamp m x.stamp) g.voidStamp }).setTail r
    let dead := gone.map (·.seq)
    let trim (sp : Span) : Span := if sp.ring = r then { sp with seqs := sp.seqs.filter (fun q => !dead.contains q) } else sp
    { s2 with fst := { s2.fst with
        spans := (s2.fst.spans.map trim).filter (fun sp => !(sp.released && sp.seqs.isEmpty)) } }

/-! ### Spans -/

/-- The spans of ring `r` that are not released, oldest first. -/
def State.liveSpans (s : State) (r : Nat) : List Span := s.fst.spans.filter (fun sp => sp.ring = r && !sp.released)

/-- The records of a span. -/
def State.spanRecs (s : State) (sp : Span) : List Rec := (s.rg sp.ring).recs.filter (fun x => sp.seqs.contains x.seq)

/-- The first pinned band of ring `r` at or after band `b`, with the record that pins it (R151). The records that the lap `lap`
now written has put into the open span `join`, which the new record joins, do not stand in its way (DEDUCED, log entry 78). -/
def State.pinnedBandFrom (s : State) (r b lap : Nat) (join : Option Nat) : Option (Nat × Rec) :=
  let cands := (s.rg r).recs.filterMap (fun x =>
    if x.pinned && b ≤ x.lastBand && !(x.lap = lap && join.isSome && x.span = join) then some (max b x.firstBand, x) else none)
  cands.foldl (fun best c => match best with
    | none => some c
    | some d => if c.1 < d.1 then some c else some d) none

/-- The band after the span that holds record `x`: past the span's records of the same lap. -/
def State.pastSpan (s : State) (r : Nat) (x : Rec) : Nat :=
  ((s.rg r).recs.foldl (fun m y => if y.pinned && y.span = x.span && y.lap = x.lap then max m y.lastBand else m) x.lastBand) + 1

/-- A notice of R159, sent to the span queue and published. Fields that name a record read zero where the span has none yet, and
in REFUSED (DESIGN CHOICE, log entry 79). -/
def State.spanNotice (s : State) (kind : Nat) (sp : Span) (refused : Bool) : State :=
  let recs := s.spanRecs sp
  let first := recs.headD {}
  let last := recs.getLast?.getD {}
  let fb := recs.foldl (fun m x => min m x.firstBand) first.firstBand
  let lb := recs.foldl (fun m x => max m x.lastBand) 0
  let bands := if recs.isEmpty then 0 else
    ((List.range (lb + 1 - fb)).filter (fun b => recs.any (fun x =>
      decide (x.firstBand ≤ fb + b) && decide (fb + b ≤ x.lastBand)))).length
  let bytes := bytesLE 1 kind ++ bytesLE 1 sp.ring ++ bytesLE 2 (if refused then 0xFFFF else sp.id)
    ++ bytesLE 2 (b2n sp.shortPre + 2 * b2n sp.isOpen) ++ [0, 0] ++ bytesLE 4 first.slot
    ++ bytesLE 4 (if sp.isOpen then 0xFFFFFFFF else last.slot) ++ bytesLE 4 first.firstBand ++ bytesLE 4 bands
    ++ bytesLE 8 (first.frame % 2 ^ 48 + first.port * 2 ^ 48)
  (s.queSend (s.fld F.FST_CFG_SPAN_QUEUE) 0x10 7 bytes).publish (0x0A0 + sp.ring) kind s.now48

def State.putSpan (s : State) (sp : Span) : State :=
  let l := s.fst.spans
  if l.any (fun y => y.id = sp.id) then
    { s with fst := { s.fst with spans := l.map (fun y => if y.id = sp.id then sp else y) } }
  else { s with fst := { s.fst with spans := l ++ [sp] } }

/-- The records of a list enter span `id` (R158). -/
def State.pinAll (r id : Nat) : List Rec → State → State
  | [], s => s
  | x :: rest, s => State.pinAll r id rest (if x.pinned && x.span = some id then s else s.pinRec r x true (some id))

/-! ### What a migration copies (R172) -/

/-- The ranges of bands whose stripes the migration copies first: those of fixed regions, then the test-capture part (R172). -/
def State.fixedBands (s : State) : List (Nat × Nat) :=
  (List.range 16).map (fun r => if s.ringExists r then (s.bands .FST_RING_BASE r, s.bands .FST_RING_IDX_BANDS r) else (0, 0))
    ++ [(s.bands .FST_BUILD_BASE, s.bands .FST_BUILD_BANDS),
        (s.bands .FST_BANDS - s.bands .FST_MP_TEST_BANDS, s.bands .FST_MP_TEST_BANDS)]

/-- The `i`-th band of a list of ranges. -/
def nthBand : List (Nat × Nat) → Nat → Option Nat
  | [], _ => none
  | (b, n) :: rest, i => if i < n then some (b + i) else nthBand rest (i - n)

/-- The bands of the data area that a span pins and whose stripe on channel `c` is in use. -/
def State.spanBands (s : State) (c : Nat) (sp : Span) : List Nat :=
  let base := s.bands .FST_RING_BASE sp.ring + s.bands .FST_RING_IDX_BANDS sp.ring
  ((s.spanRecs sp).flatMap (fun x =>
    if natBit x.set c then (List.range (x.lastBand + 1 - x.firstBand)).map (fun i => base + x.firstBand + i) else [])).eraseDups

def State.copied (s : State) (band : Nat) : Bool := (tblGet none s.fst.copies band).isSome

/-- A MIGRATED notice for each closed span that has stripes on the channel, all of them copied (R172). -/
def State.migNotices (c : Nat) : List Span → State → State
  | [], s => s
  | sp :: rest, s =>
    let bands := s.spanBands c sp
    if sp.released || sp.migrated || sp.isOpen || bands.isEmpty || !bands.all s.copied then State.migNotices c rest s
    else
      let sp' := { sp with migrated := true }
      State.migNotices c rest ((s.putSpan sp').spanNotice 6 sp' false)

/-- The span with no records to come closes with a notice (R156), and with MIGRATED where all its stripes have been copied
already (R172). -/
def State.spanClose (s : State) (sp : Span) : State :=
  let sp' := { sp with isOpen := false, toCome := 0, closedAt := s.fine }
  let s1 := (s.putSpan sp').spanNotice 3 sp' false
  match s1.fst.retiring with
  | some c => if s1.chState c = chRetiring then State.migNotices c [sp'] s1 else s1
  | none => s1

/-- Records that entered a span have left the released ones they were still in, whose storage is free once it holds none (R161). -/
def State.leaveReleased (s : State) (r : Nat) (seqs : List Nat) : State :=
  let trim (sp : Span) : Span :=
    if sp.ring = r && sp.released then { sp with seqs := sp.seqs.filter (fun q => !seqs.contains q) } else sp
  { s with fst := { s.fst with spans := (s.fst.spans.map trim).filter (fun sp => !(sp.released && sp.seqs.isEmpty)) } }

/-- The lowest SPAN_ID in use by no span (R157). -/
def freeSpanId (spans : List Span) : Option Nat :=
  if 4096 ≤ spans.length then none
  else (List.range 4096).find? (fun i => !spans.any (fun sp => sp.id = i))

/-- The span of records `first` to `last` by number (`last` may be still to come) is made, or the spans it overlaps or
abuts grow to cover it (R154, R156, R157). Where several do, the oldest keeps its SPAN_ID and the others join it. -/
def State.makeSpan (s : State) (r first last : Nat) (short : Bool) : State :=
  let g := s.rg r
  let newest := g.started
  let recs := g.recs.filter (fun x => decide (first ≤ x.seq) && decide (x.seq ≤ last))
  let toCome := last + 1 - max first newest
  let endOf (sp : Span) : Nat := if 0 < sp.toCome then newest + sp.toCome else sp.seqs.foldl max 0 + 1
  let startOf (sp : Span) : Nat := sp.seqs.foldl min newest
  let meets (sp : Span) : Bool := decide (first ≤ endOf sp) && decide (startOf sp ≤ last + 1)
  match (s.liveSpans r).filter meets with
  | [] =>
    match freeSpanId s.fst.spans with
    | none => (s.bump .FST_CNT_SPAN_REFUSED r).spanNotice 7 ⟨0, r, [], 0, false, false, false, false, 0⟩ true
    | some id =>
      let sp : Span := ⟨id, r, recs.map (·.seq), toCome, decide (0 < toCome), short, false, false, 0⟩
      let s1 := ((State.pinAll r id recs (s.putSpan sp)).leaveReleased r sp.seqs).spanNotice 1 sp false
      if toCome = 0 then s1.spanClose sp else s1
  | sp :: others =>
    let seqs := (sp.seqs ++ others.flatMap (·.seqs) ++ recs.map (·.seq)).eraseDups
    let come := others.foldl (fun m o => max m o.toCome) (max toCome sp.toCome)
    let sp' : Span := { sp with seqs := seqs, toCome := come, isOpen := decide (0 < come), shortPre := sp.shortPre || short,
                                migrated := false }
    let s0 := { s with fst := { s.fst with spans := s.fst.spans.filter (fun y => !others.any (fun o => o.id = y.id)) } }
    let s1 := (s0.putSpan sp')
    let s2 := ((State.pinAll r sp.id (s1.spanRecs sp') s1).leaveReleased r seqs).spanNotice 2 sp' false
    if come = 0 then s2.spanClose sp' else s2

/-- The mark whose search has ended opens or extends its span (R156): `t` is the mark instant, `n` the number of records
that had started at it. Where the ring has not had PRE records since LOAD the span starts at TAIL too, with SHORT_PRE (DESIGN
CHOICE, log entry 79). -/
def State.markSpanNow (s : State) (r t n : Nat) : State :=
  let g := s.rg r
  let post := (s.rd .FST_RING_POST r).toNat
  let pre := (s.rd .FST_RING_PRE r).toNat
  let oldest := (g.recs.head?.map (·.seq)).getD g.started
  let at0 : Nat × Bool :=
    if s.flag F.FST_RING_CFG_PRE_UNIT r then
      if (match g.voidStamp with
        | some v => decide (t ≤ v + pre * 1250)
        | none => false) then (oldest, true)
      else match g.recs.find? (fun x => decide (t ≤ x.stamp + pre * 1250)) with
        | some x => (min x.seq n, false)
        | none => (n, false)
    else if pre < n && g.recs.any (fun x => x.seq = n - 1 - pre) then (n - 1 - pre, false)
    else (oldest, true)
  if n = 0 && post = 0 then s
  else s.makeSpan r at0.1 (n + post - 1) at0.2

/-- The number of records of ring `r` that had started before instant `t`: a record that starts in the fabric clock of a mark is
placed after the span has been created (R154, R156). -/
def State.startedBefore (s : State) (r t : Nat) : Nat :=
  match (s.rg r).recs.find? (fun x => decide (t ≤ x.at0)) with
  | some x => x.seq
  | none => (s.rg r).started

/-- Held records of ring `r` that had started before instant `t` and wait for the writer (R526). -/
def State.heldBefore (s : State) (r t : Nat) : Nat :=
  (s.fst.reefHeld.filter (fun h => h.ring = r && h.place.isNone && decide (h.at0 < t))).length

/-- The mark whose search is under way. -/
def State.searchDone (s : State) (r : Nat) : State :=
  match (s.rg r).search with
  | some (t, n) => (s.setRg r { s.rg r with search := none }).markSpanNow r t n
  | none => s

/-- A rewind mark at instant `t` before which `n` records had started. A mark that comes during the search of another ends that
search first. -/
def State.markFor (s : State) (r t n : Nat) : State :=
  let s1 := s.searchDone r
  if s1.flag F.FST_RING_CFG_PRE_UNIT r then s1.setRg r { s1.rg r with search := some (t, n) } else s1.markSpanNow r t n

/-- A rewind mark at instant `t` (R155, R156): taken in the reef state it waits for the exit (R526). -/
def State.mark (s : State) (r t : Nat) : State :=
  if !s.ringExists r then s
  else if s.reef && s.fst.selfRefresh then
    { s with fst := { s.fst with heldMarks := s.fst.heldMarks ++ [(r, t, s.startedBefore r t + s.heldBefore r t)] } }
  else s.markFor r t (s.startedBefore r t)

/-- A write of FST_MARK_CMD (R155, R180). -/
def execFstMarkGo (who : Requester) (v : Word) (s : State) : Res :=
  .next (s.writeGate who .FST_MARK_CMD 0 (
    if getBits v 31 1 = 1 then s.mark (getBits v 0 4) s.fine else s))

/-- The binary search of the index ends, within 5 µs of the mark instant (R156). -/
def execMarkSearchDone (r : Fin 16) (dt : Nat) (s : State) : Res :=
  .next (match (s.rg r.val).search with
    | some (t, _) => (s.passBy dt (t + 6250)).searchDone r.val
    | none => s.advance dt)

/-- PINNED leaves the records of a list; they stay in the span's storage until they are voided (R161). -/
def State.unpinAll (r : Nat) : List Rec → State → State
  | [], s => s
  | x :: rest, s => State.unpinAll r rest (s.pinRec r x false x.span)

/-- A span is released (R158, R160): an open one closes at the record last written. `kind` is RELEASED or EXPIRED. -/
def State.spanFree (s : State) (sp : Span) (kind : Nat) : State :=
  let sp' := { sp with isOpen := false, toCome := 0, released := true }
  let s1 := (State.unpinAll sp.ring (s.spanRecs sp) s).putSpan sp'
  let s2 := s1.spanNotice kind sp' false
  { s2 with fst := { s2.fst with spans := s2.fst.spans.filter (fun y => !(y.released && y.seqs.isEmpty)) } }

def State.spanFreeAll : List Span → State → State
  | [], s => s
  | sp :: rest, s => State.spanFreeAll rest (s.spanFree sp 4)

/-- Release of one span (R160, R180). -/
def execSpanRelease (who : Requester) (v : Word) (s : State) : Res :=
  .next (s.writeGate who .FST_SPAN_CMD 0 (
    match (s.liveSpans (getBits v 12 4)).find? (fun sp => sp.id = getBits v 0 12) with
    | some sp => s.spanFree sp 4
    | none => s))

/-- Release of every span of a ring (R160, R180). -/
def execSpanReleaseAll (who : Requester) (v : Word) (s : State) : Res :=
  .next (s.writeGate who .FST_SPAN_CMD 0 (State.spanFreeAll (s.liveSpans (getBits v 12 4)) s))

/-- HOLD seconds after a span closed it is released (R160). -/
def execSpanHoldExpiry (r : Fin 16) (span : BitVec 12) (dt : Nat) (s : State) : Res :=
  .next (
    let hold := s.fld F.FST_RING_CFG_HOLD r.val
    match (s.liveSpans r.val).find? (fun sp => sp.id = span.toNat) with
    | some sp => if sp.isOpen || hold = 0 then s.advance dt else (s.passTo dt (sp.closedAt + hold * 1250000000)).spanFree sp 5
    | none => s.advance dt)

/-! ### The writer (R151) -/

/-- Bytes of one lap of a ring with a set of `n` channels. -/
def State.lapBytes (s : State) (r n : Nat) : Nat := s.bands .FST_RING_DATA_BANDS r * 4096 * n

/-- Whether the entry in slot HEAD has PINNED = 1. -/
def State.headPinned (s : State) (r : Nat) : Bool :=
  (s.rg r).recs.any (fun x => x.slot = (s.rd .FST_RING_HEAD r).toNat && x.pinned)

/-- The span a record that starts now joins: the open one. -/
def State.openSpan (s : State) (r : Nat) : Option Span := (s.liveSpans r).find? (fun sp => decide (0 < sp.toCome))

/-- The loop of `place`: laps moved on by, offset in the lap; the answer names them for the record. -/
def State.placeLoop (s : State) (r need : Nat) : Nat → Nat → Nat → Option (Nat × Nat)
  | 0, _, _ => none
  | fuel + 1, lap, off =>
    let n := if lap = 0 then chanCount (s.fld F.FST_RING_STATUS_SET_CUR r) else chanCount s.lapSet
    let wrap := decide (s.lapBytes r n < off + need)
    let lap' := if wrap then lap + 1 else lap
    let off' := if wrap then 0 else off
    let n' := max 1 (if wrap then chanCount s.lapSet else n)
    let last := (off' + need - 1) / (4096 * n')
    match s.pinnedBandFrom r (off' / (4096 * n')) ((s.rd .FST_RING_LAP r).toNat + lap') ((s.openSpan r).map (·.id)) with
    | none => if s.headPinned r then none else some (lap', off')
    | some (b, x) =>
      if last < b then (if s.headPinned r then none else some (lap', off'))
      else s.placeLoop r need fuel lap' (s.pastSpan r x * 4096 * n')

/-- The writer moves to the start of the next lap `k` laps on (R148). -/
def State.wrapRing (s : State) (r k : Nat) : State :=
  if k = 0 then s
  else
    let prev := if k = 1 then s.fld F.FST_RING_STATUS_SET_CUR r else s.lapSet
    let s1 := (s.setFld F.FST_RING_STATUS_SET_PREV prev r).setFld F.FST_RING_STATUS_SET_CUR s.lapSet r
    let s2 := (s1.wr .FST_RING_LAP (BitVec.ofNat 32 ((s1.rd .FST_RING_LAP r).toNat + k)) r).setRg r { s1.rg r with wpOff := 0 }
    if s2.fst.retiring.isSome then { s2 with fst := { s2.fst with wrapped := tblSet false s2.fst.wrapped r true } } else s2

/-- FST_RING_WP_BAND shows the band of the write pointer. -/
def State.setWp (s : State) (r off : Nat) : State :=
  let n := max 1 (chanCount (s.fld F.FST_RING_STATUS_SET_CUR r))
  (s.setRg r { s.rg r with wpOff := off }).wr .FST_RING_WP_BAND
    (BitVec.ofNat 32 (s.bands .FST_RING_BASE r + s.bands .FST_RING_IDX_BANDS r + off / (4096 * n))) r

/-- Where the writer places a record of `need` bytes (R151): laps moved on by, and the offset in the lap. -/
def State.place (s : State) (r need : Nat) : Option (Nat × Nat) :=
  s.placeLoop r need ((s.fst.spans.filter (fun sp => sp.ring = r)).length + 3) 0 (s.rg r).wpOff

/-- The records that the writer voids for a place: those in slot HEAD, and those of earlier laps with a byte in its bands. The
record just before it, of the same lap, may share its first band (DEDUCED, log entry 78). -/
def State.voidFor (s : State) (r k off need : Nat) : State :=
  let lap := (s.rd .FST_RING_LAP r).toNat + k
  let n := max 1 (chanCount (if k = 0 then s.fld F.FST_RING_STATUS_SET_CUR r else s.lapSet))
  let b := off / (4096 * n)
  let e := (off + max 1 need - 1) / (4096 * n)
  let head := (s.rd .FST_RING_HEAD r).toNat
  s.voidWhere r (fun y => y.slot = head || (y.lap ≠ lap && decide (y.firstBand ≤ e) && decide (b ≤ y.lastBand)))

/-- The place of a record is voided ahead of span creation (R154). -/
def State.voidAhead (s : State) (r need : Nat) : State :=
  match s.place r need with
  | some (k, off) => s.voidFor r k off need
  | none => s

/-- A record that begins while a span is open joins it (R156, R158). -/
def State.spanJoin (s : State) (seq : Nat) : Option Span → State
  | some sp => s.putSpan { sp with seqs := sp.seqs ++ [seq], toCome := sp.toCome - 1, isOpen := decide (1 < sp.toCome), migrated := false }
  | none => s

/-- The span that the record joined closes where it was the last to come. -/
def State.spanJoined (s : State) (seq : Nat) : Option Span → State
  | some sp => if sp.toCome = 1 then s.spanClose { sp with seqs := sp.seqs ++ [seq], toCome := 0, migrated := false } else s
  | none => s

/-- A record is placed in ring `r` for a frame that starts (R151, R154, R156): the state with the record, and its number;
none where the ring is full. The open span is extended before the placement, and closes with its last record. -/
def State.placeRec (s : State) (r port frame stamp at0 need : Nat) : Option Nat × State :=
  match s.place r need with
  | none => (none, s)
  | some (k, off) =>
    let s1 := (s.voidFor r k off need).wrapRing r k
    let g := s1.rg r
    let seq := g.started
    let join := s1.openSpan r
    let s2 := s1.spanJoin seq join
    let head := (s2.rd .FST_RING_HEAD r).toNat
    let x : Rec := { slot := head, seq := seq, frame := frame, port := port, stamp := stamp, at0 := at0,
                     lap := (s2.rd .FST_RING_LAP r).toNat, off := off, len := need, set := s2.fld F.FST_RING_STATUS_SET_CUR r,
                     valid := true, pinned := join.isSome, span := join.map (·.id) }
    let s3 := (s2.setRg r { g with recs := g.recs ++ [x], started := seq + 1 }).indexWr r x
    let s4 := s3.wr .FST_RING_HEAD (BitVec.ofNat 32 ((head + 1) % max 1 (s3.ringSlots r))) r
    let s5 := ((s4.setTail r).setWp r (off + need)).setFld F.FST_RING_STATUS_RING_FULL 0 r
    (some seq, s5.spanJoined seq join)

/-- Whether an operation of R154 is a release of spans, which comes first. -/
def ringRelease : RingOp → Bool
  | .release _ _ | .releaseAll _ _ => true
  | _ => false

/-- What meets a frame start in its fabric clock is carried out. -/
def State.ringOps : List RingOp → State → State
  | [], s => s
  | o :: rest, s => State.ringOps rest (match o with
    | .mark who v => resState s (execFstMarkGo who v s)
    | .markEvent r => s.mark r.val s.fine
    | .release who v => resState s (execSpanRelease who v s)
    | .releaseAll who v => resState s (execSpanReleaseAll who v s))

/-- A record of ring `r` by number. -/
def State.findRec (s : State) (r seq : Nat) : Option Rec := (s.rg r).recs.find? (fun x => x.seq = seq)

/-- A record ends (R147, R149, R151): its index entry takes its length, and the write pointer moves back to its end where
it is the newest. -/
def State.endRec (s : State) (r seq len : Nat) (hasMap : Bool) : State :=
  match s.findRec r seq with
  | none => s
  | some x =>
    let s1 := s.setRec r { x with len := len, final := true, hasMap := hasMap }
    if (s1.rg r).started = seq + 1 && x.lap = (s1.rd .FST_RING_LAP r).toNat then s1.setWp r (roundUp (x.off + len) 128) else s1

/-- What place's failure does to the ring (R153). -/
def State.ringFull (s : State) (r : Nat) : State :=
  ((s.setFld F.FST_RING_STATUS_RING_FULL 1 r).setFld F.FST_RING_STATUS_FULL_SEEN 1 r).publish (0x090 + r) 0 s.now48

/-! ### The host limit (R138, R139, R178) -/

/-- S of R139 in GB/s for `n` channels at a grade code. -/
def sustained (grade n : Nat) : Nat := 205 * n * (7200 + 800 * grade) / 96000

/-- INUSE_MASK and HOST_LIMIT brought up to date. -/
def State.storeStatus (s : State) : State :=
  let mask := chanMask s.chInUse
  let n := chanCount mask
  let free := (2 * sustained (s.fld F.FST_STATUS_GRADE) n - 5 * s.variant.lanes) / 2
  (s.setFld F.FST_STATUS_INUSE_MASK mask).setFld F.FST_STATUS_HOST_LIMIT (max 4 (min 63 free))

/-- Whether the sustained bandwidth leaves less than 4 GB/s beside ingest, so that the writer may fall behind (R139). -/
def State.writerShort (s : State) : Bool :=
  decide (2 * sustained (s.fld F.FST_STATUS_GRADE) (chanCount (chanMask s.chInUse)) < 5 * s.variant.lanes + 8)

end Sys2Proof.Machine
end

