-- ==== Sys2Proof/Machine/DmaOps.lean ====
section
/-!
DEFINITION. DMA channels: requests to the host (R417, R422), loading, running and retiring descriptors (R433 to R443),
halts (R440), the cut-through legs of frame mode (R444 to R446) and pacing (R448).
-/

namespace Sys2Proof.Machine

def State.dm (s : State) (n : Nat) : Dma := tblGet {} s.dma n
def State.setDm (s : State) (n : Nat) (x : Dma) : State := { s with dma := tblSet {} s.dma n x }

/-! ### The states of R460 -/

def dmaIdle : Nat := 0
def dmaRunning : Nat := 1
def dmaParkedEnd : Nat := 2
def dmaParkedOwn : Nat := 3
def dmaWaitQueue : Nat := 4
def dmaHalted : Nat := 5
def dmaAborted : Nat := 6
def dmaReserved : Nat := 7

def State.dmaState (s : State) (n : Nat) : Nat := s.fld F.DMA_STATUS_STATE n
def State.setDmaState (s : State) (n st : Nat) : State := s.setFld F.DMA_STATUS_STATE st n
def State.frameMode (s : State) (n : Nat) : Bool := s.flag F.DMA_CFG_MODE n

/-- Units stop at a burst boundary in the reef state, until its recovery (R525, R527). -/
def State.shedding (s : State) : Bool := s.reef && s.fst.selfRefresh

/-! ### Requests to the host -/

/-- How many non-posted requests may be outstanding (R417). -/
def State.tagLimit (s : State) : Nat :=
  if natBit (s.cfgRd 0x78).toNat 12 then 768 else if natBit (s.cfgRd 0x58).toNat 8 then 256 else 32

/-- The lowest tag neither outstanding nor reserved. -/
def State.freeTag (s : State) : Option Nat :=
  if s.tagLimit ≤ s.pce.reqs.length then none
  else (List.range 1024).find? (fun t => !s.pce.reqs.any (fun r => r.tag = t) && !s.pce.reserved.any (fun r => r.1 = t))

/-- A read request is issued, or waits for a tag (R417). -/
def State.issue (s : State) (q : Req) : State :=
  match s.freeTag with
  | some t =>
    { s with pce := { s.pce with reqs := s.pce.reqs ++ [{ q with tag := t, sent := s.fine }] } }.linkWake.emit
      (.hostRead t q.addr q.len)
  | none => { s with pce := { s.pce with waitReqs := s.pce.waitReqs ++ [q] } }

/-- The first channel in turn of which `p` holds, the turn beginning at channel `k`. -/
def turnFrom (k : Nat) (p : Nat → Bool) : Option Nat := ((List.range 32).map (fun i => (k + i) % 32)).find? p

/-- The channel served next at the host request port among those of which `p` holds: channels in frame mode before those in chain
mode, those of one kind in turn (R447). -/
def State.portNext (s : State) (p : Nat → Bool) : Option Nat :=
  match turnFrom s.pce.frameTurn (fun n => s.frameMode n && p n) with
  | some n => some n
  | none => turnFrom s.pce.chainTurn (fun n => !s.frameMode n && p n)

/-- The turn of its kind moves on behind channel `n`. -/
def State.portServed (s : State) (n : Nat) : State :=
  if s.frameMode n then { s with pce := { s.pce with frameTurn := (n + 1) % 32 } }
  else { s with pce := { s.pce with chainTurn := (n + 1) % 32 } }

/-- Requests that wait are issued while there are tags: the channel served next gives its oldest (R447). -/
def State.issueWaiting : Nat → State → State
  | 0, s => s
  | k + 1, s =>
    match s.freeTag, s.portNext (fun n => s.pce.waitReqs.any (fun r => r.ch == n)) with
    | some _, some n =>
      match s.pce.waitReqs.find? (fun r => r.ch == n) with
      | some q =>
        State.issueWaiting k
          (({ s with pce := { s.pce with waitReqs := s.pce.waitReqs.eraseP (fun r => r.ch == n) } }.portServed n).issue q)
      | none => s
    | _, _ => s

def State.reissue (s : State) : State := State.issueWaiting s.pce.waitReqs.length s

/-- Channel `n` reads host memory; while no request may be issued it stays where it is (R424). -/
def State.dmaRead (s : State) (n : Nat) (kind : ReqKind) (addr len : Nat) : State :=
  if s.mayRequest then s.issue { tag := 0, ch := n, kind := kind, addr := addr, len := len }
  else s.setDm n { s.dm n with paused := true }

/-- Outstanding reads bring data that is discarded: `k` is `dropped` under R424 and R425, else `gone`. -/
def State.dropReqs (s : State) (k : ReqKind) (p : Req → Bool) : State :=
  { s with pce := { s.pce with reqs := s.pce.reqs.map (fun r => if p r then { r with kind := k } else r),
                               waitReqs := s.pce.waitReqs.filter (fun r => !p r) } }

/-- A write to host memory, cut so that no request crosses a 4 KiB boundary or exceeds Max_Payload_Size (R417). -/
def State.hostWrite (s : State) (relaxed : Bool) : Nat → Nat → List Byte → State
  | 0, _, _ => s
  | fuel + 1, addr, data =>
    match data with
    | [] => s
    | _ =>
      let mps := 128 * 2 ^ min 2 (getBits (s.cfgRd 0x58) 5 3)
      let c := min data.length (min mps (4096 - addr % 4096))
      (s.linkWake.emit (.hostWrite addr (data.take c) relaxed)).hostWrite relaxed fuel (addr + c) (data.drop c)

/-- Whether data writes of a channel carry Relaxed Ordering (R418). -/
def State.relaxed (s : State) (n : Nat) (d : Desc) : Bool :=
  natBit (s.cfgRd 0x58).toNat 4 && s.flag F.DMA_CFG_RO_EN n && natBit d.ctrl.toNat 4

/-! ### Descriptors -/

/-- The descriptor in 64 bytes (R433). -/
def parseDesc (b : List Byte) : Desc :=
  { ctrl := BitVec.ofNat 32 (fieldLE b 0 4), length := fieldLE b 4 4, src := fieldLE b 8 8, dst := fieldLE b 16 8,
    link := fieldLE b 24 8 }

def Desc.type (d : Desc) : Nat := getBits d.ctrl 1 3
def Desc.own (d : Desc) : Bool := natBit d.ctrl.toNat 0
def Desc.srcSpace (d : Desc) : Nat := getBits d.ctrl 8 2
def Desc.dstSpace (d : Desc) : Nat := getBits d.ctrl 10 2
def Desc.linkEnd (d : Desc) : Bool := d.link % 2 == 1

/-- The address a LINK names, with its space in bit 1 (R435). -/
def linkAddr (l : Nat) : Nat := l / 64 * 64 + l / 2 % 2 * 2

/-- Whether a descriptor address lies in store space. -/
def inStore (a : Nat) : Bool := a / 2 % 2 == 1

/-- Whether a descriptor gives BAD_DESC (R432, R434). -/
def State.badDesc (s : State) (n : Nat) (d : Desc) : Bool :=
  let t := d.type
  (if s.frameMode n then t != 1 else !(t == 0 || t == 2)) || d.length == 0
    || (t == 1 && d.dstSpace != 0)
    || (t == 0 && (d.srcSpace == 2 || d.srcSpace == 3))
    || (t == 2 && (d.srcSpace != 3 || s.queDepth (d.src % 64) == 0))
    || (t != 1 && (d.dstSpace == 3 || (d.dstSpace == 2 && (d.dst % 4 != 0 || d.length % 4 != 0))))

/-- DMA_CUR names a descriptor. -/
def State.setCur (s : State) (n a : Nat) : State :=
  (s.wr .DMA_CUR_LO (BitVec.ofNat 32 (a % 2 ^ 32)) n).wr .DMA_CUR_HI (BitVec.ofNat 32 (a / 2 ^ 32)) n

def State.dbCount (s : State) (n : Nat) : Nat := (s.rd .DMA_DB_COUNT n).toNat

/-- The load of a descriptor (R441): the doorbell count is taken as its read is issued. -/
def State.dmaLoad (s : State) (n a : Nat) : State :=
  let x := s.dm n
  let s1 := ((s.setDm n { x with phase := .loading, addr := a, snap := s.dbCount n, rx := [], got := false, asked := false,
                                 rxBad := [], moved := 0, items := 0, firstBad := none, sh := none }).setDmaState n dmaRunning)
  let s2 := if s.frameMode n && !x.ahead.isEmpty then s1 else s1.setCur n a
  if inStore a then s2 else s2.dmaRead n .desc (a / 64 * 64) 64

/-- A store read of a channel (R167); a place that is none counts (R142). -/
def State.dmaStoreRd (s : State) (a n : Nat) (errs : List (Nat × BurstErr)) : Fetch :=
  let r := s.storeFetch a n errs
  ⟨r.data, r.bad, if (List.range n).all (fun i => (s.storePlace (a + i)).isSome) then r.st else r.st.bump .FST_CNT_BAD_ACCESS⟩

/-- Bytes of ranges written with the check pattern of R172. -/
def State.storeWrBad (a : Nat) (data : List Byte) : List (Nat × Nat) → State → State
  | [], s => s
  | r :: rest, s => State.storeWrBad a data rest (s.storeWr (a + r.1) (takeAt data r.1 r.2) true)

/-- Bytes a channel writes to the store (R142, R146); those of the poisoned ranges with the check pattern of R172. -/
def State.dmaStoreWr (s : State) (a : Nat) (data : List Byte) (bad : List (Nat × Nat)) : State :=
  if (List.range data.length).all (fun i => s.storeHostWrites (a + i) && (s.storePlace (a + i)).isSome) then
    State.storeWrBad a data bad (s.storeWr a data false)
  else s.bump .FST_CNT_BAD_ACCESS

/-- One word written in unit space (R432). -/
def State.unitWr (s : State) (n a : Nat) (v : Word) : State :=
  if 0x00480000 ≤ a && a < 0x0048C000 then
    resState s (execStreamWindowWrite .unit (Fin.ofNat 12 ((a - 0x00480000) / 0x1000)) v s)
  else if lumBase + 0x10000 ≤ a && a < lumBase + 0x13000 then
    resState s (execFrameBufferWrite .unit false (Fin.ofNat 3072 ((a - lumBase - 0x10000) / 4)) v s)
  else if lumBase + 0x14000 ≤ a && a < lumBase + 0x17000 then
    resState s (execFrameBufferWrite .unit true (Fin.ofNat 3072 ((a - lumBase - 0x14000) / 4)) v s)
  else if lumBase + 0x18000 ≤ a && a < lumBase + 0x18600 then
    resState s (execDefectMapWrite .unit (Fin.ofNat 384 ((a - lumBase - 0x18000) / 4)) v s)
  else s.bump .DMA_CNT_BAD_ADDR n

/-- Words written in unit space at offsets of a transfer that wraps inside its 4 KiB window (R432). -/
def State.unitWrs (s : State) (n dst off : Nat) : List Word → State
  | [] => s
  | v :: rest => (s.unitWr n (dst / 4096 * 4096 + (dst + off) % 4096) v).unitWrs n dst (off + 4) rest

/-- The 4-byte words of a list of bytes. -/
def wordsOf (b : List Byte) : List Word := (List.range (b.length / 4)).map (fun i => BitVec.ofNat 32 (fieldLE b (4 * i) 4))

/-- `data` with zeros in the poisoned ranges. -/
def zeroBad (bad : List (Nat × Nat)) (data : List Byte) : List Byte :=
  data.zipIdx.map (fun x => if bad.any (fun r => decide (r.1 ≤ x.2) && decide (x.2 < r.1 + r.2)) then 0 else x.1)

/-- Bytes at offset `off` of a descriptor's destination (R432, R436, R439). -/
def State.dmaWrite (s : State) (n : Nat) (d : Desc) (off : Nat) (data : List Byte) (bad : List (Nat × Nat)) : State :=
  match d.dstSpace with
  | 0 => s.hostWrite (s.relaxed n d) (data.length + 1) (d.dst + off) (zeroBad bad data)
  | 1 => s.dmaStoreWr (d.dst + off) data bad
  | _ => s.unitWrs n d.dst off (wordsOf (zeroBad bad data))

/-! ### Retiring -/

/-- The write-back of R437 steps 3 and 4. -/
def State.dmaWriteBack (s : State) (a : Nat) (d : Desc) (status done info : Nat) : State :=
  let body := bytesLE 4 status ++ bytesLE 4 done ++ bytesLE 8 info
  let ctrl := bytesLE 4 (putBits d.ctrl 0 1 0).toNat
  let base := a / 64 * 64
  if inStore a then (s.dmaStoreWr (base + 0x20) body []).dmaStoreWr base ctrl []
  else if s.busMaster then (s.emit (.hostWrite (base + 0x20) body false)).emit (.hostWrite base ctrl false)
  else s

/-- STATUS of R438. -/
def dmaStatus (result : Nat) (firstBad : Option Nat) : Nat := result + (firstBad.getD 0) / 64 * 16

/-- A queue is no longer held by a DRAIN. -/
def State.dropDrain (s : State) (n : Nat) (d : Desc) : State :=
  if d.type = 2 && (s.queue (d.src % 64)).drain = some n then
    s.putQue (d.src % 64) { s.queue (d.src % 64) with drain := none }
  else s

/-- The shadow copy is given up, with its read (R431). -/
def State.dropShadow (s : State) (n : Nat) : State :=
  (s.dropReqs .gone (fun r => r.ch == n && r.kind == .shadow)).setDm n { s.dm n with sh := none }

/-- A halting error (R440). `back` says that the descriptor itself had been read. -/
def State.dmaHalt (s : State) (n code : Nat) (back : Bool) : State :=
  let x := s.dm n
  let s1 := if back then s.dmaWriteBack x.addr x.desc (dmaStatus code none) x.moved 0 else s
  let s2 := (s1.dropDrain n x.desc).dropReqs .gone (fun r => r.ch = n)
  let s3 := (s2.setDm n { x with phase := .none, ahead := [], stop := false, startBusy := false, sh := none }).setDmaState n dmaHalted
  ((s3.setFld F.DMA_STATUS_LAST_ERR code n).setFld F.DMA_STATUS_IN_FLIGHT 0 n).setCur n x.addr |>.msixReq (s3.fld F.DMA_CFG_ERR_VEC n)

/-! ### Pacing (R448) -/

/-- Bandwidth per direction of the link in units of 10 MB/s (R399). -/
def State.linkBandwidth (s : State) : Nat :=
  let w := s.fld F.PCE_STATUS_LINK_WIDTH
  match s.fld F.PCE_STATUS_LINK_SPEED with
  | 1 => 25 * w
  | 2 => 50 * w
  | 3 => w * 6300 / 64
  | 4 => w * 6300 / 32
  | 5 => w * 6300 / 16
  | _ => 0

/-- Whether a descriptor has a host address. -/
def Desc.host (d : Desc) : Bool := d.dstSpace == 0 || (d.type == 0 && d.srcSpace == 0)

/-- What the credit of a channel grows by in a fine count. -/
def State.dmaRate (s : State) (n : Nat) : Nat :=
  (if (s.dm n).desc.host || s.frameMode n then s.linkBandwidth else 6400) * 8 * (s.fld F.DMA_CFG_SHARE n + 1)

/-- The credit of a channel now, up to one burst. -/
def State.creditNow (s : State) (n : Nat) : Nat :=
  let x := s.dm n
  min 131072000 (x.credit + (s.fine - x.creditAt) * s.dmaRate n)

/-- The credit brought up to the present, before what it grows by changes. -/
def State.dmaCredit (s : State) (n : Nat) : State :=
  s.setDm n { s.dm n with credit := s.creditNow n, creditAt := s.fine }

def State.creditAll : List Nat → State → State
  | [], s => s
  | n :: rest, s => State.creditAll rest (s.dmaCredit n)

/-- `c` bytes are paid for. -/
def State.dmaPay (s : State) (n c : Nat) : State :=
  s.setDm n { s.dm n with credit := s.creditNow n - c * 256000, creditAt := s.fine }

/-- The instant by which the credit covers `c` bytes, where it ever does. -/
def State.creditDue (s : State) (n c : Nat) : Nat :=
  let x := s.dm n
  let need := min 131072000 (c * 256000) - x.credit
  if s.dmaRate n = 0 then 0 else x.creditAt + (need + s.dmaRate n - 1) / s.dmaRate n

def State.creditCovers (s : State) (n c : Nat) : Bool := decide (c * 256000 ≤ s.creditNow n)

/-! ### The chain (R431, R441, R442) -/

/-- A descriptor as it runs: in chain mode the next one of the chain is read into the shadow, the doorbell count taken as its read
is issued (R431, R441). -/
def State.startDesc (s : State) (n : Nat) (d : Desc) : State :=
  let s0 := s.dmaCredit n
  let s1 := s0.setDm n { s0.dm n with desc := d, phase := .moving, backOk := false, got := false, asked := false, rx := [], rxBad := [],
                                      sh := none }
  let s2 := if d.type = 2 then
      let q := d.src % 64
      let x := s1.queue q
      (s1.putQue q { x with drain := some n }).setDmaState n (if x.items = 0 then dmaWaitQueue else dmaRunning)
    else s1.setDmaState n dmaRunning
  if d.linkEnd then s2
  else
    let a := linkAddr d.link
    let s3 := s2.setDm n { s2.dm n with sh := some { addr := a, snap := s2.dbCount n } }
    if inStore a then s3 else s3.dmaRead n .shadow (a / 64 * 64) 64

/-- A descriptor that has been read: it runs, or parks the channel with OWN = 0 unless a doorbell has come since its read was
issued, or gives BAD_DESC (R434, R441, R442). -/
def State.takeDesc (s : State) (n : Nat) (d : Desc) : State :=
  let x := s.dm n
  if !d.own then
    if s.dbCount n = x.snap then
      ((s.setDm n { x with phase := .none, startBusy := false }).bump .DMA_CNT_OWN_WAIT n).setDmaState n dmaParkedOwn
    else s.dmaLoad n x.addr
  else if s.badDesc n d then (s.setDm n { x with desc := d }).dmaHalt n 0xA true
  else s.startDesc n d

/-- The shadow becomes the working descriptor (R431); one still being read is waited for, and a read that failed halts the channel
now (R440). -/
def State.dmaPromote (s : State) (n : Nat) (h : Shadow) : State :=
  let x := s.dm n
  let s1 := (((s.setDm n { x with phase := .loading, addr := h.addr, snap := h.snap, rx := h.rx.getD [], got := h.rx.isSome,
                                  asked := false, rxBad := [], moved := 0, items := 0, firstBad := none, sh := none }).setDmaState n
    dmaRunning).setCur n h.addr)
  match h.fail, h.desc with
  | some code, _ => s1.dmaHalt n code false
  | none, some d => (s1.setDm n { s1.dm n with phase := .none, rx := [], got := false }).takeDesc n d
  | none, none =>
    let turn (r : Req) : Req := if r.ch = n && r.kind = .shadow then { r with kind := .desc } else r
    { s1 with pce := { s1.pce with reqs := s1.pce.reqs.map turn, waitReqs := s1.pce.waitReqs.map turn } }

/-- Parked at the end of a chain, or re-reading the link where a doorbell has come since (R441). -/
def State.endCheck (s : State) (n : Nat) : State :=
  let x := s.dm n
  if s.dbCount n = x.snap then
    (s.setDm n { x with phase := .none, startBusy := false }).setDmaState n dmaParkedEnd
  else
    let s1 := (s.setDm n { x with phase := .reread, snap := s.dbCount n, rx := [], got := false }).setDmaState n dmaRunning
    if inStore x.addr then s1 else s1.dmaRead n .link (x.addr / 64 * 64 + 0x18) 8

/-- After a descriptor has retired: IDLE on STOP, RESERVED for a migration (R451), else the chain goes on. -/
def State.dmaNext (s : State) (n : Nat) : State :=
  let x := s.dm n
  if x.stop then
    let s := s.dropShadow n
    (s.setDm n { s.dm n with phase := .none, stop := false, startBusy := false, ahead := [] }).setDmaState n dmaIdle
  else if x.migWait then
    let s := s.dropShadow n
    (s.setDm n { s.dm n with phase := .none, migWait := false }).setDmaState n dmaReserved
  else if x.desc.linkEnd then s.endCheck n
  else match x.sh with
    | some h => s.dmaPromote n h
    | none => s.dmaLoad n (linkAddr x.desc.link)

/-- A descriptor retires (R437, R438). -/
def State.dmaRetire (s : State) (n a : Nat) (d : Desc) (result : Nat) (firstBad : Option Nat) (done info : Nat) : State :=
  let s1 := (s.dmaWriteBack a d (dmaStatus result firstBad) done info).bump .DMA_CNT_DESC n
  let s2 := if natBit d.ctrl.toNat 6 then s1.publish (0x1E0 + n) 0 s1.now48 else s1
  if natBit d.ctrl.toNat 5 then s2.msixReq (s2.fld F.DMA_CFG_DONE_VEC n) else s2

/-! ### Frame mode (R444 to R446) -/

/-- Whether a frame-mode channel takes a descriptor more ahead, and loads it. -/
def State.ctRefill (s : State) (n : Nat) : State :=
  let x := s.dm n
  if x.phase != .none || 8 ≤ x.ahead.length then s
  else if x.stop && x.ahead.isEmpty then s.dmaNext n
  else if x.stop then s
  else if x.migWait then (if x.ahead.isEmpty then s.dmaNext n else s)
  else if x.desc.linkEnd then (if x.ahead.isEmpty then s.dmaNext n else s)
  else s.dmaLoad n (linkAddr x.desc.link)

/-- IN_FLIGHT shows the frames in flight. -/
def State.ctShow (s : State) (n : Nat) : State :=
  s.setFld F.DMA_STATUS_IN_FLIGHT ((s.dm n).ahead.filter (fun c => c.taken.isSome)).length n

/-- A frame starts on channel `n` (R444): whether its leg takes a descriptor, and the state after. `need` is none for an
opaque frame; `tag` is the preliminary tag. -/
def State.ctStart (s : State) (n port frame : Nat) (need : Option Nat) (tag : List Byte) : Bool × State :=
  let x := s.dm n
  let drop := (false, s.bump .DMA_CNT_CT_DROP n)
  if !s.frameMode n || !s.mayRequest || x.paused || s.dmaState n = dmaReserved then drop
  else match x.ahead.find? (fun c => c.taken.isNone) with
    | none => drop
    | some c =>
      if c.desc.length < need.getD 0 then (false, s.bump .DMA_CNT_CT_SIZE n)
      else
        let c' := { c with taken := some (port, frame), pend := [(0, tag)] }
        (true, (s.setDm n { x with ahead := x.ahead.map (fun y => if y.addr = c.addr then c' else y) }).ctShow n)

/-- A channel's share of the cut-through buffer of its half (R446). -/
def State.ctShare (s : State) (n : Nat) : Nat :=
  let half := n / 16
  4 * 2 ^ 20 / max 1 ((List.range 16).filter (fun k => s.frameMode (16 * half + k))).length

/-- Bytes that wait in a channel's share. -/
def Dma.buffered (x : Dma) : Nat := (x.ahead.map (fun c => (c.pend.map (fun p => p.2.length)).sum)).sum

/-- Bytes of a frame enter the buffer (R445, R446): those that find no room, or lie beyond the host buffer, are lost. -/
def State.ctData (s : State) (n port frame off : Nat) (data : List Byte) : State :=
  let x := s.dm n
  let room := s.ctShare n - x.buffered
  let put (c : CtSlot) : CtSlot :=
    if c.taken = some (port, frame) && c.fin.isNone then
      let keep := min (min room data.length) (c.desc.length - off)
      { c with pend := if keep = 0 then c.pend else c.pend ++ [(off, data.take keep)],
               lostAt := if keep < data.length then some (min (off + keep) (c.lostAt.getD (off + keep))) else c.lostAt }
    else c
  s.setDm n { x with ahead := x.ahead.map put }

/-- A frame ends on its leg: the final tag, and the byte map where it has one (R445). -/
def State.ctEnd (s : State) (n port frame : Nat) (tag : List Byte) (mapOff : Nat) (map : List Byte) : State :=
  let s1 := if map.isEmpty then s else s.ctData n port frame mapOff map
  let x := s1.dm n
  s1.setDm n { x with ahead := x.ahead.map (fun c =>
    if c.taken = some (port, frame) && c.fin.isNone then { c with fin := some tag } else c) }

/-- Frames in flight are dropped and their descriptors held for new frames (R449). -/
def State.ctDropAll (s : State) (n : Nat) : State :=
  let x := s.dm n
  let k := (x.ahead.filter (fun c => c.taken.isSome)).length
  ((s.bumpBy .DMA_CNT_CT_DROP k n).setDm n { x with ahead := x.ahead.map (fun c =>
    { c with taken := none, pend := [], high := 0, lostAt := none, fin := none, rb := false }) }).ctShow n

end Sys2Proof.Machine
end

