-- ==== Sys2Proof/Machine/ScanMotion.lean ====
section
/-!
DEFINITION. Late data (R313), the sub-states of pause and resume (R335, R336), head temperature (R338), the Shroud link
(R318 to R325), the clearance checker (R330 to R333) and the fiducial records of the grid updater (R327, R328).
-/

namespace Sys2Proof.Machine

/-- Commands on beam `n`: time passes, and the plan runs up to the present. -/
def State.onBeam (s : State) (n dt : Nat) (k : State → State) : State :=
  if !s.hasBeam n || !s.ready then s.advance dt else k ((s.advance dt).refresh n)

/-- LATE_DATA (R313, R334): a pause in a chain or with a turn-on ahead, else a wait after the planned motion. -/
def execLateData (n : Fin 12) (dt : Nat) (s : State) : Res :=
  .next (s.onBeam n.val dt (fun s =>
    let x := s.sc n.val
    let pe := planEnd x.plan
    if s.scnState n.val != scnRunning || s.fine + 62500 ≤ pe then s
    else
      let s1 := s.bump .SCN_CNT_LATE n.val
      let ahead := x.plan.any (fun g => g.kind == .emit && decide (0 < g.len) && decide (s.fine < g.t0))
      if x.chain ≠ 0 || ahead then
        let v := ((x.plan.getLast?).map (fun g => g.speedOf (s.derate n.val))).getD 1
        let tS := max (s.nextFrame n.val) (pe - timeAt v (s.rampLen n.val))
        s1.pauseFor n.val 1 { tS := tS, ramp := s.rampLen n.val }
      else
        (s1.setSc n.val { x with wait := .late }).setFld F.SCN_STATUS_STATE scnWaiting n.val))

/-! ### The sub-states of a pause -/

/-- The instant at which the sub-state of a pause ends (R335, R336); a re-fire that is still held starts then. -/
def State.phaseDue (s : State) (n : Nat) (p : Pause) : Nat :=
  match p.phase with
  | 1 => p.since + timeAt p.v p.ramp
  | 2 => p.since + accTime p.dv (s.accPause n)
  | 4 =>
    let dist := (p.park - (p.qS - s.reentryLen n p.vr)).toNat
    p.since + jumpTime (s.sc n).vJump (s.accJump n) dist + s.jumpSettle n
  | 5 => if p.go then p.since + s.reentryTime n p.vr else max p.since (s.refireStart n p (p.grant.getD p.tp))
  | _ => p.since + timeAt p.vr p.ramp

/-- The end of sub-state `phase` of a pause under way: time passes up to its instant, at which `k` acts. -/
def State.phaseEnd (s : State) (n dt phase : Nat) (k : Pause → Nat → State → State) : State :=
  s.onBeam n dt (fun s =>
    match (s.sc n).pause with
    | some p =>
      if p.begun && p.phase = phase && s.scnState n == scnPaused then k p (s.phaseDue n p) (s.passTo 0 (s.phaseDue n p)) else s
    | none => s)

/-- RAMP_OFF ends at S + L_RAMP, and emission with it (R335). -/
def execRampOffEnd (n : Fin 12) (dt : Nat) (s : State) : Res :=
  .next (s.phaseEnd n.val dt 1 (fun p t s =>
    (s.setPhaseAt n.val { p with dq := p.qS + p.ramp, dv := p.v } 2 t).setWant n.val false))

/-- DECEL ends at rest: PARKED, or HALTED (R335, R339). -/
def execDecelEnd (n : Fin 12) (dt : Nat) (s : State) : Res :=
  .next (s.phaseEnd n.val dt 2 (fun p _ s => (s.parked n.val p).resumeCheck n.val))

/-- BACKUP ends, and the re-fire turn-on is requested (R336): t_p is the instant at which REENTRY reaches S, plus ON_DLY,
and at least 40 µs ahead. Without a rotation group the request is granted as planned. A clean halt that came on the way is
complete (R337). -/
def execBackupEnd (n : Fin 12) (dt : Nat) (s : State) : Res :=
  .next (s.phaseEnd n.val dt 4 (fun p t s =>
    if p.haltCause ≠ 0 then
      (s.setSc n.val { s.sc n.val with pause := some { p with phase := 3, park := p.qS - s.reentryLen n.val p.vr } }).haltAt n.val
        p.haltCause p.idx p.off
    else
      let plain := (t + s.reentryTime n.val p.vr : Nat) + s.refireDly n.val
      let tp := (max plain ((t + 50000 : Nat) : Int)).toNat
      let group := decide (s.fld F.BCH_CFG_ROT_GROUP n.val < 4)
      let q := { p with tp := tp, grant := if group then none else some tp, go := !group && decide ((tp : Int) = plain) }
      let s1 := s.setPhaseAt n.val q 5 t
      if group then s1.rotRequest n.val tp true else s1))

/-- The hold at S − L_REENTRY ends, and REENTRY accelerates (R336). -/
def execRefireHoldEnd (n : Fin 12) (dt : Nat) (s : State) : Res :=
  .next (s.phaseEnd n.val dt 5 (fun p t s => if p.go || p.grant.isNone then s else s.setPhaseAt n.val { p with go := true } 5 t))

/-- The plan from `d` nm of its path on, the part before it drawn. -/
def State.skipPath (n : Nat) : Nat → Nat → State → State
  | 0, _, s => s
  | fuel + 1, d, s =>
    let x := s.sc n
    match x.plan with
    | [] => s
    | g :: rest =>
      if 0 < g.len && d < g.len then
        let c := g.cut d
        s.setSc n { x with plan := c.2 :: rest, done := c.1 :: x.done, x := c.1.x1, y := c.1.y1, z := c.1.z1, sDone := g.s0 + d }
      else State.skipPath n fuel (d - g.len) (s.retire n g rest)

/-- A pause ends at an instant (R335, R337): the rest of the plan runs from then, and a further cause starts the next pause here. -/
def State.endPause (s : State) (n : Nat) (p : Pause) (d t : Nat) : State :=
  let s1 := State.skipPath n ((s.sc n).plan.length + 1) d s
  let x := s1.sc n
  let s2 := ((s1.setSc n { x with pause := none, plan := retime (s1.derate n) t x.plan }).setFld
    F.SCN_STATUS_STATE scnRunning n).setFld F.SCN_STATUS_PSTATE 0 n
  let s3 := s2.reRequest n
  if p.further && s3.anyCause n then
    ((s3.setSc n { s3.sc n with pause := some { tS := s3.fine, ramp := s3.rampLen n } }).bump .SCN_CNT_PAUSE n).refresh n
  else s3.refresh n

/-- REENTRY reaches S (R335): EMITn rises and RAMP_ON starts, or with no ramp the pause ends. A dark move fires
nothing. -/
def execReentryEnd (n : Fin 12) (dt : Nat) (s : State) : Res :=
  .next (s.phaseEnd n.val dt 5 (fun p t s =>
    if !p.go then s
    else
      let emits := ((s.sc n.val).plan.head?.map (fun g => g.kind == .emit)).getD false
      if p.ramp = 0 || !emits then (s.setWant n.val emits).endPause n.val p 0 t
      else (s.setPhaseAt n.val p 6 t).setWant n.val true))

/-- RAMP_ON reaches S + L_RAMP: power returns to the sheet unit (R335). -/
def execRampOnEnd (n : Fin 12) (dt : Nat) (s : State) : Res :=
  .next (s.phaseEnd n.val dt 6 (fun p t s => s.endPause n.val p p.ramp t))

/-- The hold at a chain start for a rotation grant ends (R316). -/
def execRotationHoldEnd (n : Fin 12) (dt : Nat) (s : State) : Res :=
  .next (s.onBeam n.val dt (fun s =>
    match (s.sc n.val).holdUntil with
    | some t => ((s.passTo 0 t).refresh n.val).setSc n.val { ((s.passTo 0 t).refresh n.val).sc n.val with holdUntil := none }
    | none => s))

/-! ### Head temperature (R338) -/

/-- DERATED changes at the next record boundary, or at once where nothing is planned. -/
def State.derateSoon (s : State) (n : Nat) (b : Bool) : State :=
  if (s.sc n).plan.isEmpty then s.setFld F.SCN_STATUS_DERATED (b2n b) n
  else s.setSc n { s.sc n with derateNext := some b }

/-- A head temperature is judged against the limit. -/
def State.headTemp (s : State) (n temp : Nat) : State :=
  let limit := s.fld F.SCN_TEMP_TEMP_LIMIT n
  let st := s.scnState n
  let der := s.flag F.SCN_STATUS_DERATED n
  let x := s.sc n
  if !s.flag F.SCN_CFG_TEMP_EN n || !(st == scnRunning || st == scnWaiting || st == scnLayerWait || st == scnPaused) then s
  else if limit ≤ temp then
    if der || x.derateNext = some true || s.flag F.SCN_STATUS_CAUSE_TEMP n then s
    else if x.inPause then s.setFld F.SCN_STATUS_DERATED 1 n
    else match s.moveNow n with
      | some g =>
        if g.kind == .emit || g.arc.isSome then
          if g.len - g.drawn (s.derate n) s.fine ≤ s.fld F.SCN_GRACE_GRACE n * 1000 then s.derateSoon n true
          else (s.bump .SCN_CNT_TEMP_SPLIT n).pauseFor n 3 { tS := s.nextFrame n, ramp := s.rampLen n }
        else s.derateSoon n true
      | none => s.derateSoon n true
  else if temp + s.fld F.SCN_TEMP_TEMP_HYST n ≤ limit && (der || x.derateNext = some true) then s.derateSoon n false
  else s

/-! ### The Shroud link -/

/-- The power domain of Shroud port `n` (R304). -/
def shroudDom (n : Nat) : Nat := 56 + n / 3

/-- A signed field of `k` nibbles, lowest first. -/
def nibbles (k : Nat) (v : Int) : List Nat := (List.range k).map (fun i => unsext (4 * k) v / 16 ^ i % 16)

/-- The number in nibbles `i` to `i + k - 1`. -/
def nibField (l : List (BitVec 4)) (i k : Nat) : Nat :=
  ((List.range k).map (fun j => (l.getD (i + j) 0).toNat * 16 ^ j)).sum

/-- The nibble of a data group. -/
def nibbleOf (g : BitVec 5) : Option (BitVec 4) := (codeGroups.findIdx? (· == g)).map (BitVec.ofNat 4)

/-- The nibbles of code groups, where every one is a data group. -/
def nibblesOf : List (BitVec 5) → Option (List (BitVec 4))
  | [] => some []
  | g :: rest => match nibbleOf g, nibblesOf rest with
    | some x, some l => some (x :: l)
    | _, _ => none

/-- The bits of code groups, leftmost first (R318). -/
def groupBits (l : List (BitVec 5)) : List Bool := l.flatMap (fun g => (List.range 5).map (fun i => g.getLsbD (4 - i)))

/-- NRZI from a level on: 1 is a transition (R318). -/
def nrzi (level : Bool) : List Bool → List Bool
  | [] => []
  | b :: rest => (level != b) :: nrzi (level != b) rest

/-- A downstream frame on the wire: J, K and its nibbles (R318). -/
def State.shroudLine (s : State) (n : Nat) (body : List Nat) : State :=
  let groups := delimiter ++ body.map (fun k => codeGroups.getD k 0)
  let levels := nrzi (s.sc n).line (groupBits groups)
  (s.setSc n { s.sc n with line := levels.getLastD (s.sc n).line }).emit (.shroudLine n levels)

/-- A focus command as a signed 24-bit number. -/
def fits24 (v : Int) : Bool := decide (-(2 ^ 23) ≤ v) && decide (v < 2 ^ 23)

/-- A downstream frame starts (R315, R318, R319, R323): one every 125 Shroud clocks, 1 µs, the plan is evaluated at its start
instant, and the path values go to the sheet unit. A frame of a STOPPED or DONE interpreter carries the last command with
VALID = 0. -/
def execShroudFrameSend (n : Fin 12) (dt : Nat) (s : State) : Res :=
  .next (s.onBeam n.val (max dt (s.nextFrame n.val - s.fine)) (fun s =>
    if !s.domOn (shroudDom n.val) then s
    else
      let st := s.scnState n.val
      let valid := !(st == scnStopped || st == scnDone)
      let x := s.sc n.val
      let pt := s.bedPoint n.val
      let c := s.gridCommand n.val pt
      let q := if valid then c.1 else (x.cmdX, x.cmdY, x.cmdZ)
      let s1 := if valid && c.2 then s.bump .SCN_CNT_FIELD_CLAMP n.val else s
      let seq := (x.seq + 1) % 16
      let u := s.unitNow n.val
      let f : Sent := { seq := seq, inst := s.fine, qx := q.1, qy := q.2.1, s := s.layerPath n.val, x := pt.1, y := pt.2.1,
                        ux := u.1, uy := u.2 }
      let s2 := s1.setSc n.val { x with seq := seq, cmdX := q.1, cmdY := q.2.1, cmdZ := q.2.2, sent := (f :: x.sent).take 16 }
      let ctrl := b2n valid
      let body := [seq, ctrl] ++ nibbles 6 q.1 ++ nibbles 6 q.2.1 ++ nibbles 6 q.2.2
      let s3 := (s2.pathValues n.val (s2.pProg n.val) (speedQ (s2.pathSpeed n.val))).emit
        (.shroud n.val seq ctrl q.1 q.2.1 q.2.2 (crc12 body))
      s3.shroudLine n.val (body ++ nibbles 3 (crc12 body))))

/-- The derivative of the bilinear map in the cell of a bed point, times step² (R325): dX/dx, dX/dy, dY/dx, dY/dy. -/
def State.gridDeriv (s : State) (n : Nat) (px py : Int) : Int × Int × Int × Int :=
  let step := atLeast1 (s.rd .SCN_GRID_STEP n).toNat
  let cx := axisCell px (s.sgn .SCN_GRID_X0 n) step
  let cy := axisCell py (s.sgn .SCN_GRID_Y0 n) step
  let m : Int := step
  let a : Int := cx.2.1
  let b : Int := cy.2.1
  let n00 := s.node n cx.1 cy.1
  let n10 := s.node n (cx.1 + 1) cy.1
  let n01 := s.node n cx.1 (cy.1 + 1)
  let n11 := s.node n (cx.1 + 1) (cy.1 + 1)
  let ddx (v00 v10 v01 v11 : Int) : Int := (m - b) * (v10 - v00) + b * (v11 - v01)
  let ddy (v00 v10 v01 v11 : Int) : Int := (m - a) * (v01 - v00) + a * (v11 - v10)
  (ddx n00.1 n10.1 n01.1 n11.1, ddy n00.1 n10.1 n01.1 n11.1,
   ddx n00.2.1 n10.2.1 n01.2.1 n11.2.1, ddy n00.2.1 n10.2.1 n01.2.1 n11.2.1)

/-- p_m of R325. Where the map has no inverse the spec states none: an open value (log entry 85). -/
def State.measured (s : State) (n : Nat) (f : Sent) (rx ry : Int) : Int :=
  let j := s.gridDeriv n f.x f.y
  let m : Int := atLeast1 (s.rd .SCN_GRID_STEP n).toNat
  let det := j.1 * j.2.2.2 - j.2.1 * j.2.2.1
  let ex := rx - f.qx
  let ey := ry - f.qy
  let dx := (j.2.2.2 * ex - j.2.1 * ey) * (m * m)
  let dy := (j.1 * ey - j.2.2.1 * ex) * (m * m)
  let num := f.ux * dx + f.uy * dy
  f.s + (if det = 0 then Config.pathOver ex ey
    else if 0 < det then divRound num (det.natAbs * 2 ^ 30) else divRound (-num) (det.natAbs * 2 ^ 30))

/-- The copies of a head's position words for the strobe watchdog (R291): those of the last 32 µs. -/
def State.wdWords (s : State) (n : Nat) (x y : Int) : State :=
  let b := s.bc n
  let ws := (s.fine, x, y) :: b.words.filter (fun w => decide (s.fine ≤ w.1 + 40000))
  let dx := (ws.map (fun w => (x - w.2.1).natAbs)).foldl max 0
  let dy := (ws.map (fun w => (y - w.2.2).natAbs)).foldl max 0
  let slow := max dx dy * (s.rd .BCH_WD_SCALE n).toNat < s.fld F.BCH_WD_DWELL_V_MIN n * 32 * 65536
  s.setBc n { b with words := ws, posAt := s.fine,
                     slowAt := if slow then (if b.slowAt.isSome then b.slowAt else some s.fine) else none }

/-- READY = 0 (R322): a halt inside a mark chain or a resume; before the next chain the head holds (State.holdNotReady). -/
def State.headNotReady (s : State) (n : Nat) : State :=
  let inResume := match (s.sc n).pause with
    | some p => p.begun && (p.phase = 4 || p.phase = 5 || p.phase = 6)
    | none => false
  if inResume || s.marking n then s.hardHaltActive n 9 else s

/-- The port hunts (R322): it is synchronised by the second of two good frames whose J lie 125 bits apart; frames before that are
not taken. -/
def State.shroudHunt (s : State) (n j : Nat) : State :=
  let near := match (s.sc n).cand with
    | some t => decide (t + 1249 ≤ j) && decide (j ≤ t + 1251)
    | none => false
  s.setSc n { s.sc n with synced := near, cand := some j }

/-- The nibbles of a frame with good CRC12 whose code groups are all data groups (R318, R322). -/
def goodFrame (groups : List (BitVec 5)) : Option (List (BitVec 4)) :=
  match nibblesOf groups with
  | none => none
  | some nibs =>
    if nibs.length = 23 && crc12 ((nibs.take 20).map BitVec.toNat) = nibField nibs 20 3 then some nibs else none

/-- What a good frame says of the head's position (R325): p_m at t_m, for the frame sent that its SEQ names, and the copies for the
watchdog (R291). `j` is the instant of its J. -/
def State.headPosition (s : State) (n j : Nat) (nibs : List (BitVec 4)) : State :=
  match (s.sc n).sent.find? (fun f => f.seq == nibField nibs 0 1) with
  | none => s
  | some f =>
    let s1 := ((s.wr .SCN_POS_X (BitVec.ofNat 32 (nibField nibs 2 6)) n).wr .SCN_POS_Y
      (BitVec.ofNat 32 (nibField nibs 8 6)) n).setSc n { s.sc n with zPos := nibField nibs 16 4 }
    let rx := sext 24 (nibField nibs 2 6)
    let ry := sext 24 (nibField nibs 8 6)
    if s1.flag F.BCH_CFG_PACE_SRC n then s1
    else
      let s2 := s1.wdWords n rx ry
      let p := s2.measured n f rx ry
      s2.setBc n { s2.bc n with meas := some (p * 65536, j - fineOfNs (s2.fld F.SCN_HEAD_HEAD_LAT n)), newest := some (p * 65536) }

/-- An upstream frame (R318, R320 to R322, R325): its 23 code groups after J, K, of which the first bit arrived 1 µs ago. -/
def execShroudFrameReceived (n : Fin 12) (dt : Nat) (groups : List (BitVec 5)) (s : State) : Res :=
  .next (s.onBeam n.val dt (fun s =>
    let j := s.fine - 1250
    if !s.domOn (shroudDom n.val) then s
    else match goodFrame groups with
    | none => if (s.sc n.val).synced then s.bump .SCN_CNT_SH_CRC n.val else s
    | some nibs =>
    let s := if (s.sc n.val).synced then s else s.shroudHunt n.val j
    if !(s.sc n.val).synced then s
    else
      let status := nibField nibs 1 1
      let temp := nibField nibs 14 2
      let s1 := (s.setSc n.val { s.sc n.val with goodAt := s.fine }).setFld F.SCN_STATUS_LINK_UP 1 n.val
      let s2 := (s1.setFld F.SCN_STATUS_HEAD_READY (status % 2) n.val).wr .SCN_HEAD_TEMP (BitVec.ofNat 32 (temp + status * 256)) n.val
      let s3 := if natBit status 3 then s2.bump .SCN_CNT_SH_REMOTE n.val else s2
      let s4 := s3.headPosition n.val j nibs
      let s5 := s4.headTemp n.val temp
      let s6 := if natBit status 1 then s5.hardHaltActive n.val 6 else s5
      if natBit status 0 then s6 else s6.headNotReady n.val))

/-- J, K missing where expected: synchronisation is lost, and the port hunts (R322). -/
def execShroudSyncLost (n : Fin 12) (s : State) : Res :=
  .next (if s.hasBeam n.val && s.ready && (s.sc n.val).synced then
      (s.setSc n.val { s.sc n.val with synced := false, cand := none }).bump .SCN_CNT_SH_SYNC n.val
    else s)

/-- No good upstream frame for LOST_TIME (R322). -/
def execShroudLost (n : Fin 12) (dt : Nat) (s : State) : Res :=
  .next (
    let due := (s.sc n.val).goodAt + fineOfUs (atLeast1 (s.fld F.SCN_HEAD_LOST_TIME n.val))
    let up := s.hasBeam n.val && s.ready && s.flag F.SCN_STATUS_LINK_UP n.val
    s.onBeam n.val (if up then max dt (due - s.fine) else dt) (fun s =>
    if !s.flag F.SCN_STATUS_LINK_UP n.val then s
    else
      let s1 := s.setFld F.SCN_STATUS_LINK_UP 0 n.val
      let st := s1.scnState n.val
      if st == scnRunning || st == scnWaiting || st == scnPaused then s1.hardHalt n.val 5 else s1))

/-! ### Clearance and plume (R330 to R333) -/

/-- The rank of a beam at the present layer (R331). -/
def State.rank (s : State) (b : Nat) : Nat :=
  let n : Int := max 1 s.variant.beams
  (((b : Int) - ((s.rd .SCN_LAYER).toNat : Int)) % n).toNat

/-- The piece of the plan that emits at an instant. -/
def State.emitAt (s : State) (n t : Nat) : Option Seg :=
  (s.sc n).plan.find? (fun g => g.kind == .emit && decide (0 < g.len) && decide (g.t0 ≤ t) && decide (t < g.t0 + g.dur))

/-- The stop point S of a pause: that of the plan at `tS` until it has been reached. -/
def State.stopPoint (s : State) (n : Nat) : Int × Int :=
  match (s.sc n).pause with
  | some p =>
    if !p.begun then
      match (s.sc n).plan.find? (fun g => decide (0 < g.len) && decide (p.tS < g.stop)) with
      | some g =>
        let q := g.point (g.drawn (s.derate n) p.tS)
        (q.1, q.2.1)
      | none => ((s.sc n).px, (s.sc n).py)
    else if p.geo.isEmpty then ((s.sc n).x, (s.sc n).y)
    else
      let q := pathPoint p.geo p.qS
      (q.1, q.2.1)
  | none => ((s.sc n).x, (s.sc n).y)

/-- Where a beam takes part in the comparison, or none (R330). The emission of a METER record, over the meter, is no mark of the
plan (log entry 85). -/
def State.clearPoint (s : State) (n : Nat) : Option (Int × Int) :=
  if !s.hasBeam n || !s.flag F.SCN_CFG_CLR_PART n then none
  else if s.scnState n == scnPaused then some (s.stopPoint n)
  else if s.scnState n == scnRunning then
    match s.emitAt n (s.fine + 62500) with
    | some g =>
      let p := g.point (g.drawn (s.derate n) (s.fine + 62500))
      some (p.1, p.2.1)
    | none => none
  else none

/-- Whether `y` lies in the plume cone of `x` (R330), exactly in nm. -/
def State.inPlume (s : State) (x y : Int × Int) : Bool :=
  let gx := y.1 - x.1
  let gy := y.2 - x.2
  let c := sext 16 (s.fld F.SCN_FLOW_COS)
  let w := sext 16 (s.fld F.SCN_FLOW_SIN)
  let dot := gx * c + gy * w
  let crs := gx * w - gy * c
  decide (0 < dot) && decide (dot ≤ (s.fld F.SCN_PLUME_PLUME_LEN * 10000 * 32768 : Nat))
    && decide ((crs.natAbs : Int) * 65536 ≤ dot * (s.fld F.SCN_PLUME_TAN_HALF : Nat))

/-- Whether two beams are in conflict (R330). -/
def State.conflict (s : State) (x y : Int × Int) : Bool :=
  let dx := x.1 - y.1
  let dy := x.2 - y.2
  let r : Int := (s.rd .SCN_CLR_RADIUS).toNat
  s.flag F.SCN_CLR_CFG_CLR_EN
    && (decide (dx * dx + dy * dy < r * r) || (s.flag F.SCN_CLR_CFG_PLUME_EN && (s.inPlume x y || s.inPlume y x)))

/-- The pause of the beam that yields (R332). -/
def State.clearancePause (s : State) (n : Nat) : State :=
  if s.flag F.SCN_STATUS_CAUSE_CLEAR n then s
  else
    let tc := s.fine + 62500
    let x := s.sc n
    let s1 := (s.bump .SCN_CNT_CLEAR n).setSc n { s.sc n with clears := 0 }
    match s.emitAt n tc with
    | none => s1.pauseFor n 0 { tS := s.nextFrame n, ramp := s.rampLen n }
    | some g =>
      let on (h : Seg) : Bool := h.kind == .emit && h.chain == g.chain && decide (0 < h.len)
      let first := (x.plan.find? on).getD g
      if s.fine < first.t0 && !x.done.any on then s1.pauseFor n 0 { tS := first.t0, chainStart := true }
      else
        let v := g.speedOf (s.derate n)
        let ramp := s.rampLen n
        let want := tc - 2500 - timeAt v ramp
        let tS := max (s.nextFrame n) want
        if tS ≤ want then s1.pauseFor n 0 { tS := tS, ramp := ramp }
        else (s1.bump .SCN_CNT_RAMP_SHORT n).pauseFor n 0 { tS := tS, ramp := min ramp (lenAt v (tc - 2500 - tS)) }

/-- The pairs of beams (R330). -/
def beamPairs : List (Nat × Nat) :=
  (List.range 12).flatMap (fun i => ((List.range 12).filter (fun j => decide (i < j))).map (fun j => (i, j)))

/-- The beams that yield in this check, by the positions at its start. -/
def State.yielding (s : State) : List Nat :=
  (beamPairs.filterMap (fun p =>
    match s.clearPoint p.1, s.clearPoint p.2 with
    | some a, some b => if s.conflict a b then some (if s.rank p.1 < s.rank p.2 then p.2 else p.1) else none
    | _, _ => none)).eraseDups

/-- Whether a beam paused for CLEARANCE conflicts, at S, with a beam of lower rank (R333). -/
def State.blocked (s : State) (n : Nat) : Bool :=
  s.flag F.SCN_CFG_CLR_PART n && (List.range 12).any (fun k => decide (s.rank k < s.rank n) && (match s.clearPoint k with
    | some b => s.conflict (s.stopPoint n) b
    | none => false))

/-- The check's effect on one beam: a beam paused for CLEARANCE counts its clear checks, another that yields pauses. -/
def State.checkBeam (s : State) (n : Nat) (yields blocked : Bool) : State :=
  if s.flag F.SCN_STATUS_CAUSE_CLEAR n then
    let k := if blocked then 0 else (s.sc n).clears + 1
    let s1 := s.setSc n { s.sc n with clears := k }
    if atLeast1 (s.fld F.SCN_CLR_CFG_CLEAR_HOLD) ≤ k then s1.clearCause n 0 else s1
  else if yields then s.clearancePause n else s

def State.checkBeams (s : State) : List (Nat × Bool × Bool) → State
  | [] => s
  | (n, y, b) :: rest => ((if s.hasBeam n then s.checkBeam n y b else s)).checkBeams rest

/-- The check of every microsecond (R330 to R333). -/
def execClearanceCheck (dt : Nat) (s : State) : Res :=
  .next (
    let s0 := (if s.ready then s.passTo dt s.beams.checkAt else s.advance dt).refreshAll
    if !s0.ready then s0
    else
      let s1 := { s0 with beams := { s0.beams with checkAt := s0.fine + 1250 } }
      let ys := s1.yielding
      s1.checkBeams ((List.range 12).map (fun n => (n, ys.contains n, s1.blocked n))))

/-! ### Fiducial records (R327, R328) -/

/-- A weighted error enters the accumulators of a node. -/
def Cal.add (c : Cal) (node : Nat) (w : Nat) (ex ey : Int) : Cal :=
  let a := tblGet {} c.acc node
  { c with acc := tblSet {} c.acc node { ex := a.ex + w * ex, ey := a.ey + w * ey, w := a.w + w } }

/-- A fiducial record with CALIB reaches the updater (R226, R327, R328). -/
def execCalibRecord (record : List Byte) (s : State) : Res :=
  .next (
    let h := fieldLE record 1 1
    let flags := fieldLE record 2 2
    let mark := fieldLE record 8 2
    let ok := s.ready && record.length == 32 && crc16 (record.take 30) == fieldLE record 30 2 && fieldLE record 0 1 == 2
      && s.hasBeam h && decide (h < 12) && s.flag F.SCN_CFG_CAL_EN h && decide (mark < 256)
      && !natBit flags 0 && !natBit flags 7 && !natBit flags 8
      && decide (s.fld F.SCN_CAL_LIMIT_Q_MIN ≤ fieldLE record 10 2)
    if !ok then (if s.ready then s.bump .SCN_CNT_CAL_DISCARD else s)
    else
      let at0 := 0x00410000 + 0x800 * h + 8 * mark
      let mx := (s.memRd at0).toInt
      let my := (s.memRd (at0 + 4)).toInt
      let ex := sext 32 (fieldLE record 0x14 4) - mx
      let ey := sext 32 (fieldLE record 0x18 4) - my
      let step := atLeast1 (s.rd .SCN_GRID_STEP h).toNat
      let cx := axisCell mx (s.sgn .SCN_GRID_X0 h) step
      let cy := axisCell my (s.sgn .SCN_GRID_Y0 h) step
      let a := cx.2.1
      let b := cy.2.1
      let w (p q : Nat) : Nat := (p * q * 2 ^ 32 + step * step / 2) / (step * step)
      let k (i j : Nat) : Nat := h * 4225 + 65 * (cy.1 + j) + cx.1 + i
      let c := (((s.cal.add (k 0 0) (w (step - a) (step - b)) ex ey).add (k 1 0) (w a (step - b)) ex ey).add
        (k 0 1) (w (step - a) b) ex ey).add (k 1 1) (w a b) ex ey
      { s with cal := c }.bump .SCN_CNT_CAL_USED)

end Sys2Proof.Machine
end

