-- ==== Sys2Proof/Machine/Sheet.lean ====
section
/-!
DEFINITION. The sheet units: records in (R235 to R237), the datapath (R246 to R251), evaluation (R252, R253), missed
samples (R254 to R256), tuning runs (R260 to R263).
-/

namespace Sys2Proof.Machine

/-! ### Records in -/

/-- A feature log unit for a record committed with LOG (R212, R258). -/
def State.featureLog (s : State) (n : Nat) (record : List Byte) : State :=
  s.shUnit n 1 (takeAt record 0 32 ++ bytesLE 4 (secOf s.fine) ++ bytesLE 4 (nsOf s.fine) ++ List.replicate 16 0)

/-- A record on the link of R34 (R235 checks 1 to 3, R237), in every state of the unit. -/
def State.sheetRecord (s : State) (n mast stream : Nat) (record : List Byte) : State :=
  if record.length ≠ 32 || crc16 (record.take 30) ≠ fieldLE record 30 2 then s.bump .SHT_CNT_BAD_CHECK n
  else if mast ≠ s.fld F.SHT_CFG_SRC_MAST n || stream ≠ s.fld F.SHT_CFG_SRC_STREAM n
      || fieldLE record 0 1 ≠ 1 || fieldLE record 1 1 ≠ n then s.bump .SHT_CNT_FOREIGN n
  else
    let x := s.sh n
    if 4 ≤ x.queue.length then s.bump .SHT_CNT_OVERRUN n
    else s.setSh n { x with queue := x.queue ++ [⟨mast, stream, record, s.fine⟩] }

/-- SHEET_RECORD (R235, R258): `log` is the LOG destination of its COMMIT, which writes a feature log unit whatever the
checks find. -/
def execSheetRecord (n : Fin 12) (mast : Fin 16) (stream : Fin 8) (record : List Byte) (log : Bool) (s : State) : Res :=
  .next (
    if !s.hasBeam n.val || !s.ready then s
    else (if log then s.featureLog n.val record else s).sheetRecord n.val mast.val stream.val record)

/-! ### The datapath -/

/-- Stage 1 (R246): the feature of a record, scaled. -/
def State.stage1 (s : State) (n : Nat) (rec : List Byte) : Int :=
  let r : Int := match s.fld F.SHT_CFG_FEAT_SEL n with
    | 1 => fieldLE rec 0x0E 2
    | 2 => fieldLE rec 0x10 4
    | 3 => sext 16 (fieldLE rec 0x14 2)
    | 4 => sext 16 (fieldLE rec 0x16 2)
    | 5 => fieldLE rec 0x18 2
    | 6 => fieldLE rec 0x1A 2
    | 7 => fieldLE rec 0x1C 1
    | _ => fieldLE rec 0x0C 2
  let sh := s.fld F.SHT_CFG_F_SHIFT n
  satQ (((r - s.sgn .SHT_F_OFFSET n) * s.sgn .SHT_F_SCALE n + 2 ^ (23 + sh)) / 2 ^ (24 + sh))

/-- Stage 2 (R247): the setpoint. -/
def State.stage2 (s : State) (n : Nat) (ps injW : Int) : Int :=
  satQ (s.sgn .SHT_SP_FIXED n + roundQ (s.sgn .SHT_SP_SLOPE n * (ps - s.sgn .SHT_P_REF n)) + injW)

/-- σ of R247. -/
def State.sigma (s : State) (n : Nat) : Int := if s.flag F.SHT_CFG_INVERT n then -1 else 1

/-- LIM_PREV as a sign (R248, R264). -/
def State.limPrev (s : State) (n : Nat) : Int :=
  match s.fld F.SHT_STATUS_LIM_PREV n with
  | 1 => 1
  | 3 => -1
  | _ => 0

/-- Stage 4 (R248): the integrator after it, and u_pid. `init` is the initialisation of R243, with whether it zeroes the
integrator. -/
def State.stage4 (s : State) (n : Nat) (y e : Int) (init : Option Bool) : Int × Int :=
  let x := s.sh n
  let delta := if init.isSome then 0
    else if s.flag F.SHT_CFG_D_ON_MEAS n then -(s.sigma n) * (y - x.yPrev) else e - x.ePrev
  let i0 := if init = some true then 0 else s.sgn .SHT_I_STATE n
  let ki := roundQ (s.sgn .SHT_KI n * e)
  let hold := (s.limPrev n = 1 && 0 < ki) || (s.limPrev n = -1 && ki < 0)
  let i1 := if hold then i0 else clampInt (s.sgn .SHT_I_MIN n) (s.sgn .SHT_I_MAX n) (i0 + ki)
  (i1, satQ (roundQ (s.sgn .SHT_KP n * e) + i1 + roundQ (s.sgn .SHT_KD n * delta)))

/-- Stage 5 (R249). -/
def State.stage5 (s : State) (n : Nat) (upid injP : Int) : Int :=
  satQ (upid + roundQ (s.sgn .SHT_FF_P n * (s.pNow n + injP))
    + roundQ (s.sgn .SHT_K_V n * (s.vNow n - s.sgn .SHT_V_REF n)))

/-- A biquad section (R250), or its initialisation (R243). -/
def State.biquad (s : State) (n j : Nat) (b : Biquad) (x : Int) (init : Bool) : Int × Biquad :=
  if init then (x, ⟨x, x, x, x⟩)
  else
    let z := satQ (roundQ (s.sgn .SHT_BQ_B0 n j * x + s.sgn .SHT_BQ_B1 n j * b.x1 + s.sgn .SHT_BQ_B2 n j * b.x2
      - s.sgn .SHT_BQ_A1 n j * b.z1 - s.sgn .SHT_BQ_A2 n j * b.z2))
    (z, ⟨x, b.x1, z, b.z1⟩)

/-- Stage 6 (R250): the enabled sections in series. -/
def State.stage6 (s : State) (n : Nat) (init : Bool) : List Nat → Int → Tbl Biquad → Int × Tbl Biquad
  | [], x, t => (x, t)
  | j :: rest, x, t =>
    if natBit (s.fld F.SHT_CFG_BQ_EN n) j then
      let r := s.biquad n j (tblGet {} t j) x init
      s.stage6 n init rest r.1 (tblSet {} t j r.2)
    else s.stage6 n init rest x t

/-- Stages 7 and 8 (R250): the rate limit and the clamp, with the limit that held the output. -/
def State.stage78 (s : State) (n : Nat) (z : Int) : Int × Int :=
  let o := (s.sh n).out
  let m := s.sgn .SHT_RATE_MAX n
  let q := o + clampInt (-m) m (z - o)
  let c := s.shClamp n q
  (c.1, if c.2 ≠ 0 then c.2 else if m < z - o then 1 else if z - o < -m then -1 else 0)

/-! ### Tuning (R260, R261) -/

/-- The taps of the polynomial of n stages (R261). -/
def prbsTaps : Nat → List Nat
  | 7 => [7, 6]
  | 8 => [8, 6, 5, 4]
  | 9 => [9, 5]
  | 10 => [10, 7]
  | 11 => [11, 9]
  | 12 => [12, 6, 4, 1]
  | 13 => [13, 4, 3, 1]
  | 14 => [14, 5, 3, 1]
  | _ => [15, 14]

/-- `k` shifts of the Fibonacci register of `n` stages. -/
def prbsShift (n : Nat) : Nat → Nat → Nat
  | 0, r => r
  | k + 1, r =>
    let fb := (prbsTaps n).foldl (fun acc t => acc != natBit r (t - 1)) false
    prbsShift n k ((r * 2 + b2n fb) % 2 ^ n)

/-- f[k] in 0.1 Hz (R261) as a number in 2^-64 and what divides it. -/
def State.sweepFreq (s : State) (n k : Nat) (log : Bool) : Int × Nat :=
  let f0 := (s.rd .SHT_SWEEP_F0 n).toNat
  let f1 := (s.rd .SHT_SWEEP_F1 n).toNat
  let len := atLeast1 (s.rd .SHT_RUN_LEN n).toNat
  if log then ((f0 : Int) * fxExp (lnRatio f1 f0 * k / len), 1)
  else (((f0 : Int) * len + ((f1 : Int) - f0) * k) * fxOne, len)

/-- A valid record moves the run on to its sample index (R260): inj[k], with the state that carries the run, or none
where no run injects. The sine of the 1,024-point table is the true one within 2^-20 (log entry 13). -/
def State.inject (s : State) (n frame : Nat) : Option Int × State :=
  if !s.flag F.SHT_STATUS_ACTIVE n then (none, s)
  else
    let x := s.sh n
    let base := x.tune.base.getD frame
    let k := (frame + 2 ^ 32 - base) % 2 ^ 32
    if atLeast1 (s.rd .SHT_RUN_LEN n).toNat ≤ k then (none, s.shTuneEnd n)
    else
      let amp := s.sgn .SHT_INJ_AMP n
      let mode := s.fld F.SHT_TUNE_INJ_MODE n
      if mode = 1 then
        let stages := 7 + min 8 (s.fld F.SHT_TUNE_PRBS_LEN n)
        let target := k / (s.fld F.SHT_TUNE_PRBS_HOLD n + 1)
        let start := if x.tune.base.isNone then 2 ^ stages - 1 else x.tune.lfsr
        let r := prbsShift stages ((target - x.tune.shifts) % (2 ^ stages - 1)) start
        (some (if natBit r (stages - 1) then amp else -amp),
         s.setSh n { x with tune := { x.tune with base := some base, k := k, shifts := target, lfsr := r } })
      else if mode = 0 then (some 0, s.setSh n { x with tune := { x.tune with base := some base, k := k } })
      else
        let period : Int := atLeast1 (s.fld F.SHT_TIMING_SAMPLE_PERIOD n)
        let f := s.sweepFreq n x.tune.k (mode = 3)
        let step := divRound (f.1 * period * ((k - x.tune.k : Nat) : Int)) (f.2 * 1000000000)
        let phase := ((x.tune.phase : Int) + step) % fxOne
        let r := s.freeBits 5
        let err := clampInt (-15) 15 r.1.toInt
        let sine := divRound (sinTurn phase) (2 ^ 40) + err
        (some (mulQ amp sine),
         r.2.setSh n { x with tune := { x.tune with base := some base, k := k, phase := phase.toNat } })

/-! ### Evaluation (R252, R253) -/

/-- The difference of frame numbers as a signed 32-bit value (R236). -/
def frameDiff (a b : Nat) : Int := sext 32 (a + 2 ^ 32 - b % 2 ^ 32)

/-- The whole second of a record's stamp (R239). -/
def stampSecond (now lo : Nat) : Nat := now - (now + 256 - lo % 256) % 256

/-- The reference instant of a record in ns (R238, R239). -/
def State.refOf (s : State) (n : Nat) (rec : List Byte) : Int :=
  ((stampSecond (secOf s.fine) (fieldLE rec 0x1D 1) * 1000000000 + fieldLE rec 8 4 : Nat) : Int)
    - (getBits (s.rd .SHT_FS_LAG n) 0 16 : Nat)

/-- Whether a valid record is not evaluated: in CLOSED, where its reference instant lies before emission start plus ENGAGE_DELAY
(R244). -/
def State.tooEarly (s : State) (n : Nat) (rec : List Byte) : Bool :=
  s.shState n == shtClosed
    && decide (s.refOf n rec * 5 < ((s.sh n).emStart + fineOfUs (s.fld F.SHT_MISS_ENGAGE_DELAY n) : Nat) * 4)

/-- Stages 1 to 3 of a valid record (R238, R246, R247) and the fields its log entry takes. -/
def State.sample (s : State) (n : Nat) (rec : List Byte) (missed : Nat) (inj : Option Int) : Sample :=
  let sec := stampSecond (secOf s.fine) (fieldLE rec 0x1D 1)
  let ns := fieldLE rec 8 4
  let ref := s.refOf n rec
  let h := histAt ref (s.sh n).hist
  let point1 := s.flag F.SHT_TUNE_INJ_POINT n
  let y := s.stage1 n rec
  let w := s.stage2 n h.1 (if point1 then inj.getD 0 else 0)
  { frame := fieldLE rec 4 4, stampNs := ns, stampSec := sec % 2 ^ 32, ref := ref, y := y, w := w,
    e := satQ (s.sigma n * (w - y)), integ := s.sgn .SHT_I_STATE n, out := (s.sh n).out, pNow := s.pNow n,
    vNow := s.vNow n, inj := inj.getD 0, pCmd := s.pNow n + (if point1 then 0 else inj.getD 0), state := s.shState n,
    lflags := (if h.2.2 then 16 else 0) + (if inj.isSome then 128 else 0), missed := missed,
    rflags := fieldLE rec 2 2, capture := inj.isSome && s.flag F.SHT_TUNE_CAPTURE n }

/-- LIMIT_HI and LIMIT_LO of the limit that held an output (R259). -/
def limitFlags (l : Int) : Nat := if l = 1 then 32 else if l = -1 then 64 else 0

/-- Stages 4 to 8 in CLOSED (R243, R248 to R250): the sample with its output, and the unit's state after it. -/
def State.closedLoop (s : State) (n : Nat) (x : Sample) : Sample × State :=
  let h := s.sh n
  let init := h.initZero
  let r4 := s.stage4 n x.y x.e init
  let u := s.stage5 n r4.2 (if s.flag F.SHT_TUNE_INJ_POINT n then 0 else x.inj)
  let r6 := s.stage6 n init.isSome [0, 1, 2, 3] u h.bq
  let r := s.stage78 n r6.1
  let s1 := s.setSh n { h with initZero := none, ePrev := x.e, yPrev := x.y, bq := r6.2 }
  let s2 := ((s1.wr .SHT_I_STATE (wordQ r4.1) n).setFld F.SHT_STATUS_LIM_PREV (if r.2 = 1 then 1 else if r.2 = -1 then 3 else 0) n).bump
    .SHT_CNT_EVAL n
  ({ x with integ := r4.1, out := r.1, lflags := x.lflags + limitFlags r.2 }, s2)

/-- The end of an evaluation, 100 fabric clocks after its start (R252): c goes to the beam channel, unless the unit has
left the state it was evaluated in (R253). -/
def State.sendSample (s : State) (n : Nat) (x : Sample) (st : Nat) : State :=
  let s1 := (s.advance 125).refresh n
  if s1.shState n ≠ st then s1.shLog n { x with state := st, lflags := x.lflags ||| 4 } none
  else
    let s2 := (s1.shSupersede n).shOut n x.out
    s2.setSh n { s2.sh n with sent := some { x with state := st } }

/-- A valid record is evaluated in the state it finds (R242, R244, R256). -/
def State.evalValid (s : State) (n : Nat) (rec : List Byte) (missed : Nat) : State :=
  let r := s.inject n (fieldLE rec 4 4)
  let inj := r.1
  let s := r.2
  let x := s.sample n rec missed inj
  let st := s.shState n
  let notApplied (s : State) : State :=
    (s.advance 125).shLog n { x with state := st, lflags := x.lflags ||| 8, capture := false } none
  let closed (s : State) : State :=
    let c := s.closedLoop n { x with integ := s.sgn .SHT_I_STATE n }
    c.2.sendSample n c.1 shtClosed
  if st = shtOpen then
    let s1 := s.bump .SHT_CNT_NOT_ENGAGED n
    if inj.isSome && !s1.flag F.SHT_TUNE_INJ_POINT n then
      let c := s1.shClamp n (s1.pNow n + x.inj)
      s1.sendSample n { x with out := c.1, lflags := x.lflags + limitFlags c.2 } shtOpen
    else notApplied s1
  else if st = shtFallback then
    let good := (s.sh n).good + 1
    let s1 := s.setSh n { s.sh n with good := good }
    if atLeast1 (s1.fld F.SHT_MISS_REENGAGE n) ≤ good then closed (s1.shGoto n shtClosed) else notApplied s1
  else if st = shtHold then closed (s.shGoto n shtClosed)
  else closed s

/-- A valid record that is not evaluated (R244, R259): its entry holds no result of a stage. -/
def State.notEngaged (s : State) (n : Nat) (rec : List Byte) (missed : Nat) : State :=
  let x := s.sample n rec missed none
  (s.bump .SHT_CNT_NOT_ENGAGED n).shLog n { x with y := 0, w := 0, e := 0 } none

/-- Fine counts from the last valid record to the first expiry of the miss timer, or from one expiry to the next (R254). -/
def State.missTime (s : State) (n : Nat) (first : Bool) : Nat :=
  fineOfNs (10 * (atLeast1 (s.fld F.SHT_TIMING_SAMPLE_PERIOD n) + if first then s.fld F.SHT_TIMING_MISS_MARGIN n else 0))

/-- Check 4 of R235 (R236). -/
def State.newer (s : State) (n : Nat) (rec : List Byte) : Bool :=
  ((s.sh n).fresh && s.shState n != shtOff) || decide (0 < frameDiff (fieldLE rec 4 4) (s.rd .SHT_LAST_FRAME n).toNat)

/-- Check 5 of R235. -/
def State.rejects (s : State) (n : Nat) (rec : List Byte) : Bool := (fieldLE rec 2 2 &&& s.fld F.SHT_MISS_REJECT n) != 0

/-- One missed sample (R254), which a unit in OFF does not count. -/
def State.missOne (s : State) (n due : Nat) : State :=
  if s.shState n = shtOff then s
  else (s.setSh n { s.sh n with missAt := some (due + s.missTime n false) }).shMiss n

/-- A valid record reaches the datapath, or is not evaluated (R244, R254, R255). -/
def State.takeValid (s : State) (n : Nat) (q : ShtRec) : State :=
  let missed := (s.sh n).missed
  let s1 := (s.setSh n { s.sh n with missed := 0, missAt := some (q.arrived + s.missTime n true) }).shMissRun n 0
  if s1.tooEarly n q.data then s1.notEngaged n q.data missed
  else
    let frame := fieldLE q.data 4 4
    let gap := (frameDiff frame (s.rd .SHT_LAST_FRAME n).toNat - 1).toNat
    let s2 := (s1.bumpBy .SHT_CNT_MISS (gap - missed) n).wr .SHT_LAST_FRAME (BitVec.ofNat 32 frame) n
    (s2.evalValid n q.data (max gap missed)).shTuneDone n

/-- A record leaves the input queue (R235 checks 4 and 5, R236, R252, R255). -/
def execEvaluation (n : Fin 12) (dt : Nat) (s : State) : Res :=
  .next (
    let s := (s.advance dt).refresh n.val
    let x := s.sh n.val
    match x.queue with
    | [] => s
    | q :: rest =>
      let off := s.shState n == shtOff
      let s1 := s.setSh n { x with queue := rest, fresh := x.fresh && off }
      if !s.newer n q.data then s1.bump .SHT_CNT_STALE n
      else if s.rejects n q.data then (s1.bump .SHT_CNT_REJECT n).missOne n s1.fine
      else if off then s1
      else s1.takeValid n q)

/-- The miss timer expires (R254): a valid record that arrived in that clock or before and waits wins. -/
def execMissTimer (n : Fin 12) (dt : Nat) (s : State) : Res :=
  .next (
    match (s.sh n).missAt with
    | none => s.advance dt
    | some due =>
      let s1 := (s.passTo dt due).refresh n
      let x := s1.sh n
      match x.queue.find? (fun q => decide (q.arrived ≤ due) && s1.newer n q.data && !s1.rejects n q.data) with
      | some q => s1.setSh n { x with missAt := some (q.arrived + s1.missTime n true) }
      | none => s1.missOne n due)

/-! ### Commands (R260, R262, R264) -/

/-- Whether a sweep's frequencies allow a run: non-zero and below 1 ÷ (2 × SAMPLE_PERIOD) (R262). -/
def State.sweepOk (s : State) (n : Nat) : Bool :=
  let per := atLeast1 (s.fld F.SHT_TIMING_SAMPLE_PERIOD n)
  let ok (f : Nat) : Bool := f != 0 && decide (f * 2 * per < 1000000000)
  s.fld F.SHT_TUNE_INJ_MODE n < 2 || (ok (s.rd .SHT_SWEEP_F0 n).toNat && ok (s.rd .SHT_SWEEP_F1 n).toNat)

/-- START (R262): it needs a Service session. -/
def execShtStart (who : Requester) (n : Fin 12) (s : State) : Res :=
  .next (s.writeGate who .SHT_CMD n.val (s.gated who 3 (
    let ok := (s.mode == modeService || (s.mode == modeBuild && s.flag F.SHT_TUNE_BUILD_OK n.val))
      && s.shState n.val != shtOff && s.fld F.SHT_TUNE_INJ_MODE n.val != 0 && s.sweepOk n.val
    if !ok then s.setFld F.SHT_STATUS_TUNE_REFUSED 1 n.val
    else
      let x := s.sh n.val
      (s.setSh n.val { x with tune := {}, seqs := tblSet 0 x.seqs 3 0 }).setFld F.SHT_STATUS_ACTIVE 1 n.val)))

/-- STOP (R260). -/
def execShtStop (who : Requester) (n : Fin 12) (s : State) : Res :=
  .next (s.writeGate who .SHT_CMD n.val (s.shTuneEnd n.val))

/-- RESET_STATE (R264): in OPEN only. -/
def execResetState (who : Requester) (n : Fin 12) (s : State) : Res :=
  .next (s.writeGate who .SHT_CMD n.val (
    if s.shState n.val ≠ shtOpen then s
    else (s.setSh n.val { s.sh n.val with bq := [], ePrev := 0, yPrev := 0 }).wr .SHT_I_STATE 0 n.val))

end Sys2Proof.Machine
end

