-- ==== Sys2Proof/Machine/MastOps.lean ====
section
/-!
DEFINITION. Masts: stream buffers and tiles (R185 to R192), the dispatcher's slots and engines (R193, R215 to R221), the end
of tiles and frames (R188, R214, R217), and the delivery of committed results (R212).
-/

namespace Sys2Proof.Machine

def State.ms (s : State) (m : Nat) : Mast := tblGet {} s.mst m
def State.setMs (s : State) (m : Nat) (x : Mast) : State := { s with mst := tblSet {} s.mst m x }

/-! ### Streams (R185, R186, R190) -/

/-- The classes of R35. -/
def clsFrame : Nat := 1
def clsMelt : Nat := 2
def clsCal : Nat := 3

/-- The load staging area at the top of shared memory, in bytes (R185). -/
def shmStaging : Nat := 0x1F4000

/-- The tiles across and down of a frame of stream `k` (R190). -/
def State.tileGrid (s : State) (m k w h : Nat) : Nat × Nat :=
  let tw := s.fld F.MST_STREAM_TILE_TILE_W m k + 1
  let th := s.fld F.MST_STREAM_TILE_TILE_H m k + 1
  ((w + tw - 1) / tw, (h + th - 1) / th)

/-- The tiles of a frame of stream `k` as far as they are known without one (R214): those of the crop of its port, or where it
sets none those of the stream's newest frame; at least one (DEDUCED, log entry 83). -/
def State.slotTiles (s : State) (m k : Nat) : Nat :=
  let p := s.fld F.MST_STREAM_CFG_PORT m k
  let g := s.tileGrid m k (s.fld F.CAP_CROP_SIZE_W p) (s.fld F.CAP_CROP_SIZE_H p)
  atLeast1 (if g.1 * g.2 = 0 then tblGet 0 (s.ms m).slotTiles k else g.1 * g.2)

/-- The areas of stream `k` as first byte and length: its buffer, and its slot sets of `n` slots each. -/
def State.shmAreas (s : State) (m k n : Nat) : List (Nat × Nat) :=
  let buf := (s.fld F.MST_STREAM_BUF_BUF_BASE m k * 64, s.fld F.MST_STREAM_BUF_BUF_LINES m k * 64)
  if s.flag F.MST_STREAM_RED_RED_EN m k then
    [buf, (s.fld F.MST_STREAM_RED_SLOT_BASE m k * 256, atLeast1 (s.fld F.MST_STREAM_RED_SLOT_FRAMES m k) * n * 256)]
  else [buf]

def areasMeet (a b : Nat × Nat) : Bool := decide (a.1 < b.1 + b.2) && decide (b.1 < a.1 + a.2)

/-- Whether the areas of stream `k`, with `n` slots in a set, meet those of a lower enabled stream, their own, or the load staging
area (R185). -/
def State.shmOverlap (s : State) (m k n : Nat) : Bool :=
  let mine := s.shmAreas m k n
  let others := ((List.range k).filter (fun j => s.flag F.MST_STREAM_CFG_ENABLE m j)).flatMap
    (fun j => s.shmAreas m j (s.slotTiles m j))
  mine.any (fun a => decide (shmStaging < a.1 + a.2) || others.any (areasMeet a))
    || (match mine with
      | [a, b] => areasMeet a b
      | _ => false)

/-- Whether stream `k` is enabled and its configuration keeps the rules that do not need a frame (R185, R233). -/
def State.streamOn (s : State) (m k : Nat) : Bool :=
  s.flag F.MST_STREAM_CFG_ENABLE m k && s.fld F.MST_STREAM_BUF_BUF_LINES m k != 0 && !s.shmOverlap m k (s.slotTiles m k)

/-- CFG_ERR where an enabled stream stays disabled (R185, R190, R233). -/
def State.mastFlag (s : State) (m : Nat) : State :=
  if (List.range 8).any (fun k => s.flag F.MST_STREAM_CFG_ENABLE m k && !s.streamOn m k) then s.setFld F.MST_STATUS_CFG_ERR 1 m
  else s

/-- After a commit point: what is known of the slots of streams without a frame is known no longer, and CFG_ERR. -/
def State.mastCheck (s : State) (m : Nat) : State :=
  let x := s.ms m
  (s.setMs m { x with slotTiles := x.slotTiles.filter (fun e => x.frames.any (fun f => f.stream = e.1)) }).mastFlag m

/-- The stream of a mast that takes the frames of a port: the lowest enabled one (R186). -/
def State.streamOf (s : State) (m port : Nat) : Option Nat :=
  (List.range 8).find? (fun k => s.streamOn m k && s.fld F.MST_STREAM_CFG_PORT m k = port)

/-! ### Slots and engines -/

/-- The state of an engine (R232): 0 ACTIVE, 1 SPARE, 2 RETIRED, 3 SUSPENDED. -/
def State.engine (s : State) (m e : Nat) : Nat := getBits (s.rd .MST_SPAR_STATE m (e / 16)) (2 * (e % 16)) 2

def State.setEngine (s : State) (m e v : Nat) : State :=
  s.wr .MST_SPAR_STATE (putBits (s.rd .MST_SPAR_STATE m (e / 16)) (2 * (e % 16)) 2 v) m (e / 16)

/-- The engine that holds a slot. -/
def Mast.slotEngine (x : Mast) (k : Nat) : Nat := if tblGet 0 x.moved k = 0 then k else tblGet 0 x.moved k

/-- Whether a slot is free: in use, its engine ACTIVE and without a tile. -/
def State.slotFree (s : State) (m k : Nat) : Bool :=
  let x := s.ms m
  !tblGet false x.removed k && s.engine m (x.slotEngine k) == 0 && !x.runs.any (fun r => r.slot = k)

/-- Whether a slot is reserved for melt-pool tiles (R194, R216). -/
def State.slotReserved (s : State) (m k : Nat) : Bool :=
  (decide (k < s.fld F.MST_CFG_MP_SPARS m) && !tblGet false (s.ms m).removed k) || (tblGet none (s.ms m).promoted k).isSome

def State.freeReserved (s : State) (m : Nat) : Option Nat :=
  (List.range 64).find? (fun k => s.slotFree m k && s.slotReserved m k)
def State.freeOpen (s : State) (m : Nat) : Option Nat :=
  (List.range 64).find? (fun k => s.slotFree m k && !s.slotReserved m k)

/-- The slot a tile of a class would take: melt-pool tiles any free slot, reserved ones first (R193, R194). -/
def State.slotFor (s : State) (m cls : Nat) : Option Nat :=
  if cls = clsMelt then (match s.freeReserved m with
    | some k => some k
    | none => s.freeOpen m)
  else s.freeOpen m

/-- The spare that a failure takes: the lowest in state SPARE, a self-test notwithstanding (R216, R220). -/
def State.freeSpare (s : State) (m : Nat) : Option Nat := [64, 65].find? (fun e => s.engine m e = 1)

/-- MST_SPARE_USE, SPARES_LEFT and VISIBLE brought up to date (R230, R232). -/
def State.mastShow (s : State) (m : Nat) : State :=
  let x := s.ms m
  let slotOf (e : Nat) : Option Nat := (List.range 64).find? (fun k => tblGet 0 x.moved k = e && !tblGet false x.removed k)
  let w := putBits (putBits 0 0 6 ((slotOf 64).getD 0)) 6 1 (b2n (slotOf 64).isSome)
  let w := putBits (putBits w 8 6 ((slotOf 65).getD 0)) 14 1 (b2n (slotOf 65).isSome)
  let s1 := s.wr .MST_SPARE_USE w m
  let s2 := s1.setFld F.MST_STATUS_SPARES_LEFT ([64, 65].filter (fun e => s1.engine m e = 1)).length m
  s2.setFld F.MST_STATUS_VISIBLE ((List.range 64).filter (fun k => !tblGet false x.removed k)).length m

/-- An entry of the fault log, its event, and the report of a spar fault (R221, R231, R539). -/
def State.mastFault (s : State) (m e repl cause stream frame : Nat) : State :=
  let x := s.ms m
  let w := BitVec.ofNat 32 (e + repl * 2 ^ 8 + cause * 2 ^ 15 + stream * 2 ^ 19 + 2 ^ 22)
  let s1 := if x.log.length < 16 then
      (s.setMs m { x with log := x.log ++ [(w, BitVec.ofNat 32 (frame % 2 ^ 32))] }).setFld F.MST_STATUS_FAULT_PENDING 1 m
    else s.setFld F.MST_STATUS_FAULT_OVF 1 m
  let s2 := s1.publish (0x0C0 + m) cause s1.now48
  if cause = 6 || cause = 8 then s2 else s2.notice 3 m cause w

/-- A slot reserved in the place of slot `k`, which is removed (R216). -/
def State.promote (s : State) (m k : Nat) (slot : Option Nat) : State :=
  match slot with
  | some j => s.setMs m { s.ms m with promoted := tblSet none (s.ms m).promoted j (some k) }
  | none => s

/-- A slot loses its engine `e`: the lowest free spare takes it, or it is removed and, where it was reserved, the highest
unreserved ACTIVE slot is reserved in its place (R216). The answer holds the spare. -/
def State.replaceEngine (s : State) (m k : Nat) : Option Nat × State :=
  match s.freeSpare m with
  | some sp =>
    let x := s.ms m
    let s1 := (s.setMs m { x with moved := tblSet 0 x.moved k sp, testing := tblSet none x.testing sp none,
                                  tested := tblSet none x.tested sp none }).setEngine m sp 0
    (some sp, s1.mastShow m)
  | none =>
    let wasReserved := s.slotReserved m k
    let x := s.ms m
    let place := (tblGet none x.promoted k).getD k
    let s1 := s.setMs m { x with removed := tblSet false x.removed k true, promoted := tblSet none x.promoted k none }
    let next := (List.range 64).reverse.find? (fun j => !s1.slotReserved m j && !tblGet false (s1.ms m).removed j
      && s1.engine m ((s1.ms m).slotEngine j) == 0)
    (none, (if wasReserved then s1.promote m place next else s1).mastShow m)

/-- A suspended engine returns to its slot, and its replacement to SPARE (R217); where no spare had replaced it, the slot
comes back, and none is reserved in its place. -/
def State.unsuspend (s : State) (m e k : Nat) : State :=
  let x := s.ms m
  let repl := tblGet 0 x.moved k
  let s1 := (s.setMs m { x with moved := tblSet 0 x.moved k (if e < 64 then 0 else e),
                                removed := tblSet false x.removed k false,
                                promoted := x.promoted.filter (fun p => p.2 != some k) }).setEngine m e 0
  (if repl = 0 || repl = e then s1 else s1.setEngine m repl 1).mastShow m

/-! ### Frames and tiles -/

def Mast.findFrame (x : Mast) (k num : Nat) : Option MFrame := x.frames.find? (fun f => f.stream = k && f.info.num = num)

def Mast.setFrame (x : Mast) (f : MFrame) : Mast :=
  { x with frames := x.frames.map (fun g => if g.stream = f.stream && g.info.num = f.info.num then f else g) }

def MFrame.tiles (f : MFrame) : Nat := f.across * f.down
def MFrame.allFinal (f : MFrame) : Bool := f.fin.length == f.tiles

/-- Whether a frame is done with: closed, and every tile final, its reduce tile too. -/
def MFrame.over (f : MFrame) : Bool := f.closed && (f.dropped || (f.allFinal && (!f.red || tblGet 0 f.fin f.tiles != 0)))

/-- Bits per pixel of a format (R103). -/
def fmtBits (fmt : Nat) : Nat :=
  match fmt with
  | 1 => 8
  | 2 => 10
  | 3 => 12
  | _ => 16

/-- Where byte `o` of a frame lies in shared memory: the circular buffer of its stream (R188). -/
def State.shmAddr (s : State) (m : Nat) (f : MFrame) (o : Nat) : Nat :=
  s.fld F.MST_STREAM_BUF_BUF_BASE m f.stream * 64 + (f.base + o) % max 1 (s.fld F.MST_STREAM_BUF_BUF_LINES m f.stream * 64)

/-- Byte `o` of partial slot `i` of a slot set (R214). -/
def State.slotAddr (s : State) (m : Nat) (f : MFrame) (i o : Nat) : Nat :=
  s.fld F.MST_STREAM_RED_SLOT_BASE m f.stream * 256 + (f.set.getD 0 * f.tiles + i) * 256 + o

/-- Whether a tile that is not final reads byte `o` of the frame (R188, R190). -/
def MFrame.holds (f : MFrame) (o : Nat) : Bool :=
  let bpp := fmtBits f.info.fmt
  let p0 := o * 8 / bpp
  let p1 := (o * 8 + 7) / bpp
  (List.range f.tiles).any (fun t =>
    let x0 := (t % f.across) * f.tw
    let y0 := (t / f.across) * f.th
    let reads (p : Nat) : Bool :=
      let x := p % f.info.width
      let y := p / f.info.width
      decide (y < f.info.height && x0 ≤ x + f.halo && x < x0 + f.tw + f.halo && y0 ≤ y + f.halo && y < y0 + f.th + f.halo)
    tblGet 0 f.fin t == 0 && (reads p0 || reads p1))

/-- Whether the byte of stream `k` at position `a` is held by a tile. -/
def Mast.heldAt (x : Mast) (k a : Nat) : Bool :=
  x.frames.any (fun f => f.stream = k && !f.dropped && decide (f.base ≤ a) && decide (a < f.base + f.size) && f.holds (a - f.base))

/-- The reserved slots that are idle and that no waiting melt-pool tile will take (R194). -/
def State.meltRoom (s : State) (m : Nat) : Nat :=
  let x := s.ms m
  let again (t : Tile) : Bool := t.cls = clsMelt && (t.onSlot.map (s.slotReserved m)).getD true
  ((List.range 64).filter (fun k => s.slotFree m k && s.slotReserved m k)).length
    - ((x.ready.filter (fun t => t.cls = clsMelt)).length + (x.rerun.filter again).length)

/-- Tiles go to READY in their order; melt-pool tiles for which no reserved slot is idle are late (R194). -/
def State.addReady (s : State) (m : Nat) (new : List Tile) : State :=
  let x := s.ms m
  let room := s.meltRoom m
  s.setMs m { x with ready := x.ready ++ new.zipIdx.map (fun t => { t.1 with late := t.1.cls = clsMelt && decide (room ≤ t.2) }) }

/-- The tiles of a frame go to READY up to row `rows` (R191), in index order. -/
def State.makeReady (s : State) (m : Nat) (f : MFrame) (rows : Nat) : State :=
  let new := (List.range f.tiles).filter (fun t => decide (f.rows ≤ t / f.across) && decide (t / f.across < rows))
  (s.setMs m ((s.ms m).setFrame { f with rows := max f.rows rows })).addReady m
    (new.map (fun t => { stream := f.stream, frame := f.info.num, idx := t, cls := f.info.cls }))

/-- Rows of tiles whose last line, halo included, is in shared memory (R191). -/
def MFrame.rowsIn (f : MFrame) : Nat :=
  if f.closed then f.down
  else
    let lines := f.high * 8 / max 1 (f.info.width * fmtBits f.info.fmt)
    if f.early && f.tiles = 1 then (if 1 ≤ lines then 1 else 0)
    else ((List.range f.down).takeWhile (fun j => decide (min f.info.height ((j + 1) * f.th + f.halo) ≤ lines))).length

/-- Frames that are done with leave the mast. -/
def State.dropFrames (s : State) (m : Nat) : State :=
  let x := s.ms m
  s.setMs m { x with frames := x.frames.filter (fun f => !f.over) }

/-- READY tiles, and the reduce tile once the frame has closed and every tile is final (R191, R214). -/
def State.frameReady (s : State) (m k num : Nat) : State :=
  match (s.ms m).findFrame k num with
  | none => s
  | some f =>
    if f.dropped then s.dropFrames m
    else
      let s1 := if f.rows < f.rowsIn then s.makeReady m f f.rowsIn else s
      match (s1.ms m).findFrame k num with
      | none => s
      | some g =>
        if g.red && g.closed && g.allFinal && !g.reduced && 0 < g.tiles then
          (s1.setMs m ((s1.ms m).setFrame { g with reduced := true })).addReady m
            [{ stream := k, frame := num, idx := g.tiles, cls := g.info.cls, reduce := true }]
        else s1.dropFrames m

/-- A tile becomes final (R192): 1 committed, 2 abandoned. The slot of an abandoned tile reads 0 (R214). -/
def State.tileFinal (s : State) (m : Nat) (t : Tile) (how : Nat) : State :=
  match (s.ms m).findFrame t.stream t.frame with
  | none => s
  | some f =>
    let x := (s.ms m).setFrame { f with fin := tblSet 0 f.fin t.idx how }
    let x1 := if f.red && how = 2 && !t.reduce then
        { x with shm := tblSetList 0 x.shm (s.slotAddr m f t.idx 0) (List.replicate 256 0) } else x
    (s.setMs m x1).frameReady m t.stream t.frame

/-- The engine of a run is free. -/
def State.endRun (s : State) (m e : Nat) : State :=
  let x := s.ms m
  s.setMs m { x with runs := x.runs.filter (fun r => r.engine != e) }

/-- Suspended engines of cancelled re-runs return (R217). -/
def State.unsuspendList (m : Nat) : List Tile → State → State
  | [], s => s
  | t :: rest, s => State.unsuspendList m rest (match t.susp with
    | some (e, k) => s.unsuspend m e k
    | none => s)

/-- A frame is discarded from here on: it is counted once and every tile of it is cancelled (R188). -/
def State.ingestDrop (s : State) (m : Nat) (f : MFrame) : State :=
  if f.dropped then s
  else
    let x := s.ms m
    let mine (t : Tile) : Bool := t.stream = f.stream && t.frame = f.info.num
    let susp := (x.ready ++ x.rerun ++ x.runs.map (·.tile)).filter mine
    let x1 := { x.setFrame { f with dropped := true } with
      ready := x.ready.filter (fun t => !mine t), rerun := x.rerun.filter (fun t => !mine t),
      runs := x.runs.filter (fun r => !mine r.tile) }
    let s1 := ((s.setMs m x1).bump .MST_CNT_INGEST_DROP m f.stream).bumpBy .MST_CNT_CANCEL (f.tiles - f.fin.length) m
    (State.unsuspendList m susp s1).dropFrames m

/-! ### The ingest window: what a frame's analysis leg does -/

/-- The class of a frame of a port at this mast: a melt-pool port beyond the sixth is served as frame class (R187). -/
def State.mastClass (s : State) (m k port cls : Nat) (clsOf : Nat → Nat) : Nat × State :=
  if cls ≠ clsMelt then (cls, s)
  else
    let ports := ((List.range 8).filter (fun j => j != k && s.streamOn m j)).map (fun j => s.fld F.MST_STREAM_CFG_PORT m j)
    let lower := (ports.eraseDups.filter (fun p => decide (p < port) && clsOf p == clsMelt)).length
    if lower < 6 then (cls, s) else (clsFrame, s.setFld F.MST_STATUS_MP_EXCESS 1 m)

/-- A frame starts on the analysis leg to mast `m` (R186 to R190, R214). -/
def State.mastStart (s : State) (m : Nat) (i : FrameInfo) (clsOf : Nat → Nat) : State :=
  if !s.domOn m then s
  else match s.streamOf m i.port with
    | none => s.bump .MST_CNT_NO_STREAM m
    | some k =>
      let g := s.tileGrid m k i.width i.height
      let red := s.flag F.MST_STREAM_RED_RED_EN m k
      let sets := atLeast1 (s.fld F.MST_STREAM_RED_SLOT_FRAMES m k)
      if (if red then 256 else 65535) < g.1 * g.2 || (red && s.shmOverlap m k (atLeast1 (g.1 * g.2))) then
        (s.setFld F.MST_STATUS_CFG_ERR 1 m).bump .MST_CNT_NO_STREAM m
      else
        let x := s.ms m
        let s := (s.setMs m { x with slotTiles := tblSet 0 x.slotTiles k (g.1 * g.2) }).mastFlag m
        let c := s.mastClass m k i.port i.cls clsOf
        let x := c.2.ms m
        let base := roundUp (tblGet 0 x.wp k) 64
        let held := (x.frames.filter (fun f => f.stream = k && !f.dropped)).filterMap (·.set)
        let set := if red then (List.range sets).find? (fun j => !held.contains j) else some 0
        let f : MFrame := {
          stream := k, info := { i with cls := c.1 }, base := base,
          size := (i.width * i.height * fmtBits i.fmt + 7) / 8, tw := s.fld F.MST_STREAM_TILE_TILE_W m k + 1,
          th := s.fld F.MST_STREAM_TILE_TILE_H m k + 1, halo := s.fld F.MST_STREAM_TILE_HALO m k,
          across := g.1, down := g.2, early := s.flag F.MST_STREAM_CFG_EARLY m k, set := if red then set else none,
          red := red }
        let s1 := c.2.setMs m { x with frames := x.frames ++ [f], wp := tblSet 0 x.wp k base }
        if set.isNone then s1.ingestDrop m f else s1

/-- The frame of a port that is open at a mast. -/
def Mast.openFrame (x : Mast) (port num : Nat) : Option MFrame :=
  x.frames.find? (fun f => f.info.port = port && f.info.num = num && !f.closed)

/-- Bytes of the delivered frame at offset `off` (R188). `full` says that the ingest window cannot accept them, which it can only
be unable to while it still works off, at 16 GB/s, what it has received (R26; log entry 80). -/
def State.mastData (s : State) (m port num : Nat) (full : Bool) (off : Nat) (data : List Byte) : State :=
  match (s.ms m).openFrame port num with
  | none => s
  | some f =>
    if f.dropped then s
    else
      let x := s.ms m
      let size := s.fld F.MST_STREAM_BUF_BUF_LINES m f.stream * 64
      let a := f.base + off
      let busy := max x.inTill (s.fine * 64)
      let bad := size = 0 || (full && decide (s.fine * 64 < x.inTill)) || (List.range data.length).any (fun i =>
        decide (size ≤ a + i) && x.heldAt f.stream (a + i - size))
      if bad then s.ingestDrop m f
      else
        let rec put (t : Tbl Byte) (o : Nat) : List Byte → Tbl Byte
          | [] => t
          | b :: rest => put (tblSet 0 t (s.shmAddr m f o) b) (o + 1) rest
        let x1 := x.setFrame { f with high := max f.high (off + data.length) }
        let s1 := s.setMs m { x1 with shm := put x.shm off data, inTill := busy + 5 * data.length,
                                      wp := tblSet 0 x.wp f.stream (max (tblGet 0 x.wp f.stream) (a + data.length)) }
        s1.frameReady m f.stream num

/-- The frame closes with its final flags (R131, R191). -/
def State.mastClose (s : State) (m port num flags : Nat) : State :=
  match (s.ms m).openFrame port num with
  | none => s
  | some f =>
    let s1 := s.setMs m ((s.ms m).setFrame { f with closed := true, flags := flags })
    s1.frameReady m f.stream num

/-! ### Faults and the end of tiles -/

/-- A re-run after a watchdog expiry ends within the watchdog: the suspended engine is RETIRED with cause WATCHDOG
(R217). -/
def State.suspRetire (s : State) (m : Nat) (r : Run) : State :=
  match r.tile.susp with
  | some (e, k) =>
    let s1 := (s.setEngine m e 2).mastShow m
    let repl := (s1.ms m).slotEngine k
    s1.mastFault m e (if repl = e || tblGet false (s1.ms m).removed k then 0x7F else repl) 5 r.tile.stream r.tile.frame
  | none => s

/-- ILLEGAL (R215): the tile is ABANDONED and the spar stays ACTIVE. In a re-run after a watchdog expiry it ends the
re-run as an abort does (DEDUCED). -/
def State.illegal (s : State) (m : Nat) (r : Run) : State :=
  let s1 := ((s.endRun m r.engine).suspRetire m r).bump .MST_CNT_PROG_FAULT m
  (s1.mastFault m r.engine 0x7F 8 r.tile.stream r.tile.frame).tileFinal m { r.tile with susp := none } 2

/-- A run ends with its tile abandoned by ABORT (R203, R234). -/
def State.aborted (s : State) (m : Nat) (r : Run) : State :=
  (((s.endRun m r.engine).suspRetire m r).bump .MST_CNT_ABANDON m).tileFinal m { r.tile with susp := none } 2

/-- Records of 32 bytes go to the correction-grid updater (R212, R327). -/
def State.calibRecords (s : State) : Nat → List Byte → State
  | 0, _ => s
  | n + 1, bytes =>
    match bytes with
    | [] => s
    | _ => State.calibRecords (resState s (execCalibRecord (bytes.take 32) s)) n (bytes.drop 32)

/-- The staged bytes go to the destinations of a COMMIT (R212, R213). -/
def State.deliver (s : State) (m : Nat) (f : MFrame) (t : Tile) (dest : Nat) (bytes : List Byte) : State :=
  let noBeam := !(decide (f.info.beam < 12) && s.hasBeam f.info.beam)
  let wants := natBit dest 0 || natBit dest 5
  let s1 := if wants && noBeam then s.bump .MST_CNT_NO_BEAM m else s
  let s2 := if natBit dest 5 && !noBeam then s1.featureLog f.info.beam (bytes.take 32) else s1
  let s3 := if natBit dest 0 && !noBeam then s2.sheetRecord f.info.beam m f.stream (bytes.take 32) else s2
  let s4 := if natBit dest 1 then
      s3.queSend (s3.fld F.MST_STREAM_CFG_QUEUE m f.stream) m (s3.fld F.MST_STREAM_CFG_QPRI m f.stream) bytes else s3
  let slot := bytes ++ List.replicate (256 - bytes.length) 0
  let s5 := if natBit dest 2 && f.red && !t.reduce then
      s4.setMs m { s4.ms m with shm := tblSetList 0 (s4.ms m).shm (s4.slotAddr m f t.idx 0) slot } else s4
  let s6 := if natBit dest 3 then s5.calibRecords 8 bytes else s5
  if natBit dest 4 then s6.publish (0x100 + 8 * m + f.stream) 0 s6.now48 else s6

/-- A tile ends COMMITTED (R192, R212). -/
def State.committed (s : State) (m : Nat) (r : Run) (dest : Nat) (bytes : List Byte) : State :=
  match (s.ms m).findFrame r.tile.stream r.tile.frame with
  | none => s.endRun m r.engine
  | some f =>
    let s1 := ((s.endRun m r.engine).suspRetire m r).bump .MST_CNT_TILES m
    (s1.deliver m f r.tile dest bytes).tileFinal m { r.tile with susp := none } 1

/-! ### Spar faults (R215, R216) -/

/-- The run of engine `e` of mast `m`. -/
def State.runOf (s : State) (m e : Nat) : Option Run := (s.ms m).runs.find? (fun r => r.engine = e)

/-- CAUSE of R231. -/
def sparCode (c : SparCause) : Nat :=
  match c with
  | .dmUe => 1
  | .pmUe => 2
  | .lineParity => 3
  | .lockstep => 4
  | .correctable => 0

/-- The tile of a stopped run goes to RERUN, to run on whichever engine takes the slot of the run (R216). -/
def State.toRerun (s : State) (m : Nat) (r : Run) (susp : Option (Nat × Nat)) : State :=
  let s1 := s.endRun m r.engine
  let x := s1.ms m
  (s1.setMs m { x with rerun := x.rerun ++ [{ r.tile with susp := susp, onSlot := some r.slot }] }).bump .MST_CNT_RERUN m

/-- The slot an engine holds. -/
def Mast.slotOfEngine (x : Mast) (e : Nat) : Option Nat :=
  (List.range 64).find? (fun k => x.slotEngine k = e && !tblGet false x.removed k)

/-- An engine is retired for a spar fault (R216); a spare only leaves its self-test (R215). -/
def State.retireEngine (s : State) (m e cause stream frame : Nat) : State :=
  let spare := s.engine m e == 1
  let s1 := s.setEngine m e 2
  if spare then
    ((s1.setMs m { s1.ms m with testing := tblSet none (s1.ms m).testing e none }).mastShow m).mastFault m e 0x7F cause stream frame
  else match (s1.ms m).slotOfEngine e with
    | some k =>
      let r := s1.replaceEngine m k
      r.2.mastFault m e (r.1.getD 0x7F) cause stream frame
    | none => s1.mastFault m e 0x7F cause stream frame

/-- A fault of a spar whose clock runs (R215): one that can be corrected is counted; for every other the tile of the spar, of which
nothing has been committed, goes to RERUN, and the spar is retired (R216). -/
def State.sparFaultAt (s : State) (m e : Nat) (cause : SparCause) : State :=
  if !s.hasMast m || !s.domOn m || 2 ≤ s.engine m e then s
  else if cause = .correctable then s.bump .MST_CNT_CE m
  else match s.runOf m e with
    | some r => (s.toRerun m r r.tile.susp).retireEngine m e (sparCode cause) r.tile.stream r.tile.frame
    | none => s.retireEngine m e (sparCode cause) 0 0

end Sys2Proof.Machine
end

