-- ==== Sys2Proof/Machine/FrameOps.lean ====
section
/-!
DEFINITION. Ports (R71), and what happens to a frame from its start to its end: crop (R132), stamp and snapshot (R124 to
R127), tag (R128 to R131), legs (R35, R133, R151, R153, R444, R526), data with missing bytes (R105 to R108).
-/

namespace Sys2Proof.Machine

/-! ### The layout of ports (R71) -/

/-- The width in lanes that LNK_PORT_CFG gives a port with lowest lane `n`; none where WIDTH is reserved or the lane is no
multiple of it. -/
def State.cfgWidth (s : State) (n : Nat) : Option Nat :=
  let w := s.fld F.LNK_PORT_CFG_WIDTH n
  if w ≤ 4 && n % 2 ^ w = 0 then some (2 ^ w) else none

/-- The ports from lane `n` up, the first `skip` lanes being taken: lowest lane, width, and whether the port is valid. -/
def portsFrom (width : Nat → Option Nat) : Nat → Nat → Nat → List (Nat × Nat × Bool)
  | 0, _, _ => []
  | fuel + 1, n, skip + 1 => portsFrom width fuel (n + 1) skip
  | fuel + 1, n, 0 => match width n with
    | some w => (n, w, true) :: portsFrom width fuel (n + 1) (w - 1)
    | none => (n, 1, false) :: portsFrom width fuel (n + 1) 0

def State.ports (s : State) : List (Nat × Nat × Bool) := portsFrom s.cfgWidth s.variant.lanes 0 0

/-- The port that holds lane `n`: its lowest lane and width; none for a lane in no port. -/
def State.portOf (s : State) (n : Nat) : Option (Nat × Nat) :=
  (s.ports.find? (fun p => p.2.2 && decide (p.1 ≤ n) && decide (n < p.1 + p.2.1))).map (fun p => (p.1, p.2.1))

/-- Lanes of the port whose lowest lane is `p`; 0 where it is the lowest lane of none. -/
def State.portWidth (s : State) (p : Nat) : Nat :=
  match s.portOf p with
  | some (q, w) => if q = p then w else 0
  | none => 0

/-- The lane that is port lane `i` of port `p` (R58). -/
def State.laneOf (s : State) (p i : Nat) : Nat :=
  if s.flag F.LNK_PORT_STATUS_REVERSED p then p + s.portWidth p - 1 - i else p + i

/-- The port lane that lane `n` of port `p` is. -/
def State.indexOf (s : State) (p n : Nat) : Nat :=
  if s.flag F.LNK_PORT_STATUS_REVERSED p then p + s.portWidth p - 1 - n else n - p

def State.portLanes (s : State) (p : Nat) : List Nat := (List.range (s.portWidth p)).map (s.laneOf p)
def State.portUp (s : State) (p : Nat) : Bool := s.flag F.LNK_PORT_STATUS_UP p
def State.activeMask (s : State) (p : Nat) : Nat := s.fld F.LNK_PORT_STATUS_ACTIVE_MASK p

/-- The active port lanes, ascending. -/
def State.activeLanes (s : State) (p : Nat) : List Nat := (List.range (s.portWidth p)).filter (natBit (s.activeMask p))

def State.pt (s : State) (p : Nat) : Port := tblGet {} s.port p
def State.setPt (s : State) (p : Nat) (x : Port) : State := { s with port := tblSet {} s.port p x }
def State.cp (s : State) (p : Nat) : CapPort := tblGet {} s.cap p
def State.setCp (s : State) (p : Nat) (x : CapPort) : State := { s with cap := tblSet {} s.cap p x }

/-- The class of a port's frames (R35, R36). -/
def State.portClass (s : State) (p : Nat) : Nat :=
  let c := s.fld F.CAP_PORT_CLASS_CLASS p
  if c = clsMelt && 2 < s.portWidth p then clsFrame else c

/-! ### Ranges of bytes -/

/-- `[a, b)` added to a list of disjoint ascending ranges, with adjacent ranges merged (R108). -/
def rangeAdd (a b : Nat) : List (Nat × Nat) → List (Nat × Nat)
  | [] => if a < b then [(a, b)] else []
  | r :: rest =>
    if b ≤ a then r :: rest
    else if b < r.1 then (a, b) :: r :: rest
    else if r.2 < a then r :: rangeAdd a b rest
    else rangeAdd (min a r.1) (max b r.2) rest

/-- The parts of `[a, b)` that no range of the list covers. -/
def rangeGaps (a b : Nat) : List (Nat × Nat) → List (Nat × Nat)
  | [] => if a < b then [(a, b)] else []
  | r :: rest =>
    if b ≤ a then []
    else if r.2 ≤ a then rangeGaps a b rest
    else if b ≤ r.1 then [(a, b)]
    else (if a < r.1 then [(a, r.1)] else []) ++ rangeGaps r.2 b rest

def rangeSize (l : List (Nat × Nat)) : Nat := (l.map (fun r => r.2 - r.1)).sum

/-- The bytes of `data` at `off`, with those that lie in an erased range of it taken as zero. -/
def zeroErased (erased : List (Nat × Nat)) (data : List Byte) (off : Nat) : List Byte :=
  data.zipIdx.map (fun x => if erased.any (fun e => decide (e.1 ≤ off + x.2) && decide (off + x.2 < e.1 + e.2)) then 0 else x.1)

/-! ### Crop (R103, R132) -/

/-- Pixels of a pixel group (R103). -/
def groupOf (fmt : Nat) : Nat :=
  match fmt with
  | 2 => 4
  | 3 => 2
  | _ => 1

/-- Whether a format, width and height make an opaque frame (R103). -/
def isOpaque (fmt w h : Nat) : Bool := fmt = 0 || 4 < fmt || w = 0 || h = 0 || w % groupOf fmt != 0

/-- The crop window over a frame: X0, Y0, width, height (R132). -/
def State.crop (s : State) (p fmt w0 h0 : Nat) : Nat × Nat × Nat × Nat :=
  let w := s.fld F.CAP_CROP_SIZE_W p
  let h := s.fld F.CAP_CROP_SIZE_H p
  if w = 0 || h = 0 then (0, 0, w0, h0)
  else
    let g := groupOf fmt
    let x := s.fld F.CAP_CROP_ORIGIN_X p / g * g
    let y := s.fld F.CAP_CROP_ORIGIN_Y p
    (x, y, min (w / g * g) (w0 - x), min h (h0 - y))

/-- The size of a frame in bytes, as sent and as delivered. -/
def CapFrame.size0 (f : CapFrame) : Nat := f.w0 * f.h0 * fmtBits f.fmt / 8
def CapFrame.size (f : CapFrame) : Nat := f.width * f.height * fmtBits f.fmt / 8

/-- The parts of the frame bytes `[a, b)` that lie in the crop: first byte, first delivered byte, length. -/
def CapFrame.segs (f : CapFrame) (a b : Nat) : List (Nat × Nat × Nat) :=
  if f.opaq then (if a < b then [(a, a, b - a)] else [])
  else
    let lb := f.w0 * fmtBits f.fmt / 8
    let cb := f.width * fmtBits f.fmt / 8
    let xb := f.x0 * fmtBits f.fmt / 8
    let first := a / max 1 lb
    let last := (b - 1) / max 1 lb
    if b ≤ a || lb = 0 then []
    else (List.range (last + 1 - first)).filterMap (fun i =>
      let l := first + i
      let lo := max a (l * lb + xb)
      let hi := min b (l * lb + xb + cb)
      if f.y0 ≤ l && l < f.y0 + f.height && lo < hi then some (lo, (l - f.y0) * cb + (lo - l * lb - xb), hi - lo) else none)

/-! ### The tag (R128 to R131) -/

/-- The tag with FLAGS, BYTE_COUNT, MISSING_RANGES and CAPTURE_FLAGS, and its TAG_CRC where it is final. -/
def frameTag (p : Nat) (f : CapFrame) (flags count missing capFlags : Nat) (final : Bool) : List Byte :=
  let body := bytesLE 1 p ++ [1] ++ bytesLE 2 flags ++ bytesLE 2 f.camSeq ++ bytesLE 1 f.fmt ++ bytesLE 1 f.trigSeq
    ++ bytesLE 8 (f.num % 2 ^ 48) ++ bytesLE 8 (secOf f.stampAt) ++ bytesLE 4 (nsOf f.stampAt) ++ bytesLE 2 (fracOf f.stampAt)
    ++ bytesLE 1 f.beam ++ bytesLE 1 f.trigSource ++ bytesLE 4 f.exposure ++ bytesLE 2 f.width ++ bytesLE 2 f.height
    ++ bytesLE 4 count ++ bytesLE 4 f.layer.toNat ++ f.axes.flatMap (fun w => bytesLE 4 w.toNat)
    ++ f.powers.flatMap (bytesLE 2) ++ bytesLE 4 f.scanRec.toNat ++ bytesLE 4 f.scanOff.toNat
    ++ bytesLE 4 f.trigDelay.toNat ++ bytesLE 2 missing ++ [0, 0] ++ bytesLE 4 capFlags
  body ++ bytesLE 4 (if final then crc32 body else 0)

/-- CAPTURE_FLAGS so far. -/
def pcrcFailFlag : Nat := 1
def unalignedFlag : Nat := 2
def mapOvfFlag : Nat := 4
def rateFlag : Nat := 8
def opaqueFlag : Nat := 16
def narrowedFlag : Nat := 32

/-! ### Store legs -/

/-- OPAQUE_MAX of a ring in bytes (R151). -/
def State.opaqueMax (s : State) (r : Nat) : Nat := atLeast1 (s.fld F.FST_RING_CFG_OPAQUE_MAX r) * 1024

/-- NEED of R151; none for an opaque frame. -/
def CapFrame.need (f : CapFrame) : Option Nat := if f.opaq then none else some (roundUp (128 + f.size + 512) 128)

/-- Bytes of the reef buffer taken in the crossbar half of port `p` (R526). -/
def State.reefUsed (s : State) (p : Nat) : Nat := ((s.fst.reefHeld.filter (fun h => h.port / 32 = p / 32)).map (·.need)).sum

/-- The record held in the reef buffer for an open frame. -/
def Held.isOf (h : Held) (r p num : Nat) : Bool := h.ring = r && h.port = p && h.frame = num && h.fin.isNone

/-- A tag as a record stores it: with PINNED, bit 2 of byte 2, where the record is pinned (R158). -/
def Rec.tagBytes (x : Rec) (o : Nat) (data : List Byte) : List Byte :=
  if o = 0 then putAt data 2 [(data.getD 2 0) ||| (if x.pinned then 4 else 0)] else data

/-- Bytes of an open frame's record at offset `o`: into the reef buffer where the record is held there, else into the
record (R147, R526). -/
def State.storeLeg (s : State) (p : Nat) (f : CapFrame) (o : Nat) (data : List Byte) : State :=
  match f.store with
  | none => s
  | some r =>
    if s.fst.reefHeld.any (fun h => h.isOf r p f.num) then
      { s with fst := { s.fst with reefHeld := s.fst.reefHeld.map (fun h =>
          if h.isOf r p f.num then { h with writes := h.writes ++ [(o, data)] } else h) } }
    else match (s.rg r).recs.find? (fun x => x.port = p && x.frame = f.num % 2 ^ 48 && !x.final) with
      | some x => s.recWr r x o (x.tagBytes o data)
      | none => s

/-- Whether the frame's own cut-through leg accepts it, or a spill leg (R153): the state after, and the frame. -/
def State.spill (s : State) (p r : Nat) (f : CapFrame) (ownLeg : Bool) (tag : List Byte) : CapFrame × State :=
  if ownLeg then (f, if f.ct.isSome then s.bump .FST_CNT_SPILL r else s.bump .FST_CNT_DROP r)
  else if s.flag F.FST_RING_CFG_SPILL_EN r then
    let ch := s.fld F.FST_RING_CFG_SPILL_DMA r
    let c := s.ctStart ch p f.num f.need tag
    if c.1 then ({ f with ct := some ch }, c.2.bump .FST_CNT_SPILL r) else (f, c.2.bump .FST_CNT_DROP r)
  else (f, s.bump .FST_CNT_DROP r)

/-- The store leg of a frame that starts (R139, R144, R151, R153, R526). `marks` are the rewind marks of the same clock, which come
between voiding and placement (R154); `slow` says that the writer cannot absorb the frame in time. -/
def State.startStore (s : State) (p : Nat) (f : CapFrame) (ownCt : Bool) (tag : List Byte) (slow : Bool) (marks : List RingOp) :
    CapFrame × State :=
  let r := s.fld F.CAP_PORT_ROUTE_RING p
  if !s.ringExists r then (f, (State.ringOps marks s).bump .FST_CNT_NO_RING)
  else
    let need := f.need.getD (128 + s.opaqueMax r + 512)
    let f' := { f with store := some r, opaqMax := s.opaqueMax r }
    let h : Held := { ring := r, port := p, frame := f.num, stamp := f.stampAt, at0 := s.fine, need := need, opaq := f.opaq,
                      ownCt := ownCt, ct := f.ct.isSome, writes := [(0, tag)] }
    let s1 := State.ringOps marks (if marks.isEmpty || s.fst.selfRefresh then s else s.voidAhead r need)
    if s1.reef then
      if 24 * 2 ^ 20 < s1.reefUsed p + need then (f, (s1.bump .FST_CNT_DROP r).bump .PWR_CNT_REEF_DROP)
      else if s1.fst.selfRefresh then (f', { s1 with fst := { s1.fst with reefHeld := s1.fst.reefHeld ++ [h] } })
      else match s1.placeRec r p (f.num % 2 ^ 48) f.stampAt s1.fine need with
        | (some seq, s2) => (f', { s2 with fst := { s2.fst with reefHeld := s2.fst.reefHeld ++ [{ h with place := some seq }] } })
        | (none, _) => (s1.ringFull r).spill p r f ownCt tag
    else if s1.fst.selfRefresh || (slow && s1.writerShort) then (f, s1.bump .FST_CNT_DROP r)
    else match s1.placeRec r p (f.num % 2 ^ 48) f.stampAt s1.fine need with
      | (some _, s2) => (f', s2.storeLeg p f' 0 tag)
      | (none, _) => (s1.ringFull r).spill p r f ownCt tag

/-! ### Delivery to the legs -/

/-- Delivered bytes at offset `o` of a frame go to its legs (R25); what lies beyond OPAQUE_MAX of the store leg is cut and
counted (R151). The second part says whether bytes were cut. `full` says that the ingest window of the mast cannot accept them
(R25). -/
def State.legs (s : State) (p : Nat) (f : CapFrame) (full : Bool) (o : Nat) (data : List Byte) : State × Bool :=
  let keep := if f.opaq && f.store.isSome then f.opaqMax - o else data.length
  let cut := data.length - keep
  let s1 := s.storeLeg p f (128 + o) (data.take keep)
  let s2 := if cut = 0 then s1 else s1.bumpBy .CAP_CNT_OVERSIZE cut p
  let s3 := match f.ct with
    | some ch => s2.ctData ch p f.num (128 + o) data
    | none => s2
  let s4 := match f.mast with
    | some m => s3.mastData m p f.num full o data
    | none => s3
  (s4, cut != 0)

/-- Segments of frame bytes delivered; `data` begins at frame byte `base`. -/
def State.legSegs (p : Nat) (f : CapFrame) (full : Bool) (base : Nat) (data : List Byte) :
    List (Nat × Nat × Nat) → State → State × Bool
  | [], s => (s, false)
  | (a, o, n) :: rest, s =>
    let r := s.legs p f full o (takeAt data (a - base) n)
    let t := State.legSegs p f full base data rest r.1
    (t.1, r.2 || t.2)

/-- Zeros delivered for the frame bytes `[a, b)`, which were skipped or never arrived (R107). -/
def State.legZeros (s : State) (p : Nat) (f : CapFrame) (full : Bool) (a b : Nat) : State :=
  (State.legSegs p f full a (List.replicate (b - a) 0) (f.segs a b) s).1

/-- The end of the highest byte that has arrived. -/
def CapFrame.top (f : CapFrame) : Nat := (f.got.getLast?.map (·.2)).getD 0

/-- New parts of a packet placed one after another: what lies between the highest byte and a part is delivered as zeros
first. -/
def State.placeParts (p : Nat) (full : Bool) (base : Nat) (data : List Byte) :
    List (Nat × Nat) → CapFrame → State → CapFrame × State
  | [], f, s => (f, s)
  | (a, b) :: rest, f, s =>
    let s1 := if f.top < a then s.legZeros p f full f.top a else s
    let r := State.legSegs p f full base data (f.segs a b) s1
    State.placeParts p full base data rest { f with got := rangeAdd a b f.got, trimmed := f.trimmed || r.2 } r.1

/-! ### Start of a frame (R101, R104, R124, R127, R130) -/

/-- The value of an axis (R127). -/
def State.axis (s : State) (k : Nat) : Word :=
  let c := s.fld F.CAP_AXIS_SEL_SOURCE k
  let head (r : Reg) (n : Nat) : Word := if s.hasBeam n then BitVec.ofInt 32 (sext 24 (s.rd r n).toNat) else 0
  if 0x01 ≤ c && c ≤ 0x10 then s.rd .CAP_ENC_COUNT (c - 1)
  else if 0x11 ≤ c && c ≤ 0x14 then s.rd .CAP_SSI_POS (c - 0x11)
  else if 0x20 ≤ c && c ≤ 0x2B then head .SCN_POS_X (c - 0x20)
  else if 0x30 ≤ c && c ≤ 0x3B then head .SCN_POS_Y (c - 0x30)
  else if 0x40 ≤ c && c ≤ 0x4B then
    if s.hasBeam (c - 0x40) then BitVec.ofInt 32 (sext 24 ((s.sc (c - 0x40)).zPos * 256)) else 0
  else 0

/-- Whether a lane of the port has an injection MODE other than off (R94, R129). -/
def State.injecting (s : State) (p : Nat) : Bool :=
  s.mode = modeService && (s.portLanes p).any (fun n => s.fld F.LNK_INJECT_MODE n = 1 || s.fld F.LNK_INJECT_MODE n = 2)

/-- The instant of a frame start: the sample of the lowest active port lane, less PHY_LAT of that lane and BOARD_ADJ of the
port's lowest lane (R124). -/
def State.stampOf (s : State) (p : Nat) : Nat :=
  let lane := s.laneOf p ((s.activeLanes p).headD 0)
  ((s.fine : Int) - tblGet 0 s.fuse.phyLat lane - sext 16 (s.fld F.CAP_STAMP_CAL_BOARD_ADJ p)).toNat

/-- cos and sin of the path direction, Q1.15, where the beam has one (R210). -/
def State.dirWord (s : State) (n : Nat) : Word :=
  let u := s.unitNow n
  let q (v : Int) : Nat := unsext 16 (clampInt (-32768) 32767 (v / 32768))
  if u = (0, 0) then 0 else BitVec.ofNat 32 (q u.1 + q u.2 * 65536)

/-- The tag fields of a frame that starts now with the usable fields given: `w`, `h`, PIXEL_FMT, TRIG_SEQ, FS_FLAGS,
EXPOSURE_NS. -/
def State.newFrame (s : State) (p seq w h fmt trig fs expo : Nat) (opq aligned crcBad : Bool) : CapFrame :=
  let x := s.cp p
  let stamp := s.stampOf p
  let bm := s.fld F.CAP_PORT_ROUTE_ASSOC_BEAM p
  let beam := if bm < 12 && s.hasBeam bm then some bm else none
  let c := if opq then (0, 0, w, h) else s.crop p fmt w h
  let triggered := natBit fs 0
  let t := if triggered then ((x.sent.take 16).find? (fun t => t.seq = trig)) else none
  let excess := match x.lastStamp with
    | some l => decide (stamp < l + 5000)
    | none => false
  let late := match t with
    | some t => t.late || decide (t.cause + fineOfUs (atLeast1 (s.fld F.CAP_TRIG_TIMING_LATE_LIMIT p)) < stamp)
    | none => false
  { num := x.count, camSeq := seq, fmt := fmt, trigSeq := if triggered then trig else 0, exposure := expo, opaq := opq,
    w0 := w, h0 := h, x0 := c.1, y0 := c.2.1, width := c.2.2.1, height := c.2.2.2, stampAt := stamp,
    axes := (List.range 8).map s.axis,
    powers := (List.range 12).map (fun n => if s.hasBeam n then min 65535 (s.beamC n) else 0),
    layer := s.rd .SCN_LAYER,
    scanRec := (beam.map (fun n => s.rd .SCN_RECORD n)).getD 0xFFFFFFFF,
    scanOff := (beam.map (fun n => BitVec.ofNat 32 (s.scanOffset n))).getD 0,
    beam := beam.getD 0xFF, dir := (beam.map s.dirWord).getD 0,
    trigSource := (t.map (·.kind)).getD 0,
    trigDelay := match t with
      | some t => BitVec.ofInt 32 (((stamp : Int) - t.cause) * 4 / 5)
      | none => 0x80000000,
    late := late, test := natBit fs 1 || s.injecting p,
    trimmed := !opq && (c.2.2.1 != w || c.2.2.2 != h),
    capFlags := (if crcBad then pcrcFailFlag else 0) + (if aligned then 0 else unalignedFlag)
      + (if excess then rateFlag else 0) + (if opq then opaqueFlag else 0),
    lastAt := s.fine }

/-- CAP_FRAME_NUM_LO shows the next number (R130). -/
def State.showFrameNum (s : State) (p : Nat) : State :=
  s.wr .CAP_FRAME_NUM_LO (BitVec.ofNat 32 ((s.cp p).count % 2 ^ 32)) p

/-- The mast of the analysis leg (R36, R521). -/
def State.analyseMast (s : State) (p : Nat) : Option Nat :=
  let m := s.fld F.CAP_PORT_CLASS_MAST p
  if s.flag F.CAP_PORT_CLASS_ANALYSE p && s.hasMast m && s.domOn m then some m else none

/-- The frame is given its legs (R35, R133), with its preliminary tag. -/
def State.giveLegs (s : State) (p : Nat) (f : CapFrame) (slow : Bool) (marks : List RingOp) : CapFrame × State :=
  if s.portClass p = 0 then (f, State.ringOps marks s)
  else
    let tag := frameTag p f (b2n f.test * 32) 0 0 f.capFlags false
    let ch := s.fld F.CAP_PORT_ROUTE_DMA_CH p
    let own := s.flag F.CAP_PORT_CLASS_CUT_THROUGH p
    let c := if own then s.ctStart ch p f.num f.need tag else (false, s)
    let f1 := if c.1 then { f with ct := some ch } else f
    let st := if s.flag F.CAP_PORT_CLASS_STORE p then c.2.startStore p f1 own tag slow marks else (f1, State.ringOps marks c.2)
    match s.analyseMast p with
    | some m =>
      if f.opaq then st
      else
        let i : FrameInfo := { num := f.num, port := p, cls := s.portClass p, fmt := f.fmt, width := f.width,
                               height := f.height, beam := f.beam, stampAt := f.stampAt, dir := f.dir, layer := f.layer,
                               scanRec := f.scanRec, scanOff := f.scanOff, exposure := BitVec.ofNat 32 f.exposure }
        ({ st.1 with mast := some m }, st.2.mastStart m i st.2.portClass)
    | none => st

/-- A frame opens: its number, its stamp, its counters and its legs (R101, R103, R130, R377). -/
def State.openFrame (s : State) (p : Nat) (f : CapFrame) (slow : Bool) (marks : List RingOp) : State :=
  let x := s.cp p
  let s1 := (s.setCp p { x with count := (x.count + 1) % 2 ^ 48, lastStamp := some f.stampAt }).showFrameNum p
  let s2 := s1.bump .CAP_CNT_FRAMES p
  let s3 := if f.capFlags / rateFlag % 2 = 1 then s2.bump .CAP_CNT_RATE_EXCESS p else s2
  let s4 := if f.opaq then s3.bump .CAP_CNT_OPAQUE p else s3
  let s5 := s4.publish p 0 (BitVec.ofNat 48 f.stampAt)
  let r := s5.giveLegs p f slow marks
  r.2.setCp p { r.2.cp p with frame := some r.1 }

/-! ### Frame data (R106, R107) -/

/-- Bytes of a packet at frame byte `off`: the part inside the frame that has not arrived is placed, the rest is cut and
counted. `bad` are the ranges of the packet's bytes that are missing. -/
def State.frameData (s : State) (p off : Nat) (data : List Byte) (bad : List (Nat × Nat)) (failed rebuilt full : Bool) : State :=
  match (s.cp p).frame with
  | none => s
  | some f =>
    let e := off + data.length
    let lim := if f.opaq then e else min e f.size0
    let beyond := e - max off lim
    let parts := rangeGaps off lim f.got
    let overlap := (lim - off) - rangeSize parts
    let s1 := if beyond + overlap = 0 then s else s.bumpBy .CAP_CNT_OVERSIZE (beyond + overlap) p
    let r := State.placeParts p full off data parts f s1
    let f1 := r.1
    let badParts := parts.flatMap (fun q => bad.filterMap (fun b =>
      if max q.1 b.1 < min q.2 b.2 then some (max q.1 b.1, min q.2 b.2) else none))
    let f2 := { f1 with bad := badParts.foldl (fun l b => rangeAdd b.1 b.2 l) f1.bad, trimmed := f1.trimmed || beyond != 0,
                        rebuilt := f1.rebuilt || rebuilt, test := f1.test || s.injecting p, lastAt := s.fine,
                        capFlags := if failed then f1.capFlags ||| pcrcFailFlag else f1.capFlags }
    r.2.setCp p { r.2.cp p with frame := some f2 }

/-! ### The end of a frame (R105, R108, R131, R147) -/

/-- The 64 entries of the byte map, how many are used, and whether it overflows, for a delivered frame of `size` bytes (R108). -/
def byteMap (size : Nat) (l : List (Nat × Nat)) : List Byte × Nat × Bool :=
  let beyond := decide (64 < l.length)
  let l' := if beyond then l.take 63 ++ [((l.getD 63 (0, 0)).1, size)] else l
  let e := l'.flatMap (fun r => bytesLE 4 r.1 ++ bytesLE 4 (r.2 - r.1))
  (e ++ List.replicate (512 - e.length) 0, l'.length, beyond)

/-- The open frame of port `p` closes, with the BYTE_COUNT of its FRAME_END where that is usable: missing bytes are
delivered as zeros, the final tag and the byte map go to the legs, and the end is published. -/
def State.closeFrame (s : State) (p : Nat) (count : Option Nat) : State :=
  match (s.cp p).frame with
  | none => s
  | some f =>
    let size0 := if f.opaq then count.getD f.top else f.size0
    let beyond := if f.opaq then f.top - size0 else 0
    let s0 := s.setCp p { s.cp p with frame := none }
    let s1 := if beyond = 0 then s0 else s0.bumpBy .CAP_CNT_OVERSIZE beyond p
    let s2 := if f.top < size0 then s1.legZeros p f false f.top size0 else s1
    let lost := f.bad.foldl (fun l b => rangeAdd b.1 (min b.2 size0) l) (rangeGaps 0 size0 f.got)
    let missing := (lost.flatMap (fun r => f.segs r.1 r.2)).foldl (fun l x => rangeAdd x.2.1 (x.2.1 + x.2.2) l) []
    let cutAt := if f.opaq && f.store.isSome then min size0 f.opaqMax else size0
    let bytes := if f.opaq then cutAt else f.size
    let trimmed := f.trimmed || beyond != 0 || (f.opaq && cutAt != size0)
    let m := byteMap bytes missing
    let inc := !missing.isEmpty
    let flags := b2n inc + 2 * b2n f.rebuilt + 8 * b2n trimmed + 16 * b2n f.late + 32 * b2n f.test
    let cap := if m.2.2 then f.capFlags ||| mapOvfFlag else f.capFlags
    let tag := frameTag p f flags bytes m.2.1 cap true
    let data := roundUp bytes 128
    let len := 128 + data + (if inc then 512 else 0)
    let s3 := (s2.storeLeg p f (128 + bytes) (List.replicate (data - bytes) 0))
    let s4 : State := if inc then s3.storeLeg p f (128 + data) m.1 else s3
    let s5 : State := match f.store with
      | none => s4
      | some r =>
        if s4.fst.reefHeld.any (fun h => h.isOf r p f.num) then
          { s4 with fst := { s4.fst with reefHeld := s4.fst.reefHeld.map (fun h =>
              if h.isOf r p f.num then { h with writes := h.writes ++ [(0, tag)], fin := some (len, inc) } else h) } }
        else match (s4.rg r).recs.find? (fun x => x.port = p && x.frame = f.num % 2 ^ 48 && !x.final) with
          | some x => (s4.recWr r x 0 (x.tagBytes 0 tag)).endRec r x.seq len inc
          | none => s4
    let s6 := match f.ct with
      | some ch => s5.ctEnd ch p f.num tag (128 + data) (if inc then m.1 else [])
      | none => s5
    let s7 := match f.mast with
      | some k => s6.mastClose k p f.num flags
      | none => s6
    let s8 := if inc then s7.bump .CAP_CNT_INCOMPLETE p else s7
    s8.publish (0x040 + p) (flags % 256) s8.now48

end Sys2Proof.Machine
end

