-- ==== Sys2Proof/Machine/ModeOps.lean ====
section
/-!
DEFINITION. Changes of the mode in force and what they do to beams (R515), and the qualification of BEAM_PERMIT (R289).
-/

namespace Sys2Proof.Machine

/-- A list of beams, each changed in turn. -/
def State.eachBeam (k : Nat → State → State) : List Nat → State → State
  | [], s => s
  | n :: rest, s => State.eachBeam k rest (if s.hasBeam n then k n s else s)

def State.allBeams (s : State) (k : Nat → State → State) : State := State.eachBeam k (List.range 12) s

/-- The mode in force becomes `m` and is published (R515); gates, sheet units and lighting follow it. -/
def State.setMode (s : State) (m : Nat) : State :=
  let s1 := (s.setFld F.PWR_MODE_STATUS_MODE m).publish 0x230 m s.now48
  (s1.allBeams (fun n s => (s.shEnable n).beamGate n)).lumModeChange s.mode

/-- The interpreters that run make a hard halt with cause MODE (R339, R515). -/
def State.haltForMode (s : State) : State := s.refreshAll.allBeams (fun n s => s.hardHaltActive n 0xA)

/-- Tuning runs stop, but for those with BUILD_OK = 1 where `keep` (R262). -/
def State.stopTuning (s : State) (keep : Bool) : State :=
  s.allBeams (fun n s => if keep && s.flag F.SHT_TUNE_BUILD_OK n then s else s.shTuneEnd n)

/-- BUILD to ACQUIRE (R515): interpreters halt, sheet units go to OFF, rotation requests not granted are voided, and
every gate closes. -/
def State.buildToAcquire (s : State) : State :=
  let s1 := s.haltForMode
  ({ s1 with beams := { s1.beams with reqs := [] } }.stopTuning false).setMode modeAcquire

/-! ### BEAM_PERMIT (R289) -/

/-- Whether the two channels read different states: A asserted is high, B asserted is low. -/
def State.permitDisagrees (s : State) : Bool := s.flag F.BCH_PERMIT_A == s.flag F.BCH_PERMIT_B

/-- PERMIT follows the channels and PERMIT_FAULT; a change is published, the gates follow, and BUILD is left when
PERMIT leaves 1. -/
def State.permitUpdate (s : State) : State :=
  let new := s.flag F.BCH_PERMIT_A && !s.flag F.BCH_PERMIT_B && !s.flag F.BCH_PERMIT_PERMIT_FAULT
  let old := s.flag F.BCH_PERMIT_PERMIT
  if new == old then s
  else
    let s1 := (s.setFld F.BCH_PERMIT_PERMIT (b2n new)).publish 0x1BD (b2n new) s.now48
    let s2 := s1.allGates
    if !new && s2.mode = modeBuild then s2.buildToAcquire else s2

end Sys2Proof.Machine
end

