-- ==== Sys2Proof/Machine/LaneOps.lean ====
section
/-!
DEFINITION. Lanes and ports: blocks on the line (R44 to R53, R57), low-power states (R65 to R70), training (R59 to R62),
how ports come up, lose lanes, narrow and go down (R63, R64, R71, R80 to R83), rows and parity (R72 to R79), test patterns
(R84, R85).
-/

namespace Sys2Proof.Machine

def State.ln (s : State) (n : Nat) : Lane := tblGet {} s.lnk n
def State.setLn (s : State) (n : Nat) (x : Lane) : State := { s with lnk := tblSet {} s.lnk n x }

/-! ### States (R54) -/

def lsDisabled : Nat := 0
def lsDeep : Nat := 1
def lsSignal : Nat := 2
def lsCdr : Nat := 3
def lsHunt : Nat := 4
def lsAlign : Nat := 5
def lsTrain : Nat := 6
def lsDeskew : Nat := 7
def lsUp : Nat := 8
def lsDoze : Nat := 9
def lsTest : Nat := 10
def lsFailed : Nat := 11
def lsShadow : Nat := 12

def State.lstate (s : State) (n : Nat) : Nat := s.fld F.LNK_STATUS_STATE n
def State.setLstate (s : State) (n st : Nat) : State :=
  (s.setLn n { s.ln n with since := s.fine }).setFld F.LNK_STATUS_STATE st n

/-- The lowest lane of the port of lane `n`; the lane itself where it is in none. -/
def State.portAt (s : State) (n : Nat) : Nat := ((s.portOf n).map (·.1)).getD n

/-- A list of lanes or ports, each changed in turn. -/
def State.eachOf (k : Nat → State → State) : List Nat → State → State
  | [], s => s
  | n :: rest, s => State.eachOf k rest (k n s)

/-! ### The scrambler (R46) -/

/-- What the receiver recovers of line bits `pay` after the line bits `last`, all of them scrambled. -/
def unscramble (last : BitVec 58) (pay : BitVec 256) : BitVec 256 :=
  let x : BitVec 314 := (pay.setWidth 314 <<< 58) ||| last.setWidth 314
  pay ^^^ (x >>> 19).setWidth 256 ^^^ x.setWidth 256

/-- The last 58 of the line bits `last` and then `pay`. -/
def lastBits (last : BitVec 58) (pay : BitVec 256) : BitVec 58 :=
  (((pay.setWidth 314 <<< 58) ||| last.setWidth 314) >>> 256).setWidth 58

/-- The line bits of `d` after the line bits `tx`, with the first `clear` bits sent clear: bit by bit from bit `i`. -/
def scrambleFrom (d : BitVec 256) (clear : Nat) : Nat → Nat → BitVec 58 → BitVec 256 → BitVec 256
  | 0, _, _, out => out
  | fuel + 1, i, tx, out =>
    let b := d.getLsbD i
    let b := if i < clear then b else (b != tx.getLsbD 19) != tx.getLsbD 0
    scrambleFrom d clear fuel (i + 1) ((tx >>> 1) ||| (if b then 0x200000000000000 else 0))
      (if b then out ||| (1#256 <<< i) else out)

def scramble (tx : BitVec 58) (clear : Nat) (d : BitVec 256) : BitVec 256 := scrambleFrom d clear 256 0 tx 0

/-- The longest run of equal bits among the low `w` bits of `v`. -/
def maxRun (w : Nat) (v : BitVec 256) : Nat :=
  let f (x : Nat × Bool × Nat) (b : Bool) : Nat × Bool × Nat := -- the run so far, its bit, the longest
    let n := if b = x.2.1 then x.1 + 1 else 1
    (n, b, max x.2.2 n)
  (((List.range w).map (fun i => v.getLsbD i)).foldl f (0, false, 0)).2.2

/-- Whether 256 payload bits hold a run of more than 40 (R51). -/
def longRun (pay : BitVec 256) : Bool := 40 < maxRun 256 pay

/-- The 32 bytes of a payload, and the payload of 32 bytes (R45). -/
def payBytes (d : BitVec 256) : List Byte := bytesLE 32 d.toNat
def bytesPay (l : List Byte) : BitVec 256 := BitVec.ofNat 256 (natLE l)

/-! ### Sending (R47, R49, R51, R52, R72) -/

/-- The payload of a stuffed block with a SEED (R51). -/
def stuffedPay (seed : BitVec 58) : BitVec 256 :=
  BitVec.ofNat 256 (0x5C + ((List.range 95).map (fun k => 2 ^ (8 + 2 * k))).sum + seed.toNat * 2 ^ 198)

/-- A SEED: a free value as it is drawn where it is not zero and has a transition in every 20 bits, else the value with
transitions put after bits 0, 19 and 38 (DESIGN CHOICE, log entry 62). -/
def State.seed (s : State) : BitVec 58 × State :=
  let r := s.freeBits 58
  let fix (v : BitVec 58) (i : Nat) : BitVec 58 :=
    (v &&& ~~~(1#58 <<< (i + 1))) ||| (if v.getLsbD i then 0 else 1#58 <<< (i + 1))
  (if maxRun 58 (r.1.setWidth 256) < 20 then r.1 else fix (fix (fix r.1 0) 19) 38, r.2)

/-- The loopback of lane `n` as applied (R85, R87): 0 none, 1 near-end, 2 far-end. -/
def State.loopback (s : State) (n : Nat) : Nat :=
  let c := s.fld F.LNK_CTRL_LOOPBACK n
  if s.mode = modeService && c != 3 then c else 0

/-- A block with the next bits of a burst inverted, and the rest of the burst (R94): from the first bit of the payload, or from
the first bit of the header. -/
def injected (inj : Option (Nat × Bool)) (hdr : BitVec 2) (pay : BitVec 256) : BitVec 2 × BitVec 256 × Option (Nat × Bool) :=
  match inj with
  | none => (hdr, pay, none)
  | some (k, false) => (hdr, pay ^^^ BitVec.ofNat 256 (2 ^ k - 1), none)
  | some (k, true) => (hdr ^^^ (if k = 1 then 1 else 3), pay, if k ≤ 2 then none else some (k - 2, true))

/-- One block on the line of lane `n` (R45, R87, R94), with its line bits after the scrambler; near-end loopback brings it to the
lane's receiver. An idle block that nothing changes is not shown. -/
def State.putBlock (s : State) (n : Nat) (hdr : BitVec 2) (pay : BitVec 256) (shown : Bool := true) : State :=
  let x := s.ln n
  let j := injected x.inj hdr pay
  let inv := s.flag F.LNK_CTRL_TX_INVERT n
  let b : LineBlock := { hdr := if inv then ~~~j.1 else j.1, pay := if inv then ~~~j.2.1 else j.2.1, pre := some x.line }
  let show_ := shown || x.inj.isSome
  let s1 := s.setLn n { x with tx := lastBits x.tx pay, line := lastBits x.line b.pay, inj := j.2.2,
                               loop := if show_ && s.loopback n = 1 then x.loop ++ [b] else x.loop }
  if show_ then s1.emit (.block n b.hdr b.pay) else s1

/-- A block of a row before the scrambler: its lane, header, payload, and whether it is shown. -/
structure TxBlock where
  lane : Nat
  hdr : BitVec 2
  pay : BitVec 256
  shown : Bool
  deriving DecidableEq, Repr

/-- Its line bits (R46): a data block is scrambled whole, a control block but for byte 0. -/
def TxBlock.line (x : TxBlock) (s : State) : BitVec 256 := scramble (s.ln x.lane).tx (if x.hdr = 1 then 8 else 0) x.pay

/-- A stuffed block on every lane of a row (R52). -/
def State.stuffLanes : List TxBlock → State → State
  | [], s => s
  | x :: rest, s =>
    let r := s.seed
    State.stuffLanes rest (r.2.putBlock x.lane 1 (stuffedPay r.1))

def State.putLanes : List TxBlock → State → State
  | [], s => s
  | x :: rest, s => State.putLanes rest (s.putBlock x.lane x.hdr (x.line s) x.shown)

/-- A slot of port `p` has been used, by a stuffed row or another. -/
def State.useSlot (s : State) (p : Nat) (stuffed : Bool) : State :=
  s.setPt p { s.pt p with slots := (s.pt p).slots + 1, txStuff := (s.pt p).txStuff + b2n stuffed }

/-- A row, stuffed while any of its blocks would hold a long run (R51, R52). Where as many rows as the fuel have been stuffed the
held blocks are still not sent (DESIGN CHOICE, log entry 62). -/
def State.putRow (p : Nat) (row : List TxBlock) : Nat → State → State
  | 0, s => s
  | fuel + 1, s =>
    if row.any (fun x => longRun (x.line s)) then State.putRow p row fuel ((State.stuffLanes row s).useSlot p true)
    else (State.putLanes row s).useSlot p false

/-- The rows that may be stuffed before a held row. -/
def stuffFuel : Nat := 64

/-- Whether the transmitter of lane `n` is on (R43). -/
def State.txOn (s : State) (n : Nat) : Bool :=
  let st := s.lstate n
  st != lsDisabled && st != lsTest && !(st = lsDeep && (s.ln n).exit != 2)

/-- The lanes of port `p` that send its rows, with the port lane each is: those on, but for lanes that retransmit what they
receive (R87). -/
def State.txLanes (s : State) (p : Nat) : List (Nat × Nat) :=
  ((List.range (s.portWidth p)).map (fun i => (i, s.laneOf p i))).filter (fun x => s.txOn x.2 && s.loopback x.2 != 2)

/-- A row of control blocks of port `p`: `content` gives the bytes of a port lane's block, idle blocks elsewhere (R72). -/
def State.rowOf (s : State) (p : Nat) (content : Nat → Option (List Byte)) : List TxBlock :=
  (s.txLanes p).map (fun x => ⟨x.2, 1, bytesPay ((content x.1).getD [0x2D]), true⟩)

/-- Bytes with their CRC-16 after them (R48). -/
def withCrc (l : List Byte) : List Byte := l ++ bytesLE 2 (crc16 l)

/-! ### Patterns (R84, R93) -/

/-- The next bit of a pattern after the last 31 bits `r`, the newest highest: PRBS7, PRBS15 or PRBS31. -/
def prbsNext (code : Nat) (r : BitVec 31) : Bool :=
  match code with
  | 1 => r.getLsbD 25 != r.getLsbD 24
  | 2 => r.getLsbD 17 != r.getLsbD 16
  | _ => r.getLsbD 3 != r.getLsbD 0

def prbsPush (r : BitVec 31) (b : Bool) : BitVec 31 := (r >>> 1) ||| (if b then 0x40000000 else 0)

/-- The bits before bit `k` of a pattern that follows the bits `r`. -/
def prbsAt (code : Nat) (r : BitVec 31) : Nat → BitVec 31
  | 0 => r
  | k + 1 => let x := prbsAt code r k; prbsPush x (prbsNext code x)

/-- Bit `k` of the raw pattern of a GEN code (R93): PRBS, the clock pattern, LNK_USER_WORD bit 0 first. -/
def patternBit (code : Nat) (seed : BitVec 32) (k : Nat) : Bool :=
  match code with
  | 5 => k % 2 == 0
  | 6 => seed.getLsbD (k % 32)
  | _ => prbsNext code (prbsAt code (seed.setWidth 31) k)

/-- 256 bits of PRBS31 after the bits `r`, as a payload, from bit `i`; the bits before the next. -/
def prbsBlock : Nat → Nat → BitVec 31 → BitVec 256 → BitVec 256 × BitVec 31
  | 0, _, r, d => (d, r)
  | fuel + 1, i, r, d =>
    let b := prbsNext 3 r
    prbsBlock fuel (i + 1) (prbsPush r b) (if b then d ||| (1#256 <<< i) else d)

/-- Whether lane `n` fills data blocks with framed PRBS31 (R84, R85). -/
def State.framedGen (s : State) (n : Nat) : Bool := s.mode = modeService && s.fld F.LNK_PATTERN_GEN n = 4 && s.lstate n = lsUp

/-! ### Slots (R49, R53, R72) -/

/-- What a lane sends where its port has nothing to send: an idle block, or framed PRBS31. -/
def State.idleLane (s : State) (n : Nat) : TxBlock × State :=
  if s.framedGen n then
    let x := s.ln n
    let r := prbsBlock 256 0 (if x.gen = 0 then 1 else x.gen) 0
    (⟨n, 2, r.1, true⟩, s.setLn n { x with gen := r.2 })
  else (⟨n, 1, bytesPay [0x2D], false⟩, s)

def State.idleLanes : List Nat → State → List TxBlock × State
  | [], s => ([], s)
  | n :: rest, s =>
    let r := s.idleLane n
    let t := State.idleLanes rest r.2
    (r.1 :: t.1, t.2)

/-- Slots in which port `p` has nothing to send. -/
def State.idleRows (p : Nat) : Nat → State → State
  | 0, s => s
  | k + 1, s =>
    let r := State.idleLanes ((s.txLanes p).map (·.2)) s
    State.idleRows p k (State.putRow p r.1 stuffFuel r.2)

/-- Slots that `f` fine counts hold: 172/11 fine counts each (R44), and the first instant at which `k` slots have passed. -/
def slotsIn (f : Nat) : Nat := f * 11 / 172
def slotsEnd (k : Nat) : Nat := (k * 172 + 10) / 11

/-- A skip block on every lane of port `p` (R49). ACTIVE_MASK of a port that is not up is the full mask (DESIGN CHOICE, log
entry 63). -/
def State.sendSkip (s : State) (p : Nat) : State :=
  let w := s.portWidth p
  let x := s.pt p
  let mask := if s.portUp p then s.activeMask p else 2 ^ w - 1
  let flags := b2n (s.flag F.LNK_PORT_STATUS_PARITY_ACTIVE p) + 2 * b2n (s.flag F.LNK_PORT_STATUS_DEGRADED p)
  let body (i : Nat) : List Byte := withCrc ([0x1E, BitVec.ofNat 8 (i + Nat.log2 w * 16)] ++ bytesLE 2 x.txSeq
    ++ bytesLE 2 mask ++ [BitVec.ofNat 8 flags, BitVec.ofNat 8 (min 255 x.txStuff)])
  let s1 := State.putRow p (s.rowOf p (fun i => some (body i))) stuffFuel s
  s1.setPt p { s1.pt p with txSeq := (x.txSeq + 1) % 65536, txStuff := 0, slots := 0, skipAt := s1.fine }

/-- The slots of port `p` up to slot `k` since its last skip pass with nothing to send; after 1,024 the skip is sent. -/
def State.fillTo (s : State) (p k : Nat) : State :=
  let s1 := State.idleRows p (min k 1024 - (s.pt p).slots) s
  if 1024 ≤ (s1.pt p).slots then s1.sendSkip p else s1

/-- The slots that have passed since the last row of port `p`. -/
def State.fillSlots (s : State) (p : Nat) : State := s.fillTo p (slotsIn (s.fine - (s.pt p).skipAt))

/-- A row of control blocks of port `p` in the next slot (R72). -/
def State.sendRow (s : State) (p : Nat) (content : Nat → Option (List Byte)) : State :=
  let s1 := s.fillSlots p
  State.putRow p (s1.rowOf p content) stuffFuel s1

/-- A low-power row (R66). -/
def State.sendPower (s : State) (p code : Nat) : State :=
  s.sendRow p (fun i => some (withCrc [0x78, BitVec.ofNat 8 code, BitVec.ofNat 8 i]))

/-- The control segments of a request (R110). -/
def segments (id : Nat) (total : Nat) : Nat → Nat → List Byte → List (List Byte)
  | 0, _, _ => []
  | fuel + 1, k, data =>
    let part := data.take 26
    let rest := data.drop 26
    let seg := k + (if k = 0 then 64 else 0) + (if rest.isEmpty then 128 else 0)
    let b := [0x66, BitVec.ofNat 8 seg, BitVec.ofNat 8 id, BitVec.ofNat 8 part.length] ++ part ++ List.replicate (26 - part.length) 0
    withCrc b :: (if rest.isEmpty then [] else segments id total fuel (k + 1) rest)

def State.sendRows (p : Nat) : List (List Byte) → State → State
  | [], s => s
  | b :: rest, s => State.sendRows p rest (s.sendRow p (fun i => if i = 0 then some b else none))

/-- Control segments that wait go out unless a trigger block is queued, which goes ahead of every segment not started (R119). -/
def State.flushSegs (s : State) (p : Nat) : State :=
  if (s.cp p).queued.isSome then s
  else State.sendRows p (s.pt p).segs (s.setPt p { s.pt p with segs := [] })

/-- A CONTROL_REQUEST packet of the given MSG_ID, OP and payload (R97, R98, R110); one of the lane layer goes ahead of segments
not started (R112). -/
def State.sendRequest (s : State) (p id op : Nat) (payload : List Byte) : State :=
  let h := [0xA7, 0] ++ bytesLE 2 payload.length ++ [BitVec.ofNat 8 id, BitVec.ofNat 8 op]
  let pkt := withCrc h ++ payload ++ (if payload.isEmpty then [] else bytesLE 4 (crc32 payload))
  let segs := segments id pkt.length 16 0 pkt
  let held := (s.pt p).segs
  (s.setPt p { s.pt p with segs := if 0xF0 ≤ id then segs ++ held else held ++ segs }).flushSegs p

/-! ### Receiving (R45, R46, R48) -/

/-- A block as the receiver takes it: header and payload after polarity, what descrambling recovers of the payload, and whether
the elastic buffer has lost it (R95). -/
structure RxBlock where
  hdr : BitVec 2
  line : BitVec 256
  bits : BitVec 256
  lost : Bool := false
  deriving DecidableEq, Repr

/-- What comes in on lane `n` where the camera sends `b` (R87): in near-end loopback the lane's own next block, or an idle block;
in far-end loopback `b`, which is sent back. -/
def State.lineIn (s : State) (n : Nat) (b : LineBlock) : LineBlock × State :=
  let x := s.ln n
  let inv := s.flag F.LNK_CTRL_TX_INVERT n
  match s.loopback n with
  | 1 => match x.loop with
    | c :: rest => (c, s.setLn n { x with loop := rest })
    | [] =>
      let d := scramble (if inv then ~~~x.line else x.line) 8 (bytesPay [0x2D])
      ({ hdr := if inv then 2 else 1, pay := if inv then ~~~d else d, pre := some x.line }, s)
  | 2 =>
    let d := if inv then ~~~b.pay else b.pay
    (b, (s.setLn n { x with tx := lastBits x.tx d, line := lastBits x.line d }).emit (.block n (if inv then ~~~b.hdr else b.hdr) d))
  | _ => (b, s)

/-- The block `b` of lane `n`, taken in the sense `inv`, and the receiver's state after it. A block that the elastic buffer loses
is an erasure (R95). -/
def State.takeBlock (s : State) (n : Nat) (b : LineBlock) (inv : Bool) : RxBlock × State :=
  let last := b.pre.getD (s.ln n).rx
  let d := unscramble last b.pay
  let s1 := s.setLn n { s.ln n with rx := lastBits last b.pay }
  if b.lost then (⟨0, 0, 0, true⟩, s1.bump .LNK_CNT_EB_OVF n)
  else (if inv then ⟨~~~b.hdr, ~~~b.pay, ~~~d, false⟩ else ⟨b.hdr, b.pay, d, false⟩, s1)

/-- The 32 bytes of a control block: byte 0 clear, the rest descrambled. -/
def RxBlock.ctl (r : RxBlock) : List Byte := payBytes ((r.bits &&& ~~~0xFF#256) ||| (r.line &&& 0xFF#256))

def RxBlock.validHdr (r : RxBlock) : Bool := r.hdr = 1 || r.hdr = 2
def RxBlock.isData (r : RxBlock) : Bool := r.hdr = 2

/-- Lane `n` of port `p` becomes SUSPECT (R76, R77): stripes held remember it. -/
def State.suspect (s : State) (p n : Nat) : State :=
  let i := s.indexOf p n
  let s1 := (s.setFld F.LNK_STATUS_SUSPECT 1 n).setLn n { s.ln n with good := 0 }
  s1.setPt p { s1.pt p with held := (s1.pt p).held.map (fun x => if x.late.isNone then { x with late := some i } else x) }

/-- An invalid header (R44, R61, R76, R79): counted once the lane has block lock, but for the 1.0 µs after an update that the
Swista asked for. In a parity port it makes an UP lane SUSPECT, and a lane in SHADOW does not rejoin at the next skip. -/
def State.badHeader (s : State) (n : Nat) : State :=
  let p := s.portAt n
  if !s.flag F.LNK_STATUS_BLOCK_LOCK n || s.fine < (s.ln n).quietTill then s
  else
    let s1 := s.bump .LNK_CNT_BAD_HDR n
    if s1.lstate n = lsShadow then s1.setLn n { s1.ln n with clean := some false }
    else if s1.lstate n = lsUp && s1.flag F.LNK_PORT_STATUS_PARITY_ACTIVE p && !s1.flag F.LNK_STATUS_SUSPECT n then s1.suspect p n
    else s1

/-- The block in the polarity in force. -/
def State.rxBlock (s : State) (n : Nat) (b : LineBlock) : RxBlock × State :=
  let c := s.lineIn n b
  let r := c.2.takeBlock n c.1 (c.2.flag F.LNK_STATUS_RX_INVERTED n)
  if r.1.lost || r.1.validHdr then r else (r.1, r.2.badHeader n)

/-- Whether the CRC at byte `n` over the bytes before it checks. -/
def crcOk (b : List Byte) (n : Nat) : Bool := fieldLE b n 2 = crc16 (b.take n)

/-! ### Taps (R59) -/

def presetTaps (k : Nat) : Nat × Nat × Nat := -- C_PRE, C_MAIN, C_POST
  match k with
  | 0 => (0, 48, 0)
  | 1 => (0, 40, 8)
  | 2 => (0, 36, 12)
  | 3 => (4, 40, 4)
  | 5 => (4, 32, 12)
  | 6 => (6, 30, 12)
  | 7 => (8, 24, 16)
  | _ => (4, 36, 8)

/-- One tap changed as its request says: the tap, and its status (R60, R61). `others` is the sum of the other taps. -/
def tapStep (req v lo hi others : Nat) : Nat × Nat :=
  match req with
  | 1 => if v + 1 ≤ hi && v + 1 + others ≤ 48 then (v + 1, 1) else (v, 3)
  | 2 => if lo + 1 ≤ v then (v - 1, 1) else (v, 2)
  | _ => (v, 0)

/-- The Swista's own taps changed by bytes 3 and 4 of a REQUEST; the answer holds the status byte. A PRESET is answered as an
update of all three taps, and steps are tested against the sum limit in the order C_PRE, C_MAIN, C_POST (DESIGN CHOICE, log
entry 64). -/
def State.applyTaps (s : State) (n req preset : Nat) : Nat × State :=
  let put (t : Nat × Nat × Nat) : State :=
    ((s.setFld F.LNK_TAPS_OWN_PRE t.1 n).setFld F.LNK_TAPS_OWN_MAIN t.2.1 n).setFld F.LNK_TAPS_OWN_POST t.2.2 n
  if natBit req 6 then (0x15, put (presetTaps (if 8 ≤ preset then 4 else preset)))
  else
    let pre := s.fld F.LNK_TAPS_OWN_PRE n
    let main := s.fld F.LNK_TAPS_OWN_MAIN n
    let post := s.fld F.LNK_TAPS_OWN_POST n
    let a := tapStep (req % 4) pre 0 8 (main + post)
    let b := tapStep (req / 4 % 4) main 24 48 (a.1 + post)
    let c := tapStep (req / 16 % 4) post 0 16 (a.1 + b.1)
    (a.2 + 4 * b.2 + 16 * c.2, put (a.1, b.1, c.1))

/-- A training block of lane `n` (R60). -/
def State.sendTraining (s : State) (n msg seq req preset status : Nat) : State :=
  let p := s.portAt n
  let i := s.indexOf p n
  let taps := if msg = 2 || msg = 3 then
      [BitVec.ofNat 8 (s.fld F.LNK_TAPS_OWN_PRE n), BitVec.ofNat 8 (s.fld F.LNK_TAPS_OWN_POST n),
        BitVec.ofNat 8 (s.fld F.LNK_TAPS_OWN_MAIN n)] else [0, 0, 0]
  let b := withCrc ([0x33, BitVec.ofNat 8 msg, BitVec.ofNat 8 (i + seq % 16 * 16), BitVec.ofNat 8 req, BitVec.ofNat 8 preset,
    BitVec.ofNat 8 status] ++ taps)
  s.sendRow p (fun k => if k = i then some b else none)

/-- A REQUEST is sent and is outstanding (R61). -/
def State.request (s : State) (n req preset : Nat) : State :=
  let x := s.ln n
  (s.setLn n { x with req := some ⟨x.seq % 16, req, preset, 0, s.fine⟩, seq := (x.seq + 1) % 16 }).sendTraining n 1 x.seq req preset 0

/-- READY is sent, with SEQ 0 (DESIGN CHOICE, log entry 64). -/
def State.sendReady (s : State) (n : Nat) : State :=
  (s.setLn n { s.ln n with rdyTx := true }).sendTraining n 3 0 0 0 0

/-- The request byte that loads a preset, and a step of C_PRE or C_POST by 0 to 3: up and down of each. -/
def reqPreset : Nat := 64
def reqStep (k : Nat) : Nat :=
  match k with
  | 0 => 1
  | 1 => 2
  | 2 => 16
  | _ => 32

/-- The step that takes step `k` back. -/
def backStep (k : Nat) : Nat := if k % 2 = 0 then k + 1 else k - 1

/-! ### Low power (R65, R67 to R70) -/

/-- Whether the lanes follow IDLE: the mode is IDLE, or a transition to it runs; one that leaves it no longer does (R515). -/
def State.lanesIdle (s : State) : Bool :=
  if s.flag F.PWR_MODE_STATUS_IN_TRANSITION then s.fld F.PWR_MODE_STATUS_TARGET == modeIdle else s.mode == modeIdle

/-- Whether port `p` is to be deep (R69). -/
def State.deepWanted (s : State) (p : Nat) : Bool :=
  s.lanesIdle || (s.portLanes p).any (fun n => s.flag F.LNK_CTRL_DEEP_REQ n)

/-- What a lane keeps through every restart: its scramblers, the next training SEQ, what its test functions hold. -/
def Lane.kept (x : Lane) : Lane :=
  { rx := x.rx, tx := x.tx, line := x.line, seq := x.seq, alt := x.alt, inj := x.inj, burstAt := x.burstAt, chk := x.chk,
    berHi := x.berHi, gen := x.gen, loop := x.loop }

/-- The status of a lane whose receiver has lost the line. -/
def State.unlock (s : State) (n : Nat) : State :=
  ((s.setFld F.LNK_STATUS_CDR_LOCK 0 n).setFld F.LNK_STATUS_BLOCK_LOCK 0 n).setFld F.LNK_STATUS_SUSPECT 0 n

/-- A lane goes to DEEP: CDR and transmitter are off, and polarity, order and taps are kept where it holds them. -/
def State.laneDeep (n : Nat) (s : State) : State :=
  if s.lstate n = lsDisabled || s.lstate n = lsTest then s
  else
    let x := s.ln n
    let s1 := (s.setLn n { x.kept with polOk := x.stored && x.polOk, stored := x.stored }).setLstate n lsDeep
    (s1.unlock n).emit (.laneTx n false)

/-- The transmitter of lane `n` turns on; where it is the first of its port, the port's slots begin. -/
def State.txStart (s : State) (n : Nat) : State :=
  let p := s.portAt n
  let s1 := if (s.portLanes p).any (fun m => m != n && s.txOn m) then s
    else s.setPt p { s.pt p with slots := 0, skipAt := s.fine }
  s1.emit (.laneTx n true)

/-- REVERSAL_ALLOW as the port's next bring-up uses it (R89). -/
def State.portBegin (p : Nat) (s : State) : State :=
  s.setPt p { s.pt p with rev := s.flag F.LNK_PORT_CFG_REVERSAL_ALLOW p }

/-- Whether a lane keeps its quad PLL on. -/
def State.pllOn (s : State) (q : Nat) : Bool :=
  (List.range 4).any (fun k => s.lstate (4 * q + k) != lsDeep || (s.ln (4 * q + k)).exit == 2)

/-- A lane in DEEP starts its exit (R70): where the quad PLL is on, its transmitter turns on at once. -/
def State.laneWake (n : Nat) (s : State) : State :=
  if s.lstate n != lsDeep || (s.ln n).exit != 0 then s
  else if s.pllOn (n / 4) then (s.txStart n).setLn n { (s.txStart n).ln n with exit := 2 }
  else s.setLn n { s.ln n with exit := 1 }

def State.deepExit (s : State) (p : Nat) : State :=
  let s1 := s.setPt p { s.pt p with deep := none }
  State.eachOf State.laneWake (s.portLanes p) (if s.portUp p then s1 else State.portBegin p s1)

/-! ### The status of a port -/

def State.setUp (s : State) (p : Nat) (mask : Nat) (up degraded parity : Bool) : State :=
  let w := s.rd .LNK_PORT_STATUS p
  let w := putBits (putBits w 0 16 mask) 16 3 (b2n up + 2 * b2n degraded + 4 * b2n parity)
  s.wr .LNK_PORT_STATUS (putBits w 19 1 0) p |>.setFld F.LNK_PORT_STATUS_OUT_LANE 0 p

/-- Whether a port is configured for parity; PARITY on 1 or 2 lanes is ignored (R74). -/
def State.parityCfg (s : State) (p : Nat) : Bool := s.flag F.LNK_PORT_CFG_PARITY p && decide (4 ≤ s.portWidth p)
def State.parityOn (s : State) (p : Nat) : Bool := s.flag F.LNK_PORT_STATUS_PARITY_ACTIVE p
def State.rebuilding (s : State) (p : Nat) : Bool := s.flag F.LNK_PORT_STATUS_REBUILDING p

/-- The port lane that is out, where one is. -/
def State.outLane (s : State) (p : Nat) : Option Nat :=
  if s.rebuilding p then some (s.fld F.LNK_PORT_STATUS_OUT_LANE p) else none

def fullMask (w : Nat) : Nat := 2 ^ w - 1

/-- REBUILT follows the lane that is out. -/
def State.setOut (s : State) (p : Nat) (out : Option Nat) : State :=
  let s1 := State.eachOf (fun n s => s.setFld F.LNK_STATUS_REBUILT 0 n) (s.portLanes p) s
  match out with
  | none => (s1.setFld F.LNK_PORT_STATUS_REBUILDING 0 p).setFld F.LNK_PORT_STATUS_OUT_LANE 0 p
  | some i => ((s1.setFld F.LNK_PORT_STATUS_REBUILDING 1 p).setFld F.LNK_PORT_STATUS_OUT_LANE i p).setFld
      F.LNK_STATUS_REBUILT 1 (s1.laneOf p i)

/-! ### Stripes (R74 to R78) -/

/-- The port lane of the parity block of stripe `j` of an `n`-lane port. -/
def parityLane (n j : Nat) : Nat := n - 1 - j % n

def Stripe.erased (x : Stripe) : List Nat := (List.range x.blocks.length).filter (fun i => (x.blocks.getD i (0, true)).2)

/-- The XOR of the blocks of a stripe but that of lane `i`. -/
def Stripe.xorBut (x : Stripe) (i : Nat) : BitVec 256 :=
  (x.blocks.zipIdx.filter (fun b => b.2 != i)).foldl (fun a b => a ^^^ b.1.1) 0

/-- Whether the parity of a stripe with no block erased checks. -/
def Stripe.checks (x : Stripe) : Bool := x.xorBut x.blocks.length = 0

/-- The bytes of a data block with a mark: 0 received, 1 rebuilt, 2 erased, 3 received but missing. -/
def markBytes (mark : Nat) (d : BitVec 256) : List (Nat × Byte) := (payBytes d).map (fun b => (mark, b))

/-- Port data appended to the byte stream of port `p` (R96). -/
def State.addBytes (s : State) (p : Nat) (l : List (Nat × Byte)) : State :=
  s.setPt p { s.pt p with bytes := (s.pt p).bytes ++ l }

/-- A stripe is released (R75 to R78): rebuilt where one data block is erased, or as received with its parity failing, or with
two erasures. -/
def State.releaseStripe (p : Nat) (x : Stripe) (s : State) : State :=
  let n := x.blocks.length
  let par := parityLane n x.num
  let out (mark : Nat → Nat) (fix : Nat → BitVec 256) : List (Nat × Byte) :=
    ((List.range n).filter (· != par)).flatMap (fun i => markBytes (mark i) (fix i))
  let blk (i : Nat) : BitVec 256 := (x.blocks.getD i (0, true)).1
  let rebuild (e : Nat) : State :=
    if e = par then s.addBytes p (out (fun _ => 0) blk)
    else (s.bump .LNK_CNT_REBUILT p).addBytes p
      (out (fun i => if i = e then 1 else 0) (fun i => if i = e then x.xorBut e else blk i))
  match x.erased with
  | [] =>
    if x.checks then s.addBytes p (out (fun _ => 0) blk)
    else match x.late with
      | some i => rebuild i
      | none => (s.bump .LNK_CNT_PARITY_MISMATCH p).addBytes p (out (fun _ => 3) blk)
  | [e] => rebuild e
  | es => (s.bump .LNK_CNT_ERASED_ROWS p).addBytes p (out (fun i => if es.contains i then 2 else 0) blk)

def State.releaseList (p : Nat) : List Stripe → State → State
  | [], s => s
  | x :: rest, s => State.releaseList p rest (State.releaseStripe p x s)

/-- Every stripe held is released. -/
def State.releaseAll (s : State) (p : Nat) : State :=
  let held := (s.pt p).held
  State.releaseList p held (s.setPt p { s.pt p with held := [] })

/-! ### Ports come up (R63, R64) -/

/-- The lanes of port `p` that are in DESKEW, as a mask of port lanes. -/
def State.readyMask (s : State) (p : Nat) : Nat :=
  ((List.range (s.portWidth p)).map (fun i => if s.lstate (s.laneOf p i) = lsDeskew then 2 ^ i else 0)).sum

/-- Lanes not in a mask count. -/
def State.missing (s : State) (p mask : Nat) : Nat :=
  ((List.range (s.portWidth p)).filter (fun i => !natBit mask i)).length

/-- Whether the lane order or the width forbids that port `p` comes up (R58). -/
def State.orderBad (s : State) (p : Nat) : Bool := s.flag F.LNK_PORT_STATUS_ORDER_ERR p || s.flag F.LNK_PORT_STATUS_WIDTH_ERR p

/-- The decision of R64 on the lanes ready now; none where the port stays down. -/
def State.portDecision (s : State) (p : Nat) : Option Nat :=
  let ready := s.readyMask p
  let lost := s.missing p ready
  if s.portWidth p = 0 || s.orderBad p then none
  else if lost = 0 then some ready
  else if s.parityCfg p then (if lost = 1 then some ready else none)
  else if s.flag F.LNK_PORT_CFG_NARROW_EN p && ready != 0 then some ready
  else none

/-- A RATE_REDUCE or RATE_RESTORE message with the next MSG_ID of the lane layer (R82, R83, R112); a repeated RATE_REDUCE takes
a new one too (DESIGN CHOICE, log entry 65). -/
def State.sendRate (s : State) (p : Nat) (restore : Bool) (mask sent : Nat) : State :=
  let x := s.pt p
  let id := 0xF0 + x.rateId % 16
  (s.setPt p { x with rateId := (x.rateId + 1) % 16,
                      rate := some { restore := restore, id := id, mask := mask, sent := sent, at0 := s.fine } }).sendRequest p id
    (if restore then 0x11 else 0x10) (bytesLE 2 mask)

/-- The active port lanes that are not lost, as a mask: UP, in DOZE, or in the bring-up after a failed doze exit (R68). -/
def State.keptMask (s : State) (p : Nat) : Nat :=
  ((s.activeLanes p).map (fun i =>
    let n := s.laneOf p i
    if s.lstate n = lsUp || s.lstate n = lsDoze || (s.ln n).dozeFail then 2 ^ i else 0)).sum

/-- The lanes in DESKEW outside the ACTIVE_MASK of a narrowed port, as a mask. -/
def State.waitMask (s : State) (p : Nat) : Nat :=
  ((List.range (s.portWidth p)).map (fun i =>
    if s.lstate (s.laneOf p i) = lsDeskew && !natBit (s.activeMask p) i then 2 ^ i else 0)).sum

/-- The decided lanes have aligned on one skip: the port is up (R63, R64). `mask` is the ACTIVE_MASK of the skip and `par` its
PARITY flag. -/
def State.comeUp (s : State) (p decided mask : Nat) (par : Bool) : State :=
  let w := s.portWidth p
  let lanes := ((List.range w).filter (natBit decided)).map (s.laneOf p)
  let s1 := State.eachOf (fun n s => s.setLstate n lsUp) lanes s
  let s2 := s1.setPt p { s1.pt p with wait := none, decided := none, stripe := 0, held := [], bytes := [], deep := none,
                                      rate := none, parity := par && s.parityCfg p }
  let s3 := s2.setCp p { s2.cp p with quietAt := s2.fine }
  if decided = fullMask w then s3.setUp p mask true (mask != fullMask w) (par && s.parityCfg p)
  else if s.parityCfg p then
    (s3.setUp p mask true false true).setOut p ((List.range w).find? (fun i => !natBit decided i))
  else
    let s4 := s3.setUp p mask true (mask != fullMask w) false
    if mask = decided then s4 else s4.sendRate p false decided 1

/-- The rate-restore message for a lane that waits in DESKEW outside a narrowed port's mask (R83). -/
def State.tryRestore (s : State) (p : Nat) : State :=
  if s.portUp p && !s.parityOn p && s.flag F.LNK_PORT_CFG_RESTORE_AUTO p && s.waitMask p != 0 && (s.pt p).rate.isNone then
    s.sendRate p true (s.keptMask p ||| s.waitMask p) 1
  else s

/-- Lane `n` reaches DESKEW (R64, R83). -/
def State.enterDeskew (s : State) (n : Nat) : State :=
  let p := s.portAt n
  let s1 := (s.setLn n { s.ln n with deskewed := false, stored := true, exit := 0 }).setLstate n lsDeskew
  if s1.portUp p then s1.tryRestore p
  else
    let x := s1.pt p
    let s2 := s1.setPt p { x with wait := some (x.wait.getD s1.fine) }
    if s2.missing p (s2.readyMask p) = 0 then s2.setPt p { s2.pt p with decided := some (s2.readyMask p) } else s2

/-! ### Ports lose lanes (R80 to R82) -/

/-- What a lane forgets when it starts bring-up anew; `keep` keeps stored polarity, order and taps. -/
def State.laneRestart (s : State) (n : Nat) (keep : Bool) (st : Nat) : State :=
  let x := s.ln n
  ((s.setLn n { x.kept with polOk := keep && x.polOk, stored := keep && x.stored, tries := x.tries }).setLstate n st).unlock n

/-- What a port keeps when it goes down: its transmitter's count, MSG_ID and segments (R49, R112). -/
def Port.kept (x : Port) : Port :=
  { rateId := x.rateId, txSeq := x.txSeq, txStuff := x.txStuff, slots := x.slots, skipAt := x.skipAt, segs := x.segs, rev := x.rev }

/-- A port that is up no longer is: its stripes are released, its frame closes, its status clears. -/
def State.portClear (s : State) (p : Nat) : State :=
  let s1 := (s.releaseAll p).closeFrame p none
  let s2 := ((s1.setOut p none).setUp p 0 false false false).setFld F.LNK_PORT_STATUS_ORDER_ERR 0 p
  State.portBegin p (s2.setPt p (s2.pt p).kept)

/-- A port goes down (R69, R81, R82): its frame closes, and each of its lanes that was not lost waits in DESKEW; where deep is
wanted, every lane is DEEP at once. -/
def State.portDown (s : State) (p : Nat) : State :=
  let s3 := s.portClear p
  if s.deepWanted p then State.eachOf State.laneDeep (s3.portLanes p) s3
  else State.eachOf (fun n s =>
    if s.lstate n = lsUp || s.lstate n = lsShadow || s.lstate n = lsDoze || s.lstate n = lsDeskew then s.enterDeskew n else s)
    (s3.portLanes p) s3

/-- The port narrows to its lanes that are not lost (R82). -/
def State.narrow (s : State) (p : Nat) : State :=
  let m := s.keptMask p
  if m = 0 then s.portDown p else s.sendRate p false m 1

/-- The response of port `p` to the loss of lane `n` (R81). A port configured with parity whose parity is off narrows whatever
NARROW_EN holds, as at the loss that turned parity off (DESIGN CHOICE, log entry 66). -/
def State.portResponse (s : State) (p n : Nat) : State :=
  let i := s.indexOf p n
  if !s.portUp p then
    match (s.pt p).decided with
    | some d => if natBit d i then s.setPt p { s.pt p with decided := none, wait := if s.readyMask p = 0 then none else some s.fine } else s
    | none => if s.readyMask p = 0 then s.setPt p { s.pt p with wait := none } else s
  else if s.parityOn p then
    match s.outLane p with
    | none => s.setOut p (some i)
    | some o =>
      if o = i then s
      else ((s.releaseAll p).setOut p none |>.setFld F.LNK_PORT_STATUS_PARITY_ACTIVE 0 p).narrow p
  else if s.portWidth p = 1 || !(s.flag F.LNK_PORT_CFG_NARROW_EN p || s.parityCfg p) then s.portDown p
  else if natBit (s.activeMask p) i then s.narrow p
  else s

/-- A lane that is UP or in SHADOW, or fails a doze exit, is lost (R80). -/
def State.laneLost (s : State) (n : Nat) : State :=
  let s1 := ((s.laneRestart n false lsSignal).setFld F.LNK_STATUS_LOST 1 n).bump .LNK_CNT_LOCK_LOSS n
  s1.portResponse (s1.portAt n) n

/-- Where every decided lane holds a valid skip of the same SKIP_SEQ received in DESKEW, the port comes up; lanes more than
16 slots behind the earliest are lost and set SKEW_ERR. -/
def State.tryUp (s : State) (p mask : Nat) (par : Bool) : State :=
  match (s.pt p).decided with
  | none => s
  | some d =>
    let lanes := ((List.range (s.portWidth p)).filter (natBit d)).map (s.laneOf p)
    let skips := lanes.map (fun n => if (s.ln n).deskewed then (s.ln n).skip else none)
    match skips with
    | some (q, _) :: _ =>
      if s.orderBad p then s
      else if skips.all (fun x => (x.map (·.1)) = some q) then
        let slots := skips.filterMap (fun x => x.map (·.2))
        let hi := slots.foldl max 0
        let lo := slots.foldl min hi
        if 16 < hi - lo then
          State.eachOf (fun n s => if lo + 16 < ((s.ln n).skip.map (·.2)).getD lo then s.laneLost n else s) lanes
            (s.setFld F.LNK_PORT_STATUS_SKEW_ERR 1 p)
        else s.comeUp p d mask par
      else s
    | _ => s

/-- Slots by which the last skip of lane `n` lies behind the skip of lane `m` of the same SKIP_SEQ, where skips come every 1,025
slots. -/
def State.skewTo (s : State) (m n : Nat) : Option Int :=
  match (s.ln m).skip, (s.ln n).skip with
  | some (q, t), some (r, u) => some ((u : Int) - t - 1025 * sext 16 (r + 65536 - q))
  | _, _ => none

/-- Whether lane `n` may join port `p`, which is up: its skew to a lane that is UP is 16 slots at most (R63). -/
def State.skewOk (s : State) (p n : Nat) : Bool :=
  match (s.portLanes p).find? (fun m => m != n && s.lstate m = lsUp && (s.ln m).skip.isSome) with
  | some m => match s.skewTo m n with
    | some d => decide (-16 ≤ d) && decide (d ≤ 16)
    | none => true
  | none => true

/-- A lane whose skew is too large sets SKEW_ERR and is lost (R63). -/
def State.skewLost (s : State) (p n : Nat) : State := (s.setFld F.LNK_PORT_STATUS_SKEW_ERR 1 p).laneLost n

/-- Bring-up of a lane that is neither UP nor in SHADOW goes back to a state; `keep` keeps what it has stored. -/
def State.laneBack (s : State) (n st : Nat) (keep : Bool) : State :=
  if (s.ln n).dozeFail then s.laneLost n
  else
    let was := s.lstate n
    let s1 := s.laneRestart n (keep && (s.ln n).stored) st
    if was = lsDeskew then s1.portResponse (s1.portAt n) n else s1

/-- With RX_POL_AUTO = 0 the polarity is that of RX_INVERT, and RX_INVERTED shows it (R57, R87). -/
def State.polFollow (n : Nat) (s : State) : State :=
  if s.flag F.LNK_CTRL_RX_POL_AUTO n then s else s.setFld F.LNK_STATUS_RX_INVERTED (s.fld F.LNK_CTRL_RX_INVERT n) n

/-- Bring-up starts (R54, R69): the lane is DISABLED while it may not run, and DEEP at once where deep is wanted and the port is
not up. -/
def State.laneStart (n : Nat) (s : State) : State :=
  if !s.flag F.LNK_CTRL_ENABLE n || (s.portOf n).isNone || !s.domOn (16 + n / 4) || !s.ready then
    ((s.laneRestart n false lsDisabled).setFld F.LNK_STATUS_SIG_DET 0 n).emit (.laneTx n false)
  else
    let s1 := State.polFollow n (s.laneRestart n false lsSignal)
    let p := s1.portAt n
    let s2 := if s1.portUp p || (s1.portLanes p).any (fun m => m != n && lsSignal ≤ s1.lstate m) then s1 else State.portBegin p s1
    if s2.deepWanted p && !s2.portUp p then State.laneDeep n s2 else s2.txStart n

/-- A lane leaves its port without being lost (R87). -/
def State.laneOff (s : State) (n st : Nat) : State :=
  let p := s.portAt n
  let held := s.lstate n = lsUp || s.lstate n = lsShadow || s.lstate n = lsDeskew || s.lstate n = lsDoze
  let s1 := s.laneRestart n false st
  if held then s1.portResponse p n else s1

/-- A lane is DISABLED (R43, R54, R87): its transmitter goes to electrical idle and its receiver is ignored. -/
def State.laneDisable (n : Nat) (s : State) : State :=
  ((s.laneOff n lsDisabled).setFld F.LNK_STATUS_SIG_DET 0 n).emit (.laneTx n false)

/-- Deep is asked for (R69): an ENTER_DEEP row to a camera of a port that is up, else every lane is deep at once. -/
def State.deepAsk (s : State) (p : Nat) : State :=
  if !s.deepWanted p then s
  else if s.portUp p then
    if (s.pt p).deep.isSome then s else (s.setPt p { s.pt p with deep := some (s.fine, s.fine) }).sendPower p 2
  else State.eachOf State.laneDeep (s.portLanes p) (s.setPt p { s.pt p with wait := none, decided := none })

/-- Every lane of port `p` goes to DEEP, its frame closed (R69, R515). -/
def State.portDeep (s : State) (p : Nat) : State :=
  let s3 := s.portClear p
  State.eachOf State.laneDeep (s3.portLanes p) s3

def State.portList (s : State) : List Nat := (s.ports.filter (·.2.2)).map (·.1)

/-- The ports follow the mode on entering IDLE and on leaving it (R69, R70, R515). -/
def State.lanesEnterIdle (s : State) : State := State.eachOf (fun p s => s.deepAsk p) s.portList s
def State.lanesLeaveIdle (s : State) : State :=
  State.eachOf (fun p s => if s.deepWanted p then s else s.deepExit p) s.portList s

/-! ### Test patterns (R84, R85) -/

def rawCode (c : Nat) : Bool := c = 1 || c = 2 || c = 3 || c = 5 || c = 6

/-- Whether a raw pattern is selected on lane `n` (R93). -/
def State.rawOn (s : State) (n : Nat) : Bool :=
  rawCode (s.fld F.LNK_PATTERN_GEN n) || (rawCode (s.fld F.LNK_PATTERN_CHK n) && s.fld F.LNK_PATTERN_CHK n != 5)

/-- Whether a raw pattern goes out on lane `n` (R93): GEN selects one, in SERVICE. -/
def State.rawGen (s : State) (n : Nat) : Bool := s.mode = modeService && rawCode (s.fld F.LNK_PATTERN_GEN n)

/-- Lane `n` in TEST starts its raw pattern (R84, R93): a PRBS goes on from a free value that is not zero (log entry 2). With no
raw GEN the transmitter sends nothing (DESIGN CHOICE, log entry 67). -/
def State.patternStart (s : State) (n : Nat) : State :=
  let code := s.fld F.LNK_PATTERN_GEN n
  if !s.rawGen n then s
  else if code = 5 || code = 6 then s.emit (.pattern n code (s.rd .LNK_USER_WORD n))
  else
    let r := s.freeBits 31
    r.2.emit (.pattern n code (if r.1 = 0 then 1 else r.1.setWidth 32))

/-- What near-end loopback holds is gone once it no longer applies (R85, R87). -/
def State.loopFollow (s : State) (n : Nat) : State :=
  if s.loopback n = 1 then s else s.setLn n { s.ln n with loop := [] }

/-- A lane follows its pattern and loopback fields (R54, R84, R85). -/
def State.patternApply (n : Nat) (s : State) : State :=
  let on := s.mode = modeService && s.rawOn n
  let off := s.fld F.LNK_PATTERN_CHK n = 0 || s.fld F.LNK_PATTERN_CHK n = 5 || s.fld F.LNK_PATTERN_CHK n = 7
  let s0 := s.loopFollow n
  let s1 := if off || s0.mode != modeService then (s0.setFld F.LNK_PATTERN_CHK_LOCK 0 n).setLn n { s0.ln n with chk := {} } else s0
  if on && s1.lstate n != lsDisabled then (if s1.lstate n = lsTest then s1 else s1.laneOff n lsTest).patternStart n
  else if !on && s1.lstate n = lsTest then State.laneStart n s1
  else s1

/-- The test fields clear on leaving SERVICE (R85). -/
def State.clearTests (n : Nat) (s : State) : State :=
  let s1 := (s.setFld F.LNK_PATTERN_GEN 0 n).setFld F.LNK_PATTERN_CHK 0 n
  State.patternApply n ((s1.setFld F.LNK_CTRL_LOOPBACK 0 n).setFld F.LNK_INJECT_MODE 0 n)

def State.lanesClearTests (s : State) : State := State.eachOf State.clearTests (List.range s.variant.lanes) s
def State.lanesPatterns (s : State) : State := State.eachOf State.patternApply (List.range s.variant.lanes) s

/-- Bits and errors added to LNK_BER_BITS and LNK_BER_ERRS (R84, R95). -/
def State.berAdd (s : State) (n bits errs : Nat) : State :=
  let t := min ((s.rd .LNK_BER_BITS_LO n).toNat + 2 ^ 32 * (s.ln n).berHi + bits) (2 ^ 48 - 1)
  ((s.setLn n { s.ln n with berHi := t / 2 ^ 32 }).wr .LNK_BER_BITS_LO (BitVec.ofNat 32 (t % 2 ^ 32)) n).bumpBy .LNK_BER_ERRS errs n

/-- The phase of a user word after the 31 bits `r`: the place of the bit that comes next, where those before it match. -/
def userPhase (word : BitVec 32) (r : BitVec 31) : Option Nat :=
  (List.range 32).find? (fun ph => (List.range 31).all (fun k => r.getLsbD k == word.getLsbD ((ph + 1 + k) % 32)))

/-- One bit at a checker that has no lock (R84): it locks once 31 bits in a row are right, each by the bits before it; at a user
word, once the last 31 bits are 31 bits of it (DEDUCED, log entry 68). The answer says whether it locks. -/
def Checker.seek (c : Checker) (code : Nat) (word : BitVec 32) (b : Bool) : Bool × Checker :=
  let reg := prbsPush c.reg b
  if code = 6 then
    let good := min 31 (c.good + 1)
    match (if good = 31 then userPhase word reg else none) with
    | some ph => (true, { reg := reg, phase := ph })
    | none => (false, { reg := reg, good := good })
  else
    let good := if b = prbsNext code c.reg && c.reg != 0 then c.good + 1 else 0
    if good = 31 then (true, { reg := reg }) else (false, { reg := reg, good := good })

/-- One bit at a locked checker: whether it is wrong, whether lock is lost by 64 wrong bits among the last 1,024. -/
def Checker.check (c : Checker) (code : Nat) (word : BitVec 32) (b : Bool) : Bool × Bool × Checker :=
  let want := if code = 6 then word.getLsbD c.phase else prbsNext code c.reg
  let err := b != want
  let wrong := (if err then [c.pos] else []) ++ c.wrong.filter (fun k => decide (c.pos < k + 1024))
  if 64 ≤ wrong.length then (err, true, {})
  else (err, false, { reg := prbsPush c.reg want, pos := c.pos + 1, wrong := wrong, phase := (c.phase + 1) % 32 })

/-- Bits at a checker: whether it is locked after them, the bits checked and those wrong, the checker after. -/
def checkBits (code : Nat) (word : BitVec 32) : List Bool → Bool → Nat → Nat → Checker → Bool × Nat × Nat × Checker
  | [], lock, n, e, c => (lock, n, e, c)
  | b :: rest, true, n, e, c =>
    let r := c.check code word b
    checkBits code word rest (!r.2.1) (n + 1) (e + b2n r.1) r.2.2
  | b :: rest, false, n, e, c =>
    let r := c.seek code word b
    checkBits code word rest r.1 n e r.2

/-- Bits at the checker of lane `n`, with what it counts (R84, R88). -/
def State.checkerIn (s : State) (n : Nat) (bits : List Bool) : State :=
  let r := checkBits (s.fld F.LNK_PATTERN_CHK n) (s.rd .LNK_USER_WORD n) bits (s.flag F.LNK_PATTERN_CHK_LOCK n) 0 0 (s.ln n).chk
  ((s.setLn n { s.ln n with chk := r.2.2.2 }).berAdd n r.2.1 r.2.2.1).setFld F.LNK_PATTERN_CHK_LOCK (b2n r.1) n

/-- The framed checker on a data block (R84). -/
def State.framedCheck (s : State) (n : Nat) (d : BitVec 256) : State :=
  if s.mode != modeService || s.fld F.LNK_PATTERN_CHK n != 4 then s
  else s.checkerIn n ((List.range 256).map (fun i => d.getLsbD i))

/-! ### A new layout of ports (R89) -/

/-- The ports that a change of LNK_PORT_CFG restarts: those of either layout that the other does not have with the same
lanes and PARITY. `old` and `new` hold lowest lane, width, validity and PARITY. -/
def portsChanged (old new : List (Nat × Nat × Bool × Bool)) : List (Nat × Nat) :=
  ((old.filter (fun p => !new.contains p)) ++ (new.filter (fun p => !old.contains p))).map (fun p => (p.1, p.2.1))

def State.layout (s : State) : List (Nat × Nat × Bool × Bool) :=
  s.ports.map (fun p => (p.1, p.2.1, p.2.2, s.flag F.LNK_PORT_CFG_PARITY p.1))

/-- WIDTH_ERR of the ports that are none: WIDTH is reserved, or the lowest lane is no multiple of it (R71, R89). -/
def State.widthErrs (s : State) : State :=
  State.eachOf (fun p s => s.setFld F.LNK_PORT_STATUS_WIDTH_ERR 1 p) ((s.ports.filter (fun p => !p.2.2)).map (·.1)) s

/-- The lanes of changed ports start bring-up anew, with LNK_PORT_STATUS and the port's record as after reset (DESIGN CHOICE, log
entry 69), and WIDTH_ERR shows the ports that are none. `before` is the state that the old layout ruled. -/
def State.relayout (before : State) (s : State) : State :=
  let ch := portsChanged before.layout s.layout
  if ch.isEmpty then s
  else
    let lows := (ch.map (·.1)).eraseDups
    let lanes := (ch.flatMap (fun p => (List.range p.2).map (p.1 + ·))).eraseDups
    let s1 := State.eachOf (fun p s => (s.closeFrame p none).wr .LNK_PORT_STATUS 0 p |>.setPt p {}) lows s
    (State.eachOf State.laneStart lanes (State.eachOf State.portBegin lows s1)).widthErrs

end Sys2Proof.Machine
end

