-- ==== Sys2Proof/Machine/Capture.lean ====
section
/-!
DEFINITION. Capture: packets of a port's byte stream (R96 to R109), control requests (R110 to R113), triggers (R114 to R122)
and the capture registers with rows of their own (R130, R134).
-/

namespace Sys2Proof.Machine

/-! ### Packets (R97 to R99) -/

/-- The byte stream after fill, among which bytes erased outside packets are taken (R96, R99). -/
def State.stream (s : State) (p : Nat) : List (Nat × Byte) := (s.pt p).bytes.dropWhile (fun b => b.1 = 2 || b.2 = 0)

/-- A packet of `len` payload bytes leaves the byte stream, with the fill before it; the marks of its payload bytes. -/
def State.popPacket (s : State) (p len : Nat) : List Nat × State :=
  let l := s.stream p
  (((l.drop 8).take len).map (·.1), s.setPt p { s.pt p with bytes := l.drop (8 + (if len = 0 then 0 else len + 4)) })

/-- Whether a stream begins with a header that does not fail: no byte erased, a defined TYPE, a good HCRC, LENGTH within its
limit (R97, R99). -/
def goodHeader (l : List (Nat × Byte)) : Bool :=
  let h := (l.take 8).map (·.2)
  h.length == 8 && (l.take 8).all (fun b => b.1 != 2) && decide (0xA1 ≤ fieldLE h 0 1) && decide (fieldLE h 0 1 ≤ 0xA7)
    && fieldLE h 6 2 == crc16 (h.take 6) && decide (fieldLE h 2 2 ≤ 16384)

/-- The stream from its next good header on; where none has come yet, the bytes that one could begin with. -/
def huntHeader : List (Nat × Byte) → List (Nat × Byte)
  | [] => []
  | b :: rest => if (b :: rest).length < 8 || goodHeader (b :: rest) then b :: rest else huntHeader rest

/-- A failed header is counted, and the stream is searched byte by byte for the next one (R99). -/
def State.failHeader (s : State) (p : Nat) : State :=
  (s.setPt p { s.pt p with bytes := huntHeader ((s.stream p).drop 1) }).bump .CAP_CNT_BAD_HCRC p

/-- What a packet shows of itself: whether its PCRC checks with no byte erased, its erased ranges, the ranges of bytes a parity
mismatch makes missing, whether a byte was rebuilt. -/
structure PktView where
  ok : Bool
  erased : List (Nat × Nat)
  doubtful : List (Nat × Nat)
  rebuilt : Bool
  deriving DecidableEq, Repr

/-- A packet is taken from the stream of port `p`; a PCRC that fails is counted (R99). -/
def State.takePacket (s : State) (p : Nat) (pkt : Packet) : PktView × State :=
  let r := s.popPacket p pkt.payload.length
  let of (m : Nat) : List (Nat × Nat) := r.1.zipIdx.filterMap (fun x => if x.1 = m then some (x.2, 1) else none)
  let erased := pkt.erased ++ of 2
  let ok := erased.isEmpty && (pkt.payload.isEmpty || crc32 pkt.payload = pkt.pcrc.toNat)
  (⟨ok, erased, of 3, pkt.rebuilt || r.1.contains 1⟩, if ok then r.2 else r.2.bump .CAP_CNT_BAD_PCRC p)

/-- A command on the stream of port `p`: time passes, and the port is up. -/
def State.onPort (s : State) (p dt : Nat) (k : State → State) : State :=
  let s := s.advance dt
  if s.ready && s.portUp p then k s else s

/-- A packet of `len` payload bytes on the stream of port `p`: its header fails where LENGTH is above 16,384 or a byte of it is
erased (R97, R99). -/
def State.onPacket (s : State) (p dt len : Nat) (k : State → State) : State :=
  s.onPort p dt (fun s =>
    if 16384 < len || ((s.stream p).take 8).any (fun b => b.1 = 2) then s.failHeader p else k s)

/-- FRAME_START (R101, R103 to R105). `slow` says that the frame store writer cannot absorb the frame in time (R139); `meet` are
the span releases and rewind marks of the same fabric clock (R154). -/
def execFrameStart (p : Fin 64) (dt : Nat) (aligned : Bool) (pkt : Packet) (slow : Bool) (meet : List RingOp) (s : State) : Res :=
  .next (s.onPacket p dt pkt.payload.length (fun s =>
    let r := (State.ringOps (meet.filter ringRelease) s).takePacket p pkt
    let d := pkt.payload
    let usable := r.1.ok && d.length == 12
    let get (o n : Nat) : Nat := if usable then fieldLE d o n else 0
    let w := get 0 2
    let h := get 2 2
    let s1 := r.2.closeFrame p none
    let f := s1.newFrame p pkt.info.toNat w h (get 4 1) (get 5 1) (get 6 1) (get 8 4) (!usable || isOpaque (get 4 1) w h)
      aligned (!r.1.ok)
    s1.openFrame p { f with rebuilt := r.1.rebuilt } slow (meet.filter (fun o => !ringRelease o))))

/-- LINE_DATA (R100, R106, R107). `full` says that the ingest window of the frame's mast cannot accept the data (R25, R188). -/
def execLineData (p : Fin 64) (dt : Nat) (pkt : Packet) (full : Bool) (s : State) : Res :=
  .next (s.onPacket p dt pkt.payload.length (fun s =>
    let r := s.takePacket p pkt
    let ours := match (r.2.cp p).frame with
      | some f => f.camSeq == pkt.info.toNat
      | none => false
    if !ours then r.2.bump .CAP_CNT_ORPHAN p
    else if pkt.payload.length < 4 || r.1.erased.any (fun e => decide (e.1 < 4) && e.2 != 0) then
      r.2.frameData p 0 [] [] (!r.1.ok) r.1.rebuilt full
    else
      let off := fieldLE pkt.payload 0 4
      let data := zeroErased r.1.erased (pkt.payload.drop 4) 4
      let bad := if r.1.ok then r.1.doubtful.filterMap (fun e => if e.1 < 4 then none else some (off + e.1 - 4, off + e.1 - 4 + e.2))
        else [(off, off + data.length)]
      r.2.frameData p off data bad (!r.1.ok) r.1.rebuilt full))

/-- FRAME_END (R103, R105, R106). -/
def execFrameEnd (p : Fin 64) (dt : Nat) (pkt : Packet) (s : State) : Res :=
  .next (s.onPacket p dt pkt.payload.length (fun s =>
    let r := s.takePacket p pkt
    let ours := match (r.2.cp p).frame with
      | some f => f.camSeq == pkt.info.toNat
      | none => false
    if !ours then r.2.bump .CAP_CNT_ORPHAN p
    else r.2.closeFrame p (if r.1.ok && pkt.payload.length = 4 then some (fieldLE pkt.payload 0 4) else none)))

/-- CLOSE_TIMEOUT (R105). -/
def execCloseTimeout (p : Fin 64) (dt : Nat) (s : State) : Res :=
  .next (
    match (s.cp p).frame with
    | none => s.advance dt
    | some f => (s.passTo dt (f.lastAt + fineOfUs (2 ^ (s.fld F.CAP_PORT_ROUTE_CLOSE_TIMEOUT p + 4)))).closeFrame p none)

/-- A header that fails its HCRC (R99). -/
def execHcrcFail (p : Fin 64) (s : State) : Res := .next (s.onPort p 0 (fun s => s.failHeader p))

/-- A packet of reserved type (R98). -/
def execReservedPacket (p : Fin 64) (length : BitVec 16) (s : State) : Res :=
  .next (s.onPacket p 0 length.toNat (fun s => (s.popPacket p length.toNat).2.bump .CAP_CNT_BAD_TYPE p))

/-- The words of a status packet. -/
def State.camStat (p : Nat) : List (Nat × Nat) → State → State
  | [], s => s
  | (j, v) :: rest, s => State.camStat p rest (s.wr .CAP_CAM_STAT (BitVec.ofNat 32 v) p j)

/-- CAMERA_STATUS (R99, R109). -/
def execCameraStatus (p : Fin 64) (dt : Nat) (pkt : Packet) (s : State) : Res :=
  .next (s.onPacket p dt pkt.payload.length (fun s =>
    let r := s.takePacket p pkt
    if r.1.ok && pkt.payload.length = 16 then
      let s1 := State.camStat p ((List.range 4).map (fun j => (j, fieldLE pkt.payload (4 * j) 4))) r.2
      s1.setCp p { s1.cp p with quietAt := s1.fine }
    else r.2))

/-- CAM_SILENT (R109): 100 ms without a valid status packet while the port is up. -/
def execCamSilent (p : Fin 64) (dt : Nat) (s : State) : Res :=
  .next (
    if s.portUp p then (s.passTo dt ((s.cp p).quietAt + fineOfUs 100000)).setFld F.CAP_PORT_FLAGS_CAM_SILENT 1 p
    else s.advance dt)

/-! ### Control requests (R110 to R113) -/

/-- Bytes put into the words of a BAR0 memory. -/
def State.memBytes (s : State) (a : Nat) : List Byte → State
  | [] => s
  | b :: rest => (s.memWr (a / 4 * 4) (putBits (s.memRd (a / 4 * 4)) (8 * (a % 4)) 8 b.toNat)).memBytes (a + 1) rest

/-- The byte of a BAR0 memory at an address, and `n` bytes from there. -/
def State.memByte (s : State) (a : Nat) : Byte := BitVec.ofNat 8 (getBits (s.memRd (a / 4 * 4)) (8 * (a % 4)) 8)
def State.memBytesAt (s : State) (a n : Nat) : List Byte := (List.range n).map (fun i => s.memByte (a + i))

/-- CAP_CTRL_BUF of a mailbox. -/
def ctrlBuf (box : Nat) : Nat := 0x180100 + 0x100 * box

/-- The first request of a port goes out when none is outstanding and the last one started 100 µs ago or more (R112). -/
def State.ctlStart (p : Nat) (s : State) : State :=
  let x := s.cp p
  match x.ctl with
  | [] => s
  | c :: rest =>
    let spaced := match x.ctlAt with
      | some t => decide (t + fineOfUs 100 ≤ s.fine)
      | none => true
    if c.sent = 0 && spaced && s.portUp p then
      let id := x.msgId % 0xF0
      (s.setCp p { x with ctl := { c with id := id, sent := 1, at0 := s.fine } :: rest, msgId := (id + 1) % 0xF0,
                          ctlAt := some s.fine }).sendRequest p id c.op c.payload
    else s

/-- The requests that wait, on every port. -/
def State.ctlStartAll (s : State) : State := State.eachOf State.ctlStart (List.range 64) s

/-- BUSY of a mailbox, which GO reads as. -/
def State.setBusy (s : State) (box : Nat) (b : Bool) : State :=
  (s.setFld F.CAP_CTRL_STATUS_BUSY (b2n b) box).setFld F.CAP_CTRL_CMD_GO (b2n b) box

/-- The payload of a request (R111). A reserved OP carries ADDR and the COUNT bytes of the buffer (log entry 20). -/
def State.ctlPayload (s : State) (box op count : Nat) : List Byte :=
  let addr := bytesLE 4 (s.rd .CAP_CTRL_ADDR box).toNat
  match op with
  | 0x01 => addr ++ bytesLE 2 count
  | 0x20 => []
  | _ => addr ++ s.memBytesAt (ctrlBuf box) count

/-- GO in CAP_CTRL_CMD (R113): ignored while BUSY. -/
def State.ctrlGo (s : State) (who : Requester) (box : Nat) : State :=
  let p := s.fld F.CAP_CTRL_CMD_PORT box
  let op := s.fld F.CAP_CTRL_CMD_OP box
  let count := min 256 (s.fld F.CAP_CTRL_CMD_COUNT box)
  if s.flag F.CAP_CTRL_STATUS_BUSY box then s
  else s.gated who (if op = 1 then 1 else 2) (
    if s.portWidth p = 0 || !s.portUp p || op = 0x10 || op = 0x11 then s.setFld F.CAP_CTRL_STATUS_PORT_DOWN 1 box
    else
      let s1 := s.setBusy box true
      let x := s1.cp p
      State.ctlStart p (s1.setCp p { x with ctl := x.ctl ++ [⟨box, op, s.ctlPayload box op count, 0, 0, 0⟩] }))

def execCtrlGo (who : Requester) (box : Fin 2) (s : State) : Res :=
  .next (if s.unitOpen 1 then s.ctrlGo who box else s)

/-- CONTROL_RESPONSE (R99, R112, R113). -/
def execControlResponse (p : Fin 64) (pkt : Packet) (s : State) : Res :=
  .next (s.onPacket p 0 pkt.payload.length (fun s =>
    let r := s.takePacket p pkt
    let id := pkt.info.toNat % 256
    let status := pkt.info.toNat / 256
    let s1 := r.2
    if !r.1.ok then s1
    else if 0xF0 ≤ id then
      match (s1.pt p).rate with
      | some m =>
        if m.id = id && !m.answered then
          s1.setPt p { s1.pt p with rate := if m.restore && status != 0 then none else some { m with answered := true } }
        else s1.bump .CAP_CNT_ORPHAN p
      | none => s1.bump .CAP_CNT_ORPHAN p
    else match (s1.cp p).ctl with
      | c :: rest =>
        if c.sent ≠ 0 && c.id = id then
          let data := if c.op = 1 then pkt.payload.take 256 else []
          let s2 := (s1.setCp p { s1.cp p with ctl := rest }).setBusy c.box false
          let s3 := ((s2.setFld F.CAP_CTRL_STATUS_DONE 1 c.box).setFld F.CAP_CTRL_STATUS_RESP_STATUS status c.box).setFld
            F.CAP_CTRL_STATUS_RESP_COUNT data.length c.box
          State.ctlStart p (s3.memBytes (ctrlBuf c.box) data)
        else s1.bump .CAP_CNT_ORPHAN p
      | [] => s1.bump .CAP_CNT_ORPHAN p))

/-- The limit of R112: 1.0 ms after a request. -/
def ctlLimit : Nat := fineOfUs 1000

/-- The instants at which the outstanding RATE_RESTORE and the outstanding ordinary request of port `p` are due (R112). -/
def State.restoreDue (s : State) (p : Nat) : Option Nat :=
  match (s.pt p).rate with
  | some m => if m.restore && !m.answered then some (m.at0 + ctlLimit) else none
  | none => none

def State.ctlDue (s : State) (p : Nat) : Option Nat :=
  match (s.cp p).ctl with
  | c :: _ => if c.sent = 0 then none else some (c.at0 + ctlLimit)
  | [] => none

/-- RATE_RESTORE is repeated, up to 3 times (R83, R112). -/
def State.restoreRetry (s : State) (p : Nat) : State :=
  match (s.pt p).rate with
  | some m =>
    if m.sent ≤ 3 then
      ((s.setPt p { s.pt p with rate := some { m with sent := m.sent + 1, at0 := s.fine } }).sendRequest p m.id 0x11
        (bytesLE 2 m.mask)).bump .CAP_CNT_CTRL_RETRY p
    else s.setPt p { s.pt p with rate := none }
  | none => s

/-- The ordinary request is repeated, up to 3 times, then TIMEOUT (R112). -/
def State.ctlRetry (s : State) (p : Nat) : State :=
  match (s.cp p).ctl with
  | c :: rest =>
    let x := s.cp p
    if c.sent ≤ 3 then
      ((s.setCp p { x with ctl := { c with sent := c.sent + 1, at0 := s.fine } :: rest }).sendRequest p c.id c.op c.payload).bump
        .CAP_CNT_CTRL_RETRY p
    else State.ctlStart p (((s.setCp p { x with ctl := rest }).setBusy c.box false).setFld F.CAP_CTRL_STATUS_TIMEOUT 1 c.box)
  | [] => s

/-- CONTROL_REQUEST_RETRY (R112): time passes to the earlier of the two limits, and what is due is repeated. -/
def execControlRequestRetry (p : Fin 64) (dt : Nat) (s : State) : Res :=
  .next (
    match (s.restoreDue p).toList ++ (s.ctlDue p).toList with
    | [] => s.advance dt
    | d :: ds =>
      let s := s.passTo dt (ds.foldl min d)
      let s1 := if (s.restoreDue p).any (fun t => decide (t ≤ s.fine)) then s.restoreRetry p else s
      if (s.ctlDue p).any (fun t => decide (t ≤ s.fine)) then s1.ctlRetry p else s1)

/-! ### Triggers (R114 to R122) -/

/-- The modes in which selectors act (R114). -/
def State.trigMode (s : State) : Bool := s.mode == modeAcquire || s.mode == modeBuild || s.mode == modeService

/-- Whether port `p` selects TRIGO pin `pin` (R120). -/
def State.selectsPin (s : State) (p pin : Nat) : Bool :=
  s.portWidth p != 0 && natBit (s.fld F.CAP_TRIG_CFG_OUTPUT p) 1 && s.fld F.CAP_TRIG_CFG_PIN p = pin

/-- The port that drives a TRIGO pin: the lowest that selects it. -/
def State.pinOwner (s : State) (pin : Nat) : Option Nat := (List.range 64).find? (fun p => s.selectsPin p pin)

/-- PIN_CONFLICT of a port whose pin a lower port drives (R120). -/
def State.pinConflict (p : Nat) (s : State) : State :=
  let pin := s.fld F.CAP_TRIG_CFG_PIN p
  if s.selectsPin p pin && s.pinOwner pin != some p then s.setFld F.CAP_PORT_FLAGS_PIN_CONFLICT 1 p else s

def State.pinConflicts (s : State) : State := State.eachOf State.pinConflict (List.range 64) s

/-- The level of a pin for a state at the polarity of its driver (R134); after reset, polarity 0 (R123). -/
def State.pinLevel (s : State) (pin : Nat) (active : Bool) : Bool :=
  active != ((s.pinOwner pin).map (fun p => s.flag F.CAP_TRIG_CFG_PIN_POL p)).getD false

/-- A pulse on the TRIGO pin of port `p` (R118, R120, R134). A time cause places the edge at its instant; every other edge
lies 8 to 40 ns after the cause, at a free instant. -/
def State.trigPin (s : State) (p kind t : Nat) : State :=
  let pin := s.fld F.CAP_TRIG_CFG_PIN p
  let s1 := State.pinConflict p s
  if s1.pinOwner pin != some p then s1
  else
    let r := if kind = 4 then (0, s1) else
      let f := s1.freeBits 8
      (10 + f.1.toNat % 41, f.2)
    let at0 := (if kind = 2 || kind = 3 || kind = 4 then t else s1.fine) + r.1
    let e := at0 + 125 * atLeast1 (s1.fld F.CAP_TRIG_TIMING_PIN_WIDTH p)
    let s2 : State := { r.2 with capt := { r.2.capt with pins := tblSet none r.2.capt.pins pin (some e) } }
    (s2.setCp p { s2.cp p with trigAt := some s2.fine, causeAt := some s2.fine }).emit (.trigo pin true (s2.pinLevel pin true) at0)

/-- A cause of port `p`'s selector (R114, R119, R120): its KIND, its instant, whether R117 marks it late. It is a strobe cause
too (R352). -/
def State.trigCause (kind t : Nat) (late : Bool) (p : Nat) (s : State) : State :=
  if !s.trigMode || s.portWidth p = 0 then s
  else
    let s := s.strobePort p t
    let x := s.cp p
    let sameClock := match x.causeAt with
      | some c => c * 4 / 5 == s.fine * 4 / 5
      | none => false
    let held := match x.trigAt with
      | some c => decide (s.fine < c + fineOfUs (s.fld F.CAP_TRIG_TIMING_HOLDOFF p))
      | none => false
    if x.queued.isSome || sameClock then s.bump .CAP_CNT_TRIG_MERGED p
    else if held then s.bump .CAP_CNT_TRIG_HOLDOFF p
    else
      let out := s.fld F.CAP_TRIG_CFG_OUTPUT p
      let s1 := if !natBit out 0 then s
        else if !s.portUp p then s.bump .CAP_CNT_TRIG_DROP p
        else s.setCp p { x with queued := some { seq := 0, kind := kind, cause := t, late := late, wait := false }, causeAt := some s.fine }
      if natBit out 1 then s1.trigPin p kind t else s1

/-- A cause for each port whose selector names a source and index (R114, R134): 1 halyard, 2 encoder compare, 3 scan path,
4 time schedule. The codes of SOURCE are those of KIND. -/
def State.trigSource (s : State) (src idx t : Nat) (late : Bool) : State :=
  State.eachOf (State.trigCause src t late)
    ((List.range 64).filter (fun p => s.fld F.CAP_TRIG_CFG_SOURCE p = src && s.fld F.CAP_TRIG_CFG_SRC_INDEX p = idx)) s

/-- A write of SOFT (R114, R134). -/
def execSoft (who : Requester) (p : Fin 64) (s : State) : Res :=
  .next (s.writeGate who .CAP_TRIG_CFG p (State.trigCause 5 s.fine false p s))

/-- The path position of the selected beam passes a multiple of CAP_PATH_PITCH (R116): p(t), limited below by H (R315). -/
def execScanPathCause (p : Fin 64) (dt : Nat) (s : State) : Res :=
  .next (
    let s := s.advance dt
    let b := s.fld F.CAP_TRIG_CFG_SRC_INDEX p
    if s.fld F.CAP_TRIG_CFG_SOURCE p ≠ 3 || !s.hasBeam b then s
    else
      let marks := s.flag F.CAP_TRIG_CFG_MARKS_ONLY p
      let x := s.bc b
      let pos := if marks then x.pathFrom s.fine - x.dark else x.pathFrom s.fine
      let pitch := min 10000000 (max 1000 (s.rd .CAP_PATH_PITCH p).toNat)
      let k := (pos / (65536 * pitch : Nat)).toNat
      if k = (s.cp p).passes || (marks && !s.flag F.BCH_STATUS_EMIT b) then s
      else State.trigCause 3 s.fine false p (s.setCp p { s.cp p with passes := k }))

/-- The queued trigger block is sent on port lane 0 (R119, R120). -/
def execTriggerBlockSend (p : Fin 64) (dt : Nat) (s : State) : Res :=
  .next (
    let s := s.advance dt
    let x := s.cp p
    match x.queued with
    | none => s
    | some t =>
      if !s.trigMode then (s.setCp p { x with queued := none }).flushSegs p
      else if !s.portUp p then ((s.setCp p { x with queued := none }).flushSegs p).bump .CAP_CNT_TRIG_DROP p
      else
        let seq := x.trigSeq % 256
        let all := { t with seq := seq, wait := true, at0 := s.fine } :: x.sent
        let s1 := s.setCp p { x with queued := none, trigSeq := (seq + 1) % 256, trigAt := some s.fine,
                                     sent := all.take 16 ++ (all.drop 16).filter (·.wait) }
        ((s1.sendRow p (fun i => if i = 0 then some (withCrc [0x4B, BitVec.ofNat 8 seq, BitVec.ofNat 8 t.kind]) else none)).flushSegs
          p).bump .CAP_CNT_TRIG_SENT p)

/-- The ACK of the newest trigger of a TRIG_SEQ is no longer awaited. -/
def ackOf (seq : Nat) : List Trig → List Trig
  | [] => []
  | t :: rest => if t.seq = seq && t.wait then { t with wait := false } :: rest else t :: ackOf seq rest

/-- TRIGGER_ACK (R121). -/
def execTriggerAck (p : Fin 64) (seq code : BitVec 8) (s : State) : Res :=
  .next (s.onPacket p 0 0 (fun s =>
    let s1 := (s.popPacket p 0).2
    let s2 := s1.setCp p { s1.cp p with sent := ackOf seq.toNat (s1.cp p).sent }
    if code = 1 then s2.bump .CAP_CNT_TRIG_REFUSED p else s2))

/-- 10 µs without an ACK (R121): the oldest block of the TRIG_SEQ whose ACK is awaited. -/
def execTriggerAckTimeout (p : Fin 64) (dt : Nat) (seq : BitVec 8) (s : State) : Res :=
  .next (
    match (s.cp p).sent.reverse.find? (fun t => t.seq = seq.toNat && t.wait) with
    | some t =>
      let s := s.passTo dt (t.at0 + fineOfUs 10)
      let left := (ackOf seq.toNat (s.cp p).sent.reverse).reverse
      (s.setCp p { s.cp p with sent := left.take 16 ++ (left.drop 16).filter (·.wait) }).bump .CAP_CNT_TRIG_NOACK p
    | none => s.advance dt)

/-- A TRIGO pin returns inactive. -/
def State.pinEnd (pin : Nat) (s : State) : State :=
  if (tblGet none s.capt.pins pin).isSome then
    { s with capt := { s.capt with pins := tblSet none s.capt.pins pin none } }.emit
      (.trigo pin false (s.pinLevel pin false) s.fine)
  else s

/-- Every TRIGO pin is driven inactive, and no trigger waits (R114, R123). -/
def State.dropTriggers (s : State) : State :=
  State.eachOf (fun p s => if (s.cp p).queued.isSome then (s.setCp p { s.cp p with queued := none }).flushSegs p else s) (List.range 64)
    (State.eachOf State.pinEnd (List.range 8) s)

/-- An idle TRIGO pin whose driver or polarity has changed since `before` is driven at its new inactive level (R123, R134). -/
def State.pinFollow (before : State) (pin : Nat) (s : State) : State :=
  if (tblGet none s.capt.pins pin).isNone && s.pinLevel pin false != before.pinLevel pin false then
    s.emit (.trigo pin false (s.pinLevel pin false) s.fine)
  else s

/-- PIN_WIDTH after its edge a TRIGO pulse ends (R134). -/
def execTrigoPulseEnd (pin : Fin 8) (dt : Nat) (s : State) : Res :=
  .next (
    match tblGet none s.capt.pins pin.val with
    | none => s.advance dt
    | some e => State.pinEnd pin (s.passTo dt e))

/-! ### Compare units (R115) -/

def State.cmpUnit (s : State) (n : Nat) : Cmp := tblGet {} s.capt.cmps n
def State.setCmp (s : State) (n : Nat) (c : Cmp) : State :=
  { s with capt := { s.capt with cmps := tblSet {} s.capt.cmps n c } }

/-- The byte address of entry `k` of the compare memory. -/
def cmpAddr (k : Nat) : Nat := 0x190000 + 4 * k

/-- The position of the current entry; none where the list or the unit has ended (R115). -/
def State.cmpNext (s : State) (n : Nat) (c : Cmp) : Option Word :=
  let mode := s.fld F.CAP_ENC_CMP_CFG_MODE n
  let base := s.fld F.CAP_ENC_CMP_CFG_BASE n
  let len := s.fld F.CAP_ENC_CMP_CFG_LENGTH n
  if !c.on || mode = 0 || len ≤ c.idx then none
  else if mode = 3 then
    let pitch := s.rd .CAP_ENC_CMP_PITCH n
    if pitch = 0 && c.idx ≠ 0 then none else some (s.memRd (cmpAddr base) + pitch * BitVec.ofNat 32 c.idx)
  else if 16384 ≤ base + c.idx then none
  else
    let v := s.memRd (cmpAddr (base + c.idx))
    match c.last with
    | none => some v
    | some l => if (mode = 1 && l < v.toInt) || (mode = 2 && v.toInt < l) then some v else none

/-- The unit after a change: it stops where no entry is left, and CAP_ENC_CMP_NEXT shows the next one (R134). -/
def State.cmpShow (n : Nat) (s : State) : State :=
  let c := s.cmpUnit n
  match s.cmpNext n c with
  | some v => s.wr .CAP_ENC_CMP_NEXT v n
  | none => (s.setCmp n { c with on := c.on && s.fld F.CAP_ENC_CMP_CFG_MODE n = 0 }).wr .CAP_ENC_CMP_NEXT 0x80000000 n

/-- ARM (R115, R134): the unit restarts at BASE. -/
def State.cmpArm (s : State) (n : Nat) : State := State.cmpShow n (s.setCmp n { on := true })

/-- COMPARE_ARM. -/
def execCompareArm (who : Requester) (n : Fin 16) (s : State) : Res :=
  .next (if s.unitOpen 1 then s.gated who 2 (s.cmpArm n) else s)

/-- The count of encoder `n` has moved by one to its present value, at an edge of instant `t` (R115, R118): the current entry
fires where the count has reached it from the right side. -/
def State.cmpMove (s : State) (n t : Nat) (up : Bool) : State :=
  let c := s.cmpUnit n
  let mode := s.fld F.CAP_ENC_CMP_CFG_MODE n
  let pitch := s.sgn .CAP_ENC_CMP_PITCH n
  let side := if mode = 1 then up else if mode = 2 then !up else pitch = 0 || (if 0 < pitch then up else !up)
  match s.cmpNext n c with
  | some v =>
    if side && s.rd .CAP_ENC_COUNT n = v then
      let s1 := State.cmpShow n (s.setCmp n { c with idx := c.idx + 1, last := some v.toInt })
      (s1.publish (0x080 + n) 0 (BitVec.ofNat 48 t)).trigSource 2 n t false
    else s
  | none => s

/-- A read of CAP_FRAME_NUM_LO (R130). -/
def execFrameNumLoRead (who : Requester) (p : Fin 64) (s : State) : Res :=
  .next (s.readGate who 1 p 1
    ((s.wr .CAP_FRAME_NUM_HI (BitVec.ofNat 32 ((s.cp p).count / 2 ^ 32)) p).emit (.reply (s.rd .CAP_FRAME_NUM_LO p))))

end Sys2Proof.Machine
end

