-- ==== Sys2Proof/Machine/AddrMap.lean ====
section
/-!
DEFINITION. The BAR0 map (R16, R565 to R567, R572): which register or memory word a BAR0 byte address names, and the
descriptor table (R568 to R571).
-/

namespace Sys2Proof.Machine

/-! ### Registers -/

/-- The instance of register `r` at a byte address: the address is base + i × s1 + j × s2. -/
def Reg.instAt (r : Reg) (a : Nat) : Option (Nat × Nat) :=
  let x := r.info
  if a < x.base then none
  else
    let d := a - x.base
    ((List.range x.n2).filterMap (fun j =>
      if j * x.s2 ≤ d then
        let e := d - j * x.s2
        if x.s1 = 0 then (if e = 0 then some (0, j) else none)
        else if e % x.s1 = 0 && decide (e / x.s1 < x.n1) then some (e / x.s1, j) else none
      else none)).head?

/-- The register at a byte address, in a list of registers. -/
def regIn (a : Nat) : List Reg → Option (Reg × Nat × Nat)
  | [] => none
  | r :: rest => match r.instAt a with
    | some (i, j) => some (r, i, j)
    | none => regIn a rest

/-- The register at a byte address. HAL_SUB and HAL_TASK_STATUS of numbers that name no task are no registers (R378). -/
def regAt (a : Nat) : Option (Reg × Nat × Nat) :=
  match regIn a Reg.all with
  | some (.HAL_SUB, i, j) => if i < 0x160 && !(0x089 ≤ i && i ≤ 0x08B) && !(0x0CA ≤ i && i ≤ 0x0CF) then some (.HAL_SUB, i, j) else none
  | some (.HAL_TASK_STATUS, i, j) =>
    if i < 0x160 && !(0x089 ≤ i && i ≤ 0x08B) && !(0x0CA ≤ i && i ≤ 0x0CF) then some (.HAL_TASK_STATUS, i, j) else none
  | some (.HAL_PROD_BIND, i, j) => if i < 0x232 then some (.HAL_PROD_BIND, i, j) else none
  | x => x

/-! ### Memories -/

/-- The memories of BAR0 (R572). -/
inductive MemKind where
  | mbxData | flashBuf | moduleA0 (p : Nat) | moduleA2 (p : Nat) | seqMem | fb (second : Bool) | defect | patterns
  | lumProg | ctrlBuf (box : Nat) | compare | profile | marks | grid | gridRead | stream (n : Nat)
  deriving DecidableEq, Repr

/-- A word of a memory: which memory, its unit and instance, the address its bytes are held at, and the bits it has. -/
structure MemWord where
  kind : MemKind
  unit : Nat
  inst : Nat
  addr : Nat
  mask : Word
  deriving DecidableEq, Repr

/-- A word of grid memory by offset in its head's range: bits 31:24 of the first two words of a node are reserved (R342). -/
def gridWord (kind : MemKind) (head o : Nat) : Option MemWord :=
  if o < 50700 then
    some ⟨kind, 6, head, gridBase + 0x10000 * head + o, if o % 12 = 8 then 0xFFFFFFFF else 0x00FFFFFF⟩
  else none

/-- The memory word at a byte address, for a write or a read: the two differ in the range that stream windows share with
grid memory of head 4 (R567). -/
def memAt (write : Bool) (a : Nat) : Option MemWord :=
  let all : Word := 0xFFFFFFFF
  if a < 0x20140 then none
  else if a < 0x20180 then some ⟨.mbxData, 16, 0, a, all⟩
  else if 0x21000 ≤ a && a < 0x22000 then some ⟨.flashBuf, 16, 0, a, all⟩
  else if 0x60800 ≤ a && a < 0x60A00 then some ⟨.moduleA0 ((a - 0x60800) / 0x100), 12, 0, (a - 0x60800) % 0x100, all⟩
  else if 0x60A00 ≤ a && a < 0x60A20 then some ⟨.moduleA2 ((a - 0x60A00) / 0x10), 12, 0, (a - 0x60A00) % 0x10, all⟩
  else if 0x74000 ≤ a && a < 0x76000 then some ⟨.seqMem, 8, 0, a, all⟩
  else if 0x110000 ≤ a && a < 0x113000 then some ⟨.fb false, 7, 0, a, all⟩
  else if 0x114000 ≤ a && a < 0x117000 then some ⟨.fb true, 7, 0, a, all⟩
  else if 0x118000 ≤ a && a < 0x118600 then some ⟨.defect, 7, 0, a, all⟩
  else if 0x120000 ≤ a && a < 0x160000 && (a - 0x120000) % 0x4000 < 0x3000 then some ⟨.patterns, 7, 0, a, all⟩
  else if 0x160000 ≤ a && a < 0x161000 then some ⟨.lumProg, 7, 0, a, all⟩
  else if 0x180100 ≤ a && a < 0x180300 then some ⟨.ctrlBuf ((a - 0x180100) / 0x100), 1, 0, a, all⟩
  else if 0x190000 ≤ a && a < 0x1A0000 then some ⟨.compare, 1, 0, a, all⟩
  else if 0x220000 ≤ a && a < 0x238000 && (a - 0x220000) % 0x400 < 516 then
    some ⟨.profile, 5, (a - 0x220000) / 0x2000, a, if (a - 0x220000) % 0x400 = 512 then 0x0000FFFF else all⟩
  else if 0x410000 ≤ a && a < 0x416000 then some ⟨.marks, 6, (a - 0x410000) / 0x800, a, all⟩
  else if 0x480000 ≤ a && a < 0x48C000 then
    if write then some ⟨.stream ((a - 0x480000) / 0x1000), 6, (a - 0x480000) / 0x1000, a, all⟩
    else gridWord .gridRead 4 (a - 0x480000)
  else if 0x440000 ≤ a && a < 0x500000 then gridWord .grid ((a - 0x440000) / 0x10000) ((a - 0x440000) % 0x10000)
  else if 0x500000 ≤ a && a < 0x5C0000 then gridWord .grid ((a - 0x500000) / 0x10000) ((a - 0x500000) % 0x10000)
  else none

/-! ### The descriptor table -/

/-- The units of R565 by UNIT_CODE: prefix, base, span, instances of the SX1664, stride. -/
def unitRow : Nat → List Nat × Nat × Nat × Nat × Nat
  | 0 => ([76, 78, 75], 0x000B0000, 0x4000, 64, 0x100)
  | 1 => ([67, 65, 80], 0x00180000, 0x20000, 64, 0x40)
  | 2 => ([70, 83, 84], 0x000A0000, 0x1000, 12, 0x20)
  | 3 => ([77, 83, 84], 0x000D0000, 0x4000, 16, 0x400)
  | 4 => ([83, 72, 84], 0x000E0000, 0x2000, 12, 0x200)
  | 5 => ([66, 67, 72], 0x00200000, 0x40000, 12, 0x400)
  | 6 => ([83, 67, 78], 0x00400000, 0x200000, 12, 0x100)
  | 7 => ([76, 85, 77], 0x00100000, 0x80000, 8, 0x40)
  | 8 => ([72, 65, 76], 0x00070000, 0x8000, 1, 0)
  | 9 => ([80, 67, 69], 0x00010000, 0x1000, 1, 0)
  | 10 => ([68, 77, 65], 0x00080000, 0x1000, 32, 0x80)
  | 11 => ([81, 85, 69], 0x00090000, 0x2000, 64, 0x80)
  | 12 => ([84, 73, 77], 0x00060000, 0x1000, 1, 0)
  | 13 => ([72, 76, 77], 0x00050000, 0x1000, 1, 0)
  | 14 => ([80, 87, 82], 0x00040000, 0x1000, 1, 0)
  | 15 => ([80, 76, 86], 0x000C0000, 0x1000, 1, 0)
  | 16 => ([66, 79, 79, 84], 0x00020000, 0x2000, 1, 0)
  | 17 => ([83, 69, 83], 0x00030000, 0x1000, 1, 0)
  | _ => ([68, 83, 67], 0, 0x1000, 1, 0)

/-- PRESENT and INSTANCE_COUNT of a unit (R570, R571). -/
def descPresent (v : Variant) (ready : Bool) (code : Nat) : Bool × Nat :=
  let full := (unitRow code).2.2.2.1
  if !ready then (code == 9 || code == 16 || code == 18, full)
  else
    let beam := decide (4 ≤ code) && decide (code ≤ 6)
    if beam && v.noBeams then (false, full)
    else if v.half && (decide (code ≤ 3) || beam) then (true, full / 2)
    else (true, full)

/-- An entry of the descriptor table (R569). -/
def descEntry (v : Variant) (ready : Bool) (code : Nat) : List Byte :=
  let u := unitRow code
  let p := descPresent v ready code
  takeAt (u.1.map (BitVec.ofNat 8)) 0 4 ++ bytesLE 1 code ++ bytesLE 1 (b2n p.1) ++ bytesLE 2 0x0100 ++ bytesLE 4 u.2.1
    ++ bytesLE 4 u.2.2.1 ++ bytesLE 2 p.2 ++ [0, 0] ++ bytesLE 4 u.2.2.2.2 ++ List.replicate 8 0

/-- The header with a given TABLE_CRC (R568). -/
def State.descHeader (s : State) (crc : Nat) : List Byte :=
  bytesLE 4 0x57445343 ++ bytesLE 2 1 ++ bytesLE 2 19 ++ bytesLE 2 (getBits (s.cfgRd 0x00) 16 16)
    ++ bytesLE 1 (getBits (s.cfgRd 0x08) 0 8) ++ [0] ++ bytesLE 4 crc ++ List.replicate 48 0

/-- The bytes of the descriptor table (R568, R571). -/
def State.descTable (s : State) : List Byte :=
  let body := (List.range 19).flatMap (descEntry s.variant s.ready)
  s.descHeader (crc32 (s.descHeader 0 ++ body)) ++ body

/-- Whether a byte address lies in the descriptor table. -/
def inDesc (a : Nat) : Bool := decide (a < 0x2A0)

end Sys2Proof.Machine
end

