-- ==== Sys2Proof/Machine/Beam.lean ====
section
/-!
DEFINITION. The beam channels: power and its application (R268 to R278), paced firing and the tracking loop (R279 to
R284), turn-on and rotation (R285 to R287), interlocks and the strobe watchdog (R288 to R293), the power meter (R294).
-/

namespace Sys2Proof.Machine

/-- A command on beam `n`: time passes, and the plan runs up to the present. -/
def State.beamAt (s : State) (n dt : Nat) (k : State → State) : State :=
  if !s.hasBeam n || !s.ready then s.advance dt else k ((s.advance dt).refresh n)

/-! ### Power and its application (R274 to R278) -/

/-- The duty below the knee, in UQ0.16, truncated (R274). -/
def State.dutyFor (s : State) (n c : Nat) : Nat := c * 65536 / max 1 (s.fld F.BCH_HYBRID_KNEE n)

/-- The effective power the watchdog sees (R291). -/
def State.effective (s : State) (n c : Nat) : Nat :=
  let k := s.fld F.BCH_HYBRID_KNEE n
  if s.hybrid n && c < k then s.dutyFor n c * k / 65536 else c

/-- A command has been applied now: the watchdog gets its copy (R291). -/
def State.powerCopy (s : State) (n c : Nat) : State :=
  let b := s.bc n
  let high := s.fld F.BCH_WD_PWR_P_DWELL n < s.effective n c
  s.setBc n { b with cApplied := c, powAt := s.fine,
                     highAt := if high then (if b.highAt.isSome then b.highAt else some s.fine) else none }

/-- The sample on its way is applied at an instant (R253), where the sheet unit is the source of the command. -/
def State.sampleApplied (s : State) (n t : Nat) : State :=
  match (s.sh n).sent with
  | some x => if s.sheetSource n then s.shApplied n x t else s
  | none => s

/-- Whether EMITn will be asserted before the next DAC update: for a planned mark, or a re-fire that is on its way. -/
def State.emitSoon (s : State) (n : Nat) : Bool :=
  match (s.sc n).pause with
  | some p =>
    if p.begun then p.phase = 5 && p.go && decide (p.since + s.reentryTime n p.vr ≤ s.fine + 150)
    else s.emitWanted n (s.fine + 150) && decide (s.fine + 150 < p.tS)
  | none => s.scnState n == scnRunning && s.emitWanted n (s.fine + 150)

/-- Whether the channel drives its output now: EMITn is asserted, or will be before the next DAC update (R276). -/
def State.driving (s : State) (n : Nat) : Bool := s.flag F.BCH_STATUS_EMIT n || (s.gateOpen n && s.emitSoon n)

/-- The DAC update of every 120 ns (R268, R271, R276, R277). -/
def execDacUpdate (n : Fin 12) (dt : Nat) (s : State) : Res :=
  .next (s.beamAt n.val dt (fun s =>
    if !s.domOn (44 + n.val) then s
    else
      let s1 := s.setFld F.BCH_STATUS_PROFILE (s.sc n.val).profile n.val
      let c := s1.beamC n.val
      let below := c < s1.fld F.BCH_HYBRID_KNEE n.val
      let drive := s1.driving n.val
      let analog := s1.fld F.BCH_CFG_OUT_SEL n.val != 1
      let code := if drive && analog then s1.codeFor n.val c else s1.fld F.BCH_OUT_CFG_IDLE_CODE n.val
      let s2 := ((s1.setFld F.BCH_STATUS_BELOW_KNEE (b2n below) n.val).setBc n.val { s1.bc n.val with code := code }).emit
        (.dac n.val code)
      if drive && analog && !(s2.hybrid n.val && below) then (s2.powerCopy n.val c).sampleApplied n.val s2.fine else s2))

/-- T_M of R275. -/
def State.modPeriod (s : State) (n : Nat) : Nat :=
  let f := min 2000 (max 20 (s.fld F.BCH_HYBRID_MOD_FREQ n))
  (1250000 * 2 + f) / (2 * f)

/-- When the next modulation period starts: at the assertion of EMITn, then where the last one ends (R275). -/
def Bch.modDue (b : Bch) : Nat := if b.modNew then b.emitAt else b.modAt + b.modLen

/-- A modulation period that starts at `t` (R39, R274, R275): MODn is held active from it above the knee, inactive at c = 0, and
else carries one pulse. -/
def State.modPeriodAt (s : State) (n t : Nat) : State :=
  let b := s.bc n
  let c := s.beamC n
  let tm := s.modPeriod n
  let b1 := { b with modAt := t, modLen := tm, modNew := false }
  if s.fld F.BCH_HYBRID_KNEE n ≤ c then
    let s1 := s.setBc n { b1 with modHeld := true, modOn := 0, duty := 65536 }
    if b.modHeld then s1 else s1.emit (.modLevel n true t)
  else
    let d := s.dutyFor n c
    let want : Int := (d * tm : Nat) + b.carry
    let minOn : Int := (max 0x32 (s.fld F.BCH_OUT_CFG_MIN_ON n) * 65536 : Nat)
    let on : Nat := if 0 < c && minOn ≤ want then min tm ((want + 32768) / 65536).toNat else 0
    let s1 := s.setBc n { b1 with modHeld := false, modOn := on, duty := d, carry := want - (on * 65536 : Nat) }
    let s2 := if b.modHeld && on = 0 then s1.emit (.modLevel n false t) else s1
    let s3 := if on = 0 then s2 else s2.emit (.modPulse n t on)
    (s3.powerCopy n c).sampleApplied n t

/-- MODULATION_PERIOD (R275): time passes at least to the start of the period. -/
def execModulationPeriod (n : Fin 12) (dt : Nat) (s : State) : Res :=
  .next (
    if !s.hasBeam n || !s.ready then s.advance dt
    else
      let b := s.bc n
      let s1 := (if s.flag F.BCH_STATUS_EMIT n && s.hybrid n then s.passTo dt b.modDue else s.advance dt).refresh n
      if !s1.flag F.BCH_STATUS_EMIT n || !s1.hybrid n || s1.fine < (s1.bc n).modDue then s1
      else s1.modPeriodAt n (s1.bc n).modDue)

/-- A power word on DPWR (R278): a start bit, the code, its CRC-4, a stop bit. The line is busy for the word and two
bit times; a cut holds it low. -/
def execDigitalWord (n : Fin 12) (dt : Nat) (s : State) : Res :=
  .next (s.beamAt n.val dt (fun s =>
    let sel := s.fld F.BCH_CFG_OUT_SEL n.val
    let b := s.bc n.val
    let bits24 := 2400 / 2 ^ s.fld F.BCH_CFG_DIG_RATE n.val
    if !(sel == 1 || sel == 2) || s.cutLatched n.val || s.fine < b.wordAt + bits24 || !s.domOn (44 + n.val) then s
    else
      let c := s.beamC n.val
      let drive := s.driving n.val
      let code := if drive then s.codeFor n.val c else s.fld F.BCH_OUT_CFG_IDLE_CODE n.val
      let s1 := (s.setBc n.val { b with word := code, wordAt := s.fine }).emit
        (.dpwr n.val ([true] ++ bitsLsb 16 code ++ bitsMsb 4 (crc4 code) ++ [false]))
      if drive && sel == 1 then (s1.powerCopy n.val c).sampleApplied n.val s1.fine else s1))

/-! ### The tracking loop and the reversal window (R280 to R284) -/

/-- p(t) now, in 2^-16 nm (R281). -/
def State.pathPos (s : State) (n : Nat) : Int := (s.bc n).pathAt s.fine

/-- The window of R283 in 2^-16 nm. -/
def State.window (s : State) (n : Nat) : Int :=
  (atLeast1 (s.fld F.BCH_REVERSAL_WINDOW n) * (s.rd .BCH_ENC_SCALE n).toNat : Nat)

/-- The loop is loaded with the newest measurement and speed 0 (R281). -/
def Bch.load (b : Bch) (now : Nat) : Bch := { b with pHat := b.newest.getD (b.pathAt now), vHat := 0, tHat := now, meas := none }

/-- Motion against the current direction (R283): held within the window, a true reversal beyond it, which loads the loop. No
position up to H fires again. -/
def State.reversal (s : State) (n : Nat) : State :=
  let b := s.bc n
  let p := s.pathPos n
  let rev := s.goesDown n
  let back := if rev then p - b.hwm else b.hwm - p
  let held := s.flag F.BCH_STATUS_HELD n
  let seen := if rev then min b.lastPos b.hwm else max b.lastPos b.hwm
  if back ≤ 0 then (s.setBc n { b with hwm := p, past := false }).setFld F.BCH_STATUS_HELD 0 n
  else if back ≤ s.window n then
    if held || b.past then s
    else ((s.setBc n { b with lastPos := seen }).setFld F.BCH_STATUS_HELD 1 n).bump .BCH_CNT_HELD n
  else if s.flag F.BCH_CFG_PACE_SRC n then
    (((s.setBc n { b.load s.fine with hwm := p, lastPos := p }).setFld F.BCH_STATUS_DIR (b2n (!rev)) n).setFld
      F.BCH_STATUS_HELD 0 n).bump .BCH_CNT_REVERSAL n
  else if b.past then s
  else ((s.setBc n { b.load s.fine with past := true, lastPos := seen }).setFld F.BCH_STATUS_HELD 0 n).bump .BCH_CNT_REVERSAL n

/-- The loop's update of every microsecond (R281): loaded at the first mark of a layer, else moved by the newest measurement. During
pause and resume H and the direction are frozen (R284). -/
def execTrackingUpdate (n : Fin 12) (dt : Nat) (s : State) : Res :=
  .next (s.beamAt n.val dt (fun s =>
    let b := s.bc n.val
    let frozen := (s.sc n.val).inPause
    if b.reload && !frozen && s.marking n && b.newest.isSome then
      let b1 := b.load s.fine
      s.setBc n { b1 with hwm := b1.pHat, lastPos := b1.pHat, reload := false, past := false }
    else
      let s1 := match b.meas with
        | some m =>
          let e := m.1 - (b.pHat + b.vHat * ((m.2 : Int) - b.tHat) / 65536)
          let k1 : Int := s.fld F.BCH_TRACK_K1 n
          let k2 : Int := s.fld F.BCH_TRACK_K2 n
          s.setBc n { b with pHat := s.pathPos n + k1 * e / 65536, vHat := b.vHat + k2 * e / 1250, tHat := s.fine, meas := none }
        | none => s.setBc n { b with pHat := s.pathPos n, tHat := s.fine }
      if frozen then s1 else s1.reversal n))

/-- The first position of a grid of a pitch beyond `p`, upward or downward (R282). -/
def nextPos (down : Bool) (pitch ofs p : Int) : Int :=
  if down then ofs - ((ofs - p) / pitch + 1) * pitch else ofs + ((p - ofs) / pitch + 1) * pitch

/-- The instant at which p(t) reaches a position, to the nearest fine count, and not before the loop's last update. -/
def Bch.crossAt (b : Bch) (pos : Int) (now : Nat) : Nat :=
  if b.vHat = 0 then b.tHat
  else min now (max b.tHat ((b.tHat : Int) + divRound ((pos - b.pHat) * 65536 * b.vHat.sign) b.vHat.natAbs).toNat)

/-- p(t) crosses a pulse position (R282 to R284): a pulse is placed, or dropped where it would follow the last one too
soon. -/
def execPacedPulse (n : Fin 12) (dt : Nat) (s : State) : Res :=
  .next (s.beamAt n.val dt (fun s =>
    let b := s.bc n.val
    if !s.flag F.BCH_CFG_FIRE_MODE n.val || !s.flag F.BCH_STATUS_EMIT n.val || s.flag F.BCH_STATUS_HELD n.val || b.past
        || (s.sc n.val).inPause then s
    else
      let d := s.fld F.BCH_STATUS_DIR n.val
      let pitch : Int := (min 10000000 (max 1000 (s.fld F.BCH_PITCH_PITCH n.val)) : Nat)
      let ofs := clampInt (-10000000) 10000000 (s.sgn .BCH_PATH_OFS n.val d) * 65536
      let down := s.goesDown n
      let p := s.pathPos n.val
      let pos := nextPos down (pitch * 65536) ofs b.lastPos
      if (if down then decide (pos < p) else decide (p < pos)) then s
      else
        let edge := ((b.crossAt pos s.fine : Int) + sext 16 (s.fld F.BCH_TIME_OFS_OFS n.val d)).toNat
        let s1 := s.setBc n.val { b with lastPos := pos }
        if edge < b.pulseEnd + 10 && b.pulseEnd ≠ 0 then s1.bump .BCH_CNT_PULSE_SKIP n.val
        else
          let w := atLeast1 (s.fld F.BCH_PULSE_PULSE_W n.val)
          ((s1.setBc n.val { s1.bc n.val with pulse := true, pulseEnd := edge + w }).bump .BCH_CNT_PULSES n.val).emit
            (.modPulse n.val edge w)))

/-- A paced pulse ends (R282). -/
def execPulseEnd (n : Fin 12) (dt : Nat) (s : State) : Res :=
  .next (
    if !s.hasBeam n || !s.ready then s.advance dt
    else
      let b := s.bc n
      let s1 := (if b.pulse then s.passTo dt b.pulseEnd else s.advance dt).refresh n
      s1.setBc n { s1.bc n with pulse := (s1.bc n).pulse && decide (s1.fine < (s1.bc n).pulseEnd) })

/-! ### Cuts (R293) -/

/-- A cut is latched (R293): it shows, counts, is published and reported, closes the gate and halts the interpreter. -/
def State.cut (s : State) (n bit : Nat) : State :=
  if natBit (s.rd .BCH_FAULT n).toNat bit then s
  else
    let s1 := (s.wr .BCH_FAULT (putBits (s.rd .BCH_FAULT n) bit 1 1) n).bump .BCH_CNT_CUT n
    (((s1.publish (0x18C + n) bit s1.now48).notice 5 n bit 0).beamGate n).hardHaltActive n 1

/-! ### Turn-on and turn-off (R285) -/

/-- The next instant of a list that is not before `now`. -/
def nextOf (now : Nat) (l : List Int) : Option Nat :=
  (((l.filter (fun t => decide ((now : Int) ≤ t))).mergeSort (fun a b => decide (a ≤ b))).head?).map Int.toNat

/-- Time passes up to the next start, or the next end, of an emission of the plan (R285). -/
def State.toEdge (s : State) (n : Nat) (on : Bool) : State :=
  match nextOf s.fine ((s.emissions n).map (fun a => if on then a.1 else a.2)) with
  | some t => { s with fine := t }.refresh n
  | none => s

/-- EMITn rises at a mark's start plus ON_DLY (R285), where the mark's turn-on is not awaiting a grant (R286); a laser
that is not ready is cut at the turn-on (R290). -/
def execEmitOn (n : Fin 12) (dt : Nat) (s : State) : Res :=
  .next (s.beamAt n.val dt (fun s =>
    let s := if (s.bc n.val).want || s.emitWanted n.val s.fine || (s.sc n.val).inPause then s else s.toEdge n.val true
    let g := s.fld F.BCH_CFG_ROT_GROUP n.val
    let waits := (tblGet [] s.beams.reqs g).any (fun r => r.beam == n.val && decide (r.tp ≤ s.fine))
    if (s.bc n.val).want || (s.sc n.val).inPause || waits || !s.emitWanted n.val s.fine
        || s.scnState n.val != scnRunning then s
    else if s.flag F.BCH_CFG_READY_REQ n.val && !s.flag F.BCH_STATUS_READY n.val then s.cut n.val 6
    else
      let s1 := if s.flag F.BCH_CFG_PACE_SRC n.val then s
        else s.setFld F.BCH_STATUS_DIR (((s.moveNow n.val).map (s.markDir n.val)).getD (s.fld F.BCH_STATUS_DIR n.val)) n.val
      s1.setWant n.val true))

/-- EMITn falls at a mark's end plus OFF_DLY (R285). -/
def execEmitOff (n : Fin 12) (dt : Nat) (s : State) : Res :=
  .next (s.beamAt n.val dt (fun s =>
    let meter := match (s.sc n.val).wait with
      | .meter _ _ _ _ => true
      | _ => false
    let s := if (s.bc n.val).want && s.emitWanted n.val s.fine && !(s.sc n.val).inPause && !meter then s.toEdge n.val false else s
    if !(s.bc n.val).want || (s.sc n.val).inPause || meter || s.emitWanted n.val s.fine then s
    else s.setWant n.val false))

/-! ### Rotation groups (R286, R287) -/

/-- The order in which the arbiter takes requests: by planned instant, then by member from FIRST on. -/
def rotBefore (first : Nat) (a b : RotReq) : Bool :=
  decide (a.tp < b.tp) || (a.tp == b.tp && decide ((a.beam + 12 - first) % 12 ≤ (b.beam + 12 - first) % 12))

/-- The member after `b`: the next beam present whose ROT_GROUP is `g`. -/
def State.memberAfter (s : State) (g b : Nat) : Nat :=
  ((List.range 12).map (fun i => (b + 1 + i) % 12)).find? (fun k => s.hasBeam k && s.fld F.BCH_CFG_ROT_GROUP k == g) |>.getD b

/-- A grant reaches the interpreter (R316, R336): a re-fire is held, a chain is shifted whole. -/
def State.granted (s : State) (r : RotReq) (grant : Nat) : State :=
  let s1 := if r.tp < grant then s.bump .BCH_CNT_ROT_WAIT r.beam else s
  let x := s1.sc r.beam
  match x.pause with
  | some p =>
    if p.begun && p.phase = 5 && p.tp = r.tp && !p.go then
      let q := { p with grant := some grant }
      s1.setSc r.beam { x with pause := some { q with go := decide (s1.refireStart r.beam q grant ≤ max s1.fine p.since) } }
    else s1
  | none =>
    let starts (h : Seg) : Bool := h.kind == .emit && decide (0 < h.len) && ((s1.markSpan r.beam h).map (fun a => a.1.toNat) == some r.tp)
    let k := grant - r.tp
    if k = 0 then s1
    else
      let plan := delayFrom starts k x.plan
      let held := (x.plan.find? starts).map (fun h => h.t0 + k)
      s1.setSc r.beam { x with plan := plan, holdUntil := if held.isSome then held else x.holdUntil }

/-- The requests granted in order (R286). -/
def State.grantAll (g : Nat) : List RotReq → State → State
  | [], s => s
  | r :: rest, s =>
    let next := tblGet 0 s.beams.next g
    let grant := max r.tp next
    let trot := atLeast1 (s.fld F.BCH_ROT_CFG_T_ROT g) * 125
    State.grantAll g rest ({ s with beams := { s.beams with next := tblSet 0 s.beams.next g (grant + trot) } }.granted r grant)

/-- The instant at which a request is decided: max(its arrival, t_p − 40 µs) (R286), and for a re-fire its arrival (R336; log entry
85). -/
def RotReq.decideAt (r : RotReq) : Nat := if r.refire then r.arrival else max r.arrival (r.tp - 50000)

/-- The first instant at which a request of a group is decided. -/
def firstDecision : List RotReq → Nat
  | [] => 0
  | [r] => r.decideAt
  | r :: rest => min r.decideAt (firstDecision rest)

/-- The arbiter decides the requests that are due (R286). -/
def execRotationDecide (g : Fin 4) (dt : Nat) (s : State) : Res :=
  .next (
    let reqs := tblGet [] s.beams.reqs g.val
    let s := s.passTo dt (firstDecision reqs)
    let due (r : RotReq) : Bool := decide (r.decideAt ≤ s.fine)
    let first := s.fld F.BCH_ROT_CFG_FIRST g.val
    let now := (reqs.filter due).mergeSort (rotBefore first)
    let s1 := { s with beams := { s.beams with reqs := tblSet [] s.beams.reqs g.val (reqs.filter (fun r => !due r)) } }
    let s2 := State.grantAll g.val now s1
    match now with
    | r :: _ :: _ => s2.setFld F.BCH_ROT_CFG_FIRST (s2.memberAfter g.val r.beam) g.val
    | _ => s2)

/-! ### Interlocks (R288 to R290) -/

/-- The levels of BEAM_PERMIT_A and BEAM_PERMIT_B after their filter (R289). -/
def execBeamPermitChange (a b : Bool) (s : State) : Res :=
  .next (
    if s.variant.noBeams then s
    else
      let s1 := (s.setFld F.BCH_PERMIT_A (b2n a)).setFld F.BCH_PERMIT_B (b2n b)
      let since := if s1.permitDisagrees then (if s1.beams.disagree.isSome then s1.beams.disagree else some s1.fine) else none
      { s1 with beams := { s1.beams with disagree := since } }.permitUpdate)

/-- A and B have disagreed for longer than DISC_TIME (R289). -/
def execPermitDisagree (dt : Nat) (s : State) : Res :=
  .next (
    let s := s.advance dt
    match s.beams.disagree with
    | none => s
    | some t =>
      if s.fine ≤ t + atLeast1 (s.fld F.BCH_PERMIT_CFG_DISC_TIME) * 1250000 || s.flag F.BCH_PERMIT_PERMIT_FAULT then s
      else ((s.setFld F.BCH_PERMIT_PERMIT_FAULT 1).notice 5 0xFF 3 0).permitUpdate)

/-- A W1C write of PERMIT_FAULT (R289): it acts only while both channels read deasserted. -/
def execPermitFaultClear (who : Requester) (s : State) : Res :=
  .next (s.writeGate who .BCH_PERMIT 0 (
    if !s.flag F.BCH_PERMIT_A && s.flag F.BCH_PERMIT_B then (s.setFld F.BCH_PERMIT_PERMIT_FAULT 0).permitUpdate else s))

/-- A laser input after polarity: asserted where the pin differs from its POL bit. -/
def pinAsserted (pin pol : Bool) : Bool := pin != pol

/-- The level of BREFLn after its filter (R290). -/
def execBrefl (n : Fin 12) (pin : Bool) (s : State) : Res :=
  .next (s.beamAt n.val 0 (fun s =>
    let on := pinAsserted pin (s.flag F.BCH_CFG_BREFL_POL n.val)
    let s1 := s.setFld F.BCH_STATUS_BREFL (b2n on) n.val
    if on then s1.cut n.val 5 else s1))

/-- The level of ALARMn after its filter (R290). -/
def execAlarm (n : Fin 12) (pin : Bool) (s : State) : Res :=
  .next (s.beamAt n.val 0 (fun s =>
    let on := pinAsserted pin (s.flag F.BCH_CFG_ALARM_POL n.val)
    let s1 := s.setFld F.BCH_STATUS_ALARM (b2n on) n.val
    if on then s1.cut n.val 4 else s1))

/-- The level of READYn after its filter (R290): deasserted while EMITn is asserted, with READY_REQ = 1, it cuts. -/
def execReadyLost (n : Fin 12) (pin : Bool) (s : State) : Res :=
  .next (s.beamAt n.val 0 (fun s =>
    let on := pinAsserted pin (s.flag F.BCH_CFG_READY_POL n.val)
    let s1 := s.setFld F.BCH_STATUS_READY (b2n on) n.val
    if !on && s1.flag F.BCH_CFG_READY_REQ n.val && s1.flag F.BCH_STATUS_EMIT n.val then s1.cut n.val 6 else s1))

/-! ### The strobe watchdog (R291, R292) -/

/-- The instant since which slow motion and high power have held together, the substitutes of R291 taken where `subst`;
none where they do not. -/
def State.dwellSince (s : State) (n : Nat) (subst : Bool) : Option Nat :=
  let b := s.bc n
  let slow := match b.slowAt with
    | some t => some t
    | none => if subst && b.posAt + 12500 < s.fine then some (b.posAt + 12500) else none
  let high := match b.highAt with
    | some t => some t
    | none => if subst && b.powAt + 12500 < s.fine then some (max b.emitAt (b.powAt + 12500)) else none
  match slow, high with
  | some a, some c => some (max (max a c) b.emitAt)
  | _, _ => none

def State.meterOn (s : State) (n : Nat) : Bool := s.flag F.BCH_STATUS_METER n

/-- Whether the dwell condition holds (R292). -/
def State.dwells (s : State) (n : Nat) (subst : Bool) : Bool :=
  let exempt := s.mode == modeService && s.flag F.BCH_WD_PWR_SVC_EXEMPT n
  s.flag F.BCH_STATUS_EMIT n && !s.meterOn n && !exempt && (match s.dwellSince n subst with
    | some t => decide (t + fineOfUs (max 40 (s.fld F.BCH_WD_DWELL_T_DWELL n)) < s.fine)
    | none => false)

/-- EMITn asserted longer than MAX_ON (R292). -/
def execWdOnTime (n : Fin 12) (dt : Nat) (s : State) : Res :=
  .next (s.beamAt n.val dt (fun s =>
    if s.flag F.BCH_STATUS_EMIT n.val
        && (s.bc n.val).onSince + atLeast1 (s.fld F.BCH_WD_ON_MAX_ON n.val) * 1250000 < s.fine then s.cut n.val 0 else s))

/-- Slow motion with high power longer than T_DWELL (R292). -/
def execWdDwell (n : Fin 12) (dt : Nat) (s : State) : Res :=
  .next (s.beamAt n.val dt (fun s => if s.dwells n.val false then s.cut n.val 1 else s))

/-- Emission longer than METER_MAX_ON with METER = 1 (R292). -/
def execWdMeter (n : Fin 12) (dt : Nat) (s : State) : Res :=
  .next (s.beamAt n.val dt (fun s =>
    if s.flag F.BCH_STATUS_EMIT n.val && s.meterOn n.val
        && (s.bc n.val).meterAt + atLeast1 (s.fld F.BCH_WD_ON_METER_MAX_ON n.val) * 1250000 < s.fine then s.cut n.val 2 else s))

/-- A copy missing for 10 µs while EMITn is asserted, and the conditions met with the substitutes (R291, R292). -/
def execWdNoCopy (n : Fin 12) (dt : Nat) (s : State) : Res :=
  .next (s.beamAt n.val dt (fun s =>
    let b := s.bc n.val
    let missing := b.powAt + 12500 < s.fine || b.posAt + 12500 < s.fine
    if s.flag F.BCH_STATUS_EMIT n.val && missing && s.dwells n.val true then s.cut n.val 3 else s))

/-- Whether the cause of a cut bit persists (R293). -/
def State.causePersists (s : State) (n bit : Nat) : Bool :=
  match bit with
  | 4 => s.flag F.BCH_STATUS_ALARM n
  | 5 => s.flag F.BCH_STATUS_BREFL n
  | 6 => s.flag F.BCH_CFG_READY_REQ n && !s.flag F.BCH_STATUS_READY n
  | _ => false

/-- A W1C write of cut bits (R293): ignored for a bit whose cause persists, and while the channel requests EMITn. -/
def execCutClear (who : Requester) (n : Fin 12) (bits : BitVec 7) (s : State) : Res :=
  .next (s.writeGate who .BCH_FAULT n.val (
    if (s.bc n.val).want then s
    else
      let clear := ((List.range 7).map (fun k =>
        if natBit bits.toNat k && !s.causePersists n.val k then 2 ^ k else 0)).sum
      (s.wr .BCH_FAULT (s.rd .BCH_FAULT n.val &&& ~~~(BitVec.ofNat 32 clear)) n.val).beamGate n.val))

/-! ### The power meter (R294) -/

/-- P_meas in UQ0.16 of an averaged code of the 16-bit ADC, 0 to 2.500 V (R267, R294). -/
def State.pMeas (s : State) (n adc : Nat) : Nat :=
  min 0xFFFF ((adc * 5 * (s.rd .BCH_METER_SCALE n).toNat + 65535 * 256) / (2 * 65535 * 256))

/-- METER_FAULT (R294): the bit, the beam-fault event and the notice; nothing is cut. -/
def State.meterFault (s : State) (n : Nat) : State :=
  ((s.setFld F.BCH_FAULT_METER_FAULT 1 n).publish (0x18C + n) 8 s.now48).notice 5 n 8 0

/-- The rule of R294 for a profile, a power and a reading. With c_m and the reading both zero the quotient has no value,
and the gain takes a free one. -/
def State.meterRule (s : State) (n p cm pm : Nat) : State :=
  if pm * 20 < cm then s.meterFault n
  else
    let g0 := s.fld F.BCH_GAIN_GAIN n p
    let alpha : Int := s.fld F.BCH_METER_CFG_ALPHA n
    let step := s.fld F.BCH_METER_CFG_GAIN_STEP n
    let r : Int × State :=
      if pm = 0 then
        let f := s.freeBits 16
        ((f.1.toNat : Int), f.2)
      else (divRound ((g0 : Int) * (256 * (pm : Int) + alpha * ((cm : Int) - pm))) (256 * pm), s)
    let lo : Int := divRound ((g0 : Int) * (1024 - step)) 1024
    let hi : Int := divRound ((g0 : Int) * (1024 + step)) 1024
    let g := clampInt lo hi r.1
    if g < s.fld F.BCH_GAIN_LIMIT_MIN n || (s.fld F.BCH_GAIN_LIMIT_MAX n : Int) < g then r.2.meterFault n
    else r.2.stage (.reg .BCH_GAIN n p) (BitVec.ofInt 32 g)

/-- The end of a METER record (R294, R317): `adc` is the average code of the meter input over its last half. -/
def execMeterReading (n : Fin 12) (adc : BitVec 16) (s : State) : Res :=
  .next (
    if !s.hasBeam n.val || !s.ready then s
    else
      let x := s.sc n.val
      match x.wait with
      | .meter cm p prev input =>
        let s1 := { s with fine := max s.fine x.waitAt }
        let pm := s1.pMeas n.val adc.toNat
        let last : Word := BitVec.ofNat 32 (pm + p * 2 ^ 16 + input * 2 ^ 19)
        let s2 := ((s1.bump .BCH_CNT_METER n.val).wr .BCH_METER_LAST last n.val).meterRule n.val p cm pm
        let s3 := (s2.setSc n.val { s2.sc n.val with profile := prev }).setFld F.BCH_STATUS_METER 0 n.val
        (s3.setWant n.val false).waitDone n.val
      | _ => s)

end Sys2Proof.Machine
end

