-- ==== Sys2Proof/Machine/Encoder.lean ====
section
/-!
DEFINITION. Encoder inputs (R553 to R555) and SSI inputs (R556, R557).
-/

namespace Sys2Proof.Machine

def State.en (s : State) (n : Nat) : Enc := tblGet {} s.enc n
def State.setEn (s : State) (n : Nat) (x : Enc) : State := { s with enc := tblSet {} s.enc n x }

/-- Whether the inputs of encoder `n` are sensed and count (R544, R552, R554). -/
def State.encOn (s : State) (n : Nat) : Bool := s.ready && s.domOn (56 + n / 4) && s.flag F.CAP_ENC_IN_ENABLE n

/-- Whether beam `b` is paced by encoder `n` (R280). -/
def State.pacedBy (s : State) (n b : Nat) : Bool :=
  s.hasBeam b && s.flag F.BCH_CFG_PACE_SRC b && s.fld F.BCH_CFG_ENC_SEL b = n

/-- p_m of a beam paced by encoder `n`, in 2^-16 nm (R280). -/
def State.encPos (s : State) (n b : Nat) : Int :=
  let v := s.sgn .CAP_ENC_COUNT n * (s.rd .BCH_ENC_SCALE b).toNat
  if s.flag F.BCH_CFG_ENC_SIGN b then -v else v

/-- A counted edge of instant `t` as the measurement of beam `b`, and its copy for the watchdog (R280, R291). -/
def State.encMeasure (n t b : Nat) (s : State) : State :=
  if s.pacedBy n b then
    (s.setBc b { s.bc b with meas := some (s.encPos n b, t), newest := some (s.encPos n b) }).wdWords b (s.sgn .CAP_ENC_COUNT n) 0
  else s

/-- The count of encoder `n` set without firing (R555): the tracking loops it paces are loaded, but for those of a beam in
pause and resume (R284). -/
def State.encLoad (n b : Nat) (s : State) : State :=
  if s.pacedBy n b && !(s.sc b).inPause then
    let p := s.encPos n b
    s.setBc b { s.bc b with meas := none, newest := some p, pHat := p, vHat := 0, tHat := s.fine, hwm := p, lastPos := p, past := false }
  else s

def State.setCount (s : State) (n : Nat) (v : Word) : State :=
  State.eachOf (State.encLoad n) (List.range 12) (s.wr .CAP_ENC_COUNT v n)

/-- New levels of A and B (R553): the step they make, or an illegal transition, and the levels kept. -/
def State.encLevels (s : State) (n : Nat) (a b : Bool) : Option Bool × State :=
  let x := s.en n
  let s1 := s.setEn n ⟨a, b⟩
  if !s.encOn n then (none, s1)
  else
    let ca := x.a != a
    let cb := x.b != b
    if ca && cb then (none, s1.bump .CAP_ENC_CNT_ERR n)
    else if ca then (some ((a != b) != s.flag F.CAP_ENC_IN_DIR n), s1)
    else if cb then (some ((a == b) != s.flag F.CAP_ENC_IN_DIR n), s1)
    else (none, s1)

/-- The count moves by one, at an edge of instant `t`. -/
def State.encStep (s : State) (n t : Nat) (up : Bool) : State :=
  let v := s.rd .CAP_ENC_COUNT n
  let s1 := s.wr .CAP_ENC_COUNT (if up then v + 1 else v - 1) n
  (State.eachOf (State.encMeasure n t) (List.range 12) s1).cmpMove n t up

def State.encEdge (s : State) (n : Nat) (a b : Bool) : State :=
  let r := s.encLevels n a b
  match r.1 with
  | some up => r.2.encStep n s.fine up
  | none => r.2

/-- The filter time of encoder `n` in fine counts (R553, R554): (FILT + 1) × 4 ns. -/
def State.encFilter (s : State) (n : Nat) : Nat := (s.fld F.CAP_ENC_IN_FILT n + 1) * 5

/-- ENCODER_EDGE (R553): the levels of A and B from an instant on, held for `held` fine counts; those that do not hold for the
filter time are no new levels. -/
def execEncoderEdge (n : Fin 16) (dt : Nat) (a b : Bool) (held : Nat) (s : State) : Res :=
  .next (if held < s.encFilter n then s.advance dt else (s.advance dt).encEdge n a b)

/-- Levels that come in the same fabric clock as a Z reset: the reset makes the count 0 (R555). -/
def State.zReset (s : State) (n : Nat) (edge : Option (Bool × Bool)) : State :=
  let s1 := match edge with
    | some e => (s.encLevels n e.1 e.2).2
    | none => s
  s1.setCount n 0

/-- Z_EDGE (R554, R555): a rising edge of Z, held for `held` fine counts. `edge` is an edge of A or B in the same fabric clock; whether CAP_ENC_ZLATCH takes the count before or
after it is a free value. -/
def execZEdge (n : Fin 16) (dt : Nat) (edge : Option (Bool × Bool)) (held : Nat) (s : State) : Res :=
  .next (
    let s := s.advance dt
    let mode := s.fld F.CAP_ENC_IN_Z_MODE n
    let edged (s : State) : State := match edge with
      | some e => s.encEdge n e.1 e.2
      | none => s
    if !s.encOn n || decide (held < s.encFilter n) then edged s
    else if mode = 1 then s.zReset n edge
    else if mode = 2 then
      let r := if edge.isSome then s.freeBits 1 else (0, s)
      let s1 := edged r.2
      s1.wr .CAP_ENC_ZLATCH (if r.1 = 0 then s1.rd .CAP_ENC_COUNT n else s.rd .CAP_ENC_COUNT n) n
    else edged s)

/-- A write of CAP_ENC_COUNT (R554, R555), with a Z reset and an edge of the same fabric clock. -/
def execEncoderCountWrite (who : Requester) (n : Fin 16) (v : Word) (z : Bool) (edge : Option (Bool × Bool)) (s : State) : Res :=
  .next (
    let s1 := s.writeGate who .CAP_ENC_COUNT n (s.setCount n v)
    if z && s.encOn n && s.fld F.CAP_ENC_IN_Z_MODE n = 1 then s1.zReset n edge
    else match edge with
      | some e => s1.encEdge n e.1 e.2
      | none => s1)

/-! ### SSI inputs -/

def State.si (s : State) (a : Nat) : Ssi := tblGet {} s.ssi a
def State.setSi (s : State) (a : Nat) (x : Ssi) : State := { s with ssi := tblSet {} s.ssi a x }

/-- BITS of a configuration (R557). -/
def ssiBits (w : Word) : Nat := max 7 (getBits w 0 5) + 1

/-- RATE of a configuration: the code in force, and that in kHz (R557). -/
def ssiRate (w : Word) : Nat := let r := getBits w 7 4; if 6 ≤ r then 3 else r
def ssiKHz (w : Word) : Nat := [100, 200, 500, 1000, 2000, 4000].getD (ssiRate w) 1000

/-- A Gray code of `n` bits as a number: bit i is the XOR of the code's bits from i up. -/
def grayNat (n v : Nat) : Nat := ((List.range n).map (fun i => if (bitsLsb (n - i) (v >>> i)).foldl (· != ·) false then 2 ^ i else 0)).sum

/-- SSI_READ_START (R556): PERIOD after the last start and no sooner than the monoflop time after the last read. `idle` says that
SSI_DAT is high. -/
def execSsiReadStart (a : Fin 4) (dt : Nat) (idle : Bool) (s : State) : Res :=
  .next (
    let x := s.si a
    if !s.ready || !s.domOn (56 + a) || !s.flag F.CAP_SSI_CFG_ENABLE a || x.run.isSome then s.advance dt
    else
      let period := fineOfUs (atLeast1 (s.fld F.CAP_SSI_CFG_PERIOD a))
      let due := max ((x.startAt.map (· + period)).getD 0) ((x.endAt.map (· + fineOfUs 20)).getD 0)
      let s1 := s.passTo dt due
      let w := s.rd .CAP_SSI_CFG a
      (s1.setSi a { x with run := some (s1.fine, idle), cfg := w, startAt := some s1.fine }).emit
        (.ssiRead a (ssiBits w) (ssiRate w) (s.fld F.CAP_SSI_CFG_DLY a)))

/-- SSI_READ_END (R556): BITS clocks of the bit rate after the start, the bits read, first bit highest, and whether SSI_DAT is low
after the last. -/
def execSsiReadEnd (a : Fin 4) (dt : Nat) (data : BitVec 32) (low : Bool) (s : State) : Res :=
  .next (
    let x := s.si a
    match x.run with
    | none => s.advance dt
    | some r =>
      let n := ssiBits x.cfg
      let s1 := s.passTo dt (r.1 + n * 1250000 / ssiKHz x.cfg)
      let s2 := s1.setSi a { x with run := none, endAt := some s1.fine }
      if r.2 && low then
        let v := data.toNat % 2 ^ n
        s2.wr .CAP_SSI_POS (BitVec.ofNat 32 (if natBit x.cfg.toNat 5 then grayNat n v else v)) a
      else s2.bump .CAP_SSI_CNT_ERR a)

end Sys2Proof.Machine
end

