-- ==== Sys2Proof/Machine/Crypto.lean ====
section
/-!
DEFINITION. The functions the session and image checks name (R493, R496, R497): SHA-256 of FIPS 180-4, HMAC-SHA-256 of
FIPS 198-1 and ECDSA P-256 of FIPS 186-4. The spec names these standards; what they say is theirs (log entry 24).
-/

namespace Sys2Proof.Machine

/-! ### SHA-256 -/

/-- The largest `r + x` with `x` below 2^n whose `k`th power is at most `v`. -/
def rootFrom (k v : Nat) : Nat → Nat → Nat
  | 0, r => r
  | n + 1, r => rootFrom k v n (if (r + 2 ^ n) ^ k ≤ v then r + 2 ^ n else r)

/-- The first 32 bits of the fractional part of the `k`th root of a number below 2^10. -/
def rootFraction (k p : Nat) : Word := BitVec.ofNat 32 (rootFrom k (p * 2 ^ (32 * k)) 37 0)

/-- The primes below `n`, which is at most 19^2. -/
def primesBelow (n : Nat) : List Nat :=
  (List.range n).filter (fun p => decide (2 ≤ p) && (List.range 19).all (fun d => decide (d < 2) || decide (p ≤ d) || p % d != 0))

/-- The 64 round constants: fractions of the cube roots of the first 64 primes. -/
def shaK : List Word := (primesBelow 312).map (rootFraction 3)

/-- The eight words of the initial hash value: fractions of the square roots of the first eight primes. -/
def shaH0 : List Word := (primesBelow 20).map (rootFraction 2)

/-- `n` more words of the message schedule; the list holds the last 16, oldest first, and the answer the new ones. -/
def shaExtend : Nat → List Word → List Word
  | 0, _ => []
  | n + 1, w =>
    let x15 := w.getD 1 0
    let x2 := w.getD 14 0
    let a := x15.rotateRight 7 ^^^ x15.rotateRight 18 ^^^ (x15 >>> 3)
    let b := x2.rotateRight 17 ^^^ x2.rotateRight 19 ^^^ (x2 >>> 10)
    let t := w.getD 0 0 + a + w.getD 9 0 + b
    t :: shaExtend n (w.drop 1 ++ [t])

/-- One round. -/
def shaRound (h : List Word) (kw : Word × Word) : List Word :=
  let a := h.getD 0 0; let b := h.getD 1 0; let c := h.getD 2 0; let d := h.getD 3 0
  let e := h.getD 4 0; let f := h.getD 5 0; let g := h.getD 6 0; let i := h.getD 7 0
  let s1 := e.rotateRight 6 ^^^ e.rotateRight 11 ^^^ e.rotateRight 25
  let t1 := i + s1 + ((e &&& f) ^^^ (~~~e &&& g)) + kw.1 + kw.2
  let s0 := a.rotateRight 2 ^^^ a.rotateRight 13 ^^^ a.rotateRight 22
  let t2 := s0 + ((a &&& b) ^^^ (a &&& c) ^^^ (b &&& c))
  [t1 + t2, a, b, c, d + t1, e, f, g]

/-- The words of bytes, highest byte first. -/
def shaWords : Nat → List Byte → List Word
  | 0, _ => []
  | n + 1, bs => BitVec.ofNat 32 (natBE (bs.take 4)) :: shaWords n (bs.drop 4)

/-- The hash value after one more block of 64 bytes. -/
def shaBlock (h : List Word) (blk : List Byte) : List Word :=
  let w := shaWords 16 blk
  let out := (shaK.zip (w ++ shaExtend 48 w)).foldl shaRound h
  List.zipWith (· + ·) h out

/-- The hash value after `n` more blocks. -/
def shaBlocks : Nat → List Word → List Byte → List Word
  | 0, h, _ => h
  | n + 1, h, bs => shaBlocks n (shaBlock h (bs.take 64)) (bs.drop 64)

/-- SHA-256 of a byte string. -/
def sha256 (bs : List Byte) : List Byte :=
  let padded := bs ++ [0x80] ++ List.replicate ((119 - bs.length % 64) % 64) 0 ++ bytesBE 8 (8 * bs.length)
  (shaBlocks (padded.length / 64) shaH0 padded).flatMap (fun w => bytesBE 4 w.toNat)

/-- HMAC-SHA-256 of a message under a key. -/
def hmac (key msg : List Byte) : List Byte :=
  let k0 := if 64 < key.length then sha256 key else key
  let k := k0 ++ List.replicate (64 - k0.length) 0
  sha256 (k.map (· ^^^ 0x5C) ++ sha256 (k.map (· ^^^ 0x36) ++ msg))

/-! ### ECDSA P-256 -/

/-- The prime of the field, the order of the group, the curve's b and its base point. -/
def p256P : Nat := 0xffffffff00000001000000000000000000000000ffffffffffffffffffffffff
def p256N : Nat := 0xffffffff00000000ffffffffffffffffbce6faada7179e84f3b9cac2fc632551
def p256B : Nat := 0x5ac635d8aa3a93e7b3ebbd55769886bc651d06b0cc53b0f63bce3c3e27d2604b
def p256Gx : Nat := 0x6b17d1f2e12c4247f8bce6e563a440f277037d812deb33a0f4a13945d898c296
def p256Gy : Nat := 0x4fe342e2fe1a7f9b8ee7eb4a7c0f9e162bce33576b315ececbb6406837bf51f5

/-- `x` to the power whose bits are given, highest first, modulo `m`. -/
def powMod (m x : Nat) (bits : List Bool) : Nat :=
  bits.foldl (fun acc b => let q := acc * acc % m; if b then q * x % m else q) 1

/-- The inverse of `x` modulo a prime `m` of 256 bits. -/
def invMod (m x : Nat) : Nat := powMod m (x % m) (bitsHigh 256 (m - 2))
where
  /-- The bits of a number, highest of `n` first. -/
  bitsHigh (n v : Nat) : List Bool := (List.range n).map (fun i => natBit v (n - 1 - i))

/-- A point as Jacobian coordinates; the point at infinity has the third zero. -/
abbrev P256Point := Nat × Nat × Nat

/-- `a - b` modulo the field prime. -/
def fpSub (a b : Nat) : Nat := (a + p256P - b % p256P) % p256P

/-- Twice a point. -/
def p256Double (p : P256Point) : P256Point :=
  let (x, y, z) := p
  let d := z * z % p256P
  let g := y * y % p256P
  let b := x * g % p256P
  let al := 3 * (fpSub x d) * ((x + d) % p256P) % p256P
  let x3 := fpSub (al * al) (8 * b)
  let z3 := fpSub (fpSub ((y + z) * (y + z)) g) d
  (x3, fpSub (al * fpSub (4 * b) x3) (8 * g * g), z3)

/-- The sum of two points. -/
def p256Add (p q : P256Point) : P256Point :=
  let (x1, y1, z1) := p
  let (x2, y2, z2) := q
  if z1 = 0 then q
  else if z2 = 0 then p
  else
    let zz1 := z1 * z1 % p256P
    let zz2 := z2 * z2 % p256P
    let u1 := x1 * zz2 % p256P
    let u2 := x2 * zz1 % p256P
    let s1 := y1 * z2 * zz2 % p256P
    let s2 := y2 * z1 * zz1 % p256P
    let h := fpSub u2 u1
    let r := fpSub s2 s1
    if h = 0 then (if r = 0 then p256Double p else (1, 1, 0))
    else
      let hh := h * h % p256P
      let hhh := h * hh % p256P
      let v := u1 * hh % p256P
      let x3 := fpSub (fpSub (r * r) hhh) (2 * v)
      (x3, fpSub (r * fpSub v x3) (s1 * hhh), h * z1 * z2 % p256P)

/-- A multiple of a point. -/
def p256Mul (k : Nat) (p : P256Point) : P256Point :=
  (invMod.bitsHigh 256 k).foldl (fun acc b => let d := p256Double acc; if b then p256Add d p else d) (1, 1, 0)

/-- Whether a pair of numbers is a point of the curve. -/
def p256OnCurve (x y : Nat) : Bool :=
  decide (x < p256P) && decide (y < p256P) &&
    y * y % p256P == (x * x * x + (p256P - 3) * x + p256B) % p256P

/-- Whether a signature verifies (R493): `r` and `s` lie in 1 to n − 1 and the key lies on the curve. -/
def ecdsaVerify (pub sig msg : List Byte) : Bool :=
  let x := natBE (pub.take 32)
  let y := natBE ((pub.drop 32).take 32)
  let r := natBE (sig.take 32)
  let t := natBE ((sig.drop 32).take 32)
  if r = 0 || p256N ≤ r || t = 0 || p256N ≤ t || !p256OnCurve x y then false
  else
    let e := natBE (sha256 msg)
    let w := invMod p256N t
    let (px, _, pz) := p256Add (p256Mul (e * w % p256N) (p256Gx, p256Gy, 1)) (p256Mul (r * w % p256N) (x, y, 1))
    if pz = 0 then false
    else
      let zi := invMod p256P pz
      px * zi % p256P * zi % p256P % p256N == r

end Sys2Proof.Machine
end

