-- ==== Sys2Proof/Machine/Image.lean ====
section
/-!
DEFINITION. The Draok image in a flash device (R485, R488, R492 to R495, R573): its header, its sections, every check of
steps 5 to 9 of R489, and what a section writes.
-/

namespace Sys2Proof.Machine

/-! ### Flash contents -/

/-- A byte of flash device `dev`; one never programmed reads 0xFF. -/
def State.flashByte (s : State) (dev a : Nat) : Byte := tblGet 0xFF s.boot.flash (dev * 2 ^ 32 + a)

def State.flashBytes (s : State) (dev a n : Nat) : List Byte := (List.range n).map (fun i => s.flashByte dev (a + i))

/-- Bytes held in flash as they stand in `data`. -/
def State.flashPut (s : State) (dev a : Nat) (data : List Byte) : State :=
  { s with boot := { s.boot with flash := tblSetList 0xFF s.boot.flash (dev * 2 ^ 32 + a) data } }

def State.flashUsed (s : State) (dev : Nat) : Bool := s.flag F.BOOT_FLASH_INFO_USED dev

/-- The density of a device in bytes. -/
def State.flashSize (s : State) (dev : Nat) : Nat := 2 ^ s.fld F.BOOT_FLASH_INFO_LOG2 dev

def State.flashErr (s : State) (dev : Nat) : Bool := tblGet false s.boot.readErr dev

/-! ### Result codes (R509) -/

def resOk : Nat := 0
def resNoDevice : Nat := 1
def resBadHeader : Nat := 2
def resKey : Nat := 3
def resSignature : Nat := 4
def resRollback : Nat := 5
def resVariant : Nat := 6
def resBadSection : Nat := 7
def resAbsentUnit : Nat := 8
def resLayoutCheck : Nat := 9
def resSectionHash : Nat := 10
def resReadError : Nat := 11
def resActiveProtect : Nat := 12
def resLayoutDiff : Nat := 13
def resRefused : Nat := 14

/-! ### The header (R492, R493) -/

/-- The first 256 bytes of a device. -/
def State.imgHead (s : State) (dev : Nat) : List Byte := s.flashBytes dev 0 256

def hdrSeq (h : List Byte) : Nat := fieldLE h 0x00C 4
def hdrSvn (h : List Byte) : Nat := fieldLE h 0x010 4
def hdrLen (h : List Byte) : Nat := fieldLE h 0x008 4
def hdrCount (h : List Byte) : Nat := fieldLE h 0x006 2

/-- STAGE_MARK: 1 VERIFIED, 2 RETIRED, else 0. -/
def hdrMark (h : List Byte) : Nat :=
  if fieldLE h 0x018 4 = 0x0000FFFF then 1 else if fieldLE h 0x018 4 = 0 then 2 else 0

def hdrKnown (h : List Byte) : Bool := fieldLE h 0 4 == 0x4B415244 && fieldLE h 4 2 == 1

def allZero (bs : List Byte) : Bool := bs.all (· == 0)

/-- Whether a header keeps R492 on a device of `size` bytes. -/
def hdrOk (h : List Byte) (size : Nat) : Bool :=
  hdrKnown h && decide (1 ≤ hdrCount h) && decide (hdrCount h ≤ 60) && hdrLen h % 4096 == 0 && decide (hdrLen h ≤ size)
    && decide (1 ≤ hdrSeq h) && decide (hdrSeq h ≤ 0xFFFFFFFE) && decide (fieldLE h 0x014 1 < 16)
    && allZero (takeAt h 0x015 3) && allZero (takeAt h 0x01C 4) && allZero (takeAt h 0x0C0 64)

/-- The signed message (R493). -/
def hdrMessage (h : List Byte) : List Byte :=
  putAt (putAt h 0x018 (List.replicate 4 0)) 0x060 (List.replicate 64 0)

def Variant.bit : Variant → Nat
  | .sx1664 => 0
  | .sx1664v => 1
  | .sx1632 => 2
  | .sx1632v => 3

/-! ### The section table (R494, R495) -/

/-- An entry of the section table. -/
structure SecEntry where
  kind : Nat
  inst : Nat
  off : Nat
  len : Nat
  dest : Nat
  hash : List Byte
  zeros : Bool
  deriving DecidableEq, Repr

def State.secEntry (s : State) (dev k : Nat) : SecEntry :=
  let e := s.flashBytes dev (0x100 + 64 * k) 64
  ⟨fieldLE e 0 2, fieldLE e 3 1, fieldLE e 4 4, fieldLE e 8 4, fieldLE e 12 4, takeAt e 0x20 32,
   allZero (takeAt e 2 1) && allZero (takeAt e 0x10 16)⟩

def State.secTable (s : State) (dev : Nat) : List SecEntry :=
  (List.range (hdrCount (s.imgHead dev))).map (s.secEntry dev)

def secLayout : Nat := 0x0001
def secSettings : Nat := 0x0002
def secStore : Nat := 0x0060

/-- Whether a length is within the limit for its kind. -/
def secLenOk (kind len : Nat) : Bool :=
  match kind with
  | 0x0001 | 0x0002 => len % 8 == 0
  | 0x0010 => decide (len ≤ 32768)
  | 0x0011 | 0x0021 => decide (len ≤ 16384)
  | 0x0020 => decide (len ≤ 8388608)
  | 0x0030 => len == 8192
  | 0x0031 => len == 50700
  | 0x0032 => len == 2048
  | 0x0040 => decide (len ≤ 4096)
  | 0x0041 => len == 12288
  | 0x0050 => len == 8320
  | 0x0060 => true
  | _ => false

/-- Whether an entry keeps R494 and R495 in an image of `size` bytes. -/
def SecEntry.ok (e : SecEntry) (size : Nat) : Bool :=
  e.zeros && secLenOk e.kind e.len && e.off % 4096 == 0 && decide (0x1000 ≤ e.off) && decide (e.off + e.len ≤ size)
    && (match e.kind with
      | 0x0001 => e.inst == 0xFF && e.dest == 0
      | 0x0041 => decide (e.dest < 16)
      | 0x0060 => true
      | _ => e.dest == 0)

/-- Whether no two of the entries overlap, and exactly one is LAYOUT (R492, R495). -/
def secTableOk (l : List SecEntry) : Bool :=
  (l.filter (fun e => e.kind == secLayout)).length == 1
    && (List.range l.length).all (fun i => (List.range i).all (fun j =>
      let a := l.getD i ⟨0, 0, 0, 0, 0, [], true⟩
      let b := l.getD j ⟨0, 0, 0, 0, 0, [], true⟩
      decide (a.off + a.len ≤ b.off) || decide (b.off + b.len ≤ a.off)))

/-- The unit that a kind of section belongs to by instance. -/
def secUnit (kind : Nat) : Option Nat :=
  match kind with
  | 0x0010 | 0x0011 => some 3
  | 0x0030 => some 5
  | 0x0031 | 0x0032 => some 6
  | _ => none

/-- The instances a section is for (R494). -/
def secInsts (v : Variant) (kind inst : Nat) : List Nat :=
  match secUnit kind with
  | none => []
  | some u => if inst = 0xFF then (List.range 16).filter (unitPresent v u) else [inst]

/-- Whether a section is for an absent unit or instance (R8, R495). -/
def secAbsent (v : Variant) (kind inst : Nat) : Bool :=
  match secUnit kind with
  | none => false
  | some u => (secInsts v kind inst).isEmpty || (secInsts v kind inst).any (fun i => !unitPresent v u i)

/-! ### Pairs of an offset and a value (R495) -/

/-- The pairs of a section. -/
def secPairs (bs : List Byte) : List (Nat × Word) :=
  (List.range (bs.length / 8)).map (fun i => (fieldLE bs (8 * i) 4, BitVec.ofNat 32 (fieldLE bs (8 * i + 4) 4)))

/-- The bits of a register that read "From image" (R573). -/
def imageBits (r : Reg) : Word :=
  match r with
  | .FST_LOAD_CFG => 0x3FFF
  | .FST_BUILD_BASE | .FST_BUILD_BANDS | .FST_MP_LOG_BANDS | .FST_MP_TEST_BANDS | .FST_RES_BASE | .FST_RES_BANDS
  | .FST_RING_BASE | .FST_RING_IDX_BANDS | .FST_RING_DATA_BANDS => 0x3FFFFFF
  | .HAL_ATTR => 0x7F
  | .HAL_GROUP_INIT => 0xFFFF
  | .HAL_SEQ_CFG => 0x37FF
  | .QUE_CFG => 0xFFFFF
  | .PWR_DOM_POLICY => 0x1F
  | _ => 0

/-- The bits of a register that a SETTINGS pair sets; the primary input of trigger selectors and strobe causes is not among
them (R380). -/
def settingBits (r : Reg) (i : Nat) : Word :=
  if r = .HAL_SUB && taskUnitPrimary i then r.info.rw &&& ~~~(0x1FF : Word) else r.info.rw

/-- What is wrong with a pair: a result code, 0 for nothing. -/
def pairResult (v : Variant) (layout : Bool) (p : Nat × Word) : Nat :=
  if p.1 % 4 ≠ 0 then resBadSection
  else match regAt p.1 with
    | none => resBadSection
    | some (r, i, _) =>
      if (if layout then imageBits r else r.info.rw) = 0 then resBadSection
      else if layout && r = .PWR_DOM_POLICY && getBits p.2 3 2 = 3 then resBadSection
      else if !regPresent v r i then resAbsentUnit
      else resOk

/-- One pair written. -/
def State.putPair (s : State) (layout : Bool) (p : Nat × Word) : State :=
  match regAt p.1 with
  | none => s
  | some (r, i, j) =>
    let m := if layout then imageBits r else settingBits r i
    s.wr r ((s.rd r i j &&& ~~~m) ||| (p.2 &&& m)) i j

def State.putPairs (layout : Bool) : List (Nat × Word) → State → State
  | [], s => s
  | p :: rest, s => State.putPairs layout rest (s.putPair layout p)

/-! ### What a section writes -/

/-- Words written to a BAR0 memory from a byte address, where it has words there. -/
def State.memPut (a : Nat) : List Word → State → State
  | [], s => s
  | v :: rest, s =>
    let s1 := match memAt true a with
      | some w => s.memWr w.addr (v &&& w.mask)
      | none => s
    State.memPut (a + 4) rest s1

/-- The words of bytes, zero past their end, `n` of them. -/
def wordsAt (bs : List Byte) (n : Nat) : List Word := (List.range n).map (fun i => BitVec.ofNat 32 (fieldLE bs (4 * i) 4))

/-- Whether a profile table of 257 values is non-decreasing (R273). -/
def tableRises (w : List Word) : Bool :=
  let t (i : Nat) : Nat := getBits (w.getD (i / 2) 0) (16 * (i % 2)) 16
  (List.range 256).all (fun i => decide (t i ≤ t (i + 1)))

/-- A profile table of beam `n` loaded, or refused with PROF_ERR (R273). -/
def State.putProfile (n : Nat) (bs : List Byte) (p : Nat) (s : State) : State :=
  let w := wordsAt (takeAt bs (0x400 * p) 0x400) 129
  if tableRises w then State.memPut (0x220000 + 0x2000 * n + 0x400 * p) w s else (s.setFld F.BCH_FAULT_PROF_ERR 1 n).notice 5 n 7 0

/-- The program and constants of a mast: at once in LOAD, through a reload at a commit point (R222). -/
def State.putMast (live : Bool) (prog consts : Option (List Byte)) (m : Nat) (s : State) : State :=
  let x := s.ms m
  if !live then s.setMs m { x with prog := prog.getD x.prog, consts := consts.getD x.consts }
  else
    let old := x.reload.getD (s.fine, none, none)
    s.setMs m { x with reload := some (old.1, prog.orElse (fun _ => old.2.1), consts.orElse (fun _ => old.2.2)) }

/-- For each of a list of instances. -/
def State.eachInst (k : Nat → State → State) : List Nat → State → State
  | [], s => s
  | n :: rest, s => State.eachInst k rest (k n s)

/-- A section takes effect (R495); `live` at the commit point of a live switch. -/
def State.putSection (live : Bool) (c : Section) (s : State) : State :=
  let each (k : Nat → State → State) : State := State.eachInst k (secInsts s.variant c.kind c.inst) s
  match c.kind with
  | 0x0001 => State.putPairs true (secPairs c.bytes) s
  | 0x0002 => State.putPairs false (secPairs c.bytes) s
  | 0x0010 => each (State.putMast live (some c.bytes) none)
  | 0x0011 => each (State.putMast live none (some c.bytes))
  | 0x0020 => { s with boot := { s.boot with helmProg := c.bytes } }
  | 0x0021 => { s with boot := { s.boot with laneScript := c.bytes } }
  | 0x0030 => each (fun n s => State.eachInst (State.putProfile n c.bytes) (List.range 8) s)
  | 0x0031 => each (fun n s => State.memPut (gridBase + 0x10000 * n) (wordsAt c.bytes 12675) s)
  | 0x0032 => each (fun n s => State.memPut (0x410000 + 0x800 * n) (wordsAt c.bytes 512) s)
  | 0x0040 => State.memPut 0x160000 (wordsAt c.bytes 1024) s
  | 0x0041 => State.memPut (0x120000 + 0x4000 * c.dest) (wordsAt c.bytes 3072) s
  | 0x0050 =>
    let s1 := State.memPut 0x74000 (wordsAt c.bytes 2048) s
    State.eachInst (fun q s => s.wr .HAL_SEQ_CFG ((BitVec.ofNat 32 (fieldLE c.bytes (8192 + 4 * q) 4)) &&& imageBits .HAL_SEQ_CFG) q)
      (List.range 32) s1
  | 0x0060 => if live then s else State.regionWr (s.bands .FST_BUILD_BASE + c.dest) s.fst.loadSet 0 c.bytes s
  | _ => s

def State.putSections (live : Bool) : List Section → State → State
  | [], s => s
  | c :: rest, s => State.putSections live rest (s.putSection live c)

/-- The defaults of R573. -/
def State.imageDefaults (s : State) : State :=
  let s1 := State.eachInst (fun k s => s.wr .PWR_DOM_POLICY 0x08 k) (List.range 80) s
  (s1.wr .HAL_GROUP_INIT 0xFFFF).wr .FST_LOAD_CFG 3

/-! ### The channels of the store (R136 to R141, R170, R409) -/

/-- Whether the SPD of the module of channel `c` can be read: its pins are strapped to c mod 6, it answers, and its base section
keeps its CRC (R137). -/
def spdRead (c : Nat) (d : Dimm) : Bool := d.gib != 0 && d.strap.toNat = c % 6 && d.answers && d.crcOk

/-- Whether a module's SPD data meet R136. -/
def spdMeets (c : Nat) (d : Dimm) : Bool :=
  spdRead c d && d.ecc72 && d.devWidth = 4 && (d.density = 8 || d.density = 16) && !d.stacked
    && (d.gib = 16 || d.gib = 32 || d.gib = 64 || d.gib = 128)
    && (match d.kind with
      | .rdimm => d.ranks = 0 || d.ranks = 1
      | .lrdimm => d.ranks = 1 || d.ranks = 3
      | .other => false)

/-- The state channel `c` is in after training. -/
def dimmState (c : Nat) (d : Dimm) (excluded : Bool) : Nat :=
  if d.gib = 0 then chAbsent else if !spdMeets c d || !d.trains then chFailed else if excluded then chExcluded else chActive

/-- The slots of the present channels. -/
def State.slots (s : State) : List (Nat × Dimm) :=
  (List.range s.variant.channels).map (fun c =>
    (c, s.boot.dimms.getD c ⟨0, 0, 0, .other, false, 0, 0, false, 0, false, false, false⟩))

/-- The reads of SPD bytes `first` to `first + count - 1` of page `page` of every channel (R137). -/
def State.spdReads (s : State) (page first count : Nat) : State :=
  (List.range s.variant.channels).foldl (fun s c => s.emit (.spdRead (c / 6) (0x50 + c % 6) page first count)) s

/-- The slots in use under an EXCLUDE_MASK. -/
def State.slotsUsed (s : State) (exclude : Nat) : List (Nat × Dimm) :=
  s.slots.filter (fun x => dimmState x.1 x.2 (natBit exclude x.1) == chActive)

/-- The smallest of a list. -/
def listMin : List Nat → Nat
  | [] => 0
  | x :: rest => rest.foldl min x

/-- Log2 of the bytes of BAR2, 0 where it is not implemented (R409). -/
def State.bar2Size (s : State) : Nat :=
  let caps := (s.slots.filter (fun x => spdMeets x.1 x.2)).map (fun x => x.2.gib)
  if caps.isEmpty then 0 else Nat.clog 2 (s.stride * (listMin caps * 2 ^ 18))

/-- Bands per channel (R140, R141, R409). -/
def State.storeBands (s : State) (exclude : Nat) : Nat :=
  min (2 ^ s.bar2Size / s.stride) (listMin ((s.slotsUsed exclude).map (fun x => x.2.gib)) * 2 ^ 18)

/-! ### The refusal checks of step 6 (R144, R185, R390, R452) -/

/-- The regions that exist, as first band and count (R144). -/
def State.regionList (s : State) (bands : Nat) : List (Nat × Nat) :=
  let n (r : Reg) (i : Nat) : Nat := (s.rd r i).toNat
  let rings := ((List.range 16).filter (fun r => n .FST_RING_DATA_BANDS r != 0)).flatMap (fun r =>
    [(n .FST_RING_BASE r, n .FST_RING_IDX_BANDS r), (n .FST_RING_BASE r + n .FST_RING_IDX_BANDS r, n .FST_RING_DATA_BANDS r)])
  let one (b c : Nat) : List (Nat × Nat) := if c = 0 then [] else [(b, c)]
  let melt := n .FST_MP_LOG_BANDS 0 + n .FST_MP_TEST_BANDS 0
  rings ++ one (n .FST_BUILD_BASE 0) (n .FST_BUILD_BANDS 0) ++ one (n .FST_RES_BASE 0) (n .FST_RES_BANDS 0)
    ++ (if melt = 0 then [] else if bands < melt then [(0, bands + 1)] else [(bands - melt, melt)])

/-- Ranges of which no two overlap, none is empty, and none passes `top`. -/
def rangesOk (top : Nat) : List (Nat × Nat) → Bool
  | [] => true
  | a :: rest => a.2 != 0 && decide (a.1 + a.2 ≤ top) && rest.all (fun b => !areasMeet a b) && rangesOk top rest

/-- The queue memory of the queues that exist (R452). -/
def State.queueRanges (s : State) : List (Nat × Nat) :=
  ((List.range 64).filter (fun q => s.fld F.QUE_CFG_K q != 0)).map (fun q => (s.fld F.QUE_CFG_BASE q, 8 * 2 ^ s.fld F.QUE_CFG_K q))

/-- The words of a sequence that can issue, by following its instructions (R396). -/
def State.seqWords (s : State) : Nat → List Nat → List Nat → List Nat
  | 0, _, seen => seen
  | _ + 1, [], seen => seen
  | fuel + 1, pc :: todo, seen =>
    if 2048 ≤ pc || seen.contains pc then s.seqWords fuel todo seen
    else
      let w := s.memRd (0x74000 + 4 * pc)
      let next := match getBits w 28 4 with
        | 0 => []
        | 6 => [pc + 1, pc + 1 + getBits w 16 10]
        | 7 => [getBits w 0 11]
        | op => if op < 8 then [pc + 1] else []
      s.seqWords fuel (next ++ todo) (pc :: seen)

/-- Whether the owner of a sequence owns halyard `h` (R389, R390). -/
def State.seqOwns (s : State) (q h : Nat) : Bool :=
  let o := s.fld F.HAL_SEQ_CFG_OWNER q
  let a := s.fld F.HAL_ATTR_OWNER h
  a != 3 && (a == o || (o == 2 && a == 1))

/-- Whether each sequence publishes only on halyards its owner owns (R390). -/
def State.seqsOk (s : State) : Bool :=
  (List.range 32).all (fun q => (s.seqWords 6200 [s.fld F.HAL_SEQ_CFG_ENTRY q] []).all (fun pc =>
    let w := s.memRd (0x74000 + 4 * pc)
    getBits w 28 4 != 1 || s.seqOwns q (getBits w 0 8)))

/-- The checks of R144, R185, R390 and R452 on a state that an image has been written into. -/
def State.layoutOk (s : State) : Bool :=
  rangesOk (s.storeBands (s.fld F.FST_LOAD_CFG_EXCLUDE_MASK)) (s.regionList (s.storeBands (s.fld F.FST_LOAD_CFG_EXCLUDE_MASK)))
    && (List.range s.variant.masts).all (fun m => (List.range 8).all (fun k =>
      !s.flag F.MST_STREAM_CFG_ENABLE m k || !s.shmOverlap m k (s.slotTiles m k)))
    && (List.range 64).all (fun q => s.fld F.QUE_CFG_K q == 0 || (decide (4 ≤ s.fld F.QUE_CFG_K q) && decide (s.fld F.QUE_CFG_K q ≤ 14)))
    && rangesOk 65536 s.queueRanges
    && s.seqsOk

/-! ### The whole check (R489 steps 4 to 9, R493, R506) -/

/-- A section as read. -/
def State.readSection (s : State) (dev : Nat) (e : SecEntry) : Section :=
  ⟨e.kind, e.inst, e.dest, s.flashBytes dev e.off e.len⟩

/-- The first result code that is not OK. -/
def firstBad : List Nat → Nat
  | [] => resOk
  | r :: rest => if r = resOk then firstBad rest else r

/-- What steps 8 and 9 find wrong with a section: its hash, its pairs, or a range beyond the build store. -/
def State.secResult (s : State) (t : State) (dev : Nat) (e : SecEntry) : Nat :=
  let c := s.readSection dev e
  if sha256 c.bytes ≠ e.hash then resSectionHash
  else if e.kind = secSettings then firstBad ((secPairs c.bytes).map (pairResult s.variant false))
  else if e.kind = secStore &&
      t.bands .FST_BUILD_BANDS < e.dest + (e.len + 4096 * chanCount t.fst.loadSet - 1) / (4096 * max 1 (chanCount t.fst.loadSet)) then
    resBadSection
  else resOk

/-- The state that checks of step 6 look at: the registers of a reset machine with the image written into them. -/
def State.trial (s : State) (secs : List Section) : State :=
  let t : State := { State.reset with variant := s.variant, fuse := s.fuse, boot := { State.reset.boot with dimms := s.boot.dimms } }
  let t1 := State.putSections true secs t.imageDefaults
  { t1 with fst := { t1.fst with
    loadSet := chanMask (fun c => (s.slotsUsed (t1.fld F.FST_LOAD_CFG_EXCLUDE_MASK)).any (fun x => x.1 == c)) } }

/-- The check of an image: its result, and the image when it is OK. `tableCode` is the result of a wrong table hash, which
the spec does not name: one of BAD_HEADER and SECTION_HASH (log entry 26). -/
def State.checkImage (s : State) (dev tableCode : Nat) : Nat × Option Switch :=
  let h := s.imgHead dev
  let tab := s.secTable dev
  if !s.flashUsed dev then (resNoDevice, none)
  else if s.flashErr dev then (resReadError, none)
  else if !hdrOk h (s.flashSize dev) then (resBadHeader, none)
  else if (match s.fuse.keyHash with
      | some k => decide (sha256 (takeAt h 0x020 64) ≠ k)
      | none => false) then (resKey, none)
  else if !ecdsaVerify (takeAt h 0x020 64) (takeAt h 0x060 64) (hdrMessage h) then (resSignature, none)
  else if sha256 (s.flashBytes dev 0x100 (64 * hdrCount h)) ≠ takeAt h 0x0A0 32 then (tableCode, none)
  else if hdrSvn h < s.fuse.minSvn then (resRollback, none)
  else if !natBit (fieldLE h 0x014 1) s.variant.bit then (resVariant, none)
  else
    let bad := firstBad (tab.map (fun e =>
      if !e.ok (hdrLen h) then resBadSection else if secAbsent s.variant e.kind e.inst then resAbsentUnit else resOk))
    if bad ≠ resOk then (bad, none)
    else if !secTableOk tab then (resBadSection, none)
    else
      let secs := tab.map (s.readSection dev)
      match tab.find? (fun e => e.kind == secLayout) with
      | none => (resBadSection, none)
      | some le =>
        let lay := s.readSection dev le
        let bad6 := if sha256 lay.bytes ≠ le.hash then resSectionHash
          else firstBad ((secPairs lay.bytes).map (pairResult s.variant true))
        let t := s.trial secs
        if bad6 ≠ resOk then (bad6, none)
        else if !t.layoutOk then (resLayoutCheck, none)
        else
          let bad8 := firstBad (tab.map (s.secResult t dev))
          if bad8 ≠ resOk then (bad8, none) else (resOk, some ⟨dev, hdrSeq h, lay.bytes, secs⟩)

/-- The result that a wrong table hash has: one of two, freely (log entry 26). -/
def State.tableCode (s : State) : Nat × State :=
  let (b, s1) := s.freeBits 1
  (if b = 0 then resBadHeader else resSectionHash, s1)

end Sys2Proof.Machine
end

