-- ==== Sys2Proof/Machine/Lanes.lean ====
section
/-!
DEFINITION. The commands of the Plovlink lanes: bring-up (R54 to R58), rows and skip blocks (R47 to R53, R73 to R79), training
(R60 to R62), ports and low power (R64 to R70, R82), lane registers with rows of their own (R84 to R95).
-/

namespace Sys2Proof.Machine

/-- Whether lane `n` is present and the lanes run. -/
def State.laneRuns (s : State) (n : Nat) : Bool := s.hasLane n && s.ready

/-- Whether a lane is in bring-up after lock: ALIGN, TRAIN or DESKEW. -/
def State.locked (s : State) (n : Nat) : Bool := decide (lsAlign ≤ s.lstate n) && decide (s.lstate n ≤ lsDeskew)

/-- Whether a lane can be lost: UP or SHADOW. -/
def State.losable (s : State) (n : Nat) : Bool := s.lstate n = lsUp || s.lstate n = lsShadow

/-! ### Bring-up (R54 to R56) -/

/-- SIGNAL_DETECT_QUALIFIED (R54, R70): the receiver of a DISABLED lane is ignored (R43). -/
def execSignalDetectQualified (n : Fin 64) (s : State) : Res :=
  .next (
    if !s.laneRuns n || s.lstate n = lsDisabled then s
    else
      let s1 := s.setFld F.LNK_STATUS_SIG_DET 1 n
      if s.lstate n = lsSignal then s1.setLstate n lsCdr
      else if s.lstate n = lsDeep && (s.ln n).exit = 2 then (s1.setLn n { s1.ln n with exit := 0 }).setLstate n lsCdr
      else s1)

/-- SIGNAL_LOST (R54, R80): no fault of a lane in DOZE (R67). -/
def execSignalLost (n : Fin 64) (s : State) : Res :=
  .next (
    if !s.laneRuns n then s
    else
      let s1 := s.setFld F.LNK_STATUS_SIG_DET 0 n
      if s1.losable n then s1.laneLost n
      else if lsCdr ≤ s1.lstate n && s1.lstate n ≤ lsDeskew then s1.laneBack n lsSignal true
      else s1)

/-- CDR_LOCKED (R54); of a lane in TEST, only LNK_STATUS shows it (R88). -/
def execCdrLocked (n : Fin 64) (s : State) : Res :=
  .next (
    if !s.laneRuns n then s
    else if s.lstate n = lsCdr then (s.setFld F.LNK_STATUS_CDR_LOCK 1 n).setLstate n lsHunt
    else if s.lstate n = lsTest then s.setFld F.LNK_STATUS_CDR_LOCK 1 n
    else s)

/-- A limit of lane `n` on its stay in state `st`, `len` fine counts: `k` where the lane is in it, once it has passed. -/
def State.laneLimit (s : State) (n st dt len : Nat) (k : State → State) : State :=
  if s.laneRuns n && s.lstate n = st then k (s.passTo dt ((s.ln n).since + len)) else s.advance dt

/-- CDR_LOCK_TIMEOUT (R54): 100 µs in CDR_LOCK. -/
def execCdrLockTimeout (n : Fin 64) (dt : Nat) (s : State) : Res :=
  .next (s.laneLimit n lsCdr dt (fineOfUs 100) (fun s =>
    if (s.ln n).dozeFail then s.laneLost n else (s.laneBack n lsSignal true).bump .LNK_CNT_LOCK_LOSS n))

/-- BLOCK_LOCK (R55). -/
def execBlockLock (n : Fin 64) (s : State) : Res :=
  .next (if s.laneRuns n && s.lstate n = lsHunt then (s.setFld F.LNK_STATUS_BLOCK_LOCK 1 n).setLstate n lsAlign else s)

/-- HUNT_TIMEOUT (R54): 2.0 µs in HUNT. -/
def execHuntTimeout (n : Fin 64) (dt : Nat) (s : State) : Res :=
  .next (s.laneLimit n lsHunt dt (fineOfUs 2) (fun s => s.laneBack n lsCdr true))

/-- LOCK_LOSS (R56, R80). -/
def execLockLoss (n : Fin 64) (s : State) : Res :=
  .next (
    if !s.laneRuns n then s
    else if s.losable n then s.laneLost n
    else if s.locked n then s.laneBack n lsSignal true
    else s)

/-- CDR_LOCK_LOST (R80); of a lane in TEST, only LNK_STATUS shows it (R88). -/
def execCdrLockLost (n : Fin 64) (s : State) : Res :=
  .next (
    if !s.laneRuns n then s
    else if s.losable n then s.laneLost n
    else if s.lstate n = lsTest then s.setFld F.LNK_STATUS_CDR_LOCK 0 n
    else s)

/-- Training fails (R61, R62): the lane goes to FAILED, and a receiver that gives up by itself sends ABORT. -/
def State.trainFail (s : State) (n : Nat) (abort : Bool) : State :=
  let s0 := if abort then s.sendTraining n 4 0 0 0 0 else s
  let s1 := s0.setFld F.LNK_STATUS_TRAIN_FAIL 1 n
  if (s1.ln n).dozeFail then s1.laneLost n else s1.laneRestart n false lsFailed

/-- TRAIN_TIMEOUT (R62): LNK_TRAIN.TIMEOUT in TRAIN, in units of 100 µs, 0 being treated as 1 (R91). -/
def execTrainTimeout (n : Fin 64) (dt : Nat) (s : State) : Res :=
  .next (s.laneLimit n lsTrain dt (fineOfUs (100 * atLeast1 (s.fld F.LNK_TRAIN_TIMEOUT n))) (fun s => s.trainFail n true))

/-- FAILED_TIMEOUT (R54, R79): 10 ms in FAILED, bring-up starts again, with a new series of re-admission attempts. -/
def execFailedTimeout (n : Fin 64) (dt : Nat) (s : State) : Res :=
  .next (s.laneLimit n lsFailed dt (fineOfUs 10000) (fun s =>
    (s.setLn n { s.ln n with tries := 0 }).laneRestart n (s.ln n).stored lsSignal))

/-! ### Training (R60 to R62) -/

/-- Whether the adaptive script trains the lane (R62). -/
def State.adaptive (s : State) (n : Nat) : Bool := s.fld F.LNK_TRAIN_MODE n = 0 || s.fld F.LNK_TRAIN_MODE n = 3

/-- A lane enters TRAIN (R54, R62). -/
def State.trainStart (s : State) (n : Nat) : State :=
  let x := s.ln n
  let s1 := (s.setLn n { x with req := none, rdyTx := false, rdyRx := false, measured := 0, best := 0, margin := 0,
                                undo := none }).setLstate n lsTrain
  if s1.adaptive n then s1.request n reqPreset 0
  else if s1.fld F.LNK_TRAIN_MODE n = 1 then s1.request n reqPreset (s1.fld F.LNK_TRAIN_PRESET n)
  else s1.sendReady n

/-- TRAIN ends when READY has been sent and received (R62). -/
def State.trainCheck (s : State) (n : Nat) : State :=
  if s.lstate n = lsTrain && (s.ln n).rdyTx && (s.ln n).rdyRx then s.enterDeskew n else s

/-- The next step of the stock script: a step of C_PRE or C_POST, which one is a free value (R62). -/
def State.nextStep (s : State) (n : Nat) : State :=
  let r := s.freeBits 2
  let k := r.1.toNat
  (r.2.setLn n { r.2.ln n with undo := some k }).request n (reqStep k) 0

/-- What the script does once its request has been answered. -/
def State.answered (s : State) (n : Nat) : State :=
  let x := s.ln n
  if !s.adaptive n then (s.sendReady n).trainCheck n
  else if x.measured < 8 || x.undo.isSome then s
  else if x.measured = 8 then s.nextStep n
  else (s.sendReady n).trainCheck n

/-- EYE_MEASUREMENT (R62): the script takes its next setting, the best preset, a further step, or the end. -/
def execEyeMeasurement (n : Fin 64) (margin : Nat) (s : State) : Res :=
  .next (
    let x := s.ln n
    if !s.laneRuns n || s.lstate n != lsTrain || !s.adaptive n || x.req.isSome || x.rdyTx then s
    else if x.measured < 8 then
      let better := x.measured = 0 || x.margin < margin
      let x1 := { x with measured := x.measured + 1, best := if better then x.measured else x.best,
                         margin := if better then margin else x.margin }
      let s1 := s.setLn n x1
      if x1.measured < 8 then s1.request n reqPreset x1.measured else s1.request n reqPreset x1.best
    else match x.undo with
      | none => s
      | some k =>
        let s1 := s.setLn n { x with measured := x.measured + 1, margin := max x.margin margin, undo := none }
        if x.margin < margin then (if x.measured + 1 < 40 then s1.nextStep n else (s1.sendReady n).trainCheck n)
        else s1.request n (reqStep (backStep k)) 0)

/-- A STATUS that answers the outstanding request of a lane in TRAIN (R61): invalid headers are ignored for the next 1.0 µs. -/
def State.trainStatus (s : State) (n seq : Nat) : State :=
  match (s.ln n).req with
  | some q =>
    if q.seq = seq && s.lstate n = lsTrain then
      (s.setLn n { s.ln n with req := none, quietTill := s.fine + fineOfUs 1 }).answered n
    else s
  | none => s

/-- A training block of lane `n` (R60, R61). FAR_PRE, FAR_POST and FAR_MAIN are those of the last STATUS or READY (R92). -/
def State.training (s : State) (n : Nat) (blk : LineBlock) : State :=
  if !s.laneRuns n || !s.flag F.LNK_STATUS_BLOCK_LOCK n then s
  else
    let r := s.rxBlock n blk
    let b := r.1.ctl
    let s1 := r.2
    let far (s : State) : State := ((s.setFld F.LNK_TAPS_FAR_PRE (fieldLE b 6 1) n).setFld F.LNK_TAPS_FAR_POST
      (fieldLE b 7 1) n).setFld F.LNK_TAPS_FAR_MAIN (fieldLE b 8 1) n
    if r.1.hdr != 1 || fieldLE b 0 1 != 0x33 then s1
    else if !crcOk b 9 then s1.bump .LNK_CNT_BAD_TYPE n
    else
      let seq := fieldLE b 2 1 / 16
      match fieldLE b 1 1 with
      | 1 =>
        let a := s1.applyTaps n (fieldLE b 3 1) (fieldLE b 4 1)
        a.2.sendTraining n 2 seq 0 0 a.1
      | 2 => (far s1).trainStatus n seq
      | 3 => if s1.lstate n = lsTrain then ((far s1).setLn n { s1.ln n with rdyRx := true }).trainCheck n else far s1
      | 4 => if s1.lstate n = lsTrain then s1.trainFail n false else s1
      | _ => s1.bump .LNK_CNT_BAD_TYPE n

/-- TRAINING_REQUEST (R61): the Swista's own taps follow it, and a STATUS answers. -/
def execTrainingRequest (n : Fin 64) (blk : LineBlock) (s : State) : Res := .next (s.training n blk)
/-- TRAINING_STATUS (R61). -/
def execTrainingStatus (n : Fin 64) (blk : LineBlock) (s : State) : Res := .next (s.training n blk)
/-- TRAINING_READY (R62). -/
def execTrainingReady (n : Fin 64) (blk : LineBlock) (s : State) : Res := .next (s.training n blk)
/-- TRAINING_ABORT (R61). -/
def execTrainingAbort (n : Fin 64) (blk : LineBlock) (s : State) : Res := .next (s.training n blk)

/-- TRAINING_REQUEST_REPEAT (R61): 4.0 µs after the last sending; after 4 repeats the lane fails. -/
def execTrainingRequestRepeat (n : Fin 64) (dt : Nat) (s : State) : Res :=
  .next (
    match (s.ln n).req with
    | none => s.advance dt
    | some q =>
      if !s.laneRuns n || s.lstate n != lsTrain then s.advance dt
      else
        let s := s.passTo dt (q.at0 + fineOfUs 4)
        if q.repeats < 4 then
          (s.setLn n { s.ln n with req := some { q with repeats := q.repeats + 1, at0 := s.fine } }).sendTraining n 1 q.seq q.req
            q.preset 0
        else s.trainFail n true)

/-! ### Other control blocks (R47, R51, R53) -/

/-- STUFFED_BLOCK (R51): the scrambler state becomes SEED. -/
def execStuffedBlock (n : Fin 64) (blk : LineBlock) (s : State) : Res :=
  .next (
    if !s.laneRuns n || !s.flag F.LNK_STATUS_BLOCK_LOCK n then s
    else
      let r := s.rxBlock n blk
      if r.1.hdr = 1 && r.1.line &&& 0xFF#256 = 0x5C#256 then
        (r.2.setLn n { r.2.ln n with stuffed := (r.2.ln n).stuffed + 1 }).bump .LNK_CNT_STUFF n
      else r.2)

/-- RESERVED_TYPE_BLOCK (R47). -/
def execReservedTypeBlock (n : Fin 64) (blk : LineBlock) (s : State) : Res :=
  .next (
    if !s.laneRuns n || !s.flag F.LNK_STATUS_BLOCK_LOCK n then s
    else (s.rxBlock n blk).2.bump .LNK_CNT_BAD_TYPE n)

/-! ### Skip blocks (R49, R50, R57, R58, R63, R79, R83) -/

/-- A skip interval of lane `n` has ended: more than 2 stuffed slots in it are counted (R53). -/
def State.intervalEnd (s : State) (n : Nat) : State :=
  let s1 := if 2 < (s.ln n).stuffed then s.bump .LNK_CNT_STUFF_EXCESS n else s
  s1.setLn n { s1.ln n with stuffed := 0 }

/-- A skip block that is not used (R48, R50). -/
def State.badSkip (s : State) (n : Nat) : State :=
  ((s.bump .LNK_CNT_SKIP_ERR n).bump .LNK_CNT_BAD_TYPE n).intervalEnd n

/-- The sense in which a block shows a skip block: its byte 0 is clear (R57). -/
def skipSense (b : LineBlock) : Option Bool :=
  if b.hdr = 1 && b.pay &&& 0xFF#256 = 0x1E#256 then some false
  else if b.hdr = 2 && b.pay &&& 0xFF#256 = 0xE1#256 then some true
  else none

/-- A lane that TRAIN or DESKEW has reached with the order of its port wrong checks again in ALIGN (R58). -/
def State.alignAgain (n : Nat) (s : State) : State :=
  if s.lstate n = lsTrain || s.lstate n = lsDeskew then
    (s.setLn n { s.ln n with deskewed := false, req := none, rdyTx := false, rdyRx := false }).setLstate n lsAlign
  else s

/-- LANE_ID and WIDTH_CODE of a port's lanes compared, of the lanes that have shown them (R58): whether the order is right, and
the port's status. -/
def State.orderCheck (s : State) (p n : Nat) : Bool × State :=
  let w := s.portWidth p
  let ids := (List.range w).filterMap (fun i => ((s.ln (p + i)).ident).map (fun x => (i, x)))
  let wide := ids.any (fun x => 5 ≤ x.2.2 || 2 ^ x.2.2 != w)
  let direct := ids.all (fun x => x.2.1 = x.1)
  let reversed := ids.all (fun x => x.2.1 + x.1 + 1 = w) && (s.pt p).rev
  let s1 := s.setFld F.LNK_PORT_STATUS_WIDTH_ERR (b2n wide) p
  if s.portUp p then
    let ok := ((s.ln n).ident.map (·.1)) = some (s.indexOf p n)
    (ok && !wide, s1.setFld F.LNK_PORT_STATUS_ORDER_ERR (b2n (!ok)) p)
  else
    let s2 := s1.setFld F.LNK_PORT_STATUS_ORDER_ERR (b2n (!direct && !reversed)) p
    let s3 := s2.setFld F.LNK_PORT_STATUS_REVERSED (b2n (!direct && reversed)) p
    if (direct || reversed) && !wide then (true, s3)
    else (false, (State.eachOf State.alignAgain (s3.portLanes p) s3).setPt p { s3.pt p with wait := none, decided := none })

/-- A valid skip is recorded: LANE_ID, the interval's stuffed slots, its sequence and its place (R50, R53, R63). The answer
says whether the lane is lost by it. -/
def State.noteSkip (s : State) (n slot : Nat) (b : List Byte) : Bool × State :=
  let x := s.ln n
  let id := fieldLE b 1 1 % 16
  let seq := fieldLE b 2 2
  let broken := match x.skip with
    | some (q, _) => seq != (q + 1) % 65536
    | none => false
  let moved := match x.skip with
    | some (_, t) => decide (slot < t) || (slot - t) % 1025 != 0
    | none => false
  let breaks := if broken then x.breaks + 1 else 0
  let s1 := s.intervalEnd n
  let s2 := (s1.setLn n { s1.ln n with skip := some (seq, slot), ident := some (id, fieldLE b 1 1 / 16), breaks := breaks,
                                       deskewed := x.deskewed || s.lstate n = lsDeskew }).setFld F.LNK_STATUS_LANE_ID id n
  let s3 := if broken then s2.bump .LNK_CNT_SKIP_ERR n else s2
  let run := s.losable n
  let s4 := if moved && run then s3.setFld F.LNK_PORT_STATUS_SKEW_ERR 1 (s.portAt n) else s3
  (run && (moved || decide (2 ≤ breaks)), s4)

/-- A failed re-admission attempt (R79). -/
def State.readmitFail (s : State) (n : Nat) : State :=
  let k := (s.ln n).tries + 1
  let lim := atLeast1 (s.fld F.LNK_PORT_CFG_READMIT_TRIES (s.portAt n))
  (s.setLn n { s.ln n with tries := k }).laneRestart n true (if lim ≤ k then lsFailed else lsSignal)

/-- A lane that waits in DESKEW joins its port, which is up: it goes to `st`, or is lost where its skew is too large (R63). -/
def State.joinPort (s : State) (p n st : Nat) : State :=
  if s.skewOk p n then s.setLstate n st else s.skewLost p n

/-- The port follows the ACTIVE_MASK and PARITY of a skip (R82, R83). -/
def State.followMask (s : State) (p mask : Nat) (par : Bool) : State :=
  let full := fullMask (s.portWidth p)
  let m := mask % 2 ^ s.portWidth p
  if m = 0 || m = s.activeMask p then s
  else
    let s1 := s.releaseAll p
    let s2 := match (s1.cp p).frame with
      | some f => s1.setCp p { s1.cp p with frame := some { f with capFlags := f.capFlags ||| narrowedFlag } }
      | none => s1
    let on := par && s.parityCfg p && m = full
    let s3 := (((s2.setFld F.LNK_PORT_STATUS_ACTIVE_MASK m p).setFld F.LNK_PORT_STATUS_DEGRADED (b2n (m != full)) p)).setFld
      F.LNK_PORT_STATUS_PARITY_ACTIVE (b2n on) p
    let s4 := s3.setPt p { s3.pt p with parity := on, rate := match (s3.pt p).rate with
      | some r => if r.mask = m then none else some r
      | none => none }
    (State.eachOf (fun n s => if s.lstate n = lsDeskew && !(s.ln n).dozeFail then s.joinPort p n lsUp else s)
      (((List.range (s.portWidth p)).filter (natBit m)).map (s.laneOf p)) s4).tryRestore p

/-- What a valid skip does by the state of its lane. -/
def State.useSkip (s : State) (n : Nat) (b : List Byte) : State :=
  let p := s.portAt n
  let mask := fieldLE b 4 2
  let par := natBit (fieldLE b 6 1) 0
  let st := s.lstate n
  if st = lsAlign then
    let r := s.orderCheck p n
    if !r.1 then (if (s.ln n).stored then r.2.setLn n { r.2.ln n with stored := false, polOk := false, first := none } else r.2)
    else if (s.ln n).stored then
      let s1 := r.2.enterDeskew n
      (s1.setLn n { s1.ln n with deskewed := true }).tryUp p mask par
    else r.2.trainStart n
  else if st = lsDeskew then
    if !s.portUp p then s.tryUp p mask par
    else if (s.ln n).dozeFail then (s.setLn n { s.ln n with dozeFail := false }).joinPort p n lsUp
    else if s.outLane p = some (s.indexOf p n) then
      (s.setLn n { s.ln n with clean := some true }).joinPort p n lsShadow
    else s.followMask p mask par
  else if st = lsShadow then
    let s1 := s.setPt p { s.pt p with stripe := 0 }
    if (s.ln n).clean = some true then
      ((s1.setLn n { s.ln n with clean := none, tries := 0 }).setLstate n lsUp).setOut p none
    else s1.readmitFail n
  else if st = lsUp then
    let s1 := s.followMask p mask par
    if (s1.pt p).parity then s1.setPt p { s1.pt p with stripe := 0 } else s1
  else s

/-- A valid skip block of lane `n` in the sense `inv`, with its bytes (R50, R57). In ALIGN with RX_POL_AUTO = 1 and no polarity
fixed it is the first or second of a pair; one that contradicts a stored polarity starts a pair. With RX_POL_AUTO = 0 one in the
other sense than RX_INVERT is a skip error. -/
def State.validSkip (s : State) (n slot : Nat) (inv : Bool) (b : List Byte) : State :=
  let align := s.lstate n = lsAlign
  let use (s : State) : State :=
    let k := s.noteSkip n slot b
    if k.1 then k.2.laneLost n else k.2.useSkip n b
  let begin (s : State) : State :=
    let k := s.noteSkip n slot b
    k.2.setLn n { k.2.ln n with first := some (inv, slot) }
  if !s.flag F.LNK_CTRL_RX_POL_AUTO n then
    if inv = s.flag F.LNK_CTRL_RX_INVERT n then use (s.setLn n { s.ln n with polOk := true })
    else s.bump .LNK_CNT_SKIP_ERR n
  else if align && !(s.ln n).polOk then
    if (s.ln n).first = some (inv, slot - 1025) && 1025 ≤ slot then
      use ((s.setLn n { s.ln n with polOk := true, first := none }).setFld F.LNK_STATUS_RX_INVERTED (b2n inv) n)
    else begin s
  else if inv = s.flag F.LNK_STATUS_RX_INVERTED n then use s
  else if align then begin (s.setLn n { s.ln n with stored := false, polOk := false })
  else s

/-- A block that may be a skip block (R50). -/
def State.skipBlock (s : State) (n slot : Nat) (blk : LineBlock) : State :=
  let c := s.lineIn n blk
  match (if c.1.lost then none else skipSense c.1) with
  | none =>
    let r := c.2.takeBlock n c.1 (c.2.flag F.LNK_STATUS_RX_INVERTED n)
    if r.1.lost || r.1.validHdr then r.2 else r.2.badHeader n
  | some inv =>
    let r := c.2.takeBlock n c.1 inv
    if crcOk r.1.ctl 8 then r.2.validSkip n slot inv r.1.ctl else r.2.badSkip n

/-- SKIP_BLOCK (R50). -/
def execSkipBlock (n : Fin 64) (slot : Nat) (blk : LineBlock) (s : State) : Res :=
  .next (if s.laneRuns n && (s.locked n || s.losable n) then s.skipBlock n slot blk else s)

/-- SKIP_SEND (R49): 1,024 slots after the last skip; what is left of them is idle. -/
def execSkipSend (p : Fin 64) (dt : Nat) (s : State) : Res :=
  .next (
    if s.portWidth p = 0 || !s.ready then s.advance dt
    else
      let s := s.passTo dt ((s.pt p).skipAt + slotsEnd 1024)
      s.fillTo p 1024)

/-! ### Rows of data (R72 to R79) -/

/-- The blocks of a row received in port-lane order, each with what its header alone does (R44, R76, R95). -/
def State.rxRow (p : Nat) : Nat → List LineBlock → State → List RxBlock × State
  | _, [], s => ([], s)
  | i, b :: rest, s =>
    let r := s.rxBlock (s.laneOf p i) b
    let t := State.rxRow p (i + 1) rest r.2
    (r.1 :: t.1, t.2)

/-- The lane of a block whose header disagrees with its row (R73, R79): the block is erased and counted, and a lane in SHADOW
does not rejoin at the next skip. -/
def State.oddBlock (n : Nat) (s : State) : State :=
  let s1 := s.bump .LNK_CNT_BAD_HDR n
  if s1.lstate n = lsShadow then s1.setLn n { s1.ln n with clean := some false } else s1

/-- A row as it is settled (R73): its blocks in port-lane order, whether it is a data row, the port lanes whose block is used. -/
structure RowView where
  blocks : List RxBlock
  isData : Bool
  used : List Nat
  deriving DecidableEq, Repr

def RowView.block (v : RowView) (i : Nat) : RxBlock := v.blocks.getD i ⟨0, 0, 0, true⟩

/-- Whether the header of port lane `i` counts in a row: the lane carries port data, or is in SHADOW; of a port that is not up,
it has block lock. -/
def State.inRow (s : State) (p i : Nat) : Bool :=
  let n := s.laneOf p i
  let st := s.lstate n
  if s.portUp p then ((st = lsUp || st = lsDoze) && ((s.pt p).parity || natBit (s.activeMask p) i)) || st = lsShadow
  else s.flag F.LNK_STATUS_BLOCK_LOCK n

/-- A row is received and settled (R44, R73): it is a data row where at least half of the valid headers are data headers. -/
def State.settle (s : State) (p : Nat) (blocks : List LineBlock) : RowView × State :=
  let r := State.rxRow p 0 blocks s
  let hdr (i : Nat) : RxBlock := r.1.getD i ⟨0, 0, 0, true⟩
  let valid := (List.range (s.portWidth p)).filter (fun i => s.inRow p i && (hdr i).validHdr)
  let isData := decide (valid.length ≤ 2 * (valid.filter (fun i => (hdr i).isData)).length)
  let s1 := State.eachOf State.oddBlock ((valid.filter (fun i => (hdr i).isData != isData)).map (s.laneOf p)) r.2
  (⟨r.1, isData, valid.filter (fun i => (hdr i).isData == isData && s.lstate (s.laneOf p i) != lsShadow)⟩, s1)

/-- SUSPECT lanes count valid headers in stripes whose parity checks (R76). -/
def State.countGood (p : Nat) (x : Stripe) (valid : Nat → Bool) (i : Nat) (s : State) : State :=
  let n := s.laneOf p i
  if !s.flag F.LNK_STATUS_SUSPECT n then s
  else
    let others := x.erased.filter (· != i)
    let ok := valid i && others.isEmpty && x.checks
    s.setLn n { s.ln n with good := if ok then (s.ln n).good + 1 else 0 }

/-- A data row of a port that stripes with parity (R74 to R79). A lane in SHADOW whose block differs from the rebuilt one goes
back to SIGNAL_WAIT. -/
def State.parityRow (s : State) (p : Nat) (v : RowView) : State :=
  let w := s.portWidth p
  let valid (i : Nat) : Bool := (v.block i).isData
  let er (i : Nat) : Bool := !v.used.contains i || s.flag F.LNK_STATUS_SUSPECT (s.laneOf p i)
  let x : Stripe := ⟨(s.pt p).stripe, (List.range w).map (fun i => ((v.block i).bits, er i)), none⟩
  let s1 := State.eachOf (State.countGood p x valid) (List.range w) s
  let s2 := match s1.outLane p with
    | some i =>
      let n := s1.laneOf p i
      if s1.lstate n = lsShadow && valid i && (x.erased.filter (· != i)).isEmpty && x.xorBut i != (v.block i).bits then
        s1.readmitFail n
      else s1
    | none => s1
  let q := s2.pt p
  let held := q.held ++ [x]
  let s3 := s2.setPt p { q with stripe := q.stripe + 1, held := if 8 < held.length then held.drop 1 else held }
  if 8 < held.length then (match held with
    | y :: _ => State.releaseStripe p y s3
    | [] => s3) else s3

/-- A data row of a port that is up (R72, R73, R84): its blocks go to the checkers and to the byte stream. -/
def State.takeData (s : State) (p : Nat) (v : RowView) : State :=
  let s1 := State.eachOf (fun i s => s.framedCheck (s.laneOf p i) (v.block i).bits) v.used s
  if (s1.pt p).parity then s1.parityRow p v
  else
    let act := s1.activeLanes p
    let s2 := s1.addBytes p (act.flatMap (fun i => markBytes (if v.used.contains i then 0 else 2) (v.block i).bits))
    if act.all v.used.contains then s2 else s2.bump .LNK_CNT_ERASED_ROWS p

/-- DATA_ROW (R73). -/
def execDataRow (p : Fin 64) (blocks : List LineBlock) (s : State) : Res :=
  .next (
    if !s.ready || !s.portUp p || s.portWidth p = 0 || blocks.length ≠ s.portWidth p then s
    else
      let r := s.settle p blocks
      if r.1.isData then r.2.takeData p r.1 else r.2)

/-- STRIPE_HOLD_END (R77): the oldest held stripe is released. -/
def execStripeHoldEnd (p : Fin 64) (s : State) : Res :=
  .next (
    match (s.pt p).held with
    | [] => s
    | x :: rest => State.releaseStripe p x (s.setPt p { s.pt p with held := rest }))

/-- SUSPECT_CLEAR (R76). -/
def execSuspectClear (n : Fin 64) (s : State) : Res :=
  .next (
    if s.laneRuns n && s.flag F.LNK_STATUS_SUSPECT n && 64 ≤ (s.ln n).good then
      (s.setFld F.LNK_STATUS_SUSPECT 0 n).setLn n { s.ln n with good := 0 }
    else s)

/-- PORT_DECIDE (R64, R91): the wait has lasted the TIMEOUT of the port's lowest lane. -/
def execPortDecide (p : Fin 64) (dt : Nat) (s : State) : Res :=
  .next (
    match (s.pt p).wait with
    | none => s.advance dt
    | some t =>
      if s.portWidth p = 0 || s.portUp p || (s.pt p).decided.isSome then s.advance dt
      else
        let s := s.passTo dt (t + fineOfUs (100 * atLeast1 (s.fld F.LNK_TRAIN_TIMEOUT p)))
        match s.portDecision p with
        | some d => s.setPt p { s.pt p with decided := some d }
        | none => s.setPt p { s.pt p with wait := none })

/-- RATE_REDUCE_TIMEOUT (R82): 4 skip intervals after the message it is repeated, and after 8 messages the port goes down. -/
def execRateReduceTimeout (p : Fin 64) (dt : Nat) (s : State) : Res :=
  .next (
    match (s.pt p).rate with
    | some r =>
      if r.restore || !s.portUp p then s.advance dt
      else
        let s := s.passTo dt (r.at0 + slotsEnd (4 * 1025))
        if 8 ≤ r.sent then s.portDown p else s.sendRate p false r.mask (r.sent + 1)
    | none => s.advance dt)

/-! ### Low power (R66 to R70) -/

/-- The code of a low-power block; a failed CRC or a reserved code gives none (R48, R66). -/
def RxBlock.powerCode (x : RxBlock) : Option Nat :=
  let c := fieldLE x.ctl 1 1
  if fieldLE x.ctl 0 1 = 0x78 && crcOk x.ctl 3 && 1 ≤ c && c ≤ 5 then some c else none

/-- A row of low-power blocks, settled as every row is: the code it carries, and the state after (R48, R66, R73). Where its lanes
carry different codes, that of the lowest port lane holds (DESIGN CHOICE, log entry 70). A row that settles as a data row is one. -/
def State.powerRow (s : State) (p : Nat) (blocks : List LineBlock) : Option Nat × State :=
  let r := s.settle p blocks
  if r.1.isData then (none, if r.2.portUp p then r.2.takeData p r.1 else r.2)
  else
    let bad := r.1.used.filter (fun i => fieldLE (r.1.block i).ctl 0 1 = 0x78 && (r.1.block i).powerCode.isNone)
    (r.1.used.findSome? (fun i => (r.1.block i).powerCode),
      State.eachOf (fun i s => s.bump .LNK_CNT_BAD_TYPE (s.laneOf p i)) bad r.2)

/-- Whether the Swista answers a doze request with NAK (R67). -/
def State.dozeNak (s : State) (p : Nat) : Bool :=
  s.rebuilding p || s.flag F.LNK_PORT_STATUS_DEGRADED p
    || (s.portLanes p).any (fun n => !s.flag F.LNK_CTRL_DOZE_EN n || s.lstate n != lsUp)

/-- ENTER_DOZE (R67). CDR_LOCK and BLOCK_LOCK stay as they are in DOZE (DESIGN CHOICE, log entry 71). -/
def execEnterDoze (p : Fin 64) (blocks : List LineBlock) (s : State) : Res :=
  .next (
    if !s.ready || s.portWidth p = 0 || blocks.length ≠ s.portWidth p then s
    else
      let r := s.powerRow p blocks
      if r.1 != some 1 then r.2
      else if r.2.dozeNak p then r.2.sendPower p 4
      else State.eachOf (fun n s => s.setLstate n lsDoze) (r.2.portLanes p) (r.2.sendPower p 3))

/-- WAKE_ROW (R68): the lanes are UP with their held deskew offsets. SKIP_SEQ and the place of the next skip are checked against
none before it (DESIGN CHOICE, log entry 71). -/
def execWakeRow (p : Fin 64) (blocks : List LineBlock) (s : State) : Res :=
  .next (
    if s.portWidth p = 0 || blocks.length ≠ s.portWidth p || !(s.portLanes p).all (fun n => s.lstate n = lsDoze) then s
    else
      let r := s.powerRow p blocks
      if r.1 = some 5 then
        State.eachOf (fun n s => (s.setLn n { s.ln n with skip := none, breaks := 0 }).setLstate n lsUp) (r.2.portLanes p) r.2
      else r.2)

/-- DOZE_EXIT_TIMEOUT (R68). -/
def execDozeExitTimeout (p : Fin 64) (s : State) : Res :=
  .next (
    State.eachOf (fun n s =>
      if s.lstate n = lsDoze then
        let s1 := s.laneRestart n true lsCdr
        (s1.setLn n { s1.ln n with dozeFail := true }).bump .LNK_CNT_DOZE_SLOW n
      else s) (s.portLanes p) s)

/-- DEEP_ACK (R69). -/
def execDeepAck (p : Fin 64) (blocks : List LineBlock) (s : State) : Res :=
  .next (
    if s.portWidth p = 0 || blocks.length ≠ s.portWidth p || (s.pt p).deep.isNone then s
    else
      let r := s.powerRow p blocks
      if r.1 = some 3 then r.2.portDeep p else r.2)

/-- DEEP_RETRY (R69): ENTER_DEEP is sent again every 100 µs. -/
def execDeepRetry (p : Fin 64) (dt : Nat) (s : State) : Res :=
  .next (
    match (s.pt p).deep with
    | some (first, last) =>
      if s.portUp p && s.deepWanted p then
        let s := s.passTo dt (last + fineOfUs 100)
        (s.setPt p { s.pt p with deep := some (first, s.fine) }).sendPower p 2
      else s.advance dt
    | none => s.advance dt)

/-- DEEP_FORCE (R69): in IDLE, 1 ms after the first request. -/
def execDeepForce (p : Fin 64) (dt : Nat) (s : State) : Res :=
  .next (
    match (s.pt p).deep with
    | some (t, _) => if s.lanesIdle then (s.passTo dt (t + fineOfUs 1000)).portDeep p else s.advance dt
    | none => s.advance dt)

/-- DEEP_WAKE_ON_SIGNAL (R70). -/
def execDeepWakeOnSignal (n : Fin 64) (s : State) : Res :=
  .next (
    if s.laneRuns n && s.lstate n = lsDeep && !s.lanesIdle && s.flag F.LNK_CTRL_WAKE_ON_SIGNAL n then
      s.deepExit (s.portAt n)
    else s)

/-- QUAD_PLL_LOCKED (R70): the transmitters turn on. -/
def execQuadPllLocked (q : Fin 16) (s : State) : Res :=
  .next (
    State.eachOf (fun n s =>
      if s.laneRuns n && s.lstate n = lsDeep && (s.ln n).exit = 1 then
        (s.txStart n).setLn n { (s.txStart n).ln n with exit := 2 } else s)
      ((List.range 4).map (4 * q.val + ·)) s)

/-! ### Lane registers (R87, R93 to R95) -/

/-- ENABLE set or cleared (R54, R87). -/
def State.laneEnable (s : State) (n : Nat) (on : Bool) : State :=
  let s1 := s.setFld F.LNK_CTRL_ENABLE (b2n on) n
  if on then (if s1.lstate n = lsDisabled then State.laneStart n s1 else s1)
  else if s1.lstate n = lsDisabled then s1
  else State.laneDisable n s1

/-- DEEP_REQ set or cleared (R69, R70, R87). -/
def State.deepReq (s : State) (n : Nat) (on : Bool) : State :=
  let s1 := s.setFld F.LNK_CTRL_DEEP_REQ (b2n on) n
  let p := s1.portAt n
  if on then s1.deepAsk p else if s1.deepWanted p then s1 else s1.deepExit p

/-- RETRAIN (R87): bring-up starts from SIGNAL_WAIT. A lane that carries its port's data is rebuilt meanwhile in a parity port
and lost in any other. A lane in DEEP goes back to DEEP where deep is wanted; a lane in TEST sends a pattern and has no bring-up
(DESIGN CHOICE, log entry 72). -/
def State.retrain (s : State) (n : Nat) : State :=
  let st := s.lstate n
  if st = lsDisabled || st = lsTest then s
  else if st = lsDeep then State.laneStart n s
  else if st = lsUp || st = lsShadow || st = lsDoze then
    (if s.parityOn (s.portAt n) then s.laneOff n lsSignal else s.laneLost n)
  else s.laneBack n lsSignal false

/-- LANE_ENABLE (R87). -/
def execLaneEnable (who : Requester) (n : Fin 64) (on : Bool) (s : State) : Res :=
  .next (s.writeGate who .LNK_CTRL n (s.laneEnable n on))

/-- DEEP_REQ (R87). -/
def execDeepReq (who : Requester) (n : Fin 64) (on : Bool) (s : State) : Res :=
  .next (s.writeGate who .LNK_CTRL n (s.deepReq n on))

/-- RETRAIN (R87). -/
def execRetrain (who : Requester) (n : Fin 64) (s : State) : Res :=
  .next (s.writeGate who .LNK_CTRL n (s.retrain n))

/-- CLEAR of LNK_PATTERN (R93). -/
def State.clearBer (s : State) (n : Nat) : State :=
  ((s.setLn n { s.ln n with berHi := 0 }).wr .LNK_BER_BITS_LO 0 n |>.wr .LNK_BER_BITS_HI 0 n).wr .LNK_BER_ERRS 0 n

def execPatternClear (who : Requester) (n : Fin 64) (s : State) : Res :=
  .next (s.writeGate who .LNK_PATTERN n (s.clearBer n))

/-- One burst of the injector (R94): TARGET both alternates. The bits are inverted in the next blocks of the lane; a burst not
yet sent whole is replaced (DESIGN CHOICE, log entry 73). -/
def State.injectBurst (s : State) (n : Nat) : State :=
  let t := s.fld F.LNK_INJECT_TARGET n
  let header := t = 1 || (t = 2 && (s.ln n).alt)
  let k := s.fld F.LNK_INJECT_BURST n + 1
  (s.setLn n { s.ln n with alt := if t = 2 then !(s.ln n).alt else (s.ln n).alt, inj := some (k, header), burstAt := s.fine }).emit
    (.inject n k header)

/-- SHOT (R85, R94). -/
def State.shot (s : State) (n : Nat) : State :=
  if s.mode = modeService && s.fld F.LNK_INJECT_MODE n = 1 then s.injectBurst n else s

def execInjectShot (who : Requester) (n : Fin 64) (s : State) : Res :=
  .next (s.writeGate who .LNK_INJECT n (s.shot n))

/-- The fine counts of 2^RATE_EXP bits, RATE_EXP held to 10 to 40 (R94): 33 bits last two fine counts (R42). -/
def State.burstPeriod (s : State) (n : Nat) : Nat := (2 ^ max 10 (min 40 (s.fld F.LNK_INJECT_RATE_EXP n)) * 2 + 32) / 33

/-- INJECT_BURST (R94): a burst every 2^RATE_EXP bits. -/
def execInjectBurst (n : Fin 64) (dt : Nat) (s : State) : Res :=
  .next (
    if s.laneRuns n && s.mode = modeService && s.fld F.LNK_INJECT_MODE n = 2 then
      (s.passTo dt ((s.ln n).burstAt + s.burstPeriod n)).injectBurst n
    else s.advance dt)

/-- LNK_BER_BITS_LO read (R95). -/
def execBerBitsLoRead (who : Requester) (n : Fin 64) (s : State) : Res :=
  .next (s.readGate who 0 n 1
    ((s.wr .LNK_BER_BITS_HI (BitVec.ofNat 32 (s.ln n).berHi) n).emit (.reply (s.rd .LNK_BER_BITS_LO n))))

/-- CHECKER_LOCK (R84): the bits that a lane in TEST has received since the last of these commands, at its checker, which locks
and loses lock by them. The framed checker takes the payload of data rows instead. -/
def execCheckerLock (n : Fin 64) (bits : List Bool) (s : State) : Res :=
  .next (
    let c := s.fld F.LNK_PATTERN_CHK n
    if !s.laneRuns n || s.mode != modeService || s.lstate n != lsTest || !(c = 1 || c = 2 || c = 3 || c = 6) then s
    else s.checkerIn n bits)

end Sys2Proof.Machine
end

