-- ==== Sys2Proof/Machine/Flags.lean ====
section
/-!
DEFINITION. The flags of a spar: how the arithmetic instructions set Z, N, C and V, and what the branch conditions read
(R201). The status flags of registers are fields (`Fields.lean`).
-/

namespace Sys2Proof.Machine

/-- Z and N of a result (R201). -/
def Spar.zn (x : Spar) (r : Word) : Spar := { x with z := r == 0, n := r.msb }

/-- The flags of a + b (R201). -/
def Spar.addFlags (x : Spar) (a b : Word) : Spar :=
  let r := a + b
  { x.zn r with c := decide (2 ^ 32 ≤ a.toNat + b.toNat), v := a.msb == b.msb && r.msb != a.msb }

/-- The flags of a − b (R201): C = 1 when there is no borrow. -/
def Spar.subFlags (x : Spar) (a b : Word) : Spar :=
  let r := a - b
  { x.zn r with c := decide (b.toNat ≤ a.toNat), v := a.msb != b.msb && r.msb != a.msb }

/-- Whether a branch condition holds (R201); none for a reserved one. -/
def sparCond (x : Spar) (send : Bool) (cond : Nat) : Option Bool :=
  match cond with
  | 0x0 => some true
  | 0x1 => some x.z
  | 0x2 => some (!x.z)
  | 0x3 => some (x.n != x.v)
  | 0x4 => some (x.n == x.v)
  | 0x5 => some (!x.c)
  | 0x6 => some x.c
  | 0x7 => some send
  | 0x8 => some x.lend
  | _ => none

end Sys2Proof.Machine
end

