-- ==== Sys2Proof/Machine/SparOps.lean ====
section
/-!
DEFINITION. The spar as a programming model (R196 to R206): its registers, its program counter and loops, its data memory,
its input stream (R103, R205), and the analysis units (R207 to R209).
-/

namespace Sys2Proof.Machine

abbrev Vec := BitVec 512

/-! ### Registers (R196) -/

def Spar.s (x : Spar) (k : Nat) : Word := if k = 0 then 0 else tblGet 0 x.sreg k
def Spar.setS (x : Spar) (k : Nat) (v : Word) : Spar := if k = 0 then x else { x with sreg := tblSet 0 x.sreg k v }
def Spar.m (x : Spar) (k : Nat) : Word := if k = 0 then 0xFFFFFFFF else tblGet 0 x.mask k
def Spar.setM (x : Spar) (k : Nat) (v : Word) : Spar := if k = 0 then x else { x with mask := tblSet 0 x.mask k v }
def Spar.vec (x : Spar) (k : Nat) : Vec := tblGet 0 x.vreg (k % 32)
def Spar.setVec (x : Spar) (k : Nat) (v : Vec) : Spar := { x with vreg := tblSet 0 x.vreg (k % 32) v }

/-- Lane `i` of a vector as a number. -/
def lane (v : Vec) (i : Nat) : Nat := v.toNat / 2 ^ (16 * i) % 65536

/-- Lane `i` as a signed number. -/
def laneS (v : Vec) (i : Nat) : Int := sext 16 (lane v i)

/-- A vector from its lanes. -/
def ofLanes (f : Nat → Nat) : Vec :=
  BitVec.ofNat 512 ((List.range 32).map (fun i => f i % 65536 * 2 ^ (16 * i))).sum

/-- Whether lane `i` is in m[MK]. -/
def Spar.on (x : Spar) (mk i : Nat) : Bool := natBit (x.m mk).toNat i

/-- v[D] with the lanes of m[MK] replaced (R200). -/
def Spar.putLanes (x : Spar) (d mk : Nat) (f : Nat → Nat) : Spar :=
  let old := x.vec d
  x.setVec d (ofLanes (fun i => if x.on mk i then f i else lane old i))

/-- Lane `i` of the pair (v[K], v[K+1]): its 32-bit value (R200). -/
def Spar.pair (x : Spar) (k i : Nat) : Nat := lane (x.vec k) i + 65536 * lane (x.vec (k + 1)) i

/-- The pair D with the lanes of m[MK] replaced by 32-bit values. -/
def Spar.putPair (x : Spar) (d mk : Nat) (f : Nat → Nat) : Spar :=
  (x.putLanes d mk (fun i => f i)).putLanes (d + 1) mk (fun i => f i / 65536)

/-- Lane `i` of acc[K mod 4], unsigned. -/
def Spar.accLane (x : Spar) (k i : Nat) : Nat := (tblGet 0 x.acc (k % 4)).toNat / 2 ^ (48 * i) % 2 ^ 48

def Spar.putAcc (x : Spar) (k mk : Nat) (f : Nat → Nat) : Spar :=
  let v := ((List.range 32).map (fun i => (if x.on mk i then f i % 2 ^ 48 else x.accLane k i) * 2 ^ (48 * i))).sum
  { x with acc := tblSet 0 x.acc (k % 4) (BitVec.ofNat 1536 v) }

/-- A scalar result with Z and N. -/
def Spar.putZN (x : Spar) (d : Nat) (r : Word) : Spar := (x.setS d r).zn r

/-- Saturation to 16 bits, signed or unsigned. -/
def sat16 (v : Int) : Int := clampInt (-32768) 32767 v
def sat16u (v : Int) : Int := clampInt 0 65535 v

/-- Lanes of m[MK] replaced by saturated values; SAT is set where one saturated (R201). -/
def Spar.putSat (x : Spar) (d mk : Nat) (sat : Int → Int) (f : Nat → Int) : Spar :=
  let hit := (List.range 32).any (fun i => x.on mk i && sat (f i) != f i)
  { x.putLanes d mk (fun i => unsext 16 (sat (f i))) with sat := x.sat || hit }

/-! ### What an instruction does to its run -/

/-- The result of an instruction: the spar after it with its next pc, where it is an SRD with the shared-memory words that read
as uncorrectable, a stall, the stall of an STD on word 8, the program fault ILLEGAL, or the end of the tile. -/
inductive SparRes where
  | next (x : Spar)
  | nextUe (x : Spar) (words : Nat)
  | stall
  | waitClose
  | illegal
  | commit (dest : Nat) (bytes : List Byte)
  | abort
  deriving DecidableEq, Repr

/-- Loops end or go round when the program counter reaches their end (R203). -/
def loopPc (pc : Int) : List SparLoop → Int × List SparLoop
  | [] => (pc, [])
  | l :: rest =>
    if pc = l.last then
      if 1 < l.left then (l.first, { l with left := l.left - 1 } :: rest) else loopPc pc rest
    else (pc, l :: rest)

/-- The program counter moves to `pc`. -/
def Spar.goto (x : Spar) (pc : Int) : Spar :=
  let r := loopPc pc x.loops
  { x with pc := r.1, loops := r.2 }

/-- The instruction is followed by the next one. -/
def Spar.step (x : Spar) : SparRes := .next (x.goto (x.pc + 4))



def State.setRun (s : State) (m : Nat) (r : Run) : State :=
  let x := s.ms m
  s.setMs m { x with runs := x.runs.map (fun q => if q.engine = r.engine then r else q) }

/-- The word of program memory at a program counter (R197, R200). -/
def Mast.word (x : Mast) (pc : Int) : Word :=
  BitVec.ofNat 32 (natLE ((List.range 4).map (fun k => x.prog.getD (pc.toNat + k) 0)))

/-- The instruction at the program counter of a run; none is ILLEGAL (R206). -/
def State.sparAt (s : State) (m : Fin 16) (e : Fin 66) (r : Run) : Option Instr := sparDecode m e ((s.ms m.val).word r.spar.pc)

/-- The registers of a run after an instruction. A program counter that leaves program memory is ILLEGAL (R206); the clocks that an
STD stood still on word 8 are not the watchdog's (R210). -/
def State.sparNext (s : State) (m : Nat) (r : Run) (x : Spar) : State :=
  if x.pc < 0 || 0x8000 ≤ x.pc then s.illegal m r
  else s.setRun m { r with spar := x, waited := r.waitedAt s.fine, waitFrom := none }

/-- What an instruction's result does to its run. -/
def State.sparEnd (s : State) (m : Nat) (r : Run) (res : SparRes) : State :=
  match res with
  | .next x => s.sparNext m r x
  | .nextUe x n => (s.bumpBy .MST_CNT_SHM_UE n m).sparNext m r x
  | .stall => s
  | .waitClose => s.setRun m { r with waitFrom := some (r.waitFrom.getD s.fine) }
  | .illegal => s.illegal m r
  | .commit dest bytes => s.committed m r dest bytes
  | .abort => s.aborted m r

/-- Engine `e` of mast `m` executes the instruction at its program counter (R198). Nothing happens where the engine runs no tile,
or where its program holds another instruction there than `i`, the one commanded; a word that spells none is ILLEGAL (R206). -/
def State.sparDo (s : State) (m : Fin 16) (e : Fin 66) (i : Instr) (f : Run → SparRes) : State :=
  match s.runOf m.val e.val with
  | none => s
  | some r =>
    match s.sparAt m e r with
    | none => s.illegal m.val r
    | some j => if j = i then s.sparEnd m.val r (f r) else s

/-- An instruction that changes registers only. -/
def State.sparAlu (s : State) (m : Fin 16) (e : Fin 66) (i : Instr) (f : Spar → Spar) : State :=
  s.sparDo m e i (fun r => (f r.spar).step)

/-- An instruction that changes registers or is ILLEGAL. -/
def State.sparTry (s : State) (m : Fin 16) (e : Fin 66) (i : Instr) (f : Spar → Option Spar) : State :=
  s.sparDo m e i (fun r => match f r.spar with
    | some x => x.step
    | none => .illegal)

/-- COMMIT (R206, R212): a reserved destination bit or a bad length is ILLEGAL. -/
def commitRes (a : Fin 32) (imm : BitVec 16) (r : Run) : SparRes :=
  let n := (r.spar.s a).toNat
  if 64 ≤ imm.toNat || n < 32 || 256 < n || n % 32 ≠ 0 then .illegal
  else .commit imm.toNat ((List.range n).map (fun i => tblGet 0 r.spar.staging i))

/-! ### Data memory (R197, R203, R206) -/

/-- The address s[A] + IMM16. -/
def Spar.addr (x : Spar) (a : Nat) (imm : BitVec 16) : Nat := (x.s a + imm.signExtend 32).toNat

/-- Byte `a` of data memory: the constant segment, then scratch. -/
def Spar.byte (x : Spar) (consts : List Byte) (a : Nat) : Byte :=
  if a < 0x4000 then consts.getD a 0 else tblGet 0 x.scratch a

/-- A load of `n` bytes: none where it is misaligned or beyond data memory. -/
def Spar.load (x : Spar) (consts : List Byte) (a n : Nat) : Option Nat :=
  if a % n ≠ 0 || 0x10000 ≤ a then none else some (natLE ((List.range n).map (fun i => x.byte consts (a + i))))

/-- A store of `n` bytes: none where it is misaligned, beyond data memory or in the constant segment. -/
def Spar.store (x : Spar) (a n v : Nat) : Option Spar :=
  if a % n ≠ 0 || 0x10000 ≤ a || a < 0x4000 then none
  else some { x with scratch := tblSetList 0 x.scratch a (bytesLE n v) }

/-- An instruction that reads the constants of its mast. -/
def State.sparMem (s : State) (m : Fin 16) (e : Fin 66) (i : Instr) (f : Spar → List Byte → Option Spar) : State :=
  let c := (s.ms m.val).consts
  s.sparTry m e i (fun x => f x c)

/-! ### The input stream (R190, R191, R205) -/

/-- Row length of a tile in pixels, its halo included, and rows; a reduce tile has rows of one slot in halfwords. -/
def MFrame.streamDims (f : MFrame) (t : Tile) : Nat × Nat :=
  if t.reduce then (128, f.tiles)
  else
    let i := t.idx % max 1 f.across
    let j := t.idx / max 1 f.across
    (min f.tw (f.info.width - i * f.tw) + 2 * f.halo, min f.th (f.info.height - j * f.th) + 2 * f.halo)

/-- Bit `b` of the frame's data in shared memory. -/
def State.frameByte (s : State) (m : Nat) (f : MFrame) (o : Nat) : Byte :=
  if o < f.high then tblGet 0 (s.ms m).shm (s.shmAddr m f o) else 0

/-- Pixel `p` of the frame (R103). -/
def State.pixel (s : State) (m : Nat) (f : MFrame) (p : Nat) : Nat :=
  let b := fmtBits f.info.fmt
  let o := p * b / 8
  natLE [s.frameByte m f o, s.frameByte m f (o + 1), s.frameByte m f (o + 2)] / 2 ^ (p * b % 8) % 2 ^ b

/-- The pixel of the frame at stream position (col, line) of a tile; none where it lies outside the frame. -/
def MFrame.pixelAt (f : MFrame) (t : Tile) (col line : Nat) : Option Nat :=
  let x := (t.idx % max 1 f.across) * f.tw + col
  let y := (t.idx / max 1 f.across) * f.th + line
  if f.halo ≤ x && f.halo ≤ y && x - f.halo < f.info.width && y - f.halo < f.info.height then
    some ((y - f.halo) * f.info.width + (x - f.halo))
  else none

/-- The stream position after a read of `n` columns of a row of `row`; an SRD tells of the end of the line (R201). -/
def Spar.streamStep (x : Spar) (row : Nat) (isSrd : Bool) : Spar :=
  let past := decide (row ≤ x.col + 32)
  { x with col := if past then 0 else x.col + 32, line := if past then x.line + 1 else x.line,
           lend := if isSrd then past else x.lend }

/-- A mask word of the lanes with a property. -/
def maskOf (p : Nat → Bool) : Word := BitVec.ofNat 32 ((List.range 32).map (fun i => if p i then 2 ^ i else 0)).sum

/-- What a lane of a stream read takes: the addresses of its bytes in shared memory, and whether they have arrived. -/
abbrev LaneSrc := List Nat × Bool

/-- The bytes of the frame that hold row `line` of a tile, its halo included: the first, and the one after the last; none for a
row outside the frame. -/
def MFrame.rowBytes (f : MFrame) (t : Tile) (line : Nat) : Option (Nat × Nat) :=
  let b := fmtBits f.info.fmt
  let x0 := (t.idx % max 1 f.across) * f.tw - f.halo
  let x1 := min f.info.width ((t.idx % max 1 f.across + 1) * f.tw + f.halo)
  let y := (t.idx / max 1 f.across) * f.th + line
  if y < f.halo || f.info.height ≤ y - f.halo || (f.streamDims t).2 ≤ line then none
  else some (((y - f.halo) * f.info.width + x0) * b / 8, (((y - f.halo) * f.info.width + x1) * b + 7) / 8)

/-- Halfwords of row `line` of a tile's input, as SRDR reads it (R205; DEDUCED, log entry 83). -/
def MFrame.rawRow (f : MFrame) (t : Tile) (line : Nat) : Nat :=
  if t.reduce then 128
  else match f.rowBytes t line with
    | some (a, z) => (z - a + 1) / 2
    | none => ((f.streamDims t).1 * fmtBits f.info.fmt + 15) / 16

/-- Halfword `h` of row `line` of a tile's input: of a slot of a reduce tile, or of the frame bytes that hold the row's pixels. -/
def State.rawLane (s : State) (m : Nat) (f : MFrame) (t : Tile) (line h : Nat) : Option LaneSrc :=
  if t.reduce then
    if line < f.tiles && h < 128 then some ([s.slotAddr m f line (2 * h), s.slotAddr m f line (2 * h + 1)], true) else none
  else match f.rowBytes t line with
    | none => none
    | some (a, z) =>
      let o := a + 2 * h
      if z ≤ o then none
      else some ((if o + 1 < z then [o, o + 1] else [o]).map (s.shmAddr m f), f.closed || decide (min z (o + 2) ≤ f.high))

/-- The pixel at a stream position, as a lane of SRD reads it; none for one outside the frame. -/
def State.pixLane (s : State) (m : Nat) (f : MFrame) (t : Tile) (col line : Nat) : Option LaneSrc :=
  (f.pixelAt t col line).map (fun p =>
    let b := fmtBits f.info.fmt
    let first := p * b / 8
    let last := (p * b + b - 1) / 8
    ((List.range (last + 1 - first)).map (fun i => s.shmAddr m f (first + i)), f.closed || decide (last < f.high)))

/-- The shared-memory words in error, by number, that lanes read. -/
def badWords (ue : List Nat) (src : Nat → Option LaneSrc) : List Nat :=
  ue.eraseDups.filter (fun w => (List.range 32).any (fun i => match src i with
    | some l => l.1.any (fun a => a / 8 = w)
    | none => false))

/-- A stream read into v[D] (R205, R211): it stalls while a lane's bytes are still to come; lanes of words in error read 0, and
m7 names the lanes of `inside`. `ue` names the 64-bit words of shared memory that read as uncorrectable. -/
def Spar.streamRead (x : Spar) (d : Nat) (ue : List Nat) (src : Nat → Option LaneSrc) (val : Nat → Nat) (inside : Nat → Bool)
    (row : Nat) (isSrd : Bool) : SparRes :=
  if (List.range 32).any (fun i => match src i with
    | some l => !l.2
    | none => false) then .stall
  else
    let bad := badWords ue src
    let v (i : Nat) : Nat := match src i with
      | some l => if l.1.any (fun a => bad.contains (a / 8)) then 0 else val i
      | none => 0
    let y := ((x.setVec d (ofLanes v)).setM 7 (maskOf inside)).streamStep row isSrd
    let y := { y with shmUe := y.shmUe || !bad.isEmpty }
    .nextUe (y.goto (y.pc + 4)) bad.length

/-- The next 64 input bytes as halfwords (R205). -/
def State.srdr (s : State) (m : Nat) (r : Run) (d : Nat) (ue : List Nat) (isSrd : Bool) : SparRes :=
  match (s.ms m).findFrame r.tile.stream r.tile.frame with
  | none => .stall
  | some f =>
    let x := r.spar
    let src (i : Nat) : Option LaneSrc := s.rawLane m f r.tile x.line (x.col + i)
    let val (i : Nat) : Nat := match src i with
      | some l => natLE (l.1.map (tblGet 0 (s.ms m).shm))
      | none => 0
    x.streamRead d ue src val (fun i => (src i).isSome) (f.rawRow r.tile x.line) isSrd

/-- The next 32 pixels (R205, R211); in a reduce tile as SRDR. -/
def State.srd (s : State) (m : Nat) (r : Run) (d : Nat) (ue : List Nat) : SparRes :=
  if r.tile.reduce then s.srdr m r d ue true
  else match (s.ms m).findFrame r.tile.stream r.tile.frame with
  | none => .stall
  | some f =>
    let x := r.spar
    let dims := f.streamDims r.tile
    let inside (i : Nat) : Bool := decide (x.col + i < dims.1) && decide (x.line < dims.2)
    let src (i : Nat) : Option LaneSrc := if inside i then s.pixLane m f r.tile (x.col + i) x.line else none
    let val (i : Nat) : Nat := ((f.pixelAt r.tile (x.col + i) x.line).map (s.pixel m f)).getD 0
    x.streamRead d ue src val inside dims.1 true

/-- Whether the input stream is exhausted (R201). -/
def State.streamEnd (s : State) (m : Nat) (r : Run) : Bool :=
  match (s.ms m).findFrame r.tile.stream r.tile.frame with
  | none => true
  | some f => decide ((f.streamDims r.tile).2 ≤ r.spar.line)

/-! ### The tile descriptor (R210) -/

/-- Word `k` of the descriptor; none while word 8 waits for the frame to close. -/
def State.descWord (s : State) (m : Nat) (r : Run) (k : Nat) : Option Word :=
  match (s.ms m).findFrame r.tile.stream r.tile.frame with
  | none => some 0
  | some f =>
    let t := r.tile
    let i := f.info
    let x0 := if t.reduce then 0 else (t.idx % max 1 f.across) * f.tw
    let y0 := if t.reduce then 0 else (t.idx / max 1 f.across) * f.th
    match k with
    | 0 => some (BitVec.ofNat 32 (i.num % 2 ^ 32))
    | 1 => some (BitVec.ofNat 32 (i.num / 2 ^ 32 % 65536 + i.port * 2 ^ 16 + i.beam * 2 ^ 24))
    | 2 => some (BitVec.ofNat 32 (nsOf i.stampAt))
    | 3 => some (BitVec.ofNat 32 (secOf i.stampAt % 256 + i.fmt * 256))
    | 4 => some (BitVec.ofNat 32 (t.idx + f.tiles * 65536))
    | 5 => some (BitVec.ofNat 32 (x0 + y0 * 65536))
    | 6 => some (BitVec.ofNat 32 (min f.tw (i.width - x0) + min f.th (i.height - y0) * 65536))
    | 7 => some (BitVec.ofNat 32 (i.width + i.height * 65536))
    | 8 =>
      if f.closed then
        let miss := f.fin.any (fun e => e.2 == 2)
        some (BitVec.ofNat 32 (f.flags % 64 + b2n r.spar.shmUe * 256 + b2n (t.reduce && miss) * 512 + b2n t.reduce * 1024))
      else none
    | 9 => some i.dir
    | 10 => some i.layer
    | 11 => some i.scanRec
    | 12 => some i.scanOff
    | 13 => some i.exposure
    | _ => some 0

/-! ### The run labeller (R208) -/

/-- Two sets of statistics added; sums saturate. -/
def LabStat.add (a b : LabStat) : LabStat :=
  let s64 (x : Nat) : Nat := min x (2 ^ 64 - 1)
  let s32 (x : Nat) : Nat := min x (2 ^ 32 - 1)
  { area := a.area + b.area, sumP := s32 (a.sumP + b.sumP), sumW := s32 (a.sumW + b.sumW), wx := s64 (a.wx + b.wx),
    wy := s64 (a.wy + b.wy), wxx := s64 (a.wxx + b.wxx), wyy := s64 (a.wyy + b.wyy), wxy := s64 (a.wxy + b.wxy),
    xMin := min a.xMin b.xMin, xMax := max a.xMax b.xMax, yMin := min a.yMin b.yMin, yMax := max a.yMax b.yMax }

/-- The statistics of one pixel. -/
def pixStat (woff x y p : Nat) : LabStat :=
  let w := p - woff
  { area := 1, sumP := p, sumW := w, wx := w * x, wy := w * y, wxx := w * x * x, wyy := w * y * y, wxy := w * x * y,
    xMin := x, xMax := x, yMin := y, yMax := y }

/-- The runs of a line of pixels in ascending columns: their pixels. -/
def runsOf : List (Nat × Nat) → List (List (Nat × Nat))
  | [] => []
  | p :: rest =>
    match runsOf rest with
    | (q :: r) :: more => if q.1 = p.1 + 1 then (p :: q :: r) :: more else [p] :: (q :: r) :: more
    | other => [p] :: other

/-- Label `old` becomes `new` everywhere. -/
def Labeller.rename (l : Labeller) (old new : Nat) : Labeller :=
  { l with prev := l.prev.map (fun r => (r.1, r.2.1, if r.2.2 = some old then some new else r.2.2)),
           stats := tblSet {} (tblSet {} l.stats new ((tblGet {} l.stats new).add (tblGet {} l.stats old))) old {} }

/-- A run of the closing line takes its label; regions it joins merge into the lowest (R208). `cur` holds the runs of the
line labelled so far. -/
def Labeller.takeRun (l : Labeller) (cur : List (Nat × Nat × Option Nat)) (run : List (Nat × Nat)) :
    Labeller × List (Nat × Nat × Option Nat) :=
  let x0 := (run.head?.map (·.1)).getD 0
  let x1 := (run.getLast?.map (·.1)).getD 0
  let reach := if l.conn8 then 1 else 0
  let met := (l.prev.filter (fun r => decide (r.1 ≤ x1 + reach) && decide (x0 ≤ r.2.1 + reach))).filterMap (·.2.2)
  let st := run.foldl (fun a p => a.add (pixStat l.woff p.1 l.y p.2)) {}
  match met with
  | [] =>
    if l.count < 256 then
      ({ l with count := l.count + 1, stats := tblSet {} l.stats l.count st }, cur ++ [(x0, x1, some l.count)])
    else ({ l with ovf := true }, cur ++ [(x0, x1, none)])
  | k :: more =>
    let low := more.foldl min k
    let l1 := ((k :: more).eraseDups.filter (· != low)).foldl (fun l o => l.rename o low) l
    let fix (r : Nat × Nat × Option Nat) : Nat × Nat × Option Nat :=
      (r.1, r.2.1, r.2.2.map (fun o => if (k :: more).contains o then low else o))
    ({ l1 with stats := tblSet {} l1.stats low ((tblGet {} l1.stats low).add st) },
      cur.map fix ++ [(x0, x1, some low)])

def Labeller.takeRuns (l : Labeller) (cur : List (Nat × Nat × Option Nat)) :
    List (List (Nat × Nat)) → Labeller × List (Nat × Nat × Option Nat)
  | [] => (l, cur)
  | r :: rest =>
    let p := l.takeRun cur r
    p.1.takeRuns p.2 rest

/-- The line closes (LEOL). -/
def Labeller.close (l : Labeller) : Labeller :=
  let p := l.takeRuns [] (runsOf l.line)
  { p.1 with prev := p.2, line := [], seg := none, y := l.y + 1 }

/-- Statistic `i` of label `k`. -/
def Labeller.stat (l : Labeller) (k i : Nat) : Word :=
  let t := tblGet {} l.stats k
  let lo (v : Nat) : Word := BitVec.ofNat 32 v
  let hi (v : Nat) : Word := BitVec.ofNat 32 (v / 2 ^ 32)
  if 0x1E = i then lo (b2n l.ovf)
  else if 0x1F = i then lo l.count
  else if t.area = 0 then 0
  else match i with
    | 0x00 => lo t.area
    | 0x01 => lo t.sumP
    | 0x02 => lo t.sumW
    | 0x03 => lo t.wx
    | 0x04 => hi t.wx
    | 0x05 => lo t.wy
    | 0x06 => hi t.wy
    | 0x07 => lo t.wxx
    | 0x08 => hi t.wxx
    | 0x09 => lo t.wyy
    | 0x0A => hi t.wyy
    | 0x0B => lo t.wxy
    | 0x0C => hi t.wxy
    | 0x0D => lo (t.xMin % 65536 + t.xMax % 65536 * 65536)
    | 0x0E => lo (t.yMin % 65536 + t.yMax % 65536 * 65536)
    | _ => 0

/-! ### The moment unit (R209) -/

/-- The six sums of one lane. -/
def Moments.add (q : Moments) (w x y : Nat) : Moments :=
  { q with sums := List.zipWith (fun a b => (a + b) % 2 ^ 64) q.sums [w, w * x, w * y, w * x * x, w * y * y, w * x * y],
           count := (q.count + b2n (decide (0 < w))) % 2 ^ 32 }

def Moments.word (q : Moments) (i : Nat) : Word :=
  if i < 12 then BitVec.ofNat 32 (q.sums.getD (i / 2) 0 / 2 ^ (32 * (i % 2)))
  else if i = 12 then BitVec.ofNat 32 q.count else 0

end Sys2Proof.Machine
end

