-- ==== Sys2Proof/Machine/Mast.lean ====
section
/-!
DEFINITION. What happens to a mast around its programs: dispatch (R193 to R196), spar faults and watchdogs (R215 to R218),
self-tests (R220), the scrubber (R185), the fault log (R221) and program changes (R222).
-/

namespace Sys2Proof.Machine

/-! ### Dispatch (R193, R194, R196) -/

/-- The load of a program change ends (R222). -/
def State.loadDone (s : State) (m : Nat) : State :=
  let x := s.ms m
  match x.reload, x.loadTill with
  | some (_, prog, consts), some t =>
    if t ≤ s.fine then
      let x1 := { x with prog := prog.getD x.prog, consts := consts.getD x.consts, reload := none, loadTill := none, woke := false }
      (s.setMs m x1).setFld F.MST_STATUS_RELOAD 0 m
    else s
  | _, _ => s

/-- The frame of a tile. -/
def Mast.frameOf (x : Mast) (t : Tile) : Option MFrame := x.findFrame t.stream t.frame

/-- Whether a tile may be dispatched now: frames stamped at or after a commit point wait for the reload (R222). -/
def Mast.mayStart (x : Mast) (t : Tile) : Bool :=
  match x.reload, x.frameOf t with
  | some (at', _), some f => decide (f.info.stampAt < at')
  | _, some _ => true
  | _, none => false

def Mast.firstOf (x : Mast) (l : List Tile) (cls : Nat) : Option Tile := l.find? (fun t => t.cls = cls && x.mayStart t)

/-- Unreserved slots that run calibration tiles. -/
def State.calRunning (s : State) (m : Nat) : Nat :=
  ((s.ms m).runs.filter (fun r => r.tile.cls = clsCal && !s.slotReserved m r.slot)).length

/-- The tile that goes next, with its slot and whether it passes over a frame-class tile (R193). A tile that is re-run goes on the
engine that has taken its slot, or where its slot is removed on the next of its pool (R216). -/
def State.nextTile (s : State) (m : Nat) : Option (Tile × Nat × Bool) :=
  let x := s.ms m
  let withSlot (t : Tile) : Option (Tile × Nat × Bool) := (s.slotFor m t.cls).map (fun k => (t, k, false))
  let again (t : Tile) : Option (Tile × Nat × Bool) :=
    match t.onSlot.filter (fun k => !tblGet false x.removed k) with
    | some k => if s.slotFree m k then some (t, k, false) else none
    | none => withSlot t
  let r1 := (x.rerun.filter x.mayStart).findSome? again
  let r2 := (x.firstOf x.ready clsMelt).bind withSlot
  let cal := x.firstOf x.ready clsCal
  let frm := x.firstOf x.ready clsFrame
  let calMin := min (s.fld F.MST_CFG_CAL_MIN m) (64 - s.fld F.MST_CFG_MP_SPARS m)
  let blocked := match frm with
    | some t => t.passed
    | none => false
  let r3 := if s.calRunning m < calMin && !blocked then
      (cal.bind withSlot).map (fun c => (c.1, c.2.1, frm.isSome)) else none
  let r4 := frm.bind withSlot
  let r5 := cal.bind withSlot
  r1.orElse fun _ => r2.orElse fun _ => r3.orElse fun _ => r4.orElse fun _ => r5

/-- TILE_DISPATCH: the next tile starts on a slot with the state of R196. -/
def execTileDispatch (m : Fin 16) (dt : Nat) (s : State) : Res :=
  .next (
    let m := m.val
    let s := (s.advance dt).loadDone m
    if !s.hasMast m || !s.domOn m || !s.ready then s
    else match s.nextTile m with
      | none => s
      | some (t, k, pass) =>
        let x := s.ms m
        let e := x.slotEngine k
        let entry := if t.reduce then s.fld F.MST_STREAM_RED_RED_ENTRY m t.stream else s.fld F.MST_STREAM_CFG_ENTRY m t.stream
        let mark (q : Tile) : Tile :=
          if pass && some q = x.firstOf x.ready clsFrame then { q with passed := true } else q
        let x1 := { x with ready := (x.ready.filter (· != t)).map mark, rerun := x.rerun.filter (· != t),
                           runs := x.runs ++ [{ engine := e, slot := k, tile := t, spar := { pc := entry * 4 }, start := s.fine }] }
        let s1 := s.setMs m x1
        if t.late || (t.cls = clsMelt && t.onSlot.isNone && !s.slotReserved m k) then s1.bump .MST_CNT_MP_LATE m else s1)

/-! ### Faults (R215 to R218) -/

/-- The lower of two engines that fail in one clock takes the lower spare (R218). -/
def State.sparFaults (s : State) (m e : Nat) (cause : SparCause) (also : Option (Fin 66 × SparCause)) : State :=
  match also with
  | none => s.sparFaultAt m e cause
  | some (e', c') =>
    if e'.val < e then (s.sparFaultAt m e' c').sparFaultAt m e cause else (s.sparFaultAt m e cause).sparFaultAt m e' c'

/-- SPAR_FAULT (R215, R216): `also` is a fault of another engine in the same clock (R218). -/
def execSparFault (m : Fin 16) (e : Fin 66) (cause : SparCause) (also : Option (Fin 66 × SparCause)) (s : State) : Res :=
  .next (s.sparFaults m e cause (also.filter (fun x => x.1 != e)))

/-- The watchdog limit of a class in spar clocks (R195, R229). -/
def State.watchdog (s : State) (m cls : Nat) : Nat :=
  let us (f : Fld) (top : Nat) : Nat := min top (atLeast1 (s.fld f m))
  fineOfUs (if cls = clsMelt then us F.MST_CLASS_WD_WD_MP 39
    else if cls = clsCal then us F.MST_CLASS_WD_WD_CAL 20
    else us F.MST_CLASS_WD_WD_FRAME 39)

/-- A run reaches its watchdog limit (R217). -/
def State.expire (s : State) (m : Nat) (r : Run) : State :=
  match r.tile.susp with
  | none => (((s.toRerun m r (some (r.engine, r.slot))).setEngine m r.engine 3).replaceEngine m r.slot).2
  | some (e0, k0) =>
    let s1 := ((s.endRun m r.engine).unsuspend m e0 k0).bump .MST_CNT_ABANDON m
    (s1.mastFault m e0 0x7F 6 r.tile.stream r.tile.frame).tileFinal m { r.tile with susp := none } 2

/-- WATCHDOG_EXPIRY (R195, R217): the run has gone on for the limit of its class, clocks on descriptor word 8 apart; one that
stands still there does not expire (R210). With `commit`, a COMMIT at the program counter issues in the same clock and is not
cancelled (R218). -/
def execWatchdogExpiry (m : Fin 16) (e : Fin 66) (dt : Nat) (commit : Bool) (s : State) : Res :=
  .next (
    match s.runOf m e with
    | none => s
    | some r =>
      if r.waitFrom.isSome then s
      else
        let s1 := s.passTo dt (r.start + s.watchdog m r.tile.cls + r.waited)
        match commit, s.sparAt m e r with
        | true, some (.commit _ _ a imm _) => s1.sparEnd m r (commitRes a imm r)
        | _, _ => s1.expire m r)

/-! ### Self-tests, scrubber, fault log, programs -/

/-- SPARE_SELFTEST (R220): once a second, and again where a test was stopped. -/
def execSpareSelftest (m : Fin 16) (e : Fin 66) (dt : Nat) (s : State) : Res :=
  .next (
    let x := s.ms m
    if s.hasMast m && s.domOn m && s.flag F.MST_CFG_SELFTEST_EN m && s.engine m e == 1 && (tblGet none x.testing e).isNone then
      let s1 := s.passTo dt (((tblGet none x.tested e).map (· + fineOfUs 1000000)).getD 0)
      s1.setMs m { x with testing := tblSet none x.testing e (some s1.fine), tested := tblSet none x.tested e (some s1.fine) }
    else s)

/-- SELFTEST_END (R215, R220): 60 µs after its start; a spare that fails is retired. -/
def execSelftestEnd (m : Fin 16) (e : Fin 66) (pass : Bool) (dt : Nat) (s : State) : Res :=
  .next (
    let x := s.ms m
    match tblGet none x.testing e with
    | none => s
    | some t =>
      let s1 := (s.passTo dt (t + fineOfUs 60)).setMs m { x with testing := tblSet none x.testing e none }
      if pass then s1 else s1.retireEngine m e 7 0 0)

/-- SHM_SCRUB (R185): the single-bit errors of a line are corrected and counted. -/
def execShmScrub (m : Fin 16) (line : Fin 32768) (corrected : Nat) (s : State) : Res :=
  .next (
    if s.hasMast m.val && s.domOn m.val && line.val < 32768 then s.bumpBy .MST_CNT_CE (min corrected 8) m.val else s)

/-- MAST_RELOAD (R222, R520): a mast that has woken is loaded within 8 µs of power-good; otherwise, once the tiles of earlier
frames are final, every engine loads the committed copy, in 768 clocks during which RELOAD reads 1. The first command starts the
load, the next one ends it, where no TILE_DISPATCH has (log entry 83). -/
def execMastReload (m : Fin 16) (dt : Nat) (s : State) : Res :=
  .next (
    let x := s.ms m
    match x.reload, x.loadTill with
    | none, _ => s
    | some _, some t => (s.passTo dt t).loadDone m
    | some (at', _, _), none =>
      if x.frames.any (fun f => decide (f.info.stampAt < at') && !f.over && !f.dropped) then s
      else
        let s1 := if x.woke then s.passBy dt (at' + fineOfUs 8 - 768) else s.advance dt
        (s1.setMs m { x with loadTill := some (s1.fine + 768) }).setFld F.MST_STATUS_RELOAD 1 m)

/-- FAULT0_READ (R221): the oldest entry of the log, its frame latched in MST_FAULT1. -/
def execFault0Read (who : Requester) (m : Fin 16) (s : State) : Res :=
  .next (s.readGate who 3 m.val 1 (
    let x := s.ms m.val
    match x.log with
    | [] => s.emit (.reply 0)
    | (w, f) :: rest =>
      let s1 := (s.setMs m.val { x with log := rest }).wr .MST_FAULT1 f m.val
      (s1.setFld F.MST_STATUS_FAULT_PENDING (b2n !rest.isEmpty) m.val).emit (.reply w)))

end Sys2Proof.Machine
end

