-- ==== Sys2Proof/Machine/TimeOps.lean ====
section
/-!
DEFINITION. Shared operations of the time unit: the time base and its steps (R463 to R465, R476), time stamps at the cage (R469),
the best master and the states of port instances (R466 to R468), the states of the domains and what drives FREQ (R471 to R473),
schedules (R474, R475), the stay rings (R478 to R481).
-/

namespace Sys2Proof.Machine

/-! ### Parts -/

def State.dom (s : State) (d : Nat) : PtpDom := tblGet {} s.tim.doms d
def State.setPtpDom (s : State) (d : Nat) (x : PtpDom) : State := { s with tim := { s.tim with doms := tblSet {} s.tim.doms d x } }
def State.inst (s : State) (d p : Nat) : PtpInst := tblGet {} s.tim.insts (2 * d + p)
def State.setInst (s : State) (d p : Nat) (x : PtpInst) : State :=
  { s with tim := { s.tim with insts := tblSet {} s.tim.insts (2 * d + p) x } }
def State.sched (s : State) (k : Nat) : Sched := tblGet {} s.tim.sch k
def State.setSched (s : State) (k : Nat) (x : Sched) : State := { s with tim := { s.tim with sch := tblSet {} s.tim.sch k x } }
def State.ring (s : State) (r : Nat) : RingPort := tblGet {} s.tim.rings r
def State.setRing (s : State) (r : Nat) (x : RingPort) : State := { s with tim := { s.tim with rings := tblSet {} s.tim.rings r x } }

/-- Whether the time unit runs (R403, R483). -/
def State.timOn (s : State) : Bool := s.ready && s.domOn 77

/-! ### Schedules (R474 to R476) -/

def schOneShot : Nat := 1
def schPeriodic : Nat := 2

def Sched.mode (x : Sched) : Nat := getBits x.cfg 0 2

/-- Instant `n` of a schedule. -/
def Sched.inst (x : Sched) (n : Nat) : Nat := if x.mode = schPeriodic then x.start + n * x.period else x.start

/-- Whether instant `n` is one of the schedule's. -/
def Sched.has (x : Sched) (n : Nat) : Bool :=
  if x.mode = schPeriodic then x.count = 0 || decide (n < x.count) else n = 0

/-- The level of TOUT for a state. -/
def Sched.level (x : Sched) (active : Bool) : Bool := active != natBit x.cfg.toNat 3

/-- A schedule fires for its instant `at0` (R117, R474): its event, the trigger and strobe causes, LATE and the pin. -/
def State.schFire (s : State) (k at0 : Nat) (late : Bool) : State :=
  let x := s.sched k
  let s1 := if late then s.setFld F.TIM_SCH_STATUS_LATE 1 k else s
  let s2 := s1.publish (0x1D0 + k) 0 (BitVec.ofNat 48 at0)
  let s3 := (s2.strobeSchedule k at0).trigSource 4 k at0 late
  if natBit x.cfg.toNat 2 then
    let on := max s.fine at0
    (s3.setSched k { s3.sched k with pulse := some (on + x.width) }).emit (.tout k true (x.level true) on)
  else s3

/-- The schedule goes on with instant `n`, or has none left and disarms itself. -/
def State.schNext (s : State) (k n : Nat) (last : Option Nat) : State :=
  let x := s.sched k
  let more := x.has n
  (s.setSched k { x with next := n, last := last, armed := more }).setFld F.TIM_SCH_STATUS_ARMED (b2n more) k

/-- The pin of a schedule that is neither armed nor pulsing follows POL (R482). -/
def State.schIdle (s : State) (k : Nat) : State :=
  let x := s.sched k
  let y := { x with cfg := s.rd .TIM_SCH_CFG k }
  if x.armed || x.pulse.isSome then s
  else if x.level false = y.level false then s.setSched k y
  else (s.setSched k y).emit (.tout k false (y.level false) s.fine)

/-- DISARM (R474). -/
def State.schDisarm (s : State) (k : Nat) : State :=
  let x := s.sched k
  let s1 := (s.setSched k { x with armed := false, pulse := none }).setFld F.TIM_SCH_STATUS_ARMED 0 k
  (if x.pulse.isSome then s1.emit (.tout k false (x.level false) s1.fine) else s1).schIdle k

/-- A forward step passes instants (R476): one firing, LATE, for the last of them. -/
def State.schStep (before k : Nat) (s : State) : State :=
  let x := s.sched k
  if !x.armed || s.fine ≤ before || s.fine < x.inst x.next then s
  else
    let m0 := if x.mode = schPeriodic then (s.fine - x.start) / max 1 x.period else 0
    let m := if x.mode = schPeriodic && x.count ≠ 0 then min m0 (x.count - 1) else m0
    let s1 := (s.bumpFld F.TIM_SCH_STATUS_MISSED (m - x.next) k).schFire k (x.inst m) true
    s1.schNext k (m + 1) (some (x.inst m))

/-- The time base takes a value (R465, R476). -/
def State.stepTo (s : State) (f : Nat) : State :=
  let d := clampInt (-2147483648) 2147483647 ((f : Int) - s.fine)
  let s1 := (({ s with fine := f }.setFld F.TIM_STATUS_STEPPED 1).wr .TIM_LAST_STEP (BitVec.ofInt 32 d))
  State.eachOf (State.schStep s.fine) (List.range 8) s1

/-! ### Time stamps at the cage (R469), in units of 1/655,360 ns -/

def nsUnit : Int := 655360
def fineUnit : Int := 524288

/-- The receive stamp of a message whose start of frame passes now. -/
def State.rxStamp (s : State) (p : Nat) : Int :=
  ((s.fine : Int) - s.fld F.TIM_PORT_LAT_RX_LAT p) * fineUnit - sext 16 (s.fld F.TIM_PORT_ASYM_RX_ASYM p) * 65536

/-- The transmit stamp of a message whose start of frame passes at an instant. -/
def State.txStamp (s : State) (p f : Nat) : Int :=
  ((f : Int) + s.fld F.TIM_PORT_LAT_TX_LAT p) * fineUnit + sext 16 (s.fld F.TIM_PORT_ASYM_TX_ASYM p) * 65536

/-- The time a message carries, with corrections in 2^-16 ns. -/
def msgTime (m : PtpMsg) : Int := ((m.sec.toNat * 1000000000 + m.ns.toNat : Nat) : Int) * nsUnit
def corrUnits (c : Int) : Int := c * 10

/-- A stamp as the seconds, nanoseconds and 2^-16 ns of a message. -/
def stampParts (t : Int) : Nat × Nat × Int :=
  let ns := (t / nsUnit).toNat
  (ns / 1000000000, ns % 1000000000, t % nsUnit / 10)

/-! ### Data sets and port states (R466 to R468) -/

/-- The ports that ROLE uses. -/
def State.ptpUses (s : State) (p : Nat) : Bool :=
  match s.fld F.TIM_CFG_ROLE with
  | 1 => p = 1
  | 2 => decide (p < 2)
  | _ => p = 0

/-- Whether a 10GBASE-R port is up. -/
def State.netUp (s : State) (p : Nat) : Bool :=
  s.timOn && s.domOn (66 + p) && s.flag F.TIM_PORT_CFG_PORT_EN p && s.flag F.TIM_PORT_STATUS_LINK p

def psInit : Nat := 1
def psFaulty : Nat := 2
def psListening : Nat := 4
def psPreMaster : Nat := 5
def psMaster : Nat := 6
def psPassive : Nat := 7
def psUncalibrated : Nat := 8
def psSlave : Nat := 9

def State.portState (s : State) (d p : Nat) : Nat :=
  s.fld (if p = 0 then F.TIM_DOM_STATUS_PORT0 else F.TIM_DOM_STATUS_PORT1) d
def State.setPortState (s : State) (d p v : Nat) : State :=
  s.setFld (if p = 0 then F.TIM_DOM_STATUS_PORT0 else F.TIM_DOM_STATUS_PORT1) v d

/-- The intervals of a domain as master, clamped (R467). -/
def State.logSync (s : State) (d : Nat) : Int := clampInt (-4) 1 (sext 8 (s.fld F.TIM_DOM_INTV_SYNC d))
def State.logAnnounce (s : State) (d : Nat) : Int := clampInt 0 4 (sext 8 (s.fld F.TIM_DOM_INTV_ANNOUNCE d))
def State.logDelay (s : State) (d : Nat) : Int := clampInt (-4) 5 (sext 8 (s.fld F.TIM_DOM_INTV_DELAY_REQ d))

/-- The fine counts of an interval of 2^`log` seconds. -/
def intervalOf (log : Int) : Nat := if 0 ≤ log then finePerSec * 2 ^ log.toNat else finePerSec / 2 ^ (-log).toNat

/-- The domain's own data set. -/
def State.ownClock (s : State) (d : Nat) : PtpClock where
  priority1 := BitVec.ofNat 8 (s.fld F.TIM_DOM_CFG_PRIORITY1 d)
  clockClass := BitVec.ofNat 8 (s.fld F.TIM_DOM_CLASS_CLASS d)
  accuracy := BitVec.ofNat 8 (s.fld F.TIM_DOM_CLASS_ACCURACY d)
  variance := BitVec.ofNat 16 (s.fld F.TIM_DOM_CLASS_VARIANCE d)
  priority2 := BitVec.ofNat 8 (s.fld F.TIM_DOM_CFG_PRIORITY2 d)
  identity := s.fuse.eui

/-- A clock as the numbers the data set comparison takes in turn, the lower the better. -/
def clockRank (c : PtpClock) : List Nat :=
  [c.priority1.toNat, c.clockClass.toNat, c.accuracy.toNat, c.variance.toNat, c.priority2.toNat, c.identity.toNat]

/-- Whether a list of numbers comes first. -/
def lexLess : List Nat → List Nat → Bool
  | a :: as, b :: bs => decide (a < b) || (a == b && lexLess as bs)
  | _, _ => false

/-- A data set with what the topology comparison looks at: stepsRemoved, identity of sender and its port, receiving port. -/
structure DataSet where
  gm : PtpClock
  topo : List Nat
  deriving DecidableEq, Repr

/-- Whether `a` is better than `b`: by the grandmaster, or by topology where both name the same one. -/
def DataSet.better (a b : DataSet) : Bool :=
  if a.gm.identity = b.gm.identity then lexLess a.topo b.topo else lexLess (clockRank a.gm) (clockRank b.gm)

def Foreign.dataSet (f : Foreign) (p : Nat) : DataSet := ⟨f.gm, [f.steps, f.clock.toNat, f.port.toNat, p + 1]⟩

/-- The best of a list of foreign masters, each with the port it was heard on; two Announces qualify one. -/
def bestForeign : List (Foreign × Nat) → Option (Foreign × Nat)
  | [] => none
  | f :: rest =>
    let q := decide (2 ≤ f.1.seen.length) && decide (f.1.steps < 255)
    match bestForeign rest with
    | none => if q then some f else none
    | some g => if q && (f.1.dataSet f.2).better (g.1.dataSet g.2) then some f else some g

def State.foreignOf (s : State) (d p : Nat) : List (Foreign × Nat) := (s.inst d p).foreign.map (fun f => (f, p))

/-- The best master heard on any port in use. -/
def State.bestMaster (s : State) (d : Nat) : Option (Foreign × Nat) :=
  bestForeign (((List.range 2).filter (fun p => s.ptpUses p && s.netUp p)).flatMap (s.foreignOf d))

/-- The state that the standard's decision gives port `p` of domain `d`. -/
def State.decidePort (s : State) (d p : Nat) : Nat :=
  let own : DataSet := ⟨s.ownClock d, [0, s.fuse.eui.toNat, 0, 0]⟩
  let slaveOnly := s.flag F.TIM_DOM_CFG_SLAVE_ONLY d
  let master := if slaveOnly then psListening else psMaster
  let here := bestForeign (s.foreignOf d p)
  let now := s.portState d p
  match s.bestMaster d with
  | none => if now = psMaster || now = psPreMaster then (if slaveOnly then psListening else now) else psListening
  | some b =>
    let hereSet := here.map (fun f => f.1.dataSet f.2)
    let ownBeats (x : DataSet) : Bool := own.better x
    if 1 ≤ own.gm.clockClass.toNat && own.gm.clockClass.toNat ≤ 127 && !slaveOnly then
      match hereSet with
      | some h => if ownBeats h then psMaster else psPassive
      | none => psMaster
    else if !slaveOnly && ownBeats (b.1.dataSet b.2) then master
    else if b.2 = p then (if (s.dom d).measured then psSlave else psUncalibrated)
    else match hereSet with
      | some h => if h.gm.identity = b.1.gm.identity then psPassive
        else if slaveOnly then psListening
        else if now = psMaster then psMaster else psPreMaster
      | none => if slaveOnly then psListening else if now = psMaster then psMaster else psPreMaster

/-! ### Domain states and FREQ (R471 to R473) -/

def dsDisabled : Nat := 0
def dsListening : Nat := 1
def dsAcquiring : Nat := 2
def dsLocked : Nat := 3
def dsLost : Nat := 4

def State.domState (s : State) (d : Nat) : Nat := s.fld F.TIM_DOM_STATUS_STATE d
def State.ptpSource (s : State) : Bool := s.flag F.TIM_CFG_TIME_SRC
def State.activeDom (s : State) : Nat := s.fld F.TIM_STATUS_ACTIVE
def State.freq (s : State) : Int := s.sgn .TIM_FREQ
def State.domFreq (s : State) (d : Nat) : Int := s.sgn .TIM_DOM_FREQ d

/-- 64 s in fine counts. -/
def holdWindow : Nat := 64 * 1250000000

/-- The history of FREQ back to an instant, and the change before it. -/
def pruneFreq (lo : Nat) : List (Nat × Int) → List (Nat × Int)
  | [] => []
  | e :: rest => if e.1 ≤ lo then [e] else e :: pruneFreq lo rest

/-- FREQ takes a value, within ±100 ppm (R464). -/
def State.setFreq (s : State) (f : Int) : State :=
  let v := clampInt (-409600000) 409600000 f
  { s with tim := { s.tim with freqs := (s.fine, v) :: pruneFreq (s.fine - holdWindow) s.tim.freqs } }.wr .TIM_FREQ (BitVec.ofInt 32 v)

/-- FREQ × fine counts, from `lo` to `hi`. -/
def freqArea (lo hi : Nat) : List (Nat × Int) → Int
  | [] => 0
  | e :: rest =>
    if hi ≤ lo then 0
    else
      let a := max lo (min hi e.1)
      e.2 * ((hi : Int) - a) + freqArea lo a rest

/-- The mean of FREQ over the last 64 s. -/
def State.meanFreq (s : State) : Int :=
  let lo := s.fine - holdWindow
  if s.fine = lo then s.freq else divRound (freqArea lo s.fine s.tim.freqs) (s.fine - lo)

/-- 0.1 ppb in units of 2^-12 ppb, rounded down. -/
def tenthPpb : Int := 409

/-- The active domain becomes `d` by a switch (R473). -/
def State.switchTo (s : State) (d : Nat) : State :=
  let f := clampInt (s.freq - tenthPpb) (s.freq + tenthPpb) (s.domFreq d)
  let s1 := (((s.setFld F.TIM_STATUS_ACTIVE d).setFld F.TIM_STATUS_HOLDOVER 0).setFld F.TIM_STATUS_SWITCHED 1).setFreq f
  { s1 with tim := { s1.tim with slew := some s1.freq } }.publish 0x1DA d s1.now48

/-- A domain changes its state, and the active domain may change with it (R471, R473). -/
def State.domGoto (s : State) (d new : Nat) : State :=
  let old := s.domState d
  let s1 := s.setFld F.TIM_DOM_STATUS_STATE new d
  if old = new || !s1.ptpSource then s1
  else
    let other := 1 - d
    let a := s1.activeDom
    if new = dsLocked then
      let s2 : State := if s1.flag F.TIM_STATUS_HOLDOVER then
          { (s1.setFld F.TIM_STATUS_ACTIVE d).setFld F.TIM_STATUS_HOLDOVER 0 with tim := { s1.tim with slew := none } }
        else s1
      if s2.activeDom = d then s2.setFld F.TIM_STATUS_SYNCED 1 else s2
    else if d ≠ a then s1
    else if (old = dsLocked || new = dsLost) && s1.domState other = dsLocked then s1.switchTo other
    else if new = dsLost then (s1.setFreq s1.meanFreq).setFld F.TIM_STATUS_HOLDOVER 1
    else s1

/-- ALIGNED of both domains (R472). -/
def State.alignOne (d : Nat) (s : State) : State :=
  let ok := d ≠ s.activeDom && s.domState d = dsLocked
    && decide ((s.dom d).offset.natAbs ≤ s.fld F.TIM_SERVO_LIM_ALIGN_NS * 655360)
    && decide ((s.domFreq d - s.freq).natAbs * 10 ≤ 4096)
  s.setFld F.TIM_DOM_STATUS_ALIGNED (b2n ok) d

def State.alignShow (s : State) : State := State.eachOf State.alignOne [0, 1] s

/-- The domain follows the master of its best data set, or another grandmaster (R471). -/
def State.follow (s : State) (d : Nat) (b : Option (Foreign × Nat)) : State :=
  match b with
  | none => s
  | some f =>
    let x := s.dom d
    let same := x.master = some (f.1.clock, f.1.port)
    let changed := match x.gm with
      | some g => g.identity != f.1.gm.identity
      | none => false
    let id := f.1.gm.identity
    let y := { x with master := some (f.1.clock, f.1.port), gm := some f.1.gm, steps := f.1.steps }
    let y := if same then y else { y with measured := false, last := none, good := 0, bad := 0, syncAt := s.fine }
    let s1 := ((s.setPtpDom d (if changed then { y with good := 0, bad := 0 } else y)).wr .TIM_DOM_GM_LO (id.setWidth 32) d).wr
      .TIM_DOM_GM_HI ((id >>> 32).setWidth 32) d
    let s2 := if changed then s1.setFld F.TIM_DOM_STATUS_GM_CHANGED 1 d else s1
    if s2.domState d = dsListening || s2.domState d = dsLost || changed || (!same && s2.domState d = dsLocked) then
      s2.domGoto d dsAcquiring
    else s2

/-- The states of a domain's port instances, and the master it follows. -/
def State.instUpdate (d p : Nat) (s : State) : State :=
  if !s.ptpUses p then s.setPortState d p 0
  else if !s.netUp p then (s.setInst d p { s.inst d p with foreign := [] }).setPortState d p psFaulty
  else
    let now := s.portState d p
    let new := s.decidePort d p
    if new = psPreMaster then
      if now != psPreMaster then
        let wait := ((s.dom d).steps + 1) * intervalOf (s.logAnnounce d)
        (s.setInst d p { s.inst d p with preEnd := s.fine + wait }).setPortState d p psPreMaster
      else if (s.inst d p).preEnd ≤ s.fine then s.setPortState d p psMaster
      else s
    else s.setPortState d p new

def State.ptpUpdate (s : State) (d : Nat) : State :=
  if !s.flag F.TIM_DOM_CFG_EN d then s
  else
    let own : DataSet := ⟨s.ownClock d, [0, s.fuse.eui.toNat, 0, 0]⟩
    let b := s.bestMaster d
    let ours := match b with
      | some f => !s.flag F.TIM_DOM_CFG_SLAVE_ONLY d &&
          (own.better (f.1.dataSet f.2) || (1 ≤ own.gm.clockClass.toNat && own.gm.clockClass.toNat ≤ 127))
      | none => true
    let s1 := if ours then s else s.follow d b
    (State.eachOf (State.instUpdate d) [0, 1] s1).alignShow

/-! ### The servo (R472) -/

/-- The offset `o` of domain `d` is measured: its state, its estimate, and FREQ. `met` says that the other domain qualifies for the
acquisition step in the same clock: domain 0 is taken (R473). -/
def State.servo (s : State) (d : Nat) (o : Int) (logSync : Int) (met : Bool) : State :=
  let x := s.dom d
  let first := !x.measured
  let lock := s.fld F.TIM_SERVO_LIM_LOCK_NS * 655360
  let good := if o.natAbs ≤ lock then x.good + 1 else 0
  let bad := if 4 * lock < o.natAbs then x.bad + 1 else 0
  let scale (k : Nat) : Int := -- k × o_d for each second of the sync interval, in 2^-28 ppb
    if 0 ≤ logSync then divRound ((k : Int) * o * 4096 * 2 ^ logSync.toNat) 655360
    else divRound ((k : Int) * o * 4096) (655360 * 2 ^ (-logSync).toNat)
  let integ := x.integ + scale (s.fld F.TIM_DOM_SERVO_KI d)
  let f := clampInt (-2147483648) 2147483647 (divRound (integ + scale (s.fld F.TIM_DOM_SERVO_KP d)) 65536)
  let off := clampInt (-2147483648) 2147483647 (divRound o 2560)
  let s1 := ((s.setPtpDom d { x with measured := true, offset := o, integ := integ, good := good, bad := bad, logSync := logSync }).wr
    .TIM_DOM_FREQ (BitVec.ofInt 32 f) d).wr .TIM_DOM_OFFSET (BitVec.ofInt 32 off) d
  let acquire := first && !(met && d == 1) && s1.ptpSource && !s1.flag F.TIM_STATUS_SYNCED
    && decide ((s1.rd .TIM_STEP_NS).toNat * 655360 < o.natAbs)
  let s2 := if acquire then (s1.setFld F.TIM_STATUS_ACTIVE d).stepTo ((s1.fine : Int) - divRound o 524288).toNat else s1
  let st := s2.domState d
  let s3 := if st = dsLocked && 4 ≤ bad then (s2.setPtpDom d { s2.dom d with good := 0, bad := 0 }).domGoto d dsAcquiring
    else if st != dsLocked && 16 ≤ good then s2.domGoto d dsLocked
    else if st = dsLost || st = dsListening then s2.domGoto d dsAcquiring
    else s2
  let s4 : State :=
    if !s3.ptpSource || s3.activeDom ≠ d || s3.flag F.TIM_STATUS_HOLDOVER then s3
    else match s3.tim.slew with
      | some f0 =>
        if o.natAbs ≤ 655360 then { s3 with tim := { s3.tim with slew := none } }.setFreq f
        else
          let w : Int := atLeast1 (s3.fld F.TIM_SERVO_LIM_SWITCH_SLEW) * 4096 / 10
          s3.setFreq (clampInt (f0 - w) (f0 + w) f)
      | none => s3.setFreq f
  (State.eachOf (State.instUpdate d) [0, 1] s4).alignShow

/-- A Sync of origin time `t1` received at `t2` (R471): an offset where the path is known. -/
def State.measure (s : State) (d : Nat) (t1 t2 logSync : Int) (met : Bool) : State :=
  let x := s.dom d
  let s1 := s.setPtpDom d { x with last := some (t1, t2), syncAt := s.fine }
  match x.path with
  | none => s1
  | some path => s1.servo d (t1 + path - t2) logSync met

/-- The mean path delay of domain `d` (R471), also as TIM_DOM_PATH shows it. -/
def State.setPath (s : State) (d : Nat) (v : Int) : State :=
  (s.setPtpDom d { s.dom d with path := some v }).wr .TIM_DOM_PATH
    (BitVec.ofInt 32 (clampInt 0 4294967295 (divRound v 2560))) d

/-! ### Stay rings (R478 to R481) -/

/-- Whether ring `r` runs: enabled, powered and its bypass open. -/
def State.ringOn (s : State) (r : Nat) : Bool :=
  s.ready && s.domOn 79 && s.flag F.TIM_RING_CFG_EN r && !s.flag F.TIM_RING_STATUS_BYPASS_CLOSED r

/-- The nibbles of a message with its CRC12 (R478), inverted where `bad`. -/
def ringNibs (origin hops code flags : Nat) (bad : Bool) : List (BitVec 4) :=
  let l := [origin % 16, origin / 16 % 16, hops % 16, hops / 16 % 16, code % 16, code / 16 % 16, flags]
  let c := if bad then crc12 l ^^^ 0xFFF else crc12 l
  (l ++ [c % 16, c / 16 % 16, c / 256 % 16]).map (BitVec.ofNat 4)

/-- A message of 480 ns with the two IDLE groups after it. -/
def ringLength : Nat := 600
def ringGap : Nat := 100

/-- The code groups of a message (R478). -/
def ringGroups (nibs : List (BitVec 4)) : List (BitVec 5) := delimiter ++ nibs.map (fun k => codeGroups.getD k.toNat 0)

/-- The starts of the messages that wait to be forwarded. -/
def State.ringHeld (s : State) (r : Nat) : List Nat := (s.ring r).starts.filter (fun t => decide (s.fine < t))

/-- A message goes out to be forwarded once the line is free, DELAYED where one of its own held it back (R480). -/
def State.ringPass (s : State) (r : Nat) (m : RingMsg) : State :=
  let x := s.ring r
  let at0 := max m.out x.lineFree
  let flags := if m.out < x.ownEnd then m.flags % 2 ||| 1 else m.flags % 2
  (s.setRing r { x with starts := s.ringHeld r ++ [at0], lineFree := at0 + ringLength + ringGap }).emit
    (.ring r at0 (ringGroups (ringNibs m.origin (m.hops + 1) m.code flags m.bad)))

/-- A second message that waits goes out where none of its own can come before it any more (R480, log entry 38). -/
def State.ringSecond (s : State) (r : Nat) : State :=
  let x := s.ring r
  match x.second with
  | none => s
  | some m => if x.lineFree ≤ s.fine + 20 then (s.setRing r { x with second := none }).ringPass r m else s

/-- A message of its own goes out on ring `r` (R480): 16 to 56 ns from now where the line is idle, at a free instant; behind one
forwarded message at most, and a second one that waits goes out after it. -/
def State.ringSend (s0 : State) (r code : Nat) : State :=
  let s := s0.ringSecond r
  let x := s.ring r
  if !s.ringOn r || x.own.isSome then s
  else
    let f := s.freeBits 8
    let at0 := max (s.fine + 20 + f.1.toNat % 51) x.lineFree
    let free := at0 + ringLength + ringGap
    let s1 := (f.2.setRing r { x with own := some at0, ownEnd := free, lineFree := free, second := none }).emit
      (.ring r at0 (ringGroups (ringNibs (s.fld F.TIM_RING_CFG_RING_ID r) 0 code 0 false)))
    match x.second with
    | some m => s1.ringPass r m
    | none => s1

/-- The bypass of ring `r` follows EN and PD79 (R481). -/
def State.ringFollow (r : Nat) (s : State) : State :=
  let x := s.ring r
  let closed := s.flag F.TIM_RING_STATUS_BYPASS_CLOSED r
  let on := s.ready && s.domOn 79 && s.flag F.TIM_RING_CFG_EN r
  if !on then
    let s1 := (s.setRing r {}).setFld F.TIM_RING_STATUS_BYPASS_CLOSED 1 r
    if closed then s1 else s1.emit (.bypass r true)
  else if closed && x.idleAt.isNone then s.setRing r { x with idleAt := some s.fine }
  else s

/-! ### Configuration and power -/

/-- Whether TX_DISABLE of port `p` is asserted (R470, R482). -/
def State.txDisabled (s : State) (p : Nat) : Bool := !(s.ready && s.domOn (66 + p) && s.flag F.TIM_PORT_CFG_PORT_EN p)

/-- A domain follows EN, and its instances the ports in use. -/
def State.domFollow (before : State) (d : Nat) (s : State) : State :=
  let was := before.timOn && before.flag F.TIM_DOM_CFG_EN d
  let on := s.timOn && s.flag F.TIM_DOM_CFG_EN d
  let clear (s : State) : State := ((s.setPtpDom d {}).setInst d 0 {}).setInst d 1 {}
  if was && !on then ((clear s).domGoto d dsDisabled).setPortState d 0 0 |>.setPortState d 1 0
  else if !was && on then
    let s1 := (clear s).domGoto d dsListening
    let up (p : Nat) (s : State) : State := (s.setInst d p { heardAt := s.fine }).setPortState d p (if s.netUp p then psInit else psFaulty)
    State.eachOf (fun p s => if s.ptpUses p then up p s else s) [0, 1] s1
  else if on then State.eachOf (State.instUpdate d) [0, 1] s
  else s

/-- The time unit brought up to date after its registers or its domains have changed. -/
def State.timFollow (before s : State) : State :=
  let s1 := State.eachOf (State.domFollow before) [0, 1] s
  let s2 := State.eachOf State.ringFollow [0, 1] s1
  (State.eachOf (fun p s => if before.txDisabled p != s.txDisabled p then s.emit (.txDisable p (s.txDisabled p)) else s) [0, 1]
    s2).alignShow

end Sys2Proof.Machine
end

