-- ==== Sys2Proof/Machine/Time.lean ====
section
/-!
DEFINITION. The commands of the time unit: the time base (R465, R484), PTP messages and timers (R466 to R473), modules (R470),
schedules and captures (R474 to R477), the stay rings (R478 to R481).
-/

namespace Sys2Proof.Machine

/-! ### The time base -/

/-- The value of TIM_SET. -/
def State.timSet (s : State) : Nat :=
  ((s.rd .TIM_SET_SEC_HI).toNat * 2 ^ 32 + (s.rd .TIM_SET_SEC_LO).toNat) * finePerSec + (s.rd .TIM_SET_SUB).toNat

/-- STEP of TIM_CMD (R465). -/
def State.timStep (s : State) : State :=
  if finePerSec ≤ (s.rd .TIM_SET_SUB).toNat then s.setFld F.TIM_STATUS_CMD_REFUSED 1
  else (s.stepTo s.timSet).setFld F.TIM_STATUS_SYNCED 0

def execTimeStep (who : Requester) (s : State) : Res := .next (s.writeGate who .TIM_CMD 0 s.timStep)

/-- SWITCH of TIM_CMD (R473). `met` says that a switch happens in the same clock: the two make one. -/
def State.timSwitch (s : State) (met : Bool) : State :=
  let other := 1 - s.activeDom
  if met then s
  else if s.ptpSource && s.flag F.TIM_DOM_STATUS_ALIGNED other then (s.switchTo other).alignShow
  else s.setFld F.TIM_STATUS_CMD_REFUSED 1

def execTimSwitch (who : Requester) (met : Bool) (s : State) : Res := .next (s.writeGate who .TIM_CMD 0 (s.timSwitch met))

/-- A read of TIM_NOW_SEC_LO (R484). -/
def execNowSecLoRead (who : Requester) (s : State) : Res :=
  .next (s.readGate who 12 0 1
    (((s.wr .TIM_NOW_SEC_HI (BitVec.ofNat 32 (secOf s.fine / 2 ^ 32))).wr .TIM_NOW_SUB
      (BitVec.ofNat 32 (s.fine % finePerSec))).emit (.reply (BitVec.ofNat 32 (secOf s.fine % 2 ^ 32)))))

/-- A read of TIM_CAP_SEC_LO (R477, R484). -/
def execCapSecLoRead (who : Requester) (i : Fin 8) (s : State) : Res :=
  .next (s.readGate who 12 i 1 (
    let t := tblGet 0 s.tim.cap i.val
    (((s.wr .TIM_CAP_SEC_HI (BitVec.ofNat 32 (secOf t / 2 ^ 32)) i).wr .TIM_CAP_SUB
      (BitVec.ofNat 32 (t % finePerSec)) i).setFld F.TIM_CAP_STATUS_VALID 0 i).emit (.reply (s.rd .TIM_CAP_SEC_LO i))))

/-- A capture task takes an event of instant `t` (R477). -/
def State.timCapture (s : State) (i t : Nat) : State :=
  let s1 := if s.flag F.TIM_CAP_STATUS_VALID i then s.setFld F.TIM_CAP_STATUS_OVW 1 i else s
  { s1 with tim := { s1.tim with cap := tblSet 0 s1.tim.cap i t } }.wr .TIM_CAP_SEC_LO (BitVec.ofNat 32 (secOf t % 2 ^ 32)) i
    |>.setFld F.TIM_CAP_STATUS_VALID 1 i

/-! ### PTP messages received (R466) -/

/-- The domain a message on port `p` belongs to; none where R466 discards it. -/
def State.ptpDomain (s : State) (p : Nat) (m : PtpMsg) : Option Nat :=
  (List.range 2).find? (fun d =>
    let t := s.fld F.TIM_DOM_CFG_TRANSPORT d
    s.flag F.TIM_DOM_CFG_EN d && s.ptpUses p && !m.tagged && !m.unicast && s.fld F.TIM_DOM_CFG_DOMAIN_NUMBER d = m.dom.toNat
      && (if t = 3 then 0 else t) = m.transport.toNat)

/-- A PTP message comes in on port `p`: it is counted as accepted or as discarded. -/
def State.ptpIn (s : State) (p dt : Nat) (m : PtpMsg) (k : Nat → State → State) : State :=
  let s := s.advance dt
  if !s.netUp p then s
  else match s.ptpDomain p m with
    | none => s.bump .TIM_PORT_CNT_DISCARD p
    | some d => k d (s.bump .TIM_PORT_CNT_PTP p)

/-- Whether a message is from the master that domain `d` follows on port `p`. -/
def State.fromMaster (s : State) (d p : Nat) (m : PtpMsg) : Bool :=
  let st := s.portState d p
  (st = psSlave || st = psUncalibrated) && (s.dom d).master = some (m.clock, m.port)

/-- Whether a response on port `p` is to this clock. -/
def State.toUs (s : State) (p : Nat) (m : PtpMsg) : Bool := m.reqClock = s.fuse.eui && m.reqPort = BitVec.ofNat 16 (p + 1)

/-- SYNC (R471, R472): one-step at once, two-step with its Follow_Up. `met` says that both domains qualify for the acquisition step
in one clock (R473). -/
def execSync (p : Fin 2) (dt : Nat) (m : PtpMsg) (met : Bool) (s : State) : Res :=
  .next (s.ptpIn p dt m (fun d s =>
    if !s.fromMaster d p m then s
    else
      let t2 := s.rxStamp p
      let ls := clampInt (-7) 4 m.logInt
      if m.twoStep then
        let s1 := s.setPtpDom d { s.dom d with syncAt := s.fine, logSync := ls }
        s1.setInst d p { s1.inst d p with sync := some (m.seqId.toNat, t2, m.corr) }
      else (s.setInst d p { s.inst d p with sync := none }).measure d (msgTime m + corrUnits m.corr) t2 ls met))

/-- FOLLOW_UP (R466), with `met` as in SYNC. -/
def execFollowUp (p : Fin 2) (m : PtpMsg) (met : Bool) (s : State) : Res :=
  .next (s.ptpIn p 0 m (fun d s =>
    match (s.inst d p).sync with
    | some (seq, t2, c) =>
      if s.fromMaster d p m && seq = m.seqId.toNat then
        (s.setInst d p { s.inst d p with sync := none }).measure d (msgTime m + corrUnits (c + m.corr)) t2 (s.dom d).logSync met
      else s
    | none => s))

/-- The foreign masters of a port with an Announce added: those counted lie within four announce intervals. -/
def noteAnnounce (now : Nat) (m : PtpMsg) : List Foreign → List Foreign
  | [] => [⟨m.clock, m.port, m.gm, m.steps.toNat, [now]⟩]
  | f :: rest =>
    if f.clock = m.clock && f.port = m.port then
      let win := 4 * (finePerSec * 2 ^ (clampInt 0 4 m.logInt).toNat)
      { f with gm := m.gm, steps := m.steps.toNat, seen := (now :: f.seen.filter (fun t => decide (now ≤ t + win))).take 8 } :: rest
    else f :: noteAnnounce now m rest

/-- ANNOUNCE (R466, R471). -/
def execAnnounce (p : Fin 2) (dt : Nat) (m : PtpMsg) (s : State) : Res :=
  .next (s.ptpIn p dt m (fun d s =>
    if m.clock = s.fuse.eui then s
    else
      (s.setInst d p { s.inst d p with foreign := noteAnnounce s.fine m (s.inst d p).foreign, heardAt := s.fine }).ptpUpdate d))

/-- A message of domain `d` from this clock's port `p`. -/
def State.ptpMsg (s : State) (d p : Nat) (twoStep : Bool) (seq : Nat) (logInt : Int) : PtpMsg where
  transport := BitVec.ofNat 2 (let t := s.fld F.TIM_DOM_CFG_TRANSPORT d; if t = 3 then 0 else t)
  tagged := false
  unicast := false
  dom := BitVec.ofNat 8 (s.fld F.TIM_DOM_CFG_DOMAIN_NUMBER d)
  twoStep := twoStep
  corr := 0
  clock := s.fuse.eui
  port := BitVec.ofNat 16 (p + 1)
  seqId := BitVec.ofNat 16 seq
  logInt := logInt
  sec := 0
  ns := 0
  reqClock := 0
  reqPort := 0
  gm := s.ownClock d
  steps := 0

/-- A message that carries a time stamp. -/
def withStamp (m : PtpMsg) (t : Int) : PtpMsg :=
  let x := stampParts t
  { m with sec := BitVec.ofNat 48 x.1, ns := BitVec.ofNat 32 x.2.1, corr := m.corr + x.2.2 }

/-- DELAY_REQ (R466): answered by a master. -/
def execDelayReq (p : Fin 2) (dt : Nat) (m : PtpMsg) (s : State) : Res :=
  .next (s.ptpIn p dt m (fun d s =>
    if s.portState d p != psMaster || s.flag F.TIM_DOM_CFG_DELAY_MECH d then s
    else
      let x := stampParts (s.rxStamp p)
      s.emit (.ptp p 9 { s.ptpMsg d p false m.seqId.toNat (s.logDelay d) with
        sec := BitVec.ofNat 48 x.1, ns := BitVec.ofNat 32 x.2.1, corr := m.corr - x.2.2, reqClock := m.clock, reqPort := m.port })))

/-- DELAY_RESP (R466): the path of a request-response measurement. -/
def execDelayResp (p : Fin 2) (m : PtpMsg) (s : State) : Res :=
  .next (s.ptpIn p 0 m (fun d s =>
    let x := s.inst d p
    match x.req, (s.dom d).last with
    | some (seq, t3), some (t1, t2) =>
      if s.fromMaster d p m && s.toUs p m && seq = m.seqId.toNat && !s.flag F.TIM_DOM_CFG_DELAY_MECH d then
        (s.setInst d p { x with req := none, logReq := m.logInt }).setPath d
          ((t2 - t3 + (msgTime m - corrUnits m.corr - t1)) / 2)
      else s
    | _, _ => s))

/-- PDELAY_REQ (R466): answered with Pdelay_Resp and Pdelay_Resp_Follow_Up; how long the answer takes is a free value. -/
def execPdelayReq (p : Fin 2) (dt : Nat) (m : PtpMsg) (s : State) : Res :=
  .next (s.ptpIn p dt m (fun d s =>
    if !s.flag F.TIM_DOM_CFG_DELAY_MECH d then s
    else
      let f := s.freeBits 16
      let x := stampParts (s.rxStamp p)
      let base := { f.2.ptpMsg d p true m.seqId.toNat 127 with reqClock := m.clock, reqPort := m.port }
      let s1 := f.2.emit (.ptp p 3 { base with sec := BitVec.ofNat 48 x.1, ns := BitVec.ofNat 32 x.2.1, corr := -x.2.2 })
      s1.emit (.ptp p 10 (withStamp { base with twoStep := false, corr := m.corr } (s.txStamp p (s.fine + f.1.toNat))))))

/-- The path of a peer-to-peer measurement: request sent `t1`, response received `t4`, time at the peer. -/
def State.peerPath (s : State) (d p : Nat) (t1 t4 turn : Int) : State :=
  (s.setInst d p { s.inst d p with req := none, resp := none }).setPath d ((t4 - t1 - turn) / 2)

/-- PDELAY_RESP (R466). -/
def execPdelayResp (p : Fin 2) (dt : Nat) (m : PtpMsg) (s : State) : Res :=
  .next (s.ptpIn p dt m (fun d s =>
    match (s.inst d p).req with
    | some (seq, t1) =>
      if s.toUs p m && seq = m.seqId.toNat && s.flag F.TIM_DOM_CFG_DELAY_MECH d then
        let t4 := s.rxStamp p - corrUnits m.corr
        if m.twoStep then s.setInst d p { s.inst d p with resp := some (seq, t4, msgTime m) }
        else s.peerPath d p t1 t4 0
      else s
    | none => s))

/-- PDELAY_RESP_FOLLOW_UP (R466). -/
def execPdelayRespFollowUp (p : Fin 2) (m : PtpMsg) (s : State) : Res :=
  .next (s.ptpIn p 0 m (fun d s =>
    match (s.inst d p).req, (s.inst d p).resp with
    | some (_, t1), some (seq, t4, t2) =>
      if s.toUs p m && seq = m.seqId.toNat then s.peerPath d p t1 t4 (msgTime m - t2 + corrUnits m.corr) else s
    | _, _ => s))

/-! ### PTP messages sent (R467) -/

/-- PRE_MASTER of a port instance ends where it is due. -/
def State.preMasterEnd (d p : Nat) (s : State) : State :=
  if s.portState d p = psPreMaster && (s.inst d p).preEnd ≤ s.fine then s.setPortState d p psMaster else s

/-- A command of port instance `p` of domain `d`: time passes, at least to the instant `due`, and PRE_MASTER ends where it is due. -/
def State.onInst (s : State) (d p dt due : Nat) (k : State → State) : State :=
  if !s.netUp p || !s.flag F.TIM_DOM_CFG_EN d || !s.ptpUses p then s.advance dt
  else k (State.preMasterEnd d p (s.passTo dt due))

/-- SYNC_SEND, one sync interval after the last at the earliest. -/
def execSyncSend (d p : Fin 2) (dt : Nat) (s : State) : Res :=
  .next (s.onInst d p dt ((s.inst d p).syncSent + intervalOf (s.logSync d)) (fun s =>
    if s.portState d p != psMaster then s
    else
      let x := s.inst d p
      let m := s.ptpMsg d p true x.syncSeq (s.logSync d)
      let s1 := (s.setInst d p { x with syncSeq := (x.syncSeq + 1) % 65536, syncSent := s.fine }).emit (.ptp p 0 m)
      s1.emit (.ptp p 8 (withStamp { m with twoStep := false } (s.txStamp p s.fine)))))

/-- ANNOUNCE_SEND: the grandmaster is this clock's own, or that of the master it follows on its other port. -/
def execAnnounceSend (d p : Fin 2) (dt : Nat) (s : State) : Res :=
  .next (s.onInst d p dt ((s.inst d p).annSent + intervalOf (s.logAnnounce d)) (fun s =>
    if s.portState d p != psMaster then s
    else
      let x := s.inst d p
      let other := s.portState d (1 - p.val)
      let m := s.ptpMsg d p false x.annSeq (s.logAnnounce d)
      let m := match (s.dom d).gm with
        | some g => if other = psSlave || other = psUncalibrated then { m with gm := g, steps := BitVec.ofNat 16 ((s.dom d).steps + 1) } else m
        | none => m
      (s.setInst d p { x with annSeq := (x.annSeq + 1) % 65536, annSent := s.fine }).emit (.ptp p 11 m)))

/-- The interval of requests: that of its own of a peer-to-peer domain, else as the master announces it (R467). -/
def State.reqInterval (s : State) (d p : Nat) : Nat :=
  intervalOf (if s.flag F.TIM_DOM_CFG_DELAY_MECH d then s.logDelay d else clampInt (-4) 5 (s.inst d p).logReq)

/-- DELAY_REQ_SEND, one interval after the last at the earliest. -/
def execDelayReqSend (d p : Fin 2) (dt : Nat) (s : State) : Res :=
  .next (s.onInst d p dt ((s.inst d p).reqSent + s.reqInterval d p) (fun s =>
    let x := s.inst d p
    let peer := s.flag F.TIM_DOM_CFG_DELAY_MECH d
    let slave := s.portState d p = psSlave || s.portState d p = psUncalibrated
    if !(peer || slave) then s
    else
      let s1 := s.setInst d p { x with delSeq := (x.delSeq + 1) % 65536, req := some (x.delSeq, s.txStamp p s.fine), resp := none,
                                         reqSent := s.fine }
      s1.emit (.ptp p (if peer then 2 else 1) (s.ptpMsg d p false x.delSeq 127))))

/-- SYNC_LOSS_TIMEOUT (R471): three sync intervals without a Sync. -/
def execSyncLossTimeout (d : Fin 2) (dt : Nat) (s : State) : Res :=
  .next (
    if !s.timOn || (s.domState d != dsAcquiring && s.domState d != dsLocked) then s.advance dt
    else
      let s := s.passTo dt ((s.dom d).syncAt + 3 * intervalOf (s.dom d).logSync)
      ((s.setPtpDom d { s.dom d with good := 0, bad := 0 }).domGoto d dsLost).alignShow)

/-- The announce receipt timeout of a port instance: announceReceiptTimeout, 2 to 10, announce intervals (R467). -/
def State.receiptDue (s : State) (d p : Nat) : Nat :=
  (s.inst d p).heardAt + (clampInt 2 10 (sext 8 (s.fld F.TIM_DOM_INTV_RECEIPT d))).toNat * intervalOf (s.logAnnounce d)

/-- ANNOUNCE_RECEIPT_TIMEOUT (R466, R467, R471): the masters heard on the port are forgotten. -/
def execAnnounceReceiptTimeout (d p : Fin 2) (dt : Nat) (s : State) : Res :=
  .next (s.onInst d p dt (s.receiptDue d p) (fun s =>
    let st := s.portState d p
    let s1 := s.setInst d p { s.inst d p with foreign := [], sync := none, heardAt := s.fine }
    let followed := st = psSlave || st = psUncalibrated
    let s2 := if followed then
        (s1.setPtpDom d { s1.dom d with master := none, good := 0, bad := 0, measured := false, last := none }).domGoto d dsLost
      else s1
    let s3 := if (s2.bestMaster d).isNone && !s2.flag F.TIM_DOM_CFG_SLAVE_ONLY d && st != psFaulty then s2.setPortState d p psMaster
      else s2.setPortState d p psListening
    s3.ptpUpdate d))

/-! ### Ports and modules (R468, R470) -/

/-- PORT_LINK_CHANGE. -/
def execPortLinkChange (p : Fin 2) (up modAbs los txFault : Bool) (s : State) : Res :=
  .next (
    if !s.timOn || !s.domOn (66 + p) then s
    else
      let read := s.flag F.TIM_PORT_STATUS_MOD_READ p && !modAbs
      let was := s.netUp p
      let s1 := s.wr .TIM_PORT_STATUS
        (BitVec.ofNat 32 (b2n up + 2 * b2n modAbs + 4 * b2n los + 8 * b2n txFault + 16 * b2n read)) p
      State.eachOf (fun d s =>
        if !s.flag F.TIM_DOM_CFG_EN d || !s.ptpUses p then s
        else if !s.netUp p then (s.setInst d p { s.inst d p with foreign := [], sync := none, req := none, resp := none }).setPortState d p psFaulty
        else if was then s
        else (s.setInst d p { s.inst d p with heardAt := s.fine }).setPortState d p psInit) [0, 1] s1)

/-- MODULE_INSERT: the A0h window. -/
def execModuleInsert (p : Fin 2) (data : List Byte) (s : State) : Res :=
  .next (
    if !s.domOn (66 + p) then s
    else
      ({ s with tim := { s.tim with a0 := tblSetList 0 s.tim.a0 (256 * p) (takeAt data 0 256),
                                    polled := tblSet 0 s.tim.polled p s.fine } }.setFld
        F.TIM_PORT_STATUS_MOD_ABS 0 p).setFld F.TIM_PORT_STATUS_MOD_READ 1 p)

/-- MODULE_POLL: bytes 96 to 111 of A2h, once a second (R470). -/
def execModulePoll (p : Fin 2) (dt : Nat) (data : List Byte) (s : State) : Res :=
  .next (
    if !s.domOn (66 + p) || s.flag F.TIM_PORT_STATUS_MOD_ABS p then s.advance dt
    else
      let s := s.passTo dt (tblGet 0 s.tim.polled p + finePerSec)
      { s with tim := { s.tim with a2 := tblSetList 0 s.tim.a2 (16 * p) (takeAt data 0 16),
                                   polled := tblSet 0 s.tim.polled p s.fine } })

/-! ### Schedules (R474, R475) -/

/-- The configuration fields of a write of TIM_SCH_CFG. -/
def State.schWrite (s : State) (k : Nat) (v : Word) : State :=
  (s.wr .TIM_SCH_CFG (v &&& Reg.TIM_SCH_CFG.info.rw) k).schIdle k

/-- What ARM copies (R474, R484). -/
def State.schCopy (s : State) (k : Nat) : Sched :=
  let cfg := s.rd .TIM_SCH_CFG k
  let period := max 125 (s.rd .TIM_SCH_PERIOD k).toNat
  let width := atLeast1 (s.rd .TIM_SCH_WIDTH k).toNat
  { armed := true, armAt := s.fine, cfg := cfg, period := period, count := (s.rd .TIM_SCH_COUNT k).toNat,
    start := ((s.rd .TIM_SCH_START_HI k).toNat * 2 ^ 32 + (s.rd .TIM_SCH_START_LO k).toNat) * finePerSec
      + (s.rd .TIM_SCH_START_SUB k).toNat,
    width := if getBits cfg 0 2 = schPeriodic then min width (period - 10) else width,
    pulse := (s.sched k).pulse }

/-- ARM (R475): instants less than 40 ns ahead are skipped in a periodic schedule. -/
def State.schArm (s : State) (k : Nat) : State :=
  let x := s.schCopy k
  if x.mode ≠ schOneShot && x.mode ≠ schPeriodic then ((s.setSched k { x with armed := false }).schDisarm k)
  else if finePerSec ≤ (s.rd .TIM_SCH_START_SUB k).toNat then s.setFld F.TIM_SCH_STATUS_CFG_ERR 1 k
  else
    let n := if x.mode = schPeriodic then (s.fine + 50 - x.start + x.period - 1) / x.period else 0
    (s.setSched k x).schNext k n none

/-- ARM and DISARM of TIM_SCH_CFG: DISARM acts where both are written (R483). -/
def State.schCommand (s : State) (k : Nat) (v : Word) : State :=
  let s1 := s.schWrite k v
  if natBit v.toNat 31 then s1.schDisarm k else if natBit v.toNat 30 then s1.schArm k else s1

def execScheduleArm (who : Requester) (k : Fin 8) (v : Word) (s : State) : Res :=
  .next (s.writeGate who .TIM_SCH_CFG k (s.schCommand k (v ||| 0x40000000)))

def execScheduleDisarm (who : Requester) (k : Fin 8) (v : Word) (s : State) : Res :=
  .next (s.writeGate who .TIM_SCH_CFG k (s.schCommand k (v ||| 0x80000000)))

/-- SCHEDULE_FIRE (R117, R474, R475): the next instant, or within 40 ns of ARM where that is later. -/
def execScheduleFire (k : Fin 8) (dt : Nat) (s : State) : Res :=
  .next (
    let x := s.sched k
    if !x.armed || !s.timOn then s.advance dt
    else
      let at0 := x.inst x.next
      let s1 := (s.passBy dt (max at0 (x.armAt + 50))).passTo 0 at0
      (s1.schFire k at0 (decide (at0 + 150 < s1.fine))).schNext k (x.next + 1) (some at0))

/-- TOUT_PULSE_END (R474). -/
def execToutPulseEnd (k : Fin 8) (dt : Nat) (s : State) : Res :=
  .next (
    let x := s.sched k
    match x.pulse with
    | none => s.advance dt
    | some e => (((s.passTo dt e).setSched k { x with pulse := none }).emit (.tout k false (x.level false) e)).schIdle k)

/-! ### Stay rings (R479 to R481) -/

/-- A message is forwarded (R479, R480): 160 to 168 ns after its arrival at a free instant, or held behind the line, or behind
another that is held. -/
def State.ringForward (s : State) (r origin hops code flags : Nat) (bad : Bool) : State :=
  let f := s.freeBits 8
  let m : RingMsg := ⟨s.fine + 200 + f.1.toNat % 11, origin, hops, code, flags, bad⟩
  if (s.ringHeld r).isEmpty then f.2.ringPass r m else f.2.setRing r { f.2.ring r with second := some m }

/-- RING_MESSAGE (R479): the J of the message arrives after `dt`. -/
def execRingMessage (r : Fin 2) (dt : Nat) (nibs : List (BitVec 4)) (s : State) : Res :=
  .next (
    let s := (s.advance dt).ringSecond r
    let l := (nibs.take 7).map BitVec.toNat
    let f (i k : Nat) : Nat := ((List.range k).map (fun j => (nibs.getD (i + j) 0).toNat * 16 ^ j)).sum
    let origin := f 0 2
    let hops := f 2 2
    let code := f 4 2
    let bad := crc12 l != f 7 3
    let x := s.ring r
    if !s.ringOn r || nibs.length ≠ 10 then s
    else
      let s1 := if bad then s.bump .TIM_RING_CNT_CRC r else s
      if origin = s.fld F.TIM_RING_CFG_RING_ID r then
        match x.own with
        | some t => (s1.setRing r { x with own := none }).wr .TIM_RING_LOOP (BitVec.ofNat 32 (s.fine - t)) r
        | none => s1.setFld F.TIM_RING_STATUS_DUP_ID 1 r
      else if 31 < hops + 1 || (s1.ring r).second.isSome then s1.bump .TIM_RING_CNT_DROP r
      else
        let s2 := s1.ringForward r origin hops code (f 6 1) bad
        if bad then s2
        else
          let last := origin % 32 + hops % 32 * 2 ^ 8 + code * 2 ^ 16 + f 6 1 % 2 * 2 ^ 24
          ((s2.wr .TIM_RING_LAST (BitVec.ofNat 32 last) r).bump .TIM_RING_CNT_RX r).publish (0x1D8 + r) code (s.now48))

/-- RING_SEND (R480): GO in TIM_RING_SEND. -/
def execRingSend (who : Requester) (r : Fin 2) (v : Word) (s : State) : Res :=
  .next (s.writeGate who .TIM_RING_SEND r (if natBit v.toNat 31 then s.ringSend r (v.toNat % 256) else s))

/-- RING_SEND_TIMEOUT (R480): 10 µs without the message returning. -/
def execRingSendTimeout (r : Fin 2) (dt : Nat) (s : State) : Res :=
  .next (
    match (s.ring r).own with
    | none => (s.advance dt).ringSecond r
    | some t =>
      let s := (s.passTo dt (t + fineOfUs 10)).ringSecond r
      s.setRing r { s.ring r with own := none })

/-- BYPASS_OPEN (R481). -/
def execBypassOpen (r : Fin 2) (dt : Nat) (s : State) : Res :=
  .next (
    match (s.ring r).idleAt with
    | none => s.advance dt
    | some t =>
      (((s.passTo dt (t + fineOfUs 10)).setRing r { s.ring r with idleAt := none }).setFld
        F.TIM_RING_STATUS_BYPASS_CLOSED 0 r).emit (.bypass r false))

end Sys2Proof.Machine
end

