-- ==== Sys2Proof/Machine/Commit.lean ====
section
/-!
DEFINITION. Commit points (R341, R503, R504, R507, R535): staged writes, a live switch, the grid updater, the layer count,
and what the units do when their registers have changed.
-/

namespace Sys2Proof.Machine

/-! ### The inrush budget (R522) -/

/-- Q_MAX and REFILL in force (R540), in 1/20,000 CU and that per fine count. -/
def State.qMax (s : State) : Nat := atLeast1 (s.fld F.PWR_INRUSH_CFG_Q_MAX) * 20000
def State.qRefill (s : State) : Nat := atLeast1 (s.fld F.PWR_INRUSH_CFG_REFILL)

/-- The budget in CU and PWR_INRUSH_LEVEL as they stand now. -/
def State.refill (s : State) : State :=
  let q := min s.qMax (s.pwr.budget + s.qRefill * (s.fine - s.pwr.budgetAt))
  ({ s with pwr := { s.pwr with budget := q, budgetAt := s.fine } }).setFld F.PWR_INRUSH_LEVEL_Q (q / 20000)

/-! ### Subscriptions (R379, R380) -/

/-- The halyard that an input of task `t` names, if it is enabled. -/
def State.taskInput (s : State) (t : Nat) (second : Bool) : Option Nat :=
  if second then (if s.flag F.HAL_SUB_SEC_EN t then some (s.fld F.HAL_SUB_SECONDARY t) else none)
  else if t < 0x40 then
    if s.fld F.CAP_TRIG_CFG_SOURCE t = 1 then some (s.fld F.CAP_TRIG_CFG_SRC_INDEX t) else none
  else if 0x080 ≤ t && t ≤ 0x087 then
    if s.fld F.LUM_CH_CFG_SYNC_SRC (t - 0x080) = 1 then some (s.fld F.LUM_CH_CFG_SYNC_IDX (t - 0x080)) else none
  else if s.flag F.HAL_SUB_PRI_EN t then some (s.fld F.HAL_SUB_PRIMARY t) else none

/-- Every task input in the order that R379 ranks them. -/
def allInputs : List (Nat × Bool) := ((List.range 0x160).filter taskListed).flatMap (fun t => [(t, false), (t, true)])

/-- Halyards that more than one input names, one of them an input that has changed, are recorded in HAL_DUP (R379). -/
def State.dupCheck (before s : State) : State :=
  let now := allInputs.map (fun x => s.taskInput x.1 x.2)
  let old := allInputs.map (fun x => before.taskInput x.1 x.2)
  let fresh := ((now.zip old).filter (fun x => x.1 != x.2)).filterMap (·.1)
  let dup := (List.range 256).filter (fun h => fresh.contains h && decide (2 ≤ now.count (some h)))
  State.eachOf (fun h s => s.recordHal .HAL_DUP h) dup s

/-! ### Units follow their registers -/

/-- A lane whose LNK_CTRL or LNK_PATTERN has changed. -/
def State.laneFollow (before : State) (n : Nat) (s : State) : State :=
  let on := s.flag F.LNK_CTRL_ENABLE n
  let s1 := if before.flag F.LNK_CTRL_ENABLE n != on then
      (if on then (if s.lstate n = lsDisabled then State.laneStart n s else s) else State.laneDisable n s) else s
  let deep := s1.flag F.LNK_CTRL_DEEP_REQ n
  let s2 := if before.flag F.LNK_CTRL_DEEP_REQ n != deep then
      (if deep then s1.deepAsk (s1.portAt n) else if s1.deepWanted (s1.portAt n) then s1 else s1.deepExit (s1.portAt n)) else s1
  let s3 := if before.rd .LNK_CTRL n != s2.rd .LNK_CTRL n then State.polFollow n s2 else s2
  if before.rd .LNK_PATTERN n != s3.rd .LNK_PATTERN n then State.patternApply n s3 else s3

/-- An interpreter with ENABLE = 0 is STOPPED (R343). -/
def State.scnFollow (n : Nat) (s : State) : State :=
  if s.flag F.SCN_CFG_ENABLE n || s.scnState n = scnStopped then s
  else
    let x := s.sc n
    let s1 := s.setSc n { x with plan := [], pause := none, wait := .none, holdUntil := none }
    let s2 := s1.wr .SCN_STATUS (putBits (s1.rd .SCN_STATUS n) 0 10 0) n
    (s2.setWant n false).shEngage n

/-- What the units do when registers in force have changed from those of `before`. -/
def State.unitsFollow (before s : State) : State :=
  let lanes := List.range s.variant.lanes
  let s1 := State.relayout before s
  let s2 := State.eachOf (State.laneFollow before) lanes s1
  let s3 := State.eachOf (fun p s => s.tryRestore p) s2.portList s2
  let s4 := State.eachOf (State.pinFollow before) (List.range 8) (State.eachOf State.cmpShow (List.range 16) s3.pinConflicts)
  let s5 := State.eachOf (fun m s => s.mastCheck m) (List.range s.variant.masts) s4
  let s6 := (s5.permitUpdate.allBeams State.scnFollow).allBeams (fun n s => (s.shEnable n).beamGate n)
  (State.dupCheck before (State.timFollow before s6.lumUpdate)).refill

/-! ### Staged writes (R37, R273, R504) -/

/-- One staged write takes effect. -/
def State.applyStaged (s : State) (x : Staged) : State :=
  match x.loc with
  | .reg r i j => s.wr r ((s.rd r i j &&& ~~~r.info.rw) ||| (x.val &&& r.info.rw)) i j
  | .mem a => s.memWr a x.val

def State.applyAll : List Staged → State → State
  | [], s => s
  | x :: rest, s => State.applyAll rest (s.applyStaged x)

/-- Whether a staged write goes to profile table `p` of beam `n`. -/
def Staged.inTable (x : Staged) (n p : Nat) : Bool :=
  match x.loc with
  | .mem a => decide (0x220000 + 0x2000 * n + 0x400 * p ≤ a) && decide (a < 0x220000 + 0x2000 * n + 0x400 * (p + 1))
  | _ => false

/-- A staged table that is not non-decreasing is not loaded: the table of `before` stays (R273). -/
def State.checkTable (before : State) (l : List Staged) (k : Nat) (s : State) : State :=
  let n := k / 8
  let p := k % 8
  let base := 0x220000 + 0x2000 * n + 0x400 * p
  if !l.any (fun x => x.inTable n p) then s
  else if tableRises ((List.range 129).map (fun i => s.memRd (base + 4 * i))) then s
  else
    let s1 := State.eachInst (fun i s => s.memWr (base + 4 * i) (before.memRd (base + 4 * i))) (List.range 129) s
    (s1.setFld F.BCH_FAULT_PROF_ERR 1 n).notice 5 n 7 0

/-- Every staged write takes effect, in the order of arrival. -/
def State.takeStaged (s : State) : State :=
  let s1 := State.applyAll s.staged { s with staged := [], cal := { s.cal with soft := [] } }
  State.eachInst (State.checkTable s s.staged) (List.range 96) s1

/-! ### A live switch (R507) -/

/-- A switch whose sections are staged takes place. -/
def State.takeSwitch (s : State) : State :=
  match s.boot.switch with
  | none => s
  | some x =>
    if !s.flag F.BOOT_STATUS_STAGED then s
    else
      let s1 := State.putSections true (x.secs.filter (fun c => c.kind != secLayout && c.kind != secStore)) s
      let s2 := { s1 with boot := { s1.boot with switch := none } }
      (((s2.setFld F.BOOT_STATUS_ACTIVE_DEV x.dev).setFld F.BOOT_STATUS_SWITCH_PENDING 0).setFld F.BOOT_STATUS_STAGED 0).wr
        .BOOT_SEQ_ACTIVE (BitVec.ofNat 32 x.seq)

/-! ### The commit point (R503, R504, R535) -/

/-- The checkpoint of R535: the journal is empty, and R532 covers helm memory again (R537). -/
def State.checkpoint (s : State) : State :=
  ({ s with helm := { s.helm with journal := 0, uncovered := false } }.wr .HLM_JOURNAL_USED 0).wr .HLM_CKPT_SEQ (s.rd .BOOT_COMMIT_SEQ)

/-- What every commit point does. -/
def State.commit (s : State) : State :=
  let s1 := s.refill.takeSwitch.takeStaged
  let s2 := State.unitsFollow s s1
  (s2.wr .BOOT_COMMIT_SEQ (s2.rd .BOOT_COMMIT_SEQ + 1)).checkpoint

/-! ### The grid updater (R328, R329) -/

/-- The derivative of a command coordinate along one index of the grid: the difference and how many steps it spans. -/
def nodeDiff (k : Nat) (v : Nat → Int) : Int × Nat :=
  if k = 0 then (v 1 - v 0, 1) else if k = 64 then (v 64 - v 63, 1) else (v (k + 1) - v (k - 1), 2)

/-- The change of the command of node (i, j) of head `h` from its accumulators (R328): GAIN_CAL in 1/256. -/
def State.nodeChange (s : State) (h i j : Nat) (a : NodeAcc) : Int × Int :=
  let g : Int := s.fld F.SCN_CAL_CFG_GAIN_CAL
  let step := atLeast1 (s.rd .SCN_GRID_STEP h).toNat
  let lim : Int := s.fld F.SCN_CAL_LIMIT_STEP_MAX
  let d (c : Int × Int × Int → Int) : Int :=
    let x := nodeDiff i (fun k => c (s.node h k j))
    let y := nodeDiff j (fun k => c (s.node h i k))
    clampInt (-lim) lim (divRound (-(g * (x.1 * y.2 * a.ex + y.1 * x.2 * a.ey))) (256 * x.2 * y.2 * step * a.w))
  (d (fun c => c.1), d (fun c => c.2.1))

/-- A command coordinate moved; a sum outside its 24 bits is a free value (log entry 2). -/
def State.nodeMove (s : State) (h i j w : Nat) (d : Int) : State :=
  let a := nodeAddr h i j w
  let v := sext 24 (s.memRd a).toNat + d
  if clampInt (-8388608) 8388607 v = v then s.memWr a (BitVec.ofNat 32 (unsext 24 v))
  else
    let (b, s1) := s.freeBits 24
    s1.memWr a (b.setWidth 32)

/-- The nodes of head `h` that have gathered W_MIN. -/
def State.nodesOf (s : State) (h : Nat) : List (Nat × NodeAcc) :=
  s.cal.acc.filter (fun e => e.1 / 4225 == h && e.2.w != 0 && decide (s.fld F.SCN_CAL_CFG_W_MIN * 2 ^ 28 ≤ e.2.w))

/-- The update of one head at a layer commit point. `soft` tells that software has written its grid (R329). -/
def State.calHead (soft : Tbl Bool) (h : Nat) (s : State) : State :=
  if !s.hasBeam h || !s.flag F.SCN_CFG_CAL_EN h then s
  else
    let nodes := s.nodesOf h
    let s1 := { s with cal := { s.cal with acc := s.cal.acc.filter (fun e => e.1 / 4225 != h) } }
    if tblGet false soft h then s1.bumpBy .SCN_CNT_CAL_DISCARD nodes.length
    else
      let moves := nodes.map (fun e => (e.1 % 4225, s.nodeChange h (e.1 % 4225 % 65) (e.1 % 4225 / 65) e.2))
      let s2 := moves.foldl (fun s m => (s.nodeMove h (m.1 % 65) (m.1 / 65) 0 m.2.1).nodeMove h (m.1 % 65) (m.1 / 65) 1 m.2.2) s1
      if nodes.isEmpty then s2 else s2.wr .SCN_CAL_STATUS (putBits (s2.rd .SCN_CAL_STATUS) h 1 1)

/-- The heads to whose grid a write of a list goes (R329). -/
def gridHeads (l : List Staged) : Tbl Bool :=
  (List.range 12).foldl (fun t h => tblSet false t h (l.any (fun x => match x.loc with
    | .mem a => decide (gridBase + 0x10000 * h ≤ a) && decide (a < gridBase + 0x10000 * (h + 1))
    | _ => false))) []

/-- A commit point in whose fabric clock the last `late` staged writes reach their units: those wait for the next (R504). -/
def State.commitLate (s : State) (late : Nat) : State :=
  if late = 0 then s.commit
  else
    let n := s.staged.length - late
    let s1 := ({ s with staged := s.staged.take n }).commit
    { s1 with staged := s1.staged ++ s.staged.drop n, cal := { s1.cal with soft := gridHeads (s.staged.drop n) } }

/-- The heads whose grid software has written among the staged writes that a commit point takes (R329). -/
def State.softNow (s : State) (late : Nat) : Tbl Bool :=
  if late = 0 then s.cal.soft else gridHeads (s.staged.take (s.staged.length - late))

/-! ### Layer boundaries (R341) -/

/-- Whether every enabled interpreter that is present is in LAYER_WAIT or DONE, one of them in LAYER_WAIT. -/
def State.layerReady (s : State) : Bool :=
  let on := (List.range 12).filter (fun n => s.hasBeam n && s.flag F.SCN_CFG_ENABLE n)
  s.ready && on.all (fun n => s.scnState n == scnLayerWait || s.scnState n == scnDone) && on.any (fun n => s.scnState n == scnLayerWait)

/-- The layer count after a layer boundary. -/
def State.nextLayer (s : State) : Word :=
  if s.rd .SCN_LAYER_SET = 0xFFFFFFFF then s.rd .SCN_LAYER + 1 else s.rd .SCN_LAYER_SET

/-- An interpreter in LAYER_WAIT resumes. -/
def State.layerResume (n : Nat) (s : State) : State :=
  if s.scnState n = scnLayerWait then ((s.setFld F.SCN_STATUS_STATE scnRunning n).layerStart n).shEngage n else s

/-- LAYER_BARRIER (R341): `late` staged writes reach their units in its clock (R504). -/
def execLayerBarrier (late : Nat) (s : State) : Res :=
  .next (if !s.layerReady then s
    else
      let soft := s.softNow late
      let s1 := (s.commitLate late).wr .SCN_CAL_STATUS 0
      let s2 := s1.allBeams (State.calHead soft)
      let layer := s2.nextLayer
      let s3 := (s2.wr .SCN_LAYER layer).wr .SCN_LAYER_SET 0xFFFFFFFF
      (s3.publish 0x1BC (layer.toNat % 256) s3.now48).allBeams State.layerResume)

/-! ### Recording boundaries (R503) -/

/-- Whether a recording boundary is refused: before the end of LOAD, and in BUILD while an interpreter is busy. -/
def State.boundaryRefused (s : State) : Bool :=
  !s.ready || (s.mode == modeBuild && (List.range 12).any (fun n => s.hasBeam n &&
    (s.scnState n == scnRunning || s.scnState n == scnWaiting || s.scnState n == scnPaused || s.scnState n == scnLayerWait)))

/-- GO of BOOT_COMMIT (R503), with `late` staged writes that reach their units in its clock (R504). -/
def State.boundary (s : State) (who : Requester) (late : Nat) : State :=
  s.writeGate who .BOOT_COMMIT 0
    (if s.boundaryRefused then s.setFld F.BOOT_STATUS_COMMIT_REFUSED 1 else s.commitLate late)

/-- RECORDING_BOUNDARY (R503). -/
def execRecordingBoundary (who : Requester) (late : Nat) (s : State) : Res := .next (s.boundary who late)

end Sys2Proof.Machine
end

