-- ==== Sys2Proof/Machine/Dma.lean ====
section
/-!
DEFINITION. The DMA channels: descriptors loaded, run and retired (R433 to R443), cut-through frames (R445, R446), DRAINs
(R456), the commands of R460, and the migration of a retiring channel (R172 to R175, R451).
-/

namespace Sys2Proof.Machine

/-- Whether an access of channel `n` to the store has to wait (R516, R525). -/
def State.dmaHeld (s : State) (store : Bool) : Bool := s.shedding || (store && s.fst.selfRefresh)

/-- The 64 bytes of a descriptor: what a host read has brought, or a read of the store, and the state after. -/
def State.descBytes (s : State) (a : Nat) (rx : List Byte) (errs : List (Nat × BurstErr)) : List Byte × State :=
  if inStore a then
    let r := s.storeFetch (a / 64 * 64) 64 errs
    (r.data, r.st)
  else (rx, s)

/-- The read of the next descriptor into the shadow completes (R431). -/
def State.shadowLoad (s : State) (n : Nat) (errs : List (Nat × BurstErr)) : State :=
  let x := s.dm n
  match x.sh with
  | none => s
  | some h =>
    if h.desc.isSome || h.fail.isSome || !(inStore h.addr || h.rx.isSome) || s.dmaHeld (inStore h.addr) then s
    else
      let r := s.descBytes h.addr (h.rx.getD []) errs
      r.2.setDm n { r.2.dm n with sh := some { h with desc := some (parseDesc r.1), rx := none } }

/-- The read of a descriptor completes (R433, R434, R442): of the working one, else of the next one into the shadow. -/
def execDescriptorLoad (n : Fin 32) (errs : List (Nat × BurstErr)) (s : State) : Res :=
  .next (
    let n := n.val
    let x := s.dm n
    if x.paused then s
    else if x.phase != .loading then s.shadowLoad n errs
    else if !(inStore x.addr || x.got) || s.dmaHeld (inStore x.addr) then s
    else
      let r := s.descBytes x.addr x.rx errs
      let d := parseDesc r.1
      let s := r.2.setDm n { r.2.dm n with phase := .none, rx := [], got := false }
      if s.frameMode n then
        if !d.own then (if x.ahead.isEmpty then s.takeDesc n d else s)
        else if s.badDesc n d then s.takeDesc n d
        else
          let y := s.dm n
          (s.setDm n { y with desc := d, ahead := y.ahead ++ [{ addr := x.addr, desc := d }] }).ctRefill n
      else s.takeDesc n d)

/-! ### Bursts -/

/-- Bytes from `a` up to the next 4 KiB boundary, or down to the last one. -/
def up4k (a : Nat) : Nat := 4096 - a % 4096
def down4k (a : Nat) : Nat := if a % 4096 = 0 then 4096 else a % 4096

/-- Whether a COPY runs in descending order (R436). -/
def Desc.descending (d : Desc) : Bool :=
  d.srcSpace == d.dstSpace && decide (d.src < d.dst) && decide (d.dst < d.src + d.length)

/-- Offset and length of the next burst of a COPY (R417, R436). -/
def State.copyChunk (s : State) (x : Dma) : Nat × Nat :=
  let d := x.desc
  let mps := 128 * 2 ^ min 2 (getBits (s.cfgRd 0x58) 5 3)
  let mrr := 128 * 2 ^ min 5 (getBits (s.cfgRd 0x58) 12 3)
  let lim := min 512 (min (if d.dstSpace = 0 then mps else 512) (if d.srcSpace = 0 then mrr else 512))
  if d.descending then
    let e := d.length - x.moved
    let c := min (min lim e) (min (if d.srcSpace = 0 then down4k (d.src + e) else lim)
      (if d.dstSpace = 0 then down4k (d.dst + e) else lim))
    (e - c, c)
  else
    let c := min (min lim (d.length - x.moved)) (min (if d.srcSpace = 0 then up4k (d.src + x.moved) else lim)
      (if d.dstSpace = 0 then up4k (d.dst + x.moved) else lim))
    (x.moved, c)

/-- The address of the last byte written by a COPY or DRAIN. -/
def Dma.lastByte (x : Dma) : Nat :=
  if x.desc.descending || x.moved = 0 then x.desc.dst else x.desc.dst + x.moved - 1

/-- The last data write has been issued: the read-back of R437. -/
def State.readBack (s : State) (n : Nat) : State :=
  let x := s.dm n
  let s1 := s.setDm n { x with phase := .readBack, backOk := x.desc.dstSpace != 0 }
  if x.desc.dstSpace = 0 then s1.dmaRead n .readBack (x.lastByte / 4 * 4) 4 else s1

/-- A burst of data is written. -/
def State.copyWrite (s : State) (n off c : Nat) (data : List Byte) (bad : List (Nat × Nat)) : State :=
  let x := s.dm n
  let s1 := s.dmaWrite n x.desc off data bad
  let y := s1.dm n
  let fb := bad.foldl (fun m r => some (min (off + r.1) (m.getD (off + r.1)))) y.firstBad
  let s2 := s1.setDm n { y with moved := y.moved + c, firstBad := fb, got := false, asked := false, rx := [], rxBad := [] }
  if x.desc.length ≤ y.moved + c then s2.readBack n else s2

/-- One burst of a COPY: a host source is read first (R436, R448). -/
def State.copyBurst (s : State) (n : Nat) (errs : List (Nat × BurstErr)) : State :=
  let x := s.dm n
  let ch := s.copyChunk x
  if x.desc.srcSpace = 0 then
    if x.got then s.copyWrite n ch.1 ch.2 x.rx x.rxBad
    else ((s.dmaPay n ch.2).setDm n { (s.dmaPay n ch.2).dm n with asked := true }).dmaRead n .data (x.desc.src + ch.1) ch.2
  else
    let r := s.dmaStoreRd (x.desc.src + ch.1) ch.2 errs
    (r.st.dmaPay n ch.2).copyWrite n ch.1 ch.2 r.data r.bad

/-- One burst of the oldest frame of a frame-mode channel (R445): data in order, then the final tag and the read-back. -/
def State.ctBurst (s : State) (n : Nat) : State :=
  let x := s.dm n
  match x.ahead with
  | [] => s
  | c :: rest =>
    match c.pend with
    | (off, data) :: more =>
      let k := min 512 data.length
      let pend := if k < data.length then (off + k, data.drop k) :: more else more
      let s1 := s.dmaPay n k
      (s1.setDm n { s1.dm n with ahead := { c with pend := pend, high := max c.high (off + k) } :: rest }).hostWrite
        (s.relaxed n c.desc) (k + 1) (c.desc.dst + off) (data.take k)
    | [] =>
      match c.fin with
      | some tag =>
        let s1 := s.dmaPay n tag.length
        ((s1.setDm n { s1.dm n with backOk := false,
                                    ahead := { c with rb := true, high := max c.high tag.length } :: rest }).hostWrite
          (s.relaxed n c.desc) 129 c.desc.dst tag).dmaRead n .readBack (c.desc.dst + 124) 4
      | none => s

/-! ### Which burst comes next (R436, R445, R447, R448, R456) -/

/-- The item a DRAIN writes next, the one in progress at the register port first, with the words of it that an uncorrectable error
spoils (R455, R456). -/
def Que.drainNext (y : Que) (bad : List Nat) : Que := if y.cur.isSome then y else y.start bad

/-- The bytes of an item with its header, as a DRAIN writes it (R456). -/
def QItem.bytes (i : QItem) : List Byte := bytesLE 4 i.header.toNat ++ [0, 0, 0, 0] ++ i.data

/-- Whether the burst that channel `n` has ready goes to the host request port. -/
def State.burstToHost (s : State) (n : Nat) : Bool :=
  let x := s.dm n
  s.frameMode n || (x.desc.type = 0 && x.desc.srcSpace = 0 && !x.got) || x.desc.dstSpace == 0

/-- Bytes of the burst that channel `n` has ready to issue, where it has one, its pacing aside. -/
def State.burstBytes (s : State) (n : Nat) : Option Nat :=
  let x := s.dm n
  if s.shedding || x.paused || (s.burstToHost n && !s.mayRequest) then none
  else if s.frameMode n then
    match x.ahead with
    | [] => none
    | c :: _ => match c.pend with
      | (_, data) :: _ => some (min 512 data.length)
      | [] => if c.fin.isSome && !c.rb then some 128 else none
  else if x.phase != .moving then none
  else if x.desc.type = 2 then
    match ((s.queue (x.desc.src % 64)).drainNext []).cur with
    | none => none
    | some i => if s.dmaHeld (x.desc.dstSpace == 1) then none else some i.bytes.length
  else if s.dmaHeld (x.desc.dstSpace == 1 || x.desc.srcSpace == 1) then none
  else if x.desc.srcSpace = 0 && x.got then some 0
  else if x.desc.srcSpace = 0 && x.asked then none
  else some (s.copyChunk x).2

/-- Whether channel `n` may issue its burst now: its credit covers it, and where it goes to the host port it is its turn among the
channels that have one ready (R447, R448). -/
def State.burstReady (s : State) (n : Nat) : Bool :=
  match s.burstBytes n with
  | none => false
  | some c => s.creditCovers n c

def State.burstTurn (s : State) (n : Nat) : Bool :=
  s.burstReady n && (!s.burstToHost n || s.portNext (fun m => s.burstToHost m && s.burstReady m) == some n)

/-- The credit of channel `n` comes to cover its burst, after `dt` fine counts at least (R448). -/
def State.burstWait (s : State) (n dt : Nat) : State :=
  let s := s.advance dt
  match s.burstBytes n with
  | none => s
  | some c => s.passTo 0 (s.creditDue n c)

/-- A burst is issued: at the host port the turn moves on. -/
def State.burstServed (s : State) (n : Nat) : State := if s.burstToHost n then s.portServed n else s

/-- A burst of up to 512 bytes under pacing credit (R436, R445, R447, R448). -/
def execBurst (n : Fin 32) (dt : Nat) (errs : List (Nat × BurstErr)) (s : State) : Res :=
  .next (
    let s := s.burstWait n.val dt
    if !s.burstTurn n.val || (s.dm n.val).desc.type = 2 && !s.frameMode n.val then s
    else
      let s := s.burstServed n.val
      if s.frameMode n.val then s.ctBurst n.val else s.copyBurst n.val errs)

/-- The read-back completes and the descriptor retires (R437 to R439, R445, R446); that of a store destination reads its last burst,
with the error it meets (R168). -/
def execReadBackDone (n : Fin 32) (errs : List (Nat × BurstErr)) (s : State) : Res :=
  .next (
    let n := n.val
    let x := s.dm n
    if x.paused then s
    else if s.frameMode n then
      match x.ahead with
      | c :: rest =>
        if !c.rb || !x.backOk || s.dmaHeld (inStore c.addr) then s
        else
          let t := c.taken.getD (0, 0)
          let s1 := if c.lostAt.isSome then s.bump .DMA_CNT_CT_TRUNC n else s
          let s2 := s1.dmaRetire n c.addr c.desc (if c.lostAt.isSome then 2 else 0) c.lostAt c.high
            (t.2 % 2 ^ 48 + t.1 * 2 ^ 48)
          (((s2.setDm n { s2.dm n with ahead := rest, backOk := false }).setCur n ((rest.head?.map (·.addr)).getD c.addr)).ctShow n).ctRefill n
      | [] => s
    else if x.phase = .readBack && x.backOk && !s.dmaHeld (inStore x.addr || x.desc.dstSpace == 1) then
      let s := if x.desc.dstSpace = 1 then (s.storeFetch (x.lastByte / 64 * 64) 64 errs).st else s
      let s1 := if x.firstBad.isSome then s.bump .DMA_CNT_POISON n else s
      let s2 := s1.dmaRetire n x.addr x.desc (if x.firstBad.isSome then 1 else 0) x.firstBad x.moved x.items
      (s2.setDm n { s2.dm n with phase := .none }).dmaNext n
    else s)

/-- The re-read of an end link completes (R441). -/
def execLinkReread (n : Fin 32) (errs : List (Nat × BurstErr)) (s : State) : Res :=
  .next (
    let x := s.dm n.val
    if x.phase != .reread || !(inStore x.addr || x.got) || x.paused || s.dmaHeld (inStore x.addr) then s
    else
      let r := s.storeFetch (x.addr / 64 * 64 + 0x18) 8 errs
      let s := if inStore x.addr then r.st else s
      let b := if inStore x.addr then r.data else x.rx
      let x := s.dm n.val
      let link := fieldLE b 0 8
      let s1 := s.setDm n.val { x with desc := { x.desc with link := link }, phase := .none, rx := [], got := false }
      if link % 2 = 1 then s1.endCheck n.val else s1.dmaLoad n.val (linkAddr link))

/-- A doorbell (R441, R442, R451). -/
def State.doorbell (s : State) (n : Nat) : State :=
  let s1 := s.wr .DMA_DB_COUNT (BitVec.ofNat 32 (s.dbCount n + 1)) n
  let x := s1.dm n
  if s1.dmaState n = dmaParkedEnd then s1.endCheck n
  else if s1.dmaState n = dmaParkedOwn then s1.dmaLoad n x.addr
  else if s1.dmaState n = dmaRunning && s1.frameMode n then s1.ctRefill n
  else s1

/-- An event on the DMA start task (R443). -/
def State.dmaEvent (s : State) (n : Nat) : State :=
  (s.setDm n { s.dm n with startBusy := true }).doorbell n

/-- A write of DMA_DOORBELL. -/
def execDmaDoorbell (who : Requester) (n : Fin 32) (s : State) : Res :=
  .next (s.writeGate who .DMA_DOORBELL n.val (s.doorbell n.val))

/-- START (R460): ignored but from IDLE, HALTED and ABORTED; a reserved channel refuses it (R451, DEDUCED, log entry 40). -/
def execDmaStart (who : Requester) (n : Fin 32) (s : State) : Res :=
  .next (s.writeGate who .DMA_CMD n.val (
    let n := n.val
    let st := s.dmaState n
    if st = dmaIdle || st = dmaHalted || st = dmaAborted then
      (s.setDm n { credit := (s.dm n).credit, creditAt := (s.dm n).creditAt }).dmaLoad n
        (linkAddr ((s.rd .DMA_DESC_LO n).toNat + (s.rd .DMA_DESC_HI n).toNat * 2 ^ 32))
    else if st = dmaReserved then s.setFld F.DMA_STATUS_CMD_REFUSED 1 n
    else s))

/-- STOP (R460): at once where no descriptor is at work. -/
def execDmaStop (who : Requester) (n : Fin 32) (s : State) : Res :=
  .next (s.writeGate who .DMA_CMD n.val (
    let n := n.val
    let st := s.dmaState n
    let x := s.dm n
    let busy := x.phase = .loading || x.phase = .moving || x.phase = .readBack || x.ahead.any (fun c => c.taken.isSome)
    let s1 := s.setDm n { x with stop := true }
    if st = dmaParkedEnd || st = dmaParkedOwn || (st = dmaRunning && !busy) then s1.dmaNext n
    else if st = dmaWaitQueue then (s1.dropDrain n x.desc).readBack n
    else if st = dmaRunning then s1
    else s))

/-- A channel goes to ABORTED without write-back (R450, R460): completions still to come are discarded. -/
def State.dmaAbort (s : State) (n : Nat) (flr : Bool) : State :=
  let x := s.dm n
  let s1 := ((s.dropDrain n x.desc).dropReqs (if flr then .dropped else .gone) (fun r => r.ch = n)).setDm n
    { credit := x.credit, creditAt := x.creditAt, addr := x.addr }
  let s2 := (s1.setDmaState n dmaAborted).setFld F.DMA_STATUS_IN_FLIGHT 0 n
  if flr then s2.setFld F.DMA_STATUS_FLR_ABORT 1 n else s2

/-- ABORT (R460). -/
def execDmaAbort (who : Requester) (n : Fin 32) (s : State) : Res :=
  .next (s.writeGate who .DMA_CMD n.val (
    if s.dmaState n.val = dmaReserved then s else s.dmaAbort n.val false))

/-! ### DRAIN (R456) -/

/-- An item moves from the queue to the destination under pacing credit; the DRAIN completes when the queue is empty or the next
item does not fit (R447, R448, R456). -/
def execDrainItem (n : Fin 32) (dt : Nat) (bad : List Nat) (s : State) : Res :=
  .next (
    let n := n.val
    let s := s.burstWait n dt
    let x := s.dm n
    let q := x.desc.src % 64
    if x.phase != .moving || x.desc.type ≠ 2 || s.shedding || x.paused || s.frameMode n then s
    else
      let s := s.quePtrCheck q
      let y := (s.queue q).drainNext bad
      match y.cur with
      | none => if x.items = 0 then s else (s.dropDrain n x.desc).readBack n
      | some i =>
        if x.desc.length < x.moved + i.bytes.length then (s.dropDrain n x.desc).readBack n
        else if !s.burstTurn n then s
        else
          let s1 := ((s.burstServed n).dmaPay n i.bytes.length).putQue q (y.finish (s.fld F.QUE_CFG_K q))
          let s2 := s1.dmaWrite n x.desc x.moved i.bytes []
          let s3 := (s2.setDm n { s2.dm n with moved := x.moved + i.bytes.length, items := x.items + 1 }).setDmaState n dmaRunning
          if (s3.queue q).items = 0 then (s3.dropDrain n x.desc).readBack n else s3)

/-! ### Migration (R172 to R175) -/

/-- The band the migration copies next, with the position in the fixed part (R172). -/
def State.migNext (s : State) (c : Nat) : Option Nat :=
  match nthBand s.fixedBands s.fst.migPos with
  | some b => some b
  | none => ((s.fst.spans.filter (fun sp => !sp.released)).flatMap (s.spanBands c)).find? (fun b => !s.copied b)

/-- Stripes still to be copied. -/
def State.migLeft (s : State) (c : Nat) : Nat :=
  ((s.fixedBands.map (·.2)).sum - s.fst.migPos)
    + (((s.fst.spans.filter (fun sp => !sp.released)).flatMap (s.spanBands c)).eraseDups.filter (fun b => !s.copied b)).length

/-- Bursts of a stripe copied from `src` to `dst`, an uncorrectable one with the check pattern (R168, R172). -/
def State.copyBursts (src dst : Nat) (errs : List (Nat × BurstErr)) : List Nat → State → State
  | [], s => s
  | i :: rest, s =>
    let r := s.eccRead (src + 64 * i) (errs.lookup i) false
    let data := (List.range 64).map (fun j => r.2.ddrRd (src + 64 * i + j))
    State.copyBursts src dst errs rest (r.2.ddrWr (dst + 64 * i) data r.1)

/-- The migration is complete: its DMA channel loads the next descriptor of its chain (R451). -/
def State.migDone (s : State) : State :=
  let d := s.fst.migDma
  let s1 := { s with fst := { s.fst with migActive := false } }.setDm d { s.dm d with migWait := false }
  if s1.dmaState d = dmaReserved then
    let x := s1.dm d
    let from0 := s1.fst.migFrom
    if from0 = dmaIdle || from0 = dmaHalted || from0 = dmaAborted then s1.setDmaState d from0
    else if from0 = dmaParkedOwn then s1.dmaLoad d x.addr
    else if x.desc.linkEnd then s1.endCheck d
    else s1.dmaLoad d (linkAddr x.desc.link)
  else s1

/-- The stripe of band `b` of channel `c` copied into the reserve, whose stripes are filled in ascending order with the set that
excludes the channel (R172). -/
def State.migCopy (s0 : State) (c b : Nat) (errs : List (Nat × BurstErr)) : State :=
  let s := if s0.fst.migActive then s0 else s0.startMigration
  let used := (s.rd .FST_RES_USED).toNat
  let mask := putBits (BitVec.ofNat 32 s.fst.loadSet) c 1 0
  let dst := s.regionAddr (s.bands .FST_RES_BASE) mask.toNat (used * 4096)
  let fixed := (nthBand s.fixedBands s.fst.migPos).isSome
  let s1 := (State.copyBursts (s.stripeAddr b c 0) dst errs (List.range 64) s).setFld F.FST_STATUS_RETIRE_BLOCKED 0
  let s2 := { s1 with fst := { s1.fst with copies := tblSet none s1.fst.copies b (some dst),
                                           migPos := s1.fst.migPos + b2n fixed, migActive := true, migAt := s1.fine } }
  let s3 := State.migNotices c s2.fst.spans (s2.wr .FST_RES_USED (BitVec.ofNat 32 (used + 1)))
  if (s3.migNext c).isNone then s3.migDone else s3

/-- The migration copies the next stripe into the reserve (R172), no faster than MIG_RATE (R179), or stops where the reserve
cannot take it (R173). -/
def execMigrationCopy (dt : Nat) (errs : List (Nat × BurstErr)) (s : State) : Res :=
  .next (
    match s.fst.retiring with
    | none => s.advance dt
    | some c =>
      let s := s.passTo dt (s.fst.migAt + 5120 / atLeast1 (s.fld F.FST_RETIRE_CFG_MIG_RATE))
      if s.chState c ≠ chRetiring || s.fst.selfRefresh then s
      else match s.migNext c with
        | none => if s.fst.migActive then (State.migNotices c s.fst.spans s).migDone else s
        | some b =>
          let used := (s.rd .FST_RES_USED).toNat
          let room := s.bands .FST_RES_BANDS * chanCount (putBits (BitVec.ofNat 32 s.fst.loadSet) c 1 0).toNat
          let blocked := s.flag F.FST_STATUS_RETIRE_BLOCKED
          if room ≤ used || (blocked && room < used + s.migLeft c) then s.setFld F.FST_STATUS_RETIRE_BLOCKED 1
          else s.migCopy c b errs)

/-- A ring that has not wrapped FORCE_WRAP seconds after retiring began is wrapped at once (R174, R179). -/
def execForceWrap (r : Fin 16) (dt : Nat) (s : State) : Res :=
  .next (
    let s1 := s.passTo dt (s.fst.retireAt + atLeast1 (s.fld F.FST_RETIRE_CFG_FORCE_WRAP) * 1250000000)
    match s.fst.retiring with
    | none => s.advance dt
    | some c =>
      if s.chState c ≠ chRetiring || !s1.ringExists r.val || tblGet false s1.fst.wrapped r.val then s.advance dt
      else (s1.wrapRing r.val 1).setWp r.val 0)

/-- With every ring wrapped and the migration complete the channel is retired in one step (R175, R176). -/
def execChannelRetired (s : State) : Res :=
  .next (
    match s.fst.retiring with
    | none => s
    | some c =>
      let wrapped := (List.range 16).all (fun r => !s.ringExists r || tblGet false s.fst.wrapped r)
      if s.chState c ≠ chRetiring || !wrapped || s.fst.migActive || (s.migNext c).isSome then s
      else
        let touch (x : Rec) : Bool := natBit x.set c
        let s1 := (s.setFld F.FST_CH_STATUS_STATE chRetired c).setDom (32 + c) false
        let s2 := (List.range 16).foldl (fun s r => s.voidWhere r (fun x => touch x &&
          (let n := max 1 (chanCount x.set)
           let k := ((maskChans x.set).takeWhile (fun d => d != c)).length
           (List.range ((x.off + max 1 x.len - 1) / 4096 + 1 - x.off / 4096)).any (fun i => (x.off / 4096 + i) % n == k)))) s1
        (s2.storeStatus).publish 0x0B0 (16 + c) s.now48)

end Sys2Proof.Machine
end

