-- ==== Sys2Proof/Machine/Delivery.lean ====
section
/-!
DEFINITION. The delivery of halyard events to tasks (R376, R378 to R388, R393).
-/

namespace Sys2Proof.Machine

/-- The full instant of a cause: the latest not later than now whose bits 47:0 equal it (R376). -/
def State.causeInstant (s : State) (c : BitVec 48) : Nat := s.fine - (s.now48 - c).toNat

/-! ### The consumer (R379) -/

/-- The task input that takes halyard `h`: the lowest task, its primary input first. -/
def State.consumer (s : State) (h : Nat) : Option (Nat × Bool) :=
  allInputs.find? (fun x => s.taskInput x.1 x.2 = some h)

/-- Whether the unit of task `t` is present (R6, R381). -/
def taskPresent (v : Variant) (t : Nat) : Bool :=
  if t < 0x40 then decide (t < v.lanes)
  else if 0x050 ≤ t && t < 0x080 then decide ((t - 0x050) / 4 < v.beams)
  else true

/-- Whether task `t` is busy (R378). -/
def State.taskBusy (s : State) (t : Nat) : Bool :=
  if t < 0x040 then false
  else if t < 0x050 then (s.rg (t - 0x040)).search.isSome
  else if t < 0x080 then (tblGet none (s.sc ((t - 0x050) / 4)).pend ((t - 0x050) % 4)).isSome
  else if t < 0x08C then false
  else if t < 0x090 then (tblGet none s.proj.pend (t - 0x08C)).isSome
  else if t < 0x0A0 then false
  else if t < 0x0C0 then (s.dm (t - 0x0A0)).startBusy
  else if t < 0x0C8 then false
  else if t < 0x0CA then (s.ring (t - 0x0C8)).own.isSome
  else if t < 0x100 then false
  else if t < 0x120 then s.seqRuns (t - 0x100)
  else if t < 0x140 then (s.hseq (t - 0x120)).pend.isSome
  else if t < 0x150 then (tblGet none s.hal.helmIn (t - 0x140)).isSome
  else false

/-- Whether an event waits in an input of task `t`: PENDING of HAL_TASK_STATUS (R385, R397). -/
def State.taskPending (s : State) (t : Nat) : Bool :=
  if 0x050 ≤ t && t < 0x080 || 0x08C ≤ t && t < 0x090 || 0x120 ≤ t && t < 0x150 then s.taskBusy t else false

/-! ### What a task does with an event -/

/-- The wait task `w` of interpreter `n` (R317). -/
def State.scnEvent (s : State) (n w : Nat) (e : HEv) : State :=
  let x := s.sc n
  let waits := match x.wait with
    | .task k => k == w && s.scnState n == scnWaiting
    | _ => false
  if waits then s.waitDone n else s.setSc n { x with pend := tblSet none x.pend w (some e) }

/-- Event counter `c` (R393): it adds `n` events, of which `e` is the one that can reach the threshold. -/
def State.countEvent (s : State) (c n : Nat) (first last : HEv) : State :=
  let th := atLeast1 (s.rd .HAL_CTR_CFG c).toNat
  let v := (s.rd .HAL_CTR_VALUE c).toNat
  if th ≤ v + n then
    let e := if th ≤ v + 1 then first else last
    (s.wr .HAL_CTR_VALUE 0 c).publishHops (0x220 + c) 0 e.cause (e.hops + 1)
  else s.wr .HAL_CTR_VALUE (BitVec.ofNat 32 (v + n)) c

/-- A WAIT of sequence `q` consumes its event (R387, R396). -/
def State.seqEvent (s : State) (q : Nat) (e : HEv) : State :=
  let x := s.hseq q
  if s.seqRuns q && x.phase == .wait then s.setHseq q { x with phase := .issue, base := e.hops }
  else s.setHseq q { x with pend := some e }

/-- Task `t` takes an event (R378); event counters are in `countEvent`. `met` are the groups that a command of the same clock
disables (R382). -/
def State.takeEvent (s : State) (t : Nat) (e : HEv) (met : BitVec 16) : State :=
  let at0 := s.causeInstant e.cause
  if t < 0x040 then (if s.fld F.CAP_TRIG_CFG_SOURCE t = 1 then State.trigCause 1 at0 false t s else s)
  else if t < 0x050 then s.mark (t - 0x040) at0
  else if t < 0x080 then s.scnEvent ((t - 0x050) / 4) ((t - 0x050) % 4) e
  else if t < 0x088 then s.strobeHalyard (t - 0x080) at0
  else if t < 0x089 then s.swapReq
  else if t < 0x090 then s.lseqEvent (t - 0x08C) e
  else if t < 0x0A0 then s.cmpArm (t - 0x090)
  else if t < 0x0C0 then s.dmaEvent (t - 0x0A0)
  else if t < 0x0C8 then s.timCapture (t - 0x0C0) at0
  else if t < 0x0CA then s.ringSend (t - 0x0C8) e.code.toNat
  else if t < 0x0E0 then s.groups (2 ^ (t - 0x0D0)) 0 met
  else if t < 0x0F0 then s.groups 0 (2 ^ (t - 0x0E0)) 0
  else if t < 0x100 then s.countEvent (t - 0x0F0) 1 e e
  else if t < 0x120 then s.startSeq (t - 0x100) e.hops
  else if t < 0x140 then s.seqEvent (t - 0x120) e
  else if t < 0x150 then { s with hal := { s.hal with helmIn := tblSet none s.hal.helmIn (t - 0x140) (some e) } }
  else s.msixReq (s.fld F.HAL_NOTIFY_VEC (t - 0x150))

/-! ### The order of R384 -/

/-- An event over the hop limit (R387, R388, R539): recorded, counted, and notified once for each setting of SET. -/
def State.loopDrop (s : State) (h : Nat) : State :=
  let first := !s.flag F.HAL_LOOP_SET
  let s1 := (s.recordHal .HAL_LOOP h).bump .HAL_CNT_LOOP
  if !first then s1
  else
    let s2 := s1.notice 8 0xFF 8 (BitVec.ofNat 32 h)
    let owner := s.fld F.HAL_ATTR_OWNER h
    if owner = 1 || owner = 2 then s2.msixReq (s2.fld F.HAL_CFG_NOTIFY_VEC) else s2

/-- Steps 1 to 3 of R384 and the presence of R381: the event still alive with its task and input, or dropped. -/
def State.route (s : State) (h : Nat) (e : HEv) : Option (Nat × Bool × HEv) × State :=
  if e.gated then (none, s.bump .HAL_CNT_GATED)
  else if s.hopLimit < e.hops then (none, s.loopDrop h)
  else match s.consumer h with
    | none => (none, s.bump .HAL_CNT_UNROUTED)
    | some (t, second) =>
      if taskPresent s.variant t then (some (t, second, e), s)
      else (none, (s.recordHal .HAL_ORPHAN h).bump .HAL_CNT_ORPHAN)

/-- The oldest event of halyard `h` leaves its queue (R383). -/
def State.popEvent (s : State) (h : Nat) : Option HEv × State :=
  match tblGet [] s.hal.queues h with
  | [] => (none, s)
  | e :: rest => (some e, { s with hal := { s.hal with queues := tblSet [] s.hal.queues h rest } })

/-- The event of halyard `h` on its way to a task, if one is queued and survives steps 1 to 3. -/
def State.nextEvent (s : State) (h : Nat) : Option (Nat × Bool × HEv) × State :=
  match s.popEvent h with
  | (none, s1) => (none, s1)
  | (some e, s1) => s1.route h e

/-- A busy task (R385, R386): its events are dropped. -/
def State.overrun (s : State) (t n : Nat) : State :=
  (s.setFld F.HAL_TASK_STATUS_OVERRUN 1 t).bumpFld F.HAL_TASK_STATUS_OVR_CNT n t

/-- An event alone at its task (R385). -/
def State.deliverOne (s : State) (x : Nat × Bool × HEv) (met : BitVec 16) : State :=
  if s.taskBusy x.1 then s.overrun x.1 1 else (s.bump .HAL_CNT_DELIVERED).takeEvent x.1 x.2.2 met

/-- Whether a task counts (R378). -/
def taskCounts (t : Nat) : Bool := decide (0x0F0 ≤ t) && decide (t < 0x100)

/-- The group that a task disables. -/
def taskDisables (t : Nat) : BitVec 16 := if 0x0E0 ≤ t && t < 0x0F0 then BitVec.ofNat 16 (2 ^ (t - 0x0E0)) else 0

/-- Two events in one clock (R386): for one task they coincide, the primary input's first; where one enables and the other disables
a group, the disable wins (R382). -/
def State.deliverTwo (s : State) (x y : Nat × Bool × HEv) (met : BitVec 16) : State :=
  if x.1 ≠ y.1 then (s.deliverOne x (met ||| taskDisables y.1)).deliverOne y (met ||| taskDisables x.1)
  else
    let p := if x.2.1 then y.2.2 else x.2.2
    let q := if x.2.1 then x.2.2 else y.2.2
    if s.taskBusy x.1 then s.overrun x.1 2
    else if taskCounts x.1 then (s.bumpBy .HAL_CNT_DELIVERED 2).countEvent (x.1 - 0x0F0) 2 p q
    else (((s.setFld F.HAL_TASK_STATUS_COINCIDENT 1 x.1).bumpFld F.HAL_TASK_STATUS_COINC_CNT 1 x.1).bump
      .HAL_CNT_DELIVERED).takeEvent x.1 p met

/-- The latency of an event to a task's input in 0.2 ns (R391): 4 fabric clocks, 2 more for a producer of another domain, and 2
clocks of the helm, of the time unit or of the PCIe core for tasks there. -/
def eventLatency (far : Bool) (task : Option Nat) : Nat :=
  (if far then 30 else 20) + (match task with
    | none => 0
    | some t =>
      if 0x140 ≤ t && t < 0x150 then 20 else if 0x0C0 ≤ t && t < 0x0CA then 80 else if 0x150 ≤ t then 10 else 0)

/-- The instant at which the oldest event of halyard `h` reaches its task, in 0.2 ns: after its latency, and a fabric clock after
the delivery before it (R383, R391). -/
def State.arrival (s : State) (h : Nat) : Nat :=
  match tblGet [] s.hal.queues h with
  | [] => 0
  | e :: _ => max (4 * e.sentAt + eventLatency e.far ((s.consumer h).map (·.1))) (tblGet 0 s.hal.last h + 5)

/-- Time passes up to the arrival of the oldest event of halyard `h`. -/
def State.awaitArrival (s : State) (h : Nat) : State :=
  if (tblGet [] s.hal.queues h).isEmpty then s
  else
    { s with fine := max s.fine ((s.arrival h + 3) / 4),
             hal := { s.hal with last := tblSet 0 s.hal.last h (max (s.arrival h) (4 * s.fine)) } }

/-- EVENT_DELIVERY (R384, R386, R391): one fabric clock delivers the oldest event of a halyard, and of a second one in the same
clock. Halyards deliver nothing before the end of LOAD (R392). -/
def execEventDelivery (h : Fin 256) (h2 : Option (Fin 256)) (met : BitVec 16) (s : State) : Res :=
  .next (
    if !s.ready then s
    else
      let s := s.awaitArrival h.val
      let s := match h2 with
        | some k => s.awaitArrival k.val
        | none => s
      let a := s.nextEvent h.val
      let b := match h2 with
        | some k => if k = h then (none, a.2) else a.2.nextEvent k.val
        | none => (none, a.2)
      match a.1, b.1 with
      | none, none => b.2
      | some x, none => b.2.deliverOne x met
      | none, some y => b.2.deliverOne y met
      | some x, some y => b.2.deliverTwo x y met)

end Sys2Proof.Machine
end

