-- ==== Sys2Proof/Machine/Pcie.lean ====
section
/-!
DEFINITION. The PCI Express endpoint: link and endpoint resets (R405), configuration space (R402, R406 to R409), BAR4
(R410, R414), MSI-X (R416), completions and timeouts (R422, R423), Bus Master Enable (R424), function-level reset (R425),
link power (R427) and errors (R420).
-/

namespace Sys2Proof.Machine



/-- BME and D3HOT of PCE_STATUS follow configuration space. -/
def State.pceShow (s : State) : State :=
  (s.setFld F.PCE_STATUS_BME (b2n s.busMaster)).setFld F.PCE_STATUS_D3HOT (b2n s.d3hot)

/-- Pending vectors that have become unmasked are sent (R416). -/
def State.msixFlushList : List Nat → State → State
  | [], s => s
  | v :: rest, s =>
    State.msixFlushList rest (if s.msixMasked v then s else (s.setPending v false).msixSend v)

def State.msixFlush (s : State) : State :=
  if s.msixEnable && !s.functionMask && s.busMaster && !s.d3hot then State.msixFlushList (s.pce.pba.map (·.1)) s else s

/-! ### Bus Master Enable (R424, R449) -/

/-- A change for every DMA channel in turn. -/
def State.eachDma (k : Nat → State → State) : List Nat → State → State
  | [], s => s
  | n :: rest, s => State.eachDma k rest (k n s)

def State.allDma (s : State) (k : Nat → State → State) : State := State.eachDma k (List.range 32) s

/-- Whether a channel has a descriptor, link or data address in host space (R450). -/
def State.dmaUsesHost (s : State) (n : Nat) : Bool :=
  let x := s.dm n
  let uses (d : Desc) : Bool := d.host || (!d.linkEnd && !inStore d.link)
  s.frameMode n || !inStore x.addr || (x.phase != .loading && uses x.desc) || ((x.sh.bind (·.desc)).map uses).getD false

/-- Whether a channel is at work or waits for work. -/
def State.dmaLive (s : State) (n : Nat) : Bool :=
  let st := s.dmaState n
  st == dmaRunning || st == dmaParkedEnd || st == dmaParkedOwn || st == dmaWaitQueue

/-- The channel stops at its current TLP (R424). -/
def State.dmaPause (n : Nat) (s : State) : State :=
  if !s.dmaLive n || !s.dmaUsesHost n then s
  else
    let s1 := if s.frameMode n then s.ctDropAll n else s.dropDrain n (s.dm n).desc
    s1.setDm n { s1.dm n with paused := true }

/-- The channel resumes: the descriptor in progress runs again from its start (R449). -/
def State.dmaResume (n : Nat) (s : State) : State :=
  let x := s.dm n
  if !x.paused then s
  else
    let s1 := s.setDm n { x with paused := false }
    if x.phase = .none && s.dmaState n ≠ dmaWaitQueue then (if s.frameMode n then s1.ctRefill n else s1)
    else s1.dmaLoad n x.addr

/-- Clearing Bus Master Enable or entering D3hot. -/
def State.busOff (s : State) : State := (s.dropReqs .dropped (fun _ => true)).allDma State.dmaPause

/-- Setting it again or returning to D0. -/
def State.busOn (s : State) : State := (s.allDma State.dmaResume).msixFlush

/-- What a change of configuration space does to the bus; `was` says whether requests could be issued before it. -/
def State.busChange (s : State) (was : Bool) : State :=
  let s1 := s.pceShow
  if was && !s1.mayRequest then s1.busOff else if !was && s1.mayRequest then s1.busOn else s1

/-- BUS_MASTER_DISABLE (R424): Bus Master Enable is cleared, or the function enters D3hot. `met` says that an FLR starts in the same
clock, which decides alone (R426). -/
def execBusMasterDisable (d3hot met : Bool) (s : State) : Res :=
  .next (
    if s.flrActive || met then s
    else
      let s1 := if d3hot then s.cfgWr 0x44 (putBits (s.cfgRd 0x44) 0 2 3) else s.cfgWr 0x04 (putBits (s.cfgRd 0x04) 2 1 0)
      s1.busChange s.mayRequest)

/-- BUS_MASTER_ENABLE (R424): Bus Master Enable is set, or the function returns to D0; `met` as in BUS_MASTER_DISABLE. -/
def execBusMasterEnable (d0 met : Bool) (s : State) : Res :=
  .next (
    if s.flrActive || met then s
    else
      let s1 := if d0 then s.cfgWr 0x44 (putBits (s.cfgRd 0x44) 0 2 0) else s.cfgWr 0x04 (putBits (s.cfgRd 0x04) 2 1 1)
      s1.busChange s.mayRequest)

/-! ### Endpoint reset and link (R405, R425) -/

/-- The session on the PCIe mailbox closes, with any challenge outstanding on it. -/
def State.closeMailbox (s : State) : State :=
  let s1 := { s with ses := { s.ses with mbxChal := none } }
  let s2 := s1.wr .SES_STATUS (putBits (s1.rd .SES_STATUS) 8 2 0)
  s2.wr .BOOT_MBX_STATUS (putBits (s2.rd .BOOT_MBX_STATUS) 0 4 0)

/-- Channels that use the host go to ABORTED (R450); one that a migration has reserved is aborted when it is released. -/
def State.dmaFlr (n : Nat) (s : State) : State :=
  if !s.dmaUsesHost n then s
  else if s.dmaLive n then s.dmaAbort n true
  else if s.dmaState n = dmaReserved && s.fst.migFrom ≠ dmaIdle && s.fst.migFrom ≠ dmaHalted then
    { s with fst := { s.fst with migFrom := dmaAborted } }.setFld F.DMA_STATUS_FLR_ABORT 1 n
  else s

/-- Configuration space at its reset values, but for the offsets kept. -/
def State.cfgClear (s : State) (keep : Nat → Bool) : State :=
  { s with pce := { s.pce with cfg := s.pce.cfg.filter (fun e => keep e.1), msix := [], pba := [], reqs := [], waitReqs := [],
                               reserved := [] } }.pceShow

/-- No FLR waits for its outstanding requests any more. -/
def State.endDrain (s : State) : State := { s with pce := { s.pce with flrDrain := false } }

/-- A reset of the endpoint (R405): configuration space, host DMA and the mailbox session. An FLR it cuts short waits for the link
(R426). -/
def State.pceReset (s : State) : State :=
  let s0 := s.allDma (fun n s => (s.dmaCredit n).dmaFlr n)
  let s1 := (s0.endDrain.cfgClear (fun _ => false)).closeMailbox
  let s2 := ((s1.setFld F.PCE_STATUS_LINK_SPEED 0).setFld F.PCE_STATUS_LINK_WIDTH 0).setFld F.PCE_STATUS_DL_UP 0
  let s3 := s2.setFld F.PCE_STATUS_LINK_PM 3
  if s.fld F.PCE_STATUS_LINK_SPEED = 0 then s3 else s3.pceEvent

/-- Assertion of PERST_N (R405). -/
def execPerstN (s : State) : Res :=
  .next ({ s.pceReset with pce := { s.pceReset.pce with perst := true } }.emit (.pins .pcie 0 .idle))

/-- A hot reset received on the link (R405). -/
def execHotReset (s : State) : Res :=
  .next (if s.flag F.PCE_STATUS_DL_UP then s.pceReset.setFld F.PCE_STATUS_HOT_RESET_SEEN 1 else s)

/-- Loss of the data link (R405). -/
def execDlDown (s : State) : Res :=
  .next (
    if s.flag F.PCE_STATUS_DL_UP then
      (s.pceReset.setFld F.PCE_STATUS_LINK_DOWN_SEEN 1).bump .PCE_CNT_LINK_DOWN
    else s)

/-- Training completes and the data link comes up (R399, R405); an FLR that a reset cut short is then complete (R426). -/
def execPcieLinkUp (speed : BitVec 4) (width : BitVec 5) (s : State) : Res :=
  .next (
    let w := width.toNat
    if !s.domOn 64 || !s.domOn 65 || speed.toNat = 0 || 5 < speed.toNat || !(w == 1 || w == 2 || w == 4 || w == 8 || w == 16)
    then s
    else
      let change := s.fld F.PCE_STATUS_LINK_SPEED ≠ speed.toNat || s.fld F.PCE_STATUS_LINK_WIDTH ≠ w
      let s0 := State.creditAll (List.range 32) (if s.pce.perst then s.emit (.pins .pcie 0 .used) else s)
      let s1 := ((s0.setFld F.PCE_STATUS_LINK_SPEED speed.toNat).setFld F.PCE_STATUS_LINK_WIDTH w).setFld F.PCE_STATUS_DL_UP 1
      let s2 := { s1 with pce := { s1.pce with perst := false, activeAt := s.fine } }.setFld F.PCE_STATUS_LINK_PM 0
      let s3 := if s2.flrActive && !s.flag F.PCE_STATUS_DL_UP then
          (s2.setFld F.PCE_STATUS_FLR_ACTIVE 0).setFld F.PCE_STATUS_FLR_SEEN 1 else s2
      if change then s3.pceEvent else s3)

/-- Initiate Function Level Reset, steps 1 and 2 of R425. -/
def State.flrStart (s : State) : State :=
  let s1 := (s.dropReqs .dropped (fun _ => true)).allDma State.dmaFlr
  { s1 with pce := { s1.pce with flrDrain := true, flrAt := s.fine } }.setFld F.PCE_STATUS_FLR_ACTIVE 1

def execFlr (s : State) : Res := .next (if s.flrActive then s else s.flrStart)

/-- Step 4 of R425, 7 ms after the start: configuration space but for link settings, MSI-X and the mailbox session. -/
def execFlrDrainEnd (dt : Nat) (s : State) : Res :=
  .next (
    let s := s.advance dt
    if !s.flrActive || !s.pce.flrDrain then s
    else
      let s := s.passTo 0 (s.pce.flrAt + fineOfNs 7000000)
      ({ s with pce := { s.pce with flrDrain := false } }.cfgClear
        (fun o => o == 0x60 || o == 0x80)).closeMailbox)

/-- Step 5 of R425, up to 8 ms after the start; one that a reset cut short ends with the link instead (R426). -/
def execFlrDone (dt : Nat) (s : State) : Res :=
  .next (
    if s.flrActive && !s.pce.flrDrain && s.flag F.PCE_STATUS_DL_UP then
      ((s.passBy dt (s.pce.flrAt + fineOfNs 8000000)).setFld F.PCE_STATUS_FLR_ACTIVE 0).setFld F.PCE_STATUS_FLR_SEEN 1
    else s.advance dt)

/-! ### Configuration requests (R402, R407 to R409; the places of the standard's fields are PRESUMED, log entry 5) -/

/-- The writable bits and the write-1-to-clear bits of a word of configuration space. -/
def State.cfgMasks (s : State) (off : Nat) : Word × Word :=
  match off with
  | 0x04 => (0x00000546, 0xF9000000)
  | 0x0C => (0x000000FF, 0)
  | 0x3C => (0x000000FF, 0)
  | 0x10 => (0xFC000000, 0)
  | 0x14 => (0xFFFFFFFF, 0)
  | 0x1C => (if s.pce.bar2Log2 < 32 then 0 else BitVec.ofNat 32 (2 ^ 32 - 2 ^ (s.pce.bar2Log2 - 32)), 0)
  | 0x20 => (0xFFFF0000, 0)
  | 0x24 => (0xFFFFFFFF, 0)
  | 0x44 => (0x00000003, 0)
  | 0x58 => (0x00007BFF, 0x000F0000)
  | 0x60 => (0x000003DB, 0xC0000000)
  | 0x78 => (0x0000101F, 0)
  | 0x80 => (0x0000000F, 0)
  | 0xB0 => (0xC0000000, 0)
  | 0x104 => (0, 0x01FFF030)
  | 0x108 => (0x01FFF030, 0)
  | 0x10C => (0x01FFF030, 0)
  | 0x110 => (0, 0x0000F1C1)
  | 0x114 => (0x0000F1C1, 0)
  | 0x118 => (0x00000140, 0)
  | _ => (0, 0)

/-- What a configuration read returns: BAR2 reads as not implemented while it has no size, and Link Status shows the
link. -/
def State.cfgRead (s : State) (off : Nat) : Word :=
  match off with
  | 0x18 => if s.pce.bar2Log2 = 0 then 0 else s.cfgRd 0x18
  | 0x60 => s.cfgRd 0x60 ||| BitVec.ofNat 32 ((s.fld F.PCE_STATUS_LINK_SPEED + s.fld F.PCE_STATUS_LINK_WIDTH * 16) * 2 ^ 16)
  | _ => s.cfgRd off

/-- The bits of the byte lanes enabled. -/
def beMask (be : BitVec 4) : Word :=
  (List.range 4).foldl (fun m k => if natBit be.toNat k then m ||| maskBits (8 * k) 8 else m) 0

/-- A configuration write and what it sets off. -/
def State.cfgWrite (s : State) (off : Nat) (be : BitVec 4) (v : Word) : State :=
  let m := s.cfgMasks off
  let on := beMask be
  let old := s.cfgRd off
  let new := ((old &&& ~~~(m.1 &&& on)) ||| (v &&& m.1 &&& on)) &&& ~~~(v &&& m.2 &&& on)
  let new := if off = 0x44 && (getBits new 0 2 == 1 || getBits new 0 2 == 2) then old else new
  let was := s.mayRequest
  let s1 := (s.cfgWr off new).busChange was
  let s2 := if off = 0xB0 then s1.msixFlush else s1
  if off = 0x58 && natBit be.toNat 1 && natBit v.toNat 15 then s2.flrStart else s2

/-- CONFIG_REQUEST (R402, R425): before the SPD data have been read and during an FLR it is completed with Configuration
Request Retry Status. -/
def execConfigRequest (write : Bool) (off : BitVec 12) (be : BitVec 4) (v : Word) (tlp : Tlp) (s : State) : Res :=
  .next (s.inbound tlp (fun s =>
    let o := off.toNat / 4 * 4
    if !s.pce.spdRead || s.flrActive then s.emit (.cfgReply true 0)
    else if write then
      if tlp.cond = .poisoned then s.unsupportedReq false tlp.header
      else (s.cfgWrite o be v).emit (.cfgReply false 0)
    else s.emit (.cfgReply false (s.cfgRead o))))

/-! ### BAR4 (R410, R414, R416) -/

/-- A 4-byte word of BAR4. -/
def State.bar4Rd (s : State) (a : Nat) : Word :=
  if a < 0x8000 then
    let e := s.msixEntry (a / 16)
    match a % 16 / 4 with
    | 0 => e.addrLo
    | 1 => e.addrHi
    | 2 => e.data
    | _ => e.ctrl
  else if a < 0x8100 then
    (List.range 32).foldl (fun m k => putBits m k 1 (b2n (tblGet false s.pce.pba ((a - 0x8000) * 8 + k)))) 0
  else 0

/-- A vector becomes unmasked: its pending message is sent (R416). -/
def State.msixUnmask (s : State) (v : Nat) : State :=
  let s1 := s.setMsix v { s.msixEntry v with ctrl := 0 }
  if tblGet false s1.pce.pba v && s1.msixEnable && !s1.functionMask && s1.busMaster && !s1.d3hot then
    (s1.setPending v false).msixSend v
  else s1

def State.bar4Wr (s : State) (a : Nat) (v : Word) : State :=
  if 0x8000 ≤ a then s
  else
    let n := a / 16
    let e := s.msixEntry n
    match a % 16 / 4 with
    | 0 => s.setMsix n { e with addrLo := v &&& 0xFFFFFFFC }
    | 1 => s.setMsix n { e with addrHi := v }
    | 2 => s.setMsix n { e with data := v }
    | _ => if natBit v.toNat 0 then s.setMsix n { e with ctrl := 1 } else s.msixUnmask n

def State.bar4Words (s : State) (a : Nat) : List Word → State
  | [] => s
  | v :: rest => (s.bar4Wr a v).bar4Words (a + 4) rest

/-- BAR4_ACCESS (R410, R412). -/
def execBar4Access (write : Bool) (off len : Nat) (data : List Byte) (tlp : Tlp) (s : State) : Res :=
  .next (s.inbound tlp (fun s => s.memReq write tlp.header (
    let ok := (len == 4 || len == 8) && off % len == 0 && decide (off + len ≤ 0x10000)
    if write then
      if tlp.cond = .poisoned then s.aerLog 12 false tlp.header
      else if ok && data.length == len then s.bar4Words off (wordsOf data)
      else s
    else
      s.completions [] (len + 1) off (if ok then bytesLE 4 (s.bar4Rd off).toNat ++
        (if len = 8 then bytesLE 4 (s.bar4Rd (off + 4)).toNat else []) else List.replicate (min len 4096) 0) 0)))

/-- MSIX_UNMASK (R416). -/
def execMsixUnmask (v : Fin 2048) (s : State) : Res := .next (s.msixUnmask v.val)

/-- UNSUPPORTED_REQUEST (R420). -/
def execUnsupportedRequest (posted : Bool) (header : List Word) (s : State) : Res :=
  .next (s.unsupportedReq posted header)

/-! ### Completions (R420, R422, R423) -/

/-- The header of a read request; the requester ID that the host assigned is a free value. -/
def State.reqHeader (s : State) (q : Req) : List Word × State :=
  let r := s.freeBits 16
  let long := decide (2 ^ 32 ≤ q.addr)
  let d0 := q.len / 4 % 1024 + q.tag / 512 % 2 * 2 ^ 23 + q.tag / 256 % 2 * 2 ^ 19 + b2n long * 2 ^ 29
  let d1 := (if q.len = 4 then 0x0F else 0xFF) + q.tag % 256 * 2 ^ 8 + r.1.toNat * 2 ^ 16
  let tail := if long then [BitVec.ofNat 32 (q.addr / 2 ^ 32), BitVec.ofNat 32 (q.addr % 2 ^ 32)]
    else [BitVec.ofNat 32 q.addr, 0]
  (BitVec.ofNat 32 d0 :: BitVec.ofNat 32 d1 :: tail, r.2)

/-- The request of a tag is over: its tag is free, and waiting requests are issued. -/
def State.endReq (s : State) (tag : Nat) : State :=
  ({ s with pce := { s.pce with reqs := s.pce.reqs.filter (fun r => r.tag != tag) } }).reissue

/-- A discarded completion of R424 and R425 counts. -/
def State.countDrop (s : State) : State :=
  if s.flrActive then s.bump .PCE_CNT_FLR_DROP else s.bump .PCE_CNT_BME_DROP

/-- What a read of channel `q.ch` has brought goes where it was read for. -/
def State.reqDone (s : State) (q : Req) : State :=
  let x := s.dm q.ch
  match q.kind with
  | .readBack => s.setDm q.ch { x with backOk := true }
  | .shadow => s.setDm q.ch { x with sh := x.sh.map (fun h => { h with rx := some (takeAt q.data 0 q.len) }) }
  | .desc => s.setDm q.ch { x with rx := takeAt q.data 0 q.len, got := true, rxBad := q.bad }
  | .link => s.setDm q.ch { x with rx := takeAt q.data 0 q.len, got := true, rxBad := q.bad }
  | .data => s.setDm q.ch { x with rx := takeAt q.data 0 q.len, got := true, rxBad := q.bad }
  | .dropped => s
  | .gone => s

/-- A read of channel `q.ch` has failed: the channel halts (R440), one whose shadow it was only when that is to run. -/
def State.reqFailed (s : State) (q : Req) (code : Nat) : State :=
  if q.kind = .shadow then
    s.setDm q.ch { s.dm q.ch with sh := (s.dm q.ch).sh.map (fun h => { h with fail := some code }) }
  else s.dmaHalt q.ch code (q.kind != .desc)

/-- A completion that is accepted for its request (R420, R422, R439): its data follow what has come before, and the request is
over with the last of them. -/
def State.takeCompletion (s : State) (q : Req) (status : CplStatus) (data : List Byte) (tlp : Tlp) : State :=
  let s1 := if tlp.cond = .poisoned then s.aerLog 12 true tlp.header else s
  let q' := { q with data := q.data ++ data,
                     bad := q.bad ++ if tlp.cond = .poisoned then [(q.data.length, data.length)] else [] }
  match status with
  | .unsupported => (s1.endReq q.tag).reqFailed q 9
  | .abort => ((s1.aerLog 15 false tlp.header).endReq q.tag).reqFailed q 9
  | .successful =>
    if q.len ≤ q'.data.length then (s1.endReq q.tag).reqDone q'
    else { s1 with pce := { s1.pce with reqs := s1.pce.reqs.map (fun r => if r.tag = q.tag then q' else r) } }

/-- A completion whose data are discarded: it counts under R424 and R425, and frees its tag with its last byte. -/
def State.dropCompletion (s : State) (q : Req) (status : CplStatus) (data : List Byte) (count : Bool) : State :=
  let s1 := if count then s.countDrop else s
  let q' := { q with data := q.data ++ data }
  if status ≠ .successful || q.len ≤ q'.data.length then s1.endReq q.tag
  else { s1 with pce := { s1.pce with reqs := s1.pce.reqs.map (fun r => if r.tag = q.tag then q' else r) } }

/-- COMPLETION (R423, R439, R440). `met` says that Bus Master Enable is cleared in the same clock: the completion is discarded
(R426). -/
def execCompletion (tag : Fin 1024) (status : CplStatus) (data : List Byte) (tlp : Tlp) (met : Bool) (s : State) : Res :=
  .next (s.inbound tlp (fun s =>
    match s.pce.reqs.find? (fun r => r.tag = tag.val) with
    | none => (s.aerLog 16 true tlp.header).bump .PCE_CNT_UNEXP_CPL
    | some q =>
      if q.kind = .gone then s.dropCompletion q status data false
      else if q.kind = .dropped || met then s.dropCompletion q status data true
      else s.takeCompletion q status data tlp))

/-- The least and the greatest timeout of a code of Device Control 2 in units of 1 µs, for the codes that the spec leaves to the
standard (PRESUMED, log entry 87). -/
def timeoutRange (code : Nat) : Nat × Nat :=
  match code with
  | 1 => (50, 100)
  | 2 => (1000, 10000)
  | 5 => (16000, 55000)
  | 6 => (65000, 210000)
  | 9 => (260000, 900000)
  | 10 => (1000000, 3500000)
  | 13 => (4000000, 13000000)
  | 14 => (17000000, 64000000)
  | _ => (50, 64000000)

/-- The completion timeout in fine counts (R422): 16 ms for the code 0, else a free value in the range of the code. -/
def State.cplTimeout (s : State) : Nat :=
  let code := getBits (s.cfgRd 0x78) 0 4
  if code = 0 then fineOfNs 16000000
  else
    let r := timeoutRange code
    fineOfNs (1000 * r.1) + Config.cplTimeout code % (fineOfNs (1000 * (r.2 - r.1)) + 1)

/-- COMPLETION_TIMEOUT (R422, R424). `met` says that a completion of the request arrives in the same clock: no timeout occurs
(R423). -/
def execCompletionTimeout (tag : Fin 1024) (dt : Nat) (met : Bool) (s : State) : Res :=
  .next (
    match s.pce.reqs.find? (fun r => r.tag = tag.val) with
    | none => s.advance dt
    | some q =>
      let off := met || natBit (s.cfgRd 0x78).toNat 4 || s.flrActive
      let s := if off then s.advance dt else s.passTo dt (q.sent + s.cplTimeout)
      if off then s
      else if !s.mayRequest then (s.endReq tag.val).countDrop
      else if q.kind = .dropped || q.kind = .gone then s.endReq tag.val
      else
        let h := s.reqHeader q
        if q.retried then ((h.2.aerLog 14 false h.1).endReq tag.val).reqFailed q 8
        else
          let s1 := (h.2.aerLog 14 true h.1).bump .PCE_CNT_CPL_TIMEOUT
          let s2 := { s1 with pce := { s1.pce with
            reqs := s1.pce.reqs.filter (fun r => r.tag != tag.val),
            reserved := s1.pce.reserved ++ [(tag.val, s1.fine + 2 * s1.cplTimeout)] } }
          s2.issue { q with data := [], bad := [], retried := true })

/-- TAG_RELEASE (R422): twice the timeout later the old tag is free. -/
def execTagRelease (tag : Fin 1024) (dt : Nat) (s : State) : Res :=
  .next (
    match s.pce.reserved.find? (fun t => t.1 = tag.val) with
    | none => s.advance dt
    | some t =>
      let s := s.passTo dt t.2
      ({ s with pce := { s.pce with reserved := s.pce.reserved.filter (fun t => t.1 != tag.val) } }).reissue)

/-! ### Link power (R427) -/

/-- L0S_ENTRY: L0S_IDLE with nothing to send. -/
def execL0sEntry (dt : Nat) (s : State) : Res :=
  .next (
    if s.flag F.PCE_STATUS_DL_UP && natBit (s.cfgRd 0x60).toNat 0 && s.fld F.PCE_STATUS_LINK_PM = 0 then
      ((s.passTo dt (s.pce.activeAt + fineOfNs (100 * atLeast1 (s.fld F.PCE_ASPM_L0S_IDLE)))).setFld F.PCE_STATUS_LINK_PM 1).emit
        (.linkPm false)
    else s.advance dt)

/-- L1_ENTRY: L1_IDLE with nothing to send in either direction, no request outstanding and no channel at work. -/
def execL1Entry (dt : Nat) (s : State) : Res :=
  .next (
    let idle := s.pce.reqs.isEmpty && s.pce.waitReqs.isEmpty && s.pce.pba.isEmpty &&
      (List.range 32).all (fun n => s.dmaState n != dmaRunning)
    if s.flag F.PCE_STATUS_DL_UP && natBit (s.cfgRd 0x60).toNat 1 && s.fld F.PCE_STATUS_LINK_PM ≤ 1 && idle then
      ((s.passTo dt (s.pce.activeAt + fineOfNs (1000 * atLeast1 (s.fld F.PCE_ASPM_L1_IDLE)))).setFld F.PCE_STATUS_LINK_PM 2).emit
        (.linkPm true)
    else s.advance dt)

end Sys2Proof.Machine
end

