-- ==== Sys2Proof/Machine/Boot.lean ====
section
/-!
DEFINITION. LOAD (R486 to R491, R573) and the flash operations of live update (R505 to R508, R510).
-/

namespace Sys2Proof.Machine

/-! ### LOAD -/

/-- The bytes a programmer has written, put into device `dev`. -/
def State.flashWrites (dev : Nat) : List (Nat × List Byte) → State → State
  | [], s => s
  | (a, bs) :: rest, s => State.flashWrites dev rest (s.flashPut dev a bs)

/-- What a flash port shows (R485, R486, R511). -/
def State.flashSeen (dev : Nat) (d : FlashPort) (s : State) : State :=
  let used := d.density.val != 0 && (d.octal || d.quad)
  let s1 := ((s.setFld F.BOOT_FLASH_INFO_LOG2 d.density.val dev).setFld F.BOOT_FLASH_INFO_USED (b2n used) dev).setFld
    F.BOOT_FLASH_INFO_OCTAL (b2n (used && d.octal)) dev
  { s1 with boot := { s1.boot with readErr := tblSet false s1.boot.readErr dev (d.readErr && d.octal) } }

/-- Whether a device holds a candidate (R488). -/
def State.isCandidate (s : State) (dev : Nat) : Bool :=
  s.flashUsed dev && hdrKnown (s.imgHead dev) && hdrMark (s.imgHead dev) == 1

/-- The candidates in descending SEQ, device 0 first on equal SEQ (R488). -/
def State.candidates (s : State) : List Nat :=
  let l := [0, 1].filter s.isCandidate
  if hdrSeq (s.imgHead 0) < hdrSeq (s.imgHead 1) then l.reverse else l

/-- The candidates are tried in turn (R490); with none left LOAD stays in the rescue state (R491). -/
def State.tryImages (code : Nat) : List Nat → State → State
  | [], s => s.setFld F.BOOT_STATUS_RESCUE 1
  | dev :: rest, s =>
    match s.checkImage dev code with
    | (_, some c) => { s with boot := { s.boot with cand := some c } }
    | (r, none) => State.tryImages code rest ((s.setFld F.BOOT_STATUS_LOAD_RESULT r).setFld F.BOOT_STATUS_FELL_BACK 1)

/-- Whether the key fuses or the key-hash fuses are unprogrammed (R493, R496). -/
def State.keyUnset (s : State) : Bool := s.fuse.keyHash.isNone || s.fuse.deviceKey.isNone

/-! ### Pins (R552) -/

/-- The pins of flash port `d`: as the transfer requires, or at rest with the device reset deasserted (R487). -/
def flashPins (d : Nat) (busy : Bool) : List Out :=
  [.pins .flashCs d (if busy then .used else .high), .pins .flashData d (if busy then .used else .low), .pins .flashReset d .high]

/-- The pins of the two flash ports without a transfer, in OFF and in a reset; `held` is RESET_N asserted (R487). -/
def flashReset (off held : Bool) : List Out :=
  let lv (l : PinLevel) : PinLevel := if off && !held then .highZ else l
  [0, 1].flatMap (fun d => [.pins .flashCs d (lv .high), .pins .flashData d (lv .low), .pins .flashReset d (lv .low)])

/-- Every pin in its state of OFF or of a reset and of LOAD (R43, R123, R295, R323, R369, R404, R482, R487, R538, R552): bypass
switches close, gates and emission are off, transmitters off. -/
def resetPins (s : State) (mode : Nat) (held : Bool) : List Out :=
  let off := mode == modeOff
  let lv (l : PinLevel) : PinLevel := if off then .highZ else l
  [.bypass 0 true, .bypass 1 true]
    ++ (List.range 2).map (fun p => if off then .pins .txDisable p .highZ else .txDisable p true)
    ++ (List.range s.variant.beams).flatMap (fun n => [.emitPin n false, .pins .emission n (lv .inactive), .pins .power n (lv .zero),
        .pins .dpwr n (lv .low), .pins .shroud n (lv .low)])
    ++ (List.range 8).flatMap (fun n => [.gate n false, .pins .gate n (lv .low)])
    ++ [.pins .projector 0 (lv .inactive), .pins .pcie 0 (if off && !held then .highZ else .idle)]
    ++ (List.range s.variant.lanes).map (fun n => if off then .laneHighZ n else .laneTx n false)
    ++ (List.range 8).map (fun k => if off then .trigoHighZ k else .trigo k false false s.fine)
    ++ (s.tim.sch.filter (fun e => e.2.pulse.isSome)).map (fun e => .tout e.1 false false s.fine)
    ++ (List.range 8).map (fun k => .pins .tout k (lv .inactive))
    ++ (List.range 4).map (fun a => .pins .ssiClk a (lv .high))
    ++ (List.range 12).map (fun c => .pins .dram c (lv .low))
    ++ flashReset off held

/-- What goes out at the start of LOAD: the pins leave their states of OFF, the endpoint trains but with PERST_N asserted (R402,
R404), and both flash ports are read. -/
def loadPins (s : State) : List Out :=
  resetPins s modeLoad false ++ (if s.pce.perst then [] else [.pins .pcie 0 .used]) ++ flashPins 0 true ++ flashPins 1 true

/-- What goes out at the end of LOAD: the pins of domains that stay off, DDR4 channels that train, the flash ports at rest. -/
def readyPins (s : State) : List Out :=
  let offs (g : PinGroup) (l : List Nat) (dom : Nat → Nat) : List Out :=
    (l.filter (fun n => !s.domOn (dom n))).map (fun n => .pins g n .highZ)
  offs .shroud (List.range s.variant.beams) (fun n => 56 + n / 3) ++ offs .gate (List.range 8) (fun n => 60 + n / 4)
    ++ offs .projector [0] (fun _ => 62) ++ offs .ssiClk (List.range 4) (fun a => 56 + a)
    ++ offs .dram (List.range 12) (fun c => 32 + c)
    ++ ((List.range 12).filter (fun c => s.domOn (32 + c))).map (fun c => .pins .dram c .used)
    ++ ((List.range s.variant.lanes).filter (fun n => !s.domOn (16 + n / 4))).map (fun n => .laneHighZ n)
    ++ flashPins 0 false ++ flashPins 1 false

/-- A list of outputs goes out in order. -/
def State.emitAll (s : State) (l : List Out) : State := { s with outbox := s.outbox ++ l }

/-- The domains powered at steps 1 and 2 of R489. -/
def loadDomains : List Nat := [64, 65, 68, 69, 70, 71, 76, 77]

/-- LOAD_START (R489): steps 1 to 9, at the end of which an image has been accepted or none is left. -/
def execLoadStart (dt : Nat) (d0 d1 : FlashPort) (dimms : List Dimm) (s : State) : Res :=
  .next (if s.ready || s.boot.loading then s
    else
      let s1 := ((s.advance dt).emitAll (loadPins s)).setFld F.PWR_MODE_STATUS_MODE modeLoad
      let (mv, s2) := s1.freeBits 16
      let s3 := (s2.setFld F.PWR_SUPPLY_RAILS 0x1F).setFld F.PWR_SUPPLY_CORE_MV mv.toNat
      let s4 := State.eachInst (fun d s => s.setDom d true) loadDomains s3
      let s5 := State.flashSeen 1 d1 (State.flashSeen 0 d0 (State.flashWrites 1 d1.programmed (State.flashWrites 0 d0.programmed s4)))
      let s6 := { s5 with boot := { s5.boot with dimms := dimms, loading := true, loadAt := s5.fine } }
      let s7 := { s6 with pce := { s6.pce with spdRead := true, bar2Log2 := s6.bar2Size } }.spdReads 0 0 128
      let s8 := (s7.setFld F.BOOT_STATUS_KEY_UNSET (b2n s7.keyUnset)).wr .BOOT_SVN (BitVec.ofNat 32 s7.fuse.minSvn)
      let (code, s9) := s8.tableCode
      State.tryImages code s9.candidates s9)

/-! ### The end of LOAD -/

/-- The domains a domain needs (R518). -/
def domNeeds (d : Nat) : List Nat :=
  if d < 8 then [68, 74]
  else if d < 16 then [68, 75]
  else if d < 24 then [68, 74]
  else if d < 32 then [68, 75]
  else if d < 44 then [68, 69]
  else if d < 56 then [68, 77, 56 + (d - 44) / 3]
  else if d < 60 then [68, 70]
  else if d < 63 then [63]
  else match d with
    | 63 => [68]
    | 64 => [65]
    | 66 | 67 => [68, 77]
    | 72 | 73 | 74 | 75 | 78 => [68]
    | 76 => [70]
    | 77 => [71]
    | 79 => [77]
    | _ => []

/-- The cost of a domain in CU (R518). -/
def domCost (d : Nat) : Nat :=
  if d < 16 then 40
  else if d < 32 then 12
  else if d < 44 then 20
  else if d < 56 then 4
  else if d < 60 then 6
  else if d < 63 then 5
  else match d with
    | 63 => 3
    | 64 => 15
    | 65 => 25
    | 66 | 67 => 6
    | 72 | 73 => 10
    | 74 | 75 => 18
    | 76 => 12
    | 77 => 4
    | 78 => 5
    | 79 => 1
    | _ => 8

/-- Whether a domain belongs to an absent unit (R7). -/
def domAbsent (v : Variant) (d : Nat) : Bool :=
  (v.half && ((8 ≤ d && d < 16) || (24 ≤ d && d < 32) || (38 ≤ d && d < 44) || (50 ≤ d && d < 56)))
    || (v.noBeams && 44 ≤ d && d < 56) || 80 ≤ d

/-- The policies of R519: UNUSED 0, ON 1, IDLE_OFF 2, which counts as ON but for masts. -/
def State.domPolicy (s : State) (d : Nat) : Nat :=
  let p := s.fld F.PWR_DOM_POLICY_POLICY d
  if p = 0 then 0 else if p = 2 && d < 16 then 2 else 1

/-- The order in which step 7 powers the other domains: each after those it needs. -/
def domOrder : List Nat := [63, 60, 61, 62, 66, 67, 72, 73, 74, 75, 78, 79, 56, 57, 58, 59] ++ List.range 56

/-- A domain is powered in LOAD when its policy is ON and every domain it needs is on (R518, R519). -/
def State.domLoad (d : Nat) (s : State) : State :=
  if !domAbsent s.variant d && s.domPolicy d == 1 && (domNeeds d).all s.domOn then s.setDom d true else s

/-- FST_CH_STATUS of a channel after training (R181): of a module whose SPD cannot be read it shows no more than its state. -/
def State.chTrained (exclude : Nat) (x : Nat × Dimm) (s : State) : State :=
  let d := x.2
  if d.gib = 0 then s
  else
    s.wr .FST_CH_STATUS (BitVec.ofNat 32 (dimmState x.1 d (natBit exclude x.1)
      + if spdRead x.1 d then d.ranks.toNat * 8 + b2n (d.kind == .lrdimm) * 32 + (Nat.log2 d.gib - 4) % 4 * 64 else 0)) x.1

/-- The rings of the image at the start of their first lap: its set, and the write pointer (R148, R183; DEDUCED, log entry 81). -/
def State.ringsStart (s : State) : State :=
  (List.range 16).foldl (fun s r =>
    if s.ringExists r then (s.setFld F.FST_RING_STATUS_SET_CUR s.lapSet r).setWp r 0 else s) s

/-- The store after training (R136 to R141, R178, R183). -/
def State.storeTrained (s : State) : State :=
  let ex := s.fld F.FST_LOAD_CFG_EXCLUDE_MASK
  let used := s.slotsUsed ex
  let grade := min (s.fld F.FST_LOAD_CFG_GRADE_CAP) (listMin (used.map (fun x => x.2.grade.toNat)))
  let s1 := s.slots.foldl (fun s x => State.chTrained ex x s) s
  let s2 := (s1.wr .FST_BANDS (BitVec.ofNat 32 (s1.storeBands ex))).setFld F.FST_STATUS_GRADE grade
  let s3 := { s2 with fst := { s2.fst with loadSet := chanMask (fun c => used.any (fun x => x.1 == c)), selfRefresh := true,
                                           trainedAt := s2.fine } }
  (s3.ringsStart.storeStatus.spdReads 0 128 128).spdReads 1 0 256

/-- The engines that fail the self-test of LOAD are retired (R215, R216, R220). -/
def State.selfTested : List (Fin 16 × Fin 66) → State → State
  | [], s => s
  | (m, e) :: rest, s =>
    State.selfTested rest (if s.hasMast m && s.domOn m && s.engine m e < 2 then s.retireEngine m e 7 0 0 else s)

/-- The longest LOAD of an image read from its device, in fine counts (R489): at 400 MB/s or 66.5 MB/s. -/
def State.loadBound (s : State) (c : Switch) : Nat :=
  let bytes (store : Bool) : Nat := ((c.secs.filter (fun x => (x.kind == secStore) == store)).map (fun x => x.bytes.length)).sum
  let time (n : Nat) : Nat := if s.flag F.BOOT_FLASH_INFO_OCTAL c.dev then n * 25 / 8 else n * 2500 / 133
  max (fineOfUs 720000) (fineOfUs 20000 + time (bytes false)) + time (bytes true) + fineOfUs 30000

/-- Time passes up to the end of LOAD: within the bound, to which refused attempts add their own time (R489, R490). -/
def State.loadTime (s : State) (dt : Nat) (c : Switch) : State :=
  if s.flag F.BOOT_STATUS_FELL_BACK then s.advance dt else s.passBy dt (s.boot.loadAt + s.loadBound c)

/-- LOAD_END (R489 step 10): the image is in force, units are enabled, READY := 1 and the mode is IDLE. `failed` names the engines
that fail the self-test they all run at LOAD (R216). -/
def execLoadEnd (dt : Nat) (failed : List (Fin 16 × Fin 66)) (s : State) : Res :=
  match s.boot.cand with
  | none => .next s
  | some c =>
    let s1 := State.putSections false (c.secs.filter (fun x => x.kind != secStore)) (s.loadTime dt c).imageDefaults
    let s2 := State.putSections false (c.secs.filter (fun x => x.kind == secStore)) s1.storeTrained
    let s3 := State.eachInst State.domLoad domOrder s2
    let s3 := State.eachInst (fun p s => s.setFld F.CAP_STAMP_CAL_PHY_LAT (tblGet 0 s.fuse.phyLat p) p) (List.range s3.variant.lanes) s3
    let s4 := State.eachInst (fun p s => s.wr .TIM_PORT_LAT (tblGet 0 s.fuse.portLat p) p) [0, 1] s3
    let s5 := { s4 with boot := { s4.boot with cand := none, layout := c.layout }, helm := { s4.helm with wdtAt := s4.fine } }
    let s6 := ((s5.setFld F.BOOT_STATUS_ACTIVE_DEV c.dev).wr .BOOT_SEQ_ACTIVE (BitVec.ofNat 32 c.seq)).setFld F.PCE_STATUS_READY 1
    let s7 := (s6.wr .HAL_GROUP_STATE (s6.rd .HAL_GROUP_INIT)).setMode modeIdle
    let s8 := (State.eachOf State.laneStart (List.range s7.variant.lanes) s7).widthErrs
    .next (State.selfTested failed ((State.unitsFollow s s8).emitAll (readyPins s8)))

/-! ### Flash operations (R505, R506) -/

/-- An operation ends, or is refused: its result, and OP_DONE where it has run. -/
def State.opResult (s : State) (r : Nat) (done : Bool) : State :=
  let s1 := s.setFld F.BOOT_STATUS_OP_RESULT r
  if done then s1.setFld F.BOOT_STATUS_OP_DONE 1 else s1

/-- GO of an operation by a Service session (R502, R510): refused while one runs and while LOAD has not ended, but for the
rescue state. -/
def State.bootOp (s : State) (who : Requester) (k : State → State) : State :=
  s.writeGate who .BOOT_CMD 0
    (if s.flag F.BOOT_STATUS_OP_BUSY || !(s.ready || s.flag F.BOOT_STATUS_RESCUE) then s.opResult resRefused false else k s)

/-- Whether a device holds the image in force or one with a switch pending (R505). -/
def State.isProtected (s : State) (dev : Nat) : Bool :=
  (s.ready && s.fld F.BOOT_STATUS_ACTIVE_DEV == dev) || (s.boot.switch.any (fun x => x.dev == dev))

/-- STAGE_MARK programmed: 0 UNVERIFIED, 1 VERIFIED, 2 RETIRED (R492). -/
def State.setMark (s : State) (dev m : Nat) : State :=
  s.flashPut dev 0x018 (if m = 0 then [0xFF, 0xFF, 0xFF, 0xFF] else if m = 1 then [0xFF, 0xFF, 0, 0] else [0, 0, 0, 0])

/-- Whether bytes `a` to `a + n - 1` touch STAGE_MARK. -/
def touchesMark (a n : Nat) : Bool := decide (a < 0x01C) && decide (0x018 < a + n)

/-- The first byte and the count of the whole sectors that a range touches. -/
def sectorsOf (a n : Nat) : Nat × Nat := if n = 0 then (a, 0) else (a / 65536 * 65536, roundUp (a + n) 65536 - a / 65536 * 65536)

/-- An operation starts: OP_BUSY, and STAGE_MARK UNVERIFIED where it touches it. -/
def State.opStart (s : State) (x : FlashOp) (touches : Bool) : State :=
  let s1 := { s with boot := { s.boot with op := some x } }.emitAll (flashPins x.dev true)
  let s2 := (s1.setFld F.BOOT_STATUS_OP_BUSY 1).wr .BOOT_PROGRESS 0
  if touches then s2.setMark x.dev 0 else s2

/-- A program or an erase: refused without a device, on a protected one, or beyond its end. -/
def State.writeOp (s : State) (x : FlashOp) (first count : Nat) : State :=
  if !s.flashUsed x.dev then s.opResult resNoDevice false
  else if s.isProtected x.dev then s.opResult resActiveProtect false
  else if s.flashSize x.dev < first + count then s.opResult resRefused false
  else s.opStart x (touchesMark first count)

def State.bootAddr (s : State) : Nat := (s.rd .BOOT_ADDR).toNat
def State.bootLen (s : State) : Nat := (s.rd .BOOT_LEN).toNat

/-- ERASE (R505). -/
def execErase (who : Requester) (dev : Bool) (s : State) : Res :=
  .next (s.bootOp who (fun s =>
    let r := sectorsOf s.bootAddr s.bootLen
    s.writeOp ⟨1, b2n dev, r.1, r.2, 0, []⟩ r.1 r.2))

/-- PROGRAM_BUF (R505). -/
def execProgramBuf (who : Requester) (dev : Bool) (s : State) : Res :=
  .next (s.bootOp who (fun s =>
    let data := (List.range 1024).flatMap (fun i => bytesLE 4 (s.memRd (0x21000 + 4 * i)).toNat)
    if s.bootAddr % 4096 ≠ 0 then s.opResult resRefused false
    else s.writeOp ⟨2, b2n dev, s.bootAddr, 4096, 0, data⟩ s.bootAddr 4096))

/-- COPY_STORE (R505): refused in the rescue state (R491). The sectors it covers are erased first (the worked case of R508). -/
def execCopyStore (who : Requester) (dev : Bool) (s : State) : Res :=
  .next (s.bootOp who (fun s =>
    if !s.ready then s.opResult resRefused false
    else
      let r := sectorsOf s.bootAddr s.bootLen
      s.writeOp ⟨3, b2n dev, s.bootAddr, s.bootLen, (s.rd .BOOT_SRC_LO).toNat + 2 ^ 32 * (s.rd .BOOT_SRC_HI).toNat, []⟩ r.1 r.2))

/-- VERIFY (R506). -/
def execVerify (who : Requester) (dev : Bool) (s : State) : Res :=
  .next (s.bootOp who (fun s =>
    if s.flashUsed (b2n dev) then s.opStart ⟨4, b2n dev, 0, 0, 0, []⟩ false else s.opResult resNoDevice false))

/-- RETIRE (R506). -/
def execRetire (who : Requester) (dev : Bool) (s : State) : Res :=
  .next (s.bootOp who (fun s =>
    if s.flashUsed (b2n dev) then s.opStart ⟨8, b2n dev, 0, 4, 0, []⟩ false else s.opResult resNoDevice false))

/-- BURN_SVN (R506): the fused minimum becomes the SVN of the image in force, where that is higher. -/
def execBurnSvn (who : Requester) (_dev : Bool) (s : State) : Res :=
  .next (s.bootOp who (fun s =>
    if !s.ready then s.opResult resRefused false
    else
      let svn := max s.fuse.minSvn (hdrSvn (s.imgHead (s.fld F.BOOT_STATUS_ACTIVE_DEV)))
      ({ s with fuse := { s.fuse with minSvn := svn } }.wr .BOOT_SVN (BitVec.ofNat 32 svn)).opResult resOk true))

/-- A reserved OP (R510): 0x0 and 0x9 to 0xF. -/
def execBootReservedOp (who : Requester) (op : BitVec 4) (s : State) : Res :=
  .next (if op = 0 || 8 < op.toNat then s.writeGate who .BOOT_CMD 0 (s.opResult resRefused false) else s)

/-- Bytes programmed: a byte that is not erased keeps its zeros (log entry 28); STAGE_MARK is left as it stands. -/
def State.flashProgram (s : State) (dev a : Nat) (data : List Byte) : State :=
  let mix := (List.range data.length).map (fun i =>
    if touchesMark (a + i) 1 then s.flashByte dev (a + i) else s.flashByte dev (a + i) &&& data.getD i 0)
  s.flashPut dev a mix

/-- Bytes erased. -/
def State.flashErase (s : State) (dev a n : Nat) : State :=
  { s with boot := { s.boot with flash := s.boot.flash.filter (fun e => !(decide (dev * 2 ^ 32 + a ≤ e.1) && decide (e.1 < dev * 2 ^ 32 + a + n))) } }

/-- A transfer of device `dev` has ended: its pins go to rest, but in the rescue state, which is in LOAD (R487, R491). -/
def State.flashIdle (s : State) (dev : Nat) : State := if s.ready then s.emitAll (flashPins dev false) else s

/-- An operation ends with a result, having gone through `n` bytes. -/
def State.opEnd (s : State) (r n : Nat) : State :=
  let s1 := match s.boot.op with
    | some x => { s with boot := { s.boot with op := none } }.flashIdle x.dev
    | none => s
  ((s1.setFld F.BOOT_STATUS_OP_BUSY 0).wr .BOOT_PROGRESS (BitVec.ofNat 32 n)).opResult r true

/-- The result of VERIFY: every check of steps 5 to 9, and STAGE_MARK programmed where all pass. -/
def State.verifyEnd (s : State) (dev : Nat) : State :=
  let (code, s1) := s.tableCode
  match s1.checkImage dev code with
  | (r, none) => s1.opEnd r 0
  | (_, some _) => (s1.setMark dev 1).opEnd resOk (hdrLen (s1.imgHead dev) + 4096)

/-- The bytes an operation goes through in all: VERIFY reads the image. -/
def State.opBytes (s : State) (x : FlashOp) : Nat := if x.op = 4 then hdrLen (s.imgHead x.dev) + 4096 else x.len

/-- BOOT_PROGRESS while an operation runs: how far it is, a free value from what it last showed up to the whole (R505). -/
def State.showProgress (s : State) : State :=
  match s.boot.op with
  | none => s
  | some x =>
    let p := (s.rd .BOOT_PROGRESS).toNat
    let (v, s1) := s.freeBits 32
    s1.wr .BOOT_PROGRESS (BitVec.ofNat 32 (p + v.toNat % (s.opBytes x - p + 1)))

/-- FLASH_OP_DONE (R505, R506): a copy from the store waits while the store is in self-refresh. -/
def execFlashOpDone (dt : Nat) (errs : List (Nat × BurstErr)) (s : State) : Res :=
  .next (match s.boot.op with
    | none => s
    | some x =>
      let s1 := s.advance dt
      match x.op with
      | 1 => (s1.flashErase x.dev x.addr x.len).opEnd resOk x.len
      | 2 => (s1.flashProgram x.dev x.addr x.data).opEnd resOk x.len
      | 3 =>
        if !s1.storeUp then s1
        else
          let r := sectorsOf x.addr x.len
          let d := s1.storeFetch x.src x.len errs
          ((d.st.flashErase x.dev r.1 r.2).flashProgram x.dev x.addr d.data).opEnd resOk x.len
      | 4 => s1.verifyEnd x.dev
      | _ => (s1.setMark x.dev 2).opEnd resOk x.len)

/-! ### The live switch (R507, R508) -/

/-- The image on a device taken for a switch. -/
def State.switchOf (s : State) (dev : Nat) : Option Switch :=
  let tab := s.secTable dev
  (tab.find? (fun e => e.kind == secLayout)).map (fun le =>
    ⟨dev, hdrSeq (s.imgHead dev), (s.readSection dev le).bytes, tab.map (s.readSection dev)⟩)

/-- A pending switch is dropped with its staged copies; where they were still being read, the pins of the device go to rest. -/
def State.dropSwitch (s : State) : State :=
  let s1 := match s.boot.switch with
    | some x => if s.flag F.BOOT_STATUS_STAGED then s else s.flashIdle x.dev
    | none => s
  ({ s1 with boot := { s1.boot with switch := none } }.setFld F.BOOT_STATUS_SWITCH_PENDING 0).setFld F.BOOT_STATUS_STAGED 0

/-- BOOT_SWITCH (R507). -/
def execBootSwitch (who : Requester) (dev : Bool) (s : State) : Res :=
  .next (s.bootOp who (fun s =>
    let d := b2n dev
    if !s.ready || s.fld F.BOOT_STATUS_ACTIVE_DEV = d || !s.isCandidate d || (hdrSeq (s.imgHead d) ≤ (s.rd .BOOT_SEQ_ACTIVE).toNat)
      then s.opResult resRefused false
    else match s.switchOf d with
      | none => s.opResult resRefused false
      | some x =>
        if x.layout ≠ s.boot.layout then s.opResult resLayoutDiff false
        else
          let s1 := s.bumpBy .BOOT_CNT_STAGED_DISCARD s.staged.length
          let s1 := { s1 with staged := [], cal := { s1.cal with soft := [] } }
          let s1 := { s1 with boot := { s1.boot with switch := some x } }.emitAll (flashPins d true)
          ((s1.setFld F.BOOT_STATUS_SWITCH_PENDING 1).setFld F.BOOT_STATUS_STAGED 0).opResult resOk true))

/-- STAGING_DONE (R507, R508): a LIVE section whose HASH fails refuses the switch. -/
def execStagingDone (dt : Nat) (s : State) : Res :=
  .next (match s.boot.switch with
    | none => s
    | some x =>
      let s1 := s.advance dt
      if s1.flag F.BOOT_STATUS_STAGED then s1
      else if s1.flashErr x.dev then s1.dropSwitch.opResult resReadError true
      else if (s1.secTable x.dev).all (fun e => e.kind == secLayout || e.kind == secStore ||
          decide (sha256 (s1.readSection x.dev e).bytes = e.hash)) then (s1.flashIdle x.dev).setFld F.BOOT_STATUS_STAGED 1
      else s1.dropSwitch.opResult resSectionHash true)

/-- CANCEL_SWITCH (R507). -/
def execCancelSwitch (who : Requester) (_dev : Bool) (s : State) : Res :=
  .next (s.bootOp who (fun s => s.dropSwitch.opResult resOk true))

end Sys2Proof.Machine
end

