-- ==== Sys2Proof/Machine/Power.lean ====
section
/-!
DEFINITION. Mode requests and transitions (R513 to R517), power domains and the inrush budget (R518 to R522), supplies and
the reef state (R523 to R528), resets (R538).
-/

namespace Sys2Proof.Machine

/-! ### Wakes (R521, R522) -/

/-- Whether domain `d` can be powered: it is on, or neither it nor a domain it needs is UNUSED or absent (R7, R519). -/
def State.canWake (s : State) : Nat → Nat → Bool
  | 0, _ => false
  | fuel + 1, d => s.domOn d || (!domAbsent s.variant d && s.domPolicy d != 0 && (domNeeds d).all (s.canWake fuel))

/-- A wake enters the queue: by descending priority, then by ascending number. -/
def wakeInsert (d p : Nat) : List (Nat × Nat) → List (Nat × Nat)
  | [] => [(d, p)]
  | x :: rest => if x.2 < p || (x.2 = p && d < x.1) then (d, p) :: x :: rest else x :: wakeInsert d p rest

/-- A domain requested at a priority, and every domain it needs that is off at the higher of its own priority and this. -/
def State.wakeAdd : Nat → Nat → Nat → State → State
  | 0, _, _, s => s
  | fuel + 1, prio, d, s =>
    if s.domOn d || (tblGet none s.pwr.started d).isSome then s
    else
      let p := max prio (s.fld F.PWR_DOM_POLICY_PRIO d)
      let old := (s.pwr.wakes.find? (fun x => x.1 == d)).map (·.2)
      let q := max p (old.getD 0)
      let s1 := { s with pwr := { s.pwr with wakes := wakeInsert d q (s.pwr.wakes.filter (fun x => x.1 != d)) } }
      (domNeeds d).foldl (fun s n => State.wakeAdd fuel q n s) (s1.setDomPending d true)

/-- A wake request (R522). -/
def State.wake (d : Nat) (s : State) : State := if s.canWake 5 d then State.wakeAdd 5 0 d s else s

/-- The head of the wake queue: the first request whose needed domains no longer wait. -/
def State.wakeHead (s : State) : Option Nat :=
  (s.pwr.wakes.find? (fun x => (domNeeds x.1).all (fun n => !s.pwr.wakes.any (fun y => y.1 == n)))).map (·.1)

/-- The state with the budget covering `need`, waiting for the refill where it must. -/
def State.waitBudget (s : State) (need : Nat) : State :=
  let s1 := s.refill
  if need ≤ s1.pwr.budget then s1 else (s1.advance ((need - s1.pwr.budget + s1.qRefill - 1) / s1.qRefill)).refill

/-- WAKE_START (R522). -/
def execWakeStart (dt : Nat) (s : State) : Res :=
  .next (
    let s := (s.advance dt).refill
    match s.wakeHead with
    | none => s
    | some d =>
      if !(domNeeds d).all s.domOn then s
      else
        let cost := domCost d * 20000
        let s1 := s.waitBudget (min cost s.qMax)
        { s1 with pwr := { s1.pwr with
          budget := s1.pwr.budget - cost
          wakes := s1.pwr.wakes.filter (fun x => x.1 != d)
          started := tblSet none s1.pwr.started d (some s1.fine) } }.refill)

/-- What a domain that has come on does: a mast loads all its engines from the helm's copies (R520), the lanes of a quad start
bring-up, the counts of an I/O group are 0 (R553). -/
def State.domCame (d : Nat) (s : State) : State :=
  if d < 16 then
    let x := s.ms d
    let old := x.reload.getD (s.fine, none, none)
    s.setMs d { x with reload := some (s.fine, old.2.1, old.2.2), loadTill := none, woke := true }
  else if 16 ≤ d && d < 32 then State.eachOf State.laneStart ((List.range 4).map (fun i => 4 * (d - 16) + i)) s
  else if 56 ≤ d && d < 60 then State.eachOf (fun n s => s.setCount n 0) ((List.range 4).map (fun i => 4 * (d - 56) + i)) s
  else s

/-- POWER_GOOD (R522): within 20 µs of its start the domain is on and released from reset. -/
def execPowerGood (d : Fin 80) (dt : Nat) (s : State) : Res :=
  .next (match tblGet none s.pwr.started d.val with
    | none => s
    | some t =>
      let s1 := s.passBy dt (t + fineOfUs 20)
      let s2 := { s1 with pwr := { s1.pwr with started := tblSet none s1.pwr.started d.val none } }
      let s3 := (s2.setDom d.val true).setDomPending d.val false
      State.timFollow s (State.domCame d.val s3))

/-! ### Domains turned off (R520, R521) -/

/-- A mast domain off: its datapath state and memories are lost; the helm keeps its program and constants (R520). -/
def Mast.off (x : Mast) : Mast :=
  { moved := x.moved, removed := x.removed, promoted := x.promoted, log := x.log, prog := x.prog, consts := x.consts,
    reload := x.reload }

/-- Domain `d` is turned off (R521). -/
def State.domOff (d : Nat) (s : State) : State :=
  let s1 := (s.setDom d false).setDomPending d false
  let s2 := { s1 with pwr := { s1.pwr with
    wakes := s1.pwr.wakes.filter (fun x => x.1 != d), started := tblSet none s1.pwr.started d none } }
  if d < 16 then
    let x := s2.ms d
    let s3 := State.unsuspendList d (x.rerun ++ x.runs.map (·.tile)) s2
    (s3.setMs d (s3.ms d).off).setFld F.MST_STATUS_RELOAD 0 d
  else if d < 32 then State.eachOf (fun n s => (State.laneDisable n s).emit (.laneHighZ n)) ((List.range 4).map (fun i => 4 * (d - 16) + i)) s2
  else s2

/-- PWR_DOM_CMD (R521): what refuses a command for domain `d`. -/
def State.domRefused (s : State) (d : Nat) (on : Bool) : Bool :=
  80 ≤ d || 32 ≤ d || !(s.mode == modeIdle || s.mode == modeService) || (on && s.domPolicy d == 0)

/-- A PWR_DOM_CMD by a Service session; one for a domain of an absent unit is ignored (R7). -/
def State.domCmd (s : State) (d : Nat) (on : Bool) : State :=
  if d < 80 && domAbsent s.variant d then s
  else if s.domRefused d on then s.setFld F.PWR_MODE_STATUS_CMD_REFUSED 1
  else if on then State.wake d s
  else State.domOff d s

/-- DOMAIN_ON (R521). -/
def execDomainOn (who : Requester) (d : BitVec 7) (s : State) : Res :=
  .next (s.writeGate who .PWR_DOM_CMD 0 (s.domCmd d.toNat true))

/-- DOMAIN_OFF (R521). -/
def execDomainOff (who : Requester) (d : BitVec 7) (s : State) : Res :=
  .next (s.writeGate who .PWR_DOM_CMD 0 (s.domCmd d.toNat false))

/-! ### The reef state (R524 to R528) -/

/-- Steps 1 to 3 of R525: every interpreter gains cause REEF, DMA channels and dispatchers stop, and the store is in
self-refresh. -/
def State.enterReef (s : State) : State :=
  let s1 := ((s.setFld F.PWR_MODE_STATUS_REEF 1).publish 0x231 1 s.now48).bump .PWR_CNT_REEF
  let s2 := { s1.selfRef true with pwr := { s1.pwr with reefAt := s1.fine, recovered := false } }
  s2.allBeams (fun n s => s.reefPause n)

/-- A warning acted on in the mode in force (R524). -/
def State.warn (s : State) : State :=
  if s.mode = modeAcquire || s.mode = modeBuild then
    if s.reef && !s.pwr.recovered then s else s.enterReef
  else (s.setFld F.PWR_MODE_STATUS_SUPPLY_WARN 1).bump .PWR_CNT_WARN

/-- VDD_CORE at `mv` for 120 ns: below 0.710 V a warning; one during a transition is kept until it ends (R517, R523). -/
def State.warnAt (s : State) (mv : BitVec 16) : State :=
  let s1 := s.setFld F.PWR_SUPPLY_CORE_MV mv.toNat
  if s1.mode = modeOff || 710 ≤ mv.toNat then s1
  else
    let s2 := { s1 with pwr := { s1.pwr with warnAt := s1.fine } }
    if s2.flag F.PWR_MODE_STATUS_IN_TRANSITION then { s2 with pwr := { s2.pwr with warned := true } } else s2.warn

/-- SUPPLY_WARNING (R517, R523, R524). -/
def execSupplyWarning (dt : Nat) (mv : BitVec 16) (s : State) : Res := .next ((s.advance dt).warnAt mv)

/-! ### Resets (R538) -/



/-- The state after a reset into mode LOAD or OFF: what fuses, flash devices, PDAO and the host side hold is kept. -/
def State.resetTo (s : State) (mode cause : Nat) : State :=
  let r : State := { State.reset with
    variant := s.variant, fuse := s.fuse, outbox := s.outbox ++ resetPins s mode (cause == 1), freeCtr := s.freeCtr,
    boot := { State.reset.boot with flash := s.boot.flash }, pce := { State.reset.pce with perst := s.pce.perst },
    pending := s.pending }
  ((r.setFld F.PWR_MODE_STATUS_MODE mode).setFld F.PWR_RESET_CAUSE_CAUSE cause).wr .BOOT_SVN (BitVec.ofNat 32 s.fuse.minSvn)

/-- SUPPLY_RESET (R523): rails 0 VDD_CORE, 1 VDD_LANE, 2 VDDQ_DDR, 3 VDD_IO18, 4 VDD_AO. -/
def execSupplyReset (_rail : Fin 5) (s : State) : Res :=
  .next (if s.mode = modeOff then s else s.resetTo modeLoad 2)

/-- RESET_N_ASSERT (R515, R538): RESET_N is held, or a rail is lost; without VDD_AO the next start is a power-up. -/
def execResetNAssert (rail : Option (Fin 5)) (s : State) : Res :=
  .next (s.resetTo modeOff (match rail with
    | none => 1
    | some r => if r.val = 4 then 0 else 2))

/-- SOFT_RESET (R538, R541). -/
def execSoftReset (who : Requester) (s : State) : Res := .next (s.writeGate who .PWR_CMD 0 (s.resetTo modeLoad 6))

/-- The longest reef state (R528): 20.0 ms. -/
def reefMax : Nat := 25000000

/-- REEF_TIMEOUT (R528). -/
def execReefTimeout (dt : Nat) (s : State) : Res :=
  .next (if s.reef && !s.pwr.recovered then (s.passTo dt (s.pwr.reefAt + reefMax)).resetTo modeLoad 3 else s)

/-! ### The end of the reef state (R527) -/

/-- A held record that the writer finds no place for (R153): its own cut-through leg delivers the frame, or one added on SPILL_DMA
takes what is held of it, or it is dropped. -/
def State.spillHeld (s : State) (h : Held) : State :=
  let r := h.ring
  let drop (s : State) : State := s.bump .FST_CNT_DROP r
  if h.ownCt then (if h.ct then s.bump .FST_CNT_SPILL r else drop s)
  else if !s.flag F.FST_RING_CFG_SPILL_EN r then drop s
  else
    let ch := s.fld F.FST_RING_CFG_SPILL_DMA r
    let tags := h.writes.filter (fun w => w.1 = 0)
    let c := s.ctStart ch h.port h.frame (if h.opaq then none else some h.need) ((tags.head?.map (·.2)).getD [])
    if !c.1 then drop c.2
    else
      let s1 := (h.writes.filter (fun w => w.1 ≠ 0)).foldl (fun s w => s.ctData ch h.port h.frame w.1 w.2)
        (c.2.bump .FST_CNT_SPILL r)
      if h.fin.isSome then s1.ctEnd ch h.port h.frame ((tags.getLast?.map (·.2)).getD []) 0 []
      else match (s1.cp h.port).frame with
        | some f => if f.num = h.frame then s1.setCp h.port { s1.cp h.port with frame := some { f with ct := some ch } } else s1
        | none => s1

/-- A held record that gets no place starts no record: the marks taken after it count one less. -/
def State.uncount (s : State) (h : Held) : State :=
  { s with fst := { s.fst with heldMarks := s.fst.heldMarks.map (fun m =>
      if m.1 = h.ring && decide (h.at0 < m.2.1) then (m.1, m.2.1, m.2.2 - 1) else m) } }

/-- Held records get their places in order (R151, R153). -/
def State.placeHeld : List Held → State → State
  | [], s => s
  | h :: rest, s =>
    State.placeHeld rest (
      if h.place.isSome then { s with fst := { s.fst with reefHeld := s.fst.reefHeld ++ [h] } }
      else match s.placeRec h.ring h.port (h.frame % 2 ^ 48) h.stamp h.at0 h.need with
        | (some seq, s1) => { s1 with fst := { s1.fst with reefHeld := s1.fst.reefHeld ++ [{ h with place := some seq }] } }
        | (none, _) => ((s.ringFull h.ring).uncount h).spillHeld h)

/-- Rewind marks taken in the reef state, in order (R526). -/
def State.doMarks : List (Nat × Nat × Nat) → State → State
  | [], s => s
  | m :: rest, s => State.doMarks rest (s.markFor m.1 m.2.1 m.2.2)

/-- REEF_RECOVERY (R527 steps 1 to 3): VDD_CORE has stayed at or above 0.725 V for 50 µs. -/
def execReefRecovery (dt : Nat) (mv : BitVec 16) (s : State) : Res :=
  .next (
    if !s.reef || s.pwr.recovered || mv.toNat < 725 then s
    else
      let s1 := (s.passTo dt (s.pwr.warnAt + 62500)).setFld F.PWR_SUPPLY_CORE_MV mv.toNat
      if s1.pwr.reefAt + reefMax < s1.fine then s1.resetTo modeLoad 3
      else
        let held := s1.fst.reefHeld
        let s2 := { s1.selfRef false with pwr := { s1.pwr with recovered := true } }
        let s3 := State.placeHeld held { s2 with fst := { s2.fst with reefHeld := [] } }
        let s4 := State.doMarks s3.fst.heldMarks { s3 with fst := { s3.fst with heldMarks := [] } }
        s4.allBeams (fun n s => s.clearCause n 2))

/-- The bytes of a held record written to its place, and its end where the frame has ended. -/
def State.drainWrites (r seq : Nat) : List (Nat × List Byte) → State → State
  | [], s => s
  | (o, data) :: rest, s => State.drainWrites r seq rest (match s.findRec r seq with
      | some x => s.recWr r x o (x.tagBytes o data)
      | none => s)

/-- The reef buffer drained in order. -/
def State.drainHeld : List Held → State → State
  | [], s => s
  | h :: rest, s =>
    State.drainHeld rest (match h.place with
      | none => s
      | some seq =>
        let s1 := State.drainWrites h.ring seq h.writes s
        match h.fin with
        | some (len, map) => s1.endRec h.ring seq len map
        | none => s1)

/-- REEF_BUFFER_EMPTY (R527 step 4). -/
def execReefBufferEmpty (dt : Nat) (s : State) : Res :=
  .next (
    if !s.reef || !s.pwr.recovered then s
    else
      let s1 := s.advance dt
      let s2 := State.drainHeld s1.fst.reefHeld { s1 with fst := { s1.fst with reefHeld := [] } }
      ((s2.setFld F.PWR_MODE_STATUS_REEF 0).publish 0x231 0 s2.now48).wr .PWR_REEF_LAST
        (BitVec.ofNat 32 ((s2.fine - s2.pwr.reefAt) / 1250)))

/-! ### Mode requests (R514, R515, R528) -/

def causeLevel : Nat := 1
def causeNotFrom : Nat := 2
def causeNoBeams : Nat := 3
def causeKeyUnset : Nat := 4
def causeNoPermit : Nat := 5
def causeReef : Nat := 6
def causeBusy : Nat := 7

/-- A request refused: REFUSED with its cause. -/
def State.refuseMode (s : State) (cause : Nat) : State :=
  (s.setFld F.PWR_MODE_STATUS_REFUSE_CAUSE cause).setFld F.PWR_MODE_STATUS_REFUSED 1

/-- The level a request for `target` needs (R514). -/
def State.modeLevel (s : State) (target : Nat) : Nat :=
  if target ≠ s.mode && (target = modeService || s.mode = modeService) then 3 else 2

/-- A request for `target`: `k` starts it where its level suffices, no transition runs, and it names another mode (R514, R515). -/
def State.modeRequest (s : State) (who : Requester) (target : Nat) (k : State → State) : State :=
  if !s.unitOpen 14 then s
  else if s.levelOf who < s.modeLevel target then
    (if who = .mailbox then s.bump .PCE_CNT_PRIV_REFUSED else s).refuseMode causeLevel
  else if target = s.mode then s
  else if s.flag F.PWR_MODE_STATUS_IN_TRANSITION then s.refuseMode causeBusy
  else k s

/-- What meets a mode change in its clock: a commit point acts first, a warning last (R517). -/
def State.withMet (s : State) (met : Option ModeMet) (k : State → State) : State :=
  match met with
  | none => k s
  | some (.commit who) => k (s.boundary who 0)
  | some (.warning mv) => (k s).warnAt mv

/-- A transition to `target` starts. -/
def State.beginTrans (s : State) (target : Nat) : State :=
  (s.setFld F.PWR_MODE_STATUS_IN_TRANSITION 1).setFld F.PWR_MODE_STATUS_TARGET target

/-- What leaving IDLE starts: wakes of domains with policy IDLE_OFF, the exit of the store from self-refresh, lanes leaving
DEEP. -/
def State.leaveIdle (s : State) (target : Nat) : State :=
  let s1 := s.beginTrans target
  let s2 := s1.selfRef false
  let s3 := State.eachInst (fun d s => if s.domPolicy d == 2 then State.wake d s else s) (List.range 16) s2.refill
  s3.lanesLeaveIdle

/-- What a transition to IDLE starts: ENTER_DEEP to the ports. -/
def State.toIdle (s : State) : State := (s.beginTrans modeIdle).lanesEnterIdle

/-- What leaving SERVICE does (R85, R262, R515): interpreters halt, test fields clear, tuning runs stop. -/
def State.leaveService (s : State) (toBuild : Bool) : State := (s.haltForMode.lanesClearTests).stopTuning toBuild

/-- What refuses entry to BUILD, in the order of R515. -/
def State.buildCause (s : State) : Option Nat :=
  if s.variant.noBeams then some causeNoBeams
  else if s.flag F.BOOT_STATUS_KEY_UNSET then some causeKeyUnset
  else if !s.flag F.BCH_PERMIT_PERMIT then some causeNoPermit
  else if s.reef then some causeReef
  else none

/-- REQUEST_IDLE (R515). -/
def execRequestIdle (who : Requester) (met : Option ModeMet) (s : State) : Res :=
  .next (s.withMet met (fun s => s.modeRequest who modeIdle (fun s =>
    if s.reef then s.refuseMode causeReef
    else if s.mode = modeAcquire then s.toIdle
    else if s.mode = modeBuild then (s.beginTrans modeIdle).buildToAcquire.toIdle
    else if s.mode = modeService then (s.leaveService false).toIdle
    else s.refuseMode causeNotFrom)))

/-- REQUEST_ACQUIRE (R515). -/
def execRequestAcquire (who : Requester) (met : Option ModeMet) (s : State) : Res :=
  .next (s.withMet met (fun s => s.modeRequest who modeAcquire (fun s =>
    if s.mode = modeIdle then s.leaveIdle modeAcquire
    else if s.mode = modeBuild then s.buildToAcquire
    else if s.mode = modeService then (s.leaveService false).setMode modeAcquire
    else s.refuseMode causeNotFrom)))

/-- REQUEST_BUILD (R515). -/
def execRequestBuild (who : Requester) (met : Option ModeMet) (s : State) : Res :=
  .next (s.withMet met (fun s => s.modeRequest who modeBuild (fun s =>
    if s.mode = modeAcquire || s.mode = modeService then
      match s.buildCause with
      | some c => s.refuseMode c
      | none => (if s.mode = modeService then s.leaveService true else s).setMode modeBuild
    else s.refuseMode causeNotFrom)))

/-- REQUEST_SERVICE (R515). -/
def execRequestService (who : Requester) (met : Option ModeMet) (s : State) : Res :=
  .next (s.withMet met (fun s => s.modeRequest who modeService (fun s =>
    if s.reef then s.refuseMode causeReef
    else if s.mode = modeIdle then s.leaveIdle modeService
    else if s.mode = modeAcquire then (s.setMode modeService).lanesPatterns
    else if s.mode = modeBuild then (s.beginTrans modeService).buildToAcquire
    else s.refuseMode causeNotFrom)))

/-- REQUEST_INVALID_MODE (R514): a code other than 2 to 5. -/
def execRequestInvalidMode (who : Requester) (mode : BitVec 3) (s : State) : Res :=
  .next (
    if 2 ≤ mode.toNat && mode.toNat ≤ 5 then s
    else if !s.unitOpen 14 then s
    else if s.levelOf who < 2 then
      (if who = .mailbox then s.bump .PCE_CNT_PRIV_REFUSED else s).refuseMode causeNotFrom
    else s.refuseMode causeNotFrom)

/-! ### The end of a transition (R515, R517) -/

/-- Whether a record that the writer has placed is still being written. -/
def State.recordOpen (s : State) : Bool :=
  (List.range 64).any (fun p => (s.cp p).frame.any (fun f => f.store.isSome))

/-- Whether a transition can complete: for IDLE every tile is final and every record placed is finished; else no wake is
outstanding, every mast that has woken is loaded (R520), and the store is up. -/
def State.transReady (s : State) : Bool :=
  if s.fld F.PWR_MODE_STATUS_TARGET = modeIdle then
    (List.range s.variant.masts).all (fun m => (s.ms m).ready.isEmpty && (s.ms m).rerun.isEmpty && (s.ms m).runs.isEmpty)
      && !s.recordOpen
  else s.pwr.wakes.isEmpty && s.pwr.started.isEmpty && (List.range s.variant.masts).all (fun m => !(s.ms m).woke)
    && !s.fst.selfRefresh

/-- The mode of a completed transition comes into force. -/
def State.enterTarget (s : State) : State :=
  let t := s.fld F.PWR_MODE_STATUS_TARGET
  let s0 := if s.mode = modeService then s.lanesClearTests else s
  let s1 := s0.setFld F.PWR_MODE_STATUS_IN_TRANSITION 0
  if t = modeIdle then
    let s2 := State.eachInst (fun d s => if s.domPolicy d == 2 && s.domOn d then State.domOff d s else s) (List.range 16) s1
    ((s2.selfRef true).setMode modeIdle).dropTriggers
  else if t = modeService then (s1.setMode modeService).lanesPatterns
  else s1.setMode t

/-- MODE_TRANSITION_DONE (R515): a warning kept meanwhile is then acted on, where it is `still` present (R517). -/
def execModeTransitionDone (dt : Nat) (still : Bool) (s : State) : Res :=
  .next (
    let s1 := s.advance dt
    if !s1.flag F.PWR_MODE_STATUS_IN_TRANSITION || !s1.transReady then s1
    else
      let s2 := s1.enterTarget
      if !s2.pwr.warned then s2
      else
        let s3 := { s2 with pwr := { s2.pwr with warned := false } }
        if still then { s3 with pwr := { s3.pwr with warnAt := s3.fine } }.warn else s3)

end Sys2Proof.Machine
end

