-- ==== Sys2Proof/Machine/Helm.lean ====
section
/-!
DEFINITION. The helm voter, watchdog, journal and replay (R529 to R537, R543). The helm program itself is no part of the
spec: its accesses come as commands whose requester is the helm.
-/

namespace Sys2Proof.Machine

/-- The states of a core in HLM_STATUS (R542). -/
def coreActive : Nat := 0
def coreResync : Nat := 1
def coreRetired : Nat := 2

def State.core (s : State) (c : Nat) : Nat := getBits (s.rd .HLM_STATUS) (2 * c) 2
def State.setCore (s : State) (c v : Nat) : State := s.wr .HLM_STATUS (putBits (s.rd .HLM_STATUS) (2 * c) 2 v)

/-- A notice of the helm itself (R539); the spec gives the helm no cause codes, so the code is a free value. -/
def State.helmNotice (s : State) : State :=
  let f := s.freeBits 16
  f.2.notice 13 0xFF f.1.toNat 0

/-- Ten seconds in fine counts (R531). -/
def tenSeconds : Nat := 12500000000

/-- Core `c` is outvoted (R530 steps 1 and 2); the third time within 10 s it is RETIRED (R531). -/
def State.outvote (s : State) (c : Nat) : State :=
  let recent := (tblGet [] s.helm.outvoted c).filter (fun t => decide (s.fine ≤ t + tenSeconds))
  let times := recent ++ [s.fine]
  let s1 := (({ s with helm := { s.helm with outvoted := tblSet [] s.helm.outvoted c times, resyncAt := s.fine } }.setFld
    F.HLM_STATUS_DUAL 1).bump .HLM_CNT_MISCOMPARE).helmNotice
  if 3 ≤ times.length then (s1.setCore c coreRetired).helmNotice else s1.setCore c coreResync

/-- HELM_MISCOMPARE (R530, R531): one of three cores in lockstep disagrees with the other two. -/
def execHelmMiscompare (core : Fin 3) (dt : Nat) (s : State) : Res :=
  .next (
    if !s.ready || s.flag F.HLM_STATUS_DUAL || s.core core.val ≠ coreActive then s.advance dt
    else (s.advance dt).outvote core.val)

/-- RESYNC_DONE (R530 step 5): within 50 µs of the miscompare. -/
def execResyncDone (core : Fin 3) (dt : Nat) (s : State) : Res :=
  .next (
    let s := if s.core core.val = coreResync then s.passBy dt (s.helm.resyncAt + fineOfUs 50) else s.advance dt
    if s.core core.val = coreResync then
      ((s.setCore core.val coreActive).setFld F.HLM_STATUS_DUAL 0).wr .HLM_LAST_RESYNC
        (BitVec.ofNat 32 ((s.fine - s.helm.resyncAt) * 4 / 5))
    else s)

/-- DUAL_MISCOMPARE (R531): it cannot be decided. -/
def execDualMiscompare (s : State) : Res :=
  .next (if s.flag F.HLM_STATUS_DUAL then s.resetTo modeLoad 4 else s)

/-- The instant the helm watchdog expires at (R531, R543). -/
def State.wdtDue (s : State) : Nat := s.helm.wdtAt + atLeast1 (s.fld F.HLM_WDT_WDT_MS) * 1250000

/-- HELM_WATCHDOG (R531). -/
def execHelmWatchdog (dt : Nat) (s : State) : Res :=
  .next (if s.ready then (s.passTo dt s.wdtDue).resetTo modeLoad 5 else s)

/-- A write of HLM_WDT (R542, R543): a session's write is ignored. -/
def State.wdtWrite (s : State) (who : Requester) (v : Word) : State :=
  if who = .helm && s.unitOpen 13 then
    { s with helm := { s.helm with wdtAt := s.fine } }.setFld F.HLM_WDT_WDT_MS (getBits v 0 16)
  else s

def execHlmWdt (who : Requester) (v : BitVec 32) (s : State) : Res := .next (s.wdtWrite who v)

/-- HELM_MEMORY_UE (R536, R537): rollback and replay; a reset where R532 does not cover helm memory; an error in the
checkpoint bank takes that cover away until the next commit point. -/
def execHelmMemoryUe (checkpoint : Bool) (s : State) : Res :=
  .next (
    if !s.ready then s
    else if checkpoint then { s with helm := { s.helm with uncovered := true } }
    else if s.helm.uncovered then s.resetTo modeLoad 4
    else (s.setFld F.HLM_STATUS_REPLAY 1).bump .HLM_CNT_REPLAY)

/-- REPLAY_END (R536 step 4). -/
def execReplayEnd (dt : Nat) (s : State) : Res := .next ((s.advance dt).setFld F.HLM_STATUS_REPLAY 0)

/-! ### What the helm program takes in (R535) -/

/-- One helm input taken: the event leaves it and the journal records it. -/
def State.takeHelmIn (s : State) (k : Nat) : State :=
  match tblGet none s.hal.helmIn k with
  | none => s
  | some _ => ({ s with hal := { s.hal with helmIn := tblSet none s.hal.helmIn k none } }).journalAdd

/-- The oldest fault notice taken from the fault input. -/
def State.takeNotice (s : State) : State :=
  match s.helm.notices with
  | [] => s
  | _ :: rest => ({ s with helm := { s.helm with notices := rest } }).journalAdd

/-- The helm program takes the oldest notice and every event in its inputs (log entry 30). It runs from the end of LOAD. -/
def State.helmTakes (s : State) : State :=
  if s.ready then (List.range 16).foldl State.takeHelmIn s.takeNotice else s

end Sys2Proof.Machine
end

