-- ==== Sys2Proof/Machine/Session.lean ====
section
/-!
DEFINITION. Sessions (R496 to R502): the keys of the levels, the exchange over the PCIe mailbox and over datagrams, the
lockouts and the idle timeout.
-/

namespace Sys2Proof.Machine

/-! ### Keys and answers (R496, R497) -/

/-- The bytes of an ASCII label. -/
def asciiBytes (t : String) : List Byte := t.toList.map (fun c => BitVec.ofNat 8 c.toNat)

/-- The key of a level (R496): 1 Observer, 2 Operator, 3 Service. -/
def State.levelKey (s : State) (level : Nat) : List Byte :=
  let k := s.fuse.deviceKey.getD (List.replicate 32 0)
  match level with
  | 3 => k
  | 2 => hmac k (asciiBytes "SWISTA-OPERATOR")
  | _ => hmac (hmac k (asciiBytes "SWISTA-OPERATOR")) (asciiBytes "SWISTA-OBSERVER")

/-- The Device Serial Number as its bytes, bits 7:0 first (R497). -/
def State.serialBytes (s : State) : List Byte := bytesLE 8 s.fuse.serial.toNat

/-- The P that a PROOF must carry (R497). -/
def State.proofOf (s : State) (c : Chal) : List Byte :=
  hmac (s.levelKey c.level) ([0x43] ++ c.ns ++ c.nc ++ bytesLE 1 c.level ++ c.client ++ s.serialBytes)

/-- The A of an ACCEPT (R497). -/
def State.acceptOf (s : State) (c : Chal) : List Byte :=
  hmac (s.levelKey c.level) ([0x53] ++ c.nc ++ c.ns ++ bytesLE 1 c.level ++ bytesLE 4 c.sid)

/-- The session key (R497). -/
def State.sesKeyOf (s : State) (c : Chal) : List Byte := hmac (s.levelKey c.level) ([0x4B] ++ c.ns ++ c.nc)

/-- A challenge for OPEN data; Ns and SID are free values (log entry 2). -/
def State.newChal (s : State) (data : List Byte) : Chal × State :=
  let (ns, s1) := s.freeBits 128
  let (sid, s2) := s1.freeBits 32
  (⟨(data.getD 0 0).toNat, takeAt data 1 16, bytesLE 16 ns.toNat, takeAt data 17 4, sid.toNat, s.fine⟩, s2)

/-- The data of a CHALLENGE (R497). -/
def State.chalData (s : State) (c : Chal) : List Byte := c.ns ++ s.serialBytes ++ bytesLE 4 c.sid

/-- Whether a challenge still stands: it lapses after 1 s (R497). -/
def State.chalLive (s : State) (c : Chal) : Bool := decide (s.fine < c.since + finePerSec)

def badProof : Nat := 1
def lockedOut : Nat := 2
def sesBusy : Nat := 3
def badLevel : Nat := 4

/-! ### Levels and lockouts (R501) -/

/-- Whether a Service session is open. -/
def State.serviceOpen (s : State) : Bool := [0, 2, 4, 6, 8].any (fun k => getBits (s.rd .SES_STATUS) k 2 == 3)

/-- Level `l` stands in SES_STATUS for slot `k`, 4 being the mailbox. -/
def State.setSesLevel (s : State) (k l : Nat) : State :=
  s.wr .SES_STATUS (putBits (s.rd .SES_STATUS) (2 * k) 2 l)

def State.isLocked (s : State) (x : Lockout) : Bool :=
  match x.due with
  | none => false
  | some t => decide (s.fine < t)

/-- One more failure of a transport (R501). -/
def State.failLock (s : State) (x : Lockout) : Lockout :=
  let f := x.fails + 1
  if f < 8 then { x with fails := f }
  else
    let secs := if x.secs = 0 then 1 else min 64 (2 * x.secs)
    { fails := f, secs := secs, due := some (s.fine + secs * finePerSec) }

/-- A lockout ends. -/
def endLock (x : Lockout) : Lockout := { x with due := none }

/-! ### The mailbox (R498) -/

def mbxData : Nat := 0x20140

/-- The mailbox's answer: STATE and LEVEL, DONE with REASON, and VEC when EN = 1. -/
def State.mbxDone (s : State) (reason : Nat) : State :=
  let s1 := (s.setFld F.BOOT_MBX_STATUS_REASON reason).setFld F.BOOT_MBX_STATUS_DONE 1
  if s1.flag F.BOOT_MBX_CFG_EN then s1.msixReq (s1.fld F.BOOT_MBX_CFG_VEC) else s1

def State.setMbxState (s : State) (st lvl : Nat) : State :=
  (s.setFld F.BOOT_MBX_STATUS_STATE st).setFld F.BOOT_MBX_STATUS_LEVEL lvl

/-- OPEN with the LEVEL field of BOOT_MBX_CMD. -/
def State.mbxOpen (s : State) (level : Nat) : State :=
  let data := s.memBytesAt mbxData 21
  if level = 0 || (data.getD 0 0).toNat ≠ level then s.mbxDone badLevel
  else
    let s1 := s.closeMailbox
    if s1.isLocked s1.ses.mbxLock then s1.mbxDone lockedOut
    else if level = 3 && s1.serviceOpen then s1.mbxDone sesBusy
    else
      let (c, s2) := s1.newChal data
      let s3 := { s2 with ses := { s2.ses with mbxChal := some c } }
      ((s3.memBytes mbxData (s3.chalData c)).setMbxState 1 level).mbxDone 0

/-- PROOF with the LEVEL field of BOOT_MBX_CMD. -/
def State.mbxProof (s : State) (level : Nat) : State :=
  match s.ses.mbxChal.filter s.chalLive with
  | none => s.mbxDone badProof
  | some c =>
    if c.level ≠ level then s.mbxDone badLevel
    else
      let spent := { s with ses := { s.ses with mbxChal := none } }.setMbxState 0 0
      if s.memBytesAt mbxData 32 ≠ s.proofOf c then
        let s1 := { spent with ses := { spent.ses with mbxLock := s.failLock s.ses.mbxLock } }
        (s1.bump .SES_CNT_AUTH_FAIL).mbxDone badProof
      else if level = 3 && s.serviceOpen then spent.mbxDone sesBusy
      else
        let s1 := { spent with ses := { spent.ses with mbxLock := {} } }
        (((s1.memBytes mbxData (s.acceptOf c)).setSesLevel 4 level).setMbxState 2 level).mbxDone 0

/-- GO of BOOT_MBX_CMD. -/
def mbxGo (v : Word) : Bool := natBit v.toNat 31

def mbxLevel (v : Word) : Nat := getBits v 4 2

/-- MBX_OPEN (R498). -/
def execMbxOpen (v : Word) (s : State) : Res :=
  .next (s.flrGate .mailbox true (if mbxGo v then s.mbxOpen (mbxLevel v) else s))

/-- MBX_PROOF (R498). -/
def execMbxProof (v : Word) (s : State) : Res :=
  .next (s.flrGate .mailbox true (if mbxGo v then s.mbxProof (mbxLevel v) else s))

/-- MBX_CLOSE (R498). -/
def execMbxClose (v : Word) (s : State) : Res :=
  .next (s.flrGate .mailbox true (if mbxGo v then s.closeMailbox else s))

/-! ### Datagrams (R499, R500) -/

/-- A datagram of R499 taken apart. -/
structure Dgram where
  type : Nat
  level : Nat
  sid : Nat
  seq : Nat
  body : List Byte
  /-- What follows the body: the tag, or nothing. -/
  tail : List Byte
  /-- The bytes that the tag covers. -/
  signed : List Byte
  deriving DecidableEq, Repr

/-- Whether a type carries a tag. -/
def dgTagged (type : Nat) : Bool := decide (5 < type)

/-- The datagram in a UDP payload; none where it does not keep R499. -/
def parseDgram (d : List Byte) : Option Dgram :=
  let n := fieldLE d 16 2
  let g : Dgram := ⟨fieldLE d 2 1, fieldLE d 3 1, fieldLE d 4 4, fieldLE d 8 8, (d.drop 20).take n, d.drop (20 + n), d.take (20 + n)⟩
  if fieldLE d 0 2 ≠ 0x5357 || 1024 < n then none
  else if d.length ≠ 20 + n + (if dgTagged g.type then 32 else 0) then none
  else some g

/-- The bytes of an answer before its tag. Its SEQ is a free value: R500 gives none (log entry 2). -/
def State.dgBytes (s : State) (type sid : Nat) (body : List Byte) : List Byte × State :=
  let (q, s1) := s.freeBits 64
  (bytesLE 2 0x5357 ++ bytesLE 1 type ++ [0] ++ bytesLE 4 sid ++ bytesLE 8 q.toNat ++ bytesLE 2 body.length ++ [0, 0] ++ body, s1)

/-- An answer without a tag leaves on port `p`. -/
def State.dgAnswer (s : State) (p type sid : Nat) (body : List Byte) : State :=
  let (b, s1) := s.dgBytes type sid body
  s1.emit (.datagram p b)

/-- REFUSE. -/
def State.dgRefuse (s : State) (p sid reason : Nat) : State := s.dgAnswer p 0x05 sid (bytesLE 1 reason)

def State.slot (s : State) (k : Nat) : Slot := tblGet {} s.ses.slots k
def State.setSlot (s : State) (k : Nat) (x : Slot) : State := { s with ses := { s.ses with slots := tblSet {} s.ses.slots k x } }

/-- Whether slot `k` is free: no session and no challenge that stands. -/
def State.sesFree (s : State) (k : Nat) : Bool :=
  (s.slot k).level == 0 && ((s.slot k).chal.filter s.chalLive).isNone

/-- A datagram at instant now + dt on port `p`: `k` acts on one of the row's type; one on a port without its enable is no
service datagram and counts under R470. -/
def State.dgIn (s : State) (p dt type : Nat) (data : List Byte) (k : Dgram → State → State) : State :=
  let s1 := s.advance dt
  if !s1.netUp p then s1
  else if !natBit (s1.rd .SES_ETH_CFG).toNat p then s1.bump .TIM_PORT_CNT_DISCARD p
  else match parseDgram data with
    | none => s1
    | some g => if g.type = type then k g s1 else s1

/-- An OPEN (R497, R499, R501). -/
def State.dgOpen (p : Nat) (g : Dgram) (s : State) : State :=
  if g.body.length ≠ 21 then s
  else
    let level := (g.body.getD 0 0).toNat
    if level = 0 || 3 < level || level ≠ g.level then s.dgRefuse p g.sid badLevel
    else if s.isLocked s.ses.dgLock then s.dgRefuse p g.sid lockedOut
    else if level = 3 && s.serviceOpen then s.dgRefuse p g.sid sesBusy
    else match (List.range 4).find? s.sesFree with
      | none => s.dgRefuse p g.sid sesBusy
      | some k =>
        let (c, s1) := s.newChal g.body
        (s1.setSlot k { chal := some c, net := p }).dgAnswer p 0x02 c.sid (s1.chalData c)

/-- A PROOF (R497, R499, R501). -/
def State.dgProof (p : Nat) (g : Dgram) (s : State) : State :=
  if g.body.length ≠ 32 then s
  else match (List.range 4).find? (fun k => match (s.slot k).chal.filter s.chalLive with
      | some c => c.sid == g.sid
      | none => false) with
    | none => s.dgRefuse p g.sid badProof
    | some k =>
      match (s.slot k).chal with
      | none => s
      | some c =>
        let spent := s.setSlot k {}
        if g.body ≠ s.proofOf c then
          let s1 := { spent with ses := { spent.ses with dgLock := s.failLock s.ses.dgLock } }
          (s1.bump .SES_CNT_AUTH_FAIL).dgRefuse p g.sid badProof
        else if c.level = 3 && s.serviceOpen then spent.dgRefuse p g.sid sesBusy
        else
          let s1 := s.setSlot k { level := c.level, sid := c.sid, key := s.sesKeyOf c, seen := s.fine, net := p }
          let s2 := { s1 with ses := { s1.ses with dgLock := {} } }
          (s2.setSesLevel k c.level).dgAnswer p 0x04 c.sid (s.acceptOf c)

/-- Slot `k` closes. -/
def State.slotClose (s : State) (k : Nat) : State := (s.setSlot k {}).setSesLevel k 0

/-- A tagged datagram (R500): `k` executes it for its slot. The slot's `req` holds the type and body last executed. -/
def State.dgTag (p : Nat) (k : Nat → Dgram → State → State) (g : Dgram) (s : State) : State :=
  match (List.range 4).find? (fun i => (s.slot i).level != 0 && (s.slot i).sid == g.sid) with
  | none => s
  | some i =>
    let x := s.slot i
    let id := bytesLE 1 g.type ++ g.body
    if hmac x.key g.signed ≠ g.tail then s.bump .SES_CNT_BAD_TAG
    else if x.seq < g.seq then k i g (s.setSlot i { x with seq := g.seq, req := id, resp := [], seen := s.fine, net := p })
    else if x.seq = g.seq && x.req = id then
      let s1 := s.setSlot i { x with seen := s.fine }
      if x.resp = [] then s1 else s1.emit (.datagram p x.resp)
    else s.bump .SES_CNT_REPLAY

/-- DGRAM_OPEN (R499). -/
def execDgramOpen (p : Fin 2) (dt : Nat) (data : List Byte) (s : State) : Res :=
  .next (s.dgIn p.val dt 0x01 data (State.dgOpen p.val))

/-- DGRAM_PROOF (R499). -/
def execDgramProof (p : Fin 2) (dt : Nat) (data : List Byte) (s : State) : Res :=
  .next (s.dgIn p.val dt 0x03 data (State.dgProof p.val))

/-- DGRAM_CLOSE (R500). -/
def execDgramClose (p : Fin 2) (dt : Nat) (data : List Byte) (s : State) : Res :=
  .next (s.dgIn p.val dt 0x20 data (State.dgTag p.val (fun k _ s => s.slotClose k)))

/-- KEEPALIVE (R500). -/
def execKeepalive (p : Fin 2) (dt : Nat) (data : List Byte) (s : State) : Res :=
  .next (s.dgIn p.val dt 0x21 data (State.dgTag p.val (fun _ _ s => s)))

/-! ### Address resolution (R499) -/

/-- The IPv6 link-local address formed from the EUI (log entry 25). -/
def linkLocal (eui : BitVec 64) : BitVec 128 := (0xFE80#16 ++ 0#48) ++ (eui ^^^ 0x0200000000000000)

/-- ARP_REQUEST (R499). -/
def execArpRequest (p : Fin 2) (addr : BitVec 32) (s : State) : Res :=
  .next (if !s.netUp p.val then s
    else if s.rd .SES_ETH_IP4 ≠ 0 && s.rd .SES_ETH_IP4 = addr then s.emit (.arp p.val addr s.fuse.mac)
    else s.bump .TIM_PORT_CNT_DISCARD p.val)

/-- NEIGHBOUR_SOLICITATION (R499). -/
def execNeighbourSolicitation (p : Fin 2) (addr : BitVec 128) (s : State) : Res :=
  .next (if !s.netUp p.val then s
    else if addr = linkLocal s.fuse.eui then s.emit (.neighbour p.val addr s.fuse.mac)
    else s.bump .TIM_PORT_CNT_DISCARD p.val)

/-! ### Time -/

/-- A challenge on the mailbox that has lapsed is gone (R497). -/
def State.mbxLapse (s : State) : State :=
  match s.ses.mbxChal with
  | none => s
  | some c => if s.chalLive c then s else { s with ses := { s.ses with mbxChal := none } }.setMbxState 0 0

/-- CHALLENGE_LAPSE (R497): `slot` none is the mailbox. -/
def execChallengeLapse (slot : Option (Fin 4)) (dt : Nat) (s : State) : Res :=
  match slot with
  | none => match s.ses.mbxChal with
    | none => .next s
    | some c =>
      let s1 := s.passTo dt (c.since + finePerSec)
      .next ({ s1 with ses := { s1.ses with mbxChal := none } }.setMbxState 0 0)
  | some k => match (s.slot k.val).chal with
    | none => .next s
    | some c => .next ((s.passTo dt (c.since + finePerSec)).setSlot k.val {})

/-- LOCKOUT_END (R501). -/
def execLockoutEnd (mailbox : Bool) (dt : Nat) (s : State) : Res :=
  let x := if mailbox then s.ses.mbxLock else s.ses.dgLock
  match x.due with
  | none => .next s
  | some t =>
    let s1 := s.passTo dt t
    .next (if mailbox then { s1 with ses := { s1.ses with mbxLock := endLock x } }
      else { s1 with ses := { s1.ses with dgLock := endLock x } })

/-- SESSION_IDLE_TIMEOUT (R500, R512). -/
def execSessionIdleTimeout (slot : Fin 4) (dt : Nat) (s : State) : Res :=
  let x := s.slot slot.val
  .next (if x.level = 0 then s
    else (s.passTo dt (x.seen + atLeast1 (s.rd .SES_ETH_TIMEOUT).toNat * finePerSec)).slotClose slot.val)

end Sys2Proof.Machine
end

