-- ==== Sys2Proof/Machine/Access.lean ====
section
/-!
DEFINITION. Register and memory access by BAR0 address (R16 to R19, R37, R403, R410, R411, R502, R566, R567): a write or
read of a register with its access types, the commands that a register carries, the memories, and the ACCESS datagram
(R499, R500).
-/

namespace Sys2Proof.Machine

/-! ### Writes of registers -/

/-- The bits of a register that a write changes at once (R17): RW bits are set, W1C bits clear, W1S bits set. -/
def Reg.merge (r : Reg) (old v : Word) : Word :=
  let x := r.info
  (((old &&& ~~~x.rw) ||| (v &&& x.rw)) &&& ~~~(v &&& x.w1c)) ||| (v &&& x.w1s)

/-- A write of register `r[i][j]` with no effect but its access types: at once, or staged (R37). -/
def State.plainWrite (s : State) (r : Reg) (i j : Nat) (v : Word) : State :=
  if r.info.staged then s.stage (.reg r i j) (v &&& r.info.rw) else s.wr r (r.merge (s.rd r i j) v) i j

/-- LNK_CTRL (R87): polarity and loopback follow at once, then ENABLE, DEEP_REQ and RETRAIN. -/
def State.lnkCtrl (s : State) (n : Nat) (v : Word) : State :=
  let keep := s.rd .LNK_CTRL n
  let held := putBits (putBits (v &&& Reg.LNK_CTRL.info.rw) 0 1 (getBits keep 0 1)) 6 1 (getBits keep 6 1)
  let s1 := (State.polFollow n (s.wr .LNK_CTRL held n)).loopFollow n
  let s2 := if getBits v 0 1 = getBits keep 0 1 then s1 else s1.laneEnable n (natBit v.toNat 0)
  let s3 := if getBits v 6 1 = getBits keep 6 1 then s2 else s2.deepReq n (natBit v.toNat 6)
  if natBit v.toNat 7 then s3.retrain n else s3

/-- LNK_PATTERN, LNK_USER_WORD (R93) and LNK_INJECT (R94). A word written while it is sent goes out from its bit 0; the period of
bursts starts at the write of MODE. -/
def State.lnkPattern (s : State) (n : Nat) (v : Word) : State :=
  let s1 := State.patternApply n (s.wr .LNK_PATTERN (Reg.LNK_PATTERN.merge (s.rd .LNK_PATTERN n) v) n)
  if natBit v.toNat 8 then s1.clearBer n else s1

def State.lnkUserWord (s : State) (n : Nat) (v : Word) : State :=
  let s1 := s.wr .LNK_USER_WORD v n
  if s1.lstate n = lsTest && s1.fld F.LNK_PATTERN_GEN n = 6 then s1.patternStart n else s1

def State.lnkInject (s : State) (n : Nat) (v : Word) : State :=
  let s1 := s.wr .LNK_INJECT (Reg.LNK_INJECT.merge (s.rd .LNK_INJECT n) v) n
  let s2 := if s1.fld F.LNK_INJECT_MODE n = s.fld F.LNK_INJECT_MODE n then s1 else s1.setLn n { s1.ln n with burstAt := s1.fine }
  if natBit v.toNat 16 then s2.shot n else s2

/-- CAP_CTRL_CMD (R113): a READ needs an Observer session, every other operation an Operator session. -/
def State.capCtrl (s : State) (who : Requester) (box : Nat) (v : Word) : State :=
  if !s.unitOpen 1 then s
  else s.gated who (if getBits v 8 8 = 1 then 1 else 2) (
    let s1 := s.wr .CAP_CTRL_CMD ((s.rd .CAP_CTRL_CMD box &&& ~~~Reg.CAP_CTRL_CMD.info.rw) ||| (v &&& Reg.CAP_CTRL_CMD.info.rw)) box
    if natBit v.toNat 31 then s1.ctrlGo who box else s1)

/-- A register whose field names a halyard as the primary input of a task (R380, R390): the write is refused whole where it
names one that the writer does not own or that is secure. -/
def State.halyardWrite (s : State) (who : Requester) (names : Bool) (h : Nat) (k : State) : State :=
  if names && s.halNameRefused who h then s.refuseHal who h 1 else k

/-- CAP_TRIG_CFG (R114, R134): staged, but SOFT acts at once. -/
def State.capTrig (s : State) (who : Requester) (p : Nat) (v : Word) : State :=
  s.halyardWrite who (getBits v F.CAP_TRIG_CFG_SOURCE.lo F.CAP_TRIG_CFG_SOURCE.width = 1)
    (getBits v F.CAP_TRIG_CFG_SRC_INDEX.lo F.CAP_TRIG_CFG_SRC_INDEX.width) (
      let s1 := s.plainWrite .CAP_TRIG_CFG p 0 v
      if natBit v.toNat 18 then State.trigCause 5 s1.fine false p s1 else s1)

/-- LUM_CH_CFG (R371, R390). -/
def State.lumCfg (s : State) (who : Requester) (n : Nat) (v : Word) : State :=
  s.halyardWrite who (getBits v F.LUM_CH_CFG_SYNC_SRC.lo F.LUM_CH_CFG_SYNC_SRC.width = 1)
    (getBits v F.LUM_CH_CFG_SYNC_IDX.lo F.LUM_CH_CFG_SYNC_IDX.width) (s.plainWrite .LUM_CH_CFG n 0 v)

/-- CAP_ENC_CMP_CFG (R134): staged, but ARM acts at once. -/
def State.cmpCfg (s : State) (n : Nat) (v : Word) : State :=
  let s1 := s.plainWrite .CAP_ENC_CMP_CFG n 0 v
  if natBit v.toNat 31 then s1.cmpArm n else s1

/-- DMA_CFG (R460): refused while the channel works. -/
def State.dmaCfg (s : State) (n : Nat) (v : Word) : State :=
  let st := s.dmaState n
  if st = dmaIdle || st = dmaHalted || st = dmaAborted then (s.dmaCredit n).plainWrite .DMA_CFG n 0 v
  else s.setFld F.DMA_STATUS_CMD_REFUSED 1 n

/-- `k` where bit `b` of the value written is set. -/
def State.onBit (s : State) (v : Word) (b : Nat) (k : State → State) : State := if natBit v.toNat b then k s else s

/-! ### Registers that carry commands -/

/-- SHT_CMD (R264): its bits act in ascending order (DESIGN CHOICE, log entry 9). -/
def State.shtCmd (s : State) (who : Requester) (i : Nat) (v : Word) : State :=
  let n : Fin 12 := Fin.ofNat 12 i
  let s1 := s.onBit v 0 (fun s => resState s (execShtStart who n s))
  let s2 := s1.onBit v 1 (fun s => resState s (execShtStop who n s))
  s2.onBit v 2 (fun s => resState s (execResetState who n s))

/-- SCN_CMD (R340, R345): STOP goes before START; RESTART acts where neither is written (DESIGN CHOICE, log entry 9). -/
def State.scnCommand (s : State) (who : Requester) (i : Nat) (v : Word) : State :=
  let n : Fin 12 := Fin.ofNat 12 i
  if natBit v.toNat 1 then resState s (execScnStop who n s)
  else if natBit v.toNat 0 then resState s (execScnStart who n s)
  else if natBit v.toNat 2 then
    match getBits v 3 2 with
    | 0 => resState s (execRestartAtStop who n s)
    | 1 => resState s (execRestartNextRecord who n s)
    | 2 => resState s (execRestartNextLayer who n s)
    | _ => s
  else s

/-- BCH_FAULT (R293, R299): the cut bits under their rule, PROF_ERR and METER_FAULT as W1C. -/
def State.bchFault (s : State) (who : Requester) (i : Nat) (v : Word) : State :=
  let s1 := resState s (execCutClear who (Fin.ofNat 12 i) (v.setWidth 7) s)
  s1.writeGate who .BCH_FAULT i (s1.wr .BCH_FAULT (s1.rd .BCH_FAULT i &&& ~~~(v &&& 0x180)) i)

/-- LUM_CH_FAULT (R356, R372): whether a cause persists at this instant is a free value (log entry 2). -/
def State.lumFaultWrite (s : State) (who : Requester) (i : Nat) (v : Word) : State :=
  let f := s.freeBits 4
  resState f.2 (execLightFaultClear who (Fin.ofNat 8 i) (v.setWidth 4) f.1 f.2)

/-- LUM_PROJ_CMD (R375). -/
def State.projCmd (s : State) (who : Requester) (v : Word) : State :=
  let s1 := s.onBit v 0 (fun s => resState s (execProjSwap who s))
  s1.onBit v 1 (fun s => resState s (execPixTest who s))

/-- DMA_CMD (R460): ABORT before STOP before START. -/
def State.dmaCmd (s : State) (who : Requester) (i : Nat) (v : Word) : State :=
  let n : Fin 32 := Fin.ofNat 32 i
  if natBit v.toNat 2 then resState s (execDmaAbort who n s)
  else if natBit v.toNat 1 then resState s (execDmaStop who n s)
  else if natBit v.toNat 0 then resState s (execDmaStart who n s)
  else s

/-- QUE_CMD (R457): FLUSH before DROP_REST. -/
def State.queCmd (s : State) (who : Requester) (i : Nat) (v : Word) : State :=
  let q : Fin 64 := Fin.ofNat 64 i
  if natBit v.toNat 1 then resState s (execQueueFlush who q s)
  else if natBit v.toNat 0 then resState s (execDropRest who q s)
  else s

/-- FST_SPAN_CMD (R180). -/
def State.spanCmd (s : State) (who : Requester) (v : Word) : State :=
  match getBits v 16 2 with
  | 1 => resState s (execSpanRelease who v s)
  | 2 => resState s (execSpanReleaseAll who v s)
  | _ => s

/-- TIM_CMD (R484): STEP, then SWITCH. -/
def State.timCmd (s : State) (who : Requester) (v : Word) : State :=
  let s1 := s.onBit v 0 (fun s => resState s (execTimeStep who s))
  s1.onBit v 1 (fun s => resState s (execTimSwitch who false s))

/-- PWR_MODE_REQ (R514). -/
def State.modeReq (s : State) (who : Requester) (v : Word) : State :=
  if !natBit v.toNat 31 then s
  else match getBits v 0 3 with
    | 2 => resState s (execRequestIdle who none s)
    | 3 => resState s (execRequestAcquire who none s)
    | 4 => resState s (execRequestBuild who none s)
    | 5 => resState s (execRequestService who none s)
    | _ => resState s (execRequestInvalidMode who (v.setWidth 3) s)

/-- PWR_DOM_CMD (R521, R540): OFF acts where ON is written too. -/
def State.domReq (s : State) (who : Requester) (v : Word) : State :=
  let d : BitVec 7 := v.setWidth 7
  if !natBit v.toNat 31 then s
  else if natBit v.toNat 9 then resState s (execDomainOff who d s)
  else if natBit v.toNat 8 then resState s (execDomainOn who d s)
  else if 80 ≤ d.toNat then s.writeGate who .PWR_DOM_CMD 0 (s.setFld F.PWR_MODE_STATUS_CMD_REFUSED 1)
  else s

/-- BOOT_CMD (R510). -/
def State.bootCmd (s : State) (who : Requester) (v : Word) : State :=
  let dev := natBit v.toNat 4
  if !natBit v.toNat 31 then s
  else match getBits v 0 4 with
    | 1 => resState s (execErase who dev s)
    | 2 => resState s (execProgramBuf who dev s)
    | 3 => resState s (execCopyStore who dev s)
    | 4 => resState s (execVerify who dev s)
    | 5 => resState s (execBootSwitch who dev s)
    | 6 => resState s (execCancelSwitch who dev s)
    | 7 => resState s (execBurnSvn who dev s)
    | 8 => resState s (execRetire who dev s)
    | _ => resState s (execBootReservedOp who (v.setWidth 4) s)

/-- BOOT_MBX_CMD (R511). -/
def State.mbxCmd (s : State) (v : Word) : State :=
  match getBits v 0 2 with
  | 1 => resState s (execMbxOpen v s)
  | 2 => resState s (execMbxProof v s)
  | 3 => resState s (execMbxClose v s)
  | _ => s

/-- A write of register `r[i][j]`. Registers with commands of their own act through them. -/
def State.regWrite (s : State) (who : Requester) (r : Reg) (i j : Nat) (v : Word) : State :=
  match r with
  | .LNK_CTRL => s.writeGate who r i (s.lnkCtrl i v)
  | .LNK_PATTERN => s.writeGate who r i (s.lnkPattern i v)
  | .LNK_INJECT => s.writeGate who r i (s.lnkInject i v)
  | .LNK_USER_WORD => s.writeGate who r i (s.lnkUserWord i v)
  | .CAP_CTRL_CMD => s.capCtrl who i v
  | .CAP_CTRL_ADDR => if s.unitOpen 1 then s.gated who 1 (s.plainWrite r i j v) else s
  | .CAP_TRIG_CFG => s.writeGate who r i (s.capTrig who i v)
  | .CAP_ENC_CMP_CFG => s.writeGate who r i (s.cmpCfg i v)
  | .CAP_ENC_COUNT => resState s (execEncoderCountWrite who (Fin.ofNat 16 i) v false none s)
  | .FST_MARK_CMD => resState s (execFstMarkGo who v s)
  | .FST_SPAN_CMD => s.spanCmd who v
  | .SHT_CMD => s.shtCmd who i v
  | .BCH_FAULT => s.bchFault who i v
  | .BCH_PERMIT => s.onBit v 3 (fun s => resState s (execPermitFaultClear who s))
  | .SCN_CMD => s.scnCommand who i v
  | .LUM_CH_CFG => s.writeGate who r i (s.lumCfg who i v)
  | .LUM_CH_FAULT => s.lumFaultWrite who i v
  | .LUM_CH_CMD => s.onBit v 0 (fun s => resState s (execVfTest who (Fin.ofNat 8 i) s))
  | .LUM_PROJ_CMD => s.projCmd who v
  | .HAL_PUBLISH => resState s (execHalPublish who v s)
  | .HAL_GROUP_CMD => resState s (execHalGroupCmd who v 0 s)
  | .HAL_SUB => resState s (execHalSubWrite who (Fin.ofNat 512 i) v s)
  | .HAL_PROD_BIND => resState s (execHalProdBindWrite who (Fin.ofNat 1024 i) v s)
  | .HAL_SEQ_CMD => resState s (execHalSeqCmd who v s)
  | .DMA_CFG => s.writeGate who r i (s.dmaCfg i v)
  | .DMA_CMD => s.dmaCmd who i v
  | .DMA_DOORBELL => resState s (execDmaDoorbell who (Fin.ofNat 32 i) s)
  | .QUE_CMD => s.queCmd who i v
  | .QUE_WR_HEAD => resState s (execQueWrHead who (Fin.ofNat 64 i) v s)
  | .QUE_WR_DATA => resState s (execQueWrData who (Fin.ofNat 64 i) v s)
  | .TIM_CMD => s.timCmd who v
  | .TIM_SCH_CFG => s.writeGate who r i (s.schCommand i v)
  | .TIM_RING_SEND => resState s (execRingSend who (Fin.ofNat 2 i) v s)
  | .HLM_WDT => s.wdtWrite who v
  | .PWR_MODE_REQ => s.modeReq who v
  | .PWR_DOM_CMD => s.domReq who v
  | .PWR_CMD => s.onBit v 0 (fun s => resState s (execSoftReset who s))
  | .BOOT_CMD => s.bootCmd who v
  | .BOOT_COMMIT => s.onBit v 31 (fun s => resState s (execRecordingBoundary who 0 s))
  | .BOOT_MBX_CMD => s.mbxCmd v
  | _ => s.writeGate who r i (s.plainWrite r i j v)

/-! ### Writes of memories -/

/-- `k` where the unit of a memory answers, its instance is present and the level suffices. -/
def State.memGate (s : State) (who : Requester) (m : MemWord) (lvl : Nat) (k : State) : State :=
  if !s.unitOpen m.unit || !unitPresent s.variant m.unit m.inst then s else s.gated who lvl k

/-- A write of a memory word: at once, staged, or ignored where the memory is RO (R113, R115, R296, R326, R342, R370, R398,
R511). -/
def State.memWrite (s : State) (who : Requester) (m : MemWord) (v : Word) : State :=
  match m.kind with
  | .mbxData => s.memGate who m 0 (s.memWr m.addr (v &&& m.mask))
  | .flashBuf => s.memGate who m 2 (s.memWr m.addr (v &&& m.mask))
  | .ctrlBuf _ => s.memGate who m 2 (s.memWr m.addr (v &&& m.mask))
  | .compare => s.memGate who m 2 (State.eachOf State.cmpShow (List.range 16) (s.memWr m.addr (v &&& m.mask)))
  | .fb second => resState s (execFrameBufferWrite who second (Fin.ofNat 3072 ((m.addr % 0x4000) / 4)) v s)
  | .defect => resState s (execDefectMapWrite who (Fin.ofNat 384 ((m.addr - 0x118000) / 4)) v s)
  | .profile => s.memGate who m 2 (s.stage (.mem m.addr) (v &&& m.mask))
  | .marks => s.memGate who m 3 (s.stage (.mem m.addr) (v &&& m.mask))
  | .grid => s.memGate who m 3 (
      { s.stage (.mem m.addr) (v &&& m.mask) with cal := { s.cal with soft := tblSet false s.cal.soft m.inst true } })
  | .stream n => resState s (execStreamWindowWrite who (Fin.ofNat 12 n) v s)
  | .gridRead => s
  | .moduleA0 _ => s
  | .moduleA2 _ => s
  | .seqMem => s
  | .patterns => s
  | .lumProg => s

/-- A write that reaches no register or memory: one by the host counts (R566). -/
def State.badWrite (s : State) (who : Requester) (n : Nat) : State :=
  if who = .mailbox then s.bumpBy .PCE_CNT_BAD_ACCESS n else s

/-- A 4-byte write at a BAR0 byte address (R410, R566). One that is not aligned covers two words in part and writes neither. -/
def State.busWrite (s : State) (who : Requester) (a : Nat) (v : Word) : State :=
  s.flrGate who true (
    if a % 4 ≠ 0 then s.badWrite who 2
    else if inDesc a then s
    else match memAt true a with
      | some m => s.memWrite who m v
      | none => match regAt a with
        | some (r, i, j) => s.regWrite who r i j v
        | none => s.badWrite who 1)

/-- REGISTER_WRITE (R17). One by the host comes as a TLP: a poisoned one is discarded (R412), and during an FLR it is not supported
(R425). -/
def execRegisterWrite (who : Requester) (addr : Nat) (v : BitVec 32) (tlp : Tlp) (s : State) : Res :=
  .next (
    if who = .mailbox then
      s.inbound tlp (fun s => s.memReq true tlp.header (
        if tlp.cond = .poisoned then s.aerLog 12 false tlp.header else s.busWrite who addr v))
    else s.busWrite who addr v)

/-! ### Reads -/

/-- Registers of a port that read as zero at lanes that are the lowest of none, valid or not (R71, R86, R95). -/
def portOnly (r : Reg) : Bool :=
  match r with
  | .LNK_PORT_STATUS => true
  | .LNK_CNT_REBUILT => true
  | .LNK_CNT_PARITY_MISMATCH => true
  | .LNK_CNT_ERASED_ROWS => true
  | _ => false

/-- HAL_SUB of a task whose unit forms the primary input shows that input (R380). -/
def State.halSubView (s : State) (t : Nat) (v : Word) : Word :=
  if !taskUnitPrimary t then v
  else match s.taskInput t false with
    | some h => putBits v 0 9 (h % 256 + 256)
    | none => putBits v 8 1 0

/-- What a read of register `r[i][j]` returns before its access types: the staged value of RW bits (R37), and fields
formed at the read. -/
def State.regView (s : State) (r : Reg) (i j : Nat) : Word :=
  let v := (s.rd r i j &&& ~~~r.info.rw) ||| (s.rdStaged r i j &&& r.info.rw)
  match r with
  | .HAL_SUB => s.halSubView i v
  | .HAL_TASK_STATUS => putBits v 2 1 (b2n (s.taskPending i))
  | .TIM_PORT_LAT => s.rd r i j
  | _ => if portOnly r && !s.ports.any (fun p => p.1 == i) then 0 else v

/-- The level a read needs (R502, R512). -/
def readLevel (r : Reg) : Nat :=
  match r with
  | .PCE_STATUS => 0
  | .BOOT_STATUS => 0
  | .BOOT_MBX_CMD => 0
  | .BOOT_MBX_STATUS => 0
  | .BOOT_MBX_CFG => 0
  | _ => if r.info.unit = 17 then 3 else 1

/-- A read where `ok` says that the unit answers and the instance is present: else zero; below its level zero, and counted for
the host (R5, R403, R411). -/
def State.readAt (s : State) (who : Requester) (ok : Bool) (lvl : Nat) (v : Word) (after : State → State) : State :=
  if !ok then s.emit (.reply 0)
  else if lvl ≤ s.levelOf who then ((after s).emit (.reply v)).journalRead who
  else (if who = .mailbox then s.bump .PCE_CNT_PRIV_REFUSED else s).emit (.reply 0)

/-- VDD_CORE in mV at the moment of a read: a free value (R541). -/
def State.showSupply (s : State) : State :=
  let (mv, s1) := s.freeBits 16
  s1.setFld F.PWR_SUPPLY_CORE_MV mv.toNat

/-- The state that a register shows brought up to the present: a scan interpreter's plan, the gate of a lighting channel, the
progress of a flash operation, a lapsed challenge, VDD_CORE. -/
def State.upToDate (s : State) (r : Reg) (i : Nat) : State :=
  if r = .BOOT_PROGRESS then s.showProgress
  else if r = .BOOT_MBX_STATUS then s.mbxLapse
  else if r = .PWR_SUPPLY then s.showSupply
  else if !s.ready then s
  else if r.info.unit = 6 then (if s.hasBeam i then s.refresh i else s)
  else if r = .LUM_CH_STATUS then s.lumGate i
  else if r = .TIM_DOM_STATUS then State.eachOf (fun p => State.preMasterEnd i p) [0, 1] s
  else s

/-- A plain read of a register: RC bits clear in the same access (R17). -/
def State.plainRead (s : State) (who : Requester) (r : Reg) (i j : Nat) : State :=
  let s := s.upToDate r i
  s.readAt who (s.unitOpen r.info.unit && regPresent s.variant r i) (readLevel r) (s.regView r i j)
    (fun s => s.wr r (s.rd r i j &&& ~~~r.info.rc) i j)

/-- A read of register `r[i][j]`; registers whose read latches or takes something act through their commands. -/
def State.regRead (s : State) (who : Requester) (r : Reg) (i j : Nat) : State :=
  match r with
  | .LNK_BER_BITS_LO => resState s (execBerBitsLoRead who (Fin.ofNat 64 i) s)
  | .CAP_FRAME_NUM_LO => resState s (execFrameNumLoRead who (Fin.ofNat 64 i) s)
  | .MST_FAULT0 => resState s (execFault0Read who (Fin.ofNat 16 i) s)
  | .SCN_PATH_LO => resState s (execPathLoRead who (Fin.ofNat 12 i) s)
  | .QUE_RD_HEAD => resState s (execQueRdHead who (Fin.ofNat 64 i) [] false s)
  | .QUE_RD_DATA => resState s (execQueRdData who (Fin.ofNat 64 i) s)
  | .TIM_NOW_SEC_LO => resState s (execNowSecLoRead who s)
  | .TIM_CAP_SEC_LO => resState s (execCapSecLoRead who (Fin.ofNat 8 i) s)
  | .PWR_INRUSH_LEVEL => s.refill.plainRead who r i j
  | _ => s.plainRead who r i j

/-- What a read of a memory word returns: the staged copy where one is held (R326), a module's bytes (R484). -/
def State.memView (s : State) (m : MemWord) : Word :=
  match m.kind with
  | .moduleA0 p => BitVec.ofNat 32 (natLE (tblGetList 0 s.tim.a0 (0x100 * p + m.addr) 4))
  | .moduleA2 p => BitVec.ofNat 32 (natLE (tblGetList 0 s.tim.a2 (0x10 * p + m.addr) 4))
  | .stream _ => 0
  | _ => s.memRdStaged m.addr &&& m.mask

/-- A word of the descriptor table (R568); it needs no session (R502). -/
def State.tableWord (s : State) (a : Nat) : Word := BitVec.ofNat 32 (fieldLE s.descTable a 4)

/-- A read of the word that holds a BAR0 byte address (R410, R566). -/
def State.busRead (s : State) (who : Requester) (a : Nat) : State :=
  let a := a / 4 * 4
  s.flrGate who false (
    if inDesc a then (s.emit (.reply (s.tableWord a))).journalRead who
    else match memAt false a with
      | some m => s.readAt who (s.unitOpen m.unit && unitPresent s.variant m.unit m.inst)
          (if m.kind = .mbxData then 0 else 1) (s.memView m) (fun s => s)
      | none => match regAt a with
        | some (r, i, j) => s.regRead who r i j
        | none => s.emit (.reply 0))

/-- READ_CLEAR (R17, R18): a read, by the host as a TLP. An increment that comes in the same clock is a later command, so it is
carried over. -/
def execReadClear (who : Requester) (addr : Nat) (tlp : Tlp) (s : State) : Res :=
  .next (
    if who = .mailbox then s.inbound tlp (fun s => s.memReq false tlp.header (s.busRead who addr)) else s.busRead who addr)

/-! ### ACCESS datagrams (R499, R500) -/

/-- The reply that a read has just put out, taken back. -/
def State.takeReply (s : State) : Word × State :=
  match s.outbox.getLast? with
  | some (.reply v) => (v, { s with outbox := s.outbox.dropLast })
  | _ => (0, s)

/-- The entries of an ACCESS, executed in order: the values of the answer, and the state after. -/
def State.access (k : Fin 4) : Nat → List Byte → State → List Byte × State
  | 0, _, s => ([], s)
  | n + 1, body, s =>
    let a := fieldLE body 4 4
    let r := if fieldLE body 0 1 = 1 then ((0 : Word), s.busWrite (.dgram k) a (BitVec.ofNat 32 (fieldLE body 8 4)))
      else (s.busRead (.dgram k) a).takeReply
    let rest := State.access k n (body.drop 12) r.2
    (bytesLE 4 r.1.toNat ++ rest.1, rest.2)

/-- Whether a body is one of an ACCESS: up to 64 whole entries, OP 0 or 1 with three zero bytes. -/
def accessOk (body : List Byte) : Bool :=
  body.length % 12 == 0 && decide (body.length ≤ 768) &&
    (List.range (body.length / 12)).all (fun e => decide (fieldLE body (12 * e) 4 ≤ 1))

/-- An ACCESS that has passed its checks: ACCESS_RESP with its tag, kept as the cached answer. One of its writes may reset
the device, which closes the session without an answer (R500). -/
def State.dgAccess (p : Nat) (k : Nat) (g : Dgram) (s : State) : State :=
  if !accessOk g.body then s
  else
    let key := (s.slot k).key
    let r := State.access (Fin.ofNat 4 k) (g.body.length / 12) g.body s
    let b := r.2.dgBytes 0x11 g.sid r.1
    let d := b.1 ++ hmac key b.1
    if (r.2.slot k).level = 0 then r.2
    else (b.2.setSlot k { b.2.slot k with resp := d }).emit (.datagram p d)

/-- DGRAM_ACCESS (R500). -/
def execDgramAccess (p : Fin 2) (dt : Nat) (data : List (BitVec 8)) (s : State) : Res :=
  .next (s.dgIn p.val dt 0x10 data (State.dgTag p.val (State.dgAccess p.val)))

end Sys2Proof.Machine
end

