-- ==== Sys2Proof/Machine/Spar.lean ====
section
/-!
DEFINITION. The spar instruction set (R200 to R210, R212): one meaning for each instruction. The operands name the mast,
the engine and the instruction's fields.
-/

namespace Sys2Proof.Machine

/-! ### Scalar operations (R201, R202) -/

/-- ADD: all four flags. -/
def execAdd (m : Fin 16) (e : Fin 66) (d a b : Fin 32) (s : State) : Res :=
  .next (s.sparAlu m e (.add m e d a b) fun x => (x.setS d ((x.s a) + (x.s b))).addFlags (x.s a) (x.s b))

/-- SUB: all four flags. -/
def execSub (m : Fin 16) (e : Fin 66) (d a b : Fin 32) (s : State) : Res :=
  .next (s.sparAlu m e (.sub m e d a b) fun x => (x.setS d ((x.s a) - (x.s b))).subFlags (x.s a) (x.s b))

/-- AND: Z and N. -/
def execAnd (m : Fin 16) (e : Fin 66) (d a b : Fin 32) (s : State) : Res :=
  .next (s.sparAlu m e (.and m e d a b) fun x => x.putZN d ((x.s a) &&& (x.s b)))

/-- OR: Z and N. -/
def execOr (m : Fin 16) (e : Fin 66) (d a b : Fin 32) (s : State) : Res :=
  .next (s.sparAlu m e (.or m e d a b) fun x => x.putZN d ((x.s a) ||| (x.s b)))

/-- XOR: Z and N. -/
def execXor (m : Fin 16) (e : Fin 66) (d a b : Fin 32) (s : State) : Res :=
  .next (s.sparAlu m e (.xor m e d a b) fun x => x.putZN d ((x.s a) ^^^ (x.s b)))

/-- SHL by b[4:0]. -/
def execShl (m : Fin 16) (e : Fin 66) (d a b : Fin 32) (s : State) : Res :=
  .next (s.sparAlu m e (.shl m e d a b) fun x => x.putZN d ((x.s a) <<< ((x.s b).toNat % 32)))

/-- SHR by b[4:0]. -/
def execShr (m : Fin 16) (e : Fin 66) (d a b : Fin 32) (s : State) : Res :=
  .next (s.sparAlu m e (.shr m e d a b) fun x => x.putZN d ((x.s a) >>> ((x.s b).toNat % 32)))

/-- SAR by b[4:0], filling with the sign. -/
def execSar (m : Fin 16) (e : Fin 66) (d a b : Fin 32) (s : State) : Res :=
  .next (s.sparAlu m e (.sar m e d a b) fun x => x.putZN d (((x.s a)).sshiftRight ((x.s b).toNat % 32)))

/-- MUL: low 32 bits. -/
def execMul (m : Fin 16) (e : Fin 66) (d a b : Fin 32) (s : State) : Res :=
  .next (s.sparAlu m e (.mul m e d a b) fun x => x.putZN d ((x.s a) * (x.s b)))

/-- MULH: high 32 bits of the signed product. -/
def execMulh (m : Fin 16) (e : Fin 66) (d a b : Fin 32) (s : State) : Res :=
  .next (s.sparAlu m e (.mulh m e d a b) fun x => x.putZN d (BitVec.ofInt 32 ((x.s a).toInt * (x.s b).toInt / 2 ^ 32)))

/-- MIN, signed. -/
def execMin (m : Fin 16) (e : Fin 66) (d a b : Fin 32) (s : State) : Res :=
  .next (s.sparAlu m e (.min m e d a b) fun x => x.putZN d (if (x.s a).toInt ≤ (x.s b).toInt then (x.s a) else (x.s b)))

/-- MAX, signed. -/
def execMax (m : Fin 16) (e : Fin 66) (d a b : Fin 32) (s : State) : Res :=
  .next (s.sparAlu m e (.max m e d a b) fun x => x.putZN d (if (x.s a).toInt ≤ (x.s b).toInt then (x.s b) else (x.s a)))

/-- SLT, signed. -/
def execSlt (m : Fin 16) (e : Fin 66) (d a b : Fin 32) (s : State) : Res :=
  .next (s.sparAlu m e (.slt m e d a b) fun x => x.putZN d (if (x.s a).toInt < (x.s b).toInt then 1 else 0))

/-- SLTU, unsigned. -/
def execSltu (m : Fin 16) (e : Fin 66) (d a b : Fin 32) (s : State) : Res :=
  .next (s.sparAlu m e (.sltu m e d a b) fun x => x.putZN d (if (x.s a).toNat < (x.s b).toNat then 1 else 0))

/-- The quotient of DIV: the one that 32 bits cannot hold is a free value, the same in every run (R199; the spec states none). -/
def divResult (a b : Word) : Word :=
  if b = 0 then 0
  else if a = 0x80000000 && b = 0xFFFFFFFF then Config.divOver a b
  else BitVec.ofInt 32 (a.toInt.tdiv b.toInt)

/-- DIV, truncated toward zero (R201, R202): b = 0 gives 0 and sets V; C is unchanged. -/
def execDiv (m : Fin 16) (e : Fin 66) (d a b : Fin 32) (s : State) : Res :=
  .next (s.sparAlu m e (.div m e d a b) fun x =>
    { x.putZN d (divResult (x.s a) (x.s b)) with v := x.s b == 0 })

/-- DIVU (R201, R202). -/
def execDivu (m : Fin 16) (e : Fin 66) (d a b : Fin 32) (s : State) : Res :=
  .next (s.sparAlu m e (.divu m e d a b) fun x =>
    { x.putZN d (if x.s b = 0 then 0 else BitVec.ofNat 32 ((x.s a).toNat / (x.s b).toNat)) with v := x.s b == 0 })

/-- ISQRT of an unsigned value. -/
def execIsqrt (m : Fin 16) (e : Fin 66) (d a : Fin 32) (s : State) : Res :=
  .next (s.sparAlu m e (.isqrt m e d a) fun x => x.putZN d (BitVec.ofNat 32 (Nat.sqrt (x.s a).toNat)))

/-- CMP: the flags of a − b. -/
def execCmp (m : Fin 16) (e : Fin 66) (a b : Fin 32) (s : State) : Res :=
  .next (s.sparAlu m e (.cmp m e a b) fun x => x.subFlags (x.s a) (x.s b))

/-- MFS: a read of SAT clears it; the flags are unchanged. -/
def execMfs (m : Fin 16) (e : Fin 66) (d : Fin 32) (sp : BitVec 5) (s : State) : Res :=
  .next (s.sparDo m e (.mfs m e d sp) fun r =>
    let x := r.spar
    match sp.toNat with
    | 0 => ({ x.setS d (if x.sat then 1 else 0) with sat := false }).step
    | 1 => (x.setS d (BitVec.ofNat 32 x.col)).step
    | 2 => (x.setS d (BitVec.ofNat 32 x.line)).step
    | 3 => (x.setS d (if s.streamEnd m.val r then 1 else 0)).step
    | _ => (x.setS d 0).step)

/-- ADDI: all four flags. -/
def execAddi (m : Fin 16) (e : Fin 66) (d a : Fin 32) (imm : BitVec 16) (s : State) : Res :=
  .next (s.sparAlu m e (.addi m e d a imm) fun x => (x.setS d (x.s a + imm.signExtend 32)).addFlags (x.s a) (imm.signExtend 32))

/-- ANDI, zero-extended. -/
def execAndi (m : Fin 16) (e : Fin 66) (d a : Fin 32) (imm : BitVec 16) (s : State) : Res :=
  .next (s.sparAlu m e (.andi m e d a imm) fun x => x.putZN d (x.s a &&& imm.setWidth 32))

/-- ORI, zero-extended. -/
def execOri (m : Fin 16) (e : Fin 66) (d a : Fin 32) (imm : BitVec 16) (s : State) : Res :=
  .next (s.sparAlu m e (.ori m e d a imm) fun x => x.putZN d (x.s a ||| imm.setWidth 32))

/-- XORI, zero-extended. -/
def execXori (m : Fin 16) (e : Fin 66) (d a : Fin 32) (imm : BitVec 16) (s : State) : Res :=
  .next (s.sparAlu m e (.xori m e d a imm) fun x => x.putZN d (x.s a ^^^ imm.setWidth 32))

/-- LUI: the flags are unchanged. -/
def execLui (m : Fin 16) (e : Fin 66) (d : Fin 32) (imm : BitVec 16) (s : State) : Res :=
  .next (s.sparAlu m e (.lui m e d imm) fun x => x.setS d ((imm.setWidth 32) <<< 16))

/-- SHLI by IMM16[4:0]. -/
def execShli (m : Fin 16) (e : Fin 66) (d a : Fin 32) (imm : BitVec 16) (s : State) : Res :=
  .next (s.sparAlu m e (.shli m e d a imm) fun x => x.putZN d (x.s a <<< (imm.toNat % 32)))

/-- SHRI by IMM16[4:0]. -/
def execShri (m : Fin 16) (e : Fin 66) (d a : Fin 32) (imm : BitVec 16) (s : State) : Res :=
  .next (s.sparAlu m e (.shri m e d a imm) fun x => x.putZN d (x.s a >>> (imm.toNat % 32)))

/-- SARI by IMM16[4:0]. -/
def execSari (m : Fin 16) (e : Fin 66) (d a : Fin 32) (imm : BitVec 16) (s : State) : Res :=
  .next (s.sparAlu m e (.sari m e d a imm) fun x => x.putZN d ((x.s a).sshiftRight (imm.toNat % 32)))

/-- CMPI: the flags of a − IMM16. -/
def execCmpi (m : Fin 16) (e : Fin 66) (a : Fin 32) (imm : BitVec 16) (s : State) : Res :=
  .next (s.sparAlu m e (.cmpi m e a imm) fun x => x.subFlags (x.s a) (imm.signExtend 32))

/-! ### Memory and control (R203, R206) -/

/-- LDW. -/
def execLdw (m : Fin 16) (e : Fin 66) (d a : Fin 32) (imm : BitVec 16) (s : State) : Res :=
  .next (s.sparMem m e (.ldw m e d a imm) fun x c => (x.load c (x.addr a imm) 4).map fun v => x.setS d (BitVec.ofNat 32 v))

/-- LDH, sign-extended. -/
def execLdh (m : Fin 16) (e : Fin 66) (d a : Fin 32) (imm : BitVec 16) (s : State) : Res :=
  .next (s.sparMem m e (.ldh m e d a imm) fun x c => (x.load c (x.addr a imm) 2).map fun v => x.setS d ((BitVec.ofNat 16 v).signExtend 32))

/-- LDHU, zero-extended. -/
def execLdhu (m : Fin 16) (e : Fin 66) (d a : Fin 32) (imm : BitVec 16) (s : State) : Res :=
  .next (s.sparMem m e (.ldhu m e d a imm) fun x c => (x.load c (x.addr a imm) 2).map fun v => x.setS d (BitVec.ofNat 32 v))

/-- STW: the word s[D]. -/
def execStw (m : Fin 16) (e : Fin 66) (d a : Fin 32) (imm : BitVec 16) (s : State) : Res :=
  .next (s.sparTry m e (.stw m e d a imm) fun x => x.store (x.addr a imm) 4 (x.s d).toNat)

/-- STH: the low halfword of s[D]. -/
def execSth (m : Fin 16) (e : Fin 66) (d a : Fin 32) (imm : BitVec 16) (s : State) : Res :=
  .next (s.sparTry m e (.sth m e d a imm) fun x => x.store (x.addr a imm) 2 (x.s d).toNat)

/-- VLD: 64 bytes. -/
def execVld (m : Fin 16) (e : Fin 66) (d a : Fin 32) (imm : BitVec 16) (s : State) : Res :=
  .next (s.sparMem m e (.vld m e d a imm) fun x c => (x.load c (x.addr a imm) 64).map fun v => x.setVec d (BitVec.ofNat 512 v))

/-- VST: 64 bytes. -/
def execVst (m : Fin 16) (e : Fin 66) (d a : Fin 32) (imm : BitVec 16) (s : State) : Res :=
  .next (s.sparTry m e (.vst m e d a imm) fun x => x.store (x.addr a imm) 64 (x.vec d).toNat)

/-- VLUT: each lane under MK reads the halfword at s[A] + 2 × its lane of v[B]. -/
def execVlut (m : Fin 16) (e : Fin 66) (d a b : Fin 32) (mk : Fin 8) (s : State) : Res :=
  .next (s.sparMem m e (.vlut m e d a b mk) fun x c =>
    let at' (i : Nat) : Nat := ((x.s a).toNat + 2 * lane (x.vec b) i) % 2 ^ 32
    if (List.range 32).any (fun i => x.on mk i && (x.load c (at' i) 2).isNone) then none
    else some (x.putLanes d mk (fun i => (x.load c (at' i) 2).getD 0)))

/-- B: a reserved condition is ILLEGAL. -/
def execB (m : Fin 16) (e : Fin 66) (cond : BitVec 4) (ofs : BitVec 22) (s : State) : Res :=
  .next (s.sparDo m e (.b m e cond ofs) fun r =>
    match sparCond r.spar (s.streamEnd m.val r) cond.toNat with
    | some true => .next (r.spar.goto (r.spar.pc + 4 * ofs.toInt))
    | some false => r.spar.step
    | none => .illegal)

/-- CALL: COND must be 0. -/
def execCall (m : Fin 16) (e : Fin 66) (cond : BitVec 4) (ofs : BitVec 22) (s : State) : Res :=
  .next (s.sparDo m e (.call m e cond ofs) fun r =>
    if cond ≠ 0 then .illegal
    else .next ((r.spar.setS 31 (BitVec.ofInt 32 (r.spar.pc + 4))).goto (r.spar.pc + 4 * ofs.toInt)))

/-- RET: pc := s31. An address that is no instruction's is ILLEGAL (R206). -/
def execRet (m : Fin 16) (e : Fin 66) (s : State) : Res :=
  .next (s.sparDo m e (.ret m e) fun r =>
    if (r.spar.s 31).toNat % 4 ≠ 0 then .illegal else .next (r.spar.goto (r.spar.s 31).toNat))

/-- LOOP: s[A] = 0 skips the body, and a third level is ILLEGAL. A body beyond 1–4,095 instructions is ILLEGAL too
(DEDUCED). -/
def execLoop (m : Fin 16) (e : Fin 66) (a : Fin 32) (imm : BitVec 16) (s : State) : Res :=
  .next (s.sparDo m e (.loop m e a imm) fun r =>
    let x := r.spar
    let first := x.pc + 4
    let last := first + 4 * (imm.toNat : Int)
    if imm.toNat = 0 || 4095 < imm.toNat then .illegal
    else if x.s a = 0 then .next (x.goto last)
    else if 2 ≤ x.loops.length then .illegal
    else .next { x with pc := first, loops := ⟨first, last, (x.s a).toNat⟩ :: x.loops })

/-- Whether engine `e` of mast `m` is at instruction `i`. -/
def State.sparIs (s : State) (m : Fin 16) (e : Fin 66) (i : Instr) : Bool :=
  match s.runOf m e with
  | some r => s.sparAt m e r == some i
  | none => false

/-- COMMIT (R206, R212): a reserved destination bit or a bad length is ILLEGAL. A spar fault detected in its clock cancels it (R218);
one that can be corrected is no spar fault (R215). -/
def execCommit (m : Fin 16) (e : Fin 66) (a : Fin 32) (imm : BitVec 16) (fault : Option SparCause) (s : State) : Res :=
  let i : Instr := .commit m e a imm none
  let s1 := match fault with
    | some c => if s.sparIs m e i then s.sparFaultAt m e c else s
    | none => s
  .next (s1.sparDo m e i (commitRes a imm))

/-- ABORT: the tile is ABANDONED without output. -/
def execAbort (m : Fin 16) (e : Fin 66) (s : State) : Res :=
  .next (s.sparDo m e (.abort m e) fun _ => .abort)

/-! ### Vector operations (R204) -/

/-- VADD, modulo 2^16. -/
def execVadd (m : Fin 16) (e : Fin 66) (d a b : Fin 32) (mk : Fin 8) (s : State) : Res :=
  .next (s.sparAlu m e (.vadd m e d a b mk) fun x => x.putLanes d mk fun i => (lane (x.vec a) i) + (lane (x.vec b) i))

/-- VSUB, modulo 2^16. -/
def execVsub (m : Fin 16) (e : Fin 66) (d a b : Fin 32) (mk : Fin 8) (s : State) : Res :=
  .next (s.sparAlu m e (.vsub m e d a b mk) fun x => x.putLanes d mk fun i => (lane (x.vec a) i) + 65536 - (lane (x.vec b) i))

/-- VADDS, signed and saturating. -/
def execVadds (m : Fin 16) (e : Fin 66) (d a b : Fin 32) (mk : Fin 8) (s : State) : Res :=
  .next (s.sparAlu m e (.vadds m e d a b mk) fun x => x.putSat d mk sat16 fun i => (laneS (x.vec a) i) + (laneS (x.vec b) i))

/-- VSUBS, signed and saturating. -/
def execVsubs (m : Fin 16) (e : Fin 66) (d a b : Fin 32) (mk : Fin 8) (s : State) : Res :=
  .next (s.sparAlu m e (.vsubs m e d a b mk) fun x => x.putSat d mk sat16 fun i => (laneS (x.vec a) i) - (laneS (x.vec b) i))

/-- VADDUS, unsigned and saturating. -/
def execVaddus (m : Fin 16) (e : Fin 66) (d a b : Fin 32) (mk : Fin 8) (s : State) : Res :=
  .next (s.sparAlu m e (.vaddus m e d a b mk) fun x => x.putSat d mk sat16u fun i => ((lane (x.vec a) i) : Int) + (lane (x.vec b) i))

/-- VSUBUS, unsigned and saturating. -/
def execVsubus (m : Fin 16) (e : Fin 66) (d a b : Fin 32) (mk : Fin 8) (s : State) : Res :=
  .next (s.sparAlu m e (.vsubus m e d a b mk) fun x => x.putSat d mk sat16u fun i => ((lane (x.vec a) i) : Int) - (lane (x.vec b) i))

/-- VMUL: low 16 bits. -/
def execVmul (m : Fin 16) (e : Fin 66) (d a b : Fin 32) (mk : Fin 8) (s : State) : Res :=
  .next (s.sparAlu m e (.vmul m e d a b mk) fun x => x.putLanes d mk fun i => (lane (x.vec a) i) * (lane (x.vec b) i))

/-- VMULQ, signed Q1.15. -/
def execVmulq (m : Fin 16) (e : Fin 66) (d a b : Fin 32) (mk : Fin 8) (s : State) : Res :=
  .next (s.sparAlu m e (.vmulq m e d a b mk) fun x => x.putSat d mk sat16 fun i => ((laneS (x.vec a) i) * (laneS (x.vec b) i) + 2 ^ 14) / 2 ^ 15)

/-- VMIN, signed. -/
def execVmin (m : Fin 16) (e : Fin 66) (d a b : Fin 32) (mk : Fin 8) (s : State) : Res :=
  .next (s.sparAlu m e (.vmin m e d a b mk) fun x => x.putLanes d mk fun i => unsext 16 (min (laneS (x.vec a) i) (laneS (x.vec b) i)))

/-- VMAX, signed. -/
def execVmax (m : Fin 16) (e : Fin 66) (d a b : Fin 32) (mk : Fin 8) (s : State) : Res :=
  .next (s.sparAlu m e (.vmax m e d a b mk) fun x => x.putLanes d mk fun i => unsext 16 (max (laneS (x.vec a) i) (laneS (x.vec b) i)))

/-- VMINU. -/
def execVminu (m : Fin 16) (e : Fin 66) (d a b : Fin 32) (mk : Fin 8) (s : State) : Res :=
  .next (s.sparAlu m e (.vminu m e d a b mk) fun x => x.putLanes d mk fun i => min (lane (x.vec a) i) (lane (x.vec b) i))

/-- VMAXU. -/
def execVmaxu (m : Fin 16) (e : Fin 66) (d a b : Fin 32) (mk : Fin 8) (s : State) : Res :=
  .next (s.sparAlu m e (.vmaxu m e d a b mk) fun x => x.putLanes d mk fun i => max (lane (x.vec a) i) (lane (x.vec b) i))

/-- VAND. -/
def execVand (m : Fin 16) (e : Fin 66) (d a b : Fin 32) (mk : Fin 8) (s : State) : Res :=
  .next (s.sparAlu m e (.vand m e d a b mk) fun x => x.putLanes d mk fun i => (lane (x.vec a) i) &&& (lane (x.vec b) i))

/-- VOR. -/
def execVor (m : Fin 16) (e : Fin 66) (d a b : Fin 32) (mk : Fin 8) (s : State) : Res :=
  .next (s.sparAlu m e (.vor m e d a b mk) fun x => x.putLanes d mk fun i => (lane (x.vec a) i) ||| (lane (x.vec b) i))

/-- VXOR. -/
def execVxor (m : Fin 16) (e : Fin 66) (d a b : Fin 32) (mk : Fin 8) (s : State) : Res :=
  .next (s.sparAlu m e (.vxor m e d a b mk) fun x => x.putLanes d mk fun i => (lane (x.vec a) i) ^^^ (lane (x.vec b) i))

/-- VABSDU. -/
def execVabsdu (m : Fin 16) (e : Fin 66) (d a b : Fin 32) (mk : Fin 8) (s : State) : Res :=
  .next (s.sparAlu m e (.vabsdu m e d a b mk) fun x => x.putLanes d mk fun i => max (lane (x.vec a) i) (lane (x.vec b) i) - min (lane (x.vec a) i) (lane (x.vec b) i))

/-- VSHL by b[4:0]. -/
def execVshl (m : Fin 16) (e : Fin 66) (d a b : Fin 32) (mk : Fin 8) (s : State) : Res :=
  .next (s.sparAlu m e (.vshl m e d a b mk) fun x => x.putLanes d mk fun i => (lane (x.vec a) i) <<< ((lane (x.vec b) i) % 32))

/-- VSHR by b[4:0]. -/
def execVshr (m : Fin 16) (e : Fin 66) (d a b : Fin 32) (mk : Fin 8) (s : State) : Res :=
  .next (s.sparAlu m e (.vshr m e d a b mk) fun x => x.putLanes d mk fun i => (lane (x.vec a) i) >>> ((lane (x.vec b) i) % 32))

/-- VSAR by b[4:0]: a count of 16 or more gives the sign. -/
def execVsar (m : Fin 16) (e : Fin 66) (d a b : Fin 32) (mk : Fin 8) (s : State) : Res :=
  .next (s.sparAlu m e (.vsar m e d a b mk) fun x => x.putLanes d mk fun i => unsext 16 ((laneS (x.vec a) i) / 2 ^ ((lane (x.vec b) i) % 32)))

/-- VSEL: every lane is written. -/
def execVsel (m : Fin 16) (e : Fin 66) (d a b : Fin 32) (mk : Fin 8) (s : State) : Res :=
  .next (s.sparAlu m e (.vsel m e d a b mk) fun x => x.setVec d (ofLanes fun i => if x.on mk i then (lane (x.vec a) i) else (lane (x.vec b) i)))

/-- VSPLAT: s[A][15:0]. -/
def execVsplat (m : Fin 16) (e : Fin 66) (d a : Fin 32) (mk : Fin 8) (s : State) : Res :=
  .next (s.sparAlu m e (.vsplat m e d a mk) fun x => x.putLanes d mk fun _ => (x.s a).toNat % 65536)

/-- VMULW: the signed product in the pair D. -/
def execVmulw (m : Fin 16) (e : Fin 66) (d a b : Fin 32) (mk : Fin 8) (s : State) : Res :=
  .next (s.sparTry m e (.vmulw m e d a b mk) fun x => if d.val % 2 = 1 then none else some (x.putPair d mk fun i => unsext 32 ((laneS (x.vec a) i) * (laneS (x.vec b) i))))

/-- VMULWU: the unsigned product in the pair D. -/
def execVmulwu (m : Fin 16) (e : Fin 66) (d a b : Fin 32) (mk : Fin 8) (s : State) : Res :=
  .next (s.sparTry m e (.vmulwu m e d a b mk) fun x => if d.val % 2 = 1 then none else some (x.putPair d mk fun i => (lane (x.vec a) i) * (lane (x.vec b) i)))

/-- VACCWU: the pair D plus a lane, modulo 2^32. -/
def execVaccwu (m : Fin 16) (e : Fin 66) (d a : Fin 32) (mk : Fin 8) (s : State) : Res :=
  .next (s.sparTry m e (.vaccwu m e d a mk) fun x => if d.val % 2 = 1 then none else some (x.putPair d mk fun i => (x.pair d i + (lane (x.vec a) i)) % 2 ^ 32))

/-- (v + r) >> n with r = 2^(n−1) where n > 0 (R204). -/
def roundShift (v : Int) (n : Nat) : Int := (v + (if n = 0 then 0 else 2 ^ (n - 1))) / 2 ^ n

/-- What VNARROW saturates: of a count beyond 31 the spec states no result, and it is a free value (log entry 83). -/
def narrowed (v : Int) (n : Word) : Int := if n.toNat < 32 then roundShift v n.toNat else Config.narrowOver v n

/-- VNARROW, signed. -/
def execVnarrow (m : Fin 16) (e : Fin 66) (d a b : Fin 32) (mk : Fin 8) (s : State) : Res :=
  .next (s.sparAlu m e (.vnarrow m e d a b mk) fun x => x.putSat d mk sat16 fun i => narrowed (sext 32 (x.pair a i)) (x.s b))

/-- VNARROWU, unsigned. -/
def execVnarrowu (m : Fin 16) (e : Fin 66) (d a b : Fin 32) (mk : Fin 8) (s : State) : Res :=
  .next (s.sparAlu m e (.vnarrowu m e d a b mk) fun x => x.putSat d mk sat16u fun i => narrowed (x.pair a i) (x.s b))

/-- VMAC: acc[D mod 4] plus the signed product, modulo 2^48. -/
def execVmac (m : Fin 16) (e : Fin 66) (d a b : Fin 32) (mk : Fin 8) (s : State) : Res :=
  .next (s.sparAlu m e (.vmac m e d a b mk) fun x => x.putAcc d mk fun i => unsext 48 (x.accLane d i + (laneS (x.vec a) i) * (laneS (x.vec b) i)))

/-- VMACU, unsigned. -/
def execVmacu (m : Fin 16) (e : Fin 66) (d a b : Fin 32) (mk : Fin 8) (s : State) : Res :=
  .next (s.sparAlu m e (.vmacu m e d a b mk) fun x => x.putAcc d mk fun i => x.accLane d i + (lane (x.vec a) i) * (lane (x.vec b) i))

/-- VACCR: acc[A mod 4] rounded, shifted and saturated. Every count beyond 47 gives 0, as 64 does. -/
def execVaccr (m : Fin 16) (e : Fin 66) (d a b : Fin 32) (mk : Fin 8) (s : State) : Res :=
  .next (s.sparAlu m e (.vaccr m e d a b mk) fun x => x.putSat d mk sat16 fun i => roundShift (sext 48 (x.accLane a i)) (min (x.s b).toNat 64))

/-- VACCZ under MK. -/
def execVaccz (m : Fin 16) (e : Fin 66) (d : Fin 32) (mk : Fin 8) (s : State) : Res :=
  .next (s.sparAlu m e (.vaccz m e d mk) fun x => x.putAcc d mk fun _ => 0)

/-- VCMPEQ: lanes outside MK give 0. -/
def execVcmpeq (m : Fin 16) (e : Fin 66) (d : Fin 8) (a b : Fin 32) (mk : Fin 8) (s : State) : Res :=
  .next (s.sparAlu m e (.vcmpeq m e d a b mk) fun x => x.setM d (maskOf fun i => x.on mk i && decide ((lane (x.vec a) i) = (lane (x.vec b) i))))

/-- VCMPGT, signed. -/
def execVcmpgt (m : Fin 16) (e : Fin 66) (d : Fin 8) (a b : Fin 32) (mk : Fin 8) (s : State) : Res :=
  .next (s.sparAlu m e (.vcmpgt m e d a b mk) fun x => x.setM d (maskOf fun i => x.on mk i && decide ((laneS (x.vec b) i) < (laneS (x.vec a) i))))

/-- VCMPGTU. -/
def execVcmpgtu (m : Fin 16) (e : Fin 66) (d : Fin 8) (a b : Fin 32) (mk : Fin 8) (s : State) : Res :=
  .next (s.sparAlu m e (.vcmpgtu m e d a b mk) fun x => x.setM d (maskOf fun i => x.on mk i && decide ((lane (x.vec b) i) < (lane (x.vec a) i))))

/-- VCMPGEU. -/
def execVcmpgeu (m : Fin 16) (e : Fin 66) (d : Fin 8) (a b : Fin 32) (mk : Fin 8) (s : State) : Res :=
  .next (s.sparAlu m e (.vcmpgeu m e d a b mk) fun x => x.setM d (maskOf fun i => x.on mk i && decide ((lane (x.vec b) i) ≤ (lane (x.vec a) i))))

/-- The lanes of v[A] under MK. -/
def Spar.lanesOn (x : Spar) (a mk : Nat) : List Nat := (List.range 32).filter (x.on mk) |>.map (lane (x.vec a))

/-- The unsigned maximum of the lanes under MK. -/
def Spar.maxLane (x : Spar) (a mk : Nat) : Nat := (x.lanesOn a mk).foldl max 0

/-- VRSUM: lanes sign-extended. -/
def execVrsum (m : Fin 16) (e : Fin 66) (d a : Fin 32) (mk : Fin 8) (s : State) : Res :=
  .next (s.sparAlu m e (.vrsum m e d a mk) fun x => x.setS d (BitVec.ofInt 32 ((x.lanesOn a mk).map (sext 16)).sum))

/-- VRSUMU: lanes zero-extended. -/
def execVrsumu (m : Fin 16) (e : Fin 66) (d a : Fin 32) (mk : Fin 8) (s : State) : Res :=
  .next (s.sparAlu m e (.vrsumu m e d a mk) fun x => x.setS d (BitVec.ofNat 32 (x.lanesOn a mk).sum))

/-- VRMAXU: 0 when MK is empty. -/
def execVrmaxu (m : Fin 16) (e : Fin 66) (d a : Fin 32) (mk : Fin 8) (s : State) : Res :=
  .next (s.sparAlu m e (.vrmaxu m e d a mk) fun x => x.setS d (BitVec.ofNat 32 (x.maxLane a mk)))

/-- VRMAXI: the lowest lane holding that maximum; 32 when MK is empty. -/
def execVrmaxi (m : Fin 16) (e : Fin 66) (d a : Fin 32) (mk : Fin 8) (s : State) : Res :=
  .next (s.sparAlu m e (.vrmaxi m e d a mk) fun x => x.setS d (BitVec.ofNat 32 (((List.range 32).find? fun i => x.on mk i && lane (x.vec a) i == x.maxLane a mk).getD 32)))

/-- VEXT: lane i + k of the row a ‖ b. -/
def execVext (m : Fin 16) (e : Fin 66) (k d a b : Fin 32) (mk : Fin 8) (s : State) : Res :=
  .next (s.sparAlu m e (.vext m e k d a b mk) fun x => x.putLanes d mk fun i =>
    if i + k.val < 32 then lane (x.vec a) (i + k.val) else lane (x.vec b) (i + k.val - 32))

/-! ### Masks (R205) -/

/-- MAND: a result written to m0 is discarded. -/
def execMand (m : Fin 16) (e : Fin 66) (d a b : Fin 8) (s : State) : Res :=
  .next (s.sparAlu m e (.mand m e d a b) fun x => x.setM d (x.m a &&& x.m b))

/-- MOR: a result written to m0 is discarded. -/
def execMor (m : Fin 16) (e : Fin 66) (d a b : Fin 8) (s : State) : Res :=
  .next (s.sparAlu m e (.mor m e d a b) fun x => x.setM d (x.m a ||| x.m b))

/-- MXOR: a result written to m0 is discarded. -/
def execMxor (m : Fin 16) (e : Fin 66) (d a b : Fin 8) (s : State) : Res :=
  .next (s.sparAlu m e (.mxor m e d a b) fun x => x.setM d (x.m a ^^^ x.m b))

/-- MNOT. -/
def execMnot (m : Fin 16) (e : Fin 66) (d a : Fin 8) (s : State) : Res :=
  .next (s.sparAlu m e (.mnot m e d a) fun x => x.setM d (~~~(x.m a)))

/-- MTOS. -/
def execMtos (m : Fin 16) (e : Fin 66) (d : Fin 32) (a : Fin 8) (s : State) : Res :=
  .next (s.sparAlu m e (.mtos m e d a) fun x => x.setS d (x.m a))

/-- STOM. -/
def execStom (m : Fin 16) (e : Fin 66) (d : Fin 8) (a : Fin 32) (s : State) : Res :=
  .next (s.sparAlu m e (.stom m e d a) fun x => x.setM d (x.s a))

/-- MPOP. -/
def execMpop (m : Fin 16) (e : Fin 66) (d : Fin 32) (a : Fin 8) (s : State) : Res :=
  .next (s.sparAlu m e (.mpop m e d a) fun x => x.setS d (BitVec.ofNat 32 ((List.range 32).filter (natBit (x.m a).toNat)).length))

/-! ### Streams and staging (R205, R206, R210, R211) -/

/-- SRD (R205, R211): `ue` names the 64-bit words of shared memory that read as uncorrectable. -/
def execSrd (m : Fin 16) (e : Fin 66) (d : Fin 32) (ue : List Nat) (s : State) : Res :=
  .next (s.sparDo m e (.srd m e d []) fun r => s.srd m.val r d ue)

/-- SRDR: shared-memory words in error count as an SRD's do (R211; log entry 83). -/
def execSrdr (m : Fin 16) (e : Fin 66) (d : Fin 32) (ue : List Nat) (s : State) : Res :=
  .next (s.sparDo m e (.srdr m e d []) fun r => s.srdr m.val r d ue false)

/-- SSEEK: column s[A], line s[B]. -/
def execSseek (m : Fin 16) (e : Fin 66) (a b : Fin 32) (s : State) : Res :=
  .next (s.sparAlu m e (.sseek m e a b) fun x => { x with col := (x.s a).toNat, line := (x.s b).toNat })

/-- SWR: s[B] must be a multiple of 64 and at most 192. -/
def execSwr (m : Fin 16) (e : Fin 66) (a b : Fin 32) (s : State) : Res :=
  .next (s.sparTry m e (.swr m e a b) fun x =>
    let k := (x.s b).toNat
    if k % 64 ≠ 0 || 192 < k then none
    else some { x with staging := tblSetList 0 x.staging k (bytesLE 64 (x.vec a).toNat) })

/-- SWRS: s[B] must be a multiple of 4 and at most 252. -/
def execSwrs (m : Fin 16) (e : Fin 66) (a b : Fin 32) (s : State) : Res :=
  .next (s.sparTry m e (.swrs m e a b) fun x =>
    let k := (x.s b).toNat
    if k % 4 ≠ 0 || 252 < k then none
    else some { x with staging := tblSetList 0 x.staging k (bytesLE 4 (x.s a).toNat) })

/-- STD: descriptor word A. Word 8 waits for the frame to close. -/
def execStd (m : Fin 16) (e : Fin 66) (d a : Fin 32) (s : State) : Res :=
  .next (s.sparDo m e (.std m e d a) fun r =>
    match s.descWord m.val r a with
    | some w => (r.spar.setS d w).step
    | none => .waitClose)

/-! ### Analysis units (R207 to R209) -/

/-- HIST: bins saturate. -/
def execHist (m : Fin 16) (e : Fin 66) (a b : Fin 32) (mk : Fin 8) (s : State) : Res :=
  .next (s.sparAlu m e (.hist m e a b mk) fun x =>
    { x with hist := (x.lanesOn a mk).foldl (fun h v =>
        let k := min (v >>> (min (x.s b).toNat 16)) 1023
        tblSet 0 h k (BitVec.ofNat 32 (min ((tblGet 0 h k).toNat + 1) 0xFFFFFFFF))) x.hist })

/-- HRD: bins s[A] to s[A] + 31 in the pair D; bins beyond 1,023 read 0. -/
def execHrd (m : Fin 16) (e : Fin 66) (d a : Fin 32) (s : State) : Res :=
  .next (s.sparTry m e (.hrd m e d a) fun x =>
    let bin (i : Nat) : Nat := if (x.s a).toNat + i < 1024 then (tblGet 0 x.hist ((x.s a).toNat + i)).toNat else 0
    if d.val % 2 = 1 then none else some (x.putPair d 0 bin))

/-- LCFG. -/
def execLcfg (m : Fin 16) (e : Fin 66) (a : Fin 32) (s : State) : Res :=
  .next (s.sparAlu m e (.lcfg m e a) fun x => { x with lab := { x.lab with woff := (x.s a).toNat % 65536, conn8 := natBit (x.s a).toNat 16 } })

/-- LAB: a segment that does not ascend is ILLEGAL. -/
def execLab (m : Fin 16) (e : Fin 66) (a b : Fin 32) (mk : Fin 8) (s : State) : Res :=
  .next (s.sparTry m e (.lab m e a b mk) fun x =>
    let col := (x.s b).toNat
    let ok := match x.lab.seg with
      | some p => decide (p < col)
      | none => true
    let px := ((List.range 32).filter (x.on mk)).map (fun i => (col + i, lane (x.vec a) i))
    if ok then some { x with lab := { x.lab with line := x.lab.line ++ px, seg := some col } } else none)

/-- LEOL. -/
def execLeol (m : Fin 16) (e : Fin 66) (s : State) : Res :=
  .next (s.sparAlu m e (.leol m e) fun x => { x with lab := x.lab.close })

/-- LRD: statistic s[B] of label s[A]. -/
def execLrd (m : Fin 16) (e : Fin 66) (d a b : Fin 32) (s : State) : Res :=
  .next (s.sparAlu m e (.lrd m e d a b) fun x => x.setS d (x.lab.stat (x.s a).toNat (x.s b).toNat))

/-- MCFG. -/
def execMcfg (m : Fin 16) (e : Fin 66) (a : Fin 32) (s : State) : Res :=
  .next (s.sparAlu m e (.mcfg m e a) fun x => { x with mom := { x.mom with offset := (x.s a).toNat % 65536 } })

/-- MOM. -/
def execMom (m : Fin 16) (e : Fin 66) (a b : Fin 32) (mk : Fin 8) (s : State) : Res :=
  .next (s.sparAlu m e (.mom m e a b mk) fun x =>
    { x with mom := ((List.range 32).filter (x.on mk)).foldl (fun q i =>
        q.add (lane (x.vec a) i - q.offset) ((x.s b).toNat % 65536 + i) ((x.s b).toNat / 65536)) x.mom })

/-- MRD: word s[B]. -/
def execMrd (m : Fin 16) (e : Fin 66) (d b : Fin 32) (s : State) : Res :=
  .next (s.sparAlu m e (.mrd m e d b) fun x => x.setS d (x.mom.word (x.s b).toNat))

end Sys2Proof.Machine
end

