-- ==== Sys2Proof/Machine/Dispatch.lean ====
section
/-!
DEFINITION. Which meaning each command has: one arm for each constructor of `Instr`.
-/

namespace Sys2Proof.Machine

def exec (i : Instr) (s : State) : Host.Outcome State Fault Refusal :=
  match i with
  | .registerWrite who addr v tlp => Sys2Proof.Machine.execRegisterWrite who addr v tlp s
  | .readClear who addr tlp => Sys2Proof.Machine.execReadClear who addr tlp s
  | .signalDetectQualified n => Sys2Proof.Machine.execSignalDetectQualified n s
  | .signalLost n => Sys2Proof.Machine.execSignalLost n s
  | .cdrLocked n => Sys2Proof.Machine.execCdrLocked n s
  | .cdrLockTimeout n dt => Sys2Proof.Machine.execCdrLockTimeout n dt s
  | .blockLock n => Sys2Proof.Machine.execBlockLock n s
  | .huntTimeout n dt => Sys2Proof.Machine.execHuntTimeout n dt s
  | .lockLoss n => Sys2Proof.Machine.execLockLoss n s
  | .dataRow p blocks => Sys2Proof.Machine.execDataRow p blocks s
  | .skipBlock n slot blk => Sys2Proof.Machine.execSkipBlock n slot blk s
  | .stuffedBlock n blk => Sys2Proof.Machine.execStuffedBlock n blk s
  | .reservedTypeBlock n blk => Sys2Proof.Machine.execReservedTypeBlock n blk s
  | .trainingRequest n blk => Sys2Proof.Machine.execTrainingRequest n blk s
  | .trainingStatus n blk => Sys2Proof.Machine.execTrainingStatus n blk s
  | .trainingReady n blk => Sys2Proof.Machine.execTrainingReady n blk s
  | .trainingAbort n blk => Sys2Proof.Machine.execTrainingAbort n blk s
  | .trainingRequestRepeat n dt => Sys2Proof.Machine.execTrainingRequestRepeat n dt s
  | .eyeMeasurement n margin => Sys2Proof.Machine.execEyeMeasurement n margin s
  | .trainTimeout n dt => Sys2Proof.Machine.execTrainTimeout n dt s
  | .skipSend p dt => Sys2Proof.Machine.execSkipSend p dt s
  | .portDecide p dt => Sys2Proof.Machine.execPortDecide p dt s
  | .failedTimeout n dt => Sys2Proof.Machine.execFailedTimeout n dt s
  | .enterDoze p blocks => Sys2Proof.Machine.execEnterDoze p blocks s
  | .wakeRow p blocks => Sys2Proof.Machine.execWakeRow p blocks s
  | .dozeExitTimeout p => Sys2Proof.Machine.execDozeExitTimeout p s
  | .deepAck p blocks => Sys2Proof.Machine.execDeepAck p blocks s
  | .deepRetry p dt => Sys2Proof.Machine.execDeepRetry p dt s
  | .deepForce p dt => Sys2Proof.Machine.execDeepForce p dt s
  | .deepWakeOnSignal n => Sys2Proof.Machine.execDeepWakeOnSignal n s
  | .quadPllLocked q => Sys2Proof.Machine.execQuadPllLocked q s
  | .stripeHoldEnd p => Sys2Proof.Machine.execStripeHoldEnd p s
  | .suspectClear n => Sys2Proof.Machine.execSuspectClear n s
  | .rateReduceTimeout p dt => Sys2Proof.Machine.execRateReduceTimeout p dt s
  | .laneEnable who n on => Sys2Proof.Machine.execLaneEnable who n on s
  | .deepReq who n on => Sys2Proof.Machine.execDeepReq who n on s
  | .retrain who n => Sys2Proof.Machine.execRetrain who n s
  | .patternClear who n => Sys2Proof.Machine.execPatternClear who n s
  | .injectShot who n => Sys2Proof.Machine.execInjectShot who n s
  | .injectBurst n dt => Sys2Proof.Machine.execInjectBurst n dt s
  | .berBitsLoRead who n => Sys2Proof.Machine.execBerBitsLoRead who n s
  | .frameStart p dt aligned pkt slow meet => Sys2Proof.Machine.execFrameStart p dt aligned pkt slow meet s
  | .lineData p dt pkt full => Sys2Proof.Machine.execLineData p dt pkt full s
  | .frameEnd p dt pkt => Sys2Proof.Machine.execFrameEnd p dt pkt s
  | .closeTimeout p dt => Sys2Proof.Machine.execCloseTimeout p dt s
  | .hcrcFail p => Sys2Proof.Machine.execHcrcFail p s
  | .reservedPacket p length => Sys2Proof.Machine.execReservedPacket p length s
  | .cameraStatus p dt pkt => Sys2Proof.Machine.execCameraStatus p dt pkt s
  | .camSilent p dt => Sys2Proof.Machine.execCamSilent p dt s
  | .controlResponse p pkt => Sys2Proof.Machine.execControlResponse p pkt s
  | .triggerAck p seq code => Sys2Proof.Machine.execTriggerAck p seq code s
  | .triggerAckTimeout p dt seq => Sys2Proof.Machine.execTriggerAckTimeout p dt seq s
  | .ctrlGo who box => Sys2Proof.Machine.execCtrlGo who box s
  | .controlRequestRetry p dt => Sys2Proof.Machine.execControlRequestRetry p dt s
  | .soft who p => Sys2Proof.Machine.execSoft who p s
  | .scanPathCause p dt => Sys2Proof.Machine.execScanPathCause p dt s
  | .triggerBlockSend p dt => Sys2Proof.Machine.execTriggerBlockSend p dt s
  | .trigoPulseEnd pin dt => Sys2Proof.Machine.execTrigoPulseEnd pin dt s
  | .compareArm who n => Sys2Proof.Machine.execCompareArm who n s
  | .frameNumLoRead who p => Sys2Proof.Machine.execFrameNumLoRead who p s
  | .fstMarkGo who v => Sys2Proof.Machine.execFstMarkGo who v s
  | .markSearchDone r dt => Sys2Proof.Machine.execMarkSearchDone r dt s
  | .spanRelease who v => Sys2Proof.Machine.execSpanRelease who v s
  | .spanReleaseAll who v => Sys2Proof.Machine.execSpanReleaseAll who v s
  | .spanHoldExpiry r span dt => Sys2Proof.Machine.execSpanHoldExpiry r span dt s
  | .bar2Read addr len errs tlp => Sys2Proof.Machine.execBar2Read addr len errs tlp s
  | .bar2Write addr data tlp => Sys2Proof.Machine.execBar2Write addr data tlp s
  | .mpUnitWrite n dt wait => Sys2Proof.Machine.execMpUnitWrite n dt wait s
  | .refresh c dt len hot => Sys2Proof.Machine.execRefresh c dt len hot s
  | .patrolScrub c dt err => Sys2Proof.Machine.execPatrolScrub c dt err s
  | .ceLeak c dt => Sys2Proof.Machine.execCeLeak c dt s
  | .migrationCopy dt errs => Sys2Proof.Machine.execMigrationCopy dt errs s
  | .forceWrap r dt => Sys2Proof.Machine.execForceWrap r dt s
  | .channelRetired => Sys2Proof.Machine.execChannelRetired s
  | .tileDispatch m dt => Sys2Proof.Machine.execTileDispatch m dt s
  | .add m e d a b => Sys2Proof.Machine.execAdd m e d a b s
  | .sub m e d a b => Sys2Proof.Machine.execSub m e d a b s
  | .and m e d a b => Sys2Proof.Machine.execAnd m e d a b s
  | .or m e d a b => Sys2Proof.Machine.execOr m e d a b s
  | .xor m e d a b => Sys2Proof.Machine.execXor m e d a b s
  | .shl m e d a b => Sys2Proof.Machine.execShl m e d a b s
  | .shr m e d a b => Sys2Proof.Machine.execShr m e d a b s
  | .sar m e d a b => Sys2Proof.Machine.execSar m e d a b s
  | .mul m e d a b => Sys2Proof.Machine.execMul m e d a b s
  | .mulh m e d a b => Sys2Proof.Machine.execMulh m e d a b s
  | .min m e d a b => Sys2Proof.Machine.execMin m e d a b s
  | .max m e d a b => Sys2Proof.Machine.execMax m e d a b s
  | .slt m e d a b => Sys2Proof.Machine.execSlt m e d a b s
  | .sltu m e d a b => Sys2Proof.Machine.execSltu m e d a b s
  | .div m e d a b => Sys2Proof.Machine.execDiv m e d a b s
  | .divu m e d a b => Sys2Proof.Machine.execDivu m e d a b s
  | .isqrt m e d a => Sys2Proof.Machine.execIsqrt m e d a s
  | .cmp m e a b => Sys2Proof.Machine.execCmp m e a b s
  | .mfs m e d sp => Sys2Proof.Machine.execMfs m e d sp s
  | .addi m e d a imm => Sys2Proof.Machine.execAddi m e d a imm s
  | .andi m e d a imm => Sys2Proof.Machine.execAndi m e d a imm s
  | .ori m e d a imm => Sys2Proof.Machine.execOri m e d a imm s
  | .xori m e d a imm => Sys2Proof.Machine.execXori m e d a imm s
  | .lui m e d imm => Sys2Proof.Machine.execLui m e d imm s
  | .shli m e d a imm => Sys2Proof.Machine.execShli m e d a imm s
  | .shri m e d a imm => Sys2Proof.Machine.execShri m e d a imm s
  | .sari m e d a imm => Sys2Proof.Machine.execSari m e d a imm s
  | .cmpi m e a imm => Sys2Proof.Machine.execCmpi m e a imm s
  | .ldw m e d a imm => Sys2Proof.Machine.execLdw m e d a imm s
  | .ldh m e d a imm => Sys2Proof.Machine.execLdh m e d a imm s
  | .ldhu m e d a imm => Sys2Proof.Machine.execLdhu m e d a imm s
  | .stw m e d a imm => Sys2Proof.Machine.execStw m e d a imm s
  | .sth m e d a imm => Sys2Proof.Machine.execSth m e d a imm s
  | .vld m e d a imm => Sys2Proof.Machine.execVld m e d a imm s
  | .vst m e d a imm => Sys2Proof.Machine.execVst m e d a imm s
  | .vlut m e d a b mk => Sys2Proof.Machine.execVlut m e d a b mk s
  | .b m e cond ofs => Sys2Proof.Machine.execB m e cond ofs s
  | .call m e cond ofs => Sys2Proof.Machine.execCall m e cond ofs s
  | .ret m e => Sys2Proof.Machine.execRet m e s
  | .loop m e a imm => Sys2Proof.Machine.execLoop m e a imm s
  | .commit m e a imm fault => Sys2Proof.Machine.execCommit m e a imm fault s
  | .abort m e => Sys2Proof.Machine.execAbort m e s
  | .vadd m e d a b mk => Sys2Proof.Machine.execVadd m e d a b mk s
  | .vsub m e d a b mk => Sys2Proof.Machine.execVsub m e d a b mk s
  | .vadds m e d a b mk => Sys2Proof.Machine.execVadds m e d a b mk s
  | .vsubs m e d a b mk => Sys2Proof.Machine.execVsubs m e d a b mk s
  | .vaddus m e d a b mk => Sys2Proof.Machine.execVaddus m e d a b mk s
  | .vsubus m e d a b mk => Sys2Proof.Machine.execVsubus m e d a b mk s
  | .vmul m e d a b mk => Sys2Proof.Machine.execVmul m e d a b mk s
  | .vmulq m e d a b mk => Sys2Proof.Machine.execVmulq m e d a b mk s
  | .vmin m e d a b mk => Sys2Proof.Machine.execVmin m e d a b mk s
  | .vmax m e d a b mk => Sys2Proof.Machine.execVmax m e d a b mk s
  | .vminu m e d a b mk => Sys2Proof.Machine.execVminu m e d a b mk s
  | .vmaxu m e d a b mk => Sys2Proof.Machine.execVmaxu m e d a b mk s
  | .vand m e d a b mk => Sys2Proof.Machine.execVand m e d a b mk s
  | .vor m e d a b mk => Sys2Proof.Machine.execVor m e d a b mk s
  | .vxor m e d a b mk => Sys2Proof.Machine.execVxor m e d a b mk s
  | .vabsdu m e d a b mk => Sys2Proof.Machine.execVabsdu m e d a b mk s
  | .vshl m e d a b mk => Sys2Proof.Machine.execVshl m e d a b mk s
  | .vshr m e d a b mk => Sys2Proof.Machine.execVshr m e d a b mk s
  | .vsar m e d a b mk => Sys2Proof.Machine.execVsar m e d a b mk s
  | .vsel m e d a b mk => Sys2Proof.Machine.execVsel m e d a b mk s
  | .vsplat m e d a mk => Sys2Proof.Machine.execVsplat m e d a mk s
  | .vmulw m e d a b mk => Sys2Proof.Machine.execVmulw m e d a b mk s
  | .vmulwu m e d a b mk => Sys2Proof.Machine.execVmulwu m e d a b mk s
  | .vaccwu m e d a mk => Sys2Proof.Machine.execVaccwu m e d a mk s
  | .vnarrow m e d a b mk => Sys2Proof.Machine.execVnarrow m e d a b mk s
  | .vnarrowu m e d a b mk => Sys2Proof.Machine.execVnarrowu m e d a b mk s
  | .vmac m e d a b mk => Sys2Proof.Machine.execVmac m e d a b mk s
  | .vmacu m e d a b mk => Sys2Proof.Machine.execVmacu m e d a b mk s
  | .vaccr m e d a b mk => Sys2Proof.Machine.execVaccr m e d a b mk s
  | .vaccz m e d mk => Sys2Proof.Machine.execVaccz m e d mk s
  | .vcmpeq m e d a b mk => Sys2Proof.Machine.execVcmpeq m e d a b mk s
  | .vcmpgt m e d a b mk => Sys2Proof.Machine.execVcmpgt m e d a b mk s
  | .vcmpgtu m e d a b mk => Sys2Proof.Machine.execVcmpgtu m e d a b mk s
  | .vcmpgeu m e d a b mk => Sys2Proof.Machine.execVcmpgeu m e d a b mk s
  | .vrsum m e d a mk => Sys2Proof.Machine.execVrsum m e d a mk s
  | .vrsumu m e d a mk => Sys2Proof.Machine.execVrsumu m e d a mk s
  | .vrmaxu m e d a mk => Sys2Proof.Machine.execVrmaxu m e d a mk s
  | .vrmaxi m e d a mk => Sys2Proof.Machine.execVrmaxi m e d a mk s
  | .vext m e k d a b mk => Sys2Proof.Machine.execVext m e k d a b mk s
  | .mand m e d a b => Sys2Proof.Machine.execMand m e d a b s
  | .mor m e d a b => Sys2Proof.Machine.execMor m e d a b s
  | .mxor m e d a b => Sys2Proof.Machine.execMxor m e d a b s
  | .mnot m e d a => Sys2Proof.Machine.execMnot m e d a s
  | .mtos m e d a => Sys2Proof.Machine.execMtos m e d a s
  | .stom m e d a => Sys2Proof.Machine.execStom m e d a s
  | .mpop m e d a => Sys2Proof.Machine.execMpop m e d a s
  | .srd m e d ue => Sys2Proof.Machine.execSrd m e d ue s
  | .srdr m e d ue => Sys2Proof.Machine.execSrdr m e d ue s
  | .sseek m e a b => Sys2Proof.Machine.execSseek m e a b s
  | .swr m e a b => Sys2Proof.Machine.execSwr m e a b s
  | .swrs m e a b => Sys2Proof.Machine.execSwrs m e a b s
  | .std m e d a => Sys2Proof.Machine.execStd m e d a s
  | .hist m e a b mk => Sys2Proof.Machine.execHist m e a b mk s
  | .hrd m e d a => Sys2Proof.Machine.execHrd m e d a s
  | .lcfg m e a => Sys2Proof.Machine.execLcfg m e a s
  | .lab m e a b mk => Sys2Proof.Machine.execLab m e a b mk s
  | .leol m e => Sys2Proof.Machine.execLeol m e s
  | .lrd m e d a b => Sys2Proof.Machine.execLrd m e d a b s
  | .mcfg m e a => Sys2Proof.Machine.execMcfg m e a s
  | .mom m e a b mk => Sys2Proof.Machine.execMom m e a b mk s
  | .mrd m e d b => Sys2Proof.Machine.execMrd m e d b s
  | .sparFault m e cause also => Sys2Proof.Machine.execSparFault m e cause also s
  | .watchdogExpiry m e dt commit => Sys2Proof.Machine.execWatchdogExpiry m e dt commit s
  | .spareSelftest m e dt => Sys2Proof.Machine.execSpareSelftest m e dt s
  | .selftestEnd m e pass dt => Sys2Proof.Machine.execSelftestEnd m e pass dt s
  | .shmScrub m line corrected => Sys2Proof.Machine.execShmScrub m line corrected s
  | .mastReload m dt => Sys2Proof.Machine.execMastReload m dt s
  | .fault0Read who m => Sys2Proof.Machine.execFault0Read who m s
  | .sheetRecord n mast stream record log => Sys2Proof.Machine.execSheetRecord n mast stream record log s
  | .evaluation n dt => Sys2Proof.Machine.execEvaluation n dt s
  | .missTimer n dt => Sys2Proof.Machine.execMissTimer n dt s
  | .shtStart who n => Sys2Proof.Machine.execShtStart who n s
  | .shtStop who n => Sys2Proof.Machine.execShtStop who n s
  | .resetState who n => Sys2Proof.Machine.execResetState who n s
  | .dacUpdate n dt => Sys2Proof.Machine.execDacUpdate n dt s
  | .modulationPeriod n dt => Sys2Proof.Machine.execModulationPeriod n dt s
  | .digitalWord n dt => Sys2Proof.Machine.execDigitalWord n dt s
  | .trackingUpdate n dt => Sys2Proof.Machine.execTrackingUpdate n dt s
  | .pacedPulse n dt => Sys2Proof.Machine.execPacedPulse n dt s
  | .pulseEnd n dt => Sys2Proof.Machine.execPulseEnd n dt s
  | .emitOn n dt => Sys2Proof.Machine.execEmitOn n dt s
  | .emitOff n dt => Sys2Proof.Machine.execEmitOff n dt s
  | .rotationDecide g dt => Sys2Proof.Machine.execRotationDecide g dt s
  | .beamPermitChange a b => Sys2Proof.Machine.execBeamPermitChange a b s
  | .permitDisagree dt => Sys2Proof.Machine.execPermitDisagree dt s
  | .permitFaultClear who => Sys2Proof.Machine.execPermitFaultClear who s
  | .brefl n pin => Sys2Proof.Machine.execBrefl n pin s
  | .alarm n pin => Sys2Proof.Machine.execAlarm n pin s
  | .readyLost n pin => Sys2Proof.Machine.execReadyLost n pin s
  | .wdOnTime n dt => Sys2Proof.Machine.execWdOnTime n dt s
  | .wdDwell n dt => Sys2Proof.Machine.execWdDwell n dt s
  | .wdMeter n dt => Sys2Proof.Machine.execWdMeter n dt s
  | .wdNoCopy n dt => Sys2Proof.Machine.execWdNoCopy n dt s
  | .cutClear who n bits => Sys2Proof.Machine.execCutClear who n bits s
  | .meterReading n adc => Sys2Proof.Machine.execMeterReading n adc s
  | .jumpRecord n x y z => Sys2Proof.Machine.execJumpRecord n x y z s
  | .markRecord n x y z => Sys2Proof.Machine.execMarkRecord n x y z s
  | .arcRecord n dark z cx cy sweep => Sys2Proof.Machine.execArcRecord n dark z cx cy sweep s
  | .speedRecord n vMark vJump => Sys2Proof.Machine.execSpeedRecord n vMark vJump s
  | .powerRecord n openLoop p => Sys2Proof.Machine.execPowerRecord n openLoop p s
  | .profileRecord n profile => Sys2Proof.Machine.execProfileRecord n profile s
  | .waitRecord n w timeout => Sys2Proof.Machine.execWaitRecord n w timeout s
  | .dwellRecord n us => Sys2Proof.Machine.execDwellRecord n us s
  | .meterRecord n input profile cm us => Sys2Proof.Machine.execMeterRecord n input profile cm us s
  | .eventRecord n code => Sys2Proof.Machine.execEventRecord n code s
  | .linkRecord n target => Sys2Proof.Machine.execLinkRecord n target s
  | .layerEnd n => Sys2Proof.Machine.execLayerEnd n s
  | .endRecord n => Sys2Proof.Machine.execEndRecord n s
  | .badRecord n type => Sys2Proof.Machine.execBadRecord n type s
  | .blockFetch n block errs => Sys2Proof.Machine.execBlockFetch n block errs s
  | .streamWindowWrite who n v => Sys2Proof.Machine.execStreamWindowWrite who n v s
  | .lateData n dt => Sys2Proof.Machine.execLateData n dt s
  | .shroudFrameSend n dt => Sys2Proof.Machine.execShroudFrameSend n dt s
  | .shroudFrameReceived n dt groups => Sys2Proof.Machine.execShroudFrameReceived n dt groups s
  | .shroudLost n dt => Sys2Proof.Machine.execShroudLost n dt s
  | .clearanceCheck dt => Sys2Proof.Machine.execClearanceCheck dt s
  | .rampOffEnd n dt => Sys2Proof.Machine.execRampOffEnd n dt s
  | .decelEnd n dt => Sys2Proof.Machine.execDecelEnd n dt s
  | .backupEnd n dt => Sys2Proof.Machine.execBackupEnd n dt s
  | .refireHoldEnd n dt => Sys2Proof.Machine.execRefireHoldEnd n dt s
  | .reentryEnd n dt => Sys2Proof.Machine.execReentryEnd n dt s
  | .rampOnEnd n dt => Sys2Proof.Machine.execRampOnEnd n dt s
  | .rotationHoldEnd n dt => Sys2Proof.Machine.execRotationHoldEnd n dt s
  | .dwellEnd n => Sys2Proof.Machine.execDwellEnd n s
  | .waitTimeout n => Sys2Proof.Machine.execWaitTimeout n s
  | .scnStart who n => Sys2Proof.Machine.execScnStart who n s
  | .scnStop who n => Sys2Proof.Machine.execScnStop who n s
  | .restartAtStop who n => Sys2Proof.Machine.execRestartAtStop who n s
  | .restartNextRecord who n => Sys2Proof.Machine.execRestartNextRecord who n s
  | .restartNextLayer who n => Sys2Proof.Machine.execRestartNextLayer who n s
  | .layerBarrier late => Sys2Proof.Machine.execLayerBarrier late s
  | .calibRecord record => Sys2Proof.Machine.execCalibRecord record s
  | .strobeStart n dt => Sys2Proof.Machine.execStrobeStart n dt s
  | .strobeEnd n dt => Sys2Proof.Machine.execStrobeEnd n dt s
  | .dimPulse n dt => Sys2Proof.Machine.execDimPulse n dt s
  | .diagWindow n dt im uv atLimit => Sys2Proof.Machine.execDiagWindow n dt im uv atLimit s
  | .lightFault n dt current => Sys2Proof.Machine.execLightFault n dt current s
  | .lightFaultClear who n bits persist => Sys2Proof.Machine.execLightFaultClear who n bits persist s
  | .verdictDue n dt => Sys2Proof.Machine.execVerdictDue n dt s
  | .diagPulse n dt => Sys2Proof.Machine.execDiagPulse n dt s
  | .undiagnosed n dt => Sys2Proof.Machine.execUndiagnosed n dt s
  | .vfTest who n => Sys2Proof.Machine.execVfTest who n s
  | .vfPeriod dt => Sys2Proof.Machine.execVfPeriod dt s
  | .vfTestEnd n dt uv => Sys2Proof.Machine.execVfTestEnd n dt uv s
  | .projSwap who => Sys2Proof.Machine.execProjSwap who s
  | .refreshFrameStart dt => Sys2Proof.Machine.execRefreshFrameStart dt s
  | .scanLine dt => Sys2Proof.Machine.execScanLine dt s
  | .projSync dt rising => Sys2Proof.Machine.execProjSync dt rising s
  | .frameBufferWrite who fb word v => Sys2Proof.Machine.execFrameBufferWrite who fb word v s
  | .defectMapWrite who word v => Sys2Proof.Machine.execDefectMapWrite who word v s
  | .pixTest who => Sys2Proof.Machine.execPixTest who s
  | .pixelJudge dt current volt => Sys2Proof.Machine.execPixelJudge dt current volt s
  | .lumSeqEnd => Sys2Proof.Machine.execLumSeqEnd s
  | .lumSeqLevel n level host => Sys2Proof.Machine.execLumSeqLevel n level host s
  | .lumSeqStrobe mask => Sys2Proof.Machine.execLumSeqStrobe mask s
  | .loadpat slot => Sys2Proof.Machine.execLoadpat slot s
  | .loadpatDone dt => Sys2Proof.Machine.execLoadpatDone dt s
  | .lumSeqSwap wait => Sys2Proof.Machine.execLumSeqSwap wait s
  | .waithal task => Sys2Proof.Machine.execWaithal task s
  | .waitus us => Sys2Proof.Machine.execWaitus us s
  | .waitusEnd dt => Sys2Proof.Machine.execWaitusEnd dt s
  | .lumSeqEvent code => Sys2Proof.Machine.execLumSeqEvent code s
  | .lumSeqLoop body count => Sys2Proof.Machine.execLumSeqLoop body count s
  | .lumSeqJump word => Sys2Proof.Machine.execLumSeqJump word s
  | .lumSeqReserved => Sys2Proof.Machine.execLumSeqReserved s
  | .eventDelivery h h2 met => Sys2Proof.Machine.execEventDelivery h h2 met s
  | .halPublish who v => Sys2Proof.Machine.execHalPublish who v s
  | .halGroupCmd who v met => Sys2Proof.Machine.execHalGroupCmd who v met s
  | .halSubWrite who t v => Sys2Proof.Machine.execHalSubWrite who t v s
  | .halProdBindWrite who p v => Sys2Proof.Machine.execHalProdBindWrite who p v s
  | .halSeqCmd who v => Sys2Proof.Machine.execHalSeqCmd who v s
  | .halSeqEnd q => Sys2Proof.Machine.execHalSeqEnd q s
  | .pub q halyard code => Sys2Proof.Machine.execPub q halyard code s
  | .delay q us => Sys2Proof.Machine.execDelay q us s
  | .delayEnd q => Sys2Proof.Machine.execDelayEnd q s
  | .halSeqWait q us => Sys2Proof.Machine.execHalSeqWait q us s
  | .halSeqWaitTimeout q => Sys2Proof.Machine.execHalSeqWaitTimeout q s
  | .gen q mask met => Sys2Proof.Machine.execGen q mask met s
  | .gdis q mask => Sys2Proof.Machine.execGdis q mask s
  | .halSeqLoop q body count => Sys2Proof.Machine.execHalSeqLoop q body count s
  | .halSeqJump q word => Sys2Proof.Machine.execHalSeqJump q word s
  | .halSeqReserved q => Sys2Proof.Machine.execHalSeqReserved q s
  | .perstN => Sys2Proof.Machine.execPerstN s
  | .hotReset => Sys2Proof.Machine.execHotReset s
  | .dlDown => Sys2Proof.Machine.execDlDown s
  | .configRequest write off be v tlp => Sys2Proof.Machine.execConfigRequest write off be v tlp s
  | .bar4Access write off len data tlp => Sys2Proof.Machine.execBar4Access write off len data tlp s
  | .msixUnmask v => Sys2Proof.Machine.execMsixUnmask v s
  | .completion tag status data tlp met => Sys2Proof.Machine.execCompletion tag status data tlp met s
  | .completionTimeout tag dt met => Sys2Proof.Machine.execCompletionTimeout tag dt met s
  | .tagRelease tag dt => Sys2Proof.Machine.execTagRelease tag dt s
  | .busMasterDisable d3hot met => Sys2Proof.Machine.execBusMasterDisable d3hot met s
  | .busMasterEnable d0 met => Sys2Proof.Machine.execBusMasterEnable d0 met s
  | .flr => Sys2Proof.Machine.execFlr s
  | .flrDrainEnd dt => Sys2Proof.Machine.execFlrDrainEnd dt s
  | .flrDone dt => Sys2Proof.Machine.execFlrDone dt s
  | .l0sEntry dt => Sys2Proof.Machine.execL0sEntry dt s
  | .l1Entry dt => Sys2Proof.Machine.execL1Entry dt s
  | .descriptorLoad n errs => Sys2Proof.Machine.execDescriptorLoad n errs s
  | .burst n dt errs => Sys2Proof.Machine.execBurst n dt errs s
  | .readBackDone n errs => Sys2Proof.Machine.execReadBackDone n errs s
  | .linkReread n errs => Sys2Proof.Machine.execLinkReread n errs s
  | .dmaDoorbell who n => Sys2Proof.Machine.execDmaDoorbell who n s
  | .dmaStart who n => Sys2Proof.Machine.execDmaStart who n s
  | .dmaStop who n => Sys2Proof.Machine.execDmaStop who n s
  | .dmaAbort who n => Sys2Proof.Machine.execDmaAbort who n s
  | .queueItem q source pri words data meet upset => Sys2Proof.Machine.execQueueItem q source pri words data meet upset s
  | .queRdHead who q bad upset => Sys2Proof.Machine.execQueRdHead who q bad upset s
  | .queRdData who q => Sys2Proof.Machine.execQueRdData who q s
  | .dropRest who q => Sys2Proof.Machine.execDropRest who q s
  | .queueFlush who q => Sys2Proof.Machine.execQueueFlush who q s
  | .queWrHead who q v => Sys2Proof.Machine.execQueWrHead who q v s
  | .queWrData who q v => Sys2Proof.Machine.execQueWrData who q v s
  | .drainItem n dt bad => Sys2Proof.Machine.execDrainItem n dt bad s
  | .timeStep who => Sys2Proof.Machine.execTimeStep who s
  | .timSwitch who met => Sys2Proof.Machine.execTimSwitch who met s
  | .sync p dt m met => Sys2Proof.Machine.execSync p dt m met s
  | .followUp p m met => Sys2Proof.Machine.execFollowUp p m met s
  | .announce p dt m => Sys2Proof.Machine.execAnnounce p dt m s
  | .delayReq p dt m => Sys2Proof.Machine.execDelayReq p dt m s
  | .delayResp p m => Sys2Proof.Machine.execDelayResp p m s
  | .pdelayReq p dt m => Sys2Proof.Machine.execPdelayReq p dt m s
  | .pdelayResp p dt m => Sys2Proof.Machine.execPdelayResp p dt m s
  | .pdelayRespFollowUp p m => Sys2Proof.Machine.execPdelayRespFollowUp p m s
  | .syncSend d p dt => Sys2Proof.Machine.execSyncSend d p dt s
  | .announceSend d p dt => Sys2Proof.Machine.execAnnounceSend d p dt s
  | .delayReqSend d p dt => Sys2Proof.Machine.execDelayReqSend d p dt s
  | .syncLossTimeout d dt => Sys2Proof.Machine.execSyncLossTimeout d dt s
  | .announceReceiptTimeout d p dt => Sys2Proof.Machine.execAnnounceReceiptTimeout d p dt s
  | .portLinkChange p up modAbs los txFault => Sys2Proof.Machine.execPortLinkChange p up modAbs los txFault s
  | .moduleInsert p data => Sys2Proof.Machine.execModuleInsert p data s
  | .modulePoll p dt data => Sys2Proof.Machine.execModulePoll p dt data s
  | .scheduleArm who k v => Sys2Proof.Machine.execScheduleArm who k v s
  | .scheduleDisarm who k v => Sys2Proof.Machine.execScheduleDisarm who k v s
  | .scheduleFire k dt => Sys2Proof.Machine.execScheduleFire k dt s
  | .toutPulseEnd k dt => Sys2Proof.Machine.execToutPulseEnd k dt s
  | .capSecLoRead who k => Sys2Proof.Machine.execCapSecLoRead who k s
  | .nowSecLoRead who => Sys2Proof.Machine.execNowSecLoRead who s
  | .ringMessage r dt nibs => Sys2Proof.Machine.execRingMessage r dt nibs s
  | .ringSend who r v => Sys2Proof.Machine.execRingSend who r v s
  | .ringSendTimeout r dt => Sys2Proof.Machine.execRingSendTimeout r dt s
  | .bypassOpen r dt => Sys2Proof.Machine.execBypassOpen r dt s
  | .loadStart dt d0 d1 dimms => Sys2Proof.Machine.execLoadStart dt d0 d1 dimms s
  | .loadEnd dt failed => Sys2Proof.Machine.execLoadEnd dt failed s
  | .erase who dev => Sys2Proof.Machine.execErase who dev s
  | .programBuf who dev => Sys2Proof.Machine.execProgramBuf who dev s
  | .copyStore who dev => Sys2Proof.Machine.execCopyStore who dev s
  | .verify who dev => Sys2Proof.Machine.execVerify who dev s
  | .bootSwitch who dev => Sys2Proof.Machine.execBootSwitch who dev s
  | .cancelSwitch who dev => Sys2Proof.Machine.execCancelSwitch who dev s
  | .burnSvn who dev => Sys2Proof.Machine.execBurnSvn who dev s
  | .retire who dev => Sys2Proof.Machine.execRetire who dev s
  | .bootReservedOp who op => Sys2Proof.Machine.execBootReservedOp who op s
  | .flashOpDone dt errs => Sys2Proof.Machine.execFlashOpDone dt errs s
  | .stagingDone dt => Sys2Proof.Machine.execStagingDone dt s
  | .mbxOpen v => Sys2Proof.Machine.execMbxOpen v s
  | .mbxProof v => Sys2Proof.Machine.execMbxProof v s
  | .mbxClose v => Sys2Proof.Machine.execMbxClose v s
  | .challengeLapse slot dt => Sys2Proof.Machine.execChallengeLapse slot dt s
  | .lockoutEnd mailbox dt => Sys2Proof.Machine.execLockoutEnd mailbox dt s
  | .dgramOpen p dt data => Sys2Proof.Machine.execDgramOpen p dt data s
  | .dgramProof p dt data => Sys2Proof.Machine.execDgramProof p dt data s
  | .dgramAccess p dt data => Sys2Proof.Machine.execDgramAccess p dt data s
  | .dgramClose p dt data => Sys2Proof.Machine.execDgramClose p dt data s
  | .keepalive p dt data => Sys2Proof.Machine.execKeepalive p dt data s
  | .arpRequest p addr => Sys2Proof.Machine.execArpRequest p addr s
  | .neighbourSolicitation p addr => Sys2Proof.Machine.execNeighbourSolicitation p addr s
  | .sessionIdleTimeout slot dt => Sys2Proof.Machine.execSessionIdleTimeout slot dt s
  | .recordingBoundary who late => Sys2Proof.Machine.execRecordingBoundary who late s
  | .requestIdle who met => Sys2Proof.Machine.execRequestIdle who met s
  | .requestAcquire who met => Sys2Proof.Machine.execRequestAcquire who met s
  | .requestBuild who met => Sys2Proof.Machine.execRequestBuild who met s
  | .requestService who met => Sys2Proof.Machine.execRequestService who met s
  | .requestInvalidMode who mode => Sys2Proof.Machine.execRequestInvalidMode who mode s
  | .modeTransitionDone dt still => Sys2Proof.Machine.execModeTransitionDone dt still s
  | .domainOn who d => Sys2Proof.Machine.execDomainOn who d s
  | .domainOff who d => Sys2Proof.Machine.execDomainOff who d s
  | .wakeStart dt => Sys2Proof.Machine.execWakeStart dt s
  | .powerGood d dt => Sys2Proof.Machine.execPowerGood d dt s
  | .supplyWarning dt mv => Sys2Proof.Machine.execSupplyWarning dt mv s
  | .supplyReset rail => Sys2Proof.Machine.execSupplyReset rail s
  | .resetNAssert rail => Sys2Proof.Machine.execResetNAssert rail s
  | .reefRecovery dt mv => Sys2Proof.Machine.execReefRecovery dt mv s
  | .reefBufferEmpty dt => Sys2Proof.Machine.execReefBufferEmpty dt s
  | .reefTimeout dt => Sys2Proof.Machine.execReefTimeout dt s
  | .helmMiscompare core dt => Sys2Proof.Machine.execHelmMiscompare core dt s
  | .resyncDone core dt => Sys2Proof.Machine.execResyncDone core dt s
  | .dualMiscompare => Sys2Proof.Machine.execDualMiscompare s
  | .helmWatchdog dt => Sys2Proof.Machine.execHelmWatchdog dt s
  | .hlmWdt who v => Sys2Proof.Machine.execHlmWdt who v s
  | .helmMemoryUe checkpoint => Sys2Proof.Machine.execHelmMemoryUe checkpoint s
  | .replayEnd dt => Sys2Proof.Machine.execReplayEnd dt s
  | .softReset who => Sys2Proof.Machine.execSoftReset who s
  | .encoderEdge n dt a b held => Sys2Proof.Machine.execEncoderEdge n dt a b held s
  | .zEdge n dt edge held => Sys2Proof.Machine.execZEdge n dt edge held s
  | .encoderCountWrite who n v z edge => Sys2Proof.Machine.execEncoderCountWrite who n v z edge s
  | .ssiReadStart a dt idle => Sys2Proof.Machine.execSsiReadStart a dt idle s
  | .ssiReadEnd a dt data low => Sys2Proof.Machine.execSsiReadEnd a dt data low s
  | .pathLoRead who n => Sys2Proof.Machine.execPathLoRead who n s
  | .cdrLockLost n => Sys2Proof.Machine.execCdrLockLost n s
  | .shroudSyncLost n => Sys2Proof.Machine.execShroudSyncLost n s
  | .pcieLinkUp speed width => Sys2Proof.Machine.execPcieLinkUp speed width s
  | .unsupportedRequest posted header => Sys2Proof.Machine.execUnsupportedRequest posted header s
  | .checkerLock n bits => Sys2Proof.Machine.execCheckerLock n bits s

end Sys2Proof.Machine
end

