-- ==== Sys2Proof/Machine/Step.lean ====
section
/-!
DEFINITION. One step: the command at the front of the queue, or one fine count with no command.
-/

namespace Sys2Proof.Machine

/-- The step on an empty queue (DESIGN CHOICE, log entry 30): one fine count passes, the helm takes what waits for it
(`State.helmTakes`), and mailbox requests whose spacing has passed start. -/
def State.idle (s : State) : State := ((s.advance 1).helmTakes).ctlStartAll

/-- One step: `exec` on the command at the front with the rest of the queue. -/
def step (s : State) : Host.Outcome State Fault Refusal :=
  match s.pending with
  | [] => .next s.idle
  | c :: rest => exec c { s with pending := rest }

/-- The state with the command that a word spells put at the front of its queue. -/
def State.withFetchWord (s : State) (nbits w : Nat) : State :=
  match decodeTableWord nbits w with
  | some c => { s with pending := c :: s.pending }
  | none => s

end Sys2Proof.Machine
end

