-- ==== Sys2Proof/Safety.lean ====
section
/-!
DEFINITION. The terms the statements use: that a meaning answers a next state, which parts of the state and which registers
an operation may change, and the canonical form of the memories and of the register file.
-/

namespace Sys2Proof.Machine

/-- The meaning answers a next state, and `P` holds of it. -/
def Answers (o : Res) (P : State → Prop) : Prop := ∃ t, o = .next t ∧ P t

/-- The parts of the state other than the register file: each field of `State`, with configuration space, the DDR4 bytes and
the flash bytes as parts of their own beside the rest of their units. -/
inductive Part where
  | variant | fuse | fine | bar0 | staged | outbox | freeCtr | lnk | port | cap | capt | mst | sht | bch | beams
  | scn | cal | lum | proj | hal | pceCfg | pce | dma | que | ddr | fst | ses | flash | boot | tim | enc | ssi | helm
  | pwr | pending
  deriving DecidableEq, Repr

/-- A part is the same in both states. -/
def Part.same (p : Part) (s t : State) : Prop :=
  match p with
  | .variant => t.variant = s.variant
  | .fuse => t.fuse = s.fuse
  | .fine => t.fine = s.fine
  | .bar0 => t.bar0 = s.bar0
  | .staged => t.staged = s.staged
  | .outbox => t.outbox = s.outbox
  | .freeCtr => t.freeCtr = s.freeCtr
  | .lnk => t.lnk = s.lnk
  | .port => t.port = s.port
  | .cap => t.cap = s.cap
  | .capt => t.capt = s.capt
  | .mst => t.mst = s.mst
  | .sht => t.sht = s.sht
  | .bch => t.bch = s.bch
  | .beams => t.beams = s.beams
  | .scn => t.scn = s.scn
  | .cal => t.cal = s.cal
  | .lum => t.lum = s.lum
  | .proj => t.proj = s.proj
  | .hal => t.hal = s.hal
  | .pceCfg => t.pce.cfg = s.pce.cfg
  | .pce => { t.pce with cfg := [] } = { s.pce with cfg := [] }
  | .dma => t.dma = s.dma
  | .que => t.que = s.que
  | .ddr => t.fst.ddr = s.fst.ddr
  | .fst => { t.fst with ddr := [] } = { s.fst with ddr := [] }
  | .ses => t.ses = s.ses
  | .flash => t.boot.flash = s.boot.flash
  | .boot => { t.boot with flash := [] } = { s.boot with flash := [] }
  | .tim => t.tim = s.tim
  | .enc => t.enc = s.enc
  | .ssi => t.ssi = s.ssi
  | .helm => t.helm = s.helm
  | .pwr => t.pwr = s.pwr
  | .pending => t.pending = s.pending

/-! ### The canonical form -/

/-- What the register with a given key of the register file holds after reset. -/
def keyReset (k : Nat) : Word := (Reg.ofNat k.unpair.1).resetAt k.unpair.2.unpair.2

/-- A table in rising key order in which no entry is equal to what its key reads as when unlisted. -/
def canonBy (d : Nat → Word) (t : Tbl Word) : Prop := t.Pairwise (fun a b => a.1 < b.1) ∧ ∀ e ∈ t, e.2 ≠ d e.1

/-- The memory is in its one canonical form: the DDR4 bytes (an unlisted byte reads 0), the flash bytes (an unlisted byte
reads 0xFF), the BAR0 memories and the register file. -/
def State.canonical (s : State) : Prop :=
  tblWf 0 s.fst.ddr = true ∧ tblWf 0xFF s.boot.flash = true ∧ canonBy memReset s.bar0 ∧ canonBy keyReset s.regs

/-! ### What an operation may change -/

/-- From `s` to `t` no part changes but those of `P` and no register but those of `R`, and the canonical form is kept. -/
structure Changes (P : List Part) (R : List Reg) (s t : State) : Prop where
  /-- Every part outside `P` is the same. -/
  parts : ∀ p, p ∉ P → p.same s t
  /-- Every register outside `R` holds what it held, in every instance. -/
  regs : ∀ r, r ∉ R → ∀ i j, t.rd r i j = s.rd r i j
  /-- The canonical form is kept. -/
  canonical : s.canonical → t.canonical

/-- The register `r` holds what it held in every instance but `n`. -/
def OnlyAt (r : Reg) (n : Nat) (s t : State) : Prop := ∀ i j, i ≠ n → t.rd r i j = s.rd r i j

/-- The counter `r[i]` has counted `k` more from `s` to `t`; it saturates at 0xFFFF_FFFF. -/
def Counted (r : Reg) (i : Nat) (s t : State) (k : Nat := 1) : Prop :=
  t.rd r i = BitVec.ofNat 32 (min ((s.rd r i).toNat + k) 0xFFFFFFFF)

/-- From `s` to `t` exactly `o` has left the block, after what had left it before. -/
def Emits (o : List Out) (s t : State) : Prop := t.outbox = s.outbox ++ o

/-- A write of `r[i]` by this requester acts: no FLR keeps it out (R425), the unit answers (R403), the instance is present
(R5) and the level suffices (R411, R502). -/
def State.mayWrite (s : State) (who : Requester) (r : Reg) (i : Nat) : Bool :=
  !s.flrBars who && s.unitOpen r.info.unit && regPresent s.variant r i && decide (r.info.level ≤ s.levelOf who)

/-- A read of instance `i` of a unit by this requester acts: no FLR keeps it out, the unit answers, the instance is present and
the level `lvl` suffices. -/
def State.mayRead (s : State) (who : Requester) (unit i lvl : Nat) : Bool :=
  !s.flrBars who && s.unitOpen unit && unitPresent s.variant unit i && decide (lvl ≤ s.levelOf who)

/-- Every register. -/
def allRegs : List Reg := (List.range 1024).map Reg.ofNat

end Sys2Proof.Machine
end

