-- ==== Sys2Proof/Terms.lean ====
section
/-!
DEFINITION. The words of the statements: when a command acts, and which parts and registers each command may change.
-/

namespace Sys2Proof.Machine

/-- What lane `n` takes from a block with its polarity, as the bytes of a control block (R45, R46). -/
def State.ctlOf (s : State) (n : Nat) (blk : LineBlock) : List Byte := (s.rxBlock n blk).1.ctl

/-- Lane `n` has block lock and takes `blk` as a training block with message `msg` whose CRC checks (R60). -/
def State.takesTraining (s : State) (n : Nat) (blk : LineBlock) (msg : Nat) : Bool :=
  s.laneRuns n && s.flag F.LNK_STATUS_BLOCK_LOCK n && (s.rxBlock n blk).1.hdr == 1 && fieldLE (s.ctlOf n blk) 0 1 == 0x33 &&
    crcOk (s.ctlOf n blk) 9 && fieldLE (s.ctlOf n blk) 1 1 == msg

/-- The multiple of CAP_PATH_PITCH that the path of port `p`'s beam has reached at instant `at0` (R116). -/
def State.passNow (s : State) (p at0 : Nat) : Nat :=
  let x := s.bc (s.fld F.CAP_TRIG_CFG_SRC_INDEX p)
  ((x.pathFrom at0 - if s.flag F.CAP_TRIG_CFG_MARKS_ONLY p then x.dark else 0) /
    (65536 * min 10000000 (max 1000 (s.rd .CAP_PATH_PITCH p).toNat) : Nat)).toNat

/-- A packet of `len` payload bytes on the stream of port `p` has a good header: LENGTH is within its limit and no byte of it is
erased (R97, R99). -/
def State.headOk (s : State) (p len : Nat) : Bool := decide (len ≤ 16384) && !((s.stream p).take 8).any (fun b => b.1 = 2)

/-- The registers whose write does more than R17 states for its fields: commands, capture selectors and the like. -/
def ownWrite : List Reg :=
  [.LNK_CTRL, .LNK_PATTERN, .LNK_USER_WORD, .LNK_INJECT, .CAP_CTRL_CMD, .CAP_CTRL_ADDR, .CAP_TRIG_CFG, .CAP_ENC_CMP_CFG, .CAP_ENC_COUNT, .FST_MARK_CMD,
   .FST_SPAN_CMD, .SHT_CMD, .BCH_FAULT, .BCH_PERMIT, .SCN_CMD, .LUM_CH_CFG, .LUM_CH_FAULT, .LUM_CH_CMD, .LUM_PROJ_CMD, .HAL_PUBLISH] ++
  [.HAL_GROUP_CMD, .HAL_SUB, .HAL_PROD_BIND, .HAL_SEQ_CMD, .DMA_CFG, .DMA_CMD, .DMA_DOORBELL, .QUE_CMD, .QUE_WR_HEAD, .QUE_WR_DATA, .TIM_CMD,
   .TIM_SCH_CFG, .TIM_RING_SEND, .HLM_WDT, .PWR_MODE_REQ, .PWR_DOM_CMD, .PWR_CMD, .BOOT_CMD, .BOOT_COMMIT, .BOOT_MBX_CMD]

/-- The registers whose read does more than R17 states: it latches a partner, takes an item or refills a bucket. -/
def ownRead : List Reg :=
  [.LNK_BER_BITS_LO, .CAP_FRAME_NUM_LO, .MST_FAULT0, .SCN_PATH_LO, .QUE_RD_HEAD, .QUE_RD_DATA, .TIM_NOW_SEC_LO, .TIM_CAP_SEC_LO, .PWR_INRUSH_LEVEL]

/-- The state in which an access of a requester acts: one by the host has woken the link (R427). -/
def State.heard (s : State) (who : Requester) : State := if who = .mailbox then s.linkWake else s

/-- A BAR0 word address that lies on register `r[i][j]` and on no memory. -/
def onReg (write : Bool) (a : Nat) (r : Reg) (i j : Nat) : Bool :=
  a % 4 == 0 && !inDesc a && (memAt write a).isNone && regAt a == some (r, i, j)

/-- A datagram on port `p`, `dt` from now, is `g` of the given type for the session in slot `i`, with a tag that checks and a SEQ
that has not been used (R499, R500). -/
def State.dgTakes (s : State) (p dt type : Nat) (data : List Byte) (i : Nat) (g : Dgram) : Bool :=
  let s := s.advance dt
  s.netUp p && natBit (s.rd .SES_ETH_CFG).toNat p && parseDgram data == some g && g.type == type &&
    (List.range 4).find? (fun i => (s.slot i).level != 0 && (s.slot i).sid == g.sid) == some i &&
    hmac (s.slot i).key g.signed == g.tail && decide ((s.slot i).seq < g.seq)

/-- The state in which a new tagged datagram acts: its SEQ is the last of its session, heard now on port `p`. -/
def State.dgTaken (s : State) (p dt i : Nat) (g : Dgram) : State :=
  let s := s.advance dt
  s.setSlot i { s.slot i with seq := g.seq, req := bytesLE 1 g.type ++ g.body, resp := [], seen := s.fine, net := p }

/-! ### Spars -/

/-- Where the program counter is after it moves to `pc`, loops included (R203). -/
def Spar.pcAt (x : Spar) (pc : Int) : Int := (loopPc pc x.loops).1

/-- An address of an instruction in program memory (R206). -/
def inProgram (pc : Int) : Bool := decide (0 ≤ pc) && decide (pc < 0x8000)

/-- Engine `e` of mast `m` runs `r`, its program holds instruction `i` at the program counter (R200), and the next instruction lies in
program memory. -/
def State.sparRuns (s : State) (m : Fin 16) (e : Fin 66) (r : Run) (i : Instr) : Bool :=
  s.runOf m e == some r && s.sparAt m e r == some i && inProgram (r.spar.pcAt (r.spar.pc + 4))

/-- From `s` to `t` the run `r` alone has gone on: its spar is `y`, and it does not stand still on word 8 of the descriptor. -/
def State.sparNow (s : State) (m : Nat) (r : Run) (t : State) (y : Spar) : Prop :=
  t = s.setRun m { r with spar := y, waited := r.waitedAt s.fine, waitFrom := none }

/-- The same with its registers as in `y` and the program counter moved to `pc`. -/
def State.sparGoes (s t : State) (m : Nat) (r : Run) (y : Spar) (pc : Int) : Prop := s.sparNow m r t (y.goto pc)

/-- The same with the program counter at the next instruction. -/
def State.sparThen (s t : State) (m : Nat) (r : Run) (y : Spar) : Prop := s.sparGoes t m r y (r.spar.pc + 4)

/-- The run of engine `e` of mast `m` has ended with ILLEGAL, which MST_CNT_PROG_FAULT counts (R215). -/
def State.sparIllegal (s t : State) (m e : Nat) : Prop := t.runOf m e = none ∧ Counted .MST_CNT_PROG_FAULT m s t

/-- From `x` to `y` only scalar register `d` (s0 reads zero) and the four flags can differ, and `d` holds `v`. -/
def Spar.Result (x y : Spar) (d : Nat) (v : Word) : Prop :=
  y.s d = (if d = 0 then 0 else v) ∧ (∀ k, k ≠ d → y.s k = x.s k) ∧ { y with sreg := x.sreg, z := x.z, n := x.n, c := x.c, v := x.v } = x

/-- The four flags of a spar. -/
def Spar.Flags (y : Spar) (z n c v : Bool) : Prop := y.z = z ∧ y.n = n ∧ y.c = c ∧ y.v = v

/-- Lane `i` of a vector (R200). -/
def lane16 (v : Vec) (i : Nat) : BitVec 16 := v.extractLsb' (16 * i) 16

/-- From `x` to `y` only vector register `d` can differ: its lanes in m[mk] hold `f`, the others what they held. -/
def Spar.Lanes (x y : Spar) (d mk : Nat) (f : Nat → BitVec 16) : Prop :=
  (∀ i < 32, lane16 (y.vec d) i = if x.on mk i then f i else lane16 (x.vec d) i) ∧ (∀ k < 32, k ≠ d → y.vec k = x.vec k) ∧
    { y with vreg := x.vreg } = x

/-- The same for the values `f` saturated to `lo` to `hi`; SAT is set where a lane in m[mk] saturated, and stays set. -/
def Spar.SatLanes (x y : Spar) (d mk : Nat) (lo hi : Int) (f : Nat → Int) : Prop :=
  x.Lanes { y with sat := x.sat } d mk (fun i => BitVec.ofInt 16 (max lo (min hi (f i)))) ∧
    (y.sat ↔ x.sat ∨ ∃ i < 32, x.on mk i ∧ (f i < lo ∨ hi < f i))

/-- Lane `i` of the pair (v[k], v[k + 1]) (R200). -/
def Spar.pair32 (x : Spar) (k i : Nat) : BitVec 32 := lane16 (x.vec (k + 1)) i ++ lane16 (x.vec k) i

/-- From `x` to `y` only the pair of vector registers `d` and `d + 1` can differ: its lanes in m[mk] hold `f`. -/
def Spar.Pairs (x y : Spar) (d mk : Nat) (f : Nat → BitVec 32) : Prop :=
  (∀ i < 32, y.pair32 d i = if x.on mk i then f i else x.pair32 d i) ∧ (∀ k < 32, k ≠ d → k ≠ d + 1 → y.vec k = x.vec k) ∧
    { y with vreg := x.vreg } = x

/-- Lane `i` of acc[k mod 4] (R196). -/
def Spar.acc48 (x : Spar) (k i : Nat) : BitVec 48 := (tblGet 0 x.acc (k % 4)).extractLsb' (48 * i) 48

/-- From `x` to `y` only acc[d mod 4] can differ: its lanes in m[mk] hold `f`. -/
def Spar.Accs (x y : Spar) (d mk : Nat) (f : Nat → BitVec 48) : Prop :=
  (∀ i < 32, y.acc48 d i = if x.on mk i then f i else x.acc48 d i) ∧ (∀ k < 4, k ≠ d % 4 → tblGet 0 y.acc k = tblGet 0 x.acc k) ∧
    { y with acc := x.acc } = x

/-- From `x` to `y` only mask register `d` can differ: bit `i` of it is `f i` (m0 stays all ones). -/
def Spar.MaskIs (x y : Spar) (d : Nat) (f : Nat → Bool) : Prop :=
  (∀ i < 32, (y.m d).getLsbD i = if d = 0 then true else f i) ∧ (∀ k, k ≠ d → y.m k = x.m k) ∧ { y with mask := x.mask } = x

/-! ### Sheets, beams and interpreters -/

/-- Beam `n` is present in a block that is ready. -/
def State.beamRuns (s : State) (n : Nat) : Bool := s.hasBeam n && s.ready

/-- The block `dt` from now, with the planned motion of beam `n` executed up to then (R315). -/
def State.beamThen (s : State) (n dt : Nat) : State := (s.advance dt).refresh n

/-- The pulse position of beam `n` that follows the last one in its direction of motion: a multiple of the pitch plus the offset of
the direction, in 2^-16 nm (R282, R284). -/
def State.pulsePos (s : State) (n : Nat) : Int :=
  let pitch : Int := (min 10000000 (max 1000 (s.fld F.BCH_PITCH_PITCH n)) : Nat)
  let ofs := clampInt (-10000000) 10000000 (s.sgn .BCH_PATH_OFS n (s.fld F.BCH_STATUS_DIR n)) * 65536
  let last := (s.bc n).lastPos
  if s.goesDown n then ofs - ((ofs - last) / (pitch * 65536) + 1) * (pitch * 65536)
  else ofs + ((last - ofs) / (pitch * 65536) + 1) * (pitch * 65536)

/-- The edge of the pulse at that position: when the path reaches it, with the time offset of the direction (R282, R284). -/
def State.pulseEdge (s : State) (n : Nat) : Nat :=
  (((s.bc n).crossAt (s.pulsePos n) s.fine : Int) + sext 16 (s.fld F.BCH_TIME_OFS_OFS n (s.fld F.BCH_STATUS_DIR n))).toNat

/-- Whether beam `n` emits in paced firing with no hold, reversal or pause (R282, R283). -/
def State.paces (s : State) (n : Nat) : Bool :=
  s.flag F.BCH_CFG_FIRE_MODE n && s.flag F.BCH_STATUS_EMIT n && !s.flag F.BCH_STATUS_HELD n && !(s.bc n).past && !(s.sc n).inPause

/-- Whether a turn-on of beam `n` awaits a grant of its rotation group (R286). -/
def State.rotWaits (s : State) (n : Nat) : Bool :=
  (tblGet [] s.beams.reqs (s.fld F.BCH_CFG_ROT_GROUP n)).any (fun r => r.beam == n && decide (r.tp ≤ s.fine))

/-! ### Scan programs -/

/-- The state in which the planner of interpreter `n` takes its next record ahead of the motion (R313). -/
def State.planner (s : State) (n : Nat) : State := (s.refresh n).awaitPlanner n

/-- The state in which it takes a record that runs at rest, its motion complete (R317, R341). -/
def State.atRest (s : State) (n : Nat) : State := ((s.refresh n).finishPlan n).awaitPlanner n

/-- Whether records are skipped up to the next LAYER_END (R340). -/
def State.skips (s : State) (n : Nat) : Bool := (s.sc n).skip

/-- The planner takes records, and the next one has come, unspoilt, and is the one that `i` executes; its stream has not overflowed
and it does not wait for late data in a chain (R309, R311, R313). -/
def State.nextGood (s : State) (n : Fin 12) (i : Instr) : Bool :=
  s.planning n && s.nextIs n i && (s.flag F.SCN_CFG_SRC n || !(s.sc n).badBlocks.contains ((s.sc n).pc / 256)) && !(s.sc n).overflow &&
    !s.flag F.SCN_STATUS_CAUSE_LATE n

/-- Interpreter `n` plans the record that `i` executes ahead of the motion. -/
def State.plans (s : State) (n : Fin 12) (i : Instr) : Bool :=
  s.beamRuns n && (s.refresh n).planning n && (s.planner n).nextGood n i && !(s.planner n).planFull n && !(s.planner n).skips n

/-- Interpreter `n` comes to rest, with no pause, and takes the record that `i` executes; one that is skipped acts as LAYER_END alone. -/
def State.rests (s : State) (n : Fin 12) (i : Instr) : Bool :=
  s.beamRuns n && (s.refresh n).planning n && !(s.refresh n).flag F.SCN_STATUS_CAUSE_LATE n && (s.atRest n).nextGood n i &&
    ((s.atRest n).sc n).plan.isEmpty && ((s.atRest n).sc n).pause.isNone && (s.atRest n).scnState n != scnPaused

/-- The last piece of the plan of interpreter `n`. -/
def State.lastPiece (s : State) (n : Nat) : Seg := (s.sc n).plan.getLastD {}

/-- From `u` to `t` the plan has gained one piece, of the next record, and the planner is busy for 32 ns. -/
def State.planned (u t : State) (n : Nat) : Prop :=
  (t.sc n).plan = (u.sc n).plan ++ [t.lastPiece n] ∧ (t.lastPiece n).idx = (u.sc n).nextIdx ∧ (t.lastPiece n).t0 = u.planFrom n ∧
    (t.sc n).nextIdx = (u.sc n).nextIdx + 1 ∧ (t.sc n).free = u.fine + 40

/-- `g` is a move of a kind from the planned end point of `u` to the given one. -/
def Seg.moves (g : Seg) (u : State) (n : Nat) (kind : SegKind) (x y z : Int) : Prop :=
  g.kind = kind ∧ (g.x0, g.y0, g.z0) = ((u.sc n).px, (u.sc n).py, (u.sc n).pz) ∧ (g.x1, g.y1, g.z1) = (x, y, z) ∧ g.s0 = (u.sc n).sEnd

/-- `g` takes no time and carries its argument. -/
def Seg.notes (g : Seg) (kind : SegKind) (arg : Nat) (flag : Bool) : Prop := g.kind = kind ∧ g.len = 0 ∧ g.dur = 0 ∧ g.arg = arg ∧ g.flag = flag

/-- From `u` to `t` the next record has been taken at rest: SCN_RECORD shows it, and no chain is being planned. -/
def State.rested (u t : State) (n : Nat) : Prop :=
  t.rd .SCN_RECORD n = BitVec.ofNat 32 (u.sc n).nextIdx ∧ (t.sc n).nextIdx = (u.sc n).nextIdx + 1 ∧ (t.sc n).chain = 0 ∧ t.fine = u.fine

/-- Interpreter `n` is HALTED with a cause, or comes to that halt at its halt point (R339). -/
def State.haltsFor (t : State) (n cause : Nat) : Prop :=
  (t.scnState n = scnHalted ∧ t.fld F.SCN_STATUS_HALT_CAUSE n = cause) ∨ ∃ p, (t.sc n).pause = some p ∧ p.haltCause = cause

/-- A fiducial record with CALIB that the updater takes: its check is good, its head takes part, it has no flag that excludes it and
its quality suffices (R327). -/
def State.calTakes (s : State) (r : List Byte) : Bool :=
  s.ready && r.length == 32 && crc16 (r.take 30) == fieldLE r 30 2 && fieldLE r 0 1 == 2 && decide (fieldLE r 1 1 < 12) &&
    s.hasBeam (fieldLE r 1 1) && s.flag F.SCN_CFG_CAL_EN (fieldLE r 1 1) && decide (fieldLE r 8 2 < 256) &&
    !natBit (fieldLE r 2 2) 0 && !natBit (fieldLE r 2 2) 7 && !natBit (fieldLE r 2 2) 8 && decide (s.fld F.SCN_CAL_LIMIT_Q_MIN ≤ fieldLE r 10 2)

/-- The weight of corner `i` of an axis, at distance `a` from its lower node, in a cell of `step` nm (R328). -/
def cornerPart (step a i : Nat) : Nat := if i = 0 then step - a else a

/-- Beam `n` is in sub-state `phase` of the pause `p`. -/
def State.pausedIn (s : State) (n : Nat) (p : Pause) (phase : Nat) : Bool :=
  (s.sc n).pause == some p && p.begun && p.phase == phase && s.scnState n == scnPaused

/-! ### Power and resets -/

/-- From `s` a reset has led to `t` in `mode` with the given cause (R538): every register that no PDAO cell holds has its reset value,
unit memories and staged writes are gone, and the flash devices and the commands that wait are as they were. -/
def State.wasReset (s t : State) (mode cause : Nat) : Prop :=
  t.mode = mode ∧ t.fld F.PWR_RESET_CAUSE_CAUSE = cause ∧
    (∀ (r : Reg) (i j : Nat), r ≠ .PWR_MODE_STATUS → r ≠ .PWR_RESET_CAUSE → r ≠ .BOOT_SVN → t.rd r i j = State.reset.rd r i j) ∧
    t.bar0 = [] ∧ t.staged = [] ∧ t.boot.flash = s.boot.flash ∧ t.pending = s.pending

/-- A request by `who` for mode `m` finds no transition, another mode in force and a level that suffices (R514, R515). -/
def State.mayAskMode (s : State) (who : Requester) (m : Nat) : Bool :=
  s.ready && decide (s.modeLevel m ≤ s.levelOf who) && s.mode != m && !s.flag F.PWR_MODE_STATUS_IN_TRANSITION

/-- From `s` to `t` a transition to mode `m` has begun; the mode in force is as before. -/
def State.towards (s t : State) (m : Nat) : Prop :=
  t.mode = s.mode ∧ t.flag F.PWR_MODE_STATUS_IN_TRANSITION ∧ t.fld F.PWR_MODE_STATUS_TARGET = m

/-- From `s` to `t` a mode request was refused with a cause; nothing but these fields of PWR_MODE_STATUS differs. -/
def State.modeRefused (s t : State) (cause : Nat) : Prop :=
  t = (s.setFld F.PWR_MODE_STATUS_REFUSE_CAUSE cause).setFld F.PWR_MODE_STATUS_REFUSED 1

/-! ### Flash operations and sessions -/

/-- `who` may start a flash operation: none runs, and LOAD has ended or is in the rescue state (R502, R505, R510). -/
def State.mayFlash (s : State) (who : Requester) : Bool :=
  s.mayWrite who .BOOT_CMD 0 && !s.flag F.BOOT_STATUS_OP_BUSY && (s.ready || s.flag F.BOOT_STATUS_RESCUE)

/-- Device `dev` can be programmed or erased up to `last`: it is there, holds no image in force or about to be, and is that long. -/
def State.canProgram (s : State) (dev last : Nat) : Bool :=
  s.flashUsed dev && !s.isProtected dev && decide (last ≤ s.flashSize dev)

/-- From `s` to `t` a flash operation has started. -/
def State.opStarted (t : State) (op dev addr len : Nat) : Prop :=
  (∃ x, t.boot.op = some x ∧ x.op = op ∧ x.dev = dev ∧ x.addr = addr ∧ x.len = len) ∧ t.flag F.BOOT_STATUS_OP_BUSY ∧ t.rd .BOOT_PROGRESS = 0

/-- A flash operation has ended with a result after `n` bytes. -/
def State.opEnded (t : State) (result n : Nat) : Prop :=
  t.boot.op = none ∧ t.flag F.BOOT_STATUS_OP_BUSY = false ∧ t.flag F.BOOT_STATUS_OP_DONE ∧ t.fld F.BOOT_STATUS_OP_RESULT = result ∧
    t.rd .BOOT_PROGRESS = BitVec.ofNat 32 n

/-- The mailbox has answered: DONE with a reason, its state and level. -/
def State.mbxAnswered (t : State) (reason state level : Nat) : Prop :=
  t.flag F.BOOT_MBX_STATUS_DONE ∧ t.fld F.BOOT_MBX_STATUS_REASON = reason ∧ t.fld F.BOOT_MBX_STATUS_STATE = state ∧
    t.fld F.BOOT_MBX_STATUS_LEVEL = level

/-- A datagram on port `p`, `dt` from now, is `g` of the given type in the form of R499. -/
def State.dgHears (s : State) (p dt type : Nat) (data : List Byte) (g : Dgram) : Bool :=
  (s.advance dt).netUp p && natBit (s.rd .SES_ETH_CFG).toNat p && parseDgram data == some g && g.type == type

/-! ### Halyards, the endpoint, DMA channels and queues -/

/-- From `s` to `t` an event with this code, hops and producer has entered halyard `h` now, behind the events of earlier instants and
those of this instant by lower producers; its queue holds 4, and what does not fit is dropped and counted. -/
def State.queued (s t : State) (h : Nat) (code : Byte) (hops prod : Nat) : Prop :=
  let q := tblGet [] s.hal.queues h
  ∃ e : HEv, e.code = code ∧ e.hops = hops ∧ e.prod = prod ∧ e.sentAt = t.fine ∧
    e.gated = (!s.flag F.HAL_ATTR_SECURE h && !natBit (s.rd .HAL_GROUP_STATE).toNat (h / 16)) ∧
    tblGet [] t.hal.queues h = (queueInsert e q).take 4 ∧
    (if q.length < 4 then t.rd .HAL_CNT_QUEUE_DROP = s.rd .HAL_CNT_QUEUE_DROP else Counted .HAL_CNT_QUEUE_DROP 0 s t)

/-- Sequence `q` issues the instruction `i`: it runs, it is its turn, and its next word, which lies in its memory, spells `i` (R395,
R396). -/
def State.seqIssues (s : State) (q : Nat) (i : SeqOp) : Bool :=
  s.seqReady q && s.seqTurn q && decide ((s.hseq q).pc < 2048) && s.seqWord q == i

/-- From `s` to `t` only sequence `q` has gone on, to `x`. -/
def State.seqGoes (s t : State) (q : Nat) (x : HSeq) : Prop :=
  t.hseq q = x ∧ (∀ k, k ≠ q → t.hseq k = s.hseq k) ∧ t.regs = s.regs ∧ t.hal.queues = s.hal.queues

/-- The endpoint has been reset (R405): link down, configuration space at its reset values, no vector, request or mailbox session. -/
def State.pceWasReset (t : State) : Prop :=
  t.flag F.PCE_STATUS_DL_UP = false ∧ t.fld F.PCE_STATUS_LINK_SPEED = 0 ∧ t.fld F.PCE_STATUS_LINK_PM = 3 ∧
    (∀ off, t.cfgRd off = cfgReset t.variant t.fuse off) ∧ t.pce.msix = [] ∧ t.pce.pba = [] ∧ t.pce.reqs = [] ∧
    t.levelOf .mailbox = 0 ∧ t.ses.mbxChal = none

/-- The read that the channel waits for has come, and nothing holds the channel (R433, R441, R424, R525). -/
def State.dmaHasRead (s : State) (n : Nat) (p : DmaPhase) : Bool :=
  (s.dm n).phase == p && (inStore (s.dm n).addr || (s.dm n).got) && !(s.dm n).paused && !s.dmaHeld (inStore (s.dm n).addr)

/-- The descriptor that has been read, a store read with the errors it meets (R433, R168). -/
def State.descRead (s : State) (n : Nat) (errs : List (Nat × BurstErr)) : Desc :=
  parseDesc (s.descBytes (s.dm n).addr (s.dm n).rx errs).1

/-- Channel `n` runs and reads the descriptor at `a`. -/
def State.dmaLoads (t : State) (n a : Nat) : Prop :=
  t.dmaState n = dmaRunning ∧ (t.dm n).phase = .loading ∧ (t.dm n).addr = a

/-- Level `p` of queue `q` has gained an item at its end. -/
def State.queueGains (s t : State) (q : Nat) (i : QItem) : Prop :=
  (t.queue q).level i.pri = (s.queue q).level i.pri ++ [i] ∧ ∀ p, p ≠ i.pri → (t.queue q).level p = (s.queue q).level p

/-- Queue `q` exists, its pointers agree, and level `p` has room for `n` more words (R452 to R455). -/
def State.queueRoom (s : State) (q p n : Nat) : Bool :=
  s.queDepth q != 0 && (s.queue q).ptrsAgree && decide ((s.queue q).used p + n ≤ s.queDepth q)

/-! ### Time -/

/-- A PTP message on port `p`, `dt` from now, is one of domain `d` that R466 does not discard. -/
def State.ptpTakes (s : State) (p dt : Nat) (m : PtpMsg) (d : Nat) : Bool := (s.advance dt).netUp p && s.ptpDomain p m == some d

/-- Port instance `p` of domain `d` works, and is a master or slave as asked (R466, R467). -/
def State.instIs (s : State) (d p dt : Nat) (states : List Nat) : Bool :=
  (s.advance dt).netUp p && s.flag F.TIM_DOM_CFG_EN d && s.ptpUses p && states.contains (s.portState d p)

/-- The number in `k` nibbles of a ring message from nibble `i`, lowest first (R478). -/
def nibsAt (nibs : List (BitVec 4)) (i k : Nat) : Nat := ((List.range k).map (fun j => (nibs.getD (i + j) 0).toNat * 16 ^ j)).sum

/-! ### Lighting -/

/-- The block `dt` from now, or at `due` where that is later, with the gate of channel `n` brought up to date (R351, R354). -/
def State.lumThen (s : State) (n dt due : Nat) : State := (s.passTo dt due).lumGate n

/-- The pattern sequencer runs and issues the word it is at, which lies in its memory and spells `i` (R368). -/
def State.lseqIssues (s : State) (i : LumOp) : Bool :=
  s.flag F.LUM_PROJ_STATUS_SEQ_RUN && s.proj.wait == .none && decide (s.proj.pc < 1024) && s.lseqWord == i

/-- From `s` to `t` the pattern sequencer has gone on to the next word, loops included, and waits for `w`. -/
def State.lseqGoes (s t : State) (w : LumWait) : Prop :=
  (t.proj.pc, t.proj.loop) = loopNext s.proj.loop (s.proj.pc + 1) ∧ t.proj.wait = w ∧ t.fld F.LUM_PROJ_STATUS_WORD = t.proj.pc % 1024 ∧
    t.flag F.LUM_PROJ_STATUS_SEQ_RUN

end Sys2Proof.Machine

namespace Sys2Proof.Machine

/-- The chapters by which the statements on frames are split. -/
inductive Chapter where
  | lanes | capture | encoders | store | masts | spars | sheets | beams | records | scanMotion | light | halyards | host | dma | time | boot | power
  deriving DecidableEq, Repr

/-- The chapter of a command. -/
def chapterOf (i : Instr) : Chapter :=
  match i with
  | .registerWrite .. | .readClear .. | .perstN .. | .hotReset .. | .dlDown .. | .configRequest .. | .bar4Access ..
  | .msixUnmask .. | .completion .. | .completionTimeout .. | .tagRelease .. | .busMasterDisable .. | .busMasterEnable ..
  | .flr .. | .flrDrainEnd .. | .flrDone .. | .l0sEntry .. | .l1Entry .. | .dgramAccess .. | .pcieLinkUp ..
  | .unsupportedRequest .. => .host
  | .signalDetectQualified .. | .signalLost .. | .cdrLocked .. | .cdrLockTimeout .. | .blockLock .. | .huntTimeout ..
  | .lockLoss .. | .dataRow .. | .skipBlock .. | .stuffedBlock .. | .reservedTypeBlock .. | .trainingRequest ..
  | .trainingStatus .. | .trainingReady .. | .trainingAbort .. | .trainingRequestRepeat .. | .eyeMeasurement ..
  | .trainTimeout .. | .skipSend .. | .portDecide .. | .failedTimeout .. | .enterDoze .. | .wakeRow .. | .dozeExitTimeout ..
  | .deepAck .. | .deepRetry .. | .deepForce .. | .deepWakeOnSignal .. | .quadPllLocked .. | .stripeHoldEnd ..
  | .suspectClear .. | .rateReduceTimeout .. | .laneEnable .. | .deepReq .. | .retrain .. | .patternClear .. | .injectShot ..
  | .injectBurst .. | .berBitsLoRead .. | .cdrLockLost .. | .checkerLock .. => .lanes
  | .frameStart .. | .lineData .. | .frameEnd .. | .closeTimeout .. | .hcrcFail .. | .reservedPacket .. | .cameraStatus ..
  | .camSilent .. | .controlResponse .. | .triggerAck .. | .triggerAckTimeout .. | .ctrlGo .. | .controlRequestRetry ..
  | .soft .. | .scanPathCause .. | .triggerBlockSend .. | .trigoPulseEnd .. | .compareArm .. | .frameNumLoRead .. => .capture
  | .fstMarkGo .. | .markSearchDone .. | .spanRelease .. | .spanReleaseAll .. | .spanHoldExpiry .. | .bar2Read ..
  | .bar2Write .. | .mpUnitWrite .. | .refresh .. | .patrolScrub .. | .ceLeak .. | .layerBarrier .. | .eventDelivery ..
  | .recordingBoundary .. => .store
  | .migrationCopy .. | .forceWrap .. | .channelRetired .. | .descriptorLoad .. | .burst .. | .readBackDone .. | .linkReread ..
  | .dmaDoorbell .. | .dmaStart .. | .dmaStop .. | .dmaAbort .. | .queueItem .. | .queRdHead .. | .queRdData .. | .dropRest ..
  | .queueFlush .. | .queWrHead .. | .queWrData .. | .drainItem .. => .dma
  | .tileDispatch .. | .sparFault .. | .watchdogExpiry .. | .spareSelftest .. | .selftestEnd .. | .shmScrub .. | .mastReload ..
  | .fault0Read .. => .masts
  | .add .. | .sub .. | .and .. | .or .. | .xor .. | .shl .. | .shr .. | .sar .. | .mul .. | .mulh .. | .min .. | .max ..
  | .slt .. | .sltu .. | .div .. | .divu .. | .isqrt .. | .cmp .. | .mfs .. | .addi .. | .andi .. | .ori .. | .xori ..
  | .lui .. | .shli .. | .shri .. | .sari .. | .cmpi .. | .ldw .. | .ldh .. | .ldhu .. | .stw .. | .sth .. | .vld .. | .vst ..
  | .vlut .. | .b .. | .call .. | .ret .. | .loop .. | .commit .. | .abort .. | .vadd .. | .vsub .. | .vadds .. | .vsubs ..
  | .vaddus .. | .vsubus .. | .vmul .. | .vmulq .. | .vmin .. | .vmax .. | .vminu .. | .vmaxu .. | .vand .. | .vor ..
  | .vxor .. | .vabsdu .. | .vshl .. | .vshr .. | .vsar .. | .vsel .. | .vsplat .. | .vmulw .. | .vmulwu .. | .vaccwu ..
  | .vnarrow .. | .vnarrowu .. | .vmac .. | .vmacu .. | .vaccr .. | .vaccz .. | .vcmpeq .. | .vcmpgt .. | .vcmpgtu ..
  | .vcmpgeu .. | .vrsum .. | .vrsumu .. | .vrmaxu .. | .vrmaxi .. | .vext .. | .mand .. | .mor .. | .mxor .. | .mnot ..
  | .mtos .. | .stom .. | .mpop .. | .srd .. | .srdr .. | .sseek .. | .swr .. | .swrs .. | .std .. | .hist .. | .hrd ..
  | .lcfg .. | .lab .. | .leol .. | .lrd .. | .mcfg .. | .mom .. | .mrd .. => .spars
  | .sheetRecord .. | .evaluation .. | .missTimer .. | .shtStart .. | .shtStop .. | .resetState .. => .sheets
  | .dacUpdate .. | .modulationPeriod .. | .digitalWord .. | .trackingUpdate .. | .pacedPulse .. | .pulseEnd .. | .emitOn ..
  | .emitOff .. | .rotationDecide .. | .beamPermitChange .. | .permitDisagree .. | .permitFaultClear .. | .brefl .. | .alarm ..
  | .readyLost .. | .wdOnTime .. | .wdDwell .. | .wdMeter .. | .wdNoCopy .. | .cutClear .. | .meterReading .. => .beams
  | .jumpRecord .. | .markRecord .. | .arcRecord .. | .speedRecord .. | .powerRecord .. | .profileRecord .. | .waitRecord ..
  | .dwellRecord .. | .meterRecord .. | .eventRecord .. | .linkRecord .. | .layerEnd .. | .endRecord .. | .badRecord ..
  | .blockFetch .. | .streamWindowWrite .. | .dwellEnd .. | .waitTimeout .. | .scnStart .. | .scnStop .. | .restartAtStop ..
  | .restartNextRecord .. | .restartNextLayer .. | .pathLoRead .. => .records
  | .lateData .. | .shroudFrameSend .. | .shroudFrameReceived .. | .shroudLost .. | .clearanceCheck .. | .rampOffEnd ..
  | .decelEnd .. | .backupEnd .. | .refireHoldEnd .. | .reentryEnd .. | .rampOnEnd .. | .rotationHoldEnd .. | .calibRecord ..
  | .shroudSyncLost .. => .scanMotion
  | .strobeStart .. | .strobeEnd .. | .dimPulse .. | .diagWindow .. | .lightFault .. | .lightFaultClear .. | .verdictDue ..
  | .diagPulse .. | .undiagnosed .. | .vfTest .. | .vfPeriod .. | .vfTestEnd .. | .projSwap .. | .refreshFrameStart ..
  | .scanLine .. | .projSync .. | .frameBufferWrite .. | .defectMapWrite .. | .pixTest .. | .pixelJudge .. | .lumSeqEnd ..
  | .lumSeqLevel .. | .lumSeqStrobe .. | .loadpat .. | .loadpatDone .. | .lumSeqSwap .. | .waithal .. | .waitus ..
  | .waitusEnd .. | .lumSeqEvent .. | .lumSeqLoop .. | .lumSeqJump .. | .lumSeqReserved .. => .light
  | .halPublish .. | .halGroupCmd .. | .halSubWrite .. | .halProdBindWrite .. | .halSeqCmd .. | .halSeqEnd .. | .pub ..
  | .delay .. | .delayEnd .. | .halSeqWait .. | .halSeqWaitTimeout .. | .gen .. | .gdis .. | .halSeqLoop .. | .halSeqJump ..
  | .halSeqReserved .. => .halyards
  | .timeStep .. | .timSwitch .. | .sync .. | .followUp .. | .announce .. | .delayReq .. | .delayResp .. | .pdelayReq ..
  | .pdelayResp .. | .pdelayRespFollowUp .. | .syncSend .. | .announceSend .. | .delayReqSend .. | .syncLossTimeout ..
  | .announceReceiptTimeout .. | .portLinkChange .. | .moduleInsert .. | .modulePoll .. | .scheduleArm .. | .scheduleDisarm ..
  | .scheduleFire .. | .toutPulseEnd .. | .capSecLoRead .. | .nowSecLoRead .. | .ringMessage .. | .ringSend ..
  | .ringSendTimeout .. | .bypassOpen .. => .time
  | .loadStart .. | .loadEnd .. | .erase .. | .programBuf .. | .copyStore .. | .verify .. | .bootSwitch .. | .cancelSwitch ..
  | .burnSvn .. | .retire .. | .bootReservedOp .. | .flashOpDone .. | .stagingDone .. | .mbxOpen .. | .mbxProof ..
  | .mbxClose .. | .challengeLapse .. | .lockoutEnd .. | .dgramOpen .. | .dgramProof .. | .dgramClose .. | .keepalive ..
  | .arpRequest .. | .neighbourSolicitation .. | .sessionIdleTimeout .. => .boot
  | .requestIdle .. | .requestAcquire .. | .requestBuild .. | .requestService .. | .requestInvalidMode ..
  | .modeTransitionDone .. | .domainOn .. | .domainOff .. | .wakeStart .. | .powerGood .. | .supplyWarning .. | .supplyReset ..
  | .resetNAssert .. | .reefRecovery .. | .reefBufferEmpty .. | .reefTimeout .. | .helmMiscompare .. | .resyncDone ..
  | .dualMiscompare .. | .helmWatchdog .. | .hlmWdt .. | .helmMemoryUe .. | .replayEnd .. | .softReset .. => .power
  | .encoderEdge .. | .zEdge .. | .encoderCountWrite .. | .ssiReadStart .. | .ssiReadEnd .. => .encoders

/-- The parts of the state, other than registers, that a command may change. -/
def partsOf (i : Instr) : List Part :=
  match i with
  | .registerWrite .. | .dgramAccess .. =>
      [.fuse, .fine, .bar0, .staged, .outbox, .freeCtr, .lnk, .port, .cap, .capt, .mst, .sht, .bch, .beams, .scn, .cal, .lum,
        .proj, .hal, .pceCfg, .pce, .dma, .que, .ddr, .fst, .ses, .flash, .boot, .tim, .enc, .ssi, .helm, .pwr]
  | .readClear .. =>
      [.outbox, .freeCtr, .mst, .sht, .bch, .beams, .scn, .lum, .hal, .pceCfg, .pce, .que, .ses, .helm, .pwr]
  | .signalDetectQualified .. | .cdrLocked .. | .blockLock .. | .suspectClear .. | .dozeExitTimeout .. | .checkerLock .. =>
      [.lnk]
  | .signalLost .. | .lockLoss .. | .cdrLockLost .. | .skipBlock .. | .trainingRequest .. | .trainingStatus ..
  | .trainingReady .. | .trainingAbort .. =>
      [.outbox, .freeCtr, .lnk, .port, .cap, .mst, .hal, .dma, .ddr, .fst]
  | .cdrLockTimeout .. | .huntTimeout .. | .trainingRequestRepeat .. | .trainTimeout .. | .rateReduceTimeout .. =>
      [.fine, .outbox, .freeCtr, .lnk, .port, .cap, .mst, .hal, .dma, .ddr, .fst]
  | .dataRow .. | .stuffedBlock .. | .reservedTypeBlock .. | .wakeRow .. | .deepWakeOnSignal .. | .quadPllLocked .. =>
      [.outbox, .lnk, .port]
  | .eyeMeasurement .. | .enterDoze .. =>
      [.outbox, .freeCtr, .lnk, .port]
  | .skipSend .. | .deepRetry .. =>
      [.fine, .outbox, .freeCtr, .lnk, .port]
  | .portDecide .. | .hcrcFail .. | .reservedPacket .. =>
      [.fine, .port]
  | .failedTimeout .. =>
      [.fine, .lnk]
  | .deepAck .. =>
      [.outbox, .lnk, .port, .cap, .mst, .hal, .dma, .ddr, .fst]
  | .deepForce .. =>
      [.fine, .outbox, .lnk, .port, .cap, .mst, .hal, .dma, .ddr, .fst]
  | .stripeHoldEnd .. =>
      [.port]
  | .laneEnable .. | .retrain .. =>
      [.outbox, .freeCtr, .lnk, .port, .cap, .mst, .hal, .pceCfg, .pce, .dma, .ddr, .fst]
  | .deepReq .. =>
      [.outbox, .freeCtr, .lnk, .port, .pceCfg, .pce]
  | .patternClear .. | .injectShot .. =>
      [.outbox, .freeCtr, .lnk, .pceCfg, .pce]
  | .injectBurst .. =>
      [.fine, .outbox, .lnk]
  | .berBitsLoRead .. | .frameNumLoRead .. | .capSecLoRead .. | .nowSecLoRead .. =>
      [.outbox, .freeCtr, .pceCfg, .pce, .helm]
  | .frameStart .. =>
      [.fine, .outbox, .freeCtr, .port, .cap, .mst, .hal, .pceCfg, .pce, .dma, .que, .ddr, .fst, .helm]
  | .lineData .. =>
      [.fine, .port, .cap, .mst, .dma, .ddr, .fst]
  | .frameEnd .. =>
      [.fine, .port, .cap, .mst, .hal, .dma, .ddr, .fst]
  | .closeTimeout .. =>
      [.fine, .cap, .mst, .hal, .dma, .ddr, .fst]
  | .cameraStatus .. | .triggerAck .. =>
      [.fine, .port, .cap]
  | .camSilent .. | .flrDone .. | .resyncDone .. | .replayEnd .. =>
      [.fine]
  | .controlResponse .. =>
      [.fine, .bar0, .outbox, .freeCtr, .lnk, .port, .cap]
  | .triggerAckTimeout .. =>
      [.fine, .cap]
  | .ctrlGo .. =>
      [.outbox, .freeCtr, .lnk, .port, .cap, .pceCfg, .pce]
  | .controlRequestRetry .. | .triggerBlockSend .. =>
      [.fine, .outbox, .freeCtr, .lnk, .port, .cap]
  | .soft .. =>
      [.outbox, .freeCtr, .cap, .capt, .lum, .pceCfg, .pce]
  | .scanPathCause .. =>
      [.fine, .outbox, .freeCtr, .cap, .capt, .lum]
  | .trigoPulseEnd .. =>
      [.fine, .outbox, .capt]
  | .compareArm .. =>
      [.outbox, .freeCtr, .capt, .pceCfg, .pce]
  | .fstMarkGo .. | .spanRelease .. | .spanReleaseAll .. =>
      [.outbox, .freeCtr, .hal, .pceCfg, .pce, .que, .ddr, .fst, .helm]
  | .markSearchDone .. | .spanHoldExpiry .. =>
      [.fine, .outbox, .hal, .pce, .que, .ddr, .fst, .helm]
  | .bar2Read .. =>
      [.outbox, .freeCtr, .hal, .pceCfg, .pce, .dma, .ddr, .fst, .helm]
  | .bar2Write .. =>
      [.outbox, .pceCfg, .pce, .ddr, .fst]
  | .mpUnitWrite .. =>
      [.fine, .sht, .ddr, .fst]
  | .refresh .. | .ceLeak .. | .forceWrap .. =>
      [.fine, .fst]
  | .patrolScrub .. =>
      [.fine, .outbox, .freeCtr, .hal, .pce, .dma, .ddr, .fst, .helm]
  | .migrationCopy .. =>
      [.fine, .outbox, .freeCtr, .hal, .pce, .dma, .que, .ddr, .fst, .helm]
  | .channelRetired .. =>
      [.hal, .ddr, .fst]
  | .tileDispatch .. | .spareSelftest .. | .mastReload .. =>
      [.fine, .mst]
  | .add .. | .sub .. | .and .. | .or .. | .xor .. | .shl .. | .shr .. | .sar .. | .mul .. | .mulh .. | .min .. | .max ..
  | .slt .. | .sltu .. | .div .. | .divu .. | .isqrt .. | .cmp .. | .mfs .. | .addi .. | .andi .. | .ori .. | .xori ..
  | .lui .. | .shli .. | .shri .. | .sari .. | .cmpi .. | .ldw .. | .ldh .. | .ldhu .. | .stw .. | .sth .. | .vld .. | .vst ..
  | .vlut .. | .b .. | .call .. | .ret .. | .loop .. | .abort .. | .vadd .. | .vsub .. | .vadds .. | .vsubs .. | .vaddus ..
  | .vsubus .. | .vmul .. | .vmulq .. | .vmin .. | .vmax .. | .vminu .. | .vmaxu .. | .vand .. | .vor .. | .vxor ..
  | .vabsdu .. | .vshl .. | .vshr .. | .vsar .. | .vsel .. | .vsplat .. | .vmulw .. | .vmulwu .. | .vaccwu .. | .vnarrow ..
  | .vnarrowu .. | .vmac .. | .vmacu .. | .vaccr .. | .vaccz .. | .vcmpeq .. | .vcmpgt .. | .vcmpgtu .. | .vcmpgeu ..
  | .vrsum .. | .vrsumu .. | .vrmaxu .. | .vrmaxi .. | .vext .. | .mand .. | .mor .. | .mxor .. | .mnot .. | .mtos ..
  | .stom .. | .mpop .. | .srd .. | .srdr .. | .sseek .. | .swr .. | .swrs .. | .std .. | .hist .. | .hrd .. | .lcfg ..
  | .lab .. | .leol .. | .lrd .. | .mcfg .. | .mom .. | .mrd .. | .commit .. =>
      [.outbox, .mst, .sht, .cal, .hal, .pce, .que, .helm]
  | .sparFault .. =>
      [.outbox, .mst, .hal, .pce, .helm]
  | .watchdogExpiry .. =>
      [.fine, .outbox, .mst, .sht, .cal, .hal, .pce, .que, .helm]
  | .selftestEnd .. =>
      [.fine, .outbox, .mst, .hal, .pce, .helm]
  | .shmScrub .. | .requestInvalidMode .. =>
      []
  | .fault0Read .. =>
      [.outbox, .freeCtr, .mst, .pceCfg, .pce, .helm]
  | .sheetRecord .. =>
      [.sht]
  | .evaluation .. =>
      [.fine, .outbox, .freeCtr, .sht, .bch, .beams, .scn, .hal]
  | .missTimer .. | .dacUpdate .. | .modulationPeriod .. | .digitalWord .. | .pulseEnd .. | .emitOff .. | .shroudLost ..
  | .rampOffEnd .. | .decelEnd .. | .backupEnd .. | .refireHoldEnd .. | .rotationHoldEnd .. | .dwellEnd .. | .waitTimeout ..
  | .trackingUpdate .. | .pacedPulse .. | .jumpRecord .. | .markRecord .. | .arcRecord .. | .speedRecord .. | .powerRecord ..
  | .profileRecord .. | .waitRecord .. | .dwellRecord .. | .meterRecord .. | .eventRecord .. | .linkRecord .. | .layerEnd ..
  | .endRecord .. | .badRecord .. | .lateData .. | .shroudFrameReceived .. | .clearanceCheck .. | .shroudFrameSend ..
  | .reentryEnd .. | .rampOnEnd .. =>
      [.fine, .outbox, .sht, .bch, .beams, .scn, .hal]
  | .shtStart .. | .shtStop .. | .resetState .. =>
      [.outbox, .freeCtr, .sht, .pceCfg, .pce]
  | .emitOn .. | .brefl .. | .alarm .. | .readyLost .. | .wdOnTime .. | .wdDwell .. | .wdMeter .. | .wdNoCopy .. =>
      [.fine, .outbox, .sht, .bch, .beams, .scn, .hal, .pce, .helm]
  | .rotationDecide .. =>
      [.fine, .beams, .scn]
  | .beamPermitChange .. =>
      [.outbox, .sht, .bch, .beams, .scn, .lum, .proj, .hal]
  | .permitDisagree .. =>
      [.fine, .outbox, .sht, .bch, .beams, .scn, .lum, .proj, .hal, .pce, .helm]
  | .permitFaultClear .. =>
      [.outbox, .freeCtr, .sht, .bch, .beams, .scn, .lum, .proj, .hal, .pceCfg, .pce]
  | .cutClear .. =>
      [.outbox, .freeCtr, .sht, .bch, .hal, .pceCfg, .pce]
  | .meterReading .. =>
      [.fine, .staged, .outbox, .freeCtr, .sht, .bch, .beams, .scn, .hal, .pce, .helm]
  | .blockFetch .. =>
      [.outbox, .freeCtr, .scn, .hal, .pce, .dma, .ddr, .fst, .helm]
  | .streamWindowWrite .. =>
      [.outbox, .sht, .bch, .beams, .scn, .hal]
  | .scnStart .. =>
      [.outbox, .freeCtr, .cap, .sht, .bch, .beams, .scn, .hal, .pceCfg, .pce]
  | .scnStop .. | .restartAtStop .. | .restartNextRecord .. | .restartNextLayer .. =>
      [.outbox, .freeCtr, .sht, .bch, .beams, .scn, .hal, .pceCfg, .pce]
  | .layerBarrier .. =>
      [.bar0, .staged, .outbox, .freeCtr, .lnk, .port, .cap, .capt, .mst, .sht, .bch, .beams, .scn, .cal, .lum, .proj, .hal,
        .pce, .dma, .ddr, .fst, .boot, .tim, .helm, .pwr]
  | .calibRecord .. =>
      [.cal]
  | .strobeStart .. | .strobeEnd .. | .dimPulse .. | .diagPulse .. =>
      [.fine, .outbox, .lum]
  | .diagWindow .. | .lightFault .. =>
      [.fine, .outbox, .lum, .hal, .pce, .helm]
  | .lightFaultClear .. | .vfTest .. =>
      [.outbox, .freeCtr, .lum, .pceCfg, .pce]
  | .verdictDue .. | .undiagnosed .. =>
      [.fine, .lum]
  | .vfPeriod .. =>
      [.fine, .outbox, .lum, .proj]
  | .vfTestEnd .. =>
      [.fine, .outbox, .freeCtr, .lum, .hal]
  | .projSwap .. | .halGroupCmd .. | .bootReservedOp .. =>
      [.outbox, .freeCtr, .pceCfg, .pce]
  | .refreshFrameStart .. | .projSync .. | .waitusEnd .. =>
      [.fine, .proj]
  | .scanLine .. =>
      [.fine, .outbox, .proj]
  | .frameBufferWrite .. | .defectMapWrite .. =>
      [.bar0, .outbox, .freeCtr, .pceCfg, .pce]
  | .pixTest .. =>
      [.outbox, .freeCtr, .proj, .pceCfg, .pce]
  | .pixelJudge .. =>
      [.fine, .bar0, .outbox, .proj]
  | .lumSeqEnd .. | .loadpat .. | .lumSeqSwap .. | .waithal .. | .waitus .. | .lumSeqLoop .. | .lumSeqJump ..
  | .lumSeqReserved .. =>
      [.proj]
  | .lumSeqLevel .. | .lumSeqStrobe .. =>
      [.outbox, .lum, .proj]
  | .loadpatDone .. =>
      [.fine, .bar0, .proj]
  | .lumSeqEvent .. =>
      [.proj, .hal]
  | .eventDelivery .. =>
      [.fine, .outbox, .freeCtr, .cap, .capt, .sht, .bch, .beams, .scn, .lum, .proj, .hal, .pce, .dma, .que, .ddr, .fst,
        .tim, .helm]
  | .halPublish .. =>
      [.outbox, .freeCtr, .hal, .pceCfg, .pce, .helm]
  | .halSubWrite .. | .halProdBindWrite .. =>
      [.staged, .outbox, .freeCtr, .pceCfg, .pce, .helm]
  | .halSeqCmd .. =>
      [.outbox, .freeCtr, .hal, .pceCfg, .pce]
  | .halSeqEnd .. | .delay .. | .halSeqWait .. | .halSeqLoop .. | .halSeqJump .. | .halSeqReserved .. | .pub .. | .delayEnd ..
  | .halSeqWaitTimeout .. | .gen .. | .gdis .. =>
      [.fine, .hal]
  | .perstN .. | .hotReset .. | .dlDown .. =>
      [.outbox, .pceCfg, .pce, .dma, .que, .fst, .ses]
  | .configRequest .. | .busMasterDisable .. | .busMasterEnable .. | .completion .. =>
      [.outbox, .pceCfg, .pce, .dma, .que, .ddr, .fst]
  | .bar4Access .. | .unsupportedRequest .. =>
      [.outbox, .pceCfg, .pce]
  | .msixUnmask .. =>
      [.outbox, .pce]
  | .completionTimeout .. =>
      [.fine, .outbox, .freeCtr, .pceCfg, .pce, .dma, .que, .ddr, .fst]
  | .tagRelease .. =>
      [.fine, .outbox, .pce]
  | .flr .. =>
      [.outbox, .pce, .dma, .que, .fst]
  | .flrDrainEnd .. =>
      [.fine, .pceCfg, .pce, .ses]
  | .l0sEntry .. | .l1Entry .. | .delayReq .. =>
      [.fine, .outbox]
  | .descriptorLoad .. | .readBackDone .. =>
      [.outbox, .freeCtr, .hal, .pce, .dma, .que, .ddr, .fst, .helm]
  | .burst .. =>
      [.fine, .bar0, .outbox, .freeCtr, .sht, .bch, .beams, .scn, .hal, .pceCfg, .pce, .dma, .ddr, .fst, .helm]
  | .linkReread .. =>
      [.outbox, .freeCtr, .hal, .pce, .dma, .ddr, .fst, .helm]
  | .dmaDoorbell .. | .dmaStop .. =>
      [.outbox, .freeCtr, .pceCfg, .pce, .dma, .que, .ddr, .fst]
  | .dmaStart .. =>
      [.outbox, .freeCtr, .pceCfg, .pce, .dma]
  | .dmaAbort .. =>
      [.outbox, .freeCtr, .pceCfg, .pce, .dma, .que]
  | .queueItem .. =>
      [.outbox, .pce, .que, .helm]
  | .queRdHead .. | .queRdData .. | .dropRest .. | .queueFlush .. | .queWrHead .. | .queWrData .. =>
      [.outbox, .freeCtr, .pceCfg, .pce, .que, .helm]
  | .drainItem .. =>
      [.fine, .bar0, .outbox, .freeCtr, .sht, .bch, .beams, .scn, .hal, .pceCfg, .pce, .dma, .que, .ddr, .fst, .helm]
  | .timeStep .. =>
      [.fine, .outbox, .freeCtr, .cap, .capt, .lum, .hal, .pceCfg, .pce, .tim]
  | .timSwitch .. =>
      [.outbox, .freeCtr, .hal, .pceCfg, .pce, .tim]
  | .sync .. | .followUp .. | .scheduleFire .. =>
      [.fine, .outbox, .freeCtr, .cap, .capt, .lum, .hal, .tim]
  | .announce .. | .syncLossTimeout .. | .announceReceiptTimeout .. =>
      [.fine, .hal, .tim]
  | .delayResp .. | .pdelayResp .. | .pdelayRespFollowUp .. | .modulePoll .. =>
      [.fine, .tim]
  | .pdelayReq .. =>
      [.fine, .outbox, .freeCtr]
  | .syncSend .. | .announceSend .. | .delayReqSend .. | .toutPulseEnd .. | .ringSendTimeout .. | .bypassOpen .. =>
      [.fine, .outbox, .tim]
  | .portLinkChange .. | .moduleInsert .. =>
      [.tim]
  | .scheduleArm .. | .scheduleDisarm .. | .ringSend .. =>
      [.outbox, .freeCtr, .pceCfg, .pce, .tim]
  | .ringMessage .. =>
      [.fine, .outbox, .freeCtr, .hal, .tim]
  | .loadStart .. =>
      [.fine, .outbox, .freeCtr, .pce, .flash, .boot]
  | .loadEnd .. =>
      [.fine, .bar0, .outbox, .freeCtr, .lnk, .port, .cap, .capt, .mst, .sht, .bch, .beams, .scn, .lum, .proj, .hal, .pce,
        .dma, .ddr, .fst, .boot, .tim, .helm, .pwr]
  | .erase .. | .programBuf .. | .copyStore .. | .verify .. | .retire .. =>
      [.outbox, .freeCtr, .pceCfg, .pce, .flash, .boot]
  | .bootSwitch .. =>
      [.staged, .outbox, .freeCtr, .cal, .pceCfg, .pce, .boot]
  | .cancelSwitch .. =>
      [.outbox, .freeCtr, .pceCfg, .pce, .boot]
  | .burnSvn .. =>
      [.fuse, .outbox, .freeCtr, .pceCfg, .pce]
  | .flashOpDone .. =>
      [.fine, .outbox, .freeCtr, .hal, .pce, .dma, .ddr, .fst, .flash, .boot, .helm]
  | .stagingDone .. =>
      [.fine, .outbox, .boot]
  | .mbxOpen .. | .mbxProof .. =>
      [.bar0, .outbox, .freeCtr, .pceCfg, .pce, .ses]
  | .mbxClose .. =>
      [.outbox, .freeCtr, .pceCfg, .pce, .ses]
  | .challengeLapse .. | .lockoutEnd .. | .sessionIdleTimeout .. =>
      [.fine, .ses]
  | .dgramOpen .. | .dgramProof .. =>
      [.fine, .outbox, .freeCtr, .ses]
  | .dgramClose .. | .keepalive .. =>
      [.fine, .outbox, .ses]
  | .arpRequest .. | .neighbourSolicitation .. =>
      [.outbox]
  | .recordingBoundary .. | .requestIdle .. | .requestAcquire .. | .requestBuild .. | .requestService .. =>
      [.bar0, .staged, .outbox, .freeCtr, .lnk, .port, .cap, .capt, .mst, .sht, .bch, .beams, .scn, .cal, .lum, .proj, .hal,
        .pceCfg, .pce, .dma, .ddr, .fst, .boot, .tim, .helm, .pwr]
  | .modeTransitionDone .. =>
      [.fine, .outbox, .freeCtr, .lnk, .port, .cap, .capt, .mst, .sht, .bch, .beams, .scn, .lum, .proj, .hal, .dma, .ddr,
        .fst, .pwr]
  | .domainOn .. | .domainOff .. =>
      [.outbox, .freeCtr, .lnk, .port, .cap, .mst, .hal, .pceCfg, .pce, .dma, .ddr, .fst, .pwr]
  | .wakeStart .. =>
      [.fine, .pwr]
  | .powerGood .. =>
      [.fine, .outbox, .lnk, .port, .mst, .bch, .hal, .tim, .pwr]
  | .supplyWarning .. =>
      [.fine, .outbox, .sht, .bch, .beams, .scn, .hal, .fst, .pwr]
  | .supplyReset .. | .resetNAssert .. | .reefRecovery .. | .reefTimeout .. | .dualMiscompare .. | .helmWatchdog ..
  | .helmMemoryUe .. =>
      [.fine, .bar0, .staged, .outbox, .lnk, .port, .cap, .capt, .mst, .sht, .bch, .beams, .scn, .cal, .lum, .proj, .hal,
        .pceCfg, .pce, .dma, .que, .ddr, .fst, .ses, .boot, .tim, .enc, .ssi, .helm, .pwr]
  | .reefBufferEmpty .. =>
      [.fine, .hal, .ddr, .fst]
  | .helmMiscompare .. =>
      [.fine, .outbox, .freeCtr, .pce, .helm]
  | .hlmWdt .. =>
      [.helm]
  | .softReset .. =>
      [.fine, .bar0, .staged, .outbox, .freeCtr, .lnk, .port, .cap, .capt, .mst, .sht, .bch, .beams, .scn, .cal, .lum, .proj,
        .hal, .pceCfg, .pce, .dma, .que, .ddr, .fst, .ses, .boot, .tim, .enc, .ssi, .helm, .pwr]
  | .encoderEdge .. | .zEdge .. =>
      [.fine, .outbox, .freeCtr, .cap, .capt, .bch, .lum, .hal, .enc]
  | .encoderCountWrite .. =>
      [.outbox, .freeCtr, .cap, .capt, .bch, .lum, .hal, .pceCfg, .pce, .enc]
  | .ssiReadStart .. =>
      [.fine, .outbox, .ssi]
  | .ssiReadEnd .. =>
      [.fine, .ssi]
  | .pathLoRead .. =>
      [.outbox, .freeCtr, .sht, .bch, .beams, .scn, .hal, .pceCfg, .pce, .helm]
  | .shroudSyncLost .. =>
      [.scn]
  | .pcieLinkUp .. =>
      [.outbox, .pce, .dma]

/-- The registers that a command may change; `allRegs` for one that resets, loads or delivers. -/
def regsOf (i : Instr) : List Reg :=
  match i with
  | .registerWrite .. | .dgramAccess .. | .readClear .. | .mpUnitWrite .. | .jumpRecord .. | .markRecord .. | .arcRecord ..
  | .speedRecord .. | .powerRecord .. | .profileRecord .. | .waitRecord .. | .dwellRecord .. | .meterRecord ..
  | .eventRecord .. | .linkRecord .. | .layerEnd .. | .endRecord .. | .badRecord .. | .lateData .. | .shroudFrameReceived ..
  | .clearanceCheck .. | .streamWindowWrite .. | .layerBarrier .. | .eventDelivery .. | .halPublish .. | .halSubWrite ..
  | .halProdBindWrite .. | .burst .. | .drainItem .. | .loadEnd .. | .recordingBoundary .. | .requestIdle ..
  | .requestAcquire .. | .requestBuild .. | .requestService .. | .modeTransitionDone .. | .supplyWarning .. | .supplyReset ..
  | .resetNAssert .. | .reefRecovery .. | .reefTimeout .. | .dualMiscompare .. | .helmWatchdog .. | .helmMemoryUe ..
  | .softReset .. =>
      allRegs
  | .signalDetectQualified .. | .cdrLocked .. | .blockLock .. | .suspectClear .. | .eyeMeasurement .. | .failedTimeout .. =>
      [.LNK_STATUS]
  | .signalLost .. | .lockLoss .. | .cdrLockLost .. | .cdrLockTimeout .. | .huntTimeout .. | .trainingRequestRepeat ..
  | .trainTimeout .. =>
      [.LNK_STATUS, .LNK_PORT_STATUS, .LNK_CNT_LOCK_LOSS, .LNK_CNT_REBUILT, .LNK_CNT_PARITY_MISMATCH, .LNK_CNT_ERASED_ROWS,
        .CAP_CNT_INCOMPLETE, .CAP_CNT_OVERSIZE, .FST_RING_WP_BAND, .MST_STATUS, .MST_SPARE_USE, .MST_SPAR_STATE,
        .MST_CNT_CANCEL, .MST_CNT_INGEST_DROP, .HAL_CNT_QUEUE_DROP]
  | .dataRow .. =>
      [.LNK_STATUS, .LNK_PATTERN, .LNK_CNT_BAD_HDR, .LNK_CNT_EB_OVF, .LNK_CNT_REBUILT, .LNK_CNT_PARITY_MISMATCH,
        .LNK_CNT_ERASED_ROWS, .LNK_BER_BITS_LO, .LNK_BER_ERRS]
  | .skipBlock .. =>
      [.LNK_STATUS, .LNK_PORT_STATUS, .LNK_CNT_BAD_HDR, .LNK_CNT_LOCK_LOSS, .LNK_CNT_BAD_TYPE, .LNK_CNT_STUFF_EXCESS,
        .LNK_CNT_SKIP_ERR, .LNK_CNT_EB_OVF, .LNK_CNT_REBUILT, .LNK_CNT_PARITY_MISMATCH, .LNK_CNT_ERASED_ROWS,
        .CAP_CNT_INCOMPLETE, .CAP_CNT_OVERSIZE, .FST_RING_WP_BAND, .MST_STATUS, .MST_SPARE_USE, .MST_SPAR_STATE,
        .MST_CNT_CANCEL, .MST_CNT_INGEST_DROP, .HAL_CNT_QUEUE_DROP]
  | .stuffedBlock .. =>
      [.LNK_STATUS, .LNK_CNT_BAD_HDR, .LNK_CNT_STUFF, .LNK_CNT_EB_OVF]
  | .reservedTypeBlock .. =>
      [.LNK_STATUS, .LNK_CNT_BAD_HDR, .LNK_CNT_BAD_TYPE, .LNK_CNT_EB_OVF]
  | .trainingRequest .. | .trainingStatus .. | .trainingReady .. | .trainingAbort .. =>
      [.LNK_STATUS, .LNK_PORT_STATUS, .LNK_TAPS, .LNK_CNT_BAD_HDR, .LNK_CNT_LOCK_LOSS, .LNK_CNT_BAD_TYPE, .LNK_CNT_EB_OVF,
        .LNK_CNT_REBUILT, .LNK_CNT_PARITY_MISMATCH, .LNK_CNT_ERASED_ROWS, .CAP_CNT_INCOMPLETE, .CAP_CNT_OVERSIZE,
        .FST_RING_WP_BAND, .MST_STATUS, .MST_SPARE_USE, .MST_SPAR_STATE, .MST_CNT_CANCEL, .MST_CNT_INGEST_DROP,
        .HAL_CNT_QUEUE_DROP]
  | .skipSend .. | .deepRetry .. | .portDecide .. | .deepWakeOnSignal .. | .quadPllLocked .. | .injectBurst ..
  | .trigoPulseEnd .. | .refresh .. | .spareSelftest .. | .verdictDue .. | .scanLine .. | .loadpatDone .. | .waitusEnd ..
  | .delayEnd .. | .modulePoll .. | .toutPulseEnd .. | .ringSendTimeout .. | .lockoutEnd .. | .ssiReadStart .. =>
      []
  | .enterDoze .. | .wakeRow .. =>
      [.LNK_STATUS, .LNK_PATTERN, .LNK_CNT_BAD_HDR, .LNK_CNT_BAD_TYPE, .LNK_CNT_EB_OVF, .LNK_CNT_REBUILT,
        .LNK_CNT_PARITY_MISMATCH, .LNK_CNT_ERASED_ROWS, .LNK_BER_BITS_LO, .LNK_BER_ERRS]
  | .dozeExitTimeout .. =>
      [.LNK_STATUS, .LNK_CNT_DOZE_SLOW]
  | .deepAck .. =>
      [.LNK_STATUS, .LNK_PORT_STATUS, .LNK_PATTERN, .LNK_CNT_BAD_HDR, .LNK_CNT_BAD_TYPE, .LNK_CNT_EB_OVF, .LNK_CNT_REBUILT,
        .LNK_CNT_PARITY_MISMATCH, .LNK_CNT_ERASED_ROWS, .LNK_BER_BITS_LO, .LNK_BER_ERRS, .CAP_CNT_INCOMPLETE,
        .CAP_CNT_OVERSIZE, .FST_RING_WP_BAND, .MST_STATUS, .MST_SPARE_USE, .MST_SPAR_STATE, .MST_CNT_CANCEL,
        .MST_CNT_INGEST_DROP, .HAL_CNT_QUEUE_DROP]
  | .deepForce .. | .rateReduceTimeout .. =>
      [.LNK_STATUS, .LNK_PORT_STATUS, .LNK_CNT_REBUILT, .LNK_CNT_PARITY_MISMATCH, .LNK_CNT_ERASED_ROWS, .CAP_CNT_INCOMPLETE,
        .CAP_CNT_OVERSIZE, .FST_RING_WP_BAND, .MST_STATUS, .MST_SPARE_USE, .MST_SPAR_STATE, .MST_CNT_CANCEL,
        .MST_CNT_INGEST_DROP, .HAL_CNT_QUEUE_DROP]
  | .stripeHoldEnd .. =>
      [.LNK_CNT_REBUILT, .LNK_CNT_PARITY_MISMATCH, .LNK_CNT_ERASED_ROWS]
  | .laneEnable .. =>
      [.LNK_CTRL, .LNK_STATUS, .LNK_PORT_STATUS, .LNK_CNT_REBUILT, .LNK_CNT_PARITY_MISMATCH, .LNK_CNT_ERASED_ROWS,
        .CAP_CNT_INCOMPLETE, .CAP_CNT_OVERSIZE, .FST_RING_WP_BAND, .MST_STATUS, .MST_SPARE_USE, .MST_SPAR_STATE,
        .MST_CNT_CANCEL, .MST_CNT_INGEST_DROP, .HAL_CNT_QUEUE_DROP, .PCE_STATUS, .PCE_CNT_PRIV_REFUSED, .PCE_CNT_MSIX_DROP]
  | .deepReq .. =>
      [.LNK_CTRL, .LNK_STATUS, .PCE_STATUS, .PCE_CNT_PRIV_REFUSED, .PCE_CNT_MSIX_DROP]
  | .retrain .. =>
      [.LNK_STATUS, .LNK_PORT_STATUS, .LNK_CNT_LOCK_LOSS, .LNK_CNT_REBUILT, .LNK_CNT_PARITY_MISMATCH, .LNK_CNT_ERASED_ROWS,
        .CAP_CNT_INCOMPLETE, .CAP_CNT_OVERSIZE, .FST_RING_WP_BAND, .MST_STATUS, .MST_SPARE_USE, .MST_SPAR_STATE,
        .MST_CNT_CANCEL, .MST_CNT_INGEST_DROP, .HAL_CNT_QUEUE_DROP, .PCE_STATUS, .PCE_CNT_PRIV_REFUSED, .PCE_CNT_MSIX_DROP]
  | .patternClear .. =>
      [.LNK_BER_BITS_LO, .LNK_BER_BITS_HI, .LNK_BER_ERRS, .PCE_STATUS, .PCE_CNT_PRIV_REFUSED, .PCE_CNT_MSIX_DROP]
  | .injectShot .. | .defectMapWrite .. | .ringSend .. =>
      [.PCE_STATUS, .PCE_CNT_PRIV_REFUSED, .PCE_CNT_MSIX_DROP]
  | .berBitsLoRead .. =>
      [.LNK_BER_BITS_HI, .PCE_STATUS, .PCE_CNT_PRIV_REFUSED, .PCE_CNT_MSIX_DROP, .HLM_STATUS, .HLM_JOURNAL_USED]
  | .frameStart .. =>
      [.CAP_FRAME_NUM_LO, .CAP_CNT_FRAMES, .CAP_CNT_INCOMPLETE, .CAP_CNT_BAD_HCRC, .CAP_CNT_BAD_PCRC, .CAP_CNT_OVERSIZE,
        .CAP_CNT_RATE_EXCESS, .CAP_CNT_OPAQUE, .FST_CNT_NO_RING, .FST_RING_STATUS, .FST_RING_LAP, .FST_RING_WP_BAND,
        .FST_RING_HEAD, .FST_RING_TAIL, .FST_CNT_DROP, .FST_CNT_SPILL, .FST_CNT_VOID, .FST_CNT_SPAN_REFUSED, .MST_STATUS,
        .MST_SPARE_USE, .MST_SPAR_STATE, .MST_CNT_CANCEL, .MST_CNT_NO_STREAM, .MST_CNT_INGEST_DROP, .HAL_CNT_QUEUE_DROP,
        .PCE_STATUS, .PCE_CNT_PRIV_REFUSED, .PCE_CNT_MSIX_DROP, .DMA_STATUS, .DMA_CNT_CT_DROP, .DMA_CNT_CT_SIZE, .QUE_STATUS,
        .QUE_CNT_LOST, .QUE_CNT_PTR_ERR, .QUE_CNT_NO_QUEUE, .HLM_CNT_NOTICE_DROP, .PWR_FAULT_SUMMARY, .PWR_CNT_REEF_DROP]
  | .lineData .. =>
      [.CAP_CNT_BAD_HCRC, .CAP_CNT_BAD_PCRC, .CAP_CNT_ORPHAN, .CAP_CNT_OVERSIZE, .MST_STATUS, .MST_SPARE_USE,
        .MST_SPAR_STATE, .MST_CNT_CANCEL, .MST_CNT_INGEST_DROP]
  | .frameEnd .. =>
      [.CAP_CNT_INCOMPLETE, .CAP_CNT_BAD_HCRC, .CAP_CNT_BAD_PCRC, .CAP_CNT_ORPHAN, .CAP_CNT_OVERSIZE, .FST_RING_WP_BAND,
        .MST_STATUS, .MST_SPARE_USE, .MST_SPAR_STATE, .MST_CNT_CANCEL, .MST_CNT_INGEST_DROP, .HAL_CNT_QUEUE_DROP]
  | .closeTimeout .. =>
      [.CAP_CNT_INCOMPLETE, .CAP_CNT_OVERSIZE, .FST_RING_WP_BAND, .MST_STATUS, .MST_SPARE_USE, .MST_SPAR_STATE,
        .MST_CNT_CANCEL, .MST_CNT_INGEST_DROP, .HAL_CNT_QUEUE_DROP]
  | .hcrcFail .. =>
      [.CAP_CNT_BAD_HCRC]
  | .reservedPacket .. =>
      [.CAP_CNT_BAD_HCRC, .CAP_CNT_BAD_TYPE]
  | .cameraStatus .. =>
      [.CAP_CAM_STAT, .CAP_CNT_BAD_HCRC, .CAP_CNT_BAD_PCRC]
  | .camSilent .. =>
      [.CAP_PORT_FLAGS]
  | .controlResponse .. =>
      [.CAP_CTRL_CMD, .CAP_CTRL_STATUS, .CAP_CNT_BAD_HCRC, .CAP_CNT_BAD_PCRC, .CAP_CNT_ORPHAN]
  | .triggerAck .. =>
      [.CAP_CNT_BAD_HCRC, .CAP_CNT_TRIG_REFUSED]
  | .triggerAckTimeout .. =>
      [.CAP_CNT_TRIG_NOACK]
  | .ctrlGo .. =>
      [.CAP_CTRL_CMD, .CAP_CTRL_STATUS, .PCE_STATUS, .PCE_CNT_PRIV_REFUSED, .PCE_CNT_MSIX_DROP]
  | .controlRequestRetry .. =>
      [.CAP_CTRL_CMD, .CAP_CTRL_STATUS, .CAP_CNT_CTRL_RETRY]
  | .soft .. =>
      [.CAP_PORT_FLAGS, .CAP_CNT_TRIG_MERGED, .CAP_CNT_TRIG_HOLDOFF, .CAP_CNT_TRIG_DROP, .LUM_CH_STATUS, .LUM_CNT_OVERLAP,
        .LUM_CNT_DIAG_ABORT, .PCE_STATUS, .PCE_CNT_PRIV_REFUSED, .PCE_CNT_MSIX_DROP]
  | .scanPathCause .. =>
      [.CAP_PORT_FLAGS, .CAP_CNT_TRIG_MERGED, .CAP_CNT_TRIG_HOLDOFF, .CAP_CNT_TRIG_DROP, .LUM_CH_STATUS, .LUM_CNT_OVERLAP,
        .LUM_CNT_DIAG_ABORT]
  | .triggerBlockSend .. =>
      [.CAP_CNT_TRIG_SENT, .CAP_CNT_TRIG_DROP]
  | .compareArm .. =>
      [.CAP_ENC_CMP_NEXT, .PCE_STATUS, .PCE_CNT_PRIV_REFUSED, .PCE_CNT_MSIX_DROP]
  | .frameNumLoRead .. =>
      [.CAP_FRAME_NUM_HI, .PCE_STATUS, .PCE_CNT_PRIV_REFUSED, .PCE_CNT_MSIX_DROP, .HLM_STATUS, .HLM_JOURNAL_USED]
  | .fstMarkGo .. =>
      [.FST_CNT_SPAN_REFUSED, .HAL_CNT_QUEUE_DROP, .PCE_STATUS, .PCE_CNT_PRIV_REFUSED, .PCE_CNT_MSIX_DROP, .QUE_STATUS,
        .QUE_CNT_LOST, .QUE_CNT_PTR_ERR, .QUE_CNT_NO_QUEUE, .HLM_CNT_NOTICE_DROP, .PWR_FAULT_SUMMARY]
  | .markSearchDone .. =>
      [.FST_CNT_SPAN_REFUSED, .HAL_CNT_QUEUE_DROP, .PCE_STATUS, .PCE_CNT_MSIX_DROP, .QUE_STATUS, .QUE_CNT_LOST,
        .QUE_CNT_PTR_ERR, .QUE_CNT_NO_QUEUE, .HLM_CNT_NOTICE_DROP, .PWR_FAULT_SUMMARY]
  | .spanRelease .. | .spanReleaseAll .. =>
      [.HAL_CNT_QUEUE_DROP, .PCE_STATUS, .PCE_CNT_PRIV_REFUSED, .PCE_CNT_MSIX_DROP, .QUE_STATUS, .QUE_CNT_LOST,
        .QUE_CNT_PTR_ERR, .QUE_CNT_NO_QUEUE, .HLM_CNT_NOTICE_DROP, .PWR_FAULT_SUMMARY]
  | .spanHoldExpiry .. =>
      [.HAL_CNT_QUEUE_DROP, .PCE_STATUS, .PCE_CNT_MSIX_DROP, .QUE_STATUS, .QUE_CNT_LOST, .QUE_CNT_PTR_ERR, .QUE_CNT_NO_QUEUE,
        .HLM_CNT_NOTICE_DROP, .PWR_FAULT_SUMMARY]
  | .bar2Read .. =>
      [.FST_STATUS, .FST_CNT_BAD_ACCESS, .FST_CH_STATUS, .FST_CH_CE_BUCKET, .FST_CH_CNT_CE, .FST_CH_CNT_UE, .FST_CH_ECC_BAND,
        .FST_CH_ECC_INFO, .HAL_CNT_QUEUE_DROP, .PCE_STATUS, .PCE_CNT_PRIV_REFUSED, .PCE_CNT_POISON_TX, .PCE_CNT_MSIX_DROP,
        .DMA_STATUS, .HLM_CNT_NOTICE_DROP, .PWR_FAULT_SUMMARY]
  | .bar2Write .. =>
      [.FST_CNT_BAD_ACCESS, .PCE_STATUS, .PCE_CNT_PRIV_REFUSED, .PCE_CNT_MSIX_DROP]
  | .patrolScrub .. | .blockFetch .. =>
      [.FST_STATUS, .FST_CH_STATUS, .FST_CH_CE_BUCKET, .FST_CH_CNT_CE, .FST_CH_CNT_UE, .FST_CH_ECC_BAND, .FST_CH_ECC_INFO,
        .HAL_CNT_QUEUE_DROP, .PCE_STATUS, .PCE_CNT_MSIX_DROP, .DMA_STATUS, .HLM_CNT_NOTICE_DROP, .PWR_FAULT_SUMMARY]
  | .ceLeak .. =>
      [.FST_CH_CE_BUCKET]
  | .migrationCopy .. =>
      [.FST_STATUS, .FST_RES_USED, .FST_CH_STATUS, .FST_CH_CE_BUCKET, .FST_CH_CNT_CE, .FST_CH_CNT_UE, .FST_CH_ECC_BAND,
        .FST_CH_ECC_INFO, .HAL_CNT_QUEUE_DROP, .PCE_STATUS, .PCE_CNT_MSIX_DROP, .DMA_STATUS, .DMA_CUR_LO, .DMA_CUR_HI,
        .QUE_STATUS, .QUE_CNT_LOST, .QUE_CNT_PTR_ERR, .QUE_CNT_NO_QUEUE, .HLM_CNT_NOTICE_DROP, .PWR_FAULT_SUMMARY]
  | .forceWrap .. =>
      [.FST_RING_STATUS, .FST_RING_LAP, .FST_RING_WP_BAND]
  | .channelRetired .. =>
      [.FST_STATUS, .FST_CH_STATUS, .FST_RING_TAIL, .FST_CNT_VOID, .HAL_CNT_QUEUE_DROP, .PWR_DOM_STATUS]
  | .tileDispatch .. =>
      [.MST_STATUS, .MST_CNT_MP_LATE]
  | .add .. | .sub .. | .and .. | .or .. | .xor .. | .shl .. | .shr .. | .sar .. | .mul .. | .mulh .. | .min .. | .max ..
  | .slt .. | .sltu .. | .div .. | .divu .. | .isqrt .. | .cmp .. | .mfs .. | .addi .. | .andi .. | .ori .. | .xori ..
  | .lui .. | .shli .. | .shri .. | .sari .. | .cmpi .. | .ldw .. | .ldh .. | .ldhu .. | .stw .. | .sth .. | .vld .. | .vst ..
  | .vlut .. | .b .. | .call .. | .ret .. | .loop .. | .abort .. | .vadd .. | .vsub .. | .vadds .. | .vsubs .. | .vaddus ..
  | .vsubus .. | .vmul .. | .vmulq .. | .vmin .. | .vmax .. | .vminu .. | .vmaxu .. | .vand .. | .vor .. | .vxor ..
  | .vabsdu .. | .vshl .. | .vshr .. | .vsar .. | .vsel .. | .vsplat .. | .vmulw .. | .vmulwu .. | .vaccwu .. | .vnarrow ..
  | .vnarrowu .. | .vmac .. | .vmacu .. | .vaccr .. | .vaccz .. | .vcmpeq .. | .vcmpgt .. | .vcmpgtu .. | .vcmpgeu ..
  | .vrsum .. | .vrsumu .. | .vrmaxu .. | .vrmaxi .. | .vext .. | .mand .. | .mor .. | .mxor .. | .mnot .. | .mtos ..
  | .stom .. | .mpop .. | .srd .. | .srdr .. | .sseek .. | .swr .. | .swrs .. | .std .. | .hist .. | .hrd .. | .lcfg ..
  | .lab .. | .leol .. | .lrd .. | .mcfg .. | .mom .. | .mrd .. =>
      [.MST_STATUS, .MST_SPARE_USE, .MST_SPAR_STATE, .MST_CNT_TILES, .MST_CNT_ABANDON, .MST_CNT_PROG_FAULT, .MST_CNT_SHM_UE,
        .MST_CNT_NO_BEAM, .SHT_CNT_BAD_CHECK, .SHT_CNT_FOREIGN, .SHT_CNT_OVERRUN, .SHT_CNT_LOG_DROP, .SCN_CNT_CAL_USED,
        .SCN_CNT_CAL_DISCARD, .HAL_CNT_QUEUE_DROP, .PCE_STATUS, .PCE_CNT_MSIX_DROP, .QUE_STATUS, .QUE_CNT_LOST,
        .QUE_CNT_PTR_ERR, .QUE_CNT_NO_QUEUE, .HLM_CNT_NOTICE_DROP, .PWR_FAULT_SUMMARY]
  | .commit .. =>
      [.MST_STATUS, .MST_SPARE_USE, .MST_SPAR_STATE, .MST_CNT_TILES, .MST_CNT_RERUN, .MST_CNT_ABANDON, .MST_CNT_PROG_FAULT,
        .MST_CNT_CE, .MST_CNT_SHM_UE, .MST_CNT_NO_BEAM, .SHT_CNT_BAD_CHECK, .SHT_CNT_FOREIGN, .SHT_CNT_OVERRUN,
        .SHT_CNT_LOG_DROP, .SCN_CNT_CAL_USED, .SCN_CNT_CAL_DISCARD, .HAL_CNT_QUEUE_DROP, .PCE_STATUS, .PCE_CNT_MSIX_DROP,
        .QUE_STATUS, .QUE_CNT_LOST, .QUE_CNT_PTR_ERR, .QUE_CNT_NO_QUEUE, .HLM_CNT_NOTICE_DROP, .PWR_FAULT_SUMMARY]
  | .sparFault .. =>
      [.MST_STATUS, .MST_SPARE_USE, .MST_SPAR_STATE, .MST_CNT_RERUN, .MST_CNT_CE, .HAL_CNT_QUEUE_DROP, .PCE_STATUS,
        .PCE_CNT_MSIX_DROP, .HLM_CNT_NOTICE_DROP, .PWR_FAULT_SUMMARY]
  | .watchdogExpiry .. =>
      [.MST_STATUS, .MST_SPARE_USE, .MST_SPAR_STATE, .MST_CNT_TILES, .MST_CNT_RERUN, .MST_CNT_ABANDON, .MST_CNT_PROG_FAULT,
        .MST_CNT_SHM_UE, .MST_CNT_NO_BEAM, .SHT_CNT_BAD_CHECK, .SHT_CNT_FOREIGN, .SHT_CNT_OVERRUN, .SHT_CNT_LOG_DROP,
        .SCN_CNT_CAL_USED, .SCN_CNT_CAL_DISCARD, .HAL_CNT_QUEUE_DROP, .PCE_STATUS, .PCE_CNT_MSIX_DROP, .QUE_STATUS,
        .QUE_CNT_LOST, .QUE_CNT_PTR_ERR, .QUE_CNT_NO_QUEUE, .HLM_CNT_NOTICE_DROP, .PWR_FAULT_SUMMARY]
  | .selftestEnd .. =>
      [.MST_STATUS, .MST_SPARE_USE, .MST_SPAR_STATE, .HAL_CNT_QUEUE_DROP, .PCE_STATUS, .PCE_CNT_MSIX_DROP,
        .HLM_CNT_NOTICE_DROP, .PWR_FAULT_SUMMARY]
  | .shmScrub .. =>
      [.MST_CNT_CE]
  | .mastReload .. =>
      [.MST_STATUS]
  | .fault0Read .. =>
      [.MST_STATUS, .MST_FAULT1, .PCE_STATUS, .PCE_CNT_PRIV_REFUSED, .PCE_CNT_MSIX_DROP, .HLM_STATUS, .HLM_JOURNAL_USED]
  | .sheetRecord .. =>
      [.SHT_CNT_BAD_CHECK, .SHT_CNT_FOREIGN, .SHT_CNT_OVERRUN, .SHT_CNT_LOG_DROP]
  | .evaluation .. =>
      [.SHT_STATUS, .SHT_I_STATE, .SHT_LAST_OUT, .SHT_LAST_FRAME, .SHT_LAST_DELAY, .SHT_DELAY_MAX, .SHT_CNT_EVAL,
        .SHT_CNT_MISS, .SHT_CNT_STALE, .SHT_CNT_REJECT, .SHT_CNT_NOT_ENGAGED, .SHT_CNT_FALLBACK, .SHT_CNT_SUPERSEDED,
        .SHT_CNT_LOG_DROP, .BCH_STATUS, .SCN_STATUS, .SCN_HALT_RECORD, .SCN_HALT_OFFSET, .SCN_RECORD, .SCN_CNT_RECORDS,
        .SCN_CNT_HALT, .HAL_CNT_QUEUE_DROP]
  | .missTimer .. =>
      [.SHT_STATUS, .SHT_I_STATE, .SHT_LAST_OUT, .SHT_LAST_FRAME, .SHT_LAST_DELAY, .SHT_DELAY_MAX, .SHT_CNT_MISS,
        .SHT_CNT_FALLBACK, .SHT_CNT_SUPERSEDED, .SHT_CNT_LOG_DROP, .BCH_STATUS, .SCN_STATUS, .SCN_HALT_RECORD,
        .SCN_HALT_OFFSET, .SCN_RECORD, .SCN_CNT_RECORDS, .SCN_CNT_HALT, .HAL_CNT_QUEUE_DROP]
  | .shtStart .. =>
      [.SHT_STATUS, .PCE_STATUS, .PCE_CNT_PRIV_REFUSED, .PCE_CNT_MSIX_DROP]
  | .shtStop .. =>
      [.SHT_STATUS, .SHT_LAST_OUT, .SHT_LAST_DELAY, .SHT_DELAY_MAX, .SHT_CNT_SUPERSEDED, .SHT_CNT_LOG_DROP, .PCE_STATUS,
        .PCE_CNT_PRIV_REFUSED, .PCE_CNT_MSIX_DROP]
  | .resetState .. =>
      [.SHT_I_STATE, .PCE_STATUS, .PCE_CNT_PRIV_REFUSED, .PCE_CNT_MSIX_DROP]
  | .dacUpdate .. | .modulationPeriod .. | .digitalWord .. | .pulseEnd .. | .emitOff .. | .shroudLost .. | .rampOffEnd ..
  | .decelEnd .. | .backupEnd .. | .refireHoldEnd .. | .rotationHoldEnd .. | .dwellEnd .. | .waitTimeout .. =>
      [.SHT_STATUS, .SHT_I_STATE, .SHT_LAST_OUT, .SHT_LAST_FRAME, .SHT_LAST_DELAY, .SHT_DELAY_MAX, .SHT_CNT_FALLBACK,
        .SHT_CNT_SUPERSEDED, .SHT_CNT_LOG_DROP, .BCH_STATUS, .SCN_STATUS, .SCN_HALT_RECORD, .SCN_HALT_OFFSET, .SCN_RECORD,
        .SCN_CNT_RECORDS, .SCN_CNT_HALT, .HAL_CNT_QUEUE_DROP]
  | .trackingUpdate .. =>
      [.SHT_STATUS, .SHT_I_STATE, .SHT_LAST_OUT, .SHT_LAST_FRAME, .SHT_LAST_DELAY, .SHT_DELAY_MAX, .SHT_CNT_FALLBACK,
        .SHT_CNT_SUPERSEDED, .SHT_CNT_LOG_DROP, .BCH_STATUS, .BCH_CNT_HELD, .BCH_CNT_REVERSAL, .SCN_STATUS, .SCN_HALT_RECORD,
        .SCN_HALT_OFFSET, .SCN_RECORD, .SCN_CNT_RECORDS, .SCN_CNT_HALT, .HAL_CNT_QUEUE_DROP]
  | .pacedPulse .. =>
      [.SHT_STATUS, .SHT_I_STATE, .SHT_LAST_OUT, .SHT_LAST_FRAME, .SHT_LAST_DELAY, .SHT_DELAY_MAX, .SHT_CNT_FALLBACK,
        .SHT_CNT_SUPERSEDED, .SHT_CNT_LOG_DROP, .BCH_STATUS, .BCH_CNT_PULSES, .BCH_CNT_PULSE_SKIP, .SCN_STATUS,
        .SCN_HALT_RECORD, .SCN_HALT_OFFSET, .SCN_RECORD, .SCN_CNT_RECORDS, .SCN_CNT_HALT, .HAL_CNT_QUEUE_DROP]
  | .emitOn .. | .brefl .. | .alarm .. | .readyLost .. | .wdOnTime .. | .wdDwell .. | .wdMeter .. | .wdNoCopy .. =>
      [.SHT_STATUS, .SHT_I_STATE, .SHT_LAST_OUT, .SHT_LAST_FRAME, .SHT_LAST_DELAY, .SHT_DELAY_MAX, .SHT_CNT_FALLBACK,
        .SHT_CNT_SUPERSEDED, .SHT_CNT_LOG_DROP, .BCH_STATUS, .BCH_FAULT, .BCH_CNT_CUT, .SCN_STATUS, .SCN_HALT_RECORD,
        .SCN_HALT_OFFSET, .SCN_RECORD, .SCN_CNT_RECORDS, .SCN_CNT_HALT, .HAL_CNT_QUEUE_DROP, .PCE_STATUS, .PCE_CNT_MSIX_DROP,
        .HLM_CNT_NOTICE_DROP, .PWR_FAULT_SUMMARY]
  | .rotationDecide .. =>
      [.BCH_CNT_ROT_WAIT, .BCH_ROT_CFG]
  | .beamPermitChange .. =>
      [.SHT_STATUS, .SHT_I_STATE, .SHT_LAST_OUT, .SHT_LAST_FRAME, .SHT_LAST_DELAY, .SHT_DELAY_MAX, .SHT_CNT_FALLBACK,
        .SHT_CNT_SUPERSEDED, .SHT_CNT_LOG_DROP, .BCH_STATUS, .BCH_PERMIT, .SCN_STATUS, .SCN_HALT_RECORD, .SCN_HALT_OFFSET,
        .SCN_RECORD, .SCN_CNT_RECORDS, .SCN_CNT_HALT, .LUM_CH_STATUS, .LUM_PROJ_STATUS, .HAL_CNT_QUEUE_DROP, .PWR_MODE_STATUS]
  | .permitDisagree .. =>
      [.SHT_STATUS, .SHT_I_STATE, .SHT_LAST_OUT, .SHT_LAST_FRAME, .SHT_LAST_DELAY, .SHT_DELAY_MAX, .SHT_CNT_FALLBACK,
        .SHT_CNT_SUPERSEDED, .SHT_CNT_LOG_DROP, .BCH_STATUS, .BCH_PERMIT, .SCN_STATUS, .SCN_HALT_RECORD, .SCN_HALT_OFFSET,
        .SCN_RECORD, .SCN_CNT_RECORDS, .SCN_CNT_HALT, .LUM_CH_STATUS, .LUM_PROJ_STATUS, .HAL_CNT_QUEUE_DROP, .PCE_STATUS,
        .PCE_CNT_MSIX_DROP, .HLM_CNT_NOTICE_DROP, .PWR_MODE_STATUS, .PWR_FAULT_SUMMARY]
  | .permitFaultClear .. =>
      [.SHT_STATUS, .SHT_I_STATE, .SHT_LAST_OUT, .SHT_LAST_FRAME, .SHT_LAST_DELAY, .SHT_DELAY_MAX, .SHT_CNT_FALLBACK,
        .SHT_CNT_SUPERSEDED, .SHT_CNT_LOG_DROP, .BCH_STATUS, .BCH_PERMIT, .SCN_STATUS, .SCN_HALT_RECORD, .SCN_HALT_OFFSET,
        .SCN_RECORD, .SCN_CNT_RECORDS, .SCN_CNT_HALT, .LUM_CH_STATUS, .LUM_PROJ_STATUS, .HAL_CNT_QUEUE_DROP, .PCE_STATUS,
        .PCE_CNT_PRIV_REFUSED, .PCE_CNT_MSIX_DROP, .PWR_MODE_STATUS]
  | .cutClear .. =>
      [.SHT_STATUS, .SHT_I_STATE, .SHT_LAST_OUT, .SHT_LAST_FRAME, .SHT_LAST_DELAY, .SHT_DELAY_MAX, .SHT_CNT_FALLBACK,
        .SHT_CNT_SUPERSEDED, .SHT_CNT_LOG_DROP, .BCH_STATUS, .BCH_FAULT, .HAL_CNT_QUEUE_DROP, .PCE_STATUS,
        .PCE_CNT_PRIV_REFUSED, .PCE_CNT_MSIX_DROP]
  | .meterReading .. =>
      [.SHT_STATUS, .SHT_I_STATE, .SHT_LAST_OUT, .SHT_LAST_FRAME, .SHT_LAST_DELAY, .SHT_DELAY_MAX, .SHT_CNT_FALLBACK,
        .SHT_CNT_SUPERSEDED, .SHT_CNT_LOG_DROP, .BCH_STATUS, .BCH_FAULT, .BCH_METER_LAST, .BCH_CNT_METER, .SCN_STATUS,
        .SCN_HALT_RECORD, .SCN_HALT_OFFSET, .SCN_RECORD, .SCN_CNT_RECORDS, .SCN_CNT_HALT, .HAL_CNT_QUEUE_DROP, .PCE_STATUS,
        .PCE_CNT_MSIX_DROP, .HLM_CNT_NOTICE_DROP, .PWR_FAULT_SUMMARY]
  | .shroudFrameSend .. =>
      [.SHT_STATUS, .SHT_I_STATE, .SHT_LAST_OUT, .SHT_LAST_FRAME, .SHT_LAST_DELAY, .SHT_DELAY_MAX, .SHT_CNT_FALLBACK,
        .SHT_CNT_SUPERSEDED, .SHT_CNT_LOG_DROP, .BCH_STATUS, .SCN_STATUS, .SCN_HALT_RECORD, .SCN_HALT_OFFSET, .SCN_RECORD,
        .SCN_CNT_RECORDS, .SCN_CNT_FIELD_CLAMP, .SCN_CNT_HALT, .HAL_CNT_QUEUE_DROP]
  | .reentryEnd .. | .rampOnEnd .. =>
      [.SHT_STATUS, .SHT_I_STATE, .SHT_LAST_OUT, .SHT_LAST_FRAME, .SHT_LAST_DELAY, .SHT_DELAY_MAX, .SHT_CNT_FALLBACK,
        .SHT_CNT_SUPERSEDED, .SHT_CNT_LOG_DROP, .BCH_STATUS, .SCN_STATUS, .SCN_HALT_RECORD, .SCN_HALT_OFFSET, .SCN_RECORD,
        .SCN_CNT_RECORDS, .SCN_CNT_PAUSE, .SCN_CNT_HALT, .HAL_CNT_QUEUE_DROP]
  | .scnStart .. =>
      [.SHT_STATUS, .SHT_I_STATE, .SHT_LAST_OUT, .SHT_LAST_FRAME, .SHT_LAST_DELAY, .SHT_DELAY_MAX, .SHT_CNT_FALLBACK,
        .SHT_CNT_SUPERSEDED, .SHT_CNT_LOG_DROP, .BCH_STATUS, .SCN_STATUS, .SCN_STREAM_LEVEL, .SCN_HALT_RECORD,
        .SCN_HALT_OFFSET, .SCN_RECORD, .SCN_CNT_RECORDS, .SCN_CNT_HALT, .HAL_CNT_QUEUE_DROP, .PCE_STATUS,
        .PCE_CNT_PRIV_REFUSED, .PCE_CNT_MSIX_DROP]
  | .scnStop .. | .restartAtStop .. | .restartNextRecord .. | .restartNextLayer .. =>
      [.SHT_STATUS, .SHT_I_STATE, .SHT_LAST_OUT, .SHT_LAST_FRAME, .SHT_LAST_DELAY, .SHT_DELAY_MAX, .SHT_CNT_FALLBACK,
        .SHT_CNT_SUPERSEDED, .SHT_CNT_LOG_DROP, .BCH_STATUS, .SCN_STATUS, .SCN_HALT_RECORD, .SCN_HALT_OFFSET, .SCN_RECORD,
        .SCN_CNT_RECORDS, .SCN_CNT_HALT, .HAL_CNT_QUEUE_DROP, .PCE_STATUS, .PCE_CNT_PRIV_REFUSED, .PCE_CNT_MSIX_DROP]
  | .calibRecord .. =>
      [.SCN_CNT_CAL_USED, .SCN_CNT_CAL_DISCARD]
  | .strobeStart .. | .strobeEnd .. | .dimPulse .. | .diagPulse .. | .vfPeriod .. =>
      [.LUM_CH_STATUS]
  | .diagWindow .. | .lightFault .. =>
      [.LUM_CH_STATUS, .LUM_CH_FAULT, .HAL_CNT_QUEUE_DROP, .PCE_STATUS, .PCE_CNT_MSIX_DROP, .HLM_CNT_NOTICE_DROP,
        .PWR_FAULT_SUMMARY]
  | .lightFaultClear .. =>
      [.LUM_CH_STATUS, .LUM_CH_FAULT, .PCE_STATUS, .PCE_CNT_PRIV_REFUSED, .PCE_CNT_MSIX_DROP]
  | .undiagnosed .. =>
      [.LUM_CH_STATUS, .LUM_CNT_UNDIAG]
  | .vfTest .. =>
      [.LUM_CH_STATUS, .PCE_STATUS, .PCE_CNT_PRIV_REFUSED, .PCE_CNT_MSIX_DROP]
  | .vfTestEnd .. =>
      [.LUM_CH_STATUS, .LUM_CH_VF, .HAL_CNT_QUEUE_DROP]
  | .projSwap .. | .pixTest .. =>
      [.LUM_PROJ_STATUS, .PCE_STATUS, .PCE_CNT_PRIV_REFUSED, .PCE_CNT_MSIX_DROP]
  | .refreshFrameStart .. | .lumSeqEnd .. | .loadpat .. | .lumSeqSwap .. | .waithal .. | .waitus .. | .lumSeqLoop ..
  | .lumSeqJump .. | .lumSeqReserved .. =>
      [.LUM_PROJ_STATUS]
  | .projSync .. =>
      [.LUM_PROJ_STATUS, .LUM_CNT_SYNC_OVR]
  | .frameBufferWrite .. =>
      [.LUM_CNT_FRONT_WRITE, .PCE_STATUS, .PCE_CNT_PRIV_REFUSED, .PCE_CNT_MSIX_DROP]
  | .pixelJudge .. =>
      [.LUM_PROJ_STATUS, .LUM_CNT_PIX_OPEN, .LUM_CNT_PIX_SHORT]
  | .lumSeqLevel .. =>
      [.LUM_CH_STATUS, .LUM_CH_LEVEL, .LUM_PROJ_STATUS]
  | .lumSeqStrobe .. =>
      [.LUM_CH_STATUS, .LUM_CNT_OVERLAP, .LUM_CNT_DIAG_ABORT, .LUM_PROJ_STATUS]
  | .lumSeqEvent .. =>
      [.LUM_PROJ_STATUS, .HAL_CNT_QUEUE_DROP]
  | .halGroupCmd .. =>
      [.HAL_GROUP_STATE, .PCE_STATUS, .PCE_CNT_PRIV_REFUSED, .PCE_CNT_MSIX_DROP]
  | .halSeqCmd .. =>
      [.HAL_SEQ_RUN, .PCE_STATUS, .PCE_CNT_PRIV_REFUSED, .PCE_CNT_MSIX_DROP]
  | .halSeqEnd .. | .delay .. | .halSeqWait .. | .halSeqLoop .. | .halSeqJump .. | .halSeqReserved .. =>
      [.HAL_SEQ_RUN, .HAL_SEQ_ERR]
  | .pub .. =>
      [.HAL_CNT_QUEUE_DROP, .HAL_SEQ_RUN, .HAL_SEQ_ERR]
  | .halSeqWaitTimeout .. =>
      [.HAL_SEQ_RUN, .HAL_SEQ_TIMEOUT]
  | .gen .. | .gdis .. =>
      [.HAL_GROUP_STATE, .HAL_SEQ_RUN, .HAL_SEQ_ERR]
  | .perstN .. | .hotReset .. =>
      [.PCE_STATUS, .PCE_CNT_MSIX_DROP, .DMA_STATUS, .QUE_STATUS, .BOOT_MBX_STATUS, .SES_STATUS]
  | .dlDown .. =>
      [.PCE_STATUS, .PCE_CNT_MSIX_DROP, .PCE_CNT_LINK_DOWN, .DMA_STATUS, .QUE_STATUS, .BOOT_MBX_STATUS, .SES_STATUS]
  | .configRequest .. | .busMasterDisable .. | .busMasterEnable .. =>
      [.FST_CNT_BAD_ACCESS, .PCE_STATUS, .PCE_CNT_MSIX_DROP, .DMA_STATUS, .DMA_CUR_LO, .DMA_CUR_HI, .DMA_CNT_CT_DROP,
        .DMA_CNT_OWN_WAIT, .QUE_STATUS]
  | .bar4Access .. =>
      [.PCE_STATUS, .PCE_CNT_POISON_TX, .PCE_CNT_MSIX_DROP]
  | .msixUnmask .. | .tagRelease .. | .flrDone .. | .l0sEntry .. | .l1Entry .. =>
      [.PCE_STATUS]
  | .completion .. =>
      [.FST_CNT_BAD_ACCESS, .PCE_STATUS, .PCE_CNT_MSIX_DROP, .PCE_CNT_UNEXP_CPL, .PCE_CNT_BME_DROP, .PCE_CNT_FLR_DROP,
        .DMA_STATUS, .DMA_CUR_LO, .DMA_CUR_HI, .QUE_STATUS]
  | .completionTimeout .. =>
      [.FST_CNT_BAD_ACCESS, .PCE_STATUS, .PCE_CNT_MSIX_DROP, .PCE_CNT_CPL_TIMEOUT, .PCE_CNT_BME_DROP, .PCE_CNT_FLR_DROP,
        .DMA_STATUS, .DMA_CUR_LO, .DMA_CUR_HI, .QUE_STATUS]
  | .flr .. =>
      [.PCE_STATUS, .PCE_CNT_MSIX_DROP, .DMA_STATUS, .QUE_STATUS]
  | .flrDrainEnd .. =>
      [.PCE_STATUS, .BOOT_MBX_STATUS, .SES_STATUS]
  | .descriptorLoad .. =>
      [.FST_STATUS, .FST_CNT_BAD_ACCESS, .FST_CH_STATUS, .FST_CH_CE_BUCKET, .FST_CH_CNT_CE, .FST_CH_CNT_UE, .FST_CH_ECC_BAND,
        .FST_CH_ECC_INFO, .HAL_CNT_QUEUE_DROP, .PCE_STATUS, .PCE_CNT_MSIX_DROP, .DMA_STATUS, .DMA_CUR_LO, .DMA_CUR_HI,
        .DMA_CNT_OWN_WAIT, .QUE_STATUS, .HLM_CNT_NOTICE_DROP, .PWR_FAULT_SUMMARY]
  | .readBackDone .. =>
      [.FST_STATUS, .FST_CNT_BAD_ACCESS, .FST_CH_STATUS, .FST_CH_CE_BUCKET, .FST_CH_CNT_CE, .FST_CH_CNT_UE, .FST_CH_ECC_BAND,
        .FST_CH_ECC_INFO, .HAL_CNT_QUEUE_DROP, .PCE_STATUS, .PCE_CNT_MSIX_DROP, .DMA_STATUS, .DMA_CUR_LO, .DMA_CUR_HI,
        .DMA_CNT_DESC, .DMA_CNT_CT_TRUNC, .DMA_CNT_POISON, .DMA_CNT_OWN_WAIT, .QUE_STATUS, .HLM_CNT_NOTICE_DROP,
        .PWR_FAULT_SUMMARY]
  | .linkReread .. =>
      [.FST_STATUS, .FST_CH_STATUS, .FST_CH_CE_BUCKET, .FST_CH_CNT_CE, .FST_CH_CNT_UE, .FST_CH_ECC_BAND, .FST_CH_ECC_INFO,
        .HAL_CNT_QUEUE_DROP, .PCE_STATUS, .PCE_CNT_MSIX_DROP, .DMA_STATUS, .DMA_CUR_LO, .DMA_CUR_HI, .HLM_CNT_NOTICE_DROP,
        .PWR_FAULT_SUMMARY]
  | .dmaDoorbell .. =>
      [.FST_CNT_BAD_ACCESS, .PCE_STATUS, .PCE_CNT_PRIV_REFUSED, .PCE_CNT_MSIX_DROP, .DMA_STATUS, .DMA_DB_COUNT, .DMA_CUR_LO,
        .DMA_CUR_HI, .DMA_CNT_OWN_WAIT, .QUE_STATUS]
  | .dmaStart .. =>
      [.PCE_STATUS, .PCE_CNT_PRIV_REFUSED, .PCE_CNT_MSIX_DROP, .DMA_STATUS, .DMA_CUR_LO, .DMA_CUR_HI]
  | .dmaStop .. =>
      [.FST_CNT_BAD_ACCESS, .PCE_STATUS, .PCE_CNT_PRIV_REFUSED, .PCE_CNT_MSIX_DROP, .DMA_STATUS, .DMA_CUR_LO, .DMA_CUR_HI,
        .DMA_CNT_OWN_WAIT, .QUE_STATUS]
  | .dmaAbort .. =>
      [.PCE_STATUS, .PCE_CNT_PRIV_REFUSED, .PCE_CNT_MSIX_DROP, .DMA_STATUS, .QUE_STATUS]
  | .queueItem .. =>
      [.PCE_STATUS, .PCE_CNT_MSIX_DROP, .QUE_STATUS, .QUE_CNT_LOST, .QUE_CNT_POISONED, .QUE_CNT_PTR_ERR, .QUE_CNT_NO_QUEUE,
        .HLM_CNT_NOTICE_DROP, .PWR_FAULT_SUMMARY]
  | .queRdHead .. | .queRdData .. =>
      [.PCE_STATUS, .PCE_CNT_PRIV_REFUSED, .PCE_CNT_MSIX_DROP, .QUE_STATUS, .QUE_CNT_LOST, .QUE_CNT_PTR_ERR, .HLM_STATUS,
        .HLM_JOURNAL_USED, .HLM_CNT_NOTICE_DROP, .PWR_FAULT_SUMMARY]
  | .dropRest .. | .queueFlush .. =>
      [.PCE_STATUS, .PCE_CNT_PRIV_REFUSED, .PCE_CNT_MSIX_DROP, .QUE_STATUS, .QUE_CNT_LOST, .QUE_CNT_PTR_ERR,
        .HLM_CNT_NOTICE_DROP, .PWR_FAULT_SUMMARY]
  | .queWrHead .. =>
      [.PCE_STATUS, .PCE_CNT_PRIV_REFUSED, .PCE_CNT_MSIX_DROP, .QUE_STATUS, .QUE_CNT_LOST, .QUE_CNT_POISONED,
        .QUE_CNT_PTR_ERR, .HLM_CNT_NOTICE_DROP, .PWR_FAULT_SUMMARY]
  | .queWrData .. =>
      [.PCE_STATUS, .PCE_CNT_PRIV_REFUSED, .PCE_CNT_MSIX_DROP, .QUE_STATUS, .QUE_CNT_LOST, .QUE_CNT_PTR_ERR,
        .QUE_CNT_NO_QUEUE, .HLM_CNT_NOTICE_DROP, .PWR_FAULT_SUMMARY]
  | .timeStep .. =>
      [.CAP_PORT_FLAGS, .CAP_CNT_TRIG_MERGED, .CAP_CNT_TRIG_HOLDOFF, .CAP_CNT_TRIG_DROP, .LUM_CH_STATUS, .LUM_CNT_OVERLAP,
        .LUM_CNT_DIAG_ABORT, .HAL_CNT_QUEUE_DROP, .PCE_STATUS, .PCE_CNT_PRIV_REFUSED, .PCE_CNT_MSIX_DROP, .TIM_STATUS,
        .TIM_LAST_STEP, .TIM_SCH_STATUS]
  | .timSwitch .. =>
      [.HAL_CNT_QUEUE_DROP, .PCE_STATUS, .PCE_CNT_PRIV_REFUSED, .PCE_CNT_MSIX_DROP, .TIM_STATUS, .TIM_FREQ, .TIM_DOM_STATUS]
  | .sync .. | .followUp .. =>
      [.CAP_PORT_FLAGS, .CAP_CNT_TRIG_MERGED, .CAP_CNT_TRIG_HOLDOFF, .CAP_CNT_TRIG_DROP, .LUM_CH_STATUS, .LUM_CNT_OVERLAP,
        .LUM_CNT_DIAG_ABORT, .HAL_CNT_QUEUE_DROP, .TIM_STATUS, .TIM_FREQ, .TIM_LAST_STEP, .TIM_DOM_STATUS, .TIM_DOM_OFFSET,
        .TIM_DOM_FREQ, .TIM_PORT_CNT_PTP, .TIM_PORT_CNT_DISCARD, .TIM_SCH_STATUS]
  | .announce .. =>
      [.HAL_CNT_QUEUE_DROP, .TIM_STATUS, .TIM_FREQ, .TIM_DOM_STATUS, .TIM_DOM_GM_LO, .TIM_DOM_GM_HI, .TIM_PORT_CNT_PTP,
        .TIM_PORT_CNT_DISCARD]
  | .delayReq .. | .pdelayReq .. =>
      [.TIM_PORT_CNT_PTP, .TIM_PORT_CNT_DISCARD]
  | .delayResp .. | .pdelayResp .. | .pdelayRespFollowUp .. =>
      [.TIM_DOM_PATH, .TIM_PORT_CNT_PTP, .TIM_PORT_CNT_DISCARD]
  | .syncSend .. | .announceSend .. | .delayReqSend .. =>
      [.TIM_DOM_STATUS]
  | .syncLossTimeout .. =>
      [.HAL_CNT_QUEUE_DROP, .TIM_STATUS, .TIM_FREQ, .TIM_DOM_STATUS]
  | .announceReceiptTimeout .. =>
      [.HAL_CNT_QUEUE_DROP, .TIM_STATUS, .TIM_FREQ, .TIM_DOM_STATUS, .TIM_DOM_GM_LO, .TIM_DOM_GM_HI]
  | .portLinkChange .. =>
      [.TIM_DOM_STATUS, .TIM_PORT_STATUS]
  | .moduleInsert .. =>
      [.TIM_PORT_STATUS]
  | .scheduleArm .. | .scheduleDisarm .. =>
      [.PCE_STATUS, .PCE_CNT_PRIV_REFUSED, .PCE_CNT_MSIX_DROP, .TIM_SCH_CFG, .TIM_SCH_STATUS]
  | .scheduleFire .. =>
      [.CAP_PORT_FLAGS, .CAP_CNT_TRIG_MERGED, .CAP_CNT_TRIG_HOLDOFF, .CAP_CNT_TRIG_DROP, .LUM_CH_STATUS, .LUM_CNT_OVERLAP,
        .LUM_CNT_DIAG_ABORT, .HAL_CNT_QUEUE_DROP, .TIM_SCH_STATUS]
  | .capSecLoRead .. =>
      [.PCE_STATUS, .PCE_CNT_PRIV_REFUSED, .PCE_CNT_MSIX_DROP, .TIM_CAP_SEC_HI, .TIM_CAP_SUB, .TIM_CAP_STATUS, .HLM_STATUS,
        .HLM_JOURNAL_USED]
  | .nowSecLoRead .. =>
      [.PCE_STATUS, .PCE_CNT_PRIV_REFUSED, .PCE_CNT_MSIX_DROP, .TIM_NOW_SEC_HI, .TIM_NOW_SUB, .HLM_STATUS, .HLM_JOURNAL_USED]
  | .ringMessage .. =>
      [.HAL_CNT_QUEUE_DROP, .TIM_RING_STATUS, .TIM_RING_LAST, .TIM_RING_LOOP, .TIM_RING_CNT_RX, .TIM_RING_CNT_CRC,
        .TIM_RING_CNT_DROP]
  | .bypassOpen .. =>
      [.TIM_RING_STATUS]
  | .loadStart .. =>
      [.PWR_MODE_STATUS, .PWR_DOM_STATUS, .PWR_SUPPLY, .BOOT_STATUS, .BOOT_SVN, .BOOT_FLASH_INFO]
  | .erase .. | .programBuf .. | .copyStore .. | .verify .. | .retire .. =>
      [.PCE_STATUS, .PCE_CNT_PRIV_REFUSED, .PCE_CNT_MSIX_DROP, .BOOT_STATUS, .BOOT_PROGRESS]
  | .bootSwitch .. =>
      [.PCE_STATUS, .PCE_CNT_PRIV_REFUSED, .PCE_CNT_MSIX_DROP, .BOOT_STATUS, .BOOT_CNT_STAGED_DISCARD]
  | .cancelSwitch .. | .bootReservedOp .. =>
      [.PCE_STATUS, .PCE_CNT_PRIV_REFUSED, .PCE_CNT_MSIX_DROP, .BOOT_STATUS]
  | .burnSvn .. =>
      [.PCE_STATUS, .PCE_CNT_PRIV_REFUSED, .PCE_CNT_MSIX_DROP, .BOOT_STATUS, .BOOT_SVN]
  | .flashOpDone .. =>
      [.FST_STATUS, .FST_CH_STATUS, .FST_CH_CE_BUCKET, .FST_CH_CNT_CE, .FST_CH_CNT_UE, .FST_CH_ECC_BAND, .FST_CH_ECC_INFO,
        .HAL_CNT_QUEUE_DROP, .PCE_STATUS, .PCE_CNT_MSIX_DROP, .DMA_STATUS, .HLM_CNT_NOTICE_DROP, .PWR_FAULT_SUMMARY,
        .BOOT_STATUS, .BOOT_PROGRESS]
  | .stagingDone .. =>
      [.BOOT_STATUS]
  | .mbxOpen .. | .mbxClose .. =>
      [.PCE_STATUS, .PCE_CNT_MSIX_DROP, .BOOT_MBX_STATUS, .SES_STATUS]
  | .mbxProof .. =>
      [.PCE_STATUS, .PCE_CNT_MSIX_DROP, .BOOT_MBX_STATUS, .SES_STATUS, .SES_CNT_AUTH_FAIL]
  | .challengeLapse .. =>
      [.BOOT_MBX_STATUS]
  | .dgramOpen .. | .arpRequest .. | .neighbourSolicitation .. =>
      [.TIM_PORT_CNT_DISCARD]
  | .dgramProof .. =>
      [.TIM_PORT_CNT_DISCARD, .SES_STATUS, .SES_CNT_AUTH_FAIL]
  | .dgramClose .. =>
      [.TIM_PORT_CNT_DISCARD, .SES_STATUS, .SES_CNT_REPLAY, .SES_CNT_BAD_TAG]
  | .keepalive .. =>
      [.TIM_PORT_CNT_DISCARD, .SES_CNT_REPLAY, .SES_CNT_BAD_TAG]
  | .sessionIdleTimeout .. =>
      [.SES_STATUS]
  | .requestInvalidMode .. =>
      [.PCE_CNT_PRIV_REFUSED, .PWR_MODE_STATUS]
  | .domainOn .. | .domainOff .. =>
      [.LNK_STATUS, .LNK_PORT_STATUS, .LNK_CNT_REBUILT, .LNK_CNT_PARITY_MISMATCH, .LNK_CNT_ERASED_ROWS, .CAP_CNT_INCOMPLETE,
        .CAP_CNT_OVERSIZE, .FST_RING_WP_BAND, .MST_STATUS, .MST_SPARE_USE, .MST_SPAR_STATE, .MST_CNT_CANCEL,
        .MST_CNT_INGEST_DROP, .HAL_CNT_QUEUE_DROP, .PCE_STATUS, .PCE_CNT_PRIV_REFUSED, .PCE_CNT_MSIX_DROP, .PWR_MODE_STATUS,
        .PWR_DOM_STATUS, .PWR_DOM_PENDING]
  | .wakeStart .. =>
      [.PWR_INRUSH_LEVEL]
  | .powerGood .. =>
      [.LNK_STATUS, .CAP_ENC_COUNT, .HAL_CNT_QUEUE_DROP, .TIM_STATUS, .TIM_FREQ, .TIM_DOM_STATUS, .TIM_RING_STATUS,
        .PWR_DOM_STATUS, .PWR_DOM_PENDING]
  | .reefBufferEmpty .. =>
      [.FST_RING_WP_BAND, .HAL_CNT_QUEUE_DROP, .PWR_MODE_STATUS, .PWR_REEF_LAST]
  | .helmMiscompare .. =>
      [.PCE_STATUS, .PCE_CNT_MSIX_DROP, .HLM_STATUS, .HLM_CNT_MISCOMPARE, .HLM_CNT_NOTICE_DROP, .PWR_FAULT_SUMMARY]
  | .resyncDone .. =>
      [.HLM_STATUS, .HLM_LAST_RESYNC]
  | .hlmWdt .. =>
      [.HLM_WDT]
  | .replayEnd .. =>
      [.HLM_STATUS]
  | .encoderEdge .. =>
      [.CAP_PORT_FLAGS, .CAP_CNT_TRIG_MERGED, .CAP_CNT_TRIG_HOLDOFF, .CAP_CNT_TRIG_DROP, .CAP_ENC_CMP_NEXT, .CAP_ENC_COUNT,
        .CAP_ENC_CNT_ERR, .LUM_CH_STATUS, .LUM_CNT_OVERLAP, .LUM_CNT_DIAG_ABORT, .HAL_CNT_QUEUE_DROP]
  | .zEdge .. =>
      [.CAP_PORT_FLAGS, .CAP_CNT_TRIG_MERGED, .CAP_CNT_TRIG_HOLDOFF, .CAP_CNT_TRIG_DROP, .CAP_ENC_CMP_NEXT, .CAP_ENC_COUNT,
        .CAP_ENC_ZLATCH, .CAP_ENC_CNT_ERR, .LUM_CH_STATUS, .LUM_CNT_OVERLAP, .LUM_CNT_DIAG_ABORT, .HAL_CNT_QUEUE_DROP]
  | .encoderCountWrite .. =>
      [.CAP_PORT_FLAGS, .CAP_CNT_TRIG_MERGED, .CAP_CNT_TRIG_HOLDOFF, .CAP_CNT_TRIG_DROP, .CAP_ENC_CMP_NEXT, .CAP_ENC_COUNT,
        .CAP_ENC_CNT_ERR, .LUM_CH_STATUS, .LUM_CNT_OVERLAP, .LUM_CNT_DIAG_ABORT, .HAL_CNT_QUEUE_DROP, .PCE_STATUS,
        .PCE_CNT_PRIV_REFUSED, .PCE_CNT_MSIX_DROP]
  | .ssiReadEnd .. =>
      [.CAP_SSI_POS, .CAP_SSI_CNT_ERR]
  | .pathLoRead .. =>
      [.SHT_STATUS, .SHT_I_STATE, .SHT_LAST_OUT, .SHT_LAST_FRAME, .SHT_LAST_DELAY, .SHT_DELAY_MAX, .SHT_CNT_FALLBACK,
        .SHT_CNT_SUPERSEDED, .SHT_CNT_LOG_DROP, .BCH_STATUS, .SCN_STATUS, .SCN_HALT_RECORD, .SCN_HALT_OFFSET, .SCN_RECORD,
        .SCN_PATH_LO, .SCN_PATH_HI, .SCN_CNT_RECORDS, .SCN_CNT_HALT, .HAL_CNT_QUEUE_DROP, .PCE_STATUS, .PCE_CNT_PRIV_REFUSED,
        .PCE_CNT_MSIX_DROP, .HLM_STATUS, .HLM_JOURNAL_USED]
  | .shroudSyncLost .. =>
      [.SCN_CNT_SH_SYNC]
  | .pcieLinkUp .. | .unsupportedRequest .. =>
      [.PCE_STATUS, .PCE_CNT_MSIX_DROP]
  | .checkerLock .. =>
      [.LNK_PATTERN, .LNK_BER_BITS_LO, .LNK_BER_ERRS]

end Sys2Proof.Machine
end

