-- ==== Sys2Proof/Certificates/Slice0/Obligations.lean ====
section
/-!
DEFINITION. The statements: what each command does, what it leaves, and what holds of the whole block.
-/

open Sys2Proof Sys2Proof.Machine

/-- A step takes the command at the front of the queue and runs it with the rest of the queue
(95_what_each_step_holds.md). The queue is the model's form for commands that come from outside (log entries 14, 15
and 31). -/
def Obligations.StepRunsFront : Prop :=
  ∀ (c : Instr) (rest : List Instr) (s : State), s.pending = c :: rest → step s = exec c { s with pending := rest }

/-- With no command waiting one fine count passes (the model's choice, log entry 30) (R18, R30, R31). DESIGN CHOICE of log
entry 30. -/
def Obligations.StepIdles : Prop :=
  ∀ s : State, s.pending = [] → Answers (step s) fun t => t = s.idle ∧ t.fine = s.fine + 1 ∧ t.pending = [] ∧
    ∀ n, t.lstate n = s.lstate n

/-- After reset the block is in LOAD, not ready, with nothing open, nothing held and nothing waiting (R232, R513, R538,
17_register_index.md). The variant of State.reset is the model's choice (log entry 1), and DDR4 bytes read 0 by log
entry 7. -/
def Obligations.ResetValues : Prop :=
  State.reset.mode = modeLoad ∧ State.reset.ready = false ∧ State.reset.outbox = [] ∧ State.reset.pending = [] ∧ State.reset.staged = [] ∧
    (∀ d : Fin 80, State.reset.domOn d = false) ∧ (∀ n : Fin 64, State.reset.lstate n = lsDisabled) ∧
    (∀ (r : Reg) (i j : Nat), State.reset.rd r i j = r.resetAt j) ∧ Reg.resetAt .MST_SPAR_STATE 4 = 5

/-- The memories and the register file are in canonical form after reset (R136, R486, R565, R567). -/
def Obligations.ResetIsCanonical : Prop :=
  State.reset.canonical

/-- Every step keeps the memories and the register file in canonical form (R136, R486, R565, R567). -/
def Obligations.StepKeepsCanonical : Prop :=
  ∀ s t : State, s.canonical → step s = .next t → t.canonical

/-- Every command answers a next state, and none touches the queue or the variant (R1, R4, 95_what_each_step_holds.md). -/
def Obligations.CommandsKeepQueueAndVariant : Prop :=
  ∀ (c : Instr) (s : State), Answers (exec c s) fun t => t.pending = s.pending ∧ t.variant = s.variant

/-- What the lane commands leave unchanged (R5, R42, R54, R71). -/
def Obligations.LanesFrame : Prop :=
  ∀ (c : Instr) (s : State), chapterOf c = .lanes → Answers (exec c s) (Changes (partsOf c) (regsOf c) s)

/-- What the capture commands leave unchanged (R96, R114, R130). -/
def Obligations.CaptureFrame : Prop :=
  ∀ (c : Instr) (s : State), chapterOf c = .capture → Answers (exec c s) (Changes (partsOf c) (regsOf c) s)

/-- What the encoder and SSI commands leave unchanged (R553, R556). -/
def Obligations.EncodersFrame : Prop :=
  ∀ (c : Instr) (s : State), chapterOf c = .encoders → Answers (exec c s) (Changes (partsOf c) (regsOf c) s)

/-- What the frame store, commit and delivery commands leave unchanged (R136, R144, R154). -/
def Obligations.StoreFrame : Prop :=
  ∀ (c : Instr) (s : State), chapterOf c = .store → Answers (exec c s) (Changes (partsOf c) (regsOf c) s)

/-- What the mast commands leave unchanged (R185, R188). -/
def Obligations.MastsFrame : Prop :=
  ∀ (c : Instr) (s : State), chapterOf c = .masts → Answers (exec c s) (Changes (partsOf c) (regsOf c) s)

/-- What the spar instructions leave unchanged (R199, R225). -/
def Obligations.SparsFrame : Prop :=
  ∀ (c : Instr) (s : State), chapterOf c = .spars → Answers (exec c s) (Changes (partsOf c) (regsOf c) s)

/-- What the sheet commands leave unchanged (R235). -/
def Obligations.SheetsFrame : Prop :=
  ∀ (c : Instr) (s : State), chapterOf c = .sheets → Answers (exec c s) (Changes (partsOf c) (regsOf c) s)

/-- What the beam channel commands leave unchanged (R267). -/
def Obligations.BeamsFrame : Prop :=
  ∀ (c : Instr) (s : State), chapterOf c = .beams → Answers (exec c s) (Changes (partsOf c) (regsOf c) s)

/-- What the records and commands of the scan programs leave unchanged (R304). -/
def Obligations.RecordsFrame : Prop :=
  ∀ (c : Instr) (s : State), chapterOf c = .records → Answers (exec c s) (Changes (partsOf c) (regsOf c) s)

/-- What the motion and coordination commands leave unchanged (R314). -/
def Obligations.ScanMotionFrame : Prop :=
  ∀ (c : Instr) (s : State), chapterOf c = .scanMotion → Answers (exec c s) (Changes (partsOf c) (regsOf c) s)

/-- What the lighting commands leave unchanged (R349). -/
def Obligations.LightFrame : Prop :=
  ∀ (c : Instr) (s : State), chapterOf c = .light → Answers (exec c s) (Changes (partsOf c) (regsOf c) s)

/-- What the halyard commands leave unchanged (R376). -/
def Obligations.HalyardsFrame : Prop :=
  ∀ (c : Instr) (s : State), chapterOf c = .halyards → Answers (exec c s) (Changes (partsOf c) (regsOf c) s)

/-- What the PCI Express commands and register accesses leave unchanged (R399, R403). -/
def Obligations.HostFrame : Prop :=
  ∀ (c : Instr) (s : State), chapterOf c = .host → Answers (exec c s) (Changes (partsOf c) (regsOf c) s)

/-- What the DMA and queue commands leave unchanged (R431). -/
def Obligations.DmaFrame : Prop :=
  ∀ (c : Instr) (s : State), chapterOf c = .dma → Answers (exec c s) (Changes (partsOf c) (regsOf c) s)

/-- What the time commands leave unchanged (R463). -/
def Obligations.TimeFrame : Prop :=
  ∀ (c : Instr) (s : State), chapterOf c = .time → Answers (exec c s) (Changes (partsOf c) (regsOf c) s)

/-- What the boot and session commands leave unchanged (R485). -/
def Obligations.BootFrame : Prop :=
  ∀ (c : Instr) (s : State), chapterOf c = .boot → Answers (exec c s) (Changes (partsOf c) (regsOf c) s)

/-- What the power and helm commands leave unchanged (R513). -/
def Obligations.PowerFrame : Prop :=
  ∀ (c : Instr) (s : State), chapterOf c = .power → Answers (exec c s) (Changes (partsOf c) (regsOf c) s)

/-- Bring-up of a lane: each event takes it to the state its rule names, and a lost lane counts (R54, R55, R56, R62, R69,
R70, R80, R87). -/
def Obligations.LaneBringUp : Prop :=
  (∀ (n : Fin 64) (s : State), s.laneRuns n → s.lstate n = lsSignal →
    Answers (exec (.signalDetectQualified n) s) fun t =>
      t.lstate n = lsCdr ∧ t.fld F.LNK_STATUS_SIG_DET n = 1) ∧
  (∀ (n : Fin 64) (s : State), s.laneRuns n → lsCdr ≤ s.lstate n → s.lstate n ≤ lsTrain → (s.ln n).dozeFail = false →
    Answers (exec (.signalLost n) s) fun t =>
      t.lstate n = lsSignal ∧ t.fld F.LNK_STATUS_SIG_DET n = 0) ∧
  (∀ (n : Fin 64) (s : State), s.laneRuns n → s.losable n →
    Answers (exec (.signalLost n) s) fun t =>
      Counted .LNK_CNT_LOCK_LOSS n s t) ∧
  (∀ (n : Fin 64) (s : State), s.laneRuns n → s.losable n →
    Answers (exec (.lockLoss n) s) fun t =>
      Counted .LNK_CNT_LOCK_LOSS n s t) ∧
  (∀ (n : Fin 64) (s : State), s.laneRuns n → s.losable n →
    Answers (exec (.cdrLockLost n) s) fun t =>
      Counted .LNK_CNT_LOCK_LOSS n s t) ∧
  (∀ (n : Fin 64) (s : State), s.laneRuns n → s.lstate n = lsAlign ∨ s.lstate n = lsTrain → (s.ln n).dozeFail = false →
    Answers (exec (.lockLoss n) s) fun t =>
      t.lstate n = lsSignal) ∧
  (∀ (n : Fin 64) (s : State), s.laneRuns n → s.lstate n = lsCdr →
    Answers (exec (.cdrLocked n) s) fun t =>
      t.lstate n = lsHunt ∧ t.fld F.LNK_STATUS_CDR_LOCK n = 1) ∧
  (∀ (n : Fin 64) (dt : Nat) (s : State), s.laneRuns n → s.lstate n = lsCdr → (s.ln n).dozeFail = false →
    Answers (exec (.cdrLockTimeout n dt) s) fun t =>
      t.lstate n = lsSignal ∧ Counted .LNK_CNT_LOCK_LOSS n s t ∧ (s.ln n).since + fineOfUs 100 ≤ t.fine) ∧
  (∀ (n : Fin 64) (s : State), s.laneRuns n → s.lstate n = lsHunt →
    Answers (exec (.blockLock n) s) fun t =>
      t.lstate n = lsAlign ∧ t.fld F.LNK_STATUS_BLOCK_LOCK n = 1) ∧
  (∀ (n : Fin 64) (dt : Nat) (s : State), s.laneRuns n → s.lstate n = lsHunt → (s.ln n).dozeFail = false →
    Answers (exec (.huntTimeout n dt) s) fun t =>
      t.lstate n = lsCdr ∧ (s.ln n).since + fineOfUs 2 ≤ t.fine) ∧
  (∀ (n : Fin 64) (dt : Nat) (s : State), s.laneRuns n → s.lstate n = lsTrain → (s.ln n).dozeFail = false →
    Answers (exec (.trainTimeout n dt) s) fun t =>
      t.lstate n = lsFailed ∧ t.fld F.LNK_STATUS_TRAIN_FAIL n = 1 ∧
      (s.ln n).since + fineOfUs (100 * max 1 (s.fld F.LNK_TRAIN_TIMEOUT n)) ≤ t.fine) ∧
  (∀ (n : Fin 64) (dt : Nat) (s : State), s.laneRuns n → s.lstate n = lsFailed →
    Answers (exec (.failedTimeout n dt) s) fun t =>
      t.lstate n = lsSignal ∧ (s.ln n).since + fineOfUs 10000 ≤ t.fine) ∧
  (∀ (who : Requester) (n : Fin 64) (on : Bool) (s : State), s.mayWrite who .LNK_CTRL n →
    Answers (exec (.laneEnable who n on) s) fun t =>
      t.fld F.LNK_CTRL_ENABLE n = b2n on) ∧
  (∀ (who : Requester) (n : Fin 64) (s : State), s.mayWrite who .LNK_CTRL n → lsSignal ≤ s.lstate n → s.lstate n ≤ lsTrain →
    Answers (exec (.laneEnable who n false) s) fun t =>
      t.lstate n = lsDisabled) ∧
  (∀ (who : Requester) (n : Fin 64) (on : Bool) (s : State), s.mayWrite who .LNK_CTRL n →
    Answers (exec (.deepReq who n on) s) fun t =>
      t.fld F.LNK_CTRL_DEEP_REQ n = b2n on) ∧
  (∀ (n : Fin 64) (dt : Nat) (s : State), s.laneRuns n → (s.ln n).dozeFail →
    ∀ p ∈ [(Instr.signalLost n, lsHunt), (.lockLoss n, lsAlign), (.cdrLockTimeout n dt, lsCdr), (.huntTimeout n dt, lsHunt),
      (.trainTimeout n dt, lsTrain)], s.lstate n = p.2 →
    Answers (exec p.1 s) fun t => t.fld F.LNK_STATUS_LOST n = 1 ∧ Counted .LNK_CNT_LOCK_LOSS n s t) ∧
  (∀ (who : Requester) (n : Fin 64) (s : State), s.mayWrite who .LNK_CTRL n → lsSignal ≤ s.lstate n → s.lstate n ≤ lsTrain → (s.ln n).dozeFail = false →
    Answers (exec (.retrain who n) s) fun t =>
      t.lstate n = lsSignal)

/-- Training: a REQUEST moves the Swista's own taps, an answer reports the far taps, READY and ABORT act, and measurements
advance the script (R46, R59, R60, R61, R62). -/
def Obligations.LaneTraining : Prop :=
  (∀ (n : Fin 64) (blk : LineBlock) (s : State), s.takesTraining n blk 1 → natBit (fieldLE (s.ctlOf n blk) 3 1) 6 → fieldLE (s.ctlOf n blk) 4 1 < 8 →
    Answers (exec (.trainingRequest n blk) s) fun t =>
      t.fld F.LNK_TAPS_OWN_PRE n = (presetTaps (fieldLE (s.ctlOf n blk) 4 1)).1 ∧
      t.fld F.LNK_TAPS_OWN_MAIN n = (presetTaps (fieldLE (s.ctlOf n blk) 4 1)).2.1 ∧
      t.fld F.LNK_TAPS_OWN_POST n = (presetTaps (fieldLE (s.ctlOf n blk) 4 1)).2.2) ∧
  (∀ (n : Fin 64) (blk : LineBlock) (s : State), s.takesTraining n blk 1 → fieldLE (s.ctlOf n blk) 3 1 = 1 → s.fld F.LNK_TAPS_OWN_PRE n < 8 → s.fld F.LNK_TAPS_OWN_PRE n + s.fld F.LNK_TAPS_OWN_MAIN n + s.fld F.LNK_TAPS_OWN_POST n < 48 →
    Answers (exec (.trainingRequest n blk) s) fun t =>
      t.fld F.LNK_TAPS_OWN_PRE n = s.fld F.LNK_TAPS_OWN_PRE n + 1) ∧
  (∀ (n : Fin 64) (blk : LineBlock) (q : TrainReq) (s : State), s.takesTraining n blk 2 → s.lstate n = lsTrain → (s.ln n).req = some q → q.seq = fieldLE (s.ctlOf n blk) 2 1 / 16 → s.adaptive n → (s.ln n).measured < 8 →
    Answers (exec (.trainingStatus n blk) s) fun t =>
      (t.ln n).req = none ∧ t.fld F.LNK_TAPS_FAR_PRE n = fieldLE (s.ctlOf n blk) 6 1 % 16 ∧
      t.fld F.LNK_TAPS_FAR_POST n = fieldLE (s.ctlOf n blk) 7 1 % 32 ∧ t.fld F.LNK_TAPS_FAR_MAIN n = fieldLE (s.ctlOf n blk) 8 1 % 64) ∧
  (∀ (n : Fin 64) (blk : LineBlock) (s : State), s.takesTraining n blk 3 → s.lstate n = lsTrain → (s.ln n).rdyTx = false →
    Answers (exec (.trainingReady n blk) s) fun t =>
      (t.ln n).rdyRx = true ∧ t.lstate n = lsTrain) ∧
  (∀ (n : Fin 64) (blk : LineBlock) (s : State), s.takesTraining n blk 3 → s.lstate n = lsTrain → (s.ln n).rdyTx →
    Answers (exec (.trainingReady n blk) s) fun t =>
      t.lstate n = lsDeskew) ∧
  (∀ (n : Fin 64) (blk : LineBlock) (s : State), s.takesTraining n blk 4 → s.lstate n = lsTrain → (s.ln n).dozeFail = false →
    Answers (exec (.trainingAbort n blk) s) fun t =>
      t.lstate n = lsFailed ∧ t.fld F.LNK_STATUS_TRAIN_FAIL n = 1) ∧
  (∀ (n : Fin 64) (dt : Nat) (q : TrainReq) (s : State), s.laneRuns n → s.lstate n = lsTrain → (s.ln n).req = some q → q.repeats < 4 →
    Answers (exec (.trainingRequestRepeat n dt) s) fun t =>
      (t.ln n).req = some { q with repeats := q.repeats + 1, at0 := t.fine } ∧ q.at0 + fineOfUs 4 ≤ t.fine) ∧
  (∀ (n : Fin 64) (dt : Nat) (q : TrainReq) (s : State), s.laneRuns n → s.lstate n = lsTrain → (s.ln n).req = some q → 4 ≤ q.repeats → (s.ln n).dozeFail = false →
    Answers (exec (.trainingRequestRepeat n dt) s) fun t =>
      t.lstate n = lsFailed) ∧
  (∀ (n : Fin 64) (m : Nat) (s : State), s.laneRuns n → s.lstate n = lsTrain → s.adaptive n → (s.ln n).req = none → (s.ln n).rdyTx = false → 0 < (s.ln n).measured → (s.ln n).measured < 8 →
    Answers (exec (.eyeMeasurement n m) s) fun t =>
      (t.ln n).measured = (s.ln n).measured + 1 ∧ (t.ln n).margin = max (s.ln n).margin m ∧
      (t.ln n).best = if (s.ln n).margin < m then (s.ln n).measured else (s.ln n).best)

/-- Control blocks, data rows and stripes of a port: what each appends to the byte stream and what it counts (R44, R46,
R47, R49, R50, R51, R53, R64, R73, R76, R77, R78). -/
def Obligations.LaneBlocksAndStripes : Prop :=
  (∀ (n : Fin 64) (blk : LineBlock) (s : State), s.laneRuns n → s.flag F.LNK_STATUS_BLOCK_LOCK n → (s.rxBlock n blk).1.hdr = 1 → (s.rxBlock n blk).1.line &&& 0xFF#256 = 0x5C#256 →
    Answers (exec (.stuffedBlock n blk) s) fun t =>
      Counted .LNK_CNT_STUFF n s t ∧ (t.ln n).stuffed = (s.ln n).stuffed + 1 ∧
      (s.loopback n = 0 → (t.ln n).rx = lastBits (blk.pre.getD (s.ln n).rx) blk.pay)) ∧
  (∀ (n : Fin 64) (blk : LineBlock) (s : State), s.laneRuns n → s.flag F.LNK_STATUS_BLOCK_LOCK n →
    Answers (exec (.reservedTypeBlock n blk) s) fun t =>
      Counted .LNK_CNT_BAD_TYPE n s t) ∧
  (∀ (n : Fin 64) (slot : Nat) (blk : LineBlock) (s : State), s.laneRuns n → s.lstate n = lsUp → (s.lineIn n blk).1.lost = false → skipSense (s.lineIn n blk).1 = some (s.flag F.LNK_STATUS_RX_INVERTED n) → s.flag F.LNK_CTRL_RX_POL_AUTO n ∨ s.flag F.LNK_CTRL_RX_INVERT n = s.flag F.LNK_STATUS_RX_INVERTED n → crcOk (s.ctlOf n blk) 8 → (s.ln n).skip = none → fieldLE (s.ctlOf n blk) 4 2 % 2 ^ s.portWidth (s.portAt n) = s.activeMask (s.portAt n) → (s.pt (s.portAt n)).parity = false →
    Answers (exec (.skipBlock n slot blk) s) fun t =>
      (t.ln n).skip = some (fieldLE (s.ctlOf n blk) 2 2, slot) ∧ (t.ln n).stuffed = 0 ∧
      t.fld F.LNK_STATUS_LANE_ID n = fieldLE (s.ctlOf n blk) 1 1 % 16 ∧ t.lstate n = lsUp) ∧
  (∀ (n : Fin 64) (slot : Nat) (blk : LineBlock) (inv : Bool) (s : State), s.laneRuns n → s.losable n → (s.lineIn n blk).1.lost = false → skipSense (s.lineIn n blk).1 = some inv → crcOk ((s.lineIn n blk).2.takeBlock n (s.lineIn n blk).1 inv).1.ctl 8 = false →
    Answers (exec (.skipBlock n slot blk) s) fun t =>
      Counted .LNK_CNT_SKIP_ERR n s t ∧ Counted .LNK_CNT_BAD_TYPE n s t) ∧
  (∀ (p : Fin 64) (dt : Nat) (s : State), s.portWidth p ≠ 0 → s.ready →
    Answers (exec (.skipSend p dt) s) fun t =>
      (t.pt p).txSeq = ((s.pt p).txSeq + 1) % 65536 ∧ (t.pt p).slots = 0 ∧ (t.pt p).txStuff = 0 ∧ (s.pt p).skipAt + slotsEnd 1024 ≤ t.fine) ∧
  (∀ (p : Fin 64) (blk : LineBlock) (s : State), s.ready → s.portUp p → s.portWidth p = 1 → s.activeMask p = 1 → (s.pt p).parity = false → s.lstate p = lsUp → s.mode ≠ modeService → (s.rxBlock p blk).1.isData →
    Answers (exec (.dataRow p [blk]) s) fun t =>
      (t.pt p).bytes = (s.pt p).bytes ++ markBytes 0 (s.rxBlock p blk).1.bits) ∧
  (∀ (p : Fin 64) (blk : LineBlock) (s : State), s.ready → s.portUp p → s.portWidth p = 1 → s.activeMask p = 1 → (s.pt p).parity = false → s.lstate p = lsUp → (s.rxBlock p blk).1.validHdr = false → (s.rxBlock p blk).1.lost = false → s.flag F.LNK_STATUS_BLOCK_LOCK p → (s.ln p).quietTill ≤ s.fine → s.mode ≠ modeService →
    Answers (exec (.dataRow p [blk]) s) fun t =>
      Counted .LNK_CNT_BAD_HDR p s t ∧ Counted .LNK_CNT_ERASED_ROWS p s t ∧
      (t.pt p).bytes = (s.pt p).bytes ++ markBytes 2 (s.rxBlock p blk).1.bits) ∧
  (∀ (p : Fin 64) (blocks : List LineBlock) (s : State), s.ready → s.portUp p → s.portWidth p ≠ 0 → blocks.length = s.portWidth p → s.mode ≠ modeService → (s.settle p blocks).1.isData → ((s.settle p blocks).2.pt p).parity = false →
    Answers (exec (.dataRow p blocks) s) fun t =>
      (t.pt p).bytes = ((s.settle p blocks).2.pt p).bytes ++ ((s.settle p blocks).2.activeLanes p).flatMap (fun i =>
        markBytes (if (s.settle p blocks).1.used.contains i then 0 else 2) ((s.settle p blocks).1.block i).bits)) ∧
  (∀ (p : Fin 64) (x : Stripe) (rest : List Stripe) (s : State), (s.pt p).held = x :: rest → x.erased = [] → x.checks →
    Answers (exec (.stripeHoldEnd p) s) fun t =>
      (t.pt p).held = rest ∧ (t.pt p).bytes = (s.pt p).bytes ++
        ((List.range x.blocks.length).filter (· != parityLane x.blocks.length x.num)).flatMap
          (fun i => markBytes 0 (x.blocks.getD i (0, true)).1)) ∧
  (∀ (p : Fin 64) (x : Stripe) (rest : List Stripe) (e : Nat) (s : State), (s.pt p).held = x :: rest → x.erased = [e] ∨ x.erased = [] ∧ x.checks = false ∧ x.late = some e → e ≠ parityLane x.blocks.length x.num →
    Answers (exec (.stripeHoldEnd p) s) fun t =>
      (t.pt p).held = rest ∧ Counted .LNK_CNT_REBUILT p s t ∧ (t.pt p).bytes = (s.pt p).bytes ++
        ((List.range x.blocks.length).filter (· != parityLane x.blocks.length x.num)).flatMap
          (fun i => if i = e then markBytes 1 (x.xorBut e) else markBytes 0 (x.blocks.getD i (0, true)).1)) ∧
  (∀ (p : Fin 64) (x : Stripe) (rest : List Stripe) (s : State), (s.pt p).held = x :: rest → x.erased = [] → x.checks = false → x.late = none →
    Answers (exec (.stripeHoldEnd p) s) fun t =>
      (t.pt p).held = rest ∧ Counted .LNK_CNT_PARITY_MISMATCH p s t ∧ (t.pt p).bytes = (s.pt p).bytes ++
        ((List.range x.blocks.length).filter (· != parityLane x.blocks.length x.num)).flatMap
          (fun i => markBytes 3 (x.blocks.getD i (0, true)).1)) ∧
  (∀ (n : Fin 64) (s : State), s.laneRuns n → s.flag F.LNK_STATUS_SUSPECT n → 64 ≤ (s.ln n).good →
    Answers (exec (.suspectClear n) s) fun t =>
      t.fld F.LNK_STATUS_SUSPECT n = 0 ∧ (t.ln n).good = 0) ∧
  (∀ (p : Fin 64) (dt d w0 : Nat) (s : State), s.portWidth p ≠ 0 → s.portUp p = false → (s.pt p).wait = some w0 → (s.pt p).decided = none → s.portDecision p = some d →
    Answers (exec (.portDecide p dt) s) fun t =>
      (t.pt p).decided = some d ∧ w0 + fineOfUs (100 * max 1 (s.fld F.LNK_TRAIN_TIMEOUT p)) ≤ t.fine) ∧
  (∀ (p : Fin 64) (dt w0 : Nat) (s : State), s.portWidth p ≠ 0 → s.portUp p = false → (s.pt p).wait = some w0 → (s.pt p).decided = none → s.portDecision p = none →
    Answers (exec (.portDecide p dt) s) fun t =>
      (t.pt p).wait = none ∧ (t.pt p).decided = none) ∧
  (∀ (p : Fin 64) (dt : Nat) (r : RateMsg) (s : State), (s.pt p).rate = some r → r.restore = false → s.portUp p → r.sent < 8 →
    Answers (exec (.rateReduceTimeout p dt) s) fun t =>
      (t.pt p).rate.map (fun (x : RateMsg) => (x.mask, x.sent, x.restore)) = some (r.mask, r.sent + 1, false) ∧ r.at0 + slotsEnd 4100 ≤ t.fine) ∧
  (∀ (p : Fin 64) (dt : Nat) (r : RateMsg) (s : State), (s.pt p).rate = some r → r.restore = false → s.portUp p → 8 ≤ r.sent →
    Answers (exec (.rateReduceTimeout p dt) s) fun t =>
      t.portUp p = false ∧ r.at0 + slotsEnd 4100 ≤ t.fine)

/-- Doze and deep of a port's lanes, and the pattern checker and injector (R66, R67, R68, R69, R70, R84, R85, R93, R94,
R95). -/
def Obligations.LaneLowPowerAndTests : Prop :=
  (∀ (p : Fin 64) (blocks : List LineBlock) (n : Nat) (s : State), s.ready → blocks.length = s.portWidth p → (s.powerRow p blocks).1 = some 1 → (s.powerRow p blocks).2.dozeNak p = false → n ∈ (s.powerRow p blocks).2.portLanes p →
    Answers (exec (.enterDoze p blocks) s) fun t =>
      t.lstate n = lsDoze) ∧
  (∀ (p : Fin 64) (blocks : List LineBlock) (s : State), s.ready → s.portWidth p ≠ 0 → blocks.length = s.portWidth p → (s.powerRow p blocks).1 = some 1 → (s.powerRow p blocks).2.dozeNak p →
    Answers (exec (.enterDoze p blocks) s) fun t =>
      t = (s.powerRow p blocks).2.sendPower p 4) ∧
  (∀ (p : Fin 64) (blocks : List LineBlock) (n : Nat) (s : State), blocks.length = s.portWidth p → (s.portLanes p).all (fun n => decide (s.lstate n = lsDoze)) → (s.powerRow p blocks).1 = some 5 → n ∈ (s.powerRow p blocks).2.portLanes p →
    Answers (exec (.wakeRow p blocks) s) fun t =>
      t.lstate n = lsUp) ∧
  (∀ (p : Fin 64) (n : Nat) (s : State), n ∈ s.portLanes p → s.lstate n = lsDoze →
    Answers (exec (.dozeExitTimeout p) s) fun t =>
      t.lstate n = lsCdr) ∧
  (∀ (p : Fin 64) (dt first last : Nat) (s : State), (s.pt p).deep = some (first, last) → s.portUp p → s.deepWanted p →
    Answers (exec (.deepRetry p dt) s) fun t =>
      t = ((s.passTo dt (last + fineOfUs 100)).setPt p { s.pt p with deep := some (first, max (s.fine + dt) (last + fineOfUs 100)) }).sendPower p 2) ∧
  (∀ (p : Fin 64) (blocks : List LineBlock) (s : State), s.portWidth p = 1 → blocks.length = 1 → (s.pt p).deep.isSome → (s.powerRow p blocks).1 = some 3 → s.lstate p = lsUp →
    Answers (exec (.deepAck p blocks) s) fun t =>
      t.lstate p = lsDeep ∧ t.fld F.LNK_PORT_STATUS_UP p = 0) ∧
  (∀ (p : Fin 64) (dt t0 last : Nat) (s : State), s.portWidth p = 1 → (s.pt p).deep = some (t0, last) → s.lanesIdle → s.lstate p = lsUp →
    Answers (exec (.deepForce p dt) s) fun t =>
      t.lstate p = lsDeep ∧ t.fld F.LNK_PORT_STATUS_UP p = 0 ∧ t.fine = max (s.fine + dt) (t0 + fineOfUs 1000)) ∧
  (∀ (n : Fin 64) (s : State), s.laneRuns n → s.lstate n = lsDeep → s.lanesIdle = false → s.flag F.LNK_CTRL_WAKE_ON_SIGNAL n → n.val ∈ s.portLanes (s.portAt n) →
    Answers (exec (.deepWakeOnSignal n) s) fun t =>
      (t.ln n).exit ≠ 0 ∧ (t.pt (s.portAt n)).deep = none) ∧
  (∀ (q : Fin 16) (n : Nat) (s : State), n / 4 = q → s.laneRuns n → s.lstate n = lsDeep → (s.ln n).exit = 1 →
    Answers (exec (.quadPllLocked q) s) fun t =>
      (t.ln n).exit = 2 ∧ Out.laneTx n true ∈ t.outbox) ∧
  (∀ (who : Requester) (n : Fin 64) (s : State), s.mayWrite who .LNK_PATTERN n →
    Answers (exec (.patternClear who n) s) fun t =>
      t.rd .LNK_BER_BITS_LO n = 0 ∧ t.rd .LNK_BER_BITS_HI n = 0 ∧ t.rd .LNK_BER_ERRS n = 0 ∧ (t.ln n).berHi = 0) ∧
  (∀ (who : Requester) (n : Fin 64) (s : State), s.mayWrite who .LNK_INJECT n → s.mode = modeService → s.fld F.LNK_INJECT_MODE n = 1 →
    Answers (exec (.injectShot who n) s) fun t =>
      Emits [.inject n (s.fld F.LNK_INJECT_BURST n + 1) (s.fld F.LNK_INJECT_TARGET n = 1 || (s.fld F.LNK_INJECT_TARGET n = 2 && (s.ln n).alt))] s t) ∧
  (∀ (n : Fin 64) (dt : Nat) (s : State), s.laneRuns n → s.mode = modeService → s.fld F.LNK_INJECT_MODE n = 2 →
    Answers (exec (.injectBurst n dt) s) fun t =>
      (s.ln n).burstAt + s.burstPeriod n ≤ t.fine ∧ (t.ln n).burstAt = t.fine ∧
      Emits [.inject n (s.fld F.LNK_INJECT_BURST n + 1) (s.fld F.LNK_INJECT_TARGET n = 1 || (s.fld F.LNK_INJECT_TARGET n = 2 && (s.ln n).alt))] s t) ∧
  (∀ (who : Requester) (n : Fin 64) (s : State), s.mayRead who 0 n 1 → who ≠ .helm →
    Answers (exec (.berBitsLoRead who n) s) fun t =>
      Emits [.reply (s.rd .LNK_BER_BITS_LO n)] s t ∧ t.rd .LNK_BER_BITS_HI n = BitVec.ofNat 32 (s.ln n).berHi) ∧
  (∀ (n : Fin 64) (bits : List Bool) (r : Bool × Nat × Nat × Checker) (s : State), s.laneRuns n → s.mode = modeService → s.lstate n = lsTest → s.fld F.LNK_PATTERN_CHK n ∈ [1, 2, 3, 6] → r = checkBits (s.fld F.LNK_PATTERN_CHK n) (s.rd .LNK_USER_WORD n) bits (s.flag F.LNK_PATTERN_CHK_LOCK n) 0 0 (s.ln n).chk →
    Answers (exec (.checkerLock n bits) s) fun t =>
      t.fld F.LNK_PATTERN_CHK_LOCK n = b2n r.1 ∧ Counted .LNK_BER_ERRS n s t r.2.2.1 ∧ (t.ln n).chk = r.2.2.2)

/-- A frame opens with the next number and stamp, its line data are placed in order, and its end or its timeout closes it
(R97, R98, R99, R101, R103, R105, R106, R107, R108, R109, R130). -/
def Obligations.CaptureFrames : Prop :=
  (∀ (p : Fin 64) (dt : Nat) (aligned : Bool) (pkt : Packet) (slow : Bool) (meet : List RingOp) (s : State), s.ready → s.portUp p → s.headOk p pkt.payload.length →
    Answers (exec (.frameStart p dt aligned pkt slow meet) s) fun t =>
      ∃ f, (t.cp p).frame = some f ∧ f.num = (s.cp p).count ∧ f.camSeq = pkt.info.toNat ∧ f.got = [] ∧
      (t.cp p).count = ((s.cp p).count + 1) % 2 ^ 48 ∧ (t.cp p).lastStamp = some f.stampAt ∧ f.lastAt = s.fine + dt ∧
      Counted .CAP_CNT_FRAMES p s t) ∧
  (∀ (p : Fin 64) (dt : Nat) (aligned : Bool) (pkt : Packet) (slow : Bool) (meet : List RingOp) (s : State), s.ready → s.portUp p → s.headOk p pkt.payload.length → (s.takePacket p pkt).1.ok → pkt.payload.length = 12 →
    Answers (exec (.frameStart p dt aligned pkt slow meet) s) fun t =>
      ∃ f, (t.cp p).frame = some f ∧ f.w0 = fieldLE pkt.payload 0 2 ∧ f.h0 = fieldLE pkt.payload 2 2 ∧
      f.fmt = fieldLE pkt.payload 4 1 ∧ f.exposure = fieldLE pkt.payload 8 4) ∧
  (∀ (p : Fin 64) (dt : Nat) (pkt : Packet) (full : Bool) (f : CapFrame) (s : State), s.ready → s.portUp p → s.headOk p pkt.payload.length → (s.cp p).frame = some f → f.camSeq = pkt.info.toNat → f.opaq = false → (s.takePacket p pkt).1.ok → 4 ≤ pkt.payload.length → f.got = [] → fieldLE pkt.payload 0 4 < fieldLE pkt.payload 0 4 + (pkt.payload.length - 4) → fieldLE pkt.payload 0 4 + (pkt.payload.length - 4) ≤ f.size0 →
    Answers (exec (.lineData p dt pkt full) s) fun t =>
      ∃ g, (t.cp p).frame = some g ∧ g.num = f.num ∧ g.got = [(fieldLE pkt.payload 0 4, fieldLE pkt.payload 0 4 + (pkt.payload.length - 4))] ∧
      g.lastAt = s.fine + dt) ∧
  (∀ (p : Fin 64) (dt : Nat) (pkt : Packet) (full : Bool) (s : State), s.ready → s.portUp p → s.headOk p pkt.payload.length → (∀ f, (s.cp p).frame = some f → f.camSeq ≠ pkt.info.toNat) →
    Answers (exec (.lineData p dt pkt full) s) fun t =>
      Counted .CAP_CNT_ORPHAN p s t ∧ (t.cp p).frame = (s.cp p).frame) ∧
  (∀ (p : Fin 64) (dt : Nat) (pkt : Packet) (s : State), s.ready → s.portUp p → s.headOk p pkt.payload.length → (∀ f, (s.cp p).frame = some f → f.camSeq ≠ pkt.info.toNat) →
    Answers (exec (.frameEnd p dt pkt) s) fun t =>
      Counted .CAP_CNT_ORPHAN p s t ∧ (t.cp p).frame = (s.cp p).frame) ∧
  (∀ (p : Fin 64) (dt : Nat) (pkt : Packet) (f : CapFrame) (s : State), s.ready → s.portUp p → s.headOk p pkt.payload.length → (s.cp p).frame = some f → f.camSeq = pkt.info.toNat →
    Answers (exec (.frameEnd p dt pkt) s) fun t =>
      t.cp p = { s.cp p with frame := none }) ∧
  (∀ (p : Fin 64) (dt : Nat) (f : CapFrame) (s : State), (s.cp p).frame = some f →
    Answers (exec (.closeTimeout p dt) s) fun t =>
      t.cp p = { s.cp p with frame := none } ∧
      t.fine = max (s.fine + dt) (f.lastAt + fineOfUs (2 ^ (s.fld F.CAP_PORT_ROUTE_CLOSE_TIMEOUT p + 4)))) ∧
  (∀ (p : Fin 64) (s : State), s.ready → s.portUp p →
    Answers (exec (.hcrcFail p) s) fun t =>
      Counted .CAP_CNT_BAD_HCRC p s t ∧ (t.pt p).bytes = huntHeader ((s.stream p).drop 1)) ∧
  (∀ (p : Fin 64) (length : BitVec 16) (s : State), s.ready → s.portUp p → s.headOk p length.toNat →
    Answers (exec (.reservedPacket p length) s) fun t =>
      Counted .CAP_CNT_BAD_TYPE p s t) ∧
  (∀ (p : Fin 64) (dt : Nat) (length : BitVec 16) (pkt : Packet) (s : State), s.ready → s.portUp p →
    ∀ c ∈ [(Instr.reservedPacket p length, length.toNat), (.lineData p dt pkt false, pkt.payload.length), (.frameEnd p dt pkt, pkt.payload.length),
      (.frameStart p dt true pkt false [], pkt.payload.length), (.cameraStatus p dt pkt, pkt.payload.length),
      (.controlResponse p pkt, pkt.payload.length)], s.headOk p c.2 = false →
    Answers (exec c.1 s) fun t => Counted .CAP_CNT_BAD_HCRC p s t ∧ (t.pt p).bytes = huntHeader ((s.stream p).drop 1)) ∧
  (∀ (p : Fin 64) (dt : Nat) (pkt : Packet) (s : State), s.ready → s.portUp p → s.headOk p pkt.payload.length → (s.takePacket p pkt).1.ok → pkt.payload.length = 16 →
    Answers (exec (.cameraStatus p dt pkt) s) fun t =>
      t.rd .CAP_CAM_STAT p 3 = BitVec.ofNat 32 (fieldLE pkt.payload 12 4) ∧ t.rd .CAP_CAM_STAT p 0 = BitVec.ofNat 32 (fieldLE pkt.payload 0 4) ∧
      (t.cp p).quietAt = s.fine + dt) ∧
  (∀ (p : Fin 64) (dt : Nat) (s : State), s.portUp p →
    Answers (exec (.camSilent p dt) s) fun t =>
      t.fld F.CAP_PORT_FLAGS_CAM_SILENT p = 1 ∧ t.fine = max (s.fine + dt) ((s.cp p).quietAt + fineOfUs 100000)) ∧
  (∀ (who : Requester) (p : Fin 64) (s : State), s.mayRead who 1 p 1 → who ≠ .helm →
    Answers (exec (.frameNumLoRead who p) s) fun t =>
      Emits [.reply (s.rd .CAP_FRAME_NUM_LO p)] s t ∧ t.rd .CAP_FRAME_NUM_HI p = BitVec.ofNat 32 ((s.cp p).count / 2 ^ 32))

/-- Control requests: GO queues or reports PORT_DOWN, a response completes its mailbox, and silence repeats and then times
out (R99, R110, R111, R112, R113). -/
def Obligations.CaptureControl : Prop :=
  (∀ (who : Requester) (box : Fin 2) (s : State), s.unitOpen 1 → s.flrBars who = false → s.flag F.CAP_CTRL_STATUS_BUSY box = false → 2 ≤ s.levelOf who → s.portUp (s.fld F.CAP_CTRL_CMD_PORT box) = false →
    Answers (exec (.ctrlGo who box) s) fun t =>
      t = s.setFld F.CAP_CTRL_STATUS_PORT_DOWN 1 box) ∧
  (∀ (who : Requester) (box : Fin 2) (c : CtlReq) (rest : List CtlReq) (s : State), s.unitOpen 1 → s.flrBars who = false → s.flag F.CAP_CTRL_STATUS_BUSY box = false → 2 ≤ s.levelOf who → s.portUp (s.fld F.CAP_CTRL_CMD_PORT box) → s.portWidth (s.fld F.CAP_CTRL_CMD_PORT box) ≠ 0 → s.fld F.CAP_CTRL_CMD_OP box ≠ 0x10 → s.fld F.CAP_CTRL_CMD_OP box ≠ 0x11 → (s.cp (s.fld F.CAP_CTRL_CMD_PORT box)).ctl = c :: rest → c.sent ≠ 0 →
    Answers (exec (.ctrlGo who box) s) fun t =>
      t.fld F.CAP_CTRL_STATUS_BUSY box = 1 ∧ ∃ q, (t.cp (s.fld F.CAP_CTRL_CMD_PORT box)).ctl = c :: rest ++ [q] ∧ q.box = box.val ∧
      q.op = s.fld F.CAP_CTRL_CMD_OP box ∧ q.sent = 0) ∧
  (∀ (p : Fin 64) (pkt : Packet) (c : CtlReq) (s : State), s.ready → s.portUp p → s.headOk p pkt.payload.length → (s.takePacket p pkt).1.ok → pkt.info.toNat % 256 < 0xF0 → (s.cp p).ctl = [c] → c.sent ≠ 0 → c.id = pkt.info.toNat % 256 →
    Answers (exec (.controlResponse p pkt) s) fun t =>
      t.fld F.CAP_CTRL_STATUS_BUSY c.box = 0 ∧ t.fld F.CAP_CTRL_STATUS_DONE c.box = 1 ∧
      t.fld F.CAP_CTRL_STATUS_RESP_STATUS c.box = pkt.info.toNat / 256 ∧ (t.cp p).ctl = []) ∧
  (∀ (p : Fin 64) (pkt : Packet) (s : State), s.ready → s.portUp p → s.headOk p pkt.payload.length → (s.takePacket p pkt).1.ok → pkt.info.toNat % 256 < 0xF0 → (s.cp p).ctl = [] →
    Answers (exec (.controlResponse p pkt) s) fun t =>
      Counted .CAP_CNT_ORPHAN p s t) ∧
  (∀ (p : Fin 64) (dt : Nat) (c : CtlReq) (rest : List CtlReq) (s : State), s.restoreDue p = none → (s.cp p).ctl = c :: rest → 1 ≤ c.sent → c.sent ≤ 3 →
    Answers (exec (.controlRequestRetry p dt) s) fun t =>
      Counted .CAP_CNT_CTRL_RETRY p s t ∧ (t.cp p).ctl = { c with sent := c.sent + 1, at0 := t.fine } :: rest ∧ c.at0 + fineOfUs 1000 ≤ t.fine) ∧
  (∀ (p : Fin 64) (dt : Nat) (c : CtlReq) (s : State), s.restoreDue p = none → (s.cp p).ctl = [c] → 4 ≤ c.sent →
    Answers (exec (.controlRequestRetry p dt) s) fun t =>
      t.fld F.CAP_CTRL_STATUS_BUSY c.box = 0 ∧ t.fld F.CAP_CTRL_STATUS_TIMEOUT c.box = 1 ∧ (t.cp p).ctl = []) ∧
  (∀ (p : Fin 64) (dt : Nat) (m : RateMsg) (s : State), (s.pt p).rate = some m → m.restore → m.answered = false → m.sent ≤ 3 → (s.cp p).ctl = [] →
    Answers (exec (.controlRequestRetry p dt) s) fun t =>
      Counted .CAP_CNT_CTRL_RETRY p s t ∧ (t.pt p).rate = some { m with sent := m.sent + 1, at0 := t.fine } ∧ m.at0 + fineOfUs 1000 ≤ t.fine)

/-- A trigger cause queues one block, which is sent with the next TRIG_SEQ and answered or missed; pulses end; compare
units arm (R114, R115, R116, R118, R119, R120, R121, R123, R134). -/
def Obligations.CaptureTriggers : Prop :=
  (∀ (who : Requester) (p : Fin 64) (s : State), s.mayWrite who .CAP_TRIG_CFG p → s.trigMode → s.portWidth p ≠ 0 → (s.cp p).queued = none ∧ (s.cp p).causeAt = none ∧ (s.cp p).trigAt = none → s.fld F.CAP_TRIG_CFG_OUTPUT p = 1 → s.portUp p →
    Answers (exec (.soft who p) s) fun t =>
      (t.cp p).queued = some (⟨0, 5, s.fine, false, false, 0⟩ : Trig)) ∧
  (∀ (who : Requester) (p : Fin 64) (s : State), s.mayWrite who .CAP_TRIG_CFG p → s.trigMode → s.portWidth p ≠ 0 → (s.cp p).queued.isSome →
    Answers (exec (.soft who p) s) fun t =>
      Counted .CAP_CNT_TRIG_MERGED p s t ∧ (t.cp p).queued = (s.cp p).queued) ∧
  (∀ (p : Fin 64) (dt : Nat) (s : State), s.trigMode → s.portWidth p ≠ 0 → (s.cp p).queued = none ∧ (s.cp p).causeAt = none ∧ (s.cp p).trigAt = none → s.fld F.CAP_TRIG_CFG_OUTPUT p = 1 → s.portUp p → s.fld F.CAP_TRIG_CFG_SOURCE p = 3 → s.hasBeam (s.fld F.CAP_TRIG_CFG_SRC_INDEX p) → s.flag F.CAP_TRIG_CFG_MARKS_ONLY p = false ∨ s.flag F.BCH_STATUS_EMIT (s.fld F.CAP_TRIG_CFG_SRC_INDEX p) → s.passNow p (s.fine + dt) ≠ (s.cp p).passes →
    Answers (exec (.scanPathCause p dt) s) fun t =>
      (t.cp p).queued = some (⟨0, 3, s.fine + dt, false, false, 0⟩ : Trig) ∧ (t.cp p).passes = s.passNow p (s.fine + dt)) ∧
  (∀ (p : Fin 64) (dt : Nat) (q : Trig) (s : State), s.trigMode → s.portUp p → (s.cp p).queued = some q →
    Answers (exec (.triggerBlockSend p dt) s) fun t =>
      (t.cp p).queued = none ∧ (t.cp p).trigSeq = ((s.cp p).trigSeq % 256 + 1) % 256 ∧ (t.cp p).trigAt = some (s.fine + dt) ∧
      (t.cp p).sent.take 16 = ({ q with seq := (s.cp p).trigSeq % 256, wait := true, at0 := s.fine + dt } :: (s.cp p).sent).take 16 ∧ Counted .CAP_CNT_TRIG_SENT p s t) ∧
  (∀ (p : Fin 64) (seq code : BitVec 8) (s : State), s.ready → s.portUp p → s.headOk p 0 →
    Answers (exec (.triggerAck p seq code) s) fun t =>
      (t.cp p).sent = ackOf seq.toNat (s.cp p).sent ∧ (code = 1 → Counted .CAP_CNT_TRIG_REFUSED p s t)) ∧
  (∀ (p : Fin 64) (dt : Nat) (seq : BitVec 8) (q : Trig) (s : State), (s.cp p).sent.reverse.find? (fun (t : Trig) => t.seq = seq.toNat && t.wait) = some q →
    Answers (exec (.triggerAckTimeout p dt seq) s) fun t =>
      Counted .CAP_CNT_TRIG_NOACK p s t ∧ q.at0 + fineOfUs 10 ≤ t.fine ∧
      (t.cp p).sent.countP (fun (x : Trig) => x.wait) + 1 = (s.cp p).sent.countP (fun (x : Trig) => x.wait)) ∧
  (∀ (pin : Fin 8) (dt e : Nat) (s : State), tblGet none s.capt.pins pin.val = some e →
    Answers (exec (.trigoPulseEnd pin dt) s) fun t =>
      tblGet none t.capt.pins pin.val = none ∧ t.fine = max (s.fine + dt) e ∧ Emits [.trigo pin false (s.pinLevel pin false) t.fine] s t) ∧
  (∀ (who : Requester) (n : Fin 16) (s : State), s.unitOpen 1 → s.flrBars who = false → 2 ≤ s.levelOf who → s.fld F.CAP_ENC_CMP_CFG_MODE n = 1 → s.fld F.CAP_ENC_CMP_CFG_LENGTH n ≠ 0 → s.fld F.CAP_ENC_CMP_CFG_BASE n < 16384 →
    Answers (exec (.compareArm who n) s) fun t =>
      t.cmpUnit n = ({ on := true } : Cmp) ∧ t.rd .CAP_ENC_CMP_NEXT n = s.memRd (cmpAddr (s.fld F.CAP_ENC_CMP_CFG_BASE n)))

/-- Encoder edges count, illegal ones are counted apart, Z resets or latches, a write sets the count, and SSI reads give
positions (R553, R554, R555, R556, R557). -/
def Obligations.EncodersAndSsi : Prop :=
  (∀ (n : Fin 16) (dt : Nat) (a b : Bool) (held : Nat) (s : State), s.encOn n → s.encFilter n ≤ held → (s.en n).a ≠ a → (s.en n).b = b →
    Answers (exec (.encoderEdge n dt a b held) s) fun t =>
      t.en n = (⟨a, b⟩ : Enc) ∧ t.rd .CAP_ENC_COUNT n = if (a != b) != s.flag F.CAP_ENC_IN_DIR n then s.rd .CAP_ENC_COUNT n + 1 else s.rd .CAP_ENC_COUNT n - 1) ∧
  (∀ (n : Fin 16) (dt : Nat) (a b : Bool) (held : Nat) (s : State), s.encOn n → s.encFilter n ≤ held → (s.en n).a = a → (s.en n).b ≠ b →
    Answers (exec (.encoderEdge n dt a b held) s) fun t =>
      t.en n = (⟨a, b⟩ : Enc) ∧ t.rd .CAP_ENC_COUNT n = if (a == b) != s.flag F.CAP_ENC_IN_DIR n then s.rd .CAP_ENC_COUNT n + 1 else s.rd .CAP_ENC_COUNT n - 1) ∧
  (∀ (n : Fin 16) (dt : Nat) (a b : Bool) (held : Nat) (s : State), s.encOn n → s.encFilter n ≤ held → (s.en n).a ≠ a → (s.en n).b ≠ b →
    Answers (exec (.encoderEdge n dt a b held) s) fun t =>
      t.en n = (⟨a, b⟩ : Enc) ∧ t.rd .CAP_ENC_COUNT n = s.rd .CAP_ENC_COUNT n ∧ Counted .CAP_ENC_CNT_ERR n s t) ∧
  (∀ (n : Fin 16) (dt : Nat) (a b : Bool) (held : Nat) (s : State), held < s.encFilter n →
    Answers (exec (.encoderEdge n dt a b held) s) fun t =>
      t = s.advance dt) ∧
  (∀ (n : Fin 16) (dt : Nat) (edge : Option (Bool × Bool)) (held : Nat) (s : State), s.encOn n → s.encFilter n ≤ held → s.fld F.CAP_ENC_IN_Z_MODE n = 1 →
    Answers (exec (.zEdge n dt edge held) s) fun t =>
      t.rd .CAP_ENC_COUNT n = 0) ∧
  (∀ (n : Fin 16) (dt : Nat) (edge : Option (Bool × Bool)) (held : Nat) (s : State), s.encOn n → s.encFilter n ≤ held → s.fld F.CAP_ENC_IN_Z_MODE n = 2 →
    Answers (exec (.zEdge n dt edge held) s) fun t =>
      (t.rd .CAP_ENC_ZLATCH n = s.rd .CAP_ENC_COUNT n ∨ t.rd .CAP_ENC_ZLATCH n = t.rd .CAP_ENC_COUNT n) ∧
      (edge = none → t.rd .CAP_ENC_COUNT n = s.rd .CAP_ENC_COUNT n)) ∧
  (∀ (who : Requester) (n : Fin 16) (v : Word) (s : State), s.mayWrite who .CAP_ENC_COUNT n →
    Answers (exec (.encoderCountWrite who n v false none) s) fun t =>
      t.rd .CAP_ENC_COUNT n = v) ∧
  (∀ (who : Requester) (n : Fin 16) (v : Word) (edge : Option (Bool × Bool)) (s : State), s.mayWrite who .CAP_ENC_COUNT n → s.encOn n → s.fld F.CAP_ENC_IN_Z_MODE n = 1 →
    Answers (exec (.encoderCountWrite who n v true edge) s) fun t =>
      t.rd .CAP_ENC_COUNT n = 0) ∧
  (∀ (a : Fin 4) (dt : Nat) (idle : Bool) (s : State), s.ready → s.domOn (56 + a) → s.flag F.CAP_SSI_CFG_ENABLE a → (s.si a).run = none →
    Answers (exec (.ssiReadStart a dt idle) s) fun t =>
      (t.si a).run = some (t.fine, idle) ∧ (t.si a).startAt = some t.fine ∧ (t.si a).cfg = s.rd .CAP_SSI_CFG a ∧ s.fine + dt ≤ t.fine ∧
      (∀ u ∈ (s.si a).startAt, u + fineOfUs (max 1 (s.fld F.CAP_SSI_CFG_PERIOD a)) ≤ t.fine) ∧ (∀ u ∈ (s.si a).endAt, u + fineOfUs 20 ≤ t.fine) ∧
      Emits [.ssiRead a (ssiBits (s.rd .CAP_SSI_CFG a)) (ssiRate (s.rd .CAP_SSI_CFG a)) (s.fld F.CAP_SSI_CFG_DLY a)] s t) ∧
  (∀ (a : Fin 4) (dt t0 : Nat) (data : BitVec 32) (s : State), (s.si a).run = some (t0, true) →
    Answers (exec (.ssiReadEnd a dt data true) s) fun t =>
      t.rd .CAP_SSI_POS a = BitVec.ofNat 32 (if natBit (s.si a).cfg.toNat 5 then grayNat (ssiBits (s.si a).cfg) (data.toNat % 2 ^ ssiBits (s.si a).cfg)
        else data.toNat % 2 ^ ssiBits (s.si a).cfg) ∧ (t.si a).run = none ∧ (t.si a).endAt = some t.fine ∧
      t.fine = max (s.fine + dt) (t0 + ssiBits (s.si a).cfg * 1250000 / ssiKHz (s.si a).cfg)) ∧
  (∀ (a : Fin 4) (dt t0 : Nat) (data : BitVec 32) (idle low : Bool) (s : State), (s.si a).run = some (t0, idle) → (idle && low) = false →
    Answers (exec (.ssiReadEnd a dt data low) s) fun t =>
      Counted .CAP_SSI_CNT_ERR a s t ∧ t.rd .CAP_SSI_POS a = s.rd .CAP_SSI_POS a)

/-- BAR2 writes reach exactly their bytes, reads return the bytes, refreshes rotate, the scrubber walks and counts, units
are logged (R142, R146, R163, R164, R165, R168, R169, R412, R417). -/
def Obligations.StoreMemory : Prop :=
  (∀ (addr : Nat) (data : List Byte) (hd : List Word) (s : State), s.flrActive = false → 2 ≤ s.levelOf .mailbox → s.storeUp → s.fst.retiring = none → (List.range data.length).all (fun i => s.storeHostWrites (addr + i) && (s.storePlace (addr + i)).isSome) →
    Answers (exec (.bar2Write addr data ⟨.clean, hd⟩) s) fun t =>
      (∀ x, t.ddrRd x = if addr ≤ x ∧ x < addr + data.length then data.getD (x - addr) 0 else s.ddrRd x) ∧ t.regs = s.linkWake.regs) ∧
  (∀ (addr : Nat) (data : List Byte) (i : Nat) (hd : List Word) (s : State), s.flrActive = false → 2 ≤ s.levelOf .mailbox → i < data.length → (s.storePlace (addr + i)).isNone →
    Answers (exec (.bar2Write addr data ⟨.clean, hd⟩) s) fun t =>
      t = s.linkWake.bump .FST_CNT_BAD_ACCESS) ∧
  (∀ (addr len : Nat) (hd : List Word) (s : State), s.flrActive = false → 1 ≤ s.levelOf .mailbox → s.storeUp → s.fst.retiring = none → 0 < len → addr % 128 + len ≤ 128 → (List.range len).all (fun i => (s.storePlace (addr + i)).isSome) → s.storeBad addr len = false →
    Answers (exec (.bar2Read addr len [] ⟨.clean, hd⟩) s) fun t =>
      Emits [.replyBytes (s.storeRd addr len) false] s t ∧ t.regs = s.linkWake.regs) ∧
  (∀ (addr len : Nat) (errs : List (Nat × BurstErr)) (hd : List Word) (s : State), s.flrActive = false → s.levelOf .mailbox = 0 →
    Answers (exec (.bar2Read addr len errs ⟨.clean, hd⟩) s) fun t =>
      t = (s.linkWake.bump .PCE_CNT_PRIV_REFUSED).completions [] (min len 4096 + 1) addr (List.replicate (min len 4096) 0) 0) ∧
  (∀ (c : Fin 12) (dt len : Nat) (hot : Bool) (s : State), s.chInUse c → s.fst.selfRefresh = false → ((List.range 12).filter (fun k => (s.advance dt).inRefresh k)).length ≤ 2 →
    Answers (exec (.refresh c dt len hot) s) fun t =>
      tblGet 0 t.fst.refEnd c.val = t.fine + len ∧ tblGet none t.fst.refDue c.val = some (t.fine + if hot then 4875 else 9750) ∧ s.fine + dt ≤ t.fine ∧ ((List.range 12).filter (fun k => t.inRefresh k)).length ≤ 2 ∧ t.regs = s.regs) ∧
  (∀ (c : Fin 12) (dt : Nat) (s : State), s.chInUse c → s.fst.selfRefresh = false → s.bands .FST_BANDS ≠ 0 → tblGet [] s.fst.mpPend c.val = [] → s.ddrBad (s.scrubNext c) = false →
    Answers (exec (.patrolScrub c dt none) s) fun t =>
      tblGet 0 t.fst.scrubAt c.val = (if s.bands .FST_BANDS * 64 ≤ tblGet 0 s.fst.scrubAt c.val + 1 then 0 else tblGet 0 s.fst.scrubAt c.val + 1) ∧
      t.fine = max (s.fine + dt) (s.scrubStart c + s.scrubPass * tblGet 0 s.fst.scrubAt c.val / (s.bands .FST_BANDS * 64)) ∧ t.regs = s.regs) ∧
  (∀ (c : Fin 12) (dt : Nat) (d : Fin 18) (x : Option (Fin 18)) (s : State), s.chInUse c → s.fst.selfRefresh = false → s.bands .FST_BANDS ≠ 0 → tblGet [] s.fst.mpPend c.val = [] → s.ddrBad (s.scrubNext c) = false →
    Answers (exec (.patrolScrub c dt (some ⟨[d], false, x⟩)) s) fun t =>
      Counted .FST_CH_CNT_CE (s.addrChan (s.scrubNext c)) s t ∧
      t.rd .FST_CH_ECC_BAND (s.addrChan (s.scrubNext c)) = BitVec.ofNat 32 (s.addrBand (s.scrubNext c))) ∧
  (∀ (c : Fin 12) (dt : Nat) (s : State), s.chInUse c →
    Answers (exec (.ceLeak c dt) s) fun t =>
      (t.rd .FST_CH_CE_BUCKET c).toNat = (s.rd .FST_CH_CE_BUCKET c).toNat - 1) ∧
  (∀ (n : Fin 12) (dt wait : Nat) (u : LogUnit) (rest : List LogUnit) (c : Nat) (s : State), (s.sh n).log = u :: rest → u.source ≠ 3 → s.fst.selfRefresh = false → (s.advance dt).mpChannel = some c → s.bands .FST_MP_LOG_BANDS ≠ 0 →
    Answers (exec (.mpUnitWrite n dt wait) s) fun t =>
      (t.sh n).log = rest ∧
      t.rd .FST_CH_MPL_WP c = BitVec.ofNat 32 (((s.rd .FST_CH_MPL_WP c).toNat + 1) % (s.bands .FST_MP_LOG_BANDS * 64)))

/-- Marks search or wait in the reef state, releases leave no span of their number held; a boundary takes every staged
write (R37, R155, R156, R157, R158, R160, R341, R503, R504, R526, R535). -/
def Obligations.StoreSpansAndCommits : Prop :=
  (∀ (who : Requester) (v : Word) (s : State), s.mayWrite who .FST_MARK_CMD 0 → getBits v 31 1 = 1 → s.ringExists (getBits v 0 4) → s.reef = false → s.flag F.FST_RING_CFG_PRE_UNIT (getBits v 0 4) → (s.rg (getBits v 0 4)).search = none →
    Answers (exec (.fstMarkGo who v) s) fun t =>
      (t.rg (getBits v 0 4)).search = some (s.fine, s.startedBefore (getBits v 0 4) s.fine)) ∧
  (∀ (who : Requester) (v : Word) (s : State), s.mayWrite who .FST_MARK_CMD 0 → getBits v 31 1 = 1 → s.ringExists (getBits v 0 4) → s.reef && s.fst.selfRefresh →
    Answers (exec (.fstMarkGo who v) s) fun t =>
      t.fst.heldMarks = s.fst.heldMarks ++ [(getBits v 0 4, s.fine, s.startedBefore (getBits v 0 4) s.fine + s.heldBefore (getBits v 0 4) s.fine)] ∧ t.regs = s.regs) ∧
  (∀ (r : Fin 16) (dt t0 n : Nat) (s : State), (s.rg r).search = some (t0, n) →
    Answers (exec (.markSearchDone r dt) s) fun t =>
      (t.rg r).search = none ∧ (t.rg r).started = (s.rg r).started ∧ t.fine = max s.fine (min (s.fine + dt) (t0 + 6250))) ∧
  (∀ (who : Requester) (v : Word) (sp : Span) (s : State), s.mayWrite who .FST_SPAN_CMD 0 → (s.liveSpans (getBits v 12 4)).find? (fun sp => sp.id = getBits v 0 12) = some sp →
    Answers (exec (.spanRelease who v) s) fun t =>
      ∀ y ∈ t.fst.spans, y.released ∨ (y ∈ s.fst.spans ∧ y.id ≠ getBits v 0 12)) ∧
  (∀ (who : Requester) (v : Word) (s : State), s.mayWrite who .FST_SPAN_CMD 0 →
    Answers (exec (.spanReleaseAll who v) s) fun t =>
      t.liveSpans (getBits v 12 4) = []) ∧
  (∀ (r : Fin 16) (span : BitVec 12) (dt : Nat) (sp : Span) (s : State), (s.liveSpans r).find? (fun sp => sp.id = span.toNat) = some sp → sp.isOpen = false → s.fld F.FST_RING_CFG_HOLD r ≠ 0 →
    Answers (exec (.spanHoldExpiry r span dt) s) fun t =>
      (∀ y ∈ t.fst.spans, y.released ∨ (y ∈ s.fst.spans ∧ y.id ≠ span.toNat)) ∧ sp.closedAt + s.fld F.FST_RING_CFG_HOLD r * 1250000000 ≤ t.fine) ∧
  (∀ (late : Nat) (s : State), s.layerReady →
    Answers (exec (.layerBarrier late) s) fun t =>
      t.staged = (if late = 0 then [] else s.staged.drop (s.staged.length - late)) ∧ t.rd .SCN_LAYER_SET = 0xFFFFFFFF ∧ t.rd .HLM_JOURNAL_USED = 0 ∧ t.rd .HLM_CKPT_SEQ = t.rd .BOOT_COMMIT_SEQ) ∧
  (∀ (who : Requester) (late : Nat) (s : State), s.mayWrite who .BOOT_COMMIT 0 → s.boundaryRefused = false →
    Answers (exec (.recordingBoundary who late) s) fun t =>
      t.staged = (if late = 0 then [] else s.staged.drop (s.staged.length - late)) ∧ t.rd .HLM_JOURNAL_USED = 0 ∧ t.rd .HLM_CKPT_SEQ = t.rd .BOOT_COMMIT_SEQ) ∧
  (∀ (who : Requester) (late : Nat) (s : State), s.mayWrite who .BOOT_COMMIT 0 → s.boundaryRefused →
    Answers (exec (.recordingBoundary who late) s) fun t =>
      t = s.setFld F.BOOT_STATUS_COMMIT_REFUSED 1)

/-- EVENT_DELIVERY takes the oldest event of a halyard: gated and unrouted ones are counted, a routed one reaches its task
(R376, R378, R381, R383, R384, R385, R387, R393). -/
def Obligations.EventDelivery : Prop :=
  (∀ (h : Fin 256) (e : HEv) (rest : List HEv) (met : BitVec 16) (s : State), s.ready → tblGet [] s.hal.queues h.val = e :: rest → e.gated →
    Answers (exec (.eventDelivery h none met) s) fun t =>
      tblGet [] t.hal.queues h.val = rest ∧ Counted .HAL_CNT_GATED 0 s t) ∧
  (∀ (h : Fin 256) (e : HEv) (rest : List HEv) (met : BitVec 16) (s : State), s.ready → tblGet [] s.hal.queues h.val = e :: rest → e.gated = false → e.hops ≤ s.hopLimit → s.consumer h = none →
    Answers (exec (.eventDelivery h none met) s) fun t =>
      tblGet [] t.hal.queues h.val = rest ∧ Counted .HAL_CNT_UNROUTED 0 s t) ∧
  (∀ (h : Fin 256) (e : HEv) (rest : List HEv) (c : Fin 16) (second : Bool) (met : BitVec 16) (s : State), s.ready → tblGet [] s.hal.queues h.val = e :: rest → e.gated = false → e.hops ≤ s.hopLimit → s.consumer h = some (0xF0 + c.val, second) → (s.rd .HAL_CTR_VALUE c).toNat + 1 < atLeast1 (s.rd .HAL_CTR_CFG c).toNat →
    Answers (exec (.eventDelivery h none met) s) fun t =>
      tblGet [] t.hal.queues h.val = rest ∧ t.rd .HAL_CTR_VALUE c = BitVec.ofNat 32 ((s.rd .HAL_CTR_VALUE c).toNat + 1) ∧ Counted .HAL_CNT_DELIVERED 0 s t)

/-- An access that reaches a register of an absent instance writes nothing and reads zero (R5). -/
def Obligations.AbsentInstance : Prop :=
  (∀ (who : Requester) (a : Nat) (v : Word) (r : Reg) (i j : Nat) (hd : List Word) (s : State), s.flrBars who = false → a % 4 = 0 → memAt true a = none → inDesc a = false → regAt a = some (r, i, j) → regPresent s.variant r i = false →
    Answers (exec (.registerWrite who a v ⟨.clean, hd⟩) s) fun t =>
      t = s.heard who) ∧
  (∀ (who : Requester) (a : Nat) (r : Reg) (i j : Nat) (hd : List Word) (s : State), s.flrBars who = false → memAt false (a / 4 * 4) = none → inDesc (a / 4 * 4) = false → regAt (a / 4 * 4) = some (r, i, j) → regPresent s.variant r i = false →
    Answers (exec (.readClear who a ⟨.clean, hd⟩) s) fun t =>
      t = (s.heard who).emit (.reply 0))

/-- An access to a BAR0 offset with no register and no memory reads zero, writes nothing, and counts where the host writes
(R566). -/
def Obligations.NoRegisterThere : Prop :=
  (∀ (who : Requester) (a : Nat) (v : Word) (hd : List Word) (s : State), s.flrBars who = false → a % 4 = 0 → inDesc a = false → memAt true a = none → regAt a = none →
    Answers (exec (.registerWrite who a v ⟨.clean, hd⟩) s) fun t =>
      t = if who = .mailbox then s.linkWake.bump .PCE_CNT_BAD_ACCESS else s) ∧
  (∀ (who : Requester) (a : Nat) (hd : List Word) (s : State), s.flrBars who = false → inDesc (a / 4 * 4) = false → memAt false (a / 4 * 4) = none → regAt (a / 4 * 4) = none →
    Answers (exec (.readClear who a ⟨.clean, hd⟩) s) fun t =>
      t = (s.heard who).emit (.reply 0)) ∧
  (∀ (a : Nat) (v : Word) (r : Reg) (i j : Nat) (hd : List Word) (s : State), s.flrActive = false → a % 4 = 0 → memAt true a = none → inDesc a = false → regAt a = some (r, i, j) → regPresent s.variant r i = false →
    Answers (exec (.registerWrite .mailbox a v ⟨.clean, hd⟩) s) fun t =>
      t.rd .PCE_CNT_BAD_ACCESS = s.rd .PCE_CNT_BAD_ACCESS)

/-- An event for a task of an absent unit is dropped and recorded, and a producer of an absent unit publishes nothing
(R6). -/
def Obligations.AbsentConsumer : Prop :=
  (∀ (h : Fin 256) (e : HEv) (rest : List HEv) (k : Nat) (second : Bool) (met : BitVec 16) (s : State), s.ready → tblGet [] s.hal.queues h.val = e :: rest → e.gated = false → e.hops ≤ s.hopLimit → s.consumer h = some (k, second) → taskPresent s.variant k = false →
    Answers (exec (.eventDelivery h none met) s) fun t =>
      t.hal.queues = tblSet [] s.hal.queues h.val rest ∧ t.hal.seqs = s.hal.seqs ∧ t.hal.helmIn = s.hal.helmIn ∧ t.outbox = s.outbox ∧
      (s.flag F.HAL_ORPHAN_SET = false → t.fld F.HAL_ORPHAN_HALYARD = h.val ∧ t.flag F.HAL_ORPHAN_SET) ∧
      (s.flag F.HAL_ORPHAN_SET → t.fld F.HAL_ORPHAN_HALYARD = s.fld F.HAL_ORPHAN_HALYARD ∧ t.flag F.HAL_ORPHAN_MORE) ∧
      ∀ (r : Reg) (i j : Nat), r ≠ .HAL_ORPHAN → r ≠ .HAL_CNT_ORPHAN → t.rd r i j = s.rd r i j) ∧
  (∀ (s : State) (p code : Nat) (cause : BitVec 48) (hops : Nat), producerPresent s.variant p = false → s.publishHops p code cause hops = s)

/-- A register write sets RW, clears W1C and sets W1S bits or is staged; a read clears RC bits; a level too low has no
effect (R17, R37, R403, R411, R500, R502). -/
def Obligations.RegisterAccess : Prop :=
  (∀ (who : Requester) (a : Nat) (v : Word) (r : Reg) (i j : Nat) (hd : List Word) (s : State), s.flrBars who = false → onReg true a r i j → r ∉ ownWrite → s.mayWrite who r i → r.info.staged = false →
    Answers (exec (.registerWrite who a v ⟨.clean, hd⟩) s) fun t =>
      t.rd r i j = (((s.heard who).rd r i j &&& ~~~r.info.rw ||| v &&& r.info.rw) &&& ~~~(v &&& r.info.w1c)) ||| (v &&& r.info.w1s) ∧
      (∀ (r' : Reg) (i' j' : Nat), (r', i', j') ≠ (r, i, j) → t.rd r' i' j' = (s.heard who).rd r' i' j') ∧ t.staged = s.staged ∧ t.outbox = s.outbox) ∧
  (∀ (who : Requester) (a : Nat) (v : Word) (r : Reg) (i j : Nat) (hd : List Word) (s : State), s.flrBars who = false → onReg true a r i j → r ∉ ownWrite → s.mayWrite who r i → r.info.staged →
    Answers (exec (.registerWrite who a v ⟨.clean, hd⟩) s) fun t =>
      t.regs = (s.heard who).regs ∧ t.staged = s.staged ++ [⟨.reg r i j, v &&& r.info.rw⟩] ∧ t.rdStaged r i j = v &&& r.info.rw) ∧
  (∀ (a : Nat) (v : Word) (r : Reg) (i j : Nat) (hd : List Word) (s : State), s.flrActive = false → onReg true a r i j → r ∉ ownWrite → s.unitOpen r.info.unit → regPresent s.variant r i → s.levelOf .mailbox < r.info.level →
    Answers (exec (.registerWrite .mailbox a v ⟨.clean, hd⟩) s) fun t =>
      t = s.linkWake.bump .PCE_CNT_PRIV_REFUSED) ∧
  (∀ (who : Requester) (a : Nat) (r : Reg) (i j : Nat) (hd : List Word) (s : State), s.flrBars who = false → onReg false a r i j → r ∉ ownRead → who ≠ .helm → ((s.heard who).upToDate r i).unitOpen r.info.unit && regPresent s.variant r i → readLevel r ≤ ((s.heard who).upToDate r i).levelOf who →
    Answers (exec (.readClear who a ⟨.clean, hd⟩) s) fun t =>
      Emits [.reply (((s.heard who).upToDate r i).regView r i j)] s t ∧
      t.rd r i j = ((s.heard who).upToDate r i).rd r i j &&& ~~~r.info.rc ∧
      ∀ (r' : Reg) (i' j' : Nat), (r', i', j') ≠ (r, i, j) → t.rd r' i' j' = ((s.heard who).upToDate r i).rd r' i' j') ∧
  (∀ (a : Nat) (r : Reg) (i j : Nat) (hd : List Word) (s : State), s.flrActive = false → onReg false a r i j → r ∉ ownRead → (s.linkWake.upToDate r i).unitOpen r.info.unit && regPresent s.variant r i → (s.linkWake.upToDate r i).levelOf .mailbox < readLevel r →
    Answers (exec (.readClear .mailbox a ⟨.clean, hd⟩) s) fun t =>
      t = ((s.linkWake.upToDate r i).bump .PCE_CNT_PRIV_REFUSED).emit (.reply 0)) ∧
  (∀ (p : Fin 2) (dt : Nat) (data : List Byte) (k : Nat) (g : Dgram) (s : State), s.dgTakes p dt 0x10 data k g → accessOk g.body → ((State.access (Fin.ofNat 4 k) (g.body.length / 12) g.body (s.dgTaken p dt k g)).2.slot k).level ≠ 0 →
    Answers (exec (.dgramAccess p dt data) s) fun t =>
      t.regs = (State.access (Fin.ofNat 4 k) (g.body.length / 12) g.body (s.dgTaken p dt k g)).2.regs ∧
      ∃ d, Emits [.datagram p d] (State.access (Fin.ofNat 4 k) (g.body.length / 12) g.body (s.dgTaken p dt k g)).2 t ∧ (t.slot k).resp = d)

/-- Dispatch starts the next tile, faults and expiries end runs and change engine states, self-tests, scrubs, reloads and
the fault log (R185, R193, R195, R196, R215, R216, R217, R218, R220, R221, R222). -/
def Obligations.MastTiles : Prop :=
  (∀ (m : Fin 16) (dt : Nat) (q : Tile) (k : Nat) (pass : Bool) (s : State), s.hasMast m && s.domOn m && s.ready → ((s.advance dt).loadDone m).nextTile m = some (q, k, pass) → q.reduce = false →
    Answers (exec (.tileDispatch m dt) s) fun t =>
      (t.ms m).runs = (s.ms m).runs ++ [⟨(s.ms m).slotEngine k, k, q, { pc := s.fld F.MST_STREAM_CFG_ENTRY m q.stream * 4 }, s.fine + dt, 0, none⟩] ∧
      (t.ms m).rerun = (s.ms m).rerun.filter (· != q) ∧ t.fine = s.fine + dt) ∧
  (∀ (m : Fin 16) (e : Fin 66) (cause : SparCause) (r : Run) (s : State), s.hasMast m && s.domOn m → s.engine m e = 0 → s.runOf m e = some r → cause ≠ .correctable →
    Answers (exec (.sparFault m e cause none) s) fun t =>
      t.engine m e = 2 ∧ (t.ms m).rerun = (s.ms m).rerun ++ [{ r.tile with onSlot := some r.slot }] ∧
      (t.ms m).runs = (s.ms m).runs.filter (fun x => x.engine != r.engine) ∧ Counted .MST_CNT_RERUN m s t) ∧
  (∀ (m : Fin 16) (e : Fin 66) (s : State), s.hasMast m && s.domOn m → s.engine m e < 2 →
    Answers (exec (.sparFault m e .correctable none) s) fun t =>
      t = s.bump .MST_CNT_CE m) ∧
  (∀ (m : Fin 16) (e : Fin 66) (cause : SparCause) (s : State), s.hasMast m && s.domOn m → s.engine m e = 1 → s.runOf m e = none → cause ≠ .correctable →
    Answers (exec (.sparFault m e cause none) s) fun t =>
      t.engine m e = 2) ∧
  (∀ (m : Fin 16) (e : Fin 66) (a : Fin 32) (imm : BitVec 16) (cause : SparCause) (r : Run) (s : State), s.hasMast m && s.domOn m → s.engine m e = 0 → s.runOf m e = some r → s.sparAt m e r = some (.commit m e a imm none) → cause ≠ .correctable →
    Answers (exec (.commit m e a imm (some cause)) s) fun t =>
      t.engine m e = 2 ∧ t.runOf m e = none ∧ (t.ms m).rerun = (s.ms m).rerun ++ [{ r.tile with onSlot := some r.slot }]) ∧
  (∀ (m : Fin 16) (e : Fin 66) (dt : Nat) (r : Run) (s : State), s.runOf m e = some r → r.waitFrom = none → r.tile.susp = none → s.engine m e = 0 →
    Answers (exec (.watchdogExpiry m e dt false) s) fun t =>
      t.engine m e = 3 ∧ (t.ms m).rerun = (s.ms m).rerun ++ [{ r.tile with susp := some (r.engine, r.slot), onSlot := some r.slot }] ∧
      t.fine = max (s.fine + dt) (r.start + s.watchdog m r.tile.cls + r.waited) ∧ Counted .MST_CNT_RERUN m s t) ∧
  (∀ (m : Fin 16) (e : Fin 66) (dt : Nat) (r : Run) (e0 : Fin 66) (k0 : Nat) (s : State), s.runOf m e = some r → r.waitFrom = none → r.tile.susp = some (e0.val, k0) →
    Answers (exec (.watchdogExpiry m e dt false) s) fun t =>
      t.engine m e0 = 0 ∧ Counted .MST_CNT_ABANDON m s t) ∧
  (∀ (m : Fin 16) (e : Fin 66) (dt : Nat) (s : State), s.hasMast m && s.domOn m → s.flag F.MST_CFG_SELFTEST_EN m → s.engine m e = 1 → tblGet none (s.ms m).testing e = none →
    Answers (exec (.spareSelftest m e dt) s) fun t =>
      tblGet none (t.ms m).testing e = some t.fine ∧ s.fine + dt ≤ t.fine ∧ t.regs = s.regs) ∧
  (∀ (m : Fin 16) (e : Fin 66) (dt t0 : Nat) (s : State), tblGet none (s.ms m).testing e = some t0 →
    Answers (exec (.selftestEnd m e true dt) s) fun t =>
      tblGet none (t.ms m).testing e = none ∧ t.fine = max (s.fine + dt) (t0 + 75000) ∧ t.regs = s.regs) ∧
  (∀ (m : Fin 16) (e : Fin 66) (dt t0 : Nat) (s : State), tblGet none (s.ms m).testing e = some t0 → s.engine m e = 1 →
    Answers (exec (.selftestEnd m e false dt) s) fun t =>
      t.engine m e = 2 ∧ tblGet none (t.ms m).testing e = none) ∧
  (∀ (m : Fin 16) (line : Fin 32768) (corrected : Nat) (s : State), s.hasMast m && s.domOn m →
    Answers (exec (.shmScrub m line corrected) s) fun t =>
      Counted .MST_CNT_CE m s t (min corrected 8) ∧ t.mst = s.mst) ∧
  (∀ (m : Fin 16) (dt at0 : Nat) (prog consts : Option (List Byte)) (s : State), (s.ms m).reload = some (at0, prog, consts) → (s.ms m).loadTill = none → (s.ms m).woke = false → (s.ms m).frames.any (fun f => decide (f.info.stampAt < at0) && !f.over && !f.dropped) = false →
    Answers (exec (.mastReload m dt) s) fun t =>
      (t.ms m).loadTill = some (s.fine + dt + 768) ∧ t.flag F.MST_STATUS_RELOAD m ∧ (t.ms m).prog = (s.ms m).prog ∧ t.fine = s.fine + dt) ∧
  (∀ (m : Fin 16) (dt at0 till : Nat) (prog consts : Option (List Byte)) (s : State), (s.ms m).reload = some (at0, prog, consts) → (s.ms m).loadTill = some till →
    Answers (exec (.mastReload m dt) s) fun t =>
      (t.ms m).prog = prog.getD (s.ms m).prog ∧ (t.ms m).consts = consts.getD (s.ms m).consts ∧ (t.ms m).reload = none ∧
      t.flag F.MST_STATUS_RELOAD m = false ∧ t.fine = max (s.fine + dt) till) ∧
  (∀ (who : Requester) (m : Fin 16) (w f : Word) (rest : List (Word × Word)) (s : State), s.mayRead who 3 m 1 → who ≠ .helm → (s.ms m).log = (w, f) :: rest →
    Answers (exec (.fault0Read who m) s) fun t =>
      Emits [.reply w] s t ∧ t.rd .MST_FAULT1 m = f ∧ (t.ms m).log = rest ∧ t.fld F.MST_STATUS_FAULT_PENDING m = b2n !rest.isEmpty)

/-- Scalar instructions of a spar: the result, the flags each sets and those it leaves, and nothing else of the block
changes (R196, R198, R201, R202, R206). A quotient that 32 bits cannot hold is a free value (log entry 2). -/
def Obligations.SparScalar : Prop :=
  (∀ (m : Fin 16) (e : Fin 66) (d a b : Fin 32) (imm : BitVec 16) (r : Run) (s : State),
    ∀ p ∈ [(Instr.add m e d a b, (r.spar.s b)),
      (Instr.addi m e d a imm, imm.signExtend 32)],
    s.sparRuns m e r p.1 → Answers (exec p.1 s) fun t => ∃ y, s.sparThen t m r y ∧ r.spar.Result y d ((r.spar.s a) + p.2) ∧
      y.Flags ((r.spar.s a) + p.2 == 0) ((r.spar.s a) + p.2).msb (BitVec.uaddOverflow (r.spar.s a) p.2) (BitVec.saddOverflow (r.spar.s a) p.2)) ∧
  (∀ (m : Fin 16) (e : Fin 66) (d a b : Fin 32) (imm : BitVec 16) (r : Run) (s : State),
    ∀ p ∈ [(Instr.sub m e d a b, d.val, (r.spar.s b)),
      (Instr.cmp m e a b, 0, (r.spar.s b)),
      (Instr.cmpi m e a imm, 0, imm.signExtend 32)],
    s.sparRuns m e r p.1 → Answers (exec p.1 s) fun t => ∃ y, s.sparThen t m r y ∧ r.spar.Result y p.2.1 ((r.spar.s a) - p.2.2) ∧
      y.Flags ((r.spar.s a) - p.2.2 == 0) ((r.spar.s a) - p.2.2).msb (!BitVec.usubOverflow (r.spar.s a) p.2.2) (BitVec.ssubOverflow (r.spar.s a) p.2.2)) ∧
  (∀ (m : Fin 16) (e : Fin 66) (d a b : Fin 32) (imm : BitVec 16) (r : Run) (s : State),
    ∀ p ∈ [(Instr.and m e d a b, (r.spar.s a) &&& (r.spar.s b)),
      (Instr.or m e d a b, (r.spar.s a) ||| (r.spar.s b)),
      (Instr.xor m e d a b, (r.spar.s a) ^^^ (r.spar.s b)),
      (Instr.shl m e d a b, (r.spar.s a) <<< ((r.spar.s b).toNat % 32)),
      (Instr.shr m e d a b, (r.spar.s a) >>> ((r.spar.s b).toNat % 32)),
      (Instr.sar m e d a b, (r.spar.s a).sshiftRight ((r.spar.s b).toNat % 32)),
      (Instr.mul m e d a b, (r.spar.s a) * (r.spar.s b)),
      (Instr.mulh m e d a b, ((r.spar.s a).signExtend 64 * (r.spar.s b).signExtend 64).extractLsb' 32 32),
      (Instr.min m e d a b, if (r.spar.s a).sle (r.spar.s b) then (r.spar.s a) else (r.spar.s b)),
      (Instr.max m e d a b, if (r.spar.s a).sle (r.spar.s b) then (r.spar.s b) else (r.spar.s a)),
      (Instr.slt m e d a b, if (r.spar.s a).slt (r.spar.s b) then 1 else 0),
      (Instr.sltu m e d a b, if (r.spar.s a).ult (r.spar.s b) then 1 else 0),
      (Instr.isqrt m e d a, BitVec.ofNat 32 (Nat.sqrt (r.spar.s a).toNat)),
      (Instr.andi m e d a imm, (r.spar.s a) &&& imm.setWidth 32),
      (Instr.ori m e d a imm, (r.spar.s a) ||| imm.setWidth 32),
      (Instr.xori m e d a imm, (r.spar.s a) ^^^ imm.setWidth 32),
      (Instr.shli m e d a imm, (r.spar.s a) <<< (imm.toNat % 32)),
      (Instr.shri m e d a imm, (r.spar.s a) >>> (imm.toNat % 32)),
      (Instr.sari m e d a imm, (r.spar.s a).sshiftRight (imm.toNat % 32))],
    s.sparRuns m e r p.1 → Answers (exec p.1 s) fun t => ∃ y, s.sparThen t m r y ∧ r.spar.Result y d p.2 ∧ y.Flags (p.2 == 0) p.2.msb r.spar.c r.spar.v) ∧
  (∀ (m : Fin 16) (e : Fin 66) (d a b : Fin 32) (r : Run) (s : State),
    ∀ p ∈ [(Instr.div m e d a b, (r.spar.s a).sdiv (r.spar.s b), (r.spar.s a) == 0x80000000 && (r.spar.s b) == 0xFFFFFFFF),
      (Instr.divu m e d a b, (r.spar.s a) / (r.spar.s b), false)],
    s.sparRuns m e r p.1 → Answers (exec p.1 s) fun t => ∃ y v, s.sparThen t m r y ∧ r.spar.Result y d v ∧ (p.2.2 = false → v = if (r.spar.s b) = 0 then 0 else p.2.1) ∧
      y.Flags (v == 0) v.msb r.spar.c ((r.spar.s b) == 0)) ∧
  (∀ (m : Fin 16) (e : Fin 66) (d : Fin 32) (imm : BitVec 16) (r : Run) (s : State),
    ∀ p ∈ [(Instr.lui m e d imm, imm ++ 0#16)],
    s.sparRuns m e r p.1 → Answers (exec p.1 s) fun t => ∃ y, s.sparThen t m r y ∧ r.spar.Result y d p.2 ∧ y.Flags r.spar.z r.spar.n r.spar.c r.spar.v) ∧
  (∀ (m : Fin 16) (e : Fin 66) (d : Fin 32) (r : Run) (s : State),
    ∀ p ∈ [(Instr.mfs m e d 0, b2n r.spar.sat, false),
      (Instr.mfs m e d 1, r.spar.col, r.spar.sat),
      (Instr.mfs m e d 2, r.spar.line, r.spar.sat),
      (Instr.mfs m e d 3, b2n (s.streamEnd m r), r.spar.sat)] ++
      ((List.range 32).filter (4 ≤ ·)).map (fun k => (Instr.mfs m e d (BitVec.ofNat 5 k), 0, r.spar.sat)),
    s.sparRuns m e r p.1 → Answers (exec p.1 s) fun t => ∃ y, s.sparThen t m r y ∧ r.spar.Result { y with sat := r.spar.sat } d (BitVec.ofNat 32 p.2.1) ∧ y.sat = p.2.2 ∧
      y.Flags r.spar.z r.spar.n r.spar.c r.spar.v)

/-- Loads, stores, branches, calls, loops and the ends of a tile, and what is ILLEGAL (R192, R197, R203, R206, R212,
R215). -/
def Obligations.SparMemoryAndControl : Prop :=
  (∀ (m : Fin 16) (e : Fin 66) (d a : Fin 32) (imm : BitVec 16) (r : Run) (s : State),
    ∀ p ∈ [(Instr.ldw m e d a imm, 4, BitVec.ofNat 32 (natLE ((List.range 4).map fun i => r.spar.byte (s.ms m).consts (r.spar.addr a imm + i)))),
      (Instr.ldh m e d a imm, 2, (r.spar.byte (s.ms m).consts (r.spar.addr a imm + 1) ++ r.spar.byte (s.ms m).consts (r.spar.addr a imm)).signExtend 32),
      (Instr.ldhu m e d a imm, 2, (r.spar.byte (s.ms m).consts (r.spar.addr a imm + 1) ++ r.spar.byte (s.ms m).consts (r.spar.addr a imm)).setWidth 32)],
    s.sparRuns m e r p.1 → Answers (exec p.1 s) fun t => (r.spar.addr a imm % p.2.1 = 0 ∧ r.spar.addr a imm < 0x10000 → ∃ y, s.sparThen t m r y ∧ r.spar.Result y d p.2.2 ∧ y.Flags r.spar.z r.spar.n r.spar.c r.spar.v) ∧
      (r.spar.addr a imm % p.2.1 ≠ 0 ∨ 0x10000 ≤ r.spar.addr a imm → s.sparIllegal t m e)) ∧
  (∀ (m : Fin 16) (e : Fin 66) (d a : Fin 32) (imm : BitVec 16) (r : Run) (s : State),
    ∀ p ∈ [(Instr.vld m e d a imm, ())],
    s.sparRuns m e r p.1 → Answers (exec p.1 s) fun t => (r.spar.addr a imm % 64 = 0 ∧ r.spar.addr a imm < 0x10000 → ∃ y, s.sparThen t m r y ∧
        r.spar.Lanes y d 0 (fun i => r.spar.byte (s.ms m).consts (r.spar.addr a imm + 2 * i + 1) ++ r.spar.byte (s.ms m).consts (r.spar.addr a imm + 2 * i))) ∧
      (r.spar.addr a imm % 64 ≠ 0 ∨ 0x10000 ≤ r.spar.addr a imm → s.sparIllegal t m e)) ∧
  (∀ (m : Fin 16) (e : Fin 66) (d a : Fin 32) (imm : BitVec 16) (r : Run) (s : State),
    ∀ p ∈ [(Instr.stw m e d a imm, 4, (r.spar.s d).toNat),
      (Instr.sth m e d a imm, 2, (r.spar.s d).toNat),
      (Instr.vst m e d a imm, 64, (r.spar.vec d).toNat)],
    s.sparRuns m e r p.1 → Answers (exec p.1 s) fun t => (r.spar.addr a imm % p.2.1 = 0 ∧ 0x4000 ≤ r.spar.addr a imm ∧ r.spar.addr a imm < 0x10000 → ∃ y, s.sparThen t m r y ∧ { y with scratch := r.spar.scratch } = r.spar ∧
        ∀ k, tblGet 0 y.scratch k = if r.spar.addr a imm ≤ k ∧ k < r.spar.addr a imm + p.2.1 then BitVec.ofNat 8 (p.2.2 / 2 ^ (8 * (k - r.spar.addr a imm))) else tblGet 0 r.spar.scratch k) ∧
      (r.spar.addr a imm % p.2.1 ≠ 0 ∨ r.spar.addr a imm < 0x4000 ∨ 0x10000 ≤ r.spar.addr a imm → s.sparIllegal t m e)) ∧
  (∀ (m : Fin 16) (e : Fin 66) (d a b : Fin 32) (mk : Fin 8) (r : Run) (s : State),
    ∀ p ∈ [(Instr.vlut m e d a b mk, ())],
    s.sparRuns m e r p.1 → Answers (exec p.1 s) fun t => ((∀ i < 32, r.spar.on mk i → (((r.spar.s a).toNat + 2 * (lane16 (r.spar.vec b) i).toNat) % 2 ^ 32) % 2 = 0 ∧ (((r.spar.s a).toNat + 2 * (lane16 (r.spar.vec b) i).toNat) % 2 ^ 32) < 0x10000) → ∃ y, s.sparThen t m r y ∧
        r.spar.Lanes y d mk (fun i => r.spar.byte (s.ms m).consts ((((r.spar.s a).toNat + 2 * (lane16 (r.spar.vec b) i).toNat) % 2 ^ 32) + 1) ++ r.spar.byte (s.ms m).consts (((r.spar.s a).toNat + 2 * (lane16 (r.spar.vec b) i).toNat) % 2 ^ 32))) ∧
      ((∃ i < 32, r.spar.on mk i ∧ ((((r.spar.s a).toNat + 2 * (lane16 (r.spar.vec b) i).toNat) % 2 ^ 32) % 2 ≠ 0 ∨ 0x10000 ≤ (((r.spar.s a).toNat + 2 * (lane16 (r.spar.vec b) i).toNat) % 2 ^ 32))) → s.sparIllegal t m e)) ∧
  (∀ (m : Fin 16) (e : Fin 66) (cond : BitVec 4) (ofs : BitVec 22) (r : Run) (s : State),
    ∀ p ∈ [(Instr.b m e cond ofs, sparCond r.spar (s.streamEnd m r) cond.toNat)],
    s.sparRuns m e r p.1 → Answers (exec p.1 s) fun t => (p.2 = some true ∧ inProgram (r.spar.pcAt (r.spar.pc + 4 * ofs.toInt)) → s.sparGoes t m r r.spar (r.spar.pc + 4 * ofs.toInt)) ∧
      (p.2 = some true ∧ inProgram (r.spar.pcAt (r.spar.pc + 4 * ofs.toInt)) = false → s.sparIllegal t m e) ∧
      (p.2 = some false → s.sparThen t m r r.spar) ∧ (p.2 = none → s.sparIllegal t m e)) ∧
  (∀ (m : Fin 16) (e : Fin 66) (cond : BitVec 4) (ofs : BitVec 22) (r : Run) (s : State),
    ∀ p ∈ [(Instr.call m e cond ofs, ())],
    s.sparRuns m e r p.1 → Answers (exec p.1 s) fun t => (cond = 0 ∧ inProgram (r.spar.pcAt (r.spar.pc + 4 * ofs.toInt)) → ∃ y, s.sparGoes t m r y (r.spar.pc + 4 * ofs.toInt) ∧ r.spar.Result y 31 (BitVec.ofInt 32 (r.spar.pc + 4)) ∧ y.Flags r.spar.z r.spar.n r.spar.c r.spar.v) ∧
      (cond ≠ 0 ∨ inProgram (r.spar.pcAt (r.spar.pc + 4 * ofs.toInt)) = false → s.sparIllegal t m e)) ∧
  (∀ (m : Fin 16) (e : Fin 66)  (r : Run) (s : State),
    ∀ p ∈ [(Instr.ret m e, (r.spar.s 31).toNat)],
    s.sparRuns m e r p.1 → Answers (exec p.1 s) fun t => (p.2 % 4 = 0 ∧ inProgram (r.spar.pcAt p.2) → s.sparGoes t m r r.spar p.2) ∧ (p.2 % 4 ≠ 0 ∨ inProgram (r.spar.pcAt p.2) = false → s.sparIllegal t m e)) ∧
  (∀ (m : Fin 16) (e : Fin 66) (a : Fin 32) (imm : BitVec 16) (r : Run) (s : State), 1 ≤ imm.toNat → imm.toNat ≤ 4095 → inProgram (r.spar.pc + 4) →
    ∀ p ∈ [(Instr.loop m e a imm, (r.spar.s a).toNat)],
    s.sparRuns m e r p.1 → Answers (exec p.1 s) fun t => (p.2 = 0 ∧ inProgram (r.spar.pcAt (r.spar.pc + 4 + 4 * imm.toNat)) → s.sparGoes t m r r.spar (r.spar.pc + 4 + 4 * imm.toNat)) ∧
      (p.2 ≠ 0 ∧ r.spar.loops.length < 2 → s.sparNow m r t { r.spar with
          pc := r.spar.pc + 4, loops := ⟨r.spar.pc + 4, r.spar.pc + 4 + 4 * imm.toNat, p.2⟩ :: r.spar.loops }) ∧
      (p.2 ≠ 0 ∧ 2 ≤ r.spar.loops.length → s.sparIllegal t m e)) ∧
  (∀ (m : Fin 16) (e : Fin 66) (a : Fin 32) (imm : BitVec 16) (f : MFrame) (r : Run) (s : State), (s.ms m).findFrame r.tile.stream r.tile.frame = some f →
    ∀ p ∈ [(Instr.commit m e a imm none, decide (imm.toNat < 64 ∧ 32 ≤ (r.spar.s a).toNat ∧ (r.spar.s a).toNat ≤ 256 ∧ (r.spar.s a).toNat % 32 = 0))],
    s.sparRuns m e r p.1 → Answers (exec p.1 s) fun t => (p.2 → t.runOf m e = none ∧ Counted .MST_CNT_TILES m s t) ∧ (p.2 = false → s.sparIllegal t m e)) ∧
  (∀ (m : Fin 16) (e : Fin 66)  (r : Run) (s : State),
    ∀ p ∈ [(Instr.abort m e, ())],
    s.sparRuns m e r p.1 → Answers (exec p.1 s) fun t => t.runOf m e = none ∧ Counted .MST_CNT_ABANDON m s t)

/-- Vector and mask instructions of a spar: each lane in the mask gets its result, the others stay, saturation sets SAT
(R196, R200, R204, R205). -/
def Obligations.SparVector : Prop :=
  (∀ (m : Fin 16) (e : Fin 66) (d a b : Fin 32) (mk : Fin 8) (r : Run) (s : State),
    ∀ p ∈ [(Instr.vadd m e d a b mk, fun i => (lane16 (r.spar.vec a) i) + (lane16 (r.spar.vec b) i)),
      (Instr.vsub m e d a b mk, fun i => (lane16 (r.spar.vec a) i) - (lane16 (r.spar.vec b) i)),
      (Instr.vmul m e d a b mk, fun i => (lane16 (r.spar.vec a) i) * (lane16 (r.spar.vec b) i)),
      (Instr.vmin m e d a b mk, fun i => if (lane16 (r.spar.vec a) i).sle (lane16 (r.spar.vec b) i) then (lane16 (r.spar.vec a) i) else (lane16 (r.spar.vec b) i)),
      (Instr.vmax m e d a b mk, fun i => if (lane16 (r.spar.vec a) i).sle (lane16 (r.spar.vec b) i) then (lane16 (r.spar.vec b) i) else (lane16 (r.spar.vec a) i)),
      (Instr.vminu m e d a b mk, fun i => if (lane16 (r.spar.vec a) i).ule (lane16 (r.spar.vec b) i) then (lane16 (r.spar.vec a) i) else (lane16 (r.spar.vec b) i)),
      (Instr.vmaxu m e d a b mk, fun i => if (lane16 (r.spar.vec a) i).ule (lane16 (r.spar.vec b) i) then (lane16 (r.spar.vec b) i) else (lane16 (r.spar.vec a) i)),
      (Instr.vand m e d a b mk, fun i => (lane16 (r.spar.vec a) i) &&& (lane16 (r.spar.vec b) i)),
      (Instr.vor m e d a b mk, fun i => (lane16 (r.spar.vec a) i) ||| (lane16 (r.spar.vec b) i)),
      (Instr.vxor m e d a b mk, fun i => (lane16 (r.spar.vec a) i) ^^^ (lane16 (r.spar.vec b) i)),
      (Instr.vabsdu m e d a b mk, fun i => if (lane16 (r.spar.vec a) i).ule (lane16 (r.spar.vec b) i) then (lane16 (r.spar.vec b) i) - (lane16 (r.spar.vec a) i) else (lane16 (r.spar.vec a) i) - (lane16 (r.spar.vec b) i)),
      (Instr.vshl m e d a b mk, fun i => (lane16 (r.spar.vec a) i) <<< ((lane16 (r.spar.vec b) i).toNat % 32)),
      (Instr.vshr m e d a b mk, fun i => (lane16 (r.spar.vec a) i) >>> ((lane16 (r.spar.vec b) i).toNat % 32)),
      (Instr.vsar m e d a b mk, fun i => (lane16 (r.spar.vec a) i).sshiftRight ((lane16 (r.spar.vec b) i).toNat % 32))],
    s.sparRuns m e r p.1 → Answers (exec p.1 s) fun t => ∃ y, s.sparThen t m r y ∧ r.spar.Lanes y d mk p.2) ∧
  (∀ (m : Fin 16) (e : Fin 66) (d a b : Fin 32) (mk : Fin 8) (r : Run) (s : State),
    ∀ p ∈ [(Instr.vadds m e d a b mk, (-32768 : Int), (32767 : Int), fun i => (lane16 (r.spar.vec a) i).toInt + (lane16 (r.spar.vec b) i).toInt),
      (Instr.vsubs m e d a b mk, (-32768 : Int), (32767 : Int), fun i => (lane16 (r.spar.vec a) i).toInt - (lane16 (r.spar.vec b) i).toInt),
      (Instr.vaddus m e d a b mk, (0 : Int), (65535 : Int), fun i => ((lane16 (r.spar.vec a) i).toNat : Int) + (lane16 (r.spar.vec b) i).toNat),
      (Instr.vsubus m e d a b mk, (0 : Int), (65535 : Int), fun i => ((lane16 (r.spar.vec a) i).toNat : Int) - (lane16 (r.spar.vec b) i).toNat),
      (Instr.vmulq m e d a b mk, (-32768 : Int), (32767 : Int), fun i => ((lane16 (r.spar.vec a) i).toInt * (lane16 (r.spar.vec b) i).toInt + 2 ^ 14) / 2 ^ 15)],
    s.sparRuns m e r p.1 → Answers (exec p.1 s) fun t => ∃ y, s.sparThen t m r y ∧ r.spar.SatLanes y d mk p.2.1 p.2.2.1 p.2.2.2) ∧
  (∀ (m : Fin 16) (e : Fin 66) (k d a b : Fin 32) (mk : Fin 8) (r : Run) (s : State),
    ∀ p ∈ [(Instr.vsel m e d a b mk, 0, fun i => if r.spar.on mk i then (lane16 (r.spar.vec a) i) else (lane16 (r.spar.vec b) i)),
      (Instr.vext m e k d a b mk, mk.val, fun i => if i + k.val < 32 then lane16 (r.spar.vec a) (i + k) else lane16 (r.spar.vec b) (i + k - 32))],
    s.sparRuns m e r p.1 → Answers (exec p.1 s) fun t => ∃ y, s.sparThen t m r y ∧ r.spar.Lanes y d p.2.1 p.2.2) ∧
  (∀ (m : Fin 16) (e : Fin 66) (d a : Fin 32) (mk : Fin 8) (r : Run) (s : State),
    ∀ p ∈ [(Instr.vsplat m e d a mk, fun (_ : Nat) => (r.spar.s a).setWidth 16)],
    s.sparRuns m e r p.1 → Answers (exec p.1 s) fun t => ∃ y, s.sparThen t m r y ∧ r.spar.Lanes y d mk p.2) ∧
  (∀ (m : Fin 16) (e : Fin 66) (d a b : Fin 32) (mk : Fin 8) (r : Run) (s : State),
    ∀ p ∈ [(Instr.vmulw m e d a b mk, fun i => (lane16 (r.spar.vec a) i).signExtend 32 * (lane16 (r.spar.vec b) i).signExtend 32),
      (Instr.vmulwu m e d a b mk, fun i => (lane16 (r.spar.vec a) i).setWidth 32 * (lane16 (r.spar.vec b) i).setWidth 32),
      (Instr.vaccwu m e d a mk, fun i => r.spar.pair32 d i + (lane16 (r.spar.vec a) i).setWidth 32)],
    s.sparRuns m e r p.1 → Answers (exec p.1 s) fun t => (d.val % 2 = 0 → ∃ y, s.sparThen t m r y ∧ r.spar.Pairs y d mk p.2) ∧ (d.val % 2 = 1 → s.sparIllegal t m e)) ∧
  (∀ (m : Fin 16) (e : Fin 66) (d a b : Fin 32) (mk : Fin 8) (r : Run) (s : State),
    ∀ p ∈ [(Instr.vnarrow m e d a b mk, (-32768 : Int), (32767 : Int), fun i => roundShift (r.spar.pair32 a i).toInt ((r.spar.s b).toNat % 32)),
      (Instr.vnarrowu m e d a b mk, (0 : Int), (65535 : Int), fun i => roundShift (r.spar.pair32 a i).toNat ((r.spar.s b).toNat % 32)),
      (Instr.vaccr m e d a b mk, (-32768 : Int), (32767 : Int), fun i => roundShift (r.spar.acc48 a i).toInt (min (r.spar.s b).toNat 64))],
    s.sparRuns m e r p.1 → Answers (exec p.1 s) fun t => ∃ y, s.sparThen t m r y ∧ r.spar.SatLanes y d mk p.2.1 p.2.2.1 p.2.2.2) ∧
  (∀ (m : Fin 16) (e : Fin 66) (d a b : Fin 32) (mk : Fin 8) (r : Run) (s : State),
    ∀ p ∈ [(Instr.vmac m e d a b mk, fun i => r.spar.acc48 d i + (lane16 (r.spar.vec a) i).signExtend 48 * (lane16 (r.spar.vec b) i).signExtend 48),
      (Instr.vmacu m e d a b mk, fun i => r.spar.acc48 d i + (lane16 (r.spar.vec a) i).setWidth 48 * (lane16 (r.spar.vec b) i).setWidth 48),
      (Instr.vaccz m e d mk, fun _ => 0)],
    s.sparRuns m e r p.1 → Answers (exec p.1 s) fun t => ∃ y, s.sparThen t m r y ∧ r.spar.Accs y d mk p.2) ∧
  (∀ (m : Fin 16) (e : Fin 66) (d : Fin 8) (a b : Fin 32) (mk : Fin 8) (r : Run) (s : State),
    ∀ p ∈ [(Instr.vcmpeq m e d a b mk, fun i => (lane16 (r.spar.vec a) i) == (lane16 (r.spar.vec b) i)),
      (Instr.vcmpgt m e d a b mk, fun i => (lane16 (r.spar.vec b) i).slt (lane16 (r.spar.vec a) i)),
      (Instr.vcmpgtu m e d a b mk, fun i => (lane16 (r.spar.vec b) i).ult (lane16 (r.spar.vec a) i)),
      (Instr.vcmpgeu m e d a b mk, fun i => (lane16 (r.spar.vec b) i).ule (lane16 (r.spar.vec a) i))],
    s.sparRuns m e r p.1 → Answers (exec p.1 s) fun t => ∃ y, s.sparThen t m r y ∧ r.spar.MaskIs y d (fun i => r.spar.on mk i && p.2 i)) ∧
  (∀ (m : Fin 16) (e : Fin 66) (d a b : Fin 8) (k : Fin 32) (r : Run) (s : State),
    ∀ p ∈ [(Instr.mand m e d a b, r.spar.m a &&& r.spar.m b),
      (Instr.mor m e d a b, r.spar.m a ||| r.spar.m b),
      (Instr.mxor m e d a b, r.spar.m a ^^^ r.spar.m b),
      (Instr.mnot m e d a, ~~~(r.spar.m a)),
      (Instr.stom m e d k, r.spar.s k)],
    s.sparRuns m e r p.1 → Answers (exec p.1 s) fun t => ∃ y, s.sparThen t m r y ∧ r.spar.MaskIs y d p.2.getLsbD) ∧
  (∀ (m : Fin 16) (e : Fin 66) (d a : Fin 32) (k : Fin 8) (mk : Fin 8) (r : Run) (s : State),
    ∀ p ∈ [(Instr.vrsum m e d a mk, BitVec.ofInt 32 (((List.range 32).filter (r.spar.on mk)).map fun i => (lane16 (r.spar.vec a) i).toInt).sum),
      (Instr.vrsumu m e d a mk, BitVec.ofNat 32 (((List.range 32).filter (r.spar.on mk)).map fun i => (lane16 (r.spar.vec a) i).toNat).sum),
      (Instr.vrmaxu m e d a mk, BitVec.ofNat 32 ((((List.range 32).filter (r.spar.on mk)).map fun i => (lane16 (r.spar.vec a) i).toNat).foldl max 0)),
      (Instr.mtos m e d k, r.spar.m k),
      (Instr.mpop m e d k, BitVec.ofNat 32 ((List.range 32).filter fun i => (r.spar.m k).getLsbD i).length)],
    s.sparRuns m e r p.1 → Answers (exec p.1 s) fun t => ∃ y, s.sparThen t m r y ∧ r.spar.Result y d p.2 ∧ y.Flags r.spar.z r.spar.n r.spar.c r.spar.v) ∧
  (∀ (m : Fin 16) (e : Fin 66) (d a : Fin 32) (mk : Fin 8) (r : Run) (s : State),
    ∀ p ∈ [(Instr.vrmaxi m e d a mk, ())],
    s.sparRuns m e r p.1 → Answers (exec p.1 s) fun t => ∃ y k, s.sparThen t m r y ∧ r.spar.Result y d (BitVec.ofNat 32 k) ∧ y.Flags r.spar.z r.spar.n r.spar.c r.spar.v ∧
      ((∀ i < 32, r.spar.on mk i = false) → k = 32) ∧
      ((∃ i < 32, r.spar.on mk i) → k < 32 ∧ r.spar.on mk k ∧ (∀ j < 32, r.spar.on mk j → lane16 (r.spar.vec a) j ≤ lane16 (r.spar.vec a) k) ∧
        ∀ j < k, r.spar.on mk j → lane16 (r.spar.vec a) j < lane16 (r.spar.vec a) k))

/-- Input stream, staging, descriptor, histogram, labeller and moment unit of a spar (R190, R191, R205, R207, R208, R209,
R210, R211, R212). -/
def Obligations.SparStreamsAndUnits : Prop :=
  (∀ (m : Fin 16) (e : Fin 66) (d : Fin 32) (f : MFrame) (ue : List Nat) (r : Run) (s : State), r.tile.reduce = false →
    (s.ms m).findFrame r.tile.stream r.tile.frame = some f → f.closed → s.sparRuns m e r (.srd m e d []) →
    Answers (exec (.srd m e d ue) s) fun t => ∃ y n, (s.bumpBy .MST_CNT_SHM_UE n m).sparThen t m r y ∧
      (∀ i < 32, lane16 (y.vec d) i = BitVec.ofNat 16 (match (if r.spar.col + i < (f.streamDims r.tile).1 ∧ r.spar.line < (f.streamDims r.tile).2 then
            s.pixLane m f r.tile (r.spar.col + i) r.spar.line else none) with
        | some l => if l.1.any (fun a => ue.contains (a / 8)) then 0 else ((f.pixelAt r.tile (r.spar.col + i) r.spar.line).map (s.pixel m f)).getD 0
        | none => 0)) ∧
      (∀ i < 32, (y.m 7).getLsbD i = decide (r.spar.col + i < (f.streamDims r.tile).1 ∧ r.spar.line < (f.streamDims r.tile).2)) ∧
      (y.col, y.line, y.lend) = (if (f.streamDims r.tile).1 ≤ r.spar.col + 32 then (0, r.spar.line + 1, true) else (r.spar.col + 32, r.spar.line, false)) ∧
      (ue = [] → n = 0) ∧ y.shmUe = (r.spar.shmUe || n != 0) ∧ ∀ k, y.s k = r.spar.s k) ∧
  (∀ (m : Fin 16) (e : Fin 66) (d : Fin 32) (f : MFrame) (ue : List Nat) (r : Run) (s : State),
    (s.ms m).findFrame r.tile.stream r.tile.frame = some f → f.closed →
    ∀ p ∈ [(Instr.srdr m e d, false), (Instr.srd m e d, true)],
    (p.2 = true → r.tile.reduce = true) → s.sparRuns m e r (p.1 []) → Answers (exec (p.1 ue) s) fun t =>
      ∃ y n, (s.bumpBy .MST_CNT_SHM_UE n m).sparThen t m r y ∧
      (∀ i < 32, lane16 (y.vec d) i = BitVec.ofNat 16 (match s.rawLane m f r.tile r.spar.line (r.spar.col + i) with
        | some l => if l.1.any (fun a => ue.contains (a / 8)) then 0 else natLE (l.1.map (tblGet 0 (s.ms m).shm))
        | none => 0)) ∧
      (∀ i < 32, (y.m 7).getLsbD i = (s.rawLane m f r.tile r.spar.line (r.spar.col + i)).isSome) ∧
      (y.col, y.line) = (if f.rawRow r.tile r.spar.line ≤ r.spar.col + 32 then (0, r.spar.line + 1) else (r.spar.col + 32, r.spar.line)) ∧
      y.lend = (if p.2 then decide (f.rawRow r.tile r.spar.line ≤ r.spar.col + 32) else r.spar.lend) ∧
      (ue = [] → n = 0) ∧ y.shmUe = (r.spar.shmUe || n != 0) ∧ ∀ k, y.s k = r.spar.s k) ∧
  (∀ (m : Fin 16) (e : Fin 66) (a b : Fin 32) (r : Run) (s : State),
    ∀ p ∈ [(Instr.sseek m e a b, ())],
    s.sparRuns m e r p.1 → Answers (exec p.1 s) fun t => s.sparThen t m r { r.spar with col := (r.spar.s a).toNat, line := (r.spar.s b).toNat }) ∧
  (∀ (m : Fin 16) (e : Fin 66) (a b : Fin 32) (r : Run) (s : State),
    ∀ p ∈ [(Instr.swr m e a b, 64, 192, (r.spar.vec a).toNat),
      (Instr.swrs m e a b, 4, 252, (r.spar.s a).toNat)],
    s.sparRuns m e r p.1 → Answers (exec p.1 s) fun t => ((r.spar.s b).toNat % p.2.1 = 0 ∧ (r.spar.s b).toNat ≤ p.2.2.1 → ∃ y, s.sparThen t m r y ∧ { y with staging := r.spar.staging } = r.spar ∧
        ∀ k, tblGet 0 y.staging k = if (r.spar.s b).toNat ≤ k ∧ k < (r.spar.s b).toNat + p.2.1 then BitVec.ofNat 8 (p.2.2.2 / 2 ^ (8 * (k - (r.spar.s b).toNat))) else tblGet 0 r.spar.staging k) ∧
      ((r.spar.s b).toNat % p.2.1 ≠ 0 ∨ p.2.2.1 < (r.spar.s b).toNat → s.sparIllegal t m e)) ∧
  (∀ (m : Fin 16) (e : Fin 66) (d a : Fin 32) (r : Run) (s : State),
    ∀ p ∈ [(Instr.std m e d a, s.descWord m r a)],
    s.sparRuns m e r p.1 → Answers (exec p.1 s) fun t => (∀ w, p.2 = some w → ∃ y, s.sparThen t m r y ∧ r.spar.Result y d w ∧ y.Flags r.spar.z r.spar.n r.spar.c r.spar.v) ∧
      (p.2 = none → t = s.setRun m { r with waitFrom := some (r.waitFrom.getD s.fine) })) ∧
  (∀ (m : Fin 16) (e : Fin 66) (a b : Fin 32) (mk : Fin 8) (r : Run) (s : State),
    ∀ p ∈ [(Instr.hist m e a b mk, ())],
    s.sparRuns m e r p.1 → Answers (exec p.1 s) fun t => ∃ y, s.sparThen t m r y ∧ { y with hist := r.spar.hist } = r.spar ∧
      ∀ k, (tblGet 0 y.hist k).toNat = min (2 ^ 32 - 1) ((tblGet 0 r.spar.hist k).toNat +
        ((List.range 32).filter fun i => r.spar.on mk i && min ((lane16 (r.spar.vec a) i).toNat >>> (r.spar.s b).toNat) 1023 == k).length)) ∧
  (∀ (m : Fin 16) (e : Fin 66) (d a : Fin 32) (r : Run) (s : State),
    ∀ p ∈ [(Instr.hrd m e d a, ())],
    s.sparRuns m e r p.1 → Answers (exec p.1 s) fun t => (d.val % 2 = 1 → s.sparIllegal t m e) ∧ (d.val % 2 = 0 → ∃ y, s.sparThen t m r y ∧
      r.spar.Pairs y d 0 fun i => if (r.spar.s a).toNat + i < 1024 then tblGet 0 r.spar.hist ((r.spar.s a).toNat + i) else 0)) ∧
  (∀ (m : Fin 16) (e : Fin 66) (a b : Fin 32) (mk : Fin 8) (r : Run) (s : State), (∀ k, r.spar.lab.seg = some k → k < (r.spar.s b).toNat) →
    ∀ p ∈ [(Instr.lcfg m e a, { r.spar.lab with woff := (r.spar.s a).toNat % 65536, conn8 := (r.spar.s a).getLsbD 16 }),
      (Instr.lab m e a b mk, { r.spar.lab with seg := some (r.spar.s b).toNat, line := r.spar.lab.line ++
        ((List.range 32).filter (r.spar.on mk)).map fun i => ((r.spar.s b).toNat + i, (lane16 (r.spar.vec a) i).toNat) }),
      (Instr.leol m e, r.spar.lab.close)],
    s.sparRuns m e r p.1 → Answers (exec p.1 s) fun t => s.sparThen t m r { r.spar with lab := p.2 }) ∧
  (∀ (m : Fin 16) (e : Fin 66) (a b : Fin 32) (mk : Fin 8) (k : Nat) (r : Run) (s : State), r.spar.lab.seg = some k → (r.spar.s b).toNat ≤ k →
    ∀ p ∈ [(Instr.lab m e a b mk, ())],
    s.sparRuns m e r p.1 → Answers (exec p.1 s) fun t => s.sparIllegal t m e) ∧
  (∀ (m : Fin 16) (e : Fin 66) (d a b : Fin 32) (r : Run) (s : State),
    ∀ p ∈ [(Instr.lrd m e d a b, r.spar.lab.stat (r.spar.s a).toNat (r.spar.s b).toNat),
      (Instr.mrd m e d b, r.spar.mom.word (r.spar.s b).toNat)],
    s.sparRuns m e r p.1 → Answers (exec p.1 s) fun t => ∃ y, s.sparThen t m r y ∧ r.spar.Result y d p.2 ∧ y.Flags r.spar.z r.spar.n r.spar.c r.spar.v) ∧
  (∀ (m : Fin 16) (e : Fin 66) (a : Fin 32) (r : Run) (s : State),
    ∀ p ∈ [(Instr.mcfg m e a, ())],
    s.sparRuns m e r p.1 → Answers (exec p.1 s) fun t => s.sparThen t m r { r.spar with mom := { r.spar.mom with offset := (r.spar.s a).toNat % 65536 } }) ∧
  (∀ (m : Fin 16) (e : Fin 66) (a b : Fin 32) (mk : Fin 8) (r : Run) (s : State), r.spar.mom.sums ≠ [] →
    ∀ p ∈ [(Instr.mom m e a b mk, ())],
    s.sparRuns m e r p.1 → Answers (exec p.1 s) fun t => ∃ y, s.sparThen t m r y ∧ { y with mom := r.spar.mom } = r.spar ∧ y.mom.offset = r.spar.mom.offset ∧
      y.mom.count % 2 ^ 32 = (r.spar.mom.count + ((List.range 32).filter fun i => r.spar.on mk i && decide (0 < ((lane16 (r.spar.vec a) i).toNat - r.spar.mom.offset))).length) % 2 ^ 32 ∧
      y.mom.sums.getD 0 0 % 2 ^ 64 = (r.spar.mom.sums.getD 0 0 + (((List.range 32).filter (r.spar.on mk)).map fun i => ((lane16 (r.spar.vec a) i).toNat - r.spar.mom.offset)).sum) % 2 ^ 64)

/-- A record is queued after its checks, evaluated in the state it finds, a missed one counts, and tuning runs start and
stop (R235, R236, R237, R240, R242, R252, R254, R255, R260, R262, R264). -/
def Obligations.SheetUnits : Prop :=
  (∀ (n : Fin 12) (mast : Fin 16) (stream : Fin 8) (rec : List Byte) (s : State), s.beamRuns n → rec.length = 32 ∧ crc16 (rec.take 30) = fieldLE rec 30 2 → mast.val = s.fld F.SHT_CFG_SRC_MAST n ∧ stream.val = s.fld F.SHT_CFG_SRC_STREAM n ∧ fieldLE rec 0 1 = 1 ∧ fieldLE rec 1 1 = n →
    Answers (exec (.sheetRecord n mast stream rec false) s) fun t =>
      t = if (s.sh n).queue.length < 4 then s.setSh n { s.sh n with queue := (s.sh n).queue ++ [⟨mast, stream, rec, s.fine⟩] } else s.bump .SHT_CNT_OVERRUN n) ∧
  (∀ (n : Fin 12) (mast : Fin 16) (stream : Fin 8) (rec : List Byte) (s : State), s.beamRuns n →
    Answers (exec (.sheetRecord n mast stream rec false) s) fun t =>
      (rec.length ≠ 32 ∨ crc16 (rec.take 30) ≠ fieldLE rec 30 2 → t = s.bump .SHT_CNT_BAD_CHECK n) ∧
      (rec.length = 32 ∧ crc16 (rec.take 30) = fieldLE rec 30 2 → mast.val ≠ s.fld F.SHT_CFG_SRC_MAST n ∨ stream.val ≠ s.fld F.SHT_CFG_SRC_STREAM n →
        t = s.bump .SHT_CNT_FOREIGN n)) ∧
  (∀ (n : Fin 12) (dt : Nat) (u : State) (q : ShtRec) (rest : List ShtRec) (s : State), s.beamThen n dt = u → (u.sh n).queue = q :: rest → u.shState n ≠ shtOff → (u.sh n).fresh = false → frameDiff (fieldLE q.data 4 4) (u.rd .SHT_LAST_FRAME n).toNat ≤ 0 →
    Answers (exec (.evaluation n dt) s) fun t =>
      t = (u.setSh n { u.sh n with queue := rest }).bump .SHT_CNT_STALE n) ∧
  (∀ (n : Fin 12) (dt : Nat) (u : State) (q : ShtRec) (rest : List ShtRec) (s : State), s.beamThen n dt = u → (u.sh n).queue = q :: rest → u.shState n = shtOpen → (u.sh n).fresh → u.rejects n q.data = false → u.flag F.SHT_STATUS_ACTIVE n = false →
    Answers (exec (.evaluation n dt) s) fun t =>
      (t.sh n).queue = rest ∧ (t.sh n).fresh = false ∧ t.rd .SHT_LAST_FRAME n = BitVec.ofNat 32 (fieldLE q.data 4 4) ∧
      Counted .SHT_CNT_NOT_ENGAGED n u t ∧ t.fine = u.fine + 125) ∧
  (∀ (n : Fin 12) (dt : Nat) (u : State) (q : ShtRec) (rest : List ShtRec) (s : State), s.beamThen n dt = u → (u.sh n).queue = q :: rest → u.shState n = shtClosed → (u.sh n).fresh → u.rejects n q.data = false → u.flag F.SHT_STATUS_ACTIVE n = false → u.tooEarly n q.data = false →
    Answers (exec (.evaluation n dt) s) fun t =>
      Counted .SHT_CNT_EVAL n u t ∧ t.fine = u.fine + 125) ∧
  (∀ (n : Fin 12) (dt : Nat) (u : State) (q : ShtRec) (rest : List ShtRec) (s : State), s.beamThen n dt = u → (u.sh n).queue = q :: rest → u.shState n ≠ shtOff → u.newer n q.data → u.rejects n q.data →
    Answers (exec (.evaluation n dt) s) fun t =>
      Counted .SHT_CNT_REJECT n u t ∧ Counted .SHT_CNT_MISS n u t ∧ (t.sh n).queue = rest) ∧
  (∀ (n : Fin 12) (dt due : Nat) (u : State) (s : State), (s.sh n).missAt = some due → (s.passTo dt due).refresh n = u → (u.sh n).queue = [] → u.shState n ≠ shtOff →
    Answers (exec (.missTimer n dt) s) fun t =>
      Counted .SHT_CNT_MISS n u t ∧ (t.sh n).missed = (u.sh n).missed + 1 ∧ (t.sh n).missAt = some (due + u.missTime n false) ∧
      (t.sh n).queue = []) ∧
  (∀ (who : Requester) (n : Fin 12) (s : State), s.mayWrite who .SHT_CMD n → 3 ≤ s.levelOf who →
    Answers (exec (.shtStart who n) s) fun t =>
      (s.mode = modeService ∧ s.shState n ≠ shtOff ∧ s.fld F.SHT_TUNE_INJ_MODE n ≠ 0 ∧ s.sweepOk n →
        t.flag F.SHT_STATUS_ACTIVE n ∧ (t.sh n).tune = {}) ∧
      (s.shState n = shtOff ∨ s.fld F.SHT_TUNE_INJ_MODE n = 0 ∨ s.sweepOk n = false → t = s.setFld F.SHT_STATUS_TUNE_REFUSED 1 n)) ∧
  (∀ (who : Requester) (n : Fin 12) (s : State), s.mayWrite who .SHT_CMD n →
    Answers (exec (.shtStop who n) s) fun t =>
      t.flag F.SHT_STATUS_ACTIVE n = false) ∧
  (∀ (who : Requester) (n : Fin 12) (s : State), s.mayWrite who .SHT_CMD n → s.shState n = shtOpen →
    Answers (exec (.resetState who n) s) fun t =>
      t.rd .SHT_I_STATE n = 0 ∧ (t.sh n).bq = [] ∧ (t.sh n).ePrev = 0 ∧ (t.sh n).yPrev = 0 ∧ (t.sh n).queue = (s.sh n).queue)

/-- DAC updates, modulation periods, digital words, the tracking loop, paced pulses and meter readings of a beam channel
(R268, R271, R274, R275, R276, R278, R281, R282, R283, R284, R294). -/
def Obligations.BeamPower : Prop :=
  (∀ (n : Fin 12) (dt : Nat) (u : State) (s : State), s.beamRuns n → (s.beamThen n dt).domOn (44 + n) → (s.beamThen n dt).setFld F.BCH_STATUS_PROFILE ((s.beamThen n dt).sc n).profile n = u →
    Answers (exec (.dacUpdate n dt) s) fun t =>
      t.outbox = u.outbox ++ [Out.dac n.val (if u.driving n && u.fld F.BCH_CFG_OUT_SEL n != 1 then u.codeFor n (u.beamC n) else u.fld F.BCH_OUT_CFG_IDLE_CODE n)] ∧
      (t.bc n).code = (if u.driving n && u.fld F.BCH_CFG_OUT_SEL n != 1 then u.codeFor n (u.beamC n) else u.fld F.BCH_OUT_CFG_IDLE_CODE n)) ∧
  (∀ (n : Fin 12) (dt : Nat) (u : State) (s : State), s.beamRuns n → s.flag F.BCH_STATUS_EMIT n && s.hybrid n → (s.passTo dt (s.bc n).modDue).refresh n = u → u.flag F.BCH_STATUS_EMIT n && u.hybrid n → (u.bc n).modDue ≤ u.fine → u.fld F.BCH_HYBRID_KNEE n ≤ u.beamC n →
    Answers (exec (.modulationPeriod n dt) s) fun t =>
      (t.bc n).modHeld ∧ (t.bc n).modOn = 0 ∧ (t.bc n).modAt = (u.bc n).modDue ∧ t.regs = u.regs ∧
      t.outbox = u.outbox ++ (if (u.bc n).modHeld then [] else [Out.modLevel n true (u.bc n).modDue])) ∧
  (∀ (n : Fin 12) (dt : Nat) (u : State) (s : State), s.beamRuns n → s.flag F.BCH_STATUS_EMIT n && s.hybrid n → (s.passTo dt (s.bc n).modDue).refresh n = u → u.flag F.BCH_STATUS_EMIT n && u.hybrid n → (u.bc n).modDue ≤ u.fine → u.beamC n < u.fld F.BCH_HYBRID_KNEE n →
    Answers (exec (.modulationPeriod n dt) s) fun t =>
      ((t.bc n).modOn * 65536 : Nat) + (t.bc n).carry = (u.dutyFor n (u.beamC n) * u.modPeriod n : Nat) + (u.bc n).carry ∧
      (t.bc n).modAt = (u.bc n).modDue ∧ (t.bc n).modLen = u.modPeriod n ∧
      t.outbox = u.outbox ++ (if (t.bc n).modOn = 0 then (if (u.bc n).modHeld then [Out.modLevel n false (u.bc n).modDue] else []) else [Out.modPulse n (u.bc n).modDue (t.bc n).modOn])) ∧
  (∀ (n : Fin 12) (dt : Nat) (u : State) (s : State), s.beamRuns n → s.beamThen n dt = u → u.fld F.BCH_CFG_OUT_SEL n = 1 ∨ u.fld F.BCH_CFG_OUT_SEL n = 2 → u.cutLatched n = false → (u.bc n).wordAt + 2400 / 2 ^ u.fld F.BCH_CFG_DIG_RATE n ≤ u.fine → u.domOn (44 + n) →
    Answers (exec (.digitalWord n dt) s) fun t =>
      (t.bc n).word = (if u.driving n then u.codeFor n (u.beamC n) else u.fld F.BCH_OUT_CFG_IDLE_CODE n) ∧ (t.bc n).wordAt = u.fine ∧
      t.outbox = u.outbox ++ [Out.dpwr n.val ([true] ++ bitsLsb 16 (t.bc n).word ++ bitsMsb 4 (crc4 (t.bc n).word) ++ [false])]) ∧
  (∀ (n : Fin 12) (dt : Nat) (u : State) (s : State), s.beamRuns n → s.beamThen n dt = u → (u.bc n).meas = none → (u.bc n).reload = false → (u.sc n).inPause = false → (if u.goesDown n then u.pathPos n ≤ (u.bc n).hwm else (u.bc n).hwm ≤ u.pathPos n) →
    Answers (exec (.trackingUpdate n dt) s) fun t =>
      (t.bc n).pHat = u.pathPos n ∧ (t.bc n).tHat = u.fine ∧ (t.bc n).hwm = u.pathPos n ∧ t.flag F.BCH_STATUS_HELD n = false) ∧
  (∀ (n : Fin 12) (dt : Nat) (u : State) (x : Int) (at0 : Nat) (s : State), s.beamRuns n → s.beamThen n dt = u → (u.bc n).meas = some (x, at0) → (u.sc n).inPause →
    Answers (exec (.trackingUpdate n dt) s) fun t =>
      (t.bc n).pHat = u.pathPos n + u.fld F.BCH_TRACK_K1 n * (x - (u.bc n).pathAt at0) / 65536 ∧
      (t.bc n).vHat = (u.bc n).vHat + u.fld F.BCH_TRACK_K2 n * (x - (u.bc n).pathAt at0) / 1250 ∧ (t.bc n).meas = none ∧ (t.bc n).hwm = (u.bc n).hwm) ∧
  (∀ (n : Fin 12) (dt : Nat) (u : State) (s : State), s.beamRuns n → s.beamThen n dt = u → u.paces n → (if u.goesDown n then u.pathPos n ≤ u.pulsePos n else u.pulsePos n ≤ u.pathPos n) →
    Answers (exec (.pacedPulse n dt) s) fun t =>
      (t.bc n).lastPos = u.pulsePos n ∧
      (u.pulseEdge n < (u.bc n).pulseEnd + 10 ∧ (u.bc n).pulseEnd ≠ 0 → Counted .BCH_CNT_PULSE_SKIP n u t ∧ t.outbox = u.outbox) ∧
      ((u.bc n).pulseEnd + 10 ≤ u.pulseEdge n ∨ (u.bc n).pulseEnd = 0 → Counted .BCH_CNT_PULSES n u t ∧ (t.bc n).pulse ∧
        (t.bc n).pulseEnd = u.pulseEdge n + atLeast1 (u.fld F.BCH_PULSE_PULSE_W n) ∧
        t.outbox = u.outbox ++ [Out.modPulse n.val (u.pulseEdge n) (atLeast1 (u.fld F.BCH_PULSE_PULSE_W n))])) ∧
  (∀ (n : Fin 12) (dt : Nat) (u : State) (s : State), s.beamRuns n → (s.bc n).pulse → (s.passTo dt (s.bc n).pulseEnd).refresh n = u → (u.bc n).pulseEnd ≤ u.fine →
    Answers (exec (.pulseEnd n dt) s) fun t =>
      (t.bc n).pulse = false ∧ t.regs = u.regs) ∧
  (∀ (n : Fin 12) (adc : BitVec 16) (cm k prev input : Nat) (s : State), s.beamRuns n → (s.sc n).wait = .meter cm k prev input →
    Answers (exec (.meterReading n adc) s) fun t =>
      Counted .BCH_CNT_METER n s t ∧ t.rd .BCH_METER_LAST n = BitVec.ofNat 32 (s.pMeas n adc.toNat + k * 2 ^ 16 + input * 2 ^ 19) ∧
      t.fine = max s.fine (s.sc n).waitAt)

/-- Turn-on and turn-off, the arbiter, BEAM_PERMIT, the laser inputs and the strobe watchdog of the beam channels (R285,
R286, R288, R289, R290, R291, R292, R293, R298, R299). -/
def Obligations.BeamInterlocks : Prop :=
  (∀ (n : Fin 12) (dt : Nat) (u : State) (s : State), s.beamRuns n → s.beamThen n dt = u → (u.bc n).want = false → (u.sc n).inPause = false → u.rotWaits n = false → u.emitWanted n u.fine → u.scnState n = scnRunning → u.flag F.BCH_CFG_READY_REQ n = false → u.flag F.BCH_CFG_PACE_SRC n →
    Answers (exec (.emitOn n dt) s) fun t =>
      (t.bc n).want ∧ t.flag F.BCH_STATUS_EMIT n = u.gateOpen n ∧ t.flag F.BCH_STATUS_GATE_OPEN n = u.gateOpen n) ∧
  (∀ (n : Fin 12) (dt : Nat) (u : State) (s : State), s.beamRuns n → s.beamThen n dt = u → (u.bc n).want = false → (u.sc n).inPause = false → u.rotWaits n = false → u.emitWanted n u.fine → u.scnState n = scnRunning → u.flag F.BCH_CFG_READY_REQ n → u.flag F.BCH_STATUS_READY n = false →
    Answers (exec (.emitOn n dt) s) fun t =>
      natBit (t.rd .BCH_FAULT n).toNat 6) ∧
  (∀ (n : Fin 12) (dt : Nat) (u : State) (s : State), s.beamRuns n → s.beamThen n dt = u → (u.bc n).want → (u.sc n).inPause = false → (u.sc n).wait = .none → u.emitWanted n u.fine = false →
    Answers (exec (.emitOff n dt) s) fun t =>
      (t.bc n).want = false ∧ t.flag F.BCH_STATUS_EMIT n = false) ∧
  (∀ (g : Fin 4) (dt : Nat) (u : State) (s : State), s.passTo dt (firstDecision (tblGet [] s.beams.reqs g)) = u →
    Answers (exec (.rotationDecide g dt) s) fun t =>
      tblGet [] t.beams.reqs g = (tblGet [] u.beams.reqs g).filter (fun (r : RotReq) => !decide (r.decideAt ≤ u.fine)) ∧ t.fine = u.fine) ∧
  (∀ (g : Fin 4) (dt : Nat) (r : RotReq) (s : State), tblGet [] s.beams.reqs g = [r] →
    Answers (exec (.rotationDecide g dt) s) fun t =>
      tblGet 0 t.beams.next g = max r.tp (tblGet 0 s.beams.next g) + atLeast1 (s.fld F.BCH_ROT_CFG_T_ROT g) * 125 ∧ r.decideAt ≤ t.fine) ∧
  (∀ (a b : Bool) (s : State), s.variant.noBeams = false →
    Answers (exec (.beamPermitChange a b) s) fun t =>
      t.flag F.BCH_PERMIT_A = a ∧ t.flag F.BCH_PERMIT_B = b) ∧
  (∀ (a b : Bool) (s : State), s.variant.noBeams = false → (a && !b && !s.flag F.BCH_PERMIT_PERMIT_FAULT) = s.flag F.BCH_PERMIT_PERMIT →
    Answers (exec (.beamPermitChange a b) s) fun t =>
      t.flag F.BCH_PERMIT_PERMIT = (a && !b && !s.flag F.BCH_PERMIT_PERMIT_FAULT) ∧ t.outbox = s.outbox) ∧
  (∀ (dt : Nat) (at0 : Nat) (s : State), s.beams.disagree = some at0 → at0 + atLeast1 (s.fld F.BCH_PERMIT_CFG_DISC_TIME) * 1250000 < s.fine + dt → s.flag F.BCH_PERMIT_PERMIT_FAULT = false →
    Answers (exec (.permitDisagree dt) s) fun t =>
      t.flag F.BCH_PERMIT_PERMIT_FAULT) ∧
  (∀ (who : Requester) (s : State), s.mayWrite who .BCH_PERMIT 0 →
    Answers (exec (.permitFaultClear who) s) fun t =>
      (s.flag F.BCH_PERMIT_A = false ∧ s.flag F.BCH_PERMIT_B → t.flag F.BCH_PERMIT_PERMIT_FAULT = false) ∧
      (s.flag F.BCH_PERMIT_A ∨ s.flag F.BCH_PERMIT_B = false → t = s)) ∧
  (∀ (n : Fin 12) (pin : Bool) (u : State) (s : State), s.beamRuns n → s.beamThen n 0 = u →
    Answers (exec (.brefl n pin) s) fun t =>
      (pinAsserted pin (u.flag F.BCH_CFG_BREFL_POL n) → natBit (t.rd .BCH_FAULT n).toNat 5) ∧
      (pinAsserted pin (u.flag F.BCH_CFG_BREFL_POL n) = false → t = u.setFld F.BCH_STATUS_BREFL 0 n)) ∧
  (∀ (n : Fin 12) (pin : Bool) (u : State) (s : State), s.beamRuns n → s.beamThen n 0 = u →
    Answers (exec (.alarm n pin) s) fun t =>
      (pinAsserted pin (u.flag F.BCH_CFG_ALARM_POL n) → natBit (t.rd .BCH_FAULT n).toNat 4) ∧
      (pinAsserted pin (u.flag F.BCH_CFG_ALARM_POL n) = false → t = u.setFld F.BCH_STATUS_ALARM 0 n)) ∧
  (∀ (n : Fin 12) (pin : Bool) (u : State) (s : State), s.beamRuns n → s.beamThen n 0 = u →
    Answers (exec (.readyLost n pin) s) fun t =>
      (pinAsserted pin (u.flag F.BCH_CFG_READY_POL n) = false ∧ u.flag F.BCH_CFG_READY_REQ n ∧ u.flag F.BCH_STATUS_EMIT n → natBit (t.rd .BCH_FAULT n).toNat 6) ∧
      (pinAsserted pin (u.flag F.BCH_CFG_READY_POL n) → t = u.setFld F.BCH_STATUS_READY 1 n)) ∧
  (∀ (n : Fin 12) (dt : Nat) (u : State) (s : State), s.beamRuns n → s.beamThen n dt = u → u.flag F.BCH_STATUS_EMIT n → (u.bc n).onSince + atLeast1 (u.fld F.BCH_WD_ON_MAX_ON n) * 1250000 < u.fine →
    Answers (exec (.wdOnTime n dt) s) fun t =>
      natBit (t.rd .BCH_FAULT n).toNat 0) ∧
  (∀ (n : Fin 12) (dt : Nat) (u : State) (s : State), s.beamRuns n → s.beamThen n dt = u → u.dwells n false →
    Answers (exec (.wdDwell n dt) s) fun t =>
      natBit (t.rd .BCH_FAULT n).toNat 1) ∧
  (∀ (n : Fin 12) (dt : Nat) (u : State) (s : State), s.beamRuns n → s.beamThen n dt = u → u.flag F.BCH_STATUS_EMIT n && u.meterOn n → (u.bc n).meterAt + atLeast1 (u.fld F.BCH_WD_ON_METER_MAX_ON n) * 1250000 < u.fine →
    Answers (exec (.wdMeter n dt) s) fun t =>
      natBit (t.rd .BCH_FAULT n).toNat 2) ∧
  (∀ (n : Fin 12) (dt : Nat) (u : State) (s : State), s.beamRuns n → s.beamThen n dt = u → (u.bc n).powAt + 12500 < u.fine ∨ (u.bc n).posAt + 12500 < u.fine → u.dwells n true →
    Answers (exec (.wdNoCopy n dt) s) fun t =>
      natBit (t.rd .BCH_FAULT n).toNat 3) ∧
  (∀ (who : Requester) (n : Fin 12) (bits : BitVec 7) (s : State), s.mayWrite who .BCH_FAULT n → (s.bc n).want = false →
    Answers (exec (.cutClear who n bits) s) fun t =>
      ∀ k < 32, (t.rd .BCH_FAULT n).getLsbD k = ((s.rd .BCH_FAULT n).getLsbD k && !(bits.getLsbD k && !s.causePersists n k)))

/-- Mode requests and their transitions, power domains turned on and off, and the inrush budget (R514, R515, R518, R519,
R520, R521, R522). -/
def Obligations.ModesAndDomains : Prop :=
  (∀ (who : Requester) (s : State), s.mayAskMode who modeAcquire → s.mode = modeIdle →
    Answers (exec (.requestAcquire who none) s) fun t =>
      s.towards t modeAcquire ∧ t.fst.selfRefresh = false) ∧
  (∀ (who : Requester) (s : State), s.mayAskMode who modeService → s.mode = modeIdle → s.reef = false →
    Answers (exec (.requestService who none) s) fun t =>
      s.towards t modeService ∧ t.fst.selfRefresh = false) ∧
  (∀ (who : Requester) (s : State), s.mayAskMode who modeIdle → s.mode = modeAcquire ∨ s.mode = modeService → s.reef = false →
    Answers (exec (.requestIdle who none) s) fun t =>
      s.towards t modeIdle) ∧
  (∀ (who : Requester) (s : State), s.mayAskMode who modeAcquire → s.mode = modeBuild →
    Answers (exec (.requestAcquire who none) s) fun t =>
      t.mode = modeAcquire ∧ t.beams.reqs = [] ∧ t.flag F.PWR_MODE_STATUS_IN_TRANSITION = false) ∧
  (∀ (who : Requester) (s : State), s.mayAskMode who modeBuild → s.mode = modeAcquire ∨ s.mode = modeService → s.variant.noBeams = false → s.flag F.BOOT_STATUS_KEY_UNSET = false → s.reef = false →
    Answers (exec (.requestBuild who none) s) fun t =>
      if s.flag F.BCH_PERMIT_PERMIT then t.mode = modeBuild else s.modeRefused t 5) ∧
  (∀ (who : Requester) (mode : BitVec 3) (s : State), mode.toNat < 2 ∨ 5 < mode.toNat → s.ready → 2 ≤ s.levelOf who →
    Answers (exec (.requestInvalidMode who mode) s) fun t =>
      s.modeRefused t 2) ∧
  (∀ (dt : Nat) (still : Bool) (s : State), s.flag F.PWR_MODE_STATUS_IN_TRANSITION → s.transReady → s.pwr.warned = false →
    Answers (exec (.modeTransitionDone dt still) s) fun t =>
      t.mode = s.fld F.PWR_MODE_STATUS_TARGET ∧ t.flag F.PWR_MODE_STATUS_IN_TRANSITION = false ∧
      (s.fld F.PWR_MODE_STATUS_TARGET = modeIdle → t.fst.selfRefresh)) ∧
  (∀ (who : Requester) (d : BitVec 7) (s : State), s.mayWrite who .PWR_DOM_CMD 0 → domAbsent s.variant d.toNat = false → 32 ≤ d.toNat ∨ (s.mode ≠ modeIdle ∧ s.mode ≠ modeService) ∨ s.domPolicy d.toNat = 0 →
    Answers (exec (.domainOn who d) s) fun t =>
      t = s.setFld F.PWR_MODE_STATUS_CMD_REFUSED 1) ∧
  (∀ (who : Requester) (d : BitVec 7) (s : State), s.mayWrite who .PWR_DOM_CMD 0 → d.toNat < 32 → s.mode = modeIdle ∨ s.mode = modeService → s.canWake 5 d.toNat → s.domPolicy d.toNat ≠ 0 → domAbsent s.variant d.toNat = false → s.domOn d.toNat = false → tblGet none s.pwr.started d.toNat = none →
    Answers (exec (.domainOn who d) s) fun t =>
      d.toNat ∈ t.pwr.wakes.map (·.1) ∧ t.domOn d.toNat = false ∧ t.flag F.PWR_MODE_STATUS_CMD_REFUSED = s.flag F.PWR_MODE_STATUS_CMD_REFUSED) ∧
  (∀ (who : Requester) (d : BitVec 7) (s : State), s.mayWrite who .PWR_DOM_CMD 0 → d.toNat < 16 → domAbsent s.variant d.toNat = false → s.mode = modeIdle ∨ s.mode = modeService →
    Answers (exec (.domainOff who d) s) fun t =>
      t.domOn d.toNat = false ∧ (t.ms d.toNat).prog = (s.ms d.toNat).prog ∧ (t.ms d.toNat).consts = (s.ms d.toNat).consts ∧
      (t.ms d.toNat).frames = [] ∧ (t.ms d.toNat).ready = [] ∧ (t.ms d.toNat).runs = [] ∧
      ∀ (r : Reg) (i j : Nat), r ∉ [Reg.PWR_DOM_STATUS, .PWR_DOM_PENDING, .MST_SPAR_STATE, .MST_SPARE_USE, .MST_STATUS] → t.rd r i j = s.rd r i j) ∧
  (∀ (dt d : Nat) (s : State), s.wakeHead = some d → (domNeeds d).all s.domOn → domCost d * 20000 ≤ (s.advance dt).refill.pwr.budget →
    Answers (exec (.wakeStart dt) s) fun t =>
      t.pwr.budget = (s.advance dt).refill.pwr.budget - domCost d * 20000 ∧ tblGet none t.pwr.started d = some t.fine ∧ d ∉ t.pwr.wakes.map (·.1) ∧
      t.fine = s.fine + dt) ∧
  (∀ (d : Fin 80) (dt t0 : Nat) (s : State), tblGet none s.pwr.started d = some t0 →
    Answers (exec (.powerGood d dt) s) fun t =>
      t.domOn d ∧ tblGet none t.pwr.started d = none ∧ t.fine = max s.fine (min (s.fine + dt) (t0 + 25000)) ∧ natBit (t.rd .PWR_DOM_PENDING 0 (d / 32)).toNat (d % 32) = false)

/-- Supply warnings and the reef state, helm miscompares, watchdog and replay, and every cause of a reset (R524, R525,
R527, R528, R530, R531, R536, R537, R538, R541, R542, R543). -/
def Obligations.ReefHelmAndResets : Prop :=
  (∀ (dt : Nat) (mv : BitVec 16) (s : State), s.mode = modeAcquire ∨ s.mode = modeBuild → mv.toNat < 710 → s.reef = false → s.flag F.PWR_MODE_STATUS_IN_TRANSITION = false →
    Answers (exec (.supplyWarning dt mv) s) fun t =>
      t.fst.selfRefresh ∧ t.pwr.reefAt = s.fine + dt ∧ t.pwr.warnAt = s.fine + dt ∧ t.pwr.recovered = false) ∧
  (∀ (dt : Nat) (mv : BitVec 16) (s : State), s.mode = modeLoad ∨ s.mode = modeIdle ∨ s.mode = modeService → mv.toNat < 710 → s.flag F.PWR_MODE_STATUS_IN_TRANSITION = false →
    Answers (exec (.supplyWarning dt mv) s) fun t =>
      t.flag F.PWR_MODE_STATUS_SUPPLY_WARN ∧ Counted .PWR_CNT_WARN 0 s t ∧ t.fld F.PWR_SUPPLY_CORE_MV = mv.toNat ∧ t.reef = s.reef) ∧
  (∀ (dt : Nat) (mv : BitVec 16) (s : State), s.reef → s.pwr.recovered = false → 725 ≤ mv.toNat → max (s.fine + dt) (s.pwr.warnAt + 62500) ≤ s.pwr.reefAt + 25000000 → s.fst.reefHeld = [] → s.fst.heldMarks = [] →
    Answers (exec (.reefRecovery dt mv) s) fun t =>
      t.pwr.recovered ∧ t.fst.selfRefresh = false ∧ t.fine = max (s.fine + dt) (s.pwr.warnAt + 62500)) ∧
  (∀ (dt : Nat) (s : State), s.reef → s.pwr.recovered →
    Answers (exec (.reefBufferEmpty dt) s) fun t =>
      t.reef = false ∧ t.rd .PWR_REEF_LAST = BitVec.ofNat 32 ((s.fine + dt - s.pwr.reefAt) / 1250)) ∧
  (∀ (dt : Nat) (s : State), s.reef → s.pwr.recovered = false →
    Answers (exec (.reefTimeout dt) s) fun t =>
      s.wasReset t modeLoad 3) ∧
  (∀ (rail : Fin 5) (s : State), s.mode ≠ modeOff →
    Answers (exec (.supplyReset rail) s) fun t =>
      s.wasReset t modeLoad 2) ∧
  (∀ (rail : Option (Fin 5)) (s : State),
    Answers (exec (.resetNAssert rail) s) fun t =>
      s.wasReset t modeOff (if rail = none then 1 else if rail = some 4 then 0 else 2)) ∧
  (∀ (who : Requester) (s : State), s.mayWrite who .PWR_CMD 0 →
    Answers (exec (.softReset who) s) fun t =>
      s.wasReset t modeLoad 6) ∧
  (∀ (s : State), s.flag F.HLM_STATUS_DUAL →
    Answers (exec (.dualMiscompare) s) fun t =>
      s.wasReset t modeLoad 4) ∧
  (∀ (dt : Nat) (s : State), s.ready →
    Answers (exec (.helmWatchdog dt) s) fun t =>
      s.wasReset t modeLoad 5) ∧
  (∀ (core : Fin 3) (dt : Nat) (s : State), s.ready → s.flag F.HLM_STATUS_DUAL = false → s.core core = coreActive →
    Answers (exec (.helmMiscompare core dt) s) fun t =>
      t.core core = (if 2 ≤ ((tblGet [] s.helm.outvoted core).filter (fun x => decide (s.fine + dt ≤ x + 12500000000))).length then coreRetired
        else coreResync) ∧ t.flag F.HLM_STATUS_DUAL ∧ Counted .HLM_CNT_MISCOMPARE 0 s t) ∧
  (∀ (core : Fin 3) (dt : Nat) (s : State), s.core core = coreResync →
    Answers (exec (.resyncDone core dt) s) fun t =>
      t.core core = coreActive ∧ t.flag F.HLM_STATUS_DUAL = false ∧
      t.fine = max s.fine (min (s.fine + dt) (s.helm.resyncAt + 62500)) ∧ t.rd .HLM_LAST_RESYNC = BitVec.ofNat 32 ((t.fine - s.helm.resyncAt) * 4 / 5)) ∧
  (∀ (who : Requester) (v : BitVec 32) (s : State), s.ready →
    Answers (exec (.hlmWdt who v) s) fun t =>
      if who = .helm then t.fld F.HLM_WDT_WDT_MS = v.toNat % 65536 ∧ t.helm.wdtAt = s.fine else t = s) ∧
  (∀ (checkpoint : Bool) (s : State), s.ready →
    Answers (exec (.helmMemoryUe checkpoint) s) fun t =>
      if checkpoint then t.helm.uncovered ∧ t.regs = s.regs else if s.helm.uncovered then s.wasReset t modeLoad 4
      else t.flag F.HLM_STATUS_REPLAY ∧ Counted .HLM_CNT_REPLAY 0 s t) ∧
  (∀ (dt : Nat) (s : State),
    Answers (exec (.replayEnd dt) s) fun t =>
      t.flag F.HLM_STATUS_REPLAY = false ∧ t.fine = s.fine + dt)

/-- The start and end of LOAD, flash operations with their results, and the live switch (R486, R489, R490, R491, R492,
R505, R506, R507, R510, R511). -/
def Obligations.LoadAndFlash : Prop :=
  (∀ (dt : Nat) (d0 d1 : FlashPort) (dimms : List Dimm) (s : State), s.ready = false → s.boot.loading = false →
    Answers (exec (.loadStart dt d0 d1 dimms) s) fun t =>
      t.mode = modeLoad ∧ t.boot.loading ∧ t.boot.dimms = dimms ∧ (t.boot.cand.isSome ∨ t.flag F.BOOT_STATUS_RESCUE) ∧
      t.fld F.BOOT_FLASH_INFO_LOG2 0 = d0.density ∧ t.fld F.BOOT_FLASH_INFO_LOG2 1 = d1.density) ∧
  (∀ (dt : Nat) (c : Switch) (failed : List (Fin 16 × Fin 66)) (s : State), s.boot.cand = some c → c.dev < 2 →
    Answers (exec (.loadEnd dt failed) s) fun t =>
      t.ready ∧ t.mode = modeIdle ∧ t.fld F.BOOT_STATUS_ACTIVE_DEV = c.dev ∧ t.rd .BOOT_SEQ_ACTIVE = BitVec.ofNat 32 c.seq ∧
      t.boot.cand = none ∧ t.boot.layout = c.layout) ∧
  (∀ (who : Requester) (dev : Bool) (s : State), s.mayFlash who → s.bootLen ≠ 0 → s.canProgram (b2n dev) (roundUp (s.bootAddr + s.bootLen) 65536) →
    Answers (exec (.erase who dev) s) fun t =>
      t.opStarted 1 (b2n dev) (s.bootAddr / 65536 * 65536) (roundUp (s.bootAddr + s.bootLen) 65536 - s.bootAddr / 65536 * 65536)) ∧
  (∀ (who : Requester) (dev : Bool) (s : State), s.mayFlash who → s.bootAddr % 4096 = 0 → s.canProgram (b2n dev) (s.bootAddr + 4096) →
    Answers (exec (.programBuf who dev) s) fun t =>
      t.opStarted 2 (b2n dev) s.bootAddr 4096) ∧
  (∀ (who : Requester) (dev : Bool) (s : State), s.mayFlash who → s.ready → s.bootLen ≠ 0 → s.canProgram (b2n dev) (roundUp (s.bootAddr + s.bootLen) 65536) →
    Answers (exec (.copyStore who dev) s) fun t =>
      t.opStarted 3 (b2n dev) s.bootAddr s.bootLen) ∧
  (∀ (who : Requester) (dev : Bool) (s : State), s.mayFlash who → s.flashUsed (b2n dev) →
    Answers (exec (.verify who dev) s) fun t =>
      t.opStarted 4 (b2n dev) 0 0) ∧
  (∀ (who : Requester) (dev : Bool) (s : State), s.mayFlash who → s.flashUsed (b2n dev) →
    Answers (exec (.retire who dev) s) fun t =>
      t.opStarted 8 (b2n dev) 0 4) ∧
  (∀ (dt : Nat) (x : FlashOp) (errs : List (Nat × BurstErr)) (s : State), s.boot.op = some x → x.op = 1 →
    Answers (exec (.flashOpDone dt errs) s) fun t =>
      t.opEnded 0 x.len ∧ ∀ a : Nat, t.flashByte x.dev a = (if x.addr ≤ a ∧ a < x.addr + x.len then 0xFF else s.flashByte x.dev a)) ∧
  (∀ (dt : Nat) (x : FlashOp) (errs : List (Nat × BurstErr)) (s : State), s.boot.op = some x → x.op = 8 →
    Answers (exec (.flashOpDone dt errs) s) fun t =>
      t.opEnded 0 x.len ∧ t.flashBytes x.dev 0x18 4 = [0, 0, 0, 0]) ∧
  (∀ (who : Requester) (dev : Bool) (s : State), s.mayFlash who → s.ready →
    Answers (exec (.burnSvn who dev) s) fun t =>
      t.fuse.minSvn = max s.fuse.minSvn (hdrSvn (s.imgHead (s.fld F.BOOT_STATUS_ACTIVE_DEV))) ∧ t.rd .BOOT_SVN = BitVec.ofNat 32 t.fuse.minSvn ∧
      t.fld F.BOOT_STATUS_OP_RESULT = 0 ∧ t.flag F.BOOT_STATUS_OP_DONE) ∧
  (∀ (who : Requester) (op : BitVec 4) (s : State), s.mayWrite who .BOOT_CMD 0 → op = 0 ∨ 8 < op.toNat →
    Answers (exec (.bootReservedOp who op) s) fun t =>
      t = s.setFld F.BOOT_STATUS_OP_RESULT 14) ∧
  (∀ (who : Requester) (dev : Bool) (x : Switch) (s : State), s.mayFlash who → s.ready → s.fld F.BOOT_STATUS_ACTIVE_DEV ≠ b2n dev → s.isCandidate (b2n dev) → (s.rd .BOOT_SEQ_ACTIVE).toNat < hdrSeq (s.imgHead (b2n dev)) → s.switchOf (b2n dev) = some x → x.layout = s.boot.layout →
    Answers (exec (.bootSwitch who dev) s) fun t =>
      t.boot.switch = some x ∧ t.flag F.BOOT_STATUS_SWITCH_PENDING ∧ t.flag F.BOOT_STATUS_STAGED = false ∧ t.staged = [] ∧
      t.fld F.BOOT_STATUS_OP_RESULT = 0) ∧
  (∀ (who : Requester) (dev : Bool) (s : State), s.mayFlash who →
    Answers (exec (.cancelSwitch who dev) s) fun t =>
      t.boot.switch = none ∧ t.flag F.BOOT_STATUS_SWITCH_PENDING = false ∧ t.flag F.BOOT_STATUS_STAGED = false ∧ t.fld F.BOOT_STATUS_OP_RESULT = 0) ∧
  (∀ (dt : Nat) (x : Switch) (s : State), s.boot.switch = some x → s.flag F.BOOT_STATUS_STAGED = false → s.flashErr x.dev ∨ (s.secTable x.dev).all (fun e => e.kind == secLayout) →
    Answers (exec (.stagingDone dt) s) fun t =>
      if s.flashErr x.dev then t.boot.switch = none ∧ t.fld F.BOOT_STATUS_OP_RESULT = 11
      else t = ((s.advance dt).flashIdle x.dev).setFld F.BOOT_STATUS_STAGED 1)

/-- Sessions over the mailbox and over datagrams: challenge, proof, close, lapse, lockout and idle timeout; address
resolution (R496, R497, R498, R499, R500, R501, R512). -/
def Obligations.Sessions : Prop :=
  (∀ (v : BitVec 32) (s : State), s.flrActive = false → mbxGo v → mbxLevel v ≠ 0 → ((s.memBytesAt mbxData 21).getD 0 0).toNat = mbxLevel v → s.isLocked s.ses.mbxLock = false → mbxLevel v ≠ 3 →
    Answers (exec (.mbxOpen v) s) fun t =>
      t.mbxAnswered 0 1 (mbxLevel v) ∧ t.levelOf .mailbox = 0 ∧
      ∃ c, t.ses.mbxChal = some c ∧ c.level = mbxLevel v ∧ c.nc = takeAt (s.memBytesAt mbxData 21) 1 16 ∧ c.since = s.fine) ∧
  (∀ (v : BitVec 32) (c : Chal) (s : State), s.flrActive = false → mbxGo v → s.ses.mbxChal = some c → s.chalLive c → c.level = mbxLevel v → c.level ≠ 3 → s.memBytesAt mbxData 32 = s.proofOf c →
    Answers (exec (.mbxProof v) s) fun t =>
      t.mbxAnswered 0 2 c.level ∧ t.levelOf .mailbox = c.level ∧ t.ses.mbxChal = none ∧ t.ses.mbxLock = ({} : Lockout)) ∧
  (∀ (v : BitVec 32) (c : Chal) (s : State), s.flrActive = false → mbxGo v → s.ses.mbxChal = some c → s.chalLive c → c.level = mbxLevel v → s.memBytesAt mbxData 32 ≠ s.proofOf c →
    Answers (exec (.mbxProof v) s) fun t =>
      t.mbxAnswered 1 0 0 ∧ t.levelOf .mailbox = s.levelOf .mailbox ∧ t.ses.mbxChal = none ∧ Counted .SES_CNT_AUTH_FAIL 0 s t) ∧
  (∀ (v : BitVec 32) (s : State), s.flrActive = false → mbxGo v →
    Answers (exec (.mbxClose v) s) fun t =>
      t.levelOf .mailbox = 0 ∧ t.ses.mbxChal = none ∧ t.fld F.BOOT_MBX_STATUS_STATE = 0 ∧ t.fld F.BOOT_MBX_STATUS_LEVEL = 0 ∧ t.ses.slots = s.ses.slots) ∧
  (∀ (slot : Option (Fin 4)) (dt : Nat) (c : Chal) (s : State), (match slot with | none => s.ses.mbxChal | some k => (s.slot k).chal) = some c →
    Answers (exec (.challengeLapse slot dt) s) fun t =>
      t.fine = max (s.fine + dt) (c.since + finePerSec) ∧ (match slot with
        | none => t.ses.mbxChal = none ∧ t.fld F.BOOT_MBX_STATUS_STATE = 0
        | some k => (t.slot k).chal = none)) ∧
  (∀ (mailbox : Bool) (dt due : Nat) (s : State), (if mailbox then s.ses.mbxLock else s.ses.dgLock).due = some due →
    Answers (exec (.lockoutEnd mailbox dt) s) fun t =>
      t.fine = max (s.fine + dt) due ∧ t.isLocked (if mailbox then t.ses.mbxLock else t.ses.dgLock) = false) ∧
  (∀ (p : Fin 2) (dt : Nat) (data : List Byte) (g : Dgram) (k : Nat) (s : State), s.dgHears p dt 1 data g → g.body.length = 21 → g.level = 1 ∨ g.level = 2 → (g.body.getD 0 0).toNat = g.level → (s.advance dt).isLocked s.ses.dgLock = false → (List.range 4).find? (s.advance dt).sesFree = some k →
    Answers (exec (.dgramOpen p dt data) s) fun t =>
      ∃ c d, (t.slot k).chal = some c ∧ c.level = g.level ∧ c.nc = takeAt g.body 1 16 ∧ c.since = s.fine + dt ∧ Emits [.datagram p d] (s.advance dt) t ∧
      t.regs = s.regs) ∧
  (∀ (p : Fin 2) (dt : Nat) (data : List Byte) (g : Dgram) (k : Nat) (c : Chal) (s : State), s.dgHears p dt 3 data g → (List.range 4).find? (fun k => match (s.slot k).chal.filter (s.advance dt).chalLive with | some c => c.sid == g.sid | none => false) = some k → (s.slot k).chal = some c → c.level = 1 ∨ c.level = 2 → g.body.length = 32 → g.body = s.proofOf c →
    Answers (exec (.dgramProof p dt data) s) fun t =>
      (t.slot k).level = c.level ∧ (t.slot k).sid = c.sid ∧ (t.slot k).key = s.sesKeyOf c ∧ getBits (t.rd .SES_STATUS) (2 * k) 2 = c.level ∧
      (t.slot k).seen = s.fine + dt) ∧
  (∀ (p : Fin 2) (dt : Nat) (data : List Byte) (k : Nat) (g : Dgram) (s : State), s.dgTakes p dt 0x20 data k g →
    Answers (exec (.dgramClose p dt data) s) fun t =>
      t.slot k = ({} : Slot) ∧ getBits (t.rd .SES_STATUS) (2 * k) 2 = 0) ∧
  (∀ (p : Fin 2) (dt : Nat) (data : List Byte) (k : Nat) (g : Dgram) (s : State), s.dgTakes p dt 0x21 data k g →
    Answers (exec (.keepalive p dt data) s) fun t =>
      (t.slot k).seen = s.fine + dt ∧ (t.slot k).seq = g.seq ∧ (t.slot k).level = (s.slot k).level ∧ t.regs = s.regs ∧ t.outbox = s.outbox) ∧
  (∀ (slot : Fin 4) (dt : Nat) (s : State), (s.slot slot).level ≠ 0 →
    Answers (exec (.sessionIdleTimeout slot dt) s) fun t =>
      t.slot slot = ({} : Slot) ∧ getBits (t.rd .SES_STATUS) (2 * slot) 2 = 0 ∧
      (s.slot slot).seen + (if s.rd .SES_ETH_TIMEOUT = 0 then 1 else (s.rd .SES_ETH_TIMEOUT).toNat) * finePerSec ≤ t.fine) ∧
  (∀ (p : Fin 2) (addr : BitVec 32) (s : State), s.netUp p →
    Answers (exec (.arpRequest p addr) s) fun t =>
      if s.rd .SES_ETH_IP4 ≠ 0 ∧ s.rd .SES_ETH_IP4 = addr then t = s.emit (.arp p addr s.fuse.mac) else t = s.bump .TIM_PORT_CNT_DISCARD p) ∧
  (∀ (p : Fin 2) (addr : BitVec 128) (s : State), s.netUp p →
    Answers (exec (.neighbourSolicitation p addr) s) fun t =>
      if addr = linkLocal s.fuse.eui then t = s.emit (.neighbour p addr s.fuse.mac) else t = s.bump .TIM_PORT_CNT_DISCARD p)

/-- Publishing by software, groups, subscriptions and producer bindings, and every word of a halyard sequence (R376, R380,
R382, R383, R387, R390, R394, R395, R396, R397). -/
def Obligations.Halyards : Prop :=
  (∀ (who : Requester) (v : BitVec 32) (s : State), s.mayWrite who .HAL_PUBLISH 0 → getBits v 31 1 = 1 → who = .helm ∨ s.ownsHalyard who (getBits v 0 8) →
    Answers (exec (.halPublish who v) s) fun t =>
      s.queued t (getBits v 0 8) (BitVec.ofNat 8 (getBits v 8 8)) (getBits v 16 4 + 1) 0x400) ∧
  (∀ (who : Requester) (v : BitVec 32) (met : BitVec 16) (s : State), s.mayWrite who .HAL_GROUP_CMD 0 →
    Answers (exec (.halGroupCmd who v met) s) fun t =>
      ∀ k < 16, (t.rd .HAL_GROUP_STATE).getLsbD k = (((s.rd .HAL_GROUP_STATE).getLsbD k || (v.getLsbD k && !met.getLsbD k)) && !v.getLsbD (16 + k))) ∧
  (∀ (who : Requester) (k : Fin 512) (v : BitVec 32) (s : State), s.mayWrite who .HAL_SUB 0 → taskListed k → s.halNameRefused who (getBits v 0 8) = false → s.halNameRefused who (getBits v 16 8) = false →
    Answers (exec (.halSubWrite who k v) s) fun t =>
      getBits (t.rdStaged .HAL_SUB k 0) 16 9 = getBits v 16 9 ∧
      getBits (t.rdStaged .HAL_SUB k 0) 0 9 = getBits (if taskUnitPrimary k then s.rdStaged .HAL_SUB k 0 else v) 0 9 ∧ t.regs = s.regs) ∧
  (∀ (who : Requester) (k : Fin 1024) (v : BitVec 32) (s : State), s.mayWrite who .HAL_PROD_BIND 0 → k.val < 0x232 → s.halNameRefused who (getBits v 0 8) = false →
    Answers (exec (.halProdBindWrite who k v) s) fun t =>
      getBits (t.rdStaged .HAL_PROD_BIND k 0) 0 9 = getBits v 0 9 ∧ t.regs = s.regs) ∧
  (∀ (who : Requester) (v : BitVec 32) (s : State), s.mayWrite who .HAL_SEQ_CMD 0 → getBits v 31 1 = 1 → s.seqRuns (getBits v 0 5) = false → (s.fld F.HAL_SEQ_CFG_OWNER (getBits v 0 5) = 0 ∧ who = .helm) ∨ (s.fld F.HAL_SEQ_CFG_OWNER (getBits v 0 5) = 1 ∧ who ≠ .helm) →
    Answers (exec (.halSeqCmd who v) s) fun t =>
      t.seqRuns (getBits v 0 5) ∧ t.hseq (getBits v 0 5) =
        { pc := s.fld F.HAL_SEQ_CFG_ENTRY (getBits v 0 5), pend := (s.hseq (getBits v 0 5)).pend }) ∧
  (∀ (q : Fin 32) (s : State), s.seqIssues q .done →
    Answers (exec (.halSeqEnd q) s) fun t =>
      t.seqRuns q = false ∧ t.rd .HAL_SEQ_ERR = s.rd .HAL_SEQ_ERR ∧ ∀ k < 32, k ≠ q.val → t.seqRuns k = s.seqRuns k) ∧
  (∀ (q : Fin 32) (s : State), s.seqIssues q .reserved →
    Answers (exec (.halSeqReserved q) s) fun t =>
      t.seqRuns q = false ∧ natBit (t.rd .HAL_SEQ_ERR).toNat q ∧ ∀ k < 32, k ≠ q.val → t.seqRuns k = s.seqRuns k) ∧
  (∀ (q : Fin 32) (halyard code : BitVec 8) (s : State), s.seqIssues q (.pub halyard code) →
    Answers (exec (.pub q halyard code) s) fun t =>
      s.queued t halyard.toNat code ((s.hseq q).base + 1) (0x200 + q) ∧ t.hseq q = (s.hseq q).step) ∧
  (∀ (q : Fin 32) (us : BitVec 24) (s : State), s.seqIssues q (.delay us) →
    Answers (exec (.delay q us) s) fun t =>
      s.seqGoes t q { (s.hseq q).step with phase := .delay, due := (s.seqSlot q).fine + (if us = 0 then 1 else us.toNat * 1250) }) ∧
  (∀ (q : Fin 32) (s : State), s.seqRuns q → (s.hseq q).phase = .delay →
    Answers (exec (.delayEnd q) s) fun t =>
      s.seqGoes t q { s.hseq q with phase := .issue } ∧ t.fine = max s.fine (s.hseq q).due) ∧
  (∀ (q : Fin 32) (us : BitVec 24) (s : State), s.seqIssues q (.wait us) →
    Answers (exec (.halSeqWait q us) s) fun t =>
      s.seqGoes t q (match (s.hseq q).pend with
        | some e => { (s.hseq q).step with base := e.hops, pend := none }
        | none => { (s.hseq q).step with phase := .wait, due := if us = 0 then 0 else (s.seqSlot q).fine + us.toNat * 1250 })) ∧
  (∀ (q : Fin 32) (s : State), s.seqRuns q → (s.hseq q).phase = .wait → (s.hseq q).due ≠ 0 →
    Answers (exec (.halSeqWaitTimeout q) s) fun t =>
      t.seqRuns q = false ∧ natBit (t.rd .HAL_SEQ_TIMEOUT).toNat q ∧ t.fine = max s.fine (s.hseq q).due) ∧
  (∀ (q : Fin 32) (mask met : BitVec 16) (s : State), s.seqIssues q (.gen mask) →
    Answers (exec (.gen q mask met) s) fun t =>
      t.hseq q = (s.hseq q).step ∧ ∀ k < 16, (t.rd .HAL_GROUP_STATE).getLsbD k = ((s.rd .HAL_GROUP_STATE).getLsbD k || (mask.getLsbD k && !met.getLsbD k))) ∧
  (∀ (q : Fin 32) (mask : BitVec 16) (s : State), s.seqIssues q (.gdis mask) →
    Answers (exec (.gdis q mask) s) fun t =>
      t.hseq q = (s.hseq q).step ∧ ∀ k < 16, (t.rd .HAL_GROUP_STATE).getLsbD k = ((s.rd .HAL_GROUP_STATE).getLsbD k && !mask.getLsbD k)) ∧
  (∀ (q : Fin 32) (body : BitVec 10) (count : BitVec 16) (s : State), s.seqIssues q (.loop body count) →
    Answers (exec (.halSeqLoop q body count) s) fun t =>
      if (s.hseq q).loop.isSome then t.seqRuns q = false ∧ natBit (t.rd .HAL_SEQ_ERR).toNat q
      else if count = 0 ∨ body = 0 then s.seqGoes t q { s.hseq q with pc := (s.hseq q).pc + 1 + body.toNat }
      else s.seqGoes t q { s.hseq q with pc := (s.hseq q).pc + 1,
                                         loop := some ⟨(s.hseq q).pc + 1, (s.hseq q).pc + 1 + body.toNat, count.toNat⟩ }) ∧
  (∀ (q : Fin 32) (word : BitVec 11) (s : State), s.seqIssues q (.jump word) →
    Answers (exec (.halSeqJump q word) s) fun t =>
      s.seqGoes t q { s.hseq q with pc := word.toNat })

/-- Endpoint resets, configuration and BAR4 accesses, completions and timeouts, bus mastering, function-level reset and
link power (R402, R405, R410, R416, R420, R422, R423, R424, R425, R426, R427). -/
def Obligations.PcieEndpoint : Prop :=
  (∀ (s : State),
    Answers (exec (.perstN) s) fun t =>
      t.pceWasReset ∧ t.pce.perst) ∧
  (∀ (s : State), s.flag F.PCE_STATUS_DL_UP →
    Answers (exec (.hotReset) s) fun t =>
      t.pceWasReset ∧ t.flag F.PCE_STATUS_HOT_RESET_SEEN) ∧
  (∀ (s : State), s.flag F.PCE_STATUS_DL_UP →
    Answers (exec (.dlDown) s) fun t =>
      t.pceWasReset ∧ t.flag F.PCE_STATUS_LINK_DOWN_SEEN ∧ Counted .PCE_CNT_LINK_DOWN 0 s t) ∧
  (∀ (speed : BitVec 4) (width : BitVec 5) (s : State), s.domOn 64 && s.domOn 65 → 1 ≤ speed.toNat ∧ speed.toNat ≤ 5 → width.toNat ∈ [1, 2, 4, 8, 16] →
    Answers (exec (.pcieLinkUp speed width) s) fun t =>
      t.flag F.PCE_STATUS_DL_UP ∧ t.fld F.PCE_STATUS_LINK_SPEED = speed.toNat ∧ t.fld F.PCE_STATUS_LINK_WIDTH = width.toNat ∧
      t.fld F.PCE_STATUS_LINK_PM = 0 ∧ t.pce.perst = false) ∧
  (∀ (write : Bool) (off : BitVec 12) (be : BitVec 4) (v : BitVec 32) (hd : List Word) (s : State), s.pce.spdRead = false ∨ s.flrActive →
    Answers (exec (.configRequest write off be v ⟨.clean, hd⟩) s) fun t =>
      t = s.linkWake.emit (.cfgReply true 0)) ∧
  (∀ (off : BitVec 12) (be : BitVec 4) (v : BitVec 32) (hd : List Word) (s : State), s.pce.spdRead → s.flrActive = false →
    Answers (exec (.configRequest false off be v ⟨.clean, hd⟩) s) fun t =>
      t = s.linkWake.emit (.cfgReply false (s.cfgRead (off.toNat / 4 * 4)))) ∧
  (∀ (off : BitVec 12) (be : BitVec 4) (v : BitVec 32) (hd : List Word) (s : State), s.pce.spdRead → s.flrActive = false → off.toNat / 4 * 4 ∉ [0x04, 0x44, 0x58, 0xB0] →
    Answers (exec (.configRequest true off be v ⟨.clean, hd⟩) s) fun t =>
      t.cfgRd (off.toNat / 4 * 4) =
        (s.cfgRd (off.toNat / 4 * 4) &&& ~~~((s.cfgMasks (off.toNat / 4 * 4)).1 &&& beMask be) |||
          v &&& (s.cfgMasks (off.toNat / 4 * 4)).1 &&& beMask be) &&& ~~~(v &&& (s.cfgMasks (off.toNat / 4 * 4)).2 &&& beMask be)) ∧
  (∀ (off : Nat) (data : List Byte) (hd : List Word) (s : State), s.flrActive = false → off % 4 = 0 → off + 4 ≤ 0x10000 →
    Answers (exec (.bar4Access false off 4 data ⟨.clean, hd⟩) s) fun t =>
      t = s.linkWake.emit (.replyBytes (bytesLE 4 (s.bar4Rd off).toNat) false)) ∧
  (∀ (off : Nat) (data : List Byte) (hd : List Word) (s : State), s.flrActive = false → off % 4 = 0 → off < 0x8000 → data.length = 4 →
    Answers (exec (.bar4Access true off 4 data ⟨.clean, hd⟩) s) fun t =>
      t.bar4Rd off = BitVec.ofNat 32 (natLE data) &&& (if off % 16 = 0 then 0xFFFFFFFC else if off % 16 = 12 then 1 else 0xFFFFFFFF)) ∧
  (∀ (v : Fin 2048) (s : State),
    Answers (exec (.msixUnmask v) s) fun t =>
      (t.msixEntry v).ctrl = 0 ∧ (tblGet false s.pce.pba v = true ∧ s.msixEnable ∧ ¬s.functionMask ∧ s.busMaster ∧ ¬s.d3hot →
        tblGet false t.pce.pba v = false ∧ Emits [.msix v (s.msixEntry v).addrHi (s.msixEntry v).addrLo (s.msixEntry v).data] s t)) ∧
  (∀ (posted : Bool) (header : List (BitVec 32)) (s : State),
    Answers (exec (.unsupportedRequest posted header) s) fun t =>
      natBit (t.cfgRd 0x104).toNat 20 ∧ (s.outbox ++ if posted then [] else [Out.unsupported]) <+: t.outbox) ∧
  (∀ (tag : Fin 1024) (status : CplStatus) (data : List Byte) (hd : List Word) (met : Bool) (s : State), s.pce.reqs.find? (fun r => r.tag = tag.val) = none →
    Answers (exec (.completion tag status data ⟨.clean, hd⟩ met) s) fun t =>
      Counted .PCE_CNT_UNEXP_CPL 0 s t) ∧
  (∀ (tag : Fin 1024) (data : List Byte) (hd : List Word) (q : Req) (s : State), s.pce.reqs.find? (fun r => r.tag = tag.val) = some q → q.kind = .desc ∨ q.kind = .link ∨ q.kind = .data → q.len ≤ q.data.length + data.length →
    Answers (exec (.completion tag .successful data ⟨.clean, hd⟩ false) s) fun t =>
      (t.dm q.ch).rx = takeAt (q.data ++ data) 0 q.len ∧ (t.dm q.ch).got ∧ (t.dm q.ch).rxBad = q.bad) ∧
  (∀ (tag : Fin 1024) (data : List Byte) (hd : List Word) (q : Req) (s : State), s.pce.reqs.find? (fun r => r.tag = tag.val) = some q → q.kind ≠ .gone ∧ q.kind ≠ .dropped → q.data.length + data.length < q.len →
    Answers (exec (.completion tag .successful data ⟨.clean, hd⟩ false) s) fun t =>
      t.pce.reqs.find? (fun r => r.tag = tag.val) = some { q with data := q.data ++ data } ∧ t.dma = s.dma) ∧
  (∀ (tag : Fin 1024) (dt : Nat) (q : Req) (s : State), s.pce.reqs.find? (fun r => r.tag = tag.val) = some q → natBit (s.cfgRd 0x78).toNat 4 = false → s.mayRequest → q.kind ≠ .dropped ∧ q.kind ≠ .gone → q.retried = false →
    Answers (exec (.completionTimeout tag dt false) s) fun t =>
      Counted .PCE_CNT_CPL_TIMEOUT 0 s t ∧ t.fine = max (s.fine + dt) (q.sent + s.cplTimeout) ∧ t.pce.reserved = s.pce.reserved ++ [(tag.val, t.fine + 2 * s.cplTimeout)]) ∧
  (∀ (tag : Fin 1024) (dt : Nat) (e : Nat × Nat) (s : State), s.pce.reserved.find? (fun x => x.1 = tag.val) = some e →
    Answers (exec (.tagRelease tag dt) s) fun t =>
      t.pce.reserved = s.pce.reserved.filter (fun x => x.1 != tag.val) ∧ t.fine = max (s.fine + dt) e.2) ∧
  (∀ (d3hot : Bool) (s : State), s.flrActive = false →
    Answers (exec (.busMasterDisable d3hot false) s) fun t =>
      t.mayRequest = false ∧ (if d3hot then t.d3hot = true else t.busMaster = false)) ∧
  (∀ (d0 : Bool) (s : State), s.flrActive = false →
    Answers (exec (.busMasterEnable d0 false) s) fun t =>
      if d0 then t.d3hot = false else t.busMaster = true) ∧
  (∀ (s : State), s.flrActive = false →
    Answers (exec (.flr) s) fun t =>
      t.flrActive ∧ t.pce.flrDrain ∧ t.pce.flrAt = s.fine) ∧
  (∀ (dt : Nat) (s : State), s.flrActive → s.pce.flrDrain →
    Answers (exec (.flrDrainEnd dt) s) fun t =>
      t.pce.flrDrain = false ∧ s.pce.flrAt + 8750000 ≤ t.fine ∧ t.levelOf .mailbox = 0 ∧ t.pce.msix = [] ∧
      ∀ off, t.cfgRd off = if off = 0x60 ∨ off = 0x80 then s.cfgRd off else cfgReset s.variant s.fuse off) ∧
  (∀ (dt : Nat) (s : State), s.flrActive → s.pce.flrDrain = false → s.flag F.PCE_STATUS_DL_UP →
    Answers (exec (.flrDone dt) s) fun t =>
      t.flrActive = false ∧ t.flag F.PCE_STATUS_FLR_SEEN ∧ t.fine = max s.fine (min (s.fine + dt) (s.pce.flrAt + 10000000))) ∧
  (∀ (dt : Nat) (s : State), s.flag F.PCE_STATUS_DL_UP → natBit (s.cfgRd 0x60).toNat 0 → s.fld F.PCE_STATUS_LINK_PM = 0 →
    Answers (exec (.l0sEntry dt) s) fun t =>
      t.fld F.PCE_STATUS_LINK_PM = 1 ∧ Emits [.linkPm false] s t ∧ t.fine = max (s.fine + dt) (s.pce.activeAt + atLeast1 (s.fld F.PCE_ASPM_L0S_IDLE) * 125)) ∧
  (∀ (dt : Nat) (s : State), s.flag F.PCE_STATUS_DL_UP → natBit (s.cfgRd 0x60).toNat 1 → s.fld F.PCE_STATUS_LINK_PM ≤ 1 → s.pce.reqs = [] ∧ s.pce.waitReqs = [] ∧ s.pce.pba = [] → (∀ n < 32, s.dmaState n ≠ dmaRunning) →
    Answers (exec (.l1Entry dt) s) fun t =>
      t.fld F.PCE_STATUS_LINK_PM = 2 ∧ Emits [.linkPm true] s t ∧ t.fine = max (s.fine + dt) (s.pce.activeAt + atLeast1 (s.fld F.PCE_ASPM_L1_IDLE) * 1250))

/-- DMA descriptors loaded, run and retired, channel commands, DRAINs, and the migration of a retiring channel (R172,
R173, R174, R175, R433, R434, R436, R437, R440, R441, R456, R460). -/
def Obligations.DmaAndMigration : Prop :=
  (∀ (n : Fin 32) (errs : List (Nat × BurstErr)) (s : State), s.dmaHasRead n .loading → (s.descRead n errs).own = false → s.frameMode n = false →
    Answers (exec (.descriptorLoad n errs) s) fun t =>
      if s.dbCount n = (s.dm n).snap then t.dmaState n = dmaParkedOwn ∧ Counted .DMA_CNT_OWN_WAIT n s t
      else t.dmaLoads n (s.dm n).addr ∧ (t.dm n).snap = s.dbCount n) ∧
  (∀ (n : Fin 32) (errs : List (Nat × BurstErr)) (s : State), s.dmaHasRead n .loading → (s.descRead n errs).own → s.badDesc n (s.descRead n errs) →
    Answers (exec (.descriptorLoad n errs) s) fun t =>
      t.dmaState n = dmaHalted ∧ t.fld F.DMA_STATUS_LAST_ERR n = 0xA) ∧
  (∀ (n : Fin 32) (errs : List (Nat × BurstErr)) (s : State), s.dmaHasRead n .loading → (s.descRead n errs).own → s.badDesc n (s.descRead n errs) = false → s.frameMode n = false → (s.descRead n errs).type = 0 →
    Answers (exec (.descriptorLoad n errs) s) fun t =>
      t.dmaState n = dmaRunning ∧ (t.dm n).desc = s.descRead n errs ∧ (t.dm n).phase = DmaPhase.moving) ∧
  (∀ (n : Fin 32) (dt : Nat) (errs : List (Nat × BurstErr)) (u : State) (s : State), s.burstWait n dt = u → u.burstTurn n → u.frameMode n = false → (u.dm n).desc.type = 0 ∧ (u.dm n).desc.srcSpace = 1 ∧ (u.dm n).desc.dstSpace = 1 →
    Answers (exec (.burst n dt errs) s) fun t =>
      (t.dm n).moved = (u.dm n).moved + (u.copyChunk (u.dm n)).2 ∧
      (t.dm n).credit = u.creditNow n - (u.copyChunk (u.dm n)).2 * 256000 ∧
      (fun (r : Fetch) => t.fst.ddr = (r.st.dmaStoreWr ((u.dm n).desc.dst + (u.copyChunk (u.dm n)).1) r.data r.bad).fst.ddr)
        (u.dmaStoreRd ((u.dm n).desc.src + (u.copyChunk (u.dm n)).1) (u.copyChunk (u.dm n)).2 errs)) ∧
  (∀ (n : Fin 32) (dt : Nat) (errs : List (Nat × BurstErr)) (u : State) (s : State), s.burstWait n dt = u → u.burstTurn n = false →
    Answers (exec (.burst n dt errs) s) fun t =>
      t = u) ∧
  (∀ (n : Fin 32) (errs : List (Nat × BurstErr)) (u : State) (s : State), (s.dm n).paused = false → s.frameMode n = false → (s.dm n).phase = .readBack ∧ (s.dm n).backOk → s.dmaHeld (inStore (s.dm n).addr || (s.dm n).desc.dstSpace == 1) = false → (if (s.dm n).desc.dstSpace = 1 then (s.storeFetch ((s.dm n).lastByte / 64 * 64) 64 errs).st else s) = u →
    Answers (exec (.readBackDone n errs) s) fun t =>
      Counted .DMA_CNT_DESC n s t ∧ ((u.dm n).stop → t.dmaState n = dmaIdle) ∧
      ((u.dm n).stop = false → (u.dm n).migWait → t.dmaState n = dmaReserved) ∧
      ((u.dm n).stop = false → (u.dm n).migWait = false → (s.dm n).desc.linkEnd → s.dbCount n = (s.dm n).snap → t.dmaState n = dmaParkedEnd)) ∧
  (∀ (n : Fin 32) (errs : List (Nat × BurstErr)) (s : State), s.dmaHasRead n .reread →
    Answers (exec (.linkReread n errs) s) fun t =>
      (fun (link : Nat) => if link % 2 = 1 then s.dbCount n = (s.dm n).snap → t.dmaState n = dmaParkedEnd else t.dmaLoads n (linkAddr link))
        (fieldLE (if inStore (s.dm n).addr then (s.storeFetch ((s.dm n).addr / 64 * 64 + 0x18) 8 errs).data else (s.dm n).rx) 0 8)) ∧
  (∀ (who : Requester) (n : Fin 32) (s : State), s.mayWrite who .DMA_DOORBELL n →
    Answers (exec (.dmaDoorbell who n) s) fun t =>
      t.rd .DMA_DB_COUNT n = s.rd .DMA_DB_COUNT n + 1 ∧ (s.dmaState n = dmaParkedOwn → t.dmaLoads n (s.dm n).addr)) ∧
  (∀ (who : Requester) (n : Fin 32) (s : State), s.mayWrite who .DMA_CMD n → s.dmaState n = dmaIdle ∨ s.dmaState n = dmaHalted ∨ s.dmaState n = dmaAborted →
    Answers (exec (.dmaStart who n) s) fun t =>
      t.dmaLoads n (linkAddr ((s.rd .DMA_DESC_LO n).toNat + (s.rd .DMA_DESC_HI n).toNat * 2 ^ 32))) ∧
  (∀ (who : Requester) (n : Fin 32) (s : State), s.mayWrite who .DMA_CMD n → s.dmaState n = dmaParkedEnd ∨ s.dmaState n = dmaParkedOwn →
    Answers (exec (.dmaStop who n) s) fun t =>
      t.dmaState n = dmaIdle ∧ (t.dm n).stop = false) ∧
  (∀ (who : Requester) (n : Fin 32) (s : State), s.mayWrite who .DMA_CMD n → s.dmaState n ≠ dmaReserved →
    Answers (exec (.dmaAbort who n) s) fun t =>
      t.dmaState n = dmaAborted ∧ (t.dm n).phase = DmaPhase.none ∧ ∀ r ∈ t.pce.reqs, r.ch = n → r.kind = ReqKind.gone) ∧
  (∀ (n : Fin 32) (dt : Nat) (bad : List Nat) (u : State) (i : QItem) (s : State), s.burstWait n dt = u → u.burstTurn n → u.frameMode n = false → (u.dm n).desc.type = 2 → (u.queue ((u.dm n).desc.src % 64)).ptrsAgree → ((u.queue ((u.dm n).desc.src % 64)).drainNext bad).cur = some i → (u.dm n).moved + 8 + i.data.length ≤ (u.dm n).desc.length →
    Answers (exec (.drainItem n dt bad) s) fun t =>
      (t.dm n).moved = (u.dm n).moved + 8 + i.data.length ∧ (t.dm n).items = (u.dm n).items + 1) ∧
  (∀ (dt c b : Nat) (errs : List (Nat × BurstErr)) (s : State), s.fst.retiring = some c → s.chState c = chRetiring → s.fst.selfRefresh = false → s.migNext c = some b → s.flag F.FST_STATUS_RETIRE_BLOCKED = false →
    Answers (exec (.migrationCopy dt errs) s) fun t =>
      if s.bands .FST_RES_BANDS * chanCount (putBits (BitVec.ofNat 32 s.fst.loadSet) c 1 0).toNat ≤ (s.rd .FST_RES_USED).toNat
      then t = (s.passTo dt (s.fst.migAt + 5120 / atLeast1 (s.fld F.FST_RETIRE_CFG_MIG_RATE))).setFld F.FST_STATUS_RETIRE_BLOCKED 1
      else t.rd .FST_RES_USED = s.rd .FST_RES_USED + 1 ∧ (tblGet none t.fst.copies b).isSome) ∧
  (∀ (r : Fin 16) (dt c : Nat) (s : State), s.fst.retiring = some c → s.chState c = chRetiring → s.ringExists r → tblGet false s.fst.wrapped r = false →
    Answers (exec (.forceWrap r dt) s) fun t =>
      t.fine = max (s.fine + dt) (s.fst.retireAt + atLeast1 (s.fld F.FST_RETIRE_CFG_FORCE_WRAP) * 1250000000) ∧ tblGet false t.fst.wrapped r = true ∧ t.rd .FST_RING_LAP r = s.rd .FST_RING_LAP r + 1 ∧ (t.rg r).wpOff = 0 ∧
      t.fld F.FST_RING_STATUS_SET_PREV r = s.fld F.FST_RING_STATUS_SET_CUR r) ∧
  (∀ (c : Nat) (s : State), s.fst.retiring = some c → s.chState c = chRetiring → c < 12 → (∀ r < 16, s.ringExists r → tblGet false s.fst.wrapped r = true) → s.fst.migActive = false → s.migNext c = none →
    Answers (exec (.channelRetired) s) fun t =>
      t.chState c = chRetired ∧ t.domOn (32 + c) = false ∧ natBit (t.fld F.FST_STATUS_INUSE_MASK) c = false)

/-- Items written to a queue by its producer and by the host, and read at its register port (R452, R453, R454, R455, R456,
R457, R458, R462). -/
def Obligations.Queues : Prop :=
  (∀ (q : Fin 64) (source : BitVec 8) (pri : BitVec 3) (words : Fin 8) (data : List Byte) (s : State), s.queueRoom q pri.toNat (words + 1) → (s.queue q).partsOf pri.toNat = [] → data.length = 32 * (words + 1) →
    Answers (exec (.queueItem q source pri words data false false) s) fun t =>
      s.queueGains t q ⟨pri.toNat, source.toNat, data, false, false⟩) ∧
  (∀ (q : Fin 64) (source : BitVec 8) (pri : BitVec 3) (words : Fin 8) (data : List Byte) (met : Bool) (s : State), s.queueRoom q pri.toNat 0 → (s.queue q).partsOf pri.toNat = [] → data.length < 32 * (words + 1) →
    Answers (exec (.queueItem q source pri words data met false) s) fun t =>
      (t.queue q).partsOf pri.toNat = [(⟨pri.toNat, source.toNat, words + 1, data, false⟩ : QPartial)] ∧ (t.queue q).levels = (s.queue q).levels) ∧
  (∀ (q : Fin 64) (source : BitVec 8) (pri : BitVec 3) (words : Fin 8) (data : List Byte) (met : Bool) (s : State), s.queDepth q ≠ 0 →
    Answers (exec (.queueItem q source pri words data met true) s) fun t =>
      t.flag F.QUE_STATUS_PTR_ERR q ∧ Counted .QUE_CNT_PTR_ERR q s t) ∧
  (∀ (who : Requester) (q : Fin 64) (bad : List Nat) (i : QItem) (s : State), s.mayRead who 11 q 1 → (s.queue q).ptrsAgree → (s.queue q).drain = none → (s.queue q).cur = none → ((s.queue q).start bad).cur = some i →
    Answers (exec (.queRdHead who q bad false) s) fun t =>
      Emits [.reply i.header] s t ∧ (t.queue q).cur = some i ∧ (t.queue q).curPos = 0) ∧
  (∀ (who : Requester) (q : Fin 64) (bad : List Nat) (s : State), s.mayRead who 11 q 1 → (s.queue q).ptrsAgree → (s.queue q).drain = none → (s.queue q).cur = none → ((s.queue q).start bad).cur = none →
    Answers (exec (.queRdHead who q bad false) s) fun t =>
      Emits [.reply (s.queue q).lastHead] s t ∧ t.flag F.QUE_STATUS_UNDERRUN q) ∧
  (∀ (who : Requester) (q : Fin 64) (i : QItem) (s : State), s.mayRead who 11 q 1 → (s.queue q).ptrsAgree → (s.queue q).drain = none → (s.queue q).cur = some i →
    Answers (exec (.queRdData who q) s) fun t =>
      Emits [.reply (BitVec.ofNat 32 (fieldLE i.data (s.queue q).curPos 4))] s t ∧
      (t.queue q).cur = (if i.data.length ≤ (s.queue q).curPos + 4 then none else some i) ∧
      (t.queue q).curPos = (if i.data.length ≤ (s.queue q).curPos + 4 then 0 else (s.queue q).curPos + 4)) ∧
  (∀ (who : Requester) (q : Fin 64) (s : State), s.mayWrite who .QUE_CMD q → (s.queue q).ptrsAgree →
    Answers (exec (.dropRest who q) s) fun t =>
      (t.queue q).cur = none ∧ (t.queue q).levels = (s.queue q).levels ∧ t.flag F.QUE_STATUS_CURRENT q = false) ∧
  (∀ (who : Requester) (q : Fin 64) (s : State), s.mayWrite who .QUE_CMD q →
    Answers (exec (.queueFlush who q) s) fun t =>
      (t.queue q).items = 0 ∧ t.flag F.QUE_STATUS_EMPTY q ∧ t.fld F.QUE_STATUS_ITEMS q = 0) ∧
  (∀ (who : Requester) (q : Fin 64) (v : BitVec 32) (s : State), s.mayWrite who .QUE_WR_HEAD q → (s.queue q).ptrsAgree →
    Answers (exec (.queWrHead who q v) s) fun t =>
      (t.queue q).host = some (⟨getBits v 8 3, 0x20, getBits v 0 3 + 1, [], false⟩ : QPartial) ∧ ((s.queue q).host.isSome → Counted .QUE_CNT_POISONED q s t)) ∧
  (∀ (who : Requester) (q : Fin 64) (v : BitVec 32) (x : QPartial) (s : State), s.mayWrite who .QUE_WR_DATA q → (s.queue q).host = some x → s.queueRoom q x.pri x.words → x.data.length + 4 ≤ 32 * x.words →
    Answers (exec (.queWrData who q v) s) fun t =>
      if x.data.length + 4 < 32 * x.words then (t.queue q).host = some { x with data := x.data ++ bytesLE 4 v.toNat }
      else s.queueGains t q ⟨x.pri, x.source, x.data ++ bytesLE 4 v.toNat, false, false⟩ ∧ (t.queue q).host = none)

/-- Steps and switches of the time base, time reads, PTP messages received and sent, ports and modules (R465, R466, R467,
R468, R469, R470, R471, R473, R477, R484). -/
def Obligations.TimeAndPtp : Prop :=
  (∀ (who : Requester) (s : State), s.mayWrite who .TIM_CMD 0 →
    Answers (exec (.timeStep who) s) fun t =>
      if (s.rd .TIM_SET_SUB).toNat < finePerSec then t.fine = s.timSet ∧ t.flag F.TIM_STATUS_STEPPED ∧ t.flag F.TIM_STATUS_SYNCED = false
      else t = s.setFld F.TIM_STATUS_CMD_REFUSED 1) ∧
  (∀ (who : Requester) (s : State), s.mayWrite who .TIM_CMD 0 → s.ptpSource → s.flag F.TIM_DOM_STATUS_ALIGNED (1 - s.activeDom) →
    Answers (exec (.timSwitch who false) s) fun t =>
      t.activeDom = 1 - s.activeDom ∧ t.flag F.TIM_STATUS_SWITCHED ∧ t.flag F.TIM_STATUS_HOLDOVER = false) ∧
  (∀ (who : Requester) (s : State), s.mayRead who 12 0 1 →
    Answers (exec (.nowSecLoRead who) s) fun t =>
      Emits [.reply (BitVec.ofNat 32 (s.fine / finePerSec % 2 ^ 32))] s t ∧ t.rd .TIM_NOW_SEC_HI = BitVec.ofNat 32 (s.fine / finePerSec / 2 ^ 32) ∧
      t.rd .TIM_NOW_SUB = BitVec.ofNat 32 (s.fine % finePerSec)) ∧
  (∀ (who : Requester) (k : Fin 8) (s : State), s.mayRead who 12 k 1 →
    Answers (exec (.capSecLoRead who k) s) fun t =>
      Emits [.reply (s.rd .TIM_CAP_SEC_LO k)] s t ∧ t.flag F.TIM_CAP_STATUS_VALID k = false ∧
      t.rd .TIM_CAP_SUB k = BitVec.ofNat 32 (tblGet 0 s.tim.cap k % finePerSec)) ∧
  (∀ (p : Fin 2) (dt : Nat) (m : PtpMsg) (met : Bool) (d : Nat) (s : State), s.ptpTakes p dt m d → s.fromMaster d p m →
    Answers (exec (.sync p dt m met) s) fun t =>
      if m.twoStep then (t.inst d p).sync = some (m.seqId.toNat, (s.advance dt).rxStamp p, m.corr) ∧ Counted .TIM_PORT_CNT_PTP p s t
      else (t.dom d).last = some (msgTime m + corrUnits m.corr, (s.advance dt).rxStamp p) ∧ (t.inst d p).sync = none) ∧
  (∀ (p : Fin 2) (m : PtpMsg) (met : Bool) (d : Nat) (t2 c : Int) (s : State), s.ptpTakes p 0 m d → s.fromMaster d p m → (s.inst d p).sync = some (m.seqId.toNat, t2, c) →
    Answers (exec (.followUp p m met) s) fun t =>
      (t.dom d).last = some (msgTime m + corrUnits (c + m.corr), t2) ∧ (t.inst d p).sync = none) ∧
  (∀ (p : Fin 2) (dt : Nat) (m : PtpMsg) (d : Nat) (s : State), s.ptpTakes p dt m d → m.clock ≠ s.fuse.eui →
    Answers (exec (.announce p dt m) s) fun t =>
      ∃ f ∈ (t.inst d p).foreign, f.clock = m.clock ∧ f.port = m.port ∧ f.gm = m.gm ∧ s.fine + dt ∈ f.seen) ∧
  (∀ (p : Fin 2) (dt : Nat) (m : PtpMsg) (d : Nat) (s : State), s.ptpTakes p dt m d → s.portState d p = psMaster → s.flag F.TIM_DOM_CFG_DELAY_MECH d = false →
    Answers (exec (.delayReq p dt m) s) fun t =>
      ∃ x, Emits [.ptp p 9 x] s t ∧ x.seqId = m.seqId ∧ x.reqClock = m.clock ∧ x.reqPort = m.port ∧ x.clock = s.fuse.eui) ∧
  (∀ (p : Fin 2) (dt : Nat) (m : PtpMsg) (d : Nat) (s : State), s.ptpTakes p dt m d → s.flag F.TIM_DOM_CFG_DELAY_MECH d →
    Answers (exec (.pdelayReq p dt m) s) fun t =>
      ∃ x y, Emits [.ptp p 3 x, .ptp p 10 y] s t ∧ x.seqId = m.seqId ∧ x.reqClock = m.clock ∧ y.seqId = m.seqId ∧ y.reqClock = m.clock) ∧
  (∀ (p : Fin 2) (m : PtpMsg) (d : Nat) (t1 t2 t3 : Int) (s : State), s.ptpTakes p 0 m d → s.fromMaster d p m && s.toUs p m → (s.inst d p).req = some (m.seqId.toNat, t3) → (s.dom d).last = some (t1, t2) → s.flag F.TIM_DOM_CFG_DELAY_MECH d = false →
    Answers (exec (.delayResp p m) s) fun t =>
      (t.dom d).path = some ((t2 - t3 + (msgTime m - corrUnits m.corr - t1)) / 2) ∧ (t.inst d p).req = none) ∧
  (∀ (p : Fin 2) (dt : Nat) (m : PtpMsg) (d : Nat) (t1 : Int) (s : State), s.ptpTakes p dt m d → s.toUs p m → (s.inst d p).req = some (m.seqId.toNat, t1) → s.flag F.TIM_DOM_CFG_DELAY_MECH d →
    Answers (exec (.pdelayResp p dt m) s) fun t =>
      if m.twoStep then (t.inst d p).resp = some (m.seqId.toNat, (s.advance dt).rxStamp p - corrUnits m.corr, msgTime m)
      else (t.dom d).path = some (((s.advance dt).rxStamp p - corrUnits m.corr - t1) / 2) ∧ (t.inst d p).req = none) ∧
  (∀ (p : Fin 2) (m : PtpMsg) (d k : Nat) (t1 t2 t4 : Int) (s : State), s.ptpTakes p 0 m d → s.toUs p m → (s.inst d p).req = some (k, t1) → (s.inst d p).resp = some (m.seqId.toNat, t4, t2) →
    Answers (exec (.pdelayRespFollowUp p m) s) fun t =>
      (t.dom d).path = some ((t4 - t1 - (msgTime m - t2 + corrUnits m.corr)) / 2) ∧ (t.inst d p).req = none ∧ (t.inst d p).resp = none) ∧
  (∀ (d p : Fin 2) (dt : Nat) (s : State), s.instIs d p dt [psMaster] →
    Answers (exec (.syncSend d p dt) s) fun t =>
      ∃ x y, Emits [.ptp p 0 x, .ptp p 8 y] s t ∧ x.seqId = BitVec.ofNat 16 (s.inst d p).syncSeq ∧ y.seqId = x.seqId ∧ x.twoStep ∧
      (t.inst d p).syncSeq = ((s.inst d p).syncSeq + 1) % 65536 ∧ t.fine = max (s.fine + dt) ((s.inst d p).syncSent + intervalOf (s.logSync d))) ∧
  (∀ (d p : Fin 2) (dt : Nat) (s : State), s.instIs d p dt [psMaster] →
    Answers (exec (.announceSend d p dt) s) fun t =>
      ∃ x, Emits [.ptp p 11 x] s t ∧ x.seqId = BitVec.ofNat 16 (s.inst d p).annSeq ∧ (t.inst d p).annSeq = ((s.inst d p).annSeq + 1) % 65536 ∧
      t.fine = max (s.fine + dt) ((s.inst d p).annSent + intervalOf (s.logAnnounce d))) ∧
  (∀ (d p : Fin 2) (dt : Nat) (s : State), s.instIs d p dt [psSlave, psUncalibrated] →
    Answers (exec (.delayReqSend d p dt) s) fun t =>
      ∃ x, Emits [.ptp p (if s.flag F.TIM_DOM_CFG_DELAY_MECH d then 2 else 1) x] s t ∧ x.seqId = BitVec.ofNat 16 (s.inst d p).delSeq ∧
      (t.inst d p).req = some ((s.inst d p).delSeq, s.txStamp p t.fine) ∧ t.fine = max (s.fine + dt) ((s.inst d p).reqSent + s.reqInterval d p)) ∧
  (∀ (d : Fin 2) (dt : Nat) (s : State), s.timOn → s.domState d = dsAcquiring ∨ s.domState d = dsLocked →
    Answers (exec (.syncLossTimeout d dt) s) fun t =>
      t.domState d = dsLost ∧ (t.dom d).good = 0 ∧ (t.dom d).bad = 0 ∧ t.fine = max (s.fine + dt) ((s.dom d).syncAt + 3 * intervalOf (s.dom d).logSync)) ∧
  (∀ (d p : Fin 2) (dt : Nat) (s : State), s.instIs d p dt [psListening, psPassive, psUncalibrated, psSlave] →
    Answers (exec (.announceReceiptTimeout d p dt) s) fun t =>
      (t.inst d p).foreign = [] ∧ (t.inst d p).sync = none ∧ t.fine = max (s.fine + dt) (s.receiptDue d p)) ∧
  (∀ (p : Fin 2) (up modAbs los txFault : Bool) (s : State), s.timOn → s.domOn (66 + p) →
    Answers (exec (.portLinkChange p up modAbs los txFault) s) fun t =>
      t.flag F.TIM_PORT_STATUS_LINK p = up ∧ t.flag F.TIM_PORT_STATUS_MOD_ABS p = modAbs ∧ t.flag F.TIM_PORT_STATUS_LOS p = los ∧
      t.flag F.TIM_PORT_STATUS_TX_FAULT p = txFault) ∧
  (∀ (p : Fin 2) (data : List Byte) (s : State), s.domOn (66 + p) →
    Answers (exec (.moduleInsert p data) s) fun t =>
      t.flag F.TIM_PORT_STATUS_MOD_ABS p = false ∧ t.flag F.TIM_PORT_STATUS_MOD_READ p ∧
      ∀ k < 256, tblGet 0 t.tim.a0 (256 * p + k) = data.getD k 0) ∧
  (∀ (p : Fin 2) (dt : Nat) (data : List Byte) (s : State), s.domOn (66 + p) → s.flag F.TIM_PORT_STATUS_MOD_ABS p = false →
    Answers (exec (.modulePoll p dt data) s) fun t =>
      (∀ k < 16, tblGet 0 t.tim.a2 (16 * p + k) = data.getD k 0) ∧ t.regs = s.regs ∧ t.fine = max (s.fine + dt) (tblGet 0 s.tim.polled p + finePerSec))

/-- Schedules armed, disarmed and fired, their output pulses, and the messages and bypass of a stay ring (R474, R475,
R478, R479, R480, R481, R483). -/
def Obligations.SchedulesAndRings : Prop :=
  (∀ (who : Requester) (k : Fin 8) (v : BitVec 32) (s : State), s.mayWrite who .TIM_SCH_CFG k → natBit v.toNat 31 = false → getBits v 0 2 = 1 ∨ getBits v 0 2 = 2 ∧ s.rd .TIM_SCH_COUNT k = 0 →
    Answers (exec (.scheduleArm who k v) s) fun t =>
      if (s.rd .TIM_SCH_START_SUB k).toNat < finePerSec then t.flag F.TIM_SCH_STATUS_ARMED k ∧ (t.sched k).armed ∧
        (t.sched k).start = ((s.rd .TIM_SCH_START_HI k).toNat * 2 ^ 32 + (s.rd .TIM_SCH_START_LO k).toNat) * finePerSec + (s.rd .TIM_SCH_START_SUB k).toNat ∧
        (t.sched k).period = max 125 (s.rd .TIM_SCH_PERIOD k).toNat
      else t.flag F.TIM_SCH_STATUS_CFG_ERR k ∧ (t.sched k).armed = (s.sched k).armed) ∧
  (∀ (who : Requester) (k : Fin 8) (v : BitVec 32) (s : State), s.mayWrite who .TIM_SCH_CFG k →
    Answers (exec (.scheduleDisarm who k v) s) fun t =>
      t.flag F.TIM_SCH_STATUS_ARMED k = false ∧ (t.sched k).armed = false ∧ (t.sched k).pulse = none) ∧
  (∀ (k : Fin 8) (dt : Nat) (s : State), (s.sched k).armed → s.timOn →
    Answers (exec (.scheduleFire k dt) s) fun t =>
      t.fine = max (max s.fine (min (s.fine + dt) (max ((s.sched k).inst (s.sched k).next) ((s.sched k).armAt + 50)))) ((s.sched k).inst (s.sched k).next) ∧
      (t.sched k).last = some ((s.sched k).inst (s.sched k).next) ∧
      (t.sched k).next = (s.sched k).next + 1 ∧ t.flag F.TIM_SCH_STATUS_ARMED k = (s.sched k).has ((s.sched k).next + 1)) ∧
  (∀ (k : Fin 8) (dt e : Nat) (s : State), (s.sched k).pulse = some e →
    Answers (exec (.toutPulseEnd k dt) s) fun t =>
      Emits [.tout k false ((s.sched k).level false) e] s t ∧ (t.sched k).pulse = none ∧ t.fine = max (s.fine + dt) e) ∧
  (∀ (r : Fin 2) (dt t0 : Nat) (nibs : List (BitVec 4)) (s : State), s.ringOn r → nibs.length = 10 → nibsAt nibs 7 3 = crc12 ((nibs.take 7).map BitVec.toNat) → nibsAt nibs 0 2 = s.fld F.TIM_RING_CFG_RING_ID r → (s.ring r).own = some t0 →
    Answers (exec (.ringMessage r dt nibs) s) fun t =>
      t.rd .TIM_RING_LOOP r = BitVec.ofNat 32 (s.fine + dt - t0) ∧ (t.ring r).own = none ∧ ((s.ring r).second = none → t.outbox = s.outbox)) ∧
  (∀ (r : Fin 2) (dt : Nat) (nibs : List (BitVec 4)) (s : State), s.ringOn r → nibs.length = 10 → nibsAt nibs 7 3 = crc12 ((nibs.take 7).map BitVec.toNat) → nibsAt nibs 0 2 ≠ s.fld F.TIM_RING_CFG_RING_ID r → nibsAt nibs 2 2 < 31 → (s.ring r).second = none →
    Answers (exec (.ringMessage r dt nibs) s) fun t =>
      Counted .TIM_RING_CNT_RX r s t ∧
      if (s.advance dt).ringHeld r = [] then ∃ a flags, s.fine + dt + 200 ≤ a ∧
        Emits [.ring r a (ringGroups (ringNibs (nibsAt nibs 0 2) (nibsAt nibs 2 2 + 1) (nibsAt nibs 4 2) flags false))] s t
      else (t.ring r).second.isSome) ∧
  (∀ (who : Requester) (r : Fin 2) (v : BitVec 32) (s : State), s.mayWrite who .TIM_RING_SEND r → natBit v.toNat 31 → s.ringOn r → (s.ring r).own = none → (s.ring r).second = none →
    Answers (exec (.ringSend who r v) s) fun t =>
      ∃ a, s.fine + 20 ≤ a ∧ (t.ring r).own = some a ∧ Emits [.ring r a (ringGroups (ringNibs (s.fld F.TIM_RING_CFG_RING_ID r) 0 (v.toNat % 256) 0 false))] s t) ∧
  (∀ (r : Fin 2) (dt t0 : Nat) (s : State), (s.ring r).own = some t0 →
    Answers (exec (.ringSendTimeout r dt) s) fun t =>
      (t.ring r).own = none ∧ t.fine = max (s.fine + dt) (t0 + 12500) ∧ t.regs = s.regs) ∧
  (∀ (r : Fin 2) (dt t0 : Nat) (s : State), (s.ring r).idleAt = some t0 →
    Answers (exec (.bypassOpen r dt) s) fun t =>
      t.flag F.TIM_RING_STATUS_BYPASS_CLOSED r = false ∧ t.fine = max (s.fine + dt) (t0 + 12500) ∧ Emits [.bypass r false] s t)

/-- Each record of a scan program as the planner takes it, ahead of the motion or at rest, the fetch of build-store
blocks, and the stream window (R305, R306, R307, R308, R309, R310, R311, R313, R317, R341). -/
def Obligations.ScanRecords : Prop :=
  (∀ (n : Fin 12) (x y : BitVec 32) (z : BitVec 16) (u : State) (s : State), s.plans n (.jumpRecord n x y z) → s.planner n = u →
    Answers (exec (.jumpRecord n x y z) s) fun t =>
      (u.planned t n ∧ (t.lastPiece n).moves u n .dark x.toInt y.toInt z.toInt ∧ (t.lastPiece n).arc = none ∧ (t.lastPiece n).len = hypot (x.toInt - (u.sc n).px) (y.toInt - (u.sc n).py) ∧
        (t.lastPiece n).v = (u.sc n).vJump) ∧ (t.sc n).chain = 0) ∧
  (∀ (n : Fin 12) (x y : BitVec 32) (z : BitVec 16) (u : State) (s : State), s.plans n (.markRecord n x y z) → s.planner n = u →
    Answers (exec (.markRecord n x y z) s) fun t =>
      (u.planned t n ∧ (t.lastPiece n).moves u n .emit x.toInt y.toInt z.toInt ∧ (t.lastPiece n).arc = none ∧ (t.lastPiece n).len = hypot (x.toInt - (u.sc n).px) (y.toInt - (u.sc n).py) ∧
        (t.lastPiece n).v = (u.sc n).vMark) ∧ (t.sc n).chain = (if (u.sc n).chain = 0 then (u.sc n).chains + 1 else (u.sc n).chain)) ∧
  (∀ (n : Fin 12) (dark : Bool) (z : BitVec 16) (cx cy sweep : BitVec 32) (u : State) (a : ArcGeo) (s : State), s.plans n (.arcRecord n dark z cx cy sweep) → s.planner n = u → (⟨cx.toInt, cy.toInt, sweep.toInt⟩ : ArcGeo) = a →
    Answers (exec (.arcRecord n dark z cx cy sweep) s) fun t =>
      (if 360000000 < sweep.toInt.natAbs ∨ a.radius (u.sc n).px (u.sc n).py = 0 then t.haltsFor n 3
      else u.planned t n ∧ (t.lastPiece n).moves u n (if dark then .dark else .emit) (a.endPoint (u.sc n).px (u.sc n).py).1 (a.endPoint (u.sc n).px (u.sc n).py).2 z.toInt ∧
        (t.lastPiece n).arc = some a ∧ (t.lastPiece n).len = a.length (u.sc n).px (u.sc n).py)) ∧
  (∀ (n : Fin 12) (vm vj : BitVec 32) (u : State) (s : State), s.plans n (.speedRecord n vm vj) → s.planner n = u →
    Answers (exec (.speedRecord n vm vj) s) fun t =>
      (u.planned t n ∧ (t.lastPiece n).notes .plain 0 false) ∧ (t.sc n).vMark = (if vm = 0 then (u.sc n).vMark else min vm.toNat 20000000) ∧
      (t.sc n).vJump = (if vj = 0 then (u.sc n).vJump else min vj.toNat 50000000)) ∧
  (∀ (n : Fin 12) (openLoop : Bool) (c : BitVec 16) (u : State) (s : State), s.plans n (.powerRecord n openLoop c) → s.planner n = u →
    Answers (exec (.powerRecord n openLoop c) s) fun t =>
      u.planned t n ∧ (t.lastPiece n).notes .power c.toNat openLoop) ∧
  (∀ (n : Fin 12) (profile : BitVec 3) (u : State) (s : State), s.plans n (.profileRecord n profile) → s.planner n = u →
    Answers (exec (.profileRecord n profile) s) fun t =>
      u.planned t n ∧ (t.lastPiece n).notes .profile profile.toNat false) ∧
  (∀ (n : Fin 12) (code : BitVec 8) (u : State) (s : State), s.plans n (.eventRecord n code) → s.planner n = u →
    Answers (exec (.eventRecord n code) s) fun t =>
      u.planned t n ∧ (t.lastPiece n).notes .event code.toNat false) ∧
  (∀ (n : Fin 12) (target : BitVec 32) (u : State) (s : State), s.plans n (.linkRecord n target) → s.planner n = u →
    Answers (exec (.linkRecord n target) s) fun t =>
      (if s.flag F.SCN_CFG_SRC n then t.haltsFor n 3 else (u.planned t n ∧ (t.lastPiece n).notes .plain 0 false) ∧ (t.sc n).pc = target.toNat ∧ (t.sc n).chain = 0)) ∧
  (∀ (n : Fin 12) (type : BitVec 8) (s : State), s.plans n (.badRecord n type) →
    Answers (exec (.badRecord n type) s) fun t =>
      t.haltsFor n 3) ∧
  (∀ (n : Fin 12) (w : Fin 4) (timeout : BitVec 32) (u : State) (s : State), s.rests n (.waitRecord n w timeout) → (s.atRest n).skips n = false → s.atRest n = u →
    Answers (exec (.waitRecord n w timeout) s) fun t =>
      u.rested t n ∧ (if (tblGet none (u.sc n).pend w.val).isSome then tblGet none (t.sc n).pend w.val = none ∧ t.scnState n = scnRunning ∧ Counted .SCN_CNT_RECORDS n u t
      else (t.sc n).wait = ScnWait.task w ∧ (t.sc n).waitAt = (if timeout = 0 then 0 else u.fine + fineOfUs timeout.toNat) ∧ t.scnState n = scnWaiting)) ∧
  (∀ (n : Fin 12) (w : Nat) (s : State), (s.sc n).wait = ScnWait.task w → s.scnState n = scnWaiting → (s.sc n).waitAt ≠ 0 →
    Answers (exec (.waitTimeout n) s) fun t =>
      t.scnState n = scnHalted ∧ t.fld F.SCN_STATUS_HALT_CAUSE n = 7 ∧ t.fine = max s.fine (s.sc n).waitAt) ∧
  (∀ (n : Fin 12) (us : BitVec 32) (u : State) (s : State), s.rests n (.dwellRecord n us) → (s.atRest n).skips n = false → s.atRest n = u →
    Answers (exec (.dwellRecord n us) s) fun t =>
      u.rested t n ∧ (t.sc n).wait = ScnWait.dwell ∧ (t.sc n).waitAt = u.fine + fineOfUs us.toNat ∧ t.scnState n = scnWaiting) ∧
  (∀ (n : Fin 12) (s : State), (s.sc n).wait = ScnWait.dwell → s.scnState n = scnWaiting → (s.sc n).plan = [] ∧ (s.sc n).pause = none →
    Answers (exec (.dwellEnd n) s) fun t =>
      (t.sc n).wait = ScnWait.none ∧ t.scnState n = scnRunning ∧ Counted .SCN_CNT_RECORDS n s t ∧ t.fine = max s.fine (s.sc n).waitAt) ∧
  (∀ (n : Fin 12) (input : Fin 4) (profile : BitVec 3) (cm : BitVec 16) (us : BitVec 32) (u : State) (s : State), s.rests n (.meterRecord n input profile cm us) → (s.atRest n).skips n = false → s.atRest n = u →
    Answers (exec (.meterRecord n input profile cm us) s) fun t =>
      (if us.toNat < 100 ∨ 1000000 < us.toNat then t.haltsFor n 3
      else u.rested t n ∧ (t.sc n).wait = ScnWait.meter cm.toNat profile.toNat (u.sc n).profile input ∧ (t.sc n).waitAt = u.fine + fineOfUs us.toNat ∧
        t.scnState n = scnWaiting ∧ t.flag F.BCH_STATUS_METER n)) ∧
  (∀ (n : Fin 12) (u : State) (s : State), s.rests n (.layerEnd n) → s.atRest n = u →
    Answers (exec (.layerEnd n) s) fun t =>
      u.rested t n ∧ t.scnState n = scnLayerWait ∧ (t.sc n).skip = false ∧ Counted .SCN_CNT_RECORDS n u t) ∧
  (∀ (n : Fin 12) (u : State) (s : State), s.rests n (.endRecord n) → (s.atRest n).skips n = false → s.atRest n = u →
    Answers (exec (.endRecord n) s) fun t =>
      u.rested t n ∧ t.scnState n = scnDone ∧ Counted .SCN_CNT_RECORDS n u t) ∧
  (∀ (n : Fin 12) (block : Nat) (errs : List (Nat × BurstErr)) (s : State), s.hasBeam n ∧ s.storeUp → s.flag F.SCN_CFG_SRC n = false → tblGet [] (s.sc n).blocks block = [] →
    Answers (exec (.blockFetch n block errs) s) fun t =>
      (fun (r : Fetch) => tblGet [] (t.sc n).blocks block = r.data ∧ ((t.sc n).badBlocks.contains block ↔ r.bad ≠ []))
      (s.storeFetch (s.regionAddr (s.bands .FST_BUILD_BASE) s.fst.loadSet (block * 4096)) 4096 errs)) ∧
  (∀ (who : Requester) (n : Fin 12) (v : BitVec 32) (s : State), s.beamRuns n →
    Answers (exec (.streamWindowWrite who n v) s) fun t =>
      (if who = Requester.unit ∨ who = Requester.mailbox ∧ 2 ≤ s.levelOf .mailbox then
        (t.sc n).words = (if (s.sc n).words.length < 3 then (s.sc n).words ++ [v] else []) ∧
        (t.sc n).fifo = (if (s.sc n).words.length < 3 ∨ (s.sc n).overflow ∨ 4096 ≤ (s.sc n).fifo.length then (s.sc n).fifo
          else (s.sc n).fifo ++ [((s.sc n).words ++ [v]).flatMap (fun (x : Word) => bytesLE 4 x.toNat)])
      else t = s.bump .SCN_CNT_STREAM_BAD n))

/-- Late data, the sub-states of a pause, Shroud frames and their loss, the clearance check, calibration records, and the
commands of an interpreter (R313, R316, R318, R322, R325, R330, R334, R335, R336, R339, R340, R345). -/
def Obligations.ScanMotionAndCommands : Prop :=
  (∀ (n : Fin 12) (dt : Nat) (u : State) (s : State), s.beamRuns n → s.beamThen n dt = u → u.scnState n = scnRunning → planEnd (u.sc n).plan < u.fine + 62500 →
    Answers (exec (.lateData n dt) s) fun t =>
      Counted .SCN_CNT_LATE n u t ∧
      (if (u.sc n).chain ≠ 0 ∨ (u.sc n).plan.any (fun (g : Seg) => g.kind == SegKind.emit && decide (0 < g.len) && decide (u.fine < g.t0)) then t.flag F.SCN_STATUS_CAUSE_LATE n
      else (t.sc n).wait = ScnWait.late ∧ t.scnState n = scnWaiting)) ∧
  (∀ (n : Fin 12) (dt : Nat) (u : State) (p : Pause) (s : State), s.beamRuns n → s.beamThen n dt = u → u.pausedIn n p 1 →
    Answers (exec (.rampOffEnd n dt) s) fun t =>
      (t.sc n).pause = some { p with phase := 2, since := u.phaseDue n p, dq := p.qS + p.ramp, dv := p.v } ∧ t.fld F.SCN_STATUS_PSTATE n = 2 ∧
      (t.bc n).want = false ∧ t.fine = max u.fine (u.phaseDue n p)) ∧
  (∀ (n : Fin 12) (dt : Nat) (u : State) (p : Pause) (s : State), s.beamRuns n → s.beamThen n dt = u → u.pausedIn n p 2 → p.hard = false →
    Answers (exec (.decelEnd n dt) s) fun t =>
      t.fine = max u.fine (u.phaseDue n p) ∧
      (if p.haltCause ≠ 0 then t.scnState n = scnHalted ∧ t.fld F.SCN_STATUS_HALT_CAUSE n = p.haltCause % 16
      else u.flag F.SCN_STATUS_CAUSE_CLEAR n ∨ u.flag F.SCN_STATUS_CAUSE_LATE n ∨ u.flag F.SCN_STATUS_CAUSE_REEF n →
        (t.sc n).pause = some { p with phase := 3, since := t.fine, park := u.restPos n p } ∧ t.fld F.SCN_STATUS_PSTATE n = 3)) ∧
  (∀ (n : Fin 12) (dt : Nat) (u : State) (p : Pause) (s : State), s.beamRuns n → s.beamThen n dt = u → u.pausedIn n p 4 →
    Answers (exec (.backupEnd n dt) s) fun t =>
      t.fine = max u.fine (u.phaseDue n p) ∧
      (if p.haltCause ≠ 0 then t.scnState n = scnHalted ∧ t.fld F.SCN_STATUS_HALT_CAUSE n = p.haltCause % 16
      else t.fld F.SCN_STATUS_PSTATE n = 5 ∧ ∃ q, (t.sc n).pause = some q ∧ q.phase = 5 ∧ q.since = u.phaseDue n p ∧ u.phaseDue n p + 50000 ≤ q.tp ∧
        q.grant = (if u.fld F.BCH_CFG_ROT_GROUP n < 4 then none else some q.tp))) ∧
  (∀ (n : Fin 12) (dt : Nat) (u : State) (p : Pause) (s : State), s.beamRuns n → s.beamThen n dt = u → u.pausedIn n p 5 → p.go = false ∧ p.grant.isSome →
    Answers (exec (.refireHoldEnd n dt) s) fun t =>
      (t.sc n).pause = some { p with go := true, since := u.phaseDue n p } ∧ t.fine = max u.fine (u.phaseDue n p)) ∧
  (∀ (n : Fin 12) (dt : Nat) (u : State) (p : Pause) (s : State), s.beamRuns n → s.beamThen n dt = u → u.pausedIn n p 5 → p.go → p.further = false →
    Answers (exec (.reentryEnd n dt) s) fun t =>
      t.fine = max u.fine (u.phaseDue n p) ∧
      (if 0 < p.ramp ∧ (u.sc n).plan.head?.map (fun (g : Seg) => g.kind) = some SegKind.emit then
        (t.sc n).pause = some { p with phase := 6, since := u.phaseDue n p } ∧ t.fld F.SCN_STATUS_PSTATE n = 6 ∧ (t.bc n).want
      else (t.sc n).pause = none ∧ t.scnState n = scnRunning ∧ t.fld F.SCN_STATUS_PSTATE n = 0)) ∧
  (∀ (n : Fin 12) (dt : Nat) (u : State) (p : Pause) (s : State), s.beamRuns n → s.beamThen n dt = u → u.pausedIn n p 6 → p.further = false →
    Answers (exec (.rampOnEnd n dt) s) fun t =>
      t.fine = max u.fine (u.phaseDue n p) ∧ (t.sc n).pause = none ∧ t.scnState n = scnRunning ∧ t.fld F.SCN_STATUS_PSTATE n = 0) ∧
  (∀ (n : Fin 12) (dt t0 : Nat) (s : State), s.beamRuns n → ((s.beamThen n dt).sc n).holdUntil = some t0 →
    Answers (exec (.rotationHoldEnd n dt) s) fun t =>
      (t.sc n).holdUntil = none ∧ t.fine = max (s.beamThen n dt).fine t0) ∧
  (∀ (n : Fin 12) (dt : Nat) (u : State) (s : State), s.beamRuns n → s.beamThen n (max dt (s.nextFrame n - s.fine)) = u → u.domOn (shroudDom n) → u.scnState n ≠ scnStopped ∧ u.scnState n ≠ scnDone →
    Answers (exec (.shroudFrameSend n dt) s) fun t =>
      (t.sc n).seq = ((u.sc n).seq + 1) % 16 ∧ ((t.sc n).cmdX, (t.sc n).cmdY, (t.sc n).cmdZ) = (u.gridCommand n (u.bedPoint n)).1 ∧
      ∃ f, (t.sc n).sent.head? = some f ∧ f.seq = (t.sc n).seq ∧ f.inst = u.fine ∧ f.s = u.layerPath n) ∧
  (∀ (n : Fin 12) (dt : Nat) (groups : List (BitVec 5)) (u : State) (nibs : List (BitVec 4)) (s : State), s.beamRuns n → s.beamThen n dt = u → u.domOn (shroudDom n) ∧ (u.sc n).synced → goodFrame groups = some nibs →
    Answers (exec (.shroudFrameReceived n dt groups) s) fun t =>
      (t.sc n).goodAt = u.fine ∧ t.flag F.SCN_STATUS_LINK_UP n ∧ t.fld F.SCN_STATUS_HEAD_READY n = nibField nibs 1 1 % 2 ∧
      ((u.sc n).sent.any (fun f => f.seq == nibField nibs 0 1) → t.rd .SCN_POS_X n = BitVec.ofNat 32 (nibField nibs 2 6) ∧
        t.rd .SCN_POS_Y n = BitVec.ofNat 32 (nibField nibs 8 6))) ∧
  (∀ (n : Fin 12) (dt : Nat) (groups : List (BitVec 5)) (u : State) (s : State), s.beamRuns n → s.beamThen n dt = u → u.domOn (shroudDom n) ∧ (u.sc n).synced → goodFrame groups = none →
    Answers (exec (.shroudFrameReceived n dt groups) s) fun t =>
      t = u.bump .SCN_CNT_SH_CRC n) ∧
  (∀ (n : Fin 12) (s : State), s.beamRuns n → (s.sc n).synced →
    Answers (exec (.shroudSyncLost n) s) fun t =>
      (t.sc n).synced = false ∧ Counted .SCN_CNT_SH_SYNC n s t) ∧
  (∀ (n : Fin 12) (dt : Nat) (u : State) (s : State), s.beamRuns n → s.flag F.SCN_STATUS_LINK_UP n → s.beamThen n (max dt ((s.sc n).goodAt + fineOfUs (atLeast1 (s.fld F.SCN_HEAD_LOST_TIME n)) - s.fine)) = u →
    Answers (exec (.shroudLost n dt) s) fun t =>
      t.flag F.SCN_STATUS_LINK_UP n = false ∧ (s.sc n).goodAt + fineOfUs (atLeast1 (s.fld F.SCN_HEAD_LOST_TIME n)) ≤ t.fine ∧
      (u.scnState n = scnRunning ∨ u.scnState n = scnWaiting ∨ u.scnState n = scnPaused → t.scnState n = scnHalted ∧ t.fld F.SCN_STATUS_HALT_CAUSE n = 5)) ∧
  (∀ (dt : Nat) (u : State) (s : State), s.ready → (s.passTo dt s.beams.checkAt).refreshAll = u →
    Answers (exec (.clearanceCheck dt) s) fun t =>
      t.fine = max (s.fine + dt) s.beams.checkAt ∧ t.beams.checkAt = t.fine + 1250 ∧ ∀ n < 12, u.hasBeam n →
      (u.flag F.SCN_STATUS_CAUSE_CLEAR n = false → n ∈ u.yielding → t.flag F.SCN_STATUS_CAUSE_CLEAR n) ∧
      (u.flag F.SCN_STATUS_CAUSE_CLEAR n → u.blocked n → t.flag F.SCN_STATUS_CAUSE_CLEAR n ∧ (t.sc n).clears = 0)) ∧
  (∀ (record : List Byte) (cx cy : Nat × Nat × Bool) (h step : Nat) (s : State), s.calTakes record → fieldLE record 1 1 = h → atLeast1 (s.rd .SCN_GRID_STEP h).toNat = step → axisCell (s.memRd (0x00410000 + 0x800 * h + 8 * fieldLE record 8 2)).toInt (s.sgn .SCN_GRID_X0 h) step = cx → axisCell (s.memRd (0x00410000 + 0x800 * h + 8 * fieldLE record 8 2 + 4)).toInt (s.sgn .SCN_GRID_Y0 h) step = cy →
    Answers (exec (.calibRecord record) s) fun t =>
      Counted .SCN_CNT_CAL_USED 0 s t ∧ ∀ i < 2, ∀ j < 2, (tblGet {} t.cal.acc (h * 4225 + 65 * (cy.1 + j) + cx.1 + i)).w =
      (tblGet {} s.cal.acc (h * 4225 + 65 * (cy.1 + j) + cx.1 + i)).w +
        (cornerPart step cx.2.1 i * cornerPart step cy.2.1 j * 2 ^ 32 + step * step / 2) / (step * step)) ∧
  (∀ (record : List Byte) (s : State), s.ready → s.calTakes record = false →
    Answers (exec (.calibRecord record) s) fun t =>
      t = s.bump .SCN_CNT_CAL_DISCARD) ∧
  (∀ (who : Requester) (n : Fin 12) (u : State) (s : State), s.mayWrite who .SCN_CMD n → s.refresh n = u → u.flag F.SCN_CFG_ENABLE n → u.scnState n = scnStopped ∨ u.scnState n = scnDone ∨ u.scnState n = scnHalted →
    Answers (exec (.scnStart who n) s) fun t =>
      (if u.scnRefused n then t = u.setFld F.SCN_STATUS_CMD_REFUSED 1 n
      else t.scnState n = scnRunning ∧ (t.sc n).pc = (s.rd .SCN_PROG_BASE n).toNat ∧ (t.sc n).plan = [] ∧ (t.sc n).nextIdx = 0 ∧ t.rd .SCN_RECORD n = 0 ∧
        (u.flag F.SCN_CFG_SRC n → (t.sc n).fifo = []))) ∧
  (∀ (who : Requester) (n : Fin 12) (u : State) (s : State), s.mayWrite who .SCN_CMD n → s.refresh n = u → u.flag F.SCN_CFG_ENABLE n → u.scnState n = scnRunning ∨ u.scnState n = scnWaiting ∨ u.scnState n = scnLayerWait ∨ u.scnState n = scnPaused →
    Answers (exec (.scnStop who n) s) fun t =>
      t.haltsFor n 8) ∧
  (∀ (who : Requester) (n : Fin 12) (u : State) (s : State), s.mayWrite who .SCN_CMD n → s.refresh n = u → u.flag F.SCN_CFG_ENABLE n → u.scnState n = scnHalted →
    Answers (exec (.restartAtStop who n) s) fun t =>
      (if u.scnRefused n then t = u.setFld F.SCN_STATUS_CMD_REFUSED 1 n
      else t.fld F.SCN_STATUS_HALT_CAUSE n = 0 ∧
        if (u.sc n).pause.any (fun (p : Pause) => !p.geo.isEmpty && decide (0 < p.v)) then t.scnState n = scnPaused ∧ t.fld F.SCN_STATUS_PSTATE n = 4
        else t.scnState n = scnRunning ∧ (t.sc n).pause = none)) ∧
  (∀ (who : Requester) (n : Fin 12) (u : State) (s : State), s.mayWrite who .SCN_CMD n → s.refresh n = u → u.flag F.SCN_CFG_ENABLE n → u.scnState n = scnHalted → u.scnRefused n = false →
    Answers (exec (.restartNextRecord who n) s) fun t =>
      t.scnState n = scnRunning ∧ (t.sc n).pause = none ∧ ∃ g rest, (t.sc n).plan = g :: rest ∧ g.kind = SegKind.dark ∧ (g.x0, g.y0, g.z0) = u.restPoint n ∧
      ∀ h ∈ rest.head?, h.idx ≠ (u.rd .SCN_HALT_RECORD n).toNat) ∧
  (∀ (who : Requester) (n : Fin 12) (u : State) (s : State), s.mayWrite who .SCN_CMD n → s.refresh n = u → u.flag F.SCN_CFG_ENABLE n → u.scnState n = scnHalted → u.scnRefused n = false →
    Answers (exec (.restartNextLayer who n) s) fun t =>
      t.scnState n = scnRunning ∧ (t.sc n).pause = none ∧ (t.sc n).plan = [] ∧ (t.sc n).skip ∧ ((t.sc n).px, (t.sc n).py, (t.sc n).pz) = u.restPoint n) ∧
  (∀ (who : Requester) (n : Fin 12) (u : State) (s : State), s.mayRead who 6 n 1 → s.refresh n = u →
    Answers (exec (.pathLoRead who n) s) fun t =>
      Emits [.reply (BitVec.ofNat 32 (u.layerPath n))] u t ∧ t.rd .SCN_PATH_HI n = BitVec.ofNat 32 (u.layerPath n / 2 ^ 32 % 65536))

/-- Strobes, dimming, diagnosis, faults and forward-voltage tests of an illumination channel (R275, R351, R352, R353,
R354, R355, R356, R357, R358, R359, R539). -/
def Obligations.LightChannels : Prop :=
  (∀ (n : Fin 8) (dt t0 : Nat) (rest : List Nat) (u : State) (s : State), s.ready → (s.lm n).strobes = t0 :: rest → s.lumThen n dt t0 = u → u.lumActs n ∧ u.lumChMode n = 2 →
    Answers (exec (.strobeStart n dt) s) fun t =>
      (t.lm n).strobes = rest ∧ (t.lm n).endAt = some (max (t0 + fineOf10ns (u.fld F.LUM_CH_STROBE_STROBE_W n)) ((u.lm n).endAt.getD 0)) ∧
      (t.lm n).level = u.fld F.LUM_CH_LEVEL_LEVEL n ∧ (t.lm n).carry = 0 ∧
      (u.lumFaulted n = false → lumKnee ≤ u.fld F.LUM_CH_LEVEL_LEVEL n → t.flag F.LUM_CH_STATUS_LIT n)) ∧
  (∀ (n : Fin 8) (dt e : Nat) (u : State) (s : State), s.ready → (s.lm n).endAt = some e → s.lumThen n dt e = u →
    Answers (exec (.strobeEnd n dt) s) fun t =>
      (t.lm n).endAt = none ∧ (t.lm n).carry = 0 ∧
      (u.lumChMode n = 2 → (u.lm n).vfAt = none → (u.lm n).diagAt = none → t.flag F.LUM_CH_STATUS_LIT n = false)) ∧
  (∀ (n : Fin 8) (dt on : Nat) (want : Int) (u : State) (s : State), s.ready → s.lumThen n dt (s.dimDue n) = u → u.lumLitTime n ∧ u.lumFaulted n = false → 0 < u.lumLevel n ∧ u.lumLevel n < lumKnee → (u.lumLevel n * u.dimPeriod n : Nat) + (u.lm n).carry = want → (if ((50 * lumKnee : Nat) : Int) ≤ want then min (u.dimPeriod n) ((want * 2 + lumKnee) / (2 * lumKnee)).toNat else 0) = on →
    Answers (exec (.dimPulse n dt) s) fun t =>
      (t.lm n).carry = want - (on * lumKnee : Nat) ∧ (t.lm n).dimAt = u.fine + u.dimPeriod n ∧
      ((u.lm n).diagAt = none → (u.lm n).endAt = none → 0 < on → Emits [.gatePulse n.val u.fine on] u t ∧ t.flag F.LUM_CH_STATUS_LIT n)) ∧
  (∀ (n : Fin 8) (dt : Nat) (im : BitVec 17) (uv : BitVec 22) (lim : Bool) (s : State), s.ready → s.flag F.LUM_CH_STATUS_LIT n ∧ (s.lm n).judged = false ∧ (s.lm n).gateEnd = none → s.lumChMode n ≠ 2 →
    Answers (exec (.diagWindow n dt im uv lim) s) fun t =>
      (t.lm n).judged ∧ (t.lm n).due = none ∧ (t.lm n).undiag = false ∧ t.fine = max (s.fine + dt) ((s.lm n).gateAt + 2500) ∧
      (2 * im.toNat < s.lumSet n → lim → t.fld F.LUM_CH_STATUS_DIAG n = 3 ∧ getBits (t.rd .LUM_CH_FAULT n) 0 1 = 1) ∧
      (s.vString n uv.toNat < s.fld F.LUM_CH_DIAG_VF_SHORT n → t.fld F.LUM_CH_STATUS_DIAG n = 3 ∧ getBits (t.rd .LUM_CH_FAULT n) 1 1 = 1) ∧
      (s.lumSet n ≤ 2 * im.toNat → s.fld F.LUM_CH_DIAG_VF_SHORT n ≤ s.vString n uv.toNat → t.fld F.LUM_CH_STATUS_DIAG n = 1)) ∧
  (∀ (n : Fin 8) (dt : Nat) (c : BitVec 18) (u : State) (s : State), s.ready → s.lumThen n dt (s.faultDue n) = u → u.mode ≠ modeOff ∧ u.mode ≠ modeLoad ∧ u.lumOn n →
    Answers (exec (.lightFault n dt c) s) fun t =>
      (u.flag F.LUM_CH_STATUS_LIT n → u.lumSet n * 5 < c.toNat * 4 ∨ 65536 * 11 < c.toNat * 10 →
        getBits (t.rd .LUM_CH_FAULT n) 2 1 = 1 ∧ t.flag F.LUM_CH_STATUS_LIT n = false) ∧
      (u.flag F.LUM_CH_STATUS_LIT n = false → 65536 * 2 < c.toNat * 100 → getBits (t.rd .LUM_CH_FAULT n) 3 1 = 1) ∧
      (u.flag F.LUM_CH_STATUS_LIT n → c.toNat * 4 ≤ u.lumSet n * 5 → c.toNat * 10 ≤ 65536 * 11 → t = u) ∧
      (u.flag F.LUM_CH_STATUS_LIT n = false → c.toNat * 100 ≤ 65536 * 2 → t = u)) ∧
  (∀ (who : Requester) (n : Fin 8) (bits persist : BitVec 4) (s : State), s.mayWrite who .LUM_CH_FAULT n →
    Answers (exec (.lightFaultClear who n bits persist) s) fun t =>
      t.rd .LUM_CH_FAULT n = s.rd .LUM_CH_FAULT n &&& ~~~((bits &&& ~~~persist).setWidth 32)) ∧
  (∀ (n : Fin 8) (dt : Nat) (s : State), s.ready → s.lumActs n ∧ (s.lm n).due = none →
    Answers (exec (.verdictDue n dt) s) fun t =>
      (t.lm n).due = some t.fine ∧ t.fine = max (s.fine + dt) ((s.lm n).diagLast + atLeast1 (s.fld F.LUM_CH_DIAG_DIAG_PERIOD n) * 1250000)) ∧
  (∀ (n : Fin 8) (dt t0 : Nat) (s : State), s.ready → s.lumActs n ∧ s.lumFaulted n = false ∧ (s.lm n).due.isSome ∧ (s.lm n).diagAt = none → (if s.lumChMode n = 1 ∨ s.fld F.LUM_CH_EXP_EXP_LEN n = 0 then some (s.fine + dt) else gapStart (s.fine + dt) (s.lm n).windows) = some t0 →
    Answers (exec (.diagPulse n dt) s) fun t =>
      t.fine = max (s.fine + dt) t0 ∧ (t.lm n).diagAt = some t.fine ∧ Emits [.gatePulse n.val t.fine 2500] s t ∧ t.flag F.LUM_CH_STATUS_LIT n) ∧
  (∀ (n : Fin 8) (dt d : Nat) (s : State), s.ready → (s.lm n).due = some d ∧ (s.lm n).undiag = false →
    Answers (exec (.undiagnosed n dt) s) fun t =>
      (t.lm n).undiag ∧ t.fld F.LUM_CH_STATUS_DIAG n = 2 ∧ Counted .LUM_CNT_UNDIAG n s t ∧ t.fine = max (s.fine + dt) (d + finePerSec)) ∧
  (∀ (who : Requester) (n : Fin 8) (s : State), s.mayWrite who .LUM_CH_CMD n → s.mode ≠ modeOff ∧ s.mode ≠ modeLoad →
    Answers (exec (.vfTest who n) s) fun t =>
      (s.lumChMode n ≠ 0 → t = s.setFld F.LUM_CH_STATUS_CMD_REFUSED 1 n) ∧
      (s.lumChMode n = 0 → s.lumOn n → (s.lm n).vfAt = none → (t.lm n).vfAt = some s.fine ∧ (s.lumFaulted n = false → t.flag F.LUM_CH_STATUS_LIT n))) ∧
  (∀ (dt : Nat) (s : State), s.ready → s.mode = modeIdle →
    Answers (exec (.vfPeriod dt) s) fun t =>
      t.fine = max (s.fine + dt) (s.proj.vfLast + atLeast1 (s.rd .LUM_VF_PERIOD).toNat * finePerSec) ∧ t.proj.vfLast = t.fine ∧
      ∀ n : Fin 8, s.flag F.LUM_CH_CFG_VF_EN n → s.lumOn n → (s.lm n).vfAt = none → (t.lm n).vfAt = some t.fine) ∧
  (∀ (n : Fin 8) (dt t0 k : Nat) (uv : BitVec 22) (s : State), (s.lm n).vfAt = some t0 → s.vString n uv.toNat = k →
    Answers (exec (.vfTestEnd n dt uv) s) fun t =>
      (t.lm n).vfAt = none ∧ (k < 0x10000 → t.fld F.LUM_CH_VF_VF_LAST n = k) ∧ t.fine = max (s.fine + dt) (t0 + 1250000) ∧
      (k < s.fld F.LUM_CH_VF_LIM_VF_MIN n ∨ s.fld F.LUM_CH_VF_LIM_VF_MAX n < k → t.flag F.LUM_CH_STATUS_VF_WARN n))

/-- Frames and lines of the matrix projector, its pixel test, and each instruction of the pattern sequencer (R352, R361,
R362, R363, R364, R365, R366, R367, R368, R370, R377). -/
def Obligations.ProjectorAndPatterns : Prop :=
  (∀ (who : Requester) (s : State), s.mayWrite who .LUM_PROJ_CMD 0 →
    Answers (exec (.projSwap who) s) fun t =>
      t = s.setFld F.LUM_PROJ_STATUS_SWAP_PENDING 1) ∧
  (∀ (dt : Nat) (s : State), s.scanning ∧ s.proj.line = none → (s.flag F.LUM_PROJ_CFG_SYNC_EN → s.proj.sync) →
    Answers (exec (.refreshFrameStart dt) s) fun t =>
      t.proj.line = some 0 ∧ t.proj.sync = false ∧ t.fine = max (s.fine + dt) s.proj.lineAt ∧ t.flag F.LUM_PROJ_STATUS_SWAP_PENDING = false ∧
      t.fld F.LUM_PROJ_STATUS_FRONT = (if s.flag F.LUM_PROJ_STATUS_SWAP_PENDING then 1 - s.fld F.LUM_PROJ_STATUS_FRONT else s.fld F.LUM_PROJ_STATUS_FRONT)) ∧
  (∀ (dt l : Nat) (s : State), s.proj.line = some l → s.scanning →
    Answers (exec (.scanLine dt) s) fun t =>
      t.proj.line = (if l + 1 < s.pMux then some (l + 1) else none) ∧ t.proj.lineAt = t.fine + s.lineTime ∧ t.fine = max (s.fine + dt) s.proj.lineAt ∧
      ∃ ps, Emits [.scanLine l ps] s t ∧ ps.length = 8 ∧ ∀ p < 8, ∀ k < 8, ∀ j < s.pLane,
        ((ps.getD (7 - p) []).getD k []).getD (s.pLane - 1 - j) false = natBit (s.lineValue l (k * s.pLane + j)) p) ∧
  (∀ (dt : Nat) (rising : Bool) (s : State), s.scanning → s.flag F.LUM_PROJ_CFG_SYNC_EN ∧ rising ≠ s.flag F.LUM_PROJ_CFG_SYNC_POL →
    Answers (exec (.projSync dt rising) s) fun t =>
      (s.proj.sync → Counted .LUM_CNT_SYNC_OVR 0 s t) ∧
      (s.proj.sync = false → s.proj.line = none → s.proj.lineAt ≤ s.fine + dt → t.proj.line = some 0 ∧ t.proj.sync = false) ∧
      (s.proj.sync = false → s.proj.line ≠ none ∨ s.fine + dt < s.proj.lineAt → t.proj.sync ∧ t.proj.line = s.proj.line)) ∧
  (∀ (who : Requester) (fb : Bool) (word : Fin 3072) (v : Word) (s : State), s.mayWrite who .LUM_PROJ_CFG 0 →
    Answers (exec (.frameBufferWrite who fb word v) s) fun t =>
      if fb = s.flag F.LUM_PROJ_STATUS_FRONT then t = s.bump .LUM_CNT_FRONT_WRITE else
      t = s.memWr (lumBase + (if fb then 0x14000 else 0x10000) + 4 * word.val) v ∧ t.memRd (lumBase + (if fb then 0x14000 else 0x10000) + 4 * word.val) = v) ∧
  (∀ (who : Requester) (word : Fin 384) (v : Word) (s : State), s.mayWrite who .LUM_PROJ_CFG 0 →
    Answers (exec (.defectMapWrite who word v) s) fun t =>
      t = s.memWr (lumBase + 0x18000 + 4 * word.val) v ∧ t.memRd (lumBase + 0x18000 + 4 * word.val) = v) ∧
  (∀ (who : Requester) (s : State), s.mayWrite who .LUM_PROJ_CMD 0 → s.mode ≠ modeOff ∧ s.mode ≠ modeLoad → s.flag F.LUM_PROJ_STATUS_TEST_RUN = false ∧ s.flag F.LUM_PROJ_CFG_ENABLE = false ∧ s.domOn 62 →
    Answers (exec (.pixTest who) s) fun t =>
      t.flag F.LUM_PROJ_STATUS_TEST_RUN ∧ t.proj.pix = 0 ∧ t.proj.pixAt = s.fine) ∧
  (∀ (dt c u k i : Nat) (s : State), s.flag F.LUM_PROJ_STATUS_TEST_RUN → s.proj.pix = k ∧ 96 * (k / s.pCols) + k % s.pCols = i →
    Answers (exec (.pixelJudge dt c u) s) fun t =>
      t.proj.pix = k + 1 ∧ t.fine = max (s.fine + dt) (s.proj.pixAt + 25000) ∧ t.proj.pixAt = t.fine ∧
      (t.flag F.LUM_PROJ_STATUS_TEST_RUN ↔ k + 1 < s.pRows * s.pCols) ∧
      (c < s.fld F.LUM_PROJ_TEST_PIX_I_MIN ∨ u < s.fld F.LUM_PROJ_TEST_PIX_VF_MIN → getBits (t.memRd (lumBase + 0x18000 + i / 32 * 4)) (i % 32) 1 = 1) ∧
      (c < s.fld F.LUM_PROJ_TEST_PIX_I_MIN → Counted .LUM_CNT_PIX_OPEN 0 s t) ∧ (u < s.fld F.LUM_PROJ_TEST_PIX_VF_MIN → Counted .LUM_CNT_PIX_SHORT 0 s t)) ∧
  (∀ (s : State), s.lseqIssues .done →
    Answers (exec (.lumSeqEnd) s) fun t =>
      t.flag F.LUM_PROJ_STATUS_SEQ_RUN = false ∧ t.proj.wait = .none ∧ t.proj.loop = none ∧ t.fld F.LUM_PROJ_STATUS_SEQ_ERR = s.fld F.LUM_PROJ_STATUS_SEQ_ERR) ∧
  (∀ (s : State), s.lseqIssues .reserved →
    Answers (exec (.lumSeqReserved) s) fun t =>
      t.flag F.LUM_PROJ_STATUS_SEQ_RUN = false ∧ t.proj.wait = .none ∧ t.proj.loop = none ∧ t.flag F.LUM_PROJ_STATUS_SEQ_ERR) ∧
  (∀ (n : Fin 8) (l : BitVec 16) (host : Bool) (s : State), s.lseqIssues (.level n l) →
    Answers (exec (.lumSeqLevel n l host) s) fun t =>
      t.fld F.LUM_CH_LEVEL_LEVEL n = (if host then s.fld F.LUM_CH_LEVEL_LEVEL n else l.toNat) ∧ s.lseqGoes t .none) ∧
  (∀ (mask : BitVec 8) (s : State), s.lseqIssues (.strobe mask) →
    Answers (exec (.lumSeqStrobe mask) s) fun t =>
      s.lseqGoes t .none ∧ ∀ n : Fin 8, (natBit mask.toNat n = false → t.lm n = s.lm n) ∧
      (natBit mask.toNat n → s.lumActs n → s.lumChMode n = 2 → s.strobeOn n s.fine = false → s.fld F.LUM_CH_STROBE_STROBE_W n ≠ 0 →
        (t.lm n).strobes = (s.lm n).strobes ++ [s.fine + fineOf10ns (s.fld F.LUM_CH_STROBE_STROBE_DLY n)])) ∧
  (∀ (slot : Fin 16) (s : State), s.lseqIssues (.loadpat slot) →
    Answers (exec (.loadpat slot) s) fun t =>
      s.lseqGoes t (.copy slot s.fine)) ∧
  (∀ (dt slot t0 : Nat) (s : State), s.proj.wait = .copy slot t0 ∧ slot < 16 → s.flag F.LUM_PROJ_STATUS_SWAP_PENDING = false →
    Answers (exec (.loadpatDone dt) s) fun t =>
      t.proj.wait = .none ∧ t.fine = max (s.fine + dt) (t0 + 15375) ∧ ∀ i < 3072,
      t.memRd (lumBase + (if s.flag F.LUM_PROJ_STATUS_FRONT then 0x10000 else 0x14000) + 4 * i) = s.memRd (lumBase + 0x20000 + 0x4000 * slot + 4 * i)) ∧
  (∀ (w : Bool) (s : State), s.lseqIssues (.swap w) →
    Answers (exec (.lumSeqSwap w) s) fun t =>
      t.flag F.LUM_PROJ_STATUS_SWAP_PENDING ∧ s.lseqGoes t (if w then .swap else .none)) ∧
  (∀ (task : Fin 4) (s : State), s.lseqIssues (.waithal task) →
    Answers (exec (.waithal task) s) fun t =>
      if (tblGet none s.proj.pend task.val).isSome then s.lseqGoes t .none ∧ tblGet none t.proj.pend task.val = none else s.lseqGoes t (.hal task)) ∧
  (∀ (us : BitVec 24) (s : State), s.lseqIssues (.waitus us) →
    Answers (exec (.waitus us) s) fun t =>
      s.lseqGoes t (.until (s.fine + fineOfUs us.toNat))) ∧
  (∀ (dt d : Nat) (s : State), s.proj.wait = .until d →
    Answers (exec (.waitusEnd dt) s) fun t =>
      t.proj.wait = .none ∧ t.fine = max (s.fine + dt) d ∧ t.proj.pc = s.proj.pc) ∧
  (∀ (code : BitVec 8) (s : State), s.lseqIssues (.event code) → producerPresent s.variant 0x1C8 ∧ s.flag F.HAL_PROD_BIND_EN 0x1C8 →
    Answers (exec (.lumSeqEvent code) s) fun t =>
      s.queued t (s.fld F.HAL_PROD_BIND_HALYARD 0x1C8) code 0 0x1C8 ∧ s.lseqGoes t .none) ∧
  (∀ (body : BitVec 10) (count : BitVec 16) (s : State), s.lseqIssues (.loop body count) →
    Answers (exec (.lumSeqLoop body count) s) fun t =>
      (s.proj.loop.isSome → t.flag F.LUM_PROJ_STATUS_SEQ_RUN = false ∧ t.flag F.LUM_PROJ_STATUS_SEQ_ERR) ∧
      (s.proj.loop = none → count = 0 ∨ body = 0 → t.proj.pc = s.proj.pc + 1 + body.toNat ∧ t.proj.loop = none) ∧
      (s.proj.loop = none → count ≠ 0 → body ≠ 0 → t.proj.pc = s.proj.pc + 1 ∧
        t.proj.loop = some ⟨s.proj.pc + 1, s.proj.pc + 1 + body.toNat, count.toNat⟩)) ∧
  (∀ (word : Fin 1024) (s : State), s.lseqIssues (.jump word) →
    Answers (exec (.lumSeqJump word) s) fun t =>
      t.proj.pc = word ∧ t.proj.loop = s.proj.loop ∧ t.proj.wait = .none ∧ t.fld F.LUM_PROJ_STATUS_WORD = word)
end

