-- ==== Sys2Proof/Laws/Ops.lean ====
section
/-!
SUPPORT. Laws of the sparse tables, of bit fields and of the register file: what a read returns after a write, and that
every write keeps the canonical form.
-/

namespace Sys2Proof.Machine

/-! ### Tables -/

section
variable {α : Type} [DecidableEq α] {d : α}

omit [DecidableEq α] in
theorem tblGet_erase_self (t : Tbl α) (k : Nat) : tblGet d (tblErase t k) k = d := by
  induction t with
  | nil => rfl
  | cons e t ih =>
    by_cases h : e.1 = k
    · simpa [tblErase, h] using ih
    · simpa [tblErase, h, tblGet] using ih

omit [DecidableEq α] in
theorem tblGet_erase_ne (t : Tbl α) {k k' : Nat} (h : k' ≠ k) : tblGet d (tblErase t k) k' = tblGet d t k' := by
  induction t with
  | nil => rfl
  | cons e t ih =>
    by_cases he : e.1 = k
    · have hk : e.1 ≠ k' := fun hh => h (hh.symm.trans he)
      simpa [tblErase, he, tblGet, hk, h.symm] using ih
    · by_cases hk : e.1 = k'
      · simp [tblErase, tblGet, hk, h]
      · simpa [tblErase, he, tblGet, hk] using ih

omit [DecidableEq α] in
theorem tblGet_insert_self (t : Tbl α) (k : Nat) (v : α) (h : ∀ e ∈ t, e.1 ≠ k) :
    tblGet d (tblInsert t k v) k = v := by
  induction t with
  | nil => simp [tblInsert, tblGet]
  | cons e t ih =>
    unfold tblInsert
    split
    · simp [tblGet]
    · simpa [tblGet, h e (by simp)] using ih (fun f hf => h f (by simp [hf]))

omit [DecidableEq α] in
theorem tblGet_insert_ne (t : Tbl α) {k k' : Nat} (v : α) (h : k' ≠ k) :
    tblGet d (tblInsert t k v) k' = tblGet d t k' := by
  induction t with
  | nil => simp [tblInsert, tblGet, h.symm]
  | cons e t ih =>
    unfold tblInsert
    split
    · simp [tblGet, h.symm]
    · simp [tblGet, ih]

omit [DecidableEq α] in
theorem mem_tblErase {t : Tbl α} {k : Nat} {e : Nat × α} (h : e ∈ tblErase t k) : e ∈ t ∧ e.1 ≠ k := by
  simpa [tblErase] using h

/-- Reading a table after writing it. -/
theorem tblGet_set (t : Tbl α) (k k' : Nat) (v : α) :
    tblGet d (tblSet d t k v) k' = if k' = k then v else tblGet d t k' := by
  by_cases h : k' = k
  · subst h
    unfold tblSet
    split
    · rename_i hv; simp [tblGet_erase_self, hv]
    · simp only [if_true]
      exact tblGet_insert_self _ _ _ (fun e he => (mem_tblErase he).2)
  · unfold tblSet
    split
    · simp [tblGet_erase_ne t h]
    · simp [tblGet_insert_ne _ v h, tblGet_erase_ne t h]

@[simp] theorem tblGet_set_self (t : Tbl α) (k : Nat) (v : α) : tblGet d (tblSet d t k v) k = v := by
  simp [tblGet_set]

theorem tblGet_set_ne (t : Tbl α) {k k' : Nat} (v : α) (h : k' ≠ k) :
    tblGet d (tblSet d t k v) k' = tblGet d t k' := by
  simp [tblGet_set, h]

omit [DecidableEq α] in
@[simp] theorem tblGet_nil (k : Nat) : tblGet d [] k = d := rfl

/-! The canonical form. -/

theorem tblWf_iff (t : Tbl α) :
    tblWf d t = true ↔ (∀ e ∈ t, e.2 ≠ d) ∧ t.Pairwise (fun a b => a.1 < b.1) := by
  induction t with
  | nil => simp [tblWf]
  | cons e t ih =>
    cases t with
    | nil => simp [tblWf]
    | cons f t =>
      rw [tblWf, Bool.and_eq_true, Bool.and_eq_true, ih, List.pairwise_cons (a := e)]
      constructor
      · rintro ⟨⟨h1, h2⟩, h3, h4⟩
        refine ⟨?_, ?_, h4⟩
        · intro x hx
          rcases List.mem_cons.1 hx with rfl | hx
          · simpa using h1
          · exact h3 x hx
        · intro x hx
          have h2 : e.1 < f.1 := by simpa using h2
          rcases List.mem_cons.1 hx with rfl | hx
          · exact h2
          · exact lt_trans h2 ((List.pairwise_cons.1 h4).1 x hx)
      · rintro ⟨h1, h2, h3⟩
        exact ⟨⟨by simpa using h1 e (by simp), by simpa using h2 f (by simp)⟩,
          fun x hx => h1 x (by simp [hx]), h3⟩

omit [DecidableEq α] in
theorem mem_tblInsert {t : Tbl α} {k : Nat} {v : α} {e : Nat × α} (h : e ∈ tblInsert t k v) :
    e = (k, v) ∨ e ∈ t := by
  induction t with
  | nil => simpa [tblInsert] using h
  | cons f t ih =>
    unfold tblInsert at h
    split at h
    · simpa using h
    · rcases List.mem_cons.1 h with rfl | h
      · simp
      · rcases ih h with h | h <;> simp [h]

omit [DecidableEq α] in
theorem tblInsert_pairwise {t : Tbl α} {k : Nat} {v : α} (h : t.Pairwise (fun a b => a.1 < b.1))
    (hk : ∀ e ∈ t, e.1 ≠ k) : (tblInsert t k v).Pairwise (fun a b => a.1 < b.1) := by
  induction t with
  | nil => simp [tblInsert]
  | cons f t ih =>
    have hp := List.pairwise_cons.1 h
    unfold tblInsert
    split
    · rename_i hlt
      refine List.pairwise_cons.2 ⟨?_, h⟩
      intro e he
      rcases List.mem_cons.1 he with rfl | he
      · exact hlt
      · exact lt_trans hlt (hp.1 e he)
    · rename_i hlt
      refine List.pairwise_cons.2 ⟨?_, ih hp.2 (fun e he => hk e (by simp [he]))⟩
      intro e he
      rcases mem_tblInsert he with rfl | he
      · have := hk f (by simp)
        simp only
        omega
      · exact hp.1 e he

/-- A write keeps the canonical form. -/
theorem tblSet_wf {t : Tbl α} (k : Nat) (v : α) (h : tblWf d t = true) : tblWf d (tblSet d t k v) = true := by
  rw [tblWf_iff] at h ⊢
  have hp : (tblErase t k).Pairwise (fun a b => a.1 < b.1) := h.2.filter _
  have hd : ∀ e ∈ tblErase t k, e.2 ≠ d := fun e he => h.1 e (mem_tblErase he).1
  unfold tblSet
  split
  · exact ⟨hd, hp⟩
  · rename_i hv
    refine ⟨?_, tblInsert_pairwise hp (fun e he => (mem_tblErase he).2)⟩
    intro e he
    rcases mem_tblInsert he with rfl | he
    · exact hv
    · exact hd e he

/-- A write of several values keeps the canonical form. -/
theorem tblSetList_wf (vs : List α) {t : Tbl α} (k : Nat) (h : tblWf d t = true) :
    tblWf d (tblSetList d t k vs) = true := by
  induction vs generalizing t k with
  | nil => exact h
  | cons v vs ih => exact ih (k + 1) (tblSet_wf k v h)

/-- Reading a table after writing several values. -/
theorem tblGet_setList (vs : List α) (t : Tbl α) (k k' : Nat) :
    tblGet d (tblSetList d t k vs) k' = if h : k ≤ k' ∧ k' - k < vs.length then vs[k' - k]'h.2 else tblGet d t k' := by
  induction vs generalizing t k with
  | nil => simp [tblSetList]
  | cons v vs ih =>
    rw [tblSetList, ih, tblGet_set]
    by_cases h0 : k' = k
    · subst h0; simp
    · by_cases h1 : k + 1 ≤ k' ∧ k' - (k + 1) < vs.length
      · have h2 : k ≤ k' ∧ k' - k < (v :: vs).length := by simp; omega
        have h3 : k' - k = (k' - (k + 1)) + 1 := by omega
        rw [dif_pos h1, dif_pos h2]
        simp [h3]
      · have h2 : ¬ (k ≤ k' ∧ k' - k < (v :: vs).length) := by simp at h1 ⊢; omega
        rw [dif_neg h1, dif_neg h2, if_neg h0]

end

/-! ### Registers -/

theorem Reg.ctorIdx_inj {r r' : Reg} (h : r.ctorIdx = r'.ctorIdx) : r = r' := by
  have h1 := Reg.ofNat_ctorIdx r
  rw [h, Reg.ofNat_ctorIdx] at h1
  exact h1.symm

/-- Different instances lie under different keys. -/
theorem Reg.key_eq_iff {r r' : Reg} {i j i' j' : Nat} : r.key i j = r'.key i' j' ↔ r = r' ∧ i = i' ∧ j = j' := by
  constructor
  · intro h
    obtain ⟨h1, h2⟩ := Nat.pair_eq_pair.1 h
    obtain ⟨h3, h4⟩ := Nat.pair_eq_pair.1 h2
    exact ⟨Reg.ctorIdx_inj h1, h3, h4⟩
  · rintro ⟨rfl, rfl, rfl⟩; rfl

/-- Reading a register after writing one. -/
theorem State.rd_wr (s : State) (r r' : Reg) (v : Word) (i j i' j' : Nat) :
    (s.wr r v i j).rd r' i' j' = if r' = r ∧ i' = i ∧ j' = j then v else s.rd r' i' j' := by
  unfold State.rd State.wr
  by_cases h : r' = r ∧ i' = i ∧ j' = j
  · obtain ⟨rfl, rfl, rfl⟩ := h
    simp
  · have hk : r'.key i' j' ≠ r.key i j := fun hh => h (Reg.key_eq_iff.1 hh)
    simp only [if_neg h]
    have aux : ∀ (d d' : Word) (t : Tbl Word) (v : Word) (k k' : Nat), k' ≠ k →
        tblGet d' (tblSet d t k v) k' = tblGet d' t k' := by
      intro d d' t v k k' hne
      unfold tblSet
      split
      · exact tblGet_erase_ne t hne
      · rw [tblGet_insert_ne _ v hne, tblGet_erase_ne t hne]
    exact aux _ _ _ _ _ _ hk

@[simp] theorem State.rd_wr_self (s : State) (r : Reg) (v : Word) (i j : Nat) : (s.wr r v i j).rd r i j = v := by
  simp [State.rd_wr]

/-! ### Bit fields -/

theorem maskBits_getLsbD (lo width k : Nat) (hk : k < 32) :
    (maskBits lo width).getLsbD k = decide (lo ≤ k ∧ k < lo + width) := by
  unfold maskBits
  simp only [BitVec.getLsbD_ofNat, hk, decide_true, Bool.true_and, Nat.testBit_shiftLeft, ge_iff_le,
    Nat.testBit_two_pow_sub_one]
  by_cases h : lo ≤ k
  · simp [h]; omega
  · simp [h]

/-- Bit `k` of a word with a field put into it. -/
theorem putBits_getLsbD (w : Word) (lo width v k : Nat) (hk : k < 32) :
    (putBits w lo width v).getLsbD k = if lo ≤ k ∧ k < lo + width then v.testBit (k - lo) else w.getLsbD k := by
  unfold putBits
  rw [BitVec.getLsbD_or, BitVec.getLsbD_and, BitVec.getLsbD_not, maskBits_getLsbD lo width k hk]
  simp only [BitVec.getLsbD_ofNat, hk, decide_true, Bool.true_and, Nat.testBit_shiftLeft, ge_iff_le, Nat.testBit_mod_two_pow]
  by_cases h : lo ≤ k ∧ k < lo + width
  · have h2 : k - lo < width := by omega
    simp [h, h2]
  · by_cases h1 : lo ≤ k
    · have h2 : ¬ k - lo < width := by omega
      have h3 : ¬ k < lo + width := by omega
      simp [h1, h2, h3]
    · simp [h1]

theorem getBits_testBit (w : Word) (lo width k : Nat) :
    (getBits w lo width).testBit k = (decide (k < width) && w.getLsbD (lo + k)) := by
  simp [getBits, Nat.testBit_mod_two_pow, Nat.testBit_shiftRight, BitVec.getLsbD]

theorem getBits_lt (w : Word) (lo width : Nat) : getBits w lo width < 2 ^ width := Nat.mod_lt _ (by positivity)

/-- A field reads back what was put into it. -/
theorem getBits_putBits_self (w : Word) {lo width : Nat} (v : Nat) (h : lo + width ≤ 32) :
    getBits (putBits w lo width v) lo width = v % 2 ^ width := by
  apply Nat.eq_of_testBit_eq
  intro k
  rw [getBits_testBit, Nat.testBit_mod_two_pow]
  by_cases hk : k < width
  · rw [putBits_getLsbD _ _ _ _ _ (by omega)]
    have h2 : lo ≤ lo + k ∧ lo + k < lo + width := by omega
    simp [hk]
  · simp [hk]

/-- A field keeps its value when a disjoint one is put. -/
theorem getBits_putBits_ne (w : Word) {lo width lo' width' : Nat} (v : Nat) (h' : lo' + width' ≤ 32)
    (hd : lo' + width' ≤ lo ∨ lo + width ≤ lo') :
    getBits (putBits w lo width v) lo' width' = getBits w lo' width' := by
  apply Nat.eq_of_testBit_eq
  intro k
  rw [getBits_testBit, getBits_testBit]
  by_cases hk : k < width'
  · rw [putBits_getLsbD _ _ _ _ _ (by omega)]
    have h2 : ¬ (lo ≤ lo' + k ∧ lo' + k < lo + width) := by omega
    simp [hk, h2]
  · simp [hk]

/-- Reading a field after setting one: the same field of the same instance reads what was set. -/
theorem State.fld_setFld_self (s : State) {f : Fld} (v i j : Nat) (h : f.lo + f.width ≤ 32) :
    (s.setFld f v i j).fld f i j = v % 2 ^ f.width := by
  unfold State.fld State.setFld
  rw [State.rd_wr_self, getBits_putBits_self _ _ h]

/-- A field of another register, of another instance, or beside the one set, keeps its value. -/
theorem State.fld_setFld_ne (s : State) {f g : Fld} (v i j i' j' : Nat) (hg : g.lo + g.width ≤ 32)
    (h : g.reg ≠ f.reg ∨ i' ≠ i ∨ j' ≠ j ∨ g.lo + g.width ≤ f.lo ∨ f.lo + f.width ≤ g.lo) :
    (s.setFld f v i j).fld g i' j' = s.fld g i' j' := by
  unfold State.fld State.setFld
  rw [State.rd_wr]
  split
  · rename_i hc
    obtain ⟨h1, rfl, rfl⟩ := hc
    rw [getBits_putBits_ne _ _ hg (by simpa [h1] using h), h1]
  · rfl

/-- A field of a register after a whole register has been written. -/
theorem State.fld_wr (s : State) (r : Reg) (v : Word) (g : Fld) (i j i' j' : Nat) :
    (s.wr r v i j).fld g i' j' = if g.reg = r ∧ i' = i ∧ j' = j then getBits v g.lo g.width else s.fld g i' j' := by
  unfold State.fld
  rw [State.rd_wr]
  split <;> rfl

/-- A register after a field has been set. -/
theorem State.rd_setFld (s : State) (f : Fld) (v : Nat) (r : Reg) (i j i' j' : Nat) :
    (s.setFld f v i j).rd r i' j' =
      if r = f.reg ∧ i' = i ∧ j' = j then putBits (s.rd f.reg i j) f.lo f.width v else s.rd r i' j' := by
  unfold State.setFld
  rw [State.rd_wr]

/-- A saturating counter. -/
theorem State.rd_bumpBy (s : State) (r r' : Reg) (n i j i' j' : Nat) :
    (s.bumpBy r n i j).rd r' i' j' =
      if r' = r ∧ i' = i ∧ j' = j then BitVec.ofNat 32 (min ((s.rd r i j).toNat + n) 0xFFFFFFFF) else s.rd r' i' j' := by
  unfold State.bumpBy
  rw [State.rd_wr]

/-! ### The BAR0 memories -/

/-- Reading a word of a unit memory after writing one. -/
theorem State.memRd_memWr (s : State) (a a' : Nat) (v : Word) :
    (s.memWr a v).memRd a' = if a' = a then v else s.memRd a' := by
  unfold State.memRd State.memWr
  by_cases h : a' = a
  · subst h; simp
  · simp only [if_neg h]
    unfold tblSet
    split
    · exact tblGet_erase_ne _ h
    · rw [tblGet_insert_ne _ v h, tblGet_erase_ne _ h]

end Sys2Proof.Machine
end

