-- ==== Sys2Proof/Laws/State.lean ====
section
/-!
SUPPORT. What each shared update leaves alone: one lemma for each field and update, true by unfolding, and how a register
is read through an update of any other field.
-/

namespace Sys2Proof.Machine

/-- A register read in a state given by its fields. -/
theorem State.rd_mk (variant fuse fine regs bar0 staged outbox freeCtr lnk port cap capt mst sht bch beams scn cal lum proj hal pce dma que fst ses boot tim enc ssi helm pwr pending) (r : Reg) (i j : Nat) :
    State.rd (State.mk variant fuse fine regs bar0 staged outbox freeCtr lnk port cap capt mst sht bch beams scn cal lum proj hal pce dma que fst ses boot tim enc ssi helm pwr pending) r i j =
      tblGet (r.resetAt j) regs (r.key i j) := rfl

/-- A lookup in the register file is a read. -/
theorem State.rd_fold (s : State) (r : Reg) (i j : Nat) : tblGet (r.resetAt j) s.regs (r.key i j) = s.rd r i j := rfl

@[simp] theorem State.variant_wr (s : State) (r : Reg) (v : Word) (i j : Nat) : (s.wr r v i j).variant = s.variant := rfl
@[simp] theorem State.fuse_wr (s : State) (r : Reg) (v : Word) (i j : Nat) : (s.wr r v i j).fuse = s.fuse := rfl
@[simp] theorem State.fine_wr (s : State) (r : Reg) (v : Word) (i j : Nat) : (s.wr r v i j).fine = s.fine := rfl
@[simp] theorem State.bar0_wr (s : State) (r : Reg) (v : Word) (i j : Nat) : (s.wr r v i j).bar0 = s.bar0 := rfl
@[simp] theorem State.staged_wr (s : State) (r : Reg) (v : Word) (i j : Nat) : (s.wr r v i j).staged = s.staged := rfl
@[simp] theorem State.outbox_wr (s : State) (r : Reg) (v : Word) (i j : Nat) : (s.wr r v i j).outbox = s.outbox := rfl
@[simp] theorem State.freeCtr_wr (s : State) (r : Reg) (v : Word) (i j : Nat) : (s.wr r v i j).freeCtr = s.freeCtr := rfl
@[simp] theorem State.lnk_wr (s : State) (r : Reg) (v : Word) (i j : Nat) : (s.wr r v i j).lnk = s.lnk := rfl
@[simp] theorem State.port_wr (s : State) (r : Reg) (v : Word) (i j : Nat) : (s.wr r v i j).port = s.port := rfl
@[simp] theorem State.cap_wr (s : State) (r : Reg) (v : Word) (i j : Nat) : (s.wr r v i j).cap = s.cap := rfl
@[simp] theorem State.capt_wr (s : State) (r : Reg) (v : Word) (i j : Nat) : (s.wr r v i j).capt = s.capt := rfl
@[simp] theorem State.mst_wr (s : State) (r : Reg) (v : Word) (i j : Nat) : (s.wr r v i j).mst = s.mst := rfl
@[simp] theorem State.sht_wr (s : State) (r : Reg) (v : Word) (i j : Nat) : (s.wr r v i j).sht = s.sht := rfl
@[simp] theorem State.bch_wr (s : State) (r : Reg) (v : Word) (i j : Nat) : (s.wr r v i j).bch = s.bch := rfl
@[simp] theorem State.beams_wr (s : State) (r : Reg) (v : Word) (i j : Nat) : (s.wr r v i j).beams = s.beams := rfl
@[simp] theorem State.scn_wr (s : State) (r : Reg) (v : Word) (i j : Nat) : (s.wr r v i j).scn = s.scn := rfl
@[simp] theorem State.cal_wr (s : State) (r : Reg) (v : Word) (i j : Nat) : (s.wr r v i j).cal = s.cal := rfl
@[simp] theorem State.lum_wr (s : State) (r : Reg) (v : Word) (i j : Nat) : (s.wr r v i j).lum = s.lum := rfl
@[simp] theorem State.proj_wr (s : State) (r : Reg) (v : Word) (i j : Nat) : (s.wr r v i j).proj = s.proj := rfl
@[simp] theorem State.hal_wr (s : State) (r : Reg) (v : Word) (i j : Nat) : (s.wr r v i j).hal = s.hal := rfl
@[simp] theorem State.pce_wr (s : State) (r : Reg) (v : Word) (i j : Nat) : (s.wr r v i j).pce = s.pce := rfl
@[simp] theorem State.dma_wr (s : State) (r : Reg) (v : Word) (i j : Nat) : (s.wr r v i j).dma = s.dma := rfl
@[simp] theorem State.que_wr (s : State) (r : Reg) (v : Word) (i j : Nat) : (s.wr r v i j).que = s.que := rfl
@[simp] theorem State.fst_wr (s : State) (r : Reg) (v : Word) (i j : Nat) : (s.wr r v i j).fst = s.fst := rfl
@[simp] theorem State.ses_wr (s : State) (r : Reg) (v : Word) (i j : Nat) : (s.wr r v i j).ses = s.ses := rfl
@[simp] theorem State.boot_wr (s : State) (r : Reg) (v : Word) (i j : Nat) : (s.wr r v i j).boot = s.boot := rfl
@[simp] theorem State.tim_wr (s : State) (r : Reg) (v : Word) (i j : Nat) : (s.wr r v i j).tim = s.tim := rfl
@[simp] theorem State.enc_wr (s : State) (r : Reg) (v : Word) (i j : Nat) : (s.wr r v i j).enc = s.enc := rfl
@[simp] theorem State.ssi_wr (s : State) (r : Reg) (v : Word) (i j : Nat) : (s.wr r v i j).ssi = s.ssi := rfl
@[simp] theorem State.helm_wr (s : State) (r : Reg) (v : Word) (i j : Nat) : (s.wr r v i j).helm = s.helm := rfl
@[simp] theorem State.pwr_wr (s : State) (r : Reg) (v : Word) (i j : Nat) : (s.wr r v i j).pwr = s.pwr := rfl
@[simp] theorem State.pending_wr (s : State) (r : Reg) (v : Word) (i j : Nat) : (s.wr r v i j).pending = s.pending := rfl

@[simp] theorem State.variant_setFld (s : State) (f : Fld) (v i j : Nat) : (s.setFld f v i j).variant = s.variant := rfl
@[simp] theorem State.fuse_setFld (s : State) (f : Fld) (v i j : Nat) : (s.setFld f v i j).fuse = s.fuse := rfl
@[simp] theorem State.fine_setFld (s : State) (f : Fld) (v i j : Nat) : (s.setFld f v i j).fine = s.fine := rfl
@[simp] theorem State.bar0_setFld (s : State) (f : Fld) (v i j : Nat) : (s.setFld f v i j).bar0 = s.bar0 := rfl
@[simp] theorem State.staged_setFld (s : State) (f : Fld) (v i j : Nat) : (s.setFld f v i j).staged = s.staged := rfl
@[simp] theorem State.outbox_setFld (s : State) (f : Fld) (v i j : Nat) : (s.setFld f v i j).outbox = s.outbox := rfl
@[simp] theorem State.freeCtr_setFld (s : State) (f : Fld) (v i j : Nat) : (s.setFld f v i j).freeCtr = s.freeCtr := rfl
@[simp] theorem State.lnk_setFld (s : State) (f : Fld) (v i j : Nat) : (s.setFld f v i j).lnk = s.lnk := rfl
@[simp] theorem State.port_setFld (s : State) (f : Fld) (v i j : Nat) : (s.setFld f v i j).port = s.port := rfl
@[simp] theorem State.cap_setFld (s : State) (f : Fld) (v i j : Nat) : (s.setFld f v i j).cap = s.cap := rfl
@[simp] theorem State.capt_setFld (s : State) (f : Fld) (v i j : Nat) : (s.setFld f v i j).capt = s.capt := rfl
@[simp] theorem State.mst_setFld (s : State) (f : Fld) (v i j : Nat) : (s.setFld f v i j).mst = s.mst := rfl
@[simp] theorem State.sht_setFld (s : State) (f : Fld) (v i j : Nat) : (s.setFld f v i j).sht = s.sht := rfl
@[simp] theorem State.bch_setFld (s : State) (f : Fld) (v i j : Nat) : (s.setFld f v i j).bch = s.bch := rfl
@[simp] theorem State.beams_setFld (s : State) (f : Fld) (v i j : Nat) : (s.setFld f v i j).beams = s.beams := rfl
@[simp] theorem State.scn_setFld (s : State) (f : Fld) (v i j : Nat) : (s.setFld f v i j).scn = s.scn := rfl
@[simp] theorem State.cal_setFld (s : State) (f : Fld) (v i j : Nat) : (s.setFld f v i j).cal = s.cal := rfl
@[simp] theorem State.lum_setFld (s : State) (f : Fld) (v i j : Nat) : (s.setFld f v i j).lum = s.lum := rfl
@[simp] theorem State.proj_setFld (s : State) (f : Fld) (v i j : Nat) : (s.setFld f v i j).proj = s.proj := rfl
@[simp] theorem State.hal_setFld (s : State) (f : Fld) (v i j : Nat) : (s.setFld f v i j).hal = s.hal := rfl
@[simp] theorem State.pce_setFld (s : State) (f : Fld) (v i j : Nat) : (s.setFld f v i j).pce = s.pce := rfl
@[simp] theorem State.dma_setFld (s : State) (f : Fld) (v i j : Nat) : (s.setFld f v i j).dma = s.dma := rfl
@[simp] theorem State.que_setFld (s : State) (f : Fld) (v i j : Nat) : (s.setFld f v i j).que = s.que := rfl
@[simp] theorem State.fst_setFld (s : State) (f : Fld) (v i j : Nat) : (s.setFld f v i j).fst = s.fst := rfl
@[simp] theorem State.ses_setFld (s : State) (f : Fld) (v i j : Nat) : (s.setFld f v i j).ses = s.ses := rfl
@[simp] theorem State.boot_setFld (s : State) (f : Fld) (v i j : Nat) : (s.setFld f v i j).boot = s.boot := rfl
@[simp] theorem State.tim_setFld (s : State) (f : Fld) (v i j : Nat) : (s.setFld f v i j).tim = s.tim := rfl
@[simp] theorem State.enc_setFld (s : State) (f : Fld) (v i j : Nat) : (s.setFld f v i j).enc = s.enc := rfl
@[simp] theorem State.ssi_setFld (s : State) (f : Fld) (v i j : Nat) : (s.setFld f v i j).ssi = s.ssi := rfl
@[simp] theorem State.helm_setFld (s : State) (f : Fld) (v i j : Nat) : (s.setFld f v i j).helm = s.helm := rfl
@[simp] theorem State.pwr_setFld (s : State) (f : Fld) (v i j : Nat) : (s.setFld f v i j).pwr = s.pwr := rfl
@[simp] theorem State.pending_setFld (s : State) (f : Fld) (v i j : Nat) : (s.setFld f v i j).pending = s.pending := rfl

@[simp] theorem State.variant_bumpBy (s : State) (r : Reg) (n i j : Nat) : (s.bumpBy r n i j).variant = s.variant := rfl
@[simp] theorem State.fuse_bumpBy (s : State) (r : Reg) (n i j : Nat) : (s.bumpBy r n i j).fuse = s.fuse := rfl
@[simp] theorem State.fine_bumpBy (s : State) (r : Reg) (n i j : Nat) : (s.bumpBy r n i j).fine = s.fine := rfl
@[simp] theorem State.bar0_bumpBy (s : State) (r : Reg) (n i j : Nat) : (s.bumpBy r n i j).bar0 = s.bar0 := rfl
@[simp] theorem State.staged_bumpBy (s : State) (r : Reg) (n i j : Nat) : (s.bumpBy r n i j).staged = s.staged := rfl
@[simp] theorem State.outbox_bumpBy (s : State) (r : Reg) (n i j : Nat) : (s.bumpBy r n i j).outbox = s.outbox := rfl
@[simp] theorem State.freeCtr_bumpBy (s : State) (r : Reg) (n i j : Nat) : (s.bumpBy r n i j).freeCtr = s.freeCtr := rfl
@[simp] theorem State.lnk_bumpBy (s : State) (r : Reg) (n i j : Nat) : (s.bumpBy r n i j).lnk = s.lnk := rfl
@[simp] theorem State.port_bumpBy (s : State) (r : Reg) (n i j : Nat) : (s.bumpBy r n i j).port = s.port := rfl
@[simp] theorem State.cap_bumpBy (s : State) (r : Reg) (n i j : Nat) : (s.bumpBy r n i j).cap = s.cap := rfl
@[simp] theorem State.capt_bumpBy (s : State) (r : Reg) (n i j : Nat) : (s.bumpBy r n i j).capt = s.capt := rfl
@[simp] theorem State.mst_bumpBy (s : State) (r : Reg) (n i j : Nat) : (s.bumpBy r n i j).mst = s.mst := rfl
@[simp] theorem State.sht_bumpBy (s : State) (r : Reg) (n i j : Nat) : (s.bumpBy r n i j).sht = s.sht := rfl
@[simp] theorem State.bch_bumpBy (s : State) (r : Reg) (n i j : Nat) : (s.bumpBy r n i j).bch = s.bch := rfl
@[simp] theorem State.beams_bumpBy (s : State) (r : Reg) (n i j : Nat) : (s.bumpBy r n i j).beams = s.beams := rfl
@[simp] theorem State.scn_bumpBy (s : State) (r : Reg) (n i j : Nat) : (s.bumpBy r n i j).scn = s.scn := rfl
@[simp] theorem State.cal_bumpBy (s : State) (r : Reg) (n i j : Nat) : (s.bumpBy r n i j).cal = s.cal := rfl
@[simp] theorem State.lum_bumpBy (s : State) (r : Reg) (n i j : Nat) : (s.bumpBy r n i j).lum = s.lum := rfl
@[simp] theorem State.proj_bumpBy (s : State) (r : Reg) (n i j : Nat) : (s.bumpBy r n i j).proj = s.proj := rfl
@[simp] theorem State.hal_bumpBy (s : State) (r : Reg) (n i j : Nat) : (s.bumpBy r n i j).hal = s.hal := rfl
@[simp] theorem State.pce_bumpBy (s : State) (r : Reg) (n i j : Nat) : (s.bumpBy r n i j).pce = s.pce := rfl
@[simp] theorem State.dma_bumpBy (s : State) (r : Reg) (n i j : Nat) : (s.bumpBy r n i j).dma = s.dma := rfl
@[simp] theorem State.que_bumpBy (s : State) (r : Reg) (n i j : Nat) : (s.bumpBy r n i j).que = s.que := rfl
@[simp] theorem State.fst_bumpBy (s : State) (r : Reg) (n i j : Nat) : (s.bumpBy r n i j).fst = s.fst := rfl
@[simp] theorem State.ses_bumpBy (s : State) (r : Reg) (n i j : Nat) : (s.bumpBy r n i j).ses = s.ses := rfl
@[simp] theorem State.boot_bumpBy (s : State) (r : Reg) (n i j : Nat) : (s.bumpBy r n i j).boot = s.boot := rfl
@[simp] theorem State.tim_bumpBy (s : State) (r : Reg) (n i j : Nat) : (s.bumpBy r n i j).tim = s.tim := rfl
@[simp] theorem State.enc_bumpBy (s : State) (r : Reg) (n i j : Nat) : (s.bumpBy r n i j).enc = s.enc := rfl
@[simp] theorem State.ssi_bumpBy (s : State) (r : Reg) (n i j : Nat) : (s.bumpBy r n i j).ssi = s.ssi := rfl
@[simp] theorem State.helm_bumpBy (s : State) (r : Reg) (n i j : Nat) : (s.bumpBy r n i j).helm = s.helm := rfl
@[simp] theorem State.pwr_bumpBy (s : State) (r : Reg) (n i j : Nat) : (s.bumpBy r n i j).pwr = s.pwr := rfl
@[simp] theorem State.pending_bumpBy (s : State) (r : Reg) (n i j : Nat) : (s.bumpBy r n i j).pending = s.pending := rfl

@[simp] theorem State.variant_bump (s : State) (r : Reg) (i j : Nat) : (s.bump r i j).variant = s.variant := rfl
@[simp] theorem State.fuse_bump (s : State) (r : Reg) (i j : Nat) : (s.bump r i j).fuse = s.fuse := rfl
@[simp] theorem State.fine_bump (s : State) (r : Reg) (i j : Nat) : (s.bump r i j).fine = s.fine := rfl
@[simp] theorem State.bar0_bump (s : State) (r : Reg) (i j : Nat) : (s.bump r i j).bar0 = s.bar0 := rfl
@[simp] theorem State.staged_bump (s : State) (r : Reg) (i j : Nat) : (s.bump r i j).staged = s.staged := rfl
@[simp] theorem State.outbox_bump (s : State) (r : Reg) (i j : Nat) : (s.bump r i j).outbox = s.outbox := rfl
@[simp] theorem State.freeCtr_bump (s : State) (r : Reg) (i j : Nat) : (s.bump r i j).freeCtr = s.freeCtr := rfl
@[simp] theorem State.lnk_bump (s : State) (r : Reg) (i j : Nat) : (s.bump r i j).lnk = s.lnk := rfl
@[simp] theorem State.port_bump (s : State) (r : Reg) (i j : Nat) : (s.bump r i j).port = s.port := rfl
@[simp] theorem State.cap_bump (s : State) (r : Reg) (i j : Nat) : (s.bump r i j).cap = s.cap := rfl
@[simp] theorem State.capt_bump (s : State) (r : Reg) (i j : Nat) : (s.bump r i j).capt = s.capt := rfl
@[simp] theorem State.mst_bump (s : State) (r : Reg) (i j : Nat) : (s.bump r i j).mst = s.mst := rfl
@[simp] theorem State.sht_bump (s : State) (r : Reg) (i j : Nat) : (s.bump r i j).sht = s.sht := rfl
@[simp] theorem State.bch_bump (s : State) (r : Reg) (i j : Nat) : (s.bump r i j).bch = s.bch := rfl
@[simp] theorem State.beams_bump (s : State) (r : Reg) (i j : Nat) : (s.bump r i j).beams = s.beams := rfl
@[simp] theorem State.scn_bump (s : State) (r : Reg) (i j : Nat) : (s.bump r i j).scn = s.scn := rfl
@[simp] theorem State.cal_bump (s : State) (r : Reg) (i j : Nat) : (s.bump r i j).cal = s.cal := rfl
@[simp] theorem State.lum_bump (s : State) (r : Reg) (i j : Nat) : (s.bump r i j).lum = s.lum := rfl
@[simp] theorem State.proj_bump (s : State) (r : Reg) (i j : Nat) : (s.bump r i j).proj = s.proj := rfl
@[simp] theorem State.hal_bump (s : State) (r : Reg) (i j : Nat) : (s.bump r i j).hal = s.hal := rfl
@[simp] theorem State.pce_bump (s : State) (r : Reg) (i j : Nat) : (s.bump r i j).pce = s.pce := rfl
@[simp] theorem State.dma_bump (s : State) (r : Reg) (i j : Nat) : (s.bump r i j).dma = s.dma := rfl
@[simp] theorem State.que_bump (s : State) (r : Reg) (i j : Nat) : (s.bump r i j).que = s.que := rfl
@[simp] theorem State.fst_bump (s : State) (r : Reg) (i j : Nat) : (s.bump r i j).fst = s.fst := rfl
@[simp] theorem State.ses_bump (s : State) (r : Reg) (i j : Nat) : (s.bump r i j).ses = s.ses := rfl
@[simp] theorem State.boot_bump (s : State) (r : Reg) (i j : Nat) : (s.bump r i j).boot = s.boot := rfl
@[simp] theorem State.tim_bump (s : State) (r : Reg) (i j : Nat) : (s.bump r i j).tim = s.tim := rfl
@[simp] theorem State.enc_bump (s : State) (r : Reg) (i j : Nat) : (s.bump r i j).enc = s.enc := rfl
@[simp] theorem State.ssi_bump (s : State) (r : Reg) (i j : Nat) : (s.bump r i j).ssi = s.ssi := rfl
@[simp] theorem State.helm_bump (s : State) (r : Reg) (i j : Nat) : (s.bump r i j).helm = s.helm := rfl
@[simp] theorem State.pwr_bump (s : State) (r : Reg) (i j : Nat) : (s.bump r i j).pwr = s.pwr := rfl
@[simp] theorem State.pending_bump (s : State) (r : Reg) (i j : Nat) : (s.bump r i j).pending = s.pending := rfl

@[simp] theorem State.variant_bumpFld (s : State) (f : Fld) (n i j : Nat) : (s.bumpFld f n i j).variant = s.variant := rfl
@[simp] theorem State.fuse_bumpFld (s : State) (f : Fld) (n i j : Nat) : (s.bumpFld f n i j).fuse = s.fuse := rfl
@[simp] theorem State.fine_bumpFld (s : State) (f : Fld) (n i j : Nat) : (s.bumpFld f n i j).fine = s.fine := rfl
@[simp] theorem State.bar0_bumpFld (s : State) (f : Fld) (n i j : Nat) : (s.bumpFld f n i j).bar0 = s.bar0 := rfl
@[simp] theorem State.staged_bumpFld (s : State) (f : Fld) (n i j : Nat) : (s.bumpFld f n i j).staged = s.staged := rfl
@[simp] theorem State.outbox_bumpFld (s : State) (f : Fld) (n i j : Nat) : (s.bumpFld f n i j).outbox = s.outbox := rfl
@[simp] theorem State.freeCtr_bumpFld (s : State) (f : Fld) (n i j : Nat) : (s.bumpFld f n i j).freeCtr = s.freeCtr := rfl
@[simp] theorem State.lnk_bumpFld (s : State) (f : Fld) (n i j : Nat) : (s.bumpFld f n i j).lnk = s.lnk := rfl
@[simp] theorem State.port_bumpFld (s : State) (f : Fld) (n i j : Nat) : (s.bumpFld f n i j).port = s.port := rfl
@[simp] theorem State.cap_bumpFld (s : State) (f : Fld) (n i j : Nat) : (s.bumpFld f n i j).cap = s.cap := rfl
@[simp] theorem State.capt_bumpFld (s : State) (f : Fld) (n i j : Nat) : (s.bumpFld f n i j).capt = s.capt := rfl
@[simp] theorem State.mst_bumpFld (s : State) (f : Fld) (n i j : Nat) : (s.bumpFld f n i j).mst = s.mst := rfl
@[simp] theorem State.sht_bumpFld (s : State) (f : Fld) (n i j : Nat) : (s.bumpFld f n i j).sht = s.sht := rfl
@[simp] theorem State.bch_bumpFld (s : State) (f : Fld) (n i j : Nat) : (s.bumpFld f n i j).bch = s.bch := rfl
@[simp] theorem State.beams_bumpFld (s : State) (f : Fld) (n i j : Nat) : (s.bumpFld f n i j).beams = s.beams := rfl
@[simp] theorem State.scn_bumpFld (s : State) (f : Fld) (n i j : Nat) : (s.bumpFld f n i j).scn = s.scn := rfl
@[simp] theorem State.cal_bumpFld (s : State) (f : Fld) (n i j : Nat) : (s.bumpFld f n i j).cal = s.cal := rfl
@[simp] theorem State.lum_bumpFld (s : State) (f : Fld) (n i j : Nat) : (s.bumpFld f n i j).lum = s.lum := rfl
@[simp] theorem State.proj_bumpFld (s : State) (f : Fld) (n i j : Nat) : (s.bumpFld f n i j).proj = s.proj := rfl
@[simp] theorem State.hal_bumpFld (s : State) (f : Fld) (n i j : Nat) : (s.bumpFld f n i j).hal = s.hal := rfl
@[simp] theorem State.pce_bumpFld (s : State) (f : Fld) (n i j : Nat) : (s.bumpFld f n i j).pce = s.pce := rfl
@[simp] theorem State.dma_bumpFld (s : State) (f : Fld) (n i j : Nat) : (s.bumpFld f n i j).dma = s.dma := rfl
@[simp] theorem State.que_bumpFld (s : State) (f : Fld) (n i j : Nat) : (s.bumpFld f n i j).que = s.que := rfl
@[simp] theorem State.fst_bumpFld (s : State) (f : Fld) (n i j : Nat) : (s.bumpFld f n i j).fst = s.fst := rfl
@[simp] theorem State.ses_bumpFld (s : State) (f : Fld) (n i j : Nat) : (s.bumpFld f n i j).ses = s.ses := rfl
@[simp] theorem State.boot_bumpFld (s : State) (f : Fld) (n i j : Nat) : (s.bumpFld f n i j).boot = s.boot := rfl
@[simp] theorem State.tim_bumpFld (s : State) (f : Fld) (n i j : Nat) : (s.bumpFld f n i j).tim = s.tim := rfl
@[simp] theorem State.enc_bumpFld (s : State) (f : Fld) (n i j : Nat) : (s.bumpFld f n i j).enc = s.enc := rfl
@[simp] theorem State.ssi_bumpFld (s : State) (f : Fld) (n i j : Nat) : (s.bumpFld f n i j).ssi = s.ssi := rfl
@[simp] theorem State.helm_bumpFld (s : State) (f : Fld) (n i j : Nat) : (s.bumpFld f n i j).helm = s.helm := rfl
@[simp] theorem State.pwr_bumpFld (s : State) (f : Fld) (n i j : Nat) : (s.bumpFld f n i j).pwr = s.pwr := rfl
@[simp] theorem State.pending_bumpFld (s : State) (f : Fld) (n i j : Nat) : (s.bumpFld f n i j).pending = s.pending := rfl

@[simp] theorem State.variant_setDom (s : State) (d : Nat) (on : Bool) : (s.setDom d on).variant = s.variant := rfl
@[simp] theorem State.fuse_setDom (s : State) (d : Nat) (on : Bool) : (s.setDom d on).fuse = s.fuse := rfl
@[simp] theorem State.fine_setDom (s : State) (d : Nat) (on : Bool) : (s.setDom d on).fine = s.fine := rfl
@[simp] theorem State.bar0_setDom (s : State) (d : Nat) (on : Bool) : (s.setDom d on).bar0 = s.bar0 := rfl
@[simp] theorem State.staged_setDom (s : State) (d : Nat) (on : Bool) : (s.setDom d on).staged = s.staged := rfl
@[simp] theorem State.outbox_setDom (s : State) (d : Nat) (on : Bool) : (s.setDom d on).outbox = s.outbox := rfl
@[simp] theorem State.freeCtr_setDom (s : State) (d : Nat) (on : Bool) : (s.setDom d on).freeCtr = s.freeCtr := rfl
@[simp] theorem State.lnk_setDom (s : State) (d : Nat) (on : Bool) : (s.setDom d on).lnk = s.lnk := rfl
@[simp] theorem State.port_setDom (s : State) (d : Nat) (on : Bool) : (s.setDom d on).port = s.port := rfl
@[simp] theorem State.cap_setDom (s : State) (d : Nat) (on : Bool) : (s.setDom d on).cap = s.cap := rfl
@[simp] theorem State.capt_setDom (s : State) (d : Nat) (on : Bool) : (s.setDom d on).capt = s.capt := rfl
@[simp] theorem State.mst_setDom (s : State) (d : Nat) (on : Bool) : (s.setDom d on).mst = s.mst := rfl
@[simp] theorem State.sht_setDom (s : State) (d : Nat) (on : Bool) : (s.setDom d on).sht = s.sht := rfl
@[simp] theorem State.bch_setDom (s : State) (d : Nat) (on : Bool) : (s.setDom d on).bch = s.bch := rfl
@[simp] theorem State.beams_setDom (s : State) (d : Nat) (on : Bool) : (s.setDom d on).beams = s.beams := rfl
@[simp] theorem State.scn_setDom (s : State) (d : Nat) (on : Bool) : (s.setDom d on).scn = s.scn := rfl
@[simp] theorem State.cal_setDom (s : State) (d : Nat) (on : Bool) : (s.setDom d on).cal = s.cal := rfl
@[simp] theorem State.lum_setDom (s : State) (d : Nat) (on : Bool) : (s.setDom d on).lum = s.lum := rfl
@[simp] theorem State.proj_setDom (s : State) (d : Nat) (on : Bool) : (s.setDom d on).proj = s.proj := rfl
@[simp] theorem State.hal_setDom (s : State) (d : Nat) (on : Bool) : (s.setDom d on).hal = s.hal := rfl
@[simp] theorem State.pce_setDom (s : State) (d : Nat) (on : Bool) : (s.setDom d on).pce = s.pce := rfl
@[simp] theorem State.dma_setDom (s : State) (d : Nat) (on : Bool) : (s.setDom d on).dma = s.dma := rfl
@[simp] theorem State.que_setDom (s : State) (d : Nat) (on : Bool) : (s.setDom d on).que = s.que := rfl
@[simp] theorem State.fst_setDom (s : State) (d : Nat) (on : Bool) : (s.setDom d on).fst = s.fst := rfl
@[simp] theorem State.ses_setDom (s : State) (d : Nat) (on : Bool) : (s.setDom d on).ses = s.ses := rfl
@[simp] theorem State.boot_setDom (s : State) (d : Nat) (on : Bool) : (s.setDom d on).boot = s.boot := rfl
@[simp] theorem State.tim_setDom (s : State) (d : Nat) (on : Bool) : (s.setDom d on).tim = s.tim := rfl
@[simp] theorem State.enc_setDom (s : State) (d : Nat) (on : Bool) : (s.setDom d on).enc = s.enc := rfl
@[simp] theorem State.ssi_setDom (s : State) (d : Nat) (on : Bool) : (s.setDom d on).ssi = s.ssi := rfl
@[simp] theorem State.helm_setDom (s : State) (d : Nat) (on : Bool) : (s.setDom d on).helm = s.helm := rfl
@[simp] theorem State.pwr_setDom (s : State) (d : Nat) (on : Bool) : (s.setDom d on).pwr = s.pwr := rfl
@[simp] theorem State.pending_setDom (s : State) (d : Nat) (on : Bool) : (s.setDom d on).pending = s.pending := rfl

@[simp] theorem State.variant_emit (s : State) (o : Out) : (s.emit o).variant = s.variant := rfl
@[simp] theorem State.fuse_emit (s : State) (o : Out) : (s.emit o).fuse = s.fuse := rfl
@[simp] theorem State.fine_emit (s : State) (o : Out) : (s.emit o).fine = s.fine := rfl
@[simp] theorem State.regs_emit (s : State) (o : Out) : (s.emit o).regs = s.regs := rfl
@[simp] theorem State.bar0_emit (s : State) (o : Out) : (s.emit o).bar0 = s.bar0 := rfl
@[simp] theorem State.staged_emit (s : State) (o : Out) : (s.emit o).staged = s.staged := rfl
@[simp] theorem State.freeCtr_emit (s : State) (o : Out) : (s.emit o).freeCtr = s.freeCtr := rfl
@[simp] theorem State.lnk_emit (s : State) (o : Out) : (s.emit o).lnk = s.lnk := rfl
@[simp] theorem State.port_emit (s : State) (o : Out) : (s.emit o).port = s.port := rfl
@[simp] theorem State.cap_emit (s : State) (o : Out) : (s.emit o).cap = s.cap := rfl
@[simp] theorem State.capt_emit (s : State) (o : Out) : (s.emit o).capt = s.capt := rfl
@[simp] theorem State.mst_emit (s : State) (o : Out) : (s.emit o).mst = s.mst := rfl
@[simp] theorem State.sht_emit (s : State) (o : Out) : (s.emit o).sht = s.sht := rfl
@[simp] theorem State.bch_emit (s : State) (o : Out) : (s.emit o).bch = s.bch := rfl
@[simp] theorem State.beams_emit (s : State) (o : Out) : (s.emit o).beams = s.beams := rfl
@[simp] theorem State.scn_emit (s : State) (o : Out) : (s.emit o).scn = s.scn := rfl
@[simp] theorem State.cal_emit (s : State) (o : Out) : (s.emit o).cal = s.cal := rfl
@[simp] theorem State.lum_emit (s : State) (o : Out) : (s.emit o).lum = s.lum := rfl
@[simp] theorem State.proj_emit (s : State) (o : Out) : (s.emit o).proj = s.proj := rfl
@[simp] theorem State.hal_emit (s : State) (o : Out) : (s.emit o).hal = s.hal := rfl
@[simp] theorem State.pce_emit (s : State) (o : Out) : (s.emit o).pce = s.pce := rfl
@[simp] theorem State.dma_emit (s : State) (o : Out) : (s.emit o).dma = s.dma := rfl
@[simp] theorem State.que_emit (s : State) (o : Out) : (s.emit o).que = s.que := rfl
@[simp] theorem State.fst_emit (s : State) (o : Out) : (s.emit o).fst = s.fst := rfl
@[simp] theorem State.ses_emit (s : State) (o : Out) : (s.emit o).ses = s.ses := rfl
@[simp] theorem State.boot_emit (s : State) (o : Out) : (s.emit o).boot = s.boot := rfl
@[simp] theorem State.tim_emit (s : State) (o : Out) : (s.emit o).tim = s.tim := rfl
@[simp] theorem State.enc_emit (s : State) (o : Out) : (s.emit o).enc = s.enc := rfl
@[simp] theorem State.ssi_emit (s : State) (o : Out) : (s.emit o).ssi = s.ssi := rfl
@[simp] theorem State.helm_emit (s : State) (o : Out) : (s.emit o).helm = s.helm := rfl
@[simp] theorem State.pwr_emit (s : State) (o : Out) : (s.emit o).pwr = s.pwr := rfl
@[simp] theorem State.pending_emit (s : State) (o : Out) : (s.emit o).pending = s.pending := rfl

@[simp] theorem State.variant_advance (s : State) (dt : Nat) : (s.advance dt).variant = s.variant := rfl
@[simp] theorem State.fuse_advance (s : State) (dt : Nat) : (s.advance dt).fuse = s.fuse := rfl
@[simp] theorem State.regs_advance (s : State) (dt : Nat) : (s.advance dt).regs = s.regs := rfl
@[simp] theorem State.bar0_advance (s : State) (dt : Nat) : (s.advance dt).bar0 = s.bar0 := rfl
@[simp] theorem State.staged_advance (s : State) (dt : Nat) : (s.advance dt).staged = s.staged := rfl
@[simp] theorem State.outbox_advance (s : State) (dt : Nat) : (s.advance dt).outbox = s.outbox := rfl
@[simp] theorem State.freeCtr_advance (s : State) (dt : Nat) : (s.advance dt).freeCtr = s.freeCtr := rfl
@[simp] theorem State.lnk_advance (s : State) (dt : Nat) : (s.advance dt).lnk = s.lnk := rfl
@[simp] theorem State.port_advance (s : State) (dt : Nat) : (s.advance dt).port = s.port := rfl
@[simp] theorem State.cap_advance (s : State) (dt : Nat) : (s.advance dt).cap = s.cap := rfl
@[simp] theorem State.capt_advance (s : State) (dt : Nat) : (s.advance dt).capt = s.capt := rfl
@[simp] theorem State.mst_advance (s : State) (dt : Nat) : (s.advance dt).mst = s.mst := rfl
@[simp] theorem State.sht_advance (s : State) (dt : Nat) : (s.advance dt).sht = s.sht := rfl
@[simp] theorem State.bch_advance (s : State) (dt : Nat) : (s.advance dt).bch = s.bch := rfl
@[simp] theorem State.beams_advance (s : State) (dt : Nat) : (s.advance dt).beams = s.beams := rfl
@[simp] theorem State.scn_advance (s : State) (dt : Nat) : (s.advance dt).scn = s.scn := rfl
@[simp] theorem State.cal_advance (s : State) (dt : Nat) : (s.advance dt).cal = s.cal := rfl
@[simp] theorem State.lum_advance (s : State) (dt : Nat) : (s.advance dt).lum = s.lum := rfl
@[simp] theorem State.proj_advance (s : State) (dt : Nat) : (s.advance dt).proj = s.proj := rfl
@[simp] theorem State.hal_advance (s : State) (dt : Nat) : (s.advance dt).hal = s.hal := rfl
@[simp] theorem State.pce_advance (s : State) (dt : Nat) : (s.advance dt).pce = s.pce := rfl
@[simp] theorem State.dma_advance (s : State) (dt : Nat) : (s.advance dt).dma = s.dma := rfl
@[simp] theorem State.que_advance (s : State) (dt : Nat) : (s.advance dt).que = s.que := rfl
@[simp] theorem State.fst_advance (s : State) (dt : Nat) : (s.advance dt).fst = s.fst := rfl
@[simp] theorem State.ses_advance (s : State) (dt : Nat) : (s.advance dt).ses = s.ses := rfl
@[simp] theorem State.boot_advance (s : State) (dt : Nat) : (s.advance dt).boot = s.boot := rfl
@[simp] theorem State.tim_advance (s : State) (dt : Nat) : (s.advance dt).tim = s.tim := rfl
@[simp] theorem State.enc_advance (s : State) (dt : Nat) : (s.advance dt).enc = s.enc := rfl
@[simp] theorem State.ssi_advance (s : State) (dt : Nat) : (s.advance dt).ssi = s.ssi := rfl
@[simp] theorem State.helm_advance (s : State) (dt : Nat) : (s.advance dt).helm = s.helm := rfl
@[simp] theorem State.pwr_advance (s : State) (dt : Nat) : (s.advance dt).pwr = s.pwr := rfl
@[simp] theorem State.pending_advance (s : State) (dt : Nat) : (s.advance dt).pending = s.pending := rfl

@[simp] theorem State.variant_memWr (s : State) (a : Nat) (v : Word) : (s.memWr a v).variant = s.variant := rfl
@[simp] theorem State.fuse_memWr (s : State) (a : Nat) (v : Word) : (s.memWr a v).fuse = s.fuse := rfl
@[simp] theorem State.fine_memWr (s : State) (a : Nat) (v : Word) : (s.memWr a v).fine = s.fine := rfl
@[simp] theorem State.regs_memWr (s : State) (a : Nat) (v : Word) : (s.memWr a v).regs = s.regs := rfl
@[simp] theorem State.staged_memWr (s : State) (a : Nat) (v : Word) : (s.memWr a v).staged = s.staged := rfl
@[simp] theorem State.outbox_memWr (s : State) (a : Nat) (v : Word) : (s.memWr a v).outbox = s.outbox := rfl
@[simp] theorem State.freeCtr_memWr (s : State) (a : Nat) (v : Word) : (s.memWr a v).freeCtr = s.freeCtr := rfl
@[simp] theorem State.lnk_memWr (s : State) (a : Nat) (v : Word) : (s.memWr a v).lnk = s.lnk := rfl
@[simp] theorem State.port_memWr (s : State) (a : Nat) (v : Word) : (s.memWr a v).port = s.port := rfl
@[simp] theorem State.cap_memWr (s : State) (a : Nat) (v : Word) : (s.memWr a v).cap = s.cap := rfl
@[simp] theorem State.capt_memWr (s : State) (a : Nat) (v : Word) : (s.memWr a v).capt = s.capt := rfl
@[simp] theorem State.mst_memWr (s : State) (a : Nat) (v : Word) : (s.memWr a v).mst = s.mst := rfl
@[simp] theorem State.sht_memWr (s : State) (a : Nat) (v : Word) : (s.memWr a v).sht = s.sht := rfl
@[simp] theorem State.bch_memWr (s : State) (a : Nat) (v : Word) : (s.memWr a v).bch = s.bch := rfl
@[simp] theorem State.beams_memWr (s : State) (a : Nat) (v : Word) : (s.memWr a v).beams = s.beams := rfl
@[simp] theorem State.scn_memWr (s : State) (a : Nat) (v : Word) : (s.memWr a v).scn = s.scn := rfl
@[simp] theorem State.cal_memWr (s : State) (a : Nat) (v : Word) : (s.memWr a v).cal = s.cal := rfl
@[simp] theorem State.lum_memWr (s : State) (a : Nat) (v : Word) : (s.memWr a v).lum = s.lum := rfl
@[simp] theorem State.proj_memWr (s : State) (a : Nat) (v : Word) : (s.memWr a v).proj = s.proj := rfl
@[simp] theorem State.hal_memWr (s : State) (a : Nat) (v : Word) : (s.memWr a v).hal = s.hal := rfl
@[simp] theorem State.pce_memWr (s : State) (a : Nat) (v : Word) : (s.memWr a v).pce = s.pce := rfl
@[simp] theorem State.dma_memWr (s : State) (a : Nat) (v : Word) : (s.memWr a v).dma = s.dma := rfl
@[simp] theorem State.que_memWr (s : State) (a : Nat) (v : Word) : (s.memWr a v).que = s.que := rfl
@[simp] theorem State.fst_memWr (s : State) (a : Nat) (v : Word) : (s.memWr a v).fst = s.fst := rfl
@[simp] theorem State.ses_memWr (s : State) (a : Nat) (v : Word) : (s.memWr a v).ses = s.ses := rfl
@[simp] theorem State.boot_memWr (s : State) (a : Nat) (v : Word) : (s.memWr a v).boot = s.boot := rfl
@[simp] theorem State.tim_memWr (s : State) (a : Nat) (v : Word) : (s.memWr a v).tim = s.tim := rfl
@[simp] theorem State.enc_memWr (s : State) (a : Nat) (v : Word) : (s.memWr a v).enc = s.enc := rfl
@[simp] theorem State.ssi_memWr (s : State) (a : Nat) (v : Word) : (s.memWr a v).ssi = s.ssi := rfl
@[simp] theorem State.helm_memWr (s : State) (a : Nat) (v : Word) : (s.memWr a v).helm = s.helm := rfl
@[simp] theorem State.pwr_memWr (s : State) (a : Nat) (v : Word) : (s.memWr a v).pwr = s.pwr := rfl
@[simp] theorem State.pending_memWr (s : State) (a : Nat) (v : Word) : (s.memWr a v).pending = s.pending := rfl

@[simp] theorem State.variant_stage (s : State) (l : Loc) (v : Word) : (s.stage l v).variant = s.variant := rfl
@[simp] theorem State.fuse_stage (s : State) (l : Loc) (v : Word) : (s.stage l v).fuse = s.fuse := rfl
@[simp] theorem State.fine_stage (s : State) (l : Loc) (v : Word) : (s.stage l v).fine = s.fine := rfl
@[simp] theorem State.regs_stage (s : State) (l : Loc) (v : Word) : (s.stage l v).regs = s.regs := rfl
@[simp] theorem State.bar0_stage (s : State) (l : Loc) (v : Word) : (s.stage l v).bar0 = s.bar0 := rfl
@[simp] theorem State.outbox_stage (s : State) (l : Loc) (v : Word) : (s.stage l v).outbox = s.outbox := rfl
@[simp] theorem State.freeCtr_stage (s : State) (l : Loc) (v : Word) : (s.stage l v).freeCtr = s.freeCtr := rfl
@[simp] theorem State.lnk_stage (s : State) (l : Loc) (v : Word) : (s.stage l v).lnk = s.lnk := rfl
@[simp] theorem State.port_stage (s : State) (l : Loc) (v : Word) : (s.stage l v).port = s.port := rfl
@[simp] theorem State.cap_stage (s : State) (l : Loc) (v : Word) : (s.stage l v).cap = s.cap := rfl
@[simp] theorem State.capt_stage (s : State) (l : Loc) (v : Word) : (s.stage l v).capt = s.capt := rfl
@[simp] theorem State.mst_stage (s : State) (l : Loc) (v : Word) : (s.stage l v).mst = s.mst := rfl
@[simp] theorem State.sht_stage (s : State) (l : Loc) (v : Word) : (s.stage l v).sht = s.sht := rfl
@[simp] theorem State.bch_stage (s : State) (l : Loc) (v : Word) : (s.stage l v).bch = s.bch := rfl
@[simp] theorem State.beams_stage (s : State) (l : Loc) (v : Word) : (s.stage l v).beams = s.beams := rfl
@[simp] theorem State.scn_stage (s : State) (l : Loc) (v : Word) : (s.stage l v).scn = s.scn := rfl
@[simp] theorem State.cal_stage (s : State) (l : Loc) (v : Word) : (s.stage l v).cal = s.cal := rfl
@[simp] theorem State.lum_stage (s : State) (l : Loc) (v : Word) : (s.stage l v).lum = s.lum := rfl
@[simp] theorem State.proj_stage (s : State) (l : Loc) (v : Word) : (s.stage l v).proj = s.proj := rfl
@[simp] theorem State.hal_stage (s : State) (l : Loc) (v : Word) : (s.stage l v).hal = s.hal := rfl
@[simp] theorem State.pce_stage (s : State) (l : Loc) (v : Word) : (s.stage l v).pce = s.pce := rfl
@[simp] theorem State.dma_stage (s : State) (l : Loc) (v : Word) : (s.stage l v).dma = s.dma := rfl
@[simp] theorem State.que_stage (s : State) (l : Loc) (v : Word) : (s.stage l v).que = s.que := rfl
@[simp] theorem State.fst_stage (s : State) (l : Loc) (v : Word) : (s.stage l v).fst = s.fst := rfl
@[simp] theorem State.ses_stage (s : State) (l : Loc) (v : Word) : (s.stage l v).ses = s.ses := rfl
@[simp] theorem State.boot_stage (s : State) (l : Loc) (v : Word) : (s.stage l v).boot = s.boot := rfl
@[simp] theorem State.tim_stage (s : State) (l : Loc) (v : Word) : (s.stage l v).tim = s.tim := rfl
@[simp] theorem State.enc_stage (s : State) (l : Loc) (v : Word) : (s.stage l v).enc = s.enc := rfl
@[simp] theorem State.ssi_stage (s : State) (l : Loc) (v : Word) : (s.stage l v).ssi = s.ssi := rfl
@[simp] theorem State.helm_stage (s : State) (l : Loc) (v : Word) : (s.stage l v).helm = s.helm := rfl
@[simp] theorem State.pwr_stage (s : State) (l : Loc) (v : Word) : (s.stage l v).pwr = s.pwr := rfl
@[simp] theorem State.pending_stage (s : State) (l : Loc) (v : Word) : (s.stage l v).pending = s.pending := rfl

@[simp] theorem State.rd_emit (s : State) (o : Out) (r : Reg) (i' j' : Nat) : (s.emit o).rd r i' j' = s.rd r i' j' := rfl
@[simp] theorem State.rd_advance (s : State) (dt : Nat) (r : Reg) (i' j' : Nat) : (s.advance dt).rd r i' j' = s.rd r i' j' := rfl
@[simp] theorem State.rd_memWr (s : State) (a : Nat) (v : Word) (r : Reg) (i' j' : Nat) : (s.memWr a v).rd r i' j' = s.rd r i' j' := rfl
@[simp] theorem State.rd_stage (s : State) (l : Loc) (v : Word) (r : Reg) (i' j' : Nat) : (s.stage l v).rd r i' j' = s.rd r i' j' := rfl
@[simp] theorem State.outbox_emit (s : State) (o : Out) : (s.emit o).outbox = s.outbox ++ [o] := rfl
@[simp] theorem State.fine_advance (s : State) (dt : Nat) : (s.advance dt).fine = s.fine + dt := rfl
@[simp] theorem State.staged_stage (s : State) (l : Loc) (v : Word) : (s.stage l v).staged = s.staged ++ [⟨l, v⟩] := rfl

end Sys2Proof.Machine
end

