-- ==== Sys2Proof/Laws/Changes.lean ====
section
/-!
SUPPORT. The calculus of `Changes`: how the primitive updates change a state, and how operations compose.
-/

namespace Sys2Proof.Machine

variable {P P' : List Part} {R R' : List Reg} {s t u : State}

theorem Part.same_refl (p : Part) (s : State) : p.same s s := by cases p <;> rfl

theorem Part.same_trans {p : Part} (h : p.same s t) (h' : p.same t u) : p.same s u := by
  cases p <;> exact h'.trans h

/-- Nothing changes. -/
theorem Changes.refl (P : List Part) (R : List Reg) (s : State) : Changes P R s s :=
  ⟨fun p _ => p.same_refl s, fun _ _ _ _ => rfl, id⟩

/-- One operation after another. -/
theorem Changes.trans (h : Changes P R s t) (h' : Changes P R t u) : Changes P R s u :=
  ⟨fun p hp => Part.same_trans (h.parts p hp) (h'.parts p hp), fun r hr i j => (h'.regs r hr i j).trans (h.regs r hr i j),
    fun hc => h'.canonical (h.canonical hc)⟩

/-- An operation that changes less. -/
theorem Changes.mono (h : Changes P' R' s t) (hp : P' ⊆ P) (hr : R' ⊆ R) : Changes P R s t :=
  ⟨fun p hq => h.parts p (fun hh => hq (hp hh)), fun r hq => h.regs r (fun hh => hq (hr hh)), h.canonical⟩

/-- An operation that changes less, after another. -/
theorem Changes.andThen (h : Changes P R s t) (h' : Changes P' R' t u) (hp : P' ⊆ P) (hr : R' ⊆ R) : Changes P R s u :=
  h.trans (h'.mono hp hr)

theorem Changes.ite {c : Prop} [Decidable c] {a b : State} (ha : Changes P R s a) (hb : Changes P R s b) :
    Changes P R s (if c then a else b) := by
  split <;> assumption

/-- What is said of an intermediate state may be used of it. -/
theorem Changes.cut {x y : State} (h : Changes P R s x) (hq : Changes P R s x → Changes P R s y) : Changes P R s y := hq h

/-- An update of several fields. -/
theorem Changes.upd (h : Changes P R s t) (hp : ∀ p, p ∉ P → p.same t u) (hr : u.regs = t.regs)
    (hc : t.canonical → u.canonical) : Changes P R s u :=
  h.trans ⟨hp, fun r _ i j => by unfold State.rd; rw [hr], hc⟩

theorem Changes.ofPair {α : Type} {p : α × State} {a : α} (h : p = (a, t)) (hc : Changes P R s p.2) : Changes P R s t := by
  subst h; exact hc

theorem Changes.ofPair1 {α : Type} {p : State × α} {a : α} (h : p = (t, a)) (hc : Changes P R s p.1) : Changes P R s t := by
  subst h; exact hc

theorem Changes.ofPair2 {α β : Type} {p : α × β × State} {a : α} {b : β} (h : p = (a, b, t)) (hc : Changes P R s p.2.2) :
    Changes P R s t := by
  subst h; exact hc

theorem foldl_changes {α : Type} {f : State → α → State} (hf : ∀ s x, Changes P R s (f s x)) (l : List α) (s : State) :
    Changes P R s (l.foldl f s) := by
  induction l generalizing s with
  | nil => exact Changes.refl _ _ _
  | cons x l ih => exact (hf s x).trans (ih _)

/-- The state a meaning answers. -/
theorem resState_next (s t : State) : resState s (.next t) = t := rfl

theorem mem_allRegs (r : Reg) : r ∈ allRegs := by
  unfold allRegs
  rw [List.mem_map]
  refine ⟨r.ctorIdx, ?_, Reg.ofNat_ctorIdx r⟩
  rw [List.mem_range]
  cases r <;> decide

theorem subset_allRegs (R : List Reg) : R ⊆ allRegs := fun r _ => mem_allRegs r

/-- An operation on each of a list of instances. -/
theorem State.eachOf_changes {k : Nat → State → State} (hk : ∀ i s, Changes P R s (k i s)) (l : List Nat) (s : State) :
    Changes P R s (State.eachOf k l s) := by
  induction l generalizing s with
  | nil => exact Changes.refl _ _ _
  | cons i l ih => exact (hk i s).trans (ih _)

theorem State.eachInst_changes {k : Nat → State → State} (hk : ∀ i s, Changes P R s (k i s)) (l : List Nat) (s : State) :
    Changes P R s (State.eachInst k l s) := by
  induction l generalizing s with
  | nil => exact Changes.refl _ _ _
  | cons i l ih => exact (hk i s).trans (ih _)

theorem State.eachBeam_changes {k : Nat → State → State} (hk : ∀ i s, Changes P R s (k i s)) (l : List Nat) (s : State) :
    Changes P R s (State.eachBeam k l s) := by
  induction l generalizing s with
  | nil => exact Changes.refl _ _ _
  | cons i l ih => exact (Changes.ite (hk i s) (Changes.refl _ _ _)).trans (ih _)

theorem State.eachDma_changes {k : Nat → State → State} (hk : ∀ i s, Changes P R s (k i s)) (l : List Nat) (s : State) :
    Changes P R s (State.eachDma k l s) := by
  induction l generalizing s with
  | nil => exact Changes.refl _ _ _
  | cons i l ih => exact (hk i s).trans (ih _)

/-- The registers of a list as a bit mask over their numbers. -/
def regMask : List Reg → Nat
  | [] => 0
  | r :: l => 2 ^ r.ctorIdx ||| regMask l

theorem testBit_regMask (l : List Reg) (r : Reg) : (regMask l).testBit r.ctorIdx = true ↔ r ∈ l := by
  induction l with
  | nil => simp [regMask]
  | cons x l ih =>
    have hx : (2 ^ x.ctorIdx).testBit r.ctorIdx = true ↔ r = x := by
      rw [Nat.testBit_two_pow]
      constructor
      · intro h
        exact (Reg.ctorIdx_inj (by simpa using h)).symm
      · rintro rfl
        simp
    rw [regMask, Nat.testBit_or, Bool.or_eq_true, hx, ih, List.mem_cons]

/-- A list of registers is part of another when its mask is. -/
theorem subset_regs (h : regMask R' &&& regMask R = regMask R') : R' ⊆ R := by
  intro r hr
  have h1 := (testBit_regMask R' r).2 hr
  rw [← h, Nat.testBit_and, Bool.and_eq_true] at h1
  exact (testBit_regMask R r).1 h1.2

/-! ### Canonical form of a write -/

theorem canonBy_set {d : Nat → Word} {t : Tbl Word} (k : Nat) (v : Word) (h : canonBy d t) :
    canonBy d (tblSet (d k) t k v) := by
  have hp : (tblErase t k).Pairwise (fun a b => a.1 < b.1) := h.1.filter _
  have hd : ∀ e ∈ tblErase t k, e.2 ≠ d e.1 := fun e he => h.2 e (mem_tblErase he).1
  unfold tblSet
  split
  · exact ⟨hp, hd⟩
  · rename_i hv
    refine ⟨tblInsert_pairwise hp (fun e he => (mem_tblErase he).2), ?_⟩
    intro e he
    rcases mem_tblInsert he with rfl | he
    · exact hv
    · exact hd e he

theorem tblWf_filter {α : Type} [DecidableEq α] {d : α} {t : Tbl α} (f : Nat × α → Bool) (h : tblWf d t = true) :
    tblWf d (t.filter f) = true := by
  rw [tblWf_iff] at h ⊢
  exact ⟨fun e he => h.1 e (List.mem_of_mem_filter he), h.2.filter f⟩

theorem keyReset_key (r : Reg) (i j : Nat) : keyReset (r.key i j) = r.resetAt j := by
  simp [keyReset, Reg.key, Nat.unpair_pair, Reg.ofNat_ctorIdx]

theorem State.canonical_wr (s : State) (r : Reg) (v : Word) (i j : Nat) (h : s.canonical) :
    (s.wr r v i j).canonical := by
  refine ⟨h.1, h.2.1, h.2.2.1, ?_⟩
  have := canonBy_set (r.key i j) v h.2.2.2
  rw [keyReset_key] at this
  exact this

/-! ### The primitive updates -/

theorem Changes.wr {r : Reg} {v : Word} {i j : Nat} (h : Changes P R s t) (hr : r ∈ R) :
    Changes P R s (t.wr r v i j) := by
  refine h.trans ⟨fun p _ => by cases p <;> rfl, ?_, t.canonical_wr r v i j⟩
  intro r' hr' i' j'
  rw [State.rd_wr, if_neg]
  rintro ⟨rfl, -, -⟩
  exact hr' hr

theorem Changes.setFld {f : Fld} {v i j : Nat} (h : Changes P R s t) (hr : f.reg ∈ R) :
    Changes P R s (t.setFld f v i j) := h.wr hr

theorem Changes.bumpBy {r : Reg} {n i j : Nat} (h : Changes P R s t) (hr : r ∈ R) :
    Changes P R s (t.bumpBy r n i j) := h.wr hr

theorem Changes.bump {r : Reg} {i j : Nat} (h : Changes P R s t) (hr : r ∈ R) :
    Changes P R s (t.bump r i j) := h.wr hr

theorem Changes.bumpFld {f : Fld} {n i j : Nat} (h : Changes P R s t) (hr : f.reg ∈ R) :
    Changes P R s (t.bumpFld f n i j) := h.wr hr

theorem Changes.memWr {a : Nat} {v : Word} (h : Changes P R s t) (hp : .bar0 ∈ P) : Changes P R s (t.memWr a v) := by
  refine h.trans ⟨?_, fun _ _ _ _ => rfl, fun hc => ⟨hc.1, hc.2.1, canonBy_set a v hc.2.2.1, hc.2.2.2⟩⟩
  intro p hq
  cases p <;> first | rfl | exact absurd hp hq

theorem Changes.variant {x : Variant} (h : Changes P R s t) (hp : Part.variant ∈ P) : Changes P R s { t with variant := x } := by
  refine h.trans ⟨?_, fun _ _ _ _ => rfl, id⟩
  intro p hq
  cases p <;> first | rfl | exact absurd hp hq

theorem Changes.fuse {x : Fuses} (h : Changes P R s t) (hp : Part.fuse ∈ P) : Changes P R s { t with fuse := x } := by
  refine h.trans ⟨?_, fun _ _ _ _ => rfl, id⟩
  intro p hq
  cases p <;> first | rfl | exact absurd hp hq

theorem Changes.fine {x : Nat} (h : Changes P R s t) (hp : Part.fine ∈ P) : Changes P R s { t with fine := x } := by
  refine h.trans ⟨?_, fun _ _ _ _ => rfl, id⟩
  intro p hq
  cases p <;> first | rfl | exact absurd hp hq

theorem Changes.staged {x : List Staged} (h : Changes P R s t) (hp : Part.staged ∈ P) : Changes P R s { t with staged := x } := by
  refine h.trans ⟨?_, fun _ _ _ _ => rfl, id⟩
  intro p hq
  cases p <;> first | rfl | exact absurd hp hq

theorem Changes.outbox {x : List Out} (h : Changes P R s t) (hp : Part.outbox ∈ P) : Changes P R s { t with outbox := x } := by
  refine h.trans ⟨?_, fun _ _ _ _ => rfl, id⟩
  intro p hq
  cases p <;> first | rfl | exact absurd hp hq

theorem Changes.freeCtr {x : Nat} (h : Changes P R s t) (hp : Part.freeCtr ∈ P) : Changes P R s { t with freeCtr := x } := by
  refine h.trans ⟨?_, fun _ _ _ _ => rfl, id⟩
  intro p hq
  cases p <;> first | rfl | exact absurd hp hq

theorem Changes.lnk {x : Tbl Lane} (h : Changes P R s t) (hp : Part.lnk ∈ P) : Changes P R s { t with lnk := x } := by
  refine h.trans ⟨?_, fun _ _ _ _ => rfl, id⟩
  intro p hq
  cases p <;> first | rfl | exact absurd hp hq

theorem Changes.port {x : Tbl Port} (h : Changes P R s t) (hp : Part.port ∈ P) : Changes P R s { t with port := x } := by
  refine h.trans ⟨?_, fun _ _ _ _ => rfl, id⟩
  intro p hq
  cases p <;> first | rfl | exact absurd hp hq

theorem Changes.cap {x : Tbl CapPort} (h : Changes P R s t) (hp : Part.cap ∈ P) : Changes P R s { t with cap := x } := by
  refine h.trans ⟨?_, fun _ _ _ _ => rfl, id⟩
  intro p hq
  cases p <;> first | rfl | exact absurd hp hq

theorem Changes.capt {x : Capt} (h : Changes P R s t) (hp : Part.capt ∈ P) : Changes P R s { t with capt := x } := by
  refine h.trans ⟨?_, fun _ _ _ _ => rfl, id⟩
  intro p hq
  cases p <;> first | rfl | exact absurd hp hq

theorem Changes.mst {x : Tbl Mast} (h : Changes P R s t) (hp : Part.mst ∈ P) : Changes P R s { t with mst := x } := by
  refine h.trans ⟨?_, fun _ _ _ _ => rfl, id⟩
  intro p hq
  cases p <;> first | rfl | exact absurd hp hq

theorem Changes.sht {x : Tbl Sht} (h : Changes P R s t) (hp : Part.sht ∈ P) : Changes P R s { t with sht := x } := by
  refine h.trans ⟨?_, fun _ _ _ _ => rfl, id⟩
  intro p hq
  cases p <;> first | rfl | exact absurd hp hq

theorem Changes.bch {x : Tbl Bch} (h : Changes P R s t) (hp : Part.bch ∈ P) : Changes P R s { t with bch := x } := by
  refine h.trans ⟨?_, fun _ _ _ _ => rfl, id⟩
  intro p hq
  cases p <;> first | rfl | exact absurd hp hq

theorem Changes.beams {x : BchShared} (h : Changes P R s t) (hp : Part.beams ∈ P) : Changes P R s { t with beams := x } := by
  refine h.trans ⟨?_, fun _ _ _ _ => rfl, id⟩
  intro p hq
  cases p <;> first | rfl | exact absurd hp hq

theorem Changes.scn {x : Tbl Scn} (h : Changes P R s t) (hp : Part.scn ∈ P) : Changes P R s { t with scn := x } := by
  refine h.trans ⟨?_, fun _ _ _ _ => rfl, id⟩
  intro p hq
  cases p <;> first | rfl | exact absurd hp hq

theorem Changes.cal {x : Cal} (h : Changes P R s t) (hp : Part.cal ∈ P) : Changes P R s { t with cal := x } := by
  refine h.trans ⟨?_, fun _ _ _ _ => rfl, id⟩
  intro p hq
  cases p <;> first | rfl | exact absurd hp hq

theorem Changes.lum {x : Tbl Lum} (h : Changes P R s t) (hp : Part.lum ∈ P) : Changes P R s { t with lum := x } := by
  refine h.trans ⟨?_, fun _ _ _ _ => rfl, id⟩
  intro p hq
  cases p <;> first | rfl | exact absurd hp hq

theorem Changes.proj {x : Proj} (h : Changes P R s t) (hp : Part.proj ∈ P) : Changes P R s { t with proj := x } := by
  refine h.trans ⟨?_, fun _ _ _ _ => rfl, id⟩
  intro p hq
  cases p <;> first | rfl | exact absurd hp hq

theorem Changes.hal {x : Hal} (h : Changes P R s t) (hp : Part.hal ∈ P) : Changes P R s { t with hal := x } := by
  refine h.trans ⟨?_, fun _ _ _ _ => rfl, id⟩
  intro p hq
  cases p <;> first | rfl | exact absurd hp hq

theorem Changes.dma {x : Tbl Dma} (h : Changes P R s t) (hp : Part.dma ∈ P) : Changes P R s { t with dma := x } := by
  refine h.trans ⟨?_, fun _ _ _ _ => rfl, id⟩
  intro p hq
  cases p <;> first | rfl | exact absurd hp hq

theorem Changes.que {x : Tbl Que} (h : Changes P R s t) (hp : Part.que ∈ P) : Changes P R s { t with que := x } := by
  refine h.trans ⟨?_, fun _ _ _ _ => rfl, id⟩
  intro p hq
  cases p <;> first | rfl | exact absurd hp hq

theorem Changes.ses {x : Ses} (h : Changes P R s t) (hp : Part.ses ∈ P) : Changes P R s { t with ses := x } := by
  refine h.trans ⟨?_, fun _ _ _ _ => rfl, id⟩
  intro p hq
  cases p <;> first | rfl | exact absurd hp hq

theorem Changes.tim {x : Tim} (h : Changes P R s t) (hp : Part.tim ∈ P) : Changes P R s { t with tim := x } := by
  refine h.trans ⟨?_, fun _ _ _ _ => rfl, id⟩
  intro p hq
  cases p <;> first | rfl | exact absurd hp hq

theorem Changes.enc {x : Tbl Enc} (h : Changes P R s t) (hp : Part.enc ∈ P) : Changes P R s { t with enc := x } := by
  refine h.trans ⟨?_, fun _ _ _ _ => rfl, id⟩
  intro p hq
  cases p <;> first | rfl | exact absurd hp hq

theorem Changes.ssi {x : Tbl Ssi} (h : Changes P R s t) (hp : Part.ssi ∈ P) : Changes P R s { t with ssi := x } := by
  refine h.trans ⟨?_, fun _ _ _ _ => rfl, id⟩
  intro p hq
  cases p <;> first | rfl | exact absurd hp hq

theorem Changes.helm {x : Helm} (h : Changes P R s t) (hp : Part.helm ∈ P) : Changes P R s { t with helm := x } := by
  refine h.trans ⟨?_, fun _ _ _ _ => rfl, id⟩
  intro p hq
  cases p <;> first | rfl | exact absurd hp hq

theorem Changes.pwr {x : Pwr} (h : Changes P R s t) (hp : Part.pwr ∈ P) : Changes P R s { t with pwr := x } := by
  refine h.trans ⟨?_, fun _ _ _ _ => rfl, id⟩
  intro p hq
  cases p <;> first | rfl | exact absurd hp hq

theorem Changes.pending {x : List Instr} (h : Changes P R s t) (hp : Part.pending ∈ P) : Changes P R s { t with pending := x } := by
  refine h.trans ⟨?_, fun _ _ _ _ => rfl, id⟩
  intro p hq
  cases p <;> first | rfl | exact absurd hp hq

theorem Changes.pce {x : Pce} (h : Changes P R s t) (hx : x.cfg = t.pce.cfg) (hp : Part.pce ∈ P) :
    Changes P R s { t with pce := x } := by
  refine h.trans ⟨?_, fun _ _ _ _ => rfl, id⟩
  intro p hq
  cases p <;> first | rfl | exact absurd hp hq | exact hx

theorem Changes.pceCfg {x : Tbl Word} (h : Changes P R s t) (hp : Part.pceCfg ∈ P) :
    Changes P R s { t with pce := { t.pce with cfg := x } } := by
  refine h.trans ⟨?_, fun _ _ _ _ => rfl, id⟩
  intro p hq
  cases p <;> first | rfl | exact absurd hp hq

theorem Changes.fst {x : Fst} (h : Changes P R s t) (hx : x.ddr = t.fst.ddr) (hp : Part.fst ∈ P) :
    Changes P R s { t with fst := x } := by
  refine h.trans ⟨?_, fun _ _ _ _ => rfl, ?_⟩
  · intro p hq
    cases p <;> first | rfl | exact absurd hp hq | exact hx
  · intro hc
    have h0 : tblWf 0 x.ddr = true := by rw [hx]; exact hc.1
    exact ⟨h0, hc.2⟩

theorem Changes.ddr {x : Tbl Byte} (h : Changes P R s t) (hx : tblWf 0 t.fst.ddr = true → tblWf 0 x = true)
    (hp : Part.ddr ∈ P) : Changes P R s { t with fst := { t.fst with ddr := x } } := by
  refine h.trans ⟨?_, fun _ _ _ _ => rfl, ?_⟩
  · intro p hq
    cases p <;> first | rfl | exact absurd hp hq
  · intro hc
    have h0 := hx hc.1
    exact ⟨h0, hc.2⟩

theorem Changes.boot {x : Boot} (h : Changes P R s t) (hx : x.flash = t.boot.flash) (hp : Part.boot ∈ P) :
    Changes P R s { t with boot := x } := by
  refine h.trans ⟨?_, fun _ _ _ _ => rfl, ?_⟩
  · intro p hq
    cases p <;> first | rfl | exact absurd hp hq | exact hx
  · intro hc
    have h0 : tblWf 0xFF x.flash = true := by rw [hx]; exact hc.2.1
    exact ⟨hc.1, h0, hc.2.2⟩

theorem Changes.flash {x : Tbl Byte} (h : Changes P R s t) (hx : tblWf 0xFF t.boot.flash = true → tblWf 0xFF x = true)
    (hp : Part.flash ∈ P) : Changes P R s { t with boot := { t.boot with flash := x } } := by
  refine h.trans ⟨?_, fun _ _ _ _ => rfl, ?_⟩
  · intro p hq
    cases p <;> first | rfl | exact absurd hp hq
  · intro hc
    have h0 := hx hc.2.1
    exact ⟨hc.1, h0, hc.2.2⟩

theorem Changes.emit {o : Out} (h : Changes P R s t) (hp : Part.outbox ∈ P) : Changes P R s (t.emit o) := h.outbox hp

theorem Changes.advance {dt : Nat} (h : Changes P R s t) (hp : Part.fine ∈ P) : Changes P R s (t.advance dt) := h.fine hp

theorem Changes.stage {l : Loc} {v : Word} (h : Changes P R s t) (hp : Part.staged ∈ P) : Changes P R s (t.stage l v) :=
  h.staged hp

end Sys2Proof.Machine
end

