-- ==== Sys2Proof/Laws/FrameOps.lean ====
section
/-!
SUPPORT. What the operations of Machine/Ops.lean may change: one lemma for each.
-/

set_option Elab.async false

namespace Sys2Proof.Machine

theorem State.passBy_changes (s : State) (dt : Nat) (due : Nat) :
    Changes [.fine] [] s (State.passBy s dt due) := by
  unfold State.passBy
  refine Changes.fine ?_ (by decide +kernel)
  exact Changes.refl _ _ _

theorem State.passTo_changes (s : State) (dt : Nat) (due : Nat) :
    Changes [.fine] [] s (State.passTo s dt due) := by
  unfold State.passTo
  refine Changes.fine ?_ (by decide +kernel)
  exact Changes.refl _ _ _

theorem State.freeBits_changes (s : State) (w : Nat) :
    Changes [.freeCtr] [] s (State.freeBits s w).2 := by
  unfold State.freeBits
  dsimp only
  refine Changes.freeCtr ?_ (by decide +kernel)
  exact Changes.refl _ _ _

theorem State.setDom_changes (s : State) (d : Nat) (on : Bool) :
    Changes [] [.PWR_DOM_STATUS] s (State.setDom s d on) := by
  unfold State.setDom
  refine Changes.wr ?_ (by decide +kernel)
  exact Changes.refl _ _ _

theorem State.setDomPending_changes (s : State) (d : Nat) (on : Bool) :
    Changes [] [.PWR_DOM_PENDING] s (State.setDomPending s d on) := by
  unfold State.setDomPending
  refine Changes.wr ?_ (by decide +kernel)
  exact Changes.refl _ _ _

end Sys2Proof.Machine
end

