-- ==== Sys2Proof/Laws/FrameEvents.lean ====
section
/-!
SUPPORT. What the operations of Machine/Events.lean may change: one lemma for each.
-/

set_option Elab.async false

namespace Sys2Proof.Machine

theorem State.enqueue_changes (s : State) (h : Nat) (e : HEv) :
    Changes [.hal] [.HAL_CNT_QUEUE_DROP] s (State.enqueue s h e) := by
  unfold State.enqueue
  extract_lets v1 v2 v3 v4
  refine Changes.cut (x := v4) ?_ (fun h5 => ?_)
  · unfold v4
    refine Changes.hal ?_ (by decide +kernel)
    exact Changes.refl _ _ _
  clear_value v1
  clear_value v2
  clear_value v3
  clear_value v4
  refine Changes.ite ?_ ?_
  · assumption
  · refine Changes.bump ?_ (by decide +kernel)
    assumption

theorem State.publishHops_changes (s : State) (p : Nat) (code : Nat) (cause : BitVec 48) (hops : Nat) :
    Changes [.hal] [.HAL_CNT_QUEUE_DROP] s (State.publishHops s p code cause hops) := by
  unfold State.publishHops
  refine Changes.ite ?_ ?_
  · refine Changes.andThen ?_ (State.enqueue_changes ..) (by decide) (subset_regs (by decide +kernel))
    exact Changes.refl _ _ _
  · exact Changes.refl _ _ _

theorem State.publish_changes (s : State) (p : Nat) (code : Nat) (cause : BitVec 48) :
    Changes [.hal] [.HAL_CNT_QUEUE_DROP] s (State.publish s p code cause) := by
  unfold State.publish
  refine Changes.andThen ?_ (State.publishHops_changes ..) (by decide) (subset_regs (by decide +kernel))
  exact Changes.refl _ _ _

theorem State.linkWake_changes (s : State) :
    Changes [.pce] [.PCE_STATUS] s (State.linkWake s) := by
  unfold State.linkWake
  extract_lets v1 v2
  refine Changes.cut (x := v2) ?_ (fun h3 => ?_)
  · unfold v2
    refine Changes.pce ?_ (by rfl) (by decide +kernel)
    exact Changes.refl _ _ _
  clear_value v2
  refine Changes.ite ?_ ?_
  · refine Changes.setFld ?_ (by decide +kernel)
    assumption
  · assumption

theorem State.msixSend_changes (s : State) (v : Nat) :
    Changes [.outbox, .pce] [.PCE_STATUS] s (State.msixSend s v) := by
  unfold State.msixSend
  refine Changes.emit ?_ (by decide +kernel)
  refine Changes.andThen ?_ (State.linkWake_changes ..) (by decide) (subset_regs (by decide +kernel))
  exact Changes.refl _ _ _

theorem State.setPending_changes (s : State) (v : Nat) (b : Bool) :
    Changes [.pce] [] s (State.setPending s v b) := by
  unfold State.setPending
  refine Changes.pce ?_ (by rfl) (by decide +kernel)
  exact Changes.refl _ _ _

theorem State.msixReq_changes (s : State) (v : Nat) :
    Changes [.outbox, .pce] [.PCE_STATUS, .PCE_CNT_MSIX_DROP] s (State.msixReq s v) := by
  unfold State.msixReq
  refine Changes.ite ?_ ?_
  · exact Changes.refl _ _ _
  · refine Changes.ite ?_ ?_
    · refine Changes.bump ?_ (by decide +kernel)
      exact Changes.refl _ _ _
    · refine Changes.ite ?_ ?_
      · refine Changes.andThen ?_ (State.setPending_changes ..) (by decide) (subset_regs (by decide +kernel))
        exact Changes.refl _ _ _
      · refine Changes.andThen ?_ (State.msixSend_changes ..) (by decide) (subset_regs (by decide +kernel))
        exact Changes.refl _ _ _

theorem State.pceEvent_changes (s : State) :
    Changes [.outbox, .pce] [.PCE_STATUS, .PCE_CNT_MSIX_DROP] s (State.pceEvent s) := by
  unfold State.pceEvent
  refine Changes.ite ?_ ?_
  · refine Changes.andThen ?_ (State.msixReq_changes ..) (by decide) (subset_regs (by decide +kernel))
    exact Changes.refl _ _ _
  · exact Changes.refl _ _ _

theorem State.cfgWr_changes (s : State) (off : Nat) (v : Word) :
    Changes [.pceCfg] [] s (State.cfgWr s off v) := by
  unfold State.cfgWr
  refine Changes.pceCfg ?_ (by decide +kernel)
  exact Changes.refl _ _ _

theorem State.aerNote_changes (s : State) (bit : Nat) :
    Changes [.outbox, .pceCfg] [] s (State.aerNote s bit) := by
  unfold State.aerNote
  extract_lets v1
  refine Changes.cut (x := v1) ?_ (fun h2 => ?_)
  · unfold v1
    refine Changes.andThen ?_ (State.cfgWr_changes ..) (by decide) (subset_regs (by decide +kernel))
    exact Changes.refl _ _ _
  clear_value v1
  refine Changes.ite ?_ ?_
  · refine Changes.emit ?_ (by decide +kernel)
    assumption
  · assumption

theorem State.aerLog_changes (s : State) (bit : Nat) (advisory : Bool) (hdr : List Word) :
    Changes [.outbox, .pceCfg, .pce] [.PCE_STATUS, .PCE_CNT_MSIX_DROP] s (State.aerLog s bit advisory hdr) := by
  unfold State.aerLog
  extract_lets v1 v2 v3 v4 v5 v6 v7 v8
  refine Changes.cut (x := v5) ?_ (fun h9 => ?_)
  · unfold v5
    refine Changes.andThen ?_ (State.cfgWr_changes ..) (by decide) (subset_regs (by decide +kernel))
    exact Changes.refl _ _ _
  refine Changes.cut (x := v6) ?_ (fun h10 => ?_)
  · unfold v6
    refine Changes.andThen ?_ (State.cfgWr_changes ..) (by decide) (subset_regs (by decide +kernel))
    assumption
  refine Changes.cut (x := v7) ?_ (fun h11 => ?_)
  · unfold v7
    refine Changes.ite ?_ ?_
    · assumption
    · refine Changes.ite ?_ ?_
      · refine Changes.andThen ?_ (State.aerNote_changes ..) (by decide) (subset_regs (by decide +kernel))
        assumption
      · refine Changes.andThen ?_ (State.cfgWr_changes ..) (by decide) (subset_regs (by decide +kernel))
        refine Changes.andThen ?_ (State.cfgWr_changes ..) (by decide) (subset_regs (by decide +kernel))
        refine Changes.andThen ?_ (State.cfgWr_changes ..) (by decide) (subset_regs (by decide +kernel))
        refine Changes.andThen ?_ (State.cfgWr_changes ..) (by decide) (subset_regs (by decide +kernel))
        assumption
  refine Changes.cut (x := v8) ?_ (fun h12 => ?_)
  · unfold v8
    refine Changes.ite ?_ ?_
    · refine Changes.andThen ?_ (State.aerNote_changes ..) (by decide) (subset_regs (by decide +kernel))
      assumption
    · refine Changes.ite ?_ ?_
      · assumption
      · refine Changes.ite ?_ ?_
        · refine Changes.ite ?_ ?_
          · refine Changes.emit ?_ (by decide +kernel)
            assumption
          · assumption
        · refine Changes.ite ?_ ?_
          · refine Changes.emit ?_ (by decide +kernel)
            assumption
          · assumption
  clear_value v1
  clear_value v2
  clear_value v3
  clear_value v4
  clear_value v5
  clear_value v6
  clear_value v7
  clear_value v8
  refine Changes.andThen ?_ (State.pceEvent_changes ..) (by decide) (subset_regs (by decide +kernel))
  assumption

theorem State.unsupportedReq_changes (s : State) (posted : Bool) (header : List Word) :
    Changes [.outbox, .pceCfg, .pce] [.PCE_STATUS, .PCE_CNT_MSIX_DROP] s (State.unsupportedReq s posted header) := by
  unfold State.unsupportedReq
  refine Changes.andThen ?_ (State.aerLog_changes ..) (by decide) (subset_regs (by decide +kernel))
  refine Changes.ite ?_ ?_
  · exact Changes.refl _ _ _
  · refine Changes.emit ?_ (by decide +kernel)
    exact Changes.refl _ _ _

theorem State.notice_changes (s : State) (unit : Nat) (inst : Nat) (cause : Nat) (detail : Word) :
    Changes [.outbox, .pce, .helm] [.PCE_STATUS, .PCE_CNT_MSIX_DROP, .HLM_CNT_NOTICE_DROP, .PWR_FAULT_SUMMARY] s
      (State.notice s unit inst cause detail) := by
  unfold State.notice
  extract_lets v1 v2 v3 v4
  refine Changes.cut (x := v3) ?_ (fun h5 => ?_)
  · unfold v3
    refine Changes.ite ?_ ?_
    · refine Changes.helm ?_ (by decide +kernel)
      exact Changes.refl _ _ _
    · refine Changes.bump ?_ (by decide +kernel)
      exact Changes.refl _ _ _
  refine Changes.cut (x := v4) ?_ (fun h6 => ?_)
  · unfold v4
    refine Changes.wr ?_ (by decide +kernel)
    assumption
  clear_value v1
  clear_value v2
  clear_value v3
  clear_value v4
  refine Changes.ite ?_ ?_
  · refine Changes.andThen ?_ (State.msixReq_changes ..) (by decide) (subset_regs (by decide +kernel))
    assumption
  · assumption

theorem State.recordHal_changes (s : State) (r : Reg) (h : Nat) :
    Changes [] allRegs s (State.recordHal s r h) := by
  unfold State.recordHal
  refine Changes.ite ?_ ?_
  · refine Changes.wr ?_ (mem_allRegs _)
    exact Changes.refl _ _ _
  · refine Changes.wr ?_ (mem_allRegs _)
    exact Changes.refl _ _ _

theorem State.refuseHal_changes (s : State) (who : Requester) (h : Nat) (what : Nat) :
    Changes [.outbox, .pce, .helm] allRegs s (State.refuseHal s who h what) := by
  unfold State.refuseHal
  extract_lets v1
  refine Changes.cut (x := v1) ?_ (fun h2 => ?_)
  · unfold v1
    refine Changes.ite ?_ ?_
    · exact Changes.refl _ _ _
    · refine Changes.setFld ?_ (mem_allRegs _)
      refine Changes.setFld ?_ (mem_allRegs _)
      exact Changes.refl _ _ _
  clear_value v1
  refine Changes.andThen ?_ (State.notice_changes ..) (by decide) (subset_allRegs _)
  refine Changes.bump ?_ (mem_allRegs _)
  refine Changes.andThen ?_ (State.recordHal_changes ..) (by decide) (subset_allRegs _)
  assumption

theorem State.journalAdd_changes (s : State) :
    Changes [.freeCtr, .helm] [.HLM_STATUS, .HLM_JOURNAL_USED] s (State.journalAdd s) := by
  unfold State.journalAdd
  split
  rename_i y1 y2 y3 y4
  extract_lets v5 v6
  clear_value v5
  clear_value v6
  refine Changes.ite ?_ ?_
  · refine Changes.wr ?_ (by decide +kernel)
    refine Changes.helm ?_ (by decide +kernel)
    refine Changes.ofPair y4 ?_
    refine Changes.andThen ?_ (State.freeBits_changes ..) (by decide) (subset_regs (by decide +kernel))
    exact Changes.refl _ _ _
  · refine Changes.wr ?_ (by decide +kernel)
    refine Changes.helm ?_ (by decide +kernel)
    refine Changes.ofPair y4 ?_
    refine Changes.andThen ?_ (State.freeBits_changes ..) (by decide) (subset_regs (by decide +kernel))
    exact Changes.refl _ _ _

theorem State.journalRead_changes (s : State) (who : Requester) :
    Changes [.freeCtr, .helm] [.HLM_STATUS, .HLM_JOURNAL_USED] s (State.journalRead s who) := by
  unfold State.journalRead
  refine Changes.ite ?_ ?_
  · refine Changes.andThen ?_ (State.journalAdd_changes ..) (by decide) (subset_regs (by decide +kernel))
    exact Changes.refl _ _ _
  · exact Changes.refl _ _ _

theorem State.setMsix_changes (s : State) (v : Nat) (e : MsixEntry) :
    Changes [.pce] [] s (State.setMsix s v e) := by
  unfold State.setMsix
  refine Changes.pce ?_ (by rfl) (by decide +kernel)
  exact Changes.refl _ _ _

end Sys2Proof.Machine
end

