-- ==== Sys2Proof/Laws/FrameHalyard.lean ====
section
/-!
SUPPORT. What the operations of Machine/Halyard.lean may change: one lemma for each.
-/

set_option Elab.async false

namespace Sys2Proof.Machine

theorem State.setHseq_changes (s : State) (q : Nat) (x : HSeq) :
    Changes [.hal] [] s (State.setHseq s q x) := by
  unfold State.setHseq
  refine Changes.hal ?_ (by decide +kernel)
  exact Changes.refl _ _ _

theorem State.endSeq_changes (s : State) (q : Nat) :
    Changes [.hal] [.HAL_SEQ_RUN] s (State.endSeq s q) := by
  unfold State.endSeq
  refine Changes.wr ?_ (by decide +kernel)
  refine Changes.andThen ?_ (State.setHseq_changes ..) (by decide) (subset_regs (by decide +kernel))
  exact Changes.refl _ _ _

theorem State.seqErr_changes (s : State) (q : Nat) :
    Changes [.hal] [.HAL_SEQ_RUN, .HAL_SEQ_ERR] s (State.seqErr s q) := by
  unfold State.seqErr
  refine Changes.wr ?_ (by decide +kernel)
  refine Changes.andThen ?_ (State.endSeq_changes ..) (by decide) (subset_regs (by decide +kernel))
  exact Changes.refl _ _ _

theorem State.groups_changes (s : State) (en : Nat) (dis : Nat) (met : BitVec 16) :
    Changes [] [.HAL_GROUP_STATE] s (State.groups s en dis met) := by
  unfold State.groups
  refine Changes.wr ?_ (by decide +kernel)
  exact Changes.refl _ _ _

theorem State.seqSlot_changes (s : State) (q : Nat) :
    Changes [.fine, .hal] [] s (State.seqSlot s q) := by
  unfold State.seqSlot
  extract_lets v1 v2
  clear_value v1
  clear_value v2
  refine Changes.upd (t := s) ?_ (by intro p hp; cases p <;> first | rfl | exact absurd (by decide +kernel) hp) rfl (fun h => ⟨h.1, h.2.1, h.2.2.1, h.2.2.2⟩)
  exact Changes.refl _ _ _

theorem State.startSeq_changes (s : State) (q : Nat) (base : Nat) :
    Changes [.hal] [.HAL_SEQ_RUN] s (State.startSeq s q base) := by
  unfold State.startSeq
  refine Changes.wr ?_ (by decide +kernel)
  refine Changes.andThen ?_ (State.setHseq_changes ..) (by decide) (subset_regs (by decide +kernel))
  exact Changes.refl _ _ _

end Sys2Proof.Machine
end

