-- ==== Sys2Proof/Laws/FrameLightOps.lean ====
section
/-!
SUPPORT. What the operations of Machine/LightOps.lean may change: one lemma for each.
-/

set_option Elab.async false

namespace Sys2Proof.Machine

theorem State.pixStart_changes (s : State) :
    Changes [.outbox, .proj] [.LUM_PROJ_STATUS] s (State.pixStart s) := by
  unfold State.pixStart
  extract_lets v1
  clear_value v1
  refine Changes.ite ?_ ?_
  · exact Changes.refl _ _ _
  · refine Changes.emit ?_ (by decide +kernel)
    refine Changes.setFld ?_ (by decide +kernel)
    refine Changes.proj ?_ (by decide +kernel)
    exact Changes.refl _ _ _

theorem State.setLm_changes (s : State) (n : Nat) (x : Lum) :
    Changes [.lum] [] s (State.setLm s n x) := by
  unfold State.setLm
  refine Changes.lum ?_ (by decide +kernel)
  exact Changes.refl _ _ _

theorem State.gateRise_changes (s : State) (n : Nat) (till : Option Nat) :
    Changes [.outbox, .lum] [.LUM_CH_STATUS] s (State.gateRise s n till) := by
  unfold State.gateRise
  extract_lets v1
  clear_value v1
  refine Changes.emit ?_ (by decide +kernel)
  refine Changes.setFld ?_ (by decide +kernel)
  refine Changes.andThen ?_ (State.setLm_changes ..) (by decide) (subset_regs (by decide +kernel))
  exact Changes.refl _ _ _

theorem State.gateFall_changes (s : State) (n : Nat) :
    Changes [.outbox, .lum] [.LUM_CH_STATUS] s (State.gateFall s n) := by
  unfold State.gateFall
  extract_lets v1
  clear_value v1
  refine Changes.emit ?_ (by decide +kernel)
  refine Changes.setFld ?_ (by decide +kernel)
  refine Changes.andThen ?_ (State.setLm_changes ..) (by decide) (subset_regs (by decide +kernel))
  exact Changes.refl _ _ _

theorem State.lumGate_changes (s : State) (n : Nat) :
    Changes [.outbox, .lum] [.LUM_CH_STATUS] s (State.lumGate s n) := by
  unfold State.lumGate
  extract_lets v1 v2 v3 v4 v5 v6 v7
  refine Changes.cut (x := v6) ?_ (fun h8 => ?_)
  · unfold v6
    refine Changes.ite ?_ ?_
    · refine Changes.setFld ?_ (by decide +kernel)
      refine Changes.andThen ?_ (State.setLm_changes ..) (by decide) (subset_regs (by decide +kernel))
      exact Changes.refl _ _ _
    · exact Changes.refl _ _ _
  clear_value v1
  clear_value v2
  clear_value v3
  clear_value v4
  clear_value v5
  clear_value v6
  clear_value v7
  refine Changes.ite ?_ ?_
  · refine Changes.ite ?_ ?_
    · refine Changes.andThen ?_ (State.gateFall_changes ..) (by decide) (subset_regs (by decide +kernel))
      exact Changes.refl _ _ _
    · exact Changes.refl _ _ _
  · refine Changes.ite ?_ ?_
    · exact Changes.refl _ _ _
    · refine Changes.ite ?_ ?_
      · refine Changes.andThen ?_ (State.gateRise_changes ..) (by decide) (subset_regs (by decide +kernel))
        assumption
      · refine Changes.ite ?_ ?_
        · refine Changes.andThen ?_ (State.gateFall_changes ..) (by decide) (subset_regs (by decide +kernel))
          assumption
        · assumption

theorem State.vfStart_changes (s : State) (n : Nat) :
    Changes [.outbox, .lum] [.LUM_CH_STATUS] s (State.vfStart s n) := by
  unfold State.vfStart
  extract_lets v1
  clear_value v1
  refine Changes.ite ?_ ?_
  · exact Changes.refl _ _ _
  · refine Changes.andThen ?_ (State.lumGate_changes ..) (by decide) (subset_regs (by decide +kernel))
    refine Changes.andThen ?_ (State.setLm_changes ..) (by decide) (subset_regs (by decide +kernel))
    exact Changes.refl _ _ _

theorem State.vfAll_changes (a0 : List Nat) (a1 : State) :
    Changes [.outbox, .lum] [.LUM_CH_STATUS] a1 (State.vfAll a0 a1) := by
  fun_induction State.vfAll a0 a1
  · rename_i y1
    exact Changes.refl _ _ _
  · rename_i y2 y3 y4 y5
    refine Changes.trans ?_ y5
    refine Changes.ite ?_ ?_
    · refine Changes.andThen ?_ (State.vfStart_changes ..) (by decide) (subset_regs (by decide +kernel))
      exact Changes.refl _ _ _
    · exact Changes.refl _ _ _

theorem State.lseqStop_changes (s : State) :
    Changes [.proj] [.LUM_PROJ_STATUS] s (State.lseqStop s) := by
  unfold State.lseqStop
  extract_lets v1
  clear_value v1
  refine Changes.setFld ?_ (by decide +kernel)
  refine Changes.proj ?_ (by decide +kernel)
  exact Changes.refl _ _ _

theorem State.lseqAt_changes (s : State) (pc : Nat) (loop : Option SeqLoop) (wait : LumWait) :
    Changes [.proj] [.LUM_PROJ_STATUS] s (State.lseqAt s pc loop wait) := by
  unfold State.lseqAt
  extract_lets v1
  clear_value v1
  refine Changes.setFld ?_ (by decide +kernel)
  refine Changes.proj ?_ (by decide +kernel)
  exact Changes.refl _ _ _

theorem State.pixAbort_changes (s : State) :
    Changes [] [.LUM_PROJ_STATUS] s (State.pixAbort s) := by
  unfold State.pixAbort
  refine Changes.ite ?_ ?_
  · refine Changes.setFld ?_ (by decide +kernel)
    refine Changes.setFld ?_ (by decide +kernel)
    exact Changes.refl _ _ _
  · exact Changes.refl _ _ _

theorem State.gatesOf_changes (s : State) (a1 : List Nat) :
    Changes [.outbox, .lum] [.LUM_CH_STATUS] s (State.gatesOf s a1) := by
  fun_induction State.gatesOf s a1
  · rename_i y1
    exact Changes.refl _ _ _
  · rename_i y2 y3 y4 y5
    refine Changes.trans ?_ y5
    refine Changes.andThen ?_ (State.lumGate_changes ..) (by decide) (subset_regs (by decide +kernel))
    exact Changes.refl _ _ _

theorem State.lumUpdate_changes (s : State) :
    Changes [.outbox, .lum, .proj] [.LUM_CH_STATUS, .LUM_PROJ_STATUS] s (State.lumUpdate s) := by
  unfold State.lumUpdate
  extract_lets v1 v2 v3 v4 v5 v6 v7
  refine Changes.cut (x := v1) ?_ (fun h8 => ?_)
  · unfold v1
    refine Changes.andThen ?_ (State.gatesOf_changes ..) (by decide) (subset_regs (by decide +kernel))
    exact Changes.refl _ _ _
  refine Changes.cut (x := v2) ?_ (fun h9 => ?_)
  · unfold v2
    refine Changes.ite ?_ ?_
    · assumption
    · refine Changes.setFld ?_ (by decide +kernel)
      assumption
  refine Changes.cut (x := v3) ?_ (fun h10 => ?_)
  · unfold v3
    refine Changes.ite ?_ ?_
    · refine Changes.andThen ?_ (State.pixAbort_changes ..) (by decide) (subset_regs (by decide +kernel))
      assumption
    · assumption
  refine Changes.cut (x := v5) ?_ (fun h11 => ?_)
  · unfold v5
    refine Changes.ite ?_ ?_
    · assumption
    · refine Changes.proj ?_ (by decide +kernel)
      assumption
  clear_value v1
  clear_value v2
  clear_value v3
  clear_value v4
  clear_value v5
  clear_value v6
  clear_value v7
  refine Changes.ite ?_ ?_
  · refine Changes.setFld ?_ (by decide +kernel)
    refine Changes.andThen ?_ (State.lseqAt_changes ..) (by decide) (subset_regs (by decide +kernel))
    refine Changes.proj ?_ (by decide +kernel)
    assumption
  · refine Changes.ite ?_ ?_
    · refine Changes.andThen ?_ (State.lseqStop_changes ..) (by decide) (subset_regs (by decide +kernel))
      refine Changes.proj ?_ (by decide +kernel)
      assumption
    · assumption

theorem State.lumDropStrobes_changes (a0 : List Nat) (a1 : State) :
    Changes [.lum] [] a1 (State.lumDropStrobes a0 a1) := by
  fun_induction State.lumDropStrobes a0 a1
  · rename_i y1
    exact Changes.refl _ _ _
  · rename_i y2 y3 y4 y5
    extract_lets v6
    refine Changes.trans ?_ y5
    extract_lets 
    refine Changes.andThen ?_ (State.setLm_changes ..) (by decide) (subset_regs (by decide +kernel))
    exact Changes.refl _ _ _

theorem State.vfDrop_changes (s : State) (n : Nat) :
    Changes [.outbox, .lum] [.LUM_CH_STATUS] s (State.vfDrop s n) := by
  unfold State.vfDrop
  extract_lets v1
  clear_value v1
  refine Changes.ite ?_ ?_
  · refine Changes.andThen ?_ (State.lumGate_changes ..) (by decide) (subset_regs (by decide +kernel))
    refine Changes.andThen ?_ (State.setLm_changes ..) (by decide) (subset_regs (by decide +kernel))
    exact Changes.refl _ _ _
  · exact Changes.refl _ _ _

theorem State.vfDropAll_changes (a0 : List Nat) (a1 : State) :
    Changes [.outbox, .lum] [.LUM_CH_STATUS] a1 (State.vfDropAll a0 a1) := by
  fun_induction State.vfDropAll a0 a1
  · rename_i y1
    exact Changes.refl _ _ _
  · rename_i y2 y3 y4 y5
    refine Changes.trans ?_ y5
    refine Changes.andThen ?_ (State.vfDrop_changes ..) (by decide) (subset_regs (by decide +kernel))
    exact Changes.refl _ _ _

theorem State.lumModeChange_changes (s : State) (old : Nat) :
    Changes [.outbox, .lum, .proj] [.LUM_CH_STATUS, .LUM_PROJ_STATUS] s (State.lumModeChange s old) := by
  unfold State.lumModeChange
  extract_lets v1 v2 v3 v4 v5 v6
  refine Changes.cut (x := v1) ?_ (fun h7 => ?_)
  · unfold v1
    refine Changes.ite ?_ ?_
    · refine Changes.andThen ?_ (State.pixAbort_changes ..) (by decide) (subset_regs (by decide +kernel))
      refine Changes.andThen ?_ (State.vfDropAll_changes ..) (by decide) (subset_regs (by decide +kernel))
      exact Changes.refl _ _ _
    · exact Changes.refl _ _ _
  refine Changes.cut (x := v2) ?_ (fun h8 => ?_)
  · unfold v2
    refine Changes.ite ?_ ?_
    · assumption
    · refine Changes.andThen ?_ (State.lumDropStrobes_changes ..) (by decide) (subset_regs (by decide +kernel))
      assumption
  refine Changes.cut (x := v3) ?_ (fun h9 => ?_)
  · unfold v3
    refine Changes.andThen ?_ (State.lumUpdate_changes ..) (by decide) (subset_regs (by decide +kernel))
    assumption
  refine Changes.cut (x := v5) ?_ (fun h10 => ?_)
  · unfold v5
    refine Changes.proj ?_ (by decide +kernel)
    assumption
  refine Changes.cut (x := v6) ?_ (fun h11 => ?_)
  · unfold v6
    refine Changes.andThen ?_ (State.vfAll_changes ..) (by decide) (subset_regs (by decide +kernel))
    assumption
  clear_value v1
  clear_value v2
  clear_value v3
  clear_value v4
  clear_value v5
  clear_value v6
  refine Changes.ite ?_ ?_
  · refine Changes.ite ?_ ?_
    · refine Changes.andThen ?_ (State.pixStart_changes ..) (by decide) (subset_regs (by decide +kernel))
      assumption
    · assumption
  · assumption

theorem State.strobeCause_changes (s : State) (n : Nat) (t : Nat) :
    Changes [.outbox, .lum] [.LUM_CH_STATUS, .LUM_CNT_OVERLAP, .LUM_CNT_DIAG_ABORT] s (State.strobeCause s n t) := by
  unfold State.strobeCause
  extract_lets v1 v2 v3 v4 v5 v6 v7 v8
  refine Changes.cut (x := v6) ?_ (fun h9 => ?_)
  · unfold v6
    refine Changes.andThen ?_ (State.setLm_changes ..) (by decide) (subset_regs (by decide +kernel))
    exact Changes.refl _ _ _
  refine Changes.cut (x := v7) ?_ (fun h10 => ?_)
  · unfold v7
    refine Changes.ite ?_ ?_
    · refine Changes.andThen ?_ (State.lumGate_changes ..) (by decide) (subset_regs (by decide +kernel))
      refine Changes.bump ?_ (by decide +kernel)
      assumption
    · assumption
  clear_value v1
  clear_value v2
  clear_value v3
  clear_value v4
  clear_value v5
  clear_value v6
  clear_value v7
  clear_value v8
  refine Changes.ite ?_ ?_
  · exact Changes.refl _ _ _
  · refine Changes.ite ?_ ?_
    · refine Changes.bump ?_ (by decide +kernel)
      assumption
    · refine Changes.ite ?_ ?_
      · assumption
      · refine Changes.andThen ?_ (State.setLm_changes ..) (by decide) (subset_regs (by decide +kernel))
        assumption

theorem State.swapReq_changes (s : State) :
    Changes [] [.LUM_PROJ_STATUS] s (State.swapReq s) := by
  unfold State.swapReq
  refine Changes.setFld ?_ (by decide +kernel)
  exact Changes.refl _ _ _

theorem State.lumPublish_changes (s : State) (n : Nat) (code : Nat) :
    Changes [.hal] [.HAL_CNT_QUEUE_DROP] s (State.lumPublish s n code) := by
  unfold State.lumPublish
  refine Changes.andThen ?_ (State.publish_changes ..) (by decide) (subset_regs (by decide +kernel))
  exact Changes.refl _ _ _

theorem State.lumFault_changes (s : State) (n : Nat) (bit : Nat) :
    Changes [.outbox, .lum, .hal, .pce, .helm] [.LUM_CH_STATUS, .LUM_CH_FAULT, .HAL_CNT_QUEUE_DROP, .PCE_STATUS,
      .PCE_CNT_MSIX_DROP, .HLM_CNT_NOTICE_DROP, .PWR_FAULT_SUMMARY] s (State.lumFault s n bit) := by
  unfold State.lumFault
  extract_lets v1
  refine Changes.cut (x := v1) ?_ (fun h2 => ?_)
  · unfold v1
    refine Changes.wr ?_ (by decide +kernel)
    exact Changes.refl _ _ _
  clear_value v1
  refine Changes.ite ?_ ?_
  · exact Changes.refl _ _ _
  · refine Changes.andThen ?_ (State.notice_changes ..) (by decide) (subset_regs (by decide +kernel))
    refine Changes.andThen ?_ (State.lumPublish_changes ..) (by decide) (subset_regs (by decide +kernel))
    refine Changes.andThen ?_ (State.lumGate_changes ..) (by decide) (subset_regs (by decide +kernel))
    assumption

theorem State.strobeHalyard_changes (s : State) (n : Nat) (t : Nat) :
    Changes [.outbox, .lum] [.LUM_CH_STATUS, .LUM_CNT_OVERLAP, .LUM_CNT_DIAG_ABORT] s (State.strobeHalyard s n t) := by
  unfold State.strobeHalyard
  refine Changes.ite ?_ ?_
  · refine Changes.andThen ?_ (State.strobeCause_changes ..) (by decide) (subset_regs (by decide +kernel))
    exact Changes.refl _ _ _
  · exact Changes.refl _ _ _

theorem State.strobeFrom_changes (src : Nat) (idx : Nat) (t : Nat) (a3 : List Nat) (a4 : State) :
    Changes [.outbox, .lum] [.LUM_CH_STATUS, .LUM_CNT_OVERLAP, .LUM_CNT_DIAG_ABORT] a4 (State.strobeFrom src idx t
      a3 a4) := by
  fun_induction State.strobeFrom src idx t a3 a4
  · rename_i y1
    exact Changes.refl _ _ _
  · rename_i y2 y3 y4 y5
    refine Changes.trans ?_ y5
    refine Changes.ite ?_ ?_
    · refine Changes.andThen ?_ (State.strobeCause_changes ..) (by decide) (subset_regs (by decide +kernel))
      exact Changes.refl _ _ _
    · exact Changes.refl _ _ _

theorem State.strobeSchedule_changes (s : State) (i : Nat) (t : Nat) :
    Changes [.outbox, .lum] [.LUM_CH_STATUS, .LUM_CNT_OVERLAP, .LUM_CNT_DIAG_ABORT] s (State.strobeSchedule s i t) := by
  unfold State.strobeSchedule
  refine Changes.andThen ?_ (State.strobeFrom_changes ..) (by decide) (subset_regs (by decide +kernel))
  exact Changes.refl _ _ _

theorem State.strobePort_changes (s : State) (p : Nat) (t : Nat) :
    Changes [.outbox, .lum] [.LUM_CH_STATUS, .LUM_CNT_OVERLAP, .LUM_CNT_DIAG_ABORT] s (State.strobePort s p t) := by
  unfold State.strobePort
  refine Changes.ite ?_ ?_
  · refine Changes.andThen ?_ (State.strobeFrom_changes ..) (by decide) (subset_regs (by decide +kernel))
    exact Changes.refl _ _ _
  · exact Changes.refl _ _ _

end Sys2Proof.Machine
end

