-- ==== Sys2Proof/Laws/FrameLight.lean ====
section
/-!
SUPPORT. What the operations of Machine/Light.lean may change: one lemma for each.
-/

set_option Elab.async false

namespace Sys2Proof.Machine

theorem State.strobeMask_changes (mask : Nat) (a1 : List Nat) (a2 : State) :
    Changes [.outbox, .lum] [.LUM_CH_STATUS, .LUM_CNT_OVERLAP, .LUM_CNT_DIAG_ABORT] a2 (State.strobeMask mask a1
      a2) := by
  fun_induction State.strobeMask mask a1 a2
  · rename_i y1
    exact Changes.refl _ _ _
  · rename_i y2 y3 y4 y5
    refine Changes.trans ?_ y5
    refine Changes.ite ?_ ?_
    · refine Changes.andThen ?_ (State.strobeCause_changes ..) (by decide) (subset_regs (by decide +kernel))
      exact Changes.refl _ _ _
    · exact Changes.refl _ _ _

theorem State.lseqNext_changes (s : State) (w : LumWait) :
    Changes [.proj] [.LUM_PROJ_STATUS] s (State.lseqNext s w) := by
  unfold State.lseqNext
  extract_lets v1
  clear_value v1
  refine Changes.andThen ?_ (State.lseqAt_changes ..) (by decide) (subset_regs (by decide +kernel))
  exact Changes.refl _ _ _

theorem State.lseqErr_changes (s : State) :
    Changes [.proj] [.LUM_PROJ_STATUS] s (State.lseqErr s) := by
  unfold State.lseqErr
  refine Changes.setFld ?_ (by decide +kernel)
  refine Changes.andThen ?_ (State.lseqStop_changes ..) (by decide) (subset_regs (by decide +kernel))
  exact Changes.refl _ _ _

theorem State.copyPat_changes (src : Nat) (dst : Nat) (a2 : List Nat) (a3 : State) :
    Changes [.bar0] [] a3 (State.copyPat src dst a2 a3) := by
  fun_induction State.copyPat src dst a2 a3
  · rename_i y1
    exact Changes.refl _ _ _
  · rename_i y2 y3 y4 y5
    refine Changes.trans ?_ y5
    refine Changes.memWr ?_ (by decide +kernel)
    exact Changes.refl _ _ _

theorem State.lseqEvent_changes (s : State) (k : Nat) (e : HEv) :
    Changes [.proj] [] s (State.lseqEvent s k e) := by
  unfold State.lseqEvent
  extract_lets v1
  clear_value v1
  refine Changes.ite ?_ ?_
  · refine Changes.proj ?_ (by decide +kernel)
    exact Changes.refl _ _ _
  · refine Changes.proj ?_ (by decide +kernel)
    exact Changes.refl _ _ _

theorem State.frameStart_changes (s : State) :
    Changes [.proj] [.LUM_PROJ_STATUS] s (State.frameStart s) := by
  unfold State.frameStart
  extract_lets v1 v2 v3 v4
  refine Changes.cut (x := v2) ?_ (fun h5 => ?_)
  · unfold v2
    refine Changes.proj ?_ (by decide +kernel)
    exact Changes.refl _ _ _
  refine Changes.cut (x := v3) ?_ (fun h6 => ?_)
  · unfold v3
    refine Changes.setFld ?_ (by decide +kernel)
    refine Changes.setFld ?_ (by decide +kernel)
    assumption
  clear_value v1
  clear_value v2
  clear_value v3
  clear_value v4
  refine Changes.ite ?_ ?_
  · refine Changes.ite ?_ ?_
    · refine Changes.proj ?_ (by decide +kernel)
      assumption
    · assumption
  · assumption

end Sys2Proof.Machine
end

