-- ==== Sys2Proof/Laws/FrameSheetOps.lean ====
section
/-!
SUPPORT. What the operations of Machine/SheetOps.lean may change: one lemma for each.
-/

set_option Elab.async false

namespace Sys2Proof.Machine

theorem State.setSh_changes (s : State) (n : Nat) (x : Sht) :
    Changes [.sht] [] s (State.setSh s n x) := by
  unfold State.setSh
  refine Changes.sht ?_ (by decide +kernel)
  exact Changes.refl _ _ _

theorem State.shUnit_changes (s : State) (n : Nat) (source : Nat) (body : List Byte) :
    Changes [.sht] [.SHT_CNT_LOG_DROP] s (State.shUnit s n source body) := by
  unfold State.shUnit
  extract_lets v1 v2
  clear_value v1
  clear_value v2
  refine Changes.ite ?_ ?_
  · refine Changes.andThen ?_ (State.setSh_changes ..) (by decide) (subset_regs (by decide +kernel))
    exact Changes.refl _ _ _
  · refine Changes.bump ?_ (by decide +kernel)
    exact Changes.refl _ _ _

theorem State.shDelaySeen_changes (s : State) (n : Nat) (d : Nat) :
    Changes [] [.SHT_LAST_DELAY, .SHT_DELAY_MAX] s (State.shDelaySeen s n d) := by
  unfold State.shDelaySeen
  extract_lets v1
  refine Changes.cut (x := v1) ?_ (fun h2 => ?_)
  · unfold v1
    refine Changes.wr ?_ (by decide +kernel)
    exact Changes.refl _ _ _
  clear_value v1
  refine Changes.ite ?_ ?_
  · refine Changes.wr ?_ (by decide +kernel)
    assumption
  · assumption

theorem State.shLog_changes (s : State) (n : Nat) (x : Sample) (apply : Option Nat) :
    Changes [.sht] [.SHT_STATUS, .SHT_LAST_DELAY, .SHT_DELAY_MAX, .SHT_CNT_LOG_DROP] s (State.shLog s n x apply) := by
  unfold State.shLog
  extract_lets v1 v2 v3 v4 v5 v6 v7
  refine Changes.cut (x := v2) ?_ (fun h8 => ?_)
  · unfold v2
    refine Changes.ite ?_ ?_
    · refine Changes.andThen ?_ (State.shDelaySeen_changes ..) (by decide) (subset_regs (by decide +kernel))
      exact Changes.refl _ _ _
    · exact Changes.refl _ _ _
  refine Changes.cut (x := v3) ?_ (fun h9 => ?_)
  · unfold v3
    refine Changes.andThen ?_ (State.shUnit_changes ..) (by decide) (subset_regs (by decide +kernel))
    assumption
  refine Changes.cut (x := v4) ?_ (fun h10 => ?_)
  · unfold v4
    refine Changes.andThen ?_ (State.shUnit_changes ..) (by decide) (subset_regs (by decide +kernel))
    assumption
  refine Changes.cut (x := v7) ?_ (fun h11 => ?_)
  · unfold v7
    refine Changes.andThen ?_ (State.setSh_changes ..) (by decide) (subset_regs (by decide +kernel))
    assumption
  clear_value v1
  clear_value v2
  clear_value v3
  clear_value v4
  clear_value v5
  clear_value v6
  clear_value v7
  refine Changes.ite ?_ ?_
  · assumption
  · refine Changes.ite ?_ ?_
    · assumption
    · refine Changes.ite ?_ ?_
      · refine Changes.setFld ?_ (by decide +kernel)
        assumption
      · assumption

theorem State.shTransition_changes (s : State) (n : Nat) :
    Changes [.sht] [.SHT_STATUS, .SHT_LAST_DELAY, .SHT_DELAY_MAX, .SHT_CNT_LOG_DROP] s (State.shTransition s n) := by
  unfold State.shTransition
  extract_lets v1
  clear_value v1
  refine Changes.andThen ?_ (State.shLog_changes ..) (by decide) (subset_regs (by decide +kernel))
  exact Changes.refl _ _ _

theorem State.shSupersede_changes (s : State) (n : Nat) :
    Changes [.sht] [.SHT_STATUS, .SHT_LAST_DELAY, .SHT_DELAY_MAX, .SHT_CNT_SUPERSEDED, .SHT_CNT_LOG_DROP] s
      (State.shSupersede s n) := by
  unfold State.shSupersede
  split
  · rename_i y1 y2
    exact Changes.refl _ _ _
  · rename_i y3 y4 y5
    extract_lets v6
    clear_value v6
    refine Changes.andThen ?_ (State.shLog_changes ..) (by decide) (subset_regs (by decide +kernel))
    refine Changes.bump ?_ (by decide +kernel)
    refine Changes.andThen ?_ (State.setSh_changes ..) (by decide) (subset_regs (by decide +kernel))
    exact Changes.refl _ _ _

theorem State.shOut_changes (s : State) (n : Nat) (o : Int) :
    Changes [.sht] [.SHT_LAST_OUT] s (State.shOut s n o) := by
  unfold State.shOut
  extract_lets v1
  clear_value v1
  refine Changes.wr ?_ (by decide +kernel)
  refine Changes.andThen ?_ (State.setSh_changes ..) (by decide) (subset_regs (by decide +kernel))
  exact Changes.refl _ _ _

theorem State.shForward_changes (s : State) (n : Nat) :
    Changes [.sht] [.SHT_STATUS, .SHT_LAST_OUT, .SHT_LAST_DELAY, .SHT_DELAY_MAX, .SHT_CNT_SUPERSEDED,
      .SHT_CNT_LOG_DROP] s (State.shForward s n) := by
  unfold State.shForward
  extract_lets v1
  clear_value v1
  refine Changes.ite ?_ ?_
  · refine Changes.ite ?_ ?_
    · exact Changes.refl _ _ _
    · refine Changes.andThen ?_ (State.shOut_changes ..) (by decide) (subset_regs (by decide +kernel))
      refine Changes.andThen ?_ (State.shSupersede_changes ..) (by decide) (subset_regs (by decide +kernel))
      exact Changes.refl _ _ _
  · exact Changes.refl _ _ _

theorem State.shMissRun_changes (s : State) (n : Nat) (k : Nat) :
    Changes [] [.SHT_STATUS] s (State.shMissRun s n k) := by
  unfold State.shMissRun
  refine Changes.setFld ?_ (by decide +kernel)
  exact Changes.refl _ _ _

theorem State.shTuneEnd_changes (s : State) (n : Nat) :
    Changes [.sht] [.SHT_STATUS, .SHT_LAST_OUT, .SHT_LAST_DELAY, .SHT_DELAY_MAX, .SHT_CNT_SUPERSEDED,
      .SHT_CNT_LOG_DROP] s (State.shTuneEnd s n) := by
  unfold State.shTuneEnd
  extract_lets v1
  clear_value v1
  refine Changes.ite ?_ ?_
  · refine Changes.andThen ?_ (State.shForward_changes ..) (by decide) (subset_regs (by decide +kernel))
    refine Changes.andThen ?_ (State.setSh_changes ..) (by decide) (subset_regs (by decide +kernel))
    refine Changes.setFld ?_ (by decide +kernel)
    exact Changes.refl _ _ _
  · exact Changes.refl _ _ _

theorem State.shGoto_changes (s : State) (n : Nat) (st : Nat) :
    Changes [.sht, .hal] [.SHT_STATUS, .SHT_I_STATE, .SHT_LAST_OUT, .SHT_LAST_FRAME, .SHT_LAST_DELAY,
      .SHT_DELAY_MAX, .SHT_CNT_FALLBACK, .SHT_CNT_SUPERSEDED, .SHT_CNT_LOG_DROP, .HAL_CNT_QUEUE_DROP] s
      (State.shGoto s n st) := by
  unfold State.shGoto
  extract_lets v1 v2 v3 v4 v5 v6 v7 v8 v9 v10 v11
  refine Changes.cut (x := v2) ?_ (fun h12 => ?_)
  · unfold v2
    refine Changes.setFld ?_ (by decide +kernel)
    exact Changes.refl _ _ _
  refine Changes.cut (x := v3) ?_ (fun h13 => ?_)
  · unfold v3
    refine Changes.andThen ?_ (State.shSupersede_changes ..) (by decide) (subset_regs (by decide +kernel))
    refine Changes.andThen ?_ (State.shTuneEnd_changes ..) (by decide) (subset_regs (by decide +kernel))
    assumption
  refine Changes.cut (x := v5) ?_ (fun h14 => ?_)
  · unfold v5
    refine Changes.andThen ?_ (State.setSh_changes ..) (by decide) (subset_regs (by decide +kernel))
    assumption
  refine Changes.cut (x := v6) ?_ (fun h15 => ?_)
  · unfold v6
    refine Changes.wr ?_ (by decide +kernel)
    refine Changes.wr ?_ (by decide +kernel)
    refine Changes.andThen ?_ (State.shOut_changes ..) (by decide) (subset_regs (by decide +kernel))
    assumption
  refine Changes.cut (x := v9) ?_ (fun h16 => ?_)
  · unfold v9
    refine Changes.andThen ?_ (State.setSh_changes ..) (by decide) (subset_regs (by decide +kernel))
    assumption
  refine Changes.cut (x := v10) ?_ (fun h17 => ?_)
  · unfold v10
    refine Changes.setFld ?_ (by decide +kernel)
    refine Changes.bump ?_ (by decide +kernel)
    assumption
  refine Changes.cut (x := v11) ?_ (fun h18 => ?_)
  · unfold v11
    refine Changes.ite ?_ ?_
    · refine Changes.andThen ?_ (State.shMissRun_changes ..) (by decide) (subset_regs (by decide +kernel))
      refine Changes.setFld ?_ (by decide +kernel)
      assumption
    · refine Changes.ite ?_ ?_
      · refine Changes.andThen ?_ (State.shForward_changes ..) (by decide) (subset_regs (by decide +kernel))
        refine Changes.andThen ?_ (State.shMissRun_changes ..) (by decide) (subset_regs (by decide +kernel))
        refine Changes.andThen ?_ (State.setSh_changes ..) (by decide) (subset_regs (by decide +kernel))
        assumption
      · refine Changes.ite ?_ ?_
        · refine Changes.andThen ?_ (State.setSh_changes ..) (by decide) (subset_regs (by decide +kernel))
          assumption
        · refine Changes.ite ?_ ?_
          · refine Changes.andThen ?_ (State.setSh_changes ..) (by decide) (subset_regs (by decide +kernel))
            assumption
          · refine Changes.ite ?_ ?_
            · refine Changes.andThen ?_ (State.shForward_changes ..) (by decide) (subset_regs (by decide +kernel))
              refine Changes.andThen ?_ (State.publish_changes ..) (by decide) (subset_regs (by decide +kernel))
              assumption
            · assumption
  clear_value v1
  clear_value v2
  clear_value v3
  clear_value v4
  clear_value v5
  clear_value v6
  clear_value v7
  clear_value v8
  clear_value v9
  clear_value v10
  clear_value v11
  refine Changes.ite ?_ ?_
  · exact Changes.refl _ _ _
  · refine Changes.andThen ?_ (State.shTransition_changes ..) (by decide) (subset_regs (by decide +kernel))
    assumption

theorem State.shEngage_changes (s : State) (n : Nat) :
    Changes [.sht, .hal] [.SHT_STATUS, .SHT_I_STATE, .SHT_LAST_OUT, .SHT_LAST_FRAME, .SHT_LAST_DELAY,
      .SHT_DELAY_MAX, .SHT_CNT_FALLBACK, .SHT_CNT_SUPERSEDED, .SHT_CNT_LOG_DROP, .HAL_CNT_QUEUE_DROP] s
      (State.shEngage s n) := by
  unfold State.shEngage
  extract_lets v1
  clear_value v1
  refine Changes.ite ?_ ?_
  · exact Changes.refl _ _ _
  · refine Changes.ite ?_ ?_
    · refine Changes.ite ?_ ?_
      · refine Changes.andThen ?_ (State.shGoto_changes ..) (by decide) (subset_regs (by decide +kernel))
        exact Changes.refl _ _ _
      · exact Changes.refl _ _ _
    · refine Changes.andThen ?_ (State.shGoto_changes ..) (by decide) (subset_regs (by decide +kernel))
      exact Changes.refl _ _ _

theorem State.setSc_changes (s : State) (n : Nat) (x : Scn) :
    Changes [.scn] [] s (State.setSc s n x) := by
  unfold State.setSc
  refine Changes.scn ?_ (by decide +kernel)
  exact Changes.refl _ _ _

theorem State.setBc_changes (s : State) (n : Nat) (x : Bch) :
    Changes [.bch] [] s (State.setBc s n x) := by
  unfold State.setBc
  refine Changes.bch ?_ (by decide +kernel)
  exact Changes.refl _ _ _

theorem State.shEnable_changes (s : State) (n : Nat) :
    Changes [.sht, .hal] [.SHT_STATUS, .SHT_I_STATE, .SHT_LAST_OUT, .SHT_LAST_FRAME, .SHT_LAST_DELAY,
      .SHT_DELAY_MAX, .SHT_CNT_FALLBACK, .SHT_CNT_SUPERSEDED, .SHT_CNT_LOG_DROP, .HAL_CNT_QUEUE_DROP] s
      (State.shEnable s n) := by
  unfold State.shEnable
  extract_lets v1
  refine Changes.cut (x := v1) ?_ (fun h2 => ?_)
  · unfold v1
    refine Changes.ite ?_ ?_
    · refine Changes.andThen ?_ (State.shGoto_changes ..) (by decide) (subset_regs (by decide +kernel))
      exact Changes.refl _ _ _
    · exact Changes.refl _ _ _
  clear_value v1
  refine Changes.ite ?_ ?_
  · exact Changes.refl _ _ _
  · refine Changes.ite ?_ ?_
    · refine Changes.andThen ?_ (State.shForward_changes ..) (by decide) (subset_regs (by decide +kernel))
      refine Changes.andThen ?_ (State.shEngage_changes ..) (by decide) (subset_regs (by decide +kernel))
      assumption
    · refine Changes.andThen ?_ (State.shGoto_changes ..) (by decide) (subset_regs (by decide +kernel))
      exact Changes.refl _ _ _

theorem State.shApplied_changes (s : State) (n : Nat) (x : Sample) (t : Nat) :
    Changes [.sht] [.SHT_STATUS, .SHT_LAST_OUT, .SHT_LAST_DELAY, .SHT_DELAY_MAX, .SHT_CNT_SUPERSEDED,
      .SHT_CNT_LOG_DROP] s (State.shApplied s n x t) := by
  unfold State.shApplied
  extract_lets v1 v2
  refine Changes.cut (x := v2) ?_ (fun h3 => ?_)
  · unfold v2
    refine Changes.andThen ?_ (State.shLog_changes ..) (by decide) (subset_regs (by decide +kernel))
    refine Changes.andThen ?_ (State.setSh_changes ..) (by decide) (subset_regs (by decide +kernel))
    exact Changes.refl _ _ _
  clear_value v1
  clear_value v2
  refine Changes.ite ?_ ?_
  · assumption
  · refine Changes.andThen ?_ (State.shForward_changes ..) (by decide) (subset_regs (by decide +kernel))
    assumption

theorem State.shTuneDone_changes (s : State) (n : Nat) :
    Changes [.sht] [.SHT_STATUS, .SHT_LAST_OUT, .SHT_LAST_DELAY, .SHT_DELAY_MAX, .SHT_CNT_SUPERSEDED,
      .SHT_CNT_LOG_DROP] s (State.shTuneDone s n) := by
  unfold State.shTuneDone
  extract_lets v1
  clear_value v1
  refine Changes.ite ?_ ?_
  · refine Changes.ite ?_ ?_
    · refine Changes.andThen ?_ (State.setSh_changes ..) (by decide) (subset_regs (by decide +kernel))
      refine Changes.setFld ?_ (by decide +kernel)
      exact Changes.refl _ _ _
    · refine Changes.andThen ?_ (State.shTuneEnd_changes ..) (by decide) (subset_regs (by decide +kernel))
      exact Changes.refl _ _ _
  · exact Changes.refl _ _ _

theorem State.shMiss_changes (s : State) (n : Nat) :
    Changes [.sht, .hal] [.SHT_STATUS, .SHT_I_STATE, .SHT_LAST_OUT, .SHT_LAST_FRAME, .SHT_LAST_DELAY,
      .SHT_DELAY_MAX, .SHT_CNT_MISS, .SHT_CNT_FALLBACK, .SHT_CNT_SUPERSEDED, .SHT_CNT_LOG_DROP,
      .HAL_CNT_QUEUE_DROP] s (State.shMiss s n) := by
  unfold State.shMiss
  extract_lets v1 v2 v3 v4 v5
  refine Changes.cut (x := v3) ?_ (fun h6 => ?_)
  · unfold v3
    refine Changes.andThen ?_ (State.shMissRun_changes ..) (by decide) (subset_regs (by decide +kernel))
    refine Changes.bump ?_ (by decide +kernel)
    refine Changes.andThen ?_ (State.setSh_changes ..) (by decide) (subset_regs (by decide +kernel))
    exact Changes.refl _ _ _
  refine Changes.cut (x := v5) ?_ (fun h7 => ?_)
  · unfold v5
    refine Changes.ite ?_ ?_
    · refine Changes.andThen ?_ (State.shGoto_changes ..) (by decide) (subset_regs (by decide +kernel))
      assumption
    · assumption
  clear_value v1
  clear_value v2
  clear_value v3
  clear_value v4
  clear_value v5
  refine Changes.ite ?_ ?_
  · refine Changes.andThen ?_ (State.shGoto_changes ..) (by decide) (subset_regs (by decide +kernel))
    assumption
  · assumption

theorem State.pathValues_changes (s : State) (n : Nat) (p : Int) (v : Int) :
    Changes [.sht] [.SHT_STATUS, .SHT_LAST_OUT, .SHT_LAST_DELAY, .SHT_DELAY_MAX, .SHT_CNT_SUPERSEDED,
      .SHT_CNT_LOG_DROP] s (State.pathValues s n p v) := by
  unfold State.pathValues
  extract_lets v1 v2
  refine Changes.cut (x := v2) ?_ (fun h3 => ?_)
  · unfold v2
    refine Changes.andThen ?_ (State.setSh_changes ..) (by decide) (subset_regs (by decide +kernel))
    exact Changes.refl _ _ _
  clear_value v1
  clear_value v2
  refine Changes.ite ?_ ?_
  · exact Changes.refl _ _ _
  · refine Changes.ite ?_ ?_
    · assumption
    · refine Changes.andThen ?_ (State.shForward_changes ..) (by decide) (subset_regs (by decide +kernel))
      assumption

end Sys2Proof.Machine
end

