-- ==== Sys2Proof/Laws/FrameBeamOps.lean ====
section
/-!
SUPPORT. What the operations of Machine/BeamOps.lean may change: one lemma for each.
-/

set_option Elab.async false

namespace Sys2Proof.Machine

theorem State.preCode_changes (s : State) (n : Nat) :
    Changes [.outbox, .bch] [] s (State.preCode s n) := by
  unfold State.preCode
  extract_lets v1 v2
  clear_value v1
  clear_value v2
  refine Changes.ite ?_ ?_
  · exact Changes.refl _ _ _
  · refine Changes.emit ?_ (by decide +kernel)
    refine Changes.andThen ?_ (State.setBc_changes ..) (by decide) (subset_regs (by decide +kernel))
    exact Changes.refl _ _ _

theorem State.beamGate_changes (s : State) (n : Nat) :
    Changes [.outbox, .sht, .bch, .hal] [.SHT_STATUS, .SHT_I_STATE, .SHT_LAST_OUT, .SHT_LAST_FRAME,
      .SHT_LAST_DELAY, .SHT_DELAY_MAX, .SHT_CNT_FALLBACK, .SHT_CNT_SUPERSEDED, .SHT_CNT_LOG_DROP, .BCH_STATUS,
      .HAL_CNT_QUEUE_DROP] s (State.beamGate s n) := by
  unfold State.beamGate
  extract_lets v1 v2 v3 v4 v5 v6
  refine Changes.cut (x := v3) ?_ (fun h7 => ?_)
  · unfold v3
    refine Changes.setFld ?_ (by decide +kernel)
    refine Changes.setFld ?_ (by decide +kernel)
    refine Changes.setFld ?_ (by decide +kernel)
    exact Changes.refl _ _ _
  refine Changes.cut (x := v4) ?_ (fun h8 => ?_)
  · unfold v4
    refine Changes.andThen ?_ (State.preCode_changes ..) (by decide) (subset_regs (by decide +kernel))
    assumption
  refine Changes.cut (x := v6) ?_ (fun h9 => ?_)
  · unfold v6
    refine Changes.emit ?_ (by decide +kernel)
    refine Changes.andThen ?_ (State.setBc_changes ..) (by decide) (subset_regs (by decide +kernel))
    assumption
  clear_value v1
  clear_value v2
  clear_value v3
  clear_value v4
  clear_value v5
  clear_value v6
  refine Changes.ite ?_ ?_
  · assumption
  · refine Changes.ite ?_ ?_
    · refine Changes.andThen ?_ (State.shEngage_changes ..) (by decide) (subset_regs (by decide +kernel))
      refine Changes.emit ?_ (by decide +kernel)
      refine Changes.andThen ?_ (State.setBc_changes ..) (by decide) (subset_regs (by decide +kernel))
      assumption
    · refine Changes.andThen ?_ (State.shEngage_changes ..) (by decide) (subset_regs (by decide +kernel))
      refine Changes.ite ?_ ?_
      · refine Changes.emit ?_ (by decide +kernel)
        assumption
      · assumption

theorem State.setWant_changes (s : State) (n : Nat) (b : Bool) :
    Changes [.outbox, .sht, .bch, .hal] [.SHT_STATUS, .SHT_I_STATE, .SHT_LAST_OUT, .SHT_LAST_FRAME,
      .SHT_LAST_DELAY, .SHT_DELAY_MAX, .SHT_CNT_FALLBACK, .SHT_CNT_SUPERSEDED, .SHT_CNT_LOG_DROP, .BCH_STATUS,
      .HAL_CNT_QUEUE_DROP] s (State.setWant s n b) := by
  unfold State.setWant
  extract_lets v1
  clear_value v1
  refine Changes.andThen ?_ (State.beamGate_changes ..) (by decide) (subset_regs (by decide +kernel))
  refine Changes.andThen ?_ (State.setBc_changes ..) (by decide) (subset_regs (by decide +kernel))
  exact Changes.refl _ _ _

theorem State.gatesFrom_changes (s : State) (a1 : List Nat) :
    Changes [.outbox, .sht, .bch, .hal] [.SHT_STATUS, .SHT_I_STATE, .SHT_LAST_OUT, .SHT_LAST_FRAME,
      .SHT_LAST_DELAY, .SHT_DELAY_MAX, .SHT_CNT_FALLBACK, .SHT_CNT_SUPERSEDED, .SHT_CNT_LOG_DROP, .BCH_STATUS,
      .HAL_CNT_QUEUE_DROP] s (State.gatesFrom s a1) := by
  fun_induction State.gatesFrom s a1
  · rename_i y1
    exact Changes.refl _ _ _
  · rename_i y2 y3 y4 y5
    refine Changes.trans ?_ y5
    refine Changes.ite ?_ ?_
    · refine Changes.andThen ?_ (State.beamGate_changes ..) (by decide) (subset_regs (by decide +kernel))
      exact Changes.refl _ _ _
    · exact Changes.refl _ _ _

theorem State.allGates_changes (s : State) :
    Changes [.outbox, .sht, .bch, .hal] [.SHT_STATUS, .SHT_I_STATE, .SHT_LAST_OUT, .SHT_LAST_FRAME,
      .SHT_LAST_DELAY, .SHT_DELAY_MAX, .SHT_CNT_FALLBACK, .SHT_CNT_SUPERSEDED, .SHT_CNT_LOG_DROP, .BCH_STATUS,
      .HAL_CNT_QUEUE_DROP] s (State.allGates s) := by
  unfold State.allGates
  refine Changes.andThen ?_ (State.gatesFrom_changes ..) (by decide) (subset_regs (by decide +kernel))
  exact Changes.refl _ _ _

end Sys2Proof.Machine
end

