-- ==== Sys2Proof/Laws/FrameScanOps.lean ====
section
/-!
SUPPORT. What the operations of Machine/ScanOps.lean may change: one lemma for each.
-/

set_option Elab.async false

namespace Sys2Proof.Machine

theorem State.passesZero_changes (n : Nat) (a1 : List Nat) (a2 : State) :
    Changes [.cap] [] a2 (State.passesZero n a1 a2) := by
  fun_induction State.passesZero n a1 a2
  · rename_i y1
    exact Changes.refl _ _ _
  · rename_i y2 y3 y4 y5
    extract_lets v6
    refine Changes.trans ?_ y5
    extract_lets 
    refine Changes.ite ?_ ?_
    · refine Changes.cap ?_ (by decide +kernel)
      exact Changes.refl _ _ _
    · exact Changes.refl _ _ _

theorem State.layerStart_changes (s : State) (n : Nat) :
    Changes [.cap, .bch, .scn] [.SCN_RECORD] s (State.layerStart s n) := by
  unfold State.layerStart
  extract_lets v1 v2 v3 v4
  refine Changes.cut (x := v2) ?_ (fun h5 => ?_)
  · unfold v2
    refine Changes.andThen ?_ (State.setSc_changes ..) (by decide) (subset_regs (by decide +kernel))
    exact Changes.refl _ _ _
  refine Changes.cut (x := v4) ?_ (fun h6 => ?_)
  · unfold v4
    refine Changes.andThen ?_ (State.setBc_changes ..) (by decide) (subset_regs (by decide +kernel))
    refine Changes.wr ?_ (by decide +kernel)
    assumption
  clear_value v1
  clear_value v2
  clear_value v3
  clear_value v4
  refine Changes.andThen ?_ (State.passesZero_changes ..) (by decide) (subset_regs (by decide +kernel))
  assumption

theorem State.reRequest_changes (s : State) (n : Nat) :
    Changes [.beams] [] s (State.reRequest s n) := by
  unfold State.reRequest
  extract_lets v1 v2 v3 v4
  clear_value v1
  clear_value v2
  clear_value v3
  clear_value v4
  refine Changes.ite ?_ ?_
  · exact Changes.refl _ _ _
  · refine Changes.beams ?_ (by decide +kernel)
    exact Changes.refl _ _ _

theorem State.holdNotReady_changes (s : State) (n : Nat) :
    Changes [.beams, .scn] [] s (State.holdNotReady s n) := by
  unfold State.holdNotReady
  extract_lets v1
  clear_value v1
  split
  · rename_i y2 y3
    exact Changes.refl _ _ _
  · rename_i y4 y5 y6
    refine Changes.andThen ?_ (State.reRequest_changes ..) (by decide) (subset_regs (by decide +kernel))
    refine Changes.andThen ?_ (State.setSc_changes ..) (by decide) (subset_regs (by decide +kernel))
    exact Changes.refl _ _ _

theorem State.retire_changes (s : State) (n : Nat) (g : Seg) (rest : List Seg) :
    Changes [.scn, .hal] [.SCN_STATUS, .SCN_RECORD, .SCN_CNT_RECORDS, .HAL_CNT_QUEUE_DROP] s (State.retire s n g
      rest) := by
  unfold State.retire
  extract_lets v1 v2 v3 v4 v5 v6 v7
  refine Changes.cut (x := v4) ?_ (fun h8 => ?_)
  · unfold v4
    refine Changes.andThen ?_ (State.setSc_changes ..) (by decide) (subset_regs (by decide +kernel))
    exact Changes.refl _ _ _
  refine Changes.cut (x := v5) ?_ (fun h9 => ?_)
  · unfold v5
    refine Changes.ite ?_ ?_
    · assumption
    · refine Changes.bump ?_ (by decide +kernel)
      assumption
  refine Changes.cut (x := v6) ?_ (fun h10 => ?_)
  · unfold v6
    split
    · rename_i y11 y12 y13
      refine Changes.setFld ?_ (by decide +kernel)
      assumption
    · rename_i y14 y15
      assumption
  refine Changes.cut (x := v7) ?_ (fun h16 => ?_)
  · unfold v7
    refine Changes.wr ?_ (by decide +kernel)
    assumption
  clear_value v1
  clear_value v2
  clear_value v3
  clear_value v4
  clear_value v5
  clear_value v6
  clear_value v7
  split
  · rename_i y17 y18
    refine Changes.andThen ?_ (State.publish_changes ..) (by decide) (subset_regs (by decide +kernel))
    assumption
  · rename_i y19 y20
    assumption

theorem State.haltAt_changes (s : State) (n : Nat) (cause : Nat) (idx : Nat) (off : Nat) :
    Changes [.outbox, .sht, .bch, .scn, .hal] [.SHT_STATUS, .SHT_I_STATE, .SHT_LAST_OUT, .SHT_LAST_FRAME,
      .SHT_LAST_DELAY, .SHT_DELAY_MAX, .SHT_CNT_FALLBACK, .SHT_CNT_SUPERSEDED, .SHT_CNT_LOG_DROP, .BCH_STATUS,
      .SCN_STATUS, .SCN_HALT_RECORD, .SCN_HALT_OFFSET, .SCN_CNT_HALT, .HAL_CNT_QUEUE_DROP] s (State.haltAt s n
      cause idx off) := by
  unfold State.haltAt
  extract_lets v1 v2 v3 v4
  refine Changes.cut (x := v2) ?_ (fun h5 => ?_)
  · unfold v2
    refine Changes.andThen ?_ (State.setSc_changes ..) (by decide) (subset_regs (by decide +kernel))
    exact Changes.refl _ _ _
  refine Changes.cut (x := v3) ?_ (fun h6 => ?_)
  · unfold v3
    refine Changes.setFld ?_ (by decide +kernel)
    refine Changes.setFld ?_ (by decide +kernel)
    refine Changes.setFld ?_ (by decide +kernel)
    refine Changes.setFld ?_ (by decide +kernel)
    assumption
  refine Changes.cut (x := v4) ?_ (fun h7 => ?_)
  · unfold v4
    refine Changes.bump ?_ (by decide +kernel)
    refine Changes.wr ?_ (by decide +kernel)
    refine Changes.wr ?_ (by decide +kernel)
    assumption
  clear_value v1
  clear_value v2
  clear_value v3
  clear_value v4
  refine Changes.andThen ?_ (State.shEngage_changes ..) (by decide) (subset_regs (by decide +kernel))
  refine Changes.andThen ?_ (State.publish_changes ..) (by decide) (subset_regs (by decide +kernel))
  refine Changes.andThen ?_ (State.setWant_changes ..) (by decide) (subset_regs (by decide +kernel))
  assumption

theorem State.holdPause_changes (s : State) (n : Nat) (p : Pause) :
    Changes [.outbox, .sht, .bch, .scn, .hal] [.SHT_STATUS, .SHT_I_STATE, .SHT_LAST_OUT, .SHT_LAST_FRAME,
      .SHT_LAST_DELAY, .SHT_DELAY_MAX, .SHT_CNT_FALLBACK, .SHT_CNT_SUPERSEDED, .SHT_CNT_LOG_DROP, .BCH_STATUS,
      .SCN_STATUS, .SCN_HALT_RECORD, .SCN_HALT_OFFSET, .SCN_CNT_HALT, .HAL_CNT_QUEUE_DROP] s (State.holdPause s n
      p) := by
  unfold State.holdPause
  extract_lets v1 v2 v3
  refine Changes.cut (x := v3) ?_ (fun h4 => ?_)
  · unfold v3
    refine Changes.andThen ?_ (State.setSc_changes ..) (by decide) (subset_regs (by decide +kernel))
    exact Changes.refl _ _ _
  clear_value v1
  clear_value v2
  clear_value v3
  refine Changes.ite ?_ ?_
  · refine Changes.andThen ?_ (State.haltAt_changes ..) (by decide) (subset_regs (by decide +kernel))
    assumption
  · refine Changes.ite ?_ ?_
    · assumption
    · refine Changes.andThen ?_ (State.setWant_changes ..) (by decide) (subset_regs (by decide +kernel))
      refine Changes.setFld ?_ (by decide +kernel)
      refine Changes.setFld ?_ (by decide +kernel)
      assumption

theorem State.setPhaseAt_changes (s : State) (n : Nat) (p : Pause) (phase : Nat) (t : Nat) :
    Changes [.scn] [.SCN_STATUS] s (State.setPhaseAt s n p phase t) := by
  unfold State.setPhaseAt
  extract_lets v1
  clear_value v1
  refine Changes.setFld ?_ (by decide +kernel)
  refine Changes.andThen ?_ (State.setSc_changes ..) (by decide) (subset_regs (by decide +kernel))
  exact Changes.refl _ _ _

theorem State.setPhase_changes (s : State) (n : Nat) (p : Pause) (phase : Nat) :
    Changes [.scn] [.SCN_STATUS] s (State.setPhase s n p phase) := by
  unfold State.setPhase
  refine Changes.andThen ?_ (State.setPhaseAt_changes ..) (by decide) (subset_regs (by decide +kernel))
  exact Changes.refl _ _ _

theorem State.parked_changes (s : State) (n : Nat) (p : Pause) :
    Changes [.outbox, .sht, .bch, .scn, .hal] [.SHT_STATUS, .SHT_I_STATE, .SHT_LAST_OUT, .SHT_LAST_FRAME,
      .SHT_LAST_DELAY, .SHT_DELAY_MAX, .SHT_CNT_FALLBACK, .SHT_CNT_SUPERSEDED, .SHT_CNT_LOG_DROP, .BCH_STATUS,
      .SCN_STATUS, .SCN_HALT_RECORD, .SCN_HALT_OFFSET, .SCN_CNT_HALT, .HAL_CNT_QUEUE_DROP] s (State.parked s n p) := by
  unfold State.parked
  extract_lets v1 v2 v3
  refine Changes.cut (x := v3) ?_ (fun h4 => ?_)
  · unfold v3
    refine Changes.ite ?_ ?_
    · refine Changes.setFld ?_ (by decide +kernel)
      refine Changes.setFld ?_ (by decide +kernel)
      exact Changes.refl _ _ _
    · exact Changes.refl _ _ _
  clear_value v1
  clear_value v2
  clear_value v3
  refine Changes.ite ?_ ?_
  · refine Changes.andThen ?_ (State.haltAt_changes ..) (by decide) (subset_regs (by decide +kernel))
    refine Changes.andThen ?_ (State.setSc_changes ..) (by decide) (subset_regs (by decide +kernel))
    exact Changes.refl _ _ _
  · refine Changes.andThen ?_ (State.setPhase_changes ..) (by decide) (subset_regs (by decide +kernel))
    assumption

theorem State.beginPause_changes (s : State) (n : Nat) (p : Pause) :
    Changes [.outbox, .sht, .bch, .scn, .hal] [.SHT_STATUS, .SHT_I_STATE, .SHT_LAST_OUT, .SHT_LAST_FRAME,
      .SHT_LAST_DELAY, .SHT_DELAY_MAX, .SHT_CNT_FALLBACK, .SHT_CNT_SUPERSEDED, .SHT_CNT_LOG_DROP, .BCH_STATUS,
      .SCN_STATUS, .SCN_HALT_RECORD, .SCN_HALT_OFFSET, .SCN_CNT_HALT, .HAL_CNT_QUEUE_DROP] s (State.beginPause s n
      p) := by
  unfold State.beginPause
  extract_lets v1 v2 v3
  clear_value v1
  clear_value v2
  clear_value v3
  split
  · rename_i y4 y5 y6 y7
    extract_lets v8 v9 v10 v11 v12 v13 v14 v15 v16 v17
    refine Changes.cut (x := v16) ?_ (fun h18 => ?_)
    · unfold v16
      refine Changes.andThen ?_ (State.setSc_changes ..) (by decide) (subset_regs (by decide +kernel))
      exact Changes.refl _ _ _
    refine Changes.cut (x := v17) ?_ (fun h19 => ?_)
    · unfold v17
      refine Changes.setFld ?_ (by decide +kernel)
      assumption
    clear_value v8
    clear_value v9
    clear_value v10
    clear_value v11
    clear_value v12
    clear_value v13
    clear_value v14
    clear_value v15
    clear_value v16
    clear_value v17
    refine Changes.ite ?_ ?_
    · refine Changes.ite ?_ ?_
      · refine Changes.andThen ?_ (State.setSc_changes ..) (by decide) (subset_regs (by decide +kernel))
        assumption
      · refine Changes.ite ?_ ?_
        · refine Changes.andThen ?_ (State.parked_changes ..) (by decide) (subset_regs (by decide +kernel))
          refine Changes.andThen ?_ (State.setWant_changes ..) (by decide) (subset_regs (by decide +kernel))
          assumption
        · refine Changes.ite ?_ ?_
          · refine Changes.andThen ?_ (State.setWant_changes ..) (by decide) (subset_regs (by decide +kernel))
            refine Changes.setFld ?_ (by decide +kernel)
            refine Changes.andThen ?_ (State.setSc_changes ..) (by decide) (subset_regs (by decide +kernel))
            assumption
          · refine Changes.setFld ?_ (by decide +kernel)
            refine Changes.andThen ?_ (State.setSc_changes ..) (by decide) (subset_regs (by decide +kernel))
            assumption
    · refine Changes.andThen ?_ (State.holdPause_changes ..) (by decide) (subset_regs (by decide +kernel))
      exact Changes.refl _ _ _
  · rename_i y20 y21
    split
    · rename_i y22 y23
      extract_lets v24 v25 v26 v27
      refine Changes.cut (x := v27) ?_ (fun h28 => ?_)
      · unfold v27
        refine Changes.setFld ?_ (by decide +kernel)
        refine Changes.setFld ?_ (by decide +kernel)
        refine Changes.andThen ?_ (State.setSc_changes ..) (by decide) (subset_regs (by decide +kernel))
        exact Changes.refl _ _ _
      clear_value v24
      clear_value v25
      clear_value v26
      clear_value v27
      refine Changes.ite ?_ ?_
      · refine Changes.ite ?_ ?_
        · refine Changes.andThen ?_ (State.setWant_changes ..) (by decide) (subset_regs (by decide +kernel))
          assumption
        · assumption
      · refine Changes.andThen ?_ (State.holdPause_changes ..) (by decide) (subset_regs (by decide +kernel))
        exact Changes.refl _ _ _
    · rename_i y29
      refine Changes.andThen ?_ (State.holdPause_changes ..) (by decide) (subset_regs (by decide +kernel))
      exact Changes.refl _ _ _

theorem State.runPlan_changes (n : Nat) (a1 : Nat) (a2 : State) :
    Changes [.outbox, .sht, .bch, .scn, .hal] [.SHT_STATUS, .SHT_I_STATE, .SHT_LAST_OUT, .SHT_LAST_FRAME,
      .SHT_LAST_DELAY, .SHT_DELAY_MAX, .SHT_CNT_FALLBACK, .SHT_CNT_SUPERSEDED, .SHT_CNT_LOG_DROP, .BCH_STATUS,
      .SCN_STATUS, .SCN_HALT_RECORD, .SCN_HALT_OFFSET, .SCN_RECORD, .SCN_CNT_RECORDS, .SCN_CNT_HALT,
      .HAL_CNT_QUEUE_DROP] a2 (State.runPlan n a1 a2) := by
  fun_induction State.runPlan n a1 a2
  · rename_i y1
    exact Changes.refl _ _ _
  · rename_i y2 y3 y4 y5
    exact Changes.refl _ _ _
  · rename_i y6 y7 y8 y9 y10 y11 y12 y13
    refine Changes.andThen ?_ (State.beginPause_changes ..) (by decide) (subset_regs (by decide +kernel))
    exact Changes.refl _ _ _
  · rename_i y14 y15 y16 y17 y18 y19 y20
    exact Changes.refl _ _ _
  · rename_i y21 y22 y23 y24 y25 y26 y27
    exact Changes.refl _ _ _
  · rename_i y28 y29 y30 y31 y32 y33 y34 y35 y36 y37
    exact Changes.refl _ _ _
  · rename_i y38 y39 y40 y41 y42 y43 y44 y45 y46 y47 y48 y49
    refine Changes.trans ?_ y49
    refine Changes.andThen ?_ (State.retire_changes ..) (by decide) (subset_regs (by decide +kernel))
    exact Changes.refl _ _ _
  · rename_i y50 y51 y52 y53 y54 y55 y56 y57 y58 y59 y60 y61 y62
    refine Changes.setFld ?_ (by decide +kernel)
    unfold y61
    refine Changes.wr ?_ (by decide +kernel)
    exact Changes.refl _ _ _
  · rename_i y63 y64 y65 y66 y67 y68 y69 y70 y71 y72 y73 y74 y75
    unfold y74
    refine Changes.wr ?_ (by decide +kernel)
    exact Changes.refl _ _ _

theorem State.refresh_changes (s : State) (n : Nat) :
    Changes [.outbox, .sht, .bch, .beams, .scn, .hal] [.SHT_STATUS, .SHT_I_STATE, .SHT_LAST_OUT, .SHT_LAST_FRAME,
      .SHT_LAST_DELAY, .SHT_DELAY_MAX, .SHT_CNT_FALLBACK, .SHT_CNT_SUPERSEDED, .SHT_CNT_LOG_DROP, .BCH_STATUS,
      .SCN_STATUS, .SCN_HALT_RECORD, .SCN_HALT_OFFSET, .SCN_RECORD, .SCN_CNT_RECORDS, .SCN_CNT_HALT,
      .HAL_CNT_QUEUE_DROP] s (State.refresh s n) := by
  unfold State.refresh
  refine Changes.andThen ?_ (State.shEngage_changes ..) (by decide) (subset_regs (by decide +kernel))
  refine Changes.andThen ?_ (State.runPlan_changes ..) (by decide) (subset_regs (by decide +kernel))
  refine Changes.andThen ?_ (State.holdNotReady_changes ..) (by decide) (subset_regs (by decide +kernel))
  exact Changes.refl _ _ _

theorem State.pauseFor_changes (s : State) (n : Nat) (cause : Nat) (p : Pause) :
    Changes [.outbox, .sht, .bch, .beams, .scn, .hal] allRegs s (State.pauseFor s n cause p) := by
  unfold State.pauseFor
  extract_lets v1 v2
  refine Changes.cut (x := v2) ?_ (fun h3 => ?_)
  · unfold v2
    refine Changes.setFld ?_ (mem_allRegs _)
    exact Changes.refl _ _ _
  clear_value v1
  clear_value v2
  split
  · rename_i y4 y5
    refine Changes.andThen ?_ (State.refresh_changes ..) (by decide) (subset_allRegs _)
    refine Changes.bump ?_ (mem_allRegs _)
    refine Changes.andThen ?_ (State.setSc_changes ..) (by decide) (subset_allRegs _)
    assumption
  · rename_i y6 y7 y8
    extract_lets v9 v10
    clear_value v9
    clear_value v10
    refine Changes.ite ?_ ?_
    · refine Changes.andThen ?_ (State.setPhase_changes ..) (by decide) (subset_allRegs _)
      assumption
    · refine Changes.ite ?_ ?_
      · refine Changes.andThen ?_ (State.setSc_changes ..) (by decide) (subset_allRegs _)
        assumption
      · assumption

theorem State.reefPause_changes (s : State) (n : Nat) :
    Changes [.outbox, .sht, .bch, .beams, .scn, .hal] allRegs s (State.reefPause s n) := by
  unfold State.reefPause
  refine Changes.ite ?_ ?_
  · refine Changes.andThen ?_ (State.pauseFor_changes ..) (by decide) (subset_allRegs _)
    exact Changes.refl _ _ _
  · exact Changes.refl _ _ _

theorem State.cleanHalt_changes (s : State) (n : Nat) (cause : Nat) (tS : Nat) (idx : Nat) (off : Nat) :
    Changes [.outbox, .sht, .bch, .beams, .scn, .hal] [.SHT_STATUS, .SHT_I_STATE, .SHT_LAST_OUT, .SHT_LAST_FRAME,
      .SHT_LAST_DELAY, .SHT_DELAY_MAX, .SHT_CNT_FALLBACK, .SHT_CNT_SUPERSEDED, .SHT_CNT_LOG_DROP, .BCH_STATUS,
      .SCN_STATUS, .SCN_HALT_RECORD, .SCN_HALT_OFFSET, .SCN_RECORD, .SCN_CNT_RECORDS, .SCN_CNT_HALT,
      .HAL_CNT_QUEUE_DROP] s (State.cleanHalt s n cause tS idx off) := by
  unfold State.cleanHalt
  extract_lets v1 v2
  clear_value v1
  clear_value v2
  refine Changes.ite ?_ ?_
  · split
    · rename_i y3 y4
      refine Changes.andThen ?_ (State.refresh_changes ..) (by decide) (subset_regs (by decide +kernel))
      refine Changes.andThen ?_ (State.setSc_changes ..) (by decide) (subset_regs (by decide +kernel))
      exact Changes.refl _ _ _
    · rename_i y5 y6 y7
      extract_lets v8 v9
      clear_value v8
      clear_value v9
      refine Changes.ite ?_ ?_
      · refine Changes.ite ?_ ?_
        · refine Changes.andThen ?_ (State.setSc_changes ..) (by decide) (subset_regs (by decide +kernel))
          exact Changes.refl _ _ _
        · refine Changes.ite ?_ ?_
          · refine Changes.andThen ?_ (State.setWant_changes ..) (by decide) (subset_regs (by decide +kernel))
            refine Changes.andThen ?_ (State.setPhase_changes ..) (by decide) (subset_regs (by decide +kernel))
            exact Changes.refl _ _ _
          · refine Changes.andThen ?_ (State.haltAt_changes ..) (by decide) (subset_regs (by decide +kernel))
            refine Changes.andThen ?_ (State.setSc_changes ..) (by decide) (subset_regs (by decide +kernel))
            exact Changes.refl _ _ _
      · refine Changes.andThen ?_ (State.setSc_changes ..) (by decide) (subset_regs (by decide +kernel))
        exact Changes.refl _ _ _
  · refine Changes.ite ?_ ?_
    · refine Changes.andThen ?_ (State.haltAt_changes ..) (by decide) (subset_regs (by decide +kernel))
      exact Changes.refl _ _ _
    · exact Changes.refl _ _ _

theorem State.hardHalt_changes (s : State) (n : Nat) (cause : Nat) :
    Changes [.outbox, .sht, .bch, .scn, .hal] [.SHT_STATUS, .SHT_I_STATE, .SHT_LAST_OUT, .SHT_LAST_FRAME,
      .SHT_LAST_DELAY, .SHT_DELAY_MAX, .SHT_CNT_FALLBACK, .SHT_CNT_SUPERSEDED, .SHT_CNT_LOG_DROP, .BCH_STATUS,
      .SCN_STATUS, .SCN_HALT_RECORD, .SCN_HALT_OFFSET, .SCN_CNT_HALT, .HAL_CNT_QUEUE_DROP] s (State.hardHalt s n
      cause) := by
  unfold State.hardHalt
  extract_lets v1 v2 v3
  refine Changes.cut (x := v2) ?_ (fun h4 => ?_)
  · unfold v2
    refine Changes.andThen ?_ (State.beginPause_changes ..) (by decide) (subset_regs (by decide +kernel))
    exact Changes.refl _ _ _
  clear_value v1
  clear_value v2
  clear_value v3
  split
  · rename_i y5 y6 y7
    extract_lets v8 v9 v10 v11 v12
    refine Changes.cut (x := v11) ?_ (fun h13 => ?_)
    · unfold v11
      refine Changes.andThen ?_ (State.beginPause_changes ..) (by decide) (subset_regs (by decide +kernel))
      exact Changes.refl _ _ _
    clear_value v8
    clear_value v9
    clear_value v10
    clear_value v11
    clear_value v12
    refine Changes.ite ?_ ?_
    · refine Changes.andThen ?_ (State.haltAt_changes ..) (by decide) (subset_regs (by decide +kernel))
      refine Changes.andThen ?_ (State.setSc_changes ..) (by decide) (subset_regs (by decide +kernel))
      exact Changes.refl _ _ _
    · refine Changes.andThen ?_ (State.haltAt_changes ..) (by decide) (subset_regs (by decide +kernel))
      assumption
  · rename_i y14 y15
    refine Changes.andThen ?_ (State.haltAt_changes ..) (by decide) (subset_regs (by decide +kernel))
    assumption

theorem State.hardHaltActive_changes (s : State) (n : Nat) (cause : Nat) :
    Changes [.outbox, .sht, .bch, .scn, .hal] [.SHT_STATUS, .SHT_I_STATE, .SHT_LAST_OUT, .SHT_LAST_FRAME,
      .SHT_LAST_DELAY, .SHT_DELAY_MAX, .SHT_CNT_FALLBACK, .SHT_CNT_SUPERSEDED, .SHT_CNT_LOG_DROP, .BCH_STATUS,
      .SCN_STATUS, .SCN_HALT_RECORD, .SCN_HALT_OFFSET, .SCN_CNT_HALT, .HAL_CNT_QUEUE_DROP] s (State.hardHaltActive
      s n cause) := by
  unfold State.hardHaltActive
  extract_lets v1
  clear_value v1
  refine Changes.ite ?_ ?_
  · refine Changes.andThen ?_ (State.hardHalt_changes ..) (by decide) (subset_regs (by decide +kernel))
    exact Changes.refl _ _ _
  · exact Changes.refl _ _ _

theorem State.refreshFrom_changes (s : State) (a1 : List Nat) :
    Changes [.outbox, .sht, .bch, .beams, .scn, .hal] [.SHT_STATUS, .SHT_I_STATE, .SHT_LAST_OUT, .SHT_LAST_FRAME,
      .SHT_LAST_DELAY, .SHT_DELAY_MAX, .SHT_CNT_FALLBACK, .SHT_CNT_SUPERSEDED, .SHT_CNT_LOG_DROP, .BCH_STATUS,
      .SCN_STATUS, .SCN_HALT_RECORD, .SCN_HALT_OFFSET, .SCN_RECORD, .SCN_CNT_RECORDS, .SCN_CNT_HALT,
      .HAL_CNT_QUEUE_DROP] s (State.refreshFrom s a1) := by
  fun_induction State.refreshFrom s a1
  · rename_i y1
    exact Changes.refl _ _ _
  · rename_i y2 y3 y4 y5
    refine Changes.trans ?_ y5
    refine Changes.ite ?_ ?_
    · refine Changes.andThen ?_ (State.refresh_changes ..) (by decide) (subset_regs (by decide +kernel))
      exact Changes.refl _ _ _
    · exact Changes.refl _ _ _

theorem State.refreshAll_changes (s : State) :
    Changes [.outbox, .sht, .bch, .beams, .scn, .hal] [.SHT_STATUS, .SHT_I_STATE, .SHT_LAST_OUT, .SHT_LAST_FRAME,
      .SHT_LAST_DELAY, .SHT_DELAY_MAX, .SHT_CNT_FALLBACK, .SHT_CNT_SUPERSEDED, .SHT_CNT_LOG_DROP, .BCH_STATUS,
      .SCN_STATUS, .SCN_HALT_RECORD, .SCN_HALT_OFFSET, .SCN_RECORD, .SCN_CNT_RECORDS, .SCN_CNT_HALT,
      .HAL_CNT_QUEUE_DROP] s (State.refreshAll s) := by
  unfold State.refreshAll
  refine Changes.andThen ?_ (State.refreshFrom_changes ..) (by decide) (subset_regs (by decide +kernel))
  exact Changes.refl _ _ _

theorem State.resumeCheck_changes (s : State) (n : Nat) :
    Changes [.beams, .scn] [.SCN_STATUS] s (State.resumeCheck s n) := by
  unfold State.resumeCheck
  extract_lets v1 v2 v3
  refine Changes.cut (x := v3) ?_ (fun h4 => ?_)
  · unfold v3
    refine Changes.setFld ?_ (by decide +kernel)
    refine Changes.setFld ?_ (by decide +kernel)
    refine Changes.andThen ?_ (State.setSc_changes ..) (by decide) (subset_regs (by decide +kernel))
    exact Changes.refl _ _ _
  clear_value v1
  clear_value v2
  clear_value v3
  split
  · rename_i y5 y6
    exact Changes.refl _ _ _
  · rename_i y7 y8 y9
    extract_lets v10
    clear_value v10
    refine Changes.ite ?_ ?_
    · exact Changes.refl _ _ _
    · refine Changes.ite ?_ ?_
      · refine Changes.andThen ?_ (State.setSc_changes ..) (by decide) (subset_regs (by decide +kernel))
        exact Changes.refl _ _ _
      · refine Changes.ite ?_ ?_
        · refine Changes.andThen ?_ (State.setPhase_changes ..) (by decide) (subset_regs (by decide +kernel))
          exact Changes.refl _ _ _
        · refine Changes.ite ?_ ?_
          · refine Changes.andThen ?_ (State.reRequest_changes ..) (by decide) (subset_regs (by decide +kernel))
            assumption
          · exact Changes.refl _ _ _

theorem State.clearCause_changes (s : State) (n : Nat) (cause : Nat) :
    Changes [.beams, .scn] allRegs s (State.clearCause s n cause) := by
  unfold State.clearCause
  refine Changes.ite ?_ ?_
  · refine Changes.andThen ?_ (State.resumeCheck_changes ..) (by decide) (subset_allRegs _)
    refine Changes.setFld ?_ (mem_allRegs _)
    exact Changes.refl _ _ _
  · exact Changes.refl _ _ _

theorem State.finishPlan_changes (s : State) (n : Nat) :
    Changes [.fine, .outbox, .sht, .bch, .beams, .scn, .hal] [.SHT_STATUS, .SHT_I_STATE, .SHT_LAST_OUT,
      .SHT_LAST_FRAME, .SHT_LAST_DELAY, .SHT_DELAY_MAX, .SHT_CNT_FALLBACK, .SHT_CNT_SUPERSEDED, .SHT_CNT_LOG_DROP,
      .BCH_STATUS, .SCN_STATUS, .SCN_HALT_RECORD, .SCN_HALT_OFFSET, .SCN_RECORD, .SCN_CNT_RECORDS, .SCN_CNT_HALT,
      .HAL_CNT_QUEUE_DROP] s (State.finishPlan s n) := by
  unfold State.finishPlan
  refine Changes.andThen ?_ (State.refresh_changes ..) (by decide) (subset_regs (by decide +kernel))
  refine Changes.fine ?_ (by decide +kernel)
  exact Changes.refl _ _ _

theorem State.rotRequest_changes (s : State) (n : Nat) (tp : Nat) (refire : Bool) :
    Changes [.beams] [] s (State.rotRequest s n tp refire) := by
  unfold State.rotRequest
  extract_lets v1 v2
  clear_value v1
  clear_value v2
  refine Changes.ite ?_ ?_
  · exact Changes.refl _ _ _
  · refine Changes.beams ?_ (by decide +kernel)
    exact Changes.refl _ _ _

end Sys2Proof.Machine
end

