-- ==== Sys2Proof/Laws/FrameQueue.lean ====
section
/-!
SUPPORT. What the operations of Machine/Queue.lean may change: one lemma for each.
-/

set_option Elab.async false

namespace Sys2Proof.Machine

theorem State.putQue_changes (s : State) (q : Nat) (x : Que) :
    Changes [.outbox, .pce, .que] [.PCE_STATUS, .PCE_CNT_MSIX_DROP, .QUE_STATUS] s (State.putQue s q x) := by
  unfold State.putQue
  extract_lets v1 v2 v3 v4 v5 v6 v7 v8
  refine Changes.cut (x := v3) ?_ (fun h9 => ?_)
  · unfold v3
    refine Changes.que ?_ (by decide +kernel)
    exact Changes.refl _ _ _
  refine Changes.cut (x := v7) ?_ (fun h10 => ?_)
  · unfold v7
    refine Changes.wr ?_ (by decide +kernel)
    assumption
  clear_value v1
  clear_value v2
  clear_value v3
  clear_value v4
  clear_value v5
  clear_value v6
  clear_value v7
  clear_value v8
  refine Changes.ite ?_ ?_
  · refine Changes.andThen ?_ (State.msixReq_changes ..) (by decide) (subset_regs (by decide +kernel))
    assumption
  · assumption

theorem State.quePtrCheck_changes (s : State) (q : Nat) :
    Changes [.outbox, .pce, .que, .helm] [.PCE_STATUS, .PCE_CNT_MSIX_DROP, .QUE_STATUS, .QUE_CNT_LOST,
      .QUE_CNT_PTR_ERR, .HLM_CNT_NOTICE_DROP, .PWR_FAULT_SUMMARY] s (State.quePtrCheck s q) := by
  unfold State.quePtrCheck
  extract_lets v1 v2 v3
  refine Changes.cut (x := v2) ?_ (fun h4 => ?_)
  · unfold v2
    refine Changes.andThen ?_ (State.putQue_changes ..) (by decide) (subset_regs (by decide +kernel))
    refine Changes.bumpBy ?_ (by decide +kernel)
    exact Changes.refl _ _ _
  refine Changes.cut (x := v3) ?_ (fun h5 => ?_)
  · unfold v3
    refine Changes.andThen ?_ (State.notice_changes ..) (by decide) (subset_regs (by decide +kernel))
    refine Changes.bump ?_ (by decide +kernel)
    refine Changes.setFld ?_ (by decide +kernel)
    assumption
  clear_value v1
  clear_value v2
  clear_value v3
  refine Changes.ite ?_ ?_
  · exact Changes.refl _ _ _
  · refine Changes.ite ?_ ?_
    · refine Changes.andThen ?_ (State.msixReq_changes ..) (by decide) (subset_regs (by decide +kernel))
      assumption
    · assumption

theorem State.queCommit_changes (s : State) (q : Nat) (i : QItem) :
    Changes [.outbox, .pce, .que] [.PCE_STATUS, .PCE_CNT_MSIX_DROP, .QUE_STATUS, .QUE_CNT_LOST, .QUE_CNT_NO_QUEUE]
      s (State.queCommit s q i) := by
  unfold State.queCommit
  extract_lets v1 v2 v3 v4 v5 v6 v7
  clear_value v1
  clear_value v2
  clear_value v3
  clear_value v4
  clear_value v5
  clear_value v6
  clear_value v7
  refine Changes.ite ?_ ?_
  · refine Changes.bump ?_ (by decide +kernel)
    exact Changes.refl _ _ _
  · refine Changes.ite ?_ ?_
    · refine Changes.andThen ?_ (State.putQue_changes ..) (by decide) (subset_regs (by decide +kernel))
      refine Changes.bump ?_ (by decide +kernel)
      exact Changes.refl _ _ _
    · refine Changes.andThen ?_ (State.putQue_changes ..) (by decide) (subset_regs (by decide +kernel))
      refine Changes.bumpBy ?_ (by decide +kernel)
      exact Changes.refl _ _ _

theorem State.queSend_changes (s : State) (q : Nat) (source : Nat) (pri : Nat) (data : List Byte) :
    Changes [.outbox, .pce, .que, .helm] [.PCE_STATUS, .PCE_CNT_MSIX_DROP, .QUE_STATUS, .QUE_CNT_LOST,
      .QUE_CNT_PTR_ERR, .QUE_CNT_NO_QUEUE, .HLM_CNT_NOTICE_DROP, .PWR_FAULT_SUMMARY] s (State.queSend s q source
      pri data) := by
  unfold State.queSend
  refine Changes.ite ?_ ?_
  · refine Changes.bump ?_ (by decide +kernel)
    exact Changes.refl _ _ _
  · refine Changes.andThen ?_ (State.queCommit_changes ..) (by decide) (subset_regs (by decide +kernel))
    refine Changes.andThen ?_ (State.quePtrCheck_changes ..) (by decide) (subset_regs (by decide +kernel))
    exact Changes.refl _ _ _

theorem State.commitParts_changes (q : Nat) (p : Nat) (flush : Bool) (a3 : List QPartial) (a4 : State) :
    Changes [.outbox, .pce, .que] [.PCE_STATUS, .PCE_CNT_MSIX_DROP, .QUE_STATUS, .QUE_CNT_LOST, .QUE_CNT_POISONED,
      .QUE_CNT_NO_QUEUE] a4 (State.commitParts q p flush a3 a4) := by
  fun_induction State.commitParts q p flush a3 a4
  · rename_i y1
    extract_lets v2
    refine Changes.andThen ?_ (State.putQue_changes ..) (by decide) (subset_regs (by decide +kernel))
    exact Changes.refl _ _ _
  · rename_i y3 y4 y5 y6
    extract_lets v7
    refine Changes.andThen ?_ (State.putQue_changes ..) (by decide) (subset_regs (by decide +kernel))
    exact Changes.refl _ _ _
  · rename_i y8 y9 y10 y11 y12 y13
    refine Changes.trans ?_ y13
    refine Changes.bump ?_ (by decide +kernel)
    exact Changes.refl _ _ _
  · rename_i y14 y15 y16 y17 y18 y19 y20
    assumption
  · rename_i y21 y22 y23 y24 y25 y26 y27
    refine Changes.trans ?_ y27
    refine Changes.andThen ?_ (State.queCommit_changes ..) (by decide) (subset_regs (by decide +kernel))
    exact Changes.refl _ _ _

theorem State.queUpset_changes (s : State) (q : Nat) (upset : Bool) :
    Changes [.que] [] s (State.queUpset s q upset) := by
  unfold State.queUpset
  extract_lets v1 v2
  clear_value v1
  clear_value v2
  refine Changes.ite ?_ ?_
  · refine Changes.que ?_ (by decide +kernel)
    exact Changes.refl _ _ _
  · exact Changes.refl _ _ _

end Sys2Proof.Machine
end

