-- ==== Sys2Proof/Laws/FrameStoreMem.lean ====
section
/-!
SUPPORT. What the operations of Machine/StoreMem.lean may change: one lemma for each.
-/

set_option Elab.async false

namespace Sys2Proof.Machine

theorem State.selfRef_changes (s : State) (on : Bool) :
    Changes [.fst] [] s (State.selfRef s on) := by
  unfold State.selfRef
  refine Changes.fst ?_ (by rfl) (by decide +kernel)
  exact Changes.refl _ _ _

theorem State.ddrWr_changes (s : State) (a : Nat) (data : List Byte) (bad : Bool) :
    Changes [.ddr, .fst] [] s (State.ddrWr s a data bad) := by
  unfold State.ddrWr
  refine Changes.trans (t := { s with fst := { s.fst with ddr := tblSetList 0 s.fst.ddr a data } }) ?_ ?_
  · exact (Changes.refl _ _ _).ddr (fun h => tblSetList_wf _ _ h) (by decide)
  · exact (Changes.refl _ _ _).fst rfl (by decide)

theorem State.storeWr1_changes (s : State) (a : Nat) (b : Byte) (bad : Bool) :
    Changes [.ddr, .fst] [] s (State.storeWr1 s a b bad) := by
  unfold State.storeWr1
  split
  · rename_i y1 y2
    exact Changes.refl _ _ _
  · rename_i y3 y4 y5
    extract_lets v6
    refine Changes.cut (x := v6) ?_ (fun h7 => ?_)
    · unfold v6
      refine Changes.andThen ?_ (State.ddrWr_changes ..) (by decide) (subset_regs (by decide +kernel))
      exact Changes.refl _ _ _
    clear_value v6
    refine Changes.ite ?_ ?_
    · split
      · rename_i y8 y9 y10
        refine Changes.andThen ?_ (State.ddrWr_changes ..) (by decide) (subset_regs (by decide +kernel))
        assumption
      · rename_i y11 y12
        assumption
    · assumption

theorem State.storeWr_changes (s : State) (a : Nat) (data : List Byte) (bad : Bool) :
    Changes [.ddr, .fst] [] s (State.storeWr s a data bad) := by
  fun_induction State.storeWr s a data bad
  · rename_i y1 y2
    exact Changes.refl _ _ _
  · rename_i y3 y4 y5 y6 y7
    refine Changes.trans ?_ y7
    refine Changes.andThen ?_ (State.storeWr1_changes ..) (by decide) (subset_regs (by decide +kernel))
    exact Changes.refl _ _ _

theorem State.startMigration_changes (s : State) :
    Changes [.dma, .fst] [.DMA_STATUS] s (State.startMigration s) := by
  unfold State.startMigration
  extract_lets v1 v2 v3 v4 v5
  refine Changes.cut (x := v5) ?_ (fun h6 => ?_)
  · unfold v5
    refine Changes.fst ?_ (by rfl) (by decide +kernel)
    exact Changes.refl _ _ _
  clear_value v1
  clear_value v2
  clear_value v3
  clear_value v5
  refine Changes.ite ?_ ?_
  · refine Changes.dma ?_ (by decide +kernel)
    assumption
  · refine Changes.setFld ?_ (by decide +kernel)
    assumption

theorem State.criterion_changes (s : State) (c : Nat) :
    Changes [.outbox, .hal, .pce, .dma, .fst, .helm] [.FST_STATUS, .FST_CH_STATUS, .HAL_CNT_QUEUE_DROP,
      .PCE_STATUS, .PCE_CNT_MSIX_DROP, .DMA_STATUS, .HLM_CNT_NOTICE_DROP, .PWR_FAULT_SUMMARY] s (State.criterion s
      c) := by
  unfold State.criterion
  extract_lets v1 v2
  refine Changes.cut (x := v2) ?_ (fun h3 => ?_)
  · unfold v2
    refine Changes.fst ?_ (by rfl) (by decide +kernel)
    exact Changes.refl _ _ _
  clear_value v2
  refine Changes.ite ?_ ?_
  · exact Changes.refl _ _ _
  · refine Changes.ite ?_ ?_
    · refine Changes.andThen ?_ (State.startMigration_changes ..) (by decide) (subset_regs (by decide +kernel))
      refine Changes.andThen ?_ (State.notice_changes ..) (by decide) (subset_regs (by decide +kernel))
      refine Changes.andThen ?_ (State.publish_changes ..) (by decide) (subset_regs (by decide +kernel))
      refine Changes.setFld ?_ (by decide +kernel)
      assumption
    · refine Changes.setFld ?_ (by decide +kernel)
      exact Changes.refl _ _ _

theorem State.eccRecord_changes (s : State) (p : Nat) (ue : Bool) (dev : Nat) (scrub : Bool) :
    Changes [] [.FST_CH_ECC_BAND, .FST_CH_ECC_INFO] s (State.eccRecord s p ue dev scrub) := by
  unfold State.eccRecord
  extract_lets v1
  clear_value v1
  refine Changes.wr ?_ (by decide +kernel)
  refine Changes.wr ?_ (by decide +kernel)
  exact Changes.refl _ _ _

theorem State.eccCorrected_changes (s : State) (p : Nat) (dev : Nat) (scrub : Bool) :
    Changes [.outbox, .hal, .pce, .dma, .fst, .helm] [.FST_STATUS, .FST_CH_STATUS, .FST_CH_CE_BUCKET,
      .FST_CH_CNT_CE, .FST_CH_ECC_BAND, .FST_CH_ECC_INFO, .HAL_CNT_QUEUE_DROP, .PCE_STATUS, .PCE_CNT_MSIX_DROP,
      .DMA_STATUS, .HLM_CNT_NOTICE_DROP, .PWR_FAULT_SUMMARY] s (State.eccCorrected s p dev scrub) := by
  unfold State.eccCorrected
  extract_lets v1 v2 v3 v4 v5 v6
  refine Changes.cut (x := v2) ?_ (fun h7 => ?_)
  · unfold v2
    refine Changes.bump ?_ (by decide +kernel)
    refine Changes.bump ?_ (by decide +kernel)
    refine Changes.andThen ?_ (State.eccRecord_changes ..) (by decide) (subset_regs (by decide +kernel))
    exact Changes.refl _ _ _
  refine Changes.cut (x := v6) ?_ (fun h8 => ?_)
  · unfold v6
    refine Changes.fst ?_ (by rfl) (by decide +kernel)
    assumption
  clear_value v1
  clear_value v2
  clear_value v3
  clear_value v4
  clear_value v6
  refine Changes.ite ?_ ?_
  · refine Changes.andThen ?_ (State.criterion_changes ..) (by decide) (subset_regs (by decide +kernel))
    assumption
  · assumption

theorem State.eccUncorrectable_changes (s : State) (p : Nat) (scrub : Bool) :
    Changes [.outbox, .hal, .pce, .dma, .fst, .helm] [.FST_STATUS, .FST_CH_STATUS, .FST_CH_CNT_UE,
      .FST_CH_ECC_BAND, .FST_CH_ECC_INFO, .HAL_CNT_QUEUE_DROP, .PCE_STATUS, .PCE_CNT_MSIX_DROP, .DMA_STATUS,
      .HLM_CNT_NOTICE_DROP, .PWR_FAULT_SUMMARY] s (State.eccUncorrectable s p scrub) := by
  unfold State.eccUncorrectable
  extract_lets v1 v2 v3
  refine Changes.cut (x := v2) ?_ (fun h4 => ?_)
  · unfold v2
    refine Changes.bump ?_ (by decide +kernel)
    refine Changes.andThen ?_ (State.eccRecord_changes ..) (by decide) (subset_regs (by decide +kernel))
    exact Changes.refl _ _ _
  clear_value v1
  clear_value v2
  refine Changes.ite ?_ ?_
  · assumption
  · refine Changes.andThen ?_ (State.criterion_changes ..) (by decide) (subset_regs (by decide +kernel))
    refine Changes.fst ?_ (by rfl) (by decide +kernel)
    assumption

theorem State.eccRead_changes (s : State) (p : Nat) (e : Option BurstErr) (scrub : Bool) :
    Changes [.outbox, .freeCtr, .hal, .pce, .dma, .ddr, .fst, .helm] [.FST_STATUS, .FST_CH_STATUS,
      .FST_CH_CE_BUCKET, .FST_CH_CNT_CE, .FST_CH_CNT_UE, .FST_CH_ECC_BAND, .FST_CH_ECC_INFO, .HAL_CNT_QUEUE_DROP,
      .PCE_STATUS, .PCE_CNT_MSIX_DROP, .DMA_STATUS, .HLM_CNT_NOTICE_DROP, .PWR_FAULT_SUMMARY] s (State.eccRead s p
      e scrub).2 := by
  unfold State.eccRead
  split
  · rename_i y1
    dsimp only
    refine Changes.andThen ?_ (State.eccUncorrectable_changes ..) (by decide) (subset_regs (by decide +kernel))
    exact Changes.refl _ _ _
  · rename_i y2
    split
    · rename_i y3 y4
      dsimp only
      exact Changes.refl _ _ _
    · rename_i y5 y6 y7
      dsimp only
      refine Changes.andThen ?_ (State.eccCorrected_changes ..) (by decide) (subset_regs (by decide +kernel))
      exact Changes.refl _ _ _
    · rename_i y8 y9
      dsimp only
      refine Changes.andThen ?_ (State.eccUncorrectable_changes ..) (by decide) (subset_regs (by decide +kernel))
      exact Changes.refl _ _ _
    · rename_i y10 y11 y12
      extract_lets v13
      refine Changes.cut (x := v13.2) ?_ (fun h14 => ?_)
      · unfold v13
        refine Changes.andThen ?_ (State.freeBits_changes ..) (by decide) (subset_regs (by decide +kernel))
        exact Changes.refl _ _ _
      clear_value v13
      dsimp only
      refine Changes.andThen ?_ (State.eccCorrected_changes ..) (by decide) (subset_regs (by decide +kernel))
      refine Changes.andThen ?_ (State.ddrWr_changes ..) (by decide) (subset_regs (by decide +kernel))
      assumption

theorem State.fetchBurst_changes (s : State) (a : Nat) (e : Option BurstErr) :
    Changes [.outbox, .freeCtr, .hal, .pce, .dma, .ddr, .fst, .helm] [.FST_STATUS, .FST_CH_STATUS,
      .FST_CH_CE_BUCKET, .FST_CH_CNT_CE, .FST_CH_CNT_UE, .FST_CH_ECC_BAND, .FST_CH_ECC_INFO, .HAL_CNT_QUEUE_DROP,
      .PCE_STATUS, .PCE_CNT_MSIX_DROP, .DMA_STATUS, .HLM_CNT_NOTICE_DROP, .PWR_FAULT_SUMMARY] s (State.fetchBurst
      s a e).2.2 := by
  unfold State.fetchBurst
  split
  · rename_i y1 y2
    dsimp only
    exact Changes.refl _ _ _
  · rename_i y3 y4 y5
    extract_lets v6 v7
    refine Changes.cut (x := v6.2) ?_ (fun h8 => ?_)
    · unfold v6
      refine Changes.andThen ?_ (State.eccRead_changes ..) (by decide) (subset_regs (by decide +kernel))
      exact Changes.refl _ _ _
    refine Changes.cut (x := v7.2) ?_ (fun h9 => ?_)
    · unfold v7
      refine Changes.andThen ?_ (State.freeBits_changes ..) (by decide) (subset_regs (by decide +kernel))
      assumption
    clear_value v6
    clear_value v7
    split
    · rename_i y10
      dsimp only
      assumption
    · rename_i y11
      dsimp only
      assumption

theorem State.fetchBursts_changes (a : Nat) (errs : List (Nat × BurstErr)) (a2 : Nat) (a3 : Nat) (a4 : State) :
    Changes [.outbox, .freeCtr, .hal, .pce, .dma, .ddr, .fst, .helm] [.FST_STATUS, .FST_CH_STATUS,
      .FST_CH_CE_BUCKET, .FST_CH_CNT_CE, .FST_CH_CNT_UE, .FST_CH_ECC_BAND, .FST_CH_ECC_INFO, .HAL_CNT_QUEUE_DROP,
      .PCE_STATUS, .PCE_CNT_MSIX_DROP, .DMA_STATUS, .HLM_CNT_NOTICE_DROP, .PWR_FAULT_SUMMARY] a4
      (State.fetchBursts a errs a2 a3 a4).st := by
  fun_induction State.fetchBursts a errs a2 a3 a4
  · rename_i y1 y2
    dsimp only
    exact Changes.refl _ _ _
  · rename_i y3 y4 y5 y6 y7 y8
    dsimp only
    unfold y7
    refine Changes.trans ?_ y8
    unfold y6
    refine Changes.andThen ?_ (State.fetchBurst_changes ..) (by decide) (subset_regs (by decide +kernel))
    exact Changes.refl _ _ _

theorem State.storeFetch_changes (s : State) (a : Nat) (n : Nat) (errs : List (Nat × BurstErr)) :
    Changes [.outbox, .freeCtr, .hal, .pce, .dma, .ddr, .fst, .helm] [.FST_STATUS, .FST_CH_STATUS,
      .FST_CH_CE_BUCKET, .FST_CH_CNT_CE, .FST_CH_CNT_UE, .FST_CH_ECC_BAND, .FST_CH_ECC_INFO, .HAL_CNT_QUEUE_DROP,
      .PCE_STATUS, .PCE_CNT_MSIX_DROP, .DMA_STATUS, .HLM_CNT_NOTICE_DROP, .PWR_FAULT_SUMMARY] s (State.storeFetch
      s a n errs).st := by
  unfold State.storeFetch
  extract_lets v1
  refine Changes.cut (x := v1.st) ?_ (fun h2 => ?_)
  · unfold v1
    refine Changes.andThen ?_ (State.fetchBursts_changes ..) (by decide) (subset_regs (by decide +kernel))
    exact Changes.refl _ _ _
  clear_value v1
  dsimp only
  assumption

theorem State.completions_changes (s : State) (bad : List (Nat × Nat)) (a2 : Nat) (a3 : Nat) (a4 : List Byte) (a5 :
    Nat) :
    Changes [.outbox] [.PCE_CNT_POISON_TX] s (State.completions s bad a2 a3 a4 a5) := by
  fun_induction State.completions s bad a2 a3 a4 a5
  · rename_i y1 y2 y3 y4
    exact Changes.refl _ _ _
  · rename_i y5 y6 y7 y8
    exact Changes.refl _ _ _
  · rename_i y9 y10 y11 y12 y13 y14 y15 y16 y17 y18 y19
    extract_lets 
    refine Changes.trans ?_ y19
    unfold y17
    refine Changes.emit ?_ (by decide +kernel)
    refine Changes.ite ?_ ?_
    · refine Changes.bump ?_ (by decide +kernel)
      exact Changes.refl _ _ _
    · exact Changes.refl _ _ _

theorem State.mpUnit_changes (s : State) (c : Nat) (beam : Nat) (u : LogUnit) :
    Changes [.ddr, .fst] allRegs s (State.mpUnit s c beam u) := by
  unfold State.mpUnit
  extract_lets v1 v2 v3 v4 v5 v6 v7
  clear_value v1
  clear_value v2
  clear_value v3
  clear_value v4
  clear_value v5
  clear_value v6
  clear_value v7
  refine Changes.ite ?_ ?_
  · exact Changes.refl _ _ _
  · refine Changes.wr ?_ (mem_allRegs _)
    refine Changes.andThen ?_ (State.storeWr_changes ..) (by decide) (subset_allRegs _)
    exact Changes.refl _ _ _

end Sys2Proof.Machine
end

