-- ==== Sys2Proof/Laws/FrameScan.lean ====
section
/-!
SUPPORT. What the operations of Machine/Scan.lean may change: one lemma for each.
-/

set_option Elab.async false

namespace Sys2Proof.Machine

theorem State.streamLevel_changes (s : State) (n : Nat) :
    Changes [.hal] [.SCN_STATUS, .SCN_STREAM_LEVEL, .HAL_CNT_QUEUE_DROP] s (State.streamLevel s n) := by
  unfold State.streamLevel
  extract_lets v1 v2 v3 v4
  refine Changes.cut (x := v4) ?_ (fun h5 => ?_)
  · unfold v4
    refine Changes.wr ?_ (by decide +kernel)
    exact Changes.refl _ _ _
  clear_value v1
  clear_value v2
  clear_value v3
  clear_value v4
  refine Changes.ite ?_ ?_
  · refine Changes.andThen ?_ (State.publish_changes ..) (by decide) (subset_regs (by decide +kernel))
    refine Changes.setFld ?_ (by decide +kernel)
    assumption
  · refine Changes.ite ?_ ?_
    · refine Changes.setFld ?_ (by decide +kernel)
      assumption
    · assumption

theorem State.scnStart_changes (s : State) (n : Nat) :
    Changes [.cap, .sht, .bch, .scn, .hal] [.SHT_STATUS, .SHT_I_STATE, .SHT_LAST_OUT, .SHT_LAST_FRAME,
      .SHT_LAST_DELAY, .SHT_DELAY_MAX, .SHT_CNT_FALLBACK, .SHT_CNT_SUPERSEDED, .SHT_CNT_LOG_DROP, .SCN_STATUS,
      .SCN_STREAM_LEVEL, .SCN_RECORD, .HAL_CNT_QUEUE_DROP] s (State.scnStart s n) := by
  unfold State.scnStart
  extract_lets v1 v2 v3 v4 v5
  refine Changes.cut (x := v4) ?_ (fun h6 => ?_)
  · unfold v4
    refine Changes.andThen ?_ (State.streamLevel_changes ..) (by decide) (subset_regs (by decide +kernel))
    refine Changes.andThen ?_ (State.layerStart_changes ..) (by decide) (subset_regs (by decide +kernel))
    refine Changes.andThen ?_ (State.setSc_changes ..) (by decide) (subset_regs (by decide +kernel))
    exact Changes.refl _ _ _
  refine Changes.cut (x := v5) ?_ (fun h7 => ?_)
  · unfold v5
    refine Changes.wr ?_ (by decide +kernel)
    assumption
  clear_value v1
  clear_value v2
  clear_value v3
  clear_value v4
  clear_value v5
  refine Changes.ite ?_ ?_
  · exact Changes.refl _ _ _
  · refine Changes.ite ?_ ?_
    · refine Changes.setFld ?_ (by decide +kernel)
      exact Changes.refl _ _ _
    · refine Changes.andThen ?_ (State.shEngage_changes ..) (by decide) (subset_regs (by decide +kernel))
      refine Changes.setFld ?_ (by decide +kernel)
      assumption

theorem State.overflowHalt_changes (s : State) (n : Nat) :
    Changes [.outbox, .sht, .bch, .beams, .scn, .hal] [.SHT_STATUS, .SHT_I_STATE, .SHT_LAST_OUT, .SHT_LAST_FRAME,
      .SHT_LAST_DELAY, .SHT_DELAY_MAX, .SHT_CNT_FALLBACK, .SHT_CNT_SUPERSEDED, .SHT_CNT_LOG_DROP, .BCH_STATUS,
      .SCN_STATUS, .SCN_HALT_RECORD, .SCN_HALT_OFFSET, .SCN_RECORD, .SCN_CNT_RECORDS, .SCN_CNT_HALT,
      .HAL_CNT_QUEUE_DROP] s (State.overflowHalt s n) := by
  unfold State.overflowHalt
  extract_lets v1
  clear_value v1
  refine Changes.ite ?_ ?_
  · refine Changes.andThen ?_ (State.cleanHalt_changes ..) (by decide) (subset_regs (by decide +kernel))
    exact Changes.refl _ _ _
  · exact Changes.refl _ _ _

theorem State.awaitPlanner_changes (s : State) (n : Nat) :
    Changes [.fine, .outbox, .sht, .bch, .beams, .scn, .hal] [.SHT_STATUS, .SHT_I_STATE, .SHT_LAST_OUT,
      .SHT_LAST_FRAME, .SHT_LAST_DELAY, .SHT_DELAY_MAX, .SHT_CNT_FALLBACK, .SHT_CNT_SUPERSEDED, .SHT_CNT_LOG_DROP,
      .BCH_STATUS, .SCN_STATUS, .SCN_HALT_RECORD, .SCN_HALT_OFFSET, .SCN_RECORD, .SCN_CNT_RECORDS, .SCN_CNT_HALT,
      .HAL_CNT_QUEUE_DROP] s (State.awaitPlanner s n) := by
  unfold State.awaitPlanner
  extract_lets v1
  clear_value v1
  refine Changes.andThen ?_ (State.refresh_changes ..) (by decide) (subset_regs (by decide +kernel))
  refine Changes.andThen ?_ (State.passTo_changes ..) (by decide) (subset_regs (by decide +kernel))
  exact Changes.refl _ _ _

theorem State.planMove_changes (s : State) (n : Nat) (idx : Nat) (emit : Bool) (g : Seg) :
    Changes [.beams, .scn] [] s (State.planMove s n idx emit g) := by
  unfold State.planMove
  extract_lets v1 v2 v3 v4 v5 v6
  refine Changes.cut (x := v6) ?_ (fun h7 => ?_)
  · unfold v6
    refine Changes.andThen ?_ (State.setSc_changes ..) (by decide) (subset_regs (by decide +kernel))
    exact Changes.refl _ _ _
  clear_value v1
  clear_value v2
  clear_value v3
  clear_value v4
  clear_value v5
  clear_value v6
  refine Changes.ite ?_ ?_
  · assumption
  · split
    · rename_i y8 y9
      assumption
    · rename_i y10 y11 y12
      extract_lets v13
      clear_value v13
      refine Changes.ite ?_ ?_
      · assumption
      · refine Changes.andThen ?_ (State.rotRequest_changes ..) (by decide) (subset_regs (by decide +kernel))
        assumption

theorem State.badRecord_changes (s : State) (n : Nat) (idx : Nat) :
    Changes [.outbox, .sht, .bch, .beams, .scn, .hal] [.SHT_STATUS, .SHT_I_STATE, .SHT_LAST_OUT, .SHT_LAST_FRAME,
      .SHT_LAST_DELAY, .SHT_DELAY_MAX, .SHT_CNT_FALLBACK, .SHT_CNT_SUPERSEDED, .SHT_CNT_LOG_DROP, .BCH_STATUS,
      .SCN_STATUS, .SCN_HALT_RECORD, .SCN_HALT_OFFSET, .SCN_RECORD, .SCN_CNT_RECORDS, .SCN_CNT_HALT,
      .HAL_CNT_QUEUE_DROP] s (State.badRecord s n idx) := by
  unfold State.badRecord
  refine Changes.andThen ?_ (State.cleanHalt_changes ..) (by decide) (subset_regs (by decide +kernel))
  exact Changes.refl _ _ _

theorem State.planLine_changes (s : State) (n : Nat) (idx : Nat) (emit : Bool) (x : Int) (y : Int) (z : Int) :
    Changes [.beams, .scn] [] s (State.planLine s n idx emit x y z) := by
  unfold State.planLine
  extract_lets v1
  clear_value v1
  refine Changes.andThen ?_ (State.planMove_changes ..) (by decide) (subset_regs (by decide +kernel))
  exact Changes.refl _ _ _

theorem State.planNote_changes (s : State) (n : Nat) (idx : Nat) (kind : SegKind) (arg : Nat) (flag : Bool) (inChain :
    Bool) :
    Changes [.scn] [] s (State.planNote s n idx kind arg flag inChain) := by
  unfold State.planNote
  extract_lets v1 v2
  clear_value v1
  clear_value v2
  refine Changes.andThen ?_ (State.setSc_changes ..) (by decide) (subset_regs (by decide +kernel))
  exact Changes.refl _ _ _

theorem State.waitDone_changes (s : State) (n : Nat) :
    Changes [.outbox, .sht, .bch, .beams, .scn, .hal] [.SHT_STATUS, .SHT_I_STATE, .SHT_LAST_OUT, .SHT_LAST_FRAME,
      .SHT_LAST_DELAY, .SHT_DELAY_MAX, .SHT_CNT_FALLBACK, .SHT_CNT_SUPERSEDED, .SHT_CNT_LOG_DROP, .BCH_STATUS,
      .SCN_STATUS, .SCN_HALT_RECORD, .SCN_HALT_OFFSET, .SCN_RECORD, .SCN_CNT_RECORDS, .SCN_CNT_HALT,
      .HAL_CNT_QUEUE_DROP] s (State.waitDone s n) := by
  unfold State.waitDone
  extract_lets v1
  clear_value v1
  refine Changes.andThen ?_ (State.refresh_changes ..) (by decide) (subset_regs (by decide +kernel))
  refine Changes.bump ?_ (by decide +kernel)
  refine Changes.setFld ?_ (by decide +kernel)
  refine Changes.andThen ?_ (State.setSc_changes ..) (by decide) (subset_regs (by decide +kernel))
  exact Changes.refl _ _ _

end Sys2Proof.Machine
end

