-- ==== Sys2Proof/Laws/FrameStoreRing.lean ====
section
/-!
SUPPORT. What the operations of Machine/StoreRing.lean may change: one lemma for each.
-/

set_option Elab.async false

namespace Sys2Proof.Machine

theorem State.regionWr_changes (base : Nat) (mask : Nat) (a2 : Nat) (a3 : List Byte) (a4 : State) :
    Changes [.ddr, .fst] [] a4 (State.regionWr base mask a2 a3 a4) := by
  fun_induction State.regionWr base mask a2 a3 a4
  · rename_i y1 y2
    exact Changes.refl _ _ _
  · rename_i y3 y4 y5 y6 y7
    refine Changes.trans ?_ y7
    refine Changes.andThen ?_ (State.storeWr1_changes ..) (by decide) (subset_regs (by decide +kernel))
    exact Changes.refl _ _ _

theorem State.recWr_changes (s : State) (r : Nat) (x : Rec) (o : Nat) (data : List Byte) :
    Changes [.ddr, .fst] [] s (State.recWr s r x o data) := by
  unfold State.recWr
  refine Changes.andThen ?_ (State.regionWr_changes ..) (by decide) (subset_regs (by decide +kernel))
  exact Changes.refl _ _ _

theorem State.setRg_changes (s : State) (r : Nat) (x : Ring) :
    Changes [.fst] [] s (State.setRg s r x) := by
  unfold State.setRg
  refine Changes.fst ?_ (by rfl) (by decide +kernel)
  exact Changes.refl _ _ _

theorem State.setWp_changes (s : State) (r : Nat) (off : Nat) :
    Changes [.fst] [.FST_RING_WP_BAND] s (State.setWp s r off) := by
  unfold State.setWp
  extract_lets v1 v2
  clear_value v1
  clear_value v2
  refine Changes.wr ?_ (by decide +kernel)
  refine Changes.andThen ?_ (State.setRg_changes ..) (by decide) (subset_regs (by decide +kernel))
  exact Changes.refl _ _ _

theorem State.indexWr_changes (s : State) (r : Nat) (x : Rec) :
    Changes [.ddr, .fst] [] s (State.indexWr s r x) := by
  unfold State.indexWr
  refine Changes.andThen ?_ (State.regionWr_changes ..) (by decide) (subset_regs (by decide +kernel))
  exact Changes.refl _ _ _

theorem State.setRec_changes (s : State) (r : Nat) (x : Rec) :
    Changes [.ddr, .fst] [] s (State.setRec s r x) := by
  unfold State.setRec
  extract_lets v1
  clear_value v1
  refine Changes.andThen ?_ (State.indexWr_changes ..) (by decide) (subset_regs (by decide +kernel))
  refine Changes.andThen ?_ (State.setRg_changes ..) (by decide) (subset_regs (by decide +kernel))
  exact Changes.refl _ _ _

theorem State.endRec_changes (s : State) (r : Nat) (seq : Nat) (len : Nat) (hasMap : Bool) :
    Changes [.ddr, .fst] [.FST_RING_WP_BAND] s (State.endRec s r seq len hasMap) := by
  unfold State.endRec
  split
  · rename_i y1 y2
    exact Changes.refl _ _ _
  · rename_i y3 y4 y5
    extract_lets v6
    refine Changes.cut (x := v6) ?_ (fun h7 => ?_)
    · unfold v6
      refine Changes.andThen ?_ (State.setRec_changes ..) (by decide) (subset_regs (by decide +kernel))
      exact Changes.refl _ _ _
    clear_value v6
    refine Changes.ite ?_ ?_
    · refine Changes.andThen ?_ (State.setWp_changes ..) (by decide) (subset_regs (by decide +kernel))
      assumption
    · assumption

theorem State.putSpan_changes (s : State) (sp : Span) :
    Changes [.fst] [] s (State.putSpan s sp) := by
  unfold State.putSpan
  extract_lets v1 v2
  clear_value v1
  refine Changes.ite ?_ ?_
  · refine Changes.fst ?_ (by rfl) (by decide +kernel)
    exact Changes.refl _ _ _
  · refine Changes.fst ?_ (by rfl) (by decide +kernel)
    exact Changes.refl _ _ _

theorem State.spanNotice_changes (s : State) (kind : Nat) (sp : Span) (refused : Bool) :
    Changes [.outbox, .hal, .pce, .que, .helm] [.HAL_CNT_QUEUE_DROP, .PCE_STATUS, .PCE_CNT_MSIX_DROP, .QUE_STATUS,
      .QUE_CNT_LOST, .QUE_CNT_PTR_ERR, .QUE_CNT_NO_QUEUE, .HLM_CNT_NOTICE_DROP, .PWR_FAULT_SUMMARY] s
      (State.spanNotice s kind sp refused) := by
  unfold State.spanNotice
  extract_lets v1 v2 v3 v4 v5 v6 v7
  clear_value v1
  clear_value v2
  clear_value v3
  clear_value v4
  clear_value v5
  clear_value v6
  clear_value v7
  refine Changes.andThen ?_ (State.publish_changes ..) (by decide) (subset_regs (by decide +kernel))
  refine Changes.andThen ?_ (State.queSend_changes ..) (by decide) (subset_regs (by decide +kernel))
  exact Changes.refl _ _ _

theorem State.migNotices_changes (c : Nat) (a1 : List Span) (a2 : State) :
    Changes [.outbox, .hal, .pce, .que, .fst, .helm] [.HAL_CNT_QUEUE_DROP, .PCE_STATUS, .PCE_CNT_MSIX_DROP,
      .QUE_STATUS, .QUE_CNT_LOST, .QUE_CNT_PTR_ERR, .QUE_CNT_NO_QUEUE, .HLM_CNT_NOTICE_DROP, .PWR_FAULT_SUMMARY]
      a2 (State.migNotices c a1 a2) := by
  fun_induction State.migNotices c a1 a2
  · rename_i y1
    exact Changes.refl _ _ _
  · rename_i y2 y3 y4 y5 y6 y7
    assumption
  · rename_i y8 y9 y10 y11 y12 y13 y14
    refine Changes.trans ?_ y14
    refine Changes.andThen ?_ (State.spanNotice_changes ..) (by decide) (subset_regs (by decide +kernel))
    refine Changes.andThen ?_ (State.putSpan_changes ..) (by decide) (subset_regs (by decide +kernel))
    exact Changes.refl _ _ _

theorem State.spanClose_changes (s : State) (sp : Span) :
    Changes [.outbox, .hal, .pce, .que, .fst, .helm] [.HAL_CNT_QUEUE_DROP, .PCE_STATUS, .PCE_CNT_MSIX_DROP,
      .QUE_STATUS, .QUE_CNT_LOST, .QUE_CNT_PTR_ERR, .QUE_CNT_NO_QUEUE, .HLM_CNT_NOTICE_DROP, .PWR_FAULT_SUMMARY] s
      (State.spanClose s sp) := by
  unfold State.spanClose
  extract_lets v1 v2
  refine Changes.cut (x := v2) ?_ (fun h3 => ?_)
  · unfold v2
    refine Changes.andThen ?_ (State.spanNotice_changes ..) (by decide) (subset_regs (by decide +kernel))
    refine Changes.andThen ?_ (State.putSpan_changes ..) (by decide) (subset_regs (by decide +kernel))
    exact Changes.refl _ _ _
  clear_value v1
  clear_value v2
  split
  · rename_i y4 y5 y6
    refine Changes.ite ?_ ?_
    · refine Changes.andThen ?_ (State.migNotices_changes ..) (by decide) (subset_regs (by decide +kernel))
      assumption
    · assumption
  · rename_i y7 y8
    assumption

theorem State.pinRec_changes (s : State) (r : Nat) (x : Rec) (pin : Bool) (span : Option Nat) :
    Changes [.ddr, .fst] [] s (State.pinRec s r x pin span) := by
  unfold State.pinRec
  extract_lets v1 v2 v3
  clear_value v1
  clear_value v2
  clear_value v3
  refine Changes.andThen ?_ (State.setRec_changes ..) (by decide) (subset_regs (by decide +kernel))
  refine Changes.andThen ?_ (State.storeWr1_changes ..) (by decide) (subset_regs (by decide +kernel))
  exact Changes.refl _ _ _

theorem State.pinAll_changes (r : Nat) (id : Nat) (a2 : List Rec) (a3 : State) :
    Changes [.ddr, .fst] [] a3 (State.pinAll r id a2 a3) := by
  fun_induction State.pinAll r id a2 a3
  · rename_i y1
    exact Changes.refl _ _ _
  · rename_i y2 y3 y4 y5
    refine Changes.trans ?_ y5
    refine Changes.ite ?_ ?_
    · exact Changes.refl _ _ _
    · refine Changes.andThen ?_ (State.pinRec_changes ..) (by decide) (subset_regs (by decide +kernel))
      exact Changes.refl _ _ _

theorem State.leaveReleased_changes (s : State) (r : Nat) (seqs : List Nat) :
    Changes [.fst] [] s (State.leaveReleased s r seqs) := by
  unfold State.leaveReleased
  extract_lets v1 v2
  refine Changes.fst ?_ (by rfl) (by decide +kernel)
  exact Changes.refl _ _ _

theorem State.makeSpan_changes (s : State) (r : Nat) (first : Nat) (last : Nat) (short : Bool) :
    Changes [.outbox, .hal, .pce, .que, .ddr, .fst, .helm] [.FST_CNT_SPAN_REFUSED, .HAL_CNT_QUEUE_DROP,
      .PCE_STATUS, .PCE_CNT_MSIX_DROP, .QUE_STATUS, .QUE_CNT_LOST, .QUE_CNT_PTR_ERR, .QUE_CNT_NO_QUEUE,
      .HLM_CNT_NOTICE_DROP, .PWR_FAULT_SUMMARY] s (State.makeSpan s r first last short) := by
  unfold State.makeSpan
  extract_lets v1 v2 v3 v4 v5 v6 v7 v8
  clear_value v1
  clear_value v2
  clear_value v3
  clear_value v4
  split
  · rename_i y9 y10
    split
    · rename_i y11 y12
      refine Changes.andThen ?_ (State.spanNotice_changes ..) (by decide) (subset_regs (by decide +kernel))
      refine Changes.bump ?_ (by decide +kernel)
      exact Changes.refl _ _ _
    · rename_i y13 y14 y15
      extract_lets v16 v17
      refine Changes.cut (x := v17) ?_ (fun h18 => ?_)
      · unfold v17
        refine Changes.andThen ?_ (State.spanNotice_changes ..) (by decide) (subset_regs (by decide +kernel))
        refine Changes.andThen ?_ (State.leaveReleased_changes ..) (by decide) (subset_regs (by decide +kernel))
        refine Changes.andThen ?_ (State.pinAll_changes ..) (by decide) (subset_regs (by decide +kernel))
        refine Changes.andThen ?_ (State.putSpan_changes ..) (by decide) (subset_regs (by decide +kernel))
        exact Changes.refl _ _ _
      clear_value v16
      clear_value v17
      refine Changes.ite ?_ ?_
      · refine Changes.andThen ?_ (State.spanClose_changes ..) (by decide) (subset_regs (by decide +kernel))
        assumption
      · assumption
  · rename_i y19 y20 y21 y22
    extract_lets v23 v24 v25 v26 v27 v28
    refine Changes.cut (x := v26) ?_ (fun h29 => ?_)
    · unfold v26
      refine Changes.fst ?_ (by rfl) (by decide +kernel)
      exact Changes.refl _ _ _
    refine Changes.cut (x := v27) ?_ (fun h30 => ?_)
    · unfold v27
      refine Changes.andThen ?_ (State.putSpan_changes ..) (by decide) (subset_regs (by decide +kernel))
      assumption
    refine Changes.cut (x := v28) ?_ (fun h31 => ?_)
    · unfold v28
      refine Changes.andThen ?_ (State.spanNotice_changes ..) (by decide) (subset_regs (by decide +kernel))
      refine Changes.andThen ?_ (State.leaveReleased_changes ..) (by decide) (subset_regs (by decide +kernel))
      refine Changes.andThen ?_ (State.pinAll_changes ..) (by decide) (subset_regs (by decide +kernel))
      assumption
    clear_value v23
    clear_value v24
    clear_value v25
    clear_value v26
    clear_value v27
    clear_value v28
    refine Changes.ite ?_ ?_
    · refine Changes.andThen ?_ (State.spanClose_changes ..) (by decide) (subset_regs (by decide +kernel))
      assumption
    · assumption

theorem State.markSpanNow_changes (s : State) (r : Nat) (t : Nat) (n : Nat) :
    Changes [.outbox, .hal, .pce, .que, .ddr, .fst, .helm] [.FST_CNT_SPAN_REFUSED, .HAL_CNT_QUEUE_DROP,
      .PCE_STATUS, .PCE_CNT_MSIX_DROP, .QUE_STATUS, .QUE_CNT_LOST, .QUE_CNT_PTR_ERR, .QUE_CNT_NO_QUEUE,
      .HLM_CNT_NOTICE_DROP, .PWR_FAULT_SUMMARY] s (State.markSpanNow s r t n) := by
  unfold State.markSpanNow
  extract_lets v1 v2 v3 v4 v5
  clear_value v1
  clear_value v2
  clear_value v3
  clear_value v4
  clear_value v5
  refine Changes.ite ?_ ?_
  · exact Changes.refl _ _ _
  · refine Changes.andThen ?_ (State.makeSpan_changes ..) (by decide) (subset_regs (by decide +kernel))
    exact Changes.refl _ _ _

theorem State.searchDone_changes (s : State) (r : Nat) :
    Changes [.outbox, .hal, .pce, .que, .ddr, .fst, .helm] [.FST_CNT_SPAN_REFUSED, .HAL_CNT_QUEUE_DROP,
      .PCE_STATUS, .PCE_CNT_MSIX_DROP, .QUE_STATUS, .QUE_CNT_LOST, .QUE_CNT_PTR_ERR, .QUE_CNT_NO_QUEUE,
      .HLM_CNT_NOTICE_DROP, .PWR_FAULT_SUMMARY] s (State.searchDone s r) := by
  unfold State.searchDone
  split
  · rename_i y1 y2 y3 y4
    extract_lets v5
    clear_value v5
    refine Changes.andThen ?_ (State.markSpanNow_changes ..) (by decide) (subset_regs (by decide +kernel))
    refine Changes.andThen ?_ (State.setRg_changes ..) (by decide) (subset_regs (by decide +kernel))
    exact Changes.refl _ _ _
  · rename_i y6 y7
    exact Changes.refl _ _ _

theorem State.markFor_changes (s : State) (r : Nat) (t : Nat) (n : Nat) :
    Changes [.outbox, .hal, .pce, .que, .ddr, .fst, .helm] [.FST_CNT_SPAN_REFUSED, .HAL_CNT_QUEUE_DROP,
      .PCE_STATUS, .PCE_CNT_MSIX_DROP, .QUE_STATUS, .QUE_CNT_LOST, .QUE_CNT_PTR_ERR, .QUE_CNT_NO_QUEUE,
      .HLM_CNT_NOTICE_DROP, .PWR_FAULT_SUMMARY] s (State.markFor s r t n) := by
  unfold State.markFor
  extract_lets v1 v2
  refine Changes.cut (x := v1) ?_ (fun h3 => ?_)
  · unfold v1
    refine Changes.andThen ?_ (State.searchDone_changes ..) (by decide) (subset_regs (by decide +kernel))
    exact Changes.refl _ _ _
  clear_value v1
  clear_value v2
  refine Changes.ite ?_ ?_
  · refine Changes.andThen ?_ (State.setRg_changes ..) (by decide) (subset_regs (by decide +kernel))
    assumption
  · refine Changes.andThen ?_ (State.markSpanNow_changes ..) (by decide) (subset_regs (by decide +kernel))
    assumption

theorem State.storeStatus_changes (s : State) :
    Changes [] [.FST_STATUS] s (State.storeStatus s) := by
  unfold State.storeStatus
  extract_lets v1 v2 v3
  clear_value v1
  clear_value v2
  clear_value v3
  refine Changes.setFld ?_ (by decide +kernel)
  refine Changes.setFld ?_ (by decide +kernel)
  exact Changes.refl _ _ _

theorem State.unpinAll_changes (r : Nat) (a1 : List Rec) (a2 : State) :
    Changes [.ddr, .fst] [] a2 (State.unpinAll r a1 a2) := by
  fun_induction State.unpinAll r a1 a2
  · rename_i y1
    exact Changes.refl _ _ _
  · rename_i y2 y3 y4 y5
    refine Changes.trans ?_ y5
    refine Changes.andThen ?_ (State.pinRec_changes ..) (by decide) (subset_regs (by decide +kernel))
    exact Changes.refl _ _ _

theorem State.spanFree_changes (s : State) (sp : Span) (kind : Nat) :
    Changes [.outbox, .hal, .pce, .que, .ddr, .fst, .helm] [.HAL_CNT_QUEUE_DROP, .PCE_STATUS, .PCE_CNT_MSIX_DROP,
      .QUE_STATUS, .QUE_CNT_LOST, .QUE_CNT_PTR_ERR, .QUE_CNT_NO_QUEUE, .HLM_CNT_NOTICE_DROP, .PWR_FAULT_SUMMARY] s
      (State.spanFree s sp kind) := by
  unfold State.spanFree
  extract_lets v1 v2 v3 v4
  refine Changes.cut (x := v2) ?_ (fun h5 => ?_)
  · unfold v2
    refine Changes.andThen ?_ (State.putSpan_changes ..) (by decide) (subset_regs (by decide +kernel))
    refine Changes.andThen ?_ (State.unpinAll_changes ..) (by decide) (subset_regs (by decide +kernel))
    exact Changes.refl _ _ _
  refine Changes.cut (x := v3) ?_ (fun h6 => ?_)
  · unfold v3
    refine Changes.andThen ?_ (State.spanNotice_changes ..) (by decide) (subset_regs (by decide +kernel))
    assumption
  clear_value v1
  clear_value v2
  clear_value v3
  refine Changes.fst ?_ (by rfl) (by decide +kernel)
  assumption

theorem State.spanFreeAll_changes (a0 : List Span) (a1 : State) :
    Changes [.outbox, .hal, .pce, .que, .ddr, .fst, .helm] [.HAL_CNT_QUEUE_DROP, .PCE_STATUS, .PCE_CNT_MSIX_DROP,
      .QUE_STATUS, .QUE_CNT_LOST, .QUE_CNT_PTR_ERR, .QUE_CNT_NO_QUEUE, .HLM_CNT_NOTICE_DROP, .PWR_FAULT_SUMMARY]
      a1 (State.spanFreeAll a0 a1) := by
  fun_induction State.spanFreeAll a0 a1
  · rename_i y1
    exact Changes.refl _ _ _
  · rename_i y2 y3 y4 y5
    refine Changes.trans ?_ y5
    refine Changes.andThen ?_ (State.spanFree_changes ..) (by decide) (subset_regs (by decide +kernel))
    exact Changes.refl _ _ _

theorem State.mark_changes (s : State) (r : Nat) (t : Nat) :
    Changes [.outbox, .hal, .pce, .que, .ddr, .fst, .helm] [.FST_CNT_SPAN_REFUSED, .HAL_CNT_QUEUE_DROP,
      .PCE_STATUS, .PCE_CNT_MSIX_DROP, .QUE_STATUS, .QUE_CNT_LOST, .QUE_CNT_PTR_ERR, .QUE_CNT_NO_QUEUE,
      .HLM_CNT_NOTICE_DROP, .PWR_FAULT_SUMMARY] s (State.mark s r t) := by
  unfold State.mark
  extract_lets v1
  refine Changes.ite ?_ ?_
  · exact Changes.refl _ _ _
  · refine Changes.ite ?_ ?_
    · refine Changes.fst ?_ (by rfl) (by decide +kernel)
      exact Changes.refl _ _ _
    · refine Changes.andThen ?_ (State.markFor_changes ..) (by decide) (subset_regs (by decide +kernel))
      exact Changes.refl _ _ _

theorem State.ringOps_changes (a0 : List RingOp) (a1 : State) :
    Changes [.outbox, .freeCtr, .hal, .pceCfg, .pce, .que, .ddr, .fst, .helm] [.FST_CNT_SPAN_REFUSED,
      .HAL_CNT_QUEUE_DROP, .PCE_STATUS, .PCE_CNT_PRIV_REFUSED, .PCE_CNT_MSIX_DROP, .QUE_STATUS, .QUE_CNT_LOST,
      .QUE_CNT_PTR_ERR, .QUE_CNT_NO_QUEUE, .HLM_CNT_NOTICE_DROP, .PWR_FAULT_SUMMARY] a1 (State.ringOps a0 a1) := by
  fun_induction State.ringOps a0 a1
  · rename_i y1
    exact Changes.refl _ _ _
  · rename_i y2 y3 y4 y5
    refine Changes.trans ?_ y5
    split
    · rename_i y6 y7 y8
      unfold execFstMarkGo
      rw [resState_next]
      unfold State.writeGate
      refine Changes.ite ?_ ?_
      · exact Changes.refl _ _ _
      · unfold State.gated
        unfold State.flrGate
        extract_lets v9
        refine Changes.cut (x := v9.2) ?_ (fun h10 => ?_)
        · unfold v9
          refine Changes.andThen ?_ (State.freeBits_changes ..) (by decide) (subset_regs (by decide +kernel))
          exact Changes.refl _ _ _
        refine Changes.ite ?_ ?_
        · refine Changes.andThen ?_ (State.unsupportedReq_changes ..) (by decide) (subset_regs (by decide +kernel))
          assumption
        · refine Changes.ite ?_ ?_
          · refine Changes.ite ?_ ?_
            · refine Changes.andThen ?_ (State.mark_changes ..) (by decide) (subset_regs (by decide +kernel))
              exact Changes.refl _ _ _
            · exact Changes.refl _ _ _
          · refine Changes.ite ?_ ?_
            · refine Changes.bump ?_ (by decide +kernel)
              exact Changes.refl _ _ _
            · exact Changes.refl _ _ _
    · rename_i y11 y12
      refine Changes.andThen ?_ (State.mark_changes ..) (by decide) (subset_regs (by decide +kernel))
      exact Changes.refl _ _ _
    · rename_i y13 y14 y15
      unfold execSpanRelease
      rw [resState_next]
      unfold State.writeGate
      refine Changes.ite ?_ ?_
      · exact Changes.refl _ _ _
      · unfold State.gated
        unfold State.flrGate
        extract_lets v16
        refine Changes.cut (x := v16.2) ?_ (fun h17 => ?_)
        · unfold v16
          refine Changes.andThen ?_ (State.freeBits_changes ..) (by decide) (subset_regs (by decide +kernel))
          exact Changes.refl _ _ _
        refine Changes.ite ?_ ?_
        · refine Changes.andThen ?_ (State.unsupportedReq_changes ..) (by decide) (subset_regs (by decide +kernel))
          assumption
        · refine Changes.ite ?_ ?_
          · split
            · rename_i y18 y19 y20
              refine Changes.andThen ?_ (State.spanFree_changes ..) (by decide) (subset_regs (by decide +kernel))
              exact Changes.refl _ _ _
            · rename_i y21 y22
              exact Changes.refl _ _ _
          · refine Changes.ite ?_ ?_
            · refine Changes.bump ?_ (by decide +kernel)
              exact Changes.refl _ _ _
            · exact Changes.refl _ _ _
    · rename_i y23 y24 y25
      unfold execSpanReleaseAll
      rw [resState_next]
      unfold State.writeGate
      refine Changes.ite ?_ ?_
      · exact Changes.refl _ _ _
      · unfold State.gated
        unfold State.flrGate
        extract_lets v26
        refine Changes.cut (x := v26.2) ?_ (fun h27 => ?_)
        · unfold v26
          refine Changes.andThen ?_ (State.freeBits_changes ..) (by decide) (subset_regs (by decide +kernel))
          exact Changes.refl _ _ _
        refine Changes.ite ?_ ?_
        · refine Changes.andThen ?_ (State.unsupportedReq_changes ..) (by decide) (subset_regs (by decide +kernel))
          assumption
        · refine Changes.ite ?_ ?_
          · refine Changes.andThen ?_ (State.spanFreeAll_changes ..) (by decide) (subset_regs (by decide +kernel))
            exact Changes.refl _ _ _
          · refine Changes.ite ?_ ?_
            · refine Changes.bump ?_ (by decide +kernel)
              exact Changes.refl _ _ _
            · exact Changes.refl _ _ _

theorem State.setTail_changes (s : State) (r : Nat) :
    Changes [] [.FST_RING_TAIL] s (State.setTail s r) := by
  unfold State.setTail
  split
  · rename_i y1 y2
    refine Changes.wr ?_ (by decide +kernel)
    exact Changes.refl _ _ _
  · rename_i y3 y4 y5 y6
    refine Changes.wr ?_ (by decide +kernel)
    exact Changes.refl _ _ _

theorem State.ringFull_changes (s : State) (r : Nat) :
    Changes [.hal] [.FST_RING_STATUS, .HAL_CNT_QUEUE_DROP] s (State.ringFull s r) := by
  unfold State.ringFull
  refine Changes.andThen ?_ (State.publish_changes ..) (by decide) (subset_regs (by decide +kernel))
  refine Changes.setFld ?_ (by decide +kernel)
  refine Changes.setFld ?_ (by decide +kernel)
  exact Changes.refl _ _ _

theorem State.spanJoined_changes (s : State) (seq : Nat) (a2 : Option Span) :
    Changes [.outbox, .hal, .pce, .que, .fst, .helm] [.HAL_CNT_QUEUE_DROP, .PCE_STATUS, .PCE_CNT_MSIX_DROP,
      .QUE_STATUS, .QUE_CNT_LOST, .QUE_CNT_PTR_ERR, .QUE_CNT_NO_QUEUE, .HLM_CNT_NOTICE_DROP, .PWR_FAULT_SUMMARY] s
      (State.spanJoined s seq a2) := by
  unfold State.spanJoined
  split
  · rename_i y1 y2
    refine Changes.ite ?_ ?_
    · refine Changes.andThen ?_ (State.spanClose_changes ..) (by decide) (subset_regs (by decide +kernel))
      exact Changes.refl _ _ _
    · exact Changes.refl _ _ _
  · rename_i y3
    exact Changes.refl _ _ _

theorem State.spanJoin_changes (s : State) (seq : Nat) (a2 : Option Span) :
    Changes [.fst] [] s (State.spanJoin s seq a2) := by
  unfold State.spanJoin
  split
  · rename_i y1 y2
    refine Changes.andThen ?_ (State.putSpan_changes ..) (by decide) (subset_regs (by decide +kernel))
    exact Changes.refl _ _ _
  · rename_i y3
    exact Changes.refl _ _ _

theorem State.voidList_changes (r : Nat) (a1 : List Rec) (a2 : State) :
    Changes [.ddr, .fst] [.FST_CNT_VOID] a2 (State.voidList r a1 a2) := by
  fun_induction State.voidList r a1 a2
  · rename_i y1
    exact Changes.refl _ _ _
  · rename_i y2 y3 y4 y5
    refine Changes.trans ?_ y5
    refine Changes.bump ?_ (by decide +kernel)
    refine Changes.andThen ?_ (State.indexWr_changes ..) (by decide) (subset_regs (by decide +kernel))
    exact Changes.refl _ _ _

theorem State.voidWhere_changes (s : State) (r : Nat) (p : Rec → Bool) :
    Changes [.ddr, .fst] [.FST_RING_TAIL, .FST_CNT_VOID] s (State.voidWhere s r p) := by
  unfold State.voidWhere
  extract_lets v1 v2 v3 v4 v5 v6 v7
  refine Changes.cut (x := v3) ?_ (fun h8 => ?_)
  · unfold v3
    refine Changes.andThen ?_ (State.voidList_changes ..) (by decide) (subset_regs (by decide +kernel))
    exact Changes.refl _ _ _
  refine Changes.cut (x := v4) ?_ (fun h9 => ?_)
  · unfold v4
    refine Changes.andThen ?_ (State.setTail_changes ..) (by decide) (subset_regs (by decide +kernel))
    refine Changes.andThen ?_ (State.setRg_changes ..) (by decide) (subset_regs (by decide +kernel))
    assumption
  clear_value v1
  clear_value v2
  clear_value v3
  clear_value v4
  clear_value v5
  refine Changes.ite ?_ ?_
  · exact Changes.refl _ _ _
  · refine Changes.fst ?_ (by rfl) (by decide +kernel)
    assumption

theorem State.voidFor_changes (s : State) (r : Nat) (k : Nat) (off : Nat) (need : Nat) :
    Changes [.ddr, .fst] [.FST_RING_TAIL, .FST_CNT_VOID] s (State.voidFor s r k off need) := by
  unfold State.voidFor
  extract_lets v1 v2 v3 v4 v5
  clear_value v1
  clear_value v2
  clear_value v3
  clear_value v4
  clear_value v5
  refine Changes.andThen ?_ (State.voidWhere_changes ..) (by decide) (subset_regs (by decide +kernel))
  exact Changes.refl _ _ _

theorem State.wrapRing_changes (s : State) (r : Nat) (k : Nat) :
    Changes [.fst] [.FST_RING_STATUS, .FST_RING_LAP] s (State.wrapRing s r k) := by
  unfold State.wrapRing
  extract_lets v1 v2 v3 v4 v5
  refine Changes.cut (x := v2) ?_ (fun h6 => ?_)
  · unfold v2
    refine Changes.setFld ?_ (by decide +kernel)
    refine Changes.setFld ?_ (by decide +kernel)
    exact Changes.refl _ _ _
  refine Changes.cut (x := v4) ?_ (fun h7 => ?_)
  · unfold v4
    refine Changes.andThen ?_ (State.setRg_changes ..) (by decide) (subset_regs (by decide +kernel))
    refine Changes.wr ?_ (by decide +kernel)
    assumption
  clear_value v1
  clear_value v2
  clear_value v3
  clear_value v4
  refine Changes.ite ?_ ?_
  · exact Changes.refl _ _ _
  · refine Changes.ite ?_ ?_
    · refine Changes.fst ?_ (by rfl) (by decide +kernel)
      assumption
    · assumption

theorem State.placeRec_changes (s : State) (r : Nat) (port : Nat) (frame : Nat) (stamp : Nat) (at0 : Nat) (need : Nat)
    :
    Changes [.outbox, .hal, .pce, .que, .ddr, .fst, .helm] [.FST_RING_STATUS, .FST_RING_LAP, .FST_RING_WP_BAND,
      .FST_RING_HEAD, .FST_RING_TAIL, .FST_CNT_VOID, .HAL_CNT_QUEUE_DROP, .PCE_STATUS, .PCE_CNT_MSIX_DROP,
      .QUE_STATUS, .QUE_CNT_LOST, .QUE_CNT_PTR_ERR, .QUE_CNT_NO_QUEUE, .HLM_CNT_NOTICE_DROP, .PWR_FAULT_SUMMARY] s
      (State.placeRec s r port frame stamp at0 need).2 := by
  unfold State.placeRec
  split
  · rename_i y1 y2
    dsimp only
    exact Changes.refl _ _ _
  · rename_i y3 y4 y5 y6
    extract_lets v7 v8 v9 v10 v11 v12 v13 v14 v15 v16
    refine Changes.cut (x := v7) ?_ (fun h17 => ?_)
    · unfold v7
      refine Changes.andThen ?_ (State.wrapRing_changes ..) (by decide) (subset_regs (by decide +kernel))
      refine Changes.andThen ?_ (State.voidFor_changes ..) (by decide) (subset_regs (by decide +kernel))
      exact Changes.refl _ _ _
    refine Changes.cut (x := v11) ?_ (fun h18 => ?_)
    · unfold v11
      refine Changes.andThen ?_ (State.spanJoin_changes ..) (by decide) (subset_regs (by decide +kernel))
      assumption
    refine Changes.cut (x := v14) ?_ (fun h19 => ?_)
    · unfold v14
      refine Changes.andThen ?_ (State.indexWr_changes ..) (by decide) (subset_regs (by decide +kernel))
      refine Changes.andThen ?_ (State.setRg_changes ..) (by decide) (subset_regs (by decide +kernel))
      assumption
    refine Changes.cut (x := v15) ?_ (fun h20 => ?_)
    · unfold v15
      refine Changes.wr ?_ (by decide +kernel)
      assumption
    refine Changes.cut (x := v16) ?_ (fun h21 => ?_)
    · unfold v16
      refine Changes.setFld ?_ (by decide +kernel)
      refine Changes.andThen ?_ (State.setWp_changes ..) (by decide) (subset_regs (by decide +kernel))
      refine Changes.andThen ?_ (State.setTail_changes ..) (by decide) (subset_regs (by decide +kernel))
      assumption
    clear_value v7
    clear_value v8
    clear_value v9
    clear_value v10
    clear_value v11
    clear_value v12
    clear_value v13
    clear_value v14
    clear_value v15
    clear_value v16
    dsimp only
    refine Changes.andThen ?_ (State.spanJoined_changes ..) (by decide) (subset_regs (by decide +kernel))
    assumption

theorem State.voidAhead_changes (s : State) (r : Nat) (need : Nat) :
    Changes [.ddr, .fst] [.FST_RING_TAIL, .FST_CNT_VOID] s (State.voidAhead s r need) := by
  unfold State.voidAhead
  split
  · rename_i y1 y2 y3 y4
    refine Changes.andThen ?_ (State.voidFor_changes ..) (by decide) (subset_regs (by decide +kernel))
    exact Changes.refl _ _ _
  · rename_i y5 y6
    exact Changes.refl _ _ _

end Sys2Proof.Machine
end

