-- ==== Sys2Proof/Laws/FrameDmaOps.lean ====
section
/-!
SUPPORT. What the operations of Machine/DmaOps.lean may change: one lemma for each.
-/

set_option Elab.async false

namespace Sys2Proof.Machine

theorem State.setDm_changes (s : State) (n : Nat) (x : Dma) :
    Changes [.dma] [] s (State.setDm s n x) := by
  unfold State.setDm
  refine Changes.dma ?_ (by decide +kernel)
  exact Changes.refl _ _ _

theorem State.ctData_changes (s : State) (n : Nat) (port : Nat) (frame : Nat) (off : Nat) (data : List Byte) :
    Changes [.dma] [] s (State.ctData s n port frame off data) := by
  unfold State.ctData
  extract_lets v1 v2 v3
  clear_value v1
  clear_value v2
  refine Changes.andThen ?_ (State.setDm_changes ..) (by decide) (subset_regs (by decide +kernel))
  exact Changes.refl _ _ _

theorem State.ctEnd_changes (s : State) (n : Nat) (port : Nat) (frame : Nat) (tag : List Byte) (mapOff : Nat) (map :
    List Byte) :
    Changes [.dma] [] s (State.ctEnd s n port frame tag mapOff map) := by
  unfold State.ctEnd
  extract_lets v1 v2
  refine Changes.cut (x := v1) ?_ (fun h3 => ?_)
  · unfold v1
    refine Changes.ite ?_ ?_
    · exact Changes.refl _ _ _
    · refine Changes.andThen ?_ (State.ctData_changes ..) (by decide) (subset_regs (by decide +kernel))
      exact Changes.refl _ _ _
  clear_value v1
  clear_value v2
  refine Changes.andThen ?_ (State.setDm_changes ..) (by decide) (subset_regs (by decide +kernel))
  assumption

theorem State.dmaCredit_changes (s : State) (n : Nat) :
    Changes [.dma] [] s (State.dmaCredit s n) := by
  unfold State.dmaCredit
  extract_lets v1
  clear_value v1
  refine Changes.andThen ?_ (State.setDm_changes ..) (by decide) (subset_regs (by decide +kernel))
  exact Changes.refl _ _ _

theorem State.dropReqs_changes (s : State) (k : ReqKind) (p : Req → Bool) :
    Changes [.pce] [] s (State.dropReqs s k p) := by
  unfold State.dropReqs
  refine Changes.pce ?_ (by rfl) (by decide +kernel)
  exact Changes.refl _ _ _

theorem State.dropShadow_changes (s : State) (n : Nat) :
    Changes [.pce, .dma] [] s (State.dropShadow s n) := by
  unfold State.dropShadow
  extract_lets v1
  clear_value v1
  refine Changes.andThen ?_ (State.setDm_changes ..) (by decide) (subset_regs (by decide +kernel))
  refine Changes.andThen ?_ (State.dropReqs_changes ..) (by decide) (subset_regs (by decide +kernel))
  exact Changes.refl _ _ _

theorem State.issue_changes (s : State) (q : Req) :
    Changes [.outbox, .pce] [.PCE_STATUS] s (State.issue s q) := by
  unfold State.issue
  split
  · rename_i y1 y2 y3
    extract_lets v4
    refine Changes.emit ?_ (by decide +kernel)
    refine Changes.andThen ?_ (State.linkWake_changes ..) (by decide) (subset_regs (by decide +kernel))
    refine Changes.pce ?_ (by rfl) (by decide +kernel)
    exact Changes.refl _ _ _
  · rename_i y5 y6
    refine Changes.pce ?_ (by rfl) (by decide +kernel)
    exact Changes.refl _ _ _

theorem State.dmaRead_changes (s : State) (n : Nat) (kind : ReqKind) (addr : Nat) (len : Nat) :
    Changes [.outbox, .pce, .dma] [.PCE_STATUS] s (State.dmaRead s n kind addr len) := by
  unfold State.dmaRead
  extract_lets v1
  clear_value v1
  refine Changes.ite ?_ ?_
  · refine Changes.andThen ?_ (State.issue_changes ..) (by decide) (subset_regs (by decide +kernel))
    exact Changes.refl _ _ _
  · refine Changes.andThen ?_ (State.setDm_changes ..) (by decide) (subset_regs (by decide +kernel))
    exact Changes.refl _ _ _

theorem State.setDmaState_changes (s : State) (n : Nat) (st : Nat) :
    Changes [] [.DMA_STATUS] s (State.setDmaState s n st) := by
  unfold State.setDmaState
  refine Changes.setFld ?_ (by decide +kernel)
  exact Changes.refl _ _ _

theorem State.startDesc_changes (s : State) (n : Nat) (d : Desc) :
    Changes [.outbox, .pce, .dma, .que] [.PCE_STATUS, .PCE_CNT_MSIX_DROP, .DMA_STATUS, .QUE_STATUS] s
      (State.startDesc s n d) := by
  unfold State.startDesc
  extract_lets v1 v2 v3 v4 v5 v6 v7 v8 v9
  refine Changes.cut (x := v1) ?_ (fun h10 => ?_)
  · unfold v1
    refine Changes.andThen ?_ (State.dmaCredit_changes ..) (by decide) (subset_regs (by decide +kernel))
    exact Changes.refl _ _ _
  refine Changes.cut (x := v3) ?_ (fun h11 => ?_)
  · unfold v3
    refine Changes.andThen ?_ (State.setDm_changes ..) (by decide) (subset_regs (by decide +kernel))
    assumption
  refine Changes.cut (x := v6) ?_ (fun h12 => ?_)
  · unfold v6
    refine Changes.ite ?_ ?_
    · refine Changes.andThen ?_ (State.setDmaState_changes ..) (by decide) (subset_regs (by decide +kernel))
      refine Changes.andThen ?_ (State.putQue_changes ..) (by decide) (subset_regs (by decide +kernel))
      assumption
    · refine Changes.andThen ?_ (State.setDmaState_changes ..) (by decide) (subset_regs (by decide +kernel))
      assumption
  refine Changes.cut (x := v9) ?_ (fun h13 => ?_)
  · unfold v9
    refine Changes.andThen ?_ (State.setDm_changes ..) (by decide) (subset_regs (by decide +kernel))
    assumption
  clear_value v1
  clear_value v2
  clear_value v3
  clear_value v4
  clear_value v5
  clear_value v6
  clear_value v7
  clear_value v8
  clear_value v9
  refine Changes.ite ?_ ?_
  · assumption
  · refine Changes.ite ?_ ?_
    · assumption
    · refine Changes.andThen ?_ (State.dmaRead_changes ..) (by decide) (subset_regs (by decide +kernel))
      assumption

theorem State.portServed_changes (s : State) (n : Nat) :
    Changes [.pce] [] s (State.portServed s n) := by
  unfold State.portServed
  extract_lets v1
  refine Changes.ite ?_ ?_
  · refine Changes.pce ?_ (by rfl) (by decide +kernel)
    exact Changes.refl _ _ _
  · refine Changes.pce ?_ (by rfl) (by decide +kernel)
    exact Changes.refl _ _ _

theorem State.issueWaiting_changes (a0 : Nat) (a1 : State) :
    Changes [.outbox, .pce] [.PCE_STATUS] a1 (State.issueWaiting a0 a1) := by
  fun_induction State.issueWaiting a0 a1
  · rename_i y1
    exact Changes.refl _ _ _
  · rename_i y2 y3 y4 y5 y6 y7 y8 y9 y10
    extract_lets v11
    refine Changes.trans ?_ y10
    extract_lets 
    refine Changes.andThen ?_ (State.issue_changes ..) (by decide) (subset_regs (by decide +kernel))
    refine Changes.andThen ?_ (State.portServed_changes ..) (by decide) (subset_regs (by decide +kernel))
    refine Changes.pce ?_ (by rfl) (by decide +kernel)
    exact Changes.refl _ _ _
  · rename_i y12 y13 y14 y15 y16 y17 y18
    exact Changes.refl _ _ _
  · rename_i y19 y20 y21
    exact Changes.refl _ _ _

theorem State.reissue_changes (s : State) :
    Changes [.outbox, .pce] [.PCE_STATUS] s (State.reissue s) := by
  unfold State.reissue
  refine Changes.andThen ?_ (State.issueWaiting_changes ..) (by decide) (subset_regs (by decide +kernel))
  exact Changes.refl _ _ _

theorem State.setCur_changes (s : State) (n : Nat) (a : Nat) :
    Changes [] [.DMA_CUR_LO, .DMA_CUR_HI] s (State.setCur s n a) := by
  unfold State.setCur
  refine Changes.wr ?_ (by decide +kernel)
  refine Changes.wr ?_ (by decide +kernel)
  exact Changes.refl _ _ _

theorem State.dmaLoad_changes (s : State) (n : Nat) (a : Nat) :
    Changes [.outbox, .pce, .dma] [.PCE_STATUS, .DMA_STATUS, .DMA_CUR_LO, .DMA_CUR_HI] s (State.dmaLoad s n a) := by
  unfold State.dmaLoad
  extract_lets v1 v2 v3
  refine Changes.cut (x := v2) ?_ (fun h4 => ?_)
  · unfold v2
    refine Changes.andThen ?_ (State.setDmaState_changes ..) (by decide) (subset_regs (by decide +kernel))
    refine Changes.andThen ?_ (State.setDm_changes ..) (by decide) (subset_regs (by decide +kernel))
    exact Changes.refl _ _ _
  refine Changes.cut (x := v3) ?_ (fun h5 => ?_)
  · unfold v3
    refine Changes.ite ?_ ?_
    · assumption
    · refine Changes.andThen ?_ (State.setCur_changes ..) (by decide) (subset_regs (by decide +kernel))
      assumption
  clear_value v1
  clear_value v2
  clear_value v3
  refine Changes.ite ?_ ?_
  · assumption
  · refine Changes.andThen ?_ (State.dmaRead_changes ..) (by decide) (subset_regs (by decide +kernel))
    assumption

theorem State.dropDrain_changes (s : State) (n : Nat) (d : Desc) :
    Changes [.outbox, .pce, .que] [.PCE_STATUS, .PCE_CNT_MSIX_DROP, .QUE_STATUS] s (State.dropDrain s n d) := by
  unfold State.dropDrain
  extract_lets v1
  clear_value v1
  refine Changes.ite ?_ ?_
  · refine Changes.andThen ?_ (State.putQue_changes ..) (by decide) (subset_regs (by decide +kernel))
    exact Changes.refl _ _ _
  · exact Changes.refl _ _ _

theorem State.storeWrBad_changes (a : Nat) (data : List Byte) (a2 : List (Nat × Nat)) (a3 : State) :
    Changes [.ddr, .fst] [] a3 (State.storeWrBad a data a2 a3) := by
  fun_induction State.storeWrBad a data a2 a3
  · rename_i y1
    exact Changes.refl _ _ _
  · rename_i y2 y3 y4 y5
    refine Changes.trans ?_ y5
    refine Changes.andThen ?_ (State.storeWr_changes ..) (by decide) (subset_regs (by decide +kernel))
    exact Changes.refl _ _ _

theorem State.dmaStoreWr_changes (s : State) (a : Nat) (data : List Byte) (bad : List (Nat × Nat)) :
    Changes [.ddr, .fst] [.FST_CNT_BAD_ACCESS] s (State.dmaStoreWr s a data bad) := by
  unfold State.dmaStoreWr
  refine Changes.ite ?_ ?_
  · refine Changes.andThen ?_ (State.storeWrBad_changes ..) (by decide) (subset_regs (by decide +kernel))
    refine Changes.andThen ?_ (State.storeWr_changes ..) (by decide) (subset_regs (by decide +kernel))
    exact Changes.refl _ _ _
  · refine Changes.bump ?_ (by decide +kernel)
    exact Changes.refl _ _ _

theorem State.dmaWriteBack_changes (s : State) (a : Nat) (d : Desc) (status : Nat) (done : Nat) (info : Nat) :
    Changes [.outbox, .ddr, .fst] [.FST_CNT_BAD_ACCESS] s (State.dmaWriteBack s a d status done info) := by
  unfold State.dmaWriteBack
  extract_lets v1 v2 v3
  clear_value v1
  clear_value v2
  clear_value v3
  refine Changes.ite ?_ ?_
  · refine Changes.andThen ?_ (State.dmaStoreWr_changes ..) (by decide) (subset_regs (by decide +kernel))
    refine Changes.andThen ?_ (State.dmaStoreWr_changes ..) (by decide) (subset_regs (by decide +kernel))
    exact Changes.refl _ _ _
  · refine Changes.ite ?_ ?_
    · refine Changes.emit ?_ (by decide +kernel)
      refine Changes.emit ?_ (by decide +kernel)
      exact Changes.refl _ _ _
    · exact Changes.refl _ _ _

theorem State.dmaHalt_changes (s : State) (n : Nat) (code : Nat) (back : Bool) :
    Changes [.outbox, .pce, .dma, .que, .ddr, .fst] [.FST_CNT_BAD_ACCESS, .PCE_STATUS, .PCE_CNT_MSIX_DROP,
      .DMA_STATUS, .DMA_CUR_LO, .DMA_CUR_HI, .QUE_STATUS] s (State.dmaHalt s n code back) := by
  unfold State.dmaHalt
  extract_lets v1 v2 v3 v4
  refine Changes.cut (x := v2) ?_ (fun h5 => ?_)
  · unfold v2
    refine Changes.ite ?_ ?_
    · refine Changes.andThen ?_ (State.dmaWriteBack_changes ..) (by decide) (subset_regs (by decide +kernel))
      exact Changes.refl _ _ _
    · exact Changes.refl _ _ _
  refine Changes.cut (x := v3) ?_ (fun h6 => ?_)
  · unfold v3
    refine Changes.andThen ?_ (State.dropReqs_changes ..) (by decide) (subset_regs (by decide +kernel))
    refine Changes.andThen ?_ (State.dropDrain_changes ..) (by decide) (subset_regs (by decide +kernel))
    assumption
  refine Changes.cut (x := v4) ?_ (fun h7 => ?_)
  · unfold v4
    refine Changes.andThen ?_ (State.setDmaState_changes ..) (by decide) (subset_regs (by decide +kernel))
    refine Changes.andThen ?_ (State.setDm_changes ..) (by decide) (subset_regs (by decide +kernel))
    assumption
  clear_value v1
  clear_value v2
  clear_value v3
  clear_value v4
  refine Changes.andThen ?_ (State.msixReq_changes ..) (by decide) (subset_regs (by decide +kernel))
  refine Changes.andThen ?_ (State.setCur_changes ..) (by decide) (subset_regs (by decide +kernel))
  refine Changes.setFld ?_ (by decide +kernel)
  refine Changes.setFld ?_ (by decide +kernel)
  assumption

theorem State.takeDesc_changes (s : State) (n : Nat) (d : Desc) :
    Changes [.outbox, .pce, .dma, .que, .ddr, .fst] [.FST_CNT_BAD_ACCESS, .PCE_STATUS, .PCE_CNT_MSIX_DROP,
      .DMA_STATUS, .DMA_CUR_LO, .DMA_CUR_HI, .DMA_CNT_OWN_WAIT, .QUE_STATUS] s (State.takeDesc s n d) := by
  unfold State.takeDesc
  extract_lets v1
  clear_value v1
  refine Changes.ite ?_ ?_
  · refine Changes.ite ?_ ?_
    · refine Changes.andThen ?_ (State.setDmaState_changes ..) (by decide) (subset_regs (by decide +kernel))
      refine Changes.bump ?_ (by decide +kernel)
      refine Changes.andThen ?_ (State.setDm_changes ..) (by decide) (subset_regs (by decide +kernel))
      exact Changes.refl _ _ _
    · refine Changes.andThen ?_ (State.dmaLoad_changes ..) (by decide) (subset_regs (by decide +kernel))
      exact Changes.refl _ _ _
  · refine Changes.ite ?_ ?_
    · refine Changes.andThen ?_ (State.dmaHalt_changes ..) (by decide) (subset_regs (by decide +kernel))
      refine Changes.andThen ?_ (State.setDm_changes ..) (by decide) (subset_regs (by decide +kernel))
      exact Changes.refl _ _ _
    · refine Changes.andThen ?_ (State.startDesc_changes ..) (by decide) (subset_regs (by decide +kernel))
      exact Changes.refl _ _ _

theorem State.dmaPromote_changes (s : State) (n : Nat) (h : Shadow) :
    Changes [.outbox, .pce, .dma, .que, .ddr, .fst] [.FST_CNT_BAD_ACCESS, .PCE_STATUS, .PCE_CNT_MSIX_DROP,
      .DMA_STATUS, .DMA_CUR_LO, .DMA_CUR_HI, .DMA_CNT_OWN_WAIT, .QUE_STATUS] s (State.dmaPromote s n h) := by
  unfold State.dmaPromote
  extract_lets v1 v2 v3 v4 v5
  refine Changes.cut (x := v2) ?_ (fun h6 => ?_)
  · unfold v2
    refine Changes.andThen ?_ (State.setCur_changes ..) (by decide) (subset_regs (by decide +kernel))
    refine Changes.andThen ?_ (State.setDmaState_changes ..) (by decide) (subset_regs (by decide +kernel))
    refine Changes.andThen ?_ (State.setDm_changes ..) (by decide) (subset_regs (by decide +kernel))
    exact Changes.refl _ _ _
  clear_value v1
  clear_value v2
  clear_value v3
  split
  · rename_i y7 y8 y9 y10
    refine Changes.andThen ?_ (State.dmaHalt_changes ..) (by decide) (subset_regs (by decide +kernel))
    assumption
  · rename_i y11 y12 y13 y14 y15
    refine Changes.andThen ?_ (State.takeDesc_changes ..) (by decide) (subset_regs (by decide +kernel))
    refine Changes.andThen ?_ (State.setDm_changes ..) (by decide) (subset_regs (by decide +kernel))
    assumption
  · rename_i y16 y17 y18 y19
    refine Changes.pce ?_ (by rfl) (by decide +kernel)
    assumption

theorem State.endCheck_changes (s : State) (n : Nat) :
    Changes [.outbox, .pce, .dma] [.PCE_STATUS, .DMA_STATUS] s (State.endCheck s n) := by
  unfold State.endCheck
  extract_lets v1 v2
  refine Changes.cut (x := v2) ?_ (fun h3 => ?_)
  · unfold v2
    refine Changes.andThen ?_ (State.setDmaState_changes ..) (by decide) (subset_regs (by decide +kernel))
    refine Changes.andThen ?_ (State.setDm_changes ..) (by decide) (subset_regs (by decide +kernel))
    exact Changes.refl _ _ _
  clear_value v1
  clear_value v2
  refine Changes.ite ?_ ?_
  · refine Changes.andThen ?_ (State.setDmaState_changes ..) (by decide) (subset_regs (by decide +kernel))
    refine Changes.andThen ?_ (State.setDm_changes ..) (by decide) (subset_regs (by decide +kernel))
    exact Changes.refl _ _ _
  · refine Changes.ite ?_ ?_
    · assumption
    · refine Changes.andThen ?_ (State.dmaRead_changes ..) (by decide) (subset_regs (by decide +kernel))
      assumption

theorem State.dmaNext_changes (s : State) (n : Nat) :
    Changes [.outbox, .pce, .dma, .que, .ddr, .fst] [.FST_CNT_BAD_ACCESS, .PCE_STATUS, .PCE_CNT_MSIX_DROP,
      .DMA_STATUS, .DMA_CUR_LO, .DMA_CUR_HI, .DMA_CNT_OWN_WAIT, .QUE_STATUS] s (State.dmaNext s n) := by
  unfold State.dmaNext
  extract_lets v1 v2 v3
  refine Changes.cut (x := v2) ?_ (fun h4 => ?_)
  · unfold v2
    refine Changes.andThen ?_ (State.dropShadow_changes ..) (by decide) (subset_regs (by decide +kernel))
    exact Changes.refl _ _ _
  clear_value v1
  clear_value v2
  clear_value v3
  refine Changes.ite ?_ ?_
  · refine Changes.andThen ?_ (State.setDmaState_changes ..) (by decide) (subset_regs (by decide +kernel))
    refine Changes.andThen ?_ (State.setDm_changes ..) (by decide) (subset_regs (by decide +kernel))
    assumption
  · refine Changes.ite ?_ ?_
    · refine Changes.andThen ?_ (State.setDmaState_changes ..) (by decide) (subset_regs (by decide +kernel))
      refine Changes.andThen ?_ (State.setDm_changes ..) (by decide) (subset_regs (by decide +kernel))
      assumption
    · refine Changes.ite ?_ ?_
      · refine Changes.andThen ?_ (State.endCheck_changes ..) (by decide) (subset_regs (by decide +kernel))
        exact Changes.refl _ _ _
      · split
        · rename_i y5 y6 y7
          refine Changes.andThen ?_ (State.dmaPromote_changes ..) (by decide) (subset_regs (by decide +kernel))
          exact Changes.refl _ _ _
        · rename_i y8 y9
          refine Changes.andThen ?_ (State.dmaLoad_changes ..) (by decide) (subset_regs (by decide +kernel))
          exact Changes.refl _ _ _

theorem State.ctRefill_changes (s : State) (n : Nat) :
    Changes [.outbox, .pce, .dma, .que, .ddr, .fst] [.FST_CNT_BAD_ACCESS, .PCE_STATUS, .PCE_CNT_MSIX_DROP,
      .DMA_STATUS, .DMA_CUR_LO, .DMA_CUR_HI, .DMA_CNT_OWN_WAIT, .QUE_STATUS] s (State.ctRefill s n) := by
  unfold State.ctRefill
  extract_lets v1
  clear_value v1
  refine Changes.ite ?_ ?_
  · exact Changes.refl _ _ _
  · refine Changes.ite ?_ ?_
    · refine Changes.andThen ?_ (State.dmaNext_changes ..) (by decide) (subset_regs (by decide +kernel))
      exact Changes.refl _ _ _
    · refine Changes.ite ?_ ?_
      · exact Changes.refl _ _ _
      · refine Changes.ite ?_ ?_
        · refine Changes.ite ?_ ?_
          · refine Changes.andThen ?_ (State.dmaNext_changes ..) (by decide) (subset_regs (by decide +kernel))
            exact Changes.refl _ _ _
          · exact Changes.refl _ _ _
        · refine Changes.ite ?_ ?_
          · refine Changes.ite ?_ ?_
            · refine Changes.andThen ?_ (State.dmaNext_changes ..) (by decide) (subset_regs (by decide +kernel))
              exact Changes.refl _ _ _
            · exact Changes.refl _ _ _
          · refine Changes.andThen ?_ (State.dmaLoad_changes ..) (by decide) (subset_regs (by decide +kernel))
            exact Changes.refl _ _ _

theorem State.dmaStoreRd_changes (s : State) (a : Nat) (n : Nat) (errs : List (Nat × BurstErr)) :
    Changes [.outbox, .freeCtr, .hal, .pce, .dma, .ddr, .fst, .helm] [.FST_STATUS, .FST_CNT_BAD_ACCESS,
      .FST_CH_STATUS, .FST_CH_CE_BUCKET, .FST_CH_CNT_CE, .FST_CH_CNT_UE, .FST_CH_ECC_BAND, .FST_CH_ECC_INFO,
      .HAL_CNT_QUEUE_DROP, .PCE_STATUS, .PCE_CNT_MSIX_DROP, .DMA_STATUS, .HLM_CNT_NOTICE_DROP, .PWR_FAULT_SUMMARY]
      s (State.dmaStoreRd s a n errs).st := by
  unfold State.dmaStoreRd
  extract_lets v1
  refine Changes.cut (x := v1.st) ?_ (fun h2 => ?_)
  · unfold v1
    refine Changes.andThen ?_ (State.storeFetch_changes ..) (by decide) (subset_regs (by decide +kernel))
    exact Changes.refl _ _ _
  clear_value v1
  dsimp only
  refine Changes.ite ?_ ?_
  · assumption
  · refine Changes.bump ?_ (by decide +kernel)
    assumption

theorem State.dmaPay_changes (s : State) (n : Nat) (c : Nat) :
    Changes [.dma] [] s (State.dmaPay s n c) := by
  unfold State.dmaPay
  extract_lets v1
  clear_value v1
  refine Changes.andThen ?_ (State.setDm_changes ..) (by decide) (subset_regs (by decide +kernel))
  exact Changes.refl _ _ _

theorem State.unitWr_changes (s : State) (n : Nat) (a : Nat) (v : Word) :
    Changes [.bar0, .outbox, .freeCtr, .sht, .bch, .beams, .scn, .hal, .pceCfg, .pce] allRegs s (State.unitWr s n
      a v) := by
  unfold State.unitWr
  refine Changes.ite ?_ ?_
  · unfold execStreamWindowWrite
    extract_lets v1 v2 v3
    refine Changes.cut (x := v3) ?_ (fun h4 => ?_)
    · unfold v3
      refine Changes.andThen ?_ (State.streamLevel_changes ..) (by decide) (subset_allRegs _)
      refine Changes.andThen ?_ (State.setSc_changes ..) (by decide) (subset_allRegs _)
      exact Changes.refl _ _ _
    clear_value v1
    clear_value v2
    clear_value v3
    rw [resState_next]
    refine Changes.ite ?_ ?_
    · exact Changes.refl _ _ _
    · refine Changes.ite ?_ ?_
      · refine Changes.bump ?_ (mem_allRegs _)
        exact Changes.refl _ _ _
      · refine Changes.ite ?_ ?_
        · refine Changes.andThen ?_ (State.setSc_changes ..) (by decide) (subset_allRegs _)
          exact Changes.refl _ _ _
        · refine Changes.ite ?_ ?_
          · refine Changes.andThen ?_ (State.overflowHalt_changes ..) (by decide) (subset_allRegs _)
            refine Changes.andThen ?_ (State.setSc_changes ..) (by decide) (subset_allRegs _)
            exact Changes.refl _ _ _
          · refine Changes.ite ?_ ?_
            · refine Changes.andThen ?_ (State.clearCause_changes ..) (by decide) (subset_allRegs _)
              assumption
            · assumption
  · refine Changes.ite ?_ ?_
    · unfold execFrameBufferWrite
      rw [resState_next]
      unfold State.writeGate
      refine Changes.ite ?_ ?_
      · exact Changes.refl _ _ _
      · unfold State.gated
        unfold State.flrGate
        extract_lets v5
        refine Changes.cut (x := v5.2) ?_ (fun h6 => ?_)
        · unfold v5
          refine Changes.andThen ?_ (State.freeBits_changes ..) (by decide) (subset_allRegs _)
          exact Changes.refl _ _ _
        clear_value v5
        refine Changes.ite ?_ ?_
        · refine Changes.andThen ?_ (State.unsupportedReq_changes ..) (by decide) (subset_allRegs _)
          assumption
        · refine Changes.ite ?_ ?_
          · refine Changes.ite ?_ ?_
            · refine Changes.bump ?_ (mem_allRegs _)
              exact Changes.refl _ _ _
            · refine Changes.memWr ?_ (by decide +kernel)
              exact Changes.refl _ _ _
          · refine Changes.ite ?_ ?_
            · refine Changes.bump ?_ (mem_allRegs _)
              exact Changes.refl _ _ _
            · exact Changes.refl _ _ _
    · refine Changes.ite ?_ ?_
      · unfold execFrameBufferWrite
        rw [resState_next]
        unfold State.writeGate
        refine Changes.ite ?_ ?_
        · exact Changes.refl _ _ _
        · unfold State.gated
          unfold State.flrGate
          extract_lets v7
          refine Changes.cut (x := v7.2) ?_ (fun h8 => ?_)
          · unfold v7
            refine Changes.andThen ?_ (State.freeBits_changes ..) (by decide) (subset_allRegs _)
            exact Changes.refl _ _ _
          clear_value v7
          refine Changes.ite ?_ ?_
          · refine Changes.andThen ?_ (State.unsupportedReq_changes ..) (by decide) (subset_allRegs _)
            assumption
          · refine Changes.ite ?_ ?_
            · refine Changes.ite ?_ ?_
              · refine Changes.bump ?_ (mem_allRegs _)
                exact Changes.refl _ _ _
              · refine Changes.memWr ?_ (by decide +kernel)
                exact Changes.refl _ _ _
            · refine Changes.ite ?_ ?_
              · refine Changes.bump ?_ (mem_allRegs _)
                exact Changes.refl _ _ _
              · exact Changes.refl _ _ _
      · refine Changes.ite ?_ ?_
        · unfold execDefectMapWrite
          rw [resState_next]
          unfold State.writeGate
          refine Changes.ite ?_ ?_
          · exact Changes.refl _ _ _
          · unfold State.gated
            unfold State.flrGate
            extract_lets v9
            refine Changes.cut (x := v9.2) ?_ (fun h10 => ?_)
            · unfold v9
              refine Changes.andThen ?_ (State.freeBits_changes ..) (by decide) (subset_allRegs _)
              exact Changes.refl _ _ _
            clear_value v9
            refine Changes.ite ?_ ?_
            · refine Changes.andThen ?_ (State.unsupportedReq_changes ..) (by decide) (subset_allRegs _)
              assumption
            · refine Changes.ite ?_ ?_
              · refine Changes.memWr ?_ (by decide +kernel)
                exact Changes.refl _ _ _
              · refine Changes.ite ?_ ?_
                · refine Changes.bump ?_ (mem_allRegs _)
                  exact Changes.refl _ _ _
                · exact Changes.refl _ _ _
        · refine Changes.bump ?_ (mem_allRegs _)
          exact Changes.refl _ _ _

theorem State.unitWrs_changes (s : State) (n : Nat) (dst : Nat) (off : Nat) (a4 : List Word) :
    Changes [.bar0, .outbox, .freeCtr, .sht, .bch, .beams, .scn, .hal, .pceCfg, .pce] allRegs s (State.unitWrs s n
      dst off a4) := by
  fun_induction State.unitWrs s n dst off a4
  · rename_i y1 y2
    exact Changes.refl _ _ _
  · rename_i y3 y4 y5 y6 y7
    refine Changes.trans ?_ y7
    refine Changes.andThen ?_ (State.unitWr_changes ..) (by decide) (subset_allRegs _)
    exact Changes.refl _ _ _

theorem State.hostWrite_changes (s : State) (relaxed : Bool) (a2 : Nat) (a3 : Nat) (a4 : List Byte) :
    Changes [.outbox, .pce] [.PCE_STATUS] s (State.hostWrite s relaxed a2 a3 a4) := by
  fun_induction State.hostWrite s relaxed a2 a3 a4
  · rename_i y1 y2 y3
    exact Changes.refl _ _ _
  · rename_i y4 y5 y6
    exact Changes.refl _ _ _
  · rename_i y7 y8 y9 y10 y11 y12 y13 y14
    extract_lets 
    refine Changes.trans ?_ y14
    refine Changes.emit ?_ (by decide +kernel)
    refine Changes.andThen ?_ (State.linkWake_changes ..) (by decide) (subset_regs (by decide +kernel))
    exact Changes.refl _ _ _

theorem State.dmaWrite_changes (s : State) (n : Nat) (d : Desc) (off : Nat) (data : List Byte) (bad : List (Nat ×
    Nat)) :
    Changes [.bar0, .outbox, .freeCtr, .sht, .bch, .beams, .scn, .hal, .pceCfg, .pce, .ddr, .fst] allRegs s
      (State.dmaWrite s n d off data bad) := by
  unfold State.dmaWrite
  split
  · rename_i y1 y2
    refine Changes.andThen ?_ (State.hostWrite_changes ..) (by decide) (subset_allRegs _)
    exact Changes.refl _ _ _
  · rename_i y3 y4
    refine Changes.andThen ?_ (State.dmaStoreWr_changes ..) (by decide) (subset_allRegs _)
    exact Changes.refl _ _ _
  · rename_i y5 y6 y7
    refine Changes.andThen ?_ (State.unitWrs_changes ..) (by decide) (subset_allRegs _)
    exact Changes.refl _ _ _

theorem State.creditAll_changes (a0 : List Nat) (a1 : State) :
    Changes [.dma] [] a1 (State.creditAll a0 a1) := by
  fun_induction State.creditAll a0 a1
  · rename_i y1
    exact Changes.refl _ _ _
  · rename_i y2 y3 y4 y5
    refine Changes.trans ?_ y5
    refine Changes.andThen ?_ (State.dmaCredit_changes ..) (by decide) (subset_regs (by decide +kernel))
    exact Changes.refl _ _ _

theorem State.ctShow_changes (s : State) (n : Nat) :
    Changes [] [.DMA_STATUS] s (State.ctShow s n) := by
  unfold State.ctShow
  refine Changes.setFld ?_ (by decide +kernel)
  exact Changes.refl _ _ _

theorem State.ctStart_changes (s : State) (n : Nat) (port : Nat) (frame : Nat) (need : Option Nat) (tag : List Byte) :
    Changes [.dma] [.DMA_STATUS, .DMA_CNT_CT_DROP, .DMA_CNT_CT_SIZE] s (State.ctStart s n port frame need tag).2 := by
  unfold State.ctStart
  extract_lets v1 v2
  refine Changes.cut (x := v2.2) ?_ (fun h3 => ?_)
  · unfold v2
    dsimp only
    refine Changes.bump ?_ (by decide +kernel)
    exact Changes.refl _ _ _
  clear_value v1
  clear_value v2
  split
  · rename_i y4
    assumption
  · rename_i y5
    split
    · rename_i y6 y7
      assumption
    · rename_i y8 y9 y10
      extract_lets v11
      clear_value v11
      split
      · rename_i y12
        dsimp only
        refine Changes.bump ?_ (by decide +kernel)
        exact Changes.refl _ _ _
      · rename_i y13
        dsimp only
        refine Changes.andThen ?_ (State.ctShow_changes ..) (by decide) (subset_regs (by decide +kernel))
        refine Changes.andThen ?_ (State.setDm_changes ..) (by decide) (subset_regs (by decide +kernel))
        exact Changes.refl _ _ _

theorem State.dmaRetire_changes (s : State) (n : Nat) (a : Nat) (d : Desc) (result : Nat) (firstBad : Option Nat)
    (done : Nat) (info : Nat) :
    Changes [.outbox, .hal, .pce, .ddr, .fst] [.FST_CNT_BAD_ACCESS, .HAL_CNT_QUEUE_DROP, .PCE_STATUS,
      .PCE_CNT_MSIX_DROP, .DMA_CNT_DESC] s (State.dmaRetire s n a d result firstBad done info) := by
  unfold State.dmaRetire
  extract_lets v1 v2
  refine Changes.cut (x := v1) ?_ (fun h3 => ?_)
  · unfold v1
    refine Changes.bump ?_ (by decide +kernel)
    refine Changes.andThen ?_ (State.dmaWriteBack_changes ..) (by decide) (subset_regs (by decide +kernel))
    exact Changes.refl _ _ _
  refine Changes.cut (x := v2) ?_ (fun h4 => ?_)
  · unfold v2
    refine Changes.ite ?_ ?_
    · refine Changes.andThen ?_ (State.publish_changes ..) (by decide) (subset_regs (by decide +kernel))
      assumption
    · assumption
  clear_value v1
  clear_value v2
  refine Changes.ite ?_ ?_
  · refine Changes.andThen ?_ (State.msixReq_changes ..) (by decide) (subset_regs (by decide +kernel))
    assumption
  · assumption

theorem State.ctDropAll_changes (s : State) (n : Nat) :
    Changes [.dma] [.DMA_STATUS, .DMA_CNT_CT_DROP] s (State.ctDropAll s n) := by
  unfold State.ctDropAll
  extract_lets v1 v2
  clear_value v1
  clear_value v2
  refine Changes.andThen ?_ (State.ctShow_changes ..) (by decide) (subset_regs (by decide +kernel))
  refine Changes.andThen ?_ (State.setDm_changes ..) (by decide) (subset_regs (by decide +kernel))
  refine Changes.bumpBy ?_ (by decide +kernel)
  exact Changes.refl _ _ _

end Sys2Proof.Machine
end

