-- ==== Sys2Proof/Laws/FrameScanMotion.lean ====
section
/-!
SUPPORT. What the operations of Machine/ScanMotion.lean may change: one lemma for each.
-/

set_option Elab.async false

namespace Sys2Proof.Machine

theorem State.shroudHunt_changes (s : State) (n : Nat) (j : Nat) :
    Changes [.scn] [] s (State.shroudHunt s n j) := by
  unfold State.shroudHunt
  extract_lets v1 v2
  clear_value v1
  clear_value v2
  refine Changes.andThen ?_ (State.setSc_changes ..) (by decide) (subset_regs (by decide +kernel))
  exact Changes.refl _ _ _

theorem State.skipPath_changes (n : Nat) (a1 : Nat) (a2 : Nat) (a3 : State) :
    Changes [.scn, .hal] [.SCN_STATUS, .SCN_RECORD, .SCN_CNT_RECORDS, .HAL_CNT_QUEUE_DROP] a3 (State.skipPath n a1
      a2 a3) := by
  fun_induction State.skipPath n a1 a2 a3
  · rename_i y1 y2
    exact Changes.refl _ _ _
  · rename_i y3 y4 y5 y6 y7
    exact Changes.refl _ _ _
  · rename_i y8 y9 y10 y11 y12 y13 y14 y15 y16
    refine Changes.andThen ?_ (State.setSc_changes ..) (by decide) (subset_regs (by decide +kernel))
    exact Changes.refl _ _ _
  · rename_i y17 y18 y19 y20 y21 y22 y23 y24 y25
    refine Changes.trans ?_ y25
    refine Changes.andThen ?_ (State.retire_changes ..) (by decide) (subset_regs (by decide +kernel))
    exact Changes.refl _ _ _

theorem State.endPause_changes (s : State) (n : Nat) (p : Pause) (d : Nat) (t : Nat) :
    Changes [.outbox, .sht, .bch, .beams, .scn, .hal] [.SHT_STATUS, .SHT_I_STATE, .SHT_LAST_OUT, .SHT_LAST_FRAME,
      .SHT_LAST_DELAY, .SHT_DELAY_MAX, .SHT_CNT_FALLBACK, .SHT_CNT_SUPERSEDED, .SHT_CNT_LOG_DROP, .BCH_STATUS,
      .SCN_STATUS, .SCN_HALT_RECORD, .SCN_HALT_OFFSET, .SCN_RECORD, .SCN_CNT_RECORDS, .SCN_CNT_PAUSE,
      .SCN_CNT_HALT, .HAL_CNT_QUEUE_DROP] s (State.endPause s n p d t) := by
  unfold State.endPause
  extract_lets v1 v2 v3 v4 v5
  refine Changes.cut (x := v1) ?_ (fun h6 => ?_)
  · unfold v1
    refine Changes.andThen ?_ (State.skipPath_changes ..) (by decide) (subset_regs (by decide +kernel))
    exact Changes.refl _ _ _
  refine Changes.cut (x := v3) ?_ (fun h7 => ?_)
  · unfold v3
    refine Changes.setFld ?_ (by decide +kernel)
    refine Changes.setFld ?_ (by decide +kernel)
    refine Changes.andThen ?_ (State.setSc_changes ..) (by decide) (subset_regs (by decide +kernel))
    assumption
  refine Changes.cut (x := v4) ?_ (fun h8 => ?_)
  · unfold v4
    refine Changes.andThen ?_ (State.reRequest_changes ..) (by decide) (subset_regs (by decide +kernel))
    assumption
  clear_value v1
  clear_value v2
  clear_value v3
  clear_value v4
  clear_value v5
  refine Changes.ite ?_ ?_
  · refine Changes.andThen ?_ (State.refresh_changes ..) (by decide) (subset_regs (by decide +kernel))
    refine Changes.bump ?_ (by decide +kernel)
    refine Changes.andThen ?_ (State.setSc_changes ..) (by decide) (subset_regs (by decide +kernel))
    assumption
  · refine Changes.andThen ?_ (State.refresh_changes ..) (by decide) (subset_regs (by decide +kernel))
    assumption

theorem State.wdWords_changes (s : State) (n : Nat) (x : Int) (y : Int) :
    Changes [.bch] [] s (State.wdWords s n x y) := by
  unfold State.wdWords
  extract_lets v1 v2 v3 v4 v5
  clear_value v1
  clear_value v2
  clear_value v3
  clear_value v4
  refine Changes.andThen ?_ (State.setBc_changes ..) (by decide) (subset_regs (by decide +kernel))
  exact Changes.refl _ _ _

theorem State.derateSoon_changes (s : State) (n : Nat) (b : Bool) :
    Changes [.scn] [.SCN_STATUS] s (State.derateSoon s n b) := by
  unfold State.derateSoon
  extract_lets v1
  clear_value v1
  refine Changes.ite ?_ ?_
  · refine Changes.setFld ?_ (by decide +kernel)
    exact Changes.refl _ _ _
  · refine Changes.andThen ?_ (State.setSc_changes ..) (by decide) (subset_regs (by decide +kernel))
    exact Changes.refl _ _ _

theorem State.shroudLine_changes (s : State) (n : Nat) (body : List Nat) :
    Changes [.outbox, .scn] [] s (State.shroudLine s n body) := by
  unfold State.shroudLine
  extract_lets v1 v2 v3
  clear_value v1
  clear_value v2
  clear_value v3
  refine Changes.emit ?_ (by decide +kernel)
  refine Changes.andThen ?_ (State.setSc_changes ..) (by decide) (subset_regs (by decide +kernel))
  exact Changes.refl _ _ _

theorem State.clearancePause_changes (s : State) (n : Nat) :
    Changes [.outbox, .sht, .bch, .beams, .scn, .hal] allRegs s (State.clearancePause s n) := by
  unfold State.clearancePause
  extract_lets v1 v2 v3 v4
  refine Changes.cut (x := v3) ?_ (fun h5 => ?_)
  · unfold v3
    refine Changes.andThen ?_ (State.setSc_changes ..) (by decide) (subset_allRegs _)
    refine Changes.bump ?_ (mem_allRegs _)
    exact Changes.refl _ _ _
  clear_value v1
  clear_value v2
  clear_value v3
  clear_value v4
  refine Changes.ite ?_ ?_
  · exact Changes.refl _ _ _
  · split
    · rename_i y6 y7
      refine Changes.andThen ?_ (State.pauseFor_changes ..) (by decide) (subset_allRegs _)
      assumption
    · rename_i y8 y9 y10
      extract_lets v11 v12 v13 v14 v15
      clear_value v12
      clear_value v13
      clear_value v14
      clear_value v15
      refine Changes.ite ?_ ?_
      · refine Changes.andThen ?_ (State.pauseFor_changes ..) (by decide) (subset_allRegs _)
        assumption
      · refine Changes.ite ?_ ?_
        · refine Changes.andThen ?_ (State.pauseFor_changes ..) (by decide) (subset_allRegs _)
          assumption
        · refine Changes.andThen ?_ (State.pauseFor_changes ..) (by decide) (subset_allRegs _)
          refine Changes.bump ?_ (mem_allRegs _)
          assumption

theorem State.checkBeam_changes (s : State) (n : Nat) (yields : Bool) (blocked : Bool) :
    Changes [.outbox, .sht, .bch, .beams, .scn, .hal] allRegs s (State.checkBeam s n yields blocked) := by
  unfold State.checkBeam
  extract_lets v1 v2 v3
  refine Changes.cut (x := v3) ?_ (fun h4 => ?_)
  · unfold v3
    refine Changes.andThen ?_ (State.setSc_changes ..) (by decide) (subset_allRegs _)
    exact Changes.refl _ _ _
  clear_value v1
  clear_value v2
  clear_value v3
  refine Changes.ite ?_ ?_
  · refine Changes.ite ?_ ?_
    · refine Changes.andThen ?_ (State.clearCause_changes ..) (by decide) (subset_allRegs _)
      assumption
    · assumption
  · refine Changes.ite ?_ ?_
    · refine Changes.andThen ?_ (State.clearancePause_changes ..) (by decide) (subset_allRegs _)
      exact Changes.refl _ _ _
    · exact Changes.refl _ _ _

theorem State.checkBeams_changes (s : State) (a1 : List (Nat × Bool × Bool)) :
    Changes [.outbox, .sht, .bch, .beams, .scn, .hal] allRegs s (State.checkBeams s a1) := by
  fun_induction State.checkBeams s a1
  · rename_i y1
    exact Changes.refl _ _ _
  · rename_i y2 y3 y4 y5 y6 y7
    refine Changes.trans ?_ y7
    refine Changes.ite ?_ ?_
    · refine Changes.andThen ?_ (State.checkBeam_changes ..) (by decide) (subset_allRegs _)
      exact Changes.refl _ _ _
    · exact Changes.refl _ _ _

theorem State.headNotReady_changes (s : State) (n : Nat) :
    Changes [.outbox, .sht, .bch, .scn, .hal] [.SHT_STATUS, .SHT_I_STATE, .SHT_LAST_OUT, .SHT_LAST_FRAME,
      .SHT_LAST_DELAY, .SHT_DELAY_MAX, .SHT_CNT_FALLBACK, .SHT_CNT_SUPERSEDED, .SHT_CNT_LOG_DROP, .BCH_STATUS,
      .SCN_STATUS, .SCN_HALT_RECORD, .SCN_HALT_OFFSET, .SCN_CNT_HALT, .HAL_CNT_QUEUE_DROP] s (State.headNotReady s
      n) := by
  unfold State.headNotReady
  extract_lets v1
  clear_value v1
  refine Changes.ite ?_ ?_
  · refine Changes.andThen ?_ (State.hardHaltActive_changes ..) (by decide) (subset_regs (by decide +kernel))
    exact Changes.refl _ _ _
  · exact Changes.refl _ _ _

theorem State.headTemp_changes (s : State) (n : Nat) (temp : Nat) :
    Changes [.outbox, .sht, .bch, .beams, .scn, .hal] allRegs s (State.headTemp s n temp) := by
  unfold State.headTemp
  extract_lets v1 v2 v3 v4
  clear_value v1
  clear_value v2
  clear_value v3
  clear_value v4
  refine Changes.ite ?_ ?_
  · exact Changes.refl _ _ _
  · refine Changes.ite ?_ ?_
    · refine Changes.ite ?_ ?_
      · exact Changes.refl _ _ _
      · refine Changes.ite ?_ ?_
        · refine Changes.setFld ?_ (mem_allRegs _)
          exact Changes.refl _ _ _
        · split
          · rename_i y5 y6 y7
            refine Changes.ite ?_ ?_
            · refine Changes.ite ?_ ?_
              · refine Changes.andThen ?_ (State.derateSoon_changes ..) (by decide) (subset_allRegs _)
                exact Changes.refl _ _ _
              · refine Changes.andThen ?_ (State.pauseFor_changes ..) (by decide) (subset_allRegs _)
                refine Changes.bump ?_ (mem_allRegs _)
                exact Changes.refl _ _ _
            · refine Changes.andThen ?_ (State.derateSoon_changes ..) (by decide) (subset_allRegs _)
              exact Changes.refl _ _ _
          · rename_i y8 y9
            refine Changes.andThen ?_ (State.derateSoon_changes ..) (by decide) (subset_allRegs _)
            exact Changes.refl _ _ _
    · refine Changes.ite ?_ ?_
      · refine Changes.andThen ?_ (State.derateSoon_changes ..) (by decide) (subset_allRegs _)
        exact Changes.refl _ _ _
      · exact Changes.refl _ _ _

theorem State.headPosition_changes (s : State) (n : Nat) (j : Nat) (nibs : List (BitVec 4)) :
    Changes [.bch, .scn] [.SCN_POS_X, .SCN_POS_Y] s (State.headPosition s n j nibs) := by
  unfold State.headPosition
  split
  · rename_i y1 y2
    exact Changes.refl _ _ _
  · rename_i y3 y4 y5
    extract_lets v6 v7 v8 v9 v10 v11 v12
    refine Changes.cut (x := v7) ?_ (fun h13 => ?_)
    · unfold v7
      refine Changes.andThen ?_ (State.setSc_changes ..) (by decide) (subset_regs (by decide +kernel))
      refine Changes.wr ?_ (by decide +kernel)
      refine Changes.wr ?_ (by decide +kernel)
      exact Changes.refl _ _ _
    refine Changes.cut (x := v10) ?_ (fun h14 => ?_)
    · unfold v10
      refine Changes.andThen ?_ (State.wdWords_changes ..) (by decide) (subset_regs (by decide +kernel))
      assumption
    clear_value v6
    clear_value v7
    clear_value v8
    clear_value v9
    clear_value v10
    clear_value v11
    clear_value v12
    refine Changes.ite ?_ ?_
    · assumption
    · refine Changes.andThen ?_ (State.setBc_changes ..) (by decide) (subset_regs (by decide +kernel))
      assumption

end Sys2Proof.Machine
end

