-- ==== Sys2Proof/Laws/FrameSheet.lean ====
section
/-!
SUPPORT. What the operations of Machine/Sheet.lean may change: one lemma for each.
-/

set_option Elab.async false

namespace Sys2Proof.Machine

theorem State.sheetRecord_changes (s : State) (n : Nat) (mast : Nat) (stream : Nat) (record : List Byte) :
    Changes [.sht] [.SHT_CNT_BAD_CHECK, .SHT_CNT_FOREIGN, .SHT_CNT_OVERRUN] s (State.sheetRecord s n mast stream
      record) := by
  unfold State.sheetRecord
  extract_lets v1
  clear_value v1
  refine Changes.ite ?_ ?_
  · refine Changes.bump ?_ (by decide +kernel)
    exact Changes.refl _ _ _
  · refine Changes.ite ?_ ?_
    · refine Changes.bump ?_ (by decide +kernel)
      exact Changes.refl _ _ _
    · refine Changes.ite ?_ ?_
      · refine Changes.bump ?_ (by decide +kernel)
        exact Changes.refl _ _ _
      · refine Changes.andThen ?_ (State.setSh_changes ..) (by decide) (subset_regs (by decide +kernel))
        exact Changes.refl _ _ _

theorem State.featureLog_changes (s : State) (n : Nat) (record : List Byte) :
    Changes [.sht] [.SHT_CNT_LOG_DROP] s (State.featureLog s n record) := by
  unfold State.featureLog
  refine Changes.andThen ?_ (State.shUnit_changes ..) (by decide) (subset_regs (by decide +kernel))
  exact Changes.refl _ _ _

theorem State.inject_changes (s : State) (n : Nat) (frame : Nat) :
    Changes [.freeCtr, .sht] [.SHT_STATUS, .SHT_LAST_OUT, .SHT_LAST_DELAY, .SHT_DELAY_MAX, .SHT_CNT_SUPERSEDED,
      .SHT_CNT_LOG_DROP] s (State.inject s n frame).2 := by
  unfold State.inject
  extract_lets v1 v2 v3 v4 v5 v6 v7 v8 v9 v10 v11 v12 v13 v14 v15 v16 v17
  refine Changes.cut (x := v15.2) ?_ (fun h18 => ?_)
  · unfold v15
    refine Changes.andThen ?_ (State.freeBits_changes ..) (by decide) (subset_regs (by decide +kernel))
    exact Changes.refl _ _ _
  clear_value v1
  clear_value v2
  clear_value v3
  clear_value v4
  clear_value v5
  clear_value v6
  clear_value v7
  clear_value v8
  clear_value v9
  clear_value v10
  clear_value v11
  clear_value v12
  clear_value v13
  clear_value v14
  clear_value v15
  clear_value v16
  clear_value v17
  split
  · rename_i y19
    dsimp only
    exact Changes.refl _ _ _
  · rename_i y20
    split
    · rename_i y21
      dsimp only
      refine Changes.andThen ?_ (State.shTuneEnd_changes ..) (by decide) (subset_regs (by decide +kernel))
      exact Changes.refl _ _ _
    · rename_i y22
      split
      · rename_i y23
        dsimp only
        refine Changes.andThen ?_ (State.setSh_changes ..) (by decide) (subset_regs (by decide +kernel))
        exact Changes.refl _ _ _
      · rename_i y24
        split
        · rename_i y25
          dsimp only
          refine Changes.andThen ?_ (State.setSh_changes ..) (by decide) (subset_regs (by decide +kernel))
          exact Changes.refl _ _ _
        · rename_i y26
          dsimp only
          refine Changes.andThen ?_ (State.setSh_changes ..) (by decide) (subset_regs (by decide +kernel))
          assumption

theorem State.notEngaged_changes (s : State) (n : Nat) (rec : List Byte) (missed : Nat) :
    Changes [.sht] [.SHT_STATUS, .SHT_LAST_DELAY, .SHT_DELAY_MAX, .SHT_CNT_NOT_ENGAGED, .SHT_CNT_LOG_DROP] s
      (State.notEngaged s n rec missed) := by
  unfold State.notEngaged
  extract_lets v1
  clear_value v1
  refine Changes.andThen ?_ (State.shLog_changes ..) (by decide) (subset_regs (by decide +kernel))
  refine Changes.bump ?_ (by decide +kernel)
  exact Changes.refl _ _ _

theorem State.sendSample_changes (s : State) (n : Nat) (x : Sample) (st : Nat) :
    Changes [.fine, .outbox, .sht, .bch, .beams, .scn, .hal] [.SHT_STATUS, .SHT_I_STATE, .SHT_LAST_OUT,
      .SHT_LAST_FRAME, .SHT_LAST_DELAY, .SHT_DELAY_MAX, .SHT_CNT_FALLBACK, .SHT_CNT_SUPERSEDED, .SHT_CNT_LOG_DROP,
      .BCH_STATUS, .SCN_STATUS, .SCN_HALT_RECORD, .SCN_HALT_OFFSET, .SCN_RECORD, .SCN_CNT_RECORDS, .SCN_CNT_HALT,
      .HAL_CNT_QUEUE_DROP] s (State.sendSample s n x st) := by
  unfold State.sendSample
  extract_lets v1 v2 v3
  refine Changes.cut (x := v1) ?_ (fun h4 => ?_)
  · unfold v1
    refine Changes.andThen ?_ (State.refresh_changes ..) (by decide) (subset_regs (by decide +kernel))
    refine Changes.advance ?_ (by decide +kernel)
    exact Changes.refl _ _ _
  refine Changes.cut (x := v2) ?_ (fun h5 => ?_)
  · unfold v2
    refine Changes.andThen ?_ (State.shOut_changes ..) (by decide) (subset_regs (by decide +kernel))
    refine Changes.andThen ?_ (State.shSupersede_changes ..) (by decide) (subset_regs (by decide +kernel))
    assumption
  clear_value v1
  clear_value v2
  clear_value v3
  refine Changes.ite ?_ ?_
  · refine Changes.andThen ?_ (State.shLog_changes ..) (by decide) (subset_regs (by decide +kernel))
    assumption
  · refine Changes.andThen ?_ (State.setSh_changes ..) (by decide) (subset_regs (by decide +kernel))
    assumption

theorem State.missOne_changes (s : State) (n : Nat) (due : Nat) :
    Changes [.sht, .hal] [.SHT_STATUS, .SHT_I_STATE, .SHT_LAST_OUT, .SHT_LAST_FRAME, .SHT_LAST_DELAY,
      .SHT_DELAY_MAX, .SHT_CNT_MISS, .SHT_CNT_FALLBACK, .SHT_CNT_SUPERSEDED, .SHT_CNT_LOG_DROP,
      .HAL_CNT_QUEUE_DROP] s (State.missOne s n due) := by
  unfold State.missOne
  extract_lets v1
  clear_value v1
  refine Changes.ite ?_ ?_
  · exact Changes.refl _ _ _
  · refine Changes.andThen ?_ (State.shMiss_changes ..) (by decide) (subset_regs (by decide +kernel))
    refine Changes.andThen ?_ (State.setSh_changes ..) (by decide) (subset_regs (by decide +kernel))
    exact Changes.refl _ _ _

theorem State.closedLoop_changes (s : State) (n : Nat) (x : Sample) :
    Changes [.sht] [.SHT_STATUS, .SHT_I_STATE, .SHT_CNT_EVAL] s (State.closedLoop s n x).2 := by
  unfold State.closedLoop
  extract_lets v1 v2 v3 v4 v5 v6 v7 v8
  refine Changes.cut (x := v7) ?_ (fun h9 => ?_)
  · unfold v7
    refine Changes.andThen ?_ (State.setSh_changes ..) (by decide) (subset_regs (by decide +kernel))
    exact Changes.refl _ _ _
  refine Changes.cut (x := v8) ?_ (fun h10 => ?_)
  · unfold v8
    refine Changes.bump ?_ (by decide +kernel)
    refine Changes.setFld ?_ (by decide +kernel)
    refine Changes.wr ?_ (by decide +kernel)
    assumption
  clear_value v1
  clear_value v2
  clear_value v3
  clear_value v4
  clear_value v5
  clear_value v6
  clear_value v7
  clear_value v8
  dsimp only
  assumption

theorem State.evalValid_changes (s : State) (n : Nat) (rec : List Byte) (missed : Nat) :
    Changes [.fine, .outbox, .freeCtr, .sht, .bch, .beams, .scn, .hal] [.SHT_STATUS, .SHT_I_STATE, .SHT_LAST_OUT,
      .SHT_LAST_FRAME, .SHT_LAST_DELAY, .SHT_DELAY_MAX, .SHT_CNT_EVAL, .SHT_CNT_NOT_ENGAGED, .SHT_CNT_FALLBACK,
      .SHT_CNT_SUPERSEDED, .SHT_CNT_LOG_DROP, .BCH_STATUS, .SCN_STATUS, .SCN_HALT_RECORD, .SCN_HALT_OFFSET,
      .SCN_RECORD, .SCN_CNT_RECORDS, .SCN_CNT_HALT, .HAL_CNT_QUEUE_DROP] s (State.evalValid s n rec missed) := by
  unfold State.evalValid
  extract_lets v1 v2 v3 v4 v5 v6 v7 v8 v9 v10 v11 v12
  refine Changes.cut (x := v1.2) ?_ (fun h13 => ?_)
  · unfold v1
    refine Changes.andThen ?_ (State.inject_changes ..) (by decide) (subset_regs (by decide +kernel))
    exact Changes.refl _ _ _
  refine Changes.cut (x := v3) ?_ (fun h14 => ?_)
  · unfold v3
    assumption
  refine Changes.cut (x := v8) ?_ (fun h15 => ?_)
  · unfold v8
    refine Changes.bump ?_ (by decide +kernel)
    assumption
  refine Changes.cut (x := v12) ?_ (fun h16 => ?_)
  · unfold v12
    refine Changes.andThen ?_ (State.setSh_changes ..) (by decide) (subset_regs (by decide +kernel))
    assumption
  clear_value v1
  clear_value v2
  clear_value v3
  clear_value v4
  clear_value v5
  clear_value v8
  clear_value v9
  clear_value v10
  clear_value v11
  clear_value v12
  refine Changes.ite ?_ ?_
  · refine Changes.ite ?_ ?_
    · refine Changes.andThen ?_ (State.sendSample_changes ..) (by decide) (subset_regs (by decide +kernel))
      assumption
    · unfold v6
      refine Changes.andThen ?_ (State.shLog_changes ..) (by decide) (subset_regs (by decide +kernel))
      refine Changes.advance ?_ (by decide +kernel)
      assumption
  · refine Changes.ite ?_ ?_
    · refine Changes.ite ?_ ?_
      · unfold v7
        extract_lets v17
        refine Changes.cut (x := v17.2) ?_ (fun h18 => ?_)
        · unfold v17
          refine Changes.andThen ?_ (State.closedLoop_changes ..) (by decide) (subset_regs (by decide +kernel))
          refine Changes.andThen ?_ (State.shGoto_changes ..) (by decide) (subset_regs (by decide +kernel))
          assumption
        clear_value v17
        refine Changes.andThen ?_ (State.sendSample_changes ..) (by decide) (subset_regs (by decide +kernel))
        assumption
      · unfold v6
        refine Changes.andThen ?_ (State.shLog_changes ..) (by decide) (subset_regs (by decide +kernel))
        refine Changes.advance ?_ (by decide +kernel)
        assumption
    · refine Changes.ite ?_ ?_
      · unfold v7
        extract_lets v19
        refine Changes.cut (x := v19.2) ?_ (fun h20 => ?_)
        · unfold v19
          refine Changes.andThen ?_ (State.closedLoop_changes ..) (by decide) (subset_regs (by decide +kernel))
          refine Changes.andThen ?_ (State.shGoto_changes ..) (by decide) (subset_regs (by decide +kernel))
          assumption
        clear_value v19
        refine Changes.andThen ?_ (State.sendSample_changes ..) (by decide) (subset_regs (by decide +kernel))
        assumption
      · unfold v7
        extract_lets v21
        refine Changes.cut (x := v21.2) ?_ (fun h22 => ?_)
        · unfold v21
          refine Changes.andThen ?_ (State.closedLoop_changes ..) (by decide) (subset_regs (by decide +kernel))
          assumption
        clear_value v21
        refine Changes.andThen ?_ (State.sendSample_changes ..) (by decide) (subset_regs (by decide +kernel))
        assumption

theorem State.takeValid_changes (s : State) (n : Nat) (q : ShtRec) :
    Changes [.fine, .outbox, .freeCtr, .sht, .bch, .beams, .scn, .hal] [.SHT_STATUS, .SHT_I_STATE, .SHT_LAST_OUT,
      .SHT_LAST_FRAME, .SHT_LAST_DELAY, .SHT_DELAY_MAX, .SHT_CNT_EVAL, .SHT_CNT_MISS, .SHT_CNT_NOT_ENGAGED,
      .SHT_CNT_FALLBACK, .SHT_CNT_SUPERSEDED, .SHT_CNT_LOG_DROP, .BCH_STATUS, .SCN_STATUS, .SCN_HALT_RECORD,
      .SCN_HALT_OFFSET, .SCN_RECORD, .SCN_CNT_RECORDS, .SCN_CNT_HALT, .HAL_CNT_QUEUE_DROP] s (State.takeValid s n
      q) := by
  unfold State.takeValid
  extract_lets v1 v2 v3 v4 v5 v6
  refine Changes.cut (x := v3) ?_ (fun h7 => ?_)
  · unfold v3
    refine Changes.andThen ?_ (State.shMissRun_changes ..) (by decide) (subset_regs (by decide +kernel))
    refine Changes.andThen ?_ (State.setSh_changes ..) (by decide) (subset_regs (by decide +kernel))
    exact Changes.refl _ _ _
  refine Changes.cut (x := v6) ?_ (fun h8 => ?_)
  · unfold v6
    refine Changes.wr ?_ (by decide +kernel)
    refine Changes.bumpBy ?_ (by decide +kernel)
    assumption
  clear_value v1
  clear_value v2
  clear_value v3
  clear_value v4
  clear_value v5
  clear_value v6
  refine Changes.ite ?_ ?_
  · refine Changes.andThen ?_ (State.notEngaged_changes ..) (by decide) (subset_regs (by decide +kernel))
    assumption
  · refine Changes.andThen ?_ (State.shTuneDone_changes ..) (by decide) (subset_regs (by decide +kernel))
    refine Changes.andThen ?_ (State.evalValid_changes ..) (by decide) (subset_regs (by decide +kernel))
    assumption

end Sys2Proof.Machine
end

