-- ==== Sys2Proof/Laws/FrameMastOps.lean ====
section
/-!
SUPPORT. What the operations of Machine/MastOps.lean may change: one lemma for each.
-/

set_option Elab.async false

namespace Sys2Proof.Machine

theorem State.setMs_changes (s : State) (m : Nat) (x : Mast) :
    Changes [.mst] [] s (State.setMs s m x) := by
  unfold State.setMs
  refine Changes.mst ?_ (by decide +kernel)
  exact Changes.refl _ _ _

theorem State.addReady_changes (s : State) (m : Nat) (new : List Tile) :
    Changes [.mst] [] s (State.addReady s m new) := by
  unfold State.addReady
  extract_lets v1 v2
  clear_value v1
  clear_value v2
  refine Changes.andThen ?_ (State.setMs_changes ..) (by decide) (subset_regs (by decide +kernel))
  exact Changes.refl _ _ _

theorem State.makeReady_changes (s : State) (m : Nat) (f : MFrame) (rows : Nat) :
    Changes [.mst] [] s (State.makeReady s m f rows) := by
  unfold State.makeReady
  extract_lets v1
  clear_value v1
  refine Changes.andThen ?_ (State.addReady_changes ..) (by decide) (subset_regs (by decide +kernel))
  refine Changes.andThen ?_ (State.setMs_changes ..) (by decide) (subset_regs (by decide +kernel))
  exact Changes.refl _ _ _

theorem State.dropFrames_changes (s : State) (m : Nat) :
    Changes [.mst] [] s (State.dropFrames s m) := by
  unfold State.dropFrames
  extract_lets v1
  clear_value v1
  refine Changes.andThen ?_ (State.setMs_changes ..) (by decide) (subset_regs (by decide +kernel))
  exact Changes.refl _ _ _

theorem State.frameReady_changes (s : State) (m : Nat) (k : Nat) (num : Nat) :
    Changes [.mst] [] s (State.frameReady s m k num) := by
  unfold State.frameReady
  split
  · rename_i y1 y2
    exact Changes.refl _ _ _
  · rename_i y3 y4 y5
    extract_lets v6
    refine Changes.cut (x := v6) ?_ (fun h7 => ?_)
    · unfold v6
      refine Changes.ite ?_ ?_
      · refine Changes.andThen ?_ (State.makeReady_changes ..) (by decide) (subset_regs (by decide +kernel))
        exact Changes.refl _ _ _
      · exact Changes.refl _ _ _
    clear_value v6
    refine Changes.ite ?_ ?_
    · refine Changes.andThen ?_ (State.dropFrames_changes ..) (by decide) (subset_regs (by decide +kernel))
      exact Changes.refl _ _ _
    · split
      · rename_i y8 y9
        exact Changes.refl _ _ _
      · rename_i y10 y11 y12
        refine Changes.ite ?_ ?_
        · refine Changes.andThen ?_ (State.addReady_changes ..) (by decide) (subset_regs (by decide +kernel))
          refine Changes.andThen ?_ (State.setMs_changes ..) (by decide) (subset_regs (by decide +kernel))
          assumption
        · refine Changes.andThen ?_ (State.dropFrames_changes ..) (by decide) (subset_regs (by decide +kernel))
          assumption

theorem State.mastClose_changes (s : State) (m : Nat) (port : Nat) (num : Nat) (flags : Nat) :
    Changes [.mst] [] s (State.mastClose s m port num flags) := by
  unfold State.mastClose
  split
  · rename_i y1 y2
    exact Changes.refl _ _ _
  · rename_i y3 y4 y5
    extract_lets v6
    refine Changes.cut (x := v6) ?_ (fun h7 => ?_)
    · unfold v6
      refine Changes.andThen ?_ (State.setMs_changes ..) (by decide) (subset_regs (by decide +kernel))
      exact Changes.refl _ _ _
    clear_value v6
    refine Changes.andThen ?_ (State.frameReady_changes ..) (by decide) (subset_regs (by decide +kernel))
    assumption

theorem State.mastShow_changes (s : State) (m : Nat) :
    Changes [] [.MST_STATUS, .MST_SPARE_USE] s (State.mastShow s m) := by
  unfold State.mastShow
  extract_lets v1 v2 v3 v4 v5 v6
  refine Changes.cut (x := v5) ?_ (fun h7 => ?_)
  · unfold v5
    refine Changes.wr ?_ (by decide +kernel)
    exact Changes.refl _ _ _
  refine Changes.cut (x := v6) ?_ (fun h8 => ?_)
  · unfold v6
    refine Changes.setFld ?_ (by decide +kernel)
    assumption
  clear_value v1
  clear_value v3
  clear_value v4
  clear_value v5
  clear_value v6
  refine Changes.setFld ?_ (by decide +kernel)
  assumption

theorem State.setEngine_changes (s : State) (m : Nat) (e : Nat) (v : Nat) :
    Changes [] [.MST_SPAR_STATE] s (State.setEngine s m e v) := by
  unfold State.setEngine
  refine Changes.wr ?_ (by decide +kernel)
  exact Changes.refl _ _ _

theorem State.unsuspend_changes (s : State) (m : Nat) (e : Nat) (k : Nat) :
    Changes [.mst] [.MST_STATUS, .MST_SPARE_USE, .MST_SPAR_STATE] s (State.unsuspend s m e k) := by
  unfold State.unsuspend
  extract_lets v1 v2 v3
  refine Changes.cut (x := v3) ?_ (fun h4 => ?_)
  · unfold v3
    refine Changes.andThen ?_ (State.setEngine_changes ..) (by decide) (subset_regs (by decide +kernel))
    refine Changes.andThen ?_ (State.setMs_changes ..) (by decide) (subset_regs (by decide +kernel))
    exact Changes.refl _ _ _
  clear_value v1
  clear_value v2
  clear_value v3
  refine Changes.andThen ?_ (State.mastShow_changes ..) (by decide) (subset_regs (by decide +kernel))
  refine Changes.ite ?_ ?_
  · assumption
  · refine Changes.andThen ?_ (State.setEngine_changes ..) (by decide) (subset_regs (by decide +kernel))
    assumption

theorem State.unsuspendList_changes (m : Nat) (a1 : List Tile) (a2 : State) :
    Changes [.mst] [.MST_STATUS, .MST_SPARE_USE, .MST_SPAR_STATE] a2 (State.unsuspendList m a1 a2) := by
  fun_induction State.unsuspendList m a1 a2
  · rename_i y1
    exact Changes.refl _ _ _
  · rename_i y2 y3 y4 y5
    refine Changes.trans ?_ y5
    split
    · rename_i y6 y7 y8 y9
      refine Changes.andThen ?_ (State.unsuspend_changes ..) (by decide) (subset_regs (by decide +kernel))
      exact Changes.refl _ _ _
    · rename_i y10 y11
      exact Changes.refl _ _ _

theorem State.ingestDrop_changes (s : State) (m : Nat) (f : MFrame) :
    Changes [.mst] [.MST_STATUS, .MST_SPARE_USE, .MST_SPAR_STATE, .MST_CNT_CANCEL, .MST_CNT_INGEST_DROP] s
      (State.ingestDrop s m f) := by
  unfold State.ingestDrop
  extract_lets v1 v2 v3 v4 v5 v6
  refine Changes.cut (x := v6) ?_ (fun h7 => ?_)
  · unfold v6
    refine Changes.bumpBy ?_ (by decide +kernel)
    refine Changes.bump ?_ (by decide +kernel)
    refine Changes.andThen ?_ (State.setMs_changes ..) (by decide) (subset_regs (by decide +kernel))
    exact Changes.refl _ _ _
  clear_value v1
  clear_value v3
  clear_value v4
  clear_value v5
  clear_value v6
  refine Changes.ite ?_ ?_
  · exact Changes.refl _ _ _
  · refine Changes.andThen ?_ (State.dropFrames_changes ..) (by decide) (subset_regs (by decide +kernel))
    refine Changes.andThen ?_ (State.unsuspendList_changes ..) (by decide) (subset_regs (by decide +kernel))
    assumption

theorem State.mastData_changes (s : State) (m : Nat) (port : Nat) (num : Nat) (full : Bool) (off : Nat) (data : List
    Byte) :
    Changes [.mst] [.MST_STATUS, .MST_SPARE_USE, .MST_SPAR_STATE, .MST_CNT_CANCEL, .MST_CNT_INGEST_DROP] s
      (State.mastData s m port num full off data) := by
  unfold State.mastData
  split
  · rename_i y1 y2
    exact Changes.refl _ _ _
  · rename_i y3 y4 y5
    extract_lets v6 v7 v8 v9 v10 v11 v12
    refine Changes.cut (x := v12) ?_ (fun h13 => ?_)
    · unfold v12
      refine Changes.andThen ?_ (State.setMs_changes ..) (by decide) (subset_regs (by decide +kernel))
      exact Changes.refl _ _ _
    clear_value v6
    clear_value v7
    clear_value v8
    clear_value v9
    clear_value v10
    clear_value v11
    clear_value v12
    refine Changes.ite ?_ ?_
    · exact Changes.refl _ _ _
    · refine Changes.ite ?_ ?_
      · refine Changes.andThen ?_ (State.ingestDrop_changes ..) (by decide) (subset_regs (by decide +kernel))
        exact Changes.refl _ _ _
      · refine Changes.andThen ?_ (State.frameReady_changes ..) (by decide) (subset_regs (by decide +kernel))
        assumption

theorem State.endRun_changes (s : State) (m : Nat) (e : Nat) :
    Changes [.mst] [] s (State.endRun s m e) := by
  unfold State.endRun
  extract_lets v1
  clear_value v1
  refine Changes.andThen ?_ (State.setMs_changes ..) (by decide) (subset_regs (by decide +kernel))
  exact Changes.refl _ _ _

theorem State.mastFault_changes (s : State) (m : Nat) (e : Nat) (repl : Nat) (cause : Nat) (stream : Nat) (frame :
    Nat) :
    Changes [.outbox, .mst, .hal, .pce, .helm] [.MST_STATUS, .HAL_CNT_QUEUE_DROP, .PCE_STATUS, .PCE_CNT_MSIX_DROP,
      .HLM_CNT_NOTICE_DROP, .PWR_FAULT_SUMMARY] s (State.mastFault s m e repl cause stream frame) := by
  unfold State.mastFault
  extract_lets v1 v2 v3 v4
  refine Changes.cut (x := v3) ?_ (fun h5 => ?_)
  · unfold v3
    refine Changes.ite ?_ ?_
    · refine Changes.setFld ?_ (by decide +kernel)
      refine Changes.andThen ?_ (State.setMs_changes ..) (by decide) (subset_regs (by decide +kernel))
      exact Changes.refl _ _ _
    · refine Changes.setFld ?_ (by decide +kernel)
      exact Changes.refl _ _ _
  refine Changes.cut (x := v4) ?_ (fun h6 => ?_)
  · unfold v4
    refine Changes.andThen ?_ (State.publish_changes ..) (by decide) (subset_regs (by decide +kernel))
    assumption
  clear_value v1
  clear_value v2
  clear_value v3
  clear_value v4
  refine Changes.ite ?_ ?_
  · assumption
  · refine Changes.andThen ?_ (State.notice_changes ..) (by decide) (subset_regs (by decide +kernel))
    assumption

theorem State.suspRetire_changes (s : State) (m : Nat) (r : Run) :
    Changes [.outbox, .mst, .hal, .pce, .helm] [.MST_STATUS, .MST_SPARE_USE, .MST_SPAR_STATE, .HAL_CNT_QUEUE_DROP,
      .PCE_STATUS, .PCE_CNT_MSIX_DROP, .HLM_CNT_NOTICE_DROP, .PWR_FAULT_SUMMARY] s (State.suspRetire s m r) := by
  unfold State.suspRetire
  split
  · rename_i y1 y2 y3 y4
    extract_lets v5 v6
    refine Changes.cut (x := v5) ?_ (fun h7 => ?_)
    · unfold v5
      refine Changes.andThen ?_ (State.mastShow_changes ..) (by decide) (subset_regs (by decide +kernel))
      refine Changes.andThen ?_ (State.setEngine_changes ..) (by decide) (subset_regs (by decide +kernel))
      exact Changes.refl _ _ _
    clear_value v5
    clear_value v6
    refine Changes.andThen ?_ (State.mastFault_changes ..) (by decide) (subset_regs (by decide +kernel))
    assumption
  · rename_i y8 y9
    exact Changes.refl _ _ _

theorem State.tileFinal_changes (s : State) (m : Nat) (t : Tile) (how : Nat) :
    Changes [.mst] [] s (State.tileFinal s m t how) := by
  unfold State.tileFinal
  split
  · rename_i y1 y2
    exact Changes.refl _ _ _
  · rename_i y3 y4 y5
    extract_lets v6 v7
    clear_value v6
    clear_value v7
    refine Changes.andThen ?_ (State.frameReady_changes ..) (by decide) (subset_regs (by decide +kernel))
    refine Changes.andThen ?_ (State.setMs_changes ..) (by decide) (subset_regs (by decide +kernel))
    exact Changes.refl _ _ _

theorem State.aborted_changes (s : State) (m : Nat) (r : Run) :
    Changes [.outbox, .mst, .hal, .pce, .helm] [.MST_STATUS, .MST_SPARE_USE, .MST_SPAR_STATE, .MST_CNT_ABANDON,
      .HAL_CNT_QUEUE_DROP, .PCE_STATUS, .PCE_CNT_MSIX_DROP, .HLM_CNT_NOTICE_DROP, .PWR_FAULT_SUMMARY] s
      (State.aborted s m r) := by
  unfold State.aborted
  extract_lets v1
  clear_value v1
  refine Changes.andThen ?_ (State.tileFinal_changes ..) (by decide) (subset_regs (by decide +kernel))
  refine Changes.bump ?_ (by decide +kernel)
  refine Changes.andThen ?_ (State.suspRetire_changes ..) (by decide) (subset_regs (by decide +kernel))
  refine Changes.andThen ?_ (State.endRun_changes ..) (by decide) (subset_regs (by decide +kernel))
  exact Changes.refl _ _ _

theorem State.calibRecords_changes (s : State) (a1 : Nat) (a2 : List Byte) :
    Changes [.cal] [.SCN_CNT_CAL_USED, .SCN_CNT_CAL_DISCARD] s (State.calibRecords s a1 a2) := by
  fun_induction State.calibRecords s a1 a2
  · rename_i y1 y2
    exact Changes.refl _ _ _
  · rename_i y3 y4
    exact Changes.refl _ _ _
  · rename_i y5 y6 y7 y8 y9
    refine Changes.trans ?_ y9
    unfold execCalibRecord
    extract_lets v10 v11 v12 v13 v14 v15 v16 v17 v18 v19 v20 v21 v22 v23 v24 v25 v26
    rw [resState_next]
    refine Changes.ite ?_ ?_
    · refine Changes.ite ?_ ?_
      · refine Changes.bump ?_ (by decide +kernel)
        exact Changes.refl _ _ _
      · exact Changes.refl _ _ _
    · refine Changes.bump ?_ (by decide +kernel)
      refine Changes.cal ?_ (by decide +kernel)
      exact Changes.refl _ _ _

theorem State.deliver_changes (s : State) (m : Nat) (f : MFrame) (t : Tile) (dest : Nat) (bytes : List Byte) :
    Changes [.outbox, .mst, .sht, .cal, .hal, .pce, .que, .helm] [.MST_CNT_NO_BEAM, .SHT_CNT_BAD_CHECK,
      .SHT_CNT_FOREIGN, .SHT_CNT_OVERRUN, .SHT_CNT_LOG_DROP, .SCN_CNT_CAL_USED, .SCN_CNT_CAL_DISCARD,
      .HAL_CNT_QUEUE_DROP, .PCE_STATUS, .PCE_CNT_MSIX_DROP, .QUE_STATUS, .QUE_CNT_LOST, .QUE_CNT_PTR_ERR,
      .QUE_CNT_NO_QUEUE, .HLM_CNT_NOTICE_DROP, .PWR_FAULT_SUMMARY] s (State.deliver s m f t dest bytes) := by
  unfold State.deliver
  extract_lets v1 v2 v3 v4 v5 v6 v7 v8 v9 v10
  refine Changes.cut (x := v3) ?_ (fun h11 => ?_)
  · unfold v3
    refine Changes.ite ?_ ?_
    · refine Changes.bump ?_ (by decide +kernel)
      exact Changes.refl _ _ _
    · exact Changes.refl _ _ _
  refine Changes.cut (x := v4) ?_ (fun h12 => ?_)
  · unfold v4
    refine Changes.ite ?_ ?_
    · refine Changes.andThen ?_ (State.featureLog_changes ..) (by decide) (subset_regs (by decide +kernel))
      assumption
    · assumption
  refine Changes.cut (x := v5) ?_ (fun h13 => ?_)
  · unfold v5
    refine Changes.ite ?_ ?_
    · refine Changes.andThen ?_ (State.sheetRecord_changes ..) (by decide) (subset_regs (by decide +kernel))
      assumption
    · assumption
  refine Changes.cut (x := v6) ?_ (fun h14 => ?_)
  · unfold v6
    refine Changes.ite ?_ ?_
    · refine Changes.andThen ?_ (State.queSend_changes ..) (by decide) (subset_regs (by decide +kernel))
      assumption
    · assumption
  refine Changes.cut (x := v9) ?_ (fun h15 => ?_)
  · unfold v9
    refine Changes.ite ?_ ?_
    · refine Changes.andThen ?_ (State.setMs_changes ..) (by decide) (subset_regs (by decide +kernel))
      assumption
    · assumption
  refine Changes.cut (x := v10) ?_ (fun h16 => ?_)
  · unfold v10
    refine Changes.ite ?_ ?_
    · refine Changes.andThen ?_ (State.calibRecords_changes ..) (by decide) (subset_regs (by decide +kernel))
      assumption
    · assumption
  clear_value v1
  clear_value v2
  clear_value v3
  clear_value v4
  clear_value v5
  clear_value v6
  clear_value v7
  clear_value v8
  clear_value v9
  clear_value v10
  refine Changes.ite ?_ ?_
  · refine Changes.andThen ?_ (State.publish_changes ..) (by decide) (subset_regs (by decide +kernel))
    assumption
  · assumption

theorem State.committed_changes (s : State) (m : Nat) (r : Run) (dest : Nat) (bytes : List Byte) :
    Changes [.outbox, .mst, .sht, .cal, .hal, .pce, .que, .helm] [.MST_STATUS, .MST_SPARE_USE, .MST_SPAR_STATE,
      .MST_CNT_TILES, .MST_CNT_NO_BEAM, .SHT_CNT_BAD_CHECK, .SHT_CNT_FOREIGN, .SHT_CNT_OVERRUN, .SHT_CNT_LOG_DROP,
      .SCN_CNT_CAL_USED, .SCN_CNT_CAL_DISCARD, .HAL_CNT_QUEUE_DROP, .PCE_STATUS, .PCE_CNT_MSIX_DROP, .QUE_STATUS,
      .QUE_CNT_LOST, .QUE_CNT_PTR_ERR, .QUE_CNT_NO_QUEUE, .HLM_CNT_NOTICE_DROP, .PWR_FAULT_SUMMARY] s
      (State.committed s m r dest bytes) := by
  unfold State.committed
  split
  · rename_i y1 y2
    refine Changes.andThen ?_ (State.endRun_changes ..) (by decide) (subset_regs (by decide +kernel))
    exact Changes.refl _ _ _
  · rename_i y3 y4 y5
    extract_lets v6 v7
    refine Changes.cut (x := v6) ?_ (fun h8 => ?_)
    · unfold v6
      refine Changes.bump ?_ (by decide +kernel)
      refine Changes.andThen ?_ (State.suspRetire_changes ..) (by decide) (subset_regs (by decide +kernel))
      refine Changes.andThen ?_ (State.endRun_changes ..) (by decide) (subset_regs (by decide +kernel))
      exact Changes.refl _ _ _
    clear_value v6
    clear_value v7
    refine Changes.andThen ?_ (State.tileFinal_changes ..) (by decide) (subset_regs (by decide +kernel))
    refine Changes.andThen ?_ (State.deliver_changes ..) (by decide) (subset_regs (by decide +kernel))
    assumption

theorem State.illegal_changes (s : State) (m : Nat) (r : Run) :
    Changes [.outbox, .mst, .hal, .pce, .helm] [.MST_STATUS, .MST_SPARE_USE, .MST_SPAR_STATE, .MST_CNT_PROG_FAULT,
      .HAL_CNT_QUEUE_DROP, .PCE_STATUS, .PCE_CNT_MSIX_DROP, .HLM_CNT_NOTICE_DROP, .PWR_FAULT_SUMMARY] s
      (State.illegal s m r) := by
  unfold State.illegal
  extract_lets v1 v2
  refine Changes.cut (x := v1) ?_ (fun h3 => ?_)
  · unfold v1
    refine Changes.bump ?_ (by decide +kernel)
    refine Changes.andThen ?_ (State.suspRetire_changes ..) (by decide) (subset_regs (by decide +kernel))
    refine Changes.andThen ?_ (State.endRun_changes ..) (by decide) (subset_regs (by decide +kernel))
    exact Changes.refl _ _ _
  clear_value v1
  clear_value v2
  refine Changes.andThen ?_ (State.tileFinal_changes ..) (by decide) (subset_regs (by decide +kernel))
  refine Changes.andThen ?_ (State.mastFault_changes ..) (by decide) (subset_regs (by decide +kernel))
  assumption

theorem State.mastClass_changes (s : State) (m : Nat) (k : Nat) (port : Nat) (cls : Nat) (clsOf : Nat → Nat) :
    Changes [] [.MST_STATUS] s (State.mastClass s m k port cls clsOf).2 := by
  unfold State.mastClass
  extract_lets v1 v2
  clear_value v1
  clear_value v2
  split
  · rename_i y3
    dsimp only
    exact Changes.refl _ _ _
  · rename_i y4
    split
    · rename_i y5
      dsimp only
      exact Changes.refl _ _ _
    · rename_i y6
      dsimp only
      refine Changes.setFld ?_ (by decide +kernel)
      exact Changes.refl _ _ _

theorem State.mastFlag_changes (s : State) (m : Nat) :
    Changes [] [.MST_STATUS] s (State.mastFlag s m) := by
  unfold State.mastFlag
  refine Changes.ite ?_ ?_
  · refine Changes.setFld ?_ (by decide +kernel)
    exact Changes.refl _ _ _
  · exact Changes.refl _ _ _

theorem State.mastCheck_changes (s : State) (m : Nat) :
    Changes [.mst] [.MST_STATUS] s (State.mastCheck s m) := by
  unfold State.mastCheck
  extract_lets v1
  clear_value v1
  refine Changes.andThen ?_ (State.mastFlag_changes ..) (by decide) (subset_regs (by decide +kernel))
  refine Changes.andThen ?_ (State.setMs_changes ..) (by decide) (subset_regs (by decide +kernel))
  exact Changes.refl _ _ _

theorem State.promote_changes (s : State) (m : Nat) (k : Nat) (slot : Option Nat) :
    Changes [.mst] [] s (State.promote s m k slot) := by
  unfold State.promote
  split
  · rename_i y1 y2
    extract_lets v3
    clear_value v3
    refine Changes.andThen ?_ (State.setMs_changes ..) (by decide) (subset_regs (by decide +kernel))
    exact Changes.refl _ _ _
  · rename_i y4
    exact Changes.refl _ _ _

theorem State.replaceEngine_changes (s : State) (m : Nat) (k : Nat) :
    Changes [.mst] [.MST_STATUS, .MST_SPARE_USE, .MST_SPAR_STATE] s (State.replaceEngine s m k).2 := by
  unfold State.replaceEngine
  split
  · rename_i y1 y2 y3
    extract_lets v4 v5
    refine Changes.cut (x := v5) ?_ (fun h6 => ?_)
    · unfold v5
      refine Changes.andThen ?_ (State.setEngine_changes ..) (by decide) (subset_regs (by decide +kernel))
      refine Changes.andThen ?_ (State.setMs_changes ..) (by decide) (subset_regs (by decide +kernel))
      exact Changes.refl _ _ _
    clear_value v4
    clear_value v5
    dsimp only
    refine Changes.andThen ?_ (State.mastShow_changes ..) (by decide) (subset_regs (by decide +kernel))
    assumption
  · rename_i y7 y8
    extract_lets v9 v10 v11 v12 v13
    refine Changes.cut (x := v12) ?_ (fun h14 => ?_)
    · unfold v12
      refine Changes.andThen ?_ (State.setMs_changes ..) (by decide) (subset_regs (by decide +kernel))
      exact Changes.refl _ _ _
    clear_value v9
    clear_value v10
    clear_value v11
    clear_value v12
    clear_value v13
    dsimp only
    refine Changes.andThen ?_ (State.mastShow_changes ..) (by decide) (subset_regs (by decide +kernel))
    refine Changes.ite ?_ ?_
    · refine Changes.andThen ?_ (State.promote_changes ..) (by decide) (subset_regs (by decide +kernel))
      assumption
    · assumption

theorem State.retireEngine_changes (s : State) (m : Nat) (e : Nat) (cause : Nat) (stream : Nat) (frame : Nat) :
    Changes [.outbox, .mst, .hal, .pce, .helm] [.MST_STATUS, .MST_SPARE_USE, .MST_SPAR_STATE, .HAL_CNT_QUEUE_DROP,
      .PCE_STATUS, .PCE_CNT_MSIX_DROP, .HLM_CNT_NOTICE_DROP, .PWR_FAULT_SUMMARY] s (State.retireEngine s m e cause
      stream frame) := by
  unfold State.retireEngine
  extract_lets v1 v2 v3
  refine Changes.cut (x := v2) ?_ (fun h4 => ?_)
  · unfold v2
    refine Changes.andThen ?_ (State.setEngine_changes ..) (by decide) (subset_regs (by decide +kernel))
    exact Changes.refl _ _ _
  clear_value v1
  clear_value v2
  clear_value v3
  refine Changes.ite ?_ ?_
  · refine Changes.andThen ?_ (State.mastFault_changes ..) (by decide) (subset_regs (by decide +kernel))
    refine Changes.andThen ?_ (State.mastShow_changes ..) (by decide) (subset_regs (by decide +kernel))
    refine Changes.andThen ?_ (State.setMs_changes ..) (by decide) (subset_regs (by decide +kernel))
    assumption
  · split
    · rename_i y5 y6 y7
      extract_lets v8
      refine Changes.cut (x := v8.2) ?_ (fun h9 => ?_)
      · unfold v8
        refine Changes.andThen ?_ (State.replaceEngine_changes ..) (by decide) (subset_regs (by decide +kernel))
        assumption
      clear_value v8
      refine Changes.andThen ?_ (State.mastFault_changes ..) (by decide) (subset_regs (by decide +kernel))
      assumption
    · rename_i y10 y11
      refine Changes.andThen ?_ (State.mastFault_changes ..) (by decide) (subset_regs (by decide +kernel))
      assumption

theorem State.toRerun_changes (s : State) (m : Nat) (r : Run) (susp : Option (Nat × Nat)) :
    Changes [.mst] [.MST_CNT_RERUN] s (State.toRerun s m r susp) := by
  unfold State.toRerun
  extract_lets v1 v2 v3
  refine Changes.cut (x := v1) ?_ (fun h4 => ?_)
  · unfold v1
    refine Changes.andThen ?_ (State.endRun_changes ..) (by decide) (subset_regs (by decide +kernel))
    exact Changes.refl _ _ _
  clear_value v1
  clear_value v2
  clear_value v3
  refine Changes.bump ?_ (by decide +kernel)
  refine Changes.andThen ?_ (State.setMs_changes ..) (by decide) (subset_regs (by decide +kernel))
  assumption

theorem State.mastStart_changes (s : State) (m : Nat) (i : FrameInfo) (clsOf : Nat → Nat) :
    Changes [.mst] [.MST_STATUS, .MST_SPARE_USE, .MST_SPAR_STATE, .MST_CNT_CANCEL, .MST_CNT_NO_STREAM,
      .MST_CNT_INGEST_DROP] s (State.mastStart s m i clsOf) := by
  unfold State.mastStart
  refine Changes.ite ?_ ?_
  · exact Changes.refl _ _ _
  · split
    · rename_i y1 y2
      refine Changes.bump ?_ (by decide +kernel)
      exact Changes.refl _ _ _
    · rename_i y3 y4 y5
      extract_lets v6 v7 v8 v9 v10 v11 v12 v13 v14 v15 v16 v17
      refine Changes.cut (x := v10) ?_ (fun h18 => ?_)
      · unfold v10
        refine Changes.andThen ?_ (State.mastFlag_changes ..) (by decide) (subset_regs (by decide +kernel))
        refine Changes.andThen ?_ (State.setMs_changes ..) (by decide) (subset_regs (by decide +kernel))
        exact Changes.refl _ _ _
      refine Changes.cut (x := v11.2) ?_ (fun h19 => ?_)
      · unfold v11
        refine Changes.andThen ?_ (State.mastClass_changes ..) (by decide) (subset_regs (by decide +kernel))
        assumption
      refine Changes.cut (x := v17) ?_ (fun h20 => ?_)
      · unfold v17
        refine Changes.andThen ?_ (State.setMs_changes ..) (by decide) (subset_regs (by decide +kernel))
        assumption
      clear_value v6
      clear_value v7
      clear_value v8
      clear_value v9
      clear_value v10
      clear_value v11
      clear_value v12
      clear_value v13
      clear_value v14
      clear_value v15
      clear_value v16
      clear_value v17
      refine Changes.ite ?_ ?_
      · refine Changes.bump ?_ (by decide +kernel)
        refine Changes.setFld ?_ (by decide +kernel)
        exact Changes.refl _ _ _
      · refine Changes.ite ?_ ?_
        · refine Changes.andThen ?_ (State.ingestDrop_changes ..) (by decide) (subset_regs (by decide +kernel))
          assumption
        · assumption

theorem State.sparFaultAt_changes (s : State) (m : Nat) (e : Nat) (cause : SparCause) :
    Changes [.outbox, .mst, .hal, .pce, .helm] [.MST_STATUS, .MST_SPARE_USE, .MST_SPAR_STATE, .MST_CNT_RERUN,
      .MST_CNT_CE, .HAL_CNT_QUEUE_DROP, .PCE_STATUS, .PCE_CNT_MSIX_DROP, .HLM_CNT_NOTICE_DROP, .PWR_FAULT_SUMMARY]
      s (State.sparFaultAt s m e cause) := by
  unfold State.sparFaultAt
  refine Changes.ite ?_ ?_
  · exact Changes.refl _ _ _
  · refine Changes.ite ?_ ?_
    · refine Changes.bump ?_ (by decide +kernel)
      exact Changes.refl _ _ _
    · split
      · rename_i y1 y2 y3
        refine Changes.andThen ?_ (State.retireEngine_changes ..) (by decide) (subset_regs (by decide +kernel))
        refine Changes.andThen ?_ (State.toRerun_changes ..) (by decide) (subset_regs (by decide +kernel))
        exact Changes.refl _ _ _
      · rename_i y4 y5
        refine Changes.andThen ?_ (State.retireEngine_changes ..) (by decide) (subset_regs (by decide +kernel))
        exact Changes.refl _ _ _

end Sys2Proof.Machine
end

