-- ==== Sys2Proof/Laws/FrameFrameOps.lean ====
section
/-!
SUPPORT. What the operations of Machine/FrameOps.lean may change: one lemma for each.
-/

set_option Elab.async false

namespace Sys2Proof.Machine

theorem State.setPt_changes (s : State) (p : Nat) (x : Port) :
    Changes [.port] [] s (State.setPt s p x) := by
  unfold State.setPt
  refine Changes.port ?_ (by decide +kernel)
  exact Changes.refl _ _ _

theorem State.storeLeg_changes (s : State) (p : Nat) (f : CapFrame) (o : Nat) (data : List Byte) :
    Changes [.ddr, .fst] [] s (State.storeLeg s p f o data) := by
  unfold State.storeLeg
  split
  · rename_i y1 y2
    exact Changes.refl _ _ _
  · rename_i y3 y4 y5
    extract_lets v6
    refine Changes.ite ?_ ?_
    · refine Changes.fst ?_ (by rfl) (by decide +kernel)
      exact Changes.refl _ _ _
    · split
      · rename_i y7 y8 y9
        refine Changes.andThen ?_ (State.recWr_changes ..) (by decide) (subset_regs (by decide +kernel))
        exact Changes.refl _ _ _
      · rename_i y10 y11
        exact Changes.refl _ _ _

theorem State.legs_changes (s : State) (p : Nat) (f : CapFrame) (full : Bool) (o : Nat) (data : List Byte) :
    Changes [.mst, .dma, .ddr, .fst] [.CAP_CNT_OVERSIZE, .MST_STATUS, .MST_SPARE_USE, .MST_SPAR_STATE,
      .MST_CNT_CANCEL, .MST_CNT_INGEST_DROP] s (State.legs s p f full o data).1 := by
  unfold State.legs
  extract_lets v1 v2 v3 v4 v5 v6
  refine Changes.cut (x := v3) ?_ (fun h7 => ?_)
  · unfold v3
    refine Changes.andThen ?_ (State.storeLeg_changes ..) (by decide) (subset_regs (by decide +kernel))
    exact Changes.refl _ _ _
  refine Changes.cut (x := v4) ?_ (fun h8 => ?_)
  · unfold v4
    refine Changes.ite ?_ ?_
    · assumption
    · refine Changes.bumpBy ?_ (by decide +kernel)
      assumption
  refine Changes.cut (x := v5) ?_ (fun h9 => ?_)
  · unfold v5
    split
    · rename_i y10 y11 y12
      refine Changes.andThen ?_ (State.ctData_changes ..) (by decide) (subset_regs (by decide +kernel))
      assumption
    · rename_i y13 y14
      assumption
  refine Changes.cut (x := v6) ?_ (fun h15 => ?_)
  · unfold v6
    split
    · rename_i y16 y17 y18
      refine Changes.andThen ?_ (State.mastData_changes ..) (by decide) (subset_regs (by decide +kernel))
      assumption
    · rename_i y19 y20
      assumption
  clear_value v1
  clear_value v2
  clear_value v3
  clear_value v4
  clear_value v5
  clear_value v6
  dsimp only
  assumption

theorem State.legSegs_changes (p : Nat) (f : CapFrame) (full : Bool) (base : Nat) (data : List Byte) (a5 : List (Nat ×
    Nat × Nat)) (a6 : State) :
    Changes [.mst, .dma, .ddr, .fst] [.CAP_CNT_OVERSIZE, .MST_STATUS, .MST_SPARE_USE, .MST_SPAR_STATE,
      .MST_CNT_CANCEL, .MST_CNT_INGEST_DROP] a6 (State.legSegs p f full base data a5 a6).1 := by
  induction a5 generalizing a6 with
  | nil => exact Changes.refl _ _ _
  | cons x rest ih =>
    exact ((Changes.refl _ _ _).andThen (State.legs_changes ..) (by decide) (subset_regs (by decide +kernel))).trans (ih _)

theorem State.legZeros_changes (s : State) (p : Nat) (f : CapFrame) (full : Bool) (a : Nat) (b : Nat) :
    Changes [.mst, .dma, .ddr, .fst] [.CAP_CNT_OVERSIZE, .MST_STATUS, .MST_SPARE_USE, .MST_SPAR_STATE,
      .MST_CNT_CANCEL, .MST_CNT_INGEST_DROP] s (State.legZeros s p f full a b) := by
  unfold State.legZeros
  refine Changes.andThen ?_ (State.legSegs_changes ..) (by decide) (subset_regs (by decide +kernel))
  exact Changes.refl _ _ _

theorem State.setCp_changes (s : State) (p : Nat) (x : CapPort) :
    Changes [.cap] [] s (State.setCp s p x) := by
  unfold State.setCp
  refine Changes.cap ?_ (by decide +kernel)
  exact Changes.refl _ _ _

theorem State.closeFrame_changes (s : State) (p : Nat) (count : Option Nat) :
    Changes [.cap, .mst, .hal, .dma, .ddr, .fst] [.CAP_CNT_INCOMPLETE, .CAP_CNT_OVERSIZE, .FST_RING_WP_BAND,
      .MST_STATUS, .MST_SPARE_USE, .MST_SPAR_STATE, .MST_CNT_CANCEL, .MST_CNT_INGEST_DROP, .HAL_CNT_QUEUE_DROP] s
      (State.closeFrame s p count) := by
  unfold State.closeFrame
  split
  · rename_i y1 y2
    exact Changes.refl _ _ _
  · rename_i y3 y4 y5
    extract_lets v6 v7 v8 v9 v10 v11 v12 v13 v14 v15 v16 v17 v18 v19 v20 v21 v22 v23 v24 v25 v26 v27 v28 v29 v30
    refine Changes.cut (x := v9) ?_ (fun h31 => ?_)
    · unfold v9
      refine Changes.andThen ?_ (State.setCp_changes ..) (by decide) (subset_regs (by decide +kernel))
      exact Changes.refl _ _ _
    refine Changes.cut (x := v10) ?_ (fun h32 => ?_)
    · unfold v10
      refine Changes.ite ?_ ?_
      · assumption
      · refine Changes.bumpBy ?_ (by decide +kernel)
        assumption
    refine Changes.cut (x := v11) ?_ (fun h33 => ?_)
    · unfold v11
      refine Changes.ite ?_ ?_
      · refine Changes.andThen ?_ (State.legZeros_changes ..) (by decide) (subset_regs (by decide +kernel))
        assumption
      · assumption
    refine Changes.cut (x := v24) ?_ (fun h34 => ?_)
    · unfold v24
      refine Changes.andThen ?_ (State.storeLeg_changes ..) (by decide) (subset_regs (by decide +kernel))
      assumption
    refine Changes.cut (x := v25) ?_ (fun h35 => ?_)
    · unfold v25
      refine Changes.ite ?_ ?_
      · refine Changes.andThen ?_ (State.storeLeg_changes ..) (by decide) (subset_regs (by decide +kernel))
        assumption
      · assumption
    refine Changes.cut (x := v27) ?_ (fun h36 => ?_)
    · unfold v27
      split
      · rename_i y37 y38
        assumption
      · rename_i y39 y40 y41
        refine Changes.ite ?_ ?_
        · refine Changes.fst ?_ (by rfl) (by decide +kernel)
          assumption
        · split
          · rename_i y42 y43 y44
            refine Changes.andThen ?_ (State.endRec_changes ..) (by decide) (subset_regs (by decide +kernel))
            refine Changes.andThen ?_ (State.recWr_changes ..) (by decide) (subset_regs (by decide +kernel))
            assumption
          · rename_i y45 y46
            assumption
    refine Changes.cut (x := v28) ?_ (fun h47 => ?_)
    · unfold v28
      split
      · rename_i y48 y49 y50
        refine Changes.andThen ?_ (State.ctEnd_changes ..) (by decide) (subset_regs (by decide +kernel))
        assumption
      · rename_i y51 y52
        assumption
    refine Changes.cut (x := v29) ?_ (fun h53 => ?_)
    · unfold v29
      split
      · rename_i y54 y55 y56
        refine Changes.andThen ?_ (State.mastClose_changes ..) (by decide) (subset_regs (by decide +kernel))
        assumption
      · rename_i y57 y58
        assumption
    refine Changes.cut (x := v30) ?_ (fun h59 => ?_)
    · unfold v30
      refine Changes.ite ?_ ?_
      · refine Changes.bump ?_ (by decide +kernel)
        assumption
      · assumption
    clear_value v6
    clear_value v7
    clear_value v8
    clear_value v9
    clear_value v10
    clear_value v11
    clear_value v12
    clear_value v13
    clear_value v14
    clear_value v15
    clear_value v16
    clear_value v17
    clear_value v18
    clear_value v19
    clear_value v20
    clear_value v21
    clear_value v22
    clear_value v23
    clear_value v24
    clear_value v25
    clear_value v27
    clear_value v28
    clear_value v29
    clear_value v30
    refine Changes.andThen ?_ (State.publish_changes ..) (by decide) (subset_regs (by decide +kernel))
    assumption

theorem State.spill_changes (s : State) (p : Nat) (r : Nat) (f : CapFrame) (ownLeg : Bool) (tag : List Byte) :
    Changes [.dma] [.FST_CNT_DROP, .FST_CNT_SPILL, .DMA_STATUS, .DMA_CNT_CT_DROP, .DMA_CNT_CT_SIZE] s (State.spill
      s p r f ownLeg tag).2 := by
  unfold State.spill
  extract_lets v1 v2
  refine Changes.cut (x := v2.2) ?_ (fun h3 => ?_)
  · unfold v2
    refine Changes.andThen ?_ (State.ctStart_changes ..) (by decide) (subset_regs (by decide +kernel))
    exact Changes.refl _ _ _
  clear_value v1
  clear_value v2
  split
  · rename_i y4
    dsimp only
    refine Changes.ite ?_ ?_
    · refine Changes.bump ?_ (by decide +kernel)
      exact Changes.refl _ _ _
    · refine Changes.bump ?_ (by decide +kernel)
      exact Changes.refl _ _ _
  · rename_i y5
    split
    · rename_i y6
      split
      · rename_i y7
        dsimp only
        refine Changes.bump ?_ (by decide +kernel)
        assumption
      · rename_i y8
        dsimp only
        refine Changes.bump ?_ (by decide +kernel)
        assumption
    · rename_i y9
      dsimp only
      refine Changes.bump ?_ (by decide +kernel)
      exact Changes.refl _ _ _

theorem State.startStore_changes (s : State) (p : Nat) (f : CapFrame) (ownCt : Bool) (tag : List Byte) (slow : Bool)
    (marks : List RingOp) :
    Changes [.outbox, .freeCtr, .hal, .pceCfg, .pce, .dma, .que, .ddr, .fst, .helm] (([.FST_CNT_NO_RING,
      .FST_RING_STATUS, .FST_RING_LAP, .FST_RING_WP_BAND, .FST_RING_HEAD, .FST_RING_TAIL, .FST_CNT_DROP,
      .FST_CNT_SPILL, .FST_CNT_VOID, .FST_CNT_SPAN_REFUSED, .HAL_CNT_QUEUE_DROP, .PCE_STATUS,
      .PCE_CNT_PRIV_REFUSED, .PCE_CNT_MSIX_DROP, .DMA_STATUS, .DMA_CNT_CT_DROP, .DMA_CNT_CT_SIZE, .QUE_STATUS,
      .QUE_CNT_LOST, .QUE_CNT_PTR_ERR] : List Reg) ++ ([.QUE_CNT_NO_QUEUE, .HLM_CNT_NOTICE_DROP,
      .PWR_FAULT_SUMMARY, .PWR_CNT_REEF_DROP] : List Reg)) s (State.startStore s p f ownCt tag slow marks).2 := by
  unfold State.startStore
  extract_lets v1 v2 v3 v4 v5 v6
  refine Changes.cut (x := v5) ?_ (fun h7 => ?_)
  · unfold v5
    refine Changes.andThen ?_ (State.ringOps_changes ..) (by decide) (subset_regs (by decide +kernel))
    refine Changes.ite ?_ ?_
    · exact Changes.refl _ _ _
    · refine Changes.andThen ?_ (State.voidAhead_changes ..) (by decide) (subset_regs (by decide +kernel))
      exact Changes.refl _ _ _
  clear_value v1
  clear_value v2
  clear_value v3
  clear_value v4
  clear_value v5
  split
  · rename_i y8
    dsimp only
    refine Changes.bump ?_ (by decide +kernel)
    refine Changes.andThen ?_ (State.ringOps_changes ..) (by decide) (subset_regs (by decide +kernel))
    exact Changes.refl _ _ _
  · rename_i y9
    split
    · rename_i y10
      split
      · rename_i y11
        dsimp only
        refine Changes.bump ?_ (by decide +kernel)
        refine Changes.bump ?_ (by decide +kernel)
        assumption
      · rename_i y12
        split
        · rename_i y13
          dsimp only
          refine Changes.fst ?_ (by rfl) (by decide +kernel)
          assumption
        · rename_i y14
          split
          · rename_i y15 y16 y17 y18
            extract_lets v19
            dsimp only
            refine Changes.fst ?_ (by rfl) (by decide +kernel)
            refine Changes.ofPair y18 ?_
            refine Changes.andThen ?_ (State.placeRec_changes ..) (by decide) (subset_regs (by decide +kernel))
            assumption
          · rename_i y20 y21 y22
            refine Changes.andThen ?_ (State.spill_changes ..) (by decide) (subset_regs (by decide +kernel))
            refine Changes.andThen ?_ (State.ringFull_changes ..) (by decide) (subset_regs (by decide +kernel))
            assumption
    · rename_i y23
      split
      · rename_i y24
        dsimp only
        refine Changes.bump ?_ (by decide +kernel)
        assumption
      · rename_i y25
        split
        · rename_i y26 y27 y28 y29
          dsimp only
          refine Changes.andThen ?_ (State.storeLeg_changes ..) (by decide) (subset_regs (by decide +kernel))
          refine Changes.ofPair y29 ?_
          refine Changes.andThen ?_ (State.placeRec_changes ..) (by decide) (subset_regs (by decide +kernel))
          assumption
        · rename_i y30 y31 y32
          refine Changes.andThen ?_ (State.spill_changes ..) (by decide) (subset_regs (by decide +kernel))
          refine Changes.andThen ?_ (State.ringFull_changes ..) (by decide) (subset_regs (by decide +kernel))
          assumption

theorem State.giveLegs_changes (s : State) (p : Nat) (f : CapFrame) (slow : Bool) (marks : List RingOp) :
    Changes [.outbox, .freeCtr, .mst, .hal, .pceCfg, .pce, .dma, .que, .ddr, .fst, .helm] (([.FST_CNT_NO_RING,
      .FST_RING_STATUS, .FST_RING_LAP, .FST_RING_WP_BAND, .FST_RING_HEAD, .FST_RING_TAIL, .FST_CNT_DROP,
      .FST_CNT_SPILL, .FST_CNT_VOID, .FST_CNT_SPAN_REFUSED, .MST_STATUS, .MST_SPARE_USE, .MST_SPAR_STATE,
      .MST_CNT_CANCEL, .MST_CNT_NO_STREAM, .MST_CNT_INGEST_DROP, .HAL_CNT_QUEUE_DROP, .PCE_STATUS,
      .PCE_CNT_PRIV_REFUSED, .PCE_CNT_MSIX_DROP] : List Reg) ++ ([.DMA_STATUS, .DMA_CNT_CT_DROP, .DMA_CNT_CT_SIZE,
      .QUE_STATUS, .QUE_CNT_LOST, .QUE_CNT_PTR_ERR, .QUE_CNT_NO_QUEUE, .HLM_CNT_NOTICE_DROP, .PWR_FAULT_SUMMARY,
      .PWR_CNT_REEF_DROP] : List Reg)) s (State.giveLegs s p f slow marks).2 := by
  unfold State.giveLegs
  extract_lets v1 v2 v3 v4 v5 v6 v7 v8
  refine Changes.cut (x := v4.2) ?_ (fun h9 => ?_)
  · unfold v4
    split
    · rename_i y10
      refine Changes.andThen ?_ (State.ctStart_changes ..) (by decide) (subset_regs (by decide +kernel))
      exact Changes.refl _ _ _
    · rename_i y11
      dsimp only
      exact Changes.refl _ _ _
  refine Changes.cut (x := v6.2) ?_ (fun h12 => ?_)
  · unfold v6
    split
    · rename_i y13
      refine Changes.andThen ?_ (State.startStore_changes ..) (by decide) (subset_regs (by decide +kernel))
      assumption
    · rename_i y14
      dsimp only
      refine Changes.andThen ?_ (State.ringOps_changes ..) (by decide) (subset_regs (by decide +kernel))
      assumption
  clear_value v1
  clear_value v2
  clear_value v3
  clear_value v4
  clear_value v5
  clear_value v6
  clear_value v7
  clear_value v8
  split
  · rename_i y15
    dsimp only
    refine Changes.andThen ?_ (State.ringOps_changes ..) (by decide) (subset_regs (by decide +kernel))
    exact Changes.refl _ _ _
  · rename_i y16
    split
    · rename_i y17 y18 y19
      split
      · rename_i y20
        assumption
      · rename_i y21
        dsimp only
        refine Changes.andThen ?_ (State.mastStart_changes ..) (by decide) (subset_regs (by decide +kernel))
        assumption
    · rename_i y22 y23
      assumption

theorem State.showFrameNum_changes (s : State) (p : Nat) :
    Changes [] [.CAP_FRAME_NUM_LO] s (State.showFrameNum s p) := by
  unfold State.showFrameNum
  refine Changes.wr ?_ (by decide +kernel)
  exact Changes.refl _ _ _

theorem State.openFrame_changes (s : State) (p : Nat) (f : CapFrame) (slow : Bool) (marks : List RingOp) :
    Changes [.outbox, .freeCtr, .cap, .mst, .hal, .pceCfg, .pce, .dma, .que, .ddr, .fst, .helm]
      (([.CAP_FRAME_NUM_LO, .CAP_CNT_FRAMES, .CAP_CNT_RATE_EXCESS, .CAP_CNT_OPAQUE, .FST_CNT_NO_RING,
      .FST_RING_STATUS, .FST_RING_LAP, .FST_RING_WP_BAND, .FST_RING_HEAD, .FST_RING_TAIL, .FST_CNT_DROP,
      .FST_CNT_SPILL, .FST_CNT_VOID, .FST_CNT_SPAN_REFUSED, .MST_STATUS, .MST_SPARE_USE, .MST_SPAR_STATE,
      .MST_CNT_CANCEL, .MST_CNT_NO_STREAM, .MST_CNT_INGEST_DROP] : List Reg) ++ ([.HAL_CNT_QUEUE_DROP,
      .PCE_STATUS, .PCE_CNT_PRIV_REFUSED, .PCE_CNT_MSIX_DROP, .DMA_STATUS, .DMA_CNT_CT_DROP, .DMA_CNT_CT_SIZE,
      .QUE_STATUS, .QUE_CNT_LOST, .QUE_CNT_PTR_ERR, .QUE_CNT_NO_QUEUE, .HLM_CNT_NOTICE_DROP, .PWR_FAULT_SUMMARY,
      .PWR_CNT_REEF_DROP] : List Reg)) s (State.openFrame s p f slow marks) := by
  unfold State.openFrame
  extract_lets v1 v2 v3 v4 v5 v6 v7 v8
  refine Changes.cut (x := v2) ?_ (fun h9 => ?_)
  · unfold v2
    refine Changes.andThen ?_ (State.showFrameNum_changes ..) (by decide) (subset_regs (by decide +kernel))
    refine Changes.andThen ?_ (State.setCp_changes ..) (by decide) (subset_regs (by decide +kernel))
    exact Changes.refl _ _ _
  refine Changes.cut (x := v3) ?_ (fun h10 => ?_)
  · unfold v3
    refine Changes.bump ?_ (by decide +kernel)
    assumption
  refine Changes.cut (x := v4) ?_ (fun h11 => ?_)
  · unfold v4
    refine Changes.ite ?_ ?_
    · refine Changes.bump ?_ (by decide +kernel)
      assumption
    · assumption
  refine Changes.cut (x := v5) ?_ (fun h12 => ?_)
  · unfold v5
    refine Changes.ite ?_ ?_
    · refine Changes.bump ?_ (by decide +kernel)
      assumption
    · assumption
  refine Changes.cut (x := v6) ?_ (fun h13 => ?_)
  · unfold v6
    refine Changes.andThen ?_ (State.publish_changes ..) (by decide) (subset_regs (by decide +kernel))
    assumption
  refine Changes.cut (x := v7.2) ?_ (fun h14 => ?_)
  · unfold v7
    refine Changes.andThen ?_ (State.giveLegs_changes ..) (by decide) (subset_regs (by decide +kernel))
    assumption
  clear_value v1
  clear_value v2
  clear_value v3
  clear_value v4
  clear_value v5
  clear_value v6
  clear_value v7
  clear_value v8
  refine Changes.andThen ?_ (State.setCp_changes ..) (by decide) (subset_regs (by decide +kernel))
  assumption

theorem State.placeParts_changes (p : Nat) (full : Bool) (base : Nat) (data : List Byte) (a4 : List (Nat × Nat)) (a5 :
    CapFrame) (a6 : State) :
    Changes [.mst, .dma, .ddr, .fst] [.CAP_CNT_OVERSIZE, .MST_STATUS, .MST_SPARE_USE, .MST_SPAR_STATE,
      .MST_CNT_CANCEL, .MST_CNT_INGEST_DROP] a6 (State.placeParts p full base data a4 a5 a6).2 := by
  induction a4 generalizing a5 a6 with
  | nil => exact Changes.refl _ _ _
  | cons x rest ih =>
    refine Changes.trans ?_ (ih _ _)
    refine Changes.andThen ?_ (State.legSegs_changes ..) (by decide) (subset_regs (by decide +kernel))
    refine Changes.ite ?_ (Changes.refl _ _ _)
    exact (Changes.refl _ _ _).andThen (State.legZeros_changes ..) (by decide) (subset_regs (by decide +kernel))

theorem State.frameData_changes (s : State) (p : Nat) (off : Nat) (data : List Byte) (bad : List (Nat × Nat)) (failed
    : Bool) (rebuilt : Bool) (full : Bool) :
    Changes [.cap, .mst, .dma, .ddr, .fst] [.CAP_CNT_OVERSIZE, .MST_STATUS, .MST_SPARE_USE, .MST_SPAR_STATE,
      .MST_CNT_CANCEL, .MST_CNT_INGEST_DROP] s (State.frameData s p off data bad failed rebuilt full) := by
  unfold State.frameData
  split
  · rename_i y1 y2
    exact Changes.refl _ _ _
  · rename_i y3 y4 y5
    extract_lets v6 v7 v8 v9 v10 v11 v12 v13 v14 v15 v16
    refine Changes.cut (x := v11) ?_ (fun h17 => ?_)
    · unfold v11
      refine Changes.ite ?_ ?_
      · exact Changes.refl _ _ _
      · refine Changes.bumpBy ?_ (by decide +kernel)
        exact Changes.refl _ _ _
    refine Changes.cut (x := v12.2) ?_ (fun h18 => ?_)
    · unfold v12
      refine Changes.andThen ?_ (State.placeParts_changes ..) (by decide) (subset_regs (by decide +kernel))
      assumption
    clear_value v6
    clear_value v7
    clear_value v8
    clear_value v9
    clear_value v10
    clear_value v11
    clear_value v12
    clear_value v13
    clear_value v14
    clear_value v15
    clear_value v16
    refine Changes.andThen ?_ (State.setCp_changes ..) (by decide) (subset_regs (by decide +kernel))
    assumption

end Sys2Proof.Machine
end

