-- ==== Sys2Proof/Laws/FrameModeOps.lean ====
section
/-!
SUPPORT. What the operations of Machine/ModeOps.lean may change: one lemma for each.
-/

set_option Elab.async false

namespace Sys2Proof.Machine

theorem State.setMode_changes (s : State) (m : Nat) :
    Changes [.outbox, .sht, .bch, .lum, .proj, .hal] [.SHT_STATUS, .SHT_I_STATE, .SHT_LAST_OUT, .SHT_LAST_FRAME,
      .SHT_LAST_DELAY, .SHT_DELAY_MAX, .SHT_CNT_FALLBACK, .SHT_CNT_SUPERSEDED, .SHT_CNT_LOG_DROP, .BCH_STATUS,
      .LUM_CH_STATUS, .LUM_PROJ_STATUS, .HAL_CNT_QUEUE_DROP, .PWR_MODE_STATUS] s (State.setMode s m) := by
  unfold State.setMode
  extract_lets v1
  refine Changes.cut (x := v1) ?_ (fun h2 => ?_)
  · unfold v1
    refine Changes.andThen ?_ (State.publish_changes ..) (by decide) (subset_regs (by decide +kernel))
    refine Changes.setFld ?_ (by decide +kernel)
    exact Changes.refl _ _ _
  clear_value v1
  refine Changes.andThen ?_ (State.lumModeChange_changes ..) (by decide) (subset_regs (by decide +kernel))
  unfold State.allBeams
  refine Changes.trans ?_ (State.eachBeam_changes (fun k3 s4 => ?_) _ _)
  · assumption
  · refine Changes.andThen ?_ (State.beamGate_changes ..) (by decide) (subset_regs (by decide +kernel))
    refine Changes.andThen ?_ (State.shEnable_changes ..) (by decide) (subset_regs (by decide +kernel))
    exact Changes.refl _ _ _

theorem State.stopTuning_changes (s : State) (keep : Bool) :
    Changes [.sht] [.SHT_STATUS, .SHT_LAST_OUT, .SHT_LAST_DELAY, .SHT_DELAY_MAX, .SHT_CNT_SUPERSEDED,
      .SHT_CNT_LOG_DROP] s (State.stopTuning s keep) := by
  unfold State.stopTuning
  unfold State.allBeams
  refine Changes.trans ?_ (State.eachBeam_changes (fun k1 s2 => ?_) _ _)
  · exact Changes.refl _ _ _
  · refine Changes.ite ?_ ?_
    · exact Changes.refl _ _ _
    · refine Changes.andThen ?_ (State.shTuneEnd_changes ..) (by decide) (subset_regs (by decide +kernel))
      exact Changes.refl _ _ _

theorem State.haltForMode_changes (s : State) :
    Changes [.outbox, .sht, .bch, .beams, .scn, .hal] [.SHT_STATUS, .SHT_I_STATE, .SHT_LAST_OUT, .SHT_LAST_FRAME,
      .SHT_LAST_DELAY, .SHT_DELAY_MAX, .SHT_CNT_FALLBACK, .SHT_CNT_SUPERSEDED, .SHT_CNT_LOG_DROP, .BCH_STATUS,
      .SCN_STATUS, .SCN_HALT_RECORD, .SCN_HALT_OFFSET, .SCN_RECORD, .SCN_CNT_RECORDS, .SCN_CNT_HALT,
      .HAL_CNT_QUEUE_DROP] s (State.haltForMode s) := by
  unfold State.haltForMode
  unfold State.allBeams
  refine Changes.trans ?_ (State.eachBeam_changes (fun k1 s2 => ?_) _ _)
  · refine Changes.andThen ?_ (State.refreshAll_changes ..) (by decide) (subset_regs (by decide +kernel))
    exact Changes.refl _ _ _
  · refine Changes.andThen ?_ (State.hardHaltActive_changes ..) (by decide) (subset_regs (by decide +kernel))
    exact Changes.refl _ _ _

theorem State.buildToAcquire_changes (s : State) :
    Changes [.outbox, .sht, .bch, .beams, .scn, .lum, .proj, .hal] [.SHT_STATUS, .SHT_I_STATE, .SHT_LAST_OUT,
      .SHT_LAST_FRAME, .SHT_LAST_DELAY, .SHT_DELAY_MAX, .SHT_CNT_FALLBACK, .SHT_CNT_SUPERSEDED, .SHT_CNT_LOG_DROP,
      .BCH_STATUS, .SCN_STATUS, .SCN_HALT_RECORD, .SCN_HALT_OFFSET, .SCN_RECORD, .SCN_CNT_RECORDS, .SCN_CNT_HALT,
      .LUM_CH_STATUS, .LUM_PROJ_STATUS, .HAL_CNT_QUEUE_DROP, .PWR_MODE_STATUS] s (State.buildToAcquire s) := by
  unfold State.buildToAcquire
  extract_lets v1 v2
  refine Changes.cut (x := v1) ?_ (fun h3 => ?_)
  · unfold v1
    refine Changes.andThen ?_ (State.haltForMode_changes ..) (by decide) (subset_regs (by decide +kernel))
    exact Changes.refl _ _ _
  clear_value v1
  clear_value v2
  refine Changes.andThen ?_ (State.setMode_changes ..) (by decide) (subset_regs (by decide +kernel))
  refine Changes.andThen ?_ (State.stopTuning_changes ..) (by decide) (subset_regs (by decide +kernel))
  refine Changes.beams ?_ (by decide +kernel)
  assumption

theorem State.permitUpdate_changes (s : State) :
    Changes [.outbox, .sht, .bch, .beams, .scn, .lum, .proj, .hal] (([.SHT_STATUS, .SHT_I_STATE, .SHT_LAST_OUT,
      .SHT_LAST_FRAME, .SHT_LAST_DELAY, .SHT_DELAY_MAX, .SHT_CNT_FALLBACK, .SHT_CNT_SUPERSEDED, .SHT_CNT_LOG_DROP,
      .BCH_STATUS, .BCH_PERMIT, .SCN_STATUS, .SCN_HALT_RECORD, .SCN_HALT_OFFSET, .SCN_RECORD, .SCN_CNT_RECORDS,
      .SCN_CNT_HALT, .LUM_CH_STATUS, .LUM_PROJ_STATUS, .HAL_CNT_QUEUE_DROP] : List Reg) ++ ([.PWR_MODE_STATUS] :
      List Reg)) s (State.permitUpdate s) := by
  unfold State.permitUpdate
  extract_lets v1 v2 v3 v4
  refine Changes.cut (x := v3) ?_ (fun h5 => ?_)
  · unfold v3
    refine Changes.andThen ?_ (State.publish_changes ..) (by decide) (subset_regs (by decide +kernel))
    refine Changes.setFld ?_ (by decide +kernel)
    exact Changes.refl _ _ _
  refine Changes.cut (x := v4) ?_ (fun h6 => ?_)
  · unfold v4
    refine Changes.andThen ?_ (State.allGates_changes ..) (by decide) (subset_regs (by decide +kernel))
    assumption
  clear_value v1
  clear_value v2
  clear_value v3
  clear_value v4
  refine Changes.ite ?_ ?_
  · exact Changes.refl _ _ _
  · refine Changes.ite ?_ ?_
    · refine Changes.andThen ?_ (State.buildToAcquire_changes ..) (by decide) (subset_regs (by decide +kernel))
      assumption
    · assumption

end Sys2Proof.Machine
end

