-- ==== Sys2Proof/Laws/FrameLaneOps.lean ====
section
/-!
SUPPORT. What the operations of Machine/LaneOps.lean may change: one lemma for each.
-/

set_option Elab.async false

namespace Sys2Proof.Machine

theorem State.txStart_changes (s : State) (n : Nat) :
    Changes [.outbox, .port] [] s (State.txStart s n) := by
  unfold State.txStart
  extract_lets v1 v2 v3
  refine Changes.cut (x := v3) ?_ (fun h4 => ?_)
  · unfold v3
    refine Changes.ite ?_ ?_
    · exact Changes.refl _ _ _
    · refine Changes.andThen ?_ (State.setPt_changes ..) (by decide) (subset_regs (by decide +kernel))
      exact Changes.refl _ _ _
  clear_value v1
  clear_value v2
  clear_value v3
  refine Changes.emit ?_ (by decide +kernel)
  assumption

theorem State.unlock_changes (s : State) (n : Nat) :
    Changes [] [.LNK_STATUS] s (State.unlock s n) := by
  unfold State.unlock
  refine Changes.setFld ?_ (by decide +kernel)
  refine Changes.setFld ?_ (by decide +kernel)
  refine Changes.setFld ?_ (by decide +kernel)
  exact Changes.refl _ _ _

theorem State.setLn_changes (s : State) (n : Nat) (x : Lane) :
    Changes [.lnk] [] s (State.setLn s n x) := by
  unfold State.setLn
  refine Changes.lnk ?_ (by decide +kernel)
  exact Changes.refl _ _ _

theorem State.setLstate_changes (s : State) (n : Nat) (st : Nat) :
    Changes [.lnk] [.LNK_STATUS] s (State.setLstate s n st) := by
  unfold State.setLstate
  extract_lets v1
  clear_value v1
  refine Changes.setFld ?_ (by decide +kernel)
  refine Changes.andThen ?_ (State.setLn_changes ..) (by decide) (subset_regs (by decide +kernel))
  exact Changes.refl _ _ _

theorem State.laneDeep_changes (n : Nat) (s : State) :
    Changes [.outbox, .lnk] [.LNK_STATUS] s (State.laneDeep n s) := by
  unfold State.laneDeep
  extract_lets v1 v2 v3
  refine Changes.cut (x := v3) ?_ (fun h4 => ?_)
  · unfold v3
    refine Changes.andThen ?_ (State.setLstate_changes ..) (by decide) (subset_regs (by decide +kernel))
    refine Changes.andThen ?_ (State.setLn_changes ..) (by decide) (subset_regs (by decide +kernel))
    exact Changes.refl _ _ _
  clear_value v1
  clear_value v2
  clear_value v3
  refine Changes.ite ?_ ?_
  · exact Changes.refl _ _ _
  · refine Changes.emit ?_ (by decide +kernel)
    refine Changes.andThen ?_ (State.unlock_changes ..) (by decide) (subset_regs (by decide +kernel))
    assumption

theorem State.portBegin_changes (p : Nat) (s : State) :
    Changes [.port] [] s (State.portBegin p s) := by
  unfold State.portBegin
  extract_lets v1
  clear_value v1
  refine Changes.andThen ?_ (State.setPt_changes ..) (by decide) (subset_regs (by decide +kernel))
  exact Changes.refl _ _ _

theorem State.polFollow_changes (n : Nat) (s : State) :
    Changes [] [.LNK_STATUS] s (State.polFollow n s) := by
  unfold State.polFollow
  refine Changes.ite ?_ ?_
  · exact Changes.refl _ _ _
  · refine Changes.setFld ?_ (by decide +kernel)
    exact Changes.refl _ _ _

theorem State.laneRestart_changes (s : State) (n : Nat) (keep : Bool) (st : Nat) :
    Changes [.lnk] [.LNK_STATUS] s (State.laneRestart s n keep st) := by
  unfold State.laneRestart
  extract_lets v1 v2
  clear_value v1
  clear_value v2
  refine Changes.andThen ?_ (State.unlock_changes ..) (by decide) (subset_regs (by decide +kernel))
  refine Changes.andThen ?_ (State.setLstate_changes ..) (by decide) (subset_regs (by decide +kernel))
  refine Changes.andThen ?_ (State.setLn_changes ..) (by decide) (subset_regs (by decide +kernel))
  exact Changes.refl _ _ _

theorem State.laneStart_changes (n : Nat) (s : State) :
    Changes [.outbox, .lnk, .port] [.LNK_STATUS] s (State.laneStart n s) := by
  unfold State.laneStart
  extract_lets v1 v2 v3
  refine Changes.cut (x := v1) ?_ (fun h4 => ?_)
  · unfold v1
    refine Changes.andThen ?_ (State.polFollow_changes ..) (by decide) (subset_regs (by decide +kernel))
    refine Changes.andThen ?_ (State.laneRestart_changes ..) (by decide) (subset_regs (by decide +kernel))
    exact Changes.refl _ _ _
  refine Changes.cut (x := v3) ?_ (fun h5 => ?_)
  · unfold v3
    refine Changes.ite ?_ ?_
    · assumption
    · refine Changes.andThen ?_ (State.portBegin_changes ..) (by decide) (subset_regs (by decide +kernel))
      assumption
  clear_value v1
  clear_value v2
  clear_value v3
  refine Changes.ite ?_ ?_
  · refine Changes.emit ?_ (by decide +kernel)
    refine Changes.setFld ?_ (by decide +kernel)
    refine Changes.andThen ?_ (State.laneRestart_changes ..) (by decide) (subset_regs (by decide +kernel))
    exact Changes.refl _ _ _
  · refine Changes.ite ?_ ?_
    · refine Changes.andThen ?_ (State.laneDeep_changes ..) (by decide) (subset_regs (by decide +kernel))
      assumption
    · refine Changes.andThen ?_ (State.txStart_changes ..) (by decide) (subset_regs (by decide +kernel))
      assumption

theorem State.putBlock_changes (s : State) (n : Nat) (hdr : BitVec 2) (pay : BitVec 256) (shown : Bool) :
    Changes [.outbox, .lnk] [] s (State.putBlock s n hdr pay shown) := by
  unfold State.putBlock
  extract_lets v1 v2 v3 v4 v5 v6
  refine Changes.cut (x := v6) ?_ (fun h7 => ?_)
  · unfold v6
    refine Changes.andThen ?_ (State.setLn_changes ..) (by decide) (subset_regs (by decide +kernel))
    exact Changes.refl _ _ _
  clear_value v1
  clear_value v2
  clear_value v3
  clear_value v4
  clear_value v5
  clear_value v6
  refine Changes.ite ?_ ?_
  · refine Changes.emit ?_ (by decide +kernel)
    assumption
  · assumption

theorem State.putLanes_changes (a0 : List TxBlock) (a1 : State) :
    Changes [.outbox, .lnk] [] a1 (State.putLanes a0 a1) := by
  fun_induction State.putLanes a0 a1
  · rename_i y1
    exact Changes.refl _ _ _
  · rename_i y2 y3 y4 y5
    refine Changes.trans ?_ y5
    refine Changes.andThen ?_ (State.putBlock_changes ..) (by decide) (subset_regs (by decide +kernel))
    exact Changes.refl _ _ _

theorem State.seed_changes (s : State) :
    Changes [.freeCtr] [] s (State.seed s).2 := by
  unfold State.seed
  extract_lets v1 v2
  refine Changes.cut (x := v1.2) ?_ (fun h3 => ?_)
  · unfold v1
    refine Changes.andThen ?_ (State.freeBits_changes ..) (by decide) (subset_regs (by decide +kernel))
    exact Changes.refl _ _ _
  clear_value v1
  dsimp only
  assumption

theorem State.stuffLanes_changes (a0 : List TxBlock) (a1 : State) :
    Changes [.outbox, .freeCtr, .lnk] [] a1 (State.stuffLanes a0 a1) := by
  fun_induction State.stuffLanes a0 a1
  · rename_i y1
    exact Changes.refl _ _ _
  · rename_i y2 y3 y4 y5 y6
    refine Changes.trans ?_ y6
    refine Changes.andThen ?_ (State.putBlock_changes ..) (by decide) (subset_regs (by decide +kernel))
    unfold y5
    refine Changes.andThen ?_ (State.seed_changes ..) (by decide) (subset_regs (by decide +kernel))
    exact Changes.refl _ _ _

theorem State.useSlot_changes (s : State) (p : Nat) (stuffed : Bool) :
    Changes [.port] [] s (State.useSlot s p stuffed) := by
  unfold State.useSlot
  extract_lets v1
  clear_value v1
  refine Changes.andThen ?_ (State.setPt_changes ..) (by decide) (subset_regs (by decide +kernel))
  exact Changes.refl _ _ _

theorem State.putRow_changes (p : Nat) (row : List TxBlock) (a2 : Nat) (a3 : State) :
    Changes [.outbox, .freeCtr, .lnk, .port] [] a3 (State.putRow p row a2 a3) := by
  fun_induction State.putRow p row a2 a3
  · rename_i y1
    exact Changes.refl _ _ _
  · rename_i y2 y3 y4 y5
    refine Changes.trans ?_ y5
    refine Changes.andThen ?_ (State.useSlot_changes ..) (by decide) (subset_regs (by decide +kernel))
    refine Changes.andThen ?_ (State.stuffLanes_changes ..) (by decide) (subset_regs (by decide +kernel))
    exact Changes.refl _ _ _
  · rename_i y6 y7 y8
    refine Changes.andThen ?_ (State.useSlot_changes ..) (by decide) (subset_regs (by decide +kernel))
    refine Changes.andThen ?_ (State.putLanes_changes ..) (by decide) (subset_regs (by decide +kernel))
    exact Changes.refl _ _ _

theorem State.sendSkip_changes (s : State) (p : Nat) :
    Changes [.outbox, .freeCtr, .lnk, .port] [] s (State.sendSkip s p) := by
  unfold State.sendSkip
  extract_lets v1 v2 v3 v4 v5 v6 v7
  refine Changes.cut (x := v6) ?_ (fun h8 => ?_)
  · unfold v6
    refine Changes.andThen ?_ (State.putRow_changes ..) (by decide) (subset_regs (by decide +kernel))
    exact Changes.refl _ _ _
  clear_value v1
  clear_value v2
  clear_value v3
  clear_value v4
  clear_value v6
  clear_value v7
  refine Changes.andThen ?_ (State.setPt_changes ..) (by decide) (subset_regs (by decide +kernel))
  assumption

theorem State.idleLane_changes (s : State) (n : Nat) :
    Changes [.lnk] [] s (State.idleLane s n).2 := by
  unfold State.idleLane
  extract_lets v1 v2
  clear_value v1
  clear_value v2
  split
  · rename_i y3
    dsimp only
    refine Changes.andThen ?_ (State.setLn_changes ..) (by decide) (subset_regs (by decide +kernel))
    exact Changes.refl _ _ _
  · rename_i y4
    dsimp only
    exact Changes.refl _ _ _

theorem State.idleLanes_changes (a0 : List Nat) (a1 : State) :
    Changes [.lnk] [] a1 (State.idleLanes a0 a1).2 := by
  fun_induction State.idleLanes a0 a1
  · rename_i y1
    dsimp only
    exact Changes.refl _ _ _
  · rename_i y2 y3 y4 y5 y6 y7
    dsimp only
    unfold y6
    refine Changes.trans ?_ y7
    unfold y5
    refine Changes.andThen ?_ (State.idleLane_changes ..) (by decide) (subset_regs (by decide +kernel))
    exact Changes.refl _ _ _

theorem State.idleRows_changes (p : Nat) (a1 : Nat) (a2 : State) :
    Changes [.outbox, .freeCtr, .lnk, .port] [] a2 (State.idleRows p a1 a2) := by
  fun_induction State.idleRows p a1 a2
  · rename_i y1
    exact Changes.refl _ _ _
  · rename_i y2 y3 y4 y5
    refine Changes.trans ?_ y5
    refine Changes.andThen ?_ (State.putRow_changes ..) (by decide) (subset_regs (by decide +kernel))
    unfold y4
    refine Changes.andThen ?_ (State.idleLanes_changes ..) (by decide) (subset_regs (by decide +kernel))
    exact Changes.refl _ _ _

theorem State.fillTo_changes (s : State) (p : Nat) (k : Nat) :
    Changes [.outbox, .freeCtr, .lnk, .port] [] s (State.fillTo s p k) := by
  unfold State.fillTo
  extract_lets v1
  refine Changes.cut (x := v1) ?_ (fun h2 => ?_)
  · unfold v1
    refine Changes.andThen ?_ (State.idleRows_changes ..) (by decide) (subset_regs (by decide +kernel))
    exact Changes.refl _ _ _
  clear_value v1
  refine Changes.ite ?_ ?_
  · refine Changes.andThen ?_ (State.sendSkip_changes ..) (by decide) (subset_regs (by decide +kernel))
    assumption
  · assumption

theorem State.fillSlots_changes (s : State) (p : Nat) :
    Changes [.outbox, .freeCtr, .lnk, .port] [] s (State.fillSlots s p) := by
  unfold State.fillSlots
  refine Changes.andThen ?_ (State.fillTo_changes ..) (by decide) (subset_regs (by decide +kernel))
  exact Changes.refl _ _ _

theorem State.sendRow_changes (s : State) (p : Nat) (content : Nat → Option (List Byte)) :
    Changes [.outbox, .freeCtr, .lnk, .port] [] s (State.sendRow s p content) := by
  unfold State.sendRow
  extract_lets v1
  refine Changes.cut (x := v1) ?_ (fun h2 => ?_)
  · unfold v1
    refine Changes.andThen ?_ (State.fillSlots_changes ..) (by decide) (subset_regs (by decide +kernel))
    exact Changes.refl _ _ _
  clear_value v1
  refine Changes.andThen ?_ (State.putRow_changes ..) (by decide) (subset_regs (by decide +kernel))
  assumption

theorem State.sendRows_changes (p : Nat) (a1 : List (List Byte)) (a2 : State) :
    Changes [.outbox, .freeCtr, .lnk, .port] [] a2 (State.sendRows p a1 a2) := by
  fun_induction State.sendRows p a1 a2
  · rename_i y1
    exact Changes.refl _ _ _
  · rename_i y2 y3 y4 y5
    refine Changes.trans ?_ y5
    refine Changes.andThen ?_ (State.sendRow_changes ..) (by decide) (subset_regs (by decide +kernel))
    exact Changes.refl _ _ _

theorem State.flushSegs_changes (s : State) (p : Nat) :
    Changes [.outbox, .freeCtr, .lnk, .port] [] s (State.flushSegs s p) := by
  unfold State.flushSegs
  extract_lets v1
  clear_value v1
  refine Changes.ite ?_ ?_
  · exact Changes.refl _ _ _
  · refine Changes.andThen ?_ (State.sendRows_changes ..) (by decide) (subset_regs (by decide +kernel))
    refine Changes.andThen ?_ (State.setPt_changes ..) (by decide) (subset_regs (by decide +kernel))
    exact Changes.refl _ _ _

theorem State.sendRequest_changes (s : State) (p : Nat) (id : Nat) (op : Nat) (payload : List Byte) :
    Changes [.outbox, .freeCtr, .lnk, .port] [] s (State.sendRequest s p id op payload) := by
  unfold State.sendRequest
  extract_lets v1 v2 v3 v4 v5
  clear_value v1
  clear_value v2
  clear_value v3
  clear_value v4
  clear_value v5
  refine Changes.andThen ?_ (State.flushSegs_changes ..) (by decide) (subset_regs (by decide +kernel))
  refine Changes.andThen ?_ (State.setPt_changes ..) (by decide) (subset_regs (by decide +kernel))
  exact Changes.refl _ _ _

theorem State.sendRate_changes (s : State) (p : Nat) (restore : Bool) (mask : Nat) (sent : Nat) :
    Changes [.outbox, .freeCtr, .lnk, .port] [] s (State.sendRate s p restore mask sent) := by
  unfold State.sendRate
  extract_lets v1 v2
  clear_value v1
  clear_value v2
  refine Changes.andThen ?_ (State.sendRequest_changes ..) (by decide) (subset_regs (by decide +kernel))
  refine Changes.andThen ?_ (State.setPt_changes ..) (by decide) (subset_regs (by decide +kernel))
  exact Changes.refl _ _ _

theorem State.tryRestore_changes (s : State) (p : Nat) :
    Changes [.outbox, .freeCtr, .lnk, .port] [] s (State.tryRestore s p) := by
  unfold State.tryRestore
  refine Changes.ite ?_ ?_
  · refine Changes.andThen ?_ (State.sendRate_changes ..) (by decide) (subset_regs (by decide +kernel))
    exact Changes.refl _ _ _
  · exact Changes.refl _ _ _

theorem State.enterDeskew_changes (s : State) (n : Nat) :
    Changes [.outbox, .freeCtr, .lnk, .port] [.LNK_STATUS] s (State.enterDeskew s n) := by
  unfold State.enterDeskew
  extract_lets v1 v2 v3 v4 v5 v6
  refine Changes.cut (x := v3) ?_ (fun h7 => ?_)
  · unfold v3
    refine Changes.andThen ?_ (State.setLstate_changes ..) (by decide) (subset_regs (by decide +kernel))
    refine Changes.andThen ?_ (State.setLn_changes ..) (by decide) (subset_regs (by decide +kernel))
    exact Changes.refl _ _ _
  refine Changes.cut (x := v5) ?_ (fun h8 => ?_)
  · unfold v5
    refine Changes.andThen ?_ (State.setPt_changes ..) (by decide) (subset_regs (by decide +kernel))
    assumption
  clear_value v1
  clear_value v2
  clear_value v3
  clear_value v4
  clear_value v5
  clear_value v6
  refine Changes.ite ?_ ?_
  · refine Changes.andThen ?_ (State.tryRestore_changes ..) (by decide) (subset_regs (by decide +kernel))
    assumption
  · refine Changes.ite ?_ ?_
    · refine Changes.andThen ?_ (State.setPt_changes ..) (by decide) (subset_regs (by decide +kernel))
      assumption
    · assumption

theorem State.setOut_changes (s : State) (p : Nat) (out : Option Nat) :
    Changes [] [.LNK_STATUS, .LNK_PORT_STATUS] s (State.setOut s p out) := by
  unfold State.setOut
  extract_lets v1
  refine Changes.cut (x := v1) ?_ (fun h2 => ?_)
  · unfold v1
    refine Changes.trans ?_ (State.eachOf_changes (fun k3 s4 => ?_) _ _)
    · exact Changes.refl _ _ _
    · refine Changes.setFld ?_ (by decide +kernel)
      exact Changes.refl _ _ _
  clear_value v1
  split
  · rename_i y5
    refine Changes.setFld ?_ (by decide +kernel)
    refine Changes.setFld ?_ (by decide +kernel)
    assumption
  · rename_i y6 y7
    refine Changes.setFld ?_ (by decide +kernel)
    refine Changes.setFld ?_ (by decide +kernel)
    refine Changes.setFld ?_ (by decide +kernel)
    assumption

theorem State.setUp_changes (s : State) (p : Nat) (mask : Nat) (up : Bool) (degraded : Bool) (parity : Bool) :
    Changes [] [.LNK_PORT_STATUS] s (State.setUp s p mask up degraded parity) := by
  unfold State.setUp
  extract_lets v1 v2
  clear_value v1
  clear_value v2
  refine Changes.setFld ?_ (by decide +kernel)
  refine Changes.wr ?_ (by decide +kernel)
  exact Changes.refl _ _ _

theorem State.addBytes_changes (s : State) (p : Nat) (l : List (Nat × Byte)) :
    Changes [.port] [] s (State.addBytes s p l) := by
  unfold State.addBytes
  extract_lets v1
  clear_value v1
  refine Changes.andThen ?_ (State.setPt_changes ..) (by decide) (subset_regs (by decide +kernel))
  exact Changes.refl _ _ _

theorem State.releaseStripe_changes (p : Nat) (x : Stripe) (s : State) :
    Changes [.port] [.LNK_CNT_REBUILT, .LNK_CNT_PARITY_MISMATCH, .LNK_CNT_ERASED_ROWS] s (State.releaseStripe p x
      s) := by
  unfold State.releaseStripe
  extract_lets v1 v2 v3 v4 v5
  clear_value v1
  clear_value v2
  split
  · rename_i y6 y7
    refine Changes.ite ?_ ?_
    · refine Changes.andThen ?_ (State.addBytes_changes ..) (by decide) (subset_regs (by decide +kernel))
      exact Changes.refl _ _ _
    · split
      · rename_i y8 y9 y10
        unfold v5
        refine Changes.ite ?_ ?_
        · refine Changes.andThen ?_ (State.addBytes_changes ..) (by decide) (subset_regs (by decide +kernel))
          exact Changes.refl _ _ _
        · refine Changes.andThen ?_ (State.addBytes_changes ..) (by decide) (subset_regs (by decide +kernel))
          refine Changes.bump ?_ (by decide +kernel)
          exact Changes.refl _ _ _
      · rename_i y11 y12
        refine Changes.andThen ?_ (State.addBytes_changes ..) (by decide) (subset_regs (by decide +kernel))
        refine Changes.bump ?_ (by decide +kernel)
        exact Changes.refl _ _ _
  · rename_i y13 y14 y15
    unfold v5
    refine Changes.ite ?_ ?_
    · refine Changes.andThen ?_ (State.addBytes_changes ..) (by decide) (subset_regs (by decide +kernel))
      exact Changes.refl _ _ _
    · refine Changes.andThen ?_ (State.addBytes_changes ..) (by decide) (subset_regs (by decide +kernel))
      refine Changes.bump ?_ (by decide +kernel)
      exact Changes.refl _ _ _
  · rename_i y16 y17 y18
    refine Changes.andThen ?_ (State.addBytes_changes ..) (by decide) (subset_regs (by decide +kernel))
    refine Changes.bump ?_ (by decide +kernel)
    exact Changes.refl _ _ _

theorem State.releaseList_changes (p : Nat) (a1 : List Stripe) (a2 : State) :
    Changes [.port] [.LNK_CNT_REBUILT, .LNK_CNT_PARITY_MISMATCH, .LNK_CNT_ERASED_ROWS] a2 (State.releaseList p a1
      a2) := by
  fun_induction State.releaseList p a1 a2
  · rename_i y1
    exact Changes.refl _ _ _
  · rename_i y2 y3 y4 y5
    refine Changes.trans ?_ y5
    refine Changes.andThen ?_ (State.releaseStripe_changes ..) (by decide) (subset_regs (by decide +kernel))
    exact Changes.refl _ _ _

theorem State.releaseAll_changes (s : State) (p : Nat) :
    Changes [.port] [.LNK_CNT_REBUILT, .LNK_CNT_PARITY_MISMATCH, .LNK_CNT_ERASED_ROWS] s (State.releaseAll s p) := by
  unfold State.releaseAll
  extract_lets v1 v2
  clear_value v1
  clear_value v2
  refine Changes.andThen ?_ (State.releaseList_changes ..) (by decide) (subset_regs (by decide +kernel))
  refine Changes.andThen ?_ (State.setPt_changes ..) (by decide) (subset_regs (by decide +kernel))
  exact Changes.refl _ _ _

theorem State.portClear_changes (s : State) (p : Nat) :
    Changes [.port, .cap, .mst, .hal, .dma, .ddr, .fst] [.LNK_STATUS, .LNK_PORT_STATUS, .LNK_CNT_REBUILT,
      .LNK_CNT_PARITY_MISMATCH, .LNK_CNT_ERASED_ROWS, .CAP_CNT_INCOMPLETE, .CAP_CNT_OVERSIZE, .FST_RING_WP_BAND,
      .MST_STATUS, .MST_SPARE_USE, .MST_SPAR_STATE, .MST_CNT_CANCEL, .MST_CNT_INGEST_DROP, .HAL_CNT_QUEUE_DROP] s
      (State.portClear s p) := by
  unfold State.portClear
  extract_lets v1 v2
  refine Changes.cut (x := v1) ?_ (fun h3 => ?_)
  · unfold v1
    refine Changes.andThen ?_ (State.closeFrame_changes ..) (by decide) (subset_regs (by decide +kernel))
    refine Changes.andThen ?_ (State.releaseAll_changes ..) (by decide) (subset_regs (by decide +kernel))
    exact Changes.refl _ _ _
  refine Changes.cut (x := v2) ?_ (fun h4 => ?_)
  · unfold v2
    refine Changes.setFld ?_ (by decide +kernel)
    refine Changes.andThen ?_ (State.setUp_changes ..) (by decide) (subset_regs (by decide +kernel))
    refine Changes.andThen ?_ (State.setOut_changes ..) (by decide) (subset_regs (by decide +kernel))
    assumption
  clear_value v1
  clear_value v2
  refine Changes.andThen ?_ (State.portBegin_changes ..) (by decide) (subset_regs (by decide +kernel))
  refine Changes.andThen ?_ (State.setPt_changes ..) (by decide) (subset_regs (by decide +kernel))
  assumption

theorem State.portDown_changes (s : State) (p : Nat) :
    Changes [.outbox, .freeCtr, .lnk, .port, .cap, .mst, .hal, .dma, .ddr, .fst] [.LNK_STATUS, .LNK_PORT_STATUS,
      .LNK_CNT_REBUILT, .LNK_CNT_PARITY_MISMATCH, .LNK_CNT_ERASED_ROWS, .CAP_CNT_INCOMPLETE, .CAP_CNT_OVERSIZE,
      .FST_RING_WP_BAND, .MST_STATUS, .MST_SPARE_USE, .MST_SPAR_STATE, .MST_CNT_CANCEL, .MST_CNT_INGEST_DROP,
      .HAL_CNT_QUEUE_DROP] s (State.portDown s p) := by
  unfold State.portDown
  extract_lets v1
  refine Changes.cut (x := v1) ?_ (fun h2 => ?_)
  · unfold v1
    refine Changes.andThen ?_ (State.portClear_changes ..) (by decide) (subset_regs (by decide +kernel))
    exact Changes.refl _ _ _
  clear_value v1
  refine Changes.ite ?_ ?_
  · refine Changes.trans ?_ (State.eachOf_changes (fun k3 s4 => ?_) _ _)
    · assumption
    · refine Changes.andThen ?_ (State.laneDeep_changes ..) (by decide) (subset_regs (by decide +kernel))
      exact Changes.refl _ _ _
  · refine Changes.trans ?_ (State.eachOf_changes (fun k5 s6 => ?_) _ _)
    · assumption
    · refine Changes.ite ?_ ?_
      · refine Changes.andThen ?_ (State.enterDeskew_changes ..) (by decide) (subset_regs (by decide +kernel))
        exact Changes.refl _ _ _
      · exact Changes.refl _ _ _

theorem State.narrow_changes (s : State) (p : Nat) :
    Changes [.outbox, .freeCtr, .lnk, .port, .cap, .mst, .hal, .dma, .ddr, .fst] [.LNK_STATUS, .LNK_PORT_STATUS,
      .LNK_CNT_REBUILT, .LNK_CNT_PARITY_MISMATCH, .LNK_CNT_ERASED_ROWS, .CAP_CNT_INCOMPLETE, .CAP_CNT_OVERSIZE,
      .FST_RING_WP_BAND, .MST_STATUS, .MST_SPARE_USE, .MST_SPAR_STATE, .MST_CNT_CANCEL, .MST_CNT_INGEST_DROP,
      .HAL_CNT_QUEUE_DROP] s (State.narrow s p) := by
  unfold State.narrow
  extract_lets v1
  clear_value v1
  refine Changes.ite ?_ ?_
  · refine Changes.andThen ?_ (State.portDown_changes ..) (by decide) (subset_regs (by decide +kernel))
    exact Changes.refl _ _ _
  · refine Changes.andThen ?_ (State.sendRate_changes ..) (by decide) (subset_regs (by decide +kernel))
    exact Changes.refl _ _ _

theorem State.portResponse_changes (s : State) (p : Nat) (n : Nat) :
    Changes [.outbox, .freeCtr, .lnk, .port, .cap, .mst, .hal, .dma, .ddr, .fst] [.LNK_STATUS, .LNK_PORT_STATUS,
      .LNK_CNT_REBUILT, .LNK_CNT_PARITY_MISMATCH, .LNK_CNT_ERASED_ROWS, .CAP_CNT_INCOMPLETE, .CAP_CNT_OVERSIZE,
      .FST_RING_WP_BAND, .MST_STATUS, .MST_SPARE_USE, .MST_SPAR_STATE, .MST_CNT_CANCEL, .MST_CNT_INGEST_DROP,
      .HAL_CNT_QUEUE_DROP] s (State.portResponse s p n) := by
  unfold State.portResponse
  extract_lets v1 v2
  clear_value v1
  clear_value v2
  refine Changes.ite ?_ ?_
  · split
    · rename_i y3 y4 y5
      refine Changes.ite ?_ ?_
      · refine Changes.andThen ?_ (State.setPt_changes ..) (by decide) (subset_regs (by decide +kernel))
        exact Changes.refl _ _ _
      · exact Changes.refl _ _ _
    · rename_i y6 y7
      refine Changes.ite ?_ ?_
      · refine Changes.andThen ?_ (State.setPt_changes ..) (by decide) (subset_regs (by decide +kernel))
        exact Changes.refl _ _ _
      · exact Changes.refl _ _ _
  · refine Changes.ite ?_ ?_
    · split
      · rename_i y8 y9
        refine Changes.andThen ?_ (State.setOut_changes ..) (by decide) (subset_regs (by decide +kernel))
        exact Changes.refl _ _ _
      · rename_i y10 y11 y12
        refine Changes.ite ?_ ?_
        · exact Changes.refl _ _ _
        · refine Changes.andThen ?_ (State.narrow_changes ..) (by decide) (subset_regs (by decide +kernel))
          refine Changes.setFld ?_ (by decide +kernel)
          refine Changes.andThen ?_ (State.setOut_changes ..) (by decide) (subset_regs (by decide +kernel))
          refine Changes.andThen ?_ (State.releaseAll_changes ..) (by decide) (subset_regs (by decide +kernel))
          exact Changes.refl _ _ _
    · refine Changes.ite ?_ ?_
      · refine Changes.andThen ?_ (State.portDown_changes ..) (by decide) (subset_regs (by decide +kernel))
        exact Changes.refl _ _ _
      · refine Changes.ite ?_ ?_
        · refine Changes.andThen ?_ (State.narrow_changes ..) (by decide) (subset_regs (by decide +kernel))
          exact Changes.refl _ _ _
        · exact Changes.refl _ _ _

theorem State.laneOff_changes (s : State) (n : Nat) (st : Nat) :
    Changes [.outbox, .freeCtr, .lnk, .port, .cap, .mst, .hal, .dma, .ddr, .fst] [.LNK_STATUS, .LNK_PORT_STATUS,
      .LNK_CNT_REBUILT, .LNK_CNT_PARITY_MISMATCH, .LNK_CNT_ERASED_ROWS, .CAP_CNT_INCOMPLETE, .CAP_CNT_OVERSIZE,
      .FST_RING_WP_BAND, .MST_STATUS, .MST_SPARE_USE, .MST_SPAR_STATE, .MST_CNT_CANCEL, .MST_CNT_INGEST_DROP,
      .HAL_CNT_QUEUE_DROP] s (State.laneOff s n st) := by
  unfold State.laneOff
  extract_lets v1 v2 v3
  refine Changes.cut (x := v3) ?_ (fun h4 => ?_)
  · unfold v3
    refine Changes.andThen ?_ (State.laneRestart_changes ..) (by decide) (subset_regs (by decide +kernel))
    exact Changes.refl _ _ _
  clear_value v1
  clear_value v2
  clear_value v3
  refine Changes.ite ?_ ?_
  · refine Changes.andThen ?_ (State.portResponse_changes ..) (by decide) (subset_regs (by decide +kernel))
    assumption
  · assumption

theorem State.patternStart_changes (s : State) (n : Nat) :
    Changes [.outbox, .freeCtr] [] s (State.patternStart s n) := by
  unfold State.patternStart
  extract_lets v1 v2
  refine Changes.cut (x := v2.2) ?_ (fun h3 => ?_)
  · unfold v2
    refine Changes.andThen ?_ (State.freeBits_changes ..) (by decide) (subset_regs (by decide +kernel))
    exact Changes.refl _ _ _
  clear_value v1
  clear_value v2
  refine Changes.ite ?_ ?_
  · exact Changes.refl _ _ _
  · refine Changes.ite ?_ ?_
    · refine Changes.emit ?_ (by decide +kernel)
      exact Changes.refl _ _ _
    · refine Changes.emit ?_ (by decide +kernel)
      assumption

theorem State.loopFollow_changes (s : State) (n : Nat) :
    Changes [.lnk] [] s (State.loopFollow s n) := by
  unfold State.loopFollow
  extract_lets v1
  clear_value v1
  refine Changes.ite ?_ ?_
  · exact Changes.refl _ _ _
  · refine Changes.andThen ?_ (State.setLn_changes ..) (by decide) (subset_regs (by decide +kernel))
    exact Changes.refl _ _ _

theorem State.patternApply_changes (n : Nat) (s : State) :
    Changes [.outbox, .freeCtr, .lnk, .port, .cap, .mst, .hal, .dma, .ddr, .fst] [.LNK_STATUS, .LNK_PORT_STATUS,
      .LNK_PATTERN, .LNK_CNT_REBUILT, .LNK_CNT_PARITY_MISMATCH, .LNK_CNT_ERASED_ROWS, .CAP_CNT_INCOMPLETE,
      .CAP_CNT_OVERSIZE, .FST_RING_WP_BAND, .MST_STATUS, .MST_SPARE_USE, .MST_SPAR_STATE, .MST_CNT_CANCEL,
      .MST_CNT_INGEST_DROP, .HAL_CNT_QUEUE_DROP] s (State.patternApply n s) := by
  unfold State.patternApply
  extract_lets v1 v2 v3 v4 v5
  refine Changes.cut (x := v3) ?_ (fun h6 => ?_)
  · unfold v3
    refine Changes.andThen ?_ (State.loopFollow_changes ..) (by decide) (subset_regs (by decide +kernel))
    exact Changes.refl _ _ _
  refine Changes.cut (x := v5) ?_ (fun h7 => ?_)
  · unfold v5
    refine Changes.ite ?_ ?_
    · refine Changes.andThen ?_ (State.setLn_changes ..) (by decide) (subset_regs (by decide +kernel))
      refine Changes.setFld ?_ (by decide +kernel)
      assumption
    · assumption
  clear_value v1
  clear_value v2
  clear_value v3
  clear_value v4
  clear_value v5
  refine Changes.ite ?_ ?_
  · refine Changes.andThen ?_ (State.patternStart_changes ..) (by decide) (subset_regs (by decide +kernel))
    refine Changes.ite ?_ ?_
    · assumption
    · refine Changes.andThen ?_ (State.laneOff_changes ..) (by decide) (subset_regs (by decide +kernel))
      assumption
  · refine Changes.ite ?_ ?_
    · refine Changes.andThen ?_ (State.laneStart_changes ..) (by decide) (subset_regs (by decide +kernel))
      assumption
    · assumption

theorem State.lanesPatterns_changes (s : State) :
    Changes [.outbox, .freeCtr, .lnk, .port, .cap, .mst, .hal, .dma, .ddr, .fst] [.LNK_STATUS, .LNK_PORT_STATUS,
      .LNK_PATTERN, .LNK_CNT_REBUILT, .LNK_CNT_PARITY_MISMATCH, .LNK_CNT_ERASED_ROWS, .CAP_CNT_INCOMPLETE,
      .CAP_CNT_OVERSIZE, .FST_RING_WP_BAND, .MST_STATUS, .MST_SPARE_USE, .MST_SPAR_STATE, .MST_CNT_CANCEL,
      .MST_CNT_INGEST_DROP, .HAL_CNT_QUEUE_DROP] s (State.lanesPatterns s) := by
  unfold State.lanesPatterns
  refine Changes.trans ?_ (State.eachOf_changes (fun k1 s2 => ?_) _ _)
  · exact Changes.refl _ _ _
  · refine Changes.andThen ?_ (State.patternApply_changes ..) (by decide) (subset_regs (by decide +kernel))
    exact Changes.refl _ _ _

theorem State.laneDisable_changes (n : Nat) (s : State) :
    Changes [.outbox, .freeCtr, .lnk, .port, .cap, .mst, .hal, .dma, .ddr, .fst] [.LNK_STATUS, .LNK_PORT_STATUS,
      .LNK_CNT_REBUILT, .LNK_CNT_PARITY_MISMATCH, .LNK_CNT_ERASED_ROWS, .CAP_CNT_INCOMPLETE, .CAP_CNT_OVERSIZE,
      .FST_RING_WP_BAND, .MST_STATUS, .MST_SPARE_USE, .MST_SPAR_STATE, .MST_CNT_CANCEL, .MST_CNT_INGEST_DROP,
      .HAL_CNT_QUEUE_DROP] s (State.laneDisable n s) := by
  unfold State.laneDisable
  refine Changes.emit ?_ (by decide +kernel)
  refine Changes.setFld ?_ (by decide +kernel)
  refine Changes.andThen ?_ (State.laneOff_changes ..) (by decide) (subset_regs (by decide +kernel))
  exact Changes.refl _ _ _

theorem State.clearTests_changes (n : Nat) (s : State) :
    Changes [.outbox, .freeCtr, .lnk, .port, .cap, .mst, .hal, .dma, .ddr, .fst] [.LNK_CTRL, .LNK_STATUS,
      .LNK_PORT_STATUS, .LNK_PATTERN, .LNK_INJECT, .LNK_CNT_REBUILT, .LNK_CNT_PARITY_MISMATCH,
      .LNK_CNT_ERASED_ROWS, .CAP_CNT_INCOMPLETE, .CAP_CNT_OVERSIZE, .FST_RING_WP_BAND, .MST_STATUS,
      .MST_SPARE_USE, .MST_SPAR_STATE, .MST_CNT_CANCEL, .MST_CNT_INGEST_DROP, .HAL_CNT_QUEUE_DROP] s
      (State.clearTests n s) := by
  unfold State.clearTests
  extract_lets v1
  refine Changes.cut (x := v1) ?_ (fun h2 => ?_)
  · unfold v1
    refine Changes.setFld ?_ (by decide +kernel)
    refine Changes.setFld ?_ (by decide +kernel)
    exact Changes.refl _ _ _
  clear_value v1
  refine Changes.andThen ?_ (State.patternApply_changes ..) (by decide) (subset_regs (by decide +kernel))
  refine Changes.setFld ?_ (by decide +kernel)
  refine Changes.setFld ?_ (by decide +kernel)
  assumption

theorem State.lanesClearTests_changes (s : State) :
    Changes [.outbox, .freeCtr, .lnk, .port, .cap, .mst, .hal, .dma, .ddr, .fst] [.LNK_CTRL, .LNK_STATUS,
      .LNK_PORT_STATUS, .LNK_PATTERN, .LNK_INJECT, .LNK_CNT_REBUILT, .LNK_CNT_PARITY_MISMATCH,
      .LNK_CNT_ERASED_ROWS, .CAP_CNT_INCOMPLETE, .CAP_CNT_OVERSIZE, .FST_RING_WP_BAND, .MST_STATUS,
      .MST_SPARE_USE, .MST_SPAR_STATE, .MST_CNT_CANCEL, .MST_CNT_INGEST_DROP, .HAL_CNT_QUEUE_DROP] s
      (State.lanesClearTests s) := by
  unfold State.lanesClearTests
  refine Changes.trans ?_ (State.eachOf_changes (fun k1 s2 => ?_) _ _)
  · exact Changes.refl _ _ _
  · refine Changes.andThen ?_ (State.clearTests_changes ..) (by decide) (subset_regs (by decide +kernel))
    exact Changes.refl _ _ _

theorem State.widthErrs_changes (s : State) :
    Changes [] [.LNK_PORT_STATUS] s (State.widthErrs s) := by
  unfold State.widthErrs
  refine Changes.trans ?_ (State.eachOf_changes (fun k1 s2 => ?_) _ _)
  · exact Changes.refl _ _ _
  · refine Changes.setFld ?_ (by decide +kernel)
    exact Changes.refl _ _ _

theorem State.relayout_changes (before : State) (s : State) :
    Changes [.outbox, .lnk, .port, .cap, .mst, .hal, .dma, .ddr, .fst] [.LNK_STATUS, .LNK_PORT_STATUS,
      .CAP_CNT_INCOMPLETE, .CAP_CNT_OVERSIZE, .FST_RING_WP_BAND, .MST_STATUS, .MST_SPARE_USE, .MST_SPAR_STATE,
      .MST_CNT_CANCEL, .MST_CNT_INGEST_DROP, .HAL_CNT_QUEUE_DROP] s (State.relayout before s) := by
  unfold State.relayout
  extract_lets v1 v2 v3 v4
  refine Changes.cut (x := v4) ?_ (fun h5 => ?_)
  · unfold v4
    refine Changes.trans ?_ (State.eachOf_changes (fun k6 s7 => ?_) _ _)
    · exact Changes.refl _ _ _
    · refine Changes.andThen ?_ (State.setPt_changes ..) (by decide) (subset_regs (by decide +kernel))
      refine Changes.wr ?_ (by decide +kernel)
      refine Changes.andThen ?_ (State.closeFrame_changes ..) (by decide) (subset_regs (by decide +kernel))
      exact Changes.refl _ _ _
  clear_value v1
  clear_value v2
  clear_value v3
  clear_value v4
  refine Changes.ite ?_ ?_
  · exact Changes.refl _ _ _
  · refine Changes.andThen ?_ (State.widthErrs_changes ..) (by decide) (subset_regs (by decide +kernel))
    refine Changes.trans ?_ (State.eachOf_changes (fun k8 s9 => ?_) _ _)
    · refine Changes.trans ?_ (State.eachOf_changes (fun k10 s11 => ?_) _ _)
      · assumption
      · refine Changes.andThen ?_ (State.portBegin_changes ..) (by decide) (subset_regs (by decide +kernel))
        exact Changes.refl _ _ _
    · refine Changes.andThen ?_ (State.laneStart_changes ..) (by decide) (subset_regs (by decide +kernel))
      exact Changes.refl _ _ _

theorem State.laneWake_changes (n : Nat) (s : State) :
    Changes [.outbox, .lnk, .port] [] s (State.laneWake n s) := by
  unfold State.laneWake
  extract_lets v1 v2
  clear_value v1
  clear_value v2
  refine Changes.ite ?_ ?_
  · exact Changes.refl _ _ _
  · refine Changes.ite ?_ ?_
    · refine Changes.andThen ?_ (State.setLn_changes ..) (by decide) (subset_regs (by decide +kernel))
      refine Changes.andThen ?_ (State.txStart_changes ..) (by decide) (subset_regs (by decide +kernel))
      exact Changes.refl _ _ _
    · refine Changes.andThen ?_ (State.setLn_changes ..) (by decide) (subset_regs (by decide +kernel))
      exact Changes.refl _ _ _

theorem State.deepExit_changes (s : State) (p : Nat) :
    Changes [.outbox, .lnk, .port] [] s (State.deepExit s p) := by
  unfold State.deepExit
  extract_lets v1 v2
  refine Changes.cut (x := v2) ?_ (fun h3 => ?_)
  · unfold v2
    refine Changes.andThen ?_ (State.setPt_changes ..) (by decide) (subset_regs (by decide +kernel))
    exact Changes.refl _ _ _
  clear_value v1
  clear_value v2
  refine Changes.trans ?_ (State.eachOf_changes (fun k4 s5 => ?_) _ _)
  · refine Changes.ite ?_ ?_
    · assumption
    · refine Changes.andThen ?_ (State.portBegin_changes ..) (by decide) (subset_regs (by decide +kernel))
      assumption
  · refine Changes.andThen ?_ (State.laneWake_changes ..) (by decide) (subset_regs (by decide +kernel))
    exact Changes.refl _ _ _

theorem State.sendPower_changes (s : State) (p : Nat) (code : Nat) :
    Changes [.outbox, .freeCtr, .lnk, .port] [] s (State.sendPower s p code) := by
  unfold State.sendPower
  refine Changes.andThen ?_ (State.sendRow_changes ..) (by decide) (subset_regs (by decide +kernel))
  exact Changes.refl _ _ _

theorem State.deepAsk_changes (s : State) (p : Nat) :
    Changes [.outbox, .freeCtr, .lnk, .port] [.LNK_STATUS] s (State.deepAsk s p) := by
  unfold State.deepAsk
  extract_lets v1
  clear_value v1
  refine Changes.ite ?_ ?_
  · exact Changes.refl _ _ _
  · refine Changes.ite ?_ ?_
    · refine Changes.ite ?_ ?_
      · exact Changes.refl _ _ _
      · refine Changes.andThen ?_ (State.sendPower_changes ..) (by decide) (subset_regs (by decide +kernel))
        refine Changes.andThen ?_ (State.setPt_changes ..) (by decide) (subset_regs (by decide +kernel))
        exact Changes.refl _ _ _
    · refine Changes.trans ?_ (State.eachOf_changes (fun k2 s3 => ?_) _ _)
      · refine Changes.andThen ?_ (State.setPt_changes ..) (by decide) (subset_regs (by decide +kernel))
        exact Changes.refl _ _ _
      · refine Changes.andThen ?_ (State.laneDeep_changes ..) (by decide) (subset_regs (by decide +kernel))
        exact Changes.refl _ _ _

theorem State.lanesEnterIdle_changes (s : State) :
    Changes [.outbox, .freeCtr, .lnk, .port] [.LNK_STATUS] s (State.lanesEnterIdle s) := by
  unfold State.lanesEnterIdle
  refine Changes.trans ?_ (State.eachOf_changes (fun k1 s2 => ?_) _ _)
  · exact Changes.refl _ _ _
  · refine Changes.andThen ?_ (State.deepAsk_changes ..) (by decide) (subset_regs (by decide +kernel))
    exact Changes.refl _ _ _

theorem State.laneLost_changes (s : State) (n : Nat) :
    Changes [.outbox, .freeCtr, .lnk, .port, .cap, .mst, .hal, .dma, .ddr, .fst] [.LNK_STATUS, .LNK_PORT_STATUS,
      .LNK_CNT_LOCK_LOSS, .LNK_CNT_REBUILT, .LNK_CNT_PARITY_MISMATCH, .LNK_CNT_ERASED_ROWS, .CAP_CNT_INCOMPLETE,
      .CAP_CNT_OVERSIZE, .FST_RING_WP_BAND, .MST_STATUS, .MST_SPARE_USE, .MST_SPAR_STATE, .MST_CNT_CANCEL,
      .MST_CNT_INGEST_DROP, .HAL_CNT_QUEUE_DROP] s (State.laneLost s n) := by
  unfold State.laneLost
  extract_lets v1
  refine Changes.cut (x := v1) ?_ (fun h2 => ?_)
  · unfold v1
    refine Changes.bump ?_ (by decide +kernel)
    refine Changes.setFld ?_ (by decide +kernel)
    refine Changes.andThen ?_ (State.laneRestart_changes ..) (by decide) (subset_regs (by decide +kernel))
    exact Changes.refl _ _ _
  clear_value v1
  refine Changes.andThen ?_ (State.portResponse_changes ..) (by decide) (subset_regs (by decide +kernel))
  assumption

theorem State.laneBack_changes (s : State) (n : Nat) (st : Nat) (keep : Bool) :
    Changes [.outbox, .freeCtr, .lnk, .port, .cap, .mst, .hal, .dma, .ddr, .fst] [.LNK_STATUS, .LNK_PORT_STATUS,
      .LNK_CNT_LOCK_LOSS, .LNK_CNT_REBUILT, .LNK_CNT_PARITY_MISMATCH, .LNK_CNT_ERASED_ROWS, .CAP_CNT_INCOMPLETE,
      .CAP_CNT_OVERSIZE, .FST_RING_WP_BAND, .MST_STATUS, .MST_SPARE_USE, .MST_SPAR_STATE, .MST_CNT_CANCEL,
      .MST_CNT_INGEST_DROP, .HAL_CNT_QUEUE_DROP] s (State.laneBack s n st keep) := by
  unfold State.laneBack
  extract_lets v1 v2
  refine Changes.cut (x := v2) ?_ (fun h3 => ?_)
  · unfold v2
    refine Changes.andThen ?_ (State.laneRestart_changes ..) (by decide) (subset_regs (by decide +kernel))
    exact Changes.refl _ _ _
  clear_value v1
  clear_value v2
  refine Changes.ite ?_ ?_
  · refine Changes.andThen ?_ (State.laneLost_changes ..) (by decide) (subset_regs (by decide +kernel))
    exact Changes.refl _ _ _
  · refine Changes.ite ?_ ?_
    · refine Changes.andThen ?_ (State.portResponse_changes ..) (by decide) (subset_regs (by decide +kernel))
      assumption
    · assumption

theorem State.suspect_changes (s : State) (p : Nat) (n : Nat) :
    Changes [.lnk, .port] [.LNK_STATUS] s (State.suspect s p n) := by
  unfold State.suspect
  extract_lets v1 v2 v3 v4
  refine Changes.cut (x := v3) ?_ (fun h5 => ?_)
  · unfold v3
    refine Changes.andThen ?_ (State.setLn_changes ..) (by decide) (subset_regs (by decide +kernel))
    refine Changes.setFld ?_ (by decide +kernel)
    exact Changes.refl _ _ _
  clear_value v1
  clear_value v2
  clear_value v3
  clear_value v4
  refine Changes.andThen ?_ (State.setPt_changes ..) (by decide) (subset_regs (by decide +kernel))
  assumption

theorem State.badHeader_changes (s : State) (n : Nat) :
    Changes [.lnk, .port] [.LNK_STATUS, .LNK_CNT_BAD_HDR] s (State.badHeader s n) := by
  unfold State.badHeader
  extract_lets v1 v2 v3
  refine Changes.cut (x := v2) ?_ (fun h4 => ?_)
  · unfold v2
    refine Changes.bump ?_ (by decide +kernel)
    exact Changes.refl _ _ _
  clear_value v1
  clear_value v2
  clear_value v3
  refine Changes.ite ?_ ?_
  · exact Changes.refl _ _ _
  · refine Changes.ite ?_ ?_
    · refine Changes.andThen ?_ (State.setLn_changes ..) (by decide) (subset_regs (by decide +kernel))
      assumption
    · refine Changes.ite ?_ ?_
      · refine Changes.andThen ?_ (State.suspect_changes ..) (by decide) (subset_regs (by decide +kernel))
        assumption
      · assumption

theorem State.takeBlock_changes (s : State) (n : Nat) (b : LineBlock) (inv : Bool) :
    Changes [.lnk] [.LNK_CNT_EB_OVF] s (State.takeBlock s n b inv).2 := by
  unfold State.takeBlock
  extract_lets v1 v2 v3 v4
  refine Changes.cut (x := v4) ?_ (fun h5 => ?_)
  · unfold v4
    refine Changes.andThen ?_ (State.setLn_changes ..) (by decide) (subset_regs (by decide +kernel))
    exact Changes.refl _ _ _
  clear_value v1
  clear_value v2
  clear_value v3
  clear_value v4
  split
  · rename_i y6
    dsimp only
    refine Changes.bump ?_ (by decide +kernel)
    assumption
  · rename_i y7
    dsimp only
    assumption

theorem State.lineIn_changes (s : State) (n : Nat) (b : LineBlock) :
    Changes [.outbox, .lnk] [] s (State.lineIn s n b).2 := by
  unfold State.lineIn
  extract_lets v1 v2 v3 v4
  clear_value v1
  clear_value v2
  clear_value v3
  clear_value v4
  split
  · rename_i y5 y6
    split
    · rename_i y7 y8 y9 y10
      dsimp only
      refine Changes.andThen ?_ (State.setLn_changes ..) (by decide) (subset_regs (by decide +kernel))
      exact Changes.refl _ _ _
    · rename_i y11 y12
      dsimp only
      exact Changes.refl _ _ _
  · rename_i y13 y14
    dsimp only
    refine Changes.emit ?_ (by decide +kernel)
    refine Changes.andThen ?_ (State.setLn_changes ..) (by decide) (subset_regs (by decide +kernel))
    exact Changes.refl _ _ _
  · rename_i y15 y16 y17
    dsimp only
    exact Changes.refl _ _ _

theorem State.rxBlock_changes (s : State) (n : Nat) (b : LineBlock) :
    Changes [.outbox, .lnk, .port] [.LNK_STATUS, .LNK_CNT_BAD_HDR, .LNK_CNT_EB_OVF] s (State.rxBlock s n b).2 := by
  unfold State.rxBlock
  extract_lets v1 v2
  refine Changes.cut (x := v1.2) ?_ (fun h3 => ?_)
  · unfold v1
    refine Changes.andThen ?_ (State.lineIn_changes ..) (by decide) (subset_regs (by decide +kernel))
    exact Changes.refl _ _ _
  refine Changes.cut (x := v2.2) ?_ (fun h4 => ?_)
  · unfold v2
    refine Changes.andThen ?_ (State.takeBlock_changes ..) (by decide) (subset_regs (by decide +kernel))
    assumption
  clear_value v1
  clear_value v2
  split
  · rename_i y5
    assumption
  · rename_i y6
    dsimp only
    refine Changes.andThen ?_ (State.badHeader_changes ..) (by decide) (subset_regs (by decide +kernel))
    assumption

theorem State.sendTraining_changes (s : State) (n : Nat) (msg : Nat) (seq : Nat) (req : Nat) (preset : Nat) (status :
    Nat) :
    Changes [.outbox, .freeCtr, .lnk, .port] [] s (State.sendTraining s n msg seq req preset status) := by
  unfold State.sendTraining
  extract_lets v1 v2 v3 v4
  clear_value v1
  clear_value v2
  clear_value v3
  clear_value v4
  refine Changes.andThen ?_ (State.sendRow_changes ..) (by decide) (subset_regs (by decide +kernel))
  exact Changes.refl _ _ _

theorem State.berAdd_changes (s : State) (n : Nat) (bits : Nat) (errs : Nat) :
    Changes [.lnk] [.LNK_BER_BITS_LO, .LNK_BER_ERRS] s (State.berAdd s n bits errs) := by
  unfold State.berAdd
  extract_lets v1 v2
  clear_value v1
  clear_value v2
  refine Changes.bumpBy ?_ (by decide +kernel)
  refine Changes.wr ?_ (by decide +kernel)
  refine Changes.andThen ?_ (State.setLn_changes ..) (by decide) (subset_regs (by decide +kernel))
  exact Changes.refl _ _ _

theorem State.checkerIn_changes (s : State) (n : Nat) (bits : List Bool) :
    Changes [.lnk] [.LNK_PATTERN, .LNK_BER_BITS_LO, .LNK_BER_ERRS] s (State.checkerIn s n bits) := by
  unfold State.checkerIn
  extract_lets v1 v2
  clear_value v1
  clear_value v2
  refine Changes.setFld ?_ (by decide +kernel)
  refine Changes.andThen ?_ (State.berAdd_changes ..) (by decide) (subset_regs (by decide +kernel))
  refine Changes.andThen ?_ (State.setLn_changes ..) (by decide) (subset_regs (by decide +kernel))
  exact Changes.refl _ _ _

theorem State.framedCheck_changes (s : State) (n : Nat) (d : BitVec 256) :
    Changes [.lnk] [.LNK_PATTERN, .LNK_BER_BITS_LO, .LNK_BER_ERRS] s (State.framedCheck s n d) := by
  unfold State.framedCheck
  refine Changes.ite ?_ ?_
  · exact Changes.refl _ _ _
  · refine Changes.andThen ?_ (State.checkerIn_changes ..) (by decide) (subset_regs (by decide +kernel))
    exact Changes.refl _ _ _

theorem State.request_changes (s : State) (n : Nat) (req : Nat) (preset : Nat) :
    Changes [.outbox, .freeCtr, .lnk, .port] [] s (State.request s n req preset) := by
  unfold State.request
  extract_lets v1
  clear_value v1
  refine Changes.andThen ?_ (State.sendTraining_changes ..) (by decide) (subset_regs (by decide +kernel))
  refine Changes.andThen ?_ (State.setLn_changes ..) (by decide) (subset_regs (by decide +kernel))
  exact Changes.refl _ _ _

theorem State.sendReady_changes (s : State) (n : Nat) :
    Changes [.outbox, .freeCtr, .lnk, .port] [] s (State.sendReady s n) := by
  unfold State.sendReady
  extract_lets v1
  clear_value v1
  refine Changes.andThen ?_ (State.sendTraining_changes ..) (by decide) (subset_regs (by decide +kernel))
  refine Changes.andThen ?_ (State.setLn_changes ..) (by decide) (subset_regs (by decide +kernel))
  exact Changes.refl _ _ _

theorem State.applyTaps_changes (s : State) (n : Nat) (req : Nat) (preset : Nat) :
    Changes [] [.LNK_TAPS] s (State.applyTaps s n req preset).2 := by
  unfold State.applyTaps
  extract_lets v1 v2 v3 v4 v5 v6 v7
  clear_value v2
  clear_value v3
  clear_value v4
  clear_value v5
  clear_value v6
  clear_value v7
  split
  · rename_i y8
    dsimp only
    unfold v1
    refine Changes.setFld ?_ (by decide +kernel)
    refine Changes.setFld ?_ (by decide +kernel)
    refine Changes.setFld ?_ (by decide +kernel)
    exact Changes.refl _ _ _
  · rename_i y9
    dsimp only
    unfold v1
    refine Changes.setFld ?_ (by decide +kernel)
    refine Changes.setFld ?_ (by decide +kernel)
    refine Changes.setFld ?_ (by decide +kernel)
    exact Changes.refl _ _ _

theorem State.portDeep_changes (s : State) (p : Nat) :
    Changes [.outbox, .lnk, .port, .cap, .mst, .hal, .dma, .ddr, .fst] [.LNK_STATUS, .LNK_PORT_STATUS,
      .LNK_CNT_REBUILT, .LNK_CNT_PARITY_MISMATCH, .LNK_CNT_ERASED_ROWS, .CAP_CNT_INCOMPLETE, .CAP_CNT_OVERSIZE,
      .FST_RING_WP_BAND, .MST_STATUS, .MST_SPARE_USE, .MST_SPAR_STATE, .MST_CNT_CANCEL, .MST_CNT_INGEST_DROP,
      .HAL_CNT_QUEUE_DROP] s (State.portDeep s p) := by
  unfold State.portDeep
  extract_lets v1
  refine Changes.cut (x := v1) ?_ (fun h2 => ?_)
  · unfold v1
    refine Changes.andThen ?_ (State.portClear_changes ..) (by decide) (subset_regs (by decide +kernel))
    exact Changes.refl _ _ _
  clear_value v1
  refine Changes.trans ?_ (State.eachOf_changes (fun k3 s4 => ?_) _ _)
  · assumption
  · refine Changes.andThen ?_ (State.laneDeep_changes ..) (by decide) (subset_regs (by decide +kernel))
    exact Changes.refl _ _ _

theorem State.lanesLeaveIdle_changes (s : State) :
    Changes [.outbox, .lnk, .port] [] s (State.lanesLeaveIdle s) := by
  unfold State.lanesLeaveIdle
  refine Changes.trans ?_ (State.eachOf_changes (fun k1 s2 => ?_) _ _)
  · exact Changes.refl _ _ _
  · refine Changes.ite ?_ ?_
    · exact Changes.refl _ _ _
    · refine Changes.andThen ?_ (State.deepExit_changes ..) (by decide) (subset_regs (by decide +kernel))
      exact Changes.refl _ _ _

theorem State.skewLost_changes (s : State) (p : Nat) (n : Nat) :
    Changes [.outbox, .freeCtr, .lnk, .port, .cap, .mst, .hal, .dma, .ddr, .fst] [.LNK_STATUS, .LNK_PORT_STATUS,
      .LNK_CNT_LOCK_LOSS, .LNK_CNT_REBUILT, .LNK_CNT_PARITY_MISMATCH, .LNK_CNT_ERASED_ROWS, .CAP_CNT_INCOMPLETE,
      .CAP_CNT_OVERSIZE, .FST_RING_WP_BAND, .MST_STATUS, .MST_SPARE_USE, .MST_SPAR_STATE, .MST_CNT_CANCEL,
      .MST_CNT_INGEST_DROP, .HAL_CNT_QUEUE_DROP] s (State.skewLost s p n) := by
  unfold State.skewLost
  refine Changes.andThen ?_ (State.laneLost_changes ..) (by decide) (subset_regs (by decide +kernel))
  refine Changes.setFld ?_ (by decide +kernel)
  exact Changes.refl _ _ _

theorem State.comeUp_changes (s : State) (p : Nat) (decided : Nat) (mask : Nat) (par : Bool) :
    Changes [.outbox, .freeCtr, .lnk, .port, .cap] [.LNK_STATUS, .LNK_PORT_STATUS] s (State.comeUp s p decided
      mask par) := by
  unfold State.comeUp
  extract_lets v1 v2 v3 v4 v5 v6 v7 v8
  refine Changes.cut (x := v3) ?_ (fun h9 => ?_)
  · unfold v3
    refine Changes.trans ?_ (State.eachOf_changes (fun k10 s11 => ?_) _ _)
    · exact Changes.refl _ _ _
    · refine Changes.andThen ?_ (State.setLstate_changes ..) (by decide) (subset_regs (by decide +kernel))
      exact Changes.refl _ _ _
  refine Changes.cut (x := v5) ?_ (fun h12 => ?_)
  · unfold v5
    refine Changes.andThen ?_ (State.setPt_changes ..) (by decide) (subset_regs (by decide +kernel))
    assumption
  refine Changes.cut (x := v7) ?_ (fun h13 => ?_)
  · unfold v7
    refine Changes.andThen ?_ (State.setCp_changes ..) (by decide) (subset_regs (by decide +kernel))
    assumption
  refine Changes.cut (x := v8) ?_ (fun h14 => ?_)
  · unfold v8
    refine Changes.andThen ?_ (State.setUp_changes ..) (by decide) (subset_regs (by decide +kernel))
    assumption
  clear_value v1
  clear_value v2
  clear_value v3
  clear_value v4
  clear_value v5
  clear_value v6
  clear_value v7
  clear_value v8
  refine Changes.ite ?_ ?_
  · refine Changes.andThen ?_ (State.setUp_changes ..) (by decide) (subset_regs (by decide +kernel))
    assumption
  · refine Changes.ite ?_ ?_
    · refine Changes.andThen ?_ (State.setOut_changes ..) (by decide) (subset_regs (by decide +kernel))
      refine Changes.andThen ?_ (State.setUp_changes ..) (by decide) (subset_regs (by decide +kernel))
      assumption
    · refine Changes.ite ?_ ?_
      · assumption
      · refine Changes.andThen ?_ (State.sendRate_changes ..) (by decide) (subset_regs (by decide +kernel))
        assumption

theorem State.tryUp_changes (s : State) (p : Nat) (mask : Nat) (par : Bool) :
    Changes [.outbox, .freeCtr, .lnk, .port, .cap, .mst, .hal, .dma, .ddr, .fst] [.LNK_STATUS, .LNK_PORT_STATUS,
      .LNK_CNT_LOCK_LOSS, .LNK_CNT_REBUILT, .LNK_CNT_PARITY_MISMATCH, .LNK_CNT_ERASED_ROWS, .CAP_CNT_INCOMPLETE,
      .CAP_CNT_OVERSIZE, .FST_RING_WP_BAND, .MST_STATUS, .MST_SPARE_USE, .MST_SPAR_STATE, .MST_CNT_CANCEL,
      .MST_CNT_INGEST_DROP, .HAL_CNT_QUEUE_DROP] s (State.tryUp s p mask par) := by
  unfold State.tryUp
  split
  · rename_i y1 y2
    exact Changes.refl _ _ _
  · rename_i y3 y4 y5
    extract_lets v6 v7 v8 v9 v10
    clear_value v6
    clear_value v7
    split
    · rename_i y11 y12 y13 y14
      refine Changes.ite ?_ ?_
      · exact Changes.refl _ _ _
      · refine Changes.ite ?_ ?_
        · refine Changes.ite ?_ ?_
          · refine Changes.trans ?_ (State.eachOf_changes (fun k15 s16 => ?_) _ _)
            · refine Changes.setFld ?_ (by decide +kernel)
              exact Changes.refl _ _ _
            · refine Changes.ite ?_ ?_
              · refine Changes.andThen ?_ (State.laneLost_changes ..) (by decide) (subset_regs (by decide +kernel))
                exact Changes.refl _ _ _
              · exact Changes.refl _ _ _
          · refine Changes.andThen ?_ (State.comeUp_changes ..) (by decide) (subset_regs (by decide +kernel))
            exact Changes.refl _ _ _
        · exact Changes.refl _ _ _
    · rename_i y17 y18
      exact Changes.refl _ _ _

end Sys2Proof.Machine
end

