-- ==== Sys2Proof/Laws/FrameCapture.lean ====
section
/-!
SUPPORT. What the operations of Machine/Capture.lean may change: one lemma for each.
-/

set_option Elab.async false

namespace Sys2Proof.Machine

theorem State.pinEnd_changes (pin : Nat) (s : State) :
    Changes [.outbox, .capt] [] s (State.pinEnd pin s) := by
  unfold State.pinEnd
  extract_lets v1
  clear_value v1
  refine Changes.ite ?_ ?_
  · refine Changes.emit ?_ (by decide +kernel)
    refine Changes.capt ?_ (by decide +kernel)
    exact Changes.refl _ _ _
  · exact Changes.refl _ _ _

theorem State.dropTriggers_changes (s : State) :
    Changes [.outbox, .freeCtr, .lnk, .port, .cap, .capt] [] s (State.dropTriggers s) := by
  unfold State.dropTriggers
  refine Changes.trans ?_ (State.eachOf_changes (fun k1 s2 => ?_) _ _)
  · refine Changes.trans ?_ (State.eachOf_changes (fun k3 s4 => ?_) _ _)
    · exact Changes.refl _ _ _
    · refine Changes.andThen ?_ (State.pinEnd_changes ..) (by decide) (subset_regs (by decide +kernel))
      exact Changes.refl _ _ _
  · extract_lets v5
    clear_value v5
    refine Changes.ite ?_ ?_
    · refine Changes.andThen ?_ (State.flushSegs_changes ..) (by decide) (subset_regs (by decide +kernel))
      refine Changes.andThen ?_ (State.setCp_changes ..) (by decide) (subset_regs (by decide +kernel))
      exact Changes.refl _ _ _
    · exact Changes.refl _ _ _

theorem State.pinConflict_changes (p : Nat) (s : State) :
    Changes [] [.CAP_PORT_FLAGS] s (State.pinConflict p s) := by
  unfold State.pinConflict
  extract_lets v1
  clear_value v1
  refine Changes.ite ?_ ?_
  · refine Changes.setFld ?_ (by decide +kernel)
    exact Changes.refl _ _ _
  · exact Changes.refl _ _ _

theorem State.pinConflicts_changes (s : State) :
    Changes [] [.CAP_PORT_FLAGS] s (State.pinConflicts s) := by
  unfold State.pinConflicts
  refine Changes.trans ?_ (State.eachOf_changes (fun k1 s2 => ?_) _ _)
  · exact Changes.refl _ _ _
  · refine Changes.andThen ?_ (State.pinConflict_changes ..) (by decide) (subset_regs (by decide +kernel))
    exact Changes.refl _ _ _

theorem State.setCmp_changes (s : State) (n : Nat) (c : Cmp) :
    Changes [.capt] [] s (State.setCmp s n c) := by
  unfold State.setCmp
  refine Changes.capt ?_ (by decide +kernel)
  exact Changes.refl _ _ _

theorem State.cmpShow_changes (n : Nat) (s : State) :
    Changes [.capt] [.CAP_ENC_CMP_NEXT] s (State.cmpShow n s) := by
  unfold State.cmpShow
  extract_lets v1
  clear_value v1
  split
  · rename_i y2 y3 y4
    refine Changes.wr ?_ (by decide +kernel)
    exact Changes.refl _ _ _
  · rename_i y5 y6
    refine Changes.wr ?_ (by decide +kernel)
    refine Changes.andThen ?_ (State.setCmp_changes ..) (by decide) (subset_regs (by decide +kernel))
    exact Changes.refl _ _ _

theorem State.pinFollow_changes (before : State) (pin : Nat) (s : State) :
    Changes [.outbox] [] s (State.pinFollow before pin s) := by
  unfold State.pinFollow
  refine Changes.ite ?_ ?_
  · refine Changes.emit ?_ (by decide +kernel)
    exact Changes.refl _ _ _
  · exact Changes.refl _ _ _

theorem State.restoreRetry_changes (s : State) (p : Nat) :
    Changes [.outbox, .freeCtr, .lnk, .port] [.CAP_CNT_CTRL_RETRY] s (State.restoreRetry s p) := by
  unfold State.restoreRetry
  split
  · rename_i y1 y2 y3
    extract_lets v4
    clear_value v4
    refine Changes.ite ?_ ?_
    · refine Changes.bump ?_ (by decide +kernel)
      refine Changes.andThen ?_ (State.sendRequest_changes ..) (by decide) (subset_regs (by decide +kernel))
      refine Changes.andThen ?_ (State.setPt_changes ..) (by decide) (subset_regs (by decide +kernel))
      exact Changes.refl _ _ _
    · refine Changes.andThen ?_ (State.setPt_changes ..) (by decide) (subset_regs (by decide +kernel))
      exact Changes.refl _ _ _
  · rename_i y5 y6
    exact Changes.refl _ _ _

theorem State.camStat_changes (p : Nat) (a1 : List (Nat × Nat)) (a2 : State) :
    Changes [] [.CAP_CAM_STAT] a2 (State.camStat p a1 a2) := by
  fun_induction State.camStat p a1 a2
  · rename_i y1
    exact Changes.refl _ _ _
  · rename_i y2 y3 y4 y5 y6
    refine Changes.trans ?_ y6
    refine Changes.wr ?_ (by decide +kernel)
    exact Changes.refl _ _ _

theorem State.popPacket_changes (s : State) (p : Nat) (len : Nat) :
    Changes [.port] [] s (State.popPacket s p len).2 := by
  unfold State.popPacket
  extract_lets v1 v2
  clear_value v1
  clear_value v2
  dsimp only
  refine Changes.andThen ?_ (State.setPt_changes ..) (by decide) (subset_regs (by decide +kernel))
  exact Changes.refl _ _ _

theorem State.takePacket_changes (s : State) (p : Nat) (pkt : Packet) :
    Changes [.port] [.CAP_CNT_BAD_PCRC] s (State.takePacket s p pkt).2 := by
  unfold State.takePacket
  extract_lets v1 v2 v3 v4
  refine Changes.cut (x := v1.2) ?_ (fun h5 => ?_)
  · unfold v1
    refine Changes.andThen ?_ (State.popPacket_changes ..) (by decide) (subset_regs (by decide +kernel))
    exact Changes.refl _ _ _
  clear_value v1
  clear_value v3
  clear_value v4
  dsimp only
  refine Changes.ite ?_ ?_
  · assumption
  · refine Changes.bump ?_ (by decide +kernel)
    assumption

theorem State.failHeader_changes (s : State) (p : Nat) :
    Changes [.port] [.CAP_CNT_BAD_HCRC] s (State.failHeader s p) := by
  unfold State.failHeader
  extract_lets v1
  clear_value v1
  refine Changes.bump ?_ (by decide +kernel)
  refine Changes.andThen ?_ (State.setPt_changes ..) (by decide) (subset_regs (by decide +kernel))
  exact Changes.refl _ _ _

theorem State.trigPin_changes (s : State) (p : Nat) (kind : Nat) (t : Nat) :
    Changes [.outbox, .freeCtr, .cap, .capt] [.CAP_PORT_FLAGS] s (State.trigPin s p kind t) := by
  unfold State.trigPin
  extract_lets v1 v2 v3 v4 v5 v6 v7 v8 v9 v10
  refine Changes.cut (x := v2) ?_ (fun h11 => ?_)
  · unfold v2
    refine Changes.andThen ?_ (State.pinConflict_changes ..) (by decide) (subset_regs (by decide +kernel))
    exact Changes.refl _ _ _
  refine Changes.cut (x := v3.2) ?_ (fun h12 => ?_)
  · unfold v3
    refine Changes.andThen ?_ (State.freeBits_changes ..) (by decide) (subset_regs (by decide +kernel))
    assumption
  refine Changes.cut (x := v4.2) ?_ (fun h13 => ?_)
  · unfold v4
    split
    · rename_i y14
      dsimp only
      assumption
    · rename_i y15
      dsimp only
      assumption
  refine Changes.cut (x := v7) ?_ (fun h16 => ?_)
  · unfold v7
    assumption
  refine Changes.cut (x := v9) ?_ (fun h17 => ?_)
  · unfold v9
    refine Changes.capt ?_ (by decide +kernel)
    assumption
  clear_value v1
  clear_value v2
  clear_value v3
  clear_value v4
  clear_value v5
  clear_value v6
  clear_value v7
  clear_value v8
  clear_value v9
  clear_value v10
  refine Changes.ite ?_ ?_
  · assumption
  · refine Changes.emit ?_ (by decide +kernel)
    refine Changes.andThen ?_ (State.setCp_changes ..) (by decide) (subset_regs (by decide +kernel))
    assumption

theorem State.trigCause_changes (kind : Nat) (t : Nat) (late : Bool) (p : Nat) (s : State) :
    Changes [.outbox, .freeCtr, .cap, .capt, .lum] [.CAP_PORT_FLAGS, .CAP_CNT_TRIG_MERGED, .CAP_CNT_TRIG_HOLDOFF,
      .CAP_CNT_TRIG_DROP, .LUM_CH_STATUS, .LUM_CNT_OVERLAP, .LUM_CNT_DIAG_ABORT] s (State.trigCause kind t late p
      s) := by
  unfold State.trigCause
  extract_lets v1 v2 v3 v4 v5 v6
  refine Changes.cut (x := v1) ?_ (fun h7 => ?_)
  · unfold v1
    refine Changes.andThen ?_ (State.strobePort_changes ..) (by decide) (subset_regs (by decide +kernel))
    exact Changes.refl _ _ _
  refine Changes.cut (x := v6) ?_ (fun h8 => ?_)
  · unfold v6
    refine Changes.ite ?_ ?_
    · assumption
    · refine Changes.ite ?_ ?_
      · refine Changes.bump ?_ (by decide +kernel)
        assumption
      · refine Changes.andThen ?_ (State.setCp_changes ..) (by decide) (subset_regs (by decide +kernel))
        assumption
  clear_value v1
  clear_value v2
  clear_value v3
  clear_value v4
  clear_value v5
  clear_value v6
  refine Changes.ite ?_ ?_
  · exact Changes.refl _ _ _
  · refine Changes.ite ?_ ?_
    · refine Changes.bump ?_ (by decide +kernel)
      assumption
    · refine Changes.ite ?_ ?_
      · refine Changes.bump ?_ (by decide +kernel)
        assumption
      · refine Changes.ite ?_ ?_
        · refine Changes.andThen ?_ (State.trigPin_changes ..) (by decide) (subset_regs (by decide +kernel))
          assumption
        · assumption

theorem State.trigSource_changes (s : State) (src : Nat) (idx : Nat) (t : Nat) (late : Bool) :
    Changes [.outbox, .freeCtr, .cap, .capt, .lum] [.CAP_PORT_FLAGS, .CAP_CNT_TRIG_MERGED, .CAP_CNT_TRIG_HOLDOFF,
      .CAP_CNT_TRIG_DROP, .LUM_CH_STATUS, .LUM_CNT_OVERLAP, .LUM_CNT_DIAG_ABORT] s (State.trigSource s src idx t
      late) := by
  unfold State.trigSource
  refine Changes.trans ?_ (State.eachOf_changes (fun k1 s2 => ?_) _ _)
  · exact Changes.refl _ _ _
  · refine Changes.andThen ?_ (State.trigCause_changes ..) (by decide) (subset_regs (by decide +kernel))
    exact Changes.refl _ _ _

theorem State.memBytes_changes (s : State) (a : Nat) (a2 : List Byte) :
    Changes [.bar0] [] s (State.memBytes s a a2) := by
  fun_induction State.memBytes s a a2
  · rename_i y1 y2
    exact Changes.refl _ _ _
  · rename_i y3 y4 y5 y6 y7
    refine Changes.trans ?_ y7
    refine Changes.memWr ?_ (by decide +kernel)
    exact Changes.refl _ _ _

theorem State.cmpArm_changes (s : State) (n : Nat) :
    Changes [.capt] [.CAP_ENC_CMP_NEXT] s (State.cmpArm s n) := by
  unfold State.cmpArm
  refine Changes.andThen ?_ (State.cmpShow_changes ..) (by decide) (subset_regs (by decide +kernel))
  refine Changes.andThen ?_ (State.setCmp_changes ..) (by decide) (subset_regs (by decide +kernel))
  exact Changes.refl _ _ _

theorem State.cmpMove_changes (s : State) (n : Nat) (t : Nat) (up : Bool) :
    Changes [.outbox, .freeCtr, .cap, .capt, .lum, .hal] [.CAP_PORT_FLAGS, .CAP_CNT_TRIG_MERGED,
      .CAP_CNT_TRIG_HOLDOFF, .CAP_CNT_TRIG_DROP, .CAP_ENC_CMP_NEXT, .LUM_CH_STATUS, .LUM_CNT_OVERLAP,
      .LUM_CNT_DIAG_ABORT, .HAL_CNT_QUEUE_DROP] s (State.cmpMove s n t up) := by
  unfold State.cmpMove
  extract_lets v1 v2 v3 v4
  clear_value v1
  clear_value v2
  clear_value v3
  clear_value v4
  split
  · rename_i y5 y6 y7
    extract_lets v8
    refine Changes.cut (x := v8) ?_ (fun h9 => ?_)
    · unfold v8
      refine Changes.andThen ?_ (State.cmpShow_changes ..) (by decide) (subset_regs (by decide +kernel))
      refine Changes.andThen ?_ (State.setCmp_changes ..) (by decide) (subset_regs (by decide +kernel))
      exact Changes.refl _ _ _
    clear_value v8
    refine Changes.ite ?_ ?_
    · refine Changes.andThen ?_ (State.trigSource_changes ..) (by decide) (subset_regs (by decide +kernel))
      refine Changes.andThen ?_ (State.publish_changes ..) (by decide) (subset_regs (by decide +kernel))
      assumption
    · exact Changes.refl _ _ _
  · rename_i y10 y11
    exact Changes.refl _ _ _

theorem State.ctlStart_changes (p : Nat) (s : State) :
    Changes [.outbox, .freeCtr, .lnk, .port, .cap] [] s (State.ctlStart p s) := by
  unfold State.ctlStart
  extract_lets v1 v2 v3
  clear_value v1
  clear_value v2
  clear_value v3
  split
  · rename_i y4 y5
    exact Changes.refl _ _ _
  · rename_i y6 y7 y8 y9
    refine Changes.ite ?_ ?_
    · refine Changes.andThen ?_ (State.sendRequest_changes ..) (by decide) (subset_regs (by decide +kernel))
      refine Changes.andThen ?_ (State.setCp_changes ..) (by decide) (subset_regs (by decide +kernel))
      exact Changes.refl _ _ _
    · exact Changes.refl _ _ _

theorem State.setBusy_changes (s : State) (box : Nat) (b : Bool) :
    Changes [] [.CAP_CTRL_CMD, .CAP_CTRL_STATUS] s (State.setBusy s box b) := by
  unfold State.setBusy
  refine Changes.setFld ?_ (by decide +kernel)
  refine Changes.setFld ?_ (by decide +kernel)
  exact Changes.refl _ _ _

theorem State.ctrlGo_changes (s : State) (who : Requester) (box : Nat) :
    Changes [.outbox, .freeCtr, .lnk, .port, .cap, .pceCfg, .pce] [.CAP_CTRL_CMD, .CAP_CTRL_STATUS, .PCE_STATUS,
      .PCE_CNT_PRIV_REFUSED, .PCE_CNT_MSIX_DROP] s (State.ctrlGo s who box) := by
  unfold State.ctrlGo
  extract_lets v1 v2 v3 v4 v5
  refine Changes.cut (x := v4) ?_ (fun h6 => ?_)
  · unfold v4
    refine Changes.andThen ?_ (State.setBusy_changes ..) (by decide) (subset_regs (by decide +kernel))
    exact Changes.refl _ _ _
  clear_value v1
  clear_value v2
  clear_value v3
  clear_value v4
  clear_value v5
  refine Changes.ite ?_ ?_
  · exact Changes.refl _ _ _
  · unfold State.gated
    unfold State.flrGate
    extract_lets v7
    refine Changes.cut (x := v7.2) ?_ (fun h8 => ?_)
    · unfold v7
      refine Changes.andThen ?_ (State.freeBits_changes ..) (by decide) (subset_regs (by decide +kernel))
      exact Changes.refl _ _ _
    clear_value v7
    refine Changes.ite ?_ ?_
    · refine Changes.andThen ?_ (State.unsupportedReq_changes ..) (by decide) (subset_regs (by decide +kernel))
      assumption
    · refine Changes.ite ?_ ?_
      · refine Changes.ite ?_ ?_
        · refine Changes.setFld ?_ (by decide +kernel)
          exact Changes.refl _ _ _
        · refine Changes.andThen ?_ (State.ctlStart_changes ..) (by decide) (subset_regs (by decide +kernel))
          refine Changes.andThen ?_ (State.setCp_changes ..) (by decide) (subset_regs (by decide +kernel))
          assumption
      · refine Changes.ite ?_ ?_
        · refine Changes.bump ?_ (by decide +kernel)
          exact Changes.refl _ _ _
        · exact Changes.refl _ _ _

theorem State.ctlRetry_changes (s : State) (p : Nat) :
    Changes [.outbox, .freeCtr, .lnk, .port, .cap] [.CAP_CTRL_CMD, .CAP_CTRL_STATUS, .CAP_CNT_CTRL_RETRY] s
      (State.ctlRetry s p) := by
  unfold State.ctlRetry
  split
  · rename_i y1 y2 y3 y4
    extract_lets v5
    clear_value v5
    refine Changes.ite ?_ ?_
    · refine Changes.bump ?_ (by decide +kernel)
      refine Changes.andThen ?_ (State.sendRequest_changes ..) (by decide) (subset_regs (by decide +kernel))
      refine Changes.andThen ?_ (State.setCp_changes ..) (by decide) (subset_regs (by decide +kernel))
      exact Changes.refl _ _ _
    · refine Changes.andThen ?_ (State.ctlStart_changes ..) (by decide) (subset_regs (by decide +kernel))
      refine Changes.setFld ?_ (by decide +kernel)
      refine Changes.andThen ?_ (State.setBusy_changes ..) (by decide) (subset_regs (by decide +kernel))
      refine Changes.andThen ?_ (State.setCp_changes ..) (by decide) (subset_regs (by decide +kernel))
      exact Changes.refl _ _ _
  · rename_i y6 y7
    exact Changes.refl _ _ _

theorem State.ctlStartAll_changes (s : State) :
    Changes [.outbox, .freeCtr, .lnk, .port, .cap] [] s (State.ctlStartAll s) := by
  unfold State.ctlStartAll
  refine Changes.trans ?_ (State.eachOf_changes (fun k1 s2 => ?_) _ _)
  · exact Changes.refl _ _ _
  · refine Changes.andThen ?_ (State.ctlStart_changes ..) (by decide) (subset_regs (by decide +kernel))
    exact Changes.refl _ _ _

end Sys2Proof.Machine
end

