-- ==== Sys2Proof/Laws/Units.lean ====
section
/-!
SUPPORT. The unit structures: what a unit reads after it has been set, and that registers and other units are not affected.
-/

namespace Sys2Proof.Machine

@[simp] theorem State.ln_setLn (s : State) (n : Nat) (x : Lane) : (s.setLn n x).ln n = x := by
  simp [State.ln, State.setLn]
theorem State.ln_setLn_ne (s : State) (n : Nat) (x : Lane) {m : Nat} (h : m ≠ n) : (s.setLn n x).ln m = s.ln m := by
  simp [State.ln, State.setLn, tblGet_set, h]
@[simp] theorem State.rd_setLn (s : State) (n : Nat) (x : Lane) (r : Reg) (i j : Nat) : (s.setLn n x).rd r i j = s.rd r i j := rfl
@[simp] theorem State.fld_setLn (s : State) (n : Nat) (x : Lane) (f : Fld) (i j : Nat) : (s.setLn n x).fld f i j = s.fld f i j := rfl
@[simp] theorem State.fine_setLn (s : State) (n : Nat) (x : Lane) : (s.setLn n x).fine = s.fine := rfl
@[simp] theorem State.outbox_setLn (s : State) (n : Nat) (x : Lane) : (s.setLn n x).outbox = s.outbox := rfl
@[simp] theorem State.ln_wr (s : State) (r : Reg) (v : Word) (i j : Nat) (n : Nat) : (s.wr r v i j).ln n = s.ln n := rfl
@[simp] theorem State.ln_setFld (s : State) (f : Fld) (v i j : Nat) (n : Nat) : (s.setFld f v i j).ln n = s.ln n := rfl
@[simp] theorem State.ln_bumpBy (s : State) (r : Reg) (k i j : Nat) (n : Nat) : (s.bumpBy r k i j).ln n = s.ln n := rfl
@[simp] theorem State.ln_bump (s : State) (r : Reg) (i j : Nat) (n : Nat) : (s.bump r i j).ln n = s.ln n := rfl
@[simp] theorem State.ln_emit (s : State) (o : Out) (n : Nat) : (s.emit o).ln n = s.ln n := rfl
@[simp] theorem State.ln_advance (s : State) (dt : Nat) (n : Nat) : (s.advance dt).ln n = s.ln n := rfl
@[simp] theorem State.ln_setPt (s : State) (n : Nat) (x : Port) (m : Nat) : (s.setPt n x).ln m = s.ln m := rfl
@[simp] theorem State.ln_setCp (s : State) (n : Nat) (x : CapPort) (m : Nat) : (s.setCp n x).ln m = s.ln m := rfl
@[simp] theorem State.ln_setCmp (s : State) (n : Nat) (x : Cmp) (m : Nat) : (s.setCmp n x).ln m = s.ln m := rfl
@[simp] theorem State.ln_setDm (s : State) (n : Nat) (x : Dma) (m : Nat) : (s.setDm n x).ln m = s.ln m := rfl
@[simp] theorem State.ln_setEn (s : State) (n : Nat) (x : Enc) (m : Nat) : (s.setEn n x).ln m = s.ln m := rfl
@[simp] theorem State.ln_setSi (s : State) (n : Nat) (x : Ssi) (m : Nat) : (s.setSi n x).ln m = s.ln m := rfl
@[simp] theorem State.ln_setMsix (s : State) (n : Nat) (x : MsixEntry) (m : Nat) : (s.setMsix n x).ln m = s.ln m := rfl
@[simp] theorem State.ln_setHseq (s : State) (n : Nat) (x : HSeq) (m : Nat) : (s.setHseq n x).ln m = s.ln m := rfl
@[simp] theorem State.ln_setLm (s : State) (n : Nat) (x : Lum) (m : Nat) : (s.setLm n x).ln m = s.ln m := rfl
@[simp] theorem State.ln_setMs (s : State) (n : Nat) (x : Mast) (m : Nat) : (s.setMs n x).ln m = s.ln m := rfl
@[simp] theorem State.ln_setSlot (s : State) (n : Nat) (x : Slot) (m : Nat) : (s.setSlot n x).ln m = s.ln m := rfl
@[simp] theorem State.ln_setSh (s : State) (n : Nat) (x : Sht) (m : Nat) : (s.setSh n x).ln m = s.ln m := rfl
@[simp] theorem State.ln_setSc (s : State) (n : Nat) (x : Scn) (m : Nat) : (s.setSc n x).ln m = s.ln m := rfl
@[simp] theorem State.ln_setBc (s : State) (n : Nat) (x : Bch) (m : Nat) : (s.setBc n x).ln m = s.ln m := rfl
@[simp] theorem State.ln_setRg (s : State) (n : Nat) (x : Ring) (m : Nat) : (s.setRg n x).ln m = s.ln m := rfl
@[simp] theorem State.ln_setPtpDom (s : State) (n : Nat) (x : PtpDom) (m : Nat) : (s.setPtpDom n x).ln m = s.ln m := rfl
@[simp] theorem State.ln_setSched (s : State) (n : Nat) (x : Sched) (m : Nat) : (s.setSched n x).ln m = s.ln m := rfl
@[simp] theorem State.ln_setRing (s : State) (n : Nat) (x : RingPort) (m : Nat) : (s.setRing n x).ln m = s.ln m := rfl

@[simp] theorem State.pt_setPt (s : State) (n : Nat) (x : Port) : (s.setPt n x).pt n = x := by
  simp [State.pt, State.setPt]
theorem State.pt_setPt_ne (s : State) (n : Nat) (x : Port) {m : Nat} (h : m ≠ n) : (s.setPt n x).pt m = s.pt m := by
  simp [State.pt, State.setPt, tblGet_set, h]
@[simp] theorem State.rd_setPt (s : State) (n : Nat) (x : Port) (r : Reg) (i j : Nat) : (s.setPt n x).rd r i j = s.rd r i j := rfl
@[simp] theorem State.fld_setPt (s : State) (n : Nat) (x : Port) (f : Fld) (i j : Nat) : (s.setPt n x).fld f i j = s.fld f i j := rfl
@[simp] theorem State.fine_setPt (s : State) (n : Nat) (x : Port) : (s.setPt n x).fine = s.fine := rfl
@[simp] theorem State.outbox_setPt (s : State) (n : Nat) (x : Port) : (s.setPt n x).outbox = s.outbox := rfl
@[simp] theorem State.pt_wr (s : State) (r : Reg) (v : Word) (i j : Nat) (n : Nat) : (s.wr r v i j).pt n = s.pt n := rfl
@[simp] theorem State.pt_setFld (s : State) (f : Fld) (v i j : Nat) (n : Nat) : (s.setFld f v i j).pt n = s.pt n := rfl
@[simp] theorem State.pt_bumpBy (s : State) (r : Reg) (k i j : Nat) (n : Nat) : (s.bumpBy r k i j).pt n = s.pt n := rfl
@[simp] theorem State.pt_bump (s : State) (r : Reg) (i j : Nat) (n : Nat) : (s.bump r i j).pt n = s.pt n := rfl
@[simp] theorem State.pt_emit (s : State) (o : Out) (n : Nat) : (s.emit o).pt n = s.pt n := rfl
@[simp] theorem State.pt_advance (s : State) (dt : Nat) (n : Nat) : (s.advance dt).pt n = s.pt n := rfl
@[simp] theorem State.pt_setLn (s : State) (n : Nat) (x : Lane) (m : Nat) : (s.setLn n x).pt m = s.pt m := rfl
@[simp] theorem State.pt_setCp (s : State) (n : Nat) (x : CapPort) (m : Nat) : (s.setCp n x).pt m = s.pt m := rfl
@[simp] theorem State.pt_setCmp (s : State) (n : Nat) (x : Cmp) (m : Nat) : (s.setCmp n x).pt m = s.pt m := rfl
@[simp] theorem State.pt_setDm (s : State) (n : Nat) (x : Dma) (m : Nat) : (s.setDm n x).pt m = s.pt m := rfl
@[simp] theorem State.pt_setEn (s : State) (n : Nat) (x : Enc) (m : Nat) : (s.setEn n x).pt m = s.pt m := rfl
@[simp] theorem State.pt_setSi (s : State) (n : Nat) (x : Ssi) (m : Nat) : (s.setSi n x).pt m = s.pt m := rfl
@[simp] theorem State.pt_setMsix (s : State) (n : Nat) (x : MsixEntry) (m : Nat) : (s.setMsix n x).pt m = s.pt m := rfl
@[simp] theorem State.pt_setHseq (s : State) (n : Nat) (x : HSeq) (m : Nat) : (s.setHseq n x).pt m = s.pt m := rfl
@[simp] theorem State.pt_setLm (s : State) (n : Nat) (x : Lum) (m : Nat) : (s.setLm n x).pt m = s.pt m := rfl
@[simp] theorem State.pt_setMs (s : State) (n : Nat) (x : Mast) (m : Nat) : (s.setMs n x).pt m = s.pt m := rfl
@[simp] theorem State.pt_setSlot (s : State) (n : Nat) (x : Slot) (m : Nat) : (s.setSlot n x).pt m = s.pt m := rfl
@[simp] theorem State.pt_setSh (s : State) (n : Nat) (x : Sht) (m : Nat) : (s.setSh n x).pt m = s.pt m := rfl
@[simp] theorem State.pt_setSc (s : State) (n : Nat) (x : Scn) (m : Nat) : (s.setSc n x).pt m = s.pt m := rfl
@[simp] theorem State.pt_setBc (s : State) (n : Nat) (x : Bch) (m : Nat) : (s.setBc n x).pt m = s.pt m := rfl
@[simp] theorem State.pt_setRg (s : State) (n : Nat) (x : Ring) (m : Nat) : (s.setRg n x).pt m = s.pt m := rfl
@[simp] theorem State.pt_setPtpDom (s : State) (n : Nat) (x : PtpDom) (m : Nat) : (s.setPtpDom n x).pt m = s.pt m := rfl
@[simp] theorem State.pt_setSched (s : State) (n : Nat) (x : Sched) (m : Nat) : (s.setSched n x).pt m = s.pt m := rfl
@[simp] theorem State.pt_setRing (s : State) (n : Nat) (x : RingPort) (m : Nat) : (s.setRing n x).pt m = s.pt m := rfl

@[simp] theorem State.cp_setCp (s : State) (n : Nat) (x : CapPort) : (s.setCp n x).cp n = x := by
  simp [State.cp, State.setCp]
theorem State.cp_setCp_ne (s : State) (n : Nat) (x : CapPort) {m : Nat} (h : m ≠ n) : (s.setCp n x).cp m = s.cp m := by
  simp [State.cp, State.setCp, tblGet_set, h]
@[simp] theorem State.rd_setCp (s : State) (n : Nat) (x : CapPort) (r : Reg) (i j : Nat) : (s.setCp n x).rd r i j = s.rd r i j := rfl
@[simp] theorem State.fld_setCp (s : State) (n : Nat) (x : CapPort) (f : Fld) (i j : Nat) : (s.setCp n x).fld f i j = s.fld f i j := rfl
@[simp] theorem State.fine_setCp (s : State) (n : Nat) (x : CapPort) : (s.setCp n x).fine = s.fine := rfl
@[simp] theorem State.outbox_setCp (s : State) (n : Nat) (x : CapPort) : (s.setCp n x).outbox = s.outbox := rfl
@[simp] theorem State.cp_wr (s : State) (r : Reg) (v : Word) (i j : Nat) (n : Nat) : (s.wr r v i j).cp n = s.cp n := rfl
@[simp] theorem State.cp_setFld (s : State) (f : Fld) (v i j : Nat) (n : Nat) : (s.setFld f v i j).cp n = s.cp n := rfl
@[simp] theorem State.cp_bumpBy (s : State) (r : Reg) (k i j : Nat) (n : Nat) : (s.bumpBy r k i j).cp n = s.cp n := rfl
@[simp] theorem State.cp_bump (s : State) (r : Reg) (i j : Nat) (n : Nat) : (s.bump r i j).cp n = s.cp n := rfl
@[simp] theorem State.cp_emit (s : State) (o : Out) (n : Nat) : (s.emit o).cp n = s.cp n := rfl
@[simp] theorem State.cp_advance (s : State) (dt : Nat) (n : Nat) : (s.advance dt).cp n = s.cp n := rfl
@[simp] theorem State.cp_setLn (s : State) (n : Nat) (x : Lane) (m : Nat) : (s.setLn n x).cp m = s.cp m := rfl
@[simp] theorem State.cp_setPt (s : State) (n : Nat) (x : Port) (m : Nat) : (s.setPt n x).cp m = s.cp m := rfl
@[simp] theorem State.cp_setCmp (s : State) (n : Nat) (x : Cmp) (m : Nat) : (s.setCmp n x).cp m = s.cp m := rfl
@[simp] theorem State.cp_setDm (s : State) (n : Nat) (x : Dma) (m : Nat) : (s.setDm n x).cp m = s.cp m := rfl
@[simp] theorem State.cp_setEn (s : State) (n : Nat) (x : Enc) (m : Nat) : (s.setEn n x).cp m = s.cp m := rfl
@[simp] theorem State.cp_setSi (s : State) (n : Nat) (x : Ssi) (m : Nat) : (s.setSi n x).cp m = s.cp m := rfl
@[simp] theorem State.cp_setMsix (s : State) (n : Nat) (x : MsixEntry) (m : Nat) : (s.setMsix n x).cp m = s.cp m := rfl
@[simp] theorem State.cp_setHseq (s : State) (n : Nat) (x : HSeq) (m : Nat) : (s.setHseq n x).cp m = s.cp m := rfl
@[simp] theorem State.cp_setLm (s : State) (n : Nat) (x : Lum) (m : Nat) : (s.setLm n x).cp m = s.cp m := rfl
@[simp] theorem State.cp_setMs (s : State) (n : Nat) (x : Mast) (m : Nat) : (s.setMs n x).cp m = s.cp m := rfl
@[simp] theorem State.cp_setSlot (s : State) (n : Nat) (x : Slot) (m : Nat) : (s.setSlot n x).cp m = s.cp m := rfl
@[simp] theorem State.cp_setSh (s : State) (n : Nat) (x : Sht) (m : Nat) : (s.setSh n x).cp m = s.cp m := rfl
@[simp] theorem State.cp_setSc (s : State) (n : Nat) (x : Scn) (m : Nat) : (s.setSc n x).cp m = s.cp m := rfl
@[simp] theorem State.cp_setBc (s : State) (n : Nat) (x : Bch) (m : Nat) : (s.setBc n x).cp m = s.cp m := rfl
@[simp] theorem State.cp_setRg (s : State) (n : Nat) (x : Ring) (m : Nat) : (s.setRg n x).cp m = s.cp m := rfl
@[simp] theorem State.cp_setPtpDom (s : State) (n : Nat) (x : PtpDom) (m : Nat) : (s.setPtpDom n x).cp m = s.cp m := rfl
@[simp] theorem State.cp_setSched (s : State) (n : Nat) (x : Sched) (m : Nat) : (s.setSched n x).cp m = s.cp m := rfl
@[simp] theorem State.cp_setRing (s : State) (n : Nat) (x : RingPort) (m : Nat) : (s.setRing n x).cp m = s.cp m := rfl

@[simp] theorem State.cmpUnit_setCmp (s : State) (n : Nat) (x : Cmp) : (s.setCmp n x).cmpUnit n = x := by
  simp [State.cmpUnit, State.setCmp]
theorem State.cmpUnit_setCmp_ne (s : State) (n : Nat) (x : Cmp) {m : Nat} (h : m ≠ n) : (s.setCmp n x).cmpUnit m = s.cmpUnit m := by
  simp [State.cmpUnit, State.setCmp, tblGet_set, h]
@[simp] theorem State.rd_setCmp (s : State) (n : Nat) (x : Cmp) (r : Reg) (i j : Nat) : (s.setCmp n x).rd r i j = s.rd r i j := rfl
@[simp] theorem State.fld_setCmp (s : State) (n : Nat) (x : Cmp) (f : Fld) (i j : Nat) : (s.setCmp n x).fld f i j = s.fld f i j := rfl
@[simp] theorem State.fine_setCmp (s : State) (n : Nat) (x : Cmp) : (s.setCmp n x).fine = s.fine := rfl
@[simp] theorem State.outbox_setCmp (s : State) (n : Nat) (x : Cmp) : (s.setCmp n x).outbox = s.outbox := rfl
@[simp] theorem State.cmpUnit_wr (s : State) (r : Reg) (v : Word) (i j : Nat) (n : Nat) : (s.wr r v i j).cmpUnit n = s.cmpUnit n := rfl
@[simp] theorem State.cmpUnit_setFld (s : State) (f : Fld) (v i j : Nat) (n : Nat) : (s.setFld f v i j).cmpUnit n = s.cmpUnit n := rfl
@[simp] theorem State.cmpUnit_bumpBy (s : State) (r : Reg) (k i j : Nat) (n : Nat) : (s.bumpBy r k i j).cmpUnit n = s.cmpUnit n := rfl
@[simp] theorem State.cmpUnit_bump (s : State) (r : Reg) (i j : Nat) (n : Nat) : (s.bump r i j).cmpUnit n = s.cmpUnit n := rfl
@[simp] theorem State.cmpUnit_emit (s : State) (o : Out) (n : Nat) : (s.emit o).cmpUnit n = s.cmpUnit n := rfl
@[simp] theorem State.cmpUnit_advance (s : State) (dt : Nat) (n : Nat) : (s.advance dt).cmpUnit n = s.cmpUnit n := rfl
@[simp] theorem State.cmpUnit_setLn (s : State) (n : Nat) (x : Lane) (m : Nat) : (s.setLn n x).cmpUnit m = s.cmpUnit m := rfl
@[simp] theorem State.cmpUnit_setPt (s : State) (n : Nat) (x : Port) (m : Nat) : (s.setPt n x).cmpUnit m = s.cmpUnit m := rfl
@[simp] theorem State.cmpUnit_setCp (s : State) (n : Nat) (x : CapPort) (m : Nat) : (s.setCp n x).cmpUnit m = s.cmpUnit m := rfl
@[simp] theorem State.cmpUnit_setDm (s : State) (n : Nat) (x : Dma) (m : Nat) : (s.setDm n x).cmpUnit m = s.cmpUnit m := rfl
@[simp] theorem State.cmpUnit_setEn (s : State) (n : Nat) (x : Enc) (m : Nat) : (s.setEn n x).cmpUnit m = s.cmpUnit m := rfl
@[simp] theorem State.cmpUnit_setSi (s : State) (n : Nat) (x : Ssi) (m : Nat) : (s.setSi n x).cmpUnit m = s.cmpUnit m := rfl
@[simp] theorem State.cmpUnit_setMsix (s : State) (n : Nat) (x : MsixEntry) (m : Nat) : (s.setMsix n x).cmpUnit m = s.cmpUnit m := rfl
@[simp] theorem State.cmpUnit_setHseq (s : State) (n : Nat) (x : HSeq) (m : Nat) : (s.setHseq n x).cmpUnit m = s.cmpUnit m := rfl
@[simp] theorem State.cmpUnit_setLm (s : State) (n : Nat) (x : Lum) (m : Nat) : (s.setLm n x).cmpUnit m = s.cmpUnit m := rfl
@[simp] theorem State.cmpUnit_setMs (s : State) (n : Nat) (x : Mast) (m : Nat) : (s.setMs n x).cmpUnit m = s.cmpUnit m := rfl
@[simp] theorem State.cmpUnit_setSlot (s : State) (n : Nat) (x : Slot) (m : Nat) : (s.setSlot n x).cmpUnit m = s.cmpUnit m := rfl
@[simp] theorem State.cmpUnit_setSh (s : State) (n : Nat) (x : Sht) (m : Nat) : (s.setSh n x).cmpUnit m = s.cmpUnit m := rfl
@[simp] theorem State.cmpUnit_setSc (s : State) (n : Nat) (x : Scn) (m : Nat) : (s.setSc n x).cmpUnit m = s.cmpUnit m := rfl
@[simp] theorem State.cmpUnit_setBc (s : State) (n : Nat) (x : Bch) (m : Nat) : (s.setBc n x).cmpUnit m = s.cmpUnit m := rfl
@[simp] theorem State.cmpUnit_setRg (s : State) (n : Nat) (x : Ring) (m : Nat) : (s.setRg n x).cmpUnit m = s.cmpUnit m := rfl
@[simp] theorem State.cmpUnit_setPtpDom (s : State) (n : Nat) (x : PtpDom) (m : Nat) : (s.setPtpDom n x).cmpUnit m = s.cmpUnit m := rfl
@[simp] theorem State.cmpUnit_setSched (s : State) (n : Nat) (x : Sched) (m : Nat) : (s.setSched n x).cmpUnit m = s.cmpUnit m := rfl
@[simp] theorem State.cmpUnit_setRing (s : State) (n : Nat) (x : RingPort) (m : Nat) : (s.setRing n x).cmpUnit m = s.cmpUnit m := rfl

@[simp] theorem State.dm_setDm (s : State) (n : Nat) (x : Dma) : (s.setDm n x).dm n = x := by
  simp [State.dm, State.setDm]
theorem State.dm_setDm_ne (s : State) (n : Nat) (x : Dma) {m : Nat} (h : m ≠ n) : (s.setDm n x).dm m = s.dm m := by
  simp [State.dm, State.setDm, tblGet_set, h]
@[simp] theorem State.rd_setDm (s : State) (n : Nat) (x : Dma) (r : Reg) (i j : Nat) : (s.setDm n x).rd r i j = s.rd r i j := rfl
@[simp] theorem State.fld_setDm (s : State) (n : Nat) (x : Dma) (f : Fld) (i j : Nat) : (s.setDm n x).fld f i j = s.fld f i j := rfl
@[simp] theorem State.fine_setDm (s : State) (n : Nat) (x : Dma) : (s.setDm n x).fine = s.fine := rfl
@[simp] theorem State.outbox_setDm (s : State) (n : Nat) (x : Dma) : (s.setDm n x).outbox = s.outbox := rfl
@[simp] theorem State.dm_wr (s : State) (r : Reg) (v : Word) (i j : Nat) (n : Nat) : (s.wr r v i j).dm n = s.dm n := rfl
@[simp] theorem State.dm_setFld (s : State) (f : Fld) (v i j : Nat) (n : Nat) : (s.setFld f v i j).dm n = s.dm n := rfl
@[simp] theorem State.dm_bumpBy (s : State) (r : Reg) (k i j : Nat) (n : Nat) : (s.bumpBy r k i j).dm n = s.dm n := rfl
@[simp] theorem State.dm_bump (s : State) (r : Reg) (i j : Nat) (n : Nat) : (s.bump r i j).dm n = s.dm n := rfl
@[simp] theorem State.dm_emit (s : State) (o : Out) (n : Nat) : (s.emit o).dm n = s.dm n := rfl
@[simp] theorem State.dm_advance (s : State) (dt : Nat) (n : Nat) : (s.advance dt).dm n = s.dm n := rfl
@[simp] theorem State.dm_setLn (s : State) (n : Nat) (x : Lane) (m : Nat) : (s.setLn n x).dm m = s.dm m := rfl
@[simp] theorem State.dm_setPt (s : State) (n : Nat) (x : Port) (m : Nat) : (s.setPt n x).dm m = s.dm m := rfl
@[simp] theorem State.dm_setCp (s : State) (n : Nat) (x : CapPort) (m : Nat) : (s.setCp n x).dm m = s.dm m := rfl
@[simp] theorem State.dm_setCmp (s : State) (n : Nat) (x : Cmp) (m : Nat) : (s.setCmp n x).dm m = s.dm m := rfl
@[simp] theorem State.dm_setEn (s : State) (n : Nat) (x : Enc) (m : Nat) : (s.setEn n x).dm m = s.dm m := rfl
@[simp] theorem State.dm_setSi (s : State) (n : Nat) (x : Ssi) (m : Nat) : (s.setSi n x).dm m = s.dm m := rfl
@[simp] theorem State.dm_setMsix (s : State) (n : Nat) (x : MsixEntry) (m : Nat) : (s.setMsix n x).dm m = s.dm m := rfl
@[simp] theorem State.dm_setHseq (s : State) (n : Nat) (x : HSeq) (m : Nat) : (s.setHseq n x).dm m = s.dm m := rfl
@[simp] theorem State.dm_setLm (s : State) (n : Nat) (x : Lum) (m : Nat) : (s.setLm n x).dm m = s.dm m := rfl
@[simp] theorem State.dm_setMs (s : State) (n : Nat) (x : Mast) (m : Nat) : (s.setMs n x).dm m = s.dm m := rfl
@[simp] theorem State.dm_setSlot (s : State) (n : Nat) (x : Slot) (m : Nat) : (s.setSlot n x).dm m = s.dm m := rfl
@[simp] theorem State.dm_setSh (s : State) (n : Nat) (x : Sht) (m : Nat) : (s.setSh n x).dm m = s.dm m := rfl
@[simp] theorem State.dm_setSc (s : State) (n : Nat) (x : Scn) (m : Nat) : (s.setSc n x).dm m = s.dm m := rfl
@[simp] theorem State.dm_setBc (s : State) (n : Nat) (x : Bch) (m : Nat) : (s.setBc n x).dm m = s.dm m := rfl
@[simp] theorem State.dm_setRg (s : State) (n : Nat) (x : Ring) (m : Nat) : (s.setRg n x).dm m = s.dm m := rfl
@[simp] theorem State.dm_setPtpDom (s : State) (n : Nat) (x : PtpDom) (m : Nat) : (s.setPtpDom n x).dm m = s.dm m := rfl
@[simp] theorem State.dm_setSched (s : State) (n : Nat) (x : Sched) (m : Nat) : (s.setSched n x).dm m = s.dm m := rfl
@[simp] theorem State.dm_setRing (s : State) (n : Nat) (x : RingPort) (m : Nat) : (s.setRing n x).dm m = s.dm m := rfl

@[simp] theorem State.en_setEn (s : State) (n : Nat) (x : Enc) : (s.setEn n x).en n = x := by
  simp [State.en, State.setEn]
theorem State.en_setEn_ne (s : State) (n : Nat) (x : Enc) {m : Nat} (h : m ≠ n) : (s.setEn n x).en m = s.en m := by
  simp [State.en, State.setEn, tblGet_set, h]
@[simp] theorem State.rd_setEn (s : State) (n : Nat) (x : Enc) (r : Reg) (i j : Nat) : (s.setEn n x).rd r i j = s.rd r i j := rfl
@[simp] theorem State.fld_setEn (s : State) (n : Nat) (x : Enc) (f : Fld) (i j : Nat) : (s.setEn n x).fld f i j = s.fld f i j := rfl
@[simp] theorem State.fine_setEn (s : State) (n : Nat) (x : Enc) : (s.setEn n x).fine = s.fine := rfl
@[simp] theorem State.outbox_setEn (s : State) (n : Nat) (x : Enc) : (s.setEn n x).outbox = s.outbox := rfl
@[simp] theorem State.en_wr (s : State) (r : Reg) (v : Word) (i j : Nat) (n : Nat) : (s.wr r v i j).en n = s.en n := rfl
@[simp] theorem State.en_setFld (s : State) (f : Fld) (v i j : Nat) (n : Nat) : (s.setFld f v i j).en n = s.en n := rfl
@[simp] theorem State.en_bumpBy (s : State) (r : Reg) (k i j : Nat) (n : Nat) : (s.bumpBy r k i j).en n = s.en n := rfl
@[simp] theorem State.en_bump (s : State) (r : Reg) (i j : Nat) (n : Nat) : (s.bump r i j).en n = s.en n := rfl
@[simp] theorem State.en_emit (s : State) (o : Out) (n : Nat) : (s.emit o).en n = s.en n := rfl
@[simp] theorem State.en_advance (s : State) (dt : Nat) (n : Nat) : (s.advance dt).en n = s.en n := rfl
@[simp] theorem State.en_setLn (s : State) (n : Nat) (x : Lane) (m : Nat) : (s.setLn n x).en m = s.en m := rfl
@[simp] theorem State.en_setPt (s : State) (n : Nat) (x : Port) (m : Nat) : (s.setPt n x).en m = s.en m := rfl
@[simp] theorem State.en_setCp (s : State) (n : Nat) (x : CapPort) (m : Nat) : (s.setCp n x).en m = s.en m := rfl
@[simp] theorem State.en_setCmp (s : State) (n : Nat) (x : Cmp) (m : Nat) : (s.setCmp n x).en m = s.en m := rfl
@[simp] theorem State.en_setDm (s : State) (n : Nat) (x : Dma) (m : Nat) : (s.setDm n x).en m = s.en m := rfl
@[simp] theorem State.en_setSi (s : State) (n : Nat) (x : Ssi) (m : Nat) : (s.setSi n x).en m = s.en m := rfl
@[simp] theorem State.en_setMsix (s : State) (n : Nat) (x : MsixEntry) (m : Nat) : (s.setMsix n x).en m = s.en m := rfl
@[simp] theorem State.en_setHseq (s : State) (n : Nat) (x : HSeq) (m : Nat) : (s.setHseq n x).en m = s.en m := rfl
@[simp] theorem State.en_setLm (s : State) (n : Nat) (x : Lum) (m : Nat) : (s.setLm n x).en m = s.en m := rfl
@[simp] theorem State.en_setMs (s : State) (n : Nat) (x : Mast) (m : Nat) : (s.setMs n x).en m = s.en m := rfl
@[simp] theorem State.en_setSlot (s : State) (n : Nat) (x : Slot) (m : Nat) : (s.setSlot n x).en m = s.en m := rfl
@[simp] theorem State.en_setSh (s : State) (n : Nat) (x : Sht) (m : Nat) : (s.setSh n x).en m = s.en m := rfl
@[simp] theorem State.en_setSc (s : State) (n : Nat) (x : Scn) (m : Nat) : (s.setSc n x).en m = s.en m := rfl
@[simp] theorem State.en_setBc (s : State) (n : Nat) (x : Bch) (m : Nat) : (s.setBc n x).en m = s.en m := rfl
@[simp] theorem State.en_setRg (s : State) (n : Nat) (x : Ring) (m : Nat) : (s.setRg n x).en m = s.en m := rfl
@[simp] theorem State.en_setPtpDom (s : State) (n : Nat) (x : PtpDom) (m : Nat) : (s.setPtpDom n x).en m = s.en m := rfl
@[simp] theorem State.en_setSched (s : State) (n : Nat) (x : Sched) (m : Nat) : (s.setSched n x).en m = s.en m := rfl
@[simp] theorem State.en_setRing (s : State) (n : Nat) (x : RingPort) (m : Nat) : (s.setRing n x).en m = s.en m := rfl

@[simp] theorem State.si_setSi (s : State) (n : Nat) (x : Ssi) : (s.setSi n x).si n = x := by
  simp [State.si, State.setSi]
theorem State.si_setSi_ne (s : State) (n : Nat) (x : Ssi) {m : Nat} (h : m ≠ n) : (s.setSi n x).si m = s.si m := by
  simp [State.si, State.setSi, tblGet_set, h]
@[simp] theorem State.rd_setSi (s : State) (n : Nat) (x : Ssi) (r : Reg) (i j : Nat) : (s.setSi n x).rd r i j = s.rd r i j := rfl
@[simp] theorem State.fld_setSi (s : State) (n : Nat) (x : Ssi) (f : Fld) (i j : Nat) : (s.setSi n x).fld f i j = s.fld f i j := rfl
@[simp] theorem State.fine_setSi (s : State) (n : Nat) (x : Ssi) : (s.setSi n x).fine = s.fine := rfl
@[simp] theorem State.outbox_setSi (s : State) (n : Nat) (x : Ssi) : (s.setSi n x).outbox = s.outbox := rfl
@[simp] theorem State.si_wr (s : State) (r : Reg) (v : Word) (i j : Nat) (n : Nat) : (s.wr r v i j).si n = s.si n := rfl
@[simp] theorem State.si_setFld (s : State) (f : Fld) (v i j : Nat) (n : Nat) : (s.setFld f v i j).si n = s.si n := rfl
@[simp] theorem State.si_bumpBy (s : State) (r : Reg) (k i j : Nat) (n : Nat) : (s.bumpBy r k i j).si n = s.si n := rfl
@[simp] theorem State.si_bump (s : State) (r : Reg) (i j : Nat) (n : Nat) : (s.bump r i j).si n = s.si n := rfl
@[simp] theorem State.si_emit (s : State) (o : Out) (n : Nat) : (s.emit o).si n = s.si n := rfl
@[simp] theorem State.si_advance (s : State) (dt : Nat) (n : Nat) : (s.advance dt).si n = s.si n := rfl
@[simp] theorem State.si_setLn (s : State) (n : Nat) (x : Lane) (m : Nat) : (s.setLn n x).si m = s.si m := rfl
@[simp] theorem State.si_setPt (s : State) (n : Nat) (x : Port) (m : Nat) : (s.setPt n x).si m = s.si m := rfl
@[simp] theorem State.si_setCp (s : State) (n : Nat) (x : CapPort) (m : Nat) : (s.setCp n x).si m = s.si m := rfl
@[simp] theorem State.si_setCmp (s : State) (n : Nat) (x : Cmp) (m : Nat) : (s.setCmp n x).si m = s.si m := rfl
@[simp] theorem State.si_setDm (s : State) (n : Nat) (x : Dma) (m : Nat) : (s.setDm n x).si m = s.si m := rfl
@[simp] theorem State.si_setEn (s : State) (n : Nat) (x : Enc) (m : Nat) : (s.setEn n x).si m = s.si m := rfl
@[simp] theorem State.si_setMsix (s : State) (n : Nat) (x : MsixEntry) (m : Nat) : (s.setMsix n x).si m = s.si m := rfl
@[simp] theorem State.si_setHseq (s : State) (n : Nat) (x : HSeq) (m : Nat) : (s.setHseq n x).si m = s.si m := rfl
@[simp] theorem State.si_setLm (s : State) (n : Nat) (x : Lum) (m : Nat) : (s.setLm n x).si m = s.si m := rfl
@[simp] theorem State.si_setMs (s : State) (n : Nat) (x : Mast) (m : Nat) : (s.setMs n x).si m = s.si m := rfl
@[simp] theorem State.si_setSlot (s : State) (n : Nat) (x : Slot) (m : Nat) : (s.setSlot n x).si m = s.si m := rfl
@[simp] theorem State.si_setSh (s : State) (n : Nat) (x : Sht) (m : Nat) : (s.setSh n x).si m = s.si m := rfl
@[simp] theorem State.si_setSc (s : State) (n : Nat) (x : Scn) (m : Nat) : (s.setSc n x).si m = s.si m := rfl
@[simp] theorem State.si_setBc (s : State) (n : Nat) (x : Bch) (m : Nat) : (s.setBc n x).si m = s.si m := rfl
@[simp] theorem State.si_setRg (s : State) (n : Nat) (x : Ring) (m : Nat) : (s.setRg n x).si m = s.si m := rfl
@[simp] theorem State.si_setPtpDom (s : State) (n : Nat) (x : PtpDom) (m : Nat) : (s.setPtpDom n x).si m = s.si m := rfl
@[simp] theorem State.si_setSched (s : State) (n : Nat) (x : Sched) (m : Nat) : (s.setSched n x).si m = s.si m := rfl
@[simp] theorem State.si_setRing (s : State) (n : Nat) (x : RingPort) (m : Nat) : (s.setRing n x).si m = s.si m := rfl

@[simp] theorem State.msixEntry_setMsix (s : State) (n : Nat) (x : MsixEntry) : (s.setMsix n x).msixEntry n = x := by
  simp [State.msixEntry, State.setMsix]
theorem State.msixEntry_setMsix_ne (s : State) (n : Nat) (x : MsixEntry) {m : Nat} (h : m ≠ n) : (s.setMsix n x).msixEntry m = s.msixEntry m := by
  simp [State.msixEntry, State.setMsix, tblGet_set, h]
@[simp] theorem State.rd_setMsix (s : State) (n : Nat) (x : MsixEntry) (r : Reg) (i j : Nat) : (s.setMsix n x).rd r i j = s.rd r i j := rfl
@[simp] theorem State.fld_setMsix (s : State) (n : Nat) (x : MsixEntry) (f : Fld) (i j : Nat) : (s.setMsix n x).fld f i j = s.fld f i j := rfl
@[simp] theorem State.fine_setMsix (s : State) (n : Nat) (x : MsixEntry) : (s.setMsix n x).fine = s.fine := rfl
@[simp] theorem State.outbox_setMsix (s : State) (n : Nat) (x : MsixEntry) : (s.setMsix n x).outbox = s.outbox := rfl
@[simp] theorem State.msixEntry_wr (s : State) (r : Reg) (v : Word) (i j : Nat) (n : Nat) : (s.wr r v i j).msixEntry n = s.msixEntry n := rfl
@[simp] theorem State.msixEntry_setFld (s : State) (f : Fld) (v i j : Nat) (n : Nat) : (s.setFld f v i j).msixEntry n = s.msixEntry n := rfl
@[simp] theorem State.msixEntry_bumpBy (s : State) (r : Reg) (k i j : Nat) (n : Nat) : (s.bumpBy r k i j).msixEntry n = s.msixEntry n := rfl
@[simp] theorem State.msixEntry_bump (s : State) (r : Reg) (i j : Nat) (n : Nat) : (s.bump r i j).msixEntry n = s.msixEntry n := rfl
@[simp] theorem State.msixEntry_emit (s : State) (o : Out) (n : Nat) : (s.emit o).msixEntry n = s.msixEntry n := rfl
@[simp] theorem State.msixEntry_advance (s : State) (dt : Nat) (n : Nat) : (s.advance dt).msixEntry n = s.msixEntry n := rfl
@[simp] theorem State.msixEntry_setLn (s : State) (n : Nat) (x : Lane) (m : Nat) : (s.setLn n x).msixEntry m = s.msixEntry m := rfl
@[simp] theorem State.msixEntry_setPt (s : State) (n : Nat) (x : Port) (m : Nat) : (s.setPt n x).msixEntry m = s.msixEntry m := rfl
@[simp] theorem State.msixEntry_setCp (s : State) (n : Nat) (x : CapPort) (m : Nat) : (s.setCp n x).msixEntry m = s.msixEntry m := rfl
@[simp] theorem State.msixEntry_setCmp (s : State) (n : Nat) (x : Cmp) (m : Nat) : (s.setCmp n x).msixEntry m = s.msixEntry m := rfl
@[simp] theorem State.msixEntry_setDm (s : State) (n : Nat) (x : Dma) (m : Nat) : (s.setDm n x).msixEntry m = s.msixEntry m := rfl
@[simp] theorem State.msixEntry_setEn (s : State) (n : Nat) (x : Enc) (m : Nat) : (s.setEn n x).msixEntry m = s.msixEntry m := rfl
@[simp] theorem State.msixEntry_setSi (s : State) (n : Nat) (x : Ssi) (m : Nat) : (s.setSi n x).msixEntry m = s.msixEntry m := rfl
@[simp] theorem State.msixEntry_setHseq (s : State) (n : Nat) (x : HSeq) (m : Nat) : (s.setHseq n x).msixEntry m = s.msixEntry m := rfl
@[simp] theorem State.msixEntry_setLm (s : State) (n : Nat) (x : Lum) (m : Nat) : (s.setLm n x).msixEntry m = s.msixEntry m := rfl
@[simp] theorem State.msixEntry_setMs (s : State) (n : Nat) (x : Mast) (m : Nat) : (s.setMs n x).msixEntry m = s.msixEntry m := rfl
@[simp] theorem State.msixEntry_setSlot (s : State) (n : Nat) (x : Slot) (m : Nat) : (s.setSlot n x).msixEntry m = s.msixEntry m := rfl
@[simp] theorem State.msixEntry_setSh (s : State) (n : Nat) (x : Sht) (m : Nat) : (s.setSh n x).msixEntry m = s.msixEntry m := rfl
@[simp] theorem State.msixEntry_setSc (s : State) (n : Nat) (x : Scn) (m : Nat) : (s.setSc n x).msixEntry m = s.msixEntry m := rfl
@[simp] theorem State.msixEntry_setBc (s : State) (n : Nat) (x : Bch) (m : Nat) : (s.setBc n x).msixEntry m = s.msixEntry m := rfl
@[simp] theorem State.msixEntry_setRg (s : State) (n : Nat) (x : Ring) (m : Nat) : (s.setRg n x).msixEntry m = s.msixEntry m := rfl
@[simp] theorem State.msixEntry_setPtpDom (s : State) (n : Nat) (x : PtpDom) (m : Nat) : (s.setPtpDom n x).msixEntry m = s.msixEntry m := rfl
@[simp] theorem State.msixEntry_setSched (s : State) (n : Nat) (x : Sched) (m : Nat) : (s.setSched n x).msixEntry m = s.msixEntry m := rfl
@[simp] theorem State.msixEntry_setRing (s : State) (n : Nat) (x : RingPort) (m : Nat) : (s.setRing n x).msixEntry m = s.msixEntry m := rfl

@[simp] theorem State.hseq_setHseq (s : State) (n : Nat) (x : HSeq) : (s.setHseq n x).hseq n = x := by
  simp [State.hseq, State.setHseq]
theorem State.hseq_setHseq_ne (s : State) (n : Nat) (x : HSeq) {m : Nat} (h : m ≠ n) : (s.setHseq n x).hseq m = s.hseq m := by
  simp [State.hseq, State.setHseq, tblGet_set, h]
@[simp] theorem State.rd_setHseq (s : State) (n : Nat) (x : HSeq) (r : Reg) (i j : Nat) : (s.setHseq n x).rd r i j = s.rd r i j := rfl
@[simp] theorem State.fld_setHseq (s : State) (n : Nat) (x : HSeq) (f : Fld) (i j : Nat) : (s.setHseq n x).fld f i j = s.fld f i j := rfl
@[simp] theorem State.fine_setHseq (s : State) (n : Nat) (x : HSeq) : (s.setHseq n x).fine = s.fine := rfl
@[simp] theorem State.outbox_setHseq (s : State) (n : Nat) (x : HSeq) : (s.setHseq n x).outbox = s.outbox := rfl
@[simp] theorem State.hseq_wr (s : State) (r : Reg) (v : Word) (i j : Nat) (n : Nat) : (s.wr r v i j).hseq n = s.hseq n := rfl
@[simp] theorem State.hseq_setFld (s : State) (f : Fld) (v i j : Nat) (n : Nat) : (s.setFld f v i j).hseq n = s.hseq n := rfl
@[simp] theorem State.hseq_bumpBy (s : State) (r : Reg) (k i j : Nat) (n : Nat) : (s.bumpBy r k i j).hseq n = s.hseq n := rfl
@[simp] theorem State.hseq_bump (s : State) (r : Reg) (i j : Nat) (n : Nat) : (s.bump r i j).hseq n = s.hseq n := rfl
@[simp] theorem State.hseq_emit (s : State) (o : Out) (n : Nat) : (s.emit o).hseq n = s.hseq n := rfl
@[simp] theorem State.hseq_advance (s : State) (dt : Nat) (n : Nat) : (s.advance dt).hseq n = s.hseq n := rfl
@[simp] theorem State.hseq_setLn (s : State) (n : Nat) (x : Lane) (m : Nat) : (s.setLn n x).hseq m = s.hseq m := rfl
@[simp] theorem State.hseq_setPt (s : State) (n : Nat) (x : Port) (m : Nat) : (s.setPt n x).hseq m = s.hseq m := rfl
@[simp] theorem State.hseq_setCp (s : State) (n : Nat) (x : CapPort) (m : Nat) : (s.setCp n x).hseq m = s.hseq m := rfl
@[simp] theorem State.hseq_setCmp (s : State) (n : Nat) (x : Cmp) (m : Nat) : (s.setCmp n x).hseq m = s.hseq m := rfl
@[simp] theorem State.hseq_setDm (s : State) (n : Nat) (x : Dma) (m : Nat) : (s.setDm n x).hseq m = s.hseq m := rfl
@[simp] theorem State.hseq_setEn (s : State) (n : Nat) (x : Enc) (m : Nat) : (s.setEn n x).hseq m = s.hseq m := rfl
@[simp] theorem State.hseq_setSi (s : State) (n : Nat) (x : Ssi) (m : Nat) : (s.setSi n x).hseq m = s.hseq m := rfl
@[simp] theorem State.hseq_setMsix (s : State) (n : Nat) (x : MsixEntry) (m : Nat) : (s.setMsix n x).hseq m = s.hseq m := rfl
@[simp] theorem State.hseq_setLm (s : State) (n : Nat) (x : Lum) (m : Nat) : (s.setLm n x).hseq m = s.hseq m := rfl
@[simp] theorem State.hseq_setMs (s : State) (n : Nat) (x : Mast) (m : Nat) : (s.setMs n x).hseq m = s.hseq m := rfl
@[simp] theorem State.hseq_setSlot (s : State) (n : Nat) (x : Slot) (m : Nat) : (s.setSlot n x).hseq m = s.hseq m := rfl
@[simp] theorem State.hseq_setSh (s : State) (n : Nat) (x : Sht) (m : Nat) : (s.setSh n x).hseq m = s.hseq m := rfl
@[simp] theorem State.hseq_setSc (s : State) (n : Nat) (x : Scn) (m : Nat) : (s.setSc n x).hseq m = s.hseq m := rfl
@[simp] theorem State.hseq_setBc (s : State) (n : Nat) (x : Bch) (m : Nat) : (s.setBc n x).hseq m = s.hseq m := rfl
@[simp] theorem State.hseq_setRg (s : State) (n : Nat) (x : Ring) (m : Nat) : (s.setRg n x).hseq m = s.hseq m := rfl
@[simp] theorem State.hseq_setPtpDom (s : State) (n : Nat) (x : PtpDom) (m : Nat) : (s.setPtpDom n x).hseq m = s.hseq m := rfl
@[simp] theorem State.hseq_setSched (s : State) (n : Nat) (x : Sched) (m : Nat) : (s.setSched n x).hseq m = s.hseq m := rfl
@[simp] theorem State.hseq_setRing (s : State) (n : Nat) (x : RingPort) (m : Nat) : (s.setRing n x).hseq m = s.hseq m := rfl

@[simp] theorem State.lm_setLm (s : State) (n : Nat) (x : Lum) : (s.setLm n x).lm n = x := by
  simp [State.lm, State.setLm]
theorem State.lm_setLm_ne (s : State) (n : Nat) (x : Lum) {m : Nat} (h : m ≠ n) : (s.setLm n x).lm m = s.lm m := by
  simp [State.lm, State.setLm, tblGet_set, h]
@[simp] theorem State.rd_setLm (s : State) (n : Nat) (x : Lum) (r : Reg) (i j : Nat) : (s.setLm n x).rd r i j = s.rd r i j := rfl
@[simp] theorem State.fld_setLm (s : State) (n : Nat) (x : Lum) (f : Fld) (i j : Nat) : (s.setLm n x).fld f i j = s.fld f i j := rfl
@[simp] theorem State.fine_setLm (s : State) (n : Nat) (x : Lum) : (s.setLm n x).fine = s.fine := rfl
@[simp] theorem State.outbox_setLm (s : State) (n : Nat) (x : Lum) : (s.setLm n x).outbox = s.outbox := rfl
@[simp] theorem State.lm_wr (s : State) (r : Reg) (v : Word) (i j : Nat) (n : Nat) : (s.wr r v i j).lm n = s.lm n := rfl
@[simp] theorem State.lm_setFld (s : State) (f : Fld) (v i j : Nat) (n : Nat) : (s.setFld f v i j).lm n = s.lm n := rfl
@[simp] theorem State.lm_bumpBy (s : State) (r : Reg) (k i j : Nat) (n : Nat) : (s.bumpBy r k i j).lm n = s.lm n := rfl
@[simp] theorem State.lm_bump (s : State) (r : Reg) (i j : Nat) (n : Nat) : (s.bump r i j).lm n = s.lm n := rfl
@[simp] theorem State.lm_emit (s : State) (o : Out) (n : Nat) : (s.emit o).lm n = s.lm n := rfl
@[simp] theorem State.lm_advance (s : State) (dt : Nat) (n : Nat) : (s.advance dt).lm n = s.lm n := rfl
@[simp] theorem State.lm_setLn (s : State) (n : Nat) (x : Lane) (m : Nat) : (s.setLn n x).lm m = s.lm m := rfl
@[simp] theorem State.lm_setPt (s : State) (n : Nat) (x : Port) (m : Nat) : (s.setPt n x).lm m = s.lm m := rfl
@[simp] theorem State.lm_setCp (s : State) (n : Nat) (x : CapPort) (m : Nat) : (s.setCp n x).lm m = s.lm m := rfl
@[simp] theorem State.lm_setCmp (s : State) (n : Nat) (x : Cmp) (m : Nat) : (s.setCmp n x).lm m = s.lm m := rfl
@[simp] theorem State.lm_setDm (s : State) (n : Nat) (x : Dma) (m : Nat) : (s.setDm n x).lm m = s.lm m := rfl
@[simp] theorem State.lm_setEn (s : State) (n : Nat) (x : Enc) (m : Nat) : (s.setEn n x).lm m = s.lm m := rfl
@[simp] theorem State.lm_setSi (s : State) (n : Nat) (x : Ssi) (m : Nat) : (s.setSi n x).lm m = s.lm m := rfl
@[simp] theorem State.lm_setMsix (s : State) (n : Nat) (x : MsixEntry) (m : Nat) : (s.setMsix n x).lm m = s.lm m := rfl
@[simp] theorem State.lm_setHseq (s : State) (n : Nat) (x : HSeq) (m : Nat) : (s.setHseq n x).lm m = s.lm m := rfl
@[simp] theorem State.lm_setMs (s : State) (n : Nat) (x : Mast) (m : Nat) : (s.setMs n x).lm m = s.lm m := rfl
@[simp] theorem State.lm_setSlot (s : State) (n : Nat) (x : Slot) (m : Nat) : (s.setSlot n x).lm m = s.lm m := rfl
@[simp] theorem State.lm_setSh (s : State) (n : Nat) (x : Sht) (m : Nat) : (s.setSh n x).lm m = s.lm m := rfl
@[simp] theorem State.lm_setSc (s : State) (n : Nat) (x : Scn) (m : Nat) : (s.setSc n x).lm m = s.lm m := rfl
@[simp] theorem State.lm_setBc (s : State) (n : Nat) (x : Bch) (m : Nat) : (s.setBc n x).lm m = s.lm m := rfl
@[simp] theorem State.lm_setRg (s : State) (n : Nat) (x : Ring) (m : Nat) : (s.setRg n x).lm m = s.lm m := rfl
@[simp] theorem State.lm_setPtpDom (s : State) (n : Nat) (x : PtpDom) (m : Nat) : (s.setPtpDom n x).lm m = s.lm m := rfl
@[simp] theorem State.lm_setSched (s : State) (n : Nat) (x : Sched) (m : Nat) : (s.setSched n x).lm m = s.lm m := rfl
@[simp] theorem State.lm_setRing (s : State) (n : Nat) (x : RingPort) (m : Nat) : (s.setRing n x).lm m = s.lm m := rfl

@[simp] theorem State.ms_setMs (s : State) (n : Nat) (x : Mast) : (s.setMs n x).ms n = x := by
  simp [State.ms, State.setMs]
theorem State.ms_setMs_ne (s : State) (n : Nat) (x : Mast) {m : Nat} (h : m ≠ n) : (s.setMs n x).ms m = s.ms m := by
  simp [State.ms, State.setMs, tblGet_set, h]
@[simp] theorem State.rd_setMs (s : State) (n : Nat) (x : Mast) (r : Reg) (i j : Nat) : (s.setMs n x).rd r i j = s.rd r i j := rfl
@[simp] theorem State.fld_setMs (s : State) (n : Nat) (x : Mast) (f : Fld) (i j : Nat) : (s.setMs n x).fld f i j = s.fld f i j := rfl
@[simp] theorem State.fine_setMs (s : State) (n : Nat) (x : Mast) : (s.setMs n x).fine = s.fine := rfl
@[simp] theorem State.outbox_setMs (s : State) (n : Nat) (x : Mast) : (s.setMs n x).outbox = s.outbox := rfl
@[simp] theorem State.ms_wr (s : State) (r : Reg) (v : Word) (i j : Nat) (n : Nat) : (s.wr r v i j).ms n = s.ms n := rfl
@[simp] theorem State.ms_setFld (s : State) (f : Fld) (v i j : Nat) (n : Nat) : (s.setFld f v i j).ms n = s.ms n := rfl
@[simp] theorem State.ms_bumpBy (s : State) (r : Reg) (k i j : Nat) (n : Nat) : (s.bumpBy r k i j).ms n = s.ms n := rfl
@[simp] theorem State.ms_bump (s : State) (r : Reg) (i j : Nat) (n : Nat) : (s.bump r i j).ms n = s.ms n := rfl
@[simp] theorem State.ms_emit (s : State) (o : Out) (n : Nat) : (s.emit o).ms n = s.ms n := rfl
@[simp] theorem State.ms_advance (s : State) (dt : Nat) (n : Nat) : (s.advance dt).ms n = s.ms n := rfl
@[simp] theorem State.ms_setLn (s : State) (n : Nat) (x : Lane) (m : Nat) : (s.setLn n x).ms m = s.ms m := rfl
@[simp] theorem State.ms_setPt (s : State) (n : Nat) (x : Port) (m : Nat) : (s.setPt n x).ms m = s.ms m := rfl
@[simp] theorem State.ms_setCp (s : State) (n : Nat) (x : CapPort) (m : Nat) : (s.setCp n x).ms m = s.ms m := rfl
@[simp] theorem State.ms_setCmp (s : State) (n : Nat) (x : Cmp) (m : Nat) : (s.setCmp n x).ms m = s.ms m := rfl
@[simp] theorem State.ms_setDm (s : State) (n : Nat) (x : Dma) (m : Nat) : (s.setDm n x).ms m = s.ms m := rfl
@[simp] theorem State.ms_setEn (s : State) (n : Nat) (x : Enc) (m : Nat) : (s.setEn n x).ms m = s.ms m := rfl
@[simp] theorem State.ms_setSi (s : State) (n : Nat) (x : Ssi) (m : Nat) : (s.setSi n x).ms m = s.ms m := rfl
@[simp] theorem State.ms_setMsix (s : State) (n : Nat) (x : MsixEntry) (m : Nat) : (s.setMsix n x).ms m = s.ms m := rfl
@[simp] theorem State.ms_setHseq (s : State) (n : Nat) (x : HSeq) (m : Nat) : (s.setHseq n x).ms m = s.ms m := rfl
@[simp] theorem State.ms_setLm (s : State) (n : Nat) (x : Lum) (m : Nat) : (s.setLm n x).ms m = s.ms m := rfl
@[simp] theorem State.ms_setSlot (s : State) (n : Nat) (x : Slot) (m : Nat) : (s.setSlot n x).ms m = s.ms m := rfl
@[simp] theorem State.ms_setSh (s : State) (n : Nat) (x : Sht) (m : Nat) : (s.setSh n x).ms m = s.ms m := rfl
@[simp] theorem State.ms_setSc (s : State) (n : Nat) (x : Scn) (m : Nat) : (s.setSc n x).ms m = s.ms m := rfl
@[simp] theorem State.ms_setBc (s : State) (n : Nat) (x : Bch) (m : Nat) : (s.setBc n x).ms m = s.ms m := rfl
@[simp] theorem State.ms_setRg (s : State) (n : Nat) (x : Ring) (m : Nat) : (s.setRg n x).ms m = s.ms m := rfl
@[simp] theorem State.ms_setPtpDom (s : State) (n : Nat) (x : PtpDom) (m : Nat) : (s.setPtpDom n x).ms m = s.ms m := rfl
@[simp] theorem State.ms_setSched (s : State) (n : Nat) (x : Sched) (m : Nat) : (s.setSched n x).ms m = s.ms m := rfl
@[simp] theorem State.ms_setRing (s : State) (n : Nat) (x : RingPort) (m : Nat) : (s.setRing n x).ms m = s.ms m := rfl

@[simp] theorem State.slot_setSlot (s : State) (n : Nat) (x : Slot) : (s.setSlot n x).slot n = x := by
  simp [State.slot, State.setSlot]
theorem State.slot_setSlot_ne (s : State) (n : Nat) (x : Slot) {m : Nat} (h : m ≠ n) : (s.setSlot n x).slot m = s.slot m := by
  simp [State.slot, State.setSlot, tblGet_set, h]
@[simp] theorem State.rd_setSlot (s : State) (n : Nat) (x : Slot) (r : Reg) (i j : Nat) : (s.setSlot n x).rd r i j = s.rd r i j := rfl
@[simp] theorem State.fld_setSlot (s : State) (n : Nat) (x : Slot) (f : Fld) (i j : Nat) : (s.setSlot n x).fld f i j = s.fld f i j := rfl
@[simp] theorem State.fine_setSlot (s : State) (n : Nat) (x : Slot) : (s.setSlot n x).fine = s.fine := rfl
@[simp] theorem State.outbox_setSlot (s : State) (n : Nat) (x : Slot) : (s.setSlot n x).outbox = s.outbox := rfl
@[simp] theorem State.slot_wr (s : State) (r : Reg) (v : Word) (i j : Nat) (n : Nat) : (s.wr r v i j).slot n = s.slot n := rfl
@[simp] theorem State.slot_setFld (s : State) (f : Fld) (v i j : Nat) (n : Nat) : (s.setFld f v i j).slot n = s.slot n := rfl
@[simp] theorem State.slot_bumpBy (s : State) (r : Reg) (k i j : Nat) (n : Nat) : (s.bumpBy r k i j).slot n = s.slot n := rfl
@[simp] theorem State.slot_bump (s : State) (r : Reg) (i j : Nat) (n : Nat) : (s.bump r i j).slot n = s.slot n := rfl
@[simp] theorem State.slot_emit (s : State) (o : Out) (n : Nat) : (s.emit o).slot n = s.slot n := rfl
@[simp] theorem State.slot_advance (s : State) (dt : Nat) (n : Nat) : (s.advance dt).slot n = s.slot n := rfl
@[simp] theorem State.slot_setLn (s : State) (n : Nat) (x : Lane) (m : Nat) : (s.setLn n x).slot m = s.slot m := rfl
@[simp] theorem State.slot_setPt (s : State) (n : Nat) (x : Port) (m : Nat) : (s.setPt n x).slot m = s.slot m := rfl
@[simp] theorem State.slot_setCp (s : State) (n : Nat) (x : CapPort) (m : Nat) : (s.setCp n x).slot m = s.slot m := rfl
@[simp] theorem State.slot_setCmp (s : State) (n : Nat) (x : Cmp) (m : Nat) : (s.setCmp n x).slot m = s.slot m := rfl
@[simp] theorem State.slot_setDm (s : State) (n : Nat) (x : Dma) (m : Nat) : (s.setDm n x).slot m = s.slot m := rfl
@[simp] theorem State.slot_setEn (s : State) (n : Nat) (x : Enc) (m : Nat) : (s.setEn n x).slot m = s.slot m := rfl
@[simp] theorem State.slot_setSi (s : State) (n : Nat) (x : Ssi) (m : Nat) : (s.setSi n x).slot m = s.slot m := rfl
@[simp] theorem State.slot_setMsix (s : State) (n : Nat) (x : MsixEntry) (m : Nat) : (s.setMsix n x).slot m = s.slot m := rfl
@[simp] theorem State.slot_setHseq (s : State) (n : Nat) (x : HSeq) (m : Nat) : (s.setHseq n x).slot m = s.slot m := rfl
@[simp] theorem State.slot_setLm (s : State) (n : Nat) (x : Lum) (m : Nat) : (s.setLm n x).slot m = s.slot m := rfl
@[simp] theorem State.slot_setMs (s : State) (n : Nat) (x : Mast) (m : Nat) : (s.setMs n x).slot m = s.slot m := rfl
@[simp] theorem State.slot_setSh (s : State) (n : Nat) (x : Sht) (m : Nat) : (s.setSh n x).slot m = s.slot m := rfl
@[simp] theorem State.slot_setSc (s : State) (n : Nat) (x : Scn) (m : Nat) : (s.setSc n x).slot m = s.slot m := rfl
@[simp] theorem State.slot_setBc (s : State) (n : Nat) (x : Bch) (m : Nat) : (s.setBc n x).slot m = s.slot m := rfl
@[simp] theorem State.slot_setRg (s : State) (n : Nat) (x : Ring) (m : Nat) : (s.setRg n x).slot m = s.slot m := rfl
@[simp] theorem State.slot_setPtpDom (s : State) (n : Nat) (x : PtpDom) (m : Nat) : (s.setPtpDom n x).slot m = s.slot m := rfl
@[simp] theorem State.slot_setSched (s : State) (n : Nat) (x : Sched) (m : Nat) : (s.setSched n x).slot m = s.slot m := rfl
@[simp] theorem State.slot_setRing (s : State) (n : Nat) (x : RingPort) (m : Nat) : (s.setRing n x).slot m = s.slot m := rfl

@[simp] theorem State.sh_setSh (s : State) (n : Nat) (x : Sht) : (s.setSh n x).sh n = x := by
  simp [State.sh, State.setSh]
theorem State.sh_setSh_ne (s : State) (n : Nat) (x : Sht) {m : Nat} (h : m ≠ n) : (s.setSh n x).sh m = s.sh m := by
  simp [State.sh, State.setSh, tblGet_set, h]
@[simp] theorem State.rd_setSh (s : State) (n : Nat) (x : Sht) (r : Reg) (i j : Nat) : (s.setSh n x).rd r i j = s.rd r i j := rfl
@[simp] theorem State.fld_setSh (s : State) (n : Nat) (x : Sht) (f : Fld) (i j : Nat) : (s.setSh n x).fld f i j = s.fld f i j := rfl
@[simp] theorem State.fine_setSh (s : State) (n : Nat) (x : Sht) : (s.setSh n x).fine = s.fine := rfl
@[simp] theorem State.outbox_setSh (s : State) (n : Nat) (x : Sht) : (s.setSh n x).outbox = s.outbox := rfl
@[simp] theorem State.sh_wr (s : State) (r : Reg) (v : Word) (i j : Nat) (n : Nat) : (s.wr r v i j).sh n = s.sh n := rfl
@[simp] theorem State.sh_setFld (s : State) (f : Fld) (v i j : Nat) (n : Nat) : (s.setFld f v i j).sh n = s.sh n := rfl
@[simp] theorem State.sh_bumpBy (s : State) (r : Reg) (k i j : Nat) (n : Nat) : (s.bumpBy r k i j).sh n = s.sh n := rfl
@[simp] theorem State.sh_bump (s : State) (r : Reg) (i j : Nat) (n : Nat) : (s.bump r i j).sh n = s.sh n := rfl
@[simp] theorem State.sh_emit (s : State) (o : Out) (n : Nat) : (s.emit o).sh n = s.sh n := rfl
@[simp] theorem State.sh_advance (s : State) (dt : Nat) (n : Nat) : (s.advance dt).sh n = s.sh n := rfl
@[simp] theorem State.sh_setLn (s : State) (n : Nat) (x : Lane) (m : Nat) : (s.setLn n x).sh m = s.sh m := rfl
@[simp] theorem State.sh_setPt (s : State) (n : Nat) (x : Port) (m : Nat) : (s.setPt n x).sh m = s.sh m := rfl
@[simp] theorem State.sh_setCp (s : State) (n : Nat) (x : CapPort) (m : Nat) : (s.setCp n x).sh m = s.sh m := rfl
@[simp] theorem State.sh_setCmp (s : State) (n : Nat) (x : Cmp) (m : Nat) : (s.setCmp n x).sh m = s.sh m := rfl
@[simp] theorem State.sh_setDm (s : State) (n : Nat) (x : Dma) (m : Nat) : (s.setDm n x).sh m = s.sh m := rfl
@[simp] theorem State.sh_setEn (s : State) (n : Nat) (x : Enc) (m : Nat) : (s.setEn n x).sh m = s.sh m := rfl
@[simp] theorem State.sh_setSi (s : State) (n : Nat) (x : Ssi) (m : Nat) : (s.setSi n x).sh m = s.sh m := rfl
@[simp] theorem State.sh_setMsix (s : State) (n : Nat) (x : MsixEntry) (m : Nat) : (s.setMsix n x).sh m = s.sh m := rfl
@[simp] theorem State.sh_setHseq (s : State) (n : Nat) (x : HSeq) (m : Nat) : (s.setHseq n x).sh m = s.sh m := rfl
@[simp] theorem State.sh_setLm (s : State) (n : Nat) (x : Lum) (m : Nat) : (s.setLm n x).sh m = s.sh m := rfl
@[simp] theorem State.sh_setMs (s : State) (n : Nat) (x : Mast) (m : Nat) : (s.setMs n x).sh m = s.sh m := rfl
@[simp] theorem State.sh_setSlot (s : State) (n : Nat) (x : Slot) (m : Nat) : (s.setSlot n x).sh m = s.sh m := rfl
@[simp] theorem State.sh_setSc (s : State) (n : Nat) (x : Scn) (m : Nat) : (s.setSc n x).sh m = s.sh m := rfl
@[simp] theorem State.sh_setBc (s : State) (n : Nat) (x : Bch) (m : Nat) : (s.setBc n x).sh m = s.sh m := rfl
@[simp] theorem State.sh_setRg (s : State) (n : Nat) (x : Ring) (m : Nat) : (s.setRg n x).sh m = s.sh m := rfl
@[simp] theorem State.sh_setPtpDom (s : State) (n : Nat) (x : PtpDom) (m : Nat) : (s.setPtpDom n x).sh m = s.sh m := rfl
@[simp] theorem State.sh_setSched (s : State) (n : Nat) (x : Sched) (m : Nat) : (s.setSched n x).sh m = s.sh m := rfl
@[simp] theorem State.sh_setRing (s : State) (n : Nat) (x : RingPort) (m : Nat) : (s.setRing n x).sh m = s.sh m := rfl

@[simp] theorem State.sc_setSc (s : State) (n : Nat) (x : Scn) : (s.setSc n x).sc n = x := by
  simp [State.sc, State.setSc]
theorem State.sc_setSc_ne (s : State) (n : Nat) (x : Scn) {m : Nat} (h : m ≠ n) : (s.setSc n x).sc m = s.sc m := by
  simp [State.sc, State.setSc, tblGet_set, h]
@[simp] theorem State.rd_setSc (s : State) (n : Nat) (x : Scn) (r : Reg) (i j : Nat) : (s.setSc n x).rd r i j = s.rd r i j := rfl
@[simp] theorem State.fld_setSc (s : State) (n : Nat) (x : Scn) (f : Fld) (i j : Nat) : (s.setSc n x).fld f i j = s.fld f i j := rfl
@[simp] theorem State.fine_setSc (s : State) (n : Nat) (x : Scn) : (s.setSc n x).fine = s.fine := rfl
@[simp] theorem State.outbox_setSc (s : State) (n : Nat) (x : Scn) : (s.setSc n x).outbox = s.outbox := rfl
@[simp] theorem State.sc_wr (s : State) (r : Reg) (v : Word) (i j : Nat) (n : Nat) : (s.wr r v i j).sc n = s.sc n := rfl
@[simp] theorem State.sc_setFld (s : State) (f : Fld) (v i j : Nat) (n : Nat) : (s.setFld f v i j).sc n = s.sc n := rfl
@[simp] theorem State.sc_bumpBy (s : State) (r : Reg) (k i j : Nat) (n : Nat) : (s.bumpBy r k i j).sc n = s.sc n := rfl
@[simp] theorem State.sc_bump (s : State) (r : Reg) (i j : Nat) (n : Nat) : (s.bump r i j).sc n = s.sc n := rfl
@[simp] theorem State.sc_emit (s : State) (o : Out) (n : Nat) : (s.emit o).sc n = s.sc n := rfl
@[simp] theorem State.sc_advance (s : State) (dt : Nat) (n : Nat) : (s.advance dt).sc n = s.sc n := rfl
@[simp] theorem State.sc_setLn (s : State) (n : Nat) (x : Lane) (m : Nat) : (s.setLn n x).sc m = s.sc m := rfl
@[simp] theorem State.sc_setPt (s : State) (n : Nat) (x : Port) (m : Nat) : (s.setPt n x).sc m = s.sc m := rfl
@[simp] theorem State.sc_setCp (s : State) (n : Nat) (x : CapPort) (m : Nat) : (s.setCp n x).sc m = s.sc m := rfl
@[simp] theorem State.sc_setCmp (s : State) (n : Nat) (x : Cmp) (m : Nat) : (s.setCmp n x).sc m = s.sc m := rfl
@[simp] theorem State.sc_setDm (s : State) (n : Nat) (x : Dma) (m : Nat) : (s.setDm n x).sc m = s.sc m := rfl
@[simp] theorem State.sc_setEn (s : State) (n : Nat) (x : Enc) (m : Nat) : (s.setEn n x).sc m = s.sc m := rfl
@[simp] theorem State.sc_setSi (s : State) (n : Nat) (x : Ssi) (m : Nat) : (s.setSi n x).sc m = s.sc m := rfl
@[simp] theorem State.sc_setMsix (s : State) (n : Nat) (x : MsixEntry) (m : Nat) : (s.setMsix n x).sc m = s.sc m := rfl
@[simp] theorem State.sc_setHseq (s : State) (n : Nat) (x : HSeq) (m : Nat) : (s.setHseq n x).sc m = s.sc m := rfl
@[simp] theorem State.sc_setLm (s : State) (n : Nat) (x : Lum) (m : Nat) : (s.setLm n x).sc m = s.sc m := rfl
@[simp] theorem State.sc_setMs (s : State) (n : Nat) (x : Mast) (m : Nat) : (s.setMs n x).sc m = s.sc m := rfl
@[simp] theorem State.sc_setSlot (s : State) (n : Nat) (x : Slot) (m : Nat) : (s.setSlot n x).sc m = s.sc m := rfl
@[simp] theorem State.sc_setSh (s : State) (n : Nat) (x : Sht) (m : Nat) : (s.setSh n x).sc m = s.sc m := rfl
@[simp] theorem State.sc_setBc (s : State) (n : Nat) (x : Bch) (m : Nat) : (s.setBc n x).sc m = s.sc m := rfl
@[simp] theorem State.sc_setRg (s : State) (n : Nat) (x : Ring) (m : Nat) : (s.setRg n x).sc m = s.sc m := rfl
@[simp] theorem State.sc_setPtpDom (s : State) (n : Nat) (x : PtpDom) (m : Nat) : (s.setPtpDom n x).sc m = s.sc m := rfl
@[simp] theorem State.sc_setSched (s : State) (n : Nat) (x : Sched) (m : Nat) : (s.setSched n x).sc m = s.sc m := rfl
@[simp] theorem State.sc_setRing (s : State) (n : Nat) (x : RingPort) (m : Nat) : (s.setRing n x).sc m = s.sc m := rfl

@[simp] theorem State.bc_setBc (s : State) (n : Nat) (x : Bch) : (s.setBc n x).bc n = x := by
  simp [State.bc, State.setBc]
theorem State.bc_setBc_ne (s : State) (n : Nat) (x : Bch) {m : Nat} (h : m ≠ n) : (s.setBc n x).bc m = s.bc m := by
  simp [State.bc, State.setBc, tblGet_set, h]
@[simp] theorem State.rd_setBc (s : State) (n : Nat) (x : Bch) (r : Reg) (i j : Nat) : (s.setBc n x).rd r i j = s.rd r i j := rfl
@[simp] theorem State.fld_setBc (s : State) (n : Nat) (x : Bch) (f : Fld) (i j : Nat) : (s.setBc n x).fld f i j = s.fld f i j := rfl
@[simp] theorem State.fine_setBc (s : State) (n : Nat) (x : Bch) : (s.setBc n x).fine = s.fine := rfl
@[simp] theorem State.outbox_setBc (s : State) (n : Nat) (x : Bch) : (s.setBc n x).outbox = s.outbox := rfl
@[simp] theorem State.bc_wr (s : State) (r : Reg) (v : Word) (i j : Nat) (n : Nat) : (s.wr r v i j).bc n = s.bc n := rfl
@[simp] theorem State.bc_setFld (s : State) (f : Fld) (v i j : Nat) (n : Nat) : (s.setFld f v i j).bc n = s.bc n := rfl
@[simp] theorem State.bc_bumpBy (s : State) (r : Reg) (k i j : Nat) (n : Nat) : (s.bumpBy r k i j).bc n = s.bc n := rfl
@[simp] theorem State.bc_bump (s : State) (r : Reg) (i j : Nat) (n : Nat) : (s.bump r i j).bc n = s.bc n := rfl
@[simp] theorem State.bc_emit (s : State) (o : Out) (n : Nat) : (s.emit o).bc n = s.bc n := rfl
@[simp] theorem State.bc_advance (s : State) (dt : Nat) (n : Nat) : (s.advance dt).bc n = s.bc n := rfl
@[simp] theorem State.bc_setLn (s : State) (n : Nat) (x : Lane) (m : Nat) : (s.setLn n x).bc m = s.bc m := rfl
@[simp] theorem State.bc_setPt (s : State) (n : Nat) (x : Port) (m : Nat) : (s.setPt n x).bc m = s.bc m := rfl
@[simp] theorem State.bc_setCp (s : State) (n : Nat) (x : CapPort) (m : Nat) : (s.setCp n x).bc m = s.bc m := rfl
@[simp] theorem State.bc_setCmp (s : State) (n : Nat) (x : Cmp) (m : Nat) : (s.setCmp n x).bc m = s.bc m := rfl
@[simp] theorem State.bc_setDm (s : State) (n : Nat) (x : Dma) (m : Nat) : (s.setDm n x).bc m = s.bc m := rfl
@[simp] theorem State.bc_setEn (s : State) (n : Nat) (x : Enc) (m : Nat) : (s.setEn n x).bc m = s.bc m := rfl
@[simp] theorem State.bc_setSi (s : State) (n : Nat) (x : Ssi) (m : Nat) : (s.setSi n x).bc m = s.bc m := rfl
@[simp] theorem State.bc_setMsix (s : State) (n : Nat) (x : MsixEntry) (m : Nat) : (s.setMsix n x).bc m = s.bc m := rfl
@[simp] theorem State.bc_setHseq (s : State) (n : Nat) (x : HSeq) (m : Nat) : (s.setHseq n x).bc m = s.bc m := rfl
@[simp] theorem State.bc_setLm (s : State) (n : Nat) (x : Lum) (m : Nat) : (s.setLm n x).bc m = s.bc m := rfl
@[simp] theorem State.bc_setMs (s : State) (n : Nat) (x : Mast) (m : Nat) : (s.setMs n x).bc m = s.bc m := rfl
@[simp] theorem State.bc_setSlot (s : State) (n : Nat) (x : Slot) (m : Nat) : (s.setSlot n x).bc m = s.bc m := rfl
@[simp] theorem State.bc_setSh (s : State) (n : Nat) (x : Sht) (m : Nat) : (s.setSh n x).bc m = s.bc m := rfl
@[simp] theorem State.bc_setSc (s : State) (n : Nat) (x : Scn) (m : Nat) : (s.setSc n x).bc m = s.bc m := rfl
@[simp] theorem State.bc_setRg (s : State) (n : Nat) (x : Ring) (m : Nat) : (s.setRg n x).bc m = s.bc m := rfl
@[simp] theorem State.bc_setPtpDom (s : State) (n : Nat) (x : PtpDom) (m : Nat) : (s.setPtpDom n x).bc m = s.bc m := rfl
@[simp] theorem State.bc_setSched (s : State) (n : Nat) (x : Sched) (m : Nat) : (s.setSched n x).bc m = s.bc m := rfl
@[simp] theorem State.bc_setRing (s : State) (n : Nat) (x : RingPort) (m : Nat) : (s.setRing n x).bc m = s.bc m := rfl

@[simp] theorem State.rg_setRg (s : State) (n : Nat) (x : Ring) : (s.setRg n x).rg n = x := by
  simp [State.rg, State.setRg]
theorem State.rg_setRg_ne (s : State) (n : Nat) (x : Ring) {m : Nat} (h : m ≠ n) : (s.setRg n x).rg m = s.rg m := by
  simp [State.rg, State.setRg, tblGet_set, h]
@[simp] theorem State.rd_setRg (s : State) (n : Nat) (x : Ring) (r : Reg) (i j : Nat) : (s.setRg n x).rd r i j = s.rd r i j := rfl
@[simp] theorem State.fld_setRg (s : State) (n : Nat) (x : Ring) (f : Fld) (i j : Nat) : (s.setRg n x).fld f i j = s.fld f i j := rfl
@[simp] theorem State.fine_setRg (s : State) (n : Nat) (x : Ring) : (s.setRg n x).fine = s.fine := rfl
@[simp] theorem State.outbox_setRg (s : State) (n : Nat) (x : Ring) : (s.setRg n x).outbox = s.outbox := rfl
@[simp] theorem State.rg_wr (s : State) (r : Reg) (v : Word) (i j : Nat) (n : Nat) : (s.wr r v i j).rg n = s.rg n := rfl
@[simp] theorem State.rg_setFld (s : State) (f : Fld) (v i j : Nat) (n : Nat) : (s.setFld f v i j).rg n = s.rg n := rfl
@[simp] theorem State.rg_bumpBy (s : State) (r : Reg) (k i j : Nat) (n : Nat) : (s.bumpBy r k i j).rg n = s.rg n := rfl
@[simp] theorem State.rg_bump (s : State) (r : Reg) (i j : Nat) (n : Nat) : (s.bump r i j).rg n = s.rg n := rfl
@[simp] theorem State.rg_emit (s : State) (o : Out) (n : Nat) : (s.emit o).rg n = s.rg n := rfl
@[simp] theorem State.rg_advance (s : State) (dt : Nat) (n : Nat) : (s.advance dt).rg n = s.rg n := rfl
@[simp] theorem State.rg_setLn (s : State) (n : Nat) (x : Lane) (m : Nat) : (s.setLn n x).rg m = s.rg m := rfl
@[simp] theorem State.rg_setPt (s : State) (n : Nat) (x : Port) (m : Nat) : (s.setPt n x).rg m = s.rg m := rfl
@[simp] theorem State.rg_setCp (s : State) (n : Nat) (x : CapPort) (m : Nat) : (s.setCp n x).rg m = s.rg m := rfl
@[simp] theorem State.rg_setCmp (s : State) (n : Nat) (x : Cmp) (m : Nat) : (s.setCmp n x).rg m = s.rg m := rfl
@[simp] theorem State.rg_setDm (s : State) (n : Nat) (x : Dma) (m : Nat) : (s.setDm n x).rg m = s.rg m := rfl
@[simp] theorem State.rg_setEn (s : State) (n : Nat) (x : Enc) (m : Nat) : (s.setEn n x).rg m = s.rg m := rfl
@[simp] theorem State.rg_setSi (s : State) (n : Nat) (x : Ssi) (m : Nat) : (s.setSi n x).rg m = s.rg m := rfl
@[simp] theorem State.rg_setMsix (s : State) (n : Nat) (x : MsixEntry) (m : Nat) : (s.setMsix n x).rg m = s.rg m := rfl
@[simp] theorem State.rg_setHseq (s : State) (n : Nat) (x : HSeq) (m : Nat) : (s.setHseq n x).rg m = s.rg m := rfl
@[simp] theorem State.rg_setLm (s : State) (n : Nat) (x : Lum) (m : Nat) : (s.setLm n x).rg m = s.rg m := rfl
@[simp] theorem State.rg_setMs (s : State) (n : Nat) (x : Mast) (m : Nat) : (s.setMs n x).rg m = s.rg m := rfl
@[simp] theorem State.rg_setSlot (s : State) (n : Nat) (x : Slot) (m : Nat) : (s.setSlot n x).rg m = s.rg m := rfl
@[simp] theorem State.rg_setSh (s : State) (n : Nat) (x : Sht) (m : Nat) : (s.setSh n x).rg m = s.rg m := rfl
@[simp] theorem State.rg_setSc (s : State) (n : Nat) (x : Scn) (m : Nat) : (s.setSc n x).rg m = s.rg m := rfl
@[simp] theorem State.rg_setBc (s : State) (n : Nat) (x : Bch) (m : Nat) : (s.setBc n x).rg m = s.rg m := rfl
@[simp] theorem State.rg_setPtpDom (s : State) (n : Nat) (x : PtpDom) (m : Nat) : (s.setPtpDom n x).rg m = s.rg m := rfl
@[simp] theorem State.rg_setSched (s : State) (n : Nat) (x : Sched) (m : Nat) : (s.setSched n x).rg m = s.rg m := rfl
@[simp] theorem State.rg_setRing (s : State) (n : Nat) (x : RingPort) (m : Nat) : (s.setRing n x).rg m = s.rg m := rfl

@[simp] theorem State.dom_setPtpDom (s : State) (n : Nat) (x : PtpDom) : (s.setPtpDom n x).dom n = x := by
  simp [State.dom, State.setPtpDom]
theorem State.dom_setPtpDom_ne (s : State) (n : Nat) (x : PtpDom) {m : Nat} (h : m ≠ n) : (s.setPtpDom n x).dom m = s.dom m := by
  simp [State.dom, State.setPtpDom, tblGet_set, h]
@[simp] theorem State.rd_setPtpDom (s : State) (n : Nat) (x : PtpDom) (r : Reg) (i j : Nat) : (s.setPtpDom n x).rd r i j = s.rd r i j := rfl
@[simp] theorem State.fld_setPtpDom (s : State) (n : Nat) (x : PtpDom) (f : Fld) (i j : Nat) : (s.setPtpDom n x).fld f i j = s.fld f i j := rfl
@[simp] theorem State.fine_setPtpDom (s : State) (n : Nat) (x : PtpDom) : (s.setPtpDom n x).fine = s.fine := rfl
@[simp] theorem State.outbox_setPtpDom (s : State) (n : Nat) (x : PtpDom) : (s.setPtpDom n x).outbox = s.outbox := rfl
@[simp] theorem State.dom_wr (s : State) (r : Reg) (v : Word) (i j : Nat) (n : Nat) : (s.wr r v i j).dom n = s.dom n := rfl
@[simp] theorem State.dom_setFld (s : State) (f : Fld) (v i j : Nat) (n : Nat) : (s.setFld f v i j).dom n = s.dom n := rfl
@[simp] theorem State.dom_bumpBy (s : State) (r : Reg) (k i j : Nat) (n : Nat) : (s.bumpBy r k i j).dom n = s.dom n := rfl
@[simp] theorem State.dom_bump (s : State) (r : Reg) (i j : Nat) (n : Nat) : (s.bump r i j).dom n = s.dom n := rfl
@[simp] theorem State.dom_emit (s : State) (o : Out) (n : Nat) : (s.emit o).dom n = s.dom n := rfl
@[simp] theorem State.dom_advance (s : State) (dt : Nat) (n : Nat) : (s.advance dt).dom n = s.dom n := rfl
@[simp] theorem State.dom_setLn (s : State) (n : Nat) (x : Lane) (m : Nat) : (s.setLn n x).dom m = s.dom m := rfl
@[simp] theorem State.dom_setPt (s : State) (n : Nat) (x : Port) (m : Nat) : (s.setPt n x).dom m = s.dom m := rfl
@[simp] theorem State.dom_setCp (s : State) (n : Nat) (x : CapPort) (m : Nat) : (s.setCp n x).dom m = s.dom m := rfl
@[simp] theorem State.dom_setCmp (s : State) (n : Nat) (x : Cmp) (m : Nat) : (s.setCmp n x).dom m = s.dom m := rfl
@[simp] theorem State.dom_setDm (s : State) (n : Nat) (x : Dma) (m : Nat) : (s.setDm n x).dom m = s.dom m := rfl
@[simp] theorem State.dom_setEn (s : State) (n : Nat) (x : Enc) (m : Nat) : (s.setEn n x).dom m = s.dom m := rfl
@[simp] theorem State.dom_setSi (s : State) (n : Nat) (x : Ssi) (m : Nat) : (s.setSi n x).dom m = s.dom m := rfl
@[simp] theorem State.dom_setMsix (s : State) (n : Nat) (x : MsixEntry) (m : Nat) : (s.setMsix n x).dom m = s.dom m := rfl
@[simp] theorem State.dom_setHseq (s : State) (n : Nat) (x : HSeq) (m : Nat) : (s.setHseq n x).dom m = s.dom m := rfl
@[simp] theorem State.dom_setLm (s : State) (n : Nat) (x : Lum) (m : Nat) : (s.setLm n x).dom m = s.dom m := rfl
@[simp] theorem State.dom_setMs (s : State) (n : Nat) (x : Mast) (m : Nat) : (s.setMs n x).dom m = s.dom m := rfl
@[simp] theorem State.dom_setSlot (s : State) (n : Nat) (x : Slot) (m : Nat) : (s.setSlot n x).dom m = s.dom m := rfl
@[simp] theorem State.dom_setSh (s : State) (n : Nat) (x : Sht) (m : Nat) : (s.setSh n x).dom m = s.dom m := rfl
@[simp] theorem State.dom_setSc (s : State) (n : Nat) (x : Scn) (m : Nat) : (s.setSc n x).dom m = s.dom m := rfl
@[simp] theorem State.dom_setBc (s : State) (n : Nat) (x : Bch) (m : Nat) : (s.setBc n x).dom m = s.dom m := rfl
@[simp] theorem State.dom_setRg (s : State) (n : Nat) (x : Ring) (m : Nat) : (s.setRg n x).dom m = s.dom m := rfl
@[simp] theorem State.dom_setSched (s : State) (n : Nat) (x : Sched) (m : Nat) : (s.setSched n x).dom m = s.dom m := rfl
@[simp] theorem State.dom_setRing (s : State) (n : Nat) (x : RingPort) (m : Nat) : (s.setRing n x).dom m = s.dom m := rfl

@[simp] theorem State.sched_setSched (s : State) (n : Nat) (x : Sched) : (s.setSched n x).sched n = x := by
  simp [State.sched, State.setSched]
theorem State.sched_setSched_ne (s : State) (n : Nat) (x : Sched) {m : Nat} (h : m ≠ n) : (s.setSched n x).sched m = s.sched m := by
  simp [State.sched, State.setSched, tblGet_set, h]
@[simp] theorem State.rd_setSched (s : State) (n : Nat) (x : Sched) (r : Reg) (i j : Nat) : (s.setSched n x).rd r i j = s.rd r i j := rfl
@[simp] theorem State.fld_setSched (s : State) (n : Nat) (x : Sched) (f : Fld) (i j : Nat) : (s.setSched n x).fld f i j = s.fld f i j := rfl
@[simp] theorem State.fine_setSched (s : State) (n : Nat) (x : Sched) : (s.setSched n x).fine = s.fine := rfl
@[simp] theorem State.outbox_setSched (s : State) (n : Nat) (x : Sched) : (s.setSched n x).outbox = s.outbox := rfl
@[simp] theorem State.sched_wr (s : State) (r : Reg) (v : Word) (i j : Nat) (n : Nat) : (s.wr r v i j).sched n = s.sched n := rfl
@[simp] theorem State.sched_setFld (s : State) (f : Fld) (v i j : Nat) (n : Nat) : (s.setFld f v i j).sched n = s.sched n := rfl
@[simp] theorem State.sched_bumpBy (s : State) (r : Reg) (k i j : Nat) (n : Nat) : (s.bumpBy r k i j).sched n = s.sched n := rfl
@[simp] theorem State.sched_bump (s : State) (r : Reg) (i j : Nat) (n : Nat) : (s.bump r i j).sched n = s.sched n := rfl
@[simp] theorem State.sched_emit (s : State) (o : Out) (n : Nat) : (s.emit o).sched n = s.sched n := rfl
@[simp] theorem State.sched_advance (s : State) (dt : Nat) (n : Nat) : (s.advance dt).sched n = s.sched n := rfl
@[simp] theorem State.sched_setLn (s : State) (n : Nat) (x : Lane) (m : Nat) : (s.setLn n x).sched m = s.sched m := rfl
@[simp] theorem State.sched_setPt (s : State) (n : Nat) (x : Port) (m : Nat) : (s.setPt n x).sched m = s.sched m := rfl
@[simp] theorem State.sched_setCp (s : State) (n : Nat) (x : CapPort) (m : Nat) : (s.setCp n x).sched m = s.sched m := rfl
@[simp] theorem State.sched_setCmp (s : State) (n : Nat) (x : Cmp) (m : Nat) : (s.setCmp n x).sched m = s.sched m := rfl
@[simp] theorem State.sched_setDm (s : State) (n : Nat) (x : Dma) (m : Nat) : (s.setDm n x).sched m = s.sched m := rfl
@[simp] theorem State.sched_setEn (s : State) (n : Nat) (x : Enc) (m : Nat) : (s.setEn n x).sched m = s.sched m := rfl
@[simp] theorem State.sched_setSi (s : State) (n : Nat) (x : Ssi) (m : Nat) : (s.setSi n x).sched m = s.sched m := rfl
@[simp] theorem State.sched_setMsix (s : State) (n : Nat) (x : MsixEntry) (m : Nat) : (s.setMsix n x).sched m = s.sched m := rfl
@[simp] theorem State.sched_setHseq (s : State) (n : Nat) (x : HSeq) (m : Nat) : (s.setHseq n x).sched m = s.sched m := rfl
@[simp] theorem State.sched_setLm (s : State) (n : Nat) (x : Lum) (m : Nat) : (s.setLm n x).sched m = s.sched m := rfl
@[simp] theorem State.sched_setMs (s : State) (n : Nat) (x : Mast) (m : Nat) : (s.setMs n x).sched m = s.sched m := rfl
@[simp] theorem State.sched_setSlot (s : State) (n : Nat) (x : Slot) (m : Nat) : (s.setSlot n x).sched m = s.sched m := rfl
@[simp] theorem State.sched_setSh (s : State) (n : Nat) (x : Sht) (m : Nat) : (s.setSh n x).sched m = s.sched m := rfl
@[simp] theorem State.sched_setSc (s : State) (n : Nat) (x : Scn) (m : Nat) : (s.setSc n x).sched m = s.sched m := rfl
@[simp] theorem State.sched_setBc (s : State) (n : Nat) (x : Bch) (m : Nat) : (s.setBc n x).sched m = s.sched m := rfl
@[simp] theorem State.sched_setRg (s : State) (n : Nat) (x : Ring) (m : Nat) : (s.setRg n x).sched m = s.sched m := rfl
@[simp] theorem State.sched_setPtpDom (s : State) (n : Nat) (x : PtpDom) (m : Nat) : (s.setPtpDom n x).sched m = s.sched m := rfl
@[simp] theorem State.sched_setRing (s : State) (n : Nat) (x : RingPort) (m : Nat) : (s.setRing n x).sched m = s.sched m := rfl

@[simp] theorem State.ring_setRing (s : State) (n : Nat) (x : RingPort) : (s.setRing n x).ring n = x := by
  simp [State.ring, State.setRing]
theorem State.ring_setRing_ne (s : State) (n : Nat) (x : RingPort) {m : Nat} (h : m ≠ n) : (s.setRing n x).ring m = s.ring m := by
  simp [State.ring, State.setRing, tblGet_set, h]
@[simp] theorem State.rd_setRing (s : State) (n : Nat) (x : RingPort) (r : Reg) (i j : Nat) : (s.setRing n x).rd r i j = s.rd r i j := rfl
@[simp] theorem State.fld_setRing (s : State) (n : Nat) (x : RingPort) (f : Fld) (i j : Nat) : (s.setRing n x).fld f i j = s.fld f i j := rfl
@[simp] theorem State.fine_setRing (s : State) (n : Nat) (x : RingPort) : (s.setRing n x).fine = s.fine := rfl
@[simp] theorem State.outbox_setRing (s : State) (n : Nat) (x : RingPort) : (s.setRing n x).outbox = s.outbox := rfl
@[simp] theorem State.ring_wr (s : State) (r : Reg) (v : Word) (i j : Nat) (n : Nat) : (s.wr r v i j).ring n = s.ring n := rfl
@[simp] theorem State.ring_setFld (s : State) (f : Fld) (v i j : Nat) (n : Nat) : (s.setFld f v i j).ring n = s.ring n := rfl
@[simp] theorem State.ring_bumpBy (s : State) (r : Reg) (k i j : Nat) (n : Nat) : (s.bumpBy r k i j).ring n = s.ring n := rfl
@[simp] theorem State.ring_bump (s : State) (r : Reg) (i j : Nat) (n : Nat) : (s.bump r i j).ring n = s.ring n := rfl
@[simp] theorem State.ring_emit (s : State) (o : Out) (n : Nat) : (s.emit o).ring n = s.ring n := rfl
@[simp] theorem State.ring_advance (s : State) (dt : Nat) (n : Nat) : (s.advance dt).ring n = s.ring n := rfl
@[simp] theorem State.ring_setLn (s : State) (n : Nat) (x : Lane) (m : Nat) : (s.setLn n x).ring m = s.ring m := rfl
@[simp] theorem State.ring_setPt (s : State) (n : Nat) (x : Port) (m : Nat) : (s.setPt n x).ring m = s.ring m := rfl
@[simp] theorem State.ring_setCp (s : State) (n : Nat) (x : CapPort) (m : Nat) : (s.setCp n x).ring m = s.ring m := rfl
@[simp] theorem State.ring_setCmp (s : State) (n : Nat) (x : Cmp) (m : Nat) : (s.setCmp n x).ring m = s.ring m := rfl
@[simp] theorem State.ring_setDm (s : State) (n : Nat) (x : Dma) (m : Nat) : (s.setDm n x).ring m = s.ring m := rfl
@[simp] theorem State.ring_setEn (s : State) (n : Nat) (x : Enc) (m : Nat) : (s.setEn n x).ring m = s.ring m := rfl
@[simp] theorem State.ring_setSi (s : State) (n : Nat) (x : Ssi) (m : Nat) : (s.setSi n x).ring m = s.ring m := rfl
@[simp] theorem State.ring_setMsix (s : State) (n : Nat) (x : MsixEntry) (m : Nat) : (s.setMsix n x).ring m = s.ring m := rfl
@[simp] theorem State.ring_setHseq (s : State) (n : Nat) (x : HSeq) (m : Nat) : (s.setHseq n x).ring m = s.ring m := rfl
@[simp] theorem State.ring_setLm (s : State) (n : Nat) (x : Lum) (m : Nat) : (s.setLm n x).ring m = s.ring m := rfl
@[simp] theorem State.ring_setMs (s : State) (n : Nat) (x : Mast) (m : Nat) : (s.setMs n x).ring m = s.ring m := rfl
@[simp] theorem State.ring_setSlot (s : State) (n : Nat) (x : Slot) (m : Nat) : (s.setSlot n x).ring m = s.ring m := rfl
@[simp] theorem State.ring_setSh (s : State) (n : Nat) (x : Sht) (m : Nat) : (s.setSh n x).ring m = s.ring m := rfl
@[simp] theorem State.ring_setSc (s : State) (n : Nat) (x : Scn) (m : Nat) : (s.setSc n x).ring m = s.ring m := rfl
@[simp] theorem State.ring_setBc (s : State) (n : Nat) (x : Bch) (m : Nat) : (s.setBc n x).ring m = s.ring m := rfl
@[simp] theorem State.ring_setRg (s : State) (n : Nat) (x : Ring) (m : Nat) : (s.setRg n x).ring m = s.ring m := rfl
@[simp] theorem State.ring_setPtpDom (s : State) (n : Nat) (x : PtpDom) (m : Nat) : (s.setPtpDom n x).ring m = s.ring m := rfl
@[simp] theorem State.ring_setSched (s : State) (n : Nat) (x : Sched) (m : Nat) : (s.setSched n x).ring m = s.ring m := rfl

@[simp] theorem State.fld_emit (s : State) (o : Out) (f : Fld) (i j : Nat) : (s.emit o).fld f i j = s.fld f i j := rfl
@[simp] theorem State.fld_advance (s : State) (dt : Nat) (f : Fld) (i j : Nat) : (s.advance dt).fld f i j = s.fld f i j := rfl

end Sys2Proof.Machine
end

