-- ==== Sys2Proof/Laws/Reads.lean ====
section
/-!
SUPPORT. How a register or a field reads after an update: the same one, one of another register, of another instance, or a field
beside it; and through an operation that does not change its register.
-/

namespace Sys2Proof.Machine

theorem State.fld_setFld_reg (s : State) {f g : Fld} (v i j i' j' : Nat) (hg : g.lo + g.width ≤ 32) (h : g.reg ≠ f.reg) :
    (s.setFld f v i j).fld g i' j' = s.fld g i' j' := State.fld_setFld_ne s v i j i' j' hg (Or.inl h)
theorem State.fld_setFld_below (s : State) {f g : Fld} (v i j i' j' : Nat) (hg : g.lo + g.width ≤ 32) (h : g.lo + g.width ≤ f.lo) :
    (s.setFld f v i j).fld g i' j' = s.fld g i' j' := State.fld_setFld_ne s v i j i' j' hg (Or.inr (Or.inr (Or.inr (Or.inl h))))
theorem State.fld_setFld_above (s : State) {f g : Fld} (v i j i' j' : Nat) (hg : g.lo + g.width ≤ 32) (h : f.lo + f.width ≤ g.lo) :
    (s.setFld f v i j).fld g i' j' = s.fld g i' j' := State.fld_setFld_ne s v i j i' j' hg (Or.inr (Or.inr (Or.inr (Or.inr h))))
theorem State.fld_setFld_inst (s : State) {f g : Fld} (v i j i' j' : Nat) (hg : g.lo + g.width ≤ 32) (h : i' ≠ i) :
    (s.setFld f v i j).fld g i' j' = s.fld g i' j' := State.fld_setFld_ne s v i j i' j' hg (Or.inr (Or.inl h))
theorem State.fld_setFld_same (s : State) {f : Fld} (v i j : Nat) (h : f.lo + f.width ≤ 32) :
    (s.setFld f v i j).fld f i j = v % 2 ^ f.width := State.fld_setFld_self s v i j h
theorem State.rd_setFld_reg (s : State) {f : Fld} {r : Reg} (v i j i' j' : Nat) (h : r ≠ f.reg) :
    (s.setFld f v i j).rd r i' j' = s.rd r i' j' := by rw [State.rd_setFld, if_neg (fun x => h x.1)]
theorem State.rd_wr_reg (s : State) {r r' : Reg} (v : Word) (i j i' j' : Nat) (h : r' ≠ r) :
    (s.wr r v i j).rd r' i' j' = s.rd r' i' j' := by rw [State.rd_wr, if_neg (fun x => h x.1)]
theorem State.fld_wr_reg (s : State) {r : Reg} {g : Fld} (v : Word) (i j i' j' : Nat) (h : g.reg ≠ r) :
    (s.wr r v i j).fld g i' j' = s.fld g i' j' := by rw [State.fld_wr, if_neg (fun x => h x.1)]
theorem State.fld_wr_same (s : State) {r : Reg} {g : Fld} (v : Word) (i j : Nat) (h : g.reg = r) :
    (s.wr r v i j).fld g i j = getBits v g.lo g.width := by rw [State.fld_wr, if_pos ⟨h, rfl, rfl⟩]
theorem State.rd_bump_same (s : State) (r : Reg) (i j : Nat) :
    (s.bump r i j).rd r i j = BitVec.ofNat 32 (min ((s.rd r i j).toNat + 1) 0xFFFFFFFF) := by
  rw [State.bump, State.rd_bumpBy, if_pos ⟨rfl, rfl, rfl⟩]
theorem State.rd_bumpBy_same (s : State) (r : Reg) (n i j : Nat) :
    (s.bumpBy r n i j).rd r i j = BitVec.ofNat 32 (min ((s.rd r i j).toNat + n) 0xFFFFFFFF) := by
  rw [State.rd_bumpBy, if_pos ⟨rfl, rfl, rfl⟩]
theorem State.rd_bump_reg (s : State) {r r' : Reg} (i j i' j' : Nat) (h : r' ≠ r) :
    (s.bump r i j).rd r' i' j' = s.rd r' i' j' := by rw [State.bump, State.rd_bumpBy, if_neg (fun x => h x.1)]
theorem State.rd_bumpBy_reg (s : State) {r r' : Reg} (n i j i' j' : Nat) (h : r' ≠ r) :
    (s.bumpBy r n i j).rd r' i' j' = s.rd r' i' j' := by rw [State.rd_bumpBy, if_neg (fun x => h x.1)]
theorem State.fld_bump_reg (s : State) {r : Reg} {g : Fld} (i j i' j' : Nat) (h : g.reg ≠ r) :
    (s.bump r i j).fld g i' j' = s.fld g i' j' := by unfold State.fld; rw [State.rd_bump_reg _ _ _ _ _ h]
theorem State.fld_bumpBy_reg (s : State) {r : Reg} {g : Fld} (n i j i' j' : Nat) (h : g.reg ≠ r) :
    (s.bumpBy r n i j).fld g i' j' = s.fld g i' j' := by unfold State.fld; rw [State.rd_bumpBy_reg _ _ _ _ _ _ h]
theorem Changes.fld {P R} {s t : State} (h : Changes P R s t) {f : Fld} (hf : f.reg ∉ R) (i j : Nat) :
    t.fld f i j = s.fld f i j := by unfold State.fld; rw [h.regs _ hf]

/-! ### A unit of a part that an operation does not change -/

theorem Changes.ln {P R} {s t : State} (h : Changes P R s t) (hp : Part.lnk ∉ P) (n : Nat) : t.ln n = s.ln n := by
  have e := h.parts .lnk hp
  simp only [Part.same] at e
  simp only [State.ln, e]
theorem Changes.pt {P R} {s t : State} (h : Changes P R s t) (hp : Part.port ∉ P) (n : Nat) : t.pt n = s.pt n := by
  have e := h.parts .port hp
  simp only [Part.same] at e
  simp only [State.pt, e]
theorem Changes.cp {P R} {s t : State} (h : Changes P R s t) (hp : Part.cap ∉ P) (n : Nat) : t.cp n = s.cp n := by
  have e := h.parts .cap hp
  simp only [Part.same] at e
  simp only [State.cp, e]
theorem Changes.dm {P R} {s t : State} (h : Changes P R s t) (hp : Part.dma ∉ P) (n : Nat) : t.dm n = s.dm n := by
  have e := h.parts .dma hp
  simp only [Part.same] at e
  simp only [State.dm, e]
theorem Changes.en {P R} {s t : State} (h : Changes P R s t) (hp : Part.enc ∉ P) (n : Nat) : t.en n = s.en n := by
  have e := h.parts .enc hp
  simp only [Part.same] at e
  simp only [State.en, e]
theorem Changes.si {P R} {s t : State} (h : Changes P R s t) (hp : Part.ssi ∉ P) (n : Nat) : t.si n = s.si n := by
  have e := h.parts .ssi hp
  simp only [Part.same] at e
  simp only [State.si, e]
theorem Changes.lm {P R} {s t : State} (h : Changes P R s t) (hp : Part.lum ∉ P) (n : Nat) : t.lm n = s.lm n := by
  have e := h.parts .lum hp
  simp only [Part.same] at e
  simp only [State.lm, e]
theorem Changes.ms {P R} {s t : State} (h : Changes P R s t) (hp : Part.mst ∉ P) (n : Nat) : t.ms n = s.ms n := by
  have e := h.parts .mst hp
  simp only [Part.same] at e
  simp only [State.ms, e]
theorem Changes.sh {P R} {s t : State} (h : Changes P R s t) (hp : Part.sht ∉ P) (n : Nat) : t.sh n = s.sh n := by
  have e := h.parts .sht hp
  simp only [Part.same] at e
  simp only [State.sh, e]
theorem Changes.sc {P R} {s t : State} (h : Changes P R s t) (hp : Part.scn ∉ P) (n : Nat) : t.sc n = s.sc n := by
  have e := h.parts .scn hp
  simp only [Part.same] at e
  simp only [State.sc, e]
theorem Changes.bc {P R} {s t : State} (h : Changes P R s t) (hp : Part.bch ∉ P) (n : Nat) : t.bc n = s.bc n := by
  have e := h.parts .bch hp
  simp only [Part.same] at e
  simp only [State.bc, e]
theorem Changes.cmpUnit {P R} {s t : State} (h : Changes P R s t) (hp : Part.capt ∉ P) (n : Nat) : t.cmpUnit n = s.cmpUnit n := by
  have e := h.parts .capt hp
  simp only [Part.same] at e
  simp only [State.cmpUnit, e]
theorem Changes.hseq {P R} {s t : State} (h : Changes P R s t) (hp : Part.hal ∉ P) (n : Nat) : t.hseq n = s.hseq n := by
  have e := h.parts .hal hp
  simp only [Part.same] at e
  simp only [State.hseq, e]
theorem Changes.slot {P R} {s t : State} (h : Changes P R s t) (hp : Part.ses ∉ P) (n : Nat) : t.slot n = s.slot n := by
  have e := h.parts .ses hp
  simp only [Part.same] at e
  simp only [State.slot, e]
theorem Changes.dom {P R} {s t : State} (h : Changes P R s t) (hp : Part.tim ∉ P) (n : Nat) : t.dom n = s.dom n := by
  have e := h.parts .tim hp
  simp only [Part.same] at e
  simp only [State.dom, e]
theorem Changes.sched {P R} {s t : State} (h : Changes P R s t) (hp : Part.tim ∉ P) (n : Nat) : t.sched n = s.sched n := by
  have e := h.parts .tim hp
  simp only [Part.same] at e
  simp only [State.sched, e]
theorem Changes.ring {P R} {s t : State} (h : Changes P R s t) (hp : Part.tim ∉ P) (n : Nat) : t.ring n = s.ring n := by
  have e := h.parts .tim hp
  simp only [Part.same] at e
  simp only [State.ring, e]
theorem Changes.msixEntry {P R} {s t : State} (h : Changes P R s t) (hp : Part.pce ∉ P) (n : Nat) :
    t.msixEntry n = s.msixEntry n := by
  have e := congrArg (·.msix) (h.parts .pce hp)
  simp only at e
  simp only [State.msixEntry, e]
theorem Changes.rg {P R} {s t : State} (h : Changes P R s t) (hp : Part.fst ∉ P) (n : Nat) : t.rg n = s.rg n := by
  have e := congrArg (·.rings) (h.parts .fst hp)
  simp only at e
  simp only [State.rg, e]

end Sys2Proof.Machine
end

