-- ==== Sys2Proof/Laws/Lanes.lean ====
section
/-!
SUPPORT. What sending a row does to the lanes and ports: nothing but their transmitters and the slots they have used (R46, R49,
R51, R52).
-/

namespace Sys2Proof.Machine

/-- A lane without what sending changes: scrambler, line bits, burst, near-end loopback, generator. -/
def Lane.unsent (x : Lane) : Lane := { x with tx := 0, line := 0, inj := none, loop := [], gen := 0 }

/-- A port without what sending changes: the slots since its last skip and those stuffed, SKIP_SEQ, the segments that wait. -/
def Port.unsent (x : Port) : Port := { x with txStuff := 0, slots := 0, skipAt := 0, txSeq := 0, segs := [] }

/-- From `s` to `t` the lanes and the ports differ only in what sending changes. -/
structure SentOnly (s t : State) : Prop where
  lane : ∀ m, (t.ln m).unsent = (s.ln m).unsent
  port : ∀ p, (t.pt p).unsent = (s.pt p).unsent

theorem SentOnly.refl (s : State) : SentOnly s s := ⟨fun _ => rfl, fun _ => rfl⟩

theorem SentOnly.trans {s t u : State} (h : SentOnly s t) (k : SentOnly t u) : SentOnly s u :=
  ⟨fun m => (k.lane m).trans (h.lane m), fun p => (k.port p).trans (h.port p)⟩

/-- A lane set to one that differs only in what sending changes. -/
theorem SentOnly.setLn (s : State) (n : Nat) (x : Lane) (h : x.unsent = (s.ln n).unsent) : SentOnly s (s.setLn n x) := by
  refine ⟨fun m => ?_, fun p => rfl⟩
  by_cases e : m = n
  · subst e; simpa using h
  · simp [State.ln_setLn_ne _ _ _ e]

/-- A port set to one that differs only in what sending changes. -/
theorem SentOnly.setPt (s : State) (p : Nat) (x : Port) (h : x.unsent = (s.pt p).unsent) : SentOnly s (s.setPt p x) := by
  refine ⟨fun m => rfl, fun q => ?_⟩
  by_cases e : q = p
  · subst e; simpa using h
  · simp [State.pt_setPt_ne _ _ _ e]

theorem State.putBlock_sentOnly (s : State) (n : Nat) (hdr : BitVec 2) (pay : BitVec 256) (shown : Bool) :
    SentOnly s (s.putBlock n hdr pay shown) := by
  unfold State.putBlock
  extract_lets x j inv b show_ s1
  have h : SentOnly s s1 := SentOnly.setLn s n _ rfl
  split
  · exact h.trans ⟨fun _ => rfl, fun _ => rfl⟩
  · exact h

theorem State.stuffLanes_sentOnly (row : List TxBlock) (s : State) : SentOnly s (State.stuffLanes row s) := by
  induction row generalizing s with
  | nil => exact .refl s
  | cons x row ih =>
    have h : SentOnly s s.seed.2 := ⟨fun _ => rfl, fun _ => rfl⟩
    exact (h.trans (State.putBlock_sentOnly _ x.lane _ _ _)).trans (ih _)

theorem State.putLanes_sentOnly (row : List TxBlock) (s : State) : SentOnly s (State.putLanes row s) := by
  induction row generalizing s with
  | nil => exact .refl s
  | cons x row ih => exact (State.putBlock_sentOnly _ _ _ _ _).trans (ih _)

theorem State.useSlot_sentOnly (s : State) (p : Nat) (stuffed : Bool) : SentOnly s (s.useSlot p stuffed) :=
  SentOnly.setPt s p _ rfl

theorem State.putRow_sentOnly (p : Nat) (row : List TxBlock) (fuel : Nat) (s : State) :
    SentOnly s (State.putRow p row fuel s) := by
  induction fuel generalizing s with
  | zero => exact .refl s
  | succ fuel ih =>
    unfold State.putRow
    split
    · exact ((State.stuffLanes_sentOnly row s).trans (State.useSlot_sentOnly _ _ _)).trans (ih _)
    · exact (State.putLanes_sentOnly row s).trans (State.useSlot_sentOnly _ _ _)

theorem State.idleLane_sentOnly (s : State) (n : Nat) : SentOnly s (s.idleLane n).2 := by
  unfold State.idleLane
  split
  · exact SentOnly.setLn s n _ rfl
  · exact .refl s

theorem State.idleLanes_sentOnly (l : List Nat) (s : State) : SentOnly s (State.idleLanes l s).2 := by
  induction l generalizing s with
  | nil => exact .refl s
  | cons n l ih => exact (State.idleLane_sentOnly s n).trans (ih _)

theorem State.idleRows_sentOnly (p k : Nat) (s : State) : SentOnly s (State.idleRows p k s) := by
  induction k generalizing s with
  | zero => exact .refl s
  | succ k ih => exact ((State.idleLanes_sentOnly _ s).trans (State.putRow_sentOnly _ _ _ _)).trans (ih _)

theorem State.sendSkip_sentOnly (s : State) (p : Nat) : SentOnly s (s.sendSkip p) := by
  unfold State.sendSkip
  extract_lets w x mask flags body s1
  exact (State.putRow_sentOnly _ _ _ _).trans (SentOnly.setPt s1 p _ rfl)

theorem State.fillTo_sentOnly (s : State) (p k : Nat) : SentOnly s (s.fillTo p k) := by
  unfold State.fillTo
  extract_lets s1
  have h : SentOnly s s1 := State.idleRows_sentOnly _ _ _
  split
  · exact h.trans (State.sendSkip_sentOnly _ _)
  · exact h

theorem State.fillSlots_sentOnly (s : State) (p : Nat) : SentOnly s (s.fillSlots p) := State.fillTo_sentOnly _ _ _

theorem State.sendRow_sentOnly (s : State) (p : Nat) (c : Nat → Option (List Byte)) : SentOnly s (s.sendRow p c) :=
  (State.fillSlots_sentOnly s p).trans (State.putRow_sentOnly _ _ _ _)

theorem State.sendPower_sentOnly (s : State) (p code : Nat) : SentOnly s (s.sendPower p code) :=
  State.sendRow_sentOnly _ _ _

theorem State.sendRows_sentOnly (p : Nat) (l : List (List Byte)) (s : State) : SentOnly s (State.sendRows p l s) := by
  induction l generalizing s with
  | nil => exact .refl s
  | cons b l ih => exact (State.sendRow_sentOnly _ _ _).trans (ih _)

theorem State.flushSegs_sentOnly (s : State) (p : Nat) : SentOnly s (s.flushSegs p) := by
  unfold State.flushSegs
  split
  · exact .refl s
  · exact (SentOnly.setPt s p { s.pt p with segs := [] } rfl).trans (State.sendRows_sentOnly _ _ _)

theorem State.sendRequest_sentOnly (s : State) (p id op : Nat) (payload : List Byte) :
    SentOnly s (s.sendRequest p id op payload) := by
  unfold State.sendRequest
  extract_lets h pkt segs held
  exact (SentOnly.setPt s p { s.pt p with segs := if 0xF0 ≤ id then segs ++ held else held ++ segs } rfl).trans
    (State.flushSegs_sentOnly _ _)

theorem State.sendTraining_sentOnly (s : State) (n msg seq req preset status : Nat) :
    SentOnly s (s.sendTraining n msg seq req preset status) := by
  unfold State.sendTraining
  exact State.sendRow_sentOnly _ _ _

/-- A fact about a lane or a port that does not look at what sending changes. -/
theorem SentOnly.ln {s t : State} {α : Type} (h : SentOnly s t) (f : Lane → α) (hf : ∀ x, f x = f x.unsent) (m : Nat) :
    f (t.ln m) = f (s.ln m) := by rw [hf, h.lane, ← hf]

theorem SentOnly.pt {s t : State} {α : Type} (h : SentOnly s t) (f : Port → α) (hf : ∀ x, f x = f x.unsent)
    (p : Nat) : f (t.pt p) = f (s.pt p) := by rw [hf, h.port, ← hf]

/-- What holds after unit `n` has been changed, and is kept as any other is changed, holds after a list that has `n`. -/
theorem State.eachOf_mem {k : Nat → State → State} {n : Nat} (Q : State → Prop) (hn : ∀ s, Q (k n s))
    (hk : ∀ m s, Q s → Q (k m s)) {l : List Nat} (h : n ∈ l) (s : State) : Q (State.eachOf k l s) := by
  have keep : ∀ (l : List Nat) (s : State), Q s → Q (State.eachOf k l s) := by
    intro l
    induction l with
    | nil => exact fun _ hs => hs
    | cons m l ih => exact fun s hs => ih _ (hk m s hs)
  induction l generalizing s with
  | nil => simp at h
  | cons m l ih =>
    rcases List.mem_cons.1 h with rfl | h
    · exact keep l _ (hn s)
    · exact ih h _

/-- What every change keeps, a list of changes keeps. -/
theorem State.eachOf_keep {k : Nat → State → State} (Q : State → Prop) (hk : ∀ m s, Q s → Q (k m s)) (l : List Nat) {s : State}
    (h : Q s) : Q (State.eachOf k l s) := by
  induction l generalizing s with
  | nil => exact h
  | cons m l ih => exact ih (hk m s h)

/-- The state of a lane after that of a lane has been set. -/
theorem State.lstate_setLstate (s : State) (n m st : Nat) :
    (s.setLstate n st).lstate m = if m = n then st % 16 else s.lstate m := by
  unfold State.setLstate State.lstate
  split
  · rename_i h; subst h; exact State.fld_setFld_same _ _ _ _ (by decide)
  · rename_i h; exact State.fld_setFld_inst _ _ _ _ _ _ (by decide) h

/-! ### The layout of ports (R71): it depends on LNK_PORT_CFG alone. -/

/-- Both states give the ports the same lanes. -/
structure SameLayout (s t : State) : Prop where
  variant : t.variant = s.variant
  cfg : ∀ i j, t.rd .LNK_PORT_CFG i j = s.rd .LNK_PORT_CFG i j

theorem SameLayout.portOf {s t : State} (h : SameLayout s t) (n : Nat) : t.portOf n = s.portOf n := by
  have hc : t.cfgWidth = s.cfgWidth := by
    funext m
    simp only [State.cfgWidth, State.fld, h.cfg]
    rfl
  simp only [State.portOf, State.ports, hc, h.variant]

theorem SameLayout.portAt {s t : State} (h : SameLayout s t) (n : Nat) : t.portAt n = s.portAt n := by
  simp only [State.portAt, h.portOf]

theorem SameLayout.portWidth {s t : State} (h : SameLayout s t) (p : Nat) : t.portWidth p = s.portWidth p := by
  simp only [State.portWidth, h.portOf]

theorem Changes.sameLayout {P : List Part} {R : List Reg} {s t : State} (h : Changes P R s t) (hp : Part.variant ∉ P)
    (hr : Reg.LNK_PORT_CFG ∉ R) : SameLayout s t := ⟨h.parts _ hp, h.regs _ hr⟩

theorem SameLayout.trans {s t u : State} (h : SameLayout s t) (k : SameLayout t u) : SameLayout s u :=
  ⟨k.variant.trans h.variant, fun i j => (k.cfg i j).trans (h.cfg i j)⟩

theorem SameLayout.setFld (s : State) {f : Fld} (v i j : Nat) (h : Reg.LNK_PORT_CFG ≠ f.reg) : SameLayout s (s.setFld f v i j) :=
  ⟨rfl, fun _ _ => State.rd_setFld_reg s v i j _ _ h⟩

theorem SameLayout.symm {s t : State} (h : SameLayout s t) : SameLayout t s :=
  ⟨h.variant.symm, fun i j => (h.cfg i j).symm⟩

theorem SameLayout.setLn (s : State) (n : Nat) (x : Lane) : SameLayout s (s.setLn n x) := ⟨rfl, fun _ _ => rfl⟩
theorem SameLayout.setPt (s : State) (n : Nat) (x : Port) : SameLayout s (s.setPt n x) := ⟨rfl, fun _ _ => rfl⟩

end Sys2Proof.Machine
end

