-- ==== Sys2Proof/Laws/Capture.lean ====
section
/-!
SUPPORT. What the operations on a frame do to the port and to the frame itself.
-/

set_option Elab.async false

namespace Sys2Proof.Machine

/-- A command on the stream of a port that is up acts once its time has passed. -/
theorem State.onPort_up {s : State} {p : Nat} (dt : Nat) (k : State → State) (h : s.ready = true) (h' : s.portUp p = true) :
    s.onPort p dt k = k (s.advance dt) := by
  have e : ((s.advance dt).ready && (s.advance dt).portUp p) = true := by
    show (s.ready && s.portUp p) = true
    simp [h, h']
  simp only [State.onPort, e, if_true]

/-- Closing a frame takes it from its port; what follows touches no port. -/
theorem State.closeFrame_tail (s : State) (p : Nat) (count : Option Nat) {f : CapFrame} (hf : (s.cp p).frame = some f) :
    Changes [.mst, .hal, .dma, .ddr, .fst] [.CAP_CNT_INCOMPLETE, .CAP_CNT_OVERSIZE, .FST_RING_WP_BAND,
      .MST_STATUS, .MST_SPARE_USE, .MST_SPAR_STATE, .MST_CNT_CANCEL, .MST_CNT_INGEST_DROP, .HAL_CNT_QUEUE_DROP]
      (s.setCp p { s.cp p with frame := none }) (s.closeFrame p count) := by
  unfold State.closeFrame
  rw [hf]
  dsimp -zeta only
  extract_lets v6 v7 v8 v9 v10 v11 v12 v13 v14 v15 v16 v17 v18 v19 v20 v21 v22 v23 v24 v25 v26 v27 v28 v29 v30
  have h31 : Changes [.mst, .hal, .dma, .ddr, .fst] [.CAP_CNT_INCOMPLETE, .CAP_CNT_OVERSIZE, .FST_RING_WP_BAND,
      .MST_STATUS, .MST_SPARE_USE, .MST_SPAR_STATE, .MST_CNT_CANCEL, .MST_CNT_INGEST_DROP, .HAL_CNT_QUEUE_DROP] v9 v9 := Changes.refl _ _ _
  change Changes _ _ v9 _
  refine Changes.cut (x := v10) ?_ (fun h32 => ?_)
  · unfold v10
    refine Changes.ite ?_ ?_
    · assumption
    · refine Changes.bumpBy ?_ (by decide +kernel)
      assumption
  refine Changes.cut (x := v11) ?_ (fun h33 => ?_)
  · unfold v11
    refine Changes.ite ?_ ?_
    · refine Changes.andThen ?_ (State.legZeros_changes ..) (by decide) (subset_regs (by decide +kernel))
      assumption
    · assumption
  refine Changes.cut (x := v24) ?_ (fun h34 => ?_)
  · unfold v24
    refine Changes.andThen ?_ (State.storeLeg_changes ..) (by decide) (subset_regs (by decide +kernel))
    assumption
  refine Changes.cut (x := v25) ?_ (fun h35 => ?_)
  · unfold v25
    refine Changes.ite ?_ ?_
    · refine Changes.andThen ?_ (State.storeLeg_changes ..) (by decide) (subset_regs (by decide +kernel))
      assumption
    · assumption
  refine Changes.cut (x := v27) ?_ (fun h36 => ?_)
  · unfold v27
    split
    · rename_i y37 y38
      assumption
    · rename_i y39 y40 y41
      refine Changes.ite ?_ ?_
      · refine Changes.fst ?_ (by rfl) (by decide +kernel)
        assumption
      · split
        · rename_i y42 y43 y44
          refine Changes.andThen ?_ (State.endRec_changes ..) (by decide) (subset_regs (by decide +kernel))
          refine Changes.andThen ?_ (State.recWr_changes ..) (by decide) (subset_regs (by decide +kernel))
          assumption
        · rename_i y45 y46
          assumption
  refine Changes.cut (x := v28) ?_ (fun h47 => ?_)
  · unfold v28
    split
    · rename_i y48 y49 y50
      refine Changes.andThen ?_ (State.ctEnd_changes ..) (by decide) (subset_regs (by decide +kernel))
      assumption
    · rename_i y51 y52
      assumption
  refine Changes.cut (x := v29) ?_ (fun h53 => ?_)
  · unfold v29
    split
    · rename_i y54 y55 y56
      refine Changes.andThen ?_ (State.mastClose_changes ..) (by decide) (subset_regs (by decide +kernel))
      assumption
    · rename_i y57 y58
      assumption
  refine Changes.cut (x := v30) ?_ (fun h59 => ?_)
  · unfold v30
    refine Changes.ite ?_ ?_
    · refine Changes.bump ?_ (by decide +kernel)
      assumption
    · assumption
  clear_value v6
  clear_value v7
  clear_value v8
  clear_value v9
  clear_value v10
  clear_value v11
  clear_value v12
  clear_value v13
  clear_value v14
  clear_value v15
  clear_value v16
  clear_value v17
  clear_value v18
  clear_value v19
  clear_value v20
  clear_value v21
  clear_value v22
  clear_value v23
  clear_value v24
  clear_value v25
  clear_value v27
  clear_value v28
  clear_value v29
  clear_value v30
  refine Changes.andThen ?_ (State.publish_changes ..) (by decide) (subset_regs (by decide +kernel))
  assumption

/-- After a close the port is as before with no frame open. -/
theorem State.closeFrame_cp (s : State) (p : Nat) (count : Option Nat) :
    (s.closeFrame p count).cp p = { s.cp p with frame := none } := by
  cases hf : (s.cp p).frame with
  | none =>
    have e : s.closeFrame p count = s := by unfold State.closeFrame; rw [hf]
    rw [e, ← hf]
  | some f => rw [(s.closeFrame_tail p count hf).cp (by decide), State.cp_setCp]

@[simp] theorem State.cp_popPacket (s : State) (p len n : Nat) : (s.popPacket p len).2.cp n = s.cp n := rfl

theorem State.cp_takePacket (s : State) (p : Nat) (pkt : Packet) (n : Nat) : (s.takePacket p pkt).2.cp n = s.cp n :=
  (s.takePacket_changes p pkt).cp (by decide) n

/-- The legs given to a frame are recorded in it; all else in it stays. -/
structure SameFrame (f g : CapFrame) : Prop where
  eq : { g with store := none, opaqMax := 0, ct := none, mast := none } = { f with store := none, opaqMax := 0, ct := none, mast := none }

theorem SameFrame.refl (f : CapFrame) : SameFrame f f := ⟨rfl⟩
theorem SameFrame.trans {f g h : CapFrame} (a : SameFrame f g) (b : SameFrame g h) : SameFrame f h := ⟨b.eq.trans a.eq⟩

theorem State.spill_frame (s : State) (p r : Nat) (f : CapFrame) (own : Bool) (tag : List Byte) :
    SameFrame f (s.spill p r f own tag).1 := by
  unfold State.spill
  split
  · exact ⟨rfl⟩
  · split
    · dsimp only; split <;> exact ⟨rfl⟩
    · exact ⟨rfl⟩

theorem State.startStore_frame (s : State) (p : Nat) (f : CapFrame) (own : Bool) (tag : List Byte) (slow : Bool)
    (marks : List RingOp) : SameFrame f (s.startStore p f own tag slow marks).1 := by
  unfold State.startStore
  dsimp only
  repeat' split
  all_goals first | exact ⟨rfl⟩ | exact State.spill_frame ..

theorem State.giveLegs_frame (s : State) (p : Nat) (f : CapFrame) (slow : Bool) (marks : List RingOp) :
    SameFrame f (s.giveLegs p f slow marks).1 := by
  unfold State.giveLegs
  split
  · exact ⟨rfl⟩
  · extract_lets tag ch own c f1 st
    have h1 : SameFrame f f1 := by unfold f1; split <;> exact ⟨rfl⟩
    have h2 : SameFrame f st.1 := by
      unfold st; split
      · exact h1.trans (State.startStore_frame ..)
      · exact h1
    split
    · split
      · exact h2
      · exact h2.trans ⟨rfl⟩
    · exact h2

/-- The port after a frame has opened: the frame with its legs is the open one, and the next number is one more. -/
theorem State.openFrame_cp (s : State) (p : Nat) (f : CapFrame) (slow : Bool) (marks : List RingOp) :
    ∃ g, SameFrame f g ∧ (s.openFrame p f slow marks).cp p = { s.cp p with
      count := ((s.cp p).count + 1) % 2 ^ 48, lastStamp := some f.stampAt, frame := some g } := by
  unfold State.openFrame
  extract_lets x s1 s2 s3 s4 s5 r z
  refine ⟨r.1, State.giveLegs_frame .., ?_⟩
  have h : r.2.cp p = { x with count := (x.count + 1) % 2 ^ 48, lastStamp := some f.stampAt } := by
    unfold r
    rw [(State.giveLegs_changes ..).cp (by decide)]
    unfold s5
    rw [(State.publish_changes ..).cp (by decide)]
    have e3 : s3.cp p = s2.cp p := by
      unfold s3; split
      · exact State.cp_bump ..
      · rfl
    have e4 : s4.cp p = s3.cp p := by
      unfold s4; split
      · exact State.cp_bump ..
      · rfl
    rw [e4, e3]
    unfold s2 s1 State.showFrameNum
    rw [State.cp_bump, State.cp_wr, State.cp_setCp]
  rw [State.cp_setCp]
  have hz : z = { x with count := (x.count + 1) % 2 ^ 48, lastStamp := some f.stampAt } := h
  rw [hz]

/-- A frame opened counts once. -/
theorem State.openFrame_counts (s : State) (p : Nat) (f : CapFrame) (slow : Bool) (marks : List RingOp) (i : Nat) :
    (s.openFrame p f slow marks).rd .CAP_CNT_FRAMES i = (s.bump .CAP_CNT_FRAMES p).rd .CAP_CNT_FRAMES i := by
  unfold State.openFrame
  extract_lets x s1 s2 s3 s4 s5 r
  have e3 : s3.rd .CAP_CNT_FRAMES i = s2.rd .CAP_CNT_FRAMES i := by
    unfold s3; split
    · exact State.rd_bump_reg _ _ _ _ _ (by decide)
    · rfl
  have e4 : s4.rd .CAP_CNT_FRAMES i = s3.rd .CAP_CNT_FRAMES i := by
    unfold s4; split
    · exact State.rd_bump_reg _ _ _ _ _ (by decide)
    · rfl
  have e5 : s5.rd .CAP_CNT_FRAMES i = s4.rd .CAP_CNT_FRAMES i := (State.publish_changes ..).regs _ (by decide) _ _
  have er : r.2.rd .CAP_CNT_FRAMES i = s5.rd .CAP_CNT_FRAMES i := (State.giveLegs_changes ..).regs _ (by decide) _ _
  have e1 : s1.rd .CAP_CNT_FRAMES i = s.rd .CAP_CNT_FRAMES i := by
    unfold s1 State.showFrameNum; rw [State.rd_wr_reg _ _ _ _ _ _ (by decide)]; rfl
  have e1' : s1.rd .CAP_CNT_FRAMES p = s.rd .CAP_CNT_FRAMES p := by
    unfold s1 State.showFrameNum; rw [State.rd_wr_reg _ _ _ _ _ _ (by decide)]; rfl
  rw [State.rd_setCp, er, e5, e4, e3]
  unfold s2
  simp only [State.bump, State.rd_bumpBy, e1, e1']

/-- The ranges of bytes that have arrived, with new ones added in turn (R108). -/
def addRanges (l : List (Nat × Nat)) (g : List (Nat × Nat)) : List (Nat × Nat) := l.foldl (fun g q => rangeAdd q.1 q.2 g) g

/-- Placing the new parts of a packet adds them to what has arrived. -/
theorem State.placeParts_frame (p : Nat) (full : Bool) (base : Nat) (data : List Byte) (l : List (Nat × Nat)) (f : CapFrame)
    (s : State) : ∃ b, (State.placeParts p full base data l f s).1 = { f with got := addRanges l f.got, trimmed := b } := by
  induction l generalizing f s with
  | nil => exact ⟨f.trimmed, rfl⟩
  | cons q l ih =>
    obtain ⟨a, b⟩ := q
    unfold State.placeParts
    extract_lets s1 r
    obtain ⟨c, h⟩ := ih { f with got := rangeAdd a b f.got, trimmed := f.trimmed || r.2 } r.1
    exact ⟨c, h⟩

/-- Bytes placed in the open frame: the part inside the frame is added to what has arrived, and the frame stays open. -/
theorem State.frameData_cp (s : State) (p off : Nat) (data : List Byte) (bad : List (Nat × Nat)) (failed rebuilt full : Bool)
    {f : CapFrame} (hf : (s.cp p).frame = some f) :
    ∃ g, ((s.frameData p off data bad failed rebuilt full).cp p).frame = some g ∧ g.num = f.num ∧ g.camSeq = f.camSeq ∧
      g.got = addRanges (rangeGaps off (if f.opaq then off + data.length else min (off + data.length) f.size0) f.got) f.got ∧
      g.lastAt = s.fine := by
  unfold State.frameData
  rw [hf]
  dsimp -zeta only
  extract_lets e lim beyond parts overlap s1 r f1 badParts f2
  obtain ⟨b, h⟩ := State.placeParts_frame p full off data parts f s1
  have h1 : f1 = { f with got := addRanges parts f.got, trimmed := b } := h
  refine ⟨f2, by rw [State.cp_setCp], ?_, ?_, ?_, rfl⟩
  · show f1.num = _; rw [h1]
  · show f1.camSeq = _; rw [h1]
  · show f1.got = _; rw [h1]

/-- A port with no request waiting starts none. -/
theorem State.ctlStart_nil {s : State} {p : Nat} (h : (s.cp p).ctl = []) : State.ctlStart p s = s := by
  unfold State.ctlStart
  dsimp only
  rw [h]

/-- A cause that is neither merged nor held off queues a block on a port whose OUTPUT is lane only (R114, R119). -/
theorem State.trigCause_queues {s : State} {p : Nat} (kind at0 : Nat) (late : Bool) (hm : s.trigMode = true) (hw : s.portWidth p ≠ 0)
    (hq : (s.cp p).queued = none) (hc : (s.cp p).causeAt = none) (ht : (s.cp p).trigAt = none)
    (ho : s.fld F.CAP_TRIG_CFG_OUTPUT p = 1) (hu : s.portUp p = true) :
    (State.trigCause kind at0 late p s).cp p =
      { s.cp p with queued := some ⟨0, kind, at0, late, false, 0⟩, causeAt := some s.fine } := by
  have hp : Changes _ _ s (s.strobePort p at0) := State.strobePort_changes ..
  have c : (s.strobePort p at0).cp p = s.cp p := hp.cp (by decide) p
  have f : (s.strobePort p at0).fine = s.fine := hp.parts .fine (by decide)
  have o : (s.strobePort p at0).fld F.CAP_TRIG_CFG_OUTPUT p = 1 := (hp.fld (by decide) _ _).trans ho
  have u : (s.strobePort p at0).portUp p = true := by
    unfold State.portUp State.flag at *; rw [hp.fld (by decide)]; exact hu
  unfold State.trigCause
  simp only [hm, hw, Bool.not_true, Bool.false_or, decide_false, Bool.false_eq_true, if_false, c, hq, hc, ht, o, u,
    Option.isSome_none]
  simp [natBit, f]

/-- A cause while a block is queued is merged (R119). -/
theorem State.trigCause_merges {s : State} {p : Nat} (kind at0 : Nat) (late : Bool) (hm : s.trigMode = true) (hw : s.portWidth p ≠ 0)
    (hq : (s.cp p).queued.isSome = true) :
    State.trigCause kind at0 late p s = (s.strobePort p at0).bump .CAP_CNT_TRIG_MERGED p := by
  have c : (s.strobePort p at0).cp p = s.cp p := (State.strobePort_changes ..).cp (by decide) p
  unfold State.trigCause
  simp only [hm, hw, Bool.not_true, Bool.false_or, decide_false, Bool.false_eq_true, if_false, c, hq, Bool.true_or, if_true]

end Sys2Proof.Machine
end

