-- ==== Sys2Proof/Laws/FrameEncoder.lean ====
section
/-!
SUPPORT. What the operations of Machine/Encoder.lean may change: one lemma for each.
-/

set_option Elab.async false

namespace Sys2Proof.Machine

theorem State.encLoad_changes (n : Nat) (b : Nat) (s : State) :
    Changes [.bch] [] s (State.encLoad n b s) := by
  unfold State.encLoad
  extract_lets v1 v2
  clear_value v1
  clear_value v2
  refine Changes.ite ?_ ?_
  · refine Changes.andThen ?_ (State.setBc_changes ..) (by decide) (subset_regs (by decide +kernel))
    exact Changes.refl _ _ _
  · exact Changes.refl _ _ _

theorem State.setCount_changes (s : State) (n : Nat) (v : Word) :
    Changes [.bch] [.CAP_ENC_COUNT] s (State.setCount s n v) := by
  unfold State.setCount
  refine Changes.trans ?_ (State.eachOf_changes (fun k1 s2 => ?_) _ _)
  · refine Changes.wr ?_ (by decide +kernel)
    exact Changes.refl _ _ _
  · refine Changes.andThen ?_ (State.encLoad_changes ..) (by decide) (subset_regs (by decide +kernel))
    exact Changes.refl _ _ _

theorem State.setEn_changes (s : State) (n : Nat) (x : Enc) :
    Changes [.enc] [] s (State.setEn s n x) := by
  unfold State.setEn
  refine Changes.enc ?_ (by decide +kernel)
  exact Changes.refl _ _ _

theorem State.encLevels_changes (s : State) (n : Nat) (a : Bool) (b : Bool) :
    Changes [.enc] [.CAP_ENC_CNT_ERR] s (State.encLevels s n a b).2 := by
  unfold State.encLevels
  extract_lets v1 v2 v3 v4
  refine Changes.cut (x := v2) ?_ (fun h5 => ?_)
  · unfold v2
    refine Changes.andThen ?_ (State.setEn_changes ..) (by decide) (subset_regs (by decide +kernel))
    exact Changes.refl _ _ _
  clear_value v1
  clear_value v2
  clear_value v3
  clear_value v4
  split
  · rename_i y6
    dsimp only
    assumption
  · rename_i y7
    split
    · rename_i y8
      dsimp only
      refine Changes.bump ?_ (by decide +kernel)
      assumption
    · rename_i y9
      split
      · rename_i y10
        dsimp only
        assumption
      · rename_i y11
        split
        · rename_i y12
          dsimp only
          assumption
        · rename_i y13
          dsimp only
          assumption

theorem State.encMeasure_changes (n : Nat) (t : Nat) (b : Nat) (s : State) :
    Changes [.bch] [] s (State.encMeasure n t b s) := by
  unfold State.encMeasure
  extract_lets v1
  clear_value v1
  refine Changes.ite ?_ ?_
  · refine Changes.andThen ?_ (State.wdWords_changes ..) (by decide) (subset_regs (by decide +kernel))
    refine Changes.andThen ?_ (State.setBc_changes ..) (by decide) (subset_regs (by decide +kernel))
    exact Changes.refl _ _ _
  · exact Changes.refl _ _ _

theorem State.encStep_changes (s : State) (n : Nat) (t : Nat) (up : Bool) :
    Changes [.outbox, .freeCtr, .cap, .capt, .bch, .lum, .hal] [.CAP_PORT_FLAGS, .CAP_CNT_TRIG_MERGED,
      .CAP_CNT_TRIG_HOLDOFF, .CAP_CNT_TRIG_DROP, .CAP_ENC_CMP_NEXT, .CAP_ENC_COUNT, .LUM_CH_STATUS,
      .LUM_CNT_OVERLAP, .LUM_CNT_DIAG_ABORT, .HAL_CNT_QUEUE_DROP] s (State.encStep s n t up) := by
  unfold State.encStep
  extract_lets v1 v2
  refine Changes.cut (x := v2) ?_ (fun h3 => ?_)
  · unfold v2
    refine Changes.wr ?_ (by decide +kernel)
    exact Changes.refl _ _ _
  clear_value v1
  clear_value v2
  refine Changes.andThen ?_ (State.cmpMove_changes ..) (by decide) (subset_regs (by decide +kernel))
  refine Changes.trans ?_ (State.eachOf_changes (fun k4 s5 => ?_) _ _)
  · assumption
  · refine Changes.andThen ?_ (State.encMeasure_changes ..) (by decide) (subset_regs (by decide +kernel))
    exact Changes.refl _ _ _

theorem State.encEdge_changes (s : State) (n : Nat) (a : Bool) (b : Bool) :
    Changes [.outbox, .freeCtr, .cap, .capt, .bch, .lum, .hal, .enc] [.CAP_PORT_FLAGS, .CAP_CNT_TRIG_MERGED,
      .CAP_CNT_TRIG_HOLDOFF, .CAP_CNT_TRIG_DROP, .CAP_ENC_CMP_NEXT, .CAP_ENC_COUNT, .CAP_ENC_CNT_ERR,
      .LUM_CH_STATUS, .LUM_CNT_OVERLAP, .LUM_CNT_DIAG_ABORT, .HAL_CNT_QUEUE_DROP] s (State.encEdge s n a b) := by
  unfold State.encEdge
  extract_lets v1
  refine Changes.cut (x := v1.2) ?_ (fun h2 => ?_)
  · unfold v1
    refine Changes.andThen ?_ (State.encLevels_changes ..) (by decide) (subset_regs (by decide +kernel))
    exact Changes.refl _ _ _
  clear_value v1
  split
  · rename_i y3 y4 y5
    refine Changes.andThen ?_ (State.encStep_changes ..) (by decide) (subset_regs (by decide +kernel))
    assumption
  · rename_i y6 y7
    assumption

theorem State.setSi_changes (s : State) (a : Nat) (x : Ssi) :
    Changes [.ssi] [] s (State.setSi s a x) := by
  unfold State.setSi
  refine Changes.ssi ?_ (by decide +kernel)
  exact Changes.refl _ _ _

theorem State.zReset_changes (s : State) (n : Nat) (edge : Option (Bool × Bool)) :
    Changes [.bch, .enc] [.CAP_ENC_COUNT, .CAP_ENC_CNT_ERR] s (State.zReset s n edge) := by
  unfold State.zReset
  extract_lets v1
  refine Changes.cut (x := v1) ?_ (fun h2 => ?_)
  · unfold v1
    split
    · rename_i y3 y4
      refine Changes.andThen ?_ (State.encLevels_changes ..) (by decide) (subset_regs (by decide +kernel))
      exact Changes.refl _ _ _
    · rename_i y5
      exact Changes.refl _ _ _
  clear_value v1
  refine Changes.andThen ?_ (State.setCount_changes ..) (by decide) (subset_regs (by decide +kernel))
  assumption

end Sys2Proof.Machine
end

