-- ==== Sys2Proof/Laws/FrameImage.lean ====
section
/-!
SUPPORT. What the operations of Machine/Image.lean may change: one lemma for each.
-/

set_option Elab.async false

namespace Sys2Proof.Machine

theorem State.flashPut_changes (s : State) (dev : Nat) (a : Nat) (data : List Byte) :
    Changes [.flash] [] s (State.flashPut s dev a data) := by
  unfold State.flashPut
  refine Changes.flash ?_ (fun h => ?_) (by decide +kernel)
  · exact Changes.refl _ _ _
  · exact tblSetList_wf _ _ (by assumption)

theorem State.tableCode_changes (s : State) :
    Changes [.freeCtr] [] s (State.tableCode s).2 := by
  unfold State.tableCode
  split
  rename_i y1 y2 y3 y4
  dsimp only
  refine Changes.ofPair y4 ?_
  refine Changes.andThen ?_ (State.freeBits_changes ..) (by decide) (subset_regs (by decide +kernel))
  exact Changes.refl _ _ _

theorem State.spdReads_changes (s : State) (page : Nat) (first : Nat) (count : Nat) :
    Changes [.outbox] [] s (State.spdReads s page first count) := by
  unfold State.spdReads
  refine Changes.trans ?_ (foldl_changes (fun s2 k1 => ?_) _ _)
  · exact Changes.refl _ _ _
  · refine Changes.emit ?_ (by decide +kernel)
    exact Changes.refl _ _ _

theorem State.imageDefaults_changes (s : State) :
    Changes [] [.FST_LOAD_CFG, .HAL_GROUP_INIT, .PWR_DOM_POLICY] s (State.imageDefaults s) := by
  unfold State.imageDefaults
  extract_lets v1
  refine Changes.cut (x := v1) ?_ (fun h2 => ?_)
  · unfold v1
    refine Changes.trans ?_ (State.eachInst_changes (fun k3 s4 => ?_) _ _)
    · exact Changes.refl _ _ _
    · refine Changes.wr ?_ (by decide +kernel)
      exact Changes.refl _ _ _
  clear_value v1
  refine Changes.wr ?_ (by decide +kernel)
  refine Changes.wr ?_ (by decide +kernel)
  assumption

theorem State.memPut_changes (a : Nat) (a1 : List Word) (a2 : State) :
    Changes [.bar0] [] a2 (State.memPut a a1 a2) := by
  fun_induction State.memPut a a1 a2
  · rename_i y1 y2
    exact Changes.refl _ _ _
  · rename_i y3 y4 y5 y6 y7 y8
    refine Changes.trans ?_ y8
    unfold y7
    split
    · rename_i y9 y10 y11
      refine Changes.memWr ?_ (by decide +kernel)
      exact Changes.refl _ _ _
    · rename_i y12 y13
      exact Changes.refl _ _ _

theorem State.putProfile_changes (n : Nat) (bs : List Byte) (p : Nat) (s : State) :
    Changes [.bar0, .outbox, .pce, .helm] [.BCH_FAULT, .PCE_STATUS, .PCE_CNT_MSIX_DROP, .HLM_CNT_NOTICE_DROP,
      .PWR_FAULT_SUMMARY] s (State.putProfile n bs p s) := by
  unfold State.putProfile
  extract_lets v1
  clear_value v1
  refine Changes.ite ?_ ?_
  · refine Changes.andThen ?_ (State.memPut_changes ..) (by decide) (subset_regs (by decide +kernel))
    exact Changes.refl _ _ _
  · refine Changes.andThen ?_ (State.notice_changes ..) (by decide) (subset_regs (by decide +kernel))
    refine Changes.setFld ?_ (by decide +kernel)
    exact Changes.refl _ _ _

theorem State.putMast_changes (live : Bool) (prog : Option (List Byte)) (consts : Option (List Byte)) (m : Nat) (s :
    State) :
    Changes [.mst] [] s (State.putMast live prog consts m s) := by
  unfold State.putMast
  extract_lets v1 v2
  clear_value v1
  clear_value v2
  refine Changes.ite ?_ ?_
  · refine Changes.andThen ?_ (State.setMs_changes ..) (by decide) (subset_regs (by decide +kernel))
    exact Changes.refl _ _ _
  · refine Changes.andThen ?_ (State.setMs_changes ..) (by decide) (subset_regs (by decide +kernel))
    exact Changes.refl _ _ _

theorem State.putPair_changes (s : State) (layout : Bool) (p : Nat × Word) :
    Changes [] allRegs s (State.putPair s layout p) := by
  unfold State.putPair
  split
  · rename_i y1 y2
    exact Changes.refl _ _ _
  · rename_i y3 y4 y5 y6 y7
    extract_lets v8
    clear_value v8
    refine Changes.wr ?_ (mem_allRegs _)
    exact Changes.refl _ _ _

theorem State.putPairs_changes (layout : Bool) (a1 : List (Nat × Word)) (a2 : State) :
    Changes [] allRegs a2 (State.putPairs layout a1 a2) := by
  fun_induction State.putPairs layout a1 a2
  · rename_i y1
    exact Changes.refl _ _ _
  · rename_i y2 y3 y4 y5
    refine Changes.trans ?_ y5
    refine Changes.andThen ?_ (State.putPair_changes ..) (by decide) (subset_allRegs _)
    exact Changes.refl _ _ _

theorem State.putSection_changes (live : Bool) (c : Section) (s : State) :
    Changes [.bar0, .outbox, .mst, .pce, .ddr, .fst, .boot, .helm] allRegs s (State.putSection live c s) := by
  unfold State.putSection
  extract_lets v1 v2 v3
  refine Changes.cut (x := v3) ?_ (fun h4 => ?_)
  · unfold v3
    refine Changes.andThen ?_ (State.memPut_changes ..) (by decide) (subset_allRegs _)
    exact Changes.refl _ _ _
  clear_value v3
  split
  · rename_i y5 y6
    refine Changes.andThen ?_ (State.putPairs_changes ..) (by decide) (subset_allRegs _)
    exact Changes.refl _ _ _
  · rename_i y7 y8
    refine Changes.andThen ?_ (State.putPairs_changes ..) (by decide) (subset_allRegs _)
    exact Changes.refl _ _ _
  · rename_i y9 y10
    unfold v1
    refine Changes.trans ?_ (State.eachInst_changes (fun k11 s12 => ?_) _ _)
    · exact Changes.refl _ _ _
    · refine Changes.andThen ?_ (State.putMast_changes ..) (by decide) (subset_allRegs _)
      exact Changes.refl _ _ _
  · rename_i y13 y14
    unfold v1
    refine Changes.trans ?_ (State.eachInst_changes (fun k15 s16 => ?_) _ _)
    · exact Changes.refl _ _ _
    · refine Changes.andThen ?_ (State.putMast_changes ..) (by decide) (subset_allRegs _)
      exact Changes.refl _ _ _
  · rename_i y17 y18
    refine Changes.boot ?_ (by rfl) (by decide +kernel)
    exact Changes.refl _ _ _
  · rename_i y19 y20
    refine Changes.boot ?_ (by rfl) (by decide +kernel)
    exact Changes.refl _ _ _
  · rename_i y21 y22
    unfold v1
    refine Changes.trans ?_ (State.eachInst_changes (fun k23 s24 => ?_) _ _)
    · exact Changes.refl _ _ _
    · refine Changes.trans ?_ (State.eachInst_changes (fun k25 s26 => ?_) _ _)
      · exact Changes.refl _ _ _
      · refine Changes.andThen ?_ (State.putProfile_changes ..) (by decide) (subset_allRegs _)
        exact Changes.refl _ _ _
  · rename_i y27 y28
    unfold v1
    refine Changes.trans ?_ (State.eachInst_changes (fun k29 s30 => ?_) _ _)
    · exact Changes.refl _ _ _
    · refine Changes.andThen ?_ (State.memPut_changes ..) (by decide) (subset_allRegs _)
      exact Changes.refl _ _ _
  · rename_i y31 y32
    unfold v1
    refine Changes.trans ?_ (State.eachInst_changes (fun k33 s34 => ?_) _ _)
    · exact Changes.refl _ _ _
    · refine Changes.andThen ?_ (State.memPut_changes ..) (by decide) (subset_allRegs _)
      exact Changes.refl _ _ _
  · rename_i y35 y36
    refine Changes.andThen ?_ (State.memPut_changes ..) (by decide) (subset_allRegs _)
    exact Changes.refl _ _ _
  · rename_i y37 y38
    refine Changes.andThen ?_ (State.memPut_changes ..) (by decide) (subset_allRegs _)
    exact Changes.refl _ _ _
  · rename_i y39 y40
    refine Changes.trans ?_ (State.eachInst_changes (fun k41 s42 => ?_) _ _)
    · assumption
    · refine Changes.wr ?_ (mem_allRegs _)
      exact Changes.refl _ _ _
  · rename_i y43 y44
    refine Changes.ite ?_ ?_
    · exact Changes.refl _ _ _
    · refine Changes.andThen ?_ (State.regionWr_changes ..) (by decide) (subset_allRegs _)
      exact Changes.refl _ _ _
  · rename_i y45 y46 y47 y48 y49 y50 y51 y52 y53 y54 y55 y56 y57 y58
    exact Changes.refl _ _ _

theorem State.putSections_changes (live : Bool) (a1 : List Section) (a2 : State) :
    Changes [.bar0, .outbox, .mst, .pce, .ddr, .fst, .boot, .helm] allRegs a2 (State.putSections live a1 a2) := by
  fun_induction State.putSections live a1 a2
  · rename_i y1
    exact Changes.refl _ _ _
  · rename_i y2 y3 y4 y5
    refine Changes.trans ?_ y5
    refine Changes.andThen ?_ (State.putSection_changes ..) (by decide) (subset_allRegs _)
    exact Changes.refl _ _ _

end Sys2Proof.Machine
end

