-- ==== Sys2Proof/Laws/FrameLanes.lean ====
section
/-!
SUPPORT. What the operations of Machine/Lanes.lean may change: one lemma for each.
-/

set_option Elab.async false

namespace Sys2Proof.Machine

theorem State.intervalEnd_changes (s : State) (n : Nat) :
    Changes [.lnk] [.LNK_CNT_STUFF_EXCESS] s (State.intervalEnd s n) := by
  unfold State.intervalEnd
  extract_lets v1 v2
  refine Changes.cut (x := v1) ?_ (fun h3 => ?_)
  · unfold v1
    refine Changes.ite ?_ ?_
    · refine Changes.bump ?_ (by decide +kernel)
      exact Changes.refl _ _ _
    · exact Changes.refl _ _ _
  clear_value v1
  clear_value v2
  refine Changes.andThen ?_ (State.setLn_changes ..) (by decide) (subset_regs (by decide +kernel))
  assumption

theorem State.laneEnable_changes (s : State) (n : Nat) (on : Bool) :
    Changes [.outbox, .freeCtr, .lnk, .port, .cap, .mst, .hal, .dma, .ddr, .fst] [.LNK_CTRL, .LNK_STATUS,
      .LNK_PORT_STATUS, .LNK_CNT_REBUILT, .LNK_CNT_PARITY_MISMATCH, .LNK_CNT_ERASED_ROWS, .CAP_CNT_INCOMPLETE,
      .CAP_CNT_OVERSIZE, .FST_RING_WP_BAND, .MST_STATUS, .MST_SPARE_USE, .MST_SPAR_STATE, .MST_CNT_CANCEL,
      .MST_CNT_INGEST_DROP, .HAL_CNT_QUEUE_DROP] s (State.laneEnable s n on) := by
  unfold State.laneEnable
  extract_lets v1
  refine Changes.cut (x := v1) ?_ (fun h2 => ?_)
  · unfold v1
    refine Changes.setFld ?_ (by decide +kernel)
    exact Changes.refl _ _ _
  clear_value v1
  refine Changes.ite ?_ ?_
  · refine Changes.ite ?_ ?_
    · refine Changes.andThen ?_ (State.laneStart_changes ..) (by decide) (subset_regs (by decide +kernel))
      assumption
    · assumption
  · refine Changes.ite ?_ ?_
    · assumption
    · refine Changes.andThen ?_ (State.laneDisable_changes ..) (by decide) (subset_regs (by decide +kernel))
      assumption

theorem State.injectBurst_changes (s : State) (n : Nat) :
    Changes [.outbox, .lnk] [] s (State.injectBurst s n) := by
  unfold State.injectBurst
  extract_lets v1 v2 v3 v4
  clear_value v1
  clear_value v2
  clear_value v3
  clear_value v4
  refine Changes.emit ?_ (by decide +kernel)
  refine Changes.andThen ?_ (State.setLn_changes ..) (by decide) (subset_regs (by decide +kernel))
  exact Changes.refl _ _ _

theorem State.shot_changes (s : State) (n : Nat) :
    Changes [.outbox, .lnk] [] s (State.shot s n) := by
  unfold State.shot
  refine Changes.ite ?_ ?_
  · refine Changes.andThen ?_ (State.injectBurst_changes ..) (by decide) (subset_regs (by decide +kernel))
    exact Changes.refl _ _ _
  · exact Changes.refl _ _ _

theorem State.rxRow_changes (p : Nat) (a1 : Nat) (a2 : List LineBlock) (a3 : State) :
    Changes [.outbox, .lnk, .port] [.LNK_STATUS, .LNK_CNT_BAD_HDR, .LNK_CNT_EB_OVF] a3 (State.rxRow p a1 a2 a3).2 := by
  induction a2 generalizing a1 a3 with
  | nil => exact Changes.refl _ _ _
  | cons b rest ih =>
    exact ((Changes.refl _ _ _).andThen (State.rxBlock_changes ..) (by decide) (subset_regs (by decide +kernel))).trans (ih _ _)

theorem State.retrain_changes (s : State) (n : Nat) :
    Changes [.outbox, .freeCtr, .lnk, .port, .cap, .mst, .hal, .dma, .ddr, .fst] [.LNK_STATUS, .LNK_PORT_STATUS,
      .LNK_CNT_LOCK_LOSS, .LNK_CNT_REBUILT, .LNK_CNT_PARITY_MISMATCH, .LNK_CNT_ERASED_ROWS, .CAP_CNT_INCOMPLETE,
      .CAP_CNT_OVERSIZE, .FST_RING_WP_BAND, .MST_STATUS, .MST_SPARE_USE, .MST_SPAR_STATE, .MST_CNT_CANCEL,
      .MST_CNT_INGEST_DROP, .HAL_CNT_QUEUE_DROP] s (State.retrain s n) := by
  unfold State.retrain
  extract_lets v1
  clear_value v1
  refine Changes.ite ?_ ?_
  · exact Changes.refl _ _ _
  · refine Changes.ite ?_ ?_
    · refine Changes.andThen ?_ (State.laneStart_changes ..) (by decide) (subset_regs (by decide +kernel))
      exact Changes.refl _ _ _
    · refine Changes.ite ?_ ?_
      · refine Changes.ite ?_ ?_
        · refine Changes.andThen ?_ (State.laneOff_changes ..) (by decide) (subset_regs (by decide +kernel))
          exact Changes.refl _ _ _
        · refine Changes.andThen ?_ (State.laneLost_changes ..) (by decide) (subset_regs (by decide +kernel))
          exact Changes.refl _ _ _
      · refine Changes.andThen ?_ (State.laneBack_changes ..) (by decide) (subset_regs (by decide +kernel))
        exact Changes.refl _ _ _

theorem State.trainFail_changes (s : State) (n : Nat) (abort : Bool) :
    Changes [.outbox, .freeCtr, .lnk, .port, .cap, .mst, .hal, .dma, .ddr, .fst] [.LNK_STATUS, .LNK_PORT_STATUS,
      .LNK_CNT_LOCK_LOSS, .LNK_CNT_REBUILT, .LNK_CNT_PARITY_MISMATCH, .LNK_CNT_ERASED_ROWS, .CAP_CNT_INCOMPLETE,
      .CAP_CNT_OVERSIZE, .FST_RING_WP_BAND, .MST_STATUS, .MST_SPARE_USE, .MST_SPAR_STATE, .MST_CNT_CANCEL,
      .MST_CNT_INGEST_DROP, .HAL_CNT_QUEUE_DROP] s (State.trainFail s n abort) := by
  unfold State.trainFail
  extract_lets v1 v2
  refine Changes.cut (x := v1) ?_ (fun h3 => ?_)
  · unfold v1
    refine Changes.ite ?_ ?_
    · refine Changes.andThen ?_ (State.sendTraining_changes ..) (by decide) (subset_regs (by decide +kernel))
      exact Changes.refl _ _ _
    · exact Changes.refl _ _ _
  refine Changes.cut (x := v2) ?_ (fun h4 => ?_)
  · unfold v2
    refine Changes.setFld ?_ (by decide +kernel)
    assumption
  clear_value v1
  clear_value v2
  refine Changes.ite ?_ ?_
  · refine Changes.andThen ?_ (State.laneLost_changes ..) (by decide) (subset_regs (by decide +kernel))
    assumption
  · refine Changes.andThen ?_ (State.laneRestart_changes ..) (by decide) (subset_regs (by decide +kernel))
    assumption

theorem State.readmitFail_changes (s : State) (n : Nat) :
    Changes [.lnk] [.LNK_STATUS] s (State.readmitFail s n) := by
  unfold State.readmitFail
  extract_lets v1 v2 v3
  clear_value v1
  clear_value v2
  clear_value v3
  refine Changes.andThen ?_ (State.laneRestart_changes ..) (by decide) (subset_regs (by decide +kernel))
  refine Changes.andThen ?_ (State.setLn_changes ..) (by decide) (subset_regs (by decide +kernel))
  exact Changes.refl _ _ _

theorem State.countGood_changes (p : Nat) (x : Stripe) (valid : Nat → Bool) (i : Nat) (s : State) :
    Changes [.lnk] [] s (State.countGood p x valid i s) := by
  unfold State.countGood
  extract_lets v1 v2 v3 v4
  clear_value v1
  clear_value v2
  clear_value v3
  clear_value v4
  refine Changes.ite ?_ ?_
  · exact Changes.refl _ _ _
  · refine Changes.andThen ?_ (State.setLn_changes ..) (by decide) (subset_regs (by decide +kernel))
    exact Changes.refl _ _ _

theorem State.parityRow_changes (s : State) (p : Nat) (v : RowView) :
    Changes [.lnk, .port] [.LNK_STATUS, .LNK_CNT_REBUILT, .LNK_CNT_PARITY_MISMATCH, .LNK_CNT_ERASED_ROWS] s
      (State.parityRow s p v) := by
  unfold State.parityRow
  extract_lets v1 v2 v3 v4 v5 v6 v7 v8 v9
  refine Changes.cut (x := v5) ?_ (fun h10 => ?_)
  · unfold v5
    refine Changes.trans ?_ (State.eachOf_changes (fun k11 s12 => ?_) _ _)
    · exact Changes.refl _ _ _
    · refine Changes.andThen ?_ (State.countGood_changes ..) (by decide) (subset_regs (by decide +kernel))
      exact Changes.refl _ _ _
  refine Changes.cut (x := v6) ?_ (fun h13 => ?_)
  · unfold v6
    split
    · rename_i y14 y15 y16
      extract_lets v17
      clear_value v17
      refine Changes.ite ?_ ?_
      · refine Changes.andThen ?_ (State.readmitFail_changes ..) (by decide) (subset_regs (by decide +kernel))
        assumption
      · assumption
    · rename_i y18 y19
      assumption
  refine Changes.cut (x := v9) ?_ (fun h20 => ?_)
  · unfold v9
    refine Changes.andThen ?_ (State.setPt_changes ..) (by decide) (subset_regs (by decide +kernel))
    assumption
  clear_value v1
  clear_value v4
  clear_value v5
  clear_value v6
  clear_value v7
  clear_value v8
  clear_value v9
  refine Changes.ite ?_ ?_
  · split
    · rename_i y21 y22 y23
      refine Changes.andThen ?_ (State.releaseStripe_changes ..) (by decide) (subset_regs (by decide +kernel))
      assumption
    · rename_i y24
      assumption
  · assumption

theorem State.takeData_changes (s : State) (p : Nat) (v : RowView) :
    Changes [.lnk, .port] [.LNK_STATUS, .LNK_PATTERN, .LNK_CNT_REBUILT, .LNK_CNT_PARITY_MISMATCH,
      .LNK_CNT_ERASED_ROWS, .LNK_BER_BITS_LO, .LNK_BER_ERRS] s (State.takeData s p v) := by
  unfold State.takeData
  extract_lets v1 v2 v3
  refine Changes.cut (x := v1) ?_ (fun h4 => ?_)
  · unfold v1
    refine Changes.trans ?_ (State.eachOf_changes (fun k5 s6 => ?_) _ _)
    · exact Changes.refl _ _ _
    · refine Changes.andThen ?_ (State.framedCheck_changes ..) (by decide) (subset_regs (by decide +kernel))
      exact Changes.refl _ _ _
  refine Changes.cut (x := v3) ?_ (fun h7 => ?_)
  · unfold v3
    refine Changes.andThen ?_ (State.addBytes_changes ..) (by decide) (subset_regs (by decide +kernel))
    assumption
  clear_value v1
  clear_value v2
  clear_value v3
  refine Changes.ite ?_ ?_
  · refine Changes.andThen ?_ (State.parityRow_changes ..) (by decide) (subset_regs (by decide +kernel))
    assumption
  · refine Changes.ite ?_ ?_
    · assumption
    · refine Changes.bump ?_ (by decide +kernel)
      assumption

theorem State.oddBlock_changes (n : Nat) (s : State) :
    Changes [.lnk] [.LNK_CNT_BAD_HDR] s (State.oddBlock n s) := by
  unfold State.oddBlock
  extract_lets v1 v2
  refine Changes.cut (x := v1) ?_ (fun h3 => ?_)
  · unfold v1
    refine Changes.bump ?_ (by decide +kernel)
    exact Changes.refl _ _ _
  clear_value v1
  clear_value v2
  refine Changes.ite ?_ ?_
  · refine Changes.andThen ?_ (State.setLn_changes ..) (by decide) (subset_regs (by decide +kernel))
    assumption
  · assumption

theorem State.settle_changes (s : State) (p : Nat) (blocks : List LineBlock) :
    Changes [.outbox, .lnk, .port] [.LNK_STATUS, .LNK_CNT_BAD_HDR, .LNK_CNT_EB_OVF] s (State.settle s p blocks).2 := by
  unfold State.settle
  extract_lets v1 v2 v3 v4 v5
  refine Changes.cut (x := v1.2) ?_ (fun h6 => ?_)
  · unfold v1
    refine Changes.andThen ?_ (State.rxRow_changes ..) (by decide) (subset_regs (by decide +kernel))
    exact Changes.refl _ _ _
  refine Changes.cut (x := v5) ?_ (fun h7 => ?_)
  · unfold v5
    refine Changes.trans ?_ (State.eachOf_changes (fun k8 s9 => ?_) _ _)
    · assumption
    · refine Changes.andThen ?_ (State.oddBlock_changes ..) (by decide) (subset_regs (by decide +kernel))
      exact Changes.refl _ _ _
  clear_value v1
  clear_value v3
  clear_value v4
  clear_value v5
  dsimp only
  assumption

theorem State.powerRow_changes (s : State) (p : Nat) (blocks : List LineBlock) :
    Changes [.outbox, .lnk, .port] [.LNK_STATUS, .LNK_PATTERN, .LNK_CNT_BAD_HDR, .LNK_CNT_BAD_TYPE,
      .LNK_CNT_EB_OVF, .LNK_CNT_REBUILT, .LNK_CNT_PARITY_MISMATCH, .LNK_CNT_ERASED_ROWS, .LNK_BER_BITS_LO,
      .LNK_BER_ERRS] s (State.powerRow s p blocks).2 := by
  unfold State.powerRow
  extract_lets v1 v2
  refine Changes.cut (x := v1.2) ?_ (fun h3 => ?_)
  · unfold v1
    refine Changes.andThen ?_ (State.settle_changes ..) (by decide) (subset_regs (by decide +kernel))
    exact Changes.refl _ _ _
  clear_value v1
  clear_value v2
  split
  · rename_i y4
    dsimp only
    refine Changes.ite ?_ ?_
    · refine Changes.andThen ?_ (State.takeData_changes ..) (by decide) (subset_regs (by decide +kernel))
      assumption
    · assumption
  · rename_i y5
    dsimp only
    refine Changes.trans ?_ (State.eachOf_changes (fun k6 s7 => ?_) _ _)
    · assumption
    · refine Changes.bump ?_ (by decide +kernel)
      exact Changes.refl _ _ _

theorem State.trainCheck_changes (s : State) (n : Nat) :
    Changes [.outbox, .freeCtr, .lnk, .port] [.LNK_STATUS] s (State.trainCheck s n) := by
  unfold State.trainCheck
  refine Changes.ite ?_ ?_
  · refine Changes.andThen ?_ (State.enterDeskew_changes ..) (by decide) (subset_regs (by decide +kernel))
    exact Changes.refl _ _ _
  · exact Changes.refl _ _ _

theorem State.nextStep_changes (s : State) (n : Nat) :
    Changes [.outbox, .freeCtr, .lnk, .port] [] s (State.nextStep s n) := by
  unfold State.nextStep
  extract_lets v1 v2 v3
  refine Changes.cut (x := v1.2) ?_ (fun h4 => ?_)
  · unfold v1
    refine Changes.andThen ?_ (State.freeBits_changes ..) (by decide) (subset_regs (by decide +kernel))
    exact Changes.refl _ _ _
  clear_value v1
  clear_value v2
  clear_value v3
  refine Changes.andThen ?_ (State.request_changes ..) (by decide) (subset_regs (by decide +kernel))
  refine Changes.andThen ?_ (State.setLn_changes ..) (by decide) (subset_regs (by decide +kernel))
  assumption

theorem State.answered_changes (s : State) (n : Nat) :
    Changes [.outbox, .freeCtr, .lnk, .port] [.LNK_STATUS] s (State.answered s n) := by
  unfold State.answered
  extract_lets v1
  clear_value v1
  refine Changes.ite ?_ ?_
  · refine Changes.andThen ?_ (State.trainCheck_changes ..) (by decide) (subset_regs (by decide +kernel))
    refine Changes.andThen ?_ (State.sendReady_changes ..) (by decide) (subset_regs (by decide +kernel))
    exact Changes.refl _ _ _
  · refine Changes.ite ?_ ?_
    · exact Changes.refl _ _ _
    · refine Changes.ite ?_ ?_
      · refine Changes.andThen ?_ (State.nextStep_changes ..) (by decide) (subset_regs (by decide +kernel))
        exact Changes.refl _ _ _
      · refine Changes.andThen ?_ (State.trainCheck_changes ..) (by decide) (subset_regs (by decide +kernel))
        refine Changes.andThen ?_ (State.sendReady_changes ..) (by decide) (subset_regs (by decide +kernel))
        exact Changes.refl _ _ _

theorem State.trainStatus_changes (s : State) (n : Nat) (seq : Nat) :
    Changes [.outbox, .freeCtr, .lnk, .port] [.LNK_STATUS] s (State.trainStatus s n seq) := by
  unfold State.trainStatus
  split
  · rename_i y1 y2 y3
    extract_lets v4
    clear_value v4
    refine Changes.ite ?_ ?_
    · refine Changes.andThen ?_ (State.answered_changes ..) (by decide) (subset_regs (by decide +kernel))
      refine Changes.andThen ?_ (State.setLn_changes ..) (by decide) (subset_regs (by decide +kernel))
      exact Changes.refl _ _ _
    · exact Changes.refl _ _ _
  · rename_i y5 y6
    exact Changes.refl _ _ _

theorem State.training_changes (s : State) (n : Nat) (blk : LineBlock) :
    Changes [.outbox, .freeCtr, .lnk, .port, .cap, .mst, .hal, .dma, .ddr, .fst] [.LNK_STATUS, .LNK_PORT_STATUS,
      .LNK_TAPS, .LNK_CNT_BAD_HDR, .LNK_CNT_LOCK_LOSS, .LNK_CNT_BAD_TYPE, .LNK_CNT_EB_OVF, .LNK_CNT_REBUILT,
      .LNK_CNT_PARITY_MISMATCH, .LNK_CNT_ERASED_ROWS, .CAP_CNT_INCOMPLETE, .CAP_CNT_OVERSIZE, .FST_RING_WP_BAND,
      .MST_STATUS, .MST_SPARE_USE, .MST_SPAR_STATE, .MST_CNT_CANCEL, .MST_CNT_INGEST_DROP, .HAL_CNT_QUEUE_DROP] s
      (State.training s n blk) := by
  unfold State.training
  extract_lets v1 v2 v3 v4 v5 v6 v7
  refine Changes.cut (x := v1.2) ?_ (fun h8 => ?_)
  · unfold v1
    refine Changes.andThen ?_ (State.rxBlock_changes ..) (by decide) (subset_regs (by decide +kernel))
    exact Changes.refl _ _ _
  refine Changes.cut (x := v3) ?_ (fun h9 => ?_)
  · unfold v3
    assumption
  refine Changes.cut (x := v6.2) ?_ (fun h10 => ?_)
  · unfold v6
    refine Changes.andThen ?_ (State.applyTaps_changes ..) (by decide) (subset_regs (by decide +kernel))
    assumption
  clear_value v1
  clear_value v2
  clear_value v3
  clear_value v5
  clear_value v6
  clear_value v7
  refine Changes.ite ?_ ?_
  · exact Changes.refl _ _ _
  · refine Changes.ite ?_ ?_
    · assumption
    · refine Changes.ite ?_ ?_
      · refine Changes.bump ?_ (by decide +kernel)
        assumption
      · split
        · rename_i y11 y12
          refine Changes.andThen ?_ (State.sendTraining_changes ..) (by decide) (subset_regs (by decide +kernel))
          assumption
        · rename_i y13 y14
          refine Changes.andThen ?_ (State.trainStatus_changes ..) (by decide) (subset_regs (by decide +kernel))
          unfold v4
          refine Changes.setFld ?_ (by decide +kernel)
          refine Changes.setFld ?_ (by decide +kernel)
          refine Changes.setFld ?_ (by decide +kernel)
          assumption
        · rename_i y15 y16
          refine Changes.ite ?_ ?_
          · refine Changes.andThen ?_ (State.trainCheck_changes ..) (by decide) (subset_regs (by decide +kernel))
            refine Changes.andThen ?_ (State.setLn_changes ..) (by decide) (subset_regs (by decide +kernel))
            unfold v4
            refine Changes.setFld ?_ (by decide +kernel)
            refine Changes.setFld ?_ (by decide +kernel)
            refine Changes.setFld ?_ (by decide +kernel)
            assumption
          · unfold v4
            refine Changes.setFld ?_ (by decide +kernel)
            refine Changes.setFld ?_ (by decide +kernel)
            refine Changes.setFld ?_ (by decide +kernel)
            assumption
        · rename_i y17 y18
          refine Changes.ite ?_ ?_
          · refine Changes.andThen ?_ (State.trainFail_changes ..) (by decide) (subset_regs (by decide +kernel))
            assumption
          · assumption
        · rename_i y19 y20 y21 y22 y23
          refine Changes.bump ?_ (by decide +kernel)
          assumption

theorem State.badSkip_changes (s : State) (n : Nat) :
    Changes [.lnk] [.LNK_CNT_BAD_TYPE, .LNK_CNT_STUFF_EXCESS, .LNK_CNT_SKIP_ERR] s (State.badSkip s n) := by
  unfold State.badSkip
  refine Changes.andThen ?_ (State.intervalEnd_changes ..) (by decide) (subset_regs (by decide +kernel))
  refine Changes.bump ?_ (by decide +kernel)
  refine Changes.bump ?_ (by decide +kernel)
  exact Changes.refl _ _ _

theorem State.joinPort_changes (s : State) (p : Nat) (n : Nat) (st : Nat) :
    Changes [.outbox, .freeCtr, .lnk, .port, .cap, .mst, .hal, .dma, .ddr, .fst] [.LNK_STATUS, .LNK_PORT_STATUS,
      .LNK_CNT_LOCK_LOSS, .LNK_CNT_REBUILT, .LNK_CNT_PARITY_MISMATCH, .LNK_CNT_ERASED_ROWS, .CAP_CNT_INCOMPLETE,
      .CAP_CNT_OVERSIZE, .FST_RING_WP_BAND, .MST_STATUS, .MST_SPARE_USE, .MST_SPAR_STATE, .MST_CNT_CANCEL,
      .MST_CNT_INGEST_DROP, .HAL_CNT_QUEUE_DROP] s (State.joinPort s p n st) := by
  unfold State.joinPort
  refine Changes.ite ?_ ?_
  · refine Changes.andThen ?_ (State.setLstate_changes ..) (by decide) (subset_regs (by decide +kernel))
    exact Changes.refl _ _ _
  · refine Changes.andThen ?_ (State.skewLost_changes ..) (by decide) (subset_regs (by decide +kernel))
    exact Changes.refl _ _ _

theorem State.followMask_changes (s : State) (p : Nat) (mask : Nat) (par : Bool) :
    Changes [.outbox, .freeCtr, .lnk, .port, .cap, .mst, .hal, .dma, .ddr, .fst] [.LNK_STATUS, .LNK_PORT_STATUS,
      .LNK_CNT_LOCK_LOSS, .LNK_CNT_REBUILT, .LNK_CNT_PARITY_MISMATCH, .LNK_CNT_ERASED_ROWS, .CAP_CNT_INCOMPLETE,
      .CAP_CNT_OVERSIZE, .FST_RING_WP_BAND, .MST_STATUS, .MST_SPARE_USE, .MST_SPAR_STATE, .MST_CNT_CANCEL,
      .MST_CNT_INGEST_DROP, .HAL_CNT_QUEUE_DROP] s (State.followMask s p mask par) := by
  unfold State.followMask
  extract_lets v1 v2 v3 v4 v5 v6 v7 v8 v9
  refine Changes.cut (x := v3) ?_ (fun h10 => ?_)
  · unfold v3
    refine Changes.andThen ?_ (State.releaseAll_changes ..) (by decide) (subset_regs (by decide +kernel))
    exact Changes.refl _ _ _
  refine Changes.cut (x := v5) ?_ (fun h11 => ?_)
  · unfold v5
    split
    · rename_i y12 y13 y14
      refine Changes.andThen ?_ (State.setCp_changes ..) (by decide) (subset_regs (by decide +kernel))
      assumption
    · rename_i y15 y16
      assumption
  refine Changes.cut (x := v7) ?_ (fun h17 => ?_)
  · unfold v7
    refine Changes.setFld ?_ (by decide +kernel)
    refine Changes.setFld ?_ (by decide +kernel)
    refine Changes.setFld ?_ (by decide +kernel)
    assumption
  refine Changes.cut (x := v9) ?_ (fun h18 => ?_)
  · unfold v9
    refine Changes.andThen ?_ (State.setPt_changes ..) (by decide) (subset_regs (by decide +kernel))
    assumption
  clear_value v1
  clear_value v2
  clear_value v3
  clear_value v4
  clear_value v5
  clear_value v6
  clear_value v7
  clear_value v8
  clear_value v9
  refine Changes.ite ?_ ?_
  · exact Changes.refl _ _ _
  · refine Changes.andThen ?_ (State.tryRestore_changes ..) (by decide) (subset_regs (by decide +kernel))
    refine Changes.trans ?_ (State.eachOf_changes (fun k19 s20 => ?_) _ _)
    · assumption
    · refine Changes.ite ?_ ?_
      · refine Changes.andThen ?_ (State.joinPort_changes ..) (by decide) (subset_regs (by decide +kernel))
        exact Changes.refl _ _ _
      · exact Changes.refl _ _ _

theorem State.trainStart_changes (s : State) (n : Nat) :
    Changes [.outbox, .freeCtr, .lnk, .port] [.LNK_STATUS] s (State.trainStart s n) := by
  unfold State.trainStart
  extract_lets v1 v2
  refine Changes.cut (x := v2) ?_ (fun h3 => ?_)
  · unfold v2
    refine Changes.andThen ?_ (State.setLstate_changes ..) (by decide) (subset_regs (by decide +kernel))
    refine Changes.andThen ?_ (State.setLn_changes ..) (by decide) (subset_regs (by decide +kernel))
    exact Changes.refl _ _ _
  clear_value v1
  clear_value v2
  refine Changes.ite ?_ ?_
  · refine Changes.andThen ?_ (State.request_changes ..) (by decide) (subset_regs (by decide +kernel))
    assumption
  · refine Changes.ite ?_ ?_
    · refine Changes.andThen ?_ (State.request_changes ..) (by decide) (subset_regs (by decide +kernel))
      assumption
    · refine Changes.andThen ?_ (State.sendReady_changes ..) (by decide) (subset_regs (by decide +kernel))
      assumption

theorem State.alignAgain_changes (n : Nat) (s : State) :
    Changes [.lnk] [.LNK_STATUS] s (State.alignAgain n s) := by
  unfold State.alignAgain
  extract_lets v1
  clear_value v1
  refine Changes.ite ?_ ?_
  · refine Changes.andThen ?_ (State.setLstate_changes ..) (by decide) (subset_regs (by decide +kernel))
    refine Changes.andThen ?_ (State.setLn_changes ..) (by decide) (subset_regs (by decide +kernel))
    exact Changes.refl _ _ _
  · exact Changes.refl _ _ _

theorem State.orderCheck_changes (s : State) (p : Nat) (n : Nat) :
    Changes [.lnk, .port] [.LNK_STATUS, .LNK_PORT_STATUS] s (State.orderCheck s p n).2 := by
  unfold State.orderCheck
  extract_lets v1 v2 v3 v4 v5 v6 v7 v8 v9 v10
  refine Changes.cut (x := v6) ?_ (fun h11 => ?_)
  · unfold v6
    refine Changes.setFld ?_ (by decide +kernel)
    exact Changes.refl _ _ _
  refine Changes.cut (x := v8) ?_ (fun h12 => ?_)
  · unfold v8
    refine Changes.setFld ?_ (by decide +kernel)
    assumption
  refine Changes.cut (x := v9) ?_ (fun h13 => ?_)
  · unfold v9
    refine Changes.setFld ?_ (by decide +kernel)
    assumption
  clear_value v1
  clear_value v2
  clear_value v3
  clear_value v4
  clear_value v5
  clear_value v6
  clear_value v8
  clear_value v9
  clear_value v10
  split
  · rename_i y14
    dsimp only
    refine Changes.setFld ?_ (by decide +kernel)
    assumption
  · rename_i y15
    split
    · rename_i y16
      dsimp only
      assumption
    · rename_i y17
      dsimp only
      refine Changes.andThen ?_ (State.setPt_changes ..) (by decide) (subset_regs (by decide +kernel))
      refine Changes.trans ?_ (State.eachOf_changes (fun k18 s19 => ?_) _ _)
      · assumption
      · refine Changes.andThen ?_ (State.alignAgain_changes ..) (by decide) (subset_regs (by decide +kernel))
        exact Changes.refl _ _ _

theorem State.useSkip_changes (s : State) (n : Nat) (b : List Byte) :
    Changes [.outbox, .freeCtr, .lnk, .port, .cap, .mst, .hal, .dma, .ddr, .fst] [.LNK_STATUS, .LNK_PORT_STATUS,
      .LNK_CNT_LOCK_LOSS, .LNK_CNT_REBUILT, .LNK_CNT_PARITY_MISMATCH, .LNK_CNT_ERASED_ROWS, .CAP_CNT_INCOMPLETE,
      .CAP_CNT_OVERSIZE, .FST_RING_WP_BAND, .MST_STATUS, .MST_SPARE_USE, .MST_SPAR_STATE, .MST_CNT_CANCEL,
      .MST_CNT_INGEST_DROP, .HAL_CNT_QUEUE_DROP] s (State.useSkip s n b) := by
  unfold State.useSkip
  extract_lets v1 v2 v3 v4 v5 v6 v7 v8 v9 v10 v11 v12 v13
  refine Changes.cut (x := v5.2) ?_ (fun h14 => ?_)
  · unfold v5
    refine Changes.andThen ?_ (State.orderCheck_changes ..) (by decide) (subset_regs (by decide +kernel))
    exact Changes.refl _ _ _
  refine Changes.cut (x := v7) ?_ (fun h15 => ?_)
  · unfold v7
    refine Changes.andThen ?_ (State.enterDeskew_changes ..) (by decide) (subset_regs (by decide +kernel))
    assumption
  refine Changes.cut (x := v11) ?_ (fun h16 => ?_)
  · unfold v11
    refine Changes.andThen ?_ (State.setPt_changes ..) (by decide) (subset_regs (by decide +kernel))
    exact Changes.refl _ _ _
  refine Changes.cut (x := v12) ?_ (fun h17 => ?_)
  · unfold v12
    refine Changes.andThen ?_ (State.followMask_changes ..) (by decide) (subset_regs (by decide +kernel))
    exact Changes.refl _ _ _
  clear_value v1
  clear_value v2
  clear_value v3
  clear_value v4
  clear_value v5
  clear_value v6
  clear_value v7
  clear_value v8
  clear_value v9
  clear_value v10
  clear_value v11
  clear_value v12
  clear_value v13
  refine Changes.ite ?_ ?_
  · refine Changes.ite ?_ ?_
    · refine Changes.ite ?_ ?_
      · refine Changes.andThen ?_ (State.setLn_changes ..) (by decide) (subset_regs (by decide +kernel))
        assumption
      · assumption
    · refine Changes.ite ?_ ?_
      · refine Changes.andThen ?_ (State.tryUp_changes ..) (by decide) (subset_regs (by decide +kernel))
        refine Changes.andThen ?_ (State.setLn_changes ..) (by decide) (subset_regs (by decide +kernel))
        assumption
      · refine Changes.andThen ?_ (State.trainStart_changes ..) (by decide) (subset_regs (by decide +kernel))
        assumption
  · refine Changes.ite ?_ ?_
    · refine Changes.ite ?_ ?_
      · refine Changes.andThen ?_ (State.tryUp_changes ..) (by decide) (subset_regs (by decide +kernel))
        exact Changes.refl _ _ _
      · refine Changes.ite ?_ ?_
        · refine Changes.andThen ?_ (State.joinPort_changes ..) (by decide) (subset_regs (by decide +kernel))
          refine Changes.andThen ?_ (State.setLn_changes ..) (by decide) (subset_regs (by decide +kernel))
          exact Changes.refl _ _ _
        · refine Changes.ite ?_ ?_
          · refine Changes.andThen ?_ (State.joinPort_changes ..) (by decide) (subset_regs (by decide +kernel))
            refine Changes.andThen ?_ (State.setLn_changes ..) (by decide) (subset_regs (by decide +kernel))
            exact Changes.refl _ _ _
          · refine Changes.andThen ?_ (State.followMask_changes ..) (by decide) (subset_regs (by decide +kernel))
            exact Changes.refl _ _ _
    · refine Changes.ite ?_ ?_
      · refine Changes.ite ?_ ?_
        · refine Changes.andThen ?_ (State.setOut_changes ..) (by decide) (subset_regs (by decide +kernel))
          refine Changes.andThen ?_ (State.setLstate_changes ..) (by decide) (subset_regs (by decide +kernel))
          refine Changes.andThen ?_ (State.setLn_changes ..) (by decide) (subset_regs (by decide +kernel))
          assumption
        · refine Changes.andThen ?_ (State.readmitFail_changes ..) (by decide) (subset_regs (by decide +kernel))
          assumption
      · refine Changes.ite ?_ ?_
        · refine Changes.ite ?_ ?_
          · refine Changes.andThen ?_ (State.setPt_changes ..) (by decide) (subset_regs (by decide +kernel))
            assumption
          · assumption
        · exact Changes.refl _ _ _

theorem State.noteSkip_changes (s : State) (n : Nat) (slot : Nat) (b : List Byte) :
    Changes [.lnk] [.LNK_STATUS, .LNK_PORT_STATUS, .LNK_CNT_STUFF_EXCESS, .LNK_CNT_SKIP_ERR] s (State.noteSkip s n
      slot b).2 := by
  unfold State.noteSkip
  extract_lets v1 v2 v3 v4 v5 v6 v7 v8 v9 v10 v11 v12
  refine Changes.cut (x := v7) ?_ (fun h13 => ?_)
  · unfold v7
    refine Changes.andThen ?_ (State.intervalEnd_changes ..) (by decide) (subset_regs (by decide +kernel))
    exact Changes.refl _ _ _
  refine Changes.cut (x := v9) ?_ (fun h14 => ?_)
  · unfold v9
    refine Changes.setFld ?_ (by decide +kernel)
    refine Changes.andThen ?_ (State.setLn_changes ..) (by decide) (subset_regs (by decide +kernel))
    assumption
  refine Changes.cut (x := v10) ?_ (fun h15 => ?_)
  · unfold v10
    refine Changes.ite ?_ ?_
    · refine Changes.bump ?_ (by decide +kernel)
      assumption
    · assumption
  refine Changes.cut (x := v12) ?_ (fun h16 => ?_)
  · unfold v12
    refine Changes.ite ?_ ?_
    · refine Changes.setFld ?_ (by decide +kernel)
      assumption
    · assumption
  clear_value v1
  clear_value v2
  clear_value v3
  clear_value v4
  clear_value v5
  clear_value v6
  clear_value v7
  clear_value v8
  clear_value v9
  clear_value v10
  clear_value v11
  clear_value v12
  dsimp only
  assumption

theorem State.validSkip_changes (s : State) (n : Nat) (slot : Nat) (inv : Bool) (b : List Byte) :
    Changes [.outbox, .freeCtr, .lnk, .port, .cap, .mst, .hal, .dma, .ddr, .fst] [.LNK_STATUS, .LNK_PORT_STATUS,
      .LNK_CNT_LOCK_LOSS, .LNK_CNT_STUFF_EXCESS, .LNK_CNT_SKIP_ERR, .LNK_CNT_REBUILT, .LNK_CNT_PARITY_MISMATCH,
      .LNK_CNT_ERASED_ROWS, .CAP_CNT_INCOMPLETE, .CAP_CNT_OVERSIZE, .FST_RING_WP_BAND, .MST_STATUS,
      .MST_SPARE_USE, .MST_SPAR_STATE, .MST_CNT_CANCEL, .MST_CNT_INGEST_DROP, .HAL_CNT_QUEUE_DROP] s
      (State.validSkip s n slot inv b) := by
  unfold State.validSkip
  extract_lets v1 v2 v3 v4
  clear_value v4
  refine Changes.ite ?_ ?_
  · refine Changes.ite ?_ ?_
    · unfold v2
      extract_lets v5
      refine Changes.cut (x := v5.2) ?_ (fun h6 => ?_)
      · unfold v5
        refine Changes.andThen ?_ (State.noteSkip_changes ..) (by decide) (subset_regs (by decide +kernel))
        refine Changes.andThen ?_ (State.setLn_changes ..) (by decide) (subset_regs (by decide +kernel))
        exact Changes.refl _ _ _
      clear_value v5
      refine Changes.ite ?_ ?_
      · refine Changes.andThen ?_ (State.laneLost_changes ..) (by decide) (subset_regs (by decide +kernel))
        assumption
      · refine Changes.andThen ?_ (State.useSkip_changes ..) (by decide) (subset_regs (by decide +kernel))
        assumption
    · refine Changes.bump ?_ (by decide +kernel)
      exact Changes.refl _ _ _
  · refine Changes.ite ?_ ?_
    · refine Changes.ite ?_ ?_
      · unfold v2
        extract_lets v7
        refine Changes.cut (x := v7.2) ?_ (fun h8 => ?_)
        · unfold v7
          refine Changes.andThen ?_ (State.noteSkip_changes ..) (by decide) (subset_regs (by decide +kernel))
          refine Changes.setFld ?_ (by decide +kernel)
          refine Changes.andThen ?_ (State.setLn_changes ..) (by decide) (subset_regs (by decide +kernel))
          exact Changes.refl _ _ _
        clear_value v7
        refine Changes.ite ?_ ?_
        · refine Changes.andThen ?_ (State.laneLost_changes ..) (by decide) (subset_regs (by decide +kernel))
          assumption
        · refine Changes.andThen ?_ (State.useSkip_changes ..) (by decide) (subset_regs (by decide +kernel))
          assumption
      · unfold v3
        extract_lets v9 v10
        refine Changes.cut (x := v9.2) ?_ (fun h11 => ?_)
        · unfold v9
          refine Changes.andThen ?_ (State.noteSkip_changes ..) (by decide) (subset_regs (by decide +kernel))
          exact Changes.refl _ _ _
        clear_value v9
        clear_value v10
        refine Changes.andThen ?_ (State.setLn_changes ..) (by decide) (subset_regs (by decide +kernel))
        assumption
    · refine Changes.ite ?_ ?_
      · unfold v2
        extract_lets v12
        refine Changes.cut (x := v12.2) ?_ (fun h13 => ?_)
        · unfold v12
          refine Changes.andThen ?_ (State.noteSkip_changes ..) (by decide) (subset_regs (by decide +kernel))
          exact Changes.refl _ _ _
        clear_value v12
        refine Changes.ite ?_ ?_
        · refine Changes.andThen ?_ (State.laneLost_changes ..) (by decide) (subset_regs (by decide +kernel))
          assumption
        · refine Changes.andThen ?_ (State.useSkip_changes ..) (by decide) (subset_regs (by decide +kernel))
          assumption
      · refine Changes.ite ?_ ?_
        · unfold v3
          extract_lets v14 v15
          refine Changes.cut (x := v14.2) ?_ (fun h16 => ?_)
          · unfold v14
            refine Changes.andThen ?_ (State.noteSkip_changes ..) (by decide) (subset_regs (by decide +kernel))
            refine Changes.andThen ?_ (State.setLn_changes ..) (by decide) (subset_regs (by decide +kernel))
            exact Changes.refl _ _ _
          clear_value v14
          clear_value v15
          refine Changes.andThen ?_ (State.setLn_changes ..) (by decide) (subset_regs (by decide +kernel))
          assumption
        · exact Changes.refl _ _ _

theorem State.skipBlock_changes (s : State) (n : Nat) (slot : Nat) (blk : LineBlock) :
    Changes [.outbox, .freeCtr, .lnk, .port, .cap, .mst, .hal, .dma, .ddr, .fst] [.LNK_STATUS, .LNK_PORT_STATUS,
      .LNK_CNT_BAD_HDR, .LNK_CNT_LOCK_LOSS, .LNK_CNT_BAD_TYPE, .LNK_CNT_STUFF_EXCESS, .LNK_CNT_SKIP_ERR,
      .LNK_CNT_EB_OVF, .LNK_CNT_REBUILT, .LNK_CNT_PARITY_MISMATCH, .LNK_CNT_ERASED_ROWS, .CAP_CNT_INCOMPLETE,
      .CAP_CNT_OVERSIZE, .FST_RING_WP_BAND, .MST_STATUS, .MST_SPARE_USE, .MST_SPAR_STATE, .MST_CNT_CANCEL,
      .MST_CNT_INGEST_DROP, .HAL_CNT_QUEUE_DROP] s (State.skipBlock s n slot blk) := by
  unfold State.skipBlock
  extract_lets v1 v2
  refine Changes.cut (x := v1.2) ?_ (fun h3 => ?_)
  · unfold v1
    refine Changes.andThen ?_ (State.lineIn_changes ..) (by decide) (subset_regs (by decide +kernel))
    exact Changes.refl _ _ _
  refine Changes.cut (x := v2.2) ?_ (fun h4 => ?_)
  · unfold v2
    refine Changes.andThen ?_ (State.takeBlock_changes ..) (by decide) (subset_regs (by decide +kernel))
    assumption
  clear_value v1
  clear_value v2
  split
  · rename_i y5 y6
    refine Changes.ite ?_ ?_
    · assumption
    · refine Changes.andThen ?_ (State.badHeader_changes ..) (by decide) (subset_regs (by decide +kernel))
      assumption
  · rename_i y7 y8 y9
    extract_lets v10
    refine Changes.cut (x := v10.2) ?_ (fun h11 => ?_)
    · unfold v10
      refine Changes.andThen ?_ (State.takeBlock_changes ..) (by decide) (subset_regs (by decide +kernel))
      assumption
    clear_value v10
    refine Changes.ite ?_ ?_
    · refine Changes.andThen ?_ (State.validSkip_changes ..) (by decide) (subset_regs (by decide +kernel))
      assumption
    · refine Changes.andThen ?_ (State.badSkip_changes ..) (by decide) (subset_regs (by decide +kernel))
      assumption

theorem State.deepReq_changes (s : State) (n : Nat) (on : Bool) :
    Changes [.outbox, .freeCtr, .lnk, .port] [.LNK_CTRL, .LNK_STATUS] s (State.deepReq s n on) := by
  unfold State.deepReq
  extract_lets v1 v2
  refine Changes.cut (x := v1) ?_ (fun h3 => ?_)
  · unfold v1
    refine Changes.setFld ?_ (by decide +kernel)
    exact Changes.refl _ _ _
  clear_value v1
  clear_value v2
  refine Changes.ite ?_ ?_
  · refine Changes.andThen ?_ (State.deepAsk_changes ..) (by decide) (subset_regs (by decide +kernel))
    assumption
  · refine Changes.ite ?_ ?_
    · assumption
    · refine Changes.andThen ?_ (State.deepExit_changes ..) (by decide) (subset_regs (by decide +kernel))
      assumption

theorem State.clearBer_changes (s : State) (n : Nat) :
    Changes [.lnk] [.LNK_BER_BITS_LO, .LNK_BER_BITS_HI, .LNK_BER_ERRS] s (State.clearBer s n) := by
  unfold State.clearBer
  extract_lets v1
  clear_value v1
  refine Changes.wr ?_ (by decide +kernel)
  refine Changes.wr ?_ (by decide +kernel)
  refine Changes.wr ?_ (by decide +kernel)
  refine Changes.andThen ?_ (State.setLn_changes ..) (by decide) (subset_regs (by decide +kernel))
  exact Changes.refl _ _ _

end Sys2Proof.Machine
end

