-- ==== Sys2Proof/Laws/FrameSparOps.lean ====
section
/-!
SUPPORT. What the operations of Machine/SparOps.lean may change: one lemma for each.
-/

set_option Elab.async false

namespace Sys2Proof.Machine

theorem State.setRun_changes (s : State) (m : Nat) (r : Run) :
    Changes [.mst] [] s (State.setRun s m r) := by
  unfold State.setRun
  extract_lets v1
  clear_value v1
  refine Changes.andThen ?_ (State.setMs_changes ..) (by decide) (subset_regs (by decide +kernel))
  exact Changes.refl _ _ _

theorem State.sparNext_changes (s : State) (m : Nat) (r : Run) (x : Spar) :
    Changes [.outbox, .mst, .hal, .pce, .helm] [.MST_STATUS, .MST_SPARE_USE, .MST_SPAR_STATE, .MST_CNT_PROG_FAULT,
      .HAL_CNT_QUEUE_DROP, .PCE_STATUS, .PCE_CNT_MSIX_DROP, .HLM_CNT_NOTICE_DROP, .PWR_FAULT_SUMMARY] s
      (State.sparNext s m r x) := by
  unfold State.sparNext
  refine Changes.ite ?_ ?_
  · refine Changes.andThen ?_ (State.illegal_changes ..) (by decide) (subset_regs (by decide +kernel))
    exact Changes.refl _ _ _
  · refine Changes.andThen ?_ (State.setRun_changes ..) (by decide) (subset_regs (by decide +kernel))
    exact Changes.refl _ _ _

theorem State.sparEnd_changes (s : State) (m : Nat) (r : Run) (res : SparRes) :
    Changes [.outbox, .mst, .sht, .cal, .hal, .pce, .que, .helm] (([.MST_STATUS, .MST_SPARE_USE, .MST_SPAR_STATE,
      .MST_CNT_TILES, .MST_CNT_ABANDON, .MST_CNT_PROG_FAULT, .MST_CNT_SHM_UE, .MST_CNT_NO_BEAM,
      .SHT_CNT_BAD_CHECK, .SHT_CNT_FOREIGN, .SHT_CNT_OVERRUN, .SHT_CNT_LOG_DROP, .SCN_CNT_CAL_USED,
      .SCN_CNT_CAL_DISCARD, .HAL_CNT_QUEUE_DROP, .PCE_STATUS, .PCE_CNT_MSIX_DROP, .QUE_STATUS, .QUE_CNT_LOST,
      .QUE_CNT_PTR_ERR] : List Reg) ++ ([.QUE_CNT_NO_QUEUE, .HLM_CNT_NOTICE_DROP, .PWR_FAULT_SUMMARY] : List Reg))
      s (State.sparEnd s m r res) := by
  unfold State.sparEnd
  split
  · rename_i y1 y2
    refine Changes.andThen ?_ (State.sparNext_changes ..) (by decide) (subset_regs (by decide +kernel))
    exact Changes.refl _ _ _
  · rename_i y3 y4 y5
    refine Changes.andThen ?_ (State.sparNext_changes ..) (by decide) (subset_regs (by decide +kernel))
    refine Changes.bumpBy ?_ (by decide +kernel)
    exact Changes.refl _ _ _
  · rename_i y6
    exact Changes.refl _ _ _
  · rename_i y7
    refine Changes.andThen ?_ (State.setRun_changes ..) (by decide) (subset_regs (by decide +kernel))
    exact Changes.refl _ _ _
  · rename_i y8
    refine Changes.andThen ?_ (State.illegal_changes ..) (by decide) (subset_regs (by decide +kernel))
    exact Changes.refl _ _ _
  · rename_i y9 y10 y11
    refine Changes.andThen ?_ (State.committed_changes ..) (by decide) (subset_regs (by decide +kernel))
    exact Changes.refl _ _ _
  · rename_i y12
    refine Changes.andThen ?_ (State.aborted_changes ..) (by decide) (subset_regs (by decide +kernel))
    exact Changes.refl _ _ _

theorem State.sparDo_changes (s : State) (m : Fin 16) (e : Fin 66) (i : Instr) (f : Run → SparRes) :
    Changes [.outbox, .mst, .sht, .cal, .hal, .pce, .que, .helm] (([.MST_STATUS, .MST_SPARE_USE, .MST_SPAR_STATE,
      .MST_CNT_TILES, .MST_CNT_ABANDON, .MST_CNT_PROG_FAULT, .MST_CNT_SHM_UE, .MST_CNT_NO_BEAM,
      .SHT_CNT_BAD_CHECK, .SHT_CNT_FOREIGN, .SHT_CNT_OVERRUN, .SHT_CNT_LOG_DROP, .SCN_CNT_CAL_USED,
      .SCN_CNT_CAL_DISCARD, .HAL_CNT_QUEUE_DROP, .PCE_STATUS, .PCE_CNT_MSIX_DROP, .QUE_STATUS, .QUE_CNT_LOST,
      .QUE_CNT_PTR_ERR] : List Reg) ++ ([.QUE_CNT_NO_QUEUE, .HLM_CNT_NOTICE_DROP, .PWR_FAULT_SUMMARY] : List Reg))
      s (State.sparDo s m e i f) := by
  unfold State.sparDo
  split
  · rename_i y1 y2
    exact Changes.refl _ _ _
  · rename_i y3 y4 y5
    split
    · rename_i y6 y7
      refine Changes.andThen ?_ (State.illegal_changes ..) (by decide) (subset_regs (by decide +kernel))
      exact Changes.refl _ _ _
    · rename_i y8 y9 y10
      refine Changes.ite ?_ ?_
      · refine Changes.andThen ?_ (State.sparEnd_changes ..) (by decide) (subset_regs (by decide +kernel))
        exact Changes.refl _ _ _
      · exact Changes.refl _ _ _

theorem State.sparAlu_changes (s : State) (m : Fin 16) (e : Fin 66) (i : Instr) (f : Spar → Spar) :
    Changes [.outbox, .mst, .sht, .cal, .hal, .pce, .que, .helm] (([.MST_STATUS, .MST_SPARE_USE, .MST_SPAR_STATE,
      .MST_CNT_TILES, .MST_CNT_ABANDON, .MST_CNT_PROG_FAULT, .MST_CNT_SHM_UE, .MST_CNT_NO_BEAM,
      .SHT_CNT_BAD_CHECK, .SHT_CNT_FOREIGN, .SHT_CNT_OVERRUN, .SHT_CNT_LOG_DROP, .SCN_CNT_CAL_USED,
      .SCN_CNT_CAL_DISCARD, .HAL_CNT_QUEUE_DROP, .PCE_STATUS, .PCE_CNT_MSIX_DROP, .QUE_STATUS, .QUE_CNT_LOST,
      .QUE_CNT_PTR_ERR] : List Reg) ++ ([.QUE_CNT_NO_QUEUE, .HLM_CNT_NOTICE_DROP, .PWR_FAULT_SUMMARY] : List Reg))
      s (State.sparAlu s m e i f) := by
  unfold State.sparAlu
  refine Changes.andThen ?_ (State.sparDo_changes ..) (by decide) (subset_regs (by decide +kernel))
  exact Changes.refl _ _ _

theorem State.sparTry_changes (s : State) (m : Fin 16) (e : Fin 66) (i : Instr) (f : Spar → Option Spar) :
    Changes [.outbox, .mst, .sht, .cal, .hal, .pce, .que, .helm] (([.MST_STATUS, .MST_SPARE_USE, .MST_SPAR_STATE,
      .MST_CNT_TILES, .MST_CNT_ABANDON, .MST_CNT_PROG_FAULT, .MST_CNT_SHM_UE, .MST_CNT_NO_BEAM,
      .SHT_CNT_BAD_CHECK, .SHT_CNT_FOREIGN, .SHT_CNT_OVERRUN, .SHT_CNT_LOG_DROP, .SCN_CNT_CAL_USED,
      .SCN_CNT_CAL_DISCARD, .HAL_CNT_QUEUE_DROP, .PCE_STATUS, .PCE_CNT_MSIX_DROP, .QUE_STATUS, .QUE_CNT_LOST,
      .QUE_CNT_PTR_ERR] : List Reg) ++ ([.QUE_CNT_NO_QUEUE, .HLM_CNT_NOTICE_DROP, .PWR_FAULT_SUMMARY] : List Reg))
      s (State.sparTry s m e i f) := by
  unfold State.sparTry
  refine Changes.andThen ?_ (State.sparDo_changes ..) (by decide) (subset_regs (by decide +kernel))
  exact Changes.refl _ _ _

theorem State.sparMem_changes (s : State) (m : Fin 16) (e : Fin 66) (i : Instr) (f : Spar → List Byte → Option Spar) :
    Changes [.outbox, .mst, .sht, .cal, .hal, .pce, .que, .helm] (([.MST_STATUS, .MST_SPARE_USE, .MST_SPAR_STATE,
      .MST_CNT_TILES, .MST_CNT_ABANDON, .MST_CNT_PROG_FAULT, .MST_CNT_SHM_UE, .MST_CNT_NO_BEAM,
      .SHT_CNT_BAD_CHECK, .SHT_CNT_FOREIGN, .SHT_CNT_OVERRUN, .SHT_CNT_LOG_DROP, .SCN_CNT_CAL_USED,
      .SCN_CNT_CAL_DISCARD, .HAL_CNT_QUEUE_DROP, .PCE_STATUS, .PCE_CNT_MSIX_DROP, .QUE_STATUS, .QUE_CNT_LOST,
      .QUE_CNT_PTR_ERR] : List Reg) ++ ([.QUE_CNT_NO_QUEUE, .HLM_CNT_NOTICE_DROP, .PWR_FAULT_SUMMARY] : List Reg))
      s (State.sparMem s m e i f) := by
  unfold State.sparMem
  extract_lets v1
  clear_value v1
  refine Changes.andThen ?_ (State.sparTry_changes ..) (by decide) (subset_regs (by decide +kernel))
  exact Changes.refl _ _ _

end Sys2Proof.Machine
end

