-- ==== Sys2Proof/Laws/FrameMast.lean ====
section
/-!
SUPPORT. What the operations of Machine/Mast.lean may change: one lemma for each.
-/

set_option Elab.async false

namespace Sys2Proof.Machine

theorem State.loadDone_changes (s : State) (m : Nat) :
    Changes [.mst] [.MST_STATUS] s (State.loadDone s m) := by
  unfold State.loadDone
  extract_lets v1
  clear_value v1
  split
  · rename_i y2 y3 y4 y5 y6 y7 y8 y9
    extract_lets v10
    clear_value v10
    refine Changes.ite ?_ ?_
    · refine Changes.setFld ?_ (by decide +kernel)
      refine Changes.andThen ?_ (State.setMs_changes ..) (by decide) (subset_regs (by decide +kernel))
      exact Changes.refl _ _ _
    · exact Changes.refl _ _ _
  · rename_i y11 y12 y13
    exact Changes.refl _ _ _

theorem State.expire_changes (s : State) (m : Nat) (r : Run) :
    Changes [.outbox, .mst, .hal, .pce, .helm] [.MST_STATUS, .MST_SPARE_USE, .MST_SPAR_STATE, .MST_CNT_RERUN,
      .MST_CNT_ABANDON, .HAL_CNT_QUEUE_DROP, .PCE_STATUS, .PCE_CNT_MSIX_DROP, .HLM_CNT_NOTICE_DROP,
      .PWR_FAULT_SUMMARY] s (State.expire s m r) := by
  unfold State.expire
  split
  · rename_i y1 y2
    refine Changes.andThen ?_ (State.replaceEngine_changes ..) (by decide) (subset_regs (by decide +kernel))
    refine Changes.andThen ?_ (State.setEngine_changes ..) (by decide) (subset_regs (by decide +kernel))
    refine Changes.andThen ?_ (State.toRerun_changes ..) (by decide) (subset_regs (by decide +kernel))
    exact Changes.refl _ _ _
  · rename_i y3 y4 y5 y6
    extract_lets v7 v8
    refine Changes.cut (x := v7) ?_ (fun h9 => ?_)
    · unfold v7
      refine Changes.bump ?_ (by decide +kernel)
      refine Changes.andThen ?_ (State.unsuspend_changes ..) (by decide) (subset_regs (by decide +kernel))
      refine Changes.andThen ?_ (State.endRun_changes ..) (by decide) (subset_regs (by decide +kernel))
      exact Changes.refl _ _ _
    clear_value v7
    clear_value v8
    refine Changes.andThen ?_ (State.tileFinal_changes ..) (by decide) (subset_regs (by decide +kernel))
    refine Changes.andThen ?_ (State.mastFault_changes ..) (by decide) (subset_regs (by decide +kernel))
    assumption

theorem State.sparFaults_changes (s : State) (m : Nat) (e : Nat) (cause : SparCause) (also : Option (Fin 66 ×
    SparCause)) :
    Changes [.outbox, .mst, .hal, .pce, .helm] [.MST_STATUS, .MST_SPARE_USE, .MST_SPAR_STATE, .MST_CNT_RERUN,
      .MST_CNT_CE, .HAL_CNT_QUEUE_DROP, .PCE_STATUS, .PCE_CNT_MSIX_DROP, .HLM_CNT_NOTICE_DROP, .PWR_FAULT_SUMMARY]
      s (State.sparFaults s m e cause also) := by
  unfold State.sparFaults
  split
  · rename_i y1
    refine Changes.andThen ?_ (State.sparFaultAt_changes ..) (by decide) (subset_regs (by decide +kernel))
    exact Changes.refl _ _ _
  · rename_i y2 y3 y4
    refine Changes.ite ?_ ?_
    · refine Changes.andThen ?_ (State.sparFaultAt_changes ..) (by decide) (subset_regs (by decide +kernel))
      refine Changes.andThen ?_ (State.sparFaultAt_changes ..) (by decide) (subset_regs (by decide +kernel))
      exact Changes.refl _ _ _
    · refine Changes.andThen ?_ (State.sparFaultAt_changes ..) (by decide) (subset_regs (by decide +kernel))
      refine Changes.andThen ?_ (State.sparFaultAt_changes ..) (by decide) (subset_regs (by decide +kernel))
      exact Changes.refl _ _ _

end Sys2Proof.Machine
end

