-- ==== Sys2Proof/Laws/FrameTimeOps.lean ====
section
/-!
SUPPORT. What the operations of Machine/TimeOps.lean may change: one lemma for each.
-/

set_option Elab.async false

namespace Sys2Proof.Machine

theorem State.alignOne_changes (d : Nat) (s : State) :
    Changes [] [.TIM_DOM_STATUS] s (State.alignOne d s) := by
  unfold State.alignOne
  extract_lets v1
  clear_value v1
  refine Changes.setFld ?_ (by decide +kernel)
  exact Changes.refl _ _ _

theorem State.alignShow_changes (s : State) :
    Changes [] [.TIM_DOM_STATUS] s (State.alignShow s) := by
  unfold State.alignShow
  refine Changes.trans ?_ (State.eachOf_changes (fun k1 s2 => ?_) _ _)
  · exact Changes.refl _ _ _
  · refine Changes.andThen ?_ (State.alignOne_changes ..) (by decide) (subset_regs (by decide +kernel))
    exact Changes.refl _ _ _

theorem State.setRing_changes (s : State) (r : Nat) (x : RingPort) :
    Changes [.tim] [] s (State.setRing s r x) := by
  unfold State.setRing
  refine Changes.tim ?_ (by decide +kernel)
  exact Changes.refl _ _ _

theorem State.ringFollow_changes (r : Nat) (s : State) :
    Changes [.outbox, .tim] [.TIM_RING_STATUS] s (State.ringFollow r s) := by
  unfold State.ringFollow
  extract_lets v1 v2 v3 v4
  refine Changes.cut (x := v4) ?_ (fun h5 => ?_)
  · unfold v4
    refine Changes.setFld ?_ (by decide +kernel)
    refine Changes.andThen ?_ (State.setRing_changes ..) (by decide) (subset_regs (by decide +kernel))
    exact Changes.refl _ _ _
  clear_value v1
  clear_value v2
  clear_value v3
  clear_value v4
  refine Changes.ite ?_ ?_
  · refine Changes.ite ?_ ?_
    · assumption
    · refine Changes.emit ?_ (by decide +kernel)
      assumption
  · refine Changes.ite ?_ ?_
    · refine Changes.andThen ?_ (State.setRing_changes ..) (by decide) (subset_regs (by decide +kernel))
      exact Changes.refl _ _ _
    · exact Changes.refl _ _ _

theorem State.setInst_changes (s : State) (d : Nat) (p : Nat) (x : PtpInst) :
    Changes [.tim] [] s (State.setInst s d p x) := by
  unfold State.setInst
  refine Changes.tim ?_ (by decide +kernel)
  exact Changes.refl _ _ _

theorem State.setPortState_changes (s : State) (d : Nat) (p : Nat) (v : Nat) :
    Changes [] [.TIM_DOM_STATUS] s (State.setPortState s d p v) := by
  unfold State.setPortState
  refine Changes.setFld ?_ (by split <;> decide +kernel)
  exact Changes.refl _ _ _

theorem State.instUpdate_changes (d : Nat) (p : Nat) (s : State) :
    Changes [.tim] [.TIM_DOM_STATUS] s (State.instUpdate d p s) := by
  unfold State.instUpdate
  extract_lets v1 v2 v3 v4
  clear_value v1
  clear_value v2
  clear_value v3
  clear_value v4
  refine Changes.ite ?_ ?_
  · refine Changes.andThen ?_ (State.setPortState_changes ..) (by decide) (subset_regs (by decide +kernel))
    exact Changes.refl _ _ _
  · refine Changes.ite ?_ ?_
    · refine Changes.andThen ?_ (State.setPortState_changes ..) (by decide) (subset_regs (by decide +kernel))
      refine Changes.andThen ?_ (State.setInst_changes ..) (by decide) (subset_regs (by decide +kernel))
      exact Changes.refl _ _ _
    · refine Changes.ite ?_ ?_
      · refine Changes.ite ?_ ?_
        · refine Changes.andThen ?_ (State.setPortState_changes ..) (by decide) (subset_regs (by decide +kernel))
          refine Changes.andThen ?_ (State.setInst_changes ..) (by decide) (subset_regs (by decide +kernel))
          exact Changes.refl _ _ _
        · refine Changes.ite ?_ ?_
          · refine Changes.andThen ?_ (State.setPortState_changes ..) (by decide) (subset_regs (by decide +kernel))
            exact Changes.refl _ _ _
          · exact Changes.refl _ _ _
      · refine Changes.andThen ?_ (State.setPortState_changes ..) (by decide) (subset_regs (by decide +kernel))
        exact Changes.refl _ _ _

theorem State.setFreq_changes (s : State) (f : Int) :
    Changes [.tim] [.TIM_FREQ] s (State.setFreq s f) := by
  unfold State.setFreq
  extract_lets v1 v2
  clear_value v1
  clear_value v2
  refine Changes.wr ?_ (by decide +kernel)
  refine Changes.tim ?_ (by decide +kernel)
  exact Changes.refl _ _ _

theorem State.switchTo_changes (s : State) (d : Nat) :
    Changes [.hal, .tim] [.HAL_CNT_QUEUE_DROP, .TIM_STATUS, .TIM_FREQ] s (State.switchTo s d) := by
  unfold State.switchTo
  extract_lets v1 v2 v3
  refine Changes.cut (x := v2) ?_ (fun h4 => ?_)
  · unfold v2
    refine Changes.andThen ?_ (State.setFreq_changes ..) (by decide) (subset_regs (by decide +kernel))
    refine Changes.setFld ?_ (by decide +kernel)
    refine Changes.setFld ?_ (by decide +kernel)
    refine Changes.setFld ?_ (by decide +kernel)
    exact Changes.refl _ _ _
  clear_value v1
  clear_value v2
  clear_value v3
  refine Changes.andThen ?_ (State.publish_changes ..) (by decide) (subset_regs (by decide +kernel))
  refine Changes.tim ?_ (by decide +kernel)
  assumption

theorem State.domGoto_changes (s : State) (d : Nat) (new : Nat) :
    Changes [.hal, .tim] [.HAL_CNT_QUEUE_DROP, .TIM_STATUS, .TIM_FREQ, .TIM_DOM_STATUS] s (State.domGoto s d new) := by
  unfold State.domGoto
  extract_lets v1 v2 v3 v4 v5 v6 v7
  refine Changes.cut (x := v2) ?_ (fun h8 => ?_)
  · unfold v2
    refine Changes.setFld ?_ (by decide +kernel)
    exact Changes.refl _ _ _
  refine Changes.cut (x := v5) ?_ (fun h9 => ?_)
  · unfold v5
    refine Changes.setFld ?_ (by decide +kernel)
    refine Changes.setFld ?_ (by decide +kernel)
    assumption
  refine Changes.cut (x := v7) ?_ (fun h10 => ?_)
  · unfold v7
    refine Changes.ite ?_ ?_
    · refine Changes.tim ?_ (by decide +kernel)
      assumption
    · assumption
  clear_value v1
  clear_value v2
  clear_value v3
  clear_value v4
  clear_value v5
  clear_value v6
  clear_value v7
  refine Changes.ite ?_ ?_
  · assumption
  · refine Changes.ite ?_ ?_
    · refine Changes.ite ?_ ?_
      · refine Changes.setFld ?_ (by decide +kernel)
        assumption
      · assumption
    · refine Changes.ite ?_ ?_
      · assumption
      · refine Changes.ite ?_ ?_
        · refine Changes.andThen ?_ (State.switchTo_changes ..) (by decide) (subset_regs (by decide +kernel))
          assumption
        · refine Changes.ite ?_ ?_
          · refine Changes.setFld ?_ (by decide +kernel)
            refine Changes.andThen ?_ (State.setFreq_changes ..) (by decide) (subset_regs (by decide +kernel))
            assumption
          · assumption

theorem State.setPtpDom_changes (s : State) (d : Nat) (x : PtpDom) :
    Changes [.tim] [] s (State.setPtpDom s d x) := by
  unfold State.setPtpDom
  refine Changes.tim ?_ (by decide +kernel)
  exact Changes.refl _ _ _

theorem State.domFollow_changes (before : State) (d : Nat) (s : State) :
    Changes [.hal, .tim] [.HAL_CNT_QUEUE_DROP, .TIM_STATUS, .TIM_FREQ, .TIM_DOM_STATUS] s (State.domFollow before
      d s) := by
  unfold State.domFollow
  extract_lets v1 v2 v3 v4 v5
  refine Changes.cut (x := v4) ?_ (fun h6 => ?_)
  · unfold v4
    refine Changes.andThen ?_ (State.domGoto_changes ..) (by decide) (subset_regs (by decide +kernel))
    unfold v3
    refine Changes.andThen ?_ (State.setInst_changes ..) (by decide) (subset_regs (by decide +kernel))
    refine Changes.andThen ?_ (State.setInst_changes ..) (by decide) (subset_regs (by decide +kernel))
    refine Changes.andThen ?_ (State.setPtpDom_changes ..) (by decide) (subset_regs (by decide +kernel))
    exact Changes.refl _ _ _
  clear_value v1
  clear_value v2
  clear_value v4
  refine Changes.ite ?_ ?_
  · refine Changes.andThen ?_ (State.setPortState_changes ..) (by decide) (subset_regs (by decide +kernel))
    refine Changes.andThen ?_ (State.setPortState_changes ..) (by decide) (subset_regs (by decide +kernel))
    refine Changes.andThen ?_ (State.domGoto_changes ..) (by decide) (subset_regs (by decide +kernel))
    unfold v3
    refine Changes.andThen ?_ (State.setInst_changes ..) (by decide) (subset_regs (by decide +kernel))
    refine Changes.andThen ?_ (State.setInst_changes ..) (by decide) (subset_regs (by decide +kernel))
    refine Changes.andThen ?_ (State.setPtpDom_changes ..) (by decide) (subset_regs (by decide +kernel))
    exact Changes.refl _ _ _
  · refine Changes.ite ?_ ?_
    · refine Changes.trans ?_ (State.eachOf_changes (fun k7 s8 => ?_) _ _)
      · assumption
      · refine Changes.ite ?_ ?_
        · unfold v5
          refine Changes.andThen ?_ (State.setPortState_changes ..) (by decide) (subset_regs (by decide +kernel))
          refine Changes.andThen ?_ (State.setInst_changes ..) (by decide) (subset_regs (by decide +kernel))
          exact Changes.refl _ _ _
        · exact Changes.refl _ _ _
    · refine Changes.ite ?_ ?_
      · refine Changes.trans ?_ (State.eachOf_changes (fun k9 s10 => ?_) _ _)
        · exact Changes.refl _ _ _
        · refine Changes.andThen ?_ (State.instUpdate_changes ..) (by decide) (subset_regs (by decide +kernel))
          exact Changes.refl _ _ _
      · exact Changes.refl _ _ _

theorem State.timFollow_changes (before : State) (s : State) :
    Changes [.outbox, .hal, .tim] [.HAL_CNT_QUEUE_DROP, .TIM_STATUS, .TIM_FREQ, .TIM_DOM_STATUS, .TIM_RING_STATUS]
      s (State.timFollow before s) := by
  unfold State.timFollow
  extract_lets v1 v2
  refine Changes.cut (x := v1) ?_ (fun h3 => ?_)
  · unfold v1
    refine Changes.trans ?_ (State.eachOf_changes (fun k4 s5 => ?_) _ _)
    · exact Changes.refl _ _ _
    · refine Changes.andThen ?_ (State.domFollow_changes ..) (by decide) (subset_regs (by decide +kernel))
      exact Changes.refl _ _ _
  refine Changes.cut (x := v2) ?_ (fun h6 => ?_)
  · unfold v2
    refine Changes.trans ?_ (State.eachOf_changes (fun k7 s8 => ?_) _ _)
    · assumption
    · refine Changes.andThen ?_ (State.ringFollow_changes ..) (by decide) (subset_regs (by decide +kernel))
      exact Changes.refl _ _ _
  clear_value v1
  clear_value v2
  refine Changes.andThen ?_ (State.alignShow_changes ..) (by decide) (subset_regs (by decide +kernel))
  refine Changes.trans ?_ (State.eachOf_changes (fun k9 s10 => ?_) _ _)
  · assumption
  · refine Changes.ite ?_ ?_
    · refine Changes.emit ?_ (by decide +kernel)
      exact Changes.refl _ _ _
    · exact Changes.refl _ _ _

theorem State.setSched_changes (s : State) (k : Nat) (x : Sched) :
    Changes [.tim] [] s (State.setSched s k x) := by
  unfold State.setSched
  refine Changes.tim ?_ (by decide +kernel)
  exact Changes.refl _ _ _

theorem State.ringPass_changes (s : State) (r : Nat) (m : RingMsg) :
    Changes [.outbox, .tim] [] s (State.ringPass s r m) := by
  unfold State.ringPass
  extract_lets v1 v2 v3
  clear_value v1
  clear_value v2
  clear_value v3
  refine Changes.emit ?_ (by decide +kernel)
  refine Changes.andThen ?_ (State.setRing_changes ..) (by decide) (subset_regs (by decide +kernel))
  exact Changes.refl _ _ _

theorem State.ringSecond_changes (s : State) (r : Nat) :
    Changes [.outbox, .tim] [] s (State.ringSecond s r) := by
  unfold State.ringSecond
  extract_lets v1
  clear_value v1
  split
  · rename_i y2 y3
    exact Changes.refl _ _ _
  · rename_i y4 y5 y6
    refine Changes.ite ?_ ?_
    · refine Changes.andThen ?_ (State.ringPass_changes ..) (by decide) (subset_regs (by decide +kernel))
      refine Changes.andThen ?_ (State.setRing_changes ..) (by decide) (subset_regs (by decide +kernel))
      exact Changes.refl _ _ _
    · exact Changes.refl _ _ _

theorem State.ringSend_changes (s0 : State) (r : Nat) (code : Nat) :
    Changes [.outbox, .freeCtr, .tim] [] s0 (State.ringSend s0 r code) := by
  unfold State.ringSend
  extract_lets v1 v2 v3 v4 v5 v6
  refine Changes.cut (x := v1) ?_ (fun h7 => ?_)
  · unfold v1
    refine Changes.andThen ?_ (State.ringSecond_changes ..) (by decide) (subset_regs (by decide +kernel))
    exact Changes.refl _ _ _
  refine Changes.cut (x := v3.2) ?_ (fun h8 => ?_)
  · unfold v3
    refine Changes.andThen ?_ (State.freeBits_changes ..) (by decide) (subset_regs (by decide +kernel))
    assumption
  refine Changes.cut (x := v6) ?_ (fun h9 => ?_)
  · unfold v6
    refine Changes.emit ?_ (by decide +kernel)
    refine Changes.andThen ?_ (State.setRing_changes ..) (by decide) (subset_regs (by decide +kernel))
    assumption
  clear_value v1
  clear_value v2
  clear_value v3
  clear_value v4
  clear_value v5
  clear_value v6
  refine Changes.ite ?_ ?_
  · assumption
  · split
    · rename_i y10 y11 y12
      refine Changes.andThen ?_ (State.ringPass_changes ..) (by decide) (subset_regs (by decide +kernel))
      assumption
    · rename_i y13 y14
      assumption

theorem State.setPath_changes (s : State) (d : Nat) (v : Int) :
    Changes [.tim] [.TIM_DOM_PATH] s (State.setPath s d v) := by
  unfold State.setPath
  extract_lets v1
  clear_value v1
  refine Changes.wr ?_ (by decide +kernel)
  refine Changes.andThen ?_ (State.setPtpDom_changes ..) (by decide) (subset_regs (by decide +kernel))
  exact Changes.refl _ _ _

theorem State.schIdle_changes (s : State) (k : Nat) :
    Changes [.outbox, .tim] [] s (State.schIdle s k) := by
  unfold State.schIdle
  extract_lets v1 v2
  clear_value v1
  clear_value v2
  refine Changes.ite ?_ ?_
  · exact Changes.refl _ _ _
  · refine Changes.ite ?_ ?_
    · refine Changes.andThen ?_ (State.setSched_changes ..) (by decide) (subset_regs (by decide +kernel))
      exact Changes.refl _ _ _
    · refine Changes.emit ?_ (by decide +kernel)
      refine Changes.andThen ?_ (State.setSched_changes ..) (by decide) (subset_regs (by decide +kernel))
      exact Changes.refl _ _ _

theorem State.schNext_changes (s : State) (k : Nat) (n : Nat) (last : Option Nat) :
    Changes [.tim] [.TIM_SCH_STATUS] s (State.schNext s k n last) := by
  unfold State.schNext
  extract_lets v1 v2
  clear_value v1
  clear_value v2
  refine Changes.setFld ?_ (by decide +kernel)
  refine Changes.andThen ?_ (State.setSched_changes ..) (by decide) (subset_regs (by decide +kernel))
  exact Changes.refl _ _ _

theorem State.schFire_changes (s : State) (k : Nat) (at0 : Nat) (late : Bool) :
    Changes [.outbox, .freeCtr, .cap, .capt, .lum, .hal, .tim] [.CAP_PORT_FLAGS, .CAP_CNT_TRIG_MERGED,
      .CAP_CNT_TRIG_HOLDOFF, .CAP_CNT_TRIG_DROP, .LUM_CH_STATUS, .LUM_CNT_OVERLAP, .LUM_CNT_DIAG_ABORT,
      .HAL_CNT_QUEUE_DROP, .TIM_SCH_STATUS] s (State.schFire s k at0 late) := by
  unfold State.schFire
  extract_lets v1 v2 v3 v4 v5 v6
  refine Changes.cut (x := v2) ?_ (fun h7 => ?_)
  · unfold v2
    refine Changes.ite ?_ ?_
    · refine Changes.setFld ?_ (by decide +kernel)
      exact Changes.refl _ _ _
    · exact Changes.refl _ _ _
  refine Changes.cut (x := v3) ?_ (fun h8 => ?_)
  · unfold v3
    refine Changes.andThen ?_ (State.publish_changes ..) (by decide) (subset_regs (by decide +kernel))
    assumption
  refine Changes.cut (x := v4) ?_ (fun h9 => ?_)
  · unfold v4
    refine Changes.andThen ?_ (State.trigSource_changes ..) (by decide) (subset_regs (by decide +kernel))
    refine Changes.andThen ?_ (State.strobeSchedule_changes ..) (by decide) (subset_regs (by decide +kernel))
    assumption
  clear_value v1
  clear_value v2
  clear_value v3
  clear_value v4
  clear_value v5
  clear_value v6
  refine Changes.ite ?_ ?_
  · refine Changes.emit ?_ (by decide +kernel)
    refine Changes.andThen ?_ (State.setSched_changes ..) (by decide) (subset_regs (by decide +kernel))
    assumption
  · assumption

theorem State.schStep_changes (before : Nat) (k : Nat) (s : State) :
    Changes [.outbox, .freeCtr, .cap, .capt, .lum, .hal, .tim] [.CAP_PORT_FLAGS, .CAP_CNT_TRIG_MERGED,
      .CAP_CNT_TRIG_HOLDOFF, .CAP_CNT_TRIG_DROP, .LUM_CH_STATUS, .LUM_CNT_OVERLAP, .LUM_CNT_DIAG_ABORT,
      .HAL_CNT_QUEUE_DROP, .TIM_SCH_STATUS] s (State.schStep before k s) := by
  unfold State.schStep
  extract_lets v1 v2 v3 v4
  refine Changes.cut (x := v4) ?_ (fun h5 => ?_)
  · unfold v4
    refine Changes.andThen ?_ (State.schFire_changes ..) (by decide) (subset_regs (by decide +kernel))
    refine Changes.bumpFld ?_ (by decide +kernel)
    exact Changes.refl _ _ _
  clear_value v1
  clear_value v2
  clear_value v3
  clear_value v4
  refine Changes.ite ?_ ?_
  · exact Changes.refl _ _ _
  · refine Changes.andThen ?_ (State.schNext_changes ..) (by decide) (subset_regs (by decide +kernel))
    assumption

theorem State.stepTo_changes (s : State) (f : Nat) :
    Changes [.fine, .outbox, .freeCtr, .cap, .capt, .lum, .hal, .tim] [.CAP_PORT_FLAGS, .CAP_CNT_TRIG_MERGED,
      .CAP_CNT_TRIG_HOLDOFF, .CAP_CNT_TRIG_DROP, .LUM_CH_STATUS, .LUM_CNT_OVERLAP, .LUM_CNT_DIAG_ABORT,
      .HAL_CNT_QUEUE_DROP, .TIM_STATUS, .TIM_LAST_STEP, .TIM_SCH_STATUS] s (State.stepTo s f) := by
  unfold State.stepTo
  extract_lets v1 v2
  refine Changes.cut (x := v2) ?_ (fun h3 => ?_)
  · unfold v2
    refine Changes.wr ?_ (by decide +kernel)
    refine Changes.setFld ?_ (by decide +kernel)
    refine Changes.fine ?_ (by decide +kernel)
    exact Changes.refl _ _ _
  clear_value v1
  clear_value v2
  refine Changes.trans ?_ (State.eachOf_changes (fun k4 s5 => ?_) _ _)
  · assumption
  · refine Changes.andThen ?_ (State.schStep_changes ..) (by decide) (subset_regs (by decide +kernel))
    exact Changes.refl _ _ _

theorem State.schDisarm_changes (s : State) (k : Nat) :
    Changes [.outbox, .tim] [.TIM_SCH_STATUS] s (State.schDisarm s k) := by
  unfold State.schDisarm
  extract_lets v1 v2
  refine Changes.cut (x := v2) ?_ (fun h3 => ?_)
  · unfold v2
    refine Changes.setFld ?_ (by decide +kernel)
    refine Changes.andThen ?_ (State.setSched_changes ..) (by decide) (subset_regs (by decide +kernel))
    exact Changes.refl _ _ _
  clear_value v1
  clear_value v2
  refine Changes.andThen ?_ (State.schIdle_changes ..) (by decide) (subset_regs (by decide +kernel))
  refine Changes.ite ?_ ?_
  · refine Changes.emit ?_ (by decide +kernel)
    assumption
  · assumption

theorem State.follow_changes (s : State) (d : Nat) (b : Option (Foreign × Nat)) :
    Changes [.hal, .tim] [.HAL_CNT_QUEUE_DROP, .TIM_STATUS, .TIM_FREQ, .TIM_DOM_STATUS, .TIM_DOM_GM_LO,
      .TIM_DOM_GM_HI] s (State.follow s d b) := by
  unfold State.follow
  split
  · rename_i y1
    exact Changes.refl _ _ _
  · rename_i y2 y3
    extract_lets v4 v5 v6 v7 v8 v9 v10 v11
    refine Changes.cut (x := v10) ?_ (fun h12 => ?_)
    · unfold v10
      refine Changes.wr ?_ (by decide +kernel)
      refine Changes.wr ?_ (by decide +kernel)
      refine Changes.andThen ?_ (State.setPtpDom_changes ..) (by decide) (subset_regs (by decide +kernel))
      exact Changes.refl _ _ _
    refine Changes.cut (x := v11) ?_ (fun h13 => ?_)
    · unfold v11
      refine Changes.ite ?_ ?_
      · refine Changes.setFld ?_ (by decide +kernel)
        assumption
      · assumption
    clear_value v4
    clear_value v6
    clear_value v7
    clear_value v8
    clear_value v9
    clear_value v10
    clear_value v11
    refine Changes.ite ?_ ?_
    · refine Changes.andThen ?_ (State.domGoto_changes ..) (by decide) (subset_regs (by decide +kernel))
      assumption
    · assumption

theorem State.ptpUpdate_changes (s : State) (d : Nat) :
    Changes [.hal, .tim] [.HAL_CNT_QUEUE_DROP, .TIM_STATUS, .TIM_FREQ, .TIM_DOM_STATUS, .TIM_DOM_GM_LO,
      .TIM_DOM_GM_HI] s (State.ptpUpdate s d) := by
  unfold State.ptpUpdate
  extract_lets v1 v2 v3 v4
  refine Changes.cut (x := v4) ?_ (fun h5 => ?_)
  · unfold v4
    refine Changes.ite ?_ ?_
    · exact Changes.refl _ _ _
    · refine Changes.andThen ?_ (State.follow_changes ..) (by decide) (subset_regs (by decide +kernel))
      exact Changes.refl _ _ _
  clear_value v1
  clear_value v2
  clear_value v3
  clear_value v4
  refine Changes.ite ?_ ?_
  · exact Changes.refl _ _ _
  · refine Changes.andThen ?_ (State.alignShow_changes ..) (by decide) (subset_regs (by decide +kernel))
    refine Changes.trans ?_ (State.eachOf_changes (fun k6 s7 => ?_) _ _)
    · assumption
    · refine Changes.andThen ?_ (State.instUpdate_changes ..) (by decide) (subset_regs (by decide +kernel))
      exact Changes.refl _ _ _

theorem State.servo_changes (s : State) (d : Nat) (o : Int) (logSync : Int) (met : Bool) :
    Changes [.fine, .outbox, .freeCtr, .cap, .capt, .lum, .hal, .tim] [.CAP_PORT_FLAGS, .CAP_CNT_TRIG_MERGED,
      .CAP_CNT_TRIG_HOLDOFF, .CAP_CNT_TRIG_DROP, .LUM_CH_STATUS, .LUM_CNT_OVERLAP, .LUM_CNT_DIAG_ABORT,
      .HAL_CNT_QUEUE_DROP, .TIM_STATUS, .TIM_FREQ, .TIM_LAST_STEP, .TIM_DOM_STATUS, .TIM_DOM_OFFSET,
      .TIM_DOM_FREQ, .TIM_SCH_STATUS] s (State.servo s d o logSync met) := by
  unfold State.servo
  extract_lets v1 v2 v3 v4 v5 v6 v7 v8 v9 v10 v11 v12 v13 v14 v15 v16 v17 v18
  refine Changes.cut (x := v10) ?_ (fun h19 => ?_)
  · unfold v10
    refine Changes.wr ?_ (by decide +kernel)
    refine Changes.wr ?_ (by decide +kernel)
    refine Changes.andThen ?_ (State.setPtpDom_changes ..) (by decide) (subset_regs (by decide +kernel))
    exact Changes.refl _ _ _
  refine Changes.cut (x := v12) ?_ (fun h20 => ?_)
  · unfold v12
    refine Changes.ite ?_ ?_
    · refine Changes.andThen ?_ (State.stepTo_changes ..) (by decide) (subset_regs (by decide +kernel))
      refine Changes.setFld ?_ (by decide +kernel)
      assumption
    · assumption
  refine Changes.cut (x := v15) ?_ (fun h21 => ?_)
  · unfold v15
    refine Changes.ite ?_ ?_
    · refine Changes.andThen ?_ (State.domGoto_changes ..) (by decide) (subset_regs (by decide +kernel))
      refine Changes.andThen ?_ (State.setPtpDom_changes ..) (by decide) (subset_regs (by decide +kernel))
      assumption
    · refine Changes.ite ?_ ?_
      · refine Changes.andThen ?_ (State.domGoto_changes ..) (by decide) (subset_regs (by decide +kernel))
        assumption
      · refine Changes.ite ?_ ?_
        · refine Changes.andThen ?_ (State.domGoto_changes ..) (by decide) (subset_regs (by decide +kernel))
          assumption
        · assumption
  refine Changes.cut (x := v18) ?_ (fun h22 => ?_)
  · unfold v18
    refine Changes.ite ?_ ?_
    · assumption
    · split
      · rename_i y23 y24 y25
        refine Changes.ite ?_ ?_
        · refine Changes.andThen ?_ (State.setFreq_changes ..) (by decide) (subset_regs (by decide +kernel))
          refine Changes.tim ?_ (by decide +kernel)
          assumption
        · refine Changes.andThen ?_ (State.setFreq_changes ..) (by decide) (subset_regs (by decide +kernel))
          assumption
      · rename_i y26 y27
        refine Changes.andThen ?_ (State.setFreq_changes ..) (by decide) (subset_regs (by decide +kernel))
        assumption
  clear_value v1
  clear_value v2
  clear_value v3
  clear_value v4
  clear_value v5
  clear_value v7
  clear_value v8
  clear_value v9
  clear_value v10
  clear_value v11
  clear_value v12
  clear_value v13
  clear_value v14
  clear_value v15
  clear_value v16
  clear_value v17
  clear_value v18
  refine Changes.andThen ?_ (State.alignShow_changes ..) (by decide) (subset_regs (by decide +kernel))
  refine Changes.trans ?_ (State.eachOf_changes (fun k28 s29 => ?_) _ _)
  · assumption
  · refine Changes.andThen ?_ (State.instUpdate_changes ..) (by decide) (subset_regs (by decide +kernel))
    exact Changes.refl _ _ _

theorem State.measure_changes (s : State) (d : Nat) (t1 : Int) (t2 : Int) (logSync : Int) (met : Bool) :
    Changes [.fine, .outbox, .freeCtr, .cap, .capt, .lum, .hal, .tim] [.CAP_PORT_FLAGS, .CAP_CNT_TRIG_MERGED,
      .CAP_CNT_TRIG_HOLDOFF, .CAP_CNT_TRIG_DROP, .LUM_CH_STATUS, .LUM_CNT_OVERLAP, .LUM_CNT_DIAG_ABORT,
      .HAL_CNT_QUEUE_DROP, .TIM_STATUS, .TIM_FREQ, .TIM_LAST_STEP, .TIM_DOM_STATUS, .TIM_DOM_OFFSET,
      .TIM_DOM_FREQ, .TIM_SCH_STATUS] s (State.measure s d t1 t2 logSync met) := by
  unfold State.measure
  extract_lets v1 v2
  refine Changes.cut (x := v2) ?_ (fun h3 => ?_)
  · unfold v2
    refine Changes.andThen ?_ (State.setPtpDom_changes ..) (by decide) (subset_regs (by decide +kernel))
    exact Changes.refl _ _ _
  clear_value v1
  clear_value v2
  split
  · rename_i y4 y5
    assumption
  · rename_i y6 y7 y8
    refine Changes.andThen ?_ (State.servo_changes ..) (by decide) (subset_regs (by decide +kernel))
    assumption

end Sys2Proof.Machine
end

