-- ==== Sys2Proof/Laws/FrameTime.lean ====
section
/-!
SUPPORT. What the operations of Machine/Time.lean may change: one lemma for each.
-/

set_option Elab.async false

namespace Sys2Proof.Machine

theorem State.ringForward_changes (s : State) (r : Nat) (origin : Nat) (hops : Nat) (code : Nat) (flags : Nat) (bad :
    Bool) :
    Changes [.outbox, .freeCtr, .tim] [] s (State.ringForward s r origin hops code flags bad) := by
  unfold State.ringForward
  extract_lets v1 v2 v3
  refine Changes.cut (x := v1.2) ?_ (fun h4 => ?_)
  · unfold v1
    refine Changes.andThen ?_ (State.freeBits_changes ..) (by decide) (subset_regs (by decide +kernel))
    exact Changes.refl _ _ _
  clear_value v1
  clear_value v2
  clear_value v3
  refine Changes.ite ?_ ?_
  · refine Changes.andThen ?_ (State.ringPass_changes ..) (by decide) (subset_regs (by decide +kernel))
    assumption
  · refine Changes.andThen ?_ (State.setRing_changes ..) (by decide) (subset_regs (by decide +kernel))
    assumption

theorem State.peerPath_changes (s : State) (d : Nat) (p : Nat) (t1 : Int) (t4 : Int) (turn : Int) :
    Changes [.tim] [.TIM_DOM_PATH] s (State.peerPath s d p t1 t4 turn) := by
  unfold State.peerPath
  extract_lets v1
  clear_value v1
  refine Changes.andThen ?_ (State.setPath_changes ..) (by decide) (subset_regs (by decide +kernel))
  refine Changes.andThen ?_ (State.setInst_changes ..) (by decide) (subset_regs (by decide +kernel))
  exact Changes.refl _ _ _

theorem State.preMasterEnd_changes (d : Nat) (p : Nat) (s : State) :
    Changes [] [.TIM_DOM_STATUS] s (State.preMasterEnd d p s) := by
  unfold State.preMasterEnd
  refine Changes.ite ?_ ?_
  · refine Changes.andThen ?_ (State.setPortState_changes ..) (by decide) (subset_regs (by decide +kernel))
    exact Changes.refl _ _ _
  · exact Changes.refl _ _ _

theorem State.timCapture_changes (s : State) (i : Nat) (t : Nat) :
    Changes [.tim] [.TIM_CAP_SEC_LO, .TIM_CAP_STATUS] s (State.timCapture s i t) := by
  unfold State.timCapture
  extract_lets v1 v2
  refine Changes.cut (x := v1) ?_ (fun h3 => ?_)
  · unfold v1
    refine Changes.ite ?_ ?_
    · refine Changes.setFld ?_ (by decide +kernel)
      exact Changes.refl _ _ _
    · exact Changes.refl _ _ _
  clear_value v1
  clear_value v2
  refine Changes.setFld ?_ (by decide +kernel)
  refine Changes.wr ?_ (by decide +kernel)
  refine Changes.tim ?_ (by decide +kernel)
  assumption

theorem State.schArm_changes (s : State) (k : Nat) :
    Changes [.outbox, .tim] [.TIM_SCH_STATUS] s (State.schArm s k) := by
  unfold State.schArm
  extract_lets v1 v2
  clear_value v1
  clear_value v2
  refine Changes.ite ?_ ?_
  · refine Changes.andThen ?_ (State.schDisarm_changes ..) (by decide) (subset_regs (by decide +kernel))
    refine Changes.andThen ?_ (State.setSched_changes ..) (by decide) (subset_regs (by decide +kernel))
    exact Changes.refl _ _ _
  · refine Changes.ite ?_ ?_
    · refine Changes.setFld ?_ (by decide +kernel)
      exact Changes.refl _ _ _
    · refine Changes.andThen ?_ (State.schNext_changes ..) (by decide) (subset_regs (by decide +kernel))
      refine Changes.andThen ?_ (State.setSched_changes ..) (by decide) (subset_regs (by decide +kernel))
      exact Changes.refl _ _ _

theorem State.timStep_changes (s : State) :
    Changes [.fine, .outbox, .freeCtr, .cap, .capt, .lum, .hal, .tim] [.CAP_PORT_FLAGS, .CAP_CNT_TRIG_MERGED,
      .CAP_CNT_TRIG_HOLDOFF, .CAP_CNT_TRIG_DROP, .LUM_CH_STATUS, .LUM_CNT_OVERLAP, .LUM_CNT_DIAG_ABORT,
      .HAL_CNT_QUEUE_DROP, .TIM_STATUS, .TIM_LAST_STEP, .TIM_SCH_STATUS] s (State.timStep s) := by
  unfold State.timStep
  refine Changes.ite ?_ ?_
  · refine Changes.setFld ?_ (by decide +kernel)
    exact Changes.refl _ _ _
  · refine Changes.setFld ?_ (by decide +kernel)
    refine Changes.andThen ?_ (State.stepTo_changes ..) (by decide) (subset_regs (by decide +kernel))
    exact Changes.refl _ _ _

theorem State.schWrite_changes (s : State) (k : Nat) (v : Word) :
    Changes [.outbox, .tim] [.TIM_SCH_CFG] s (State.schWrite s k v) := by
  unfold State.schWrite
  refine Changes.andThen ?_ (State.schIdle_changes ..) (by decide) (subset_regs (by decide +kernel))
  refine Changes.wr ?_ (by decide +kernel)
  exact Changes.refl _ _ _

theorem State.schCommand_changes (s : State) (k : Nat) (v : Word) :
    Changes [.outbox, .tim] [.TIM_SCH_CFG, .TIM_SCH_STATUS] s (State.schCommand s k v) := by
  unfold State.schCommand
  extract_lets v1
  refine Changes.cut (x := v1) ?_ (fun h2 => ?_)
  · unfold v1
    refine Changes.andThen ?_ (State.schWrite_changes ..) (by decide) (subset_regs (by decide +kernel))
    exact Changes.refl _ _ _
  clear_value v1
  refine Changes.ite ?_ ?_
  · refine Changes.andThen ?_ (State.schDisarm_changes ..) (by decide) (subset_regs (by decide +kernel))
    assumption
  · refine Changes.ite ?_ ?_
    · refine Changes.andThen ?_ (State.schArm_changes ..) (by decide) (subset_regs (by decide +kernel))
      assumption
    · assumption

theorem State.timSwitch_changes (s : State) (met : Bool) :
    Changes [.hal, .tim] [.HAL_CNT_QUEUE_DROP, .TIM_STATUS, .TIM_FREQ, .TIM_DOM_STATUS] s (State.timSwitch s met) := by
  unfold State.timSwitch
  extract_lets v1
  clear_value v1
  refine Changes.ite ?_ ?_
  · exact Changes.refl _ _ _
  · refine Changes.ite ?_ ?_
    · refine Changes.andThen ?_ (State.alignShow_changes ..) (by decide) (subset_regs (by decide +kernel))
      refine Changes.andThen ?_ (State.switchTo_changes ..) (by decide) (subset_regs (by decide +kernel))
      exact Changes.refl _ _ _
    · refine Changes.setFld ?_ (by decide +kernel)
      exact Changes.refl _ _ _

end Sys2Proof.Machine
end

