-- ==== Sys2Proof/Laws/FrameCommit.lean ====
section
/-!
SUPPORT. What the operations of Machine/Commit.lean may change: one lemma for each.
-/

set_option Elab.async false

namespace Sys2Proof.Machine

theorem State.checkTable_changes (before : State) (l : List Staged) (k : Nat) (s : State) :
    Changes [.bar0, .outbox, .pce, .helm] [.BCH_FAULT, .PCE_STATUS, .PCE_CNT_MSIX_DROP, .HLM_CNT_NOTICE_DROP,
      .PWR_FAULT_SUMMARY] s (State.checkTable before l k s) := by
  unfold State.checkTable
  extract_lets v1 v2 v3 v4
  refine Changes.cut (x := v4) ?_ (fun h5 => ?_)
  · unfold v4
    refine Changes.trans ?_ (State.eachInst_changes (fun k6 s7 => ?_) _ _)
    · exact Changes.refl _ _ _
    · refine Changes.memWr ?_ (by decide +kernel)
      exact Changes.refl _ _ _
  clear_value v1
  clear_value v2
  clear_value v3
  clear_value v4
  refine Changes.ite ?_ ?_
  · exact Changes.refl _ _ _
  · refine Changes.ite ?_ ?_
    · exact Changes.refl _ _ _
    · refine Changes.andThen ?_ (State.notice_changes ..) (by decide) (subset_regs (by decide +kernel))
      refine Changes.setFld ?_ (by decide +kernel)
      assumption

theorem State.applyStaged_changes (s : State) (x : Staged) :
    Changes [.bar0] allRegs s (State.applyStaged s x) := by
  unfold State.applyStaged
  split
  · rename_i y1 y2 y3 y4 y5
    refine Changes.wr ?_ (mem_allRegs _)
    exact Changes.refl _ _ _
  · rename_i y6 y7 y8
    refine Changes.memWr ?_ (by decide +kernel)
    exact Changes.refl _ _ _

theorem State.applyAll_changes (a0 : List Staged) (a1 : State) :
    Changes [.bar0] allRegs a1 (State.applyAll a0 a1) := by
  fun_induction State.applyAll a0 a1
  · rename_i y1
    exact Changes.refl _ _ _
  · rename_i y2 y3 y4 y5
    refine Changes.trans ?_ y5
    refine Changes.andThen ?_ (State.applyStaged_changes ..) (by decide) (subset_allRegs _)
    exact Changes.refl _ _ _

theorem State.takeStaged_changes (s : State) :
    Changes [.bar0, .staged, .outbox, .cal, .pce, .helm] allRegs s (State.takeStaged s) := by
  unfold State.takeStaged
  extract_lets v1 v2
  refine Changes.cut (x := v2) ?_ (fun h3 => ?_)
  · unfold v2
    refine Changes.andThen ?_ (State.applyAll_changes ..) (by decide) (subset_allRegs _)
    refine Changes.upd (t := s) ?_ (by intro p hp; cases p <;> first | rfl | exact absurd (by decide +kernel) hp) rfl (fun h => ⟨h.1, h.2.1, h.2.2.1, h.2.2.2⟩)
    exact Changes.refl _ _ _
  clear_value v1
  clear_value v2
  refine Changes.trans ?_ (State.eachInst_changes (fun k4 s5 => ?_) _ _)
  · assumption
  · refine Changes.andThen ?_ (State.checkTable_changes ..) (by decide) (subset_allRegs _)
    exact Changes.refl _ _ _

theorem State.dupCheck_changes (before : State) (s : State) :
    Changes [] allRegs s (State.dupCheck before s) := by
  unfold State.dupCheck
  extract_lets v1 v2 v3 v4
  clear_value v1
  clear_value v2
  clear_value v3
  clear_value v4
  refine Changes.trans ?_ (State.eachOf_changes (fun k5 s6 => ?_) _ _)
  · exact Changes.refl _ _ _
  · refine Changes.andThen ?_ (State.recordHal_changes ..) (by decide) (subset_allRegs _)
    exact Changes.refl _ _ _

theorem State.refill_changes (s : State) :
    Changes [.pwr] [.PWR_INRUSH_LEVEL] s (State.refill s) := by
  unfold State.refill
  extract_lets v1 v2
  clear_value v1
  clear_value v2
  refine Changes.setFld ?_ (by decide +kernel)
  refine Changes.pwr ?_ (by decide +kernel)
  exact Changes.refl _ _ _

theorem State.scnFollow_changes (n : Nat) (s : State) :
    Changes [.outbox, .sht, .bch, .scn, .hal] [.SHT_STATUS, .SHT_I_STATE, .SHT_LAST_OUT, .SHT_LAST_FRAME,
      .SHT_LAST_DELAY, .SHT_DELAY_MAX, .SHT_CNT_FALLBACK, .SHT_CNT_SUPERSEDED, .SHT_CNT_LOG_DROP, .BCH_STATUS,
      .SCN_STATUS, .HAL_CNT_QUEUE_DROP] s (State.scnFollow n s) := by
  unfold State.scnFollow
  extract_lets v1 v2 v3
  refine Changes.cut (x := v2) ?_ (fun h4 => ?_)
  · unfold v2
    refine Changes.andThen ?_ (State.setSc_changes ..) (by decide) (subset_regs (by decide +kernel))
    exact Changes.refl _ _ _
  refine Changes.cut (x := v3) ?_ (fun h5 => ?_)
  · unfold v3
    refine Changes.wr ?_ (by decide +kernel)
    assumption
  clear_value v1
  clear_value v2
  clear_value v3
  refine Changes.ite ?_ ?_
  · exact Changes.refl _ _ _
  · refine Changes.andThen ?_ (State.shEngage_changes ..) (by decide) (subset_regs (by decide +kernel))
    refine Changes.andThen ?_ (State.setWant_changes ..) (by decide) (subset_regs (by decide +kernel))
    assumption

theorem State.laneFollow_changes (before : State) (n : Nat) (s : State) :
    Changes [.outbox, .freeCtr, .lnk, .port, .cap, .mst, .hal, .dma, .ddr, .fst] [.LNK_STATUS, .LNK_PORT_STATUS,
      .LNK_PATTERN, .LNK_CNT_REBUILT, .LNK_CNT_PARITY_MISMATCH, .LNK_CNT_ERASED_ROWS, .CAP_CNT_INCOMPLETE,
      .CAP_CNT_OVERSIZE, .FST_RING_WP_BAND, .MST_STATUS, .MST_SPARE_USE, .MST_SPAR_STATE, .MST_CNT_CANCEL,
      .MST_CNT_INGEST_DROP, .HAL_CNT_QUEUE_DROP] s (State.laneFollow before n s) := by
  unfold State.laneFollow
  extract_lets v1 v2 v3 v4 v5
  refine Changes.cut (x := v2) ?_ (fun h6 => ?_)
  · unfold v2
    refine Changes.ite ?_ ?_
    · refine Changes.ite ?_ ?_
      · refine Changes.ite ?_ ?_
        · refine Changes.andThen ?_ (State.laneStart_changes ..) (by decide) (subset_regs (by decide +kernel))
          exact Changes.refl _ _ _
        · exact Changes.refl _ _ _
      · refine Changes.andThen ?_ (State.laneDisable_changes ..) (by decide) (subset_regs (by decide +kernel))
        exact Changes.refl _ _ _
    · exact Changes.refl _ _ _
  refine Changes.cut (x := v4) ?_ (fun h7 => ?_)
  · unfold v4
    refine Changes.ite ?_ ?_
    · refine Changes.ite ?_ ?_
      · refine Changes.andThen ?_ (State.deepAsk_changes ..) (by decide) (subset_regs (by decide +kernel))
        assumption
      · refine Changes.ite ?_ ?_
        · assumption
        · refine Changes.andThen ?_ (State.deepExit_changes ..) (by decide) (subset_regs (by decide +kernel))
          assumption
    · assumption
  refine Changes.cut (x := v5) ?_ (fun h8 => ?_)
  · unfold v5
    refine Changes.ite ?_ ?_
    · refine Changes.andThen ?_ (State.polFollow_changes ..) (by decide) (subset_regs (by decide +kernel))
      assumption
    · assumption
  clear_value v1
  clear_value v2
  clear_value v3
  clear_value v4
  clear_value v5
  refine Changes.ite ?_ ?_
  · refine Changes.andThen ?_ (State.patternApply_changes ..) (by decide) (subset_regs (by decide +kernel))
    assumption
  · assumption

theorem State.unitsFollow_changes (before : State) (s : State) :
    Changes [.outbox, .freeCtr, .lnk, .port, .cap, .capt, .mst, .sht, .bch, .beams, .scn, .lum, .proj, .hal, .dma,
      .ddr, .fst, .tim, .pwr] allRegs s (State.unitsFollow before s) := by
  unfold State.unitsFollow
  extract_lets v1 v2 v3 v4 v5 v6 v7
  refine Changes.cut (x := v2) ?_ (fun h8 => ?_)
  · unfold v2
    refine Changes.andThen ?_ (State.relayout_changes ..) (by decide) (subset_allRegs _)
    exact Changes.refl _ _ _
  refine Changes.cut (x := v3) ?_ (fun h9 => ?_)
  · unfold v3
    refine Changes.trans ?_ (State.eachOf_changes (fun k10 s11 => ?_) _ _)
    · assumption
    · refine Changes.andThen ?_ (State.laneFollow_changes ..) (by decide) (subset_allRegs _)
      exact Changes.refl _ _ _
  refine Changes.cut (x := v4) ?_ (fun h12 => ?_)
  · unfold v4
    refine Changes.trans ?_ (State.eachOf_changes (fun k13 s14 => ?_) _ _)
    · assumption
    · refine Changes.andThen ?_ (State.tryRestore_changes ..) (by decide) (subset_allRegs _)
      exact Changes.refl _ _ _
  refine Changes.cut (x := v5) ?_ (fun h15 => ?_)
  · unfold v5
    refine Changes.trans ?_ (State.eachOf_changes (fun k16 s17 => ?_) _ _)
    · refine Changes.trans ?_ (State.eachOf_changes (fun k18 s19 => ?_) _ _)
      · refine Changes.andThen ?_ (State.pinConflicts_changes ..) (by decide) (subset_allRegs _)
        assumption
      · refine Changes.andThen ?_ (State.cmpShow_changes ..) (by decide) (subset_allRegs _)
        exact Changes.refl _ _ _
    · refine Changes.andThen ?_ (State.pinFollow_changes ..) (by decide) (subset_allRegs _)
      exact Changes.refl _ _ _
  refine Changes.cut (x := v6) ?_ (fun h20 => ?_)
  · unfold v6
    refine Changes.trans ?_ (State.eachOf_changes (fun k21 s22 => ?_) _ _)
    · assumption
    · refine Changes.andThen ?_ (State.mastCheck_changes ..) (by decide) (subset_allRegs _)
      exact Changes.refl _ _ _
  refine Changes.cut (x := v7) ?_ (fun h23 => ?_)
  · unfold v7
    unfold State.allBeams
    refine Changes.trans ?_ (State.eachBeam_changes (fun k24 s25 => ?_) _ _)
    · refine Changes.trans ?_ (State.eachBeam_changes (fun k26 s27 => ?_) _ _)
      · refine Changes.andThen ?_ (State.permitUpdate_changes ..) (by decide) (subset_allRegs _)
        assumption
      · refine Changes.andThen ?_ (State.scnFollow_changes ..) (by decide) (subset_allRegs _)
        exact Changes.refl _ _ _
    · refine Changes.andThen ?_ (State.beamGate_changes ..) (by decide) (subset_allRegs _)
      refine Changes.andThen ?_ (State.shEnable_changes ..) (by decide) (subset_allRegs _)
      exact Changes.refl _ _ _
  clear_value v1
  clear_value v2
  clear_value v3
  clear_value v4
  clear_value v5
  clear_value v6
  clear_value v7
  refine Changes.andThen ?_ (State.refill_changes ..) (by decide) (subset_allRegs _)
  refine Changes.andThen ?_ (State.dupCheck_changes ..) (by decide) (subset_allRegs _)
  refine Changes.andThen ?_ (State.timFollow_changes ..) (by decide) (subset_allRegs _)
  refine Changes.andThen ?_ (State.lumUpdate_changes ..) (by decide) (subset_allRegs _)
  assumption

theorem State.checkpoint_changes (s : State) :
    Changes [.helm] [.HLM_JOURNAL_USED, .HLM_CKPT_SEQ] s (State.checkpoint s) := by
  unfold State.checkpoint
  extract_lets v1
  clear_value v1
  refine Changes.wr ?_ (by decide +kernel)
  refine Changes.wr ?_ (by decide +kernel)
  refine Changes.helm ?_ (by decide +kernel)
  exact Changes.refl _ _ _

theorem State.takeSwitch_changes (s : State) :
    Changes [.bar0, .outbox, .mst, .pce, .ddr, .fst, .boot, .helm] allRegs s (State.takeSwitch s) := by
  unfold State.takeSwitch
  split
  · rename_i y1 y2
    exact Changes.refl _ _ _
  · rename_i y3 y4 y5
    extract_lets v6 v7 v8
    refine Changes.cut (x := v6) ?_ (fun h9 => ?_)
    · unfold v6
      refine Changes.andThen ?_ (State.putSections_changes ..) (by decide) (subset_allRegs _)
      exact Changes.refl _ _ _
    refine Changes.cut (x := v8) ?_ (fun h10 => ?_)
    · unfold v8
      refine Changes.boot ?_ (by rfl) (by decide +kernel)
      assumption
    clear_value v6
    clear_value v8
    refine Changes.ite ?_ ?_
    · exact Changes.refl _ _ _
    · refine Changes.wr ?_ (mem_allRegs _)
      refine Changes.setFld ?_ (mem_allRegs _)
      refine Changes.setFld ?_ (mem_allRegs _)
      refine Changes.setFld ?_ (mem_allRegs _)
      assumption

theorem State.commit_changes (s : State) :
    Changes (([.bar0, .staged, .outbox, .freeCtr, .lnk, .port, .cap, .capt, .mst, .sht, .bch, .beams, .scn, .cal,
      .lum, .proj, .hal, .pce, .dma, .ddr] : List Part) ++ ([.fst, .boot, .tim, .helm, .pwr] : List Part)) allRegs
      s (State.commit s) := by
  unfold State.commit
  extract_lets v1 v2
  refine Changes.cut (x := v1) ?_ (fun h3 => ?_)
  · unfold v1
    refine Changes.andThen ?_ (State.takeStaged_changes ..) (by decide) (subset_allRegs _)
    refine Changes.andThen ?_ (State.takeSwitch_changes ..) (by decide) (subset_allRegs _)
    refine Changes.andThen ?_ (State.refill_changes ..) (by decide) (subset_allRegs _)
    exact Changes.refl _ _ _
  refine Changes.cut (x := v2) ?_ (fun h4 => ?_)
  · unfold v2
    refine Changes.andThen ?_ (State.unitsFollow_changes ..) (by decide) (subset_allRegs _)
    assumption
  clear_value v1
  clear_value v2
  refine Changes.andThen ?_ (State.checkpoint_changes ..) (by decide) (subset_allRegs _)
  refine Changes.wr ?_ (mem_allRegs _)
  assumption

theorem State.commitLate_changes (s : State) (late : Nat) :
    Changes (([.bar0, .staged, .outbox, .freeCtr, .lnk, .port, .cap, .capt, .mst, .sht, .bch, .beams, .scn, .cal,
      .lum, .proj, .hal, .pce, .dma, .ddr] : List Part) ++ ([.fst, .boot, .tim, .helm, .pwr] : List Part)) allRegs
      s (State.commitLate s late) := by
  unfold State.commitLate
  extract_lets v1 v2 v3
  refine Changes.cut (x := v2) ?_ (fun h4 => ?_)
  · unfold v2
    refine Changes.andThen ?_ (State.commit_changes ..) (by decide) (subset_allRegs _)
    refine Changes.staged ?_ (by decide +kernel)
    exact Changes.refl _ _ _
  clear_value v1
  clear_value v2
  clear_value v3
  refine Changes.ite ?_ ?_
  · refine Changes.andThen ?_ (State.commit_changes ..) (by decide) (subset_allRegs _)
    exact Changes.refl _ _ _
  · refine Changes.upd (t := v2) ?_ (by intro p hp; cases p <;> first | rfl | exact absurd (by decide +kernel) hp) rfl (fun h => ⟨h.1, h.2.1, h.2.2.1, h.2.2.2⟩)
    assumption

theorem State.boundary_changes (s : State) (who : Requester) (late : Nat) :
    Changes (([.bar0, .staged, .outbox, .freeCtr, .lnk, .port, .cap, .capt, .mst, .sht, .bch, .beams, .scn, .cal,
      .lum, .proj, .hal, .pceCfg, .pce, .dma] : List Part) ++ ([.ddr, .fst, .boot, .tim, .helm, .pwr] : List
      Part)) allRegs s (State.boundary s who late) := by
  unfold State.boundary
  unfold State.writeGate
  refine Changes.ite ?_ ?_
  · exact Changes.refl _ _ _
  · unfold State.gated
    unfold State.flrGate
    extract_lets v1
    refine Changes.cut (x := v1.2) ?_ (fun h2 => ?_)
    · unfold v1
      refine Changes.andThen ?_ (State.freeBits_changes ..) (by decide) (subset_allRegs _)
      exact Changes.refl _ _ _
    clear_value v1
    refine Changes.ite ?_ ?_
    · refine Changes.andThen ?_ (State.unsupportedReq_changes ..) (by decide) (subset_allRegs _)
      assumption
    · refine Changes.ite ?_ ?_
      · refine Changes.ite ?_ ?_
        · refine Changes.setFld ?_ (mem_allRegs _)
          exact Changes.refl _ _ _
        · refine Changes.andThen ?_ (State.commitLate_changes ..) (by decide) (subset_allRegs _)
          exact Changes.refl _ _ _
      · refine Changes.ite ?_ ?_
        · refine Changes.bump ?_ (mem_allRegs _)
          exact Changes.refl _ _ _
        · exact Changes.refl _ _ _

theorem State.layerResume_changes (n : Nat) (s : State) :
    Changes [.cap, .sht, .bch, .scn, .hal] [.SHT_STATUS, .SHT_I_STATE, .SHT_LAST_OUT, .SHT_LAST_FRAME,
      .SHT_LAST_DELAY, .SHT_DELAY_MAX, .SHT_CNT_FALLBACK, .SHT_CNT_SUPERSEDED, .SHT_CNT_LOG_DROP, .SCN_STATUS,
      .SCN_RECORD, .HAL_CNT_QUEUE_DROP] s (State.layerResume n s) := by
  unfold State.layerResume
  refine Changes.ite ?_ ?_
  · refine Changes.andThen ?_ (State.shEngage_changes ..) (by decide) (subset_regs (by decide +kernel))
    refine Changes.andThen ?_ (State.layerStart_changes ..) (by decide) (subset_regs (by decide +kernel))
    refine Changes.setFld ?_ (by decide +kernel)
    exact Changes.refl _ _ _
  · exact Changes.refl _ _ _

theorem State.nodeMove_changes (s : State) (h : Nat) (i : Nat) (j : Nat) (w : Nat) (d : Int) :
    Changes [.bar0, .freeCtr] [] s (State.nodeMove s h i j w d) := by
  unfold State.nodeMove
  extract_lets v1 v2
  clear_value v1
  clear_value v2
  refine Changes.ite ?_ ?_
  · refine Changes.memWr ?_ (by decide +kernel)
    exact Changes.refl _ _ _
  · split
    rename_i y3 y4 y5 y6
    refine Changes.memWr ?_ (by decide +kernel)
    refine Changes.ofPair y6 ?_
    refine Changes.andThen ?_ (State.freeBits_changes ..) (by decide) (subset_regs (by decide +kernel))
    exact Changes.refl _ _ _

theorem State.calHead_changes (soft : Tbl Bool) (h : Nat) (s : State) :
    Changes [.bar0, .freeCtr, .cal] [.SCN_CAL_STATUS, .SCN_CNT_CAL_DISCARD] s (State.calHead soft h s) := by
  unfold State.calHead
  extract_lets v1 v2 v3 v4 v5
  refine Changes.cut (x := v3) ?_ (fun h6 => ?_)
  · unfold v3
    refine Changes.cal ?_ (by decide +kernel)
    exact Changes.refl _ _ _
  refine Changes.cut (x := v5) ?_ (fun h7 => ?_)
  · unfold v5
    refine Changes.trans ?_ (foldl_changes (fun s9 k8 => ?_) _ _)
    · assumption
    · refine Changes.andThen ?_ (State.nodeMove_changes ..) (by decide) (subset_regs (by decide +kernel))
      refine Changes.andThen ?_ (State.nodeMove_changes ..) (by decide) (subset_regs (by decide +kernel))
      exact Changes.refl _ _ _
  clear_value v1
  clear_value v2
  clear_value v3
  clear_value v4
  clear_value v5
  refine Changes.ite ?_ ?_
  · exact Changes.refl _ _ _
  · refine Changes.ite ?_ ?_
    · refine Changes.bumpBy ?_ (by decide +kernel)
      assumption
    · refine Changes.ite ?_ ?_
      · assumption
      · refine Changes.wr ?_ (by decide +kernel)
        assumption

end Sys2Proof.Machine
end

