-- ==== Sys2Proof/Laws/Commit.lean ====
section
/-!
SUPPORT. A commit point takes what is staged and makes a checkpoint.
-/

set_option Elab.async false

namespace Sys2Proof.Machine

/-- After a commit point nothing is staged, the journal is empty and the checkpoint is that of the commit (R503, R535). -/
theorem State.commit_done (s : State) :
    s.commit.staged = [] ∧ s.commit.rd .HLM_JOURNAL_USED = 0 ∧ s.commit.rd .HLM_CKPT_SEQ = s.commit.rd .BOOT_COMMIT_SEQ := by
  unfold State.commit
  extract_lets s1 s2
  have st : s1.staged = [] := by
    show (s.refill.takeSwitch.takeStaged).staged = []
    unfold State.takeStaged
    dsimp only
    have h1 : ∀ (l : List Staged) (u : State), u.staged = [] → (State.applyAll l u).staged = [] := by
      intro l
      induction l with
      | nil => exact fun u h => h
      | cons x l ih =>
        intro u h
        refine ih _ ?_
        unfold State.applyStaged
        split <;> exact h
    have h2 : ∀ (a : State) (b : List Staged) (u : State),
        (State.eachInst (State.checkTable a b) (List.range 96) u).staged = u.staged := by
      intro a b u
      exact (State.eachInst_changes (fun k s => State.checkTable_changes a b k s) (List.range 96) u).parts .staged (by decide)
    rw [h2]
    exact h1 _ _ rfl
  have s2s : s2.staged = [] := ((State.unitsFollow_changes s s1).parts .staged (by decide)).trans st
  refine ⟨?_, ?_, ?_⟩
  · exact ((State.checkpoint_changes _).parts .staged (by decide)).trans s2s
  · unfold State.checkpoint
    dsimp only
    rw [State.rd_wr, if_neg (fun h => by simp at h), State.rd_wr_self]
  · generalize s2.wr .BOOT_COMMIT_SEQ (s2.rd .BOOT_COMMIT_SEQ + 1) = u
    unfold State.checkpoint
    dsimp only
    refine (State.rd_wr_self ..).trans ?_
    rw [State.rd_wr_reg _ _ _ _ _ _ (by decide), State.rd_wr_reg _ _ _ _ _ _ (by decide)]
    rfl

end Sys2Proof.Machine
end

