-- ==== Sys2Proof/Laws/FrameBeam.lean ====
section
/-!
SUPPORT. What the operations of Machine/Beam.lean may change: one lemma for each.
-/

set_option Elab.async false

namespace Sys2Proof.Machine

theorem State.powerCopy_changes (s : State) (n : Nat) (c : Nat) :
    Changes [.bch] [] s (State.powerCopy s n c) := by
  unfold State.powerCopy
  extract_lets v1 v2
  clear_value v1
  refine Changes.andThen ?_ (State.setBc_changes ..) (by decide) (subset_regs (by decide +kernel))
  exact Changes.refl _ _ _

theorem State.sampleApplied_changes (s : State) (n : Nat) (t : Nat) :
    Changes [.sht] [.SHT_STATUS, .SHT_LAST_OUT, .SHT_LAST_DELAY, .SHT_DELAY_MAX, .SHT_CNT_SUPERSEDED,
      .SHT_CNT_LOG_DROP] s (State.sampleApplied s n t) := by
  unfold State.sampleApplied
  split
  · rename_i y1 y2 y3
    refine Changes.ite ?_ ?_
    · refine Changes.andThen ?_ (State.shApplied_changes ..) (by decide) (subset_regs (by decide +kernel))
      exact Changes.refl _ _ _
    · exact Changes.refl _ _ _
  · rename_i y4 y5
    exact Changes.refl _ _ _

theorem State.modPeriodAt_changes (s : State) (n : Nat) (t : Nat) :
    Changes [.outbox, .sht, .bch] [.SHT_STATUS, .SHT_LAST_OUT, .SHT_LAST_DELAY, .SHT_DELAY_MAX,
      .SHT_CNT_SUPERSEDED, .SHT_CNT_LOG_DROP] s (State.modPeriodAt s n t) := by
  unfold State.modPeriodAt
  extract_lets v1 v2 v3 v4 v5 v6 v7 v8 v9 v10 v11 v12
  refine Changes.cut (x := v5) ?_ (fun h13 => ?_)
  · unfold v5
    refine Changes.andThen ?_ (State.setBc_changes ..) (by decide) (subset_regs (by decide +kernel))
    exact Changes.refl _ _ _
  refine Changes.cut (x := v10) ?_ (fun h14 => ?_)
  · unfold v10
    refine Changes.andThen ?_ (State.setBc_changes ..) (by decide) (subset_regs (by decide +kernel))
    exact Changes.refl _ _ _
  refine Changes.cut (x := v11) ?_ (fun h15 => ?_)
  · unfold v11
    refine Changes.ite ?_ ?_
    · refine Changes.emit ?_ (by decide +kernel)
      assumption
    · assumption
  refine Changes.cut (x := v12) ?_ (fun h16 => ?_)
  · unfold v12
    refine Changes.ite ?_ ?_
    · assumption
    · refine Changes.emit ?_ (by decide +kernel)
      assumption
  clear_value v1
  clear_value v2
  clear_value v3
  clear_value v4
  clear_value v5
  clear_value v6
  clear_value v7
  clear_value v8
  clear_value v9
  clear_value v10
  clear_value v11
  clear_value v12
  refine Changes.ite ?_ ?_
  · refine Changes.ite ?_ ?_
    · assumption
    · refine Changes.emit ?_ (by decide +kernel)
      assumption
  · refine Changes.andThen ?_ (State.sampleApplied_changes ..) (by decide) (subset_regs (by decide +kernel))
    refine Changes.andThen ?_ (State.powerCopy_changes ..) (by decide) (subset_regs (by decide +kernel))
    assumption

theorem State.toEdge_changes (s : State) (n : Nat) (on : Bool) :
    Changes [.fine, .outbox, .sht, .bch, .beams, .scn, .hal] [.SHT_STATUS, .SHT_I_STATE, .SHT_LAST_OUT,
      .SHT_LAST_FRAME, .SHT_LAST_DELAY, .SHT_DELAY_MAX, .SHT_CNT_FALLBACK, .SHT_CNT_SUPERSEDED, .SHT_CNT_LOG_DROP,
      .BCH_STATUS, .SCN_STATUS, .SCN_HALT_RECORD, .SCN_HALT_OFFSET, .SCN_RECORD, .SCN_CNT_RECORDS, .SCN_CNT_HALT,
      .HAL_CNT_QUEUE_DROP] s (State.toEdge s n on) := by
  unfold State.toEdge
  split
  · rename_i y1 y2 y3
    refine Changes.andThen ?_ (State.refresh_changes ..) (by decide) (subset_regs (by decide +kernel))
    refine Changes.fine ?_ (by decide +kernel)
    exact Changes.refl _ _ _
  · rename_i y4 y5
    exact Changes.refl _ _ _

theorem State.cut_changes (s : State) (n : Nat) (bit : Nat) :
    Changes [.outbox, .sht, .bch, .scn, .hal, .pce, .helm] (([.SHT_STATUS, .SHT_I_STATE, .SHT_LAST_OUT,
      .SHT_LAST_FRAME, .SHT_LAST_DELAY, .SHT_DELAY_MAX, .SHT_CNT_FALLBACK, .SHT_CNT_SUPERSEDED, .SHT_CNT_LOG_DROP,
      .BCH_STATUS, .BCH_FAULT, .BCH_CNT_CUT, .SCN_STATUS, .SCN_HALT_RECORD, .SCN_HALT_OFFSET, .SCN_CNT_HALT,
      .HAL_CNT_QUEUE_DROP, .PCE_STATUS, .PCE_CNT_MSIX_DROP, .HLM_CNT_NOTICE_DROP] : List Reg) ++
      ([.PWR_FAULT_SUMMARY] : List Reg)) s (State.cut s n bit) := by
  unfold State.cut
  extract_lets v1
  refine Changes.cut (x := v1) ?_ (fun h2 => ?_)
  · unfold v1
    refine Changes.bump ?_ (by decide +kernel)
    refine Changes.wr ?_ (by decide +kernel)
    exact Changes.refl _ _ _
  clear_value v1
  refine Changes.ite ?_ ?_
  · exact Changes.refl _ _ _
  · refine Changes.andThen ?_ (State.hardHaltActive_changes ..) (by decide) (subset_regs (by decide +kernel))
    refine Changes.andThen ?_ (State.beamGate_changes ..) (by decide) (subset_regs (by decide +kernel))
    refine Changes.andThen ?_ (State.notice_changes ..) (by decide) (subset_regs (by decide +kernel))
    refine Changes.andThen ?_ (State.publish_changes ..) (by decide) (subset_regs (by decide +kernel))
    assumption

theorem State.meterFault_changes (s : State) (n : Nat) :
    Changes [.outbox, .hal, .pce, .helm] [.BCH_FAULT, .HAL_CNT_QUEUE_DROP, .PCE_STATUS, .PCE_CNT_MSIX_DROP,
      .HLM_CNT_NOTICE_DROP, .PWR_FAULT_SUMMARY] s (State.meterFault s n) := by
  unfold State.meterFault
  refine Changes.andThen ?_ (State.notice_changes ..) (by decide) (subset_regs (by decide +kernel))
  refine Changes.andThen ?_ (State.publish_changes ..) (by decide) (subset_regs (by decide +kernel))
  refine Changes.setFld ?_ (by decide +kernel)
  exact Changes.refl _ _ _

theorem State.meterRule_changes (s : State) (n : Nat) (p : Nat) (cm : Nat) (pm : Nat) :
    Changes [.staged, .outbox, .freeCtr, .hal, .pce, .helm] [.BCH_FAULT, .HAL_CNT_QUEUE_DROP, .PCE_STATUS,
      .PCE_CNT_MSIX_DROP, .HLM_CNT_NOTICE_DROP, .PWR_FAULT_SUMMARY] s (State.meterRule s n p cm pm) := by
  unfold State.meterRule
  extract_lets v1 v2 v3 v4 v5 v6 v7 v8
  refine Changes.cut (x := v4.2) ?_ (fun h9 => ?_)
  · unfold v4
    refine Changes.andThen ?_ (State.freeBits_changes ..) (by decide) (subset_regs (by decide +kernel))
    exact Changes.refl _ _ _
  refine Changes.cut (x := v5.2) ?_ (fun h10 => ?_)
  · unfold v5
    split
    · rename_i y11
      dsimp only
      assumption
    · rename_i y12
      dsimp only
      exact Changes.refl _ _ _
  clear_value v1
  clear_value v2
  clear_value v3
  clear_value v4
  clear_value v5
  clear_value v6
  clear_value v7
  clear_value v8
  refine Changes.ite ?_ ?_
  · refine Changes.andThen ?_ (State.meterFault_changes ..) (by decide) (subset_regs (by decide +kernel))
    exact Changes.refl _ _ _
  · refine Changes.ite ?_ ?_
    · refine Changes.andThen ?_ (State.meterFault_changes ..) (by decide) (subset_regs (by decide +kernel))
      assumption
    · refine Changes.stage ?_ (by decide +kernel)
      assumption

theorem State.reversal_changes (s : State) (n : Nat) :
    Changes [.bch] [.BCH_STATUS, .BCH_CNT_HELD, .BCH_CNT_REVERSAL] s (State.reversal s n) := by
  unfold State.reversal
  extract_lets v1 v2 v3 v4 v5 v6 v7
  clear_value v1
  clear_value v2
  clear_value v3
  clear_value v4
  clear_value v5
  clear_value v6
  clear_value v7
  refine Changes.ite ?_ ?_
  · refine Changes.setFld ?_ (by decide +kernel)
    refine Changes.andThen ?_ (State.setBc_changes ..) (by decide) (subset_regs (by decide +kernel))
    exact Changes.refl _ _ _
  · refine Changes.ite ?_ ?_
    · refine Changes.ite ?_ ?_
      · exact Changes.refl _ _ _
      · refine Changes.bump ?_ (by decide +kernel)
        refine Changes.setFld ?_ (by decide +kernel)
        refine Changes.andThen ?_ (State.setBc_changes ..) (by decide) (subset_regs (by decide +kernel))
        exact Changes.refl _ _ _
    · refine Changes.ite ?_ ?_
      · refine Changes.bump ?_ (by decide +kernel)
        refine Changes.setFld ?_ (by decide +kernel)
        refine Changes.setFld ?_ (by decide +kernel)
        refine Changes.andThen ?_ (State.setBc_changes ..) (by decide) (subset_regs (by decide +kernel))
        exact Changes.refl _ _ _
      · refine Changes.ite ?_ ?_
        · exact Changes.refl _ _ _
        · refine Changes.bump ?_ (by decide +kernel)
          refine Changes.setFld ?_ (by decide +kernel)
          refine Changes.andThen ?_ (State.setBc_changes ..) (by decide) (subset_regs (by decide +kernel))
          exact Changes.refl _ _ _

theorem State.granted_changes (s : State) (r : RotReq) (grant : Nat) :
    Changes [.scn] [.BCH_CNT_ROT_WAIT] s (State.granted s r grant) := by
  unfold State.granted
  extract_lets v1 v2 v3 v4 v5 v6
  refine Changes.cut (x := v1) ?_ (fun h7 => ?_)
  · unfold v1
    refine Changes.ite ?_ ?_
    · refine Changes.bump ?_ (by decide +kernel)
      exact Changes.refl _ _ _
    · exact Changes.refl _ _ _
  clear_value v1
  clear_value v2
  clear_value v4
  clear_value v5
  clear_value v6
  split
  · rename_i y8 y9 y10
    extract_lets v11
    clear_value v11
    refine Changes.ite ?_ ?_
    · refine Changes.andThen ?_ (State.setSc_changes ..) (by decide) (subset_regs (by decide +kernel))
      assumption
    · assumption
  · rename_i y12 y13
    refine Changes.ite ?_ ?_
    · assumption
    · refine Changes.andThen ?_ (State.setSc_changes ..) (by decide) (subset_regs (by decide +kernel))
      assumption

theorem State.grantAll_changes (g : Nat) (a1 : List RotReq) (a2 : State) :
    Changes [.beams, .scn] [.BCH_CNT_ROT_WAIT] a2 (State.grantAll g a1 a2) := by
  fun_induction State.grantAll g a1 a2
  · rename_i y1
    exact Changes.refl _ _ _
  · rename_i y2 y3 y4 y5 y6 y7 y8
    extract_lets v9
    refine Changes.trans ?_ y8
    extract_lets 
    refine Changes.andThen ?_ (State.granted_changes ..) (by decide) (subset_regs (by decide +kernel))
    refine Changes.beams ?_ (by decide +kernel)
    exact Changes.refl _ _ _

end Sys2Proof.Machine
end

