-- ==== Sys2Proof/Laws/FrameDma.lean ====
section
/-!
SUPPORT. What the operations of Machine/Dma.lean may change: one lemma for each.
-/

set_option Elab.async false

namespace Sys2Proof.Machine

theorem State.readBack_changes (s : State) (n : Nat) :
    Changes [.outbox, .pce, .dma] [.PCE_STATUS] s (State.readBack s n) := by
  unfold State.readBack
  extract_lets v1 v2
  refine Changes.cut (x := v2) ?_ (fun h3 => ?_)
  · unfold v2
    refine Changes.andThen ?_ (State.setDm_changes ..) (by decide) (subset_regs (by decide +kernel))
    exact Changes.refl _ _ _
  clear_value v1
  clear_value v2
  refine Changes.ite ?_ ?_
  · refine Changes.andThen ?_ (State.dmaRead_changes ..) (by decide) (subset_regs (by decide +kernel))
    assumption
  · assumption

theorem State.copyWrite_changes (s : State) (n : Nat) (off : Nat) (c : Nat) (data : List Byte) (bad : List (Nat ×
    Nat)) :
    Changes [.bar0, .outbox, .freeCtr, .sht, .bch, .beams, .scn, .hal, .pceCfg, .pce, .dma, .ddr, .fst] allRegs s
      (State.copyWrite s n off c data bad) := by
  unfold State.copyWrite
  extract_lets v1 v2 v3 v4 v5
  refine Changes.cut (x := v2) ?_ (fun h6 => ?_)
  · unfold v2
    refine Changes.andThen ?_ (State.dmaWrite_changes ..) (by decide) (subset_allRegs _)
    exact Changes.refl _ _ _
  refine Changes.cut (x := v5) ?_ (fun h7 => ?_)
  · unfold v5
    refine Changes.andThen ?_ (State.setDm_changes ..) (by decide) (subset_allRegs _)
    assumption
  clear_value v1
  clear_value v2
  clear_value v3
  clear_value v4
  clear_value v5
  refine Changes.ite ?_ ?_
  · refine Changes.andThen ?_ (State.readBack_changes ..) (by decide) (subset_allRegs _)
    assumption
  · assumption

theorem State.copyBurst_changes (s : State) (n : Nat) (errs : List (Nat × BurstErr)) :
    Changes [.bar0, .outbox, .freeCtr, .sht, .bch, .beams, .scn, .hal, .pceCfg, .pce, .dma, .ddr, .fst, .helm]
      allRegs s (State.copyBurst s n errs) := by
  unfold State.copyBurst
  extract_lets v1 v2 v3 v4
  refine Changes.cut (x := v4.st) ?_ (fun h5 => ?_)
  · unfold v4
    refine Changes.andThen ?_ (State.dmaStoreRd_changes ..) (by decide) (subset_allRegs _)
    exact Changes.refl _ _ _
  clear_value v1
  clear_value v2
  clear_value v3
  clear_value v4
  refine Changes.ite ?_ ?_
  · refine Changes.ite ?_ ?_
    · refine Changes.andThen ?_ (State.copyWrite_changes ..) (by decide) (subset_allRegs _)
      exact Changes.refl _ _ _
    · refine Changes.andThen ?_ (State.dmaRead_changes ..) (by decide) (subset_allRegs _)
      refine Changes.andThen ?_ (State.setDm_changes ..) (by decide) (subset_allRegs _)
      refine Changes.andThen ?_ (State.dmaPay_changes ..) (by decide) (subset_allRegs _)
      exact Changes.refl _ _ _
  · refine Changes.andThen ?_ (State.copyWrite_changes ..) (by decide) (subset_allRegs _)
    refine Changes.andThen ?_ (State.dmaPay_changes ..) (by decide) (subset_allRegs _)
    assumption

theorem State.ctBurst_changes (s : State) (n : Nat) :
    Changes [.outbox, .pce, .dma] [.PCE_STATUS] s (State.ctBurst s n) := by
  unfold State.ctBurst
  extract_lets v1
  clear_value v1
  split
  · rename_i y2 y3
    exact Changes.refl _ _ _
  · rename_i y4 y5 y6 y7
    split
    · rename_i y8 y9 y10 y11 y12
      extract_lets v13 v14 v15 v16
      refine Changes.cut (x := v15) ?_ (fun h17 => ?_)
      · unfold v15
        refine Changes.andThen ?_ (State.dmaPay_changes ..) (by decide) (subset_regs (by decide +kernel))
        exact Changes.refl _ _ _
      clear_value v13
      clear_value v14
      clear_value v15
      clear_value v16
      refine Changes.andThen ?_ (State.hostWrite_changes ..) (by decide) (subset_regs (by decide +kernel))
      refine Changes.andThen ?_ (State.setDm_changes ..) (by decide) (subset_regs (by decide +kernel))
      assumption
    · rename_i y18 y19
      split
      · rename_i y20 y21 y22
        extract_lets v23 v24
        refine Changes.cut (x := v23) ?_ (fun h25 => ?_)
        · unfold v23
          refine Changes.andThen ?_ (State.dmaPay_changes ..) (by decide) (subset_regs (by decide +kernel))
          exact Changes.refl _ _ _
        clear_value v23
        clear_value v24
        refine Changes.andThen ?_ (State.dmaRead_changes ..) (by decide) (subset_regs (by decide +kernel))
        refine Changes.andThen ?_ (State.hostWrite_changes ..) (by decide) (subset_regs (by decide +kernel))
        refine Changes.andThen ?_ (State.setDm_changes ..) (by decide) (subset_regs (by decide +kernel))
        assumption
      · rename_i y26 y27
        exact Changes.refl _ _ _

theorem State.burstServed_changes (s : State) (n : Nat) :
    Changes [.pce] [] s (State.burstServed s n) := by
  unfold State.burstServed
  refine Changes.ite ?_ ?_
  · refine Changes.andThen ?_ (State.portServed_changes ..) (by decide) (subset_regs (by decide +kernel))
    exact Changes.refl _ _ _
  · exact Changes.refl _ _ _

theorem State.burstWait_changes (s : State) (n : Nat) (dt : Nat) :
    Changes [.fine] [] s (State.burstWait s n dt) := by
  unfold State.burstWait
  extract_lets v1
  refine Changes.cut (x := v1) ?_ (fun h2 => ?_)
  · unfold v1
    refine Changes.advance ?_ (by decide +kernel)
    exact Changes.refl _ _ _
  clear_value v1
  split
  · rename_i y3 y4
    assumption
  · rename_i y5 y6 y7
    refine Changes.andThen ?_ (State.passTo_changes ..) (by decide) (subset_regs (by decide +kernel))
    assumption

theorem State.dmaAbort_changes (s : State) (n : Nat) (flr : Bool) :
    Changes [.outbox, .pce, .dma, .que] [.PCE_STATUS, .PCE_CNT_MSIX_DROP, .DMA_STATUS, .QUE_STATUS] s
      (State.dmaAbort s n flr) := by
  unfold State.dmaAbort
  extract_lets v1 v2 v3
  refine Changes.cut (x := v2) ?_ (fun h4 => ?_)
  · unfold v2
    refine Changes.andThen ?_ (State.setDm_changes ..) (by decide) (subset_regs (by decide +kernel))
    refine Changes.andThen ?_ (State.dropReqs_changes ..) (by decide) (subset_regs (by decide +kernel))
    refine Changes.andThen ?_ (State.dropDrain_changes ..) (by decide) (subset_regs (by decide +kernel))
    exact Changes.refl _ _ _
  refine Changes.cut (x := v3) ?_ (fun h5 => ?_)
  · unfold v3
    refine Changes.setFld ?_ (by decide +kernel)
    refine Changes.andThen ?_ (State.setDmaState_changes ..) (by decide) (subset_regs (by decide +kernel))
    assumption
  clear_value v1
  clear_value v2
  clear_value v3
  refine Changes.ite ?_ ?_
  · refine Changes.setFld ?_ (by decide +kernel)
    assumption
  · assumption

theorem State.migDone_changes (s : State) :
    Changes [.outbox, .pce, .dma, .fst] [.PCE_STATUS, .DMA_STATUS, .DMA_CUR_LO, .DMA_CUR_HI] s (State.migDone s) := by
  unfold State.migDone
  extract_lets v1 v2 v3 v4 v5 v6
  refine Changes.cut (x := v4) ?_ (fun h7 => ?_)
  · unfold v4
    refine Changes.andThen ?_ (State.setDm_changes ..) (by decide) (subset_regs (by decide +kernel))
    refine Changes.fst ?_ (by rfl) (by decide +kernel)
    exact Changes.refl _ _ _
  clear_value v1
  clear_value v3
  clear_value v4
  clear_value v5
  clear_value v6
  refine Changes.ite ?_ ?_
  · refine Changes.ite ?_ ?_
    · refine Changes.andThen ?_ (State.setDmaState_changes ..) (by decide) (subset_regs (by decide +kernel))
      assumption
    · refine Changes.ite ?_ ?_
      · refine Changes.andThen ?_ (State.dmaLoad_changes ..) (by decide) (subset_regs (by decide +kernel))
        assumption
      · refine Changes.ite ?_ ?_
        · refine Changes.andThen ?_ (State.endCheck_changes ..) (by decide) (subset_regs (by decide +kernel))
          assumption
        · refine Changes.andThen ?_ (State.dmaLoad_changes ..) (by decide) (subset_regs (by decide +kernel))
          assumption
  · assumption

theorem State.copyBursts_changes (src : Nat) (dst : Nat) (errs : List (Nat × BurstErr)) (a3 : List Nat) (a4 : State) :
    Changes [.outbox, .freeCtr, .hal, .pce, .dma, .ddr, .fst, .helm] [.FST_STATUS, .FST_CH_STATUS,
      .FST_CH_CE_BUCKET, .FST_CH_CNT_CE, .FST_CH_CNT_UE, .FST_CH_ECC_BAND, .FST_CH_ECC_INFO, .HAL_CNT_QUEUE_DROP,
      .PCE_STATUS, .PCE_CNT_MSIX_DROP, .DMA_STATUS, .HLM_CNT_NOTICE_DROP, .PWR_FAULT_SUMMARY] a4 (State.copyBursts
      src dst errs a3 a4) := by
  fun_induction State.copyBursts src dst errs a3 a4
  · rename_i y1
    exact Changes.refl _ _ _
  · rename_i y2 y3 y4 y5 y6 y7
    refine Changes.trans ?_ y7
    refine Changes.andThen ?_ (State.ddrWr_changes ..) (by decide) (subset_regs (by decide +kernel))
    unfold y5
    refine Changes.andThen ?_ (State.eccRead_changes ..) (by decide) (subset_regs (by decide +kernel))
    exact Changes.refl _ _ _

theorem State.migCopy_changes (s0 : State) (c : Nat) (b : Nat) (errs : List (Nat × BurstErr)) :
    Changes [.outbox, .freeCtr, .hal, .pce, .dma, .que, .ddr, .fst, .helm] [.FST_STATUS, .FST_RES_USED,
      .FST_CH_STATUS, .FST_CH_CE_BUCKET, .FST_CH_CNT_CE, .FST_CH_CNT_UE, .FST_CH_ECC_BAND, .FST_CH_ECC_INFO,
      .HAL_CNT_QUEUE_DROP, .PCE_STATUS, .PCE_CNT_MSIX_DROP, .DMA_STATUS, .DMA_CUR_LO, .DMA_CUR_HI, .QUE_STATUS,
      .QUE_CNT_LOST, .QUE_CNT_PTR_ERR, .QUE_CNT_NO_QUEUE, .HLM_CNT_NOTICE_DROP, .PWR_FAULT_SUMMARY] s0
      (State.migCopy s0 c b errs) := by
  unfold State.migCopy
  extract_lets v1 v2 v3 v4 v5 v6 v7 v8 v9
  refine Changes.cut (x := v1) ?_ (fun h10 => ?_)
  · unfold v1
    refine Changes.ite ?_ ?_
    · exact Changes.refl _ _ _
    · refine Changes.andThen ?_ (State.startMigration_changes ..) (by decide) (subset_regs (by decide +kernel))
      exact Changes.refl _ _ _
  refine Changes.cut (x := v6) ?_ (fun h11 => ?_)
  · unfold v6
    refine Changes.setFld ?_ (by decide +kernel)
    refine Changes.andThen ?_ (State.copyBursts_changes ..) (by decide) (subset_regs (by decide +kernel))
    assumption
  refine Changes.cut (x := v8) ?_ (fun h12 => ?_)
  · unfold v8
    refine Changes.fst ?_ (by rfl) (by decide +kernel)
    assumption
  refine Changes.cut (x := v9) ?_ (fun h13 => ?_)
  · unfold v9
    refine Changes.andThen ?_ (State.migNotices_changes ..) (by decide) (subset_regs (by decide +kernel))
    refine Changes.wr ?_ (by decide +kernel)
    assumption
  clear_value v1
  clear_value v2
  clear_value v3
  clear_value v4
  clear_value v5
  clear_value v6
  clear_value v8
  clear_value v9
  refine Changes.ite ?_ ?_
  · refine Changes.andThen ?_ (State.migDone_changes ..) (by decide) (subset_regs (by decide +kernel))
    assumption
  · assumption

theorem State.doorbell_changes (s : State) (n : Nat) :
    Changes [.outbox, .pce, .dma, .que, .ddr, .fst] [.FST_CNT_BAD_ACCESS, .PCE_STATUS, .PCE_CNT_MSIX_DROP,
      .DMA_STATUS, .DMA_DB_COUNT, .DMA_CUR_LO, .DMA_CUR_HI, .DMA_CNT_OWN_WAIT, .QUE_STATUS] s (State.doorbell s n) := by
  unfold State.doorbell
  extract_lets v1 v2
  refine Changes.cut (x := v1) ?_ (fun h3 => ?_)
  · unfold v1
    refine Changes.wr ?_ (by decide +kernel)
    exact Changes.refl _ _ _
  clear_value v1
  clear_value v2
  refine Changes.ite ?_ ?_
  · refine Changes.andThen ?_ (State.endCheck_changes ..) (by decide) (subset_regs (by decide +kernel))
    assumption
  · refine Changes.ite ?_ ?_
    · refine Changes.andThen ?_ (State.dmaLoad_changes ..) (by decide) (subset_regs (by decide +kernel))
      assumption
    · refine Changes.ite ?_ ?_
      · refine Changes.andThen ?_ (State.ctRefill_changes ..) (by decide) (subset_regs (by decide +kernel))
        assumption
      · assumption

theorem State.dmaEvent_changes (s : State) (n : Nat) :
    Changes [.outbox, .pce, .dma, .que, .ddr, .fst] [.FST_CNT_BAD_ACCESS, .PCE_STATUS, .PCE_CNT_MSIX_DROP,
      .DMA_STATUS, .DMA_DB_COUNT, .DMA_CUR_LO, .DMA_CUR_HI, .DMA_CNT_OWN_WAIT, .QUE_STATUS] s (State.dmaEvent s n) := by
  unfold State.dmaEvent
  extract_lets v1
  clear_value v1
  refine Changes.andThen ?_ (State.doorbell_changes ..) (by decide) (subset_regs (by decide +kernel))
  refine Changes.andThen ?_ (State.setDm_changes ..) (by decide) (subset_regs (by decide +kernel))
  exact Changes.refl _ _ _

theorem State.descBytes_changes (s : State) (a : Nat) (rx : List Byte) (errs : List (Nat × BurstErr)) :
    Changes [.outbox, .freeCtr, .hal, .pce, .dma, .ddr, .fst, .helm] [.FST_STATUS, .FST_CH_STATUS,
      .FST_CH_CE_BUCKET, .FST_CH_CNT_CE, .FST_CH_CNT_UE, .FST_CH_ECC_BAND, .FST_CH_ECC_INFO, .HAL_CNT_QUEUE_DROP,
      .PCE_STATUS, .PCE_CNT_MSIX_DROP, .DMA_STATUS, .HLM_CNT_NOTICE_DROP, .PWR_FAULT_SUMMARY] s (State.descBytes s
      a rx errs).2 := by
  unfold State.descBytes
  extract_lets v1
  refine Changes.cut (x := v1.st) ?_ (fun h2 => ?_)
  · unfold v1
    refine Changes.andThen ?_ (State.storeFetch_changes ..) (by decide) (subset_regs (by decide +kernel))
    exact Changes.refl _ _ _
  clear_value v1
  split
  · rename_i y3
    dsimp only
    assumption
  · rename_i y4
    dsimp only
    exact Changes.refl _ _ _

theorem State.shadowLoad_changes (s : State) (n : Nat) (errs : List (Nat × BurstErr)) :
    Changes [.outbox, .freeCtr, .hal, .pce, .dma, .ddr, .fst, .helm] [.FST_STATUS, .FST_CH_STATUS,
      .FST_CH_CE_BUCKET, .FST_CH_CNT_CE, .FST_CH_CNT_UE, .FST_CH_ECC_BAND, .FST_CH_ECC_INFO, .HAL_CNT_QUEUE_DROP,
      .PCE_STATUS, .PCE_CNT_MSIX_DROP, .DMA_STATUS, .HLM_CNT_NOTICE_DROP, .PWR_FAULT_SUMMARY] s (State.shadowLoad
      s n errs) := by
  unfold State.shadowLoad
  extract_lets v1
  clear_value v1
  split
  · rename_i y2 y3
    exact Changes.refl _ _ _
  · rename_i y4 y5 y6
    extract_lets v7 v8
    refine Changes.cut (x := v7.2) ?_ (fun h9 => ?_)
    · unfold v7
      refine Changes.andThen ?_ (State.descBytes_changes ..) (by decide) (subset_regs (by decide +kernel))
      exact Changes.refl _ _ _
    clear_value v7
    clear_value v8
    refine Changes.ite ?_ ?_
    · exact Changes.refl _ _ _
    · refine Changes.andThen ?_ (State.setDm_changes ..) (by decide) (subset_regs (by decide +kernel))
      assumption

end Sys2Proof.Machine
end

