-- ==== Sys2Proof/Laws/FrameDelivery.lean ====
section
/-!
SUPPORT. What the operations of Machine/Delivery.lean may change: one lemma for each.
-/

set_option Elab.async false

namespace Sys2Proof.Machine

theorem State.loopDrop_changes (s : State) (h : Nat) :
    Changes [.outbox, .pce, .helm] allRegs s (State.loopDrop s h) := by
  unfold State.loopDrop
  extract_lets v1 v2 v3 v4
  refine Changes.cut (x := v2) ?_ (fun h5 => ?_)
  · unfold v2
    refine Changes.bump ?_ (mem_allRegs _)
    refine Changes.andThen ?_ (State.recordHal_changes ..) (by decide) (subset_allRegs _)
    exact Changes.refl _ _ _
  refine Changes.cut (x := v3) ?_ (fun h6 => ?_)
  · unfold v3
    refine Changes.andThen ?_ (State.notice_changes ..) (by decide) (subset_allRegs _)
    assumption
  clear_value v1
  clear_value v2
  clear_value v3
  clear_value v4
  refine Changes.ite ?_ ?_
  · assumption
  · refine Changes.ite ?_ ?_
    · refine Changes.andThen ?_ (State.msixReq_changes ..) (by decide) (subset_allRegs _)
      assumption
    · assumption

theorem State.route_changes (s : State) (h : Nat) (e : HEv) :
    Changes [.outbox, .pce, .helm] allRegs s (State.route s h e).2 := by
  unfold State.route
  split
  · rename_i y1
    dsimp only
    refine Changes.bump ?_ (mem_allRegs _)
    exact Changes.refl _ _ _
  · rename_i y2
    split
    · rename_i y3
      dsimp only
      refine Changes.andThen ?_ (State.loopDrop_changes ..) (by decide) (subset_allRegs _)
      exact Changes.refl _ _ _
    · rename_i y4
      split
      · rename_i y5 y6
        dsimp only
        refine Changes.bump ?_ (mem_allRegs _)
        exact Changes.refl _ _ _
      · rename_i y7 y8 y9 y10
        split
        · rename_i y11
          dsimp only
          exact Changes.refl _ _ _
        · rename_i y12
          dsimp only
          refine Changes.bump ?_ (mem_allRegs _)
          refine Changes.andThen ?_ (State.recordHal_changes ..) (by decide) (subset_allRegs _)
          exact Changes.refl _ _ _

theorem State.popEvent_changes (s : State) (h : Nat) :
    Changes [.hal] [] s (State.popEvent s h).2 := by
  unfold State.popEvent
  split
  · rename_i y1 y2
    dsimp only
    exact Changes.refl _ _ _
  · rename_i y3 y4 y5 y6
    extract_lets v7
    clear_value v7
    dsimp only
    refine Changes.hal ?_ (by decide +kernel)
    exact Changes.refl _ _ _

theorem State.nextEvent_changes (s : State) (h : Nat) :
    Changes [.outbox, .hal, .pce, .helm] allRegs s (State.nextEvent s h).2 := by
  unfold State.nextEvent
  split
  · rename_i y1 y2 y3
    dsimp only
    refine Changes.ofPair y3 ?_
    refine Changes.andThen ?_ (State.popEvent_changes ..) (by decide) (subset_allRegs _)
    exact Changes.refl _ _ _
  · rename_i y4 y5 y6 y7
    refine Changes.andThen ?_ (State.route_changes ..) (by decide) (subset_allRegs _)
    refine Changes.ofPair y7 ?_
    refine Changes.andThen ?_ (State.popEvent_changes ..) (by decide) (subset_allRegs _)
    exact Changes.refl _ _ _

theorem State.overrun_changes (s : State) (t : Nat) (n : Nat) :
    Changes [] [.HAL_TASK_STATUS] s (State.overrun s t n) := by
  unfold State.overrun
  refine Changes.bumpFld ?_ (by decide +kernel)
  refine Changes.setFld ?_ (by decide +kernel)
  exact Changes.refl _ _ _

theorem State.seqEvent_changes (s : State) (q : Nat) (e : HEv) :
    Changes [.hal] [] s (State.seqEvent s q e) := by
  unfold State.seqEvent
  extract_lets v1
  clear_value v1
  refine Changes.ite ?_ ?_
  · refine Changes.andThen ?_ (State.setHseq_changes ..) (by decide) (subset_regs (by decide +kernel))
    exact Changes.refl _ _ _
  · refine Changes.andThen ?_ (State.setHseq_changes ..) (by decide) (subset_regs (by decide +kernel))
    exact Changes.refl _ _ _

theorem State.countEvent_changes (s : State) (c : Nat) (n : Nat) (first : HEv) (last : HEv) :
    Changes [.hal] [.HAL_CNT_QUEUE_DROP, .HAL_CTR_VALUE] s (State.countEvent s c n first last) := by
  unfold State.countEvent
  extract_lets v1 v2 v3
  clear_value v1
  clear_value v2
  clear_value v3
  refine Changes.ite ?_ ?_
  · refine Changes.andThen ?_ (State.publishHops_changes ..) (by decide) (subset_regs (by decide +kernel))
    refine Changes.wr ?_ (by decide +kernel)
    exact Changes.refl _ _ _
  · refine Changes.wr ?_ (by decide +kernel)
    exact Changes.refl _ _ _

theorem State.scnEvent_changes (s : State) (n : Nat) (w : Nat) (e : HEv) :
    Changes [.outbox, .sht, .bch, .beams, .scn, .hal] [.SHT_STATUS, .SHT_I_STATE, .SHT_LAST_OUT, .SHT_LAST_FRAME,
      .SHT_LAST_DELAY, .SHT_DELAY_MAX, .SHT_CNT_FALLBACK, .SHT_CNT_SUPERSEDED, .SHT_CNT_LOG_DROP, .BCH_STATUS,
      .SCN_STATUS, .SCN_HALT_RECORD, .SCN_HALT_OFFSET, .SCN_RECORD, .SCN_CNT_RECORDS, .SCN_CNT_HALT,
      .HAL_CNT_QUEUE_DROP] s (State.scnEvent s n w e) := by
  unfold State.scnEvent
  extract_lets v1 v2
  clear_value v1
  clear_value v2
  refine Changes.ite ?_ ?_
  · refine Changes.andThen ?_ (State.waitDone_changes ..) (by decide) (subset_regs (by decide +kernel))
    exact Changes.refl _ _ _
  · refine Changes.andThen ?_ (State.setSc_changes ..) (by decide) (subset_regs (by decide +kernel))
    exact Changes.refl _ _ _

theorem State.takeEvent_changes (s : State) (t : Nat) (e : HEv) (met : BitVec 16) :
    Changes [.outbox, .freeCtr, .cap, .capt, .sht, .bch, .beams, .scn, .lum, .proj, .hal, .pce, .dma, .que, .ddr,
      .fst, .tim, .helm] (([.CAP_PORT_FLAGS, .CAP_CNT_TRIG_MERGED, .CAP_CNT_TRIG_HOLDOFF, .CAP_CNT_TRIG_DROP,
      .CAP_ENC_CMP_NEXT, .FST_CNT_BAD_ACCESS, .FST_CNT_SPAN_REFUSED, .SHT_STATUS, .SHT_I_STATE, .SHT_LAST_OUT,
      .SHT_LAST_FRAME, .SHT_LAST_DELAY, .SHT_DELAY_MAX, .SHT_CNT_FALLBACK, .SHT_CNT_SUPERSEDED, .SHT_CNT_LOG_DROP,
      .BCH_STATUS, .SCN_STATUS, .SCN_HALT_RECORD, .SCN_HALT_OFFSET] : List Reg) ++ (([.SCN_RECORD,
      .SCN_CNT_RECORDS, .SCN_CNT_HALT, .LUM_CH_STATUS, .LUM_CNT_OVERLAP, .LUM_CNT_DIAG_ABORT, .LUM_PROJ_STATUS,
      .HAL_GROUP_STATE, .HAL_CNT_QUEUE_DROP, .HAL_CTR_VALUE, .HAL_SEQ_RUN, .PCE_STATUS, .PCE_CNT_MSIX_DROP,
      .DMA_STATUS, .DMA_DB_COUNT, .DMA_CUR_LO, .DMA_CUR_HI, .DMA_CNT_OWN_WAIT, .QUE_STATUS, .QUE_CNT_LOST] : List
      Reg) ++ ([.QUE_CNT_PTR_ERR, .QUE_CNT_NO_QUEUE, .TIM_CAP_SEC_LO, .TIM_CAP_STATUS, .HLM_CNT_NOTICE_DROP,
      .PWR_FAULT_SUMMARY] : List Reg))) s (State.takeEvent s t e met) := by
  unfold State.takeEvent
  extract_lets v1 v2
  clear_value v1
  clear_value v2
  refine Changes.ite ?_ ?_
  · refine Changes.ite ?_ ?_
    · refine Changes.andThen ?_ (State.trigCause_changes ..) (by decide) (subset_regs (by decide +kernel))
      exact Changes.refl _ _ _
    · exact Changes.refl _ _ _
  · refine Changes.ite ?_ ?_
    · refine Changes.andThen ?_ (State.mark_changes ..) (by decide) (subset_regs (by decide +kernel))
      exact Changes.refl _ _ _
    · refine Changes.ite ?_ ?_
      · refine Changes.andThen ?_ (State.scnEvent_changes ..) (by decide) (subset_regs (by decide +kernel))
        exact Changes.refl _ _ _
      · refine Changes.ite ?_ ?_
        · refine Changes.andThen ?_ (State.strobeHalyard_changes ..) (by decide) (subset_regs (by decide +kernel))
          exact Changes.refl _ _ _
        · refine Changes.ite ?_ ?_
          · refine Changes.andThen ?_ (State.swapReq_changes ..) (by decide) (subset_regs (by decide +kernel))
            exact Changes.refl _ _ _
          · refine Changes.ite ?_ ?_
            · refine Changes.andThen ?_ (State.lseqEvent_changes ..) (by decide) (subset_regs (by decide +kernel))
              exact Changes.refl _ _ _
            · refine Changes.ite ?_ ?_
              · refine Changes.andThen ?_ (State.cmpArm_changes ..) (by decide) (subset_regs (by decide +kernel))
                exact Changes.refl _ _ _
              · refine Changes.ite ?_ ?_
                · refine Changes.andThen ?_ (State.dmaEvent_changes ..) (by decide) (subset_regs (by decide +kernel))
                  exact Changes.refl _ _ _
                · refine Changes.ite ?_ ?_
                  · refine Changes.andThen ?_ (State.timCapture_changes ..) (by decide) (subset_regs (by decide +kernel))
                    exact Changes.refl _ _ _
                  · refine Changes.ite ?_ ?_
                    · refine Changes.andThen ?_ (State.ringSend_changes ..) (by decide) (subset_regs (by decide +kernel))
                      exact Changes.refl _ _ _
                    · refine Changes.ite ?_ ?_
                      · refine Changes.andThen ?_ (State.groups_changes ..) (by decide) (subset_regs (by decide +kernel))
                        exact Changes.refl _ _ _
                      · refine Changes.ite ?_ ?_
                        · refine Changes.andThen ?_ (State.groups_changes ..) (by decide) (subset_regs (by decide +kernel))
                          exact Changes.refl _ _ _
                        · refine Changes.ite ?_ ?_
                          · refine Changes.andThen ?_ (State.countEvent_changes ..) (by decide) (subset_regs (by decide +kernel))
                            exact Changes.refl _ _ _
                          · refine Changes.ite ?_ ?_
                            · refine Changes.andThen ?_ (State.startSeq_changes ..) (by decide) (subset_regs (by decide +kernel))
                              exact Changes.refl _ _ _
                            · refine Changes.ite ?_ ?_
                              · refine Changes.andThen ?_ (State.seqEvent_changes ..) (by decide) (subset_regs (by decide +kernel))
                                exact Changes.refl _ _ _
                              · refine Changes.ite ?_ ?_
                                · refine Changes.hal ?_ (by decide +kernel)
                                  exact Changes.refl _ _ _
                                · refine Changes.andThen ?_ (State.msixReq_changes ..) (by decide) (subset_regs (by decide +kernel))
                                  exact Changes.refl _ _ _

theorem State.deliverOne_changes (s : State) (x : Nat × Bool × HEv) (met : BitVec 16) :
    Changes [.outbox, .freeCtr, .cap, .capt, .sht, .bch, .beams, .scn, .lum, .proj, .hal, .pce, .dma, .que, .ddr,
      .fst, .tim, .helm] (([.CAP_PORT_FLAGS, .CAP_CNT_TRIG_MERGED, .CAP_CNT_TRIG_HOLDOFF, .CAP_CNT_TRIG_DROP,
      .CAP_ENC_CMP_NEXT, .FST_CNT_BAD_ACCESS, .FST_CNT_SPAN_REFUSED, .SHT_STATUS, .SHT_I_STATE, .SHT_LAST_OUT,
      .SHT_LAST_FRAME, .SHT_LAST_DELAY, .SHT_DELAY_MAX, .SHT_CNT_FALLBACK, .SHT_CNT_SUPERSEDED, .SHT_CNT_LOG_DROP,
      .BCH_STATUS, .SCN_STATUS, .SCN_HALT_RECORD, .SCN_HALT_OFFSET] : List Reg) ++ (([.SCN_RECORD,
      .SCN_CNT_RECORDS, .SCN_CNT_HALT, .LUM_CH_STATUS, .LUM_CNT_OVERLAP, .LUM_CNT_DIAG_ABORT, .LUM_PROJ_STATUS,
      .HAL_GROUP_STATE, .HAL_CNT_DELIVERED, .HAL_CNT_QUEUE_DROP, .HAL_TASK_STATUS, .HAL_CTR_VALUE, .HAL_SEQ_RUN,
      .PCE_STATUS, .PCE_CNT_MSIX_DROP, .DMA_STATUS, .DMA_DB_COUNT, .DMA_CUR_LO, .DMA_CUR_HI, .DMA_CNT_OWN_WAIT] :
      List Reg) ++ ([.QUE_STATUS, .QUE_CNT_LOST, .QUE_CNT_PTR_ERR, .QUE_CNT_NO_QUEUE, .TIM_CAP_SEC_LO,
      .TIM_CAP_STATUS, .HLM_CNT_NOTICE_DROP, .PWR_FAULT_SUMMARY] : List Reg))) s (State.deliverOne s x met) := by
  unfold State.deliverOne
  refine Changes.ite ?_ ?_
  · refine Changes.andThen ?_ (State.overrun_changes ..) (by decide) (subset_regs (by decide +kernel))
    exact Changes.refl _ _ _
  · refine Changes.andThen ?_ (State.takeEvent_changes ..) (by decide) (subset_regs (by decide +kernel))
    refine Changes.bump ?_ (by decide +kernel)
    exact Changes.refl _ _ _

theorem State.deliverTwo_changes (s : State) (x : Nat × Bool × HEv) (y : Nat × Bool × HEv) (met : BitVec 16) :
    Changes [.outbox, .freeCtr, .cap, .capt, .sht, .bch, .beams, .scn, .lum, .proj, .hal, .pce, .dma, .que, .ddr,
      .fst, .tim, .helm] (([.CAP_PORT_FLAGS, .CAP_CNT_TRIG_MERGED, .CAP_CNT_TRIG_HOLDOFF, .CAP_CNT_TRIG_DROP,
      .CAP_ENC_CMP_NEXT, .FST_CNT_BAD_ACCESS, .FST_CNT_SPAN_REFUSED, .SHT_STATUS, .SHT_I_STATE, .SHT_LAST_OUT,
      .SHT_LAST_FRAME, .SHT_LAST_DELAY, .SHT_DELAY_MAX, .SHT_CNT_FALLBACK, .SHT_CNT_SUPERSEDED, .SHT_CNT_LOG_DROP,
      .BCH_STATUS, .SCN_STATUS, .SCN_HALT_RECORD, .SCN_HALT_OFFSET] : List Reg) ++ (([.SCN_RECORD,
      .SCN_CNT_RECORDS, .SCN_CNT_HALT, .LUM_CH_STATUS, .LUM_CNT_OVERLAP, .LUM_CNT_DIAG_ABORT, .LUM_PROJ_STATUS,
      .HAL_GROUP_STATE, .HAL_CNT_DELIVERED, .HAL_CNT_QUEUE_DROP, .HAL_TASK_STATUS, .HAL_CTR_VALUE, .HAL_SEQ_RUN,
      .PCE_STATUS, .PCE_CNT_MSIX_DROP, .DMA_STATUS, .DMA_DB_COUNT, .DMA_CUR_LO, .DMA_CUR_HI, .DMA_CNT_OWN_WAIT] :
      List Reg) ++ ([.QUE_STATUS, .QUE_CNT_LOST, .QUE_CNT_PTR_ERR, .QUE_CNT_NO_QUEUE, .TIM_CAP_SEC_LO,
      .TIM_CAP_STATUS, .HLM_CNT_NOTICE_DROP, .PWR_FAULT_SUMMARY] : List Reg))) s (State.deliverTwo s x y met) := by
  unfold State.deliverTwo
  extract_lets v1 v2
  clear_value v1
  clear_value v2
  refine Changes.ite ?_ ?_
  · refine Changes.andThen ?_ (State.deliverOne_changes ..) (by decide) (subset_regs (by decide +kernel))
    refine Changes.andThen ?_ (State.deliverOne_changes ..) (by decide) (subset_regs (by decide +kernel))
    exact Changes.refl _ _ _
  · refine Changes.ite ?_ ?_
    · refine Changes.andThen ?_ (State.overrun_changes ..) (by decide) (subset_regs (by decide +kernel))
      exact Changes.refl _ _ _
    · refine Changes.ite ?_ ?_
      · refine Changes.andThen ?_ (State.countEvent_changes ..) (by decide) (subset_regs (by decide +kernel))
        refine Changes.bumpBy ?_ (by decide +kernel)
        exact Changes.refl _ _ _
      · refine Changes.andThen ?_ (State.takeEvent_changes ..) (by decide) (subset_regs (by decide +kernel))
        refine Changes.bump ?_ (by decide +kernel)
        refine Changes.bumpFld ?_ (by decide +kernel)
        refine Changes.setFld ?_ (by decide +kernel)
        exact Changes.refl _ _ _

theorem State.awaitArrival_changes (s : State) (h : Nat) :
    Changes [.fine, .hal] [] s (State.awaitArrival s h) := by
  unfold State.awaitArrival
  extract_lets v1
  clear_value v1
  refine Changes.ite ?_ ?_
  · exact Changes.refl _ _ _
  · refine Changes.upd (t := s) ?_ (by intro p hp; cases p <;> first | rfl | exact absurd (by decide +kernel) hp) rfl (fun h => ⟨h.1, h.2.1, h.2.2.1, h.2.2.2⟩)
    exact Changes.refl _ _ _

end Sys2Proof.Machine
end

