-- ==== Sys2Proof/Laws/FramePcie.lean ====
section
/-!
SUPPORT. What the operations of Machine/Pcie.lean may change: one lemma for each.
-/

set_option Elab.async false

namespace Sys2Proof.Machine

theorem State.dmaResume_changes (n : Nat) (s : State) :
    Changes [.outbox, .pce, .dma, .que, .ddr, .fst] [.FST_CNT_BAD_ACCESS, .PCE_STATUS, .PCE_CNT_MSIX_DROP,
      .DMA_STATUS, .DMA_CUR_LO, .DMA_CUR_HI, .DMA_CNT_OWN_WAIT, .QUE_STATUS] s (State.dmaResume n s) := by
  unfold State.dmaResume
  extract_lets v1 v2
  refine Changes.cut (x := v2) ?_ (fun h3 => ?_)
  · unfold v2
    refine Changes.andThen ?_ (State.setDm_changes ..) (by decide) (subset_regs (by decide +kernel))
    exact Changes.refl _ _ _
  clear_value v1
  clear_value v2
  refine Changes.ite ?_ ?_
  · exact Changes.refl _ _ _
  · refine Changes.ite ?_ ?_
    · refine Changes.ite ?_ ?_
      · refine Changes.andThen ?_ (State.ctRefill_changes ..) (by decide) (subset_regs (by decide +kernel))
        assumption
      · assumption
    · refine Changes.andThen ?_ (State.dmaLoad_changes ..) (by decide) (subset_regs (by decide +kernel))
      assumption

theorem State.msixFlushList_changes (a0 : List Nat) (a1 : State) :
    Changes [.outbox, .pce] [.PCE_STATUS] a1 (State.msixFlushList a0 a1) := by
  fun_induction State.msixFlushList a0 a1
  · rename_i y1
    exact Changes.refl _ _ _
  · rename_i y2 y3 y4 y5
    refine Changes.trans ?_ y5
    refine Changes.ite ?_ ?_
    · exact Changes.refl _ _ _
    · refine Changes.andThen ?_ (State.msixSend_changes ..) (by decide) (subset_regs (by decide +kernel))
      refine Changes.andThen ?_ (State.setPending_changes ..) (by decide) (subset_regs (by decide +kernel))
      exact Changes.refl _ _ _

theorem State.msixFlush_changes (s : State) :
    Changes [.outbox, .pce] [.PCE_STATUS] s (State.msixFlush s) := by
  unfold State.msixFlush
  refine Changes.ite ?_ ?_
  · refine Changes.andThen ?_ (State.msixFlushList_changes ..) (by decide) (subset_regs (by decide +kernel))
    exact Changes.refl _ _ _
  · exact Changes.refl _ _ _

theorem State.busOn_changes (s : State) :
    Changes [.outbox, .pce, .dma, .que, .ddr, .fst] [.FST_CNT_BAD_ACCESS, .PCE_STATUS, .PCE_CNT_MSIX_DROP,
      .DMA_STATUS, .DMA_CUR_LO, .DMA_CUR_HI, .DMA_CNT_OWN_WAIT, .QUE_STATUS] s (State.busOn s) := by
  unfold State.busOn
  refine Changes.andThen ?_ (State.msixFlush_changes ..) (by decide) (subset_regs (by decide +kernel))
  unfold State.allDma
  refine Changes.trans ?_ (State.eachDma_changes (fun k1 s2 => ?_) _ _)
  · exact Changes.refl _ _ _
  · refine Changes.andThen ?_ (State.dmaResume_changes ..) (by decide) (subset_regs (by decide +kernel))
    exact Changes.refl _ _ _

theorem State.dmaFlr_changes (n : Nat) (s : State) :
    Changes [.outbox, .pce, .dma, .que, .fst] [.PCE_STATUS, .PCE_CNT_MSIX_DROP, .DMA_STATUS, .QUE_STATUS] s
      (State.dmaFlr n s) := by
  unfold State.dmaFlr
  extract_lets v1
  refine Changes.ite ?_ ?_
  · exact Changes.refl _ _ _
  · refine Changes.ite ?_ ?_
    · refine Changes.andThen ?_ (State.dmaAbort_changes ..) (by decide) (subset_regs (by decide +kernel))
      exact Changes.refl _ _ _
    · refine Changes.ite ?_ ?_
      · refine Changes.setFld ?_ (by decide +kernel)
        refine Changes.fst ?_ (by rfl) (by decide +kernel)
        exact Changes.refl _ _ _
      · exact Changes.refl _ _ _

theorem State.flrStart_changes (s : State) :
    Changes [.outbox, .pce, .dma, .que, .fst] [.PCE_STATUS, .PCE_CNT_MSIX_DROP, .DMA_STATUS, .QUE_STATUS] s
      (State.flrStart s) := by
  unfold State.flrStart
  extract_lets v1 v2
  refine Changes.cut (x := v1) ?_ (fun h3 => ?_)
  · unfold v1
    unfold State.allDma
    refine Changes.trans ?_ (State.eachDma_changes (fun k4 s5 => ?_) _ _)
    · refine Changes.andThen ?_ (State.dropReqs_changes ..) (by decide) (subset_regs (by decide +kernel))
      exact Changes.refl _ _ _
    · refine Changes.andThen ?_ (State.dmaFlr_changes ..) (by decide) (subset_regs (by decide +kernel))
      exact Changes.refl _ _ _
  clear_value v1
  refine Changes.setFld ?_ (by decide +kernel)
  refine Changes.pce ?_ (by rfl) (by decide +kernel)
  assumption

theorem State.reqDone_changes (s : State) (q : Req) :
    Changes [.dma] [] s (State.reqDone s q) := by
  unfold State.reqDone
  extract_lets v1
  clear_value v1
  split
  · rename_i y2 y3
    refine Changes.andThen ?_ (State.setDm_changes ..) (by decide) (subset_regs (by decide +kernel))
    exact Changes.refl _ _ _
  · rename_i y4 y5
    refine Changes.andThen ?_ (State.setDm_changes ..) (by decide) (subset_regs (by decide +kernel))
    exact Changes.refl _ _ _
  · rename_i y6 y7
    refine Changes.andThen ?_ (State.setDm_changes ..) (by decide) (subset_regs (by decide +kernel))
    exact Changes.refl _ _ _
  · rename_i y8 y9
    refine Changes.andThen ?_ (State.setDm_changes ..) (by decide) (subset_regs (by decide +kernel))
    exact Changes.refl _ _ _
  · rename_i y10 y11
    refine Changes.andThen ?_ (State.setDm_changes ..) (by decide) (subset_regs (by decide +kernel))
    exact Changes.refl _ _ _
  · rename_i y12 y13
    exact Changes.refl _ _ _
  · rename_i y14 y15
    exact Changes.refl _ _ _

theorem State.endReq_changes (s : State) (tag : Nat) :
    Changes [.outbox, .pce] [.PCE_STATUS] s (State.endReq s tag) := by
  unfold State.endReq
  extract_lets v1
  refine Changes.andThen ?_ (State.reissue_changes ..) (by decide) (subset_regs (by decide +kernel))
  refine Changes.pce ?_ (by rfl) (by decide +kernel)
  exact Changes.refl _ _ _

theorem State.reqFailed_changes (s : State) (q : Req) (code : Nat) :
    Changes [.outbox, .pce, .dma, .que, .ddr, .fst] [.FST_CNT_BAD_ACCESS, .PCE_STATUS, .PCE_CNT_MSIX_DROP,
      .DMA_STATUS, .DMA_CUR_LO, .DMA_CUR_HI, .QUE_STATUS] s (State.reqFailed s q code) := by
  unfold State.reqFailed
  extract_lets v1
  clear_value v1
  refine Changes.ite ?_ ?_
  · refine Changes.andThen ?_ (State.setDm_changes ..) (by decide) (subset_regs (by decide +kernel))
    exact Changes.refl _ _ _
  · refine Changes.andThen ?_ (State.dmaHalt_changes ..) (by decide) (subset_regs (by decide +kernel))
    exact Changes.refl _ _ _

theorem State.takeCompletion_changes (s : State) (q : Req) (status : CplStatus) (data : List Byte) (tlp : Tlp) :
    Changes [.outbox, .pceCfg, .pce, .dma, .que, .ddr, .fst] [.FST_CNT_BAD_ACCESS, .PCE_STATUS,
      .PCE_CNT_MSIX_DROP, .DMA_STATUS, .DMA_CUR_LO, .DMA_CUR_HI, .QUE_STATUS] s (State.takeCompletion s q status
      data tlp) := by
  unfold State.takeCompletion
  extract_lets v1 v2 v3
  refine Changes.cut (x := v1) ?_ (fun h4 => ?_)
  · unfold v1
    refine Changes.ite ?_ ?_
    · refine Changes.andThen ?_ (State.aerLog_changes ..) (by decide) (subset_regs (by decide +kernel))
      exact Changes.refl _ _ _
    · exact Changes.refl _ _ _
  clear_value v1
  clear_value v2
  split
  · rename_i y5
    refine Changes.andThen ?_ (State.reqFailed_changes ..) (by decide) (subset_regs (by decide +kernel))
    refine Changes.andThen ?_ (State.endReq_changes ..) (by decide) (subset_regs (by decide +kernel))
    assumption
  · rename_i y6
    refine Changes.andThen ?_ (State.reqFailed_changes ..) (by decide) (subset_regs (by decide +kernel))
    refine Changes.andThen ?_ (State.endReq_changes ..) (by decide) (subset_regs (by decide +kernel))
    refine Changes.andThen ?_ (State.aerLog_changes ..) (by decide) (subset_regs (by decide +kernel))
    assumption
  · rename_i y7
    refine Changes.ite ?_ ?_
    · refine Changes.andThen ?_ (State.reqDone_changes ..) (by decide) (subset_regs (by decide +kernel))
      refine Changes.andThen ?_ (State.endReq_changes ..) (by decide) (subset_regs (by decide +kernel))
      assumption
    · refine Changes.pce ?_ (by rfl) (by decide +kernel)
      assumption

theorem State.closeMailbox_changes (s : State) :
    Changes [.ses] [.BOOT_MBX_STATUS, .SES_STATUS] s (State.closeMailbox s) := by
  unfold State.closeMailbox
  extract_lets v1 v2 v3
  refine Changes.cut (x := v2) ?_ (fun h4 => ?_)
  · unfold v2
    refine Changes.ses ?_ (by decide +kernel)
    exact Changes.refl _ _ _
  refine Changes.cut (x := v3) ?_ (fun h5 => ?_)
  · unfold v3
    refine Changes.wr ?_ (by decide +kernel)
    assumption
  clear_value v1
  clear_value v2
  clear_value v3
  refine Changes.wr ?_ (by decide +kernel)
  assumption

theorem State.endDrain_changes (s : State) :
    Changes [.pce] [] s (State.endDrain s) := by
  unfold State.endDrain
  refine Changes.pce ?_ (by rfl) (by decide +kernel)
  exact Changes.refl _ _ _

theorem State.msixUnmask_changes (s : State) (v : Nat) :
    Changes [.outbox, .pce] [.PCE_STATUS] s (State.msixUnmask s v) := by
  unfold State.msixUnmask
  extract_lets v1 v2
  refine Changes.cut (x := v2) ?_ (fun h3 => ?_)
  · unfold v2
    refine Changes.andThen ?_ (State.setMsix_changes ..) (by decide) (subset_regs (by decide +kernel))
    exact Changes.refl _ _ _
  clear_value v1
  clear_value v2
  refine Changes.ite ?_ ?_
  · refine Changes.andThen ?_ (State.msixSend_changes ..) (by decide) (subset_regs (by decide +kernel))
    refine Changes.andThen ?_ (State.setPending_changes ..) (by decide) (subset_regs (by decide +kernel))
    assumption
  · assumption

theorem State.bar4Wr_changes (s : State) (a : Nat) (v : Word) :
    Changes [.outbox, .pce] [.PCE_STATUS] s (State.bar4Wr s a v) := by
  unfold State.bar4Wr
  extract_lets v1 v2
  clear_value v1
  clear_value v2
  refine Changes.ite ?_ ?_
  · exact Changes.refl _ _ _
  · split
    · rename_i y3 y4
      refine Changes.andThen ?_ (State.setMsix_changes ..) (by decide) (subset_regs (by decide +kernel))
      exact Changes.refl _ _ _
    · rename_i y5 y6
      refine Changes.andThen ?_ (State.setMsix_changes ..) (by decide) (subset_regs (by decide +kernel))
      exact Changes.refl _ _ _
    · rename_i y7 y8
      refine Changes.andThen ?_ (State.setMsix_changes ..) (by decide) (subset_regs (by decide +kernel))
      exact Changes.refl _ _ _
    · rename_i y9 y10 y11 y12
      refine Changes.ite ?_ ?_
      · refine Changes.andThen ?_ (State.setMsix_changes ..) (by decide) (subset_regs (by decide +kernel))
        exact Changes.refl _ _ _
      · refine Changes.andThen ?_ (State.msixUnmask_changes ..) (by decide) (subset_regs (by decide +kernel))
        exact Changes.refl _ _ _

theorem State.bar4Words_changes (s : State) (a : Nat) (a2 : List Word) :
    Changes [.outbox, .pce] [.PCE_STATUS] s (State.bar4Words s a a2) := by
  fun_induction State.bar4Words s a a2
  · rename_i y1 y2
    exact Changes.refl _ _ _
  · rename_i y3 y4 y5 y6 y7
    refine Changes.trans ?_ y7
    refine Changes.andThen ?_ (State.bar4Wr_changes ..) (by decide) (subset_regs (by decide +kernel))
    exact Changes.refl _ _ _

theorem State.dmaPause_changes (n : Nat) (s : State) :
    Changes [.outbox, .pce, .dma, .que] [.PCE_STATUS, .PCE_CNT_MSIX_DROP, .DMA_STATUS, .DMA_CNT_CT_DROP,
      .QUE_STATUS] s (State.dmaPause n s) := by
  unfold State.dmaPause
  extract_lets v1 v2
  refine Changes.cut (x := v1) ?_ (fun h3 => ?_)
  · unfold v1
    refine Changes.ite ?_ ?_
    · refine Changes.andThen ?_ (State.ctDropAll_changes ..) (by decide) (subset_regs (by decide +kernel))
      exact Changes.refl _ _ _
    · refine Changes.andThen ?_ (State.dropDrain_changes ..) (by decide) (subset_regs (by decide +kernel))
      exact Changes.refl _ _ _
  clear_value v1
  clear_value v2
  refine Changes.ite ?_ ?_
  · exact Changes.refl _ _ _
  · refine Changes.andThen ?_ (State.setDm_changes ..) (by decide) (subset_regs (by decide +kernel))
    assumption

theorem State.busOff_changes (s : State) :
    Changes [.outbox, .pce, .dma, .que] [.PCE_STATUS, .PCE_CNT_MSIX_DROP, .DMA_STATUS, .DMA_CNT_CT_DROP,
      .QUE_STATUS] s (State.busOff s) := by
  unfold State.busOff
  unfold State.allDma
  refine Changes.trans ?_ (State.eachDma_changes (fun k1 s2 => ?_) _ _)
  · refine Changes.andThen ?_ (State.dropReqs_changes ..) (by decide) (subset_regs (by decide +kernel))
    exact Changes.refl _ _ _
  · refine Changes.andThen ?_ (State.dmaPause_changes ..) (by decide) (subset_regs (by decide +kernel))
    exact Changes.refl _ _ _

theorem State.pceShow_changes (s : State) :
    Changes [] [.PCE_STATUS] s (State.pceShow s) := by
  unfold State.pceShow
  refine Changes.setFld ?_ (by decide +kernel)
  refine Changes.setFld ?_ (by decide +kernel)
  exact Changes.refl _ _ _

theorem State.busChange_changes (s : State) (was : Bool) :
    Changes [.outbox, .pce, .dma, .que, .ddr, .fst] [.FST_CNT_BAD_ACCESS, .PCE_STATUS, .PCE_CNT_MSIX_DROP,
      .DMA_STATUS, .DMA_CUR_LO, .DMA_CUR_HI, .DMA_CNT_CT_DROP, .DMA_CNT_OWN_WAIT, .QUE_STATUS] s (State.busChange
      s was) := by
  unfold State.busChange
  extract_lets v1
  refine Changes.cut (x := v1) ?_ (fun h2 => ?_)
  · unfold v1
    refine Changes.andThen ?_ (State.pceShow_changes ..) (by decide) (subset_regs (by decide +kernel))
    exact Changes.refl _ _ _
  clear_value v1
  refine Changes.ite ?_ ?_
  · refine Changes.andThen ?_ (State.busOff_changes ..) (by decide) (subset_regs (by decide +kernel))
    assumption
  · refine Changes.ite ?_ ?_
    · refine Changes.andThen ?_ (State.busOn_changes ..) (by decide) (subset_regs (by decide +kernel))
      assumption
    · assumption

theorem State.cfgWrite_changes (s : State) (off : Nat) (be : BitVec 4) (v : Word) :
    Changes [.outbox, .pceCfg, .pce, .dma, .que, .ddr, .fst] [.FST_CNT_BAD_ACCESS, .PCE_STATUS,
      .PCE_CNT_MSIX_DROP, .DMA_STATUS, .DMA_CUR_LO, .DMA_CUR_HI, .DMA_CNT_CT_DROP, .DMA_CNT_OWN_WAIT, .QUE_STATUS]
      s (State.cfgWrite s off be v) := by
  unfold State.cfgWrite
  extract_lets v1 v2 v3 v4 v5 v6 v7 v8
  refine Changes.cut (x := v7) ?_ (fun h9 => ?_)
  · unfold v7
    refine Changes.andThen ?_ (State.busChange_changes ..) (by decide) (subset_regs (by decide +kernel))
    refine Changes.andThen ?_ (State.cfgWr_changes ..) (by decide) (subset_regs (by decide +kernel))
    exact Changes.refl _ _ _
  refine Changes.cut (x := v8) ?_ (fun h10 => ?_)
  · unfold v8
    refine Changes.ite ?_ ?_
    · refine Changes.andThen ?_ (State.msixFlush_changes ..) (by decide) (subset_regs (by decide +kernel))
      assumption
    · assumption
  clear_value v1
  clear_value v2
  clear_value v3
  clear_value v4
  clear_value v5
  clear_value v6
  clear_value v7
  clear_value v8
  refine Changes.ite ?_ ?_
  · refine Changes.andThen ?_ (State.flrStart_changes ..) (by decide) (subset_regs (by decide +kernel))
    assumption
  · assumption

theorem State.cfgClear_changes (s : State) (keep : Nat → Bool) :
    Changes [.pceCfg, .pce] [.PCE_STATUS] s (State.cfgClear s keep) := by
  unfold State.cfgClear
  refine Changes.andThen ?_ (State.pceShow_changes ..) (by decide) (by decide)
  refine Changes.trans (t := { s with pce := { s.pce with cfg := s.pce.cfg.filter (fun e => keep e.1) } }) ?_ ?_
  · exact (Changes.refl _ _ _).pceCfg (by decide)
  · exact (Changes.refl _ _ _).pce rfl (by decide)

theorem State.countDrop_changes (s : State) :
    Changes [] [.PCE_CNT_BME_DROP, .PCE_CNT_FLR_DROP] s (State.countDrop s) := by
  unfold State.countDrop
  refine Changes.ite ?_ ?_
  · refine Changes.bump ?_ (by decide +kernel)
    exact Changes.refl _ _ _
  · refine Changes.bump ?_ (by decide +kernel)
    exact Changes.refl _ _ _

theorem State.dropCompletion_changes (s : State) (q : Req) (status : CplStatus) (data : List Byte) (count : Bool) :
    Changes [.outbox, .pce] [.PCE_STATUS, .PCE_CNT_BME_DROP, .PCE_CNT_FLR_DROP] s (State.dropCompletion s q status
      data count) := by
  unfold State.dropCompletion
  extract_lets v1 v2 v3
  refine Changes.cut (x := v1) ?_ (fun h4 => ?_)
  · unfold v1
    refine Changes.ite ?_ ?_
    · refine Changes.andThen ?_ (State.countDrop_changes ..) (by decide) (subset_regs (by decide +kernel))
      exact Changes.refl _ _ _
    · exact Changes.refl _ _ _
  clear_value v1
  clear_value v2
  refine Changes.ite ?_ ?_
  · refine Changes.andThen ?_ (State.endReq_changes ..) (by decide) (subset_regs (by decide +kernel))
    assumption
  · refine Changes.pce ?_ (by rfl) (by decide +kernel)
    assumption

theorem State.pceReset_changes (s : State) :
    Changes [.outbox, .pceCfg, .pce, .dma, .que, .fst, .ses] [.PCE_STATUS, .PCE_CNT_MSIX_DROP, .DMA_STATUS,
      .QUE_STATUS, .BOOT_MBX_STATUS, .SES_STATUS] s (State.pceReset s) := by
  unfold State.pceReset
  extract_lets v1 v2 v3 v4
  refine Changes.cut (x := v1) ?_ (fun h5 => ?_)
  · unfold v1
    unfold State.allDma
    refine Changes.trans ?_ (State.eachDma_changes (fun k6 s7 => ?_) _ _)
    · exact Changes.refl _ _ _
    · refine Changes.andThen ?_ (State.dmaFlr_changes ..) (by decide) (subset_regs (by decide +kernel))
      refine Changes.andThen ?_ (State.dmaCredit_changes ..) (by decide) (subset_regs (by decide +kernel))
      exact Changes.refl _ _ _
  refine Changes.cut (x := v2) ?_ (fun h8 => ?_)
  · unfold v2
    refine Changes.andThen ?_ (State.closeMailbox_changes ..) (by decide) (subset_regs (by decide +kernel))
    refine Changes.andThen ?_ (State.cfgClear_changes ..) (by decide) (subset_regs (by decide +kernel))
    refine Changes.andThen ?_ (State.endDrain_changes ..) (by decide) (subset_regs (by decide +kernel))
    assumption
  refine Changes.cut (x := v3) ?_ (fun h9 => ?_)
  · unfold v3
    refine Changes.setFld ?_ (by decide +kernel)
    refine Changes.setFld ?_ (by decide +kernel)
    refine Changes.setFld ?_ (by decide +kernel)
    assumption
  refine Changes.cut (x := v4) ?_ (fun h10 => ?_)
  · unfold v4
    refine Changes.setFld ?_ (by decide +kernel)
    assumption
  clear_value v1
  clear_value v2
  clear_value v3
  clear_value v4
  refine Changes.ite ?_ ?_
  · assumption
  · refine Changes.andThen ?_ (State.pceEvent_changes ..) (by decide) (subset_regs (by decide +kernel))
    assumption

theorem State.reqHeader_changes (s : State) (q : Req) :
    Changes [.freeCtr] [] s (State.reqHeader s q).2 := by
  unfold State.reqHeader
  extract_lets v1 v2 v3 v4 v5
  refine Changes.cut (x := v1.2) ?_ (fun h6 => ?_)
  · unfold v1
    refine Changes.andThen ?_ (State.freeBits_changes ..) (by decide) (subset_regs (by decide +kernel))
    exact Changes.refl _ _ _
  clear_value v1
  clear_value v2
  clear_value v3
  clear_value v4
  clear_value v5
  dsimp only
  assumption

end Sys2Proof.Machine
end

