-- ==== Sys2Proof/Laws/FrameBoot.lean ====
section
/-!
SUPPORT. What the operations of Machine/Boot.lean may change: one lemma for each.
-/

set_option Elab.async false

namespace Sys2Proof.Machine

theorem State.setMark_changes (s : State) (dev : Nat) (m : Nat) :
    Changes [.flash] [] s (State.setMark s dev m) := by
  unfold State.setMark
  refine Changes.andThen ?_ (State.flashPut_changes ..) (by decide) (subset_regs (by decide +kernel))
  exact Changes.refl _ _ _

theorem State.opResult_changes (s : State) (r : Nat) (done : Bool) :
    Changes [] [.BOOT_STATUS] s (State.opResult s r done) := by
  unfold State.opResult
  extract_lets v1
  refine Changes.cut (x := v1) ?_ (fun h2 => ?_)
  · unfold v1
    refine Changes.setFld ?_ (by decide +kernel)
    exact Changes.refl _ _ _
  clear_value v1
  refine Changes.ite ?_ ?_
  · refine Changes.setFld ?_ (by decide +kernel)
    assumption
  · assumption

theorem State.emitAll_changes (s : State) (l : List Out) :
    Changes [.outbox] [] s (State.emitAll s l) := by
  unfold State.emitAll
  refine Changes.outbox ?_ (by decide +kernel)
  exact Changes.refl _ _ _

theorem State.flashIdle_changes (s : State) (dev : Nat) :
    Changes [.outbox] [] s (State.flashIdle s dev) := by
  unfold State.flashIdle
  refine Changes.ite ?_ ?_
  · refine Changes.andThen ?_ (State.emitAll_changes ..) (by decide) (subset_regs (by decide +kernel))
    exact Changes.refl _ _ _
  · exact Changes.refl _ _ _

theorem State.opEnd_changes (s : State) (r : Nat) (n : Nat) :
    Changes [.outbox, .boot] [.BOOT_STATUS, .BOOT_PROGRESS] s (State.opEnd s r n) := by
  unfold State.opEnd
  extract_lets v1 v2
  refine Changes.cut (x := v2) ?_ (fun h3 => ?_)
  · unfold v2
    split
    · rename_i y4 y5 y6
      refine Changes.andThen ?_ (State.flashIdle_changes ..) (by decide) (subset_regs (by decide +kernel))
      refine Changes.boot ?_ (by rfl) (by decide +kernel)
      exact Changes.refl _ _ _
    · rename_i y7 y8
      exact Changes.refl _ _ _
  clear_value v2
  refine Changes.andThen ?_ (State.opResult_changes ..) (by decide) (subset_regs (by decide +kernel))
  refine Changes.wr ?_ (by decide +kernel)
  refine Changes.setFld ?_ (by decide +kernel)
  assumption

theorem State.verifyEnd_changes (s : State) (dev : Nat) :
    Changes [.outbox, .freeCtr, .flash, .boot] [.BOOT_STATUS, .BOOT_PROGRESS] s (State.verifyEnd s dev) := by
  unfold State.verifyEnd
  split
  rename_i y1 y2 y3 y4
  split
  · rename_i y5 y6 y7
    refine Changes.andThen ?_ (State.opEnd_changes ..) (by decide) (subset_regs (by decide +kernel))
    refine Changes.ofPair y4 ?_
    refine Changes.andThen ?_ (State.tableCode_changes ..) (by decide) (subset_regs (by decide +kernel))
    exact Changes.refl _ _ _
  · rename_i y8 y9 y10 y11
    refine Changes.andThen ?_ (State.opEnd_changes ..) (by decide) (subset_regs (by decide +kernel))
    refine Changes.andThen ?_ (State.setMark_changes ..) (by decide) (subset_regs (by decide +kernel))
    refine Changes.ofPair y4 ?_
    refine Changes.andThen ?_ (State.tableCode_changes ..) (by decide) (subset_regs (by decide +kernel))
    exact Changes.refl _ _ _

theorem State.selfTested_changes (a0 : List (Fin 16 × Fin 66)) (a1 : State) :
    Changes [.outbox, .mst, .hal, .pce, .helm] [.MST_STATUS, .MST_SPARE_USE, .MST_SPAR_STATE, .HAL_CNT_QUEUE_DROP,
      .PCE_STATUS, .PCE_CNT_MSIX_DROP, .HLM_CNT_NOTICE_DROP, .PWR_FAULT_SUMMARY] a1 (State.selfTested a0 a1) := by
  fun_induction State.selfTested a0 a1
  · rename_i y1
    exact Changes.refl _ _ _
  · rename_i y2 y3 y4 y5 y6
    refine Changes.trans ?_ y6
    refine Changes.ite ?_ ?_
    · refine Changes.andThen ?_ (State.retireEngine_changes ..) (by decide) (subset_regs (by decide +kernel))
      exact Changes.refl _ _ _
    · exact Changes.refl _ _ _

theorem State.domLoad_changes (d : Nat) (s : State) :
    Changes [] [.PWR_DOM_STATUS] s (State.domLoad d s) := by
  unfold State.domLoad
  refine Changes.ite ?_ ?_
  · refine Changes.andThen ?_ (State.setDom_changes ..) (by decide) (subset_regs (by decide +kernel))
    exact Changes.refl _ _ _
  · exact Changes.refl _ _ _

theorem State.ringsStart_changes (s : State) :
    Changes [.fst] [.FST_RING_STATUS, .FST_RING_WP_BAND] s (State.ringsStart s) := by
  unfold State.ringsStart
  refine Changes.trans ?_ (foldl_changes (fun s2 k1 => ?_) _ _)
  · exact Changes.refl _ _ _
  · refine Changes.ite ?_ ?_
    · refine Changes.andThen ?_ (State.setWp_changes ..) (by decide) (subset_regs (by decide +kernel))
      refine Changes.setFld ?_ (by decide +kernel)
      exact Changes.refl _ _ _
    · exact Changes.refl _ _ _

theorem State.chTrained_changes (exclude : Nat) (x : Nat × Dimm) (s : State) :
    Changes [] [.FST_CH_STATUS] s (State.chTrained exclude x s) := by
  unfold State.chTrained
  extract_lets v1
  clear_value v1
  refine Changes.ite ?_ ?_
  · exact Changes.refl _ _ _
  · refine Changes.wr ?_ (by decide +kernel)
    exact Changes.refl _ _ _

theorem State.storeTrained_changes (s : State) :
    Changes [.outbox, .fst] [.FST_STATUS, .FST_BANDS, .FST_CH_STATUS, .FST_RING_STATUS, .FST_RING_WP_BAND] s
      (State.storeTrained s) := by
  unfold State.storeTrained
  extract_lets v1 v2 v3 v4 v5 v6 v7
  refine Changes.cut (x := v4) ?_ (fun h8 => ?_)
  · unfold v4
    refine Changes.trans ?_ (foldl_changes (fun s10 k9 => ?_) _ _)
    · exact Changes.refl _ _ _
    · refine Changes.andThen ?_ (State.chTrained_changes ..) (by decide) (subset_regs (by decide +kernel))
      exact Changes.refl _ _ _
  refine Changes.cut (x := v5) ?_ (fun h11 => ?_)
  · unfold v5
    refine Changes.setFld ?_ (by decide +kernel)
    refine Changes.wr ?_ (by decide +kernel)
    assumption
  refine Changes.cut (x := v7) ?_ (fun h12 => ?_)
  · unfold v7
    refine Changes.fst ?_ (by rfl) (by decide +kernel)
    assumption
  clear_value v1
  clear_value v2
  clear_value v3
  clear_value v4
  clear_value v5
  clear_value v7
  refine Changes.andThen ?_ (State.spdReads_changes ..) (by decide) (subset_regs (by decide +kernel))
  refine Changes.andThen ?_ (State.spdReads_changes ..) (by decide) (subset_regs (by decide +kernel))
  refine Changes.andThen ?_ (State.storeStatus_changes ..) (by decide) (subset_regs (by decide +kernel))
  refine Changes.andThen ?_ (State.ringsStart_changes ..) (by decide) (subset_regs (by decide +kernel))
  assumption

theorem State.loadTime_changes (s : State) (dt : Nat) (c : Switch) :
    Changes [.fine] [] s (State.loadTime s dt c) := by
  unfold State.loadTime
  refine Changes.ite ?_ ?_
  · refine Changes.advance ?_ (by decide +kernel)
    exact Changes.refl _ _ _
  · refine Changes.andThen ?_ (State.passBy_changes ..) (by decide) (subset_regs (by decide +kernel))
    exact Changes.refl _ _ _

theorem State.dropSwitch_changes (s : State) :
    Changes [.outbox, .boot] [.BOOT_STATUS] s (State.dropSwitch s) := by
  unfold State.dropSwitch
  extract_lets v1 v2
  refine Changes.cut (x := v1) ?_ (fun h3 => ?_)
  · unfold v1
    split
    · rename_i y4 y5 y6
      refine Changes.ite ?_ ?_
      · exact Changes.refl _ _ _
      · refine Changes.andThen ?_ (State.flashIdle_changes ..) (by decide) (subset_regs (by decide +kernel))
        exact Changes.refl _ _ _
    · rename_i y7 y8
      exact Changes.refl _ _ _
  clear_value v1
  refine Changes.setFld ?_ (by decide +kernel)
  refine Changes.setFld ?_ (by decide +kernel)
  refine Changes.boot ?_ (by rfl) (by decide +kernel)
  assumption

theorem State.flashSeen_changes (dev : Nat) (d : FlashPort) (s : State) :
    Changes [.boot] [.BOOT_FLASH_INFO] s (State.flashSeen dev d s) := by
  unfold State.flashSeen
  extract_lets v1 v2 v3
  refine Changes.cut (x := v2) ?_ (fun h4 => ?_)
  · unfold v2
    refine Changes.setFld ?_ (by decide +kernel)
    refine Changes.setFld ?_ (by decide +kernel)
    refine Changes.setFld ?_ (by decide +kernel)
    exact Changes.refl _ _ _
  clear_value v1
  clear_value v2
  refine Changes.boot ?_ (by rfl) (by decide +kernel)
  assumption

theorem State.opStart_changes (s : State) (x : FlashOp) (touches : Bool) :
    Changes [.outbox, .flash, .boot] [.BOOT_STATUS, .BOOT_PROGRESS] s (State.opStart s x touches) := by
  unfold State.opStart
  extract_lets v1 v2 v3
  refine Changes.cut (x := v2) ?_ (fun h4 => ?_)
  · unfold v2
    refine Changes.andThen ?_ (State.emitAll_changes ..) (by decide) (subset_regs (by decide +kernel))
    refine Changes.boot ?_ (by rfl) (by decide +kernel)
    exact Changes.refl _ _ _
  refine Changes.cut (x := v3) ?_ (fun h5 => ?_)
  · unfold v3
    refine Changes.wr ?_ (by decide +kernel)
    refine Changes.setFld ?_ (by decide +kernel)
    assumption
  clear_value v2
  clear_value v3
  refine Changes.ite ?_ ?_
  · refine Changes.andThen ?_ (State.setMark_changes ..) (by decide) (subset_regs (by decide +kernel))
    assumption
  · assumption

theorem State.writeOp_changes (s : State) (x : FlashOp) (first : Nat) (count : Nat) :
    Changes [.outbox, .flash, .boot] [.BOOT_STATUS, .BOOT_PROGRESS] s (State.writeOp s x first count) := by
  unfold State.writeOp
  refine Changes.ite ?_ ?_
  · refine Changes.andThen ?_ (State.opResult_changes ..) (by decide) (subset_regs (by decide +kernel))
    exact Changes.refl _ _ _
  · refine Changes.ite ?_ ?_
    · refine Changes.andThen ?_ (State.opResult_changes ..) (by decide) (subset_regs (by decide +kernel))
      exact Changes.refl _ _ _
    · refine Changes.ite ?_ ?_
      · refine Changes.andThen ?_ (State.opResult_changes ..) (by decide) (subset_regs (by decide +kernel))
        exact Changes.refl _ _ _
      · refine Changes.andThen ?_ (State.opStart_changes ..) (by decide) (subset_regs (by decide +kernel))
        exact Changes.refl _ _ _

theorem State.showProgress_changes (s : State) :
    Changes [.freeCtr] [.BOOT_PROGRESS] s (State.showProgress s) := by
  unfold State.showProgress
  split
  · rename_i y1 y2
    exact Changes.refl _ _ _
  · rename_i y3 y4 y5
    extract_lets v6
    clear_value v6
    split
    rename_i y7 y8 y9 y10
    refine Changes.wr ?_ (by decide +kernel)
    refine Changes.ofPair y10 ?_
    refine Changes.andThen ?_ (State.freeBits_changes ..) (by decide) (subset_regs (by decide +kernel))
    exact Changes.refl _ _ _

theorem State.flashProgram_changes (s : State) (dev : Nat) (a : Nat) (data : List Byte) :
    Changes [.flash] [] s (State.flashProgram s dev a data) := by
  unfold State.flashProgram
  extract_lets v1
  clear_value v1
  refine Changes.andThen ?_ (State.flashPut_changes ..) (by decide) (subset_regs (by decide +kernel))
  exact Changes.refl _ _ _

theorem State.flashErase_changes (s : State) (dev : Nat) (a : Nat) (n : Nat) :
    Changes [.flash] [] s (State.flashErase s dev a n) := by
  unfold State.flashErase
  refine Changes.flash ?_ (fun h => ?_) (by decide +kernel)
  · exact Changes.refl _ _ _
  · exact tblWf_filter _ (by assumption)

theorem State.tryImages_changes (code : Nat) (a1 : List Nat) (a2 : State) :
    Changes [.boot] [.BOOT_STATUS] a2 (State.tryImages code a1 a2) := by
  fun_induction State.tryImages code a1 a2
  · rename_i y1
    refine Changes.setFld ?_ (by decide +kernel)
    exact Changes.refl _ _ _
  · rename_i y2 y3 y4 y5 y6 y7
    refine Changes.boot ?_ (by rfl) (by decide +kernel)
    exact Changes.refl _ _ _
  · rename_i y8 y9 y10 y11 y12 y13
    refine Changes.trans ?_ y13
    refine Changes.setFld ?_ (by decide +kernel)
    refine Changes.setFld ?_ (by decide +kernel)
    exact Changes.refl _ _ _

theorem State.flashWrites_changes (dev : Nat) (a1 : List (Nat × List Byte)) (a2 : State) :
    Changes [.flash] [] a2 (State.flashWrites dev a1 a2) := by
  fun_induction State.flashWrites dev a1 a2
  · rename_i y1
    exact Changes.refl _ _ _
  · rename_i y2 y3 y4 y5 y6
    refine Changes.trans ?_ y6
    refine Changes.andThen ?_ (State.flashPut_changes ..) (by decide) (subset_regs (by decide +kernel))
    exact Changes.refl _ _ _

end Sys2Proof.Machine
end

