-- ==== Sys2Proof/Laws/FramePower.lean ====
section
/-!
SUPPORT. What the operations of Machine/Power.lean may change: one lemma for each.
-/

set_option Elab.async false

namespace Sys2Proof.Machine

theorem State.domCame_changes (d : Nat) (s : State) :
    Changes [.outbox, .lnk, .port, .mst, .bch] [.LNK_STATUS, .CAP_ENC_COUNT] s (State.domCame d s) := by
  unfold State.domCame
  extract_lets v1 v2
  clear_value v1
  clear_value v2
  refine Changes.ite ?_ ?_
  · refine Changes.andThen ?_ (State.setMs_changes ..) (by decide) (subset_regs (by decide +kernel))
    exact Changes.refl _ _ _
  · refine Changes.ite ?_ ?_
    · refine Changes.trans ?_ (State.eachOf_changes (fun k3 s4 => ?_) _ _)
      · exact Changes.refl _ _ _
      · refine Changes.andThen ?_ (State.laneStart_changes ..) (by decide) (subset_regs (by decide +kernel))
        exact Changes.refl _ _ _
    · refine Changes.ite ?_ ?_
      · refine Changes.trans ?_ (State.eachOf_changes (fun k5 s6 => ?_) _ _)
        · exact Changes.refl _ _ _
        · refine Changes.andThen ?_ (State.setCount_changes ..) (by decide) (subset_regs (by decide +kernel))
          exact Changes.refl _ _ _
      · exact Changes.refl _ _ _

theorem State.enterReef_changes (s : State) :
    Changes [.outbox, .sht, .bch, .beams, .scn, .hal, .fst, .pwr] allRegs s (State.enterReef s) := by
  unfold State.enterReef
  extract_lets v1 v2 v3 v4
  refine Changes.cut (x := v1) ?_ (fun h5 => ?_)
  · unfold v1
    refine Changes.bump ?_ (mem_allRegs _)
    refine Changes.andThen ?_ (State.publish_changes ..) (by decide) (subset_allRegs _)
    refine Changes.setFld ?_ (mem_allRegs _)
    exact Changes.refl _ _ _
  refine Changes.cut (x := v2) ?_ (fun h6 => ?_)
  · unfold v2
    refine Changes.andThen ?_ (State.selfRef_changes ..) (by decide) (subset_allRegs _)
    assumption
  refine Changes.cut (x := v4) ?_ (fun h7 => ?_)
  · unfold v4
    refine Changes.pwr ?_ (by decide +kernel)
    assumption
  clear_value v1
  clear_value v2
  clear_value v3
  clear_value v4
  unfold State.allBeams
  refine Changes.trans ?_ (State.eachBeam_changes (fun k8 s9 => ?_) _ _)
  · assumption
  · refine Changes.andThen ?_ (State.reefPause_changes ..) (by decide) (subset_allRegs _)
    exact Changes.refl _ _ _

theorem State.warn_changes (s : State) :
    Changes [.outbox, .sht, .bch, .beams, .scn, .hal, .fst, .pwr] allRegs s (State.warn s) := by
  unfold State.warn
  refine Changes.ite ?_ ?_
  · refine Changes.ite ?_ ?_
    · exact Changes.refl _ _ _
    · refine Changes.andThen ?_ (State.enterReef_changes ..) (by decide) (subset_allRegs _)
      exact Changes.refl _ _ _
  · refine Changes.bump ?_ (mem_allRegs _)
    refine Changes.setFld ?_ (mem_allRegs _)
    exact Changes.refl _ _ _

theorem State.domOff_changes (d : Nat) (s : State) :
    Changes [.outbox, .freeCtr, .lnk, .port, .cap, .mst, .hal, .dma, .ddr, .fst, .pwr] [.LNK_STATUS,
      .LNK_PORT_STATUS, .LNK_CNT_REBUILT, .LNK_CNT_PARITY_MISMATCH, .LNK_CNT_ERASED_ROWS, .CAP_CNT_INCOMPLETE,
      .CAP_CNT_OVERSIZE, .FST_RING_WP_BAND, .MST_STATUS, .MST_SPARE_USE, .MST_SPAR_STATE, .MST_CNT_CANCEL,
      .MST_CNT_INGEST_DROP, .HAL_CNT_QUEUE_DROP, .PWR_DOM_STATUS, .PWR_DOM_PENDING] s (State.domOff d s) := by
  unfold State.domOff
  extract_lets v1 v2 v3 v4 v5
  refine Changes.cut (x := v1) ?_ (fun h6 => ?_)
  · unfold v1
    refine Changes.andThen ?_ (State.setDomPending_changes ..) (by decide) (subset_regs (by decide +kernel))
    refine Changes.andThen ?_ (State.setDom_changes ..) (by decide) (subset_regs (by decide +kernel))
    exact Changes.refl _ _ _
  refine Changes.cut (x := v3) ?_ (fun h7 => ?_)
  · unfold v3
    refine Changes.pwr ?_ (by decide +kernel)
    assumption
  refine Changes.cut (x := v5) ?_ (fun h8 => ?_)
  · unfold v5
    refine Changes.andThen ?_ (State.unsuspendList_changes ..) (by decide) (subset_regs (by decide +kernel))
    assumption
  clear_value v1
  clear_value v2
  clear_value v3
  clear_value v4
  clear_value v5
  refine Changes.ite ?_ ?_
  · refine Changes.setFld ?_ (by decide +kernel)
    refine Changes.andThen ?_ (State.setMs_changes ..) (by decide) (subset_regs (by decide +kernel))
    assumption
  · refine Changes.ite ?_ ?_
    · refine Changes.trans ?_ (State.eachOf_changes (fun k9 s10 => ?_) _ _)
      · assumption
      · refine Changes.emit ?_ (by decide +kernel)
        refine Changes.andThen ?_ (State.laneDisable_changes ..) (by decide) (subset_regs (by decide +kernel))
        exact Changes.refl _ _ _
    · assumption

theorem State.enterTarget_changes (s : State) :
    Changes [.outbox, .freeCtr, .lnk, .port, .cap, .capt, .mst, .sht, .bch, .lum, .proj, .hal, .dma, .ddr, .fst,
      .pwr] (([.LNK_CTRL, .LNK_STATUS, .LNK_PORT_STATUS, .LNK_PATTERN, .LNK_INJECT, .LNK_CNT_REBUILT,
      .LNK_CNT_PARITY_MISMATCH, .LNK_CNT_ERASED_ROWS, .CAP_CNT_INCOMPLETE, .CAP_CNT_OVERSIZE, .FST_RING_WP_BAND,
      .MST_STATUS, .MST_SPARE_USE, .MST_SPAR_STATE, .MST_CNT_CANCEL, .MST_CNT_INGEST_DROP, .SHT_STATUS,
      .SHT_I_STATE, .SHT_LAST_OUT, .SHT_LAST_FRAME] : List Reg) ++ ([.SHT_LAST_DELAY, .SHT_DELAY_MAX,
      .SHT_CNT_FALLBACK, .SHT_CNT_SUPERSEDED, .SHT_CNT_LOG_DROP, .BCH_STATUS, .LUM_CH_STATUS, .LUM_PROJ_STATUS,
      .HAL_CNT_QUEUE_DROP, .PWR_MODE_STATUS, .PWR_DOM_STATUS, .PWR_DOM_PENDING] : List Reg)) s (State.enterTarget
      s) := by
  unfold State.enterTarget
  extract_lets v1 v2 v3 v4
  refine Changes.cut (x := v2) ?_ (fun h5 => ?_)
  · unfold v2
    refine Changes.ite ?_ ?_
    · refine Changes.andThen ?_ (State.lanesClearTests_changes ..) (by decide) (subset_regs (by decide +kernel))
      exact Changes.refl _ _ _
    · exact Changes.refl _ _ _
  refine Changes.cut (x := v3) ?_ (fun h6 => ?_)
  · unfold v3
    refine Changes.setFld ?_ (by decide +kernel)
    assumption
  refine Changes.cut (x := v4) ?_ (fun h7 => ?_)
  · unfold v4
    refine Changes.trans ?_ (State.eachInst_changes (fun k8 s9 => ?_) _ _)
    · assumption
    · refine Changes.ite ?_ ?_
      · refine Changes.andThen ?_ (State.domOff_changes ..) (by decide) (subset_regs (by decide +kernel))
        exact Changes.refl _ _ _
      · exact Changes.refl _ _ _
  clear_value v1
  clear_value v2
  clear_value v3
  clear_value v4
  refine Changes.ite ?_ ?_
  · refine Changes.andThen ?_ (State.dropTriggers_changes ..) (by decide) (subset_regs (by decide +kernel))
    refine Changes.andThen ?_ (State.setMode_changes ..) (by decide) (subset_regs (by decide +kernel))
    refine Changes.andThen ?_ (State.selfRef_changes ..) (by decide) (subset_regs (by decide +kernel))
    assumption
  · refine Changes.ite ?_ ?_
    · refine Changes.andThen ?_ (State.lanesPatterns_changes ..) (by decide) (subset_regs (by decide +kernel))
      refine Changes.andThen ?_ (State.setMode_changes ..) (by decide) (subset_regs (by decide +kernel))
      assumption
    · refine Changes.andThen ?_ (State.setMode_changes ..) (by decide) (subset_regs (by decide +kernel))
      assumption

theorem State.refuseMode_changes (s : State) (cause : Nat) :
    Changes [] [.PWR_MODE_STATUS] s (State.refuseMode s cause) := by
  unfold State.refuseMode
  refine Changes.setFld ?_ (by decide +kernel)
  refine Changes.setFld ?_ (by decide +kernel)
  exact Changes.refl _ _ _

theorem State.leaveService_changes (s : State) (toBuild : Bool) :
    Changes [.outbox, .freeCtr, .lnk, .port, .cap, .mst, .sht, .bch, .beams, .scn, .hal, .dma, .ddr, .fst]
      (([.LNK_CTRL, .LNK_STATUS, .LNK_PORT_STATUS, .LNK_PATTERN, .LNK_INJECT, .LNK_CNT_REBUILT,
      .LNK_CNT_PARITY_MISMATCH, .LNK_CNT_ERASED_ROWS, .CAP_CNT_INCOMPLETE, .CAP_CNT_OVERSIZE, .FST_RING_WP_BAND,
      .MST_STATUS, .MST_SPARE_USE, .MST_SPAR_STATE, .MST_CNT_CANCEL, .MST_CNT_INGEST_DROP, .SHT_STATUS,
      .SHT_I_STATE, .SHT_LAST_OUT, .SHT_LAST_FRAME] : List Reg) ++ ([.SHT_LAST_DELAY, .SHT_DELAY_MAX,
      .SHT_CNT_FALLBACK, .SHT_CNT_SUPERSEDED, .SHT_CNT_LOG_DROP, .BCH_STATUS, .SCN_STATUS, .SCN_HALT_RECORD,
      .SCN_HALT_OFFSET, .SCN_RECORD, .SCN_CNT_RECORDS, .SCN_CNT_HALT, .HAL_CNT_QUEUE_DROP] : List Reg)) s
      (State.leaveService s toBuild) := by
  unfold State.leaveService
  refine Changes.andThen ?_ (State.stopTuning_changes ..) (by decide) (subset_regs (by decide +kernel))
  refine Changes.andThen ?_ (State.lanesClearTests_changes ..) (by decide) (subset_regs (by decide +kernel))
  refine Changes.andThen ?_ (State.haltForMode_changes ..) (by decide) (subset_regs (by decide +kernel))
  exact Changes.refl _ _ _

theorem State.beginTrans_changes (s : State) (target : Nat) :
    Changes [] [.PWR_MODE_STATUS] s (State.beginTrans s target) := by
  unfold State.beginTrans
  refine Changes.setFld ?_ (by decide +kernel)
  refine Changes.setFld ?_ (by decide +kernel)
  exact Changes.refl _ _ _

theorem State.toIdle_changes (s : State) :
    Changes [.outbox, .freeCtr, .lnk, .port] [.LNK_STATUS, .PWR_MODE_STATUS] s (State.toIdle s) := by
  unfold State.toIdle
  refine Changes.andThen ?_ (State.lanesEnterIdle_changes ..) (by decide) (subset_regs (by decide +kernel))
  refine Changes.andThen ?_ (State.beginTrans_changes ..) (by decide) (subset_regs (by decide +kernel))
  exact Changes.refl _ _ _

theorem State.warnAt_changes (s : State) (mv : BitVec 16) :
    Changes [.outbox, .sht, .bch, .beams, .scn, .hal, .fst, .pwr] allRegs s (State.warnAt s mv) := by
  unfold State.warnAt
  extract_lets v1 v2 v3 v4
  refine Changes.cut (x := v1) ?_ (fun h5 => ?_)
  · unfold v1
    refine Changes.setFld ?_ (mem_allRegs _)
    exact Changes.refl _ _ _
  refine Changes.cut (x := v3) ?_ (fun h6 => ?_)
  · unfold v3
    refine Changes.pwr ?_ (by decide +kernel)
    assumption
  clear_value v1
  clear_value v2
  clear_value v3
  clear_value v4
  refine Changes.ite ?_ ?_
  · assumption
  · refine Changes.ite ?_ ?_
    · refine Changes.pwr ?_ (by decide +kernel)
      assumption
    · refine Changes.andThen ?_ (State.warn_changes ..) (by decide) (subset_allRegs _)
      assumption

theorem State.uncount_changes (s : State) (h : Held) :
    Changes [.fst] [] s (State.uncount s h) := by
  unfold State.uncount
  refine Changes.fst ?_ (by rfl) (by decide +kernel)
  exact Changes.refl _ _ _

theorem State.drainWrites_changes (r : Nat) (seq : Nat) (a2 : List (Nat × List Byte)) (a3 : State) :
    Changes [.ddr, .fst] [] a3 (State.drainWrites r seq a2 a3) := by
  fun_induction State.drainWrites r seq a2 a3
  · rename_i y1
    exact Changes.refl _ _ _
  · rename_i y2 y3 y4 y5 y6
    refine Changes.trans ?_ y6
    split
    · rename_i y7 y8 y9
      refine Changes.andThen ?_ (State.recWr_changes ..) (by decide) (subset_regs (by decide +kernel))
      exact Changes.refl _ _ _
    · rename_i y10 y11
      exact Changes.refl _ _ _

theorem State.drainHeld_changes (a0 : List Held) (a1 : State) :
    Changes [.ddr, .fst] [.FST_RING_WP_BAND] a1 (State.drainHeld a0 a1) := by
  fun_induction State.drainHeld a0 a1
  · rename_i y1
    exact Changes.refl _ _ _
  · rename_i y2 y3 y4 y5
    refine Changes.trans ?_ y5
    split
    · rename_i y6 y7
      exact Changes.refl _ _ _
    · rename_i y8 y9 y10
      extract_lets v11
      refine Changes.cut (x := v11) ?_ (fun h12 => ?_)
      · unfold v11
        refine Changes.andThen ?_ (State.drainWrites_changes ..) (by decide) (subset_regs (by decide +kernel))
        exact Changes.refl _ _ _
      split
      · rename_i y13 y14 y15 y16
        refine Changes.andThen ?_ (State.endRec_changes ..) (by decide) (subset_regs (by decide +kernel))
        assumption
      · rename_i y17 y18
        assumption

theorem State.wakeAdd_changes (a0 : Nat) (a1 : Nat) (a2 : Nat) (a3 : State) :
    Changes [.pwr] [.PWR_DOM_PENDING] a3 (State.wakeAdd a0 a1 a2 a3) := by
  induction a0 generalizing a1 a2 a3 with
  | zero => exact Changes.refl _ _ _
  | succ fuel ih =>
    unfold State.wakeAdd
    refine Changes.ite (Changes.refl _ _ _) ?_
    refine Changes.trans ?_ (foldl_changes (fun s n => ih _ n s) _ _)
    refine Changes.andThen ?_ (State.setDomPending_changes ..) (by decide) (subset_regs (by decide +kernel))
    exact (Changes.refl _ _ _).pwr (by decide +kernel)

theorem State.wake_changes (d : Nat) (s : State) :
    Changes [.pwr] [.PWR_DOM_PENDING] s (State.wake d s) := by
  unfold State.wake
  refine Changes.ite ?_ ?_
  · refine Changes.andThen ?_ (State.wakeAdd_changes ..) (by decide) (subset_regs (by decide +kernel))
    exact Changes.refl _ _ _
  · exact Changes.refl _ _ _

theorem State.leaveIdle_changes (s : State) (target : Nat) :
    Changes [.outbox, .lnk, .port, .fst, .pwr] [.PWR_MODE_STATUS, .PWR_DOM_PENDING, .PWR_INRUSH_LEVEL] s
      (State.leaveIdle s target) := by
  unfold State.leaveIdle
  extract_lets v1 v2 v3
  refine Changes.cut (x := v1) ?_ (fun h4 => ?_)
  · unfold v1
    refine Changes.andThen ?_ (State.beginTrans_changes ..) (by decide) (subset_regs (by decide +kernel))
    exact Changes.refl _ _ _
  refine Changes.cut (x := v2) ?_ (fun h5 => ?_)
  · unfold v2
    refine Changes.andThen ?_ (State.selfRef_changes ..) (by decide) (subset_regs (by decide +kernel))
    assumption
  refine Changes.cut (x := v3) ?_ (fun h6 => ?_)
  · unfold v3
    refine Changes.trans ?_ (State.eachInst_changes (fun k7 s8 => ?_) _ _)
    · refine Changes.andThen ?_ (State.refill_changes ..) (by decide) (subset_regs (by decide +kernel))
      assumption
    · refine Changes.ite ?_ ?_
      · refine Changes.andThen ?_ (State.wake_changes ..) (by decide) (subset_regs (by decide +kernel))
        exact Changes.refl _ _ _
      · exact Changes.refl _ _ _
  clear_value v1
  clear_value v2
  clear_value v3
  refine Changes.andThen ?_ (State.lanesLeaveIdle_changes ..) (by decide) (subset_regs (by decide +kernel))
  assumption

theorem State.waitBudget_changes (s : State) (need : Nat) :
    Changes [.fine, .pwr] [.PWR_INRUSH_LEVEL] s (State.waitBudget s need) := by
  unfold State.waitBudget
  extract_lets v1
  refine Changes.cut (x := v1) ?_ (fun h2 => ?_)
  · unfold v1
    refine Changes.andThen ?_ (State.refill_changes ..) (by decide) (subset_regs (by decide +kernel))
    exact Changes.refl _ _ _
  clear_value v1
  refine Changes.ite ?_ ?_
  · assumption
  · refine Changes.andThen ?_ (State.refill_changes ..) (by decide) (subset_regs (by decide +kernel))
    refine Changes.advance ?_ (by decide +kernel)
    assumption

theorem State.spillHeld_changes (s : State) (h : Held) :
    Changes [.cap, .dma] [.FST_CNT_DROP, .FST_CNT_SPILL, .DMA_STATUS, .DMA_CNT_CT_DROP, .DMA_CNT_CT_SIZE] s
      (State.spillHeld s h) := by
  unfold State.spillHeld
  extract_lets v1 v2 v3 v4 v5 v6 v7
  refine Changes.cut (x := v5.2) ?_ (fun h8 => ?_)
  · unfold v5
    refine Changes.andThen ?_ (State.ctStart_changes ..) (by decide) (subset_regs (by decide +kernel))
    exact Changes.refl _ _ _
  refine Changes.cut (x := v6) ?_ (fun h9 => ?_)
  · unfold v6
    refine Changes.trans ?_ (foldl_changes (fun s11 k10 => ?_) _ _)
    · refine Changes.bump ?_ (by decide +kernel)
      assumption
    · refine Changes.andThen ?_ (State.ctData_changes ..) (by decide) (subset_regs (by decide +kernel))
      exact Changes.refl _ _ _
  clear_value v1
  clear_value v3
  clear_value v4
  clear_value v5
  clear_value v6
  clear_value v7
  refine Changes.ite ?_ ?_
  · refine Changes.ite ?_ ?_
    · refine Changes.bump ?_ (by decide +kernel)
      exact Changes.refl _ _ _
    · unfold v2
      refine Changes.bump ?_ (by decide +kernel)
      exact Changes.refl _ _ _
  · refine Changes.ite ?_ ?_
    · unfold v2
      refine Changes.bump ?_ (by decide +kernel)
      exact Changes.refl _ _ _
    · refine Changes.ite ?_ ?_
      · unfold v2
        refine Changes.bump ?_ (by decide +kernel)
        assumption
      · refine Changes.ite ?_ ?_
        · refine Changes.andThen ?_ (State.ctEnd_changes ..) (by decide) (subset_regs (by decide +kernel))
          assumption
        · split
          · rename_i y12 y13 y14
            refine Changes.ite ?_ ?_
            · refine Changes.andThen ?_ (State.setCp_changes ..) (by decide) (subset_regs (by decide +kernel))
              assumption
            · assumption
          · rename_i y15 y16
            assumption

theorem State.placeHeld_changes (a0 : List Held) (a1 : State) :
    Changes [.outbox, .cap, .hal, .pce, .dma, .que, .ddr, .fst, .helm] [.FST_RING_STATUS, .FST_RING_LAP,
      .FST_RING_WP_BAND, .FST_RING_HEAD, .FST_RING_TAIL, .FST_CNT_DROP, .FST_CNT_SPILL, .FST_CNT_VOID,
      .HAL_CNT_QUEUE_DROP, .PCE_STATUS, .PCE_CNT_MSIX_DROP, .DMA_STATUS, .DMA_CNT_CT_DROP, .DMA_CNT_CT_SIZE,
      .QUE_STATUS, .QUE_CNT_LOST, .QUE_CNT_PTR_ERR, .QUE_CNT_NO_QUEUE, .HLM_CNT_NOTICE_DROP, .PWR_FAULT_SUMMARY]
      a1 (State.placeHeld a0 a1) := by
  fun_induction State.placeHeld a0 a1
  · rename_i y1
    exact Changes.refl _ _ _
  · rename_i y2 y3 y4 y5
    extract_lets v6
    refine Changes.trans ?_ y5
    extract_lets 
    refine Changes.ite ?_ ?_
    · refine Changes.fst ?_ (by rfl) (by decide +kernel)
      exact Changes.refl _ _ _
    · split
      · rename_i y7 y8 y9 y10
        refine Changes.fst ?_ (by rfl) (by decide +kernel)
        refine Changes.ofPair y10 ?_
        refine Changes.andThen ?_ (State.placeRec_changes ..) (by decide) (subset_regs (by decide +kernel))
        exact Changes.refl _ _ _
      · rename_i y11 y12 y13
        refine Changes.andThen ?_ (State.spillHeld_changes ..) (by decide) (subset_regs (by decide +kernel))
        refine Changes.andThen ?_ (State.uncount_changes ..) (by decide) (subset_regs (by decide +kernel))
        refine Changes.andThen ?_ (State.ringFull_changes ..) (by decide) (subset_regs (by decide +kernel))
        exact Changes.refl _ _ _

theorem State.resetTo_changes (s : State) (mode : Nat) (cause : Nat) :
    Changes (([.fine, .bar0, .staged, .outbox, .lnk, .port, .cap, .capt, .mst, .sht, .bch, .beams, .scn, .cal,
      .lum, .proj, .hal, .pceCfg, .pce, .dma] : List Part) ++ ([.que, .ddr, .fst, .ses, .boot, .tim, .enc, .ssi,
      .helm, .pwr] : List Part)) allRegs s (State.resetTo s mode cause) := by
  have e0 : ∀ t : State, t.variant = s.variant → t.fuse = s.fuse → t.freeCtr = s.freeCtr → t.boot.flash = s.boot.flash →
      t.pending = s.pending → t.bar0 = [] → t.fst.ddr = [] → t.regs = [] → Changes ([.fine, .bar0, .staged, .outbox, .lnk,
      .port, .cap, .capt, .mst, .sht, .bch, .beams, .scn, .cal, .lum, .proj, .hal, .pceCfg, .pce, .dma] ++ [.que, .ddr, .fst,
      .ses, .boot, .tim, .enc, .ssi, .helm, .pwr]) allRegs s t := by
    intro t h1 h2 h3 h4 h5 h6 h7 h8
    refine ⟨?_, fun r hr => absurd (mem_allRegs r) hr, ?_⟩
    · intro p hp
      cases p <;> first | exact absurd (by decide) hp | assumption
    · intro hc
      refine ⟨by rw [h7]; rfl, by rw [h4]; exact hc.2.1, ?_, ?_⟩
      · rw [h6]; exact ⟨List.Pairwise.nil, fun e he => absurd he (by simp)⟩
      · rw [h8]; exact ⟨List.Pairwise.nil, fun e he => absurd he (by simp)⟩
  unfold State.resetTo
  refine Changes.wr ?_ (mem_allRegs _)
  refine Changes.setFld ?_ (mem_allRegs _)
  refine Changes.setFld ?_ (mem_allRegs _)
  exact e0 _ rfl rfl rfl rfl rfl rfl rfl rfl

theorem State.domCmd_changes (s : State) (d : Nat) (on : Bool) :
    Changes [.outbox, .freeCtr, .lnk, .port, .cap, .mst, .hal, .dma, .ddr, .fst, .pwr] [.LNK_STATUS,
      .LNK_PORT_STATUS, .LNK_CNT_REBUILT, .LNK_CNT_PARITY_MISMATCH, .LNK_CNT_ERASED_ROWS, .CAP_CNT_INCOMPLETE,
      .CAP_CNT_OVERSIZE, .FST_RING_WP_BAND, .MST_STATUS, .MST_SPARE_USE, .MST_SPAR_STATE, .MST_CNT_CANCEL,
      .MST_CNT_INGEST_DROP, .HAL_CNT_QUEUE_DROP, .PWR_MODE_STATUS, .PWR_DOM_STATUS, .PWR_DOM_PENDING] s
      (State.domCmd s d on) := by
  unfold State.domCmd
  refine Changes.ite ?_ ?_
  · exact Changes.refl _ _ _
  · refine Changes.ite ?_ ?_
    · refine Changes.setFld ?_ (by decide +kernel)
      exact Changes.refl _ _ _
    · refine Changes.ite ?_ ?_
      · refine Changes.andThen ?_ (State.wake_changes ..) (by decide) (subset_regs (by decide +kernel))
        exact Changes.refl _ _ _
      · refine Changes.andThen ?_ (State.domOff_changes ..) (by decide) (subset_regs (by decide +kernel))
        exact Changes.refl _ _ _

theorem State.doMarks_changes (a0 : List (Nat × Nat × Nat)) (a1 : State) :
    Changes [.outbox, .hal, .pce, .que, .ddr, .fst, .helm] [.FST_CNT_SPAN_REFUSED, .HAL_CNT_QUEUE_DROP,
      .PCE_STATUS, .PCE_CNT_MSIX_DROP, .QUE_STATUS, .QUE_CNT_LOST, .QUE_CNT_PTR_ERR, .QUE_CNT_NO_QUEUE,
      .HLM_CNT_NOTICE_DROP, .PWR_FAULT_SUMMARY] a1 (State.doMarks a0 a1) := by
  fun_induction State.doMarks a0 a1
  · rename_i y1
    exact Changes.refl _ _ _
  · rename_i y2 y3 y4 y5
    refine Changes.trans ?_ y5
    refine Changes.andThen ?_ (State.markFor_changes ..) (by decide) (subset_regs (by decide +kernel))
    exact Changes.refl _ _ _

end Sys2Proof.Machine
end

