-- ==== Sys2Proof/Laws/FrameHelm.lean ====
section
/-!
SUPPORT. What the operations of Machine/Helm.lean may change: one lemma for each.
-/

set_option Elab.async false

namespace Sys2Proof.Machine

theorem State.takeHelmIn_changes (s : State) (k : Nat) :
    Changes [.freeCtr, .hal, .helm] [.HLM_STATUS, .HLM_JOURNAL_USED] s (State.takeHelmIn s k) := by
  unfold State.takeHelmIn
  split
  · rename_i y1 y2
    exact Changes.refl _ _ _
  · rename_i y3 y4 y5
    extract_lets v6
    clear_value v6
    refine Changes.andThen ?_ (State.journalAdd_changes ..) (by decide) (subset_regs (by decide +kernel))
    refine Changes.hal ?_ (by decide +kernel)
    exact Changes.refl _ _ _

theorem State.setCore_changes (s : State) (c : Nat) (v : Nat) :
    Changes [] [.HLM_STATUS] s (State.setCore s c v) := by
  unfold State.setCore
  refine Changes.wr ?_ (by decide +kernel)
  exact Changes.refl _ _ _

theorem State.helmNotice_changes (s : State) :
    Changes [.outbox, .freeCtr, .pce, .helm] [.PCE_STATUS, .PCE_CNT_MSIX_DROP, .HLM_CNT_NOTICE_DROP,
      .PWR_FAULT_SUMMARY] s (State.helmNotice s) := by
  unfold State.helmNotice
  extract_lets v1
  refine Changes.cut (x := v1.2) ?_ (fun h2 => ?_)
  · unfold v1
    refine Changes.andThen ?_ (State.freeBits_changes ..) (by decide) (subset_regs (by decide +kernel))
    exact Changes.refl _ _ _
  clear_value v1
  refine Changes.andThen ?_ (State.notice_changes ..) (by decide) (subset_regs (by decide +kernel))
  assumption

theorem State.outvote_changes (s : State) (c : Nat) :
    Changes [.outbox, .freeCtr, .pce, .helm] [.PCE_STATUS, .PCE_CNT_MSIX_DROP, .HLM_STATUS, .HLM_CNT_MISCOMPARE,
      .HLM_CNT_NOTICE_DROP, .PWR_FAULT_SUMMARY] s (State.outvote s c) := by
  unfold State.outvote
  extract_lets v1 v2 v3 v4
  refine Changes.cut (x := v4) ?_ (fun h5 => ?_)
  · unfold v4
    refine Changes.andThen ?_ (State.helmNotice_changes ..) (by decide) (subset_regs (by decide +kernel))
    refine Changes.bump ?_ (by decide +kernel)
    refine Changes.setFld ?_ (by decide +kernel)
    refine Changes.helm ?_ (by decide +kernel)
    exact Changes.refl _ _ _
  clear_value v1
  clear_value v2
  clear_value v3
  clear_value v4
  refine Changes.ite ?_ ?_
  · refine Changes.andThen ?_ (State.helmNotice_changes ..) (by decide) (subset_regs (by decide +kernel))
    refine Changes.andThen ?_ (State.setCore_changes ..) (by decide) (subset_regs (by decide +kernel))
    assumption
  · refine Changes.andThen ?_ (State.setCore_changes ..) (by decide) (subset_regs (by decide +kernel))
    assumption

theorem State.wdtWrite_changes (s : State) (who : Requester) (v : Word) :
    Changes [.helm] [.HLM_WDT] s (State.wdtWrite s who v) := by
  unfold State.wdtWrite
  extract_lets v1
  clear_value v1
  refine Changes.ite ?_ ?_
  · refine Changes.setFld ?_ (by decide +kernel)
    refine Changes.helm ?_ (by decide +kernel)
    exact Changes.refl _ _ _
  · exact Changes.refl _ _ _

theorem State.takeNotice_changes (s : State) :
    Changes [.freeCtr, .helm] [.HLM_STATUS, .HLM_JOURNAL_USED] s (State.takeNotice s) := by
  unfold State.takeNotice
  split
  · rename_i y1 y2
    exact Changes.refl _ _ _
  · rename_i y3 y4 y5 y6
    extract_lets v7
    clear_value v7
    refine Changes.andThen ?_ (State.journalAdd_changes ..) (by decide) (subset_regs (by decide +kernel))
    refine Changes.helm ?_ (by decide +kernel)
    exact Changes.refl _ _ _

theorem State.helmTakes_changes (s : State) :
    Changes [.freeCtr, .hal, .helm] [.HLM_STATUS, .HLM_JOURNAL_USED] s (State.helmTakes s) := by
  unfold State.helmTakes
  refine Changes.ite ?_ ?_
  · refine Changes.trans ?_ (foldl_changes (fun s2 k1 => ?_) _ _)
    · refine Changes.andThen ?_ (State.takeNotice_changes ..) (by decide) (subset_regs (by decide +kernel))
      exact Changes.refl _ _ _
    · refine Changes.andThen ?_ (State.takeHelmIn_changes ..) (by decide) (subset_regs (by decide +kernel))
      exact Changes.refl _ _ _
  · exact Changes.refl _ _ _

end Sys2Proof.Machine
end

