-- ==== Sys2Proof/Laws/FrameSession.lean ====
section
/-!
SUPPORT. What the operations of Machine/Session.lean may change: one lemma for each.
-/

set_option Elab.async false

namespace Sys2Proof.Machine

theorem State.setMbxState_changes (s : State) (st : Nat) (lvl : Nat) :
    Changes [] [.BOOT_MBX_STATUS] s (State.setMbxState s st lvl) := by
  unfold State.setMbxState
  refine Changes.setFld ?_ (by decide +kernel)
  refine Changes.setFld ?_ (by decide +kernel)
  exact Changes.refl _ _ _

theorem State.newChal_changes (s : State) (data : List Byte) :
    Changes [.freeCtr] [] s (State.newChal s data).2 := by
  unfold State.newChal
  split
  rename_i y1 y2 y3 y4
  split
  rename_i y5 y6 y7 y8
  dsimp only
  refine Changes.ofPair y8 ?_
  refine Changes.andThen ?_ (State.freeBits_changes ..) (by decide) (subset_regs (by decide +kernel))
  refine Changes.ofPair y4 ?_
  refine Changes.andThen ?_ (State.freeBits_changes ..) (by decide) (subset_regs (by decide +kernel))
  exact Changes.refl _ _ _

theorem State.dgBytes_changes (s : State) (type : Nat) (sid : Nat) (body : List Byte) :
    Changes [.freeCtr] [] s (State.dgBytes s type sid body).2 := by
  unfold State.dgBytes
  split
  rename_i y1 y2 y3 y4
  dsimp only
  refine Changes.ofPair y4 ?_
  refine Changes.andThen ?_ (State.freeBits_changes ..) (by decide) (subset_regs (by decide +kernel))
  exact Changes.refl _ _ _

theorem State.dgAnswer_changes (s : State) (p : Nat) (type : Nat) (sid : Nat) (body : List Byte) :
    Changes [.outbox, .freeCtr] [] s (State.dgAnswer s p type sid body) := by
  unfold State.dgAnswer
  split
  rename_i y1 y2 y3 y4
  refine Changes.emit ?_ (by decide +kernel)
  refine Changes.ofPair y4 ?_
  refine Changes.andThen ?_ (State.dgBytes_changes ..) (by decide) (subset_regs (by decide +kernel))
  exact Changes.refl _ _ _

theorem State.dgRefuse_changes (s : State) (p : Nat) (sid : Nat) (reason : Nat) :
    Changes [.outbox, .freeCtr] [] s (State.dgRefuse s p sid reason) := by
  unfold State.dgRefuse
  refine Changes.andThen ?_ (State.dgAnswer_changes ..) (by decide) (subset_regs (by decide +kernel))
  exact Changes.refl _ _ _

theorem State.setSlot_changes (s : State) (k : Nat) (x : Slot) :
    Changes [.ses] [] s (State.setSlot s k x) := by
  unfold State.setSlot
  refine Changes.ses ?_ (by decide +kernel)
  exact Changes.refl _ _ _

theorem State.dgOpen_changes (p : Nat) (g : Dgram) (s : State) :
    Changes [.outbox, .freeCtr, .ses] [] s (State.dgOpen p g s) := by
  unfold State.dgOpen
  extract_lets v1
  clear_value v1
  refine Changes.ite ?_ ?_
  · exact Changes.refl _ _ _
  · refine Changes.ite ?_ ?_
    · refine Changes.andThen ?_ (State.dgRefuse_changes ..) (by decide) (subset_regs (by decide +kernel))
      exact Changes.refl _ _ _
    · refine Changes.ite ?_ ?_
      · refine Changes.andThen ?_ (State.dgRefuse_changes ..) (by decide) (subset_regs (by decide +kernel))
        exact Changes.refl _ _ _
      · refine Changes.ite ?_ ?_
        · refine Changes.andThen ?_ (State.dgRefuse_changes ..) (by decide) (subset_regs (by decide +kernel))
          exact Changes.refl _ _ _
        · split
          · rename_i y2 y3
            refine Changes.andThen ?_ (State.dgRefuse_changes ..) (by decide) (subset_regs (by decide +kernel))
            exact Changes.refl _ _ _
          · rename_i y4 y5 y6
            split
            rename_i y7 y8 y9 y10
            refine Changes.andThen ?_ (State.dgAnswer_changes ..) (by decide) (subset_regs (by decide +kernel))
            refine Changes.andThen ?_ (State.setSlot_changes ..) (by decide) (subset_regs (by decide +kernel))
            refine Changes.ofPair y10 ?_
            refine Changes.andThen ?_ (State.newChal_changes ..) (by decide) (subset_regs (by decide +kernel))
            exact Changes.refl _ _ _

theorem State.mbxLapse_changes (s : State) :
    Changes [.ses] [.BOOT_MBX_STATUS] s (State.mbxLapse s) := by
  unfold State.mbxLapse
  split
  · rename_i y1 y2
    exact Changes.refl _ _ _
  · rename_i y3 y4 y5
    extract_lets v6
    clear_value v6
    refine Changes.ite ?_ ?_
    · exact Changes.refl _ _ _
    · refine Changes.andThen ?_ (State.setMbxState_changes ..) (by decide) (subset_regs (by decide +kernel))
      refine Changes.ses ?_ (by decide +kernel)
      exact Changes.refl _ _ _

theorem State.setSesLevel_changes (s : State) (k : Nat) (l : Nat) :
    Changes [] [.SES_STATUS] s (State.setSesLevel s k l) := by
  unfold State.setSesLevel
  refine Changes.wr ?_ (by decide +kernel)
  exact Changes.refl _ _ _

theorem State.mbxDone_changes (s : State) (reason : Nat) :
    Changes [.outbox, .pce] [.PCE_STATUS, .PCE_CNT_MSIX_DROP, .BOOT_MBX_STATUS] s (State.mbxDone s reason) := by
  unfold State.mbxDone
  extract_lets v1
  refine Changes.cut (x := v1) ?_ (fun h2 => ?_)
  · unfold v1
    refine Changes.setFld ?_ (by decide +kernel)
    refine Changes.setFld ?_ (by decide +kernel)
    exact Changes.refl _ _ _
  clear_value v1
  refine Changes.ite ?_ ?_
  · refine Changes.andThen ?_ (State.msixReq_changes ..) (by decide) (subset_regs (by decide +kernel))
    assumption
  · assumption

theorem State.mbxProof_changes (s : State) (level : Nat) :
    Changes [.bar0, .outbox, .pce, .ses] [.PCE_STATUS, .PCE_CNT_MSIX_DROP, .BOOT_MBX_STATUS, .SES_STATUS,
      .SES_CNT_AUTH_FAIL] s (State.mbxProof s level) := by
  unfold State.mbxProof
  split
  · rename_i y1 y2
    refine Changes.andThen ?_ (State.mbxDone_changes ..) (by decide) (subset_regs (by decide +kernel))
    exact Changes.refl _ _ _
  · rename_i y3 y4 y5
    extract_lets v6 v7 v8 v9 v10
    refine Changes.cut (x := v7) ?_ (fun h11 => ?_)
    · unfold v7
      refine Changes.andThen ?_ (State.setMbxState_changes ..) (by decide) (subset_regs (by decide +kernel))
      refine Changes.ses ?_ (by decide +kernel)
      exact Changes.refl _ _ _
    refine Changes.cut (x := v9) ?_ (fun h12 => ?_)
    · unfold v9
      refine Changes.ses ?_ (by decide +kernel)
      assumption
    refine Changes.cut (x := v10) ?_ (fun h13 => ?_)
    · unfold v10
      refine Changes.ses ?_ (by decide +kernel)
      assumption
    clear_value v6
    clear_value v7
    clear_value v8
    clear_value v9
    clear_value v10
    refine Changes.ite ?_ ?_
    · refine Changes.andThen ?_ (State.mbxDone_changes ..) (by decide) (subset_regs (by decide +kernel))
      exact Changes.refl _ _ _
    · refine Changes.ite ?_ ?_
      · refine Changes.andThen ?_ (State.mbxDone_changes ..) (by decide) (subset_regs (by decide +kernel))
        refine Changes.bump ?_ (by decide +kernel)
        assumption
      · refine Changes.ite ?_ ?_
        · refine Changes.andThen ?_ (State.mbxDone_changes ..) (by decide) (subset_regs (by decide +kernel))
          assumption
        · refine Changes.andThen ?_ (State.mbxDone_changes ..) (by decide) (subset_regs (by decide +kernel))
          refine Changes.andThen ?_ (State.setMbxState_changes ..) (by decide) (subset_regs (by decide +kernel))
          refine Changes.andThen ?_ (State.setSesLevel_changes ..) (by decide) (subset_regs (by decide +kernel))
          refine Changes.andThen ?_ (State.memBytes_changes ..) (by decide) (subset_regs (by decide +kernel))
          assumption

theorem State.dgProof_changes (p : Nat) (g : Dgram) (s : State) :
    Changes [.outbox, .freeCtr, .ses] [.SES_STATUS, .SES_CNT_AUTH_FAIL] s (State.dgProof p g s) := by
  unfold State.dgProof
  refine Changes.ite ?_ ?_
  · exact Changes.refl _ _ _
  · split
    · rename_i y1 y2
      refine Changes.andThen ?_ (State.dgRefuse_changes ..) (by decide) (subset_regs (by decide +kernel))
      exact Changes.refl _ _ _
    · rename_i y3 y4 y5
      split
      · rename_i y6 y7
        exact Changes.refl _ _ _
      · rename_i y8 y9 y10
        extract_lets v11 v12 v13 v14 v15 v16
        refine Changes.cut (x := v11) ?_ (fun h17 => ?_)
        · unfold v11
          refine Changes.andThen ?_ (State.setSlot_changes ..) (by decide) (subset_regs (by decide +kernel))
          exact Changes.refl _ _ _
        refine Changes.cut (x := v13) ?_ (fun h18 => ?_)
        · unfold v13
          refine Changes.ses ?_ (by decide +kernel)
          assumption
        refine Changes.cut (x := v14) ?_ (fun h19 => ?_)
        · unfold v14
          refine Changes.andThen ?_ (State.setSlot_changes ..) (by decide) (subset_regs (by decide +kernel))
          exact Changes.refl _ _ _
        refine Changes.cut (x := v16) ?_ (fun h20 => ?_)
        · unfold v16
          refine Changes.ses ?_ (by decide +kernel)
          assumption
        clear_value v11
        clear_value v12
        clear_value v13
        clear_value v14
        clear_value v15
        clear_value v16
        refine Changes.ite ?_ ?_
        · refine Changes.andThen ?_ (State.dgRefuse_changes ..) (by decide) (subset_regs (by decide +kernel))
          refine Changes.bump ?_ (by decide +kernel)
          assumption
        · refine Changes.ite ?_ ?_
          · refine Changes.andThen ?_ (State.dgRefuse_changes ..) (by decide) (subset_regs (by decide +kernel))
            assumption
          · refine Changes.andThen ?_ (State.dgAnswer_changes ..) (by decide) (subset_regs (by decide +kernel))
            refine Changes.andThen ?_ (State.setSesLevel_changes ..) (by decide) (subset_regs (by decide +kernel))
            assumption

theorem State.slotClose_changes (s : State) (k : Nat) :
    Changes [.ses] [.SES_STATUS] s (State.slotClose s k) := by
  unfold State.slotClose
  refine Changes.andThen ?_ (State.setSesLevel_changes ..) (by decide) (subset_regs (by decide +kernel))
  refine Changes.andThen ?_ (State.setSlot_changes ..) (by decide) (subset_regs (by decide +kernel))
  exact Changes.refl _ _ _

theorem State.mbxOpen_changes (s : State) (level : Nat) :
    Changes [.bar0, .outbox, .freeCtr, .pce, .ses] [.PCE_STATUS, .PCE_CNT_MSIX_DROP, .BOOT_MBX_STATUS,
      .SES_STATUS] s (State.mbxOpen s level) := by
  unfold State.mbxOpen
  extract_lets v1 v2
  refine Changes.cut (x := v2) ?_ (fun h3 => ?_)
  · unfold v2
    refine Changes.andThen ?_ (State.closeMailbox_changes ..) (by decide) (subset_regs (by decide +kernel))
    exact Changes.refl _ _ _
  clear_value v1
  clear_value v2
  refine Changes.ite ?_ ?_
  · refine Changes.andThen ?_ (State.mbxDone_changes ..) (by decide) (subset_regs (by decide +kernel))
    exact Changes.refl _ _ _
  · refine Changes.ite ?_ ?_
    · refine Changes.andThen ?_ (State.mbxDone_changes ..) (by decide) (subset_regs (by decide +kernel))
      assumption
    · refine Changes.ite ?_ ?_
      · refine Changes.andThen ?_ (State.mbxDone_changes ..) (by decide) (subset_regs (by decide +kernel))
        assumption
      · split
        rename_i y4 y5 y6 y7
        extract_lets v8 v9
        refine Changes.cut (x := v9) ?_ (fun h10 => ?_)
        · unfold v9
          refine Changes.ses ?_ (by decide +kernel)
          refine Changes.ofPair y7 ?_
          refine Changes.andThen ?_ (State.newChal_changes ..) (by decide) (subset_regs (by decide +kernel))
          assumption
        clear_value v8
        clear_value v9
        refine Changes.andThen ?_ (State.mbxDone_changes ..) (by decide) (subset_regs (by decide +kernel))
        refine Changes.andThen ?_ (State.setMbxState_changes ..) (by decide) (subset_regs (by decide +kernel))
        refine Changes.andThen ?_ (State.memBytes_changes ..) (by decide) (subset_regs (by decide +kernel))
        assumption

end Sys2Proof.Machine
end

