-- ==== Sys2Proof/Laws/FrameAccess.lean ====
section
/-!
SUPPORT. What the operations of Machine/Access.lean may change: one lemma for each.
-/

set_option Elab.async false

namespace Sys2Proof.Machine

theorem State.plainWrite_changes (s : State) (r : Reg) (i : Nat) (j : Nat) (v : Word) :
    Changes [.staged] allRegs s (State.plainWrite s r i j v) := by
  unfold State.plainWrite
  refine Changes.ite ?_ ?_
  · refine Changes.stage ?_ (by decide +kernel)
    exact Changes.refl _ _ _
  · refine Changes.wr ?_ (mem_allRegs _)
    exact Changes.refl _ _ _

theorem State.dmaCfg_changes (s : State) (n : Nat) (v : Word) :
    Changes [.staged, .dma] allRegs s (State.dmaCfg s n v) := by
  unfold State.dmaCfg
  extract_lets v1
  clear_value v1
  refine Changes.ite ?_ ?_
  · refine Changes.andThen ?_ (State.plainWrite_changes ..) (by decide) (subset_allRegs _)
    refine Changes.andThen ?_ (State.dmaCredit_changes ..) (by decide) (subset_allRegs _)
    exact Changes.refl _ _ _
  · refine Changes.setFld ?_ (mem_allRegs _)
    exact Changes.refl _ _ _

theorem State.takeReply_changes (s : State) :
    Changes [.outbox] [] s (State.takeReply s).2 := by
  unfold State.takeReply
  split
  · rename_i y1 y2 y3
    dsimp only
    refine Changes.outbox ?_ (by decide +kernel)
    exact Changes.refl _ _ _
  · rename_i y4 y5
    dsimp only
    exact Changes.refl _ _ _

theorem State.showSupply_changes (s : State) :
    Changes [.freeCtr] [.PWR_SUPPLY] s (State.showSupply s) := by
  unfold State.showSupply
  split
  rename_i y1 y2 y3 y4
  refine Changes.setFld ?_ (by decide +kernel)
  refine Changes.ofPair y4 ?_
  refine Changes.andThen ?_ (State.freeBits_changes ..) (by decide) (subset_regs (by decide +kernel))
  exact Changes.refl _ _ _

theorem State.upToDate_changes (s : State) (r : Reg) (i : Nat) :
    Changes [.outbox, .freeCtr, .sht, .bch, .beams, .scn, .lum, .hal, .ses] (([.SHT_STATUS, .SHT_I_STATE,
      .SHT_LAST_OUT, .SHT_LAST_FRAME, .SHT_LAST_DELAY, .SHT_DELAY_MAX, .SHT_CNT_FALLBACK, .SHT_CNT_SUPERSEDED,
      .SHT_CNT_LOG_DROP, .BCH_STATUS, .SCN_STATUS, .SCN_HALT_RECORD, .SCN_HALT_OFFSET, .SCN_RECORD,
      .SCN_CNT_RECORDS, .SCN_CNT_HALT, .LUM_CH_STATUS, .HAL_CNT_QUEUE_DROP, .TIM_DOM_STATUS, .PWR_SUPPLY] : List
      Reg) ++ ([.BOOT_PROGRESS, .BOOT_MBX_STATUS] : List Reg)) s (State.upToDate s r i) := by
  unfold State.upToDate
  refine Changes.ite ?_ ?_
  · refine Changes.andThen ?_ (State.showProgress_changes ..) (by decide) (subset_regs (by decide +kernel))
    exact Changes.refl _ _ _
  · refine Changes.ite ?_ ?_
    · refine Changes.andThen ?_ (State.mbxLapse_changes ..) (by decide) (subset_regs (by decide +kernel))
      exact Changes.refl _ _ _
    · refine Changes.ite ?_ ?_
      · refine Changes.andThen ?_ (State.showSupply_changes ..) (by decide) (subset_regs (by decide +kernel))
        exact Changes.refl _ _ _
      · refine Changes.ite ?_ ?_
        · exact Changes.refl _ _ _
        · refine Changes.ite ?_ ?_
          · refine Changes.ite ?_ ?_
            · refine Changes.andThen ?_ (State.refresh_changes ..) (by decide) (subset_regs (by decide +kernel))
              exact Changes.refl _ _ _
            · exact Changes.refl _ _ _
          · refine Changes.ite ?_ ?_
            · refine Changes.andThen ?_ (State.lumGate_changes ..) (by decide) (subset_regs (by decide +kernel))
              exact Changes.refl _ _ _
            · refine Changes.ite ?_ ?_
              · refine Changes.trans ?_ (State.eachOf_changes (fun k1 s2 => ?_) _ _)
                · exact Changes.refl _ _ _
                · refine Changes.andThen ?_ (State.preMasterEnd_changes ..) (by decide) (subset_regs (by decide +kernel))
                  exact Changes.refl _ _ _
              · exact Changes.refl _ _ _

theorem State.cmpCfg_changes (s : State) (n : Nat) (v : Word) :
    Changes [.staged, .capt] allRegs s (State.cmpCfg s n v) := by
  unfold State.cmpCfg
  extract_lets v1
  refine Changes.cut (x := v1) ?_ (fun h2 => ?_)
  · unfold v1
    refine Changes.andThen ?_ (State.plainWrite_changes ..) (by decide) (subset_allRegs _)
    exact Changes.refl _ _ _
  clear_value v1
  refine Changes.ite ?_ ?_
  · refine Changes.andThen ?_ (State.cmpArm_changes ..) (by decide) (subset_allRegs _)
    assumption
  · assumption

theorem State.lumCfg_changes (s : State) (who : Requester) (n : Nat) (v : Word) :
    Changes [.staged, .outbox, .pce, .helm] allRegs s (State.lumCfg s who n v) := by
  unfold State.lumCfg
  unfold State.halyardWrite
  refine Changes.ite ?_ ?_
  · refine Changes.andThen ?_ (State.refuseHal_changes ..) (by decide) (subset_allRegs _)
    exact Changes.refl _ _ _
  · refine Changes.andThen ?_ (State.plainWrite_changes ..) (by decide) (subset_allRegs _)
    exact Changes.refl _ _ _

theorem State.lnkCtrl_changes (s : State) (n : Nat) (v : Word) :
    Changes [.outbox, .freeCtr, .lnk, .port, .cap, .mst, .hal, .dma, .ddr, .fst] [.LNK_CTRL, .LNK_STATUS,
      .LNK_PORT_STATUS, .LNK_CNT_LOCK_LOSS, .LNK_CNT_REBUILT, .LNK_CNT_PARITY_MISMATCH, .LNK_CNT_ERASED_ROWS,
      .CAP_CNT_INCOMPLETE, .CAP_CNT_OVERSIZE, .FST_RING_WP_BAND, .MST_STATUS, .MST_SPARE_USE, .MST_SPAR_STATE,
      .MST_CNT_CANCEL, .MST_CNT_INGEST_DROP, .HAL_CNT_QUEUE_DROP] s (State.lnkCtrl s n v) := by
  unfold State.lnkCtrl
  extract_lets v1 v2 v3 v4 v5
  refine Changes.cut (x := v3) ?_ (fun h6 => ?_)
  · unfold v3
    refine Changes.andThen ?_ (State.loopFollow_changes ..) (by decide) (subset_regs (by decide +kernel))
    refine Changes.andThen ?_ (State.polFollow_changes ..) (by decide) (subset_regs (by decide +kernel))
    refine Changes.wr ?_ (by decide +kernel)
    exact Changes.refl _ _ _
  refine Changes.cut (x := v4) ?_ (fun h7 => ?_)
  · unfold v4
    refine Changes.ite ?_ ?_
    · assumption
    · refine Changes.andThen ?_ (State.laneEnable_changes ..) (by decide) (subset_regs (by decide +kernel))
      assumption
  refine Changes.cut (x := v5) ?_ (fun h8 => ?_)
  · unfold v5
    refine Changes.ite ?_ ?_
    · assumption
    · refine Changes.andThen ?_ (State.deepReq_changes ..) (by decide) (subset_regs (by decide +kernel))
      assumption
  clear_value v1
  clear_value v2
  clear_value v3
  clear_value v4
  clear_value v5
  refine Changes.ite ?_ ?_
  · refine Changes.andThen ?_ (State.retrain_changes ..) (by decide) (subset_regs (by decide +kernel))
    assumption
  · assumption

theorem State.capTrig_changes (s : State) (who : Requester) (p : Nat) (v : Word) :
    Changes [.staged, .outbox, .freeCtr, .cap, .capt, .lum, .pce, .helm] allRegs s (State.capTrig s who p v) := by
  unfold State.capTrig
  extract_lets v1
  refine Changes.cut (x := v1) ?_ (fun h2 => ?_)
  · unfold v1
    refine Changes.andThen ?_ (State.plainWrite_changes ..) (by decide) (subset_allRegs _)
    exact Changes.refl _ _ _
  clear_value v1
  unfold State.halyardWrite
  refine Changes.ite ?_ ?_
  · refine Changes.andThen ?_ (State.refuseHal_changes ..) (by decide) (subset_allRegs _)
    exact Changes.refl _ _ _
  · refine Changes.ite ?_ ?_
    · refine Changes.andThen ?_ (State.trigCause_changes ..) (by decide) (subset_allRegs _)
      assumption
    · assumption

theorem State.mbxCmd_changes (s : State) (v : Word) :
    Changes [.bar0, .outbox, .freeCtr, .pceCfg, .pce, .ses] [.PCE_STATUS, .PCE_CNT_MSIX_DROP, .BOOT_MBX_STATUS,
      .SES_STATUS, .SES_CNT_AUTH_FAIL] s (State.mbxCmd s v) := by
  unfold State.mbxCmd
  split
  · rename_i y1 y2
    unfold execMbxOpen
    rw [resState_next]
    unfold State.flrGate
    extract_lets v3
    refine Changes.cut (x := v3.2) ?_ (fun h4 => ?_)
    · unfold v3
      refine Changes.andThen ?_ (State.freeBits_changes ..) (by decide) (subset_regs (by decide +kernel))
      exact Changes.refl _ _ _
    clear_value v3
    refine Changes.ite ?_ ?_
    · refine Changes.andThen ?_ (State.unsupportedReq_changes ..) (by decide) (subset_regs (by decide +kernel))
      assumption
    · refine Changes.ite ?_ ?_
      · refine Changes.andThen ?_ (State.mbxOpen_changes ..) (by decide) (subset_regs (by decide +kernel))
        exact Changes.refl _ _ _
      · exact Changes.refl _ _ _
  · rename_i y5 y6
    unfold execMbxProof
    rw [resState_next]
    unfold State.flrGate
    extract_lets v7
    refine Changes.cut (x := v7.2) ?_ (fun h8 => ?_)
    · unfold v7
      refine Changes.andThen ?_ (State.freeBits_changes ..) (by decide) (subset_regs (by decide +kernel))
      exact Changes.refl _ _ _
    clear_value v7
    refine Changes.ite ?_ ?_
    · refine Changes.andThen ?_ (State.unsupportedReq_changes ..) (by decide) (subset_regs (by decide +kernel))
      assumption
    · refine Changes.ite ?_ ?_
      · refine Changes.andThen ?_ (State.mbxProof_changes ..) (by decide) (subset_regs (by decide +kernel))
        exact Changes.refl _ _ _
      · exact Changes.refl _ _ _
  · rename_i y9 y10
    unfold execMbxClose
    rw [resState_next]
    unfold State.flrGate
    extract_lets v11
    refine Changes.cut (x := v11.2) ?_ (fun h12 => ?_)
    · unfold v11
      refine Changes.andThen ?_ (State.freeBits_changes ..) (by decide) (subset_regs (by decide +kernel))
      exact Changes.refl _ _ _
    clear_value v11
    refine Changes.ite ?_ ?_
    · refine Changes.andThen ?_ (State.unsupportedReq_changes ..) (by decide) (subset_regs (by decide +kernel))
      assumption
    · refine Changes.ite ?_ ?_
      · refine Changes.andThen ?_ (State.closeMailbox_changes ..) (by decide) (subset_regs (by decide +kernel))
        exact Changes.refl _ _ _
      · exact Changes.refl _ _ _
  · rename_i y13 y14 y15 y16
    exact Changes.refl _ _ _

theorem State.bootCmd_changes (s : State) (who : Requester) (v : Word) :
    Changes [.fuse, .staged, .outbox, .freeCtr, .cal, .pceCfg, .pce, .flash, .boot] [.PCE_STATUS,
      .PCE_CNT_PRIV_REFUSED, .PCE_CNT_MSIX_DROP, .BOOT_STATUS, .BOOT_PROGRESS, .BOOT_SVN,
      .BOOT_CNT_STAGED_DISCARD] s (State.bootCmd s who v) := by
  unfold State.bootCmd
  extract_lets v1
  clear_value v1
  refine Changes.ite ?_ ?_
  · exact Changes.refl _ _ _
  · split
    · rename_i y2 y3
      unfold execErase
      rw [resState_next]
      unfold State.bootOp
      unfold State.writeGate
      refine Changes.ite ?_ ?_
      · exact Changes.refl _ _ _
      · unfold State.gated
        unfold State.flrGate
        extract_lets v4
        refine Changes.cut (x := v4.2) ?_ (fun h5 => ?_)
        · unfold v4
          refine Changes.andThen ?_ (State.freeBits_changes ..) (by decide) (subset_regs (by decide +kernel))
          exact Changes.refl _ _ _
        clear_value v4
        refine Changes.ite ?_ ?_
        · refine Changes.andThen ?_ (State.unsupportedReq_changes ..) (by decide) (subset_regs (by decide +kernel))
          assumption
        · refine Changes.ite ?_ ?_
          · refine Changes.ite ?_ ?_
            · refine Changes.andThen ?_ (State.opResult_changes ..) (by decide) (subset_regs (by decide +kernel))
              exact Changes.refl _ _ _
            · beta_reduce
              extract_lets v6
              clear_value v6
              refine Changes.andThen ?_ (State.writeOp_changes ..) (by decide) (subset_regs (by decide +kernel))
              exact Changes.refl _ _ _
          · refine Changes.ite ?_ ?_
            · refine Changes.bump ?_ (by decide +kernel)
              exact Changes.refl _ _ _
            · exact Changes.refl _ _ _
    · rename_i y7 y8
      unfold execProgramBuf
      rw [resState_next]
      unfold State.bootOp
      unfold State.writeGate
      refine Changes.ite ?_ ?_
      · exact Changes.refl _ _ _
      · unfold State.gated
        unfold State.flrGate
        extract_lets v9
        refine Changes.cut (x := v9.2) ?_ (fun h10 => ?_)
        · unfold v9
          refine Changes.andThen ?_ (State.freeBits_changes ..) (by decide) (subset_regs (by decide +kernel))
          exact Changes.refl _ _ _
        clear_value v9
        refine Changes.ite ?_ ?_
        · refine Changes.andThen ?_ (State.unsupportedReq_changes ..) (by decide) (subset_regs (by decide +kernel))
          assumption
        · refine Changes.ite ?_ ?_
          · refine Changes.ite ?_ ?_
            · refine Changes.andThen ?_ (State.opResult_changes ..) (by decide) (subset_regs (by decide +kernel))
              exact Changes.refl _ _ _
            · beta_reduce
              extract_lets v11
              clear_value v11
              refine Changes.ite ?_ ?_
              · refine Changes.andThen ?_ (State.opResult_changes ..) (by decide) (subset_regs (by decide +kernel))
                exact Changes.refl _ _ _
              · refine Changes.andThen ?_ (State.writeOp_changes ..) (by decide) (subset_regs (by decide +kernel))
                exact Changes.refl _ _ _
          · refine Changes.ite ?_ ?_
            · refine Changes.bump ?_ (by decide +kernel)
              exact Changes.refl _ _ _
            · exact Changes.refl _ _ _
    · rename_i y12 y13
      unfold execCopyStore
      rw [resState_next]
      unfold State.bootOp
      unfold State.writeGate
      refine Changes.ite ?_ ?_
      · exact Changes.refl _ _ _
      · unfold State.gated
        unfold State.flrGate
        extract_lets v14
        refine Changes.cut (x := v14.2) ?_ (fun h15 => ?_)
        · unfold v14
          refine Changes.andThen ?_ (State.freeBits_changes ..) (by decide) (subset_regs (by decide +kernel))
          exact Changes.refl _ _ _
        clear_value v14
        refine Changes.ite ?_ ?_
        · refine Changes.andThen ?_ (State.unsupportedReq_changes ..) (by decide) (subset_regs (by decide +kernel))
          assumption
        · refine Changes.ite ?_ ?_
          · refine Changes.ite ?_ ?_
            · refine Changes.andThen ?_ (State.opResult_changes ..) (by decide) (subset_regs (by decide +kernel))
              exact Changes.refl _ _ _
            · beta_reduce
              extract_lets v16
              clear_value v16
              refine Changes.ite ?_ ?_
              · refine Changes.andThen ?_ (State.opResult_changes ..) (by decide) (subset_regs (by decide +kernel))
                exact Changes.refl _ _ _
              · refine Changes.andThen ?_ (State.writeOp_changes ..) (by decide) (subset_regs (by decide +kernel))
                exact Changes.refl _ _ _
          · refine Changes.ite ?_ ?_
            · refine Changes.bump ?_ (by decide +kernel)
              exact Changes.refl _ _ _
            · exact Changes.refl _ _ _
    · rename_i y17 y18
      unfold execVerify
      rw [resState_next]
      unfold State.bootOp
      unfold State.writeGate
      refine Changes.ite ?_ ?_
      · exact Changes.refl _ _ _
      · unfold State.gated
        unfold State.flrGate
        extract_lets v19
        refine Changes.cut (x := v19.2) ?_ (fun h20 => ?_)
        · unfold v19
          refine Changes.andThen ?_ (State.freeBits_changes ..) (by decide) (subset_regs (by decide +kernel))
          exact Changes.refl _ _ _
        clear_value v19
        refine Changes.ite ?_ ?_
        · refine Changes.andThen ?_ (State.unsupportedReq_changes ..) (by decide) (subset_regs (by decide +kernel))
          assumption
        · refine Changes.ite ?_ ?_
          · refine Changes.ite ?_ ?_
            · refine Changes.andThen ?_ (State.opResult_changes ..) (by decide) (subset_regs (by decide +kernel))
              exact Changes.refl _ _ _
            · beta_reduce
              refine Changes.ite ?_ ?_
              · refine Changes.andThen ?_ (State.opStart_changes ..) (by decide) (subset_regs (by decide +kernel))
                exact Changes.refl _ _ _
              · refine Changes.andThen ?_ (State.opResult_changes ..) (by decide) (subset_regs (by decide +kernel))
                exact Changes.refl _ _ _
          · refine Changes.ite ?_ ?_
            · refine Changes.bump ?_ (by decide +kernel)
              exact Changes.refl _ _ _
            · exact Changes.refl _ _ _
    · rename_i y21 y22
      unfold execBootSwitch
      rw [resState_next]
      unfold State.bootOp
      unfold State.writeGate
      refine Changes.ite ?_ ?_
      · exact Changes.refl _ _ _
      · unfold State.gated
        unfold State.flrGate
        extract_lets v23 v24
        refine Changes.cut (x := v23.2) ?_ (fun h25 => ?_)
        · unfold v23
          refine Changes.andThen ?_ (State.freeBits_changes ..) (by decide) (subset_regs (by decide +kernel))
          exact Changes.refl _ _ _
        clear_value v23
        clear_value v24
        refine Changes.ite ?_ ?_
        · refine Changes.andThen ?_ (State.unsupportedReq_changes ..) (by decide) (subset_regs (by decide +kernel))
          assumption
        · refine Changes.ite ?_ ?_
          · refine Changes.ite ?_ ?_
            · refine Changes.andThen ?_ (State.opResult_changes ..) (by decide) (subset_regs (by decide +kernel))
              exact Changes.refl _ _ _
            · beta_reduce
              refine Changes.ite ?_ ?_
              · refine Changes.andThen ?_ (State.opResult_changes ..) (by decide) (subset_regs (by decide +kernel))
                exact Changes.refl _ _ _
              · split
                · rename_i y26 y27
                  refine Changes.andThen ?_ (State.opResult_changes ..) (by decide) (subset_regs (by decide +kernel))
                  exact Changes.refl _ _ _
                · rename_i y28 y29 y30
                  extract_lets v31 v32 v33 v34 v35
                  refine Changes.cut (x := v31) ?_ (fun h36 => ?_)
                  · unfold v31
                    refine Changes.bumpBy ?_ (by decide +kernel)
                    exact Changes.refl _ _ _
                  refine Changes.cut (x := v33) ?_ (fun h37 => ?_)
                  · unfold v33
                    refine Changes.upd (t := v31) ?_ (by intro p hp; cases p <;> first | rfl | exact absurd (by decide +kernel) hp) rfl (fun h => ⟨h.1, h.2.1, h.2.2.1, h.2.2.2⟩)
                    assumption
                  refine Changes.cut (x := v35) ?_ (fun h38 => ?_)
                  · unfold v35
                    refine Changes.andThen ?_ (State.emitAll_changes ..) (by decide) (subset_regs (by decide +kernel))
                    refine Changes.boot ?_ (by rfl) (by decide +kernel)
                    assumption
                  clear_value v31
                  clear_value v32
                  clear_value v33
                  clear_value v35
                  refine Changes.ite ?_ ?_
                  · refine Changes.andThen ?_ (State.opResult_changes ..) (by decide) (subset_regs (by decide +kernel))
                    exact Changes.refl _ _ _
                  · refine Changes.andThen ?_ (State.opResult_changes ..) (by decide) (subset_regs (by decide +kernel))
                    refine Changes.setFld ?_ (by decide +kernel)
                    refine Changes.setFld ?_ (by decide +kernel)
                    assumption
          · refine Changes.ite ?_ ?_
            · refine Changes.bump ?_ (by decide +kernel)
              exact Changes.refl _ _ _
            · exact Changes.refl _ _ _
    · rename_i y39 y40
      unfold execCancelSwitch
      rw [resState_next]
      unfold State.bootOp
      unfold State.writeGate
      refine Changes.ite ?_ ?_
      · exact Changes.refl _ _ _
      · unfold State.gated
        unfold State.flrGate
        extract_lets v41
        refine Changes.cut (x := v41.2) ?_ (fun h42 => ?_)
        · unfold v41
          refine Changes.andThen ?_ (State.freeBits_changes ..) (by decide) (subset_regs (by decide +kernel))
          exact Changes.refl _ _ _
        clear_value v41
        refine Changes.ite ?_ ?_
        · refine Changes.andThen ?_ (State.unsupportedReq_changes ..) (by decide) (subset_regs (by decide +kernel))
          assumption
        · refine Changes.ite ?_ ?_
          · refine Changes.ite ?_ ?_
            · refine Changes.andThen ?_ (State.opResult_changes ..) (by decide) (subset_regs (by decide +kernel))
              exact Changes.refl _ _ _
            · beta_reduce
              refine Changes.andThen ?_ (State.opResult_changes ..) (by decide) (subset_regs (by decide +kernel))
              refine Changes.andThen ?_ (State.dropSwitch_changes ..) (by decide) (subset_regs (by decide +kernel))
              exact Changes.refl _ _ _
          · refine Changes.ite ?_ ?_
            · refine Changes.bump ?_ (by decide +kernel)
              exact Changes.refl _ _ _
            · exact Changes.refl _ _ _
    · rename_i y43 y44
      unfold execBurnSvn
      rw [resState_next]
      unfold State.bootOp
      unfold State.writeGate
      refine Changes.ite ?_ ?_
      · exact Changes.refl _ _ _
      · unfold State.gated
        unfold State.flrGate
        extract_lets v45
        refine Changes.cut (x := v45.2) ?_ (fun h46 => ?_)
        · unfold v45
          refine Changes.andThen ?_ (State.freeBits_changes ..) (by decide) (subset_regs (by decide +kernel))
          exact Changes.refl _ _ _
        clear_value v45
        refine Changes.ite ?_ ?_
        · refine Changes.andThen ?_ (State.unsupportedReq_changes ..) (by decide) (subset_regs (by decide +kernel))
          assumption
        · refine Changes.ite ?_ ?_
          · refine Changes.ite ?_ ?_
            · refine Changes.andThen ?_ (State.opResult_changes ..) (by decide) (subset_regs (by decide +kernel))
              exact Changes.refl _ _ _
            · beta_reduce
              extract_lets v47 v48
              clear_value v47
              clear_value v48
              refine Changes.ite ?_ ?_
              · refine Changes.andThen ?_ (State.opResult_changes ..) (by decide) (subset_regs (by decide +kernel))
                exact Changes.refl _ _ _
              · refine Changes.andThen ?_ (State.opResult_changes ..) (by decide) (subset_regs (by decide +kernel))
                refine Changes.wr ?_ (by decide +kernel)
                refine Changes.fuse ?_ (by decide +kernel)
                exact Changes.refl _ _ _
          · refine Changes.ite ?_ ?_
            · refine Changes.bump ?_ (by decide +kernel)
              exact Changes.refl _ _ _
            · exact Changes.refl _ _ _
    · rename_i y49 y50
      unfold execRetire
      rw [resState_next]
      unfold State.bootOp
      unfold State.writeGate
      refine Changes.ite ?_ ?_
      · exact Changes.refl _ _ _
      · unfold State.gated
        unfold State.flrGate
        extract_lets v51
        refine Changes.cut (x := v51.2) ?_ (fun h52 => ?_)
        · unfold v51
          refine Changes.andThen ?_ (State.freeBits_changes ..) (by decide) (subset_regs (by decide +kernel))
          exact Changes.refl _ _ _
        clear_value v51
        refine Changes.ite ?_ ?_
        · refine Changes.andThen ?_ (State.unsupportedReq_changes ..) (by decide) (subset_regs (by decide +kernel))
          assumption
        · refine Changes.ite ?_ ?_
          · refine Changes.ite ?_ ?_
            · refine Changes.andThen ?_ (State.opResult_changes ..) (by decide) (subset_regs (by decide +kernel))
              exact Changes.refl _ _ _
            · beta_reduce
              refine Changes.ite ?_ ?_
              · refine Changes.andThen ?_ (State.opStart_changes ..) (by decide) (subset_regs (by decide +kernel))
                exact Changes.refl _ _ _
              · refine Changes.andThen ?_ (State.opResult_changes ..) (by decide) (subset_regs (by decide +kernel))
                exact Changes.refl _ _ _
          · refine Changes.ite ?_ ?_
            · refine Changes.bump ?_ (by decide +kernel)
              exact Changes.refl _ _ _
            · exact Changes.refl _ _ _
    · rename_i y53 y54 y55 y56 y57 y58 y59 y60 y61
      unfold execBootReservedOp
      rw [resState_next]
      refine Changes.ite ?_ ?_
      · unfold State.writeGate
        refine Changes.ite ?_ ?_
        · exact Changes.refl _ _ _
        · unfold State.gated
          unfold State.flrGate
          extract_lets v62
          refine Changes.cut (x := v62.2) ?_ (fun h63 => ?_)
          · unfold v62
            refine Changes.andThen ?_ (State.freeBits_changes ..) (by decide) (subset_regs (by decide +kernel))
            exact Changes.refl _ _ _
          clear_value v62
          refine Changes.ite ?_ ?_
          · refine Changes.andThen ?_ (State.unsupportedReq_changes ..) (by decide) (subset_regs (by decide +kernel))
            assumption
          · refine Changes.ite ?_ ?_
            · refine Changes.andThen ?_ (State.opResult_changes ..) (by decide) (subset_regs (by decide +kernel))
              exact Changes.refl _ _ _
            · refine Changes.ite ?_ ?_
              · refine Changes.bump ?_ (by decide +kernel)
                exact Changes.refl _ _ _
              · exact Changes.refl _ _ _
      · exact Changes.refl _ _ _

theorem State.domReq_changes (s : State) (who : Requester) (v : Word) :
    Changes [.outbox, .freeCtr, .lnk, .port, .cap, .mst, .hal, .pceCfg, .pce, .dma, .ddr, .fst, .pwr]
      [.LNK_STATUS, .LNK_PORT_STATUS, .LNK_CNT_REBUILT, .LNK_CNT_PARITY_MISMATCH, .LNK_CNT_ERASED_ROWS,
      .CAP_CNT_INCOMPLETE, .CAP_CNT_OVERSIZE, .FST_RING_WP_BAND, .MST_STATUS, .MST_SPARE_USE, .MST_SPAR_STATE,
      .MST_CNT_CANCEL, .MST_CNT_INGEST_DROP, .HAL_CNT_QUEUE_DROP, .PCE_STATUS, .PCE_CNT_PRIV_REFUSED,
      .PCE_CNT_MSIX_DROP, .PWR_MODE_STATUS, .PWR_DOM_STATUS, .PWR_DOM_PENDING] s (State.domReq s who v) := by
  unfold State.domReq
  extract_lets v1
  clear_value v1
  refine Changes.ite ?_ ?_
  · exact Changes.refl _ _ _
  · refine Changes.ite ?_ ?_
    · unfold execDomainOff
      rw [resState_next]
      unfold State.writeGate
      refine Changes.ite ?_ ?_
      · exact Changes.refl _ _ _
      · unfold State.gated
        unfold State.flrGate
        extract_lets v2
        refine Changes.cut (x := v2.2) ?_ (fun h3 => ?_)
        · unfold v2
          refine Changes.andThen ?_ (State.freeBits_changes ..) (by decide) (subset_regs (by decide +kernel))
          exact Changes.refl _ _ _
        clear_value v2
        refine Changes.ite ?_ ?_
        · refine Changes.andThen ?_ (State.unsupportedReq_changes ..) (by decide) (subset_regs (by decide +kernel))
          assumption
        · refine Changes.ite ?_ ?_
          · refine Changes.andThen ?_ (State.domCmd_changes ..) (by decide) (subset_regs (by decide +kernel))
            exact Changes.refl _ _ _
          · refine Changes.ite ?_ ?_
            · refine Changes.bump ?_ (by decide +kernel)
              exact Changes.refl _ _ _
            · exact Changes.refl _ _ _
    · refine Changes.ite ?_ ?_
      · unfold execDomainOn
        rw [resState_next]
        unfold State.writeGate
        refine Changes.ite ?_ ?_
        · exact Changes.refl _ _ _
        · unfold State.gated
          unfold State.flrGate
          extract_lets v4
          refine Changes.cut (x := v4.2) ?_ (fun h5 => ?_)
          · unfold v4
            refine Changes.andThen ?_ (State.freeBits_changes ..) (by decide) (subset_regs (by decide +kernel))
            exact Changes.refl _ _ _
          clear_value v4
          refine Changes.ite ?_ ?_
          · refine Changes.andThen ?_ (State.unsupportedReq_changes ..) (by decide) (subset_regs (by decide +kernel))
            assumption
          · refine Changes.ite ?_ ?_
            · refine Changes.andThen ?_ (State.domCmd_changes ..) (by decide) (subset_regs (by decide +kernel))
              exact Changes.refl _ _ _
            · refine Changes.ite ?_ ?_
              · refine Changes.bump ?_ (by decide +kernel)
                exact Changes.refl _ _ _
              · exact Changes.refl _ _ _
      · refine Changes.ite ?_ ?_
        · unfold State.writeGate
          refine Changes.ite ?_ ?_
          · exact Changes.refl _ _ _
          · unfold State.gated
            unfold State.flrGate
            extract_lets v6
            refine Changes.cut (x := v6.2) ?_ (fun h7 => ?_)
            · unfold v6
              refine Changes.andThen ?_ (State.freeBits_changes ..) (by decide) (subset_regs (by decide +kernel))
              exact Changes.refl _ _ _
            clear_value v6
            refine Changes.ite ?_ ?_
            · refine Changes.andThen ?_ (State.unsupportedReq_changes ..) (by decide) (subset_regs (by decide +kernel))
              assumption
            · refine Changes.ite ?_ ?_
              · refine Changes.setFld ?_ (by decide +kernel)
                exact Changes.refl _ _ _
              · refine Changes.ite ?_ ?_
                · refine Changes.bump ?_ (by decide +kernel)
                  exact Changes.refl _ _ _
                · exact Changes.refl _ _ _
        · exact Changes.refl _ _ _

theorem State.modeReq_changes (s : State) (who : Requester) (v : Word) :
    Changes (([.bar0, .staged, .outbox, .freeCtr, .lnk, .port, .cap, .capt, .mst, .sht, .bch, .beams, .scn, .cal,
      .lum, .proj, .hal, .pceCfg, .pce, .dma] : List Part) ++ ([.ddr, .fst, .boot, .tim, .helm, .pwr] : List
      Part)) allRegs s (State.modeReq s who v) := by
  unfold State.modeReq
  refine Changes.ite ?_ ?_
  · exact Changes.refl _ _ _
  · split
    · rename_i y1 y2
      unfold execRequestIdle
      rw [resState_next]
      unfold State.withMet
      split
      · rename_i y3 y4
        beta_reduce
        unfold State.modeRequest
        refine Changes.ite ?_ ?_
        · exact Changes.refl _ _ _
        · refine Changes.ite ?_ ?_
          · refine Changes.andThen ?_ (State.refuseMode_changes ..) (by decide) (subset_allRegs _)
            refine Changes.ite ?_ ?_
            · refine Changes.bump ?_ (mem_allRegs _)
              exact Changes.refl _ _ _
            · exact Changes.refl _ _ _
          · refine Changes.ite ?_ ?_
            · exact Changes.refl _ _ _
            · refine Changes.ite ?_ ?_
              · refine Changes.andThen ?_ (State.refuseMode_changes ..) (by decide) (subset_allRegs _)
                exact Changes.refl _ _ _
              · beta_reduce
                refine Changes.ite ?_ ?_
                · refine Changes.andThen ?_ (State.refuseMode_changes ..) (by decide) (subset_allRegs _)
                  exact Changes.refl _ _ _
                · refine Changes.ite ?_ ?_
                  · refine Changes.andThen ?_ (State.toIdle_changes ..) (by decide) (subset_allRegs _)
                    exact Changes.refl _ _ _
                  · refine Changes.ite ?_ ?_
                    · refine Changes.andThen ?_ (State.toIdle_changes ..) (by decide) (subset_allRegs _)
                      refine Changes.andThen ?_ (State.buildToAcquire_changes ..) (by decide) (subset_allRegs _)
                      refine Changes.andThen ?_ (State.beginTrans_changes ..) (by decide) (subset_allRegs _)
                      exact Changes.refl _ _ _
                    · refine Changes.ite ?_ ?_
                      · refine Changes.andThen ?_ (State.toIdle_changes ..) (by decide) (subset_allRegs _)
                        refine Changes.andThen ?_ (State.leaveService_changes ..) (by decide) (subset_allRegs _)
                        exact Changes.refl _ _ _
                      · refine Changes.andThen ?_ (State.refuseMode_changes ..) (by decide) (subset_allRegs _)
                        exact Changes.refl _ _ _
      · rename_i y5 y6 y7
        beta_reduce
        unfold State.modeRequest
        refine Changes.ite ?_ ?_
        · refine Changes.andThen ?_ (State.boundary_changes ..) (by decide) (subset_allRegs _)
          exact Changes.refl _ _ _
        · refine Changes.ite ?_ ?_
          · refine Changes.andThen ?_ (State.refuseMode_changes ..) (by decide) (subset_allRegs _)
            refine Changes.ite ?_ ?_
            · refine Changes.bump ?_ (mem_allRegs _)
              refine Changes.andThen ?_ (State.boundary_changes ..) (by decide) (subset_allRegs _)
              exact Changes.refl _ _ _
            · refine Changes.andThen ?_ (State.boundary_changes ..) (by decide) (subset_allRegs _)
              exact Changes.refl _ _ _
          · refine Changes.ite ?_ ?_
            · refine Changes.andThen ?_ (State.boundary_changes ..) (by decide) (subset_allRegs _)
              exact Changes.refl _ _ _
            · refine Changes.ite ?_ ?_
              · refine Changes.andThen ?_ (State.refuseMode_changes ..) (by decide) (subset_allRegs _)
                refine Changes.andThen ?_ (State.boundary_changes ..) (by decide) (subset_allRegs _)
                exact Changes.refl _ _ _
              · beta_reduce
                refine Changes.ite ?_ ?_
                · refine Changes.andThen ?_ (State.refuseMode_changes ..) (by decide) (subset_allRegs _)
                  refine Changes.andThen ?_ (State.boundary_changes ..) (by decide) (subset_allRegs _)
                  exact Changes.refl _ _ _
                · refine Changes.ite ?_ ?_
                  · refine Changes.andThen ?_ (State.toIdle_changes ..) (by decide) (subset_allRegs _)
                    refine Changes.andThen ?_ (State.boundary_changes ..) (by decide) (subset_allRegs _)
                    exact Changes.refl _ _ _
                  · refine Changes.ite ?_ ?_
                    · refine Changes.andThen ?_ (State.toIdle_changes ..) (by decide) (subset_allRegs _)
                      refine Changes.andThen ?_ (State.buildToAcquire_changes ..) (by decide) (subset_allRegs _)
                      refine Changes.andThen ?_ (State.beginTrans_changes ..) (by decide) (subset_allRegs _)
                      refine Changes.andThen ?_ (State.boundary_changes ..) (by decide) (subset_allRegs _)
                      exact Changes.refl _ _ _
                    · refine Changes.ite ?_ ?_
                      · refine Changes.andThen ?_ (State.toIdle_changes ..) (by decide) (subset_allRegs _)
                        refine Changes.andThen ?_ (State.leaveService_changes ..) (by decide) (subset_allRegs _)
                        refine Changes.andThen ?_ (State.boundary_changes ..) (by decide) (subset_allRegs _)
                        exact Changes.refl _ _ _
                      · refine Changes.andThen ?_ (State.refuseMode_changes ..) (by decide) (subset_allRegs _)
                        refine Changes.andThen ?_ (State.boundary_changes ..) (by decide) (subset_allRegs _)
                        exact Changes.refl _ _ _
      · rename_i y8 y9 y10
        refine Changes.andThen ?_ (State.warnAt_changes ..) (by decide) (subset_allRegs _)
        beta_reduce
        unfold State.modeRequest
        refine Changes.ite ?_ ?_
        · exact Changes.refl _ _ _
        · refine Changes.ite ?_ ?_
          · refine Changes.andThen ?_ (State.refuseMode_changes ..) (by decide) (subset_allRegs _)
            refine Changes.ite ?_ ?_
            · refine Changes.bump ?_ (mem_allRegs _)
              exact Changes.refl _ _ _
            · exact Changes.refl _ _ _
          · refine Changes.ite ?_ ?_
            · exact Changes.refl _ _ _
            · refine Changes.ite ?_ ?_
              · refine Changes.andThen ?_ (State.refuseMode_changes ..) (by decide) (subset_allRegs _)
                exact Changes.refl _ _ _
              · beta_reduce
                refine Changes.ite ?_ ?_
                · refine Changes.andThen ?_ (State.refuseMode_changes ..) (by decide) (subset_allRegs _)
                  exact Changes.refl _ _ _
                · refine Changes.ite ?_ ?_
                  · refine Changes.andThen ?_ (State.toIdle_changes ..) (by decide) (subset_allRegs _)
                    exact Changes.refl _ _ _
                  · refine Changes.ite ?_ ?_
                    · refine Changes.andThen ?_ (State.toIdle_changes ..) (by decide) (subset_allRegs _)
                      refine Changes.andThen ?_ (State.buildToAcquire_changes ..) (by decide) (subset_allRegs _)
                      refine Changes.andThen ?_ (State.beginTrans_changes ..) (by decide) (subset_allRegs _)
                      exact Changes.refl _ _ _
                    · refine Changes.ite ?_ ?_
                      · refine Changes.andThen ?_ (State.toIdle_changes ..) (by decide) (subset_allRegs _)
                        refine Changes.andThen ?_ (State.leaveService_changes ..) (by decide) (subset_allRegs _)
                        exact Changes.refl _ _ _
                      · refine Changes.andThen ?_ (State.refuseMode_changes ..) (by decide) (subset_allRegs _)
                        exact Changes.refl _ _ _
    · rename_i y11 y12
      unfold execRequestAcquire
      rw [resState_next]
      unfold State.withMet
      split
      · rename_i y13 y14
        beta_reduce
        unfold State.modeRequest
        refine Changes.ite ?_ ?_
        · exact Changes.refl _ _ _
        · refine Changes.ite ?_ ?_
          · refine Changes.andThen ?_ (State.refuseMode_changes ..) (by decide) (subset_allRegs _)
            refine Changes.ite ?_ ?_
            · refine Changes.bump ?_ (mem_allRegs _)
              exact Changes.refl _ _ _
            · exact Changes.refl _ _ _
          · refine Changes.ite ?_ ?_
            · exact Changes.refl _ _ _
            · refine Changes.ite ?_ ?_
              · refine Changes.andThen ?_ (State.refuseMode_changes ..) (by decide) (subset_allRegs _)
                exact Changes.refl _ _ _
              · beta_reduce
                refine Changes.ite ?_ ?_
                · refine Changes.andThen ?_ (State.leaveIdle_changes ..) (by decide) (subset_allRegs _)
                  exact Changes.refl _ _ _
                · refine Changes.ite ?_ ?_
                  · refine Changes.andThen ?_ (State.buildToAcquire_changes ..) (by decide) (subset_allRegs _)
                    exact Changes.refl _ _ _
                  · refine Changes.ite ?_ ?_
                    · refine Changes.andThen ?_ (State.setMode_changes ..) (by decide) (subset_allRegs _)
                      refine Changes.andThen ?_ (State.leaveService_changes ..) (by decide) (subset_allRegs _)
                      exact Changes.refl _ _ _
                    · refine Changes.andThen ?_ (State.refuseMode_changes ..) (by decide) (subset_allRegs _)
                      exact Changes.refl _ _ _
      · rename_i y15 y16 y17
        beta_reduce
        unfold State.modeRequest
        refine Changes.ite ?_ ?_
        · refine Changes.andThen ?_ (State.boundary_changes ..) (by decide) (subset_allRegs _)
          exact Changes.refl _ _ _
        · refine Changes.ite ?_ ?_
          · refine Changes.andThen ?_ (State.refuseMode_changes ..) (by decide) (subset_allRegs _)
            refine Changes.ite ?_ ?_
            · refine Changes.bump ?_ (mem_allRegs _)
              refine Changes.andThen ?_ (State.boundary_changes ..) (by decide) (subset_allRegs _)
              exact Changes.refl _ _ _
            · refine Changes.andThen ?_ (State.boundary_changes ..) (by decide) (subset_allRegs _)
              exact Changes.refl _ _ _
          · refine Changes.ite ?_ ?_
            · refine Changes.andThen ?_ (State.boundary_changes ..) (by decide) (subset_allRegs _)
              exact Changes.refl _ _ _
            · refine Changes.ite ?_ ?_
              · refine Changes.andThen ?_ (State.refuseMode_changes ..) (by decide) (subset_allRegs _)
                refine Changes.andThen ?_ (State.boundary_changes ..) (by decide) (subset_allRegs _)
                exact Changes.refl _ _ _
              · beta_reduce
                refine Changes.ite ?_ ?_
                · refine Changes.andThen ?_ (State.leaveIdle_changes ..) (by decide) (subset_allRegs _)
                  refine Changes.andThen ?_ (State.boundary_changes ..) (by decide) (subset_allRegs _)
                  exact Changes.refl _ _ _
                · refine Changes.ite ?_ ?_
                  · refine Changes.andThen ?_ (State.buildToAcquire_changes ..) (by decide) (subset_allRegs _)
                    refine Changes.andThen ?_ (State.boundary_changes ..) (by decide) (subset_allRegs _)
                    exact Changes.refl _ _ _
                  · refine Changes.ite ?_ ?_
                    · refine Changes.andThen ?_ (State.setMode_changes ..) (by decide) (subset_allRegs _)
                      refine Changes.andThen ?_ (State.leaveService_changes ..) (by decide) (subset_allRegs _)
                      refine Changes.andThen ?_ (State.boundary_changes ..) (by decide) (subset_allRegs _)
                      exact Changes.refl _ _ _
                    · refine Changes.andThen ?_ (State.refuseMode_changes ..) (by decide) (subset_allRegs _)
                      refine Changes.andThen ?_ (State.boundary_changes ..) (by decide) (subset_allRegs _)
                      exact Changes.refl _ _ _
      · rename_i y18 y19 y20
        refine Changes.andThen ?_ (State.warnAt_changes ..) (by decide) (subset_allRegs _)
        beta_reduce
        unfold State.modeRequest
        refine Changes.ite ?_ ?_
        · exact Changes.refl _ _ _
        · refine Changes.ite ?_ ?_
          · refine Changes.andThen ?_ (State.refuseMode_changes ..) (by decide) (subset_allRegs _)
            refine Changes.ite ?_ ?_
            · refine Changes.bump ?_ (mem_allRegs _)
              exact Changes.refl _ _ _
            · exact Changes.refl _ _ _
          · refine Changes.ite ?_ ?_
            · exact Changes.refl _ _ _
            · refine Changes.ite ?_ ?_
              · refine Changes.andThen ?_ (State.refuseMode_changes ..) (by decide) (subset_allRegs _)
                exact Changes.refl _ _ _
              · beta_reduce
                refine Changes.ite ?_ ?_
                · refine Changes.andThen ?_ (State.leaveIdle_changes ..) (by decide) (subset_allRegs _)
                  exact Changes.refl _ _ _
                · refine Changes.ite ?_ ?_
                  · refine Changes.andThen ?_ (State.buildToAcquire_changes ..) (by decide) (subset_allRegs _)
                    exact Changes.refl _ _ _
                  · refine Changes.ite ?_ ?_
                    · refine Changes.andThen ?_ (State.setMode_changes ..) (by decide) (subset_allRegs _)
                      refine Changes.andThen ?_ (State.leaveService_changes ..) (by decide) (subset_allRegs _)
                      exact Changes.refl _ _ _
                    · refine Changes.andThen ?_ (State.refuseMode_changes ..) (by decide) (subset_allRegs _)
                      exact Changes.refl _ _ _
    · rename_i y21 y22
      unfold execRequestBuild
      rw [resState_next]
      unfold State.withMet
      split
      · rename_i y23 y24
        beta_reduce
        unfold State.modeRequest
        refine Changes.ite ?_ ?_
        · exact Changes.refl _ _ _
        · refine Changes.ite ?_ ?_
          · refine Changes.andThen ?_ (State.refuseMode_changes ..) (by decide) (subset_allRegs _)
            refine Changes.ite ?_ ?_
            · refine Changes.bump ?_ (mem_allRegs _)
              exact Changes.refl _ _ _
            · exact Changes.refl _ _ _
          · refine Changes.ite ?_ ?_
            · exact Changes.refl _ _ _
            · refine Changes.ite ?_ ?_
              · refine Changes.andThen ?_ (State.refuseMode_changes ..) (by decide) (subset_allRegs _)
                exact Changes.refl _ _ _
              · beta_reduce
                refine Changes.ite ?_ ?_
                · split
                  · rename_i y25 y26 y27
                    refine Changes.andThen ?_ (State.refuseMode_changes ..) (by decide) (subset_allRegs _)
                    exact Changes.refl _ _ _
                  · rename_i y28 y29
                    refine Changes.andThen ?_ (State.setMode_changes ..) (by decide) (subset_allRegs _)
                    refine Changes.ite ?_ ?_
                    · refine Changes.andThen ?_ (State.leaveService_changes ..) (by decide) (subset_allRegs _)
                      exact Changes.refl _ _ _
                    · exact Changes.refl _ _ _
                · refine Changes.andThen ?_ (State.refuseMode_changes ..) (by decide) (subset_allRegs _)
                  exact Changes.refl _ _ _
      · rename_i y30 y31 y32
        beta_reduce
        unfold State.modeRequest
        refine Changes.ite ?_ ?_
        · refine Changes.andThen ?_ (State.boundary_changes ..) (by decide) (subset_allRegs _)
          exact Changes.refl _ _ _
        · refine Changes.ite ?_ ?_
          · refine Changes.andThen ?_ (State.refuseMode_changes ..) (by decide) (subset_allRegs _)
            refine Changes.ite ?_ ?_
            · refine Changes.bump ?_ (mem_allRegs _)
              refine Changes.andThen ?_ (State.boundary_changes ..) (by decide) (subset_allRegs _)
              exact Changes.refl _ _ _
            · refine Changes.andThen ?_ (State.boundary_changes ..) (by decide) (subset_allRegs _)
              exact Changes.refl _ _ _
          · refine Changes.ite ?_ ?_
            · refine Changes.andThen ?_ (State.boundary_changes ..) (by decide) (subset_allRegs _)
              exact Changes.refl _ _ _
            · refine Changes.ite ?_ ?_
              · refine Changes.andThen ?_ (State.refuseMode_changes ..) (by decide) (subset_allRegs _)
                refine Changes.andThen ?_ (State.boundary_changes ..) (by decide) (subset_allRegs _)
                exact Changes.refl _ _ _
              · beta_reduce
                refine Changes.ite ?_ ?_
                · split
                  · rename_i y33 y34 y35
                    refine Changes.andThen ?_ (State.refuseMode_changes ..) (by decide) (subset_allRegs _)
                    refine Changes.andThen ?_ (State.boundary_changes ..) (by decide) (subset_allRegs _)
                    exact Changes.refl _ _ _
                  · rename_i y36 y37
                    refine Changes.andThen ?_ (State.setMode_changes ..) (by decide) (subset_allRegs _)
                    refine Changes.ite ?_ ?_
                    · refine Changes.andThen ?_ (State.leaveService_changes ..) (by decide) (subset_allRegs _)
                      refine Changes.andThen ?_ (State.boundary_changes ..) (by decide) (subset_allRegs _)
                      exact Changes.refl _ _ _
                    · refine Changes.andThen ?_ (State.boundary_changes ..) (by decide) (subset_allRegs _)
                      exact Changes.refl _ _ _
                · refine Changes.andThen ?_ (State.refuseMode_changes ..) (by decide) (subset_allRegs _)
                  refine Changes.andThen ?_ (State.boundary_changes ..) (by decide) (subset_allRegs _)
                  exact Changes.refl _ _ _
      · rename_i y38 y39 y40
        refine Changes.andThen ?_ (State.warnAt_changes ..) (by decide) (subset_allRegs _)
        beta_reduce
        unfold State.modeRequest
        refine Changes.ite ?_ ?_
        · exact Changes.refl _ _ _
        · refine Changes.ite ?_ ?_
          · refine Changes.andThen ?_ (State.refuseMode_changes ..) (by decide) (subset_allRegs _)
            refine Changes.ite ?_ ?_
            · refine Changes.bump ?_ (mem_allRegs _)
              exact Changes.refl _ _ _
            · exact Changes.refl _ _ _
          · refine Changes.ite ?_ ?_
            · exact Changes.refl _ _ _
            · refine Changes.ite ?_ ?_
              · refine Changes.andThen ?_ (State.refuseMode_changes ..) (by decide) (subset_allRegs _)
                exact Changes.refl _ _ _
              · beta_reduce
                refine Changes.ite ?_ ?_
                · split
                  · rename_i y41 y42 y43
                    refine Changes.andThen ?_ (State.refuseMode_changes ..) (by decide) (subset_allRegs _)
                    exact Changes.refl _ _ _
                  · rename_i y44 y45
                    refine Changes.andThen ?_ (State.setMode_changes ..) (by decide) (subset_allRegs _)
                    refine Changes.ite ?_ ?_
                    · refine Changes.andThen ?_ (State.leaveService_changes ..) (by decide) (subset_allRegs _)
                      exact Changes.refl _ _ _
                    · exact Changes.refl _ _ _
                · refine Changes.andThen ?_ (State.refuseMode_changes ..) (by decide) (subset_allRegs _)
                  exact Changes.refl _ _ _
    · rename_i y46 y47
      unfold execRequestService
      rw [resState_next]
      unfold State.withMet
      split
      · rename_i y48 y49
        beta_reduce
        unfold State.modeRequest
        refine Changes.ite ?_ ?_
        · exact Changes.refl _ _ _
        · refine Changes.ite ?_ ?_
          · refine Changes.andThen ?_ (State.refuseMode_changes ..) (by decide) (subset_allRegs _)
            refine Changes.ite ?_ ?_
            · refine Changes.bump ?_ (mem_allRegs _)
              exact Changes.refl _ _ _
            · exact Changes.refl _ _ _
          · refine Changes.ite ?_ ?_
            · exact Changes.refl _ _ _
            · refine Changes.ite ?_ ?_
              · refine Changes.andThen ?_ (State.refuseMode_changes ..) (by decide) (subset_allRegs _)
                exact Changes.refl _ _ _
              · beta_reduce
                refine Changes.ite ?_ ?_
                · refine Changes.andThen ?_ (State.refuseMode_changes ..) (by decide) (subset_allRegs _)
                  exact Changes.refl _ _ _
                · refine Changes.ite ?_ ?_
                  · refine Changes.andThen ?_ (State.leaveIdle_changes ..) (by decide) (subset_allRegs _)
                    exact Changes.refl _ _ _
                  · refine Changes.ite ?_ ?_
                    · refine Changes.andThen ?_ (State.lanesPatterns_changes ..) (by decide) (subset_allRegs _)
                      refine Changes.andThen ?_ (State.setMode_changes ..) (by decide) (subset_allRegs _)
                      exact Changes.refl _ _ _
                    · refine Changes.ite ?_ ?_
                      · refine Changes.andThen ?_ (State.buildToAcquire_changes ..) (by decide) (subset_allRegs _)
                        refine Changes.andThen ?_ (State.beginTrans_changes ..) (by decide) (subset_allRegs _)
                        exact Changes.refl _ _ _
                      · refine Changes.andThen ?_ (State.refuseMode_changes ..) (by decide) (subset_allRegs _)
                        exact Changes.refl _ _ _
      · rename_i y50 y51 y52
        beta_reduce
        unfold State.modeRequest
        refine Changes.ite ?_ ?_
        · refine Changes.andThen ?_ (State.boundary_changes ..) (by decide) (subset_allRegs _)
          exact Changes.refl _ _ _
        · refine Changes.ite ?_ ?_
          · refine Changes.andThen ?_ (State.refuseMode_changes ..) (by decide) (subset_allRegs _)
            refine Changes.ite ?_ ?_
            · refine Changes.bump ?_ (mem_allRegs _)
              refine Changes.andThen ?_ (State.boundary_changes ..) (by decide) (subset_allRegs _)
              exact Changes.refl _ _ _
            · refine Changes.andThen ?_ (State.boundary_changes ..) (by decide) (subset_allRegs _)
              exact Changes.refl _ _ _
          · refine Changes.ite ?_ ?_
            · refine Changes.andThen ?_ (State.boundary_changes ..) (by decide) (subset_allRegs _)
              exact Changes.refl _ _ _
            · refine Changes.ite ?_ ?_
              · refine Changes.andThen ?_ (State.refuseMode_changes ..) (by decide) (subset_allRegs _)
                refine Changes.andThen ?_ (State.boundary_changes ..) (by decide) (subset_allRegs _)
                exact Changes.refl _ _ _
              · beta_reduce
                refine Changes.ite ?_ ?_
                · refine Changes.andThen ?_ (State.refuseMode_changes ..) (by decide) (subset_allRegs _)
                  refine Changes.andThen ?_ (State.boundary_changes ..) (by decide) (subset_allRegs _)
                  exact Changes.refl _ _ _
                · refine Changes.ite ?_ ?_
                  · refine Changes.andThen ?_ (State.leaveIdle_changes ..) (by decide) (subset_allRegs _)
                    refine Changes.andThen ?_ (State.boundary_changes ..) (by decide) (subset_allRegs _)
                    exact Changes.refl _ _ _
                  · refine Changes.ite ?_ ?_
                    · refine Changes.andThen ?_ (State.lanesPatterns_changes ..) (by decide) (subset_allRegs _)
                      refine Changes.andThen ?_ (State.setMode_changes ..) (by decide) (subset_allRegs _)
                      refine Changes.andThen ?_ (State.boundary_changes ..) (by decide) (subset_allRegs _)
                      exact Changes.refl _ _ _
                    · refine Changes.ite ?_ ?_
                      · refine Changes.andThen ?_ (State.buildToAcquire_changes ..) (by decide) (subset_allRegs _)
                        refine Changes.andThen ?_ (State.beginTrans_changes ..) (by decide) (subset_allRegs _)
                        refine Changes.andThen ?_ (State.boundary_changes ..) (by decide) (subset_allRegs _)
                        exact Changes.refl _ _ _
                      · refine Changes.andThen ?_ (State.refuseMode_changes ..) (by decide) (subset_allRegs _)
                        refine Changes.andThen ?_ (State.boundary_changes ..) (by decide) (subset_allRegs _)
                        exact Changes.refl _ _ _
      · rename_i y53 y54 y55
        refine Changes.andThen ?_ (State.warnAt_changes ..) (by decide) (subset_allRegs _)
        beta_reduce
        unfold State.modeRequest
        refine Changes.ite ?_ ?_
        · exact Changes.refl _ _ _
        · refine Changes.ite ?_ ?_
          · refine Changes.andThen ?_ (State.refuseMode_changes ..) (by decide) (subset_allRegs _)
            refine Changes.ite ?_ ?_
            · refine Changes.bump ?_ (mem_allRegs _)
              exact Changes.refl _ _ _
            · exact Changes.refl _ _ _
          · refine Changes.ite ?_ ?_
            · exact Changes.refl _ _ _
            · refine Changes.ite ?_ ?_
              · refine Changes.andThen ?_ (State.refuseMode_changes ..) (by decide) (subset_allRegs _)
                exact Changes.refl _ _ _
              · beta_reduce
                refine Changes.ite ?_ ?_
                · refine Changes.andThen ?_ (State.refuseMode_changes ..) (by decide) (subset_allRegs _)
                  exact Changes.refl _ _ _
                · refine Changes.ite ?_ ?_
                  · refine Changes.andThen ?_ (State.leaveIdle_changes ..) (by decide) (subset_allRegs _)
                    exact Changes.refl _ _ _
                  · refine Changes.ite ?_ ?_
                    · refine Changes.andThen ?_ (State.lanesPatterns_changes ..) (by decide) (subset_allRegs _)
                      refine Changes.andThen ?_ (State.setMode_changes ..) (by decide) (subset_allRegs _)
                      exact Changes.refl _ _ _
                    · refine Changes.ite ?_ ?_
                      · refine Changes.andThen ?_ (State.buildToAcquire_changes ..) (by decide) (subset_allRegs _)
                        refine Changes.andThen ?_ (State.beginTrans_changes ..) (by decide) (subset_allRegs _)
                        exact Changes.refl _ _ _
                      · refine Changes.andThen ?_ (State.refuseMode_changes ..) (by decide) (subset_allRegs _)
                        exact Changes.refl _ _ _
    · rename_i y56 y57 y58 y59 y60
      unfold execRequestInvalidMode
      rw [resState_next]
      refine Changes.ite ?_ ?_
      · exact Changes.refl _ _ _
      · refine Changes.ite ?_ ?_
        · exact Changes.refl _ _ _
        · refine Changes.ite ?_ ?_
          · refine Changes.andThen ?_ (State.refuseMode_changes ..) (by decide) (subset_allRegs _)
            refine Changes.ite ?_ ?_
            · refine Changes.bump ?_ (mem_allRegs _)
              exact Changes.refl _ _ _
            · exact Changes.refl _ _ _
          · refine Changes.andThen ?_ (State.refuseMode_changes ..) (by decide) (subset_allRegs _)
            exact Changes.refl _ _ _

theorem State.timCmd_changes (s : State) (who : Requester) (v : Word) :
    Changes [.fine, .outbox, .freeCtr, .cap, .capt, .lum, .hal, .pceCfg, .pce, .tim] [.CAP_PORT_FLAGS,
      .CAP_CNT_TRIG_MERGED, .CAP_CNT_TRIG_HOLDOFF, .CAP_CNT_TRIG_DROP, .LUM_CH_STATUS, .LUM_CNT_OVERLAP,
      .LUM_CNT_DIAG_ABORT, .HAL_CNT_QUEUE_DROP, .PCE_STATUS, .PCE_CNT_PRIV_REFUSED, .PCE_CNT_MSIX_DROP,
      .TIM_STATUS, .TIM_FREQ, .TIM_LAST_STEP, .TIM_DOM_STATUS, .TIM_SCH_STATUS] s (State.timCmd s who v) := by
  unfold State.timCmd
  extract_lets v1
  refine Changes.cut (x := v1) ?_ (fun h2 => ?_)
  · unfold v1
    unfold State.onBit
    refine Changes.ite ?_ ?_
    · beta_reduce
      unfold execTimeStep
      rw [resState_next]
      unfold State.writeGate
      refine Changes.ite ?_ ?_
      · exact Changes.refl _ _ _
      · unfold State.gated
        unfold State.flrGate
        extract_lets v3
        refine Changes.cut (x := v3.2) ?_ (fun h4 => ?_)
        · unfold v3
          refine Changes.andThen ?_ (State.freeBits_changes ..) (by decide) (subset_regs (by decide +kernel))
          exact Changes.refl _ _ _
        clear_value v3
        refine Changes.ite ?_ ?_
        · refine Changes.andThen ?_ (State.unsupportedReq_changes ..) (by decide) (subset_regs (by decide +kernel))
          assumption
        · refine Changes.ite ?_ ?_
          · refine Changes.andThen ?_ (State.timStep_changes ..) (by decide) (subset_regs (by decide +kernel))
            exact Changes.refl _ _ _
          · refine Changes.ite ?_ ?_
            · refine Changes.bump ?_ (by decide +kernel)
              exact Changes.refl _ _ _
            · exact Changes.refl _ _ _
    · exact Changes.refl _ _ _
  clear_value v1
  unfold State.onBit
  refine Changes.ite ?_ ?_
  · beta_reduce
    unfold execTimSwitch
    rw [resState_next]
    unfold State.writeGate
    refine Changes.ite ?_ ?_
    · assumption
    · unfold State.gated
      unfold State.flrGate
      extract_lets v5
      refine Changes.cut (x := v5.2) ?_ (fun h6 => ?_)
      · unfold v5
        refine Changes.andThen ?_ (State.freeBits_changes ..) (by decide) (subset_regs (by decide +kernel))
        assumption
      clear_value v5
      refine Changes.ite ?_ ?_
      · refine Changes.andThen ?_ (State.unsupportedReq_changes ..) (by decide) (subset_regs (by decide +kernel))
        assumption
      · refine Changes.ite ?_ ?_
        · refine Changes.andThen ?_ (State.timSwitch_changes ..) (by decide) (subset_regs (by decide +kernel))
          assumption
        · refine Changes.ite ?_ ?_
          · refine Changes.bump ?_ (by decide +kernel)
            assumption
          · assumption
  · assumption

theorem State.queCmd_changes (s : State) (who : Requester) (i : Nat) (v : Word) :
    Changes [.outbox, .freeCtr, .pceCfg, .pce, .que, .helm] [.PCE_STATUS, .PCE_CNT_PRIV_REFUSED,
      .PCE_CNT_MSIX_DROP, .QUE_STATUS, .QUE_CNT_LOST, .QUE_CNT_PTR_ERR, .HLM_CNT_NOTICE_DROP, .PWR_FAULT_SUMMARY]
      s (State.queCmd s who i v) := by
  unfold State.queCmd
  extract_lets v1
  clear_value v1
  refine Changes.ite ?_ ?_
  · unfold execQueueFlush
    extract_lets v2
    refine Changes.cut (x := v2) ?_ (fun h3 => ?_)
    · unfold v2
      refine Changes.andThen ?_ (State.quePtrCheck_changes ..) (by decide) (subset_regs (by decide +kernel))
      exact Changes.refl _ _ _
    clear_value v2
    rw [resState_next]
    unfold State.writeGate
    refine Changes.ite ?_ ?_
    · exact Changes.refl _ _ _
    · unfold State.gated
      unfold State.flrGate
      extract_lets v4
      refine Changes.cut (x := v4.2) ?_ (fun h5 => ?_)
      · unfold v4
        refine Changes.andThen ?_ (State.freeBits_changes ..) (by decide) (subset_regs (by decide +kernel))
        exact Changes.refl _ _ _
      clear_value v4
      refine Changes.ite ?_ ?_
      · refine Changes.andThen ?_ (State.unsupportedReq_changes ..) (by decide) (subset_regs (by decide +kernel))
        assumption
      · refine Changes.ite ?_ ?_
        · refine Changes.andThen ?_ (State.putQue_changes ..) (by decide) (subset_regs (by decide +kernel))
          assumption
        · refine Changes.ite ?_ ?_
          · refine Changes.bump ?_ (by decide +kernel)
            exact Changes.refl _ _ _
          · exact Changes.refl _ _ _
  · refine Changes.ite ?_ ?_
    · unfold execDropRest
      extract_lets v6
      refine Changes.cut (x := v6) ?_ (fun h7 => ?_)
      · unfold v6
        refine Changes.andThen ?_ (State.quePtrCheck_changes ..) (by decide) (subset_regs (by decide +kernel))
        exact Changes.refl _ _ _
      clear_value v6
      rw [resState_next]
      unfold State.writeGate
      refine Changes.ite ?_ ?_
      · exact Changes.refl _ _ _
      · unfold State.gated
        unfold State.flrGate
        extract_lets v8
        refine Changes.cut (x := v8.2) ?_ (fun h9 => ?_)
        · unfold v8
          refine Changes.andThen ?_ (State.freeBits_changes ..) (by decide) (subset_regs (by decide +kernel))
          exact Changes.refl _ _ _
        clear_value v8
        refine Changes.ite ?_ ?_
        · refine Changes.andThen ?_ (State.unsupportedReq_changes ..) (by decide) (subset_regs (by decide +kernel))
          assumption
        · refine Changes.ite ?_ ?_
          · refine Changes.andThen ?_ (State.putQue_changes ..) (by decide) (subset_regs (by decide +kernel))
            assumption
          · refine Changes.ite ?_ ?_
            · refine Changes.bump ?_ (by decide +kernel)
              exact Changes.refl _ _ _
            · exact Changes.refl _ _ _
    · exact Changes.refl _ _ _

theorem State.dmaCmd_changes (s : State) (who : Requester) (i : Nat) (v : Word) :
    Changes [.outbox, .freeCtr, .pceCfg, .pce, .dma, .que, .ddr, .fst] [.FST_CNT_BAD_ACCESS, .PCE_STATUS,
      .PCE_CNT_PRIV_REFUSED, .PCE_CNT_MSIX_DROP, .DMA_STATUS, .DMA_CUR_LO, .DMA_CUR_HI, .DMA_CNT_OWN_WAIT,
      .QUE_STATUS] s (State.dmaCmd s who i v) := by
  unfold State.dmaCmd
  extract_lets v1
  clear_value v1
  refine Changes.ite ?_ ?_
  · unfold execDmaAbort
    rw [resState_next]
    unfold State.writeGate
    refine Changes.ite ?_ ?_
    · exact Changes.refl _ _ _
    · unfold State.gated
      unfold State.flrGate
      extract_lets v2
      refine Changes.cut (x := v2.2) ?_ (fun h3 => ?_)
      · unfold v2
        refine Changes.andThen ?_ (State.freeBits_changes ..) (by decide) (subset_regs (by decide +kernel))
        exact Changes.refl _ _ _
      clear_value v2
      refine Changes.ite ?_ ?_
      · refine Changes.andThen ?_ (State.unsupportedReq_changes ..) (by decide) (subset_regs (by decide +kernel))
        assumption
      · refine Changes.ite ?_ ?_
        · refine Changes.ite ?_ ?_
          · exact Changes.refl _ _ _
          · refine Changes.andThen ?_ (State.dmaAbort_changes ..) (by decide) (subset_regs (by decide +kernel))
            exact Changes.refl _ _ _
        · refine Changes.ite ?_ ?_
          · refine Changes.bump ?_ (by decide +kernel)
            exact Changes.refl _ _ _
          · exact Changes.refl _ _ _
  · refine Changes.ite ?_ ?_
    · unfold execDmaStop
      extract_lets v4 v5 v6 v7 v8
      refine Changes.cut (x := v8) ?_ (fun h9 => ?_)
      · unfold v8
        refine Changes.andThen ?_ (State.setDm_changes ..) (by decide) (subset_regs (by decide +kernel))
        exact Changes.refl _ _ _
      clear_value v4
      clear_value v5
      clear_value v6
      clear_value v7
      clear_value v8
      rw [resState_next]
      unfold State.writeGate
      refine Changes.ite ?_ ?_
      · exact Changes.refl _ _ _
      · unfold State.gated
        unfold State.flrGate
        extract_lets v10
        refine Changes.cut (x := v10.2) ?_ (fun h11 => ?_)
        · unfold v10
          refine Changes.andThen ?_ (State.freeBits_changes ..) (by decide) (subset_regs (by decide +kernel))
          exact Changes.refl _ _ _
        clear_value v10
        refine Changes.ite ?_ ?_
        · refine Changes.andThen ?_ (State.unsupportedReq_changes ..) (by decide) (subset_regs (by decide +kernel))
          assumption
        · refine Changes.ite ?_ ?_
          · refine Changes.ite ?_ ?_
            · refine Changes.andThen ?_ (State.dmaNext_changes ..) (by decide) (subset_regs (by decide +kernel))
              assumption
            · refine Changes.ite ?_ ?_
              · refine Changes.andThen ?_ (State.readBack_changes ..) (by decide) (subset_regs (by decide +kernel))
                refine Changes.andThen ?_ (State.dropDrain_changes ..) (by decide) (subset_regs (by decide +kernel))
                assumption
              · refine Changes.ite ?_ ?_
                · assumption
                · exact Changes.refl _ _ _
          · refine Changes.ite ?_ ?_
            · refine Changes.bump ?_ (by decide +kernel)
              exact Changes.refl _ _ _
            · exact Changes.refl _ _ _
    · refine Changes.ite ?_ ?_
      · unfold execDmaStart
        extract_lets v12 v13
        clear_value v12
        clear_value v13
        rw [resState_next]
        unfold State.writeGate
        refine Changes.ite ?_ ?_
        · exact Changes.refl _ _ _
        · unfold State.gated
          unfold State.flrGate
          extract_lets v14
          refine Changes.cut (x := v14.2) ?_ (fun h15 => ?_)
          · unfold v14
            refine Changes.andThen ?_ (State.freeBits_changes ..) (by decide) (subset_regs (by decide +kernel))
            exact Changes.refl _ _ _
          clear_value v14
          refine Changes.ite ?_ ?_
          · refine Changes.andThen ?_ (State.unsupportedReq_changes ..) (by decide) (subset_regs (by decide +kernel))
            assumption
          · refine Changes.ite ?_ ?_
            · refine Changes.ite ?_ ?_
              · refine Changes.andThen ?_ (State.dmaLoad_changes ..) (by decide) (subset_regs (by decide +kernel))
                refine Changes.andThen ?_ (State.setDm_changes ..) (by decide) (subset_regs (by decide +kernel))
                exact Changes.refl _ _ _
              · refine Changes.ite ?_ ?_
                · refine Changes.setFld ?_ (by decide +kernel)
                  exact Changes.refl _ _ _
                · exact Changes.refl _ _ _
            · refine Changes.ite ?_ ?_
              · refine Changes.bump ?_ (by decide +kernel)
                exact Changes.refl _ _ _
              · exact Changes.refl _ _ _
      · exact Changes.refl _ _ _

theorem State.projCmd_changes (s : State) (who : Requester) (v : Word) :
    Changes [.outbox, .freeCtr, .proj, .pceCfg, .pce] [.LUM_PROJ_STATUS, .PCE_STATUS, .PCE_CNT_PRIV_REFUSED,
      .PCE_CNT_MSIX_DROP] s (State.projCmd s who v) := by
  unfold State.projCmd
  extract_lets v1
  refine Changes.cut (x := v1) ?_ (fun h2 => ?_)
  · unfold v1
    unfold State.onBit
    refine Changes.ite ?_ ?_
    · beta_reduce
      unfold execProjSwap
      rw [resState_next]
      unfold State.writeGate
      refine Changes.ite ?_ ?_
      · exact Changes.refl _ _ _
      · unfold State.gated
        unfold State.flrGate
        extract_lets v3
        refine Changes.cut (x := v3.2) ?_ (fun h4 => ?_)
        · unfold v3
          refine Changes.andThen ?_ (State.freeBits_changes ..) (by decide) (subset_regs (by decide +kernel))
          exact Changes.refl _ _ _
        clear_value v3
        refine Changes.ite ?_ ?_
        · refine Changes.andThen ?_ (State.unsupportedReq_changes ..) (by decide) (subset_regs (by decide +kernel))
          assumption
        · refine Changes.ite ?_ ?_
          · refine Changes.andThen ?_ (State.swapReq_changes ..) (by decide) (subset_regs (by decide +kernel))
            exact Changes.refl _ _ _
          · refine Changes.ite ?_ ?_
            · refine Changes.bump ?_ (by decide +kernel)
              exact Changes.refl _ _ _
            · exact Changes.refl _ _ _
    · exact Changes.refl _ _ _
  clear_value v1
  unfold State.onBit
  refine Changes.ite ?_ ?_
  · beta_reduce
    unfold execPixTest
    rw [resState_next]
    unfold State.writeGate
    refine Changes.ite ?_ ?_
    · assumption
    · unfold State.gated
      unfold State.flrGate
      extract_lets v5
      refine Changes.cut (x := v5.2) ?_ (fun h6 => ?_)
      · unfold v5
        refine Changes.andThen ?_ (State.freeBits_changes ..) (by decide) (subset_regs (by decide +kernel))
        assumption
      clear_value v5
      refine Changes.ite ?_ ?_
      · refine Changes.andThen ?_ (State.unsupportedReq_changes ..) (by decide) (subset_regs (by decide +kernel))
        assumption
      · refine Changes.ite ?_ ?_
        · refine Changes.ite ?_ ?_
          · assumption
          · refine Changes.andThen ?_ (State.pixStart_changes ..) (by decide) (subset_regs (by decide +kernel))
            assumption
        · refine Changes.ite ?_ ?_
          · refine Changes.bump ?_ (by decide +kernel)
            assumption
          · assumption
  · assumption

theorem State.lumFaultWrite_changes (s : State) (who : Requester) (i : Nat) (v : Word) :
    Changes [.outbox, .freeCtr, .lum, .pceCfg, .pce] [.LUM_CH_STATUS, .LUM_CH_FAULT, .PCE_STATUS,
      .PCE_CNT_PRIV_REFUSED, .PCE_CNT_MSIX_DROP] s (State.lumFaultWrite s who i v) := by
  unfold State.lumFaultWrite
  extract_lets v1
  refine Changes.cut (x := v1.2) ?_ (fun h2 => ?_)
  · unfold v1
    refine Changes.andThen ?_ (State.freeBits_changes ..) (by decide) (subset_regs (by decide +kernel))
    exact Changes.refl _ _ _
  clear_value v1
  unfold execLightFaultClear
  rw [resState_next]
  unfold State.writeGate
  refine Changes.ite ?_ ?_
  · assumption
  · unfold State.gated
    unfold State.flrGate
    extract_lets v3
    refine Changes.cut (x := v3.2) ?_ (fun h4 => ?_)
    · unfold v3
      refine Changes.andThen ?_ (State.freeBits_changes ..) (by decide) (subset_regs (by decide +kernel))
      assumption
    clear_value v3
    refine Changes.ite ?_ ?_
    · refine Changes.andThen ?_ (State.unsupportedReq_changes ..) (by decide) (subset_regs (by decide +kernel))
      assumption
    · refine Changes.ite ?_ ?_
      · refine Changes.andThen ?_ (State.lumGate_changes ..) (by decide) (subset_regs (by decide +kernel))
        refine Changes.wr ?_ (by decide +kernel)
        assumption
      · refine Changes.ite ?_ ?_
        · refine Changes.bump ?_ (by decide +kernel)
          assumption
        · assumption

theorem State.scnCommand_changes (s : State) (who : Requester) (i : Nat) (v : Word) :
    Changes [.outbox, .freeCtr, .cap, .sht, .bch, .beams, .scn, .hal, .pceCfg, .pce] (([.SHT_STATUS, .SHT_I_STATE,
      .SHT_LAST_OUT, .SHT_LAST_FRAME, .SHT_LAST_DELAY, .SHT_DELAY_MAX, .SHT_CNT_FALLBACK, .SHT_CNT_SUPERSEDED,
      .SHT_CNT_LOG_DROP, .BCH_STATUS, .SCN_STATUS, .SCN_STREAM_LEVEL, .SCN_HALT_RECORD, .SCN_HALT_OFFSET,
      .SCN_RECORD, .SCN_CNT_RECORDS, .SCN_CNT_HALT, .HAL_CNT_QUEUE_DROP, .PCE_STATUS, .PCE_CNT_PRIV_REFUSED] :
      List Reg) ++ ([.PCE_CNT_MSIX_DROP] : List Reg)) s (State.scnCommand s who i v) := by
  unfold State.scnCommand
  extract_lets v1
  clear_value v1
  refine Changes.ite ?_ ?_
  · unfold execScnStop
    rw [resState_next]
    unfold State.scnCmd
    extract_lets v2
    refine Changes.cut (x := v2) ?_ (fun h3 => ?_)
    · unfold v2
      refine Changes.andThen ?_ (State.refresh_changes ..) (by decide) (subset_regs (by decide +kernel))
      exact Changes.refl _ _ _
    clear_value v2
    unfold State.writeGate
    refine Changes.ite ?_ ?_
    · exact Changes.refl _ _ _
    · unfold State.gated
      unfold State.flrGate
      extract_lets v4
      refine Changes.cut (x := v4.2) ?_ (fun h5 => ?_)
      · unfold v4
        refine Changes.andThen ?_ (State.freeBits_changes ..) (by decide) (subset_regs (by decide +kernel))
        exact Changes.refl _ _ _
      clear_value v4
      refine Changes.ite ?_ ?_
      · refine Changes.andThen ?_ (State.unsupportedReq_changes ..) (by decide) (subset_regs (by decide +kernel))
        assumption
      · refine Changes.ite ?_ ?_
        · refine Changes.ite ?_ ?_
          · beta_reduce
            refine Changes.andThen ?_ (State.cleanHalt_changes ..) (by decide) (subset_regs (by decide +kernel))
            assumption
          · assumption
        · refine Changes.ite ?_ ?_
          · refine Changes.bump ?_ (by decide +kernel)
            exact Changes.refl _ _ _
          · exact Changes.refl _ _ _
  · refine Changes.ite ?_ ?_
    · unfold execScnStart
      rw [resState_next]
      unfold State.scnCmd
      extract_lets v6
      refine Changes.cut (x := v6) ?_ (fun h7 => ?_)
      · unfold v6
        refine Changes.andThen ?_ (State.refresh_changes ..) (by decide) (subset_regs (by decide +kernel))
        exact Changes.refl _ _ _
      clear_value v6
      unfold State.writeGate
      refine Changes.ite ?_ ?_
      · exact Changes.refl _ _ _
      · unfold State.gated
        unfold State.flrGate
        extract_lets v8
        refine Changes.cut (x := v8.2) ?_ (fun h9 => ?_)
        · unfold v8
          refine Changes.andThen ?_ (State.freeBits_changes ..) (by decide) (subset_regs (by decide +kernel))
          exact Changes.refl _ _ _
        clear_value v8
        refine Changes.ite ?_ ?_
        · refine Changes.andThen ?_ (State.unsupportedReq_changes ..) (by decide) (subset_regs (by decide +kernel))
          assumption
        · refine Changes.ite ?_ ?_
          · refine Changes.ite ?_ ?_
            · beta_reduce
              refine Changes.andThen ?_ (State.scnStart_changes ..) (by decide) (subset_regs (by decide +kernel))
              assumption
            · assumption
          · refine Changes.ite ?_ ?_
            · refine Changes.bump ?_ (by decide +kernel)
              exact Changes.refl _ _ _
            · exact Changes.refl _ _ _
    · refine Changes.ite ?_ ?_
      · split
        · rename_i y10 y11
          unfold execRestartAtStop
          rw [resState_next]
          unfold State.scnRestart
          unfold State.scnCmd
          extract_lets v12
          refine Changes.cut (x := v12) ?_ (fun h13 => ?_)
          · unfold v12
            refine Changes.andThen ?_ (State.refresh_changes ..) (by decide) (subset_regs (by decide +kernel))
            exact Changes.refl _ _ _
          clear_value v12
          unfold State.writeGate
          refine Changes.ite ?_ ?_
          · exact Changes.refl _ _ _
          · unfold State.gated
            unfold State.flrGate
            extract_lets v14
            refine Changes.cut (x := v14.2) ?_ (fun h15 => ?_)
            · unfold v14
              refine Changes.andThen ?_ (State.freeBits_changes ..) (by decide) (subset_regs (by decide +kernel))
              exact Changes.refl _ _ _
            clear_value v14
            refine Changes.ite ?_ ?_
            · refine Changes.andThen ?_ (State.unsupportedReq_changes ..) (by decide) (subset_regs (by decide +kernel))
              assumption
            · refine Changes.ite ?_ ?_
              · refine Changes.ite ?_ ?_
                · beta_reduce
                  extract_lets v16 v17 v18
                  refine Changes.cut (x := v18) ?_ (fun h19 => ?_)
                  · unfold v18
                    refine Changes.setFld ?_ (by decide +kernel)
                    refine Changes.andThen ?_ (State.setSc_changes ..) (by decide) (subset_regs (by decide +kernel))
                    refine Changes.setFld ?_ (by decide +kernel)
                    refine Changes.andThen ?_ (State.setSc_changes ..) (by decide) (subset_regs (by decide +kernel))
                    assumption
                  clear_value v16
                  clear_value v17
                  clear_value v18
                  refine Changes.ite ?_ ?_
                  · assumption
                  · refine Changes.ite ?_ ?_
                    · refine Changes.setFld ?_ (by decide +kernel)
                      assumption
                    · split
                      · rename_i y20 y21 y22
                        extract_lets v23
                        clear_value v23
                        refine Changes.ite ?_ ?_
                        · refine Changes.andThen ?_ (State.setPhase_changes ..) (by decide) (subset_regs (by decide +kernel))
                          refine Changes.setFld ?_ (by decide +kernel)
                          refine Changes.setFld ?_ (by decide +kernel)
                          refine Changes.andThen ?_ (State.setSc_changes ..) (by decide) (subset_regs (by decide +kernel))
                          assumption
                        · refine Changes.andThen ?_ (State.reRequest_changes ..) (by decide) (subset_regs (by decide +kernel))
                          assumption
                      · rename_i y24 y25
                        refine Changes.setFld ?_ (by decide +kernel)
                        refine Changes.setFld ?_ (by decide +kernel)
                        refine Changes.andThen ?_ (State.setSc_changes ..) (by decide) (subset_regs (by decide +kernel))
                        assumption
                · assumption
              · refine Changes.ite ?_ ?_
                · refine Changes.bump ?_ (by decide +kernel)
                  exact Changes.refl _ _ _
                · exact Changes.refl _ _ _
        · rename_i y26 y27
          unfold execRestartNextRecord
          rw [resState_next]
          unfold State.scnRestart
          unfold State.scnCmd
          extract_lets v28
          refine Changes.cut (x := v28) ?_ (fun h29 => ?_)
          · unfold v28
            refine Changes.andThen ?_ (State.refresh_changes ..) (by decide) (subset_regs (by decide +kernel))
            exact Changes.refl _ _ _
          clear_value v28
          unfold State.writeGate
          refine Changes.ite ?_ ?_
          · exact Changes.refl _ _ _
          · unfold State.gated
            unfold State.flrGate
            extract_lets v30
            refine Changes.cut (x := v30.2) ?_ (fun h31 => ?_)
            · unfold v30
              refine Changes.andThen ?_ (State.freeBits_changes ..) (by decide) (subset_regs (by decide +kernel))
              exact Changes.refl _ _ _
            clear_value v30
            refine Changes.ite ?_ ?_
            · refine Changes.andThen ?_ (State.unsupportedReq_changes ..) (by decide) (subset_regs (by decide +kernel))
              assumption
            · refine Changes.ite ?_ ?_
              · refine Changes.ite ?_ ?_
                · beta_reduce
                  extract_lets v32 v33 v34 v35 v36 v37 v38 v39 v40
                  refine Changes.cut (x := v40) ?_ (fun h41 => ?_)
                  · unfold v40
                    refine Changes.setFld ?_ (by decide +kernel)
                    refine Changes.andThen ?_ (State.setSc_changes ..) (by decide) (subset_regs (by decide +kernel))
                    refine Changes.setFld ?_ (by decide +kernel)
                    refine Changes.andThen ?_ (State.setSc_changes ..) (by decide) (subset_regs (by decide +kernel))
                    assumption
                  clear_value v32
                  clear_value v33
                  clear_value v34
                  clear_value v35
                  clear_value v36
                  clear_value v37
                  clear_value v38
                  clear_value v39
                  clear_value v40
                  refine Changes.ite ?_ ?_
                  · assumption
                  · refine Changes.ite ?_ ?_
                    · refine Changes.setFld ?_ (by decide +kernel)
                      assumption
                    · refine Changes.andThen ?_ (State.reRequest_changes ..) (by decide) (subset_regs (by decide +kernel))
                      assumption
                · assumption
              · refine Changes.ite ?_ ?_
                · refine Changes.bump ?_ (by decide +kernel)
                  exact Changes.refl _ _ _
                · exact Changes.refl _ _ _
        · rename_i y42 y43
          unfold execRestartNextLayer
          rw [resState_next]
          unfold State.scnRestart
          unfold State.scnCmd
          extract_lets v44
          refine Changes.cut (x := v44) ?_ (fun h45 => ?_)
          · unfold v44
            refine Changes.andThen ?_ (State.refresh_changes ..) (by decide) (subset_regs (by decide +kernel))
            exact Changes.refl _ _ _
          clear_value v44
          unfold State.writeGate
          refine Changes.ite ?_ ?_
          · exact Changes.refl _ _ _
          · unfold State.gated
            unfold State.flrGate
            extract_lets v46
            refine Changes.cut (x := v46.2) ?_ (fun h47 => ?_)
            · unfold v46
              refine Changes.andThen ?_ (State.freeBits_changes ..) (by decide) (subset_regs (by decide +kernel))
              exact Changes.refl _ _ _
            clear_value v46
            refine Changes.ite ?_ ?_
            · refine Changes.andThen ?_ (State.unsupportedReq_changes ..) (by decide) (subset_regs (by decide +kernel))
              assumption
            · refine Changes.ite ?_ ?_
              · refine Changes.ite ?_ ?_
                · beta_reduce
                  extract_lets v48 v49 v50
                  clear_value v48
                  clear_value v49
                  clear_value v50
                  refine Changes.ite ?_ ?_
                  · assumption
                  · refine Changes.ite ?_ ?_
                    · refine Changes.setFld ?_ (by decide +kernel)
                      assumption
                    · refine Changes.setFld ?_ (by decide +kernel)
                      refine Changes.andThen ?_ (State.setSc_changes ..) (by decide) (subset_regs (by decide +kernel))
                      refine Changes.setFld ?_ (by decide +kernel)
                      refine Changes.andThen ?_ (State.setSc_changes ..) (by decide) (subset_regs (by decide +kernel))
                      assumption
                · assumption
              · refine Changes.ite ?_ ?_
                · refine Changes.bump ?_ (by decide +kernel)
                  exact Changes.refl _ _ _
                · exact Changes.refl _ _ _
        · rename_i y51 y52 y53 y54
          exact Changes.refl _ _ _
      · exact Changes.refl _ _ _

theorem State.bchFault_changes (s : State) (who : Requester) (i : Nat) (v : Word) :
    Changes [.outbox, .freeCtr, .sht, .bch, .hal, .pceCfg, .pce] [.SHT_STATUS, .SHT_I_STATE, .SHT_LAST_OUT,
      .SHT_LAST_FRAME, .SHT_LAST_DELAY, .SHT_DELAY_MAX, .SHT_CNT_FALLBACK, .SHT_CNT_SUPERSEDED, .SHT_CNT_LOG_DROP,
      .BCH_STATUS, .BCH_FAULT, .HAL_CNT_QUEUE_DROP, .PCE_STATUS, .PCE_CNT_PRIV_REFUSED, .PCE_CNT_MSIX_DROP] s
      (State.bchFault s who i v) := by
  unfold State.bchFault
  extract_lets v1
  refine Changes.cut (x := v1) ?_ (fun h2 => ?_)
  · unfold v1
    unfold execCutClear
    extract_lets v3
    clear_value v3
    rw [resState_next]
    unfold State.writeGate
    refine Changes.ite ?_ ?_
    · exact Changes.refl _ _ _
    · unfold State.gated
      unfold State.flrGate
      extract_lets v4
      refine Changes.cut (x := v4.2) ?_ (fun h5 => ?_)
      · unfold v4
        refine Changes.andThen ?_ (State.freeBits_changes ..) (by decide) (subset_regs (by decide +kernel))
        exact Changes.refl _ _ _
      clear_value v4
      refine Changes.ite ?_ ?_
      · refine Changes.andThen ?_ (State.unsupportedReq_changes ..) (by decide) (subset_regs (by decide +kernel))
        assumption
      · refine Changes.ite ?_ ?_
        · refine Changes.ite ?_ ?_
          · exact Changes.refl _ _ _
          · refine Changes.andThen ?_ (State.beamGate_changes ..) (by decide) (subset_regs (by decide +kernel))
            refine Changes.wr ?_ (by decide +kernel)
            exact Changes.refl _ _ _
        · refine Changes.ite ?_ ?_
          · refine Changes.bump ?_ (by decide +kernel)
            exact Changes.refl _ _ _
          · exact Changes.refl _ _ _
  clear_value v1
  unfold State.writeGate
  refine Changes.ite ?_ ?_
  · assumption
  · unfold State.gated
    unfold State.flrGate
    extract_lets v6
    refine Changes.cut (x := v6.2) ?_ (fun h7 => ?_)
    · unfold v6
      refine Changes.andThen ?_ (State.freeBits_changes ..) (by decide) (subset_regs (by decide +kernel))
      assumption
    clear_value v6
    refine Changes.ite ?_ ?_
    · refine Changes.andThen ?_ (State.unsupportedReq_changes ..) (by decide) (subset_regs (by decide +kernel))
      assumption
    · refine Changes.ite ?_ ?_
      · refine Changes.wr ?_ (by decide +kernel)
        assumption
      · refine Changes.ite ?_ ?_
        · refine Changes.bump ?_ (by decide +kernel)
          assumption
        · assumption

theorem State.shtCmd_changes (s : State) (who : Requester) (i : Nat) (v : Word) :
    Changes [.outbox, .freeCtr, .sht, .pceCfg, .pce] [.SHT_STATUS, .SHT_I_STATE, .SHT_LAST_OUT, .SHT_LAST_DELAY,
      .SHT_DELAY_MAX, .SHT_CNT_SUPERSEDED, .SHT_CNT_LOG_DROP, .PCE_STATUS, .PCE_CNT_PRIV_REFUSED,
      .PCE_CNT_MSIX_DROP] s (State.shtCmd s who i v) := by
  unfold State.shtCmd
  extract_lets v1 v2 v3
  refine Changes.cut (x := v2) ?_ (fun h4 => ?_)
  · unfold v2
    unfold State.onBit
    refine Changes.ite ?_ ?_
    · beta_reduce
      unfold execShtStart
      extract_lets v5 v6
      clear_value v5
      clear_value v6
      rw [resState_next]
      unfold State.writeGate
      refine Changes.ite ?_ ?_
      · exact Changes.refl _ _ _
      · unfold State.gated
        unfold State.flrGate
        extract_lets v7
        refine Changes.cut (x := v7.2) ?_ (fun h8 => ?_)
        · unfold v7
          refine Changes.andThen ?_ (State.freeBits_changes ..) (by decide) (subset_regs (by decide +kernel))
          exact Changes.refl _ _ _
        clear_value v7
        refine Changes.ite ?_ ?_
        · refine Changes.andThen ?_ (State.unsupportedReq_changes ..) (by decide) (subset_regs (by decide +kernel))
          assumption
        · refine Changes.ite ?_ ?_
          · refine Changes.ite ?_ ?_
            · refine Changes.andThen ?_ (State.unsupportedReq_changes ..) (by decide) (subset_regs (by decide +kernel))
              assumption
            · refine Changes.ite ?_ ?_
              · refine Changes.ite ?_ ?_
                · refine Changes.setFld ?_ (by decide +kernel)
                  exact Changes.refl _ _ _
                · refine Changes.setFld ?_ (by decide +kernel)
                  refine Changes.andThen ?_ (State.setSh_changes ..) (by decide) (subset_regs (by decide +kernel))
                  exact Changes.refl _ _ _
              · refine Changes.ite ?_ ?_
                · refine Changes.bump ?_ (by decide +kernel)
                  exact Changes.refl _ _ _
                · exact Changes.refl _ _ _
          · refine Changes.ite ?_ ?_
            · refine Changes.bump ?_ (by decide +kernel)
              exact Changes.refl _ _ _
            · exact Changes.refl _ _ _
    · exact Changes.refl _ _ _
  refine Changes.cut (x := v3) ?_ (fun h9 => ?_)
  · unfold v3
    unfold State.onBit
    refine Changes.ite ?_ ?_
    · beta_reduce
      unfold execShtStop
      rw [resState_next]
      unfold State.writeGate
      refine Changes.ite ?_ ?_
      · assumption
      · unfold State.gated
        unfold State.flrGate
        extract_lets v10
        refine Changes.cut (x := v10.2) ?_ (fun h11 => ?_)
        · unfold v10
          refine Changes.andThen ?_ (State.freeBits_changes ..) (by decide) (subset_regs (by decide +kernel))
          assumption
        clear_value v10
        refine Changes.ite ?_ ?_
        · refine Changes.andThen ?_ (State.unsupportedReq_changes ..) (by decide) (subset_regs (by decide +kernel))
          assumption
        · refine Changes.ite ?_ ?_
          · refine Changes.andThen ?_ (State.shTuneEnd_changes ..) (by decide) (subset_regs (by decide +kernel))
            assumption
          · refine Changes.ite ?_ ?_
            · refine Changes.bump ?_ (by decide +kernel)
              assumption
            · assumption
    · assumption
  clear_value v1
  clear_value v2
  clear_value v3
  unfold State.onBit
  refine Changes.ite ?_ ?_
  · beta_reduce
    unfold execResetState
    extract_lets v12
    clear_value v12
    rw [resState_next]
    unfold State.writeGate
    refine Changes.ite ?_ ?_
    · assumption
    · unfold State.gated
      unfold State.flrGate
      extract_lets v13
      refine Changes.cut (x := v13.2) ?_ (fun h14 => ?_)
      · unfold v13
        refine Changes.andThen ?_ (State.freeBits_changes ..) (by decide) (subset_regs (by decide +kernel))
        assumption
      clear_value v13
      refine Changes.ite ?_ ?_
      · refine Changes.andThen ?_ (State.unsupportedReq_changes ..) (by decide) (subset_regs (by decide +kernel))
        assumption
      · refine Changes.ite ?_ ?_
        · refine Changes.ite ?_ ?_
          · assumption
          · refine Changes.wr ?_ (by decide +kernel)
            refine Changes.andThen ?_ (State.setSh_changes ..) (by decide) (subset_regs (by decide +kernel))
            assumption
        · refine Changes.ite ?_ ?_
          · refine Changes.bump ?_ (by decide +kernel)
            assumption
          · assumption
  · assumption

theorem State.spanCmd_changes (s : State) (who : Requester) (v : Word) :
    Changes [.outbox, .freeCtr, .hal, .pceCfg, .pce, .que, .ddr, .fst, .helm] [.HAL_CNT_QUEUE_DROP, .PCE_STATUS,
      .PCE_CNT_PRIV_REFUSED, .PCE_CNT_MSIX_DROP, .QUE_STATUS, .QUE_CNT_LOST, .QUE_CNT_PTR_ERR, .QUE_CNT_NO_QUEUE,
      .HLM_CNT_NOTICE_DROP, .PWR_FAULT_SUMMARY] s (State.spanCmd s who v) := by
  unfold State.spanCmd
  split
  · rename_i y1 y2
    unfold execSpanRelease
    rw [resState_next]
    unfold State.writeGate
    refine Changes.ite ?_ ?_
    · exact Changes.refl _ _ _
    · unfold State.gated
      unfold State.flrGate
      extract_lets v3
      refine Changes.cut (x := v3.2) ?_ (fun h4 => ?_)
      · unfold v3
        refine Changes.andThen ?_ (State.freeBits_changes ..) (by decide) (subset_regs (by decide +kernel))
        exact Changes.refl _ _ _
      clear_value v3
      refine Changes.ite ?_ ?_
      · refine Changes.andThen ?_ (State.unsupportedReq_changes ..) (by decide) (subset_regs (by decide +kernel))
        assumption
      · refine Changes.ite ?_ ?_
        · split
          · rename_i y5 y6 y7
            refine Changes.andThen ?_ (State.spanFree_changes ..) (by decide) (subset_regs (by decide +kernel))
            exact Changes.refl _ _ _
          · rename_i y8 y9
            exact Changes.refl _ _ _
        · refine Changes.ite ?_ ?_
          · refine Changes.bump ?_ (by decide +kernel)
            exact Changes.refl _ _ _
          · exact Changes.refl _ _ _
  · rename_i y10 y11
    unfold execSpanReleaseAll
    rw [resState_next]
    unfold State.writeGate
    refine Changes.ite ?_ ?_
    · exact Changes.refl _ _ _
    · unfold State.gated
      unfold State.flrGate
      extract_lets v12
      refine Changes.cut (x := v12.2) ?_ (fun h13 => ?_)
      · unfold v12
        refine Changes.andThen ?_ (State.freeBits_changes ..) (by decide) (subset_regs (by decide +kernel))
        exact Changes.refl _ _ _
      clear_value v12
      refine Changes.ite ?_ ?_
      · refine Changes.andThen ?_ (State.unsupportedReq_changes ..) (by decide) (subset_regs (by decide +kernel))
        assumption
      · refine Changes.ite ?_ ?_
        · refine Changes.andThen ?_ (State.spanFreeAll_changes ..) (by decide) (subset_regs (by decide +kernel))
          exact Changes.refl _ _ _
        · refine Changes.ite ?_ ?_
          · refine Changes.bump ?_ (by decide +kernel)
            exact Changes.refl _ _ _
          · exact Changes.refl _ _ _
  · rename_i y14 y15 y16
    exact Changes.refl _ _ _

theorem State.capCtrl_changes (s : State) (who : Requester) (box : Nat) (v : Word) :
    Changes [.outbox, .freeCtr, .lnk, .port, .cap, .pceCfg, .pce] [.CAP_CTRL_CMD, .CAP_CTRL_STATUS, .PCE_STATUS,
      .PCE_CNT_PRIV_REFUSED, .PCE_CNT_MSIX_DROP] s (State.capCtrl s who box v) := by
  unfold State.capCtrl
  extract_lets v1
  refine Changes.cut (x := v1) ?_ (fun h2 => ?_)
  · unfold v1
    refine Changes.wr ?_ (by decide +kernel)
    exact Changes.refl _ _ _
  clear_value v1
  refine Changes.ite ?_ ?_
  · exact Changes.refl _ _ _
  · unfold State.gated
    unfold State.flrGate
    extract_lets v3
    refine Changes.cut (x := v3.2) ?_ (fun h4 => ?_)
    · unfold v3
      refine Changes.andThen ?_ (State.freeBits_changes ..) (by decide) (subset_regs (by decide +kernel))
      exact Changes.refl _ _ _
    clear_value v3
    refine Changes.ite ?_ ?_
    · refine Changes.andThen ?_ (State.unsupportedReq_changes ..) (by decide) (subset_regs (by decide +kernel))
      assumption
    · refine Changes.ite ?_ ?_
      · refine Changes.ite ?_ ?_
        · refine Changes.andThen ?_ (State.ctrlGo_changes ..) (by decide) (subset_regs (by decide +kernel))
          assumption
        · assumption
      · refine Changes.ite ?_ ?_
        · refine Changes.bump ?_ (by decide +kernel)
          exact Changes.refl _ _ _
        · exact Changes.refl _ _ _

theorem State.lnkUserWord_changes (s : State) (n : Nat) (v : Word) :
    Changes [.outbox, .freeCtr] [.LNK_USER_WORD] s (State.lnkUserWord s n v) := by
  unfold State.lnkUserWord
  extract_lets v1
  refine Changes.cut (x := v1) ?_ (fun h2 => ?_)
  · unfold v1
    refine Changes.wr ?_ (by decide +kernel)
    exact Changes.refl _ _ _
  clear_value v1
  refine Changes.ite ?_ ?_
  · refine Changes.andThen ?_ (State.patternStart_changes ..) (by decide) (subset_regs (by decide +kernel))
    assumption
  · assumption

theorem State.lnkInject_changes (s : State) (n : Nat) (v : Word) :
    Changes [.outbox, .lnk] [.LNK_INJECT] s (State.lnkInject s n v) := by
  unfold State.lnkInject
  extract_lets v1 v2 v3
  refine Changes.cut (x := v1) ?_ (fun h4 => ?_)
  · unfold v1
    refine Changes.wr ?_ (by decide +kernel)
    exact Changes.refl _ _ _
  refine Changes.cut (x := v3) ?_ (fun h5 => ?_)
  · unfold v3
    refine Changes.ite ?_ ?_
    · assumption
    · refine Changes.andThen ?_ (State.setLn_changes ..) (by decide) (subset_regs (by decide +kernel))
      assumption
  clear_value v1
  clear_value v2
  clear_value v3
  refine Changes.ite ?_ ?_
  · refine Changes.andThen ?_ (State.shot_changes ..) (by decide) (subset_regs (by decide +kernel))
    assumption
  · assumption

theorem State.lnkPattern_changes (s : State) (n : Nat) (v : Word) :
    Changes [.outbox, .freeCtr, .lnk, .port, .cap, .mst, .hal, .dma, .ddr, .fst] [.LNK_STATUS, .LNK_PORT_STATUS,
      .LNK_PATTERN, .LNK_CNT_REBUILT, .LNK_CNT_PARITY_MISMATCH, .LNK_CNT_ERASED_ROWS, .LNK_BER_BITS_LO,
      .LNK_BER_BITS_HI, .LNK_BER_ERRS, .CAP_CNT_INCOMPLETE, .CAP_CNT_OVERSIZE, .FST_RING_WP_BAND, .MST_STATUS,
      .MST_SPARE_USE, .MST_SPAR_STATE, .MST_CNT_CANCEL, .MST_CNT_INGEST_DROP, .HAL_CNT_QUEUE_DROP] s
      (State.lnkPattern s n v) := by
  unfold State.lnkPattern
  extract_lets v1
  refine Changes.cut (x := v1) ?_ (fun h2 => ?_)
  · unfold v1
    refine Changes.andThen ?_ (State.patternApply_changes ..) (by decide) (subset_regs (by decide +kernel))
    refine Changes.wr ?_ (by decide +kernel)
    exact Changes.refl _ _ _
  clear_value v1
  refine Changes.ite ?_ ?_
  · refine Changes.andThen ?_ (State.clearBer_changes ..) (by decide) (subset_regs (by decide +kernel))
    assumption
  · assumption

theorem State.regWrite_changes (s : State) (who : Requester) (r : Reg) (i : Nat) (j : Nat) (v : Word) :
    Changes (([.fuse, .fine, .bar0, .staged, .outbox, .freeCtr, .lnk, .port, .cap, .capt, .mst, .sht, .bch,
      .beams, .scn, .cal, .lum, .proj, .hal, .pceCfg] : List Part) ++ ([.pce, .dma, .que, .ddr, .fst, .ses,
      .flash, .boot, .tim, .enc, .ssi, .helm, .pwr] : List Part)) allRegs s (State.regWrite s who r i j v) := by
  unfold State.regWrite
  split
  · rename_i y1
    unfold State.writeGate
    refine Changes.ite ?_ ?_
    · exact Changes.refl _ _ _
    · unfold State.gated
      unfold State.flrGate
      extract_lets v2
      refine Changes.cut (x := v2.2) ?_ (fun h3 => ?_)
      · unfold v2
        refine Changes.andThen ?_ (State.freeBits_changes ..) (by decide) (subset_allRegs _)
        exact Changes.refl _ _ _
      clear_value v2
      refine Changes.ite ?_ ?_
      · refine Changes.andThen ?_ (State.unsupportedReq_changes ..) (by decide) (subset_allRegs _)
        assumption
      · refine Changes.ite ?_ ?_
        · refine Changes.andThen ?_ (State.lnkCtrl_changes ..) (by decide) (subset_allRegs _)
          exact Changes.refl _ _ _
        · refine Changes.ite ?_ ?_
          · refine Changes.bump ?_ (mem_allRegs _)
            exact Changes.refl _ _ _
          · exact Changes.refl _ _ _
  · rename_i y4
    unfold State.writeGate
    refine Changes.ite ?_ ?_
    · exact Changes.refl _ _ _
    · unfold State.gated
      unfold State.flrGate
      extract_lets v5
      refine Changes.cut (x := v5.2) ?_ (fun h6 => ?_)
      · unfold v5
        refine Changes.andThen ?_ (State.freeBits_changes ..) (by decide) (subset_allRegs _)
        exact Changes.refl _ _ _
      clear_value v5
      refine Changes.ite ?_ ?_
      · refine Changes.andThen ?_ (State.unsupportedReq_changes ..) (by decide) (subset_allRegs _)
        assumption
      · refine Changes.ite ?_ ?_
        · refine Changes.andThen ?_ (State.lnkPattern_changes ..) (by decide) (subset_allRegs _)
          exact Changes.refl _ _ _
        · refine Changes.ite ?_ ?_
          · refine Changes.bump ?_ (mem_allRegs _)
            exact Changes.refl _ _ _
          · exact Changes.refl _ _ _
  · rename_i y7
    unfold State.writeGate
    refine Changes.ite ?_ ?_
    · exact Changes.refl _ _ _
    · unfold State.gated
      unfold State.flrGate
      extract_lets v8
      refine Changes.cut (x := v8.2) ?_ (fun h9 => ?_)
      · unfold v8
        refine Changes.andThen ?_ (State.freeBits_changes ..) (by decide) (subset_allRegs _)
        exact Changes.refl _ _ _
      clear_value v8
      refine Changes.ite ?_ ?_
      · refine Changes.andThen ?_ (State.unsupportedReq_changes ..) (by decide) (subset_allRegs _)
        assumption
      · refine Changes.ite ?_ ?_
        · refine Changes.andThen ?_ (State.lnkInject_changes ..) (by decide) (subset_allRegs _)
          exact Changes.refl _ _ _
        · refine Changes.ite ?_ ?_
          · refine Changes.bump ?_ (mem_allRegs _)
            exact Changes.refl _ _ _
          · exact Changes.refl _ _ _
  · rename_i y10
    unfold State.writeGate
    refine Changes.ite ?_ ?_
    · exact Changes.refl _ _ _
    · unfold State.gated
      unfold State.flrGate
      extract_lets v11
      refine Changes.cut (x := v11.2) ?_ (fun h12 => ?_)
      · unfold v11
        refine Changes.andThen ?_ (State.freeBits_changes ..) (by decide) (subset_allRegs _)
        exact Changes.refl _ _ _
      clear_value v11
      refine Changes.ite ?_ ?_
      · refine Changes.andThen ?_ (State.unsupportedReq_changes ..) (by decide) (subset_allRegs _)
        assumption
      · refine Changes.ite ?_ ?_
        · refine Changes.andThen ?_ (State.lnkUserWord_changes ..) (by decide) (subset_allRegs _)
          exact Changes.refl _ _ _
        · refine Changes.ite ?_ ?_
          · refine Changes.bump ?_ (mem_allRegs _)
            exact Changes.refl _ _ _
          · exact Changes.refl _ _ _
  · rename_i y13
    refine Changes.andThen ?_ (State.capCtrl_changes ..) (by decide) (subset_allRegs _)
    exact Changes.refl _ _ _
  · rename_i y14
    refine Changes.ite ?_ ?_
    · unfold State.gated
      unfold State.flrGate
      extract_lets v15
      refine Changes.cut (x := v15.2) ?_ (fun h16 => ?_)
      · unfold v15
        refine Changes.andThen ?_ (State.freeBits_changes ..) (by decide) (subset_allRegs _)
        exact Changes.refl _ _ _
      clear_value v15
      refine Changes.ite ?_ ?_
      · refine Changes.andThen ?_ (State.unsupportedReq_changes ..) (by decide) (subset_allRegs _)
        assumption
      · refine Changes.ite ?_ ?_
        · refine Changes.andThen ?_ (State.plainWrite_changes ..) (by decide) (subset_allRegs _)
          exact Changes.refl _ _ _
        · refine Changes.ite ?_ ?_
          · refine Changes.bump ?_ (mem_allRegs _)
            exact Changes.refl _ _ _
          · exact Changes.refl _ _ _
    · exact Changes.refl _ _ _
  · rename_i y17
    unfold State.writeGate
    refine Changes.ite ?_ ?_
    · exact Changes.refl _ _ _
    · unfold State.gated
      unfold State.flrGate
      extract_lets v18
      refine Changes.cut (x := v18.2) ?_ (fun h19 => ?_)
      · unfold v18
        refine Changes.andThen ?_ (State.freeBits_changes ..) (by decide) (subset_allRegs _)
        exact Changes.refl _ _ _
      clear_value v18
      refine Changes.ite ?_ ?_
      · refine Changes.andThen ?_ (State.unsupportedReq_changes ..) (by decide) (subset_allRegs _)
        assumption
      · refine Changes.ite ?_ ?_
        · refine Changes.andThen ?_ (State.capTrig_changes ..) (by decide) (subset_allRegs _)
          exact Changes.refl _ _ _
        · refine Changes.ite ?_ ?_
          · refine Changes.bump ?_ (mem_allRegs _)
            exact Changes.refl _ _ _
          · exact Changes.refl _ _ _
  · rename_i y20
    unfold State.writeGate
    refine Changes.ite ?_ ?_
    · exact Changes.refl _ _ _
    · unfold State.gated
      unfold State.flrGate
      extract_lets v21
      refine Changes.cut (x := v21.2) ?_ (fun h22 => ?_)
      · unfold v21
        refine Changes.andThen ?_ (State.freeBits_changes ..) (by decide) (subset_allRegs _)
        exact Changes.refl _ _ _
      clear_value v21
      refine Changes.ite ?_ ?_
      · refine Changes.andThen ?_ (State.unsupportedReq_changes ..) (by decide) (subset_allRegs _)
        assumption
      · refine Changes.ite ?_ ?_
        · refine Changes.andThen ?_ (State.cmpCfg_changes ..) (by decide) (subset_allRegs _)
          exact Changes.refl _ _ _
        · refine Changes.ite ?_ ?_
          · refine Changes.bump ?_ (mem_allRegs _)
            exact Changes.refl _ _ _
          · exact Changes.refl _ _ _
  · rename_i y23
    unfold execEncoderCountWrite
    extract_lets v24
    refine Changes.cut (x := v24) ?_ (fun h25 => ?_)
    · unfold v24
      unfold State.writeGate
      refine Changes.ite ?_ ?_
      · exact Changes.refl _ _ _
      · unfold State.gated
        unfold State.flrGate
        extract_lets v26
        refine Changes.cut (x := v26.2) ?_ (fun h27 => ?_)
        · unfold v26
          refine Changes.andThen ?_ (State.freeBits_changes ..) (by decide) (subset_allRegs _)
          exact Changes.refl _ _ _
        clear_value v26
        refine Changes.ite ?_ ?_
        · refine Changes.andThen ?_ (State.unsupportedReq_changes ..) (by decide) (subset_allRegs _)
          assumption
        · refine Changes.ite ?_ ?_
          · refine Changes.andThen ?_ (State.setCount_changes ..) (by decide) (subset_allRegs _)
            exact Changes.refl _ _ _
          · refine Changes.ite ?_ ?_
            · refine Changes.bump ?_ (mem_allRegs _)
              exact Changes.refl _ _ _
            · exact Changes.refl _ _ _
    clear_value v24
    rw [resState_next]
    refine Changes.ite ?_ ?_
    · refine Changes.andThen ?_ (State.zReset_changes ..) (by decide) (subset_allRegs _)
      assumption
    · split
      · rename_i y28 y29 y30
        refine Changes.andThen ?_ (State.encEdge_changes ..) (by decide) (subset_allRegs _)
        assumption
      · rename_i y31 y32
        assumption
  · rename_i y33
    unfold execFstMarkGo
    rw [resState_next]
    unfold State.writeGate
    refine Changes.ite ?_ ?_
    · exact Changes.refl _ _ _
    · unfold State.gated
      unfold State.flrGate
      extract_lets v34
      refine Changes.cut (x := v34.2) ?_ (fun h35 => ?_)
      · unfold v34
        refine Changes.andThen ?_ (State.freeBits_changes ..) (by decide) (subset_allRegs _)
        exact Changes.refl _ _ _
      clear_value v34
      refine Changes.ite ?_ ?_
      · refine Changes.andThen ?_ (State.unsupportedReq_changes ..) (by decide) (subset_allRegs _)
        assumption
      · refine Changes.ite ?_ ?_
        · refine Changes.ite ?_ ?_
          · refine Changes.andThen ?_ (State.mark_changes ..) (by decide) (subset_allRegs _)
            exact Changes.refl _ _ _
          · exact Changes.refl _ _ _
        · refine Changes.ite ?_ ?_
          · refine Changes.bump ?_ (mem_allRegs _)
            exact Changes.refl _ _ _
          · exact Changes.refl _ _ _
  · rename_i y36
    refine Changes.andThen ?_ (State.spanCmd_changes ..) (by decide) (subset_allRegs _)
    exact Changes.refl _ _ _
  · rename_i y37
    refine Changes.andThen ?_ (State.shtCmd_changes ..) (by decide) (subset_allRegs _)
    exact Changes.refl _ _ _
  · rename_i y38
    refine Changes.andThen ?_ (State.bchFault_changes ..) (by decide) (subset_allRegs _)
    exact Changes.refl _ _ _
  · rename_i y39
    unfold State.onBit
    refine Changes.ite ?_ ?_
    · beta_reduce
      unfold execPermitFaultClear
      rw [resState_next]
      unfold State.writeGate
      refine Changes.ite ?_ ?_
      · exact Changes.refl _ _ _
      · unfold State.gated
        unfold State.flrGate
        extract_lets v40
        refine Changes.cut (x := v40.2) ?_ (fun h41 => ?_)
        · unfold v40
          refine Changes.andThen ?_ (State.freeBits_changes ..) (by decide) (subset_allRegs _)
          exact Changes.refl _ _ _
        clear_value v40
        refine Changes.ite ?_ ?_
        · refine Changes.andThen ?_ (State.unsupportedReq_changes ..) (by decide) (subset_allRegs _)
          assumption
        · refine Changes.ite ?_ ?_
          · refine Changes.ite ?_ ?_
            · refine Changes.andThen ?_ (State.permitUpdate_changes ..) (by decide) (subset_allRegs _)
              refine Changes.setFld ?_ (mem_allRegs _)
              exact Changes.refl _ _ _
            · exact Changes.refl _ _ _
          · refine Changes.ite ?_ ?_
            · refine Changes.bump ?_ (mem_allRegs _)
              exact Changes.refl _ _ _
            · exact Changes.refl _ _ _
    · exact Changes.refl _ _ _
  · rename_i y42
    refine Changes.andThen ?_ (State.scnCommand_changes ..) (by decide) (subset_allRegs _)
    exact Changes.refl _ _ _
  · rename_i y43
    unfold State.writeGate
    refine Changes.ite ?_ ?_
    · exact Changes.refl _ _ _
    · unfold State.gated
      unfold State.flrGate
      extract_lets v44
      refine Changes.cut (x := v44.2) ?_ (fun h45 => ?_)
      · unfold v44
        refine Changes.andThen ?_ (State.freeBits_changes ..) (by decide) (subset_allRegs _)
        exact Changes.refl _ _ _
      clear_value v44
      refine Changes.ite ?_ ?_
      · refine Changes.andThen ?_ (State.unsupportedReq_changes ..) (by decide) (subset_allRegs _)
        assumption
      · refine Changes.ite ?_ ?_
        · refine Changes.andThen ?_ (State.lumCfg_changes ..) (by decide) (subset_allRegs _)
          exact Changes.refl _ _ _
        · refine Changes.ite ?_ ?_
          · refine Changes.bump ?_ (mem_allRegs _)
            exact Changes.refl _ _ _
          · exact Changes.refl _ _ _
  · rename_i y46
    refine Changes.andThen ?_ (State.lumFaultWrite_changes ..) (by decide) (subset_allRegs _)
    exact Changes.refl _ _ _
  · rename_i y47
    unfold State.onBit
    refine Changes.ite ?_ ?_
    · beta_reduce
      unfold execVfTest
      rw [resState_next]
      unfold State.writeGate
      refine Changes.ite ?_ ?_
      · exact Changes.refl _ _ _
      · unfold State.gated
        unfold State.flrGate
        extract_lets v48
        refine Changes.cut (x := v48.2) ?_ (fun h49 => ?_)
        · unfold v48
          refine Changes.andThen ?_ (State.freeBits_changes ..) (by decide) (subset_allRegs _)
          exact Changes.refl _ _ _
        clear_value v48
        refine Changes.ite ?_ ?_
        · refine Changes.andThen ?_ (State.unsupportedReq_changes ..) (by decide) (subset_allRegs _)
          assumption
        · refine Changes.ite ?_ ?_
          · refine Changes.ite ?_ ?_
            · exact Changes.refl _ _ _
            · refine Changes.ite ?_ ?_
              · refine Changes.setFld ?_ (mem_allRegs _)
                exact Changes.refl _ _ _
              · refine Changes.andThen ?_ (State.vfStart_changes ..) (by decide) (subset_allRegs _)
                exact Changes.refl _ _ _
          · refine Changes.ite ?_ ?_
            · refine Changes.bump ?_ (mem_allRegs _)
              exact Changes.refl _ _ _
            · exact Changes.refl _ _ _
    · exact Changes.refl _ _ _
  · rename_i y50
    refine Changes.andThen ?_ (State.projCmd_changes ..) (by decide) (subset_allRegs _)
    exact Changes.refl _ _ _
  · rename_i y51
    unfold execHalPublish
    extract_lets v52
    clear_value v52
    rw [resState_next]
    unfold State.writeGate
    refine Changes.ite ?_ ?_
    · exact Changes.refl _ _ _
    · unfold State.gated
      unfold State.flrGate
      extract_lets v53
      refine Changes.cut (x := v53.2) ?_ (fun h54 => ?_)
      · unfold v53
        refine Changes.andThen ?_ (State.freeBits_changes ..) (by decide) (subset_allRegs _)
        exact Changes.refl _ _ _
      clear_value v53
      refine Changes.ite ?_ ?_
      · refine Changes.andThen ?_ (State.unsupportedReq_changes ..) (by decide) (subset_allRegs _)
        assumption
      · refine Changes.ite ?_ ?_
        · refine Changes.ite ?_ ?_
          · exact Changes.refl _ _ _
          · refine Changes.ite ?_ ?_
            · refine Changes.andThen ?_ (State.refuseHal_changes ..) (by decide) (subset_allRegs _)
              exact Changes.refl _ _ _
            · refine Changes.andThen ?_ (State.enqueue_changes ..) (by decide) (subset_allRegs _)
              exact Changes.refl _ _ _
        · refine Changes.ite ?_ ?_
          · refine Changes.bump ?_ (mem_allRegs _)
            exact Changes.refl _ _ _
          · exact Changes.refl _ _ _
  · rename_i y55
    unfold execHalGroupCmd
    rw [resState_next]
    unfold State.writeGate
    refine Changes.ite ?_ ?_
    · exact Changes.refl _ _ _
    · unfold State.gated
      unfold State.flrGate
      extract_lets v56
      refine Changes.cut (x := v56.2) ?_ (fun h57 => ?_)
      · unfold v56
        refine Changes.andThen ?_ (State.freeBits_changes ..) (by decide) (subset_allRegs _)
        exact Changes.refl _ _ _
      clear_value v56
      refine Changes.ite ?_ ?_
      · refine Changes.andThen ?_ (State.unsupportedReq_changes ..) (by decide) (subset_allRegs _)
        assumption
      · refine Changes.ite ?_ ?_
        · refine Changes.andThen ?_ (State.groups_changes ..) (by decide) (subset_allRegs _)
          exact Changes.refl _ _ _
        · refine Changes.ite ?_ ?_
          · refine Changes.bump ?_ (mem_allRegs _)
            exact Changes.refl _ _ _
          · exact Changes.refl _ _ _
  · rename_i y58
    unfold execHalSubWrite
    extract_lets v59 v60 v61 v62
    clear_value v59
    clear_value v60
    clear_value v61
    clear_value v62
    rw [resState_next]
    unfold State.writeGate
    refine Changes.ite ?_ ?_
    · exact Changes.refl _ _ _
    · unfold State.gated
      unfold State.flrGate
      extract_lets v63
      refine Changes.cut (x := v63.2) ?_ (fun h64 => ?_)
      · unfold v63
        refine Changes.andThen ?_ (State.freeBits_changes ..) (by decide) (subset_allRegs _)
        exact Changes.refl _ _ _
      clear_value v63
      refine Changes.ite ?_ ?_
      · refine Changes.andThen ?_ (State.unsupportedReq_changes ..) (by decide) (subset_allRegs _)
        assumption
      · refine Changes.ite ?_ ?_
        · refine Changes.ite ?_ ?_
          · exact Changes.refl _ _ _
          · refine Changes.ite ?_ ?_
            · refine Changes.andThen ?_ (State.refuseHal_changes ..) (by decide) (subset_allRegs _)
              exact Changes.refl _ _ _
            · refine Changes.ite ?_ ?_
              · refine Changes.andThen ?_ (State.refuseHal_changes ..) (by decide) (subset_allRegs _)
                exact Changes.refl _ _ _
              · refine Changes.stage ?_ (by decide +kernel)
                exact Changes.refl _ _ _
        · refine Changes.ite ?_ ?_
          · refine Changes.bump ?_ (mem_allRegs _)
            exact Changes.refl _ _ _
          · exact Changes.refl _ _ _
  · rename_i y65
    unfold execHalProdBindWrite
    extract_lets v66
    clear_value v66
    rw [resState_next]
    unfold State.writeGate
    refine Changes.ite ?_ ?_
    · exact Changes.refl _ _ _
    · unfold State.gated
      unfold State.flrGate
      extract_lets v67
      refine Changes.cut (x := v67.2) ?_ (fun h68 => ?_)
      · unfold v67
        refine Changes.andThen ?_ (State.freeBits_changes ..) (by decide) (subset_allRegs _)
        exact Changes.refl _ _ _
      clear_value v67
      refine Changes.ite ?_ ?_
      · refine Changes.andThen ?_ (State.unsupportedReq_changes ..) (by decide) (subset_allRegs _)
        assumption
      · refine Changes.ite ?_ ?_
        · refine Changes.ite ?_ ?_
          · exact Changes.refl _ _ _
          · refine Changes.ite ?_ ?_
            · refine Changes.andThen ?_ (State.refuseHal_changes ..) (by decide) (subset_allRegs _)
              exact Changes.refl _ _ _
            · refine Changes.stage ?_ (by decide +kernel)
              exact Changes.refl _ _ _
        · refine Changes.ite ?_ ?_
          · refine Changes.bump ?_ (mem_allRegs _)
            exact Changes.refl _ _ _
          · exact Changes.refl _ _ _
  · rename_i y69
    unfold execHalSeqCmd
    extract_lets v70 v71 v72
    clear_value v70
    clear_value v71
    clear_value v72
    rw [resState_next]
    unfold State.writeGate
    refine Changes.ite ?_ ?_
    · exact Changes.refl _ _ _
    · unfold State.gated
      unfold State.flrGate
      extract_lets v73
      refine Changes.cut (x := v73.2) ?_ (fun h74 => ?_)
      · unfold v73
        refine Changes.andThen ?_ (State.freeBits_changes ..) (by decide) (subset_allRegs _)
        exact Changes.refl _ _ _
      clear_value v73
      refine Changes.ite ?_ ?_
      · refine Changes.andThen ?_ (State.unsupportedReq_changes ..) (by decide) (subset_allRegs _)
        assumption
      · refine Changes.ite ?_ ?_
        · refine Changes.ite ?_ ?_
          · refine Changes.andThen ?_ (State.startSeq_changes ..) (by decide) (subset_allRegs _)
            exact Changes.refl _ _ _
          · exact Changes.refl _ _ _
        · refine Changes.ite ?_ ?_
          · refine Changes.bump ?_ (mem_allRegs _)
            exact Changes.refl _ _ _
          · exact Changes.refl _ _ _
  · rename_i y75
    unfold State.writeGate
    refine Changes.ite ?_ ?_
    · exact Changes.refl _ _ _
    · unfold State.gated
      unfold State.flrGate
      extract_lets v76
      refine Changes.cut (x := v76.2) ?_ (fun h77 => ?_)
      · unfold v76
        refine Changes.andThen ?_ (State.freeBits_changes ..) (by decide) (subset_allRegs _)
        exact Changes.refl _ _ _
      clear_value v76
      refine Changes.ite ?_ ?_
      · refine Changes.andThen ?_ (State.unsupportedReq_changes ..) (by decide) (subset_allRegs _)
        assumption
      · refine Changes.ite ?_ ?_
        · refine Changes.andThen ?_ (State.dmaCfg_changes ..) (by decide) (subset_allRegs _)
          exact Changes.refl _ _ _
        · refine Changes.ite ?_ ?_
          · refine Changes.bump ?_ (mem_allRegs _)
            exact Changes.refl _ _ _
          · exact Changes.refl _ _ _
  · rename_i y78
    refine Changes.andThen ?_ (State.dmaCmd_changes ..) (by decide) (subset_allRegs _)
    exact Changes.refl _ _ _
  · rename_i y79
    unfold execDmaDoorbell
    rw [resState_next]
    unfold State.writeGate
    refine Changes.ite ?_ ?_
    · exact Changes.refl _ _ _
    · unfold State.gated
      unfold State.flrGate
      extract_lets v80
      refine Changes.cut (x := v80.2) ?_ (fun h81 => ?_)
      · unfold v80
        refine Changes.andThen ?_ (State.freeBits_changes ..) (by decide) (subset_allRegs _)
        exact Changes.refl _ _ _
      clear_value v80
      refine Changes.ite ?_ ?_
      · refine Changes.andThen ?_ (State.unsupportedReq_changes ..) (by decide) (subset_allRegs _)
        assumption
      · refine Changes.ite ?_ ?_
        · refine Changes.andThen ?_ (State.doorbell_changes ..) (by decide) (subset_allRegs _)
          exact Changes.refl _ _ _
        · refine Changes.ite ?_ ?_
          · refine Changes.bump ?_ (mem_allRegs _)
            exact Changes.refl _ _ _
          · exact Changes.refl _ _ _
  · rename_i y82
    refine Changes.andThen ?_ (State.queCmd_changes ..) (by decide) (subset_allRegs _)
    exact Changes.refl _ _ _
  · rename_i y83
    unfold execQueWrHead
    extract_lets v84 v85 v86
    refine Changes.cut (x := v84) ?_ (fun h87 => ?_)
    · unfold v84
      refine Changes.andThen ?_ (State.quePtrCheck_changes ..) (by decide) (subset_allRegs _)
      exact Changes.refl _ _ _
    refine Changes.cut (x := v86) ?_ (fun h88 => ?_)
    · unfold v86
      refine Changes.ite ?_ ?_
      · refine Changes.bump ?_ (mem_allRegs _)
        assumption
      · assumption
    clear_value v84
    clear_value v85
    clear_value v86
    rw [resState_next]
    unfold State.writeGate
    refine Changes.ite ?_ ?_
    · exact Changes.refl _ _ _
    · unfold State.gated
      unfold State.flrGate
      extract_lets v89
      refine Changes.cut (x := v89.2) ?_ (fun h90 => ?_)
      · unfold v89
        refine Changes.andThen ?_ (State.freeBits_changes ..) (by decide) (subset_allRegs _)
        exact Changes.refl _ _ _
      clear_value v89
      refine Changes.ite ?_ ?_
      · refine Changes.andThen ?_ (State.unsupportedReq_changes ..) (by decide) (subset_allRegs _)
        assumption
      · refine Changes.ite ?_ ?_
        · refine Changes.andThen ?_ (State.putQue_changes ..) (by decide) (subset_allRegs _)
          assumption
        · refine Changes.ite ?_ ?_
          · refine Changes.bump ?_ (mem_allRegs _)
            exact Changes.refl _ _ _
          · exact Changes.refl _ _ _
  · rename_i y91
    unfold execQueWrData
    extract_lets v92 v93
    refine Changes.cut (x := v92) ?_ (fun h94 => ?_)
    · unfold v92
      refine Changes.andThen ?_ (State.quePtrCheck_changes ..) (by decide) (subset_allRegs _)
      exact Changes.refl _ _ _
    clear_value v92
    clear_value v93
    rw [resState_next]
    unfold State.writeGate
    refine Changes.ite ?_ ?_
    · exact Changes.refl _ _ _
    · unfold State.gated
      unfold State.flrGate
      extract_lets v95
      refine Changes.cut (x := v95.2) ?_ (fun h96 => ?_)
      · unfold v95
        refine Changes.andThen ?_ (State.freeBits_changes ..) (by decide) (subset_allRegs _)
        exact Changes.refl _ _ _
      clear_value v95
      refine Changes.ite ?_ ?_
      · refine Changes.andThen ?_ (State.unsupportedReq_changes ..) (by decide) (subset_allRegs _)
        assumption
      · refine Changes.ite ?_ ?_
        · split
          · rename_i y97 y98
            assumption
          · rename_i y99 y100 y101
            extract_lets v102
            clear_value v102
            refine Changes.ite ?_ ?_
            · refine Changes.andThen ?_ (State.putQue_changes ..) (by decide) (subset_allRegs _)
              assumption
            · refine Changes.andThen ?_ (State.queCommit_changes ..) (by decide) (subset_allRegs _)
              refine Changes.andThen ?_ (State.putQue_changes ..) (by decide) (subset_allRegs _)
              assumption
        · refine Changes.ite ?_ ?_
          · refine Changes.bump ?_ (mem_allRegs _)
            exact Changes.refl _ _ _
          · exact Changes.refl _ _ _
  · rename_i y103
    refine Changes.andThen ?_ (State.timCmd_changes ..) (by decide) (subset_allRegs _)
    exact Changes.refl _ _ _
  · rename_i y104
    unfold State.writeGate
    refine Changes.ite ?_ ?_
    · exact Changes.refl _ _ _
    · unfold State.gated
      unfold State.flrGate
      extract_lets v105
      refine Changes.cut (x := v105.2) ?_ (fun h106 => ?_)
      · unfold v105
        refine Changes.andThen ?_ (State.freeBits_changes ..) (by decide) (subset_allRegs _)
        exact Changes.refl _ _ _
      clear_value v105
      refine Changes.ite ?_ ?_
      · refine Changes.andThen ?_ (State.unsupportedReq_changes ..) (by decide) (subset_allRegs _)
        assumption
      · refine Changes.ite ?_ ?_
        · refine Changes.andThen ?_ (State.schCommand_changes ..) (by decide) (subset_allRegs _)
          exact Changes.refl _ _ _
        · refine Changes.ite ?_ ?_
          · refine Changes.bump ?_ (mem_allRegs _)
            exact Changes.refl _ _ _
          · exact Changes.refl _ _ _
  · rename_i y107
    unfold execRingSend
    rw [resState_next]
    unfold State.writeGate
    refine Changes.ite ?_ ?_
    · exact Changes.refl _ _ _
    · unfold State.gated
      unfold State.flrGate
      extract_lets v108
      refine Changes.cut (x := v108.2) ?_ (fun h109 => ?_)
      · unfold v108
        refine Changes.andThen ?_ (State.freeBits_changes ..) (by decide) (subset_allRegs _)
        exact Changes.refl _ _ _
      clear_value v108
      refine Changes.ite ?_ ?_
      · refine Changes.andThen ?_ (State.unsupportedReq_changes ..) (by decide) (subset_allRegs _)
        assumption
      · refine Changes.ite ?_ ?_
        · refine Changes.ite ?_ ?_
          · refine Changes.andThen ?_ (State.ringSend_changes ..) (by decide) (subset_allRegs _)
            exact Changes.refl _ _ _
          · exact Changes.refl _ _ _
        · refine Changes.ite ?_ ?_
          · refine Changes.bump ?_ (mem_allRegs _)
            exact Changes.refl _ _ _
          · exact Changes.refl _ _ _
  · rename_i y110
    refine Changes.andThen ?_ (State.wdtWrite_changes ..) (by decide) (subset_allRegs _)
    exact Changes.refl _ _ _
  · rename_i y111
    refine Changes.andThen ?_ (State.modeReq_changes ..) (by decide) (subset_allRegs _)
    exact Changes.refl _ _ _
  · rename_i y112
    refine Changes.andThen ?_ (State.domReq_changes ..) (by decide) (subset_allRegs _)
    exact Changes.refl _ _ _
  · rename_i y113
    unfold State.onBit
    refine Changes.ite ?_ ?_
    · beta_reduce
      unfold execSoftReset
      rw [resState_next]
      unfold State.writeGate
      refine Changes.ite ?_ ?_
      · exact Changes.refl _ _ _
      · unfold State.gated
        unfold State.flrGate
        extract_lets v114
        refine Changes.cut (x := v114.2) ?_ (fun h115 => ?_)
        · unfold v114
          refine Changes.andThen ?_ (State.freeBits_changes ..) (by decide) (subset_allRegs _)
          exact Changes.refl _ _ _
        clear_value v114
        refine Changes.ite ?_ ?_
        · refine Changes.andThen ?_ (State.unsupportedReq_changes ..) (by decide) (subset_allRegs _)
          assumption
        · refine Changes.ite ?_ ?_
          · refine Changes.andThen ?_ (State.resetTo_changes ..) (by decide) (subset_allRegs _)
            exact Changes.refl _ _ _
          · refine Changes.ite ?_ ?_
            · refine Changes.bump ?_ (mem_allRegs _)
              exact Changes.refl _ _ _
            · exact Changes.refl _ _ _
    · exact Changes.refl _ _ _
  · rename_i y116
    refine Changes.andThen ?_ (State.bootCmd_changes ..) (by decide) (subset_allRegs _)
    exact Changes.refl _ _ _
  · rename_i y117
    unfold State.onBit
    refine Changes.ite ?_ ?_
    · beta_reduce
      unfold execRecordingBoundary
      rw [resState_next]
      refine Changes.andThen ?_ (State.boundary_changes ..) (by decide) (subset_allRegs _)
      exact Changes.refl _ _ _
    · exact Changes.refl _ _ _
  · rename_i y118
    refine Changes.andThen ?_ (State.mbxCmd_changes ..) (by decide) (subset_allRegs _)
    exact Changes.refl _ _ _
  · rename_i y119 y120 y121 y122 y123 y124 y125 y126 y127 y128 y129 y130 y131 y132 y133 y134 y135 y136 y137 y138 y139 y140 y141 y142 y143 y144 y145 y146 y147 y148 y149 y150 y151 y152 y153 y154 y155 y156 y157 y158 y159
    unfold State.writeGate
    refine Changes.ite ?_ ?_
    · exact Changes.refl _ _ _
    · unfold State.gated
      unfold State.flrGate
      extract_lets v160
      refine Changes.cut (x := v160.2) ?_ (fun h161 => ?_)
      · unfold v160
        refine Changes.andThen ?_ (State.freeBits_changes ..) (by decide) (subset_allRegs _)
        exact Changes.refl _ _ _
      clear_value v160
      refine Changes.ite ?_ ?_
      · refine Changes.andThen ?_ (State.unsupportedReq_changes ..) (by decide) (subset_allRegs _)
        assumption
      · refine Changes.ite ?_ ?_
        · refine Changes.andThen ?_ (State.plainWrite_changes ..) (by decide) (subset_allRegs _)
          exact Changes.refl _ _ _
        · refine Changes.ite ?_ ?_
          · refine Changes.bump ?_ (mem_allRegs _)
            exact Changes.refl _ _ _
          · exact Changes.refl _ _ _

theorem State.memWrite_changes (s : State) (who : Requester) (m : MemWord) (v : Word) :
    Changes [.bar0, .staged, .outbox, .freeCtr, .capt, .sht, .bch, .beams, .scn, .cal, .hal, .pceCfg, .pce]
      allRegs s (State.memWrite s who m v) := by
  unfold State.memWrite
  split
  · rename_i y1 y2
    unfold State.memGate
    refine Changes.ite ?_ ?_
    · exact Changes.refl _ _ _
    · unfold State.gated
      unfold State.flrGate
      extract_lets v3
      refine Changes.cut (x := v3.2) ?_ (fun h4 => ?_)
      · unfold v3
        refine Changes.andThen ?_ (State.freeBits_changes ..) (by decide) (subset_allRegs _)
        exact Changes.refl _ _ _
      clear_value v3
      refine Changes.ite ?_ ?_
      · refine Changes.andThen ?_ (State.unsupportedReq_changes ..) (by decide) (subset_allRegs _)
        assumption
      · refine Changes.ite ?_ ?_
        · refine Changes.memWr ?_ (by decide +kernel)
          exact Changes.refl _ _ _
        · refine Changes.ite ?_ ?_
          · refine Changes.bump ?_ (mem_allRegs _)
            exact Changes.refl _ _ _
          · exact Changes.refl _ _ _
  · rename_i y5 y6
    unfold State.memGate
    refine Changes.ite ?_ ?_
    · exact Changes.refl _ _ _
    · unfold State.gated
      unfold State.flrGate
      extract_lets v7
      refine Changes.cut (x := v7.2) ?_ (fun h8 => ?_)
      · unfold v7
        refine Changes.andThen ?_ (State.freeBits_changes ..) (by decide) (subset_allRegs _)
        exact Changes.refl _ _ _
      clear_value v7
      refine Changes.ite ?_ ?_
      · refine Changes.andThen ?_ (State.unsupportedReq_changes ..) (by decide) (subset_allRegs _)
        assumption
      · refine Changes.ite ?_ ?_
        · refine Changes.memWr ?_ (by decide +kernel)
          exact Changes.refl _ _ _
        · refine Changes.ite ?_ ?_
          · refine Changes.bump ?_ (mem_allRegs _)
            exact Changes.refl _ _ _
          · exact Changes.refl _ _ _
  · rename_i y9 y10 y11
    unfold State.memGate
    refine Changes.ite ?_ ?_
    · exact Changes.refl _ _ _
    · unfold State.gated
      unfold State.flrGate
      extract_lets v12
      refine Changes.cut (x := v12.2) ?_ (fun h13 => ?_)
      · unfold v12
        refine Changes.andThen ?_ (State.freeBits_changes ..) (by decide) (subset_allRegs _)
        exact Changes.refl _ _ _
      clear_value v12
      refine Changes.ite ?_ ?_
      · refine Changes.andThen ?_ (State.unsupportedReq_changes ..) (by decide) (subset_allRegs _)
        assumption
      · refine Changes.ite ?_ ?_
        · refine Changes.memWr ?_ (by decide +kernel)
          exact Changes.refl _ _ _
        · refine Changes.ite ?_ ?_
          · refine Changes.bump ?_ (mem_allRegs _)
            exact Changes.refl _ _ _
          · exact Changes.refl _ _ _
  · rename_i y14 y15
    unfold State.memGate
    refine Changes.ite ?_ ?_
    · exact Changes.refl _ _ _
    · unfold State.gated
      unfold State.flrGate
      extract_lets v16
      refine Changes.cut (x := v16.2) ?_ (fun h17 => ?_)
      · unfold v16
        refine Changes.andThen ?_ (State.freeBits_changes ..) (by decide) (subset_allRegs _)
        exact Changes.refl _ _ _
      clear_value v16
      refine Changes.ite ?_ ?_
      · refine Changes.andThen ?_ (State.unsupportedReq_changes ..) (by decide) (subset_allRegs _)
        assumption
      · refine Changes.ite ?_ ?_
        · refine Changes.trans ?_ (State.eachOf_changes (fun k18 s19 => ?_) _ _)
          · refine Changes.memWr ?_ (by decide +kernel)
            exact Changes.refl _ _ _
          · refine Changes.andThen ?_ (State.cmpShow_changes ..) (by decide) (subset_allRegs _)
            exact Changes.refl _ _ _
        · refine Changes.ite ?_ ?_
          · refine Changes.bump ?_ (mem_allRegs _)
            exact Changes.refl _ _ _
          · exact Changes.refl _ _ _
  · rename_i y20 y21 y22
    unfold execFrameBufferWrite
    rw [resState_next]
    unfold State.writeGate
    refine Changes.ite ?_ ?_
    · exact Changes.refl _ _ _
    · unfold State.gated
      unfold State.flrGate
      extract_lets v23
      refine Changes.cut (x := v23.2) ?_ (fun h24 => ?_)
      · unfold v23
        refine Changes.andThen ?_ (State.freeBits_changes ..) (by decide) (subset_allRegs _)
        exact Changes.refl _ _ _
      clear_value v23
      refine Changes.ite ?_ ?_
      · refine Changes.andThen ?_ (State.unsupportedReq_changes ..) (by decide) (subset_allRegs _)
        assumption
      · refine Changes.ite ?_ ?_
        · refine Changes.ite ?_ ?_
          · refine Changes.bump ?_ (mem_allRegs _)
            exact Changes.refl _ _ _
          · refine Changes.memWr ?_ (by decide +kernel)
            exact Changes.refl _ _ _
        · refine Changes.ite ?_ ?_
          · refine Changes.bump ?_ (mem_allRegs _)
            exact Changes.refl _ _ _
          · exact Changes.refl _ _ _
  · rename_i y25 y26
    unfold execDefectMapWrite
    rw [resState_next]
    unfold State.writeGate
    refine Changes.ite ?_ ?_
    · exact Changes.refl _ _ _
    · unfold State.gated
      unfold State.flrGate
      extract_lets v27
      refine Changes.cut (x := v27.2) ?_ (fun h28 => ?_)
      · unfold v27
        refine Changes.andThen ?_ (State.freeBits_changes ..) (by decide) (subset_allRegs _)
        exact Changes.refl _ _ _
      clear_value v27
      refine Changes.ite ?_ ?_
      · refine Changes.andThen ?_ (State.unsupportedReq_changes ..) (by decide) (subset_allRegs _)
        assumption
      · refine Changes.ite ?_ ?_
        · refine Changes.memWr ?_ (by decide +kernel)
          exact Changes.refl _ _ _
        · refine Changes.ite ?_ ?_
          · refine Changes.bump ?_ (mem_allRegs _)
            exact Changes.refl _ _ _
          · exact Changes.refl _ _ _
  · rename_i y29 y30
    unfold State.memGate
    refine Changes.ite ?_ ?_
    · exact Changes.refl _ _ _
    · unfold State.gated
      unfold State.flrGate
      extract_lets v31
      refine Changes.cut (x := v31.2) ?_ (fun h32 => ?_)
      · unfold v31
        refine Changes.andThen ?_ (State.freeBits_changes ..) (by decide) (subset_allRegs _)
        exact Changes.refl _ _ _
      clear_value v31
      refine Changes.ite ?_ ?_
      · refine Changes.andThen ?_ (State.unsupportedReq_changes ..) (by decide) (subset_allRegs _)
        assumption
      · refine Changes.ite ?_ ?_
        · refine Changes.stage ?_ (by decide +kernel)
          exact Changes.refl _ _ _
        · refine Changes.ite ?_ ?_
          · refine Changes.bump ?_ (mem_allRegs _)
            exact Changes.refl _ _ _
          · exact Changes.refl _ _ _
  · rename_i y33 y34
    unfold State.memGate
    refine Changes.ite ?_ ?_
    · exact Changes.refl _ _ _
    · unfold State.gated
      unfold State.flrGate
      extract_lets v35
      refine Changes.cut (x := v35.2) ?_ (fun h36 => ?_)
      · unfold v35
        refine Changes.andThen ?_ (State.freeBits_changes ..) (by decide) (subset_allRegs _)
        exact Changes.refl _ _ _
      clear_value v35
      refine Changes.ite ?_ ?_
      · refine Changes.andThen ?_ (State.unsupportedReq_changes ..) (by decide) (subset_allRegs _)
        assumption
      · refine Changes.ite ?_ ?_
        · refine Changes.stage ?_ (by decide +kernel)
          exact Changes.refl _ _ _
        · refine Changes.ite ?_ ?_
          · refine Changes.bump ?_ (mem_allRegs _)
            exact Changes.refl _ _ _
          · exact Changes.refl _ _ _
  · rename_i y37 y38
    extract_lets v39 v40
    refine Changes.cut (x := v39) ?_ (fun h41 => ?_)
    · unfold v39
      refine Changes.stage ?_ (by decide +kernel)
      exact Changes.refl _ _ _
    clear_value v39
    clear_value v40
    unfold State.memGate
    refine Changes.ite ?_ ?_
    · exact Changes.refl _ _ _
    · unfold State.gated
      unfold State.flrGate
      extract_lets v42
      refine Changes.cut (x := v42.2) ?_ (fun h43 => ?_)
      · unfold v42
        refine Changes.andThen ?_ (State.freeBits_changes ..) (by decide) (subset_allRegs _)
        exact Changes.refl _ _ _
      clear_value v42
      refine Changes.ite ?_ ?_
      · refine Changes.andThen ?_ (State.unsupportedReq_changes ..) (by decide) (subset_allRegs _)
        assumption
      · refine Changes.ite ?_ ?_
        · refine Changes.cal ?_ (by decide +kernel)
          assumption
        · refine Changes.ite ?_ ?_
          · refine Changes.bump ?_ (mem_allRegs _)
            exact Changes.refl _ _ _
          · exact Changes.refl _ _ _
  · rename_i y44 y45 y46
    unfold execStreamWindowWrite
    extract_lets v47 v48 v49
    refine Changes.cut (x := v49) ?_ (fun h50 => ?_)
    · unfold v49
      refine Changes.andThen ?_ (State.streamLevel_changes ..) (by decide) (subset_allRegs _)
      refine Changes.andThen ?_ (State.setSc_changes ..) (by decide) (subset_allRegs _)
      exact Changes.refl _ _ _
    clear_value v47
    clear_value v48
    clear_value v49
    rw [resState_next]
    refine Changes.ite ?_ ?_
    · exact Changes.refl _ _ _
    · refine Changes.ite ?_ ?_
      · refine Changes.bump ?_ (mem_allRegs _)
        exact Changes.refl _ _ _
      · refine Changes.ite ?_ ?_
        · refine Changes.andThen ?_ (State.setSc_changes ..) (by decide) (subset_allRegs _)
          exact Changes.refl _ _ _
        · refine Changes.ite ?_ ?_
          · refine Changes.andThen ?_ (State.overflowHalt_changes ..) (by decide) (subset_allRegs _)
            refine Changes.andThen ?_ (State.setSc_changes ..) (by decide) (subset_allRegs _)
            exact Changes.refl _ _ _
          · refine Changes.ite ?_ ?_
            · refine Changes.andThen ?_ (State.clearCause_changes ..) (by decide) (subset_allRegs _)
              assumption
            · assumption
  · rename_i y51 y52
    exact Changes.refl _ _ _
  · rename_i y53 y54 y55
    exact Changes.refl _ _ _
  · rename_i y56 y57 y58
    exact Changes.refl _ _ _
  · rename_i y59 y60
    exact Changes.refl _ _ _
  · rename_i y61 y62
    exact Changes.refl _ _ _
  · rename_i y63 y64
    exact Changes.refl _ _ _

theorem State.badWrite_changes (s : State) (who : Requester) (n : Nat) :
    Changes [] [.PCE_CNT_BAD_ACCESS] s (State.badWrite s who n) := by
  unfold State.badWrite
  refine Changes.ite ?_ ?_
  · refine Changes.bumpBy ?_ (by decide +kernel)
    exact Changes.refl _ _ _
  · exact Changes.refl _ _ _

theorem State.busWrite_changes (s : State) (who : Requester) (a : Nat) (v : Word) :
    Changes (([.fuse, .fine, .bar0, .staged, .outbox, .freeCtr, .lnk, .port, .cap, .capt, .mst, .sht, .bch,
      .beams, .scn, .cal, .lum, .proj, .hal, .pceCfg] : List Part) ++ ([.pce, .dma, .que, .ddr, .fst, .ses,
      .flash, .boot, .tim, .enc, .ssi, .helm, .pwr] : List Part)) allRegs s (State.busWrite s who a v) := by
  unfold State.busWrite
  unfold State.flrGate
  extract_lets v1
  refine Changes.cut (x := v1.2) ?_ (fun h2 => ?_)
  · unfold v1
    refine Changes.andThen ?_ (State.freeBits_changes ..) (by decide) (subset_allRegs _)
    exact Changes.refl _ _ _
  clear_value v1
  refine Changes.ite ?_ ?_
  · refine Changes.andThen ?_ (State.unsupportedReq_changes ..) (by decide) (subset_allRegs _)
    assumption
  · refine Changes.ite ?_ ?_
    · refine Changes.andThen ?_ (State.badWrite_changes ..) (by decide) (subset_allRegs _)
      exact Changes.refl _ _ _
    · refine Changes.ite ?_ ?_
      · exact Changes.refl _ _ _
      · split
        · rename_i y3 y4 y5
          refine Changes.andThen ?_ (State.memWrite_changes ..) (by decide) (subset_allRegs _)
          exact Changes.refl _ _ _
        · rename_i y6 y7
          split
          · rename_i y8 y9 y10 y11 y12
            refine Changes.andThen ?_ (State.regWrite_changes ..) (by decide) (subset_allRegs _)
            exact Changes.refl _ _ _
          · rename_i y13 y14
            refine Changes.andThen ?_ (State.badWrite_changes ..) (by decide) (subset_allRegs _)
            exact Changes.refl _ _ _

theorem State.plainRead_changes (s : State) (who : Requester) (r : Reg) (i : Nat) (j : Nat) :
    Changes [.outbox, .freeCtr, .sht, .bch, .beams, .scn, .lum, .hal, .ses, .helm] allRegs s (State.plainRead s
      who r i j) := by
  unfold State.plainRead
  extract_lets v1
  refine Changes.cut (x := v1) ?_ (fun h2 => ?_)
  · unfold v1
    refine Changes.andThen ?_ (State.upToDate_changes ..) (by decide) (subset_allRegs _)
    exact Changes.refl _ _ _
  clear_value v1
  unfold State.readAt
  refine Changes.ite ?_ ?_
  · refine Changes.emit ?_ (by decide +kernel)
    assumption
  · refine Changes.ite ?_ ?_
    · refine Changes.andThen ?_ (State.journalRead_changes ..) (by decide) (subset_allRegs _)
      refine Changes.emit ?_ (by decide +kernel)
      beta_reduce
      refine Changes.wr ?_ (mem_allRegs _)
      assumption
    · refine Changes.emit ?_ (by decide +kernel)
      refine Changes.ite ?_ ?_
      · refine Changes.bump ?_ (mem_allRegs _)
        assumption
      · assumption

theorem State.regRead_changes (s : State) (who : Requester) (r : Reg) (i : Nat) (j : Nat) :
    Changes [.outbox, .freeCtr, .mst, .sht, .bch, .beams, .scn, .lum, .hal, .pceCfg, .pce, .que, .ses, .helm,
      .pwr] allRegs s (State.regRead s who r i j) := by
  unfold State.regRead
  split
  · rename_i y1
    unfold execBerBitsLoRead
    rw [resState_next]
    unfold State.readGate
    unfold State.flrGate
    extract_lets v2
    refine Changes.cut (x := v2.2) ?_ (fun h3 => ?_)
    · unfold v2
      refine Changes.andThen ?_ (State.freeBits_changes ..) (by decide) (subset_allRegs _)
      exact Changes.refl _ _ _
    clear_value v2
    refine Changes.ite ?_ ?_
    · refine Changes.andThen ?_ (State.unsupportedReq_changes ..) (by decide) (subset_allRegs _)
      assumption
    · refine Changes.ite ?_ ?_
      · refine Changes.emit ?_ (by decide +kernel)
        exact Changes.refl _ _ _
      · refine Changes.ite ?_ ?_
        · refine Changes.andThen ?_ (State.journalRead_changes ..) (by decide) (subset_allRegs _)
          refine Changes.emit ?_ (by decide +kernel)
          refine Changes.wr ?_ (mem_allRegs _)
          exact Changes.refl _ _ _
        · refine Changes.emit ?_ (by decide +kernel)
          refine Changes.ite ?_ ?_
          · refine Changes.bump ?_ (mem_allRegs _)
            exact Changes.refl _ _ _
          · exact Changes.refl _ _ _
  · rename_i y4
    unfold execFrameNumLoRead
    rw [resState_next]
    unfold State.readGate
    unfold State.flrGate
    extract_lets v5
    refine Changes.cut (x := v5.2) ?_ (fun h6 => ?_)
    · unfold v5
      refine Changes.andThen ?_ (State.freeBits_changes ..) (by decide) (subset_allRegs _)
      exact Changes.refl _ _ _
    clear_value v5
    refine Changes.ite ?_ ?_
    · refine Changes.andThen ?_ (State.unsupportedReq_changes ..) (by decide) (subset_allRegs _)
      assumption
    · refine Changes.ite ?_ ?_
      · refine Changes.emit ?_ (by decide +kernel)
        exact Changes.refl _ _ _
      · refine Changes.ite ?_ ?_
        · refine Changes.andThen ?_ (State.journalRead_changes ..) (by decide) (subset_allRegs _)
          refine Changes.emit ?_ (by decide +kernel)
          refine Changes.wr ?_ (mem_allRegs _)
          exact Changes.refl _ _ _
        · refine Changes.emit ?_ (by decide +kernel)
          refine Changes.ite ?_ ?_
          · refine Changes.bump ?_ (mem_allRegs _)
            exact Changes.refl _ _ _
          · exact Changes.refl _ _ _
  · rename_i y7
    unfold execFault0Read
    extract_lets v8
    clear_value v8
    rw [resState_next]
    unfold State.readGate
    unfold State.flrGate
    extract_lets v9
    refine Changes.cut (x := v9.2) ?_ (fun h10 => ?_)
    · unfold v9
      refine Changes.andThen ?_ (State.freeBits_changes ..) (by decide) (subset_allRegs _)
      exact Changes.refl _ _ _
    clear_value v9
    refine Changes.ite ?_ ?_
    · refine Changes.andThen ?_ (State.unsupportedReq_changes ..) (by decide) (subset_allRegs _)
      assumption
    · refine Changes.ite ?_ ?_
      · refine Changes.emit ?_ (by decide +kernel)
        exact Changes.refl _ _ _
      · refine Changes.ite ?_ ?_
        · refine Changes.andThen ?_ (State.journalRead_changes ..) (by decide) (subset_allRegs _)
          split
          · rename_i y11 y12
            refine Changes.emit ?_ (by decide +kernel)
            exact Changes.refl _ _ _
          · rename_i y13 y14 y15 y16 y17
            extract_lets v18
            refine Changes.cut (x := v18) ?_ (fun h19 => ?_)
            · unfold v18
              refine Changes.wr ?_ (mem_allRegs _)
              refine Changes.andThen ?_ (State.setMs_changes ..) (by decide) (subset_allRegs _)
              exact Changes.refl _ _ _
            clear_value v18
            refine Changes.emit ?_ (by decide +kernel)
            refine Changes.setFld ?_ (mem_allRegs _)
            assumption
        · refine Changes.emit ?_ (by decide +kernel)
          refine Changes.ite ?_ ?_
          · refine Changes.bump ?_ (mem_allRegs _)
            exact Changes.refl _ _ _
          · exact Changes.refl _ _ _
  · rename_i y20
    unfold execPathLoRead
    extract_lets v21 v22
    refine Changes.cut (x := v21) ?_ (fun h23 => ?_)
    · unfold v21
      refine Changes.andThen ?_ (State.refresh_changes ..) (by decide) (subset_allRegs _)
      exact Changes.refl _ _ _
    clear_value v21
    clear_value v22
    rw [resState_next]
    unfold State.readGate
    unfold State.flrGate
    extract_lets v24
    refine Changes.cut (x := v24.2) ?_ (fun h25 => ?_)
    · unfold v24
      refine Changes.andThen ?_ (State.freeBits_changes ..) (by decide) (subset_allRegs _)
      exact Changes.refl _ _ _
    clear_value v24
    refine Changes.ite ?_ ?_
    · refine Changes.andThen ?_ (State.unsupportedReq_changes ..) (by decide) (subset_allRegs _)
      assumption
    · refine Changes.ite ?_ ?_
      · refine Changes.emit ?_ (by decide +kernel)
        exact Changes.refl _ _ _
      · refine Changes.ite ?_ ?_
        · refine Changes.andThen ?_ (State.journalRead_changes ..) (by decide) (subset_allRegs _)
          refine Changes.emit ?_ (by decide +kernel)
          refine Changes.wr ?_ (mem_allRegs _)
          refine Changes.wr ?_ (mem_allRegs _)
          assumption
        · refine Changes.emit ?_ (by decide +kernel)
          refine Changes.ite ?_ ?_
          · refine Changes.bump ?_ (mem_allRegs _)
            exact Changes.refl _ _ _
          · exact Changes.refl _ _ _
  · rename_i y26
    unfold execQueRdHead
    extract_lets v27 v28 v29
    refine Changes.cut (x := v27) ?_ (fun h30 => ?_)
    · unfold v27
      refine Changes.andThen ?_ (State.quePtrCheck_changes ..) (by decide) (subset_allRegs _)
      refine Changes.andThen ?_ (State.queUpset_changes ..) (by decide) (subset_allRegs _)
      exact Changes.refl _ _ _
    clear_value v27
    clear_value v28
    clear_value v29
    rw [resState_next]
    unfold State.readGate
    unfold State.flrGate
    extract_lets v31
    refine Changes.cut (x := v31.2) ?_ (fun h32 => ?_)
    · unfold v31
      refine Changes.andThen ?_ (State.freeBits_changes ..) (by decide) (subset_allRegs _)
      exact Changes.refl _ _ _
    clear_value v31
    refine Changes.ite ?_ ?_
    · refine Changes.andThen ?_ (State.unsupportedReq_changes ..) (by decide) (subset_allRegs _)
      assumption
    · refine Changes.ite ?_ ?_
      · refine Changes.emit ?_ (by decide +kernel)
        exact Changes.refl _ _ _
      · refine Changes.ite ?_ ?_
        · refine Changes.andThen ?_ (State.journalRead_changes ..) (by decide) (subset_allRegs _)
          refine Changes.ite ?_ ?_
          · refine Changes.emit ?_ (by decide +kernel)
            refine Changes.setFld ?_ (mem_allRegs _)
            assumption
          · split
            · rename_i y33 y34 y35
              refine Changes.emit ?_ (by decide +kernel)
              assumption
            · rename_i y36 y37
              split
              · rename_i y38 y39 y40
                refine Changes.emit ?_ (by decide +kernel)
                refine Changes.andThen ?_ (State.putQue_changes ..) (by decide) (subset_allRegs _)
                assumption
              · rename_i y41 y42
                refine Changes.emit ?_ (by decide +kernel)
                refine Changes.setFld ?_ (mem_allRegs _)
                assumption
        · refine Changes.emit ?_ (by decide +kernel)
          refine Changes.ite ?_ ?_
          · refine Changes.bump ?_ (mem_allRegs _)
            exact Changes.refl _ _ _
          · exact Changes.refl _ _ _
  · rename_i y43
    unfold execQueRdData
    extract_lets v44 v45
    refine Changes.cut (x := v44) ?_ (fun h46 => ?_)
    · unfold v44
      refine Changes.andThen ?_ (State.quePtrCheck_changes ..) (by decide) (subset_allRegs _)
      exact Changes.refl _ _ _
    clear_value v44
    clear_value v45
    rw [resState_next]
    unfold State.readGate
    unfold State.flrGate
    extract_lets v47
    refine Changes.cut (x := v47.2) ?_ (fun h48 => ?_)
    · unfold v47
      refine Changes.andThen ?_ (State.freeBits_changes ..) (by decide) (subset_allRegs _)
      exact Changes.refl _ _ _
    clear_value v47
    refine Changes.ite ?_ ?_
    · refine Changes.andThen ?_ (State.unsupportedReq_changes ..) (by decide) (subset_allRegs _)
      assumption
    · refine Changes.ite ?_ ?_
      · refine Changes.emit ?_ (by decide +kernel)
        exact Changes.refl _ _ _
      · refine Changes.ite ?_ ?_
        · refine Changes.andThen ?_ (State.journalRead_changes ..) (by decide) (subset_allRegs _)
          refine Changes.ite ?_ ?_
          · refine Changes.emit ?_ (by decide +kernel)
            refine Changes.setFld ?_ (mem_allRegs _)
            assumption
          · split
            · rename_i y49 y50
              refine Changes.emit ?_ (by decide +kernel)
              refine Changes.setFld ?_ (mem_allRegs _)
              assumption
            · rename_i y51 y52 y53
              extract_lets v54 v55 v56
              clear_value v54
              clear_value v55
              clear_value v56
              refine Changes.emit ?_ (by decide +kernel)
              refine Changes.andThen ?_ (State.putQue_changes ..) (by decide) (subset_allRegs _)
              assumption
        · refine Changes.emit ?_ (by decide +kernel)
          refine Changes.ite ?_ ?_
          · refine Changes.bump ?_ (mem_allRegs _)
            exact Changes.refl _ _ _
          · exact Changes.refl _ _ _
  · rename_i y57
    unfold execNowSecLoRead
    rw [resState_next]
    unfold State.readGate
    unfold State.flrGate
    extract_lets v58
    refine Changes.cut (x := v58.2) ?_ (fun h59 => ?_)
    · unfold v58
      refine Changes.andThen ?_ (State.freeBits_changes ..) (by decide) (subset_allRegs _)
      exact Changes.refl _ _ _
    clear_value v58
    refine Changes.ite ?_ ?_
    · refine Changes.andThen ?_ (State.unsupportedReq_changes ..) (by decide) (subset_allRegs _)
      assumption
    · refine Changes.ite ?_ ?_
      · refine Changes.emit ?_ (by decide +kernel)
        exact Changes.refl _ _ _
      · refine Changes.ite ?_ ?_
        · refine Changes.andThen ?_ (State.journalRead_changes ..) (by decide) (subset_allRegs _)
          refine Changes.emit ?_ (by decide +kernel)
          refine Changes.wr ?_ (mem_allRegs _)
          refine Changes.wr ?_ (mem_allRegs _)
          exact Changes.refl _ _ _
        · refine Changes.emit ?_ (by decide +kernel)
          refine Changes.ite ?_ ?_
          · refine Changes.bump ?_ (mem_allRegs _)
            exact Changes.refl _ _ _
          · exact Changes.refl _ _ _
  · rename_i y60
    unfold execCapSecLoRead
    extract_lets v61
    clear_value v61
    rw [resState_next]
    unfold State.readGate
    unfold State.flrGate
    extract_lets v62
    refine Changes.cut (x := v62.2) ?_ (fun h63 => ?_)
    · unfold v62
      refine Changes.andThen ?_ (State.freeBits_changes ..) (by decide) (subset_allRegs _)
      exact Changes.refl _ _ _
    clear_value v62
    refine Changes.ite ?_ ?_
    · refine Changes.andThen ?_ (State.unsupportedReq_changes ..) (by decide) (subset_allRegs _)
      assumption
    · refine Changes.ite ?_ ?_
      · refine Changes.emit ?_ (by decide +kernel)
        exact Changes.refl _ _ _
      · refine Changes.ite ?_ ?_
        · refine Changes.andThen ?_ (State.journalRead_changes ..) (by decide) (subset_allRegs _)
          refine Changes.emit ?_ (by decide +kernel)
          refine Changes.setFld ?_ (mem_allRegs _)
          refine Changes.wr ?_ (mem_allRegs _)
          refine Changes.wr ?_ (mem_allRegs _)
          exact Changes.refl _ _ _
        · refine Changes.emit ?_ (by decide +kernel)
          refine Changes.ite ?_ ?_
          · refine Changes.bump ?_ (mem_allRegs _)
            exact Changes.refl _ _ _
          · exact Changes.refl _ _ _
  · rename_i y64
    refine Changes.andThen ?_ (State.plainRead_changes ..) (by decide) (subset_allRegs _)
    refine Changes.andThen ?_ (State.refill_changes ..) (by decide) (subset_allRegs _)
    exact Changes.refl _ _ _
  · rename_i y65 y66 y67 y68 y69 y70 y71 y72 y73 y74
    refine Changes.andThen ?_ (State.plainRead_changes ..) (by decide) (subset_allRegs _)
    exact Changes.refl _ _ _

theorem State.busRead_changes (s : State) (who : Requester) (a : Nat) :
    Changes [.outbox, .freeCtr, .mst, .sht, .bch, .beams, .scn, .lum, .hal, .pceCfg, .pce, .que, .ses, .helm,
      .pwr] allRegs s (State.busRead s who a) := by
  unfold State.busRead
  extract_lets v1
  clear_value v1
  unfold State.flrGate
  extract_lets v2
  refine Changes.cut (x := v2.2) ?_ (fun h3 => ?_)
  · unfold v2
    refine Changes.andThen ?_ (State.freeBits_changes ..) (by decide) (subset_allRegs _)
    exact Changes.refl _ _ _
  clear_value v2
  refine Changes.ite ?_ ?_
  · refine Changes.andThen ?_ (State.unsupportedReq_changes ..) (by decide) (subset_allRegs _)
    assumption
  · refine Changes.ite ?_ ?_
    · refine Changes.andThen ?_ (State.journalRead_changes ..) (by decide) (subset_allRegs _)
      refine Changes.emit ?_ (by decide +kernel)
      exact Changes.refl _ _ _
    · split
      · rename_i y4 y5 y6
        unfold State.readAt
        refine Changes.ite ?_ ?_
        · refine Changes.emit ?_ (by decide +kernel)
          exact Changes.refl _ _ _
        · refine Changes.ite ?_ ?_
          · refine Changes.andThen ?_ (State.journalRead_changes ..) (by decide) (subset_allRegs _)
            refine Changes.emit ?_ (by decide +kernel)
            beta_reduce
            exact Changes.refl _ _ _
          · refine Changes.emit ?_ (by decide +kernel)
            refine Changes.ite ?_ ?_
            · refine Changes.bump ?_ (mem_allRegs _)
              exact Changes.refl _ _ _
            · exact Changes.refl _ _ _
      · rename_i y7 y8
        split
        · rename_i y9 y10 y11 y12 y13
          refine Changes.andThen ?_ (State.regRead_changes ..) (by decide) (subset_allRegs _)
          exact Changes.refl _ _ _
        · rename_i y14 y15
          refine Changes.emit ?_ (by decide +kernel)
          exact Changes.refl _ _ _

theorem State.access_changes (k : Fin 4) (a1 : Nat) (a2 : List Byte) (a3 : State) :
    Changes (([.fuse, .fine, .bar0, .staged, .outbox, .freeCtr, .lnk, .port, .cap, .capt, .mst, .sht, .bch,
      .beams, .scn, .cal, .lum, .proj, .hal, .pceCfg] : List Part) ++ ([.pce, .dma, .que, .ddr, .fst, .ses,
      .flash, .boot, .tim, .enc, .ssi, .helm, .pwr] : List Part)) allRegs a3 (State.access k a1 a2 a3).2 := by
  induction a1 generalizing a2 a3 with
  | zero => exact Changes.refl _ _ _
  | succ n ih =>
    unfold State.access
    refine Changes.trans ?_ (ih _ _)
    split
    · dsimp only
      exact (Changes.refl _ _ _).andThen (State.busWrite_changes ..) (by decide) (subset_allRegs _)
    · exact ((Changes.refl _ _ _).andThen (State.busRead_changes ..) (by decide) (subset_allRegs _)).andThen
        (State.takeReply_changes ..) (by decide) (subset_allRegs _)

theorem State.dgAccess_changes (p : Nat) (k : Nat) (g : Dgram) (s : State) :
    Changes (([.fuse, .fine, .bar0, .staged, .outbox, .freeCtr, .lnk, .port, .cap, .capt, .mst, .sht, .bch,
      .beams, .scn, .cal, .lum, .proj, .hal, .pceCfg] : List Part) ++ ([.pce, .dma, .que, .ddr, .fst, .ses,
      .flash, .boot, .tim, .enc, .ssi, .helm, .pwr] : List Part)) allRegs s (State.dgAccess p k g s) := by
  unfold State.dgAccess
  extract_lets v1 v2 v3 v4 v5
  refine Changes.cut (x := v2.2) ?_ (fun h6 => ?_)
  · unfold v2
    refine Changes.andThen ?_ (State.access_changes ..) (by decide) (subset_allRegs _)
    exact Changes.refl _ _ _
  refine Changes.cut (x := v3.2) ?_ (fun h7 => ?_)
  · unfold v3
    refine Changes.andThen ?_ (State.dgBytes_changes ..) (by decide) (subset_allRegs _)
    assumption
  clear_value v1
  clear_value v2
  clear_value v3
  clear_value v4
  clear_value v5
  refine Changes.ite ?_ ?_
  · exact Changes.refl _ _ _
  · refine Changes.ite ?_ ?_
    · assumption
    · refine Changes.emit ?_ (by decide +kernel)
      refine Changes.andThen ?_ (State.setSlot_changes ..) (by decide) (subset_allRegs _)
      assumption

end Sys2Proof.Machine
end

