-- ==== Sys2Proof/Laws/Gates.lean ====
section
/-!
SUPPORT. What the gates of register accesses do: one lemma for each case.
-/

namespace Sys2Proof.Machine

/-- Where no FLR keeps an access out, the gate lets it through (R425). -/
theorem State.flrGate_open {s : State} {who : Requester} (posted : Bool) (k : State) (h : s.flrBars who = false) :
    s.flrGate who posted k = k := by
  simp [State.flrGate, h]

/-- A write that may act acts. -/
theorem State.writeGate_may {s : State} {who : Requester} {r : Reg} {i : Nat} (k : State) (h : s.mayWrite who r i = true) :
    s.writeGate who r i k = k := by
  simp only [State.mayWrite, Bool.and_eq_true, decide_eq_true_eq, Bool.not_eq_true'] at h
  obtain ⟨⟨⟨h0, h1⟩, h2⟩, h3⟩ := h
  simp [State.writeGate, State.gated, State.flrGate_open _ _ h0, h1, h2, h3]

/-- A write to a unit that does not answer, or to an instance that is absent, changes nothing where no FLR is under way (R5, R403). -/
theorem State.writeGate_closed {s : State} {who : Requester} {r : Reg} {i : Nat} (k : State)
    (h : (s.unitOpen r.info.unit && regPresent s.variant r i) = false) (hf : s.flrBars who = false) :
    s.writeGate who r i k = s := by
  have h2 : (!s.unitOpen r.info.unit || !regPresent s.variant r i) = true := by
    rw [← Bool.not_and, h]; rfl
  simp [State.writeGate, h2, hf]

/-- A read that may act acts, and is journalled where the helm reads. -/
theorem State.readGate_may {s : State} {who : Requester} {unit i lvl : Nat} (k : State)
    (h : s.mayRead who unit i lvl = true) : s.readGate who unit i lvl k = k.journalRead who := by
  simp only [State.mayRead, Bool.and_eq_true, decide_eq_true_eq, Bool.not_eq_true'] at h
  obtain ⟨⟨⟨h0, h1⟩, h2⟩, h3⟩ := h
  simp [State.readGate, State.flrGate_open _ _ h0, h1, h2, h3]

end Sys2Proof.Machine
end

