-- ==== Sys2Proof/Laws/Store.lean ====
section
/-!
SUPPORT. What writes to the frame store change of it, and what its ring operations keep: spans, searches and places.
-/

set_option Elab.async false

namespace Sys2Proof.Machine

/-- From `s` to `t` the spans are the same, and each ring's search and count of records started. -/
structure StoreKept (s t : State) : Prop where
  spans : t.fst.spans = s.fst.spans
  search : ∀ r, (t.rg r).search = (s.rg r).search
  started : ∀ r, (t.rg r).started = (s.rg r).started

theorem StoreKept.refl (s : State) : StoreKept s s := ⟨rfl, fun _ => rfl, fun _ => rfl⟩
theorem StoreKept.trans {s t u : State} (h : StoreKept s t) (k : StoreKept t u) : StoreKept s u :=
  ⟨k.spans.trans h.spans, fun r => (k.search r).trans (h.search r), fun r => (k.started r).trans (h.started r)⟩

/-- What leaves the frame store alone. -/
theorem Changes.storeKept {P R} {s t : State} (h : Changes P R s t) (hp : Part.fst ∉ P) : StoreKept s t := by
  have e := congrArg (·.spans) (h.parts .fst hp)
  exact ⟨e, fun r => by rw [h.rg hp], fun r => by rw [h.rg hp]⟩

theorem State.ddrWr_kept (s : State) (a : Nat) (d : List Byte) (bad : Bool) : StoreKept s (s.ddrWr a d bad) :=
  ⟨rfl, fun _ => rfl, fun _ => rfl⟩

theorem State.storeWr1_kept (s : State) (a : Nat) (b : Byte) (bad : Bool) : StoreKept s (s.storeWr1 a b bad) := by
  unfold State.storeWr1
  split
  · exact .refl s
  · dsimp only
    split
    · split
      · exact (s.ddrWr_kept _ _ _).trans (State.ddrWr_kept ..)
      · exact s.ddrWr_kept ..
    · exact s.ddrWr_kept ..

theorem State.storeWr_kept (l : List Byte) (s : State) (a : Nat) (bad : Bool) : StoreKept s (s.storeWr a l bad) := by
  induction l generalizing s a with
  | nil => exact .refl s
  | cons b l ih => exact (s.storeWr1_kept a b bad).trans (ih _ _)

theorem State.regionWr_kept (base mask : Nat) (l : List Byte) (o : Nat) (s : State) :
    StoreKept s (State.regionWr base mask o l s) := by
  induction l generalizing s o with
  | nil => exact .refl s
  | cons b l ih => exact (s.storeWr1_kept _ b false).trans (ih _ _)

theorem State.setRec_kept (s : State) (r : Nat) (x : Rec) : StoreKept s (s.setRec r x) := by
  have h : StoreKept s (s.setRg r { s.rg r with recs := (s.rg r).recs.map (fun y => if y.seq = x.seq then x else y) }) := by
    refine ⟨rfl, fun q => ?_, fun q => ?_⟩
    · by_cases e : q = r
      · subst e; simp
      · rw [State.rg_setRg_ne _ _ _ e]
    · by_cases e : q = r
      · subst e; simp
      · rw [State.rg_setRg_ne _ _ _ e]
  exact h.trans (State.regionWr_kept _ _ _ _ _)

theorem State.pinRec_kept (s : State) (r : Nat) (x : Rec) (pin : Bool) (span : Option Nat) :
    StoreKept s (s.pinRec r x pin span) := (s.storeWr1_kept _ _ _).trans (State.setRec_kept ..)

theorem State.pinAll_kept (r id : Nat) (l : List Rec) (s : State) : StoreKept s (State.pinAll r id l s) := by
  induction l generalizing s with
  | nil => exact .refl s
  | cons x l ih =>
    refine StoreKept.trans ?_ (ih _)
    split
    · exact .refl s
    · exact s.pinRec_kept ..

theorem State.unpinAll_kept (r : Nat) (l : List Rec) (s : State) : StoreKept s (State.unpinAll r l s) := by
  induction l generalizing s with
  | nil => exact .refl s
  | cons x l ih => exact (s.pinRec_kept ..).trans (ih _)

theorem State.spanNotice_kept (s : State) (kind : Nat) (sp : Span) (refused : Bool) :
    StoreKept s (s.spanNotice kind sp refused) := (State.spanNotice_changes ..).storeKept (by decide)

/-- The search of every ring and its count of records are the same. -/
structure SearchKept (s t : State) : Prop where
  search : ∀ r, (t.rg r).search = (s.rg r).search
  started : ∀ r, (t.rg r).started = (s.rg r).started

theorem SearchKept.trans {s t u : State} (h : SearchKept s t) (k : SearchKept t u) : SearchKept s u :=
  ⟨fun r => (k.search r).trans (h.search r), fun r => (k.started r).trans (h.started r)⟩
theorem StoreKept.searchKept {s t : State} (h : StoreKept s t) : SearchKept s t := ⟨h.search, h.started⟩

theorem State.putSpan_kept (s : State) (sp : Span) : SearchKept s (s.putSpan sp) := by
  unfold State.putSpan
  dsimp only
  split <;> exact ⟨fun _ => rfl, fun _ => rfl⟩

theorem State.migNotices_kept (c : Nat) (l : List Span) (s : State) : SearchKept s (State.migNotices c l s) := by
  induction l generalizing s with
  | nil => exact (StoreKept.refl s).searchKept
  | cons sp l ih =>
    unfold State.migNotices
    extract_lets bands sp'
    split
    · exact ih s
    · exact ((s.putSpan_kept sp').trans (State.spanNotice_kept ..).searchKept).trans (ih _)

theorem State.spanClose_kept (s : State) (sp : Span) : SearchKept s (s.spanClose sp) := by
  unfold State.spanClose
  extract_lets sp' s1
  have h : SearchKept s s1 := (s.putSpan_kept sp').trans (State.spanNotice_kept ..).searchKept
  split
  · split
    · exact h.trans (State.migNotices_kept ..)
    · exact h
  · exact h

theorem State.leaveReleased_kept (s : State) (r : Nat) (seqs : List Nat) : SearchKept s (s.leaveReleased r seqs) :=
  ⟨fun _ => rfl, fun _ => rfl⟩

theorem State.makeSpan_kept (s : State) (r first last : Nat) (short : Bool) : SearchKept s (s.makeSpan r first last short) := by
  unfold State.makeSpan
  extract_lets g newest recs toCome endOf startOf meets
  split
  · split
    · have h : SearchKept s (s.bump .FST_CNT_SPAN_REFUSED r) := ⟨fun _ => rfl, fun _ => rfl⟩
      exact h.trans (State.spanNotice_kept ..).searchKept
    · rename_i id _
      extract_lets sp s1
      have h : SearchKept s s1 :=
        (((s.putSpan_kept sp).trans (State.pinAll_kept r id recs _).searchKept).trans (State.leaveReleased_kept _ r sp.seqs)).trans
          (State.spanNotice_kept ..).searchKept
      split
      · exact h.trans (State.spanClose_kept ..)
      · exact h
  · rename_i sp others _
    extract_lets seqs come sp' s0 s1 s2
    have h0 : SearchKept s s0 := ⟨fun _ => rfl, fun _ => rfl⟩
    have h : SearchKept s s2 :=
      (((h0.trans (s0.putSpan_kept sp')).trans (State.pinAll_kept r sp.id _ s1).searchKept).trans
        (State.leaveReleased_kept _ r seqs)).trans (State.spanNotice_kept ..).searchKept
    split
    · exact h.trans (State.spanClose_kept ..)
    · exact h

theorem State.markSpanNow_kept (s : State) (r t n : Nat) : SearchKept s (s.markSpanNow r t n) := by
  unfold State.markSpanNow
  extract_lets g post pre newest want oldest gone first
  split
  · exact ⟨fun _ => rfl, fun _ => rfl⟩
  · exact State.makeSpan_kept ..

/-- After the search of a ring's mark no search of that ring is under way. -/
theorem State.searchDone_search (s : State) (r : Nat) : ((s.searchDone r).rg r).search = none := by
  unfold State.searchDone
  split
  · rw [(State.markSpanNow_kept ..).search, State.rg_setRg]
  · assumption

/-- A span put under its number: every span of that number is it, and every other is one there was. -/
theorem State.mem_putSpan {s : State} {sp y : Span} (h : y ∈ (s.putSpan sp).fst.spans) :
    y = sp ∨ (y ∈ s.fst.spans ∧ y.id ≠ sp.id) := by
  unfold State.putSpan at h
  dsimp only at h
  split at h
  · rename_i c
    simp only [List.mem_map] at h
    obtain ⟨z, hz, rfl⟩ := h
    split
    · exact Or.inl rfl
    · rename_i c; exact Or.inr ⟨hz, c⟩
  · rename_i c
    simp only [List.mem_append, List.mem_singleton] at h
    rcases h with h | h
    · refine Or.inr ⟨h, fun e => c ?_⟩
      simp only [List.any_eq_true, decide_eq_true_eq]
      exact ⟨y, h, e⟩
    · exact Or.inl h

/-- What a release leaves (R158, R160): each span is released, or it is one there was and of another number. -/
theorem State.mem_spanFree {s : State} {sp y : Span} {kind : Nat} (h : y ∈ (s.spanFree sp kind).fst.spans) :
    y.released = true ∨ (y ∈ s.fst.spans ∧ y.id ≠ sp.id) := by
  unfold State.spanFree at h
  dsimp only at h
  have h1 := (List.mem_filter.1 h).1
  rw [(State.spanNotice_kept ..).spans] at h1
  rcases State.mem_putSpan h1 with h2 | ⟨h2, h3⟩
  · left; rw [h2]
  · right; rw [(State.unpinAll_kept ..).spans] at h2; exact ⟨h2, h3⟩

/-- What the release of a list of spans leaves. -/
theorem State.mem_spanFreeAll (l : List Span) {s : State} {y : Span} (h : y ∈ (State.spanFreeAll l s).fst.spans) :
    y.released = true ∨ (y ∈ s.fst.spans ∧ ∀ sp ∈ l, y.id ≠ sp.id) := by
  induction l generalizing s with
  | nil => exact Or.inr ⟨h, by simp⟩
  | cons sp l ih =>
    rcases ih h with h1 | ⟨h1, h2⟩
    · exact Or.inl h1
    · rcases State.mem_spanFree h1 with h3 | ⟨h3, h4⟩
      · exact Or.inl h3
      · refine Or.inr ⟨h3, fun q hq => ?_⟩
        rcases List.mem_cons.1 hq with rfl | hq
        · exact h4
        · exact h2 q hq

/-! ### Bytes -/

theorem State.storePlace_ddrWr (s : State) (p : Nat) (d : List Byte) (bad : Bool) (a : Nat) :
    (s.ddrWr p d bad).storePlace a = s.storePlace a := rfl

theorem State.ddrRd_ddrWr1 (s : State) (p : Nat) (b : Byte) (bad : Bool) (a : Nat) :
    (s.ddrWr p [b] bad).ddrRd a = if a = p then b else s.ddrRd a := by
  simp only [State.ddrRd, State.ddrWr, tblSetList, tblGet_set]

/-- With no channel retired or retiring, a byte lies at its store address. -/
theorem State.storePlace_plain {s : State} (h : s.fst.retiring = none) {a p : Nat} (hp : s.storePlace a = some p) : p = a := by
  unfold State.storePlace at hp
  split at hp
  · exact absurd hp (by simp)
  · split at hp
    · exact (Option.some.inj hp).symm
    · simp [h] at hp

theorem State.storeWr1_plain {s : State} (h : s.fst.retiring = none) {a : Nat} (ha : (s.storePlace a).isSome = true) (b : Byte)
    (bad : Bool) : s.storeWr1 a b bad = s.ddrWr a [b] bad := by
  obtain ⟨p, hp⟩ := Option.isSome_iff_exists.1 ha
  have e := State.storePlace_plain h hp
  unfold State.storeWr1
  rw [hp]
  subst e
  simp [h]

/-- A write to store addresses that are in place: those bytes, and no other (R142, R146). -/
theorem State.ddrRd_storeWr (l : List Byte) {s : State} (h : s.fst.retiring = none) {a : Nat} (bad : Bool)
    (hp : ∀ i, i < l.length → (s.storePlace (a + i)).isSome = true) (x : Nat) :
    (s.storeWr a l bad).ddrRd x = if a ≤ x ∧ x < a + l.length then l.getD (x - a) 0 else s.ddrRd x := by
  induction l generalizing s a with
  | nil =>
    have : ¬ (a ≤ x ∧ x < a + ([] : List Byte).length) := by simp
    rw [if_neg this]; rfl
  | cons b l ih =>
    have h0 : (s.storePlace a).isSome = true := hp 0 (by simp)
    have e : s.storeWr a (b :: l) bad = (s.ddrWr a [b] bad).storeWr (a + 1) l bad := by
      show (s.storeWr1 a b bad).storeWr (a + 1) l bad = _
      rw [State.storeWr1_plain h h0]
    rw [e, ih (s := s.ddrWr a [b] bad) h (fun i hi => by
      rw [State.storePlace_ddrWr]
      have := hp (i + 1) (by simpa using hi)
      rwa [Nat.add_assoc, Nat.add_comm 1 i]), State.ddrRd_ddrWr1]
    by_cases c : x = a
    · subst c
      have n1 : ¬ (x + 1 ≤ x ∧ x < x + 1 + l.length) := by omega
      have p1 : x ≤ x ∧ x < x + (b :: l).length := by simp
      rw [if_neg n1, if_pos p1, if_pos rfl]; simp
    · by_cases d : a + 1 ≤ x ∧ x < a + 1 + l.length
      · have d2 : a ≤ x ∧ x < a + (b :: l).length := by simp; omega
        rw [if_pos d, if_pos d2]
        have : x - a = (x - (a + 1)) + 1 := by omega
        rw [this, List.getD_cons_succ]
      · have d2 : ¬ (a ≤ x ∧ x < a + (b :: l).length) := by simp; omega
        rw [if_neg d, if_neg d2, if_neg c]

end Sys2Proof.Machine
end

