-- ==== Sys2Proof/WellFormed.lean ====
section
/-!
DEFINITION. Which commands can come from outside: the bounds that the rules put on operands whose types are wider. `exec`
does not depend on them.
-/

namespace Sys2Proof

/-- A BAR0 byte address (R408: 64 MiB). -/
def wfAddr (a : Nat) : Bool := decide (a < 0x4000000)

/-- A row of blocks of a port of 1 to 16 lanes (R73). -/
def wfRow (l : List LineBlock) : Bool := decide (0 < l.length) && decide (l.length ≤ 16)

/-- A packet whose LENGTH fits its 16 bits and whose erased ranges lie inside its payload (R97, R99). -/
def wfPacket (p : Packet) : Bool :=
  decide (p.payload.length < 65536) && p.erased.all (fun e => decide (e.1 + e.2 ≤ p.payload.length))

/-- A slot without module, or a module of a size that DDR4 modules have (R136 says which of them the block takes). -/
def wfDimm (d : Dimm) : Bool := decide (d.gib ≤ 512)

/-- What a programmer wrote lies inside the device (R486). -/
def wfFlash (p : FlashPort) : Bool := p.programmed.all (fun e => decide (e.1 + e.2.length ≤ 2 ^ p.density.val))

/-- A read of up to 4,096 bytes (R417). -/
def wfRead (n : Nat) : Bool := decide (0 < n) && decide (n ≤ 4096)

/-- The payload of one write, up to Max_Payload_Size (R405). -/
def wfWrite (n : Nat) : Bool := decide (0 < n) && decide (n ≤ 512)

/-- A UDP payload inside one Ethernet frame without fragments (R499; the frame size is PRESUMED, log entry 29). -/
def wfDatagram (l : List (BitVec 8)) : Bool := decide (l.length ≤ 1472)

/-- A TLP whose header has up to 4 words (R421). -/
def Tlp.wf (t : Tlp) : Bool := decide (t.header.length ≤ 4)

/-- Whether a command keeps the bounds of its row's rule. -/
def Instr.wf (i : Instr) : Bool :=
  match i with
  | .registerWrite _ a _ t | .readClear _ a t => wfAddr a && t.wf
  | .dataRow _ l | .enterDoze _ l | .wakeRow _ l | .deepAck _ l => wfRow l
  | .eyeMeasurement _ m => decide (m < 256)
  | .frameStart _ _ _ p _ _ | .lineData _ _ p _ | .frameEnd _ _ p | .cameraStatus _ _ p | .controlResponse _ p => wfPacket p
  | .mpUnitWrite _ _ w => decide (w ≤ 187)
  | .bar2Read _ n _ t => wfRead n && t.wf
  | .bar2Write _ d t => wfWrite d.length && t.wf
  | .shmScrub _ _ n => decide (n ≤ 8)
  | .sheetRecord _ _ _ r _ => decide (r.length = 32)
  | .calibRecord r => decide (r.length = 32)
  | .shroudFrameReceived _ _ l => decide (l.length = 23)
  | .configRequest _ off _ _ t => decide (off.toNat % 4 = 0) && t.wf
  | .bar4Access w _ n d t => decide (0 < n) && (!w || decide (d.length = n)) && t.wf
  | .completion _ _ d t _ => decide (d.length ≤ 4096) && t.wf
  | .queueItem _ _ _ _ d _ _ => decide (0 < d.length) && decide (d.length ≤ 256)
  | .moduleInsert _ d => decide (d.length = 256)
  | .modulePoll _ _ d => decide (d.length = 16)
  | .ringMessage _ _ l => decide (l.length = 10)
  | .loadStart _ f g l => wfFlash f && wfFlash g && decide (l.length ≤ 12) && l.all wfDimm
  | .dgramOpen _ _ d | .dgramProof _ _ d | .dgramAccess _ _ d | .dgramClose _ _ d | .keepalive _ _ d => wfDatagram d
  | .unsupportedRequest _ h => decide (h.length = 3) || decide (h.length = 4)
  | _ => true

end Sys2Proof
end

