-- ==== Sys2Proof/Tests/Slice0.lean ====
section
/-!
SUPPORT. Tests of the model: ill-formed commands that the check refuses, single commands on small states, and states that meet
the hypotheses of the statements.
-/

set_option Elab.async false

namespace Sys2Proof.Tests
open Sys2Proof.Machine

/-- The state after reset with READY set and every power domain on. -/
def up : State :=
  ((State.reset.setFld F.PCE_STATUS_READY 1).wr .PWR_DOM_STATUS 0xFFFFFFFF 0 0 |>.wr .PWR_DOM_STATUS 0xFFFFFFFF 0 1).wr
    .PWR_DOM_STATUS 0xFFFF 0 2

/-- The block of the given header and bytes on a line whose last bits were 0. -/
def lineBlock (hdr : BitVec 2) (b : List Byte) : LineBlock := ⟨hdr, scramble 0 8 (bytesPay b), some 0, false⟩

/-- A lane in TRAIN with block lock. -/
def training (n : Nat) : State := (up.setLstate n lsTrain).setFld F.LNK_STATUS_BLOCK_LOCK 1 n

/-- A packet of the given info and payload whose PCRC checks. -/
def packet (info : BitVec 16) (b : List Byte) : Packet := ⟨info, false, b, BitVec.ofNat 32 (crc32 b), [], false⟩

/-- An open frame of 8 pixels of a byte. -/
def openFrame : CapFrame := up.newFrame 0 7 8 1 1 0 0 0 false true false

/-- A port that is up in ACQUIRE, with OUTPUT the lane alone. -/
def trigReady (p : Nat) : State :=
  ((up.setFld F.PWR_MODE_STATUS_MODE modeAcquire).setFld F.LNK_PORT_STATUS_UP 1 p).setFld F.CAP_TRIG_CFG_OUTPUT 1 p

/-- An enabled encoder. -/
def encUp (n : Nat) : State := up.setFld F.CAP_ENC_IN_ENABLE 1 n

/-- A frame store of one channel with a build region of all its bands, and a session at the top level. -/
def storeReady : State :=
  let s := (((up.wr .SES_STATUS 0x300).wr .FST_BANDS 1000).wr .FST_BUILD_BANDS 900).setFld F.FST_CH_STATUS_STATE chActive 0
  { s with fst := { s.fst with selfRefresh := false } }

/-- A ring that holds one closed span. -/
def oneSpan : State := { storeReady with fst := { storeReady.fst with spans := [⟨7, 1, [], 0, false, false, false, false, 0⟩] } }

/-- An event with no hops. -/
def event : HEv := { code := 1, hops := 0, cause := 0 }

/-- A block that hears service datagrams on port 0, with a session at Operator in slot 1. -/
def netReady : State :=
  ((((up.wr .TIM_PORT_STATUS 1 0).wr .SES_ETH_CFG 1).setSlot 1 { level := 2, sid := 9, key := [1, 2, 3], seq := 4 })).setSesLevel 1 2

/-- The bytes of a datagram before its tag, and the datagram. -/
def dgHead (type : Nat) (body : List Byte) : List Byte :=
  bytesLE 2 0x5357 ++ bytesLE 1 type ++ [0] ++ bytesLE 4 9 ++ bytesLE 8 5 ++ bytesLE 2 body.length ++ [0, 0] ++ body
def dgOf (type : Nat) (body : List Byte) : Dgram := ⟨type, 0, 9, 5, body, hmac [1, 2, 3] (dgHead type body), dgHead type body⟩
def dgRaw (type : Nat) (body : List Byte) : List Byte := dgHead type body ++ hmac [1, 2, 3] (dgHead type body)

/-- A tile of stream 0. -/
def aTile : Tile := ⟨0, 7, 0, clsFrame, false, false, none, none, false⟩

/-- A frame of one tile, and mast 0 with it, its tile waiting. -/
def aFrame : MFrame :=
  { stream := 0, info := ⟨7, 0, clsFrame, 1, 8, 1, 0, 0, 0, 0, 0, 0, 0⟩, base := 0, size := 8, tw := 8, th := 1, halo := 0, across := 1,
    down := 1, early := false }
def tileWaits : State := up.setMs 0 { frames := [aFrame], ready := [aTile] }

/-- Mast 0 runs a spar on engine 3 at PC 8, and holds the frame of its tile. -/
def runOn (x : Spar) : Run := ⟨3, 3, aTile, { x with pc := 8 }, 0, 0, none⟩
def sparAt (x : Spar) : State := tileWaits.setMs 0 { tileWaits.ms 0 with ready := [], runs := [runOn x] }
def aSpar : State := sparAt {}

/-- The same with its frame closed. -/
def closedSpar : State :=
  aSpar.setMs 0 { aSpar.ms 0 with frames := (aSpar.ms 0).frames.map (fun f => { f with closed := true }) }

/-- A mast whose program holds the word `w` at PC 8 (R200). -/
def progAt (w : Nat) (s : State) : State := s.setMs 0 { s.ms 0 with prog := List.replicate 8 0 ++ bytesLE 4 w }

/-- A record of sheet unit 0 for frame 5 from mast 0 and stream 0, with its check. -/
def shRecord : List Byte :=
  let b : List Byte := [1, 0, 0, 0, 5, 0, 0, 0, 0, 0, 0xF0, 0] ++ List.replicate 18 0
  b ++ bytesLE 2 (crc16 b)

/-- Sheet unit 0 in a state, with a record that waits. -/
def sheetAt (st : Nat) : State :=
  (up.setFld F.SHT_STATUS_STATE st 0).setSh 0 { queue := [⟨0, 0, shRecord, 0⟩] }

/-- The same with its beam engaged: emitting a mark in BUILD. -/
def aMark : Seg := { kind := .emit, len := 1000000, v := 1000000, t0 := 0, dur := 1000000 }
def engagedAt (st : Nat) : State :=
  let s := ((((sheetAt st).setFld F.SHT_CFG_LOOP_EN 1 0).setFld F.SCN_STATUS_HEAD_READY 1 0).setFld F.BCH_STATUS_EMIT 1 0).setFld F.SCN_STATUS_STATE scnRunning 0
  (s.setSc 0 { plan := [aMark] }).setFld F.PWR_MODE_STATUS_MODE modeBuild

/-- Beam 0 with its gate open. -/
def beamOpen : State := ((up.setFld F.PWR_MODE_STATUS_MODE modeBuild).setFld F.BCH_PERMIT_PERMIT 1)

/-- Beam 0 in the middle of a mark. -/
def onMark : State := { ((beamOpen.setFld F.SCN_STATUS_STATE scnRunning 0).setFld F.SCN_STATUS_HEAD_READY 1).setSc 0 { plan := [aMark] } with fine := 500000 }

/-- Interpreter 0 in a state, its link up and its program a stream. -/
def scnIn (st : Nat) (x : Scn) : State :=
  ((((beamOpen.setFld F.SCN_STATUS_STATE st 0).setFld F.SCN_STATUS_LINK_UP 1 0).setFld F.SCN_CFG_SRC 1 0).setFld F.SCN_CFG_ENABLE 1 0).setSc 0 x

/-- Interpreter 0 runs, with a record of the given first bytes in its stream. -/
def scnHas (b : List Byte) : State := scnIn scnRunning { fifo := [takeAt b 0 16] }

/-- A fiducial record of head 0 with CALIB, with its check. -/
def calRecord : List Byte :=
  let b : List Byte := [2, 0, 0, 0, 0, 0, 0, 0, 0, 0, 0xFF, 0xFF] ++ List.replicate 18 0
  b ++ bytesLE 2 (crc16 b)

/-- A pause of a chain of one mark, in a sub-state, and the interpreter in it. -/
def aPause (phase : Nat) : Pause := { begun := true, phase := phase, geo := [aMark], v := 1000, vr := 1000, dv := 1000 }
def scnPausedAs (p : Pause) : State := scnIn scnPaused { pause := some p }

/-- An upstream Shroud frame of zeros: its nibbles and code groups. -/
def aFrameNibs : List (BitVec 4) := List.replicate 20 0 ++ (List.range 3).map (fun i => BitVec.ofNat 4 (crc12 (List.replicate 20 0) / 16 ^ i % 16))
def aFrameGroups : List (BitVec 5) := aFrameNibs.map (fun k => codeGroups.getD k.toNat 0)

/-- The block in a mode. -/
def inMode (m : Nat) : State := up.setFld F.PWR_MODE_STATUS_MODE m

/-- The block in a mode, in the reef state for a microsecond, its recovery qualified or not. -/
def reefAt (m : Nat) (recovered : Bool) : State :=
  let s := (inMode m).setFld F.PWR_MODE_STATUS_REEF 1
  { s with fine := 2250, pwr := { s.pwr with reefAt := 1000, recovered := recovered }, fst := { s.fst with selfRefresh := true } }

/-- A mast domain that is off and waits for its wake. -/
def mastWaits : State :=
  let s := ((inMode modeIdle).setDom 3 false).setFld F.PWR_DOM_POLICY_POLICY 1 3
  { s with pwr := { s.pwr with wakes := [(3, 2)] } }

/-- The block with a second flash device of 16 MiB that holds nothing. -/
def flashReady : State :=
  (up.setFld F.BOOT_FLASH_INFO_USED 1 1).setFld F.BOOT_FLASH_INFO_LOG2 24 1

/-- The same device with the header of a VERIFIED image of SEQ 5 and one empty LAYOUT section. -/
def flashImage : State :=
  (flashReady.flashPut 1 0 (bytesLE 4 0x4B415244 ++ bytesLE 2 1 ++ bytesLE 2 1 ++ bytesLE 4 4096 ++ bytesLE 4 5 ++ bytesLE 4 2)).flashPut
    1 0x18 (bytesLE 4 0xFFFF) |>.flashPut 1 0x100 (bytesLE 4 1 ++ bytesLE 4 4096 ++ bytesLE 4 0 ++ bytesLE 4 0)

/-- A flash operation that runs. -/
def flashBusy (op : Nat) : State :=
  { flashReady.setFld F.BOOT_STATUS_OP_BUSY 1 with boot := { flashReady.boot with op := some ⟨op, 1, 65536, 4, 0, [1, 2, 3, 4]⟩ } }

/-- A challenge for level 2. -/
def aChal : Chal := ⟨2, List.replicate 16 1, List.replicate 16 2, [1, 2, 3, 4], 9, 0⟩

/-- A mailbox that has been challenged and holds the given bytes. -/
def mbxHolds (data : List Byte) : State := { up.memBytes mbxData data with ses := { up.ses with mbxChal := some aChal } }

/-- Slot 1 challenged over port 0. -/
def dgChal : State := netReady.setSlot 1 { chal := some aChal }

/-- An untagged datagram. -/
def dgPlain (type level : Nat) (body : List Byte) : List Byte :=
  bytesLE 2 0x5357 ++ bytesLE 1 type ++ bytesLE 1 level ++ bytesLE 4 9 ++ bytesLE 8 5 ++ bytesLE 2 body.length ++ [0, 0] ++ body
def dgPlainOf (type level : Nat) (body : List Byte) : Dgram := ⟨type, level, 9, 5, body, [], dgPlain type level body⟩

/-- Sequence 2 runs in a phase. -/
def seqAt (x : HSeq) : State := (up.wr .HAL_SEQ_RUN 4).setHseq 2 x

/-- Sequence 2 runs with the word `w` in front. -/
def seqHolds (w : BitVec 32) : State := (seqAt {}).memWr 0x74000 w

/-- A block whose link is up. -/
def linkUp : State := ((up.setFld F.PCE_STATUS_DL_UP 1).setFld F.PCE_STATUS_LINK_SPEED 3).setFld F.PCE_STATUS_LINK_WIDTH 16

/-- The same with bus mastering, MSI-X, and one read request outstanding. -/
def aReq (k : ReqKind) : Req := ⟨5, 0, k, 4096, 64, [], [], false, 0⟩
def busReady : State :=
  let s := { linkUp with pce := { linkUp.pce with perst := false, spdRead := true, reqs := [aReq .desc] } }
  (s.cfgWr 4 0x00100006).cfgWr 0xB0 0x87FF0011

/-- DMA channel 0 in a state. -/
def dmaAt (st : Nat) (x : Dma) : State := (busReady.setFld F.DMA_STATUS_STATE st 0).setDm 0 x

/-- A COPY of 64 bytes in the store, and its bytes. -/
def aCopy : Desc := { ctrl := 0x501, length := 64, src := 0, dst := 4096, link := 1 }
def aCopyBytes : List Byte := bytesLE 4 0x501 ++ bytesLE 4 64 ++ bytesLE 8 0 ++ bytesLE 8 4096 ++ bytesLE 8 1

/-- An item, and queue 3 of 16 words. -/
def anItem : QItem := ⟨2, 7, List.replicate 32 5, false, false⟩
def queueAt (x : Que) : State := { up.setFld F.QUE_CFG_K 4 3 with que := [(3, x)] }
def queueOne : State := queueAt { levels := [(2, [anItem])] }

/-- A DRAIN of that queue by channel 0. -/
def aDrain : State :=
  { dmaAt dmaRunning { phase := .moving, desc := { ctrl := 0x305, length := 4096, src := 3, dst := 0, link := 1 } } with que := queueOne.que }

/-- A store whose channel 0 retires, with a reserve and a ring of one data band. -/
def retiringStore : State :=
  let s := (((storeReady.setFld F.FST_CH_STATUS_STATE chRetiring 0).wr .FST_RES_BANDS 8).wr .FST_RING_DATA_BANDS 1 2).wr .FST_BUILD_BASE 0
  { s with fst := { s.fst with retiring := some 0, loadSet := 3 } }

/-- A message of domain 0 from clock 9, port 1. -/
def aPtp (two : Bool) : PtpMsg :=
  { transport := 0, tagged := false, unicast := false, dom := 0, twoStep := two, corr := 0, clock := 9, port := 1, seqId := 3, logInt := 0,
    sec := 0, ns := 0, reqClock := 0, reqPort := 1, gm := ⟨0, 0, 0, 0, 0, 9⟩, steps := 0 }

/-- Port 0 of domain 0 in a state, with clock 9 its master, and peer-to-peer delay or not. -/
def ptpAt (st mech : Nat) (x : PtpInst) : State :=
  let s := ((up.wr .TIM_PORT_STATUS 1 0).wr .TIM_DOM_CFG (BitVec.ofNat 32 (1 + 2 * mech)) 0).wr .TIM_PORT_CFG 1 0
  ((s.setPortState 0 0 st).setPtpDom 0 { master := some (9, 1), last := some (0, 0) }).setInst 0 0 x

/-- A schedule in a one-shot mode. -/
def schedAt (x : Sched) : State := up.setSched 2 x

/-- Ring 0 with its bypass open. -/
def ringAt (x : RingPort) : State := ((up.wr .TIM_RING_CFG 3 0).wr .TIM_RING_STATUS 0 0).setRing 0 x

/-- The nibbles of a ring message. -/
def aRingMsg (origin : Nat) : List (BitVec 4) := ringNibs origin 0 7 0 false

/-- Lighting channel 0 in BUILD with a channel mode and LEVEL. -/
def lumAt (mode level : Nat) (x : Lum) : State :=
  (((beamOpen.setFld F.LUM_CH_CFG_MODE mode 0).setFld F.LUM_CH_LEVEL_LEVEL level 0).setFld F.LUM_CH_STROBE_STROBE_W 100 0).setLm 0 x

/-- The same with its gate on. -/
def lumLit (mode level : Nat) (x : Lum) : State := (lumAt mode level x).setFld F.LUM_CH_STATUS_LIT 1 0

/-- The projector scanning 16 rows of 8 columns. -/
def projAt (x : Proj) : State :=
  { (((beamOpen.setFld F.LUM_PROJ_CFG_MUX 0).setFld F.LUM_PROJ_CFG_ROWS 15).setFld F.LUM_PROJ_CFG_COLS 7).setFld F.LUM_PROJ_CFG_ENABLE 1 with proj := x }

/-- The pattern sequencer running. -/
def lseqAt (x : Proj) : State := { (lumAt 2 0x8000 {}).setFld F.LUM_PROJ_STATUS_SEQ_RUN 1 with proj := x }

/-- The same with the word `w` where it is. -/
def lseqHolds (w : BitVec 32) (x : Proj := {}) : State := (lseqAt x).memWr (lumBase + 0x60000 + 4 * x.pc) w

/-! ### Ill-formed commands are refused -/

/-- R408: BAR0 ends at 64 MiB. -/
theorem test_wf_address : (Instr.registerWrite .helm 0x4000000 0 {}).wf = false := by decide
/-- R408, for a read. -/
theorem test_wf_readAddress : (Instr.readClear .helm 0x4000000 {}).wf = false := by decide
/-- R71: a row has at least one block. -/
theorem test_wf_row : (Instr.dataRow 0 []).wf = false := by decide
/-- R62: the margin of an eye measurement has 8 bits. -/
theorem test_wf_margin : (Instr.eyeMeasurement 0 256).wf = false := by decide
/-- R99: an erased range lies inside its payload. -/
theorem test_wf_packet : (Instr.frameEnd 0 0 ⟨0, false, [1, 2], 0, [(1, 2)], false⟩).wf = false := by decide
/-- R405: a write carries bytes. -/
theorem test_wf_write : (Instr.bar2Write 0 [] {}).wf = false := by decide
/-- R546: a camera module has an EEPROM of 256 bytes. -/
theorem test_wf_module : (Instr.moduleInsert 0 [1]).wf = false := by decide
/-- R400: configuration space is read by words. -/
theorem test_wf_config : (Instr.configRequest false 2 0 0 {}).wf = false := by decide
/-- R136: the density of a module. -/
theorem test_wf_dimm : wfDimm ⟨513, 0, 0, .rdimm, true, 4, 8, false, 0, true, true, true⟩ = false := by decide
/-- R486: what a programmer wrote lies inside the device. -/
theorem test_wf_flash : wfFlash ⟨4, false, false, false, [(15, [1, 2])]⟩ = false := by decide
/-- R417: a read is at most 4,096 bytes. -/
theorem test_wf_read : wfRead 4097 = false := by decide
/-- R499: a datagram lies inside one frame. -/
theorem test_wf_datagram : wfDatagram (List.replicate 1473 0) = false := by decide +kernel

/-- R421: a TLP header has at most four words. -/
theorem test_wf_tlp : Tlp.wf ⟨.clean, [0, 0, 0, 0, 0]⟩ = false := by decide

/-! ### The words of programs, written out from their encodings -/

/-- R200, R202: OP 0x00, D 3, A 4, B 5, FN 0x01 is SUB. -/
theorem test_decode_sub : sparDecode 0 1 0x00642801 = some (.sub 0 1 3 4 5) := by decide
/-- R200, R203: OP 0x20, COND 2, OFF22 -1 is B. -/
theorem test_decode_b : sparDecode 0 1 0x80BFFFFF = some (.b 0 1 2 0x3FFFFF) := by decide
/-- R204: OP 0x30, D 1, A 2, B 3, MK 4, FN 0x23 is VNARROW. -/
theorem test_decode_vnarrow : sparDecode 0 1 0xC0221C23 = some (.vnarrow 0 1 1 2 3 4) := by decide
/-- R206: an FN that OP 0x3F does not list is ILLEGAL. -/
theorem test_decode_illegal : sparDecode 0 1 0xFC000001 = none := by decide
/-- R306: a MARK to (7, -1) at Z 9. -/
theorem test_decode_mark : scanDecode 3 [2, 0, 9, 0, 7, 0, 0, 0, 0xFF, 0xFF, 0xFF, 0xFF] = .markRecord 3 7 0xFFFFFFFF 9 := by decide
/-- R396: PUB of code 4 on halyard 3. -/
theorem test_decode_pub : seqDecode 0x10000403 = .pub 3 4 := by decide
/-- R368: LEVEL of channel 7. -/
theorem test_decode_level : lumDecode 0x1700FFFF = .level 7 0xFFFF := by decide

/-! ### No word of the table spells a command -/

/-- The opcode table gives its rows no bits. -/
theorem test_decode_none : decodeTableWord 16 0 = none := rfl

/-! ### States that meet the hypotheses of the statements -/

/-- A state that meets the hypotheses of clause 1 of StepRunsFront. -/
theorem test_StepRunsFront_1 : ∃ (c : Instr) (rest : List Instr) (s : State), s.pending = c :: rest :=
⟨.signalLost 0, [.cdrLocked 0], { State.reset with pending := [.signalLost 0, .cdrLocked 0] }, rfl⟩

/-- A state that meets the hypotheses of clause 1 of StepIdles. -/
theorem test_StepIdles_1 : ∃ s : State, s.pending = [] := ⟨State.reset, rfl⟩

/-- A state that meets the hypotheses of clause 1 of StepKeepsCanonical. -/
theorem test_StepKeepsCanonical_1 : ∃ s t : State, s.canonical ∧ step s = .next t :=
⟨State.reset, State.reset.idle, ⟨rfl, rfl, ⟨List.Pairwise.nil, by simp [State.reset]⟩, ⟨List.Pairwise.nil, by simp [State.reset]⟩⟩, rfl⟩

/-- A state that meets the hypotheses of clause 1 of LanesFrame. -/
theorem test_LanesFrame_1 : ∃ c : Instr, chapterOf c = .lanes := ⟨.signalDetectQualified 0, rfl⟩

/-- A state that meets the hypotheses of clause 1 of CaptureFrame. -/
theorem test_CaptureFrame_1 : ∃ c : Instr, chapterOf c = .capture := ⟨.closeTimeout 0 0, rfl⟩

/-- A state that meets the hypotheses of clause 1 of EncodersFrame. -/
theorem test_EncodersFrame_1 : ∃ c : Instr, chapterOf c = .encoders := ⟨.encoderEdge 0 0 false false 0, rfl⟩

/-- A state that meets the hypotheses of clause 1 of StoreFrame. -/
theorem test_StoreFrame_1 : ∃ c : Instr, chapterOf c = .store := ⟨.markSearchDone 0 0, rfl⟩

/-- A state that meets the hypotheses of clause 1 of MastsFrame. -/
theorem test_MastsFrame_1 : ∃ c : Instr, chapterOf c = .masts := ⟨.tileDispatch 0 0, rfl⟩

/-- A state that meets the hypotheses of clause 1 of SparsFrame. -/
theorem test_SparsFrame_1 : ∃ c : Instr, chapterOf c = .spars := ⟨.add 0 0 0 0 0, rfl⟩

/-- A state that meets the hypotheses of clause 1 of SheetsFrame. -/
theorem test_SheetsFrame_1 : ∃ c : Instr, chapterOf c = .sheets := ⟨.sheetRecord 0 0 0 [] false, rfl⟩

/-- A state that meets the hypotheses of clause 1 of BeamsFrame. -/
theorem test_BeamsFrame_1 : ∃ c : Instr, chapterOf c = .beams := ⟨.dacUpdate 0 0, rfl⟩

/-- A state that meets the hypotheses of clause 1 of RecordsFrame. -/
theorem test_RecordsFrame_1 : ∃ c : Instr, chapterOf c = .records := ⟨.jumpRecord 0 0 0 0, rfl⟩

/-- A state that meets the hypotheses of clause 1 of ScanMotionFrame. -/
theorem test_ScanMotionFrame_1 : ∃ c : Instr, chapterOf c = .scanMotion := ⟨.lateData 0 0, rfl⟩

/-- A state that meets the hypotheses of clause 1 of LightFrame. -/
theorem test_LightFrame_1 : ∃ c : Instr, chapterOf c = .light := ⟨.strobeStart 0 0, rfl⟩

/-- A state that meets the hypotheses of clause 1 of HalyardsFrame. -/
theorem test_HalyardsFrame_1 : ∃ c : Instr, chapterOf c = .halyards := ⟨.halSeqEnd 0, rfl⟩

/-- A state that meets the hypotheses of clause 1 of HostFrame. -/
theorem test_HostFrame_1 : ∃ c : Instr, chapterOf c = .host := ⟨.perstN, rfl⟩

/-- A state that meets the hypotheses of clause 1 of DmaFrame. -/
theorem test_DmaFrame_1 : ∃ c : Instr, chapterOf c = .dma := ⟨.migrationCopy 0 [], rfl⟩

/-- A state that meets the hypotheses of clause 1 of TimeFrame. -/
theorem test_TimeFrame_1 : ∃ c : Instr, chapterOf c = .time := ⟨.syncSend 0 0 0, rfl⟩

/-- A state that meets the hypotheses of clause 1 of BootFrame. -/
theorem test_BootFrame_1 : ∃ c : Instr, chapterOf c = .boot := ⟨.loadEnd 0 [], rfl⟩

/-- A state that meets the hypotheses of clause 1 of PowerFrame. -/
theorem test_PowerFrame_1 : ∃ c : Instr, chapterOf c = .power := ⟨.modeTransitionDone 0 false, rfl⟩

/-- A state that meets the hypotheses of clause 1 of LaneBringUp. -/
theorem test_LaneBringUp_1 : ∃ (n : Fin 64) (s : State), (s.laneRuns n) ∧ (s.lstate n = lsSignal) :=
  ⟨0, up.setLstate 0 lsSignal, by decide +kernel⟩

/-- A state that meets the hypotheses of clause 2 of LaneBringUp. -/
theorem test_LaneBringUp_2 : ∃ (n : Fin 64) (s : State), (s.laneRuns n) ∧ (lsCdr ≤ s.lstate n) ∧ (s.lstate n ≤ lsTrain) ∧ ((s.ln n).dozeFail = false) :=
  ⟨3, up.setLstate 3 lsHunt, by decide +kernel⟩

/-- A state that meets the hypotheses of clause 3 of LaneBringUp. -/
theorem test_LaneBringUp_3 : ∃ (n : Fin 64) (s : State), (s.laneRuns n) ∧ (s.losable n) :=
  ⟨63, up.setLstate 63 lsUp, by decide +kernel⟩

/-- A state that meets the hypotheses of clause 4 of LaneBringUp. -/
theorem test_LaneBringUp_4 : ∃ (n : Fin 64) (s : State), (s.laneRuns n) ∧ (s.losable n) :=
  ⟨0, up.setLstate 0 lsShadow, by decide +kernel⟩

/-- A state that meets the hypotheses of clause 5 of LaneBringUp. -/
theorem test_LaneBringUp_5 : ∃ (n : Fin 64) (s : State), (s.laneRuns n) ∧ (s.losable n) :=
  ⟨0, up.setLstate 0 lsUp, by decide +kernel⟩

/-- A state that meets the hypotheses of clause 6 of LaneBringUp. -/
theorem test_LaneBringUp_6 : ∃ (n : Fin 64) (s : State), (s.laneRuns n) ∧ (s.lstate n = lsAlign ∨ s.lstate n = lsTrain) ∧ ((s.ln n).dozeFail = false) :=
  ⟨5, up.setLstate 5 lsTrain, by decide +kernel⟩

/-- A state that meets the hypotheses of clause 7 of LaneBringUp. -/
theorem test_LaneBringUp_7 : ∃ (n : Fin 64) (s : State), (s.laneRuns n) ∧ (s.lstate n = lsCdr) :=
  ⟨0, up.setLstate 0 lsCdr, by decide +kernel⟩

/-- A state that meets the hypotheses of clause 8 of LaneBringUp. -/
theorem test_LaneBringUp_8 : ∃ (n : Fin 64) (s : State), (s.laneRuns n) ∧ (s.lstate n = lsCdr) ∧ ((s.ln n).dozeFail = false) :=
  ⟨0, up.setLstate 0 lsCdr, by decide +kernel⟩

/-- A state that meets the hypotheses of clause 9 of LaneBringUp. -/
theorem test_LaneBringUp_9 : ∃ (n : Fin 64) (s : State), (s.laneRuns n) ∧ (s.lstate n = lsHunt) :=
  ⟨0, up.setLstate 0 lsHunt, by decide +kernel⟩

/-- A state that meets the hypotheses of clause 10 of LaneBringUp. -/
theorem test_LaneBringUp_10 : ∃ (n : Fin 64) (s : State), (s.laneRuns n) ∧ (s.lstate n = lsHunt) ∧ ((s.ln n).dozeFail = false) :=
  ⟨0, up.setLstate 0 lsHunt, by decide +kernel⟩

/-- A state that meets the hypotheses of clause 11 of LaneBringUp. -/
theorem test_LaneBringUp_11 : ∃ (n : Fin 64) (s : State), (s.laneRuns n) ∧ (s.lstate n = lsTrain) ∧ ((s.ln n).dozeFail = false) :=
  ⟨0, up.setLstate 0 lsTrain, by decide +kernel⟩

/-- A state that meets the hypotheses of clause 12 of LaneBringUp. -/
theorem test_LaneBringUp_12 : ∃ (n : Fin 64) (s : State), (s.laneRuns n) ∧ (s.lstate n = lsFailed) :=
  ⟨0, up.setLstate 0 lsFailed, by decide +kernel⟩

/-- A state that meets the hypotheses of clause 13 of LaneBringUp. -/
theorem test_LaneBringUp_13 : ∃ (who : Requester) (n : Fin 64) (s : State), (s.mayWrite who .LNK_CTRL n) :=
  ⟨.helm, 0, up, by decide +kernel⟩

/-- A state that meets the hypotheses of clause 14 of LaneBringUp. -/
theorem test_LaneBringUp_14 : ∃ (who : Requester) (n : Fin 64) (s : State), (s.mayWrite who .LNK_CTRL n) ∧ (lsSignal ≤ s.lstate n) ∧ (s.lstate n ≤ lsTrain) :=
  ⟨.helm, 0, up.setLstate 0 lsHunt, by decide +kernel⟩

/-- A state that meets the hypotheses of clause 15 of LaneBringUp. -/
theorem test_LaneBringUp_15 : ∃ (who : Requester) (n : Fin 64) (s : State), (s.mayWrite who .LNK_CTRL n) :=
  ⟨.helm, 0, up, by decide +kernel⟩

/-- A state that meets the hypotheses of clause 16 of LaneBringUp. -/
theorem test_LaneBringUp_16 : ∀ k ∈ [lsHunt, lsAlign, lsCdr, lsTrain], (((up.setLn 0 { dozeFail := true }).setLstate 0 k).laneRuns 0 &&
(((up.setLn 0 { dozeFail := true }).setLstate 0 k).ln 0).dozeFail) = true ∧
((up.setLn 0 { dozeFail := true }).setLstate 0 k).lstate 0 = k := by decide +kernel

/-- A state that meets the hypotheses of clause 17 of LaneBringUp. -/
theorem test_LaneBringUp_17 : ∃ (who : Requester) (n : Fin 64) (s : State), (s.mayWrite who .LNK_CTRL n) ∧ (lsSignal ≤ s.lstate n) ∧ (s.lstate n ≤ lsTrain) ∧ ((s.ln n).dozeFail = false) :=
  ⟨.helm, 0, up.setLstate 0 lsHunt, by decide +kernel⟩

/-- A state that meets the hypotheses of clause 1 of LaneTraining. -/
theorem test_LaneTraining_1 : ∃ (n : Fin 64) (blk : LineBlock) (s : State), (s.takesTraining n blk 1) ∧ (natBit (fieldLE (s.ctlOf n blk) 3 1) 6) ∧ (fieldLE (s.ctlOf n blk) 4 1 < 8) :=
  ⟨1, lineBlock 1 (withCrc [0x33, 1, 0x20, 0x40, 7, 0, 0, 0, 0]), training 1, by decide +kernel⟩

/-- A state that meets the hypotheses of clause 2 of LaneTraining. -/
theorem test_LaneTraining_2 : ∃ (n : Fin 64) (blk : LineBlock) (s : State), (s.takesTraining n blk 1) ∧ (fieldLE (s.ctlOf n blk) 3 1 = 1) ∧ (s.fld F.LNK_TAPS_OWN_PRE n < 8) ∧ (s.fld F.LNK_TAPS_OWN_PRE n + s.fld F.LNK_TAPS_OWN_MAIN n + s.fld F.LNK_TAPS_OWN_POST n < 48) :=
  ⟨1, lineBlock 1 (withCrc [0x33, 1, 0x20, 1, 0, 0, 0, 0, 0]), (training 1).setFld F.LNK_TAPS_OWN_MAIN 24 1, by decide +kernel⟩

/-- A state that meets the hypotheses of clause 3 of LaneTraining. -/
theorem test_LaneTraining_3 : ∃ (n : Fin 64) (blk : LineBlock) (q : TrainReq) (s : State), (s.takesTraining n blk 2) ∧ (s.lstate n = lsTrain) ∧ ((s.ln n).req = some q) ∧ (q.seq = fieldLE (s.ctlOf n blk) 2 1 / 16) ∧ (s.adaptive n) ∧ ((s.ln n).measured < 8) :=
  ⟨0, lineBlock 1 (withCrc [0x33, 2, 0x20, 0, 0, 0, 3, 4, 40]), ⟨2, 64, 1, 0, 0⟩, (training 0).setLn 0 { req := some ⟨2, 64, 1, 0, 0⟩ }, by decide +kernel⟩

/-- A state that meets the hypotheses of clause 4 of LaneTraining. -/
theorem test_LaneTraining_4 : ∃ (n : Fin 64) (blk : LineBlock) (s : State), (s.takesTraining n blk 3) ∧ (s.lstate n = lsTrain) ∧ ((s.ln n).rdyTx = false) :=
  ⟨0, lineBlock 1 (withCrc [0x33, 3, 0x20, 0, 0, 0, 3, 4, 40]), training 0, by decide +kernel⟩

/-- A state that meets the hypotheses of clause 5 of LaneTraining. -/
theorem test_LaneTraining_5 : ∃ (n : Fin 64) (blk : LineBlock) (s : State), (s.takesTraining n blk 3) ∧ (s.lstate n = lsTrain) ∧ ((s.ln n).rdyTx) :=
  ⟨0, lineBlock 1 (withCrc [0x33, 3, 0x20, 0, 0, 0, 3, 4, 40]), (training 0).setLn 0 { rdyTx := true }, by decide +kernel⟩

/-- A state that meets the hypotheses of clause 6 of LaneTraining. -/
theorem test_LaneTraining_6 : ∃ (n : Fin 64) (blk : LineBlock) (s : State), (s.takesTraining n blk 4) ∧ (s.lstate n = lsTrain) ∧ ((s.ln n).dozeFail = false) :=
  ⟨0, lineBlock 1 (withCrc [0x33, 4, 0x20, 0, 0, 0, 3, 4, 40]), training 0, by decide +kernel⟩

/-- A state that meets the hypotheses of clause 7 of LaneTraining. -/
theorem test_LaneTraining_7 : ∃ (n : Fin 64) (q : TrainReq) (s : State), (s.laneRuns n) ∧ (s.lstate n = lsTrain) ∧ ((s.ln n).req = some q) ∧ (q.repeats < 4) :=
  ⟨0, ⟨0, 64, 0, 3, 0⟩, (training 0).setLn 0 { req := some ⟨0, 64, 0, 3, 0⟩ }, by decide +kernel⟩

/-- A state that meets the hypotheses of clause 8 of LaneTraining. -/
theorem test_LaneTraining_8 : ∃ (n : Fin 64) (q : TrainReq) (s : State), (s.laneRuns n) ∧ (s.lstate n = lsTrain) ∧ ((s.ln n).req = some q) ∧ (4 ≤ q.repeats) ∧ ((s.ln n).dozeFail = false) :=
  ⟨0, ⟨0, 64, 0, 4, 0⟩, (training 0).setLn 0 { req := some ⟨0, 64, 0, 4, 0⟩ }, by decide +kernel⟩

/-- A state that meets the hypotheses of clause 9 of LaneTraining. -/
theorem test_LaneTraining_9 : ∃ (n : Fin 64) (s : State), (s.laneRuns n) ∧ (s.lstate n = lsTrain) ∧ (s.adaptive n) ∧ ((s.ln n).req = none) ∧ ((s.ln n).rdyTx = false) ∧ (0 < (s.ln n).measured) ∧ ((s.ln n).measured < 8) :=
  ⟨0, (training 0).setLn 0 { measured := 7, margin := 3 }, by decide +kernel⟩

/-- A state that meets the hypotheses of clause 1 of LaneBlocksAndStripes. -/
theorem test_LaneBlocksAndStripes_1 : ∃ (n : Fin 64) (blk : LineBlock) (s : State), (s.laneRuns n) ∧ (s.flag F.LNK_STATUS_BLOCK_LOCK n) ∧ ((s.rxBlock n blk).1.hdr = 1) ∧ ((s.rxBlock n blk).1.line &&& 0xFF#256 = 0x5C#256) :=
  ⟨7, ⟨1, stuffedPay 1, none, false⟩, training 7, by decide +kernel⟩

/-- A state that meets the hypotheses of clause 2 of LaneBlocksAndStripes. -/
theorem test_LaneBlocksAndStripes_2 : ∃ (n : Fin 64) (s : State), (s.laneRuns n) ∧ (s.flag F.LNK_STATUS_BLOCK_LOCK n) :=
  ⟨7, training 7, by decide +kernel⟩

/-- A state that meets the hypotheses of clause 3 of LaneBlocksAndStripes. -/
theorem test_LaneBlocksAndStripes_3 : ∃ (n : Fin 64) (blk : LineBlock) (s : State), (s.laneRuns n) ∧ (s.lstate n = lsUp) ∧ ((s.lineIn n blk).1.lost = false) ∧ (skipSense (s.lineIn n blk).1 = some (s.flag F.LNK_STATUS_RX_INVERTED n)) ∧ (s.flag F.LNK_CTRL_RX_POL_AUTO n ∨ s.flag F.LNK_CTRL_RX_INVERT n = s.flag F.LNK_STATUS_RX_INVERTED n) ∧ (crcOk (s.ctlOf n blk) 8) ∧ ((s.ln n).skip = none) ∧ (fieldLE (s.ctlOf n blk) 4 2 % 2 ^ s.portWidth (s.portAt n) = s.activeMask (s.portAt n)) ∧ ((s.pt (s.portAt n)).parity = false) :=
  ⟨0, lineBlock 1 (withCrc [0x1E, 0x00, 5, 0, 1, 0, 0, 0]), (up.setLstate 0 lsUp).setFld F.LNK_PORT_STATUS_ACTIVE_MASK 1 0, by decide +kernel⟩

/-- A state that meets the hypotheses of clause 4 of LaneBlocksAndStripes. -/
theorem test_LaneBlocksAndStripes_4 : ∃ (n : Fin 64) (blk : LineBlock) (inv : Bool) (s : State), (s.laneRuns n) ∧ (s.losable n) ∧ ((s.lineIn n blk).1.lost = false) ∧ (skipSense (s.lineIn n blk).1 = some inv) ∧ (crcOk ((s.lineIn n blk).2.takeBlock n (s.lineIn n blk).1 inv).1.ctl 8 = false) :=
  ⟨0, lineBlock 1 [0x1E, 0x00, 5, 0, 1, 0, 0, 0, 1, 1], false, up.setLstate 0 lsUp, by decide +kernel⟩

/-- A state that meets the hypotheses of clause 5 of LaneBlocksAndStripes. -/
theorem test_LaneBlocksAndStripes_5 : ∃ (p : Fin 64) (s : State), (s.portWidth p ≠ 0) ∧ (s.ready) :=
  ⟨0, up, by decide +kernel⟩

/-- A state that meets the hypotheses of clause 6 of LaneBlocksAndStripes. -/
theorem test_LaneBlocksAndStripes_6 : ∃ (p : Fin 64) (blk : LineBlock) (s : State), (s.ready) ∧ (s.portUp p) ∧ (s.portWidth p = 1) ∧ (s.activeMask p = 1) ∧ ((s.pt p).parity = false) ∧ (s.lstate p = lsUp) ∧ (s.mode ≠ modeService) ∧ ((s.rxBlock p blk).1.isData) :=
  ⟨0, lineBlock 2 [1, 2, 3], ((up.setLstate 0 lsUp).setFld F.LNK_PORT_STATUS_ACTIVE_MASK 1 0).setFld F.LNK_PORT_STATUS_UP 1 0, by decide +kernel⟩

/-- A state that meets the hypotheses of clause 7 of LaneBlocksAndStripes. -/
theorem test_LaneBlocksAndStripes_7 : ∃ (p : Fin 64) (blk : LineBlock) (s : State), (s.ready) ∧ (s.portUp p) ∧ (s.portWidth p = 1) ∧ (s.activeMask p = 1) ∧ ((s.pt p).parity = false) ∧ (s.lstate p = lsUp) ∧ ((s.rxBlock p blk).1.validHdr = false) ∧ ((s.rxBlock p blk).1.lost = false) ∧ (s.flag F.LNK_STATUS_BLOCK_LOCK p) ∧ ((s.ln p).quietTill ≤ s.fine) ∧ (s.mode ≠ modeService) :=
  ⟨0, lineBlock 3 [1, 2, 3], (((up.setLstate 0 lsUp).setFld F.LNK_STATUS_BLOCK_LOCK 1 0).setFld F.LNK_PORT_STATUS_ACTIVE_MASK 1 0).setFld F.LNK_PORT_STATUS_UP 1 0, by decide +kernel⟩

/-- A state that meets the hypotheses of clause 8 of LaneBlocksAndStripes. -/
theorem test_LaneBlocksAndStripes_8 : ∃ (p : Fin 64) (blocks : List LineBlock) (s : State), (s.ready) ∧ (s.portUp p) ∧ (s.portWidth p ≠ 0) ∧ (blocks.length = s.portWidth p) ∧ (s.mode ≠ modeService) ∧ ((s.settle p blocks).1.isData) ∧ (((s.settle p blocks).2.pt p).parity = false) :=
  ⟨0, [lineBlock 2 [1, 2, 3]], ((up.setLstate 0 lsUp).setFld F.LNK_PORT_STATUS_ACTIVE_MASK 1 0).setFld F.LNK_PORT_STATUS_UP 1 0, by decide +kernel⟩

/-- A state that meets the hypotheses of clause 9 of LaneBlocksAndStripes. -/
theorem test_LaneBlocksAndStripes_9 : ∃ (p : Fin 64) (x : Stripe) (rest : List Stripe) (s : State), ((s.pt p).held = x :: rest) ∧ (x.erased = []) ∧ (x.checks) :=
  ⟨4, ⟨0, [(1, false), (2, false), (3, false), (0, false)], none⟩, [], up.setPt 4 { held := [⟨0, [(1, false), (2, false), (3, false), (0, false)], none⟩] }, by decide +kernel⟩

/-- A state that meets the hypotheses of clause 10 of LaneBlocksAndStripes. -/
theorem test_LaneBlocksAndStripes_10 : ∃ (p : Fin 64) (x : Stripe) (rest : List Stripe) (e : Nat) (s : State), ((s.pt p).held = x :: rest) ∧ (x.erased = [e] ∨ x.erased = [] ∧ x.checks = false ∧ x.late = some e) ∧ (e ≠ parityLane x.blocks.length x.num) :=
  ⟨4, ⟨0, [(1, false), (2, true), (3, false), (0, false)], none⟩, [], 1, up.setPt 4 { held := [⟨0, [(1, false), (2, true), (3, false), (0, false)], none⟩] }, by decide +kernel⟩

/-- A state that meets the hypotheses of clause 11 of LaneBlocksAndStripes. -/
theorem test_LaneBlocksAndStripes_11 : ∃ (p : Fin 64) (x : Stripe) (rest : List Stripe) (s : State), ((s.pt p).held = x :: rest) ∧ (x.erased = []) ∧ (x.checks = false) ∧ (x.late = none) :=
  ⟨4, ⟨0, [(1, false), (2, false), (3, false), (7, false)], none⟩, [], up.setPt 4 { held := [⟨0, [(1, false), (2, false), (3, false), (7, false)], none⟩] }, by decide +kernel⟩

/-- A state that meets the hypotheses of clause 12 of LaneBlocksAndStripes. -/
theorem test_LaneBlocksAndStripes_12 : ∃ (n : Fin 64) (s : State), (s.laneRuns n) ∧ (s.flag F.LNK_STATUS_SUSPECT n) ∧ (64 ≤ (s.ln n).good) :=
  ⟨0, (up.setFld F.LNK_STATUS_SUSPECT 1 0).setLn 0 { good := 64 }, by decide +kernel⟩

/-- A state that meets the hypotheses of clause 13 of LaneBlocksAndStripes. -/
theorem test_LaneBlocksAndStripes_13 : ∃ (p : Fin 64) (d : Nat) (w0 : Nat) (s : State), (s.portWidth p ≠ 0) ∧ (s.portUp p = false) ∧ ((s.pt p).wait = some w0) ∧ ((s.pt p).decided = none) ∧ (s.portDecision p = some d) :=
  ⟨0, 1, 0, (up.setLstate 0 lsDeskew).setPt 0 { wait := some 0 }, by decide +kernel⟩

/-- A state that meets the hypotheses of clause 14 of LaneBlocksAndStripes. -/
theorem test_LaneBlocksAndStripes_14 : ∃ (p : Fin 64) (w0 : Nat) (s : State), (s.portWidth p ≠ 0) ∧ (s.portUp p = false) ∧ ((s.pt p).wait = some w0) ∧ ((s.pt p).decided = none) ∧ (s.portDecision p = none) :=
  ⟨0, 0, up.setPt 0 { wait := some 0 }, by decide +kernel⟩

/-- A state that meets the hypotheses of clause 15 of LaneBlocksAndStripes. -/
theorem test_LaneBlocksAndStripes_15 : ∃ (p : Fin 64) (r : RateMsg) (s : State), ((s.pt p).rate = some r) ∧ (r.restore = false) ∧ (s.portUp p) ∧ (r.sent < 8) :=
  ⟨0, ⟨false, 0xF0, 1, 7, 0, false⟩, (up.setFld F.LNK_PORT_STATUS_UP 1 0).setPt 0 { rate := some ⟨false, 0xF0, 1, 7, 0, false⟩ }, by decide +kernel⟩

/-- A state that meets the hypotheses of clause 16 of LaneBlocksAndStripes. -/
theorem test_LaneBlocksAndStripes_16 : ∃ (p : Fin 64) (r : RateMsg) (s : State), ((s.pt p).rate = some r) ∧ (r.restore = false) ∧ (s.portUp p) ∧ (8 ≤ r.sent) :=
  ⟨0, ⟨false, 0xF0, 1, 8, 0, false⟩, (up.setFld F.LNK_PORT_STATUS_UP 1 0).setPt 0 { rate := some ⟨false, 0xF0, 1, 8, 0, false⟩ }, by decide +kernel⟩

/-- A state that meets the hypotheses of clause 1 of LaneLowPowerAndTests. -/
theorem test_LaneLowPowerAndTests_1 : ∃ (p : Fin 64) (blocks : List LineBlock) (n : Nat) (s : State), (s.ready) ∧ (blocks.length = s.portWidth p) ∧ ((s.powerRow p blocks).1 = some 1) ∧ ((s.powerRow p blocks).2.dozeNak p = false) ∧ (n ∈ (s.powerRow p blocks).2.portLanes p) :=
  ⟨0, [lineBlock 1 (withCrc [0x78, 1, 0])], 0, (((up.setLstate 0 lsUp).setFld F.LNK_PORT_STATUS_ACTIVE_MASK 1 0).setFld F.LNK_PORT_STATUS_UP 1 0).setFld F.LNK_CTRL_DOZE_EN 1 0, by decide +kernel⟩

/-- A state that meets the hypotheses of clause 2 of LaneLowPowerAndTests. -/
theorem test_LaneLowPowerAndTests_2 : ∃ (p : Fin 64) (blocks : List LineBlock) (s : State), (s.ready) ∧ (s.portWidth p ≠ 0) ∧ (blocks.length = s.portWidth p) ∧ ((s.powerRow p blocks).1 = some 1) ∧ ((s.powerRow p blocks).2.dozeNak p) :=
  ⟨0, [lineBlock 1 (withCrc [0x78, 1, 0])], (((up.setLstate 0 lsUp).setFld F.LNK_PORT_STATUS_ACTIVE_MASK 1 0).setFld F.LNK_PORT_STATUS_UP 1 0).setFld F.LNK_CTRL_DOZE_EN 0 0, by decide +kernel⟩

/-- A state that meets the hypotheses of clause 3 of LaneLowPowerAndTests. -/
theorem test_LaneLowPowerAndTests_3 : ∃ (p : Fin 64) (blocks : List LineBlock) (n : Nat) (s : State), (blocks.length = s.portWidth p) ∧ ((s.portLanes p).all (fun n => decide (s.lstate n = lsDoze))) ∧ ((s.powerRow p blocks).1 = some 5) ∧ (n ∈ (s.powerRow p blocks).2.portLanes p) :=
  ⟨0, [lineBlock 1 (withCrc [0x78, 5, 0])], 0, (up.setLstate 0 lsDoze).setFld F.LNK_STATUS_BLOCK_LOCK 1 0, by decide +kernel⟩

/-- A state that meets the hypotheses of clause 4 of LaneLowPowerAndTests. -/
theorem test_LaneLowPowerAndTests_4 : ∃ (p : Fin 64) (n : Nat) (s : State), (n ∈ s.portLanes p) ∧ (s.lstate n = lsDoze) :=
  ⟨0, 0, up.setLstate 0 lsDoze, by decide +kernel⟩

/-- A state that meets the hypotheses of clause 5 of LaneLowPowerAndTests. -/
theorem test_LaneLowPowerAndTests_5 : ∃ (p : Fin 64) (first : Nat) (last : Nat) (s : State), ((s.pt p).deep = some (first, last)) ∧ (s.portUp p) ∧ (s.deepWanted p) :=
  ⟨0, 0, 0, ((up.setFld F.PWR_MODE_STATUS_MODE modeIdle).setFld F.LNK_PORT_STATUS_UP 1 0).setPt 0 { deep := some (0, 0) }, by decide +kernel⟩

/-- A state that meets the hypotheses of clause 6 of LaneLowPowerAndTests. -/
theorem test_LaneLowPowerAndTests_6 : ∃ (p : Fin 64) (blocks : List LineBlock) (s : State), (s.portWidth p = 1) ∧ (blocks.length = 1) ∧ ((s.pt p).deep.isSome) ∧ ((s.powerRow p blocks).1 = some 3) ∧ (s.lstate p = lsUp) :=
  ⟨0, [lineBlock 1 (withCrc [0x78, 3, 0])], ((up.setLstate 0 lsUp).setFld F.LNK_STATUS_BLOCK_LOCK 1 0).setPt 0 { deep := some (0, 0) }, by decide +kernel⟩

/-- A state that meets the hypotheses of clause 7 of LaneLowPowerAndTests. -/
theorem test_LaneLowPowerAndTests_7 : ∃ (p : Fin 64) (t0 : Nat) (last : Nat) (s : State), (s.portWidth p = 1) ∧ ((s.pt p).deep = some (t0, last)) ∧ (s.lanesIdle) ∧ (s.lstate p = lsUp) :=
  ⟨0, 0, 0, ((up.setFld F.PWR_MODE_STATUS_MODE modeIdle).setLstate 0 lsUp).setPt 0 { deep := some (0, 0) }, by decide +kernel⟩

/-- A state that meets the hypotheses of clause 8 of LaneLowPowerAndTests. -/
theorem test_LaneLowPowerAndTests_8 : ∃ (n : Fin 64) (s : State), (s.laneRuns n) ∧ (s.lstate n = lsDeep) ∧ (s.lanesIdle = false) ∧ (s.flag F.LNK_CTRL_WAKE_ON_SIGNAL n) ∧ (n.val ∈ s.portLanes (s.portAt n)) :=
  ⟨0, ((up.setFld F.PWR_MODE_STATUS_MODE modeAcquire).setLstate 0 lsDeep).setFld F.LNK_CTRL_WAKE_ON_SIGNAL 1 0, by decide +kernel⟩

/-- A state that meets the hypotheses of clause 9 of LaneLowPowerAndTests. -/
theorem test_LaneLowPowerAndTests_9 : ∃ (q : Fin 16) (n : Nat) (s : State), (n / 4 = q) ∧ (s.laneRuns n) ∧ (s.lstate n = lsDeep) ∧ ((s.ln n).exit = 1) :=
  ⟨0, 3, (up.setLstate 3 lsDeep).setLn 3 { exit := 1 }, by decide +kernel⟩

/-- A state that meets the hypotheses of clause 10 of LaneLowPowerAndTests. -/
theorem test_LaneLowPowerAndTests_10 : ∃ (who : Requester) (n : Fin 64) (s : State), (s.mayWrite who .LNK_PATTERN n) :=
  ⟨.helm, 0, up.wr .LNK_BER_ERRS 5 0, by decide +kernel⟩

/-- A state that meets the hypotheses of clause 11 of LaneLowPowerAndTests. -/
theorem test_LaneLowPowerAndTests_11 : ∃ (who : Requester) (n : Fin 64) (s : State), (s.mayWrite who .LNK_INJECT n) ∧ (s.mode = modeService) ∧ (s.fld F.LNK_INJECT_MODE n = 1) :=
  ⟨.helm, 0, (up.setFld F.PWR_MODE_STATUS_MODE modeService).setFld F.LNK_INJECT_MODE 1 0, by decide +kernel⟩

/-- A state that meets the hypotheses of clause 12 of LaneLowPowerAndTests. -/
theorem test_LaneLowPowerAndTests_12 : ∃ (n : Fin 64) (s : State), (s.laneRuns n) ∧ (s.mode = modeService) ∧ (s.fld F.LNK_INJECT_MODE n = 2) :=
  ⟨0, (up.setFld F.PWR_MODE_STATUS_MODE modeService).setFld F.LNK_INJECT_MODE 2 0, by decide +kernel⟩

/-- A state that meets the hypotheses of clause 13 of LaneLowPowerAndTests. -/
theorem test_LaneLowPowerAndTests_13 : ∃ (who : Requester) (n : Fin 64) (s : State), (s.mayRead who 0 n 1) ∧ (who ≠ .helm) :=
  ⟨.mailbox, 0, (up.wr .SES_STATUS 0x300).wr .LNK_BER_BITS_LO 7 0, by decide +kernel⟩

/-- A state that meets the hypotheses of clause 14 of LaneLowPowerAndTests. -/
theorem test_LaneLowPowerAndTests_14 : ∃ (n : Fin 64) (bits : List Bool) (r : Bool × Nat × Nat × Checker) (s : State), (s.laneRuns n) ∧ (s.mode = modeService) ∧ (s.lstate n = lsTest) ∧ (s.fld F.LNK_PATTERN_CHK n ∈ [1, 2, 3, 6]) ∧ (r = checkBits (s.fld F.LNK_PATTERN_CHK n) (s.rd .LNK_USER_WORD n) bits (s.flag F.LNK_PATTERN_CHK_LOCK n) 0 0 (s.ln n).chk) :=
  ⟨0, [false, true], checkBits 3 0 [false, true] true 0 0 {}, (((up.setFld F.PWR_MODE_STATUS_MODE modeService).setLstate 0 lsTest).setFld F.LNK_PATTERN_CHK 3 0).setFld F.LNK_PATTERN_CHK_LOCK 1 0, by decide +kernel⟩

/-- A state that meets the hypotheses of clause 1 of CaptureFrames. -/
theorem test_CaptureFrames_1 : ∃ (p : Fin 64) (pkt : Packet) (s : State), (s.ready) ∧ (s.portUp p) ∧ (s.headOk p pkt.payload.length) :=
  ⟨0, packet 7 [], up.setFld F.LNK_PORT_STATUS_UP 1 0, by decide +kernel⟩

/-- A state that meets the hypotheses of clause 2 of CaptureFrames. -/
theorem test_CaptureFrames_2 : ∃ (p : Fin 64) (pkt : Packet) (s : State), (s.ready) ∧ (s.portUp p) ∧ (s.headOk p pkt.payload.length) ∧ ((s.takePacket p pkt).1.ok) ∧ (pkt.payload.length = 12) :=
  ⟨0, packet 7 (bytesLE 12 77), up.setFld F.LNK_PORT_STATUS_UP 1 0, by decide +kernel⟩

/-- A state that meets the hypotheses of clause 3 of CaptureFrames. -/
theorem test_CaptureFrames_3 : ∃ (p : Fin 64) (pkt : Packet) (f : CapFrame) (s : State), (s.ready) ∧ (s.portUp p) ∧ (s.headOk p pkt.payload.length) ∧ ((s.cp p).frame = some f) ∧ (f.camSeq = pkt.info.toNat) ∧ (f.opaq = false) ∧ ((s.takePacket p pkt).1.ok) ∧ (4 ≤ pkt.payload.length) ∧ (f.got = []) ∧ (fieldLE pkt.payload 0 4 < fieldLE pkt.payload 0 4 + (pkt.payload.length - 4)) ∧ (fieldLE pkt.payload 0 4 + (pkt.payload.length - 4) ≤ f.size0) :=
  ⟨0, packet 7 (bytesLE 8 0), openFrame, (up.setFld F.LNK_PORT_STATUS_UP 1 0).setCp 0 { frame := some openFrame }, by decide +kernel⟩

/-- A state that meets the hypotheses of clause 4 of CaptureFrames. -/
theorem test_CaptureFrames_4 : ∃ (p : Fin 64) (pkt : Packet) (s : State), s.ready ∧ s.portUp p ∧ s.headOk p pkt.payload.length ∧ ∀ f, (s.cp p).frame = some f → f.camSeq ≠ pkt.info.toNat :=
⟨0, packet 7 [], up.setFld F.LNK_PORT_STATUS_UP 1 0, by decide +kernel, by decide +kernel, by decide +kernel, fun f h => by simp [State.cp, up] at h; cases h⟩

/-- A state that meets the hypotheses of clause 5 of CaptureFrames. -/
theorem test_CaptureFrames_5 : ∃ (p : Fin 64) (pkt : Packet) (s : State), s.ready ∧ s.portUp p ∧ s.headOk p pkt.payload.length ∧ ∀ f, (s.cp p).frame = some f → f.camSeq ≠ pkt.info.toNat :=
⟨63, packet 7 [], up.setFld F.LNK_PORT_STATUS_UP 1 63, by decide +kernel, by decide +kernel, by decide +kernel, fun f h => by simp [State.cp, up] at h; cases h⟩

/-- A state that meets the hypotheses of clause 6 of CaptureFrames. -/
theorem test_CaptureFrames_6 : ∃ (p : Fin 64) (pkt : Packet) (f : CapFrame) (s : State), (s.ready) ∧ (s.portUp p) ∧ (s.headOk p pkt.payload.length) ∧ ((s.cp p).frame = some f) ∧ (f.camSeq = pkt.info.toNat) :=
  ⟨0, packet 7 (bytesLE 4 0), openFrame, (up.setFld F.LNK_PORT_STATUS_UP 1 0).setCp 0 { frame := some openFrame }, by decide +kernel⟩

/-- A state that meets the hypotheses of clause 7 of CaptureFrames. -/
theorem test_CaptureFrames_7 : ∃ (p : Fin 64) (f : CapFrame) (s : State), ((s.cp p).frame = some f) :=
  ⟨0, openFrame, (up.setFld F.LNK_PORT_STATUS_UP 1 0).setCp 0 { frame := some openFrame }, by decide +kernel⟩

/-- A state that meets the hypotheses of clause 8 of CaptureFrames. -/
theorem test_CaptureFrames_8 : ∃ (p : Fin 64) (s : State), (s.ready) ∧ (s.portUp p) :=
  ⟨0, up.setFld F.LNK_PORT_STATUS_UP 1 0, by decide +kernel⟩

/-- A state that meets the hypotheses of clause 9 of CaptureFrames. -/
theorem test_CaptureFrames_9 : ∃ (p : Fin 64) (length : BitVec 16) (s : State), (s.ready) ∧ (s.portUp p) ∧ (s.headOk p length.toNat) :=
  ⟨0, 3, up.setFld F.LNK_PORT_STATUS_UP 1 0, by decide +kernel⟩

/-- A state that meets the hypotheses of clause 10 of CaptureFrames. -/
theorem test_CaptureFrames_10 : ((up.setFld F.LNK_PORT_STATUS_UP 1 0).ready && (up.setFld F.LNK_PORT_STATUS_UP 1 0).portUp 0 &&
!(up.setFld F.LNK_PORT_STATUS_UP 1 0).headOk 0 16385) = true := by decide +kernel

/-- A state that meets the hypotheses of clause 11 of CaptureFrames. -/
theorem test_CaptureFrames_11 : ∃ (p : Fin 64) (pkt : Packet) (s : State), (s.ready) ∧ (s.portUp p) ∧ (s.headOk p pkt.payload.length) ∧ ((s.takePacket p pkt).1.ok) ∧ (pkt.payload.length = 16) :=
  ⟨0, packet 7 (bytesLE 16 77), up.setFld F.LNK_PORT_STATUS_UP 1 0, by decide +kernel⟩

/-- A state that meets the hypotheses of clause 12 of CaptureFrames. -/
theorem test_CaptureFrames_12 : ∃ (p : Fin 64) (s : State), (s.portUp p) :=
  ⟨0, up.setFld F.LNK_PORT_STATUS_UP 1 0, by decide +kernel⟩

/-- A state that meets the hypotheses of clause 13 of CaptureFrames. -/
theorem test_CaptureFrames_13 : ∃ (who : Requester) (p : Fin 64) (s : State), (s.mayRead who 1 p 1) ∧ (who ≠ .helm) :=
  ⟨.mailbox, 0, up.wr .SES_STATUS 0x300, by decide +kernel⟩

/-- A state that meets the hypotheses of clause 1 of CaptureControl. -/
theorem test_CaptureControl_1 : ∃ (who : Requester) (box : Fin 2) (s : State), (s.unitOpen 1) ∧ (s.flrBars who = false) ∧ (s.flag F.CAP_CTRL_STATUS_BUSY box = false) ∧ (2 ≤ s.levelOf who) ∧ (s.portUp (s.fld F.CAP_CTRL_CMD_PORT box) = false) :=
  ⟨.helm, 0, up, by decide +kernel⟩

/-- A state that meets the hypotheses of clause 2 of CaptureControl. -/
theorem test_CaptureControl_2 : ∃ (who : Requester) (box : Fin 2) (c : CtlReq) (rest : List CtlReq) (s : State), (s.unitOpen 1) ∧ (s.flrBars who = false) ∧ (s.flag F.CAP_CTRL_STATUS_BUSY box = false) ∧ (2 ≤ s.levelOf who) ∧ (s.portUp (s.fld F.CAP_CTRL_CMD_PORT box)) ∧ (s.portWidth (s.fld F.CAP_CTRL_CMD_PORT box) ≠ 0) ∧ (s.fld F.CAP_CTRL_CMD_OP box ≠ 0x10) ∧ (s.fld F.CAP_CTRL_CMD_OP box ≠ 0x11) ∧ ((s.cp (s.fld F.CAP_CTRL_CMD_PORT box)).ctl = c :: rest) ∧ (c.sent ≠ 0) :=
  ⟨.helm, 0, ⟨1, 1, [], 1, 1, 0⟩, [], ((up.setFld F.LNK_PORT_STATUS_UP 1 0).setFld F.CAP_CTRL_CMD_OP 1 0).setCp 0 { ctl := [⟨1, 1, [], 1, 1, 0⟩] }, by decide +kernel⟩

/-- A state that meets the hypotheses of clause 3 of CaptureControl. -/
theorem test_CaptureControl_3 : ∃ (p : Fin 64) (pkt : Packet) (c : CtlReq) (s : State), (s.ready) ∧ (s.portUp p) ∧ (s.headOk p pkt.payload.length) ∧ ((s.takePacket p pkt).1.ok) ∧ (pkt.info.toNat % 256 < 0xF0) ∧ ((s.cp p).ctl = [c]) ∧ (c.sent ≠ 0) ∧ (c.id = pkt.info.toNat % 256) :=
  ⟨0, packet 7 [1], ⟨1, 1, [], 7, 1, 0⟩, (up.setFld F.LNK_PORT_STATUS_UP 1 0).setCp 0 { ctl := [⟨1, 1, [], 7, 1, 0⟩] }, by decide +kernel⟩

/-- A state that meets the hypotheses of clause 4 of CaptureControl. -/
theorem test_CaptureControl_4 : ∃ (p : Fin 64) (pkt : Packet) (s : State), (s.ready) ∧ (s.portUp p) ∧ (s.headOk p pkt.payload.length) ∧ ((s.takePacket p pkt).1.ok) ∧ (pkt.info.toNat % 256 < 0xF0) ∧ ((s.cp p).ctl = []) :=
  ⟨0, packet 7 [1], up.setFld F.LNK_PORT_STATUS_UP 1 0, by decide +kernel⟩

/-- A state that meets the hypotheses of clause 5 of CaptureControl. -/
theorem test_CaptureControl_5 : ∃ (p : Fin 64) (c : CtlReq) (rest : List CtlReq) (s : State), (s.restoreDue p = none) ∧ ((s.cp p).ctl = c :: rest) ∧ (1 ≤ c.sent) ∧ (c.sent ≤ 3) :=
  ⟨0, ⟨1, 1, [], 7, 1, 0⟩, [], (up.setFld F.LNK_PORT_STATUS_UP 1 0).setCp 0 { ctl := [⟨1, 1, [], 7, 1, 0⟩] }, by decide +kernel⟩

/-- A state that meets the hypotheses of clause 6 of CaptureControl. -/
theorem test_CaptureControl_6 : ∃ (p : Fin 64) (c : CtlReq) (s : State), (s.restoreDue p = none) ∧ ((s.cp p).ctl = [c]) ∧ (4 ≤ c.sent) :=
  ⟨0, ⟨1, 1, [], 7, 4, 0⟩, (up.setFld F.LNK_PORT_STATUS_UP 1 0).setCp 0 { ctl := [⟨1, 1, [], 7, 4, 0⟩] }, by decide +kernel⟩

/-- A state that meets the hypotheses of clause 7 of CaptureControl. -/
theorem test_CaptureControl_7 : ∃ (p : Fin 64) (m : RateMsg) (s : State), ((s.pt p).rate = some m) ∧ (m.restore) ∧ (m.answered = false) ∧ (m.sent ≤ 3) ∧ ((s.cp p).ctl = []) :=
  ⟨0, ⟨true, 0xF0, 1, 1, 0, false⟩, (up.setFld F.LNK_PORT_STATUS_UP 1 0).setPt 0 { rate := some ⟨true, 0xF0, 1, 1, 0, false⟩ }, by decide +kernel⟩

/-- A state that meets the hypotheses of clause 1 of CaptureTriggers. -/
theorem test_CaptureTriggers_1 : ∃ (who : Requester) (p : Fin 64) (s : State), (s.mayWrite who .CAP_TRIG_CFG p) ∧ (s.trigMode) ∧ (s.portWidth p ≠ 0) ∧ ((s.cp p).queued = none ∧ (s.cp p).causeAt = none ∧ (s.cp p).trigAt = none) ∧ (s.fld F.CAP_TRIG_CFG_OUTPUT p = 1) ∧ (s.portUp p) :=
  ⟨.helm, 0, trigReady 0, by decide +kernel⟩

/-- A state that meets the hypotheses of clause 2 of CaptureTriggers. -/
theorem test_CaptureTriggers_2 : ∃ (who : Requester) (p : Fin 64) (s : State), (s.mayWrite who .CAP_TRIG_CFG p) ∧ (s.trigMode) ∧ (s.portWidth p ≠ 0) ∧ ((s.cp p).queued.isSome) :=
  ⟨.helm, 0, (trigReady 0).setCp 0 { queued := some ⟨0, 5, 0, false, false, 0⟩ }, by decide +kernel⟩

/-- A state that meets the hypotheses of clause 3 of CaptureTriggers. -/
theorem test_CaptureTriggers_3 : ∃ (p : Fin 64) (dt : Nat) (s : State), (s.trigMode) ∧ (s.portWidth p ≠ 0) ∧ ((s.cp p).queued = none ∧ (s.cp p).causeAt = none ∧ (s.cp p).trigAt = none) ∧ (s.fld F.CAP_TRIG_CFG_OUTPUT p = 1) ∧ (s.portUp p) ∧ (s.fld F.CAP_TRIG_CFG_SOURCE p = 3) ∧ (s.hasBeam (s.fld F.CAP_TRIG_CFG_SRC_INDEX p)) ∧ (s.flag F.CAP_TRIG_CFG_MARKS_ONLY p = false ∨ s.flag F.BCH_STATUS_EMIT (s.fld F.CAP_TRIG_CFG_SRC_INDEX p)) ∧ (s.passNow p (s.fine + dt) ≠ (s.cp p).passes) :=
  ⟨0, 5, ((trigReady 0).setFld F.CAP_TRIG_CFG_SOURCE 3 0).setCp 0 { passes := 9 }, by decide +kernel⟩

/-- A state that meets the hypotheses of clause 4 of CaptureTriggers. -/
theorem test_CaptureTriggers_4 : ∃ (p : Fin 64) (q : Trig) (s : State), (s.trigMode) ∧ (s.portUp p) ∧ ((s.cp p).queued = some q) :=
  ⟨0, ⟨0, 5, 0, false, false, 0⟩, (trigReady 0).setCp 0 { queued := some ⟨0, 5, 0, false, false, 0⟩ }, by decide +kernel⟩

/-- A state that meets the hypotheses of clause 5 of CaptureTriggers. -/
theorem test_CaptureTriggers_5 : ∃ (p : Fin 64) (s : State), (s.ready) ∧ (s.portUp p) ∧ (s.headOk p 0) :=
  ⟨0, trigReady 0, by decide +kernel⟩

/-- A state that meets the hypotheses of clause 6 of CaptureTriggers. -/
theorem test_CaptureTriggers_6 : ∃ (p : Fin 64) (seq : BitVec 8) (q : Trig) (s : State), ((s.cp p).sent.reverse.find? (fun (t : Trig) => t.seq = seq.toNat && t.wait) = some q) :=
  ⟨0, 3, ⟨3, 5, 0, false, true, 0⟩, (trigReady 0).setCp 0 { sent := [⟨3, 5, 0, false, true, 0⟩] }, by decide +kernel⟩

/-- A state that meets the hypotheses of clause 7 of CaptureTriggers. -/
theorem test_CaptureTriggers_7 : ∃ (pin : Fin 8) (e : Nat) (s : State), (tblGet none s.capt.pins pin.val = some e) :=
  ⟨0, 9, { up with capt := { up.capt with pins := tblSet none up.capt.pins 0 (some 9) } }, by decide +kernel⟩

/-- A state that meets the hypotheses of clause 8 of CaptureTriggers. -/
theorem test_CaptureTriggers_8 : ∃ (who : Requester) (n : Fin 16) (s : State), (s.unitOpen 1) ∧ (s.flrBars who = false) ∧ (2 ≤ s.levelOf who) ∧ (s.fld F.CAP_ENC_CMP_CFG_MODE n = 1) ∧ (s.fld F.CAP_ENC_CMP_CFG_LENGTH n ≠ 0) ∧ (s.fld F.CAP_ENC_CMP_CFG_BASE n < 16384) :=
  ⟨.helm, 0, (up.setFld F.CAP_ENC_CMP_CFG_MODE 1 0).setFld F.CAP_ENC_CMP_CFG_LENGTH 4 0, by decide +kernel⟩

/-- A state that meets the hypotheses of clause 1 of EncodersAndSsi. -/
theorem test_EncodersAndSsi_1 : ∃ (n : Fin 16) (a : Bool) (b : Bool) (held : Nat) (s : State), (s.encOn n) ∧ (s.encFilter n ≤ held) ∧ ((s.en n).a ≠ a) ∧ ((s.en n).b = b) :=
  ⟨0, true, false, 640, encUp 0, by decide +kernel⟩

/-- A state that meets the hypotheses of clause 2 of EncodersAndSsi. -/
theorem test_EncodersAndSsi_2 : ∃ (n : Fin 16) (a : Bool) (b : Bool) (held : Nat) (s : State), (s.encOn n) ∧ (s.encFilter n ≤ held) ∧ ((s.en n).a = a) ∧ ((s.en n).b ≠ b) :=
  ⟨15, false, true, 640, encUp 15, by decide +kernel⟩

/-- A state that meets the hypotheses of clause 3 of EncodersAndSsi. -/
theorem test_EncodersAndSsi_3 : ∃ (n : Fin 16) (a : Bool) (b : Bool) (held : Nat) (s : State), (s.encOn n) ∧ (s.encFilter n ≤ held) ∧ ((s.en n).a ≠ a) ∧ ((s.en n).b ≠ b) :=
  ⟨0, true, true, 640, encUp 0, by decide +kernel⟩

/-- A state that meets the hypotheses of clause 4 of EncodersAndSsi. -/
theorem test_EncodersAndSsi_4 : ∃ (n : Fin 16) (held : Nat) (s : State), (held < s.encFilter n) :=
  ⟨0, 4, encUp 0, by decide +kernel⟩

/-- A state that meets the hypotheses of clause 5 of EncodersAndSsi. -/
theorem test_EncodersAndSsi_5 : ∃ (n : Fin 16) (held : Nat) (s : State), (s.encOn n) ∧ (s.encFilter n ≤ held) ∧ (s.fld F.CAP_ENC_IN_Z_MODE n = 1) :=
  ⟨0, 640, (encUp 0).setFld F.CAP_ENC_IN_Z_MODE 1 0, by decide +kernel⟩

/-- A state that meets the hypotheses of clause 6 of EncodersAndSsi. -/
theorem test_EncodersAndSsi_6 : ∃ (n : Fin 16) (held : Nat) (s : State), (s.encOn n) ∧ (s.encFilter n ≤ held) ∧ (s.fld F.CAP_ENC_IN_Z_MODE n = 2) :=
  ⟨0, 640, (encUp 0).setFld F.CAP_ENC_IN_Z_MODE 2 0, by decide +kernel⟩

/-- A state that meets the hypotheses of clause 7 of EncodersAndSsi. -/
theorem test_EncodersAndSsi_7 : ∃ (who : Requester) (n : Fin 16) (s : State), (s.mayWrite who .CAP_ENC_COUNT n) :=
  ⟨.helm, 0, up, by decide +kernel⟩

/-- A state that meets the hypotheses of clause 8 of EncodersAndSsi. -/
theorem test_EncodersAndSsi_8 : ∃ (who : Requester) (n : Fin 16) (s : State), (s.mayWrite who .CAP_ENC_COUNT n) ∧ (s.encOn n) ∧ (s.fld F.CAP_ENC_IN_Z_MODE n = 1) :=
  ⟨.helm, 0, (encUp 0).setFld F.CAP_ENC_IN_Z_MODE 1 0, by decide +kernel⟩

/-- A state that meets the hypotheses of clause 9 of EncodersAndSsi. -/
theorem test_EncodersAndSsi_9 : ∃ (a : Fin 4) (s : State), (s.ready) ∧ (s.domOn (56 + a)) ∧ (s.flag F.CAP_SSI_CFG_ENABLE a) ∧ ((s.si a).run = none) :=
  ⟨0, up.setFld F.CAP_SSI_CFG_ENABLE 1 0, by decide +kernel⟩

/-- A state that meets the hypotheses of clause 10 of EncodersAndSsi. -/
theorem test_EncodersAndSsi_10 : ∃ (a : Fin 4) (t0 : Nat) (s : State), ((s.si a).run = some (t0, true)) :=
  ⟨0, 2, up.setSi 0 { run := some (2, true) }, by decide +kernel⟩

/-- A state that meets the hypotheses of clause 11 of EncodersAndSsi. -/
theorem test_EncodersAndSsi_11 : ∃ (a : Fin 4) (t0 : Nat) (idle : Bool) (low : Bool) (s : State), ((s.si a).run = some (t0, idle)) ∧ ((idle && low) = false) :=
  ⟨0, 2, true, false, up.setSi 0 { run := some (2, true) }, by decide +kernel⟩

/-- A state that meets the hypotheses of clause 1 of StoreMemory. -/
theorem test_StoreMemory_1 : ∃ (addr : Nat) (data : List Byte) (s : State), (s.flrActive = false) ∧ (2 ≤ s.levelOf .mailbox) ∧ (s.storeUp) ∧ (s.fst.retiring = none) ∧ ((List.range data.length).all (fun i => s.storeHostWrites (addr + i) && (s.storePlace (addr + i)).isSome)) :=
  ⟨0x300000, [1, 2, 3], storeReady, by decide +kernel⟩

/-- A state that meets the hypotheses of clause 2 of StoreMemory. -/
theorem test_StoreMemory_2 : ∃ (addr : Nat) (data : List Byte) (i : Nat) (s : State), (s.flrActive = false) ∧ (2 ≤ s.levelOf .mailbox) ∧ (i < data.length) ∧ ((s.storePlace (addr + i)).isNone) :=
  ⟨0, [1], 0, up.wr .SES_STATUS 0x300, by decide +kernel⟩

/-- A state that meets the hypotheses of clause 3 of StoreMemory. -/
theorem test_StoreMemory_3 : ∃ (addr : Nat) (len : Nat) (s : State), (s.flrActive = false) ∧ (1 ≤ s.levelOf .mailbox) ∧ (s.storeUp) ∧ (s.fst.retiring = none) ∧ (0 < len) ∧ (addr % 128 + len ≤ 128) ∧ ((List.range len).all (fun i => (s.storePlace (addr + i)).isSome)) ∧ (s.storeBad addr len = false) :=
  ⟨0x300000, 3, storeReady, by decide +kernel⟩

/-- A state that meets the hypotheses of clause 4 of StoreMemory. -/
theorem test_StoreMemory_4 : ∃ (s : State), (s.flrActive = false) ∧ (s.levelOf .mailbox = 0) :=
  ⟨up, by decide +kernel⟩

/-- A state that meets the hypotheses of clause 5 of StoreMemory. -/
theorem test_StoreMemory_5 : ∃ (c : Fin 12) (dt : Nat) (s : State), (s.chInUse c) ∧ (s.fst.selfRefresh = false) ∧ (((List.range 12).filter (fun k => (s.advance dt).inRefresh k)).length ≤ 2) :=
  ⟨0, 5, storeReady, by decide +kernel⟩

/-- A state that meets the hypotheses of clause 6 of StoreMemory. -/
theorem test_StoreMemory_6 : ∃ (c : Fin 12) (s : State), (s.chInUse c) ∧ (s.fst.selfRefresh = false) ∧ (s.bands .FST_BANDS ≠ 0) ∧ (tblGet [] s.fst.mpPend c.val = []) ∧ (s.ddrBad (s.scrubNext c) = false) :=
  ⟨0, storeReady, by decide +kernel⟩

/-- A state that meets the hypotheses of clause 7 of StoreMemory. -/
theorem test_StoreMemory_7 : ∃ (c : Fin 12) (s : State), (s.chInUse c) ∧ (s.fst.selfRefresh = false) ∧ (s.bands .FST_BANDS ≠ 0) ∧ (tblGet [] s.fst.mpPend c.val = []) ∧ (s.ddrBad (s.scrubNext c) = false) :=
  ⟨0, storeReady, by decide +kernel⟩

/-- A state that meets the hypotheses of clause 8 of StoreMemory. -/
theorem test_StoreMemory_8 : ∃ (c : Fin 12) (s : State), (s.chInUse c) :=
  ⟨0, storeReady, by decide +kernel⟩

/-- A state that meets the hypotheses of clause 9 of StoreMemory. -/
theorem test_StoreMemory_9 : ∃ (n : Fin 12) (dt : Nat) (u : LogUnit) (rest : List LogUnit) (c : Nat) (s : State), ((s.sh n).log = u :: rest) ∧ (u.source ≠ 3) ∧ (s.fst.selfRefresh = false) ∧ ((s.advance dt).mpChannel = some c) ∧ (s.bands .FST_MP_LOG_BANDS ≠ 0) :=
  ⟨0, 4, ⟨1, 5, []⟩, [], 0, (storeReady.setSh 0 { log := [⟨1, 5, []⟩] }).wr .FST_MP_LOG_BANDS 4, by decide +kernel⟩

/-- A state that meets the hypotheses of clause 1 of StoreSpansAndCommits. -/
theorem test_StoreSpansAndCommits_1 : ∃ (who : Requester) (v : Word) (s : State), (s.mayWrite who .FST_MARK_CMD 0) ∧ (getBits v 31 1 = 1) ∧ (s.ringExists (getBits v 0 4)) ∧ (s.reef = false) ∧ (s.flag F.FST_RING_CFG_PRE_UNIT (getBits v 0 4)) ∧ ((s.rg (getBits v 0 4)).search = none) :=
  ⟨.helm, 0x80000001, (storeReady.wr .FST_RING_DATA_BANDS 9 1).setFld F.FST_RING_CFG_PRE_UNIT 1 1, by decide +kernel⟩

/-- A state that meets the hypotheses of clause 2 of StoreSpansAndCommits. -/
theorem test_StoreSpansAndCommits_2 : ∃ (who : Requester) (v : Word) (s : State), (s.mayWrite who .FST_MARK_CMD 0) ∧ (getBits v 31 1 = 1) ∧ (s.ringExists (getBits v 0 4)) ∧ (s.reef && s.fst.selfRefresh) :=
  ⟨.helm, 0x80000001, let u := (storeReady.wr .FST_RING_DATA_BANDS 9 1).setFld F.PWR_MODE_STATUS_REEF 1; { u with fst := { u.fst with selfRefresh := true } }, by decide +kernel⟩

/-- A state that meets the hypotheses of clause 3 of StoreSpansAndCommits. -/
theorem test_StoreSpansAndCommits_3 : ∃ (r : Fin 16) (t0 : Nat) (n : Nat) (s : State), ((s.rg r).search = some (t0, n)) :=
  ⟨0, 5, 0, storeReady.setRg 0 { search := some (5, 0) }, by decide +kernel⟩

/-- A state that meets the hypotheses of clause 4 of StoreSpansAndCommits. -/
theorem test_StoreSpansAndCommits_4 : ∃ (who : Requester) (v : Word) (sp : Span) (s : State), (s.mayWrite who .FST_SPAN_CMD 0) ∧ ((s.liveSpans (getBits v 12 4)).find? (fun sp => sp.id = getBits v 0 12) = some sp) :=
  ⟨.helm, 0x1007, ⟨7, 1, [], 0, false, false, false, false, 0⟩, oneSpan, by decide +kernel⟩

/-- A state that meets the hypotheses of clause 5 of StoreSpansAndCommits. -/
theorem test_StoreSpansAndCommits_5 : ∃ (who : Requester) (s : State), (s.mayWrite who .FST_SPAN_CMD 0) :=
  ⟨.helm, oneSpan, by decide +kernel⟩

/-- A state that meets the hypotheses of clause 6 of StoreSpansAndCommits. -/
theorem test_StoreSpansAndCommits_6 : ∃ (r : Fin 16) (span : BitVec 12) (sp : Span) (s : State), ((s.liveSpans r).find? (fun sp => sp.id = span.toNat) = some sp) ∧ (sp.isOpen = false) ∧ (s.fld F.FST_RING_CFG_HOLD r ≠ 0) :=
  ⟨1, 7, ⟨7, 1, [], 0, false, false, false, false, 0⟩, oneSpan.setFld F.FST_RING_CFG_HOLD 1 1, by decide +kernel⟩

/-- A state that meets the hypotheses of clause 7 of StoreSpansAndCommits. -/
theorem test_StoreSpansAndCommits_7 : ∃ (s : State), (s.layerReady) :=
  ⟨(up.setFld F.SCN_CFG_ENABLE 1 0).setFld F.SCN_STATUS_STATE scnLayerWait 0, by decide +kernel⟩

/-- A state that meets the hypotheses of clause 8 of StoreSpansAndCommits. -/
theorem test_StoreSpansAndCommits_8 : ∃ (who : Requester) (s : State), (s.mayWrite who .BOOT_COMMIT 0) ∧ (s.boundaryRefused = false) :=
  ⟨.helm, up.stage (.reg .CAP_AXIS_SEL 0 0) 5, by decide +kernel⟩

/-- A state that meets the hypotheses of clause 9 of StoreSpansAndCommits. -/
theorem test_StoreSpansAndCommits_9 : ∃ (who : Requester) (s : State), (s.mayWrite who .BOOT_COMMIT 0) ∧ (s.boundaryRefused) :=
  ⟨.helm, ((up.setFld F.PWR_MODE_STATUS_MODE modeBuild).setFld F.SCN_STATUS_STATE scnRunning 0), by decide +kernel⟩

/-- A state that meets the hypotheses of clause 1 of EventDelivery. -/
theorem test_EventDelivery_1 : ∃ (h : Fin 256) (e : HEv) (rest : List HEv) (s : State), (s.ready) ∧ (tblGet [] s.hal.queues h.val = e :: rest) ∧ (e.gated) :=
  ⟨3, { event with gated := true }, [], { up with hal := { up.hal with queues := tblSet [] up.hal.queues 3 [{ event with gated := true }] } }, by decide +kernel⟩

/-- A state that meets the hypotheses of clause 2 of EventDelivery. -/
theorem test_EventDelivery_2 : ∃ (h : Fin 256) (e : HEv) (rest : List HEv) (s : State), (s.ready) ∧ (tblGet [] s.hal.queues h.val = e :: rest) ∧ (e.gated = false) ∧ (e.hops ≤ s.hopLimit) ∧ (s.consumer h = none) :=
  ⟨3, event, [], { up with hal := { up.hal with queues := tblSet [] up.hal.queues 3 [event] } }, by decide +kernel⟩

/-- A state that meets the hypotheses of clause 3 of EventDelivery. -/
theorem test_EventDelivery_3 : ∃ (h : Fin 256) (e : HEv) (rest : List HEv) (c : Fin 16) (second : Bool) (s : State), (s.ready) ∧ (tblGet [] s.hal.queues h.val = e :: rest) ∧ (e.gated = false) ∧ (e.hops ≤ s.hopLimit) ∧ (s.consumer h = some (0xF0 + c.val, second)) ∧ ((s.rd .HAL_CTR_VALUE c).toNat + 1 < atLeast1 (s.rd .HAL_CTR_CFG c).toNat) :=
  ⟨3, event, [], 2, false, ((({ up with hal := { up.hal with queues := tblSet [] up.hal.queues 3 [event] } } : State).wr .HAL_CTR_CFG 5 2).setFld F.HAL_SUB_PRI_EN 1 0xF2).setFld F.HAL_SUB_PRIMARY 3 0xF2, by decide +kernel⟩

/-- A state that meets the hypotheses of clause 1 of AbsentInstance. -/
theorem test_AbsentInstance_1 : ∃ (who : Requester) (a : Nat) (r : Reg) (i : Nat) (j : Nat) (s : State), (s.flrBars who = false) ∧ (a % 4 = 0) ∧ (memAt true a = none) ∧ (inDesc a = false) ∧ (regAt a = some (r, i, j)) ∧ (regPresent s.variant r i = false) :=
  ⟨.helm, 0xB2000, .LNK_CTRL, 32, 0, { up with variant := .sx1632 }, by decide +kernel⟩

/-- A state that meets the hypotheses of clause 2 of AbsentInstance. -/
theorem test_AbsentInstance_2 : ∃ (who : Requester) (a : Nat) (r : Reg) (i : Nat) (j : Nat) (s : State), (s.flrBars who = false) ∧ (memAt false (a / 4 * 4) = none) ∧ (inDesc (a / 4 * 4) = false) ∧ (regAt (a / 4 * 4) = some (r, i, j)) ∧ (regPresent s.variant r i = false) :=
  ⟨.helm, 0xB2000, .LNK_CTRL, 32, 0, { up with variant := .sx1632 }, by decide +kernel⟩

/-- A state that meets the hypotheses of clause 1 of NoRegisterThere. -/
theorem test_NoRegisterThere_1 : ∃ (who : Requester) (a : Nat) (s : State), (s.flrBars who = false) ∧ (a % 4 = 0) ∧ (inDesc a = false) ∧ (memAt true a = none) ∧ (regAt a = none) :=
  ⟨.mailbox, 0x7FFFFC, up, by decide +kernel⟩

/-- A state that meets the hypotheses of clause 2 of NoRegisterThere. -/
theorem test_NoRegisterThere_2 : ∃ (who : Requester) (a : Nat) (s : State), (s.flrBars who = false) ∧ (inDesc (a / 4 * 4) = false) ∧ (memAt false (a / 4 * 4) = none) ∧ (regAt (a / 4 * 4) = none) :=
  ⟨.mailbox, 0x7FFFFE, up, by decide +kernel⟩

/-- A state that meets the hypotheses of clause 3 of NoRegisterThere. -/
theorem test_NoRegisterThere_3 : ∃ (a : Nat) (r : Reg) (i : Nat) (j : Nat) (s : State), (s.flrActive = false) ∧ (a % 4 = 0) ∧ (memAt true a = none) ∧ (inDesc a = false) ∧ (regAt a = some (r, i, j)) ∧ (regPresent s.variant r i = false) :=
  ⟨0xB2000, .LNK_CTRL, 32, 0, { up with variant := .sx1632 }, by decide +kernel⟩

/-- A state that meets the hypotheses of clause 1 of AbsentConsumer. -/
theorem test_AbsentConsumer_1 : ∃ (h : Fin 256) (e : HEv) (rest : List HEv) (k : Nat) (second : Bool) (s : State), (s.ready) ∧ (tblGet [] s.hal.queues h.val = e :: rest) ∧ (e.gated = false) ∧ (e.hops ≤ s.hopLimit) ∧ (s.consumer h = some (k, second)) ∧ (taskPresent s.variant k = false) :=
  ⟨3, event, [], 0x50, false, ((({ up with variant := .sx1664v, hal := { up.hal with queues := tblSet [] up.hal.queues 3 [event] } } : State)).setFld F.HAL_SUB_PRI_EN 1 0x50).setFld F.HAL_SUB_PRIMARY 3 0x50, by decide +kernel⟩

/-- A state that meets the hypotheses of clause 2 of AbsentConsumer. -/
theorem test_AbsentConsumer_2 : ∃ (s : State) (p : Nat), producerPresent s.variant p = false := ⟨{ State.reset with variant := .sx1664v }, 0x180, by decide⟩

/-- A state that meets the hypotheses of clause 1 of RegisterAccess. -/
theorem test_RegisterAccess_1 : ∃ (who : Requester) (a : Nat) (r : Reg) (i : Nat) (j : Nat) (s : State), (s.flrBars who = false) ∧ (onReg true a r i j) ∧ (r ∉ ownWrite) ∧ (s.mayWrite who r i) ∧ (r.info.staged = false) :=
  ⟨.helm, 0xB0010, .LNK_TRAIN, 0, 0, up, by decide +kernel⟩

/-- A state that meets the hypotheses of clause 2 of RegisterAccess. -/
theorem test_RegisterAccess_2 : ∃ (who : Requester) (a : Nat) (r : Reg) (i : Nat) (j : Nat) (s : State), (s.flrBars who = false) ∧ (onReg true a r i j) ∧ (r ∉ ownWrite) ∧ (s.mayWrite who r i) ∧ (r.info.staged) :=
  ⟨.helm, 0x180400, .CAP_PORT_CLASS, 0, 0, up, by decide +kernel⟩

/-- A state that meets the hypotheses of clause 3 of RegisterAccess. -/
theorem test_RegisterAccess_3 : ∃ (a : Nat) (r : Reg) (i : Nat) (j : Nat) (s : State), (s.flrActive = false) ∧ (onReg true a r i j) ∧ (r ∉ ownWrite) ∧ (s.unitOpen r.info.unit) ∧ (regPresent s.variant r i) ∧ (s.levelOf .mailbox < r.info.level) :=
  ⟨0xB0010, .LNK_TRAIN, 0, 0, up, by decide +kernel⟩

/-- A state that meets the hypotheses of clause 4 of RegisterAccess. -/
theorem test_RegisterAccess_4 : ∃ (who : Requester) (a : Nat) (r : Reg) (i : Nat) (j : Nat) (s : State), (s.flrBars who = false) ∧ (onReg false a r i j) ∧ (r ∉ ownRead) ∧ (who ≠ .helm) ∧ (((s.heard who).upToDate r i).unitOpen r.info.unit && regPresent s.variant r i) ∧ (readLevel r ≤ ((s.heard who).upToDate r i).levelOf who) :=
  ⟨.mailbox, 0xB0030, .LNK_CNT_BAD_HDR, 0, 0, (up.wr .SES_STATUS 0x300).bump .LNK_CNT_BAD_HDR 0, by decide +kernel⟩

/-- A state that meets the hypotheses of clause 5 of RegisterAccess. -/
theorem test_RegisterAccess_5 : ∃ (a : Nat) (r : Reg) (i : Nat) (j : Nat) (s : State), (s.flrActive = false) ∧ (onReg false a r i j) ∧ (r ∉ ownRead) ∧ ((s.linkWake.upToDate r i).unitOpen r.info.unit && regPresent s.variant r i) ∧ ((s.linkWake.upToDate r i).levelOf .mailbox < readLevel r) :=
  ⟨0xB0030, .LNK_CNT_BAD_HDR, 0, 0, up, by decide +kernel⟩

/-- A state that meets the hypotheses of clause 6 of RegisterAccess. -/
theorem test_RegisterAccess_6 : ∃ (p : Fin 2) (dt : Nat) (data : List Byte) (k : Nat) (g : Dgram) (s : State), (s.dgTakes p dt 0x10 data k g) ∧ (accessOk g.body) ∧ (((State.access (Fin.ofNat 4 k) (g.body.length / 12) g.body (s.dgTaken p dt k g)).2.slot k).level ≠ 0) :=
  ⟨0, 7, dgRaw 0x10 [1, 0, 0, 0, 0x10, 0, 0x0B, 0, 3, 0, 0, 0], 1, dgOf 0x10 [1, 0, 0, 0, 0x10, 0, 0x0B, 0, 3, 0, 0, 0], netReady, by decide +kernel⟩

/-- A state that meets the hypotheses of clause 1 of MastTiles. -/
theorem test_MastTiles_1 : ∃ (m : Fin 16) (dt : Nat) (q : Tile) (k : Nat) (pass : Bool) (s : State), (s.hasMast m && s.domOn m && s.ready) ∧ (((s.advance dt).loadDone m).nextTile m = some (q, k, pass)) ∧ (q.reduce = false) :=
  ⟨0, 3, aTile, 0, false, tileWaits, by decide +kernel⟩

/-- A state that meets the hypotheses of clause 2 of MastTiles. -/
theorem test_MastTiles_2 : ∃ (m : Fin 16) (e : Fin 66) (cause : SparCause) (r : Run) (s : State), (s.hasMast m && s.domOn m) ∧ (s.engine m e = 0) ∧ (s.runOf m e = some r) ∧ (cause ≠ .correctable) :=
  ⟨0, 3, .dmUe, runOn {}, aSpar, by decide +kernel⟩

/-- A state that meets the hypotheses of clause 3 of MastTiles. -/
theorem test_MastTiles_3 : ∃ (m : Fin 16) (e : Fin 66) (s : State), (s.hasMast m && s.domOn m) ∧ (s.engine m e < 2) :=
  ⟨0, 3, aSpar, by decide +kernel⟩

/-- A state that meets the hypotheses of clause 4 of MastTiles. -/
theorem test_MastTiles_4 : ∃ (m : Fin 16) (e : Fin 66) (cause : SparCause) (s : State), (s.hasMast m && s.domOn m) ∧ (s.engine m e = 1) ∧ (s.runOf m e = none) ∧ (cause ≠ .correctable) :=
  ⟨0, 64, .lockstep, up, by decide +kernel⟩

/-- A state that meets the hypotheses of clause 5 of MastTiles. -/
theorem test_MastTiles_5 : ∃ (m : Fin 16) (e : Fin 66) (a : Fin 32) (imm : BitVec 16) (cause : SparCause) (r : Run) (s : State), (s.hasMast m && s.domOn m) ∧ (s.engine m e = 0) ∧ (s.runOf m e = some r) ∧ (s.sparAt m e r = some (.commit m e a imm none)) ∧ (cause ≠ .correctable) :=
  ⟨0, 3, 2, 5, .lockstep, runOn {}, progAt (0x3E * 2 ^ 26 + 2 * 2 ^ 16 + 5) aSpar, by decide +kernel⟩

/-- A state that meets the hypotheses of clause 6 of MastTiles. -/
theorem test_MastTiles_6 : ∃ (m : Fin 16) (e : Fin 66) (r : Run) (s : State), (s.runOf m e = some r) ∧ (r.waitFrom = none) ∧ (r.tile.susp = none) ∧ (s.engine m e = 0) :=
  ⟨0, 3, runOn {}, aSpar, by decide +kernel⟩

/-- A state that meets the hypotheses of clause 7 of MastTiles. -/
theorem test_MastTiles_7 : ∃ (m : Fin 16) (e : Fin 66) (r : Run) (e0 : Fin 66) (k0 : Nat) (s : State), (s.runOf m e = some r) ∧ (r.waitFrom = none) ∧ (r.tile.susp = some (e0.val, k0)) :=
  ⟨0, 3, { runOn {} with tile := { aTile with susp := some (1, 1) } }, 1, 1, aSpar.setMs 0 { aSpar.ms 0 with runs := [{ runOn {} with tile := { aTile with susp := some (1, 1) } }] }, by decide +kernel⟩

/-- A state that meets the hypotheses of clause 8 of MastTiles. -/
theorem test_MastTiles_8 : ∃ (m : Fin 16) (e : Fin 66) (s : State), (s.hasMast m && s.domOn m) ∧ (s.flag F.MST_CFG_SELFTEST_EN m) ∧ (s.engine m e = 1) ∧ (tblGet none (s.ms m).testing e = none) :=
  ⟨0, 65, up.setFld F.MST_CFG_SELFTEST_EN 1 0, by decide +kernel⟩

/-- A state that meets the hypotheses of clause 9 of MastTiles. -/
theorem test_MastTiles_9 : ∃ (m : Fin 16) (e : Fin 66) (t0 : Nat) (s : State), (tblGet none (s.ms m).testing e = some t0) :=
  ⟨0, 65, 9, up.setMs 0 { testing := [(65, some 9)] }, by decide +kernel⟩

/-- A state that meets the hypotheses of clause 10 of MastTiles. -/
theorem test_MastTiles_10 : ∃ (m : Fin 16) (e : Fin 66) (t0 : Nat) (s : State), (tblGet none (s.ms m).testing e = some t0) ∧ (s.engine m e = 1) :=
  ⟨0, 65, 9, up.setMs 0 { testing := [(65, some 9)] }, by decide +kernel⟩

/-- A state that meets the hypotheses of clause 11 of MastTiles. -/
theorem test_MastTiles_11 : ∃ (m : Fin 16) (s : State), (s.hasMast m && s.domOn m) :=
  ⟨0, up, by decide +kernel⟩

/-- A state that meets the hypotheses of clause 12 of MastTiles. -/
theorem test_MastTiles_12 : ∃ (m : Fin 16) (at0 : Nat) (prog : Option (List Byte)) (consts : Option (List Byte)) (s : State), ((s.ms m).reload = some (at0, prog, consts)) ∧ ((s.ms m).loadTill = none) ∧ ((s.ms m).woke = false) ∧ ((s.ms m).frames.any (fun f => decide (f.info.stampAt < at0) && !f.over && !f.dropped) = false) :=
  ⟨0, 9, some [1, 2, 3, 4], none, up.setMs 0 { reload := some (9, some [1, 2, 3, 4], none) }, by decide +kernel⟩

/-- A state that meets the hypotheses of clause 13 of MastTiles. -/
theorem test_MastTiles_13 : ∃ (m : Fin 16) (at0 : Nat) (till : Nat) (prog : Option (List Byte)) (consts : Option (List Byte)) (s : State), ((s.ms m).reload = some (at0, prog, consts)) ∧ ((s.ms m).loadTill = some till) :=
  ⟨0, 9, 777, some [1, 2, 3, 4], none, up.setMs 0 { reload := some (9, some [1, 2, 3, 4], none), loadTill := some 777 }, by decide +kernel⟩

/-- A state that meets the hypotheses of clause 14 of MastTiles. -/
theorem test_MastTiles_14 : ∃ (who : Requester) (m : Fin 16) (w : Word) (f : Word) (rest : List (Word × Word)) (s : State), (s.mayRead who 3 m 1) ∧ (who ≠ .helm) ∧ ((s.ms m).log = (w, f) :: rest) :=
  ⟨.mailbox, 0, 5, 7, [], (up.wr .SES_STATUS 0x300).setMs 0 { log := [(5, 7)] }, by decide +kernel⟩

/-- A state that meets the hypotheses of clause 1 of SparScalar. -/
theorem test_SparScalar_1 : ∀ p ∈ [(0x00853000, .add 0 3 4 5 6), (0x04850040, .addi 0 3 4 5 64)],
(progAt p.1 aSpar).sparRuns 0 3 (runOn {}) p.2 = true :=
by decide +kernel

/-- A state that meets the hypotheses of clause 2 of SparScalar. -/
theorem test_SparScalar_2 : ∀ p ∈ [(0x00853001, .sub 0 3 4 5 6), (0x00053011, .cmp 0 3 5 6), (0x24050040, .cmpi 0 3 5 64)],
(progAt p.1 aSpar).sparRuns 0 3 (runOn {}) p.2 = true :=
by decide +kernel

/-- A state that meets the hypotheses of clause 3 of SparScalar. -/
theorem test_SparScalar_3 : ∀ p ∈ [(0x00853002, .and 0 3 4 5 6), (0x00853003, .or 0 3 4 5 6), (0x00853004, .xor 0 3 4 5 6), (0x00853005, .shl 0 3 4 5 6),
  (0x00853006, .shr 0 3 4 5 6), (0x00853007, .sar 0 3 4 5 6), (0x00853008, .mul 0 3 4 5 6), (0x00853009, .mulh 0 3 4 5 6),
  (0x0085300A, .min 0 3 4 5 6), (0x0085300B, .max 0 3 4 5 6), (0x0085300C, .slt 0 3 4 5 6), (0x0085300D, .sltu 0 3 4 5 6),
  (0x00850010, .isqrt 0 3 4 5), (0x08850040, .andi 0 3 4 5 64), (0x0C850040, .ori 0 3 4 5 64),
  (0x10850040, .xori 0 3 4 5 64), (0x18850040, .shli 0 3 4 5 64), (0x1C850040, .shri 0 3 4 5 64),
  (0x20850040, .sari 0 3 4 5 64)],
(progAt p.1 aSpar).sparRuns 0 3 (runOn {}) p.2 = true :=
by decide +kernel

/-- A state that meets the hypotheses of clause 4 of SparScalar. -/
theorem test_SparScalar_4 : ∀ p ∈ [(0x0085300E, .div 0 3 4 5 6), (0x0085300F, .divu 0 3 4 5 6)],
(progAt p.1 aSpar).sparRuns 0 3 (runOn {}) p.2 = true :=
by decide +kernel

/-- A state that meets the hypotheses of clause 5 of SparScalar. -/
theorem test_SparScalar_5 : ∀ p ∈ [(0x14800040, .lui 0 3 4 64)],
(progAt p.1 aSpar).sparRuns 0 3 (runOn {}) p.2 = true :=
by decide +kernel

/-- A state that meets the hypotheses of clause 6 of SparScalar. -/
theorem test_SparScalar_6 : ∀ p ∈ [(0x00800012, .mfs 0 3 4 0), (0x00810012, .mfs 0 3 4 1), (0x00820012, .mfs 0 3 4 2), (0x00830012, .mfs 0 3 4 3),
  (0x00840012, .mfs 0 3 4 4)],
(progAt p.1 aSpar).sparRuns 0 3 (runOn {}) p.2 = true :=
by decide +kernel

/-- A state that meets the hypotheses of clause 1 of SparMemoryAndControl. -/
theorem test_SparMemoryAndControl_1 : ∀ p ∈ [(0x40850040, .ldw 0 3 4 5 64), (0x44850040, .ldh 0 3 4 5 64), (0x48850040, .ldhu 0 3 4 5 64)],
(progAt p.1 aSpar).sparRuns 0 3 (runOn {}) p.2 = true :=
by decide +kernel

/-- A state that meets the hypotheses of clause 2 of SparMemoryAndControl. -/
theorem test_SparMemoryAndControl_2 : ∀ p ∈ [(0x54850040, .vld 0 3 4 5 64)],
(progAt p.1 aSpar).sparRuns 0 3 (runOn {}) p.2 = true :=
by decide +kernel

/-- A state that meets the hypotheses of clause 3 of SparMemoryAndControl. -/
theorem test_SparMemoryAndControl_3 : ∀ p ∈ [(0x4C850040, .stw 0 3 4 5 64), (0x50850040, .sth 0 3 4 5 64), (0x58850040, .vst 0 3 4 5 64)],
(progAt p.1 aSpar).sparRuns 0 3 (runOn {}) p.2 = true :=
by decide +kernel

/-- A state that meets the hypotheses of clause 4 of SparMemoryAndControl. -/
theorem test_SparMemoryAndControl_4 : ∀ p ∈ [(0x5C853300, .vlut 0 3 4 5 6 3)],
(progAt p.1 aSpar).sparRuns 0 3 (runOn {}) p.2 = true :=
by decide +kernel

/-- A state that meets the hypotheses of clause 5 of SparMemoryAndControl. -/
theorem test_SparMemoryAndControl_5 : ∀ p ∈ [(0x80000010, .b 0 3 0 16)],
(progAt p.1 aSpar).sparRuns 0 3 (runOn {}) p.2 = true :=
by decide +kernel

/-- A state that meets the hypotheses of clause 6 of SparMemoryAndControl. -/
theorem test_SparMemoryAndControl_6 : ∀ p ∈ [(0x84000010, .call 0 3 0 16)],
(progAt p.1 aSpar).sparRuns 0 3 (runOn {}) p.2 = true :=
by decide +kernel

/-- A state that meets the hypotheses of clause 7 of SparMemoryAndControl. -/
theorem test_SparMemoryAndControl_7 : ∀ p ∈ [(0x88000000, .ret 0 3)],
(progAt p.1 aSpar).sparRuns 0 3 (runOn {}) p.2 = true :=
by decide +kernel

/-- A state that meets the hypotheses of clause 8 of SparMemoryAndControl. -/
theorem test_SparMemoryAndControl_8 : ∀ p ∈ [(0x8C050040, .loop 0 3 5 64)],
(progAt p.1 aSpar).sparRuns 0 3 (runOn {}) p.2 = true :=
by decide +kernel

/-- A state that meets the hypotheses of clause 9 of SparMemoryAndControl. -/
theorem test_SparMemoryAndControl_9 : ∀ p ∈ [(0xF8050005, .commit 0 3 5 5 none)],
(progAt p.1 aSpar).sparRuns 0 3 (runOn {}) p.2 = true ∧
(aSpar.ms 0).findFrame 0 7 = some aFrame :=
by decide +kernel

/-- A state that meets the hypotheses of clause 10 of SparMemoryAndControl. -/
theorem test_SparMemoryAndControl_10 : ∀ p ∈ [(0xFC000000, .abort 0 3)],
(progAt p.1 aSpar).sparRuns 0 3 (runOn {}) p.2 = true :=
by decide +kernel

/-- A state that meets the hypotheses of clause 1 of SparVector. -/
theorem test_SparVector_1 : ∀ p ∈ [(0xC0853300, .vadd 0 3 4 5 6 3), (0xC0853301, .vsub 0 3 4 5 6 3), (0xC0853306, .vmul 0 3 4 5 6 3),
  (0xC0853308, .vmin 0 3 4 5 6 3), (0xC0853309, .vmax 0 3 4 5 6 3), (0xC085330A, .vminu 0 3 4 5 6 3),
  (0xC085330B, .vmaxu 0 3 4 5 6 3), (0xC085330C, .vand 0 3 4 5 6 3), (0xC085330D, .vor 0 3 4 5 6 3),
  (0xC085330E, .vxor 0 3 4 5 6 3), (0xC085330F, .vabsdu 0 3 4 5 6 3), (0xC0853310, .vshl 0 3 4 5 6 3),
  (0xC0853311, .vshr 0 3 4 5 6 3), (0xC0853312, .vsar 0 3 4 5 6 3)],
(progAt p.1 aSpar).sparRuns 0 3 (runOn {}) p.2 = true :=
by decide +kernel

/-- A state that meets the hypotheses of clause 2 of SparVector. -/
theorem test_SparVector_2 : ∀ p ∈ [(0xC0853302, .vadds 0 3 4 5 6 3), (0xC0853303, .vsubs 0 3 4 5 6 3), (0xC0853304, .vaddus 0 3 4 5 6 3),
  (0xC0853305, .vsubus 0 3 4 5 6 3), (0xC0853307, .vmulq 0 3 4 5 6 3)],
(progAt p.1 aSpar).sparRuns 0 3 (runOn {}) p.2 = true :=
by decide +kernel

/-- A state that meets the hypotheses of clause 3 of SparVector. -/
theorem test_SparVector_3 : ∀ p ∈ [(0xC0853313, .vsel 0 3 4 5 6 3), (0xC0853342, .vext 0 3 2 4 5 6 3)],
(progAt p.1 aSpar).sparRuns 0 3 (runOn {}) p.2 = true :=
by decide +kernel

/-- A state that meets the hypotheses of clause 4 of SparVector. -/
theorem test_SparVector_4 : ∀ p ∈ [(0xC0850314, .vsplat 0 3 4 5 3)],
(progAt p.1 aSpar).sparRuns 0 3 (runOn {}) p.2 = true :=
by decide +kernel

/-- A state that meets the hypotheses of clause 5 of SparVector. -/
theorem test_SparVector_5 : ∀ p ∈ [(0xC0853320, .vmulw 0 3 4 5 6 3), (0xC0853321, .vmulwu 0 3 4 5 6 3), (0xC0850322, .vaccwu 0 3 4 5 3)],
(progAt p.1 aSpar).sparRuns 0 3 (runOn {}) p.2 = true :=
by decide +kernel

/-- A state that meets the hypotheses of clause 6 of SparVector. -/
theorem test_SparVector_6 : ∀ p ∈ [(0xC0853323, .vnarrow 0 3 4 5 6 3), (0xC0853324, .vnarrowu 0 3 4 5 6 3), (0xC085332A, .vaccr 0 3 4 5 6 3)],
(progAt p.1 aSpar).sparRuns 0 3 (runOn {}) p.2 = true :=
by decide +kernel

/-- A state that meets the hypotheses of clause 7 of SparVector. -/
theorem test_SparVector_7 : ∀ p ∈ [(0xC0853328, .vmac 0 3 4 5 6 3), (0xC0853329, .vmacu 0 3 4 5 6 3), (0xC080032B, .vaccz 0 3 4 3)],
(progAt p.1 aSpar).sparRuns 0 3 (runOn {}) p.2 = true :=
by decide +kernel

/-- A state that meets the hypotheses of clause 8 of SparVector. -/
theorem test_SparVector_8 : ∀ p ∈ [(0xC0853330, .vcmpeq 0 3 4 5 6 3), (0xC0853331, .vcmpgt 0 3 4 5 6 3), (0xC0853332, .vcmpgtu 0 3 4 5 6 3),
  (0xC0853333, .vcmpgeu 0 3 4 5 6 3)],
(progAt p.1 aSpar).sparRuns 0 3 (runOn {}) p.2 = true :=
by decide +kernel

/-- A state that meets the hypotheses of clause 9 of SparVector. -/
theorem test_SparVector_9 : ∀ p ∈ [(0xC8853000, .mand 0 3 4 5 6), (0xC8853001, .mor 0 3 4 5 6), (0xC8853002, .mxor 0 3 4 5 6), (0xC8850003, .mnot 0 3 4 5),
  (0xC8850005, .stom 0 3 4 5)],
(progAt p.1 aSpar).sparRuns 0 3 (runOn {}) p.2 = true :=
by decide +kernel

/-- A state that meets the hypotheses of clause 10 of SparVector. -/
theorem test_SparVector_10 : ∀ p ∈ [(0xC0850338, .vrsum 0 3 4 5 3), (0xC0850339, .vrsumu 0 3 4 5 3), (0xC085033A, .vrmaxu 0 3 4 5 3),
  (0xC8850004, .mtos 0 3 4 5), (0xC8850006, .mpop 0 3 4 5)],
(progAt p.1 aSpar).sparRuns 0 3 (runOn {}) p.2 = true :=
by decide +kernel

/-- A state that meets the hypotheses of clause 11 of SparVector. -/
theorem test_SparVector_11 : ∀ p ∈ [(0xC085033B, .vrmaxi 0 3 4 5 3)],
(progAt p.1 aSpar).sparRuns 0 3 (runOn {}) p.2 = true :=
by decide +kernel

/-- A state that meets the hypotheses of clause 1 of SparStreamsAndUnits. -/
theorem test_SparStreamsAndUnits_1 : ∀ p ∈ [(0xE0800000, .srd 0 3 4 [])],
(progAt p.1 closedSpar).sparRuns 0 3 (runOn {}) p.2 = true ∧
(closedSpar.ms 0).findFrame 0 7 = some { aFrame with closed := true } :=
by decide +kernel

/-- A state that meets the hypotheses of clause 2 of SparStreamsAndUnits. -/
theorem test_SparStreamsAndUnits_2 : ∀ p ∈ [(0xE0800001, .srdr 0 3 4 [])],
(progAt p.1 closedSpar).sparRuns 0 3 (runOn {}) p.2 = true ∧
(closedSpar.ms 0).findFrame 0 7 = some { aFrame with closed := true } :=
by decide +kernel

/-- A state that meets the hypotheses of clause 3 of SparStreamsAndUnits. -/
theorem test_SparStreamsAndUnits_3 : ∀ p ∈ [(0xE0053002, .sseek 0 3 5 6)],
(progAt p.1 aSpar).sparRuns 0 3 (runOn {}) p.2 = true :=
by decide +kernel

/-- A state that meets the hypotheses of clause 4 of SparStreamsAndUnits. -/
theorem test_SparStreamsAndUnits_4 : ∀ p ∈ [(0xE0053003, .swr 0 3 5 6), (0xE0053004, .swrs 0 3 5 6)],
(progAt p.1 aSpar).sparRuns 0 3 (runOn {}) p.2 = true :=
by decide +kernel

/-- A state that meets the hypotheses of clause 5 of SparStreamsAndUnits. -/
theorem test_SparStreamsAndUnits_5 : ∀ p ∈ [(0xE0850005, .std 0 3 4 5)],
(progAt p.1 aSpar).sparRuns 0 3 (runOn {}) p.2 = true :=
by decide +kernel

/-- A state that meets the hypotheses of clause 6 of SparStreamsAndUnits. -/
theorem test_SparStreamsAndUnits_6 : ∀ p ∈ [(0xE8053300, .hist 0 3 5 6 3)],
(progAt p.1 aSpar).sparRuns 0 3 (runOn {}) p.2 = true :=
by decide +kernel

/-- A state that meets the hypotheses of clause 7 of SparStreamsAndUnits. -/
theorem test_SparStreamsAndUnits_7 : ∀ p ∈ [(0xE8850001, .hrd 0 3 4 5)],
(progAt p.1 aSpar).sparRuns 0 3 (runOn {}) p.2 = true :=
by decide +kernel

/-- A state that meets the hypotheses of clause 8 of SparStreamsAndUnits. -/
theorem test_SparStreamsAndUnits_8 : ∀ p ∈ [(0xE8050002, .lcfg 0 3 5), (0xE8053303, .lab 0 3 5 6 3), (0xE8000004, .leol 0 3)],
(progAt p.1 aSpar).sparRuns 0 3 (runOn {}) p.2 = true :=
by decide +kernel

/-- A state that meets the hypotheses of clause 9 of SparStreamsAndUnits. -/
theorem test_SparStreamsAndUnits_9 : ∀ p ∈ [(0xE8053303, .lab 0 3 5 6 3)],
(progAt p.1 (sparAt { lab := { seg := some 5 } })).sparRuns 0 3 (runOn { lab := { seg := some 5 } }) p.2 = true :=
by decide +kernel

/-- A state that meets the hypotheses of clause 10 of SparStreamsAndUnits. -/
theorem test_SparStreamsAndUnits_10 : ∀ p ∈ [(0xE8853005, .lrd 0 3 4 5 6), (0xE8803008, .mrd 0 3 4 6)],
(progAt p.1 aSpar).sparRuns 0 3 (runOn {}) p.2 = true :=
by decide +kernel

/-- A state that meets the hypotheses of clause 11 of SparStreamsAndUnits. -/
theorem test_SparStreamsAndUnits_11 : ∀ p ∈ [(0xE8050006, .mcfg 0 3 5)],
(progAt p.1 aSpar).sparRuns 0 3 (runOn {}) p.2 = true :=
by decide +kernel

/-- A state that meets the hypotheses of clause 12 of SparStreamsAndUnits. -/
theorem test_SparStreamsAndUnits_12 : ∀ p ∈ [(0xE8053307, .mom 0 3 5 6 3)],
(progAt p.1 aSpar).sparRuns 0 3 (runOn {}) p.2 = true :=
by decide +kernel

/-- A state that meets the hypotheses of clause 1 of SheetUnits. -/
theorem test_SheetUnits_1 : ∃ (n : Fin 12) (mast : Fin 16) (stream : Fin 8) (rec : List Byte) (s : State), (s.beamRuns n) ∧ (rec.length = 32 ∧ crc16 (rec.take 30) = fieldLE rec 30 2) ∧ (mast.val = s.fld F.SHT_CFG_SRC_MAST n ∧ stream.val = s.fld F.SHT_CFG_SRC_STREAM n ∧ fieldLE rec 0 1 = 1 ∧ fieldLE rec 1 1 = n) :=
  ⟨0, 0, 0, shRecord, sheetAt shtOpen, by decide +kernel⟩

/-- A state that meets the hypotheses of clause 2 of SheetUnits. -/
theorem test_SheetUnits_2 : ∃ (n : Fin 12) (s : State), (s.beamRuns n) :=
  ⟨0, sheetAt shtOpen, by decide +kernel⟩

/-- A state that meets the hypotheses of clause 3 of SheetUnits. -/
theorem test_SheetUnits_3 : ∃ (n : Fin 12) (dt : Nat) (u : State) (q : ShtRec) (rest : List ShtRec) (s : State), (s.beamThen n dt = u) ∧ ((u.sh n).queue = q :: rest) ∧ (u.shState n ≠ shtOff) ∧ ((u.sh n).fresh = false) ∧ (frameDiff (fieldLE q.data 4 4) (u.rd .SHT_LAST_FRAME n).toNat ≤ 0) :=
  ⟨0, 0, ((((sheetAt shtOpen).setSh 0 { (sheetAt shtOpen).sh 0 with fresh := false }).wr .SHT_LAST_FRAME 5 0)).beamThen 0 0, ⟨0, 0, shRecord, 0⟩, [], (((sheetAt shtOpen).setSh 0 { (sheetAt shtOpen).sh 0 with fresh := false }).wr .SHT_LAST_FRAME 5 0), by decide +kernel⟩

/-- A state that meets the hypotheses of clause 4 of SheetUnits. -/
theorem test_SheetUnits_4 : ∃ (n : Fin 12) (dt : Nat) (u : State) (q : ShtRec) (rest : List ShtRec) (s : State), (s.beamThen n dt = u) ∧ ((u.sh n).queue = q :: rest) ∧ (u.shState n = shtOpen) ∧ ((u.sh n).fresh) ∧ (u.rejects n q.data = false) ∧ (u.flag F.SHT_STATUS_ACTIVE n = false) :=
  ⟨0, 0, (sheetAt shtOpen).beamThen 0 0, ⟨0, 0, shRecord, 0⟩, [], sheetAt shtOpen, by decide +kernel⟩

/-- A state that meets the hypotheses of clause 5 of SheetUnits. -/
theorem test_SheetUnits_5 : ∃ (n : Fin 12) (dt : Nat) (u : State) (q : ShtRec) (rest : List ShtRec) (s : State), (s.beamThen n dt = u) ∧ ((u.sh n).queue = q :: rest) ∧ (u.shState n = shtClosed) ∧ ((u.sh n).fresh) ∧ (u.rejects n q.data = false) ∧ (u.flag F.SHT_STATUS_ACTIVE n = false) ∧ (u.tooEarly n q.data = false) :=
  ⟨0, 0, (engagedAt shtClosed).beamThen 0 0, ⟨0, 0, shRecord, 0⟩, [], engagedAt shtClosed, by decide +kernel⟩

/-- A state that meets the hypotheses of clause 6 of SheetUnits. -/
theorem test_SheetUnits_6 : ∃ (n : Fin 12) (dt : Nat) (u : State) (q : ShtRec) (rest : List ShtRec) (s : State), (s.beamThen n dt = u) ∧ ((u.sh n).queue = q :: rest) ∧ (u.shState n ≠ shtOff) ∧ (u.newer n q.data) ∧ (u.rejects n q.data) :=
  ⟨0, 0, (((sheetAt shtOpen).setFld F.SHT_MISS_REJECT 1 0).setSh 0 { queue := [⟨0, 0, shRecord.set 2 1, 0⟩] }).beamThen 0 0, ⟨0, 0, shRecord.set 2 1, 0⟩, [], ((sheetAt shtOpen).setFld F.SHT_MISS_REJECT 1 0).setSh 0 { queue := [⟨0, 0, shRecord.set 2 1, 0⟩] }, by decide +kernel⟩

/-- A state that meets the hypotheses of clause 7 of SheetUnits. -/
theorem test_SheetUnits_7 : ∃ (n : Fin 12) (dt : Nat) (due : Nat) (u : State) (s : State), ((s.sh n).missAt = some due) ∧ ((s.passTo dt due).refresh n = u) ∧ ((u.sh n).queue = []) ∧ (u.shState n ≠ shtOff) :=
  ⟨0, 2, 9, (((sheetAt shtHold).setSh 0 { missAt := some 9 }).passTo 2 9).refresh 0, (sheetAt shtHold).setSh 0 { missAt := some 9 }, by decide +kernel⟩

/-- A state that meets the hypotheses of clause 8 of SheetUnits. -/
theorem test_SheetUnits_8 : ∃ (who : Requester) (n : Fin 12) (s : State), (s.mayWrite who .SHT_CMD n) ∧ (3 ≤ s.levelOf who) :=
  ⟨.helm, 0, sheetAt shtOpen, by decide +kernel⟩

/-- A state that meets the hypotheses of clause 9 of SheetUnits. -/
theorem test_SheetUnits_9 : ∃ (who : Requester) (n : Fin 12) (s : State), (s.mayWrite who .SHT_CMD n) :=
  ⟨.helm, 0, (sheetAt shtOpen).setFld F.SHT_STATUS_ACTIVE 1 0, by decide +kernel⟩

/-- A state that meets the hypotheses of clause 10 of SheetUnits. -/
theorem test_SheetUnits_10 : ∃ (who : Requester) (n : Fin 12) (s : State), (s.mayWrite who .SHT_CMD n) ∧ (s.shState n = shtOpen) :=
  ⟨.helm, 0, sheetAt shtOpen, by decide +kernel⟩

/-- A state that meets the hypotheses of clause 1 of BeamPower. -/
theorem test_BeamPower_1 : ∃ (n : Fin 12) (dt : Nat) (u : State) (s : State), (s.beamRuns n) ∧ ((s.beamThen n dt).domOn (44 + n)) ∧ ((s.beamThen n dt).setFld F.BCH_STATUS_PROFILE ((s.beamThen n dt).sc n).profile n = u) :=
  ⟨0, 1, (up.advance 1).setFld F.BCH_STATUS_PROFILE 0 0, up, by decide +kernel⟩

/-- A state that meets the hypotheses of clause 2 of BeamPower. -/
theorem test_BeamPower_2 : ∃ (n : Fin 12) (dt : Nat) (u : State) (s : State), (s.beamRuns n) ∧ (s.flag F.BCH_STATUS_EMIT n && s.hybrid n) ∧ ((s.passTo dt (s.bc n).modDue).refresh n = u) ∧ (u.flag F.BCH_STATUS_EMIT n && u.hybrid n) ∧ ((u.bc n).modDue ≤ u.fine) ∧ (u.fld F.BCH_HYBRID_KNEE n ≤ u.beamC n) :=
  ⟨0, 0, ((((up.setFld F.BCH_STATUS_EMIT 1 0).setFld F.BCH_CFG_HYBRID_EN 1 0).setFld F.BCH_HYBRID_KNEE 0 0).passTo 0 ((((up.setFld F.BCH_STATUS_EMIT 1 0).setFld F.BCH_CFG_HYBRID_EN 1 0).setFld F.BCH_HYBRID_KNEE 0 0).bc 0).modDue).refresh 0, ((up.setFld F.BCH_STATUS_EMIT 1 0).setFld F.BCH_CFG_HYBRID_EN 1 0).setFld F.BCH_HYBRID_KNEE 0 0, by decide +kernel⟩

/-- A state that meets the hypotheses of clause 3 of BeamPower. -/
theorem test_BeamPower_3 : ∃ (n : Fin 12) (dt : Nat) (u : State) (s : State), (s.beamRuns n) ∧ (s.flag F.BCH_STATUS_EMIT n && s.hybrid n) ∧ ((s.passTo dt (s.bc n).modDue).refresh n = u) ∧ (u.flag F.BCH_STATUS_EMIT n && u.hybrid n) ∧ ((u.bc n).modDue ≤ u.fine) ∧ (u.beamC n < u.fld F.BCH_HYBRID_KNEE n) :=
  ⟨0, 0, ((((up.setFld F.BCH_STATUS_EMIT 1 0).setFld F.BCH_CFG_HYBRID_EN 1 0).setFld F.BCH_HYBRID_KNEE 5 0).passTo 0 ((((up.setFld F.BCH_STATUS_EMIT 1 0).setFld F.BCH_CFG_HYBRID_EN 1 0).setFld F.BCH_HYBRID_KNEE 5 0).bc 0).modDue).refresh 0, ((up.setFld F.BCH_STATUS_EMIT 1 0).setFld F.BCH_CFG_HYBRID_EN 1 0).setFld F.BCH_HYBRID_KNEE 5 0, by decide +kernel⟩

/-- A state that meets the hypotheses of clause 4 of BeamPower. -/
theorem test_BeamPower_4 : ∃ (n : Fin 12) (dt : Nat) (u : State) (s : State), (s.beamRuns n) ∧ (s.beamThen n dt = u) ∧ (u.fld F.BCH_CFG_OUT_SEL n = 1 ∨ u.fld F.BCH_CFG_OUT_SEL n = 2) ∧ (u.cutLatched n = false) ∧ ((u.bc n).wordAt + 2400 / 2 ^ u.fld F.BCH_CFG_DIG_RATE n ≤ u.fine) ∧ (u.domOn (44 + n)) :=
  ⟨0, 5000, (up.setFld F.BCH_CFG_OUT_SEL 1 0).beamThen 0 5000, up.setFld F.BCH_CFG_OUT_SEL 1 0, by decide +kernel⟩

/-- A state that meets the hypotheses of clause 5 of BeamPower. -/
theorem test_BeamPower_5 : ∃ (n : Fin 12) (dt : Nat) (u : State) (s : State), (s.beamRuns n) ∧ (s.beamThen n dt = u) ∧ ((u.bc n).meas = none) ∧ ((u.bc n).reload = false) ∧ ((u.sc n).inPause = false) ∧ (if u.goesDown n then u.pathPos n ≤ (u.bc n).hwm else (u.bc n).hwm ≤ u.pathPos n) :=
  ⟨0, 0, (up.setBc 0 { reload := false, pHat := 5 }).beamThen 0 0, up.setBc 0 { reload := false, pHat := 5 }, by decide +kernel⟩

/-- A state that meets the hypotheses of clause 6 of BeamPower. -/
theorem test_BeamPower_6 : ∃ (n : Fin 12) (dt : Nat) (u : State) (x : Int) (at0 : Nat) (s : State), (s.beamRuns n) ∧ (s.beamThen n dt = u) ∧ ((u.bc n).meas = some (x, at0)) ∧ ((u.sc n).inPause) :=
  ⟨0, 0, ((up.setSc 0 { pause := some { begun := true } }).setBc 0 { meas := some (7, 0) }).beamThen 0 0, 7, 0, (up.setSc 0 { pause := some { begun := true } }).setBc 0 { meas := some (7, 0) }, by decide +kernel⟩

/-- A state that meets the hypotheses of clause 7 of BeamPower. -/
theorem test_BeamPower_7 : ∃ (n : Fin 12) (dt : Nat) (u : State) (s : State), (s.beamRuns n) ∧ (s.beamThen n dt = u) ∧ (u.paces n) ∧ (if u.goesDown n then u.pathPos n ≤ u.pulsePos n else u.pulsePos n ≤ u.pathPos n) :=
  ⟨0, 0, (((up.setFld F.BCH_CFG_FIRE_MODE 1 0).setFld F.BCH_STATUS_EMIT 1 0).setBc 0 { lastPos := -65536001 }).beamThen 0 0, ((up.setFld F.BCH_CFG_FIRE_MODE 1 0).setFld F.BCH_STATUS_EMIT 1 0).setBc 0 { lastPos := -65536001 }, by decide +kernel⟩

/-- A state that meets the hypotheses of clause 8 of BeamPower. -/
theorem test_BeamPower_8 : ∃ (n : Fin 12) (dt : Nat) (u : State) (s : State), (s.beamRuns n) ∧ ((s.bc n).pulse) ∧ ((s.passTo dt (s.bc n).pulseEnd).refresh n = u) ∧ ((u.bc n).pulseEnd ≤ u.fine) :=
  ⟨3, 9, ((up.setBc 3 { pulse := true, pulseEnd := 50 }).passTo 9 50).refresh 3, up.setBc 3 { pulse := true, pulseEnd := 50 }, by decide +kernel⟩

/-- A state that meets the hypotheses of clause 9 of BeamPower. -/
theorem test_BeamPower_9 : ∃ (n : Fin 12) (cm : Nat) (k : Nat) (prev : Nat) (input : Nat) (s : State), (s.beamRuns n) ∧ ((s.sc n).wait = .meter cm k prev input) :=
  ⟨0, 100, 1, 0, 2, up.setSc 0 { wait := .meter 100 1 0 2 }, by decide +kernel⟩

/-- A state that meets the hypotheses of clause 1 of BeamInterlocks. -/
theorem test_BeamInterlocks_1 : ∃ (n : Fin 12) (dt : Nat) (u : State) (s : State), (s.beamRuns n) ∧ (s.beamThen n dt = u) ∧ ((u.bc n).want = false) ∧ ((u.sc n).inPause = false) ∧ (u.rotWaits n = false) ∧ (u.emitWanted n u.fine) ∧ (u.scnState n = scnRunning) ∧ (u.flag F.BCH_CFG_READY_REQ n = false) ∧ (u.flag F.BCH_CFG_PACE_SRC n) :=
  ⟨0, 0, (((onMark.setFld F.BCH_CFG_PACE_SRC 1 0).setFld F.BCH_CFG_READY_REQ 0 0).setFld F.BCH_CFG_ROT_GROUP 7 0).beamThen 0 0, ((onMark.setFld F.BCH_CFG_PACE_SRC 1 0).setFld F.BCH_CFG_READY_REQ 0 0).setFld F.BCH_CFG_ROT_GROUP 7 0, by decide +kernel⟩

/-- A state that meets the hypotheses of clause 2 of BeamInterlocks. -/
theorem test_BeamInterlocks_2 : ∃ (n : Fin 12) (dt : Nat) (u : State) (s : State), (s.beamRuns n) ∧ (s.beamThen n dt = u) ∧ ((u.bc n).want = false) ∧ ((u.sc n).inPause = false) ∧ (u.rotWaits n = false) ∧ (u.emitWanted n u.fine) ∧ (u.scnState n = scnRunning) ∧ (u.flag F.BCH_CFG_READY_REQ n) ∧ (u.flag F.BCH_STATUS_READY n = false) :=
  ⟨0, 0, ((onMark.setFld F.BCH_CFG_READY_REQ 1 0).setFld F.BCH_CFG_ROT_GROUP 7 0).beamThen 0 0, (onMark.setFld F.BCH_CFG_READY_REQ 1 0).setFld F.BCH_CFG_ROT_GROUP 7 0, by decide +kernel⟩

/-- A state that meets the hypotheses of clause 3 of BeamInterlocks. -/
theorem test_BeamInterlocks_3 : ∃ (n : Fin 12) (dt : Nat) (u : State) (s : State), (s.beamRuns n) ∧ (s.beamThen n dt = u) ∧ ((u.bc n).want) ∧ ((u.sc n).inPause = false) ∧ ((u.sc n).wait = .none) ∧ (u.emitWanted n u.fine = false) :=
  ⟨0, 0, (up.setBc 0 { want := true }).beamThen 0 0, up.setBc 0 { want := true }, by decide +kernel⟩

/-- A state that meets the hypotheses of clause 4 of BeamInterlocks. -/
theorem test_BeamInterlocks_4 : ∃ (g : Fin 4) (dt : Nat) (u : State) (s : State), (s.passTo dt (firstDecision (tblGet [] s.beams.reqs g)) = u) :=
  ⟨1, 0, up, up, by decide +kernel⟩

/-- A state that meets the hypotheses of clause 5 of BeamInterlocks. -/
theorem test_BeamInterlocks_5 : ∃ (g : Fin 4) (r : RotReq) (s : State), (tblGet [] s.beams.reqs g = [r]) :=
  ⟨1, ⟨0, 5, 0, false⟩, { up with beams := { up.beams with reqs := [(1, [⟨0, 5, 0, false⟩])] } }, by decide +kernel⟩

/-- A state that meets the hypotheses of clause 6 of BeamInterlocks. -/
theorem test_BeamInterlocks_6 : ∃ (s : State), (s.variant.noBeams = false) :=
  ⟨up, by decide +kernel⟩

/-- A state that meets the hypotheses of clause 7 of BeamInterlocks. -/
theorem test_BeamInterlocks_7 : ∃ (a : Bool) (b : Bool) (s : State), (s.variant.noBeams = false) ∧ ((a && !b && !s.flag F.BCH_PERMIT_PERMIT_FAULT) = s.flag F.BCH_PERMIT_PERMIT) :=
  ⟨true, true, up, by decide +kernel⟩

/-- A state that meets the hypotheses of clause 8 of BeamInterlocks. -/
theorem test_BeamInterlocks_8 : ∃ (dt : Nat) (at0 : Nat) (s : State), (s.beams.disagree = some at0) ∧ (at0 + atLeast1 (s.fld F.BCH_PERMIT_CFG_DISC_TIME) * 1250000 < s.fine + dt) ∧ (s.flag F.BCH_PERMIT_PERMIT_FAULT = false) :=
  ⟨500000000, 0, { up with beams := { up.beams with disagree := some 0 } }, by decide +kernel⟩

/-- A state that meets the hypotheses of clause 9 of BeamInterlocks. -/
theorem test_BeamInterlocks_9 : ∃ (who : Requester) (s : State), (s.mayWrite who .BCH_PERMIT 0) :=
  ⟨.helm, up, by decide +kernel⟩

/-- A state that meets the hypotheses of clause 10 of BeamInterlocks. -/
theorem test_BeamInterlocks_10 : ∃ (n : Fin 12) (u : State) (s : State), (s.beamRuns n) ∧ (s.beamThen n 0 = u) :=
  ⟨0, (up).beamThen 0 0, up, by decide +kernel⟩

/-- A state that meets the hypotheses of clause 11 of BeamInterlocks. -/
theorem test_BeamInterlocks_11 : ∃ (n : Fin 12) (u : State) (s : State), (s.beamRuns n) ∧ (s.beamThen n 0 = u) :=
  ⟨0, (up).beamThen 0 0, up, by decide +kernel⟩

/-- A state that meets the hypotheses of clause 12 of BeamInterlocks. -/
theorem test_BeamInterlocks_12 : ∃ (n : Fin 12) (u : State) (s : State), (s.beamRuns n) ∧ (s.beamThen n 0 = u) :=
  ⟨0, (up).beamThen 0 0, up, by decide +kernel⟩

/-- A state that meets the hypotheses of clause 13 of BeamInterlocks. -/
theorem test_BeamInterlocks_13 : ∃ (n : Fin 12) (dt : Nat) (u : State) (s : State), (s.beamRuns n) ∧ (s.beamThen n dt = u) ∧ (u.flag F.BCH_STATUS_EMIT n) ∧ ((u.bc n).onSince + atLeast1 (u.fld F.BCH_WD_ON_MAX_ON n) * 1250000 < u.fine) :=
  ⟨0, 0, ({ up.setFld F.BCH_STATUS_EMIT 1 0 with fine := 10000000000000 }).beamThen 0 0, { up.setFld F.BCH_STATUS_EMIT 1 0 with fine := 10000000000000 }, by decide +kernel⟩

/-- A state that meets the hypotheses of clause 14 of BeamInterlocks. -/
theorem test_BeamInterlocks_14 : ∃ (n : Fin 12) (dt : Nat) (u : State) (s : State), (s.beamRuns n) ∧ (s.beamThen n dt = u) ∧ (u.dwells n false) :=
  ⟨0, 0, ({ (up.setFld F.BCH_STATUS_EMIT 1 0).setBc 0 { slowAt := some 0, highAt := some 0 } with fine := 10000000000000 }).beamThen 0 0, { (up.setFld F.BCH_STATUS_EMIT 1 0).setBc 0 { slowAt := some 0, highAt := some 0 } with fine := 10000000000000 }, by decide +kernel⟩

/-- A state that meets the hypotheses of clause 15 of BeamInterlocks. -/
theorem test_BeamInterlocks_15 : ∃ (n : Fin 12) (dt : Nat) (u : State) (s : State), (s.beamRuns n) ∧ (s.beamThen n dt = u) ∧ (u.flag F.BCH_STATUS_EMIT n && u.meterOn n) ∧ ((u.bc n).meterAt + atLeast1 (u.fld F.BCH_WD_ON_METER_MAX_ON n) * 1250000 < u.fine) :=
  ⟨0, 0, ({ (up.setFld F.BCH_STATUS_EMIT 1 0).setFld F.BCH_STATUS_METER 1 0 with fine := 10000000000000 }).beamThen 0 0, { (up.setFld F.BCH_STATUS_EMIT 1 0).setFld F.BCH_STATUS_METER 1 0 with fine := 10000000000000 }, by decide +kernel⟩

/-- A state that meets the hypotheses of clause 16 of BeamInterlocks. -/
theorem test_BeamInterlocks_16 : ∃ (n : Fin 12) (dt : Nat) (u : State) (s : State), (s.beamRuns n) ∧ (s.beamThen n dt = u) ∧ ((u.bc n).powAt + 12500 < u.fine ∨ (u.bc n).posAt + 12500 < u.fine) ∧ (u.dwells n true) :=
  ⟨0, 0, ({ up.setFld F.BCH_STATUS_EMIT 1 0 with fine := 10000000000000 }).beamThen 0 0, { up.setFld F.BCH_STATUS_EMIT 1 0 with fine := 10000000000000 }, by decide +kernel⟩

/-- A state that meets the hypotheses of clause 17 of BeamInterlocks. -/
theorem test_BeamInterlocks_17 : ∃ (who : Requester) (n : Fin 12) (s : State), (s.mayWrite who .BCH_FAULT n) ∧ ((s.bc n).want = false) :=
  ⟨.helm, 0, up.wr .BCH_FAULT 1 0, by decide +kernel⟩

/-- A state that meets the hypotheses of clause 1 of ModesAndDomains. -/
theorem test_ModesAndDomains_1 : ∃ (who : Requester) (s : State), (s.mayAskMode who modeAcquire) ∧ (s.mode = modeIdle) :=
  ⟨.helm, inMode modeIdle, by decide +kernel⟩

/-- A state that meets the hypotheses of clause 2 of ModesAndDomains. -/
theorem test_ModesAndDomains_2 : ∃ (who : Requester) (s : State), (s.mayAskMode who modeService) ∧ (s.mode = modeIdle) ∧ (s.reef = false) :=
  ⟨.helm, inMode modeIdle, by decide +kernel⟩

/-- A state that meets the hypotheses of clause 3 of ModesAndDomains. -/
theorem test_ModesAndDomains_3 : ∃ (who : Requester) (s : State), (s.mayAskMode who modeIdle) ∧ (s.mode = modeAcquire ∨ s.mode = modeService) ∧ (s.reef = false) :=
  ⟨.helm, inMode modeService, by decide +kernel⟩

/-- A state that meets the hypotheses of clause 4 of ModesAndDomains. -/
theorem test_ModesAndDomains_4 : ∃ (who : Requester) (s : State), (s.mayAskMode who modeAcquire) ∧ (s.mode = modeBuild) :=
  ⟨.helm, inMode modeBuild, by decide +kernel⟩

/-- A state that meets the hypotheses of clause 5 of ModesAndDomains. -/
theorem test_ModesAndDomains_5 : ∃ (who : Requester) (s : State), (s.mayAskMode who modeBuild) ∧ (s.mode = modeAcquire ∨ s.mode = modeService) ∧ (s.variant.noBeams = false) ∧ (s.flag F.BOOT_STATUS_KEY_UNSET = false) ∧ (s.reef = false) :=
  ⟨.helm, (inMode modeService).setFld F.BCH_PERMIT_PERMIT 1, by decide +kernel⟩

/-- A state that meets the hypotheses of clause 6 of ModesAndDomains. -/
theorem test_ModesAndDomains_6 : ∃ (who : Requester) (mode : BitVec 3) (s : State), (mode.toNat < 2 ∨ 5 < mode.toNat) ∧ (s.ready) ∧ (2 ≤ s.levelOf who) :=
  ⟨.helm, 7, up, by decide +kernel⟩

/-- A state that meets the hypotheses of clause 7 of ModesAndDomains. -/
theorem test_ModesAndDomains_7 : ∃ (s : State), (s.flag F.PWR_MODE_STATUS_IN_TRANSITION) ∧ (s.transReady) ∧ (s.pwr.warned = false) :=
  ⟨((inMode modeAcquire).setFld F.PWR_MODE_STATUS_IN_TRANSITION 1).setFld F.PWR_MODE_STATUS_TARGET modeIdle, by decide +kernel⟩

/-- A state that meets the hypotheses of clause 8 of ModesAndDomains. -/
theorem test_ModesAndDomains_8 : ∃ (who : Requester) (d : BitVec 7) (s : State), (s.mayWrite who .PWR_DOM_CMD 0) ∧ (domAbsent s.variant d.toNat = false) ∧ (32 ≤ d.toNat ∨ (s.mode ≠ modeIdle ∧ s.mode ≠ modeService) ∨ s.domPolicy d.toNat = 0) :=
  ⟨.helm, 40, up, by decide +kernel⟩

/-- A state that meets the hypotheses of clause 9 of ModesAndDomains. -/
theorem test_ModesAndDomains_9 : ∃ (who : Requester) (d : BitVec 7) (s : State), (s.mayWrite who .PWR_DOM_CMD 0) ∧ (d.toNat < 32) ∧ (s.mode = modeIdle ∨ s.mode = modeService) ∧ (s.canWake 5 d.toNat) ∧ (s.domPolicy d.toNat ≠ 0) ∧ (domAbsent s.variant d.toNat = false) ∧ (s.domOn d.toNat = false) ∧ (tblGet none s.pwr.started d.toNat = none) :=
  ⟨.helm, 3, mastWaits, by decide +kernel⟩

/-- A state that meets the hypotheses of clause 10 of ModesAndDomains. -/
theorem test_ModesAndDomains_10 : ∃ (who : Requester) (d : BitVec 7) (s : State), (s.mayWrite who .PWR_DOM_CMD 0) ∧ (d.toNat < 16) ∧ (domAbsent s.variant d.toNat = false) ∧ (s.mode = modeIdle ∨ s.mode = modeService) :=
  ⟨.helm, 3, inMode modeIdle, by decide +kernel⟩

/-- A state that meets the hypotheses of clause 11 of ModesAndDomains. -/
theorem test_ModesAndDomains_11 : ∃ (dt : Nat) (d : Nat) (s : State), (s.wakeHead = some d) ∧ ((domNeeds d).all s.domOn) ∧ (domCost d * 20000 ≤ (s.advance dt).refill.pwr.budget) :=
  ⟨9, 3, mastWaits, by decide +kernel⟩

/-- A state that meets the hypotheses of clause 12 of ModesAndDomains. -/
theorem test_ModesAndDomains_12 : ∃ (d : Fin 80) (t0 : Nat) (s : State), (tblGet none s.pwr.started d = some t0) :=
  ⟨3, 7, { mastWaits with pwr := { mastWaits.pwr with started := tblSet none [] 3 (some 7) } }, by decide +kernel⟩

/-- A state that meets the hypotheses of clause 1 of ReefHelmAndResets. -/
theorem test_ReefHelmAndResets_1 : ∃ (mv : BitVec 16) (s : State), (s.mode = modeAcquire ∨ s.mode = modeBuild) ∧ (mv.toNat < 710) ∧ (s.reef = false) ∧ (s.flag F.PWR_MODE_STATUS_IN_TRANSITION = false) :=
  ⟨700, inMode modeAcquire, by decide +kernel⟩

/-- A state that meets the hypotheses of clause 2 of ReefHelmAndResets. -/
theorem test_ReefHelmAndResets_2 : ∃ (mv : BitVec 16) (s : State), (s.mode = modeLoad ∨ s.mode = modeIdle ∨ s.mode = modeService) ∧ (mv.toNat < 710) ∧ (s.flag F.PWR_MODE_STATUS_IN_TRANSITION = false) :=
  ⟨700, inMode modeIdle, by decide +kernel⟩

/-- A state that meets the hypotheses of clause 3 of ReefHelmAndResets. -/
theorem test_ReefHelmAndResets_3 : ∃ (dt : Nat) (mv : BitVec 16) (s : State), (s.reef) ∧ (s.pwr.recovered = false) ∧ (725 ≤ mv.toNat) ∧ (max (s.fine + dt) (s.pwr.warnAt + 62500) ≤ s.pwr.reefAt + 25000000) ∧ (s.fst.reefHeld = []) ∧ (s.fst.heldMarks = []) :=
  ⟨9, 740, reefAt modeAcquire false, by decide +kernel⟩

/-- A state that meets the hypotheses of clause 4 of ReefHelmAndResets. -/
theorem test_ReefHelmAndResets_4 : ∃ (s : State), (s.reef) ∧ (s.pwr.recovered) :=
  ⟨reefAt modeAcquire true, by decide +kernel⟩

/-- A state that meets the hypotheses of clause 5 of ReefHelmAndResets. -/
theorem test_ReefHelmAndResets_5 : ∃ (s : State), (s.reef) ∧ (s.pwr.recovered = false) :=
  ⟨reefAt modeAcquire false, by decide +kernel⟩

/-- A state that meets the hypotheses of clause 6 of ReefHelmAndResets. -/
theorem test_ReefHelmAndResets_6 : ∃ (s : State), (s.mode ≠ modeOff) :=
  ⟨up, by decide +kernel⟩

/-- A state that meets the hypotheses of clause 8 of ReefHelmAndResets. -/
theorem test_ReefHelmAndResets_8 : ∃ (who : Requester) (s : State), (s.mayWrite who .PWR_CMD 0) :=
  ⟨.helm, up, by decide +kernel⟩

/-- A state that meets the hypotheses of clause 9 of ReefHelmAndResets. -/
theorem test_ReefHelmAndResets_9 : ∃ (s : State), (s.flag F.HLM_STATUS_DUAL) :=
  ⟨up.setFld F.HLM_STATUS_DUAL 1, by decide +kernel⟩

/-- A state that meets the hypotheses of clause 10 of ReefHelmAndResets. -/
theorem test_ReefHelmAndResets_10 : ∃ (s : State), (s.ready) :=
  ⟨up, by decide +kernel⟩

/-- A state that meets the hypotheses of clause 11 of ReefHelmAndResets. -/
theorem test_ReefHelmAndResets_11 : ∃ (core : Fin 3) (s : State), (s.ready) ∧ (s.flag F.HLM_STATUS_DUAL = false) ∧ (s.core core = coreActive) :=
  ⟨2, up, by decide +kernel⟩

/-- A state that meets the hypotheses of clause 12 of ReefHelmAndResets. -/
theorem test_ReefHelmAndResets_12 : ∃ (core : Fin 3) (s : State), (s.core core = coreResync) :=
  ⟨2, up.setCore 2 coreResync, by decide +kernel⟩

/-- A state that meets the hypotheses of clause 13 of ReefHelmAndResets. -/
theorem test_ReefHelmAndResets_13 : ∃ (s : State), (s.ready) :=
  ⟨up, by decide +kernel⟩

/-- A state that meets the hypotheses of clause 14 of ReefHelmAndResets. -/
theorem test_ReefHelmAndResets_14 : ∃ (s : State), (s.ready) :=
  ⟨up, by decide +kernel⟩

/-- A state that meets the hypotheses of clause 1 of LoadAndFlash. -/
theorem test_LoadAndFlash_1 : ∃ (s : State), (s.ready = false) ∧ (s.boot.loading = false) :=
  ⟨State.reset, by decide +kernel⟩

/-- A state that meets the hypotheses of clause 2 of LoadAndFlash. -/
theorem test_LoadAndFlash_2 : ∃ (c : Switch) (s : State), (s.boot.cand = some c) ∧ (c.dev < 2) :=
  ⟨⟨1, 5, [], []⟩, { State.reset with boot := { State.reset.boot with cand := some ⟨1, 5, [], []⟩ } }, by decide +kernel⟩

/-- A state that meets the hypotheses of clause 3 of LoadAndFlash. -/
theorem test_LoadAndFlash_3 : ∃ (who : Requester) (dev : Bool) (s : State), (s.mayFlash who) ∧ (s.bootLen ≠ 0) ∧ (s.canProgram (b2n dev) (roundUp (s.bootAddr + s.bootLen) 65536)) :=
  ⟨.helm, true, flashReady.wr .BOOT_LEN 9, by decide +kernel⟩

/-- A state that meets the hypotheses of clause 4 of LoadAndFlash. -/
theorem test_LoadAndFlash_4 : ∃ (who : Requester) (dev : Bool) (s : State), (s.mayFlash who) ∧ (s.bootAddr % 4096 = 0) ∧ (s.canProgram (b2n dev) (s.bootAddr + 4096)) :=
  ⟨.helm, true, flashReady, by decide +kernel⟩

/-- A state that meets the hypotheses of clause 5 of LoadAndFlash. -/
theorem test_LoadAndFlash_5 : ∃ (who : Requester) (dev : Bool) (s : State), (s.mayFlash who) ∧ (s.ready) ∧ (s.bootLen ≠ 0) ∧ (s.canProgram (b2n dev) (roundUp (s.bootAddr + s.bootLen) 65536)) :=
  ⟨.helm, true, flashReady.wr .BOOT_LEN 9, by decide +kernel⟩

/-- A state that meets the hypotheses of clause 6 of LoadAndFlash. -/
theorem test_LoadAndFlash_6 : ∃ (who : Requester) (dev : Bool) (s : State), (s.mayFlash who) ∧ (s.flashUsed (b2n dev)) :=
  ⟨.helm, true, flashReady, by decide +kernel⟩

/-- A state that meets the hypotheses of clause 7 of LoadAndFlash. -/
theorem test_LoadAndFlash_7 : ∃ (who : Requester) (dev : Bool) (s : State), (s.mayFlash who) ∧ (s.flashUsed (b2n dev)) :=
  ⟨.helm, true, flashReady, by decide +kernel⟩

/-- A state that meets the hypotheses of clause 8 of LoadAndFlash. -/
theorem test_LoadAndFlash_8 : ∃ (x : FlashOp) (s : State), (s.boot.op = some x) ∧ (x.op = 1) :=
  ⟨⟨1, 1, 65536, 4, 0, [1, 2, 3, 4]⟩, flashBusy 1, by decide +kernel⟩

/-- A state that meets the hypotheses of clause 9 of LoadAndFlash. -/
theorem test_LoadAndFlash_9 : ∃ (x : FlashOp) (s : State), (s.boot.op = some x) ∧ (x.op = 8) :=
  ⟨⟨8, 1, 65536, 4, 0, [1, 2, 3, 4]⟩, flashBusy 8, by decide +kernel⟩

/-- A state that meets the hypotheses of clause 10 of LoadAndFlash. -/
theorem test_LoadAndFlash_10 : ∃ (who : Requester) (s : State), (s.mayFlash who) ∧ (s.ready) :=
  ⟨.helm, flashReady, by decide +kernel⟩

/-- A state that meets the hypotheses of clause 11 of LoadAndFlash. -/
theorem test_LoadAndFlash_11 : ∃ (who : Requester) (op : BitVec 4) (s : State), (s.mayWrite who .BOOT_CMD 0) ∧ (op = 0 ∨ 8 < op.toNat) :=
  ⟨.helm, 9, up, by decide +kernel⟩

/-- A state that meets the hypotheses of clause 12 of LoadAndFlash. -/
theorem test_LoadAndFlash_12 : ∃ (who : Requester) (dev : Bool) (x : Switch) (s : State), (s.mayFlash who) ∧ (s.ready) ∧ (s.fld F.BOOT_STATUS_ACTIVE_DEV ≠ b2n dev) ∧ (s.isCandidate (b2n dev)) ∧ ((s.rd .BOOT_SEQ_ACTIVE).toNat < hdrSeq (s.imgHead (b2n dev))) ∧ (s.switchOf (b2n dev) = some x) ∧ (x.layout = s.boot.layout) :=
  ⟨.helm, true, ⟨1, 5, [], [⟨1, 0, 0, []⟩]⟩, flashImage, by decide +kernel⟩

/-- A state that meets the hypotheses of clause 13 of LoadAndFlash. -/
theorem test_LoadAndFlash_13 : ∃ (who : Requester) (s : State), (s.mayFlash who) :=
  ⟨.helm, flashReady, by decide +kernel⟩

/-- A state that meets the hypotheses of clause 14 of LoadAndFlash. -/
theorem test_LoadAndFlash_14 : ∃ (x : Switch) (s : State), (s.boot.switch = some x) ∧ (s.flag F.BOOT_STATUS_STAGED = false) ∧ (s.flashErr x.dev ∨ (s.secTable x.dev).all (fun e => e.kind == secLayout)) :=
  ⟨⟨1, 5, [], []⟩, { flashImage with boot := { flashImage.boot with switch := some ⟨1, 5, [], []⟩ } }, by decide +kernel⟩

/-- A state that meets the hypotheses of clause 1 of Sessions. -/
theorem test_Sessions_1 : ∃ (v : BitVec 32) (s : State), (s.flrActive = false) ∧ (mbxGo v) ∧ (mbxLevel v ≠ 0) ∧ (((s.memBytesAt mbxData 21).getD 0 0).toNat = mbxLevel v) ∧ (s.isLocked s.ses.mbxLock = false) ∧ (mbxLevel v ≠ 3) :=
  ⟨0x80000020, mbxHolds [2], by decide +kernel⟩

/-- A state that meets the hypotheses of clause 2 of Sessions. -/
theorem test_Sessions_2 : ∃ (v : BitVec 32) (c : Chal) (s : State), (s.flrActive = false) ∧ (mbxGo v) ∧ (s.ses.mbxChal = some c) ∧ (s.chalLive c) ∧ (c.level = mbxLevel v) ∧ (c.level ≠ 3) ∧ (s.memBytesAt mbxData 32 = s.proofOf c) :=
  ⟨0x80000020, aChal, mbxHolds (up.proofOf aChal), by decide +kernel⟩

/-- A state that meets the hypotheses of clause 3 of Sessions. -/
theorem test_Sessions_3 : ∃ (v : BitVec 32) (c : Chal) (s : State), (s.flrActive = false) ∧ (mbxGo v) ∧ (s.ses.mbxChal = some c) ∧ (s.chalLive c) ∧ (c.level = mbxLevel v) ∧ (s.memBytesAt mbxData 32 ≠ s.proofOf c) :=
  ⟨0x80000020, aChal, mbxHolds [1], by decide +kernel⟩

/-- A state that meets the hypotheses of clause 4 of Sessions. -/
theorem test_Sessions_4 : ∃ (v : BitVec 32) (s : State), (s.flrActive = false) ∧ (mbxGo v) :=
  ⟨0x80000000, up, by decide +kernel⟩

/-- A state that meets the hypotheses of clause 5 of Sessions. -/
theorem test_Sessions_5 : ∃ (slot : Option (Fin 4)) (c : Chal) (s : State), ((match slot with | none => s.ses.mbxChal | some k => (s.slot k).chal) = some c) :=
  ⟨none, aChal, mbxHolds [], by decide +kernel⟩

/-- A state that meets the hypotheses of clause 6 of Sessions. -/
theorem test_Sessions_6 : ∃ (mailbox : Bool) (due : Nat) (s : State), ((if mailbox then s.ses.mbxLock else s.ses.dgLock).due = some due) :=
  ⟨true, 5, { up with ses := { up.ses with mbxLock := { due := some 5 } } }, by decide +kernel⟩

/-- A state that meets the hypotheses of clause 7 of Sessions. -/
theorem test_Sessions_7 : ∃ (p : Fin 2) (dt : Nat) (data : List Byte) (g : Dgram) (k : Nat) (s : State), (s.dgHears p dt 1 data g) ∧ (g.body.length = 21) ∧ (g.level = 1 ∨ g.level = 2) ∧ ((g.body.getD 0 0).toNat = g.level) ∧ ((s.advance dt).isLocked s.ses.dgLock = false) ∧ ((List.range 4).find? (s.advance dt).sesFree = some k) :=
  ⟨0, 9, dgPlain 1 2 (2 :: List.replicate 20 7), dgPlainOf 1 2 (2 :: List.replicate 20 7), 0, netReady, by decide +kernel⟩

/-- A state that meets the hypotheses of clause 8 of Sessions. -/
theorem test_Sessions_8 : ∃ (p : Fin 2) (dt : Nat) (data : List Byte) (g : Dgram) (k : Nat) (c : Chal) (s : State), (s.dgHears p dt 3 data g) ∧ ((List.range 4).find? (fun k => match (s.slot k).chal.filter (s.advance dt).chalLive with | some c => c.sid == g.sid | none => false) = some k) ∧ ((s.slot k).chal = some c) ∧ (c.level = 1 ∨ c.level = 2) ∧ (g.body.length = 32) ∧ (g.body = s.proofOf c) :=
  ⟨0, 9, dgPlain 3 0 (up.proofOf aChal), dgPlainOf 3 0 (up.proofOf aChal), 1, aChal, dgChal, by decide +kernel⟩

/-- A state that meets the hypotheses of clause 9 of Sessions. -/
theorem test_Sessions_9 : ∃ (p : Fin 2) (dt : Nat) (data : List Byte) (k : Nat) (g : Dgram) (s : State), (s.dgTakes p dt 0x20 data k g) :=
  ⟨0, 7, dgRaw 0x20 [], 1, dgOf 0x20 [], netReady, by decide +kernel⟩

/-- A state that meets the hypotheses of clause 10 of Sessions. -/
theorem test_Sessions_10 : ∃ (p : Fin 2) (dt : Nat) (data : List Byte) (k : Nat) (g : Dgram) (s : State), (s.dgTakes p dt 0x21 data k g) :=
  ⟨0, 7, dgRaw 0x21 [], 1, dgOf 0x21 [], netReady, by decide +kernel⟩

/-- A state that meets the hypotheses of clause 11 of Sessions. -/
theorem test_Sessions_11 : ∃ (slot : Fin 4) (s : State), ((s.slot slot).level ≠ 0) :=
  ⟨1, netReady, by decide +kernel⟩

/-- A state that meets the hypotheses of clause 12 of Sessions. -/
theorem test_Sessions_12 : ∃ (p : Fin 2) (s : State), (s.netUp p) :=
  ⟨0, netReady, by decide +kernel⟩

/-- A state that meets the hypotheses of clause 13 of Sessions. -/
theorem test_Sessions_13 : ∃ (p : Fin 2) (s : State), (s.netUp p) :=
  ⟨0, netReady, by decide +kernel⟩

/-- A state that meets the hypotheses of clause 1 of Halyards. -/
theorem test_Halyards_1 : ∃ (who : Requester) (v : BitVec 32) (s : State), (s.mayWrite who .HAL_PUBLISH 0) ∧ (getBits v 31 1 = 1) ∧ (who = .helm ∨ s.ownsHalyard who (getBits v 0 8)) :=
  ⟨.helm, 0x80020105, up, by decide +kernel⟩

/-- A state that meets the hypotheses of clause 2 of Halyards. -/
theorem test_Halyards_2 : ∃ (who : Requester) (s : State), (s.mayWrite who .HAL_GROUP_CMD 0) :=
  ⟨.helm, up, by decide +kernel⟩

/-- A state that meets the hypotheses of clause 3 of Halyards. -/
theorem test_Halyards_3 : ∃ (who : Requester) (k : Fin 512) (v : BitVec 32) (s : State), (s.mayWrite who .HAL_SUB 0) ∧ (taskListed k) ∧ (s.halNameRefused who (getBits v 0 8) = false) ∧ (s.halNameRefused who (getBits v 16 8) = false) :=
  ⟨.helm, 0x50, 0x01070103, up, by decide +kernel⟩

/-- A state that meets the hypotheses of clause 4 of Halyards. -/
theorem test_Halyards_4 : ∃ (who : Requester) (k : Fin 1024) (v : BitVec 32) (s : State), (s.mayWrite who .HAL_PROD_BIND 0) ∧ (k.val < 0x232) ∧ (s.halNameRefused who (getBits v 0 8) = false) :=
  ⟨.helm, 0x50, 0x103, up, by decide +kernel⟩

/-- A state that meets the hypotheses of clause 5 of Halyards. -/
theorem test_Halyards_5 : ∃ (who : Requester) (v : BitVec 32) (s : State), (s.mayWrite who .HAL_SEQ_CMD 0) ∧ (getBits v 31 1 = 1) ∧ (s.seqRuns (getBits v 0 5) = false) ∧ ((s.fld F.HAL_SEQ_CFG_OWNER (getBits v 0 5) = 0 ∧ who = .helm) ∨ (s.fld F.HAL_SEQ_CFG_OWNER (getBits v 0 5) = 1 ∧ who ≠ .helm)) :=
  ⟨.helm, 0x80000002, up, by decide +kernel⟩

/-- A state that meets the hypotheses of clause 6 of Halyards. -/
theorem test_Halyards_6 : ∃ (q : Fin 32) (s : State), (s.seqIssues q .done) :=
  ⟨2, seqHolds 0x00000000, by decide +kernel⟩

/-- A state that meets the hypotheses of clause 7 of Halyards. -/
theorem test_Halyards_7 : ∃ (q : Fin 32) (s : State), (s.seqIssues q .reserved) :=
  ⟨2, seqHolds 0x80000000, by decide +kernel⟩

/-- A state that meets the hypotheses of clause 8 of Halyards. -/
theorem test_Halyards_8 : ∃ (q : Fin 32) (halyard : BitVec 8) (code : BitVec 8) (s : State), (s.seqIssues q (.pub halyard code)) :=
  ⟨2, 3, 4, seqHolds 0x10000403, by decide +kernel⟩

/-- A state that meets the hypotheses of clause 9 of Halyards. -/
theorem test_Halyards_9 : ∃ (q : Fin 32) (us : BitVec 24) (s : State), (s.seqIssues q (.delay us)) :=
  ⟨2, 9, seqHolds 0x20000009, by decide +kernel⟩

/-- A state that meets the hypotheses of clause 10 of Halyards. -/
theorem test_Halyards_10 : ∃ (q : Fin 32) (s : State), (s.seqRuns q) ∧ ((s.hseq q).phase = .delay) :=
  ⟨2, seqAt { phase := .delay, due := 9 }, by decide +kernel⟩

/-- A state that meets the hypotheses of clause 11 of Halyards. -/
theorem test_Halyards_11 : ∃ (q : Fin 32) (us : BitVec 24) (s : State), (s.seqIssues q (.wait us)) :=
  ⟨2, 9, seqHolds 0x30000009, by decide +kernel⟩

/-- A state that meets the hypotheses of clause 12 of Halyards. -/
theorem test_Halyards_12 : ∃ (q : Fin 32) (s : State), (s.seqRuns q) ∧ ((s.hseq q).phase = .wait) ∧ ((s.hseq q).due ≠ 0) :=
  ⟨2, seqAt { phase := .wait, due := 9 }, by decide +kernel⟩

/-- A state that meets the hypotheses of clause 13 of Halyards. -/
theorem test_Halyards_13 : ∃ (q : Fin 32) (mask : BitVec 16) (s : State), (s.seqIssues q (.gen mask)) :=
  ⟨2, 9, seqHolds 0x40000009, by decide +kernel⟩

/-- A state that meets the hypotheses of clause 14 of Halyards. -/
theorem test_Halyards_14 : ∃ (q : Fin 32) (mask : BitVec 16) (s : State), (s.seqIssues q (.gdis mask)) :=
  ⟨2, 9, seqHolds 0x50000009, by decide +kernel⟩

/-- A state that meets the hypotheses of clause 15 of Halyards. -/
theorem test_Halyards_15 : ∃ (q : Fin 32) (body : BitVec 10) (count : BitVec 16) (s : State), (s.seqIssues q (.loop body count)) :=
  ⟨2, 3, 4, seqHolds 0x60030004, by decide +kernel⟩

/-- A state that meets the hypotheses of clause 16 of Halyards. -/
theorem test_Halyards_16 : ∃ (q : Fin 32) (word : BitVec 11) (s : State), (s.seqIssues q (.jump word)) :=
  ⟨2, 3, seqHolds 0x70000003, by decide +kernel⟩

/-- A state that meets the hypotheses of clause 2 of PcieEndpoint. -/
theorem test_PcieEndpoint_2 : ∃ (s : State), (s.flag F.PCE_STATUS_DL_UP) :=
  ⟨linkUp, by decide +kernel⟩

/-- A state that meets the hypotheses of clause 3 of PcieEndpoint. -/
theorem test_PcieEndpoint_3 : ∃ (s : State), (s.flag F.PCE_STATUS_DL_UP) :=
  ⟨linkUp, by decide +kernel⟩

/-- A state that meets the hypotheses of clause 4 of PcieEndpoint. -/
theorem test_PcieEndpoint_4 : ∃ (speed : BitVec 4) (width : BitVec 5) (s : State), (s.domOn 64 && s.domOn 65) ∧ (1 ≤ speed.toNat ∧ speed.toNat ≤ 5) ∧ (width.toNat ∈ [1, 2, 4, 8, 16]) :=
  ⟨3, 16, up, by decide +kernel⟩

/-- A state that meets the hypotheses of clause 5 of PcieEndpoint. -/
theorem test_PcieEndpoint_5 : ∃ (s : State), (s.pce.spdRead = false ∨ s.flrActive) :=
  ⟨up, by decide +kernel⟩

/-- A state that meets the hypotheses of clause 6 of PcieEndpoint. -/
theorem test_PcieEndpoint_6 : ∃ (s : State), (s.pce.spdRead) ∧ (s.flrActive = false) :=
  ⟨busReady, by decide +kernel⟩

/-- A state that meets the hypotheses of clause 7 of PcieEndpoint. -/
theorem test_PcieEndpoint_7 : ∃ (off : BitVec 12) (s : State), (s.pce.spdRead) ∧ (s.flrActive = false) ∧ (off.toNat / 4 * 4 ∉ [0x04, 0x44, 0x58, 0xB0]) :=
  ⟨0x3C, busReady, by decide +kernel⟩

/-- A state that meets the hypotheses of clause 8 of PcieEndpoint. -/
theorem test_PcieEndpoint_8 : ∃ (off : Nat) (s : State), (s.flrActive = false) ∧ (off % 4 = 0) ∧ (off + 4 ≤ 0x10000) :=
  ⟨12, busReady, by decide +kernel⟩

/-- A state that meets the hypotheses of clause 9 of PcieEndpoint. -/
theorem test_PcieEndpoint_9 : ∃ (off : Nat) (data : List Byte) (s : State), (s.flrActive = false) ∧ (off % 4 = 0) ∧ (off < 0x8000) ∧ (data.length = 4) :=
  ⟨12, [1, 0, 0, 0], busReady, by decide +kernel⟩

/-- A state that meets the hypotheses of clause 12 of PcieEndpoint. -/
theorem test_PcieEndpoint_12 : ∃ (tag : Fin 1024) (s : State), (s.pce.reqs.find? (fun r => r.tag = tag.val) = none) :=
  ⟨9, busReady, by decide +kernel⟩

/-- A state that meets the hypotheses of clause 13 of PcieEndpoint. -/
theorem test_PcieEndpoint_13 : ∃ (tag : Fin 1024) (data : List Byte) (q : Req) (s : State), (s.pce.reqs.find? (fun r => r.tag = tag.val) = some q) ∧ (q.kind = .desc ∨ q.kind = .link ∨ q.kind = .data) ∧ (q.len ≤ q.data.length + data.length) :=
  ⟨5, List.replicate 64 7, aReq .desc, busReady, by decide +kernel⟩

/-- A state that meets the hypotheses of clause 14 of PcieEndpoint. -/
theorem test_PcieEndpoint_14 : ∃ (tag : Fin 1024) (data : List Byte) (q : Req) (s : State), (s.pce.reqs.find? (fun r => r.tag = tag.val) = some q) ∧ (q.kind ≠ .gone ∧ q.kind ≠ .dropped) ∧ (q.data.length + data.length < q.len) :=
  ⟨5, List.replicate 4 7, aReq .desc, busReady, by decide +kernel⟩

/-- A state that meets the hypotheses of clause 15 of PcieEndpoint. -/
theorem test_PcieEndpoint_15 : ∃ (tag : Fin 1024) (q : Req) (s : State), (s.pce.reqs.find? (fun r => r.tag = tag.val) = some q) ∧ (natBit (s.cfgRd 0x78).toNat 4 = false) ∧ (s.mayRequest) ∧ (q.kind ≠ .dropped ∧ q.kind ≠ .gone) ∧ (q.retried = false) :=
  ⟨5, aReq .desc, busReady, by decide +kernel⟩

/-- A state that meets the hypotheses of clause 16 of PcieEndpoint. -/
theorem test_PcieEndpoint_16 : ∃ (tag : Fin 1024) (e : Nat × Nat) (s : State), (s.pce.reserved.find? (fun x => x.1 = tag.val) = some e) :=
  ⟨5, (5, 70), { busReady with pce := { busReady.pce with reserved := [(5, 70)] } }, by decide +kernel⟩

/-- A state that meets the hypotheses of clause 17 of PcieEndpoint. -/
theorem test_PcieEndpoint_17 : ∃ (s : State), (s.flrActive = false) :=
  ⟨busReady, by decide +kernel⟩

/-- A state that meets the hypotheses of clause 18 of PcieEndpoint. -/
theorem test_PcieEndpoint_18 : ∃ (s : State), (s.flrActive = false) :=
  ⟨busReady, by decide +kernel⟩

/-- A state that meets the hypotheses of clause 19 of PcieEndpoint. -/
theorem test_PcieEndpoint_19 : ∃ (s : State), (s.flrActive = false) :=
  ⟨busReady, by decide +kernel⟩

/-- A state that meets the hypotheses of clause 20 of PcieEndpoint. -/
theorem test_PcieEndpoint_20 : ∃ (s : State), (s.flrActive) ∧ (s.pce.flrDrain) :=
  ⟨{ busReady.setFld F.PCE_STATUS_FLR_ACTIVE 1 with pce := { busReady.pce with flrDrain := true } }, by decide +kernel⟩

/-- A state that meets the hypotheses of clause 21 of PcieEndpoint. -/
theorem test_PcieEndpoint_21 : ∃ (s : State), (s.flrActive) ∧ (s.pce.flrDrain = false) ∧ (s.flag F.PCE_STATUS_DL_UP) :=
  ⟨busReady.setFld F.PCE_STATUS_FLR_ACTIVE 1, by decide +kernel⟩

/-- A state that meets the hypotheses of clause 22 of PcieEndpoint. -/
theorem test_PcieEndpoint_22 : ∃ (s : State), (s.flag F.PCE_STATUS_DL_UP) ∧ (natBit (s.cfgRd 0x60).toNat 0) ∧ (s.fld F.PCE_STATUS_LINK_PM = 0) :=
  ⟨(busReady.setFld F.PCE_STATUS_LINK_PM 0).cfgWr 0x60 3, by decide +kernel⟩

/-- A state that meets the hypotheses of clause 23 of PcieEndpoint. -/
theorem test_PcieEndpoint_23 : ∃ (s : State), (s.flag F.PCE_STATUS_DL_UP) ∧ (natBit (s.cfgRd 0x60).toNat 1) ∧ (s.fld F.PCE_STATUS_LINK_PM ≤ 1) ∧ (s.pce.reqs = [] ∧ s.pce.waitReqs = [] ∧ s.pce.pba = []) ∧ (∀ n < 32, s.dmaState n ≠ dmaRunning) :=
  ⟨(linkUp.setFld F.PCE_STATUS_LINK_PM 0).cfgWr 0x60 3, by decide +kernel⟩

/-- A state that meets the hypotheses of clause 1 of DmaAndMigration. -/
theorem test_DmaAndMigration_1 : ∃ (n : Fin 32) (errs : List (Nat × BurstErr)) (s : State), (s.dmaHasRead n .loading) ∧ ((s.descRead n errs).own = false) ∧ (s.frameMode n = false) :=
  ⟨0, [], dmaAt dmaRunning { phase := .loading, got := true }, by decide +kernel⟩

/-- A state that meets the hypotheses of clause 2 of DmaAndMigration. -/
theorem test_DmaAndMigration_2 : ∃ (n : Fin 32) (errs : List (Nat × BurstErr)) (s : State), (s.dmaHasRead n .loading) ∧ ((s.descRead n errs).own) ∧ (s.badDesc n (s.descRead n errs)) :=
  ⟨0, [], dmaAt dmaRunning { phase := .loading, got := true, rx := [1] }, by decide +kernel⟩

/-- A state that meets the hypotheses of clause 3 of DmaAndMigration. -/
theorem test_DmaAndMigration_3 : ∃ (n : Fin 32) (errs : List (Nat × BurstErr)) (s : State), (s.dmaHasRead n .loading) ∧ ((s.descRead n errs).own) ∧ (s.badDesc n (s.descRead n errs) = false) ∧ (s.frameMode n = false) ∧ ((s.descRead n errs).type = 0) :=
  ⟨0, [], dmaAt dmaRunning { phase := .loading, got := true, rx := aCopyBytes }, by decide +kernel⟩

/-- A state that meets the hypotheses of clause 4 of DmaAndMigration. -/
theorem test_DmaAndMigration_4 : ∃ (n : Fin 32) (dt : Nat) (u : State) (s : State), (s.burstWait n dt = u) ∧ (u.burstTurn n) ∧ (u.frameMode n = false) ∧ ((u.dm n).desc.type = 0 ∧ (u.dm n).desc.srcSpace = 1 ∧ (u.dm n).desc.dstSpace = 1) :=
  ⟨0, 9, ({ dmaAt dmaRunning { phase := .moving, desc := aCopy } with fst := storeReady.fst }).burstWait 0 9, { dmaAt dmaRunning { phase := .moving, desc := aCopy } with fst := storeReady.fst }, by decide +kernel⟩

/-- A state that meets the hypotheses of clause 5 of DmaAndMigration. -/
theorem test_DmaAndMigration_5 : ∃ (n : Fin 32) (dt : Nat) (u : State) (s : State), (s.burstWait n dt = u) ∧ (u.burstTurn n = false) :=
  ⟨0, 9, (dmaAt dmaIdle {}).burstWait 0 9, dmaAt dmaIdle {}, by decide +kernel⟩

/-- A state that meets the hypotheses of clause 6 of DmaAndMigration. -/
theorem test_DmaAndMigration_6 : ∃ (n : Fin 32) (errs : List (Nat × BurstErr)) (u : State) (s : State), ((s.dm n).paused = false) ∧ (s.frameMode n = false) ∧ ((s.dm n).phase = .readBack ∧ (s.dm n).backOk) ∧ (s.dmaHeld (inStore (s.dm n).addr || (s.dm n).desc.dstSpace == 1) = false) ∧ ((if (s.dm n).desc.dstSpace = 1 then (s.storeFetch ((s.dm n).lastByte / 64 * 64) 64 errs).st else s) = u) :=
  ⟨0, [], (({ dmaAt dmaRunning { phase := .readBack, backOk := true, desc := aCopy } with fst := storeReady.fst }).storeFetch ((({ dmaAt dmaRunning { phase := .readBack, backOk := true, desc := aCopy } with fst := storeReady.fst }).dm 0).lastByte / 64 * 64) 64 []).st, { dmaAt dmaRunning { phase := .readBack, backOk := true, desc := aCopy } with fst := storeReady.fst }, by decide +kernel⟩

/-- A state that meets the hypotheses of clause 7 of DmaAndMigration. -/
theorem test_DmaAndMigration_7 : ∃ (n : Fin 32) (s : State), (s.dmaHasRead n .reread) :=
  ⟨0, dmaAt dmaRunning { phase := .reread, got := true, rx := [64] }, by decide +kernel⟩

/-- A state that meets the hypotheses of clause 8 of DmaAndMigration. -/
theorem test_DmaAndMigration_8 : ∃ (who : Requester) (n : Fin 32) (s : State), (s.mayWrite who .DMA_DOORBELL n) :=
  ⟨.helm, 0, dmaAt dmaParkedOwn {}, by decide +kernel⟩

/-- A state that meets the hypotheses of clause 9 of DmaAndMigration. -/
theorem test_DmaAndMigration_9 : ∃ (who : Requester) (n : Fin 32) (s : State), (s.mayWrite who .DMA_CMD n) ∧ (s.dmaState n = dmaIdle ∨ s.dmaState n = dmaHalted ∨ s.dmaState n = dmaAborted) :=
  ⟨.helm, 0, dmaAt dmaIdle {}, by decide +kernel⟩

/-- A state that meets the hypotheses of clause 10 of DmaAndMigration. -/
theorem test_DmaAndMigration_10 : ∃ (who : Requester) (n : Fin 32) (s : State), (s.mayWrite who .DMA_CMD n) ∧ (s.dmaState n = dmaParkedEnd ∨ s.dmaState n = dmaParkedOwn) :=
  ⟨.helm, 0, dmaAt dmaParkedOwn {}, by decide +kernel⟩

/-- A state that meets the hypotheses of clause 11 of DmaAndMigration. -/
theorem test_DmaAndMigration_11 : ∃ (who : Requester) (n : Fin 32) (s : State), (s.mayWrite who .DMA_CMD n) ∧ (s.dmaState n ≠ dmaReserved) :=
  ⟨.helm, 0, dmaAt dmaRunning { phase := .moving }, by decide +kernel⟩

/-- A state that meets the hypotheses of clause 12 of DmaAndMigration. -/
theorem test_DmaAndMigration_12 : ∃ (n : Fin 32) (dt : Nat) (bad : List Nat) (u : State) (i : QItem) (s : State), (s.burstWait n dt = u) ∧ (u.burstTurn n) ∧ (u.frameMode n = false) ∧ ((u.dm n).desc.type = 2) ∧ ((u.queue ((u.dm n).desc.src % 64)).ptrsAgree) ∧ (((u.queue ((u.dm n).desc.src % 64)).drainNext bad).cur = some i) ∧ ((u.dm n).moved + 8 + i.data.length ≤ (u.dm n).desc.length) :=
  ⟨0, 9, [], (aDrain).burstWait 0 9, anItem, aDrain, by decide +kernel⟩

/-- A state that meets the hypotheses of clause 13 of DmaAndMigration. -/
theorem test_DmaAndMigration_13 : ∃ (c : Nat) (b : Nat) (s : State), (s.fst.retiring = some c) ∧ (s.chState c = chRetiring) ∧ (s.fst.selfRefresh = false) ∧ (s.migNext c = some b) ∧ (s.flag F.FST_STATUS_RETIRE_BLOCKED = false) :=
  ⟨0, 0, retiringStore, by decide +kernel⟩

/-- A state that meets the hypotheses of clause 14 of DmaAndMigration. -/
theorem test_DmaAndMigration_14 : ∃ (r : Fin 16) (c : Nat) (s : State), (s.fst.retiring = some c) ∧ (s.chState c = chRetiring) ∧ (s.ringExists r) ∧ (tblGet false s.fst.wrapped r = false) :=
  ⟨2, 0, retiringStore, by decide +kernel⟩

/-- A state that meets the hypotheses of clause 15 of DmaAndMigration. -/
theorem test_DmaAndMigration_15 : ∃ (c : Nat) (s : State), (s.fst.retiring = some c) ∧ (s.chState c = chRetiring) ∧ (c < 12) ∧ (∀ r < 16, s.ringExists r → tblGet false s.fst.wrapped r = true) ∧ (s.fst.migActive = false) ∧ (s.migNext c = none) :=
  ⟨0, { retiringStore with fst := { retiringStore.fst with wrapped := [(2, true)], migPos := 1000000 } }, by decide +kernel⟩

/-- A state that meets the hypotheses of clause 1 of Queues. -/
theorem test_Queues_1 : ∃ (q : Fin 64) (pri : BitVec 3) (words : Fin 8) (data : List Byte) (s : State), (s.queueRoom q pri.toNat (words + 1)) ∧ ((s.queue q).partsOf pri.toNat = []) ∧ (data.length = 32 * (words + 1)) :=
  ⟨3, 2, 0, List.replicate 32 5, queueOne, by decide +kernel⟩

/-- A state that meets the hypotheses of clause 2 of Queues. -/
theorem test_Queues_2 : ∃ (q : Fin 64) (pri : BitVec 3) (words : Fin 8) (data : List Byte) (s : State), (s.queueRoom q pri.toNat 0) ∧ ((s.queue q).partsOf pri.toNat = []) ∧ (data.length < 32 * (words + 1)) :=
  ⟨3, 2, 0, [5], queueOne, by decide +kernel⟩

/-- A state that meets the hypotheses of clause 3 of Queues. -/
theorem test_Queues_3 : ∃ (q : Fin 64) (s : State), (s.queDepth q ≠ 0) :=
  ⟨3, queueOne, by decide +kernel⟩

/-- A state that meets the hypotheses of clause 4 of Queues. -/
theorem test_Queues_4 : ∃ (who : Requester) (q : Fin 64) (bad : List Nat) (i : QItem) (s : State), (s.mayRead who 11 q 1) ∧ ((s.queue q).ptrsAgree) ∧ ((s.queue q).drain = none) ∧ ((s.queue q).cur = none) ∧ (((s.queue q).start bad).cur = some i) :=
  ⟨.helm, 3, [], anItem, queueOne, by decide +kernel⟩

/-- A state that meets the hypotheses of clause 5 of Queues. -/
theorem test_Queues_5 : ∃ (who : Requester) (q : Fin 64) (bad : List Nat) (s : State), (s.mayRead who 11 q 1) ∧ ((s.queue q).ptrsAgree) ∧ ((s.queue q).drain = none) ∧ ((s.queue q).cur = none) ∧ (((s.queue q).start bad).cur = none) :=
  ⟨.helm, 3, [], queueAt {}, by decide +kernel⟩

/-- A state that meets the hypotheses of clause 6 of Queues. -/
theorem test_Queues_6 : ∃ (who : Requester) (q : Fin 64) (i : QItem) (s : State), (s.mayRead who 11 q 1) ∧ ((s.queue q).ptrsAgree) ∧ ((s.queue q).drain = none) ∧ ((s.queue q).cur = some i) :=
  ⟨.helm, 3, anItem, queueAt { cur := some anItem }, by decide +kernel⟩

/-- A state that meets the hypotheses of clause 7 of Queues. -/
theorem test_Queues_7 : ∃ (who : Requester) (q : Fin 64) (s : State), (s.mayWrite who .QUE_CMD q) ∧ ((s.queue q).ptrsAgree) :=
  ⟨.helm, 3, queueAt { cur := some anItem }, by decide +kernel⟩

/-- A state that meets the hypotheses of clause 8 of Queues. -/
theorem test_Queues_8 : ∃ (who : Requester) (q : Fin 64) (s : State), (s.mayWrite who .QUE_CMD q) :=
  ⟨.helm, 3, queueOne, by decide +kernel⟩

/-- A state that meets the hypotheses of clause 9 of Queues. -/
theorem test_Queues_9 : ∃ (who : Requester) (q : Fin 64) (s : State), (s.mayWrite who .QUE_WR_HEAD q) ∧ ((s.queue q).ptrsAgree) :=
  ⟨.helm, 3, queueOne, by decide +kernel⟩

/-- A state that meets the hypotheses of clause 10 of Queues. -/
theorem test_Queues_10 : ∃ (who : Requester) (q : Fin 64) (x : QPartial) (s : State), (s.mayWrite who .QUE_WR_DATA q) ∧ ((s.queue q).host = some x) ∧ (s.queueRoom q x.pri x.words) ∧ (x.data.length + 4 ≤ 32 * x.words) :=
  ⟨.helm, 3, ⟨2, 0x20, 1, List.replicate 28 5, false⟩, queueAt { host := some ⟨2, 0x20, 1, List.replicate 28 5, false⟩ }, by decide +kernel⟩

/-- A state that meets the hypotheses of clause 1 of TimeAndPtp. -/
theorem test_TimeAndPtp_1 : ∃ (who : Requester) (s : State), (s.mayWrite who .TIM_CMD 0) :=
  ⟨.helm, up, by decide +kernel⟩

/-- A state that meets the hypotheses of clause 2 of TimeAndPtp. -/
theorem test_TimeAndPtp_2 : ∃ (who : Requester) (s : State), (s.mayWrite who .TIM_CMD 0) ∧ (s.ptpSource) ∧ (s.flag F.TIM_DOM_STATUS_ALIGNED (1 - s.activeDom)) :=
  ⟨.helm, (up.setFld F.TIM_CFG_TIME_SRC 1).setFld F.TIM_DOM_STATUS_ALIGNED 1 1, by decide +kernel⟩

/-- A state that meets the hypotheses of clause 3 of TimeAndPtp. -/
theorem test_TimeAndPtp_3 : ∃ (who : Requester) (s : State), (s.mayRead who 12 0 1) :=
  ⟨.helm, up, by decide +kernel⟩

/-- A state that meets the hypotheses of clause 4 of TimeAndPtp. -/
theorem test_TimeAndPtp_4 : ∃ (who : Requester) (k : Fin 8) (s : State), (s.mayRead who 12 k 1) :=
  ⟨.helm, 2, up, by decide +kernel⟩

/-- A state that meets the hypotheses of clause 5 of TimeAndPtp. -/
theorem test_TimeAndPtp_5 : ∃ (p : Fin 2) (dt : Nat) (m : PtpMsg) (d : Nat) (s : State), (s.ptpTakes p dt m d) ∧ (s.fromMaster d p m) :=
  ⟨0, 9, aPtp false, 0, ptpAt psSlave 0 {}, by decide +kernel⟩

/-- A state that meets the hypotheses of clause 6 of TimeAndPtp. -/
theorem test_TimeAndPtp_6 : ∃ (p : Fin 2) (m : PtpMsg) (d : Nat) (t2 : Int) (c : Int) (s : State), (s.ptpTakes p 0 m d) ∧ (s.fromMaster d p m) ∧ ((s.inst d p).sync = some (m.seqId.toNat, t2, c)) :=
  ⟨0, aPtp false, 0, 5, 6, ptpAt psSlave 0 { sync := some (3, 5, 6) }, by decide +kernel⟩

/-- A state that meets the hypotheses of clause 7 of TimeAndPtp. -/
theorem test_TimeAndPtp_7 : ∃ (p : Fin 2) (dt : Nat) (m : PtpMsg) (d : Nat) (s : State), (s.ptpTakes p dt m d) ∧ (m.clock ≠ s.fuse.eui) :=
  ⟨0, 9, aPtp false, 0, ptpAt psListening 0 {}, by decide +kernel⟩

/-- A state that meets the hypotheses of clause 8 of TimeAndPtp. -/
theorem test_TimeAndPtp_8 : ∃ (p : Fin 2) (dt : Nat) (m : PtpMsg) (d : Nat) (s : State), (s.ptpTakes p dt m d) ∧ (s.portState d p = psMaster) ∧ (s.flag F.TIM_DOM_CFG_DELAY_MECH d = false) :=
  ⟨0, 9, aPtp false, 0, ptpAt psMaster 0 {}, by decide +kernel⟩

/-- A state that meets the hypotheses of clause 9 of TimeAndPtp. -/
theorem test_TimeAndPtp_9 : ∃ (p : Fin 2) (dt : Nat) (m : PtpMsg) (d : Nat) (s : State), (s.ptpTakes p dt m d) ∧ (s.flag F.TIM_DOM_CFG_DELAY_MECH d) :=
  ⟨0, 9, aPtp false, 0, ptpAt psMaster 1 {}, by decide +kernel⟩

/-- A state that meets the hypotheses of clause 10 of TimeAndPtp. -/
theorem test_TimeAndPtp_10 : ∃ (p : Fin 2) (m : PtpMsg) (d : Nat) (t1 : Int) (t2 : Int) (t3 : Int) (s : State), (s.ptpTakes p 0 m d) ∧ (s.fromMaster d p m && s.toUs p m) ∧ ((s.inst d p).req = some (m.seqId.toNat, t3)) ∧ ((s.dom d).last = some (t1, t2)) ∧ (s.flag F.TIM_DOM_CFG_DELAY_MECH d = false) :=
  ⟨0, aPtp false, 0, 0, 0, 5, ptpAt psSlave 0 { req := some (3, 5) }, by decide +kernel⟩

/-- A state that meets the hypotheses of clause 11 of TimeAndPtp. -/
theorem test_TimeAndPtp_11 : ∃ (p : Fin 2) (dt : Nat) (m : PtpMsg) (d : Nat) (t1 : Int) (s : State), (s.ptpTakes p dt m d) ∧ (s.toUs p m) ∧ ((s.inst d p).req = some (m.seqId.toNat, t1)) ∧ (s.flag F.TIM_DOM_CFG_DELAY_MECH d) :=
  ⟨0, 9, aPtp false, 0, 5, ptpAt psSlave 1 { req := some (3, 5) }, by decide +kernel⟩

/-- A state that meets the hypotheses of clause 12 of TimeAndPtp. -/
theorem test_TimeAndPtp_12 : ∃ (p : Fin 2) (m : PtpMsg) (d : Nat) (k : Nat) (t1 : Int) (t2 : Int) (t4 : Int) (s : State), (s.ptpTakes p 0 m d) ∧ (s.toUs p m) ∧ ((s.inst d p).req = some (k, t1)) ∧ ((s.inst d p).resp = some (m.seqId.toNat, t4, t2)) :=
  ⟨0, aPtp false, 0, 3, 5, 6, 7, ptpAt psSlave 1 { req := some (3, 5), resp := some (3, 7, 6) }, by decide +kernel⟩

/-- A state that meets the hypotheses of clause 13 of TimeAndPtp. -/
theorem test_TimeAndPtp_13 : ∃ (d : Fin 2) (p : Fin 2) (dt : Nat) (s : State), (s.instIs d p dt [psMaster]) :=
  ⟨0, 0, 9, ptpAt psMaster 0 {}, by decide +kernel⟩

/-- A state that meets the hypotheses of clause 14 of TimeAndPtp. -/
theorem test_TimeAndPtp_14 : ∃ (d : Fin 2) (p : Fin 2) (dt : Nat) (s : State), (s.instIs d p dt [psMaster]) :=
  ⟨0, 0, 9, ptpAt psMaster 0 {}, by decide +kernel⟩

/-- A state that meets the hypotheses of clause 15 of TimeAndPtp. -/
theorem test_TimeAndPtp_15 : ∃ (d : Fin 2) (p : Fin 2) (dt : Nat) (s : State), (s.instIs d p dt [psSlave, psUncalibrated]) :=
  ⟨0, 0, 9, ptpAt psSlave 0 {}, by decide +kernel⟩

/-- A state that meets the hypotheses of clause 16 of TimeAndPtp. -/
theorem test_TimeAndPtp_16 : ∃ (d : Fin 2) (s : State), (s.timOn) ∧ (s.domState d = dsAcquiring ∨ s.domState d = dsLocked) :=
  ⟨0, up.setFld F.TIM_DOM_STATUS_STATE dsLocked 0, by decide +kernel⟩

/-- A state that meets the hypotheses of clause 17 of TimeAndPtp. -/
theorem test_TimeAndPtp_17 : ∃ (d : Fin 2) (p : Fin 2) (dt : Nat) (s : State), (s.instIs d p dt [psListening, psPassive, psUncalibrated, psSlave]) :=
  ⟨0, 0, 9, ptpAt psSlave 0 {}, by decide +kernel⟩

/-- A state that meets the hypotheses of clause 18 of TimeAndPtp. -/
theorem test_TimeAndPtp_18 : ∃ (p : Fin 2) (s : State), (s.timOn) ∧ (s.domOn (66 + p)) :=
  ⟨0, Sys2Proof.Tests.up, by decide +kernel⟩

/-- A state that meets the hypotheses of clause 19 of TimeAndPtp. -/
theorem test_TimeAndPtp_19 : ∃ (p : Fin 2) (s : State), (s.domOn (66 + p)) :=
  ⟨0, up, by decide +kernel⟩

/-- A state that meets the hypotheses of clause 20 of TimeAndPtp. -/
theorem test_TimeAndPtp_20 : ∃ (p : Fin 2) (s : State), (s.domOn (66 + p)) ∧ (s.flag F.TIM_PORT_STATUS_MOD_ABS p = false) :=
  ⟨0, ptpAt psSlave 0 {}, by decide +kernel⟩

/-- A state that meets the hypotheses of clause 1 of SchedulesAndRings. -/
theorem test_SchedulesAndRings_1 : ∃ (who : Requester) (k : Fin 8) (v : BitVec 32) (s : State), (s.mayWrite who .TIM_SCH_CFG k) ∧ (natBit v.toNat 31 = false) ∧ (getBits v 0 2 = 1 ∨ getBits v 0 2 = 2 ∧ s.rd .TIM_SCH_COUNT k = 0) :=
  ⟨.helm, 2, 1, up, by decide +kernel⟩

/-- A state that meets the hypotheses of clause 2 of SchedulesAndRings. -/
theorem test_SchedulesAndRings_2 : ∃ (who : Requester) (k : Fin 8) (s : State), (s.mayWrite who .TIM_SCH_CFG k) :=
  ⟨.helm, 2, up, by decide +kernel⟩

/-- A state that meets the hypotheses of clause 3 of SchedulesAndRings. -/
theorem test_SchedulesAndRings_3 : ∃ (k : Fin 8) (s : State), ((s.sched k).armed) ∧ (s.timOn) :=
  ⟨2, schedAt { armed := true, cfg := 1, start := 50 }, by decide +kernel⟩

/-- A state that meets the hypotheses of clause 4 of SchedulesAndRings. -/
theorem test_SchedulesAndRings_4 : ∃ (k : Fin 8) (e : Nat) (s : State), ((s.sched k).pulse = some e) :=
  ⟨2, 50, schedAt { pulse := some 50 }, by decide +kernel⟩

/-- A state that meets the hypotheses of clause 5 of SchedulesAndRings. -/
theorem test_SchedulesAndRings_5 : ∃ (r : Fin 2) (t0 : Nat) (nibs : List (BitVec 4)) (s : State), (s.ringOn r) ∧ (nibs.length = 10) ∧ (nibsAt nibs 7 3 = crc12 ((nibs.take 7).map BitVec.toNat)) ∧ (nibsAt nibs 0 2 = s.fld F.TIM_RING_CFG_RING_ID r) ∧ ((s.ring r).own = some t0) :=
  ⟨0, 5, aRingMsg 1, ringAt { own := some 5 }, by decide +kernel⟩

/-- A state that meets the hypotheses of clause 6 of SchedulesAndRings. -/
theorem test_SchedulesAndRings_6 : ∃ (r : Fin 2) (nibs : List (BitVec 4)) (s : State), (s.ringOn r) ∧ (nibs.length = 10) ∧ (nibsAt nibs 7 3 = crc12 ((nibs.take 7).map BitVec.toNat)) ∧ (nibsAt nibs 0 2 ≠ s.fld F.TIM_RING_CFG_RING_ID r) ∧ (nibsAt nibs 2 2 < 31) ∧ ((s.ring r).second = none) :=
  ⟨0, aRingMsg 2, ringAt {}, by decide +kernel⟩

/-- A state that meets the hypotheses of clause 7 of SchedulesAndRings. -/
theorem test_SchedulesAndRings_7 : ∃ (who : Requester) (r : Fin 2) (v : BitVec 32) (s : State), (s.mayWrite who .TIM_RING_SEND r) ∧ (natBit v.toNat 31) ∧ (s.ringOn r) ∧ ((s.ring r).own = none) ∧ ((s.ring r).second = none) :=
  ⟨.helm, 0, 0x80000007, ringAt {}, by decide +kernel⟩

/-- A state that meets the hypotheses of clause 8 of SchedulesAndRings. -/
theorem test_SchedulesAndRings_8 : ∃ (r : Fin 2) (t0 : Nat) (s : State), ((s.ring r).own = some t0) :=
  ⟨0, 5, ringAt { own := some 5 }, by decide +kernel⟩

/-- A state that meets the hypotheses of clause 9 of SchedulesAndRings. -/
theorem test_SchedulesAndRings_9 : ∃ (r : Fin 2) (t0 : Nat) (s : State), ((s.ring r).idleAt = some t0) :=
  ⟨0, 5, ringAt { idleAt := some 5 }, by decide +kernel⟩

/-- A state that meets the hypotheses of clause 1 of ScanRecords. -/
theorem test_ScanRecords_1 : ∃ (n : Fin 12) (x : BitVec 32) (y : BitVec 32) (z : BitVec 16) (u : State) (s : State), (s.plans n (.jumpRecord n x y z)) ∧ (s.planner n = u) :=
  ⟨0, 7, 8, 9, (scnHas [1, 0, 9, 0, 7, 0, 0, 0, 8]).planner 0, scnHas [1, 0, 9, 0, 7, 0, 0, 0, 8], by decide +kernel⟩

/-- A state that meets the hypotheses of clause 2 of ScanRecords. -/
theorem test_ScanRecords_2 : ∃ (n : Fin 12) (x : BitVec 32) (y : BitVec 32) (z : BitVec 16) (u : State) (s : State), (s.plans n (.markRecord n x y z)) ∧ (s.planner n = u) :=
  ⟨0, 7, 8, 9, (scnHas [2, 0, 9, 0, 7, 0, 0, 0, 8]).planner 0, scnHas [2, 0, 9, 0, 7, 0, 0, 0, 8], by decide +kernel⟩

/-- A state that meets the hypotheses of clause 3 of ScanRecords. -/
theorem test_ScanRecords_3 : ∃ (n : Fin 12) (dark : Bool) (z : BitVec 16) (cx : BitVec 32) (cy : BitVec 32) (sweep : BitVec 32) (u : State) (a : ArcGeo) (s : State), (s.plans n (.arcRecord n dark z cx cy sweep)) ∧ (s.planner n = u) ∧ ((⟨cx.toInt, cy.toInt, sweep.toInt⟩ : ArcGeo) = a) :=
  ⟨0, true, 9, 1000, 0, 400000000, (scnHas [3, 1, 9, 0, 0xE8, 3, 0, 0, 0, 0, 0, 0, 0, 0x84, 0xD7, 0x17]).planner 0, ⟨1000, 0, 400000000⟩, scnHas [3, 1, 9, 0, 0xE8, 3, 0, 0, 0, 0, 0, 0, 0, 0x84, 0xD7, 0x17], by decide +kernel⟩

/-- A state that meets the hypotheses of clause 4 of ScanRecords. -/
theorem test_ScanRecords_4 : ∃ (n : Fin 12) (vm : BitVec 32) (vj : BitVec 32) (u : State) (s : State), (s.plans n (.speedRecord n vm vj)) ∧ (s.planner n = u) :=
  ⟨0, 7, 0, (scnHas [4, 0, 0, 0, 7]).planner 0, scnHas [4, 0, 0, 0, 7], by decide +kernel⟩

/-- A state that meets the hypotheses of clause 5 of ScanRecords. -/
theorem test_ScanRecords_5 : ∃ (n : Fin 12) (openLoop : Bool) (c : BitVec 16) (u : State) (s : State), (s.plans n (.powerRecord n openLoop c)) ∧ (s.planner n = u) :=
  ⟨0, true, 7, (scnHas [5, 1, 7]).planner 0, scnHas [5, 1, 7], by decide +kernel⟩

/-- A state that meets the hypotheses of clause 6 of ScanRecords. -/
theorem test_ScanRecords_6 : ∃ (n : Fin 12) (profile : BitVec 3) (u : State) (s : State), (s.plans n (.profileRecord n profile)) ∧ (s.planner n = u) :=
  ⟨0, 7, (scnHas [6, 0, 7]).planner 0, scnHas [6, 0, 7], by decide +kernel⟩

/-- A state that meets the hypotheses of clause 7 of ScanRecords. -/
theorem test_ScanRecords_7 : ∃ (n : Fin 12) (code : BitVec 8) (u : State) (s : State), (s.plans n (.eventRecord n code)) ∧ (s.planner n = u) :=
  ⟨0, 7, (scnHas [10, 0, 7]).planner 0, scnHas [10, 0, 7], by decide +kernel⟩

/-- A state that meets the hypotheses of clause 8 of ScanRecords. -/
theorem test_ScanRecords_8 : ∃ (n : Fin 12) (target : BitVec 32) (u : State) (s : State), (s.plans n (.linkRecord n target)) ∧ (s.planner n = u) :=
  ⟨0, 7, (scnHas [11, 0, 0, 0, 7]).planner 0, scnHas [11, 0, 0, 0, 7], by decide +kernel⟩

/-- A state that meets the hypotheses of clause 9 of ScanRecords. -/
theorem test_ScanRecords_9 : ∃ (n : Fin 12) (type : BitVec 8) (s : State), (s.plans n (.badRecord n type)) :=
  ⟨0, 14, scnHas [14], by decide +kernel⟩

/-- A state that meets the hypotheses of clause 10 of ScanRecords. -/
theorem test_ScanRecords_10 : ∃ (n : Fin 12) (w : Fin 4) (timeout : BitVec 32) (u : State) (s : State), (s.rests n (.waitRecord n w timeout)) ∧ ((s.atRest n).skips n = false) ∧ (s.atRest n = u) :=
  ⟨0, 1, 7, (scnHas [7, 0, 1, 0, 7]).atRest 0, scnHas [7, 0, 1, 0, 7], by decide +kernel⟩

/-- A state that meets the hypotheses of clause 11 of ScanRecords. -/
theorem test_ScanRecords_11 : ∃ (n : Fin 12) (w : Nat) (s : State), ((s.sc n).wait = ScnWait.task w) ∧ (s.scnState n = scnWaiting) ∧ ((s.sc n).waitAt ≠ 0) :=
  ⟨0, 1, scnIn scnWaiting { wait := .task 1, waitAt := 9 }, by decide +kernel⟩

/-- A state that meets the hypotheses of clause 12 of ScanRecords. -/
theorem test_ScanRecords_12 : ∃ (n : Fin 12) (us : BitVec 32) (u : State) (s : State), (s.rests n (.dwellRecord n us)) ∧ ((s.atRest n).skips n = false) ∧ (s.atRest n = u) :=
  ⟨0, 7, (scnHas [8, 0, 0, 0, 7]).atRest 0, scnHas [8, 0, 0, 0, 7], by decide +kernel⟩

/-- A state that meets the hypotheses of clause 13 of ScanRecords. -/
theorem test_ScanRecords_13 : ∃ (n : Fin 12) (s : State), ((s.sc n).wait = ScnWait.dwell) ∧ (s.scnState n = scnWaiting) ∧ ((s.sc n).plan = [] ∧ (s.sc n).pause = none) :=
  ⟨0, scnIn scnWaiting { wait := .dwell, waitAt := 9 }, by decide +kernel⟩

/-- A state that meets the hypotheses of clause 14 of ScanRecords. -/
theorem test_ScanRecords_14 : ∃ (n : Fin 12) (input : Fin 4) (profile : BitVec 3) (cm : BitVec 16) (us : BitVec 32) (u : State) (s : State), (s.rests n (.meterRecord n input profile cm us)) ∧ ((s.atRest n).skips n = false) ∧ (s.atRest n = u) :=
  ⟨0, 1, 2, 300, 100, (scnHas [9, 0, 1, 2, 44, 1, 0, 0, 100]).atRest 0, scnHas [9, 0, 1, 2, 44, 1, 0, 0, 100], by decide +kernel⟩

/-- A state that meets the hypotheses of clause 15 of ScanRecords. -/
theorem test_ScanRecords_15 : ∃ (n : Fin 12) (u : State) (s : State), (s.rests n (.layerEnd n)) ∧ (s.atRest n = u) :=
  ⟨0, (scnHas [12]).atRest 0, scnHas [12], by decide +kernel⟩

/-- A state that meets the hypotheses of clause 16 of ScanRecords. -/
theorem test_ScanRecords_16 : ∃ (n : Fin 12) (u : State) (s : State), (s.rests n (.endRecord n)) ∧ ((s.atRest n).skips n = false) ∧ (s.atRest n = u) :=
  ⟨0, (scnHas [13]).atRest 0, scnHas [13], by decide +kernel⟩

/-- A state that meets the hypotheses of clause 17 of ScanRecords. -/
theorem test_ScanRecords_17 : ∃ (n : Fin 12) (block : Nat) (s : State), (s.hasBeam n ∧ s.storeUp) ∧ (s.flag F.SCN_CFG_SRC n = false) ∧ (tblGet [] (s.sc n).blocks block = []) :=
  ⟨0, 2, storeReady, by decide +kernel⟩

/-- A state that meets the hypotheses of clause 18 of ScanRecords. -/
theorem test_ScanRecords_18 : ∃ (n : Fin 12) (s : State), (s.beamRuns n) :=
  ⟨0, scnHas [], by decide +kernel⟩

/-- A state that meets the hypotheses of clause 1 of ScanMotionAndCommands. -/
theorem test_ScanMotionAndCommands_1 : ∃ (n : Fin 12) (dt : Nat) (u : State) (s : State), (s.beamRuns n) ∧ (s.beamThen n dt = u) ∧ (u.scnState n = scnRunning) ∧ (planEnd (u.sc n).plan < u.fine + 62500) :=
  ⟨0, 9, (scnHas []).beamThen 0 9, scnHas [], by decide +kernel⟩

/-- A state that meets the hypotheses of clause 2 of ScanMotionAndCommands. -/
theorem test_ScanMotionAndCommands_2 : ∃ (n : Fin 12) (dt : Nat) (u : State) (p : Pause) (s : State), (s.beamRuns n) ∧ (s.beamThen n dt = u) ∧ (u.pausedIn n p 1) :=
  ⟨0, 9, (scnPausedAs (aPause 1)).beamThen 0 9, aPause 1, scnPausedAs (aPause 1), by decide +kernel⟩

/-- A state that meets the hypotheses of clause 3 of ScanMotionAndCommands. -/
theorem test_ScanMotionAndCommands_3 : ∃ (n : Fin 12) (dt : Nat) (u : State) (p : Pause) (s : State), (s.beamRuns n) ∧ (s.beamThen n dt = u) ∧ (u.pausedIn n p 2) ∧ (p.hard = false) :=
  ⟨0, 9, ((scnPausedAs (aPause 2)).setFld F.SCN_STATUS_CAUSE_REEF 1 0).beamThen 0 9, aPause 2, (scnPausedAs (aPause 2)).setFld F.SCN_STATUS_CAUSE_REEF 1 0, by decide +kernel⟩

/-- A state that meets the hypotheses of clause 4 of ScanMotionAndCommands. -/
theorem test_ScanMotionAndCommands_4 : ∃ (n : Fin 12) (dt : Nat) (u : State) (p : Pause) (s : State), (s.beamRuns n) ∧ (s.beamThen n dt = u) ∧ (u.pausedIn n p 4) :=
  ⟨0, 9, (scnPausedAs (aPause 4)).beamThen 0 9, aPause 4, scnPausedAs (aPause 4), by decide +kernel⟩

/-- A state that meets the hypotheses of clause 5 of ScanMotionAndCommands. -/
theorem test_ScanMotionAndCommands_5 : ∃ (n : Fin 12) (dt : Nat) (u : State) (p : Pause) (s : State), (s.beamRuns n) ∧ (s.beamThen n dt = u) ∧ (u.pausedIn n p 5) ∧ (p.go = false ∧ p.grant.isSome) :=
  ⟨0, 9, (scnPausedAs { aPause 5 with grant := some 70 }).beamThen 0 9, { aPause 5 with grant := some 70 }, scnPausedAs { aPause 5 with grant := some 70 }, by decide +kernel⟩

/-- A state that meets the hypotheses of clause 6 of ScanMotionAndCommands. -/
theorem test_ScanMotionAndCommands_6 : ∃ (n : Fin 12) (dt : Nat) (u : State) (p : Pause) (s : State), (s.beamRuns n) ∧ (s.beamThen n dt = u) ∧ (u.pausedIn n p 5) ∧ (p.go) ∧ (p.further = false) :=
  ⟨0, 9, (scnPausedAs { aPause 5 with go := true }).beamThen 0 9, { aPause 5 with go := true }, scnPausedAs { aPause 5 with go := true }, by decide +kernel⟩

/-- A state that meets the hypotheses of clause 7 of ScanMotionAndCommands. -/
theorem test_ScanMotionAndCommands_7 : ∃ (n : Fin 12) (dt : Nat) (u : State) (p : Pause) (s : State), (s.beamRuns n) ∧ (s.beamThen n dt = u) ∧ (u.pausedIn n p 6) ∧ (p.further = false) :=
  ⟨0, 9, (scnPausedAs (aPause 6)).beamThen 0 9, aPause 6, scnPausedAs (aPause 6), by decide +kernel⟩

/-- A state that meets the hypotheses of clause 8 of ScanMotionAndCommands. -/
theorem test_ScanMotionAndCommands_8 : ∃ (n : Fin 12) (dt : Nat) (t0 : Nat) (s : State), (s.beamRuns n) ∧ (((s.beamThen n dt).sc n).holdUntil = some t0) :=
  ⟨0, 9, 70, (scnHas []).setSc 0 { holdUntil := some 70 }, by decide +kernel⟩

/-- A state that meets the hypotheses of clause 9 of ScanMotionAndCommands. -/
theorem test_ScanMotionAndCommands_9 : ∃ (n : Fin 12) (dt : Nat) (u : State) (s : State), (s.beamRuns n) ∧ (s.beamThen n (max dt (s.nextFrame n - s.fine)) = u) ∧ (u.domOn (shroudDom n)) ∧ (u.scnState n ≠ scnStopped ∧ u.scnState n ≠ scnDone) :=
  ⟨0, 9, (scnHas []).beamThen 0 (max 9 ((scnHas []).nextFrame 0 - (scnHas []).fine)), scnHas [], by decide +kernel⟩

/-- A state that meets the hypotheses of clause 10 of ScanMotionAndCommands. -/
theorem test_ScanMotionAndCommands_10 : ∃ (n : Fin 12) (dt : Nat) (groups : List (BitVec 5)) (u : State) (nibs : List (BitVec 4)) (s : State), (s.beamRuns n) ∧ (s.beamThen n dt = u) ∧ (u.domOn (shroudDom n) ∧ (u.sc n).synced) ∧ (goodFrame groups = some nibs) :=
  ⟨0, 9, aFrameGroups, ((scnHas []).setSc 0 { synced := true }).beamThen 0 9, aFrameNibs, (scnHas []).setSc 0 { synced := true }, by decide +kernel⟩

/-- A state that meets the hypotheses of clause 11 of ScanMotionAndCommands. -/
theorem test_ScanMotionAndCommands_11 : ∃ (n : Fin 12) (dt : Nat) (groups : List (BitVec 5)) (u : State) (s : State), (s.beamRuns n) ∧ (s.beamThen n dt = u) ∧ (u.domOn (shroudDom n) ∧ (u.sc n).synced) ∧ (goodFrame groups = none) :=
  ⟨0, 9, [], ((scnHas []).setSc 0 { synced := true }).beamThen 0 9, (scnHas []).setSc 0 { synced := true }, by decide +kernel⟩

/-- A state that meets the hypotheses of clause 12 of ScanMotionAndCommands. -/
theorem test_ScanMotionAndCommands_12 : ∃ (n : Fin 12) (s : State), (s.beamRuns n) ∧ ((s.sc n).synced) :=
  ⟨0, (scnHas []).setSc 0 { synced := true }, by decide +kernel⟩

/-- A state that meets the hypotheses of clause 13 of ScanMotionAndCommands. -/
theorem test_ScanMotionAndCommands_13 : ∃ (n : Fin 12) (dt : Nat) (u : State) (s : State), (s.beamRuns n) ∧ (s.flag F.SCN_STATUS_LINK_UP n) ∧ (s.beamThen n (max dt ((s.sc n).goodAt + fineOfUs (atLeast1 (s.fld F.SCN_HEAD_LOST_TIME n)) - s.fine)) = u) :=
  ⟨0, 9, (scnHas []).beamThen 0 (max 9 (((scnHas []).sc 0).goodAt + fineOfUs (atLeast1 ((scnHas []).fld F.SCN_HEAD_LOST_TIME 0)) - (scnHas []).fine)), scnHas [], by decide +kernel⟩

/-- A state that meets the hypotheses of clause 14 of ScanMotionAndCommands. -/
theorem test_ScanMotionAndCommands_14 : ∃ (dt : Nat) (u : State) (s : State), (s.ready) ∧ ((s.passTo dt s.beams.checkAt).refreshAll = u) :=
  ⟨9, ((scnHas []).passTo 9 (scnHas []).beams.checkAt).refreshAll, scnHas [], by decide +kernel⟩

/-- A state that meets the hypotheses of clause 15 of ScanMotionAndCommands. -/
theorem test_ScanMotionAndCommands_15 : ∃ (record : List Byte) (cx : Nat × Nat × Bool) (cy : Nat × Nat × Bool) (h : Nat) (step : Nat) (s : State), (s.calTakes record) ∧ (fieldLE record 1 1 = h) ∧ (atLeast1 (s.rd .SCN_GRID_STEP h).toNat = step) ∧ (axisCell (s.memRd (0x00410000 + 0x800 * h + 8 * fieldLE record 8 2)).toInt (s.sgn .SCN_GRID_X0 h) step = cx) ∧ (axisCell (s.memRd (0x00410000 + 0x800 * h + 8 * fieldLE record 8 2 + 4)).toInt (s.sgn .SCN_GRID_Y0 h) step = cy) :=
  ⟨calRecord, axisCell 0 ((up.setFld F.SCN_CFG_CAL_EN 1 0).sgn .SCN_GRID_X0 0) (atLeast1 ((up.setFld F.SCN_CFG_CAL_EN 1 0).rd .SCN_GRID_STEP 0).toNat), axisCell 0 ((up.setFld F.SCN_CFG_CAL_EN 1 0).sgn .SCN_GRID_Y0 0) (atLeast1 ((up.setFld F.SCN_CFG_CAL_EN 1 0).rd .SCN_GRID_STEP 0).toNat), 0, atLeast1 ((up.setFld F.SCN_CFG_CAL_EN 1 0).rd .SCN_GRID_STEP 0).toNat, up.setFld F.SCN_CFG_CAL_EN 1 0, by decide +kernel⟩

/-- A state that meets the hypotheses of clause 16 of ScanMotionAndCommands. -/
theorem test_ScanMotionAndCommands_16 : ∃ (record : List Byte) (s : State), (s.ready) ∧ (s.calTakes record = false) :=
  ⟨[], up, by decide +kernel⟩

/-- A state that meets the hypotheses of clause 17 of ScanMotionAndCommands. -/
theorem test_ScanMotionAndCommands_17 : ∃ (who : Requester) (n : Fin 12) (u : State) (s : State), (s.mayWrite who .SCN_CMD n) ∧ (s.refresh n = u) ∧ (u.flag F.SCN_CFG_ENABLE n) ∧ (u.scnState n = scnStopped ∨ u.scnState n = scnDone ∨ u.scnState n = scnHalted) :=
  ⟨.helm, 0, (scnIn scnStopped {}).refresh 0, scnIn scnStopped {}, by decide +kernel⟩

/-- A state that meets the hypotheses of clause 18 of ScanMotionAndCommands. -/
theorem test_ScanMotionAndCommands_18 : ∃ (who : Requester) (n : Fin 12) (u : State) (s : State), (s.mayWrite who .SCN_CMD n) ∧ (s.refresh n = u) ∧ (u.flag F.SCN_CFG_ENABLE n) ∧ (u.scnState n = scnRunning ∨ u.scnState n = scnWaiting ∨ u.scnState n = scnLayerWait ∨ u.scnState n = scnPaused) :=
  ⟨.helm, 0, (scnIn scnRunning {}).refresh 0, scnIn scnRunning {}, by decide +kernel⟩

/-- A state that meets the hypotheses of clause 19 of ScanMotionAndCommands. -/
theorem test_ScanMotionAndCommands_19 : ∃ (who : Requester) (n : Fin 12) (u : State) (s : State), (s.mayWrite who .SCN_CMD n) ∧ (s.refresh n = u) ∧ (u.flag F.SCN_CFG_ENABLE n) ∧ (u.scnState n = scnHalted) :=
  ⟨.helm, 0, (scnIn scnHalted {}).refresh 0, scnIn scnHalted {}, by decide +kernel⟩

/-- A state that meets the hypotheses of clause 20 of ScanMotionAndCommands. -/
theorem test_ScanMotionAndCommands_20 : ∃ (who : Requester) (n : Fin 12) (u : State) (s : State), (s.mayWrite who .SCN_CMD n) ∧ (s.refresh n = u) ∧ (u.flag F.SCN_CFG_ENABLE n) ∧ (u.scnState n = scnHalted) ∧ (u.scnRefused n = false) :=
  ⟨.helm, 0, (scnIn scnHalted {}).refresh 0, scnIn scnHalted {}, by decide +kernel⟩

/-- A state that meets the hypotheses of clause 21 of ScanMotionAndCommands. -/
theorem test_ScanMotionAndCommands_21 : ∃ (who : Requester) (n : Fin 12) (u : State) (s : State), (s.mayWrite who .SCN_CMD n) ∧ (s.refresh n = u) ∧ (u.flag F.SCN_CFG_ENABLE n) ∧ (u.scnState n = scnHalted) ∧ (u.scnRefused n = false) :=
  ⟨.helm, 0, (scnIn scnHalted {}).refresh 0, scnIn scnHalted {}, by decide +kernel⟩

/-- A state that meets the hypotheses of clause 22 of ScanMotionAndCommands. -/
theorem test_ScanMotionAndCommands_22 : ∃ (who : Requester) (n : Fin 12) (u : State) (s : State), (s.mayRead who 6 n 1) ∧ (s.refresh n = u) :=
  ⟨.helm, 0, (scnHas []).refresh 0, scnHas [], by decide +kernel⟩

/-- A state that meets the hypotheses of clause 1 of LightChannels. -/
theorem test_LightChannels_1 : ∃ (n : Fin 8) (dt : Nat) (t0 : Nat) (rest : List Nat) (u : State) (s : State), (s.ready) ∧ ((s.lm n).strobes = t0 :: rest) ∧ (s.lumThen n dt t0 = u) ∧ (u.lumActs n ∧ u.lumChMode n = 2) :=
  ⟨0, 0, 3000, [9000], (lumAt 2 0x8000 { strobes := [3000, 9000] }).lumThen 0 0 3000, lumAt 2 0x8000 { strobes := [3000, 9000] }, by decide +kernel⟩

/-- A state that meets the hypotheses of clause 2 of LightChannels. -/
theorem test_LightChannels_2 : ∃ (n : Fin 8) (dt : Nat) (e : Nat) (u : State) (s : State), (s.ready) ∧ ((s.lm n).endAt = some e) ∧ (s.lumThen n dt e = u) :=
  ⟨0, 0, 3000, (lumLit 2 0x8000 { endAt := some 3000 }).lumThen 0 0 3000, lumLit 2 0x8000 { endAt := some 3000 }, by decide +kernel⟩

/-- A state that meets the hypotheses of clause 3 of LightChannels. -/
theorem test_LightChannels_3 : ∃ (n : Fin 8) (dt : Nat) (on : Nat) (want : Int) (u : State) (s : State), (s.ready) ∧ (s.lumThen n dt (s.dimDue n) = u) ∧ (u.lumLitTime n ∧ u.lumFaulted n = false) ∧ (0 < u.lumLevel n ∧ u.lumLevel n < lumKnee) ∧ ((u.lumLevel n * u.dimPeriod n : Nat) + (u.lm n).carry = want) ∧ ((if ((50 * lumKnee : Nat) : Int) ≤ want then min (u.dimPeriod n) ((want * 2 + lumKnee) / (2 * lumKnee)).toNat else 0) = on) :=
  ⟨0, 0, 1250, 8192500, ((lumAt 1 0x0CCD {}).setFld F.LUM_CH_CFG_DIM_FREQ 500 0).lumThen 0 0 (((lumAt 1 0x0CCD {}).setFld F.LUM_CH_CFG_DIM_FREQ 500 0).dimDue 0), (lumAt 1 0x0CCD {}).setFld F.LUM_CH_CFG_DIM_FREQ 500 0, by decide +kernel⟩

/-- A state that meets the hypotheses of clause 4 of LightChannels. -/
theorem test_LightChannels_4 : ∃ (n : Fin 8) (s : State), (s.ready) ∧ (s.flag F.LUM_CH_STATUS_LIT n ∧ (s.lm n).judged = false ∧ (s.lm n).gateEnd = none) ∧ (s.lumChMode n ≠ 2) :=
  ⟨0, lumLit 1 0x8000 {}, by decide +kernel⟩

/-- A state that meets the hypotheses of clause 5 of LightChannels. -/
theorem test_LightChannels_5 : ∃ (n : Fin 8) (dt : Nat) (u : State) (s : State), (s.ready) ∧ (s.lumThen n dt (s.faultDue n) = u) ∧ (u.mode ≠ modeOff ∧ u.mode ≠ modeLoad ∧ u.lumOn n) :=
  ⟨0, 0, (lumLit 1 0x8000 {}).lumThen 0 0 ((lumLit 1 0x8000 {}).faultDue 0), lumLit 1 0x8000 {}, by decide +kernel⟩

/-- A state that meets the hypotheses of clause 6 of LightChannels. -/
theorem test_LightChannels_6 : ∃ (who : Requester) (n : Fin 8) (s : State), (s.mayWrite who .LUM_CH_FAULT n) :=
  ⟨.helm, 0, (lumAt 1 0x8000 {}).wr .LUM_CH_FAULT 7 0, by decide +kernel⟩

/-- A state that meets the hypotheses of clause 7 of LightChannels. -/
theorem test_LightChannels_7 : ∃ (n : Fin 8) (s : State), (s.ready) ∧ (s.lumActs n ∧ (s.lm n).due = none) :=
  ⟨0, lumAt 1 0x8000 {}, by decide +kernel⟩

/-- A state that meets the hypotheses of clause 8 of LightChannels. -/
theorem test_LightChannels_8 : ∃ (n : Fin 8) (dt : Nat) (t0 : Nat) (s : State), (s.ready) ∧ (s.lumActs n ∧ s.lumFaulted n = false ∧ (s.lm n).due.isSome ∧ (s.lm n).diagAt = none) ∧ ((if s.lumChMode n = 1 ∨ s.fld F.LUM_CH_EXP_EXP_LEN n = 0 then some (s.fine + dt) else gapStart (s.fine + dt) (s.lm n).windows) = some t0) :=
  ⟨0, 0, 2625, (lumAt 2 0x8000 { due := some 0, windows := [(1000, 2000)] }).setFld F.LUM_CH_EXP_EXP_LEN 80 0, by decide +kernel⟩

/-- A state that meets the hypotheses of clause 9 of LightChannels. -/
theorem test_LightChannels_9 : ∃ (n : Fin 8) (d : Nat) (s : State), (s.ready) ∧ ((s.lm n).due = some d ∧ (s.lm n).undiag = false) :=
  ⟨0, 7, lumAt 1 0x8000 { due := some 7 }, by decide +kernel⟩

/-- A state that meets the hypotheses of clause 10 of LightChannels. -/
theorem test_LightChannels_10 : ∃ (who : Requester) (n : Fin 8) (s : State), (s.mayWrite who .LUM_CH_CMD n) ∧ (s.mode ≠ modeOff ∧ s.mode ≠ modeLoad) :=
  ⟨.helm, 0, lumAt 0 0x8000 {}, by decide +kernel⟩

/-- A state that meets the hypotheses of clause 11 of LightChannels. -/
theorem test_LightChannels_11 : ∃ (s : State), (s.ready) ∧ (s.mode = modeIdle) :=
  ⟨(inMode modeIdle).setFld F.LUM_CH_CFG_VF_EN 1 0, by decide +kernel⟩

/-- A state that meets the hypotheses of clause 12 of LightChannels. -/
theorem test_LightChannels_12 : ∃ (n : Fin 8) (t0 : Nat) (k : Nat) (uv : BitVec 22) (s : State), ((s.lm n).vfAt = some t0) ∧ (s.vString n uv.toNat = k) :=
  ⟨0, 7, 100, 1000000, (lumAt 0 0 { vfAt := some 7 }).wr .LUM_CH_SCALE 65536 0, by decide +kernel⟩

/-- A state that meets the hypotheses of clause 1 of ProjectorAndPatterns. -/
theorem test_ProjectorAndPatterns_1 : ∃ (who : Requester) (s : State), (s.mayWrite who .LUM_PROJ_CMD 0) :=
  ⟨.helm, projAt {}, by decide +kernel⟩

/-- A state that meets the hypotheses of clause 2 of ProjectorAndPatterns. -/
theorem test_ProjectorAndPatterns_2 : ∃ (s : State), (s.scanning ∧ s.proj.line = none) ∧ (s.flag F.LUM_PROJ_CFG_SYNC_EN → s.proj.sync) :=
  ⟨(projAt {}).setFld F.LUM_PROJ_STATUS_SWAP_PENDING 1, by decide +kernel⟩

/-- A state that meets the hypotheses of clause 3 of ProjectorAndPatterns. -/
theorem test_ProjectorAndPatterns_3 : ∃ (l : Nat) (s : State), (s.proj.line = some l) ∧ (s.scanning) :=
  ⟨15, projAt { line := some 15 }, by decide +kernel⟩

/-- A state that meets the hypotheses of clause 4 of ProjectorAndPatterns. -/
theorem test_ProjectorAndPatterns_4 : ∃ (rising : Bool) (s : State), (s.scanning) ∧ (s.flag F.LUM_PROJ_CFG_SYNC_EN ∧ rising ≠ s.flag F.LUM_PROJ_CFG_SYNC_POL) :=
  ⟨true, (projAt {}).setFld F.LUM_PROJ_CFG_SYNC_EN 1, by decide +kernel⟩

/-- A state that meets the hypotheses of clause 5 of ProjectorAndPatterns. -/
theorem test_ProjectorAndPatterns_5 : ∃ (who : Requester) (s : State), (s.mayWrite who .LUM_PROJ_CFG 0) :=
  ⟨.helm, projAt {}, by decide +kernel⟩

/-- A state that meets the hypotheses of clause 6 of ProjectorAndPatterns. -/
theorem test_ProjectorAndPatterns_6 : ∃ (who : Requester) (s : State), (s.mayWrite who .LUM_PROJ_CFG 0) :=
  ⟨.helm, projAt {}, by decide +kernel⟩

/-- A state that meets the hypotheses of clause 7 of ProjectorAndPatterns. -/
theorem test_ProjectorAndPatterns_7 : ∃ (who : Requester) (s : State), (s.mayWrite who .LUM_PROJ_CMD 0) ∧ (s.mode ≠ modeOff ∧ s.mode ≠ modeLoad) ∧ (s.flag F.LUM_PROJ_STATUS_TEST_RUN = false ∧ s.flag F.LUM_PROJ_CFG_ENABLE = false ∧ s.domOn 62) :=
  ⟨.helm, up.setFld F.PWR_MODE_STATUS_MODE modeIdle, by decide +kernel⟩

/-- A state that meets the hypotheses of clause 8 of ProjectorAndPatterns. -/
theorem test_ProjectorAndPatterns_8 : ∃ (k : Nat) (i : Nat) (s : State), (s.flag F.LUM_PROJ_STATUS_TEST_RUN) ∧ (s.proj.pix = k ∧ 96 * (k / s.pCols) + k % s.pCols = i) :=
  ⟨127, 1447, (((projAt { pix := 127 }).setFld F.LUM_PROJ_CFG_ENABLE 0).setFld F.LUM_PROJ_STATUS_TEST_RUN 1).setFld F.LUM_PROJ_TEST_PIX_I_MIN 5, by decide +kernel⟩

/-- A state that meets the hypotheses of clause 9 of ProjectorAndPatterns. -/
theorem test_ProjectorAndPatterns_9 : ∃ (s : State), (s.lseqIssues .done) :=
  ⟨lseqHolds 0, by decide +kernel⟩

/-- A state that meets the hypotheses of clause 10 of ProjectorAndPatterns. -/
theorem test_ProjectorAndPatterns_10 : ∃ (s : State), (s.lseqIssues .reserved) :=
  ⟨lseqHolds 0xF0000000, by decide +kernel⟩

/-- A state that meets the hypotheses of clause 11 of ProjectorAndPatterns. -/
theorem test_ProjectorAndPatterns_11 : ∃ (n : Fin 8) (l : BitVec 16) (s : State), (s.lseqIssues (.level n l)) :=
  ⟨7, 0xFFFF, lseqHolds 0x1700FFFF, by decide +kernel⟩

/-- A state that meets the hypotheses of clause 12 of ProjectorAndPatterns. -/
theorem test_ProjectorAndPatterns_12 : ∃ (mask : BitVec 8) (s : State), (s.lseqIssues (.strobe mask)) :=
  ⟨1, lseqHolds 0x20000001, by decide +kernel⟩

/-- A state that meets the hypotheses of clause 13 of ProjectorAndPatterns. -/
theorem test_ProjectorAndPatterns_13 : ∃ (slot : Fin 16) (s : State), (s.lseqIssues (.loadpat slot)) :=
  ⟨15, lseqHolds 0x3000000F { pc := 1023 }, by decide +kernel⟩

/-- A state that meets the hypotheses of clause 14 of ProjectorAndPatterns. -/
theorem test_ProjectorAndPatterns_14 : ∃ (slot : Nat) (t0 : Nat) (s : State), (s.proj.wait = .copy slot t0 ∧ slot < 16) ∧ (s.flag F.LUM_PROJ_STATUS_SWAP_PENDING = false) :=
  ⟨15, 7, lseqAt { wait := .copy 15 7 }, by decide +kernel⟩

/-- A state that meets the hypotheses of clause 15 of ProjectorAndPatterns. -/
theorem test_ProjectorAndPatterns_15 : ∃ (w : Bool) (s : State), (s.lseqIssues (.swap w)) :=
  ⟨true, lseqHolds 0x40000001, by decide +kernel⟩

/-- A state that meets the hypotheses of clause 16 of ProjectorAndPatterns. -/
theorem test_ProjectorAndPatterns_16 : ∃ (task : Fin 4) (s : State), (s.lseqIssues (.waithal task)) :=
  ⟨3, lseqHolds 0x50000003 { pend := [(3, some event)] }, by decide +kernel⟩

/-- A state that meets the hypotheses of clause 17 of ProjectorAndPatterns. -/
theorem test_ProjectorAndPatterns_17 : ∃ (us : BitVec 24) (s : State), (s.lseqIssues (.waitus us)) :=
  ⟨9, lseqHolds 0x60000009, by decide +kernel⟩

/-- A state that meets the hypotheses of clause 18 of ProjectorAndPatterns. -/
theorem test_ProjectorAndPatterns_18 : ∃ (d : Nat) (s : State), (s.proj.wait = .until d) :=
  ⟨9, lseqAt { wait := .until 9 }, by decide +kernel⟩

/-- A state that meets the hypotheses of clause 19 of ProjectorAndPatterns. -/
theorem test_ProjectorAndPatterns_19 : ∃ (code : BitVec 8) (s : State), (s.lseqIssues (.event code)) ∧ (producerPresent s.variant 0x1C8 ∧ s.flag F.HAL_PROD_BIND_EN 0x1C8) :=
  ⟨9, (lseqHolds 0x70000009).setFld F.HAL_PROD_BIND_EN 1 0x1C8, by decide +kernel⟩

/-- A state that meets the hypotheses of clause 20 of ProjectorAndPatterns. -/
theorem test_ProjectorAndPatterns_20 : ∃ (body : BitVec 10) (count : BitVec 16) (s : State), (s.lseqIssues (.loop body count)) :=
  ⟨3, 2, lseqHolds 0x80030002, by decide +kernel⟩

/-- A state that meets the hypotheses of clause 21 of ProjectorAndPatterns. -/
theorem test_ProjectorAndPatterns_21 : ∃ (word : Fin 1024) (s : State), (s.lseqIssues (.jump word)) :=
  ⟨1023, lseqHolds 0x900003FF, by decide +kernel⟩

end Sys2Proof.Tests
end

/-! # Scope: the step without a command, absent units, register access, frames (O2, O6, O7, O35, O37, O38) -/

namespace Sys2Proof.Machine
section
set_option Elab.async false

/-! ## The step without a command -/

/-- A step with no command changes, beside the time, only what the helm takes in and what control requests start. -/
theorem State.idle_changes_advance (s : State) :
    Changes [.outbox, .freeCtr, .lnk, .port, .cap, .hal, .helm] [.HLM_STATUS, .HLM_JOURNAL_USED] (s.advance 1) s.idle :=
  ((State.helmTakes_changes _).mono (by decide) (by decide)).andThen (State.ctlStartAll_changes _) (by decide) (by decide)

/-- Settles O2: the idle step advances the time, and the helm and the control requests leave the queue and the
lanes alone. -/
theorem stepIdles : Obligations.StepIdles := by
  unfold Obligations.StepIdles
  intro s hq
  have hstep : step s = .next s.idle := by unfold step; rw [hq]
  have hidle := s.idle_changes_advance
  have hfine : s.idle.fine = s.fine + 1 := hidle.parts .fine (by decide)
  have hpending : s.idle.pending = s.pending := hidle.parts .pending (by decide)
  exact ⟨s.idle, hstep, rfl, hfine, hpending.trans hq, fun n => hidle.fld (f := F.LNK_STATUS_STATE) (by decide) n 0⟩

/-! ## The record of a case in a halyard register (R397) -/

/-- Only the register of the case is written. -/
theorem State.recordHal_eq_wr (s : State) (r : Reg) (h : Nat) : ∃ v, s.recordHal r h = s.wr r v := by
  unfold State.recordHal
  split <;> exact ⟨_, rfl⟩

/-- The first case since SET was cleared gives the halyard and sets SET. -/
theorem State.rd_recordHal_first {s : State} {r : Reg} {h : Nat} (hset : getBits (s.rd r) 8 1 = 0) (hh : h < 256) :
    getBits ((s.recordHal r h).rd r) 0 8 = h ∧ getBits ((s.recordHal r h).rd r) 8 1 = 1 := by
  rw [State.recordHal, if_pos hset, State.rd_wr_self]
  refine ⟨?_, getBits_putBits_self _ _ (by decide)⟩
  rw [getBits_putBits_ne _ _ (by decide) (by decide), getBits_putBits_self _ _ (by decide)]
  exact Nat.mod_eq_of_lt hh

/-- A further case keeps the halyard and sets MORE. -/
theorem State.rd_recordHal_again {s : State} {r : Reg} {h : Nat} (hset : getBits (s.rd r) 8 1 ≠ 0) :
    getBits ((s.recordHal r h).rd r) 0 8 = getBits (s.rd r) 0 8 ∧ getBits ((s.recordHal r h).rd r) 9 1 = 1 := by
  rw [State.recordHal, if_neg hset, State.rd_wr_self]
  exact ⟨getBits_putBits_ne _ _ (by decide) (by decide), getBits_putBits_self _ _ (by decide)⟩

/-! ## An event whose task is in an absent unit (R6, R381, R384) -/

/-- Such an event is dropped and recorded. -/
theorem State.route_orphan {s : State} {h k : Nat} {e : HEv} {second : Bool} (hgate : e.gated = false)
    (hhops : e.hops ≤ s.hopLimit) (hcons : s.consumer h = some (k, second)) (habs : taskPresent s.variant k = false) :
    s.route h e = (none, (s.recordHal .HAL_ORPHAN h).bump .HAL_CNT_ORPHAN) := by
  simp [State.route, hgate, Nat.not_lt.2 hhops, hcons, habs]

/-- The state in which the oldest event of halyard `h` has arrived at its task and left its queue, with `rest` behind it. -/
def State.dequeued (s : State) (h : Nat) (rest : List HEv) : State :=
  { s with fine := max s.fine ((s.arrival h + 3) / 4),
           hal := { s.hal with queues := tblSet [] s.hal.queues h rest,
                               last := tblSet 0 s.hal.last h (max (s.arrival h) (4 * s.fine)) } }

/-- The oldest event of a halyard arrives and goes on its way. -/
theorem State.nextEvent_awaitArrival {s : State} {h : Nat} {e : HEv} {rest : List HEv}
    (hq : tblGet [] s.hal.queues h = e :: rest) : (s.awaitArrival h).nextEvent h = (s.dequeued h rest).route h e := by
  simp only [State.awaitArrival, State.nextEvent, State.popEvent, hq, List.isEmpty_cons, Bool.false_eq_true, if_false]
  rfl

/-- The delivery of such an event, alone in its clock. -/
theorem exec_eventDelivery_orphan {s : State} {h : Fin 256} {e : HEv} {rest : List HEv} {k : Nat} {second : Bool}
    (met : BitVec 16) (hready : s.ready) (hq : tblGet [] s.hal.queues h.val = e :: rest) (hgate : e.gated = false)
    (hhops : e.hops ≤ s.hopLimit) (hcons : s.consumer h = some (k, second)) (habs : taskPresent s.variant k = false) :
    exec (.eventDelivery h none met) s = .next (((s.dequeued h rest).recordHal .HAL_ORPHAN h).bump .HAL_CNT_ORPHAN) := by
  have hroute := State.route_orphan (s := s.dequeued h rest) hgate hhops hcons habs
  show execEventDelivery h none met s = _
  simp only [execEventDelivery, hready, State.nextEvent_awaitArrival hq, hroute]
  rfl

/-- A producer of an absent unit publishes nothing. -/
theorem State.publishHops_absent {s : State} {p : Nat} (code : Nat) (cause : BitVec 48) (hops : Nat)
    (habs : producerPresent s.variant p = false) : s.publishHops p code cause hops = s := by
  simp [State.publishHops, habs]

/-- Settles O37: the event is dropped and recorded in HAL_ORPHAN, which keeps its first halyard and sets MORE when a
further case comes. -/
theorem absentConsumer : Obligations.AbsentConsumer := by
  unfold Obligations.AbsentConsumer
  refine ⟨fun h e rest k second met s hready hq hgate hhops hcons habs =>
    ⟨_, exec_eventDelivery_orphan met hready hq hgate hhops hcons habs, ?_⟩,
    fun s p code cause hops habs => State.publishHops_absent code cause hops habs⟩
  have hfld (w : State) {f : Fld} (hf : f.reg = .HAL_ORPHAN) : (w.bump .HAL_CNT_ORPHAN).fld f = w.fld f :=
    State.fld_bump_reg _ _ _ _ _ (by rw [hf]; decide)
  obtain ⟨v, hrec⟩ := (s.dequeued h rest).recordHal_eq_wr .HAL_ORPHAN h
  refine ⟨by rw [hrec]; rfl, by rw [hrec]; rfl, by rw [hrec]; rfl, by rw [hrec]; rfl, fun hset => ?_, fun hset => ?_, ?_⟩
  · obtain ⟨hhal, hnow⟩ := (s.dequeued h rest).rd_recordHal_first (r := .HAL_ORPHAN) (bne_eq_false_iff_eq.1 hset) h.isLt
    exact ⟨(hfld _ rfl).trans hhal, bne_iff_ne.2 (by rw [hfld _ rfl]; exact ne_of_eq_of_ne hnow Nat.one_ne_zero)⟩
  · obtain ⟨hhal, hmore⟩ := (s.dequeued h rest).rd_recordHal_again (r := .HAL_ORPHAN) (h := h) (bne_iff_ne.1 hset)
    exact ⟨(hfld _ rfl).trans hhal, bne_iff_ne.2 (by rw [hfld _ rfl]; exact ne_of_eq_of_ne hmore Nat.one_ne_zero)⟩
  · intro r i j hr hc
    rw [State.rd_bump_reg _ _ _ _ _ hc, hrec, State.rd_wr_reg _ _ _ _ _ _ hr]
    rfl

/-! ## A read that brings a register up to date may itself emit -/

/-- The state after READY in which channel 0 of the lighting is still lit although its mode forbids light: the light is
gated when LUM_CH_STATUS is next brought up to date. -/
def staleLight : State := (State.reset.setFld F.PCE_STATUS_READY 1).setFld F.LUM_CH_STATUS_LIT 1 0

/-- Refutes O38: a unit that reads LUM_CH_STATUS of channel 0 in `staleLight` makes the gate of the channel fall, and the
edge is emitted before the reply, so the reply is not the only thing the read emits. -/
theorem not_registerAccess : ¬ Obligations.RegisterAccess := by
  unfold Obligations.RegisterAccess
  rintro ⟨-, -, -, hread, -, -⟩
  obtain ⟨t, hexec, hemits, -⟩ := hread .unit 0x100004 .LUM_CH_STATUS 0 0 [] staleLight rfl (by decide +kernel) (by decide) (by decide)
    (by decide +kernel) (by decide +kernel)
  have hone : t.outbox.length = 1 := by rw [hemits]; rfl
  have htwo : (resState staleLight (exec (.readClear .unit 0x100004 ⟨.clean, []⟩) staleLight)).outbox.length = 2 := by
    decide +kernel
  rw [hexec, resState_next, hone] at htwo
  exact absurd htwo (by decide)

/-! ## Absent instances (R5) -/

/-- An address that names a register names one of its instances. -/
theorem Reg.instAt_lt {r : Reg} {a i j : Nat} (h : r.instAt a = some (i, j)) : i < max 1 r.info.n1 := by
  unfold Reg.instAt at h
  simp only at h
  split at h
  · cases h
  · obtain ⟨k, -, hk⟩ := List.mem_filterMap.1 (List.mem_of_head? h)
    split at hk
    · split at hk
      · split at hk
        · cases hk; omega
        · cases hk
      · split at hk
        next hlt =>
          cases hk
          simp only [Bool.and_eq_true, decide_eq_true_eq] at hlt
          omega
        next => cases hk
    · cases hk

theorem regIn_lt {a i j : Nat} {r : Reg} : ∀ {rs : List Reg}, regIn a rs = some (r, i, j) → i < max 1 r.info.n1
  | [], h => by cases h
  | x :: rest, h => by
    unfold regIn at h
    split at h
    next hx => cases h; exact Reg.instAt_lt hx
    next => exact regIn_lt h

theorem regIn_of_regAt {a : Nat} {x : Reg × Nat × Nat} (h : regAt a = some x) : regIn a Reg.all = some x := by
  unfold regAt at h
  split at h
  case h_1 hin | h_2 hin | h_3 hin =>
    split at h
    · exact hin.trans h
    · cases h
  case h_4 => exact h

/-! ### The gates where the register is absent -/

theorem State.writeGate_absent {s : State} {who : Requester} {r : Reg} {i : Nat} (k : State)
    (habs : regPresent s.variant r i = false) (hf : s.flrBars who = false) : s.writeGate who r i k = s :=
  State.writeGate_closed k (by rw [habs, Bool.and_false]) hf

theorem State.readGate_absent {s : State} {who : Requester} {unit i : Nat} (lvl : Nat) (k : State)
    (habs : unitPresent s.variant unit i = false) (hf : s.flrBars who = false) :
    s.readGate who unit i lvl k = s.emit (.reply 0) := by
  simp [State.readGate, State.flrGate_open _ _ hf, habs]

/-- An absent register is one of a unit whose instances depend on the variant. -/
theorem unitPresent_of_regPresent_false {v : Variant} {r : Reg} {i : Nat} (habs : regPresent v r i = false) :
    unitPresent v r.info.unit i = false := by
  unfold regPresent at habs
  split at habs
  · cases habs
  · exact habs

theorem Variant.lanes_ge (v : Variant) : 32 ≤ v.lanes := by cases v <;> decide

/-- The capture unit is present for every index below 32, in every variant. -/
theorem regPresent_lt_32 {v : Variant} {r : Reg} {i : Nat} (hunit : r.info.unit = 1) (hi : i < 32) : regPresent v r i = true := by
  have hl := v.lanes_ge
  simp only [regPresent, hunit, unitPresent]
  simpa using by omega

/-! ### Writes -/

theorem State.shtCmd_absent {s : State} {who : Requester} {i : Nat} (v : Word) (hi : i < 12)
    (habs : regPresent s.variant .SHT_CMD i = false) (hf : s.flrBars who = false) : s.shtCmd who i v = s := by
  have hn : (Fin.ofNat 12 i).val = i := Nat.mod_eq_of_lt hi
  have hgate (k : State) : s.writeGate who .SHT_CMD i k = s := State.writeGate_absent k habs hf
  simp only [State.shtCmd, State.onBit, execShtStart, execShtStop, execResetState, hn, resState_next]
  simp only [hgate, ite_self]

theorem State.bchFault_absent {s : State} {who : Requester} {i : Nat} (v : Word) (hi : i < 12)
    (habs : regPresent s.variant .BCH_FAULT i = false) (hf : s.flrBars who = false) : s.bchFault who i v = s := by
  have hn : (Fin.ofNat 12 i).val = i := Nat.mod_eq_of_lt hi
  have hgate (k : State) : s.writeGate who .BCH_FAULT i k = s := State.writeGate_absent k habs hf
  simp only [State.bchFault, execCutClear, hn, resState_next, hgate]

theorem State.scnCmd_absent {s : State} {who : Requester} {i : Nat} (k : State → State)
    (habs : regPresent s.variant .SCN_CMD i = false) (hf : s.flrBars who = false) : s.scnCmd who i k = s :=
  State.writeGate_absent _ habs hf

theorem State.scnRestart_absent {s : State} {who : Requester} {i : Nat} (k : State → State)
    (habs : regPresent s.variant .SCN_CMD i = false) (hf : s.flrBars who = false) : s.scnRestart who i k = s :=
  State.scnCmd_absent _ habs hf

theorem State.scnCommand_absent {s : State} {who : Requester} {i : Nat} (v : Word) (hi : i < 12)
    (habs : regPresent s.variant .SCN_CMD i = false) (hf : s.flrBars who = false) : s.scnCommand who i v = s := by
  have hn : (Fin.ofNat 12 i).val = i := Nat.mod_eq_of_lt hi
  have hcmd (k : State → State) : s.scnCmd who i k = s := State.scnCmd_absent k habs hf
  have hrestart (k : State → State) : s.scnRestart who i k = s := State.scnRestart_absent k habs hf
  simp only [State.scnCommand, execScnStop, execScnStart, execRestartAtStop, execRestartNextRecord, execRestartNextLayer,
    hn, resState_next, hcmd, hrestart]
  split_ifs
  · rfl
  · rfl
  · split <;> rfl
  · rfl

/-- A write of an absent register changes nothing. -/
theorem State.regWrite_absent {s : State} {who : Requester} {r : Reg} {i : Nat} (j : Nat) (v : Word)
    (hi : i < max 1 r.info.n1) (habs : regPresent s.variant r i = false) (hf : s.flrBars who = false) :
    s.regWrite who r i j v = s := by
  have hgate (k : State) : s.writeGate who r i k = s := State.writeGate_absent k habs hf
  unfold State.regWrite
  split
  case h_1 | h_2 | h_3 | h_4 | h_7 | h_8 | h_41 => exact hgate _
  case h_5 | h_6 | h_9 => 
    rw [regPresent_lt_32 rfl (hi.trans (by decide))] at habs
    cases habs
  case h_12 => exact State.shtCmd_absent v hi habs hf
  case h_13 => exact State.bchFault_absent v hi habs hf
  case h_14 =>
    obtain rfl : i = 0 := Nat.lt_one_iff.1 hi
    simp only [State.onBit, execPermitFaultClear, resState_next, hgate, ite_self]
  case h_15 => exact State.scnCommand_absent v hi habs hf
  all_goals cases habs

/-! ### Reads -/

/-- An absent register has nothing to bring up to date. -/
theorem State.upToDate_absent {s : State} {r : Reg} {i : Nat} (habs : regPresent s.variant r i = false) : s.upToDate r i = s := by
  have hunit := unitPresent_of_regPresent_false habs
  have hne {q : Reg} (hq : ∀ v, regPresent v q i = true) : r ≠ q := by
    rintro rfl
    rw [hq] at habs
    cases habs
  have hbeam (h6 : r.info.unit = 6) : s.hasBeam i = false := by rw [h6] at hunit; exact hunit
  rw [State.upToDate, if_neg (hne fun _ => rfl), if_neg (hne fun _ => rfl), if_neg (hne fun _ => rfl), if_neg (hne fun _ => rfl),
    if_neg (hne fun _ => rfl)]
  split
  · rfl
  · split
    next h6 => rw [hbeam h6]; rfl
    next => rfl

theorem State.plainRead_absent {s : State} {who : Requester} {r : Reg} {i : Nat} (j : Nat)
    (habs : regPresent s.variant r i = false) : s.plainRead who r i j = s.emit (.reply 0) := by
  simp [State.plainRead, State.upToDate_absent habs, State.readAt, habs]

/-- A read of an absent register returns zero. -/
theorem State.regRead_absent {s : State} {who : Requester} {r : Reg} {i : Nat} (j : Nat)
    (hi : i < max 1 r.info.n1) (habs : regPresent s.variant r i = false) (hf : s.flrBars who = false) :
    s.regRead who r i j = s.emit (.reply 0) := by
  have hgate (n lvl : Nat) (k : State) (hn : n = i) : s.readGate who r.info.unit n lvl k = s.emit (.reply 0) :=
    State.readGate_absent lvl k (hn ▸ unitPresent_of_regPresent_false habs) hf
  unfold State.regRead
  split
  case h_1 | h_2 | h_3 | h_4 => exact hgate _ 1 _ (Nat.mod_eq_of_lt hi)
  case h_10 => exact State.plainRead_absent j habs
  all_goals cases habs

/-! ### The way to the register -/

/-- A wake of the link notes the time, and may set the link's state to L0. -/
theorem State.linkWake_eq (s : State) :
    s.linkWake = { s with pce := { s.pce with activeAt := s.fine } } ∨
    s.linkWake = ({ s with pce := { s.pce with activeAt := s.fine } } : State).setFld F.PCE_STATUS_LINK_PM 0 := by
  unfold State.linkWake
  split
  · exact .inr rfl
  · exact .inl rfl

theorem State.flrActive_linkWake (s : State) : s.linkWake.flrActive = s.flrActive := by
  obtain h | h := s.linkWake_eq
  · rw [h]; rfl
  · rw [h, State.flrActive, State.flag, State.fld_setFld_below _ _ _ _ _ _ (by decide) (by decide)]; rfl

theorem State.flrBars_heard (s : State) (who : Requester) : (s.heard who).flrBars who = s.flrBars who := by
  unfold State.heard
  split
  · rw [State.flrBars, State.flrBars, s.flrActive_linkWake]
  · rfl

theorem State.variant_heard (s : State) (who : Requester) : (s.heard who).variant = s.variant := by
  unfold State.heard
  split
  · exact s.linkWake_changes.parts .variant (by decide)
  · rfl

/-- A host access that comes as a clean TLP wakes the link, and no FLR keeps it out. -/
theorem State.inbound_clean {s : State} {hd : List Word} {posted : Bool} (k : State → State) (hf : s.flrBars .mailbox = false) :
    s.inbound ⟨.clean, hd⟩ (fun s => s.memReq posted hd (k s)) = k (s.heard .mailbox) := by
  show s.linkWake.memReq posted hd (k s.linkWake) = k s.linkWake
  have hflr : s.linkWake.flrActive = false := s.flrActive_linkWake.trans hf
  rw [State.memReq, hflr, if_neg Bool.false_ne_true]

/-- A write that no FLR keeps out acts in the state that has heard it. -/
theorem exec_registerWrite_clean {s : State} {who : Requester} (a : Nat) (v : Word) (hd : List Word) (hf : s.flrBars who = false) :
    exec (.registerWrite who a v ⟨.clean, hd⟩) s = .next ((s.heard who).busWrite who a v) := by
  show execRegisterWrite who a v ⟨.clean, hd⟩ s = _
  unfold execRegisterWrite
  split
  next hw =>
    subst hw
    exact congrArg _ (State.inbound_clean (fun s => s.busWrite .mailbox a v) hf)
  next hw => rw [State.heard, if_neg hw]

/-- A read that no FLR keeps out acts in the state that has heard it. -/
theorem exec_readClear_clean {s : State} {who : Requester} (a : Nat) (hd : List Word) (hf : s.flrBars who = false) :
    exec (.readClear who a ⟨.clean, hd⟩) s = .next ((s.heard who).busRead who a) := by
  show execReadClear who a ⟨.clean, hd⟩ s = _
  unfold execReadClear
  split
  next hw =>
    subst hw
    exact congrArg _ (State.inbound_clean (fun s => s.busRead .mailbox a) hf)
  next hw => rw [State.heard, if_neg hw]

/-- A write at the address of a register is one of that register. -/
theorem State.busWrite_reg {s : State} {who : Requester} {a : Nat} {r : Reg} {i j : Nat} (v : Word) (hf : s.flrBars who = false)
    (h4 : a % 4 = 0) (hm : memAt true a = none) (hd : inDesc a = false) (hr : regAt a = some (r, i, j)) :
    s.busWrite who a v = s.regWrite who r i j v := by
  rw [State.busWrite, State.flrGate_open _ _ hf, hd, hm, hr]
  simp [h4]

/-- A read of the word of a register is one of that register. -/
theorem State.busRead_reg {s : State} {who : Requester} {a : Nat} {r : Reg} {i j : Nat} (hf : s.flrBars who = false)
    (hm : memAt false (a / 4 * 4) = none) (hd : inDesc (a / 4 * 4) = false) (hr : regAt (a / 4 * 4) = some (r, i, j)) :
    s.busRead who a = s.regRead who r i j := by
  rw [State.busRead]
  simp only [State.flrGate_open _ _ hf, hd, hm, hr]
  rfl

/-- Settles O35: the access reaches the absent register, whose write does nothing and whose read returns zero. -/
theorem absentInstance : Obligations.AbsentInstance := by
  unfold Obligations.AbsentInstance
  refine ⟨fun who a v r i j hd s hf h4 hm hdesc hr habs => ⟨_, exec_registerWrite_clean a v hd hf, ?_⟩,
    fun who a r i j hd s hf hm hdesc hr habs => ⟨_, exec_readClear_clean a hd hf, ?_⟩⟩
  all_goals
    have hbars : (s.heard who).flrBars who = false := (s.flrBars_heard who).trans hf
    have habsent : regPresent (s.heard who).variant r i = false := by rw [s.variant_heard]; exact habs
  · rw [State.busWrite_reg v hbars h4 hm hdesc hr, State.regWrite_absent j v (regIn_lt (regIn_of_regAt hr)) habsent hbars]
  · rw [State.busRead_reg hbars hm hdesc hr, State.regRead_absent j (regIn_lt (regIn_of_regAt hr)) habsent hbars]

/-! ## Frames in sequence -/

/-- An operation whose frame lies in the one that is claimed. -/
theorem Changes.within {P P' : List Part} {R R' : List Reg} {s t : State} (k : Changes P' R' s t) (hp : P' ⊆ P := by decide)
    (hr : regMask R' &&& regMask R = regMask R' := by decide +kernel) : Changes P R s t :=
  k.mono hp (subset_regs hr)

/-- After what stays in the claimed frame, an operation whose frame lies in it. -/
theorem Changes.op {P P' : List Part} {R R' : List Reg} {s t u : State} (h : Changes P R s t) (k : Changes P' R' t u)
    (hp : P' ⊆ P := by decide) (hr : regMask R' &&& regMask R = regMask R' := by decide +kernel) : Changes P R s u :=
  h.andThen k hp (subset_regs hr)

theorem State.setFld_frame (s : State) (f : Fld) (v i j : Nat) : Changes [] [f.reg] s (s.setFld f v i j) :=
  .setFld (.refl ..) (List.mem_singleton_self _)

theorem State.wr_frame (s : State) (r : Reg) (v : Word) (i j : Nat) : Changes [] [r] s (s.wr r v i j) :=
  .wr (.refl ..) (List.mem_singleton_self _)

theorem State.bump_frame (s : State) (r : Reg) (i j : Nat) : Changes [] [r] s (s.bump r i j) :=
  .bump (.refl ..) (List.mem_singleton_self _)

theorem State.advance_frame (s : State) (dt : Nat) : Changes [.fine] [] s (s.advance dt) :=
  .advance (.refl ..) (List.mem_singleton_self _)

theorem State.emit_frame (s : State) (o : Out) : Changes [.outbox] [] s (s.emit o) :=
  .emit (.refl ..) (List.mem_singleton_self _)

/-! ### The gates of accesses (R403, R411, R425) -/

/-- What the gates of accesses may change where they do not let an access through: a free value, the messages, the logs and
the counters of the endpoint. -/
def refusedParts : List Part := [.outbox, .freeCtr, .pceCfg, .pce]
def refusedRegs : List Reg := [.PCE_STATUS, .PCE_CNT_PRIV_REFUSED, .PCE_CNT_MSIX_DROP]

theorem State.flrGate_cases (s : State) (who : Requester) (posted : Bool) (k : State) :
    s.flrGate who posted k = k ∨ Changes refusedParts refusedRegs s (s.flrGate who posted k) := by
  unfold State.flrGate
  split
  · exact .inr ((s.freeBits_changes 128).within.op (State.unsupportedReq_changes ..))
  · exact .inl rfl

/-- What answers a refused access stays within the same frame behind the gate of an FLR. -/
theorem State.flrGate_refused {s k : State} {who : Requester} {posted : Bool} (hk : Changes refusedParts refusedRegs s k) :
    Changes refusedParts refusedRegs s (s.flrGate who posted k) := by
  obtain h | h := s.flrGate_cases who posted k
  · rw [h]
    exact hk
  · exact h

/-- A refusal by level counts where the host is refused. -/
theorem State.countRefused_frame (s : State) (who : Requester) :
    Changes refusedParts refusedRegs s (if who = .mailbox then s.bump .PCE_CNT_PRIV_REFUSED else s) :=
  .ite (s.bump_frame ..).within (.refl ..)

theorem State.gated_cases (s : State) (who : Requester) (lvl : Nat) (k : State) :
    s.gated who lvl k = k ∨ Changes refusedParts refusedRegs s (s.gated who lvl k) := by
  unfold State.gated
  split
  · exact s.flrGate_cases who true k
  · exact .inr (State.flrGate_refused (s.countRefused_frame who))

theorem State.writeGate_cases (s : State) (who : Requester) (r : Reg) (i : Nat) (k : State) :
    s.writeGate who r i k = k ∨ Changes refusedParts refusedRegs s (s.writeGate who r i k) := by
  unfold State.writeGate
  split
  · exact .inr (.refl ..)
  · exact s.gated_cases who _ k

/-- A write that acts within a frame that has room for its refusal stays in it whether it acts or not. -/
theorem State.writeGate_frame {P : List Part} {R : List Reg} {s k : State} {who : Requester} {r : Reg} {i : Nat}
    (hk : Changes P R s k) (hp : refusedParts ⊆ P := by decide)
    (hr : regMask refusedRegs &&& regMask R = regMask refusedRegs := by decide +kernel) :
    Changes P R s (s.writeGate who r i k) := by
  obtain h | h := s.writeGate_cases who r i k
  · rw [h]
    exact hk
  · exact h.within hp hr

theorem State.readGate_cases (s : State) (who : Requester) (unit i lvl : Nat) (k : State) :
    s.readGate who unit i lvl k = k.journalRead who ∨ Changes refusedParts refusedRegs s (s.readGate who unit i lvl k) := by
  unfold State.readGate
  split
  · exact .inr (State.flrGate_refused (s.emit_frame _).within)
  · split
    · exact s.flrGate_cases who false (k.journalRead who)
    · exact .inr (State.flrGate_refused ((s.countRefused_frame who).op (State.emit_frame ..)))

/-- A read that acts within a frame that has room for its refusal and its journal entry stays in it. -/
theorem State.readGate_frame {P : List Part} {R : List Reg} {s k : State} {who : Requester} {unit i lvl : Nat}
    (hk : Changes P R s k) (hp : refusedParts ⊆ P := by decide)
    (hr : regMask refusedRegs &&& regMask R = regMask refusedRegs := by decide +kernel)
    (hjp : [.freeCtr, .helm] ⊆ P := by decide)
    (hjr : regMask [.HLM_STATUS, .HLM_JOURNAL_USED] &&& regMask R = regMask [.HLM_STATUS, .HLM_JOURNAL_USED] := by
      decide +kernel) :
    Changes P R s (s.readGate who unit i lvl k) := by
  obtain h | h := s.readGate_cases who unit i lvl k
  · rw [h]
    exact hk.op (k.journalRead_changes who) hjp hjr
  · exact h.within hp hr

/-! ## The lane commands -/

/-- The command answers a next state within the frame that is listed for it. -/
def Framed (c : Instr) (s : State) : Prop := Answers (exec c s) (Changes (partsOf c) (regsOf c) s)

section
open State

theorem signalDetectQualified_framed (n : Fin 64) (s : State) : Framed (.signalDetectQualified n) s := by
  unfold Framed partsOf regsOf; dsimp only
  have hsig : Changes [.lnk] [.LNK_STATUS] s (s.setFld F.LNK_STATUS_SIG_DET 1 n) := (s.setFld_frame ..).within
  exact ⟨_, rfl, .ite (.refl ..) (.ite (hsig.op (setLstate_changes ..))
    (.ite ((hsig.op (setLn_changes ..)).op (setLstate_changes ..)) hsig))⟩

theorem signalLost_framed (n : Fin 64) (s : State) : Framed (.signalLost n) s := by
  unfold Framed partsOf regsOf; dsimp only
  have hsig := s.setFld_frame F.LNK_STATUS_SIG_DET 0 n 0
  exact ⟨_, rfl, .ite (.refl ..) (.ite (hsig.within.op (laneLost_changes ..)) (.ite (hsig.within.op (laneBack_changes ..)) hsig.within))⟩

theorem cdrLocked_framed (n : Fin 64) (s : State) : Framed (.cdrLocked n) s := by
  unfold Framed partsOf regsOf; dsimp only
  have hcdr := s.setFld_frame F.LNK_STATUS_CDR_LOCK 1 n 0
  exact ⟨_, rfl, .ite (.refl ..) (.ite (hcdr.within.op (setLstate_changes ..)) (.ite hcdr.within (.refl ..)))⟩

/-- A limit on a lane's stay takes time, whether the lane is in the state or not. -/
theorem State.laneLimit_frame {P : List Part} {R : List Reg} {s : State} {n st dt len : Nat} {k : State → State}
    (hk : ∀ x, Changes P R x (k x)) (hp : [.fine] ⊆ P := by decide) : Changes P R s (s.laneLimit n st dt len k) :=
  .ite (((passTo_changes ..).mono hp (List.nil_subset _)).trans (hk _)) ((advance_frame ..).mono hp (List.nil_subset _))

theorem cdrLockTimeout_framed (n : Fin 64) (dt : Nat) (s : State) : Framed (.cdrLockTimeout n dt) s := by
  unfold Framed partsOf regsOf; dsimp only
  exact ⟨_, rfl, laneLimit_frame fun x =>
    .ite (laneLost_changes ..).within ((laneBack_changes ..).within.op (bump_frame ..))⟩

theorem blockLock_framed (n : Fin 64) (s : State) : Framed (.blockLock n) s := by
  unfold Framed partsOf regsOf; dsimp only
  exact ⟨_, rfl, .ite ((setFld_frame ..).within.op (setLstate_changes ..)) (.refl ..)⟩

theorem huntTimeout_framed (n : Fin 64) (dt : Nat) (s : State) : Framed (.huntTimeout n dt) s := by
  unfold Framed partsOf regsOf; dsimp only
  exact ⟨_, rfl, laneLimit_frame fun x => (laneBack_changes ..).within⟩

theorem lockLoss_framed (n : Fin 64) (s : State) : Framed (.lockLoss n) s := by
  unfold Framed partsOf regsOf; dsimp only
  exact ⟨_, rfl, .ite (.refl ..) (.ite (laneLost_changes ..).within (.ite (laneBack_changes ..).within (.refl ..)))⟩

theorem cdrLockLost_framed (n : Fin 64) (s : State) : Framed (.cdrLockLost n) s := by
  unfold Framed partsOf regsOf; dsimp only
  exact ⟨_, rfl, .ite (.refl ..) (.ite (laneLost_changes ..).within (.ite (setFld_frame ..).within (.refl ..)))⟩

theorem trainTimeout_framed (n : Fin 64) (dt : Nat) (s : State) : Framed (.trainTimeout n dt) s := by
  unfold Framed partsOf regsOf; dsimp only
  exact ⟨_, rfl, laneLimit_frame fun x => (trainFail_changes ..).within⟩

theorem failedTimeout_framed (n : Fin 64) (dt : Nat) (s : State) : Framed (.failedTimeout n dt) s := by
  unfold Framed partsOf regsOf; dsimp only
  exact ⟨_, rfl, laneLimit_frame fun x => (setLn_changes ..).within.op (laneRestart_changes ..)⟩

theorem stuffedBlock_framed (n : Fin 64) (blk : LineBlock) (s : State) : Framed (.stuffedBlock n blk) s := by
  unfold Framed partsOf regsOf; dsimp only
  have hrx := s.rxBlock_changes n blk
  exact ⟨_, rfl, .ite (.refl ..) (.ite ((hrx.within.op (setLn_changes ..)).op (bump_frame ..)) hrx.within)⟩

theorem reservedTypeBlock_framed (n : Fin 64) (blk : LineBlock) (s : State) : Framed (.reservedTypeBlock n blk) s := by
  unfold Framed partsOf regsOf; dsimp only
  exact ⟨_, rfl, .ite (.refl ..) ((rxBlock_changes ..).within.op (bump_frame ..))⟩

theorem skipBlock_framed (n : Fin 64) (slot : Nat) (blk : LineBlock) (s : State) : Framed (.skipBlock n slot blk) s := by
  unfold Framed partsOf regsOf; dsimp only
  exact ⟨_, rfl, .ite (skipBlock_changes ..).within (.refl ..)⟩

theorem skipSend_framed (p : Fin 64) (dt : Nat) (s : State) : Framed (.skipSend p dt) s := by
  unfold Framed partsOf regsOf; dsimp only
  exact ⟨_, rfl, .ite (advance_frame ..).within ((passTo_changes ..).within.op (fillTo_changes ..))⟩

theorem dataRow_framed (p : Fin 64) (blocks : List LineBlock) (s : State) : Framed (.dataRow p blocks) s := by
  unfold Framed partsOf regsOf; dsimp only
  have hset := s.settle_changes p blocks
  exact ⟨_, rfl, .ite (.refl ..) (.ite (hset.within.op (takeData_changes ..)) hset.within)⟩

theorem eyeMeasurement_framed (n : Fin 64) (margin : Nat) (s : State) : Framed (.eyeMeasurement n margin) s := by
  unfold Framed partsOf regsOf; dsimp only
  refine ⟨_, rfl, .ite (.refl ..) (.ite ?_ ?_)⟩
  · exact .ite ((setLn_changes ..).within.op (request_changes ..)) ((setLn_changes ..).within.op (request_changes ..))
  · split
    · exact .refl ..
    · exact .ite
        (.ite ((setLn_changes ..).within.op (nextStep_changes ..))
          (((setLn_changes ..).within.op (sendReady_changes ..)).op (trainCheck_changes ..)))
        ((setLn_changes ..).within.op (request_changes ..))

theorem trainingRequest_framed (n : Fin 64) (blk : LineBlock) (s : State) : Framed (.trainingRequest n blk) s := by
  unfold Framed partsOf regsOf; dsimp only
  exact ⟨_, rfl, (training_changes ..).within⟩

theorem trainingStatus_framed (n : Fin 64) (blk : LineBlock) (s : State) : Framed (.trainingStatus n blk) s := by
  unfold Framed partsOf regsOf; dsimp only
  exact ⟨_, rfl, (training_changes ..).within⟩

theorem trainingReady_framed (n : Fin 64) (blk : LineBlock) (s : State) : Framed (.trainingReady n blk) s := by
  unfold Framed partsOf regsOf; dsimp only
  exact ⟨_, rfl, (training_changes ..).within⟩

theorem trainingAbort_framed (n : Fin 64) (blk : LineBlock) (s : State) : Framed (.trainingAbort n blk) s := by
  unfold Framed partsOf regsOf; dsimp only
  exact ⟨_, rfl, (training_changes ..).within⟩

theorem trainingRequestRepeat_framed (n : Fin 64) (dt : Nat) (s : State) : Framed (.trainingRequestRepeat n dt) s := by
  unfold Framed partsOf regsOf; dsimp only
  refine ⟨_, rfl, ?_⟩
  split
  · exact (advance_frame ..).within
  · have hpass (due : Nat) := s.passTo_changes dt due
    exact .ite (advance_frame ..).within
      (.ite (((hpass _).within.op (setLn_changes ..)).op (sendTraining_changes ..)) ((hpass _).within.op (trainFail_changes ..)))

theorem stripeHoldEnd_framed (p : Fin 64) (s : State) : Framed (.stripeHoldEnd p) s := by
  unfold Framed partsOf regsOf; dsimp only
  refine ⟨_, rfl, ?_⟩
  split
  · exact .refl ..
  · exact (setPt_changes ..).within.op (releaseStripe_changes ..)

theorem suspectClear_framed (n : Fin 64) (s : State) : Framed (.suspectClear n) s := by
  unfold Framed partsOf regsOf; dsimp only
  exact ⟨_, rfl, .ite ((setFld_frame ..).within.op (setLn_changes ..)) (.refl ..)⟩

theorem portDecide_framed (p : Fin 64) (dt : Nat) (s : State) : Framed (.portDecide p dt) s := by
  unfold Framed partsOf regsOf; dsimp only
  refine ⟨_, rfl, ?_⟩
  split
  · exact (advance_frame ..).within
  · refine .ite (advance_frame ..).within ?_
    dsimp only
    split <;> exact (passTo_changes ..).within.op (setPt_changes ..)

theorem rateReduceTimeout_framed (p : Fin 64) (dt : Nat) (s : State) : Framed (.rateReduceTimeout p dt) s := by
  unfold Framed partsOf regsOf; dsimp only
  refine ⟨_, rfl, ?_⟩
  split
  · have hpass (due : Nat) := s.passTo_changes dt due
    exact .ite (advance_frame ..).within
      (.ite ((hpass _).within.op (portDown_changes ..)) ((hpass _).within.op (sendRate_changes ..)))
  · exact (advance_frame ..).within

theorem enterDoze_framed (p : Fin 64) (blocks : List LineBlock) (s : State) : Framed (.enterDoze p blocks) s := by
  unfold Framed partsOf regsOf; dsimp only
  have hrow := s.powerRow_changes p blocks
  exact ⟨_, rfl, .ite (.refl ..) (.ite hrow.within (.ite (hrow.within.op (sendPower_changes ..))
    ((hrow.within.op (sendPower_changes ..)).op (eachOf_changes (fun _ _ => setLstate_changes ..) ..))))⟩

theorem wakeRow_framed (p : Fin 64) (blocks : List LineBlock) (s : State) : Framed (.wakeRow p blocks) s := by
  unfold Framed partsOf regsOf; dsimp only
  have hrow := s.powerRow_changes p blocks
  exact ⟨_, rfl, .ite (.refl ..) (.ite
    (hrow.within.trans (eachOf_changes (fun _ _ => (setLn_changes ..).within.op (setLstate_changes ..)) ..)) hrow.within)⟩

theorem dozeExitTimeout_framed (p : Fin 64) (s : State) : Framed (.dozeExitTimeout p) s := by
  unfold Framed partsOf regsOf; dsimp only
  exact ⟨_, rfl, eachOf_changes (fun _ _ => .ite
    (((laneRestart_changes ..).within.op (setLn_changes ..)).op (bump_frame ..)) (.refl ..)) ..⟩

theorem deepAck_framed (p : Fin 64) (blocks : List LineBlock) (s : State) : Framed (.deepAck p blocks) s := by
  unfold Framed partsOf regsOf; dsimp only
  have hrow := s.powerRow_changes p blocks
  exact ⟨_, rfl, .ite (.refl ..) (.ite (hrow.within.op (portDeep_changes ..)) hrow.within)⟩

theorem deepRetry_framed (p : Fin 64) (dt : Nat) (s : State) : Framed (.deepRetry p dt) s := by
  unfold Framed partsOf regsOf; dsimp only
  refine ⟨_, rfl, ?_⟩
  split
  · exact .ite (((passTo_changes ..).within.op (setPt_changes ..)).op (sendPower_changes ..)) (advance_frame ..).within
  · exact (advance_frame ..).within

theorem deepForce_framed (p : Fin 64) (dt : Nat) (s : State) : Framed (.deepForce p dt) s := by
  unfold Framed partsOf regsOf; dsimp only
  refine ⟨_, rfl, ?_⟩
  split
  · exact .ite ((passTo_changes ..).within.op (portDeep_changes ..)) (advance_frame ..).within
  · exact (advance_frame ..).within

theorem deepWakeOnSignal_framed (n : Fin 64) (s : State) : Framed (.deepWakeOnSignal n) s := by
  unfold Framed partsOf regsOf; dsimp only
  exact ⟨_, rfl, .ite (deepExit_changes ..).within (.refl ..)⟩

theorem quadPllLocked_framed (q : Fin 16) (s : State) : Framed (.quadPllLocked q) s := by
  unfold Framed partsOf regsOf; dsimp only
  exact ⟨_, rfl, eachOf_changes (fun _ _ => .ite ((txStart_changes ..).within.op (setLn_changes ..)) (.refl ..)) ..⟩

theorem laneEnable_framed (who : Requester) (n : Fin 64) (on : Bool) (s : State) : Framed (.laneEnable who n on) s := by
  unfold Framed partsOf regsOf; dsimp only
  exact ⟨_, rfl, writeGate_frame (laneEnable_changes ..).within⟩

theorem deepReq_framed (who : Requester) (n : Fin 64) (on : Bool) (s : State) : Framed (.deepReq who n on) s := by
  unfold Framed partsOf regsOf; dsimp only
  exact ⟨_, rfl, writeGate_frame (deepReq_changes ..).within⟩

theorem retrain_framed (who : Requester) (n : Fin 64) (s : State) : Framed (.retrain who n) s := by
  unfold Framed partsOf regsOf; dsimp only
  exact ⟨_, rfl, writeGate_frame (retrain_changes ..).within⟩

theorem patternClear_framed (who : Requester) (n : Fin 64) (s : State) : Framed (.patternClear who n) s := by
  unfold Framed partsOf regsOf; dsimp only
  exact ⟨_, rfl, writeGate_frame (clearBer_changes ..).within⟩

theorem injectShot_framed (who : Requester) (n : Fin 64) (s : State) : Framed (.injectShot who n) s := by
  unfold Framed partsOf regsOf; dsimp only
  exact ⟨_, rfl, writeGate_frame (shot_changes ..).within⟩

theorem injectBurst_framed (n : Fin 64) (dt : Nat) (s : State) : Framed (.injectBurst n dt) s := by
  unfold Framed partsOf regsOf; dsimp only
  exact ⟨_, rfl, .ite ((passTo_changes ..).within.op (injectBurst_changes ..)) (advance_frame ..).within⟩

theorem berBitsLoRead_framed (who : Requester) (n : Fin 64) (s : State) : Framed (.berBitsLoRead who n) s := by
  unfold Framed partsOf regsOf; dsimp only
  exact ⟨_, rfl, readGate_frame ((wr_frame ..).within.op (emit_frame ..))⟩

theorem checkerLock_framed (n : Fin 64) (bits : List Bool) (s : State) : Framed (.checkerLock n bits) s := by
  unfold Framed partsOf regsOf; dsimp only
  exact ⟨_, rfl, .ite (.refl ..) (checkerIn_changes ..).within⟩

end

/-- Settles O7, by the frame of each lane command. -/
theorem lanesFrame : Obligations.LanesFrame := by
  unfold Obligations.LanesFrame
  intro c s h
  cases c with
  | signalDetectQualified n => exact signalDetectQualified_framed n s
  | signalLost n => exact signalLost_framed n s
  | cdrLocked n => exact cdrLocked_framed n s
  | cdrLockTimeout n dt => exact cdrLockTimeout_framed n dt s
  | blockLock n => exact blockLock_framed n s
  | huntTimeout n dt => exact huntTimeout_framed n dt s
  | lockLoss n => exact lockLoss_framed n s
  | cdrLockLost n => exact cdrLockLost_framed n s
  | trainTimeout n dt => exact trainTimeout_framed n dt s
  | failedTimeout n dt => exact failedTimeout_framed n dt s
  | stuffedBlock n blk => exact stuffedBlock_framed n blk s
  | reservedTypeBlock n blk => exact reservedTypeBlock_framed n blk s
  | skipBlock n slot blk => exact skipBlock_framed n slot blk s
  | skipSend p dt => exact skipSend_framed p dt s
  | dataRow p blocks => exact dataRow_framed p blocks s
  | eyeMeasurement n margin => exact eyeMeasurement_framed n margin s
  | trainingRequest n blk => exact trainingRequest_framed n blk s
  | trainingStatus n blk => exact trainingStatus_framed n blk s
  | trainingReady n blk => exact trainingReady_framed n blk s
  | trainingAbort n blk => exact trainingAbort_framed n blk s
  | trainingRequestRepeat n dt => exact trainingRequestRepeat_framed n dt s
  | stripeHoldEnd p => exact stripeHoldEnd_framed p s
  | suspectClear n => exact suspectClear_framed n s
  | portDecide p dt => exact portDecide_framed p dt s
  | rateReduceTimeout p dt => exact rateReduceTimeout_framed p dt s
  | enterDoze p blocks => exact enterDoze_framed p blocks s
  | wakeRow p blocks => exact wakeRow_framed p blocks s
  | dozeExitTimeout p => exact dozeExitTimeout_framed p s
  | deepAck p blocks => exact deepAck_framed p blocks s
  | deepRetry p dt => exact deepRetry_framed p dt s
  | deepForce p dt => exact deepForce_framed p dt s
  | deepWakeOnSignal n => exact deepWakeOnSignal_framed n s
  | quadPllLocked q => exact quadPllLocked_framed q s
  | laneEnable who n on => exact laneEnable_framed who n on s
  | deepReq who n on => exact deepReq_framed who n on s
  | retrain who n => exact retrain_framed who n s
  | patternClear who n => exact patternClear_framed who n s
  | injectShot who n => exact injectShot_framed who n s
  | injectBurst n dt => exact injectBurst_framed n dt s
  | berBitsLoRead who n => exact berBitsLoRead_framed who n s
  | checkerLock n bits => exact checkerLock_framed n bits s
  | _ => cases h

/-! ## What every command keeps: the queue of waiting commands and the variant (R1) -/

/-- What no command touches. -/
def State.kept (s : State) : List Instr × Variant := (s.pending, s.variant)

/-- An operation whose frame lists neither keeps both. -/
theorem Changes.kept {P : List Part} {R : List Reg} {s t : State} (h : Changes P R s t) (hp : Part.pending ∉ P := by decide)
    (hv : Part.variant ∉ P := by decide) : t.kept = s.kept :=
  Prod.ext (h.parts .pending hp) (h.parts .variant hv)

/-- An update of other fields keeps both. -/
@[simp] theorem State.kept_mk (t : State) (fuse fine regs bar0 staged outbox freeCtr lnk port cap capt mst sht bch beams scn cal
    lum proj hal pce dma que fst ses boot tim enc ssi helm pwr) :
    State.kept ⟨t.variant, fuse, fine, regs, bar0, staged, outbox, freeCtr, lnk, port, cap, capt, mst, sht, bch, beams, scn, cal,
      lum, proj, hal, pce, dma, que, fst, ses, boot, tim, enc, ssi, helm, pwr, t.pending⟩ = t.kept := rfl

@[simp] theorem State.kept_wr (s : State) (r : Reg) (v : Word) (i j : Nat) : (s.wr r v i j).kept = s.kept := rfl
@[simp] theorem State.kept_setFld (s : State) (f : Fld) (v i j : Nat) : (s.setFld f v i j).kept = s.kept := rfl
@[simp] theorem State.kept_bumpBy (s : State) (r : Reg) (n i j : Nat) : (s.bumpBy r n i j).kept = s.kept := rfl
@[simp] theorem State.kept_bump (s : State) (r : Reg) (i j : Nat) : (s.bump r i j).kept = s.kept := rfl
@[simp] theorem State.kept_memWr (s : State) (a : Nat) (v : Word) : (s.memWr a v).kept = s.kept := rfl
@[simp] theorem State.kept_stage (s : State) (l : Loc) (v : Word) : (s.stage l v).kept = s.kept := rfl
@[simp] theorem State.kept_emit (s : State) (o : Out) : (s.emit o).kept = s.kept := rfl
@[simp] theorem State.kept_advance (s : State) (dt : Nat) : (s.advance dt).kept = s.kept := rfl

/-! ### The shared operations, each by its frame -/

/-! Operations of Machine/Ops.lean. -/

@[simp] theorem State.kept_passTo (s : State) (dt : Nat) (due : Nat) : (State.passTo s dt due).kept = s.kept :=
  (State.passTo_changes ..).kept
@[simp] theorem State.kept_passBy (s : State) (dt : Nat) (due : Nat) : (State.passBy s dt due).kept = s.kept :=
  (State.passBy_changes ..).kept
@[simp] theorem State.kept_freeBits (s : State) (w : Nat) : (State.freeBits s w).2.kept = s.kept :=
  (State.freeBits_changes ..).kept
@[simp] theorem State.kept_setDom (s : State) (d : Nat) (on : Bool) : (State.setDom s d on).kept = s.kept :=
  (State.setDom_changes ..).kept
@[simp] theorem State.kept_setDomPending (s : State) (d : Nat) (on : Bool) : (State.setDomPending s d on).kept = s.kept :=
  (State.setDomPending_changes ..).kept

/-! Operations of Machine/Events.lean. -/

@[simp] theorem State.kept_cfgWr (s : State) (off : Nat) (v : Word) : (State.cfgWr s off v).kept = s.kept :=
  (State.cfgWr_changes ..).kept
@[simp] theorem State.kept_linkWake (s : State) : (State.linkWake s).kept = s.kept := (State.linkWake_changes ..).kept
@[simp] theorem State.kept_pceEvent (s : State) : (State.pceEvent s).kept = s.kept := (State.pceEvent_changes ..).kept
@[simp] theorem State.kept_aerNote (s : State) (bit : Nat) : (State.aerNote s bit).kept = s.kept :=
  (State.aerNote_changes ..).kept
@[simp] theorem State.kept_aerLog (s : State) (bit : Nat) (advisory : Bool) (hdr : List Word) :
    (State.aerLog s bit advisory hdr).kept = s.kept :=
  (State.aerLog_changes ..).kept
@[simp] theorem State.kept_unsupportedReq (s : State) (posted : Bool) (header : List Word) :
    (State.unsupportedReq s posted header).kept = s.kept :=
  (State.unsupportedReq_changes ..).kept
@[simp] theorem State.kept_notice (s : State) (unit : Nat) (inst : Nat) (cause : Nat) (detail : Word) :
    (State.notice s unit inst cause detail).kept = s.kept :=
  (State.notice_changes ..).kept
@[simp] theorem State.kept_journalRead (s : State) (who : Requester) : (State.journalRead s who).kept = s.kept :=
  (State.journalRead_changes ..).kept
@[simp] theorem State.kept_enqueue (s : State) (h : Nat) (e : HEv) : (State.enqueue s h e).kept = s.kept :=
  (State.enqueue_changes ..).kept
@[simp] theorem State.kept_publish (s : State) (p : Nat) (code : Nat) (cause : BitVec 48) :
    (State.publish s p code cause).kept = s.kept :=
  (State.publish_changes ..).kept
@[simp] theorem State.kept_refuseHal (s : State) (who : Requester) (h : Nat) (what : Nat) :
    (State.refuseHal s who h what).kept = s.kept :=
  (State.refuseHal_changes ..).kept

/-! Operations of Machine/Halyard.lean. -/

@[simp] theorem State.kept_groups (s : State) (en : Nat) (dis : Nat) (met : BitVec 16) :
    (State.groups s en dis met).kept = s.kept :=
  (State.groups_changes ..).kept
@[simp] theorem State.kept_setHseq (s : State) (q : Nat) (x : HSeq) : (State.setHseq s q x).kept = s.kept :=
  (State.setHseq_changes ..).kept
@[simp] theorem State.kept_startSeq (s : State) (q : Nat) (base : Nat) : (State.startSeq s q base).kept = s.kept :=
  (State.startSeq_changes ..).kept
@[simp] theorem State.kept_endSeq (s : State) (q : Nat) : (State.endSeq s q).kept = s.kept := (State.endSeq_changes ..).kept
@[simp] theorem State.kept_seqErr (s : State) (q : Nat) : (State.seqErr s q).kept = s.kept := (State.seqErr_changes ..).kept
@[simp] theorem State.kept_seqSlot (s : State) (q : Nat) : (State.seqSlot s q).kept = s.kept := (State.seqSlot_changes ..).kept

/-! Operations of Machine/LightOps.lean. -/

@[simp] theorem State.kept_setLm (s : State) (n : Nat) (x : Lum) : (State.setLm s n x).kept = s.kept :=
  (State.setLm_changes ..).kept
@[simp] theorem State.kept_gateRise (s : State) (n : Nat) (till : Option Nat) : (State.gateRise s n till).kept = s.kept :=
  (State.gateRise_changes ..).kept
@[simp] theorem State.kept_lumGate (s : State) (n : Nat) : (State.lumGate s n).kept = s.kept := (State.lumGate_changes ..).kept
@[simp] theorem State.kept_lumPublish (s : State) (n : Nat) (code : Nat) : (State.lumPublish s n code).kept = s.kept :=
  (State.lumPublish_changes ..).kept
@[simp] theorem State.kept_lumFault (s : State) (n : Nat) (bit : Nat) : (State.lumFault s n bit).kept = s.kept :=
  (State.lumFault_changes ..).kept
@[simp] theorem State.kept_vfStart (s : State) (n : Nat) : (State.vfStart s n).kept = s.kept := (State.vfStart_changes ..).kept
@[simp] theorem State.kept_vfAll (a0 : List Nat) (a1 : State) : (State.vfAll a0 a1).kept = a1.kept :=
  (State.vfAll_changes ..).kept
@[simp] theorem State.kept_swapReq (s : State) : (State.swapReq s).kept = s.kept := (State.swapReq_changes ..).kept
@[simp] theorem State.kept_pixStart (s : State) : (State.pixStart s).kept = s.kept := (State.pixStart_changes ..).kept
@[simp] theorem State.kept_lseqStop (s : State) : (State.lseqStop s).kept = s.kept := (State.lseqStop_changes ..).kept
@[simp] theorem State.kept_lseqAt (s : State) (pc : Nat) (loop : Option SeqLoop) (wait : LumWait) :
    (State.lseqAt s pc loop wait).kept = s.kept :=
  (State.lseqAt_changes ..).kept

/-! Operations of Machine/Light.lean. -/

@[simp] theorem State.kept_frameStart (s : State) : (State.frameStart s).kept = s.kept := (State.frameStart_changes ..).kept
@[simp] theorem State.kept_lseqErr (s : State) : (State.lseqErr s).kept = s.kept := (State.lseqErr_changes ..).kept
@[simp] theorem State.kept_lseqNext (s : State) (w : LumWait) : (State.lseqNext s w).kept = s.kept :=
  (State.lseqNext_changes ..).kept
@[simp] theorem State.kept_strobeMask (mask : Nat) (a1 : List Nat) (a2 : State) :
    (State.strobeMask mask a1 a2).kept = a2.kept :=
  (State.strobeMask_changes ..).kept
@[simp] theorem State.kept_copyPat (src : Nat) (dst : Nat) (a2 : List Nat) (a3 : State) :
    (State.copyPat src dst a2 a3).kept = a3.kept :=
  (State.copyPat_changes ..).kept

/-! Operations of Machine/SheetOps.lean. -/

@[simp] theorem State.kept_setSh (s : State) (n : Nat) (x : Sht) : (State.setSh s n x).kept = s.kept :=
  (State.setSh_changes ..).kept
@[simp] theorem State.kept_setSc (s : State) (n : Nat) (x : Scn) : (State.setSc s n x).kept = s.kept :=
  (State.setSc_changes ..).kept
@[simp] theorem State.kept_setBc (s : State) (n : Nat) (x : Bch) : (State.setBc s n x).kept = s.kept :=
  (State.setBc_changes ..).kept
@[simp] theorem State.kept_pathValues (s : State) (n : Nat) (p : Int) (v : Int) : (State.pathValues s n p v).kept = s.kept :=
  (State.pathValues_changes ..).kept
@[simp] theorem State.kept_shTuneEnd (s : State) (n : Nat) : (State.shTuneEnd s n).kept = s.kept :=
  (State.shTuneEnd_changes ..).kept

/-! Operations of Machine/BeamOps.lean. -/

@[simp] theorem State.kept_beamGate (s : State) (n : Nat) : (State.beamGate s n).kept = s.kept :=
  (State.beamGate_changes ..).kept
@[simp] theorem State.kept_setWant (s : State) (n : Nat) (b : Bool) : (State.setWant s n b).kept = s.kept :=
  (State.setWant_changes ..).kept

/-! Operations of Machine/ScanOps.lean. -/

@[simp] theorem State.kept_haltAt (s : State) (n : Nat) (cause : Nat) (idx : Nat) (off : Nat) :
    (State.haltAt s n cause idx off).kept = s.kept :=
  (State.haltAt_changes ..).kept
@[simp] theorem State.kept_setPhaseAt (s : State) (n : Nat) (p : Pause) (phase : Nat) (t : Nat) :
    (State.setPhaseAt s n p phase t).kept = s.kept :=
  (State.setPhaseAt_changes ..).kept
@[simp] theorem State.kept_setPhase (s : State) (n : Nat) (p : Pause) (phase : Nat) :
    (State.setPhase s n p phase).kept = s.kept :=
  (State.setPhase_changes ..).kept
@[simp] theorem State.kept_parked (s : State) (n : Nat) (p : Pause) : (State.parked s n p).kept = s.kept :=
  (State.parked_changes ..).kept
@[simp] theorem State.kept_reRequest (s : State) (n : Nat) : (State.reRequest s n).kept = s.kept :=
  (State.reRequest_changes ..).kept
@[simp] theorem State.kept_refresh (s : State) (n : Nat) : (State.refresh s n).kept = s.kept := (State.refresh_changes ..).kept
@[simp] theorem State.kept_refreshAll (s : State) : (State.refreshAll s).kept = s.kept := (State.refreshAll_changes ..).kept
@[simp] theorem State.kept_finishPlan (s : State) (n : Nat) : (State.finishPlan s n).kept = s.kept :=
  (State.finishPlan_changes ..).kept
@[simp] theorem State.kept_pauseFor (s : State) (n : Nat) (cause : Nat) (p : Pause) :
    (State.pauseFor s n cause p).kept = s.kept :=
  (State.pauseFor_changes ..).kept
@[simp] theorem State.kept_rotRequest (s : State) (n : Nat) (tp : Nat) (refire : Bool) :
    (State.rotRequest s n tp refire).kept = s.kept :=
  (State.rotRequest_changes ..).kept
@[simp] theorem State.kept_resumeCheck (s : State) (n : Nat) : (State.resumeCheck s n).kept = s.kept :=
  (State.resumeCheck_changes ..).kept
@[simp] theorem State.kept_clearCause (s : State) (n : Nat) (cause : Nat) : (State.clearCause s n cause).kept = s.kept :=
  (State.clearCause_changes ..).kept
@[simp] theorem State.kept_cleanHalt (s : State) (n : Nat) (cause : Nat) (tS : Nat) (idx : Nat) (off : Nat) :
    (State.cleanHalt s n cause tS idx off).kept = s.kept :=
  (State.cleanHalt_changes ..).kept
@[simp] theorem State.kept_hardHalt (s : State) (n : Nat) (cause : Nat) : (State.hardHalt s n cause).kept = s.kept :=
  (State.hardHalt_changes ..).kept
@[simp] theorem State.kept_hardHaltActive (s : State) (n : Nat) (cause : Nat) :
    (State.hardHaltActive s n cause).kept = s.kept :=
  (State.hardHaltActive_changes ..).kept

/-! Operations of Machine/Queue.lean. -/

@[simp] theorem State.kept_putQue (s : State) (q : Nat) (x : Que) : (State.putQue s q x).kept = s.kept :=
  (State.putQue_changes ..).kept
@[simp] theorem State.kept_quePtrCheck (s : State) (q : Nat) : (State.quePtrCheck s q).kept = s.kept :=
  (State.quePtrCheck_changes ..).kept
@[simp] theorem State.kept_queCommit (s : State) (q : Nat) (i : QItem) : (State.queCommit s q i).kept = s.kept :=
  (State.queCommit_changes ..).kept
@[simp] theorem State.kept_commitParts (q : Nat) (p : Nat) (flush : Bool) (a3 : List QPartial) (a4 : State) :
    (State.commitParts q p flush a3 a4).kept = a4.kept :=
  (State.commitParts_changes ..).kept
@[simp] theorem State.kept_queUpset (s : State) (q : Nat) (upset : Bool) : (State.queUpset s q upset).kept = s.kept :=
  (State.queUpset_changes ..).kept

/-! Operations of Machine/StoreMem.lean. -/

@[simp] theorem State.kept_storeWr (s : State) (a : Nat) (data : List Byte) (bad : Bool) :
    (State.storeWr s a data bad).kept = s.kept :=
  (State.storeWr_changes ..).kept
@[simp] theorem State.kept_selfRef (s : State) (on : Bool) : (State.selfRef s on).kept = s.kept :=
  (State.selfRef_changes ..).kept
@[simp] theorem State.kept_eccRead (s : State) (p : Nat) (e : Option BurstErr) (scrub : Bool) :
    (State.eccRead s p e scrub).2.kept = s.kept :=
  (State.eccRead_changes ..).kept
@[simp] theorem State.kept_storeFetch (s : State) (a : Nat) (n : Nat) (errs : List (Nat × BurstErr)) :
    (State.storeFetch s a n errs).st.kept = s.kept :=
  (State.storeFetch_changes ..).kept
@[simp] theorem State.kept_completions (s : State) (bad : List (Nat × Nat)) (a2 : Nat) (a3 : Nat) (a4 : List Byte) (a5 : Nat) :
    (State.completions s bad a2 a3 a4 a5).kept = s.kept :=
  (State.completions_changes ..).kept
@[simp] theorem State.kept_mpUnit (s : State) (c : Nat) (beam : Nat) (u : LogUnit) : (State.mpUnit s c beam u).kept = s.kept :=
  (State.mpUnit_changes ..).kept

/-! Operations of Machine/Scan.lean. -/

@[simp] theorem State.kept_streamLevel (s : State) (n : Nat) : (State.streamLevel s n).kept = s.kept :=
  (State.streamLevel_changes ..).kept
@[simp] theorem State.kept_overflowHalt (s : State) (n : Nat) : (State.overflowHalt s n).kept = s.kept :=
  (State.overflowHalt_changes ..).kept
@[simp] theorem State.kept_awaitPlanner (s : State) (n : Nat) : (State.awaitPlanner s n).kept = s.kept :=
  (State.awaitPlanner_changes ..).kept
@[simp] theorem State.kept_planNote (s : State) (n : Nat) (idx : Nat) (kind : SegKind) (arg : Nat) (flag : Bool)
    (inChain : Bool) : (State.planNote s n idx kind arg flag inChain).kept = s.kept :=
  (State.planNote_changes ..).kept
@[simp] theorem State.kept_planMove (s : State) (n : Nat) (idx : Nat) (emit : Bool) (g : Seg) :
    (State.planMove s n idx emit g).kept = s.kept :=
  (State.planMove_changes ..).kept
@[simp] theorem State.kept_planLine (s : State) (n : Nat) (idx : Nat) (emit : Bool) (x : Int) (y : Int) (z : Int) :
    (State.planLine s n idx emit x y z).kept = s.kept :=
  (State.planLine_changes ..).kept
@[simp] theorem State.kept_badRecord (s : State) (n : Nat) (idx : Nat) : (State.badRecord s n idx).kept = s.kept :=
  (State.badRecord_changes ..).kept
@[simp] theorem State.kept_waitDone (s : State) (n : Nat) : (State.waitDone s n).kept = s.kept :=
  (State.waitDone_changes ..).kept
@[simp] theorem State.kept_scnStart (s : State) (n : Nat) : (State.scnStart s n).kept = s.kept :=
  (State.scnStart_changes ..).kept

/-! Operations of Machine/StoreRing.lean. -/

@[simp] theorem State.kept_voidWhere (s : State) (r : Nat) (p : Rec → Bool) : (State.voidWhere s r p).kept = s.kept :=
  (State.voidWhere_changes ..).kept
@[simp] theorem State.kept_migNotices (c : Nat) (a1 : List Span) (a2 : State) : (State.migNotices c a1 a2).kept = a2.kept :=
  (State.migNotices_changes ..).kept
@[simp] theorem State.kept_searchDone (s : State) (r : Nat) : (State.searchDone s r).kept = s.kept :=
  (State.searchDone_changes ..).kept
@[simp] theorem State.kept_mark (s : State) (r : Nat) (t : Nat) : (State.mark s r t).kept = s.kept :=
  (State.mark_changes ..).kept
@[simp] theorem State.kept_spanFree (s : State) (sp : Span) (kind : Nat) : (State.spanFree s sp kind).kept = s.kept :=
  (State.spanFree_changes ..).kept
@[simp] theorem State.kept_spanFreeAll (a0 : List Span) (a1 : State) : (State.spanFreeAll a0 a1).kept = a1.kept :=
  (State.spanFreeAll_changes ..).kept
@[simp] theorem State.kept_wrapRing (s : State) (r : Nat) (k : Nat) : (State.wrapRing s r k).kept = s.kept :=
  (State.wrapRing_changes ..).kept
@[simp] theorem State.kept_setWp (s : State) (r : Nat) (off : Nat) : (State.setWp s r off).kept = s.kept :=
  (State.setWp_changes ..).kept
@[simp] theorem State.kept_ringOps (a0 : List RingOp) (a1 : State) : (State.ringOps a0 a1).kept = a1.kept :=
  (State.ringOps_changes ..).kept
@[simp] theorem State.kept_storeStatus (s : State) : (State.storeStatus s).kept = s.kept := (State.storeStatus_changes ..).kept

/-! Operations of Machine/DmaOps.lean. -/

@[simp] theorem State.kept_setDm (s : State) (n : Nat) (x : Dma) : (State.setDm s n x).kept = s.kept :=
  (State.setDm_changes ..).kept
@[simp] theorem State.kept_setDmaState (s : State) (n : Nat) (st : Nat) : (State.setDmaState s n st).kept = s.kept :=
  (State.setDmaState_changes ..).kept
@[simp] theorem State.kept_issue (s : State) (q : Req) : (State.issue s q).kept = s.kept := (State.issue_changes ..).kept
@[simp] theorem State.kept_reissue (s : State) : (State.reissue s).kept = s.kept := (State.reissue_changes ..).kept
@[simp] theorem State.kept_setCur (s : State) (n : Nat) (a : Nat) : (State.setCur s n a).kept = s.kept :=
  (State.setCur_changes ..).kept
@[simp] theorem State.kept_dmaLoad (s : State) (n : Nat) (a : Nat) : (State.dmaLoad s n a).kept = s.kept :=
  (State.dmaLoad_changes ..).kept
@[simp] theorem State.kept_dmaWrite (s : State) (n : Nat) (d : Desc) (off : Nat) (data : List Byte) (bad : List (Nat × Nat)) :
    (State.dmaWrite s n d off data bad).kept = s.kept :=
  (State.dmaWrite_changes ..).kept
@[simp] theorem State.kept_dropDrain (s : State) (n : Nat) (d : Desc) : (State.dropDrain s n d).kept = s.kept :=
  (State.dropDrain_changes ..).kept
@[simp] theorem State.kept_creditAll (a0 : List Nat) (a1 : State) : (State.creditAll a0 a1).kept = a1.kept :=
  (State.creditAll_changes ..).kept
@[simp] theorem State.kept_dmaPay (s : State) (n : Nat) (c : Nat) : (State.dmaPay s n c).kept = s.kept :=
  (State.dmaPay_changes ..).kept
@[simp] theorem State.kept_takeDesc (s : State) (n : Nat) (d : Desc) : (State.takeDesc s n d).kept = s.kept :=
  (State.takeDesc_changes ..).kept
@[simp] theorem State.kept_endCheck (s : State) (n : Nat) : (State.endCheck s n).kept = s.kept :=
  (State.endCheck_changes ..).kept
@[simp] theorem State.kept_dmaNext (s : State) (n : Nat) : (State.dmaNext s n).kept = s.kept := (State.dmaNext_changes ..).kept
@[simp] theorem State.kept_dmaRetire (s : State) (n : Nat) (a : Nat) (d : Desc) (result : Nat) (firstBad : Option Nat)
    (done : Nat) (info : Nat) : (State.dmaRetire s n a d result firstBad done info).kept = s.kept :=
  (State.dmaRetire_changes ..).kept
@[simp] theorem State.kept_ctRefill (s : State) (n : Nat) : (State.ctRefill s n).kept = s.kept :=
  (State.ctRefill_changes ..).kept
@[simp] theorem State.kept_ctShow (s : State) (n : Nat) : (State.ctShow s n).kept = s.kept := (State.ctShow_changes ..).kept

/-! Operations of Machine/ScanMotion.lean. -/

@[simp] theorem State.kept_endPause (s : State) (n : Nat) (p : Pause) (d : Nat) (t : Nat) :
    (State.endPause s n p d t).kept = s.kept :=
  (State.endPause_changes ..).kept
@[simp] theorem State.kept_headTemp (s : State) (n : Nat) (temp : Nat) : (State.headTemp s n temp).kept = s.kept :=
  (State.headTemp_changes ..).kept
@[simp] theorem State.kept_shroudLine (s : State) (n : Nat) (body : List Nat) : (State.shroudLine s n body).kept = s.kept :=
  (State.shroudLine_changes ..).kept
@[simp] theorem State.kept_headNotReady (s : State) (n : Nat) : (State.headNotReady s n).kept = s.kept :=
  (State.headNotReady_changes ..).kept
@[simp] theorem State.kept_shroudHunt (s : State) (n : Nat) (j : Nat) : (State.shroudHunt s n j).kept = s.kept :=
  (State.shroudHunt_changes ..).kept
@[simp] theorem State.kept_headPosition (s : State) (n : Nat) (j : Nat) (nibs : List (BitVec 4)) :
    (State.headPosition s n j nibs).kept = s.kept :=
  (State.headPosition_changes ..).kept
@[simp] theorem State.kept_checkBeams (s : State) (a1 : List (Nat × Bool × Bool)) : (State.checkBeams s a1).kept = s.kept :=
  (State.checkBeams_changes ..).kept

/-! Operations of Machine/Sheet.lean. -/

@[simp] theorem State.kept_featureLog (s : State) (n : Nat) (record : List Byte) :
    (State.featureLog s n record).kept = s.kept :=
  (State.featureLog_changes ..).kept
@[simp] theorem State.kept_sheetRecord (s : State) (n : Nat) (mast : Nat) (stream : Nat) (record : List Byte) :
    (State.sheetRecord s n mast stream record).kept = s.kept :=
  (State.sheetRecord_changes ..).kept
@[simp] theorem State.kept_missOne (s : State) (n : Nat) (due : Nat) : (State.missOne s n due).kept = s.kept :=
  (State.missOne_changes ..).kept
@[simp] theorem State.kept_takeValid (s : State) (n : Nat) (q : ShtRec) : (State.takeValid s n q).kept = s.kept :=
  (State.takeValid_changes ..).kept

/-! Operations of Machine/MastOps.lean. -/

@[simp] theorem State.kept_setMs (s : State) (m : Nat) (x : Mast) : (State.setMs s m x).kept = s.kept :=
  (State.setMs_changes ..).kept
@[simp] theorem State.kept_retireEngine (s : State) (m : Nat) (e : Nat) (cause : Nat) (stream : Nat) (frame : Nat) :
    (State.retireEngine s m e cause stream frame).kept = s.kept :=
  (State.retireEngine_changes ..).kept
@[simp] theorem State.kept_sparFaultAt (s : State) (m : Nat) (e : Nat) (cause : SparCause) :
    (State.sparFaultAt s m e cause).kept = s.kept :=
  (State.sparFaultAt_changes ..).kept

/-! Operations of Machine/FrameOps.lean. -/

@[simp] theorem State.kept_setPt (s : State) (p : Nat) (x : Port) : (State.setPt s p x).kept = s.kept :=
  (State.setPt_changes ..).kept
@[simp] theorem State.kept_setCp (s : State) (p : Nat) (x : CapPort) : (State.setCp s p x).kept = s.kept :=
  (State.setCp_changes ..).kept
@[simp] theorem State.kept_openFrame (s : State) (p : Nat) (f : CapFrame) (slow : Bool) (marks : List RingOp) :
    (State.openFrame s p f slow marks).kept = s.kept :=
  (State.openFrame_changes ..).kept
@[simp] theorem State.kept_frameData (s : State) (p : Nat) (off : Nat) (data : List Byte) (bad : List (Nat × Nat))
    (failed : Bool) (rebuilt : Bool) (full : Bool) :
    (State.frameData s p off data bad failed rebuilt full).kept = s.kept :=
  (State.frameData_changes ..).kept
@[simp] theorem State.kept_closeFrame (s : State) (p : Nat) (count : Option Nat) : (State.closeFrame s p count).kept = s.kept :=
  (State.closeFrame_changes ..).kept

/-! Operations of Machine/ModeOps.lean. -/

@[simp] theorem State.kept_setMode (s : State) (m : Nat) : (State.setMode s m).kept = s.kept := (State.setMode_changes ..).kept
@[simp] theorem State.kept_buildToAcquire (s : State) : (State.buildToAcquire s).kept = s.kept :=
  (State.buildToAcquire_changes ..).kept
@[simp] theorem State.kept_permitUpdate (s : State) : (State.permitUpdate s).kept = s.kept :=
  (State.permitUpdate_changes ..).kept

/-! Operations of Machine/LaneOps.lean. -/

@[simp] theorem State.kept_sendRow (s : State) (p : Nat) (content : Nat → Option (List Byte)) :
    (State.sendRow s p content).kept = s.kept :=
  (State.sendRow_changes ..).kept
@[simp] theorem State.kept_flushSegs (s : State) (p : Nat) : (State.flushSegs s p).kept = s.kept :=
  (State.flushSegs_changes ..).kept
@[simp] theorem State.kept_laneStart (n : Nat) (s : State) : (State.laneStart n s).kept = s.kept :=
  (State.laneStart_changes ..).kept
@[simp] theorem State.kept_lanesPatterns (s : State) : (State.lanesPatterns s).kept = s.kept :=
  (State.lanesPatterns_changes ..).kept
@[simp] theorem State.kept_widthErrs (s : State) : (State.widthErrs s).kept = s.kept := (State.widthErrs_changes ..).kept

/-! Operations of Machine/Capture.lean. -/

@[simp] theorem State.kept_popPacket (s : State) (p : Nat) (len : Nat) : (State.popPacket s p len).2.kept = s.kept :=
  (State.popPacket_changes ..).kept
@[simp] theorem State.kept_failHeader (s : State) (p : Nat) : (State.failHeader s p).kept = s.kept :=
  (State.failHeader_changes ..).kept
@[simp] theorem State.kept_takePacket (s : State) (p : Nat) (pkt : Packet) : (State.takePacket s p pkt).2.kept = s.kept :=
  (State.takePacket_changes ..).kept
@[simp] theorem State.kept_camStat (p : Nat) (a1 : List (Nat × Nat)) (a2 : State) : (State.camStat p a1 a2).kept = a2.kept :=
  (State.camStat_changes ..).kept
@[simp] theorem State.kept_memBytes (s : State) (a : Nat) (a2 : List Byte) : (State.memBytes s a a2).kept = s.kept :=
  (State.memBytes_changes ..).kept
@[simp] theorem State.kept_ctlStart (p : Nat) (s : State) : (State.ctlStart p s).kept = s.kept :=
  (State.ctlStart_changes ..).kept
@[simp] theorem State.kept_setBusy (s : State) (box : Nat) (b : Bool) : (State.setBusy s box b).kept = s.kept :=
  (State.setBusy_changes ..).kept
@[simp] theorem State.kept_ctrlGo (s : State) (who : Requester) (box : Nat) : (State.ctrlGo s who box).kept = s.kept :=
  (State.ctrlGo_changes ..).kept
@[simp] theorem State.kept_restoreRetry (s : State) (p : Nat) : (State.restoreRetry s p).kept = s.kept :=
  (State.restoreRetry_changes ..).kept
@[simp] theorem State.kept_ctlRetry (s : State) (p : Nat) : (State.ctlRetry s p).kept = s.kept :=
  (State.ctlRetry_changes ..).kept
@[simp] theorem State.kept_trigCause (kind : Nat) (t : Nat) (late : Bool) (p : Nat) (s : State) :
    (State.trigCause kind t late p s).kept = s.kept :=
  (State.trigCause_changes ..).kept
@[simp] theorem State.kept_pinEnd (pin : Nat) (s : State) : (State.pinEnd pin s).kept = s.kept := (State.pinEnd_changes ..).kept
@[simp] theorem State.kept_cmpArm (s : State) (n : Nat) : (State.cmpArm s n).kept = s.kept := (State.cmpArm_changes ..).kept

/-! Operations of Machine/Beam.lean. -/

@[simp] theorem State.kept_powerCopy (s : State) (n : Nat) (c : Nat) : (State.powerCopy s n c).kept = s.kept :=
  (State.powerCopy_changes ..).kept
@[simp] theorem State.kept_sampleApplied (s : State) (n : Nat) (t : Nat) : (State.sampleApplied s n t).kept = s.kept :=
  (State.sampleApplied_changes ..).kept
@[simp] theorem State.kept_modPeriodAt (s : State) (n : Nat) (t : Nat) : (State.modPeriodAt s n t).kept = s.kept :=
  (State.modPeriodAt_changes ..).kept
@[simp] theorem State.kept_reversal (s : State) (n : Nat) : (State.reversal s n).kept = s.kept :=
  (State.reversal_changes ..).kept
@[simp] theorem State.kept_cut (s : State) (n : Nat) (bit : Nat) : (State.cut s n bit).kept = s.kept :=
  (State.cut_changes ..).kept
@[simp] theorem State.kept_toEdge (s : State) (n : Nat) (on : Bool) : (State.toEdge s n on).kept = s.kept :=
  (State.toEdge_changes ..).kept
@[simp] theorem State.kept_grantAll (g : Nat) (a1 : List RotReq) (a2 : State) : (State.grantAll g a1 a2).kept = a2.kept :=
  (State.grantAll_changes ..).kept
@[simp] theorem State.kept_meterRule (s : State) (n : Nat) (p : Nat) (cm : Nat) (pm : Nat) :
    (State.meterRule s n p cm pm).kept = s.kept :=
  (State.meterRule_changes ..).kept

/-! Operations of Machine/Encoder.lean. -/

@[simp] theorem State.kept_setCount (s : State) (n : Nat) (v : Word) : (State.setCount s n v).kept = s.kept :=
  (State.setCount_changes ..).kept
@[simp] theorem State.kept_encEdge (s : State) (n : Nat) (a : Bool) (b : Bool) : (State.encEdge s n a b).kept = s.kept :=
  (State.encEdge_changes ..).kept
@[simp] theorem State.kept_zReset (s : State) (n : Nat) (edge : Option (Bool × Bool)) : (State.zReset s n edge).kept = s.kept :=
  (State.zReset_changes ..).kept
@[simp] theorem State.kept_setSi (s : State) (a : Nat) (x : Ssi) : (State.setSi s a x).kept = s.kept :=
  (State.setSi_changes ..).kept

/-! Operations of Machine/Image.lean. -/

@[simp] theorem State.kept_putSections (live : Bool) (a1 : List Section) (a2 : State) :
    (State.putSections live a1 a2).kept = a2.kept :=
  (State.putSections_changes ..).kept
@[simp] theorem State.kept_imageDefaults (s : State) : (State.imageDefaults s).kept = s.kept :=
  (State.imageDefaults_changes ..).kept
@[simp] theorem State.kept_spdReads (s : State) (page : Nat) (first : Nat) (count : Nat) :
    (State.spdReads s page first count).kept = s.kept :=
  (State.spdReads_changes ..).kept
@[simp] theorem State.kept_tableCode (s : State) : (State.tableCode s).2.kept = s.kept := (State.tableCode_changes ..).kept

/-! Operations of Machine/SparOps.lean. -/

@[simp] theorem State.kept_sparEnd (s : State) (m : Nat) (r : Run) (res : SparRes) : (State.sparEnd s m r res).kept = s.kept :=
  (State.sparEnd_changes ..).kept
@[simp] theorem State.kept_sparDo (s : State) (m : Fin 16) (e : Fin 66) (i : Instr) (f : Run → SparRes) :
    (State.sparDo s m e i f).kept = s.kept :=
  (State.sparDo_changes ..).kept
@[simp] theorem State.kept_sparAlu (s : State) (m : Fin 16) (e : Fin 66) (i : Instr) (f : Spar → Spar) :
    (State.sparAlu s m e i f).kept = s.kept :=
  (State.sparAlu_changes ..).kept
@[simp] theorem State.kept_sparTry (s : State) (m : Fin 16) (e : Fin 66) (i : Instr) (f : Spar → Option Spar) :
    (State.sparTry s m e i f).kept = s.kept :=
  (State.sparTry_changes ..).kept
@[simp] theorem State.kept_sparMem (s : State) (m : Fin 16) (e : Fin 66) (i : Instr) (f : Spar → List Byte → Option Spar) :
    (State.sparMem s m e i f).kept = s.kept :=
  (State.sparMem_changes ..).kept

/-! Operations of Machine/Mast.lean. -/

@[simp] theorem State.kept_loadDone (s : State) (m : Nat) : (State.loadDone s m).kept = s.kept :=
  (State.loadDone_changes ..).kept
@[simp] theorem State.kept_sparFaults (s : State) (m : Nat) (e : Nat) (cause : SparCause) (also : Option (Fin 66 × SparCause)) :
    (State.sparFaults s m e cause also).kept = s.kept :=
  (State.sparFaults_changes ..).kept
@[simp] theorem State.kept_expire (s : State) (m : Nat) (r : Run) : (State.expire s m r).kept = s.kept :=
  (State.expire_changes ..).kept

/-! Operations of Machine/TimeOps.lean. -/

@[simp] theorem State.kept_setPtpDom (s : State) (d : Nat) (x : PtpDom) : (State.setPtpDom s d x).kept = s.kept :=
  (State.setPtpDom_changes ..).kept
@[simp] theorem State.kept_setInst (s : State) (d : Nat) (p : Nat) (x : PtpInst) : (State.setInst s d p x).kept = s.kept :=
  (State.setInst_changes ..).kept
@[simp] theorem State.kept_setSched (s : State) (k : Nat) (x : Sched) : (State.setSched s k x).kept = s.kept :=
  (State.setSched_changes ..).kept
@[simp] theorem State.kept_setRing (s : State) (r : Nat) (x : RingPort) : (State.setRing s r x).kept = s.kept :=
  (State.setRing_changes ..).kept
@[simp] theorem State.kept_schFire (s : State) (k : Nat) (at0 : Nat) (late : Bool) :
    (State.schFire s k at0 late).kept = s.kept :=
  (State.schFire_changes ..).kept
@[simp] theorem State.kept_schNext (s : State) (k : Nat) (n : Nat) (last : Option Nat) :
    (State.schNext s k n last).kept = s.kept :=
  (State.schNext_changes ..).kept
@[simp] theorem State.kept_schIdle (s : State) (k : Nat) : (State.schIdle s k).kept = s.kept := (State.schIdle_changes ..).kept
@[simp] theorem State.kept_setPortState (s : State) (d : Nat) (p : Nat) (v : Nat) :
    (State.setPortState s d p v).kept = s.kept :=
  (State.setPortState_changes ..).kept
@[simp] theorem State.kept_domGoto (s : State) (d : Nat) (new : Nat) : (State.domGoto s d new).kept = s.kept :=
  (State.domGoto_changes ..).kept
@[simp] theorem State.kept_alignShow (s : State) : (State.alignShow s).kept = s.kept := (State.alignShow_changes ..).kept
@[simp] theorem State.kept_ptpUpdate (s : State) (d : Nat) : (State.ptpUpdate s d).kept = s.kept :=
  (State.ptpUpdate_changes ..).kept
@[simp] theorem State.kept_measure (s : State) (d : Nat) (t1 : Int) (t2 : Int) (logSync : Int) (met : Bool) :
    (State.measure s d t1 t2 logSync met).kept = s.kept :=
  (State.measure_changes ..).kept
@[simp] theorem State.kept_setPath (s : State) (d : Nat) (v : Int) : (State.setPath s d v).kept = s.kept :=
  (State.setPath_changes ..).kept
@[simp] theorem State.kept_ringSecond (s : State) (r : Nat) : (State.ringSecond s r).kept = s.kept :=
  (State.ringSecond_changes ..).kept
@[simp] theorem State.kept_ringSend (s0 : State) (r : Nat) (code : Nat) : (State.ringSend s0 r code).kept = s0.kept :=
  (State.ringSend_changes ..).kept
@[simp] theorem State.kept_timFollow (before : State) (s : State) : (State.timFollow before s).kept = s.kept :=
  (State.timFollow_changes ..).kept

/-! Operations of Machine/Time.lean. -/

@[simp] theorem State.kept_timStep (s : State) : (State.timStep s).kept = s.kept := (State.timStep_changes ..).kept
@[simp] theorem State.kept_timSwitch (s : State) (met : Bool) : (State.timSwitch s met).kept = s.kept :=
  (State.timSwitch_changes ..).kept
@[simp] theorem State.kept_peerPath (s : State) (d : Nat) (p : Nat) (t1 : Int) (t4 : Int) (turn : Int) :
    (State.peerPath s d p t1 t4 turn).kept = s.kept :=
  (State.peerPath_changes ..).kept
@[simp] theorem State.kept_preMasterEnd (d : Nat) (p : Nat) (s : State) : (State.preMasterEnd d p s).kept = s.kept :=
  (State.preMasterEnd_changes ..).kept
@[simp] theorem State.kept_schCommand (s : State) (k : Nat) (v : Word) : (State.schCommand s k v).kept = s.kept :=
  (State.schCommand_changes ..).kept
@[simp] theorem State.kept_ringForward (s : State) (r : Nat) (origin : Nat) (hops : Nat) (code : Nat) (flags : Nat)
    (bad : Bool) : (State.ringForward s r origin hops code flags bad).kept = s.kept :=
  (State.ringForward_changes ..).kept

/-! Operations of Machine/Commit.lean. -/

@[simp] theorem State.kept_refill (s : State) : (State.refill s).kept = s.kept := (State.refill_changes ..).kept
@[simp] theorem State.kept_unitsFollow (before : State) (s : State) : (State.unitsFollow before s).kept = s.kept :=
  (State.unitsFollow_changes ..).kept
@[simp] theorem State.kept_calHead (soft : Tbl Bool) (h : Nat) (s : State) : (State.calHead soft h s).kept = s.kept :=
  (State.calHead_changes ..).kept
@[simp] theorem State.kept_commitLate (s : State) (late : Nat) : (State.commitLate s late).kept = s.kept :=
  (State.commitLate_changes ..).kept
@[simp] theorem State.kept_layerResume (n : Nat) (s : State) : (State.layerResume n s).kept = s.kept :=
  (State.layerResume_changes ..).kept
@[simp] theorem State.kept_boundary (s : State) (who : Requester) (late : Nat) : (State.boundary s who late).kept = s.kept :=
  (State.boundary_changes ..).kept

/-! Operations of Machine/Dma.lean. -/

@[simp] theorem State.kept_descBytes (s : State) (a : Nat) (rx : List Byte) (errs : List (Nat × BurstErr)) :
    (State.descBytes s a rx errs).2.kept = s.kept :=
  (State.descBytes_changes ..).kept
@[simp] theorem State.kept_shadowLoad (s : State) (n : Nat) (errs : List (Nat × BurstErr)) :
    (State.shadowLoad s n errs).kept = s.kept :=
  (State.shadowLoad_changes ..).kept
@[simp] theorem State.kept_readBack (s : State) (n : Nat) : (State.readBack s n).kept = s.kept :=
  (State.readBack_changes ..).kept
@[simp] theorem State.kept_copyBurst (s : State) (n : Nat) (errs : List (Nat × BurstErr)) :
    (State.copyBurst s n errs).kept = s.kept :=
  (State.copyBurst_changes ..).kept
@[simp] theorem State.kept_ctBurst (s : State) (n : Nat) : (State.ctBurst s n).kept = s.kept := (State.ctBurst_changes ..).kept
@[simp] theorem State.kept_burstWait (s : State) (n : Nat) (dt : Nat) : (State.burstWait s n dt).kept = s.kept :=
  (State.burstWait_changes ..).kept
@[simp] theorem State.kept_burstServed (s : State) (n : Nat) : (State.burstServed s n).kept = s.kept :=
  (State.burstServed_changes ..).kept
@[simp] theorem State.kept_doorbell (s : State) (n : Nat) : (State.doorbell s n).kept = s.kept :=
  (State.doorbell_changes ..).kept
@[simp] theorem State.kept_dmaAbort (s : State) (n : Nat) (flr : Bool) : (State.dmaAbort s n flr).kept = s.kept :=
  (State.dmaAbort_changes ..).kept
@[simp] theorem State.kept_migDone (s : State) : (State.migDone s).kept = s.kept := (State.migDone_changes ..).kept
@[simp] theorem State.kept_migCopy (s0 : State) (c : Nat) (b : Nat) (errs : List (Nat × BurstErr)) :
    (State.migCopy s0 c b errs).kept = s0.kept :=
  (State.migCopy_changes ..).kept

/-! Operations of Machine/Delivery.lean. -/

@[simp] theorem State.kept_nextEvent (s : State) (h : Nat) : (State.nextEvent s h).2.kept = s.kept :=
  (State.nextEvent_changes ..).kept
@[simp] theorem State.kept_deliverOne (s : State) (x : Nat × Bool × HEv) (met : BitVec 16) :
    (State.deliverOne s x met).kept = s.kept :=
  (State.deliverOne_changes ..).kept
@[simp] theorem State.kept_deliverTwo (s : State) (x : Nat × Bool × HEv) (y : Nat × Bool × HEv) (met : BitVec 16) :
    (State.deliverTwo s x y met).kept = s.kept :=
  (State.deliverTwo_changes ..).kept
@[simp] theorem State.kept_awaitArrival (s : State) (h : Nat) : (State.awaitArrival s h).kept = s.kept :=
  (State.awaitArrival_changes ..).kept

/-! Operations of Machine/Pcie.lean. -/

@[simp] theorem State.kept_busChange (s : State) (was : Bool) : (State.busChange s was).kept = s.kept :=
  (State.busChange_changes ..).kept
@[simp] theorem State.kept_closeMailbox (s : State) : (State.closeMailbox s).kept = s.kept :=
  (State.closeMailbox_changes ..).kept
@[simp] theorem State.kept_cfgClear (s : State) (keep : Nat → Bool) : (State.cfgClear s keep).kept = s.kept :=
  (State.cfgClear_changes ..).kept
@[simp] theorem State.kept_pceReset (s : State) : (State.pceReset s).kept = s.kept := (State.pceReset_changes ..).kept
@[simp] theorem State.kept_flrStart (s : State) : (State.flrStart s).kept = s.kept := (State.flrStart_changes ..).kept
@[simp] theorem State.kept_cfgWrite (s : State) (off : Nat) (be : BitVec 4) (v : Word) :
    (State.cfgWrite s off be v).kept = s.kept :=
  (State.cfgWrite_changes ..).kept
@[simp] theorem State.kept_msixUnmask (s : State) (v : Nat) : (State.msixUnmask s v).kept = s.kept :=
  (State.msixUnmask_changes ..).kept
@[simp] theorem State.kept_bar4Words (s : State) (a : Nat) (a2 : List Word) : (State.bar4Words s a a2).kept = s.kept :=
  (State.bar4Words_changes ..).kept
@[simp] theorem State.kept_reqHeader (s : State) (q : Req) : (State.reqHeader s q).2.kept = s.kept :=
  (State.reqHeader_changes ..).kept
@[simp] theorem State.kept_endReq (s : State) (tag : Nat) : (State.endReq s tag).kept = s.kept := (State.endReq_changes ..).kept
@[simp] theorem State.kept_countDrop (s : State) : (State.countDrop s).kept = s.kept := (State.countDrop_changes ..).kept
@[simp] theorem State.kept_reqFailed (s : State) (q : Req) (code : Nat) : (State.reqFailed s q code).kept = s.kept :=
  (State.reqFailed_changes ..).kept
@[simp] theorem State.kept_takeCompletion (s : State) (q : Req) (status : CplStatus) (data : List Byte) (tlp : Tlp) :
    (State.takeCompletion s q status data tlp).kept = s.kept :=
  (State.takeCompletion_changes ..).kept
@[simp] theorem State.kept_dropCompletion (s : State) (q : Req) (status : CplStatus) (data : List Byte) (count : Bool) :
    (State.dropCompletion s q status data count).kept = s.kept :=
  (State.dropCompletion_changes ..).kept

/-! Operations of Machine/Boot.lean. -/

@[simp] theorem State.kept_flashWrites (dev : Nat) (a1 : List (Nat × List Byte)) (a2 : State) :
    (State.flashWrites dev a1 a2).kept = a2.kept :=
  (State.flashWrites_changes ..).kept
@[simp] theorem State.kept_flashSeen (dev : Nat) (d : FlashPort) (s : State) : (State.flashSeen dev d s).kept = s.kept :=
  (State.flashSeen_changes ..).kept
@[simp] theorem State.kept_tryImages (code : Nat) (a1 : List Nat) (a2 : State) : (State.tryImages code a1 a2).kept = a2.kept :=
  (State.tryImages_changes ..).kept
@[simp] theorem State.kept_emitAll (s : State) (l : List Out) : (State.emitAll s l).kept = s.kept :=
  (State.emitAll_changes ..).kept
@[simp] theorem State.kept_domLoad (d : Nat) (s : State) : (State.domLoad d s).kept = s.kept := (State.domLoad_changes ..).kept
@[simp] theorem State.kept_storeTrained (s : State) : (State.storeTrained s).kept = s.kept :=
  (State.storeTrained_changes ..).kept
@[simp] theorem State.kept_selfTested (a0 : List (Fin 16 × Fin 66)) (a1 : State) : (State.selfTested a0 a1).kept = a1.kept :=
  (State.selfTested_changes ..).kept
@[simp] theorem State.kept_loadTime (s : State) (dt : Nat) (c : Switch) : (State.loadTime s dt c).kept = s.kept :=
  (State.loadTime_changes ..).kept
@[simp] theorem State.kept_opResult (s : State) (r : Nat) (done : Bool) : (State.opResult s r done).kept = s.kept :=
  (State.opResult_changes ..).kept
@[simp] theorem State.kept_setMark (s : State) (dev : Nat) (m : Nat) : (State.setMark s dev m).kept = s.kept :=
  (State.setMark_changes ..).kept
@[simp] theorem State.kept_opStart (s : State) (x : FlashOp) (touches : Bool) : (State.opStart s x touches).kept = s.kept :=
  (State.opStart_changes ..).kept
@[simp] theorem State.kept_writeOp (s : State) (x : FlashOp) (first : Nat) (count : Nat) :
    (State.writeOp s x first count).kept = s.kept :=
  (State.writeOp_changes ..).kept
@[simp] theorem State.kept_flashProgram (s : State) (dev : Nat) (a : Nat) (data : List Byte) :
    (State.flashProgram s dev a data).kept = s.kept :=
  (State.flashProgram_changes ..).kept
@[simp] theorem State.kept_flashErase (s : State) (dev : Nat) (a : Nat) (n : Nat) :
    (State.flashErase s dev a n).kept = s.kept :=
  (State.flashErase_changes ..).kept
@[simp] theorem State.kept_flashIdle (s : State) (dev : Nat) : (State.flashIdle s dev).kept = s.kept :=
  (State.flashIdle_changes ..).kept
@[simp] theorem State.kept_opEnd (s : State) (r : Nat) (n : Nat) : (State.opEnd s r n).kept = s.kept :=
  (State.opEnd_changes ..).kept
@[simp] theorem State.kept_verifyEnd (s : State) (dev : Nat) : (State.verifyEnd s dev).kept = s.kept :=
  (State.verifyEnd_changes ..).kept
@[simp] theorem State.kept_dropSwitch (s : State) : (State.dropSwitch s).kept = s.kept := (State.dropSwitch_changes ..).kept

/-! Operations of Machine/Power.lean. -/

@[simp] theorem State.kept_waitBudget (s : State) (need : Nat) : (State.waitBudget s need).kept = s.kept :=
  (State.waitBudget_changes ..).kept
@[simp] theorem State.kept_domCame (d : Nat) (s : State) : (State.domCame d s).kept = s.kept := (State.domCame_changes ..).kept
@[simp] theorem State.kept_domCmd (s : State) (d : Nat) (on : Bool) : (State.domCmd s d on).kept = s.kept :=
  (State.domCmd_changes ..).kept
@[simp] theorem State.kept_warn (s : State) : (State.warn s).kept = s.kept := (State.warn_changes ..).kept
@[simp] theorem State.kept_warnAt (s : State) (mv : BitVec 16) : (State.warnAt s mv).kept = s.kept :=
  (State.warnAt_changes ..).kept
@[simp] theorem State.kept_resetTo (s : State) (mode : Nat) (cause : Nat) : (State.resetTo s mode cause).kept = s.kept :=
  (State.resetTo_changes ..).kept
@[simp] theorem State.kept_placeHeld (a0 : List Held) (a1 : State) : (State.placeHeld a0 a1).kept = a1.kept :=
  (State.placeHeld_changes ..).kept
@[simp] theorem State.kept_doMarks (a0 : List (Nat × Nat × Nat)) (a1 : State) : (State.doMarks a0 a1).kept = a1.kept :=
  (State.doMarks_changes ..).kept
@[simp] theorem State.kept_drainHeld (a0 : List Held) (a1 : State) : (State.drainHeld a0 a1).kept = a1.kept :=
  (State.drainHeld_changes ..).kept
@[simp] theorem State.kept_refuseMode (s : State) (cause : Nat) : (State.refuseMode s cause).kept = s.kept :=
  (State.refuseMode_changes ..).kept
@[simp] theorem State.kept_beginTrans (s : State) (target : Nat) : (State.beginTrans s target).kept = s.kept :=
  (State.beginTrans_changes ..).kept
@[simp] theorem State.kept_leaveIdle (s : State) (target : Nat) : (State.leaveIdle s target).kept = s.kept :=
  (State.leaveIdle_changes ..).kept
@[simp] theorem State.kept_toIdle (s : State) : (State.toIdle s).kept = s.kept := (State.toIdle_changes ..).kept
@[simp] theorem State.kept_leaveService (s : State) (toBuild : Bool) : (State.leaveService s toBuild).kept = s.kept :=
  (State.leaveService_changes ..).kept
@[simp] theorem State.kept_enterTarget (s : State) : (State.enterTarget s).kept = s.kept := (State.enterTarget_changes ..).kept

/-! Operations of Machine/Helm.lean. -/

@[simp] theorem State.kept_setCore (s : State) (c : Nat) (v : Nat) : (State.setCore s c v).kept = s.kept :=
  (State.setCore_changes ..).kept
@[simp] theorem State.kept_outvote (s : State) (c : Nat) : (State.outvote s c).kept = s.kept := (State.outvote_changes ..).kept
@[simp] theorem State.kept_wdtWrite (s : State) (who : Requester) (v : Word) : (State.wdtWrite s who v).kept = s.kept :=
  (State.wdtWrite_changes ..).kept

/-! Operations of Machine/Session.lean. -/

@[simp] theorem State.kept_setMbxState (s : State) (st : Nat) (lvl : Nat) : (State.setMbxState s st lvl).kept = s.kept :=
  (State.setMbxState_changes ..).kept
@[simp] theorem State.kept_mbxOpen (s : State) (level : Nat) : (State.mbxOpen s level).kept = s.kept :=
  (State.mbxOpen_changes ..).kept
@[simp] theorem State.kept_mbxProof (s : State) (level : Nat) : (State.mbxProof s level).kept = s.kept :=
  (State.mbxProof_changes ..).kept
@[simp] theorem State.kept_setSlot (s : State) (k : Nat) (x : Slot) : (State.setSlot s k x).kept = s.kept :=
  (State.setSlot_changes ..).kept
@[simp] theorem State.kept_dgOpen (p : Nat) (g : Dgram) (s : State) : (State.dgOpen p g s).kept = s.kept :=
  (State.dgOpen_changes ..).kept
@[simp] theorem State.kept_dgProof (p : Nat) (g : Dgram) (s : State) : (State.dgProof p g s).kept = s.kept :=
  (State.dgProof_changes ..).kept
@[simp] theorem State.kept_slotClose (s : State) (k : Nat) : (State.slotClose s k).kept = s.kept :=
  (State.slotClose_changes ..).kept

/-! Operations of Machine/Access.lean. -/

@[simp] theorem State.kept_busWrite (s : State) (who : Requester) (a : Nat) (v : Word) :
    (State.busWrite s who a v).kept = s.kept :=
  (State.busWrite_changes ..).kept
@[simp] theorem State.kept_busRead (s : State) (who : Requester) (a : Nat) : (State.busRead s who a).kept = s.kept :=
  (State.busRead_changes ..).kept
@[simp] theorem State.kept_dgAccess (p : Nat) (k : Nat) (g : Dgram) (s : State) : (State.dgAccess p k g s).kept = s.kept :=
  (State.dgAccess_changes ..).kept

/-! ### Lists of instances, and either of two states -/

theorem State.kept_eachOf {k : Nat → State → State} (hk : ∀ i s, (k i s).kept = s.kept) (l : List Nat) (s : State) :
    (State.eachOf k l s).kept = s.kept := by
  induction l generalizing s with
  | nil => rfl
  | cons i l ih => exact (ih _).trans (hk i s)

theorem State.kept_eachInst {k : Nat → State → State} (hk : ∀ i s, (k i s).kept = s.kept) (l : List Nat) (s : State) :
    (State.eachInst k l s).kept = s.kept := by
  induction l generalizing s with
  | nil => rfl
  | cons i l ih => exact (ih _).trans (hk i s)

theorem State.kept_eachBeam {k : Nat → State → State} (hk : ∀ i s, (k i s).kept = s.kept) (l : List Nat) (s : State) :
    (State.eachBeam k l s).kept = s.kept := by
  induction l generalizing s with
  | nil => rfl
  | cons i l ih => exact (ih _).trans (by split <;> simp [hk])

theorem State.kept_foldl {α : Type} {f : State → α → State} (hf : ∀ s x, (f s x).kept = s.kept) (l : List α) (s : State) :
    (l.foldl f s).kept = s.kept := by
  induction l generalizing s with
  | nil => rfl
  | cons x l ih => exact (ih _).trans (hf s x)

@[simp] theorem State.kept_ite {c : Prop} [Decidable c] {a b : State} :
    (if c then a else b).kept = if c then a.kept else b.kept :=
  apply_ite State.kept c a b

theorem State.kept_if {c : Prop} [Decidable c] {a b : State} {x : List Instr × Variant} (ha : a.kept = x) (hb : b.kept = x) :
    (if c then a else b).kept = x := by
  split <;> assumption

theorem State.kept_snd_if {α : Type} {c : Prop} [Decidable c] {p q : α × State} {x : List Instr × Variant} (hp : p.2.kept = x)
    (hq : q.2.kept = x) : (if c then p else q).2.kept = x := by
  split <;> assumption

/-! ### The gates and the frames of commands that go on with a state or a step of their own -/

section
variable {s k : State}

@[simp] theorem State.kept_flrGate {who : Requester} {posted : Bool} (hk : k.kept = s.kept) :
    (s.flrGate who posted k).kept = s.kept := by
  simp [State.flrGate, hk]

@[simp] theorem State.kept_gated {who : Requester} {lvl : Nat} (hk : k.kept = s.kept) : (s.gated who lvl k).kept = s.kept := by
  simp [State.gated, hk]

@[simp] theorem State.kept_writeGate {who : Requester} {r : Reg} {i : Nat} (hk : k.kept = s.kept) :
    (s.writeGate who r i k).kept = s.kept := by
  simp [State.writeGate, hk]

@[simp] theorem State.kept_readGate {who : Requester} {unit i lvl : Nat} (hk : k.kept = s.kept) :
    (s.readGate who unit i lvl k).kept = s.kept := by
  rw [State.readGate, State.kept_flrGate]
  simp [hk]

@[simp] theorem State.kept_memReq {posted : Bool} {header : List Word} (hk : k.kept = s.kept) :
    (s.memReq posted header k).kept = s.kept := by
  simp [State.memReq, hk]

@[simp] theorem State.kept_lseqIssue {i : LumOp} (hk : k.kept = s.kept) : (s.lseqIssue i k).kept = s.kept := by
  simp [State.lseqIssue, hk]

end

section
variable {k : State → State}

@[simp] theorem State.kept_beamAt {s : State} {n dt : Nat} (hk : ∀ t, (k t).kept = t.kept) :
    (s.beamAt n dt k).kept = s.kept := by
  simp [State.beamAt, hk]

@[simp] theorem State.kept_onBeam {s : State} {n dt : Nat} (hk : ∀ t, (k t).kept = t.kept) :
    (s.onBeam n dt k).kept = s.kept := by
  simp [State.onBeam, hk]

@[simp] theorem State.kept_onLum {s : State} {n dt due : Nat} (hk : ∀ t, (k t).kept = t.kept) :
    (s.onLum n dt due k).kept = s.kept := by
  simp [State.onLum, hk]

@[simp] theorem State.kept_onPort {s : State} {p dt : Nat} (hk : ∀ t, (k t).kept = t.kept) :
    (s.onPort p dt k).kept = s.kept := by
  simp [State.onPort, hk]

@[simp] theorem State.kept_onPacket {s : State} {p dt len : Nat} (hk : ∀ t, (k t).kept = t.kept) :
    (s.onPacket p dt len k).kept = s.kept :=
  State.kept_onPort fun t => by simp [hk]

@[simp] theorem State.kept_onInst {s : State} {d p dt due : Nat} (hk : ∀ t, (k t).kept = t.kept) :
    (s.onInst d p dt due k).kept = s.kept := by
  simp [State.onInst, hk]

@[simp] theorem State.kept_seqIssue {s : State} {q : Nat} {i : SeqOp} (hk : ∀ t, (k t).kept = t.kept) :
    (s.seqIssue q i k).kept = s.kept := by
  simp [State.seqIssue, hk]

@[simp] theorem State.kept_bootOp {s : State} {who : Requester} (hk : ∀ t, (k t).kept = t.kept) :
    (s.bootOp who k).kept = s.kept := by
  simp [State.bootOp, hk]

@[simp] theorem State.kept_scnCmd {s : State} {who : Requester} {n : Nat} (hk : ∀ t, (k t).kept = t.kept) :
    (s.scnCmd who n k).kept = s.kept := by
  simp [State.scnCmd, hk]

@[simp] theorem State.kept_scnRestart {s : State} {who : Requester} {n : Nat} (hk : ∀ t, (k t).kept = t.kept) :
    (s.scnRestart who n k).kept = s.kept := by
  simp [State.scnRestart, hk]

@[simp] theorem State.kept_modeRequest {s : State} {who : Requester} {m : Nat} (hk : ∀ t, (k t).kept = t.kept) :
    (s.modeRequest who m k).kept = s.kept := by
  simp [State.modeRequest, hk]

@[simp] theorem State.kept_inbound {s : State} {t : Tlp} (hk : ∀ t, (k t).kept = t.kept) : (s.inbound t k).kept = s.kept := by
  unfold State.inbound
  split <;> simp [hk]

@[simp] theorem State.kept_withMet {s : State} {met : Option ModeMet} (hk : ∀ t, (k t).kept = t.kept) :
    (s.withMet met k).kept = s.kept := by
  unfold State.withMet
  split <;> simp [hk]

end

section
variable {k : Nat → State → State}

@[simp] theorem State.kept_allBeams {s : State} (hk : ∀ n t, (k n t).kept = t.kept) : (s.allBeams k).kept = s.kept :=
  State.kept_eachBeam hk _ _

@[simp] theorem State.kept_takeNow {s : State} {n : Fin 12} {i : Instr} {layerEnd : Bool} (hk : ∀ n t, (k n t).kept = t.kept) :
    (s.takeNow n i layerEnd k).kept = s.kept := by
  simp only [State.takeNow]
  split_ifs <;> simp [hk]

@[simp] theorem State.kept_takeRecord {s : State} {n : Fin 12} {i : Instr} (hk : ∀ n t, (k n t).kept = t.kept) :
    (s.takeRecord n i k).kept = s.kept := by
  simp [State.takeRecord, hk]

@[simp] theorem State.kept_takeAtRest {s : State} {n : Fin 12} {i : Instr} {layerEnd : Bool}
    (hk : ∀ n t, (k n t).kept = t.kept) : (s.takeAtRest n i layerEnd k).kept = s.kept := by
  simp [State.takeAtRest, hk]

@[simp] theorem State.kept_ptpIn {s : State} {p dt : Nat} {m : PtpMsg} (hk : ∀ n t, (k n t).kept = t.kept) :
    (s.ptpIn p dt m k).kept = s.kept := by
  unfold State.ptpIn
  dsimp only
  split
  · simp
  · split <;> simp [hk]

end

@[simp] theorem State.kept_phaseEnd {k : Pause → Nat → State → State} {s : State} {n dt ph : Nat}
    (hk : ∀ p n t, (k p n t).kept = t.kept) : (s.phaseEnd n dt ph k).kept = s.kept := by
  refine State.kept_onBeam fun t => ?_
  split <;> simp [hk]

@[simp] theorem State.kept_dgIn {k : Dgram → State → State} {s : State} {p dt type : Nat} {data : List Byte}
    (hk : ∀ g t, (k g t).kept = t.kept) : (s.dgIn p dt type data k).kept = s.kept := by
  unfold State.dgIn
  dsimp only
  split
  · simp
  · split
    · simp
    · split <;> simp [hk]

@[simp] theorem State.kept_dgTag {k : Nat → Dgram → State → State} {p : Nat} {g : Dgram} {s : State}
    (hk : ∀ i g t, (k i g t).kept = t.kept) : (State.dgTag p k g s).kept = s.kept := by
  unfold State.dgTag
  split <;> simp [hk]

/-! ### The commands -/

/-- The command answers a next state with the queue and the variant of the state before. -/
def Keeps (o : Res) (s : State) : Prop := ∃ t, o = .next t ∧ t.kept = s.kept

@[simp] theorem keeps_next (s t : State) : Keeps (.next t) s ↔ t.kept = s.kept := by simp [Keeps]

section
open State

theorem execHalSeqWait_keeps (q : Fin 32) (us : BitVec 24) (s : State) : Keeps (execHalSeqWait q us s) s := by
  refine (keeps_next ..).2 (kept_seqIssue fun t => ?_)
  dsimp only
  split <;> simp

theorem execVfTestEnd_keeps (n : Fin 8) (dt : Nat) (uv : BitVec 22) (s : State) : Keeps (execVfTestEnd n dt uv s) s := by
  refine (keeps_next ..).2 ?_
  split
  · rfl
  · extract_lets s1 v f x s2
    have hs1 : s1.kept = s.kept := kept_passTo ..
    clear_value s1
    have hf : f.2.kept = s.kept := kept_snd_if hs1 ((kept_freeBits ..).trans hs1)
    have hs2 : s2.kept = s.kept := (kept_lumGate ..).trans ((kept_setFld ..).trans ((kept_setLm ..).trans hf))
    exact kept_if ((kept_lumPublish ..).trans ((kept_setFld ..).trans hs2)) hs2

theorem execProjSync_keeps (dt : Nat) (rising : Bool) (s : State) : Keeps (execProjSync dt rising s) s := by
  simp only [execProjSync, keeps_next]
  split_ifs <;> simp

theorem execDefectMapWrite_keeps (who : Requester) (word : Fin 384) (v : BitVec 32) (s : State) :
    Keeps (execDefectMapWrite who word v s) s :=
  (keeps_next ..).2 (kept_writeGate rfl)

theorem execLoadpatDone_keeps (dt : Nat) (s : State) : Keeps (execLoadpatDone dt s) s := by
  refine (keeps_next ..).2 ?_
  split
  · exact kept_if rfl ((kept_mk ..).trans ((kept_copyPat ..).trans (kept_passTo ..)))
  · rfl

theorem execQueRdHead_keeps (who : Requester) (q : Fin 64) (bad : List Nat) (upset : Bool) (s : State) :
    Keeps (execQueRdHead who q bad upset s) s := by
  refine (keeps_next ..).2 (kept_readGate ?_)
  have hchecked : ((s.queUpset q.val upset).quePtrCheck q.val).kept = s.kept := by simp
  refine kept_if hchecked ?_
  split
  · exact hchecked
  · dsimp only
    split
    · exact (kept_putQue ..).trans hchecked
    · exact hchecked

theorem execQueRdData_keeps (who : Requester) (q : Fin 64) (s : State) : Keeps (execQueRdData who q s) s := by
  refine (keeps_next ..).2 (kept_readGate (kept_if (kept_quePtrCheck ..) ?_))
  split
  · exact kept_quePtrCheck ..
  · exact (kept_putQue ..).trans (kept_quePtrCheck ..)

theorem execBar2Read_keeps (addr len : Nat) (errs : List (Nat × BurstErr)) (tlp : Tlp) (s : State) :
    Keeps (execBar2Read addr len errs tlp s) s := by
  refine (keeps_next ..).2 (kept_inbound fun t => kept_memReq ?_)
  refine kept_if (kept_if (kept_completions ..) ?_) (kept_completions ..)
  exact (kept_completions ..).trans (kept_if (kept_storeFetch ..) (kept_storeFetch ..))

theorem execMpUnitWrite_keeps (n : Fin 12) (dt wait : Nat) (s : State) : Keeps (execMpUnitWrite n dt wait s) s := by
  refine (keeps_next ..).2 ?_
  dsimp only
  split
  · exact kept_if rfl (kept_mpUnit ..)
  · rfl

theorem execWaitRecord_keeps (n : Fin 12) (w : Fin 4) (timeout : BitVec 32) (s : State) :
    Keeps (execWaitRecord n w timeout s) s := by
  refine (keeps_next ..).2 (kept_takeAtRest fun _ t => ?_)
  dsimp only
  split <;> simp

theorem execMeterRecord_keeps (n : Fin 12) (input : Fin 4) (profile : BitVec 3) (cm : BitVec 16) (us : BitVec 32) (s : State) :
    Keeps (execMeterRecord n input profile cm us s) s :=
  (keeps_next ..).2 (kept_takeAtRest fun _ _ => kept_if (kept_badRecord ..) (kept_setWant ..))

theorem execEndRecord_keeps (n : Fin 12) (s : State) : Keeps (execEndRecord n s) s :=
  (keeps_next ..).2 (kept_takeAtRest fun _ _ => rfl)

theorem execLayerEnd_keeps (n : Fin 12) (s : State) : Keeps (execLayerEnd n s) s :=
  (keeps_next ..).2 (kept_takeAtRest fun _ _ => rfl)

theorem execBlockFetch_keeps (n : Fin 12) (block : Nat) (errs : List (Nat × BurstErr)) (s : State) :
    Keeps (execBlockFetch n block errs s) s :=
  (keeps_next ..).2 (kept_if rfl ((kept_setSc ..).trans (kept_storeFetch ..)))

theorem execRestartAtStop_keeps (who : Requester) (n : Fin 12) (s : State) : Keeps (execRestartAtStop who n s) s := by
  refine (keeps_next ..).2 (kept_scnRestart fun t => ?_)
  dsimp only
  split
  · exact kept_if (kept_setPhase ..) (kept_reRequest ..)
  · rfl

theorem execRotationHoldEnd_keeps (n : Fin 12) (dt : Nat) (s : State) : Keeps (execRotationHoldEnd n dt s) s := by
  refine (keeps_next ..).2 (kept_onBeam fun t => ?_)
  dsimp only
  split
  · exact (kept_setSc ..).trans ((kept_refresh ..).trans (kept_passTo ..))
  · rfl

theorem execMissTimer_keeps (n : Fin 12) (dt : Nat) (s : State) : Keeps (execMissTimer n dt s) s := by
  refine (keeps_next ..).2 ?_
  split
  · rfl
  next due _ =>
    have hnow : ((s.passTo dt due).refresh n).kept = s.kept := (kept_refresh ..).trans (kept_passTo ..)
    dsimp only
    split
    · exact (kept_setSh ..).trans hnow
    · exact (kept_missOne ..).trans hnow

theorem execControlResponse_keeps (p : Fin 64) (pkt : Packet) (s : State) : Keeps (execControlResponse p pkt s) s := by
  refine (keeps_next ..).2 (kept_onPacket fun t => ?_)
  have htaken : (t.takePacket p pkt).2.kept = t.kept := kept_takePacket ..
  refine kept_if htaken (kept_if ?_ ?_)
  · split
    · exact kept_if ((kept_setPt ..).trans htaken) htaken
    · exact htaken
  · split
    · exact kept_if (by simp) htaken
    · exact htaken

theorem execFrameNumLoRead_keeps (who : Requester) (p : Fin 64) (s : State) : Keeps (execFrameNumLoRead who p s) s :=
  (keeps_next ..).2 (kept_readGate rfl)

theorem execTrackingUpdate_keeps (n : Fin 12) (dt : Nat) (s : State) : Keeps (execTrackingUpdate n dt s) s := by
  refine (keeps_next ..).2 (kept_beamAt fun t => ?_)
  extract_lets b frozen b1 k1 k2 tracked
  refine kept_if (kept_setBc ..) ?_
  have htracked : tracked.kept = t.kept := by
    unfold tracked
    split <;> exact kept_setBc ..
  exact kept_if htracked ((kept_reversal ..).trans htracked)

theorem execMeterReading_keeps (n : Fin 12) (adc : BitVec 16) (s : State) : Keeps (execMeterReading n adc s) s := by
  refine (keeps_next ..).2 (kept_if rfl ?_)
  extract_lets x s1 power
  have hs1 : s1.kept = s.kept := kept_mk ..
  clear_value s1
  split
  · extract_lets last s2 y s3
    have hs2 : s2.kept = s.kept := (kept_meterRule ..).trans ((kept_wr ..).trans ((kept_bump ..).trans hs1))
    clear_value s2
    have hs3 : s3.kept = s.kept := (kept_setFld ..).trans ((kept_setSc ..).trans hs2)
    exact (kept_waitDone ..).trans ((kept_setWant ..).trans hs3)
  · rfl

theorem execZEdge_keeps (n : Fin 16) (dt : Nat) (edge : Option (Bool × Bool)) (held : Nat) (s : State) :
    Keeps (execZEdge n dt edge held s) s := by
  cases edge <;> simp only [execZEdge, keeps_next] <;> split_ifs <;> simp

theorem execEncoderCountWrite_keeps (who : Requester) (n : Fin 16) (v : Word) (z : Bool) (edge : Option (Bool × Bool))
    (s : State) : Keeps (execEncoderCountWrite who n v z edge s) s := by
  have hwrite : (s.writeGate who .CAP_ENC_COUNT n (s.setCount n v)).kept = s.kept := kept_writeGate (kept_setCount ..)
  refine (keeps_next ..).2 (kept_if ((kept_zReset ..).trans hwrite) ?_)
  split
  · exact (kept_encEdge ..).trans hwrite
  · exact hwrite

theorem execTileDispatch_keeps (m : Fin 16) (dt : Nat) (s : State) : Keeps (execTileDispatch m dt s) s := by
  have hnow : ((s.advance dt).loadDone m).kept = s.kept := kept_loadDone ..
  refine (keeps_next ..).2 (kept_if hnow ?_)
  split
  · exact hnow
  · exact kept_if ((kept_bump ..).trans ((kept_setMs ..).trans hnow)) ((kept_setMs ..).trans hnow)

theorem execWatchdogExpiry_keeps (m : Fin 16) (e : Fin 66) (dt : Nat) (commit : Bool) (s : State) :
    Keeps (execWatchdogExpiry m e dt commit s) s := by
  refine (keeps_next ..).2 ?_
  split
  · rfl
  · refine kept_if rfl ?_
    dsimp only
    split
    · exact (kept_sparEnd ..).trans (kept_passTo ..)
    · exact (kept_expire ..).trans (kept_passTo ..)

theorem execFault0Read_keeps (who : Requester) (m : Fin 16) (s : State) : Keeps (execFault0Read who m s) s := by
  refine (keeps_next ..).2 (kept_readGate ?_)
  dsimp only
  split
  · rfl
  · exact (kept_emit ..).trans ((kept_setFld ..).trans ((kept_wr ..).trans (kept_setMs ..)))

theorem execNowSecLoRead_keeps (who : Requester) (s : State) : Keeps (execNowSecLoRead who s) s :=
  (keeps_next ..).2 (kept_readGate ((kept_emit ..).trans ((kept_wr ..).trans (kept_wr ..))))

theorem execCapSecLoRead_keeps (who : Requester) (i : Fin 8) (s : State) : Keeps (execCapSecLoRead who i s) s :=
  (keeps_next ..).2 (kept_readGate ((kept_emit ..).trans ((kept_setFld ..).trans ((kept_wr ..).trans (kept_wr ..)))))

theorem execFollowUp_keeps (p : Fin 2) (m : PtpMsg) (met : Bool) (s : State) : Keeps (execFollowUp p m met s) s := by
  refine (keeps_next ..).2 (kept_ptpIn fun d t => ?_)
  dsimp only
  split
  · exact kept_if ((kept_measure ..).trans (kept_setInst ..)) rfl
  · rfl

theorem execDelayResp_keeps (p : Fin 2) (m : PtpMsg) (s : State) : Keeps (execDelayResp p m s) s := by
  refine (keeps_next ..).2 (kept_ptpIn fun d t => ?_)
  dsimp only
  split
  · exact kept_if ((kept_setPath ..).trans (kept_setInst ..)) rfl
  · rfl

theorem execPdelayResp_keeps (p : Fin 2) (dt : Nat) (m : PtpMsg) (s : State) : Keeps (execPdelayResp p dt m s) s := by
  refine (keeps_next ..).2 (kept_ptpIn fun d t => ?_)
  dsimp only
  split
  · exact kept_if (kept_if (kept_setInst ..) (kept_peerPath ..)) rfl
  · rfl

theorem execPdelayRespFollowUp_keeps (p : Fin 2) (m : PtpMsg) (s : State) : Keeps (execPdelayRespFollowUp p m s) s := by
  refine (keeps_next ..).2 (kept_ptpIn fun d t => ?_)
  split
  · exact kept_if (kept_peerPath ..) rfl
  · rfl

theorem execPortLinkChange_keeps (p : Fin 2) (up modAbs los txFault : Bool) (s : State) :
    Keeps (execPortLinkChange p up modAbs los txFault s) s :=
  (keeps_next ..).2 (kept_if rfl ((kept_eachOf (fun _ _ => kept_if rfl (kept_if ((kept_setPortState ..).trans (kept_setInst ..))
    (kept_if rfl ((kept_setPortState ..).trans (kept_setInst ..))))) ..).trans (kept_wr ..)))

theorem execRingMessage_keeps (r : Fin 2) (dt : Nat) (nibs : List (BitVec 4)) (s : State) :
    Keeps (execRingMessage r dt nibs s) s := by
  refine (keeps_next ..).2 ?_
  extract_lets s0 l f origin hops code bad x s1 s2 last
  have hs0 : s0.kept = s.kept := (kept_ringSecond ..).trans (kept_advance ..)
  clear_value s0
  have hs1 : s1.kept = s.kept := kept_if ((kept_bump ..).trans hs0) hs0
  clear_value s1
  have hs2 : s2.kept = s.kept := (kept_ringForward ..).trans hs1
  clear_value s2
  refine kept_if hs0 (kept_if ?_ (kept_if ((kept_bump ..).trans hs1) (kept_if hs2 ?_)))
  · split
    · exact (kept_wr ..).trans ((kept_setRing ..).trans hs1)
    · exact (kept_setFld ..).trans hs1
  · exact (kept_publish ..).trans ((kept_bump ..).trans ((kept_wr ..).trans hs2))

theorem execReadBackDone_keeps (n : Fin 32) (errs : List (Nat × BurstErr)) (s : State) :
    Keeps (execReadBackDone n errs s) s := by
  refine (keeps_next ..).2 ?_
  refine kept_if rfl (kept_if ?_ (kept_if ?_ rfl))
  · split
    · exact kept_if rfl ((kept_ctRefill ..).trans ((kept_ctShow ..).trans ((kept_setCur ..).trans ((kept_setDm ..).trans
        ((kept_dmaRetire ..).trans (kept_if (kept_bump ..) rfl))))))
    · rfl
  · exact (kept_dmaNext ..).trans ((kept_setDm ..).trans ((kept_dmaRetire ..).trans
      (kept_if ((kept_bump ..).trans (kept_if (kept_storeFetch ..) rfl)) (kept_if (kept_storeFetch ..) rfl))))

theorem execLinkReread_keeps (n : Fin 32) (errs : List (Nat × BurstErr)) (s : State) : Keeps (execLinkReread n errs s) s := by
  refine (keeps_next ..).2 ?_
  extract_lets x r s0 b y link desc s1
  have hs0 : s0.kept = s.kept := kept_if (kept_storeFetch ..) rfl
  clear_value s0
  have hs1 : s1.kept = s.kept := (kept_setDm ..).trans hs0
  clear_value s1
  exact kept_if rfl (kept_if ((kept_endCheck ..).trans hs1) ((kept_dmaLoad ..).trans hs1))

theorem execDrainItem_keeps (n : Fin 32) (dt : Nat) (bad : List Nat) (s : State) : Keeps (execDrainItem n dt bad s) s := by
  refine (keeps_next ..).2 ?_
  extract_lets k s0 x q s1 y
  have hs0 : s0.kept = s.kept := kept_burstWait ..
  clear_value s0
  have hs1 : s1.kept = s.kept := (kept_quePtrCheck ..).trans hs0
  clear_value s1
  have hend (z : State) (hz : z.kept = s.kept) : ((z.dropDrain k x.desc).readBack k).kept = s.kept :=
    (kept_readBack ..).trans ((kept_dropDrain ..).trans hz)
  refine kept_if hs0 ?_
  split
  · exact kept_if hs1 (hend _ hs1)
  · refine kept_if (hend _ hs1) (kept_if hs1 ?_)
    extract_lets s2 s3 d s4
    have hs2 : s2.kept = s.kept := (kept_putQue ..).trans ((kept_dmaPay ..).trans ((kept_burstServed ..).trans hs1))
    clear_value s2
    have hs3 : s3.kept = s.kept := (kept_dmaWrite ..).trans hs2
    clear_value s3
    have hs4 : s4.kept = s.kept := (kept_setDmaState ..).trans ((kept_setDm ..).trans hs3)
    exact kept_if (hend _ hs4) hs4

theorem execMigrationCopy_keeps (dt : Nat) (errs : List (Nat × BurstErr)) (s : State) :
    Keeps (execMigrationCopy dt errs s) s := by
  refine (keeps_next ..).2 ?_
  split
  · rfl
  · extract_lets s1
    have hs1 : s1.kept = s.kept := kept_passTo ..
    clear_value s1
    refine kept_if hs1 ?_
    split
    · exact kept_if ((kept_migDone ..).trans ((kept_migNotices ..).trans hs1)) hs1
    · exact kept_if ((kept_setFld ..).trans hs1) ((kept_migCopy ..).trans hs1)

theorem execChannelRetired_keeps (s : State) : Keeps (execChannelRetired s) s := by
  refine (keeps_next ..).2 ?_
  split
  · rfl
  · extract_lets wrapped touch s1 s2
    have hs1 : s1.kept = s.kept := (kept_setDom ..).trans (kept_setFld ..)
    clear_value s1
    have hs2 : s2.kept = s.kept := (kept_foldl (fun _ _ => kept_voidWhere ..) ..).trans hs1
    exact kept_if rfl ((kept_publish ..).trans ((kept_storeStatus ..).trans hs2))

theorem execEventDelivery_keeps (h : Fin 256) (h2 : Option (Fin 256)) (met : BitVec 16) (s : State) :
    Keeps (execEventDelivery h h2 met s) s := by
  refine (keeps_next ..).2 (kept_if rfl ?_)
  extract_lets s1 s2 a b
  have hs2 : s2.kept = s.kept := by cases h2 <;> simp [s2, s1]
  clear_value s2
  have ha : a.2.kept = s.kept := (kept_nextEvent ..).trans hs2
  clear_value a
  have hb : b.2.kept = s.kept := by
    cases h2 with
    | none => exact ha
    | some k => exact kept_snd_if ha ((kept_nextEvent ..).trans ha)
  clear_value b
  split
  · exact hb
  · exact (kept_deliverOne ..).trans hb
  · exact (kept_deliverOne ..).trans hb
  · exact (kept_deliverTwo ..).trans hb

theorem execCompletion_keeps (tag : Fin 1024) (status : CplStatus) (data : List Byte) (tlp : Tlp) (met : Bool) (s : State) :
    Keeps (execCompletion tag status data tlp met s) s := by
  refine (keeps_next ..).2 (kept_inbound fun t => ?_)
  split
  · exact (kept_bump ..).trans (kept_aerLog ..)
  · exact kept_if (kept_dropCompletion ..) (kept_if (kept_dropCompletion ..) (kept_takeCompletion ..))

theorem execLoadStart_keeps (dt : Nat) (d0 d1 : FlashPort) (dimms : List Dimm) (s : State) :
    Keeps (execLoadStart dt d0 d1 dimms s) s := by
  refine (keeps_next ..).2 (kept_if rfl ?_)
  extract_lets s1
  have hs1 : s1.kept = s.kept := (kept_setFld ..).trans ((kept_emitAll ..).trans (kept_advance ..))
  clear_value s1
  have hs2 := (kept_freeBits s1 16).trans hs1
  split
  next mv s2 hfree =>
    rw [hfree] at hs2
    extract_lets s3 s4 s5 boot s6 pce s7 s8
    have hs4 : s4.kept = s.kept :=
      (kept_eachInst (fun _ _ => kept_setDom ..) ..).trans ((kept_setFld ..).trans ((kept_setFld ..).trans hs2))
    clear_value s4
    have hs5 : s5.kept = s.kept := (kept_flashSeen ..).trans ((kept_flashSeen ..).trans
      ((kept_flashWrites ..).trans ((kept_flashWrites ..).trans hs4)))
    clear_value s5
    have hs7 : s7.kept = s.kept := (kept_spdReads ..).trans ((kept_mk ..).trans ((kept_mk ..).trans hs5))
    clear_value s7
    have hs8 : s8.kept = s.kept := (kept_wr ..).trans ((kept_setFld ..).trans hs7)
    clear_value s8
    exact (kept_tryImages ..).trans ((kept_tableCode ..).trans hs8)

theorem execLoadEnd_keeps (dt : Nat) (failed : List (Fin 16 × Fin 66)) (s : State) : Keeps (execLoadEnd dt failed s) s := by
  unfold execLoadEnd
  split
  · exact (keeps_next ..).2 rfl
  · extract_lets s1 s2 s3 s4 s5 boot helm s6 s7 s8 s9
    have hs1 : s1.kept = s.kept := (kept_putSections ..).trans ((kept_imageDefaults ..).trans (kept_loadTime ..))
    clear_value s1
    have hs2 : s2.kept = s.kept := (kept_putSections ..).trans ((kept_storeTrained ..).trans hs1)
    clear_value s2
    have hs3 : s3.kept = s.kept := (kept_eachInst kept_domLoad ..).trans hs2
    clear_value s3
    have hs4 : s4.kept = s.kept := (kept_eachInst (fun _ _ => kept_setFld ..) ..).trans hs3
    clear_value s4
    have hs5 : s5.kept = s.kept := (kept_eachInst (fun _ _ => kept_wr ..) ..).trans hs4
    clear_value s5
    have hs7 : s7.kept = s.kept := (kept_setFld ..).trans ((kept_wr ..).trans ((kept_setFld ..).trans ((kept_mk ..).trans hs5)))
    clear_value s7
    have hs8 : s8.kept = s.kept := (kept_setMode ..).trans ((kept_wr ..).trans hs7)
    clear_value s8
    have hs9 : s9.kept = s.kept := (kept_widthErrs ..).trans ((kept_eachOf kept_laneStart ..).trans hs8)
    clear_value s9
    exact (keeps_next ..).2 ((kept_selfTested ..).trans ((kept_emitAll ..).trans ((kept_unitsFollow ..).trans hs9)))

theorem execFlashOpDone_keeps (dt : Nat) (errs : List (Nat × BurstErr)) (s : State) : Keeps (execFlashOpDone dt errs s) s := by
  refine (keeps_next ..).2 ?_
  split
  · rfl
  · extract_lets s1
    have hs1 : s1.kept = s.kept := kept_advance ..
    clear_value s1
    split
    · exact (kept_opEnd ..).trans ((kept_flashErase ..).trans hs1)
    · exact (kept_opEnd ..).trans ((kept_flashProgram ..).trans hs1)
    · exact kept_if hs1 ((kept_opEnd ..).trans ((kept_flashProgram ..).trans ((kept_flashErase ..).trans
        ((kept_storeFetch ..).trans hs1))))
    · exact (kept_verifyEnd ..).trans hs1
    · exact (kept_opEnd ..).trans ((kept_setMark ..).trans hs1)

theorem execBootSwitch_keeps (who : Requester) (dev : Bool) (s : State) : Keeps (execBootSwitch who dev s) s := by
  refine (keeps_next ..).2 (kept_bootOp fun t => kept_if (kept_opResult ..) ?_)
  split
  · exact kept_opResult ..
  · exact kept_if (kept_opResult ..) ((kept_opResult ..).trans ((kept_setFld ..).trans ((kept_setFld ..).trans
      ((kept_emitAll ..).trans ((kept_mk ..).trans ((kept_mk ..).trans (kept_bumpBy ..)))))))

theorem execReefRecovery_keeps (dt : Nat) (mv : BitVec 16) (s : State) : Keeps (execReefRecovery dt mv s) s := by
  refine (keeps_next ..).2 (kept_if rfl ?_)
  extract_lets s1 held s' pwr s2 fst s3
  have hs1 : s1.kept = s.kept := (kept_setFld ..).trans (kept_passTo ..)
  clear_value s1
  have hs2 : s2.kept = s.kept := (kept_mk ..).trans ((kept_selfRef ..).trans hs1)
  clear_value s2
  have hs3 : s3.kept = s.kept := (kept_placeHeld ..).trans ((kept_mk ..).trans hs2)
  clear_value s3
  refine kept_if ((kept_resetTo ..).trans hs1) ?_
  exact (kept_allBeams fun _ _ => kept_clearCause ..).trans ((kept_doMarks ..).trans ((kept_mk ..).trans hs3))

theorem execRequestBuild_keeps (who : Requester) (met : Option ModeMet) (s : State) : Keeps (execRequestBuild who met s) s := by
  refine (keeps_next ..).2 (kept_withMet fun t => kept_modeRequest fun u => kept_if ?_ (kept_refuseMode ..))
  split
  · exact kept_refuseMode ..
  · exact (kept_setMode ..).trans (kept_if (kept_leaveService ..) rfl)

theorem execChallengeLapse_keeps (slot : Option (Fin 4)) (dt : Nat) (s : State) : Keeps (execChallengeLapse slot dt s) s := by
  unfold execChallengeLapse
  split
  · split
    · exact (keeps_next ..).2 rfl
    · exact (keeps_next ..).2 ((kept_setMbxState ..).trans ((kept_mk ..).trans (kept_passTo ..)))
  · split
    · exact (keeps_next ..).2 rfl
    · exact (keeps_next ..).2 ((kept_setSlot ..).trans (kept_passTo ..))

end

/-! ### The commands, chapter by chapter: those made of shared operations by `simp`, the others by a lemma each -/

theorem host_keeps {c : Instr} (hch : chapterOf c = .host) (s : State) : Keeps (exec c s) s := by
  cases c with
  | registerWrite | readClear | perstN | hotReset | dlDown | configRequest | bar4Access | msixUnmask | busMasterDisable
  | busMasterEnable | flr | flrDrainEnd | flrDone | l0sEntry | l1Entry | dgramAccess | pcieLinkUp | unsupportedRequest =>
    unfold exec
    simp [execRegisterWrite, execReadClear, execPerstN, execHotReset, execDlDown, execConfigRequest, execBar4Access,
      execMsixUnmask, execBusMasterDisable, execBusMasterEnable, execFlr, execFlrDrainEnd, execFlrDone, execL0sEntry,
      execL1Entry, execDgramAccess, execPcieLinkUp, execUnsupportedRequest]
  | completionTimeout | tagRelease =>
    unfold exec
    simp only [execCompletionTimeout, execTagRelease, keeps_next]
    split <;> simp
  | completion tag status data tlp met => exact execCompletion_keeps tag status data tlp met s
  | _ => cases hch

theorem capture_keeps {c : Instr} (hch : chapterOf c = .capture) (s : State) : Keeps (exec c s) s := by
  cases c with
  | frameStart | lineData | frameEnd | hcrcFail | reservedPacket | cameraStatus | camSilent | triggerAck | ctrlGo | soft
  | scanPathCause | compareArm =>
    unfold exec
    simp [execFrameStart, execLineData, execFrameEnd, execHcrcFail, execReservedPacket, execCameraStatus, execCamSilent,
      execTriggerAck, execCtrlGo, execSoft, execScanPathCause, execCompareArm]
  | closeTimeout | triggerAckTimeout | controlRequestRetry | triggerBlockSend | trigoPulseEnd =>
    unfold exec
    simp only [execCloseTimeout, execTriggerAckTimeout, execControlRequestRetry, execTriggerBlockSend, execTrigoPulseEnd,
      keeps_next]
    split <;> simp
  | controlResponse p pkt => exact execControlResponse_keeps p pkt s
  | frameNumLoRead who p => exact execFrameNumLoRead_keeps who p s
  | _ => cases hch

theorem store_keeps {c : Instr} (hch : chapterOf c = .store) (s : State) : Keeps (exec c s) s := by
  cases c with
  | fstMarkGo | spanReleaseAll | bar2Write | refresh | patrolScrub | ceLeak | layerBarrier | recordingBoundary =>
    unfold exec
    simp [execFstMarkGo, execSpanReleaseAll, execBar2Write, execRefresh, execPatrolScrub, execCeLeak, execLayerBarrier,
      execRecordingBoundary]
  | markSearchDone | spanRelease | spanHoldExpiry =>
    unfold exec
    simp only [execMarkSearchDone, execSpanRelease, execSpanHoldExpiry, keeps_next]
    split <;> simp
  | bar2Read addr len errs tlp => exact execBar2Read_keeps addr len errs tlp s
  | mpUnitWrite n dt wait => exact execMpUnitWrite_keeps n dt wait s
  | eventDelivery h h2 met => exact execEventDelivery_keeps h h2 met s
  | _ => cases hch

theorem dma_keeps {c : Instr} (hch : chapterOf c = .dma) (s : State) : Keeps (exec c s) s := by
  cases c with
  | forceWrap | queWrData =>
    unfold exec
    simp only [execForceWrap, execQueWrData, keeps_next]
    split <;> simp
  | descriptorLoad | burst | dmaDoorbell | dmaStart | dmaStop | dmaAbort | queueItem | dropRest | queueFlush | queWrHead =>
    unfold exec
    simp [execDescriptorLoad, execBurst, execDmaDoorbell, execDmaStart, execDmaStop, execDmaAbort, execQueueItem,
      execDropRest, execQueueFlush, execQueWrHead]
  | migrationCopy dt errs => exact execMigrationCopy_keeps dt errs s
  | channelRetired => exact execChannelRetired_keeps s
  | readBackDone n errs => exact execReadBackDone_keeps n errs s
  | linkReread n errs => exact execLinkReread_keeps n errs s
  | queRdHead who q bad upset => exact execQueRdHead_keeps who q bad upset s
  | queRdData who q => exact execQueRdData_keeps who q s
  | drainItem n dt bad => exact execDrainItem_keeps n dt bad s
  | _ => cases hch

theorem masts_keeps {c : Instr} (hch : chapterOf c = .masts) (s : State) : Keeps (exec c s) s := by
  cases c with
  | sparFault | spareSelftest | shmScrub =>
    unfold exec
    simp [execSparFault, execSpareSelftest, execShmScrub]
  | selftestEnd | mastReload =>
    unfold exec
    simp only [execSelftestEnd, execMastReload, keeps_next]
    split <;> simp
  | tileDispatch m dt => exact execTileDispatch_keeps m dt s
  | watchdogExpiry m e dt commit => exact execWatchdogExpiry_keeps m e dt commit s
  | fault0Read who m => exact execFault0Read_keeps who m s
  | _ => cases hch

theorem spars_keeps {c : Instr} (hch : chapterOf c = .spars) (s : State) : Keeps (exec c s) s := by
  cases c with
  | add | sub | and | or | xor | shl | shr | sar | mul | mulh | min | max | slt | sltu | div | divu | isqrt | cmp | addi
  | andi | ori | xori | lui | shli | shri | sari | cmpi | vadd | vsub | vadds | vsubs | vaddus | vsubus | vmul | vmulq | vmin
  | vmax | vminu | vmaxu | vand | vor | vxor | vabsdu | vshl | vshr | vsar | vsel | vsplat | vnarrow | vnarrowu | vmac | vmacu
  | vaccr | vaccz | vcmpeq | vcmpgt | vcmpgtu | vcmpgeu | vrsum | vrsumu | vrmaxu | vrmaxi | vext | mand | mor | mxor | mnot
  | mtos | stom | mpop | sseek | hist | lcfg | leol | lrd | mcfg | mom | mrd =>
    exact (keeps_next ..).2 (State.kept_sparAlu ..)
  | mfs | b | call | ret | loop | abort | srd | srdr | std =>
    exact (keeps_next ..).2 (State.kept_sparDo ..)
  | ldw | ldh | ldhu | vld | vlut =>
    exact (keeps_next ..).2 (State.kept_sparMem ..)
  | stw | sth | vst | vmulw | vmulwu | vaccwu | swr | swrs | hrd | lab =>
    exact (keeps_next ..).2 (State.kept_sparTry ..)
  | commit =>
    unfold exec
    simp only [execCommit, keeps_next]
    split <;> simp
  | _ => cases hch

theorem sheets_keeps {c : Instr} (hch : chapterOf c = .sheets) (s : State) : Keeps (exec c s) s := by
  cases c with
  | sheetRecord | shtStart | shtStop | resetState =>
    unfold exec
    simp [execSheetRecord, execShtStart, execShtStop, execResetState]
  | evaluation =>
    unfold exec
    simp only [execEvaluation, keeps_next]
    split <;> simp
  | missTimer n dt => exact execMissTimer_keeps n dt s
  | _ => cases hch

theorem beams_keeps {c : Instr} (hch : chapterOf c = .beams) (s : State) : Keeps (exec c s) s := by
  cases c with
  | dacUpdate | modulationPeriod | digitalWord | pacedPulse | pulseEnd | emitOn | emitOff | beamPermitChange
  | permitFaultClear | brefl | alarm | readyLost | wdOnTime | wdDwell | wdMeter | wdNoCopy | cutClear =>
    unfold exec
    simp [execDacUpdate, execModulationPeriod, execDigitalWord, execPacedPulse, execPulseEnd, execEmitOn, execEmitOff,
      execBeamPermitChange, execPermitFaultClear, execBrefl, execAlarm, execReadyLost, execWdOnTime, execWdDwell, execWdMeter,
      execWdNoCopy, execCutClear]
  | rotationDecide | permitDisagree =>
    unfold exec
    simp only [execRotationDecide, execPermitDisagree, keeps_next]
    split <;> simp
  | trackingUpdate n dt => exact execTrackingUpdate_keeps n dt s
  | meterReading n adc => exact execMeterReading_keeps n adc s
  | _ => cases hch

theorem records_keeps {c : Instr} (hch : chapterOf c = .records) (s : State) : Keeps (exec c s) s := by
  cases c with
  | jumpRecord | markRecord | arcRecord | speedRecord | powerRecord | profileRecord | dwellRecord | eventRecord | linkRecord
  | badRecord | streamWindowWrite | dwellEnd | scnStart | scnStop | restartNextRecord | restartNextLayer | pathLoRead =>
    unfold exec
    simp [execJumpRecord, execMarkRecord, execArcRecord, execSpeedRecord, execPowerRecord, execProfileRecord, execDwellRecord,
      execEventRecord, execLinkRecord, execBadRecord, execStreamWindowWrite, execDwellEnd, execScnStart, execScnStop,
      execRestartNextRecord, execRestartNextLayer, execPathLoRead]
  | waitTimeout =>
    unfold exec
    simp only [execWaitTimeout, keeps_next]
    split <;> simp
  | waitRecord n w timeout => exact execWaitRecord_keeps n w timeout s
  | meterRecord n input profile cm us => exact execMeterRecord_keeps n input profile cm us s
  | layerEnd n => exact execLayerEnd_keeps n s
  | endRecord n => exact execEndRecord_keeps n s
  | blockFetch n block errs => exact execBlockFetch_keeps n block errs s
  | restartAtStop who n => exact execRestartAtStop_keeps who n s
  | _ => cases hch

theorem scanMotion_keeps {c : Instr} (hch : chapterOf c = .scanMotion) (s : State) : Keeps (exec c s) s := by
  cases c with
  | lateData | shroudFrameSend | shroudLost | clearanceCheck | rampOffEnd | decelEnd | backupEnd | refireHoldEnd | reentryEnd
  | rampOnEnd | calibRecord | shroudSyncLost =>
    unfold exec
    simp [execLateData, execShroudFrameSend, execShroudLost, execClearanceCheck, execRampOffEnd, execDecelEnd, execBackupEnd,
      execRefireHoldEnd, execReentryEnd, execRampOnEnd, execCalibRecord, execShroudSyncLost]
  | shroudFrameReceived =>
    unfold exec
    simp only [execShroudFrameReceived, keeps_next]
    split <;> simp
  | rotationHoldEnd n dt => exact execRotationHoldEnd_keeps n dt s
  | _ => cases hch

theorem light_keeps {c : Instr} (hch : chapterOf c = .light) (s : State) : Keeps (exec c s) s := by
  cases c with
  | strobeStart | strobeEnd | diagPulse | undiagnosed | scanLine | waithal | waitusEnd =>
    unfold exec
    simp only [execStrobeStart, execStrobeEnd, execDiagPulse, execUndiagnosed, execScanLine, execWaithal, execWaitusEnd,
      keeps_next]
    split <;> simp
  | dimPulse | diagWindow | lightFault | lightFaultClear | verdictDue | vfTest | vfPeriod | projSwap | refreshFrameStart
  | frameBufferWrite | pixTest | pixelJudge | lumSeqEnd | lumSeqLevel | lumSeqStrobe | loadpat | lumSeqSwap | waitus
  | lumSeqEvent | lumSeqLoop | lumSeqJump | lumSeqReserved =>
    unfold exec
    simp [execDimPulse, execDiagWindow, execLightFault, execLightFaultClear, execVerdictDue, execVfTest, execVfPeriod,
      execProjSwap, execRefreshFrameStart, execFrameBufferWrite, execPixTest, execPixelJudge, execLumSeqEnd, execLumSeqLevel,
      execLumSeqStrobe, execLoadpat, execLumSeqSwap, execWaitus, execLumSeqEvent, execLumSeqLoop, execLumSeqJump,
      execLumSeqReserved]
  | vfTestEnd n dt uv => exact execVfTestEnd_keeps n dt uv s
  | projSync dt rising => exact execProjSync_keeps dt rising s
  | defectMapWrite who word v => exact execDefectMapWrite_keeps who word v s
  | loadpatDone dt => exact execLoadpatDone_keeps dt s
  | _ => cases hch

theorem halyards_keeps {c : Instr} (hch : chapterOf c = .halyards) (s : State) : Keeps (exec c s) s := by
  cases c with
  | halPublish | halGroupCmd | halSubWrite | halProdBindWrite | halSeqCmd | halSeqEnd | pub | delay | delayEnd
  | halSeqWaitTimeout | gen | gdis | halSeqLoop | halSeqJump | halSeqReserved =>
    unfold exec
    simp [execHalPublish, execHalGroupCmd, execHalSubWrite, execHalProdBindWrite, execHalSeqCmd, execHalSeqEnd, execPub,
      execDelay, execDelayEnd, execHalSeqWaitTimeout, execGen, execGdis, execHalSeqLoop, execHalSeqJump, execHalSeqReserved]
  | halSeqWait q us => exact execHalSeqWait_keeps q us s
  | _ => cases hch

theorem time_keeps {c : Instr} (hch : chapterOf c = .time) (s : State) : Keeps (exec c s) s := by
  cases c with
  | timeStep | timSwitch | sync | announce | delayReq | pdelayReq | syncSend | announceSend | delayReqSend | syncLossTimeout
  | announceReceiptTimeout | moduleInsert | modulePoll | scheduleArm | scheduleDisarm | scheduleFire | ringSend =>
    unfold exec
    simp [execTimeStep, execTimSwitch, execSync, execAnnounce, execDelayReq, execPdelayReq, execSyncSend, execAnnounceSend,
      execDelayReqSend, execSyncLossTimeout, execAnnounceReceiptTimeout, execModuleInsert, execModulePoll, execScheduleArm,
      execScheduleDisarm, execScheduleFire, execRingSend]
  | toutPulseEnd | ringSendTimeout | bypassOpen =>
    unfold exec
    simp only [execToutPulseEnd, execRingSendTimeout, execBypassOpen, keeps_next]
    split <;> simp
  | followUp p m met => exact execFollowUp_keeps p m met s
  | delayResp p m => exact execDelayResp_keeps p m s
  | pdelayResp p dt m => exact execPdelayResp_keeps p dt m s
  | pdelayRespFollowUp p m => exact execPdelayRespFollowUp_keeps p m s
  | portLinkChange p up modAbs los txFault => exact execPortLinkChange_keeps p up modAbs los txFault s
  | capSecLoRead who k => exact execCapSecLoRead_keeps who k s
  | nowSecLoRead who => exact execNowSecLoRead_keeps who s
  | ringMessage r dt nibs => exact execRingMessage_keeps r dt nibs s
  | _ => cases hch

theorem boot_keeps {c : Instr} (hch : chapterOf c = .boot) (s : State) : Keeps (exec c s) s := by
  cases c with
  | erase | programBuf | copyStore | verify | cancelSwitch | burnSvn | retire | bootReservedOp | mbxOpen | mbxProof | mbxClose
  | dgramOpen | dgramProof | dgramClose | keepalive | arpRequest | neighbourSolicitation | sessionIdleTimeout =>
    unfold exec
    simp [execErase, execProgramBuf, execCopyStore, execVerify, execCancelSwitch, execBurnSvn, execRetire, execBootReservedOp,
      execMbxOpen, execMbxProof, execMbxClose, execDgramOpen, execDgramProof, execDgramClose, execKeepalive, execArpRequest,
      execNeighbourSolicitation, execSessionIdleTimeout]
  | stagingDone | lockoutEnd =>
    unfold exec
    simp only [execStagingDone, execLockoutEnd, keeps_next]
    split <;> simp
  | loadStart dt d0 d1 dimms => exact execLoadStart_keeps dt d0 d1 dimms s
  | loadEnd dt failed => exact execLoadEnd_keeps dt failed s
  | bootSwitch who dev => exact execBootSwitch_keeps who dev s
  | flashOpDone dt errs => exact execFlashOpDone_keeps dt errs s
  | challengeLapse slot dt => exact execChallengeLapse_keeps slot dt s
  | _ => cases hch

theorem power_keeps {c : Instr} (hch : chapterOf c = .power) (s : State) : Keeps (exec c s) s := by
  cases c with
  | requestIdle | requestAcquire | requestService | requestInvalidMode | modeTransitionDone | domainOn | domainOff
  | supplyWarning | supplyReset | resetNAssert | reefBufferEmpty | reefTimeout | helmMiscompare | resyncDone | dualMiscompare
  | helmWatchdog | hlmWdt | helmMemoryUe | replayEnd | softReset =>
    unfold exec
    simp [execRequestIdle, execRequestAcquire, execRequestService, execRequestInvalidMode, execModeTransitionDone,
      execDomainOn, execDomainOff, execSupplyWarning, execSupplyReset, execResetNAssert, execReefBufferEmpty, execReefTimeout,
      execHelmMiscompare, execResyncDone, execDualMiscompare, execHelmWatchdog, execHlmWdt, execHelmMemoryUe, execReplayEnd,
      execSoftReset]
  | wakeStart | powerGood =>
    unfold exec
    simp only [execWakeStart, execPowerGood, keeps_next]
    split <;> simp
  | requestBuild who met => exact execRequestBuild_keeps who met s
  | reefRecovery dt mv => exact execReefRecovery_keeps dt mv s
  | _ => cases hch

theorem encoders_keeps {c : Instr} (hch : chapterOf c = .encoders) (s : State) : Keeps (exec c s) s := by
  cases c with
  | encoderEdge | ssiReadStart =>
    unfold exec
    simp [execEncoderEdge, execSsiReadStart]
  | ssiReadEnd =>
    unfold exec
    simp only [execSsiReadEnd, keeps_next]
    split <;> simp
  | zEdge n dt edge held => exact execZEdge_keeps n dt edge held s
  | encoderCountWrite who n v z edge => exact execEncoderCountWrite_keeps who n v z edge s
  | _ => cases hch

/-- No frame lists the queue of waiting commands or the variant. -/
theorem kept_notMem_partsOf (c : Instr) : decide (Part.pending ∉ partsOf c ∧ Part.variant ∉ partsOf c) = true := by
  cases c <;> rfl

theorem Framed.keeps {c : Instr} {s : State} (h : Framed c s) : Keeps (exec c s) s := by
  obtain ⟨t, ht, hc⟩ := h
  obtain ⟨hpending, hvariant⟩ := of_decide_eq_true (kept_notMem_partsOf c)
  exact ⟨t, ht, hc.kept hpending hvariant⟩

theorem exec_keeps (c : Instr) (s : State) : Keeps (exec c s) s := by
  cases hch : chapterOf c with
  | lanes => exact Framed.keeps (lanesFrame c s hch)
  | capture => exact capture_keeps hch s
  | encoders => exact encoders_keeps hch s
  | store => exact store_keeps hch s
  | masts => exact masts_keeps hch s
  | spars => exact spars_keeps hch s
  | sheets => exact sheets_keeps hch s
  | beams => exact beams_keeps hch s
  | records => exact records_keeps hch s
  | scanMotion => exact scanMotion_keeps hch s
  | light => exact light_keeps hch s
  | halyards => exact halyards_keeps hch s
  | host => exact host_keeps hch s
  | dma => exact dma_keeps hch s
  | time => exact time_keeps hch s
  | boot => exact boot_keeps hch s
  | power => exact power_keeps hch s

/-- Settles O6: the lane commands by their frames, every other by what its shared operations keep, chapter by chapter. -/
theorem commandsKeepQueueAndVariant : Obligations.CommandsKeepQueueAndVariant := by
  unfold Obligations.CommandsKeepQueueAndVariant
  intro c s
  obtain ⟨t, ht, hk⟩ := exec_keeps c s
  exact ⟨t, ht, congrArg Prod.fst hk, congrArg Prod.snd hk⟩

end
end Sys2Proof.Machine

/-! # Spans and commit points: marks, releases, boundaries (O33) -/

namespace Sys2Proof.Machine
section

/-! ## Rewind marks (R155, R156, R526) -/

theorem State.searchDone_of_none {s : State} {r : Nat} (hnone : (s.rg r).search = none) : s.searchDone r = s := by
  rw [State.searchDone, hnone]

/-- With PRE in time, and no other mark under search, the search of the mark starts. -/
theorem State.markFor_inTime {s : State} {r : Nat} (t n : Nat) (hpre : s.flag F.FST_RING_CFG_PRE_UNIT r)
    (hnone : (s.rg r).search = none) : s.markFor r t n = s.setRg r { s.rg r with search := some (t, n) } := by
  rw [State.markFor, State.searchDone_of_none hnone]
  exact if_pos hpre

theorem State.mark_awake {s : State} {r : Nat} (t : Nat) (hring : s.ringExists r)
    (hawake : (s.reef && s.fst.selfRefresh) = false) : s.mark r t = s.markFor r t (s.startedBefore r t) := by
  simp [State.mark, hring, hawake]

/-- In the reef state a mark is held with the records that had started before it, held ones among them (R526). -/
theorem State.mark_asleep {s : State} {r : Nat} (t : Nat) (hring : s.ringExists r) (hasleep : s.reef && s.fst.selfRefresh) :
    s.mark r t =
      { s with fst := { s.fst with heldMarks := s.fst.heldMarks ++ [(r, t, s.startedBefore r t + s.heldBefore r t)] } } := by
  simp [State.mark, hring, hasleep]

theorem exec_fstMarkGo {who : Requester} {v : Word} {s : State} (hmay : s.mayWrite who .FST_MARK_CMD 0)
    (hgo : getBits v 31 1 = 1) : exec (.fstMarkGo who v) s = .next (s.mark (getBits v 0 4) s.fine) := by
  show execFstMarkGo who v s = _
  rw [execFstMarkGo, State.writeGate_may _ hmay, if_pos hgo]

/-- A search that ends leaves every ring's count of records, and the time. -/
theorem State.searchDone_started (s : State) (r : Nat) : ((s.searchDone r).rg r).started = (s.rg r).started := by
  unfold State.searchDone
  split
  · rw [(State.markSpanNow_kept ..).started, State.rg_setRg]
  · rfl

theorem State.fine_searchDone (s : State) (r : Nat) : (s.searchDone r).fine = s.fine :=
  (s.searchDone_changes r).parts .fine (by decide)

theorem exec_markSearchDone {r : Fin 16} {t0 n : Nat} {s : State} (dt : Nat) (hsearch : (s.rg r).search = some (t0, n)) :
    exec (.markSearchDone r dt) s = .next ((s.passBy dt (t0 + 6250)).searchDone r) := by
  show execMarkSearchDone r dt s = _
  rw [execMarkSearchDone, hsearch]

/-! ## Releases of spans (R158, R160) -/

/-- A span of ring `r` found under a number bears that number. -/
theorem State.id_of_find_liveSpans {s : State} {r k : Nat} {sp : Span}
    (hfind : (s.liveSpans r).find? (fun sp => sp.id = k) = some sp) : sp.id = k := by
  simpa using List.find?_some hfind

theorem State.mem_liveSpans {s : State} {r : Nat} {y : Span} :
    y ∈ s.liveSpans r ↔ y ∈ s.fst.spans ∧ y.ring = r ∧ y.released = false := by
  simp [State.liveSpans]

/-- The release of span number `k` leaves no span of that number held. -/
theorem State.mem_spanFree_of_id {s : State} {sp y : Span} {k kind : Nat} (hid : sp.id = k)
    (hy : y ∈ (s.spanFree sp kind).fst.spans) : y.released = true ∨ (y ∈ s.fst.spans ∧ y.id ≠ k) :=
  hid ▸ State.mem_spanFree hy

/-- The release of all spans of a ring leaves none of it held: one that were still there would be among those released. -/
theorem State.liveSpans_spanFreeAll (s : State) (r : Nat) : (State.spanFreeAll (s.liveSpans r) s).liveSpans r = [] := by
  refine List.eq_nil_iff_forall_not_mem.2 fun y hy => ?_
  obtain ⟨hmem, hring, hheld⟩ := State.mem_liveSpans.1 hy
  obtain hreleased | ⟨hold, hother⟩ := State.mem_spanFreeAll _ hmem
  · rw [hheld] at hreleased
    cases hreleased
  · exact hother y (State.mem_liveSpans.2 ⟨hold, hring, hheld⟩) rfl

theorem State.fine_spanFree (s : State) (sp : Span) (kind : Nat) : (s.spanFree sp kind).fine = s.fine :=
  (s.spanFree_changes sp kind).parts .fine (by decide)

theorem exec_spanRelease {who : Requester} {v : Word} {sp : Span} {s : State} (hmay : s.mayWrite who .FST_SPAN_CMD 0)
    (hfind : (s.liveSpans (getBits v 12 4)).find? (fun sp => sp.id = getBits v 0 12) = some sp) :
    exec (.spanRelease who v) s = .next (s.spanFree sp 4) := by
  show execSpanRelease who v s = _
  rw [execSpanRelease, State.writeGate_may _ hmay, hfind]

theorem exec_spanReleaseAll {who : Requester} {s : State} (v : Word) (hmay : s.mayWrite who .FST_SPAN_CMD 0) :
    exec (.spanReleaseAll who v) s = .next (State.spanFreeAll (s.liveSpans (getBits v 12 4)) s) := by
  show execSpanReleaseAll who v s = _
  rw [execSpanReleaseAll, State.writeGate_may _ hmay]

theorem exec_spanHoldExpiry {r : Fin 16} {span : BitVec 12} {sp : Span} {s : State} (dt : Nat)
    (hfind : (s.liveSpans r).find? (fun sp => sp.id = span.toNat) = some sp) (hclosed : sp.isOpen = false)
    (hhold : s.fld F.FST_RING_CFG_HOLD r ≠ 0) :
    exec (.spanHoldExpiry r span dt) s =
      .next ((s.passTo dt (sp.closedAt + s.fld F.FST_RING_CFG_HOLD r * 1250000000)).spanFree sp 5) := by
  show execSpanHoldExpiry r span dt s = _
  simp [execSpanHoldExpiry, hfind, hclosed, hhold]

/-! ## Commit points (R503, R504, R535) -/

/-- After a commit point the late writes alone are staged, the journal is empty and the checkpoint is that of the commit. -/
theorem State.commitLate_done (s : State) (late : Nat) :
    (s.commitLate late).staged = (if late = 0 then [] else s.staged.drop (s.staged.length - late)) ∧
    (s.commitLate late).rd .HLM_JOURNAL_USED = 0 ∧
    (s.commitLate late).rd .HLM_CKPT_SEQ = (s.commitLate late).rd .BOOT_COMMIT_SEQ := by
  unfold State.commitLate
  split
  next => exact s.commit_done
  next =>
    extract_lets n s1
    obtain ⟨hstaged, hjournal, hckpt⟩ := State.commit_done { s with staged := s.staged.take n }
    exact ⟨by show s1.staged ++ _ = _; rw [hstaged]; rfl, hjournal, hckpt⟩

theorem exec_recordingBoundary {who : Requester} {s : State} (late : Nat) (hmay : s.mayWrite who .BOOT_COMMIT 0) :
    exec (.recordingBoundary who late) s =
      .next (if s.boundaryRefused then s.setFld F.BOOT_STATUS_COMMIT_REFUSED 1 else s.commitLate late) := by
  show execRecordingBoundary who late s = _
  rw [execRecordingBoundary, State.boundary, State.writeGate_may _ hmay]

/-! ## The layer barrier (R341) -/

theorem State.allBeams_changes {P : List Part} {R : List Reg} {k : Nat → State → State}
    (hk : ∀ n s, Changes P R s (k n s)) (s : State) : Changes P R s (s.allBeams k) :=
  State.eachBeam_changes hk _ s

/-- A layer barrier after its commit point: the grid updater runs on every head (R328), then SCN_LAYER counts and
SCN_LAYER_SET is unset. -/
def State.layerCounted (s : State) (soft : Tbl Bool) : State :=
  let u := (s.wr .SCN_CAL_STATUS 0).allBeams (State.calHead soft)
  (u.wr .SCN_LAYER u.nextLayer).wr .SCN_LAYER_SET 0xFFFFFFFF

/-- The end of a layer barrier: the layer in SCN_LAYER is published, and the interpreters in LAYER_WAIT resume. -/
def State.layerBegun (s : State) : State :=
  (s.publish 0x1BC ((s.rd .SCN_LAYER).toNat % 256) s.now48).allBeams State.layerResume

theorem State.rd_layer_layerCounted (s : State) (soft : Tbl Bool) :
    (s.layerCounted soft).rd .SCN_LAYER = ((s.wr .SCN_CAL_STATUS 0).allBeams (State.calHead soft)).nextLayer := by
  rw [State.layerCounted, State.rd_wr_reg _ _ _ _ _ _ (by decide), State.rd_wr_self]

theorem State.rd_layerSet_layerCounted (s : State) (soft : Tbl Bool) :
    (s.layerCounted soft).rd .SCN_LAYER_SET = 0xFFFFFFFF := State.rd_wr_self ..

theorem exec_layerBarrier {s : State} (late : Nat) (hready : s.layerReady) :
    exec (.layerBarrier late) s = .next ((s.commitLate late).layerCounted (s.softNow late)).layerBegun := by
  show execLayerBarrier late s = _
  rw [State.layerBegun, State.rd_layer_layerCounted]
  simp only [execLayerBarrier, hready, Bool.not_true, Bool.false_eq_true, if_false, State.layerCounted]

theorem State.layerCounted_changes (s : State) (soft : Tbl Bool) :
    Changes [.bar0, .freeCtr, .cal] [.SCN_CAL_STATUS, .SCN_CNT_CAL_DISCARD, .SCN_LAYER, .SCN_LAYER_SET] s
      (s.layerCounted soft) :=
  (((s.wr_frame .SCN_CAL_STATUS 0 0 0).within.op (State.allBeams_changes (State.calHead_changes soft) _)).op
    (State.wr_frame _ .SCN_LAYER _ 0 0)).op (State.wr_frame _ .SCN_LAYER_SET _ 0 0)

theorem State.layerBegun_changes (s : State) :
    Changes [.cap, .sht, .bch, .scn, .hal] [.SHT_STATUS, .SHT_I_STATE, .SHT_LAST_OUT, .SHT_LAST_FRAME,
      .SHT_LAST_DELAY, .SHT_DELAY_MAX, .SHT_CNT_FALLBACK, .SHT_CNT_SUPERSEDED, .SHT_CNT_LOG_DROP, .SCN_STATUS,
      .SCN_RECORD, .HAL_CNT_QUEUE_DROP] s s.layerBegun :=
  (s.publish_changes _ _ _).within.op (State.allBeams_changes State.layerResume_changes _)

theorem State.rd_layerSet_layerBegun (s : State) : s.layerBegun.rd .SCN_LAYER_SET = s.rd .SCN_LAYER_SET :=
  s.layerBegun_changes.regs _ (by decide) 0 0

/-- What follows the commit point in a layer barrier. -/
theorem State.layerBegun_layerCounted_changes (s : State) (soft : Tbl Bool) :
    Changes [.bar0, .freeCtr, .cap, .sht, .bch, .scn, .cal, .hal] [.SHT_STATUS, .SHT_I_STATE, .SHT_LAST_OUT,
      .SHT_LAST_FRAME, .SHT_LAST_DELAY, .SHT_DELAY_MAX, .SHT_CNT_FALLBACK, .SHT_CNT_SUPERSEDED, .SHT_CNT_LOG_DROP,
      .SCN_STATUS, .SCN_RECORD, .SCN_CAL_STATUS, .SCN_CNT_CAL_DISCARD, .SCN_LAYER, .SCN_LAYER_SET,
      .HAL_CNT_QUEUE_DROP] s (s.layerCounted soft).layerBegun :=
  (s.layerCounted_changes soft).within.op (State.layerBegun_changes _)

/-- What follows the commit point leaves the late writes staged and the checkpoint, and SCN_LAYER_SET is unset. -/
theorem answers_layerBarrier {s : State} (late : Nat) (hready : s.layerReady) :
    Answers (exec (.layerBarrier late) s) fun t =>
      t.staged = (if late = 0 then [] else s.staged.drop (s.staged.length - late)) ∧ t.rd .SCN_LAYER_SET = 0xFFFFFFFF ∧
      t.rd .HLM_JOURNAL_USED = 0 ∧ t.rd .HLM_CKPT_SEQ = t.rd .BOOT_COMMIT_SEQ := by
  obtain ⟨hstaged, hjournal, hckpt⟩ := s.commitLate_done late
  have hafter := (s.commitLate late).layerBegun_layerCounted_changes (s.softNow late)
  refine ⟨_, exec_layerBarrier late hready, ?_, ?_, ?_, ?_⟩
  · exact (hafter.parts .staged (by decide)).trans hstaged
  · exact (State.rd_layerSet_layerBegun _).trans (State.rd_layerSet_layerCounted ..)
  · exact (hafter.regs _ (by decide) 0 0).trans hjournal
  · rw [hafter.regs .HLM_CKPT_SEQ (by decide), hafter.regs .BOOT_COMMIT_SEQ (by decide)]
    exact hckpt

/-- Settles O33: each command is its operation of the store or its commit point, behind the gate of its register, and what
that operation leaves is stated of it once. -/
theorem storeSpansAndCommits : Obligations.StoreSpansAndCommits := by
  unfold Obligations.StoreSpansAndCommits
  refine ⟨fun who v s hmay hgo hring hreef hpre hnone => ⟨_, exec_fstMarkGo hmay hgo, ?mark⟩,
    fun who v s hmay hgo hring hasleep => ⟨_, exec_fstMarkGo hmay hgo, ?heldMark⟩,
    fun r dt t0 n s hsearch => ⟨_, exec_markSearchDone dt hsearch, State.searchDone_search .., State.searchDone_started ..,
      State.fine_searchDone ..⟩,
    fun who v sp s hmay hfind => ⟨_, exec_spanRelease hmay hfind,
      fun _ => State.mem_spanFree_of_id (State.id_of_find_liveSpans hfind)⟩,
    fun who v s hmay => ⟨_, exec_spanReleaseAll v hmay, s.liveSpans_spanFreeAll _⟩,
    fun r span dt sp s hfind hclosed hhold => ⟨_, exec_spanHoldExpiry dt hfind hclosed hhold,
      fun _ => State.mem_spanFree_of_id (State.id_of_find_liveSpans hfind), ?expiry⟩,
    fun late s hready => answers_layerBarrier late hready,
    fun who late s hmay hopen => ⟨_, exec_recordingBoundary late hmay, ?boundary⟩,
    fun who late s hmay hrefused => ⟨_, exec_recordingBoundary late hmay, if_pos hrefused⟩⟩
  case mark =>
    show (State.rg _ _).search = _
    rw [State.mark_awake _ hring (by rw [hreef]; rfl), State.markFor_inTime _ _ hpre hnone, State.rg_setRg]
  case heldMark =>
    rw [State.mark_asleep _ hring hasleep]
    exact ⟨rfl, rfl⟩
  case expiry =>
    rw [State.fine_spanFree]
    exact le_max_right (s.fine + dt) _
  case boundary =>
    rw [hopen, if_neg Bool.false_ne_true]
    exact s.commitLate_done late

end
end Sys2Proof.Machine

/-! # Plovlink lanes: bring-up, training, blocks and stripes, low power and tests (O24 to O27) -/

namespace Sys2Proof.Machine
section

/-! ## Fields that keep their value -/

/-- The field has its 32-bit register's bits and shares none with `g`. -/
def Fld.besides (f g : Fld) : Bool :=
  decide (f.lo + f.width ≤ 32) && decide (f.reg ≠ g.reg ∨ f.lo + f.width ≤ g.lo ∨ g.lo + g.width ≤ f.lo)

/-- From `s` to `t` a field keeps its value at every index. -/
structure KeepsFld (f : Fld) (s t : State) : Prop where
  fld : ∀ i j, t.fld f i j = s.fld f i j

theorem KeepsFld.refl (f : Fld) (s : State) : KeepsFld f s s := ⟨fun _ _ => rfl⟩

theorem KeepsFld.trans {f : Fld} {s t u : State} (h : KeepsFld f s t) (k : KeepsFld f t u) : KeepsFld f s u :=
  ⟨fun i j => (k.fld i j).trans (h.fld i j)⟩

theorem KeepsFld.ite {f : Fld} {s t u : State} {c : Prop} [Decidable c] (ht : KeepsFld f s t) (hu : KeepsFld f s u) :
    KeepsFld f s (if c then t else u) := by
  split <;> assumption

theorem KeepsFld.lstate {s t : State} (h : KeepsFld F.LNK_STATUS_STATE s t) (n : Nat) : t.lstate n = s.lstate n := h.fld n 0

theorem Changes.keepsFld {P : List Part} {R : List Reg} {s t : State} (h : Changes P R s t) {f : Fld} (hf : f.reg ∉ R) :
    KeepsFld f s t := ⟨h.fld hf⟩

theorem Changes.lstate {P : List Part} {R : List Reg} {s t : State} (h : Changes P R s t) (hr : Reg.LNK_STATUS ∉ R) (n : Nat) :
    t.lstate n = s.lstate n := h.fld hr n 0

/-- A field beside the one that is set keeps its value. -/
theorem State.keepsFld_setFld (s : State) {f g : Fld} (v i j : Nat) (h : f.besides g) : KeepsFld f s (s.setFld g v i j) := by
  simp only [Fld.besides, Bool.and_eq_true, decide_eq_true_eq] at h
  obtain ⟨hw, hreg | hlow | hhigh⟩ := h
  · exact ⟨fun _ _ => State.fld_setFld_reg s v i j _ _ hw hreg⟩
  · exact ⟨fun _ _ => State.fld_setFld_below s v i j _ _ hw hlow⟩
  · exact ⟨fun _ _ => State.fld_setFld_above s v i j _ _ hw hhigh⟩

theorem State.keepsFld_eachOf {f : Fld} {k : Nat → State → State} (hk : ∀ n s, KeepsFld f s (k n s)) (l : List Nat) (s : State) :
    KeepsFld f s (State.eachOf k l s) :=
  State.eachOf_keep (KeepsFld f s) (fun m t ht => ht.trans (hk m t)) l (.refl f s)

/-! ## Counters -/

theorem State.counted_bump (s : State) (r : Reg) (i : Nat) : Counted r i s (s.bump r i) := s.rd_bump_same r i 0

/-- What is counted after an operation that leaves the counter alone. -/
theorem Counted.after {P : List Part} {R : List Reg} {r : Reg} {i k : Nat} {s t u : State} (h : Counted r i t u k)
    (hc : Changes P R s t) (hr : r ∉ R) : Counted r i s u k := by
  unfold Counted at h ⊢
  rw [h, hc.regs r hr]

/-- What is counted before an operation that leaves the counter alone. -/
theorem Counted.before {P : List Part} {R : List Reg} {r : Reg} {i k : Nat} {s t u : State} (h : Counted r i s t k)
    (hc : Changes P R t u) (hr : r ∉ R) : Counted r i s u k := (hc.regs r hr i 0).trans h

/-! ## The time that a timed command lets pass -/

@[simp] theorem State.rd_passTo (s : State) (dt due : Nat) (r : Reg) (i j : Nat) : (s.passTo dt due).rd r i j = s.rd r i j := rfl
@[simp] theorem State.fld_passTo (s : State) (dt due : Nat) (f : Fld) (i j : Nat) : (s.passTo dt due).fld f i j = s.fld f i j := rfl
@[simp] theorem State.lstate_passTo (s : State) (dt due n : Nat) : (s.passTo dt due).lstate n = s.lstate n := rfl
@[simp] theorem State.ln_passTo (s : State) (dt due n : Nat) : (s.passTo dt due).ln n = s.ln n := rfl
@[simp] theorem State.pt_passTo (s : State) (dt due p : Nat) : (s.passTo dt due).pt p = s.pt p := rfl

theorem State.le_fine_passTo (s : State) (dt due : Nat) : due ≤ (s.passTo dt due).fine := le_max_right ..

/-- An operation that takes no time, after an instant has been reached. -/
theorem Changes.le_fine {P : List Part} {R : List Reg} {s t : State} {x : Nat} (h : Changes P R s t) (hp : Part.fine ∉ P)
    (hx : x ≤ s.fine) : x ≤ t.fine := hx.trans_eq (h.parts .fine hp).symm

theorem atLeast1_eq_max (v : Nat) : atLeast1 v = max 1 v := by
  unfold atLeast1
  split <;> omega

/-! ## The state of a lane -/

@[simp] theorem State.lstate_emit (s : State) (o : Out) (n : Nat) : (s.emit o).lstate n = s.lstate n := rfl

theorem State.lstate_setLstate_self (s : State) (n st : Nat) : (s.setLstate n st).lstate n = st % 16 := by
  rw [State.lstate_setLstate, if_pos rfl]

/-- A field that a change of state does not write. -/
theorem State.keepsFld_setLstate {f : Fld} (s : State) (n st : Nat) (h : f.besides F.LNK_STATUS_STATE) :
    KeepsFld f s (s.setLstate n st) :=
  ((s.setLn_changes n _).keepsFld List.not_mem_nil).trans (State.keepsFld_setFld _ st n 0 h)

/-- The fields of LNK_STATUS that say how far the receiver of a lane has come. -/
def lockFlds : List Fld := [F.LNK_STATUS_CDR_LOCK, F.LNK_STATUS_BLOCK_LOCK, F.LNK_STATUS_SUSPECT]

theorem State.keepsFld_unlock {f : Fld} (s : State) (n : Nat) (h : lockFlds.all f.besides) : KeepsFld f s (s.unlock n) := by
  simp only [lockFlds, List.all_cons, List.all_nil, Bool.and_true, Bool.and_eq_true] at h
  obtain ⟨hcdr, hblock, hsus⟩ := h
  exact ((s.keepsFld_setFld _ _ _ hcdr).trans (State.keepsFld_setFld _ _ _ _ hblock)).trans (State.keepsFld_setFld _ _ _ _ hsus)

theorem State.lstate_laneRestart (s : State) (n : Nat) (keep : Bool) (st : Nat) : (s.laneRestart n keep st).lstate n = st % 16 :=
  ((State.keepsFld_unlock _ n (by decide)).lstate n).trans (State.lstate_setLstate_self _ n st)

theorem State.keepsFld_laneRestart {f : Fld} (s : State) (n : Nat) (keep : Bool) (st : Nat) (h : f.besides F.LNK_STATUS_STATE)
    (hl : lockFlds.all f.besides) : KeepsFld f s (s.laneRestart n keep st) :=
  (((s.setLn_changes n _).keepsFld List.not_mem_nil).trans (State.keepsFld_setLstate _ n st h)).trans (State.keepsFld_unlock _ n hl)

theorem State.laneBack_of_dozeFail {s : State} {n : Nat} (st : Nat) (keep : Bool) (h : (s.ln n).dozeFail) :
    s.laneBack n st keep = s.laneLost n := if_pos h

/-- Before DESKEW a lane that goes back restarts, and its port does not follow. -/
theorem State.laneBack_restart {s : State} {n : Nat} (st : Nat) (keep : Bool) (hd : (s.ln n).dozeFail = false)
    (hst : s.lstate n ≠ lsDeskew) : s.laneBack n st keep = s.laneRestart n (keep && (s.ln n).stored) st := by
  simp [State.laneBack, hd, hst]

theorem State.lstate_laneBack {s : State} {n : Nat} (st : Nat) (keep : Bool) (hd : (s.ln n).dozeFail = false)
    (hst : s.lstate n ≠ lsDeskew) : (s.laneBack n st keep).lstate n = st % 16 := by
  rw [State.laneBack_restart st keep hd hst, State.lstate_laneRestart]

/-! ## What the response of a port leaves of LNK_STATUS -/

theorem State.keepsFld_setOut {f : Fld} (s : State) (p : Nat) (out : Option Nat) (hreg : f.reg = .LNK_STATUS)
    (h : f.besides F.LNK_STATUS_REBUILT) : KeepsFld f s (s.setOut p out) := by
  have hport (t : State) (r : Fld) (v : Nat) (hr : r.reg = .LNK_PORT_STATUS) : KeepsFld f t (t.setFld r v p) :=
    (t.setFld_frame r v p 0).keepsFld (by rw [hreg, hr]; decide)
  have hlanes := State.keepsFld_eachOf (f := f) (fun n s => s.keepsFld_setFld 0 n 0 h) (s.portLanes p) s
  unfold State.setOut
  cases out with
  | none => exact (hlanes.trans (hport _ _ _ rfl)).trans (hport _ _ _ rfl)
  | some i => exact ((hlanes.trans (hport _ _ _ rfl)).trans (hport _ _ _ rfl)).trans (State.keepsFld_setFld _ _ _ _ h)

/-- A port that stops being up writes only REBUILT in LNK_STATUS. -/
theorem State.keepsFld_portClear {f : Fld} (s : State) (p : Nat) (hreg : f.reg = .LNK_STATUS)
    (h : f.besides F.LNK_STATUS_REBUILT) : KeepsFld f s (s.portClear p) := by
  unfold State.portClear
  extract_lets s1 s2
  have hclose : KeepsFld f s s1 :=
    ((s.releaseAll_changes p).keepsFld (by rw [hreg]; decide)).trans ((State.closeFrame_changes _ p none).keepsFld (by rw [hreg]; decide))
  have hdown : KeepsFld f (s1.setOut p none) s2 :=
    ((State.setUp_changes _ p 0 false false false).keepsFld (by rw [hreg]; decide)).trans
      ((State.setFld_frame _ _ 0 p 0).keepsFld (by rw [hreg]; decide))
  have hport : KeepsFld f s2 (State.portBegin p (s2.setPt p (s2.pt p).kept)) :=
    ((s2.setPt_changes p _).keepsFld List.not_mem_nil).trans ((State.portBegin_changes p _).keepsFld List.not_mem_nil)
  exact ((hclose.trans (s1.keepsFld_setOut p none hreg h)).trans hdown).trans hport

theorem State.keepsFld_laneDeep {f : Fld} (n : Nat) (s : State) (h : f.besides F.LNK_STATUS_STATE) (hl : lockFlds.all f.besides) :
    KeepsFld f s (State.laneDeep n s) := by
  unfold State.laneDeep
  split
  · exact .refl f s
  · exact ((((s.setLn_changes n _).keepsFld List.not_mem_nil).trans (State.keepsFld_setLstate _ n lsDeep h)).trans
      (State.keepsFld_unlock _ n hl)).trans ((State.emit_frame ..).keepsFld List.not_mem_nil)

theorem State.keepsFld_enterDeskew {f : Fld} (s : State) (n : Nat) (h : f.besides F.LNK_STATUS_STATE) :
    KeepsFld f s (s.enterDeskew n) := by
  unfold State.enterDeskew
  extract_lets p x s1 y s2
  have hst : KeepsFld f s s1 := ((s.setLn_changes n _).keepsFld List.not_mem_nil).trans (State.keepsFld_setLstate _ n lsDeskew h)
  have hwait : KeepsFld f s s2 := hst.trans ((s1.setPt_changes p _).keepsFld List.not_mem_nil)
  exact .ite (hst.trans ((s1.tryRestore_changes p).keepsFld List.not_mem_nil))
    (.ite (hwait.trans ((s2.setPt_changes p _).keepsFld List.not_mem_nil)) hwait)

/-- LOST stays as it is while a port narrows, rebuilds or goes down. -/
theorem State.keepsLost_portDown (s : State) (p : Nat) : KeepsFld F.LNK_STATUS_LOST s (s.portDown p) := by
  unfold State.portDown
  refine .ite ?_ ?_ <;> refine (s.keepsFld_portClear p rfl (by decide)).trans (State.keepsFld_eachOf (fun n t => ?_) _ _)
  · exact State.keepsFld_laneDeep n t (by decide) (by decide)
  · exact .ite (t.keepsFld_enterDeskew n (by decide)) (.refl ..)

theorem State.keepsLost_narrow (s : State) (p : Nat) : KeepsFld F.LNK_STATUS_LOST s (s.narrow p) :=
  .ite (s.keepsLost_portDown p) ((s.sendRate_changes ..).keepsFld (by decide))

theorem State.keepsLost_portResponse (s : State) (p n : Nat) : KeepsFld F.LNK_STATUS_LOST s (s.portResponse p n) := by
  have hout (out : Option Nat) := s.keepsFld_setOut (f := F.LNK_STATUS_LOST) p out rfl (by decide)
  unfold State.portResponse
  extract_lets i
  refine .ite ?_ (.ite ?_ (.ite (s.keepsLost_portDown p) (.ite (s.keepsLost_narrow p) (.refl ..))))
  · split
    · exact .ite ((s.setPt_changes p _).keepsFld List.not_mem_nil) (.refl ..)
    · exact .ite ((s.setPt_changes p _).keepsFld List.not_mem_nil) (.refl ..)
  · split
    · exact hout _
    · refine .ite (.refl ..) (.trans ?_ (State.keepsLost_narrow _ p))
      have hrel := (s.releaseAll_changes p).keepsFld (f := F.LNK_STATUS_LOST) (by decide)
      exact (hrel.trans (State.keepsFld_setOut _ p none rfl (by decide))).trans (State.keepsFld_setFld _ _ _ _ (by decide))

/-- A lost lane is marked as lost, and the loss is counted (R80). -/
theorem State.laneLost_lost (s : State) (n : Nat) :
    (s.laneLost n).fld F.LNK_STATUS_LOST n = 1 ∧ Counted .LNK_CNT_LOCK_LOSS n s (s.laneLost n) := by
  unfold State.laneLost
  extract_lets s1
  refine ⟨?lost, ?counted⟩
  case lost =>
    rw [(s1.keepsLost_portResponse _ n).fld n 0, State.fld_bump_reg _ _ _ _ _ (by decide)]
    exact State.fld_setFld_same _ 1 n 0 (by decide)
  case counted =>
    have hmark := (s.laneRestart_changes n false lsSignal).op (R := [.LNK_STATUS]) (P := [.lnk])
      (State.setFld_frame _ F.LNK_STATUS_LOST 1 n 0)
    exact ((State.counted_bump _ _ n).after hmark (by decide)).before (s1.portResponse_changes _ n) (by decide)

end
end Sys2Proof.Machine

/-! # Bring-up of a lane (O24) -/

namespace Sys2Proof.Machine
section

/-! ## What each event does to a lane in the state it acts on (R54 to R56, R80) -/

theorem exec_signalDetectQualified_wait {n : Fin 64} {s : State} (hruns : s.laneRuns n) (hst : s.lstate n = lsSignal) :
    exec (.signalDetectQualified n) s = .next ((s.setFld F.LNK_STATUS_SIG_DET 1 n).setLstate n lsCdr) := by
  show execSignalDetectQualified n s = _
  simp [execSignalDetectQualified, hruns, hst, lsSignal, lsDisabled]

/-- SIG_DET is no part of the state of a lane. -/
theorem State.lstate_sigDet (s : State) (v n : Nat) : (s.setFld F.LNK_STATUS_SIG_DET v n).lstate n = s.lstate n :=
  (s.keepsFld_setFld v n 0 (by decide)).lstate n

theorem exec_signalLost_bringUp {n : Fin 64} {s : State} (hruns : s.laneRuns n) (hlo : lsCdr ≤ s.lstate n)
    (hhi : s.lstate n ≤ lsDeskew) :
    exec (.signalLost n) s = .next ((s.setFld F.LNK_STATUS_SIG_DET 0 n).laneBack n lsSignal true) := by
  have hup : s.lstate n ≠ lsUp := (hhi.trans_lt (by decide)).ne
  have hshadow : s.lstate n ≠ lsShadow := (hhi.trans_lt (by decide)).ne
  show execSignalLost n s = _
  simp [execSignalLost, hruns, State.losable, State.lstate_sigDet, hup, hshadow, hlo, hhi]

/-- Before DESKEW the lane restarts, without its port. -/
theorem exec_signalLost_restart {n : Fin 64} {s : State} (hruns : s.laneRuns n) (hlo : lsCdr ≤ s.lstate n)
    (hhi : s.lstate n ≤ lsTrain) (hd : (s.ln n).dozeFail = false) :
    exec (.signalLost n) s = .next ((s.setFld F.LNK_STATUS_SIG_DET 0 n).laneRestart n (s.ln n).stored lsSignal) := by
  have hst : (s.setFld F.LNK_STATUS_SIG_DET 0 n).lstate n ≠ lsDeskew := by
    rw [State.lstate_sigDet]
    exact (hhi.trans_lt (by decide)).ne
  rw [exec_signalLost_bringUp hruns hlo (hhi.trans (by decide)), State.laneBack_restart _ _ (by exact hd) hst, Bool.true_and]
  rfl

theorem exec_signalLost_losable {n : Fin 64} {s : State} (hruns : s.laneRuns n) (hlos : s.losable n) :
    exec (.signalLost n) s = .next ((s.setFld F.LNK_STATUS_SIG_DET 0 n).laneLost n) := by
  have hlos' : (s.setFld F.LNK_STATUS_SIG_DET 0 n).losable n := by rw [State.losable, State.lstate_sigDet]; exact hlos
  show execSignalLost n s = _
  simp [execSignalLost, hruns, hlos']

theorem exec_lockLoss_losable {n : Fin 64} {s : State} (hruns : s.laneRuns n) (hlos : s.losable n) :
    exec (.lockLoss n) s = .next (s.laneLost n) := by
  show execLockLoss n s = _
  simp [execLockLoss, hruns, hlos]

theorem exec_lockLoss_locked {n : Fin 64} {s : State} (hruns : s.laneRuns n) (hlo : lsAlign ≤ s.lstate n)
    (hhi : s.lstate n ≤ lsDeskew) : exec (.lockLoss n) s = .next (s.laneBack n lsSignal true) := by
  have hup : s.lstate n ≠ lsUp := (hhi.trans_lt (by decide)).ne
  have hshadow : s.lstate n ≠ lsShadow := (hhi.trans_lt (by decide)).ne
  show execLockLoss n s = _
  simp [execLockLoss, hruns, State.losable, hup, hshadow, State.locked, hlo, hhi]

theorem exec_cdrLockLost_losable {n : Fin 64} {s : State} (hruns : s.laneRuns n) (hlos : s.losable n) :
    exec (.cdrLockLost n) s = .next (s.laneLost n) := by
  show execCdrLockLost n s = _
  simp [execCdrLockLost, hruns, hlos]

theorem exec_cdrLocked_cdr {n : Fin 64} {s : State} (hruns : s.laneRuns n) (hst : s.lstate n = lsCdr) :
    exec (.cdrLocked n) s = .next ((s.setFld F.LNK_STATUS_CDR_LOCK 1 n).setLstate n lsHunt) := by
  show execCdrLocked n s = _
  simp [execCdrLocked, hruns, hst]

theorem exec_blockLock_hunt {n : Fin 64} {s : State} (hruns : s.laneRuns n) (hst : s.lstate n = lsHunt) :
    exec (.blockLock n) s = .next ((s.setFld F.LNK_STATUS_BLOCK_LOCK 1 n).setLstate n lsAlign) := by
  show execBlockLock n s = _
  simp [execBlockLock, hruns, hst]

/-- A one-bit flag of LNK_STATUS that is set as the state of the lane changes. -/
theorem State.fld_setLstate_setFld (s : State) {f : Fld} (n st v : Nat) (h : f.besides F.LNK_STATUS_STATE)
    (hw : f.lo + f.width ≤ 32) : ((s.setFld f v n).setLstate n st).fld f n = v % 2 ^ f.width :=
  ((State.keepsFld_setLstate _ n st h).fld n 0).trans (State.fld_setFld_same s v n 0 hw)

/-! ## Limits on the stay in a state (R54, R62, R79) -/

/-- The limit of a lane that is in the state acts once it has passed. -/
theorem State.laneLimit_in {s : State} {n st : Nat} (dt len : Nat) (k : State → State) (hruns : s.laneRuns n)
    (hst : s.lstate n = st) : s.laneLimit n st dt len k = k (s.passTo dt ((s.ln n).since + len)) := by
  simp [State.laneLimit, hruns, hst]

theorem exec_cdrLockTimeout_cdr {n : Fin 64} {s : State} (dt : Nat) (hruns : s.laneRuns n) (hst : s.lstate n = lsCdr)
    (hd : (s.ln n).dozeFail = false) : exec (.cdrLockTimeout n dt) s =
      .next (((s.passTo dt ((s.ln n).since + fineOfUs 100)).laneRestart n (s.ln n).stored lsSignal).bump .LNK_CNT_LOCK_LOSS n) := by
  have hst' : (s.passTo dt ((s.ln n).since + fineOfUs 100)).lstate n ≠ lsDeskew := by rw [State.lstate_passTo, hst]; decide
  show execCdrLockTimeout n dt s = _
  rw [execCdrLockTimeout, State.laneLimit_in _ _ _ hruns hst, State.ln_passTo, hd, if_neg Bool.false_ne_true,
    State.laneBack_restart _ _ (by exact hd) hst', Bool.true_and]
  rfl

theorem exec_cdrLockTimeout_dozeFail {n : Fin 64} {s : State} (dt : Nat) (hruns : s.laneRuns n) (hst : s.lstate n = lsCdr)
    (hd : (s.ln n).dozeFail) :
    exec (.cdrLockTimeout n dt) s = .next ((s.passTo dt ((s.ln n).since + fineOfUs 100)).laneLost n) := by
  show execCdrLockTimeout n dt s = _
  rw [execCdrLockTimeout, State.laneLimit_in _ _ _ hruns hst, State.ln_passTo, if_pos hd]

theorem exec_huntTimeout_hunt {n : Fin 64} {s : State} (dt : Nat) (hruns : s.laneRuns n) (hst : s.lstate n = lsHunt) :
    exec (.huntTimeout n dt) s = .next ((s.passTo dt ((s.ln n).since + fineOfUs 2)).laneBack n lsCdr true) := by
  show execHuntTimeout n dt s = _
  rw [execHuntTimeout, State.laneLimit_in _ _ _ hruns hst]

theorem exec_trainTimeout_train {n : Fin 64} {s : State} (dt : Nat) (hruns : s.laneRuns n) (hst : s.lstate n = lsTrain) :
    exec (.trainTimeout n dt) s =
      .next ((s.passTo dt ((s.ln n).since + fineOfUs (100 * max 1 (s.fld F.LNK_TRAIN_TIMEOUT n)))).trainFail n true) := by
  show execTrainTimeout n dt s = _
  rw [execTrainTimeout, State.laneLimit_in _ _ _ hruns hst, atLeast1_eq_max]

theorem exec_failedTimeout_failed {n : Fin 64} {s : State} (dt : Nat) (hruns : s.laneRuns n) (hst : s.lstate n = lsFailed) :
    exec (.failedTimeout n dt) s =
      .next (((s.passTo dt ((s.ln n).since + fineOfUs 10000)).setLn n { s.ln n with tries := 0 }).laneRestart n (s.ln n).stored
        lsSignal) := by
  show execFailedTimeout n dt s = _
  rw [execFailedTimeout, State.laneLimit_in _ _ _ hruns hst]
  rfl

/-! ## Training fails (R61, R62) -/

/-- The state in which a receiver gives training up: it has sent ABORT where it gives up by itself, and shows TRAIN_FAIL. -/
def State.givenUp (s : State) (n : Nat) (abort : Bool) : State :=
  (if abort then s.sendTraining n 4 0 0 0 0 else s).setFld F.LNK_STATUS_TRAIN_FAIL 1 n

theorem State.givenUp_changes (s : State) (n : Nat) (abort : Bool) :
    Changes [.outbox, .freeCtr, .lnk, .port] [.LNK_STATUS] s (s.givenUp n abort) :=
  .setFld (.ite (s.sendTraining_changes ..).within (.refl ..)) (List.mem_singleton_self _)

theorem State.dozeFail_givenUp (s : State) (n : Nat) (abort : Bool) :
    ((s.givenUp n abort).ln n).dozeFail = (s.ln n).dozeFail := by
  rw [State.givenUp, State.ln_setFld]
  split
  · exact (s.sendTraining_sentOnly n 4 0 0 0 0).ln (·.dozeFail) (fun _ => rfl) n
  · rfl

theorem State.trainFail_eq (s : State) (n : Nat) (abort : Bool) : s.trainFail n abort =
    if ((s.givenUp n abort).ln n).dozeFail then (s.givenUp n abort).laneLost n
    else (s.givenUp n abort).laneRestart n false lsFailed := rfl

theorem State.trainFail_of_dozeFail {s : State} {n : Nat} (abort : Bool) (h : (s.ln n).dozeFail) :
    s.trainFail n abort = (s.givenUp n abort).laneLost n := by
  rw [State.trainFail_eq, State.dozeFail_givenUp, if_pos h]

theorem State.trainFail_failed {s : State} {n : Nat} (abort : Bool) (h : (s.ln n).dozeFail = false) :
    s.trainFail n abort = (s.givenUp n abort).laneRestart n false lsFailed := by
  rw [State.trainFail_eq, State.dozeFail_givenUp, h, if_neg Bool.false_ne_true]

/-- The lane is in FAILED and shows TRAIN_FAIL. -/
theorem State.trainFail_shows {s : State} {n : Nat} (abort : Bool) (h : (s.ln n).dozeFail = false) :
    (s.trainFail n abort).lstate n = lsFailed ∧ (s.trainFail n abort).fld F.LNK_STATUS_TRAIN_FAIL n = 1 := by
  rw [State.trainFail_failed abort h]
  refine ⟨State.lstate_laneRestart .., ?_⟩
  rw [(State.keepsFld_laneRestart _ n false lsFailed (by decide) (by decide)).fld n 0]
  exact State.fld_setFld_same _ 1 n 0 (by decide)

/-! ## The fields of LNK_CTRL (R87) -/

theorem State.fld_enable_laneEnable (s : State) (n : Nat) (on : Bool) : (s.laneEnable n on).fld F.LNK_CTRL_ENABLE n = b2n on := by
  have hset : (s.setFld F.LNK_CTRL_ENABLE (b2n on) n).fld F.LNK_CTRL_ENABLE n = b2n on := by
    rw [State.fld_setFld_same _ _ _ _ (by decide)]
    cases on <;> rfl
  refine Eq.trans ?_ hset
  unfold State.laneEnable
  extract_lets s1
  have hstart : KeepsFld F.LNK_CTRL_ENABLE s1 (State.laneStart n s1) := (s1.laneStart_changes n).keepsFld (by decide)
  have hdisable : KeepsFld F.LNK_CTRL_ENABLE s1 (State.laneDisable n s1) := (s1.laneDisable_changes n).keepsFld (by decide)
  exact (KeepsFld.ite (.ite hstart (.refl ..)) (.ite (.refl ..) hdisable)).fld n 0

/-- A lane of which its port has nothing restarts in the state it leaves for, and the port does not follow. -/
theorem State.laneOff_bringUp {s : State} {n : Nat} (st : Nat) (h : s.lstate n ≤ lsTrain) :
    s.laneOff n st = s.laneRestart n false st := by
  have hup : s.lstate n ≠ lsUp := (h.trans_lt (by decide)).ne
  have hshadow : s.lstate n ≠ lsShadow := (h.trans_lt (by decide)).ne
  have hdeskew : s.lstate n ≠ lsDeskew := (h.trans_lt (by decide)).ne
  have hdoze : s.lstate n ≠ lsDoze := (h.trans_lt (by decide)).ne
  simp [State.laneOff, hup, hshadow, hdeskew, hdoze]

/-- A lane in bring-up before DESKEW is DISABLED at once where it is disabled. -/
theorem State.lstate_laneEnable_off {s : State} {n : Nat} (hlo : lsSignal ≤ s.lstate n) (hhi : s.lstate n ≤ lsTrain) :
    (s.laneEnable n false).lstate n = lsDisabled := by
  have hst : (s.setFld F.LNK_CTRL_ENABLE 0 n).lstate n = s.lstate n := (s.setFld_frame ..).lstate (by decide) n
  have hon : s.lstate n ≠ lsDisabled := (Nat.lt_of_lt_of_le (by decide) hlo).ne'
  have hoff : s.laneEnable n false = State.laneDisable n (s.setFld F.LNK_CTRL_ENABLE 0 n) := by
    simp [State.laneEnable, b2n, hst, hon]
  rw [hoff, State.laneDisable, State.laneOff_bringUp _ (hst.trans_le hhi), State.lstate_emit, State.lstate_sigDet,
    State.lstate_laneRestart]
  rfl

theorem State.fld_deepReq (s : State) (n : Nat) (on : Bool) : (s.deepReq n on).fld F.LNK_CTRL_DEEP_REQ n = b2n on := by
  have hset : (s.setFld F.LNK_CTRL_DEEP_REQ (b2n on) n).fld F.LNK_CTRL_DEEP_REQ n = b2n on := by
    rw [State.fld_setFld_same _ _ _ _ (by decide)]
    cases on <;> rfl
  refine Eq.trans ?_ hset
  unfold State.deepReq
  extract_lets s1 p
  have hask : KeepsFld F.LNK_CTRL_DEEP_REQ s1 (s1.deepAsk p) := (s1.deepAsk_changes p).keepsFld (by decide)
  have hexit : KeepsFld F.LNK_CTRL_DEEP_REQ s1 (s1.deepExit p) := (s1.deepExit_changes p).keepsFld (by decide)
  exact (KeepsFld.ite hask (.ite (.refl ..) hexit)).fld n 0

/-- RETRAIN takes a lane in bring-up before DESKEW back to SIGNAL_WAIT. -/
theorem State.lstate_retrain_bringUp {s : State} {n : Nat} (hlo : lsSignal ≤ s.lstate n) (hhi : s.lstate n ≤ lsTrain)
    (hd : (s.ln n).dozeFail = false) : (s.retrain n).lstate n = lsSignal := by
  have hback : s.retrain n = s.laneBack n lsSignal false := by
    have hlow : s.lstate n ≠ lsDisabled ∧ s.lstate n ≠ lsDeep := by unfold lsDisabled lsDeep; unfold lsSignal at hlo; omega
    have hhigh : s.lstate n ≠ lsTest ∧ s.lstate n ≠ lsUp ∧ s.lstate n ≠ lsShadow ∧ s.lstate n ≠ lsDoze := by
      unfold lsTest lsUp lsShadow lsDoze; unfold lsTrain at hhi; omega
    simp [State.retrain, hlow, hhigh]
  rw [hback, State.lstate_laneBack _ _ hd (hhi.trans_lt (by decide)).ne]
  rfl

/-! ## A failed doze exit (R68, R80) -/

/-- Each event that takes a lane back in bring-up loses it in a failed doze exit, and the loss alone is counted. -/
theorem laneLost_of_dozeFail {n : Fin 64} (dt : Nat) {s : State} (hruns : s.laneRuns n) (hd : (s.ln n).dozeFail) :
    ∀ p ∈ [(Instr.signalLost n, lsHunt), (.lockLoss n, lsAlign), (.cdrLockTimeout n dt, lsCdr), (.huntTimeout n dt, lsHunt),
      (.trainTimeout n dt, lsTrain)], s.lstate n = p.2 →
    ∃ x, Changes [.outbox, .freeCtr, .fine, .lnk, .port] [.LNK_STATUS] s x ∧ exec p.1 s = .next (x.laneLost n) := by
  simp only [List.forall_mem_cons, List.not_mem_nil, false_implies, implies_true, and_true]
  have htime (due : Nat) : Changes [.outbox, .freeCtr, .fine, .lnk, .port] [.LNK_STATUS] s (s.passTo dt due) :=
    (s.passTo_changes dt due).within
  refine ⟨?signal, ?lock, ?cdr, ?hunt, ?train⟩ <;> intro hst
  case signal =>
    exact ⟨_, (s.setFld_frame F.LNK_STATUS_SIG_DET 0 n 0).within,
      (exec_signalLost_bringUp hruns (by rw [hst]; decide) (by rw [hst]; decide)).trans (congrArg _ (State.laneBack_of_dozeFail _ _ hd))⟩
  case lock =>
    exact ⟨s, .refl .., (exec_lockLoss_locked hruns hst.ge (by rw [hst]; decide)).trans
      (congrArg _ (State.laneBack_of_dozeFail _ _ hd))⟩
  case cdr => exact ⟨_, htime _, exec_cdrLockTimeout_dozeFail dt hruns hst hd⟩
  case hunt =>
    exact ⟨_, htime _, (exec_huntTimeout_hunt dt hruns hst).trans (congrArg _ (State.laneBack_of_dozeFail _ _ hd))⟩
  case train =>
    exact ⟨_, (htime _).op (State.givenUp_changes _ n true),
      (exec_trainTimeout_train dt hruns hst).trans (congrArg _ (State.trainFail_of_dozeFail _ hd))⟩

theorem exec_laneEnable_may {who : Requester} {n : Fin 64} {s : State} (on : Bool) (hmay : s.mayWrite who .LNK_CTRL n) :
    exec (.laneEnable who n on) s = .next (s.laneEnable n on) := congrArg Host.Outcome.next (s.writeGate_may _ hmay)

theorem exec_deepReq_may {who : Requester} {n : Fin 64} {s : State} (on : Bool) (hmay : s.mayWrite who .LNK_CTRL n) :
    exec (.deepReq who n on) s = .next (s.deepReq n on) := congrArg Host.Outcome.next (s.writeGate_may _ hmay)

theorem exec_retrain_may {who : Requester} {n : Fin 64} {s : State} (hmay : s.mayWrite who .LNK_CTRL n) :
    exec (.retrain who n) s = .next (s.retrain n) := congrArg Host.Outcome.next (s.writeGate_may _ hmay)

/-- Settles O24: each event leads to the state its rule names by the lemma of its case, and a lost lane is marked and counted
by `State.laneLost_lost`. -/
theorem laneBringUp : Obligations.LaneBringUp := by
  unfold Obligations.LaneBringUp
  have hcount {n : Fin 64} {s : State} {c : Instr} {x : State} (hx : Changes [.outbox, .freeCtr, .fine, .lnk, .port] [.LNK_STATUS] s x)
      (hexec : exec c s = .next (x.laneLost n)) :
      Answers (exec c s) fun t => t.fld F.LNK_STATUS_LOST n = 1 ∧ Counted .LNK_CNT_LOCK_LOSS n s t :=
    ⟨_, hexec, (x.laneLost_lost n).1, (x.laneLost_lost n).2.after hx (by decide)⟩
  have hsig (s : State) (n : Nat) := (s.setFld_frame F.LNK_STATUS_SIG_DET 0 n 0).within (P := [.outbox, .freeCtr, .fine, .lnk, .port])
    (R := [.LNK_STATUS])
  refine ⟨fun n s hruns hst => ⟨_, exec_signalDetectQualified_wait hruns hst, State.lstate_setLstate_self .., ?detected⟩,
    fun n s hruns hlo hhi hd => ⟨_, exec_signalLost_restart hruns hlo hhi hd, State.lstate_laneRestart .., ?signalBack⟩,
    fun n s hruns hlos => ⟨_, exec_signalLost_losable hruns hlos, (State.laneLost_lost _ n).2.after (hsig s n) (by decide)⟩,
    fun n s hruns hlos => ⟨_, exec_lockLoss_losable hruns hlos, (s.laneLost_lost n).2⟩,
    fun n s hruns hlos => ⟨_, exec_cdrLockLost_losable hruns hlos, (s.laneLost_lost n).2⟩,
    fun n s hruns hst hd => ?lockBack,
    fun n s hruns hst => ⟨_, exec_cdrLocked_cdr hruns hst, State.lstate_setLstate_self .., ?locked⟩,
    fun n dt s hruns hst hd => ⟨_, exec_cdrLockTimeout_cdr dt hruns hst hd, ?cdrBack⟩,
    fun n s hruns hst => ⟨_, exec_blockLock_hunt hruns hst, State.lstate_setLstate_self .., ?blockLocked⟩,
    fun n dt s hruns hst hd => ⟨_, exec_huntTimeout_hunt dt hruns hst, ?huntBack⟩,
    fun n dt s hruns hst hd => ⟨_, exec_trainTimeout_train dt hruns hst, ?failed⟩,
    fun n dt s hruns hst => ⟨_, exec_failedTimeout_failed dt hruns hst, State.lstate_laneRestart .., ?failedTime⟩,
    fun who n on s hmay => ⟨_, exec_laneEnable_may on hmay, s.fld_enable_laneEnable n on⟩,
    fun who n s hmay hlo hhi => ⟨_, exec_laneEnable_may false hmay, State.lstate_laneEnable_off hlo hhi⟩,
    fun who n on s hmay => ⟨_, exec_deepReq_may on hmay, s.fld_deepReq n on⟩,
    fun n dt s hruns hd p hp hst => ?dozeFail,
    fun who n s hmay hlo hhi hd => ⟨_, exec_retrain_may hmay, State.lstate_retrain_bringUp hlo hhi hd⟩⟩
  case detected => exact s.fld_setLstate_setFld n lsCdr 1 (by decide) (by decide)
  case locked => exact s.fld_setLstate_setFld n lsHunt 1 (by decide) (by decide)
  case blockLocked => exact s.fld_setLstate_setFld n lsAlign 1 (by decide) (by decide)
  case dozeFail =>
    obtain ⟨x, hx, hexec⟩ := laneLost_of_dozeFail dt hruns hd p hp hst
    exact hcount hx hexec
  case signalBack =>
    rw [(State.keepsFld_laneRestart _ n _ lsSignal (by decide) (by decide)).fld n 0]
    exact State.fld_setFld_same s 0 n 0 (by decide)
  case lockBack =>
    have hrange : lsAlign ≤ s.lstate n ∧ s.lstate n ≤ lsTrain := by rcases hst with h | h <;> rw [h] <;> decide
    exact ⟨_, exec_lockLoss_locked hruns hrange.1 (hrange.2.trans (by decide)),
      State.lstate_laneBack lsSignal true hd (hrange.2.trans_lt (by decide)).ne⟩
  case cdrBack =>
    have hback : Changes [.fine, .lnk] [.LNK_STATUS] s _ :=
      (s.passTo_changes dt ((s.ln n).since + fineOfUs 100)).within.op (State.laneRestart_changes _ n (s.ln n).stored lsSignal)
    refine ⟨?_, (State.counted_bump ..).after hback (by decide), s.le_fine_passTo dt _⟩
    exact ((State.bump_frame _ .LNK_CNT_LOCK_LOSS n 0).lstate (by decide) n).trans (State.lstate_laneRestart ..)
  case huntBack =>
    have hst' : (s.passTo dt ((s.ln n).since + fineOfUs 2)).lstate n ≠ lsDeskew := by rw [State.lstate_passTo, hst]; decide
    exact ⟨State.lstate_laneBack lsCdr true hd hst',
      (State.laneBack_changes _ n lsCdr true).le_fine (by decide) (s.le_fine_passTo dt _)⟩
  case failed =>
    have hshows := State.trainFail_shows (s := s.passTo dt ((s.ln n).since + fineOfUs (100 * max 1 (s.fld F.LNK_TRAIN_TIMEOUT n))))
      true hd
    exact ⟨hshows.1, hshows.2, (State.trainFail_changes _ n true).le_fine (by decide) (s.le_fine_passTo dt _)⟩
  case failedTime =>
    exact (State.laneRestart_changes _ n _ lsSignal).le_fine (by decide) (s.le_fine_passTo dt _)

end
end Sys2Proof.Machine

/-! # What a lane takes from the line (R45, R46, R48, R87) -/

namespace Sys2Proof.Machine
section

/-- A block as lane `n` takes it in the polarity in force, before its header is judged. -/
def State.taken (s : State) (n : Nat) (b : LineBlock) : RxBlock × State :=
  (s.lineIn n b).2.takeBlock n (s.lineIn n b).1 ((s.lineIn n b).2.flag F.LNK_STATUS_RX_INVERTED n)

/-- The receiver judges the header of a block that the elastic buffer has not lost. -/
theorem State.rxBlock_eq (s : State) (n : Nat) (b : LineBlock) : s.rxBlock n b =
    if (s.taken n b).1.lost || (s.taken n b).1.validHdr then s.taken n b
    else ((s.taken n b).1, (s.taken n b).2.badHeader n) := rfl

theorem State.rxBlock_fst (s : State) (n : Nat) (b : LineBlock) : (s.rxBlock n b).1 = (s.taken n b).1 := by
  rw [State.rxBlock_eq]
  split <;> rfl

theorem State.rxBlock_of_valid {s : State} {n : Nat} {b : LineBlock} (h : (s.rxBlock n b).1.validHdr) :
    s.rxBlock n b = s.taken n b := by
  rw [State.rxBlock_fst] at h
  rw [State.rxBlock_eq, h, Bool.or_true, if_pos rfl]

theorem State.rxBlock_of_invalid {s : State} {n : Nat} {b : LineBlock} (h : (s.rxBlock n b).1.validHdr = false)
    (hl : (s.rxBlock n b).1.lost = false) : (s.rxBlock n b).2 = (s.taken n b).2.badHeader n := by
  rw [State.rxBlock_fst] at h hl
  rw [State.rxBlock_eq, h, hl, Bool.or_false, if_neg Bool.false_ne_true]

theorem RxBlock.validHdr_of_hdr {r : RxBlock} (h : r.hdr = 1) : r.validHdr := by simp [RxBlock.validHdr, h]

theorem RxBlock.validHdr_of_isData {r : RxBlock} (h : r.isData) : r.validHdr := by
  rw [RxBlock.isData, decide_eq_true_eq] at h
  simp [RxBlock.validHdr, h]

/-- A block that the elastic buffer keeps moves the descrambler on, and nothing else. -/
theorem State.takeBlock_kept (s : State) (n : Nat) (b : LineBlock) (inv : Bool) (h : b.lost = false) :
    (s.takeBlock n b inv).2 = s.setLn n { s.ln n with rx := lastBits (b.pre.getD (s.ln n).rx) b.pay } := by
  simp [State.takeBlock, h]

theorem State.takeBlock_lost (s : State) (n : Nat) (b : LineBlock) (inv : Bool) : (s.takeBlock n b inv).1.lost = b.lost := by
  unfold State.takeBlock
  extract_lets last d s1
  split
  · rename_i h; exact h.symm
  · rename_i h
    cases inv <;> exact (Bool.eq_false_iff.2 h).symm

theorem State.takeBlock_valid {s : State} {n : Nat} {b : LineBlock} {inv : Bool} (h : (s.takeBlock n b inv).1.validHdr) :
    b.lost = false := by
  cases hb : b.lost with
  | false => rfl
  | true =>
    have hlost : (s.takeBlock n b inv).1 = ⟨0, 0, 0, true⟩ := by simp [State.takeBlock, hb]
    rw [hlost] at h
    exact absurd h (by decide)

/-- A block that has not been lost changes no register before its header is judged. -/
theorem State.taken_changes {s : State} {n : Nat} {b : LineBlock} (h : (s.lineIn n b).1.lost = false) :
    Changes [.outbox, .lnk] [] s (s.taken n b).2 := by
  rw [State.taken, State.takeBlock_kept _ _ _ _ h]
  exact (s.lineIn_changes n b).andThen (State.setLn_changes ..) (by decide) (by decide)

/-- What reception changes in a lane: the descrambler, and in loopback the transmitter or the blocks held. -/
def Lane.unheard (x : Lane) : Lane := { x with rx := 0, tx := 0, line := 0, loop := [] }

theorem State.unheard_lineIn (s : State) (n : Nat) (b : LineBlock) : ((s.lineIn n b).2.ln n).unheard = (s.ln n).unheard := by
  unfold State.lineIn
  extract_lets x inv
  split
  · split
    · rw [State.ln_setLn]; rfl
    · rfl
  · rw [State.ln_emit, State.ln_setLn]; rfl
  · rfl

theorem State.unheard_takeBlock (s : State) (n : Nat) (b : LineBlock) (inv : Bool) :
    ((s.takeBlock n b inv).2.ln n).unheard = (s.ln n).unheard := by
  unfold State.takeBlock
  extract_lets last x d s1
  have hs : (s1.ln n).unheard = (s.ln n).unheard := by rw [State.ln_setLn]; rfl
  split
  · exact hs
  · exact hs

theorem State.unheard_taken (s : State) (n : Nat) (b : LineBlock) : ((s.taken n b).2.ln n).unheard = (s.ln n).unheard :=
  (State.unheard_takeBlock ..).trans (s.unheard_lineIn n b)

/-- A fact about a lane that does not look at what reception changes. -/
theorem Lane.of_unheard {α : Type} {x y : Lane} (h : x.unheard = y.unheard) (f : Lane → α) (hf : ∀ z, f z = f z.unheard) :
    f x = f y := by rw [hf, h, ← hf]

/-- A block with a valid header changes no register, and of its lane only what reception changes. -/
theorem State.rxBlock_valid_changes {s : State} {n : Nat} {b : LineBlock} (h : (s.rxBlock n b).1.validHdr) :
    Changes [.outbox, .lnk] [] s (s.rxBlock n b).2 := by
  rw [State.rxBlock_of_valid h]
  exact State.taken_changes (State.takeBlock_valid (by rwa [State.rxBlock_fst] at h))

theorem State.unheard_rxBlock {s : State} {n : Nat} {b : LineBlock} (h : (s.rxBlock n b).1.validHdr) :
    ((s.rxBlock n b).2.ln n).unheard = (s.ln n).unheard := by
  rw [State.rxBlock_of_valid h]
  exact s.unheard_taken n b

end
end Sys2Proof.Machine

/-! # Training (O25) -/

namespace Sys2Proof.Machine
section

/-! ## Training blocks (R60, R61) -/

/-- The FAR taps as the answer `b` reports them (R92). -/
def State.setFar (s : State) (n : Nat) (b : List Byte) : State :=
  ((s.setFld F.LNK_TAPS_FAR_PRE (fieldLE b 6 1) n).setFld F.LNK_TAPS_FAR_POST (fieldLE b 7 1) n).setFld F.LNK_TAPS_FAR_MAIN
    (fieldLE b 8 1) n

theorem State.fld_far_setFar (s : State) (n : Nat) (b : List Byte) :
    (s.setFar n b).fld F.LNK_TAPS_FAR_PRE n = fieldLE b 6 1 % 16 ∧ (s.setFar n b).fld F.LNK_TAPS_FAR_POST n = fieldLE b 7 1 % 32 ∧
      (s.setFar n b).fld F.LNK_TAPS_FAR_MAIN n = fieldLE b 8 1 % 64 := by
  unfold State.setFar
  refine ⟨?_, ?_, State.fld_setFld_same _ _ _ _ (by decide)⟩
  · rw [(State.keepsFld_setFld _ _ _ _ (by decide)).fld, (State.keepsFld_setFld _ _ _ _ (by decide)).fld,
      State.fld_setFld_same _ _ _ _ (by decide)]
    rfl
  · rw [(State.keepsFld_setFld _ _ _ _ (by decide)).fld, State.fld_setFld_same _ _ _ _ (by decide)]
    rfl

theorem State.setFar_changes (s : State) (n : Nat) (b : List Byte) : Changes [] [.LNK_TAPS] s (s.setFar n b) :=
  ((s.setFld_frame ..).within.op (State.setFld_frame ..)).op (State.setFld_frame ..)

/-- The state in which lane `n` has taken the answer `blk`, with the far taps that it reports. -/
def State.answeredBy (s : State) (n : Nat) (blk : LineBlock) : State := (s.rxBlock n blk).2.setFar n (s.ctlOf n blk)

theorem Changes.adaptive {P : List Part} {R : List Reg} {s t : State} (h : Changes P R s t) (hr : Reg.LNK_TRAIN ∉ R) (n : Nat) :
    t.adaptive n = s.adaptive n := by
  simp only [State.adaptive, h.fld (f := F.LNK_TRAIN_MODE) hr n 0]

/-- The own taps C_PRE, C_MAIN and C_POST set (R59). -/
def State.setOwn (s : State) (n : Nat) (t : Nat × Nat × Nat) : State :=
  ((s.setFld F.LNK_TAPS_OWN_PRE t.1 n).setFld F.LNK_TAPS_OWN_MAIN t.2.1 n).setFld F.LNK_TAPS_OWN_POST t.2.2 n

theorem State.fld_own_setOwn (s : State) (n : Nat) (t : Nat × Nat × Nat) :
    (s.setOwn n t).fld F.LNK_TAPS_OWN_PRE n = t.1 % 16 ∧ (s.setOwn n t).fld F.LNK_TAPS_OWN_MAIN n = t.2.1 % 64 ∧
      (s.setOwn n t).fld F.LNK_TAPS_OWN_POST n = t.2.2 % 32 := by
  unfold State.setOwn
  refine ⟨?_, ?_, State.fld_setFld_same _ _ _ _ (by decide)⟩
  · rw [(State.keepsFld_setFld _ _ _ _ (by decide)).fld, (State.keepsFld_setFld _ _ _ _ (by decide)).fld,
      State.fld_setFld_same _ _ _ _ (by decide)]
    rfl
  · rw [(State.keepsFld_setFld _ _ _ _ (by decide)).fld, State.fld_setFld_same _ _ _ _ (by decide)]
    rfl

/-- What holds of a training block with message `msg`. -/
structure TakesTraining (s : State) (n : Nat) (blk : LineBlock) (msg : Nat) : Prop where
  runs : s.laneRuns n
  lock : s.flag F.LNK_STATUS_BLOCK_LOCK n
  hdr : (s.rxBlock n blk).1.hdr = 1
  type : fieldLE (s.ctlOf n blk) 0 1 = 0x33
  crc : crcOk (s.ctlOf n blk) 9
  msgIs : fieldLE (s.ctlOf n blk) 1 1 = msg

theorem State.takesTraining_iff {s : State} {n : Nat} {blk : LineBlock} {msg : Nat} :
    s.takesTraining n blk msg = true ↔ TakesTraining s n blk msg := by
  simp only [State.takesTraining, Bool.and_eq_true, beq_iff_eq]
  exact ⟨fun ⟨⟨⟨⟨⟨hruns, hlock⟩, hhdr⟩, htype⟩, hcrc⟩, hmsg⟩ => ⟨hruns, hlock, hhdr, htype, hcrc, hmsg⟩,
    fun ⟨hruns, hlock, hhdr, htype, hcrc, hmsg⟩ => ⟨⟨⟨⟨⟨hruns, hlock⟩, hhdr⟩, htype⟩, hcrc⟩, hmsg⟩⟩

section
variable {s : State} {n : Nat} {blk : LineBlock}

/-- The taps follow a REQUEST, and a STATUS answers it (R61). -/
theorem TakesTraining.request (h : TakesTraining s n blk 1) : ∃ status, s.training n blk =
    ((s.rxBlock n blk).2.applyTaps n (fieldLE (s.ctlOf n blk) 3 1) (fieldLE (s.ctlOf n blk) 4 1)).2.sendTraining n 2
      (fieldLE (s.ctlOf n blk) 2 1 / 16) 0 0 status := by
  obtain ⟨hruns, hlock, hhdr, htype, hcrc, hmsg⟩ := h
  unfold State.ctlOf at *
  refine ⟨((s.rxBlock n blk).2.applyTaps n (fieldLE (s.rxBlock n blk).1.ctl 3 1) (fieldLE (s.rxBlock n blk).1.ctl 4 1)).1, ?_⟩
  simp [State.training, hruns, hlock, hhdr, htype, hcrc, hmsg]

/-- The own taps after a REQUEST are those it leads to. -/
theorem TakesTraining.own_of_request (h : TakesTraining s n blk 1) (f : Fld) : (s.training n blk).fld f n =
    ((s.rxBlock n blk).2.applyTaps n (fieldLE (s.ctlOf n blk) 3 1) (fieldLE (s.ctlOf n blk) 4 1)).2.fld f n := by
  obtain ⟨status, heq⟩ := h.request
  rw [heq]
  exact (State.sendTraining_changes ..).fld List.not_mem_nil n 0

/-- What a block with a valid header leaves of its lane. -/
theorem TakesTraining.unheard {msg : Nat} (h : TakesTraining s n blk msg) :
    ((s.rxBlock n blk).2.ln n).unheard = (s.ln n).unheard := State.unheard_rxBlock (RxBlock.validHdr_of_hdr h.hdr)

theorem TakesTraining.changes {msg : Nat} (h : TakesTraining s n blk msg) :
    Changes [.outbox, .lnk] [] s (s.rxBlock n blk).2 := State.rxBlock_valid_changes (RxBlock.validHdr_of_hdr h.hdr)

theorem TakesTraining.lstate {msg : Nat} (h : TakesTraining s n blk msg) : (s.rxBlock n blk).2.lstate n = s.lstate n :=
  h.changes.lstate List.not_mem_nil n

/-- An answer shows in the FAR taps, and of its lane nothing else than by any block. -/
theorem TakesTraining.answered_changes {msg : Nat} (h : TakesTraining s n blk msg) :
    Changes [.outbox, .lnk] [.LNK_TAPS] s (s.answeredBy n blk) := h.changes.within.op (State.setFar_changes ..)

theorem TakesTraining.unheard_answered {msg : Nat} (h : TakesTraining s n blk msg) :
    ((s.answeredBy n blk).ln n).unheard = (s.ln n).unheard := h.unheard

/-- A STATUS reports the far taps (R61). -/
theorem TakesTraining.status (h : TakesTraining s n blk 2) :
    s.training n blk = (s.answeredBy n blk).trainStatus n (fieldLE (s.ctlOf n blk) 2 1 / 16) := by
  obtain ⟨hruns, hlock, hhdr, htype, hcrc, hmsg⟩ := h
  unfold State.answeredBy State.ctlOf at *
  simp [State.training, hruns, hlock, hhdr, htype, hcrc, hmsg, State.setFar]

/-- READY received in TRAIN is noted (R62). -/
theorem TakesTraining.ready (h : TakesTraining s n blk 3) (hst : s.lstate n = lsTrain) : s.training n blk =
    ((s.answeredBy n blk).setLn n { (s.answeredBy n blk).ln n with rdyRx := true }).trainCheck n := by
  have hst' := h.lstate.trans hst
  obtain ⟨hruns, hlock, hhdr, htype, hcrc, hmsg⟩ := h
  unfold State.answeredBy State.ctlOf at *
  simp [State.training, hruns, hlock, hhdr, htype, hcrc, hmsg, hst', State.setFar]

/-- ABORT received in TRAIN ends training (R61). -/
theorem TakesTraining.abort (h : TakesTraining s n blk 4) (hst : s.lstate n = lsTrain) :
    s.training n blk = (s.rxBlock n blk).2.trainFail n false := by
  have hst' := h.lstate.trans hst
  obtain ⟨hruns, hlock, hhdr, htype, hcrc, hmsg⟩ := h
  unfold State.ctlOf at *
  simp [State.training, hruns, hlock, hhdr, htype, hcrc, hmsg, hst']

end

/-! ## The own taps (R59) -/

/-- A PRESET loads its taps. -/
theorem State.applyTaps_preset (s : State) {n req preset : Nat} (hreq : natBit req 6) (hp : preset < 8) :
    (s.applyTaps n req preset).2 = s.setOwn n (presetTaps preset) := by
  simp [State.applyTaps, State.setOwn, hreq, Nat.not_le.2 hp]

theorem presetTaps_fits (k : Nat) : (presetTaps k).1 < 16 ∧ (presetTaps k).2.1 < 64 ∧ (presetTaps k).2.2 < 32 := by
  unfold presetTaps
  split <;> decide

/-- The taps C_PRE, C_MAIN and C_POST after the steps that a REQUEST asks for, each tested in its turn. -/
def State.stepped (s : State) (n req : Nat) : Nat × Nat × Nat :=
  let pre := s.fld F.LNK_TAPS_OWN_PRE n
  let main := s.fld F.LNK_TAPS_OWN_MAIN n
  let post := s.fld F.LNK_TAPS_OWN_POST n
  let a := (tapStep (req % 4) pre 0 8 (main + post)).1
  let b := (tapStep (req / 4 % 4) main 24 48 (a + post)).1
  (a, b, (tapStep (req / 16 % 4) post 0 16 (a + b)).1)

theorem State.applyTaps_steps (s : State) {n req : Nat} (preset : Nat) (hreq : natBit req 6 = false) :
    (s.applyTaps n req preset).2 = s.setOwn n (s.stepped n req) := by
  simp [State.applyTaps, State.setOwn, State.stepped, hreq]

/-- A request for one step of C_PRE up, inside its limit and the limit on the sum, takes it. -/
theorem State.stepped_pre_up {s : State} {n : Nat} (hpre : s.fld F.LNK_TAPS_OWN_PRE n < 8)
    (hsum : s.fld F.LNK_TAPS_OWN_PRE n + s.fld F.LNK_TAPS_OWN_MAIN n + s.fld F.LNK_TAPS_OWN_POST n < 48) :
    (s.stepped n 1).1 = s.fld F.LNK_TAPS_OWN_PRE n + 1 := by
  have hmax : s.fld F.LNK_TAPS_OWN_PRE n + 1 + (s.fld F.LNK_TAPS_OWN_MAIN n + s.fld F.LNK_TAPS_OWN_POST n) ≤ 48 := by omega
  simp [State.stepped, tapStep, Nat.succ_le_of_lt hpre, hmax]

/-! ## The script (R62) -/

/-- An answer in the measurements of the adaptive script ends the request, and the script waits for its measurement. -/
theorem State.trainStatus_measuring {s : State} {n : Nat} {q : TrainReq} (hreq : (s.ln n).req = some q) (hst : s.lstate n = lsTrain)
    (had : s.adaptive n) (hm : (s.ln n).measured < 8) :
    s.trainStatus n q.seq = s.setLn n { s.ln n with req := none, quietTill := s.fine + fineOfUs 1 } := by
  have had' (x : Lane) : (s.setLn n x).adaptive n := had
  simp [State.trainStatus, hreq, hst, State.answered, had', hm]

/-- READY sent and received ends TRAIN. -/
theorem State.trainCheck_done {s : State} {n : Nat} (hst : s.lstate n = lsTrain) (htx : (s.ln n).rdyTx) (hrx : (s.ln n).rdyRx) :
    s.trainCheck n = s.enterDeskew n := by
  simp [State.trainCheck, hst, htx, hrx]

theorem State.trainCheck_notSent {s : State} {n : Nat} (htx : (s.ln n).rdyTx = false) : s.trainCheck n = s := by
  simp [State.trainCheck, htx]

theorem State.lstate_enterDeskew (s : State) (n : Nat) : (s.enterDeskew n).lstate n = lsDeskew := by
  unfold State.enterDeskew
  extract_lets p x s1 y s2
  have hst : s1.lstate n = lsDeskew := State.lstate_setLstate_self _ n lsDeskew
  split
  · exact ((s1.tryRestore_changes p).lstate List.not_mem_nil n).trans hst
  · split <;> exact hst

/-- What sending a REQUEST leaves of the results of the script. -/
theorem State.script_request (s : State) (n req preset : Nat) :
    ((s.request n req preset).ln n).measured = (s.ln n).measured ∧ ((s.request n req preset).ln n).margin = (s.ln n).margin ∧
      ((s.request n req preset).ln n).best = (s.ln n).best := by
  unfold State.request
  extract_lets x
  have hsent := State.sendTraining_sentOnly
    (s.setLn n { x with req := some ⟨x.seq % 16, req, preset, 0, s.fine⟩, seq := (x.seq + 1) % 16 }) n 1 x.seq req preset 0
  refine ⟨(hsent.ln (·.measured) (fun _ => rfl) n).trans ?_, (hsent.ln (·.margin) (fun _ => rfl) n).trans ?_,
    (hsent.ln (·.best) (fun _ => rfl) n).trans ?_⟩ <;> rw [State.ln_setLn]

/-- The lane after a further preset has been measured with margin `m`: the better of it and the best so far is kept. -/
def Lane.measure (x : Lane) (m : Nat) : Lane :=
  { x with measured := x.measured + 1, best := if x.margin < m then x.measured else x.best, margin := max x.margin m }

/-- The measurement of a preset after the first: the script asks for its next setting. -/
theorem exec_eyeMeasurement_preset {n : Fin 64} {m : Nat} {s : State} (hruns : s.laneRuns n) (hst : s.lstate n = lsTrain)
    (had : s.adaptive n) (hreq : (s.ln n).req = none) (htx : (s.ln n).rdyTx = false) (hpos : 0 < (s.ln n).measured)
    (hm : (s.ln n).measured < 8) :
    ∃ preset, exec (.eyeMeasurement n m) s = .next ((s.setLn n ((s.ln n).measure m)).request n reqPreset preset) := by
  have hmax : (if (s.ln n).margin < m then m else (s.ln n).margin) = max (s.ln n).margin m := by split <;> omega
  have hexec : exec (.eyeMeasurement n m) s = .next (if ((s.ln n).measure m).measured < 8
      then (s.setLn n ((s.ln n).measure m)).request n reqPreset ((s.ln n).measure m).measured
      else (s.setLn n ((s.ln n).measure m)).request n reqPreset ((s.ln n).measure m).best) := by
    show execEyeMeasurement n m s = _
    simp [execEyeMeasurement, hruns, hst, had, hreq, htx, hm, hpos.ne', hmax, Lane.measure]
  rw [hexec]
  split <;> exact ⟨_, rfl⟩

/-! ## The answers in TRAIN -/

/-- The STATUS that answers the request outstanding while the script measures. -/
theorem exec_trainingStatus_measuring {n : Fin 64} {blk : LineBlock} {q : TrainReq} {s : State} (h : TakesTraining s n blk 2)
    (hst : s.lstate n = lsTrain) (hreq : (s.ln n).req = some q) (hseq : q.seq = fieldLE (s.ctlOf n blk) 2 1 / 16)
    (had : s.adaptive n) (hm : (s.ln n).measured < 8) : exec (.trainingStatus n blk) s = .next ((s.answeredBy n blk).setLn n
      { (s.answeredBy n blk).ln n with req := none, quietTill := (s.answeredBy n blk).fine + fineOfUs 1 }) := by
  show Host.Outcome.next (s.training n blk) = _
  rw [h.status, ← hseq, State.trainStatus_measuring]
  · exact (Lane.of_unheard h.unheard_answered (·.req) fun _ => rfl).trans hreq
  · exact (h.answered_changes.lstate (by decide) n).trans hst
  · exact (h.answered_changes.adaptive (by decide) n).trans had
  · exact (Lane.of_unheard h.unheard_answered (·.measured) fun _ => rfl).trans_lt hm

/-- READY before the Swista has sent its own. -/
theorem exec_trainingReady_first {n : Fin 64} {blk : LineBlock} {s : State} (h : TakesTraining s n blk 3)
    (hst : s.lstate n = lsTrain) (htx : (s.ln n).rdyTx = false) : exec (.trainingReady n blk) s =
      .next ((s.answeredBy n blk).setLn n { (s.answeredBy n blk).ln n with rdyRx := true }) := by
  show Host.Outcome.next (s.training n blk) = _
  rw [h.ready hst, State.trainCheck_notSent]
  rw [State.ln_setLn]
  exact (Lane.of_unheard h.unheard_answered (·.rdyTx) fun _ => rfl).trans htx

/-- READY once the Swista has sent its own. -/
theorem exec_trainingReady_second {n : Fin 64} {blk : LineBlock} {s : State} (h : TakesTraining s n blk 3)
    (hst : s.lstate n = lsTrain) (htx : (s.ln n).rdyTx) : exec (.trainingReady n blk) s =
      .next (((s.answeredBy n blk).setLn n { (s.answeredBy n blk).ln n with rdyRx := true }).enterDeskew n) := by
  show Host.Outcome.next (s.training n blk) = _
  rw [h.ready hst, State.trainCheck_done]
  · exact (h.answered_changes.lstate (by decide) n).trans hst
  · rw [State.ln_setLn]
    exact (Lane.of_unheard h.unheard_answered (·.rdyTx) fun _ => rfl).trans htx
  · rw [State.ln_setLn]

theorem exec_trainingAbort_train {n : Fin 64} {blk : LineBlock} {s : State} (h : TakesTraining s n blk 4)
    (hst : s.lstate n = lsTrain) : exec (.trainingAbort n blk) s = .next ((s.rxBlock n blk).2.trainFail n false) :=
  congrArg Host.Outcome.next (h.abort hst)

/-! ## Repeats (R61) -/

theorem exec_trainingRequestRepeat_repeat {n : Fin 64} {dt : Nat} {q : TrainReq} {s : State} (hruns : s.laneRuns n)
    (hst : s.lstate n = lsTrain) (hreq : (s.ln n).req = some q) (hq : q.repeats < 4) :
    exec (.trainingRequestRepeat n dt) s = .next (((s.passTo dt (q.at0 + fineOfUs 4)).setLn n
      { s.ln n with req := some { q with repeats := q.repeats + 1, at0 := (s.passTo dt (q.at0 + fineOfUs 4)).fine } }).sendTraining n 1
        q.seq q.req q.preset 0) := by
  show execTrainingRequestRepeat n dt s = _
  simp [execTrainingRequestRepeat, hreq, hruns, hst, hq]

theorem exec_trainingRequestRepeat_fail {n : Fin 64} {dt : Nat} {q : TrainReq} {s : State} (hruns : s.laneRuns n)
    (hst : s.lstate n = lsTrain) (hreq : (s.ln n).req = some q) (hq : 4 ≤ q.repeats) :
    exec (.trainingRequestRepeat n dt) s = .next ((s.passTo dt (q.at0 + fineOfUs 4)).trainFail n true) := by
  show execTrainingRequestRepeat n dt s = _
  simp [execTrainingRequestRepeat, hreq, hruns, hst, Nat.not_lt.2 hq]

/-- The own taps that a REQUEST for a PRESET leads to (R59). -/
theorem TakesTraining.preset {n : Fin 64} {blk : LineBlock} {s : State} (h : TakesTraining s n blk 1)
    (hreq : natBit (fieldLE (s.ctlOf n blk) 3 1) 6) (hp : fieldLE (s.ctlOf n blk) 4 1 < 8) :
    (s.training n blk).fld F.LNK_TAPS_OWN_PRE n = (presetTaps (fieldLE (s.ctlOf n blk) 4 1)).1 ∧
      (s.training n blk).fld F.LNK_TAPS_OWN_MAIN n = (presetTaps (fieldLE (s.ctlOf n blk) 4 1)).2.1 ∧
      (s.training n blk).fld F.LNK_TAPS_OWN_POST n = (presetTaps (fieldLE (s.ctlOf n blk) 4 1)).2.2 := by
  obtain ⟨hpre, hmain, hpost⟩ := presetTaps_fits (fieldLE (s.ctlOf n blk) 4 1)
  obtain ⟨hpre', hmain', hpost'⟩ := State.fld_own_setOwn (s.rxBlock n blk).2 n (presetTaps (fieldLE (s.ctlOf n blk) 4 1))
  simp only [h.own_of_request, State.applyTaps_preset _ hreq hp, hpre', hmain', hpost', Nat.mod_eq_of_lt hpre,
    Nat.mod_eq_of_lt hmain, Nat.mod_eq_of_lt hpost, and_self]

/-- A REQUEST for one step of C_PRE up, inside the limits, moves it (R59). -/
theorem TakesTraining.pre_up {n : Fin 64} {blk : LineBlock} {s : State} (h : TakesTraining s n blk 1)
    (hreq : fieldLE (s.ctlOf n blk) 3 1 = 1) (hpre : s.fld F.LNK_TAPS_OWN_PRE n < 8)
    (hsum : s.fld F.LNK_TAPS_OWN_PRE n + s.fld F.LNK_TAPS_OWN_MAIN n + s.fld F.LNK_TAPS_OWN_POST n < 48) :
    (s.training n blk).fld F.LNK_TAPS_OWN_PRE n = s.fld F.LNK_TAPS_OWN_PRE n + 1 := by
  have hsame (f : Fld) := h.changes.fld (f := f) List.not_mem_nil n 0
  rw [h.own_of_request, hreq, State.applyTaps_steps _ _ (by decide), (State.fld_own_setOwn ..).1, State.stepped_pre_up, hsame]
  · exact Nat.mod_eq_of_lt (by omega)
  · rwa [hsame]
  · rwa [hsame, hsame, hsame]

/-- Settles O25: a training block acts as its message says by `TakesTraining`, and what the answers send changes neither the taps
nor what the script holds. -/
theorem laneTraining : Obligations.LaneTraining := by
  unfold Obligations.LaneTraining
  simp only [State.takesTraining_iff]
  refine ⟨fun n blk s htakes hreq hp => ⟨_, rfl, htakes.preset hreq hp⟩,
    fun n blk s htakes hreq hpre hsum => ⟨_, rfl, htakes.pre_up hreq hpre hsum⟩,
    fun n blk q s htakes hst hreq hseq had hm => ⟨_, exec_trainingStatus_measuring htakes hst hreq hseq had hm,
      by rw [State.ln_setLn], State.fld_far_setFar (s.rxBlock n blk).2 n (s.ctlOf n blk)⟩,
    fun n blk s htakes hst htx => ⟨_, exec_trainingReady_first htakes hst htx, by rw [State.ln_setLn],
      (htakes.answered_changes.lstate (by decide) n).trans hst⟩,
    fun n blk s htakes hst htx => ⟨_, exec_trainingReady_second htakes hst htx, State.lstate_enterDeskew ..⟩,
    fun n blk s htakes hst hd => ⟨_, exec_trainingAbort_train htakes hst, State.trainFail_shows false ?abort⟩,
    fun n dt q s hruns hst hreq hq => ⟨_, exec_trainingRequestRepeat_repeat hruns hst hreq hq, ?again, ?time⟩,
    fun n dt q s hruns hst hreq hq hd => ⟨_, exec_trainingRequestRepeat_fail hruns hst hreq hq, ?fail⟩,
    fun n m s hruns hst had hreq htx hpos hm => ?measure⟩
  case abort => exact (Lane.of_unheard htakes.unheard (·.dozeFail) fun _ => rfl).trans hd
  case again =>
    have hsent := State.sendTraining_sentOnly ((s.passTo dt (q.at0 + fineOfUs 4)).setLn n
      { s.ln n with req := some { q with repeats := q.repeats + 1, at0 := (s.passTo dt (q.at0 + fineOfUs 4)).fine } })
      n 1 q.seq q.req q.preset 0
    rw [hsent.ln (·.req) (fun _ => rfl), State.ln_setLn, (State.sendTraining_changes ..).parts .fine (by decide)]
    rfl
  case time => exact (State.sendTraining_changes ..).le_fine (by decide) (s.le_fine_passTo dt _)
  case fail => exact (State.trainFail_shows (s := s.passTo dt (q.at0 + fineOfUs 4)) true hd).1
  case measure =>
    obtain ⟨preset, hexec⟩ := exec_eyeMeasurement_preset (m := m) hruns hst had hreq htx hpos hm
    obtain ⟨hmeasured, hmargin, hbest⟩ := (s.setLn n ((s.ln n).measure m)).script_request n reqPreset preset
    rw [State.ln_setLn] at hmeasured hmargin hbest
    exact ⟨_, hexec, hmeasured, hmargin, hbest⟩

end
end Sys2Proof.Machine

/-! # Blocks, skips, rows and stripes (O26) -/

namespace Sys2Proof.Machine
section

/-! ## Stuffed and reserved control blocks (R47, R51) -/

theorem State.lineIn_noLoopback {s : State} {n : Nat} (b : LineBlock) (h : s.loopback n = 0) : s.lineIn n b = (b, s) := by
  simp [State.lineIn, h]

/-- Without loopback the descrambler goes on from the block that the camera sent. -/
theorem State.rx_rxBlock {s : State} {n : Nat} {b : LineBlock} (hv : (s.rxBlock n b).1.validHdr) (hl : s.loopback n = 0) :
    ((s.rxBlock n b).2.ln n).rx = lastBits (b.pre.getD (s.ln n).rx) b.pay := by
  have hlost : b.lost = false := by
    have h := State.takeBlock_valid (by rwa [State.rxBlock_fst] at hv)
    rwa [State.lineIn_noLoopback b hl] at h
  rw [State.rxBlock_of_valid hv, State.taken, State.lineIn_noLoopback b hl, State.takeBlock_kept _ _ _ _ hlost, State.ln_setLn]

theorem exec_stuffedBlock_stuffed {n : Fin 64} {blk : LineBlock} {s : State} (hruns : s.laneRuns n)
    (hlock : s.flag F.LNK_STATUS_BLOCK_LOCK n) (hhdr : (s.rxBlock n blk).1.hdr = 1)
    (hline : (s.rxBlock n blk).1.line &&& 0xFF#256 = 0x5C#256) : exec (.stuffedBlock n blk) s = .next
      (((s.rxBlock n blk).2.setLn n { (s.rxBlock n blk).2.ln n with stuffed := ((s.rxBlock n blk).2.ln n).stuffed + 1 }).bump
        .LNK_CNT_STUFF n) := by
  show execStuffedBlock n blk s = _
  simp [execStuffedBlock, hruns, hlock, hhdr, hline]

theorem exec_reservedTypeBlock_lock {n : Fin 64} {blk : LineBlock} {s : State} (hruns : s.laneRuns n)
    (hlock : s.flag F.LNK_STATUS_BLOCK_LOCK n) :
    exec (.reservedTypeBlock n blk) s = .next ((s.rxBlock n blk).2.bump .LNK_CNT_BAD_TYPE n) := by
  show execReservedTypeBlock n blk s = _
  simp [execReservedTypeBlock, hruns, hlock]

/-! ## Skip blocks (R48, R50, R53) -/

/-- A block whose byte 0 shows a skip in the sense `inv` is taken in that sense, and its CRC decides. -/
theorem State.skipBlock_sense {s : State} {n slot : Nat} {blk : LineBlock} {inv : Bool} (hl : (s.lineIn n blk).1.lost = false)
    (hs : skipSense (s.lineIn n blk).1 = some inv) :
    s.skipBlock n slot blk =
      if crcOk ((s.lineIn n blk).2.takeBlock n (s.lineIn n blk).1 inv).1.ctl 8 then
        ((s.lineIn n blk).2.takeBlock n (s.lineIn n blk).1 inv).2.validSkip n slot inv
          ((s.lineIn n blk).2.takeBlock n (s.lineIn n blk).1 inv).1.ctl
      else ((s.lineIn n blk).2.takeBlock n (s.lineIn n blk).1 inv).2.badSkip n := by
  simp [State.skipBlock, hl, hs]

/-- In the polarity in force a skip is taken as any block is. -/
theorem State.takeBlock_inForce {s : State} {n : Nat} {blk : LineBlock} :
    (s.lineIn n blk).2.takeBlock n (s.lineIn n blk).1 (s.flag F.LNK_STATUS_RX_INVERTED n) = s.taken n blk := by
  rw [State.taken, State.flag, State.flag, (s.lineIn_changes n blk).fld List.not_mem_nil]

theorem exec_skipBlock_losable {n : Fin 64} {slot : Nat} {blk : LineBlock} {s : State} (hruns : s.laneRuns n) (hlos : s.losable n) :
    exec (.skipBlock n slot blk) s = .next (s.skipBlock n slot blk) := by
  show execSkipBlock n slot blk s = _
  simp [execSkipBlock, hruns, hlos]

theorem State.stuffed_intervalEnd (s : State) (n : Nat) : ((s.intervalEnd n).ln n).stuffed = 0 := by
  rw [State.intervalEnd, State.ln_setLn]

/-- A skip that is not used counts in both counters. -/
theorem State.counted_badSkip (s : State) (n : Nat) :
    Counted .LNK_CNT_SKIP_ERR n s (s.badSkip n) ∧ Counted .LNK_CNT_BAD_TYPE n s (s.badSkip n) :=
  ⟨((s.counted_bump .LNK_CNT_SKIP_ERR n).before (State.bump_frame _ .LNK_CNT_BAD_TYPE n 0) (by decide)).before
      (State.intervalEnd_changes _ n) (by decide),
    ((State.counted_bump _ .LNK_CNT_BAD_TYPE n).after (s.bump_frame .LNK_CNT_SKIP_ERR n 0) (by decide)).before
      (State.intervalEnd_changes _ n) (by decide)⟩

/-- The state after the first valid skip of a lane has been recorded. -/
def State.firstSkip (s : State) (n slot : Nat) (b : List Byte) : State :=
  ((s.intervalEnd n).setLn n { (s.intervalEnd n).ln n with
    skip := some (fieldLE b 2 2, slot), ident := some (fieldLE b 1 1 % 16, fieldLE b 1 1 / 16), breaks := 0,
    deskewed := (s.ln n).deskewed || s.lstate n = lsDeskew }).setFld F.LNK_STATUS_LANE_ID (fieldLE b 1 1 % 16) n

theorem State.noteSkip_first {s : State} {n : Nat} (slot : Nat) (b : List Byte) (h : (s.ln n).skip = none) :
    s.noteSkip n slot b = (false, s.firstSkip n slot b) := by
  simp [State.noteSkip, h, State.firstSkip]

theorem State.firstSkip_changes (s : State) (n slot : Nat) (b : List Byte) :
    Changes [.lnk] [.LNK_STATUS, .LNK_CNT_STUFF_EXCESS] s (s.firstSkip n slot b) :=
  ((s.intervalEnd_changes n).within.op (State.setLn_changes ..)).op (State.setFld_frame ..)

theorem State.lstate_firstSkip (s : State) (n slot : Nat) (b : List Byte) : (s.firstSkip n slot b).lstate n = s.lstate n := by
  have hend (x : Lane) := (s.intervalEnd_changes n).op (State.setLn_changes _ n x)
  exact ((State.keepsFld_setFld _ _ n 0 (by decide)).lstate n).trans ((hend _).lstate (by decide) n)

/-- What the first skip of a lane leaves on record. -/
theorem State.firstSkip_shows (s : State) (n slot : Nat) (b : List Byte) :
    ((s.firstSkip n slot b).ln n).skip = some (fieldLE b 2 2, slot) ∧ ((s.firstSkip n slot b).ln n).stuffed = 0 ∧
      (s.firstSkip n slot b).fld F.LNK_STATUS_LANE_ID n = fieldLE b 1 1 % 16 := by
  refine ⟨by rw [State.firstSkip, State.ln_setFld, State.ln_setLn], ?_, ?_⟩
  · rw [State.firstSkip, State.ln_setFld, State.ln_setLn]
    exact s.stuffed_intervalEnd n
  · exact (State.fld_setFld_same _ _ n 0 (by decide)).trans (Nat.mod_mod _ _)

/-- A lane that is UP in a port that need not follow the mask of the skip. -/
theorem State.useSkip_up {s : State} {n : Nat} {b : List Byte} (hst : s.lstate n = lsUp)
    (hmask : fieldLE b 4 2 % 2 ^ s.portWidth (s.portAt n) = s.activeMask (s.portAt n)) (hpar : (s.pt (s.portAt n)).parity = false) :
    s.useSkip n b = s := by
  simp [State.useSkip, hst, lsUp, lsAlign, lsDeskew, lsShadow, State.followMask, hmask, hpar]

/-- The first valid skip of a lane that is UP, in the polarity in force, is recorded and used. -/
theorem State.validSkip_up {s : State} {n slot : Nat} {b : List Byte} (hst : s.lstate n = lsUp) (hskip : (s.ln n).skip = none)
    (hpol : s.flag F.LNK_CTRL_RX_POL_AUTO n ∨ s.flag F.LNK_CTRL_RX_INVERT n = s.flag F.LNK_STATUS_RX_INVERTED n) :
    ∃ u, Changes [.lnk] [] s u ∧ s.validSkip n slot (s.flag F.LNK_STATUS_RX_INVERTED n) b = (u.firstSkip n slot b).useSkip n b := by
  have hfix : ((s.setLn n { s.ln n with polOk := true }).ln n).skip = none := by rw [State.ln_setLn]; exact hskip
  by_cases hauto : s.flag F.LNK_CTRL_RX_POL_AUTO n
  · refine ⟨s, .refl .., ?_⟩
    simp [State.validSkip, hauto, hst, lsUp, lsAlign, State.noteSkip_first slot b hskip]
  · refine ⟨_, s.setLn_changes n { s.ln n with polOk := true }, ?_⟩
    simp [State.validSkip, hauto, hpol.resolve_left hauto, State.noteSkip_first slot b hfix]

/-- Such a skip on the line of a lane: nothing but its record is left of it. -/
theorem State.skipBlock_up {s : State} {n slot : Nat} {blk : LineBlock} (hst : s.lstate n = lsUp)
    (hl : (s.lineIn n blk).1.lost = false) (hs : skipSense (s.lineIn n blk).1 = some (s.flag F.LNK_STATUS_RX_INVERTED n))
    (hpol : s.flag F.LNK_CTRL_RX_POL_AUTO n ∨ s.flag F.LNK_CTRL_RX_INVERT n = s.flag F.LNK_STATUS_RX_INVERTED n)
    (hcrc : crcOk (s.ctlOf n blk) 8) (hskip : (s.ln n).skip = none)
    (hmask : fieldLE (s.ctlOf n blk) 4 2 % 2 ^ s.portWidth (s.portAt n) = s.activeMask (s.portAt n))
    (hpar : (s.pt (s.portAt n)).parity = false) :
    ∃ u, Changes [.outbox, .lnk] [] s u ∧ s.skipBlock n slot blk = u.firstSkip n slot (s.ctlOf n blk) := by
  have htaken := State.taken_changes hl
  have hflag (f : Fld) : (s.taken n blk).2.flag f n = s.flag f n := by rw [State.flag, State.flag, htaken.fld List.not_mem_nil]
  have hskip' : ((s.taken n blk).2.ln n).skip = none := (Lane.of_unheard (s.unheard_taken n blk) (·.skip) fun _ => rfl).trans hskip
  have hst' := (htaken.lstate List.not_mem_nil n).trans hst
  obtain ⟨u, hu, hvalid⟩ := State.validSkip_up (slot := slot) (b := s.ctlOf n blk) hst' hskip' (by rwa [hflag, hflag, hflag])
  have hsu : Changes [.outbox, .lnk] [] s u := htaken.op hu
  refine ⟨u, hsu, ?_⟩
  rw [hflag] at hvalid
  rw [State.skipBlock_sense hl hs, State.takeBlock_inForce, ← State.rxBlock_fst, ← State.ctlOf, if_pos hcrc, hvalid]
  apply State.useSkip_up
  case hst => rw [State.lstate_firstSkip, hu.lstate List.not_mem_nil, hst']
  all_goals
    have hsv : Changes [.outbox, .lnk] [.LNK_STATUS, .LNK_CNT_STUFF_EXCESS] s (u.firstSkip n slot (s.ctlOf n blk)) :=
      hsu.within.op (u.firstSkip_changes n slot _)
    have hlay := hsv.sameLayout (by decide) (by decide)
    rw [hlay.portAt]
  case hmask => rw [hlay.portWidth, State.activeMask, hsv.fld (by decide)]; exact hmask
  case hpar => rw [hsv.pt (by decide)]; exact hpar

/-! ## The slots of a port (R44, R49, R51, R52) -/

theorem State.pt_stuffLanes (row : List TxBlock) (s : State) (p : Nat) : (State.stuffLanes row s).pt p = s.pt p :=
  (State.stuffLanes_changes row s).pt (by decide) p

theorem State.pt_putLanes (row : List TxBlock) (s : State) (p : Nat) : (State.putLanes row s).pt p = s.pt p :=
  (State.putLanes_changes row s).pt (by decide) p

theorem State.pt_useSlot (s : State) (p : Nat) (stuffed : Bool) :
    (s.useSlot p stuffed).pt p = { s.pt p with slots := (s.pt p).slots + 1, txStuff := (s.pt p).txStuff + b2n stuffed } :=
  s.pt_setPt p _

/-- A row uses slots, and no SKIP_SEQ. -/
theorem State.putRow_slots (p : Nat) (row : List TxBlock) (fuel : Nat) (s : State) :
    (s.pt p).slots + min 1 fuel ≤ ((State.putRow p row fuel s).pt p).slots ∧
      ((State.putRow p row fuel s).pt p).txSeq = (s.pt p).txSeq := by
  induction fuel generalizing s with
  | zero => exact ⟨le_rfl, rfl⟩
  | succ fuel ih =>
    unfold State.putRow
    split
    · obtain ⟨hslots, hseq⟩ := ih ((State.stuffLanes row s).useSlot p true)
      rw [State.pt_useSlot, State.pt_stuffLanes] at hslots hseq
      exact ⟨by dsimp only at hslots; omega, hseq⟩
    · rw [State.pt_useSlot, State.pt_putLanes]
      exact ⟨by dsimp only; omega, rfl⟩

/-- `k` slots with nothing to send are `k` slots at least. -/
theorem State.idleRows_slots (p k : Nat) (s : State) :
    (s.pt p).slots + k ≤ ((State.idleRows p k s).pt p).slots ∧ ((State.idleRows p k s).pt p).txSeq = (s.pt p).txSeq := by
  induction k generalizing s with
  | zero => exact ⟨le_rfl, rfl⟩
  | succ k ih =>
    unfold State.idleRows
    extract_lets r
    have hr : r.2.pt p = s.pt p := (State.idleLanes_changes ..).pt (by decide) p
    obtain ⟨hrow, hrowSeq⟩ := State.putRow_slots p r.1 stuffFuel r.2
    obtain ⟨hslots, hseq⟩ := ih (State.putRow p r.1 stuffFuel r.2)
    rw [hr] at hrow hrowSeq
    have hone : min 1 stuffFuel = 1 := rfl
    exact ⟨by omega, hseq.trans hrowSeq⟩

/-- A skip pass ends the interval, with the next SKIP_SEQ. -/
theorem State.pt_sendSkip (s : State) (p : Nat) : ((s.sendSkip p).pt p).txSeq = ((s.pt p).txSeq + 1) % 65536 ∧
    ((s.sendSkip p).pt p).slots = 0 ∧ ((s.sendSkip p).pt p).txStuff = 0 := by
  unfold State.sendSkip
  extract_lets w x mask flags body s1
  rw [State.pt_setPt]
  exact ⟨rfl, rfl, rfl⟩

/-- After 1,024 slots the skip is sent. -/
theorem State.pt_fillTo_full (s : State) (p : Nat) : ((s.fillTo p 1024).pt p).txSeq = ((s.pt p).txSeq + 1) % 65536 ∧
    ((s.fillTo p 1024).pt p).slots = 0 ∧ ((s.fillTo p 1024).pt p).txStuff = 0 := by
  obtain ⟨hslots, hseq⟩ := State.idleRows_slots p (1024 - (s.pt p).slots) s
  have hfull : s.fillTo p 1024 = (State.idleRows p (1024 - (s.pt p).slots) s).sendSkip p := by
    rw [State.fillTo, Nat.min_self, if_pos (by omega)]
  rw [hfull, ← hseq]
  exact State.pt_sendSkip ..

theorem exec_skipSend_port {p : Fin 64} {s : State} (dt : Nat) (hw : s.portWidth p ≠ 0) (hready : s.ready) :
    exec (.skipSend p dt) s = .next ((s.passTo dt ((s.pt p).skipAt + slotsEnd 1024)).fillTo p 1024) := by
  show execSkipSend p dt s = _
  simp [execSkipSend, hw, hready]

/-! ## Rows of data (R44, R72, R73, R76) -/

theorem exec_dataRow_data {p : Fin 64} {blocks : List LineBlock} {s : State} (hready : s.ready) (hup : s.portUp p)
    (hw : s.portWidth p ≠ 0) (hlen : blocks.length = s.portWidth p) (hdata : (s.settle p blocks).1.isData) :
    exec (.dataRow p blocks) s = .next ((s.settle p blocks).2.takeData p (s.settle p blocks).1) := by
  show execDataRow p blocks s = _
  simp [execDataRow, hready, hup, hw, hlen, hdata]

theorem State.eachOf_id {k : Nat → State → State} {s : State} (hk : ∀ n, k n s = s) (l : List Nat) : State.eachOf k l s = s := by
  induction l with
  | nil => rfl
  | cons n l ih => rw [State.eachOf, hk, ih]

theorem State.framedCheck_notService {s : State} (n : Nat) (d : BitVec 256) (h : s.mode ≠ modeService) : s.framedCheck n d = s := by
  simp [State.framedCheck, h]

/-- The bytes of a row of a port without parity: its active lanes in their order, those not used erased. -/
def State.rowBytes (s : State) (p : Nat) (v : RowView) : List (Nat × Byte) :=
  (s.activeLanes p).flatMap (fun i => markBytes (if v.used.contains i then 0 else 2) (v.block i).bits)

/-- Outside SERVICE a data row of a port without parity is appended; a row with an erased lane counts. -/
theorem State.takeData_plain {s : State} {p : Nat} {v : RowView} (hmode : s.mode ≠ modeService) (hpar : (s.pt p).parity = false) :
    s.takeData p v = if (s.activeLanes p).all v.used.contains then s.addBytes p (s.rowBytes p v)
      else (s.addBytes p (s.rowBytes p v)).bump .LNK_CNT_ERASED_ROWS p := by
  have hcheck : State.eachOf (fun i s => s.framedCheck (s.laneOf p i) (v.block i).bits) v.used s = s :=
    State.eachOf_id (fun i => s.framedCheck_notService (s.laneOf p i) (v.block i).bits hmode) v.used
  simp only [State.takeData, hcheck, hpar, Bool.false_eq_true, if_false, State.rowBytes]

theorem State.pt_addBytes (s : State) (p : Nat) (l : List (Nat × Byte)) :
    (s.addBytes p l).pt p = { s.pt p with bytes := (s.pt p).bytes ++ l } := s.pt_setPt p _

theorem State.bytes_takeData_plain {s : State} {p : Nat} {v : RowView} (hmode : s.mode ≠ modeService)
    (hpar : (s.pt p).parity = false) : ((s.takeData p v).pt p).bytes = (s.pt p).bytes ++ s.rowBytes p v := by
  rw [State.takeData_plain hmode hpar]
  split
  · rw [State.pt_addBytes]
  · rw [State.pt_bump, State.pt_addBytes]

/-! ### The row of a port with one lane -/

theorem State.laneOf_one {s : State} {p : Nat} (h : s.portWidth p = 1) : s.laneOf p 0 = p := by
  simp [State.laneOf, h]

theorem State.activeLanes_one {s : State} {p : Nat} (h : s.portWidth p = 1) (hm : s.activeMask p = 1) : s.activeLanes p = [0] := by
  simp [State.activeLanes, h, hm, natBit]

/-- A row of one lane that is UP is a data row unless its block is a control block. -/
theorem State.settle_one {s : State} {p : Nat} {blk : LineBlock} (hup : s.portUp p) (hw : s.portWidth p = 1)
    (hm : s.activeMask p = 1) (hst : s.lstate p = lsUp)
    (hhdr : (s.rxBlock p blk).1.validHdr = (s.rxBlock p blk).1.isData) : s.settle p [blk] =
      (⟨[(s.rxBlock p blk).1], true, if (s.rxBlock p blk).1.isData then [0] else []⟩, (s.rxBlock p blk).2) := by
  have hrow : State.rxRow p 0 [blk] s = ([(s.rxBlock p blk).1], (s.rxBlock p blk).2) := by
    simp [State.rxRow, State.laneOf_one hw]
  have hin : s.inRow p 0 := by simp [State.inRow, hup, State.laneOf_one hw, hst, hm, natBit]
  cases hd : (s.rxBlock p blk).1.isData <;>
    simp [State.settle, hrow, hw, hin, hhdr, hd, State.laneOf_one hw, hst, State.eachOf, lsUp, lsShadow]

/-! ### A row whose block has an invalid header (R45, R73) -/

/-- A bad header counts, once the receiver looks at the headers again. -/
theorem State.counted_badHeader {s : State} {n : Nat} (hlock : s.flag F.LNK_STATUS_BLOCK_LOCK n)
    (hquiet : (s.ln n).quietTill ≤ s.fine) : Counted .LNK_CNT_BAD_HDR n s (s.badHeader n) := by
  have hc := s.counted_bump .LNK_CNT_BAD_HDR n
  unfold State.badHeader
  extract_lets p s1
  rw [hlock, decide_eq_false (Nat.not_lt.2 hquiet), if_neg (by decide)]
  split
  · exact hc.before (s1.setLn_changes ..) List.not_mem_nil
  · split
    · exact hc.before (s1.suspect_changes ..) (by decide)
    · exact hc

/-- What a bad header leaves of a port: its stream, and whether it stripes with parity. -/
theorem State.pt_badHeader (s : State) (n q : Nat) :
    ((s.badHeader n).pt q).bytes = (s.pt q).bytes ∧ ((s.badHeader n).pt q).parity = (s.pt q).parity := by
  unfold State.badHeader
  extract_lets p s1
  split
  · exact ⟨rfl, rfl⟩
  · split
    · exact ⟨rfl, rfl⟩
    · split
      · unfold State.suspect
        extract_lets i s2
        by_cases hq : q = p
        · rw [hq, State.pt_setPt]
          exact ⟨rfl, rfl⟩
        · rw [State.pt_setPt_ne _ _ _ hq]
          exact ⟨rfl, rfl⟩
      · exact ⟨rfl, rfl⟩

theorem State.rxBlock_invalid_changes {s : State} {n : Nat} {b : LineBlock} (h : (s.rxBlock n b).1.validHdr = false)
    (hl : (s.rxBlock n b).1.lost = false) :
    Changes [.outbox, .lnk, .port] [.LNK_STATUS, .LNK_CNT_BAD_HDR] s (s.rxBlock n b).2 := by
  have hline : (s.lineIn n b).1.lost = false := by rwa [State.rxBlock_fst, State.taken, State.takeBlock_lost] at hl
  rw [State.rxBlock_of_invalid h hl]
  exact (State.taken_changes hline).within.op (State.badHeader_changes ..)

/-- A block with an invalid header on a locked lane counts. -/
theorem State.counted_rxBlock_invalid {s : State} {n : Nat} {b : LineBlock} (h : (s.rxBlock n b).1.validHdr = false)
    (hl : (s.rxBlock n b).1.lost = false) (hlock : s.flag F.LNK_STATUS_BLOCK_LOCK n) (hquiet : (s.ln n).quietTill ≤ s.fine) :
    Counted .LNK_CNT_BAD_HDR n s (s.rxBlock n b).2 := by
  have hline : (s.lineIn n b).1.lost = false := by rwa [State.rxBlock_fst, State.taken, State.takeBlock_lost] at hl
  have htaken := State.taken_changes hline
  rw [State.rxBlock_of_invalid h hl]
  refine (State.counted_badHeader ?lock ?quiet).after htaken List.not_mem_nil
  case lock => rwa [State.flag, htaken.fld List.not_mem_nil]
  case quiet =>
    exact htaken.le_fine (by decide) ((Lane.of_unheard (s.unheard_taken n b) (·.quietTill) fun _ => rfl).trans_le hquiet)

theorem State.pt_rxBlock_invalid {s : State} {n : Nat} {b : LineBlock} (q : Nat) (h : (s.rxBlock n b).1.validHdr = false)
    (hl : (s.rxBlock n b).1.lost = false) : ((s.rxBlock n b).2.pt q).bytes = (s.pt q).bytes ∧
      ((s.rxBlock n b).2.pt q).parity = (s.pt q).parity := by
  have hline : (s.lineIn n b).1.lost = false := by rwa [State.rxBlock_fst, State.taken, State.takeBlock_lost] at hl
  rw [State.rxBlock_of_invalid h hl, ← (State.taken_changes hline).pt (by decide) q]
  exact State.pt_badHeader ..

/-! ## Stripes (R75 to R78) -/

/-- The bytes of a stripe as released: its data blocks in the order of the lanes, without the parity block. -/
def Stripe.released (x : Stripe) (blk : Nat → List (Nat × Byte)) : List (Nat × Byte) :=
  ((List.range x.blocks.length).filter (· != parityLane x.blocks.length x.num)).flatMap blk

theorem exec_stripeHoldEnd_held {p : Fin 64} {x : Stripe} {rest : List Stripe} {s : State} (h : (s.pt p).held = x :: rest) :
    exec (.stripeHoldEnd p) s = .next (State.releaseStripe p x (s.setPt p { s.pt p with held := rest })) := by
  show execStripeHoldEnd p s = _
  simp [execStripeHoldEnd, h]

/-- A stripe whose parity checks is released as received. -/
theorem State.releaseStripe_checks {x : Stripe} (p : Nat) (s : State) (he : x.erased = []) (hc : x.checks) :
    State.releaseStripe p x s = s.addBytes p (x.released fun i => markBytes 0 (x.blocks.getD i (0, true)).1) := by
  simp [State.releaseStripe, he, hc, Stripe.released]

/-- A stripe whose parity fails while no lane has become SUSPECT. -/
theorem State.releaseStripe_mismatch {x : Stripe} (p : Nat) (s : State) (he : x.erased = []) (hc : x.checks = false)
    (hl : x.late = none) : State.releaseStripe p x s = (s.bump .LNK_CNT_PARITY_MISMATCH p).addBytes p
      (x.released fun i => markBytes 3 (x.blocks.getD i (0, true)).1) := by
  simp [State.releaseStripe, he, hc, hl, Stripe.released]

/-- A stripe with one data block to rebuild. -/
theorem State.releaseStripe_rebuilt {x : Stripe} {e : Nat} (p : Nat) (s : State)
    (he : x.erased = [e] ∨ x.erased = [] ∧ x.checks = false ∧ x.late = some e) (hpar : e ≠ parityLane x.blocks.length x.num) :
    State.releaseStripe p x s = (s.bump .LNK_CNT_REBUILT p).addBytes p
      (x.released fun i => if i = e then markBytes 1 (x.xorBut e) else markBytes 0 (x.blocks.getD i (0, true)).1) := by
  have hmark : (fun i => if i = e then markBytes 1 (x.xorBut e) else markBytes 0 (x.blocks.getD i (0, true)).1) =
      fun i => markBytes (if i = e then 1 else 0) (if i = e then x.xorBut e else (x.blocks.getD i (0, true)).1) := by
    funext i
    split <;> rfl
  rw [hmark]
  obtain he | ⟨he, hc, hl⟩ := he
  · simp [State.releaseStripe, he, hpar, Stripe.released]
  · simp [State.releaseStripe, he, hc, hl, hpar, Stripe.released]

/-- The stream and the stripes held after a release that counts in `r`. -/
theorem State.released_bump (s : State) (p : Nat) (r : Reg) (rest : List Stripe) (l : List (Nat × Byte)) :
    ((((s.setPt p { s.pt p with held := rest }).bump r p).addBytes p l).pt p).held = rest ∧
      Counted r p s (((s.setPt p { s.pt p with held := rest }).bump r p).addBytes p l) ∧
      ((((s.setPt p { s.pt p with held := rest }).bump r p).addBytes p l).pt p).bytes = (s.pt p).bytes ++ l := by
  have hc := (State.counted_bump _ r p).after (s.setPt_changes p { s.pt p with held := rest }) List.not_mem_nil
  refine ⟨?_, hc.before (State.setPt_changes ..) List.not_mem_nil, ?_⟩ <;>
    rw [State.pt_addBytes, State.pt_bump, State.pt_setPt]

/-! ## SUSPECT, the decision on the lanes, and the rate messages (R64, R76, R78) -/

theorem exec_suspectClear_good {n : Fin 64} {s : State} (hruns : s.laneRuns n) (hsus : s.flag F.LNK_STATUS_SUSPECT n)
    (hgood : 64 ≤ (s.ln n).good) :
    exec (.suspectClear n) s = .next ((s.setFld F.LNK_STATUS_SUSPECT 0 n).setLn n { s.ln n with good := 0 }) := by
  show execSuspectClear n s = _
  simp [execSuspectClear, hruns, hsus, hgood]

/-- A port that waits for its lanes decides when the time is over. -/
theorem exec_portDecide_waiting {p : Fin 64} {dt w0 : Nat} {s : State} (hw : s.portWidth p ≠ 0) (hup : s.portUp p = false)
    (hwait : (s.pt p).wait = some w0) (hdec : (s.pt p).decided = none) : exec (.portDecide p dt) s =
      .next ((s.passTo dt (w0 + fineOfUs (100 * max 1 (s.fld F.LNK_TRAIN_TIMEOUT p)))).setPt p
        (match s.portDecision p with
        | some d => { s.pt p with decided := some d }
        | none => { s.pt p with wait := none })) := by
  have hsame (due : Nat) : (s.passTo dt due).portDecision p = s.portDecision p := rfl
  show execPortDecide p dt s = _
  cases hd : s.portDecision p <;> simp [execPortDecide, hwait, hw, hup, hdec, hsame, hd, atLeast1_eq_max]

theorem exec_rateReduceTimeout_waiting {p : Fin 64} {dt : Nat} {r : RateMsg} {s : State} (hr : (s.pt p).rate = some r)
    (hres : r.restore = false) (hup : s.portUp p) : exec (.rateReduceTimeout p dt) s =
      .next (if 8 ≤ r.sent then (s.passTo dt (r.at0 + slotsEnd 4100)).portDown p
        else (s.passTo dt (r.at0 + slotsEnd 4100)).sendRate p false r.mask (r.sent + 1)) := by
  show execRateReduceTimeout p dt s = _
  simp [execRateReduceTimeout, hr, hres, hup]

/-- The message that waits for its answer once it has been sent. -/
theorem State.rate_sendRate (s : State) (p : Nat) (restore : Bool) (mask sent : Nat) :
    ((s.sendRate p restore mask sent).pt p).rate =
      some { restore := restore, id := 0xF0 + (s.pt p).rateId % 16, mask := mask, sent := sent, at0 := s.fine } := by
  unfold State.sendRate
  extract_lets x id
  rw [(State.sendRequest_sentOnly ..).pt (·.rate) (fun _ => rfl), State.pt_setPt]

/-! ### A port that is no longer up (R78) -/

/-- The low bits of a field that has been put. -/
theorem getBits_putBits_low (w : Word) {lo width k : Nat} (v : Nat) (hk : k ≤ width) (h : lo + width ≤ 32) :
    getBits (putBits w lo width v) lo k = v % 2 ^ k := by
  apply Nat.eq_of_testBit_eq
  intro i
  rw [getBits_testBit, Nat.testBit_mod_two_pow]
  by_cases hi : i < k
  · rw [putBits_getLsbD _ _ _ _ _ (by omega), if_pos (by omega), Nat.add_sub_cancel_left]
  · simp [hi]

theorem State.up_setUp (s : State) (p mask : Nat) (up degraded parity : Bool) :
    (s.setUp p mask up degraded parity).fld F.LNK_PORT_STATUS_UP p = b2n up := by
  unfold State.setUp
  extract_lets w v
  have hone : b2n up < 2 := by cases up <;> decide
  have hbit : (b2n up + 2 * b2n degraded + 4 * b2n parity) % 2 ^ 1 = b2n up := by omega
  have hv : getBits v 16 1 = b2n up := (getBits_putBits_low _ _ (by decide) (by decide)).trans hbit
  have hw : getBits (putBits v 19 1 0) 16 1 = b2n up := (getBits_putBits_ne _ _ (by decide) (by decide)).trans hv
  rw [(State.keepsFld_setFld _ 0 p 0 (by decide)).fld]
  exact (congrArg (getBits · 16 1) (s.rd_wr_self ..)).trans hw

theorem State.up_portClear (s : State) (p : Nat) : (s.portClear p).fld F.LNK_PORT_STATUS_UP p = 0 := by
  unfold State.portClear
  extract_lets s1 s2
  have hdown : s2.fld F.LNK_PORT_STATUS_UP p = 0 :=
    ((State.keepsFld_setFld _ 0 p 0 (by decide)).fld p 0).trans (State.up_setUp _ p 0 false false false)
  exact (((s2.setPt_changes p _).op (State.portBegin_changes p _)).fld List.not_mem_nil p 0).trans hdown

theorem State.up_portDown (s : State) (p : Nat) : (s.portDown p).fld F.LNK_PORT_STATUS_UP p = 0 := by
  unfold State.portDown
  extract_lets s3
  have hup : s3.fld F.LNK_PORT_STATUS_UP p = 0 := s.up_portClear p
  split
  · refine ((State.keepsFld_eachOf (fun n t => ?_) _ s3).fld p 0).trans hup
    exact (State.laneDeep_changes n t).keepsFld (by decide)
  · refine ((State.keepsFld_eachOf (fun n t => ?_) _ s3).fld p 0).trans hup
    exact .ite ((t.enterDeskew_changes n).keepsFld (by decide)) (.refl ..)

/-! ## What the clauses of O26 say of each event -/

/-- A stuffed block counts in its register and in the slots of its interval (R51). -/
theorem State.stuffed_taken {s : State} {n : Nat} {blk : LineBlock} (hv : (s.rxBlock n blk).1.validHdr) (x : Lane)
    (hx : x = { (s.rxBlock n blk).2.ln n with stuffed := ((s.rxBlock n blk).2.ln n).stuffed + 1 }) :
    Counted .LNK_CNT_STUFF n s (((s.rxBlock n blk).2.setLn n x).bump .LNK_CNT_STUFF n) ∧
      ((((s.rxBlock n blk).2.setLn n x).bump .LNK_CNT_STUFF n).ln n).stuffed = (s.ln n).stuffed + 1 ∧
      (s.loopback n = 0 → ((((s.rxBlock n blk).2.setLn n x).bump .LNK_CNT_STUFF n).ln n).rx =
        lastBits (blk.pre.getD (s.ln n).rx) blk.pay) := by
  have hchg : Changes [.outbox, .lnk] [] s ((s.rxBlock n blk).2.setLn n x) :=
    (State.rxBlock_valid_changes hv).op (State.setLn_changes ..)
  rw [State.ln_bump, State.ln_setLn, hx]
  exact ⟨hx ▸ (State.counted_bump _ .LNK_CNT_STUFF n).after hchg List.not_mem_nil,
    congrArg (· + 1) (Lane.of_unheard (State.unheard_rxBlock hv) (·.stuffed) fun _ => rfl), State.rx_rxBlock hv⟩

/-- The row of a port of one lane that is UP is a data row, whether its block is data or to be erased. -/
theorem exec_dataRow_one {p : Fin 64} {blk : LineBlock} {s : State} (hready : s.ready) (hup : s.portUp p) (hw : s.portWidth p = 1)
    (hm : s.activeMask p = 1) (hst : s.lstate p = lsUp) (hhdr : (s.rxBlock p blk).1.validHdr = (s.rxBlock p blk).1.isData) :
    exec (.dataRow p [blk]) s = .next ((s.rxBlock p blk).2.takeData p
      ⟨[(s.rxBlock p blk).1], true, if (s.rxBlock p blk).1.isData then [0] else []⟩) := by
  have hrow := State.settle_one hup hw hm hst hhdr
  have hexec := exec_dataRow_data (blocks := [blk]) hready hup (by rw [hw]; decide) hw.symm (by rw [hrow])
  rwa [hrow] at hexec

theorem Changes.mode {P : List Part} {R : List Reg} {s t : State} (h : Changes P R s t) (hr : Reg.PWR_MODE_STATUS ∉ R) :
    t.mode = s.mode := h.fld hr 0 0

/-- The one block of a port without parity, as its row appends it: where it is not data, it is erased. -/
theorem State.rowBytes_one {s : State} {p : Nat} {r : RxBlock} {d : Bool} (hw : s.portWidth p = 1) (hm : s.activeMask p = 1) :
    s.rowBytes p ⟨[r], true, if d then [0] else []⟩ = markBytes (if d then 0 else 2) r.bits := by
  rw [State.rowBytes, State.activeLanes_one hw hm]
  cases d <;> simp [RowView.block]

theorem State.takeData_erasedOne {s : State} {p : Nat} {r : RxBlock} (hmode : s.mode ≠ modeService)
    (hpar : (s.pt p).parity = false) (hw : s.portWidth p = 1) (hm : s.activeMask p = 1) : s.takeData p ⟨[r], true, []⟩ =
      (s.addBytes p (markBytes 2 r.bits)).bump .LNK_CNT_ERASED_ROWS p := by
  have hrow := State.rowBytes_one (r := r) (d := false) hw hm
  have hall : (s.activeLanes p).all ([] : List Nat).contains = false := by rw [State.activeLanes_one hw hm]; rfl
  rw [State.takeData_plain hmode hpar, hall, if_neg Bool.false_ne_true]
  exact congrArg (fun l => (s.addBytes p l).bump .LNK_CNT_ERASED_ROWS p) hrow

/-- A row of one lane with an invalid header: the header is counted, and the row is erased (R45, R73). -/
theorem State.erased_one {s : State} {p : Nat} {blk : LineBlock} (hw : s.portWidth p = 1) (hm : s.activeMask p = 1)
    (hpar : (s.pt p).parity = false) (hv : (s.rxBlock p blk).1.validHdr = false) (hl : (s.rxBlock p blk).1.lost = false)
    (hlock : s.flag F.LNK_STATUS_BLOCK_LOCK p) (hquiet : (s.ln p).quietTill ≤ s.fine) (hmode : s.mode ≠ modeService) :
    Counted .LNK_CNT_BAD_HDR p s ((s.rxBlock p blk).2.takeData p ⟨[(s.rxBlock p blk).1], true, []⟩) ∧
      Counted .LNK_CNT_ERASED_ROWS p s ((s.rxBlock p blk).2.takeData p ⟨[(s.rxBlock p blk).1], true, []⟩) ∧
      (((s.rxBlock p blk).2.takeData p ⟨[(s.rxBlock p blk).1], true, []⟩).pt p).bytes =
        (s.pt p).bytes ++ markBytes 2 (s.rxBlock p blk).1.bits := by
  have hchg := State.rxBlock_invalid_changes hv hl
  have hadd := State.setPt_changes (s.rxBlock p blk).2 p
  obtain ⟨hbytes, hparity⟩ := State.pt_rxBlock_invalid p hv hl
  have htake := State.takeData_erasedOne (s := (s.rxBlock p blk).2) (r := (s.rxBlock p blk).1)
    (by rwa [hchg.mode (by decide)]) (hparity.trans hpar)
    (((hchg.sameLayout (by decide) (by decide)).portWidth p).trans hw) ((hchg.fld (by decide) p 0).trans hm)
  rw [htake]
  refine ⟨((State.counted_rxBlock_invalid hv hl hlock hquiet).before (hadd _) List.not_mem_nil).before
      (State.bump_frame _ _ p 0) (by decide),
    ((State.counted_bump _ _ p).after (hadd _) List.not_mem_nil).after hchg (by decide), ?_⟩
  rw [State.pt_bump, State.pt_addBytes, hbytes]

/-- Settles O26: each event is its `exec_` lemma, and what it appends and counts is said by the lemma of its operation. -/
theorem laneBlocksAndStripes : Obligations.LaneBlocksAndStripes := by
  unfold Obligations.LaneBlocksAndStripes
  refine ⟨fun n blk s hruns hlock hhdr hline =>
      ⟨_, exec_stuffedBlock_stuffed hruns hlock hhdr hline, State.stuffed_taken (RxBlock.validHdr_of_hdr hhdr) _ rfl⟩,
    fun n blk s hruns hlock => ⟨_, exec_reservedTypeBlock_lock hruns hlock,
?reserved⟩,
    fun n slot blk s hruns hst hl hsense hpol hcrc hskip hmask hpar => ?skip,
    fun n slot blk inv s hruns hlos hl hsense hcrc => ?badSkip,
    fun p dt s hw hready => ?skipSend,
    fun p blk s hready hup hw hm hpar hst hmode hdata => ?row,
    fun p blk s hready hup hw hm hpar hst hv hl hlock hquiet hmode => ?erased,
    fun p blocks s hready hup hw hlen hmode hdata hpar => ⟨_, exec_dataRow_data hready hup hw hlen hdata, ?rows⟩,
    fun p x rest s hheld he hc => ?checks,
    fun p x rest e s hheld he hpar => ?rebuilt,
    fun p x rest s hheld he hc hlate => ?mismatch,
    fun n s hruns hsus hgood => ⟨_, exec_suspectClear_good hruns hsus hgood, ?cleared, by rw [State.ln_setLn]⟩,
    fun p dt d w0 s hw hup hwait hdec hd => ⟨_, exec_portDecide_waiting hw hup hwait hdec, ?decided, s.le_fine_passTo dt _⟩,
    fun p dt w0 s hw hup hwait hdec hd => ⟨_, exec_portDecide_waiting hw hup hwait hdec, ?undecided⟩,
    fun p dt r s hr hres hup hsent => ?again,
    fun p dt r s hr hres hup hsent => ?down⟩
  case skip =>
    have hlos : s.losable n := by simp [State.losable, hst]
    obtain ⟨u, hu, hrec⟩ := State.skipBlock_up (slot := slot) hst hl hsense hpol hcrc hskip hmask hpar
    obtain ⟨hrecord, hstuffed, hident⟩ := u.firstSkip_shows n slot (s.ctlOf n blk)
    refine ⟨_, exec_skipBlock_losable hruns hlos, ?_⟩
    rw [hrec]
    exact ⟨hrecord, hstuffed, hident, (State.lstate_firstSkip ..).trans ((hu.lstate List.not_mem_nil n).trans hst)⟩
  case badSkip =>
    refine ⟨_, exec_skipBlock_losable hruns hlos, ?_⟩
    rw [State.skipBlock_sense hl hsense, hcrc, if_neg Bool.false_ne_true]
    have htaken : Changes [.outbox, .lnk] [] s ((s.lineIn n blk).2.takeBlock n (s.lineIn n blk).1 inv).2 := by
      rw [State.takeBlock_kept _ _ _ _ hl]
      exact (s.lineIn_changes n blk).andThen (State.setLn_changes ..) (by decide) (by decide)
    exact ⟨(State.counted_badSkip _ n).1.after htaken List.not_mem_nil, (State.counted_badSkip _ n).2.after htaken List.not_mem_nil⟩
  case skipSend =>
    obtain ⟨hseq, hslots, hstuff⟩ := State.pt_fillTo_full (s.passTo dt ((s.pt p).skipAt + slotsEnd 1024)) p
    exact ⟨_, exec_skipSend_port dt hw hready, hseq, hslots, hstuff,
      (State.fillTo_changes ..).le_fine (by decide) (s.le_fine_passTo dt _)⟩
  case row =>
    have hv := RxBlock.validHdr_of_isData hdata
    have hchg := State.rxBlock_valid_changes hv
    refine ⟨_, exec_dataRow_one hready hup hw hm hst (hv.trans hdata.symm), ?_⟩
    beta_reduce
    rw [State.bytes_takeData_plain (by rwa [hchg.mode (by decide)]) (by rwa [hchg.pt (by decide)]), hchg.pt (by decide),
      State.rowBytes_one (((hchg.sameLayout (by decide) (by decide)).portWidth p).trans hw) ((hchg.fld (by decide) p 0).trans hm),
      if_pos hdata]
  case erased =>
    have hdata : (s.rxBlock p blk).1.isData = false :=
      Bool.eq_false_iff.2 fun hd => Bool.false_ne_true (hv.symm.trans (RxBlock.validHdr_of_isData hd))
    refine ⟨_, exec_dataRow_one hready hup hw hm hst (hv.trans hdata.symm), ?_⟩
    rw [hdata, if_neg Bool.false_ne_true]
    exact State.erased_one hw hm hpar hv hl hlock hquiet hmode
  case rows => exact State.bytes_takeData_plain (by rwa [(s.settle_changes p blocks).mode (by decide)]) hpar
  case checks =>
    refine ⟨_, exec_stripeHoldEnd_held hheld, ?_⟩
    rw [State.releaseStripe_checks p _ he hc]
    beta_reduce
    rw [State.pt_addBytes, State.pt_setPt]
    exact ⟨rfl, rfl⟩
  case rebuilt =>
    refine ⟨_, exec_stripeHoldEnd_held hheld, ?_⟩
    rw [State.releaseStripe_rebuilt p _ he hpar]
    exact s.released_bump p .LNK_CNT_REBUILT rest _
  case mismatch =>
    refine ⟨_, exec_stripeHoldEnd_held hheld, ?_⟩
    rw [State.releaseStripe_mismatch p _ he hc hlate]
    exact s.released_bump p .LNK_CNT_PARITY_MISMATCH rest _
  case reserved => exact (State.counted_bump _ _ n).after (s.rxBlock_changes n blk) (by decide)
  case cleared => exact s.fld_setFld_same (f := F.LNK_STATUS_SUSPECT) 0 n 0 (by decide)
  case decided => rw [State.pt_setPt, hd]
  case undecided => simp [hd, hdec]
  case again =>
    refine ⟨_, exec_rateReduceTimeout_waiting hr hres hup, ?_⟩
    rw [if_neg (Nat.not_le.2 hsent)]
    exact ⟨by rw [State.rate_sendRate]; rfl, (State.sendRate_changes ..).le_fine (by decide) (s.le_fine_passTo dt _)⟩
  case down =>
    refine ⟨_, exec_rateReduceTimeout_waiting hr hres hup, ?_⟩
    rw [if_pos hsent]
    exact ⟨by rw [State.portUp, State.flag, State.up_portDown]; rfl,
      (State.portDown_changes ..).le_fine (by decide) (s.le_fine_passTo dt _)⟩

end
end Sys2Proof.Machine

/-! # Doze, deep, pattern checker and injector (O27) -/

namespace Sys2Proof.Machine
section

/-! ## One lane in a pass over the lanes of a port -/

/-- What holds of unit `n` after its own turn holds after the list, where the turns of the others keep what it needs before it
(`I`) and what it has reached (`Q`). -/
theorem State.eachOf_reach {k : Nat → State → State} {n : Nat} {I Q : State → Prop} (hself : ∀ s, I s → Q (k n s))
    (hbefore : ∀ m s, m ≠ n → I s → I (k m s)) (hafter : ∀ m s, Q s → Q (k m s)) {l : List Nat} (h : n ∈ l) {s : State}
    (hs : I s) :
    Q (State.eachOf k l s) := by
  induction l generalizing s with
  | nil => exact absurd h List.not_mem_nil
  | cons m l ih =>
    by_cases hm : m = n
    · subst hm
      exact State.eachOf_keep Q hafter l (hself s hs)
    · exact ih ((List.mem_cons.1 h).resolve_left (Ne.symm hm)) (hbefore m s hm hs)

/-- Lane `n` of the list is in state `st` after each lane has been taken to `st`. -/
theorem State.lstate_eachOf {k : Nat → State → State} {n st : Nat} (hself : ∀ s, (k n s).lstate n = st)
    (hother : ∀ m s, m ≠ n → (k m s).lstate n = s.lstate n) {l : List Nat} (h : n ∈ l) (s : State) :
    (State.eachOf k l s).lstate n = st := by
  refine State.eachOf_reach (I := fun _ => True) (Q := fun s => s.lstate n = st) (fun s _ => hself s) (fun _ _ _ _ => trivial)
    (fun m s hs => ?_) h trivial
  by_cases hm : m = n
  · rw [hm]
    exact hself s
  · exact (hother m s hm).trans hs

theorem State.lstate_setLstate_ne (s : State) {n m : Nat} (st : Nat) (h : m ≠ n) : (s.setLstate m st).lstate n = s.lstate n := by
  rw [State.lstate_setLstate, if_neg (Ne.symm h)]

/-- A port that has a lane has a width. -/
theorem State.portWidth_pos {s : State} {p n : Nat} (h : n ∈ s.portLanes p) : s.portWidth p ≠ 0 := by
  intro hw
  rw [State.portLanes, hw] at h
  exact absurd h List.not_mem_nil

theorem State.portWidth_powerRow (s : State) (p q : Nat) (blocks : List LineBlock) :
    (s.powerRow p blocks).2.portWidth q = s.portWidth q :=
  ((s.powerRow_changes p blocks).sameLayout (by decide) (by decide)).portWidth q

/-! ## Doze (R67, R68) -/

theorem exec_enterDoze_code {p : Fin 64} {blocks : List LineBlock} {s : State} (hready : s.ready) (hw : s.portWidth p ≠ 0)
    (hlen : blocks.length = s.portWidth p) (hcode : (s.powerRow p blocks).1 = some 1) : exec (.enterDoze p blocks) s =
      .next (if (s.powerRow p blocks).2.dozeNak p then (s.powerRow p blocks).2.sendPower p 4
        else State.eachOf (fun n s => s.setLstate n lsDoze) ((s.powerRow p blocks).2.portLanes p)
          ((s.powerRow p blocks).2.sendPower p 3)) := by
  show execEnterDoze p blocks s = _
  simp [execEnterDoze, hready, hw, hlen, hcode]

/-- A lane that is woken is UP, with no skip on record. -/
def State.dozeWake (n : Nat) (s : State) : State := (s.setLn n { s.ln n with skip := none, breaks := 0 }).setLstate n lsUp

theorem State.lstate_dozeWake_self (s : State) (n : Nat) : (State.dozeWake n s).lstate n = lsUp :=
  State.lstate_setLstate_self _ n lsUp

theorem State.lstate_dozeWake_ne (s : State) {n m : Nat} (h : m ≠ n) : (State.dozeWake m s).lstate n = s.lstate n :=
  (State.lstate_setLstate_ne _ lsUp h).trans ((s.setLn_changes m _).lstate List.not_mem_nil n)

theorem exec_wakeRow_code {p : Fin 64} {blocks : List LineBlock} {s : State} (hw : s.portWidth p ≠ 0)
    (hlen : blocks.length = s.portWidth p) (hdoze : (s.portLanes p).all (fun n => decide (s.lstate n = lsDoze)))
    (hcode : (s.powerRow p blocks).1 = some 5) : exec (.wakeRow p blocks) s =
      .next (State.eachOf State.dozeWake ((s.powerRow p blocks).2.portLanes p) (s.powerRow p blocks).2) := by
  show execWakeRow p blocks s = _
  rw [execWakeRow, hdoze, decide_eq_false hw, decide_eq_false (not_not.2 hlen)]
  exact congrArg Host.Outcome.next (if_pos hcode)

/-- A lane that is not awake in time leaves DOZE for CDR_LOCK. -/
def State.dozeSlow (n : Nat) (s : State) : State :=
  if s.lstate n = lsDoze then
    ((s.laneRestart n true lsCdr).setLn n { (s.laneRestart n true lsCdr).ln n with dozeFail := true }).bump .LNK_CNT_DOZE_SLOW n
  else s

theorem exec_dozeExitTimeout_eq (p : Fin 64) (s : State) :
    exec (.dozeExitTimeout p) s = .next (State.eachOf State.dozeSlow (s.portLanes p) s) := rfl

theorem State.lstate_dozeSlow {s : State} {m : Nat} (h : s.lstate m = lsDoze) (n : Nat) :
    (State.dozeSlow m s).lstate n = (s.laneRestart m true lsCdr).lstate n := by
  rw [State.dozeSlow, if_pos h]
  exact ((State.bump_frame _ .LNK_CNT_DOZE_SLOW m 0).lstate (by decide) n).trans
    ((State.setLn_changes _ m _).lstate List.not_mem_nil n)

theorem State.lstate_dozeSlow_self {s : State} {n : Nat} (h : s.lstate n = lsDoze) : (State.dozeSlow n s).lstate n = lsCdr := by
  rw [State.lstate_dozeSlow h, State.lstate_laneRestart]
  rfl

theorem State.lstate_laneRestart_ne (s : State) {n m : Nat} (keep : Bool) (st : Nat) (h : m ≠ n) :
    (s.laneRestart m keep st).lstate n = s.lstate n :=
  ((State.keepsFld_unlock _ m (by decide)).lstate n).trans
    ((State.lstate_setLstate_ne _ st h).trans ((s.setLn_changes m _).lstate List.not_mem_nil n))

theorem State.lstate_dozeSlow_ne {s : State} {n m : Nat} (h : m ≠ n) : (State.dozeSlow m s).lstate n = s.lstate n := by
  by_cases hst : s.lstate m = lsDoze
  · rw [State.lstate_dozeSlow hst, s.lstate_laneRestart_ne true lsCdr h]
  · rw [State.dozeSlow, if_neg hst]

/-- A lane in DOZE is in CDR_LOCK after the pass. -/
theorem State.lstate_dozeSlows {s : State} {n : Nat} {l : List Nat} (h : n ∈ l) (hst : s.lstate n = lsDoze) :
    (State.eachOf State.dozeSlow l s).lstate n = lsCdr := by
  refine State.eachOf_reach (I := fun s => s.lstate n = lsDoze) (Q := fun s => s.lstate n = lsCdr)
    (fun s hs => State.lstate_dozeSlow_self hs) (fun m s hm hs => (State.lstate_dozeSlow_ne hm).trans hs) (fun m s hs => ?_) h hst
  by_cases hm : m = n
  · rw [hm, State.dozeSlow, if_neg (by rw [hs]; decide)]
    exact hs
  · exact (State.lstate_dozeSlow_ne hm).trans hs

/-! ## Deep (R69) -/

theorem exec_deepRetry_asked {p : Fin 64} {dt first last : Nat} {s : State} (hdeep : (s.pt p).deep = some (first, last))
    (hup : s.portUp p) (hwant : s.deepWanted p) : exec (.deepRetry p dt) s = .next
      (((s.passTo dt (last + fineOfUs 100)).setPt p
        { s.pt p with deep := some (first, max (s.fine + dt) (last + fineOfUs 100)) }).sendPower p 2) := by
  have hfine : (s.passTo dt (last + fineOfUs 100)).fine = max (s.fine + dt) (last + fineOfUs 100) := rfl
  show execDeepRetry p dt s = _
  simp [execDeepRetry, hdeep, hup, hwant, hfine]

theorem exec_deepAck_code {p : Fin 64} {blocks : List LineBlock} {s : State} (hw : s.portWidth p ≠ 0)
    (hlen : blocks.length = s.portWidth p) (hdeep : (s.pt p).deep.isSome) (hcode : (s.powerRow p blocks).1 = some 3) :
    exec (.deepAck p blocks) s = .next ((s.powerRow p blocks).2.portDeep p) := by
  obtain ⟨d, hd⟩ := Option.isSome_iff_exists.1 hdeep
  show execDeepAck p blocks s = _
  simp [execDeepAck, hw, hlen, hd, hcode]

theorem exec_deepForce_idle {p : Fin 64} {dt t0 last : Nat} {s : State} (hdeep : (s.pt p).deep = some (t0, last)) (hidle : s.lanesIdle) :
    exec (.deepForce p dt) s = .next ((s.passTo dt (t0 + fineOfUs 1000)).portDeep p) := by
  show execDeepForce p dt s = _
  simp [execDeepForce, hdeep, hidle]

/-- A lane that is neither disabled nor in test goes to DEEP. -/
theorem State.lstate_laneDeep {s : State} {n : Nat} (hd : s.lstate n ≠ lsDisabled) (ht : s.lstate n ≠ lsTest) :
    (State.laneDeep n s).lstate n = lsDeep := by
  unfold State.laneDeep
  extract_lets x y s1
  simp only [hd, ht, decide_false, Bool.or_false, Bool.false_eq_true, if_false]
  rw [State.lstate_emit, (State.keepsFld_unlock s1 n (by decide)).lstate]
  exact State.lstate_setLstate_self _ n lsDeep

/-- A port of one lane that is UP goes to DEEP with it, and is no longer up. -/
theorem State.portDeep_one {s : State} {p : Nat} (hw : s.portWidth p = 1) (hst : s.lstate p = lsUp) :
    (s.portDeep p).lstate p = lsDeep ∧ (s.portDeep p).fld F.LNK_PORT_STATUS_UP p = 0 := by
  have hw' : (s.portClear p).portWidth p = 1 :=
    (((s.portClear_changes p).sameLayout (by decide) (by decide)).portWidth p).trans hw
  have hlanes : (s.portClear p).portLanes p = [p] := by simp [State.portLanes, hw', State.laneOf_one hw']
  have hst' : (s.portClear p).lstate p = lsUp := ((s.keepsFld_portClear p rfl (by decide)).lstate p).trans hst
  have hdeep : s.portDeep p = State.laneDeep p (s.portClear p) := by
    rw [State.portDeep, hlanes]
    rfl
  rw [hdeep]
  exact ⟨State.lstate_laneDeep (by rw [hst']; decide) (by rw [hst']; decide),
    ((State.laneDeep_changes p _).fld (by decide) p 0).trans (s.up_portClear p)⟩

/-! ### A row of low-power blocks leaves the states of the lanes (R66) -/

theorem State.keepsState_rxBlock (s : State) (n : Nat) (b : LineBlock) : KeepsFld F.LNK_STATUS_STATE s (s.rxBlock n b).2 := by
  have htaken : KeepsFld F.LNK_STATUS_STATE s (s.taken n b).2 :=
    ((s.lineIn_changes n b).keepsFld List.not_mem_nil).trans ((State.takeBlock_changes ..).keepsFld (by decide))
  rw [State.rxBlock_eq]
  split
  · exact htaken
  · refine htaken.trans ?_
    unfold State.badHeader
    extract_lets p s1
    have hbump : KeepsFld F.LNK_STATUS_STATE (s.taken n b).2 s1 := (State.bump_frame _ _ n 0).keepsFld (by decide)
    refine .ite (.refl ..) (.ite (hbump.trans ((s1.setLn_changes ..).keepsFld List.not_mem_nil)) (.ite (hbump.trans ?_) hbump))
    unfold State.suspect
    extract_lets i s2
    exact ((s1.keepsFld_setFld 1 n 0 (by decide)).trans ((State.setLn_changes _ n _).keepsFld List.not_mem_nil)).trans
      ((s2.setPt_changes p _).keepsFld List.not_mem_nil)

theorem State.keepsState_rxRow (p i : Nat) (blocks : List LineBlock) (s : State) :
    KeepsFld F.LNK_STATUS_STATE s (State.rxRow p i blocks s).2 := by
  induction blocks generalizing i s with
  | nil => exact .refl ..
  | cons b rest ih => exact (s.keepsState_rxBlock _ b).trans (ih (i + 1) _)

theorem State.keepsState_settle (s : State) (p : Nat) (blocks : List LineBlock) :
    KeepsFld F.LNK_STATUS_STATE s (s.settle p blocks).2 := by
  unfold State.settle
  extract_lets r hdr valid isData s1
  exact (State.keepsState_rxRow p 0 blocks s).trans
    (State.keepsFld_eachOf (fun n t => (State.oddBlock_changes n t).keepsFld (by decide)) _ r.2)

theorem State.keepsState_powerRow {s : State} {p : Nat} {blocks : List LineBlock} {code : Nat}
    (h : (s.powerRow p blocks).1 = some code) : KeepsFld F.LNK_STATUS_STATE s (s.powerRow p blocks).2 := by
  unfold State.powerRow at h ⊢
  extract_lets r bad
  by_cases hdata : r.1.isData
  · rw [if_pos hdata] at h
    exact absurd h (Option.some_ne_none code).symm
  · rw [if_neg hdata]
    exact (s.keepsState_settle p blocks).trans
      (State.keepsFld_eachOf (fun i t => (State.bump_frame _ _ _ 0).keepsFld (by decide)) bad r.2)

/-! ## The exit from deep (R70) -/

theorem exec_deepWakeOnSignal_deep {n : Fin 64} {s : State} (hruns : s.laneRuns n) (hst : s.lstate n = lsDeep)
    (hidle : s.lanesIdle = false) (hwake : s.flag F.LNK_CTRL_WAKE_ON_SIGNAL n) :
    exec (.deepWakeOnSignal n) s = .next (s.deepExit (s.portAt n)) := by
  show execDeepWakeOnSignal n s = _
  simp [execDeepWakeOnSignal, hruns, hst, hidle, hwake]

theorem State.ln_txStart (s : State) (n m : Nat) : (s.txStart n).ln m = s.ln m := (s.txStart_changes n).ln (by decide) m

theorem State.deep_txStart (s : State) (n q : Nat) : ((s.txStart n).pt q).deep = (s.pt q).deep := by
  unfold State.txStart
  extract_lets p y s1
  rw [State.pt_emit]
  unfold s1
  split
  · rfl
  · by_cases hq : q = p
    · rw [hq, State.pt_setPt]
    · rw [State.pt_setPt_ne _ _ _ hq]

theorem State.lstate_laneWake (s : State) (m n : Nat) : (State.laneWake m s).lstate n = s.lstate n :=
  (State.laneWake_changes m s).lstate List.not_mem_nil n

theorem State.exit_laneWake {s : State} {n : Nat} (h : s.lstate n = lsDeep) : ((State.laneWake n s).ln n).exit ≠ 0 := by
  unfold State.laneWake
  by_cases hexit : (s.ln n).exit = 0
  · rw [h, hexit, if_neg (by decide)]
    split <;> rw [State.ln_setLn]
    · exact two_ne_zero
    · exact one_ne_zero
  · rw [if_pos (by simp [hexit])]
    exact hexit

theorem State.ln_laneWake_ne (s : State) {m n : Nat} (h : n ≠ m) : (State.laneWake m s).ln n = s.ln n := by
  unfold State.laneWake
  split
  · rfl
  · split
    · rw [State.ln_setLn_ne _ _ _ h, State.ln_txStart]
    · exact State.ln_setLn_ne _ _ _ h

theorem State.deep_laneWake (m : Nat) (s : State) (q : Nat) : ((State.laneWake m s).pt q).deep = (s.pt q).deep := by
  unfold State.laneWake
  split
  · rfl
  · split
    · rw [State.pt_setLn]
      exact s.deep_txStart m q
    · rfl

/-- The exit of a deep lane of the port has begun, and its port asks for deep no longer. -/
theorem State.deepExit_deep {s : State} {p n : Nat} (h : n ∈ s.portLanes p) (hst : s.lstate n = lsDeep) :
    ((s.deepExit p).ln n).exit ≠ 0 ∧ ((s.deepExit p).pt p).deep = none := by
  unfold State.deepExit
  extract_lets x s1
  have hbegin : (if s.portUp p then s1 else State.portBegin p s1).lstate n = s.lstate n := by split <;> rfl
  have hnone : ((if s.portUp p then s1 else State.portBegin p s1).pt p).deep = none := by
    split
    · rw [State.pt_setPt]
    · rw [State.portBegin, State.pt_setPt, State.pt_setPt]
  constructor
  · refine State.eachOf_reach (I := fun t => t.lstate n = lsDeep) (Q := fun t => t.lstate n = lsDeep ∧ (t.ln n).exit ≠ 0)
      (fun t ht => ⟨(t.lstate_laneWake n n).trans ht, State.exit_laneWake ht⟩) (fun m t _ ht => (t.lstate_laneWake m n).trans ht)
      (fun m t ht => ⟨(t.lstate_laneWake m n).trans ht.1, ?_⟩) h (hbegin.trans hst) |>.2
    by_cases hm : n = m
    · rw [← hm]
      exact State.exit_laneWake ht.1
    · rw [t.ln_laneWake_ne hm]
      exact ht.2
  · exact State.eachOf_keep (fun t => (t.pt p).deep = none) (fun m t ht => (State.deep_laneWake m t p).trans ht) _ hnone

/-! ### The quad PLL has locked -/

/-- The transmitter of a deep lane whose exit waits for its quad PLL turns on. -/
def State.laneOn (n : Nat) (s : State) : State :=
  if s.laneRuns n && s.lstate n = lsDeep && (s.ln n).exit = 1 then
    (s.txStart n).setLn n { (s.txStart n).ln n with exit := 2 } else s

theorem exec_quadPllLocked_eq (q : Fin 16) (s : State) :
    exec (.quadPllLocked q) s = .next (State.eachOf State.laneOn ((List.range 4).map (4 * q.val + ·)) s) := rfl

theorem State.laneOn_changes (n : Nat) (s : State) : Changes [.outbox, .lnk, .port] [] s (State.laneOn n s) :=
  .ite ((s.txStart_changes n).within.op (State.setLn_changes ..)) (.refl ..)

theorem State.laneRuns_laneOn (m n : Nat) (s : State) : (State.laneOn m s).laneRuns n = s.laneRuns n := by
  have hchg := State.laneOn_changes m s
  rw [State.laneRuns, State.laneRuns, State.hasLane, State.hasLane, State.ready, State.ready, State.flag, State.flag,
    hchg.fld List.not_mem_nil, hchg.parts .variant (by decide)]

theorem State.lstate_laneOn (m n : Nat) (s : State) : (State.laneOn m s).lstate n = s.lstate n :=
  (State.laneOn_changes m s).lstate List.not_mem_nil n

theorem State.ln_laneOn_ne (s : State) {m n : Nat} (h : n ≠ m) : (State.laneOn m s).ln n = s.ln n := by
  unfold State.laneOn
  split
  · rw [State.ln_setLn_ne _ _ _ h, State.ln_txStart]
  · rfl

/-- The transmitter of a lane that waits for its PLL turns on. -/
theorem State.laneOn_waiting {s : State} {n : Nat} (hruns : s.laneRuns n) (hst : s.lstate n = lsDeep) (hexit : (s.ln n).exit = 1) :
    ((State.laneOn n s).ln n).exit = 2 ∧ Out.laneTx n true ∈ (State.laneOn n s).outbox := by
  have hon : State.laneOn n s = (s.txStart n).setLn n { (s.txStart n).ln n with exit := 2 } := by
    rw [State.laneOn, hruns, hst, hexit]
    rfl
  rw [hon]
  exact ⟨by rw [State.ln_setLn], List.mem_append_right _ (List.mem_singleton_self _)⟩

theorem State.mem_outbox_laneOn {s : State} {m : Nat} {o : Out} (h : o ∈ s.outbox) : o ∈ (State.laneOn m s).outbox := by
  have htx : o ∈ (s.txStart m).outbox := by
    unfold State.txStart
    extract_lets p y s1
    have hs1 : s1.outbox = s.outbox := by
      unfold s1
      split <;> rfl
    exact List.mem_append_left _ (hs1 ▸ h)
  unfold State.laneOn
  split
  · exact htx
  · exact h

/-- Every lane of the quad that waits has its transmitter on after the pass. -/
theorem State.laneOn_pass {s : State} {n : Nat} {l : List Nat} (h : n ∈ l) (hruns : s.laneRuns n) (hst : s.lstate n = lsDeep)
    (hexit : (s.ln n).exit = 1) :
    ((State.eachOf State.laneOn l s).ln n).exit = 2 ∧ Out.laneTx n true ∈ (State.eachOf State.laneOn l s).outbox := by
  refine State.eachOf_reach (I := fun s => s.laneRuns n ∧ s.lstate n = lsDeep ∧ (s.ln n).exit = 1)
    (Q := fun s => (s.ln n).exit = 2 ∧ Out.laneTx n true ∈ s.outbox) (fun t ⟨hr, hd, he⟩ => State.laneOn_waiting hr hd he)
    (fun m t hm ⟨hr, hd, he⟩ => ⟨(State.laneRuns_laneOn m n t).trans hr, (State.lstate_laneOn m n t).trans hd,
      (congrArg (·.exit) (t.ln_laneOn_ne hm.symm)).trans he⟩)
    (fun m t ⟨he, ho⟩ => ⟨?_, State.mem_outbox_laneOn ho⟩) h ⟨hruns, hst, hexit⟩
  by_cases hm : n = m
  · rw [← hm, State.laneOn, he, if_neg (by simp)]
    exact he
  · rw [t.ln_laneOn_ne hm]
    exact he

theorem mem_quad {q : Fin 16} {n : Nat} (h : n / 4 = q) : n ∈ (List.range 4).map (4 * q.val + ·) :=
  List.mem_map.2 ⟨n % 4, List.mem_range.2 (Nat.mod_lt n (by decide)), by omega⟩

/-! ## Pattern checker and injector (R84, R85, R93 to R95) -/

theorem State.clearBer_clear (s : State) (n : Nat) : (s.clearBer n).rd .LNK_BER_BITS_LO n = 0 ∧
    (s.clearBer n).rd .LNK_BER_BITS_HI n = 0 ∧ (s.clearBer n).rd .LNK_BER_ERRS n = 0 ∧ ((s.clearBer n).ln n).berHi = 0 := by
  unfold State.clearBer
  refine ⟨?_, ?_, State.rd_wr_self .., by rw [State.ln_wr, State.ln_wr, State.ln_wr, State.ln_setLn]⟩
  · rw [State.rd_wr_reg _ _ _ _ _ _ (by decide), State.rd_wr_reg _ _ _ _ _ _ (by decide), State.rd_wr_self]
  · rw [State.rd_wr_reg _ _ _ _ _ _ (by decide), State.rd_wr_self]

theorem exec_patternClear_may {who : Requester} {n : Fin 64} {s : State} (hmay : s.mayWrite who .LNK_PATTERN n) :
    exec (.patternClear who n) s = .next (s.clearBer n) := congrArg Host.Outcome.next (s.writeGate_may _ hmay)

theorem exec_injectShot_single {who : Requester} {n : Fin 64} {s : State} (hmay : s.mayWrite who .LNK_INJECT n)
    (hmode : s.mode = modeService) (hinj : s.fld F.LNK_INJECT_MODE n = 1) :
    exec (.injectShot who n) s = .next (s.injectBurst n) := by
  have hshot : s.shot n = s.injectBurst n := by rw [State.shot, hmode, hinj]; rfl
  rw [← hshot]
  exact congrArg Host.Outcome.next (s.writeGate_may _ hmay)

theorem exec_injectBurst_repeated {n : Fin 64} {s : State} (dt : Nat) (hruns : s.laneRuns n) (hmode : s.mode = modeService)
    (hinj : s.fld F.LNK_INJECT_MODE n = 2) : exec (.injectBurst n dt) s =
      .next ((s.passTo dt ((s.ln n).burstAt + s.burstPeriod n)).injectBurst n) := by
  show execInjectBurst n dt s = _
  simp [execInjectBurst, hruns, hmode, hinj]

/-- The burst that is sent, and when. -/
theorem State.injectBurst_sends (s : State) (n : Nat) : ((s.injectBurst n).ln n).burstAt = s.fine ∧
    Emits [.inject n (s.fld F.LNK_INJECT_BURST n + 1)
      (s.fld F.LNK_INJECT_TARGET n = 1 || (s.fld F.LNK_INJECT_TARGET n = 2 && (s.ln n).alt))] s (s.injectBurst n) :=
  ⟨by rw [State.injectBurst, State.ln_emit, State.ln_setLn], rfl⟩

/-- A read of LNK_BER_BITS_LO by another than the helm latches the upper bits. -/
theorem exec_berBitsLoRead_may {who : Requester} {n : Fin 64} {s : State} (hmay : s.mayRead who 0 n 1) (hwho : who ≠ .helm) :
    exec (.berBitsLoRead who n) s = .next
      ((s.wr .LNK_BER_BITS_HI (BitVec.ofNat 32 (s.ln n).berHi) n).emit (.reply (s.rd .LNK_BER_BITS_LO n))) :=
  congrArg Host.Outcome.next ((State.readGate_may _ hmay).trans (if_neg hwho))

theorem exec_checkerLock_test {n : Fin 64} {bits : List Bool} {s : State} (hruns : s.laneRuns n) (hmode : s.mode = modeService)
    (hst : s.lstate n = lsTest) (hchk : s.fld F.LNK_PATTERN_CHK n ∈ [1, 2, 3, 6]) :
    exec (.checkerLock n bits) s = .next (s.checkerIn n bits) := by
  have hsel : (decide (s.fld F.LNK_PATTERN_CHK n = 1) || decide (s.fld F.LNK_PATTERN_CHK n = 2) ||
      decide (s.fld F.LNK_PATTERN_CHK n = 3) || decide (s.fld F.LNK_PATTERN_CHK n = 6)) = true := by
    simpa [or_assoc] using hchk
  show execCheckerLock n bits s = _
  simp only [execCheckerLock, hruns, hmode, hst, hsel]
  rfl

/-- The checker after the bits: its lock, what it has counted wrong, and where it stands. -/
theorem State.checkerIn_shows {s : State} {n : Nat} {bits : List Bool} {r : Bool × Nat × Nat × Checker}
    (hr : r = checkBits (s.fld F.LNK_PATTERN_CHK n) (s.rd .LNK_USER_WORD n) bits (s.flag F.LNK_PATTERN_CHK_LOCK n) 0 0 (s.ln n).chk) :
    (s.checkerIn n bits).fld F.LNK_PATTERN_CHK_LOCK n = b2n r.1 ∧ Counted .LNK_BER_ERRS n s (s.checkerIn n bits) r.2.2.1 ∧
      ((s.checkerIn n bits).ln n).chk = r.2.2.2 := by
  have hin : s.checkerIn n bits =
      ((s.setLn n { s.ln n with chk := r.2.2.2 }).berAdd n r.2.1 r.2.2.1).setFld F.LNK_PATTERN_CHK_LOCK (b2n r.1) n := by
    rw [hr]
    rfl
  rw [hin]
  refine ⟨?lock, ?errs, ?chk⟩
  case lock =>
    rw [State.fld_setFld_same _ _ n 0 (by decide)]
    cases r.1 <;> rfl
  case errs =>
    refine Counted.before ?_ (State.setFld_frame ..) (by decide)
    unfold State.berAdd
    extract_lets t
    rw [Counted, State.rd_bumpBy_same, State.rd_wr_reg _ _ _ _ _ _ (by decide)]
    rfl
  case chk =>
    rw [State.ln_setFld, State.berAdd, State.ln_bumpBy, State.ln_wr, State.ln_setLn, State.ln_setLn]

/-- Settles O27: a pass over the lanes of a port reaches each of them (`State.eachOf_reach`), and the rest is said by the lemma of
each operation. -/
theorem laneLowPowerAndTests : Obligations.LaneLowPowerAndTests := by
  unfold Obligations.LaneLowPowerAndTests
  refine ⟨fun p blocks n s hready hlen hcode hnak hn => ?doze,
    fun p blocks s hready hw hlen hcode hnak => ⟨_, exec_enterDoze_code hready hw hlen hcode, by rw [if_pos hnak]⟩,
    fun p blocks n s hlen hdoze hcode hn => ?wake,
    fun p n s hn hst => ⟨_, exec_dozeExitTimeout_eq p s, State.lstate_dozeSlows hn hst⟩,
    fun p dt first last s hdeep hup hwant => ⟨_, exec_deepRetry_asked hdeep hup hwant, rfl⟩,
    fun p blocks s hw hlen hdeep hcode hst => ?ack,
    fun p dt t0 last s hw hdeep hidle hst => ?force,
    fun n s hruns hst hidle hwake hn => ⟨_, exec_deepWakeOnSignal_deep hruns hst hidle hwake, State.deepExit_deep hn hst⟩,
    fun q n s hq hruns hst hexit => ⟨_, exec_quadPllLocked_eq q s, State.laneOn_pass (mem_quad hq) hruns hst hexit⟩,
    fun who n s hmay => ⟨_, exec_patternClear_may hmay, s.clearBer_clear n⟩,
    fun who n s hmay hmode hinj => ⟨_, exec_injectShot_single hmay hmode hinj, (s.injectBurst_sends n).2⟩,
    fun n dt s hruns hmode hinj => ?burst,
    fun who n s hmay hwho => ⟨_, exec_berBitsLoRead_may hmay hwho, rfl, State.rd_wr_self ..⟩,
    fun n bits r s hruns hmode hst hchk hr => ⟨_, exec_checkerLock_test hruns hmode hst hchk, State.checkerIn_shows hr⟩⟩
  case doze =>
    have hw : s.portWidth p ≠ 0 := by rw [← s.portWidth_powerRow p p blocks]; exact State.portWidth_pos hn
    refine ⟨_, exec_enterDoze_code hready hw hlen hcode, ?_⟩
    rw [hnak, if_neg Bool.false_ne_true]
    exact State.lstate_eachOf (fun t => t.lstate_setLstate_self n lsDoze) (fun m t hm => t.lstate_setLstate_ne lsDoze hm) hn _
  case wake =>
    have hw : s.portWidth p ≠ 0 := by rw [← s.portWidth_powerRow p p blocks]; exact State.portWidth_pos hn
    exact ⟨_, exec_wakeRow_code hw hlen hdoze hcode, State.lstate_eachOf (fun t => t.lstate_dozeWake_self n)
      (fun m t hm => t.lstate_dozeWake_ne hm) hn _⟩
  case ack =>
    exact ⟨_, exec_deepAck_code (by rw [hw]; decide) (hlen.trans hw.symm) hdeep hcode,
      State.portDeep_one ((s.portWidth_powerRow p p blocks).trans hw) (((State.keepsState_powerRow hcode).lstate p).trans hst)⟩
  case force =>
    obtain ⟨hdown, hup⟩ := State.portDeep_one (s := s.passTo dt (t0 + fineOfUs 1000)) hw hst
    exact ⟨_, exec_deepForce_idle hdeep hidle, hdown, hup, (State.portDeep_changes ..).parts .fine (by decide)⟩
  case burst =>
    obtain ⟨hat, hsends⟩ := (s.passTo dt ((s.ln n).burstAt + s.burstPeriod n)).injectBurst_sends n
    exact ⟨_, exec_injectBurst_repeated dt hruns hmode hinj, s.le_fine_passTo dt _, hat, hsends⟩

end
end Sys2Proof.Machine

/-! # What the capture commands leave unchanged (O8) -/

namespace Sys2Proof.Machine
section
-- One theorem at a time: the whole text is compiled under a memory limit.
set_option Elab.async false

/-! ## Commands on the byte stream of a port -/

/-- A command on a stream takes time, whether the port is up or not. -/
theorem State.onPort_frame {P : List Part} {R : List Reg} {s : State} {p dt : Nat} {k : State → State}
    (hk : ∀ x, Changes P R x (k x)) (hp : [.fine] ⊆ P := by decide) : Changes P R s (s.onPort p dt k) := by
  have htime : Changes P R s (s.advance dt) := (s.advance_frame dt).mono hp (List.nil_subset _)
  exact .ite (htime.trans (hk _)) htime

/-- A packet leaves its stream or fails its header, within a frame that has room for the failure. -/
theorem State.onPacket_frame {P : List Part} {R : List Reg} {s : State} {p dt len : Nat} {k : State → State}
    (hk : ∀ x, Changes P R x (k x)) (hp : [.fine, .port] ⊆ P := by decide)
    (hr : regMask [.CAP_CNT_BAD_HCRC] &&& regMask R = regMask [.CAP_CNT_BAD_HCRC] := by decide +kernel) :
    Changes P R s (s.onPacket p dt len k) :=
  State.onPort_frame (fun x => .ite ((x.failHeader_changes p).within (List.Subset.trans (by decide) hp) hr) (hk x))
    (List.Subset.trans (by decide) hp)

section
open State

theorem frameStart_framed (p : Fin 64) (dt : Nat) (aligned : Bool) (pkt : Packet) (slow : Bool) (meet : List RingOp) (s : State) :
    Framed (.frameStart p dt aligned pkt slow meet) s := by
  unfold Framed partsOf regsOf; dsimp only
  refine ⟨_, rfl, onPacket_frame fun x => ?_⟩
  have hmeet := x.ringOps_changes (meet.filter ringRelease)
  exact ((hmeet.within.op (takePacket_changes ..)).op (closeFrame_changes ..)).op (openFrame_changes ..)

theorem lineData_framed (p : Fin 64) (dt : Nat) (pkt : Packet) (full : Bool) (s : State) : Framed (.lineData p dt pkt full) s := by
  unfold Framed partsOf regsOf; dsimp only
  refine ⟨_, rfl, onPacket_frame fun x => ?_⟩
  have htaken := x.takePacket_changes p pkt
  exact .ite (htaken.within.op (bump_frame ..))
    (.ite (htaken.within.op (frameData_changes ..)) (htaken.within.op (frameData_changes ..)))

theorem frameEnd_framed (p : Fin 64) (dt : Nat) (pkt : Packet) (s : State) : Framed (.frameEnd p dt pkt) s := by
  unfold Framed partsOf regsOf; dsimp only
  refine ⟨_, rfl, onPacket_frame fun x => ?_⟩
  have htaken := x.takePacket_changes p pkt
  exact .ite (htaken.within.op (bump_frame ..)) (htaken.within.op (closeFrame_changes ..))

theorem closeTimeout_framed (p : Fin 64) (dt : Nat) (s : State) : Framed (.closeTimeout p dt) s := by
  unfold Framed partsOf regsOf; dsimp only
  refine ⟨_, rfl, ?_⟩
  split
  · exact (advance_frame ..).within
  · exact (passTo_changes ..).within.op (closeFrame_changes ..)

theorem hcrcFail_framed (p : Fin 64) (s : State) : Framed (.hcrcFail p) s := by
  unfold Framed partsOf regsOf; dsimp only
  exact ⟨_, rfl, onPort_frame fun x => (x.failHeader_changes p).within⟩

theorem reservedPacket_framed (p : Fin 64) (length : BitVec 16) (s : State) : Framed (.reservedPacket p length) s := by
  unfold Framed partsOf regsOf; dsimp only
  exact ⟨_, rfl, onPacket_frame fun x => (x.popPacket_changes ..).within.op (bump_frame ..)⟩

theorem cameraStatus_framed (p : Fin 64) (dt : Nat) (pkt : Packet) (s : State) : Framed (.cameraStatus p dt pkt) s := by
  unfold Framed partsOf regsOf; dsimp only
  refine ⟨_, rfl, onPacket_frame fun x => ?_⟩
  have htaken := x.takePacket_changes p pkt
  exact .ite ((htaken.within.op (camStat_changes ..)).op (setCp_changes ..)) htaken.within

theorem camSilent_framed (p : Fin 64) (dt : Nat) (s : State) : Framed (.camSilent p dt) s := by
  unfold Framed partsOf regsOf; dsimp only
  exact ⟨_, rfl, .ite ((passTo_changes ..).within.op (setFld_frame ..)) (advance_frame ..).within⟩

/-! ## Control requests -/

theorem controlResponse_framed (p : Fin 64) (pkt : Packet) (s : State) : Framed (.controlResponse p pkt) s := by
  unfold Framed partsOf regsOf; dsimp only
  refine ⟨_, rfl, onPacket_frame fun x => ?_⟩
  have htaken := x.takePacket_changes p pkt
  dsimp only
  refine .ite htaken.within (.ite ?rate ?ordinary)
  case rate =>
    split
    · exact .ite (htaken.within.op (setPt_changes ..)) (htaken.within.op (bump_frame ..))
    · exact htaken.within.op (bump_frame ..)
  case ordinary =>
    split
    · refine .ite ?_ (htaken.within.op (bump_frame ..))
      refine (Changes.op ?_ (memBytes_changes ..)).op (ctlStart_changes ..)
      refine ((Changes.op ?_ (setFld_frame ..)).op (setFld_frame ..)).op (setFld_frame ..)
      exact (htaken.within.op (setCp_changes ..)).op (setBusy_changes ..)
    · exact htaken.within.op (bump_frame ..)

theorem ctrlGo_framed (who : Requester) (box : Fin 2) (s : State) : Framed (.ctrlGo who box) s := by
  unfold Framed partsOf regsOf; dsimp only
  exact ⟨_, rfl, .ite (ctrlGo_changes ..).within (.refl ..)⟩

theorem controlRequestRetry_framed (p : Fin 64) (dt : Nat) (s : State) : Framed (.controlRequestRetry p dt) s := by
  unfold Framed partsOf regsOf; dsimp only
  refine ⟨_, rfl, ?_⟩
  split
  · exact (advance_frame ..).within
  · extract_lets x y
    refine Changes.cut (x := y) ?_ fun hrestore => .ite (hrestore.op (ctlRetry_changes ..)) hrestore
    exact .ite ((passTo_changes ..).within.op (restoreRetry_changes ..)) (passTo_changes ..).within

/-! ## Triggers -/

theorem triggerAck_framed (p : Fin 64) (seq code : BitVec 8) (s : State) : Framed (.triggerAck p seq code) s := by
  unfold Framed partsOf regsOf; dsimp only
  refine ⟨_, rfl, onPacket_frame fun x => ?_⟩
  exact Changes.cut ((x.popPacket_changes p 0).within.op (setCp_changes ..)) fun hack => .ite (hack.op (bump_frame ..)) hack

theorem triggerAckTimeout_framed (p : Fin 64) (dt : Nat) (seq : BitVec 8) (s : State) : Framed (.triggerAckTimeout p dt seq) s := by
  unfold Framed partsOf regsOf; dsimp only
  refine ⟨_, rfl, ?_⟩
  split
  · exact ((passTo_changes ..).within.op (setCp_changes ..)).op (bump_frame ..)
  · exact (advance_frame ..).within

theorem soft_framed (who : Requester) (p : Fin 64) (s : State) : Framed (.soft who p) s := by
  unfold Framed partsOf regsOf; dsimp only
  exact ⟨_, rfl, writeGate_frame (trigCause_changes ..).within⟩

theorem scanPathCause_framed (p : Fin 64) (dt : Nat) (s : State) : Framed (.scanPathCause p dt) s := by
  unfold Framed partsOf regsOf; dsimp only
  have htime := s.advance_frame dt
  exact ⟨_, rfl, .ite htime.within (.ite htime.within ((htime.within.op (setCp_changes ..)).op (trigCause_changes ..)))⟩

theorem triggerBlockSend_framed (p : Fin 64) (dt : Nat) (s : State) : Framed (.triggerBlockSend p dt) s := by
  unfold Framed partsOf regsOf; dsimp only
  refine ⟨_, rfl, ?_⟩
  have htime := s.advance_frame dt
  dsimp only
  split
  · exact htime.within
  · exact .ite ((htime.within.op (setCp_changes ..)).op (flushSegs_changes ..))
      (.ite (((htime.within.op (setCp_changes ..)).op (flushSegs_changes ..)).op (bump_frame ..))
        ((((htime.within.op (setCp_changes ..)).op (sendRow_changes ..)).op (flushSegs_changes ..)).op (bump_frame ..)))

theorem trigoPulseEnd_framed (pin : Fin 8) (dt : Nat) (s : State) : Framed (.trigoPulseEnd pin dt) s := by
  unfold Framed partsOf regsOf; dsimp only
  refine ⟨_, rfl, ?_⟩
  split
  · exact (advance_frame ..).within
  · exact (passTo_changes ..).within.op (pinEnd_changes ..)

/-! ## Registers with rows of their own -/

theorem compareArm_framed (who : Requester) (n : Fin 16) (s : State) : Framed (.compareArm who n) s := by
  unfold Framed partsOf regsOf; dsimp only
  refine ⟨_, rfl, .ite ?_ (.refl ..)⟩
  obtain h | h := s.gated_cases who 2 (s.cmpArm n)
  · rw [h]
    exact (cmpArm_changes ..).within
  · exact h.within

theorem frameNumLoRead_framed (who : Requester) (p : Fin 64) (s : State) : Framed (.frameNumLoRead who p) s := by
  unfold Framed partsOf regsOf; dsimp only
  exact ⟨_, rfl, readGate_frame ((wr_frame ..).within.op (emit_frame ..))⟩

end

/-- Settles O8, by the frame of each capture command. -/
theorem captureFrame : Obligations.CaptureFrame := by
  unfold Obligations.CaptureFrame
  intro c s h
  cases c with
  | frameStart p dt aligned pkt slow meet => exact frameStart_framed p dt aligned pkt slow meet s
  | lineData p dt pkt full => exact lineData_framed p dt pkt full s
  | frameEnd p dt pkt => exact frameEnd_framed p dt pkt s
  | closeTimeout p dt => exact closeTimeout_framed p dt s
  | hcrcFail p => exact hcrcFail_framed p s
  | reservedPacket p length => exact reservedPacket_framed p length s
  | cameraStatus p dt pkt => exact cameraStatus_framed p dt pkt s
  | camSilent p dt => exact camSilent_framed p dt s
  | controlResponse p pkt => exact controlResponse_framed p pkt s
  | ctrlGo who box => exact ctrlGo_framed who box s
  | controlRequestRetry p dt => exact controlRequestRetry_framed p dt s
  | triggerAck p seq code => exact triggerAck_framed p seq code s
  | triggerAckTimeout p dt seq => exact triggerAckTimeout_framed p dt seq s
  | soft who p => exact soft_framed who p s
  | scanPathCause p dt => exact scanPathCause_framed p dt s
  | triggerBlockSend p dt => exact triggerBlockSend_framed p dt s
  | trigoPulseEnd pin dt => exact trigoPulseEnd_framed pin dt s
  | compareArm who n => exact compareArm_framed who n s
  | frameNumLoRead who p => exact frameNumLoRead_framed who p s
  | _ => cases h

end
end Sys2Proof.Machine

/-! # Frames: packets, start, data, end, status (O28) -/

namespace Sys2Proof.Machine
section
set_option Elab.async false

/-! ## A packet on the stream of a port (R97, R99) -/

@[simp] theorem State.cp_passTo (s : State) (dt due p : Nat) : (s.passTo dt due).cp p = s.cp p := rfl

section
variable {s : State} {p len : Nat}

/-- A packet whose header is good acts once its time has passed. -/
theorem State.onPacket_good (dt : Nat) (k : State → State) (hready : s.ready) (hup : s.portUp p) (hhead : s.headOk p len) :
    s.onPacket p dt len k = k (s.advance dt) := by
  simp only [State.headOk, Bool.and_eq_true, decide_eq_true_eq, Bool.not_eq_true'] at hhead
  obtain ⟨hlen, herased⟩ := hhead
  have hcond : (decide (16384 < len) || (((s.advance dt).stream p).take 8).any (fun b => decide (b.1 = 2))) = false :=
    Bool.or_eq_false_iff.2 ⟨decide_eq_false (Nat.not_lt.2 hlen), herased⟩
  rw [State.onPacket, State.onPort_up dt _ hready hup, hcond, if_neg Bool.false_ne_true]

/-- A packet whose header fails leaves only its first byte. -/
theorem State.onPacket_bad (dt : Nat) (k : State → State) (hready : s.ready) (hup : s.portUp p) (hhead : s.headOk p len = false) :
    s.onPacket p dt len k = (s.advance dt).failHeader p := by
  have hcond : (decide (16384 < len) || (((s.advance dt).stream p).take 8).any (fun b => decide (b.1 = 2))) = true := by
    simp only [State.headOk, Bool.and_eq_false_iff, decide_eq_false_iff_not, Bool.not_eq_false'] at hhead
    exact Bool.or_eq_true_iff.2 (hhead.imp (fun h => decide_eq_true (Nat.not_le.1 h)) id)
  rw [State.onPacket, State.onPort_up dt _ hready hup, hcond, if_pos rfl]

end

/-- A failed header is counted, and the stream goes on at the next good one. -/
theorem State.failHeader_hunts (s : State) (p : Nat) : Counted .CAP_CNT_BAD_HCRC p s (s.failHeader p) ∧
    ((s.failHeader p).pt p).bytes = huntHeader ((s.stream p).drop 1) :=
  ⟨State.counted_bump .., by rw [State.failHeader, State.pt_bump, State.pt_setPt]⟩

/-- What a packet shows of itself depends on its stream alone. -/
theorem State.view_takePacket {s t : State} {p : Nat} (pkt : Packet) (h : t.pt p = s.pt p) :
    (t.takePacket p pkt).1 = (s.takePacket p pkt).1 := by
  simp only [State.takePacket, State.popPacket, State.stream, h]

/-- No byte of a packet whose PCRC checks is erased. -/
theorem State.erased_takePacket {s : State} {p : Nat} {pkt : Packet} (h : (s.takePacket p pkt).1.ok) :
    (s.takePacket p pkt).1.erased = [] :=
  List.isEmpty_iff.1 (Bool.and_eq_true _ _ ▸ h).1

/-- The packet belongs to no open frame of the port. -/
def State.orphan (s : State) (p : Nat) (pkt : Packet) : Prop := ∀ f, (s.cp p).frame = some f → f.camSeq ≠ pkt.info.toNat

/-- A packet of no open frame is counted, and leaves the frame of the port as it is. -/
theorem State.orphan_counts (s : State) (p dt : Nat) (pkt : Packet) :
    Counted .CAP_CNT_ORPHAN p s (((s.advance dt).takePacket p pkt).2.bump .CAP_CNT_ORPHAN p) ∧
      ((((s.advance dt).takePacket p pkt).2.bump .CAP_CNT_ORPHAN p).cp p).frame = (s.cp p).frame := by
  refine ⟨(State.counted_bump ..).after (P := [.fine, .port]) (R := [.CAP_CNT_BAD_PCRC]) ?_ (by decide), ?_⟩
  · exact (s.advance_frame dt).within.op (State.takePacket_changes ..)
  · rw [State.cp_bump, State.cp_takePacket, State.cp_advance]

/-! ## FRAME_START (R101, R103, R130) -/

/-- FRAME_START on port `p` of `s`, `dt` from now, has come to state `u`, in which `f` is about to open. -/
structure StartsFrame (s : State) (p dt : Nat) (pkt : Packet) (u : State) (f : CapFrame) : Prop where
  port : u.cp p = { s.cp p with frame := none }
  frames : u.rd .CAP_CNT_FRAMES p = s.rd .CAP_CNT_FRAMES p
  num : f.num = (s.cp p).count
  camSeq : f.camSeq = pkt.info.toNat
  got : f.got = []
  lastAt : f.lastAt = s.fine + dt
  usable : (s.takePacket p pkt).1.ok → pkt.payload.length = 12 →
    f.w0 = fieldLE pkt.payload 0 2 ∧ f.h0 = fieldLE pkt.payload 2 2 ∧ f.fmt = fieldLE pkt.payload 4 1 ∧ f.exposure = fieldLE pkt.payload 8 4

section
variable {p : Fin 64} {pkt : Packet} {s : State} (dt : Nat) (hready : s.ready) (hup : s.portUp p)
  (hhead : s.headOk p pkt.payload.length)
include hready hup hhead

theorem exec_frameStart_good (aligned slow : Bool) (meet : List RingOp) :
    ∃ u f, exec (.frameStart p dt aligned pkt slow meet) s = .next (u.openFrame p f slow (meet.filter (fun o => !ringRelease o))) ∧
      StartsFrame s p dt pkt u f := by
  have hmeet := (s.advance dt).ringOps_changes (meet.filter ringRelease)
  have htake := (State.ringOps (meet.filter ringRelease) (s.advance dt)).takePacket_changes p pkt
  have hclose := ((State.ringOps (meet.filter ringRelease) (s.advance dt)).takePacket p pkt).2.closeFrame_changes p none
  have hport := (htake.cp (by decide) p).trans (hmeet.cp (by decide) p)
  have hcp := (State.closeFrame_cp _ p none).trans (congrArg (fun x : CapPort => { x with frame := none }) hport)
  refine ⟨_, _, congrArg Host.Outcome.next (State.onPacket_good dt _ hready hup hhead), {
    port := hcp
    frames := (hclose.regs _ (by decide) p 0).trans ((htake.regs _ (by decide) p 0).trans (hmeet.regs _ (by decide) p 0))
    num := congrArg (·.count) hcp
    camSeq := rfl
    got := rfl
    lastAt := (hclose.parts .fine (by decide)).trans ((htake.parts .fine (by decide)).trans (hmeet.parts .fine (by decide)))
    usable := fun hok hlen => ?_ }⟩
  have hview : ((State.ringOps (meet.filter ringRelease) (s.advance dt)).takePacket p pkt).1.ok = true :=
    (congrArg (·.ok) (State.view_takePacket pkt (hmeet.pt (by decide) p))).trans hok
  have hcond : (((State.ringOps (meet.filter ringRelease) (s.advance dt)).takePacket p pkt).1.ok && pkt.payload.length == 12) = true :=
    Bool.and_eq_true_iff.2 ⟨hview, beq_iff_eq.2 hlen⟩
  exact ⟨if_pos hcond, if_pos hcond, if_pos hcond, if_pos hcond⟩

end

/-- A frame that opens has what it was given and its number, and counts once. -/
theorem StartsFrame.opens {s u : State} {p dt : Nat} {pkt : Packet} {f : CapFrame} (h : StartsFrame s p dt pkt u f) (slow : Bool)
    (marks : List RingOp) : ∃ g, SameFrame f g ∧ ((u.openFrame p f slow marks).cp p).frame = some g ∧
      ((u.openFrame p f slow marks).cp p).count = ((s.cp p).count + 1) % 2 ^ 48 ∧
      ((u.openFrame p f slow marks).cp p).lastStamp = some f.stampAt ∧ Counted .CAP_CNT_FRAMES p s (u.openFrame p f slow marks) := by
  obtain ⟨g, hsame, hcp⟩ := u.openFrame_cp p f slow marks
  refine ⟨g, hsame, by rw [hcp], by rw [hcp, h.port], by rw [hcp], ?_⟩
  rw [Counted, u.openFrame_counts p f slow marks p, State.rd_bump_same, h.frames]

/-! ## LINE_DATA and FRAME_END (R103, R105 to R107) -/

section
variable {p : Fin 64} {pkt : Packet} {f : CapFrame} {s : State} (dt : Nat) (hready : s.ready) (hup : s.portUp p)
  (hhead : s.headOk p pkt.payload.length)
include hready hup hhead

theorem exec_lineData_orphan (full : Bool) (horphan : s.orphan p pkt) :
    exec (.lineData p dt pkt full) s = .next (((s.advance dt).takePacket p pkt).2.bump .CAP_CNT_ORPHAN p) := by
  refine (congrArg Host.Outcome.next (State.onPacket_good dt _ hready hup hhead)).trans ?_
  dsimp only
  rw [State.cp_takePacket, State.cp_advance]
  cases hf : (s.cp p).frame with
  | none => rfl
  | some f => simp [horphan f hf]

/-- LINE_DATA of the open frame whose PCRC checks hands the bytes after its offset to the frame. -/
theorem exec_lineData_open (full : Bool) (hf : (s.cp p).frame = some f) (hseq : f.camSeq = pkt.info.toNat)
    (hok : (s.takePacket p pkt).1.ok) (hlen : 4 ≤ pkt.payload.length) :
    ∃ data bad failed rebuilt, data.length = pkt.payload.length - 4 ∧ exec (.lineData p dt pkt full) s =
      .next (((s.advance dt).takePacket p pkt).2.frameData p (fieldLE pkt.payload 0 4) data bad failed rebuilt full) := by
  have herased : ((s.advance dt).takePacket p pkt).1.erased = [] := State.erased_takePacket (s := s.advance dt) hok
  have hrun : exec (.lineData p dt pkt full) s = .next _ :=
    congrArg Host.Outcome.next (State.onPacket_good dt _ hready hup hhead)
  dsimp only at hrun
  rw [State.cp_takePacket, State.cp_advance, hf, herased] at hrun
  simp only [hseq, beq_self_eq_true, Bool.not_true, Bool.false_eq_true, if_false, Nat.not_lt.2 hlen, decide_false, List.any_nil,
    Bool.or_false] at hrun
  exact ⟨_, _, _, _, by simp [zeroErased], hrun⟩

theorem exec_frameEnd_orphan (horphan : s.orphan p pkt) :
    exec (.frameEnd p dt pkt) s = .next (((s.advance dt).takePacket p pkt).2.bump .CAP_CNT_ORPHAN p) := by
  refine (congrArg Host.Outcome.next (State.onPacket_good dt _ hready hup hhead)).trans ?_
  dsimp only
  rw [State.cp_takePacket, State.cp_advance]
  cases hf : (s.cp p).frame with
  | none => rfl
  | some f => simp [horphan f hf]

theorem exec_frameEnd_open (hf : (s.cp p).frame = some f) (hseq : f.camSeq = pkt.info.toNat) :
    ∃ count, exec (.frameEnd p dt pkt) s = .next (((s.advance dt).takePacket p pkt).2.closeFrame p count) := by
  have hrun : exec (.frameEnd p dt pkt) s = .next _ := congrArg Host.Outcome.next (State.onPacket_good dt _ hready hup hhead)
  dsimp only at hrun
  rw [State.cp_takePacket, State.cp_advance, hf] at hrun
  simp only [hseq, beq_self_eq_true, Bool.not_true, Bool.false_eq_true, if_false] at hrun
  exact ⟨_, hrun⟩

end

theorem exec_closeTimeout_open {p : Fin 64} {f : CapFrame} {s : State} (dt : Nat) (hf : (s.cp p).frame = some f) :
    exec (.closeTimeout p dt) s = .next (State.closeFrame
      (s.passTo dt (f.lastAt + fineOfUs (2 ^ (s.fld F.CAP_PORT_ROUTE_CLOSE_TIMEOUT p + 4)))) p none) := by
  show execCloseTimeout p dt s = _
  rw [execCloseTimeout, hf]

/-- Bytes inside a frame that has received none are all that has arrived. -/
theorem addRanges_first {a b size : Nat} (hab : a < b) (hb : b ≤ size) : addRanges (rangeGaps a (min b size) []) [] = [(a, b)] := by
  simp [rangeGaps, addRanges, rangeAdd, Nat.min_eq_left hb, hab]

/-! ## Camera status (R109) -/

/-- Each word of the status registers reads what the packet has at its place. -/
theorem State.rd_camStat_words (s : State) (p : Nat) (w : Nat → Nat) {j : Nat} (hj : j < 4) :
    (State.camStat p ((List.range 4).map (fun j => (j, w j))) s).rd .CAP_CAM_STAT p j = BitVec.ofNat 32 (w j) := by
  have hcam : State.camStat p ((List.range 4).map (fun j => (j, w j))) s = (((s.wr .CAP_CAM_STAT (BitVec.ofNat 32 (w 0)) p 0).wr
      .CAP_CAM_STAT (BitVec.ofNat 32 (w 1)) p 1).wr .CAP_CAM_STAT (BitVec.ofNat 32 (w 2)) p 2).wr .CAP_CAM_STAT
      (BitVec.ofNat 32 (w 3)) p 3 := rfl
  rw [hcam]
  interval_cases j <;> simp [State.rd_wr]

theorem exec_cameraStatus_valid {p : Fin 64} {pkt : Packet} {s : State} (dt : Nat) (hready : s.ready) (hup : s.portUp p)
    (hhead : s.headOk p pkt.payload.length) (hok : (s.takePacket p pkt).1.ok) (hlen : pkt.payload.length = 16) :
    ∃ u : State, exec (.cameraStatus p dt pkt) s = .next (u.setCp p { u.cp p with quietAt := u.fine }) ∧
      (∀ j < 4, u.rd .CAP_CAM_STAT p j = BitVec.ofNat 32 (fieldLE pkt.payload (4 * j) 4)) ∧ u.fine = s.fine + dt := by
  have hrun : exec (.cameraStatus p dt pkt) s = .next _ := congrArg Host.Outcome.next (State.onPacket_good dt _ hready hup hhead)
  have hview : ((s.advance dt).takePacket p pkt).1.ok = true := hok
  dsimp only at hrun
  rw [hview, hlen] at hrun
  exact ⟨_, hrun, fun j hj => State.rd_camStat_words _ p (fun j => fieldLE pkt.payload (4 * j) 4) hj,
    ((State.camStat_changes ..).parts .fine (by decide)).trans
      (((s.advance dt).takePacket_changes p pkt).parts .fine (by decide))⟩

theorem exec_camSilent_up {p : Fin 64} {s : State} (dt : Nat) (hup : s.portUp p) : exec (.camSilent p dt) s =
    .next ((s.passTo dt ((s.cp p).quietAt + fineOfUs 100000)).setFld F.CAP_PORT_FLAGS_CAM_SILENT 1 p) :=
  congrArg Host.Outcome.next (if_pos hup)

/-! ## CAP_FRAME_NUM_LO (R130) -/

/-- A read of CAP_FRAME_NUM_LO by another than the helm latches bits 47:32 of the next number. -/
theorem exec_frameNumLoRead_may {who : Requester} {p : Fin 64} {s : State} (hmay : s.mayRead who 1 p 1) (hwho : who ≠ .helm) :
    exec (.frameNumLoRead who p) s = .next
      ((s.wr .CAP_FRAME_NUM_HI (BitVec.ofNat 32 ((s.cp p).count / 2 ^ 32)) p).emit (.reply (s.rd .CAP_FRAME_NUM_LO p))) :=
  congrArg Host.Outcome.next ((State.readGate_may _ hmay).trans (if_neg hwho))

/-! ## Headers that fail (R97, R99) -/

/-- The six commands that take a packet, each with the length of its payload. -/
def packetCmds (p : Fin 64) (dt : Nat) (length : BitVec 16) (pkt : Packet) : List (Instr × Nat) :=
  [(.reservedPacket p length, length.toNat), (.lineData p dt pkt false, pkt.payload.length), (.frameEnd p dt pkt, pkt.payload.length),
    (.frameStart p dt true pkt false [], pkt.payload.length), (.cameraStatus p dt pkt, pkt.payload.length),
    (.controlResponse p pkt, pkt.payload.length)]

/-- Each of them acts through the gate for packets of its length. -/
theorem exec_packetCmds {p : Fin 64} {dt : Nat} {length : BitVec 16} {pkt : Packet} {c : Instr × Nat}
    (hc : c ∈ packetCmds p dt length pkt) (s : State) : ∃ d k, exec c.1 s = .next (s.onPacket p d c.2 k) := by
  simp only [packetCmds, List.mem_cons, List.not_mem_nil, or_false] at hc
  rcases hc with rfl | rfl | rfl | rfl | rfl | rfl <;> exact ⟨_, _, rfl⟩

/-- Settles O28: each event is its `exec_` lemma, and what it counts and leaves in the port is said by the lemma of its operation. -/
theorem captureFrames : Obligations.CaptureFrames := by
  unfold Obligations.CaptureFrames
  refine ⟨fun p dt aligned pkt slow meet s hready hup hhead => ?start,
    fun p dt aligned pkt slow meet s hready hup hhead hok hlen => ?usable,
    fun p dt pkt full f s hready hup hhead hf hseq hopaq hok hlen hgot hsome hin => ?data,
    fun p dt pkt full s hready hup hhead horphan =>
      ⟨_, exec_lineData_orphan dt hready hup hhead full horphan, s.orphan_counts p dt pkt⟩,
    fun p dt pkt s hready hup hhead horphan => ⟨_, exec_frameEnd_orphan dt hready hup hhead horphan, s.orphan_counts p dt pkt⟩,
    fun p dt pkt f s hready hup hhead hf hseq => ?ends,
    fun p dt f s hf =>
      ⟨_, exec_closeTimeout_open dt hf, State.closeFrame_cp .., (State.closeFrame_changes ..).parts .fine (by decide)⟩,
    fun p s hready hup => ⟨_, congrArg Host.Outcome.next (State.onPort_up 0 _ hready hup), s.failHeader_hunts p⟩,
    fun p length s hready hup hhead => ?reserved,
    fun p dt length pkt s hready hup c hc hhead => ?bad,
    fun p dt pkt s hready hup hhead hok hlen => ?status,
    fun p dt s hup => ⟨_, exec_camSilent_up dt hup, State.fld_setFld_same _ 1 p 0 (by decide), rfl⟩,
    fun who p s hmay hwho => ⟨_, exec_frameNumLoRead_may hmay hwho, rfl, State.rd_wr_self ..⟩⟩
  case start =>
    obtain ⟨u, f, hrun, hstart⟩ := exec_frameStart_good dt hready hup hhead aligned slow meet
    obtain ⟨g, hsame, hframe, hcount, hstamp, hcounted⟩ := hstart.opens slow (meet.filter (fun o => !ringRelease o))
    exact ⟨_, hrun, g, hframe, (congrArg (·.num) hsame.eq).trans hstart.num, (congrArg (·.camSeq) hsame.eq).trans hstart.camSeq,
      (congrArg (·.got) hsame.eq).trans hstart.got, hcount, hstamp.trans (congrArg (some ·.stampAt) hsame.eq.symm),
      (congrArg (·.lastAt) hsame.eq).trans hstart.lastAt, hcounted⟩
  case usable =>
    obtain ⟨u, f, hrun, hstart⟩ := exec_frameStart_good dt hready hup hhead aligned slow meet
    obtain ⟨g, hsame, hframe, -⟩ := hstart.opens slow (meet.filter (fun o => !ringRelease o))
    obtain ⟨hw, hh, hfmt, hexp⟩ := hstart.usable hok hlen
    exact ⟨_, hrun, g, hframe, (congrArg (·.w0) hsame.eq).trans hw, (congrArg (·.h0) hsame.eq).trans hh,
      (congrArg (·.fmt) hsame.eq).trans hfmt, (congrArg (·.exposure) hsame.eq).trans hexp⟩
  case data =>
    obtain ⟨data, bad, failed, rebuilt, hdata, hrun⟩ := exec_lineData_open dt hready hup hhead full hf hseq hok hlen
    have htaken := (s.advance dt).takePacket_changes p pkt
    obtain ⟨g, hg, hnum, -, harrived, hlast⟩ := State.frameData_cp _ p (fieldLE pkt.payload 0 4) data bad failed rebuilt full
      ((congrArg (·.frame) (State.cp_takePacket (s.advance dt) p pkt p)).trans hf)
    refine ⟨_, hrun, g, hg, hnum, ?_, hlast.trans (htaken.parts .fine (by decide))⟩
    rw [harrived, hopaq, hgot, hdata, if_neg Bool.false_ne_true]
    exact addRanges_first hsome hin
  case ends =>
    obtain ⟨count, hrun⟩ := exec_frameEnd_open dt hready hup hhead hf hseq
    exact ⟨_, hrun, (State.closeFrame_cp ..).trans (by rw [State.cp_takePacket, State.cp_advance])⟩
  case reserved =>
    exact ⟨_, congrArg Host.Outcome.next (State.onPacket_good 0 _ hready hup hhead),
      (State.counted_bump ..).after (State.popPacket_changes (s.advance 0) p length.toNat) (by decide)⟩
  case bad =>
    obtain ⟨d, k, hrun⟩ := exec_packetCmds hc s
    exact ⟨_, hrun.trans (congrArg Host.Outcome.next (State.onPacket_bad d k hready hup hhead)), (s.advance d).failHeader_hunts p⟩
  case status =>
    obtain ⟨u, hrun, hwords, hfine⟩ := exec_cameraStatus_valid dt hready hup hhead hok hlen
    exact ⟨_, hrun, hwords 3 (by decide), hwords 0 (by decide), by rw [State.cp_setCp]; exact hfine⟩

end
end Sys2Proof.Machine

/-! # Control requests (O29) -/

namespace Sys2Proof.Machine
section
set_option Elab.async false

/-- A write that the level admits acts where no FLR keeps it out. -/
theorem State.gated_may {s : State} {who : Requester} {lvl : Nat} (k : State) (hflr : s.flrBars who = false)
    (hlvl : lvl ≤ s.levelOf who) : s.gated who lvl k = k := by
  rw [State.gated, State.flrGate_open _ _ hflr, if_pos hlvl]

/-- Nothing starts on a port whose first request is out. -/
theorem State.ctlStart_sent {s : State} {p : Nat} {c : CtlReq} {rest : List CtlReq} (hctl : (s.cp p).ctl = c :: rest)
    (hsent : c.sent ≠ 0) : State.ctlStart p s = s := by
  unfold State.ctlStart
  dsimp only
  rw [hctl]
  simp [hsent]

theorem State.fld_setBusy (s : State) (box : Nat) (b : Bool) : (s.setBusy box b).fld F.CAP_CTRL_STATUS_BUSY box = b2n b := by
  rw [State.setBusy, State.fld_setFld_reg _ _ _ _ _ _ (by decide) (by decide), State.fld_setFld_same _ _ _ _ (by decide)]
  cases b <;> rfl

/-! ## GO (R113) -/

/-- The request that CAP_CTRL_CMD of a mailbox describes (R111). -/
def State.boxRequest (s : State) (box : Nat) : CtlReq :=
  ⟨box, s.fld F.CAP_CTRL_CMD_OP box, s.ctlPayload box (s.fld F.CAP_CTRL_CMD_OP box) (min 256 (s.fld F.CAP_CTRL_CMD_COUNT box)),
    0, 0, 0⟩

section
variable {who : Requester} {box : Fin 2} {s : State} (hopen : s.unitOpen 1) (hflr : s.flrBars who = false)
  (hidle : s.flag F.CAP_CTRL_STATUS_BUSY box = false) (hlvl : 2 ≤ s.levelOf who)
include hopen hflr hidle hlvl

/-- GO of a mailbox that is not busy, by a requester of level 2, looks at the port that CAP_CTRL_CMD names. -/
theorem exec_ctrlGo_idle : exec (.ctrlGo who box) s = .next (
      if s.portWidth (s.fld F.CAP_CTRL_CMD_PORT box) = 0 || !s.portUp (s.fld F.CAP_CTRL_CMD_PORT box) ||
        s.fld F.CAP_CTRL_CMD_OP box = 0x10 || s.fld F.CAP_CTRL_CMD_OP box = 0x11 then s.setFld F.CAP_CTRL_STATUS_PORT_DOWN 1 box
      else State.ctlStart (s.fld F.CAP_CTRL_CMD_PORT box) ((s.setBusy box true).setCp (s.fld F.CAP_CTRL_CMD_PORT box)
        { s.cp (s.fld F.CAP_CTRL_CMD_PORT box) with ctl := (s.cp (s.fld F.CAP_CTRL_CMD_PORT box)).ctl ++ [s.boxRequest box] })) := by
  have hop : (if s.fld F.CAP_CTRL_CMD_OP box = 1 then 1 else 2) ≤ s.levelOf who := by split <;> omega
  refine (congrArg Host.Outcome.next (if_pos hopen)).trans (congrArg Host.Outcome.next ?_)
  rw [State.ctrlGo, hidle, if_neg Bool.false_ne_true, State.gated_may _ hflr hop]
  rfl

theorem exec_ctrlGo_down (hdown : s.portUp (s.fld F.CAP_CTRL_CMD_PORT box) = false) :
    exec (.ctrlGo who box) s = .next (s.setFld F.CAP_CTRL_STATUS_PORT_DOWN 1 box) := by
  rw [exec_ctrlGo_idle hopen hflr hidle hlvl, if_pos (by simp [hdown])]

end

/-! ## CONTROL_RESPONSE (R99, R112, R113) -/

/-- Request `c` of port `p` has been answered with `status` and `data`: it leaves the list, in which `rest` waits, and its mailbox is
done. -/
def State.controlDone (s : State) (p : Nat) (c : CtlReq) (rest : List CtlReq) (status : Nat) (data : List Byte) : State :=
  State.memBytes (((((s.setCp p { s.cp p with ctl := rest }).setBusy c.box false).setFld F.CAP_CTRL_STATUS_DONE 1 c.box).setFld
    F.CAP_CTRL_STATUS_RESP_STATUS status c.box).setFld F.CAP_CTRL_STATUS_RESP_COUNT data.length c.box) (ctrlBuf c.box) data

section
variable {p : Fin 64} {pkt : Packet} {s : State} (hready : s.ready) (hup : s.portUp p) (hhead : s.headOk p pkt.payload.length)
  (hok : (s.takePacket p pkt).1.ok) (hid : pkt.info.toNat % 256 < 0xF0)
include hready hup hhead hok hid

theorem exec_controlResponse_answers {c : CtlReq} {rest : List CtlReq} (hctl : (s.cp p).ctl = c :: rest) (hsent : c.sent ≠ 0)
    (hc : c.id = pkt.info.toNat % 256) :
    ∃ data, exec (.controlResponse p pkt) s =
      .next (State.ctlStart p ((s.takePacket p pkt).2.controlDone p c rest (pkt.info.toNat / 256) data)) := by
  have hrun : exec (.controlResponse p pkt) s = .next _ := congrArg Host.Outcome.next (State.onPacket_good 0 _ hready hup hhead)
  have hnow : s.advance 0 = s := rfl
  dsimp only at hrun
  rw [hnow, hok, State.cp_takePacket, hctl] at hrun
  simp only [Bool.not_true, Bool.false_eq_true, if_false, Nat.not_le.2 hid, hsent, hc, ne_eq, not_false_eq_true, decide_true,
    Bool.and_true, if_true] at hrun
  refine ⟨if c.op = 1 then pkt.payload.take 256 else [], ?_⟩
  rw [State.controlDone, State.cp_takePacket]
  exact hrun

/-- A response on a port that has no request out answers nothing. -/
theorem exec_controlResponse_orphan (hctl : (s.cp p).ctl = []) :
    exec (.controlResponse p pkt) s = .next ((s.takePacket p pkt).2.bump .CAP_CNT_ORPHAN p) := by
  have hrun : exec (.controlResponse p pkt) s = .next _ := congrArg Host.Outcome.next (State.onPacket_good 0 _ hready hup hhead)
  have hnow : s.advance 0 = s := rfl
  dsimp only at hrun
  rw [hnow, hok, State.cp_takePacket, hctl] at hrun
  simpa only [Bool.not_true, Bool.false_eq_true, if_false, Nat.not_le.2 hid] using hrun

end

/-- The mailbox and the list of the port after the response. -/
theorem State.controlDone_shows (s : State) (p : Nat) (c : CtlReq) (rest : List CtlReq) {status : Nat} (hstatus : status < 256)
    (data : List Byte) : (s.controlDone p c rest status data).fld F.CAP_CTRL_STATUS_BUSY c.box = 0 ∧
      (s.controlDone p c rest status data).fld F.CAP_CTRL_STATUS_DONE c.box = 1 ∧
      (s.controlDone p c rest status data).fld F.CAP_CTRL_STATUS_RESP_STATUS c.box = status ∧
      ((s.controlDone p c rest status data).cp p).ctl = rest := by
  unfold State.controlDone
  have hmem := State.memBytes_changes (((((s.setCp p { s.cp p with ctl := rest }).setBusy c.box false).setFld F.CAP_CTRL_STATUS_DONE 1
    c.box).setFld F.CAP_CTRL_STATUS_RESP_STATUS status c.box).setFld F.CAP_CTRL_STATUS_RESP_COUNT data.length c.box)
    (ctrlBuf c.box) data
  refine ⟨?busy, ?done, ?status, ?list⟩
  case busy =>
    rw [hmem.fld List.not_mem_nil, (State.keepsFld_setFld _ _ _ _ (by decide)).fld, (State.keepsFld_setFld _ _ _ _ (by decide)).fld,
      (State.keepsFld_setFld _ _ _ _ (by decide)).fld, State.fld_setBusy]
    rfl
  case done =>
    rw [hmem.fld List.not_mem_nil, (State.keepsFld_setFld _ _ _ _ (by decide)).fld, (State.keepsFld_setFld _ _ _ _ (by decide)).fld,
      State.fld_setFld_same _ _ _ _ (by decide)]
    rfl
  case status =>
    rw [hmem.fld List.not_mem_nil, (State.keepsFld_setFld _ _ _ _ (by decide)).fld, State.fld_setFld_same _ _ _ _ (by decide)]
    exact Nat.mod_eq_of_lt hstatus
  case list =>
    rw [hmem.cp (by decide), State.cp_setFld, State.cp_setFld, State.cp_setFld, State.setBusy, State.cp_setFld, State.cp_setFld,
      State.cp_setCp]

/-! ## CONTROL_REQUEST_RETRY (R112) -/

theorem State.ctlDue_sent {s : State} {p : Nat} {c : CtlReq} {rest : List CtlReq} (hctl : (s.cp p).ctl = c :: rest)
    (hsent : c.sent ≠ 0) : s.ctlDue p = some (c.at0 + fineOfUs 1000) := by
  rw [State.ctlDue, hctl]
  exact if_neg hsent

theorem State.ctlDue_nil {s : State} {p : Nat} (hctl : (s.cp p).ctl = []) : s.ctlDue p = none := by rw [State.ctlDue, hctl]

theorem State.restoreDue_out {s : State} {p : Nat} {m : RateMsg} (hrate : (s.pt p).rate = some m) (hres : m.restore)
    (hopen : m.answered = false) : s.restoreDue p = some (m.at0 + fineOfUs 1000) := by
  rw [State.restoreDue, hrate]
  simp only [hres, hopen, Bool.not_false, Bool.and_self, if_true, ctlLimit]

section
variable {p : Fin 64} {s : State} (dt : Nat)

/-- Where no RATE_RESTORE is out, time passes to the limit of the first request. -/
theorem exec_controlRequestRetry_request {d : Nat} (hrestore : s.restoreDue p = none) (hdue : s.ctlDue p = some d) :
    exec (.controlRequestRetry p dt) s = .next ((s.passTo dt d).ctlRetry p) := by
  have hrestore' : (s.passTo dt d).restoreDue p = none := hrestore
  have hdue' : (s.passTo dt d).ctlDue p = some d := hdue
  show execControlRequestRetry p dt s = _
  simp [execControlRequestRetry, hrestore, hdue, hrestore', hdue', s.le_fine_passTo dt d]

/-- Where no request is out, time passes to the limit of the RATE_RESTORE. -/
theorem exec_controlRequestRetry_restore {d : Nat} (hrestore : s.restoreDue p = some d) (hdue : s.ctlDue p = none) :
    exec (.controlRequestRetry p dt) s = .next ((s.passTo dt d).restoreRetry p) := by
  have hrestore' : (s.passTo dt d).restoreDue p = some d := hrestore
  have hdue' : (s.passTo dt d).ctlDue p = none := hdue
  show execControlRequestRetry p dt s = _
  simp [execControlRequestRetry, hrestore, hdue, hrestore', hdue', s.le_fine_passTo dt d]

end

section
variable {s : State} {p : Nat}

theorem State.ctlRetry_again {c : CtlReq} {rest : List CtlReq} (hctl : (s.cp p).ctl = c :: rest) (hsent : c.sent ≤ 3) :
    Counted .CAP_CNT_CTRL_RETRY p s (s.ctlRetry p) ∧ (s.ctlRetry p).fine = s.fine ∧
      ((s.ctlRetry p).cp p).ctl = { c with sent := c.sent + 1, at0 := s.fine } :: rest := by
  rw [State.ctlRetry, hctl]
  dsimp only
  rw [if_pos hsent]
  have hsend := State.sendRequest_changes (s.setCp p { s.cp p with ctl := { c with sent := c.sent + 1, at0 := s.fine } :: rest }) p
    c.id c.op c.payload
  refine ⟨((State.counted_bump ..).after hsend List.not_mem_nil).after (s.setCp_changes p _) List.not_mem_nil,
    hsend.parts .fine (by decide), ?_⟩
  rw [State.cp_bump, hsend.cp (by decide), State.cp_setCp]

/-- After three repeats a request leaves the list, and its mailbox shows TIMEOUT. -/
theorem State.ctlRetry_gives_up {c : CtlReq} (hctl : (s.cp p).ctl = [c]) (hsent : 4 ≤ c.sent) :
    (s.ctlRetry p).fld F.CAP_CTRL_STATUS_BUSY c.box = 0 ∧ (s.ctlRetry p).fld F.CAP_CTRL_STATUS_TIMEOUT c.box = 1 ∧
      ((s.ctlRetry p).cp p).ctl = [] := by
  rw [State.ctlRetry, hctl]
  dsimp only
  rw [if_neg (Nat.not_le.2 hsent), State.ctlStart_nil (by rw [State.cp_setFld, State.setBusy, State.cp_setFld, State.cp_setFld,
    State.cp_setCp])]
  refine ⟨?busy, State.fld_setFld_same _ 1 _ 0 (by decide), ?list⟩
  case busy =>
    rw [(State.keepsFld_setFld _ _ _ _ (by decide)).fld, State.fld_setBusy]
    rfl
  case list => rw [State.cp_setFld, State.setBusy, State.cp_setFld, State.cp_setFld, State.cp_setCp]

theorem State.restoreRetry_again {m : RateMsg} (hrate : (s.pt p).rate = some m) (hsent : m.sent ≤ 3) :
    Counted .CAP_CNT_CTRL_RETRY p s (s.restoreRetry p) ∧ (s.restoreRetry p).fine = s.fine ∧
      ((s.restoreRetry p).pt p).rate = some { m with sent := m.sent + 1, at0 := s.fine } := by
  rw [State.restoreRetry, hrate]
  dsimp only
  rw [if_pos hsent]
  have hsend := State.sendRequest_changes (s.setPt p { s.pt p with rate := some { m with sent := m.sent + 1, at0 := s.fine } }) p
    m.id 0x11 (bytesLE 2 m.mask)
  refine ⟨((State.counted_bump ..).after hsend List.not_mem_nil).after (s.setPt_changes p _) List.not_mem_nil,
    hsend.parts .fine (by decide), ?_⟩
  rw [State.pt_bump, (State.sendRequest_sentOnly ..).pt (·.rate) (fun _ => rfl), State.pt_setPt]

end

/-- Settles O29: each command is its `exec_` lemma, and what it does to the mailbox and to the list of the port is said by the lemma
of its operation. -/
theorem captureControl : Obligations.CaptureControl := by
  unfold Obligations.CaptureControl
  refine ⟨fun who box s hopen hflr hidle hlvl hdown => ⟨_, exec_ctrlGo_down hopen hflr hidle hlvl hdown, rfl⟩,
    fun who box c rest s hopen hflr hidle hlvl hup hw hop hop' hctl hsent => ?go,
    fun p pkt c s hready hup hhead hok hid hctl hsent hc => ?answer,
    fun p pkt s hready hup hhead hok hid hctl => ⟨_, exec_controlResponse_orphan hready hup hhead hok hid hctl,
      (State.counted_bump ..).after (s.takePacket_changes p pkt) (by decide)⟩,
    fun p dt c rest s hrestore hctl hpos hsent => ?again,
    fun p dt c s hrestore hctl hsent => ⟨_, exec_controlRequestRetry_request dt hrestore (State.ctlDue_sent hctl (by omega)),
      State.ctlRetry_gives_up hctl hsent⟩,
    fun p dt m s hrate hres hopen hsent hctl => ?restore⟩
  case go =>
    have hrun := exec_ctrlGo_idle hopen hflr hidle hlvl
    rw [if_neg (by simp [hup, hw, hop, hop'])] at hrun
    refine ⟨_, hrun, ?_⟩
    rw [State.ctlStart_sent (c := c) (by rw [State.cp_setCp, hctl]; rfl) hsent]
    exact ⟨by rw [State.fld_setCp]; exact s.fld_setBusy box true, _, by rw [State.cp_setCp, hctl], rfl, rfl, rfl⟩
  case answer =>
    obtain ⟨data, hrun⟩ := exec_controlResponse_answers hready hup hhead hok hid hctl hsent hc
    have hstatus : pkt.info.toNat / 256 < 256 := by omega
    obtain ⟨hbusy, hdone, hcode, hlist⟩ := (s.takePacket p pkt).2.controlDone_shows p c [] hstatus data
    rw [State.ctlStart_nil hlist] at hrun
    exact ⟨_, hrun, hbusy, hdone, hcode, hlist⟩
  case again =>
    obtain ⟨hcounted, hfine, hlist⟩ := State.ctlRetry_again (s := s.passTo dt (c.at0 + fineOfUs 1000)) hctl hsent
    refine ⟨_, exec_controlRequestRetry_request dt hrestore (State.ctlDue_sent hctl (by omega)), hcounted, ?_, ?_⟩
    · rw [hfine]; exact hlist
    · rw [hfine]; exact s.le_fine_passTo dt _
  case restore =>
    obtain ⟨hcounted, hfine, hlist⟩ := State.restoreRetry_again (s := s.passTo dt (m.at0 + fineOfUs 1000)) hrate hsent
    refine ⟨_, exec_controlRequestRetry_restore dt (State.restoreDue_out hrate hres hopen) (State.ctlDue_nil hctl), hcounted,
      ?_, ?_⟩
    · rw [hfine]; exact hlist
    · rw [hfine]; exact s.le_fine_passTo dt _

end
end Sys2Proof.Machine

/-! # Triggers and compare units (O30) -/

namespace Sys2Proof.Machine
section
set_option Elab.async false

/-! ## Causes (R114 to R116, R119) -/

theorem exec_soft_may {who : Requester} {p : Fin 64} {s : State} (hmay : s.mayWrite who .CAP_TRIG_CFG p) :
    exec (.soft who p) s = .next (State.trigCause 5 s.fine false p s) := congrArg Host.Outcome.next (s.writeGate_may _ hmay)

/-- A merged cause is counted, and the block that is queued stays. -/
theorem State.trigCause_merged {s : State} {p : Nat} (kind at0 : Nat) (late : Bool) (hm : s.trigMode) (hw : s.portWidth p ≠ 0)
    (hq : (s.cp p).queued.isSome) : Counted .CAP_CNT_TRIG_MERGED p s (State.trigCause kind at0 late p s) ∧
      (State.trigCause kind at0 late p s).cp p = s.cp p := by
  have hstrobe := s.strobePort_changes p at0
  rw [State.trigCause_merges kind at0 late hm hw hq]
  exact ⟨(State.counted_bump ..).after hstrobe (by decide), by rw [State.cp_bump, hstrobe.cp (by decide)]⟩

/-- The position of a path limited to what has been marked, as a difference. -/
theorem passPos_eq (marks : Bool) (a d : Int) : (if marks then a - d else a) = a - if marks then d else 0 := by
  cases marks
  · exact (Int.sub_zero a).symm
  · rfl

/-- SCAN_PATH_CAUSE where the path of the port's beam has passed a multiple of the pitch. -/
theorem exec_scanPathCause_passes {p : Fin 64} {s : State} (dt : Nat) (hsrc : s.fld F.CAP_TRIG_CFG_SOURCE p = 3)
    (hbeam : s.hasBeam (s.fld F.CAP_TRIG_CFG_SRC_INDEX p))
    (hmarks : s.flag F.CAP_TRIG_CFG_MARKS_ONLY p = false ∨ s.flag F.BCH_STATUS_EMIT (s.fld F.CAP_TRIG_CFG_SRC_INDEX p))
    (hpass : s.passNow p (s.fine + dt) ≠ (s.cp p).passes) :
    exec (.scanPathCause p dt) s = .next (State.trigCause 3 (s.fine + dt) false p
      ((s.advance dt).setCp p { s.cp p with passes := s.passNow p (s.fine + dt) })) := by
  have hbeam' : (s.advance dt).hasBeam (s.fld F.CAP_TRIG_CFG_SRC_INDEX p) = true := hbeam
  have hmark : (s.flag F.CAP_TRIG_CFG_MARKS_ONLY p && !s.flag F.BCH_STATUS_EMIT (s.fld F.CAP_TRIG_CFG_SRC_INDEX p)) = false := by
    obtain h | h := hmarks <;> simp [h]
  show execScanPathCause p dt s = _
  unfold execScanPathCause
  simp only [State.fld_advance, hsrc, hbeam', ne_eq, not_true_eq_false, decide_false, Bool.not_true, Bool.or_self, Bool.false_eq_true,
    if_false, passPos_eq]
  exact congrArg Host.Outcome.next (if_neg (Bool.not_eq_true _ ▸ Bool.or_eq_false_iff.2 ⟨decide_eq_false hpass, hmark⟩))

/-! ## The trigger block (R119, R120) -/

/-- The trigger block that port `p` sends for the queued cause `q`. -/
def State.nextTrig (s : State) (p : Nat) (q : Trig) : Trig := { q with seq := (s.cp p).trigSeq % 256, wait := true, at0 := s.fine }

/-- The bytes of a trigger block (R119). -/
def Trig.block (t : Trig) : List Byte := withCrc [0x4B, BitVec.ofNat 8 t.seq, BitVec.ofNat 8 t.kind]

/-- The triggers that a port keeps of those it has sent, newest first: the newest 16, and older ones that wait for their ACK. -/
def keptTrigs (l : List Trig) : List Trig := l.take 16 ++ (l.drop 16).filter (·.wait)

/-- Port `p` after a trigger block has been sent: the next TRIG_SEQ, the instant, and the triggers that are kept. -/
def State.afterTrig (s : State) (p : Nat) (q : Trig) : CapPort :=
  { s.cp p with queued := none, trigSeq := ((s.cp p).trigSeq % 256 + 1) % 256, trigAt := some s.fine,
                sent := keptTrigs (s.nextTrig p q :: (s.cp p).sent) }

/-- Port `p` sends the trigger block of `q` on port lane 0, then the segments that have waited for it. -/
def State.sendTrig (s : State) (p : Nat) (q : Trig) : State :=
  (((s.setCp p (s.afterTrig p q)).sendRow p (fun i => if i = 0 then some (s.nextTrig p q).block else none)).flushSegs p).bump
    .CAP_CNT_TRIG_SENT p

theorem State.sendTrig_shows (s : State) (p : Nat) (q : Trig) :
    (s.sendTrig p q).cp p = s.afterTrig p q ∧ Counted .CAP_CNT_TRIG_SENT p s (s.sendTrig p q) := by
  have hsend := State.sendRow_changes (s.setCp p (s.afterTrig p q)) p (fun i => if i = 0 then some (s.nextTrig p q).block else none)
  have hrow := hsend.trans (State.flushSegs_changes _ p)
  refine ⟨by rw [State.sendTrig, State.cp_bump, hrow.cp (by decide), State.cp_setCp], ?_⟩
  exact ((State.counted_bump ..).after hrow List.not_mem_nil).after (s.setCp_changes p _) List.not_mem_nil

theorem exec_triggerBlockSend_queued {p : Fin 64} {q : Trig} {s : State} (dt : Nat) (hm : s.trigMode) (hup : s.portUp p)
    (hq : (s.cp p).queued = some q) : exec (.triggerBlockSend p dt) s = .next ((s.advance dt).sendTrig p q) := by
  have hm' : (s.advance dt).trigMode = true := hm
  have hup' : (s.advance dt).portUp p = true := hup
  have hq' : ((s.advance dt).cp p).queued = some q := hq
  show execTriggerBlockSend p dt s = _
  unfold execTriggerBlockSend
  dsimp only
  rw [hq', hm', hup']
  rfl

/-- The newest 16 triggers are all kept. -/
theorem take_keptTrigs (l : List Trig) : (keptTrigs l).take 16 = l.take 16 := by
  unfold keptTrigs
  by_cases h : l.length ≤ 16
  · rw [List.drop_eq_nil_of_le h, List.filter_nil, List.append_nil, List.take_take, Nat.min_self]
  · rw [List.take_append_of_le_length (by simp; omega), List.take_take, Nat.min_self]

/-! ## ACKs (R121) -/

theorem exec_triggerAck_good {p : Fin 64} {s : State} (seq code : BitVec 8) (hready : s.ready) (hup : s.portUp p)
    (hhead : s.headOk p 0) :
    ∃ u : State, exec (.triggerAck p seq code) s =
      .next (if code = 1 then (u.setCp p { s.cp p with sent := ackOf seq.toNat (s.cp p).sent }).bump .CAP_CNT_TRIG_REFUSED p
        else u.setCp p { s.cp p with sent := ackOf seq.toNat (s.cp p).sent }) ∧ Changes [.port] [] s u :=
  ⟨_, congrArg Host.Outcome.next (State.onPacket_good 0 _ hready hup hhead), s.popPacket_changes p 0⟩

/-- Where a trigger of the TRIG_SEQ is still waiting, one wait ends. -/
theorem countP_ackOf {seq : Nat} {l : List Trig} {q : Trig} (h : l.find? (fun t => t.seq = seq && t.wait) = some q) :
    (ackOf seq l).countP (·.wait) + 1 = l.countP (·.wait) := by
  induction l with
  | nil => simp at h
  | cons t l ih =>
    rw [ackOf]
    by_cases ht : (t.seq = seq && t.wait) = true
    · rw [if_pos ht, List.countP_cons, List.countP_cons, ((Bool.and_eq_true _ _).mp ht).2]
      simp
    · rw [if_neg ht, List.countP_cons, List.countP_cons, ← ih (by simpa [List.find?, ht] using h)]
      omega

/-- What is dropped from the list of triggers does not wait. -/
theorem countP_keptTrigs (l : List Trig) : (keptTrigs l).countP (·.wait) = l.countP (·.wait) := by
  have hall : l.countP (·.wait) = (l.take 16 ++ l.drop 16).countP (·.wait) := by rw [List.take_append_drop]
  rw [hall, keptTrigs, List.countP_append, List.countP_append, List.countP_filter]
  simp only [Bool.and_self]

theorem exec_triggerAckTimeout_waiting {p : Fin 64} {seq : BitVec 8} {q : Trig} {s : State} (dt : Nat)
    (hq : (s.cp p).sent.reverse.find? (fun t => t.seq = seq.toNat && t.wait) = some q) :
    exec (.triggerAckTimeout p dt seq) s = .next (((s.passTo dt (q.at0 + fineOfUs 10)).setCp p
      { s.cp p with sent := keptTrigs (ackOf seq.toNat (s.cp p).sent.reverse).reverse }).bump .CAP_CNT_TRIG_NOACK p) := by
  show execTriggerAckTimeout p dt seq s = _
  rw [execTriggerAckTimeout, hq]
  rfl

/-! ## Pulses (R123, R134) -/

theorem exec_trigoPulseEnd_running {pin : Fin 8} {e : Nat} {s : State} (dt : Nat) (he : tblGet none s.capt.pins pin.val = some e) :
    exec (.trigoPulseEnd pin dt) s = .next (State.pinEnd pin (s.passTo dt e)) := by
  show execTrigoPulseEnd pin dt s = _
  rw [execTrigoPulseEnd, he]

/-- A pulse that ends leaves its pin inactive. -/
theorem State.pinEnd_running {s : State} {pin : Nat} (h : (tblGet none s.capt.pins pin).isSome) :
    tblGet none (State.pinEnd pin s).capt.pins pin = none ∧ (State.pinEnd pin s).fine = s.fine ∧
      Emits [.trigo pin false (s.pinLevel pin false) s.fine] s (State.pinEnd pin s) := by
  rw [State.pinEnd, if_pos h]
  exact ⟨tblGet_set_self s.capt.pins pin none, rfl, rfl⟩

/-! ## Compare units (R115, R134) -/

theorem exec_compareArm_may {who : Requester} {n : Fin 16} {s : State} (hopen : s.unitOpen 1) (hflr : s.flrBars who = false)
    (hlvl : 2 ≤ s.levelOf who) : exec (.compareArm who n) s = .next (s.cmpArm n) :=
  congrArg Host.Outcome.next ((if_pos hopen).trans (State.gated_may _ hflr hlvl))

/-- A unit in MODE 1 that has just been armed goes for the first entry of its list. -/
theorem State.cmpNext_armed {s : State} {n : Nat} (hmode : s.fld F.CAP_ENC_CMP_CFG_MODE n = 1)
    (hlen : s.fld F.CAP_ENC_CMP_CFG_LENGTH n ≠ 0) (hbase : s.fld F.CAP_ENC_CMP_CFG_BASE n < 16384) :
    s.cmpNext n { on := true } = some (s.memRd (cmpAddr (s.fld F.CAP_ENC_CMP_CFG_BASE n))) := by
  unfold State.cmpNext
  simp [hmode, hlen, hbase]

theorem State.cmpArm_first {s : State} {n : Nat} (hmode : s.fld F.CAP_ENC_CMP_CFG_MODE n = 1)
    (hlen : s.fld F.CAP_ENC_CMP_CFG_LENGTH n ≠ 0) (hbase : s.fld F.CAP_ENC_CMP_CFG_BASE n < 16384) :
    s.cmpArm n = (s.setCmp n { on := true }).wr .CAP_ENC_CMP_NEXT (s.memRd (cmpAddr (s.fld F.CAP_ENC_CMP_CFG_BASE n))) n := by
  have hnext : (s.setCmp n { on := true }).cmpNext n { on := true } = _ :=
    State.cmpNext_armed (s := s.setCmp n { on := true }) hmode hlen hbase
  rw [State.cmpArm, State.cmpShow, State.cmpUnit_setCmp, hnext]
  rfl

/-- Settles O30: each command is its `exec_` lemma, and what a cause, an answer, a pulse or a unit leaves is said by the lemma of its
operation. -/
theorem captureTriggers : Obligations.CaptureTriggers := by
  unfold Obligations.CaptureTriggers
  refine ⟨fun who p s hmay hm hw hidle hout hup => ?soft,
    fun who p s hmay hm hw hq => ?merged,
    fun p dt s hm hw hidle hout hup hsrc hbeam hmarks hpass => ?path,
    fun p dt q s hm hup hq => ?sent,
    fun p seq code s hready hup hhead => ?ack,
    fun p dt seq q s hq => ?noack,
    fun pin dt e s he => ?pulse,
    fun who n s hopen hflr hlvl hmode hlen hbase => ?arm⟩
  case soft =>
    obtain ⟨hq, hc, ht⟩ := hidle
    exact ⟨_, exec_soft_may hmay, congrArg (·.queued) (State.trigCause_queues 5 s.fine false hm hw hq hc ht hout hup)⟩
  case merged =>
    obtain ⟨hcounted, hcp⟩ := State.trigCause_merged 5 s.fine false hm hw hq
    exact ⟨_, exec_soft_may hmay, hcounted, congrArg (·.queued) hcp⟩
  case path =>
    obtain ⟨hq, hc, ht⟩ := hidle
    have hcp := State.trigCause_queues (s := (s.advance dt).setCp p { s.cp p with passes := s.passNow p (s.fine + dt) }) (p := p)
      3 (s.fine + dt) false hm hw (by rw [State.cp_setCp]; exact hq) (by rw [State.cp_setCp]; exact hc)
      (by rw [State.cp_setCp]; exact ht) hout hup
    exact ⟨_, exec_scanPathCause_passes dt hsrc hbeam hmarks hpass, congrArg (·.queued) hcp,
      (congrArg (·.passes) hcp).trans (by rw [State.cp_setCp])⟩
  case sent =>
    obtain ⟨hcp, hcounted⟩ := (s.advance dt).sendTrig_shows p q
    refine ⟨_, exec_triggerBlockSend_queued dt hm hup hq, congrArg (·.queued) hcp, ?_, congrArg (·.trigAt) hcp, ?_,
      hcounted.after (s.advance_frame dt) List.not_mem_nil⟩
    · rw [hcp, State.afterTrig, State.cp_advance]
    · rw [hcp]
      exact take_keptTrigs _
  case ack =>
    obtain ⟨u, hrun, hpop⟩ := exec_triggerAck_good seq code hready hup hhead
    refine ⟨_, hrun, ?_, fun hcode => ?_⟩
    · split
      · rw [State.cp_bump, State.cp_setCp]
      · rw [State.cp_setCp]
    · rw [if_pos hcode]
      exact ((State.counted_bump ..).after (u.setCp_changes p _) List.not_mem_nil).after hpop List.not_mem_nil
  case noack =>
    refine ⟨_, exec_triggerAckTimeout_waiting dt hq,
      ((State.counted_bump ..).after (State.setCp_changes ..) List.not_mem_nil).after (s.passTo_changes dt _) List.not_mem_nil,
      s.le_fine_passTo dt _, ?_⟩
    rw [State.cp_bump, State.cp_setCp, countP_keptTrigs, List.countP_reverse, countP_ackOf hq, List.countP_reverse]
  case pulse =>
    have hpin : (tblGet none (s.passTo dt e).capt.pins pin.val).isSome := Option.isSome_iff_exists.2 ⟨e, he⟩
    obtain ⟨hidle, hfine, hemits⟩ := State.pinEnd_running hpin
    refine ⟨_, exec_trigoPulseEnd_running dt he, hidle, hfine, ?_⟩
    rw [hfine]
    exact hemits
  case arm =>
    refine ⟨_, exec_compareArm_may hopen hflr hlvl, ?_⟩
    rw [State.cmpArm_first hmode hlen hbase]
    exact ⟨State.cmpUnit_setCmp .., State.rd_wr_self ..⟩

end
end Sys2Proof.Machine

/-! # What each command changes, and the canonical form after each step (O4, O5, O10) -/

namespace Sys2Proof.Machine
section
-- One theorem at a time: the whole text is compiled under a memory limit.
set_option Elab.async false

/-! ## Frames of further updates -/

/-- Of two results the one that a condition picks: what is said of both states is said of its state. -/
theorem Changes.snd_ite {P : List Part} {R : List Reg} {s : State} {α : Type} {c : Prop} [Decidable c] {a b : α × State}
    (ha : Changes P R s a.2) (hb : Changes P R s b.2) : Changes P R s (if c then a else b).2 := by
  split <;> assumption

theorem State.bumpBy_frame (s : State) (r : Reg) (n i j : Nat) : Changes [] [r] s (s.bumpBy r n i j) :=
  .bumpBy (.refl ..) (List.mem_singleton_self _)

theorem State.memWr_frame (s : State) (a : Nat) (v : Word) : Changes [.bar0] [] s (s.memWr a v) :=
  .memWr (.refl ..) (List.mem_singleton_self _)

theorem State.stage_frame (s : State) (l : Loc) (v : Word) : Changes [.staged] [] s (s.stage l v) :=
  .stage (.refl ..) (List.mem_singleton_self _)

/-! ## Frames of the commands that go on with a step of their own

Each takes the frame of the step and asks that it have room for what comes before and after it. -/

section
variable {P : List Part} {R : List Reg}

/-- What the motion executed up to now may change (R315). -/
def motionParts : List Part := [.fine, .outbox, .sht, .bch, .beams, .scn, .hal]
def motionRegs : List Reg :=
  [.SHT_STATUS, .SHT_I_STATE, .SHT_LAST_OUT, .SHT_LAST_FRAME, .SHT_LAST_DELAY, .SHT_DELAY_MAX, .SHT_CNT_FALLBACK,
    .SHT_CNT_SUPERSEDED, .SHT_CNT_LOG_DROP, .BCH_STATUS, .SCN_STATUS, .SCN_HALT_RECORD, .SCN_HALT_OFFSET, .SCN_RECORD,
    .SCN_CNT_RECORDS, .SCN_CNT_HALT, .HAL_CNT_QUEUE_DROP]

theorem State.refreshed_frame (s : State) (n dt : Nat) : Changes motionParts motionRegs s ((s.advance dt).refresh n) :=
  (s.advance_frame dt).within.op (State.refresh_changes ..)

theorem State.beamAt_frame {s : State} {n dt : Nat} {k : State → State} (hk : ∀ x, Changes P R x (k x))
    (hp : motionParts ⊆ P := by decide) (hr : regMask motionRegs &&& regMask R = regMask motionRegs := by decide +kernel) :
    Changes P R s (s.beamAt n dt k) :=
  .ite ((s.advance_frame dt).mono (List.Subset.trans (by decide) hp) (List.nil_subset _))
    (((s.refreshed_frame n dt).within hp hr).trans (hk _))

theorem State.onBeam_frame {s : State} {n dt : Nat} {k : State → State} (hk : ∀ x, Changes P R x (k x))
    (hp : motionParts ⊆ P := by decide) (hr : regMask motionRegs &&& regMask R = regMask motionRegs := by decide +kernel) :
    Changes P R s (s.onBeam n dt k) :=
  .ite ((s.advance_frame dt).mono (List.Subset.trans (by decide) hp) (List.nil_subset _))
    (((s.refreshed_frame n dt).within hp hr).trans (hk _))

theorem State.phaseEnd_frame {s : State} {n dt phase : Nat} {k : Pause → Nat → State → State}
    (hk : ∀ p due x, Changes P R x (k p due x)) (hp : motionParts ⊆ P := by decide)
    (hr : regMask motionRegs &&& regMask R = regMask motionRegs := by decide +kernel) :
    Changes P R s (s.phaseEnd n dt phase k) := by
  refine State.onBeam_frame (fun x => ?_) hp hr
  split
  · exact .ite (((x.passTo_changes ..).mono (List.Subset.trans (by decide) hp) (List.nil_subset _)).trans (hk ..)) (.refl ..)
  · exact .refl ..

/-- A record that is taken may halt its chain or end a wait, whose frame lists every register. -/
theorem State.takeNow_frame {s : State} {n : Fin 12} {i : Instr} {layerEnd : Bool} {k : Nat → State → State}
    (hk : ∀ j x, Changes P allRegs x (k j x)) (hp : motionParts ⊆ P := by decide) :
    Changes P allRegs s (s.takeNow n i layerEnd k) := by
  have room {Q : List Part} (hq : Q ⊆ motionParts) : Q ⊆ P := List.Subset.trans hq hp
  unfold State.takeNow
  extract_lets x stream x1 late x2 s1 s2 s3
  have h1 : Changes P allRegs s s1 :=
    ((s.setSc_changes n x2).mono (room (by decide)) (subset_allRegs _)).andThen (State.streamLevel_changes ..) (room (by decide))
      (subset_allRegs _)
  have h2 : Changes P allRegs s s2 := .ite (h1.setFld (mem_allRegs _)) h1
  have h3 : Changes P allRegs s s3 :=
    (Changes.ite h2 (h2.trans (hk ..))).andThen (State.overflowHalt_changes ..) (room (by decide)) (subset_allRegs _)
  exact .ite ((s.cleanHalt_changes ..).mono (room (by decide)) (subset_allRegs _))
    (.ite (.refl ..) (.ite (h3.andThen (State.clearCause_changes ..) (room (by decide)) (subset_allRegs _)) h3))

theorem State.takeRecord_frame {s : State} {n : Fin 12} {i : Instr} {k : Nat → State → State}
    (hk : ∀ j x, Changes P allRegs x (k j x)) (hp : motionParts ⊆ P := by decide) :
    Changes P allRegs s (s.takeRecord n i k) := by
  have room {Q : List Part} (hq : Q ⊆ motionParts) : Q ⊆ P := List.Subset.trans hq hp
  have h1 : Changes P allRegs s (s.refresh n) := (s.refresh_changes n).mono (room (by decide)) (subset_allRegs _)
  have h2 := h1.andThen (State.awaitPlanner_changes _ n) (room (by decide)) (subset_allRegs _)
  exact .ite (.refl ..) (.ite h1 (.ite (h2.trans (State.takeNow_frame hk hp)) h2))

theorem State.takeAtRest_frame {s : State} {n : Fin 12} {i : Instr} {layerEnd : Bool} {k : Nat → State → State}
    (hk : ∀ j x, Changes P allRegs x (k j x)) (hp : motionParts ⊆ P := by decide) :
    Changes P allRegs s (s.takeAtRest n i layerEnd k) := by
  have room {Q : List Part} (hq : Q ⊆ motionParts) : Q ⊆ P := List.Subset.trans hq hp
  have h1 : Changes P allRegs s (s.refresh n) := (s.refresh_changes n).mono (room (by decide)) (subset_allRegs _)
  have h2 := (h1.andThen (State.finishPlan_changes _ n) (room (by decide)) (subset_allRegs _)).andThen
    (State.awaitPlanner_changes _ n) (room (by decide)) (subset_allRegs _)
  refine .ite (.refl ..) (.ite h1 (.ite (h1.andThen (State.clearCause_changes ..) (room (by decide)) (subset_allRegs _))
    (.ite h2 (h2.trans (State.takeNow_frame (fun j x => ?_) hp)))))
  exact (((x.setSc_changes ..).mono (room (by decide)) (subset_allRegs _)).wr (mem_allRegs _)).trans (hk ..)

theorem State.scnCmd_frame {s : State} {who : Requester} {n : Nat} {k : State → State} (hk : ∀ x, Changes P R x (k x))
    (hp : refusedParts ⊆ P := by decide) (hr : regMask refusedRegs &&& regMask R = regMask refusedRegs := by decide +kernel)
    (hmp : motionParts.tail ⊆ P := by decide)
    (hmr : regMask motionRegs &&& regMask R = regMask motionRegs := by decide +kernel) : Changes P R s (s.scnCmd who n k) := by
  have h1 : Changes P R s (s.refresh n) := (s.refresh_changes n).within (List.Subset.trans (by decide) hmp) hmr
  exact State.writeGate_frame (.ite (h1.trans (hk _)) h1) hp hr

theorem State.scnRestart_frame {s : State} {who : Requester} {n : Nat} {k : State → State} (hk : ∀ x, Changes P R x (k x))
    (hp : refusedParts ⊆ P := by decide) (hr : regMask refusedRegs &&& regMask R = regMask refusedRegs := by decide +kernel)
    (hmp : motionParts.tail ⊆ P := by decide)
    (hmr : regMask motionRegs &&& regMask R = regMask motionRegs := by decide +kernel) :
    Changes P R s (s.scnRestart who n k) := by
  have hstatus : Reg.SCN_STATUS ∈ R := subset_regs hmr (by decide)
  refine State.scnCmd_frame (fun x => .ite (.refl ..) (.ite (.setFld (.refl ..) hstatus) ?_)) hp hr hmp hmr
  exact (((x.setSc_changes ..).mono (List.Subset.trans (by decide) hmp) (List.nil_subset _)).setFld hstatus).trans (hk _)

theorem State.onLum_frame {s : State} {n dt due : Nat} {k : State → State} (hk : ∀ x, Changes P R x (k x))
    (hp : [.fine, .outbox, .lum] ⊆ P := by decide)
    (hr : regMask [.LUM_CH_STATUS] &&& regMask R = regMask [.LUM_CH_STATUS] := by decide +kernel) :
    Changes P R s (s.onLum n dt due k) := by
  have hnow : Changes [.fine, .outbox, .lum] [.LUM_CH_STATUS] s ((s.passTo dt due).lumGate n) :=
    (s.passTo_changes ..).within.op (State.lumGate_changes ..)
  exact .ite ((s.advance_frame dt).mono (List.Subset.trans (by decide) hp) (List.nil_subset _)) ((hnow.within hp hr).trans (hk _))

theorem State.lseqIssue_frame {s k : State} {i : LumOp} (hk : Changes P R s k) (hp : [.proj] ⊆ P := by decide)
    (hr : regMask [.LUM_PROJ_STATUS] &&& regMask R = regMask [.LUM_PROJ_STATUS] := by decide +kernel) :
    Changes P R s (s.lseqIssue i k) :=
  .ite (.refl ..) (.ite ((s.lseqErr_changes).within hp hr) (.ite hk (.refl ..)))

theorem State.seqIssue_frame {s : State} {q : Nat} {i : SeqOp} {k : State → State} (hk : ∀ x, Changes P R x (k x))
    (hp : [.fine, .hal] ⊆ P := by decide)
    (hr : regMask [.HAL_SEQ_RUN, .HAL_SEQ_ERR] &&& regMask R = regMask [.HAL_SEQ_RUN, .HAL_SEQ_ERR] := by decide +kernel) :
    Changes P R s (s.seqIssue q i k) := by
  have hslot : Changes P R s (s.seqSlot q) := (s.seqSlot_changes q).mono hp (List.nil_subset _)
  exact .ite (.refl ..) (.ite (hslot.op (State.seqErr_changes ..) (List.Subset.trans (by decide) hp) hr)
    (.ite (hslot.trans (hk _)) (.refl ..)))

theorem State.onInst_frame {s : State} {d p dt due : Nat} {k : State → State} (hk : ∀ x, Changes P R x (k x))
    (hp : [.fine] ⊆ P := by decide)
    (hr : regMask [.TIM_DOM_STATUS] &&& regMask R = regMask [.TIM_DOM_STATUS] := by decide +kernel) :
    Changes P R s (s.onInst d p dt due k) := by
  have hnow : Changes P R s (s.passTo dt due) := (s.passTo_changes ..).mono hp (List.nil_subset _)
  exact .ite ((s.advance_frame dt).mono hp (List.nil_subset _))
    ((hnow.op (State.preMasterEnd_changes ..) (List.nil_subset _) hr).trans (hk _))

theorem State.ptpIn_frame {s : State} {p dt : Nat} {m : PtpMsg} {k : Nat → State → State} (hk : ∀ d x, Changes P R x (k d x))
    (hp : [.fine] ⊆ P := by decide)
    (hr : regMask [.TIM_PORT_CNT_PTP, .TIM_PORT_CNT_DISCARD] &&& regMask R =
      regMask [.TIM_PORT_CNT_PTP, .TIM_PORT_CNT_DISCARD] := by decide +kernel) :
    Changes P R s (s.ptpIn p dt m k) := by
  have hnow : Changes P R s (s.advance dt) := (s.advance_frame dt).mono hp (List.nil_subset _)
  have counted (r : Reg) (h : r ∈ [.TIM_PORT_CNT_PTP, .TIM_PORT_CNT_DISCARD]) : Changes P R s ((s.advance dt).bump r p) :=
    hnow.bump (subset_regs hr h)
  refine .ite hnow ?_
  split
  · exact counted _ (by decide)
  · exact (counted _ (by decide)).trans (hk ..)

theorem State.bootOp_frame {s : State} {who : Requester} {k : State → State} (hk : Changes P R s (k s))
    (hp : refusedParts ⊆ P := by decide)
    (hr : regMask refusedRegs &&& regMask R = regMask refusedRegs := by decide +kernel)
    (hb : regMask [.BOOT_STATUS] &&& regMask R = regMask [.BOOT_STATUS] := by decide +kernel) :
    Changes P R s (s.bootOp who k) :=
  State.writeGate_frame (.ite ((s.opResult_changes ..).within (List.nil_subset _) hb) hk) hp hr

/-- What a message on its way in may change before it acts (R412, R421, R427). -/
def inboundParts : List Part := [.outbox, .pceCfg, .pce]
def inboundRegs : List Reg := [.PCE_STATUS, .PCE_CNT_MSIX_DROP]

theorem State.inbound_frame {s : State} {m : Tlp} {k : State → State} (hk : ∀ x, Changes P R x (k x))
    (hp : inboundParts ⊆ P := by decide)
    (hr : regMask inboundRegs &&& regMask R = regMask inboundRegs := by decide +kernel) :
    Changes P R s (s.inbound m k) := by
  have hwake : Changes inboundParts inboundRegs s s.linkWake := s.linkWake_changes.within
  have hnoted (e : Nat) : Changes inboundParts inboundRegs s ((s.linkWake.aerNote e).pceEvent) :=
    (hwake.op (State.aerNote_changes ..)).op (State.pceEvent_changes ..)
  unfold State.inbound
  split
  · exact (hwake.within hp hr).trans (hk _)
  · exact (hwake.within hp hr).trans (hk _)
  · exact ((hnoted _).within hp hr).trans (hk _)
  · exact (hwake.op (State.aerLog_changes ..)).within hp hr

theorem State.memReq_frame {s k : State} {posted : Bool} {header : List Word} (hk : Changes P R s k)
    (hp : inboundParts ⊆ P := by decide)
    (hr : regMask inboundRegs &&& regMask R = regMask inboundRegs := by decide +kernel) :
    Changes P R s (s.memReq posted header k) :=
  .ite ((s.unsupportedReq_changes ..).within hp hr) hk

theorem State.flrGate_frame {s k : State} {who : Requester} {posted : Bool} (hk : Changes P R s k)
    (hp : refusedParts ⊆ P := by decide)
    (hr : regMask inboundRegs &&& regMask R = regMask inboundRegs := by decide +kernel) :
    Changes P R s (s.flrGate who posted k) := by
  have hrefused (posted : Bool) (header : List Word) : Changes refusedParts inboundRegs s
      ((s.freeBits 128).2.unsupportedReq posted header) := (s.freeBits_changes 128).within.op (State.unsupportedReq_changes ..)
  exact .ite ((hrefused ..).within hp hr) hk

theorem State.gated_frame {s k : State} {who : Requester} {lvl : Nat} (hk : Changes P R s k)
    (hp : refusedParts ⊆ P := by decide)
    (hr : regMask refusedRegs &&& regMask R = regMask refusedRegs := by decide +kernel) :
    Changes P R s (s.gated who lvl k) := by
  obtain h | h := s.gated_cases who lvl k
  · rw [h]
    exact hk
  · exact h.within hp hr

/-- A datagram that comes in takes time, and counts where its port takes none. -/
theorem State.dgIn_frame {s : State} {p dt type : Nat} {data : List Byte} {k : Dgram → State → State}
    (hk : ∀ g x, Changes P R x (k g x)) (hp : [.fine] ⊆ P := by decide)
    (hr : regMask [.TIM_PORT_CNT_DISCARD] &&& regMask R = regMask [.TIM_PORT_CNT_DISCARD] := by decide +kernel) :
    Changes P R s (s.dgIn p dt type data k) := by
  have hnow : Changes P R s (s.advance dt) := (s.advance_frame dt).mono hp (List.nil_subset _)
  refine .ite hnow (.ite (hnow.bump (subset_regs hr (by decide))) ?_)
  split
  · exact hnow
  · exact .ite (hnow.trans (hk ..)) hnow

/-- A tagged datagram renews its session, and counts where its tag or its SEQ is wrong. -/
theorem State.dgTag_frame {s : State} {p : Nat} {g : Dgram} {k : Nat → Dgram → State → State}
    (hk : ∀ i g x, Changes P R x (k i g x)) (hp : [.outbox, .ses] ⊆ P := by decide)
    (hr : regMask [.SES_CNT_BAD_TAG, .SES_CNT_REPLAY] &&& regMask R = regMask [.SES_CNT_BAD_TAG, .SES_CNT_REPLAY] := by
      decide +kernel) :
    Changes P R s (State.dgTag p k g s) := by
  have heard (i : Nat) (x : Slot) : Changes P R s (s.setSlot i x) :=
    (s.setSlot_changes i x).mono (List.Subset.trans (by decide) hp) (List.nil_subset _)
  have counted {r : Reg} (h : r ∈ [.SES_CNT_BAD_TAG, .SES_CNT_REPLAY]) : Changes P R s (s.bump r) :=
    .bump (.refl ..) (subset_regs hr h)
  unfold State.dgTag
  split
  · exact .refl ..
  · refine .ite (counted (by decide)) (.ite ((heard ..).trans (hk ..)) (.ite (.ite (heard ..) ?_) (counted (by decide))))
    exact (heard ..).emit (hp (by decide))

/-- What a commit point or a supply warning that meets a request may change. -/
def meetParts : List Part :=
  [.bar0, .staged, .outbox, .freeCtr, .lnk, .port, .cap, .capt, .mst, .sht, .bch, .beams, .scn, .cal, .lum, .proj, .hal,
    .pceCfg, .pce, .dma, .ddr, .fst, .boot, .tim, .helm, .pwr]

theorem State.withMet_frame {s : State} {met : Option ModeMet} {k : State → State} (hk : ∀ x, Changes P allRegs x (k x))
    (hp : meetParts ⊆ P := by decide) : Changes P allRegs s (s.withMet met k) := by
  unfold State.withMet
  split
  · exact hk _
  · exact ((s.boundary_changes ..).mono (List.Subset.trans (by decide) hp) (subset_allRegs _)).trans (hk _)
  · exact (hk s).andThen (State.warnAt_changes ..) (List.Subset.trans (by decide) hp) (subset_allRegs _)

theorem State.modeRequest_frame {s : State} {who : Requester} {m : Nat} {k : State → State} (hk : Changes P R s (k s))
    (hr : regMask [.PWR_MODE_STATUS, .PCE_CNT_PRIV_REFUSED] &&& regMask R =
      regMask [.PWR_MODE_STATUS, .PCE_CNT_PRIV_REFUSED] := by decide +kernel) : Changes P R s (s.modeRequest who m k) := by
  have hcount : Changes [] [.PWR_MODE_STATUS, .PCE_CNT_PRIV_REFUSED] s
      (if who = .mailbox then s.bump .PCE_CNT_PRIV_REFUSED else s) := .ite (s.bump_frame ..).within (.refl ..)
  have hbusy : Changes [] [.PWR_MODE_STATUS, .PCE_CNT_PRIV_REFUSED] s (s.refuseMode causeBusy) := (s.refuseMode_changes _).within
  exact .ite (.refl ..) (.ite ((hcount.op (State.refuseMode_changes ..)).within (List.nil_subset _) hr)
    (.ite (.refl ..) (.ite (hbusy.within (List.nil_subset _) hr) hk)))

end
end
end Sys2Proof.Machine

namespace Sys2Proof.Machine
section
open State
set_option Elab.async false

/-! ## The encoder and SSI commands -/

theorem encoderEdge_framed (n : Fin 16) (dt : Nat) (a : Bool) (b : Bool) (held : Nat) (s : State) :
    Framed (.encoderEdge n dt a b held) s := by
  unfold Framed partsOf regsOf; dsimp only
  exact ⟨_, rfl, .ite (advance_frame ..).within ((advance_frame ..).within.op (encEdge_changes ..))⟩

theorem zEdge_framed (n : Fin 16) (dt : Nat) (edge : Option (Bool × Bool)) (held : Nat) (s : State) :
    Framed (.zEdge n dt edge held) s := by
  unfold Framed partsOf regsOf; dsimp only
  cases edge with
  | none => exact ⟨_, rfl, .cut (advance_frame ..).within fun h => .ite h
    (.ite (h.op (zReset_changes ..)) (.ite (h.op (wr_frame ..)) h))⟩
  | some e =>
    exact ⟨_, rfl, .cut (advance_frame ..).within fun h => .ite (h.op (encEdge_changes ..)) (.ite (h.op (zReset_changes ..))
      (.ite (((h.op (freeBits_changes ..)).op (encEdge_changes ..)).op (wr_frame ..)) (h.op (encEdge_changes ..))))⟩

theorem encoderCountWrite_framed (who : Requester) (n : Fin 16) (v : BitVec 32) (z : Bool) (edge : Option (Bool × Bool))
    (s : State) :
    Framed (.encoderCountWrite who n v z edge) s := by
  unfold Framed partsOf regsOf; dsimp only
  refine ⟨_, rfl, .ite ((writeGate_frame (setCount_changes ..).within).op (zReset_changes ..)) ?_⟩
  split
  · exact (writeGate_frame (setCount_changes ..).within).op (encEdge_changes ..)
  · exact writeGate_frame (setCount_changes ..).within

theorem ssiReadStart_framed (a : Fin 4) (dt : Nat) (idle : Bool) (s : State) : Framed (.ssiReadStart a dt idle) s := by
  unfold Framed partsOf regsOf; dsimp only
  exact ⟨_, rfl, .ite (advance_frame ..).within (((passTo_changes ..).within.op (setSi_changes ..)).op (emit_frame ..))⟩

theorem ssiReadEnd_framed (a : Fin 4) (dt : Nat) (data : BitVec 32) (low : Bool) (s : State) :
    Framed (.ssiReadEnd a dt data low) s := by
  unfold Framed partsOf regsOf; dsimp only
  refine ⟨_, rfl, ?_⟩
  dsimp only
  split
  · exact (advance_frame ..).within
  · have hpass (due : Nat) := s.passTo_changes dt due
    exact .ite (((hpass _).within.op (setSi_changes ..)).op (wr_frame ..))
      (((hpass _).within.op (setSi_changes ..)).op (bump_frame ..))

theorem encoders_framed {c : Instr} (hch : chapterOf c = .encoders) (s : State) : Framed c s := by
  cases c with
  | encoderEdge => exact encoderEdge_framed ..
  | zEdge => exact zEdge_framed ..
  | encoderCountWrite => exact encoderCountWrite_framed ..
  | ssiReadStart => exact ssiReadStart_framed ..
  | ssiReadEnd => exact ssiReadEnd_framed ..
  | _ => cases hch

/-! ## The host and bus commands -/

theorem registerWrite_framed (who : Requester) (addr : Nat) (v : BitVec 32) (tlp : Tlp) (s : State) :
    Framed (.registerWrite who addr v tlp) s := by
  unfold Framed partsOf regsOf; dsimp only
  exact ⟨_, rfl, .ite (inbound_frame (fun _ => memReq_frame (.ite (aerLog_changes ..).within (busWrite_changes ..).within)))
    (busWrite_changes ..).within⟩

theorem readClear_framed (who : Requester) (addr : Nat) (tlp : Tlp) (s : State) : Framed (.readClear who addr tlp) s := by
  unfold Framed partsOf regsOf; dsimp only
  exact ⟨_, rfl, .ite (inbound_frame (fun _ => memReq_frame (busRead_changes ..).within)) (busRead_changes ..).within⟩

theorem perstN_framed (s : State) : Framed .perstN s := by
  unfold Framed partsOf regsOf; dsimp only
  refine ⟨_, rfl, .op ?_ (emit_frame ..)⟩
  exact .pce (pceReset_changes ..).within rfl (by decide)

theorem hotReset_framed (s : State) : Framed .hotReset s := by
  unfold Framed partsOf regsOf; dsimp only
  exact ⟨_, rfl, .ite ((pceReset_changes ..).within.op (setFld_frame ..)) (.refl ..)⟩

theorem dlDown_framed (s : State) : Framed .dlDown s := by
  unfold Framed partsOf regsOf; dsimp only
  exact ⟨_, rfl, .ite (((pceReset_changes ..).within.op (setFld_frame ..)).op (bump_frame ..)) (.refl ..)⟩

theorem configRequest_framed (write : Bool) (off : BitVec 12) (be : BitVec 4) (v : BitVec 32) (tlp : Tlp) (s : State) :
    Framed (.configRequest write off be v tlp) s := by
  unfold Framed partsOf regsOf; dsimp only
  exact ⟨_, rfl, inbound_frame
    (fun _ => .ite (emit_frame ..).within
    (.ite (.ite (unsupportedReq_changes ..).within ((cfgWrite_changes ..).within.op (emit_frame ..))) (emit_frame ..).within))⟩

theorem bar4Access_framed (write : Bool) (off : Nat) (len : Nat) (data : List (BitVec 8)) (tlp : Tlp) (s : State) :
    Framed (.bar4Access write off len data tlp) s := by
  unfold Framed partsOf regsOf; dsimp only
  exact ⟨_, rfl, inbound_frame
    (fun _ => memReq_frame
    (.ite (.ite (aerLog_changes ..).within (.ite (bar4Words_changes ..).within (.refl ..))) (completions_changes ..).within))⟩

theorem msixUnmask_framed (v : Fin 2048) (s : State) : Framed (.msixUnmask v) s := by
  unfold Framed partsOf regsOf; dsimp only
  exact ⟨_, rfl, (msixUnmask_changes ..).within⟩

theorem completion_framed (tag : Fin 1024) (status : CplStatus) (data : List (BitVec 8)) (tlp : Tlp) (met : Bool) (s : State) :
    Framed (.completion tag status data tlp met) s := by
  unfold Framed partsOf regsOf; dsimp only
  refine ⟨_, rfl, inbound_frame (fun _ => ?_)⟩
  split
  · exact (aerLog_changes ..).within.op (bump_frame ..)
  · exact .ite (dropCompletion_changes ..).within (.ite (dropCompletion_changes ..).within (takeCompletion_changes ..).within)

theorem completionTimeout_framed (tag : Fin 1024) (dt : Nat) (met : Bool) (s : State) :
    Framed (.completionTimeout tag dt met) s := by
  unfold Framed partsOf regsOf; dsimp only
  refine ⟨_, rfl, ?_⟩
  split
  · exact (advance_frame ..).within
  next q _ =>
    extract_lets off s0 h s1 s2
    refine .cut (x := s0) (.ite (advance_frame ..).within (passTo_changes ..).within) fun h0 => ?_
    refine .ite h0 (.ite ((h0.op (endReq_changes ..)).op (countDrop_changes ..)) (.ite (h0.op (endReq_changes ..)) ?_))
    refine .cut (x := h.2) (h0.op (reqHeader_changes ..)) fun hh => ?_
    refine .ite (((hh.op (aerLog_changes ..)).op (endReq_changes ..)).op (reqFailed_changes ..)) (.op ?_ (issue_changes ..))
    exact .pce ((hh.op (aerLog_changes ..)).op (bump_frame ..)) rfl (by decide)

theorem tagRelease_framed (tag : Fin 1024) (dt : Nat) (s : State) : Framed (.tagRelease tag dt) s := by
  unfold Framed partsOf regsOf; dsimp only
  refine ⟨_, rfl, ?_⟩
  split
  · exact (advance_frame ..).within
  · refine .op ?_ (reissue_changes ..)
    exact .pce (passTo_changes ..).within rfl (by decide)

theorem busMasterDisable_framed (d3hot : Bool) (met : Bool) (s : State) : Framed (.busMasterDisable d3hot met) s := by
  unfold Framed partsOf regsOf; dsimp only
  exact ⟨_, rfl, .ite (.refl ..) (Changes.op (.ite (cfgWr_changes ..).within (cfgWr_changes ..).within) (busChange_changes ..))⟩

theorem busMasterEnable_framed (d0 : Bool) (met : Bool) (s : State) : Framed (.busMasterEnable d0 met) s := by
  unfold Framed partsOf regsOf; dsimp only
  exact ⟨_, rfl, .ite (.refl ..) (Changes.op (.ite (cfgWr_changes ..).within (cfgWr_changes ..).within) (busChange_changes ..))⟩

theorem flr_framed (s : State) : Framed .flr s := by
  unfold Framed partsOf regsOf; dsimp only
  exact ⟨_, rfl, .ite (.refl ..) (flrStart_changes ..).within⟩

theorem flrDrainEnd_framed (dt : Nat) (s : State) : Framed (.flrDrainEnd dt) s := by
  unfold Framed partsOf regsOf; dsimp only
  refine ⟨_, rfl, .cut (s.advance_frame dt).within fun h => .ite h (.op (.op ?_ (cfgClear_changes ..)) (closeMailbox_changes ..))⟩
  exact .pce (h.op (passTo_changes ..)) rfl (by decide)

theorem flrDone_framed (dt : Nat) (s : State) : Framed (.flrDone dt) s := by
  unfold Framed partsOf regsOf; dsimp only
  exact ⟨_, rfl, .ite (((passBy_changes ..).within.op (setFld_frame ..)).op (setFld_frame ..)) (advance_frame ..).within⟩

theorem l0sEntry_framed (dt : Nat) (s : State) : Framed (.l0sEntry dt) s := by
  unfold Framed partsOf regsOf; dsimp only
  exact ⟨_, rfl, .ite (((passTo_changes ..).within.op (setFld_frame ..)).op (emit_frame ..)) (advance_frame ..).within⟩

theorem l1Entry_framed (dt : Nat) (s : State) : Framed (.l1Entry dt) s := by
  unfold Framed partsOf regsOf; dsimp only
  exact ⟨_, rfl, .ite (((passTo_changes ..).within.op (setFld_frame ..)).op (emit_frame ..)) (advance_frame ..).within⟩

theorem dgramAccess_framed (p : Fin 2) (dt : Nat) (data : List (BitVec 8)) (s : State) : Framed (.dgramAccess p dt data) s := by
  unfold Framed partsOf regsOf; dsimp only
  exact ⟨_, rfl, dgIn_frame (fun _ _ => dgTag_frame (fun _ _ _ => (dgAccess_changes ..).within))⟩

theorem pcieLinkUp_framed (speed : BitVec 4) (width : BitVec 5) (s : State) : Framed (.pcieLinkUp speed width) s := by
  unfold Framed partsOf regsOf; dsimp only
  refine ⟨_, rfl, ?_⟩
  extract_lets w change s0 s1 _ s2 s3
  refine .ite (.refl ..) (.cut (x := s0) (Changes.op ?_ (creditAll_changes (List.range 32) _)) fun h0 => ?_)
  · exact .ite (emit_frame ..).within (.refl ..)
  clear_value s0
  refine .cut (x := s1) (((h0.op (setFld_frame ..)).op (setFld_frame ..)).op (setFld_frame ..)) fun h1 => ?_
  refine .cut (x := s2) (.op ?_ (setFld_frame ..)) fun h2 => ?_
  · exact .pce h1 rfl (by decide)
  refine .cut (x := s3) (.ite ((h2.op (setFld_frame ..)).op (setFld_frame ..)) h2) fun h3 => ?_
  exact .ite (h3.op (pceEvent_changes ..)) h3

theorem unsupportedRequest_framed (posted : Bool) (header : List (BitVec 32)) (s : State) :
    Framed (.unsupportedRequest posted header) s := by
  unfold Framed partsOf regsOf; dsimp only
  exact ⟨_, rfl, (unsupportedReq_changes ..).within⟩

theorem host_framed {c : Instr} (hch : chapterOf c = .host) (s : State) : Framed c s := by
  cases c with
  | registerWrite => exact registerWrite_framed ..
  | readClear => exact readClear_framed ..
  | perstN => exact perstN_framed ..
  | hotReset => exact hotReset_framed ..
  | dlDown => exact dlDown_framed ..
  | configRequest => exact configRequest_framed ..
  | bar4Access => exact bar4Access_framed ..
  | msixUnmask => exact msixUnmask_framed ..
  | completion => exact completion_framed ..
  | completionTimeout => exact completionTimeout_framed ..
  | tagRelease => exact tagRelease_framed ..
  | busMasterDisable => exact busMasterDisable_framed ..
  | busMasterEnable => exact busMasterEnable_framed ..
  | flr => exact flr_framed ..
  | flrDrainEnd => exact flrDrainEnd_framed ..
  | flrDone => exact flrDone_framed ..
  | l0sEntry => exact l0sEntry_framed ..
  | l1Entry => exact l1Entry_framed ..
  | dgramAccess => exact dgramAccess_framed ..
  | pcieLinkUp => exact pcieLinkUp_framed ..
  | unsupportedRequest => exact unsupportedRequest_framed ..
  | _ => cases hch

/-! ## The frame store, commit and delivery commands -/

theorem fstMarkGo_framed (who : Requester) (v : BitVec 32) (s : State) : Framed (.fstMarkGo who v) s := by
  unfold Framed partsOf regsOf; dsimp only
  exact ⟨_, rfl, writeGate_frame (.ite (mark_changes ..).within (.refl ..))⟩

theorem markSearchDone_framed (r : Fin 16) (dt : Nat) (s : State) : Framed (.markSearchDone r dt) s := by
  unfold Framed partsOf regsOf; dsimp only
  refine ⟨_, rfl, ?_⟩
  split
  · exact (passBy_changes ..).within.op (searchDone_changes ..)
  · exact (advance_frame ..).within

theorem spanRelease_framed (who : Requester) (v : BitVec 32) (s : State) : Framed (.spanRelease who v) s := by
  unfold Framed partsOf regsOf; dsimp only
  refine ⟨_, rfl, writeGate_frame ?_⟩
  split
  · exact (spanFree_changes ..).within
  · exact .refl ..

theorem spanReleaseAll_framed (who : Requester) (v : BitVec 32) (s : State) : Framed (.spanReleaseAll who v) s := by
  unfold Framed partsOf regsOf; dsimp only
  exact ⟨_, rfl, writeGate_frame (spanFreeAll_changes ..).within⟩

theorem spanHoldExpiry_framed (r : Fin 16) (span : BitVec 12) (dt : Nat) (s : State) : Framed (.spanHoldExpiry r span dt) s := by
  unfold Framed partsOf regsOf; dsimp only
  refine ⟨_, rfl, ?_⟩
  split
  · exact .ite (advance_frame ..).within ((passTo_changes ..).within.op (spanFree_changes ..))
  · exact (advance_frame ..).within

theorem bar2Read_framed (addr : Nat) (len : Nat) (errs : List (Nat × BurstErr)) (tlp : Tlp) (s : State) :
    Framed (.bar2Read addr len errs tlp) s := by
  unfold Framed partsOf regsOf; dsimp only
  exact ⟨_, rfl, inbound_frame
    (fun _ => memReq_frame
    (.ite (.ite ((bump_frame ..).within.op (completions_changes ..))
    (Changes.op (.ite (storeFetch_changes ..).within ((storeFetch_changes ..).within.op (bump_frame ..)))
    (completions_changes ..))) ((bump_frame ..).within.op (completions_changes ..))))⟩

theorem bar2Write_framed (addr : Nat) (data : List (BitVec 8)) (tlp : Tlp) (s : State) : Framed (.bar2Write addr data tlp) s := by
  unfold Framed partsOf regsOf; dsimp only
  exact ⟨_, rfl, inbound_frame
    (fun _ => memReq_frame
    (.ite (.ite (Changes.op (.ite (aerLog_changes ..).within (.refl ..)) (storeWr_changes ..))
    (Changes.op (.ite (aerLog_changes ..).within (.refl ..)) (bump_frame ..)))
    (Changes.op (.ite (aerLog_changes ..).within (.refl ..)) (bump_frame ..))))⟩

theorem mpUnitWrite_framed (n : Fin 12) (dt wait : Nat) (s : State) : Framed (.mpUnitWrite n dt wait) s := by
  unfold Framed partsOf regsOf; dsimp only
  refine ⟨_, rfl, ?_⟩
  extract_lets s1 x
  refine .cut (x := s1) (advance_frame ..).within fun h1 => ?_
  split
  next u rest c _ _ =>
    refine .ite h1 ?_
    extract_lets pend
    refine .op ?_ (mpUnit_changes ..)
    exact .fst (t := { s1 with sht := tblSet {} s1.sht n.val { x with log := rest } }) (.sht h1 (by decide)) rfl (by decide)
  · exact h1

theorem refresh_framed (c : Fin 12) (dt : Nat) (len : Nat) (hot : Bool) (s : State) : Framed (.refresh c dt len hot) s := by
  unfold Framed partsOf regsOf; dsimp only
  exact ⟨_, rfl, .ite (advance_frame ..).within (.fst ((advance_frame ..).within.op (passTo_changes ..)) rfl (by decide))⟩

theorem patrolScrub_framed (c : Fin 12) (dt : Nat) (err : Option BurstErr) (s : State) : Framed (.patrolScrub c dt err) s := by
  unfold Framed partsOf regsOf; dsimp only
  refine ⟨_, rfl, .ite (passTo_changes ..).within (.op ?_ (eccRead_changes ..))⟩
  exact .fst (passTo_changes ..).within rfl (by decide)

theorem ceLeak_framed (c : Fin 12) (dt : Nat) (s : State) : Framed (.ceLeak c dt) s := by
  unfold Framed partsOf regsOf; dsimp only
  refine ⟨_, rfl, ?_⟩
  extract_lets due s1 _ s2 v s3
  refine .cut (x := s1) (passTo_changes ..).within fun h1 => .ite h1 ?_
  refine .cut (x := s3) (.op (t := s2) (.fst h1 rfl (by decide)) (wr_frame ..)) fun h3 => ?_
  exact .ite (.fst h3 rfl (by decide)) h3

theorem layerBarrier_framed (late : Nat) (s : State) : Framed (.layerBarrier late) s := by
  unfold Framed partsOf regsOf; dsimp only
  refine ⟨_, rfl, .ite (.refl ..) ?_⟩
  extract_lets soft s1 s2 layer s3
  refine .cut (x := s1) ((commitLate_changes ..).within.op (wr_frame ..)) fun h1 => ?_
  refine .cut (x := s2) (h1.trans (allBeams_changes (fun _ _ => (calHead_changes ..).within) _)) fun h2 => ?_
  refine .cut (x := s3) ((h2.op (wr_frame ..)).op (wr_frame ..)) fun h3 => ?_
  exact (h3.op (publish_changes ..)).trans (allBeams_changes (fun _ _ => (layerResume_changes ..).within) _)

theorem eventDelivery_framed (h : Fin 256) (h2 : Option (Fin 256)) (met : BitVec 16) (s : State) :
    Framed (.eventDelivery h h2 met) s := by
  unfold Framed partsOf regsOf; dsimp only
  refine ⟨_, rfl, .ite (.refl ..) ?_⟩
  extract_lets s1 s2 a b
  refine .cut (x := s2) ?_ fun hs2 => .cut (x := a.2) (hs2.op (nextEvent_changes ..)) fun ha => .cut (x := b.2) ?_ fun hb => ?_
  · cases h2 with
    | none => exact (awaitArrival_changes ..).within
    | some k => exact (awaitArrival_changes ..).within.op (awaitArrival_changes ..)
  · dsimp only [b]
    split
    · split
      · exact ha
      · exact ha.op (nextEvent_changes ..)
    · exact ha
  · clear_value b a
    split
    · exact hb
    · exact hb.op (deliverOne_changes ..)
    · exact hb.op (deliverOne_changes ..)
    · exact hb.op (deliverTwo_changes ..)

theorem recordingBoundary_framed (who : Requester) (late : Nat) (s : State) : Framed (.recordingBoundary who late) s := by
  unfold Framed partsOf regsOf; dsimp only
  exact ⟨_, rfl, (boundary_changes ..).within⟩

theorem store_framed {c : Instr} (hch : chapterOf c = .store) (s : State) : Framed c s := by
  cases c with
  | fstMarkGo => exact fstMarkGo_framed ..
  | markSearchDone => exact markSearchDone_framed ..
  | spanRelease => exact spanRelease_framed ..
  | spanReleaseAll => exact spanReleaseAll_framed ..
  | spanHoldExpiry => exact spanHoldExpiry_framed ..
  | bar2Read => exact bar2Read_framed ..
  | bar2Write => exact bar2Write_framed ..
  | mpUnitWrite => exact mpUnitWrite_framed ..
  | refresh => exact refresh_framed ..
  | patrolScrub => exact patrolScrub_framed ..
  | ceLeak => exact ceLeak_framed ..
  | layerBarrier => exact layerBarrier_framed ..
  | eventDelivery => exact eventDelivery_framed ..
  | recordingBoundary => exact recordingBoundary_framed ..
  | _ => cases hch

/-! ## The DMA, queue and migration commands -/

theorem migrationCopy_framed (dt : Nat) (errs : List (Nat × BurstErr)) (s : State) : Framed (.migrationCopy dt errs) s := by
  unfold Framed partsOf regsOf; dsimp only
  refine ⟨_, rfl, ?_⟩
  split
  · exact (advance_frame ..).within
  · refine .ite (passTo_changes ..).within ?_
    split
    · exact .ite (((passTo_changes ..).within.op (migNotices_changes ..)).op (migDone_changes ..)) (passTo_changes ..).within
    · exact .ite ((passTo_changes ..).within.op (setFld_frame ..)) ((passTo_changes ..).within.op (migCopy_changes ..))

theorem forceWrap_framed (r : Fin 16) (dt : Nat) (s : State) : Framed (.forceWrap r dt) s := by
  unfold Framed partsOf regsOf; dsimp only
  refine ⟨_, rfl, ?_⟩
  split
  · exact (advance_frame ..).within
  · exact .ite (advance_frame ..).within (((passTo_changes ..).within.op (wrapRing_changes ..)).op (setWp_changes ..))

theorem channelRetired_framed (s : State) : Framed .channelRetired s := by
  unfold Framed partsOf regsOf; dsimp only
  refine ⟨_, rfl, ?_⟩
  split
  · exact .refl ..
  next c _ =>
    extract_lets wrapped touch s1 s2
    refine .ite (.refl ..) ?_
    refine .cut (x := s1) ((setFld_frame ..).within.op (setDom_changes ..)) fun h1 => ?_
    refine .cut (x := s2) (h1.trans (foldl_changes (fun _ _ => (voidWhere_changes ..).within) _ _)) fun h2 => ?_
    exact (h2.op (storeStatus_changes ..)).op (publish_changes ..)

theorem descriptorLoad_framed (n : Fin 32) (errs : List (Nat × BurstErr)) (s : State) : Framed (.descriptorLoad n errs) s := by
  unfold Framed partsOf regsOf; dsimp only
  refine ⟨_, rfl, ?_⟩
  extract_lets n x r d _ s1 y
  refine .ite (.refl ..) (.ite (shadowLoad_changes ..).within (.ite (.refl ..) ?_))
  refine .cut (x := s1) ((descBytes_changes ..).within.op (setDm_changes ..)) fun h => ?_
  refine .cut (x := s1.takeDesc n d) (h.op (takeDesc_changes ..)) fun htaken => .ite
    (.ite (.ite htaken h) (.ite htaken ?_)) htaken
  exact (h.op (setDm_changes ..)).op (ctRefill_changes ..)

theorem burst_framed (n : Fin 32) (dt : Nat) (errs : List (Nat × BurstErr)) (s : State) : Framed (.burst n dt errs) s := by
  unfold Framed partsOf regsOf; dsimp only
  exact ⟨_, rfl, .ite (burstWait_changes ..).within
    (.ite (((burstWait_changes ..).within.op (burstServed_changes ..)).op (ctBurst_changes ..))
    (((burstWait_changes ..).within.op (burstServed_changes ..)).op (copyBurst_changes ..)))⟩

theorem readBackDone_framed (n : Fin 32) (errs : List (Nat × BurstErr)) (s : State) : Framed (.readBackDone n errs) s := by
  unfold Framed partsOf regsOf; dsimp only
  refine ⟨_, rfl, .ite (.refl ..)
    (.ite ?_ (.ite (((Changes.op
    (.ite (Changes.op (.ite (storeFetch_changes ..).within (.refl ..)) (bump_frame ..))
    (.ite (storeFetch_changes ..).within (.refl ..))) (dmaRetire_changes ..)).op (setDm_changes ..)).op (dmaNext_changes ..))
    (.refl ..)))⟩
  split
  · exact .ite (.refl ..)
      (((((Changes.op (.ite (bump_frame ..).within (.refl ..)) (dmaRetire_changes ..)).op (setDm_changes ..)).op
      (setCur_changes ..)).op (ctShow_changes ..)).op (ctRefill_changes ..))
  · exact .refl ..

theorem linkReread_framed (n : Fin 32) (errs : List (Nat × BurstErr)) (s : State) : Framed (.linkReread n errs) s := by
  unfold Framed partsOf regsOf; dsimp only
  exact ⟨_, rfl, .ite (.refl ..)
    (.ite ((Changes.op (.ite (storeFetch_changes ..).within (.refl ..)) (setDm_changes ..)).op (endCheck_changes ..))
    ((Changes.op (.ite (storeFetch_changes ..).within (.refl ..)) (setDm_changes ..)).op (dmaLoad_changes ..)))⟩

theorem dmaDoorbell_framed (who : Requester) (n : Fin 32) (s : State) : Framed (.dmaDoorbell who n) s := by
  unfold Framed partsOf regsOf; dsimp only
  exact ⟨_, rfl, writeGate_frame (doorbell_changes ..).within⟩

theorem dmaStart_framed (who : Requester) (n : Fin 32) (s : State) : Framed (.dmaStart who n) s := by
  unfold Framed partsOf regsOf; dsimp only
  exact ⟨_, rfl, writeGate_frame
    (.ite ((setDm_changes ..).within.op (dmaLoad_changes ..)) (.ite (setFld_frame ..).within (.refl ..)))⟩

theorem dmaStop_framed (who : Requester) (n : Fin 32) (s : State) : Framed (.dmaStop who n) s := by
  unfold Framed partsOf regsOf; dsimp only
  exact ⟨_, rfl, writeGate_frame
    (.ite ((setDm_changes ..).within.op (dmaNext_changes ..))
    (.ite (((setDm_changes ..).within.op (dropDrain_changes ..)).op (readBack_changes ..))
    (.ite (setDm_changes ..).within (.refl ..))))⟩

theorem dmaAbort_framed (who : Requester) (n : Fin 32) (s : State) : Framed (.dmaAbort who n) s := by
  unfold Framed partsOf regsOf; dsimp only
  exact ⟨_, rfl, writeGate_frame (.ite (.refl ..) (dmaAbort_changes ..).within)⟩

theorem queueItem_framed (q : Fin 64) (source : BitVec 8) (pri : BitVec 3) (words : Fin 8) (data : List (BitVec 8))
    (meet : Bool) (upset : Bool) (s : State) :
    Framed (.queueItem q source pri words data meet upset) s := by
  unfold Framed partsOf regsOf; dsimp only
  exact ⟨_, rfl, .ite (bump_frame ..).within
    (((queUpset_changes ..).within.op (quePtrCheck_changes ..)).op (commitParts_changes ..))⟩

theorem queRdHead_framed (who : Requester) (q : Fin 64) (bad : List Nat) (upset : Bool) (s : State) :
    Framed (.queRdHead who q bad upset) s := by
  unfold Framed partsOf regsOf; dsimp only
  refine ⟨_, rfl, readGate_frame (.cut ((s.queUpset_changes q upset).within.op (quePtrCheck_changes _ q)) fun h => ?_)⟩
  refine .ite ((h.op (setFld_frame ..)).op (emit_frame ..)) ?_
  split
  · exact h.op (emit_frame ..)
  · dsimp only
    split
    · exact (h.op (putQue_changes ..)).op (emit_frame ..)
    · exact (h.op (setFld_frame ..)).op (emit_frame ..)

theorem queRdData_framed (who : Requester) (q : Fin 64) (s : State) : Framed (.queRdData who q) s := by
  unfold Framed partsOf regsOf; dsimp only
  refine ⟨_, rfl, readGate_frame (.ite (((quePtrCheck_changes ..).within.op (setFld_frame ..)).op (emit_frame ..)) ?_)⟩
  split
  · exact ((quePtrCheck_changes ..).within.op (setFld_frame ..)).op (emit_frame ..)
  · exact ((quePtrCheck_changes ..).within.op (putQue_changes ..)).op (emit_frame ..)

theorem dropRest_framed (who : Requester) (q : Fin 64) (s : State) : Framed (.dropRest who q) s := by
  unfold Framed partsOf regsOf; dsimp only
  exact ⟨_, rfl, writeGate_frame ((quePtrCheck_changes ..).within.op (putQue_changes ..))⟩

theorem queueFlush_framed (who : Requester) (q : Fin 64) (s : State) : Framed (.queueFlush who q) s := by
  unfold Framed partsOf regsOf; dsimp only
  exact ⟨_, rfl, writeGate_frame ((quePtrCheck_changes ..).within.op (putQue_changes ..))⟩

theorem queWrHead_framed (who : Requester) (q : Fin 64) (v : BitVec 32) (s : State) : Framed (.queWrHead who q v) s := by
  unfold Framed partsOf regsOf; dsimp only
  exact ⟨_, rfl, writeGate_frame
    (Changes.op (.ite ((quePtrCheck_changes ..).within.op (bump_frame ..)) (quePtrCheck_changes ..).within) (putQue_changes ..))⟩

theorem queWrData_framed (who : Requester) (q : Fin 64) (v : BitVec 32) (s : State) : Framed (.queWrData who q v) s := by
  unfold Framed partsOf regsOf; dsimp only
  refine ⟨_, rfl, writeGate_frame (.cut (quePtrCheck_changes _ q).within fun h => ?_)⟩
  dsimp only
  split
  · exact h
  · exact .ite (h.op (putQue_changes ..)) ((h.op (putQue_changes ..)).op (queCommit_changes ..))

theorem drainItem_framed (n : Fin 32) (dt : Nat) (bad : List Nat) (s : State) : Framed (.drainItem n dt bad) s := by
  unfold Framed partsOf regsOf; dsimp only
  refine ⟨_, rfl, ?_⟩
  extract_lets n s0 x q s1 y
  refine .cut (x := s0) (burstWait_changes ..).within fun h0 => .ite h0 ?_
  refine .cut (x := s1) (h0.op (quePtrCheck_changes ..)) fun h1 => ?_
  split
  · exact .ite h1 ((h1.op (dropDrain_changes ..)).op (readBack_changes ..))
  · refine .ite ((h1.op (dropDrain_changes ..)).op (readBack_changes ..)) (.ite h1 ?_)
    extract_lets t1 t2 x2 t3
    refine .cut (x := t1) (((h1.op (burstServed_changes ..)).op (dmaPay_changes ..)).op (putQue_changes ..)) fun h4 => ?_
    refine .cut (x := t3) (((h4.op (dmaWrite_changes ..)).op (setDm_changes ..)).op (setDmaState_changes ..)) fun h6 => ?_
    exact .ite ((h6.op (dropDrain_changes ..)).op (readBack_changes ..)) h6

theorem dma_framed {c : Instr} (hch : chapterOf c = .dma) (s : State) : Framed c s := by
  cases c with
  | migrationCopy => exact migrationCopy_framed ..
  | forceWrap => exact forceWrap_framed ..
  | channelRetired => exact channelRetired_framed ..
  | descriptorLoad => exact descriptorLoad_framed ..
  | burst => exact burst_framed ..
  | readBackDone => exact readBackDone_framed ..
  | linkReread => exact linkReread_framed ..
  | dmaDoorbell => exact dmaDoorbell_framed ..
  | dmaStart => exact dmaStart_framed ..
  | dmaStop => exact dmaStop_framed ..
  | dmaAbort => exact dmaAbort_framed ..
  | queueItem => exact queueItem_framed ..
  | queRdHead => exact queRdHead_framed ..
  | queRdData => exact queRdData_framed ..
  | dropRest => exact dropRest_framed ..
  | queueFlush => exact queueFlush_framed ..
  | queWrHead => exact queWrHead_framed ..
  | queWrData => exact queWrData_framed ..
  | drainItem => exact drainItem_framed ..
  | _ => cases hch

/-! ## The mast commands -/

theorem tileDispatch_framed (m : Fin 16) (dt : Nat) (s : State) : Framed (.tileDispatch m dt) s := by
  unfold Framed partsOf regsOf; dsimp only
  refine ⟨_, rfl, .ite ((advance_frame ..).within.op (loadDone_changes ..)) ?_⟩
  split
  · exact (advance_frame ..).within.op (loadDone_changes ..)
  · exact .ite ((((advance_frame ..).within.op (loadDone_changes ..)).op (setMs_changes ..)).op (bump_frame ..))
      (((advance_frame ..).within.op (loadDone_changes ..)).op (setMs_changes ..))

theorem sparFault_framed (m : Fin 16) (e : Fin 66) (cause : SparCause) (also : Option (Fin 66 × SparCause)) (s : State) :
    Framed (.sparFault m e cause also) s := by
  unfold Framed partsOf regsOf; dsimp only
  exact ⟨_, rfl, (sparFaults_changes ..).within⟩

theorem watchdogExpiry_framed (m : Fin 16) (e : Fin 66) (dt : Nat) (commit : Bool) (s : State) :
    Framed (.watchdogExpiry m e dt commit) s := by
  unfold Framed partsOf regsOf; dsimp only
  refine ⟨_, rfl, ?_⟩
  split
  · exact .refl ..
  · refine .ite (.refl ..) ?_
    split
    · exact (passTo_changes ..).within.op (sparEnd_changes ..)
    · exact (passTo_changes ..).within.op (expire_changes ..)

theorem spareSelftest_framed (m : Fin 16) (e : Fin 66) (dt : Nat) (s : State) : Framed (.spareSelftest m e dt) s := by
  unfold Framed partsOf regsOf; dsimp only
  exact ⟨_, rfl, .ite ((passTo_changes ..).within.op (setMs_changes ..)) (.refl ..)⟩

theorem selftestEnd_framed (m : Fin 16) (e : Fin 66) (pass : Bool) (dt : Nat) (s : State) :
    Framed (.selftestEnd m e pass dt) s := by
  unfold Framed partsOf regsOf; dsimp only
  refine ⟨_, rfl, ?_⟩
  dsimp only
  split
  · exact .refl ..
  · exact .cut ((passTo_changes ..).within.op (setMs_changes ..)) fun h => .ite h (h.op (retireEngine_changes ..))

theorem shmScrub_framed (m : Fin 16) (line : Fin 32768) (corrected : Nat) (s : State) :
    Framed (.shmScrub m line corrected) s := by
  unfold Framed partsOf regsOf; dsimp only
  exact ⟨_, rfl, .ite (bumpBy_frame ..).within (.refl ..)⟩

theorem mastReload_framed (m : Fin 16) (dt : Nat) (s : State) : Framed (.mastReload m dt) s := by
  unfold Framed partsOf regsOf; dsimp only
  refine ⟨_, rfl, ?_⟩
  dsimp only
  split
  · exact .refl ..
  · exact (passTo_changes ..).within.op (loadDone_changes ..)
  · exact .ite (.refl ..) (.cut (.ite (passBy_changes ..).within (advance_frame ..).within) fun h =>
      (h.op (setMs_changes ..)).op (setFld_frame ..))

theorem fault0Read_framed (who : Requester) (m : Fin 16) (s : State) : Framed (.fault0Read who m) s := by
  unfold Framed partsOf regsOf; dsimp only
  refine ⟨_, rfl, readGate_frame ?_⟩
  dsimp only
  split
  · exact (emit_frame ..).within
  · exact (((setMs_changes ..).within.op (wr_frame ..)).op (setFld_frame ..)).op (emit_frame ..)

theorem masts_framed {c : Instr} (hch : chapterOf c = .masts) (s : State) : Framed c s := by
  cases c with
  | tileDispatch => exact tileDispatch_framed ..
  | sparFault => exact sparFault_framed ..
  | watchdogExpiry => exact watchdogExpiry_framed ..
  | spareSelftest => exact spareSelftest_framed ..
  | selftestEnd => exact selftestEnd_framed ..
  | shmScrub => exact shmScrub_framed ..
  | mastReload => exact mastReload_framed ..
  | fault0Read => exact fault0Read_framed ..
  | _ => cases hch

/-! ## The instructions of a SPAR -/

theorem commit_framed (m : Fin 16) (e : Fin 66) (a : Fin 32) (imm : BitVec 16) (fault : Option SparCause) (s : State) :
    Framed (.commit m e a imm fault) s := by
  unfold Framed partsOf regsOf; dsimp only
  refine ⟨_, rfl, .op ?_ (sparDo_changes ..)⟩
  split
  · exact .ite (sparFaultAt_changes ..).within (.refl ..)
  · exact .refl ..

/-- An instruction of a SPAR changes what its dispatch may, whatever it computes (R201). -/
theorem spars_framed {c : Instr} (hch : chapterOf c = .spars) (s : State) : Framed c s := by
  cases c with
  | add | sub | and | or | xor | shl | shr | sar | mul | mulh | min | max | slt | sltu | div | divu | isqrt | cmp | addi
  | andi | ori | xori | lui | shli | shri | sari | cmpi | vadd | vsub | vadds | vsubs | vaddus | vsubus | vmul | vmulq | vmin
  | vmax | vminu | vmaxu | vand | vor | vxor | vabsdu | vshl | vshr | vsar | vsel | vsplat | vnarrow | vnarrowu | vmac | vmacu
  | vaccr | vaccz | vcmpeq | vcmpgt | vcmpgtu | vcmpgeu | vrsum | vrsumu | vrmaxu | vrmaxi | vext | mand | mor | mxor | mnot
  | mtos | stom | mpop | sseek | hist | lcfg | leol | lrd | mcfg | mom | mrd =>
    exact ⟨_, rfl, sparAlu_changes ..⟩
  | mfs | b | call | ret | loop | abort | srd | srdr | std => exact ⟨_, rfl, sparDo_changes ..⟩
  | ldw | ldh | ldhu | vld | vlut => exact ⟨_, rfl, sparMem_changes ..⟩
  | stw | sth | vst | vmulw | vmulwu | vaccwu | swr | swrs | hrd | lab => exact ⟨_, rfl, sparTry_changes ..⟩
  | commit m e a imm fault => exact commit_framed m e a imm fault s
  | _ => cases hch

/-! ## The sheet commands -/

theorem sheetRecord_framed (n : Fin 12) (mast : Fin 16) (stream : Fin 8) (record : List (BitVec 8)) (log : Bool) (s : State) :
    Framed (.sheetRecord n mast stream record log) s := by
  unfold Framed partsOf regsOf; dsimp only
  exact ⟨_, rfl, .ite (.refl ..) (Changes.op (.ite (featureLog_changes ..).within (.refl ..)) (sheetRecord_changes ..))⟩

theorem evaluation_framed (n : Fin 12) (dt : Nat) (s : State) : Framed (.evaluation n dt) s := by
  unfold Framed partsOf regsOf; dsimp only
  refine ⟨_, rfl, .cut ((s.advance_frame dt).within.op (refresh_changes _ n)) fun h => ?_⟩
  dsimp only
  split
  · exact h
  · exact .cut (h.op (setSh_changes ..)) fun hq => .ite (hq.op (bump_frame ..))
      (.ite ((hq.op (bump_frame ..)).op (missOne_changes ..)) (.ite hq (hq.op (takeValid_changes ..))))

theorem missTimer_framed (n : Fin 12) (dt : Nat) (s : State) : Framed (.missTimer n dt) s := by
  unfold Framed partsOf regsOf; dsimp only
  refine ⟨_, rfl, ?_⟩
  split
  · exact (advance_frame ..).within
  next due _ =>
    refine .cut ((passTo_changes _ dt due).within.op (refresh_changes _ n)) fun h => ?_
    dsimp only
    split
    · exact h.op (setSh_changes ..)
    · exact h.op (missOne_changes ..)

theorem shtStart_framed (who : Requester) (n : Fin 12) (s : State) : Framed (.shtStart who n) s := by
  unfold Framed partsOf regsOf; dsimp only
  exact ⟨_, rfl, writeGate_frame (gated_frame (.ite (setFld_frame ..).within ((setSh_changes ..).within.op (setFld_frame ..))))⟩

theorem shtStop_framed (who : Requester) (n : Fin 12) (s : State) : Framed (.shtStop who n) s := by
  unfold Framed partsOf regsOf; dsimp only
  exact ⟨_, rfl, writeGate_frame (shTuneEnd_changes ..).within⟩

theorem resetState_framed (who : Requester) (n : Fin 12) (s : State) : Framed (.resetState who n) s := by
  unfold Framed partsOf regsOf; dsimp only
  exact ⟨_, rfl, writeGate_frame (.ite (.refl ..) ((setSh_changes ..).within.op (wr_frame ..)))⟩

theorem sheets_framed {c : Instr} (hch : chapterOf c = .sheets) (s : State) : Framed c s := by
  cases c with
  | sheetRecord => exact sheetRecord_framed ..
  | evaluation => exact evaluation_framed ..
  | missTimer => exact missTimer_framed ..
  | shtStart => exact shtStart_framed ..
  | shtStop => exact shtStop_framed ..
  | resetState => exact resetState_framed ..
  | _ => cases hch

/-! ## The beam commands -/

theorem dacUpdate_framed (n : Fin 12) (dt : Nat) (s : State) : Framed (.dacUpdate n dt) s := by
  unfold Framed partsOf regsOf; dsimp only
  refine ⟨_, rfl, beamAt_frame (fun u => .ite (.refl ..) ?_)⟩
  exact .cut ((((u.setFld_frame ..).within.op (setFld_frame ..)).op (setBc_changes ..)).op (emit_frame ..)) fun h =>
    .ite ((h.op (powerCopy_changes ..)).op (sampleApplied_changes ..)) h

theorem modulationPeriod_framed (n : Fin 12) (dt : Nat) (s : State) : Framed (.modulationPeriod n dt) s := by
  unfold Framed partsOf regsOf; dsimp only
  refine ⟨_, rfl, .ite (advance_frame ..).within (.cut (Changes.op ?_ (refresh_changes ..)) fun h =>
    .ite h (h.op (modPeriodAt_changes ..)))⟩
  exact .ite (passTo_changes ..).within (advance_frame ..).within

theorem digitalWord_framed (n : Fin 12) (dt : Nat) (s : State) : Framed (.digitalWord n dt) s := by
  unfold Framed partsOf regsOf; dsimp only
  exact ⟨_, rfl, beamAt_frame
    (fun _ => .ite (.refl ..)
    (.ite ((((setBc_changes ..).within.op (emit_frame ..)).op (powerCopy_changes ..)).op (sampleApplied_changes ..))
    ((setBc_changes ..).within.op (emit_frame ..))))⟩

theorem trackingUpdate_framed (n : Fin 12) (dt : Nat) (s : State) : Framed (.trackingUpdate n dt) s := by
  unfold Framed partsOf regsOf; dsimp only
  refine ⟨_, rfl, beamAt_frame (fun _ => .ite (setBc_changes ..).within (.ite ?_ (Changes.op ?_ (reversal_changes ..))))⟩
  · split
    · exact (setBc_changes ..).within
    · exact (setBc_changes ..).within
  · split
    · exact (setBc_changes ..).within
    · exact (setBc_changes ..).within

theorem pacedPulse_framed (n : Fin 12) (dt : Nat) (s : State) : Framed (.pacedPulse n dt) s := by
  unfold Framed partsOf regsOf; dsimp only
  exact ⟨_, rfl, beamAt_frame
    (fun _ => .ite (.refl ..)
    (.ite (.refl ..) (.ite ((setBc_changes ..).within.op (bump_frame ..))
    ((((setBc_changes ..).within.op (setBc_changes ..)).op (bump_frame ..)).op (emit_frame ..)))))⟩

theorem pulseEnd_framed (n : Fin 12) (dt : Nat) (s : State) : Framed (.pulseEnd n dt) s := by
  unfold Framed partsOf regsOf; dsimp only
  exact ⟨_, rfl, .ite (advance_frame ..).within
    ((Changes.op (.ite (passTo_changes ..).within (advance_frame ..).within) (refresh_changes ..)).op (setBc_changes ..))⟩

theorem emitOn_framed (n : Fin 12) (dt : Nat) (s : State) : Framed (.emitOn n dt) s := by
  unfold Framed partsOf regsOf; dsimp only
  exact ⟨_, rfl, beamAt_frame
    (fun _ => .ite (.ite (.refl ..) (toEdge_changes ..).within)
    (.ite (Changes.op (.ite (.refl ..) (toEdge_changes ..).within) (cut_changes ..))
    (Changes.op (.ite (.ite (.refl ..) (toEdge_changes ..).within)
    (Changes.op (.ite (.refl ..) (toEdge_changes ..).within) (setFld_frame ..))) (setWant_changes ..))))⟩

theorem emitOff_framed (n : Fin 12) (dt : Nat) (s : State) : Framed (.emitOff n dt) s := by
  unfold Framed partsOf regsOf; dsimp only
  exact ⟨_, rfl, beamAt_frame
    (fun _ => .ite (.ite (toEdge_changes ..).within (.refl ..))
    (Changes.op (.ite (toEdge_changes ..).within (.refl ..)) (setWant_changes ..)))⟩

theorem rotationDecide_framed (g : Fin 4) (dt : Nat) (s : State) : Framed (.rotationDecide g dt) s := by
  unfold Framed partsOf regsOf; dsimp only
  refine ⟨_, rfl, ?_⟩
  extract_lets reqs s0 due first now _ s1 s2
  refine .cut (x := s2) (.op (t := s1) (.beams (passTo_changes ..).within (by decide)) (grantAll_changes ..)) fun h => ?_
  clear_value s2 now
  split
  · exact h.op (setFld_frame ..)
  · exact h

theorem beamPermitChange_framed (a : Bool) (b : Bool) (s : State) : Framed (.beamPermitChange a b) s := by
  unfold Framed partsOf regsOf; dsimp only
  exact ⟨_, rfl, .ite (.refl ..)
    (Changes.op (.beams ((setFld_frame ..).within.op (setFld_frame ..)) (by decide)) (permitUpdate_changes ..))⟩

theorem permitDisagree_framed (dt : Nat) (s : State) : Framed (.permitDisagree dt) s := by
  unfold Framed partsOf regsOf; dsimp only
  refine ⟨_, rfl, .cut (s.advance_frame dt).within fun h => ?_⟩
  dsimp only
  split
  · exact h
  · exact .ite h (((h.op (setFld_frame ..)).op (notice_changes ..)).op (permitUpdate_changes ..))

theorem permitFaultClear_framed (who : Requester) (s : State) : Framed (.permitFaultClear who) s := by
  unfold Framed partsOf regsOf; dsimp only
  exact ⟨_, rfl, writeGate_frame (.ite ((setFld_frame ..).within.op (permitUpdate_changes ..)) (.refl ..))⟩

theorem brefl_framed (n : Fin 12) (pin : Bool) (s : State) : Framed (.brefl n pin) s := by
  unfold Framed partsOf regsOf; dsimp only
  exact ⟨_, rfl, beamAt_frame (fun _ => .ite ((setFld_frame ..).within.op (cut_changes ..)) (setFld_frame ..).within)⟩

theorem alarm_framed (n : Fin 12) (pin : Bool) (s : State) : Framed (.alarm n pin) s := by
  unfold Framed partsOf regsOf; dsimp only
  exact ⟨_, rfl, beamAt_frame (fun _ => .ite ((setFld_frame ..).within.op (cut_changes ..)) (setFld_frame ..).within)⟩

theorem readyLost_framed (n : Fin 12) (pin : Bool) (s : State) : Framed (.readyLost n pin) s := by
  unfold Framed partsOf regsOf; dsimp only
  exact ⟨_, rfl, beamAt_frame (fun _ => .ite ((setFld_frame ..).within.op (cut_changes ..)) (setFld_frame ..).within)⟩

theorem wdOnTime_framed (n : Fin 12) (dt : Nat) (s : State) : Framed (.wdOnTime n dt) s := by
  unfold Framed partsOf regsOf; dsimp only
  exact ⟨_, rfl, beamAt_frame (fun _ => .ite (cut_changes ..).within (.refl ..))⟩

theorem wdDwell_framed (n : Fin 12) (dt : Nat) (s : State) : Framed (.wdDwell n dt) s := by
  unfold Framed partsOf regsOf; dsimp only
  exact ⟨_, rfl, beamAt_frame (fun _ => .ite (cut_changes ..).within (.refl ..))⟩

theorem wdMeter_framed (n : Fin 12) (dt : Nat) (s : State) : Framed (.wdMeter n dt) s := by
  unfold Framed partsOf regsOf; dsimp only
  exact ⟨_, rfl, beamAt_frame (fun _ => .ite (cut_changes ..).within (.refl ..))⟩

theorem wdNoCopy_framed (n : Fin 12) (dt : Nat) (s : State) : Framed (.wdNoCopy n dt) s := by
  unfold Framed partsOf regsOf; dsimp only
  exact ⟨_, rfl, beamAt_frame (fun _ => .ite (cut_changes ..).within (.refl ..))⟩

theorem cutClear_framed (who : Requester) (n : Fin 12) (bits : BitVec 7) (s : State) : Framed (.cutClear who n bits) s := by
  unfold Framed partsOf regsOf; dsimp only
  exact ⟨_, rfl, writeGate_frame (.ite (.refl ..) ((wr_frame ..).within.op (beamGate_changes ..)))⟩

theorem meterReading_framed (n : Fin 12) (adc : BitVec 16) (s : State) : Framed (.meterReading n adc) s := by
  unfold Framed partsOf regsOf; dsimp only
  refine ⟨_, rfl, .ite (.refl ..) ?_⟩
  extract_lets x
  split
  · refine .op (.op (.op (.op (.op (.op (.op ?_ (bump_frame ..)) (wr_frame ..)) (meterRule_changes ..)) (setSc_changes ..))
      (setFld_frame ..)) (setWant_changes ..)) (waitDone_changes ..)
    exact .fine (.refl ..) (by decide)
  · exact .refl ..

theorem beams_framed {c : Instr} (hch : chapterOf c = .beams) (s : State) : Framed c s := by
  cases c with
  | dacUpdate => exact dacUpdate_framed ..
  | modulationPeriod => exact modulationPeriod_framed ..
  | digitalWord => exact digitalWord_framed ..
  | trackingUpdate => exact trackingUpdate_framed ..
  | pacedPulse => exact pacedPulse_framed ..
  | pulseEnd => exact pulseEnd_framed ..
  | emitOn => exact emitOn_framed ..
  | emitOff => exact emitOff_framed ..
  | rotationDecide => exact rotationDecide_framed ..
  | beamPermitChange => exact beamPermitChange_framed ..
  | permitDisagree => exact permitDisagree_framed ..
  | permitFaultClear => exact permitFaultClear_framed ..
  | brefl => exact brefl_framed ..
  | alarm => exact alarm_framed ..
  | readyLost => exact readyLost_framed ..
  | wdOnTime => exact wdOnTime_framed ..
  | wdDwell => exact wdDwell_framed ..
  | wdMeter => exact wdMeter_framed ..
  | wdNoCopy => exact wdNoCopy_framed ..
  | cutClear => exact cutClear_framed ..
  | meterReading => exact meterReading_framed ..
  | _ => cases hch

/-! ## The scan program commands -/

theorem jumpRecord_framed (n : Fin 12) (x : BitVec 32) (y : BitVec 32) (z : BitVec 16) (s : State) :
    Framed (.jumpRecord n x y z) s := by
  unfold Framed partsOf regsOf; dsimp only
  exact ⟨_, rfl, takeRecord_frame (fun _ _ => (planLine_changes ..).within)⟩

theorem markRecord_framed (n : Fin 12) (x : BitVec 32) (y : BitVec 32) (z : BitVec 16) (s : State) :
    Framed (.markRecord n x y z) s := by
  unfold Framed partsOf regsOf; dsimp only
  exact ⟨_, rfl, takeRecord_frame (fun _ _ => (planLine_changes ..).within)⟩

theorem arcRecord_framed (n : Fin 12) (dark : Bool) (z : BitVec 16) (cx : BitVec 32) (cy : BitVec 32) (sweep : BitVec 32)
    (s : State) :
    Framed (.arcRecord n dark z cx cy sweep) s := by
  unfold Framed partsOf regsOf; dsimp only
  exact ⟨_, rfl, takeRecord_frame (fun _ _ => .ite (badRecord_changes ..).within (planMove_changes ..).within)⟩

theorem speedRecord_framed (n : Fin 12) (vMark : BitVec 32) (vJump : BitVec 32) (s : State) :
    Framed (.speedRecord n vMark vJump) s := by
  unfold Framed partsOf regsOf; dsimp only
  exact ⟨_, rfl, takeRecord_frame (fun _ _ => (setSc_changes ..).within.op (planNote_changes ..))⟩

theorem powerRecord_framed (n : Fin 12) (openLoop : Bool) (p : BitVec 16) (s : State) : Framed (.powerRecord n openLoop p) s := by
  unfold Framed partsOf regsOf; dsimp only
  exact ⟨_, rfl, takeRecord_frame (fun _ _ => (planNote_changes ..).within)⟩

theorem profileRecord_framed (n : Fin 12) (profile : BitVec 3) (s : State) : Framed (.profileRecord n profile) s := by
  unfold Framed partsOf regsOf; dsimp only
  exact ⟨_, rfl, takeRecord_frame (fun _ _ => (planNote_changes ..).within)⟩

theorem waitRecord_framed (n : Fin 12) (w : Fin 4) (timeout : BitVec 32) (s : State) : Framed (.waitRecord n w timeout) s := by
  unfold Framed partsOf regsOf; dsimp only
  refine ⟨_, rfl, takeAtRest_frame (fun _ _ => ?_)⟩
  dsimp only
  split
  · exact (setSc_changes ..).within.op (waitDone_changes ..)
  · exact (setSc_changes ..).within.setFld (mem_allRegs _)

theorem dwellRecord_framed (n : Fin 12) (us : BitVec 32) (s : State) : Framed (.dwellRecord n us) s := by
  unfold Framed partsOf regsOf; dsimp only
  exact ⟨_, rfl, takeAtRest_frame (fun _ _ => (setSc_changes ..).within.op (setFld_frame ..))⟩

theorem meterRecord_framed (n : Fin 12) (input : Fin 4) (profile : BitVec 3) (cm : BitVec 16) (us : BitVec 32) (s : State) :
    Framed (.meterRecord n input profile cm us) s := by
  unfold Framed partsOf regsOf; dsimp only
  exact ⟨_, rfl, takeAtRest_frame
    (fun _ _ => .ite (badRecord_changes ..).within
    (((((setSc_changes ..).within.op (setFld_frame ..)).op (setBc_changes ..)).op (setFld_frame ..)).op (setWant_changes ..)))⟩

theorem eventRecord_framed (n : Fin 12) (code : BitVec 8) (s : State) : Framed (.eventRecord n code) s := by
  unfold Framed partsOf regsOf; dsimp only
  exact ⟨_, rfl, takeRecord_frame (fun _ _ => (planNote_changes ..).within)⟩

theorem linkRecord_framed (n : Fin 12) (target : BitVec 32) (s : State) : Framed (.linkRecord n target) s := by
  unfold Framed partsOf regsOf; dsimp only
  exact ⟨_, rfl, takeRecord_frame
    (fun _ _ => .ite (badRecord_changes ..).within ((planNote_changes ..).within.op (setSc_changes ..)))⟩

theorem layerEnd_framed (n : Fin 12) (s : State) : Framed (.layerEnd n) s := by
  unfold Framed partsOf regsOf; dsimp only
  exact ⟨_, rfl, takeAtRest_frame (fun _ _ => (setFld_frame ..).within.op (bump_frame ..))⟩

theorem endRecord_framed (n : Fin 12) (s : State) : Framed (.endRecord n) s := by
  unfold Framed partsOf regsOf; dsimp only
  exact ⟨_, rfl, takeAtRest_frame (fun _ _ => (setFld_frame ..).within.op (bump_frame ..))⟩

theorem badRecord_framed (n : Fin 12) (type : BitVec 8) (s : State) : Framed (.badRecord n type) s := by
  unfold Framed partsOf regsOf; dsimp only
  exact ⟨_, rfl, takeRecord_frame (fun _ _ => (badRecord_changes ..).within)⟩

theorem blockFetch_framed (n : Fin 12) (block : Nat) (errs : List (Nat × BurstErr)) (s : State) :
    Framed (.blockFetch n block errs) s := by
  unfold Framed partsOf regsOf; dsimp only
  exact ⟨_, rfl, .ite (.refl ..) ((storeFetch_changes ..).within.op (setSc_changes ..))⟩

theorem streamWindowWrite_framed (who : Requester) (n : Fin 12) (v : BitVec 32) (s : State) :
    Framed (.streamWindowWrite who n v) s := by
  unfold Framed partsOf regsOf; dsimp only
  exact ⟨_, rfl, .ite (.refl ..)
    (.ite (bump_frame ..).within
    (.ite (setSc_changes ..).within
    (.ite ((setSc_changes ..).within.op (overflowHalt_changes ..))
    (.ite (((setSc_changes ..).within.op (streamLevel_changes ..)).op (clearCause_changes ..))
    ((setSc_changes ..).within.op (streamLevel_changes ..))))))⟩

theorem dwellEnd_framed (n : Fin 12) (s : State) : Framed (.dwellEnd n) s := by
  unfold Framed partsOf regsOf; dsimp only
  exact ⟨_, rfl, .ite (Changes.op (.fine (.refl ..) (by decide)) (waitDone_changes ..)) (.refl ..)⟩

theorem waitTimeout_framed (n : Fin 12) (s : State) : Framed (.waitTimeout n) s := by
  unfold Framed partsOf regsOf; dsimp only
  refine ⟨_, rfl, ?_⟩
  dsimp only
  split
  · refine .ite (.op ?_ (cleanHalt_changes ..)) (.refl ..)
    exact .fine (.refl ..) (by decide)
  · exact .refl ..

theorem scnStart_framed (who : Requester) (n : Fin 12) (s : State) : Framed (.scnStart who n) s := by
  unfold Framed partsOf regsOf; dsimp only
  exact ⟨_, rfl, scnCmd_frame (fun _ => (scnStart_changes ..).within)⟩

theorem scnStop_framed (who : Requester) (n : Fin 12) (s : State) : Framed (.scnStop who n) s := by
  unfold Framed partsOf regsOf; dsimp only
  exact ⟨_, rfl, scnCmd_frame (fun _ => (cleanHalt_changes ..).within)⟩

theorem restartAtStop_framed (who : Requester) (n : Fin 12) (s : State) : Framed (.restartAtStop who n) s := by
  unfold Framed partsOf regsOf; dsimp only
  refine ⟨_, rfl, scnRestart_frame (fun u => ?_)⟩
  dsimp only
  split
  · exact .ite ((u.setFld_frame ..).within.op (setPhase_changes ..))
      (((u.setSc_changes ..).within.op (setFld_frame ..)).op (reRequest_changes ..))
  · exact (setFld_frame ..).within

theorem restartNextRecord_framed (who : Requester) (n : Fin 12) (s : State) : Framed (.restartNextRecord who n) s := by
  unfold Framed partsOf regsOf; dsimp only
  exact ⟨_, rfl, scnRestart_frame (fun _ => ((setSc_changes ..).within.op (setFld_frame ..)).op (reRequest_changes ..))⟩

theorem restartNextLayer_framed (who : Requester) (n : Fin 12) (s : State) : Framed (.restartNextLayer who n) s := by
  unfold Framed partsOf regsOf; dsimp only
  exact ⟨_, rfl, scnRestart_frame (fun _ => (setSc_changes ..).within.op (setFld_frame ..))⟩

theorem pathLoRead_framed (who : Requester) (n : Fin 12) (s : State) : Framed (.pathLoRead who n) s := by
  unfold Framed partsOf regsOf; dsimp only
  exact ⟨_, rfl, readGate_frame ((((refresh_changes ..).within.op (wr_frame ..)).op (wr_frame ..)).op (emit_frame ..))⟩

theorem records_framed {c : Instr} (hch : chapterOf c = .records) (s : State) : Framed c s := by
  cases c with
  | jumpRecord => exact jumpRecord_framed ..
  | markRecord => exact markRecord_framed ..
  | arcRecord => exact arcRecord_framed ..
  | speedRecord => exact speedRecord_framed ..
  | powerRecord => exact powerRecord_framed ..
  | profileRecord => exact profileRecord_framed ..
  | waitRecord => exact waitRecord_framed ..
  | dwellRecord => exact dwellRecord_framed ..
  | meterRecord => exact meterRecord_framed ..
  | eventRecord => exact eventRecord_framed ..
  | linkRecord => exact linkRecord_framed ..
  | layerEnd => exact layerEnd_framed ..
  | endRecord => exact endRecord_framed ..
  | badRecord => exact badRecord_framed ..
  | blockFetch => exact blockFetch_framed ..
  | streamWindowWrite => exact streamWindowWrite_framed ..
  | dwellEnd => exact dwellEnd_framed ..
  | waitTimeout => exact waitTimeout_framed ..
  | scnStart => exact scnStart_framed ..
  | scnStop => exact scnStop_framed ..
  | restartAtStop => exact restartAtStop_framed ..
  | restartNextRecord => exact restartNextRecord_framed ..
  | restartNextLayer => exact restartNextLayer_framed ..
  | pathLoRead => exact pathLoRead_framed ..
  | _ => cases hch

/-! ## The scan motion and shroud commands -/

theorem lateData_framed (n : Fin 12) (dt : Nat) (s : State) : Framed (.lateData n dt) s := by
  unfold Framed partsOf regsOf; dsimp only
  exact ⟨_, rfl, onBeam_frame
    (fun _ => .ite (.refl ..)
    (.ite ((bump_frame ..).within.op (pauseFor_changes ..))
    (((bump_frame ..).within.op (setSc_changes ..)).op (setFld_frame ..))))⟩

theorem shroudFrameSend_framed (n : Fin 12) (dt : Nat) (s : State) : Framed (.shroudFrameSend n dt) s := by
  unfold Framed partsOf regsOf; dsimp only
  exact ⟨_, rfl, onBeam_frame
    (fun _ => .ite (.refl ..)
    ((((Changes.op (.ite (bump_frame ..).within (.refl ..)) (setSc_changes ..)).op (pathValues_changes ..)).op
    (emit_frame ..)).op (shroudLine_changes ..)))⟩

theorem shroudFrameReceived_framed (n : Fin 12) (dt : Nat) (groups : List (BitVec 5)) (s : State) :
    Framed (.shroudFrameReceived n dt groups) s := by
  unfold Framed partsOf regsOf; dsimp only
  refine ⟨_, rfl, onBeam_frame (fun u => ?_)⟩
  extract_lets j u0 _ s1
  refine .ite (.refl ..) ?_
  split
  · exact .ite (bump_frame ..).within (.refl ..)
  · extract_lets status temp s2 s3 s4 s5 s6
    refine .cut (x := u0) (.ite (.refl ..) (shroudHunt_changes ..).within) fun h => .ite h ?_
    refine .cut (x := s2) ((((h.op (setSc_changes ..)).op (setFld_frame ..)).op (setFld_frame ..)).op (wr_frame ..)) fun h2 => ?_
    refine .cut (x := s5) ((Changes.op (t := s3) (.ite (h2.op (bump_frame ..)) h2) (headPosition_changes ..)).op
      (headTemp_changes ..)) fun h5 => ?_
    exact .cut (x := s6) (.ite (h5.op (hardHaltActive_changes ..)) h5) fun h6 => .ite h6 (h6.op (headNotReady_changes ..))

theorem shroudLost_framed (n : Fin 12) (dt : Nat) (s : State) : Framed (.shroudLost n dt) s := by
  unfold Framed partsOf regsOf; dsimp only
  exact ⟨_, rfl, onBeam_frame
    (fun _ => .ite (.refl ..) (.ite ((setFld_frame ..).within.op (hardHalt_changes ..)) (setFld_frame ..).within))⟩

theorem clearanceCheck_framed (dt : Nat) (s : State) : Framed (.clearanceCheck dt) s := by
  unfold Framed partsOf regsOf; dsimp only
  refine ⟨_, rfl, ?_⟩
  extract_lets s0 _ s1 ys
  refine .cut (x := s0) (.op (.ite (passTo_changes ..).within (advance_frame ..).within) (refreshAll_changes ..)) fun h => ?_
  exact .ite h (.op (t := s1) (.beams h (by decide)) (checkBeams_changes ..))

theorem rampOffEnd_framed (n : Fin 12) (dt : Nat) (s : State) : Framed (.rampOffEnd n dt) s := by
  unfold Framed partsOf regsOf; dsimp only
  exact ⟨_, rfl, phaseEnd_frame (fun _ _ _ => (setPhaseAt_changes ..).within.op (setWant_changes ..))⟩

theorem decelEnd_framed (n : Fin 12) (dt : Nat) (s : State) : Framed (.decelEnd n dt) s := by
  unfold Framed partsOf regsOf; dsimp only
  exact ⟨_, rfl, phaseEnd_frame (fun _ _ _ => (parked_changes ..).within.op (resumeCheck_changes ..))⟩

theorem backupEnd_framed (n : Fin 12) (dt : Nat) (s : State) : Framed (.backupEnd n dt) s := by
  unfold Framed partsOf regsOf; dsimp only
  exact ⟨_, rfl, phaseEnd_frame
    (fun _ _ _ => .ite ((setSc_changes ..).within.op (haltAt_changes ..))
    (.ite ((setPhaseAt_changes ..).within.op (rotRequest_changes ..)) (setPhaseAt_changes ..).within))⟩

theorem refireHoldEnd_framed (n : Fin 12) (dt : Nat) (s : State) : Framed (.refireHoldEnd n dt) s := by
  unfold Framed partsOf regsOf; dsimp only
  exact ⟨_, rfl, phaseEnd_frame (fun _ _ _ => .ite (.refl ..) (setPhaseAt_changes ..).within)⟩

theorem reentryEnd_framed (n : Fin 12) (dt : Nat) (s : State) : Framed (.reentryEnd n dt) s := by
  unfold Framed partsOf regsOf; dsimp only
  exact ⟨_, rfl, phaseEnd_frame
    (fun _ _ _ => .ite (.refl ..)
    (.ite ((setWant_changes ..).within.op (endPause_changes ..)) ((setPhaseAt_changes ..).within.op (setWant_changes ..))))⟩

theorem rampOnEnd_framed (n : Fin 12) (dt : Nat) (s : State) : Framed (.rampOnEnd n dt) s := by
  unfold Framed partsOf regsOf; dsimp only
  exact ⟨_, rfl, phaseEnd_frame (fun _ _ _ => (endPause_changes ..).within)⟩

theorem rotationHoldEnd_framed (n : Fin 12) (dt : Nat) (s : State) : Framed (.rotationHoldEnd n dt) s := by
  unfold Framed partsOf regsOf; dsimp only
  refine ⟨_, rfl, onBeam_frame (fun _ => ?_)⟩
  split
  · exact ((passTo_changes ..).within.op (refresh_changes ..)).op (setSc_changes ..)
  · exact .refl ..

theorem calibRecord_framed (record : List (BitVec 8)) (s : State) : Framed (.calibRecord record) s := by
  unfold Framed partsOf regsOf; dsimp only
  exact ⟨_, rfl, .ite (.ite (bump_frame ..).within (.refl ..)) (Changes.op (.cal (.refl ..) (by decide)) (bump_frame ..))⟩

theorem shroudSyncLost_framed (n : Fin 12) (s : State) : Framed (.shroudSyncLost n) s := by
  unfold Framed partsOf regsOf; dsimp only
  exact ⟨_, rfl, .ite ((setSc_changes ..).within.op (bump_frame ..)) (.refl ..)⟩

theorem scanMotion_framed {c : Instr} (hch : chapterOf c = .scanMotion) (s : State) : Framed c s := by
  cases c with
  | lateData => exact lateData_framed ..
  | shroudFrameSend => exact shroudFrameSend_framed ..
  | shroudFrameReceived => exact shroudFrameReceived_framed ..
  | shroudLost => exact shroudLost_framed ..
  | clearanceCheck => exact clearanceCheck_framed ..
  | rampOffEnd => exact rampOffEnd_framed ..
  | decelEnd => exact decelEnd_framed ..
  | backupEnd => exact backupEnd_framed ..
  | refireHoldEnd => exact refireHoldEnd_framed ..
  | reentryEnd => exact reentryEnd_framed ..
  | rampOnEnd => exact rampOnEnd_framed ..
  | rotationHoldEnd => exact rotationHoldEnd_framed ..
  | calibRecord => exact calibRecord_framed ..
  | shroudSyncLost => exact shroudSyncLost_framed ..
  | _ => cases hch

/-! ## The lighting and projector commands -/

theorem strobeStart_framed (n : Fin 8) (dt : Nat) (s : State) : Framed (.strobeStart n dt) s := by
  unfold Framed partsOf regsOf; dsimp only
  refine ⟨_, rfl, ?_⟩
  split
  · exact (advance_frame ..).within
  · exact onLum_frame (fun _ => .ite (setLm_changes ..).within ((setLm_changes ..).within.op (lumGate_changes ..)))

theorem strobeEnd_framed (n : Fin 8) (dt : Nat) (s : State) : Framed (.strobeEnd n dt) s := by
  unfold Framed partsOf regsOf; dsimp only
  refine ⟨_, rfl, ?_⟩
  split
  · exact (advance_frame ..).within
  · exact onLum_frame (fun _ => (setLm_changes ..).within.op (lumGate_changes ..))

theorem dimPulse_framed (n : Fin 8) (dt : Nat) (s : State) : Framed (.dimPulse n dt) s := by
  unfold Framed partsOf regsOf; dsimp only
  exact ⟨_, rfl, onLum_frame
    (fun _ => .ite (.refl ..) (.ite (setLm_changes ..).within ((setLm_changes ..).within.op (gateRise_changes ..))))⟩

theorem diagWindow_framed (n : Fin 8) (dt : Nat) (im : BitVec 17) (uv : BitVec 22) (atLimit : Bool) (s : State) :
    Framed (.diagWindow n dt im uv atLimit) s := by
  unfold Framed partsOf regsOf; dsimp only
  refine ⟨_, rfl, ?_⟩
  extract_lets x e long s0 op sh s1 s2 s3 s4
  refine .ite (advance_frame ..).within ?_
  refine .cut (x := s2) (((passTo_changes ..).within.op (setLm_changes ..)).op (setFld_frame ..)) fun h2 => ?_
  refine .cut (x := s3) (.ite (h2.op (lumFault_changes ..)) h2) fun h3 => ?_
  exact .op (t := s4) (.ite (h3.op (lumFault_changes ..)) h3) (lumGate_changes ..)

theorem lightFault_framed (n : Fin 8) (dt : Nat) (current : BitVec 18) (s : State) : Framed (.lightFault n dt current) s := by
  unfold Framed partsOf regsOf; dsimp only
  exact ⟨_, rfl, onLum_frame
    (fun _ => .ite (.refl ..)
    (.ite (.ite (lumFault_changes ..).within (.refl ..)) (.ite (lumFault_changes ..).within (.refl ..))))⟩

theorem lightFaultClear_framed (who : Requester) (n : Fin 8) (bits : BitVec 4) (persist : BitVec 4) (s : State) :
    Framed (.lightFaultClear who n bits persist) s := by
  unfold Framed partsOf regsOf; dsimp only
  exact ⟨_, rfl, writeGate_frame ((wr_frame ..).within.op (lumGate_changes ..))⟩

theorem verdictDue_framed (n : Fin 8) (dt : Nat) (s : State) : Framed (.verdictDue n dt) s := by
  unfold Framed partsOf regsOf; dsimp only
  exact ⟨_, rfl, .ite (advance_frame ..).within ((passTo_changes ..).within.op (setLm_changes ..))⟩

theorem diagPulse_framed (n : Fin 8) (dt : Nat) (s : State) : Framed (.diagPulse n dt) s := by
  unfold Framed partsOf regsOf; dsimp only
  refine ⟨_, rfl, ?_⟩
  dsimp only
  split
  · exact (advance_frame ..).within
  · exact .ite (advance_frame ..).within (((passTo_changes ..).within.op (setLm_changes ..)).op (gateRise_changes ..))

theorem undiagnosed_framed (n : Fin 8) (dt : Nat) (s : State) : Framed (.undiagnosed n dt) s := by
  unfold Framed partsOf regsOf; dsimp only
  refine ⟨_, rfl, ?_⟩
  dsimp only
  split
  · exact (advance_frame ..).within
  · exact .ite (advance_frame ..).within
      ((((passTo_changes ..).within.op (setLm_changes ..)).op (setFld_frame ..)).op (bump_frame ..))

theorem vfTest_framed (who : Requester) (n : Fin 8) (s : State) : Framed (.vfTest who n) s := by
  unfold Framed partsOf regsOf; dsimp only
  exact ⟨_, rfl, writeGate_frame (.ite (.refl ..) (.ite (setFld_frame ..).within (vfStart_changes ..).within))⟩

theorem vfPeriod_framed (dt : Nat) (s : State) : Framed (.vfPeriod dt) s := by
  unfold Framed partsOf regsOf; dsimp only
  exact ⟨_, rfl, .ite (advance_frame ..).within (Changes.op (.proj (passTo_changes ..).within (by decide)) (vfAll_changes ..))⟩

theorem vfTestEnd_framed (n : Fin 8) (dt : Nat) (uv : BitVec 22) (s : State) : Framed (.vfTestEnd n dt uv) s := by
  unfold Framed partsOf regsOf; dsimp only
  refine ⟨_, rfl, ?_⟩
  split
  · exact (advance_frame ..).within
  · extract_lets s0 v f _ s1
    have h0 : Changes [.fine, .freeCtr] [] s s0 := (s.passTo_changes ..).within
    clear_value s0
    have hf : Changes [.fine, .freeCtr] [] s f.2 := .snd_ite h0 (h0.op (freeBits_changes ..))
    refine .cut (x := s1) (((hf.within.op (setLm_changes ..)).op (setFld_frame ..)).op (lumGate_changes ..)) fun h1 => ?_
    exact .ite ((h1.op (setFld_frame ..)).op (lumPublish_changes ..)) h1

theorem projSwap_framed (who : Requester) (s : State) : Framed (.projSwap who) s := by
  unfold Framed partsOf regsOf; dsimp only
  exact ⟨_, rfl, writeGate_frame (swapReq_changes ..).within⟩

theorem refreshFrameStart_framed (dt : Nat) (s : State) : Framed (.refreshFrameStart dt) s := by
  unfold Framed partsOf regsOf; dsimp only
  exact ⟨_, rfl, .ite (advance_frame ..).within ((passTo_changes ..).within.op (frameStart_changes ..))⟩

theorem scanLine_framed (dt : Nat) (s : State) : Framed (.scanLine dt) s := by
  unfold Framed partsOf regsOf; dsimp only
  refine ⟨_, rfl, ?_⟩
  split
  · exact (advance_frame ..).within
  · exact .ite (advance_frame ..).within
      ((Changes.op (.proj (passTo_changes ..).within (by decide)) (emit_frame ..)).op (emit_frame ..))

theorem projSync_framed (dt : Nat) (rising : Bool) (s : State) : Framed (.projSync dt rising) s := by
  unfold Framed partsOf regsOf; dsimp only
  exact ⟨_, rfl, .ite (advance_frame ..).within
    (.ite ((advance_frame ..).within.op (frameStart_changes ..))
    (.ite ((advance_frame ..).within.op (bump_frame ..)) (.proj (advance_frame ..).within (by decide))))⟩

theorem frameBufferWrite_framed (who : Requester) (fb : Bool) (word : Fin 3072) (v : BitVec 32) (s : State) :
    Framed (.frameBufferWrite who fb word v) s := by
  unfold Framed partsOf regsOf; dsimp only
  exact ⟨_, rfl, writeGate_frame (.ite (bump_frame ..).within (memWr_frame ..).within)⟩

theorem defectMapWrite_framed (who : Requester) (word : Fin 384) (v : BitVec 32) (s : State) :
    Framed (.defectMapWrite who word v) s := by
  unfold Framed partsOf regsOf; dsimp only
  exact ⟨_, rfl, writeGate_frame (memWr_frame ..).within⟩

theorem pixTest_framed (who : Requester) (s : State) : Framed (.pixTest who) s := by
  unfold Framed partsOf regsOf; dsimp only
  exact ⟨_, rfl, writeGate_frame (.ite (.refl ..) (pixStart_changes ..).within)⟩

theorem pixelJudge_framed (dt : Nat) (current : Nat) (volt : Nat) (s : State) : Framed (.pixelJudge dt current volt) s := by
  unfold Framed partsOf regsOf; dsimp only
  refine ⟨_, rfl, ?_⟩
  extract_lets s0 k i op sh a s1 s2 s3 _ s4
  refine .ite (advance_frame ..).within (.cut (x := s0) (passTo_changes ..).within fun h0 => ?_)
  refine .cut (x := s1) (.ite (h0.op (memWr_frame ..)) h0) fun h1 => .cut (x := s2) (.ite (h1.op (bump_frame ..)) h1) fun h2 => ?_
  refine .cut (x := s4) (.proj (t := s3) (.ite (h2.op (bump_frame ..)) h2) (by decide)) fun h4 => ?_
  exact .ite (h4.op (setFld_frame ..)) (h4.op (emit_frame ..))

theorem lumSeqEnd_framed (s : State) : Framed .lumSeqEnd s := by
  unfold Framed partsOf regsOf; dsimp only
  exact ⟨_, rfl, lseqIssue_frame (lseqStop_changes ..).within⟩

theorem lumSeqLevel_framed (n : Fin 8) (level : BitVec 16) (host : Bool) (s : State) : Framed (.lumSeqLevel n level host) s := by
  unfold Framed partsOf regsOf; dsimp only
  exact ⟨_, rfl, lseqIssue_frame
    (Changes.op (.ite (.refl ..) ((setFld_frame ..).within.op (lumGate_changes ..))) (lseqNext_changes ..))⟩

theorem lumSeqStrobe_framed (mask : BitVec 8) (s : State) : Framed (.lumSeqStrobe mask) s := by
  unfold Framed partsOf regsOf; dsimp only
  exact ⟨_, rfl, lseqIssue_frame ((strobeMask_changes ..).within.op (lseqNext_changes ..))⟩

theorem loadpat_framed (slot : Fin 16) (s : State) : Framed (.loadpat slot) s := by
  unfold Framed partsOf regsOf; dsimp only
  exact ⟨_, rfl, lseqIssue_frame (lseqNext_changes ..).within⟩

theorem loadpatDone_framed (dt : Nat) (s : State) : Framed (.loadpatDone dt) s := by
  unfold Framed partsOf regsOf; dsimp only
  refine ⟨_, rfl, ?_⟩
  split
  · exact .ite (advance_frame ..).within (.proj ((passTo_changes ..).within.op (copyPat_changes ..)) (by decide))
  · exact (advance_frame ..).within

theorem lumSeqSwap_framed (wait : Bool) (s : State) : Framed (.lumSeqSwap wait) s := by
  unfold Framed partsOf regsOf; dsimp only
  exact ⟨_, rfl, lseqIssue_frame ((swapReq_changes ..).within.op (lseqNext_changes ..))⟩

theorem waithal_framed (task : Fin 4) (s : State) : Framed (.waithal task) s := by
  unfold Framed partsOf regsOf; dsimp only
  refine ⟨_, rfl, lseqIssue_frame ?_⟩
  split
  · exact Changes.op (.proj (.refl ..) (by decide)) (lseqNext_changes ..)
  · exact (lseqNext_changes ..).within

theorem waitus_framed (us : BitVec 24) (s : State) : Framed (.waitus us) s := by
  unfold Framed partsOf regsOf; dsimp only
  exact ⟨_, rfl, lseqIssue_frame (lseqNext_changes ..).within⟩

theorem waitusEnd_framed (dt : Nat) (s : State) : Framed (.waitusEnd dt) s := by
  unfold Framed partsOf regsOf; dsimp only
  refine ⟨_, rfl, ?_⟩
  split
  · exact .proj (passTo_changes ..).within (by decide)
  · exact (advance_frame ..).within

theorem lumSeqEvent_framed (code : BitVec 8) (s : State) : Framed (.lumSeqEvent code) s := by
  unfold Framed partsOf regsOf; dsimp only
  exact ⟨_, rfl, lseqIssue_frame ((publish_changes ..).within.op (lseqNext_changes ..))⟩

theorem lumSeqLoop_framed (body : BitVec 10) (count : BitVec 16) (s : State) : Framed (.lumSeqLoop body count) s := by
  unfold Framed partsOf regsOf; dsimp only
  exact ⟨_, rfl, lseqIssue_frame (.ite (lseqErr_changes ..).within (.ite (lseqAt_changes ..).within (lseqAt_changes ..).within))⟩

theorem lumSeqJump_framed (word : Fin 1024) (s : State) : Framed (.lumSeqJump word) s := by
  unfold Framed partsOf regsOf; dsimp only
  exact ⟨_, rfl, lseqIssue_frame (lseqAt_changes ..).within⟩

theorem lumSeqReserved_framed (s : State) : Framed .lumSeqReserved s := by
  unfold Framed partsOf regsOf; dsimp only
  exact ⟨_, rfl, lseqIssue_frame (lseqErr_changes ..).within⟩

theorem light_framed {c : Instr} (hch : chapterOf c = .light) (s : State) : Framed c s := by
  cases c with
  | strobeStart => exact strobeStart_framed ..
  | strobeEnd => exact strobeEnd_framed ..
  | dimPulse => exact dimPulse_framed ..
  | diagWindow => exact diagWindow_framed ..
  | lightFault => exact lightFault_framed ..
  | lightFaultClear => exact lightFaultClear_framed ..
  | verdictDue => exact verdictDue_framed ..
  | diagPulse => exact diagPulse_framed ..
  | undiagnosed => exact undiagnosed_framed ..
  | vfTest => exact vfTest_framed ..
  | vfPeriod => exact vfPeriod_framed ..
  | vfTestEnd => exact vfTestEnd_framed ..
  | projSwap => exact projSwap_framed ..
  | refreshFrameStart => exact refreshFrameStart_framed ..
  | scanLine => exact scanLine_framed ..
  | projSync => exact projSync_framed ..
  | frameBufferWrite => exact frameBufferWrite_framed ..
  | defectMapWrite => exact defectMapWrite_framed ..
  | pixTest => exact pixTest_framed ..
  | pixelJudge => exact pixelJudge_framed ..
  | lumSeqEnd => exact lumSeqEnd_framed ..
  | lumSeqLevel => exact lumSeqLevel_framed ..
  | lumSeqStrobe => exact lumSeqStrobe_framed ..
  | loadpat => exact loadpat_framed ..
  | loadpatDone => exact loadpatDone_framed ..
  | lumSeqSwap => exact lumSeqSwap_framed ..
  | waithal => exact waithal_framed ..
  | waitus => exact waitus_framed ..
  | waitusEnd => exact waitusEnd_framed ..
  | lumSeqEvent => exact lumSeqEvent_framed ..
  | lumSeqLoop => exact lumSeqLoop_framed ..
  | lumSeqJump => exact lumSeqJump_framed ..
  | lumSeqReserved => exact lumSeqReserved_framed ..
  | _ => cases hch

/-! ## The halyard commands -/

theorem halPublish_framed (who : Requester) (v : BitVec 32) (s : State) : Framed (.halPublish who v) s := by
  unfold Framed partsOf regsOf; dsimp only
  exact ⟨_, rfl, writeGate_frame (.ite (.refl ..) (.ite (refuseHal_changes ..).within (enqueue_changes ..).within))⟩

theorem halGroupCmd_framed (who : Requester) (v : BitVec 32) (met : BitVec 16) (s : State) :
    Framed (.halGroupCmd who v met) s := by
  unfold Framed partsOf regsOf; dsimp only
  exact ⟨_, rfl, writeGate_frame (groups_changes ..).within⟩

theorem halSubWrite_framed (who : Requester) (t : Fin 512) (v : BitVec 32) (s : State) : Framed (.halSubWrite who t v) s := by
  unfold Framed partsOf regsOf; dsimp only
  exact ⟨_, rfl, writeGate_frame
    (.ite (.refl ..) (.ite (refuseHal_changes ..).within (.ite (refuseHal_changes ..).within (stage_frame ..).within)))⟩

theorem halProdBindWrite_framed (who : Requester) (p : Fin 1024) (v : BitVec 32) (s : State) :
    Framed (.halProdBindWrite who p v) s := by
  unfold Framed partsOf regsOf; dsimp only
  exact ⟨_, rfl, writeGate_frame (.ite (.refl ..) (.ite (refuseHal_changes ..).within (stage_frame ..).within))⟩

theorem halSeqCmd_framed (who : Requester) (v : BitVec 32) (s : State) : Framed (.halSeqCmd who v) s := by
  unfold Framed partsOf regsOf; dsimp only
  exact ⟨_, rfl, writeGate_frame (.ite (startSeq_changes ..).within (.refl ..))⟩

theorem halSeqEnd_framed (q : Fin 32) (s : State) : Framed (.halSeqEnd q) s := by
  unfold Framed partsOf regsOf; dsimp only
  exact ⟨_, rfl, seqIssue_frame (fun _ => (endSeq_changes ..).within)⟩

theorem pub_framed (q : Fin 32) (halyard : BitVec 8) (code : BitVec 8) (s : State) : Framed (.pub q halyard code) s := by
  unfold Framed partsOf regsOf; dsimp only
  exact ⟨_, rfl, seqIssue_frame (fun _ => (setHseq_changes ..).within.op (enqueue_changes ..))⟩

theorem delay_framed (q : Fin 32) (us : BitVec 24) (s : State) : Framed (.delay q us) s := by
  unfold Framed partsOf regsOf; dsimp only
  exact ⟨_, rfl, seqIssue_frame (fun _ => (setHseq_changes ..).within)⟩

theorem delayEnd_framed (q : Fin 32) (s : State) : Framed (.delayEnd q) s := by
  unfold Framed partsOf regsOf; dsimp only
  exact ⟨_, rfl, .ite (Changes.op (.fine (.refl ..) (by decide)) (setHseq_changes ..)) (.refl ..)⟩

theorem halSeqWait_framed (q : Fin 32) (us : BitVec 24) (s : State) : Framed (.halSeqWait q us) s := by
  unfold Framed partsOf regsOf; dsimp only
  refine ⟨_, rfl, seqIssue_frame (fun _ => ?_)⟩
  split
  · exact (setHseq_changes ..).within
  · exact (setHseq_changes ..).within

theorem halSeqWaitTimeout_framed (q : Fin 32) (s : State) : Framed (.halSeqWaitTimeout q) s := by
  unfold Framed partsOf regsOf; dsimp only
  exact ⟨_, rfl, .ite ((Changes.op (.fine (.refl ..) (by decide)) (endSeq_changes ..)).op (wr_frame ..)) (.refl ..)⟩

theorem gen_framed (q : Fin 32) (mask : BitVec 16) (met : BitVec 16) (s : State) : Framed (.gen q mask met) s := by
  unfold Framed partsOf regsOf; dsimp only
  exact ⟨_, rfl, seqIssue_frame (fun _ => (setHseq_changes ..).within.op (groups_changes ..))⟩

theorem gdis_framed (q : Fin 32) (mask : BitVec 16) (s : State) : Framed (.gdis q mask) s := by
  unfold Framed partsOf regsOf; dsimp only
  exact ⟨_, rfl, seqIssue_frame (fun _ => (setHseq_changes ..).within.op (groups_changes ..))⟩

theorem halSeqLoop_framed (q : Fin 32) (body : BitVec 10) (count : BitVec 16) (s : State) :
    Framed (.halSeqLoop q body count) s := by
  unfold Framed partsOf regsOf; dsimp only
  exact ⟨_, rfl, seqIssue_frame
    (fun _ => .ite (seqErr_changes ..).within (.ite (setHseq_changes ..).within (setHseq_changes ..).within))⟩

theorem halSeqJump_framed (q : Fin 32) (word : BitVec 11) (s : State) : Framed (.halSeqJump q word) s := by
  unfold Framed partsOf regsOf; dsimp only
  exact ⟨_, rfl, seqIssue_frame (fun _ => (setHseq_changes ..).within)⟩

theorem halSeqReserved_framed (q : Fin 32) (s : State) : Framed (.halSeqReserved q) s := by
  unfold Framed partsOf regsOf; dsimp only
  exact ⟨_, rfl, seqIssue_frame (fun _ => (seqErr_changes ..).within)⟩

theorem halyards_framed {c : Instr} (hch : chapterOf c = .halyards) (s : State) : Framed c s := by
  cases c with
  | halPublish => exact halPublish_framed ..
  | halGroupCmd => exact halGroupCmd_framed ..
  | halSubWrite => exact halSubWrite_framed ..
  | halProdBindWrite => exact halProdBindWrite_framed ..
  | halSeqCmd => exact halSeqCmd_framed ..
  | halSeqEnd => exact halSeqEnd_framed ..
  | pub => exact pub_framed ..
  | delay => exact delay_framed ..
  | delayEnd => exact delayEnd_framed ..
  | halSeqWait => exact halSeqWait_framed ..
  | halSeqWaitTimeout => exact halSeqWaitTimeout_framed ..
  | gen => exact gen_framed ..
  | gdis => exact gdis_framed ..
  | halSeqLoop => exact halSeqLoop_framed ..
  | halSeqJump => exact halSeqJump_framed ..
  | halSeqReserved => exact halSeqReserved_framed ..
  | _ => cases hch

/-! ## The time and ring commands -/

theorem timeStep_framed (who : Requester) (s : State) : Framed (.timeStep who) s := by
  unfold Framed partsOf regsOf; dsimp only
  exact ⟨_, rfl, writeGate_frame (timStep_changes ..).within⟩

theorem timSwitch_framed (who : Requester) (met : Bool) (s : State) : Framed (.timSwitch who met) s := by
  unfold Framed partsOf regsOf; dsimp only
  exact ⟨_, rfl, writeGate_frame (timSwitch_changes ..).within⟩

theorem sync_framed (p : Fin 2) (dt : Nat) (m : PtpMsg) (met : Bool) (s : State) : Framed (.sync p dt m met) s := by
  unfold Framed partsOf regsOf; dsimp only
  exact ⟨_, rfl, ptpIn_frame
    (fun _ _ => .ite (.refl ..)
    (.ite ((setPtpDom_changes ..).within.op (setInst_changes ..)) ((setInst_changes ..).within.op (measure_changes ..))))⟩

theorem followUp_framed (p : Fin 2) (m : PtpMsg) (met : Bool) (s : State) : Framed (.followUp p m met) s := by
  unfold Framed partsOf regsOf; dsimp only
  refine ⟨_, rfl, ptpIn_frame (fun _ _ => ?_)⟩
  split
  · exact .ite ((setInst_changes ..).within.op (measure_changes ..)) (.refl ..)
  · exact .refl ..

theorem announce_framed (p : Fin 2) (dt : Nat) (m : PtpMsg) (s : State) : Framed (.announce p dt m) s := by
  unfold Framed partsOf regsOf; dsimp only
  exact ⟨_, rfl, ptpIn_frame (fun _ _ => .ite (.refl ..) ((setInst_changes ..).within.op (ptpUpdate_changes ..)))⟩

theorem delayReq_framed (p : Fin 2) (dt : Nat) (m : PtpMsg) (s : State) : Framed (.delayReq p dt m) s := by
  unfold Framed partsOf regsOf; dsimp only
  exact ⟨_, rfl, ptpIn_frame (fun _ _ => .ite (.refl ..) (emit_frame ..).within)⟩

theorem delayResp_framed (p : Fin 2) (m : PtpMsg) (s : State) : Framed (.delayResp p m) s := by
  unfold Framed partsOf regsOf; dsimp only
  refine ⟨_, rfl, ptpIn_frame (fun _ _ => ?_)⟩
  dsimp only
  split
  · exact .ite ((setInst_changes ..).within.op (setPath_changes ..)) (.refl ..)
  · exact .refl ..

theorem pdelayReq_framed (p : Fin 2) (dt : Nat) (m : PtpMsg) (s : State) : Framed (.pdelayReq p dt m) s := by
  unfold Framed partsOf regsOf; dsimp only
  exact ⟨_, rfl, ptpIn_frame (fun _ _ => .ite (.refl ..) (((freeBits_changes ..).within.op (emit_frame ..)).op (emit_frame ..)))⟩

theorem pdelayResp_framed (p : Fin 2) (dt : Nat) (m : PtpMsg) (s : State) : Framed (.pdelayResp p dt m) s := by
  unfold Framed partsOf regsOf; dsimp only
  refine ⟨_, rfl, ptpIn_frame (fun _ _ => ?_)⟩
  split
  · exact .ite (.ite (setInst_changes ..).within (peerPath_changes ..).within) (.refl ..)
  · exact .refl ..

theorem pdelayRespFollowUp_framed (p : Fin 2) (m : PtpMsg) (s : State) : Framed (.pdelayRespFollowUp p m) s := by
  unfold Framed partsOf regsOf; dsimp only
  refine ⟨_, rfl, ptpIn_frame (fun _ _ => ?_)⟩
  split
  · exact .ite (peerPath_changes ..).within (.refl ..)
  · exact .refl ..

theorem syncSend_framed (d : Fin 2) (p : Fin 2) (dt : Nat) (s : State) : Framed (.syncSend d p dt) s := by
  unfold Framed partsOf regsOf; dsimp only
  exact ⟨_, rfl, onInst_frame (fun _ => .ite (.refl ..) (((setInst_changes ..).within.op (emit_frame ..)).op (emit_frame ..)))⟩

theorem announceSend_framed (d : Fin 2) (p : Fin 2) (dt : Nat) (s : State) : Framed (.announceSend d p dt) s := by
  unfold Framed partsOf regsOf; dsimp only
  exact ⟨_, rfl, onInst_frame (fun _ => .ite (.refl ..) ((setInst_changes ..).within.op (emit_frame ..)))⟩

theorem delayReqSend_framed (d : Fin 2) (p : Fin 2) (dt : Nat) (s : State) : Framed (.delayReqSend d p dt) s := by
  unfold Framed partsOf regsOf; dsimp only
  exact ⟨_, rfl, onInst_frame (fun _ => .ite (.refl ..) ((setInst_changes ..).within.op (emit_frame ..)))⟩

theorem syncLossTimeout_framed (d : Fin 2) (dt : Nat) (s : State) : Framed (.syncLossTimeout d dt) s := by
  unfold Framed partsOf regsOf; dsimp only
  exact ⟨_, rfl, .ite (advance_frame ..).within
    ((((passTo_changes ..).within.op (setPtpDom_changes ..)).op (domGoto_changes ..)).op (alignShow_changes ..))⟩

theorem announceReceiptTimeout_framed (d : Fin 2) (p : Fin 2) (dt : Nat) (s : State) :
    Framed (.announceReceiptTimeout d p dt) s := by
  unfold Framed partsOf regsOf; dsimp only
  refine ⟨_, rfl, onInst_frame (fun u => ?_)⟩
  extract_lets st _ s1 followed _ s2 s3
  refine .cut (x := s1) (setInst_changes ..).within fun h1 => ?_
  refine .cut (x := s2) (.ite ((h1.op (setPtpDom_changes ..)).op (domGoto_changes ..)) h1) fun h2 => ?_
  exact .op (t := s3) (.ite (h2.op (setPortState_changes ..)) (h2.op (setPortState_changes ..))) (ptpUpdate_changes ..)

theorem portLinkChange_framed (p : Fin 2) (up : Bool) (modAbs : Bool) (los : Bool) (txFault : Bool) (s : State) :
    Framed (.portLinkChange p up modAbs los txFault) s := by
  unfold Framed partsOf regsOf; dsimp only
  exact ⟨_, rfl, .ite (.refl ..)
    ((wr_frame ..).within.trans
    (eachOf_changes (fun _ _ => .ite (.refl ..)
    (.ite ((setInst_changes ..).within.op (setPortState_changes ..))
    (.ite (.refl ..) ((setInst_changes ..).within.op (setPortState_changes ..))))) ..))⟩

theorem moduleInsert_framed (p : Fin 2) (data : List (BitVec 8)) (s : State) : Framed (.moduleInsert p data) s := by
  unfold Framed partsOf regsOf; dsimp only
  exact ⟨_, rfl, .ite (.refl ..) ((Changes.op (.tim (.refl ..) (by decide)) (setFld_frame ..)).op (setFld_frame ..))⟩

theorem modulePoll_framed (p : Fin 2) (dt : Nat) (data : List (BitVec 8)) (s : State) : Framed (.modulePoll p dt data) s := by
  unfold Framed partsOf regsOf; dsimp only
  exact ⟨_, rfl, .ite (advance_frame ..).within (.tim (passTo_changes ..).within (by decide))⟩

theorem scheduleArm_framed (who : Requester) (k : Fin 8) (v : BitVec 32) (s : State) : Framed (.scheduleArm who k v) s := by
  unfold Framed partsOf regsOf; dsimp only
  exact ⟨_, rfl, writeGate_frame (schCommand_changes ..).within⟩

theorem scheduleDisarm_framed (who : Requester) (k : Fin 8) (v : BitVec 32) (s : State) : Framed (.scheduleDisarm who k v) s := by
  unfold Framed partsOf regsOf; dsimp only
  exact ⟨_, rfl, writeGate_frame (schCommand_changes ..).within⟩

theorem scheduleFire_framed (k : Fin 8) (dt : Nat) (s : State) : Framed (.scheduleFire k dt) s := by
  unfold Framed partsOf regsOf; dsimp only
  exact ⟨_, rfl, .ite (advance_frame ..).within
    ((((passBy_changes ..).within.op (passTo_changes ..)).op (schFire_changes ..)).op (schNext_changes ..))⟩

theorem toutPulseEnd_framed (k : Fin 8) (dt : Nat) (s : State) : Framed (.toutPulseEnd k dt) s := by
  unfold Framed partsOf regsOf; dsimp only
  refine ⟨_, rfl, ?_⟩
  dsimp only
  split
  · exact (advance_frame ..).within
  · exact (((passTo_changes ..).within.op (setSched_changes ..)).op (emit_frame ..)).op (schIdle_changes ..)

theorem capSecLoRead_framed (who : Requester) (k : Fin 8) (s : State) : Framed (.capSecLoRead who k) s := by
  unfold Framed partsOf regsOf; dsimp only
  exact ⟨_, rfl, readGate_frame ((((wr_frame ..).within.op (wr_frame ..)).op (setFld_frame ..)).op (emit_frame ..))⟩

theorem nowSecLoRead_framed (who : Requester) (s : State) : Framed (.nowSecLoRead who) s := by
  unfold Framed partsOf regsOf; dsimp only
  exact ⟨_, rfl, readGate_frame (((wr_frame ..).within.op (wr_frame ..)).op (emit_frame ..))⟩

theorem ringMessage_framed (r : Fin 2) (dt : Nat) (nibs : List (BitVec 4)) (s : State) : Framed (.ringMessage r dt nibs) s := by
  unfold Framed partsOf regsOf; dsimp only
  refine ⟨_, rfl, ?_⟩
  extract_lets s0 l f origin hops code bad x s1 s2 last
  refine .cut (x := s0) ((advance_frame ..).within.op (ringSecond_changes ..)) fun h0 => .ite h0 ?_
  refine .cut (x := s1) (.ite (h0.op (bump_frame ..)) h0) fun h1 => .ite ?_ (.ite (h1.op (bump_frame ..)) ?_)
  · split
    · exact (h1.op (setRing_changes ..)).op (wr_frame ..)
    · exact h1.op (setFld_frame ..)
  · refine .cut (x := s2) (h1.op (ringForward_changes ..)) fun h2 => .ite h2 ?_
    exact ((h2.op (wr_frame ..)).op (bump_frame ..)).op (publish_changes ..)

theorem ringSend_framed (who : Requester) (r : Fin 2) (v : BitVec 32) (s : State) : Framed (.ringSend who r v) s := by
  unfold Framed partsOf regsOf; dsimp only
  exact ⟨_, rfl, writeGate_frame (.ite (ringSend_changes ..).within (.refl ..))⟩

theorem ringSendTimeout_framed (r : Fin 2) (dt : Nat) (s : State) : Framed (.ringSendTimeout r dt) s := by
  unfold Framed partsOf regsOf; dsimp only
  refine ⟨_, rfl, ?_⟩
  split
  · exact (advance_frame ..).within.op (ringSecond_changes ..)
  · exact ((passTo_changes ..).within.op (ringSecond_changes ..)).op (setRing_changes ..)

theorem bypassOpen_framed (r : Fin 2) (dt : Nat) (s : State) : Framed (.bypassOpen r dt) s := by
  unfold Framed partsOf regsOf; dsimp only
  refine ⟨_, rfl, ?_⟩
  split
  · exact (advance_frame ..).within
  · exact (((passTo_changes ..).within.op (setRing_changes ..)).op (setFld_frame ..)).op (emit_frame ..)

theorem time_framed {c : Instr} (hch : chapterOf c = .time) (s : State) : Framed c s := by
  cases c with
  | timeStep => exact timeStep_framed ..
  | timSwitch => exact timSwitch_framed ..
  | sync => exact sync_framed ..
  | followUp => exact followUp_framed ..
  | announce => exact announce_framed ..
  | delayReq => exact delayReq_framed ..
  | delayResp => exact delayResp_framed ..
  | pdelayReq => exact pdelayReq_framed ..
  | pdelayResp => exact pdelayResp_framed ..
  | pdelayRespFollowUp => exact pdelayRespFollowUp_framed ..
  | syncSend => exact syncSend_framed ..
  | announceSend => exact announceSend_framed ..
  | delayReqSend => exact delayReqSend_framed ..
  | syncLossTimeout => exact syncLossTimeout_framed ..
  | announceReceiptTimeout => exact announceReceiptTimeout_framed ..
  | portLinkChange => exact portLinkChange_framed ..
  | moduleInsert => exact moduleInsert_framed ..
  | modulePoll => exact modulePoll_framed ..
  | scheduleArm => exact scheduleArm_framed ..
  | scheduleDisarm => exact scheduleDisarm_framed ..
  | scheduleFire => exact scheduleFire_framed ..
  | toutPulseEnd => exact toutPulseEnd_framed ..
  | capSecLoRead => exact capSecLoRead_framed ..
  | nowSecLoRead => exact nowSecLoRead_framed ..
  | ringMessage => exact ringMessage_framed ..
  | ringSend => exact ringSend_framed ..
  | ringSendTimeout => exact ringSendTimeout_framed ..
  | bypassOpen => exact bypassOpen_framed ..
  | _ => cases hch

/-! ## The boot and session commands -/

theorem loadStart_framed (dt : Nat) (d0 d1 : FlashPort) (dimms : List Dimm) (s : State) :
    Framed (.loadStart dt d0 d1 dimms) s := by
  unfold Framed partsOf regsOf; dsimp only
  refine ⟨_, rfl, .ite (.refl ..) ?_⟩
  extract_lets s1
  refine .cut (x := s1) (((advance_frame ..).within.op (emitAll_changes ..)).op (setFld_frame ..)) fun h1 => ?_
  have hfree := s1.freeBits_changes 16
  clear_value s1
  split
  next mv s2 heq =>
    rw [heq] at hfree
    extract_lets s3 s4 s5 boot s6 pce s7 s8
    refine .cut (x := s3) (((h1.op hfree).op (setFld_frame ..)).op (setFld_frame ..)) fun h3 => ?_
    refine .cut (x := s4) (h3.trans (eachInst_changes (fun _ _ => (setDom_changes ..).within) ..)) fun h4 => ?_
    refine .cut (x := s5) ((((h4.op (flashWrites_changes ..)).op (flashWrites_changes ..)).op (flashSeen_changes ..)).op
      (flashSeen_changes ..)) fun h5 => ?_
    refine .cut (x := s6) (.boot h5 rfl (by decide)) fun h6 => ?_
    refine .cut (x := s7) (.op ?_ (spdReads_changes ..)) fun h7 => ?_
    · exact .pce h6 rfl (by decide)
    refine .cut (x := s8) ((h7.op (setFld_frame ..)).op (wr_frame ..)) fun h8 => ?_
    exact (h8.op (tableCode_changes ..)).op (tryImages_changes ..)

theorem loadEnd_framed (dt : Nat) (failed : List (Fin 16 × Fin 66)) (s : State) : Framed (.loadEnd dt failed) s := by
  unfold Framed partsOf regsOf; dsimp only
  show Answers (execLoadEnd dt failed s) _
  unfold execLoadEnd
  split
  · exact ⟨_, rfl, .refl ..⟩
  next c _ =>
    extract_lets s1 s2 s3 s4 s5 boot helm s6 s7 s8 s9
    refine ⟨_, rfl, ?_⟩
    refine .cut (x := s1) (((loadTime_changes ..).within.op (imageDefaults_changes ..)).op (putSections_changes ..)) fun h1 => ?_
    refine .cut (x := s2) ((h1.op (storeTrained_changes ..)).op (putSections_changes ..)) fun h2 => ?_
    refine .cut (x := s3) (h2.trans (eachInst_changes (fun _ _ => (domLoad_changes ..).within) domOrder _)) fun h3 => ?_
    refine .cut (x := s4) (h3.trans (eachInst_changes (fun _ _ => (setFld_frame ..).within) _ _)) fun h4 => ?_
    refine .cut (x := s5) (h4.trans (eachInst_changes (fun _ _ => (wr_frame ..).within) [0, 1] _)) fun h5 => ?_
    clear_value s5
    refine .cut (x := s6) ?_ fun h6 => ?_
    · exact .helm (t := { s5 with boot := { boot with cand := none, layout := c.layout } }) (.boot h5 rfl (by decide)) (by decide)
    refine .cut (x := s7) (((h6.op (setFld_frame ..)).op (wr_frame ..)).op (setFld_frame ..)) fun h7 => ?_
    refine .cut (x := s8) ((h7.op (wr_frame ..)).op (setMode_changes ..)) fun h8 => ?_
    refine .cut (x := s9)
      ((h8.trans (eachOf_changes (fun _ _ => (laneStart_changes ..).within) _ _)).op (widthErrs_changes ..)) fun h9 => ?_
    exact ((h9.op (unitsFollow_changes ..)).op (emitAll_changes ..)).op (selfTested_changes ..)

theorem erase_framed (who : Requester) (dev : Bool) (s : State) : Framed (.erase who dev) s := by
  unfold Framed partsOf regsOf; dsimp only
  exact ⟨_, rfl, bootOp_frame (writeOp_changes ..).within⟩

theorem programBuf_framed (who : Requester) (dev : Bool) (s : State) : Framed (.programBuf who dev) s := by
  unfold Framed partsOf regsOf; dsimp only
  exact ⟨_, rfl, bootOp_frame (.ite (opResult_changes ..).within (writeOp_changes ..).within)⟩

theorem copyStore_framed (who : Requester) (dev : Bool) (s : State) : Framed (.copyStore who dev) s := by
  unfold Framed partsOf regsOf; dsimp only
  exact ⟨_, rfl, bootOp_frame (.ite (opResult_changes ..).within (writeOp_changes ..).within)⟩

theorem verify_framed (who : Requester) (dev : Bool) (s : State) : Framed (.verify who dev) s := by
  unfold Framed partsOf regsOf; dsimp only
  exact ⟨_, rfl, bootOp_frame (.ite (opStart_changes ..).within (opResult_changes ..).within)⟩

theorem bootSwitch_framed (who : Requester) (dev : Bool) (s : State) : Framed (.bootSwitch who dev) s := by
  unfold Framed partsOf regsOf; dsimp only
  refine ⟨_, rfl, bootOp_frame ?_⟩
  extract_lets d s1 _ s2 _
  refine .ite (opResult_changes ..).within ?_
  split
  · exact (opResult_changes ..).within
  · refine .ite (opResult_changes ..).within
      (.op (.op (.op (.op ?_ (emitAll_changes ..)) (setFld_frame ..)) (setFld_frame ..)) (opResult_changes ..))
    refine .boot (t := s2) ?_ rfl (by decide)
    exact .cal (t := { s1 with staged := [] }) (.staged (bumpBy_frame ..).within (by decide)) (by decide)

theorem cancelSwitch_framed (who : Requester) (dev : Bool) (s : State) : Framed (.cancelSwitch who dev) s := by
  unfold Framed partsOf regsOf; dsimp only
  exact ⟨_, rfl, bootOp_frame ((dropSwitch_changes ..).within.op (opResult_changes ..))⟩

theorem burnSvn_framed (who : Requester) (dev : Bool) (s : State) : Framed (.burnSvn who dev) s := by
  unfold Framed partsOf regsOf; dsimp only
  exact ⟨_, rfl, bootOp_frame
    (.ite (opResult_changes ..).within ((Changes.op (.fuse (.refl ..) (by decide)) (wr_frame ..)).op (opResult_changes ..)))⟩

theorem retire_framed (who : Requester) (dev : Bool) (s : State) : Framed (.retire who dev) s := by
  unfold Framed partsOf regsOf; dsimp only
  exact ⟨_, rfl, bootOp_frame (.ite (opStart_changes ..).within (opResult_changes ..).within)⟩

theorem bootReservedOp_framed (who : Requester) (op : BitVec 4) (s : State) : Framed (.bootReservedOp who op) s := by
  unfold Framed partsOf regsOf; dsimp only
  exact ⟨_, rfl, .ite (writeGate_frame (opResult_changes ..).within) (.refl ..)⟩

theorem flashOpDone_framed (dt : Nat) (errs : List (Nat × BurstErr)) (s : State) : Framed (.flashOpDone dt errs) s := by
  unfold Framed partsOf regsOf; dsimp only
  refine ⟨_, rfl, ?_⟩
  split
  · exact .refl ..
  · split
    · exact ((advance_frame ..).within.op (flashErase_changes ..)).op (opEnd_changes ..)
    · exact ((advance_frame ..).within.op (flashProgram_changes ..)).op (opEnd_changes ..)
    · exact .ite (advance_frame ..).within
        (((((advance_frame ..).within.op (storeFetch_changes ..)).op (flashErase_changes ..)).op (flashProgram_changes ..)).op
        (opEnd_changes ..))
    · exact (advance_frame ..).within.op (verifyEnd_changes ..)
    · exact ((advance_frame ..).within.op (setMark_changes ..)).op (opEnd_changes ..)

theorem stagingDone_framed (dt : Nat) (s : State) : Framed (.stagingDone dt) s := by
  unfold Framed partsOf regsOf; dsimp only
  refine ⟨_, rfl, ?_⟩
  split
  · exact .refl ..
  · exact .ite (advance_frame ..).within
      (.ite (((advance_frame ..).within.op (dropSwitch_changes ..)).op (opResult_changes ..))
      (.ite (((advance_frame ..).within.op (flashIdle_changes ..)).op (setFld_frame ..))
      (((advance_frame ..).within.op (dropSwitch_changes ..)).op (opResult_changes ..))))

theorem mbxOpen_framed (v : BitVec 32) (s : State) : Framed (.mbxOpen v) s := by
  unfold Framed partsOf regsOf; dsimp only
  exact ⟨_, rfl, flrGate_frame (.ite (mbxOpen_changes ..).within (.refl ..))⟩

theorem mbxProof_framed (v : BitVec 32) (s : State) : Framed (.mbxProof v) s := by
  unfold Framed partsOf regsOf; dsimp only
  exact ⟨_, rfl, flrGate_frame (.ite (mbxProof_changes ..).within (.refl ..))⟩

theorem mbxClose_framed (v : BitVec 32) (s : State) : Framed (.mbxClose v) s := by
  unfold Framed partsOf regsOf; dsimp only
  exact ⟨_, rfl, flrGate_frame (.ite (closeMailbox_changes ..).within (.refl ..))⟩

theorem challengeLapse_framed (slot : Option (Fin 4)) (dt : Nat) (s : State) : Framed (.challengeLapse slot dt) s := by
  unfold Framed partsOf regsOf; dsimp only
  unfold exec execChallengeLapse
  dsimp only
  split
  · split
    · exact ⟨_, rfl, .refl ..⟩
    · refine ⟨_, rfl, .op ?_ (setMbxState_changes ..)⟩
      exact .ses (passTo_changes ..).within (by decide)
  · split
    · exact ⟨_, rfl, .refl ..⟩
    · exact ⟨_, rfl, (passTo_changes ..).within.op (setSlot_changes ..)⟩

theorem lockoutEnd_framed (mailbox : Bool) (dt : Nat) (s : State) : Framed (.lockoutEnd mailbox dt) s := by
  unfold Framed partsOf regsOf; dsimp only
  unfold exec execLockoutEnd
  dsimp only
  split
  · exact ⟨_, rfl, .refl ..⟩
  · exact ⟨_, rfl, .ite (.ses (passTo_changes ..).within (by decide)) (.ses (passTo_changes ..).within (by decide))⟩

theorem dgramOpen_framed (p : Fin 2) (dt : Nat) (data : List (BitVec 8)) (s : State) : Framed (.dgramOpen p dt data) s := by
  unfold Framed partsOf regsOf; dsimp only
  exact ⟨_, rfl, dgIn_frame (fun _ _ => (dgOpen_changes ..).within)⟩

theorem dgramProof_framed (p : Fin 2) (dt : Nat) (data : List (BitVec 8)) (s : State) : Framed (.dgramProof p dt data) s := by
  unfold Framed partsOf regsOf; dsimp only
  exact ⟨_, rfl, dgIn_frame (fun _ _ => (dgProof_changes ..).within)⟩

theorem dgramClose_framed (p : Fin 2) (dt : Nat) (data : List (BitVec 8)) (s : State) : Framed (.dgramClose p dt data) s := by
  unfold Framed partsOf regsOf; dsimp only
  exact ⟨_, rfl, dgIn_frame (fun _ _ => dgTag_frame (fun _ _ _ => (slotClose_changes ..).within))⟩

theorem keepalive_framed (p : Fin 2) (dt : Nat) (data : List (BitVec 8)) (s : State) : Framed (.keepalive p dt data) s := by
  unfold Framed partsOf regsOf; dsimp only
  exact ⟨_, rfl, dgIn_frame (fun _ _ => dgTag_frame (fun _ _ _ => .refl ..))⟩

theorem arpRequest_framed (p : Fin 2) (addr : BitVec 32) (s : State) : Framed (.arpRequest p addr) s := by
  unfold Framed partsOf regsOf; dsimp only
  exact ⟨_, rfl, .ite (.refl ..) (.ite (emit_frame ..).within (bump_frame ..).within)⟩

theorem neighbourSolicitation_framed (p : Fin 2) (addr : BitVec 128) (s : State) : Framed (.neighbourSolicitation p addr) s := by
  unfold Framed partsOf regsOf; dsimp only
  exact ⟨_, rfl, .ite (.refl ..) (.ite (emit_frame ..).within (bump_frame ..).within)⟩

theorem sessionIdleTimeout_framed (slot : Fin 4) (dt : Nat) (s : State) : Framed (.sessionIdleTimeout slot dt) s := by
  unfold Framed partsOf regsOf; dsimp only
  exact ⟨_, rfl, .ite (.refl ..) ((passTo_changes ..).within.op (slotClose_changes ..))⟩

theorem boot_framed {c : Instr} (hch : chapterOf c = .boot) (s : State) : Framed c s := by
  cases c with
  | loadStart => exact loadStart_framed ..
  | loadEnd => exact loadEnd_framed ..
  | erase => exact erase_framed ..
  | programBuf => exact programBuf_framed ..
  | copyStore => exact copyStore_framed ..
  | verify => exact verify_framed ..
  | bootSwitch => exact bootSwitch_framed ..
  | cancelSwitch => exact cancelSwitch_framed ..
  | burnSvn => exact burnSvn_framed ..
  | retire => exact retire_framed ..
  | bootReservedOp => exact bootReservedOp_framed ..
  | flashOpDone => exact flashOpDone_framed ..
  | stagingDone => exact stagingDone_framed ..
  | mbxOpen => exact mbxOpen_framed ..
  | mbxProof => exact mbxProof_framed ..
  | mbxClose => exact mbxClose_framed ..
  | challengeLapse => exact challengeLapse_framed ..
  | lockoutEnd => exact lockoutEnd_framed ..
  | dgramOpen => exact dgramOpen_framed ..
  | dgramProof => exact dgramProof_framed ..
  | dgramClose => exact dgramClose_framed ..
  | keepalive => exact keepalive_framed ..
  | arpRequest => exact arpRequest_framed ..
  | neighbourSolicitation => exact neighbourSolicitation_framed ..
  | sessionIdleTimeout => exact sessionIdleTimeout_framed ..
  | _ => cases hch

/-! ## The power, mode and reset commands -/

theorem requestIdle_framed (who : Requester) (met : Option ModeMet) (s : State) : Framed (.requestIdle who met) s := by
  unfold Framed partsOf regsOf; dsimp only
  exact ⟨_, rfl, withMet_frame
    (fun _ => modeRequest_frame
    (.ite (refuseMode_changes ..).within
    (.ite (toIdle_changes ..).within
    (.ite (((beginTrans_changes ..).within.op (buildToAcquire_changes ..)).op (toIdle_changes ..))
    (.ite ((leaveService_changes ..).within.op (toIdle_changes ..)) (refuseMode_changes ..).within)))))⟩

theorem requestAcquire_framed (who : Requester) (met : Option ModeMet) (s : State) : Framed (.requestAcquire who met) s := by
  unfold Framed partsOf regsOf; dsimp only
  exact ⟨_, rfl, withMet_frame
    (fun _ => modeRequest_frame
    (.ite (leaveIdle_changes ..).within
    (.ite (buildToAcquire_changes ..).within
    (.ite ((leaveService_changes ..).within.op (setMode_changes ..)) (refuseMode_changes ..).within))))⟩

theorem requestBuild_framed (who : Requester) (met : Option ModeMet) (s : State) : Framed (.requestBuild who met) s := by
  unfold Framed partsOf regsOf; dsimp only
  refine ⟨_, rfl, withMet_frame (fun _ => modeRequest_frame (.ite ?_ (refuseMode_changes ..).within))⟩
  split
  · exact (refuseMode_changes ..).within
  · exact Changes.op (.ite (leaveService_changes ..).within (.refl ..)) (setMode_changes ..)

theorem requestService_framed (who : Requester) (met : Option ModeMet) (s : State) : Framed (.requestService who met) s := by
  unfold Framed partsOf regsOf; dsimp only
  exact ⟨_, rfl, withMet_frame
    (fun _ => modeRequest_frame
    (.ite (refuseMode_changes ..).within
    (.ite (leaveIdle_changes ..).within
    (.ite ((setMode_changes ..).within.op (lanesPatterns_changes ..))
    (.ite ((beginTrans_changes ..).within.op (buildToAcquire_changes ..)) (refuseMode_changes ..).within)))))⟩

theorem requestInvalidMode_framed (who : Requester) (mode : BitVec 3) (s : State) : Framed (.requestInvalidMode who mode) s := by
  unfold Framed partsOf regsOf; dsimp only
  exact ⟨_, rfl, .ite (.refl ..)
    (.ite (.refl ..) (.ite (Changes.op (.ite (bump_frame ..).within (.refl ..)) (refuseMode_changes ..))
    (refuseMode_changes ..).within))⟩

theorem modeTransitionDone_framed (dt : Nat) (still : Bool) (s : State) : Framed (.modeTransitionDone dt still) s := by
  unfold Framed partsOf regsOf; dsimp only
  exact ⟨_, rfl, .ite (advance_frame ..).within
    (.ite ((advance_frame ..).within.op (enterTarget_changes ..))
    (.ite (Changes.op (.pwr (.pwr ((advance_frame ..).within.op (enterTarget_changes ..)) (by decide)) (by decide))
    (warn_changes ..)) (.pwr ((advance_frame ..).within.op (enterTarget_changes ..)) (by decide))))⟩

theorem domainOn_framed (who : Requester) (d : BitVec 7) (s : State) : Framed (.domainOn who d) s := by
  unfold Framed partsOf regsOf; dsimp only
  exact ⟨_, rfl, writeGate_frame (domCmd_changes ..).within⟩

theorem domainOff_framed (who : Requester) (d : BitVec 7) (s : State) : Framed (.domainOff who d) s := by
  unfold Framed partsOf regsOf; dsimp only
  exact ⟨_, rfl, writeGate_frame (domCmd_changes ..).within⟩

theorem wakeStart_framed (dt : Nat) (s : State) : Framed (.wakeStart dt) s := by
  unfold Framed partsOf regsOf; dsimp only
  refine ⟨_, rfl, .cut ((s.advance_frame dt).within.op (refill_changes _)) fun h => ?_⟩
  dsimp only
  split
  · exact h
  · refine .ite h (.op ?_ (refill_changes ..))
    exact .pwr (h.op (waitBudget_changes ..)) (by decide)

theorem powerGood_framed (d : Fin 80) (dt : Nat) (s : State) : Framed (.powerGood d dt) s := by
  unfold Framed partsOf regsOf; dsimp only
  refine ⟨_, rfl, ?_⟩
  split
  · exact .refl ..
  · exact (((Changes.op (.pwr (passBy_changes ..).within (by decide)) (setDom_changes ..)).op (setDomPending_changes ..)).op
      (domCame_changes ..)).op (timFollow_changes ..)

theorem supplyWarning_framed (dt : Nat) (mv : BitVec 16) (s : State) : Framed (.supplyWarning dt mv) s := by
  unfold Framed partsOf regsOf; dsimp only
  exact ⟨_, rfl, (advance_frame ..).within.op (warnAt_changes ..)⟩

theorem supplyReset_framed (rail : Fin 5) (s : State) : Framed (.supplyReset rail) s := by
  unfold Framed partsOf regsOf; dsimp only
  exact ⟨_, rfl, .ite (.refl ..) (resetTo_changes ..).within⟩

theorem resetNAssert_framed (rail : Option (Fin 5)) (s : State) : Framed (.resetNAssert rail) s := by
  unfold Framed partsOf regsOf; dsimp only
  exact ⟨_, rfl, (resetTo_changes ..).within⟩

theorem reefRecovery_framed (dt : Nat) (mv : BitVec 16) (s : State) : Framed (.reefRecovery dt mv) s := by
  unfold Framed partsOf regsOf; dsimp only
  refine ⟨_, rfl, .ite (.refl ..) ?_⟩
  extract_lets s1 held _ _ s2 _ s3 _ s4
  refine .cut (x := s1) ((passTo_changes ..).within.op (setFld_frame ..)) fun h1 => .ite (h1.op (resetTo_changes ..)) ?_
  refine .cut (x := s2) (.pwr (h1.op (selfRef_changes ..)) (by decide)) fun h2 => ?_
  refine .cut (x := s3) (.op ?_ (placeHeld_changes ..)) fun h3 => .trans (.op ?_ (doMarks_changes ..)) (allBeams_changes ?_ _)
  · exact .fst h2 rfl (by decide)
  · exact .fst h3 rfl (by decide)
  · exact fun _ _ => (clearCause_changes ..).within

theorem reefBufferEmpty_framed (dt : Nat) (s : State) : Framed (.reefBufferEmpty dt) s := by
  unfold Framed partsOf regsOf; dsimp only
  refine ⟨_, rfl, .ite (.refl ..)
    (((Changes.op ?_ (drainHeld_changes ..)).op (setFld_frame ..) |>.op (publish_changes ..)).op (wr_frame ..))⟩
  exact .fst (advance_frame ..).within rfl (by decide)

theorem reefTimeout_framed (dt : Nat) (s : State) : Framed (.reefTimeout dt) s := by
  unfold Framed partsOf regsOf; dsimp only
  exact ⟨_, rfl, .ite ((passTo_changes ..).within.op (resetTo_changes ..)) (.refl ..)⟩

theorem helmMiscompare_framed (core : Fin 3) (dt : Nat) (s : State) : Framed (.helmMiscompare core dt) s := by
  unfold Framed partsOf regsOf; dsimp only
  exact ⟨_, rfl, .ite (advance_frame ..).within ((advance_frame ..).within.op (outvote_changes ..))⟩

theorem resyncDone_framed (core : Fin 3) (dt : Nat) (s : State) : Framed (.resyncDone core dt) s := by
  unfold Framed partsOf regsOf; dsimp only
  exact ⟨_, rfl, .ite (((Changes.op (.ite (passBy_changes ..).within (advance_frame ..).within) (setCore_changes ..)).op
    (setFld_frame ..)).op (wr_frame ..)) (.ite (passBy_changes ..).within (advance_frame ..).within)⟩

theorem dualMiscompare_framed (s : State) : Framed .dualMiscompare s := by
  unfold Framed partsOf regsOf; dsimp only
  exact ⟨_, rfl, .ite (resetTo_changes ..).within (.refl ..)⟩

theorem helmWatchdog_framed (dt : Nat) (s : State) : Framed (.helmWatchdog dt) s := by
  unfold Framed partsOf regsOf; dsimp only
  exact ⟨_, rfl, .ite ((passTo_changes ..).within.op (resetTo_changes ..)) (.refl ..)⟩

theorem hlmWdt_framed (who : Requester) (v : BitVec 32) (s : State) : Framed (.hlmWdt who v) s := by
  unfold Framed partsOf regsOf; dsimp only
  exact ⟨_, rfl, (wdtWrite_changes ..).within⟩

theorem helmMemoryUe_framed (checkpoint : Bool) (s : State) : Framed (.helmMemoryUe checkpoint) s := by
  unfold Framed partsOf regsOf; dsimp only
  exact ⟨_, rfl, .ite (.refl ..)
    (.ite (.helm (.refl ..) (by decide)) (.ite (resetTo_changes ..).within ((setFld_frame ..).within.op (bump_frame ..))))⟩

theorem replayEnd_framed (dt : Nat) (s : State) : Framed (.replayEnd dt) s := by
  unfold Framed partsOf regsOf; dsimp only
  exact ⟨_, rfl, (advance_frame ..).within.op (setFld_frame ..)⟩

theorem softReset_framed (who : Requester) (s : State) : Framed (.softReset who) s := by
  unfold Framed partsOf regsOf; dsimp only
  exact ⟨_, rfl, writeGate_frame (resetTo_changes ..).within⟩

theorem power_framed {c : Instr} (hch : chapterOf c = .power) (s : State) : Framed c s := by
  cases c with
  | requestIdle => exact requestIdle_framed ..
  | requestAcquire => exact requestAcquire_framed ..
  | requestBuild => exact requestBuild_framed ..
  | requestService => exact requestService_framed ..
  | requestInvalidMode => exact requestInvalidMode_framed ..
  | modeTransitionDone => exact modeTransitionDone_framed ..
  | domainOn => exact domainOn_framed ..
  | domainOff => exact domainOff_framed ..
  | wakeStart => exact wakeStart_framed ..
  | powerGood => exact powerGood_framed ..
  | supplyWarning => exact supplyWarning_framed ..
  | supplyReset => exact supplyReset_framed ..
  | resetNAssert => exact resetNAssert_framed ..
  | reefRecovery => exact reefRecovery_framed ..
  | reefBufferEmpty => exact reefBufferEmpty_framed ..
  | reefTimeout => exact reefTimeout_framed ..
  | helmMiscompare => exact helmMiscompare_framed ..
  | resyncDone => exact resyncDone_framed ..
  | dualMiscompare => exact dualMiscompare_framed ..
  | helmWatchdog => exact helmWatchdog_framed ..
  | hlmWdt => exact hlmWdt_framed ..
  | helmMemoryUe => exact helmMemoryUe_framed ..
  | replayEnd => exact replayEnd_framed ..
  | softReset => exact softReset_framed ..
  | _ => cases hch

/-! ## Every command, and every step -/

theorem exec_framed (c : Instr) (s : State) : Framed c s := by
  cases hch : chapterOf c with
  | lanes => exact lanesFrame c s hch
  | capture => exact captureFrame c s hch
  | encoders => exact encoders_framed hch s
  | host => exact host_framed hch s
  | store => exact store_framed hch s
  | dma => exact dma_framed hch s
  | masts => exact masts_framed hch s
  | spars => exact spars_framed hch s
  | sheets => exact sheets_framed hch s
  | beams => exact beams_framed hch s
  | records => exact records_framed hch s
  | scanMotion => exact scanMotion_framed hch s
  | light => exact light_framed hch s
  | halyards => exact halyards_framed hch s
  | time => exact time_framed hch s
  | boot => exact boot_framed hch s
  | power => exact power_framed hch s

/-- Settles O4: after reset nothing is listed in any memory and no register is set. -/
theorem resetIsCanonical : Obligations.ResetIsCanonical := by
  unfold Obligations.ResetIsCanonical
  exact ⟨rfl, rfl, ⟨List.Pairwise.nil, by simp [State.reset]⟩, ⟨List.Pairwise.nil, by simp [State.reset]⟩⟩

/-- Settles O5: a step is the command at the front or the idle step, and the frame of either keeps the canonical form. -/
theorem stepKeepsCanonical : Obligations.StepKeepsCanonical := by
  unfold Obligations.StepKeepsCanonical
  intro s t hs ht
  unfold step at ht
  split at ht
  · rw [← Host.Outcome.next.inj ht]
    exact s.idle_changes_advance.canonical ((s.advance_frame 1).canonical hs)
  next c rest _ =>
    obtain ⟨u, hu, hchanges⟩ := exec_framed c { s with pending := rest }
    rw [← Host.Outcome.next.inj (hu.symm.trans ht)]
    exact hchanges.canonical hs

/-- Settles O10, by the frame of each of its commands. -/
theorem storeFrame : Obligations.StoreFrame := by
  unfold Obligations.StoreFrame
  exact fun c s hch => store_framed hch s

end
end Sys2Proof.Machine

/-! # Where the bytes of the frame store lie, and how they are read (O32, O53) -/

namespace Sys2Proof.Machine
section
set_option Elab.async false

/-! ## The layout of the store (R142, R144, R178) -/

/-- The registers that say where the bytes of the store lie. -/
def layoutRegs : List Reg :=
  [.FST_BANDS, .FST_MP_LOG_BANDS, .FST_MP_TEST_BANDS, .FST_RING_DATA_BANDS, .FST_RING_BASE, .FST_RING_IDX_BANDS,
    .FST_BUILD_BASE, .FST_BUILD_BANDS, .FST_RES_BASE, .FST_RES_BANDS, .FST_CH_STATUS]

/-- From `s` to `t` no byte of the store has got another place. -/
structure SamePlaces (s t : State) : Prop where
  variant : t.variant = s.variant
  retiring : t.fst.retiring = s.fst.retiring
  copies : t.fst.copies = s.fst.copies
  regs : ∀ r ∈ layoutRegs, ∀ i j, t.rd r i j = s.rd r i j

theorem SamePlaces.refl (s : State) : SamePlaces s s := ⟨rfl, rfl, rfl, fun _ _ _ _ => rfl⟩

theorem SamePlaces.trans {s t u : State} (h : SamePlaces s t) (k : SamePlaces t u) : SamePlaces s u :=
  ⟨k.variant.trans h.variant, k.retiring.trans h.retiring, k.copies.trans h.copies,
    fun r hr i j => (k.regs r hr i j).trans (h.regs r hr i j)⟩

/-- What leaves the frame store alone, but for bytes. -/
theorem Changes.samePlaces {P : List Part} {R : List Reg} {s t : State} (h : Changes P R s t) (hv : Part.variant ∉ P := by decide)
    (hf : Part.fst ∉ P := by decide) (hr : ∀ r ∈ layoutRegs, r ∉ R := by decide) : SamePlaces s t :=
  have hfst := h.parts .fst hf
  ⟨h.parts .variant hv, (congrArg Fst.retiring hfst :), (congrArg Fst.copies hfst :), fun r hm => h.regs r (hr r hm)⟩

theorem SamePlaces.stride {s t : State} (h : SamePlaces s t) : t.stride = s.stride := by
  rw [State.stride, State.stride, h.variant]

theorem SamePlaces.addrBand {s t : State} (h : SamePlaces s t) (a : Nat) : t.addrBand a = s.addrBand a := by
  rw [State.addrBand, State.addrBand, h.stride]

theorem SamePlaces.addrChan {s t : State} (h : SamePlaces s t) (a : Nat) : t.addrChan a = s.addrChan a := by
  rw [State.addrChan, State.addrChan, h.stride]

theorem SamePlaces.chState {s t : State} (h : SamePlaces s t) (c : Nat) : t.chState c = s.chState c :=
  congrArg (getBits · _ _) (h.regs .FST_CH_STATUS (by decide) c 0)

theorem SamePlaces.chInUse {s t : State} (h : SamePlaces s t) (c : Nat) : t.chInUse c = s.chInUse c := by
  rw [State.chInUse, State.chInUse, h.chState]

theorem SamePlaces.bands {s t : State} (h : SamePlaces s t) {r : Reg} (hr : r ∈ layoutRegs) (i : Nat) : t.bands r i = s.bands r i :=
  congrArg (getBits · _ _) (h.regs r hr i 0)

theorem SamePlaces.regionOf {s t : State} (h : SamePlaces s t) (band : Nat) : t.regionOf band = s.regionOf band := by
  have hring (r : Nat) : t.ringExists r = s.ringExists r := by rw [State.ringExists, State.ringExists, h.bands (by decide)]
  simp only [State.regionOf, hring, h.bands (show Reg.FST_BANDS ∈ layoutRegs by decide),
    h.bands (show Reg.FST_MP_LOG_BANDS ∈ layoutRegs by decide), h.bands (show Reg.FST_MP_TEST_BANDS ∈ layoutRegs by decide),
    h.bands (show Reg.FST_RING_BASE ∈ layoutRegs by decide), h.bands (show Reg.FST_RING_IDX_BANDS ∈ layoutRegs by decide),
    h.bands (show Reg.FST_RING_DATA_BANDS ∈ layoutRegs by decide), h.bands (show Reg.FST_BUILD_BASE ∈ layoutRegs by decide),
    h.bands (show Reg.FST_BUILD_BANDS ∈ layoutRegs by decide), h.bands (show Reg.FST_RES_BASE ∈ layoutRegs by decide),
    h.bands (show Reg.FST_RES_BANDS ∈ layoutRegs by decide)]

theorem SamePlaces.storePlace {s t : State} (h : SamePlaces s t) (a : Nat) : t.storePlace a = s.storePlace a := by
  simp only [State.storePlace, h.addrBand, h.addrChan, h.chInUse, h.chState, h.regionOf, h.retiring, h.copies]

/-! ## The place of a burst -/

/-- STRIDE is a number of 4,096-byte stripes. -/
theorem State.stride_cases (s : State) : s.stride = 24576 ∨ s.stride = 49152 := by
  unfold State.stride
  split
  · exact .inl rfl
  · exact .inr rfl

theorem State.addrBand_burst (s : State) (a : Nat) : s.addrBand (a / 64 * 64) = s.addrBand a := by
  unfold State.addrBand
  obtain h | h := s.stride_cases <;> rw [h] <;> omega

theorem State.addrChan_burst (s : State) (a : Nat) : s.addrChan (a / 64 * 64) = s.addrChan a := by
  unfold State.addrChan
  obtain h | h := s.stride_cases <;> rw [h] <;> omega

/-- The bytes of a burst are in place together (R142). -/
theorem State.isSome_storePlace_burst (s : State) (a : Nat) : (s.storePlace (a / 64 * 64)).isSome = (s.storePlace a).isSome := by
  simp only [State.storePlace, s.addrBand_burst, s.addrChan_burst]
  split
  · rfl
  · split
    · rfl
    · split
      · simp only [Option.isSome_map]
      · rfl

/-! ## Reads of clean bytes in place -/

theorem State.length_storeRd (s : State) (a n : Nat) : (s.storeRd a n).length = n := by simp [State.storeRd]

theorem State.storeRd_add (s : State) (a m n : Nat) : s.storeRd a (m + n) = s.storeRd a m ++ s.storeRd (a + m) n := by
  simp [State.storeRd, List.range_add, Nat.add_assoc]

theorem State.takeAt_storeRd (s : State) {a n m o : Nat} (h : o + m ≤ n) : takeAt (s.storeRd a n) o m = s.storeRd (a + o) m := by
  refine List.map_congr_left fun i hi => ?_
  have hlt : o + i < n := by have := List.mem_range.1 hi; omega
  rw [List.getD_eq_getElem _ _ (by rw [s.length_storeRd]; exact hlt)]
  simp [State.storeRd, Nat.add_assoc]

/-- A burst in place that reads clean brings its bytes, and nothing happens. -/
theorem State.fetchBurst_clean {s : State} {a : Nat} (hret : s.fst.retiring = none) (hplace : (s.storePlace a).isSome)
    (hclean : s.ddrBad a = false) : s.fetchBurst a none = (s.storeRd a 64, false, s) := by
  obtain ⟨p, hp⟩ := Option.isSome_iff_exists.1 hplace
  obtain rfl := State.storePlace_plain hret hp
  simp [State.fetchBurst, hp, State.eccRead, hclean]

theorem State.fetchBursts_clean {s : State} {a : Nat} (n k : Nat)
    (h : ∀ j < n, s.fetchBurst (a + 64 * (k + j)) none = (s.storeRd (a + 64 * (k + j)) 64, false, s)) :
    State.fetchBursts a [] n k s = ⟨s.storeRd (a + 64 * k) (64 * n), [], s⟩ := by
  induction n generalizing k with
  | zero => rfl
  | succ n ih =>
    have hk := h 0 (Nat.succ_pos n)
    have hrest := ih (k + 1) fun j hj => by
      have := h (j + 1) (Nat.succ_lt_succ hj)
      rwa [show k + (j + 1) = k + 1 + j by omega] at this
    rw [State.fetchBursts, List.lookup_nil, Nat.add_zero] at *
    rw [hk, hrest, show 64 * (n + 1) = 64 + 64 * n by omega, s.storeRd_add, show a + 64 * (k + 1) = a + 64 * k + 64 by omega]
    rfl

/-- A read of clean bytes in place returns them, and nothing happens (R142, R167). -/
theorem State.storeFetch_clean {s : State} {a n : Nat} (hret : s.fst.retiring = none) (hn : 0 < n)
    (hplace : ∀ i < n, (s.storePlace (a + i)).isSome) (hclean : s.storeBad a n = false) :
    s.storeFetch a n [] = ⟨s.storeRd a n, [], s⟩ := by
  have hbyte (i : Nat) (hi : i < n) : s.ddrBad (a + i) = false := by
    obtain ⟨p, hp⟩ := Option.isSome_iff_exists.1 (hplace i hi)
    have := List.any_eq_false.1 hclean i (List.mem_range.2 hi)
    rw [hp, State.storePlace_plain hret hp] at this
    exact Bool.not_eq_true _ ▸ this
  have hbursts := State.fetchBursts_clean (s := s) (a := a / 64 * 64) ((a % 64 + n + 63) / 64) 0 fun j hj => by
    -- The burst holds one of the bytes that are read.
    obtain ⟨i, hi, hburst⟩ : ∃ i < n, a / 64 * 64 + 64 * (0 + j) = (a + i) / 64 * 64 :=
      ⟨64 * j - a % 64, by omega, by omega⟩
    rw [hburst]
    refine State.fetchBurst_clean hret (by rw [s.isSome_storePlace_burst]; exact hplace i hi) ?_
    rw [State.ddrBad, Nat.mul_div_cancel _ (by decide)]
    exact hbyte i hi
  rw [State.storeFetch, hbursts, Nat.mul_zero, Nat.add_zero]
  simp only [List.filterMap_nil]
  rw [s.takeAt_storeRd (by omega), show a / 64 * 64 + a % 64 = a by omega]

end
end Sys2Proof.Machine

/-! # The frame store as a memory: BAR2, refresh, the scrubber, the bucket and the log (O32) -/

namespace Sys2Proof.Machine
section
set_option Elab.async false

/-! ## Accesses through BAR2 (R142, R146, R412, R417) -/

theorem State.heard_mailbox (s : State) : s.heard .mailbox = s.linkWake := rfl

theorem State.flrBars_mailbox {s : State} (h : s.flrActive = false) : s.flrBars .mailbox = false := h

theorem State.levelOf_linkWake (s : State) : s.linkWake.levelOf .mailbox = s.levelOf .mailbox :=
  congrArg (getBits · 8 2) (s.linkWake_changes.regs .SES_STATUS (by decide) 0 0)

theorem State.fst_linkWake (s : State) : s.linkWake.fst = s.fst := by
  obtain h | h := s.linkWake_eq <;> exact (congrArg State.fst h).trans rfl

theorem State.samePlaces_linkWake (s : State) : SamePlaces s s.linkWake := s.linkWake_changes.samePlaces

/-- A wake of the link sets another field of PCE_STATUS than READY. -/
theorem State.ready_linkWake (s : State) : s.linkWake.ready = s.ready := by
  obtain h | h := s.linkWake_eq
  · rw [h]; rfl
  · rw [h, State.ready, State.flag, State.fld_setFld_ne _ _ _ _ _ _ (by decide) (by decide)]; rfl

theorem State.storeUp_linkWake (s : State) : s.linkWake.storeUp = s.storeUp := by
  rw [State.storeUp, State.storeUp, s.ready_linkWake, s.fst_linkWake]

theorem State.storeHostWrites_linkWake (s : State) (a : Nat) : s.linkWake.storeHostWrites a = s.storeHostWrites a := by
  have hflag (r : Nat) : s.linkWake.flag F.FST_RING_CFG_HOST_WRITE r = s.flag F.FST_RING_CFG_HOST_WRITE r :=
    congrArg (· != 0) (s.linkWake_changes.fld (by decide) r 0)
  simp only [State.storeHostWrites, s.samePlaces_linkWake.addrBand, s.samePlaces_linkWake.regionOf, hflag]

theorem State.ddrRd_linkWake (s : State) (a : Nat) : s.linkWake.ddrRd a = s.ddrRd a := by
  rw [State.ddrRd, State.ddrRd, s.fst_linkWake]

theorem State.storeRd_linkWake (s : State) (a n : Nat) : s.linkWake.storeRd a n = s.storeRd a n := by
  simp only [State.storeRd, s.samePlaces_linkWake.storePlace, s.ddrRd_linkWake]

theorem State.storeBad_linkWake (s : State) (a n : Nat) : s.linkWake.storeBad a n = s.storeBad a n := by
  simp only [State.storeBad, s.samePlaces_linkWake.storePlace, State.ddrBad, s.fst_linkWake]

theorem State.regs_storeWr1 (s : State) (a : Nat) (b : Byte) (bad : Bool) : (s.storeWr1 a b bad).regs = s.regs := by
  unfold State.storeWr1
  split
  · rfl
  · dsimp only
    split
    · split <;> rfl
    · rfl

theorem State.regs_storeWr (l : List Byte) (s : State) (a : Nat) (bad : Bool) : (s.storeWr a l bad).regs = s.regs := by
  induction l generalizing s a with
  | nil => rfl
  | cons b l ih => exact (ih _ _).trans (s.regs_storeWr1 a b bad)

/-- Bytes within 128 aligned bytes go in one completion. -/
theorem State.completions_one (s : State) (fuel addr off : Nat) {data : List Byte} (hpos : 0 < data.length)
    (hlen : addr % 128 + data.length ≤ 128) : s.completions [] (fuel + 1) addr data off = s.emit (.replyBytes data false) := by
  have hnil (u : State) (fuel addr off : Nat) : u.completions [] fuel addr [] off = u := by cases fuel <;> rfl
  cases data with
  | nil => cases hpos
  | cons b l =>
    have hall : (b :: l).length ≤ (addr + 128 * 2 ^ min 2 (getBits (s.cfgRd 0x58) 5 3)) / 128 * 128 - addr := by
      have hmps : 128 ≤ 128 * 2 ^ min 2 (getBits (s.cfgRd 0x58) 5 3) := Nat.le_mul_of_pos_right _ (Nat.two_pow_pos _)
      generalize 128 * 2 ^ min 2 (getBits (s.cfgRd 0x58) 5 3) = mps at hmps
      omega
    simp only [State.completions, Nat.min_eq_left hall, List.take_length, List.drop_length, hnil, List.any_nil]
    rfl

section
variable {s : State} {addr : Nat} (hd : List Word) (hflr : s.flrActive = false)
include hflr

theorem exec_bar2Write_operator (data : List Byte) (hlvl : 2 ≤ s.levelOf .mailbox) :
    exec (.bar2Write addr data ⟨.clean, hd⟩) s = .next
      (if (List.range data.length).all fun i => s.storeUp && s.storeHostWrites (addr + i) && (s.storePlace (addr + i)).isSome
      then s.linkWake.storeWr addr data false else s.linkWake.bump .FST_CNT_BAD_ACCESS) := by
  show execBar2Write addr data ⟨.clean, hd⟩ s = _
  rw [execBar2Write, State.inbound_clean _ (State.flrBars_mailbox hflr), s.heard_mailbox]
  simp only [s.levelOf_linkWake, if_pos hlvl, s.storeUp_linkWake, s.storeHostWrites_linkWake, s.samePlaces_linkWake.storePlace]
  rfl

theorem exec_bar2Read_observer {len : Nat} (errs : List (Nat × BurstErr)) (hlvl : 1 ≤ s.levelOf .mailbox) (hup : s.storeUp)
    (hplace : ∀ i < min len 4096, (s.storePlace (addr + i)).isSome) :
    exec (.bar2Read addr len errs ⟨.clean, hd⟩) s = .next
      ((s.linkWake.storeFetch addr (min len 4096) errs).st.completions (s.linkWake.storeFetch addr (min len 4096) errs).bad
        (min len 4096 + 1) addr (s.linkWake.storeFetch addr (min len 4096) errs).data 0) := by
  show execBar2Read addr len errs ⟨.clean, hd⟩ s = _
  have hall : (List.range (min len 4096)).all (fun i => (s.storePlace (addr + i)).isSome) = true :=
    List.all_eq_true.2 fun i hi => hplace i (List.mem_range.1 hi)
  rw [execBar2Read, State.inbound_clean _ (State.flrBars_mailbox hflr), s.heard_mailbox]
  simp only [s.levelOf_linkWake, if_pos hlvl, s.storeUp_linkWake, hup, s.samePlaces_linkWake.storePlace, hall]
  rfl

theorem exec_bar2Read_below (len : Nat) (errs : List (Nat × BurstErr)) (hlvl : s.levelOf .mailbox = 0) :
    exec (.bar2Read addr len errs ⟨.clean, hd⟩) s = .next
      ((s.linkWake.bump .PCE_CNT_PRIV_REFUSED).completions [] (min len 4096 + 1) addr (List.replicate (min len 4096) 0) 0) := by
  show execBar2Read addr len errs ⟨.clean, hd⟩ s = _
  rw [execBar2Read, State.inbound_clean _ (State.flrBars_mailbox hflr), s.heard_mailbox]
  simp only [s.levelOf_linkWake, hlvl]
  rfl

end

/-! ## Refresh (R165) -/

theorem foldl_min_mem {l : List Nat} (h : l ≠ []) : l.foldl min (l.headD 0) ∈ l := by
  rw [List.foldl_min_eq_min h]
  obtain ⟨x, xs, rfl⟩ := List.exists_cons_of_ne_nil h
  rcases min_choice ((x :: xs).headD 0) ((x :: xs).min h) with hm | hm <;> rw [hm]
  · exact List.mem_cons_self
  · exact List.min_mem h

theorem length_filter_eq_range_le (n c : Nat) : ((List.range n).filter (· == c)).length ≤ 1 := by
  rw [← List.countP_eq_length_filter]
  exact List.nodup_iff_count_le_one.1 List.nodup_range c

/-- Beside one channel, those of the others with a property are as many as all with it. -/
theorem length_filter_range_le (n c : Nat) (p : Nat → Bool) :
    ((List.range n).filter p).length ≤ ((List.range n).filter (fun k => k != c && p k)).length + 1 := by
  have hsplit := List.countP_eq_countP_filter_add (List.range n) p (· != c)
  have hself : ((List.range n).filter (fun k => !(k != c))).countP p ≤ 1 :=
    List.countP_le_length.trans (by simpa [bne] using length_filter_eq_range_le n c)
  rw [List.countP_eq_length_filter, List.countP_eq_length_filter, List.filter_filter] at hsplit
  simp only [Bool.and_comm] at hsplit ⊢
  omega

/-- The state after the refresh of channel `c`, which lasts `len`, has been issued at its instant. -/
def State.refreshed (s : State) (c dt len : Nat) (hot : Bool) : State :=
  let ends := ((List.range 12).filter (fun k => k != c && (s.advance dt).inRefresh k)).map (fun k => tblGet 0 s.fst.refEnd k)
  let free := if 2 ≤ ends.length then ends.foldl min (ends.headD 0) else 0
  let t := (s.advance dt).passTo 0 (max free (tblGet 0 s.fst.refEnd c))
  { t with fst := { t.fst with refEnd := tblSet 0 t.fst.refEnd c (t.fine + len),
                               refDue := tblSet none t.fst.refDue c (some (t.fine + if hot then 4875 else 9750)) } }

theorem exec_refresh_used {c : Fin 12} {s : State} (dt len : Nat) (hot : Bool) (huse : s.chInUse c)
    (href : s.fst.selfRefresh = false) : exec (.refresh c dt len hot) s = .next (s.refreshed c dt len hot) := by
  refine congrArg Host.Outcome.next (if_neg ?_)
  show ¬ (!s.chInUse c || s.fst.selfRefresh) = true
  rw [huse, href]
  decide

section
variable (s : State) (c dt len : Nat) (hot : Bool)

theorem State.le_fine_refreshed : s.fine + dt ≤ (s.refreshed c dt len hot).fine := le_max_left ..

theorem State.refDue_refreshed : tblGet none (s.refreshed c dt len hot).fst.refDue c =
    some ((s.refreshed c dt len hot).fine + if hot then 4875 else 9750) := by
  simp only [State.refreshed, tblGet_set_self]

/-- The refreshes of the other channels go on. -/
theorem State.inRefresh_refreshed {k : Nat} (hk : k ≠ c) :
    (s.refreshed c dt len hot).inRefresh k = decide ((s.refreshed c dt len hot).fine < tblGet 0 s.fst.refEnd k) := by
  simp only [State.inRefresh, State.refreshed, tblGet_set_ne _ _ hk]
  rfl

/-- A refresh that finds two channels in refresh is issued once one of them has ended. -/
theorem State.exists_refresh_ended
    (htwo : 2 ≤ ((List.range 12).filter (fun k => k != c && (s.advance dt).inRefresh k)).length) :
    ∃ k ∈ (List.range 12).filter (fun k => k != c && (s.advance dt).inRefresh k),
      tblGet 0 s.fst.refEnd k ≤ (s.refreshed c dt len hot).fine := by
  have hne : ((List.range 12).filter (fun k => k != c && (s.advance dt).inRefresh k)).map (fun k => tblGet 0 s.fst.refEnd k) ≠ [] :=
    fun h => by rw [List.map_eq_nil_iff.1 h] at htwo; cases htwo
  obtain ⟨k, hk, hmin⟩ := List.mem_map.1 (foldl_min_mem hne)
  refine ⟨k, hk, hmin.le.trans ?_⟩
  simp only [State.refreshed, List.length_map, if_pos htwo]
  exact (le_max_left ..).trans (le_max_right ..)

/-- With at most two channels in refresh at its instant, a refresh leaves at most two in refresh (R165). -/
theorem State.length_inRefresh_refreshed (h : ((List.range 12).filter (fun k => (s.advance dt).inRefresh k)).length ≤ 2) :
    ((List.range 12).filter (fun k => (s.refreshed c dt len hot).inRefresh k)).length ≤ 2 := by
  have hothers : (List.range 12).filter (fun k => k != c && (s.refreshed c dt len hot).inRefresh k) =
      ((List.range 12).filter (fun k => k != c && (s.advance dt).inRefresh k)).filter
        (fun k => decide ((s.refreshed c dt len hot).fine < tblGet 0 s.fst.refEnd k)) := by
    rw [List.filter_filter]
    refine List.filter_congr fun k _ => ?_
    by_cases hk : k = c
    · simp [hk]
    · have hle := s.le_fine_refreshed c dt len hot
      have hrunning : (s.advance dt).inRefresh k = decide (s.fine + dt < tblGet 0 s.fst.refEnd k) := rfl
      rw [s.inRefresh_refreshed c dt len hot hk, hrunning]
      grind
  refine (length_filter_range_le 12 c _).trans (Nat.succ_le_succ ?_)
  rw [hothers]
  have hall : ((List.range 12).filter (fun k => k != c && (s.advance dt).inRefresh k)).length ≤ 2 := by
    refine Nat.le_trans ?_ h
    rw [← List.countP_eq_length_filter, ← List.countP_eq_length_filter]
    exact List.countP_mono_left fun k _ hk => (Bool.and_eq_true_iff.1 hk).2
  by_cases htwo : 2 ≤ ((List.range 12).filter (fun k => k != c && (s.advance dt).inRefresh k)).length
  · obtain ⟨k, hk, hended⟩ := s.exists_refresh_ended c dt len hot htwo
    have hlt := (List.length_filter_lt_length_iff_exists (p := fun k =>
      decide ((s.refreshed c dt len hot).fine < tblGet 0 s.fst.refEnd k))).2 ⟨k, hk, by simpa using hended⟩
    exact Nat.le_of_lt_succ (hlt.trans_le hall)
  · exact (List.length_filter_le ..).trans (Nat.le_of_lt_succ (Nat.not_le.1 htwo))

end

/-! ## The scrubber and the errors it finds (R165, R166, R168) -/

theorem State.eccRead_clean {s : State} {p : Nat} (scrub : Bool) (hclean : s.ddrBad p = false) :
    s.eccRead p none scrub = (false, s) := by
  simp [State.eccRead, hclean]

theorem State.eccRead_corrected {s : State} {p : Nat} {e : BurstErr} {d : Nat} (scrub : Bool) (hclean : s.ddrBad p = false)
    (hseen : burstSeen e = .corrected d) : s.eccRead p (some e) scrub = (false, s.eccCorrected p d scrub) := by
  simp [State.eccRead, hclean, hseen]

/-- The errors of one device are corrected. -/
theorem burstSeen_one (d : Fin 18) (x : Option (Fin 18)) : burstSeen ⟨[d], false, x⟩ = .corrected d.val := rfl

/-- A corrected error counts in its channel, and its band is recorded, whether or not it makes the channel retire. -/
theorem State.eccCorrected_shows (s : State) (p dev : Nat) (scrub : Bool) :
    Counted .FST_CH_CNT_CE (s.addrChan p) s (s.eccCorrected p dev scrub) ∧
      (s.eccCorrected p dev scrub).rd .FST_CH_ECC_BAND (s.addrChan p) = BitVec.ofNat 32 (s.addrBand p) := by
  unfold State.eccCorrected
  extract_lets c s1 full met _ s2
  have hcriterion : Changes [.outbox, .hal, .pce, .dma, .fst, .helm] [.FST_STATUS, .FST_CH_STATUS, .HAL_CNT_QUEUE_DROP,
      .PCE_STATUS, .PCE_CNT_MSIX_DROP, .DMA_STATUS, .HLM_CNT_NOTICE_DROP, .PWR_FAULT_SUMMARY] s1
      (if full && !met then s2.criterion c else s2) :=
    .cut (x := s2) (.fst (.refl ..) rfl (by decide)) fun h => .ite (h.op (s2.criterion_changes c)) h
  have hbucket := State.bump_frame ((s.eccRecord p false dev scrub).bump .FST_CH_CNT_CE c) .FST_CH_CE_BUCKET c 0
  have hrecord : Changes [] [.FST_CH_ECC_BAND, .FST_CH_ECC_INFO] s (s.eccRecord p false dev scrub) :=
    (s.wr_frame ..).within.op (State.wr_frame ..)
  refine ⟨(((State.counted_bump _ _ c).after hrecord (by decide)).before hbucket (by decide)).before hcriterion (by decide), ?_⟩
  rw [hcriterion.regs _ (by decide), hbucket.regs _ (by decide), State.rd_bump_reg _ _ _ _ _ (by decide)]
  unfold State.eccRecord
  rw [State.rd_wr_reg _ _ _ _ _ _ (by decide), State.rd_wr_self]

section
variable {c : Fin 12} (dt : Nat) {s : State} (huse : s.chInUse c) (href : s.fst.selfRefresh = false)
  (hbands : s.bands .FST_BANDS ≠ 0) (hpend : tblGet [] s.fst.mpPend c.val = [])
include huse href hbands hpend

/-- The scrubber takes its next burst at its instant of the pass, and moves on. -/
theorem exec_patrolScrub_due (err : Option BurstErr) :
    ∃ u, exec (.patrolScrub c dt err) s = .next (u.eccRead (s.scrubNext c) err true).2 ∧ Changes [.fine, .fst] [] s u ∧
      u.regs = s.regs ∧ u.fst.bad = s.fst.bad ∧
      tblGet 0 u.fst.scrubAt c.val =
        (if s.bands .FST_BANDS * 64 ≤ tblGet 0 s.fst.scrubAt c.val + 1 then 0 else tblGet 0 s.fst.scrubAt c.val + 1) ∧
      u.fine = max (s.fine + dt)
        (s.scrubStart c + s.scrubPass * tblGet 0 s.fst.scrubAt c.val / (s.bands .FST_BANDS * 64)) := by
  have hall : s.bands .FST_BANDS * 64 ≠ 0 := Nat.mul_ne_zero hbands (by decide)
  have hmax : max 1 (s.bands .FST_BANDS * 64) = s.bands .FST_BANDS * 64 := Nat.max_eq_right (Nat.one_le_iff_ne_zero.2 hall)
  show ∃ u, execPatrolScrub c dt err s = _ ∧ _
  unfold execPatrolScrub
  extract_lets c' n all s1 melt last _ s2
  have hwaiting : s1.mpPending c' = 0 := by
    show ((tblGet [] s.fst.mpPend c.val).filter _).length = 0
    rw [hpend]; rfl
  have hgo : ¬ (!s1.chInUse c' || s1.fst.selfRefresh || decide (all = 0) || melt && s1.mpPending c' != 0) = true := by
    rw [hwaiting, show s1.chInUse c' = true from huse, show s1.fst.selfRefresh = false from href, decide_eq_false hall]
    simp
  rw [if_neg hgo]
  refine ⟨s2, rfl, .fst (State.passTo_changes ..).within rfl (by decide), rfl, rfl, ?_, ?_⟩
  · refine (tblGet_set_self ..).trans ?_
    simp only [last, decide_eq_true_eq]
    rfl
  · show max (s.fine + dt) (s.scrubStart c + s.scrubPass * n / max 1 all) = _
    rw [hmax]

end

/-! ## The corrected-error bucket (R169) -/

theorem exec_ceLeak_used {c : Fin 12} (dt : Nat) {s : State} (huse : s.chInUse c) :
    ∃ u, exec (.ceLeak c dt) s = .next u ∧ u.rd .FST_CH_CE_BUCKET c = BitVec.ofNat 32 ((s.rd .FST_CH_CE_BUCKET c).toNat - 1) := by
  show ∃ u, execCeLeak c dt s = _ ∧ _
  unfold execCeLeak
  extract_lets due s1 _ s2 v s3
  rw [if_neg (by rw [show s1.chInUse c = true from huse]; decide)]
  refine ⟨_, rfl, ?_⟩
  split <;> exact State.rd_wr_self s2 ..

/-! ## The melt-pool log (R163, R164) -/

/-- A unit of the log goes to the next place of its part of the channel. -/
theorem State.mpUnit_log {s : State} {c beam : Nat} {u : LogUnit} (hsource : u.source ≠ 3)
    (hbands : s.bands .FST_MP_LOG_BANDS ≠ 0) :
    (s.mpUnit c beam u).rd .FST_CH_MPL_WP c =
      BitVec.ofNat 32 (((s.rd .FST_CH_MPL_WP c).toNat + 1) % (s.bands .FST_MP_LOG_BANDS * 64)) := by
  have htest : (u.source == 3) = false := beq_eq_false_iff_ne.2 hsource
  simp only [State.mpUnit, htest, Bool.false_eq_true, if_false, if_neg hbands]
  exact State.rd_wr_self ..

theorem exec_mpUnitWrite_next {n : Fin 12} (dt wait : Nat) {u : LogUnit} {rest : List LogUnit} {c : Nat} {s : State}
    (hlog : (s.sh n).log = u :: rest) (href : s.fst.selfRefresh = false) (hchan : (s.advance dt).mpChannel = some c) :
    ∃ v : State, exec (.mpUnitWrite n dt wait) s = .next (v.mpUnit c n u) ∧ (v.sh n).log = rest ∧ v.regs = s.regs := by
  have hlog' : (tblGet {} (s.advance dt).sht n.val).log = u :: rest := hlog
  show ∃ v : State, execMpUnitWrite n dt wait s = _ ∧ _
  simp only [execMpUnitWrite, hlog', hchan]
  rw [if_neg (by rw [show (s.advance dt).fst.selfRefresh = false from href]; decide)]
  exact ⟨_, rfl, congrArg Sht.log (tblGet_set_self ..), rfl⟩

/-- Settles O32: each command by the lemma of its run, and what that leaves by the lemma of its operation. -/
theorem storeMemory : Obligations.StoreMemory := by
  unfold Obligations.StoreMemory
  refine ⟨?write, ?refused, ?read, ?below, ?refresh, ?scrub, ?corrected, ?leak, ?log⟩
  case write =>
    intro addr data hd s hflr hlvl hup hret hall
    have hplace (i : Nat) (hi : i < data.length) : (s.storePlace (addr + i)).isSome :=
      (Bool.and_eq_true_iff.1 (List.all_eq_true.1 hall i (List.mem_range.2 hi))).2
    refine ⟨_, exec_bar2Write_operator hd hflr data hlvl, ?_⟩
    rw [if_pos (by simpa only [hup, Bool.true_and] using hall)]
    refine ⟨fun x => ?_, State.regs_storeWr ..⟩
    rw [State.ddrRd_storeWr data (by rw [s.fst_linkWake, hret]) false
      fun i hi => by rw [s.samePlaces_linkWake.storePlace]; exact hplace i hi, s.ddrRd_linkWake]
  case refused =>
    intro addr data i hd s hflr hlvl hi hnone
    refine ⟨_, exec_bar2Write_operator hd hflr data hlvl, if_neg fun hall => ?_⟩
    have := List.all_eq_true.1 hall i (List.mem_range.2 hi)
    rw [Option.isNone_iff_eq_none.1 hnone, Option.isSome_none, Bool.and_false] at this
    cases this
  case read =>
    intro addr len hd s hflr hlvl hup hret hpos hlen hall hclean
    have hplace (i : Nat) (hi : i < len) : (s.storePlace (addr + i)).isSome := List.all_eq_true.1 hall i (List.mem_range.2 hi)
    have hmin : min len 4096 = len := Nat.min_eq_left (by omega)
    have hfetch : s.linkWake.storeFetch addr len [] = ⟨s.storeRd addr len, [], s.linkWake⟩ := by
      rw [State.storeFetch_clean (by rw [s.fst_linkWake, hret]) hpos
        (fun i hi => by rw [s.samePlaces_linkWake.storePlace]; exact hplace i hi) (by rw [s.storeBad_linkWake, hclean]),
        s.storeRd_linkWake]
    refine ⟨_, exec_bar2Read_observer hd hflr [] hlvl hup (by rwa [hmin]), ?_⟩
    have hdata := s.length_storeRd addr len
    rw [hmin, hfetch, State.completions_one _ _ _ _ (by rwa [hdata]) (by rwa [hdata])]
    exact ⟨congrArg (· ++ _) (s.linkWake_changes.parts .outbox (by decide)), rfl⟩
  case below =>
    intro addr len errs hd s hflr hlvl
    exact ⟨_, exec_bar2Read_below hd hflr len errs hlvl, rfl⟩
  case refresh =>
    intro c dt len hot s huse href htwo
    exact ⟨_, exec_refresh_used dt len hot huse href, tblGet_set_self .., State.refDue_refreshed .., s.le_fine_refreshed c dt len hot,
      s.length_inRefresh_refreshed c dt len hot htwo, rfl⟩
  case scrub =>
    intro c dt s huse href hbands hpend hclean
    obtain ⟨u, hrun, _, hregs, hbad, hat, hfine⟩ := exec_patrolScrub_due dt huse href hbands hpend none
    rw [State.eccRead_clean true (by rw [State.ddrBad, hbad]; exact hclean)] at hrun
    exact ⟨u, hrun, hat, hfine, hregs⟩
  case corrected =>
    intro c dt d x s huse href hbands hpend hclean
    obtain ⟨u, hrun, hchanges, _, hbad, _⟩ := exec_patrolScrub_due dt huse href hbands hpend (some ⟨[d], false, x⟩)
    rw [State.eccRead_corrected true (by rw [State.ddrBad, hbad]; exact hclean) (burstSeen_one d x)] at hrun
    obtain ⟨hcounted, hband⟩ := u.eccCorrected_shows (s.scrubNext c) d true
    have hstride : u.stride = s.stride := by rw [State.stride, State.stride, hchanges.parts .variant (by decide)]
    rw [State.addrChan, hstride] at hcounted hband
    rw [State.addrBand, hstride] at hband
    exact ⟨_, hrun, hcounted.after hchanges List.not_mem_nil, hband⟩
  case leak =>
    intro c dt s huse
    obtain ⟨u, hrun, hbucket⟩ := exec_ceLeak_used dt huse
    refine ⟨u, hrun, (congrArg BitVec.toNat hbucket).trans ?_⟩
    rw [BitVec.toNat_ofNat, Nat.mod_eq_of_lt (by omega)]
  case log =>
    intro n dt wait u rest c s hlog hsource href hchan hbands
    obtain ⟨v, hrun, hrest, hregs⟩ := exec_mpUnitWrite_next dt wait hlog href hchan
    have hrd (r : Reg) (i : Nat) : v.rd r i = s.rd r i := by rw [State.rd, State.rd, hregs]
    have hbandsv : v.bands .FST_MP_LOG_BANDS = s.bands .FST_MP_LOG_BANDS := by rw [State.bands, State.bands, hrd]
    refine ⟨_, hrun, by rw [(v.mpUnit_changes c n u).sh (by decide), hrest], ?_⟩
    rw [State.mpUnit_log hsource (by rwa [hbandsv]), hbandsv, hrd]

end
end Sys2Proof.Machine

/-! # What the operations of a DMA channel do (O53) -/

namespace Sys2Proof.Machine
section
set_option Elab.async false

/-! ## The state of a channel (R460) -/

theorem Changes.dmaState {P : List Part} {R : List Reg} {s t : State} (h : Changes P R s t) (hr : Reg.DMA_STATUS ∉ R := by decide)
    (n : Nat) : t.dmaState n = s.dmaState n := h.fld hr n 0

@[simp] theorem State.dmaState_setDmaState (s : State) (n v : Nat) : (s.setDmaState n v).dmaState n = v % 16 :=
  s.fld_setFld_same v n 0 (by decide)

@[simp] theorem State.dm_setDmaState (s : State) (n v m : Nat) : (s.setDmaState n v).dm m = s.dm m := rfl

@[simp] theorem State.dm_setCur (s : State) (n a m : Nat) : (s.setCur n a).dm m = s.dm m := rfl

theorem State.dmaState_setCur (s : State) (n a m : Nat) : (s.setCur n a).dmaState m = s.dmaState m :=
  (s.setCur_changes n a).dmaState (by decide) m

@[simp] theorem State.dmaState_setDm (s : State) (n : Nat) (x : Dma) (m : Nat) : (s.setDm n x).dmaState m = s.dmaState m := rfl

theorem State.dm_setDm_eq (s : State) (n m : Nat) (x : Dma) : (s.setDm n x).dm m = if m = n then x else s.dm m := by
  split
  · next h => rw [h, State.dm_setDm]
  · next h => rw [State.dm_setDm_ne _ _ _ h]

theorem Changes.frameMode {P : List Part} {R : List Reg} {s t : State} (h : Changes P R s t) (hr : Reg.DMA_CFG ∉ R := by decide)
    (n : Nat) : t.frameMode n = s.frameMode n := congrArg (· != 0) (h.fld (f := F.DMA_CFG_MODE) hr n 0)

theorem Changes.dbCount {P : List Part} {R : List Reg} {s t : State} (h : Changes P R s t) (hr : Reg.DMA_DB_COUNT ∉ R := by decide)
    (n : Nat) : t.dbCount n = s.dbCount n := congrArg BitVec.toNat (h.regs _ hr n 0)

/-! ## Reads that a channel issues (R417, R424) -/

/-- A read that may not be issued leaves the channel where it is; nothing else of a channel changes. -/
theorem State.dm_dmaRead (s : State) (n : Nat) (k : ReqKind) (a len : Nat) :
    ∃ b, (s.dmaRead n k a len).dm n = { s.dm n with paused := b } := by
  unfold State.dmaRead
  split
  · exact ⟨(s.dm n).paused, (s.issue_changes _).dm (by decide) n⟩
  · exact ⟨true, by simp⟩

theorem State.dmaState_dmaRead (s : State) (n : Nat) (k : ReqKind) (a len m : Nat) : (s.dmaRead n k a len).dmaState m = s.dmaState m :=
  (s.dmaRead_changes n k a len).dmaState (by decide) m

/-- A read issued for a channel that has just begun to load. -/
theorem State.dmaLoads.dmaRead {t : State} {n a : Nat} (h : t.dmaLoads n a) (k : ReqKind) (b len : Nat) :
    (t.dmaRead n k b len).dmaLoads n a := by
  obtain ⟨hstate, hphase, haddr⟩ := h
  obtain ⟨p, hp⟩ := t.dm_dmaRead n k b len
  exact ⟨(t.dmaState_dmaRead ..).trans hstate, by rw [hp]; exact hphase, by rw [hp]; exact haddr⟩

/-- The load of a descriptor (R441). -/
theorem State.dmaLoad_loads (s : State) (n a : Nat) :
    (s.dmaLoad n a).dmaLoads n a ∧ ((s.dmaLoad n a).dm n).snap = s.dbCount n := by
  unfold State.dmaLoad
  extract_lets x s1 s2
  have h1 : s1.dmaLoads n a ∧ (s1.dm n).snap = s.dbCount n := by
    refine ⟨⟨State.dmaState_setDmaState .., ?_, ?_⟩, ?_⟩ <;> simp [s1]
  have h2 : s2.dmaLoads n a ∧ (s2.dm n).snap = s.dbCount n := by
    unfold s2
    split
    · exact h1
    · obtain ⟨⟨hstate, hrest⟩, hsnap⟩ := h1
      exact ⟨⟨(s1.dmaState_setCur ..).trans hstate, hrest⟩, hsnap⟩
  split
  · exact h2
  · obtain ⟨p, hp⟩ := s2.dm_dmaRead n .desc (a / 64 * 64) 64
    exact ⟨h2.1.dmaRead .., by rw [hp]; exact h2.2⟩

/-! ## The end of a chain (R441, R451) -/

theorem State.endCheck_parked {s : State} {n : Nat} (h : s.dbCount n = (s.dm n).snap) : (s.endCheck n).dmaState n = dmaParkedEnd := by
  unfold State.endCheck
  simp only [h, if_true]
  exact State.dmaState_setDmaState ..

theorem State.dmaNext_stop {s : State} {n : Nat} (h : (s.dm n).stop) :
    (s.dmaNext n).dmaState n = dmaIdle ∧ ((s.dmaNext n).dm n).stop = false := by
  unfold State.dmaNext
  simp only [h, if_true]
  exact ⟨State.dmaState_setDmaState .., by simp⟩

theorem State.dmaNext_migWait {s : State} {n : Nat} (h : (s.dm n).stop = false) (hw : (s.dm n).migWait) :
    (s.dmaNext n).dmaState n = dmaReserved := by
  unfold State.dmaNext
  simp only [h, hw, if_true, Bool.false_eq_true, if_false]
  exact State.dmaState_setDmaState ..

theorem State.dmaNext_end {s : State} {n : Nat} (h : (s.dm n).stop = false) (hw : (s.dm n).migWait = false)
    (hl : (s.dm n).desc.linkEnd) (hs : s.dbCount n = (s.dm n).snap) : (s.dmaNext n).dmaState n = dmaParkedEnd := by
  unfold State.dmaNext
  simp only [h, hw, hl, if_true, Bool.false_eq_true, if_false]
  exact State.endCheck_parked hs

/-! ## Reads of the store, which may begin a migration (R167, R172) -/

/-- From `s` to `t` no channel has changed but that a migration has come to wait for it. -/
structure SameButMigWait (s t : State) : Prop where
  chan : ∀ k, ∃ b, t.dm k = { s.dm k with migWait := b }

theorem SameButMigWait.ofDma {s t : State} (h : t.dma = s.dma) : SameButMigWait s t :=
  ⟨fun k => ⟨(s.dm k).migWait, (congrArg (tblGet ({} : Dma) · k) h).trans rfl⟩⟩

theorem SameButMigWait.refl (s : State) : SameButMigWait s s := .ofDma rfl

theorem SameButMigWait.trans {s t u : State} (h : SameButMigWait s t) (k : SameButMigWait t u) : SameButMigWait s u := by
  refine ⟨fun n => ?_⟩
  obtain ⟨b, hb⟩ := h.chan n
  obtain ⟨c, hc⟩ := k.chan n
  exact ⟨c, by rw [hc, hb]⟩

theorem Changes.sameButMigWait {P : List Part} {R : List Reg} {s t : State} (h : Changes P R s t) (hp : Part.dma ∉ P := by decide) :
    SameButMigWait s t := .ofDma (h.parts .dma hp)

theorem State.startMigration_sameButMigWait (s : State) : SameButMigWait s s.startMigration := by
  unfold State.startMigration
  extract_lets d st x y s1
  split
  · refine ⟨fun k => ?_⟩
    rw [show ({ s1 with dma := tblSet {} s.dma d { x with migWait := true } } : State).dm k = _ from s.dm_setDm_eq d k _]
    split
    · next h => exact ⟨true, by rw [h]; rfl⟩
    · exact ⟨(s.dm k).migWait, rfl⟩
  · exact .ofDma rfl

theorem State.criterion_sameButMigWait (s : State) (c : Nat) : SameButMigWait s (s.criterion c) := by
  unfold State.criterion
  split
  · exact .refl s
  · split
    · extract_lets y s1
      refine SameButMigWait.trans ?_ (State.startMigration_sameButMigWait _)
      refine SameButMigWait.trans ?_ (State.notice_changes ..).sameButMigWait
      refine SameButMigWait.trans ?_ (State.publish_changes ..).sameButMigWait
      exact .ofDma rfl
    · exact .ofDma rfl

theorem State.eccCorrected_sameButMigWait (s : State) (p dev : Nat) (scrub : Bool) :
    SameButMigWait s (s.eccCorrected p dev scrub) := by
  unfold State.eccCorrected
  extract_lets c s1 full met y s2
  have h : SameButMigWait s s2 := .ofDma rfl
  split
  · exact h.trans (s2.criterion_sameButMigWait c)
  · exact h

theorem State.eccUncorrectable_sameButMigWait (s : State) (p : Nat) (scrub : Bool) :
    SameButMigWait s (s.eccUncorrectable p scrub) := by
  unfold State.eccUncorrectable
  extract_lets c s1 y
  have h : SameButMigWait s s1 := .ofDma rfl
  split
  · exact h
  · refine SameButMigWait.trans ?_ (State.criterion_sameButMigWait _ c)
    exact .ofDma rfl

theorem State.eccRead_sameButMigWait (s : State) (p : Nat) (e : Option BurstErr) (scrub : Bool) :
    SameButMigWait s (s.eccRead p e scrub).2 := by
  unfold State.eccRead
  split
  · exact s.eccUncorrectable_sameButMigWait ..
  · split
    · exact .refl s
    · exact s.eccCorrected_sameButMigWait ..
    · exact s.eccUncorrectable_sameButMigWait ..
    · dsimp only
      refine SameButMigWait.trans ?_ (State.eccCorrected_sameButMigWait ..)
      exact .ofDma rfl

theorem State.fetchBurst_sameButMigWait (s : State) (a : Nat) (e : Option BurstErr) : SameButMigWait s (s.fetchBurst a e).2.2 := by
  unfold State.fetchBurst
  split
  · exact .refl s
  · next p hp =>
    extract_lets r v
    have hr : SameButMigWait s r.2 := s.eccRead_sameButMigWait p e false
    split
    · exact hr.trans (.ofDma rfl)
    · exact hr

theorem State.fetchBursts_sameButMigWait (a : Nat) (errs : List (Nat × BurstErr)) (n k : Nat) (s : State) :
    SameButMigWait s (State.fetchBursts a errs n k s).st := by
  induction n generalizing k s with
  | zero => exact .refl s
  | succ n ih => exact (s.fetchBurst_sameButMigWait _ _).trans (ih _ _)

theorem State.storeFetch_sameButMigWait (s : State) (a n : Nat) (errs : List (Nat × BurstErr)) :
    SameButMigWait s (s.storeFetch a n errs).st := State.fetchBursts_sameButMigWait ..

theorem State.dmaStoreRd_sameButMigWait (s : State) (a n : Nat) (errs : List (Nat × BurstErr)) :
    SameButMigWait s (s.dmaStoreRd a n errs).st := by
  unfold State.dmaStoreRd
  dsimp only
  split
  · exact s.storeFetch_sameButMigWait a n errs
  · exact (s.storeFetch_sameButMigWait a n errs).trans (.ofDma rfl)

theorem State.descBytes_sameButMigWait (s : State) (a : Nat) (rx : List Byte) (errs : List (Nat × BurstErr)) :
    SameButMigWait s (s.descBytes a rx errs).2 := by
  unfold State.descBytes
  split
  · exact s.storeFetch_sameButMigWait ..
  · exact .refl s

end
end Sys2Proof.Machine

/-! # Descriptors loaded, run and retired (O53; R433, R434, R437, R440, R441) -/

namespace Sys2Proof.Machine
section
set_option Elab.async false

/-! ## A descriptor that has been read -/

/-- Channel `n` with the descriptor it has waited for, a store read with the errors it meets. -/
def State.descGot (s : State) (n : Nat) (errs : List (Nat × BurstErr)) : State :=
  let t := (s.descBytes (s.dm n).addr (s.dm n).rx errs).2
  t.setDm n { t.dm n with phase := .none, rx := [], got := false }

theorem State.descGot_changes (s : State) (n : Nat) (errs : List (Nat × BurstErr)) :
    Changes [.outbox, .freeCtr, .hal, .pce, .dma, .ddr, .fst, .helm] [.FST_STATUS, .FST_CH_STATUS,
      .FST_CH_CE_BUCKET, .FST_CH_CNT_CE, .FST_CH_CNT_UE, .FST_CH_ECC_BAND, .FST_CH_ECC_INFO, .HAL_CNT_QUEUE_DROP,
      .PCE_STATUS, .PCE_CNT_MSIX_DROP, .DMA_STATUS, .HLM_CNT_NOTICE_DROP, .PWR_FAULT_SUMMARY] s (s.descGot n errs) :=
  .dma (s.descBytes_changes ..) (by decide)

/-- The channel keeps what it had when the read of the descriptor was issued. -/
theorem State.dm_descGot (s : State) (n : Nat) (errs : List (Nat × BurstErr)) :
    ((s.descGot n errs).dm n).snap = (s.dm n).snap ∧ ((s.descGot n errs).dm n).addr = (s.dm n).addr := by
  obtain ⟨b, hb⟩ := (s.descBytes_sameButMigWait (s.dm n).addr (s.dm n).rx errs).chan n
  unfold State.descGot
  rw [State.dm_setDm]
  exact ⟨(congrArg Dma.snap hb :), (congrArg Dma.addr hb :)⟩

theorem Changes.badDesc {P : List Part} {R : List Reg} {s t : State} (h : Changes P R s t) (hc : Reg.DMA_CFG ∉ R := by decide)
    (hq : Reg.QUE_CFG ∉ R := by decide) (n : Nat) (d : Desc) : t.badDesc n d = s.badDesc n d := by
  have hdepth (q : Nat) : t.queDepth q = s.queDepth q := congrArg (fun k => if k = 0 then 0 else 2 ^ k) (h.fld (f := F.QUE_CFG_K) hq q 0)
  simp only [State.badDesc, h.frameMode hc, hdepth]

/-- The descriptor of a channel in descriptor mode, or one that is bad, is taken at once. -/
theorem exec_descriptorLoad_takes {n : Fin 32} {s : State} (errs : List (Nat × BurstErr)) (h : s.dmaHasRead n .loading)
    (hmode : s.frameMode n = false ∨ (s.descRead n errs).own ∧ s.badDesc n (s.descRead n errs)) :
    exec (.descriptorLoad n errs) s = .next ((s.descGot n errs).takeDesc n (s.descRead n errs)) := by
  simp only [State.dmaHasRead, Bool.and_eq_true, beq_iff_eq, Bool.not_eq_true'] at h
  obtain ⟨⟨⟨hphase, hread⟩, hpaused⟩, hheld⟩ := h
  have hgot := s.descGot_changes n errs
  have hbad := hgot.badDesc (by decide) (by decide) n (s.descRead n errs)
  have hframe := hgot.frameMode (by decide) n
  have hopen : (s.dm n).paused = false ∧ ((s.dm n).phase != .loading) = false ∧
      (!(inStore (s.dm n).addr || (s.dm n).got) || s.dmaHeld (inStore (s.dm n).addr)) = false := by
    simp [hphase, hread, hpaused, hheld]
  obtain ⟨h1, h2, h3⟩ := hopen
  show execDescriptorLoad n errs s = _
  unfold execDescriptorLoad
  simp only [h1, h2, h3, Bool.false_eq_true, if_false]
  change (Host.Outcome.next (if (s.descGot n errs).frameMode n = true then
      if (!(s.descRead n errs).own) = true then _ else if (s.descGot n errs).badDesc n (s.descRead n errs) = true then _ else _
    else _) : Res) = _
  obtain hdesc | ⟨hown, hbadDesc⟩ := hmode
  · rw [if_neg (by rw [hframe, hdesc]; decide)]
    rfl
  · rw [hbad, hown, if_neg (show ¬ ((!true) = true) by decide), if_pos hbadDesc, ite_self]
    rfl

/-! ## What becomes of it -/

/-- A descriptor that the host still owns (R441). -/
theorem State.takeDesc_notOwned {s : State} {n : Nat} {d : Desc} (h : d.own = false) :
    if s.dbCount n = (s.dm n).snap then (s.takeDesc n d).dmaState n = dmaParkedOwn ∧ Counted .DMA_CNT_OWN_WAIT n s (s.takeDesc n d)
    else (s.takeDesc n d).dmaLoads n (s.dm n).addr ∧ ((s.takeDesc n d).dm n).snap = s.dbCount n := by
  unfold State.takeDesc
  simp only [h, Bool.not_false, if_true]
  split
  · exact ⟨State.dmaState_setDmaState ..,
      (State.counted_bump (s.setDm n _) _ n).before (State.setDmaState_changes _ n dmaParkedOwn) (by decide)⟩
  · exact s.dmaLoad_loads n _

/-- A halting error (R440). -/
theorem State.dmaHalt_halted (s : State) (n code : Nat) (back : Bool) :
    (s.dmaHalt n code back).dmaState n = dmaHalted ∧ (s.dmaHalt n code back).fld F.DMA_STATUS_LAST_ERR n = code % 16 := by
  unfold State.dmaHalt
  extract_lets x s1 s2 s3
  have hmsix := State.msixReq_changes
  rw [(hmsix _ _).dmaState, (hmsix _ _).fld (by decide), State.dmaState_setCur, (State.setCur_changes ..).fld (by decide)]
  constructor
  · rw [State.dmaState, State.fld_setFld_below _ _ _ _ _ _ (by decide) (by decide),
      State.fld_setFld_below _ _ _ _ _ _ (by decide) (by decide)]
    exact State.dmaState_setDmaState ..
  · rw [State.fld_setFld_below _ _ _ _ _ _ (by decide) (by decide)]
    exact State.fld_setFld_same _ _ _ _ (by decide)

/-- A bad descriptor (R434). -/
theorem State.takeDesc_bad {s : State} {n : Nat} {d : Desc} (h : d.own) (hb : s.badDesc n d) :
    (s.takeDesc n d).dmaState n = dmaHalted ∧ (s.takeDesc n d).fld F.DMA_STATUS_LAST_ERR n = 0xA := by
  unfold State.takeDesc
  simp only [h, hb, Bool.not_true, Bool.false_eq_true, if_false, if_true]
  exact State.dmaHalt_halted ..

/-- A descriptor other than a DRAIN as it begins (R431). -/
theorem State.startDesc_runs {s : State} {n : Nat} {d : Desc} (h : d.type ≠ 2) :
    (s.startDesc n d).dmaState n = dmaRunning ∧ ((s.startDesc n d).dm n).desc = d ∧ ((s.startDesc n d).dm n).phase = .moving := by
  unfold State.startDesc
  extract_lets s0 x s1 q y s2 a z s3
  have h2 : s2.dmaState n = dmaRunning ∧ (s2.dm n).desc = d ∧ (s2.dm n).phase = .moving := by
    unfold s2
    rw [if_neg h]
    refine ⟨State.dmaState_setDmaState .., ?_, ?_⟩ <;> simp [s1]
  clear_value s2
  have h3 : s3.dmaState n = dmaRunning ∧ (s3.dm n).desc = d ∧ (s3.dm n).phase = .moving := by
    simpa [s3, z] using h2
  clear_value s3
  split
  · exact h2
  · split
    · exact h3
    · obtain ⟨b, hb⟩ := s3.dm_dmaRead n .shadow (a / 64 * 64) 64
      rw [State.dmaState_dmaRead, hb]
      exact h3

theorem State.takeDesc_starts {s : State} {n : Nat} {d : Desc} (h : d.own) (hb : s.badDesc n d = false) :
    s.takeDesc n d = s.startDesc n d := by
  unfold State.takeDesc
  simp only [h, hb, Bool.not_true, Bool.false_eq_true, if_false]

/-! ## A descriptor that retires (R437, R438) -/

theorem State.dmaRetire_counted (s : State) (n a : Nat) (d : Desc) (result : Nat) (fb : Option Nat) (done info : Nat) :
    Counted .DMA_CNT_DESC n s (s.dmaRetire n a d result fb done info) := by
  unfold State.dmaRetire
  extract_lets s1 s2
  have h1 : Counted .DMA_CNT_DESC n s s1 := (State.counted_bump ..).after (State.dmaWriteBack_changes ..) (by decide)
  have h2 : Counted .DMA_CNT_DESC n s s2 := by
    unfold s2
    split
    · exact h1.before (State.publish_changes ..) (by decide)
    · exact h1
  split
  · exact h2.before (State.msixReq_changes ..) (by decide)
  · exact h2

/-- The channel after the read-back of a descriptor that it has written, `u` being the state after the read. -/
def State.descBack (s u : State) (n : Nat) : State :=
  let x := s.dm n
  let v := if x.firstBad.isSome then u.bump .DMA_CNT_POISON n else u
  let t := v.dmaRetire n x.addr x.desc (if x.firstBad.isSome then 1 else 0) x.firstBad x.moved x.items
  t.setDm n { t.dm n with phase := .none }

theorem State.descBack_changes (s u : State) (n : Nat) :
    Changes [.outbox, .hal, .pce, .dma, .ddr, .fst] [.FST_CNT_BAD_ACCESS, .HAL_CNT_QUEUE_DROP, .PCE_STATUS,
      .PCE_CNT_MSIX_DROP, .DMA_CNT_POISON, .DMA_CNT_DESC] u (s.descBack u n) := by
  unfold State.descBack
  extract_lets x v t
  have hv : Changes [] [.DMA_CNT_POISON] u v := .ite (.bump (.refl ..) (by decide)) (.refl ..)
  exact .dma (hv.within.op (State.dmaRetire_changes ..)) (by decide)

theorem State.descBack_counted (s u : State) (n : Nat) : Counted .DMA_CNT_DESC n u (s.descBack u n) := by
  unfold State.descBack
  extract_lets x v t
  have hv : Changes [] [.DMA_CNT_POISON] u v := .ite (.bump (.refl ..) (by decide)) (.refl ..)
  exact ((v.dmaRetire_counted ..).after hv (by decide)).before (State.setDm_changes ..) (by decide)

theorem State.dm_descBack (s u : State) (n : Nat) : (s.descBack u n).dm n = { u.dm n with phase := .none } := by
  unfold State.descBack
  rw [State.dm_setDm, (State.dmaRetire_changes ..).dm (by decide)]
  split <;> rfl

theorem exec_readBackDone_back {n : Fin 32} {s u : State} {errs : List (Nat × BurstErr)} (hp : (s.dm n).paused = false)
    (hmode : s.frameMode n = false) (hback : (s.dm n).phase = .readBack ∧ (s.dm n).backOk)
    (hheld : s.dmaHeld (inStore (s.dm n).addr || (s.dm n).desc.dstSpace == 1) = false)
    (hu : (if (s.dm n).desc.dstSpace = 1 then (s.storeFetch ((s.dm n).lastByte / 64 * 64) 64 errs).st else s) = u) :
    exec (.readBackDone n errs) s = .next ((s.descBack u n).dmaNext n) := by
  obtain ⟨hphase, hok⟩ := hback
  show execReadBackDone n errs s = _
  unfold execReadBackDone
  simp only [hp, hmode, hphase, hok, hheld, hu, Bool.false_eq_true, if_false, decide_true, Bool.and_true, Bool.not_false, if_true]
  rfl

/-- The state after the last burst of a descriptor has been read back. -/
theorem State.readBackState {s u : State} {n : Nat} {errs : List (Nat × BurstErr)}
    (hu : (if (s.dm n).desc.dstSpace = 1 then (s.storeFetch ((s.dm n).lastByte / 64 * 64) 64 errs).st else s) = u) :
    Changes [.outbox, .freeCtr, .hal, .pce, .dma, .ddr, .fst, .helm] [.FST_STATUS, .FST_CH_STATUS,
      .FST_CH_CE_BUCKET, .FST_CH_CNT_CE, .FST_CH_CNT_UE, .FST_CH_ECC_BAND, .FST_CH_ECC_INFO, .HAL_CNT_QUEUE_DROP,
      .PCE_STATUS, .PCE_CNT_MSIX_DROP, .DMA_STATUS, .HLM_CNT_NOTICE_DROP, .PWR_FAULT_SUMMARY] s u ∧ SameButMigWait s u := by
  rw [← hu]
  split
  · exact ⟨s.storeFetch_changes .., s.storeFetch_sameButMigWait ..⟩
  · exact ⟨.refl .., .refl s⟩

end
end Sys2Proof.Machine

/-! # Commands, doorbells and bursts of a DMA channel (O53; R436, R441, R448, R460) -/

namespace Sys2Proof.Machine
section
set_option Elab.async false

/-! ## The re-read of an end link (R441) -/

/-- Channel `n` with the link `link` that it has read again. -/
def State.linkGot (s : State) (n link : Nat) : State :=
  s.setDm n { s.dm n with desc := { (s.dm n).desc with link := link }, phase := .none, rx := [], got := false }

/-- Channel `n` goes on from a link that it has read again: parked by one that still ends the chain, it follows any other. -/
def State.linkGoes (t : State) (n link : Nat) : State :=
  if link % 2 = 1 then (t.linkGot n link).endCheck n else (t.linkGot n link).dmaLoad n (linkAddr link)

/-- The link that channel `n` has read again, a store read with the errors it meets. -/
def State.linkRead (s : State) (n : Nat) (errs : List (Nat × BurstErr)) : Nat :=
  fieldLE (if inStore (s.dm n).addr then (s.storeFetch ((s.dm n).addr / 64 * 64 + 0x18) 8 errs).data else (s.dm n).rx) 0 8

theorem exec_linkReread_read {n : Fin 32} {s : State} (errs : List (Nat × BurstErr)) (h : s.dmaHasRead n .reread) :
    ∃ t : State, exec (.linkReread n errs) s = .next (t.linkGoes n (s.linkRead n errs)) ∧
      t.dbCount n = s.dbCount n ∧ (t.dm n).snap = (s.dm n).snap := by
  simp only [State.dmaHasRead, Bool.and_eq_true, beq_iff_eq, Bool.not_eq_true'] at h
  obtain ⟨⟨⟨hphase, hread⟩, hpaused⟩, hheld⟩ := h
  have hopen : ((s.dm n).phase != .reread || !(inStore (s.dm n).addr || (s.dm n).got) || (s.dm n).paused ||
      s.dmaHeld (inStore (s.dm n).addr)) = false := by simp [hphase, hread, hpaused, hheld]
  obtain ⟨t, ht⟩ : ∃ t,
      (if inStore (s.dm n).addr then (s.storeFetch ((s.dm n).addr / 64 * 64 + 0x18) 8 errs).st else s) = t := ⟨_, rfl⟩
  obtain ⟨link, hl⟩ : ∃ link, s.linkRead n errs = link := ⟨_, rfl⟩
  rw [hl]
  unfold State.linkRead at hl
  refine ⟨t, ?_, ?_⟩
  · show execLinkReread n errs s = _
    unfold execLinkReread
    simp only [hopen, ht, hl, Bool.false_eq_true, if_false]
    rfl
  · rw [← ht]
    split
    · obtain ⟨b, hb⟩ := (s.storeFetch_sameButMigWait ((s.dm n).addr / 64 * 64 + 0x18) 8 errs).chan n
      exact ⟨(s.storeFetch_changes ..).dbCount (by decide) n, (congrArg Dma.snap hb :)⟩
    · exact ⟨rfl, rfl⟩

theorem State.linkGoes_runs {s t : State} {n : Nat} (link : Nat) (hcount : t.dbCount n = s.dbCount n)
    (hsnap : (t.dm n).snap = (s.dm n).snap) :
    if link % 2 = 1 then s.dbCount n = (s.dm n).snap → (t.linkGoes n link).dmaState n = dmaParkedEnd
    else (t.linkGoes n link).dmaLoads n (linkAddr link) := by
  unfold State.linkGoes
  split
  · intro h
    refine State.endCheck_parked ?_
    rw [State.linkGot, State.dm_setDm]
    exact hcount.trans (h.trans hsnap.symm)
  · exact (State.dmaLoad_loads ..).1

/-! ## Doorbells and commands (R441, R460) -/

theorem State.doorbell_counts (s : State) (n : Nat) : (s.doorbell n).rd .DMA_DB_COUNT n = s.rd .DMA_DB_COUNT n + 1 := by
  unfold State.doorbell
  extract_lets t x
  have ht : t.rd .DMA_DB_COUNT n = s.rd .DMA_DB_COUNT n + 1 := by
    unfold t State.dbCount
    rw [State.rd_wr_self, BitVec.ofNat_add, BitVec.ofNat_toNat, BitVec.setWidth_eq]
    rfl
  clear_value t
  split
  · exact ((t.endCheck_changes n).regs _ (by decide) n 0).trans ht
  · split
    · exact ((t.dmaLoad_changes n _).regs _ (by decide) n 0).trans ht
    · split
      · exact ((t.ctRefill_changes n).regs _ (by decide) n 0).trans ht
      · exact ht

/-- A channel parked at a descriptor that the host owned reads it again. -/
theorem State.doorbell_parkedOwn {s : State} {n : Nat} (h : s.dmaState n = dmaParkedOwn) : (s.doorbell n).dmaLoads n (s.dm n).addr := by
  unfold State.doorbell
  extract_lets t x
  have ht : t.dmaState n = dmaParkedOwn := ((s.wr_frame ..).dmaState (by decide) n).trans h
  rw [if_neg (by rw [ht]; decide), if_pos ht]
  exact (t.dmaLoad_loads n _).1

theorem exec_dmaDoorbell_may {who : Requester} {n : Fin 32} {s : State} (h : s.mayWrite who .DMA_DOORBELL n) :
    exec (.dmaDoorbell who n) s = .next (s.doorbell n) := congrArg Host.Outcome.next (State.writeGate_may _ h)

theorem exec_dmaStart_may {who : Requester} {n : Fin 32} {s : State} (h : s.mayWrite who .DMA_CMD n)
    (hstate : s.dmaState n = dmaIdle ∨ s.dmaState n = dmaHalted ∨ s.dmaState n = dmaAborted) :
    exec (.dmaStart who n) s = .next ((s.setDm n { credit := (s.dm n).credit, creditAt := (s.dm n).creditAt }).dmaLoad n
      (linkAddr ((s.rd .DMA_DESC_LO n).toNat + (s.rd .DMA_DESC_HI n).toNat * 2 ^ 32))) := by
  refine congrArg Host.Outcome.next ((State.writeGate_may _ h).trans (if_pos ?_))
  simpa only [Bool.or_eq_true, decide_eq_true_eq, or_assoc] using hstate

theorem exec_dmaStop_parked {who : Requester} {n : Fin 32} {s : State} (h : s.mayWrite who .DMA_CMD n)
    (hstate : s.dmaState n = dmaParkedEnd ∨ s.dmaState n = dmaParkedOwn) :
    exec (.dmaStop who n) s = .next ((s.setDm n { s.dm n with stop := true }).dmaNext n) := by
  refine congrArg Host.Outcome.next ((State.writeGate_may _ h).trans (if_pos ?_))
  simp only [Bool.or_eq_true, decide_eq_true_eq]
  exact .inl hstate

theorem exec_dmaAbort_may {who : Requester} {n : Fin 32} {s : State} (h : s.mayWrite who .DMA_CMD n)
    (hstate : s.dmaState n ≠ dmaReserved) : exec (.dmaAbort who n) s = .next (s.dmaAbort n false) :=
  congrArg Host.Outcome.next ((State.writeGate_may _ h).trans (if_neg hstate))

theorem State.dmaAbort_aborted (s : State) (n : Nat) :
    (s.dmaAbort n false).dmaState n = dmaAborted ∧ ((s.dmaAbort n false).dm n).phase = .none := by
  unfold State.dmaAbort
  extract_lets x t u
  refine ⟨(State.fld_setFld_below _ _ _ _ _ _ (by decide) (by decide)).trans (State.dmaState_setDmaState ..), ?_⟩
  exact congrArg Dma.phase (State.dm_setDm _ n _)

/-- What a channel that is aborted still waits for is discarded when it comes. -/
theorem State.dmaAbort_reqs (s : State) (n : Nat) : ∀ r ∈ (s.dmaAbort n false).pce.reqs, r.ch = n → r.kind = .gone := by
  intro r hr hch
  obtain ⟨q, -, hq⟩ := List.mem_map.1 (show r ∈ (s.dropDrain n (s.dm n).desc).pce.reqs.map
    (fun q => if decide (q.ch = n) then { q with kind := ReqKind.gone } else q) from hr)
  subst hq
  split at hch <;> simp_all

/-! ## A burst inside the store (R436, R448) -/

theorem exec_burst_turn {n : Fin 32} {dt : Nat} {errs : List (Nat × BurstErr)} {s u : State} (hu : s.burstWait n dt = u)
    (hturn : u.burstTurn n) (hmode : u.frameMode n = false) (htype : (u.dm n).desc.type ≠ 2) (hport : u.burstToHost n = false) :
    exec (.burst n dt errs) s = .next (u.copyBurst n errs) := by
  show execBurst n dt errs s = _
  unfold execBurst
  have hserved : u.burstServed n = u := by rw [State.burstServed, hport]; rfl
  simp only [hu, hturn, htype, hserved, hmode, decide_false, Bool.false_and, Bool.not_true, Bool.or_self, Bool.false_eq_true, if_false]

theorem exec_burst_noTurn {n : Fin 32} {dt : Nat} {errs : List (Nat × BurstErr)} {s u : State} (hu : s.burstWait n dt = u)
    (hturn : u.burstTurn n = false) : exec (.burst n dt errs) s = .next u := by
  show execBurst n dt errs s = _
  unfold execBurst
  simp only [hu, hturn, Bool.not_false, Bool.true_or, if_true]

theorem State.storeWr1_setDm (s : State) (n : Nat) (x : Dma) (a : Nat) (b : Byte) (bad : Bool) :
    (s.setDm n x).storeWr1 a b bad = (s.storeWr1 a b bad).setDm n x := by
  unfold State.storeWr1
  rw [show (s.setDm n x).storePlace a = s.storePlace a from rfl]
  split
  · rfl
  · dsimp only
    rw [show (s.setDm n x).addrChan a = s.addrChan a from rfl, show (s.setDm n x).addrBand a = s.addrBand a from rfl,
      show (s.setDm n x).fst = s.fst from rfl]
    split
    · split <;> rfl
    · rfl

theorem State.storeWr_setDm (s : State) (n : Nat) (x : Dma) (a : Nat) (data : List Byte) (bad : Bool) :
    (s.setDm n x).storeWr a data bad = (s.storeWr a data bad).setDm n x := by
  induction data generalizing s a with
  | nil => rfl
  | cons b rest ih =>
    rw [State.storeWr, State.storeWr1_setDm, ih]
    rfl

theorem State.storeWrBad_setDm (s : State) (n : Nat) (x : Dma) (a : Nat) (data : List Byte) (bad : List (Nat × Nat)) :
    State.storeWrBad a data bad (s.setDm n x) = (State.storeWrBad a data bad s).setDm n x := by
  induction bad generalizing s with
  | nil => rfl
  | cons r rest ih =>
    rw [State.storeWrBad, State.storeWr_setDm, ih]
    rfl

/-- Which bytes a channel writes does not depend on its pacing. -/
theorem State.dmaStoreWr_setDm (s : State) (n : Nat) (x : Dma) (a : Nat) (data : List Byte) (bad : List (Nat × Nat)) :
    (s.setDm n x).dmaStoreWr a data bad = (s.dmaStoreWr a data bad).setDm n x := by
  unfold State.dmaStoreWr
  rw [show (fun i => (s.setDm n x).storeHostWrites (a + i) && ((s.setDm n x).storePlace (a + i)).isSome) =
    fun i => s.storeHostWrites (a + i) && (s.storePlace (a + i)).isSome from rfl, State.storeWr_setDm, State.storeWrBad_setDm]
  split <;> rfl

/-- A burst written to the store. -/
theorem State.copyWrite_store {s : State} {n : Nat} (h : (s.dm n).desc.dstSpace = 1) (off c : Nat) (data : List Byte)
    (bad : List (Nat × Nat)) :
    ((s.copyWrite n off c data bad).dm n).moved = (s.dm n).moved + c ∧
    ((s.copyWrite n off c data bad).dm n).credit = (s.dm n).credit ∧
    (s.copyWrite n off c data bad).fst.ddr = (s.dmaStoreWr ((s.dm n).desc.dst + off) data bad).fst.ddr := by
  unfold State.copyWrite
  extract_lets x t y fb u
  have ht : t = s.dmaStoreWr (x.desc.dst + off) data bad := by
    unfold t State.dmaWrite
    rw [show x.desc.dstSpace = 1 from h]
    rfl
  have hy : y = s.dm n := by
    unfold y
    rw [ht, (s.dmaStoreWr_changes ..).dm (by decide) n]
  have hu : (u.dm n).moved = (s.dm n).moved + c ∧ (u.dm n).credit = (s.dm n).credit ∧ (u.dm n).desc = (s.dm n).desc ∧
      u.fst.ddr = (s.dmaStoreWr (x.desc.dst + off) data bad).fst.ddr := by
    refine ⟨?_, ?_, ?_, congrArg (·.fst.ddr) ht⟩ <;> simp [u, hy]
  obtain ⟨hmoved, hcredit, hdesc, hddr⟩ := hu
  clear_value u
  split
  · unfold State.readBack
    rw [if_neg (by rw [hdesc, h]; decide)]
    exact ⟨by simpa using hmoved, by simpa using hcredit, hddr⟩
  · exact ⟨hmoved, hcredit, hddr⟩

/-- The credit of a channel that moves no data to or from the host, after a read of the store. -/
theorem Changes.creditNow {P : List Part} {R : List Reg} {s t : State} (h : Changes P R s t) {n : Nat} (hd : SameButMigWait s t)
    (hf : Part.fine ∉ P := by decide) (hr : Reg.DMA_CFG ∉ R := by decide) (hhost : (s.dm n).desc.host = false)
    (hmode : s.frameMode n = false) : t.creditNow n = s.creditNow n := by
  obtain ⟨b, hb⟩ := hd.chan n
  have hshare := h.fld (f := F.DMA_CFG_SHARE) hr n 0
  have hfine : t.fine = s.fine := h.parts .fine hf
  have htmode := (h.frameMode hr n).trans hmode
  simp only [State.creditNow, State.dmaRate, hb, hshare, hfine, hhost, hmode, htmode, Bool.or_self, Bool.false_eq_true, if_false]

/-- A COPY from store to store writes what it reads, and pays for it. -/
theorem State.copyBurst_store {s : State} {n : Nat} (errs : List (Nat × BurstErr)) (hmode : s.frameMode n = false)
    (htype : (s.dm n).desc.type = 0) (hsrc : (s.dm n).desc.srcSpace = 1) (hdst : (s.dm n).desc.dstSpace = 1) {c : Nat × Nat}
    (hc : s.copyChunk (s.dm n) = c) {r : Fetch} (hr : s.dmaStoreRd ((s.dm n).desc.src + c.1) c.2 errs = r) :
    ((s.copyBurst n errs).dm n).moved = (s.dm n).moved + c.2 ∧
    ((s.copyBurst n errs).dm n).credit = s.creditNow n - c.2 * 256000 ∧
    (s.copyBurst n errs).fst.ddr = (r.st.dmaStoreWr ((s.dm n).desc.dst + c.1) r.data r.bad).fst.ddr := by
  have hsame : SameButMigWait s r.st := by
    rw [← hr]
    exact s.dmaStoreRd_sameButMigWait ..
  have hcredit : r.st.creditNow n = s.creditNow n := by
    have := s.dmaStoreRd_changes ((s.dm n).desc.src + c.1) c.2 errs
    rw [hr] at this
    exact this.creditNow hsame (by decide) (by decide) (by simp [Desc.host, htype, hsrc, hdst]) hmode
  obtain ⟨b, hb⟩ := hsame.chan n
  have hrun : s.copyBurst n errs = (r.st.dmaPay n c.2).copyWrite n c.1 c.2 r.data r.bad := by
    unfold State.copyBurst
    simp only [hc, hr]
    rw [if_neg (by rw [hsrc]; decide)]
  have hpay : (r.st.dmaPay n c.2).dm n = { r.st.dm n with credit := r.st.creditNow n - c.2 * 256000, creditAt := r.st.fine } :=
    State.dm_setDm ..
  have hdesc : ((r.st.dmaPay n c.2).dm n).desc = (s.dm n).desc := by rw [hpay, hb]
  obtain ⟨hmoved, hpaid, hddr⟩ := State.copyWrite_store (s := r.st.dmaPay n c.2) (n := n) (by rw [hdesc, hdst]) c.1 c.2 r.data r.bad
  rw [hrun]
  refine ⟨by rw [hmoved, hpay, hb], by rw [hpaid, hpay, hcredit], ?_⟩
  rw [hddr, hdesc, State.dmaPay, State.dmaStoreWr_setDm]
  rfl

end
end Sys2Proof.Machine

/-! # DRAINs and the migration of a retiring channel (O53; R172 to R175, R456) -/

namespace Sys2Proof.Machine
section
set_option Elab.async false

/-! ## An item of a DRAIN (R456) -/

theorem QItem.length_bytes (i : QItem) : i.bytes.length = 8 + i.data.length := by
  simp only [QItem.bytes, bytesLE, List.length_append, List.length_map, List.length_range, List.length_cons, List.length_nil]

/-- The read-back of R437 does not touch what has been counted. -/
theorem State.dm_readBack (s : State) (n : Nat) :
    ((s.readBack n).dm n).moved = (s.dm n).moved ∧ ((s.readBack n).dm n).items = (s.dm n).items := by
  unfold State.readBack
  extract_lets x t
  have ht : (t.dm n).moved = (s.dm n).moved ∧ (t.dm n).items = (s.dm n).items := by simp [t, x]
  clear_value t
  split
  · obtain ⟨b, hb⟩ := t.dm_dmaRead n .readBack (x.lastByte / 4 * 4) 4
    rw [hb]
    exact ht
  · exact ht

/-- Channel `n` in `s` after its DRAIN has moved item `i` and left the queue as `y`. -/
def State.drained (s : State) (n : Nat) (y : Que) (i : QItem) : State :=
  let x := s.dm n
  let q := x.desc.src % 64
  let s1 := ((s.burstServed n).dmaPay n i.bytes.length).putQue q (y.finish (s.fld F.QUE_CFG_K q))
  let s2 := s1.dmaWrite n x.desc x.moved i.bytes []
  let s3 := (s2.setDm n { s2.dm n with moved := x.moved + i.bytes.length, items := x.items + 1 }).setDmaState n dmaRunning
  if (s3.queue q).items = 0 then (s3.dropDrain n x.desc).readBack n else s3

theorem State.dm_drained (s : State) (n : Nat) (y : Que) (i : QItem) :
    ((s.drained n y i).dm n).moved = (s.dm n).moved + 8 + i.data.length ∧ ((s.drained n y i).dm n).items = (s.dm n).items + 1 := by
  unfold State.drained
  extract_lets x q s1 s2 z s3
  have h3 : (s3.dm n).moved = (s.dm n).moved + 8 + i.data.length ∧ (s3.dm n).items = (s.dm n).items + 1 := by
    simp [s3, x, i.length_bytes, Nat.add_assoc]
  clear_value s3
  split
  · rw [(State.dm_readBack ..).1, (State.dm_readBack ..).2, (State.dropDrain_changes ..).dm (by decide)]
    exact h3
  · exact h3

theorem State.burstTurn_open {s : State} {n : Nat} (h : s.burstTurn n) (hmode : s.frameMode n = false) :
    s.shedding = false ∧ (s.dm n).paused = false ∧ (s.dm n).phase = .moving := by
  have hready : s.burstReady n := by
    rw [State.burstTurn, Bool.and_eq_true] at h
    exact h.1
  have hbytes : s.burstBytes n ≠ none := by
    intro hnone
    rw [State.burstReady, hnone] at hready
    cases hready
  unfold State.burstBytes at hbytes
  simp only [hmode, Bool.false_eq_true, if_false] at hbytes
  split at hbytes
  · exact absurd rfl hbytes
  · next hopen =>
    split at hbytes
    · exact absurd rfl hbytes
    · next hphase =>
      simp only [Bool.or_eq_true, not_or, Bool.not_eq_true] at hopen
      exact ⟨hopen.1.1, hopen.1.2, by simpa using hphase⟩

theorem exec_drainItem_moves {n : Fin 32} {dt : Nat} {bad : List Nat} {s u : State} {i : QItem} (hu : s.burstWait n dt = u)
    (hturn : u.burstTurn n) (hmode : u.frameMode n = false) (htype : (u.dm n).desc.type = 2)
    (hptrs : (u.queue ((u.dm n).desc.src % 64)).ptrsAgree)
    (hcur : ((u.queue ((u.dm n).desc.src % 64)).drainNext bad).cur = some i)
    (hfits : (u.dm n).moved + 8 + i.data.length ≤ (u.dm n).desc.length) :
    exec (.drainItem n dt bad) s = .next (u.drained n ((u.queue ((u.dm n).desc.src % 64)).drainNext bad) i) := by
  obtain ⟨hshed, hpaused, hphase⟩ := State.burstTurn_open hturn hmode
  have hcheck : u.quePtrCheck ((u.dm n).desc.src % 64) = u := by
    unfold State.quePtrCheck
    simp only [hptrs, if_true]
  have hopen : ((u.dm n).phase != .moving || decide ((u.dm n).desc.type ≠ 2) || u.shedding || (u.dm n).paused ||
      u.frameMode n) = false := by
    simp [hshed, hpaused, hphase, htype, hmode]
  have hroom : ¬ (u.dm n).desc.length < (u.dm n).moved + i.bytes.length := by
    rw [i.length_bytes]
    omega
  show execDrainItem n dt bad s = _
  unfold execDrainItem
  simp only [hu, hopen, hcheck, hcur, hturn, Bool.false_eq_true, if_false, if_neg hroom, Bool.not_true]
  rfl

/-! ## The copy of a stripe (R172, R173) -/

theorem State.copies_putSpan (s : State) (sp : Span) : (s.putSpan sp).fst.copies = s.fst.copies := by
  unfold State.putSpan
  dsimp only
  split <;> rfl

/-- Notices about spans do not touch the stripes that have been copied. -/
theorem State.copies_migNotices (c : Nat) (l : List Span) (s : State) : (State.migNotices c l s).fst.copies = s.fst.copies := by
  fun_induction State.migNotices c l s with
  | case1 => rfl
  | case2 sp rest s bands hskip ih => exact ih
  | case3 sp rest s bands hskip sp' ih =>
    rw [ih, ← s.copies_putSpan sp']
    exact (congrArg Fst.copies ((State.spanNotice_changes ..).parts .fst (by decide)) :)

/-- Nor does the end of the migration. -/
theorem State.copies_migDone (s : State) : s.migDone.fst.copies = s.fst.copies := by
  unfold State.migDone
  extract_lets d y z t x from0
  have hload (a : Nat) : (t.dmaLoad d a).fst.copies = s.fst.copies :=
    (congrArg Fst.copies ((t.dmaLoad_changes d a).parts .fst (by decide)) :)
  split
  · split
    · rfl
    · split
      · exact hload _
      · split
        · exact (congrArg Fst.copies ((t.endCheck_changes d).parts .fst (by decide)) :)
        · exact hload _
  · rfl

/-- A stripe copied into the reserve is counted there, and its place noted. -/
theorem State.migCopy_copies (s : State) (c b : Nat) (errs : List (Nat × BurstErr)) :
    (s.migCopy c b errs).rd .FST_RES_USED = s.rd .FST_RES_USED + 1 ∧ (tblGet none (s.migCopy c b errs).fst.copies b).isSome := by
  unfold State.migCopy
  extract_lets s0 used mask dst fixed s1 y s2 s3
  have hused : used = (s.rd .FST_RES_USED).toNat := by
    unfold used s0
    split
    · rfl
    · exact congrArg BitVec.toNat (s.startMigration_changes.regs _ (by decide) 0 0)
  have h3 : s3.rd .FST_RES_USED = s.rd .FST_RES_USED + 1 ∧ (tblGet none s3.fst.copies b).isSome := by
    constructor
    · rw [(State.migNotices_changes ..).regs _ (by decide), State.rd_wr_self, hused, BitVec.ofNat_add, BitVec.ofNat_toNat,
        BitVec.setWidth_eq]
      rfl
    · rw [State.copies_migNotices]
      exact congrArg Option.isSome (tblGet_set_self (d := none) s1.fst.copies b (some dst))
  clear_value s3
  split
  · rw [s3.migDone_changes.regs _ (by decide), s3.copies_migDone]
    exact h3
  · exact h3

theorem exec_migrationCopy_next {dt c b : Nat} {errs : List (Nat × BurstErr)} {s : State} (hc : s.fst.retiring = some c)
    (hstate : s.chState c = chRetiring) (hself : s.fst.selfRefresh = false) (hnext : s.migNext c = some b)
    (hblocked : s.flag F.FST_STATUS_RETIRE_BLOCKED = false) {u : State}
    (hu : s.passTo dt (s.fst.migAt + 5120 / atLeast1 (s.fld F.FST_RETIRE_CFG_MIG_RATE)) = u) :
    exec (.migrationCopy dt errs) s =
      .next (if s.bands .FST_RES_BANDS * chanCount (putBits (BitVec.ofNat 32 s.fst.loadSet) c 1 0).toNat ≤ (s.rd .FST_RES_USED).toNat
        then u.setFld F.FST_STATUS_RETIRE_BLOCKED 1 else u.migCopy c b errs) := by
  subst hu
  have hfree : (decide (s.chState c ≠ chRetiring) || s.fst.selfRefresh) = false := by simp [hstate, hself]
  generalize hdue : s.fst.migAt + 5120 / atLeast1 (s.fld F.FST_RETIRE_CFG_MIG_RATE) = due
  have hfree' : (decide ((s.passTo dt due).chState c ≠ chRetiring) || (s.passTo dt due).fst.selfRefresh) = false := hfree
  have hnext' : (s.passTo dt due).migNext c = some b := hnext
  have hblocked' : (s.passTo dt due).flag F.FST_STATUS_RETIRE_BLOCKED = false := hblocked
  show execMigrationCopy dt errs s = _
  unfold execMigrationCopy
  simp only [hc, hdue, hfree', hnext', hblocked', Bool.false_and, Bool.or_false, decide_eq_true_eq, Bool.false_eq_true, if_false]
  rfl

/-! ## The forced wrap of a ring (R174) -/

theorem exec_forceWrap_wraps {r : Fin 16} {dt c : Nat} {s : State} (hc : s.fst.retiring = some c) (hstate : s.chState c = chRetiring)
    (hring : s.ringExists r) (hwrapped : tblGet false s.fst.wrapped r = false) {u : State}
    (hu : s.passTo dt (s.fst.retireAt + atLeast1 (s.fld F.FST_RETIRE_CFG_FORCE_WRAP) * 1250000000) = u) :
    exec (.forceWrap r dt) s = .next ((u.wrapRing r 1).setWp r 0) := by
  have hring' : u.ringExists r = true := by
    rw [← hu]
    exact hring
  have hwrapped' : tblGet false u.fst.wrapped r = false := by
    rw [← hu]
    exact hwrapped
  have hopen : (decide (s.chState c ≠ chRetiring) || !u.ringExists r || tblGet false u.fst.wrapped r) = false := by
    simp [hstate, hring', hwrapped']
  show execForceWrap r dt s = _
  unfold execForceWrap
  simp only [hc, hu, hopen, Bool.false_eq_true, if_false]

/-- A ring that wraps to its next lap, while a channel is being retired. -/
theorem State.wrapRing_next {s : State} {r : Nat} (h : s.fst.retiring.isSome) :
    tblGet false (s.wrapRing r 1).fst.wrapped r = true ∧ (s.wrapRing r 1).rd .FST_RING_LAP r = s.rd .FST_RING_LAP r + 1 ∧
    (s.wrapRing r 1).fld F.FST_RING_STATUS_SET_PREV r = s.fld F.FST_RING_STATUS_SET_CUR r := by
  unfold State.wrapRing
  rw [if_neg (by decide)]
  extract_lets prev s1 x s2 y
  have hret : s2.fst.retiring.isSome := h
  have hlap : s2.rd .FST_RING_LAP r = s.rd .FST_RING_LAP r + 1 := by
    have h1 : s1.rd .FST_RING_LAP r = s.rd .FST_RING_LAP r := by
      unfold s1
      rw [State.rd_setFld_reg _ _ _ _ _ _ (by decide), State.rd_setFld_reg _ _ _ _ _ _ (by decide)]
    unfold s2
    rw [State.rd_setRg, State.rd_wr_self, h1, BitVec.ofNat_add, BitVec.ofNat_toNat, BitVec.setWidth_eq]
    rfl
  have hprev : s2.fld F.FST_RING_STATUS_SET_PREV r = s.fld F.FST_RING_STATUS_SET_CUR r := by
    unfold s2 s1
    rw [State.fld_setRg, State.fld_wr_reg _ _ _ _ _ _ (by decide),
      State.fld_setFld_above _ _ _ _ _ _ (by decide) (by decide), State.fld_setFld_same _ _ _ _ (by decide)]
    exact Nat.mod_eq_of_lt (getBits_lt ..)
  rw [if_pos hret]
  exact ⟨tblGet_set_self (d := false) s2.fst.wrapped r true, hlap, hprev⟩

/-! ## A channel that is retired (R175, R176) -/

theorem natBit_eq_testBit (v k : Nat) : natBit v k = v.testBit k := by
  rw [natBit, Nat.testBit_eq_decide_div_mod_eq, Nat.shiftRight_eq_div_pow]
  exact (Bool.beq_eq_decide_eq _ _)

/-- The numbers below `n` that `p` holds of, as the bits of a number. -/
theorem testBit_sum_two_pow (p : Nat → Bool) (n : Nat) :
    ((List.range n).map (fun c => if p c then 2 ^ c else 0)).sum < 2 ^ n ∧
    ∀ k < n, (((List.range n).map (fun c => if p c then 2 ^ c else 0)).sum).testBit k = p k := by
  induction n with
  | zero => simp
  | succ n ih =>
    obtain ⟨hlt, hbits⟩ := ih
    rw [List.range_succ, List.map_append, List.sum_append]
    generalize ((List.range n).map (fun c => if p c then 2 ^ c else 0)).sum = v at hlt hbits
    simp only [List.map_cons, List.map_nil, List.sum_cons, List.sum_nil, Nat.add_zero]
    have htop : v.testBit n = false := Nat.testBit_lt_two_pow hlt
    have hpow : 2 ^ (n + 1) = 2 ^ n + 2 ^ n := by rw [pow_succ, Nat.mul_two]
    cases hp : p n with
    | false =>
      refine ⟨by simp only [Bool.false_eq_true, if_false]; omega, fun k hk => ?_⟩
      simp only [Bool.false_eq_true, if_false, Nat.add_zero]
      obtain h | h := Nat.lt_succ_iff_lt_or_eq.1 hk
      · exact hbits k h
      · rw [h, htop, hp]
    | true =>
      refine ⟨by simp only [if_true]; omega, fun k hk => ?_⟩
      simp only [if_true]
      rw [Nat.add_comm]
      obtain h | h := Nat.lt_succ_iff_lt_or_eq.1 hk
      · rw [Nat.testBit_two_pow_add_gt h, hbits k h]
      · rw [h, Nat.testBit_two_pow_add_eq, htop, hp]
        rfl

theorem State.storeStatus_inUse (s : State) {c : Nat} (hc : c < 12) :
    natBit (s.storeStatus.fld F.FST_STATUS_INUSE_MASK) c = s.chInUse c := by
  have hmask : s.storeStatus.fld F.FST_STATUS_INUSE_MASK = chanMask s.chInUse % 2 ^ 12 := by
    unfold State.storeStatus
    extract_lets mask n free
    rw [State.fld_setFld_below _ _ _ _ _ _ (by decide) (by decide), State.fld_setFld_same _ _ _ _ (by decide)]
  rw [hmask, natBit_eq_testBit, Nat.testBit_mod_two_pow, decide_eq_true hc, Bool.true_and]
  exact (testBit_sum_two_pow s.chInUse 12).2 c hc

theorem State.domOn_setDom (s : State) (d : Nat) (on : Bool) : (s.setDom d on).domOn d = on := by
  have hd : d % 32 < 32 := Nat.mod_lt _ (by decide)
  unfold State.domOn State.setDom
  rw [State.rd_wr_self, natBit_eq_testBit, BitVec.testBit_toNat, putBits_getLsbD _ _ _ _ _ hd]
  cases on <;> simp [b2n]

/-- The records that a step voids in every ring. -/
theorem State.voidEach_changes (p : Nat → State → Rec → Bool) (l : List Nat) (s : State) :
    Changes [.ddr, .fst] [.FST_RING_TAIL, .FST_CNT_VOID] s (l.foldl (fun s r => s.voidWhere r (p r s)) s) :=
  foldl_changes (fun t r => t.voidWhere_changes r (p r t)) l s

/-- The frame store once channel `c` has been retired. -/
theorem exec_channelRetired_done {c : Nat} {s : State} (hc : s.fst.retiring = some c) (hstate : s.chState c = chRetiring)
    (hwrapped : ∀ r < 16, s.ringExists r → tblGet false s.fst.wrapped r = true) (hact : s.fst.migActive = false)
    (hnext : s.migNext c = none) :
    ∃ u, exec (.channelRetired) s = .next (u.storeStatus.publish 0x0B0 (16 + c) s.now48) ∧
      Changes [.ddr, .fst] [.FST_RING_TAIL, .FST_CNT_VOID]
        ((s.setFld F.FST_CH_STATUS_STATE chRetired c).setDom (32 + c) false) u := by
  have hall : (List.range 16).all (fun r => !s.ringExists r || tblGet false s.fst.wrapped r) = true := by
    rw [List.all_eq_true]
    intro r hr
    cases h : s.ringExists r with
    | false => rfl
    | true => rw [hwrapped r (List.mem_range.1 hr) h]; rfl
  show ∃ u : State, execChannelRetired s = _ ∧ _
  unfold execChannelRetired
  simp only [hc, hall, hact, hnext, hstate, ne_eq, not_true_eq_false, decide_false, Bool.not_true, Option.isSome_none, Bool.or_self,
    Bool.false_eq_true, if_false]
  exact ⟨_, rfl, State.voidEach_changes ..⟩

end
end Sys2Proof.Machine

/-! # DMA and migration (O53) -/

namespace Sys2Proof.Machine
section
set_option Elab.async false

/-- Settles O53: a descriptor is taken as it has been read, the burst inside the store is one read and one write of it, and the
migration copies stripe after stripe until the channel is retired. -/
theorem dmaAndMigration : Obligations.DmaAndMigration := by
  unfold Obligations.DmaAndMigration
  refine ⟨?notOwned, ?badDesc, ?starts, ?burst, ?noTurn, ?retires, ?reread, ?doorbell, ?start, ?stop, ?abort, ?drain, ?migrate,
    ?forceWrap, ?retired⟩
  case notOwned =>
    intro n errs s hread hown hmode
    refine ⟨_, exec_descriptorLoad_takes errs hread (.inl hmode), ?_⟩
    have hgot := s.descGot_changes n errs
    have htaken := State.takeDesc_notOwned (s := s.descGot n errs) (n := n) hown
    rw [hgot.dbCount, (s.dm_descGot n errs).1, (s.dm_descGot n errs).2] at htaken
    split
    · next hsnap =>
      rw [if_pos hsnap] at htaken
      exact ⟨htaken.1, htaken.2.after hgot (by decide)⟩
    · next hsnap =>
      rwa [if_neg hsnap] at htaken
  case badDesc =>
    intro n errs s hread hown hbad
    refine ⟨_, exec_descriptorLoad_takes errs hread (.inr ⟨hown, hbad⟩), State.takeDesc_bad hown ?_⟩
    rw [(s.descGot_changes n errs).badDesc, hbad]
  case starts =>
    intro n errs s hread hown hbad hmode htype
    refine ⟨_, exec_descriptorLoad_takes errs hread (.inl hmode), ?_⟩
    rw [State.takeDesc_starts hown (by rw [(s.descGot_changes n errs).badDesc, hbad])]
    exact State.startDesc_runs (by rw [htype]; decide)
  case burst =>
    intro n dt errs u s hu hturn hmode ⟨htype, hsrc, hdst⟩
    have hport : u.burstToHost n = false := by simp [State.burstToHost, hmode, hsrc, hdst]
    exact ⟨_, exec_burst_turn hu hturn hmode (by rw [htype]; decide) hport, State.copyBurst_store errs hmode htype hsrc hdst rfl rfl⟩
  case noTurn =>
    intro n dt errs u s hu hturn
    exact ⟨u, exec_burst_noTurn hu hturn, rfl⟩
  case retires =>
    intro n errs u s hpaused hmode hback hheld hu
    refine ⟨_, exec_readBackDone_back hpaused hmode hback hheld hu, ?_⟩
    obtain ⟨hsu, hsame⟩ := State.readBackState hu
    obtain ⟨b, hb⟩ := hsame.chan n
    have hx := s.dm_descBack u n
    have hcount : (s.descBack u n).dbCount n = s.dbCount n :=
      ((s.descBack_changes u n).dbCount (by decide) n).trans (hsu.dbCount (by decide) n)
    refine ⟨((s.descBack_counted u n).after hsu (by decide)).before (State.dmaNext_changes ..) (by decide), fun h => ?_, fun h hw => ?_,
      fun h hw hl hs => ?_⟩
    · exact (State.dmaNext_stop (by rwa [hx])).1
    · exact State.dmaNext_migWait (by rwa [hx]) (by rwa [hx])
    · refine State.dmaNext_end (by rwa [hx]) (by rwa [hx]) ?_ ?_
      · rw [hx, hb]
        exact hl
      · rw [hcount, hx, hb]
        exact hs
  case reread =>
    intro n errs s hread
    obtain ⟨t, hrun, hcount, hsnap⟩ := exec_linkReread_read errs hread
    unfold State.linkRead at hrun
    generalize fieldLE _ 0 8 = link at hrun ⊢
    exact ⟨_, hrun, State.linkGoes_runs link hcount hsnap⟩
  case doorbell =>
    intro who n s hmay
    exact ⟨_, exec_dmaDoorbell_may hmay, s.doorbell_counts n, State.doorbell_parkedOwn⟩
  case start =>
    intro who n s hmay hstate
    exact ⟨_, exec_dmaStart_may hmay hstate, (State.dmaLoad_loads ..).1⟩
  case stop =>
    intro who n s hmay hstate
    exact ⟨_, exec_dmaStop_parked hmay hstate, State.dmaNext_stop (by rw [State.dm_setDm])⟩
  case abort =>
    intro who n s hmay hstate
    obtain ⟨haborted, hphase⟩ := s.dmaAbort_aborted n
    exact ⟨_, exec_dmaAbort_may hmay hstate, haborted, hphase, s.dmaAbort_reqs n⟩
  case drain =>
    intro n dt bad u i s hu hturn hmode htype hptrs hcur hfits
    exact ⟨_, exec_drainItem_moves hu hturn hmode htype hptrs hcur hfits, State.dm_drained ..⟩
  case migrate =>
    intro dt c b errs s hc hstate hself hnext hblocked
    refine ⟨_, exec_migrationCopy_next hc hstate hself hnext hblocked rfl, ?_⟩
    split
    · rfl
    · exact State.migCopy_copies ..
  case forceWrap =>
    intro r dt c s hc hstate hring hwrapped
    refine ⟨_, exec_forceWrap_wraps hc hstate hring hwrapped rfl, ?_⟩
    generalize hdue : s.fst.retireAt + atLeast1 (s.fld F.FST_RETIRE_CFG_FORCE_WRAP) * 1250000000 = due
    obtain ⟨hnow, hlap, hprev⟩ := State.wrapRing_next (s := s.passTo dt due) (r := r) (Option.isSome_iff_exists.2 ⟨c, hc⟩)
    have hwp := ((s.passTo dt due).wrapRing r 1).setWp_changes r 0
    refine ⟨?_, hnow, (hwp.regs _ (by decide) r 0).trans hlap, ?_, (hwp.fld (by decide) r 0).trans hprev⟩
    · exact (hwp.parts .fine (by decide)).trans (((s.passTo dt due).wrapRing_changes r 1).parts .fine (by decide))
    · exact congrArg Ring.wpOff (State.rg_setRg _ r _)
  case retired =>
    intro c s hc hstate hlt hwrapped hact hnext
    obtain ⟨u, hrun, hvoid⟩ := exec_channelRetired_done hc hstate hwrapped hact hnext
    have hstatus := u.storeStatus_changes
    have hpublish := u.storeStatus.publish_changes 0x0B0 (16 + c) s.now48
    have hretired : u.chState c = chRetired := by
      have hdom := State.setDom_changes (s.setFld F.FST_CH_STATUS_STATE chRetired c) (32 + c) false
      exact (hvoid.fld (by decide) c 0).trans ((hdom.fld (by decide) c 0).trans (State.fld_setFld_same _ _ _ _ (by decide)))
    refine ⟨_, hrun, ?_, ?_, ?_⟩
    · exact (hpublish.fld (by decide) c 0).trans ((hstatus.fld (by decide) c 0).trans hretired)
    · rw [State.domOn, hpublish.regs _ (by decide), hstatus.regs _ (by decide), hvoid.regs _ (by decide)]
      exact State.domOn_setDom ..
    · rw [hpublish.fld (by decide), State.storeStatus_inUse _ hlt, State.chInUse, hretired]
      rfl

end
end Sys2Proof.Machine

/-! # After reset; what the mast commands and the spar instructions leave alone (O3, O11, O12) -/

namespace Sys2Proof.Machine
section
set_option Elab.async false

/-- After reset every register reads its reset value: the register file lists none (R538). -/
theorem State.rd_reset (r : Reg) (i j : Nat) : State.reset.rd r i j = r.resetAt j := rfl

/-- Settles O3: nothing is listed in any table, so the mode, READY, the domains and the lane states are the reset values of
their registers. -/
theorem resetValues : Obligations.ResetValues := by
  unfold Obligations.ResetValues
  exact ⟨by decide +kernel, by decide +kernel, rfl, rfl, rfl, by decide +kernel, by decide +kernel, State.rd_reset, rfl⟩

/-- Settles O11, by the frame of each of its commands. -/
theorem mastsFrame : Obligations.MastsFrame := by
  unfold Obligations.MastsFrame
  exact fun c s hch => masts_framed hch s

/-- Settles O12, by the frame of the dispatch that every instruction of a SPAR goes through. -/
theorem sparsFrame : Obligations.SparsFrame := by
  unfold Obligations.SparsFrame
  exact fun c s hch => spars_framed hch s

end
end Sys2Proof.Machine

/-! # Masts: runs, tiles to be run again, engines (R192, R215 to R217) -/

namespace Sys2Proof.Machine
section
set_option Elab.async false

/-! ## The work of a mast: its runs and the tiles to be run again -/

/-- The tiles that run on mast `m`, and those that wait to be run again. -/
def State.work (s : State) (m : Nat) : List Run × List Tile := ((s.ms m).runs, (s.ms m).rerun)

theorem Changes.work {P : List Part} {R : List Reg} {s t : State} (h : Changes P R s t) (hp : Part.mst ∉ P) (m : Nat) :
    t.work m = s.work m := by
  rw [State.work, State.work, h.ms hp]

theorem State.work_setMs (s : State) (m : Nat) (x : Mast) : (s.setMs m x).work m = (x.runs, x.rerun) := by
  rw [State.work, State.ms_setMs]

/-- An update of a mast that touches neither list. -/
theorem State.work_setMs_keep {s : State} {m : Nat} {x : Mast} (hruns : x.runs = (s.ms m).runs) (hrerun : x.rerun = (s.ms m).rerun) :
    (s.setMs m x).work m = s.work m := by
  rw [State.work_setMs, hruns, hrerun, State.work]

theorem State.work_mastFault (s : State) (m e repl cause stream frame : Nat) :
    (s.mastFault m e repl cause stream frame).work m = s.work m := by
  unfold State.mastFault
  extract_lets x w s1 s2
  have h1 : s1.work m = s.work m := by
    unfold s1
    split
    · exact ((State.setFld_frame ..).work (by decide) m).trans (State.work_setMs_keep rfl rfl)
    · exact (State.setFld_frame ..).work (by decide) m
  have h2 : s2.work m = s.work m := ((State.publish_changes ..).work (by decide) m).trans h1
  split
  · exact h2
  · exact ((State.notice_changes ..).work (by decide) m).trans h2

theorem State.work_promote (s : State) (m k : Nat) (slot : Option Nat) : (s.promote m k slot).work m = s.work m := by
  unfold State.promote
  split
  · exact State.work_setMs_keep rfl rfl
  · rfl

theorem State.work_replaceEngine (s : State) (m k : Nat) : (s.replaceEngine m k).2.work m = s.work m := by
  have hshow (t : State) : (t.mastShow m).work m = t.work m := (State.mastShow_changes ..).work (by decide) m
  unfold State.replaceEngine
  split
  · refine (hshow _).trans (((State.setEngine_changes ..).work (by decide) m).trans ?_)
    exact State.work_setMs_keep rfl rfl
  · extract_lets wasReserved x place s1 next
    have h1 : s1.work m = s.work m := State.work_setMs_keep rfl rfl
    refine (hshow _).trans ?_
    split
    · exact (State.work_promote ..).trans h1
    · exact h1

theorem State.work_retireEngine (s : State) (m e cause stream frame : Nat) :
    (s.retireEngine m e cause stream frame).work m = s.work m := by
  have h1 : (s.setEngine m e 2).work m = s.work m := (State.setEngine_changes ..).work (by decide) m
  unfold State.retireEngine
  extract_lets spare s1
  split
  · refine (State.work_mastFault ..).trans (((State.mastShow_changes ..).work (by decide) m).trans (.trans ?_ h1))
    exact State.work_setMs_keep rfl rfl
  · split
    · exact (State.work_mastFault ..).trans ((State.work_replaceEngine ..).trans h1)
    · exact (State.work_mastFault ..).trans h1

theorem State.work_suspRetire (s : State) (m : Nat) (r : Run) : (s.suspRetire m r).work m = s.work m := by
  unfold State.suspRetire
  split
  · refine (State.work_mastFault ..).trans (((State.mastShow_changes ..).work (by decide) m).trans ?_)
    exact (State.setEngine_changes ..).work (by decide) m
  · rfl

theorem State.work_addReady (s : State) (m : Nat) (new : List Tile) : (s.addReady m new).work m = s.work m :=
  State.work_setMs_keep rfl rfl

theorem State.work_dropFrames (s : State) (m : Nat) : (s.dropFrames m).work m = s.work m := State.work_setMs_keep rfl rfl

theorem State.work_makeReady (s : State) (m : Nat) (f : MFrame) (rows : Nat) : (s.makeReady m f rows).work m = s.work m :=
  (State.work_addReady ..).trans (State.work_setMs_keep rfl rfl)

theorem State.work_frameReady (s : State) (m k num : Nat) : (s.frameReady m k num).work m = s.work m := by
  unfold State.frameReady
  split
  · rfl
  next f _ =>
    extract_lets s1
    have h1 : s1.work m = s.work m := by
      unfold s1
      split
      · exact State.work_makeReady ..
      · rfl
    split
    · exact State.work_dropFrames ..
    · split
      · rfl
      · split
        · exact (State.work_addReady ..).trans (.trans (State.work_setMs_keep rfl rfl) h1)
        · exact (State.work_dropFrames ..).trans h1

theorem State.work_tileFinal (s : State) (m : Nat) (t : Tile) (how : Nat) : (s.tileFinal m t how).work m = s.work m := by
  unfold State.tileFinal
  split
  · rfl
  · refine (State.work_frameReady ..).trans (State.work_setMs_keep ?_ ?_) <;> split <;> rfl

/-- What a COMMIT delivers leaves its mast, but for the partial slots in shared memory (R212). -/
theorem State.work_deliver (s : State) (m : Nat) (f : MFrame) (t : Tile) (dest : Nat) (bytes : List Byte) :
    (s.deliver m f t dest bytes).work m = s.work m := by
  have ite_work {c : Prop} [Decidable c] {a b : State} (ha : a.work m = s.work m) (hb : b.work m = s.work m) :
      (if c then a else b).work m = s.work m := by split <;> assumption
  unfold State.deliver
  extract_lets noBeam wants s1 s2 s3 s4 slot x s5 s6
  have h1 : s1.work m = s.work m := ite_work ((State.bump_frame ..).work (by decide) m) rfl
  have h2 : s2.work m = s.work m := ite_work (((State.featureLog_changes ..).work (by decide) m).trans h1) h1
  have h3 : s3.work m = s.work m := ite_work (((State.sheetRecord_changes ..).work (by decide) m).trans h2) h2
  have h4 : s4.work m = s.work m := ite_work (((State.queSend_changes ..).work (by decide) m).trans h3) h3
  have h5 : s5.work m = s.work m := ite_work (.trans (State.work_setMs_keep rfl rfl) h4) h4
  have h6 : s6.work m = s.work m := ite_work (((State.calibRecords_changes ..).work (by decide) m).trans h5) h5
  exact ite_work (((State.publish_changes ..).work (by decide) m).trans h6) h6

/-! ## The run of an engine -/

theorem State.runOf_work (s : State) (m e : Nat) : s.runOf m e = (s.work m).1.find? (fun r => r.engine = e) := rfl

theorem State.engine_of_runOf {s : State} {m e : Nat} {r : Run} (h : s.runOf m e = some r) : r.engine = e := by
  simpa using List.find?_some h

theorem State.work_endRun (s : State) (m e : Nat) :
    (s.endRun m e).work m = ((s.ms m).runs.filter (fun r => r.engine != e), (s.ms m).rerun) := State.work_setMs ..

/-- Where no run of engine `e` is left, it runs no tile. -/
theorem State.runOf_filtered {t : State} {m e : Nat} {l : List Run} (h : (t.work m).1 = l.filter (fun r => r.engine != e)) :
    t.runOf m e = none := by
  rw [State.runOf_work, h, List.find?_eq_none]
  intro r hr
  simpa using (List.mem_filter.1 hr).2

/-- An engine whose run has ended runs no tile. -/
theorem State.runOf_endRun {s t : State} {m e : Nat} (h : t.work m = (s.endRun m e).work m) : t.runOf m e = none :=
  State.runOf_filtered (congrArg Prod.fst (h.trans (s.work_endRun m e)))

/-- The tile of a stopped run waits to be run again (R216, R217). -/
theorem State.work_toRerun (s : State) (m : Nat) (r : Run) (susp : Option (Nat × Nat)) :
    (s.toRerun m r susp).work m = ((s.ms m).runs.filter (fun x => x.engine != r.engine),
      (s.ms m).rerun ++ [{ r.tile with susp := susp, onSlot := some r.slot }]) := by
  unfold State.toRerun
  dsimp only
  rw [(State.bump_frame ..).work (by decide) m, State.work_setMs, State.endRun, State.ms_setMs]

/-! ## Ends of a tile: ILLEGAL, ABORT, COMMIT -/

/-- The end of a run up to what is final: its engine is freed, and a suspended engine is retired (R217). -/
theorem State.work_ended (s : State) (m : Nat) (r : Run) :
    ((s.endRun m r.engine).suspRetire m r).work m = (s.endRun m r.engine).work m := State.work_suspRetire ..

/-- Neither the end of a run nor the retirement of a suspended engine counts any tile. -/
theorem State.ended_changes (s : State) (m : Nat) (r : Run) :
    Changes [.outbox, .mst, .hal, .pce, .helm] [.MST_STATUS, .MST_SPARE_USE, .MST_SPAR_STATE, .HAL_CNT_QUEUE_DROP,
      .PCE_STATUS, .PCE_CNT_MSIX_DROP, .HLM_CNT_NOTICE_DROP, .PWR_FAULT_SUMMARY] s ((s.endRun m r.engine).suspRetire m r) :=
  (s.endRun_changes m r.engine).within.op (State.suspRetire_changes ..)

/-- ILLEGAL ends the run of the engine and counts a program fault (R215). -/
theorem State.illegal_ends {s : State} {m e : Nat} {r : Run} (hrun : s.runOf m e = some r) :
    s.sparIllegal (s.illegal m r) m e := by
  obtain rfl := State.engine_of_runOf hrun
  unfold State.illegal
  refine ⟨State.runOf_endRun (((State.work_tileFinal ..).trans (State.work_mastFault ..)).trans
    (((State.bump_frame ..).work (by decide) m).trans (s.work_ended m r))), ?_⟩
  exact (((State.counted_bump _ _ m).after (s.ended_changes m r) (by decide)).before (State.mastFault_changes ..) (by decide)).before
    (State.tileFinal_changes ..) (by decide)

/-- ABORT ends the run of the engine and counts an abandoned tile (R203). -/
theorem State.aborted_ends {s : State} {m e : Nat} {r : Run} (hrun : s.runOf m e = some r) :
    (s.aborted m r).runOf m e = none ∧ Counted .MST_CNT_ABANDON m s (s.aborted m r) := by
  obtain rfl := State.engine_of_runOf hrun
  unfold State.aborted
  refine ⟨State.runOf_endRun ((State.work_tileFinal ..).trans (((State.bump_frame ..).work (by decide) m).trans (s.work_ended m r))), ?_⟩
  exact ((State.counted_bump _ _ m).after (s.ended_changes m r) (by decide)).before (State.tileFinal_changes ..) (by decide)

/-- COMMIT ends the run of the engine and counts a tile (R206, R212). -/
theorem State.committed_ends {s : State} {m e : Nat} {r : Run} {f : MFrame} (dest : Nat) (bytes : List Byte)
    (hrun : s.runOf m e = some r) (hframe : (s.ms m).findFrame r.tile.stream r.tile.frame = some f) :
    (s.committed m r dest bytes).runOf m e = none ∧ Counted .MST_CNT_TILES m s (s.committed m r dest bytes) := by
  obtain rfl := State.engine_of_runOf hrun
  unfold State.committed
  simp only [hframe]
  refine ⟨State.runOf_endRun (((State.work_tileFinal ..).trans (State.work_deliver ..)).trans
    (((State.bump_frame ..).work (by decide) m).trans (s.work_ended m r))), ?_⟩
  exact (((State.counted_bump _ _ m).after (s.ended_changes m r) (by decide)).before (State.deliver_changes ..) (by decide)).before
    (State.tileFinal_changes ..) (by decide)

/-! ## The states of engines (R215, R232) -/

theorem Changes.engine {P : List Part} {R : List Reg} {s t : State} (h : Changes P R s t) (hr : .MST_SPAR_STATE ∉ R) (m e : Nat) :
    t.engine m e = s.engine m e := by
  rw [State.engine, State.engine, h.regs _ hr]

theorem State.engine_setEngine (s : State) (m e : Nat) {v : Nat} (hv : v < 4) : (s.setEngine m e v).engine m e = v := by
  unfold State.engine State.setEngine
  rw [State.rd_wr_self, getBits_putBits_self _ _ (by omega)]
  exact Nat.mod_eq_of_lt hv

theorem State.engine_setEngine_ne (s : State) (m v : Nat) {e e' : Nat} (h : e' ≠ e) :
    (s.setEngine m e v).engine m e' = s.engine m e' := by
  unfold State.engine State.setEngine
  rw [State.rd_wr]
  split
  next hreg =>
    rw [hreg.2.2, getBits_putBits_ne _ _ (by omega) (by omega)]
  · rfl

/-- A spare that is free is in state SPARE. -/
theorem State.engine_freeSpare {s : State} {m sp : Nat} (h : s.freeSpare m = some sp) : s.engine m sp = 1 := by
  simpa using List.find?_some h

/-- Where a slot is given to a spare, no engine changes its state but that spare (R216). -/
theorem State.engine_replaceEngine {s : State} {m e : Nat} (k : Nat) (he : s.engine m e ≠ 1) :
    (s.replaceEngine m k).2.engine m e = s.engine m e := by
  have hshow (t : State) : (t.mastShow m).engine m e = t.engine m e := (State.mastShow_changes ..).engine (by decide) m e
  unfold State.replaceEngine
  split
  next sp hsp =>
    have hne : e ≠ sp := fun h => he (h ▸ State.engine_freeSpare hsp)
    exact (hshow _).trans ((State.engine_setEngine_ne _ m 0 hne).trans ((State.setMs_changes ..).engine (by decide) m e))
  · extract_lets wasReserved x place s1 next
    have h1 : s1.engine m e = s.engine m e := (State.setMs_changes ..).engine (by decide) m e
    refine (hshow _).trans ?_
    split
    · exact ((State.promote_changes ..).engine (by decide) m e).trans h1
    · exact h1

/-- An engine that is retired is RETIRED, whatever takes its slot (R216). -/
theorem State.engine_retireEngine (s : State) (m e cause stream frame : Nat) :
    (s.retireEngine m e cause stream frame).engine m e = 2 := by
  have h1 : (s.setEngine m e 2).engine m e = 2 := State.engine_setEngine _ _ _ (by decide)
  have hfault (t : State) (repl : Nat) : (t.mastFault m e repl cause stream frame).engine m e = t.engine m e :=
    (State.mastFault_changes ..).engine (by decide) m e
  unfold State.retireEngine
  extract_lets spare s1
  split
  · refine (hfault _ _).trans (((State.mastShow_changes ..).engine (by decide) m e).trans (.trans ?_ h1))
    exact (State.setMs_changes ..).engine (by decide) m e
  · split
    · exact (hfault _ _).trans ((State.engine_replaceEngine _ (by rw [h1]; decide)).trans h1)
    · exact (hfault _ _).trans h1

/-- An engine that comes back from a suspension is ACTIVE, and its replacement is another engine (R217). -/
theorem State.engine_unsuspend (s : State) (m e k : Nat) : (s.unsuspend m e k).engine m e = 0 := by
  unfold State.unsuspend
  extract_lets x repl s1
  have h1 : s1.engine m e = 0 := State.engine_setEngine _ _ _ (by decide)
  refine ((State.mastShow_changes ..).engine (by decide) m e).trans ?_
  split
  · exact h1
  next hrepl =>
    simp only [Bool.or_eq_true, decide_eq_true_eq, not_or] at hrepl
    exact (State.engine_setEngine_ne _ m 1 (Ne.symm hrepl.2)).trans h1

/-- The self-tests that run on the spares of a mast are no part of a fault's report. -/
theorem State.testing_mastFault (s : State) (m e repl cause stream frame : Nat) :
    ((s.mastFault m e repl cause stream frame).ms m).testing = (s.ms m).testing := by
  unfold State.mastFault
  extract_lets x w s1 s2
  have h1 : (s1.ms m).testing = (s.ms m).testing := by
    unfold s1
    split
    · rw [(State.setFld_frame ..).ms (by decide), State.ms_setMs]
    · rw [(State.setFld_frame ..).ms (by decide)]
  have h2 : (s2.ms m).testing = (s.ms m).testing := by
    rw [(State.publish_changes ..).ms (by decide), h1]
  split
  · exact h2
  · rw [(State.notice_changes ..).ms (by decide), h2]

/-- A spare that is retired leaves its self-test (R215). -/
theorem State.testing_retireEngine {s : State} {m e : Nat} (cause stream frame : Nat) (he : s.engine m e = 1) :
    tblGet none ((s.retireEngine m e cause stream frame).ms m).testing e = none := by
  unfold State.retireEngine
  extract_lets spare s1
  rw [if_pos (by simp [spare, he]), State.testing_mastFault, (State.mastShow_changes ..).ms (by decide), State.ms_setMs]
  exact tblGet_set_self (d := none) (s1.ms m).testing e none

end
end Sys2Proof.Machine

/-! # Dispatch, faults, watchdogs, self-tests, scrubs, reloads and the fault log (O39) -/

namespace Sys2Proof.Machine
section
set_option Elab.async false

/-! ## Dispatch (R193, R196, R222) -/

/-- An operation that touches neither the variant nor the power domains leaves a mast present and powered as it was. -/
theorem Changes.mastOpen {P : List Part} {R : List Reg} {s t : State} (h : Changes P R s t) (hv : Part.variant ∉ P)
    (hd : .PWR_DOM_STATUS ∉ R) (m : Nat) : t.hasMast m = s.hasMast m ∧ t.domOn m = s.domOn m := by
  have hvariant : t.variant = s.variant := h.parts .variant hv
  constructor
  · rw [State.hasMast, State.hasMast, hvariant]
  · rw [State.domOn, State.domOn, h.regs _ hd]

/-- The end of a load changes of a mast its program, its constants and what is known of the load. -/
theorem State.ms_loadDone (s : State) (m : Nat) :
    ((s.loadDone m).ms m).runs = (s.ms m).runs ∧ ((s.loadDone m).ms m).rerun = (s.ms m).rerun ∧
    ((s.loadDone m).ms m).moved = (s.ms m).moved := by
  unfold State.loadDone
  dsimp only
  split
  · split
    · rw [State.ms_setFld, State.ms_setMs]
      exact ⟨rfl, rfl, rfl⟩
    · exact ⟨rfl, rfl, rfl⟩
  · exact ⟨rfl, rfl, rfl⟩

/-- The run of a tile that starts now on slot `k` of mast `m`, from the entry of its stream with the registers of R196. -/
def State.startedRun (s : State) (m k : Nat) (q : Tile) : Run :=
  ⟨(s.ms m).slotEngine k, k, q, { pc := s.fld F.MST_STREAM_CFG_ENTRY m q.stream * 4 }, s.fine, 0, none⟩

/-- A tile that is next runs on the engine of its slot, from its entry, at once (R193, R196). -/
theorem exec_tileDispatch_starts {m : Fin 16} {dt : Nat} {q : Tile} {k : Nat} {pass : Bool} {s u : State}
    (hu : (s.advance dt).loadDone m = u) (hmast : u.hasMast m && u.domOn m && u.ready) (hnext : u.nextTile m = some (q, k, pass))
    (hred : q.reduce = false) :
    Answers (exec (.tileDispatch m dt) s) fun t =>
      t.work m = ((u.ms m).runs ++ [u.startedRun m k q], (u.ms m).rerun.filter (· != q)) ∧ t.fine = u.fine := by
  have hopen : (!u.hasMast m || !u.domOn m || !u.ready) = false := by
    rw [← Bool.not_and, ← Bool.not_and, hmast]
    rfl
  show Answers (execTileDispatch m dt s) _
  unfold execTileDispatch
  refine ⟨_, rfl, ?_⟩
  simp only [hu, hopen, hnext, hred, Bool.false_eq_true, if_false]
  split
  · refine ⟨((State.bump_frame ..).work (by decide) m).trans (State.work_setMs ..), ?_⟩
    exact (State.bump_frame ..).parts .fine (by decide)
  · exact ⟨State.work_setMs .., rfl⟩

/-! ## Faults and watchdogs (R215 to R218) -/

theorem State.toRerun_counts (s : State) (m : Nat) (r : Run) (susp : Option (Nat × Nat)) :
    Counted .MST_CNT_RERUN m s (s.toRerun m r susp) := by
  refine (State.counted_bump _ _ m).after (?_ : Changes [.mst] [] s _) (by decide)
  exact (s.endRun_changes m r.engine).op (State.setMs_changes ..)

/-- An engine that is ACTIVE or SPARE on a mast that is present and powered can fail. -/
theorem State.sparFault_open {s : State} {m e : Nat} (hmast : s.hasMast m && s.domOn m) (heng : s.engine m e < 2) :
    (!s.hasMast m || !s.domOn m || decide (2 ≤ s.engine m e)) = false := by
  rw [← Bool.not_and, hmast, decide_eq_false (by omega)]
  rfl

/-- A fault that can be corrected is counted (R215). -/
theorem State.sparFaultAt_correctable {s : State} {m e : Nat} (hmast : s.hasMast m && s.domOn m) (heng : s.engine m e < 2) :
    s.sparFaultAt m e .correctable = s.bump .MST_CNT_CE m := by
  unfold State.sparFaultAt
  rw [State.sparFault_open hmast heng]
  rfl

/-- A fault of an engine without a tile retires it (R215). -/
theorem State.sparFaultAt_idle {s : State} {m e : Nat} {cause : SparCause} (hmast : s.hasMast m && s.domOn m)
    (heng : s.engine m e < 2) (hrun : s.runOf m e = none) (hcause : cause ≠ .correctable) :
    (s.sparFaultAt m e cause).engine m e = 2 := by
  unfold State.sparFaultAt
  rw [State.sparFault_open hmast heng, if_neg (by decide), if_neg hcause, hrun]
  exact State.engine_retireEngine ..

/-- A fault of a spar that runs a tile retires the engine, and the tile waits to be run again (R216). -/
theorem State.sparFaultAt_running {s : State} {m e : Nat} {cause : SparCause} {r : Run} (hmast : s.hasMast m && s.domOn m)
    (heng : s.engine m e = 0) (hrun : s.runOf m e = some r) (hcause : cause ≠ .correctable) :
    (s.sparFaultAt m e cause).engine m e = 2 ∧ (s.sparFaultAt m e cause).work m = ((s.ms m).runs.filter (fun x => x.engine != r.engine),
      (s.ms m).rerun ++ [{ r.tile with onSlot := some r.slot }]) ∧ Counted .MST_CNT_RERUN m s (s.sparFaultAt m e cause) := by
  unfold State.sparFaultAt
  rw [State.sparFault_open hmast (by omega), if_neg (by decide), if_neg hcause, hrun]
  refine ⟨State.engine_retireEngine .., (State.work_retireEngine ..).trans (State.work_toRerun ..), ?_⟩
  exact (s.toRerun_counts ..).before (State.retireEngine_changes ..) (by decide)

/-- A spar fault in the clock of a COMMIT cancels it: nothing is committed, and the tile is run again (R218). -/
theorem exec_commit_cancelled {m : Fin 16} {e : Fin 66} {a : Fin 32} {imm : BitVec 16} {cause : SparCause} {r : Run} {s : State}
    (hmast : s.hasMast m && s.domOn m) (heng : s.engine m e = 0) (hrun : s.runOf m e = some r)
    (hat : s.sparAt m e r = some (.commit m e a imm none)) (hcause : cause ≠ .correctable) :
    exec (.commit m e a imm (some cause)) s = .next (s.sparFaultAt m e cause) ∧ (s.sparFaultAt m e cause).runOf m e = none := by
  have his : s.sparIs m e (.commit m e a imm none) := by
    unfold State.sparIs
    rw [hrun]
    exact beq_iff_eq.2 hat
  obtain ⟨-, hwork, -⟩ := State.sparFaultAt_running hmast heng hrun hcause
  have hnone : (s.sparFaultAt m e cause).runOf m e = none :=
    State.runOf_filtered (by rw [hwork, State.engine_of_runOf hrun])
  refine ⟨?_, hnone⟩
  show execCommit m e a imm (some cause) s = _
  unfold execCommit State.sparDo
  simp only [his, if_true, hnone]

/-- A first run that reaches its limit suspends the engine, and the tile waits to be run again on another (R217). -/
theorem State.expire_first {s : State} {m : Nat} {r : Run} (hsusp : r.tile.susp = none) :
    (s.expire m r).engine m r.engine = 3 ∧ (s.expire m r).work m = ((s.ms m).runs.filter (fun x => x.engine != r.engine),
      (s.ms m).rerun ++ [{ r.tile with susp := some (r.engine, r.slot), onSlot := some r.slot }]) ∧
    (s.expire m r).fine = s.fine ∧ Counted .MST_CNT_RERUN m s (s.expire m r) := by
  have h3 (t : State) : (t.setEngine m r.engine 3).engine m r.engine = 3 := State.engine_setEngine _ _ _ (by decide)
  unfold State.expire
  rw [hsusp]
  refine ⟨?_, ?_, ?_, ?_⟩
  · exact (State.engine_replaceEngine _ (by rw [h3]; decide)).trans (h3 _)
  · exact (State.work_replaceEngine ..).trans (((State.setEngine_changes ..).work (by decide) m).trans (State.work_toRerun ..))
  · exact ((State.replaceEngine_changes ..).parts .fine (by decide)).trans
      ((s.toRerun_changes m r (some (r.engine, r.slot))).parts .fine (by decide))
  · exact ((s.toRerun_counts ..).before (State.setEngine_changes ..) (by decide)).before (State.replaceEngine_changes ..) (by decide)

/-- A re-run that reaches its limit gives the suspended engine back, and its tile is abandoned (R217). -/
theorem State.expire_rerun {s : State} {m e0 k0 : Nat} {r : Run} (hsusp : r.tile.susp = some (e0, k0)) :
    (s.expire m r).engine m e0 = 0 ∧ Counted .MST_CNT_ABANDON m s (s.expire m r) := by
  have hback : Changes [.mst] [.MST_STATUS, .MST_SPARE_USE, .MST_SPAR_STATE] s ((s.endRun m r.engine).unsuspend m e0 k0) :=
    (s.endRun_changes m r.engine).within.op (State.unsuspend_changes ..)
  unfold State.expire
  rw [hsusp]
  refine ⟨?_, ?_⟩
  · refine ((State.tileFinal_changes ..).engine (by decide) m e0).trans (((State.mastFault_changes ..).engine (by decide) m e0).trans ?_)
    exact ((State.bump_frame ..).engine (by decide) m e0).trans (State.engine_unsuspend ..)
  · exact (((State.counted_bump _ _ m).after hback (by decide)).before (State.mastFault_changes ..) (by decide)).before
      (State.tileFinal_changes ..) (by decide)

/-- The instant at which a run reaches the watchdog limit of its class, `dt` from now or later (R195, R210). -/
def State.limitOf (s : State) (m dt : Nat) (r : Run) : State := s.passTo dt (r.start + s.watchdog m r.tile.cls + r.waited)

theorem exec_watchdogExpiry_expires {m : Fin 16} {e : Fin 66} (dt : Nat) {r : Run} {s : State} (hrun : s.runOf m e = some r)
    (hwait : r.waitFrom = none) : exec (.watchdogExpiry m e dt false) s = .next ((s.limitOf m dt r).expire m r) := by
  show execWatchdogExpiry m e dt false s = _
  unfold execWatchdogExpiry
  rw [hrun]
  simp only [hwait]
  rfl

/-! ## Self-tests, scrubber, reloads, fault log (R185, R220 to R222) -/

theorem exec_spareSelftest_starts {m : Fin 16} {e : Fin 66} (dt : Nat) {s : State} (hmast : s.hasMast m && s.domOn m)
    (hen : s.flag F.MST_CFG_SELFTEST_EN m) (heng : s.engine m e = 1) (htest : tblGet none (s.ms m).testing e = none) :
    Answers (exec (.spareSelftest m e dt) s) fun t =>
      tblGet none (t.ms m).testing e = some t.fine ∧ s.fine + dt ≤ t.fine ∧ t.regs = s.regs := by
  show Answers (execSpareSelftest m e dt s) _
  unfold execSpareSelftest
  refine ⟨_, rfl, ?_⟩
  simp only [hmast, hen, heng, htest, Option.isNone_none, beq_self_eq_true, Bool.and_self, if_true]
  refine ⟨?_, le_max_left .., rfl⟩
  rw [State.ms_setMs]
  exact tblGet_set_self (d := none) (s.ms m).testing e (some _)

theorem exec_selftestEnd_tested {m : Fin 16} {e : Fin 66} {pass : Bool} {dt t0 : Nat} {s : State}
    (htest : tblGet none (s.ms m).testing e = some t0) :
    ∃ u, exec (.selftestEnd m e pass dt) s = .next (if pass then u else u.retireEngine m e 7 0 0) ∧
      tblGet none (u.ms m).testing e = none ∧ u.fine = max (s.fine + dt) (t0 + 75000) ∧ u.regs = s.regs := by
  refine ⟨(s.passTo dt (t0 + fineOfUs 60)).setMs m { s.ms m with testing := tblSet none (s.ms m).testing e none }, ?_, ?_, rfl, rfl⟩
  · show execSelftestEnd m e pass dt s = _
    unfold execSelftestEnd
    simp only [htest]
  · rw [State.ms_setMs]
    exact tblGet_set_self (d := none) (s.ms m).testing e none

theorem State.flag_setFld (s : State) {f : Fld} (v i : Nat) (h : f.lo + f.width ≤ 32) (hv : v < 2 ^ f.width) :
    (s.setFld f v i).flag f i = (v != 0) := by
  rw [State.flag, State.fld_setFld_same _ _ _ _ h, Nat.mod_eq_of_lt hv]

theorem exec_mastReload_starts {m : Fin 16} {dt at0 : Nat} {prog consts : Option (List Byte)} {s : State}
    (hreload : (s.ms m).reload = some (at0, prog, consts)) (htill : (s.ms m).loadTill = none) (hwoke : (s.ms m).woke = false)
    (hearlier : (s.ms m).frames.any (fun f => decide (f.info.stampAt < at0) && !f.over && !f.dropped) = false) :
    exec (.mastReload m dt) s = .next (((s.advance dt).setMs m { s.ms m with loadTill := some (s.fine + dt + 768) }).setFld
      F.MST_STATUS_RELOAD 1 m) := by
  show execMastReload m dt s = _
  unfold execMastReload
  simp only [hreload, htill, hwoke, hearlier, Bool.false_eq_true, if_false]
  rfl

/-- A load that is over puts the committed program and constants into force. -/
theorem State.loadDone_over {s : State} {m at0 till : Nat} {prog consts : Option (List Byte)}
    (hreload : (s.ms m).reload = some (at0, prog, consts)) (htill : (s.ms m).loadTill = some till) (hover : till ≤ s.fine) :
    s.loadDone m = (s.setMs m { s.ms m with prog := prog.getD (s.ms m).prog, consts := consts.getD (s.ms m).consts,
                                            reload := none, loadTill := none, woke := false }).setFld F.MST_STATUS_RELOAD 0 m := by
  unfold State.loadDone
  simp only [hreload, htill, hover, if_true]

theorem exec_mastReload_ends {m : Fin 16} {dt at0 till : Nat} {prog consts : Option (List Byte)} {s : State}
    (hreload : (s.ms m).reload = some (at0, prog, consts)) (htill : (s.ms m).loadTill = some till) :
    exec (.mastReload m dt) s = .next ((s.passTo dt till).loadDone m) := by
  show execMastReload m dt s = _
  unfold execMastReload
  simp only [hreload, htill]

/-- The log of mast `m` has given up its oldest entry, whose frame is latched (R221). -/
def State.logTaken (s : State) (m : Nat) (f : Word) (rest : List (Word × Word)) : State :=
  ((s.setMs m { s.ms m with log := rest }).wr .MST_FAULT1 f m).setFld F.MST_STATUS_FAULT_PENDING (b2n !rest.isEmpty) m

theorem State.logTaken_reads (s : State) (m : Nat) (f : Word) (rest : List (Word × Word)) :
    (s.logTaken m f rest).rd .MST_FAULT1 m = f ∧ ((s.logTaken m f rest).ms m).log = rest ∧
    (s.logTaken m f rest).fld F.MST_STATUS_FAULT_PENDING m = b2n !rest.isEmpty := by
  unfold State.logTaken
  refine ⟨?_, ?_, ?_⟩
  · rw [State.rd_setFld_reg _ _ _ _ _ _ (by decide), State.rd_wr_self]
  · rw [State.ms_setFld, State.ms_wr, State.ms_setMs]
  · rw [State.fld_setFld_same _ _ _ _ (by decide)]
    cases rest <;> rfl

theorem exec_fault0Read_entry {who : Requester} {m : Fin 16} {w f : Word} {rest : List (Word × Word)} {s : State}
    (hmay : s.mayRead who 3 m 1) (hwho : who ≠ .helm) (hlog : (s.ms m).log = (w, f) :: rest) :
    exec (.fault0Read who m) s = .next ((s.logTaken m f rest).emit (.reply w)) := by
  show execFault0Read who m s = _
  unfold execFault0Read
  rw [State.readGate_may _ hmay, State.journalRead, if_neg hwho]
  simp only [hlog]
  rfl

/-- Settles O39, event by event. -/
theorem mastTiles : Obligations.MastTiles := by
  unfold Obligations.MastTiles
  refine ⟨?dispatch, ?fault, ?corrected, ?spare, ?cancelled, ?expiry, ?reexpiry, ?selftest, ?passed, ?failed, ?scrub, ?loads,
    ?loaded, ?log⟩
  case dispatch =>
    intro m dt q k pass s hmast hnext hred
    have hload : Changes [.fine, .mst] [.MST_STATUS] s ((s.advance dt).loadDone m) :=
      (s.advance_frame dt).within.op (State.loadDone_changes ..)
    obtain ⟨hhas, hon⟩ := hload.mastOpen (by decide) (by decide) m
    have hready : ((s.advance dt).loadDone m).ready = s.ready := congrArg (· != 0) (hload.fld (f := F.PCE_STATUS_READY) (by decide) 0 0)
    have hfine : ((s.advance dt).loadDone m).fine = s.fine + dt := (State.loadDone_changes ..).parts .fine (by decide)
    obtain ⟨hruns, hrerun, hmoved⟩ := (s.advance dt).ms_loadDone m
    obtain ⟨t, hexec, hwork, ht⟩ := exec_tileDispatch_starts rfl (by rw [hhas, hon, hready]; exact hmast) hnext hred
    refine ⟨t, hexec, (congrArg Prod.fst hwork).trans ?_, (congrArg Prod.snd hwork).trans (by rw [hrerun]; rfl), ht.trans hfine⟩
    rw [hruns, State.startedRun, Mast.slotEngine, hmoved, hfine, hload.fld (by decide)]
    rfl
  case fault =>
    intro m e cause r s hmast heng hrun hcause
    obtain ⟨hengine, hwork, hcount⟩ := State.sparFaultAt_running hmast heng hrun hcause
    exact ⟨_, rfl, hengine, congrArg Prod.snd hwork, congrArg Prod.fst hwork, hcount⟩
  case corrected =>
    intro m e s hmast heng
    exact ⟨_, rfl, State.sparFaultAt_correctable hmast heng⟩
  case spare =>
    intro m e cause s hmast heng hrun hcause
    exact ⟨_, rfl, State.sparFaultAt_idle hmast (by omega) hrun hcause⟩
  case cancelled =>
    intro m e a imm cause r s hmast heng hrun hat hcause
    obtain ⟨hexec, hnone⟩ := exec_commit_cancelled hmast heng hrun hat hcause
    obtain ⟨hengine, hwork, -⟩ := State.sparFaultAt_running hmast heng hrun hcause
    exact ⟨_, hexec, hengine, hnone, congrArg Prod.snd hwork⟩
  case expiry =>
    intro m e dt r s hrun hwait hsusp _
    obtain ⟨hengine, hwork, hfine, hcount⟩ := State.expire_first (s := s.limitOf m dt r) (m := m) hsusp
    rw [State.engine_of_runOf hrun] at hengine
    exact ⟨_, exec_watchdogExpiry_expires dt hrun hwait, hengine, congrArg Prod.snd hwork, hfine, hcount⟩
  case reexpiry =>
    intro m e dt r e0 k0 s hrun hwait hsusp
    exact ⟨_, exec_watchdogExpiry_expires dt hrun hwait, State.expire_rerun (s := s.limitOf m dt r) (m := m) hsusp⟩
  case selftest =>
    intro m e dt s hmast hen heng htest
    exact exec_spareSelftest_starts dt hmast hen heng htest
  case passed =>
    intro m e dt t0 s htest
    obtain ⟨u, hexec, htested, hfine, hregs⟩ := exec_selftestEnd_tested (pass := true) (dt := dt) htest
    exact ⟨u, hexec, htested, hfine, hregs⟩
  case failed =>
    intro m e dt t0 s htest heng
    obtain ⟨u, hexec, -, -, hregs⟩ := exec_selftestEnd_tested (pass := false) (dt := dt) htest
    have hspare : u.engine m e = 1 := by
      rw [State.engine, State.rd, hregs]
      exact heng
    exact ⟨_, hexec, State.engine_retireEngine .., State.testing_retireEngine 7 0 0 hspare⟩
  case scrub =>
    intro m line corrected s hmast
    refine ⟨s.bumpBy .MST_CNT_CE (min corrected 8) m, ?_, State.rd_bumpBy_same .., rfl⟩
    show execShmScrub m line corrected s = _
    unfold execShmScrub
    rw [hmast, decide_eq_true line.isLt]
    rfl
  case loads =>
    intro m dt at0 prog consts s hreload htill hwoke hearlier
    refine ⟨_, exec_mastReload_starts hreload htill hwoke hearlier, ?_, ?_, ?_, rfl⟩
    · rw [State.ms_setFld, State.ms_setMs]
    · exact State.flag_setFld _ _ _ (by decide) (by decide)
    · rw [State.ms_setFld, State.ms_setMs]
  case loaded =>
    intro m dt at0 till prog consts s hreload htill
    refine ⟨_, exec_mastReload_ends hreload htill, ?_⟩
    rw [State.loadDone_over (s := s.passTo dt till) hreload htill (s.le_fine_passTo dt till)]
    refine ⟨?_, ?_, ?_, State.flag_setFld _ _ _ (by decide) (by decide), rfl⟩ <;> rw [State.ms_setFld, State.ms_setMs] <;> rfl
  case log =>
    intro who m w f rest s hmay hwho hlog
    exact ⟨_, exec_fault0Read_entry hmay hwho hlog, rfl, s.logTaken_reads m f rest⟩

end
end Sys2Proof.Machine

/-! # One instruction of a spar (R196, R198, R203, R206) -/

namespace Sys2Proof.Machine
section
set_option Elab.async false

/-! ## Registers -/

@[simp] theorem Spar.pc_setS (x : Spar) (k : Nat) (v : Word) : (x.setS k v).pc = x.pc := by unfold Spar.setS; split <;> rfl
@[simp] theorem Spar.loops_setS (x : Spar) (k : Nat) (v : Word) : (x.setS k v).loops = x.loops := by unfold Spar.setS; split <;> rfl
@[simp] theorem Spar.pc_putZN (x : Spar) (d : Nat) (v : Word) : (x.putZN d v).pc = x.pc := x.pc_setS d v
@[simp] theorem Spar.loops_putZN (x : Spar) (d : Nat) (v : Word) : (x.putZN d v).loops = x.loops := x.loops_setS d v

/-- A scalar register reads what was written to it; s0 reads zero whatever is written (R196). -/
theorem Spar.s_setS (x : Spar) (k k' : Nat) (v : Word) :
    (x.setS k v).s k' = if k' = k then (if k = 0 then 0 else v) else x.s k' := by
  unfold Spar.setS Spar.s
  by_cases hk : k = 0
  · rw [if_pos hk, if_pos hk]
    split
    next h0 => rw [if_pos (h0.trans hk.symm)]
    next h0 => rw [if_neg (fun h => h0 (h.trans hk))]
  · rw [if_neg hk, if_neg hk, tblGet_set]
    by_cases hk' : k' = k
    · rw [if_pos hk', if_pos hk', if_neg (hk' ▸ hk)]
    · rw [if_neg hk', if_neg hk']

/-- A write to a scalar register leaves every other register, and sets no flag. -/
theorem Spar.setS_result (x : Spar) (d : Nat) (v : Word) : x.Result (x.setS d v) d v ∧ (x.setS d v).Flags x.z x.n x.c x.v := by
  refine ⟨⟨?_, fun k hk => ?_, ?_⟩, ?_⟩
  · rw [Spar.s_setS, if_pos rfl]
  · rw [Spar.s_setS, if_neg hk]
  · unfold Spar.setS; split <;> rfl
  · unfold Spar.setS; split <;> exact ⟨rfl, rfl, rfl, rfl⟩

/-- A result stays one where flags change after it. -/
theorem Spar.Result.withFlags {x y : Spar} {d : Nat} {v : Word} (h : x.Result y d v) (z n c w : Bool) :
    x.Result { y with z := z, n := n, c := c, v := w } d v := h

/-- A scalar result sets Z and N (R201). -/
theorem Spar.putZN_result (x : Spar) (d : Nat) (v : Word) :
    x.Result (x.putZN d v) d v ∧ (x.putZN d v).Flags (v == 0) v.msb x.c x.v := by
  obtain ⟨hres, -, -, hc, hv⟩ := x.setS_result d v
  exact ⟨hres.withFlags _ _ _ _, rfl, rfl, hc, hv⟩

/-! ## The step of a run -/

theorem State.sparRuns_iff {s : State} {m : Fin 16} {e : Fin 66} {r : Run} {i : Instr} :
    s.sparRuns m e r i ↔ s.runOf m e = some r ∧ s.sparAt m e r = some i ∧ inProgram (r.spar.pcAt (r.spar.pc + 4)) := by
  unfold State.sparRuns
  rw [Bool.and_eq_true, Bool.and_eq_true, beq_iff_eq, beq_iff_eq, and_assoc]

/-- The instruction that the program spells is executed (R198). -/
theorem State.sparDo_runs {s : State} {m : Fin 16} {e : Fin 66} {r : Run} {i : Instr} (h : s.sparRuns m e r i) (f : Run → SparRes) :
    s.sparDo m e i f = s.sparEnd m r (f r) := by
  obtain ⟨hrun, hat, -⟩ := State.sparRuns_iff.1 h
  unfold State.sparDo
  rw [hrun]
  simp only [hat, if_true]

theorem State.sparNext_now {x : Spar} (s : State) (m : Nat) (r : Run) (h : inProgram x.pc) : s.sparNow m r (s.sparNext m r x) x := by
  rw [inProgram, Bool.and_eq_true, decide_eq_true_eq, decide_eq_true_eq] at h
  have hin : (decide (x.pc < 0) || decide (0x8000 ≤ x.pc)) = false := by
    rw [Bool.or_eq_false_iff, decide_eq_false_iff_not, decide_eq_false_iff_not]
    omega
  unfold State.sparNext State.sparNow
  rw [hin]
  rfl

/-- A program counter that leaves program memory is ILLEGAL (R206). -/
theorem State.sparNext_out {x : Spar} (s : State) (m : Nat) (r : Run) (h : inProgram x.pc = false) : s.sparNext m r x = s.illegal m r := by
  have hout : (decide (x.pc < 0) || decide (0x8000 ≤ x.pc)) = true := by
    rw [inProgram, Bool.and_eq_false_iff, decide_eq_false_iff_not, decide_eq_false_iff_not] at h
    rw [Bool.or_eq_true, decide_eq_true_eq, decide_eq_true_eq]
    omega
  unfold State.sparNext
  rw [hout]
  rfl

section
variable {s : State} {m : Fin 16} {e : Fin 66} {r : Run} {i : Instr}

theorem State.sparDo_now {f : Run → SparRes} {y : Spar} (h : s.sparRuns m e r i) (hf : f r = .next y) (hpc : inProgram y.pc) :
    s.sparNow m r (s.sparDo m e i f) y := by
  rw [State.sparDo_runs h, hf]
  exact State.sparNext_now s m r hpc

/-- The program counter moves to an address of program memory, with the registers of `y`. -/
theorem State.sparDo_goes {f : Run → SparRes} {y : Spar} {pc : Int} (h : s.sparRuns m e r i) (hf : f r = .next (y.goto pc))
    (hpc : inProgram (y.pcAt pc)) : s.sparGoes (s.sparDo m e i f) m r y pc := State.sparDo_now h hf hpc

/-- An instruction that is followed by the next one, with the registers of `y`. -/
theorem State.sparDo_then {f : Run → SparRes} {y : Spar} (h : s.sparRuns m e r i) (hf : f r = y.step)
    (hpc : y.pc = r.spar.pc) (hloops : y.loops = r.spar.loops) : s.sparThen (s.sparDo m e i f) m r y := by
  obtain ⟨-, -, hin⟩ := State.sparRuns_iff.1 h
  refine State.sparDo_goes h (hf.trans (by rw [Spar.step, hpc])) ?_
  rw [Spar.pcAt, hloops]
  exact hin

theorem State.sparDo_illegal {f : Run → SparRes} (h : s.sparRuns m e r i) (hf : f r = .illegal) :
    s.sparIllegal (s.sparDo m e i f) m e := by
  rw [State.sparDo_runs h, hf]
  exact State.illegal_ends (State.sparRuns_iff.1 h).1

/-- A program counter that leaves program memory ends the run with ILLEGAL (R206). -/
theorem State.sparDo_leaves {f : Run → SparRes} {y : Spar} {pc : Int} (h : s.sparRuns m e r i) (hf : f r = .next (y.goto pc))
    (hpc : inProgram (y.pcAt pc) = false) : s.sparIllegal (s.sparDo m e i f) m e := by
  rw [State.sparDo_runs h, hf]
  show s.sparIllegal (s.sparNext m r (y.goto pc)) m e
  rw [State.sparNext_out s m r hpc]
  exact State.illegal_ends (State.sparRuns_iff.1 h).1

theorem State.sparAlu_then {f : Spar → Spar} {y : Spar} (h : s.sparRuns m e r i) (hf : f r.spar = y) (hpc : y.pc = r.spar.pc)
    (hloops : y.loops = r.spar.loops) : s.sparThen (s.sparAlu m e i f) m r y :=
  State.sparDo_then h (congrArg Spar.step hf) hpc hloops

theorem State.sparTry_then {f : Spar → Option Spar} {y : Spar} (h : s.sparRuns m e r i) (hf : f r.spar = some y)
    (hpc : y.pc = r.spar.pc) (hloops : y.loops = r.spar.loops) : s.sparThen (s.sparTry m e i f) m r y := by
  refine State.sparDo_then h ?_ hpc hloops
  simp only [hf]

theorem State.sparTry_illegal {f : Spar → Option Spar} (h : s.sparRuns m e r i) (hf : f r.spar = none) :
    s.sparIllegal (s.sparTry m e i f) m e := by
  refine State.sparDo_illegal h ?_
  simp only [hf]

end

/-! ## What a scalar instruction answers -/

/-- From `s` the run `r` goes on with the next instruction, `v` in s[d] and the four flags as given; nothing else changes. -/
def State.SparScalarTo (s : State) (m : Nat) (r : Run) (d : Nat) (v : Word) (z n c w : Bool) (t : State) : Prop :=
  ∃ y, s.sparThen t m r y ∧ r.spar.Result y d v ∧ y.Flags z n c w

section
variable {s : State} {m : Fin 16} {e : Fin 66} {r : Run} {i : Instr}

theorem State.sparAlu_putZN {d : Nat} {f : Spar → Word} {v : Word} (h : s.sparRuns m e r i) (hv : f r.spar = v) :
    s.SparScalarTo m r d v (v == 0) v.msb r.spar.c r.spar.v (s.sparAlu m e i fun x => x.putZN d (f x)) :=
  ⟨_, State.sparAlu_then h (by rw [hv]) (by simp) (by simp), r.spar.putZN_result d v⟩

theorem State.sparAlu_setS {d : Nat} {f : Spar → Word} {v : Word} (h : s.sparRuns m e r i) (hv : f r.spar = v) :
    s.SparScalarTo m r d v r.spar.z r.spar.n r.spar.c r.spar.v (s.sparAlu m e i fun x => x.setS d (f x)) :=
  ⟨_, State.sparAlu_then h (by rw [hv]) (by simp) (by simp), r.spar.setS_result d v⟩

/-! ## Sums and differences (R201) -/

theorem State.sparAlu_add {d a : Nat} {f : Spar → Word} {b : Word} (h : s.sparRuns m e r i) (hb : f r.spar = b) :
    s.SparScalarTo m r d (r.spar.s a + b) (r.spar.s a + b == 0) (r.spar.s a + b).msb (BitVec.uaddOverflow (r.spar.s a) b)
      (BitVec.saddOverflow (r.spar.s a) b) (s.sparAlu m e i fun x => (x.setS d (x.s a + f x)).addFlags (x.s a) (f x)) := by
  subst hb
  refine ⟨_, State.sparAlu_then h rfl (r.spar.pc_setS ..) (r.spar.loops_setS ..), (r.spar.setS_result ..).1, rfl, rfl, rfl, ?_⟩
  rw [BitVec.saddOverflow_eq]
  show (_ && _) = _
  cases (r.spar.s a).msb <;> cases (r.spar.s a + f r.spar).msb <;> rfl

theorem State.sparAlu_sub {d a : Nat} {f : Spar → Word} {b : Word} (h : s.sparRuns m e r i) (hb : f r.spar = b) :
    s.SparScalarTo m r d (r.spar.s a - b) (r.spar.s a - b == 0) (r.spar.s a - b).msb (!BitVec.usubOverflow (r.spar.s a) b)
      (BitVec.ssubOverflow (r.spar.s a) b) (s.sparAlu m e i fun x => (x.setS d (x.s a - f x)).subFlags (x.s a) (f x)) := by
  subst hb
  refine ⟨_, State.sparAlu_then h rfl (r.spar.pc_setS ..) (r.spar.loops_setS ..), (r.spar.setS_result ..).1, rfl, rfl, ?_, ?_⟩
  · show decide _ = !decide _
    rw [← decide_not, decide_eq_decide]
    exact Nat.not_lt.symm
  · rw [BitVec.ssubOverflow_eq]
    show (_ && _) = _
    cases (r.spar.s a).msb <;> cases (f r.spar).msb <;> cases (r.spar.s a - f r.spar).msb <;> rfl

/-- A comparison is a difference written to s0 (R202). -/
theorem State.sparAlu_cmp {a : Nat} {f : Spar → Word} {b : Word} (h : s.sparRuns m e r i) (hb : f r.spar = b) :
    s.SparScalarTo m r 0 (r.spar.s a - b) (r.spar.s a - b == 0) (r.spar.s a - b).msb (!BitVec.usubOverflow (r.spar.s a) b)
      (BitVec.ssubOverflow (r.spar.s a) b) (s.sparAlu m e i fun x => x.subFlags (x.s a) (f x)) :=
  State.sparAlu_sub (d := 0) h hb

/-! ## Quotients (R201, R202) -/

/-- DIV and DIVU set V where the divisor is 0, and leave C. -/
theorem State.sparAlu_quot {d b : Nat} {f : Spar → Word} {v : Word} (h : s.sparRuns m e r i) (hv : f r.spar = v) :
    s.SparScalarTo m r d v (v == 0) v.msb r.spar.c (r.spar.s b == 0)
      (s.sparAlu m e i fun x => { x.putZN d (f x) with v := x.s b == 0 }) := by
  subst hv
  obtain ⟨hres, hz, hn, hc, -⟩ := r.spar.putZN_result d (f r.spar)
  exact ⟨_, State.sparAlu_then h rfl (r.spar.pc_putZN ..) (r.spar.loops_putZN ..), hres.withFlags .., hz, hn, hc, rfl⟩

end

theorem ofNat_div_eq_udiv (a b : Word) : BitVec.ofNat 32 (a.toNat / b.toNat) = a / b := by
  apply BitVec.eq_of_toNat_eq
  rw [BitVec.toNat_ofNat, BitVec.toNat_udiv]
  exact Nat.mod_eq_of_lt ((Nat.div_le_self ..).trans_lt a.isLt)

theorem divResult_eq_sdiv {a b : Word} (h : (a == 0x80000000 && b == 0xFFFFFFFF) = false) :
    divResult a b = if b = 0 then 0 else a.sdiv b := by
  unfold divResult
  split
  · rfl
  · rw [if_neg (by simpa using h)]
    apply BitVec.eq_of_toInt_eq
    rw [BitVec.toInt_ofInt, BitVec.toInt_sdiv]

/-- The high half of a product of two signed words. -/
theorem ofInt_mul_div_eq_extractLsb' (a b : Word) : BitVec.ofInt 32 (a.toInt * b.toInt / 2 ^ 32) =
    (a.signExtend 64 * b.signExtend 64).extractLsb' 32 32 := by
  have hprod : a.signExtend 64 * b.signExtend 64 = BitVec.ofInt 64 (a.toInt * b.toInt) := (BitVec.ofInt_mul ..).symm
  rw [hprod]
  generalize a.toInt * b.toInt = p
  apply BitVec.eq_of_toNat_eq
  rw [BitVec.extractLsb'_toNat, BitVec.toNat_ofInt, BitVec.toNat_ofInt, Nat.shiftRight_eq_div_pow]
  omega

/-! ## MFS (R201) -/

/-- SAT after a write to a scalar register. -/
theorem Spar.setS_sat (x : Spar) (d : Nat) (v : Word) : { x.setS d v with sat := x.sat } = x.setS d v := by
  unfold Spar.setS
  split <;> rfl

/-- MFS writes what it reads to s[d], sets or keeps SAT, and leaves the flags. -/
theorem State.sparDo_mfs {s : State} {m : Fin 16} {e : Fin 66} {r : Run} {i : Instr} {d : Nat} {v : Word} {w : Bool} {f : Run → SparRes}
    (h : s.sparRuns m e r i) (hf : f r = ({ r.spar.setS d v with sat := w } : Spar).step) :
    ∃ y, s.sparThen (s.sparDo m e i f) m r y ∧ r.spar.Result { y with sat := r.spar.sat } d v ∧ y.sat = w ∧
      y.Flags r.spar.z r.spar.n r.spar.c r.spar.v := by
  obtain ⟨hres, hflags⟩ := r.spar.setS_result d v
  exact ⟨_, State.sparDo_then h hf (r.spar.pc_setS ..) (r.spar.loops_setS ..), (r.spar.setS_sat d v).symm ▸ hres, rfl, hflags⟩

/-- A special register other than SAT keeps it. -/
theorem State.sparDo_mfs_keeps {s : State} {m : Fin 16} {e : Fin 66} {r : Run} {i : Instr} {d : Nat} {v : Word} {f : Run → SparRes}
    (h : s.sparRuns m e r i) (hf : f r = (r.spar.setS d v).step) :
    ∃ y, s.sparThen (s.sparDo m e i f) m r y ∧ r.spar.Result { y with sat := r.spar.sat } d v ∧ y.sat = r.spar.sat ∧
      y.Flags r.spar.z r.spar.n r.spar.c r.spar.v :=
  State.sparDo_mfs h (hf.trans (congrArg Spar.step (r.spar.setS_sat d v).symm))

theorem ofNat_b2n (b : Bool) : BitVec.ofNat 32 (b2n b) = if b then 1 else 0 := by cases b <;> rfl

/-- LUI puts its immediate into the high half. -/
theorem setWidth_shiftLeft_eq_append (imm : BitVec 16) : imm.setWidth 32 <<< 16 = imm ++ 0#16 := by
  apply BitVec.eq_of_toNat_eq
  rw [BitVec.toNat_shiftLeft, BitVec.toNat_setWidth, BitVec.toNat_append]
  have := imm.isLt
  simp [Nat.shiftLeft_eq]
  omega

/-- Settles O40, instruction by instruction. -/
theorem sparScalar : Obligations.SparScalar := by
  unfold Obligations.SparScalar
  refine ⟨?sum, ?difference, ?result, ?quotient, ?upper, ?special⟩
  case sum =>
    intro m e d a b imm r s
    simp only [List.forall_mem_cons, List.not_mem_nil, false_imp_iff, implies_true, and_true]
    exact ⟨fun h => ⟨_, rfl, State.sparAlu_add h rfl⟩, fun h => ⟨_, rfl, State.sparAlu_add h rfl⟩⟩
  case difference =>
    intro m e d a b imm r s
    simp only [List.forall_mem_cons, List.not_mem_nil, false_imp_iff, implies_true, and_true]
    exact ⟨fun h => ⟨_, rfl, State.sparAlu_sub h rfl⟩, fun h => ⟨_, rfl, State.sparAlu_cmp h rfl⟩, fun h => ⟨_, rfl, State.sparAlu_cmp h rfl⟩⟩
  case result =>
    intro m e d a b imm r s
    simp only [List.forall_mem_cons, List.not_mem_nil, false_imp_iff, implies_true, and_true, BitVec.sle_iff_toInt_le,
      BitVec.slt_iff_toInt_lt, BitVec.ult_iff_toNat_lt]
    refine ⟨?_, ?_, ?_, ?_, ?_, ?_, ?_, ?mulh, ?_, ?_, ?_, ?_, ?_, ?_, ?_, ?_, ?_, ?_, ?_⟩
    case mulh => exact fun h => ⟨_, rfl, State.sparAlu_putZN h (ofInt_mul_div_eq_extractLsb' ..)⟩
    all_goals exact fun h => ⟨_, rfl, State.sparAlu_putZN h rfl⟩
  case quotient =>
    intro m e d a b r s
    simp only [List.forall_mem_cons, List.not_mem_nil, false_imp_iff, implies_true, and_true]
    refine ⟨fun h => ⟨_, rfl, ?_⟩, fun h => ⟨_, rfl, ?_⟩⟩
    · obtain ⟨y, hthen, hres, hflags⟩ := State.sparAlu_quot (d := d) (b := b) (f := fun x => divResult (x.s a) (x.s b)) h rfl
      exact ⟨y, _, hthen, hres, divResult_eq_sdiv, hflags⟩
    · obtain ⟨y, hthen, hres, hflags⟩ := State.sparAlu_quot (d := d) (b := b)
        (f := fun x => if x.s b = 0 then 0 else BitVec.ofNat 32 ((x.s a).toNat / (x.s b).toNat)) h rfl
      refine ⟨y, _, hthen, hres, fun _ => ?_, hflags⟩
      rw [ofNat_div_eq_udiv]
  case upper =>
    intro m e d imm r s
    simp only [List.forall_mem_cons, List.not_mem_nil, false_imp_iff, implies_true, and_true]
    exact fun h => ⟨_, rfl, State.sparAlu_setS h (setWidth_shiftLeft_eq_append imm)⟩
  case special =>
    intro m e d r s
    simp only [List.forall_mem_append, List.forall_mem_map, List.forall_mem_cons, List.not_mem_nil, false_imp_iff, implies_true,
      and_true, List.mem_filter, List.mem_range, decide_eq_true_eq]
    refine ⟨⟨?sat, ?column, ?line, ?ended⟩, ?reserved⟩
    case sat => exact fun h => ⟨_, rfl, State.sparDo_mfs h (by rw [ofNat_b2n]; rfl)⟩
    case column => exact fun h => ⟨_, rfl, State.sparDo_mfs_keeps h rfl⟩
    case line => exact fun h => ⟨_, rfl, State.sparDo_mfs_keeps h rfl⟩
    case ended => exact fun h => ⟨_, rfl, State.sparDo_mfs_keeps h (by rw [ofNat_b2n]; rfl)⟩
    case reserved =>
      intro k hk h
      refine ⟨_, rfl, State.sparDo_mfs_keeps h ?_⟩
      obtain ⟨n, hn⟩ := Nat.exists_eq_add_of_le' hk.2
      have hcode : (BitVec.ofNat 5 k).toNat = n + 4 := by
        rw [BitVec.toNat_ofNat, Nat.mod_eq_of_lt hk.1, hn]
      simp only [hcode]
      rfl

end
end Sys2Proof.Machine

/-! # Bytes and lanes (R13, R196, R200) -/

namespace Sys2Proof.Machine
section
set_option Elab.async false

/-! ## Little-endian bytes (R13) -/

theorem natLE_cons (b : Byte) (bs : List Byte) : natLE (b :: bs) = b.toNat + 256 * natLE bs := rfl

/-- Without its lowest `k` bytes a number is that of the bytes after them. -/
theorem natLE_div (bs : List Byte) (k : Nat) : natLE bs / 256 ^ k = natLE (bs.drop k) := by
  induction k generalizing bs with
  | zero => simp
  | succ k ih =>
    cases bs with
    | nil => simp [natLE]
    | cons b bs =>
      have hb : b.toNat < 256 := b.isLt
      rw [List.drop_succ_cons, ← ih, natLE_cons, Nat.pow_succ', ← Nat.div_div_eq_div_mul]
      congr 1
      omega

theorem toNat_append_bytes (b0 b1 : Byte) : (b1 ++ b0 : BitVec 16).toNat = b0.toNat + 256 * b1.toNat := by
  rw [BitVec.toNat_append, ← Nat.shiftLeft_add_eq_or_of_lt b0.isLt, Nat.shiftLeft_eq]
  omega

/-- The low halfword of a number is that of its first two bytes. -/
theorem ofNat_natLE_half (b0 b1 : Byte) (bs : List Byte) : BitVec.ofNat 16 (natLE (b0 :: b1 :: bs)) = b1 ++ b0 := by
  apply BitVec.eq_of_toNat_eq
  have h0 : b0.toNat < 256 := b0.isLt
  have h1 : b1.toNat < 256 := b1.isLt
  rw [toNat_append_bytes, BitVec.toNat_ofNat, natLE_cons, natLE_cons]
  omega

theorem length_bytesLE (n v : Nat) : (bytesLE n v).length = n := by simp [bytesLE]

/-- Reading a byte memory after the `n` bytes of `v` have been written at `a`. -/
theorem tblGet_setBytes (t : Tbl Byte) (a n v k : Nat) : tblGet 0 (tblSetList 0 t a (bytesLE n v)) k =
    if a ≤ k ∧ k < a + n then BitVec.ofNat 8 (v / 2 ^ (8 * (k - a))) else tblGet 0 t k := by
  rw [tblGet_setList]
  by_cases h : a ≤ k ∧ k < a + n
  · rw [if_pos h, dif_pos ⟨h.1, by rw [length_bytesLE]; omega⟩]
    simp [bytesLE, Nat.shiftRight_eq_div_pow]
  · rw [if_neg h, dif_neg]
    rw [length_bytesLE]
    omega

/-! ## Lanes (R200) -/

theorem lane_eq_lane16 (v : Vec) (i : Nat) : lane v i = (lane16 v i).toNat := by
  rw [lane16, BitVec.extractLsb'_toNat, Nat.shiftRight_eq_div_pow]
  rfl

/-- A sum of digits to the base 2^w, below 2^(w n), whose digits are those it was made of. -/
theorem digit_sum_two_pow (w : Nat) {g : Nat → Nat} (hg : ∀ i, g i < 2 ^ w) (n : Nat) :
    ((List.range n).map (fun i => g i * 2 ^ (w * i))).sum < 2 ^ (w * n) ∧
    ∀ k < n, ((List.range n).map (fun i => g i * 2 ^ (w * i))).sum / 2 ^ (w * k) % 2 ^ w = g k := by
  induction n with
  | zero => simp
  | succ n ih =>
    obtain ⟨hlt, hdigits⟩ := ih
    rw [List.range_succ, List.map_append, List.sum_append]
    generalize ((List.range n).map (fun i => g i * 2 ^ (w * i))).sum = v at hlt hdigits
    simp only [List.map_cons, List.map_nil, List.sum_cons, List.sum_nil, Nat.add_zero]
    constructor
    · calc v + g n * 2 ^ (w * n) < 2 ^ (w * n) + g n * 2 ^ (w * n) := by omega
        _ = (g n + 1) * 2 ^ (w * n) := by ring
        _ ≤ 2 ^ w * 2 ^ (w * n) := Nat.mul_le_mul_right _ (hg n)
        _ = 2 ^ (w * (n + 1)) := by rw [← Nat.pow_add]; congr 1; ring
    · intro k hk
      obtain h | rfl := Nat.lt_succ_iff_lt_or_eq.1 hk
      · obtain ⟨c, rfl⟩ := Nat.exists_eq_add_of_lt h
        have hsplit : g (k + c + 1) * 2 ^ (w * (k + c + 1)) = 2 ^ (w * k) * (2 ^ w * (g (k + c + 1) * 2 ^ (w * c))) := by ring
        rw [hsplit, Nat.add_mul_div_left _ _ (by positivity), Nat.add_mul_mod_self_left]
        exact hdigits k h
      · rw [Nat.add_mul_div_right _ _ (by positivity), Nat.div_eq_of_lt hlt, Nat.zero_add]
        exact Nat.mod_eq_of_lt (hg k)

/-- A lane of a vector that is given as a number. -/
theorem lane16_ofNat (v : Nat) {i : Nat} (hi : i < 32) : lane16 (BitVec.ofNat 512 v) i = BitVec.ofNat 16 (v / 2 ^ (16 * i)) := by
  apply BitVec.eq_of_getLsbD_eq
  intro j hj
  have hlt : j + 16 * i < 512 := by omega
  simp only [lane16, BitVec.getLsbD_extractLsb', BitVec.getLsbD_ofNat, Nat.testBit_div_two_pow, decide_eq_true hj,
    decide_eq_true hlt, Bool.true_and, Nat.add_comm]

theorem lane16_ofLanes (f : Nat → Nat) {i : Nat} (hi : i < 32) : lane16 (ofLanes f) i = BitVec.ofNat 16 (f i) := by
  have hdigit := (digit_sum_two_pow 16 (g := fun i => f i % 65536) (fun i => Nat.mod_lt _ (by decide)) 32).2 i hi
  unfold ofLanes
  rw [lane16_ofNat _ hi]
  apply BitVec.eq_of_toNat_eq
  rw [BitVec.toNat_ofNat, BitVec.toNat_ofNat, hdigit]

/-! ## Vector and mask registers (R196) -/

theorem Spar.vec_setVec (x : Spar) (d : Nat) (v : Vec) (k : Nat) : (x.setVec d v).vec k = if k % 32 = d % 32 then v else x.vec k :=
  tblGet_set ..

theorem Spar.vec_setVec_self (x : Spar) (d : Nat) (v : Vec) : (x.setVec d v).vec d = v := by rw [Spar.vec_setVec, if_pos rfl]

theorem Spar.vec_setVec_ne (x : Spar) {d k : Nat} (v : Vec) (hd : d < 32) (hk : k < 32) (h : k ≠ d) :
    (x.setVec d v).vec k = x.vec k := by
  rw [Spar.vec_setVec, if_neg (by rw [Nat.mod_eq_of_lt hk, Nat.mod_eq_of_lt hd]; exact h)]

theorem Spar.setVec_only (x : Spar) (d : Nat) (v : Vec) : { x.setVec d v with vreg := x.vreg } = x := rfl

/-- Every lane is in m0 (R196). -/
theorem Spar.on_zero (x : Spar) {i : Nat} (hi : i < 32) : x.on 0 i = true := by
  have hall : ∀ i < 32, natBit 0xFFFFFFFF i = true := by decide
  exact hall i hi

/-- A vector result of which the lanes under the mask are written (R200). -/
theorem Spar.putLanes_lanes (x : Spar) {d : Nat} (mk : Nat) (f : Nat → Nat) (hd : d < 32) :
    x.Lanes (x.putLanes d mk f) d mk (fun i => BitVec.ofNat 16 (f i)) := by
  refine ⟨fun i hi => ?_, fun k hk hne => Spar.vec_setVec_ne _ _ hd hk hne, x.setVec_only ..⟩
  unfold Spar.putLanes
  rw [Spar.vec_setVec_self, lane16_ofLanes _ hi]
  split
  · rfl
  · rw [lane_eq_lane16, BitVec.ofNat_toNat, BitVec.setWidth_eq]

/-- A whole vector written under m0. -/
theorem Spar.setVec_lanes (x : Spar) {d : Nat} {v : Vec} {f : Nat → BitVec 16} (hd : d < 32) (hv : ∀ i < 32, lane16 v i = f i) :
    x.Lanes (x.setVec d v) d 0 f := by
  refine ⟨fun i hi => ?_, fun k hk hne => Spar.vec_setVec_ne _ _ hd hk hne, x.setVec_only ..⟩
  rw [Spar.vec_setVec_self, Spar.on_zero x hi, if_pos rfl, hv i hi]

/-- Of the lanes of a result only those under the mask count. -/
theorem Spar.Lanes.congr {x y : Spar} {d mk : Nat} {f g : Nat → BitVec 16} (h : x.Lanes y d mk f)
    (hfg : ∀ i < 32, x.on mk i → f i = g i) : x.Lanes y d mk g := by
  refine ⟨fun i hi => ?_, h.2.1, h.2.2⟩
  rw [h.1 i hi]
  split
  next hon => exact hfg i hi hon
  · rfl

end
end Sys2Proof.Machine

/-! # Loads, stores, branches, calls, loops and the ends of a tile (O41) -/

namespace Sys2Proof.Machine
section
set_option Elab.async false

@[simp] theorem Spar.pc_setVec (x : Spar) (d : Nat) (v : Vec) : (x.setVec d v).pc = x.pc := rfl
@[simp] theorem Spar.loops_setVec (x : Spar) (d : Nat) (v : Vec) : (x.setVec d v).loops = x.loops := rfl
@[simp] theorem Spar.pc_putLanes (x : Spar) (d mk : Nat) (f : Nat → Nat) : (x.putLanes d mk f).pc = x.pc := Spar.pc_setVec ..
@[simp] theorem Spar.loops_putLanes (x : Spar) (d mk : Nat) (f : Nat → Nat) : (x.putLanes d mk f).loops = x.loops :=
  Spar.loops_setVec ..

/-! ## Data memory (R197, R203, R206) -/

/-- A load that is aligned and lies in data memory. -/
theorem Spar.load_in {x : Spar} {a n : Nat} (consts : List Byte) (halign : a % n = 0) (hlt : a < 0x10000) :
    x.load consts a n = some (natLE ((List.range n).map fun i => x.byte consts (a + i))) := by
  unfold Spar.load
  rw [if_neg]
  simp [halign, hlt]

/-- A load that is misaligned or beyond data memory. -/
theorem Spar.load_out {x : Spar} {a n : Nat} (consts : List Byte) (h : a % n ≠ 0 ∨ 0x10000 ≤ a) : x.load consts a n = none := by
  unfold Spar.load
  rw [if_pos]
  simpa using h

theorem Spar.load_isNone_iff {x : Spar} {a n : Nat} {consts : List Byte} :
    (x.load consts a n).isNone ↔ a % n ≠ 0 ∨ 0x10000 ≤ a := by
  by_cases h : a % n ≠ 0 ∨ 0x10000 ≤ a
  · simp only [Spar.load_out consts h, h, Option.isNone_none]
  · push Not at h
    rw [Spar.load_in consts h.1 h.2]
    simp [h.1, h.2]

/-- The halfword at an address, as a load of two bytes reads it. -/
theorem Spar.ofNat_load_half (x : Spar) (consts : List Byte) (a : Nat) :
    BitVec.ofNat 16 (natLE ((List.range 2).map fun i => x.byte consts (a + i))) = x.byte consts (a + 1) ++ x.byte consts a :=
  ofNat_natLE_half ..

theorem Spar.ofNat_load_unsigned (x : Spar) (consts : List Byte) (a : Nat) :
    BitVec.ofNat 32 (natLE ((List.range 2).map fun i => x.byte consts (a + i))) =
      (x.byte consts (a + 1) ++ x.byte consts a).setWidth 32 := by
  apply BitVec.eq_of_toNat_eq
  rw [BitVec.toNat_setWidth, toNat_append_bytes, BitVec.toNat_ofNat]
  rfl

/-- The halfwords of a vector in memory lie in its lanes, the lowest address in lane 0. -/
theorem lane16_natLE (f : Nat → Byte) {i : Nat} (hi : i < 32) :
    lane16 (BitVec.ofNat 512 (natLE ((List.range 64).map f))) i = f (2 * i + 1) ++ f (2 * i) := by
  have hpow : 2 ^ (16 * i) = 256 ^ (2 * i) := by
    rw [show 256 = 2 ^ 8 from rfl, ← Nat.pow_mul]
    congr 1
    omega
  rw [lane16_ofNat _ hi, hpow, natLE_div, List.drop_eq_getElem_cons (by simp; omega), List.drop_eq_getElem_cons (by simp; omega),
    ofNat_natLE_half]
  simp

/-- A store that is aligned and lies in scratch memory. -/
theorem Spar.store_in {x : Spar} {a n : Nat} (v : Nat) (halign : a % n = 0) (hlo : 0x4000 ≤ a) (hhi : a < 0x10000) :
    x.store a n v = some { x with scratch := tblSetList 0 x.scratch a (bytesLE n v) } := by
  unfold Spar.store
  rw [if_neg]
  simp [halign, hlo, hhi]

/-- A store that is misaligned, beyond data memory or among the constants. -/
theorem Spar.store_out {x : Spar} {a n : Nat} (v : Nat) (h : a % n ≠ 0 ∨ a < 0x4000 ∨ 0x10000 ≤ a) : x.store a n v = none := by
  unfold Spar.store
  rw [if_pos]
  simp only [Bool.or_eq_true, decide_eq_true_eq]
  tauto

section
variable {s : State} {m : Fin 16} {e : Fin 66} {r : Run} {i : Instr}

theorem State.sparMem_then {f : Spar → List Byte → Option Spar} {y : Spar} (h : s.sparRuns m e r i)
    (hf : f r.spar (s.ms m).consts = some y) (hpc : y.pc = r.spar.pc) (hloops : y.loops = r.spar.loops) :
    s.sparThen (s.sparMem m e i f) m r y := State.sparTry_then (f := fun x => f x (s.ms m).consts) h hf hpc hloops

theorem State.sparMem_illegal {f : Spar → List Byte → Option Spar} (h : s.sparRuns m e r i) (hf : f r.spar (s.ms m).consts = none) :
    s.sparIllegal (s.sparMem m e i f) m e := State.sparTry_illegal (f := fun x => f x (s.ms m).consts) h hf

/-- A load writes what it reads to s[d] and leaves the flags, or is ILLEGAL. -/
theorem State.sparMem_load {d a n : Nat} {g : Nat → Word} {v : Word} (h : s.sparRuns m e r i)
    (hv : g (natLE ((List.range n).map fun k => r.spar.byte (s.ms m).consts (a + k))) = v)
    {f : Spar → List Byte → Option Spar} (hf : ∀ c, f r.spar c = (r.spar.load c a n).map fun w => r.spar.setS d (g w)) :
    (a % n = 0 ∧ a < 0x10000 → s.SparScalarTo m r d v r.spar.z r.spar.n r.spar.c r.spar.v (s.sparMem m e i f)) ∧
    (a % n ≠ 0 ∨ 0x10000 ≤ a → s.sparIllegal (s.sparMem m e i f) m e) := by
  constructor
  · intro ⟨halign, hlt⟩
    refine ⟨_, State.sparMem_then h ?_ (r.spar.pc_setS d v) (r.spar.loops_setS d v), r.spar.setS_result d v⟩
    rw [hf, Spar.load_in _ halign hlt, Option.map_some, hv]
  · intro hout
    refine State.sparMem_illegal h ?_
    rw [hf, Spar.load_out _ hout, Option.map_none]

/-- A store writes the bytes of `v` to scratch memory, and nothing else. -/
theorem State.sparTry_store {a n v : Nat} {f : Spar → Option Spar} (h : s.sparRuns m e r i) (hf : f r.spar = r.spar.store a n v) :
    (a % n = 0 ∧ 0x4000 ≤ a ∧ a < 0x10000 → ∃ y, s.sparThen (s.sparTry m e i f) m r y ∧ { y with scratch := r.spar.scratch } = r.spar ∧
      ∀ k, tblGet 0 y.scratch k = if a ≤ k ∧ k < a + n then BitVec.ofNat 8 (v / 2 ^ (8 * (k - a))) else tblGet 0 r.spar.scratch k) ∧
    (a % n ≠ 0 ∨ a < 0x4000 ∨ 0x10000 ≤ a → s.sparIllegal (s.sparTry m e i f) m e) := by
  constructor
  · intro ⟨halign, hlo, hhi⟩
    exact ⟨_, State.sparTry_then h (hf.trans (Spar.store_in v halign hlo hhi)) rfl rfl, rfl, fun _ => tblGet_setBytes ..⟩
  · exact fun hout => State.sparTry_illegal h (hf.trans (Spar.store_out v hout))

end

/-! ## COMMIT (R206, R212) -/

/-- A reserved destination, or a length other than 32 to 256 bytes in steps of 32, is ILLEGAL. -/
theorem commitRes_bad {a : Fin 32} {imm : BitVec 16} {r : Run} (h : ¬ (imm.toNat < 64 ∧ 32 ≤ (r.spar.s a).toNat ∧
    (r.spar.s a).toNat ≤ 256 ∧ (r.spar.s a).toNat % 32 = 0)) : commitRes a imm r = .illegal := by
  unfold commitRes
  refine if_pos ?_
  simp only [Bool.or_eq_true, decide_eq_true_eq]
  omega

theorem commitRes_ok {a : Fin 32} {imm : BitVec 16} {r : Run} (h : imm.toNat < 64 ∧ 32 ≤ (r.spar.s a).toNat ∧
    (r.spar.s a).toNat ≤ 256 ∧ (r.spar.s a).toNat % 32 = 0) :
    commitRes a imm r = .commit imm.toNat ((List.range (r.spar.s a).toNat).map (fun i => tblGet 0 r.spar.staging i)) := by
  unfold commitRes
  refine if_neg ?_
  simp only [Bool.or_eq_true, decide_eq_true_eq]
  omega

/-- Settles O41, instruction by instruction. -/
theorem sparMemoryAndControl : Obligations.SparMemoryAndControl := by
  unfold Obligations.SparMemoryAndControl
  refine ⟨?load, ?vectorLoad, ?store, ?lookup, ?branch, ?call, ?ret, ?loop, ?commit, ?abort⟩
  case load =>
    intro m e d a imm r s
    simp only [List.forall_mem_cons, List.not_mem_nil, false_imp_iff, implies_true, and_true]
    refine ⟨fun h => ⟨_, rfl, ?_⟩, fun h => ⟨_, rfl, ?_⟩, fun h => ⟨_, rfl, ?_⟩⟩
    · exact State.sparMem_load (g := BitVec.ofNat 32) h rfl fun _ => rfl
    · exact State.sparMem_load (g := fun w => (BitVec.ofNat 16 w).signExtend 32) h
        (congrArg _ (r.spar.ofNat_load_half ..)) fun _ => rfl
    · exact State.sparMem_load (g := BitVec.ofNat 32) h (r.spar.ofNat_load_unsigned ..) fun _ => rfl
  case vectorLoad =>
    intro m e d a imm r s
    simp only [List.forall_mem_cons, List.not_mem_nil, false_imp_iff, implies_true, and_true]
    refine fun h => ⟨_, rfl, fun ⟨halign, hlt⟩ => ?_, fun hout => ?_⟩
    · have hload := congrArg (Option.map fun v => r.spar.setVec d (BitVec.ofNat 512 v)) (r.spar.load_in (s.ms m).consts halign hlt)
      refine ⟨_, State.sparMem_then h hload (r.spar.pc_setVec ..) (r.spar.loops_setVec ..), ?_⟩
      exact r.spar.setVec_lanes d.isLt fun i hi => lane16_natLE _ hi
    · exact State.sparMem_illegal h (by rw [Spar.load_out _ hout, Option.map_none])
  case store =>
    intro m e d a imm r s
    simp only [List.forall_mem_cons, List.not_mem_nil, false_imp_iff, implies_true, and_true]
    exact ⟨fun h => ⟨_, rfl, State.sparTry_store h rfl⟩, fun h => ⟨_, rfl, State.sparTry_store h rfl⟩,
      fun h => ⟨_, rfl, State.sparTry_store h rfl⟩⟩
  case lookup =>
    intro m e d a b mk r s
    simp only [List.forall_mem_cons, List.not_mem_nil, false_imp_iff, implies_true, and_true]
    refine fun h => ⟨_, rfl, fun hin => ?_, fun ⟨i, hi, hon, hout⟩ => ?_⟩
    · refine ⟨_, State.sparMem_then h (if_neg ?_) (r.spar.pc_putLanes ..) (r.spar.loops_putLanes ..),
        (r.spar.putLanes_lanes mk _ d.isLt).congr fun i hi hon => ?_⟩
      · simp only [List.any_eq_true, List.mem_range, Bool.and_eq_true, Spar.load_isNone_iff, lane_eq_lane16]
        rintro ⟨i, hi, hon, hout⟩
        obtain ⟨halign, hlt⟩ := hin i hi hon
        omega
      · obtain ⟨halign, hlt⟩ := hin i hi hon
        beta_reduce
        rw [lane_eq_lane16, Spar.load_in _ halign hlt, Option.getD_some, Spar.ofNat_load_half]
    · refine State.sparMem_illegal h (if_pos ?_)
      simp only [List.any_eq_true, List.mem_range, Bool.and_eq_true, Spar.load_isNone_iff, lane_eq_lane16]
      exact ⟨i, hi, hon, hout⟩
  case branch =>
    intro m e cond ofs r s
    simp only [List.forall_mem_cons, List.not_mem_nil, false_imp_iff, implies_true, and_true]
    refine fun h => ⟨_, rfl, fun ⟨htaken, hin⟩ => ?_, fun ⟨htaken, hout⟩ => ?_, fun hnot => ?_, fun hreserved => ?_⟩
    · exact State.sparDo_goes h (by rw [htaken]) hin
    · exact State.sparDo_leaves h (by rw [htaken]) hout
    · exact State.sparDo_then h (by rw [hnot]) rfl rfl
    · exact State.sparDo_illegal h (by rw [hreserved])
  case call =>
    intro m e cond ofs r s
    simp only [List.forall_mem_cons, List.not_mem_nil, false_imp_iff, implies_true, and_true]
    have hloops (pc : Int) : (r.spar.setS 31 (BitVec.ofInt 32 (r.spar.pc + 4))).pcAt pc = r.spar.pcAt pc := by
      rw [Spar.pcAt, Spar.loops_setS, Spar.pcAt]
    refine fun h => ⟨_, rfl, fun ⟨hcond, hin⟩ => ?_, fun hout => ?_⟩
    · refine ⟨_, State.sparDo_goes h (if_neg (by simp [hcond])) (by rw [hloops]; exact hin), r.spar.setS_result ..⟩
    · by_cases hcond : cond = 0
      · refine State.sparDo_leaves h (if_neg (by simp [hcond])) ?_
        rw [hloops]
        exact hout.resolve_left (by simp [hcond])
      · exact State.sparDo_illegal h (if_pos hcond)
  case ret =>
    intro m e r s
    simp only [List.forall_mem_cons, List.not_mem_nil, false_imp_iff, implies_true, and_true]
    refine fun h => ⟨_, rfl, fun ⟨halign, hin⟩ => ?_, fun hout => ?_⟩
    · exact State.sparDo_goes h (if_neg (by simp [halign])) hin
    · by_cases halign : (r.spar.s 31).toNat % 4 = 0
      · exact State.sparDo_leaves h (if_neg (by simp [halign])) (hout.resolve_left (by simp [halign]))
      · exact State.sparDo_illegal h (if_pos halign)
  case loop =>
    intro m e a imm r s hlo hhi hnext
    simp only [List.forall_mem_cons, List.not_mem_nil, false_imp_iff, implies_true, and_true]
    have hbody : (decide (imm.toNat = 0) || decide (4095 < imm.toNat)) = false := by
      rw [decide_eq_false (by omega), decide_eq_false (by omega)]
      rfl
    have hzero : r.spar.s a = 0 ↔ (r.spar.s a).toNat = 0 := BitVec.toNat_inj (y := 0).symm
    refine fun h => ⟨_, rfl, fun ⟨hskip, hin⟩ => ?_, fun ⟨hcount, hroom⟩ => ?_, fun ⟨hcount, hfull⟩ => ?_⟩
    · refine State.sparDo_goes h ?_ hin
      simp only [hbody, hzero.2 hskip, Bool.false_eq_true, if_true, if_false]
    · refine State.sparDo_now h ?_ hnext
      simp only [hbody, hzero, hcount, Nat.not_le.2 hroom, Bool.false_eq_true, if_false]
    · refine State.sparDo_illegal h ?_
      simp only [hbody, hzero, hcount, hfull, Bool.false_eq_true, if_true, if_false]
  case commit =>
    intro m e a imm f r s hframe
    simp only [List.forall_mem_cons, List.not_mem_nil, false_imp_iff, implies_true, and_true, decide_eq_true_eq,
      decide_eq_false_iff_not]
    refine fun h => ⟨_, rfl, fun hok => ?_, fun hbad => ?_⟩
    · rw [State.sparDo_runs h, commitRes_ok hok]
      exact State.committed_ends _ _ (State.sparRuns_iff.1 h).1 hframe
    · exact State.sparDo_illegal h (commitRes_bad hbad)
  case abort =>
    intro m e r s
    simp only [List.forall_mem_cons, List.not_mem_nil, false_imp_iff, implies_true, and_true]
    intro h
    refine ⟨_, rfl, ?_⟩
    rw [State.sparDo_runs h]
    exact State.aborted_ends (State.sparRuns_iff.1 h).1

end
end Sys2Proof.Machine

/-! # Streams, staging, descriptor and analysis units of a spar (O43) -/

namespace Sys2Proof.Machine
section
set_option Elab.async false

/-! ## The input stream (R205, R211) -/

/-- What lane `i` of a stream read holds: 0 outside the frame and where a byte of it lies in a word of `ue`. -/
def streamLane (ue : List Nat) (src : Nat → Option LaneSrc) (val : Nat → Nat) (i : Nat) : Nat :=
  match src i with
  | some l => if l.1.any (fun a => ue.contains (a / 8)) then 0 else val i
  | none => 0

/-- The registers after a stream read that does not stall: `v` in v[d], `mask` in m7, and the stream moved on in a row of `row`;
`spoilt` says that a word in error was read. -/
def Spar.streamed (x : Spar) (d : Nat) (v : Vec) (mask : Word) (row : Nat) (isSrd spoilt : Bool) : Spar :=
  let y := ((x.setVec d v).setM 7 mask).streamStep row isSrd
  { y with shmUe := y.shmUe || spoilt }

theorem getLsbD_maskOf (p : Nat → Bool) {i : Nat} (hi : i < 32) : (maskOf p).getLsbD i = p i := by
  rw [maskOf, BitVec.getLsbD_ofNat, decide_eq_true hi, Bool.true_and]
  exact (testBit_sum_two_pow p 32).2 i hi

theorem mem_badWords {ue : List Nat} {src : Nat → Option LaneSrc} {i a : Nat} {l : LaneSrc} (hi : i < 32) (hsrc : src i = some l)
    (ha : a ∈ l.1) : a / 8 ∈ badWords ue src ↔ a / 8 ∈ ue := by
  unfold badWords
  rw [List.mem_filter, List.mem_eraseDups]
  refine and_iff_left (List.any_eq_true.2 ⟨i, List.mem_range.2 hi, ?_⟩)
  simp only [hsrc, List.any_eq_true, decide_eq_true_eq]
  exact ⟨a, ha, rfl⟩

/-- A lane is spoilt by the words in error that it reads, whichever others there are. -/
theorem streamLane_badWords (ue : List Nat) (src : Nat → Option LaneSrc) (val : Nat → Nat) {i : Nat} (hi : i < 32) :
    streamLane (badWords ue src) src val i = streamLane ue src val i := by
  unfold streamLane
  split
  next l hsrc =>
    have hany : l.1.any (fun a => (badWords ue src).contains (a / 8)) = l.1.any (fun a => ue.contains (a / 8)) := by
      rw [Bool.eq_iff_iff, List.any_eq_true, List.any_eq_true]
      refine exists_congr fun a => and_congr_right fun ha => ?_
      rw [List.contains_iff_mem, List.contains_iff_mem]
      exact mem_badWords hi hsrc ha
    rw [hany]
  · rfl

section
variable (x : Spar) (d : Nat) (v : Vec) (mask : Word) (row : Nat) (isSrd spoilt : Bool)

theorem Spar.pc_streamed : (x.streamed d v mask row isSrd spoilt).pc = x.pc := rfl

theorem Spar.loops_streamed : (x.streamed d v mask row isSrd spoilt).loops = x.loops := rfl

theorem Spar.vec_streamed : (x.streamed d v mask row isSrd spoilt).vec d = v := x.vec_setVec_self d v

theorem Spar.m7_streamed : (x.streamed d v mask row isSrd spoilt).m 7 = mask := tblGet_set_self (d := 0) x.mask 7 mask

theorem Spar.place_streamed : ((x.streamed d v mask row isSrd spoilt).col, (x.streamed d v mask row isSrd spoilt).line) =
    if row ≤ x.col + 32 then (0, x.line + 1) else (x.col + 32, x.line) := by
  unfold Spar.streamed Spar.streamStep
  by_cases h : row ≤ x.col + 32 <;> simp [h, Spar.setM, Spar.setVec]

theorem Spar.lend_streamed : (x.streamed d v mask row isSrd spoilt).lend = if isSrd then decide (row ≤ x.col + 32) else x.lend := rfl

theorem Spar.shmUe_streamed : (x.streamed d v mask row isSrd spoilt).shmUe = (x.shmUe || spoilt) := rfl

theorem Spar.s_streamed (k : Nat) : (x.streamed d v mask row isSrd spoilt).s k = x.s k := rfl

end

/-- A stream read whose bytes have all arrived does not stall. -/
theorem Spar.streamRead_ready (x : Spar) (d : Nat) (ue : List Nat) {src : Nat → Option LaneSrc} (val : Nat → Nat) (inside : Nat → Bool)
    (row : Nat) (isSrd : Bool) (hready : ∀ i l, src i = some l → l.2 = true) :
    x.streamRead d ue src val inside row isSrd =
      .nextUe ((x.streamed d (ofLanes (streamLane (badWords ue src) src val)) (maskOf inside) row isSrd (!(badWords ue src).isEmpty)).goto
        (x.pc + 4)) (badWords ue src).length := by
  rw [← x.pc_streamed d (ofLanes (streamLane (badWords ue src) src val)) (maskOf inside) row isSrd (!(badWords ue src).isEmpty)]
  unfold Spar.streamRead
  refine if_neg ?_
  simp only [List.any_eq_true, List.mem_range, not_exists, not_and]
  intro i _
  split
  next l hsrc => simp [hready i l hsrc]
  · simp

/-- An instruction that counts `n` words in error and is followed by the next one, with the registers of `y`. -/
theorem State.sparDo_nextUe {s : State} {m : Fin 16} {e : Fin 66} {r : Run} {i : Instr} {f : Run → SparRes} {y : Spar} {n : Nat}
    (h : s.sparRuns m e r i) (hf : f r = .nextUe (y.goto (r.spar.pc + 4)) n)
    (hloops : y.loops = r.spar.loops) : (s.bumpBy .MST_CNT_SHM_UE n m).sparThen (s.sparDo m e i f) m r y := by
  obtain ⟨-, -, hin⟩ := State.sparRuns_iff.1 h
  rw [State.sparDo_runs h, hf]
  refine State.sparNext_now _ m r ?_
  show inProgram (y.pcAt (r.spar.pc + 4))
  rw [Spar.pcAt, hloops]
  exact hin

/-- What a stream read that does not stall does to run `r`: `lanes` in v[d], `inside` in m7, the stream moved on in a row of `row`, and
the words in error of `ue` that it read counted. -/
def State.streamTo (s : State) (m : Nat) (r : Run) (d : Nat) (ue : List Nat) (lanes : Nat → Nat) (inside : Nat → Bool) (row : Nat)
    (isSrd : Bool) (t : State) : Prop :=
  ∃ y n, (s.bumpBy .MST_CNT_SHM_UE n m).sparThen t m r y ∧
    (∀ i < 32, lane16 (y.vec d) i = BitVec.ofNat 16 (lanes i)) ∧
    (∀ i < 32, (y.m 7).getLsbD i = inside i) ∧
    (y.col, y.line) = (if row ≤ r.spar.col + 32 then (0, r.spar.line + 1) else (r.spar.col + 32, r.spar.line)) ∧
    y.lend = (if isSrd then decide (row ≤ r.spar.col + 32) else r.spar.lend) ∧
    (ue = [] → n = 0) ∧ y.shmUe = (r.spar.shmUe || n != 0) ∧ ∀ k, y.s k = r.spar.s k

theorem State.sparDo_streamRead {s : State} {m : Fin 16} {e : Fin 66} {r : Run} {i : Instr} {f : Run → SparRes} {d : Nat} {ue : List Nat}
    {src : Nat → Option LaneSrc} {val : Nat → Nat} {inside : Nat → Bool} {row : Nat} {isSrd : Bool} (h : s.sparRuns m e r i)
    (hf : f r = r.spar.streamRead d ue src val inside row isSrd) (hready : ∀ i l, src i = some l → l.2 = true) :
    s.streamTo m r d ue (streamLane ue src val) inside row isSrd (s.sparDo m e i f) := by
  refine ⟨r.spar.streamed d (ofLanes (streamLane (badWords ue src) src val)) (maskOf inside) row isSrd (!(badWords ue src).isEmpty),
    (badWords ue src).length, ?_, fun i hi => ?_, fun i hi => ?_, Spar.place_streamed .., Spar.lend_streamed .., ?_, ?_,
    fun _ => Spar.s_streamed ..⟩
  · exact State.sparDo_nextUe h (hf.trans (Spar.streamRead_ready _ _ _ _ _ _ _ hready)) (Spar.loops_streamed ..)
  · rw [Spar.vec_streamed, lane16_ofLanes _ hi, streamLane_badWords _ _ _ hi]
  · rw [Spar.m7_streamed, getLsbD_maskOf _ hi]
  · rintro rfl
    rfl
  · rw [Spar.shmUe_streamed]
    cases badWords ue src <;> rfl

/-- In a frame that has closed every byte has arrived. -/
theorem State.pixLane_ready {s : State} {m : Nat} {f : MFrame} {t : Tile} {col line : Nat} {l : LaneSrc} (hclosed : f.closed)
    (h : s.pixLane m f t col line = some l) : l.2 = true := by
  unfold State.pixLane at h
  rw [Option.map_eq_some_iff] at h
  obtain ⟨p, -, rfl⟩ := h
  simp [hclosed]

theorem State.rawLane_ready {s : State} {m : Nat} {f : MFrame} {t : Tile} {line h : Nat} {l : LaneSrc} (hclosed : f.closed)
    (hl : s.rawLane m f t line h = some l) : l.2 = true := by
  unfold State.rawLane at hl
  split at hl
  · split at hl
    · cases hl
      rfl
    · cases hl
  · split at hl
    · cases hl
    · dsimp only at hl
      split at hl
      · cases hl
      · cases hl
        simp [hclosed]

/-- The pixel that lane `i` of SRD reads; none outside the frame. -/
def State.srdLane (s : State) (m : Nat) (f : MFrame) (r : Run) (i : Nat) : Option LaneSrc :=
  if r.spar.col + i < (f.streamDims r.tile).1 ∧ r.spar.line < (f.streamDims r.tile).2
    then s.pixLane m f r.tile (r.spar.col + i) r.spar.line else none

theorem State.srdLane_ready {s : State} {m : Nat} {f : MFrame} {r : Run} {i : Nat} {l : LaneSrc} (hclosed : f.closed)
    (h : s.srdLane m f r i = some l) : l.2 = true := by
  unfold State.srdLane at h
  split at h
  · exact State.pixLane_ready hclosed h
  · cases h

/-- SRD of a frame, in a tile that is no reduce tile. -/
theorem State.srd_frame (s : State) {m : Nat} {f : MFrame} {r : Run} (d : Nat) (ue : List Nat) (hred : r.tile.reduce = false)
    (hframe : (s.ms m).findFrame r.tile.stream r.tile.frame = some f) :
    s.srd m r d ue = r.spar.streamRead d ue (s.srdLane m f r)
      (fun i => ((f.pixelAt r.tile (r.spar.col + i) r.spar.line).map (s.pixel m f)).getD 0)
      (fun i => decide (r.spar.col + i < (f.streamDims r.tile).1 ∧ r.spar.line < (f.streamDims r.tile).2))
      (f.streamDims r.tile).1 true := by
  have hlane : s.srdLane m f r = fun i =>
      if r.spar.col + i < (f.streamDims r.tile).1 ∧ r.spar.line < (f.streamDims r.tile).2
        then s.pixLane m f r.tile (r.spar.col + i) r.spar.line else none := rfl
  unfold State.srd
  simp only [hred, hframe, hlane, Bool.false_eq_true, if_false, Bool.and_eq_true, decide_eq_true_eq, Bool.decide_and]

/-- What lane `i` of SRDR holds: the bytes of its halfword, 0 beyond the row and where one lies in a word of `ue`. -/
def State.rawValue (s : State) (m : Nat) (f : MFrame) (r : Run) (ue : List Nat) (i : Nat) : Nat :=
  match s.rawLane m f r.tile r.spar.line (r.spar.col + i) with
  | some l => if l.1.any (fun a => ue.contains (a / 8)) then 0 else natLE (l.1.map (tblGet 0 (s.ms m).shm))
  | none => 0

theorem State.sparDo_rawRead {s : State} {m : Fin 16} {e : Fin 66} {r : Run} {i : Instr} {g : Run → SparRes} {d : Nat} {ue : List Nat}
    {f : MFrame} {isSrd : Bool} (h : s.sparRuns m e r i) (hg : g r = s.srdr m r d ue isSrd)
    (hframe : (s.ms m).findFrame r.tile.stream r.tile.frame = some f) (hclosed : f.closed) :
    s.streamTo m r d ue (s.rawValue m f r ue) (fun i => (s.rawLane m f r.tile r.spar.line (r.spar.col + i)).isSome)
      (f.rawRow r.tile r.spar.line) isSrd (s.sparDo m e i g) := by
  unfold State.srdr at hg
  rw [hframe] at hg
  have hread := State.sparDo_streamRead h hg fun i l => State.rawLane_ready hclosed
  refine (congrArg (fun v => s.streamTo m r d ue v _ _ _ _) (funext fun i => ?_)).mp hread
  unfold streamLane State.rawValue
  beta_reduce
  cases s.rawLane m f r.tile r.spar.line (r.spar.col + i) <;> rfl

/-! ## Staging (R206) -/

/-- A vector or a word is staged where its alignment and range allow, and nothing else changes. -/
theorem State.sparTry_stage {s : State} {m : Fin 16} {e : Fin 66} {r : Run} {i : Instr} {k n top v : Nat} {f : Spar → Option Spar}
    (h : s.sparRuns m e r i) (hf : f r.spar = if k % n ≠ 0 || top < k then none
      else some { r.spar with staging := tblSetList 0 r.spar.staging k (bytesLE n v) }) :
    (k % n = 0 ∧ k ≤ top → ∃ y, s.sparThen (s.sparTry m e i f) m r y ∧ { y with staging := r.spar.staging } = r.spar ∧
      ∀ j, tblGet 0 y.staging j = if k ≤ j ∧ j < k + n then BitVec.ofNat 8 (v / 2 ^ (8 * (j - k))) else tblGet 0 r.spar.staging j) ∧
    (k % n ≠ 0 ∨ top < k → s.sparIllegal (s.sparTry m e i f) m e) := by
  constructor
  · intro ⟨halign, htop⟩
    rw [if_neg (by simp [halign, htop])] at hf
    exact ⟨_, State.sparTry_then h hf rfl rfl, rfl, fun _ => tblGet_setBytes ..⟩
  · intro hbad
    rw [if_pos (by simpa using hbad)] at hf
    exact State.sparTry_illegal h hf

/-! ## The histogram (R207) -/

/-- A bin after `l` has been counted into the histogram: it saturates. -/
theorem tblGet_hist_foldl (l : List Nat) (bin : Nat → Nat) (t : Tbl (BitVec 32)) (k : Nat) :
    (tblGet 0 (l.foldl (fun h v => tblSet 0 h (bin v) (BitVec.ofNat 32 (min ((tblGet 0 h (bin v)).toNat + 1) 0xFFFFFFFF))) t) k).toNat =
      min (2 ^ 32 - 1) ((tblGet 0 t k).toNat + (l.filter (fun v => bin v == k)).length) := by
  induction l generalizing t with
  | nil =>
    have := (tblGet 0 t k).isLt
    simp only [List.foldl_nil, List.filter_nil, List.length_nil]
    omega
  | cons v l ih =>
    rw [List.foldl_cons, ih, tblGet_set]
    by_cases hk : bin v = k
    · rw [if_pos hk.symm, List.filter_cons_of_pos (by simp [hk]), List.length_cons, BitVec.toNat_ofNat, hk]
      omega
    · rw [if_neg (Ne.symm hk), List.filter_cons_of_neg (by simp [hk])]

/-- A lane has 16 bits, so that a longer shift gives nothing more. -/
theorem lane_shiftRight_min (v : Vec) (i n : Nat) : lane v i >>> min n 16 = (lane16 v i).toNat >>> n := by
  have hlt : (lane16 v i).toNat < 2 ^ 16 := (lane16 v i).isLt
  rw [lane_eq_lane16]
  obtain h | h := Nat.le_total n 16
  · rw [Nat.min_eq_left h]
  · rw [Nat.min_eq_right h, Nat.shiftRight_eq_div_pow, Nat.shiftRight_eq_div_pow, Nat.div_eq_of_lt hlt,
      Nat.div_eq_of_lt (hlt.trans_le (Nat.pow_le_pow_right (by decide) h))]

/-! ## Pairs (R200) -/

theorem append_ofNat_halves (v : Nat) : BitVec.ofNat 16 (v / 65536) ++ BitVec.ofNat 16 v = BitVec.ofNat 32 v := by
  apply BitVec.eq_of_toNat_eq
  rw [BitVec.toNat_append, ← Nat.shiftLeft_add_eq_or_of_lt (BitVec.isLt _), Nat.shiftLeft_eq, BitVec.toNat_ofNat, BitVec.toNat_ofNat,
    BitVec.toNat_ofNat]
  omega

/-- Lanes written to the low and then to the high register of a pair (R200). -/
theorem Spar.Lanes.pairs {x y z : Spar} {d mk : Nat} {f g : Nat → BitVec 16} (hlow : x.Lanes y d mk f) (hhigh : y.Lanes z (d + 1) mk g)
    (hd : d + 1 < 32) : x.Pairs z d mk fun i => g i ++ f i := by
  obtain ⟨hd0, hrest, hxy⟩ := hlow
  obtain ⟨hd1, hrest1, hyz⟩ := hhigh
  have hmask : y.mask = x.mask := by rw [← hxy]
  have hon (i : Nat) : y.on mk i = x.on mk i := by rw [Spar.on, Spar.m, hmask, Spar.on, Spar.m]
  refine ⟨fun i hi => ?_, fun k hk hne hne1 => (hrest1 k hk hne1).trans (hrest k hk hne), ?_⟩
  · rw [Spar.pair32, Spar.pair32, hd1 i hi, hrest1 d (by omega) (by omega), hd0 i hi, hrest (d + 1) hd (by omega), hon]
    split <;> rfl
  · calc { z with vreg := x.vreg } = { { z with vreg := y.vreg } with vreg := x.vreg } := rfl
      _ = { y with vreg := x.vreg } := by rw [hyz]
      _ = x := hxy

/-- A result in a pair of vector registers, whose lanes under the mask are written (R200). -/
theorem Spar.putPair_pairs (x : Spar) {d : Nat} (mk : Nat) (f : Nat → Nat) (hd : d + 1 < 32) :
    x.Pairs (x.putPair d mk f) d mk (fun i => BitVec.ofNat 32 (f i)) := by
  have h := (x.putLanes_lanes mk f (by omega)).pairs ((x.putLanes d mk f).putLanes_lanes mk (fun i => f i / 65536) hd) hd
  simp only [append_ofNat_halves] at h
  exact h

@[simp] theorem Spar.pc_putPair (x : Spar) (d mk : Nat) (f : Nat → Nat) : (x.putPair d mk f).pc = x.pc := by
  rw [Spar.putPair, Spar.pc_putLanes, Spar.pc_putLanes]
@[simp] theorem Spar.loops_putPair (x : Spar) (d mk : Nat) (f : Nat → Nat) : (x.putPair d mk f).loops = x.loops := by
  rw [Spar.putPair, Spar.loops_putLanes, Spar.loops_putLanes]

/-! ## The moment unit (R209) -/

/-- The lanes `l` given to the moment unit, lane `i` with the weight `w i` over the offset, at `(px i, py)`. -/
theorem Moments.foldl_add (w px : Nat → Nat) (py : Nat) (l : List Nat) (q : Moments) (hsums : q.sums ≠ []) :
    (l.foldl (fun q i => q.add (w i - q.offset) (px i) py) q).offset = q.offset ∧
    (l.foldl (fun q i => q.add (w i - q.offset) (px i) py) q).count % 2 ^ 32 =
      (q.count + (l.filter fun i => decide (0 < w i - q.offset)).length) % 2 ^ 32 ∧
    (l.foldl (fun q i => q.add (w i - q.offset) (px i) py) q).sums.getD 0 0 % 2 ^ 64 =
      (q.sums.getD 0 0 + (l.map fun i => w i - q.offset).sum) % 2 ^ 64 := by
  induction l generalizing q with
  | nil => simp
  | cons i l ih =>
    obtain ⟨a, as, hcons⟩ := List.exists_cons_of_ne_nil hsums
    have hsums' : (q.add (w i - q.offset) (px i) py).sums ≠ [] := by simp [Moments.add, hcons]
    obtain ⟨hoffset, hcount, hsum⟩ := ih (q.add (w i - q.offset) (px i) py) hsums'
    rw [List.foldl_cons]
    refine ⟨hoffset, hcount.trans ?_, hsum.trans ?_⟩
    · rw [List.filter_cons]
      by_cases hpos : 0 < w i - q.offset
      · simp [Moments.add, b2n, hpos]
        omega
      · simp [Moments.add, b2n, hpos]
    · simp [Moments.add, hcons, Nat.add_assoc]

/-- Settles O43, instruction by instruction. -/
theorem sparStreamsAndUnits : Obligations.SparStreamsAndUnits := by
  unfold Obligations.SparStreamsAndUnits
  refine ⟨?srd, ?srdr, ?seek, ?stage, ?descriptor, ?histogram, ?bins, ?label, ?unordered, ?readUnit, ?offset, ?moments⟩
  case srd =>
    intro m e d f ue r s hred hframe hclosed h
    obtain ⟨y, n, hthen, hlanes, hmask, hplace, hlend, hrest⟩ := State.sparDo_streamRead (f := fun r => s.srd m r d ue) h
      (s.srd_frame d ue hred hframe) fun i l => State.srdLane_ready hclosed
    refine ⟨_, rfl, y, n, hthen, hlanes, hmask, ?_, hrest⟩
    show ((y.col, y.line).1, (y.col, y.line).2, y.lend) = _
    rw [hplace, hlend]
    by_cases hrow : (f.streamDims r.tile).1 ≤ r.spar.col + 32 <;> simp [hrow]
  case srdr =>
    intro m e d f ue r s hframe hclosed
    simp only [List.forall_mem_cons, List.not_mem_nil, false_imp_iff, implies_true, and_true, forall_const]
    refine ⟨fun _ h => ⟨_, rfl, ?_⟩, fun hred h => ⟨_, rfl, ?_⟩⟩
    · exact State.sparDo_rawRead h rfl hframe hclosed
    · exact State.sparDo_rawRead (g := fun r => s.srd m r d ue) h (if_pos hred) hframe hclosed
  case seek =>
    intro m e a b r s
    simp only [List.forall_mem_cons, List.not_mem_nil, false_imp_iff, implies_true, and_true]
    exact fun h => ⟨_, rfl, State.sparAlu_then h rfl rfl rfl⟩
  case stage =>
    intro m e a b r s
    simp only [List.forall_mem_cons, List.not_mem_nil, false_imp_iff, implies_true, and_true]
    exact ⟨fun h => ⟨_, rfl, State.sparTry_stage h rfl⟩, fun h => ⟨_, rfl, State.sparTry_stage h rfl⟩⟩
  case descriptor =>
    intro m e d a r s
    simp only [List.forall_mem_cons, List.not_mem_nil, false_imp_iff, implies_true, and_true]
    refine fun h => ⟨_, rfl, fun w hw => ?_, fun hnone => ?_⟩
    · exact ⟨_, State.sparDo_then h (by rw [hw]) (r.spar.pc_setS ..) (r.spar.loops_setS ..), r.spar.setS_result d w⟩
    · rw [State.sparDo_runs h, hnone]
      rfl
  case histogram =>
    intro m e a b mk r s
    simp only [List.forall_mem_cons, List.not_mem_nil, false_imp_iff, implies_true, and_true]
    refine fun h => ⟨_, rfl, _, State.sparAlu_then h rfl rfl rfl, rfl, fun k => ?_⟩
    refine (tblGet_hist_foldl _ (fun v => min (v >>> min (r.spar.s b).toNat 16) 1023) r.spar.hist k).trans ?_
    rw [Spar.lanesOn, List.filter_map, List.length_map, List.filter_filter]
    simp only [Function.comp_def, lane_shiftRight_min, Bool.and_comm]
  case bins =>
    intro m e d a r s
    simp only [List.forall_mem_cons, List.not_mem_nil, false_imp_iff, implies_true, and_true]
    refine fun h => ⟨_, rfl, fun hodd => State.sparTry_illegal h (if_pos hodd), fun heven => ?_⟩
    have hd := d.isLt
    refine ⟨_, State.sparTry_then h (if_neg (by omega)) (r.spar.pc_putPair ..) (r.spar.loops_putPair ..), ?_⟩
    have hpairs := r.spar.putPair_pairs 0
      (fun i => if (r.spar.s a).toNat + i < 1024 then (tblGet 0 r.spar.hist ((r.spar.s a).toNat + i)).toNat else 0)
      (show d.val + 1 < 32 by omega)
    simp only [apply_ite (BitVec.ofNat 32), BitVec.ofNat_toNat, BitVec.setWidth_eq] at hpairs
    exact hpairs
  case label =>
    intro m e a b mk r s hasc
    simp only [List.forall_mem_cons, List.not_mem_nil, false_imp_iff, implies_true, and_true]
    refine ⟨fun h => ⟨_, rfl, State.sparAlu_then h ?_ rfl rfl⟩, fun h => ⟨_, rfl, State.sparTry_then h ?_ rfl rfl⟩,
      fun h => ⟨_, rfl, State.sparAlu_then h rfl rfl rfl⟩⟩
    · rw [natBit_eq_testBit, BitVec.testBit_toNat]
    · simp only [lane_eq_lane16]
      refine if_pos ?_
      split
      next k hseg => exact decide_eq_true (hasc k hseg)
      · rfl
  case unordered =>
    intro m e a b mk k r s hseg hle
    simp only [List.forall_mem_cons, List.not_mem_nil, false_imp_iff, implies_true, and_true]
    refine fun h => ⟨_, rfl, State.sparTry_illegal h (if_neg ?_)⟩
    simp [hseg, hle]
  case readUnit =>
    intro m e d a b r s
    simp only [List.forall_mem_cons, List.not_mem_nil, false_imp_iff, implies_true, and_true]
    exact ⟨fun h => ⟨_, rfl, State.sparAlu_setS h rfl⟩, fun h => ⟨_, rfl, State.sparAlu_setS h rfl⟩⟩
  case offset =>
    intro m e a r s
    simp only [List.forall_mem_cons, List.not_mem_nil, false_imp_iff, implies_true, and_true]
    exact fun h => ⟨_, rfl, State.sparAlu_then h rfl rfl rfl⟩
  case moments =>
    intro m e a b mk r s hsums
    simp only [List.forall_mem_cons, List.not_mem_nil, false_imp_iff, implies_true, and_true]
    obtain ⟨hoffset, hcount, hsum⟩ := Moments.foldl_add (lane (r.spar.vec a)) (fun i => (r.spar.s b).toNat % 65536 + i)
      ((r.spar.s b).toNat / 65536) ((List.range 32).filter (r.spar.on mk)) r.spar.mom hsums
    refine fun h => ⟨_, rfl, _, State.sparAlu_then h rfl rfl rfl, rfl, hoffset, ?_, ?_⟩
    · simpa only [List.filter_filter, lane_eq_lane16, Bool.and_comm (decide _)] using hcount
    · simpa only [lane_eq_lane16] using hsum

end
end Sys2Proof.Machine

/-! # What the sheet commands leave alone; what an operation of a sheet unit leaves of its intake (O13, O44) -/

namespace Sys2Proof.Machine
section
set_option Elab.async false

/-- Settles O13, by the frame of each of its commands. -/
theorem sheetsFrame : Obligations.SheetsFrame := by
  unfold Obligations.SheetsFrame
  exact fun c s hch => sheets_framed hch s

/-! ## The intake of a sheet unit -/

/-- From `s` to `t` sheet unit `n` keeps its queue, whether any next record is newer, the misses since its last valid record, its
miss timer and whether a tuning run is active (R235, R236, R254, R260). -/
structure KeepsIntake (n : Nat) (s t : State) : Prop where
  queue : (t.sh n).queue = (s.sh n).queue
  fresh : (t.sh n).fresh = (s.sh n).fresh
  missed : (t.sh n).missed = (s.sh n).missed
  missAt : (t.sh n).missAt = (s.sh n).missAt
  active : t.flag F.SHT_STATUS_ACTIVE n = s.flag F.SHT_STATUS_ACTIVE n

section
variable {n : Nat} {s t u : State}

theorem KeepsIntake.refl (n : Nat) (s : State) : KeepsIntake n s s := ⟨rfl, rfl, rfl, rfl, rfl⟩

theorem KeepsIntake.trans (h : KeepsIntake n s t) (k : KeepsIntake n t u) : KeepsIntake n s u :=
  ⟨k.queue.trans h.queue, k.fresh.trans h.fresh, k.missed.trans h.missed, k.missAt.trans h.missAt, k.active.trans h.active⟩

theorem KeepsIntake.ite {c : Prop} [Decidable c] (ht : KeepsIntake n s t) (hu : KeepsIntake n s u) :
    KeepsIntake n s (if c then t else u) := by
  split <;> assumption

/-- An operation on no sheet unit and not on SHT_STATUS keeps every intake. -/
theorem Changes.keepsIntake {P : List Part} {R : List Reg} (h : Changes P R s t) (n : Nat) (hp : Part.sht ∉ P := by decide)
    (hr : Reg.SHT_STATUS ∉ R := by decide) : KeepsIntake n s t := by
  have hsh := h.sh hp n
  exact ⟨by rw [hsh], by rw [hsh], by rw [hsh], by rw [hsh], by rw [State.flag, h.fld hr, State.flag]⟩

end

/-- An update of unit `n` that gives it the same intake keeps it. -/
theorem State.keepsIntake_setSh (s : State) (n : Nat) {x : Sht} (hqueue : x.queue = (s.sh n).queue := by rfl)
    (hfresh : x.fresh = (s.sh n).fresh := by rfl) (hmissed : x.missed = (s.sh n).missed := by rfl)
    (hmissAt : x.missAt = (s.sh n).missAt := by rfl) : KeepsIntake n s (s.setSh n x) := by
  constructor <;> simp only [State.sh_setSh, State.flag, State.fld_setSh, *]

theorem State.keepsIntake_setFld (s : State) (n : Nat) {f : Fld} (v i : Nat) (h : F.SHT_STATUS_ACTIVE.besides f := by decide) :
    KeepsIntake n s (s.setFld f v i) :=
  ⟨rfl, rfl, rfl, rfl, congrArg (· != 0) ((s.keepsFld_setFld v i 0 h).fld n 0)⟩

/-! ## Logs, output and changes of state keep it (R240, R242, R253, R257) -/

theorem State.keepsIntake_shUnit (s : State) (n source : Nat) (body : List Byte) : KeepsIntake n s (s.shUnit n source body) := by
  unfold State.shUnit
  exact .ite (s.keepsIntake_setSh n) ((s.bump_frame ..).keepsIntake n)

theorem State.keepsIntake_shLog (s : State) (n : Nat) (x : Sample) (apply : Option Nat) : KeepsIntake n s (s.shLog n x apply) := by
  unfold State.shLog
  extract_lets d s1 s2 s3 y tune s4
  have hdelay : KeepsIntake n s s1 := .ite ((s.shDelaySeen_changes n d).keepsIntake n) (.refl n s)
  have hunit : KeepsIntake n s s2 := hdelay.trans (s1.keepsIntake_shUnit ..)
  have hcapture : KeepsIntake n s s3 := hunit.trans (s2.keepsIntake_shUnit ..)
  have hcount : KeepsIntake n s s4 := hcapture.trans (s3.keepsIntake_setSh n)
  exact .ite hunit (.ite hcapture (.ite (hcount.trans (s4.keepsIntake_setFld ..)) hcount))

theorem State.keepsIntake_shSupersede (s : State) (n : Nat) : KeepsIntake n s (s.shSupersede n) := by
  unfold State.shSupersede
  split
  · exact .refl n s
  · exact ((s.keepsIntake_setSh n).trans ((State.bump_frame ..).keepsIntake n)).trans (State.keepsIntake_shLog ..)

theorem State.keepsIntake_shOut (s : State) (n : Nat) (o : Int) : KeepsIntake n s (s.shOut n o) :=
  (s.keepsIntake_setSh n).trans ((State.wr_frame ..).keepsIntake n)

theorem State.keepsIntake_shForward (s : State) (n : Nat) : KeepsIntake n s (s.shForward n) := by
  unfold State.shForward
  exact .ite (.ite (.refl n s) ((s.keepsIntake_shSupersede n).trans (State.keepsIntake_shOut ..))) (.refl n s)

theorem State.keepsIntake_shTransition (s : State) (n : Nat) : KeepsIntake n s (s.shTransition n) := by
  unfold State.shTransition
  exact s.keepsIntake_shLog ..

/-- A change to a state other than OFF and OPEN keeps the intake. -/
theorem State.keepsIntake_shGoto (s : State) (n : Nat) {st : Nat} (hoff : st ≠ shtOff) (hopen : st ≠ shtOpen) :
    KeepsIntake n s (s.shGoto n st) := by
  unfold State.shGoto
  extract_lets old s1 offTune offUnit offOut opened seqs src fallback fallen s2
  have hstate : KeepsIntake n s s1 := s.keepsIntake_setFld ..
  have hfall : KeepsIntake n s fallen := ((hstate.trans (s1.keepsIntake_setSh n)).trans
    ((State.bump_frame ..).keepsIntake n)).trans (State.keepsIntake_setFld ..)
  have hkept : KeepsIntake n s s2 := by
    unfold s2
    rw [if_neg hoff, if_neg hopen]
    exact .ite (hstate.trans (s1.keepsIntake_setSh n)) (.ite (hstate.trans (s1.keepsIntake_setSh n))
      (.ite ((hfall.trans ((State.publish_changes ..).keepsIntake n)).trans (State.keepsIntake_shForward ..)) hstate))
  exact .ite (.refl n s) (hkept.trans (State.keepsIntake_shTransition ..))

end
end Sys2Proof.Machine

/-! # Records, missed samples and tuning runs of a sheet unit (O44) -/

namespace Sys2Proof.Machine
section
set_option Elab.async false

/-! ## Records in (R235, R237) -/

/-- A record on the link of R34 goes through the checks. -/
theorem exec_sheetRecord_runs {n : Fin 12} {s : State} (mast : Fin 16) (stream : Fin 8) (rec : List Byte) (h : s.beamRuns n) :
    exec (.sheetRecord n mast stream rec false) s = .next (s.sheetRecord n mast stream rec) := by
  simp only [State.beamRuns, Bool.and_eq_true] at h
  obtain ⟨hbeam, hready⟩ := h
  show execSheetRecord n mast stream rec false s = _
  simp [execSheetRecord, hbeam, hready]

section
variable {s : State} {n mast stream : Nat} {rec : List Byte}

/-- A record of another length or whose CRC fails counts as bad (R235 check 1). -/
theorem State.sheetRecord_badCheck (h : rec.length ≠ 32 ∨ crc16 (rec.take 30) ≠ fieldLE rec 30 2) :
    s.sheetRecord n mast stream rec = s.bump .SHT_CNT_BAD_CHECK n :=
  if_pos (by simpa using h)

/-- One from a stream that the unit does not follow counts as foreign (R235 check 2). -/
theorem State.sheetRecord_foreign (hcheck : rec.length = 32 ∧ crc16 (rec.take 30) = fieldLE rec 30 2)
    (h : mast ≠ s.fld F.SHT_CFG_SRC_MAST n ∨ stream ≠ s.fld F.SHT_CFG_SRC_STREAM n) :
    s.sheetRecord n mast stream rec = s.bump .SHT_CNT_FOREIGN n := by
  obtain ⟨hlen, hcrc⟩ := hcheck
  obtain h | h := h <;> simp [State.sheetRecord, hlen, hcrc, h]

/-- One that agrees in all of them enters the queue of 4 where it has room, and else counts (R237). -/
theorem State.sheetRecord_taken (hcheck : rec.length = 32 ∧ crc16 (rec.take 30) = fieldLE rec 30 2)
    (hsource : mast = s.fld F.SHT_CFG_SRC_MAST n ∧ stream = s.fld F.SHT_CFG_SRC_STREAM n ∧ fieldLE rec 0 1 = 1 ∧
      fieldLE rec 1 1 = n) :
    s.sheetRecord n mast stream rec =
      if (s.sh n).queue.length < 4 then s.setSh n { s.sh n with queue := (s.sh n).queue ++ [⟨mast, stream, rec, s.fine⟩] }
      else s.bump .SHT_CNT_OVERRUN n := by
  obtain ⟨hlen, hcrc⟩ := hcheck
  obtain ⟨hmast, hstream, htype, hunit⟩ := hsource
  rw [← ite_not]
  simp [State.sheetRecord, hlen, hcrc, ← hmast, ← hstream, htype, hunit]

end

/-! ## A missed sample (R242, R254, R256) -/

/-- What a missed sample does to the unit itself, before its state follows (R254). -/
def State.missNoted (s : State) (n : Nat) : State :=
  ((s.setSh n { s.sh n with missed := (s.sh n).missed + 1, good := 0 }).bump .SHT_CNT_MISS n).shMissRun n
    (s.fld F.SHT_STATUS_MISS_RUN n + 1)

/-- After a missed sample the state of the unit follows, to HOLD or FALLBACK, which keeps the intake (R256). -/
theorem State.keepsIntake_shMiss (s : State) (n : Nat) : KeepsIntake n (s.missNoted n) (s.shMiss n) := by
  unfold State.shMiss
  extract_lets x run s1 hold s2
  have hclosed : KeepsIntake n s1 s2 :=
    .ite (s1.keepsIntake_shGoto n (by split <;> decide) (by split <;> decide)) (.refl n s1)
  exact .ite (hclosed.trans (s2.keepsIntake_shGoto n (by decide) (by decide))) hclosed

theorem State.shMiss_counted (s : State) (n : Nat) : Counted .SHT_CNT_MISS n s (s.shMiss n) := by
  unfold State.shMiss
  extract_lets x run s1 hold s2
  have hnoted : Counted .SHT_CNT_MISS n s s1 :=
    ((State.counted_bump ..).after (s.setSh_changes n _) List.not_mem_nil).before (State.shMissRun_changes ..) (by decide)
  have hclosed : Counted .SHT_CNT_MISS n s s2 := by
    unfold s2
    split
    · exact hnoted.before (State.shGoto_changes ..) (by decide)
    · exact hnoted
  split
  · exact hclosed.before (State.shGoto_changes ..) (by decide)
  · exact hclosed

/-- A missed sample of a unit that is not OFF counts, adds one to the run of misses and starts the miss timer anew; what waits in
the queue stays there. -/
theorem State.missOne_misses {s : State} {n : Nat} (due : Nat) (hoff : s.shState n ≠ shtOff) :
    Counted .SHT_CNT_MISS n s (s.missOne n due) ∧ ((s.missOne n due).sh n).missed = (s.sh n).missed + 1 ∧
      ((s.missOne n due).sh n).missAt = some (due + s.missTime n false) ∧
      ((s.missOne n due).sh n).queue = (s.sh n).queue := by
  rw [State.missOne, if_neg hoff]
  have hkeeps := (s.setSh n { s.sh n with missAt := some (due + s.missTime n false) }).keepsIntake_shMiss n
  refine ⟨(State.shMiss_counted ..).after (s.setSh_changes n _) List.not_mem_nil, hkeeps.missed.trans ?_, hkeeps.missAt.trans ?_,
    hkeeps.queue.trans ?_⟩ <;> simp [State.missNoted, State.shMissRun]

/-- The miss timer expires with no record waiting. -/
theorem exec_missTimer_empty {n : Fin 12} {dt due : Nat} {s u : State} (hdue : (s.sh n).missAt = some due)
    (hu : (s.passTo dt due).refresh n = u) (hqueue : (u.sh n).queue = []) :
    exec (.missTimer n dt) s = .next (u.missOne n due) := by
  show execMissTimer n dt s = _
  simp [execMissTimer, hdue, hu, hqueue]

/-! ## EVALUATION (R235 checks 4 and 5, R236, R252, R255) -/

/-- The record at the front of the queue leaves it for a unit that is not OFF. -/
def State.recordOut (u : State) (n : Nat) (rest : List ShtRec) : State := u.setSh n { u.sh n with queue := rest, fresh := false }

section
variable {n : Fin 12} {dt : Nat} {s u : State} {q : ShtRec} {rest : List ShtRec} (hu : s.beamThen n dt = u)
  (hqueue : (u.sh n).queue = q :: rest) (hoff : u.shState n ≠ shtOff)
include hu hqueue hoff

theorem exec_evaluation_record :
    exec (.evaluation n dt) s = .next (
      if !u.newer n q.data then (u.recordOut n rest).bump .SHT_CNT_STALE n
      else if u.rejects n q.data then ((u.recordOut n rest).bump .SHT_CNT_REJECT n).missOne n (u.recordOut n rest).fine
      else (u.recordOut n rest).takeValid n q) := by
  have hthen : (s.advance dt).refresh n = u := hu
  have hstate : (u.shState n == shtOff) = false := beq_false_of_ne hoff
  show execEvaluation n dt s = _
  simp [execEvaluation, hthen, hqueue, hstate, State.recordOut]

theorem exec_evaluation_stale (hnewer : u.newer n q.data = false) :
    exec (.evaluation n dt) s = .next ((u.recordOut n rest).bump .SHT_CNT_STALE n) := by
  rw [exec_evaluation_record hu hqueue hoff, hnewer]
  rfl

/-- A rejected record is one missed sample, counted at its EVALUATION (R254; DEDUCED, log entry 42). -/
theorem exec_evaluation_rejected (hnewer : u.newer n q.data) (hrejects : u.rejects n q.data) :
    exec (.evaluation n dt) s =
      .next (((u.recordOut n rest).bump .SHT_CNT_REJECT n).missOne n (u.recordOut n rest).fine) := by
  rw [exec_evaluation_record hu hqueue hoff, hnewer, hrejects]
  rfl

theorem exec_evaluation_valid (hnewer : u.newer n q.data) (hrejects : u.rejects n q.data = false) :
    exec (.evaluation n dt) s = .next ((u.recordOut n rest).takeValid n q) := by
  rw [exec_evaluation_record hu hqueue hoff, hnewer, hrejects]
  rfl

end

/-- With the first record since OFF every record is newer (R236). -/
theorem State.newer_fresh {s : State} {n : Nat} (rec : List Byte) (hfresh : (s.sh n).fresh) (hoff : s.shState n ≠ shtOff) :
    s.newer n rec := by
  simp [State.newer, hfresh, hoff]

/-- An operation that takes no time. -/
theorem Changes.sameFine {P : List Part} {R : List Reg} {s t : State} (h : Changes P R s t) (hp : Part.fine ∉ P := by decide) :
    t.fine = s.fine := h.parts .fine hp

/-! ## A valid record (R244, R252 to R255) -/

/-- Whether a record is too early depends on the state of the unit, on when emission began, on the time and on two registers. -/
theorem Changes.tooEarly {P : List Part} {R : List Reg} {s t : State} {n : Nat} (h : Changes P R s t)
    (hstate : t.shState n = s.shState n) (hstart : (t.sh n).emStart = (s.sh n).emStart) (rec : List Byte)
    (hp : Part.fine ∉ P := by decide) (hlag : Reg.SHT_FS_LAG ∉ R := by decide) (hmiss : Reg.SHT_MISS ∉ R := by decide) :
    t.tooEarly n rec = s.tooEarly n rec := by
  unfold State.tooEarly State.refOf
  rw [hstate, hstart, h.sameFine hp, h.regs _ hlag, h.fld (f := F.SHT_MISS_ENGAGE_DELAY) hmiss]

/-- From `s` to `t` record `q` of sheet unit `n`, with `rest` waiting behind it, is on its way to the datapath: the misses before it
are counted, and its frame is the last one (R236, R254, R255). -/
structure ReachesDatapath (n : Nat) (q : ShtRec) (rest : List ShtRec) (s t : State) : Prop where
  changes : Changes [.sht] [.SHT_STATUS, .SHT_CNT_MISS, .SHT_LAST_FRAME] s t
  state : t.shState n = s.shState n
  active : t.flag F.SHT_STATUS_ACTIVE n = s.flag F.SHT_STATUS_ACTIVE n
  queue : (t.sh n).queue = rest
  fresh : (t.sh n).fresh = false
  frame : t.rd .SHT_LAST_FRAME n = BitVec.ofNat 32 (fieldLE q.data 4 4)

/-- A valid record that is not too early is evaluated. -/
theorem State.takeValid_evaluated {s : State} {n : Nat} {q : ShtRec} (hearly : s.tooEarly n q.data = false)
    (hfresh : (s.sh n).fresh = false) :
    ∃ v missed, s.takeValid n q = (v.evalValid n q.data missed).shTuneDone n ∧ ReachesDatapath n q (s.sh n).queue s v := by
  unfold State.takeValid
  extract_lets missed unit s1 frame gap s2
  have hnoted : Changes [.sht] [.SHT_STATUS] s s1 := (s.setSh_changes n _).within.op (State.shMissRun_changes ..)
  have hstatus {f : Fld} (hreg : f.reg = .SHT_STATUS) (h : f.besides F.SHT_STATUS_MISS_RUN) : KeepsFld f s s1 :=
    ((s.setSh_changes n _).keepsFld List.not_mem_nil).trans (State.keepsFld_setFld _ _ n 0 h)
  have hsh : s1.sh n = { unit with missed := 0, missAt := some (q.arrived + s.missTime n true) } := State.sh_setSh ..
  have hcounts : Changes [] [.SHT_CNT_MISS, .SHT_LAST_FRAME] s1 s2 := ((Changes.refl ..).bumpBy (by decide)).wr (by decide)
  have hs1 : s1.tooEarly n q.data = false :=
    (hnoted.tooEarly ((hstatus rfl (by decide)).fld n 0) (by rw [hsh]) q.data).trans hearly
  rw [if_neg (by simp [hs1])]
  refine ⟨s2, _, rfl, hnoted.within.op hcounts, ?_, ?_, ?_, ?_, State.rd_wr_self ..⟩
  · exact (hcounts.fld (by decide) n 0).trans ((hstatus rfl (by decide)).fld n 0)
  · exact congrArg (· != 0) ((hcounts.fld (by decide) n 0).trans ((hstatus rfl (by decide)).fld n 0))
  · rw [hcounts.sh List.not_mem_nil, hsh]
  · rw [hcounts.sh List.not_mem_nil, hsh]
    exact hfresh

section
variable {s : State} {n : Nat} (hactive : s.flag F.SHT_STATUS_ACTIVE n = false)
include hactive

/-- Without a tuning run nothing is injected (R260). -/
theorem State.inject_inactive (frame : Nat) : s.inject n frame = (none, s) := by
  rw [State.inject, hactive]
  rfl

theorem State.shTuneDone_inactive : s.shTuneDone n = s := by
  simp [State.shTuneDone, hactive]

/-- In OPEN a valid record without a tuning run counts and is logged after 100 fabric clocks (R242, R252). -/
theorem State.evalValid_open (hopen : s.shState n = shtOpen) (rec : List Byte) (missed : Nat) :
    ∃ x, s.evalValid n rec missed = ((s.bump .SHT_CNT_NOT_ENGAGED n).advance 125).shLog n x none := by
  simp only [State.evalValid, State.inject_inactive hactive, if_pos hopen, Option.isSome_none, Bool.false_and,
    Bool.false_eq_true, if_false]
  exact ⟨_, rfl⟩

/-- In CLOSED it goes through the loop, and the result to the beam channel (R243, R248 to R253). -/
theorem State.evalValid_closed (hclosed : s.shState n = shtClosed) (rec : List Byte) (missed : Nat) :
    ∃ x, s.evalValid n rec missed = (s.closedLoop n x).2.sendSample n (s.closedLoop n x).1 shtClosed := by
  have hopen : s.shState n ≠ shtOpen := by rw [hclosed]; decide
  have hfallback : s.shState n ≠ shtFallback := by rw [hclosed]; decide
  have hhold : s.shState n ≠ shtHold := by rw [hclosed]; decide
  simp only [State.evalValid, State.inject_inactive hactive, if_neg hopen, if_neg hfallback, if_neg hhold]
  exact ⟨_, rfl⟩

end

theorem State.closedLoop_counted (s : State) (n : Nat) (x : Sample) : Counted .SHT_CNT_EVAL n s (s.closedLoop n x).2 :=
  (State.counted_bump ..).after (P := [.sht]) (R := [.SHT_STATUS, .SHT_I_STATE])
    (((s.setSh_changes n _).within.wr (by decide)).setFld (by decide)) (by decide)

/-- The end of an evaluation is 100 fabric clocks after its start (R252). -/
theorem State.fine_sendSample (s : State) (n : Nat) (x : Sample) (st : Nat) : (s.sendSample n x st).fine = s.fine + 125 := by
  unfold State.sendSample
  extract_lets s1 s2 src
  have hfine : s1.fine = s.fine + 125 := (State.refresh_changes _ n).sameFine
  split
  · exact (State.shLog_changes ..).sameFine.trans hfine
  · have hout : s2.fine = s1.fine := (State.shOut_changes ..).sameFine.trans (s1.shSupersede_changes n).sameFine
    exact hout.trans hfine

section
variable {n : Fin 12} {dt : Nat} {s u : State} {q : ShtRec} {rest : List ShtRec} (hu : s.beamThen n dt = u)
  (hqueue : (u.sh n).queue = q :: rest) (hfresh : (u.sh n).fresh) (hrejects : u.rejects n q.data = false)
  (hactive : u.flag F.SHT_STATUS_ACTIVE n = false)
include hu hqueue hfresh hrejects

/-- EVALUATION of a valid record that is not too early evaluates it. -/
theorem exec_evaluation_evaluated (hoff : u.shState n ≠ shtOff) (hearly : u.tooEarly n q.data = false) :
    ∃ v missed, exec (.evaluation n dt) s = .next ((v.evalValid n q.data missed).shTuneDone n) ∧
      ReachesDatapath n q rest u v := by
  have hout : Changes [.sht] [] u (u.recordOut n rest) := u.setSh_changes n _
  have hsh : (u.recordOut n rest).sh n = { u.sh n with queue := rest, fresh := false } := State.sh_setSh ..
  obtain ⟨v, missed, htake, hv⟩ := State.takeValid_evaluated (s := u.recordOut n rest) (n := n) (q := q)
    ((hout.tooEarly rfl (by rw [hsh]) q.data).trans hearly) (by rw [hsh])
  refine ⟨v, missed, ?_, hout.within.op hv.changes, hv.state, hv.active, hv.queue.trans (by rw [hsh]), hv.fresh, hv.frame⟩
  rw [exec_evaluation_valid hu hqueue hoff (State.newer_fresh q.data hfresh hoff) hrejects, htake]

include hactive

/-- In OPEN it counts as not engaged and becomes the last frame. -/
theorem exec_evaluation_open (hopen : u.shState n = shtOpen) :
    ∃ t, exec (.evaluation n dt) s = .next t ∧ (t.sh n).queue = rest ∧ (t.sh n).fresh = false ∧
      t.rd .SHT_LAST_FRAME n = BitVec.ofNat 32 (fieldLE q.data 4 4) ∧ Counted .SHT_CNT_NOT_ENGAGED n u t ∧
      t.fine = u.fine + 125 := by
  have hoff : u.shState n ≠ shtOff := by rw [hopen]; decide
  have hearly : u.tooEarly n q.data = false := by simp [State.tooEarly, hopen, shtOpen, shtClosed]
  obtain ⟨v, missed, hrun, hv⟩ := exec_evaluation_evaluated hu hqueue hfresh hrejects hoff hearly
  obtain ⟨x, heval⟩ := State.evalValid_open (hv.active.trans hactive) (hv.state.trans hopen) q.data missed
  have hlogged := State.shLog_changes ((v.bump .SHT_CNT_NOT_ENGAGED n).advance 125) n x none
  rw [← heval] at hlogged
  have hkept : KeepsIntake n v (v.evalValid n q.data missed) := by
    rw [heval]
    exact (((v.bump_frame ..).keepsIntake n).trans ((State.advance_frame ..).keepsIntake n)).trans (State.keepsIntake_shLog ..)
  rw [State.shTuneDone_inactive (hkept.active.trans (hv.active.trans hactive))] at hrun
  refine ⟨_, hrun, hkept.queue.trans hv.queue, hkept.fresh.trans hv.fresh, ?_, ?_, ?_⟩
  · rw [hlogged.regs _ (by decide), State.rd_advance, State.rd_bump_reg _ _ _ _ _ (by decide), hv.frame]
  · exact (((v.counted_bump ..).before (State.advance_frame ..) List.not_mem_nil).before hlogged (by decide)).after hv.changes
      (by decide)
  · exact hlogged.sameFine.trans (congrArg (· + 125) hv.changes.sameFine)

/-- In CLOSED, late enough after emission began, it goes through the loop and counts. -/
theorem exec_evaluation_closed (hclosed : u.shState n = shtClosed) (hearly : u.tooEarly n q.data = false) :
    ∃ t, exec (.evaluation n dt) s = .next t ∧ Counted .SHT_CNT_EVAL n u t ∧ t.fine = u.fine + 125 := by
  have hoff : u.shState n ≠ shtOff := by rw [hclosed]; decide
  obtain ⟨v, missed, hrun, hv⟩ := exec_evaluation_evaluated hu hqueue hfresh hrejects hoff hearly
  obtain ⟨x, heval⟩ := State.evalValid_closed (hv.active.trans hactive) (hv.state.trans hclosed) q.data missed
  rw [heval] at hrun
  have hdone := State.shTuneDone_changes ((v.closedLoop n x).2.sendSample n (v.closedLoop n x).1 shtClosed) n
  refine ⟨_, hrun, ?_, ?_⟩
  · exact (((v.closedLoop_counted n x).before (State.sendSample_changes ..) (by decide)).before hdone (by decide)).after hv.changes
      (by decide)
  · rw [hdone.sameFine, State.fine_sendSample, (v.closedLoop_changes n x).sameFine, hv.changes.sameFine]

end

/-! ## Tuning runs and the reset of the datapath (R260, R262, R264) -/

/-- What START asks of the mode, of the unit and of the injection set up (R260, R262). -/
def State.mayTune (s : State) (n : Nat) : Bool :=
  (s.mode == modeService || (s.mode == modeBuild && s.flag F.SHT_TUNE_BUILD_OK n)) && s.shState n != shtOff
    && s.fld F.SHT_TUNE_INJ_MODE n != 0 && s.sweepOk n

theorem State.flrBars_of_mayWrite {s : State} {who : Requester} {r : Reg} {i : Nat} (h : s.mayWrite who r i) :
    s.flrBars who = false := by
  simp only [State.mayWrite, Bool.and_eq_true, Bool.not_eq_true'] at h
  obtain ⟨⟨⟨hflr, -⟩, -⟩, -⟩ := h
  exact hflr

theorem exec_shtStart_service {who : Requester} {n : Fin 12} {s : State} (hmay : s.mayWrite who .SHT_CMD n)
    (hlvl : 3 ≤ s.levelOf who) :
    exec (.shtStart who n) s = .next (
      if s.mayTune n then
        (s.setSh n { s.sh n with tune := {}, seqs := tblSet 0 (s.sh n).seqs 3 0 }).setFld F.SHT_STATUS_ACTIVE 1 n
      else s.setFld F.SHT_STATUS_TUNE_REFUSED 1 n) := by
  show Host.Outcome.next (State.writeGate ..) = _
  rw [State.writeGate_may _ hmay, State.gated_may _ (State.flrBars_of_mayWrite hmay) hlvl]
  simp only [Bool.not_eq_true', ← Bool.not_eq_true, ite_not]
  rfl

theorem exec_shtStop_may {who : Requester} {n : Fin 12} {s : State} (hmay : s.mayWrite who .SHT_CMD n) :
    exec (.shtStop who n) s = .next (s.shTuneEnd n) := congrArg Host.Outcome.next (State.writeGate_may _ hmay)

/-- A tuning run that ends is active no longer; the output of OPEN that then follows P_now leaves ACTIVE alone (R240). -/
theorem State.shTuneEnd_inactive (s : State) (n : Nat) : (s.shTuneEnd n).flag F.SHT_STATUS_ACTIVE n = false := by
  unfold State.shTuneEnd
  split
  · rw [(State.keepsIntake_shForward _ n).active]
    exact s.flag_setFld 0 n (by decide) (by decide)
  next h => simpa using h

/-- RESET_STATE acts in OPEN. -/
theorem exec_resetState_open {who : Requester} {n : Fin 12} {s : State} (hmay : s.mayWrite who .SHT_CMD n)
    (hopen : s.shState n = shtOpen) :
    exec (.resetState who n) s =
      .next ((s.setSh n { s.sh n with bq := [], ePrev := 0, yPrev := 0 }).wr .SHT_I_STATE 0 n) :=
  congrArg Host.Outcome.next ((State.writeGate_may _ hmay).trans (if_neg (not_not_intro hopen)))

/-- Settles O44: each command is its `exec_` lemma, and what a record, a missed sample or a tuning run leaves is said by the lemma
of its operation. -/
theorem sheetUnits : Obligations.SheetUnits := by
  unfold Obligations.SheetUnits
  refine ⟨fun n mast stream rec s hruns hcheck hsource => ⟨_, exec_sheetRecord_runs mast stream rec hruns,
      State.sheetRecord_taken hcheck hsource⟩,
    fun n mast stream rec s hruns => ⟨_, exec_sheetRecord_runs mast stream rec hruns, State.sheetRecord_badCheck,
      State.sheetRecord_foreign⟩,
    fun n dt u q rest s hu hqueue hoff hfresh hstale => ?stale,
    fun n dt u q rest s hu hqueue hopen hfresh hrejects hactive =>
      exec_evaluation_open hu hqueue hfresh hrejects hactive hopen,
    fun n dt u q rest s hu hqueue hclosed hfresh hrejects hactive hearly =>
      exec_evaluation_closed hu hqueue hfresh hrejects hactive hclosed hearly,
    fun n dt u q rest s hu hqueue hoff hnewer hrejects => ?rejected,
    fun n dt due u s hdue hu hqueue hoff => ?missed,
    fun who n s hmay hlvl => ⟨_, exec_shtStart_service hmay hlvl, ?start, ?refused⟩,
    fun who n s hmay => ⟨_, exec_shtStop_may hmay, s.shTuneEnd_inactive n⟩,
    fun who n s hmay hopen => ⟨_, exec_resetState_open hmay hopen, ?reset⟩⟩
  case stale =>
    refine ⟨_, exec_evaluation_stale hu hqueue hoff ?_, ?_⟩
    · simp [State.newer, hfresh, hstale]
    · rw [State.recordOut, ← hfresh]
  case rejected =>
    have hstate : ((u.recordOut n rest).bump .SHT_CNT_REJECT n).shState n ≠ shtOff := by
      rwa [State.shState, State.fld_bump_reg _ _ _ _ _ (by decide)]
    obtain ⟨hcounted, -, -, hout⟩ := State.missOne_misses (u.recordOut n rest).fine hstate
    have hchanges := u.setSh_changes n { u.sh n with queue := rest, fresh := false }
    refine ⟨_, exec_evaluation_rejected hu hqueue hoff hnewer hrejects, ?_, ?_, hout.trans ?_⟩
    · exact ((State.counted_bump ..).after hchanges List.not_mem_nil).before (State.missOne_changes ..) (by decide)
    · exact (hcounted.after (State.bump_frame ..) (by decide)).after hchanges List.not_mem_nil
    · simp [State.recordOut]
  case missed =>
    obtain ⟨hcounted, hmissed, hmissAt, hqueue'⟩ := State.missOne_misses due hoff
    exact ⟨_, exec_missTimer_empty hdue hu hqueue, hcounted, hmissed, hmissAt, hqueue'.trans hqueue⟩
  case start =>
    rintro ⟨hmode, hoff, hinj, hsweep⟩
    rw [if_pos (by simp [State.mayTune, hmode, hoff, hinj, hsweep])]
    exact ⟨State.flag_setFld _ 1 n (by decide) (by decide), by simp⟩
  case refused =>
    intro h
    refine if_neg ?_
    obtain h | h | h := h <;> simp [State.mayTune, h]
  case reset =>
    simp

end
end Sys2Proof.Machine

/-! # What the beam channel commands leave alone (O14) -/

namespace Sys2Proof.Machine
section
set_option Elab.async false

/-- Settles O14, by the frame of each of its commands. -/
theorem beamsFrame : Obligations.BeamsFrame := by
  unfold Obligations.BeamsFrame
  exact fun c s hch => beams_framed hch s

end
end Sys2Proof.Machine

/-! # The gate of an illumination channel (O59) -/

namespace Sys2Proof.Machine
section
set_option Elab.async false

/-! ## What an illumination channel is read through -/

@[simp] theorem State.lm_passTo (s : State) (dt due n : Nat) : (s.passTo dt due).lm n = s.lm n := rfl
@[simp] theorem State.lumOn_passTo (s : State) (dt due n : Nat) : (s.passTo dt due).lumOn n = s.lumOn n := rfl
@[simp] theorem State.lumFaulted_passTo (s : State) (dt due n : Nat) : (s.passTo dt due).lumFaulted n = s.lumFaulted n := rfl
@[simp] theorem State.lumOn_setLm (s : State) (k : Nat) (x : Lum) (n : Nat) : (s.setLm k x).lumOn n = s.lumOn n := rfl
@[simp] theorem State.lumFaulted_setLm (s : State) (k : Nat) (x : Lum) (n : Nat) : (s.setLm k x).lumFaulted n = s.lumFaulted n := rfl
@[simp] theorem State.lumActs_setLm (s : State) (k : Nat) (x : Lum) (n : Nat) : (s.setLm k x).lumActs n = s.lumActs n := rfl
@[simp] theorem State.lumChMode_setLm (s : State) (k : Nat) (x : Lum) (n : Nat) : (s.setLm k x).lumChMode n = s.lumChMode n := rfl
@[simp] theorem State.flag_setLm (s : State) (k : Nat) (x : Lum) (f : Fld) (i : Nat) : (s.setLm k x).flag f i = s.flag f i := rfl
@[simp] theorem State.flag_emit (s : State) (o : Out) (f : Fld) (i : Nat) : (s.emit o).flag f i = s.flag f i := rfl

theorem Changes.lumOn {P : List Part} {R : List Reg} {s t : State} (h : Changes P R s t) (n : Nat)
    (hr : Reg.PWR_DOM_STATUS ∉ R := by decide) : t.lumOn n = s.lumOn n := by
  simp only [State.lumOn, State.domOn, h.regs _ hr]

theorem Changes.lumFaulted {P : List Part} {R : List Reg} {s t : State} (h : Changes P R s t) (n : Nat)
    (hr : Reg.LUM_CH_FAULT ∉ R := by decide) : t.lumFaulted n = s.lumFaulted n := by
  simp only [State.lumFaulted, h.regs _ hr]

theorem Changes.flag {P : List Part} {R : List Reg} {s t : State} (h : Changes P R s t) {f : Fld} (i : Nat)
    (hf : f.reg ∉ R := by decide) : t.flag f i = s.flag f i := congrArg (· != 0) (h.fld hf i 0)

/-! ## The gate of a channel (R351, R354, R356, R359) -/

theorem State.lit_gateRise (s : State) (n : Nat) (till : Option Nat) : (s.gateRise n till).flag F.LUM_CH_STATUS_LIT n :=
  State.flag_setFld _ 1 n (by decide) (by decide)

theorem State.lit_gateFall (s : State) (n : Nat) : (s.gateFall n).flag F.LUM_CH_STATUS_LIT n = false :=
  State.flag_setFld _ 0 n (by decide) (by decide)

/-- A gate that rises for a known time shows as a pulse of that length. -/
theorem State.emits_gateRise (s : State) (n len : Nat) :
    Emits [.gatePulse n s.fine len] s (s.gateRise n (some (s.fine + len))) := by
  show s.outbox ++ [Out.gatePulse n s.fine (s.fine + len - s.fine)] = _
  rw [Nat.add_sub_cancel_left]

theorem State.lm_gateRise (s : State) (n : Nat) (till : Option Nat) :
    (s.gateRise n till).lm n = { s.lm n with gateAt := s.fine, gateEnd := till, judged := false } := State.lm_setLm ..

theorem State.lm_gateFall (s : State) (n : Nat) :
    (s.gateFall n).lm n = { s.lm n with gateEnd := none, lowAt := s.fine } := State.lm_setLm ..

/-- A fault or a domain that is off holds the gate low. -/
def State.gateHeld (s : State) (n : Nat) : Bool := s.lumFaulted n || !s.lumOn n

/-- The gate is on of itself: for a forward-voltage test, or for a string lit at or above the knee. -/
def State.gateSteady (s : State) (n : Nat) : Bool :=
  s.lumOn n && !s.lumFaulted n && ((s.lm n).vfAt.isSome || (s.lumLitTime n && decide (lumKnee ≤ s.lumLevel n)))

/-- The gate is on for a pulse that has not ended and that the channel still drives. -/
def State.gatePulsing (s : State) (n : Nat) : Bool :=
  s.flag F.LUM_CH_STATUS_LIT n && (match (s.lm n).gateEnd with
    | some e => decide (s.fine < e)
    | none => false) && ((s.lm n).diagAt.isSome || s.lumLitTime n)

/-- The gate of channel `n` is low since the end of its pulse, where it had one. -/
def State.pulseOut (s : State) (n : Nat) : State :=
  if s.flag F.LUM_CH_STATUS_LIT n && (s.lm n).gateEnd.isSome then
    (s.setLm n { s.lm n with gateEnd := none, lowAt := (s.lm n).gateEnd.getD s.fine }).setFld F.LUM_CH_STATUS_LIT 0 n
  else s

theorem State.lit_pulseOut (s : State) (n : Nat) :
    (s.pulseOut n).flag F.LUM_CH_STATUS_LIT n = (s.flag F.LUM_CH_STATUS_LIT n && (s.lm n).gateEnd.isNone) := by
  unfold State.pulseOut
  split
  next h =>
    obtain ⟨-, hend⟩ := Bool.and_eq_true_iff.1 h
    rw [State.flag_setFld _ 0 n (by decide) (by decide), Option.isNone_eq_false_iff.2 hend, Bool.and_false]
    rfl
  next h =>
    cases hend : (s.lm n).gateEnd <;> simp_all

/-- What bringing the gate up to date does, case by case. -/
theorem State.lumGate_eq (s : State) (n : Nat) :
    s.lumGate n =
      if s.gateHeld n then (if s.flag F.LUM_CH_STATUS_LIT n then s.gateFall n else s)
      else if s.gatePulsing n then s
      else if s.gateSteady n then
        (if (s.pulseOut n).flag F.LUM_CH_STATUS_LIT n then s.pulseOut n else (s.pulseOut n).gateRise n none)
      else (if (s.pulseOut n).flag F.LUM_CH_STATUS_LIT n then (s.pulseOut n).gateFall n else s.pulseOut n) := by
  have hlit : (s.flag F.LUM_CH_STATUS_LIT n && !(s.flag F.LUM_CH_STATUS_LIT n && (s.lm n).gateEnd.isSome)) =
      (s.pulseOut n).flag F.LUM_CH_STATUS_LIT n := by
    rw [State.lit_pulseOut]
    cases s.flag F.LUM_CH_STATUS_LIT n <;> cases (s.lm n).gateEnd <;> rfl
  unfold State.lumGate
  extract_lets x lit steady pulse expired s1 lit1
  rw [show s1 = s.pulseOut n from rfl, show lit1 = (s.pulseOut n).flag F.LUM_CH_STATUS_LIT n from hlit,
    show steady = s.gateSteady n from rfl]
  refine if_congr Iff.rfl rfl (if_congr Iff.rfl rfl ?_)
  cases s.gateSteady n <;> cases (s.pulseOut n).flag F.LUM_CH_STATUS_LIT n <;> rfl

section
variable {s : State} {n : Nat}

theorem State.lit_lumGate_held (h : s.gateHeld n) : (s.lumGate n).flag F.LUM_CH_STATUS_LIT n = false := by
  rw [State.lumGate_eq, if_pos h]
  split
  · exact s.lit_gateFall n
  next hdark => simpa using hdark

theorem State.gateHeld_of_faulted (h : s.lumFaulted n) : s.gateHeld n := by
  rw [State.gateHeld, h, Bool.true_or]

theorem State.gateHeld_of_steady (h : s.gateSteady n) : s.gateHeld n = false := by
  simp only [State.gateSteady, Bool.and_eq_true] at h
  obtain ⟨⟨hon, hsound⟩, -⟩ := h
  simpa [State.gateHeld, hon] using hsound

theorem State.lit_lumGate_steady (h : s.gateSteady n) : (s.lumGate n).flag F.LUM_CH_STATUS_LIT n := by
  rw [State.lumGate_eq, if_neg (by simp [State.gateHeld_of_steady h]), if_pos h]
  split
  next hpulse =>
    simp only [State.gatePulsing, Bool.and_eq_true] at hpulse
    obtain ⟨⟨hlit, -⟩, -⟩ := hpulse
    exact hlit
  · split
    next hlit => exact hlit
    · exact State.lit_gateRise ..

/-- With no pulse under way a gate that is not on of itself is low. -/
theorem State.lit_lumGate_idle (hsteady : s.gateSteady n = false) (hend : (s.lm n).gateEnd = none) :
    (s.lumGate n).flag F.LUM_CH_STATUS_LIT n = false := by
  by_cases hheld : s.gateHeld n
  · exact State.lit_lumGate_held hheld
  · rw [State.lumGate_eq, if_neg hheld, if_neg (by simp [State.gatePulsing, hend]), if_neg (by simp [hsteady])]
    split
    · exact State.lit_gateFall ..
    next hdark => simpa using hdark

end

theorem State.lm_pulseOut (s : State) (n : Nat) :
    ∃ low till, (s.pulseOut n).lm n = { s.lm n with lowAt := low, gateEnd := till } := by
  unfold State.pulseOut
  split
  · exact ⟨_, _, State.lm_setLm ..⟩
  · exact ⟨_, _, rfl⟩

/-- Of what the channel holds only the course of its gate changes. -/
theorem State.lm_lumGate (s : State) (n : Nat) :
    ∃ low rise till judged,
      (s.lumGate n).lm n = { s.lm n with lowAt := low, gateAt := rise, gateEnd := till, judged := judged } := by
  obtain ⟨low, till, hout⟩ := s.lm_pulseOut n
  rw [State.lumGate_eq]
  split_ifs
  · exact ⟨_, _, _, _, s.lm_gateFall n⟩
  · exact ⟨_, _, _, _, rfl⟩
  · exact ⟨_, _, _, _, rfl⟩
  · exact ⟨_, _, _, _, hout⟩
  · exact ⟨_, _, _, _, (State.lm_gateRise ..).trans (by rw [hout])⟩
  · exact ⟨_, _, _, _, (State.lm_gateFall ..).trans (by rw [hout])⟩
  · exact ⟨_, _, _, _, hout⟩

/-- A gate that is held low, or on with no end set, does not rise. -/
theorem State.lm_lumGate_noRise {s : State} {n : Nat}
    (h : s.gateHeld n ∨ (s.flag F.LUM_CH_STATUS_LIT n ∧ (s.lm n).gateEnd = none)) :
    ∃ low till, (s.lumGate n).lm n = { s.lm n with lowAt := low, gateEnd := till } := by
  rw [State.lumGate_eq]
  by_cases hheld : s.gateHeld n
  · rw [if_pos hheld]
    split
    · exact ⟨_, _, s.lm_gateFall n⟩
    · exact ⟨_, _, rfl⟩
  · obtain ⟨hlit, hend⟩ := h.resolve_left hheld
    have hout : s.pulseOut n = s := by simp [State.pulseOut, hend]
    rw [hout]
    split_ifs
    · exact ⟨_, _, rfl⟩
    · exact ⟨_, _, rfl⟩
    · exact ⟨_, _, s.lm_gateFall n⟩

theorem State.lm_gateRise_ne (s : State) (n : Nat) (till : Option Nat) {m : Nat} (h : m ≠ n) :
    (s.gateRise n till).lm m = s.lm m := State.lm_setLm_ne _ _ _ h

theorem State.lm_gateFall_ne (s : State) (n : Nat) {m : Nat} (h : m ≠ n) : (s.gateFall n).lm m = s.lm m :=
  State.lm_setLm_ne _ _ _ h

theorem State.lm_pulseOut_ne (s : State) (n : Nat) {m : Nat} (h : m ≠ n) : (s.pulseOut n).lm m = s.lm m := by
  unfold State.pulseOut
  split
  · exact State.lm_setLm_ne _ _ _ h
  · rfl

theorem State.lm_lumGate_ne (s : State) (n : Nat) {m : Nat} (h : m ≠ n) : (s.lumGate n).lm m = s.lm m := by
  rw [State.lumGate_eq]
  split_ifs <;> simp only [State.lm_gateFall_ne _ _ h, State.lm_gateRise_ne _ _ _ h, State.lm_pulseOut_ne _ _ h]

section
variable {f : Fld} (h : f.besides F.LUM_CH_STATUS_LIT)
include h

theorem State.keepsFld_gateRise (s : State) (n : Nat) (till : Option Nat) : KeepsFld f s (s.gateRise n till) :=
  ⟨(State.keepsFld_setFld (s.setLm n _) 1 n 0 h).fld⟩

theorem State.keepsFld_gateFall (s : State) (n : Nat) : KeepsFld f s (s.gateFall n) :=
  ⟨(State.keepsFld_setFld (s.setLm n _) 0 n 0 h).fld⟩

theorem State.keepsFld_pulseOut (s : State) (n : Nat) : KeepsFld f s (s.pulseOut n) :=
  .ite ⟨(State.keepsFld_setFld (s.setLm n _) 0 n 0 h).fld⟩ (.refl f s)

/-- Of LUM_CH_STATUS only LIT follows the gate. -/
theorem State.keepsFld_lumGate (s : State) (n : Nat) : KeepsFld f s (s.lumGate n) := by
  have hout := s.keepsFld_pulseOut h n
  rw [State.lumGate_eq]
  exact .ite (.ite (s.keepsFld_gateFall h n) (.refl f s)) (.ite (.refl f s)
    (.ite (.ite hout (hout.trans (State.keepsFld_gateRise h ..))) (.ite (hout.trans (State.keepsFld_gateFall h ..)) hout)))

end

end
end Sys2Proof.Machine

/-! # Strobes, dimming, faults, diagnosis and forward-voltage tests of an illumination channel (O59) -/

namespace Sys2Proof.Machine
section
set_option Elab.async false

/-! ## Strobes and dimming (R351 to R354) -/

/-- A command on a channel of a block that is ready acts with its gate brought up to date. -/
theorem State.onLum_ready {s : State} (n dt due : Nat) (k : State → State) (h : s.ready) :
    s.onLum n dt due k = k (s.lumThen n dt due) := by
  rw [State.onLum, h]
  rfl

/-- The strobe of channel `n` whose front was due at `t0` begins, with the front off the list (R353). -/
def State.strobeBegun (u : State) (n t0 : Nat) (rest : List Nat) : State :=
  u.setLm n { u.lm n with
    strobes := rest, endAt := some (max (t0 + fineOf10ns (u.fld F.LUM_CH_STROBE_STROBE_W n)) ((u.lm n).endAt.getD 0)), carry := 0,
    level := u.fld F.LUM_CH_LEVEL_LEVEL n, dimAt := t0 }

theorem exec_strobeStart_begins {n : Fin 8} {dt t0 : Nat} {rest : List Nat} {s u : State} (hready : s.ready)
    (hfront : (s.lm n).strobes = t0 :: rest) (hu : s.lumThen n dt t0 = u) (hmode : u.lumActs n ∧ u.lumChMode n = 2) :
    exec (.strobeStart n dt) s = .next ((u.strobeBegun n t0 rest).lumGate n) := by
  obtain ⟨hacts, hstrobe⟩ := hmode
  show execStrobeStart n dt s = _
  simp [execStrobeStart, hfront, State.onLum_ready _ _ _ _ hready, hu, hacts, hstrobe, State.strobeBegun]

/-- In strobe mode a string at or above the knee is on for the whole strobe. -/
theorem State.gateSteady_strobeBegun {u : State} {n : Nat} (t0 : Nat) (rest : List Nat)
    (hmode : u.lumActs n ∧ u.lumChMode n = 2) (hsound : u.lumFaulted n = false)
    (hknee : lumKnee ≤ u.fld F.LUM_CH_LEVEL_LEVEL n) : (u.strobeBegun n t0 rest).gateSteady n := by
  obtain ⟨hacts, hstrobe⟩ := hmode
  have hon : u.lumOn n := by
    simp only [State.lumActs, Bool.and_eq_true] at hacts
    obtain ⟨⟨-, hon⟩, -⟩ := hacts
    exact hon
  simp [State.gateSteady, State.strobeBegun, State.lumLitTime, State.lumLevel, hacts, hstrobe, hon, hsound, hknee]

/-- The strobe of channel `n` ends; a diagnostic pulse under way goes on (R351, R354). -/
def State.strobeOver (u : State) (n : Nat) : State :=
  u.setLm n { u.lm n with endAt := none, carry := 0, gateEnd := if (u.lm n).diagAt.isSome then (u.lm n).gateEnd else none }

theorem exec_strobeEnd_ends {n : Fin 8} {dt e : Nat} {s u : State} (hready : s.ready) (hend : (s.lm n).endAt = some e)
    (hu : s.lumThen n dt e = u) : exec (.strobeEnd n dt) s = .next ((u.strobeOver n).lumGate n) := by
  show execStrobeEnd n dt s = _
  simp [execStrobeEnd, hend, State.onLum_ready _ _ _ _ hready, hu, State.strobeOver]

/-- After a strobe, with no test and no diagnostic pulse, nothing drives the gate. -/
theorem State.lit_strobeOver {u : State} {n : Nat} (hmode : u.lumChMode n = 2) (htest : (u.lm n).vfAt = none)
    (hdiag : (u.lm n).diagAt = none) : ((u.strobeOver n).lumGate n).flag F.LUM_CH_STATUS_LIT n = false :=
  State.lit_lumGate_idle (by simp [State.gateSteady, State.strobeOver, State.lumLitTime, htest, hmode])
    (by simp [State.strobeOver, hdiag])

/-- The instant at which a pulse of `on` fine counts that begins now ends: no later than the strobe. -/
def State.dimTill (u : State) (n on : Nat) : Nat :=
  match (u.lm n).endAt with
  | some e => min e (u.fine + on)
  | none => u.fine + on

/-- A dimming period of channel `n` is accounted for: the string asks for `want` and gets `on` (R354). -/
def State.dimBooked (u : State) (n on : Nat) (want : Int) : State :=
  u.setLm n { u.lm n with carry := want - (on * lumKnee : Nat), dimAt := u.fine + u.dimPeriod n }

section
variable {n : Fin 8} {dt on : Nat} {want : Int} {s u : State} (hready : s.ready) (hu : s.lumThen n dt (s.dimDue n) = u)
  (hdims : u.dims n) (hwant : (u.lumLevel n * u.dimPeriod n : Nat) + (u.lm n).carry = want)
  (hon : (if ((50 * lumKnee : Nat) : Int) ≤ want then min (u.dimPeriod n) ((want * 2 + lumKnee) / (2 * lumKnee)).toNat else 0) = on)
include hready hu hdims hwant hon

theorem exec_dimPulse_dims :
    exec (.dimPulse n dt) s = .next (
      if (u.lm n).diagAt.isSome || u.dimTill n on ≤ u.fine then u.dimBooked n on want
      else (u.dimBooked n on want).gateRise n (some (u.dimTill n on))) := by
  show execDimPulse n dt s = _
  rw [execDimPulse, State.onLum_ready _ _ _ _ hready, hu]
  simp only [hdims, Bool.not_true, Bool.false_eq_true, if_false, hwant, hon]
  rfl

/-- Whether a pulse is driven or not, the period is booked. -/
theorem exec_dimPulse_books :
    ∃ t, exec (.dimPulse n dt) s = .next t ∧ (t.lm n).carry = want - (on * lumKnee : Nat) ∧
      (t.lm n).dimAt = u.fine + u.dimPeriod n ∧
      ((u.lm n).diagAt = none → (u.lm n).endAt = none → 0 < on →
        Emits [.gatePulse n u.fine on] u t ∧ t.flag F.LUM_CH_STATUS_LIT n) := by
  have hbooked : (u.dimBooked n on want).lm n =
      { u.lm n with carry := want - (on * lumKnee : Nat), dimAt := u.fine + u.dimPeriod n } := State.lm_setLm ..
  refine ⟨_, exec_dimPulse_dims hready hu hdims hwant hon, ?_⟩
  split
  next hdark =>
    refine ⟨by rw [hbooked], by rw [hbooked], fun hdiag hend hpos => ?_⟩
    simp [State.dimTill, hdiag, hend] at hdark
    omega
  · refine ⟨by rw [State.lm_gateRise, hbooked], by rw [State.lm_gateRise, hbooked], fun _ hend _ => ⟨?_, State.lit_gateRise ..⟩⟩
    have htill : u.dimTill n on = u.fine + on := by rw [State.dimTill, hend]
    rw [htill]
    exact (u.dimBooked n on want).emits_gateRise n on

end

/-! ## Faults (R356) -/

/-- The fault is in the register. -/
def State.faultNoted (s : State) (n bit : Nat) : State := s.wr .LUM_CH_FAULT (putBits (s.rd .LUM_CH_FAULT n) bit 1 1) n

/-- A fault latched before does nothing more. -/
theorem State.lumFault_already {s : State} {n bit : Nat} (h : getBits (s.rd .LUM_CH_FAULT n) bit 1 = 1) : s.lumFault n bit = s :=
  if_pos h

/-- A new fault is noted, turns the gate low, and is published and noticed (R539). -/
theorem State.lumFault_new_changes {s : State} {n bit : Nat} (h : getBits (s.rd .LUM_CH_FAULT n) bit 1 ≠ 1) :
    Changes [.outbox, .hal, .pce, .helm] [.HAL_CNT_QUEUE_DROP, .PCE_STATUS, .PCE_CNT_MSIX_DROP, .HLM_CNT_NOTICE_DROP,
      .PWR_FAULT_SUMMARY] ((s.faultNoted n bit).lumGate n) (s.lumFault n bit) := by
  rw [State.lumFault, if_neg h]
  exact (State.lumPublish_changes ..).within.op (State.notice_changes ..)

theorem getBits_ne_zero_of_bit {w : Word} {bit : Nat} (hbit : bit < 4) (h : getBits w bit 1 = 1) : getBits w 0 4 ≠ 0 := by
  intro hzero
  have hset : (getBits w bit 1).testBit 0 = true := by rw [h]; rfl
  have hnone : (getBits w 0 4).testBit bit = false := by rw [hzero, Nat.zero_testBit]
  rw [getBits_testBit] at hset hnone
  simp_all

theorem State.lumFaulted_of_bit {s : State} {n bit : Nat} (hbit : bit < 4) (h : getBits (s.rd .LUM_CH_FAULT n) bit 1 = 1) :
    s.lumFaulted n := bne_iff_ne.2 (getBits_ne_zero_of_bit hbit h)

theorem State.bit_faultNoted (s : State) (n : Nat) {bit : Nat} (hbit : bit < 4) :
    getBits ((s.faultNoted n bit).rd .LUM_CH_FAULT n) bit 1 = 1 := by
  rw [State.faultNoted, State.rd_wr_self, getBits_putBits_self _ _ (by omega)]
  rfl

section
variable {n bit : Nat} (s : State) (hbit : bit < 4)
include hbit

theorem State.bit_lumFault : getBits ((s.lumFault n bit).rd .LUM_CH_FAULT n) bit 1 = 1 := by
  by_cases h : getBits (s.rd .LUM_CH_FAULT n) bit 1 = 1
  · rwa [State.lumFault_already h]
  · rw [(State.lumFault_new_changes h).regs _ (by decide), (State.lumGate_changes ..).regs _ (by decide), s.bit_faultNoted n hbit]

/-- A fault latched before stays. -/
theorem State.bit_lumFault_other {other : Nat} (hother : other < 4)
    (hset : getBits (s.rd .LUM_CH_FAULT n) other 1 = 1) : getBits ((s.lumFault n bit).rd .LUM_CH_FAULT n) other 1 = 1 := by
  by_cases h : getBits (s.rd .LUM_CH_FAULT n) bit 1 = 1
  · rwa [State.lumFault_already h]
  · have hne : other ≠ bit := by rintro rfl; exact h hset
    rw [(State.lumFault_new_changes h).regs _ (by decide), (State.lumGate_changes ..).regs _ (by decide), State.faultNoted, State.rd_wr_self,
      getBits_putBits_ne _ _ (by omega) (by omega), hset]

theorem State.lumFaulted_lumFault : (s.lumFault n bit).lumFaulted n := State.lumFaulted_of_bit hbit (s.bit_lumFault hbit)

/-- The gate does not rise at a fault. -/
theorem State.lm_lumFault : ∃ low till, (s.lumFault n bit).lm n = { s.lm n with lowAt := low, gateEnd := till } := by
  by_cases h : getBits (s.rd .LUM_CH_FAULT n) bit 1 = 1
  · rw [State.lumFault_already h]
    exact ⟨_, _, rfl⟩
  · have hheld := State.gateHeld_of_faulted (State.lumFaulted_of_bit hbit (s.bit_faultNoted n hbit))
    rw [(State.lumFault_new_changes h).lm (by decide)]
    exact State.lm_lumGate_noRise (.inl hheld)

omit hbit in
theorem State.keepsFld_lumFault {f : Fld} (hreg : f.reg = .LUM_CH_STATUS) (hlit : f.besides F.LUM_CH_STATUS_LIT) :
    KeepsFld f s (s.lumFault n bit) := by
  by_cases h : getBits (s.rd .LUM_CH_FAULT n) bit 1 = 1
  · rw [State.lumFault_already h]
    exact .refl f s
  · have hnoted : KeepsFld f s (s.faultNoted n bit) := (s.wr_frame ..).keepsFld (by rw [hreg]; decide)
    exact (hnoted.trans (State.keepsFld_lumGate hlit ..)).trans ((State.lumFault_new_changes h).keepsFld (by rw [hreg]; decide))

/-- At a fault the gate of a channel is low, where it follows the channel: a lit channel has no fault latched. -/
theorem State.lit_lumFault (hsync : s.flag F.LUM_CH_STATUS_LIT n → s.lumFaulted n = false) :
    (s.lumFault n bit).flag F.LUM_CH_STATUS_LIT n = false := by
  by_cases h : getBits (s.rd .LUM_CH_FAULT n) bit 1 = 1
  · have hfaulted := State.lumFaulted_of_bit hbit h
    rw [State.lumFault_already h]
    by_contra hlit
    rw [hsync (by simpa using hlit)] at hfaulted
    cases hfaulted
  · rw [(State.lumFault_new_changes h).flag _ (by decide)]
    exact State.lit_lumGate_held (State.gateHeld_of_faulted (State.lumFaulted_of_bit hbit (s.bit_faultNoted n hbit)))

end

/-- A gate brought up to date is not on in a channel with a fault. -/
theorem State.lumFaulted_of_lit_lumGate {s : State} {n : Nat} (h : (s.lumGate n).flag F.LUM_CH_STATUS_LIT n) :
    (s.lumGate n).lumFaulted n = false := by
  rw [(s.lumGate_changes n).lumFaulted n]
  by_contra hfault
  rw [State.lit_lumGate_held (State.gateHeld_of_faulted (by simpa using hfault))] at h
  cases h

theorem exec_lightFault_judges {n : Fin 8} {dt : Nat} {s u : State} (c : BitVec 18) (hready : s.ready)
    (hu : s.lumThen n dt (s.faultDue n) = u) (hon : u.mode ≠ modeOff ∧ u.mode ≠ modeLoad ∧ u.lumOn n) :
    exec (.lightFault n dt c) s = .next (
      if u.flag F.LUM_CH_STATUS_LIT n then
        if u.lumSet n * 5 < c.toNat * 4 ∨ 65536 * 11 < c.toNat * 10 then u.lumFault n 2 else u
      else if 65536 * 2 < c.toNat * 100 then u.lumFault n 3 else u) := by
  obtain ⟨hoff, hload, hdom⟩ := hon
  show execLightFault n dt c s = _
  rw [execLightFault, State.onLum_ready _ _ _ _ hready, hu]
  simp [hoff, hload, hdom]

theorem exec_lightFaultClear_may {who : Requester} {n : Fin 8} {s : State} (bits persist : BitVec 4)
    (hmay : s.mayWrite who .LUM_CH_FAULT n) :
    exec (.lightFaultClear who n bits persist) s = .next ((s.wr .LUM_CH_FAULT
      (s.rd .LUM_CH_FAULT n &&& ~~~((bits &&& ~~~persist).setWidth 32)) n).lumGate n) :=
  congrArg Host.Outcome.next (State.writeGate_may _ hmay)

/-! ## Diagnostic windows, due verdicts and diagnostic pulses (R355, R357, R358) -/

/-- The verdict of a window that ends now: whether the string is open or short shows in DIAG (R355, R358). -/
def State.verdictShown (s : State) (n : Nat) (op sh : Bool) : State :=
  (s.setLm n { s.lm n with judged := true, due := none, undiag := false, diagLast := s.fine, diagAt := none }).setFld
    F.LUM_CH_STATUS_DIAG (if op || sh then 3 else 1) n

/-- It latches its faults (R356). -/
def State.verdict (s : State) (n : Nat) (op sh : Bool) : State :=
  let s1 := if op then (s.verdictShown n op sh).lumFault n 0 else s.verdictShown n op sh
  if sh then s1.lumFault n 1 else s1

section
variable (s : State) (n : Nat) (op sh : Bool)

theorem State.verdict_changes :
    Changes [.outbox, .lum, .hal, .pce, .helm] [.LUM_CH_STATUS, .LUM_CH_FAULT, .HAL_CNT_QUEUE_DROP, .PCE_STATUS,
      .PCE_CNT_MSIX_DROP, .HLM_CNT_NOTICE_DROP, .PWR_FAULT_SUMMARY] s (s.verdict n op sh) := by
  have hshown : Changes [.lum] [.LUM_CH_STATUS] s (s.verdictShown n op sh) := (s.setLm_changes ..).within.op (State.setFld_frame ..)
  unfold State.verdict
  extract_lets s1
  exact .cut (x := s1) (.ite (hshown.within.op (State.lumFault_changes ..)) hshown.within) fun hopen =>
    .ite (hopen.op (State.lumFault_changes ..)) hopen

theorem State.diag_verdict : (s.verdict n op sh).fld F.LUM_CH_STATUS_DIAG n = if op || sh then 3 else 1 := by
  have hkeep (t : State) (bit : Nat) : KeepsFld F.LUM_CH_STATUS_DIAG t (t.lumFault n bit) :=
    t.keepsFld_lumFault rfl (by decide)
  have hshown : KeepsFld F.LUM_CH_STATUS_DIAG (s.verdictShown n op sh) (s.verdict n op sh) := by
    unfold State.verdict
    extract_lets s1
    have hopen : KeepsFld F.LUM_CH_STATUS_DIAG (s.verdictShown n op sh) s1 := .ite (hkeep ..) (.refl ..)
    exact .ite (hopen.trans (hkeep ..)) hopen
  rw [hshown.fld n 0, State.verdictShown, State.fld_setFld_same _ _ _ _ (by decide)]
  split <;> rfl

/-- Whatever it finds, the rise is judged, nothing is due, and the gate has not risen. -/
theorem State.lm_verdict : ∃ low till, (s.verdict n op sh).lm n =
    { (s.verdictShown n op sh).lm n with lowAt := low, gateEnd := till } := by
  unfold State.verdict
  extract_lets s1
  have hopen : ∃ low till, s1.lm n = { (s.verdictShown n op sh).lm n with lowAt := low, gateEnd := till } := by
    unfold s1
    split
    · exact State.lm_lumFault _ (by decide)
    · exact ⟨_, _, rfl⟩
  split
  · obtain ⟨low, till, hs1⟩ := hopen
    obtain ⟨low', till', hshort⟩ := s1.lm_lumFault (n := n) (bit := 1) (by decide)
    exact ⟨low', till', hshort.trans (by rw [hs1])⟩
  · exact hopen

theorem State.bit_verdict_open (sh : Bool) : getBits ((s.verdict n true sh).rd .LUM_CH_FAULT n) 0 1 = 1 := by
  unfold State.verdict
  extract_lets s1
  have hopen : getBits (s1.rd .LUM_CH_FAULT n) 0 1 = 1 := State.bit_lumFault _ (by decide)
  split
  · exact s1.bit_lumFault_other (by decide) (by decide) hopen
  · exact hopen

theorem State.bit_verdict_short (op : Bool) : getBits ((s.verdict n op true).rd .LUM_CH_FAULT n) 1 1 = 1 :=
  State.bit_lumFault _ (by decide)

/-- Of a lit gate whose end is not set: either the gate stays so, or a fault has latched. -/
theorem State.verdict_held_or_lit (hlit : s.flag F.LUM_CH_STATUS_LIT n) (hend : (s.lm n).gateEnd = none) :
    (s.verdict n op sh).gateHeld n ∨
      ((s.verdict n op sh).flag F.LUM_CH_STATUS_LIT n ∧ ((s.verdict n op sh).lm n).gateEnd = none) := by
  unfold State.verdict
  extract_lets s1
  cases sh
  case true => exact .inl (State.gateHeld_of_faulted (s1.lumFaulted_lumFault (by decide)))
  case false =>
    cases op
    case true => exact .inl (State.gateHeld_of_faulted (State.lumFaulted_lumFault _ (by decide)))
    case false =>
      have hkeep : KeepsFld F.LUM_CH_STATUS_LIT s (s.verdictShown n false false) :=
        ⟨(State.keepsFld_setFld (s.setLm n _) _ n 0 (by decide)).fld⟩
      refine .inr ⟨?_, ?_⟩
      · show (s.verdictShown n false false).flag _ _ = true
        rwa [State.flag, hkeep.fld]
      · show ((s.setLm n _).lm n).gateEnd = none
        rw [State.lm_setLm]
        exact hend

end

/-- What a window judges: no current at the limit of the gate is an open string, too low a voltage a short one (R355). -/
def State.judgesOpen (s : State) (n : Nat) (im : BitVec 17) (lim : Bool) : Bool := decide (2 * im.toNat < s.lumSet n) && lim
def State.judgesShort (s : State) (n : Nat) (uv : BitVec 22) : Bool :=
  decide (s.vString n uv.toNat < s.fld F.LUM_CH_DIAG_VF_SHORT n)

section
variable {n : Fin 8} {s : State} (dt : Nat) (im : BitVec 17) (uv : BitVec 22) (lim : Bool) (hready : s.ready)
  (hgate : s.flag F.LUM_CH_STATUS_LIT n ∧ (s.lm n).judged = false ∧ (s.lm n).gateEnd = none) (hmode : s.lumChMode n ≠ 2)
include hready hgate hmode

theorem exec_diagWindow_judges :
    exec (.diagWindow n dt im uv lim) s = .next (((s.passTo dt ((s.lm n).gateAt + 2500)).verdict n (s.judgesOpen n im lim)
      (s.judgesShort n uv)).lumGate n) := by
  obtain ⟨hlit, hjudged, hend⟩ := hgate
  show execDiagWindow n dt im uv lim s = _
  refine congrArg Host.Outcome.next ((if_neg ?_).trans rfl)
  simp [hlit, hjudged, hend, hready, hmode]

/-- A gate that stays on for a whole window is judged; the verdict shows, and its faults latch. -/
theorem exec_diagWindow_shows :
    ∃ t, exec (.diagWindow n dt im uv lim) s = .next t ∧ (t.lm n).judged ∧ (t.lm n).due = none ∧ (t.lm n).undiag = false ∧
      t.fine = max (s.fine + dt) ((s.lm n).gateAt + 2500) ∧
      t.fld F.LUM_CH_STATUS_DIAG n = (if s.judgesOpen n im lim || s.judgesShort n uv then 3 else 1) ∧
      (s.judgesOpen n im lim → getBits (t.rd .LUM_CH_FAULT n) 0 1 = 1) ∧
      (s.judgesShort n uv → getBits (t.rd .LUM_CH_FAULT n) 1 1 = 1) := by
  have ⟨hlit, _, hend⟩ := hgate
  set w := s.passTo dt ((s.lm n).gateAt + 2500)
  obtain ⟨low, till, hlm⟩ := w.lm_verdict n (s.judgesOpen n im lim) (s.judgesShort n uv)
  obtain ⟨low', till', hgated⟩ := State.lm_lumGate_noRise
    (w.verdict_held_or_lit n (s.judgesOpen n im lim) (s.judgesShort n uv) hlit hend)
  have hshown (op sh : Bool) : (w.verdictShown n op sh).lm n = { s.lm n with
      judged := true, due := none, undiag := false, diagLast := w.fine, diagAt := none } := State.lm_setLm ..
  rw [hlm, hshown] at hgated
  have hfault := (State.lumGate_changes (w.verdict n (s.judgesOpen n im lim) (s.judgesShort n uv)) n).regs .LUM_CH_FAULT (by decide) n 0
  refine ⟨_, exec_diagWindow_judges dt im uv lim hready hgate hmode, by rw [hgated], by rw [hgated], by rw [hgated], ?_, ?_,
    fun hopen => ?_, fun hshort => ?_⟩
  · exact (State.lumGate_changes ..).sameFine.trans (State.verdict_changes ..).sameFine
  · exact ((State.keepsFld_lumGate (by decide) ..).fld n 0).trans (State.diag_verdict ..)
  · rw [hfault, hopen]
    exact State.bit_verdict_open ..
  · rw [hfault, hshort]
    exact State.bit_verdict_short ..

end

theorem exec_verdictDue_notes {n : Fin 8} {s : State} (dt : Nat) (hready : s.ready)
    (hdue : s.lumActs n ∧ (s.lm n).due = none) :
    exec (.verdictDue n dt) s = .next (
      let u := s.passTo dt ((s.lm n).diagLast + atLeast1 (s.fld F.LUM_CH_DIAG_DIAG_PERIOD n) * 1250000)
      u.setLm n { u.lm n with due := some u.fine }) := by
  obtain ⟨hacts, hnone⟩ := hdue
  show execVerdictDue n dt s = _
  simp [execVerdictDue, hready, hacts, hnone]

/-- The instant at which a due diagnostic pulse starts, where it finds one (R357). -/
theorem exec_diagPulse_drives {n : Fin 8} {dt t0 : Nat} {s : State} (hready : s.ready)
    (hdue : s.lumActs n ∧ s.lumFaulted n = false ∧ (s.lm n).due.isSome ∧ (s.lm n).diagAt = none)
    (hstart : (if s.lumChMode n = 1 ∨ s.fld F.LUM_CH_EXP_EXP_LEN n = 0 then some (s.fine + dt)
      else gapStart (s.fine + dt) (s.lm n).windows) = some t0) :
    exec (.diagPulse n dt) s = .next (
      let u := s.passTo dt t0
      (u.setLm n { u.lm n with diagAt := some u.fine }).gateRise n (some (u.fine + 2500))) := by
  obtain ⟨hacts, hsound, hsome, hidle⟩ := hdue
  show execDiagPulse n dt s = _
  simp [execDiagPulse, hstart, hready, hacts, hsound, hidle, Option.isNone_eq_false_iff.2 hsome]

theorem exec_undiagnosed_shows {n : Fin 8} {d : Nat} {s : State} (dt : Nat) (hready : s.ready)
    (hdue : (s.lm n).due = some d ∧ (s.lm n).undiag = false) :
    exec (.undiagnosed n dt) s = .next (
      let u := s.passTo dt (d + finePerSec)
      ((u.setLm n { u.lm n with undiag := true }).setFld F.LUM_CH_STATUS_DIAG 2 n).bump .LUM_CNT_UNDIAG n) := by
  obtain ⟨hsome, hfirst⟩ := hdue
  show execUndiagnosed n dt s = _
  simp [execUndiagnosed, hready, hsome, hfirst]

/-! ## Forward-voltage tests (R359) -/

theorem exec_vfTest_may {who : Requester} {n : Fin 8} {s : State} (hmay : s.mayWrite who .LUM_CH_CMD n)
    (hmode : s.mode ≠ modeOff ∧ s.mode ≠ modeLoad) :
    exec (.vfTest who n) s =
      .next (if s.lumChMode n ≠ 0 then s.setFld F.LUM_CH_STATUS_CMD_REFUSED 1 n else s.vfStart n) := by
  obtain ⟨hoff, hload⟩ := hmode
  exact congrArg Host.Outcome.next ((State.writeGate_may _ hmay).trans (if_neg (by simp [hoff, hload])))

section
variable {s : State} {n : Nat}

theorem State.vfStart_starts (hon : s.lumOn n) (hidle : (s.lm n).vfAt = none) :
    s.vfStart n = (s.setLm n { s.lm n with vfAt := some s.fine }).lumGate n := by
  simp [State.vfStart, hon, hidle]

/-- A test runs from the instant it starts at. -/
theorem State.vfAt_vfStart (hon : s.lumOn n) (hidle : (s.lm n).vfAt = none) : ((s.vfStart n).lm n).vfAt = some s.fine := by
  obtain ⟨low, rise, till, judged, hlm⟩ := (s.setLm n { s.lm n with vfAt := some s.fine }).lm_lumGate n
  rw [State.vfStart_starts hon hidle, hlm, State.lm_setLm]

/-- A test drives the gate of a channel with no fault. -/
theorem State.lit_vfStart (hon : s.lumOn n) (hidle : (s.lm n).vfAt = none) (hsound : s.lumFaulted n = false) :
    (s.vfStart n).flag F.LUM_CH_STATUS_LIT n := by
  rw [State.vfStart_starts hon hidle]
  exact State.lit_lumGate_steady (by simp [State.gateSteady, hon, hsound])

theorem State.vfStart_running {t0 : Nat} (hrun : (s.lm n).vfAt = some t0) : s.vfStart n = s := by
  simp [State.vfStart, hrun]

theorem State.lm_vfStart_ne (s : State) (n : Nat) {m : Nat} (h : m ≠ n) : (s.vfStart n).lm m = s.lm m := by
  unfold State.vfStart
  split
  · rfl
  · rw [State.lm_lumGate_ne _ _ h, State.lm_setLm_ne _ _ _ h]

/-- The starts of tests of other channels, or of this one, leave a test that runs as it is. -/
theorem State.vfAt_vfAll_running {t0 : Nat} (l : List Nat) (s : State) (hrun : (s.lm n).vfAt = some t0) :
    ((State.vfAll l s).lm n).vfAt = some t0 := by
  induction l generalizing s with
  | nil => exact hrun
  | cons m rest ih =>
    refine ih _ ?_
    split
    · by_cases hm : n = m
      · subst hm
        rwa [State.vfStart_running hrun]
      · rwa [State.lm_vfStart_ne _ _ hm]
    · exact hrun

/-- Every idle channel of the list with VF_EN that has power starts its test. -/
theorem State.vfAt_vfAll {l : List Nat} (s : State) (hmem : n ∈ l) (hen : s.flag F.LUM_CH_CFG_VF_EN n) (hon : s.lumOn n)
    (hidle : (s.lm n).vfAt = none) : ((State.vfAll l s).lm n).vfAt = some s.fine := by
  induction l generalizing s with
  | nil => cases hmem
  | cons m rest ih =>
    by_cases hm : n = m
    · subst hm
      refine State.vfAt_vfAll_running rest _ ?_
      rw [if_pos hen]
      exact State.vfAt_vfStart hon hidle
    · have hstep : Changes [.outbox, .lum] [.LUM_CH_STATUS] s (if s.flag F.LUM_CH_CFG_VF_EN m then s.vfStart m else s) :=
        .ite (s.vfStart_changes m) (.refl ..)
      have hlm : (if s.flag F.LUM_CH_CFG_VF_EN m then s.vfStart m else s).lm n = s.lm n := by
        split
        · exact State.lm_vfStart_ne _ _ hm
        · rfl
      rw [← hstep.sameFine]
      exact ih _ ((List.mem_cons.1 hmem).resolve_left hm) ((hstep.flag n).trans hen) ((hstep.lumOn n).trans hon)
        ((congrArg Lum.vfAt hlm).trans hidle)

end

/-- The periodic tests start: of every channel with VF_EN, from now on. -/
def State.vfRound (u : State) : State := State.vfAll (List.range 8) { u with proj := { u.proj with vfLast := u.fine } }

theorem State.fine_vfRound (u : State) : u.vfRound.fine = u.fine := (State.vfAll_changes ..).sameFine

theorem State.vfLast_vfRound (u : State) : u.vfRound.proj.vfLast = u.fine :=
  congrArg Proj.vfLast ((State.vfAll_changes ..).parts .proj (by decide))

theorem exec_vfPeriod_idle {s : State} (dt : Nat) (hready : s.ready) (hmode : s.mode = modeIdle) :
    exec (.vfPeriod dt) s =
      .next (s.passTo dt (s.proj.vfLast + atLeast1 (s.rd .LUM_VF_PERIOD).toNat * finePerSec)).vfRound := by
  show execVfPeriod dt s = _
  simp [execVfPeriod, hready, hmode, State.vfRound]

/-- The test of channel `n` is over, with `v` in VF_LAST. -/
def State.vfStored (s : State) (n v : Nat) : State :=
  ((s.setLm n { s.lm n with vfAt := none }).setFld F.LUM_CH_VF_VF_LAST v n).lumGate n

/-- A voltage beyond the limits is warned of and published. -/
def State.vfJudged (s : State) (n k : Nat) : State :=
  if k < s.fld F.LUM_CH_VF_LIM_VF_MIN n || s.fld F.LUM_CH_VF_LIM_VF_MAX n < k then
    (s.setFld F.LUM_CH_STATUS_VF_WARN 1 n).lumPublish n 4
  else s

/-- What VF_LAST takes of a voltage beyond its 16 bits is free; any other it stores (DEDUCED, log entry 86). -/
theorem exec_vfTestEnd_stores {n : Fin 8} {dt t0 k : Nat} {uv : BitVec 22} {s : State} (hrun : (s.lm n).vfAt = some t0)
    (hk : s.vString n uv.toNat = k) :
    ∃ w v, exec (.vfTestEnd n dt uv) s = .next ((w.vfStored n v).vfJudged n k) ∧
      Changes [.freeCtr] [] (s.passTo dt (t0 + 1250000)) w ∧ (k < 0x10000 → v = k) := by
  have hv : (s.passTo dt (t0 + 1250000)).vString n uv.toNat = k := hk
  have hexec (f : BitVec 16 × State)
      (hf : f = if k < 0x10000 then (BitVec.ofNat 16 k, s.passTo dt (t0 + 1250000)) else (s.passTo dt (t0 + 1250000)).freeBits 16) :
      exec (.vfTestEnd n dt uv) s = .next ((f.2.vfStored n f.1.toNat).vfJudged n k) := by
    subst hf
    show execVfTestEnd n dt uv s = _
    simp only [execVfTestEnd, hrun, hv]
    rfl
  refine ⟨_, _, hexec _ rfl, ?_, fun hlt => ?_⟩
  · split
    · exact .refl ..
    · exact State.freeBits_changes ..
  · rw [if_pos hlt, BitVec.toNat_ofNat]
    exact Nat.mod_eq_of_lt hlt

section
variable (s : State) (n v k : Nat)

theorem State.vfAt_vfStored : ((s.vfStored n v).lm n).vfAt = none := by
  obtain ⟨low, rise, till, judged, hlm⟩ :=
    ((s.setLm n { s.lm n with vfAt := none }).setFld F.LUM_CH_VF_VF_LAST v n).lm_lumGate n
  rw [State.vfStored, hlm, State.lm_setFld, State.lm_setLm]

theorem State.vfStored_changes : Changes [.outbox, .lum] [.LUM_CH_STATUS, .LUM_CH_VF] s (s.vfStored n v) :=
  ((s.setLm_changes ..).within.op (State.setFld_frame ..)).op (State.lumGate_changes ..)

theorem State.vfLast_vfStored : (s.vfStored n v).fld F.LUM_CH_VF_VF_LAST n = v % 2 ^ 16 :=
  ((State.lumGate_changes ..).fld (by decide) n 0).trans (State.fld_setFld_same _ _ _ _ (by decide))

theorem State.vfJudged_changes : Changes [.hal] [.LUM_CH_STATUS, .HAL_CNT_QUEUE_DROP] s (s.vfJudged n k) :=
  .ite ((s.setFld_frame ..).within.op (State.lumPublish_changes ..)) (.refl ..)

theorem State.vfWarn_vfJudged (h : k < s.fld F.LUM_CH_VF_LIM_VF_MIN n ∨ s.fld F.LUM_CH_VF_LIM_VF_MAX n < k) :
    (s.vfJudged n k).flag F.LUM_CH_STATUS_VF_WARN n := by
  rw [State.vfJudged, if_pos (by simpa using h), (State.lumPublish_changes ..).flag n]
  exact State.flag_setFld _ 1 n (by decide) (by decide)

end

/-- The end of a test frees the channel, stores the voltage and warns of one beyond the limits. -/
theorem exec_vfTestEnd_frees {n : Fin 8} {dt t0 k : Nat} {uv : BitVec 22} {s : State} (hrun : (s.lm n).vfAt = some t0)
    (hk : s.vString n uv.toNat = k) :
    ∃ t, exec (.vfTestEnd n dt uv) s = .next t ∧ (t.lm n).vfAt = none ∧ (k < 0x10000 → t.fld F.LUM_CH_VF_VF_LAST n = k) ∧
      t.fine = max (s.fine + dt) (t0 + 1250000) ∧
      (k < s.fld F.LUM_CH_VF_LIM_VF_MIN n ∨ s.fld F.LUM_CH_VF_LIM_VF_MAX n < k → t.flag F.LUM_CH_STATUS_VF_WARN n) := by
  obtain ⟨w, v, hexec, hw, hv⟩ := exec_vfTestEnd_stores hrun hk (dt := dt)
  have hjudged := (w.vfStored n v).vfJudged_changes n k
  have hstored : Changes [.outbox, .lum, .freeCtr] [.LUM_CH_STATUS, .LUM_CH_VF] (s.passTo dt (t0 + 1250000)) (w.vfStored n v) :=
    hw.within.op (State.vfStored_changes ..)
  refine ⟨_, hexec, ?_, fun hlt => ?_, hjudged.sameFine.trans hstored.sameFine, fun hout => State.vfWarn_vfJudged _ n k ?_⟩
  · rw [hjudged.lm (by decide), State.vfAt_vfStored]
  · rw [hjudged.fld (by decide), State.vfLast_vfStored, hv hlt]
    exact Nat.mod_eq_of_lt hlt
  · rwa [hstored.fld (f := F.LUM_CH_VF_LIM_VF_MIN) (by decide), hstored.fld (f := F.LUM_CH_VF_LIM_VF_MAX) (by decide)]

/-- Settles O59: each command is its `exec_` lemma, and what the gate, the faults and the tests of the channel do is said by the
lemma of its operation. -/
theorem lightChannels : Obligations.LightChannels := by
  unfold Obligations.LightChannels
  refine ⟨fun n dt t0 rest u s hready hfront hu hmode => ⟨_, exec_strobeStart_begins hready hfront hu hmode, ?start⟩,
    fun n dt e u s hready hend hu => ⟨_, exec_strobeEnd_ends hready hend hu, ?stop⟩,
    fun n dt on want u s hready hu hlit hlevel hwant hon => exec_dimPulse_books hready hu ?dims hwant hon,
    fun n dt im uv lim s hready hgate hmode => ?window,
    fun n dt c u s hready hu hon => ⟨_, exec_lightFault_judges c hready hu hon, ?fault⟩,
    fun who n bits persist s hmay => ⟨_, exec_lightFaultClear_may bits persist hmay, ?clear⟩,
    fun n dt s hready hdue => ⟨_, exec_verdictDue_notes dt hready hdue, ?due, rfl⟩,
    fun n dt t0 s hready hdue hstart => ⟨_, exec_diagPulse_drives hready hdue hstart, rfl, ?pulse,
      State.emits_gateRise .., State.lit_gateRise ..⟩,
    fun n dt d s hready hdue => ⟨_, exec_undiagnosed_shows dt hready hdue, ?undiag⟩,
    fun who n s hmay hmode => ⟨_, exec_vfTest_may hmay hmode, fun hbusy => if_pos hbusy, fun hidle hon hnone => ?test⟩,
    fun dt s hready hmode => ⟨_, exec_vfPeriod_idle dt hready hmode, ?period⟩,
    fun n dt t0 k uv s hrun hk => exec_vfTestEnd_frees hrun hk⟩
  case start =>
    obtain ⟨low, rise, till, judged, hlm⟩ := (u.strobeBegun n t0 rest).lm_lumGate n
    have hbegun := u.lm_setLm n { u.lm n with
      strobes := rest, endAt := some (max (t0 + fineOf10ns (u.fld F.LUM_CH_STROBE_STROBE_W n)) ((u.lm n).endAt.getD 0)),
      carry := 0, level := u.fld F.LUM_CH_LEVEL_LEVEL n, dimAt := t0 }
    rw [← State.strobeBegun] at hbegun
    rw [hbegun] at hlm
    rw [hlm]
    exact ⟨rfl, rfl, rfl, rfl, fun hsound hknee => State.lit_lumGate_steady (State.gateSteady_strobeBegun t0 rest hmode hsound hknee)⟩
  case stop =>
    obtain ⟨low, rise, till, judged, hlm⟩ := (u.strobeOver n).lm_lumGate n
    rw [State.strobeOver, State.lm_setLm, ← State.strobeOver] at hlm
    rw [hlm]
    exact ⟨rfl, rfl, State.lit_strobeOver⟩
  case dims =>
    obtain ⟨hlit, hsound⟩ := hlit
    obtain ⟨hpos, hbelow⟩ := hlevel
    simp [State.dims, hlit, hsound, hbelow, hpos.ne']
  case window =>
    obtain ⟨t, hexec, hjudged, hdue, hundiag, hfine, hdiag, hopen, hshort⟩ :=
      exec_diagWindow_shows dt im uv lim hready hgate hmode
    refine ⟨t, hexec, hjudged, hdue, hundiag, hfine, fun hcurrent hlim => ?_, fun hvolt => ?_, fun hcurrent hvolt => ?_⟩
    · have h : s.judgesOpen n im lim := by simp [State.judgesOpen, hcurrent, hlim]
      exact ⟨by simpa [h] using hdiag, hopen h⟩
    · have h : s.judgesShort n uv := by simp [State.judgesShort, hvolt]
      exact ⟨by simpa [h] using hdiag, hshort h⟩
    · simpa [State.judgesOpen, State.judgesShort, Nat.not_lt.2 hcurrent, Nat.not_lt.2 hvolt] using hdiag
  case fault =>
    have hsync : u.flag F.LUM_CH_STATUS_LIT n → u.lumFaulted n = false := by
      rw [← hu]
      exact State.lumFaulted_of_lit_lumGate
    refine ⟨fun hlit hover => ?_, fun hdark hleak => ?_, fun hlit hset hfull => ?_, fun hdark hlow => ?_⟩
    · rw [if_pos hlit, if_pos hover]
      exact ⟨u.bit_lumFault (by decide), u.lit_lumFault (by decide) hsync⟩
    · rw [if_neg (by simp [hdark]), if_pos hleak]
      exact u.bit_lumFault (by decide)
    · rw [if_pos hlit, if_neg (by omega)]
    · rw [if_neg (by simp [hdark]), if_neg (by omega)]
  case clear =>
    exact ((State.lumGate_changes ..).regs _ (by decide) n 0).trans (State.rd_wr_self ..)
  case due =>
    rw [State.lm_setLm]
    rfl
  case pulse =>
    rw [State.lm_gateRise, State.lm_setLm]
    rfl
  case undiag =>
    refine ⟨?_, ?_, (State.counted_bump ..).after (P := [.fine, .lum]) (R := [.LUM_CH_STATUS]) ?_ (by decide), rfl⟩
    · rw [State.lm_bump, State.lm_setFld, State.lm_setLm]
    · rw [State.fld_bump_reg _ _ _ _ _ (by decide), State.fld_setFld_same _ _ _ _ (by decide)]
      rfl
    · exact ((s.passTo_changes ..).within.op (State.setLm_changes ..)).op (State.setFld_frame ..)
  case test =>
    rw [if_neg (by simp [hidle])]
    exact ⟨State.vfAt_vfStart hon hnone, State.lit_vfStart hon hnone⟩
  case period =>
    refine ⟨State.fine_vfRound _, ?_, fun n hen hon hidle => ?_⟩
    · rw [State.vfLast_vfRound, State.fine_vfRound]
    · rw [State.fine_vfRound]
      exact State.vfAt_vfAll _ (List.mem_range.2 n.isLt) hen hon hidle

end
end Sys2Proof.Machine

/-! # DAC updates, modulation, words, tracking, paced pulses and meter readings of a beam channel (O45) -/

namespace Sys2Proof.Machine
section
set_option Elab.async false

/-- A command on a beam that is present in a block that is ready acts with its plan run up to the present. -/
theorem State.beamAt_runs {s : State} {n : Nat} (dt : Nat) (k : State → State) (h : s.beamRuns n) :
    s.beamAt n dt k = k (s.beamThen n dt) := by
  simp only [State.beamRuns, Bool.and_eq_true] at h
  obtain ⟨hbeam, hready⟩ := h
  rw [State.beamAt, hbeam, hready]
  rfl

/-! ## A command applied (R253, R274, R276, R291) -/

/-- The watchdog gets its copy of the power, and a sample on its way is applied. -/
def State.powerApplied (s : State) (n c t : Nat) : State := (s.powerCopy n c).sampleApplied n t

theorem State.powerApplied_changes (s : State) (n c t : Nat) :
    Changes [.sht, .bch] [.SHT_STATUS, .SHT_LAST_OUT, .SHT_LAST_DELAY, .SHT_DELAY_MAX, .SHT_CNT_SUPERSEDED, .SHT_CNT_LOG_DROP] s
      (s.powerApplied n c t) :=
  (s.powerCopy_changes n c).within.op (State.sampleApplied_changes ..)

theorem State.outbox_powerApplied (s : State) (n c t : Nat) : (s.powerApplied n c t).outbox = s.outbox :=
  (s.powerApplied_changes n c t).parts .outbox (by decide)

/-- Of the channel only the copy changes. -/
theorem State.bc_powerApplied (s : State) (n c t : Nat) :
    ∃ high, (s.powerApplied n c t).bc n = { s.bc n with cApplied := c, powAt := s.fine, highAt := high } :=
  ⟨_, ((State.sampleApplied_changes ..).bc (by decide) n).trans (State.bc_setBc ..)⟩

/-! ## DAC updates and digital words (R268, R271, R276 to R278) -/

/-- The code of the DAC: the profile's while the channel drives its analog output, else the idle code (R276). -/
def State.dacCode (u : State) (n : Nat) : Nat :=
  if u.driving n && u.fld F.BCH_CFG_OUT_SEL n != 1 then u.codeFor n (u.beamC n) else u.fld F.BCH_OUT_CFG_IDLE_CODE n

/-- The code goes out. -/
def State.dacShown (u : State) (n : Nat) : State :=
  ((u.setFld F.BCH_STATUS_BELOW_KNEE (b2n (u.beamC n < u.fld F.BCH_HYBRID_KNEE n)) n).setBc n
    { u.bc n with code := u.dacCode n }).emit (.dac n (u.dacCode n))

/-- It applies the command where the analog output carries it: not below the knee of the hybrid split (R274). -/
def State.dacApplies (u : State) (n : Nat) : Bool :=
  u.driving n && u.fld F.BCH_CFG_OUT_SEL n != 1 &&
    !((u.dacShown n).hybrid n && decide (u.beamC n < u.fld F.BCH_HYBRID_KNEE n))

theorem exec_dacUpdate_shows {n : Fin 12} {dt : Nat} {s u : State} (hruns : s.beamRuns n) (hon : (s.beamThen n dt).domOn (44 + n))
    (hu : (s.beamThen n dt).setFld F.BCH_STATUS_PROFILE ((s.beamThen n dt).sc n).profile n = u) :
    exec (.dacUpdate n dt) s =
      .next (if u.dacApplies n then (u.dacShown n).powerApplied n (u.beamC n) u.fine else u.dacShown n) := by
  subst hu
  exact congrArg Host.Outcome.next ((State.beamAt_runs dt _ hruns).trans (if_neg (by simp [hon])))

/-- The code of a digital word (R276, R278). -/
def State.wordCode (u : State) (n : Nat) : Nat :=
  if u.driving n then u.codeFor n (u.beamC n) else u.fld F.BCH_OUT_CFG_IDLE_CODE n

/-- The word goes out on DPWR: a start bit, the code from its bit 0, its CRC-4, a stop bit (R278). -/
def State.wordSent (u : State) (n : Nat) : State :=
  (u.setBc n { u.bc n with word := u.wordCode n, wordAt := u.fine }).emit
    (.dpwr n ([true] ++ bitsLsb 16 (u.wordCode n) ++ bitsMsb 4 (crc4 (u.wordCode n)) ++ [false]))

theorem exec_digitalWord_sends {n : Fin 12} {dt : Nat} {s u : State} (hruns : s.beamRuns n) (hu : s.beamThen n dt = u)
    (hsel : u.fld F.BCH_CFG_OUT_SEL n = 1 ∨ u.fld F.BCH_CFG_OUT_SEL n = 2) (hcut : u.cutLatched n = false)
    (hfree : (u.bc n).wordAt + 2400 / 2 ^ u.fld F.BCH_CFG_DIG_RATE n ≤ u.fine) (hon : u.domOn (44 + n)) :
    exec (.digitalWord n dt) s = .next (
      if u.driving n && u.fld F.BCH_CFG_OUT_SEL n == 1 then (u.wordSent n).powerApplied n (u.beamC n) u.fine
      else u.wordSent n) := by
  subst hu
  refine congrArg Host.Outcome.next ((State.beamAt_runs dt _ hruns).trans (if_neg ?_))
  simpa [hcut, hon, hfree, or_iff_not_imp_left] using hsel

/-! ## Modulation periods (R274, R275) -/

theorem exec_modulationPeriod_due {n : Fin 12} {dt : Nat} {s u : State} (hruns : s.beamRuns n)
    (hmod : s.flag F.BCH_STATUS_EMIT n && s.hybrid n) (hu : (s.passTo dt (s.bc n).modDue).refresh n = u)
    (hstill : u.flag F.BCH_STATUS_EMIT n && u.hybrid n) (hdue : (u.bc n).modDue ≤ u.fine) :
    exec (.modulationPeriod n dt) s = .next (u.modPeriodAt n (u.bc n).modDue) := by
  simp only [State.beamRuns, Bool.and_eq_true] at hruns hstill
  obtain ⟨hbeam, hready⟩ := hruns
  obtain ⟨hemit, hhybrid⟩ := hstill
  show execModulationPeriod n dt s = _
  simp [execModulationPeriod, hbeam, hready, hmod, hu, hemit, hhybrid, hdue]

section
variable {u : State} {n t : Nat}

/-- At or above the knee MODn is held active from the start of the period. -/
theorem State.modPeriodAt_above (h : u.fld F.BCH_HYBRID_KNEE n ≤ u.beamC n) :
    ∃ w, w.bc n = { u.bc n with modAt := t, modLen := u.modPeriod n, modNew := false, modHeld := true, modOn := 0, duty := 65536 } ∧
      w.regs = u.regs ∧ w.outbox = u.outbox ∧ u.modPeriodAt n t = if (u.bc n).modHeld then w else w.emit (.modLevel n true t) :=
  ⟨_, State.bc_setBc .., rfl, rfl, if_pos h⟩

/-- What leaves at the start of a period below the knee: its pulse, or the end of a level held before. -/
def State.modEdges (u : State) (n t on : Nat) : List Out :=
  if on = 0 then (if (u.bc n).modHeld then [.modLevel n false t] else []) else [.modPulse n t on]

/-- The duty a period below the knee is to emit, in 2^-16 of a tick: its own and what the period before it carried over. -/
def State.modWant (u : State) (n : Nat) : Int := (u.dutyFor n (u.beamC n) * u.modPeriod n : Nat) + (u.bc n).carry

/-- The on time of its pulse: the duty rounded, at most the period, and none below the shortest pulse (R275). -/
def State.modOnTime (u : State) (n : Nat) : Nat :=
  if 0 < u.beamC n && decide (((max 0x32 (u.fld F.BCH_OUT_CFG_MIN_ON n) * 65536 : Nat) : Int) ≤ u.modWant n) then
    min (u.modPeriod n) ((u.modWant n + 32768) / 65536).toNat
  else 0

/-- The period has started, and carries over what its pulse leaves of the duty. -/
def State.modStarted (u : State) (n t : Nat) : State :=
  let on := u.modOnTime n
  let s1 := u.setBc n { u.bc n with
    modAt := t, modLen := u.modPeriod n, modNew := false, modHeld := false, modOn := on,
    duty := u.dutyFor n (u.beamC n), carry := u.modWant n - (on * 65536 : Nat) }
  let s2 := if (u.bc n).modHeld && on = 0 then s1.emit (.modLevel n false t) else s1
  if on = 0 then s2 else s2.emit (.modPulse n t on)

theorem State.modPeriodAt_below (h : u.beamC n < u.fld F.BCH_HYBRID_KNEE n) :
    u.modPeriodAt n t = (u.modStarted n t).powerApplied n (u.beamC n) t := if_neg (Nat.not_le.2 h)

theorem State.bc_modStarted : (u.modStarted n t).bc n = { u.bc n with
    modAt := t, modLen := u.modPeriod n, modNew := false, modHeld := false, modOn := u.modOnTime n,
    duty := u.dutyFor n (u.beamC n), carry := u.modWant n - (u.modOnTime n * 65536 : Nat) } := by
  simp only [State.modStarted, apply_ite (fun w : State => w.bc n), State.bc_emit, State.bc_setBc, ite_self]

theorem State.outbox_modStarted : (u.modStarted n t).outbox = u.outbox ++ u.modEdges n t (u.modOnTime n) := by
  unfold State.modStarted State.modEdges
  by_cases hon : u.modOnTime n = 0
  · cases hheld : (u.bc n).modHeld <;> simp [hon]
  · simp [hon]

end

/-! ## The tracking loop (R281, R283) -/

/-- The estimate of the position moves along its speed up to the present. -/
def State.trackMoved (u : State) (n : Nat) : State := u.setBc n { u.bc n with pHat := u.pathPos n, tHat := u.fine }

/-- A measurement `x`, taken at `at0`, corrects position and speed by `K1` and `K2`. -/
def State.trackCorrected (u : State) (n : Nat) (x : Int) (at0 : Nat) : State :=
  u.setBc n { u.bc n with
    pHat := u.pathPos n + u.fld F.BCH_TRACK_K1 n * (x - (u.bc n).pathAt at0) / 65536,
    vHat := (u.bc n).vHat + u.fld F.BCH_TRACK_K2 n * (x - (u.bc n).pathAt at0) / 1250, tHat := u.fine, meas := none }

section
variable {n : Fin 12} {dt : Nat} {s u : State}

theorem exec_trackingUpdate_unmeasured (hruns : s.beamRuns n) (hu : s.beamThen n dt = u) (hmeas : (u.bc n).meas = none)
    (hload : (u.bc n).reload = false) (hmoves : (u.sc n).inPause = false) :
    exec (.trackingUpdate n dt) s = .next ((u.trackMoved n).reversal n) := by
  refine congrArg Host.Outcome.next ((State.beamAt_runs dt _ hruns).trans ?_)
  simp [hu, hmeas, hload, hmoves, State.trackMoved]

theorem exec_trackingUpdate_paused {x : Int} {at0 : Nat} (hruns : s.beamRuns n) (hu : s.beamThen n dt = u)
    (hmeas : (u.bc n).meas = some (x, at0)) (hpause : (u.sc n).inPause) :
    exec (.trackingUpdate n dt) s = .next (u.trackCorrected n x at0) := by
  refine congrArg Host.Outcome.next ((State.beamAt_runs dt _ hruns).trans ?_)
  simp [hu, hmeas, hpause, State.trackCorrected, Bch.pathAt]

/-- The path at the present is the estimate made at the present. -/
theorem State.pathPos_trackMoved (u : State) (n : Nat) : (u.trackMoved n).pathPos n = u.pathPos n := by
  simp [State.pathPos, State.trackMoved, Bch.pathAt]

/-- Motion in the current direction takes H along and ends a hold. -/
theorem State.reversal_forward {n : Nat} (h : if u.goesDown n then u.pathPos n ≤ (u.bc n).hwm else (u.bc n).hwm ≤ u.pathPos n) :
    u.reversal n = (u.setBc n { u.bc n with hwm := u.pathPos n, past := false }).setFld F.BCH_STATUS_HELD 0 n := by
  refine if_pos ?_
  split at h <;> simp [*]

/-! ## Paced pulses (R282, R284) -/

/-- The last pulse position is the next one of the path. -/
def State.pulsePassed (u : State) (n : Nat) : State := u.setBc n { u.bc n with lastPos := u.pulsePos n }

/-- A pulse of PULSE_W at its edge. -/
def State.pulsePlaced (u : State) (n : Nat) : State :=
  let w := atLeast1 (u.fld F.BCH_PULSE_PULSE_W n)
  (((u.pulsePassed n).setBc n { (u.pulsePassed n).bc n with pulse := true, pulseEnd := u.pulseEdge n + w }).bump
    .BCH_CNT_PULSES n).emit (.modPulse n (u.pulseEdge n) w)

theorem State.bc_pulsePlaced (u : State) (n : Nat) : (u.pulsePlaced n).bc n = { u.bc n with
    lastPos := u.pulsePos n, pulse := true, pulseEnd := u.pulseEdge n + atLeast1 (u.fld F.BCH_PULSE_PULSE_W n) } := by
  simp [State.pulsePlaced, State.pulsePassed]

theorem exec_pacedPulse_crosses (hruns : s.beamRuns n) (hu : s.beamThen n dt = u) (hpaces : u.paces n)
    (hcross : if u.goesDown n then u.pathPos n ≤ u.pulsePos n else u.pulsePos n ≤ u.pathPos n) :
    exec (.pacedPulse n dt) s = .next (
      if u.pulseEdge n < (u.bc n).pulseEnd + 10 && (u.bc n).pulseEnd ≠ 0 then (u.pulsePassed n).bump .BCH_CNT_PULSE_SKIP n
      else u.pulsePlaced n) := by
  simp only [State.paces, Bool.and_eq_true, Bool.not_eq_true'] at hpaces
  obtain ⟨⟨⟨⟨hmode, hemit⟩, hheld⟩, hpast⟩, hmoves⟩ := hpaces
  subst hu
  refine congrArg Host.Outcome.next ((State.beamAt_runs dt _ hruns).trans ((if_neg ?_).trans (if_neg ?_)))
  · simp [hmode, hemit, hheld, hpast, hmoves]
  · change ¬ ((if (s.beamThen n dt).goesDown n then decide ((s.beamThen n dt).pulsePos n < (s.beamThen n dt).pathPos n)
      else decide ((s.beamThen n dt).pathPos n < (s.beamThen n dt).pulsePos n)) = true)
    split at hcross <;> simp [*]

/-- A pulse has ended once its end has come. -/
def State.pulseOver (u : State) (n : Nat) : State :=
  u.setBc n { u.bc n with pulse := (u.bc n).pulse && decide (u.fine < (u.bc n).pulseEnd) }

theorem exec_pulseEnd_runs (hruns : s.beamRuns n) (hpulse : (s.bc n).pulse) (hu : (s.passTo dt (s.bc n).pulseEnd).refresh n = u) :
    exec (.pulseEnd n dt) s = .next (u.pulseOver n) := by
  simp only [State.beamRuns, Bool.and_eq_true] at hruns
  obtain ⟨hbeam, hready⟩ := hruns
  show execPulseEnd n dt s = _
  simp [execPulseEnd, hbeam, hready, hpulse, hu, State.pulseOver]

end

/-! ## Meter readings (R294) -/

/-- A reading of `pm` is counted and shown in BCH_METER_LAST with profile `p` and the input. -/
def State.meterShown (s : State) (n p input pm : Nat) : State :=
  (s.bump .BCH_CNT_METER n).wr .BCH_METER_LAST (BitVec.ofNat 32 (pm + p * 2 ^ 16 + input * 2 ^ 19)) n

theorem State.counted_meterShown (s : State) (n p input pm : Nat) : Counted .BCH_CNT_METER n s (s.meterShown n p input pm) :=
  (s.counted_bump .BCH_CNT_METER n).before (R := [.BCH_METER_LAST]) (State.wr_frame ..) (by decide)

/-- The reading is judged, and the METER record ends: the profile before it is back and the emission stops. -/
def State.meterOver (s : State) (n cm p prev pm : Nat) : State :=
  let w := s.meterRule n p cm pm
  (((w.setSc n { w.sc n with profile := prev }).setFld F.BCH_STATUS_METER 0 n).setWant n false).waitDone n

theorem State.meterOver_changes (s : State) (n cm p prev pm : Nat) :
    Changes [.staged, .outbox, .freeCtr, .hal, .pce, .helm, .sht, .bch, .beams, .scn]
      [.BCH_FAULT, .BCH_STATUS, .HAL_CNT_QUEUE_DROP, .PCE_STATUS, .PCE_CNT_MSIX_DROP, .HLM_CNT_NOTICE_DROP,
        .PWR_FAULT_SUMMARY, .SHT_STATUS, .SHT_I_STATE, .SHT_LAST_OUT, .SHT_LAST_FRAME, .SHT_LAST_DELAY, .SHT_DELAY_MAX,
        .SHT_CNT_FALLBACK, .SHT_CNT_SUPERSEDED, .SHT_CNT_LOG_DROP, .SCN_STATUS, .SCN_HALT_RECORD, .SCN_HALT_OFFSET,
        .SCN_RECORD, .SCN_CNT_RECORDS, .SCN_CNT_HALT] s (s.meterOver n cm p prev pm) :=
  ((((s.meterRule_changes ..).within.op (State.setSc_changes ..)).op (State.setFld_frame ..)).op
    (State.setWant_changes ..)).op (State.waitDone_changes ..)

theorem exec_meterReading_ends {n : Fin 12} {adc : BitVec 16} {cm p prev input : Nat} {s : State} (hruns : s.beamRuns n)
    (hwait : (s.sc n).wait = .meter cm p prev input) :
    exec (.meterReading n adc) s = .next
      ((({ s with fine := max s.fine (s.sc n).waitAt }).meterShown n p input (s.pMeas n adc.toNat)).meterOver n cm p prev
        (s.pMeas n adc.toNat)) := by
  simp only [State.beamRuns, Bool.and_eq_true] at hruns
  obtain ⟨hbeam, hready⟩ := hruns
  show execMeterReading n adc s = _
  have hpow : { s with fine := max s.fine (s.sc n).waitAt }.pMeas n adc.toNat = s.pMeas n adc.toNat := rfl
  simp only [execMeterReading, hbeam, hready, hwait, hpow, Bool.not_true, Bool.or_self, Bool.false_eq_true, if_false]
  rfl

/-- Settles O45: each command by the next state it answers, read off field by field. -/
theorem beamPower : Obligations.BeamPower := by
  unfold Obligations.BeamPower
  refine ⟨?dac, ?held, ?period, ?word, ?moved, ?corrected, ?pulse, ?pulseEnd, ?meter⟩
  case dac =>
    intro n dt u s hruns hon hu
    refine ⟨_, exec_dacUpdate_shows hruns hon hu, ?_, ?_⟩
    · split
      · rw [State.outbox_powerApplied]
        rfl
      · rfl
    · have hcode : ((u.dacShown n).bc n).code = u.dacCode n := by simp [State.dacShown]
      split
      · obtain ⟨high, hbc⟩ := (u.dacShown n).bc_powerApplied n (u.beamC n) u.fine
        rw [hbc]
        exact hcode
      · exact hcode
  case held =>
    intro n dt u s hruns hmod hu hstill hdue hknee
    obtain ⟨w, hbc, hregs, hout, hnext⟩ := State.modPeriodAt_above (n := n) (t := (u.bc n).modDue) hknee
    refine ⟨_, exec_modulationPeriod_due hruns hmod hu hstill hdue, ?_⟩
    beta_reduce
    rw [hnext]
    cases hheld : (u.bc n).modHeld
    · rw [if_neg (by simp), State.bc_emit, hbc, State.outbox_emit, hout]
      exact ⟨rfl, rfl, rfl, hregs, rfl⟩
    · rw [if_pos rfl, hbc, hout]
      exact ⟨rfl, rfl, rfl, hregs, (List.append_nil _).symm⟩
  case period =>
    intro n dt u s hruns hmod hu hstill hdue hknee
    refine ⟨_, exec_modulationPeriod_due hruns hmod hu hstill hdue, ?_⟩
    beta_reduce
    obtain ⟨high, hbc⟩ := (u.modStarted n (u.bc n).modDue).bc_powerApplied n (u.beamC n) (u.bc n).modDue
    rw [State.bc_modStarted] at hbc
    rw [State.modPeriodAt_below hknee, hbc, State.outbox_powerApplied, State.outbox_modStarted]
    exact ⟨add_sub_cancel .., rfl, rfl, rfl⟩
  case word =>
    intro n dt u s hruns hu hsel hcut hfree hon
    refine ⟨_, exec_digitalWord_sends hruns hu hsel hcut hfree hon, ?_⟩
    beta_reduce
    have hbc : ((u.wordSent n).bc n) = { u.bc n with word := u.wordCode n, wordAt := u.fine } := State.bc_setBc ..
    split
    · obtain ⟨high, hpow⟩ := (u.wordSent n).bc_powerApplied n (u.beamC n) u.fine
      rw [hpow, hbc, State.outbox_powerApplied]
      exact ⟨rfl, rfl, rfl⟩
    · rw [hbc]
      exact ⟨rfl, rfl, rfl⟩
  case moved =>
    intro n dt u s hruns hu hmeas hload hmoves hforward
    refine ⟨_, exec_trackingUpdate_unmeasured hruns hu hmeas hload hmoves, ?_⟩
    beta_reduce
    have hbc : (u.trackMoved n).bc n = { u.bc n with pHat := u.pathPos n, tHat := u.fine } := State.bc_setBc ..
    rw [State.reversal_forward (by rw [State.pathPos_trackMoved, hbc]; exact hforward), State.bc_setFld, State.bc_setBc, hbc,
      State.pathPos_trackMoved]
    exact ⟨rfl, rfl, rfl, State.flag_setFld _ _ _ (by decide) (by decide)⟩
  case corrected =>
    intro n dt u x at0 s hruns hu hmeas hpause
    refine ⟨_, exec_trackingUpdate_paused hruns hu hmeas hpause, ?_⟩
    beta_reduce
    rw [State.trackCorrected, State.bc_setBc]
    exact ⟨rfl, rfl, rfl, rfl⟩
  case pulse =>
    intro n dt u s hruns hu hpaces hcross
    refine ⟨_, exec_pacedPulse_crosses hruns hu hpaces hcross, ?_, ?_, ?_⟩
    · split
      · rw [State.bc_bump, State.pulsePassed, State.bc_setBc]
      · rw [State.bc_pulsePlaced]
    · rintro ⟨hclose, hlater⟩
      rw [if_pos (by simp [hclose, hlater])]
      exact ⟨State.counted_bump .., rfl⟩
    · intro hapart
      rw [if_neg (by simpa [Nat.not_lt, or_iff_not_imp_left] using hapart)]
      rw [State.bc_pulsePlaced]
      exact ⟨State.counted_bump .., rfl, rfl, rfl⟩
  case pulseEnd =>
    intro n dt u s hruns hpulse hu hend
    refine ⟨_, exec_pulseEnd_runs hruns hpulse hu, ?_, rfl⟩
    rw [State.pulseOver, State.bc_setBc]
    simp [Nat.not_lt.2 hend]
  case meter =>
    intro n adc cm k prev input s hruns hwait
    refine ⟨_, exec_meterReading_ends hruns hwait, ?_, ?_, ?_⟩
    · have htime : Changes [.fine] [] s { s with fine := max s.fine (s.sc n).waitAt } := .fine (.refl ..) (by decide)
      exact ((State.counted_meterShown ..).before (State.meterOver_changes ..) (by decide)).after htime (by decide)
    · exact ((State.meterOver_changes ..).regs _ (by decide) n 0).trans (State.rd_wr_self ..)
    · exact (State.meterOver_changes ..).sameFine

end
end Sys2Proof.Machine

/-! # Frames of the scan family (O15, O16) -/

namespace Sys2Proof.Machine
section
set_option Elab.async false

/-- Settles O15, by the frame of each of its commands. -/
theorem recordsFrame : Obligations.RecordsFrame := by
  unfold Obligations.RecordsFrame
  exact fun c s hch => records_framed hch s

/-- Settles O16, by the frame of each of its commands. -/
theorem scanMotionFrame : Obligations.ScanMotionFrame := by
  unfold Obligations.ScanMotionFrame
  exact fun c s hch => scanMotion_framed hch s

end
end Sys2Proof.Machine

/-! # The motion of a beam and its halts (O57, O58) -/

namespace Sys2Proof.Machine
section
set_option Elab.async false

variable {n : Nat} {s t u : State}

/-! ## What the motion of a beam leaves alone (R315, R334, R335, R339) -/

/-- Of an interpreter what the motion of its beam leaves alone: its planner, what it has fetched and its Shroud port. -/
def Scn.feed (x : Scn) : Scn :=
  { x with plan := [], done := [], x := 0, y := 0, z := 0, p := 0, openLoop := false, profile := 0, derateNext := none,
           sDone := 0, overflow := false, pause := none, holdUntil := none, wait := .none }

/-- A field of SCN_STATUS that the motion leaves alone: the causes but for TEMP, and the link and what lies above it. -/
def Fld.still (f : Fld) : Bool :=
  decide (f.reg = .SCN_STATUS) && decide (6 ≤ f.lo ∧ f.lo + f.width ≤ 9 ∨ 15 ≤ f.lo ∧ f.lo + f.width ≤ 32)

/-- A field beside all of those: STATE, PSTATE, TEMP, DERATED and HALT_CAUSE. -/
def Fld.moving (g : Fld) : Bool := decide (g.lo + g.width ≤ 6 ∨ 9 ≤ g.lo ∧ g.lo + g.width ≤ 15)

theorem Fld.reg_of_still {f : Fld} (hf : f.still) : f.reg = .SCN_STATUS := by
  simp only [Fld.still, Bool.and_eq_true, decide_eq_true_eq] at hf
  exact hf.1

theorem Fld.besides_of_still {f g : Fld} (hf : f.still) (hg : g.moving) : f.besides g := by
  simp only [Fld.still, Fld.moving, Fld.besides, Bool.and_eq_true, decide_eq_true_eq] at *
  omega

theorem Fld.besides_symm {f g : Fld} (h : f.besides g) (hg : g.lo + g.width ≤ 32) : g.besides f := by
  simp only [Fld.besides, Bool.and_eq_true, decide_eq_true_eq] at h ⊢
  obtain ⟨-, hreg | hlow | hhigh⟩ := h
  · exact ⟨hg, .inl hreg.symm⟩
  · exact ⟨hg, .inr (.inr hlow)⟩
  · exact ⟨hg, .inr (.inl hhigh)⟩

/-- From `s` to `t` the interpreters but `n` and what SCN_STATUS shows of them are as they were, and so is the instant of the next
clearance check. -/
structure Elsewhere (n : Nat) (s t : State) : Prop where
  sc : ∀ m, m ≠ n → t.sc m = s.sc m
  status : OnlyAt .SCN_STATUS n s t
  checkAt : t.beams.checkAt = s.beams.checkAt

theorem Elsewhere.refl (n : Nat) (s : State) : Elsewhere n s s := ⟨fun _ _ => rfl, fun _ _ _ => rfl, rfl⟩

theorem Elsewhere.trans (h : Elsewhere n s t) (k : Elsewhere n t u) : Elsewhere n s u :=
  ⟨fun m hm => (k.sc m hm).trans (h.sc m hm), fun i j hi => (k.status i j hi).trans (h.status i j hi),
    k.checkAt.trans h.checkAt⟩

theorem Elsewhere.ite {c : Prop} [Decidable c] (ht : Elsewhere n s t) (hu : Elsewhere n s u) :
    Elsewhere n s (if c then t else u) := by
  split <;> assumption

theorem Changes.elsewhere {P : List Part} {R : List Reg} (h : Changes P R s t) (n : Nat) (hp : Part.scn ∉ P := by decide)
    (hb : Part.beams ∉ P := by decide) (hr : Reg.SCN_STATUS ∉ R := by decide) : Elsewhere n s t :=
  ⟨fun m _ => h.sc hp m, fun i j _ => h.regs _ hr i j, congrArg BchShared.checkAt (h.parts .beams hb)⟩

theorem State.wr_elsewhere (s : State) (r : Reg) (v : Word) (n j : Nat) : Elsewhere n s (s.wr r v n j) :=
  ⟨fun _ _ => rfl, fun _ _ hi => by rw [State.rd_wr, if_neg (fun h => hi h.2.1)], rfl⟩

theorem State.setFld_elsewhere (s : State) (f : Fld) (v n j : Nat) : Elsewhere n s (s.setFld f v n j) := s.wr_elsewhere ..

theorem State.bump_elsewhere (s : State) (r : Reg) (n j : Nat) : Elsewhere n s (s.bump r n j) := s.wr_elsewhere ..

theorem State.setSc_elsewhere (s : State) (n : Nat) (x : Scn) : Elsewhere n s (s.setSc n x) :=
  ⟨fun _ hm => State.sc_setSc_ne s n x hm, fun _ _ _ => rfl, rfl⟩

/-- From `s` to `t` the motion of beam `n` has gone on: its interpreter keeps what motion leaves alone, and the others keep all. -/
structure Motion (n : Nat) (s t : State) : Prop extends Elsewhere n s t where
  feed : (t.sc n).feed = (s.sc n).feed
  fld : ∀ f : Fld, f.still → t.fld f n = s.fld f n

theorem Motion.refl (n : Nat) (s : State) : Motion n s s := ⟨.refl n s, rfl, fun _ _ => rfl⟩

theorem Motion.trans (h : Motion n s t) (k : Motion n t u) : Motion n s u :=
  ⟨h.toElsewhere.trans k.toElsewhere, k.feed.trans h.feed, fun f hf => (k.fld f hf).trans (h.fld f hf)⟩

theorem Motion.ite {c : Prop} [Decidable c] (ht : Motion n s t) (hu : Motion n s u) : Motion n s (if c then t else u) := by
  split <;> assumption

/-- After motion, an operation on other parts and registers. -/
theorem Motion.op {P : List Part} {R : List Reg} (h : Motion n s t) (k : Changes P R t u) (hp : Part.scn ∉ P := by decide)
    (hb : Part.beams ∉ P := by decide) (hr : Reg.SCN_STATUS ∉ R := by decide) : Motion n s u :=
  h.trans ⟨k.elsewhere n hp hb hr, congrArg Scn.feed (k.sc hp n), fun _ hf => k.fld (fun hm => hr (Fld.reg_of_still hf ▸ hm)) n 0⟩

theorem Motion.setSc {x : Scn} (h : Motion n s t) (hx : x.feed = (s.sc n).feed := by rfl) : Motion n s (t.setSc n x) :=
  ⟨h.toElsewhere.trans (t.setSc_elsewhere n x), by rw [State.sc_setSc, hx], h.fld⟩

theorem Motion.setFld {g : Fld} {v : Nat} (h : Motion n s t) (hg : g.moving := by decide) : Motion n s (t.setFld g v n) :=
  h.trans ⟨t.setFld_elsewhere .., rfl, fun _ hf => (t.keepsFld_setFld v n 0 (Fld.besides_of_still hf hg)).fld n 0⟩

theorem Motion.flag {f : Fld} (h : Motion n s t) (hf : f.still := by decide) : t.flag f n = s.flag f n :=
  congrArg (· != 0) (h.fld f hf)

/-! ### The operations of the motion -/

theorem State.reRequest_motion (s : State) (n : Nat) : Motion n s (s.reRequest n) := by
  unfold State.reRequest
  exact .ite (.refl n s) ⟨⟨fun _ _ => rfl, fun _ _ _ => rfl, rfl⟩, rfl, fun _ _ => rfl⟩

theorem State.holdNotReady_motion (s : State) (n : Nat) : Motion n s (s.holdNotReady n) := by
  unfold State.holdNotReady
  dsimp only
  split
  · exact .refl n s
  · exact ((Motion.refl n s).setSc).trans (State.reRequest_motion ..)

theorem State.retire_motion (s : State) (n : Nat) (g : Seg) (rest : List Seg) : Motion n s (s.retire n g rest) := by
  unfold State.retire
  extract_lets x x1 rest1 s0 s1 s2 s3
  have hfeed : x1.feed = (s.sc n).feed := by
    unfold x1
    split <;> rfl
  have h0 : Motion n s s0 := (Motion.refl n s).setSc hfeed
  have h1 : Motion n s s1 := .ite h0 (h0.op (State.bump_frame ..))
  have h2 : Motion n s s2 := by
    unfold s2
    split
    · exact h1.setFld
    · exact h1
  have h3 : Motion n s s3 := h2.op (State.wr_frame ..)
  split
  · exact h3.op (State.publish_changes ..)
  · exact h3

theorem State.haltAt_motion (s : State) (n cause idx off : Nat) : Motion n s (s.haltAt n cause idx off) := by
  unfold State.haltAt
  extract_lets x s1 s2 s3
  have h1 : Motion n s s1 := (Motion.refl n s).setSc
  have h2 : Motion n s s2 := h1.setFld.setFld.setFld.op (State.setFld_frame ..)
  have h3 : Motion n s s3 := ((h2.op (State.wr_frame ..)).op (State.wr_frame ..)).op (State.bump_frame ..)
  exact ((h3.op (State.setWant_changes ..)).op (State.publish_changes ..)).op (State.shEngage_changes ..)

theorem State.setPhaseAt_motion (s : State) (n : Nat) (p : Pause) (phase t : Nat) : Motion n s (s.setPhaseAt n p phase t) :=
  (Motion.refl n s).setSc.setFld

theorem State.setPhase_motion (s : State) (n : Nat) (p : Pause) (phase : Nat) : Motion n s (s.setPhase n p phase) :=
  s.setPhaseAt_motion ..

theorem State.pause_setPhaseAt (s : State) (n : Nat) (p : Pause) (phase t : Nat) :
    ((s.setPhaseAt n p phase t).sc n).pause = some { p with phase := phase, since := t } := by
  rw [State.setPhaseAt, State.sc_setFld, State.sc_setSc]

theorem State.parked_motion (s : State) (n : Nat) (p : Pause) : Motion n s (s.parked n p) := by
  unfold State.parked
  dsimp only
  exact .ite (((Motion.refl n s).setSc).trans (State.haltAt_motion ..))
    ((Motion.ite (Motion.refl n s).setFld.setFld (.refl n s)).trans (State.setPhase_motion ..))

theorem State.holdPause_motion (s : State) (n : Nat) (p : Pause) : Motion n s (s.holdPause n p) := by
  unfold State.holdPause
  extract_lets x p1 s1
  have h1 : Motion n s s1 := (Motion.refl n s).setSc
  exact .ite (h1.trans (State.haltAt_motion ..)) (.ite h1 (h1.setFld.setFld.op (State.setWant_changes ..)))

/-- How the pause `p` may begin in `s`: the head holds, is parked, or goes on in a pause with the same halt cause. -/
def State.PauseBegun (s : State) (n : Nat) (p : Pause) (t : State) : Prop :=
  t = s.holdPause n p ∨ ∃ q w, q.haltCause = p.haltCause ∧ Motion n s w ∧ (t = w.parked n q ∨ t = w ∧ (w.sc n).pause = some q)

theorem Motion.parksIn {p q : Pause} (h : Motion n s t) (hq : q.haltCause = p.haltCause) : s.PauseBegun n p (t.parked n q) :=
  .inr ⟨q, t, hq, h, .inl rfl⟩

theorem Motion.pausesIn {p q : Pause} (h : Motion n s t) (ht : (t.sc n).pause = some q) (hq : q.haltCause = p.haltCause) :
    s.PauseBegun n p t :=
  .inr ⟨q, t, hq, h, .inr ⟨rfl, ht⟩⟩

@[simp] theorem State.sc_setWant (s : State) (n : Nat) (b : Bool) (m : Nat) : (s.setWant n b).sc m = s.sc m :=
  (State.setWant_changes ..).sc (by decide) m

theorem State.beginPause_begun (s : State) (n : Nat) (p : Pause) : s.PauseBegun n p (s.beginPause n p) := by
  unfold State.beginPause
  extract_lets x d tail
  clear_value tail
  split
  · extract_lets k c drawn ahead v emits p1 x1 s1 s2
    have h1 : Motion n s s1 := (Motion.refl n s).setSc
    have h2 : Motion n s s2 := h1.setFld
    split_ifs
    · exact h1.setSc.pausesIn (congrArg Scn.pause (State.sc_setSc ..)) rfl
    · exact (h2.op (State.setWant_changes ..)).parksIn rfl
    · refine (h2.setSc.setFld.op (State.setWant_changes ..)).pausesIn (q := { p1 with phase := 2 }) ?_ rfl
      rw [State.sc_setWant, State.sc_setFld, State.sc_setSc]
    · refine h2.setSc.setFld.pausesIn (q := { p1 with phase := 1 }) ?_ rfl
      rw [State.sc_setFld, State.sc_setSc]
    · exact .inl rfl
  · split
    · extract_lets drawn v p1 s1
      have h1 : Motion n s s1 := (Motion.refl n s).setSc.setFld.setFld
      have hp1 : (s1.sc n).pause = some p1 := congrArg Scn.pause (State.sc_setSc s n _)
      split_ifs
      · exact (h1.op (State.setWant_changes ..)).pausesIn (q := p1) (by rw [State.sc_setWant, hp1]) rfl
      · exact h1.pausesIn hp1 rfl
      · exact .inl rfl
    · exact .inl rfl

theorem State.beginPause_motion (s : State) (n : Nat) (p : Pause) : Motion n s (s.beginPause n p) := by
  obtain h | ⟨q, w, -, hw, h | ⟨h, -⟩⟩ := s.beginPause_begun n p
  · exact h ▸ s.holdPause_motion n p
  · exact h ▸ hw.trans (w.parked_motion n q)
  · exact h ▸ hw

/-- What holds of a state, and is kept where a pause begins in an interpreter that is not halted, where a piece is done, and where
the record and direction shown change, holds of the state with its plan run. -/
theorem State.runPlan_keeps {Q : State → Prop}
    (hbegin : ∀ s p, (s.sc n).pause = some p → s.scnState n ≠ scnHalted → Q s → Q (s.beginPause n p))
    (hretire : ∀ s g rest, (s.sc n).plan = g :: rest → Q s → Q (s.retire n g rest))
    (hshow : ∀ s t, Changes [] [.SCN_RECORD, .BCH_STATUS] s t → Q s → Q t) (fuel : Nat) (s : State) (hs : Q s) :
    Q (s.runPlan n fuel) := by
  induction fuel generalizing s with
  | zero => exact hs
  | succ fuel ih =>
    unfold State.runPlan
    extract_lets x due
    split
    next => exact hs
    next hstate =>
      have hst : s.scnState n ≠ scnHalted := by
        intro h
        simp [h] at hstate
      split
      · split
        next p hp => exact hbegin s p hp hst hs
        next => exact hs
      · split
        next => exact hs
        next g rest hplan =>
          split
          · exact hs
          · split
            · exact ih _ (hretire s g rest hplan hs)
            · exact hshow s _ (.ite ((State.wr_frame ..).within.op (State.setFld_frame ..)) (State.wr_frame ..).within) hs

theorem State.refresh_motion (s : State) (n : Nat) : Motion n s (s.refresh n) := by
  have hrun := State.runPlan_keeps (Q := Motion n s) (n := n) (fun t p _ _ h => h.trans (t.beginPause_motion n p))
    (fun t g rest _ h => h.trans (t.retire_motion n g rest)) (fun _ _ hc h => h.op hc) ((s.sc n).plan.length + 2)
    (s.holdNotReady n) (s.holdNotReady_motion n)
  exact hrun.op (State.shEngage_changes ..)

/-- Once its cause is shown, a pause starts, joins another, sends a re-entry back to rest or follows a ramp-on by motion. -/
theorem State.pauseFor_motion (s : State) (n cause : Nat) (p : Pause) :
    Motion n (s.setFld (causeField cause) 1 n) (s.pauseFor n cause p) := by
  unfold State.pauseFor
  extract_lets x s1
  split
  · exact (((Motion.refl n s1).setSc).op (State.bump_frame ..)).trans (State.refresh_motion ..)
  · exact .ite (State.setPhase_motion ..) (.ite ((Motion.refl n s1).setSc) (.refl n s1))

theorem State.resumeCheck_motion (s : State) (n : Nat) : Motion n s (s.resumeCheck n) := by
  unfold State.resumeCheck
  extract_lets x plan s1
  split
  · exact .refl n s
  · exact .ite (.refl n s) (.ite ((Motion.refl n s).setSc) (.ite (State.setPhase_motion ..)
      (.ite (((Motion.refl n s).setSc).setFld.setFld.trans (State.reRequest_motion ..)) (.refl n s))))

theorem State.cleanHalt_motion (s : State) (n cause tS idx off : Nat) : Motion n s (s.cleanHalt n cause tS idx off) := by
  unfold State.cleanHalt
  extract_lets st x
  refine .ite ?_ (.ite (State.haltAt_motion ..) (.refl n s))
  split
  · exact ((Motion.refl n s).setSc).trans (State.refresh_motion ..)
  · exact .ite (.ite ((Motion.refl n s).setSc) (.ite ((State.setPhase_motion ..).op (State.setWant_changes ..))
      (((Motion.refl n s).setSc).trans (State.haltAt_motion ..)))) ((Motion.refl n s).setSc)

theorem State.hardHalt_motion (s : State) (n cause : Nat) : Motion n s (s.hardHalt n cause) := by
  unfold State.hardHalt
  dsimp only
  split
  · exact .ite (((Motion.refl n s).setSc).trans (State.haltAt_motion ..))
      ((State.beginPause_motion ..).trans (State.haltAt_motion ..))
  · exact (State.beginPause_motion ..).trans (State.haltAt_motion ..)

theorem State.hardHaltActive_motion (s : State) (n cause : Nat) : Motion n s (s.hardHaltActive n cause) :=
  .ite (State.hardHalt_motion ..) (.refl n s)

theorem State.overflowHalt_motion (s : State) (n : Nat) : Motion n s (s.overflowHalt n) :=
  .ite (State.cleanHalt_motion ..) (.refl n s)

/-! ## Halts (R339) -/

/-- What SCN_STATUS shows of a halt. -/
def State.haltShown (s : State) (n cause : Nat) : State :=
  ((s.setFld F.SCN_STATUS_STATE scnHalted n).setFld F.SCN_STATUS_PSTATE 0 n).setFld F.SCN_STATUS_HALT_CAUSE cause n

/-- After that a halt only stops the emission and is recorded and published. -/
theorem State.haltAt_changes_haltShown (s : State) (n cause idx off : Nat) : ∃ x : Scn,
    Changes [.outbox, .sht, .bch, .hal]
      [.SHT_STATUS, .SHT_I_STATE, .SHT_LAST_OUT, .SHT_LAST_FRAME, .SHT_LAST_DELAY, .SHT_DELAY_MAX, .SHT_CNT_FALLBACK,
        .SHT_CNT_SUPERSEDED, .SHT_CNT_LOG_DROP, .BCH_STATUS, .SCN_HALT_RECORD, .SCN_HALT_OFFSET, .SCN_CNT_HALT,
        .HAL_CNT_QUEUE_DROP]
      ((s.setSc n x).haltShown n cause) (s.haltAt n cause idx off) := by
  refine ⟨{ s.sc n with wait := .none, holdUntil := none, overflow := (s.sc n).overflow && cause != 4 }, ?_⟩
  unfold State.haltAt
  extract_lets x s1 s2 s3
  have h3 : Changes [] [.BCH_STATUS, .SCN_HALT_RECORD, .SCN_HALT_OFFSET, .SCN_CNT_HALT] (s1.haltShown n cause) s3 :=
    (((State.setFld_frame ..).within.op (State.wr_frame ..)).op (State.wr_frame ..)).op (State.bump_frame ..)
  exact ((h3.within.op (State.setWant_changes ..)).op (State.publish_changes ..)).op (State.shEngage_changes ..)

section
variable (s : State) (n cause idx off : Nat)

theorem State.scnState_haltShown : (s.haltShown n cause).scnState n = scnHalted := by
  rw [State.scnState, State.haltShown, State.fld_setFld_below _ _ _ _ _ _ (by decide) (by decide),
    State.fld_setFld_below _ _ _ _ _ _ (by decide) (by decide), State.fld_setFld_same _ _ _ _ (by decide)]
  rfl

theorem State.scnState_haltAt : (s.haltAt n cause idx off).scnState n = scnHalted := by
  obtain ⟨x, hc⟩ := s.haltAt_changes_haltShown n cause idx off
  exact (hc.fld (by decide) n 0).trans (State.scnState_haltShown ..)

theorem State.haltCause_haltAt : (s.haltAt n cause idx off).fld F.SCN_STATUS_HALT_CAUSE n = cause % 16 := by
  obtain ⟨x, hc⟩ := s.haltAt_changes_haltShown n cause idx off
  exact (hc.fld (by decide) n 0).trans (State.fld_setFld_same _ _ _ _ (by decide))

end

section
variable {cause : Nat} {p : Pause}

theorem State.haltsFor_haltAt (s : State) (n idx off : Nat) (hc : cause < 16) : (s.haltAt n cause idx off).haltsFor n cause :=
  .inl ⟨s.scnState_haltAt .., (s.haltCause_haltAt ..).trans (Nat.mod_eq_of_lt hc)⟩

/-- A pause with a halt cause comes to that halt. -/
theorem State.haltsFor_pause (h : (s.sc n).pause = some p) (hc : p.haltCause = cause) : s.haltsFor n cause := .inr ⟨p, h, hc⟩

/-- An operation on other parts and registers leaves a halt as it is. -/
theorem Changes.haltsFor {P : List Part} {R : List Reg} (h : Changes P R s t) (hs : s.haltsFor n cause)
    (hp : Part.scn ∉ P := by decide) (hr : Reg.SCN_STATUS ∉ R := by decide) : t.haltsFor n cause := by
  unfold State.haltsFor State.scnState at *
  rw [h.fld hr, h.fld hr, h.sc hp]
  exact hs

theorem State.parked_halts (s : State) (n : Nat) (p : Pause) (hc : p.haltCause ≠ 0) :
    ∃ (w : State) (idx off : Nat), s.parked n p = w.haltAt n p.haltCause idx off :=
  ⟨_, _, _, if_pos hc⟩

theorem State.haltsFor_parked (s : State) (n : Nat) (hp : p.haltCause = cause) (h0 : cause ≠ 0) (hc : cause < 16) :
    (s.parked n p).haltsFor n cause := by
  subst hp
  obtain ⟨w, idx, off, hw⟩ := s.parked_halts n p h0
  exact hw ▸ w.haltsFor_haltAt n idx off hc

theorem State.haltsFor_holdPause (s : State) (n : Nat) (hp : p.haltCause = cause) (h0 : cause ≠ 0) (hc : cause < 16) :
    (s.holdPause n p).haltsFor n cause := by
  subst hp
  have h : s.holdPause n p = State.haltAt _ n p.haltCause p.idx p.off := if_pos h0
  exact h ▸ State.haltsFor_haltAt _ n _ _ hc

theorem State.haltsFor_beginPause (s : State) (n : Nat) (hp : p.haltCause = cause) (h0 : cause ≠ 0) (hc : cause < 16) :
    (s.beginPause n p).haltsFor n cause := by
  obtain h | ⟨q, w, hq, -, h | ⟨h, hw⟩⟩ := s.beginPause_begun n p
  · exact h ▸ s.haltsFor_holdPause n hp h0 hc
  · exact h ▸ w.haltsFor_parked n (hq.trans hp) h0 hc
  · exact h ▸ State.haltsFor_pause hw (hq.trans hp)

/-- The piece that is done leaves the pause as it is, and of SCN_STATUS changes DERATED alone. -/
theorem State.retire_from (s : State) (n : Nat) (g : Seg) (rest : List Seg) :
    ((s.retire n g rest).sc n).pause = (s.sc n).pause ∧
      ∀ f : Fld, f.reg = .SCN_STATUS → f.besides F.SCN_STATUS_DERATED → (s.retire n g rest).fld f n = s.fld f n := by
  unfold State.retire
  extract_lets x x1 rest1 s0 s1 s2 s3
  have hx1 : x1.pause = (s.sc n).pause := by
    unfold x1
    split <;> rfl
  have h1 : Changes [] [.SCN_CNT_RECORDS] s0 s1 := .ite (.refl ..) (State.bump_frame ..)
  have h2 : (s2.sc n).pause = (s.sc n).pause ∧
      ∀ f : Fld, f.reg = .SCN_STATUS → f.besides F.SCN_STATUS_DERATED → s2.fld f n = s.fld f n := by
    have hsc1 : (s1.sc n).pause = (s.sc n).pause := by
      rw [h1.sc (by decide), State.sc_setSc]
      exact hx1
    have hfld1 (f : Fld) (hf : f.reg = .SCN_STATUS) : s1.fld f n = s.fld f n := h1.fld (by rw [hf]; decide) n 0
    unfold s2
    split
    · exact ⟨hsc1, fun f hf hb => ((s1.keepsFld_setFld _ n 0 hb).fld n 0).trans (hfld1 f hf)⟩
    · exact ⟨hsc1, fun f hf _ => hfld1 f hf⟩
  have hend (t : State) (ht : Changes [.hal] [.SCN_RECORD, .HAL_CNT_QUEUE_DROP] s2 t) : (t.sc n).pause = (s.sc n).pause ∧
      ∀ f : Fld, f.reg = .SCN_STATUS → f.besides F.SCN_STATUS_DERATED → t.fld f n = s.fld f n :=
    ⟨by rw [ht.sc (by decide), h2.1], fun f hf hb => (ht.fld (by rw [hf]; decide) n 0).trans (h2.2 f hf hb)⟩
  split
  · exact hend _ ((State.wr_frame ..).within.op (State.publish_changes ..))
  · exact hend _ (State.wr_frame ..).within

theorem State.haltsFor_retire {g : Seg} {rest : List Seg} (h : s.haltsFor n cause) : (s.retire n g rest).haltsFor n cause := by
  obtain ⟨hpause, hfld⟩ := s.retire_from n g rest
  unfold State.haltsFor State.scnState at *
  rw [hfld _ rfl (by decide), hfld _ rfl (by decide), hpause]
  exact h

theorem State.pause_holdNotReady (s : State) (n : Nat) : ((s.holdNotReady n).sc n).pause = (s.sc n).pause := by
  unfold State.holdNotReady
  extract_lets x
  split
  · rfl
  · rw [(State.reRequest_changes ..).sc (by decide), State.sc_setSc]

theorem State.haltsFor_refresh (h : s.haltsFor n cause) (h0 : cause ≠ 0) (hc : cause < 16) : (s.refresh n).haltsFor n cause := by
  have hhold : (s.holdNotReady n).haltsFor n cause := by
    unfold State.haltsFor State.scnState at *
    rw [(s.holdNotReady_changes n).fld (by decide), (s.holdNotReady_changes n).fld (by decide), s.pause_holdNotReady]
    exact h
  refine (State.shEngage_changes ..).haltsFor ?_
  refine State.runPlan_keeps (Q := (State.haltsFor · n cause)) ?_ (fun _ _ _ _ => State.haltsFor_retire) (fun _ _ h => h.haltsFor)
    _ _ hhold
  rintro t p hp hst (⟨hhalted, -⟩ | ⟨q, hq, hcause⟩)
  · exact absurd hhalted hst
  · obtain rfl : p = q := Option.some.inj (hp.symm.trans hq)
    exact t.haltsFor_beginPause n hcause h0 hc

/-- An interpreter at work comes to a clean halt that is asked of it (R337, R339). -/
theorem State.haltsFor_cleanHalt (hst : s.scnState n = scnRunning ∨ s.scnState n = scnPaused ∨ s.scnState n = scnWaiting ∨
      s.scnState n = scnLayerWait) (tS idx off : Nat) (h0 : cause ≠ 0) (hc : cause < 16) :
    (s.cleanHalt n cause tS idx off).haltsFor n cause := by
  unfold State.cleanHalt
  extract_lets st x
  split
  · split
    · exact State.haltsFor_refresh (State.haltsFor_pause (congrArg Scn.pause (State.sc_setSc ..)) rfl) h0 hc
    next p hp =>
      split
      · split
        · exact State.haltsFor_pause (congrArg Scn.pause (State.sc_setSc ..)) rfl
        · split
          · exact (State.setWant_changes ..).haltsFor (State.haltsFor_pause (State.pause_setPhaseAt ..) rfl)
          · exact State.haltsFor_haltAt _ n _ _ hc
      · exact State.haltsFor_pause (congrArg Scn.pause (State.sc_setSc ..)) rfl
  next hnot =>
    rw [if_pos (by simp only [Bool.or_eq_true, decide_eq_true_eq] at hnot ⊢; tauto)]
    exact State.haltsFor_haltAt _ n _ _ hc

/-- An interpreter in a halt or on its way there takes no records. -/
theorem State.planning_of_haltsFor (h : s.haltsFor n cause) (h0 : cause ≠ 0) : s.planning n = false := by
  unfold State.planning
  obtain ⟨hst, -⟩ | ⟨p, hp, hc⟩ := h
  · simp [hst, scnHalted, scnRunning, scnPaused, scnWaiting]
  · simp [hp, hc, h0]

/-- Nor does it resume. -/
theorem State.resumeCheck_of_haltsFor (h : s.haltsFor n cause) (h0 : cause ≠ 0) : s.resumeCheck n = s := by
  unfold State.resumeCheck
  extract_lets x
  split
  · rfl
  next p hp =>
    refine if_pos ?_
    obtain ⟨hst, -⟩ | ⟨q, hq, hc⟩ := h
    · simp [hst]
    · obtain rfl : p = q := Option.some.inj (hp.symm.trans hq)
      simp [hc, h0]

theorem State.haltsFor_setFld {f : Fld} {v : Nat} (hf : f.still) (h : s.haltsFor n cause) : (s.setFld f v n).haltsFor n cause := by
  have hb {g : Fld} (hg : g.moving) (hr : g.lo + g.width ≤ 32) : (s.setFld f v n).fld g n = s.fld g n :=
    (s.keepsFld_setFld v n 0 (Fld.besides_symm (Fld.besides_of_still hf hg) hr)).fld n 0
  unfold State.haltsFor State.scnState at *
  rw [hb (by decide) (by decide), hb (by decide) (by decide)]
  exact h

/-- The end of a cause of pause leaves a halt as it is. -/
theorem State.haltsFor_clearCause {k : Nat} (hk : (causeField k).still) (h : s.haltsFor n cause) (h0 : cause ≠ 0) :
    (s.clearCause n k).haltsFor n cause := by
  have hset := State.haltsFor_setFld (v := 0) hk h
  unfold State.clearCause
  rw [State.resumeCheck_of_haltsFor hset h0]
  split <;> assumption

theorem State.haltsFor_overflowHalt (h : s.haltsFor n cause) (h0 : cause ≠ 0) : (s.overflowHalt n).haltsFor n cause := by
  have hno : s.overflowHalt n = s := if_neg (by simp [State.planning_of_haltsFor h h0])
  rwa [hno]

end

end
end Sys2Proof.Machine

/-! # A record that the planner takes (O57) -/

namespace Sys2Proof.Machine
section
set_option Elab.async false

/-! ## A record that the planner takes (R305, R309 to R313) -/

section
variable {u : State} {n : Nat}

/-- The interpreter that has taken its next record. -/
def State.recordSc (u : State) (n : Nat) (layerEnd : Bool) : Scn :=
  { u.sc n with
    fifo := if u.flag F.SCN_CFG_SRC n then (u.sc n).fifo.drop 1 else (u.sc n).fifo,
    pc := if u.flag F.SCN_CFG_SRC n then (u.sc n).pc else (u.sc n).pc + 1,
    nextIdx := (u.sc n).nextIdx + 1, free := u.fine + 40, skip := (u.sc n).skip && !layerEnd,
    wait := if u.scnState n == scnWaiting then .none else (u.sc n).wait }

/-- The state in which it executes that record. -/
def State.recordTaken (u : State) (n : Nat) (layerEnd : Bool) : State :=
  let s1 := (u.setSc n (u.recordSc n layerEnd)).streamLevel n
  if u.scnState n == scnWaiting then s1.setFld F.SCN_STATUS_STATE scnRunning n else s1

/-- The record has been executed: a stream that has overflowed and run dry halts, and late data that have come end their cause. -/
def State.recordOver (s : State) (n : Nat) : State :=
  let w := s.overflowHalt n
  if w.flag F.SCN_STATUS_CAUSE_LATE n && w.lateOver n then w.clearCause n 1 else w

theorem State.takeNow_good {u : State} {n : Fin 12} {i : Instr} {layerEnd : Bool} (k : Nat → State → State)
    (hnext : u.nextGood n i) (hskip : (u.skips n && !layerEnd) = false) :
    u.takeNow n i layerEnd k = (k (u.sc n).nextIdx (u.recordTaken n layerEnd)).recordOver n := by
  simp only [State.nextGood, Bool.and_eq_true, Bool.or_eq_true, Bool.not_eq_true'] at hnext
  obtain ⟨⟨⟨⟨-, hnextIs⟩, hblock⟩, -⟩, -⟩ := hnext
  have hgood : (!u.flag F.SCN_CFG_SRC n && (u.sc n).badBlocks.contains ((u.sc n).pc / 256)) = false := by
    obtain h | h := hblock <;> simp only [h, Bool.not_true, Bool.false_and, Bool.and_false]
  have hskip' : ((u.sc n).skip && !layerEnd) = false := hskip
  unfold State.takeNow
  simp only [hgood, hnextIs, hskip', Bool.not_true, Bool.false_eq_true, if_false]
  unfold State.recordTaken State.recordSc State.recordOver
  cases hsrc : u.flag F.SCN_CFG_SRC n <;> simp [hskip']

theorem State.takeRecord_plans {s : State} {n : Fin 12} {i : Instr} (k : Nat → State → State) (h : s.plans n i)
    (hu : s.planner n = u) : u.planning n ∧ (u.sc n).overflow = false ∧ u.flag F.SCN_STATUS_CAUSE_LATE n = false ∧
      s.takeRecord n i k = (k (u.sc n).nextIdx (u.recordTaken n false)).recordOver n := by
  subst hu
  simp only [State.plans, State.beamRuns, Bool.and_eq_true, Bool.not_eq_true'] at h
  obtain ⟨⟨⟨⟨⟨hbeam, hready⟩, hplanning⟩, hnext⟩, hfull⟩, hskip⟩ := h
  have hnow := State.takeNow_good k hnext (layerEnd := false) (by rw [hskip]; rfl)
  simp only [State.nextGood, Bool.and_eq_true, Bool.not_eq_true'] at hnext
  obtain ⟨⟨⟨⟨hplans, -⟩, -⟩, hover⟩, hlate⟩ := hnext
  refine ⟨hplans, hover, hlate, ?_⟩
  rw [← hnow]
  simp only [State.takeRecord, hbeam, hready, hplanning, Bool.not_true, Bool.or_self, Bool.false_eq_true, if_false]
  exact if_pos (by rw [Bool.and_eq_true, Bool.not_eq_true']; exact ⟨hplans, hfull⟩)

/-! ### What taking it changes -/

theorem State.keepsFld_streamLevel (s : State) (n : Nat) {f : Fld} (hf : f.reg = .SCN_STATUS)
    (hb : f.besides F.SCN_STATUS_STREAM_LOW) : KeepsFld f s (s.streamLevel n) := by
  have hlevel (v : Word) : KeepsFld f s (s.wr .SCN_STREAM_LEVEL v n) := (s.wr_frame ..).keepsFld (by rw [hf]; decide)
  have hlow (v : Word) (b : Nat) := (hlevel v).trans (State.keepsFld_setFld _ b n 0 hb)
  exact .ite ((hlow _ _).trans ((State.publish_changes ..).keepsFld (by rw [hf]; decide))) (.ite (hlow _ _) (hlevel _))

section
variable (u n) (layerEnd : Bool)

theorem State.recordTaken_changes :
    Changes [.scn, .hal] [.SCN_STATUS, .SCN_STREAM_LEVEL, .HAL_CNT_QUEUE_DROP] u (u.recordTaken n layerEnd) := by
  have h : Changes [.scn, .hal] [.SCN_STATUS, .SCN_STREAM_LEVEL, .HAL_CNT_QUEUE_DROP] u
      ((u.setSc n (u.recordSc n layerEnd)).streamLevel n) := (State.setSc_changes ..).within.op (State.streamLevel_changes ..)
  exact .ite (h.op (State.setFld_frame ..)) h

theorem State.sc_recordTaken : (u.recordTaken n layerEnd).sc n = u.recordSc n layerEnd := by
  have h : ((u.setSc n (u.recordSc n layerEnd)).streamLevel n).sc n = u.recordSc n layerEnd := by
    rw [(State.streamLevel_changes ..).sc (by decide), State.sc_setSc]
  unfold State.recordTaken
  extract_lets s1
  split
  · exact h
  · exact h

theorem State.fine_recordTaken : (u.recordTaken n layerEnd).fine = u.fine := (u.recordTaken_changes n layerEnd).sameFine

theorem State.late_recordTaken : (u.recordTaken n layerEnd).flag F.SCN_STATUS_CAUSE_LATE n = u.flag F.SCN_STATUS_CAUSE_LATE n := by
  have h : KeepsFld F.SCN_STATUS_CAUSE_LATE u ((u.setSc n (u.recordSc n layerEnd)).streamLevel n) :=
    ((State.setSc_changes ..).keepsFld (by decide)).trans (State.keepsFld_streamLevel _ n rfl (by decide))
  exact congrArg (· != 0) ((KeepsFld.ite (h.trans (State.keepsFld_setFld _ _ _ _ (by decide))) h).fld n 0)

/-- The interpreter runs, or goes on in its pause. -/
theorem State.scnState_recordTaken :
    (u.recordTaken n layerEnd).scnState n = if u.scnState n = scnWaiting then scnRunning else u.scnState n := by
  have h : KeepsFld F.SCN_STATUS_STATE u ((u.setSc n (u.recordSc n layerEnd)).streamLevel n) :=
    ((State.setSc_changes ..).keepsFld (by decide)).trans (State.keepsFld_streamLevel _ n rfl (by decide))
  unfold State.recordTaken
  extract_lets s1
  by_cases hst : u.scnState n = scnWaiting
  · rw [if_pos (by simpa using hst), if_pos hst]
    exact State.fld_setFld_same _ _ _ _ (by decide)
  · rw [if_neg (by simpa using hst), if_neg hst]
    exact h.fld n 0

end

/-- A planner that takes records is of an interpreter that runs, is paused or waits for late data. -/
theorem State.scnState_of_planning (h : u.planning n) :
    u.scnState n = scnRunning ∨ u.scnState n = scnPaused ∨ u.scnState n = scnWaiting := by
  simp only [State.planning, Bool.and_eq_true, Bool.or_eq_true, beq_iff_eq] at h
  tauto

theorem State.atWork_recordTaken (layerEnd : Bool) (h : u.planning n) :
    (u.recordTaken n layerEnd).scnState n = scnRunning ∨ (u.recordTaken n layerEnd).scnState n = scnPaused := by
  rw [State.scnState_recordTaken]
  obtain h | h | h := State.scnState_of_planning h <;> simp [h, scnRunning, scnPaused, scnWaiting]

/-! ### The end of its execution -/

theorem State.recordOver_plain {s : State} (hover : (s.sc n).overflow = false) (hlate : s.flag F.SCN_STATUS_CAUSE_LATE n = false) :
    s.recordOver n = s := by
  have hno : s.overflowHalt n = s := if_neg (by simp [hover])
  rw [State.recordOver, hno]
  exact if_neg (by simp [hlate])

theorem State.haltsFor_recordOver {s : State} {cause : Nat} (h : s.haltsFor n cause) (h0 : cause ≠ 0) :
    (s.recordOver n).haltsFor n cause := by
  have hover := State.haltsFor_overflowHalt h h0
  unfold State.recordOver
  extract_lets w
  split
  · exact State.haltsFor_clearCause (by decide) hover h0
  · exact hover

/-- A bad record halts the interpreter (R307). -/
theorem State.haltsFor_badRecord {s : State} (idx : Nat) (hst : s.scnState n = scnRunning ∨ s.scnState n = scnPaused) :
    (s.badRecord n idx).haltsFor n 3 :=
  State.haltsFor_cleanHalt (hst.imp_right .inl) _ _ _ (by decide) (by decide)

end

/-! ## Records planned ahead of the motion (R306, R307, R313) -/

section
variable {u s : State} {n : Fin 12} {i : Instr} {k : Nat → State → State}

/-- A record whose execution changes only the plan leaves nothing to be done after it. -/
theorem State.takeRecord_planned {t : State} {P : List Part} {R : List Reg} (h : s.plans n i) (hu : s.planner n = u)
    (hk : k (u.sc n).nextIdx (u.recordTaken n false) = t) (hc : Changes P R (u.recordTaken n false) t)
    (hover : (t.sc n).overflow = (u.sc n).overflow) (hr : Reg.SCN_STATUS ∉ R := by decide) : s.takeRecord n i k = t := by
  obtain ⟨-, hflow, hlate, htake⟩ := State.takeRecord_plans k h hu
  rw [htake, hk]
  exact State.recordOver_plain (hover.trans hflow) ((hc.flag n hr).trans ((u.late_recordTaken n false).trans hlate))

/-- A record whose execution halts the interpreter. -/
theorem State.takeRecord_halts {cause : Nat} (h : s.plans n i) (hu : s.planner n = u) (h0 : cause ≠ 0)
    (hk : ((u.recordTaken n false).scnState n = scnRunning ∨ (u.recordTaken n false).scnState n = scnPaused) →
      (k (u.sc n).nextIdx (u.recordTaken n false)).haltsFor n cause) : (s.takeRecord n i k).haltsFor n cause := by
  obtain ⟨hplanning, -, -, htake⟩ := State.takeRecord_plans k h hu
  rw [htake]
  exact State.haltsFor_recordOver (hk (State.atWork_recordTaken false hplanning)) h0

end

section
variable {u s : State} {n : Nat}

/-- The piece of a move that enters the plan. -/
def State.movePiece (s : State) (n idx : Nat) (emit : Bool) (g : Seg) : Seg :=
  let x := s.sc n
  let g1 := { g with kind := if emit then .emit else .dark, idx := idx,
                     chain := if emit then (if x.chain = 0 then x.chains + 1 else x.chain) else 0, t0 := s.planFrom n,
                     s0 := x.sEnd, x0 := x.px, y0 := x.py, z0 := x.pz,
                     v := if emit then x.vMark else x.vJump, acc := if emit then 0 else s.accJump n,
                     settle := if emit then 0 else s.jumpSettle n }
  { g1 with dur := g1.time (s.derate n) }

theorem State.sc_planMove (s : State) (n idx : Nat) (emit : Bool) (g : Seg) :
    (s.planMove n idx emit g).sc n = { s.sc n with
      plan := (s.sc n).plan ++ [s.movePiece n idx emit g], px := g.x1, py := g.y1, pz := g.z1, sEnd := (s.sc n).sEnd + g.len,
      chain := (s.movePiece n idx emit g).chain, chains := max (s.sc n).chains (s.movePiece n idx emit g).chain } := by
  unfold State.planMove
  extract_lets x chain g1 g2 before s1
  have h1 : s1.sc n = _ := State.sc_setSc s n _
  split
  · exact h1
  · split
    · exact h1
    · extract_lets joined
      split
      · exact h1
      · exact ((State.rotRequest_changes ..).sc (by decide) n).trans h1

/-- The piece of a record that takes no time. -/
def State.notePiece (s : State) (n idx : Nat) (kind : SegKind) (arg : Nat) (flag inChain : Bool) : Seg :=
  { kind := kind, idx := idx, t0 := s.planFrom n, arg := arg, flag := flag, chain := if inChain then (s.sc n).chain else 0 }

theorem State.sc_planNote (s : State) (n idx : Nat) (kind : SegKind) (arg : Nat) (flag inChain : Bool) :
    (s.planNote n idx kind arg flag inChain).sc n = { s.sc n with
      plan := (s.sc n).plan ++ [s.notePiece n idx kind arg flag inChain], chain := if inChain then (s.sc n).chain else 0 } :=
  State.sc_setSc ..

theorem State.lastPiece_of_append {t : State} {l : List Seg} {g : Seg} (h : (t.sc n).plan = l ++ [g]) : t.lastPiece n = g := by
  rw [State.lastPiece, h, List.getLastD_concat]

/-- A new piece starts where the plan ends. -/
theorem State.planFrom_congr {t : State} (hplan : (t.sc n).plan = (u.sc n).plan) (hfine : t.fine = u.fine) :
    t.planFrom n = u.planFrom n := by
  simp only [State.planFrom, hplan, hfine]

theorem State.planFrom_recordTaken (u : State) (n : Nat) (layerEnd : Bool) : (u.recordTaken n layerEnd).planFrom n = u.planFrom n :=
  State.planFrom_congr (by rw [State.sc_recordTaken]; rfl) (u.fine_recordTaken n layerEnd)

/-- A move that enters the plan as the next record. -/
theorem State.planned_planMove (u : State) (n : Nat) (emit : Bool) (g : Seg) :
    u.planned ((u.recordTaken n false).planMove n (u.sc n).nextIdx emit g) n ∧
      ((u.recordTaken n false).planMove n (u.sc n).nextIdx emit g).lastPiece n =
        (u.recordTaken n false).movePiece n (u.sc n).nextIdx emit g := by
  have hsc := (u.recordTaken n false).sc_planMove n (u.sc n).nextIdx emit g
  have hlast := State.lastPiece_of_append (congrArg Scn.plan hsc)
  refine ⟨?_, hlast⟩
  unfold State.planned
  rw [hlast, hsc, State.sc_recordTaken]
  exact ⟨rfl, rfl, u.planFrom_recordTaken n false, rfl, rfl⟩

/-- It starts at the planned end point of the interpreter. -/
theorem State.moves_movePiece (u : State) (n idx : Nat) (emit : Bool) (g : Seg) :
    ((u.recordTaken n false).movePiece n idx emit g).moves u n (if emit then .emit else .dark) g.x1 g.y1 g.z1 := by
  unfold State.movePiece Seg.moves
  rw [State.sc_recordTaken]
  exact ⟨rfl, rfl, rfl, rfl⟩

/-- A record that takes no time enters the plan of any state that has taken it. -/
theorem State.planned_planNote {v : State} (hplan : (v.sc n).plan = (u.sc n).plan) (hnext : (v.sc n).nextIdx = (u.sc n).nextIdx + 1)
    (hfree : (v.sc n).free = u.fine + 40) (hfine : v.fine = u.fine) (kind : SegKind) (arg : Nat) (flag inChain : Bool) :
    u.planned (v.planNote n (u.sc n).nextIdx kind arg flag inChain) n ∧
      ((v.planNote n (u.sc n).nextIdx kind arg flag inChain).lastPiece n).notes kind arg flag := by
  have hsc := v.sc_planNote n (u.sc n).nextIdx kind arg flag inChain
  have hlast := State.lastPiece_of_append (congrArg Scn.plan hsc)
  unfold State.planned
  rw [hlast, hsc, hplan]
  exact ⟨⟨rfl, rfl, State.planFrom_congr hplan hfine, hnext, hfree⟩, rfl, rfl, rfl, rfl, rfl⟩

theorem State.planned_planNote_recordTaken (u : State) (n : Nat) (kind : SegKind) (arg : Nat) (flag inChain : Bool) :
    u.planned ((u.recordTaken n false).planNote n (u.sc n).nextIdx kind arg flag inChain) n ∧
      (((u.recordTaken n false).planNote n (u.sc n).nextIdx kind arg flag inChain).lastPiece n).notes kind arg flag := by
  have hsc := u.sc_recordTaken n false
  exact State.planned_planNote (by rw [hsc]; rfl) (by rw [hsc]; rfl) (by rw [hsc]; rfl) (u.fine_recordTaken n false) ..

end

end
end Sys2Proof.Machine

/-! # Records at rest and the stream window (O57) -/

namespace Sys2Proof.Machine
section
set_option Elab.async false

/-! ## Records that run at rest (R294, R306, R317, R341) -/

section
variable {u s : State} {n : Nat}

/-- The state in which an interpreter at rest executes the record it has taken: no chain is being planned, and SCN_RECORD shows it. -/
def State.restTaken (u : State) (n : Nat) (layerEnd : Bool) : State :=
  ((u.recordTaken n layerEnd).setSc n { (u.recordTaken n layerEnd).sc n with chain := 0 }).wr .SCN_RECORD
    (BitVec.ofNat 32 (u.sc n).nextIdx) n

theorem State.sc_restTaken (u : State) (n : Nat) (layerEnd : Bool) :
    (u.restTaken n layerEnd).sc n = { u.recordSc n layerEnd with chain := 0 } := by
  rw [State.restTaken, State.sc_wr, State.sc_setSc, State.sc_recordTaken]

theorem State.restTaken_changes (u : State) (n : Nat) (layerEnd : Bool) :
    Changes [.scn, .hal] [.SCN_STATUS, .SCN_STREAM_LEVEL, .HAL_CNT_QUEUE_DROP, .SCN_RECORD] u (u.restTaken n layerEnd) :=
  ((State.recordTaken_changes ..).within.op (State.setSc_changes ..)).op (State.wr_frame ..)

theorem State.rested_restTaken (u : State) (n : Nat) (layerEnd : Bool) : u.rested (u.restTaken n layerEnd) n :=
  ⟨State.rd_wr_self .., by rw [State.sc_restTaken]; rfl, by rw [State.sc_restTaken], (u.restTaken_changes n layerEnd).sameFine⟩

theorem State.scnState_restTaken (u : State) (n : Nat) (layerEnd : Bool) :
    (u.restTaken n layerEnd).scnState n = (u.recordTaken n layerEnd).scnState n :=
  (State.wr_frame ..).fld (by decide) n 0

theorem State.late_restTaken (u : State) (n : Nat) (layerEnd : Bool) :
    (u.restTaken n layerEnd).flag F.SCN_STATUS_CAUSE_LATE n = u.flag F.SCN_STATUS_CAUSE_LATE n :=
  ((State.wr_frame ..).flag n).trans (u.late_recordTaken n layerEnd)

/-- The record of an interpreter that has come to rest, with no motion planned, no pause and no stream overflow. -/
structure State.AtRest (u : State) (n : Nat) : Prop where
  state : u.scnState n = scnRunning ∨ u.scnState n = scnWaiting
  plan : (u.sc n).plan = []
  pause : (u.sc n).pause = none
  overflow : (u.sc n).overflow = false
  late : u.flag F.SCN_STATUS_CAUSE_LATE n = false

theorem State.takeAtRest_rests {n : Fin 12} {i : Instr} {layerEnd : Bool} (k : Nat → State → State) (h : s.rests n i)
    (hskip : (u.skips n && !layerEnd) = false) (hu : s.atRest n = u) :
    u.AtRest n ∧ s.takeAtRest n i layerEnd k = (k (u.sc n).nextIdx (u.restTaken n layerEnd)).recordOver n := by
  subst hu
  simp only [State.rests, State.beamRuns, Bool.and_eq_true, Bool.not_eq_true', List.isEmpty_iff, Option.isNone_iff_eq_none,
    bne_iff_ne, ne_eq] at h
  obtain ⟨⟨⟨⟨⟨⟨⟨hbeam, hready⟩, hplanning⟩, hearly⟩, hnext⟩, hplan⟩, hpause⟩, hst⟩ := h
  have hnow := State.takeNow_good (fun j s => k j ((s.setSc n { s.sc n with chain := 0 }).wr .SCN_RECORD (BitVec.ofNat 32 j) n)) hnext hskip
  simp only [State.nextGood, Bool.and_eq_true, Bool.not_eq_true'] at hnext
  obtain ⟨⟨⟨⟨hplans, -⟩, -⟩, hover⟩, hlate⟩ := hnext
  have hstate : (s.atRest n).scnState n = scnRunning ∨ (s.atRest n).scnState n = scnWaiting := by
    obtain h | h | h := State.scnState_of_planning hplans
    · exact .inl h
    · exact absurd h hst
    · exact .inr h
  refine ⟨⟨hstate, hplan, hpause, hover, hlate⟩, ?_⟩
  refine Eq.trans ?_ hnow
  simp only [State.takeAtRest, hbeam, hready, hplanning, hearly, Bool.not_true, Bool.or_self, Bool.false_eq_true, if_false]
  refine if_neg ?_
  change ¬ (((s.atRest n).scnState n == scnPaused || (s.atRest n).scnState n == scnHalted || !((s.atRest n).sc n).plan.isEmpty) = true)
  obtain h | h := hstate <;> simp [h, hplan, scnRunning, scnPaused, scnHalted, scnWaiting]

/-- The interpreter runs as it executes the record. -/
theorem State.AtRest.running (h : u.AtRest n) (layerEnd : Bool) : (u.restTaken n layerEnd).scnState n = scnRunning := by
  rw [State.scnState_restTaken, State.scnState_recordTaken]
  obtain h | h := h.state <;> simp [h, scnRunning, scnWaiting]

/-- A record that changes neither the overflow nor the cause LATE leaves nothing to be done after it. -/
theorem State.AtRest.recordOver {t : State} (h : u.AtRest n) {layerEnd : Bool}
    (hover : (t.sc n).overflow = (u.sc n).overflow)
    (hlate : t.flag F.SCN_STATUS_CAUSE_LATE n = (u.restTaken n layerEnd).flag F.SCN_STATUS_CAUSE_LATE n) : t.recordOver n = t :=
  State.recordOver_plain (hover.trans h.overflow) (hlate.trans ((u.late_restTaken n layerEnd).trans h.late))

/-- Where nothing is planned and no pause is on its way, time alone passes for the motion. -/
theorem State.refresh_still (hplan : (s.sc n).plan = []) (hpause : (s.sc n).pause = none) : s.refresh n = s.shEngage n := by
  have hhold : s.holdNotReady n = s := by
    simp [State.holdNotReady, hplan]
  have hrun (fuel : Nat) : s.runPlan n fuel = s := by
    cases fuel with
    | zero => rfl
    | succ fuel =>
      unfold State.runPlan
      simp [hplan, hpause]
  rw [State.refresh, hhold, hrun]

/-- A field of SCN_STATUS beside STATE is not touched where STATE is set. -/
theorem State.flag_late_setState (s : State) (n st : Nat) :
    (s.setFld F.SCN_STATUS_STATE st n).flag F.SCN_STATUS_CAUSE_LATE n = s.flag F.SCN_STATUS_CAUSE_LATE n :=
  congrArg (· != 0) ((s.keepsFld_setFld st n 0 (by decide)).fld n 0)

theorem State.scnState_setState (s : State) (n : Nat) {st : Nat} (h : st < 8) :
    (s.setFld F.SCN_STATUS_STATE st n).scnState n = st :=
  (State.fld_setFld_same _ _ _ _ (by decide)).trans (Nat.mod_eq_of_lt h)

/-- The state in which the record of a wait has been executed, before the motion goes on. -/
def State.waitOver (s : State) (n : Nat) : State :=
  ((s.setSc n { s.sc n with wait := .none }).setFld F.SCN_STATUS_STATE scnRunning n).bump .SCN_CNT_RECORDS n

theorem State.waitDone_still (hplan : (s.sc n).plan = []) (hpause : (s.sc n).pause = none) :
    s.waitDone n = (s.waitOver n).shEngage n := by
  have hsc : (s.waitOver n).sc n = { s.sc n with wait := .none } := State.sc_setSc ..
  exact State.refresh_still (s := s.waitOver n) (by rw [hsc, hplan]) (by rw [hsc, hpause])

theorem State.sc_waitDone_still (hplan : (s.sc n).plan = []) (hpause : (s.sc n).pause = none) :
    (s.waitDone n).sc n = { s.sc n with wait := .none } := by
  rw [State.waitDone_still hplan hpause, (State.shEngage_changes ..).sc (by decide)]
  exact State.sc_setSc ..

theorem State.scnState_waitDone_still (hplan : (s.sc n).plan = []) (hpause : (s.sc n).pause = none) :
    (s.waitDone n).scnState n = scnRunning := by
  rw [State.waitDone_still hplan hpause]
  exact ((State.shEngage_changes ..).fld (by decide) n 0).trans (((State.bump_frame ..).fld (by decide) n 0).trans
    (State.scnState_setState _ _ (by decide)))

theorem State.counted_waitDone_still (hplan : (s.sc n).plan = []) (hpause : (s.sc n).pause = none) :
    Counted .SCN_CNT_RECORDS n s (s.waitDone n) := by
  rw [State.waitDone_still hplan hpause]
  exact ((State.counted_bump _ .SCN_CNT_RECORDS n).before (State.shEngage_changes ..) (by decide)).after
    ((State.setSc_changes ..).within.op (State.setFld_frame ..) : Changes [.scn] [.SCN_STATUS] s _) (by decide)

theorem State.late_waitDone_still (hplan : (s.sc n).plan = []) (hpause : (s.sc n).pause = none) :
    (s.waitDone n).flag F.SCN_STATUS_CAUSE_LATE n = s.flag F.SCN_STATUS_CAUSE_LATE n := by
  rw [State.waitDone_still hplan hpause]
  exact ((State.shEngage_changes ..).flag n).trans (((State.bump_frame ..).flag n).trans (State.flag_late_setState ..))

/-- Neither the pads nor the status fields of the emission touch METER. -/
theorem State.keepsFld_beamGate (s : State) (n : Nat) : KeepsFld F.BCH_STATUS_METER s (s.beamGate n) := by
  unfold State.beamGate
  extract_lets pad old s1 s2 x s3
  have h1 : KeepsFld F.BCH_STATUS_METER s s1 := ((s.keepsFld_setFld _ _ _ (by decide)).trans
    (State.keepsFld_setFld _ _ _ _ (by decide))).trans (State.keepsFld_setFld _ _ _ _ (by decide))
  have h2 : Changes [.outbox, .bch] [] s1 s2 := State.preCode_changes ..
  have h3 : Changes [.outbox, .bch] [] s1 s3 := (State.setBc_changes ..).within.op (State.emit_frame ..)
  have hengage (t : State) (ht : Changes [.outbox, .bch] [] s1 t) : KeepsFld F.BCH_STATUS_METER s (t.shEngage n) :=
    (h1.trans (ht.keepsFld (by decide))).trans ((State.shEngage_changes ..).keepsFld (by decide))
  exact .ite h1 (.ite (hengage _ ((h2.op (State.setBc_changes ..)).op (State.emit_frame ..)))
    (hengage _ (.ite (h3.op (State.emit_frame ..)) h3)))

theorem State.meter_setWant (s : State) (n : Nat) (b : Bool) :
    (s.setWant n b).flag F.BCH_STATUS_METER n = s.flag F.BCH_STATUS_METER n :=
  congrArg (· != 0) ((State.keepsFld_beamGate (s.setBc n { s.bc n with want := b }) n).fld n 0)

end

/-! ## The stream window (R310, R311) -/

section
variable {s : State} {n : Nat}

theorem State.feed_clearCause (s : State) (n k : Nat) : ((s.clearCause n k).sc n).feed = (s.sc n).feed := by
  unfold State.clearCause
  split
  · exact (State.resumeCheck_motion ..).feed
  · rfl

/-- What is read off the part of an interpreter that the motion leaves alone is the same. -/
theorem Scn.same_of_feed {α : Type} {x y : Scn} (g : Scn → α) (hg : ∀ x : Scn, g x.feed = g x) (h : x.feed = y.feed) : g x = g y :=
  (hg x).symm.trans ((congrArg g h).trans (hg y))

/-- The window takes its words from DMA and from an Operator at the mailbox. -/
theorem State.streamOpen_iff (s : State) (who : Requester) :
    (who == .unit || (who == .mailbox && decide (2 ≤ s.levelOf .mailbox))) = true ↔
      who = .unit ∨ who = .mailbox ∧ 2 ≤ s.levelOf .mailbox := by
  simp

/-- A record that the stream has no room for, or that comes after an overflow, is dropped (R311). -/
theorem State.stream_dropped (s : State) (n : Nat) (x : Scn) :
    (((s.setSc n x).overflowHalt n).sc n).words = x.words ∧ (((s.setSc n x).overflowHalt n).sc n).fifo = x.fifo := by
  have h : (((s.setSc n x).overflowHalt n).sc n).feed = x.feed := by
    rw [(State.overflowHalt_motion ..).feed, State.sc_setSc]
  exact ⟨Scn.same_of_feed Scn.words (fun _ => rfl) h, Scn.same_of_feed Scn.fifo (fun _ => rfl) h⟩

/-- A record that is added may end the wait for late data, which leaves the stream as it is. -/
theorem State.stream_added (s : State) (n : Nat) (x : Scn) :
    let w := (s.setSc n x).streamLevel n
    let t := if w.lateOver n then w.clearCause n 1 else w
    (t.sc n).words = x.words ∧ (t.sc n).fifo = x.fifo := by
  extract_lets w t
  have hw : w.sc n = x := by rw [(State.streamLevel_changes ..).sc (by decide), State.sc_setSc]
  have h : (t.sc n).feed = x.feed := by
    unfold t
    split
    · rw [State.feed_clearCause, hw]
    · rw [hw]
  exact ⟨Scn.same_of_feed Scn.words (fun _ => rfl) h, Scn.same_of_feed Scn.fifo (fun _ => rfl) h⟩

end

/-! ## Records of a scan program (O57) -/

section
variable {u : State} {n : Nat}

/-- A straight move leads from the planned end point of the interpreter. -/
theorem State.planLine_recordTaken (u : State) (n idx : Nat) (emit : Bool) (x y z : Int) :
    (u.recordTaken n false).planLine n idx emit x y z = (u.recordTaken n false).planMove n idx emit
      { x1 := x, y1 := y, z1 := z, len := hypot (x - (u.sc n).px) (y - (u.sc n).py) } := by
  unfold State.planLine
  rw [State.sc_recordTaken]
  rfl

theorem State.overflow_planMove (u : State) (n idx : Nat) (emit : Bool) (g : Seg) :
    (((u.recordTaken n false).planMove n idx emit g).sc n).overflow = (u.sc n).overflow := by
  rw [State.sc_planMove, State.sc_recordTaken]
  rfl

theorem State.overflow_planNote (u : State) (n idx : Nat) (kind : SegKind) (arg : Nat) (flag inChain : Bool) :
    (((u.recordTaken n false).planNote n idx kind arg flag inChain).sc n).overflow = (u.sc n).overflow := by
  rw [State.sc_planNote, State.sc_recordTaken]
  rfl

/-- A move has the speed of its kind. -/
theorem State.v_movePiece (u : State) (n idx : Nat) (emit : Bool) (g : Seg) :
    ((u.recordTaken n false).movePiece n idx emit g).v = if emit then (u.sc n).vMark else (u.sc n).vJump := by
  unfold State.movePiece
  rw [State.sc_recordTaken]
  rfl

/-- A mark joins the chain being planned or begins one; another move ends it. -/
theorem State.chain_planMove (u : State) (n idx : Nat) (emit : Bool) (g : Seg) :
    (((u.recordTaken n false).planMove n idx emit g).sc n).chain =
      if emit then (if (u.sc n).chain = 0 then (u.sc n).chains + 1 else (u.sc n).chain) else 0 := by
  rw [State.sc_planMove]
  unfold State.movePiece
  rw [State.sc_recordTaken]
  rfl

end

section
variable {u s : State} {n : Fin 12}

theorem exec_jumpRecord_plans {x y : BitVec 32} {z : BitVec 16} (h : s.plans n (.jumpRecord n x y z)) (hu : s.planner n = u) :
    exec (.jumpRecord n x y z) s = .next ((u.recordTaken n false).planMove n (u.sc n).nextIdx false
      { x1 := x.toInt, y1 := y.toInt, z1 := z.toInt, len := hypot (x.toInt - (u.sc n).px) (y.toInt - (u.sc n).py) }) :=
  congrArg Host.Outcome.next (State.takeRecord_planned h hu (State.planLine_recordTaken ..) (State.planMove_changes ..)
    (State.overflow_planMove ..))

theorem exec_markRecord_plans {x y : BitVec 32} {z : BitVec 16} (h : s.plans n (.markRecord n x y z)) (hu : s.planner n = u) :
    exec (.markRecord n x y z) s = .next ((u.recordTaken n false).planMove n (u.sc n).nextIdx true
      { x1 := x.toInt, y1 := y.toInt, z1 := z.toInt, len := hypot (x.toInt - (u.sc n).px) (y.toInt - (u.sc n).py) }) :=
  congrArg Host.Outcome.next (State.takeRecord_planned h hu (State.planLine_recordTaken ..) (State.planMove_changes ..)
    (State.overflow_planMove ..))

end

end
end Sys2Proof.Machine

/-! # What each record of a scan program executes to (O57) -/

namespace Sys2Proof.Machine
section
set_option Elab.async false

section
variable {u s : State} {n : Fin 12}

theorem exec_arcRecord_plans {dark : Bool} {z : BitVec 16} {cx cy sweep : BitVec 32} {a : ArcGeo}
    (h : s.plans n (.arcRecord n dark z cx cy sweep)) (hu : s.planner n = u) (ha : (⟨cx.toInt, cy.toInt, sweep.toInt⟩ : ArcGeo) = a)
    (hgood : ¬ (360000000 < sweep.toInt.natAbs ∨ a.radius (u.sc n).px (u.sc n).py = 0)) :
    exec (.arcRecord n dark z cx cy sweep) s = .next ((u.recordTaken n false).planMove n (u.sc n).nextIdx (!dark)
      { x1 := (a.endPoint (u.sc n).px (u.sc n).py).1, y1 := (a.endPoint (u.sc n).px (u.sc n).py).2, z1 := z.toInt, arc := some a,
        len := a.length (u.sc n).px (u.sc n).py }) := by
  subst ha
  refine congrArg Host.Outcome.next (State.takeRecord_planned h hu ?_ (State.planMove_changes ..) (State.overflow_planMove ..))
  rw [State.sc_recordTaken]
  exact if_neg (by simpa [State.recordSc] using hgood)

theorem exec_arcRecord_halts {dark : Bool} {z : BitVec 16} {cx cy sweep : BitVec 32} {a : ArcGeo}
    (h : s.plans n (.arcRecord n dark z cx cy sweep)) (hu : s.planner n = u) (ha : (⟨cx.toInt, cy.toInt, sweep.toInt⟩ : ArcGeo) = a)
    (hbad : 360000000 < sweep.toInt.natAbs ∨ a.radius (u.sc n).px (u.sc n).py = 0) :
    Answers (exec (.arcRecord n dark z cx cy sweep) s) fun t => t.haltsFor n 3 := by
  subst ha
  refine ⟨_, rfl, State.takeRecord_halts h hu (by decide) fun hst => ?_⟩
  rw [State.sc_recordTaken, if_pos (by simpa [State.recordSc] using hbad)]
  exact State.haltsFor_badRecord _ hst

theorem exec_powerRecord_plans {openLoop : Bool} {c : BitVec 16} (h : s.plans n (.powerRecord n openLoop c)) (hu : s.planner n = u) :
    exec (.powerRecord n openLoop c) s =
      .next ((u.recordTaken n false).planNote n (u.sc n).nextIdx .power c.toNat openLoop true) :=
  congrArg Host.Outcome.next (State.takeRecord_planned h hu rfl (State.planNote_changes ..) (State.overflow_planNote ..))

theorem exec_profileRecord_plans {profile : BitVec 3} (h : s.plans n (.profileRecord n profile)) (hu : s.planner n = u) :
    exec (.profileRecord n profile) s =
      .next ((u.recordTaken n false).planNote n (u.sc n).nextIdx .profile profile.toNat false true) :=
  congrArg Host.Outcome.next (State.takeRecord_planned h hu rfl (State.planNote_changes ..) (State.overflow_planNote ..))

theorem exec_eventRecord_plans {code : BitVec 8} (h : s.plans n (.eventRecord n code)) (hu : s.planner n = u) :
    exec (.eventRecord n code) s =
      .next ((u.recordTaken n false).planNote n (u.sc n).nextIdx .event code.toNat false true) :=
  congrArg Host.Outcome.next (State.takeRecord_planned h hu rfl (State.planNote_changes ..) (State.overflow_planNote ..))

/-- The speeds that a SPEED record leaves in force (R306). -/
def State.speedsSet (u : State) (n : Nat) (vm vj : BitVec 32) : State :=
  (u.recordTaken n false).setSc n { u.recordSc n false with
    vMark := if vm = 0 then (u.sc n).vMark else min vm.toNat 20000000,
    vJump := if vj = 0 then (u.sc n).vJump else min vj.toNat 50000000 }

theorem exec_speedRecord_plans {vm vj : BitVec 32} (h : s.plans n (.speedRecord n vm vj)) (hu : s.planner n = u) :
    exec (.speedRecord n vm vj) s = .next ((u.speedsSet n vm vj).planNote n (u.sc n).nextIdx .plain 0 false true) := by
  have hc : Changes [.scn] [] (u.recordTaken n false) ((u.speedsSet n vm vj).planNote n (u.sc n).nextIdx .plain 0 false true) :=
    (State.setSc_changes ..).within.op (State.planNote_changes ..)
  refine congrArg Host.Outcome.next (State.takeRecord_planned h hu (by rw [State.sc_recordTaken]; rfl) hc ?_)
  rw [State.sc_planNote, State.speedsSet, State.sc_setSc]
  rfl

/-- A LINK goes on at its unit of the build store (R306). -/
def State.linked (u : State) (n target : Nat) : State :=
  ((u.recordTaken n false).planNote n (u.sc n).nextIdx .plain 0 false false).setSc n
    { ((u.recordTaken n false).planNote n (u.sc n).nextIdx .plain 0 false false).sc n with pc := target }

theorem exec_linkRecord_plans {target : BitVec 32} (h : s.plans n (.linkRecord n target)) (hu : s.planner n = u)
    (hsrc : u.flag F.SCN_CFG_SRC n = false) : exec (.linkRecord n target) s = .next (u.linked n target.toNat) := by
  have htaken : (u.recordTaken n false).flag F.SCN_CFG_SRC n = false := ((u.recordTaken_changes n false).flag n).trans hsrc
  have hc : Changes [.scn] [] (u.recordTaken n false) (u.linked n target.toNat) :=
    (State.planNote_changes ..).within.op (State.setSc_changes ..)
  refine congrArg Host.Outcome.next (State.takeRecord_planned h hu (if_neg (by rw [htaken]; decide)) hc ?_)
  rw [State.linked, State.sc_setSc]
  exact State.overflow_planNote ..

theorem exec_linkRecord_halts {target : BitVec 32} (h : s.plans n (.linkRecord n target)) (hu : s.planner n = u)
    (hsrc : u.flag F.SCN_CFG_SRC n) : Answers (exec (.linkRecord n target) s) fun t => t.haltsFor n 3 := by
  have htaken : (u.recordTaken n false).flag F.SCN_CFG_SRC n = true := ((u.recordTaken_changes n false).flag n).trans hsrc
  refine ⟨_, rfl, State.takeRecord_halts h hu (by decide) fun hst => ?_⟩
  rw [if_pos htaken]
  exact State.haltsFor_badRecord _ hst

/-- The source of a program is no matter of the motion. -/
theorem State.src_planner (s : State) (n : Nat) : (s.planner n).flag F.SCN_CFG_SRC n = s.flag F.SCN_CFG_SRC n :=
  ((State.awaitPlanner_changes ..).flag n).trans ((State.refresh_changes ..).flag n)

/-! ### Records at rest -/

/-- The interpreter waits from now on. -/
def State.waitsFor (w : State) (n : Nat) (x : Scn) : State := (w.setSc n x).setFld F.SCN_STATUS_STATE scnWaiting n

theorem State.waitsFor_changes (w : State) (n : Nat) (x : Scn) : Changes [.scn] [.SCN_STATUS] w (w.waitsFor n x) :=
  (State.setSc_changes ..).within.op (State.setFld_frame ..)

theorem State.sc_waitsFor (w : State) (n : Nat) (x : Scn) : (w.waitsFor n x).sc n = x := State.sc_setSc ..

theorem State.scnState_waitsFor (w : State) (n : Nat) (x : Scn) : (w.waitsFor n x).scnState n = scnWaiting :=
  State.scnState_setState _ _ (by decide)

theorem State.late_waitsFor (w : State) (n : Nat) (x : Scn) :
    (w.waitsFor n x).flag F.SCN_STATUS_CAUSE_LATE n = w.flag F.SCN_STATUS_CAUSE_LATE n := State.flag_late_setState ..

/-- An operation that leaves SCN_RECORD, the record index and the chain alone leaves the record taken at rest. -/
theorem State.rested.after {P : List Part} {R : List Reg} {n : Nat} {w t : State} (h : u.rested w n) (hc : Changes P R w t)
    (hnext : (t.sc n).nextIdx = (w.sc n).nextIdx) (hchain : (t.sc n).chain = (w.sc n).chain)
    (hp : Part.fine ∉ P := by decide) (hr : Reg.SCN_RECORD ∉ R := by decide) : u.rested t n := by
  obtain ⟨h1, h2, h3, h4⟩ := h
  exact ⟨(hc.regs _ hr n 0).trans h1, hnext.trans h2, hchain.trans h3, (hc.sameFine hp).trans h4⟩

/-- With a pending event a WAIT is done at once. -/
def State.pendTaken (u : State) (n w : Nat) : State :=
  (u.restTaken n false).setSc n { (u.restTaken n false).sc n with pend := tblSet none (u.sc n).pend w none }

theorem exec_waitRecord_done {w : Fin 4} {timeout : BitVec 32} (h : s.rests n (.waitRecord n w timeout))
    (hskip : (s.atRest n).skips n = false) (hu : s.atRest n = u) (hpend : (tblGet none (u.sc n).pend w.val).isSome) :
    u.AtRest n ∧ exec (.waitRecord n w timeout) s = .next (((u.pendTaken n w.val).waitDone n).recordOver n) := by
  obtain ⟨hrest, htake⟩ := State.takeAtRest_rests _ h (layerEnd := false) (by rw [← hu, hskip]; rfl) hu
  refine ⟨hrest, congrArg Host.Outcome.next (htake.trans (congrArg (State.recordOver · n) ?_))⟩
  have hsame : ((u.restTaken n false).sc n).pend = (u.sc n).pend := by
    rw [State.sc_restTaken]
    rfl
  obtain ⟨e, he⟩ := Option.isSome_iff_exists.1 hpend
  simp only [hsame, he]
  rfl

theorem exec_waitRecord_waits {w : Fin 4} {timeout : BitVec 32} (h : s.rests n (.waitRecord n w timeout))
    (hskip : (s.atRest n).skips n = false) (hu : s.atRest n = u) (hpend : (tblGet none (u.sc n).pend w.val).isSome = false) :
    u.AtRest n ∧ exec (.waitRecord n w timeout) s = .next (((u.restTaken n false).waitsFor n { (u.restTaken n false).sc n with
      wait := .task w.val, waitAt := if timeout = 0 then 0 else u.fine + fineOfUs timeout.toNat }).recordOver n) := by
  obtain ⟨hrest, htake⟩ := State.takeAtRest_rests _ h (layerEnd := false) (by rw [← hu, hskip]; rfl) hu
  refine ⟨hrest, congrArg Host.Outcome.next (htake.trans (congrArg (State.recordOver · n) ?_))⟩
  have hsame : ((u.restTaken n false).sc n).pend = (u.sc n).pend := by
    rw [State.sc_restTaken]
    rfl
  have hfine : (u.restTaken n false).fine = u.fine := (u.restTaken_changes n false).sameFine
  have hnone : tblGet none (u.sc n).pend w.val = none := Option.not_isSome_iff_eq_none.1 (by rw [hpend]; decide)
  simp only [hsame, hnone, hfine]
  rfl

theorem exec_dwellRecord_waits {us : BitVec 32} (h : s.rests n (.dwellRecord n us))
    (hskip : (s.atRest n).skips n = false) (hu : s.atRest n = u) :
    u.AtRest n ∧ exec (.dwellRecord n us) s = .next (((u.restTaken n false).waitsFor n { (u.restTaken n false).sc n with
      wait := .dwell, waitAt := u.fine + fineOfUs us.toNat }).recordOver n) := by
  obtain ⟨hrest, htake⟩ := State.takeAtRest_rests _ h (layerEnd := false) (by rw [← hu, hskip]; rfl) hu
  have hfine : (u.restTaken n false).fine = u.fine := (u.restTaken_changes n false).sameFine
  rw [← hfine]
  exact ⟨hrest, congrArg Host.Outcome.next htake⟩

/-- A METER record emits at its command with its profile. -/
def State.metered (w : State) (n : Nat) (x : Scn) : State :=
  let v := w.waitsFor n x
  let v1 := v.setBc n { v.bc n with meterAt := v.fine }
  (v1.setFld F.BCH_STATUS_METER 1 n).setWant n true

theorem State.metered_changes (w : State) (n : Nat) (x : Scn) : Changes [.outbox, .sht, .bch, .hal]
    [.SHT_STATUS, .SHT_I_STATE, .SHT_LAST_OUT, .SHT_LAST_FRAME, .SHT_LAST_DELAY, .SHT_DELAY_MAX, .SHT_CNT_FALLBACK,
      .SHT_CNT_SUPERSEDED, .SHT_CNT_LOG_DROP, .BCH_STATUS, .HAL_CNT_QUEUE_DROP] (w.waitsFor n x) (w.metered n x) :=
  ((State.setBc_changes ..).within.op (State.setFld_frame ..)).op (State.setWant_changes ..)

theorem State.meter_metered (w : State) (n : Nat) (x : Scn) : (w.metered n x).flag F.BCH_STATUS_METER n := by
  rw [State.metered, State.meter_setWant]
  exact State.flag_setFld _ _ _ (by decide) (by decide)

theorem exec_meterRecord_emits {input : Fin 4} {profile : BitVec 3} {cm : BitVec 16} {us : BitVec 32}
    (h : s.rests n (.meterRecord n input profile cm us)) (hskip : (s.atRest n).skips n = false) (hu : s.atRest n = u)
    (hgood : ¬ (us.toNat < 100 ∨ 1000000 < us.toNat)) :
    u.AtRest n ∧ exec (.meterRecord n input profile cm us) s =
      .next (((u.restTaken n false).metered n { (u.restTaken n false).sc n with
        wait := .meter cm.toNat profile.toNat (u.sc n).profile input, profile := profile.toNat,
        waitAt := u.fine + fineOfUs us.toNat }).recordOver n) := by
  obtain ⟨hrest, htake⟩ := State.takeAtRest_rests _ h (layerEnd := false) (by rw [← hu, hskip]; rfl) hu
  have hfine : (u.restTaken n false).fine = u.fine := (u.restTaken_changes n false).sameFine
  have hprofile : ((u.restTaken n false).sc n).profile = (u.sc n).profile := by
    rw [State.sc_restTaken]
    rfl
  refine ⟨hrest, congrArg Host.Outcome.next (htake.trans (congrArg (State.recordOver · n) ((if_neg (by simpa using hgood)).trans ?_)))⟩
  rw [← hfine, ← hprofile]
  rfl

theorem exec_meterRecord_halts {input : Fin 4} {profile : BitVec 3} {cm : BitVec 16} {us : BitVec 32}
    (h : s.rests n (.meterRecord n input profile cm us)) (hskip : (s.atRest n).skips n = false) (hu : s.atRest n = u)
    (hbad : us.toNat < 100 ∨ 1000000 < us.toNat) :
    Answers (exec (.meterRecord n input profile cm us) s) fun t => t.haltsFor n 3 := by
  obtain ⟨hrest, htake⟩ := State.takeAtRest_rests _ h (layerEnd := false) (by rw [← hu, hskip]; rfl) hu
  refine ⟨_, congrArg Host.Outcome.next (htake.trans (congrArg (State.recordOver · n) (if_pos (by simpa using hbad)))), ?_⟩
  exact State.haltsFor_recordOver (State.haltsFor_badRecord _ (.inl (hrest.running false))) (by decide)

/-- A record that ends the layer or the program has been executed: the state is shown. -/
def State.recordEnds (w : State) (n st : Nat) : State := (w.setFld F.SCN_STATUS_STATE st n).bump .SCN_CNT_RECORDS n

theorem State.recordEnds_changes (w : State) (n st : Nat) : Changes [] [.SCN_STATUS, .SCN_CNT_RECORDS] w (w.recordEnds n st) :=
  (State.setFld_frame ..).within.op (State.bump_frame ..)

theorem State.scnState_recordEnds (w : State) (n : Nat) {st : Nat} (h : st < 8) : (w.recordEnds n st).scnState n = st :=
  ((State.bump_frame ..).fld (by decide) n 0).trans (State.scnState_setState _ _ h)

theorem State.sc_recordEnds (w : State) (n st : Nat) : (w.recordEnds n st).sc n = w.sc n := rfl

/-- A layer or program that ends, with all that it shows. -/
theorem State.recordEnds_ends {u : State} {n : Nat} (h : u.AtRest n) (layerEnd : Bool) {st : Nat} (hst : st < 8) :
    let t := (u.restTaken n layerEnd).recordEnds n st
    t.recordOver n = t ∧ u.rested t n ∧ t.scnState n = st ∧ t.sc n = (u.restTaken n layerEnd).sc n ∧
      Counted .SCN_CNT_RECORDS n u t := by
  have hsc := (u.restTaken n layerEnd).sc_recordEnds n st
  have hover : ((u.restTaken n layerEnd).sc n).overflow = (u.sc n).overflow := by
    rw [State.sc_restTaken]
    rfl
  have hlate : ((u.restTaken n layerEnd).recordEnds n st).flag F.SCN_STATUS_CAUSE_LATE n =
      (u.restTaken n layerEnd).flag F.SCN_STATUS_CAUSE_LATE n := ((State.bump_frame ..).flag n).trans (State.flag_late_setState ..)
  exact ⟨h.recordOver ((congrArg Scn.overflow hsc).trans hover) hlate,
    (u.rested_restTaken n layerEnd).after (State.recordEnds_changes ..) (congrArg Scn.nextIdx hsc) (congrArg Scn.chain hsc),
    State.scnState_recordEnds _ _ hst, hsc,
    (State.counted_bump _ .SCN_CNT_RECORDS n).after ((u.restTaken_changes n layerEnd).within.op (State.setFld_frame ..) :
      Changes [.scn, .hal] [.SCN_STATUS, .SCN_STREAM_LEVEL, .HAL_CNT_QUEUE_DROP, .SCN_RECORD] u _) (by decide)⟩

theorem exec_layerEnd_rests (h : s.rests n (.layerEnd n)) (hu : s.atRest n = u) :
    u.AtRest n ∧ exec (.layerEnd n) s = .next (((u.restTaken n true).recordEnds n scnLayerWait).recordOver n) := by
  obtain ⟨hrest, htake⟩ := State.takeAtRest_rests _ h (layerEnd := true) (Bool.and_false _) hu
  exact ⟨hrest, congrArg Host.Outcome.next htake⟩

theorem exec_endRecord_rests (h : s.rests n (.endRecord n)) (hskip : (s.atRest n).skips n = false) (hu : s.atRest n = u) :
    u.AtRest n ∧ exec (.endRecord n) s = .next (((u.restTaken n false).recordEnds n scnDone).recordOver n) := by
  obtain ⟨hrest, htake⟩ := State.takeAtRest_rests _ h (layerEnd := false) (by rw [← hu, hskip]; rfl) hu
  exact ⟨hrest, congrArg Host.Outcome.next htake⟩

/-- An interpreter whose WAIT has timed out halts (R317). -/
theorem exec_waitTimeout_halts {w : Nat} (hwait : (s.sc n).wait = .task w) (hst : s.scnState n = scnWaiting) (hat : (s.sc n).waitAt ≠ 0) :
    exec (.waitTimeout n) s = .next (State.haltAt { s with fine := max s.fine (s.sc n).waitAt } n 7 (s.rd .SCN_RECORD n).toNat 0) := by
  have hst' : ({ s with fine := max s.fine (s.sc n).waitAt } : State).scnState n = scnWaiting := hst
  show execWaitTimeout n s = _
  simp only [execWaitTimeout, hwait, hst, State.cleanHalt]
  rw [if_pos (by simpa using hat), if_neg (by rw [hst']; decide), if_pos (by rw [hst']; decide)]

theorem exec_dwellEnd_done (hwait : (s.sc n).wait = .dwell) (hst : s.scnState n = scnWaiting) :
    exec (.dwellEnd n) s = .next (State.waitDone { s with fine := max s.fine (s.sc n).waitAt } n) := by
  show execDwellEnd n s = _
  simp [execDwellEnd, hwait, hst]

end

end
end Sys2Proof.Machine

/-! # Records of a scan program (O57) -/

namespace Sys2Proof.Machine
section
set_option Elab.async false

/-- What has been planned is read off the plan, the record index and the time the planner is free. -/
theorem State.planned.congr {u t t' : State} {n : Nat} (h : u.planned t n) (hplan : (t'.sc n).plan = (t.sc n).plan)
    (hnext : (t'.sc n).nextIdx = (t.sc n).nextIdx) (hfree : (t'.sc n).free = (t.sc n).free) :
    u.planned t' n ∧ t'.lastPiece n = t.lastPiece n := by
  have hlast : t'.lastPiece n = t.lastPiece n := congrArg (fun l : List Seg => l.getLastD {}) hplan
  obtain ⟨h1, h2, h3, h4, h5⟩ := h
  refine ⟨?_, hlast⟩
  unfold State.planned
  rw [hlast, hplan, hnext, hfree]
  exact ⟨h1, h2, h3, h4, h5⟩

theorem State.speedsSet_planned (u : State) (n : Nat) (vm vj : BitVec 32) :
    let t := (u.speedsSet n vm vj).planNote n (u.sc n).nextIdx .plain 0 false true
    (u.planned t n ∧ (t.lastPiece n).notes .plain 0 false) ∧
      (t.sc n).vMark = (if vm = 0 then (u.sc n).vMark else min vm.toNat 20000000) ∧
      (t.sc n).vJump = (if vj = 0 then (u.sc n).vJump else min vj.toNat 50000000) := by
  extract_lets t
  have hset : (u.speedsSet n vm vj).sc n = { u.recordSc n false with
      vMark := if vm = 0 then (u.sc n).vMark else min vm.toNat 20000000,
      vJump := if vj = 0 then (u.sc n).vJump else min vj.toNat 50000000 } := State.sc_setSc ..
  have ht := (u.speedsSet n vm vj).sc_planNote n (u.sc n).nextIdx .plain 0 false true
  rw [hset] at ht
  exact ⟨State.planned_planNote (u := u) (v := u.speedsSet n vm vj) ((congrArg Scn.plan hset).trans rfl)
    ((congrArg Scn.nextIdx hset).trans rfl) ((congrArg Scn.free hset).trans rfl) (u.fine_recordTaken n false) .plain 0 false true,
    (congrArg Scn.vMark ht).trans rfl, (congrArg Scn.vJump ht).trans rfl⟩

theorem State.linked_planned (u : State) (n target : Nat) :
    (u.planned (u.linked n target) n ∧ ((u.linked n target).lastPiece n).notes .plain 0 false) ∧
      ((u.linked n target).sc n).pc = target ∧ ((u.linked n target).sc n).chain = 0 := by
  obtain ⟨hplanned, hnotes⟩ := u.planned_planNote_recordTaken n .plain 0 false false
  have hnote := (u.recordTaken n false).sc_planNote n (u.sc n).nextIdx .plain 0 false false
  have hsc : (u.linked n target).sc n = { ((u.recordTaken n false).planNote n (u.sc n).nextIdx .plain 0 false false).sc n with
    pc := target } := State.sc_setSc ..
  obtain ⟨h, hlast⟩ := hplanned.congr (t' := u.linked n target) ((congrArg Scn.plan hsc).trans rfl)
    ((congrArg Scn.nextIdx hsc).trans rfl) ((congrArg Scn.free hsc).trans rfl)
  exact ⟨⟨h, hlast ▸ hnotes⟩, (congrArg Scn.pc hsc).trans rfl, (congrArg Scn.chain hsc).trans (congrArg Scn.chain hnote)⟩

/-- A WAIT whose event was pending has taken it and is done. -/
theorem State.AtRest.waitDone {u : State} {n : Nat} (hrest : u.AtRest n) (w : Nat) :
    let t := (u.pendTaken n w).waitDone n
    t.recordOver n = t ∧ u.rested t n ∧ tblGet none (t.sc n).pend w = none ∧ t.scnState n = scnRunning ∧
      Counted .SCN_CNT_RECORDS n u t := by
  extract_lets t
  have hsc := u.sc_restTaken n false
  have hpsc : (u.pendTaken n w).sc n = { u.recordSc n false with chain := 0, pend := tblSet none (u.sc n).pend w none } := by
    rw [State.pendTaken, State.sc_setSc, hsc]
  have hplan : ((u.pendTaken n w).sc n).plan = [] := (congrArg Scn.plan hpsc).trans (.trans rfl hrest.plan)
  have hpause : ((u.pendTaken n w).sc n).pause = none := (congrArg Scn.pause hpsc).trans (.trans rfl hrest.pause)
  have hdone : t.sc n = { u.recordSc n false with chain := 0, pend := tblSet none (u.sc n).pend w none, wait := .none } := by
    rw [show t.sc n = _ from State.sc_waitDone_still hplan hpause, hpsc]
  have hrecord : Changes [.scn, .sht, .hal] [.SCN_STATUS, .SCN_CNT_RECORDS, .SHT_STATUS, .SHT_I_STATE, .SHT_LAST_OUT, .SHT_LAST_FRAME,
      .SHT_LAST_DELAY, .SHT_DELAY_MAX, .SHT_CNT_FALLBACK, .SHT_CNT_SUPERSEDED, .SHT_CNT_LOG_DROP, .HAL_CNT_QUEUE_DROP]
      (u.restTaken n false) t := by
    rw [show t = ((u.pendTaken n w).waitOver n).shEngage n from State.waitDone_still hplan hpause]
    exact ((((State.setSc_changes ..).within.op (State.setSc_changes ..)).op (State.setFld_frame ..)).op
      (State.bump_frame ..)).op (State.shEngage_changes ..)
  refine ⟨hrest.recordOver (layerEnd := false) ((congrArg Scn.overflow hdone).trans rfl)
      (State.late_waitDone_still hplan hpause), (u.rested_restTaken n false).after hrecord ?_ ?_, ?_,
    State.scnState_waitDone_still hplan hpause, (State.counted_waitDone_still hplan hpause).after
      ((u.restTaken_changes n false).within.op (State.setSc_changes ..) :
        Changes [.scn, .hal] [.SCN_STATUS, .SCN_STREAM_LEVEL, .HAL_CNT_QUEUE_DROP, .SCN_RECORD] u _) (by decide)⟩
  · exact (congrArg Scn.nextIdx hdone).trans ((congrArg Scn.nextIdx hsc).symm.trans rfl)
  · exact (congrArg Scn.chain hdone).trans ((congrArg Scn.chain hsc).symm.trans rfl)
  · have hpend : (t.sc n).pend = tblSet none (u.sc n).pend w none := (congrArg Scn.pend hdone).trans rfl
    rw [hpend]
    exact tblGet_set_self ..

/-- A record that has an interpreter at rest wait. -/
theorem State.AtRest.waitsFor {u : State} {n : Nat} (hrest : u.AtRest n) (wait : ScnWait) (at_ : Nat) :
    let t := (u.restTaken n false).waitsFor n { (u.restTaken n false).sc n with wait := wait, waitAt := at_ }
    t.recordOver n = t ∧ u.rested t n ∧ (t.sc n).wait = wait ∧ (t.sc n).waitAt = at_ ∧ t.scnState n = scnWaiting := by
  intro t
  have ht : t.sc n = { (u.restTaken n false).sc n with wait := wait, waitAt := at_ } := State.sc_waitsFor ..
  have hover : ((u.restTaken n false).sc n).overflow = (u.sc n).overflow := (congrArg Scn.overflow (u.sc_restTaken n false)).trans rfl
  exact ⟨hrest.recordOver (layerEnd := false) (((congrArg Scn.overflow ht).trans rfl).trans hover) (State.late_waitsFor ..),
    (u.rested_restTaken n false).after (State.waitsFor_changes ..) ((congrArg Scn.nextIdx ht).trans rfl)
      ((congrArg Scn.chain ht).trans rfl),
    (congrArg Scn.wait ht).trans rfl, (congrArg Scn.waitAt ht).trans rfl, State.scnState_waitsFor ..⟩

/-- A METER record that emits. -/
theorem State.AtRest.metered {u : State} {n : Nat} (hrest : u.AtRest n) (wait : ScnWait) (profile at_ : Nat) :
    let t := (u.restTaken n false).metered n { (u.restTaken n false).sc n with wait := wait, profile := profile, waitAt := at_ }
    t.recordOver n = t ∧ u.rested t n ∧ (t.sc n).wait = wait ∧ (t.sc n).waitAt = at_ ∧ t.scnState n = scnWaiting ∧
      t.flag F.BCH_STATUS_METER n := by
  intro t
  let x : Scn := { (u.restTaken n false).sc n with wait := wait, profile := profile, waitAt := at_ }
  have hc := (u.restTaken n false).metered_changes n x
  have hw : ((u.restTaken n false).waitsFor n x).sc n = x := State.sc_waitsFor ..
  have ht : t.sc n = x := (hc.sc (by decide) n).trans hw
  have hover : ((u.restTaken n false).sc n).overflow = (u.sc n).overflow := (congrArg Scn.overflow (u.sc_restTaken n false)).trans rfl
  have hlate : t.flag F.SCN_STATUS_CAUSE_LATE n = (u.restTaken n false).flag F.SCN_STATUS_CAUSE_LATE n :=
    (hc.flag n).trans (State.late_waitsFor ..)
  have hrested := (u.rested_restTaken n false).after ((u.restTaken n false).waitsFor_changes n x) ((congrArg Scn.nextIdx hw).trans rfl)
    ((congrArg Scn.chain hw).trans rfl)
  exact ⟨hrest.recordOver (layerEnd := false) (((congrArg Scn.overflow ht).trans rfl).trans hover) hlate,
    hrested.after hc (congrArg Scn.nextIdx (ht.trans hw.symm)) (congrArg Scn.chain (ht.trans hw.symm)),
    (congrArg Scn.wait ht).trans rfl, (congrArg Scn.waitAt ht).trans rfl, (hc.fld (by decide) n 0).trans (State.scnState_waitsFor ..),
    State.meter_metered ..⟩

/-- The bytes of a burst are kept as a block of the build store, marked where a burst of it is poisoned (R309). -/
def Fetch.toBlock (r : Fetch) (n block : Nat) : State :=
  r.st.setSc n { r.st.sc n with
    blocks := tblSet [] (r.st.sc n).blocks block r.data,
    badBlocks := if r.bad.isEmpty then (r.st.sc n).badBlocks.filter (· != block)
      else block :: (r.st.sc n).badBlocks.filter (· != block) }

theorem Fetch.blocks_toBlock (r : Fetch) (n block : Nat) :
    tblGet [] ((r.toBlock n block).sc n).blocks block = r.data ∧
      (((r.toBlock n block).sc n).badBlocks.contains block ↔ r.bad ≠ []) := by
  rw [Fetch.toBlock, State.sc_setSc]
  refine ⟨tblGet_set_self .., ?_⟩
  cases r.bad <;> simp

theorem exec_blockFetch_reads {n : Fin 12} {block : Nat} {errs : List (Nat × BurstErr)} {s : State} (hbeam : s.hasBeam n)
    (hup : s.storeUp) (hsrc : s.flag F.SCN_CFG_SRC n = false) (hnew : tblGet [] (s.sc n).blocks block = []) :
    exec (.blockFetch n block errs) s =
      .next ((s.storeFetch (s.regionAddr (s.bands .FST_BUILD_BASE) s.fst.loadSet (block * 4096)) 4096 errs).toBlock n block) := by
  show execBlockFetch n block errs s = _
  simp only [execBlockFetch, hbeam, hup, hsrc, hnew, List.isEmpty_nil, Bool.not_true, Bool.or_self, Bool.false_eq_true, if_false]
  rfl

/-- A word in the open stream window: the fourth makes a record (R310, R311). -/
def State.windowWord (s : State) (n : Nat) (v : Word) : State :=
  let x := s.sc n
  let ws := x.words ++ [v]
  if ws.length < 4 then s.setSc n { x with words := ws }
  else if x.overflow || 4096 ≤ x.fifo.length then (s.setSc n { x with words := [], overflow := true }).overflowHalt n
  else
    let s1 := (s.setSc n { x with words := [], fifo := x.fifo ++ [ws.flatMap (fun w => bytesLE 4 w.toNat)] }).streamLevel n
    if s1.lateOver n then s1.clearCause n 1 else s1

theorem exec_streamWindowWrite_open {who : Requester} {n : Fin 12} {v : BitVec 32} {s : State} (hruns : s.beamRuns n)
    (hopen : who = .unit ∨ who = .mailbox ∧ 2 ≤ s.levelOf .mailbox) :
    exec (.streamWindowWrite who n v) s = .next (s.windowWord n v) := by
  simp only [State.beamRuns, Bool.and_eq_true] at hruns
  obtain ⟨hbeam, hready⟩ := hruns
  refine congrArg Host.Outcome.next ((if_neg (by simp [hbeam, hready])).trans (if_neg ?_))
  rw [Bool.not_eq_true', Bool.not_eq_false]
  exact (s.streamOpen_iff who).2 hopen

theorem exec_streamWindowWrite_closed {who : Requester} {n : Fin 12} {v : BitVec 32} {s : State} (hruns : s.beamRuns n)
    (hclosed : ¬ (who = .unit ∨ who = .mailbox ∧ 2 ≤ s.levelOf .mailbox)) :
    exec (.streamWindowWrite who n v) s = .next (s.bump .SCN_CNT_STREAM_BAD n) := by
  simp only [State.beamRuns, Bool.and_eq_true] at hruns
  obtain ⟨hbeam, hready⟩ := hruns
  refine congrArg Host.Outcome.next ((if_neg (by simp [hbeam, hready])).trans (if_pos ?_))
  rw [Bool.not_eq_true', Bool.eq_false_iff]
  exact fun h => hclosed ((s.streamOpen_iff who).1 h)

/-- The record is added unless there is no room for it or one was lost. -/
theorem State.words_windowWord (s : State) (n : Nat) (v : Word) :
    ((s.windowWord n v).sc n).words = (if (s.sc n).words.length < 3 then (s.sc n).words ++ [v] else []) ∧
      ((s.windowWord n v).sc n).fifo =
        if (s.sc n).words.length < 3 ∨ (s.sc n).overflow ∨ 4096 ≤ (s.sc n).fifo.length then (s.sc n).fifo
        else (s.sc n).fifo ++ [((s.sc n).words ++ [v]).flatMap (fun x => bytesLE 4 x.toNat)] := by
  have hlen : ((s.sc n).words ++ [v]).length < 4 ↔ (s.sc n).words.length < 3 := by
    rw [List.length_append, List.length_singleton]
    omega
  by_cases hshort : (s.sc n).words.length < 3
  · have hsc : (s.windowWord n v).sc n = { s.sc n with words := (s.sc n).words ++ [v] } :=
      (congrArg (State.sc · n) (if_pos (hlen.2 hshort))).trans (State.sc_setSc ..)
    rw [if_pos hshort, if_pos (.inl hshort), hsc]
    exact ⟨rfl, rfl⟩
  · by_cases hfull : (s.sc n).overflow ∨ 4096 ≤ (s.sc n).fifo.length
    · have ht : s.windowWord n v = (s.setSc n { s.sc n with words := [], overflow := true }).overflowHalt n :=
        (if_neg (mt hlen.1 hshort)).trans (if_pos (by simpa using hfull))
      rw [if_neg hshort, if_pos (.inr hfull), ht]
      exact s.stream_dropped n _
    · have ht : s.windowWord n v = _ := (if_neg (mt hlen.1 hshort)).trans (if_neg (by simpa using hfull))
      rw [if_neg hshort, if_neg (not_or.2 ⟨hshort, hfull⟩), ht]
      exact s.stream_added n _

/-- Settles O57: each record by the plan or the wait it leaves, read off the state in which the interpreter has taken it; the halts
by the cause that a bad record or a timeout leaves. -/
theorem scanRecords : Obligations.ScanRecords := by
  unfold Obligations.ScanRecords
  refine ⟨?jump, ?mark, ?arc, ?speed, ?power, ?profile, ?event, ?link, ?bad, ?wait, ?timeout, ?dwell, ?dwellEnd, ?meter, ?layerEnd,
    ?endRecord, ?fetch, ?window⟩
  case jump =>
    intro n x y z u s h hu
    refine ⟨_, exec_jumpRecord_plans h hu, ?_⟩
    obtain ⟨hplanned, hlast⟩ := u.planned_planMove n false
      { x1 := x.toInt, y1 := y.toInt, z1 := z.toInt, len := hypot (x.toInt - (u.sc n).px) (y.toInt - (u.sc n).py) }
    rw [hlast]
    exact ⟨⟨hplanned, State.moves_movePiece .., rfl, rfl, State.v_movePiece ..⟩, State.chain_planMove ..⟩
  case mark =>
    intro n x y z u s h hu
    refine ⟨_, exec_markRecord_plans h hu, ?_⟩
    obtain ⟨hplanned, hlast⟩ := u.planned_planMove n true
      { x1 := x.toInt, y1 := y.toInt, z1 := z.toInt, len := hypot (x.toInt - (u.sc n).px) (y.toInt - (u.sc n).py) }
    rw [hlast]
    exact ⟨⟨hplanned, State.moves_movePiece .., rfl, rfl, State.v_movePiece ..⟩, State.chain_planMove ..⟩
  case arc =>
    intro n dark z cx cy sweep u a s h hu ha
    by_cases hbad : 360000000 < sweep.toInt.natAbs ∨ a.radius (u.sc n).px (u.sc n).py = 0
    · simp only [if_pos hbad]
      exact exec_arcRecord_halts h hu ha hbad
    · simp only [if_neg hbad]
      refine ⟨_, exec_arcRecord_plans h hu ha hbad, ?_⟩
      obtain ⟨hplanned, hlast⟩ := u.planned_planMove n (!dark)
        { x1 := (a.endPoint (u.sc n).px (u.sc n).py).1, y1 := (a.endPoint (u.sc n).px (u.sc n).py).2, z1 := z.toInt, arc := some a,
          len := a.length (u.sc n).px (u.sc n).py }
      rw [hlast]
      have hkind : (if dark then SegKind.dark else .emit) = if !dark then .emit else .dark := by cases dark <;> rfl
      rw [hkind]
      exact ⟨hplanned, State.moves_movePiece .., rfl, rfl⟩
  case speed => exact fun n vm vj u s h hu => ⟨_, exec_speedRecord_plans h hu, u.speedsSet_planned n vm vj⟩
  case power => exact fun n openLoop c u s h hu => ⟨_, exec_powerRecord_plans h hu, u.planned_planNote_recordTaken ..⟩
  case profile => exact fun n profile u s h hu => ⟨_, exec_profileRecord_plans h hu, u.planned_planNote_recordTaken ..⟩
  case event => exact fun n code u s h hu => ⟨_, exec_eventRecord_plans h hu, u.planned_planNote_recordTaken ..⟩
  case link =>
    intro n target u s h hu
    have hflag : u.flag F.SCN_CFG_SRC n = s.flag F.SCN_CFG_SRC n := hu ▸ s.src_planner n
    by_cases hsrc : s.flag F.SCN_CFG_SRC n
    · simp only [if_pos hsrc]
      exact exec_linkRecord_halts h hu (hflag.trans hsrc)
    · simp only [if_neg hsrc]
      exact ⟨_, exec_linkRecord_plans h hu (hflag.trans (Bool.eq_false_iff.2 hsrc)), u.linked_planned n target.toNat⟩
  case bad =>
    exact fun n type s h => ⟨_, rfl, State.takeRecord_halts h rfl (by decide) fun hst => State.haltsFor_badRecord _ hst⟩
  case wait =>
    intro n w timeout u s h hskip hu
    by_cases hpend : (tblGet none (u.sc n).pend w.val).isSome
    · obtain ⟨hrest, hexec⟩ := exec_waitRecord_done h hskip hu hpend
      obtain ⟨hover, hrested, hdone⟩ := hrest.waitDone w.val
      refine ⟨_, hexec.trans (congrArg Host.Outcome.next hover), hrested, ?_⟩
      rw [if_pos hpend]
      exact hdone
    · obtain ⟨hrest, hexec⟩ := exec_waitRecord_waits h hskip hu (Bool.eq_false_iff.2 hpend)
      obtain ⟨hover, hrested, hwait⟩ := hrest.waitsFor (.task w.val) (if timeout = 0 then 0 else u.fine + fineOfUs timeout.toNat)
      refine ⟨_, hexec.trans (congrArg Host.Outcome.next hover), hrested, ?_⟩
      rw [if_neg hpend]
      exact hwait
  case timeout =>
    intro n w s hwait hst hat
    exact ⟨_, exec_waitTimeout_halts hwait hst hat, State.scnState_haltAt .., State.haltCause_haltAt ..,
      (State.haltAt_changes ..).sameFine⟩
  case dwell =>
    intro n us u s h hskip hu
    obtain ⟨hrest, hexec⟩ := exec_dwellRecord_waits h hskip hu
    obtain ⟨hover, hwaits⟩ := hrest.waitsFor .dwell (u.fine + fineOfUs us.toNat)
    exact ⟨_, hexec.trans (congrArg Host.Outcome.next hover), hwaits⟩
  case dwellEnd =>
    rintro n s hwait hst ⟨hplan, hpause⟩
    let v : State := { s with fine := max s.fine (s.sc n).waitAt }
    have hdone : (v.waitDone n).sc n = { v.sc n with wait := .none } := State.sc_waitDone_still hplan hpause
    have hcount : Counted .SCN_CNT_RECORDS n v (v.waitDone n) := State.counted_waitDone_still hplan hpause
    exact ⟨v.waitDone n, exec_dwellEnd_done hwait hst, (congrArg Scn.wait hdone).trans rfl, State.scnState_waitDone_still hplan hpause,
      hcount, (State.waitDone_changes v n).sameFine⟩
  case meter =>
    intro n input profile cm us u s h hskip hu
    by_cases hbad : us.toNat < 100 ∨ 1000000 < us.toNat
    · simp only [if_pos hbad]
      exact exec_meterRecord_halts h hskip hu hbad
    · simp only [if_neg hbad]
      obtain ⟨hrest, hexec⟩ := exec_meterRecord_emits h hskip hu hbad
      obtain ⟨hover, hmeters⟩ := hrest.metered (.meter cm.toNat profile.toNat (u.sc n).profile input) profile.toNat
        (u.fine + fineOfUs us.toNat)
      exact ⟨_, hexec.trans (congrArg Host.Outcome.next hover), hmeters⟩
  case layerEnd =>
    intro n u s h hu
    obtain ⟨hrest, hexec⟩ := exec_layerEnd_rests h hu
    obtain ⟨hover, hrested, hstate, hsc, hcount⟩ := State.recordEnds_ends hrest true (st := scnLayerWait) (by decide)
    have hskip : (u.recordSc n true).skip = false := Bool.and_false _
    refine ⟨_, hexec.trans (congrArg Host.Outcome.next hover), hrested, hstate, ?_, hcount⟩
    exact (congrArg Scn.skip (hsc.trans (u.sc_restTaken n true))).trans hskip
  case endRecord =>
    intro n u s h hskip hu
    obtain ⟨hrest, hexec⟩ := exec_endRecord_rests h hskip hu
    obtain ⟨hover, hrested, hstate, -, hcount⟩ := State.recordEnds_ends hrest false (st := scnDone) (by decide)
    exact ⟨_, hexec.trans (congrArg Host.Outcome.next hover), hrested, hstate, hcount⟩
  case fetch =>
    rintro n block errs s ⟨hbeam, hup⟩ hsrc hnew
    exact ⟨_, exec_blockFetch_reads hbeam hup hsrc hnew, Fetch.blocks_toBlock ..⟩
  case window =>
    intro who n v s hruns
    by_cases hopen : who = .unit ∨ who = .mailbox ∧ 2 ≤ s.levelOf .mailbox
    · simp only [if_pos hopen]
      exact ⟨_, exec_streamWindowWrite_open hruns hopen, s.words_windowWord n v⟩
    · simp only [if_neg hopen]
      exact ⟨_, exec_streamWindowWrite_closed hruns hopen, rfl⟩

end
end Sys2Proof.Machine

/-! # Late data and the sub-states of a pause (O58) -/

namespace Sys2Proof.Machine
section
set_option Elab.async false

/-! ## Commands on a beam that runs (R315, R335) -/

section
variable {s u : State} {n dt : Nat} {p : Pause}

theorem State.onBeam_runs (k : State → State) (h : s.beamRuns n) (hu : s.beamThen n dt = u) : s.onBeam n dt k = k u := by
  subst hu
  simp only [State.beamRuns, Bool.and_eq_true] at h
  obtain ⟨hbeam, hready⟩ := h
  rw [State.onBeam, hbeam, hready]
  rfl

theorem State.pausedIn_iff (u : State) (n : Nat) (p : Pause) (phase : Nat) :
    u.pausedIn n p phase ↔ (u.sc n).pause = some p ∧ p.begun ∧ p.phase = phase ∧ u.scnState n = scnPaused := by
  simp only [State.pausedIn, Bool.and_eq_true, beq_iff_eq, and_assoc]

/-- The end of a sub-state acts at its instant on the pause that is in it. -/
theorem State.phaseEnd_paused {phase : Nat} (k : Pause → Nat → State → State) (h : s.beamRuns n) (hu : s.beamThen n dt = u)
    (hp : u.pausedIn n p phase) : s.phaseEnd n dt phase k = k p (u.phaseDue n p) (u.passTo 0 (u.phaseDue n p)) := by
  obtain ⟨hpause, hbegun, hphase, hst⟩ := (u.pausedIn_iff n p phase).1 hp
  rw [State.phaseEnd, State.onBeam_runs _ h hu]
  simp [hpause, hbegun, hphase, hst]

/-- The pause for a cause counts, and the motion goes on. -/
theorem State.pauseFor_frame (s : State) (n cause : Nat) (p : Pause) :
    Changes motionParts (.SCN_CNT_PAUSE :: motionRegs) (s.setFld (causeField cause) 1 n) (s.pauseFor n cause p) := by
  unfold State.pauseFor
  extract_lets x s1
  split
  · exact (((State.setSc_changes ..).within.op (State.bump_frame ..)).op (State.refresh_changes ..))
  · exact .ite (State.setPhase_changes ..).within (.ite (State.setSc_changes ..).within (.refl ..))

/-- A pause for a cause leaves what was counted before. -/
theorem Counted.pauseFor {r : Reg} {t : State} (h : Counted r n s t) (cause : Nat) (p : Pause)
    (hr : r ∉ Reg.SCN_STATUS :: Reg.SCN_CNT_PAUSE :: motionRegs := by decide) : Counted r n s (t.pauseFor n cause p) := by
  have hc : Changes motionParts (.SCN_STATUS :: .SCN_CNT_PAUSE :: motionRegs) t (t.pauseFor n cause p) :=
    .andThen (.setFld (.refl ..) ?_) (t.pauseFor_frame n cause p) (fun _ h => h) (List.subset_cons_self ..)
  · exact h.before hc hr
  · match cause with
    | 0 | 1 | 2 | _ + 3 => exact List.mem_cons_self

/-- The cause of a pause is shown. -/
theorem State.cause_pauseFor (s : State) (n : Nat) {cause : Nat} (p : Pause) (hf : (causeField cause).still := by decide)
    (hlo : (causeField cause).lo + (causeField cause).width ≤ 32 := by decide) (hv : 1 < 2 ^ (causeField cause).width := by decide) :
    (s.pauseFor n cause p).flag (causeField cause) n :=
  ((State.pauseFor_motion ..).flag hf).trans (State.flag_setFld _ _ _ hlo hv)

end

section
variable {s : State} {n : Nat}

/-! ## What a pause that ends and an emission that changes leave (R285, R335) -/

theorem State.want_preCode (s : State) (n : Nat) : ((s.preCode n).bc n).want = (s.bc n).want := by
  unfold State.preCode
  extract_lets code
  split
  · rfl
  · rw [State.bc_emit, State.bc_setBc]

/-- The gate of a beam changes its pads, not what its channel asks for. -/
theorem State.want_beamGate (s : State) (n : Nat) : ((s.beamGate n).bc n).want = (s.bc n).want := by
  unfold State.beamGate
  extract_lets pad old s1 s2 x s3
  have h1 : s1.bc n = s.bc n := rfl
  split
  · rw [h1]
  · split
    · rw [(State.shEngage_changes ..).bc (by decide), State.bc_emit, State.bc_setBc]
      exact (s1.want_preCode n).trans (congrArg Bch.want h1)
    · rw [(State.shEngage_changes ..).bc (by decide)]
      have h3 : (s3.bc n).want = (s.bc n).want := by
        rw [State.bc_emit, State.bc_setBc, ← h1]
        rfl
      split
      · rw [State.bc_emit, h3]
      · exact h3

theorem State.want_setWant (s : State) (n : Nat) (b : Bool) : ((s.setWant n b).bc n).want = b := by
  rw [State.setWant, State.want_beamGate, State.bc_setBc]

/-- What the motion leaves of an interpreter that is in no pause: none begins, and its state stays shown. -/
theorem State.refresh_unpaused (h : (s.sc n).pause = none) : ((s.refresh n).sc n).pause = none ∧
    (s.refresh n).scnState n = s.scnState n ∧ (s.refresh n).fld F.SCN_STATUS_PSTATE n = s.fld F.SCN_STATUS_PSTATE n := by
  have hrun := State.runPlan_keeps (n := n) (Q := fun t => (t.sc n).pause = none ∧ t.scnState n = s.scnState n ∧
      t.fld F.SCN_STATUS_PSTATE n = s.fld F.SCN_STATUS_PSTATE n) ?begins ?retires ?shows ((s.sc n).plan.length + 2) (s.holdNotReady n)
    ⟨(s.pause_holdNotReady n).trans h, (s.holdNotReady_changes n).fld (by decide) n 0, (s.holdNotReady_changes n).fld (by decide) n 0⟩
  case begins =>
    rintro t p hp - ⟨hnone, -⟩
    rw [hnone] at hp
    exact absurd hp (by simp)
  case retires =>
    rintro t g rest - ⟨hnone, hst, hps⟩
    obtain ⟨hpause, hfld⟩ := t.retire_from n g rest
    exact ⟨hpause.trans hnone, (hfld F.SCN_STATUS_STATE rfl (by decide)).trans hst, (hfld _ rfl (by decide)).trans hps⟩
  case shows =>
    rintro t u hc ⟨hnone, hst, hps⟩
    exact ⟨by rw [hc.sc (by decide), hnone], (hc.fld (by decide) n 0).trans hst, (hc.fld (by decide) n 0).trans hps⟩
  obtain ⟨hnone, hst, hps⟩ := hrun
  have hend := ((s.holdNotReady n).runPlan n ((s.sc n).plan.length + 2)).shEngage_changes n
  exact ⟨by rw [State.refresh, hend.sc (by decide), hnone], (hend.fld (by decide) n 0).trans hst, (hend.fld (by decide) n 0).trans hps⟩

/-- STATE and PSTATE as a pause or its end shows them. -/
def State.pauseShown (s : State) (n st phase : Nat) : State := (s.setFld F.SCN_STATUS_STATE st n).setFld F.SCN_STATUS_PSTATE phase n

theorem State.scnState_pauseShown (s : State) (n : Nat) {st : Nat} (phase : Nat) (h : st < 8) :
    (s.pauseShown n st phase).scnState n = st :=
  (State.fld_setFld_below _ _ _ _ _ _ (by decide) (by decide)).trans (State.scnState_setState _ _ h)

theorem State.pstate_pauseShown (s : State) (n st : Nat) {phase : Nat} (h : phase < 8) :
    (s.pauseShown n st phase).fld F.SCN_STATUS_PSTATE n = phase :=
  (State.fld_setFld_same _ _ _ _ (by decide)).trans (Nat.mod_eq_of_lt h)

/-- A pause with no further cause is over: the rest of the plan runs (R335). -/
theorem State.endPause_over (s : State) (n d t : Nat) {p : Pause} (hp : p.further = false) : ((s.endPause n p d t).sc n).pause = none ∧
    (s.endPause n p d t).scnState n = scnRunning ∧ (s.endPause n p d t).fld F.SCN_STATUS_PSTATE n = 0 := by
  unfold State.endPause
  extract_lets s1 x s2 s3
  have hc : Changes [.beams] [] s2 s3 := State.reRequest_changes ..
  have hpause : (s3.sc n).pause = none := by
    rw [hc.sc (by decide)]
    exact congrArg Scn.pause (State.sc_setSc s1 n _)
  rw [if_neg (by simp [hp])]
  obtain ⟨hnone, hst, hps⟩ := State.refresh_unpaused hpause
  exact ⟨hnone, hst.trans ((hc.fld (by decide) n 0).trans (State.scnState_pauseShown _ _ _ (by decide))),
    hps.trans ((hc.fld (by decide) n 0).trans (State.pstate_pauseShown _ _ _ (by decide)))⟩

end

section
variable {s : State} {n : Nat} {p : Pause}

/-! ## The head at rest, and a re-fire (R335, R336, R339) -/

/-- A pause in PARKED whose cause is left stays there. -/
theorem State.resumeCheck_of_anyCause (h : s.anyCause n) : s.resumeCheck n = s := by
  unfold State.resumeCheck
  extract_lets x
  split
  · rfl
  · exact if_pos (by simp [h])

/-- Nor does a halt that is complete resume. -/
theorem State.resumeCheck_of_halted (h : s.scnState n = scnHalted) : s.resumeCheck n = s := by
  unfold State.resumeCheck
  extract_lets x
  split
  · rfl
  · exact if_pos (by simp [h])

/-- The head at rest for a halt is halted for its cause. -/
theorem State.resumeCheck_parked_halts (s : State) (n : Nat) (hc : p.haltCause ≠ 0) :
    ((s.parked n p).resumeCheck n).scnState n = scnHalted ∧
      ((s.parked n p).resumeCheck n).fld F.SCN_STATUS_HALT_CAUSE n = p.haltCause % 16 := by
  obtain ⟨w, idx, off, hw⟩ := s.parked_halts n p hc
  rw [hw, State.resumeCheck_of_halted (w.scnState_haltAt ..)]
  exact ⟨w.scnState_haltAt .., w.haltCause_haltAt ..⟩

/-- A field of one bit within a field that is 0 is 0. -/
theorem getBits_within_zero {w : Word} {lo width bit : Nat} (h : getBits w lo width = 0) (hlo : lo ≤ bit) (hhi : bit < lo + width) :
    getBits w bit 1 = 0 := by
  apply Nat.eq_of_testBit_eq
  intro k
  have hbit := getBits_testBit w lo width (bit - lo)
  rw [h, Nat.zero_testBit, show lo + (bit - lo) = bit by omega] at hbit
  rw [getBits_testBit, Nat.zero_testBit]
  rcases Nat.eq_zero_or_pos k with rfl | hk
  · simpa [show bit - lo < width by omega] using hbit.symm
  · simp [show ¬ k < 1 by omega]

/-- Any cause is one of the four bits. -/
theorem State.anyCause_of_bit {bit : Nat} (hbit : 6 ≤ bit ∧ bit < 10) (h : getBits (s.rd .SCN_STATUS n) bit 1 ≠ 0) :
    s.anyCause n := by
  obtain ⟨hlo, hhi⟩ := hbit
  rw [State.anyCause, bne_iff_ne]
  exact fun h0 => h (getBits_within_zero h0 hlo hhi)

/-- The causes that do not end as the head comes to rest. -/
theorem State.anyCause_of_flags (h : s.flag F.SCN_STATUS_CAUSE_CLEAR n ∨ s.flag F.SCN_STATUS_CAUSE_LATE n ∨
    s.flag F.SCN_STATUS_CAUSE_REEF n) : s.anyCause n := by
  obtain h | h | h := h
  · exact State.anyCause_of_bit (bit := 6) (by decide) (bne_iff_ne.1 h)
  · exact State.anyCause_of_bit (bit := 7) (by decide) (bne_iff_ne.1 h)
  · exact State.anyCause_of_bit (bit := 8) (by decide) (bne_iff_ne.1 h)

/-- The head at rest for a pause is PARKED. -/
theorem State.parked_parks (s : State) (n : Nat) (hc : ¬ p.haltCause ≠ 0) :
    ((s.parked n p).sc n).pause = some { p with phase := 3, since := s.fine, park := s.restPos n p } ∧
      (s.parked n p).fld F.SCN_STATUS_PSTATE n = 3 := by
  have h : s.parked n p = State.setPhase _ n { p with park := s.restPos n p } 3 := if_neg hc
  rw [h]
  refine ⟨(State.pause_setPhaseAt ..).trans ?_, State.fld_setFld_same _ _ _ _ (by decide)⟩
  split <;> rfl

/-- The re-fire asked for as BACKUP ends (R336). -/
def State.refireAsked (s : State) (n : Nat) (p : Pause) (t : Nat) : Pause :=
  let plain := (t + s.reentryTime n p.vr : Nat) + s.refireDly n
  let tp := (max plain ((t + 50000 : Nat) : Int)).toNat
  let group := decide (s.fld F.BCH_CFG_ROT_GROUP n < 4)
  { p with tp := tp, grant := if group then none else some tp, go := !group && decide ((tp : Int) = plain) }

/-- It is granted at once without a rotation group, and comes 40 µs ahead at the earliest. -/
theorem State.refireAsked_ahead (s : State) (n : Nat) (p : Pause) (t : Nat) : t + 50000 ≤ (s.refireAsked n p t).tp ∧
    (s.refireAsked n p t).grant = if s.fld F.BCH_CFG_ROT_GROUP n < 4 then none else some (s.refireAsked n p t).tp := by
  refine ⟨?_, if_congr (by simp) rfl rfl⟩
  exact Int.ofNat_le.1 ((le_max_right _ _).trans (Int.self_le_toNat _))

end

section
variable {s u : State} {n : Fin 12} {dt : Nat} {p : Pause}

/-! ## Late data and the sub-states of a pause (R313, R316, R335, R336) -/

theorem exec_lateData_late (h : s.beamRuns n) (hu : s.beamThen n dt = u) (hst : u.scnState n = scnRunning)
    (hlate : planEnd (u.sc n).plan < u.fine + 62500) : Answers (exec (.lateData n dt) s) fun t =>
      Counted .SCN_CNT_LATE n u t ∧
      (if (u.sc n).chain ≠ 0 ∨
          (u.sc n).plan.any (fun (g : Seg) => g.kind == SegKind.emit && decide (0 < g.len) && decide (u.fine < g.t0))
        then t.flag F.SCN_STATUS_CAUSE_LATE n
      else (t.sc n).wait = ScnWait.late ∧ t.scnState n = scnWaiting) := by
  have hshort : ¬ (u.scnState n != scnRunning || decide (u.fine + 62500 ≤ planEnd (u.sc n).plan)) = true := by
    simpa [hst] using hlate
  have hrun : exec (.lateData n dt) s = .next _ :=
    congrArg Host.Outcome.next ((State.onBeam_runs _ h hu).trans (if_neg hshort))
  have hcount := u.counted_bump .SCN_CNT_LATE n
  by_cases hpause : (u.sc n).chain ≠ 0 ∨
      (u.sc n).plan.any (fun (g : Seg) => g.kind == SegKind.emit && decide (0 < g.len) && decide (u.fine < g.t0))
  · simp only [if_pos hpause]
    refine ⟨_, hrun.trans (congrArg Host.Outcome.next (if_pos (by simpa using hpause))), ?_⟩
    exact ⟨hcount.pauseFor 1 _, State.cause_pauseFor (cause := 1) _ n _⟩
  · simp only [if_neg hpause]
    refine ⟨_, hrun.trans (congrArg Host.Outcome.next (if_neg (by simpa using hpause))), ?_⟩
    exact ⟨hcount.before ((State.setSc_changes ..).within.op (State.setFld_frame ..) : Changes [.scn] [.SCN_STATUS] _ _) (by decide),
      decide_eq_true ⟨by rw [State.sc_setFld, State.sc_setSc], State.scnState_setState _ _ (by decide)⟩⟩

theorem exec_rampOffEnd_decelerates (h : s.beamRuns n) (hu : s.beamThen n dt = u) (hp : u.pausedIn n p 1) :
    Answers (exec (.rampOffEnd n dt) s) fun t =>
      (t.sc n).pause = some { p with phase := 2, since := u.phaseDue n p, dq := p.qS + p.ramp, dv := p.v } ∧
      t.fld F.SCN_STATUS_PSTATE n = 2 ∧ (t.bc n).want = false ∧ t.fine = max u.fine (u.phaseDue n p) := by
  let w := (u.passTo 0 (u.phaseDue n p)).setPhaseAt n { p with dq := p.qS + p.ramp, dv := p.v } 2 (u.phaseDue n p)
  have hw := w.setWant_changes n false
  refine ⟨w.setWant n false, congrArg Host.Outcome.next (State.phaseEnd_paused _ h hu hp), ?_, ?_, w.want_setWant n false,
    hw.sameFine.trans rfl⟩
  · rw [State.sc_setWant]
    exact State.pause_setPhaseAt ..
  · exact (hw.fld (by decide) n 0).trans (State.fld_setFld_same _ _ _ _ (by decide))

theorem exec_decelEnd_rests (h : s.beamRuns n) (hu : s.beamThen n dt = u) (hp : u.pausedIn n p 2) :
    Answers (exec (.decelEnd n dt) s) fun t =>
      t.fine = max u.fine (u.phaseDue n p) ∧
      (if p.haltCause ≠ 0 then t.scnState n = scnHalted ∧ t.fld F.SCN_STATUS_HALT_CAUSE n = p.haltCause % 16
      else u.flag F.SCN_STATUS_CAUSE_CLEAR n ∨ u.flag F.SCN_STATUS_CAUSE_LATE n ∨ u.flag F.SCN_STATUS_CAUSE_REEF n →
        (t.sc n).pause = some { p with phase := 3, since := t.fine, park := u.restPos n p } ∧ t.fld F.SCN_STATUS_PSTATE n = 3) := by
  let w := u.passTo 0 (u.phaseDue n p)
  have hfine : ((w.parked n p).resumeCheck n).fine = max u.fine (u.phaseDue n p) :=
    (State.resumeCheck_changes ..).sameFine.trans ((State.parked_changes ..).sameFine.trans rfl)
  refine ⟨(w.parked n p).resumeCheck n, congrArg Host.Outcome.next (State.phaseEnd_paused _ h hu hp), hfine, ?_⟩
  by_cases hc : p.haltCause ≠ 0
  · rw [if_pos hc]
    exact w.resumeCheck_parked_halts n hc
  · rw [if_neg hc]
    intro hcause
    have hmotion := w.parked_motion n p
    have hstays : (w.parked n p).resumeCheck n = w.parked n p := by
      refine State.resumeCheck_of_anyCause (State.anyCause_of_flags ?_)
      rw [hmotion.flag, hmotion.flag, hmotion.flag]
      exact hcause
    obtain ⟨hpause, hps⟩ := w.parked_parks n hc
    rw [hfine, hstays]
    exact ⟨hpause.trans rfl, hps⟩

theorem exec_backupEnd_asks (h : s.beamRuns n) (hu : s.beamThen n dt = u) (hp : u.pausedIn n p 4) :
    Answers (exec (.backupEnd n dt) s) fun t =>
      t.fine = max u.fine (u.phaseDue n p) ∧
      (if p.haltCause ≠ 0 then t.scnState n = scnHalted ∧ t.fld F.SCN_STATUS_HALT_CAUSE n = p.haltCause % 16
      else t.fld F.SCN_STATUS_PSTATE n = 5 ∧ ∃ q, (t.sc n).pause = some q ∧ q.phase = 5 ∧ q.since = u.phaseDue n p ∧
        u.phaseDue n p + 50000 ≤ q.tp ∧ q.grant = (if u.fld F.BCH_CFG_ROT_GROUP n < 4 then none else some q.tp)) := by
  let due := u.phaseDue n p
  let w := u.passTo 0 due
  by_cases hc : p.haltCause ≠ 0
  · simp only [if_pos hc]
    refine ⟨_, congrArg Host.Outcome.next ((State.phaseEnd_paused _ h hu hp).trans (if_pos hc)), ?_, State.scnState_haltAt ..,
      State.haltCause_haltAt ..⟩
    exact (State.haltAt_changes ..).sameFine.trans rfl
  · simp only [if_neg hc]
    let q := w.refireAsked n p due
    let s1 := w.setPhaseAt n q 5 due
    have hrot : Changes [.beams] [] s1 (if decide (w.fld F.BCH_CFG_ROT_GROUP n < 4) then s1.rotRequest n q.tp true else s1) :=
      .ite (State.rotRequest_changes ..) (.refl ..)
    obtain ⟨hahead, hgrant⟩ := w.refireAsked_ahead n p due
    refine ⟨_, congrArg Host.Outcome.next ((State.phaseEnd_paused _ h hu hp).trans (if_neg hc)), hrot.sameFine.trans rfl,
      (hrot.fld (by decide) n 0).trans (State.fld_setFld_same _ _ _ _ (by decide)), { q with phase := 5, since := due }, ?_, rfl, rfl,
      hahead, hgrant⟩
    exact (congrArg Scn.pause (hrot.sc (by decide) n)).trans (State.pause_setPhaseAt ..)

theorem exec_refireHoldEnd_goes (h : s.beamRuns n) (hu : s.beamThen n dt = u) (hp : u.pausedIn n p 5) (hgo : p.go = false)
    (hgrant : p.grant.isSome) : Answers (exec (.refireHoldEnd n dt) s) fun t =>
      (t.sc n).pause = some { p with go := true, since := u.phaseDue n p } ∧ t.fine = max u.fine (u.phaseDue n p) := by
  have hnot : ¬ (p.go || p.grant.isNone) = true := by
    rw [hgo, Bool.false_or, Option.isNone_iff_eq_none]
    exact Option.isSome_iff_ne_none.1 hgrant
  obtain ⟨-, -, hphase, -⟩ := (u.pausedIn_iff n p 5).1 hp
  refine ⟨_, congrArg Host.Outcome.next ((State.phaseEnd_paused _ h hu hp).trans (if_neg hnot)), ?_, rfl⟩
  rw [State.pause_setPhaseAt, hphase]

theorem exec_reentryEnd_reaches (h : s.beamRuns n) (hu : s.beamThen n dt = u) (hp : u.pausedIn n p 5) (hgo : p.go)
    (hfurther : p.further = false) : Answers (exec (.reentryEnd n dt) s) fun t =>
      t.fine = max u.fine (u.phaseDue n p) ∧
      (if 0 < p.ramp ∧ (u.sc n).plan.head?.map (fun (g : Seg) => g.kind) = some SegKind.emit then
        (t.sc n).pause = some { p with phase := 6, since := u.phaseDue n p } ∧ t.fld F.SCN_STATUS_PSTATE n = 6 ∧ (t.bc n).want
      else (t.sc n).pause = none ∧ t.scnState n = scnRunning ∧ t.fld F.SCN_STATUS_PSTATE n = 0) := by
  let due := u.phaseDue n p
  let w := u.passTo 0 due
  let emits := ((u.sc n).plan.head?.map (fun (g : Seg) => g.kind == SegKind.emit)).getD false
  have hstarts : ¬ (!p.go) = true := by simp [hgo]
  have hemits : (decide (p.ramp = 0) || !emits) = true ↔
      ¬ (0 < p.ramp ∧ (u.sc n).plan.head?.map (fun (g : Seg) => g.kind) = some SegKind.emit) := by
    unfold emits
    cases (u.sc n).plan.head? <;> simp [imp_iff_not_or, Nat.pos_iff_ne_zero]
  by_cases hramp : 0 < p.ramp ∧ (u.sc n).plan.head?.map (fun (g : Seg) => g.kind) = some SegKind.emit
  · have hw := (w.setPhaseAt n p 6 due).setWant_changes n true
    simp only [if_pos hramp]
    refine ⟨(w.setPhaseAt n p 6 due).setWant n true, congrArg Host.Outcome.next ((State.phaseEnd_paused _ h hu hp).trans
      ((if_neg hstarts).trans (if_neg fun hnot => hemits.1 hnot hramp))), hw.sameFine.trans rfl, ?_, ?_, State.want_setWant ..⟩
    · rw [State.sc_setWant]
      exact State.pause_setPhaseAt ..
    · exact (hw.fld (by decide) n 0).trans (State.fld_setFld_same _ _ _ _ (by decide))
  · simp only [if_neg hramp]
    exact ⟨(w.setWant n emits).endPause n p 0 due, congrArg Host.Outcome.next ((State.phaseEnd_paused _ h hu hp).trans
      ((if_neg hstarts).trans (if_pos (hemits.2 hramp)))),
      (State.endPause_changes ..).sameFine.trans ((State.setWant_changes ..).sameFine.trans rfl), State.endPause_over _ _ _ _ hfurther⟩

theorem exec_rampOnEnd_ends (h : s.beamRuns n) (hu : s.beamThen n dt = u) (hp : u.pausedIn n p 6) (hfurther : p.further = false) :
    Answers (exec (.rampOnEnd n dt) s) fun t =>
      t.fine = max u.fine (u.phaseDue n p) ∧ (t.sc n).pause = none ∧ t.scnState n = scnRunning ∧ t.fld F.SCN_STATUS_PSTATE n = 0 := by
  refine ⟨_, congrArg Host.Outcome.next (State.phaseEnd_paused _ h hu hp), ?_, State.endPause_over _ _ _ _ hfurther⟩
  exact (State.endPause_changes ..).sameFine.trans rfl

theorem exec_rotationHoldEnd_ends {t0 : Nat} (h : s.beamRuns n) (hhold : ((s.beamThen n dt).sc n).holdUntil = some t0) :
    Answers (exec (.rotationHoldEnd n dt) s) fun t =>
      (t.sc n).holdUntil = none ∧ t.fine = max (s.beamThen n dt).fine t0 := by
  let w := ((s.beamThen n dt).passTo 0 t0).refresh n
  refine ⟨w.setSc n { w.sc n with holdUntil := none }, congrArg Host.Outcome.next ((State.onBeam_runs _ h rfl).trans ?_), ?_, ?_⟩
  · dsimp only
    rw [hhold]
  · rw [State.sc_setSc]
  · exact (State.setSc_changes ..).sameFine.trans ((State.refresh_changes ..).sameFine.trans rfl)

end

end
end Sys2Proof.Machine

/-! # Shroud frames and their loss (O58) -/

namespace Sys2Proof.Machine
section
set_option Elab.async false

/-! ## The operations of a Shroud frame (R318 to R325, R338) -/

section
variable {s : State} {n : Nat}

theorem State.sc_shroudLine (s : State) (n : Nat) (body : List Nat) : ∃ l, (s.shroudLine n body).sc n = { s.sc n with line := l } :=
  ⟨_, by rw [State.shroudLine, State.sc_emit, State.sc_setSc]⟩

theorem State.derateSoon_motion (s : State) (n : Nat) (b : Bool) : Motion n s (s.derateSoon n b) :=
  .ite (Motion.refl n s).setFld ((Motion.refl n s).setSc)

/-- The cause TEMP shows in the motion of a beam. -/
theorem State.pauseForTemp_motion (s : State) (n : Nat) (p : Pause) : Motion n s (s.pauseFor n 3 p) :=
  ((Motion.refl n s).setFld (g := causeField 3)).trans (s.pauseFor_motion n 3 p)

theorem State.headTemp_motion (s : State) (n temp : Nat) : Motion n s (s.headTemp n temp) := by
  have hsoon (b : Bool) := s.derateSoon_motion n b
  unfold State.headTemp
  extract_lets limit st der x
  refine .ite (.refl n s) (.ite (.ite (.refl n s) (.ite (Motion.refl n s).setFld ?_)) (.ite (hsoon _) (.refl n s)))
  split
  · exact .ite (.ite (hsoon _) (((Motion.refl n s).op (State.bump_frame ..)).trans (State.pauseForTemp_motion ..))) (hsoon _)
  · exact hsoon _

/-- What a head temperature can change. -/
theorem State.headTemp_frame (s : State) (n temp : Nat) :
    Changes motionParts (.SCN_CNT_TEMP_SPLIT :: .SCN_CNT_PAUSE :: motionRegs) s (s.headTemp n temp) := by
  have hsoon (b : Bool) : Changes motionParts (.SCN_CNT_TEMP_SPLIT :: .SCN_CNT_PAUSE :: motionRegs) s (s.derateSoon n b) :=
    (State.derateSoon_changes ..).within
  unfold State.headTemp
  extract_lets limit st der x
  refine .ite (.refl ..) (.ite (.ite (.refl ..) (.ite (State.setFld_frame ..).within ?_)) (.ite (hsoon _) (.refl ..)))
  split
  · refine .ite (.ite (hsoon _) ?_) (hsoon _)
    exact (((State.bump_frame ..).within.op (State.setFld_frame ..)).op (State.pauseFor_frame _ n 3 _))
  · exact hsoon _

theorem State.headNotReady_motion (s : State) (n : Nat) : Motion n s (s.headNotReady n) :=
  .ite (State.hardHaltActive_motion ..) (.refl n s)

/-- A hard halt is complete at once (R339). -/
theorem State.hardHalt_halts (s : State) (n cause : Nat) :
    ∃ (w : State) (idx off : Nat), s.hardHalt n cause = w.haltAt n cause idx off := by
  unfold State.hardHalt
  dsimp only
  split
  · split <;> exact ⟨_, _, _, rfl⟩
  · exact ⟨_, _, _, rfl⟩

/-- The position of a frame that answers one of the last sent is shown. -/
theorem State.headPosition_shows (j : Nat) {nibs : List (BitVec 4)} (h : (s.sc n).sent.any (fun f => f.seq == nibField nibs 0 1)) :
    (s.headPosition n j nibs).rd .SCN_POS_X n = BitVec.ofNat 32 (nibField nibs 2 6) ∧
      (s.headPosition n j nibs).rd .SCN_POS_Y n = BitVec.ofNat 32 (nibField nibs 8 6) := by
  unfold State.headPosition
  split
  next hnone =>
    rw [List.find?_eq_none] at hnone
    rw [List.any_eq_true] at h
    obtain ⟨f, hf, hseq⟩ := h
    exact absurd hseq (hnone f hf)
  next f hsome =>
    extract_lets x s1 rx ry s2 p
    have h1 : s1.rd .SCN_POS_X n = BitVec.ofNat 32 (nibField nibs 2 6) ∧ s1.rd .SCN_POS_Y n = BitVec.ofNat 32 (nibField nibs 8 6) :=
      ⟨((State.setSc_changes ..).regs _ (by decide) n 0).trans (((State.wr_frame ..).regs _ (by decide) n 0).trans (State.rd_wr_self ..)),
        ((State.setSc_changes ..).regs _ (by decide) n 0).trans (State.rd_wr_self ..)⟩
    split
    · exact h1
    · have hc : Changes [.bch] [] s1 (s2.setBc n { s2.bc n with
          meas := some (p * 65536, j - fineOfNs (s2.fld F.SCN_HEAD_HEAD_LAT n)), newest := some (p * 65536) }) :=
        (State.setBc_changes ..).within.op (State.setBc_changes ..)
      exact ⟨(hc.regs _ (by decide) n 0).trans h1.1, (hc.regs _ (by decide) n 0).trans h1.2⟩

theorem State.goodAt_headPosition (s : State) (n j : Nat) (nibs : List (BitVec 4)) :
    ((s.headPosition n j nibs).sc n).goodAt = (s.sc n).goodAt := by
  unfold State.headPosition
  split
  · rfl
  · extract_lets x s1 rx ry s2 p
    have h1 : (s1.sc n).goodAt = (s.sc n).goodAt := by
      rw [State.sc_setSc]
    have h2 : Changes [.bch] [] s1 s2 := (State.setBc_changes ..).within
    split
    · exact h1
    · rw [State.sc_setBc, h2.sc (by decide), h1]

/-- A good frame: the link is up, and the status of the head is shown (R321). -/
def State.frameTaken (s : State) (n : Nat) (nibs : List (BitVec 4)) : State :=
  let status := nibField nibs 1 1
  let s1 := (s.setSc n { s.sc n with goodAt := s.fine }).setFld F.SCN_STATUS_LINK_UP 1 n
  let s2 := (s1.setFld F.SCN_STATUS_HEAD_READY (status % 2) n).wr .SCN_HEAD_TEMP (BitVec.ofNat 32 (nibField nibs 14 2 + status * 256)) n
  if natBit status 3 then s2.bump .SCN_CNT_SH_REMOTE n else s2

theorem State.sc_frameTaken (s : State) (n : Nat) (nibs : List (BitVec 4)) :
    (s.frameTaken n nibs).sc n = { s.sc n with goodAt := s.fine } := by
  unfold State.frameTaken
  extract_lets status x s1 s2
  have h2 : s2.sc n = { s.sc n with goodAt := s.fine } := by
    rw [State.sc_wr, State.sc_setFld, State.sc_setFld, State.sc_setSc]
  split
  · rw [State.sc_bump, h2]
  · exact h2

theorem State.status_frameTaken (s : State) (n : Nat) (nibs : List (BitVec 4)) :
    (s.frameTaken n nibs).flag F.SCN_STATUS_LINK_UP n ∧ (s.frameTaken n nibs).fld F.SCN_STATUS_HEAD_READY n = nibField nibs 1 1 % 2 := by
  unfold State.frameTaken
  extract_lets status x s1 s2
  have hc : Changes [] [.SCN_HEAD_TEMP, .SCN_CNT_SH_REMOTE] (s1.setFld F.SCN_STATUS_HEAD_READY (status % 2) n)
      (if natBit status 3 then s2.bump .SCN_CNT_SH_REMOTE n else s2) :=
    .ite ((State.wr_frame ..).within.op (State.bump_frame ..)) (State.wr_frame ..).within
  have hready : (s1.setFld F.SCN_STATUS_HEAD_READY (status % 2) n).fld F.SCN_STATUS_HEAD_READY n = status % 2 :=
    (State.fld_setFld_same _ _ _ _ (by decide)).trans (Nat.mod_eq_of_lt (Nat.mod_lt _ (by decide)))
  exact ⟨(hc.flag n).trans ((congrArg (· != 0) ((State.keepsFld_setFld _ _ n 0 (by decide)).fld n 0)).trans
    (State.flag_setFld _ _ _ (by decide) (by decide))), (hc.fld (by decide) n 0).trans hready⟩

/-- What a head says of its temperature, its faults and its READY acts on the program (R322, R338). -/
def State.statusActs (s : State) (n : Nat) (nibs : List (BitVec 4)) : State :=
  let status := nibField nibs 1 1
  let s5 := s.headTemp n (nibField nibs 14 2)
  let s6 := if natBit status 1 then s5.hardHaltActive n 6 else s5
  if natBit status 0 then s6 else s6.headNotReady n

theorem State.statusActs_motion (s : State) (n : Nat) (nibs : List (BitVec 4)) : Motion n s (s.statusActs n nibs) := by
  unfold State.statusActs
  extract_lets status s5 s6
  have h5 : Motion n s s5 := s.headTemp_motion ..
  have h6 : Motion n s s6 := .ite (h5.trans (State.hardHaltActive_motion ..)) h5
  exact .ite h6 (h6.trans (State.headNotReady_motion ..))

theorem State.statusActs_frame (s : State) (n : Nat) (nibs : List (BitVec 4)) :
    Changes motionParts (.SCN_CNT_TEMP_SPLIT :: .SCN_CNT_PAUSE :: motionRegs) s (s.statusActs n nibs) := by
  have hhalt (t : State) (cause : Nat) :
      Changes motionParts (.SCN_CNT_TEMP_SPLIT :: .SCN_CNT_PAUSE :: motionRegs) t (t.hardHaltActive n cause) :=
    .ite (State.hardHalt_changes ..).within (.refl ..)
  unfold State.statusActs
  extract_lets status s5 s6
  have h5 : Changes motionParts (.SCN_CNT_TEMP_SPLIT :: .SCN_CNT_PAUSE :: motionRegs) s s5 := s.headTemp_frame ..
  have h6 : Changes motionParts (.SCN_CNT_TEMP_SPLIT :: .SCN_CNT_PAUSE :: motionRegs) s s6 := .ite (h5.trans (hhalt ..)) h5
  exact .ite h6 (h6.trans (.ite (hhalt ..) (.refl ..)))

end

/-! ## Shroud frames and their loss (R318 to R322, R325) -/

section
variable {s u : State} {n : Fin 12} {dt : Nat}

theorem exec_shroudFrameSend_sends (h : s.beamRuns n) (hu : s.beamThen n (max dt (s.nextFrame n - s.fine)) = u)
    (hdom : u.domOn (shroudDom n)) (hst : u.scnState n ≠ scnStopped ∧ u.scnState n ≠ scnDone) :
    Answers (exec (.shroudFrameSend n dt) s) fun t =>
      (t.sc n).seq = ((u.sc n).seq + 1) % 16 ∧ ((t.sc n).cmdX, (t.sc n).cmdY, (t.sc n).cmdZ) = (u.gridCommand n (u.bedPoint n)).1 ∧
      ∃ f, (t.sc n).sent.head? = some f ∧ f.seq = (t.sc n).seq ∧ f.inst = u.fine ∧ f.s = u.layerPath n := by
  have hvalid : (!(u.scnState n == scnStopped || u.scnState n == scnDone)) = true := by simp [hst]
  refine ⟨_, congrArg Host.Outcome.next ((State.onBeam_runs _ h hu).trans (if_neg (by simp [hdom]))), ?_⟩
  extract_lets st valid x pt c q s1 seq un f s2 ctrl body s3
  have hq : q = c.1 := if_pos hvalid
  have hsc : s3.sc n = { x with seq := seq, cmdX := q.1, cmdY := q.2.1, cmdZ := q.2.2, sent := (f :: x.sent).take 16 } := by
    rw [State.sc_emit, (State.pathValues_changes ..).sc (by decide), State.sc_setSc]
  obtain ⟨l, hline⟩ := s3.sc_shroudLine n (body ++ nibbles 3 (crc12 body))
  beta_reduce
  rw [hline, hsc]
  exact ⟨rfl, congrArg (fun q : Int × Int × Int => (q.1, q.2.1, q.2.2)) hq, f, rfl, rfl, rfl, rfl⟩

theorem exec_shroudFrameReceived_takes {groups : List (BitVec 5)} {nibs : List (BitVec 4)} (h : s.beamRuns n)
    (hu : s.beamThen n dt = u) (hdom : u.domOn (shroudDom n)) (hsync : (u.sc n).synced) (hgood : goodFrame groups = some nibs) :
    exec (.shroudFrameReceived n dt groups) s =
      .next (((u.frameTaken n nibs).headPosition n (u.fine - 1250) nibs).statusActs n nibs) := by
  refine congrArg Host.Outcome.next ((State.onBeam_runs _ h hu).trans ((if_neg (by simp [hdom])).trans ?_))
  rw [hgood]
  dsimp only
  rw [if_pos hsync, if_neg (by simp [hsync])]
  rfl

theorem exec_shroudFrameReceived_good {groups : List (BitVec 5)} {nibs : List (BitVec 4)} (h : s.beamRuns n) (hu : s.beamThen n dt = u)
    (hdom : u.domOn (shroudDom n)) (hsync : (u.sc n).synced) (hgood : goodFrame groups = some nibs) :
    Answers (exec (.shroudFrameReceived n dt groups) s) fun t =>
      (t.sc n).goodAt = u.fine ∧ t.flag F.SCN_STATUS_LINK_UP n ∧ t.fld F.SCN_STATUS_HEAD_READY n = nibField nibs 1 1 % 2 ∧
      ((u.sc n).sent.any (fun f => f.seq == nibField nibs 0 1) → t.rd .SCN_POS_X n = BitVec.ofNat 32 (nibField nibs 2 6) ∧
        t.rd .SCN_POS_Y n = BitVec.ofNat 32 (nibField nibs 8 6)) := by
  let w := u.frameTaken n nibs
  let v := w.headPosition n (u.fine - 1250) nibs
  have hsc : w.sc n = { u.sc n with goodAt := u.fine } := u.sc_frameTaken n nibs
  have hpos := w.headPosition_changes n (u.fine - 1250) nibs
  have hmotion := v.statusActs_motion n nibs
  have hframe := v.statusActs_frame n nibs
  obtain ⟨hup, hready⟩ := u.status_frameTaken n nibs
  refine ⟨v.statusActs n nibs, exec_shroudFrameReceived_takes h hu hdom hsync hgood, ?_, ?_, ?_, fun hsent => ?_⟩
  · have hgood : (v.sc n).goodAt = u.fine := (w.goodAt_headPosition ..).trans ((congrArg Scn.goodAt hsc).trans rfl)
    exact (Scn.same_of_feed Scn.goodAt (fun _ => rfl) hmotion.feed).trans hgood
  · rw [hmotion.flag, hpos.flag]
    exact hup
  · rw [hmotion.fld _ (by decide), hpos.fld (by decide)]
    exact hready
  · have hsame : (w.sc n).sent = (u.sc n).sent := (congrArg Scn.sent hsc).trans rfl
    rw [hframe.regs _ (by decide), hframe.regs _ (by decide)]
    exact State.headPosition_shows _ (by rw [hsame, hsent])

theorem exec_shroudFrameReceived_bad {groups : List (BitVec 5)} (h : s.beamRuns n) (hu : s.beamThen n dt = u)
    (hdom : u.domOn (shroudDom n)) (hsync : (u.sc n).synced) (hbad : goodFrame groups = none) :
    exec (.shroudFrameReceived n dt groups) s = .next (u.bump .SCN_CNT_SH_CRC n) := by
  refine congrArg Host.Outcome.next ((State.onBeam_runs _ h hu).trans ((if_neg (by simp [hdom])).trans ?_))
  rw [hbad]
  exact if_pos hsync

theorem exec_shroudSyncLost_loses (h : s.beamRuns n) (hsync : (s.sc n).synced) : Answers (exec (.shroudSyncLost n) s) fun t =>
    (t.sc n).synced = false ∧ Counted .SCN_CNT_SH_SYNC n s t := by
  simp only [State.beamRuns, Bool.and_eq_true] at h
  obtain ⟨hbeam, hready⟩ := h
  refine ⟨_, congrArg Host.Outcome.next (if_pos (by simp [hbeam, hready, hsync])), ?_,
    (State.counted_bump ..).after (State.setSc_changes ..) (by decide)⟩
  rw [State.sc_bump, State.sc_setSc]

theorem State.fine_beamThen (s : State) (n dt : Nat) : (s.beamThen n dt).fine = s.fine + dt := (State.refresh_changes ..).sameFine

theorem exec_shroudLost_downs (h : s.beamRuns n) (hup : s.flag F.SCN_STATUS_LINK_UP n)
    (hu : s.beamThen n (max dt ((s.sc n).goodAt + fineOfUs (atLeast1 (s.fld F.SCN_HEAD_LOST_TIME n)) - s.fine)) = u) :
    Answers (exec (.shroudLost n dt) s) fun t =>
      t.flag F.SCN_STATUS_LINK_UP n = false ∧ (s.sc n).goodAt + fineOfUs (atLeast1 (s.fld F.SCN_HEAD_LOST_TIME n)) ≤ t.fine ∧
      (u.scnState n = scnRunning ∨ u.scnState n = scnWaiting ∨ u.scnState n = scnPaused →
        t.scnState n = scnHalted ∧ t.fld F.SCN_STATUS_HALT_CAUSE n = 5) := by
  let lost := (s.sc n).goodAt + fineOfUs (atLeast1 (s.fld F.SCN_HEAD_LOST_TIME n))
  obtain ⟨hbeam, hready⟩ := Bool.and_eq_true_iff.1 h
  have hdue : (if s.hasBeam n && s.ready && s.flag F.SCN_STATUS_LINK_UP n then max dt (lost - s.fine) else dt) = max dt (lost - s.fine) :=
    if_pos (by simp [hbeam, hready, hup])
  have hfine : lost ≤ u.fine := by
    rw [← hu, State.fine_beamThen]
    omega
  have hupNow : u.flag F.SCN_STATUS_LINK_UP n = true := by
    rw [← hu]
    exact ((State.refresh_motion ..).flag).trans hup
  have hdown : (u.setFld F.SCN_STATUS_LINK_UP 0 n).flag F.SCN_STATUS_LINK_UP n = false := State.flag_setFld _ _ _ (by decide) (by decide)
  have hst : (u.setFld F.SCN_STATUS_LINK_UP 0 n).scnState n = u.scnState n := (State.keepsFld_setFld _ _ n 0 (by decide)).fld n 0
  have hrun : exec (.shroudLost n dt) s = .next _ :=
    congrArg Host.Outcome.next ((congrArg (s.onBeam n · _) hdue).trans ((State.onBeam_runs _ h hu).trans (if_neg (by simp [hupNow]))))
  by_cases hwork : u.scnState n = scnRunning ∨ u.scnState n = scnWaiting ∨ u.scnState n = scnPaused
  · obtain ⟨w, idx, off, hw⟩ := (u.setFld F.SCN_STATUS_LINK_UP 0 n).hardHalt_halts n 5
    refine ⟨_, hrun.trans (congrArg Host.Outcome.next (if_pos (by simpa [hst, or_assoc] using hwork))), ?_, ?_, fun _ => ?_⟩
    · exact ((State.hardHalt_motion ..).flag).trans hdown
    · rw [(State.hardHalt_changes ..).sameFine]
      exact hfine
    · rw [hw]
      exact ⟨State.scnState_haltAt .., State.haltCause_haltAt ..⟩
  · exact ⟨_, hrun.trans (congrArg Host.Outcome.next (if_neg (by simpa [hst, or_assoc] using hwork))), hdown, hfine,
      fun hnot => absurd hnot hwork⟩

end

end
end Sys2Proof.Machine

/-! # The clearance check (O58) -/

namespace Sys2Proof.Machine
section
set_option Elab.async false

/-! ## The clearance check (R330 to R333) -/

section
variable {s t : State} {n m : Nat}

theorem State.pauseFor_elsewhere (s : State) (n cause : Nat) (p : Pause) : Elsewhere n s (s.pauseFor n cause p) :=
  (s.setFld_elsewhere ..).trans (State.pauseFor_motion ..).toElsewhere

theorem State.clearCause_elsewhere (s : State) (n cause : Nat) : Elsewhere n s (s.clearCause n cause) :=
  .ite ((s.setFld_elsewhere ..).trans (State.resumeCheck_motion ..).toElsewhere) (.refl n s)

theorem State.clearancePause_elsewhere (s : State) (n : Nat) : Elsewhere n s (s.clearancePause n) := by
  unfold State.clearancePause
  extract_lets tc x s1 _
  have h1 : Elsewhere n s s1 := (s.bump_elsewhere ..).trans (State.setSc_elsewhere ..)
  have hpause (p : Pause) := h1.trans (s1.pauseFor_elsewhere n 0 p)
  refine .ite (.refl n s) ?_
  split
  · exact hpause _
  · exact .ite (hpause _) (.ite (hpause _) ((h1.trans (State.bump_elsewhere ..)).trans (State.pauseFor_elsewhere ..)))

theorem State.checkBeam_elsewhere (s : State) (n : Nat) (yields blocked : Bool) : Elsewhere n s (s.checkBeam n yields blocked) := by
  unfold State.checkBeam
  extract_lets k x s1
  have h1 : Elsewhere n s s1 := State.setSc_elsewhere ..
  exact .ite (.ite (h1.trans (State.clearCause_elsewhere ..)) h1) (.ite (State.clearancePause_elsewhere ..) (.refl n s))

/-- A beam that yields is paused for CLEARANCE. -/
theorem State.checkBeam_yields (blocked : Bool) (h : s.flag F.SCN_STATUS_CAUSE_CLEAR n = false) :
    (s.checkBeam n true blocked).flag F.SCN_STATUS_CAUSE_CLEAR n := by
  have hpause (w : State) (p : Pause) : (w.pauseFor n 0 p).flag F.SCN_STATUS_CAUSE_CLEAR n := w.cause_pauseFor n (cause := 0) p
  have hset : (s.clearancePause n).flag F.SCN_STATUS_CAUSE_CLEAR n := by
    unfold State.clearancePause
    extract_lets tc x s1 _
    rw [if_neg (by simp [h])]
    split
    · exact hpause _ _
    · extract_lets
      split_ifs <;> exact hpause _ _
  unfold State.checkBeam
  rw [if_neg (by simp [h]), if_pos rfl]
  exact hset

/-- A beam so paused that is blocked stays so, and its clear checks start anew. -/
theorem State.checkBeam_blocked (yields : Bool) (h : s.flag F.SCN_STATUS_CAUSE_CLEAR n) :
    (s.checkBeam n yields true).flag F.SCN_STATUS_CAUSE_CLEAR n ∧ ((s.checkBeam n yields true).sc n).clears = 0 := by
  have hblocked : s.checkBeam n yields true = s.setSc n { s.sc n with clears := 0 } :=
    (if_pos h).trans (if_neg (by simp [atLeast1_eq_max]))
  rw [hblocked, State.sc_setSc]
  exact ⟨h, rfl⟩

/-- Interpreter `n` and what SCN_STATUS shows of it are the same in both states. -/
structure SameAt (n : Nat) (s t : State) : Prop where
  sc : t.sc n = s.sc n
  status : ∀ j, t.rd .SCN_STATUS n j = s.rd .SCN_STATUS n j

theorem Elsewhere.sameAt (h : Elsewhere m s t) (hn : n ≠ m) : SameAt n s t := ⟨h.sc n hn, fun j => h.status n j hn⟩

theorem SameAt.trans {u : State} (h : SameAt n s t) (k : SameAt n t u) : SameAt n s u :=
  ⟨k.sc.trans h.sc, fun j => (k.status j).trans (h.status j)⟩

theorem SameAt.fld (h : SameAt n s t) {f : Fld} (hf : f.reg = .SCN_STATUS := by rfl) : t.fld f n = s.fld f n := by
  unfold State.fld
  rw [hf, h.status]

theorem SameAt.flag (h : SameAt n s t) {f : Fld} (hf : f.reg = .SCN_STATUS := by rfl) : t.flag f n = s.flag f n :=
  congrArg (· != 0) (h.fld hf)

theorem State.checkAt_checkBeams (s : State) (l : List (Nat × Bool × Bool)) : (s.checkBeams l).beams.checkAt = s.beams.checkAt := by
  induction l generalizing s with
  | nil => rfl
  | cons b rest ih =>
    obtain ⟨m, y, b⟩ := b
    have hstep : Elsewhere m s (if s.hasBeam m then s.checkBeam m y b else s) := .ite (State.checkBeam_elsewhere ..) (.refl m s)
    exact (ih _).trans hstep.checkAt

/-- The check of the other beams leaves a beam as it is. -/
theorem State.checkBeams_sameAt (s : State) (l : List (Nat × Bool × Bool)) (h : n ∉ l.map Prod.fst) : SameAt n s (s.checkBeams l) := by
  induction l generalizing s with
  | nil => exact ⟨rfl, fun _ => rfl⟩
  | cons b rest ih =>
    obtain ⟨m, y, b⟩ := b
    simp only [List.map_cons, List.mem_cons, not_or] at h
    have hstep : Elsewhere m s (if s.hasBeam m then s.checkBeam m y b else s) := .ite (State.checkBeam_elsewhere ..) (.refl m s)
    exact (hstep.sameAt h.1).trans (ih _ h.2)

/-- Each beam is checked in a state in which it is as it was before the check. -/
theorem State.checkBeams_checks (s : State) (l : List (Nat × Bool × Bool)) {y b : Bool} (hl : (l.map Prod.fst).Nodup)
    (hmem : (n, y, b) ∈ l) (hbeam : s.hasBeam n) : ∃ w, SameAt n s w ∧ SameAt n (w.checkBeam n y b) (s.checkBeams l) := by
  induction l generalizing s with
  | nil => exact absurd hmem (List.not_mem_nil)
  | cons c rest ih =>
    simp only [List.map_cons, List.nodup_cons] at hl
    obtain ⟨hhead, htail⟩ := hl
    obtain rfl | hrest := List.mem_cons.1 hmem
    · refine ⟨s, ⟨rfl, fun _ => rfl⟩, ?_⟩
      have hstep : s.checkBeams ((n, y, b) :: rest) = (s.checkBeam n y b).checkBeams rest :=
        congrArg (State.checkBeams · rest) (if_pos hbeam)
      exact hstep ▸ State.checkBeams_sameAt _ _ hhead
    · obtain ⟨m, y', b'⟩ := c
      have hne : n ≠ m := fun h => hhead (List.mem_map.2 ⟨_, hrest, h⟩)
      have hstep : Elsewhere m s (if s.hasBeam m then s.checkBeam m y' b' else s) := .ite (State.checkBeam_elsewhere ..) (.refl m s)
      have hkept : (if s.hasBeam m then s.checkBeam m y' b' else s).hasBeam n := by
        have hc : Changes [.outbox, .sht, .bch, .beams, .scn, .hal] allRegs s (if s.hasBeam m then s.checkBeam m y' b' else s) :=
          .ite (State.checkBeam_changes ..) (.refl ..)
        rw [State.hasBeam, hc.parts .variant (by decide)]
        exact hbeam
      obtain ⟨w, hw, hcheck⟩ := ih _ htail hrest hkept
      exact ⟨w, (hstep.sameAt hne).trans hw, hcheck⟩

end

theorem exec_clearanceCheck_checks {dt : Nat} {s u : State} (hready : s.ready) (hu : (s.passTo dt s.beams.checkAt).refreshAll = u) :
    Answers (exec (.clearanceCheck dt) s) fun t =>
      t.fine = max (s.fine + dt) s.beams.checkAt ∧ t.beams.checkAt = t.fine + 1250 ∧ ∀ n < 12, u.hasBeam n →
      (u.flag F.SCN_STATUS_CAUSE_CLEAR n = false → n ∈ u.yielding → t.flag F.SCN_STATUS_CAUSE_CLEAR n) ∧
      (u.flag F.SCN_STATUS_CAUSE_CLEAR n → u.blocked n → t.flag F.SCN_STATUS_CAUSE_CLEAR n ∧ (t.sc n).clears = 0) := by
  let v : State := { u with beams := { u.beams with checkAt := u.fine + 1250 } }
  let l := (List.range 12).map (fun n => (n, u.yielding.contains n, u.blocked n))
  have hrefresh := (s.passTo dt s.beams.checkAt).refreshAll_changes
  rw [hu] at hrefresh
  have hfine : u.fine = max (s.fine + dt) s.beams.checkAt := hrefresh.sameFine.trans rfl
  have hup : u.ready = true := (hrefresh.flag 0).trans hready
  have hrun : exec (.clearanceCheck dt) s = .next (v.checkBeams l) := by
    show execClearanceCheck dt s = _
    unfold execClearanceCheck
    rw [if_pos hready, hu]
    exact congrArg Host.Outcome.next (if_neg (by simp [hup]))
  have hend : (v.checkBeams l).fine = u.fine := (State.checkBeams_changes ..).sameFine
  refine ⟨_, hrun, hend.trans hfine, ?_, fun n hn hbeam => ?_⟩
  · rw [State.checkAt_checkBeams, hend]
  · obtain ⟨w, hw, hcheck⟩ := v.checkBeams_checks l (n := n) (y := u.yielding.contains n) (b := u.blocked n)
      (by simp [l, Function.comp_def, List.nodup_range]) (List.mem_map.2 ⟨n, List.mem_range.2 hn, rfl⟩) hbeam
    have hflag : w.flag F.SCN_STATUS_CAUSE_CLEAR n = u.flag F.SCN_STATUS_CAUSE_CLEAR n := hw.flag
    rw [hcheck.flag, hcheck.sc]
    refine ⟨fun hclear hyield => ?_, fun hclear hblocked => ?_⟩
    · rw [List.contains_iff_mem.2 hyield]
      exact State.checkBeam_yields _ (hflag.trans hclear)
    · rw [hblocked]
      exact State.checkBeam_blocked _ (hflag.trans hclear)

end
end Sys2Proof.Machine

/-! # Fiducial records (O58) -/

namespace Sys2Proof.Machine
section
set_option Elab.async false

/-! ## Fiducial records (R327, R328) -/

theorem Cal.w_add (c : Cal) (node w m : Nat) (ex ey : Int) :
    (tblGet {} (c.add node w ex ey).acc m).w = (tblGet {} c.acc m).w + if m = node then w else 0 := by
  unfold Cal.add
  dsimp only
  rw [tblGet_set]
  split
  next h => rw [h]
  next => rfl

/-- The fiducial record as the updater takes it. -/
theorem State.calTakes_eq (s : State) (r : List Byte) : s.calTakes r = (s.ready && r.length == 32 && crc16 (r.take 30) == fieldLE r 30 2 &&
    fieldLE r 0 1 == 2 && s.hasBeam (fieldLE r 1 1) && decide (fieldLE r 1 1 < 12) && s.flag F.SCN_CFG_CAL_EN (fieldLE r 1 1) &&
    decide (fieldLE r 8 2 < 256) && !natBit (fieldLE r 2 2) 0 && !natBit (fieldLE r 2 2) 7 && !natBit (fieldLE r 2 2) 8 &&
    decide (s.fld F.SCN_CAL_LIMIT_Q_MIN ≤ fieldLE r 10 2)) := by
  rw [State.calTakes, Bool.and_right_comm _ (decide (fieldLE r 1 1 < 12))]

theorem exec_calibRecord_discards {record : List Byte} {s : State} (hready : s.ready) (h : s.calTakes record = false) :
    exec (.calibRecord record) s = .next (s.bump .SCN_CNT_CAL_DISCARD) := by
  rw [State.calTakes_eq] at h
  exact congrArg Host.Outcome.next ((if_pos (by rw [h]; rfl)).trans (if_pos hready))

/-- The weight that a fiducial adds to corner `i`, `j` of the cell around its mark (R328). -/
def cornerWeight (step a b i j : Nat) : Nat := (cornerPart step a i * cornerPart step b j * 2 ^ 32 + step * step / 2) / (step * step)

/-- The four corners of a cell get their weights. -/
def Cal.addCell (c : Cal) (step a b : Nat) (k : Nat → Nat → Nat) (ex ey : Int) : Cal :=
  (((c.add (k 0 0) (cornerWeight step a b 0 0) ex ey).add (k 1 0) (cornerWeight step a b 1 0) ex ey).add
    (k 0 1) (cornerWeight step a b 0 1) ex ey).add (k 1 1) (cornerWeight step a b 1 1) ex ey

theorem Cal.w_addCell (c : Cal) (step a b base x y : Nat) (ex ey : Int) {i j : Nat} (hi : i < 2) (hj : j < 2) :
    (tblGet {} (c.addCell step a b (fun i j => base + 65 * (y + j) + x + i) ex ey).acc (base + 65 * (y + j) + x + i)).w =
      (tblGet {} c.acc (base + 65 * (y + j) + x + i)).w + cornerWeight step a b i j := by
  unfold Cal.addCell
  simp only [Cal.w_add]
  interval_cases i <;> interval_cases j <;> simp <;> omega

/-- A fiducial that the updater takes adds its weights around its mark. -/
theorem exec_calibRecord_adds {record : List Byte} {cx cy : Nat × Nat × Bool} {h step : Nat} {s : State} (htakes : s.calTakes record)
    (hh : fieldLE record 1 1 = h) (hstep : atLeast1 (s.rd .SCN_GRID_STEP h).toNat = step)
    (hcx : axisCell (s.memRd (0x00410000 + 0x800 * h + 8 * fieldLE record 8 2)).toInt (s.sgn .SCN_GRID_X0 h) step = cx)
    (hcy : axisCell (s.memRd (0x00410000 + 0x800 * h + 8 * fieldLE record 8 2 + 4)).toInt (s.sgn .SCN_GRID_Y0 h) step = cy) :
    ∃ ex ey : Int, exec (.calibRecord record) s = .next (({ s with cal :=
      (s.cal.addCell step cx.2.1 cy.2.1 (fun i j => h * 4225 + 65 * (cy.1 + j) + cx.1 + i) ex ey) } : State).bump .SCN_CNT_CAL_USED) := by
  subst hh hstep hcx hcy
  rw [State.calTakes_eq] at htakes
  exact ⟨_, _, congrArg Host.Outcome.next (if_neg (by rw [htakes]; decide))⟩

theorem exec_calibRecord_counts {record : List Byte} {cx cy : Nat × Nat × Bool} {h step : Nat} {s : State} (htakes : s.calTakes record)
    (hh : fieldLE record 1 1 = h) (hstep : atLeast1 (s.rd .SCN_GRID_STEP h).toNat = step)
    (hcx : axisCell (s.memRd (0x00410000 + 0x800 * h + 8 * fieldLE record 8 2)).toInt (s.sgn .SCN_GRID_X0 h) step = cx)
    (hcy : axisCell (s.memRd (0x00410000 + 0x800 * h + 8 * fieldLE record 8 2 + 4)).toInt (s.sgn .SCN_GRID_Y0 h) step = cy) :
    Answers (exec (.calibRecord record) s) fun t =>
      Counted .SCN_CNT_CAL_USED 0 s t ∧ ∀ i < 2, ∀ j < 2, (tblGet {} t.cal.acc (h * 4225 + 65 * (cy.1 + j) + cx.1 + i)).w =
      (tblGet {} s.cal.acc (h * 4225 + 65 * (cy.1 + j) + cx.1 + i)).w +
        (cornerPart step cx.2.1 i * cornerPart step cy.2.1 j * 2 ^ 32 + step * step / 2) / (step * step) := by
  obtain ⟨ex, ey, hexec⟩ := exec_calibRecord_adds htakes hh hstep hcx hcy
  refine ⟨_, hexec, State.counted_bump .., fun i hi j hj => ?_⟩
  exact s.cal.w_addCell step cx.2.1 cy.2.1 (h * 4225) cx.1 cy.1 ex ey hi hj

end
end Sys2Proof.Machine

/-! # Commands of an interpreter (O58) -/

namespace Sys2Proof.Machine
section
set_option Elab.async false

/-! ## Commands of an interpreter (R339, R340, R345, R346) -/

section
variable {s u : State} {who : Requester} {n : Nat}

theorem State.scnCmd_enabled (k : State → State) (h : s.mayWrite who .SCN_CMD n) (hu : s.refresh n = u)
    (hen : u.flag F.SCN_CFG_ENABLE n) : s.scnCmd who n k = k u := by
  rw [State.scnCmd, State.writeGate_may _ h]
  dsimp only
  rw [hu, if_pos hen]

/-- The state from which a HALTED interpreter restarts. -/
def State.restarted (u : State) (n : Nat) : State :=
  (u.setSc n { u.sc n with overflow := false, blocks := [], badBlocks := [] }).setFld F.SCN_STATUS_HALT_CAUSE 0 n

theorem State.sc_restarted (u : State) (n : Nat) :
    (u.restarted n).sc n = { u.sc n with overflow := false, blocks := [], badBlocks := [] } := by
  rw [State.restarted, State.sc_setFld, State.sc_setSc]

theorem State.haltCause_restarted (u : State) (n : Nat) : (u.restarted n).fld F.SCN_STATUS_HALT_CAUSE n = 0 :=
  State.fld_setFld_same _ _ _ _ (by decide)

theorem State.restPoint_restarted (u : State) (n : Nat) : (u.restarted n).restPoint n = u.restPoint n := by
  unfold State.restPoint
  rw [State.sc_restarted]

theorem State.scnRestart_halted (k : State → State) (h : s.mayWrite who .SCN_CMD n) (hu : s.refresh n = u)
    (hen : u.flag F.SCN_CFG_ENABLE n) (hst : u.scnState n = scnHalted) (hgood : u.scnRefused n = false) :
    s.scnRestart who n k = k (u.restarted n) := by
  refine (State.scnCmd_enabled _ h hu hen).trans ((if_neg (by simp [hst])).trans (if_neg (by simp [hgood])))

theorem State.scnRestart_refused (k : State → State) (h : s.mayWrite who .SCN_CMD n) (hu : s.refresh n = u)
    (hen : u.flag F.SCN_CFG_ENABLE n) (hst : u.scnState n = scnHalted) (hbad : u.scnRefused n) :
    s.scnRestart who n k = u.setFld F.SCN_STATUS_CMD_REFUSED 1 n :=
  (State.scnCmd_enabled _ h hu hen).trans ((if_neg (by simp [hst])).trans (if_pos hbad))

/-- The planner of a layer start (R308, R314). -/
theorem State.layerStart_resets (s : State) (n : Nat) : ((s.layerStart n).sc n).plan = (s.sc n).plan ∧
    ((s.layerStart n).sc n).pc = (s.sc n).pc ∧ ((s.layerStart n).sc n).fifo = (s.sc n).fifo ∧ ((s.layerStart n).sc n).nextIdx = 0 ∧
    (s.layerStart n).rd .SCN_RECORD n = 0 := by
  unfold State.layerStart
  extract_lets x s1 b s2
  have hc : Changes [.cap] [] s2 (State.passesZero n (List.range 64) s2) := State.passesZero_changes ..
  have hsc : (State.passesZero n (List.range 64) s2).sc n = s1.sc n := (hc.sc (by decide) n).trans rfl
  have h1 : s1.sc n = { x with
    vMark := 1000 * atLeast1 (s.fld F.SCN_SPEED0_V_MARK0 n), vJump := 1000 * atLeast1 (s.fld F.SCN_SPEED0_V_JUMP0 n),
    nextIdx := 0, sEnd := 0, sDone := 0, chain := 0, done := [], profile := s.fld F.BCH_CFG_DEFAULT_PROFILE n } := State.sc_setSc ..
  rw [hsc, h1]
  refine ⟨rfl, rfl, rfl, rfl, ?_⟩
  exact (hc.regs _ (by decide) n 0).trans (((State.setBc_changes ..).regs _ (by decide) n 0).trans (State.rd_wr_self ..))

/-- The interpreter from which a program starts (R340). -/
def State.startSc (u : State) (n : Nat) : Scn :=
  let x := u.sc n
  { x with plan := [], done := [], pause := none, holdUntil := none, wait := .none, skip := false, words := [],
           overflow := false, blocks := [], badBlocks := [], derateNext := none, px := x.x, py := x.y, pz := x.z,
           pc := (u.rd .SCN_PROG_BASE n).toNat, fifo := if u.flag F.SCN_CFG_SRC n then [] else x.fifo }

theorem State.scnStart_runs (hst : u.scnState n = scnStopped ∨ u.scnState n = scnDone ∨ u.scnState n = scnHalted)
    (hgood : u.scnRefused n = false) : ∃ v, u.scnStart n =
      (((((u.setSc n (u.startSc n)).layerStart n).streamLevel n).wr .SCN_STATUS v n).setFld F.SCN_STATUS_STATE scnRunning n).shEngage n :=
  ⟨_, (if_neg (by simpa [or_iff_not_imp_left] using hst)).trans (if_neg (by simp [hgood]))⟩

/-- START of an interpreter that may start (R340, R345). -/
theorem State.scnStart_starts (hst : u.scnState n = scnStopped ∨ u.scnState n = scnDone ∨ u.scnState n = scnHalted)
    (hgood : u.scnRefused n = false) : (u.scnStart n).scnState n = scnRunning ∧
      ((u.scnStart n).sc n).pc = (u.rd .SCN_PROG_BASE n).toNat ∧ ((u.scnStart n).sc n).plan = [] ∧ ((u.scnStart n).sc n).nextIdx = 0 ∧
      (u.scnStart n).rd .SCN_RECORD n = 0 ∧ (u.flag F.SCN_CFG_SRC n → ((u.scnStart n).sc n).fifo = []) := by
  obtain ⟨v, hv⟩ := State.scnStart_runs hst hgood
  let w := (u.setSc n (u.startSc n)).layerStart n
  let r := (w.streamLevel n).wr .SCN_STATUS v n
  have hc : Changes [.hal] [.SCN_STATUS, .SCN_STREAM_LEVEL, .HAL_CNT_QUEUE_DROP] w (r.setFld F.SCN_STATUS_STATE scnRunning n) :=
    ((State.streamLevel_changes ..).within.op (State.wr_frame ..)).op (State.setFld_frame ..)
  have hend : Changes [.sht, .hal] [.SHT_STATUS, .SHT_I_STATE, .SHT_LAST_OUT, .SHT_LAST_FRAME, .SHT_LAST_DELAY, .SHT_DELAY_MAX,
      .SHT_CNT_FALLBACK, .SHT_CNT_SUPERSEDED, .SHT_CNT_LOG_DROP, .HAL_CNT_QUEUE_DROP] (r.setFld F.SCN_STATUS_STATE scnRunning n)
      (u.scnStart n) := hv ▸ State.shEngage_changes ..
  obtain ⟨hplan, hpc, hfifo, hnext, hrec⟩ := State.layerStart_resets (u.setSc n (u.startSc n)) n
  have hsc : (u.scnStart n).sc n = w.sc n := (hend.sc (by decide) n).trans (hc.sc (by decide) n)
  rw [hsc]
  rw [State.sc_setSc] at hplan hpc hfifo
  exact ⟨(hend.fld (by decide) n 0).trans (State.scnState_setState _ _ (by decide)), hpc, hplan, hnext,
    (hend.regs _ (by decide) n 0).trans ((hc.regs _ (by decide) n 0).trans hrec), fun hsrc => hfifo.trans (if_pos hsrc)⟩

/-- A RESTART at a halt point in motion backs up for the re-entry (R340). -/
def State.backsUp (w : State) (n : Nat) (p : Pause) : State :=
  (w.setFld F.SCN_STATUS_STATE scnPaused n).setPhase n
    { p with vr := (if w.flag F.SCN_STATUS_DERATED n then derated p.vn (w.derate n) else p.v), haltCause := 0, go := false, grant := none,
             ramp := if p.hard then 0 else p.ramp, hard := false } 4

theorem State.backsUp_shown (w : State) (n : Nat) (p : Pause) :
    (w.backsUp n p).fld F.SCN_STATUS_HALT_CAUSE n = w.fld F.SCN_STATUS_HALT_CAUSE n ∧
    (w.backsUp n p).scnState n = scnPaused ∧ (w.backsUp n p).fld F.SCN_STATUS_PSTATE n = 4 := by
  let v := w.setFld F.SCN_STATUS_STATE scnPaused n
  have hphase (f : Fld) (hf : f.besides F.SCN_STATUS_PSTATE) : (w.backsUp n p).fld f n = v.fld f n :=
    (State.keepsFld_setFld _ _ n 0 hf).fld n 0
  exact ⟨(hphase _ (by decide)).trans ((w.keepsFld_setFld _ n 0 (by decide)).fld n 0),
    (hphase F.SCN_STATUS_STATE (by decide)).trans (State.scnState_setState _ _ (by decide)), State.fld_setFld_same _ _ _ _ (by decide)⟩

/-- A RESTART that goes on with a plan, in no pause (R340). -/
def State.goesOn (w : State) (n : Nat) (x : Scn) : State := (w.setSc n x).setFld F.SCN_STATUS_STATE scnRunning n

theorem State.goesOn_shown (w : State) (n : Nat) (x : Scn) :
    (w.goesOn n x).fld F.SCN_STATUS_HALT_CAUSE n = w.fld F.SCN_STATUS_HALT_CAUSE n ∧
    (w.goesOn n x).scnState n = scnRunning ∧ (w.goesOn n x).sc n = x :=
  ⟨(State.keepsFld_setFld _ _ n 0 (by decide)).fld n 0, State.scnState_setState _ _ (by decide), State.sc_setSc ..⟩

theorem State.goesOn_reRequest (w : State) (n : Nat) (x : Scn) :
    ((w.goesOn n x).reRequest n).fld F.SCN_STATUS_HALT_CAUSE n = w.fld F.SCN_STATUS_HALT_CAUSE n ∧
      ((w.goesOn n x).reRequest n).scnState n = scnRunning ∧ ((w.goesOn n x).reRequest n).sc n = x := by
  obtain ⟨hcause, hst, hsc⟩ := w.goesOn_shown n x
  have hc := (w.goesOn n x).reRequest_changes n
  exact ⟨(hc.fld (by decide) n 0).trans hcause, (hc.fld (by decide) n 0).trans hst, (hc.sc (by decide) n).trans hsc⟩

/-- RESTART AT_STOP of a program that may restart. -/
def State.atStop (w : State) (n : Nat) : State :=
  match (w.sc n).pause with
  | some p =>
    if !p.geo.isEmpty && 0 < p.v then w.backsUp n p
    else (w.goesOn n { w.sc n with pause := none, plan := retime (w.derate n) (w.fine + 62500) (w.sc n).plan }).reRequest n
  | none => w.setFld F.SCN_STATUS_STATE scnRunning n

theorem State.atStop_restarts (w : State) (n : Nat) : (w.atStop n).fld F.SCN_STATUS_HALT_CAUSE n = w.fld F.SCN_STATUS_HALT_CAUSE n ∧
    if (w.sc n).pause.any (fun (p : Pause) => !p.geo.isEmpty && decide (0 < p.v)) then
      (w.atStop n).scnState n = scnPaused ∧ (w.atStop n).fld F.SCN_STATUS_PSTATE n = 4
    else (w.atStop n).scnState n = scnRunning ∧ ((w.atStop n).sc n).pause = none := by
  unfold State.atStop
  cases hpause : (w.sc n).pause with
  | none =>
    dsimp only [Option.any_none]
    rw [if_neg (by decide), State.sc_setFld]
    exact ⟨(State.keepsFld_setFld _ _ n 0 (by decide)).fld n 0, State.scnState_setState _ _ (by decide), hpause⟩
  | some p =>
    dsimp only [Option.any_some]
    by_cases hmoves : (!p.geo.isEmpty && decide (0 < p.v)) = true
    · rw [if_pos hmoves, if_pos hmoves]
      exact w.backsUp_shown n p
    · rw [if_neg hmoves, if_neg hmoves]
      obtain ⟨hcause, hst, hsc⟩ := w.goesOn_reRequest n
        { w.sc n with pause := none, plan := retime (w.derate n) (w.fine + 62500) (w.sc n).plan }
      rw [hsc]
      exact ⟨hcause, hst, rfl⟩

/-- The plan from the record that follows the halted one. -/
def State.nextRest (w : State) (n : Nat) : List Seg := (w.sc n).plan.dropWhile (fun g => g.idx == (w.rd .SCN_HALT_RECORD n).toNat)

/-- Where the first move of it begins. -/
def State.nextStart (w : State) (n : Nat) : Int × Int × Int :=
  match (w.nextRest n).find? (fun g => g.kind == .emit || g.kind == .dark) with
  | some g => (g.x0, g.y0, g.z0)
  | none => ((w.sc n).px, (w.sc n).py, (w.sc n).pz)

/-- The jump there from the point where the head rests (R340). -/
def State.nextJump (w : State) (n : Nat) : Seg :=
  let at0 := w.restPoint n
  let dest := w.nextStart n
  { kind := .dark, flag := true, idx := (w.rd .SCN_HALT_RECORD n).toNat, x0 := at0.1, y0 := at0.2.1, z0 := at0.2.2,
    x1 := dest.1, y1 := dest.2.1, z1 := dest.2.2, len := hypot (dest.1 - at0.1) (dest.2.1 - at0.2.1), v := (w.sc n).vJump,
    acc := w.accJump n, settle := w.jumpSettle n, s0 := (w.sc n).sDone }

/-- The interpreter that goes on with it. -/
def State.nextRecordSc (w : State) (n : Nat) : Scn :=
  let at0 := w.restPoint n
  { w.sc n with pause := none, plan := retime (w.derate n) (w.fine + 62500) (w.nextJump n :: w.nextRest n),
                x := at0.1, y := at0.2.1, z := at0.2.2 }

/-- The plan laid out again has the same records. -/
theorem head?_retime (d : Option Nat) (t : Nat) (l : List Seg) : (retime d t l).head?.map Seg.idx = l.head?.map Seg.idx := by
  cases l <;> rfl

/-- Its plan is a jump from the rest point, and then the rest of the plan, of which the halted record is no part. -/
theorem State.plan_nextRecordSc (w : State) (n : Nat) : ∃ g rest, (w.nextRecordSc n).plan = g :: rest ∧ g.kind = SegKind.dark ∧
    (g.x0, g.y0, g.z0) = w.restPoint n ∧ ∀ h ∈ rest.head?, h.idx ≠ (w.rd .SCN_HALT_RECORD n).toNat := by
  refine ⟨_, _, rfl, rfl, rfl, fun g hg => ?_⟩
  have hidx : (w.nextRest n).head?.map Seg.idx = some g.idx := by
    rw [← head?_retime (w.derate n), hg]
    rfl
  obtain ⟨h, hh, hsame⟩ := Option.map_eq_some_iff.1 hidx
  rw [← hsame]
  have hnot := List.head?_dropWhile_not (fun g : Seg => g.idx == (w.rd .SCN_HALT_RECORD n).toNat) (w.sc n).plan
  rw [show ((w.sc n).plan.dropWhile _).head? = some h from hh] at hnot
  simpa using hnot

end

section
variable {s u : State} {who : Requester} {n : Fin 12}

theorem exec_scnStart_starts (h : s.mayWrite who .SCN_CMD n) (hu : s.refresh n = u) (hen : u.flag F.SCN_CFG_ENABLE n)
    (hst : u.scnState n = scnStopped ∨ u.scnState n = scnDone ∨ u.scnState n = scnHalted) :
    Answers (exec (.scnStart who n) s) fun t =>
      (if u.scnRefused n then t = u.setFld F.SCN_STATUS_CMD_REFUSED 1 n
      else t.scnState n = scnRunning ∧ (t.sc n).pc = (s.rd .SCN_PROG_BASE n).toNat ∧ (t.sc n).plan = [] ∧ (t.sc n).nextIdx = 0 ∧
        t.rd .SCN_RECORD n = 0 ∧ (u.flag F.SCN_CFG_SRC n → (t.sc n).fifo = [])) := by
  have hrun : exec (.scnStart who n) s = .next (u.scnStart n) := congrArg Host.Outcome.next (State.scnCmd_enabled _ h hu hen)
  have hbase : u.rd .SCN_PROG_BASE n = s.rd .SCN_PROG_BASE n := hu ▸ (s.refresh_changes n).regs _ (by decide) n 0
  by_cases hbad : u.scnRefused n
  · simp only [if_pos hbad]
    exact ⟨_, hrun, (if_neg (by simpa [or_iff_not_imp_left] using hst)).trans (if_pos hbad)⟩
  · simp only [if_neg hbad]
    rw [← hbase]
    exact ⟨_, hrun, State.scnStart_starts hst (Bool.eq_false_iff.2 hbad)⟩

theorem exec_restartAtStop_restarts (h : s.mayWrite who .SCN_CMD n) (hu : s.refresh n = u) (hen : u.flag F.SCN_CFG_ENABLE n)
    (hst : u.scnState n = scnHalted) : Answers (exec (.restartAtStop who n) s) fun t =>
      (if u.scnRefused n then t = u.setFld F.SCN_STATUS_CMD_REFUSED 1 n
      else t.fld F.SCN_STATUS_HALT_CAUSE n = 0 ∧
        if (u.sc n).pause.any (fun (p : Pause) => !p.geo.isEmpty && decide (0 < p.v)) then
          t.scnState n = scnPaused ∧ t.fld F.SCN_STATUS_PSTATE n = 4
        else t.scnState n = scnRunning ∧ (t.sc n).pause = none) := by
  by_cases hbad : u.scnRefused n
  · simp only [if_pos hbad]
    exact ⟨_, congrArg Host.Outcome.next (State.scnRestart_refused _ h hu hen hst hbad), rfl⟩
  · simp only [if_neg hbad]
    obtain ⟨hcause, hrest⟩ := (u.restarted n).atStop_restarts n
    have hpause : ((u.restarted n).sc n).pause = (u.sc n).pause := (congrArg Scn.pause (u.sc_restarted n)).trans rfl
    rw [hpause] at hrest
    exact ⟨(u.restarted n).atStop n, congrArg Host.Outcome.next (State.scnRestart_halted _ h hu hen hst (Bool.eq_false_iff.2 hbad)),
      hcause.trans (u.haltCause_restarted n), hrest⟩

theorem exec_restartNextRecord_jumps (h : s.mayWrite who .SCN_CMD n) (hu : s.refresh n = u) (hen : u.flag F.SCN_CFG_ENABLE n)
    (hst : u.scnState n = scnHalted) (hgood : u.scnRefused n = false) : Answers (exec (.restartNextRecord who n) s) fun t =>
      t.scnState n = scnRunning ∧ (t.sc n).pause = none ∧ ∃ g rest, (t.sc n).plan = g :: rest ∧ g.kind = SegKind.dark ∧
      (g.x0, g.y0, g.z0) = u.restPoint n ∧ ∀ h ∈ rest.head?, h.idx ≠ (u.rd .SCN_HALT_RECORD n).toNat := by
  let w := u.restarted n
  obtain ⟨-, hrun, hsc⟩ := w.goesOn_reRequest n (w.nextRecordSc n)
  refine ⟨(w.goesOn n (w.nextRecordSc n)).reRequest n,
    congrArg Host.Outcome.next (State.scnRestart_halted _ h hu hen hst hgood), hrun, (congrArg Scn.pause hsc).trans rfl, ?_⟩
  have hpoint : w.restPoint n = u.restPoint n := u.restPoint_restarted n
  have hrecord : w.rd .SCN_HALT_RECORD n = u.rd .SCN_HALT_RECORD n :=
    ((State.setSc_changes ..).within.op (State.setFld_frame ..) : Changes [.scn] [.SCN_STATUS] u w).regs _ (by decide) n 0
  rw [hsc, ← hpoint, ← hrecord]
  exact w.plan_nextRecordSc n

theorem exec_restartNextLayer_skips (h : s.mayWrite who .SCN_CMD n) (hu : s.refresh n = u) (hen : u.flag F.SCN_CFG_ENABLE n)
    (hst : u.scnState n = scnHalted) (hgood : u.scnRefused n = false) : Answers (exec (.restartNextLayer who n) s) fun t =>
      t.scnState n = scnRunning ∧ (t.sc n).pause = none ∧ (t.sc n).plan = [] ∧ (t.sc n).skip ∧
        ((t.sc n).px, (t.sc n).py, (t.sc n).pz) = u.restPoint n := by
  let w := u.restarted n
  let p := w.restPoint n
  obtain ⟨-, hrun, hsc⟩ := w.goesOn_shown n { w.sc n with
    pause := none, plan := [], skip := true, chain := 0, x := p.1, y := p.2.1, z := p.2.2, px := p.1, py := p.2.1, pz := p.2.2 }
  refine ⟨_, congrArg Host.Outcome.next (State.scnRestart_halted _ h hu hen hst hgood), hrun, ?_⟩
  have hpoint : p = u.restPoint n := u.restPoint_restarted n
  rw [← hpoint]
  exact ⟨(congrArg Scn.pause hsc).trans rfl, (congrArg Scn.plan hsc).trans rfl, (congrArg Scn.skip hsc).trans rfl,
    (congrArg (fun x : Scn => (x.px, x.py, x.pz)) hsc).trans rfl⟩

theorem exec_scnStop_halts (h : s.mayWrite who .SCN_CMD n) (hu : s.refresh n = u) (hen : u.flag F.SCN_CFG_ENABLE n)
    (hst : u.scnState n = scnRunning ∨ u.scnState n = scnWaiting ∨ u.scnState n = scnLayerWait ∨ u.scnState n = scnPaused) :
    Answers (exec (.scnStop who n) s) fun t => t.haltsFor n 8 := by
  refine ⟨_, congrArg Host.Outcome.next (State.scnCmd_enabled _ h hu hen), ?_⟩
  exact State.haltsFor_cleanHalt (by tauto) _ _ _ (by decide) (by decide)

theorem exec_pathLoRead_latches (h : s.mayRead who 6 n 1) (hu : s.refresh n = u) : Answers (exec (.pathLoRead who n) s) fun t =>
    Emits [.reply (BitVec.ofNat 32 (u.layerPath n))] u t ∧ t.rd .SCN_PATH_HI n = BitVec.ofNat 32 (u.layerPath n / 2 ^ 32 % 65536) := by
  subst hu
  refine ⟨_, congrArg Host.Outcome.next (State.readGate_may _ h), ?_, ?_⟩
  · exact ((State.journalRead_changes ..).parts .outbox (by decide)).trans rfl
  · exact ((State.journalRead_changes ..).regs _ (by decide) n 0).trans (((State.emit_frame ..).regs _ (by decide) n 0).trans
      (State.rd_wr_self ..))

end

end
end Sys2Proof.Machine

/-! # The motion and coordination commands (O58) -/

namespace Sys2Proof.Machine
section
set_option Elab.async false

/-- Settles O58: each command by the operation it executes to in the state with the beam's motion executed, and what that operation
shows and leaves. -/
theorem scanMotionAndCommands : Obligations.ScanMotionAndCommands := by
  unfold Obligations.ScanMotionAndCommands
  refine ⟨?late, ?rampOff, ?decel, ?backup, ?refire, ?reentry, ?rampOn, ?hold, ?send, ?received, ?bad, ?sync, ?lost, ?clear, ?cal,
    ?discard, ?start, ?stop, ?atStop, ?nextRecord, ?nextLayer, ?path⟩
  case late => exact fun n dt u s h hu hst hlate => exec_lateData_late h hu hst hlate
  case rampOff => exact fun n dt u p s h hu hp => exec_rampOffEnd_decelerates h hu hp
  case decel => exact fun n dt u p s h hu hp _ => exec_decelEnd_rests h hu hp
  case backup => exact fun n dt u p s h hu hp => exec_backupEnd_asks h hu hp
  case refire => exact fun n dt u p s h hu hp ⟨hgo, hgrant⟩ => exec_refireHoldEnd_goes h hu hp hgo hgrant
  case reentry => exact fun n dt u p s h hu hp hgo hfurther => exec_reentryEnd_reaches h hu hp hgo hfurther
  case rampOn => exact fun n dt u p s h hu hp hfurther => exec_rampOnEnd_ends h hu hp hfurther
  case hold => exact fun n dt t0 s h hhold => exec_rotationHoldEnd_ends h hhold
  case send => exact fun n dt u s h hu hdom hst => exec_shroudFrameSend_sends h hu hdom hst
  case received => exact fun n dt groups u nibs s h hu ⟨hdom, hsync⟩ hgood => exec_shroudFrameReceived_good h hu hdom hsync hgood
  case bad => exact fun n dt groups u s h hu ⟨hdom, hsync⟩ hbad => ⟨_, exec_shroudFrameReceived_bad h hu hdom hsync hbad, rfl⟩
  case sync => exact fun n s h hsync => exec_shroudSyncLost_loses h hsync
  case lost => exact fun n dt u s h hup hu => exec_shroudLost_downs h hup hu
  case clear => exact fun dt u s hready hu => exec_clearanceCheck_checks hready hu
  case cal => exact fun record cx cy h step s htakes hh hstep hcx hcy => exec_calibRecord_counts htakes hh hstep hcx hcy
  case discard => exact fun record s hready h => ⟨_, exec_calibRecord_discards hready h, rfl⟩
  case start => exact fun who n u s h hu hen hst => exec_scnStart_starts h hu hen hst
  case stop => exact fun who n u s h hu hen hst => exec_scnStop_halts h hu hen hst
  case atStop => exact fun who n u s h hu hen hst => exec_restartAtStop_restarts h hu hen hst
  case nextRecord => exact fun who n u s h hu hen hst hgood => exec_restartNextRecord_jumps h hu hen hst hgood
  case nextLayer => exact fun who n u s h hu hen hst hgood => exec_restartNextLayer_skips h hu hen hst hgood
  case path => exact fun who n u s h hu => exec_pathLoRead_latches h hu

end
end Sys2Proof.Machine
